-- ==== Sys2Proof/Word.lean ====
section
/-! DEFINITION. The words the block exchanges with its callers, and nothing more: bytes of buffers and
registers of 32 bits (spec 00_scope.md R16, R289). -/
namespace Sys2Proof

/-- One byte of a buffer, a record or an image. -/
abbrev Byte := BitVec 8

/-- One register, or one aligned word of a register block. -/
abbrev Word := BitVec 32

/-- A byte string, first byte first. -/
abbrev Bytes := List Byte

end Sys2Proof
end

