-- ==== Sys2Proof/Syntax.lean ====
section
/-! DEFINITION. The commands: one constructor for each of the 259 rows of spec/opcode_table.json, with the
row's operands. The table gives no row any bits, so operands are what the spec's text says the step depends on:
the object it acts on, a request, and the physical readings the block measures (log 2, log 3). -/
namespace Sys2Proof

/-- A region number (R5): site in [15:11], local index in [10:0], kept as a number. -/
abbrev RegionNo := Nat

/-- A site (R4). -/
abbrev Site := Fin 23

/-- A mailbox request as its caller writes it (R293). `payload` holds LENGTH bytes. `test` says that it came
through the test port (R302). -/
structure Req where
  mbx     : Fin 8
  test    : Bool
  seq     : BitVec 16
  flags   : BitVec 8
  target  : BitVec 16
  payload : Bytes
  deriving DecidableEq, Repr

/-- A part that fails its reset calibration: its samples spread by more than 20 ps twice (R146). A cross-link is named by
the quadrant q whose root it joins to (q + 1) mod 4. -/
inductive CalPart where
  | landing (site : Site) (l : Fin 6)
  | group (site : Site) (g : Fin 7)
  | link (site : Site) (q : Fin 4)
  | backup (site : Site)
  deriving DecidableEq, Repr

/-- What the package finds outside Milbin at the release of PKG_RESET_N: the fuse segment of each site, in site
order (none where the segment does not answer, R371); the UCIe discovery result of slots 19-22 (R400); the four
firmware and the four configuration slots of the boot source (R284, R347); the route parts that fail reset calibration
(R146); and each site's mean temperature in 1/16 K then (R148). -/
structure BootEnv where
  fuses   : List (Option Bytes)
  found   : List Bool
  fw      : List (Option Bytes)
  config  : List (Option Bytes)
  calFail : List CalPart
  temps   : List Int
  deriving DecidableEq, Repr

/-- Why a controller faults (R278), with the CODE of MB_CTL_FAULT (R311). -/
inductive FaultKind where
  | heartbeat | instrEcc | dataEcc | illegal | bus | fatal
  deriving DecidableEq, Repr

/-- Which image a verification is about (R283, R284, R360): the boot source's slots, a copy from the active
controller, or the image a live update has staged. -/
inductive ImageSource where
  | boot | copy | staged
  deriving DecidableEq, Repr

/-- What a region measures at a window boundary: the phase error of the edge nearest the boundary in code units
(R55), the same of its standby twin, the latest ADC sample in mV and the two diode readings in 1/16 degree (R251). -/
structure WinMeas where
  err    : Int
  twinErr : Int
  adc    : Nat
  diode1 : Int
  diode2 : Int
  deriving DecidableEq, Repr

/-- The result of one calibration run of one oscillator (R230, R231): P0, P1 of ranges 0-2 in 1/8 code unit, the
replica's mean completion time d in 1/8 code unit, the mean supply in mV and of how many ADC samples, the mean temperature at start and over
the run, and whether a period measurement held a trip in all its five attempts. -/
structure RunResult where
  periods : List Nat
  d       : Nat
  supply  : Nat
  samples : Nat
  temp    : Int
  moved   : Nat
  tripped : Bool
  deriving DecidableEq, Repr

/-- A reduced run on the active oscillator in gap mode (R243): the measured period in 1/8 code unit, the replica
time, the supply and of how many ADC samples, the temperature and by how many codes it moved. -/
structure ReducedRun where
  period : Nat
  d      : Nat
  supply : Nat
  samples : Nat
  temp   : Int
  moved  : Nat
  deriving DecidableEq, Repr

/-- What a self-test measures (Table 8-10): P0 and P1 of ranges 0-2, the periods at 16 biases and the positions of the 64 taps, in 1/8 code
unit; the replica's completion time and the supply; and 64 tone periods by the TDC, in code units. -/
structure TestMeas where
  periods : List Nat
  biases  : List Nat
  taps    : List Nat
  d       : Nat
  supply  : Nat
  tdc     : Nat
  deriving DecidableEq, Repr

/-- What a calibration run returned. -/
inductive CalResult where
  | full (r : RunResult)
  | reduced (r : ReducedRun)
  deriving DecidableEq, Repr

/-- The tests of Table 8-10, in row order (the test row of EV_ST_FAIL's ARG). -/
inductive SelfTest where
  | coverage | biasDac | tapLine | replica | tdc
  deriving DecidableEq, Repr

/-- Readings of one tile at the end of a ring sweep: each of the 4 electrical sensors' valid samples of the ring
period, and each of the 8 rings' resonance in pm, none where it was not found (R254-R256). -/
structure TileMeas where
  elec  : List (List Int)
  rings : List (Option Int)
  deriving DecidableEq, Repr

/-- Region sensors that R252 can fault. -/
inductive SensorKind where
  | adc | diode | droop
  deriving DecidableEq, Repr

/-- Why a planned swap is requested (R63, R65, R270): calibration or self-test of the active oscillator, wear, a
drift failure, or the retirement of the active oscillator (R234). -/
inductive SwapWhy where
  | calibration | wear | drift | retire
  deriving DecidableEq, Repr

/-- A term of a route's delay (Table 5-2): kind 0 D_L, 1 D_G, 2 and 3 D_X to the next and the previous quadrant,
4 D_B; landing or group index; quadrant; carrier. -/
structure RouteTerm where
  site    : Site
  kind    : Fin 5
  index   : Nat
  quad    : Fin 4
  carrier : Fin 4
  deriving DecidableEq, Repr

/-- PORT_STATE of the handshake (R172). -/
inductive PortState where
  | down | live | quiesced
  deriving DecidableEq, Repr

/-- The three cases of R179. -/
inductive SynthFault where
  | outOfLock | rangeEnd | coldLock
  deriving DecidableEq, Repr

/-- A span frame as received (R389): the header and payload bytes in order, the MAC, and the arrival instant in
1/65,536 ns of Erg time. -/
structure Frame where
  bytes   : Bytes
  mac     : Bytes
  arrival : Int
  deriving DecidableEq, Repr

/-- Why a frame is rejected (R391, Table 14-3). -/
inductive FrameFault where
  | mac | identity | replay | shape
  deriving DecidableEq, Repr

/-- Capability answers of a side die's UCIe sideband (R400): whether each of 16 and 32 GT/s is supported in
forwarded-clock mode on a standard package. -/
structure UcieCaps where
  gt16 : Bool
  gt32 : Bool
  deriving DecidableEq, Repr

/-- The three board outputs, as boundary cells drive or sample them (R404). True is the asserted (low) level. -/
structure BoundaryCells where
  thermTrip : Bool
  droopWarn : Bool
  mlbFault  : Bool
  deriving DecidableEq, Repr

/-- Which scope a fence release covers (R209). -/
inductive ReleaseScope where
  | region (r : RegionNo)
  | die (s : Site)
  deriving DecidableEq, Repr

/-- Where an uncorrectable configuration word lies (R357). -/
inductive ConfigArea where
  | base
  | slot (k : Fin 16)
  deriving DecidableEq, Repr

/-- Why a live update rolls back (R361). -/
inductive RollbackWhy where
  | schema | overrun | fatal
  deriving DecidableEq, Repr

/-- Where a register write goes: the management window or the control fabric (R289, R72). -/
inductive RegSpace where
  | window | fabric
  deriving DecidableEq, Repr

/-- The commands of the block, in the table's order. An operand with a default is a reading that its sender may leave out: nothing offered,
no error found, a power at its nominal (log 2). The last operand of PAIR_SLOT has one value and carries nothing. -/
inductive Instr where
  -- package, board and test port
  | pkgResetNAssert
  | pkgResetNRelease (env : BootEnv)
  | basePllLock
  | basePllLockTimeout
  | bootOverrun
  | xtalLoss
  | xtalRestored
  | diePowerLoss (site : Site)
  | dieOwnReset (site : Site)
  | regionsOwnReset (regions : List RegionNo)
  | localResetExit (id : Word) (second : Bool)
  | trstN
  | extest (cells : BoundaryCells)
  | samplePreload (cells : BoundaryCells)
  | idcode
  | bypass (code : BitVec 8)
  | mbx7Req (bytes : Bytes)
  | mbx7Rsp
  | mbx7Ctl (dr : Word)
  -- the management window and direct register writes
  | requestBufferWrite (m : Fin 8) (offset : Nat) (bytes : Bytes)
  | ring (m : Fin 8)
  | ack (m : Fin 8)
  | clearErr (m : Fin 8)
  | mbErgLoRead
  | mbErgHiRead
  | registerWrite (space : RegSpace) (addr : Word) (value : Word)
  | mbSnsBudgetWrite (value : Word)
  | mbLsEnWrite (synth : Fin 72) (enable : Bool) (override : Bool)
  | pinHalfWrite (synth : Fin 72) (set : Bool)
  | clearRgnEvcnt (r : RegionNo)
  | clearRgnStretchCnt (r : RegionNo)
  | clearHmCounters
  | clearErgCounters
  | clearOptCounters
  | clearLsCounters
  | clearXingCounters
  | clearXingDrop
  | clearCalCounters
  | clearSnsCounters
  | clearSpanCounters
  | clearCtlCounters
  -- mailbox commands
  | opSuspend (q : Req)
  | opResume (q : Req)
  | opCancel (q : Req)
  | opQuery (q : Req)
  | opWrite (q : Req)
  | mbxSpillRead (q : Req)
  | mbxSpillFree (q : Req)
  | regionSetPeriod (q : Req)
  | regionQuery (q : Req)
  | regionReadField (q : Req)
  | regionWriteField (q : Req)
  | forecastPost (q : Req)
  | hawkmothSetMode (q : Req)
  | hawkmothQuery (q : Req)
  | hawkmothReadField (q : Req)
  | hawkmothWriteField (q : Req)
  | modelLoad (q : Req)
  | modelUnload (q : Req)
  | ergRead (q : Req)
  | ergReadField (q : Req)
  | ergWriteField (q : Req)
  | anchorAdd (q : Req)
  | anchorRemove (q : Req)
  | anchorQuery (q : Req)
  | anchorConvert (q : Req)
  | ledgerRead (q : Req)
  | routeQuery (q : Req)
  | spareInsert (q : Req)
  | opticRecal (q : Req)
  | opticReadField (q : Req)
  | opticWriteField (q : Req)
  | synthQuery (q : Req)
  | synthSetMode (q : Req)
  | synthReadField (q : Req)
  | synthWriteField (q : Req)
  | crossQuery (q : Req)
  | crossReset (q : Req)
  | crossRelease (q : Req)
  | pairRecal (q : Req)
  | crossReadField (q : Req)
  | crossWriteField (q : Req)
  | calRun (q : Req)
  | selftestRun (q : Req)
  | calQuery (q : Req)
  | calSetRead (q : Req)
  | calReadField (q : Req)
  | calWriteField (q : Req)
  | senseQuery (q : Req)
  | thermQuery (q : Req)
  | plantPost (q : Req)
  | wearQuery (q : Req)
  | wearExport (q : Req)
  | wearImport (q : Req)
  | senseReadField (q : Req)
  | senseWriteField (q : Req)
  | configQuery (q : Req)
  | overlayApply (q : Req)
  | overlayWithdraw (q : Req)
  | modeSet (q : Req)
  | fwUpdate (q : Req)
  | spanQuery (q : Req)
  | spanPeerAdd (q : Req)
  | spanPeerRemove (q : Req)
  | spanKeySet (q : Req)
  | hostOffsetPost (q : Req)
  | spanReadField (q : Req)
  | spanWriteField (q : Req)
  | eventRead (q : Req)
  | dieQuery (q : Req)
  | debugRead (q : Req)
  | debugWrite (q : Req)
  | ctrlHalt (q : Req)
  | ctrlResume (q : Req)
  | ctrlRestart (q : Req)
  | siroccoReadField (q : Req)
  | siroccoWriteField (q : Req)
  -- controllers, hold and Oasis
  | controllerFault (c : Fin 2) (why : FaultKind)
  | holdRequest
  | holdRelease
  | holdExit
  | holdOverrun
  | controllerReloadDone (c : Fin 2)
  | controllerReloadTimeout (c : Fin 2)
  | reloadSourceLost (c : Fin 2)
  | controllerHeartbeat (c : Fin 2)
  | imageVerified (c : Fin 2) (src : ImageSource) (selfTest : Bool)
  | oasisScrub (word : Fin 524288) (corrected : Bool)
  | oasisRowSpare (row : Fin 1024)
  | oasisUe (word : Fin 524288)
  | handleExpired (h : Fin 32)
  | opWriteTimeout (h : Fin 32)
  | longOpDone (h : Fin 32)
  -- regions
  | regionPeriodEnd (r : RegionNo) (taps : Nat) (vmin : Nat) (offers : List (Option Nat) := [])
  | stretchLoopStep (r : RegionNo)
  | stretchNoticeReceive (r : RegionNo) (k : Fin 4)
  | regionWindowBoundary (r : RegionNo) (m : WinMeas)
  | periodCodeLatch (r : RegionNo)
  | freqStopBegin (r : RegionNo)
  | freqStopRestart (r : RegionNo) (q vmin : Nat)
  | retuneFail (r : RegionNo)
  | channelEdgeTimeout (r : RegionNo)
  | directTakeoverRestart (r : RegionNo) (q vmin : Nat)
  | regionDead (r : RegionNo)
  | twinReloadLocked (r : RegionNo)
  | plannedSwapRequest (r : RegionNo) (why : SwapWhy)
  | swapHandover (r : RegionNo)
  | swapWaitTimeout (r : RegionNo)
  | districtSpareInsert (r : RegionNo) (runs0 runs1 : List RunResult) (q : Nat)
  | plannedDistrictSpare (r : RegionNo) (runs0 runs1 : List RunResult)
  -- Hawkmoth
  | evaluationStart (bad : List (BitVec 16) := [])
  | planFlip
  | evaluationOverrun (reached : Fin 256)
  | columnTest (pass : Bool)
  | columnSpareMap
  | planCapture (r : RegionNo)
  | voidReceive (r : RegionNo)
  | forecastPortWrite (die : Fin 8) (word : BitVec 64)
  | forecastMerge
  | forecastStale (d : Fin 256)
  | modelActivate (id : BitVec 16)
  -- Erg time, dies, ledger and anchors
  | replicaSlotCheck (r : RegionNo) (crcOk : Bool) (slipped : Int)
  | heartbeatCheck
  | dieLostLong (site : Site)
  | signOfLife (r : RegionNo)
  | rejoin (site : Site) (fuse : Option Bytes) (terms : List (RouteTerm × Nat) := []) (dlanes : List (RegionNo × Nat × Nat) := [])
  | rejoinStep2Timeout (site : Site)
  | ergWindowDiscipline
  | rackAdoptIdle
  | anchorCapture (r : RegionNo)
  | anchorFold
  | ledgerPressure
  | ledgerLoss (r : RegionNo)
  | conversionSettled (m : Fin 8)
  -- routes and wavelengths
  | landingFault (site : Site) (landing : Fin 6) (carrier : Fin 4 := 0) (power : Int := 0)
  | wavelengthFault (carrier : Fin 4) (launched : Int := 0) (received : List (Site × Fin 6 × Int) := [])
  | groupFault (site : Site) (quad : Fin 4)
  | continuityCheck (site : Site) (group : Fin 7) (ok : Bool)
  | landingWarnTimeout (site : Site) (landing : Fin 6) (carrier : Fin 4 := 0) (power : Int := 0)
  | landingCrcDegrade (site : Site) (landing : Fin 6)
  | spareCarrierLoss (carrier : Fin 4) (launched : Int := 0)
  | carrierRecovered (carrier : Fin 4) (launched : Int := 0) (received : List (Site × Fin 6 × Int) := [])
  | flywheelExpiry (r : RegionNo)
  | landingInsert (site : Site) (quad : Fin 4) (power : List Int) (quick : List Nat) (full : Option (List Nat))
  | groupInsert (site : Site) (quad : Fin 4) (quick : List Nat) (full : Option (List Nat))
  | wavelengthInsert (launched : Int)
  | borrowPermanent (site : Site) (quad : Fin 4) (delays : List Nat)
  | siteBackup (site : Site)
  | siteOptical (launched : List (Fin 4 × Int) := [])
  | siteIsolated (site : Site) (backupFailed : Bool := false)
  | insvcRecal (site : Site) (landing : Fin 6)
  | insvcMeasurementDone (t : RouteTerm) (delay : Nat)
  | delaySlew
  | laneRemeasure (site : Site) (delays : List (RegionNo × Nat × Nat))
  -- lane synthesizers
  | synthRide (quad : Fin 4)
  | rideTimeout (synth : Fin 72)
  | renegotiateHalf (quad : Fin 4)
  | rateAck (port : Fin 64)
  | portStateChange (port : Fin 64) (st : PortState)
  | clkGrantTimeout (port : Fin 64)
  | renegTimeout (port : Fin 64)
  | renegotiateFull (port : Fin 64)
  | synthRelockDone (synth : Fin 72) (cw : BitVec 12) (band : BitVec 8)
  | synthFail (synth : Fin 72) (why : SynthFault)
  | synthJitterMeasure (synth : Fin 72) (fs : BitVec 16)
  | synthInsert (port : Fin 64)
  | quiesceTimeout (port : Fin 64)
  -- crossings
  | crossStall (id : Word)
  | crossTear (id : Word)
  | jointReset (id : Word)
  | fenceRelease (scope : ReleaseScope) (dlanes : List (RegionNo × Nat × Nat))
  | pairSlot (r : RegionNo) (k : Fin 4) (only : Unit := ())
  | realignWinExpiry (r : RegionNo) (k : Fin 4)
  | targetNotice (r : RegionNo) (k : Fin 4)
  | stopNotice (r : RegionNo) (k : Fin 4)
  | restartNotice (r : RegionNo) (k : Fin 4)
  | pairCalibrationDone (r : RegionNo) (k : Fin 4) (dlane : Nat)
  -- span link and side dies
  | spanSymbolLock (port : Fin 2)
  | spanLockLoss (port : Fin 2)
  | announce (port : Fin 2) (f : Frame)
  | probe (port : Fin 2) (f : Frame)
  | reply (port : Fin 2) (f : Frame)
  | announceTransmit (port : Fin 2)
  | probeTransmit (port : Fin 2)
  | peerAnnounceTimeout (port : Fin 2)
  | quarantineExpiry (id : BitVec 64)
  | previousKeyExpiry (port : Fin 2)
  | measurementDeferred (port : Fin 2)
  | hostOutOfUse
  | ucieDiscovery (site : Site) (caps : Option UcieCaps)
  | discoveryRetry (site : Site) (caps : Option UcieCaps)
  | foreignDiePoll (site : Site) (answered : Bool)
  | sidebandLinkDown (site : Site)
  -- calibration
  | calDueCheck
  | calSlotGrant
  | calRunComplete (r : RegionNo) (oscB : Bool) (res : CalResult)
  | suspectHoldoffExpiry (r : RegionNo)
  | calVoidRetryExpiry (r : RegionNo)
  | gapWindow (d : Fin 256)
  | calGapTimeout (r : RegionNo)
  | selftestDue (r : RegionNo)
  | selftestComplete (r : RegionNo) (oscB : Bool) (failed : Option SelfTest) (meas : Option TestMeas := none)
  -- sensing
  | sensorFault (r : RegionNo) (k : SensorKind)
  | sensorRecovered (r : RegionNo) (k : SensorKind)
  | ringPeriod (tiles : List TileMeas)
  | frameEnd
  | coolantStale
  | budgetStale
  -- configuration, Limp, events and late rows
  | regionFence
  | configWordLost (area : ConfigArea)
  | fwUpdateHoldEntry
  | fwRollback (why : RollbackWhy)
  | limpEnter
  | severeSustained
  | eventRaise (id : BitVec 10) (arg : Word)
  | eventLogWrite
  | rejectedFrame (port : Fin 2) (f : Frame) (why : FrameFault)
  | diePowerOn (site : Site)
  | lossOfLock (synth : Fin 72)
  deriving DecidableEq, Repr

end Sys2Proof
end

