-- ==== Sys2Proof/Decode.lean ====
section
/-! DEFINITION. The command that a word of spec/opcode_table.json spells. Every row of that table has an empty list of fields
and a width of 0 bits: the spec gives no row a bit pattern, so no word spells a command (log 14). -/
namespace Sys2Proof

/-- The command a table word spells: none, for any width and any word. -/
def decodeTableWord (_nbits _w : Nat) : Option Instr := none

end Sys2Proof
end

