-- ==== Sys2Proof/Machine/Bits.lean ====
section
/-! DEFINITION. Bit fields, byte order and checksums: the formats of 00_scope.md R15-R17 and of the CRCs that
the spec gives in full. -/
namespace Sys2Proof.Machine

/-- Field [hi:lo] of a number. -/
def bits (x hi lo : Nat) : Nat := x / 2 ^ lo % 2 ^ (hi + 1 - lo)

/-- Bit n of a number. -/
def bitAt (x n : Nat) : Bool := x / 2 ^ n % 2 == 1

/-- Field [hi:lo] of a register. -/
def fld (w : Word) (hi lo : Nat) : Nat := bits w.toNat hi lo

/-- Bit n of a register. -/
def bitOf (w : Word) (n : Nat) : Bool := bitAt w.toNat n

/-- 1 for true. -/
def b2n (b : Bool) : Nat := if b then 1 else 0

/-- A value placed at bit lo. -/
def at_ (v lo : Nat) : Nat := v * 2 ^ lo

/-- The register of a number, modulo 2^32. -/
def word (n : Nat) : Word := BitVec.ofNat 32 n

/-- A two's-complement field of width w read as an integer. -/
def signed (w n : Nat) : Int := if n % 2 ^ w < 2 ^ (w - 1) then (n % 2 ^ w : Nat) else (n % 2 ^ w : Nat) - (2 ^ w : Nat)

/-- An integer as a two's-complement field of width w. -/
def unsigned (w : Nat) (i : Int) : Nat := (i % (2 ^ w : Nat)).toNat

/-- An integer clamped to [lo, hi]. -/
def clampI (lo hi i : Int) : Int := max lo (min hi i)

/-- A number clamped to [lo, hi]. -/
def clampN (lo hi i : Nat) : Nat := max lo (min hi i)

/-- Saturating increment by k at 16 bits. -/
def sat16 (n k : Nat) : Nat := min 0xFFFF (n + k)

/-- Integer division that truncates toward zero (00_scope.md, conventions). -/
def tdiv (a b : Int) : Int := Int.tdiv a b

/-- Byte i of a string; zero past its end. -/
def byteAt (bs : Bytes) (i : Nat) : Nat := (bs.getD i 0).toNat

/-- The n bytes from offset i, zeros past the end. -/
def slice (bs : Bytes) (i n : Nat) : Bytes := (List.range n).map fun k => bs.getD (i + k) 0

/-- Little-endian number in a byte string. -/
def leVal : Bytes → Nat
  | [] => 0
  | b :: bs => b.toNat + 256 * leVal bs

/-- The little-endian number of n bytes at offset i (R16). -/
def le (bs : Bytes) (i n : Nat) : Nat := leVal (slice bs i n)

/-- n bytes of a number, least significant first (R16). -/
def toLE : Nat → Nat → Bytes
  | 0, _ => []
  | n + 1, v => BitVec.ofNat 8 v :: toLE n (v / 256)

/-- n bytes of an integer in two's complement, least significant first. -/
def toLES (n : Nat) (i : Int) : Bytes := toLE n (unsigned (8 * n) i)

/-- n bytes of a number, most significant first. -/
def toBE (n v : Nat) : Bytes := (toLE n v).reverse

/-- Big-endian number of n bytes at offset i. -/
def be (bs : Bytes) (i n : Nat) : Nat := leVal (slice bs i n).reverse

/-- n zero bytes. -/
def zeros (n : Nat) : Bytes := List.replicate n 0

/-- Whether n bytes from offset i are all zero. -/
def zeroAt (bs : Bytes) (i n : Nat) : Bool := (slice bs i n).all (· == 0)

/-- A byte string padded with zeros, or cut, to n bytes. -/
def padTo (n : Nat) (bs : Bytes) : Bytes := slice bs 0 n

/-- A byte string without its trailing zeros, the one form in which buffers are held. -/
def trim (bs : Bytes) : Bytes := (bs.reverse.dropWhile (· == 0)).reverse

/-- Bytes written over a buffer at an offset. -/
def overlayAt (buf : Bytes) (i : Nat) (bs : Bytes) : Bytes :=
  (padTo i buf) ++ bs ++ buf.drop (i + bs.length)

/-- An Erg timestamp in the 16-byte layout of R13: integer nanoseconds and a fraction in 1/65,536 ns. -/
def stamp (ns frac : Nat) : Bytes := toLE 8 ns ++ toLE 2 frac ++ zeros 6

/-- An Erg timestamp from quanta of 1/32,768 ns. -/
def stampQ (q : Nat) : Bytes := stamp (q / 32768) (q % 32768 * 2)

/-- A signed offset in 1/65,536 ns in the layout of R13 (R317). -/
def stampS (x : Int) : Bytes := toLES 8 (x / 65536) ++ toLE 2 (unsigned 16 x) ++ zeros 6

/-- A signed offset in the layout of R13, read. -/
def stampSRead (bs : Bytes) (i : Nat) : Int := signed 64 (le bs i 8) * 65536 + le bs (i + 8) 2

/-- One bit step of a CRC that shifts left. -/
def crcStep (w poly crc : Nat) (bit : Bool) : Nat :=
  let top := bitAt crc (w - 1)
  let sh := crc * 2 % 2 ^ w
  if xor top bit then Nat.xor sh poly else sh

/-- A CRC over bits, first bit first. -/
def crcBits (w poly init : Nat) (bs : List Bool) : Nat := bs.foldl (crcStep w poly) init

/-- The bits of a byte, most significant first. -/
def msbBits (b : Byte) : List Bool := [7, 6, 5, 4, 3, 2, 1, 0].map (bitAt b.toNat)

/-- CRC over bytes, each most significant bit first. -/
def crcMsb (w poly init : Nat) (bs : Bytes) : Nat :=
  bs.foldl (fun c b => crcBits w poly c (msbBits b)) init

/-- The bits of a byte, least significant first. -/
def lsbBits (b : Byte) : List Bool := [0, 1, 2, 3, 4, 5, 6, 7].map (bitAt b.toNat)

/-- A number of w bits with its bits in reverse order. -/
def revBits (w x : Nat) : Nat := (List.range w).foldl (fun a i => a * 2 + b2n (bitAt x i)) 0

/-- CRC-32 of IEEE 802.3: polynomial 0x04C1_1DB7, bits reflected, initial and final 0xFFFF_FFFF. -/
def crc32 (bs : Bytes) : Nat :=
  Nat.xor 0xFFFFFFFF (revBits 32 (bs.foldl (fun c b => crcBits 32 0x04C11DB7 c (lsbBits b)) 0xFFFFFFFF))

end Sys2Proof.Machine
end

