-- ==== Sys2Proof/Config.lean ====
section
/-! DEFINITION. What the spec leaves outside itself, as constants with no body: cryptographic functions that the
spec takes from FIPS and NIST standards, the contents of fuse bodies that only Sirocco firmware reads, and the
free values. Nothing in Lean can evaluate one, so a claim holds whatever they are (log 6, 7, 8). -/
namespace Sys2Proof.Config

/-- SHA-384 (R282, R341; FIPS 180-4). -/
opaque sha384 : Bytes → Bytes

/-- ECDSA P-384 with SHA-384: public key, message, signature (R282, R341; FIPS 186-5). -/
opaque ecdsaP384Verify : Bytes → Bytes → Bytes → Bool

/-- AES-128-CMAC: key, message (R390; NIST SP 800-38B). A tag of sixteen bytes. -/
opaque aesCmacTag : Bytes → Bytes → Vector Byte 16

/-- The tag as bytes. -/
def aesCmac (key message : Bytes) : Bytes := (aesCmacTag key message).toList

/-- Key hash slots 0-3 of Chrounyar's fuses (R283 step 2, R342). -/
opaque keyHash : Nat → Bytes

/-- Whether the revoke fuse of a key hash slot is intact (R283 step 2, R342). -/
opaque keyIntact : Nat → Bool

/-- The minimum SVN held in the fuses (R283 step 5). -/
opaque minSvn : Nat

/-- The boot ROM of a controller, 32 KiB: its contents, which the spec does not give (R276). -/
opaque bootRom : Nat → Byte

/-- The manufacturer field of IDCODE, given by the BSDL file (R404). -/
opaque idManufacturer : BitVec 11

/-- The set of values the seeds of an Ehrast die expand to (R236 step 1): the fuse record, the local index, then
eight points of six period values and MIN for oscillator A, the same for B, VREF and KV, in one list. The seed
body's layout is read only by firmware (R371). -/
opaque ehrastSeed : Bytes → Nat → List Nat

/-- The set of values a district spare pair's seeds expand to (R236, R237), in the same order. -/
opaque spareSeed : Bytes → Nat → List Nat

/-- k_d of a compute district in mA, from its die's fuse record (R411). -/
opaque seedKd : Bytes → Nat → Nat

/-- i_base in mA, from the compute dies' fuse records (R411). -/
opaque seedIBase : List (Option Bytes) → Nat

/-- The Chrounyar tile that site 16's seeds give a Chrounyar region (R253). -/
opaque regionTile : Bytes → Nat → Fin 64

/-- T_seed of a ring thermometer in 1/16 degree: site 16's fuse record, tile, ring (R255). -/
opaque ringTemp : Bytes → Nat → Nat → Int

/-- λ_seed of a ring thermometer in pm (R255). -/
opaque ringLambda : Bytes → Nat → Nat → Int

/-- k of a ring thermometer in 1/1,000 pm per K (R255). -/
opaque ringK : Bytes → Nat → Nat → ℕ+

/-- Whether a ring's reading that falls between two codes of 1/16 degree is reported as the upper one; the spec states no rounding (R255,
log 62). -/
opaque ringUp : Nat → Nat → Int → Bool

/-- The tile beneath a bump field of an Ehrast die: fuse record, site, group (R267). -/
opaque fieldTile : Bytes → Nat → Nat → Fin 64

/-- S_r, a region's spine delay from its root in 0.5 ps, from its die's fuse record and its local index (R145). -/
opaque seedSpine : Option Bytes → Nat → Nat

/-- The delay of a route term as reset calibration measures it, in 0.5 ps: the term's key (R146). -/
opaque routeDelay : Nat → Nat

/-- The value drawn from the span agent's entropy source at a boot (R389). -/
opaque bootId : Nat → BitVec 64

/-- A value the spec leaves open, drawn afresh: the draw's number. -/
opaque freeNat : Nat → Nat

/-- A byte of an Oasis area whose layout the spec does not give: the draw's number and the address (log 8). -/
opaque freeByte : Nat → Nat → Byte

/-- What an analogue retry yields: whether the step the spec bounds but does not decide passes. -/
opaque freeBool : Nat → Bool

end Sys2Proof.Config
end

