-- ==== Sys2Proof/Machine/State.lean ====
section
/-! DEFINITION. The block's state as plain data: every register, queue, buffer, counter, mode and pin the spec
gives Milbin, and the queue of waiting commands. Field comments read `width; file rule; reset value`. "DC 4" marks
a reset value the spec does not state (log 4). -/
namespace Sys2Proof.Machine

/-- A register whose written value governs from a later boundary (R421): `img` is what a read returns, `base` what
stood before the writes of instant `since`, `eff` the value in force. -/
structure Lat where
  img   : Word
  base  : Word
  since : Nat
  eff   : Word
  deriving DecidableEq, Repr

/-- A register that holds and applies one value. -/
def Lat.of (v : Word) : Lat := ⟨v, v, 0, v⟩

/-- A sparse table: keys rising, no entry equal to the value an unlisted key has. -/
abbrev Map (α : Type) := List (Nat × α)

/-! ### Calibration data -/

/-- One temperature point of a region set (Table 8-4): P0, P1 of ranges 0-2 for A and for B, and the minimum codes. -/
structure CalPoint where
  a    : List Nat
  b    : List Nat
  minA : Nat
  minB : Nat
  deriving DecidableEq, Repr

/-- A region set or a district spare set (Tables 8-3, 8-4). -/
structure CalSet where
  region   : BitVec 16
  vref     : Nat
  valid    : Bool
  suspect  : Bool
  suspectB : Bool
  episodes : Nat
  tLast    : Int
  ergLast  : Nat
  kv       : Nat
  runs     : Nat
  measured : BitVec 16
  points   : List CalPoint
  deriving DecidableEq, Repr

/-- A working set (R229): the set at the region's temperature. -/
structure WorkSet where
  a    : List Nat
  b    : List Nat
  minA : Nat
  minB : Nat
  temp : Int
  deriving DecidableEq, Repr

/-- One run kept for agreement (R232): six periods, MIN, mean temperature, mean supply. -/
structure RunRec where
  periods : List Nat
  min     : Nat
  temp    : Int
  supply  : Nat
  deriving DecidableEq, Repr

/-- One reduced run (R243): the correction found in 1/8 code unit, the range it belongs to, MIN, and the temperature. -/
structure RedRec where
  delta : Int
  range : Nat
  min   : Nat
  temp  : Int
  deriving DecidableEq, Repr

/-! ### Regions -/

/-- The stretch loop's states (Table 2-2). -/
inductive SLoop where
  | idle | hold | decay | paused | fixed
  deriving DecidableEq, Repr

/-- CHANNEL_STATE (Table 2-10). -/
inductive ChanState where
  | paired | twinBusy | single | spare | dead
  deriving DecidableEq, Repr

/-- The twin's condition (R63). -/
inductive Twin where
  | standby | busy | failed
  deriving DecidableEq, Repr

/-- The engine-side images and region-side values of a region's RW registers (Table 2-10, R190). -/
structure RgnRegs where
  /-- MB_RGN_CTRL, 32; 02 R71; reset 0x0000_0107. -/
  ctrl    : Lat := Lat.of 0x00000107
  /-- MB_RGN_TRIMLIM, 32; 02 R71; reset 0x0000_20F8. -/
  trimlim : Lat := Lat.of 0x000020F8
  /-- MB_RGN_THRESH, 32; 02 R71; reset 0x8C5A_3219. -/
  thresh  : Lat := Lat.of 0x8C5A3219
  /-- MB_RGN_SVAL, 32; 02 R71; reset 0x0C06_0301. -/
  sval    : Lat := Lat.of 0x0C060301
  /-- MB_RGN_STIMING, 32; 02 R71; reset 0x0004_0210. -/
  stiming : Lat := Lat.of 0x00040210
  /-- MB_RGN_BUDGET, 32; 02 R71; reset 0x0000_0020. -/
  budget  : Lat := Lat.of 0x00000020
  /-- MB_RGN_FLOOP, 32; 02 R71; reset 0x00C8_3202. -/
  floop   : Lat := Lat.of 0x00C83202
  /-- MB_RGN_PAIR0, 32; 02 R71; reset 0xFFFF_FFFF. -/
  pair0   : Lat := Lat.of 0xFFFFFFFF
  /-- MB_RGN_PAIR1, 32; 02 R71; reset 0xFFFF_FFFF. -/
  pair1   : Lat := Lat.of 0xFFFFFFFF
  deriving DecidableEq, Repr

/-- The stretch loop of a region (R49). -/
structure StretchLoop where
  /-- Table 2-2 state, 3; 02 R49; reset IDLE. -/
  st     : SLoop := .idle
  /-- s_loop, 6; 02 R48; reset 0. -/
  s      : Nat := 0
  /-- hold counter, 8; 02 R49; reset 0. -/
  hold   : Nat := 0
  /-- periods since the last decay step, 4; 02 R49; reset 0. -/
  decay  : Nat := 0
  /-- trip level of the period before the one in progress (n-1), 6; 02 R47; reset 0. -/
  l1     : Nat := 0
  /-- trip level of period n-2, 6; 02 R47; reset 0. -/
  l2     : Nat := 0
  /-- L_p, largest level latched during a stop, 6; 02 R49; reset 0. -/
  lp     : Nat := 0
  /-- SLOOP_EN was cleared: FIXED from the next period boundary, 1; 02 R49; reset 0. -/
  toFixed : Bool := false
  /-- SLOOP_EN was set again in FIXED: IDLE from the next period boundary, 1; 02 R49; reset 0. -/
  toIdle  : Bool := false
  /-- Erg ns of the writes of SLOOP_EN that wait for their period boundaries: the 0 and the 1; 00 R421; reset 0. -/
  asked   : Nat := 0
  askedOn : Nat := 0
  /-- quanta by which FIXED lengthens the target now; 02 R50; reset 0. -/
  margin  : Nat := 0
  deriving DecidableEq, Repr

/-- What a region counts within a window (R44, R51, R52). -/
structure WinAcc where
  /-- stretch sum in quanta; 02 R51; reset 0. -/
  quanta  : Nat := 0
  /-- stretch sum in sixteenths; 09 R251; reset 0. -/
  sixteenths : Nat := 0
  /-- periods with trip level above 0; 09 R251; reset 0. -/
  trips   : Nat := 0
  /-- a stretch above 0 was seen, 1; 07 R201; reset 0. -/
  stretched : Bool := false
  /-- OVERBUDGET of the current window, 1; 02 R51; reset 0. -/
  spent    : Bool := false
  /-- BUDGET_EN was 0 at this window's start, 1; 02 R51; reset 0. -/
  unbudgeted : Bool := false
  /-- an overrange in this window, 1; 02 R44; reset 0. -/
  range   : Bool := false
  /-- what the periods that ended past this window, before the boundary's own accounts, bring to the next: stretch sum in quanta
  and in sixteenths, periods with a trip, an overrange; 02 R44, R51; reset 0. -/
  aheadQ  : Nat := 0
  aheadS  : Nat := 0
  aheadT  : Nat := 0
  aheadR  : Bool := false
  /-- consecutive windows over budget, 3; 02 R52; reset 0. -/
  overRun : Nat := 0
  /-- consecutive windows with neither case of R52, 5; 02 R52; reset 0. -/
  clean   : Nat := 0
  /-- the droop-warning condition, 1; 02 R52; reset 0. -/
  warn    : Bool := false
  deriving DecidableEq, Repr

/-- The frequency loop and the oscillators' settings (R55, R56, R228). -/
structure FLoop where
  /-- FLOCK, 1; 02 R56; reset 0. -/
  flock  : Bool := false
  /-- consecutive boundaries with a drift condition, 2; 02 R56; reset 0. -/
  drift  : Nat := 0
  /-- windows of fast acquisition left, 3; 02 R55; reset 0. -/
  fast   : Nat := 0
  /-- bias DAC of A, 12; 02 R55; reset DC 4: 0. -/
  biasA  : Nat := 0
  /-- bias DAC of B, 12; 02 R55; reset DC 4: 0. -/
  biasB  : Nat := 0
  /-- coarse range of A, 2; 08 R228; reset 1 (the fixed range-1 setting of R369). -/
  rangeA : Nat := 1
  /-- coarse range of B, 2; 08 R228; reset 1. -/
  rangeB : Nat := 1
  deriving DecidableEq, Repr

/-- The oscillators of a region (R63-R67). -/
structure Chan where
  /-- CHANNEL_STATE, 3; 02 R71; reset PAIRED (0). -/
  st       : ChanState := .paired
  /-- ACTIVE_SEL, 1; 02 R71; reset 0 (A). -/
  activeB  : Bool := false
  /-- the twin's condition; 02 R63; reset standby. -/
  twin     : Twin := .standby
  /-- the twin is frequency-locked at the nominal, 1; 02 R62; reset DC 4: false. -/
  locked   : Bool := false
  /-- window by which a reloaded twin locks; 02 R62; reset none. -/
  reloadWin : Option Nat := none
  /-- the district spare pair serves this region, 1; 02 R39; reset 0. -/
  onSpare  : Bool := false
  /-- EV_SPARE_EXHAUSTED raised for this region, 1; 02 R67; reset 0. -/
  noSpare  : Bool := false
  deriving DecidableEq, Repr

/-- A swap under way (Table 2-6, R65 b): its cause, whether the twin is aligned and in which window. -/
structure Swap where
  why     : SwapWhy
  aligned : Option Nat
  deriving DecidableEq, Repr

/-- An open stop (R60, R65): AUX kind of Table 4-4, its opening capture in quanta, the code it runs to, whether the
verification or restart has failed (R61), and whether a replica correction fell in it (Table 4-10). -/
structure Stop where
  kind   : Nat
  opened : Nat
  code   : Nat
  failed : Bool
  fixed  : Bool
  deriving DecidableEq, Repr

/-- A plan record (Table 3-7). -/
structure PlanRec where
  win0Erg : Nat
  model   : BitVec 16
  valid   : Bool
  neutral : Bool
  sat     : Bool
  staleFc : Bool
  reason  : Nat
  trims   : List Int
  deriving DecidableEq, Repr

/-- What the PLAN words in the crossings carry (R92, R411): the evaluation, VOID, G, and the sites' thermal
ceilings. -/
structure PlanWord where
  e    : Nat
  void : Bool
  g    : Nat
  tc   : List Nat
  deriving DecidableEq, Repr

/-- A PLAN word that a region has not captured while a newer one came: it stays in the hold register, with the district's record that it
carries and the Erg ns at which its transfer began (R188, R189). -/
structure PlanXfer where
  w     : PlanWord
  plan  : Option PlanRec
  since : Nat
  deriving DecidableEq, Repr

/-- A plan a region holds (R92): window 0's number and the 16 trims. -/
structure HeldPlan where
  win0  : Nat
  trims : List Int
  gov   : Nat
  deriving DecidableEq, Repr

/-- A ramp to neutral (R95): the first window of the ramp and the trim it starts from. -/
structure Ramp where
  win  : Nat
  trim : Int
  deriving DecidableEq, Repr

/-- A ledger record (Table 4-3): KIND, AUX, full cycle number and the fields of VALUE. -/
structure LRec where
  region : BitVec 16
  kind   : Nat
  aux    : Nat
  cycle  : BitVec 48
  value  : BitVec 48
  deriving DecidableEq, Repr

/-- A window summary (R251). -/
structure Summary where
  start  : Nat
  adc    : Nat
  diode  : Int
  trips  : Nat
  sum    : Nat
  deriving DecidableEq, Repr

/-- An entry of a record lane (Table 7-7, class 0x5): a ledger record, or a window's summary. -/
inductive LaneEntry where
  | record (x : LRec)
  | summary (y : Summary)
  deriving DecidableEq, Repr

/-- A message word of the engine-to-region crossing (R190): the capture request of an anchor entry, a write to the region's register
block, or a working set with its VREF. -/
inductive Msg where
  | capture (i : Nat)
  | regwrite (off : Nat) (w : Word)
  | calset (w : WorkSet) (vref : Nat)
  deriving DecidableEq, Repr

/-- A word in the hold register of the engine-to-region crossing, PLAN apart: its transfer is under way (R188, R190). -/
inductive Xfer where
  | period (c : Nat)
  | message (m : Msg)
  deriving DecidableEq, Repr

/-- Counters of a region's count crossing to the engine (R191, R192): the region's own, 16 bits each; the last snapshot; the
destination's totals; and the cycle count carried last. -/
structure RgnCnt where
  /-- droop trips, swaps, failures of an oscillator; 07 R192; reset 0. -/
  trips  : Nat := 0
  swaps  : Nat := 0
  faults : Nat := 0
  /-- the last snapshot of the three; 07 R191; reset 0. -/
  snapT  : Nat := 0
  snapS  : Nat := 0
  snapF  : Nat := 0
  /-- the destination's totals; 07 R191; reset 0. -/
  totT   : Nat := 0
  totS   : Nat := 0
  totF   : Nat := 0
  /-- the cycle count as carried last, 64; 07 R192; reset 0. -/
  cycle  : Nat := 0
  deriving DecidableEq, Repr

/-- Record forms of a region's former (R121). -/
inductive Form where
  | period | run | window
  deriving DecidableEq, Repr

/-- The ledger record former (R121, R122): the open run or WINDOW record is what `cycle`, `len`, `s`, `sum` hold. -/
structure Former where
  /-- form in use; 04 R121; reset period form. -/
  form    : Form := .period
  /-- first cycle of the open run or window record, 64; 04 R121; reset 0. -/
  cycle   : Nat := 0
  /-- periods in it; 04 R121; reset 0 (none open). -/
  len     : Nat := 0
  /-- stretch of the open run, 6; 04 R121; reset 0. -/
  s       : Nat := 0
  /-- stretch sum of the open WINDOW record; 04 R121; reset 0. -/
  sum     : Nat := 0
  /-- STRETCH records written this window; 04 R122; reset 0. -/
  written : Nat := 0
  /-- an ANCHORED window record is open, 1; 04 R122; reset 0. -/
  anchored : Bool := false
  /-- MARK records that wait for their period's own records: cycle, AUX and window; 04 R118, Table 4-4; reset none. -/
  due     : List (Nat × Nat × Nat) := []
  /-- the TARGET record of the present cycle, held until the cycle's causes are all known: cycle, AUX, VALUE; 04 R118; reset
  none. -/
  target  : Option (Nat × Nat × Nat) := none
  /-- the record lane, oldest first: 16 entries, and behind them what the former waits to write; 04 R121, 07 R193, R194; reset
  empty. -/
  lane    : List LaneEntry := []
  /-- backpressure from the Oasis arbiter, 1; 04 R121; reset 0. -/
  pressed : Bool := false
  deriving DecidableEq, Repr

/-- The Erg replica of a region (R107, R150). -/
structure Replica where
  /-- it has found a slot, 1; 04 R108; reset 0. -/
  found  : Bool := false
  /-- its count less the master's, 64; 04 R107; reset 0. -/
  skew   : Int := 0
  /-- the count at which it stopped, 64; 05 R152; reset 0. -/
  held   : Nat := 0
  /-- slot of the latest check; 04 R107; reset none. -/
  slotAt : Option Nat := none
  /-- CRC error count; 04 R107; reset 0. -/
  crcErr : Nat := 0
  /-- slot of the latest correction event; 04 R107; reset none. -/
  fixAt  : Option Nat := none
  /-- the flywheel ran out, 1; 05 R152; reset 0. -/
  stopped : Bool := false
  deriving DecidableEq, Repr

/-- What a frame gathers from a region's windows (R260, R266). -/
structure FrameAcc where
  n      : Nat := 0
  tMax   : Int := 0
  tSum   : Int := 0
  worst  : Int := -128
  above  : Bool := false
  trips  : Nat := 0
  sMax   : Nat := 0
  spent   : Bool := false
  range  : Bool := false
  deriving DecidableEq, Repr

/-- A sensor's readings against the bounds of R252: outside them, and since when without a break. -/
structure Watch where
  odd   : Bool := false
  since : Nat := 0
  deriving DecidableEq, Repr

/-- Heartbeats of a region (R375, R379). -/
structure RgnHb where
  /-- heartbeats counted by the region, 8; 07 R192; reset 0. -/
  src    : Nat := 0
  /-- the last snapshot of them, 8; 07 R191; reset 0. -/
  snap   : Nat := 0
  /-- the monitor's total; 07 R191; reset 0. -/
  total  : Nat := 0
  /-- number of checks made when the last heartbeat arrived; 13 R375; reset 0. -/
  at_    : Nat := 0
  /-- EV_HB_SILENT raised, 1; 13 R376; reset 0. -/
  silentRaised : Bool := false
  /-- sign of life since the site became LOST, 1; 13 R379; reset 0. -/
  life   : Bool := false
  deriving DecidableEq, Repr

/-- How a test of Table 8-10 is reported (R244). -/
inductive TestOutcome where
  | pass | fail | notRun
  deriving DecidableEq, Repr

/-- The region's place in calibration (R230-R245, Table 8-12). -/
structure RgnCal where
  /-- PHASE, 4; 08 R249; reset 0 IDLE. -/
  phase   : Nat := 0
  /-- due by drift or age, by request, by insertion or rejoin, for self-test; 08 R238, R239; reset 0. -/
  dueDrift : Bool := false
  dueAge   : Bool := false
  dueReq   : Bool := false
  dueTest  : Bool := false
  /-- the boot calibration of R236 runs on both oscillators, 1; reset 0. -/
  runs    : List RunRec := []
  reduced : List RedRec := []
  /-- oscillator measured now: B, 1; 08 R235; reset 0. -/
  oscB    : Bool := false
  /-- one oscillator of this calibration has been accepted, 1; 08 R235; reset 0. -/
  half    : Bool := false
  /-- void runs of this oscillator in a row; 08 R231; reset 0. -/
  voids   : Nat := 0
  /-- disagreeing triples in a row of A and of B; 08 R234; reset 0. -/
  triplesA : Nat := 0
  triplesB : Nat := 0
  /-- window before which no new attempt starts; 08 R231; reset 0. -/
  retryWin : Nat := 0
  /-- window until which drift and age triggers are ignored; 08 R234; reset 0. -/
  holdOff  : Nat := 0
  /-- gap-mode run: its start window and forecast-zero windows gathered; 08 R243; reset none. -/
  gapStart : Option Nat := none
  gapWins  : Nat := 0
  /-- forecast-zero window being gathered now; 08 R242; reset none. -/
  gapNow   : Option Nat := none
  /-- the activity is a self-test, and the Erg ns at which it was given its slot; 08 R239, R244; reset 0. -/
  test    : Bool := false
  began   : Nat := 0
  /-- the request's gap mode and twin-only limits; 08 R247; reset 0. -/
  gap     : Bool := false
  twinOnly : Bool := false
  /-- what each test of the last self-test was reported as; 08 R244; reset none. -/
  report  : List TestOutcome := []
  /-- Erg ns of the last self-test of the standby twin; 08 R245; reset 0. -/
  lastTest : Nat := 0
  /-- every oscillator of this calibration is accepted, and the one loaded last has still to lock, 1; 08 R235; reset 0. -/
  ending  : Bool := false
  /-- boot calibration accepted, of A and of B, 1 each; 08 R236; reset 0. -/
  bootA   : Bool := false
  bootB   : Bool := false
  bootDone : Bool := false
  /-- boot runs of B (those of A are in `runs`), and VREF set by the first non-void run, 1; 08 R236; reset none, 0. -/
  bootRunsB : List RunRec := []
  /-- void runs of B in a row at boot (those of A are in `voids`); 08 R231, R236; reset 0. -/
  bootVoidsB : Nat := 0
  vrefSet : Bool := false
  deriving DecidableEq, Repr

/-- One clock region (R38). -/
structure Region where
  regs    : RgnRegs := {}
  /-- current nominal code, 13; 02 R71; reset 0x200. -/
  nominal : Nat := 512
  /-- PERIOD word waiting for the crossing, 13; 07 R190; reset none. -/
  sent    : Option Nat := none
  /-- the word in the crossing's hold register, PLAN apart, and the Erg ns at which its transfer began; 07 R188, R190; reset
  none. -/
  tx      : Option (Xfer × Nat) := none
  /-- message words queued at the crossing, 16 at most; 07 R189, R190; reset empty. -/
  msgs    : List Msg := []
  /-- message words that writers wait to write into the full queue, in order; 07 R189; reset empty. -/
  msgWait : List Msg := []
  /-- the PLAN word still in transfer while a newer one waits; 07 R189, R190; reset none. -/
  planTx  : Option PlanXfer := none
  /-- the PLAN word captured last: E and VOID; 07 R190; reset none. -/
  gotPlan : Option (Nat × Bool) := none
  /-- counters of the count crossing to the engine; 07 R191. -/
  cnt     : RgnCnt := {}
  /-- PENDING code and the Erg ns of its latch, 13 + 64; 02 R58; reset none. -/
  pend    : Option (Nat × Nat) := none
  /-- Erg quanta of the rising edge that began the period in progress; 04 R117; reset DC 4: 0. -/
  edge    : Nat := 0
  /-- cycle count, 64; 07 R192; reset 0. -/
  cycle   : Nat := 0
  /-- period target T in force, quanta, 20; 03 R93; reset 32,768 (code 512). -/
  tg      : Nat := 32768
  /-- window the region is in; 03 R93; reset DC 4: 0. -/
  win     : Nat := 0
  /-- plans held, newest first; 03 R92; reset none. -/
  plans   : List HeldPlan := []
  /-- ceiling code in force, 13; 03 R93; reset 160. -/
  gov     : Nat := 160
  /-- ceiling received and the window from which it applies; 03 R92; reset none. -/
  govNext : Option (Nat × Nat) := none
  /-- ramp to neutral in force; 03 R95; reset none. -/
  ramp    : Option Ramp := none
  /-- trim in force, signed 8; 03 R93; reset 0. -/
  trim    : Int := 0
  sl      : StretchLoop := {}
  /-- s_sym of links 0-3, 6 bits each; 02 R53; reset 0. -/
  sym     : List Nat := [0, 0, 0, 0]
  /-- SYM_EN in force, 4; 02 R73; reset 0. -/
  symEn   : BitVec 4 := 0
  /-- effective stretch of the last completed period, 6; 02 R71; reset 0. -/
  sLast   : Nat := 0
  win_    : WinAcc := {}
  /-- OVERBUDGET_CNT, 16; 02 R71; reset 0. -/
  overCnt : Nat := 0
  /-- OVERRANGE_CNT, 16; 02 R71; reset 0. -/
  rangeCnt : Nat := 0
  /-- MB_RGN_STRETCH_CNT, 32; 02 R71; reset 0. -/
  stretchCnt : Word := 0
  /-- engine-side copy of MB_RGN_STATUS, 32; 02 R73; reset 0x0080_0000. -/
  roStatus : Word := 0x00800000
  /-- engine-side copy of MB_RGN_EVCNT, 32; 02 R73; reset 0. -/
  roEvcnt : Word := 0
  /-- engine-side copy of MB_RGN_STRETCH_CNT, 32; 02 R73; reset 0. -/
  roStretch : Word := 0
  fl      : FLoop := {}
  chan    : Chan := {}
  swap    : Option Swap := none
  stop    : Option Stop := none
  /-- window in which the last frequency-change stop began; 02 R59; reset none. -/
  stopWin : Option Nat := none
  /-- STOP has been sent for the stop that the pending code brings, 1; 07 R202; reset 0. -/
  stopSaid : Bool := false
  /-- window for which the last TARGET notice was sent, and its target; 07 R197; reset none. -/
  noted   : Option (Nat × Nat) := none
  /-- VREF of MB_RGN_CALINFO, 16; 02 R71; reset 750. -/
  vref    : Nat := 750
  /-- MIN_CODE of MB_RGN_CALINFO, 13; 02 R71; reset 512. -/
  minCode : Nat := 512
  /-- working set delivered; 08 R229; reset none. -/
  ws      : Option WorkSet := none
  /-- a working set is due: the set has changed or the region has been released, 1; 08 R229; reset 0. -/
  wsDue   : Bool := false
  rep     : Replica := {}
  former  : Former := {}
  /-- anchor entries waiting for a capture; 04 R127; reset none. -/
  capture : List Nat := []
  /-- latest window summary; 09 R251; reset none. -/
  sum     : Option Summary := none
  /-- the summary before it; 09 R251, 03 R76; reset none. -/
  sumPrev : Option Summary := none
  acc     : FrameAcc := {}
  /-- faulted ADC, diode and droop detector, 1 each; 09 R252; reset 0. -/
  badAdc  : Bool := false
  badDiode : Bool := false
  badDroop : Bool := false
  /-- what R252 asks of the ADC's and of the diode's own readings: out of bounds now, and the Erg ns since which without a break;
  09 R252; reset within bounds, 0. -/
  adcWatch : Watch := {}
  diodeWatch : Watch := {}
  hb      : RgnHb := {}
  cal     : RgnCal := {}
  /-- stress of A and B in units of 2,048 ns at weight 1 (65,536 ns x 1/32), and whole stress-hours imported;
  09 R269, R272; reset 0. -/
  wearA   : Nat := 0
  wearB   : Nat := 0
  wearInA : Nat := 0
  wearInB : Nat := 0
  /-- EV_WEAR_OSC was raised for A, for B, and both were found at the threshold, 1 each; 09 R270; reset 0. -/
  wornA   : Bool := false
  wornB   : Bool := false
  wornBoth : Bool := false
  /-- supply lost, 1; 13 R378; reset 0. -/
  unpowered : Bool := false
  /-- held in a reset of the die's own, 1; 13 R378; reset 0. -/
  inReset : Bool := false
  deriving DecidableEq, Repr

/-- A region after PKG_RESET_N. -/
def Region.reset : Region := {}

/-! ### Mailboxes and long operations -/

/-- STATE of MB_MBX_STATUS (R295). -/
inductive MbxState where
  | idle | posted | working | responded
  deriving DecidableEq, Repr

/-- A wait that a command's own rule allows (R318): what will complete the response. -/
inductive Wait where
  /-- ANCHOR_ADD, for the base capture of entry `i` (R127). -/
  | anchorAdd (i : Nat)
  /-- ANCHOR_CONVERT of entry `i`, direction, target cycle or Erg quanta, and whether a prediction is due (R130). -/
  | convert (i : Nat) (toCycle : Bool) (x : Nat)
  /-- ANCHOR_REMOVE, for conversions on entry `i` (R130). -/
  | anchorRemove (i : Nat)
  /-- OVERLAY_WITHDRAW or MODE_SET, for its fence (R335). -/
  | fence (f : Nat)
  /-- REGION_SET_PERIOD, for the latch of every code: the regions left, the status and payload to answer with (R74). -/
  | period (left : List Nat) (status : Nat) (payload : Bytes)
  /-- FORECAST_POST, for room: the words left, how many it has in all, and how many of those taken were stale (R81). -/
  | forecast (xs : List (BitVec 64)) (n late : Nat)
  /-- PAIR_RECAL, for the lane's calibration (R203). -/
  | pairRecal (r k : Nat)
  /-- OPTIC_RECAL, for the measurement (R329). -/
  | opticRecal (t : RouteTerm)
  deriving DecidableEq, Repr

/-- One journal slot (R299, R300). -/
structure Journal where
  req     : Bytes
  resp    : Bytes
  test    : Bool
  spilled : Bool
  deriving DecidableEq, Repr

/-- One mailbox (R289, R295). -/
structure Mailbox where
  /-- request buffer, 256 bytes, trailing zeros not listed; 10 R289; reset 0. -/
  req     : Bytes := []
  /-- response buffer, 256 bytes, trailing zeros not listed; 10 R289; reset 0. -/
  resp    : Bytes := []
  /-- STATE, 3; 10 R289; reset IDLE. -/
  st      : MbxState := .idle
  /-- LAST_SEQ, 16; 10 R289; reset 0. -/
  lastSeq : BitVec 16 := 0
  /-- LAST_STATUS, 8; 10 R289; reset 0. -/
  lastStatus : BitVec 8 := 0
  /-- REPLAYED, 1; 10 R289; reset 0. -/
  replayed : Bool := false
  /-- WR_ERR, 1; 10 R289; reset 0. -/
  wrErr   : Bool := false
  /-- DB_ERR, 1; 10 R289; reset 0. -/
  dbErr   : Bool := false
  /-- SRC, 1; 10 R289; reset 0. -/
  src     : Bool := false
  /-- spilled payload, up to 8,192 bytes (SPILL_HELD, SPILL_LEN); 10 R298; reset none. -/
  spill   : Option Bytes := none
  /-- the spill met an uncorrectable word and was freed: the read of it answers INTERNAL, 1; 10 R288; reset 0. -/
  spillLost : Bool := false
  /-- journal slot; 10 R300; reset none. -/
  journal : Option Journal := none
  /-- how much of the spill area has been written since Oasis was cleared; 10 R281, R298; reset 0. -/
  spillTop : Nat := 0
  /-- wait of the request in WORKING; 10 R318; reset none. -/
  wait    : Option Wait := none
  deriving DecidableEq, Repr

/-- Kinds of long operation (Table 10-13). -/
inductive OpKind where
  | modelLoad | spareInsert | calRun | selftestRun | crossRelease | overlayApply | fwUpdate
  deriving DecidableEq, Repr

/-- Handle states (R306). -/
inductive OpState where
  | receiving | running | suspending | suspended | cancelling | done
  deriving DecidableEq, Repr

/-- Outcomes of a handle (R306). -/
inductive Outcome where
  | none | completed | cancelled | failed
  deriving DecidableEq, Repr

/-- A long operation behind a handle (R304-R308, Table 11-17). -/
structure LongOp where
  kind     : OpKind
  starter  : Option (Fin 8)
  st       : OpState
  outcome  : Outcome := .none
  final    : Nat := 0
  start    : Nat
  done     : Nat := 0
  async    : Bool
  step     : Nat := 0
  received : Nat := 0
  total    : Nat := 0
  /-- Erg ns of the last OP_WRITE or of the timer's restart (R307). -/
  timer    : Nat := 0
  verify   : Nat := 0
  /-- the operation was RECEIVING when suspended. -/
  wasRecv  : Bool := false
  /-- object: MODEL_ID, OVERLAY_ID, region, site, slot, as the kind uses it. -/
  target   : Nat := 0
  scope    : Nat := 0
  expert   : Bool := false
  /-- SPARE_INSERT: KIND, PART, spare chosen plus 1, FORCE. -/
  part     : Nat := 0
  spare    : Nat := 0
  force    : Bool := false
  /-- CAL_RUN, SELFTEST_RUN: regions still to run, options, and the counts of R248. -/
  left     : List RegionNo := []
  gap      : Bool := false
  twinOnly : Bool := false
  osc      : Nat := 0
  accepted : Nat := 0
  void     : Nat := 0
  suspect  : Nat := 0
  failed   : Nat := 0
  /-- status a run of SCOPE 0 or a refused region leaves (R332). -/
  code     : Nat := 0
  /-- OVERLAY_APPLY: byte offset in the image of the record that failed on its own; 12 R345. -/
  argOff   : Nat := 0xFFFF
  deriving DecidableEq, Repr

/-- One of the 32 handles (R304). -/
structure Handle where
  gen : BitVec 11 := 0
  op  : Option LongOp := none
  deriving DecidableEq, Repr

/-- Mailboxes, handles and window registers (R289, R304). -/
structure Mbx where
  /-- the eight mailboxes; 10 R291; reset IDLE, zero. -/
  box     : Vector Mailbox 8 := Vector.replicate 8 {}
  /-- EXPERT_OK bits, 8; 10 R292; reset 0xFF. -/
  expert  : BitVec 8 := 0xFF
  /-- the 32 handles; 10 R304; reset free, generation 0. -/
  handle  : Vector Handle 32 := Vector.replicate 32 {}
  /-- MB_IRQ_STATUS, 32; 10 R289; reset 0. -/
  irq     : Word := 0
  /-- MB_IRQ_ENABLE, 32; 10 R289; reset 0. -/
  irqEn   : Word := 0
  /-- MB_HANDLE_DONE, 32; 10 R289; reset 0. -/
  done    : Word := 0
  /-- upper half latched by MB_ERG_LO (MB_ERG_HI), 32; 04 R110; reset 0. -/
  ergHi   : Word := 0
  /-- Erg count that the window gave last; 04 R110; reset 0. -/
  winErg  : Nat := 0
  /-- value the latest window read returned, 32; 10 R289; reset DC 4: 0. -/
  read    : Word := 0
  /-- MB_FW_VERSION, 32; 10 R289; reset 0. -/
  fwVer   : Word := 0
  /-- accesses to Oasis that Sirocco and the mailbox spill have asked for and not been served; 01 R37; reset 0. -/
  asks    : Nat := 0
  spillAsks : Nat := 0
  deriving DecidableEq, Repr

/-! ### Package, controllers, Oasis -/

/-- Causes that hold MLB_FAULT_N asserted (R403): each names the rule that asserts it. -/
inductive FaultCause where
  | pllLock            -- R385
  | bootOverrun        -- R370
  | noImage            -- R284, R370
  | census (s : Nat)   -- R372
  | hold4              -- Table 1-7
  | holdOverrun        -- Table 1-7, R361
  | retired (c : Nat)  -- R280
  | sparePair (d : Nat) -- R67
  | isolated (s : Nat) -- R161
  | synthSpare (p : Nat) -- R181
  | silent16           -- R376
  | lostLong (s : Nat) -- R376
  | rejoinFail (s : Nat) -- R380
  deriving DecidableEq, Repr

/-- Die release in progress (R373): the group, its boundary W, and whether its clocks are ungated. -/
structure Release where
  group   : Nat
  w       : Nat
  ungated : Bool
  deriving DecidableEq, Repr

/-- Package, boot, hold and pins. -/
structure Sys where
  /-- PKG_RESET_N asserted, 1; 13 R366; reset 1 (the state that assertion leaves). -/
  pkgReset : Bool := true
  /-- the Erg counter counts, 1; 04 R101; reset 0. -/
  epoch    : Bool := false
  /-- Erg master counter, 64; 04 R101; reset 0. -/
  erg      : Nat := 0
  /-- step of Table 13-1 under way, 11 when boot is over; 13 R368; reset 0. -/
  bootStep : Nat := 0
  /-- Erg ns at which boot hold was released; 09 R264; reset none. -/
  bootedAt : Option Nat := none
  /-- hold cause, 0 none, 1-5; 01 R29, 10 R289; reset 1. -/
  hold     : Nat := 1
  /-- Erg ns of the first entry into this hold; 01 R32; reset 0. -/
  holdFrom : Nat := 0
  /-- Erg ns of entry into the present cause; 01 R31; reset 0. -/
  causeFrom : Nat := 0
  /-- firmware has released hold, at this Erg ns; 01 R32; reset none. -/
  released : Option Nat := none
  /-- the cause-2 hold passed 200 ms, 1; 01 R32; reset 0. -/
  overrun  : Bool := false
  /-- causes asserting MLB_FAULT_N; 14 R403; reset none. -/
  mlb      : List FaultCause := []
  /-- THERM_TRIP_N asserted, 1; 09 R261; reset 0. -/
  trip     : Bool := false
  /-- regions holding the droop-warning condition (DROOP_WARN_N); 02 R52; reset none. -/
  droop    : List RegionNo := []
  /-- what the package finds at release (log 3); 13 R371; reset empty. -/
  env      : BootEnv := ⟨[], [], [], [], [], []⟩
  /-- die release in progress; 13 R373; reset none. -/
  release  : Option Release := none
  /-- Limp triggers 1 and 3 have happened, 1 each; 15 R418; reset 0. -/
  limp1    : Bool := false
  limp3    : Bool := false
  /-- trigger to apply at hold exit, 0 none; 15 R418; reset 0. -/
  limpDue  : Nat := 0
  /-- what follows a hold's end, in order: 0 all done, 1 evaluation has still to resume, 2 torn crossings are being reset; 01 R32;
  reset 0. -/
  follow   : Nat := 0
  /-- side-slot references and ticks run, 1; 14 R398; reset 0. -/
  sideOut  : Bool := false
  deriving DecidableEq, Repr

/-- Controller states (Table 10-1). -/
inductive CtrlState where
  | loading | active | standby | halted | faulted | retired
  deriving DecidableEq, Repr

/-- One Sirocco controller (R276, R277). -/
structure Ctrl where
  /-- Table 10-1 state, 3; 10 R277; reset LOADING. -/
  st      : CtrlState := .loading
  /-- FAULTS, 8; 10 R311; reset 0. -/
  faults  : Nat := 0
  /-- it has verified its image, 1; 10 R311; reset 0. -/
  verified : Bool := false
  /-- version of the image it holds; 10 R282; reset DC 4: 0. -/
  version : Word := 0
  /-- instruction SRAM, 256 KiB, and data SRAM, 64 KiB: the header and code of the image it holds, and the image's data (log 67); 10 R276;
  reset DC 4: empty. -/
  iram    : Bytes := []
  dram    : Bytes := []
  /-- it copies its image from the other controller, 1; 10 R279; reset 0. -/
  copying : Bool := false
  /-- Erg ns from which the 40 ms of step 5 count; 10 R280; reset none. -/
  loadFrom : Option Nat := none
  /-- Erg ns of its last heartbeat that the hold monitor has seen; 01 R29; reset 0. -/
  beat    : Nat := 0
  /-- heartbeats: the source's counter, 8, its snapshot taken last, 8, and the hold monitor's total; 07 R191, R192; reset 0. -/
  hbSrc   : Nat := 0
  hbSnap  : Nat := 0
  hbTot   : Nat := 0
  /-- CTRL_RESTART under way on a RETIRED controller, 1; 10 R280; reset 0. -/
  wasRetired : Bool := false
  /-- at boot it has found no verifying image or failed its self-test, 1; 10 R284; reset 0. -/
  bootFail : Bool := false
  deriving DecidableEq, Repr

/-- The controller pair and Oasis (Table 10-16, R285-R288). -/
structure Ctl where
  /-- MB_CTL_CTRL, 32; 10 R311; reset 0x0000_0403. -/
  ctrl     : Word := 0x00000403
  /-- controllers 0 and 1; 10 R277; reset LOADING. -/
  c0       : Ctrl := {}
  c1       : Ctrl := {}
  /-- ACTIVE_ID of MB_STATUS, 1; 10 R289; reset 0. -/
  activeId : Bool := false
  /-- a takeover whose EV_CTRL_TAKEOVER is due at the end of hold, 1; 10 R279; reset 0. -/
  takeover : Bool := false
  /-- ARGs of EV_FW_VERIFY_FAIL that wait for firmware, oldest first; 10 R283; reset none. -/
  verifyDue : List Nat := []
  /-- MB_CTL_FAULT, 32; 10 R311; reset 0. -/
  fault    : Word := 0
  /-- MB_CTL_FAULT_ERG, 32; 10 R311; reset 0. -/
  faultErg : Word := 0
  /-- MB_OASIS_CE_CNT, 32; 10 R311; reset 0. -/
  ce       : Word := 0
  /-- UE_CNT, 16; 10 R311; reset 0. -/
  ue       : Nat := 0
  /-- SPARED_CNT, 16; 10 R311; reset 0. -/
  spared   : Nat := 0
  /-- MB_OASIS_SPARE, 32; 10 R311; reset 0. -/
  spareUse : Word := 0
  /-- MB_OASIS_LAST_ERR, 32; 10 R311; reset 0. -/
  lastErr  : Word := 0
  /-- PASS_CNT, 16; 10 R311; reset 0. -/
  passes   : BitVec 16 := 0
  /-- words scrubbed in this pass, 19; 10 R286; reset 0. -/
  scrubbed : Nat := 0
  /-- Erg ns of a row's latest corrected errors since it was last replaced, newest first, at most 255; 10 R287; reset none. -/
  rowCe    : Map (List Nat) := []
  /-- rows found to hold an uncorrectable word and not replaced since; 10 R287; reset none. -/
  rowUe    : List Nat := []
  /-- rows replaced by a spare row; 10 R287; reset none. -/
  rowMap   : Map Nat := []
  /-- words known poisoned; 10 R287, R288; reset none. -/
  poison   : List Nat := []
  /-- bytes DEBUG_WRITE has put into areas whose layout the spec does not give; 10 R303; reset none. -/
  raw      : Map Nat := []
  deriving DecidableEq, Repr

/-! ### Hawkmoth and the surge governor -/

/-- One layer of a model (Table 3-6, R85). -/
structure Layer where
  nIn    : Nat
  mOut   : Nat
  relu   : Bool
  lo     : Int
  hi     : Int
  weight : List Int
  bias   : List Int
  mult   : List Int
  shift  : List Nat
  deriving DecidableEq, Repr

/-- A resident image (R84, R87). State: 0 active, 1 faulted, 2 awaiting activation (Table 11-5). -/
structure Image where
  id        : BitVec 16
  perDistrict : Bool
  featOff   : Nat
  requireFc : Bool
  districts : List Nat
  layers    : List Layer
  bytes     : Bytes
  state     : Nat
  deriving DecidableEq, Repr

/-- An evaluation in progress (R76): E, the districts whose records stand in the back buffer, and every district's record with the
saturations of its computation, in district order. -/
structure Eval where
  e    : Nat
  done : Nat
  recs : List (PlanRec × Nat)
  deriving DecidableEq, Repr

/-- Hawkmoth and the surge governor (Table 3-13, R411). -/
structure Hm where
  /-- MB_HM_CTRL, 32; 03 R100; reset 0x0000_2004. -/
  ctrl    : Lat := Lat.of 0x00002004
  /-- forecast queue, 4,096 x 64, oldest first, each word with its resolved window; 03 R79, R80; reset empty. -/
  queue   : List (BitVec 64 × Int) := []
  /-- words that the merger has taken from the queue's head, which lies in slot head mod 4,096; 03 R80; reset DC 4: 0. -/
  head    : Nat := 0
  /-- forecast board: level + 1 at key 256 x window + district; 03 R80; reset empty. -/
  board   : Map Nat := []
  /-- window of each district's last accepted word; 03 R82; reset none. -/
  lastAcc : Map (Option Nat) := []
  /-- governor's last level from a set bit and that bit's window; 15 R411; reset none. -/
  govLvl  : Map (Option (Nat × Nat)) := []
  /-- resident images, oldest first; 03 R87; reset none. -/
  images  : List Image := []
  /-- model staging half; 03 R89; reset empty. -/
  staging : Bytes := []
  /-- how much of it has been written since Oasis was cleared; 10 R281; reset 0. -/
  stageTop : Nat := 0
  /-- a copied image held for activation, its handle, and the Erg ns from which the next boundary activates it; 03 R89; reset
  none. -/
  ready   : Option (Image × Nat × Nat) := none
  /-- MODEL_IDs to be removed and the Erg ns of each request; 03 R89; reset none. -/
  unload  : List (BitVec 16 × Nat) := []
  /-- evaluation in progress; 03 R76; reset none. -/
  eval    : Option Eval := none
  /-- each district's newest record that a flip has delivered; 03 R83, R95; reset none. -/
  last    : Map (Option PlanRec) := []
  /-- HM_EN as of the last evaluation boundary, 1; 03 R97; reset 0. -/
  enabled : Bool := false
  /-- E of the last column test; 03 R99; reset none. -/
  testedAt : Option Nat := none
  /-- front plan buffer; 03 R92; reset empty. -/
  front   : Map (Option PlanRec) := []
  /-- back plan buffer as last written; 03 R92; reset empty. -/
  back    : Map (Option PlanRec) := []
  /-- words folded past a full queue in an engine cycle, and its Erg ns; 03 R81; reset 0. -/
  foldN   : Nat := 0
  foldAt  : Nat := 0
  /-- which half is the front buffer, 1; 03 R92; reset DC 4: 0. -/
  flip    : Bool := false
  /-- PLAN words last sent; 03 R92; reset none. -/
  word    : Option PlanWord := none
  /-- PLAN words that this evaluation's flip sends; 03 R92, 15 R411; reset none. -/
  next    : Option PlanWord := none
  /-- the two newest records delivered to each district since the last VOID, newest first; 03 R83; reset none. -/
  sent    : Map (List PlanRec) := []
  /-- districts whose image was unloaded at the present boundary; 03 R89; reset none. -/
  gap     : List Nat := []
  /-- MB_HM_ACCEPT_CNT, 32; 03 R100; reset 0. -/
  accept  : Word := 0
  /-- MB_HM_MERGE_CNT, 32; 03 R100; reset 0. -/
  merge   : Word := 0
  /-- REJECT_CNT, 16; 03 R100; reset 0. -/
  reject  : Nat := 0
  /-- STALE_CNT, 16; 03 R100; reset 0. -/
  stale   : Nat := 0
  /-- SAT_CNT, 32; 03 R100; reset 0. -/
  sat     : Word := 0
  /-- MODEL_FAULT_CNT, 16; 03 R100; reset 0. -/
  faults  : Nat := 0
  /-- OVERRUN_CNT, 16; 03 R100; reset 0. -/
  overruns : Nat := 0
  /-- OVERRUN_LAST, 1; 03 R100; reset 0. -/
  overLast : Bool := false
  /-- E of the last EV_HM_OVERRUN; 03 R96; reset none. -/
  overEv  : Option Nat := none
  /-- LAST_FAILED_COL, 8; 03 R100; reset 0xFF. -/
  lastCol : Nat := 255
  /-- columns replaced by spares 0 and 1 (MB_HM_COLMAP), 7 each; 03 R100; reset 0x7F. -/
  map0    : Nat := 127
  map1    : Nat := 127
  /-- mapped columns failed and awaiting a spare; 03 R98; reset none. -/
  failed  : List Nat := []
  /-- spares marked unusable, 2; 03 R99; reset none. -/
  badSpare : List Nat := []
  /-- physical column under test next, 0-65; 03 R99; reset DC 4: 0. -/
  testCol : Nat := 0
  /-- disabled by column exhaustion, 1; 03 R99; reset 0. -/
  exhausted : Bool := false
  /-- MB_HM_EVAL_ERG, 32; 03 R100; reset 0. -/
  evalErg : Word := 0
  /-- running at the last evaluation boundary, 1; 03 R100; reset 0. -/
  running : Bool := false
  /-- ramping after VOID until this window, for RAMPING; 03 R100; reset 0. -/
  rampEnd : Nat := 0
  /-- G, 13; 15 R412; reset 256. -/
  g       : Nat := 256
  /-- EV_GOV_CAP episode, 1; 15 R412; reset 0. -/
  capped  : Bool := false
  /-- EV_GOV_SATURATED raised in this episode, 1; 15 R412; reset 0. -/
  satGov  : Bool := false
  /-- feature 37, 7; 15 R411; reset 0. -/
  headroom : Nat := 0
  /-- i_base in mA; 15 R411; reset DC 4: 0 until boot step 5 loads it. -/
  iBase   : Nat := 0
  /-- k_d by compute district in mA; 15 R411; reset DC 4: 0 until boot step 5. -/
  kd      : Map Nat := []
  deriving DecidableEq, Repr

/-! ### Erg time, ledger, anchors -/

/-- An anchor entry (Table 4-5). -/
structure Anchor where
  gen      : BitVec 6 := 0
  /-- 0 FREE, 1 PENDING, 2 ACTIVE. -/
  state    : Nat := 0
  pinned   : Bool := false
  inexact  : Bool := false
  rebased  : Bool := false
  region   : RegionNo := 0
  owner    : BitVec 16 := 0
  baseCycle : Nat := 0
  /-- base Erg time in quanta. -/
  baseErg  : Nat := 0
  baseTg   : Nat := 0
  baseN    : Nat := 0
  /-- first record after the base, counted from epoch; CURSOR is it modulo 98,304. -/
  cursor   : Nat := 0
  /-- the BASE record has reached the ring, so that the cursor stands, 1; 04 R127. -/
  based    : Bool := false
  lastUse  : Nat := 0
  deadline : Nat := 0
  reach    : Nat := 0
  busy     : Nat := 0
  deriving DecidableEq, Repr

/-- A λC1 slot (Table 4-1): ERG_NEXT and FLAGS. SYNC, the reserved bits and the CRC follow from them. -/
structure Slot1 where
  next  : BitVec 64
  flags : BitVec 8
  deriving DecidableEq, Repr

/-- Erg time, ledger and anchors (Table 4-11). -/
structure Et where
  /-- the slot that λC1 carries now, and the one before it; 04 R104; reset none. -/
  slot    : Option Slot1 := none
  prevSlot : Option Slot1 := none
  /-- Erg ns of the latest loss of the crystal; 04 R115; reset none. -/
  lossAt  : Option Nat := none
  /-- the correction that stood when the span link took over from a lost crystal; 04 R114, R115; reset none. -/
  ownTo   : Option Int := none
  /-- window boundary at which discipline has stepped last; 04 R111, R112; reset none. -/
  stepAt  : Option Nat := none
  /-- MB_ERG_CTRL, 32; 04 R135; reset 0x0100_0404. -/
  ctrl    : Lat := Lat.of 0x01000404
  /-- MB_ERG_RATE in 1/16 ppb, signed 32; 04 R135; reset 0. -/
  rate    : Int := 0
  /-- the correction discipline asks for, 1/16 ppb; 04 R111; reset 0. -/
  rateTo  : Int := 0
  /-- part of the rate below 1/16 ppb, in 1/320 ppb steps of 0.05 ppb = 16/20; 04 R111; reset 0. -/
  rateFine : Int := 0
  /-- RACK_OFFSET, signed 80, 1/65,536 ns; 04 R112; reset 0. -/
  rack    : Int := 0
  /-- offset to slew to; 04 R112; reset none. -/
  rackTo  : Option Int := none
  /-- RACK_ADOPTED, 1; 04 R135; reset 0. -/
  adopted : Bool := false
  /-- the next accepted measurement adopts, 1; 04 R112; reset 1. -/
  adoptNext : Bool := true
  /-- Erg ns since which every span peer and the host are out of use; 04 R112; reset 0. -/
  idleFrom : Option Nat := some 0
  /-- HOLDOVER, 1; 04 R135; reset 0. -/
  holdover : Bool := false
  /-- XTAL_LOST, 1; 04 R135; reset 0. -/
  xtalLost : Bool := false
  /-- SPAN, 1; 04 R135; reset 0. -/
  span    : Bool := false
  /-- HOST, 1; 04 R135; reset 0. -/
  host    : Bool := false
  /-- ledger ring by index, 98,304 x 16 bytes; 04 R118; reset empty. -/
  ring    : Map (Option LRec) := []
  /-- MB_LEDGER_WPTR, 17; 04 R135; reset 0. -/
  wptr    : Nat := 0
  /-- records written; 04 R118; reset 0. -/
  written : Nat := 0
  /-- RING_PRESSURE, 1; 04 R135; reset 0. -/
  pressure : Bool := false
  /-- INEXACT_CNT, 16; 04 R135; reset 0. -/
  inexact : Nat := 0
  /-- LOSS_CNT, 16; 04 R135; reset 0. -/
  loss    : Nat := 0
  /-- MB_ERG_FIX_CNT, 32; 04 R135; reset 0. -/
  fix     : Word := 0
  /-- FULL_CNT, 16; 04 R135; reset 0. -/
  full    : Nat := 0
  /-- EVICT_CNT, 16; 04 R135; reset 0. -/
  evict   : Nat := 0
  /-- anchor table, 1,024 entries; 04 R124; reset FREE, generation 0. -/
  anchors : Map Anchor := []
  /-- last accepted host post: value and MEAS_ERG, and its arrival; 14 R397; reset none. -/
  hostLast : Option (Int × Nat × Nat) := none
  deriving DecidableEq, Repr

/-! ### Optical distribution and Chrysalis -/

/-- SITE_STATE (Table 5-9). -/
inductive SiteState where
  | uncalibrated | optical | bridged | backup | isolated | absent
  deriving DecidableEq, Repr

/-- A quadrant's route (R141, MB_SITE_ROUTE): FEED 0-3, GROUP 0-7, SOURCE 0-7. -/
structure Route where
  feed   : Nat
  group  : Nat
  source : Nat
  deriving DecidableEq, Repr

/-- One site's routes (Table 5-9). -/
structure SiteOpt where
  /-- SITE_STATE, 3; 05 R164; reset UNCALIBRATED. -/
  state   : SiteState := .uncalibrated
  /-- Erg ns at which the site became BRIDGED last; 15 R419; reset none. -/
  bridgedAt : Option Nat := none
  /-- the four routes; 05 R164; reset 0x1B12_0900. -/
  routes  : List Route := [⟨0, 0, 0⟩, ⟨0, 1, 1⟩, ⟨0, 2, 2⟩, ⟨0, 3, 3⟩]
  /-- landing of each quadrant's optical route, 7 none; 05 R141, R156; reset 0-3. -/
  home    : List Nat := [0, 1, 2, 3]
  /-- LFAIL, 6; 05 R164; reset 0. -/
  lfail   : List Nat := []
  /-- GFAIL, 7; 05 R164; reset 0. -/
  gfail   : List Nat := []
  /-- landings and groups marked degraded; 05 R139; reset none. -/
  ldeg    : List Nat := []
  gdeg    : List Nat := []
  /-- the backup line has failed, 1; 05 R152; reset 0. -/
  backupBad : Bool := false
  /-- the backup line is marked degraded, 1; 05 R149; reset 0. -/
  backupDeg : Bool := false
  /-- cross-links marked failed, q joining quadrants q and q + 1; 05 R146; reset none. -/
  xfail   : List Nat := []
  /-- cross-links marked degraded; 05 R149; reset none. -/
  xdeg    : List Nat := []
  /-- landings (0) and groups (1) that have failed in service and are not replaced yet, with their quadrant; 05 R153; reset none. -/
  down    : List (Nat × Nat × Nat) := []
  /-- quadrants whose hand-over after a bridge is not confirmed yet; 05 R154, R157; reset none. -/
  confirm : List Nat := []
  /-- landings freed by group faults, oldest first; 05 R151, R153; reset none. -/
  freed   : List Nat := []
  /-- spares marked taken: landings, then groups; 05 R154; reset none. -/
  takenL  : List Nat := []
  takenG  : List Nat := []
  /-- quadrants whose borrow is permanent, with their fixed offset D_X in 0.5 ps, 20; 05 R158; reset none. -/
  fixedX  : List (Nat × Nat) := []
  /-- consecutive continuity failures by group, 3; 05 R144; reset 0. -/
  contFail : Map Nat := []
  /-- MB_SITE_DSEL, 32; 05 R164; reset 0. -/
  dsel    : Word := 0
  /-- received power in 0.25 dB against the nominal of reset calibration, at key 4 x landing + carrier, signed 8; 05 R138; reset 0. -/
  power   : Map Int := []
  /-- group faults, 16; 05 R164; reset 0. -/
  evG     : Nat := 0
  /-- landing faults, 16; 05 R164; reset 0. -/
  evL     : Nat := 0
  /-- Erg ns of a route change after which the site's lanes are to be remeasured; 07 R204; reset none. -/
  laneDue : Option Nat := none
  /-- planned insertions of landings (0) and groups (1), with their quadrant, that wait for a rejoin; 05 R163; reset none. -/
  waiting : List (Nat × Nat × Nat) := []
  deriving DecidableEq, Repr

/-- A measured term (Table 5-2): value in use and latest measurement in 0.5 ps, the Erg ns of the measurement, and
the withheld first measurement of R149. -/
structure Term where
  inUse  : Nat
  meas   : Nat
  at_    : Nat
  held   : Option Nat
  deriving DecidableEq, Repr

/-- An insertion that Chrysalis runs (R153, R180, R67, R271). KIND as in Table 11-9. -/
structure Insertion where
  kind    : Nat
  /-- site, port or region. -/
  target  : Nat
  /-- landing, group or carrier replaced; for kinds 0 and 1 the quadrant is `quad`. -/
  part    : Nat
  quad    : Nat
  /-- spare named by an expert request. -/
  spare   : Option Nat
  planned : Bool
  force   : Bool
  /-- step of Table 5-4, R156, Table 6-5 or Table 2-7 that it has come to. -/
  step    : Nat
  handle  : Option Nat
  /-- spare marked taken. -/
  took    : Option Nat := none
  /-- a SPARE_INSERT has commanded it. -/
  asked   : Bool := false
  /-- a bump field at its wear threshold called for it; 09 R270. -/
  wear    : Bool := false
  /-- Erg ns of the request, and from which the present step counts. -/
  at_     : Nat := 0
  since   : Nat := 0
  deriving DecidableEq, Repr

/-- Optical distribution (Table 5-9). -/
structure Opt where
  /-- MB_OPT_CTRL, 32; 05 R164; reset 0x03E8_1003. -/
  ctrl    : Lat := Lat.of 0x03E81003
  /-- MB_OPT_POWER_TH, 32; 05 R164; reset 0x0000_180C. -/
  power   : Lat := Lat.of 0x0000180C
  /-- TONE_CARRIER, 2; 05 R164; reset 0. -/
  tone    : Nat := 0
  /-- SLOT_CARRIER, 2; 05 R164; reset 1. -/
  slot    : Nat := 1
  /-- FAILED carriers, 4; 05 R164; reset none. -/
  failed  : List Nat := []
  /-- SPARE_FREE carriers, 4; 05 R164; reset 2, 3. -/
  free    : List Nat := [2, 3]
  /-- the tone role has been without a carrier since the last ring period, 1; 09 R256; reset 0. -/
  dark    : Bool := false
  /-- roles left without a usable carrier: tone, slot, 1 each; 05 R160; reset 0. -/
  lostTone : Bool := false
  lostSlot : Bool := false
  /-- the sites; 05 R164; reset UNCALIBRATED. -/
  site    : Vector SiteOpt 23 := Vector.replicate 23 {}
  /-- measured terms by key; 05 R146, R148; reset none valid. -/
  terms   : Map (Option Term) := []
  /-- landings whose measurement has been discarded and is due again; 05 R163; reset none. -/
  redo    : List (Nat × Nat) := []
  /-- landing armed for a measurement: site, landing; 05 R148; reset none. -/
  armed   : Option (Nat × Nat) := none
  /-- mean temperature of the site at the last measurement of landing l, at key 6 x site + l, 12; 05 R148; reset none. -/
  calTemp : Map (Option Int) := []
  /-- launched power of the four carriers in 0.25 dB against nominal, signed 8; 05 R138; reset 0. -/
  launch  : List Int := [0, 0, 0, 0]
  /-- Erg ns since which site 16's route q has been optical; 06 R177; reset none. -/
  since16 : List (Option Nat) := [none, none, none, none]
  /-- INSERT_CNT, 16; 05 R164; reset 0. -/
  inserts : Nat := 0
  /-- BRIDGE_CNT, 16; 05 R164; reset 0. -/
  bridges : Nat := 0
  /-- insertions under way, in order of request; 05 R153; reset none. -/
  ins     : List Insertion := []
  deriving DecidableEq, Repr

/-! ### Lane synthesizers -/

/-- Synthesizer states (Table 6-2). -/
inductive SynthState where
  | off | locking | locked | ride | failed
  deriving DecidableEq, Repr

/-- One synthesizer (Table 6-7). -/
structure Synth where
  /-- MB_LS_CTRL: BW, 4; 06 R185; reset 7. -/
  bw      : Nat := 7
  /-- BW applied at the last relock, 4; 06 R185; reset 7. -/
  bwEff   : Nat := 7
  /-- PIN_HALF, 1; 06 R185; reset 0. -/
  pinHalf : Bool := false
  /-- EN, 1; 06 R185; reset 1. -/
  en      : Bool := true
  /-- CW, 12; 06 R185; reset 0. -/
  cw      : BitVec 12 := 0
  /-- BAND, 8; 06 R185; reset 0. -/
  band    : BitVec 8 := 0
  /-- its set: the band found at the last lock at key 8 x HALF + temperature point, 8; 08 R224; reset none. -/
  bands   : Map (Option (BitVec 8)) := []
  /-- REF_BACKUP, 1; 06 R185; reset 0. -/
  backup  : Bool := false
  /-- RATE: HALF, 1; 06 R185; reset 0 (FULL). -/
  half    : Bool := false
  /-- STATE, 3; 06 R185; reset OFF. -/
  st      : SynthState := .off
  /-- LOL_CNT, 16; 06 R185; reset 0. -/
  lol     : Nat := 0
  /-- JITTER_FS, 16; 06 R185; reset 0. -/
  jitter  : BitVec 16 := 0
  /-- assigned port, 6 + VALID; 06 R185; reset LSi to Pi, spares none (see Ls.reset). -/
  port    : Option Nat := none
  /-- Erg ns of entry into RIDE; 06 R174; reset none. -/
  rideAt  : Option Nat := none
  /-- the end of RIDE_US has been acted on, 1; 06 R175, R178; reset 0. -/
  rideOver : Bool := false
  /-- Erg ns at which LOCKING or the loss-of-lock timer began; 06 R179; reset none. -/
  lockAt  : Option Nat := none
  /-- the LOCKING under way is a cold lock, 1; 06 R179; reset 0. -/
  cold    : Bool := false
  /-- consecutive over-limit jitter readings, 4; 06 R179; reset 0. -/
  jitRun  : Nat := 0
  /-- EV_LS_DEGRADED raised, 1; 06 R179; reset 0. -/
  degraded : Bool := false
  deriving DecidableEq, Repr

/-- RATE_REQ (Table 6-3). -/
inductive RateReq where
  | none | full | half
  deriving DecidableEq, Repr

/-- One port's handshake (Table 6-3). -/
structure Port where
  /-- PORT_STATE, 2; 06 R172; reset DOWN. -/
  st      : PortState := .down
  /-- QREQ, 1; 06 R172; reset 0. -/
  qreq    : Bool := false
  /-- RATE_REQ, 2; 06 R172; reset NONE. -/
  rate    : RateReq := .none
  /-- RATE_ACK, 1; 06 R172; reset 0. -/
  ack     : Bool := false
  /-- QREQ, RATE_REQ and CLK_GRANT as the port sees them while their crossing does not work; 07 R207; reset none. -/
  held    : Option (Bool × RateReq × Bool) := none
  /-- CLK_GRANT, 1; 06 R172; reset 0. -/
  grant   : Bool := false
  /-- Erg ns of the grant, of RATE_REQ, of QREQ, and of the request to return to FULL that was declined; 06 R173, R176, R177, R180;
  reset none. -/
  grantAt : Option Nat := none
  reqAt   : Option Nat := none
  quietAt : Option Nat := none
  declinedAt : Option Nat := none
  /-- synthesizer that serves the port or served it last, 7; 11 R330; reset LSn (see Ls.reset). -/
  synth   : Nat := 0
  deriving DecidableEq, Repr

/-- Lane synthesizers (Table 6-7). -/
structure Ls where
  /-- MB_LS_GCTRL, 32; 06 R185; reset 0x0A64_0A03. -/
  gctrl   : Word := 0x0A640A03
  /-- synthesizers 0-71; 06 R185. -/
  syn     : Vector Synth 72 := Vector.ofFn fun i => { port := if i.val < 64 then some i.val else none }
  /-- ports 0-63; 06 R172. -/
  port    : Vector Port 64 := Vector.ofFn fun i => { synth := i.val }
  /-- FREE spares, 8; 06 R185; reset 0xFF. -/
  free    : BitVec 8 := 0xFF
  /-- FAILED spares, 8; 06 R185; reset 0. -/
  failed  : BitVec 8 := 0
  /-- RIDE_CNT, 16; 06 R185; reset 0. -/
  rides   : Nat := 0
  /-- INSERT_CNT, 16; 06 R185; reset 0. -/
  inserts : Nat := 0
  /-- FORCED_CNT, 16; 06 R185; reset 0. -/
  forced  : Nat := 0
  /-- RENEG_CNT, 16; 06 R185; reset 0. -/
  renegs  : Nat := 0
  deriving DecidableEq, Repr

/-! ### Crossings -/

/-- STATE of MB_XING_SELSTAT (Table 7-9). -/
inductive XState where
  | whole | fenced | torn | resetting | paused | off
  deriving DecidableEq, Repr

/-- One crossing (R210-R217). -/
structure Xing where
  /-- STATE, 3; 07 R221; reset WHOLE. -/
  st     : XState := .whole
  /-- EPOCH_FIRST, 1; 07 R210; reset 0. -/
  e1     : Bool := false
  /-- EPOCH_SECOND, 1; 07 R210; reset 0. -/
  e2     : Bool := false
  /-- STALE, 1; 07 R207; reset 0. -/
  stale  : Bool := false
  /-- Erg ns at which a crossing that re-sends the Erg count stopped: the count it holds; 07 R207; reset 0. -/
  heldAt : Nat := 0
  /-- LOST_EVENTS, 1; 07 R207; reset 0. -/
  lost   : Bool := false
  /-- FILL, 5; 07 R221; reset 0. -/
  fill   : Nat := 0
  /-- DROP, 16; 07 R221; reset 0. -/
  drop   : Nat := 0
  /-- Erg ns at which EV_CROSS_TORN was raised; 13 R377; reset none. -/
  tornAt : Option Nat := none
  /-- a side has had a one-sided reset since the last joint reset: first, second; 07 R211; reset 0. -/
  rst1   : Bool := false
  rst2   : Bool := false
  /-- the destination is without a clock; and since when a new state word waits for it; 07 R189, R205; reset none. -/
  wait   : Option (Option Nat) := none
  deriving DecidableEq, Repr

/-- States of a pair lane (MB_PB_LINK, Table 7-9). -/
inductive LaneState where
  | off | calibrating | aligned | skewed | paused | fenced | torn
  deriving DecidableEq, Repr

/-- Notices of the second set of notice lines (R197). -/
inductive Note where
  | target (t win : Nat)
  | stop
  | restart (t : Nat) (realign : Bool)
  | marker
  deriving DecidableEq, Repr

/-- The lane arriving at a region on a link (R195-R204). -/
structure Lane where
  /-- STATE, 3; 07 R221; reset OFF. -/
  st      : LaneState := .off
  /-- deviation x 16 x slot period, in quanta (R199 in exact units; DELTA reports eighths of a slot); 07 R198; reset 0. -/
  delta   : Int := 0
  /-- D_LANE, 12; 07 R221; reset 0. -/
  dlane   : Nat := 0
  /-- SLIP_CNT, 8; 07 R221; reset 0. -/
  slips   : Nat := 0
  /-- a slip has occurred since the last alignment, 1; 07 R198; reset 0. -/
  slipped : Bool := false
  /-- VALID: calibrated, 1; 07 R221; reset 0. -/
  valid   : Bool := false
  /-- the elastic buffer, 4 entries, oldest first: the word of each slot, none for an idle word with VALID 0; 07 R195, R200; reset
  empty. -/
  words   : List (Option Nat) := []
  /-- word presented to the destination's logic, VALID 0 where none; 07 R195; reset none. -/
  shown   : Option Nat := none
  /-- READY to the source's logic, 1; 07 R196; reset 0. -/
  ready   : Bool := false
  /-- frames of source and destination since the last alignment, in quanta; 07 R196; reset 0. -/
  fSrc    : Nat := 0
  fDst    : Nat := 0
  /-- a slot is due at the destination, 1; 07 R196; reset 0. -/
  due     : Bool := false
  /-- the source is held at its next slot, 1; 07 R200; reset 0. -/
  stall   : Bool := false
  /-- a realignment has begun, 1; 07 R201; reset 0. -/
  step    : Bool := false
  /-- its state when a calibration began; 07 R203, 10 R301; reset OFF. -/
  before  : LaneState := .off
  /-- MARKER notices of a calibration still to come, 7; 07 R203; reset 0. -/
  markers : Nat := 0
  /-- targets of source and destination in quanta; the slot period is the longer; 07 R196; reset 0. -/
  tSrc    : Nat := 0
  tDst    : Nat := 0
  /-- a new source target and the window from which it applies; 07 R197; reset none. -/
  tNext   : Option (Nat × Nat) := none
  /-- the destination's own new target, and the window from which it applies; 07 R197; reset none. -/
  tOwn    : Option (Nat × Nat) := none
  /-- slots in the present window at the destination; 07 R201; reset 0. -/
  slots   : Nat := 0
  /-- window these slots belong to; 07 R201; reset 0. -/
  slotWin : Nat := 0
  /-- quiet windows passed without an idle word; 07 R201; reset 0. -/
  quiet   : Nat := 0
  /-- the present window has been quiet from its 17th slot on, 1; 07 R201; reset 0. -/
  quietNow : Bool := false
  /-- the realignment goes through slips on data words, 1; 07 R201; reset 0. -/
  forceRealign : Bool := false
  /-- window of the last EV_PB_SLIP; 07 R200; reset none. -/
  slipWin : Option Nat := none
  /-- stretch notice in flight: s, sender's code; 02 R53; reset none. -/
  sNote   : Option (Nat × Nat) := none
  /-- notices of the second set in flight, oldest first; 07 R197; reset none. -/
  notes   : List Note := []
  /-- notices that have found the second set busy; 07 R197; reset none. -/
  noteWait : List Note := []
  /-- its link has been removed, and the words still buffered are read before it is OFF, 1; 07 R219; reset 0. -/
  leaving : Bool := false
  /-- EPOCH of source and destination, 1 each; 07 R210; reset 0. -/
  e1      : Bool := false
  e2      : Bool := false
  /-- DROP of the lane, 16; 07 R221; reset 0. -/
  drop    : Nat := 0
  /-- Erg ns at which EV_CROSS_TORN was raised; 13 R377; reset none. -/
  tornAt  : Option Nat := none
  deriving DecidableEq, Repr

/-- The Oasis arbiter (R37): engine cycles that each requester has waited, by its number, and the requester served last. -/
structure Arbiter where
  wait : Map Nat := []
  turn : Nat := 0
  deriving DecidableEq, Repr

/-- A release in progress (Table 7-5) on behalf of a handle or of Sirocco. -/
structure Releasing where
  scope  : ReleaseScope
  handle : Option Nat
  since  : Nat
  /-- the regions found clocked at step 1, once steps 1 and 2 are done and lanes are calibrated (step 3). -/
  rs     : Option (List RegionNo) := none
  deriving DecidableEq, Repr

/-- Crossings (Table 7-9). -/
structure Xg where
  /-- MB_XING_CTRL, 32; 07 R221; reset 0x0000_0041. -/
  ctrl    : Lat := Lat.of 0x00000041
  /-- MB_XING_SEL, 32; 07 R221; reset 0. -/
  sel     : Word := 0
  /-- MB_XING_LAST_ID, 32; 07 R221; reset 0. -/
  lastId  : Word := 0
  /-- MB_XING_LAST_ERG, 32; 07 R221; reset 0. -/
  lastErg : Word := 0
  /-- STALL_CNT, 16; 07 R221; reset 0. -/
  stalls  : Nat := 0
  /-- TORN_CNT, 16; 07 R221; reset 0. -/
  torns   : Nat := 0
  /-- MB_XING_DROP_CNT, 32; 07 R221; reset 0. -/
  drops   : Word := 0
  /-- MB_XING_SLIP_CNT, 32; 07 R221; reset 0. -/
  slips   : Word := 0
  /-- crossings by identifier, pair lanes apart; 07 R216; reset WHOLE, epochs 0. -/
  x       : Map Xing := []
  /-- pair lanes at key 4 x region + link; 07 R195; reset OFF. -/
  lane    : Map Lane := []
  /-- releases in progress; 07 R209; reset none. -/
  rel     : List Releasing := []
  /-- forecast lanes at key 8 x district + compute die, oldest first: 16 words, and behind them one that the port holds; 07 R193,
  R194, 03 R81; reset empty. -/
  fq      : Map (List (BitVec 64)) := []
  /-- the Oasis arbiter; 01 R37; reset no requester waits. -/
  arb     : Arbiter := {}
  /-- words of the management window by offset as its held-word crossings captured them last before a fence or a tear; 01 R20, 07
  R207; reset 0. -/
  shown   : Map Nat := []
  deriving DecidableEq, Repr

/-! ### Calibration unit -/

/-- A queued request (R240): its handle. -/
structure CalReq where
  handle : Nat
  test   : Bool
  deriving DecidableEq, Repr

/-- The calibration unit (Table 8-12). -/
structure Cal where
  /-- MB_CAL_CTRL, 32; 08 R249; reset 0x3C40_2003. -/
  ctrl    : Lat := Lat.of 0x3C402003
  /-- MB_CAL_GAP, 32; 08 R249; reset 0x1000_003C. -/
  gap     : Lat := Lat.of 0x1000003C
  /-- region sets by dense index, where they differ from the seeds' expansion; 08 R224; reset none. -/
  sets    : Map (Option CalSet) := []
  /-- district spare sets by district, likewise; 08 R224; reset none. -/
  spares  : Map (Option CalSet) := []
  /-- the seeds have been expanded, 1; 08 R236; reset 0. -/
  seeded  : Bool := false
  /-- request queue, 32 entries; 08 R240; reset empty. -/
  queue   : List CalReq := []
  /-- regions holding a slot; 08 R239; reset none. -/
  busy    : List RegionNo := []
  /-- MB_CAL_RUN_CNT, 32; 08 R249; reset 0. -/
  runs    : Word := 0
  /-- DISAGREE_CNT, 16; 08 R249; reset 0. -/
  disagree : Nat := 0
  /-- VOID_CNT, 16; 08 R249; reset 0. -/
  void    : Nat := 0
  /-- regions suspect now (SUSPECT_NOW), 16; 08 R249; reset none. -/
  suspect : List RegionNo := []
  /-- RETIRED_CNT, 16; 08 R249; reset 0. -/
  retired : Nat := 0
  /-- Erg ns of a write of MB_CAL_CLEAR that has not taken effect; 08 R249; reset none. -/
  clearAt : Option Nat := none
  /-- ST_FAIL_CNT, 16; 08 R249; reset 0. -/
  stFail  : Nat := 0
  /-- ST_PASS_CNT, 16; 08 R249; reset 0. -/
  stPass  : Nat := 0
  /-- region that each district spare pair serves or is taken for; 02 R39; reset none. -/
  taken   : Map (Option Nat) := []
  /-- due regions; 08 R238; reset none. -/
  due     : List RegionNo := []
  deriving DecidableEq, Repr

/-! ### Sensing, thermal, wear -/

/-- Tile states (Table 9-8). -/
inductive TileSt where
  | agree | pending | disagree | ringInvalid | elecInvalid
  deriving DecidableEq, Repr

/-- One thermal tile (R254-R259). -/
structure Tile where
  /-- T_ELEC, 12; 09 R275; reset 0. -/
  tElec  : Int := 0
  /-- T_RING, 12; 09 R275; reset 0. -/
  tRing  : Int := 0
  /-- last valid T_RING; 09 R259; reset 0. -/
  lastRing : Int := 0
  /-- validity of both at the last ring period, 1 each; 09 R256; reset DC 4: true, as MB_TILE_STATE reads 0. -/
  okRing : Bool := true
  okElec : Bool := true
  /-- a disagreement is established, 1; 09 R258; reset 0. -/
  trusted : Bool := false
  /-- Erg ns of the first disagreeing ring period of the count; 09 R257; reset none. -/
  first  : Option Nat := none
  /-- COUNT, 8; 09 R275; reset 0. -/
  count  : Nat := 0
  /-- valid rings, 4; valid sensors, 3; 09 R275; reset 0. -/
  rings  : Nat := 0
  elecs  : Nat := 0
  /-- consecutive ring periods with T_RING invalid; 09 R256; reset 0. -/
  bad    : Nat := 0
  /-- governing temperature; 09 R260; reset 0. -/
  gov    : Int := 0
  /-- Erg ns of the ring period that cleared a disagreement; 09 R259; reset none. -/
  clearAt : Option Nat := none
  deriving DecidableEq, Repr

/-- Thermal level of a site (Table 9-2) and its ceiling (R262). -/
structure SiteTherm where
  /-- level 0 NORMAL to 4 TRIP, 3; 09 R261; reset NORMAL. -/
  level  : Nat := 0
  /-- TC, 13; 09 R262; reset 160. -/
  tc     : Nat := 160
  /-- TC before the instant of its last change, and that instant in Erg ns; 09 R262, 00 R421; reset 160, none. -/
  tcWas  : Nat := 160
  tcAt   : Option Nat := none
  /-- it was at THROTTLE or above at the previous frame, 1; 09 R262; reset 0. -/
  prev   : Bool := false
  /-- Erg ns of the latest ceiling fallback: R262 resumes at the next frame end; 09 R258; reset none. -/
  fbAt   : Option Nat := none
  deriving DecidableEq, Repr

/-- A bump field's wear (R268). -/
structure Field where
  /-- stack of reversals, oldest first; 09 R268; reset empty. -/
  stack  : List Int := []
  /-- running minimum, running maximum and direction (rising), none before the first reversal; 09 R268; reset none. -/
  ext    : Option (Int × Int × Option Bool) := none
  /-- WEAR_CYC, 32; 09 R275; reset 0. -/
  cyc    : Nat := 0
  /-- WEAR_DMG, 32; 09 R275; reset 0. -/
  dmg    : Nat := 0
  /-- EV_WEAR_GROUP raised, 1; 09 R270; reset 0. -/
  raised : Bool := false
  deriving DecidableEq, Repr

/-- Sensing, throttling and wear (Table 9-7). -/
structure Sns where
  /-- MB_SNS_CTRL, 32; 09 R275; reset 0x3C0F_0003. -/
  ctrl    : Lat := Lat.of 0x3C0F0003
  /-- MB_SNS_THRESH, 32; 09 R275; reset 0x6E69_645F. -/
  thresh  : Lat := Lat.of 0x6E69645F
  /-- MB_SNS_CEIL, 32; 09 R275; reset 0x0200_0120. -/
  ceil    : Lat := Lat.of 0x02000120
  /-- MB_SNS_WEARCTL, 32; 09 R275; reset 0x02BC_03E8. -/
  wearctl : Lat := Lat.of 0x02BC03E8
  /-- BUDGET, 16, and the Erg ns of its writes for R421; 09 R275; reset 0. -/
  budget  : Lat := Lat.of 0
  /-- RECEIVED, 1; 09 R275; reset 0. -/
  recv    : Bool := false
  /-- Erg ns of the first budget write; 15 R412; reset none. -/
  recvAt  : Option Nat := none
  /-- Erg ns of the last budget write; 09 R264; reset none. -/
  budgetAt : Option Nat := none
  /-- BUDGET_STALE, 1; 09 R275; reset 0. -/
  budgetStale : Bool := false
  /-- INLET and OUTLET, 12 each; 09 R275; reset 0. -/
  inlet   : Int := 0
  outlet  : Int := 0
  /-- Erg ns of the last coolant post; 09 R264; reset none. -/
  coolAt  : Option Nat := none
  /-- COOL_STALE, 1; 09 R275; reset 1. -/
  coolStale : Bool := true
  /-- EV_PLANT_STALE raised for the coolant in this staleness, 1; 09 R264; reset 0. -/
  coolRaised : Bool := false
  /-- MB_SNS_THROTREQ, 32; 09 R275; reset 0. -/
  throt   : Word := 0
  /-- tiles 0-63; 09 R253; reset as Tile. -/
  tile    : Vector Tile 64 := Vector.replicate 64 {}
  /-- sites 0-22; 09 R261; reset NORMAL, 160. -/
  site    : Vector SiteTherm 23 := Vector.replicate 23 {}
  /-- Erg ns since which the package level has been SEVERE or above; 15 R418; reset none. -/
  severe  : Option Nat := none
  /-- sensor frames, newest first, at most 170 x 3,072 bytes; 09 R266; reset none. -/
  frames  : List Bytes := []
  /-- frame sequence number, 64; 09 R266; reset 0. -/
  seq     : Nat := 0
  /-- bump fields at key 7 x site + group; 09 R267; reset 0. -/
  fields  : Map Field := []
  /-- stress of district spare oscillators at key 2 x district + i, in units of 2,048 ns at weight 1, and imported
  stress-hours; 09 R269; reset 0. -/
  spare   : Map Nat := []
  spareIn : Map Nat := []
  /-- page staged by WEAR_IMPORT and its bytes; 11 R334; reset none. -/
  stage   : Option (Nat × Bytes) := none
  /-- pages imported since epoch; 09 R272; reset none. -/
  imported : List Nat := []
  /-- OVERLAY_PENDING, 1; 09 R275; reset 0. -/
  overlayDue : Bool := false
  /-- tiles whose disagreement called for the pending throttle overlay; 01 Table 1-7; reset none. -/
  dueTiles : List Nat := []
  /-- sites whose entry into SEVERE called for it; 09 R261, 01 Table 1-7; reset none. -/
  dueSites : List Nat := []
  /-- Erg ns of the last ring period; 09 R255; reset 0. -/
  ringAt  : Nat := 0
  /-- sites whose serial in an imported page 0 differs from the census; 09 R272; reset none. -/
  serialBad : List Nat := []
  /-- DISAGREE_CNT, 16; 09 R275; reset 0. -/
  disagree : Nat := 0
  /-- SNS_FAULT_CNT, 16; 09 R275; reset 0. -/
  faults  : Nat := 0
  /-- Erg ns of a write of MB_SNS_CLEAR that waits for a frame end; 09 R275; reset none. -/
  clearAt : Option Nat := none
  deriving DecidableEq, Repr

/-! ### Configuration -/

/-- A configuration record (Table 12-3). -/
structure Rec where
  kind   : Nat
  block  : Nat
  first  : Nat
  last   : Nat
  offset : Nat
  mask   : Word
  value  : Word
  deriving DecidableEq, Repr

/-- States of an overlay slot (R348, Table 11-14). -/
inductive SlotState where
  | empty | stored | inForce | awaiting
  deriving DecidableEq, Repr

/-- An overlay slot (R348). -/
structure Slot where
  id       : Nat := 0
  state    : SlotState := .empty
  version  : Word := 0
  priority : Nat := 0
  records  : List Rec := []
  image    : Bytes := []
  /-- how much of the slot has been written since Oasis was cleared; 10 R281. -/
  top      : Nat := 0
  /-- order in which it came into force (R339). -/
  order    : Nat := 0
  damaged  : Bool := false
  deriving DecidableEq, Repr

/-- A verified base configuration (R343). -/
structure Base where
  image    : Bytes
  version  : Word
  perf     : Bytes
  records  : List Rec
  modes    : List (Nat × List Rec)
  defaultMode : Nat
  expertMask : BitVec 8
  throttleId : Nat
  tiles    : Bytes
  ports    : Bytes
  models   : List (Nat × Nat × Nat × Bytes)
  damaged  : Bool
  deriving DecidableEq, Repr

/-- The layers of the composed configuration (R339): mode, and overlays in force by id. -/
structure Layers where
  mode     : Nat
  modeRecs : List Rec
  overlays : List (Nat × Nat × Nat × List Rec)  -- id, priority, order, records
  throttle : Option (List Rec)
  deriving DecidableEq, Repr

/-- Who waits for a fence (R351, R354, R350, R355, R356, R418). -/
inductive FenceKind where
  | boot
  | overlay (id : Nat) (handle : Nat)
  | withdraw (id : Nat) (m : Fin 8)
  | mode (m : Fin 8) (dest : Nat)
  | throttle
  | limp
  deriving DecidableEq, Repr

/-- An armed fence: its Erg time F, its kind, the layers it puts in force, the slot it fills with what the slot held before
and what it will hold, whether the throttle overlay goes with it, and the Limp trigger that goes with it, 0 for none. -/
structure Fence where
  f      : Nat
  kind   : FenceKind
  layers : Layers
  image  : Option (Nat × Slot × Slot)
  throttle : Bool
  limp   : Nat
  deriving DecidableEq, Repr

/-- A live update in progress (R360): handle, step, outgoing and staging controllers (1 for controller 1). -/
structure Update where
  handle  : Nat
  step    : Nat
  outgoing : Bool
  version : Word
  oldVersion : Word
  startedNew : Bool
  deriving DecidableEq, Repr

/-- Configuration (R339-R358). -/
structure Cfg where
  /-- base configuration; 12 R347; reset none. -/
  base     : Option Base := none
  /-- boot-source slot that the base was read from, 2; 12 R347, R357; reset 0. -/
  baseSlot : Nat := 0
  /-- layers in force; 12 R339; reset Bring-up, none. -/
  layers   : Layers := ⟨0, [], [], none⟩
  /-- overlay slots 0-15; 12 R348; reset empty. -/
  slots    : Vector Slot 16 := Vector.replicate 16 {}
  /-- overlays that have come into force so far; 12 R339; reset 0. -/
  orders   : Nat := 0
  /-- armed fences by F; 12 R351; reset none. -/
  fences   : List Fence := []
  /-- Erg ns of the last fence; 12 R350; reset 0. -/
  lastFence : Nat := 0
  /-- overlay staging area; 12 R346; reset empty. -/
  staging  : Bytes := []
  /-- firmware staging area; 12 R359; reset empty. -/
  fwStage  : Bytes := []
  /-- how much of both has been written since Oasis was cleared; 10 R281; reset 0. -/
  ovlTop   : Nat := 0
  fwTop    : Nat := 0
  /-- changes stopped by hold at their validation safe point; 12 R353; reset none. -/
  stopped  : List Fence := []
  /-- the base cannot be reread, 1; 12 R357; reset 0. -/
  lost     : Bool := false
  /-- live update under way; 12 R360; reset none. -/
  update   : Option Update := none
  deriving DecidableEq, Repr

/-! ### Span link -/

/-- A span key and its key check value (R390). -/
abbrev Key := Bytes

/-- An accepted measurement (R392): delay, offset and the RACK_OFFSET it was measured against in 1/65,536 ns, and its Erg ns. -/
structure Meas where
  d  : Int
  o  : Int
  rack : Int
  at_ : Nat
  deriving DecidableEq, Repr

/-- A peer's rank (R393): CLASS, GRAND_ID, STEPS + 1. -/
structure Rank where
  cls   : Nat
  grand : Nat
  steps : Nat
  deriving DecidableEq, Repr

/-- One span port (Table 14-4, Table 14-13). -/
structure SpanPort where
  /-- symbol lock, 1; 14 R387; reset 0. -/
  lock   : Bool := false
  /-- peer configured: PEER_ID and USE; 14 R336; reset none. -/
  peer   : Option (BitVec 64 × Bool) := none
  /-- STATE, 3; 14 R406; reset 0 NONE. -/
  st     : Nat := 0
  /-- PROTO announced by the peer, 8; 14 R406; reset 0. -/
  proto  : Nat := 0
  /-- Erg ns since which the peer has announced N without a break; 12 R363; reset none. -/
  protoN : Option Nat := none
  /-- QREASON, 4; 14 R406; reset 0. -/
  qreason : Nat := 0
  /-- keys current, next, and previous with its expiry; 14 R390; reset none. -/
  key    : Option Key := none
  next   : Option Key := none
  prev   : Option (Key × Nat) := none
  /-- BOOT_ID in use, the last four left, last SEQ; 14 R391; reset none. -/
  bootId : Option (BitVec 64) := none
  left   : List (BitVec 64) := []
  seq    : Nat := 0
  /-- latest ANNOUNCE: rank and Erg ns; 14 R393; reset none. -/
  rank   : Option Rank := none
  annAt  : Option Nat := none
  /-- frames sent, 32; 14 R389; reset 0. -/
  txSeq  : Nat := 0
  /-- last frame handed to the transmitter: bytes and MAC; 14 R389; reset none. -/
  tx     : Option (Bytes × Bytes) := none
  /-- Erg ns of the last ANNOUNCE and the last PROBE sent; 14 R389, R406; reset none. -/
  annSent : Option Nat := none
  probedAt : Option Nat := none
  /-- Erg ns since which the peer is no longer LISTENING; 14 R393; reset 0. -/
  heardAt : Nat := 0
  /-- outstanding probe: SEQ, T1, Erg ns; 14 R395; reset none. -/
  probe  : Option (Nat × Int × Nat) := none
  /-- accepted measurements, newest first, up to 16; 14 R393, R395; reset none. -/
  meas   : List Meas := []
  /-- accepted since added or rebooted; 14 R393; reset 0. -/
  count  : Nat := 0
  /-- filtered offset, with the RACK_OFFSET it was measured against added, and Erg ns at the last rate step; 14 R394; reset none. -/
  rateRef : Option (Int × Nat) := none
  /-- failures of delay, offset, rate and loop in a row; 14 R395; reset 0. -/
  fDelay : Nat := 0
  fOffset : Nat := 0
  fRate  : Nat := 0
  fLoop  : Nat := 0
  /-- Erg ns of recent AUTH, REPLAY and IDENTITY failures; 14 R395; reset none. -/
  auth   : List Nat := []
  replay : List Nat := []
  ident  : List Nat := []
  /-- ACCEPT_CNT, 32; 14 R406; reset 0. -/
  accept : Word := 0
  /-- AUTH_REJ, 16; 14 R406; reset 0. -/
  authRej : Nat := 0
  /-- BOUND_REJ, 16; 14 R406; reset 0. -/
  boundRej : Nat := 0
  deriving DecidableEq, Repr

/-- A quarantined identity (R395, R409). -/
structure Quar where
  id     : BitVec 64
  until_ : Nat
  length : Nat
  reason : Nat
  deriving DecidableEq, Repr

/-- The span link (Table 14-13). -/
structure Sp where
  /-- MB_SPAN_CTRL, 32; 14 R406; reset 0x067D_0507. -/
  ctrl    : Lat := Lat.of 0x067D0507
  /-- MB_SPAN_BOUNDS, 32; 14 R406; reset 0x03E8_07D0. -/
  bounds  : Lat := Lat.of 0x03E807D0
  /-- MB_SPAN_HOST, 32; 14 R406; reset 0x0000_03E8. -/
  host    : Lat := Lat.of 0x000003E8
  /-- ports KSL0, KSL1; 14 R386; reset unlocked. -/
  p0      : SpanPort := {}
  p1      : SpanPort := {}
  /-- quarantined identities, 16; 15 R409; reset none. -/
  quar    : List Quar := []
  /-- last quarantine of an identity: id, Erg ns, length; 14 R395; reset none. -/
  past    : List (BitVec 64 × Nat × Nat) := []
  /-- BOOT_ID, 64; 14 R389; reset free value of the boot, drawn at release. -/
  bootId  : BitVec 64 := 0
  /-- SOURCE, 2; 14 R406; reset 0. -/
  source  : Nat := 0
  /-- PROTO_IN_USE, 8; 14 R406; reset 0. -/
  protoUse : Nat := 0
  /-- FAST_PROBE in use, 1; 14 R406; reset 0. -/
  fast    : Bool := false
  /-- ROOT and CLASS announced, 1 + 2; 14 R406; reset 0. -/
  root    : Bool := false
  cls     : Nat := 0
  /-- STEPS and GRAND_ID announced; 14 R393; reset 0. -/
  steps   : Nat := 0
  grand   : Nat := 0
  /-- measurements discarded unreported, Erg ns of the last EV_SPAN_DEFERRED; 15 R413; reset 0, none. -/
  deferred : Nat := 0
  deferAt : Option Nat := none
  deriving DecidableEq, Repr

/-! ### Dies -/

/-- Die states (Table 13-7). -/
inductive DieState where
  | absent | census | running | lost | rejoining | isolated | mismatch
  deriving DecidableEq, Repr

/-- One site's die (R371-R381). -/
structure Die where
  /-- state, 3; 13 R381; reset ABSENT. -/
  st      : DieState := .absent
  /-- die type from the fuses, 8; 11 R337; reset 0. -/
  type    : Nat := 0
  /-- side attachment: 0 none, 1 managed, 2 foreign; 11 R337; reset 0. -/
  attach  : Nat := 0
  /-- serial number, 64; 11 R337; reset 0. -/
  serial  : BitVec 64 := 0
  /-- region outputs ungated by release, 1; 13 R373; reset 0. -/
  ungated : Bool := false
  /-- heartbeat monitoring armed, at this check number; 13 R373; reset none. -/
  armed   : Option Nat := none
  /-- logic reset asserted, 1; 13 R367; reset 1. -/
  logicReset : Bool := true
  /-- boot-path regions ungated, 1; 13 R369; reset 0. -/
  bootPath : Bool := false
  /-- Erg ns at which the site became LOST; 13 R376; reset none. -/
  lostAt  : Option Nat := none
  /-- EV_DIE_LOST_LONG raised, 1; 13 R376; reset 0. -/
  lostLong : Bool := false
  /-- Erg ns of the end of rejoin step 1, then of step 2, and checks passed since step 1; 13 R379; reset none. -/
  joinAt  : Option Nat := none
  checks  : Nat := 0
  /-- a check has found a sign of life of every live region, 1; 13 R379; reset 0. -/
  signed  : Bool := false
  /-- consecutive failed attempts, 2; 13 R380; reset 0. -/
  fails   : Nat := 0
  /-- unanswered sideband polls; 14 R401; reset 0. -/
  polls   : Nat := 0
  /-- Erg ns of the last poll; 14 R401; reset none. -/
  polledAt : Option Nat := none
  /-- Erg ns of the last discovery that nothing answered; 14 R400; reset none. -/
  triedAt : Option Nat := none
  /-- target link speed written: 0 none, 16, 32; 14 R399; reset 0. -/
  speed   : Nat := 0
  /-- supply lost, 1; 13 R378; reset 0. -/
  unpowered : Bool := false
  deriving DecidableEq, Repr

/-- Dies and the heartbeat monitor. -/
structure Dies where
  /-- sites 0-22; 13 R381; reset ABSENT. -/
  d       : Vector Die 23 := Vector.replicate 23 {}
  /-- checks made; 13 R375; reset 0. -/
  checks  : Nat := 0
  /-- Erg ns of the last check; 13 R375; reset none. -/
  checkAt : Option Nat := none
  deriving DecidableEq, Repr

/-! ### Events and the test port -/

/-- One event (R414): the Erg ns at which it was raised, number, severity, REPEAT, ARG. -/
structure Event where
  erg    : Nat
  id     : Nat
  sev    : Nat
  rep    : Nat
  arg    : Word
  deriving DecidableEq, Repr

/-- A log entry (Table 15-4). -/
structure LogEntry where
  seq   : Nat
  ev    : Event
  deriving DecidableEq, Repr

/-- An event latch slot (R415): event number, severity, ARG of the first, count, Erg ns of the first. -/
structure Latch where
  id    : Nat
  sev   : Nat
  arg   : Word
  count : Nat
  erg   : Nat
  deriving DecidableEq, Repr

/-- Events (R414, R415). -/
structure Ev where
  /-- ingress queue, 64 entries, oldest first; 15 R415; reset empty. -/
  queue   : List Event := []
  /-- event latches, oldest first; 15 R415; reset empty. -/
  latch   : List Latch := []
  /-- log entries held, newest first, at most 16,384; 15 R414; reset empty. -/
  log     : List LogEntry := []
  /-- SEQ of the next entry, 32; 15 R414; reset 1. -/
  seq     : Nat := 1
  /-- overrun count, 32 saturating; 15 R414; reset 0. -/
  overrun : Nat := 0
  /-- whether the newest entry taken is in the queue (0) or the log (1), or none (2); 15 R415; reset 2. -/
  newest  : Nat := 2
  /-- the Oasis arbiter serves the ingress in this engine cycle, 1; 01 R37, 15 R415; reset 0. -/
  turn    : Bool := false
  deriving DecidableEq, Repr

/-- The test access port (R404). -/
structure Tap where
  /-- instruction register, 8; 14 R404; reset 0x02 IDCODE (PRESUMED, log 9). -/
  ir       : BitVec 8 := 0x02
  /-- captured data register, least significant bit first out; 14 R404; reset DC 4: empty. -/
  dr       : Bytes := []
  /-- pin levels that SAMPLE captured last; 14 R404; reset DC 4: released. -/
  sampled  : BoundaryCells := ⟨false, false, false⟩
  /-- boundary cells; 14 R404; reset DC 4: released. -/
  cells    : BoundaryCells := ⟨false, false, false⟩
  deriving DecidableEq, Repr

/-! ### The state -/

/-- The state of the block. `pending` and `fresh` are the model's own (log 1, log 6). -/
structure State where
  /-- waiting commands, first in, first out; the model's; reset empty. -/
  pending : List Instr := []
  /-- free values drawn so far; the model's; reset DC 6: 0. -/
  fresh   : Nat := 0
  sys     : Sys := {}
  ctl     : Ctl := {}
  mbx     : Mbx := {}
  /-- regions by region number; 02 R38; reset Region.reset. -/
  reg     : Map Region := []
  hm      : Hm := {}
  et      : Et := {}
  opt     : Opt := {}
  ls      : Ls := {}
  xg      : Xg := {}
  cal     : Cal := {}
  sns     : Sns := {}
  cfg     : Cfg := {}
  sp      : Sp := {}
  die     : Dies := {}
  ev      : Ev := {}
  tap     : Tap := {}
  deriving DecidableEq, Repr

/-- Right after reset: the state that an assertion of PKG_RESET_N leaves (R367). -/
def State.reset : State := {}

/-- Stops of the machine. The spec names none: every limit has an outcome of its own (R407). A block step never
faults; the constructor is raised by nobody and is safe. -/
inductive Fault where
  | none
  deriving DecidableEq, Repr

/-- Refusals. `notModelled` is answered by an arm of exec whose command has no meaning yet, and by nothing else;
it is safe, because the machine stops there. -/
inductive Refusal where
  | notModelled (mnemonic : String)
  deriving DecidableEq, Repr

end Sys2Proof.Machine
end

