-- ==== Sys2Proof/Machine/Store.lean ====
section
/-! DEFINITION. Sparse tables in their one canonical form, and small operations on lists and vectors. -/
namespace Sys2Proof.Machine

/-- The value at a key, d where the key is not listed. -/
def Map.get {α : Type} (d : α) : Map α → Nat → α
  | [], _ => d
  | (k', v) :: m, k => if k = k' then v else Map.get d m k

/-- The table without a key. -/
def Map.erase {α : Type} : Map α → Nat → Map α
  | [], _ => []
  | (k', v) :: m, k => if k = k' then m else (k', v) :: Map.erase m k

/-- The table with a value put at a key, keys kept rising. -/
def Map.insert {α : Type} : Map α → Nat → α → Map α
  | [], k, v => [(k, v)]
  | (k', v') :: m, k, v =>
    if k < k' then (k, v) :: (k', v') :: m
    else if k = k' then (k, v) :: m
    else (k', v') :: Map.insert m k v

/-- The table with a value written at a key: writing what an unlisted key reads as removes the entry. -/
def Map.put {α : Type} [DecidableEq α] (d : α) (m : Map α) (k : Nat) (v : α) : Map α :=
  if v = d then Map.erase m k else Map.insert m k v

/-- Whether the keys rise. -/
def Map.rising {α : Type} : Map α → Bool
  | [] => true
  | [_] => true
  | (k, _) :: (k', v') :: m => decide (k < k') && Map.rising ((k', v') :: m)

/-- The canonical form: keys rising and no entry equal to what an unlisted key reads as. -/
def Map.wf {α : Type} [DecidableEq α] (d : α) (m : Map α) : Bool :=
  Map.rising m && m.all fun e => decide (e.2 ≠ d)

/-- A number added to a rising list without repeats. -/
def addKey : Nat → List Nat → List Nat
  | k, [] => [k]
  | k, x :: xs => if k < x then k :: x :: xs else if k = x then x :: xs else x :: addKey k xs

/-- A number removed from a list. -/
def dropKey (k : Nat) (l : List Nat) : List Nat := l.filter (· ≠ k)

/-- The entry of a vector at a number, d outside it. -/
def vget {α : Type} {n : Nat} (v : Vector α n) (d : α) (i : Nat) : α := v.toArray.toList.getD i d

/-- A vector with one entry changed; a number outside it changes nothing. -/
def vmod {α : Type} {n : Nat} (v : Vector α n) (i : Nat) (f : α → α) : Vector α n :=
  if h : i < n then v.set i (f v[i]) else v

end Sys2Proof.Machine
end

