-- ==== Sys2Proof/Machine/Geometry.lean ====
section
/-! DEFINITION. Sites, regions and districts by number (00_scope.md R4-R8) and the boundaries of Erg time. -/
namespace Sys2Proof.Machine

/-- Site of a region number (R5). -/
def siteOf (r : RegionNo) : Nat := r / 2048

/-- Local index of a region number (R5). -/
def localOf (r : RegionNo) : Nat := r % 2048

/-- Regions of a site (Table 0-4). -/
def localCount (site : Nat) : Nat :=
  if site ≤ 7 then 224 else if site ≤ 15 then 16 else if site = 16 then 80 else if site ≤ 22 then 8 else 0

/-- A region number that is valid (R5). -/
def validRegion (r : RegionNo) : Bool := decide (siteOf r ≤ 22) && decide (localOf r < localCount (siteOf r))

/-- A region's number. -/
def regionNo (site loc : Nat) : RegionNo := site * 2048 + loc

/-- District of a region (R7). -/
def districtOf (r : RegionNo) : Nat :=
  let site := siteOf r
  if site ≤ 7 then site * 28 + localOf r / 8
  else if site ≤ 15 then 224 + (site - 8) * 2 + localOf r / 8
  else if site = 16 then 240 + localOf r / 8
  else 250 + (site - 17)

/-- Site of a district (R7). -/
def districtSite (d : Nat) : Nat :=
  if d < 224 then d / 28 else if d < 240 then 8 + (d - 224) / 2 else if d < 250 then 16 else 17 + (d - 250)

/-- First local index of a district (R7). -/
def districtLocal (d : Nat) : Nat :=
  if d < 224 then d % 28 * 8 else if d < 240 then (d - 224) % 2 * 8 else if d < 250 then (d - 240) * 8 else 0

/-- The eight regions of a district, in order. -/
def districtRegions (d : Nat) : List RegionNo :=
  (List.range 8).map fun i => regionNo (districtSite d) (districtLocal d + i)

/-- The regions of a site, in order. -/
def siteRegions (site : Nat) : List RegionNo := (List.range (localCount site)).map (regionNo site)

/-- The 23 sites. -/
def allSites : List Nat := List.range 23

/-- Every region, in order of number. -/
def allRegions : List RegionNo := allSites.flatMap siteRegions

/-- The districts of a site. -/
def siteDistricts (site : Nat) : List Nat := (List.range 256).filter fun d => districtSite d = site

/-- The regions before a site's, counted densely: dense index of its region 0. -/
def denseBase (site : Nat) : Nat :=
  if site ≤ 7 then site * 224 else if site ≤ 15 then 1792 + (site - 8) * 16
  else if site = 16 then 1920 else 2000 + (site - 17) * 8

/-- Dense index of a region, 0-2,047. -/
def denseOf (r : RegionNo) : Nat := denseBase (siteOf r) + localOf r

/-- Region of a dense index. -/
def ofDense (i : Nat) : RegionNo :=
  if i < 1792 then regionNo (i / 224) (i % 224)
  else if i < 1920 then regionNo (8 + (i - 1792) / 16) ((i - 1792) % 16)
  else if i < 2000 then regionNo 16 (i - 1920)
  else regionNo (17 + (i - 2000) / 8) ((i - 2000) % 8)

/-- The first multiple of n strictly after t (R421). -/
def nextAfter (n t : Nat) : Nat := (t / n + 1) * n

/-- A window's length in ns (R26). -/
def windowNs : Nat := 256

/-- An evaluation's length in ns (R26). -/
def evalNs : Nat := 512

/-- Quanta of 1/32,768 ns in a nanosecond. -/
def quantaNs : Nat := 32768

/-- Write to a register whose value governs from a later boundary (R421). -/
def Lat.write (now : Nat) (v : Word) (l : Lat) : Lat :=
  { img := v, base := if l.since = now then l.base else l.img, since := now, eff := l.eff }

/-- A boundary: a value written before it governs from it; one written at the very instant does not (R421). -/
def Lat.tick (now : Nat) (l : Lat) : Lat :=
  { l with eff := if l.since < now then l.img else l.base }

/-- A fence puts a value in force at once (R352, R421). -/
def Lat.force (now : Nat) (v : Word) (_ : Lat) : Lat := { img := v, base := v, since := now, eff := v }

end Sys2Proof.Machine
end

