-- ==== Sys2Proof/Machine/Events.lean ====
section
/-! DEFINITION. The event catalogue and the way an event takes to the log (15_capacity_and_errors.md R414-R417). -/
namespace Sys2Proof.Machine

/-! Event numbers (Table 15-6), under the spec's names in camel case. -/

abbrev evHoldEnter : Nat := 0x001
abbrev evHoldExit : Nat := 0x002
abbrev evHoldOverrun : Nat := 0x003
abbrev evCtrlTakeover : Nat := 0x004
abbrev evCtrlStandbyReady : Nat := 0x005
abbrev evCtrlRetired : Nat := 0x006
abbrev evFwVerifyFail : Nat := 0x007
abbrev evFwUpdated : Nat := 0x008
abbrev evFwRollback : Nat := 0x009
abbrev evConfigAbsent : Nat := 0x00A
abbrev evConfigFence : Nat := 0x00B
abbrev evConfigLost : Nat := 0x00C
abbrev evConfigRecomposed : Nat := 0x00D
abbrev evBootOverrun : Nat := 0x00E
abbrev evHandleExpired : Nat := 0x00F
abbrev evOasisRowSpared : Nat := 0x010
abbrev evOasisUe : Nat := 0x011
abbrev evSpareExhausted : Nat := 0x012
abbrev evChrysalisDone : Nat := 0x013
abbrev evLimpEnter : Nat := 0x014
abbrev evLimpExit : Nat := 0x015
abbrev evRegionOverrange : Nat := 0x040
abbrev evStretchBudget : Nat := 0x041
abbrev evRegionUnlock : Nat := 0x042
abbrev evRegionRetuneFail : Nat := 0x043
abbrev evRegionTakeover : Nat := 0x044
abbrev evRegionSwap : Nat := 0x045
abbrev evRegionDead : Nat := 0x046
abbrev evRegionForced : Nat := 0x047
abbrev evHmModelFault : Nat := 0x080
abbrev evHmOverrun : Nat := 0x081
abbrev evHmColumnFail : Nat := 0x082
abbrev evGovCap : Nat := 0x083
abbrev evGovSaturated : Nat := 0x084
abbrev evErgReplicaFix : Nat := 0x0C0
abbrev evRackStep : Nat := 0x0C1
abbrev evErgHoldover : Nat := 0x0C2
abbrev evXtalRestored : Nat := 0x0C3
abbrev evLedgerInexact : Nat := 0x0C4
abbrev evLedgerPressure : Nat := 0x0C5
abbrev evAnchorEvicted : Nat := 0x0C6
abbrev evAnchorRebased : Nat := 0x0C7
abbrev evAnchorBroken : Nat := 0x0C8
abbrev evRouteCalFail : Nat := 0x100
abbrev evRouteBridge : Nat := 0x101
abbrev evRouteBorrowed : Nat := 0x102
abbrev evSiteBackup : Nat := 0x103
abbrev evSiteOptical : Nat := 0x104
abbrev evDieIsolated : Nat := 0x105
abbrev evLsNoRef : Nat := 0x140
abbrev evLsRenegForced : Nat := 0x141
abbrev evLsRenegDeclined : Nat := 0x142
abbrev evLsRideLimit : Nat := 0x143
abbrev evLsFail : Nat := 0x144
abbrev evLsDegraded : Nat := 0x145
abbrev evLsForced : Nat := 0x146
abbrev evPbSlip : Nat := 0x180
abbrev evPbCalFail : Nat := 0x181
abbrev evCrossStall : Nat := 0x182
abbrev evCrossRelease : Nat := 0x183
abbrev evCrossTorn : Nat := 0x184
abbrev evCrossJoint : Nat := 0x185
abbrev evCalVoid : Nat := 0x1C0
abbrev evCalSuspect : Nat := 0x1C1
abbrev evCalOscRetired : Nat := 0x1C2
abbrev evCalGapTimeout : Nat := 0x1C3
abbrev evStFail : Nat := 0x1C4
abbrev evSnsFault : Nat := 0x200
abbrev evRingFault : Nat := 0x201
abbrev evThermDisagree : Nat := 0x202
abbrev evThermNoOverlay : Nat := 0x203
abbrev evThermAgree : Nat := 0x204
abbrev evThermWarn : Nat := 0x205
abbrev evThermSevere : Nat := 0x206
abbrev evThermTrip : Nat := 0x207
abbrev evCoolantStep : Nat := 0x208
abbrev evPlantStale : Nat := 0x209
abbrev evWearGroup : Nat := 0x240
abbrev evWearOsc : Nat := 0x241
abbrev evWearNoSpare : Nat := 0x242
abbrev evWearSerial : Nat := 0x243
abbrev evDieMismatch : Nat := 0x280
abbrev evDieLost : Nat := 0x281
abbrev evHbSilent : Nat := 0x282
abbrev evDieLostLong : Nat := 0x283
abbrev evDieRejoining : Nat := 0x284
abbrev evDieRejoined : Nat := 0x285
abbrev evRejoinFail : Nat := 0x286
abbrev evSideLost : Nat := 0x287
abbrev evUcieUnsupported : Nat := 0x288
abbrev evUcieFail : Nat := 0x289
abbrev evSpanQuarantine : Nat := 0x2C0
abbrev evSpanDeferred : Nat := 0x2C1

/-- Rows of Table 15-6: first number, then the severities of Table 15-5 in order. -/
def sevRows : List (Nat × List Nat) :=
  [(0x001, [0, 0, 3, 2, 0, 3, 2, 0, 2, 3, 0, 3, 1, 3, 1, 1, 2, 3, 0, 2, 0]),
   (0x040, [2, 1, 1, 2, 2, 0, 3, 1]),
   (0x080, [2, 1, 2, 1, 2]),
   (0x0C0, [1, 1, 2, 0, 1, 1, 1, 1, 1]),
   (0x100, [2, 2, 2, 2, 0, 3]),
   (0x140, [3, 2, 1, 2, 2, 1, 1]),
   (0x180, [0, 2, 2, 0, 1, 0]),
   (0x1C0, [1, 1, 2, 1, 2]),
   (0x200, [1, 1, 2, 2, 0, 1, 2, 3, 1, 2]),
   (0x240, [1, 1, 2, 2]),
   (0x280, [3, 2, 2, 3, 0, 0, 2, 2, 3, 2]),
   (0x2C0, [2, 1])]

/-- Severity of an event number; none where the catalogue has no such event (Tables 15-5, 15-6). -/
def sevOf (id : Nat) : Option Nat :=
  sevRows.findSome? fun row => if row.1 ≤ id then row.2[id - row.1]? else none

/-- Entries of the ingress queue (R415). -/
def ingressSize : Nat := 64

/-- Entries that INFO and NOTICE events may fill: sixteen are kept for ERROR and FAULT (R415). -/
def ingressLow : Nat := 48

/-- Entries of the log (R414). -/
def logSize : Nat := 16384

/-- A later occurrence that merges into an entry (R415): same ID and ARG, within 1 us of the first. -/
def Event.merges (e : Event) (now id : Nat) (arg : Word) : Bool :=
  decide (e.id = id) && decide (e.arg = arg) && decide (now ≤ e.erg + 1000)

/-- REPEAT counted up, saturating at 15. -/
def Event.again (e : Event) : Event := { e with rep := min 15 (e.rep + 1) }

/-- The list with its last entry changed. -/
def modLast {α : Type} (f : α → α) : List α → List α
  | [] => []
  | [x] => [f x]
  | x :: y :: xs => x :: modLast f (y :: xs)

/-- The queue without its newest entry below ERROR. -/
def dropNewestLow (q : List Event) : List Event :=
  let rec go : List Event → List Event
    | [] => []
    | e :: es => if e.sev < 2 then es else e :: go es
  (go q.reverse).reverse

/-- A latch slot's event joined to the latches: a repeated occurrence only counts (R415). -/
def latchAdd (e : Event) : List Latch → List Latch
  | [] => [⟨e.id, e.sev, e.arg, 1, e.erg⟩]
  | l :: ls => if l.id = e.id then { l with count := l.count + 1 } :: ls else l :: latchAdd e ls

/-- Latched slots ahead of anything new: entries of at most 15 occurrences each, as long as there is room (R415). -/
def Ev.refill : Nat → Ev → Ev
  | 0, v => v
  | fuel + 1, v =>
    match v.latch with
    | [] => v
    | l :: ls =>
      if v.queue.length < ingressSize then
        let k := min 15 l.count
        Ev.refill fuel { v with
          queue := v.queue ++ [⟨l.erg, l.id, l.sev, k, l.arg⟩]
          latch := if l.count ≤ 15 then ls else { l with count := l.count - 15 } :: ls
          newest := 0 }
      else v

/-- An event counted as dropped (R414, R415). -/
def Ev.dropped (v : Ev) : Ev := { v with overrun := min 0xFFFFFFFF (v.overrun + 1) }

/-- An event that takes an entry of its own: INFO and NOTICE are dropped where they find no room, an ERROR or
FAULT displaces the newest lower entry or waits in its latch (R415). -/
def Ev.enter (e : Event) (v : Ev) : Ev :=
  if e.sev < 2 then
    if v.queue.length < ingressLow then { v with queue := v.queue ++ [e], newest := 0 } else v.dropped
  else
    let v := if v.queue.length < ingressSize then v
      else if v.queue.any (fun x => decide (x.sev < 2)) then { v.dropped with queue := dropNewestLow v.queue }
      else v
    let v := v.refill ingressSize
    if v.queue.length < ingressSize then { v with queue := v.queue ++ [e], newest := 0 }
    else { v with latch := latchAdd e v.latch }

/-- The newest event that took an entry, in the queue or in the log (R415). -/
def Ev.last (v : Ev) : Option Event :=
  if v.newest = 0 then v.queue.getLast? else if v.newest = 1 then v.log.head?.map (·.ev) else none

/-- An event raised at Erg time now (R415). -/
def Ev.raise (now id sev : Nat) (arg : Word) (v : Ev) : Ev :=
  match v.last with
  | some e =>
    if e.merges now id arg then
      if v.newest = 0 then { v with queue := modLast Event.again v.queue }
      else { v with log := match v.log with
        | [] => []
        | l :: ls => { l with ev := l.ev.again } :: ls }
    else v.enter ⟨now, id, sev, 1, arg⟩
  | none => v.enter ⟨now, id, sev, 1, arg⟩

/-- One entry written from the queue to the log, and latched slots taken into the room it leaves (R414, R415). -/
def Ev.drain (v : Ev) : Ev :=
  match v.queue with
  | [] => v
  | e :: es =>
    let full := decide (logSize ≤ v.log.length)
    let v := if full then v.dropped else v
    ({ v with
        queue := es
        log := (({ seq := v.seq, ev := e } : LogEntry) :: v.log).take logSize
        seq := v.seq + 1
        newest := if es.isEmpty && v.newest = 0 then 1 else v.newest }).refill ingressSize

/-- An event raised now; before package epoch there is no Erg time and no entry (log 10). -/
def State.raise (id arg : Nat) (s : State) : State :=
  if s.sys.epoch then
    match sevOf id with
    | some sev => { s with ev := s.ev.raise s.sys.erg id sev (word arg) }
    | none => s
  else s

/-- An event raised when a condition holds. -/
def State.raiseIf (c : Bool) (id arg : Nat) (s : State) : State := if c then s.raise id arg else s

end Sys2Proof.Machine
end

