-- ==== Sys2Proof/Machine/Ops.lean ====
section
/-! DEFINITION. Operations that every family shares: parts of the state by number, pins and interrupts, the
mailbox response path, handles, and entry into autonomous hold (01 R29-R32; 10 R295-R301, R304-R308; 14 R403). -/
namespace Sys2Proof.Machine

/-- The outcome of a command. -/
abbrev Out := Host.Outcome State Fault Refusal

/-! ### Parts of the state -/

/-- Erg time in ns. -/
abbrev State.now (s : State) : Nat := s.sys.erg

/-- The window now in progress. -/
abbrev State.win (s : State) : Nat := s.sys.erg / 256

/-- Erg time in quanta of 1/32,768 ns. -/
abbrev State.nowQ (s : State) : Nat := s.sys.erg * 32768

/-- Autonomous hold is in force (R29). -/
abbrev State.inHold (s : State) : Bool := decide (s.sys.hold ≠ 0)
/-- What waits for a hold to end waits still: hold lasts, or evaluation and joint resets come first (R32). -/
def State.suspended (s : State) : Bool := s.inHold || decide (s.sys.follow ≠ 0)

/-- Controller 0 or 1. -/
def State.ctrl (s : State) (one : Bool) : Ctrl := if one then s.ctl.c1 else s.ctl.c0

/-- Controller 0 or 1 changed. -/
def State.modCtrl (s : State) (one : Bool) (f : Ctrl → Ctrl) : State :=
  if one then { s with ctl := { s.ctl with c1 := f s.ctl.c1 } } else { s with ctl := { s.ctl with c0 := f s.ctl.c0 } }

/-- The controller that is ACTIVE, true for controller 1 (R276). -/
def State.active (s : State) : Option Bool :=
  if s.ctl.c0.st = .active then some false else if s.ctl.c1.st = .active then some true else none

/-- Firmware controls Milbin: a controller is ACTIVE and no hold is in force (R29, R30). -/
def State.fw (s : State) : Bool := s.active.isSome && !s.inHold

/-- Chrysalis works: firmware controls Milbin, or runs at boot from step 5 on (R30, R368). -/
def State.chrysalis (s : State) : Bool := s.fw || (s.active.isSome && decide (s.sys.hold = 1 ∧ 5 ≤ s.sys.bootStep))

/-- A region. -/
def State.rgn (s : State) (r : RegionNo) : Region := Map.get Region.reset s.reg r

/-- A region replaced. -/
def State.setRgn (s : State) (r : RegionNo) (x : Region) : State := { s with reg := Map.put Region.reset s.reg r x }

/-- A region changed. -/
def State.modRgn (s : State) (r : RegionNo) (f : Region → Region) : State := s.setRgn r (f (s.rgn r))

/-- Several regions changed. -/
def State.modRgns (s : State) (rs : List RegionNo) (f : RegionNo → Region → Region) : State :=
  rs.foldl (fun s r => s.modRgn r (f r)) s

/-- A mailbox. -/
def State.box (s : State) (m : Fin 8) : Mailbox := s.mbx.box[m]

/-- A mailbox changed. -/
def State.modBox (s : State) (m : Fin 8) (f : Mailbox → Mailbox) : State :=
  { s with mbx := { s.mbx with box := s.mbx.box.set m (f s.mbx.box[m]) } }

/-- A handle's entry. -/
def State.handle (s : State) (i : Nat) : Handle := vget s.mbx.handle {} i

/-- A handle's entry changed. -/
def State.modHandle (s : State) (i : Nat) (f : Handle → Handle) : State :=
  { s with mbx := { s.mbx with handle := vmod s.mbx.handle i f } }

/-- The operation behind a handle changed. -/
def State.modOp (s : State) (i : Nat) (f : LongOp → LongOp) : State :=
  s.modHandle i fun h => { h with op := h.op.map f }

/-- A site's die. -/
def State.dieAt (s : State) (i : Nat) : Die := vget s.die.d {} i

/-- A site's die changed. -/
def State.modDie (s : State) (i : Nat) (f : Die → Die) : State := { s with die := { s.die with d := vmod s.die.d i f } }

/-- A site's routes. -/
def State.site (s : State) (i : Nat) : SiteOpt := vget s.opt.site {} i

/-- A site's routes changed. -/
def State.modSite (s : State) (i : Nat) (f : SiteOpt → SiteOpt) : State :=
  { s with opt := { s.opt with site := vmod s.opt.site i f } }

/-- A synthesizer. -/
def State.synth (s : State) (i : Nat) : Synth := vget s.ls.syn {} i

/-- A synthesizer changed. -/
def State.modSynth (s : State) (i : Nat) (f : Synth → Synth) : State :=
  { s with ls := { s.ls with syn := vmod s.ls.syn i f } }

/-- A port. -/
def State.port (s : State) (i : Nat) : Port := vget s.ls.port {} i

/-- A port changed. -/
def State.modPort (s : State) (i : Nat) (f : Port → Port) : State :=
  { s with ls := { s.ls with port := vmod s.ls.port i f } }

/-- A site's thermal level. -/
def State.therm (s : State) (i : Nat) : SiteTherm := vget s.sns.site {} i

/-- An anchor entry. -/
def State.anchor (s : State) (i : Nat) : Anchor := Map.get {} s.et.anchors i

/-- An anchor entry changed. -/
def State.modAnchor (s : State) (i : Nat) (f : Anchor → Anchor) : State :=
  { s with et := { s.et with anchors := Map.put {} s.et.anchors i (f (s.anchor i)) } }

/-- A free value: the draw's number is used up, and nothing constrains the value (log 6). -/
def State.draw (s : State) : Nat × State := (Config.freeNat s.fresh, { s with fresh := s.fresh + 1 })

/-- A free choice between two outcomes that the spec leaves open (log 6). -/
def State.drawBool (s : State) : Bool × State := (Config.freeBool s.fresh, { s with fresh := s.fresh + 1 })

/-! ### Regions of dies -/

/-- The boot-path regions (R369). -/
def bootPathRegion (r : RegionNo) : Bool :=
  (siteOf r == 16 && decide (localOf r < 8)) || ((siteOf r == 17 || siteOf r == 18) && decide (localOf r < 2))

/-- The region exists as a Milbin region (R5, R41): on a side slot only where a managed die stands. -/
def State.regionExists (s : State) (r : RegionNo) : Bool :=
  validRegion r && (decide (siteOf r ≤ 16) || (s.dieAt (siteOf r)).attach == 1)

/-- A boot-path region whose output is gated, and the logic it clocks held in reset, while it is calibrated in step 6 (R236, R369). -/
def State.bootGated (s : State) (r : RegionNo) : Bool := decide (s.sys.bootStep = 6) && !(s.rgn r).cal.bootDone

/-- The region runs: its die is released or it is a boot-path region, its supply is present, it is not held in a reset of
its own and it is not DEAD (R367, R369, R373, R374, R378). -/
def State.clocked (s : State) (r : RegionNo) : Bool :=
  let d := s.dieAt (siteOf r)
  let g := s.rgn r
  validRegion r && (d.ungated || (d.bootPath && bootPathRegion r && !s.bootGated r)) && !d.unpowered && !g.unpowered && !g.inReset
    && decide (g.chan.st ≠ .dead)

/-- A live region of a district: one that is not DEAD on a die that has been released (R411). -/
def State.live (s : State) (r : RegionNo) : Bool := s.regionExists r && decide ((s.rgn r).chan.st ≠ .dead)

/-- The management window answers: the package is out of reset and a region of district 240 is clocked (R20). -/
def State.windowUp (s : State) : Bool := !s.sys.pkgReset && (districtRegions 240).any s.clocked

/-! ### Pins and interrupts -/

/-- A bit of MB_IRQ_STATUS set (R289). -/
def State.irq (s : State) (n : Nat) : State :=
  { s with mbx := { s.mbx with irq := s.mbx.irq ||| word (2 ^ n) } }

/-- A cause asserts MLB_FAULT_N; FAULT of MB_IRQ_STATUS is set where the pin becomes asserted (R289, R403). -/
def State.mlbSet (s : State) (c : FaultCause) : State :=
  if s.sys.mlb.contains c then s
  else
    let t := { s with sys := { s.sys with mlb := s.sys.mlb ++ [c] } }
    if s.sys.mlb.isEmpty then t.irq 11 else t

/-- A cause no longer asserts MLB_FAULT_N (R403). -/
def State.mlbClear (s : State) (c : FaultCause) : State :=
  { s with sys := { s.sys with mlb := s.sys.mlb.filter (· ≠ c) } }

/-! ### Status codes (Table 11-1) -/

abbrev stOk : Nat := 0x00
abbrev stAccepted : Nat := 0x01
abbrev stPartial : Nat := 0x02
abbrev stBusy : Nat := 0x10
abbrev stFull : Nat := 0x11
abbrev stBadArg : Nat := 0x20
abbrev stLevel : Nat := 0x21
abbrev stFenced : Nat := 0x30
abbrev stTorn : Nat := 0x31
abbrev stTimeout : Nat := 0x40
abbrev stRefused : Nat := 0x50
abbrev stQuarantined : Nat := 0x51
abbrev stAuth : Nat := 0x60
abbrev stVerify : Nat := 0x61
abbrev stVersion : Nat := 0x62
abbrev stHoldover : Nat := 0x70
abbrev stInternal : Nat := 0xF0

/-! ### Responses -/

/-- What a command answers (Table 10-9). -/
structure Reply where
  status  : Nat
  payload : Bytes := []
  argOff  : Nat := 0xFFFF
  retry   : Nat := 0
  handle  : Option Nat := none
  deriving DecidableEq, Repr

/-- How a command ends: with a response and its effect, or waiting under its own rule (R318). -/
inductive Result where
  | done (r : Reply) (s : State)
  | wait (w : Wait) (s : State)
  deriving DecidableEq, Repr

/-- OK with a payload. -/
def okReply (p : Bytes := []) : Reply := { status := stOk, payload := p }

/-- BAD_ARG naming the payload offset of the first field that failed; ARG_OFF counts from the buffer's start (R294,
R317). -/
def badArg (off : Nat) : Reply := { status := stBadArg, argOff := 16 + off }

/-- BAD_ARG naming TARGET, at bytes 8-9 of the header. -/
def badTarget : Reply := { status := stBadArg, argOff := 8 }

/-- A code alone. -/
def codeReply (st : Nat) : Reply := { status := st }

/-- BUSY with a RETRY_US. -/
def busyReply (us : Nat) : Reply := { status := stBusy, retry := us }

/-- A refused command: a response and no effect (R299). -/
def refuse (r : Reply) (s : State) : Result := .done r s

/-- The response buffer of a request held in `req` (Table 10-9). Only BAD_ARG and LEVEL carry ARG_OFF, only BUSY
RETRY_US. -/
def respBytes (req : Bytes) (r : Reply) (replayed responder : Bool) : Bytes :=
  slice req 0 4 ++ [BitVec.ofNat 8 r.status] ++
  toLE 1 (b2n (decide (240 < r.payload.length)) + 2 * b2n replayed + 4 * b2n r.handle.isSome + 8 * b2n responder) ++
  toLE 2 r.payload.length ++ toLE 2 (r.handle.getD 0) ++
  toLE 2 (if r.status = stBadArg ∨ r.status = stLevel then r.argOff else 0xFFFF) ++
  toLE 4 (if r.status = stBusy then min r.retry 0xFFFFFFFF else 0) ++
  r.payload.take 240

/-- The mailbox moves to RESPONDED with a response buffer (R295). -/
def State.deliver (s : State) (m : Fin 8) (resp : Bytes) (replayed : Bool) : State :=
  (s.modBox m fun b => { b with
    resp := trim resp
    st := .responded
    lastSeq := BitVec.ofNat 16 (le b.req 2 2)
    lastStatus := BitVec.ofNat 8 (byteAt resp 4)
    replayed := replayed
    wait := none }).irq m

/-- A response of the mailbox responder: nothing is committed (R31). -/
def State.answerHw (s : State) (m : Fin 8) (r : Reply) : State := s.deliver m (respBytes (s.box m).req r false true) false

/-- A response committed to the journal and then copied to the buffer, a debug command's too: every command has one commit point. A payload
over 240 bytes spills (R298, R299). -/
def State.answer (s : State) (m : Fin 8) (r : Reply) : State :=
  let b := s.box m
  let resp := respBytes b.req r false false
  let long := decide (240 < r.payload.length)
  let s := s.modBox m fun b => { b with
    journal := some ⟨trim b.req, trim resp, b.src, long⟩
    spill := if long then some (r.payload.take 8192) else b.spill
    spillTop := if long then max b.spillTop (min 8192 r.payload.length) else b.spillTop }
  let s := { s with mbx := { s.mbx with asks := s.mbx.asks + 1, spillAsks := s.mbx.spillAsks + b2n long } }
  s.deliver m resp false

/-- RETRY_US of the hardware responder in us (R31). -/
def State.retryUs (s : State) : Nat :=
  if s.sys.hold = 1 then 10000
  else if s.sys.hold = 2 then (s.sys.causeFrom + 200000000 - s.now + 999) / 1000
  else if s.sys.hold = 3 then 2000
  else 0

/-- BUSY from the hardware responder (R31). -/
def State.answerBusy (s : State) (m : Fin 8) : State := s.answerHw m (busyReply s.retryUs)

/-- Key of a lane: the region it arrives at and its link. -/
def laneKey (r : RegionNo) (k : Nat) : Nat := 4 * r + k

/-- The lane arriving at a region on a link. -/
def State.laneAt (s : State) (r : RegionNo) (k : Nat) : Lane := Map.get {} s.xg.lane (laneKey r k)

/-- A lane changed. -/
def State.modLane (s : State) (r : RegionNo) (k : Nat) (f : Lane → Lane) : State :=
  { s with xg := { s.xg with lane := Map.put {} s.xg.lane (laneKey r k) (f (s.laneAt r k)) } }

/-- A request that waits under its own rule is given up: what it had taken is given back, for it has had no effect
(R299, R301). The capture of a PENDING anchor runs on, and frees the entry when it comes (Table 4-10). -/
def State.undoWait (s : State) (w : Wait) : State :=
  match w with
  | .anchorAdd _ => s
  | .period left _ _ => left.foldl (fun s r => s.modRgn r fun g => { g with
      sent := none
      tx := match g.tx with
        | some (.period _, _) => none
        | _ => g.tx }) s
  | .convert i _ _ => s.modAnchor i fun a => { a with busy := a.busy - 1 }
  | .fence f => { s with cfg := { s.cfg with fences := s.cfg.fences.filter (·.f ≠ f) } }
  | .pairRecal r k => s.modLane r k fun l => if l.st = .calibrating then { l with st := l.before } else l
  | _ => s

/-- Every request in progress is settled by the responder (R301). No command of MBX7 waits, so MBX0-MBX6 are all
that can be in progress between two commands. -/
def State.settle (s : State) : State :=
  (List.finRange 8).foldl (fun s m =>
    let b := s.box m
    if m ≠ 7 ∧ (b.st = .posted ∨ b.st = .working) then
      let s := match b.wait with
        | some w => s.undoWait w
        | none => s
      s.answerBusy m
    else s) s

/-! ### The evaluation in progress -/

/-- Districts whose records stand in the back buffer n ns after E. DESIGN CHOICE (log 51): Table 3-1 gives the array E + 32 to
E + 447 and no instant of a district's own; the records come evenly spaced in district order. -/
def evalReached (n : Nat) : Nat := min 256 ((n - 31) * 256 / 416)

/-- Records up to a district written into the back buffer, their saturations counted (R76, R90, R92). -/
def Hm.evalStep (h : Hm) (k : Nat) : Hm :=
  match h.eval with
  | none => h
  | some v =>
    let new := ((List.range 256).zip v.recs).take k |>.drop v.done
    { h with
      back := new.foldl (fun m x => Map.put none m x.1 (some x.2.1)) h.back
      sat := h.sat + Machine.word ((new.map (·.2.2)).sum)
      eval := some { v with done := max v.done (min k v.recs.length) } }

/-- The back buffer and SAT_CNT brought up to this instant (R76, R90). -/
def State.evalNow (s : State) : State :=
  match s.hm.eval with
  | none => s
  | some v => { s with hm := s.hm.evalStep (evalReached (s.now - v.e)) }

/-! ### Autonomous hold -/

/-- floor(a / b) for b > 0 (R227). -/
def fdiv (a b : Int) : Int := Int.fdiv a b

/-- Interval and midpoint of a range in six period values. -/
def rangeOf (v : List Nat) (k : Nat) : Nat × Nat := (v.getD (2 * k) 0, v.getD (2 * k + 1) 0)

/-- Twice the distance of a code from a range's midpoint, in 1/8 code unit. -/
def rangeDist (v : List Nat) (k c : Nat) : Nat :=
  let (p0, p1) := rangeOf v k
  ((p0 + p1 : Int) - 16 * c).natAbs

/-- The nearest of some ranges by midpoint, the lower-numbered on a tie. -/
def nearestRange (v : List Nat) (c : Nat) : List Nat → Nat
  | [] => 1
  | [k] => k
  | k :: ks => let j := nearestRange v c ks; if rangeDist v k c ≤ rangeDist v j c then k else j

/-- The range for a code: one whose interval holds 8c, nearest by midpoint; where none does, the nearest of all (R228,
log 12). -/
def pickRange (v : List Nat) (c : Nat) : Nat :=
  let inside := [0, 1, 2].filter fun k => let (p0, p1) := rangeOf v k; decide (p1 ≤ 8 * c ∧ 8 * c ≤ p0)
  nearestRange v c (if inside.isEmpty then [0, 1, 2] else inside)

/-- The bias for a code in a range (R228), within the DAC's 12 bits. -/
def biasFor (v : List Nat) (k c : Nat) : Nat :=
  let (p0, p1) := rangeOf v k
  if p0 ≤ p1 then 0
  else (clampI 0 4095 (fdiv (2 * 4095 * ((p0 : Int) - 8 * c) + (p0 - p1)) (2 * (p0 - p1)))).toNat

/-- An oscillator loaded for a code from the working set; before the first set it keeps its fixed range-1 setting (R228,
R369). -/
def Region.load (g : Region) (oscB : Bool) (c : Nat) : Region :=
  match g.ws with
  | none => g
  | some w =>
    let v := if oscB then w.b else w.a
    let k := pickRange v c
    if oscB then { g with fl := { g.fl with rangeB := k, biasB := biasFor v k c } }
    else { g with fl := { g.fl with rangeA := k, biasA := biasFor v k c } }

/-- A busy twin is standby again: it is reloaded for the nominal in force, which may have been latched while it was measured, and locks
within 4 windows (R62, Table 8-9, Table 8-11). -/
def Region.twinBack (g : Region) (win : Nat) : Region :=
  { (g.load (!g.chan.activeB) g.nominal) with
    chan := { g.chan with
      twin := .standby, locked := false, reloadWin := some (win + 4), st := if g.chan.st = .twinBusy then .paired else g.chan.st } }

/-- A region at entry into hold: work on its twin is discarded and a planned swap abandoned, both to be taken up again; a swap
for a drift failure goes on (R64, Table 1-5, Table 1-7). -/
def Region.holdPause (g : Region) (win : Nat) : Region :=
  let drift : Bool := match g.swap with
    | some w => decide (w.why = .drift)
    | none => false
  let c := g.cal
  let back := (decide (3 ≤ c.phase) || g.swap.isSome) && decide (g.chan.twin = .busy) && !drift
  let g := if back then g.twinBack win else g
  { g with
    swap := if drift then g.swap else none
    cal := if 3 ≤ c.phase then { c with
        phase := if c.dueReq || c.test then 2 else 1, ending := false, runs := [], reduced := [], voids := 0, gapStart := none, gapWins := 0
        gapNow := none, dueDrift := c.dueDrift || (!c.test && !c.dueAge && !c.dueReq), dueTest := c.dueTest || c.test }
      else c }

/-- Calibration, self-test and planned swaps stopped for hold. -/
def State.holdPause (s : State) : State :=
  { s with
    reg := s.reg.foldl (fun m e => Map.put Region.reset m e.1 (e.2.holdPause s.win)) []
    cal := { s.cal with busy := [] } }

/-- Slots given back what they held before a fence was armed. -/
def State.unfence (s : State) (e : Fence) : State :=
  match e.image with
  | some (k, old, _) => { s with cfg := { s.cfg with slots := vmod s.cfg.slots k fun _ => old } }
  | none => s

/-- Armed fences at entry into hold: disarmed; a handle stops at its validation safe point, a throttle overlay and a Limp
trigger wait for the end of hold (Table 12-6, R32, R418). -/
def State.holdFences (s : State) : State :=
  let fs := s.cfg.fences
  let keep := fs.filter fun e => match e.kind with
    | .overlay _ _ => true
    | _ => false
  let s := fs.foldl State.unfence s
  let s := keep.foldl (fun s e => match e.kind with
    | .overlay _ h => s.modOp h fun o => { o with step := 3 }
    | _ => s) s
  { s with
    cfg := { s.cfg with fences := [], stopped := s.cfg.stopped ++ keep }
    sns := if fs.any (·.throttle) then { s.sns with
        overlayDue := true
        dueTiles := (List.range 64).filter fun t => (vget s.sns.tile {} t).trusted
        dueSites := allSites.filter fun i => decide (3 ≤ (s.therm i).level) }
      else s.sns
    sys := { s.sys with limpDue := fs.foldl (fun n e => if e.limp = 0 then n else e.limp) s.sys.limpDue } }

/-- Rejoins stop at once for hold: the site reads LOST, and its signs of life are kept (Table 13-8). -/
def State.holdRejoin (s : State) : State :=
  allSites.foldl (fun s i => s.modDie i fun d =>
    if d.joinAt.isSome then { d with st := if d.st = .rejoining then .lost else d.st, joinAt := none, checks := 0 } else d) s

/-- Entry into hold, or a change of its cause: EV_HOLD_ENTER with the cause; the mailboxes are settled on entry; discipline stops, so
that Erg time runs in holdover where the crystal is lost; MLB_FAULT_N is asserted with cause 4 (R29, R301, Table 1-7). -/
def State.enterHold (s : State) (cause : Nat) : State :=
  let fresh := decide (s.sys.hold = 0)
  let s := { s with sys := { s.sys with
    hold := cause
    holdFrom := if fresh then s.now else s.sys.holdFrom
    causeFrom := s.now
    released := none
    overrun := false } }
  let s := (s.raise evHoldEnter cause).irq 9
  let s := if s.et.xtalLost ∧ s.et.span then { s with et := { s.et with holdover := true, span := false } } else s
  let s := if fresh then
      { s.holdFences.settle.holdPause.holdRejoin with hm := { s.evalNow.hm with eval := none, next := s.hm.next.map fun w => { w with void := true } } }
    else s
  if cause = 4 then s.mlbSet .hold4 else s.mlbClear .hold4

/-! ### Handles -/

/-- The 16-bit handle of an index: generation in [15:5], index in [4:0] (R304). -/
def State.handleNo (s : State) (i : Nat) : Nat := (s.handle i).gen.toNat * 32 + i

/-- The lowest free handle, at most 30 in use but by MBX7 (R304). -/
def State.freeHandle (s : State) (debug : Bool) : Option Nat :=
  let used := (List.range 32).filter fun i => match (s.handle i).op with
    | some o => decide (o.starter ≠ some 7)
    | none => false
  if !debug && decide (30 ≤ used.length) then none
  else (List.range 32).find? fun i => (s.handle i).op.isNone

/-- An operation reaches DONE (R306); an ASYNC one sets its bit in MB_HANDLE_DONE and HANDLE_DONE (R308). -/
def State.finishOp (s : State) (i : Nat) (o : Outcome) (st : Nat) : State :=
  match (s.handle i).op with
  | some op =>
    let s := s.modOp i fun op => { op with st := .done, outcome := o, final := st, done := s.now }
    if op.async then
      ({ s with mbx := { s.mbx with done := s.mbx.done ||| word (2 ^ i) } } : State).irq 8
    else s
  | none => s

/-- A DONE handle is freed and its generation incremented (R308). -/
def State.releaseHandle (s : State) (i : Nat) : State := s.modHandle i fun h => { gen := h.gen + 1, op := none }

/-- Opcode of a kind of long operation (Table 10-13). -/
def OpKind.opcode : OpKind → Nat
  | .modelLoad => 0x0304
  | .spareInsert => 0x0502
  | .calRun => 0x0801
  | .selftestRun => 0x0802
  | .crossRelease => 0x0703
  | .overlayApply => 0x0A02
  | .fwUpdate => 0x0A05

/-- A handle not DONE whose operation meets a condition. -/
def State.findOp (s : State) (p : LongOp → Bool) : Option Nat :=
  (List.range 32).find? fun i => match (s.handle i).op with
    | some o => decide (o.st ≠ .done) && p o
    | none => false

/-- A long operation accepted: a handle taken and ACCEPTED answered with it, or FULL (R304). -/
def State.startOp (s : State) (q : Req) (op : LongOp) (k : Nat → State → State) : Result :=
  match s.freeHandle (decide (q.mbx = 7)) with
  | some i =>
    let op := { op with starter := some q.mbx, start := s.now, timer := s.now, async := bitOf (q.flags.setWidth 32) 3 }
    let s := s.modHandle i fun h => { h with op := some op }
    .done { status := stAccepted, handle := some (s.handleNo i) } (k i s)
  | none => .done (codeReply stFull) s

/-! ### Wear (R269, R270, R272) -/

/-- Nanoseconds of an hour. -/
def hourNs : Nat := 3600000000000

/-- Stress-hours: whole hours of accumulated stress and imported ones, saturating at 32 bits (R269, R272). -/
def stressHours (units imported : Nat) : Nat := min 0xFFFFFFFF (units * 2048 / hourNs + imported)

/-- MB_WEAR_DSP of oscillator i of a district spare pair. -/
def State.spareHours (s : State) (d i : Nat) : Nat :=
  stressHours (Map.get 0 s.sns.spare (2 * d + i)) (Map.get 0 s.sns.spareIn (2 * d + i))

/-- MB_WEAR_OSCA or MB_WEAR_OSCB. -/
def State.oscHours (s : State) (r : RegionNo) (b : Bool) : Nat :=
  let g := s.rgn r
  if b then stressHours g.wearB g.wearInB else stressHours g.wearA g.wearInA

/-- Hours of the serving oscillator A or B: the district spare pair's once it serves (R269). -/
def State.servingHours (s : State) (r : RegionNo) (b : Bool) : Nat :=
  if (s.rgn r).chan.onSpare then s.spareHours (districtOf r) (b2n b) else s.oscHours r b

/-- AUTO_WEAR. -/
def State.autoWear (s : State) : Bool := bitOf s.sns.ctrl.eff 1

/-- OSC_WEAR_TH in stress-hours. -/
def State.oscWearTh (s : State) : Nat := fld s.sns.wearctl.eff 31 16 * 100

/-- The active oscillator has reached the threshold and its twin has not (R270). -/
def State.wearSwap (s : State) (r : RegionNo) : Bool :=
  let b := (s.rgn r).chan.activeB
  s.autoWear && decide (s.oscWearTh ≤ s.servingHours r b) && decide (s.servingHours r (!b) < s.oscWearTh)

end Sys2Proof.Machine
end

