-- ==== Sys2Proof/Machine/Operands.lean ====
section
/-! DEFINITION. The operands of a mailbox request: its header and payload fields, and what the command tables say
of each opcode's form (10 R291-R293, R296; 11 R312-R317, Tables 11-2 to 11-16). -/
namespace Sys2Proof.Machine

/-- The Level column (R313): B, E, or B/E. -/
inductive Level where
  | basic | expert | both
  deriving DecidableEq, Repr

/-- The Mbx column (R314): H, A, S, D. -/
structure MbxSet where
  h : Bool
  a : Bool
  s : Bool
  d : Bool
  deriving DecidableEq, Repr

/-- One opcode of the command tables: its form, its mailboxes, whether only the test port may send it (Table 10-12),
whether it defines TARGET, FORCE and EVICT, whether it is a long operation, its expert fields and all its payload fields, as payload offset and length;
bytes outside them are reserved (R317). -/
structure OpInfo where
  level  : Level
  mbx    : MbxSet
  testOnly : Bool
  target : Bool
  force  : Bool
  evict  : Bool
  long   : Bool
  expert : List (Nat × Nat)
  fields : List (Nat × Nat)
  deriving DecidableEq, Repr

/-- Group 0x01. -/
def opRows01 : List (Nat × OpInfo) :=
  [(0x0101, ⟨.basic, ⟨true, true, true, true⟩, false, true, false, false, false, [], []⟩),
   (0x0102, ⟨.basic, ⟨true, true, true, true⟩, false, true, false, false, false, [], []⟩),
   (0x0103, ⟨.basic, ⟨true, true, true, true⟩, false, true, false, false, false, [], []⟩),
   (0x0104, ⟨.basic, ⟨true, true, true, true⟩, false, true, false, false, false, [], []⟩),
   (0x0105, ⟨.basic, ⟨true, true, true, true⟩, false, true, false, false, false, [], [(0, 4), (8, 232)]⟩),
   (0x0106, ⟨.basic, ⟨true, true, true, true⟩, false, false, false, false, false, [], [(0, 4)]⟩),
   (0x0107, ⟨.basic, ⟨true, true, true, true⟩, false, false, false, false, false, [], []⟩)]

/-- Group 0x02. -/
def opRows02 : List (Nat × OpInfo) :=
  [(0x0201, ⟨.both, ⟨true, false, false, false⟩, false, true, true, false, false, [(2, 2)], [(0, 4)]⟩),
   (0x0202, ⟨.basic, ⟨true, true, true, true⟩, false, true, false, false, false, [], []⟩),
   (0x0203, ⟨.expert, ⟨true, false, false, false⟩, false, false, false, false, false, [], [(0, 6)]⟩),
   (0x0204, ⟨.expert, ⟨true, false, false, false⟩, false, false, false, false, false, [], [(0, 6), (8, 232)]⟩)]

/-- Group 0x03. -/
def opRows03 : List (Nat × OpInfo) :=
  [(0x0301, ⟨.basic, ⟨false, true, false, false⟩, false, false, false, false, false, [], [(0, 240)]⟩),
   (0x0302, ⟨.both, ⟨true, false, false, false⟩, false, false, false, false, false, [(1, 1)], [(0, 2)]⟩),
   (0x0303, ⟨.basic, ⟨true, true, true, true⟩, false, true, false, false, false, [], [(0, 1)]⟩),
   (0x0304, ⟨.both, ⟨true, false, false, false⟩, false, false, false, false, true, [(2, 2)], [(0, 4)]⟩),
   (0x0305, ⟨.basic, ⟨true, false, false, false⟩, false, false, false, false, false, [], [(0, 2)]⟩),
   (0x0306, ⟨.expert, ⟨true, false, false, false⟩, false, false, false, false, false, [], [(0, 6)]⟩),
   (0x0307, ⟨.expert, ⟨true, false, false, false⟩, false, false, false, false, false, [], [(0, 6), (8, 232)]⟩)]

/-- Group 0x04. -/
def opRows04 : List (Nat × OpInfo) :=
  [(0x0401, ⟨.basic, ⟨true, true, true, false⟩, false, false, false, false, false, [], []⟩),
   (0x0402, ⟨.both, ⟨true, true, false, false⟩, false, true, false, true, false, [(16, 2), (18, 1)], [(0, 2), (8, 8), (16, 3)]⟩),
   (0x0403, ⟨.basic, ⟨true, true, false, false⟩, false, true, false, false, false, [], []⟩),
   (0x0404, ⟨.basic, ⟨true, true, true, true⟩, false, true, false, false, false, [], []⟩),
   (0x0405, ⟨.basic, ⟨true, true, false, false⟩, false, true, false, false, false, [], [(0, 1), (8, 8), (16, 10)]⟩),
   (0x0406, ⟨.expert, ⟨true, false, false, false⟩, false, false, false, false, false, [], [(0, 5)]⟩),
   (0x0407, ⟨.expert, ⟨true, false, false, false⟩, false, false, false, false, false, [], [(0, 6)]⟩),
   (0x0408, ⟨.expert, ⟨true, false, false, false⟩, false, false, false, false, false, [], [(0, 6), (8, 232)]⟩)]

/-- Group 0x05. -/
def opRows05 : List (Nat × OpInfo) :=
  [(0x0501, ⟨.basic, ⟨true, true, true, true⟩, false, true, false, false, false, [], []⟩),
   (0x0502, ⟨.both, ⟨true, false, false, false⟩, false, true, true, false, true, [(2, 1)], [(0, 3)]⟩),
   (0x0503, ⟨.expert, ⟨true, false, false, false⟩, false, true, false, false, false, [], [(0, 3)]⟩),
   (0x0504, ⟨.expert, ⟨true, false, false, false⟩, false, false, false, false, false, [], [(0, 6)]⟩),
   (0x0505, ⟨.expert, ⟨true, false, false, false⟩, false, false, false, false, false, [], [(0, 6), (8, 232)]⟩)]

/-- Group 0x06. -/
def opRows06 : List (Nat × OpInfo) :=
  [(0x0601, ⟨.basic, ⟨true, true, true, true⟩, false, true, false, false, false, [], [(0, 1)]⟩),
   (0x0602, ⟨.both, ⟨true, false, false, false⟩, false, true, true, false, false, [(2, 1)], [(0, 3)]⟩),
   (0x0603, ⟨.expert, ⟨true, false, false, false⟩, false, false, false, false, false, [], [(0, 6)]⟩),
   (0x0604, ⟨.expert, ⟨true, false, false, false⟩, false, false, false, false, false, [], [(0, 6), (8, 232)]⟩)]

/-- Group 0x07. -/
def opRows07 : List (Nat × OpInfo) :=
  [(0x0701, ⟨.basic, ⟨true, true, true, true⟩, false, true, false, false, false, [], [(0, 1), (4, 4)]⟩),
   (0x0702, ⟨.expert, ⟨true, false, false, false⟩, false, false, false, false, false, [], [(0, 4)]⟩),
   (0x0703, ⟨.expert, ⟨true, false, false, false⟩, false, true, false, false, true, [], [(0, 1)]⟩),
   (0x0704, ⟨.expert, ⟨true, false, false, false⟩, false, true, false, false, false, [], [(0, 1)]⟩),
   (0x0705, ⟨.expert, ⟨true, false, false, false⟩, false, false, false, false, false, [], [(0, 6)]⟩),
   (0x0706, ⟨.expert, ⟨true, false, false, false⟩, false, false, false, false, false, [], [(0, 6), (8, 232)]⟩)]

/-- Group 0x08. -/
def opRows08 : List (Nat × OpInfo) :=
  [(0x0801, ⟨.both, ⟨true, false, false, false⟩, false, true, false, false, true, [(1, 1), (2, 1)], [(0, 3)]⟩),
   (0x0802, ⟨.both, ⟨true, false, false, false⟩, false, true, false, false, true, [(1, 1), (2, 1)], [(0, 3)]⟩),
   (0x0803, ⟨.basic, ⟨true, true, true, true⟩, false, true, false, false, false, [], []⟩),
   (0x0804, ⟨.expert, ⟨true, false, false, false⟩, false, true, false, false, false, [], [(0, 1)]⟩),
   (0x0805, ⟨.expert, ⟨true, false, false, false⟩, false, false, false, false, false, [], [(0, 6)]⟩),
   (0x0806, ⟨.expert, ⟨true, false, false, false⟩, false, false, false, false, false, [], [(0, 6), (8, 232)]⟩)]

/-- Group 0x09. -/
def opRows09 : List (Nat × OpInfo) :=
  [(0x0901, ⟨.basic, ⟨true, true, true, true⟩, false, true, false, false, false, [], [(0, 1)]⟩),
   (0x0902, ⟨.basic, ⟨true, true, true, true⟩, false, false, false, false, false, [], []⟩),
   (0x0903, ⟨.basic, ⟨true, false, false, false⟩, false, false, false, false, false, [], [(0, 4)]⟩),
   (0x0904, ⟨.basic, ⟨true, true, true, true⟩, false, true, false, false, false, [], [(0, 2)]⟩),
   (0x0905, ⟨.basic, ⟨true, false, false, false⟩, false, false, false, false, false, [], [(0, 1)]⟩),
   (0x0906, ⟨.basic, ⟨true, false, false, false⟩, false, false, false, false, false, [], [(0, 1), (4, 4), (8, 224)]⟩),
   (0x0907, ⟨.expert, ⟨true, false, false, false⟩, false, false, false, false, false, [], [(0, 6)]⟩),
   (0x0908, ⟨.expert, ⟨true, false, false, false⟩, false, false, false, false, false, [], [(0, 6), (8, 232)]⟩)]

/-- Group 0x0A. -/
def opRows0A : List (Nat × OpInfo) :=
  [(0x0A01, ⟨.basic, ⟨true, true, true, true⟩, false, false, false, false, false, [], []⟩),
   (0x0A02, ⟨.both, ⟨true, false, false, false⟩, false, false, false, false, true, [(4, 4)], [(0, 2), (4, 4)]⟩),
   (0x0A03, ⟨.basic, ⟨true, false, false, false⟩, false, false, false, false, false, [], [(0, 2)]⟩),
   (0x0A04, ⟨.basic, ⟨true, false, false, false⟩, false, false, false, false, false, [], [(0, 1)]⟩),
   (0x0A05, ⟨.both, ⟨true, false, false, false⟩, false, false, false, false, true, [(4, 4)], [(0, 1), (4, 4)]⟩)]

/-- Group 0x0B. -/
def opRows0B : List (Nat × OpInfo) :=
  [(0x0B01, ⟨.basic, ⟨true, true, true, true⟩, false, false, false, false, false, [], []⟩),
   (0x0B02, ⟨.basic, ⟨true, false, true, false⟩, false, false, false, false, false, [], [(0, 2), (8, 8)]⟩),
   (0x0B03, ⟨.basic, ⟨true, false, true, false⟩, false, false, false, false, false, [], [(0, 1)]⟩),
   (0x0B04, ⟨.expert, ⟨true, false, true, false⟩, false, false, false, false, false, [], [(0, 1), (16, 16)]⟩),
   (0x0B05, ⟨.basic, ⟨true, false, true, false⟩, false, false, false, false, false, [], [(0, 10), (16, 10), (32, 4)]⟩),
   (0x0B06, ⟨.expert, ⟨true, false, false, false⟩, false, false, false, false, false, [], [(0, 6)]⟩),
   (0x0B07, ⟨.expert, ⟨true, false, false, false⟩, false, false, false, false, false, [], [(0, 6), (8, 232)]⟩)]

/-- Group 0x0C. -/
def opRows0C : List (Nat × OpInfo) :=
  [(0x0C01, ⟨.basic, ⟨true, false, false, false⟩, false, false, false, false, false, [], [(0, 5)]⟩),
   (0x0C02, ⟨.basic, ⟨true, true, true, true⟩, false, true, false, false, false, [], []⟩),
   (0x0C03, ⟨.expert, ⟨true, false, false, false⟩, false, false, false, false, false, [], [(0, 6)]⟩),
   (0x0C04, ⟨.expert, ⟨true, false, false, false⟩, false, false, false, false, false, [], [(0, 6), (8, 232)]⟩),
   (0x0C10, ⟨.basic, ⟨false, false, false, true⟩, false, false, false, false, false, [], [(0, 1), (4, 6)]⟩),
   (0x0C11, ⟨.basic, ⟨false, false, false, true⟩, true, false, false, false, false, [], [(0, 1), (4, 6), (16, 224)]⟩),
   (0x0C12, ⟨.basic, ⟨false, false, false, true⟩, true, false, false, false, false, [], []⟩),
   (0x0C13, ⟨.basic, ⟨false, false, false, true⟩, true, false, false, false, false, [], []⟩),
   (0x0C14, ⟨.basic, ⟨false, false, false, true⟩, true, false, false, false, false, [], [(0, 1)]⟩)]

/-- The command tables. -/
def opRows : List (Nat × OpInfo) :=
  opRows01 ++ opRows02 ++ opRows03 ++ opRows04 ++ opRows05 ++ opRows06 ++ opRows07 ++ opRows08 ++ opRows09 ++ opRows0A ++ opRows0B ++ opRows0C

/-- What the tables say of an opcode; none where it is not listed (R312). -/
def opInfo (op : Nat) : Option OpInfo := (opRows.find? (·.1 == op)).map (·.2)

/-- The debug commands (Table 10-12). -/
def isDebugOp (op : Nat) : Bool := decide (0x0C10 ≤ op) && decide (op ≤ 0x0C14)

/-- Whether a mailbox is in a command's set (Table 10-7). -/
def MbxSet.has (x : MbxSet) (m : Fin 8) : Bool :=
  if m.val ≤ 3 then x.h else if m.val ≤ 5 then x.a else if m.val = 6 then x.s else x.d

end Sys2Proof.Machine

namespace Sys2Proof

/-! ### Fields of a request -/

/-- FLAGS [0]. -/
def Req.level (q : Req) : Bool := q.flags.getLsbD 0
/-- FLAGS [1]. -/
def Req.force (q : Req) : Bool := q.flags.getLsbD 1
/-- FLAGS [2]. -/
def Req.evict (q : Req) : Bool := q.flags.getLsbD 2
/-- FLAGS [3]. -/
def Req.isAsync (q : Req) : Bool := q.flags.getLsbD 3

/-- Payload field of n bytes at an offset, little-endian; bytes past LENGTH read as zero (log 11). -/
def Req.le (q : Req) (off n : Nat) : Nat := Machine.le q.payload off n

/-- One payload byte. -/
def Req.u8 (q : Req) (off : Nat) : Nat := Machine.byteAt q.payload off

/-- TARGET. -/
def Req.tgt (q : Req) : Nat := q.target.toNat

/-- LENGTH. -/
def Req.len (q : Req) : Nat := q.payload.length

/-- The request buffer a caller writes (Table 10-8). -/
def Req.encode (op : Nat) (q : Req) : Bytes :=
  Machine.padTo 256 (Machine.toLE 2 op ++ Machine.toLE 2 q.seq.toNat ++ Machine.toLE 1 q.flags.toNat ++ Machine.zeros 1 ++ Machine.toLE 2 q.payload.length ++
    Machine.toLE 2 q.target.toNat ++ Machine.zeros 6 ++ q.payload)

/-- The request that a buffer holds. -/
def Req.ofBuffer (m : Fin 8) (test : Bool) (buf : Bytes) : Req :=
  { mbx := m, test := test, seq := BitVec.ofNat 16 (Machine.le buf 2 2), flags := BitVec.ofNat 8 (Machine.byteAt buf 4),
    target := BitVec.ofNat 16 (Machine.le buf 8 2), payload := Machine.slice buf 16 (min 240 (Machine.le buf 6 2)) }

end Sys2Proof

namespace Sys2Proof.Machine

/-! ### The checks of R296 -/

/-- Step 1: a reserved field or flag bit is nonzero, or LENGTH exceeds 240. -/
def checkHeader (buf : Bytes) : Option Reply :=
  let bad (off : Nat) : Option Reply := some { status := stBadArg, argOff := off }
  if 16 ≤ byteAt buf 4 then bad 4
  else if byteAt buf 5 ≠ 0 then bad 5
  else if 240 < Machine.le buf 6 2 then bad 6
  else match (List.range 6).find? (fun i => byteAt buf (10 + i) ≠ 0) with
    | some i => bad (10 + i)
    | none => none

/-- Reserved bits inside the payload fields of a command: the byte, the bits, and where the field begins (Tables 11-6, 11-12, 11-13). The
words of a FORECAST_POST are judged under Table 3-3. -/
def reservedBits (op : Nat) : List (Nat × BitVec 8 × Nat) :=
  if op = 0x0402 then [(1, 0xE0, 0), (18, 0xFE, 18)]
  else if op = 0x0801 then [(2, 0xFE, 2)]
  else if op = 0x0903 then [(1, 0xF0, 0), (3, 0xF0, 2)]
  else []

/-- Step 1 for the payload: a byte that the command's table does not name is nonzero, or a reserved bit of one that it names (R17, R296,
R317). -/
def checkPayload (op : Nat) (i : OpInfo) (q : Req) : Option Reply :=
  ((List.range q.payload.length).findSome? fun k =>
    let b := q.payload.getD k 0
    if b ≠ 0 ∧ !(i.fields.any fun f => decide (f.1 ≤ k ∧ k < f.1 + f.2)) then some k
    else ((reservedBits op).find? fun x => decide (x.1 = k ∧ b &&& x.2.1 ≠ 0)).map (·.2.2)).map badArg

/-- Step 3: mailbox, path and expert permission. -/
def checkAuth (s : State) (i : OpInfo) (q : Req) : Option Reply :=
  if !i.mbx.has q.mbx || (i.testOnly && !q.test) || (q.level && !s.mbx.expert.getLsbD q.mbx.val) then
    some (codeReply stAuth)
  else none

/-- Step 5: FORCE, an expert-only command or an expert field without LEVEL. -/
def checkLevel (i : OpInfo) (q : Req) : Option Reply :=
  if q.level then none
  else if q.force || i.level = .expert then some { status := stLevel, argOff := 4 }
  else match i.expert.find? (fun f => q.le f.1 f.2 ≠ 0) with
    | some f => some { status := stLevel, argOff := 16 + f.1 }
    | none => none

/-- Step 6: flags and TARGET that the command does not define. -/
def checkForm (i : OpInfo) (q : Req) : Option Reply :=
  if (q.force && !i.force) || (q.evict && !i.evict) || (q.isAsync && !i.long) || (q.level && i.level = .basic) then
    some { status := stBadArg, argOff := 4 }
  else if q.tgt ≠ 0 ∧ !i.target then some badTarget
  else none

/-- Steps 1 to 6 of R296, in order; the payload's part of step 1 needs the opcode and follows step 2. -/
def checkRequest (s : State) (buf : Bytes) (q : Req) : Option Reply :=
  match checkHeader buf with
  | some r => some r
  | none =>
    match opInfo (Machine.le buf 0 2) with
    | none => some { status := stBadArg, argOff := 0 }
    | some i =>
      (checkPayload (Machine.le buf 0 2) i q).orElse fun _ =>
      (checkAuth s i q).orElse fun _ =>
      (if (s.box q.mbx).spill.isSome ∧ Machine.le buf 0 2 ≠ 0x0106 ∧ Machine.le buf 0 2 ≠ 0x0107 then
        some (codeReply stFull) else none).orElse fun _ =>
      (checkLevel i q).orElse fun _ => checkForm i q

/-! ### Serving -/

/-- A command's own checks and effect (R296 step 7). -/
abbrev Cmd := Req → State → Result

/-- A response stored in the journal, with REPLAYED set (R300). -/
def setReplayed (resp : Bytes) : Bytes :=
  padTo 5 resp ++ [BitVec.ofNat 8 (byteAt resp 5) ||| 2] ++ resp.drop 6

/-- A RING: the request in the buffer is captured, and answered by the responder, from the journal, by a refusal,
or by its command (R31, R295, R296, R299, R300, R303). -/
def State.serve (s : State) (cmd : Nat → Option Cmd) (m : Fin 8) (test : Bool) : State :=
  let b := s.box m
  if b.st = .posted ∨ b.st = .working then s.modBox m fun b => { b with dbErr := true }
  else
    let s := s.modBox m fun b => { b with st := .working, src := decide (m = 7) && test, wait := none }
    let buf := padTo 256 b.req
    let op := le buf 0 2
    let q := Req.ofBuffer m test buf
    let debug := decide (m = 7) && isDebugOp op
    if !debug && !s.fw then s.answerBusy m
    else
      match b.journal with
      | some ⟨jreq, jresp, jtest, false⟩ =>
        if decide (jreq = b.req) && decide (jtest = (s.box m).src) then s.deliver m (setReplayed jresp) true
        else serveFresh s buf q op
      | _ => serveFresh s buf q op
where
  /-- The checks and the command itself. -/
  serveFresh (s : State) (buf : Bytes) (q : Req) (op : Nat) : State :=
    match checkRequest s buf q with
    | some r => s.answer m r
    | none =>
      match cmd op with
      | none => s.answer m { status := stBadArg, argOff := 0 }
      | some c =>
        match c q s with
        | .done r s' => s'.answer m r
        | .wait w s' => s'.modBox q.mbx fun b => { b with wait := some w }

/-- A mailbox's inbound crossing from the window works (R207, R212, R161): its message writes are refused while it is fenced or torn. -/
def State.inbound (s : State) (m : Fin 8) : Bool :=
  decide ((Map.get {} s.xg.x (2 ^ 28 + m.val) : Xing).st = .whole) && decide ((s.dieAt 16).st ≠ .isolated)

/-- Whether a path reaches a mailbox: the test port reaches MBX7 alone, the window only while it is clocked and its crossing works
(R20, R207, R302). -/
def State.reaches (s : State) (m : Fin 8) (test : Bool) : Bool :=
  !s.sys.pkgReset && (if test then decide (m = 7) else s.windowUp && s.inbound m)

/-- A command as its caller sends it: the request is written into the buffer and RING follows. In POSTED or WORKING
both are discarded, with WR_ERR and DB_ERR (R295, log 3). -/
def State.submit (s : State) (op : Nat) (c : Cmd) (q : Req) : State :=
  if !s.reaches q.mbx q.test then s
  else if (s.box q.mbx).st = .posted ∨ (s.box q.mbx).st = .working then
    s.modBox q.mbx fun b => { b with wrErr := true, dbErr := true }
  else
    (s.modBox q.mbx fun b => { b with req := trim (q.encode op) }).serve
      (fun o => if o = op then some c else none) q.mbx q.test

/-- A wait has ended: the request on a mailbox is answered (R318). -/
def State.complete (s : State) (m : Fin 8) (r : Reply) : State :=
  if (s.box m).st = .working then s.answer m r else s

/-- Every request that waits as a condition says is answered, in order of mailbox (R318). -/
def State.answerAll (s : State) (p : Wait → Bool) (r : Reply) : State :=
  (List.finRange 8).foldl (fun s m =>
    match (s.box m).wait with
    | some w => if p w then s.complete m r else s
    | none => s) s

/-- The mailbox whose request waits as a condition says. -/
def State.findWait (s : State) (p : Wait → Bool) : Option (Fin 8) :=
  (List.finRange 8).find? fun m => (s.box m).st = .working && match (s.box m).wait with
    | some w => p w
    | none => false

end Sys2Proof.Machine
end

