-- ==== Sys2Proof/Machine/Face.lean ====
section
/-! DEFINITION. The host-facing side of the management window: the words that Milbin presents to it (01 R20; Table 10-6). -/
namespace Sys2Proof.Machine

/-- Bits of a list of numbers, as a bitmap. -/
def bitmap (xs : List Nat) : Nat := (xs.eraseDups.map fun i => 2 ^ i).sum

/-- Low 32 bits of a sum of fields. -/
def w32 (n : Nat) : Nat := n % 2 ^ 32

/-! ### The management window (Table 10-6) -/

/-- STANDBY field: the controller that is not the one ACTIVE_ID names. -/
def CtrlState.standbyCode : CtrlState → Nat
  | .standby => 0
  | .loading => 1
  | .retired => 3
  | _ => 2

/-- MB_STATUS. -/
def State.statusWord (s : State) : Nat :=
  at_ (b2n s.active.isSome) 31 + at_ (b2n s.inHold) 30 + at_ s.sys.hold 27 + at_ (b2n s.ctl.activeId) 26 +
    at_ (s.ctrl (!s.ctl.activeId)).st.standbyCode 24 + at_ (b2n (!s.sys.mlb.isEmpty)) 23 + at_ (b2n s.sys.trip) 22 +
    at_ (b2n (!s.sys.droop.isEmpty)) 21 + at_ (b2n s.et.holdover) 20 + at_ (b2n s.et.xtalLost) 19 +
    at_ (b2n s.et.span) 18 + at_ s.cfg.layers.mode 15

/-- MB_HOLD_INFO. -/
def State.holdInfo (s : State) : Nat :=
  at_ s.sys.hold 27 + (if s.sys.pkgReset then 0 else min 0xFFFFFF s.retryUs)

/-- STATE of MB_MBX_STATUS. -/
def MbxState.code : MbxState → Nat
  | .idle => 0
  | .posted => 1
  | .working => 2
  | .responded => 3

/-- MB_MBX_STATUSm. -/
def State.mbxStatus (s : State) (m : Fin 8) : Nat :=
  let b := s.box m
  at_ b.lastSeq.toNat 16 + at_ b.lastStatus.toNat 8 + at_ (b2n b.replayed) 7 + at_ (b2n b.spill.isSome) 6 +
    at_ (b2n b.wrErr) 5 + at_ (b2n b.dbErr) 4 + at_ (b2n (b.src && decide (m = 7))) 3 + b.st.code

/-- MB_MBX_INFOm. -/
def State.mbxInfo (s : State) (m : Fin 8) : Nat :=
  at_ ((((s.box m).spill).map List.length).getD 0) 16 + at_ (b2n (s.mbx.expert.getLsbD m.val)) 1 + 1

/-- The Erg count of a region's replica; 0 until it has found a slot (R107, R108, R152). -/
def State.replicaCount (s : State) (r : RegionNo) : Nat :=
  let p := (s.rgn r).rep
  if !p.found then 0 else if p.stopped then p.held else ((s.now : Int) + p.skew).toNat

/-- The replica that MB_ERG_LO and MB_ERG_HI are read from: region 16:0's (R20, R218). -/
def windowReplica : RegionNo := regionNo 16 0

/-- The Erg count that the window gives: its replica's, held within the 20 ns before the Erg count and never below what an earlier read
gave (R110). -/
def State.windowErg (s : State) : Nat :=
  max (min s.mbx.winErg s.now) (max (s.now - 20) (min (s.replicaCount windowReplica) s.now))

/-- A word of the window as Milbin presents it; buffers as little-endian words, unlisted offsets zero. -/
def State.windowLive (s : State) (off : Nat) : Nat :=
  let a := off / 4 * 4
  if a < 0x1000 then
    let m : Fin 8 := Fin.ofNat 8 (a / 512)
    if a % 512 < 256 then le (s.box m).req (a % 512) 4 else le (s.box m).resp (a % 512 - 256) 4
  else if a < 0x1080 then
    let m : Fin 8 := Fin.ofNat 8 (a % 128 / 16)
    if a % 16 = 4 then s.mbxStatus m else if a % 16 = 8 then s.mbxInfo m else 0
  else if a = 0x1100 then s.statusWord
  else if a = 0x1104 then s.windowErg % 2 ^ 32
  else if a = 0x1108 then s.mbx.ergHi.toNat
  else if a = 0x110C then s.holdInfo
  else if a = 0x1110 then s.mbx.irq.toNat
  else if a = 0x1114 then s.mbx.irqEn.toNat
  else if a = 0x1118 then s.mbx.done.toNat
  else if a = 0x111C then s.mbx.fwVer.toNat
  else 0

end Sys2Proof.Machine
end

