-- ==== Sys2Proof/Machine/Crossing.lean ====
section
/-! DEFINITION. Domain crossings: identifiers, fences, tears, joint resets, releases, and pair bridges
(07_crossings.md), with the crossing commands of 11 R331. -/
namespace Sys2Proof.Machine

/-! ### Identifiers (R217) -/

/-- CLASS of a crossing identifier. -/
def xClass (id : Nat) : Nat := id / 2 ^ 28
/-- INSTANCE of a crossing identifier. -/
def xInst (id : Nat) : Nat := id % 65536
/-- LINK of a crossing identifier. -/
def xLink (id : Nat) : Nat := id / 65536 % 4
/-- An identifier from class and instance. -/
def xId (cls inst : Nat) : Nat := cls * 2 ^ 28 + inst
/-- The identifier of the lane arriving at a region on a link. -/
def laneId (r : RegionNo) (k : Nat) : Nat := xId 9 (k * 65536 + r)

/-- Structures of the catalogue (Table 7-7). -/
inductive XStruct where
  | held | count | queue | lane
  deriving DecidableEq, Repr

/-- Structure of a crossing (Table 7-7). -/
def xStruct (id : Nat) : XStruct :=
  match xClass id with
  | 2 => .queue
  | 3 => if xInst id = 3 ∨ xInst id = 5 then .count else .held
  | 5 => .queue
  | 6 => .queue
  | 7 => .count
  | 8 => .count
  | 9 => .lane
  | 10 => if xInst id / 2 = 0 then .queue else .held
  | 12 => .queue
  | _ => .held

/-- The crossing is one of Table 7-7 (R216, R217). -/
def State.xExists (s : State) (id : Nat) : Bool :=
  let i := xInst id
  decide (id < 2 ^ 32) && decide (id / 2 ^ 18 % 1024 = 0) && (decide (xClass id = 9) || decide (xLink id = 0)) &&
  match xClass id with
  | 1 => decide (i < 8) || decide (256 ≤ i ∧ i ≤ 264)
  | 2 => decide (i ≤ 1)
  | 3 => decide (i ≤ 5)
  | 4 => s.regionExists i
  | 5 => s.regionExists i
  | 6 => decide (i % 256 < 8)
  | 7 => s.regionExists i
  | 8 => s.regionExists i
  | 9 => s.regionExists i
  | 10 => decide (i ≤ 3)
  | 11 => decide (i ≤ 1)
  | 12 => let slot := i % 256; decide (i < 512) && decide (19 ≤ slot) && decide (slot ≤ 22)
  | 13 => decide (i < 512) && decide (i % 256 < 64)
  | _ => false

/-- The control region of a port, as the base configuration names it (Table 7-7). -/
def State.portRegion (s : State) (p : Nat) : Option RegionNo := s.cfg.base.map fun b => le b.ports (2 * p) 2

/-! ### Words in transfer (R188-R190, R193) -/

/-- Place of a forecast lane, from its identifier. -/
def fqKey (id : Nat) : Nat := 8 * (xInst id / 256) + xInst id % 8

/-- Entries of a queue that the reader can see, and message words that a held-word source keeps: 16 at most. What stands behind them is
what a writer waits to write (R189, R193). -/
def queueSize : Nat := 16

/-- Entries that stand in a queue or queued messages, those of a waiting writer among them. -/
def State.xEntries (s : State) (id : Nat) : Nat :=
  match xClass id with
  | 4 => (s.rgn (xInst id)).msgs.length + (s.rgn (xInst id)).msgWait.length
  | 5 => (s.rgn (xInst id)).former.lane.length
  | 6 => (Map.get [] s.xg.fq (fqKey id)).length
  | _ => (Map.get {} s.xg.x id : Xing).fill

/-- After a fence the first snapshot is a new base and adds nothing (Table 7-4). -/
def RgnCnt.base (c : RgnCnt) (cycle : Nat) : RgnCnt :=
  { c with snapT := c.trips, snapS := c.swaps, snapF := c.faults, cycle := cycle }

/-- A snapshot carried: the totals take the difference modulo 2^16 to the snapshot before it (R191). -/
def RgnCnt.carry (c : RgnCnt) (cycle : Nat) : RgnCnt :=
  { c with
    totT := c.totT + (c.trips + 65536 - c.snapT) % 65536, totS := c.totS + (c.swaps + 65536 - c.snapS) % 65536
    totF := c.totF + (c.faults + 65536 - c.snapF) % 65536
    snapT := c.trips, snapS := c.swaps, snapF := c.faults, cycle := cycle }

/-- Room in the message queue lets the first waiting writer write (R189). -/
def Region.refill (g : Region) : Region :=
  match g.msgWait with
  | m :: ms => if g.msgs.length < queueSize then { g with msgs := g.msgs ++ [m], msgWait := ms } else g
  | [] => g

/-- A message word written: into the queue, or behind it where 16 stand there (R189). -/
def Region.putMsg (g : Region) (m : Msg) : Region :=
  if g.msgWait.isEmpty ∧ g.msgs.length < queueSize then { g with msgs := g.msgs ++ [m] } else { g with msgWait := g.msgWait ++ [m] }

/-- Every message word not yet in transfer, in order. -/
def Region.queued (g : Region) : List Msg := g.msgs ++ g.msgWait

/-- A capture request that is given up wherever it stands. -/
def Region.uncapture (g : Region) (i : Nat) : Region :=
  { g with
    capture := g.capture.filter (· ≠ i)
    msgs := g.msgs.filter (· ≠ .capture i)
    msgWait := g.msgWait.filter (· ≠ .capture i)
    tx := match g.tx with
      | some (.message (.capture j), _) => if j = i then none else g.tx
      | _ => g.tx }

/-- A capture request of an entry is on its way or at the region. -/
def Region.awaits (g : Region) (i : Nat) : Bool :=
  g.capture.contains i || g.queued.contains (.capture i) || (match g.tx with
    | some (.message (.capture j), _) => decide (j = i)
    | _ => false)

/-- A write to the region's register block is on its way. -/
def Region.regsWait (g : Region) : Bool :=
  let isReg : Msg → Bool := fun m => match m with
    | .regwrite _ _ => true
    | _ => false
  g.queued.any isReg || (match g.tx with
    | some (.message m, _) => isReg m
    | _ => false)

/-- A working set is on its way, and the last one sent: the region holds it or will (R229). -/
def Region.lastSet (g : Region) : Option WorkSet :=
  let sets := ((match g.tx with
    | some (.message m, _) => [m]
    | _ => []) ++ g.queued).filterMap fun m => match m with
      | .calset w _ => some w
      | _ => none
  sets.getLast?.orElse fun _ => g.ws

/-- A PLAN word has not been captured by a region: the one in transfer, or the one last sent. -/
def State.planWaits (s : State) (r : RegionNo) : Bool :=
  (s.rgn r).planTx.isSome ||
  match s.hm.word with
  | some w => decide ((s.rgn r).gotPlan ≠ some (w.e, w.void))
  | none => false

/-- No transfer other than PLAN begins from E + 415 to E + 448 (R190). -/
def State.planOnly (s : State) : Bool := s.sys.epoch && decide (415 ≤ s.now % 512 ∧ s.now % 512 ≤ 448)

/-- The next message in the priority of R190: capture requests, then register writes, then calibration sets, each kind in order. -/
def Region.nextMsg (g : Region) : Option Msg :=
  ((g.msgs.find? fun m => match m with
    | .capture _ => true
    | _ => false).orElse fun _ => g.msgs.find? fun m => match m with
    | .regwrite _ _ => true
    | _ => false).orElse fun _ => g.msgs.head?

/-- The engine side of a region's crossing, when it is free, takes the word of the highest priority into its hold register (R188,
R190). A PLAN word that waits is itself the word in transfer, and its capture frees the crossing. -/
def Region.load4 (g : Region) (now : Nat) : Region :=
  match g.tx, g.sent, g.nextMsg with
  | none, some c, _ => { g with tx := some (.period c, now), sent := none }
  | none, none, some m => ({ g with tx := some (.message m, now), msgs := g.msgs.erase m } : Region).refill
  | _, _, _ => g

/-! ### Pair links (R195) -/

/-- The partner field of a region's link: region number, none for 0xFFFF. -/
def Region.partner (g : Region) (k : Nat) : Option RegionNo :=
  let w := if k / 2 = 0 then g.regs.pair0.eff else g.regs.pair1.eff
  let p := if k % 2 = 0 then fld w 15 0 else fld w 31 16
  if p = 0xFFFF then none else some p

/-- The links on which a region names another, in order. -/
def State.linksTo (s : State) (r p : RegionNo) : List Nat :=
  (List.range 4).filter fun k => (s.rgn r).partner k = some p

/-- The far end of a link that both regions of one site name: partner and its link. A pair named twice by both is
matched in order of link. -/
def State.linkEnd (s : State) (r : RegionNo) (k : Nat) : Option (RegionNo × Nat) :=
  match (s.rgn r).partner k with
  | none => none
  | some p =>
    if s.regionExists p && decide (siteOf p = siteOf r) then
      let here := (s.linksTo r p).idxOf k
      ((s.linksTo p r)[here]?).map fun k' => (p, k')
    else none

/-- LANE_UP (R195). -/
def LaneState.up : LaneState → Bool
  | .aligned => true
  | .skewed => true
  | .paused => true
  | _ => false

/-- A stored crossing. -/
def State.xing (s : State) (id : Nat) : Xing := Map.get {} s.xg.x id

/-- A stored crossing changed. -/
def State.modXing (s : State) (id : Nat) (f : Xing → Xing) : State :=
  { s with xg := { s.xg with x := Map.put {} s.xg.x id (f (s.xing id)) } }

/-- The regions whose clocks a crossing's sides run on. -/
def State.xRegions (s : State) (id : Nat) : List RegionNo :=
  let i := xInst id
  match xClass id with
  | 4 => [i]
  | 5 => [i]
  | 6 => [regionNo (i % 8) 0]
  | 7 => [i]
  | 8 => [i]
  | 9 => i :: ((s.linkEnd i (xLink id)).map (·.1)).toList
  | 13 => (s.portRegion (i % 256)).toList
  | _ => []

/-- The crossings between Milbin and the management window's fabric: class 0x1 both ways, and the hold state of class 0x3 (Table 7-7). -/
def fabricCrossings : List Nat := (List.range 8).map (xId 1) ++ (List.range 9).map (fun i => xId 1 (256 + i)) ++ [xId 3 2]

/-- A crossing with a side in the fabric. -/
def onFabric (id : Nat) : Bool := decide (xClass id = 1 ∨ id = xId 3 2)

/-- The fabric has no clock without some regions: each of its own, 16:0-16:7, is among them or is not clocked (Table 1-2, R20, log 64). -/
def State.fabricNeeds (s : State) (rs : List RegionNo) : Bool :=
  let own := districtRegions 240
  own.any rs.contains && own.all fun q => rs.contains q || !s.clocked q

/-- Every side of a crossing is clocked (R209, R213, R220). -/
def State.xClocked (s : State) (id : Nat) : Bool :=
  (s.xRegions id).all s.clocked &&
  match xClass id with
  | 1 => s.windowUp
  | 3 => decide (xInst id ≠ 2) || s.windowUp
  | _ => true

/-- A die whose crossings are fenced as a whole: LOST, rejoining or ISOLATED (R208, R379), or one that failed the
census (R372). -/
def State.siteFenced (s : State) (site : Nat) : Bool :=
  match (s.dieAt site).st with
  | .lost => true
  | .rejoining => true
  | .isolated => true
  | .mismatch => true
  | .absent => s.sys.epoch
  | _ => false

/-- STATE of a crossing (Table 7-9), a lane's read as Table 7-9 reads the others. The heartbeat crossings of a site whose rejoin has
passed step 1 stand as they are (Table 13-5). -/
def State.xState (s : State) (id : Nat) : XState :=
  if (s.xRegions id).any fun r => s.siteFenced (siteOf r) && !(decide (xClass id = 8) && (s.dieAt (siteOf r)).joinAt.isSome) then .fenced
  else if onFabric id && decide ((s.dieAt 16).st = .isolated) then .fenced
  else if xClass id = 9 then
    match (s.laneAt (xInst id) (xLink id)).st with
    | .off => .off
    | .paused => .paused
    | .fenced => .fenced
    | .torn => .torn
    | _ => .whole
  else (s.xing id).st

/-- The engine's side begins a transfer where it may (R188, R190). -/
def State.pump (s : State) (r : RegionNo) : State :=
  if s.xState (xId 4 r) = .whole ∧ !s.planWaits r ∧ !s.planOnly then s.modRgn r fun g => g.load4 s.now else s

/-- A message word for a region; its writer waits where 16 stand there (R189). -/
def State.sendMsg (s : State) (r : RegionNo) (m : Msg) : State := (s.modRgn r fun g => g.putMsg m).pump r

/-- Register words that the engine holds have reached the region (R73, R190, R207). -/
def State.wordsCrossed (s : State) (r : RegionNo) : Bool := decide (s.xState (xId 4 r) = .whole) && !(s.rgn r).regsWait

/-- The count crossing to the engine carries a snapshot (R191). -/
def State.carry (s : State) (r : RegionNo) : State :=
  if s.xState (xId 7 r) = .whole then s.modRgn r fun g => { g with cnt := g.cnt.carry g.cycle } else s

/-- The region's cycle as the conversion unit reads it: through its count crossing, whose destination keeps its total (R130, Table
7-4). -/
def State.seenCycle (s : State) (r : RegionNo) : Nat :=
  if s.xState (xId 7 r) = .whole then (s.rgn r).cycle else (s.rgn r).cnt.cycle

/-- The Erg count as Sirocco sees it (Table 7-7, class 0x3). -/
def State.ergSeen (s : State) : Nat := if s.xState (xId 3 0) = .whole then s.now else (s.xing (xId 3 0)).heldAt

/-- The code with which a command that needs a crossing is refused (R207, R212, R316). -/
def State.xBlock (s : State) (id : Nat) : Option Nat :=
  match s.xState id with
  | .fenced => some stFenced
  | .torn => some stTorn
  | .resetting => some stTorn
  | _ => none

/-! ### Fences, tears and joint resets (R207, R210-R213) -/

/-- The latest stall, tear or fence noted (Table 7-9). -/
def State.xLast (s : State) (id : Nat) : State :=
  { s with xg := { s.xg with lastId := word id, lastErg := word s.now } }

/-- Entries and words discarded, counted in MB_XING_DROP_CNT. -/
def State.xDrop (s : State) (n : Nat) : State := { s with xg := { s.xg with drops := s.xg.drops + word n } }

/-- A transfer under way in the engine-to-region crossing is abandoned: its word waits again, a newer plan or code in its place (Table
7-4). -/
def Region.abandon (g : Region) : Region :=
  let g := { g with planTx := none }
  match g.tx with
  | some (.period c, _) => { g with tx := none, sent := some (g.sent.getD c) }
  | some (.message m, _) => { g with tx := none, msgs := m :: g.msgs }
  | none => g

/-- The words of the management window that a held-word crossing carries (R20, Table 7-7): class 0x1 outbound of a mailbox, of direct
status, and the hold state of class 0x3; and those of mailbox 7 that class 0xB outbound carries to the test port. -/
def faceWords (id : Nat) : List Nat :=
  let i := xInst id
  if xClass id = 1 ∧ 256 ≤ i ∧ i < 264 then
    ((List.range 64).map fun k => 512 * (i - 256) + 256 + 4 * k) ++ [0x1000 + 16 * (i - 256) + 4, 0x1000 + 16 * (i - 256) + 8]
  else if id = xId 1 264 then [0x1100, 0x1110, 0x1118, 0x111C]
  else if id = xId 3 2 then [0x1100, 0x110C]
  else if id = xId 11 1 then ((List.range 64).map fun k => 512 * 7 + 256 + 4 * k) ++ [0x1000 + 16 * 7 + 4]
  else []

/-- Place of a window word among those that a crossing has left: the hold state keeps its own copy of MB_STATUS, and the test port its own
of mailbox 7. -/
def faceKey (id off : Nat) : Nat := off + if xClass id = 3 then 0x10000 else if xClass id = 11 then 0x20000 else 0

/-- What the destination of a state crossing holds from now on is what it has captured last (Table 7-4): words of the window, and what a
port sees of its handshake (R172). -/
def State.holdWords (s : State) (id : Nat) : State :=
  if xClass id = 13 ∧ xInst id < 64 then
    s.modPort (xInst id) fun x => { x with held := some (x.held.getD (x.qreq, x.rate, x.grant)) }
  else if (faceWords id).isEmpty then s
  else { s with xg := { s.xg with
    shown := (faceWords id).foldl (fun m off => Map.put 0 m (faceKey id off) (s.windowLive off)) s.xg.shown } }

/-- State-word crossings whose destination can be without a clock: to the window's fabric, and to the ports' control regions. -/
def heldOut : List Nat := (List.range 9).map (fun i => xId 1 (256 + i)) ++ [xId 3 2] ++ (List.range 64).map (xId 13)

/-- The source of such a crossing has a newer word than its destination holds (R189). -/
def State.newWord (s : State) (id : Nat) : Bool :=
  if xClass id = 13 then
    let x := s.port (xInst id)
    x.held.any fun h => decide (h ≠ (x.qreq, x.rate, x.grant))
  else (faceWords id).any fun off => decide (Map.get 0 s.xg.shown (faceKey id off) ≠ s.windowLive off)

/-- A source edge of such a crossing (R188, R189). A clocked destination has taken every word; one without a clock keeps what it took
last, and the first newer word is placed in the hold register, where it waits. -/
def State.present (s : State) (id : Nat) : State :=
  if s.xState id ≠ .whole then s
  else if s.xClocked id then
    if (s.xing id).wait.isNone then s
    else
      let s := s.modXing id fun x => { x with wait := none }
      if xClass id = 13 then s.modPort (xInst id) fun x => { x with held := none } else s
  else match (s.xing id).wait with
    | none => (s.holdWords id).modXing id fun x => { x with wait := some none }
    | some none => if s.newWord id then s.modXing id fun x => { x with wait := some (some s.now) } else s
    | some (some _) => s

/-- A queue's writer waits no longer once its crossing refuses it: what it could not write is discarded and counted; so are message words
beyond the queue that a source keeps (Table 7-4). -/
def State.dropWaiting (s : State) (id : Nat) : State :=
  let n := s.xEntries id - queueSize
  if xClass id = 4 then
    let n := (s.rgn (xInst id)).msgWait.length
    ((s.modRgn (xInst id) fun g => { g with msgWait := [] }).modXing id fun x => { x with drop := sat16 x.drop n }).xDrop n
  else if xClass id = 5 then
    ((s.modRgn (xInst id) fun g => { g with former := { g.former with lane := g.former.lane.take queueSize } }).modXing id fun x =>
      { x with drop := sat16 x.drop n }).xDrop n
  else if xClass id = 6 then
    (({ s with xg := { s.xg with fq := Map.put [] s.xg.fq (fqKey id) ((Map.get [] s.xg.fq (fqKey id)).take queueSize) } } : State).modXing id
      fun x => { x with drop := sat16 x.drop n }).xDrop n
  else if xClass id = 12 then (s.modXing id fun x => { x with fill := min queueSize x.fill, drop := sat16 x.drop n }).xDrop n
  else s

/-- What both sides do when a crossing stops working: the held word stays, a transfer is abandoned, a waiting writer gives up
(Table 7-4, R212). -/
def State.xHalt (s : State) (id : Nat) : State :=
  let s := (if (s.xing id).wait.isSome then s.modXing id fun x => { x with wait := none } else s.holdWords id).dropWaiting id
  if xClass id = 4 then s.modRgn (xInst id) Region.abandon else s

/-- A lane whose buffered words are discarded and counted: VALID 0 to the destination, READY low to the source, no notice in flight
(Table 7-4, R212). -/
def Lane.clear (l : Lane) : Lane :=
  { l with
    drop := sat16 l.drop l.words.length, words := [], shown := none, ready := false, due := false, stall := false, step := false
    sNote := none, notes := [], noteWait := [], markers := 0, leaving := false }

/-- A lane's calibration begins: 64 MARKER notices time its flight (R203). -/
def Lane.calibrate (l : Lane) : Lane := { l with st := .calibrating, before := l.st, markers := 64 }

/-- A lane whose link is removed: the source stops offering, the words still buffered are read, and then it is OFF (Table 7-8). -/
def Lane.leave (l : Lane) : Lane :=
  if l.st.up ∧ !l.words.isEmpty then
    { l with st := .paused, leaving := true, ready := false, stall := false, step := false, notes := [], noteWait := [], sNote := none }
  else { l.clear with st := .off, drop := l.drop, valid := false }

/-- A lane whose link is new: it is calibrated, once an earlier link's words have been read (Table 7-8). A lane that is fenced or torn stays
so. -/
def Lane.join (l : Lane) : Lane := if l.st = .off then l.calibrate else l

/-- Links of a region whose partner fields have come into force: lanes of a link that is gone leave, those of a new one are calibrated
(R195, R203, Table 7-8). -/
def State.relane (old s : State) (r : RegionNo) : State :=
  let named (s : State) : Word × Word := ((s.rgn r).regs.pair0.eff, (s.rgn r).regs.pair1.eff)
  if named old = named s then s
  else (List.range 4).foldl (fun s k =>
    let was := old.linkEnd r k
    let now := s.linkEnd r k
    if was = now then s
    else
      let s := match was with
        | some (p, k') => (s.modLane r k Lane.leave).modLane p k' Lane.leave
        | none => s
      match now with
      | some (p, k') => (s.modLane r k Lane.join).modLane p k' Lane.join
      | none => s) s

/-- A fence on one crossing (Table 7-4). -/
def State.fence (s : State) (id : Nat) : State :=
  if xClass id = 9 then
    let l := s.laneAt (xInst id) (xLink id)
    if l.st = .off ∨ l.st = .fenced then s
    else ((s.modLane (xInst id) (xLink id) fun l =>
      { l.clear with st := .fenced }).xDrop l.words.length).xLast id
  else if (s.xing id).st = .fenced then s
  else
    let s := if (s.xing id).st = .torn then s else s.xHalt id
    (s.modXing id fun x => { x with
      st := .fenced
      stale := decide (xStruct id = .held)
      lost := decide (xStruct id = .count)
      heldAt := if x.st = .torn then x.heldAt else s.now }).xLast id

/-- Every crossing of a list fenced. -/
def State.fenceAll (s : State) (ids : List Nat) : State := ids.foldl State.fence s

/-- A side's epoch bit toggles on entry into its local reset (R210). -/
def State.toggle (s : State) (id : Nat) (second : Bool) : State :=
  if xClass id = 9 then
    s.modLane (xInst id) (xLink id) fun l => if second then { l with e2 := !l.e2 } else { l with e1 := !l.e1 }
  else
    s.modXing id fun x => if second then { x with e2 := !x.e2, rst2 := true } else { x with e1 := !x.e1, rst1 := true }

/-- A crossing whose two sides hold different epochs is torn: neither acts on what the other sends (R212). A fenced crossing stays
fenced (Table 7-8). Sides that were reset together hold the same epoch, and are not torn (R211). -/
def State.tornCheck (s : State) (id : Nat) : State :=
  if xClass id = 9 then
    let l := s.laneAt (xInst id) (xLink id)
    if l.st = .off ∨ l.st = .fenced ∨ l.e1 = l.e2 then s
    else (s.modLane (xInst id) (xLink id) fun l =>
      { l.clear with st := .torn }).xDrop l.words.length
  else
    let x := s.xing id
    if x.st = .fenced ∨ x.st = .torn ∨ x.e1 = x.e2 then s
    else (s.xHalt id).modXing id fun x => { x with st := .torn, tornAt := none, heldAt := s.now }

/-- A one-sided reset of one side: its epoch bit is toggled and the crossing is torn (R210, R211). -/
def State.tear (s : State) (id : Nat) (second : Bool) : State := (s.toggle id second).tornCheck id

/-- A joint reset's effect on a crossing: contents as Table 7-4, both epoch bits as the side named first held
(R213). -/
def State.resetContents (s : State) (id : Nat) : State :=
  if xClass id = 9 then
    let l := s.laneAt (xInst id) (xLink id)
    (s.modLane (xInst id) (xLink id) fun l =>
      { l.clear with e2 := l.e1, tornAt := none }).xDrop l.words.length
  else
    let x := s.xing id
    let lost := match xStruct id with
      | .queue => s.xEntries id
      | .held => if x.rst1 then s.xEntries id else 0
      | _ => 0
    let s := if lost = 0 then s
      else if xClass id = 5 then s.modRgn (xInst id) fun g => { g with former := { g.former with lane := [] } }
      else if xClass id = 6 then { s with xg := { s.xg with fq := Map.put [] s.xg.fq (fqKey id) [] } }
      else if xClass id = 4 then s.modRgn (xInst id) fun g => { g with msgs := [], msgWait := [] }
      else s
    (s.modXing id fun x => { x with
      e2 := x.e1, fill := 0, drop := sat16 x.drop lost, rst1 := false, rst2 := false
      tornAt := none }).xDrop lost

/-- A crossing WHOLE again: its state words are presented. A lane calibrates first (Table 7-4). -/
def State.whole (s : State) (id : Nat) : State :=
  if xClass id = 9 then
    s.modLane (xInst id) (xLink id) fun l => if l.st = .off then l else l.calibrate
  else
    let s := s.modXing id fun x => { x with st := .whole, stale := false, lost := false }
    if xClass id = 13 ∧ xInst id < 64 then s.modPort (xInst id) fun x => { x with held := none }
    else if xClass id = 7 then s.modRgn (xInst id) fun g => { g with cnt := g.cnt.base g.cycle }
    else if xClass id = 8 then s.modRgn (xInst id) fun g => { g with hb := { g.hb with snap := g.hb.src } }
    else if id = xId 3 3 ∨ id = xId 3 5 then s.modCtrl (decide (id = xId 3 5)) fun x => { x with hbSnap := x.hbSrc }
    else s

/-- D_LANE at or below which a lane is accepted, 80 ps in units of 0.5 ps (R203). -/
def laneLimit : Nat := 160

/-- The result of a lane's calibration: accepted and ALIGNED with the zero of its deviation set, its frames begun anew and two idle
words on their way, which is a latency of two slots (R196, R198); or OFF with EV_PB_CAL_FAIL (R203). -/
def State.laneResult (s : State) (r : RegionNo) (k dlane : Nat) : State :=
  if dlane ≤ laneLimit then
    s.modLane r k fun l => { l with
      st := .aligned, delta := 0, slipped := false, dlane := dlane, valid := true, words := [none, none], quiet := 0
      quietNow := false, forceRealign := false, tNext := none, tOwn := none, markers := 0
      fSrc := 0, fDst := 0, due := false, stall := false, step := false
      tSrc := match s.linkEnd r k with
        | some (p, _) => (s.rgn p).tg
        | none => l.tSrc
      tDst := (s.rgn r).tg }
  else (s.modLane r k fun l => { l with st := .off, dlane := dlane, valid := false, markers := 0 }).raise evPbCalFail (laneId r k)

/-- The lanes arriving at a region and those leaving it, as the partner's arriving lanes. -/
def State.regionLanes (s : State) (r : RegionNo) : List (RegionNo × Nat) :=
  (List.range 4).flatMap fun k =>
    match s.linkEnd r k with
    | some (p, k') => [(r, k), (p, k')]
    | none => []

/-- Forecast lanes of a compute die, whose port region d:0 clocks (R194). -/
def forecastLanes (die : Nat) : List Nat := (List.range 256).map fun d => xId 6 (d * 256 + die)

/-- Port control crossings on a region (Table 7-7, class 0xD). -/
def State.portCrossings (s : State) (r : RegionNo) : List Nat :=
  ((List.range 64).filter fun p => s.portRegion p = some r).flatMap fun p => [xId 13 p, xId 13 (256 + p)]

/-- Every crossing with a side in a region. -/
def State.regionCrossings (s : State) (r : RegionNo) : List Nat :=
  [xId 4 r, xId 5 r, xId 7 r, xId 8 r] ++ (s.regionLanes r).map (fun e => laneId e.1 e.2) ++
  (if siteOf r ≤ 7 ∧ localOf r = 0 then forecastLanes (siteOf r) else []) ++ s.portCrossings r

/-- Every crossing that loses a side with some regions: theirs, and the fabric's where it has no clock without them (R208, log 64). -/
def State.sideCrossings (s : State) (rs : List RegionNo) : List Nat :=
  (rs.flatMap s.regionCrossings).eraseDups ++ (if s.fabricNeeds rs then fabricCrossings else [])

/-- A release ends: the handle that asked for it, if any, is DONE (R209, R331). -/
def State.endRelease (s : State) (scope : ReleaseScope) (o : Outcome) (st : Nat) : State :=
  let mine := s.xg.rel.filter fun e => decide (e.scope = scope)
  let s := { s with xg := { s.xg with rel := s.xg.rel.filter fun e => decide (e.scope ≠ scope) } }
  mine.foldl (fun s e => match e.handle with
    | some h => s.finishOp h o st
    | none => s) s

/-- The set of a release: the crossings of the regions that step 1 has found clocked, the fabric's that are fenced, and the sideband queues
of a die's slot (Table 7-5, R216). -/
def State.releaseSet (s : State) (scope : ReleaseScope) (rs : List RegionNo) : List Nat :=
  (rs.flatMap s.regionCrossings).eraseDups ++
  (if (districtRegions 240).any rs.contains then fabricCrossings.filter fun id => decide ((s.xing id).st = .fenced) else []) ++
  match scope with
  | .die x => if 19 ≤ x.val then [xId 12 x.val, xId 12 (256 + x.val)] else []
  | .region _ => []

/-- A lane of a release's set is still being calibrated. -/
def State.releaseWaits (s : State) (rs : List RegionNo) : Bool :=
  (rs.flatMap s.regionLanes).any fun e => decide ((s.laneAt e.1 e.2).st = .calibrating)

/-- Steps 4 and 5: words are presented, fences are released, EV_CROSS_RELEASE is raised and the release ends (Table 7-5). -/
def State.releaseEnd (s : State) (scope : ReleaseScope) (rs : List RegionNo) : State :=
  let ok := (s.releaseSet scope rs).filter s.xClocked
  let s := (ok.filter fun id => decide (xClass id ≠ 9)).foldl State.whole (s.modRgns rs fun _ g => { g with wsDue := true })
  let s := match ok with
    | [] => s
    | id :: _ => s.raise evCrossRelease id
  let s := (s.xg.rel.filter fun e => decide (e.scope = scope)).foldl (fun s e => match e.handle with
    | some h => s.modOp h fun o => { o with step := 5 }
    | none => s) s
  s.endRelease scope .completed stOk

/-- Release of the crossings of some regions (Table 7-5): those with a side that is not clocked stay fenced; the others are reset jointly
and lanes are calibrated. A lane whose measurement the release does not bring is CALIBRATING until PAIR_CALIBRATION_DONE, and the
release goes on with step 4 when the last of them is done (R203). -/
def State.releaseRegions (s : State) (scope : ReleaseScope) (rs : List RegionNo) (dl : List (RegionNo × Nat × Nat)) : State :=
  let ids := s.releaseSet scope rs
  let ok := ids.filter s.xClocked
  let s := s.fenceAll (ids.filter fun id => !s.xClocked id)
  let s := ok.foldl (fun s id =>
    let s := s.resetContents id
    if xClass id = 9 then
      match dl.find? fun e => decide (e.1 = xInst id ∧ e.2.1 = xLink id) with
      | some e => s.laneResult (xInst id) (xLink id) e.2.2
      | none => s.whole id
    else s) s
  if s.releaseWaits rs then
    let mine := s.xg.rel.filter fun e => decide (e.scope = scope)
    let mine := if mine.isEmpty then [⟨scope, none, s.now, none⟩] else mine
    let s := s.fenceAll (ok.filter fun id => decide (xClass id ≠ 9))
    let rest := s.xg.rel.filter (fun e => decide (e.scope ≠ scope))
    let held := mine.map (fun e => { e with rs := some rs })
    let s := { s with xg := { s.xg with rel := rest ++ held } }
    mine.foldl (fun s e => match e.handle with
      | some h => s.modOp h fun o => { o with step := 3 }
      | none => s) s
  else s.releaseEnd scope rs

/-- The releases whose lanes are all calibrated go on (Table 7-5, step 4). -/
def State.releasesGo (s : State) : State :=
  s.xg.rel.foldl (fun s e => match e.rs with
    | some rs => if s.releaseWaits rs then s else s.releaseEnd e.scope rs
    | none => s) s

/-! ### Notices (R53, R197, R202) -/

/-- A STRETCH notice from a region on every enabled link (R53). -/
def State.sendStretch (s : State) (r : RegionNo) (v : Nat) : State :=
  (List.range 4).foldl (fun s k =>
    match s.linkEnd r k with
    | some (p, k') =>
      if (s.rgn r).symEn.getLsbD k && (s.laneAt p k').st.up then
        s.modLane p k' fun l => { l with sNote := some (v, (s.rgn r).nominal) }
      else s
    | none => s) s

/-- A notice of the second set: on its way at once where the set is free, and behind those that wait for it elsewhere (R197). -/
def Lane.note (l : Lane) (n : Note) : Lane :=
  if l.notes.isEmpty ∧ l.noteWait.isEmpty then { l with notes := [n] } else { l with noteWait := l.noteWait ++ [n] }

/-- A period of the sender ends: notices that have waited for the second set have it, and a calibration's next MARKER goes out where
nothing else does (R197, R203). -/
def Lane.noteTurn (l : Lane) : Lane :=
  let l := { l with notes := l.notes ++ l.noteWait, noteWait := [] }
  if l.st = .calibrating ∧ l.notes.isEmpty ∧ 0 < l.markers then { l with notes := [.marker], markers := l.markers - 1 } else l

/-- The MARKERs that have arrived are taken by the destination's replica captures at its edge (R203). -/
def Lane.takeMarker (l : Lane) : Lane := { l with notes := l.notes.filter (· ≠ .marker) }

/-- A notice of the second set from a region on every link. -/
def State.sendNote (s : State) (r : RegionNo) (n : Note) : State :=
  (List.range 4).foldl (fun s k =>
    match s.linkEnd r k with
    | some (p, k') => if (s.laneAt p k').st.up then s.modLane p k' fun l => l.note n else s
    | none => s) s

/-- A TARGET notice from a region: every partner has it on its way, and the region's own side of each lane waits for the same window
(R197). -/
def State.sendTarget (s : State) (r : RegionNo) (t win : Nat) : State :=
  let s := s.sendNote r (.target t win)
  (List.range 4).foldl (fun s k =>
    if (s.linkEnd r k).isSome ∧ (s.laneAt r k).st.up then s.modLane r k fun l => { l with tOwn := some (t, win) } else s) s

/-- The slot period of a lane: the longer of the two targets (R196). -/
def Lane.slot (l : Lane) : Nat := max l.tSrc l.tDst

/-- |deviation| is at most half a slot (R198). -/
def Lane.near (l : Lane) : Bool := decide (l.delta.natAbs ≤ 8 * l.slot)

/-- Whether neither region of a lane has stretched in its window so far (R201). -/
def State.laneQuiet (s : State) (r : RegionNo) (k : Nat) : Bool :=
  !(s.rgn r).win_.stretched &&
  match s.linkEnd r k with
  | some (p, _) => !(s.rgn p).win_.stretched
  | none => false

/-- The destination has come into a new window: its slots are counted anew, and a window that was quiet to its end
counts (R201). -/
def Lane.turn (l : Lane) (win : Nat) : Lane :=
  if l.slotWin = win then l
  else { l with slotWin := win, slots := 0, quiet := if l.quietNow then l.quiet + 1 else l.quiet, quietNow := false }

/-- New targets apply at this end of the link from its first slot after both the boundary and the receipt of the notice, of either side;
the deviation is measured again with the new slot period: latency / B - 2 (R197, R198, Table 7-8). -/
def Lane.newSlot (l : Lane) (win : Nat) : Lane :=
  let b := l.slot
  let l := match l.tNext with
    | some (t, w) => if w ≤ win then { l with tSrc := t, tNext := none } else l
    | none => l
  let l := match l.tOwn with
    | some (t, w) => if w ≤ win then { l with tDst := t, tOwn := none } else l
    | none => l
  { l with delta := l.delta + 32 * ((b : Int) - l.slot) }

/-- A lane's slots are counted. -/
def LaneState.counts (x : LaneState) : Bool := decide (x = .aligned ∨ x = .skewed)

/-- A frame that takes a target passes a whole multiple of the slot period: a slot falls due in that period (R196). -/
def passes (frame t b : Nat) : Bool := decide (b ≠ 0) && decide (frame / b < (frame + t) / b)

/-- A slip (R200): the deviation moves back by one slot, the lane is SKEWED, SLIP_CNT counts, and EV_PB_SLIP is raised at most once per
lane and window. -/
def State.slip (s : State) (r : RegionNo) (k : Nat) (up : Bool) : State :=
  let l := s.laneAt r k
  let win := (s.rgn r).win
  let say := bitOf s.xg.ctrl.eff 0 && decide (l.slipWin ≠ some win)
  let s := s.modLane r k fun l => { l with
    delta := if up then l.delta + 16 * l.slot else l.delta - 16 * l.slot
    st := .skewed, slipped := true, slips := min 255 (l.slips + 1), quiet := if l.st = .skewed then l.quiet else 0
    slipWin := if say then some win else l.slipWin }
  let s := { s with xg := { s.xg with slips := s.xg.slips + 1 } }
  s.raiseIf say evPbSlip (laneId r k)

/-- The slot period at the end of a link that a region has: the lane that arrives there keeps it, or, where that one is down, the lane
that leaves (R196, R197). -/
def State.laneSlot (s : State) (r : RegionNo) (k : Nat) (out : Lane) : Nat :=
  if (s.laneAt r k).st.up then (s.laneAt r k).slot else out.slot

/-- A period of the source's region ends: its frame takes the period's target. Where a slot was due READY was high, and the word that the
logic offered, or an idle word, is written; a stall slip or a full buffer holds the source (R195, R196, R200). A lane that is PAUSED counts
no slot and holds READY low (R202). -/
def State.laneSource (s : State) (r : RegionNo) (k : Nat) (word : Option Nat) : State :=
  match s.linkEnd r k with
  | none => s
  | some (p, k') =>
    let s := s.modLane p k' Lane.noteTurn
    let l := s.laneAt p k'
    let t := (s.rgn r).tg
    if !l.st.counts then s.modLane p k' fun l => { l with ready := false }
    else if !passes l.fSrc t (s.laneSlot r k l) then s.modLane p k' fun l => { l with ready := false, fSrc := l.fSrc + t }
    else
      let s := if (s.laneAt r k).st.counts then s.modLane r k fun l => l.newSlot (s.rgn r).win else s
      let s := s.modLane p k' fun l => { l with ready := !l.stall && decide (l.words.length < 4), fSrc := l.fSrc + t }
      if l.stall then (s.modLane p k' fun l => { l with stall := false }).slip p k' false
      else if l.words.length < 4 then s.modLane p k' fun l => { l with words := l.words ++ [word] }
      else s

/-- A period of the destination's region ends: its frame takes the period's target, and a slot falls due where the frame has passed a
multiple of the slot period. On a PAUSED lane the words still buffered are read at consecutive slots (R196, R202). -/
def State.laneDest (s : State) (r : RegionNo) (k : Nat) : State :=
  let l := s.laneAt r k
  let t := (s.rgn r).tg
  if l.st.counts then s.modLane r k fun l => { l with fDst := l.fDst + t, due := passes l.fDst t l.slot, shown := none }
  else if l.st = .paused then s.modLane r k fun l => { l with due := !l.words.isEmpty, shown := none }
  else if l.st = .calibrating then s.modLane r k Lane.takeMarker
  else s

/-- Both sides of every lane of a region over one of its periods; `offers` is what its logic offers on each link. -/
def State.lanePeriod (s : State) (r : RegionNo) (offers : List (Option Nat)) : State :=
  (List.range 4).foldl (fun s k =>
    if (s.linkEnd r k).isSome ∨ (s.laneAt r k).leaving then (s.laneSource r k (offers.getD k none)).laneDest r k else s) s

/-- The word of the slot is presented: valid, or idle (R196). -/
def Lane.take (l : Lane) : Lane := { l with due := false, shown := (l.words.head?).join, words := l.words.tail }

/-- No word is read at the slot: VALID 0. -/
def Lane.skip (l : Lane) : Lane := { l with due := false, shown := none }

/-- The slot's word is idle. -/
def Lane.idle (l : Lane) : Bool := (l.words.head?).join.isNone

/-- ALIGNED again (R198, R201). -/
def Lane.align (l : Lane) : Lane :=
  { l with st := .aligned, slipped := false, quiet := 0, quietNow := false, forceRealign := false, step := false, stall := false }

/-- One step of a realignment at a slot: an idle word inserted at the destination, or one removed that the source had written; ALIGNED once
the deviation is within half a slot (R201). -/
def Lane.realign (l : Lane) : Lane :=
  let l' :=
    if l.near then l.take
    else if l.delta < 0 then { l.skip with delta := l.delta + 16 * l.slot }
    else if l.words.contains none then { ({ l with words := l.words.erase none } : Lane).take with delta := l.delta - 16 * l.slot }
    else l.take
  if l'.near then l'.align else { l' with step := true }

/-- One step of a realignment through slips on data words (R201). -/
def State.forceStep (s : State) (r : RegionNo) (k : Nat) : State :=
  let l := s.laneAt r k
  if l.near then s.modLane r k fun l => l.take.align
  else if l.delta < 0 then (s.modLane r k Lane.skip).slip r k true
  else s.modLane r k fun l => { l.take with stall := true }

/-- The deviation as a destination slot measures it: it moves by the difference of the two stretches, and past half a slot the lane is
SKEWED (R198, R199). -/
def Lane.measure (l : Lane) (win : Nat) (diff : Int) : Lane :=
  let l := (l.turn win).newSlot win
  let l := { l with slots := l.slots + 1, delta := l.delta + diff * l.slot }
  if l.near && !l.slipped then { l with st := .aligned }
  else { l with st := .skewed, quiet := if l.st = .skewed then l.quiet else 0 }

/-- A slot of a PAUSED lane: a word still buffered is read. A lane whose link is gone is OFF after the last, or calibrated where a new
link has taken its place (R202, Table 7-8). -/
def State.lanePaused (s : State) (r : RegionNo) (k : Nat) : State :=
  let again := (s.linkEnd r k).isSome
  s.modLane r k fun l =>
    let l := l.take
    if l.leaving ∧ l.words.isEmpty then
      let x : Lane := { l with st := .off, leaving := false, valid := false }
      if again then x.calibrate else x
    else l

/-- PAIR_SLOT: at a slot that is due at the destination the deviation is measured, and the lane reads its word, slips or realigns
(R196-R201). Table 7-3 puts a hold slip at the slot that first finds the deviation below -1.5. -/
def execPairSlot (r : RegionNo) (k : Fin 4) (_only : Unit) (s : State) : Out :=
  let l := s.laneAt r k
  if !l.due then .next s
  else if l.st = .paused then .next (s.lanePaused r k)
  else
    match s.linkEnd r k with
    | none => .next s
    | some (p, _) =>
      let g := s.rgn r
      let s := s.modLane r k fun l => l.measure g.win ((g.sLast : Int) - (s.rgn p).sLast)
      let l := s.laneAt r k
      let quiet := decide (17 ≤ l.slots) && s.laneQuiet r k
      let s := s.modLane r k fun l => { l with quietNow := if 17 ≤ l.slots then quiet else l.quietNow }
      if l.delta < -(24 * (l.slot : Int)) then .next ((s.modLane r k Lane.skip).slip r k true)
      else if 24 * (l.slot : Int) < l.delta then .next (s.modLane r k fun l => { l.take with stall := true })
      else if l.st = .skewed ∧ l.forceRealign then .next (s.forceStep r k)
      else if l.st = .skewed ∧ (l.step ∨ (quiet ∧ l.idle)) then .next (s.modLane r k Lane.realign)
      else .next (s.modLane r k Lane.take)

/-- REALIGN_WIN_EXPIRY: REALIGN_WIN quiet windows have passed without an idle word; the realignment goes through slips
on data words at the next slots (R201). -/
def execRealignWinExpiry (r : RegionNo) (k : Fin 4) (s : State) : Out :=
  let t := s.modLane r k fun l => l.turn (s.rgn r).win
  let l := t.laneAt r k
  if l.st = .skewed ∧ fld s.xg.ctrl.eff 7 4 ≤ l.quiet then
    .next (t.modLane r k fun l => { l with forceRealign := true })
  else .next s

/-- A notice of the second set received, when it is the first in flight; the set is free for the next one that waits (R197). -/
def State.takeNote (s : State) (r : RegionNo) (k : Nat) : Option (Note × State) :=
  match (s.laneAt r k).notes with
  | n :: ns => some (n, s.modLane r k fun l =>
      if ns.isEmpty then { l with notes := l.noteWait.take 1, noteWait := l.noteWait.drop 1 } else { l with notes := ns })
  | [] => none

/-- TARGET_NOTICE: the source's target for a coming window (R197). -/
def execTargetNotice (r : RegionNo) (k : Fin 4) (s : State) : Out :=
  match s.takeNote r k with
  | some (.target t win, s') => .next (s'.modLane r k fun l => { l with tNext := some (t, win) })
  | _ => .next s

/-- A lane PAUSED by a stop: slot counting pauses, READY is low, and the words already buffered go on to be read (R202). -/
def Lane.pause (l : Lane) : Lane := if l.st.up then { l with st := .paused, ready := false, stall := false, step := false } else l

/-- STOP_NOTICE: READY held low toward the stopping region, buffered words read, both lanes PAUSED (R202). -/
def execStopNotice (r : RegionNo) (k : Fin 4) (s : State) : Out :=
  match s.takeNote r k with
  | some (.stop, s') =>
    let s' := s'.modLane r k Lane.pause
    match s'.linkEnd r k with
    | some (p, k') => .next (s'.modLane p k' Lane.pause)
    | none => .next s'
  | _ => .next s

/-- A lane restarted with a new target of one side: the frames start from a common slot, the deviation is 0, words still buffered are
read first (R202). DESIGN CHOICE (log 65): as many idle words follow them as make two, the latency of a lane whose deviation is 0; the
rule names only the words that were buffered. -/
def Lane.restart (l : Lane) (src : Bool) (t : Nat) : Lane :=
  if l.st.up ∧ !l.leaving then
    { (if src then { l with tSrc := t } else { l with tDst := t }).align with
      delta := 0, tNext := none, tOwn := none, fSrc := 0, fDst := 0, due := false
      words := l.words ++ List.replicate (2 - l.words.length) none }
  else l

/-- RESTART_NOTICE: buffered words read, frames restarted from a common slot with the new slot period, both lanes
ALIGNED with deviation 0; after a takeover, which sent no STOP, the notice's realign flag has the same effect (R202). -/
def execRestartNotice (r : RegionNo) (k : Fin 4) (s : State) : Out :=
  match s.takeNote r k with
  | some (.restart t _, s') =>
    let s' := s'.modLane r k fun l => l.restart true t
    match s'.linkEnd r k with
    | some (p, k') => .next (s'.modLane p k' fun l => l.restart false t)
    | none => .next s'
  | _ => .next s

/-! ### Events of crossings -/

/-- Erg ns of a region's last edge. -/
def State.lastEdge (s : State) (r : RegionNo) : Nat := (s.rgn r).edge / 32768

/-- Since when the side that Table 7-7 names waits on a crossing, where it waits: a word that the management fabric, a region or a port's
control region does not take; a pair lane whose partner sends nothing to an empty buffer, or reads nothing from a full one (R205). Of the
sideband queues of class 0xC Sirocco writes the one to the adapter; the row itself says that the adapter has left it full (log 58). -/
def State.waitFrom (s : State) (id : Nat) : Option Nat :=
  let i := xInst id
  let word : Option Nat := if s.xClocked id then none else (s.xing id).wait.join
  match xClass id with
  | 1 => if 256 ≤ i then word else none
  | 3 => if i = 2 then word else none
  | 4 => match (s.rgn i).tx, (s.rgn i).planTx with
    | some (_, t), _ => some t
    | none, some x => some x.since
    | none, none => if s.planWaits i then s.hm.word.map fun w => w.e + 448 else none
  | 9 =>
    let l := s.laneAt i (xLink id)
    match s.linkEnd i (xLink id) with
    | some (p, _) =>
      if !l.st.up then none
      else if l.words.isEmpty then some (s.lastEdge p)
      else if 4 ≤ l.words.length then some (s.lastEdge i) else none
    | none => none
  | 12 => if 256 ≤ i then some 0 else none
  | 13 => if i < 64 then word else none
  | _ => none

/-- CROSS_STALL: a wait of 4,096 ns; EV_CROSS_STALL and a fence (R205). The exempt crossings of R206 run no timer, nor does a torn one
(R212). -/
def execCrossStall (id : Word) (s : State) : Out :=
  let i := id.toNat
  match s.waitFrom i with
  | none => .next s
  | some t =>
    if !s.xExists i ∨ s.now < t + 4096 ∨ s.xState i = .torn ∨ s.xState i = .fenced ∨ s.xState i = .off then .next s
    else
      let s := if xClass i = 12 then s.modXing i fun x => { x with fill := queueSize + 1 } else s
      let s := (s.raise evCrossStall i).fence i
      .next { s with xg := { s.xg with stalls := sat16 s.xg.stalls 1 } }

/-- CROSS_TEAR: the two sides hold different epochs and both become TORN, with EV_CROSS_TORN once per tear (R212). -/
def execCrossTear (id : Word) (s : State) : Out :=
  let i := id.toNat
  let note (s : State) : State :=
    let s := (s.raise evCrossTorn i).xLast i
    { s with xg := { s.xg with torns := sat16 s.xg.torns 1 } }
  if !s.xExists i then .next s
  else if xClass i = 9 then
    let l := s.laneAt (xInst i) (xLink i)
    if l.st = .torn ∧ l.tornAt = none then
      .next (note (s.modLane (xInst i) (xLink i) fun l => { l with st := .torn, tornAt := some s.now }))
    else .next s
  else
    let x := s.xing i
    if x.st = .torn ∧ x.tornAt = none then
      .next (note (s.modXing i fun x => { x with st := .torn, tornAt := some s.now }))
    else .next s

/-- When a crossing's tear reached Sirocco. -/
def State.tornAt (s : State) (id : Nat) : Option Nat :=
  if xClass id = 9 then (s.laneAt (xInst id) (xLink id)).tornAt else (s.xing id).tornAt

/-- The joint reset of a torn crossing: WHOLE with EV_CROSS_JOINT, or fenced where a side is not clocked (R213). -/
def State.joint (s : State) (id : Nat) : State :=
  if s.xClocked id then ((s.resetContents id).whole id).raise evCrossJoint id
  else s.fence id

/-- A region is clocked and sends heartbeats, as step 1 of Table 7-5 checks. DEDUCED (log 59): while its crossings are fenced no heartbeat
arrives through them; what is seen of them is that its replica counts. -/
def State.proves (s : State) (r : RegionNo) : Bool := s.clocked r && (s.rgn r).rep.found && !(s.rgn r).rep.stopped

/-- The regions of a release's scope. -/
def State.scopeRegions (s : State) : ReleaseScope → List RegionNo
  | .region r => if s.regionExists r then [r] else []
  | .die x => (siteRegions x).filter s.regionExists

/-- The site of a scope. -/
def scopeSite : ReleaseScope → Nat
  | .region r => siteOf r
  | .die x => x.val

/-- A foreign die, whose sideband queues are its only crossings: both their sides run on Milbin's own clocks (R401, Table 7-7). -/
def State.onlySideband (s : State) : ReleaseScope → Bool
  | .die x => decide ((s.dieAt x).attach = 2)
  | .region _ => false

/-- FENCE_RELEASE: Table 7-5 for a region or a die. REFUSED where the region, or every region of the die, is not
clocked; the crossings with an unclocked side stay fenced (R209). -/
def execFenceRelease (scope : ReleaseScope) (dlanes : List (RegionNo × Nat × Nat)) (s : State) : Out :=
  if !s.fw then .next s
  else
    let rs := (s.scopeRegions scope).filter s.proves
    if rs.isEmpty ∧ !s.onlySideband scope ∨ s.siteFenced (scopeSite scope) then .next (s.endRelease scope .failed stRefused)
    else .next (s.releaseRegions scope rs dlanes)

/-! ### Status words (Table 7-9) -/

/-- STATE field of MB_XING_SELSTAT. -/
def XState.code : XState → Nat
  | .whole => 0
  | .fenced => 1
  | .torn => 2
  | .resetting => 3
  | .paused => 4
  | .off => 5

/-- MB_XING_SELSTAT of a crossing; zero where none is selected. -/
def State.selstat (s : State) (id : Nat) : Nat :=
  if !s.xExists id then 0
  else
    let st := at_ (s.xState id).code 29
    if xClass id = 9 then
      let l := s.laneAt (xInst id) (xLink id)
      st + at_ (b2n l.e1) 28 + at_ (b2n l.e2) 27 + at_ (min 16 l.words.length) 16 + l.drop
    else
      let x := s.xing id
      let fenced := decide (s.xState id = .fenced)
      st + at_ (b2n x.e1) 28 + at_ (b2n x.e2) 27 + at_ (b2n (fenced && decide (xStruct id = .held))) 26 +
        at_ (b2n (fenced && decide (xStruct id = .count))) 25 + at_ (min queueSize (s.xEntries id)) 16 + x.drop

/-- STATE field of MB_PB_LINK. -/
def LaneState.code : LaneState → Nat
  | .off => 0
  | .calibrating => 1
  | .aligned => 2
  | .skewed => 3
  | .paused => 4
  | .fenced => 5
  | .torn => 6

/-- DELTA of MB_PB_LINK, in eighths of a slot, saturating at six bits. -/
def Lane.deltaField (l : Lane) : Nat :=
  if l.slot = 0 then 0 else unsigned 6 (clampI (-32) 31 (tdiv l.delta (2 * l.slot)))

/-- MB_PB_LINKk of a region. -/
def State.pbLink (s : State) (r : RegionNo) (k : Nat) : Nat :=
  let l := s.laneAt r k
  let st := if s.siteFenced (siteOf r) ∧ l.st ≠ .off then 5 else l.st.code
  at_ (b2n l.valid) 31 + at_ st 28 + at_ l.deltaField 20 + at_ (l.dlane % 4096) 8 + l.slips

/-- Crossings of every kind that stand in a state now, for MB_XING_STATUS. -/
def State.xCount (s : State) (want : XState) : Nat :=
  let rs := allRegions.filter s.regionExists
  let ids := (List.range 1024).map (fun i => xId 1 i) ++ (List.range 2).map (fun i => xId 2 i) ++
    (List.range 6).map (fun i => xId 3 i) ++
    rs.flatMap (fun r => [xId 4 r, xId 5 r, xId 7 r, xId 8 r] ++ (List.range 4).map (laneId r)) ++
    (List.range 8).flatMap forecastLanes ++ (List.range 4).map (fun i => xId 10 i) ++
    (List.range 2).map (fun i => xId 11 i) ++ (List.range 512).flatMap (fun i => [xId 12 i, xId 13 i])
  (ids.filter fun id => s.xExists id && decide (s.xState id = want)).length

/-! ### Commands (R220, R331) -/

/-- TARGET names a region: BAD_ARG where it is invalid, REFUSED on an empty or foreign side slot (R6, R316). -/
def State.regionTarget (s : State) (q : Req) : Option Reply :=
  if !validRegion q.tgt then some badTarget
  else if !s.regionExists q.tgt then some (codeReply stRefused) else none

/-- TARGET names a site (R316). -/
def siteTarget (q : Req) : Option Reply := if q.tgt ≤ 22 then none else some badTarget

/-- Identifier and MB_XING_SELSTAT, as CROSS_QUERY reports them. -/
def State.xPair (s : State) (id : Nat) : Bytes := toLE 4 id ++ toLE 4 (s.selstat id)

/-- CROSS_QUERY. -/
def cmdCrossQuery (q : Req) (s : State) : Result :=
  if q.u8 0 = 0 then
    if q.tgt ≠ 0 then refuse badTarget s
    else if !s.xExists (q.le 4 4) then refuse (badArg 4) s
    else .done (okReply (s.xPair (q.le 4 4))) s
  else if q.u8 0 = 1 then
    match s.regionTarget q with
    | some r => refuse r s
    | none =>
      let r := q.tgt
      let lanes := (List.range 4).filter fun k => (s.linkEnd r k).isSome
      let ids := [xId 4 r, xId 5 r, xId 7 r, xId 8 r] ++ lanes.map (laneId r)
      .done (okReply (toLE 4 ids.length ++ ids.flatMap s.xPair ++ (List.range 4).flatMap fun k => toLE 4 (s.pbLink r k))) s
  else refuse (badArg 0) s

/-- CROSS_QUERY, the command (R220). -/
def execCrossQuery (q : Req) (s : State) : Out := .next (s.submit 0x0701 cmdCrossQuery q)

/-- CROSS_RESET: a joint reset that repairs a tear and leaves a fence in place (R220). -/
def cmdCrossReset (q : Req) (s : State) : Result :=
  let id := q.le 0 4
  if !s.xExists id then refuse (badArg 0) s
  else if !s.xClocked id then refuse (codeReply stFenced) s
  else
    let st := s.xState id
    let s := s.resetContents id
    let s := if st = .fenced then s
      else if st = .torn then (s.whole id).raise evCrossJoint id else s.whole id
    .done (okReply (toLE 4 (s.selstat id))) s

/-- CROSS_RESET, the command (R220). -/
def execCrossReset (q : Req) (s : State) : Out := .next (s.submit 0x0702 cmdCrossReset q)

/-- A long operation's record with everything at its start value. -/
def newOp (kind : OpKind) (st : OpState) (now : Nat) : LongOp :=
  { kind := kind, starter := none, st := st, start := now, async := false, timer := now }

/-- CROSS_RELEASE: a long operation that FENCE_RELEASE ends (R220, R331, Table 11-18). -/
def cmdCrossRelease (q : Req) (s : State) : Result :=
  let scope : Option (Except Reply ReleaseScope) :=
    if q.u8 0 = 0 then
      match s.regionTarget q with
      | some r => some (.error r)
      | none => some (.ok (.region q.tgt))
    else if q.u8 0 = 1 then
      if h : q.tgt < 23 then some (.ok (.die ⟨q.tgt, h⟩)) else some (.error badTarget)
    else none
  match scope with
  | none => refuse (badArg 0) s
  | some (.error r) => refuse r s
  | some (.ok sc) =>
    if (s.scopeRegions sc).isEmpty ∧ !s.onlySideband sc then refuse (codeReply stRefused) s
    else if s.siteFenced (scopeSite sc) then refuse (codeReply stFenced) s
    else
      let mine := (s.scopeRegions sc).flatMap s.regionCrossings
      if s.xg.rel.any fun e => ((s.scopeRegions e.scope).flatMap s.regionCrossings).any mine.contains then
        refuse (busyReply 0) s
      else
        s.startOp q { newOp .crossRelease .running s.now with target := q.tgt, scope := q.u8 0, step := 1 } fun i s =>
          { s with xg := { s.xg with rel := s.xg.rel ++ [⟨sc, some i, s.now, none⟩] } }

/-- CROSS_RELEASE, the command (R220). -/
def execCrossRelease (q : Req) (s : State) : Out := .next (s.submit 0x0703 cmdCrossRelease q)

/-- PAIR_RECAL: one lane calibrated in service; the response waits for the calibration (R203, R331). -/
def cmdPairRecal (q : Req) (s : State) : Result :=
  match s.regionTarget q with
  | some r => refuse r s
  | none =>
    let k := q.u8 0
    if 3 < k ∨ (s.linkEnd q.tgt k).isNone then refuse (badArg 0) s
    else
      match s.xBlock (laneId q.tgt k) with
      | some st => refuse (codeReply st) s
      | none => .wait (.pairRecal q.tgt k) (s.modLane q.tgt k Lane.calibrate)

/-- PAIR_RECAL, the command (R203). -/
def execPairRecal (q : Req) (s : State) : Out := .next (s.submit 0x0704 cmdPairRecal q)

end Sys2Proof.Machine
end

