-- ==== Sys2Proof/Machine/Ledger.lean ====
section
/-! DEFINITION. The stretch ledger: the ring, its records, and a region's record former (04 R118-R123). -/
namespace Sys2Proof.Machine

/-- Records of the ring (R118). -/
def ledgerSize : Nat := 98304

/-- Record kinds (Table 4-4). -/
abbrev kStretch : Nat := 1
abbrev kTarget : Nat := 2
abbrev kStopOpen : Nat := 3
abbrev kStopClose : Nat := 4
abbrev kBase : Nat := 5
abbrev kWindow : Nat := 6
abbrev kMark : Nat := 7
abbrev kLoss : Nat := 8

/-- A record of a region. -/
def lrec (r : RegionNo) (kind aux cycle value : Nat) : LRec :=
  ⟨BitVec.ofNat 16 r, kind, aux, BitVec.ofNat 48 cycle, BitVec.ofNat 48 value⟩

/-- A record's 16 bytes (Table 4-3). -/
def LRec.bytes (x : LRec) : Bytes :=
  toLE 2 x.region.toNat ++ toLE 1 x.kind ++ toLE 1 x.aux ++ toLE 6 x.cycle.toNat ++ toLE 6 x.value.toNat

/-- The record at a ring index; none where nothing has been written since PKG_RESET_N. -/
def State.ringAt (s : State) (i : Nat) : Option LRec := Map.get none s.et.ring i

/-- The bytes at a ring index. -/
def State.ringBytes (s : State) (i : Nat) : Bytes :=
  match s.ringAt i with
  | some x => x.bytes
  | none => zeros 16

/-- ACTIVE anchors of a region by entry index (R124). -/
def State.activeAnchors (s : State) (r : RegionNo) : List Nat :=
  (s.et.anchors.filter fun e => decide (e.2.state = 2 ∧ e.2.region = r)).map (·.1)

/-- Entry indexes of every ACTIVE anchor. -/
def State.allActive (s : State) : List Nat := (s.et.anchors.filter fun e => decide (e.2.state = 2)).map (·.1)

/-- A ring slot written. -/
def State.ringPut (s : State) (x : LRec) : State :=
  { s with et := { s.et with
      ring := Map.put none s.et.ring s.et.wptr (some x)
      wptr := (s.et.wptr + 1) % ledgerSize
      written := s.et.written + 1 } }

/-- A LOSS record counts, and the ACTIVE anchors of its region wait for a new base (R119, Table 4-7). -/
def State.lossNoted (s : State) (r : RegionNo) : State :=
  let s := { s with et := { s.et with loss := sat16 s.et.loss 1 } }
  ((s.activeAnchors r).filter fun i => !(s.rgn r).awaits i).foldl (fun s i => s.sendMsg r (.capture i)) s

/-- The region whose record the next write would overwrite while an ACTIVE anchor still needs it (R123). -/
def State.ringVictim (s : State) : Option (RegionNo × Nat) :=
  match s.ringAt s.et.wptr with
  | none => none
  | some old =>
    let r := old.region.toNat
    if (s.activeAnchors r).any fun i =>
        (s.anchor i).based && decide ((s.anchor i).cursor + ledgerSize ≤ s.et.written) && !(s.rgn r).awaits i then
      some (r, old.cycle.toNat)
    else none

/-- A record written to the ring; a LOSS record stands in the place of one that is still needed (R123). One write
meets at most one such region per ACTIVE anchor. -/
def State.ringWrite (x : LRec) : Nat → State → State
  | 0, s => s.ringPut x
  | n + 1, s =>
    match s.ringVictim with
    | some (r, c) => State.ringWrite x n ((s.ringPut (lrec r kLoss 0 c s.win)).lossNoted r)
    | none => s.ringPut x

/-- A BASE record in the ring: the anchors that wait for it know their first record (R123, R127). -/
def State.basedBy (s : State) (x : LRec) : State :=
  if x.kind = kBase then
    ((s.activeAnchors x.region.toNat).filter fun i =>
        !(s.anchor i).based && decide (BitVec.ofNat 48 (s.anchor i).baseCycle = x.cycle)).foldl
      (fun s i => s.modAnchor i fun a => { a with based := true, cursor := s.et.written }) s
  else s

/-- The reader takes a record from a lane and writes it to the ring (R118, R194). -/
def State.record (s : State) (x : LRec) : State := (State.ringWrite x 1024 s).basedBy x

/-- An entry goes from a region into its record lane, behind what waits there; a lane that is fenced or torn refuses it, and it is
discarded and counted (R121, R193, R207). -/
def State.push (s : State) (r : RegionNo) (e : LaneEntry) : State :=
  if s.xState (xId 5 r) = .whole then s.modRgn r fun g => { g with former := { g.former with lane := g.former.lane ++ [e] } }
  else (s.modXing (xId 5 r) fun x => { x with drop := sat16 x.drop 1 }).xDrop 1

/-- A record leaves a region's former through its record lane; a replica that has found no slot yet records nothing (R108, R121,
R194). -/
def State.emit (s : State) (r : RegionNo) (kind aux cycle value : Nat) : State :=
  if (s.rgn r).rep.found then s.push r (.record (lrec r kind aux cycle value)) else s

/-- The former changed. -/
def State.modFormer (s : State) (r : RegionNo) (f : Former → Former) : State :=
  s.modRgn r fun g => { g with former := f g.former }

/-- The TARGET record of the present cycle written, now that its causes are known (R118). -/
def State.flushTarget (s : State) (r : RegionNo) : State :=
  match (s.rgn r).former.target with
  | some (c, aux, v) => (s.modFormer r fun f => { f with target := none }).emit r kTarget aux c v
  | none => s

/-- The pressure condition (R121): 8 entries or more in the record lane, or backpressure from the Oasis arbiter. -/
def Former.pressure (f : Former) : Bool := decide (8 ≤ f.lane.length) || f.pressed

/-- A WINDOW record is open: window form, or the rest of an anchored window (R121, R122). -/
def Former.wide (f : Former) : Bool := decide (f.form = .window) || f.anchored

/-- A STRETCH record, or, where an anchored region would write its 33rd of the window, an ANCHORED WINDOW record opened
in its place (R122). -/
def State.emitStretch (s : State) (r : RegionNo) (first v len : Nat) : State :=
  if 32 ≤ (s.rgn r).former.written ∧ !(s.activeAnchors r).isEmpty then
    let s := s.modFormer r fun f => { f with anchored := true, cycle := first, len := len, sum := v * len }
    let s := { s with et := { s.et with inexact := sat16 s.et.inexact 1 } }
    s.raise evLedgerInexact r
  else
    ((s.modFormer r fun f => { f with written := f.written + 1 }).flushTarget r).emit r kStretch v first len

/-- A TARGET record of an earlier cycle is written before anything of a cycle. -/
def State.flushBefore (s : State) (r : RegionNo) (cycle : Nat) : State :=
  match (s.rgn r).former.target with
  | some (c, _, _) => if c < cycle then s.flushTarget r else s
  | none => s

/-- Waiting marks follow their period's own records, in cycle order (R118, Table 4-4). -/
def State.flushMark (s : State) (r : RegionNo) : State :=
  let g := s.rgn r
  if g.former.len = 0 then
    let due := g.former.due.filter fun e => decide (e.1 < g.cycle)
    due.foldl (fun s e => (s.flushBefore r (e.1 + 1)).emit r kMark e.2.1 e.1 e.2.2)
      (s.modFormer r fun f => { f with due := f.due.filter fun e => !decide (e.1 < g.cycle) })
  else s

/-- The open run closed (R121). -/
def State.closeRun (s : State) (r : RegionNo) : State :=
  let f := (s.rgn r).former
  if f.form = .run ∧ !f.anchored ∧ 0 < f.len then
    ((s.modFormer r fun f => { f with len := 0, s := 0 }).emitStretch r f.cycle f.s f.len).flushMark r
  else s

/-- The open WINDOW record ended before a cycle (R121). -/
def State.closeWide (s : State) (r : RegionNo) (next : Nat) : State :=
  let f := (s.rgn r).former
  if f.wide then
    let s := s.modFormer r fun f => { f with cycle := next, len := 0, sum := 0 }
    if 0 < f.len then
      ((s.flushTarget r).emit r kWindow (b2n f.anchored) f.cycle (min 65535 f.len + at_ (min 65535 f.sum) 16)).flushMark r
    else s
  else s

/-- A STOP or BASE record in its place in cycle order: it ends a run and a WINDOW record, and stands before its cycle's TARGET (R118,
R121, R122). -/
def State.mark (s : State) (r : RegionNo) (kind aux cycle value : Nat) : State :=
  (((s.closeRun r).closeWide r cycle).flushBefore r cycle).emit r kind aux cycle value

/-- Place of an AUX in the order of R118. -/
def auxRank (aux : Nat) : Nat := if aux = 4 then 0 else if aux = 3 then 1 else if aux = 0 then 3 else 2

/-- The TARGET record of a cycle, which the former holds until the cycle's causes are all known: a cycle has at most one, whose AUX
names the first cause in the order of R118 and whose values are those in force. It ends a run and a WINDOW record. -/
def State.markTarget (s : State) (r : RegionNo) (aux cycle value : Nat) : State :=
  let s := ((s.closeRun r).closeWide r cycle).flushBefore r cycle
  s.modFormer r fun f => { f with target := some (match f.target with
    | some (_, old, _) => (cycle, if auxRank old ≤ auxRank aux then old else aux, value)
    | none => (cycle, aux, value)) }

/-- A BASE record and its TARGET record (R118, R127). -/
def State.markBase (s : State) (r : RegionNo) (cycle value target : Nat) : State :=
  (s.mark r kBase 0 cycle value).markTarget r 4 cycle target

/-- A period ended with an effective stretch, 0 included: the former accounts for it, and takes run form from the next
period when pressure has arisen (R121, R122). -/
def State.formPeriod (s : State) (r : RegionNo) (cycle v : Nat) : State :=
  let s := s.flushTarget r
  let f := (s.rgn r).former
  let s :=
    if f.wide then s.modFormer r fun f => { f with len := f.len + 1, sum := f.sum + v }
    else if f.form = .run then
      if 0 < v ∧ f.len ≠ 0 ∧ f.s = v then s.modFormer r fun f => { f with len := f.len + 1 }
      else
        let s := s.closeRun r
        if (s.rgn r).former.wide then s.modFormer r fun f => { f with len := f.len + 1, sum := f.sum + v }
        else if 0 < v then s.modFormer r fun f => { f with cycle := cycle, len := 1, s := v } else s
    else if 0 < v then s.emitStretch r cycle v 1 else s
  s.modFormer r fun f =>
    if f.form = .period ∧ !f.anchored ∧ f.pressure then { f with form := .run, len := 0, s := 0 } else f

/-- The form chosen at a window boundary (R121, R122). -/
def Former.choose (f : Former) (anchored : Bool) : Form :=
  if !f.pressure then .period
  else if f.form = .period then .run
  else if anchored then .run else .window

/-- A window boundary at the former: runs and WINDOW records end, and the form is chosen (R121, R122). -/
def State.formBoundary (s : State) (r : RegionNo) : State :=
  let s := (s.closeRun r).closeWide r (s.rgn r).cycle
  let anchored := !(s.activeAnchors r).isEmpty
  s.modFormer r fun f =>
    { f with form := f.choose anchored, written := 0, anchored := false, cycle := (s.rgn r).cycle, len := 0, s := 0, sum := 0 }

/-! ### Anchors freed (R124, R127) -/

/-- ANCHOR_ID: generation in [15:10], entry index in [9:0]. -/
def State.anchorId (s : State) (i : Nat) : Nat := (s.anchor i).gen.toNat * 1024 + i

/-- Argument of the anchor events: ANCHOR_ID and OWNER (Table 15-6). -/
def State.anchorArg (s : State) (i : Nat) : Nat := s.anchorId i + at_ (s.anchor i).owner.toNat 16

/-- An entry freed, its generation incremented (R124, R127). -/
def State.freeAnchor (s : State) (i : Nat) : State :=
  let r := (s.anchor i).region
  (s.modAnchor i fun a => { gen := a.gen + 1 }).modRgn r fun g => g.uncapture i

/-- An anchor broken: EV_ANCHOR_BROKEN, and the entry freed; requests that wait on it are answered (Table 4-7, Table
4-10). -/
def State.breakAnchor (s : State) (i : Nat) : State :=
  let hit (w : Wait) : Bool := match w with
    | .anchorAdd j => decide (j = i)
    | .convert j _ _ => decide (j = i)
    | .anchorRemove j => decide (j = i)
    | _ => false
  let s := (s.raiseIf (decide (i < 1024)) evAnchorBroken (s.anchorArg i)).freeAnchor i
  (List.finRange 8).foldl (fun s m =>
    match (s.box m).wait with
    | some w => if hit w then s.complete m (codeReply (match w with
        | .anchorRemove _ => stOk
        | _ => stFenced)) else s
    | none => s) s

/-- Every anchor of some regions broken (R127, R376). -/
def State.breakAnchors (s : State) (p : RegionNo → Bool) : State :=
  ((s.et.anchors.filter fun e => decide (e.2.state ≠ 0) && p e.2.region).map (·.1)).foldl State.breakAnchor s

/-- VALUE of a TARGET record: tg in [19:0], the nominal code in [32:20] (Table 4-4). -/
def targetValue (tg n : Nat) : Nat := tg % 2 ^ 20 + at_ n 20

/-- A capture: the latest multiple of 1/512 ns at or before an instant given in quanta (R109). -/
def capture (q : Nat) : Nat := q / 64

/-- VALUE of a record that carries a capture: its bits [47:0] in units of 1/512 ns (R119). DESIGN CHOICE (log 65): R109 bounds a capture's
error and gives no value inside the bounds; the capture here is the edge itself, truncated. -/
def captureValue (q : Nat) : Nat := capture q % 2 ^ 48

end Sys2Proof.Machine
end

