-- ==== Sys2Proof/Machine/CalSet.lean ====
section
/-! DEFINITION. Calibration sets, their seeds and their interpolation (08 R224-R229). -/
namespace Sys2Proof.Machine

/-- The temperature points (Table 8-5). -/
def tempPoints : List Int := [320, 526, 731, 937, 1143, 1349, 1554, 1760]

/-- The mean of temperature codes, to the nearest code, halves upward (R254). -/
def meanT (ts : List Int) : Int :=
  if ts.isEmpty then 0 else fdiv (2 * ts.sum + ts.length) (2 * ts.length)

/-- The lower of the two points that R227 interpolates between. -/
def lowPoint (t : Int) : Nat :=
  let go (k : Nat) : Bool := decide (tempPoints.getD k 0 ≤ t)
  if go 6 then 6 else if go 5 then 5 else if go 4 then 4 else if go 3 then 3 else if go 2 then 2 else if go 1 then 1 else 0

/-- A period value interpolated at a temperature (R227). -/
def interpPeriod (v : List Nat) (t : Int) : Nat :=
  if t ≤ 320 then v.getD 0 0
  else if 1760 ≤ t then v.getD 7 0
  else
    let k := lowPoint t
    let num := ((v.getD (k + 1) 0 : Int) - v.getD k 0) * (t - tempPoints.getD k 0)
    let den := tempPoints.getD (k + 1) 0 - tempPoints.getD k 0
    (v.getD k 0 + fdiv (2 * num + den) (2 * den)).toNat

/-- A minimum code interpolated at a temperature, upward (R227). -/
def interpMin (v : List Nat) (t : Int) : Nat :=
  if t ≤ 320 then v.getD 0 0
  else if 1760 ≤ t then v.getD 7 0
  else
    let k := lowPoint t
    let num := ((v.getD (k + 1) 0 : Int) - v.getD k 0) * (t - tempPoints.getD k 0)
    let den := tempPoints.getD (k + 1) 0 - tempPoints.getD k 0
    (v.getD k 0 - fdiv (-num) den).toNat

/-- A set interpolated at a temperature: the working set (R229). -/
def CalSet.work (c : CalSet) (t : Int) : WorkSet :=
  { a := (List.range 6).map fun i => interpPeriod (c.points.map fun p => p.a.getD i 0) t
    b := (List.range 6).map fun i => interpPeriod (c.points.map fun p => p.b.getD i 0) t
    minA := interpMin (c.points.map (·.minA)) t
    minB := interpMin (c.points.map (·.minB)) t
    temp := t }

/-- A set with no values. -/
def CalSet.empty (region : BitVec 16) : CalSet :=
  { region := region, vref := 0, valid := false, suspect := false, suspectB := false, episodes := 0, tLast := 0
    ergLast := 0, kv := 0, runs := 0, measured := 0
    points := List.replicate 8 ⟨List.replicate 6 0, List.replicate 6 0, 0, 0⟩ }

/-- A set expanded from the values that seeds give: eight points of A, eight of B, VREF and KV (R236, log 8). -/
def CalSet.ofSeeds (region : BitVec 16) (v : List Nat) : CalSet :=
  { CalSet.empty region with
    vref := v.getD 112 0
    kv := v.getD 113 0
    points := (List.range 8).map fun k =>
      { a := (List.range 6).map fun i => v.getD (7 * k + i) 0
        b := (List.range 6).map fun i => v.getD (56 + 7 * k + i) 0
        minA := v.getD (7 * k + 6) 0
        minB := v.getD (56 + 7 * k + 6) 0 } }

/-- A site's fuse record as the census found it. -/
def State.fuse (s : State) (site : Nat) : Bytes := ((s.sys.env.fuses.getD site none).getD [])

/-- The seed of region r in a managed die's fuse record (Table 14-9). -/
def kitSeed (bs : Bytes) (r : Nat) : Bytes := slice bs (64 + 32 * r) 32

/-- A period value seeded at point 3, at a point: its change per K in 1/65,536 of it, rounded as R227 rounds (R402). -/
def kitPeriod (p : Nat) (tcp : Int) (k : Nat) : Nat :=
  let num := (p : Int) * tcp * (tempPoints.getD k 0 - 937)
  ((p : Int) + fdiv (2 * num + 1048576) 2097152).toNat

/-- A minimum code seeded at point 3, at a point: its change per K in 1/256 code unit, rounded as R227 rounds (R402). -/
def kitMin (m : Nat) (tcm : Int) (k : Nat) : Nat := ((m : Int) - fdiv (-(tcm * (tempPoints.getD k 0 - 937))) 4096).toNat

/-- What a managed die's seed body gives a region: every value linear in temperature from point 3, both oscillators alike (R402).
DESIGN CHOICE (log 63): the expanded values are rounded as R227 rounds interpolated ones. -/
def kitSet (r : RegionNo) (b : Bytes) : CalSet :=
  let tcp := signed 16 (le b 20 2)
  let point (k : Nat) : CalPoint :=
    let v := (List.range 6).map fun i => kitPeriod (le b (8 + 2 * i) 2) tcp k
    let m := kitMin (le b 6 2) (signed 16 (le b 22 2)) k
    ⟨v, v, m, m⟩
  { CalSet.empty (BitVec.ofNat 16 r) with vref := le b 0 2, kv := le b 2 2, points := (List.range 8).map point }

/-- What the seeds give a region (R236, R402). -/
def State.seedSet (s : State) (r : RegionNo) : CalSet :=
  if !s.cal.seeded then CalSet.empty 0
  else if 19 ≤ siteOf r then kitSet r (kitSeed (s.fuse (siteOf r)) (localOf r))
  else CalSet.ofSeeds (BitVec.ofNat 16 r) (Config.ehrastSeed (s.fuse (siteOf r)) (localOf r))

/-- S_r, a region's spine delay in 0.5 ps: from its die's seeds (R145, Table 14-9). -/
def State.spine (s : State) (r : RegionNo) : Nat :=
  if 19 ≤ siteOf r then le (kitSeed (s.fuse (siteOf r)) (localOf r)) 4 2
  else Config.seedSpine (s.sys.env.fuses.getD (siteOf r) none) (localOf r)

/-- The Chrounyar tile beneath a bump field (R267, Table 14-9). -/
def State.fieldTile (s : State) (site g : Nat) : Nat :=
  if 19 ≤ site then byteAt (s.fuse site) (50 + g) % 64 else (Config.fieldTile (s.fuse site) site g).val

/-- What the seeds give a district spare pair (R236). -/
def State.seedSpare (s : State) (d : Nat) : CalSet :=
  if s.cal.seeded then CalSet.ofSeeds 0xFFFF (Config.spareSeed (s.fuse (districtSite d)) (districtLocal d / 8))
  else CalSet.empty 0

/-- A region's set. -/
def State.regionSet (s : State) (r : RegionNo) : CalSet := (Map.get none s.cal.sets (denseOf r)).getD (s.seedSet r)

/-- A district's spare set. -/
def State.spareSet (s : State) (d : Nat) : CalSet := (Map.get none s.cal.spares d).getD (s.seedSpare d)

/-- A region's set written. -/
def State.putRegionSet (s : State) (r : RegionNo) (c : CalSet) : State :=
  { s with cal := { s.cal with sets := Map.put none s.cal.sets (denseOf r) (some c) } }

/-- A district's spare set written. -/
def State.putSpareSet (s : State) (d : Nat) (c : CalSet) : State :=
  { s with cal := { s.cal with spares := Map.put none s.cal.spares d (some c) } }

/-- The set that serves a region: the district spare set once the pair serves it (R237). -/
def State.setFor (s : State) (r : RegionNo) : CalSet :=
  if (s.rgn r).chan.onSpare then s.spareSet (districtOf r) else s.regionSet r

/-- The serving set written. -/
def State.putSetFor (s : State) (r : RegionNo) (c : CalSet) : State :=
  if (s.rgn r).chan.onSpare then s.putSpareSet (districtOf r) c else s.putRegionSet r c

/-- A working set at the region: MIN_CODE and VREF as MB_RGN_CALINFO shows them; a standby twin that is being reloaded is loaded from it
(R229, R45, R235). -/
def Region.takeSet (g : Region) (w : WorkSet) (vref : Nat) : Region :=
  let g := { g with ws := some w, minCode := max w.minA w.minB, vref := vref }
  if g.chan.reloadWin.isSome ∧ g.chan.twin = .standby then g.load (!g.chan.activeB) g.nominal else g

/-- A working set in force at once, where a calibration or a takeover brings it. -/
def State.deliverSet (s : State) (r : RegionNo) (t : Int) : State :=
  let c := s.setFor r
  s.modRgn r fun g => g.takeSet (c.work t) c.vref

/-- A region's clocked side captures a message whose transfer is under way, and the next transfer begins (R188, R189). A register
write stands in the engine's image from its commit on; its capture lets the region's side have it. A region in a stop takes a working set
at its restart (R229). -/
def State.takeMsg (s : State) (r : RegionNo) : State :=
  match (s.rgn r).tx with
  | some (.message (.capture i), _) => (s.modRgn r fun g => { g with tx := none, capture := g.capture ++ [i] }).pump r
  | some (.message (.regwrite _ _), _) => (s.modRgn r fun g => { g with tx := none }).pump r
  | some (.message (.calset w v), _) => (s.modRgn r fun g => { (g.takeSet w v) with tx := none }).pump r
  | some (.period _, _) => s
  | none => s.pump r

/-- The tile that contains a Chrounyar region (R253). -/
def State.regionTile (s : State) (r : RegionNo) : Nat := (Config.regionTile (s.fuse 16) (localOf r)).val

/-- A tile. -/
def State.tile (s : State) (t : Nat) : Tile := vget s.sns.tile {} t

/-- The temperature that a tile gives its regions: the governing one while its rings are trusted, and T_RING until the first window
boundary after the ring period that clears the disagreement (R258, R259). -/
def Tile.gives (t : Tile) (now : Nat) : Option Int :=
  if t.trusted then some t.gov
  else if t.clearAt.any fun x => decide (now / 256 ≤ x / 256) then some t.tRing
  else none

/-- A region's temperature for R229 and feature 36: its window-mean diode reading, or what its Chrounyar tile gives (R258, R259). -/
def State.junction (s : State) (r : RegionNo) (y : Summary) : Int :=
  if siteOf r = 16 then ((s.tile (s.regionTile r)).gives s.now).getD y.diode else y.diode

/-- That temperature, once a summary has come. -/
def State.regionTemp (s : State) (r : RegionNo) : Option Int := (s.rgn r).sum.map (s.junction r)

/-- A site's mean temperature, from its regions' latest summaries. -/
def State.siteMean (s : State) (site : Nat) : Option Int :=
  let ts := (siteRegions site).filterMap fun r => (s.rgn r).sum.map (·.diode)
  if ts.isEmpty then none else some (meanT ts)

/-- The working set is sent as a CALSET message when the temperature has moved by 4 codes from that of the set sent last, or where one is
due (R190, R229). Where the crossing does not work it stays due (R207). DESIGN CHOICE (log 66): a set travels as one message word; the
spec gives no size of a CALSET word. -/
def State.workingSet (s : State) (r : RegionNo) : State :=
  let g := s.rgn r
  match s.regionTemp r with
  | none => s
  | some t =>
    let moved : Bool := match g.lastSet with
      | none => true
      | some w => decide (4 ≤ (t - w.temp).natAbs)
    if s.cal.seeded ∧ (g.wsDue ∨ moved) then
      if s.xState (xId 4 r) = .whole then
        (s.modRgn r fun g => { g with wsDue := false }).sendMsg r (.calset ((s.setFor r).work t) (s.setFor r).vref)
      else s.modRgn r fun g => { g with wsDue := true }
    else s

/-! ### Regions in calibration (R239, R248, R332) -/

/-- How a region leaves calibration or self-test. -/
inductive CalEnd where
  | accepted | void | suspect | failed | timeout | fenced | busy
  deriving DecidableEq, Repr

/-- The region is calibrated or tested now. -/
def RgnCal.running (c : RgnCal) : Bool := decide (3 ≤ c.phase)

/-- A region counted off a request. Under SCOPE 0 the request ends with the region's own code. -/
def LongOp.take (o : LongOp) (r : RegionNo) (e : CalEnd) : LongOp :=
  let o := { o with
    left := o.left.filter (· ≠ r)
    accepted := o.accepted + b2n (decide (e = .accepted))
    void := o.void + b2n (decide (e = .void ∨ e = .timeout ∨ e = .busy))
    suspect := o.suspect + b2n (decide (e = .suspect))
    failed := o.failed + b2n (decide (e = .failed ∨ e = .fenced)) }
  if e = .accepted then o
  else if o.scope = 0 ∧ e = .timeout then { o with code := stTimeout }
  else if o.scope = 0 ∧ e = .fenced then { o with code := stFenced }
  else if o.scope = 0 ∧ e = .busy then { o with code := stBusy }
  else { o with code := stPartial }

/-- Calibration or self-test request behind a handle, not DONE. -/
def State.calOp (s : State) (i : Nat) : Option LongOp :=
  match (s.handle i).op with
  | some o => if o.st ≠ .done ∧ (o.kind = .calRun ∨ o.kind = .selftestRun) then some o else none
  | none => none

/-- Entries leave the queue once every region they still wait for is running (R240). -/
def State.calQueue (s : State) : State :=
  { s with cal := { s.cal with queue := s.cal.queue.filter fun q => match s.calOp q.handle with
      | some o => o.left.any fun r => !(s.rgn r).cal.running
      | none => false } }

/-- A region's dues and its PHASE brought up to date (R238, Table 8-12). -/
def State.calSync (s : State) (r : RegionNo) : State :=
  let asked (k : OpKind) : Bool := (List.range 32).any fun i => match s.calOp i with
    | some o => decide (o.kind = k) && o.left.contains r
    | none => false
  let s := s.modRgn r fun g => { g with cal := { g.cal with dueReq := asked .calRun } }
  let c := (s.rgn r).cal
  let due := c.dueDrift || c.dueAge || c.dueReq
  let s := { s with cal := { s.cal with due := if due then addKey r s.cal.due else dropKey r s.cal.due } }
  if c.running then s
  else s.modRgn r fun g => { g with cal := { g.cal with
    phase := if c.dueReq || asked .selftestRun then 2 else if due || c.dueTest then 1 else 0 } }

/-- A request with no region left ends, unless it is being cancelled; a SUSPENDING one none of whose regions still runs is
SUSPENDED (R248). -/
def State.calOpEnd (s : State) (i : Nat) : State :=
  match s.calOp i with
  | some o =>
    if o.st = .cancelling then s
    else if o.left.isEmpty then s.finishOp i .completed o.code
    else if o.st = .suspending ∧ !(o.left.any fun r => (s.rgn r).cal.running && (decide (o.kind = .selftestRun) == (s.rgn r).cal.test)) then
      s.modOp i fun o => { o with st := .suspended }
    else s
  | none => s

/-- A region's activity ended: the requests of its kind that name it, and those that came while it ran, count it off (R239,
Table 11-18). -/
def State.calCount (s : State) (r : RegionNo) (e : CalEnd) : State :=
  let c := (s.rgn r).cal
  (List.range 32).foldl (fun s i => match s.calOp i with
    | some o =>
      if o.left.contains r ∧ (decide (o.kind = .selftestRun) = c.test ∨ c.began ≤ o.start ∨ e = .fenced) then
        (s.modOp i fun o => o.take r e).calOpEnd i
      else s
    | none => s) s

/-- A region leaves its slot: the activity's runs are dropped, a busy twin is standby again, and requests are counted off (R239,
Table 8-11). A region given up, timed out or lost stays due. -/
def State.calLeave (s : State) (r : RegionNo) (e : CalEnd) : State :=
  let c := (s.rgn r).cal
  let s := { s with cal := { s.cal with busy := s.cal.busy.filter (· ≠ r) } }
  let stays := decide (e = .void ∨ e = .timeout ∨ e = .fenced ∨ e = .busy)
  let s := s.modRgn r fun g =>
    let freeTwin := c.running && decide (g.chan.twin = .busy) && g.swap.isNone
    { (if freeTwin then g.twinBack s.win else g) with
      cal := { g.cal with
        phase := 0, ending := false, runs := [], reduced := [], voids := 0, gapStart := none, gapWins := 0, gapNow := none
        half := g.cal.half && stays && !c.test
        dueDrift := if c.test then g.cal.dueDrift else stays && (g.cal.dueDrift || !g.cal.dueAge)
        dueAge := if c.test then g.cal.dueAge else g.cal.dueAge && stays
        dueTest := g.cal.dueTest && !c.test
        lastTest := if c.test ∧ !stays then s.now else g.cal.lastTest } }
  ((s.calCount r e).calSync r).calQueue

/-- The activity is abandoned without counting for any request, which start it again: a swap that was given up leaves the region
due for its second oscillator (R235). -/
def State.calPause (s : State) (r : RegionNo) : State :=
  let s := { s with cal := { s.cal with busy := s.cal.busy.filter (· ≠ r) } }
  let s := s.modRgn r fun g => { g with cal := { g.cal with
    phase := 0, runs := [], reduced := [], voids := 0, gapStart := none, gapWins := 0, gapNow := none
    dueDrift := g.cal.dueDrift || (!g.cal.test && !g.cal.dueAge && !g.cal.dueReq) } }
  s.calSync r

/-- A takeover during work on the twin: the run is abandoned and its result discarded, and the region's calibration goes on in
gap mode (Table 8-11). A calibration whose runs are all accepted is complete. -/
def State.calGapOn (s : State) (r : RegionNo) : State :=
  if !(s.rgn r).cal.running then s
  else if (s.rgn r).cal.ending then s.calLeave r .accepted
  else s.modRgn r fun g => { g with cal := { g.cal with
    phase := if g.cal.test then 7 else 6, runs := [], reduced := [], voids := 0, half := false, gap := true
    gapStart := some g.win, gapWins := 0, gapNow := none } }

end Sys2Proof.Machine
end

