-- ==== Sys2Proof/Machine/Region.lean ====
section
/-! DEFINITION. Clock regions within a window: periods, the stretch loop, sympathetic stretch, changes of nominal
period, takeovers and planned swaps (02_region_clocking.md R38-R69). -/
namespace Sys2Proof.Machine

/-- One sixteenth of a nominal code, in quanta (R116). -/
def sixteenth (n : Nat) : Nat := 4 * n

/-- A window's length in quanta. -/
def windowQ : Nat := 256 * 32768

/-- Window of an instant in quanta. -/
def winOfQ (q : Nat) : Nat := q / windowQ

/-! ### Register fields in force -/

/-- PLAN_EN. -/
def Region.planEn (g : Region) : Bool := bitOf g.regs.ctrl.eff 2
/-- BUDGET_EN. -/
def Region.budgetEn (g : Region) : Bool := bitOf g.regs.ctrl.eff 8
/-- FLOOP_EN as last written: clearing it ends the loop at once (Table 2-8). -/
def Region.floopEn (g : Region) : Bool := bitOf g.regs.ctrl.img 1
/-- The frequency loop acts at a window boundary: FLOOP_EN is set, and was before the boundary's very instant (R68, R421). -/
def Region.floopActs (g : Region) : Bool := g.floopEn && bitOf g.regs.ctrl.eff 1
/-- TRIM_SLOW, signed. -/
def Region.trimSlow (g : Region) : Int := signed 8 (fld g.regs.trimlim.eff 15 8)
/-- TRIM_FAST, signed. -/
def Region.trimFast (g : Region) : Int := signed 8 (fld g.regs.trimlim.eff 7 0)
/-- SAFE_S. -/
def Region.safeS (g : Region) : Nat := fld g.regs.stiming.eff 21 16
/-- DECAY. -/
def Region.decayLen (g : Region) : Nat := fld g.regs.stiming.eff 11 8
/-- HOLD. -/
def Region.holdLen (g : Region) : Nat := fld g.regs.stiming.eff 7 0
/-- BUDGET_NS. -/
def Region.budgetNs (g : Region) : Nat := fld g.regs.budget.eff 7 0

/-- The trip level of a droop in mV below VREF: S of the highest threshold reached (R46). -/
def Region.level (g : Region) (droop : Int) : Nat :=
  let th := g.regs.thresh.eff
  let sv := g.regs.sval.eff
  if (fld th 31 24 : Int) ≤ droop then fld sv 31 24
  else if (fld th 23 16 : Int) ≤ droop then fld sv 23 16
  else if (fld th 15 8 : Int) ≤ droop then fld sv 15 8
  else if (fld th 7 0 : Int) ≤ droop then fld sv 7 0
  else 0

/-- Trip level for the lowest supply seen, in mV. -/
def Region.trip (g : Region) (vmin : Nat) : Nat := g.level ((g.vref : Int) - vmin)

/-- s_sym: the largest sympathetic stretch in force (R48). -/
def Region.sSym (g : Region) : Nat := g.sym.foldl max 0

/-- Quanta that FIXED adds to the target: SAFE_S sixteenths of the nominal (R50). -/
def Region.margin (g : Region) : Nat := if g.sl.st = .fixed then 4 * g.nominal * g.safeS else 0

/-- The period target in quanta for a raw trim (R93). -/
def Region.target (g : Region) (trim : Int) : Nat :=
  let t := if g.planEn then clampI g.trimFast g.trimSlow trim else 0
  let tg := (g.nominal * (64 + t)).toNat
  let fl := 64 * max 160 (max g.gov (min g.minCode g.nominal))
  max tg fl + g.margin

/-- The trim in force for a raw trim: after limits (R93, log 13). -/
def Region.clipTrim (g : Region) (trim : Int) : Int :=
  if g.planEn then clampI g.trimFast g.trimSlow trim else 0

/-- A new target in force: a TARGET record where tg or n differs from the previous period's (Table 4-4). -/
def State.setTarget (s : State) (r : RegionNo) (aux oldTg oldN : Nat) (trim : Int) : State :=
  let s := s.modRgn r fun g => { g with
    tg := g.target trim, trim := g.clipTrim trim, sl := { g.sl with margin := g.margin } }
  let g := s.rgn r
  if g.tg = oldTg ∧ g.nominal = oldN then s
  else s.markTarget r aux g.cycle (targetValue g.tg g.nominal)

/-! ### Periods -/

/-- A register's value at a period edge in quanta (R421). -/
def Lat.tickQ (edge : Nat) (l : Lat) : Lat := { l with eff := if l.since * 32768 < edge then l.img else l.base }

/-- The registers that take effect at a period boundary (R73). -/
def Region.periodTick (g : Region) : Region :=
  let e := g.edge
  let ctrl := (g.regs.ctrl.tickQ e).eff
  let en := BitVec.ofNat 4 (fld ctrl 7 4)
  { g with
    regs := { g.regs with
      thresh := g.regs.thresh.tickQ e, sval := g.regs.sval.tickQ e, stiming := g.regs.stiming.tickQ e
      pair0 := g.regs.pair0.tickQ e, pair1 := g.regs.pair1.tickQ e }
    symEn := en
    sym := (List.range 4).map fun k => if en.getLsbD k then g.sym.getD k 0 else 0 }

/-- The margin of FIXED brought to what SAFE_S and the state now give: the target takes the difference and no more, with a TARGET
record and a TARGET notice (R50, R73, R197). -/
def State.remargin (s : State) (r : RegionNo) (aux : Nat) : State :=
  let g := s.rgn r
  if g.margin = g.sl.margin then s
  else
    let s := s.modRgn r fun g => { g with tg := g.tg - g.sl.margin + g.margin, sl := { g.sl with margin := g.margin } }
    let s := s.markTarget r aux g.cycle (targetValue (s.rgn r).tg g.nominal)
    s.sendTarget r (s.rgn r).tg (winOfQ g.edge)

/-- The window's sum passes the budget: counted once per window; marked and reported while BUDGET_EN governs (R51,
Table 2-8). -/
def State.budgetCheck (s : State) (r : RegionNo) (cycle : Nat) : State :=
  let g := s.rgn r
  if g.budgetNs * 32768 < g.win_.quanta ∧ !g.win_.spent then
    let s := s.modRgn r fun g => { g with win_ := { g.win_ with spent := true }, overCnt := sat16 g.overCnt 1 }
    if g.win_.unbudgeted then s
    else
      (s.modFormer r fun f => { f with due := f.due ++ [(cycle, 1, winOfQ g.edge % 2 ^ 48)] }).raise evStretchBudget
        (r + at_ (s.rgn r).overCnt 16)
  else s

/-- An overrange of a period that ended in the window in progress, or past it: counted, and reported once for the window in which
the period ended (R44). -/
def State.overrange (s : State) (r : RegionNo) (ahead : Bool) : State :=
  let a := (s.rgn r).win_
  let first := !(if ahead then a.aheadR else a.range)
  let s := (s.modRgn r fun g => { g with
    rangeCnt := sat16 g.rangeCnt 1
    win_ := { g.win_ with range := g.win_.range || !ahead, aheadR := g.win_.aheadR || ahead } })
  s.raiseIf first evRegionOverrange (r + at_ (s.rgn r).rangeCnt 16)

/-- A period that ended is accounted for in the window in which it ended: the one in progress, or the next one where the boundary's
own accounts are still to come (R44, R51, R251). -/
def WinAcc.take (a : WinAcc) (ahead : Bool) (extra v lvl : Nat) : WinAcc :=
  let trip := b2n (decide (0 < lvl))
  if ahead then { a with aheadQ := a.aheadQ + extra, aheadS := a.aheadS + v, aheadT := a.aheadT + trip }
  else { a with
    quanta := a.quanta + extra, sixteenths := a.sixteenths + v, trips := a.trips + trip
    stretched := a.stretched || decide (0 < v) }

/-- A working set that is due goes once the crossing works (R190, R229). -/
def State.calset (s : State) (r : RegionNo) : State := if (s.rgn r).wsDue then s.workingSet r else s

/-- s_loop takes a new value; a change is told to every enabled partner (R53). -/
def State.setLoop (s : State) (r : RegionNo) (f : StretchLoop → StretchLoop) : State :=
  let old := (s.rgn r).sl.s
  let s := s.modRgn r fun g => { g with sl := f g.sl }
  let new := (s.rgn r).sl.s
  if new = old then s else s.sendStretch r new

/-- The state machine of Table 2-2 for a level applied at a period's start. -/
def StretchLoop.next (l hold decay : Nat) (x : StretchLoop) : StretchLoop :=
  match x.st with
  | .idle => if l = 0 then { x with s := 0 } else { x with st := .hold, s := l, hold := hold }
  | .hold =>
    if x.s ≤ l then { x with s := l, hold := hold }
    else if 1 < x.hold then { x with hold := x.hold - 1 }
    else { x with s := max (x.s - 1) l, st := if max (x.s - 1) l = 0 then .idle else .decay, decay := 1 }
  | .decay =>
    if x.s ≤ l then { x with st := .hold, s := l, hold := hold }
    else if decay ≤ x.decay then
      { x with s := max (x.s - 1) l, st := if max (x.s - 1) l = 0 then .idle else .decay, decay := 1 }
    else { x with decay := x.decay + 1 }
  | .paused => x
  | .fixed => { x with s := 0 }

/-- Entry into FIXED, or exit from it, at a period's start: the target changes by the margin, a TARGET notice goes out
at once, and on entry s_loop falls to 0 (R50, R53, R197). -/
def State.fixedChange (s : State) (r : RegionNo) (enter : Bool) : State :=
  (s.setLoop r fun x => { x with
    st := if enter then .fixed else .idle, s := 0, hold := 0, decay := 0
    toFixed := x.toFixed && !enter, toIdle := x.toIdle && enter }).remargin r
      (if enter then 1 else 2)

/-- A write of SLOOP_EN governs from the first period boundary strictly after it (R421): FIXED is due. -/
def Region.loopDue (g : Region) : Bool := g.sl.toFixed && decide (g.sl.st ≠ .fixed) && decide (g.sl.asked * 32768 < g.edge)

/-- The end of FIXED is due (R421). -/
def Region.idleDue (g : Region) : Bool := g.sl.toIdle && decide (g.sl.st = .fixed) && decide (g.sl.askedOn * 32768 < g.edge)

/-- STRETCH_LOOP_STEP: the level of the period before last is applied at a period's start (R47, R49). -/
def execStretchLoopStep (r : RegionNo) (s : State) : Out :=
  let g := s.rgn r
  if !s.clocked r ∨ g.stop.isSome then .next s
  else if g.loopDue then .next (s.fixedChange r true)
  else if g.idleDue then .next (s.fixedChange r false)
  else .next (s.setLoop r (StretchLoop.next g.sl.l2 g.holdLen g.decayLen))

/-- s_sym for a notice of s from a sender's code (R53). -/
def symOf (v pSrc pDst : Nat) : Nat := if pDst = 0 then 48 else min 48 ((v * pSrc + pDst - 1) / pDst)

/-- STRETCH_NOTICE_RECEIVE: the link's sympathetic stretch from the sender's s_loop and code; discarded with 0 during a
frequency-change stop, ignored in FIXED or with SYM_EN clear (R50, R53, R54, Table 2-8). -/
def execStretchNoticeReceive (r : RegionNo) (k : Fin 4) (s : State) : Out :=
  match (s.laneAt r k).sNote with
  | none => .next s
  | some (v, pSrc) =>
    let g := s.rgn r
    let s := s.modLane r k fun l => { l with sNote := none }
    if g.sl.st = .fixed ∨ !g.symEn.getLsbD k then .next s
    else
      let new := if g.stop.any (fun x => decide (x.kind = 1)) then 0 else symOf v pSrc g.nominal
      .next (s.modRgn r fun g => { g with sym := g.sym.set k new })

/-! ### Changes of nominal period -/

/-- A PERIOD word from the engine (R58, R190): the newest replaces one that waits, not one in transfer (R189). -/
def State.sendCode (s : State) (r : RegionNo) (c : Nat) : State := (s.modRgn r fun g => { g with sent := some c }).pump r

/-- A code latched as pending; one equal to the nominal is cleared without a stop, and a swap under way starts again at
the new code (R58, R59, R64). DESIGN CHOICE (log 25): a code latched after the boundary, before the stop of an earlier code has begun,
takes that code's place and waits for the next boundary: R59 applies only the newest pending code. -/
def State.latchCodeAt (s : State) (r : RegionNo) (c at_ : Nat) : State :=
  s.modRgn r fun g =>
    let same := decide (c = g.nominal) && g.stop.isNone
    { g with
      pend := if same then none else some (c, at_)
      swap := if same then g.swap else g.swap.map fun w => { w with aligned := none } }

/-- A code latched now. -/
def State.latchCode (s : State) (r : RegionNo) (c : Nat) : State := s.latchCodeAt r c s.now

/-- The code that a REGION_SET_PERIOD's response gives for a region (Table 11-4). -/
def entryCode (pay : Bytes) (r : RegionNo) : Option Nat :=
  ((List.range (byteAt pay 0)).find? fun k => decide (le pay (4 + 4 * k) 2 = r)).map fun k => bits (le pay (6 + 4 * k) 2) 12 0

/-- A REGION_SET_PERIOD that waits for a region's latch counts it off, and is answered once every code is latched (R74). One whose code
still waits behind the word that was latched waits on. -/
def State.periodLatched (s : State) (r : RegionNo) (behind : Option Nat) : State :=
  (List.finRange 8).foldl (fun s m =>
    match (s.box m).wait with
    | some (.period left st pay) =>
      let left' := if behind.isSome && decide (entryCode pay r = behind) then left else left.filter (· ≠ r)
      if left'.isEmpty ∧ left.contains r then s.complete m { status := st, payload := pay }
      else s.modBox m fun b => { b with wait := some (.period left' st pay) }
    | _ => s) s

/-- A stop that had been announced does not come: partners go on as after a restart (R59, R202). -/
def State.unstop (s : State) (r : RegionNo) : State :=
  let g := s.rgn r
  if g.stopSaid ∧ g.pend.isNone then
    (s.modRgn r fun g => { g with stopSaid := false }).sendNote r (.restart g.tg true)
  else s

/-- PERIOD_CODE_LATCH: the word in transfer is latched, and the next transfer begins (R58, R188). -/
def execPeriodCodeLatch (r : RegionNo) (s : State) : Out :=
  match (s.rgn r).tx with
  | some (.period c, _) =>
    if s.clocked r ∧ s.xState (xId 4 r) = .whole then
      let behind := if (s.rgn r).sent = some c then none else (s.rgn r).sent
      .next (((((s.latchCode r c).modRgn r fun g => { g with tx := none }).unstop r).pump r).periodLatched r behind)
    else .next s
  | _ => .next s

/-- A swap or a failure of an oscillator counted at the region, and carried (R191, Table 7-7). -/
def State.countChan (s : State) (r : RegionNo) (swap : Bool) : State :=
  (s.modRgn r fun g => { g with cnt :=
    if swap then { g.cnt with swaps := (g.cnt.swaps + 1) % 65536 } else { g.cnt with faults := (g.cnt.faults + 1) % 65536 } }).carry r

/-- A stop opens: the clock is held low, a STOP_OPEN record is written, and the stretch loop pauses with the levels not
yet used (Table 2-4, Table 2-2). DESIGN CHOICE (log 25): it pauses in an unplanned stop and an outage too; Table 2-2 names the
frequency-change stop only. -/
def State.openStop (s : State) (r : RegionNo) (kind code : Nat) (failed : Bool) : State :=
  let g := s.rgn r
  let s := s.mark r kStopOpen kind g.cycle (captureValue g.edge)
  s.modRgn r fun g => { g with
    stop := some ⟨kind, g.edge, code, failed, false⟩
    sl := if g.sl.st = .fixed then g.sl else { g.sl with st := .paused, lp := max g.sl.l1 g.sl.l2 } }

/-- FREQ_STOP_BEGIN: at the end of the period that was in progress at the first window boundary after the latch, at most
one per window; a pending code equal to the nominal is cleared (R58-R60). The oscillator is parked and loaded for the
new code. -/
def execFreqStopBegin (r : RegionNo) (s : State) : Out :=
  let g := s.rgn r
  match g.pend with
  | none => .next s
  | some (c, at_) =>
    if !s.clocked r ∨ g.stop.isSome ∨ g.edge ≤ nextAfter 256 at_ * 32768 ∨ g.stopWin = some (winOfQ g.edge) then .next s
    else if c = g.nominal then .next (s.modRgn r fun g => { g with pend := none })
    else
      let s := if g.stopSaid then s.modRgn r fun g => { g with stopSaid := false } else s.sendNote r .stop
      let s := s.openStop r 1 c false
      .next (s.modRgn r fun g =>
        { (g.load g.chan.activeB c) with
          pend := none, stopWin := some (winOfQ g.edge), swap := g.swap.map fun w => { w with aligned := none } })

/-- Restart after a stop: STOP_CLOSE, the register words that the restart edge puts in force, the new nominal and target, the
stretch of the PAUSED row, the restart notices and fast acquisition (Table 2-4, Table 2-2, R54, R73, R202). DESIGN CHOICE (log 25):
a region that is in FIXED sends its restart notice with 0, as R54 says of every restart; R50 says that it sends none in FIXED. -/
def State.restart (s : State) (r : RegionNo) (st : Stop) (q vmin : Nat) : State :=
  let lp := max (s.rgn r).sl.lp ((s.rgn r).trip vmin)
  let s := s.modRgn r fun g => { g with edge := q }
  let s := if s.wordsCrossed r then s.relane (s.modRgn r Region.periodTick) r else s
  let g := s.rgn r
  let toFixed := g.loopDue
  let toIdle := g.idleDue
  let s := s.mark r kStopClose (st.kind + (if st.fixed then 128 else 0)) g.cycle (captureValue q)
  let loop (x : StretchLoop) : StretchLoop :=
    if toIdle then { x with st := .idle, s := 0, hold := 0, l1 := 0, l2 := 0, lp := 0, toIdle := false }
    else if x.st = .fixed then { x with l1 := 0, l2 := 0 }
    else if toFixed then { x with st := .fixed, s := 0, hold := 0, l1 := 0, l2 := 0, lp := 0, toFixed := false }
    else if lp = 0 then { x with st := .idle, s := 0, hold := 0, l1 := 0, l2 := 0, lp := 0 }
    else { x with st := .hold, s := lp, hold := g.holdLen, l1 := 0, l2 := 0, lp := 0 }
  let plan (g : Region) : Int :=
    match g.plans.find? fun p => decide (p.win0 ≤ winOfQ q ∧ winOfQ q < p.win0 + 16) with
    | some p => if s.inHold then g.trim else p.trims.getD (winOfQ q - p.win0) 0
    | none => g.trim
  let s := s.modRgn r fun g => { g with
    stop := none, edge := q, nominal := st.code, sl := loop g.sl
    pend := if g.pend.map (·.1) = some st.code then none else g.pend
    fl := { g.fl with fast := 4 } }
  let s := s.setTarget r 3 g.tg g.nominal (plan (s.rgn r))
  let s := s.sendStretch r (s.rgn r).sl.s
  ((s.sendNote r (.restart (s.rgn r).tg (decide (st.kind ≠ 1)))).takeMsg r).workingSet r

/-- FREQ_STOP_RESTART: verification has passed, which is 33 ns after the stop's begin, and the gate opens within 40 ns of it (Table
2-4); the standby twin is reloaded for the new code (R60, R62). -/
def execFreqStopRestart (r : RegionNo) (q vmin : Nat) (s : State) : Out :=
  match (s.rgn r).stop with
  | none => .next s
  | some st =>
    if st.kind = 1 ∧ !st.failed ∧ st.opened + 33 * 32768 ≤ q ∧ q ≤ st.opened + 40 * 32768 then
      let s := s.restart r st q vmin
      .next (s.modRgn r fun g =>
        if g.chan.twin = .standby then
          { (g.load (!g.chan.activeB) st.code) with
            chan := { g.chan with locked := false, reloadWin := some (winOfQ q + 4) } }
        else g)
    else .next s

/-- The region has a twin that can take over (R63, R66). -/
def Chan.hasTwin (c : Chan) : Bool := decide (c.twin ≠ .failed) && decide (c.st ≠ .single) && decide (c.st ≠ .dead)

/-- RETUNE_FAIL: the restart of a frequency-change stop fails; the active channel has failed (R61). Where no stop is open and the twin
has been loaded and aligned for a planned swap, the verification that fails is that of swap step 3: the swap ends, and an unplanned
stop opens for the direct takeover (R65 c). -/
def execRetuneFail (r : RegionNo) (s : State) : Out :=
  match (s.rgn r).stop with
  | none =>
    let aligned : Bool := match (s.rgn r).swap with
      | some w => w.aligned.isSome
      | none => false
    if s.clocked r ∧ aligned ∧ (s.rgn r).chan.hasTwin then .next (s.openStop r 2 (s.rgn r).nominal true) else .next s
  | some st =>
    if st.kind = 1 ∧ !st.failed then
      .next ((s.modRgn r fun g => { g with stop := some { st with failed := true } }).raise evRegionRetuneFail (r + at_ st.code 16))
    else .next s

/-- TWIN_RELOAD_LOCKED: the reloaded standby twin has locked; a calibration that waited for it is complete (R62, R235). -/
def execTwinReloadLocked (r : RegionNo) (s : State) : Out :=
  let g := s.rgn r
  if g.chan.reloadWin.isSome ∧ g.chan.twin = .standby then
    let s := s.modRgn r fun g => { g with chan := { g.chan with locked := true, reloadWin := none } }
    .next (if g.cal.ending then s.calLeave r .accepted else s)
  else .next s

/-! ### Failures of an oscillator -/

/-- The last oscillator of a region has failed: the clock stops, the region is DEAD and its crossings are fenced (R66,
R208). The outage is one stop (Table 2-7). -/
def State.regionDie (s : State) (r : RegionNo) : State :=
  let s := if (s.rgn r).stop.isSome then s else s.openStop r 3 (s.rgn r).nominal true
  let ids := s.sideCrossings [r]
  let s := s.calLeave r .failed
  let s := s.modRgn r fun g => { g with
    chan := { g.chan with st := .dead, twin := .failed, locked := false, reloadWin := none }, swap := none
    stop := g.stop.map fun x => { x with failed := true } }
  (s.raise evRegionDead r).fenceAll ids

/-- CHANNEL_EDGE_TIMEOUT: no rising edge of the active channel within 68/16 of the nominal; an unplanned stop opens, or a
region without a twin is DEAD (R65, R66). -/
def execChannelEdgeTimeout (r : RegionNo) (s : State) : Out :=
  let g := s.rgn r
  if !s.clocked r ∨ g.stop.isSome then .next s
  else if g.chan.hasTwin then .next (s.openStop r 2 g.nominal true)
  else .next (s.regionDie r)

/-- DIRECT_TAKEOVER_RESTART: the twin's first edge ends the stop; busy work on it is discarded, the region is SINGLE and
EV_REGION_TAKEOVER is raised (R61, R65). -/
def execDirectTakeoverRestart (r : RegionNo) (q vmin : Nat) (s : State) : Out :=
  let g := s.rgn r
  match g.stop with
  | none => .next s
  | some st =>
    if st.failed ∧ st.opened ≤ q ∧ g.chan.hasTwin then
      let s := s.calGapOn r
      let s := if st.kind = 1 ∨ g.chan.twin = .busy then s.modRgn r fun g => g.load (!g.chan.activeB) st.code else s
      let s := s.modRgn r fun g => { g with
        chan := { g.chan with st := .single, activeB := !g.chan.activeB, twin := .failed, locked := false, reloadWin := none }
        swap := none }
      .next (((s.restart r st q vmin).countChan r false).raise evRegionTakeover r)
    else .next s

/-- REGION_DEAD: the remaining oscillator of a region without a twin fails (R66). -/
def execRegionDead (r : RegionNo) (s : State) : Out :=
  let g := s.rgn r
  if validRegion r ∧ g.chan.st ≠ .dead ∧ !g.chan.hasTwin ∧ (s.clocked r ∨ g.stop.isSome) then .next (s.regionDie r)
  else .next s

/-! ### Planned swaps (Table 2-6) -/

/-- The twin that a swap would make active is suspect (R234). -/
def State.twinSuspect (s : State) (r : RegionNo) : Bool :=
  let c := s.setFor r
  c.suspect && decide (c.suspectB = !(s.rgn r).chan.activeB)

/-- Gap mode applies to a region: GAP_MODE is set, the request it serves names gap mode, or it has no twin (R241). -/
def State.gapApplies (s : State) (r : RegionNo) : Bool :=
  let g := s.rgn r
  bitOf s.cal.ctrl.eff 2 || (g.cal.running && g.cal.gap) || decide (g.chan.st = .single)

/-- No planned swap is made once gap mode applies: the active oscillator's part goes on in it (R241, R243). -/
def State.calGapHalf (s : State) (r : RegionNo) : State :=
  s.modRgn r fun g => { g with cal := { g.cal with
    phase := if g.cal.test then 7 else 6, gap := true, half := true, oscB := g.chan.activeB, runs := [], reduced := [], voids := 0
    gapStart := some g.win, gapWins := 0, gapNow := none } }

/-- PLANNED_SWAP_REQUEST: the twin is loaded for the nominal, locked and aligned (Table 2-6 steps 1-3). A drift failure's
swap runs in hold and ahead of other work; the others wait for firmware, and none makes a suspect twin active (R65,
R234, Table 1-7), or where gap mode applies (R241). -/
def execPlannedSwapRequest (r : RegionNo) (why : SwapWhy) (s : State) : Out :=
  let g := s.rgn r
  let drift := decide (why = .drift)
  let ok := s.clocked r && g.chan.hasTwin && g.stop.isNone && g.pend.isNone &&
    (if drift then decide (2 ≤ g.fl.drift)
     else s.fw && !s.twinSuspect r && !g.cal.ending && (match g.swap with
       | none => decide (g.chan.twin = .standby)
       | some w => decide (w.why = why) && w.aligned.isNone) && !s.gapApplies r && (match why with
       | .calibration => decide (g.cal.phase = 4) && g.chan.reloadWin.isNone
       | .wear => s.wearSwap r
       | .retire => (s.setFor r).suspect && decide ((s.setFor r).episodes = 3 ∧ (s.setFor r).suspectB = g.chan.activeB)
       | _ => true))
  if ok then
    let s := if drift then s.calGapOn r else s
    .next (s.modRgn r fun g =>
      { (g.load (!g.chan.activeB) g.nominal) with
        chan := { g.chan with st := if g.chan.st = .paired then .twinBusy else g.chan.st, twin := .busy, locked := true, reloadWin := none }
        swap := some ⟨why, some ((s.now + 1310) / 256)⟩ })
  else if why = .calibration ∧ g.cal.phase = 4 ∧ s.gapApplies r then .next (s.calGapHalf r)
  else .next s

/-- SWAP_HANDOVER: the multiplexer hands the clock to the aligned twin at an unstretched boundary with no stop pending,
or for a drift failure at the next boundary after one window; the former active channel takes its role (R63, R65). -/
def execSwapHandover (r : RegionNo) (s : State) : Out :=
  let g := s.rgn r
  match g.swap with
  | some ⟨why, some w⟩ =>
    let now_ := g.sLast = 0 ∨ (why = .drift ∧ w + 1 ≤ g.win)
    if s.clocked r ∧ g.stop.isNone ∧ g.pend.isNone ∧ now_ ∧ (why = .drift ∨ g.win < w + 16) then
      let role : Chan → Chan := fun c => match why with
        | .calibration => { c with twin := .busy, st := if c.st = .paired then .twinBusy else c.st }
        | .wear => { c with twin := .standby, st := if c.st = .twinBusy then .paired else c.st }
        | .drift => { c with twin := .failed, st := .single, locked := false }
        | .retire => { c with twin := .failed, st := .single, locked := false }
      let s := s.modRgn r fun g => { g with
        chan := role { g.chan with activeB := !g.chan.activeB }
        swap := none
        cal := if why = .calibration then
            { g.cal with phase := if g.cal.test then 7 else 5, half := false, oscB := g.chan.activeB } else g.cal
        fl := { g.fl with fast := 4, drift := 0 } }
      let s := (s.countChan r true).raise evRegionSwap r
      let s := if why = .retire then
          ({ s with cal := { s.cal with retired := sat16 s.cal.retired 1 } } : State).raise evCalOscRetired (r + at_ (b2n g.chan.activeB) 16)
        else s
      .next (s.raiseIf (decide (why = .drift)) evRegionTakeover r)
    else .next s
  | _ => .next s

/-- A swap given up: the twin is standby again (R64). -/
def State.swapDrop (s : State) (r : RegionNo) : State :=
  s.modRgn r fun g =>
    if g.swap.isSome then { (if g.chan.twin = .busy then g.twinBack s.win else g) with swap := none } else g

/-- SWAP_WAIT_TIMEOUT: no unstretched boundary within 16 windows of alignment (R64). The requests that asked for the activity are
answered BUSY for the region, which stays due for its second oscillator (R235). -/
def execSwapWaitTimeout (r : RegionNo) (s : State) : Out :=
  match (s.rgn r).swap with
  | some ⟨why, some w⟩ => if why ≠ .drift ∧ w + 16 ≤ (s.rgn r).win then
      .next (if why = .calibration then (s.swapDrop r).calLeave r .busy else s.swapDrop r)
    else .next s
  | _ => .next s

end Sys2Proof.Machine
end

