-- ==== Sys2Proof/Machine/Window.lean ====
section
/-! DEFINITION. A region at a window boundary: the window that ends is accounted for, and the trim, the ceiling, the
frequency loop and the working set of the new one are set (02 R51-R56, R73; 03 R92-R95; 08 R229; 09 R251, R252). -/
namespace Sys2Proof.Machine

/-! ### Status (Table 2-10) -/

/-- CHANNEL_STATE. -/
def ChanState.code : ChanState → Nat
  | .paired => 0
  | .twinBusy => 1
  | .single => 2
  | .spare => 3
  | .dead => 4

/-- SLOOP_STATE. -/
def SLoop.code : SLoop → Nat
  | .idle => 0
  | .hold => 1
  | .decay => 2
  | .paused => 3
  | .fixed => 4

/-- OVERBUDGET: the window is over budget and budgets are in force in it (R51, Table 2-8). -/
def WinAcc.flagged (a : WinAcc) : Bool := a.spent && !a.unbudgeted

/-- MB_RGN_STATUS as the region stands. -/
def Region.statusWord (g : Region) (hold : Bool) : Nat :=
  at_ (b2n hold) 23 + at_ (b2n g.win_.flagged) 22 + at_ (b2n g.stop.isSome) 21 + at_ (b2n g.fl.flock) 20 +
    at_ (b2n g.chan.activeB) 19 + at_ g.chan.st.code 16 + at_ g.sLast 10 + at_ g.sl.s 4 + g.sl.st.code

/-- MB_RGN_EVCNT as the region stands. -/
def Region.evcntWord (g : Region) : Nat := at_ g.overCnt 16 + g.rangeCnt

/-- The engine-side copies of the region's read-only words refreshed (R73). -/
def Region.refresh (g : Region) (hold : Bool) : Region :=
  { g with roStatus := word (g.statusWord hold), roEvcnt := word g.evcntWord, roStretch := g.stretchCnt }

/-- CHANNEL_STATE of the engine-side copy alone: the engine's district controller knows it although the record lane is fenced (R66, R67). -/
def Region.showChan (g : Region) : Region :=
  let w := g.roStatus.toNat
  { g with roStatus := word (w - at_ (fld g.roStatus 18 16) 16 + at_ g.chan.st.code 16) }

/-- A window boundary's refresh: through a record lane that works, every word; else CHANNEL_STATE (R66, R67, R73). -/
def State.showWords (s : State) (r : RegionNo) (g : Region) : Region :=
  if s.xState (xId 5 r) = .whole then g.refresh s.inHold else g.showChan

/-! ### The window that ends -/

/-- Insertion of a number into a rising list. -/
def insertI (x : Int) : List Int → List Int
  | [] => [x]
  | y :: ys => if x ≤ y then x :: y :: ys else y :: insertI x ys

/-- Twice the median of some values, exactly (R252). -/
def median2 (xs : List Int) : Int :=
  let ys := xs.foldr insertI []
  let n := ys.length
  ys.getD ((n - 1) / 2) 0 + ys.getD (n / 2) 0

/-- Twice the median of a district's unfaulted sensors of one kind, from their latest summaries; none where there is no such sensor
(R252). -/
def State.districtMedian2 (s : State) (d : Nat) (k : SensorKind) : Option Int :=
  let xs := (districtRegions d).filterMap fun r =>
    let g := s.rgn r
    match g.sum, k with
    | some y, .adc => if g.badAdc then none else some (y.adc : Int)
    | some y, .diode => if g.badDiode then none else some y.diode
    | _, _ => none
  if xs.isEmpty then none else some (median2 xs)

/-- The median as a reading: to the nearest whole code, halves upward, as R254 rounds the means of temperatures. -/
def State.districtMedian (s : State) (d : Nat) (k : SensorKind) : Option Int :=
  (s.districtMedian2 d k).map fun m => fdiv (m + 1) 2

/-- The window's sensor readings: a faulted sensor gives way to its district's median (R251, R252). -/
def State.windowReadings (s : State) (r : RegionNo) (m : WinMeas) : Nat × Int :=
  let g := s.rgn r
  let d := districtOf r
  let adc := if g.badAdc then ((s.districtMedian d .adc).map Int.toNat).getD m.adc else m.adc
  let diode := meanT [m.diode1, m.diode2]
  (adc, if g.badDiode then (s.districtMedian d .diode).getD diode else diode)

/-- A reading judged: outside its bounds or within them, and since when. -/
def Watch.see (w : Watch) (odd : Bool) (now : Nat) : Watch := if w.odd = odd then w else ⟨odd, now⟩

/-- It has stood so for 1 ms without a break (R252). -/
def Watch.stands (w : Watch) (odd : Bool) (now : Nat) : Bool := decide (w.odd = odd) && decide (w.since + 1000000 ≤ now)

/-- A region's own readings against R252: outside the range of Table 9-1, or more than 100 mV or 15 K from the median of its district's
unfaulted sensors of the kind. -/
def State.watchReadings (s : State) (r : RegionNo) (m : WinMeas) : State :=
  let d := districtOf r
  let far (k : SensorKind) (x most : Int) : Bool := match s.districtMedian2 d k with
    | some y => decide (2 * most < (2 * x - y).natAbs)
    | none => false
  let diode := meanT [m.diode1, m.diode2]
  let oddA := decide (m.adc < 400 ∨ 1423 < m.adc) || far .adc m.adc 100
  let out (x : Int) : Bool := decide (x < -640 ∨ 2047 < x)
  let oddD := out m.diode1 || out m.diode2 || far .diode diode 240
  s.modRgn r fun g => { g with adcWatch := g.adcWatch.see oddA s.now, diodeWatch := g.diodeWatch.see oddD s.now }

/-- Case of R52 in the window that ends, and the droop warning it leaves: taken after four windows over budget or an
overrange, cleared after sixteen windows with neither. DESIGN CHOICE (log 65): one window over budget, short of four in a row, breaks the
run of sixteen too; R52 says "in which neither happens" and leaves open whether the first case happens in such a window. -/
def WinAcc.close (a : WinAcc) : WinAcc :=
  let run := if a.flagged then min 4 (a.overRun + 1) else 0
  let clean := if a.flagged || a.range then 0 else min 16 (a.clean + 1)
  let hit := decide (4 ≤ run) || a.range
  { a with overRun := run, clean := clean, warn := hit || (a.warn && decide (clean < 16)) }

/-- The frame's gathering takes a window (R260, R266). -/
def FrameAcc.add (f : FrameAcc) (g : Region) (y : Summary) : FrameAcc :=
  let deficit : Int := (g.vref : Int) - y.adc
  { n := f.n + 1
    tMax := if f.n = 0 then y.diode else max f.tMax y.diode
    tSum := f.tSum + y.diode
    worst := if f.n = 0 then deficit else max f.worst deficit
    above := decide (g.vref + 50 < y.adc)
    trips := f.trips + y.trips
    sMax := max f.sMax (g.win_.quanta / 32768)
    spent := f.spent || g.win_.flagged
    range := f.range || g.win_.range }

/-- A forecast-zero window ends: it counts for a gap-mode run unless a trip fell in it (R242, R243). -/
def RgnCal.gather (c : RgnCal) (g : Region) : RgnCal :=
  { c with gapNow := none, gapWins := if c.gapNow = some g.win ∧ g.win_.trips = 0 then c.gapWins + 1 else c.gapWins }

/-- The window's accounts close: the summary and the read-only copies go through the record lane, and with a lane that is not whole
neither they nor the frame's share arrive (R51, R52, R73, R96, R251). -/
def State.closeWindow (s : State) (r : RegionNo) (m : WinMeas) : State :=
  let s := s.watchReadings r m
  let (adc, diode) := s.windowReadings r m
  let whole := decide (s.xState (xId 5 r) = .whole)
  let g := s.rgn r
  let y : Summary := ⟨g.win * 256, adc, diode, g.win_.trips, g.win_.sixteenths⟩
  let s := s.modRgn r fun g =>
    let g := if whole then { (s.showWords r g) with acc := g.acc.add g y } else s.showWords r g
    { g with win_ := g.win_.close, cal := g.cal.gather g }
  let s := s.push r (.summary y)
  let warn := (s.rgn r).win_.warn
  { s with sys := { s.sys with droop := if warn then addKey r s.sys.droop else dropKey r s.sys.droop } }

/-! ### The window that begins -/

/-- The registers that take effect at a window boundary (R73). -/
def Region.windowTick (g : Region) (at_ : Nat) : Region :=
  { g with regs := { g.regs with
      ctrl := g.regs.ctrl.tick at_, trimlim := g.regs.trimlim.tick at_
      budget := g.regs.budget.tick at_, floop := g.regs.floop.tick at_ } }

/-- The accounts of a new window, begun with the periods that have ended in it, the one that straddled the boundary among them (R44,
R51). A change of BUDGET_EN is marked in the ledger, in its place in cycle order (R118, Table 4-4). -/
def State.openWindow (s : State) (r : RegionNo) (w : Nat) : State :=
  let was := (s.rgn r).win_.unbudgeted
  let s := s.modRgn r fun g =>
    { g with
      win := w
      win_ := { g.win_ with
        quanta := g.win_.aheadQ, sixteenths := g.win_.aheadS, stretched := decide (0 < g.win_.aheadS)
        trips := g.win_.aheadT, spent := false, range := g.win_.aheadR
        aheadQ := 0, aheadS := 0, aheadT := 0, aheadR := false
        unbudgeted := !g.budgetEn } }
  let now := (s.rgn r).win_.unbudgeted
  let s := (s.budgetCheck r ((s.rgn r).cycle - 1)).flushMark r
  if now = was then s
  else s.modFormer r fun f => { f with due := f.due ++ [((s.rgn r).cycle, if now then 2 else 4, w % 2 ^ 48)] }

/-- Value of a ramp in a window: trim × (4 − k) / 4 in its k-th window, then 0 (R95, Table 1-7). -/
def Ramp.value (p : Ramp) (w : Nat) : Int :=
  let k := w + 1 - p.win
  if k ≤ 4 then tdiv (p.trim * (4 - k)) 4 else 0

/-- The newest held plan that covers a window (R93). -/
def Region.planFor (g : Region) (w : Nat) : Option HeldPlan :=
  g.plans.find? fun p => decide (p.win0 ≤ w) && decide (w < p.win0 + 16)

/-- The trim for a window and the ramp in force: in hold the ramp of Table 1-7, else the newest plan that covers the
window, else a ramp under way, else the ramp from a plan that has no window left (R93, R95). -/
def Region.trimFor (g : Region) (w : Nat) (hold : Bool) : Int × Option Ramp :=
  if hold then
    let p := g.ramp.getD ⟨w, g.trim⟩
    (p.value w, some p)
  else
    match g.planFor w, g.ramp with
    | some p, _ => (p.trims.getD (w - p.win0) 0, none)
    | none, some p => (p.value w, some p)
    | none, none =>
      match g.plans with
      | p :: _ =>
        if p.win0 + 16 ≤ w then
          let q : Ramp := ⟨w, p.trims.getD 15 0⟩
          (q.value w, some q)
        else (0, none)
      | [] => (0, none)

/-- The ceiling code that applies from a window (R92). -/
def Region.ceiling (g : Region) (w : Nat) : Region :=
  match g.govNext with
  | some (c, w0) => if w0 ≤ w then { g with gov := c, govNext := none } else g
  | none => g

/-- |error| in code units of 125/64 ps is at most a bound in ps. -/
def within (err : Int) (ps : Nat) : Bool := decide (err.natAbs * 125 ≤ ps * 64)

/-- Arithmetic shift right. -/
def asr (x : Int) (n : Nat) : Int := fdiv x (2 ^ n)

/-- A bias DAC takes an error, saturating at its ends (R55). -/
def biasStep (bias : Nat) (err : Int) (shift : Nat) : Nat := (clampI 0 4095 ((bias : Int) + asr err shift)).toNat

/-- The frequency loop at a window boundary: the bias takes the error, saturating; FLOCK; a drift condition;
fast acquisition until a set is loaded (R55, R56, R369). DESIGN CHOICE (log 25): FAST_ACQ governs from the window boundary, like the
loop's own registers; R73 does not list it. -/
def Region.freqLoop (g : Region) (err : Int) : Region :=
  let f := g.regs.floop.eff
  let shift := if 0 < g.fl.fast ∨ g.ws.isNone ∨ bitOf g.regs.ctrl.eff 3 then fld f 7 4 else fld f 3 0
  let bias := if g.chan.activeB then g.fl.biasB else g.fl.biasA
  let new := biasStep bias err shift
  let out := !within err (fld f 23 16)
  let fl := { g.fl with
    flock := if out then false else if within err (fld f 15 8) then true else g.fl.flock
    drift := if out && (new = 0 || new = 4095) then min 2 (g.fl.drift + 1) else 0
    fast := g.fl.fast - 1 }
  { g with fl := if g.chan.activeB then { fl with biasB := new } else { fl with biasA := new } }

/-- The standby twin's own frequency loop, at the nominal and without stretch or trim: its bias takes the error of its own edges,
with FAST_SHIFT until it has locked (R57, R62). -/
def Region.twinLoop (g : Region) (err : Int) : Region :=
  if g.floopActs ∧ g.chan.twin = .standby then
    let f := g.regs.floop.eff
    let shift := if !g.chan.locked ∨ g.ws.isNone ∨ bitOf g.regs.ctrl.eff 3 then fld f 7 4 else fld f 3 0
    if g.chan.activeB then { g with fl := { g.fl with biasA := biasStep g.fl.biasA err shift } }
    else { g with fl := { g.fl with biasB := biasStep g.fl.biasB err shift } }
  else g

/-- The frequency loops' boundary, with EV_REGION_UNLOCK (R55-R57). -/
def State.freqBoundary (s : State) (r : RegionNo) (err twin : Int) : State :=
  let s := s.modRgn r fun g => g.twinLoop twin
  let g := s.rgn r
  if g.floopActs ∧ g.stop.isNone then
    (s.modRgn r fun g => g.freqLoop err).raiseIf (!within err (fld g.regs.floop.eff 23 16)) evRegionUnlock r
  else s

/-- The trim of the new window and its target (R93, R95). -/
def State.trimBoundary (s : State) (r : RegionNo) (w : Nat) : State :=
  let g := s.rgn r
  let (t, ramp) := g.trimFor w s.inHold
  let s := s.modRgn r fun g => { g with ramp := ramp }
  let s := if g.stop.isSome then s.modRgn r fun g => { g with trim := g.clipTrim t }
    else s.setTarget r 0 g.tg g.nominal t
  if (s.rgn r).tg = g.tg ∨ (s.rgn r).noted = some (w, (s.rgn r).tg) then s else s.sendTarget r (s.rgn r).tg w

/-- The target that a region will have in the next window, once it is fixed. -/
def State.nextTarget (s : State) (r : RegionNo) : Nat :=
  let g := s.rgn r
  let w := g.win + 1
  let g := ((if s.wordsCrossed r then g.windowTick (w * 256) else g).ceiling w)
  g.target (g.trimFor w s.inHold).1

/-- A region that has a pair link sends its target for the next window, at its first period boundary 96 ns or more into a window: earlier
than 128 ns before the next one (R197). -/
def State.saysTarget (s : State) (r : RegionNo) : State :=
  let g := s.rgn r
  if g.edge / 32768 % 256 < 96 ∨ g.noted.any (fun x => decide (x.1 = g.win + 1)) ∨ !((List.range 4).any fun k => (s.linkEnd r k).isSome) then s
  else
    let t := s.nextTarget r
    let s := s.modRgn r fun g => { g with noted := some (g.win + 1, t) }
    if t = g.tg then s else s.sendTarget r t (g.win + 1)

/-- A region about to stop sends STOP at the start of its last period before the stop: the one that its target carries past the window
boundary at which its pending code applies (R58, R202). -/
def State.saysStop (s : State) (r : RegionNo) : State :=
  let g := s.rgn r
  match g.pend with
  | some (c, at_) =>
    let b := nextAfter 256 at_ * 32768
    if !g.stopSaid ∧ c ≠ g.nominal ∧ g.edge ≤ b ∧ b < g.edge + g.tg ∧ g.stopWin ≠ some (winOfQ (g.edge + g.tg)) then
      (s.modRgn r fun g => { g with stopSaid := true }).sendNote r .stop
    else s
  | none => s

/-- REGION_PERIOD_END: the period ends `taps` tap boundaries beyond its target, or at 48 with an overrange; the effective
stretch lengthens it, the ledger and the budget take it, its trip level is latched, and register words that have crossed
take effect (R42-R48, R51, R73, R207). `offers` is what the region's logic offers on each pair link in the period (R195, R196). -/
def execRegionPeriodEnd (r : RegionNo) (taps vmin : Nat) (s : State) (offers : List (Option Nat) := []) : Out :=
  let g := s.rgn r
  if !s.clocked r ∨ g.stop.isSome then .next s
  else
    let v := min 48 (max (min 48 taps) (max g.sl.s g.sSym))
    let extra := v * sixteenth g.nominal
    let edge := g.edge + g.tg + extra
    let lvl := g.trip vmin
    let s := s.lanePeriod r offers
    let s := s.modRgn r fun g => { g with
      edge := edge, cycle := g.cycle + 1, sLast := v
      sl := { g.sl with l2 := g.sl.l1, l1 := lvl }
      stretchCnt := if v = 0 then g.stretchCnt else g.stretchCnt + 1 }
    let ahead := decide (winOfQ edge ≠ g.win)
    let s := s.modRgn r fun g => { g with win_ := g.win_.take ahead extra v lvl }
    let s := if ahead then s else s.budgetCheck r g.cycle
    let s := if 48 < taps then s.overrange r ahead else s
    let s := if g.rep.found then s.formPeriod r g.cycle v else s
    let s := s.flushMark r
    let s := s.modRgn r fun g => { g with cnt := { g.cnt with trips := (g.cnt.trips + b2n (decide (0 < lvl))) % 65536 } }
    let s := s.carry r
    let s := if s.wordsCrossed r then s.relane (s.modRgn r Region.periodTick) r else s
    .next (((((s.remargin r 1).takeMsg r).calset r).saysTarget r).saysStop r)

/-- A window boundary of a DEAD region: its status words are refreshed, and its windows go on to count toward the end of the droop
warning (R52, R73). -/
def State.deadBoundary (s : State) (r : RegionNo) : State :=
  let s := s.modRgn r fun g =>
    { (s.showWords r g) with
      win := s.win
      win_ := { g.win_.close with
        quanta := 0, sixteenths := 0, trips := 0, stretched := false, spent := false, range := false
        aheadQ := 0, aheadS := 0, aheadT := 0, aheadR := false } }
  { s with sys := { s.sys with droop := if (s.rgn r).win_.warn then addKey r s.sys.droop else dropKey r s.sys.droop } }

/-- REGION_WINDOW_BOUNDARY: the first period boundary of a region at or after a window boundary; during a stop, the
boundary itself. Register words that have crossed take effect (R73, R207). -/
def execRegionWindowBoundary (r : RegionNo) (m : WinMeas) (s : State) : Out :=
  let g := s.rgn r
  let w := if g.stop.isSome then s.win else winOfQ g.edge
  if validRegion r ∧ g.chan.st = .dead ∧ g.win < s.win then .next (s.deadBoundary r)
  else if !s.clocked r ∨ w ≤ g.win then .next s
  else
    let s := s.formBoundary r
    let s := s.closeWindow r m
    let s := if s.wordsCrossed r then s.relane (s.modRgn r fun g => g.windowTick (w * 256)) r else s
    let s := s.openWindow r w
    let s := s.modRgn r fun g => g.ceiling w
    let s := s.trimBoundary r w
    .next (s.freqBoundary r m.err m.twinErr)

end Sys2Proof.Machine
end

