-- ==== Sys2Proof/Machine/Model.lean ====
section
/-! DEFINITION. Hawkmoth's model images: layout, validation, residency, cost and arithmetic (03 R84-R91). -/
namespace Sys2Proof.Machine

/-- n rounded up to a multiple of 4. -/
def pad4 (n : Nat) : Nat := (n + 3) / 4 * 4

/-- BODY_LEN of a layer with n inputs and m outputs (Table 3-6). -/
def bodyLen (n m : Nat) : Nat := pad4 (m * n) + 4 * m + pad4 (2 * m) + pad4 m

/-- Offset of descriptor i. -/
def descOff (i : Nat) : Nat := 64 + 16 * i

/-- A descriptor's body offset. -/
def bodyOff (bs : Bytes) (i : Nat) : Nat := le bs (descOff i + 8) 4

/-- Layer i of an image (Table 3-6, R85). -/
def layerOf (bs : Bytes) (i : Nat) : Layer :=
  let d := descOff i
  let n := byteAt bs d
  let m := byteAt bs (d + 1)
  let b := bodyOff bs i
  let bias := b + pad4 (m * n)
  let mult := bias + 4 * m
  let shift := mult + pad4 (2 * m)
  { nIn := n, mOut := m, relu := byteAt bs (d + 2) = 0
    lo := signed 8 (byteAt bs (d + 3)), hi := signed 8 (byteAt bs (d + 4))
    weight := (List.range (m * n)).map fun k => signed 8 (byteAt bs (b + k))
    bias := (List.range m).map fun k => signed 32 (le bs (bias + 4 * k) 4)
    mult := (List.range m).map fun k => signed 16 (le bs (mult + 2 * k) 2)
    shift := (List.range m).map fun k => byteAt bs (shift + k) }

/-- The checks of R86 on one descriptor and its body. -/
def layerOk (bs : Bytes) (i : Nat) : Bool :=
  let d := descOff i
  let n := byteAt bs d
  let m := byteAt bs (d + 1)
  let act := byteAt bs (d + 2)
  let lo := signed 8 (byteAt bs (d + 3))
  let hi := signed 8 (byteAt bs (d + 4))
  let b := bodyOff bs i
  let bias := b + pad4 (m * n)
  let mult := bias + 4 * m
  let shift := mult + pad4 (2 * m)
  decide (1 ≤ n ∧ n ≤ 64 ∧ 1 ≤ m ∧ m ≤ 64 ∧ act ≤ 1) && (if act = 0 then decide (lo = 0 ∧ hi = 0) else decide (lo ≤ hi)) &&
    zeroAt bs (d + 5) 3 && decide (b % 4 = 0 ∧ le bs (d + 12) 4 = bodyLen n m ∧ 128 ≤ b ∧ b + bodyLen n m ≤ bs.length) &&
    ((List.range m).all fun k => decide (byteAt bs (shift + k) ≤ 31)) &&
    zeroAt bs (b + m * n) (pad4 (m * n) - m * n) && zeroAt bs (mult + 2 * m) (pad4 (2 * m) - 2 * m) &&
    zeroAt bs (shift + m) (pad4 m - m)

/-- Two bodies do not overlap. -/
def bodiesApart (bs : Bytes) (i j : Nat) : Bool :=
  let len (k : Nat) := bodyLen (byteAt bs (descOff k)) (byteAt bs (descOff k + 1))
  decide (bodyOff bs i + len i ≤ bodyOff bs j ∨ bodyOff bs j + len j ≤ bodyOff bs i)

/-- The districts of an image's bitmap. -/
def districtsOf (bs : Bytes) : List Nat := (List.range 256).filter fun d => bitAt (byteAt bs (24 + d / 8)) (d % 8)

/-- A model image as received: validated under R86 and read, or refused. -/
def parseImage (bs : Bytes) : Option Image :=
  let n := byteAt bs 8
  let kind := byteAt bs 9
  let ds := districtsOf bs
  let last := byteAt bs (descOff (n - 1) + 1)
  let ok := slice bs 0 4 == [0x48, 0x4D, 0x4B, 0x4D] && decide (le bs 4 2 = 1 ∧ le bs 6 2 ≠ 0) &&
    decide (le bs 12 4 = bs.length ∧ 128 ≤ bs.length) && decide (le bs 16 4 = crc32 (bs.drop 20)) &&
    decide (1 ≤ n ∧ n ≤ 4 ∧ kind ≤ 1 ∧ byteAt bs 10 ≤ 63 ∧ byteAt bs 11 ≤ 1) && zeroAt bs 20 4 && zeroAt bs 56 8 &&
    zeroAt bs (descOff n) (16 * (4 - n)) && ((List.range n).all (layerOk bs)) &&
    ((List.range n).all fun i => (List.range i).all (bodiesApart bs i)) &&
    decide (byteAt bs 10 + byteAt bs 64 ≤ 64) &&
    ((List.range (n - 1)).all fun i => byteAt bs (descOff (i + 1)) == byteAt bs (descOff i + 1)) &&
    [1, 2, 4, 8, 16].contains last && !ds.isEmpty && (decide (kind = 0) || decide (ds.length = 1))
  if ok then
    some { id := BitVec.ofNat 16 (le bs 6 2), perDistrict := kind = 1, featOff := byteAt bs 10
           requireFc := byteAt bs 11 = 1, districts := ds, layers := (List.range n).map (layerOf bs), bytes := bs, state := 0 }
  else none

/-! ### Residency (R87, R88) -/

/-- The image a district follows: a per-district image before a shared one, the newer where two of a kind name it. -/
def followed (images : List Image) (d : Nat) : Option Image :=
  let mine := images.filter fun x => x.districts.contains d
  match (mine.filter (·.perDistrict)).getLast? with
  | some x => some x
  | none => mine.getLast?

/-- The resident set with a new image active: it replaces one of its MODEL_ID whole, and a shared one takes its districts
from every other shared image (R87). -/
def install (images : List Image) (x : Image) : List Image :=
  let rest := images.filter (·.id ≠ x.id)
  let rest := if x.perDistrict then rest
    else rest.map fun y => if y.perDistrict then y else { y with districts := y.districts.filter fun d => !x.districts.contains d }
  rest.filter (fun y => !y.districts.isEmpty) ++ [x]

/-- Shape of an image (R88). -/
def Image.shape (x : Image) : List (Nat × Nat) := x.layers.map fun l => (l.nIn, l.mOut)

/-- Districts that one pass of a layer serves. -/
def perPass (l : Nat × Nat) : Nat :=
  if l.1 ≤ 16 ∧ l.2 ≤ 16 then 4 else if l.1 ≤ 32 ∧ l.2 ≤ 32 then 2 else 1

/-- The cost of a resident set in passes (R88). -/
def cost (images : List Image) : Nat :=
  let shapes := (List.range 256).filterMap fun d => (followed images d).map Image.shape
  let groups := shapes.eraseDups
  (groups.map fun g =>
    let d := (shapes.filter (· == g)).length
    (g.map fun l => (d + perPass l - 1) / perPass l).sum).sum

/-- The limit of R88. -/
def costLimit : Nat := 416

/-- The residency limits of R87 and the cost of R88 for a new image; one being replaced still counts (R89 step 3). DESIGN CHOICE (log 65):
so does an image that loses its last district to the new one, which R89 does not name. -/
def fits (images : List Image) (x : Image) : Bool :=
  decide (images.length + 1 ≤ 64) && decide ((images.map fun y => y.bytes.length).sum + x.bytes.length ≤ 262144) &&
    decide (cost (install images x) ≤ costLimit)

/-! ### Arithmetic (R90, R91) -/

/-- sat32 and sat8. -/
def sat32 (x : Int) : Int := clampI (-2147483648) 2147483647 x
/-- Clamp to [-128, 127]. -/
def sat8 (x : Int) : Int := clampI (-128) 127 x

/-- One output of a layer and how many saturations it made (R90). -/
def Layer.out (l : Layer) (x : List Int) (o : Nat) : Int × Nat :=
  let acc := (List.range l.nIn).foldl (fun a i => a + l.weight.getD (o * l.nIn + i) 0 * x.getD i 0) (l.bias.getD o 0)
  let acc' := sat32 acc
  let sh := l.shift.getD o 0
  let p := acc' * l.mult.getD o 0
  let p := if 0 < sh then p + 2 ^ (sh - 1) else p
  let p := fdiv p (2 ^ sh)
  let p := if l.relu then max 0 p else clampI l.lo l.hi p
  (sat8 p, b2n (decide (acc' ≠ acc)) + b2n (decide (sat8 p ≠ p)))

/-- A layer's outputs. -/
def Layer.run (l : Layer) (x : List Int) : List Int × Nat :=
  let ys := (List.range l.mOut).map (l.out x)
  (ys.map (·.1), (ys.map (·.2)).sum)

/-- An image run on a feature vector: the 16 trims and the saturations (R90, R91). -/
def Image.run (x : Image) (feat : List Int) : List Int × Nat :=
  let first := feat.drop x.featOff
  let (y, n) := x.layers.foldl (fun a l => let r := l.run (a.1.take l.nIn); (r.1, a.2 + r.2)) (first, 0)
  ((List.range 16).map fun j => y.getD (j * y.length / 16) 0, n)

end Sys2Proof.Machine
end

