-- ==== Sys2Proof/Machine/Flags.lean ====
section
/-! DEFINITION. What the read-only words show: status, counters and read-backs of every register block and of the
management window (Tables 2-10, 3-13, 4-11, 5-9, 6-7, 7-9, 8-12, 9-7, 10-6, 10-16, 14-13). -/
namespace Sys2Proof.Machine

/-! ### The management window (R20, Table 10-6) -/

/-- A word of the window as a held-word crossing's destination has it: the present one while the crossing is whole, the one captured
last otherwise (R207). -/
def State.through (s : State) (id off : Nat) : Nat :=
  if s.xState id = .whole then s.windowLive off else Map.get 0 s.xg.shown (faceKey id off)

/-- A word of the window as the host reads it. Request buffers, MB_IRQ_ENABLE and the replica's count are on the host's side; MB_STATUS
takes its hold bits [30:27] from class 0x3 and the rest from direct status (Table 7-7). -/
def State.windowRead (s : State) (off : Nat) : Nat :=
  let a := off / 4 * 4
  if a < 0x1000 then if a % 512 < 256 then s.windowLive a else s.through (xId 1 (256 + a / 512)) a
  else if a < 0x1080 then s.through (xId 1 (256 + a % 128 / 16)) a
  else if a = 0x1100 then
    let x := s.through (xId 1 264) a
    let h := s.through (xId 3 2) a
    at_ (bits x 31 31) 31 + at_ (bits h 30 27) 27 + bits x 26 0
  else if a = 0x110C then s.through (xId 3 2) a
  else if a = 0x1110 ∨ a = 0x1118 ∨ a = 0x111C then s.through (xId 1 264) a
  else s.windowLive a

/-! ### Regions (Table 2-10) -/

/-- A word of a region's block, as the engine side holds it (R70, R190). A code is pending from its latch to the restart of its stop
(R58, R61). -/
def State.rgnWord (s : State) (r : RegionNo) (off : Nat) : Nat :=
  let g := s.rgn r
  let code := match g.pend, g.stop with
    | some (c, _), _ => some c
    | none, some st => if st.kind = 1 then some st.code else none
    | none, none => none
  if off = 0x00 then g.regs.ctrl.img.toNat
  else if off = 0x04 then match code with
    | some c => at_ 1 16 + c
    | none => g.nominal
  else if off = 0x08 then g.regs.trimlim.img.toNat
  else if off = 0x0C then g.regs.thresh.img.toNat
  else if off = 0x10 then g.regs.sval.img.toNat
  else if off = 0x14 then g.regs.stiming.img.toNat
  else if off = 0x18 then g.regs.budget.img.toNat
  else if off = 0x1C then g.regs.floop.img.toNat
  else if off = 0x20 then g.regs.pair0.img.toNat
  else if off = 0x24 then g.regs.pair1.img.toNat
  else if off = 0x28 then g.roStatus.toNat
  else if off = 0x2C then at_ g.vref 16 + g.minCode
  else if off = 0x30 then g.roEvcnt.toNat
  else if off = 0x34 then g.roStretch.toNat
  else 0

/-! ### Hawkmoth (Table 3-13) -/

/-- SPARES_USED. DESIGN CHOICE (log 65): the spares mapped now; Table 3-13 does not say whether a spare that has failed counts. -/
def State.sparesUsed (s : State) : Nat := b2n (decide (s.hm.map0 ≠ 127)) + b2n (decide (s.hm.map1 ≠ 127))

/-- NEUTRAL_ALL: the front buffer holds records and every one of them is neutral. -/
def State.neutralAll (s : State) : Bool :=
  !s.hm.front.isEmpty && s.hm.front.all fun e => match e.2 with
    | some p => p.neutral
    | none => true

/-- A word of Hawkmoth's block. -/
def State.hmWord (s : State) (off : Nat) : Nat :=
  if off = 0x00 then s.hm.ctrl.img.toNat
  else if off = 0x04 then at_ costLimit 16 + cost s.hm.images
  else if off = 0x08 then
    at_ s.hm.lastCol 8 + at_ s.sparesUsed 4 + at_ (b2n s.hm.overLast) 3 + at_ (b2n s.neutralAll) 2 +
      at_ (b2n (decide (s.win < s.hm.rampEnd))) 1 + b2n s.hm.running
  else if off = 0x0C then s.hm.queue.length
  else if off = 0x10 then s.hm.accept.toNat
  else if off = 0x14 then s.hm.merge.toNat
  else if off = 0x18 then at_ s.hm.reject 16 + s.hm.stale
  else if off = 0x1C then s.evalNow.hm.sat.toNat
  else if off = 0x20 then at_ s.hm.faults 16 + s.hm.overruns
  else if off = 0x24 then at_ s.hm.map1 8 + s.hm.map0
  else if off = 0x28 then s.hm.evalErg.toNat
  else 0

/-! ### Erg time and ledger (Table 4-11) -/

/-- MB_ERG_STATUS. -/
def State.ergStatus (s : State) : Nat :=
  at_ s.allActive.length 16 + at_ (b2n s.et.adopted) 5 + at_ (b2n s.et.pressure) 4 + at_ (b2n s.et.host) 3 +
    at_ (b2n s.et.xtalLost) 2 + at_ (b2n s.et.span) 1 + b2n s.et.holdover

/-- A word of the Erg block. -/
def State.ergWord (s : State) (off : Nat) : Nat :=
  let ns := unsigned 64 (s.et.rack / 65536)
  if off = 0x00 then s.et.ctrl.img.toNat
  else if off = 0x04 then s.ergStatus
  else if off = 0x08 then unsigned 32 s.et.rate
  else if off = 0x0C then ns % 2 ^ 32
  else if off = 0x10 then ns / 2 ^ 32
  else if off = 0x14 then unsigned 16 s.et.rack
  else if off = 0x18 then s.et.wptr
  else if off = 0x1C then at_ s.et.inexact 16 + s.et.loss
  else if off = 0x20 then s.et.fix.toNat
  else if off = 0x24 then at_ s.et.full 16 + s.et.evict
  else 0

/-! ### Distribution (Table 5-9) -/

/-- MB_OPT_WAVE. -/
def State.optWave (s : State) : Nat :=
  at_ (bitmap s.opt.free) 12 + at_ (bitmap s.opt.failed) 8 + at_ s.opt.slot 2 + s.opt.tone

/-- SITE_STATE. -/
def SiteState.code : SiteState → Nat
  | .uncalibrated => 0
  | .optical => 1
  | .bridged => 2
  | .backup => 3
  | .isolated => 4
  | .absent => 5

/-- Sites in a state, one bit each. -/
def State.sitesIn (s : State) (st : SiteState) : Nat := bitmap (allSites.filter fun i => (s.site i).state = st)

/-- MB_SITE_STATE. -/
def State.siteStateWord (s : State) (i : Nat) : Nat :=
  let x := s.site i
  at_ (bitmap ((List.range 4).filter fun q => (x.routes.getD q ⟨0, 0, 0⟩).feed ≠ 0)) 24 + at_ (bitmap x.gfail) 16 +
    at_ (bitmap x.lfail) 8 + x.state.code

/-- MB_SITE_ROUTE. -/
def State.siteRouteWord (s : State) (i : Nat) : Nat :=
  ((List.range 4).map fun q =>
    let x := (s.site i).routes.getD q ⟨0, 0, 0⟩
    at_ (at_ x.feed 6 + at_ x.group 3 + x.source) (8 * q)).sum

/-- Key of a measured term. D_G and D_X ignore the carrier, D_L and D_B the quadrant, D_B the index (R142). -/
def termKey (site kind index quad carrier : Nat) : Nat :=
  let carrier := if kind = 0 then carrier else 0
  let quad := if kind = 0 ∨ kind = 4 then 0 else quad
  let index := if kind = 0 ∨ kind = 1 then index else 0
  (((site * 8 + kind) * 8 + index) * 4 + quad) * 4 + carrier

/-- A term's measurement. -/
def State.term (s : State) (key : Nat) : Option Term := Map.get none s.opt.terms key

/-- The term that MB_SITE_DSEL selects. -/
def State.selTerm (s : State) (i : Nat) : Option Term :=
  let d := (s.site i).dsel
  s.term (termKey i (fld d 10 8) (fld d 2 0) (fld d 13 12) (fld d 5 4))

/-- A word of the distribution block. -/
def State.optWord (s : State) (off : Nat) : Nat :=
  if off = 0x00 then s.opt.ctrl.img.toNat
  else if off = 0x04 then s.opt.power.img.toNat
  else if off = 0x08 then s.optWave
  else if off = 0x0C then s.sitesIn .backup
  else if off = 0x10 then s.sitesIn .bridged
  else if off = 0x14 then s.sitesIn .isolated
  else if off = 0x18 then at_ s.opt.inserts 16 + s.opt.bridges
  else if off < 0x100 ∨ 0x3E0 ≤ off then 0
  else
    let i := (off - 0x100) / 32
    let o := off % 32
    if o = 0x00 then s.siteStateWord i
    else if o = 0x04 then s.siteRouteWord i
    else if o = 0x08 then (s.site i).dsel.toNat
    else if o = 0x0C then match s.selTerm i with
      | some t => at_ 1 31 + t.inUse % 2 ^ 20
      | none => 0
    else if o = 0x10 then
      let l := fld (s.site i).dsel 2 0
      ((List.range 4).map fun w => at_ (unsigned 8 (Map.get 0 (s.site i).power (4 * l + w))) (8 * w)).sum
    else if o = 0x14 then match s.selTerm i with
      | some t => bits t.at_ 51 20
      | none => 0
    else if o = 0x18 then at_ (s.site i).evG 16 + (s.site i).evL
    else 0

/-! ### Lane synthesizers (Table 6-7) -/

/-- STATE of MB_LS_STATUS. -/
def SynthState.code : SynthState → Nat
  | .off => 0
  | .locking => 1
  | .locked => 2
  | .ride => 3
  | .failed => 4

/-- PORT_STATE. -/
def portCode : PortState → Nat
  | .down => 0
  | .live => 1
  | .quiesced => 2

/-- Ports of a quadrant. -/
def quadPorts (q : Nat) : List Nat := (List.range 16).map (16 * q + ·)

/-- The synthesizer that serves a port. -/
def State.serving (s : State) (p : Nat) : Option Nat := (List.range 72).find? fun i => (s.synth i).port = some p

/-- Rate field of a quadrant in MB_LS_QRATE. -/
def State.quadRate (s : State) (q : Nat) : Nat :=
  let live := (quadPorts q).filter fun p => (s.port p).st = .live
  let synths := live.filterMap s.serving
  if live.any (fun p => (s.port p).rate ≠ .none) || synths.any (fun i => (s.synth i).st = .locking) then 2
  else if synths.all fun i => !(s.synth i).half then 0
  else if synths.all fun i => (s.synth i).half then 1 else 2

/-- The synthesizers of a quadrant, spares last (R168). -/
def quadAll (q : Nat) : List Nat := quadPorts q ++ [64 + 2 * q, 65 + 2 * q]

/-- PORT_STATE of a synthesizer: its port's, 3 where none is assigned; before the package epoch a spare reads its reset value. -/
def Synth.portField (y : Synth) (s : State) : Nat :=
  match y.port with
  | some p => portCode (s.port p).st
  | none => if s.sys.epoch then 3 else 0

/-- MB_LS_STATUS. -/
def State.lsStatus (s : State) (i : Nat) : Nat :=
  let y := s.synth i
  at_ y.cw.toNat 16 + at_ y.band.toNat 8 + at_ (b2n y.backup) 6 + at_ (y.portField s) 4 + at_ (b2n y.half) 3 + y.st.code

/-- MB_LS_JIT. -/
def State.lsJit (s : State) (i : Nat) : Nat := at_ (s.synth i).lol 16 + (s.synth i).jitter.toNat

/-- MB_LS_ASSIGN. -/
def State.lsAssign (s : State) (i : Nat) : Nat :=
  match (s.synth i).port with
  | some p => at_ 1 7 + p
  | none => 0

/-- Crossbar byte of spare j. -/
def State.xbarByte (s : State) (j : Nat) : Nat :=
  match (s.synth (64 + j)).port with
  | some p => at_ 1 7 + p % 16
  | none => 0

/-- A word of the synthesizer block. -/
def State.lsWord (s : State) (off : Nat) : Nat :=
  if off = 0x00 then s.ls.gctrl.toNat
  else if off = 0x04 then
    at_ (bitmap ((List.range 4).filter fun q => (quadAll q).any fun i => (s.synth i).st = .ride)) 8 +
      ((List.range 4).map fun q => at_ (s.quadRate q) (2 * q)).sum
  else if off = 0x08 then ((List.range 4).map fun j => at_ (s.xbarByte j) (8 * j)).sum
  else if off = 0x0C then ((List.range 4).map fun j => at_ (s.xbarByte (4 + j)) (8 * j)).sum
  else if off = 0x10 then at_ s.ls.failed.toNat 8 + s.ls.free.toNat
  else if off = 0x14 then at_ s.ls.rides 16 + s.ls.inserts
  else if off = 0x18 then at_ s.ls.forced 16 + s.ls.renegs
  else if off < 0x100 ∨ 0x580 ≤ off then 0
  else
    let i := (off - 0x100) / 16
    let y := s.synth i
    let o := off % 16
    if o = 0 then at_ y.bw 4 + at_ (b2n y.pinHalf) 1 + b2n y.en
    else if o = 4 then s.lsStatus i
    else if o = 8 then s.lsJit i
    else s.lsAssign i

/-! ### Crossings (Table 7-9) -/

/-- A word of the crossing block's global registers. -/
def State.xgWord (s : State) (off : Nat) : Nat :=
  if off = 0x00 then s.xg.ctrl.img.toNat
  else if off = 0x04 then at_ (s.xCount .fenced) 16 + s.xCount .torn
  else if off = 0x08 then s.xg.lastId.toNat
  else if off = 0x0C then s.xg.lastErg.toNat
  else if off = 0x10 then at_ s.xg.stalls 16 + s.xg.torns
  else if off = 0x14 then s.xg.drops.toNat
  else if off = 0x18 then s.xg.slips.toNat
  else if off = 0x1C then s.xg.sel.toNat
  else if off = 0x20 then s.selstat s.xg.sel.toNat
  else 0

/-! ### Calibration (Table 8-12) -/

/-- |T - T_LAST|, 0 before the first summary. -/
def State.drift (s : State) (r : RegionNo) : Nat :=
  match s.regionTemp r with
  | some t => (t - (s.setFor r).tLast).natAbs
  | none => 0

/-- MB_CAL_RSTAT. -/
def State.calRstat (s : State) (r : RegionNo) : Nat :=
  let c := s.setFor r
  at_ (s.rgn r).cal.phase 28 + at_ (b2n c.suspect) 27 + at_ (b2n c.suspectB) 26 + at_ c.episodes 24 +
    at_ (min 0xFFF (s.drift r)) 12 + unsigned 12 c.tLast

/-- MB_CAL_RAGE. -/
def State.calRage (s : State) (r : RegionNo) : Nat := bits (s.setFor r).ergLast 51 20

/-- A word of the calibration block's global registers. -/
def State.calWord (s : State) (off : Nat) : Nat :=
  if off = 0x00 then s.cal.ctrl.img.toNat
  else if off = 0x04 then s.cal.gap.img.toNat
  else if off = 0x08 then at_ s.cal.busy.length 16 + s.cal.due.length
  else if off = 0x0C then s.cal.queue.length
  else if off = 0x10 then s.cal.runs.toNat
  else if off = 0x14 then at_ s.cal.disagree 16 + s.cal.void
  else if off = 0x18 then at_ s.cal.suspect.length 16 + s.cal.retired
  else if off = 0x1C then at_ s.cal.stFail 16 + s.cal.stPass
  else 0

/-! ### Sensing (Tables 9-7, 9-8) -/

/-- STATE of a tile. DESIGN CHOICE (log 65): Table 9-8 gives no precedence; a trusted tile shows DISAGREE whatever its readings, and
RING_INVALID goes before ELEC_INVALID. -/
def Tile.state (t : Tile) : TileSt :=
  if t.trusted then .disagree
  else if !t.okRing then .ringInvalid
  else if !t.okElec then .elecInvalid
  else if t.first.isSome then .pending else .agree

/-- Code of a tile's state. -/
def TileSt.code : TileSt → Nat
  | .agree => 0
  | .pending => 1
  | .disagree => 2
  | .ringInvalid => 3
  | .elecInvalid => 4

/-- MB_TILE_TEMP. -/
def Tile.tempWord (t : Tile) : Nat := at_ (unsigned 12 t.tRing) 16 + unsigned 12 t.tElec

/-- MB_TILE_STATE. -/
def Tile.stateWord (t : Tile) : Nat := at_ t.state.code 29 + at_ (min 255 t.count) 16 + at_ t.rings 8 + at_ t.elecs 2

/-- Tiles in a state. -/
def State.tilesIn (s : State) (x : TileSt) : Nat := (s.sns.tile.toArray.toList.filter fun t => t.state = x).length

/-- MB_SNS_STATUS. -/
def State.snsStatus (s : State) : Nat :=
  at_ (s.tilesIn .disagree) 24 + at_ (s.tilesIn .ringInvalid) 16 + at_ (b2n s.sns.budgetStale) 7 +
    at_ (b2n s.sns.coolStale) 6 + at_ (b2n (s.sns.imported.contains 0)) 5 + at_ (b2n s.sns.overlayDue) 4

/-- GRP_WEAR_TH in weighted half-cycles. -/
def State.grpWearTh (s : State) : Nat := fld s.sns.wearctl.eff 15 0 * 16

/-- A bump field. -/
def State.field (s : State) (k : Nat) : Field := Map.get {} s.sns.fields k

/-- The bump field of a site's group is at the wear threshold (R270). -/
def State.groupWorn (s : State) (site g : Nat) : Bool := decide (s.grpWearTh ≤ (s.field (7 * site + g)).dmg)

/-- MB_SNS_COOLANT. -/
def State.coolWord (s : State) : Nat :=
  at_ (b2n s.sns.coolStale) 31 + at_ (unsigned 12 s.sns.outlet) 16 + unsigned 12 s.sns.inlet

/-- A word of the sensing block below the region words. -/
def State.snsWord (s : State) (off : Nat) : Nat :=
  if off = 0x00 then s.sns.ctrl.img.toNat
  else if off = 0x04 then s.sns.thresh.img.toNat
  else if off = 0x08 then s.sns.ceil.img.toNat
  else if off = 0x0C then s.sns.wearctl.img.toNat
  else if off = 0x10 then at_ (b2n s.sns.recv) 16 + fld s.sns.budget.img 15 0
  else if off = 0x14 then s.coolWord
  else if off = 0x18 then s.sns.throt.toNat
  else if off = 0x1C then s.snsStatus
  else if off = 0x20 then at_ s.sns.disagree 16 + s.sns.faults
  else if 0x1000 ≤ off ∧ off < 0x1200 then
    let t := s.tile ((off - 0x1000) / 8)
    if off % 8 = 0 then t.tempWord else t.stateWord
  else if 0x2000 ≤ off ∧ off < 0x2508 then
    let f := s.field ((off - 0x2000) / 8)
    if off % 8 = 0 then f.cyc else f.dmg
  else if 0x3000 ≤ off ∧ off < 0x3800 then s.spareHours ((off - 0x3000) / 8) (off % 8 / 4)
  else 0

/-! ### Controllers and Oasis (Table 10-16) -/

/-- STATE of MB_CTL_STATE. -/
def CtrlState.code : CtrlState → Nat
  | .loading => 0
  | .active => 1
  | .standby => 2
  | .halted => 3
  | .faulted => 4
  | .retired => 5

/-- A word of the controller block. -/
def State.ctlWord (s : State) (off : Nat) : Nat :=
  if off = 0x00 then s.ctl.ctrl.toNat
  else if off = 0x04 then at_ s.ctl.c1.faults 16 + at_ s.ctl.c0.faults 8 + at_ s.ctl.c1.st.code 3 + s.ctl.c0.st.code
  else if off = 0x08 then s.ctl.fault.toNat
  else if off = 0x0C then s.ctl.faultErg.toNat
  else if off = 0x10 then s.ctl.ce.toNat
  else if off = 0x14 then at_ s.ctl.ue 16 + s.ctl.spared
  else if off = 0x18 then s.ctl.spareUse.toNat
  else if off = 0x1C then s.ctl.lastErr.toNat
  else if off = 0x20 then s.ctl.passes.toNat
  else if off = 0x24 then bitmap ((List.range 32).filter fun i => (s.handle i).op.isSome)
  else 0

/-! ### Span link (Table 14-13) -/

/-- A span port. -/
def State.spPort (s : State) (one : Bool) : SpanPort := if one then s.sp.p1 else s.sp.p0

/-- Of the last eight accepted measurements, the one with the smallest delay, the latest on a tie (R394). -/
def SpanPort.best (p : SpanPort) : Option Meas :=
  (p.meas.take 8).foldl (fun b m => match b with
    | none => some m
    | some x => if m.d < x.d then some m else some x) none

/-- MB_SPAN_PORT. -/
def SpanPort.word (p : SpanPort) : Nat := at_ p.qreason 24 + at_ p.proto 16 + at_ (b2n p.lock) 3 + p.st

/-- MB_SPAN_DELAY: the filtered path delay. -/
def SpanPort.delayWord (p : SpanPort) : Nat :=
  match p.best with
  | some m => unsigned 32 m.d
  | none => 0

/-- A word of the span block. -/
def State.spWord (s : State) (off : Nat) : Nat :=
  if off = 0x00 then s.sp.ctrl.img.toNat
  else if off = 0x04 then s.sp.bounds.img.toNat
  else if off = 0x08 then s.sp.host.img.toNat
  else if off = 0x0C then
    at_ s.sp.protoUse 16 + at_ 2 8 + at_ s.sp.source 4 + at_ (b2n s.sp.fast) 3 + at_ (b2n s.sp.root) 2 + s.sp.cls
  else if off = 0x10 then s.sp.p0.word
  else if off = 0x14 then s.sp.p1.word
  else if off = 0x18 then s.sp.p0.accept.toNat
  else if off = 0x1C then s.sp.p1.accept.toNat
  else if off = 0x20 then at_ s.sp.p0.authRej 16 + s.sp.p0.boundRej
  else if off = 0x24 then at_ s.sp.p1.authRej 16 + s.sp.p1.boundRej
  else if off = 0x28 then s.sp.p0.delayWord
  else if off = 0x2C then s.sp.p1.delayWord
  else 0

end Sys2Proof.Machine
end

