-- ==== Sys2Proof/Machine/Chrysalis.lean ====
section
/-! DEFINITION. The insertions that Chrysalis runs: their queue, their handles and their ends (05 R153, 06 R180, 02 R67,
09 R271; 10 R304-R309). -/
namespace Sys2Proof.Machine

/-- Two insertions are of the same part (Table 11-18). A district pair is one part of its district. -/
def Insertion.same (x y : Insertion) : Bool :=
  decide (x.kind = y.kind) &&
  (if x.kind = 4 then decide (districtOf x.target = districtOf y.target)
   else decide (x.target = y.target) && decide (x.part = y.part))

/-- Part code of EV_SPARE_EXHAUSTED and EV_CHRYSALIS_DONE for a KIND of Table 11-9 (Table 15-6). -/
def partCode (kind : Nat) : Nat := if kind = 4 then 0 else kind + 1

/-- Number that the events of Table 15-6 name for an insertion: site, carrier, port or region. -/
def Insertion.object (x : Insertion) : Nat := if x.kind = 2 then x.part else x.target

/-- An insertion as it is requested: kind, site or port or region, part, quadrant, spare named, and whether it is planned, forced, and
the step it begins at. -/
def insertion (kind target part quad : Nat) (spare : Option Nat) (planned force : Bool) (step : Nat) : Insertion :=
  { kind := kind, target := target, part := part, quad := quad, spare := spare, planned := planned, force := force, step := step
    handle := none }

/-- The first insertion under way that meets a condition. -/
def State.findIns (s : State) (p : Insertion → Bool) : Option Insertion := s.opt.ins.find? p

/-- An insertion changed. -/
def State.modIns (s : State) (x : Insertion) (f : Insertion → Insertion) : State :=
  { s with opt := { s.opt with ins := s.opt.ins.map fun y => if y = x then f y else y } }

/-- An insertion may go on: firmware runs and its handle, if it has one, is RUNNING (R163, R309, R368). -/
def State.insRuns (s : State) (x : Insertion) : Bool :=
  s.chrysalis && match x.handle with
    | some h => match (s.handle h).op with
      | some o => decide (o.st = .running)
      | none => true
    | none => true

/-- An insertion is to be SUSPENDED at the end of the step it is in (Table 10-13). -/
def State.insSuspending (s : State) (x : Insertion) : Bool :=
  s.chrysalis && match x.handle with
    | some h => match (s.handle h).op with
      | some o => decide (o.st = .suspending)
      | none => false
    | none => false

/-- A handle stops at the safe point it stands at; a RECEIVING one's timer holds what has run (R307). -/
def LongOp.suspendNow (o : LongOp) (now : Nat) : LongOp :=
  { o with st := .suspended, wasRecv := decide (o.st = .receiving), timer := if o.st = .receiving then now - o.timer else o.timer }

/-- An insertion at a safe point is SUSPENDED (R306, Table 10-13). -/
def State.suspendIns (s : State) (x : Insertion) : State :=
  match x.handle with
  | some h => s.modOp h fun o => o.suspendNow s.now
  | none => s

/-- The progress fields of an insertion's handle (Table 11-17). -/
def State.insProgress (s : State) (x : Insertion) (step : Nat) (spare : Option Nat) : State :=
  match x.handle with
  | some h => s.modOp h fun o => { o with step := step, spare := (spare.map (· + 1)).getD o.spare }
  | none => s

/-- An insertion ends, and with it its handle. -/
def State.endIns (s : State) (x : Insertion) (o : Outcome) (st : Nat) : State :=
  let s := { s with opt := { s.opt with ins := s.opt.ins.filter (· ≠ x) } }
  match x.handle with
  | some h => s.finishOp h o st
  | none => s

/-- An insertion goes on to a step, with the spare it has taken, from an instant on. -/
def State.insStep (s : State) (x : Insertion) (step : Nat) (took : Option Nat) (since : Nat) : State :=
  (s.modIns x fun y => { y with step := step, took := took, since := since }).insProgress x step took

/-- An insertion started by Sirocco on an event: it joins the queue, under a handle where one is free; one of the same part
already under way stands (R153, R309). -/
def State.requestIns (s : State) (x : Insertion) : State :=
  let x := { x with at_ := s.now, since := s.now }
  if s.opt.ins.any x.same then s
  else
    match s.freeHandle false with
    | some i =>
      let op : LongOp :=
        { newOp .spareInsert .running s.now with target := x.target, scope := x.kind, part := x.part, step := 1 }
      let s := s.modHandle i fun h => { h with op := some op }
      { s with opt := { s.opt with ins := s.opt.ins ++ [{ x with handle := some i }] } }
    | none => { s with opt := { s.opt with ins := s.opt.ins ++ [x] } }

/-- A completed insertion: EV_CHRYSALIS_DONE, and its handle ends with OK. -/
def State.insDone (s : State) (x : Insertion) : State :=
  (s.raise evChrysalisDone (partCode x.kind + at_ x.object 16)).endIns x .completed stOk

end Sys2Proof.Machine
end

