-- ==== Sys2Proof/Machine/Synth.lean ====
section
/-! DEFINITION. The lane synthesizers and their quadrant clock controllers (06_lane_synthesizers.md), with the commands of
11 R330. -/
namespace Sys2Proof.Machine

/-! ### References (R168, R174) -/

/-- Port quadrant of a synthesizer. -/
def synthQuad (i : Nat) : Nat := if i < 64 then i / 16 else (i - 64) / 2

/-- SOURCE of site 16's route q: a landing 0-5, 6 the backup line, 7 none. -/
def State.source16 (s : State) (q : Nat) : Nat := ((s.site 16).routes.getD q ⟨0, 7, 7⟩).source

/-- The quadrant's source is a landing. -/
def State.optical16 (s : State) (q : Nat) : Bool := decide (s.source16 q < 6)

/-- The quadrant's reference is good: a landing with the tone's carrier, or a backup line that has not failed. -/
def State.refGood (s : State) (q : Nat) : Bool :=
  let x := s.site 16
  let k := s.source16 q
  decide (x.state ≠ .isolated) &&
    (if k = 6 then !x.backupBad
    else decide (k < 6) && !x.lfail.contains k && !s.opt.lostTone && !s.opt.failed.contains s.opt.tone)

/-- The quadrant's source is lost with no backup line and no landing available (R175). -/
def State.noSource (s : State) (q : Nat) : Bool :=
  let x := s.site 16
  let landing := !s.opt.lostTone && decide (x.state = .bridged ∨ x.state = .optical) &&
    [4, 5].any fun l => !x.lfail.contains l && !x.ldeg.contains l && !(x.down.any fun e => decide (e.1 = 0 ∧ e.2.1 = l)) &&
      (List.range 4).all fun q => decide ((x.routes.getD q ⟨0, 7, 7⟩).source ≠ l)
  !s.refGood q && (x.backupBad || decide (x.state = .isolated)) && !landing

/-- Event argument of a synthesizer: its port, and its index in [15:8] (Table 15-6). -/
def State.lsArg (s : State) (i : Nat) : Nat := ((s.synth i).port).getD 0 + at_ i 8

/-- AUTO_RATE. -/
def State.autoRate (s : State) : Bool := bitOf s.ls.gctrl 1
/-- AUTO_SPARE_LS. -/
def State.autoSpareLs (s : State) : Bool := bitOf s.ls.gctrl 0
/-- RIDE_US in ns. -/
def State.rideNs (s : State) : Nat := fld s.ls.gctrl 23 16 * 1000
/-- RENEG_TO in ns. -/
def State.renegNs (s : State) : Nat := fld s.ls.gctrl 15 8 * 10000
/-- QUIESCE_TO in ns. -/
def State.quiesceNs (s : State) : Nat := fld s.ls.gctrl 31 24 * 10000

/-! ### The handshake's crossings (R172, R207) -/

/-- What the port sees of QREQ, RATE_REQ and CLK_GRANT: the present words, or those its crossing holds. -/
def State.portSees (s : State) (p : Nat) : Bool × RateReq × Bool :=
  let x := s.port p
  x.held.getD (x.qreq, x.rate, x.grant)

/-- The port's words reach the quadrant clock controller. -/
def State.portHeard (s : State) (p : Nat) : Bool := decide (s.xState (xId 13 (256 + p)) = .whole)

/-! ### Relocks -/

/-- A relock begins at a rate, on the quadrant's present source, never at FULL on the backup line; BW is applied. A cold lock under way
goes on as one (R170, R176, R179, R185). -/
def State.relock (s : State) (i : Nat) (half : Bool) : State :=
  let back := decide (s.source16 (synthQuad i) = 6)
  s.modSynth i fun y =>
    let cold := y.cold && decide (y.st = .locking)
    { y with
      st := .locking, half := half || back, bwEff := y.bw, backup := back, rideAt := none, lockAt := if cold then y.lockAt else some s.now
      cold := cold, jitRun := 0 }

/-- A cold lock begins (R169, R179, R182). -/
def State.coldLock (s : State) (i : Nat) (half : Bool) : State :=
  (s.relock i half).modSynth i fun y => { y with cold := true, lockAt := some s.now }

/-- Unassigned spares of a quadrant that ride relock at HALF with its ports (R176). -/
def State.spareRelock (s : State) (q : Nat) : State :=
  [64 + 2 * q, 65 + 2 * q].foldl (fun s i =>
    if (s.synth i).port = none ∧ (s.synth i).st = .ride then s.relock i true else s) s

/-- A relock at HALF, the quadrant's riding spares with it (R176). -/
def State.relockHalf (s : State) (i : Nat) : State :=
  let s := s.relock i true
  if s.optical16 (synthQuad i) then s else s.spareRelock (synthQuad i)

/-- A port's renegotiation toward a rate begins: a DOWN port's synthesizer relocks at once, another port is asked (R173,
R176, R177). -/
def State.reneg (s : State) (p : Nat) (half : Bool) : State :=
  match s.serving p with
  | none => s
  | some i =>
    if (s.synth i).st = .failed ∨ (s.synth i).st = .off then s
    else if (s.port p).st = .down then (if half then s.relockHalf i else s.relock i false)
    else
      let s := s.modPort p fun x => { x with
        rate := if half then .half else .full, ack := false, reqAt := some s.now }
      { s with ls := { s.ls with renegs := sat16 s.ls.renegs 1 } }

/-- A port whose synthesizer is to go down to HALF and has not been asked yet (R175, R176): site 16 is in BACKUP and it is at FULL, or it
has ridden for RIDE_US. One that rides at HALF is not renegotiated, but a DOWN port's relocks (Table 6-6). Without a backup line and a
landing nothing is asked. -/
def State.halfDue (s : State) (p : Nat) : Bool :=
  match s.serving p with
  | none => false
  | some i =>
    let y := s.synth i
    decide ((s.port p).rate ≠ .half) && decide (y.st ≠ .failed ∧ y.st ≠ .off) && !s.noSource (synthQuad i) &&
      ((decide ((s.site 16).state = .backup) && (!y.half || decide (y.st = .ride ∧ (s.port p).st = .down))) ||
        (decide (y.st = .ride) && !y.half && match y.rideAt with
          | some t => decide (t + s.rideNs ≤ s.now)
          | none => false))

/-- R176 for every port of a quadrant for which it is due. -/
def State.renegHalf (s : State) (q : Nat) : State :=
  (quadPorts q).foldl (fun s p => if s.halfDue p then s.reneg p true else s) s

/-- Synthesizers of a quadrant that lose their reference, or whose source changes between a landing and the backup line,
enter RIDE; a pending RATE_REQ FULL is withdrawn (R174, Table 6-6). A lock under way goes on with the new source, at HALF on the backup
line (R170). -/
def State.rideQuad (s : State) (q : Nat) : State :=
  let back := decide (s.source16 q = 6)
  let good := s.refGood q
  let withdraw (s : State) (port : Option Nat) : State := match port with
    | some p => s.modPort p fun x => if x.rate = .full ∧ !x.ack then { x with rate := .none, reqAt := none } else x
    | none => s
  (quadAll q).foldl (fun s i =>
    let y := s.synth i
    if y.st = .locked ∧ (!good ∨ y.backup ≠ back) then
      let s := s.modSynth i fun y => { y with st := .ride, rideAt := some s.now, rideOver := false, lockAt := none, jitRun := 0 }
      withdraw { s with ls := { s.ls with rides := sat16 s.ls.rides 1 } } y.port
    else if y.st = .locking then
      let s := if !good ∨ y.backup ≠ back then withdraw s y.port else s
      s.modSynth i fun y => { y with backup := back, half := y.half || back }
    else s) s

/-- Site 16 moves to BACKUP: the quadrant's synthesizers ride, and its ports that are at FULL, or are locking at FULL, are asked down to
HALF with AUTO_RATE (R176, R178). -/
def State.backupQuad (s : State) (q : Nat) : State :=
  let due := (quadPorts q).filter s.halfDue
  let s := s.rideQuad q
  if s.autoRate then due.foldl (fun s p => s.reneg p true) s else s

/-- The majority rate of a quadrant's live ports, HALF only where it has more than FULL (R169). -/
def State.majorityHalf (s : State) (q : Nat) : Bool :=
  let ys := ((quadPorts q).filter fun p => (s.port p).st = .live).filterMap s.serving
  let halves := ys.filter fun i => (s.synth i).half
  decide (ys.length < 2 * halves.length)

/-- Unassigned locked spares follow the majority of their quadrant (R169); FULL needs an optical reference (R170). -/
def State.spareFollow (s : State) (q : Nat) : State :=
  [64 + 2 * q, 65 + 2 * q].foldl (fun s i =>
    let y := s.synth i
    let h := s.majorityHalf q
    let taken := (s.opt.ins.any fun x => decide (x.kind = 3 ∧ x.took = some (i - 64)))
    if y.port = none ∧ y.st = .locked ∧ y.half ≠ h ∧ !taken ∧ (h ∨ s.optical16 q) then s.relock i h else s) s

/-- CLK_GRANT raised, QREQ and RATE_REQ cleared (R173). -/
def State.grant (s : State) (p : Nat) : State :=
  s.modPort p fun x => { x with
    qreq := false, rate := .none, ack := false, grant := true, grantAt := some s.now, reqAt := none, quietAt := none }

/-- A port that is QUIESCED and asked nothing any longer leaves on CLK_GRANT, its synthesizer being locked (R173). -/
def State.letGo (s : State) (p : Nat) : State :=
  let x := s.port p
  let locked : Bool := match s.serving p with
    | some i => decide ((s.synth i).st = .locked ∧ (s.synth i).lockAt = none)
    | none => false
  if x.st = .quiesced ∧ !x.qreq ∧ x.rate = .none ∧ !x.grant ∧ locked then s.grant p else s

/-- A hand-over to an optical source: riding synthesizers re-close at the rate they hold, and a RATE_REQ HALF without
RATE_ACK is withdrawn; an insertion that waits for its port waits anew (R174, Table 6-6). A locked synthesizer whose source has changed
rides and re-closes at once; a relock under way completes on the optical reference. -/
def State.reclose (s : State) (q : Nat) : State :=
  ((quadAll q).foldl (fun s i =>
    let y := s.synth i
    if y.st = .ride then
      let s := s.modSynth i fun y => { y with st := .locked, rideAt := none, lockAt := none, backup := false }
      match y.port with
      | some p => (s.modPort p fun x =>
          let x := if x.qreq then { x with quietAt := some s.now } else x
          if x.rate = .half ∧ !x.ack then { x with rate := .none, reqAt := none } else x).letGo p
      | none => s
    else s) (s.rideQuad q)).spareFollow q

/-! ### Rows -/

/-- SYNTH_RIDE: the quadrant's tone is flagged lost or its source has switched (R174). -/
def execSynthRide (q : Fin 4) (s : State) : Out := .next (s.rideQuad q.val)

/-- RIDE_TIMEOUT: RIDE_US after entering RIDE the port's renegotiation to HALF is requested. With AUTO_RATE clear EV_LS_RIDE_LIMIT is
raised instead; with no backup line and no landing available there is no request, and EV_LS_NO_REF (R175, R178). -/
def execRideTimeout (i : Fin 72) (s : State) : Out :=
  let y := s.synth i
  match y.rideAt with
  | none => .next s
  | some t =>
    if y.st ≠ .ride ∨ y.rideOver ∨ s.now < t + s.rideNs then .next s
    else
      let none_ := s.noSource (synthQuad i)
      let s := s.modSynth i fun y => { y with rideOver := true }
      let s := s.raiseIf (!s.autoRate) evLsRideLimit (s.lsArg i)
      let s := s.raiseIf none_ evLsNoRef (s.lsArg i)
      match y.port with
      | some p => if s.autoRate ∧ !none_ ∧ s.halfDue p then .next (s.reneg p true) else .next s
      | none => .next s

/-- RENEGOTIATE_HALF: the quadrant's ports that are due are renegotiated down (R176, R178). -/
def execRenegotiateHalf (q : Fin 4) (s : State) : Out :=
  if s.autoRate then .next (s.renegHalf q.val) else .next s

/-- RATE_ACK: the port is QUIESCED at the rate it has been asked for, and its synthesizer relocks (R172, R176, R177). -/
def execRateAck (p : Fin 64) (s : State) : Out :=
  let x := s.port p
  match s.serving p with
  | some i =>
    if s.portHeard p ∧ x.rate ≠ .none ∧ (s.portSees p).2.1 = x.rate ∧ !x.ack then
      let half := decide (x.rate = .half)
      let s := s.modPort p fun x => { x with ack := true, st := .quiesced, reqAt := none }
      .next (if half then s.relockHalf i else s.relock i false)
    else .next s
  | none => .next s

/-- RENEG_TIMEOUT: no RATE_ACK within RENEG_TO. Down: the synthesizer relocks at HALF regardless. Up: the request is
withdrawn (R176, R177). -/
def execRenegTimeout (p : Fin 64) (s : State) : Out :=
  let x := s.port p
  match s.serving p, x.reqAt with
  | some i, some t =>
    if x.ack ∨ s.now < t + s.renegNs then .next s
    else if x.rate = .half then
      let s := s.modPort p fun x => { x with reqAt := none }
      let s := { s with ls := { s.ls with forced := sat16 s.ls.forced 1 } }
      .next ((s.relockHalf i).raise evLsRenegForced (s.lsArg i))
    else if x.rate = .full then
      .next (((s.modPort p fun x => { x with rate := .none, reqAt := none, declinedAt := some t }).letGo p).raise
        evLsRenegDeclined (s.lsArg i))
    else .next s
  | _, _ => .next s

/-! ### Insertion of a spare (Table 6-5) -/

/-- A spare is free and usable: enabled and not failed (R180, R181, R182). -/
def State.spareUsable (s : State) (j : Nat) : Bool :=
  let y := s.synth (64 + j)
  s.ls.free.getLsbD j && !s.ls.failed.getLsbD j && y.en && decide (y.port = none) && decide (y.st ≠ .failed ∧ y.st ≠ .off)

/-- A spare that step 1 takes: free, usable and locked (Table 6-5). -/
def State.spareOk (s : State) (j : Nat) : Bool := s.spareUsable j && decide ((s.synth (64 + j)).st = .locked)

/-- FREE and FAILED bits of a spare. -/
def State.spareBits (s : State) (j : Nat) (free failed : Bool) : State :=
  { s with ls := { s.ls with
      free := if free then s.ls.free ||| BitVec.ofNat 8 (2 ^ j) else s.ls.free &&& ~~~ BitVec.ofNat 8 (2 ^ j)
      failed := if failed then s.ls.failed ||| BitVec.ofNat 8 (2 ^ j) else s.ls.failed } }

/-- Whether the port's rate is HALF: the rate it is being asked for, else its synthesizer's (Table 6-6). -/
def State.portHalf (s : State) (p : Nat) : Bool :=
  match (s.port p).rate with
  | .half => true
  | .full => false
  | .none => (s.synth (s.port p).synth).half

/-- The crossbar switches and the port's clock is granted; the replaced synthesizer goes OFF, or stays FAILED (Table 6-5
steps 4 and 5). -/
def State.switchSynth (s : State) (x : Insertion) (j : Nat) : State :=
  let p := x.target
  let old := s.serving p
  let s := match old with
    | some i => s.modSynth i fun y => { y with
        port := none, en := if y.st = SynthState.failed then y.en else false
        st := if y.st = SynthState.failed then SynthState.failed else SynthState.off
        rideAt := none, lockAt := none }
    | none => s
  let s := s.modSynth (64 + j) fun y => { y with port := some p }
  let s := s.modPort p fun y => { y with synth := 64 + j }
  let s := (s.spareBits j false false).grant p
  let s := { s with ls := { s.ls with inserts := sat16 s.ls.inserts 1 } }
  (s.insProgress x 4 none).insDone x

/-- The spare that an insertion takes: the one it names, else the lower-numbered that is free and locked. -/
def State.spareFor (s : State) (x : Insertion) (ok : Nat → Bool) : Option Nat :=
  let q := x.target / 16
  ((match x.spare with
    | some j => [j]
    | none => [2 * q, 2 * q + 1]).filter ok).head?

/-- An insertion that has taken its spare goes as far as the port and the spare let it: the spare relocks at the port's rate, the port
quiesces, the crossbar switches. While either rides it waits; a SUSPENDING one stops at the end of its step (Table 6-5, Table 6-6, Table
10-13). -/
def State.goSynth (s : State) (x : Insertion) (j : Nat) (force : Bool) : State :=
  let p := x.target
  let y := s.synth (64 + j)
  let half := s.portHalf p
  let riding : Bool := match s.serving p with
    | some i => decide ((s.synth i).st = .ride)
    | none => false
  if y.st ≠ .locked ∨ riding then s
  else if y.half ≠ half then (if half ∨ s.optical16 (p / 16) then s.relock (64 + j) half else s)
  else if s.insSuspending x ∧ (x.step = 2 ∨ (s.port p).st ≠ .live ∨ force) then s.suspendIns x
  else if (s.port p).st = .live ∧ !force then
    let s := s.modPort p fun y => if y.qreq then y else { y with qreq := true, quietAt := some s.now }
    s.insStep x 3 (some j) s.now
  else s.switchSynth x j

/-- No free and usable spare is left for a port that stays without a clock: EV_SPARE_EXHAUSTED and MLB_FAULT_N (R181). -/
def State.noSpareFor (s : State) (p : Nat) : State :=
  (s.raise evSpareExhausted (partCode 3 + at_ p 16)).mlbSet (.synthSpare p)

/-- An insertion ends for want of a spare; a port that no clock serves is exhausted (R180, R181). -/
def State.noneLeft (s : State) (x : Insertion) : State :=
  let served : Bool := match s.serving x.target with
    | some i => decide ((s.synth i).st ≠ .failed)
    | none => false
  let s := s.endIns x .failed stRefused
  if served then s.letGo x.target else s.noSpareFor x.target

/-- An insertion goes as far as its port and its spare let it: it takes a spare, or waits while the free ones are not locked, or ends
where none is usable (Table 6-5, R181). -/
def State.advanceSynth (s : State) (p : Nat) (force : Bool) : State :=
  match s.findIns fun x => decide (x.kind = 3 ∧ x.target = p) with
  | none => s
  | some x =>
    if s.insSuspending x then match x.took with
      | some j => s.goSynth x j force
      | none => s.suspendIns x
    else if !s.insRuns x then s
    else match x.took with
      | some j => s.goSynth x j force
      | none =>
        match s.spareFor x s.spareOk with
        | some j =>
          let x' := { x with took := some j, step := 2, since := s.now }
          (((s.insStep x 2 (some j) s.now).spareBits j false false)).goSynth x' j force
        | none => if (s.spareFor x s.spareUsable).isSome then s else s.noneLeft x

/-- SYNTH_INSERT: Chrysalis connects a spare to a port, as far as this occurrence carries it (R180). -/
def execSynthInsert (p : Fin 64) (s : State) : Out := .next (s.advanceSynth p false)

/-- QUIESCE_TIMEOUT: no QUIESCED within QUIESCE_TO; the insertion is abandoned with BUSY, or goes on with FORCE. While the port's
synthesizer rides the insertion waits, and while it is SUSPENDED it is held; a port that has quiesced lets it go on (R180, R309, Table
6-6). -/
def execQuiesceTimeout (p : Fin 64) (s : State) : Out :=
  let y := s.port p
  let riding : Bool := match s.serving p with
    | some i => decide ((s.synth i).st = .ride)
    | none => false
  match s.findIns (fun x => decide (x.kind = 3 ∧ x.target = p.val ∧ x.step = 3)), y.quietAt with
  | some x, some t =>
    if !y.qreq ∨ riding ∨ s.now < t + s.quiesceNs ∨ (!s.insRuns x ∧ !s.insSuspending x) then .next s
    else if y.st ≠ .live then .next (s.advanceSynth p false)
    else if x.force then .next (s.advanceSynth p true)
    else
      let s := s.modPort p fun y => { y with qreq := false, quietAt := none }
      let s := match x.took with
        | some j => s.spareBits j true false
        | none => s
      .next ((s.endIns x .failed stBusy).spareFollow (p / 16))
  | _, _ => .next s

/-- The band found at a lock, for its rate at the temperature point just below the mean temperature of the die that holds the synthesizers
(Table 8-2, log 61). -/
def State.noteBand (s : State) (i : Nat) (band : BitVec 8) : State :=
  let k := lowPoint ((s.siteMean 16).getD 0)
  s.modSynth i fun y => { y with bands := Map.put none y.bands (8 * b2n y.half + k) (some band) }

/-- SYNTH_RELOCK_DONE: LOCKED with the control word and band found; CLK_GRANT to the port served, unless it has been asked for a rate and
has not answered; a loss of lock shorter than 2 us is over (R169, R176, R179, R182). -/
def execSynthRelockDone (i : Fin 72) (cw : BitVec 12) (band : BitVec 8) (s : State) : Out :=
  let y := s.synth i
  if y.st = .locked ∧ y.lockAt.isSome then
    .next ((s.modSynth i fun y => { y with lockAt := none, cw := cw, band := band }).noteBand i band)
  else if y.st ≠ .locking then .next s
  else
    let s := (s.modSynth i fun y => { y with st := .locked, lockAt := none, cold := false, cw := cw, band := band }).noteBand i band
    match y.port with
    | some p =>
      let x := s.port p
      let s := if x.rate ≠ .none ∧ !x.ack ∧ x.reqAt.isSome then s else s.grant p
      .next ((s.spareFollow (synthQuad i)).advanceSynth p false)
    | none =>
      match s.findIns fun x => decide (x.kind = 3 ∧ (x.took = some (i.val - 64) ∨ (x.took = none ∧ x.target / 16 = synthQuad i))) with
      | some x => .next (s.advanceSynth x.target false)
      | none => .next (s.spareFollow (synthQuad i))

/-- PORT_STATE_CHANGE: the port's report, where its crossing carries it. It leaves QUIESCED only on CLK_GRANT; LIVE drops the grant; a
DOWN port is asked nothing, and a change that waited for it proceeds. Spares follow the live ports (R169, R172, R173, R180). -/
def execPortStateChange (p : Fin 64) (st : PortState) (s : State) : Out :=
  let x := s.port p
  if !s.portHeard p ∨ (x.st = .quiesced ∧ st ≠ .quiesced ∧ !(s.portSees p).2.2) then .next s
  else
    let s := s.modPort p fun x => { x with
      st := st, grant := x.grant && decide (st ≠ .live), grantAt := if st = .live then none else x.grantAt
      qreq := x.qreq && decide (st ≠ .down), quietAt := if st = .down then none else x.quietAt }
    let s :=
      if st = .down ∧ x.rate ≠ .none ∧ !x.ack then
        let t := s.modPort p fun x => { x with rate := .none, reqAt := none }
        match s.serving p with
        | some i => if x.rate = .half then t.relockHalf i else t.relock i false
        | none => t
      else s
    let s :=
      if st ≠ .live ∧ s.opt.ins.any fun y => decide (y.kind = 3 ∧ y.target = p.val ∧ y.step = 3) then s.advanceSynth p false else s
    .next (s.spareFollow (p.val / 16))

/-- CLK_GRANT_TIMEOUT: dropped 1 ms after it was raised (R173). -/
def execClkGrantTimeout (p : Fin 64) (s : State) : Out :=
  match (s.port p).grantAt with
  | some t =>
    if (s.port p).grant ∧ t + 1000000 ≤ s.now then
      .next (s.modPort p fun x => { x with grant := false, grantAt := none })
    else .next s
  | none => .next s

/-- RENEGOTIATE_FULL: a HALF port whose route has been optical for 1 ms, or was declined 10 ms ago, is asked back up
(R177, R178). -/
def execRenegotiateFull (p : Fin 64) (s : State) : Out :=
  let q := p.val / 16
  match s.serving p, s.opt.since16.getD q none with
  | some i, some t =>
    let y := s.synth i
    let x := s.port p
    let waited : Bool := match x.declinedAt with
      | some d => decide (d + 10000000 ≤ s.now)
      | none => true
    if y.st = .locked ∧ y.half ∧ !y.pinHalf ∧ s.autoRate ∧ t + 1000000 ≤ s.now ∧ x.rate = .none ∧ waited then
      .next (s.reneg p false)
    else .next s
  | _, _ => .next s

/-! ### Failures (R179-R181) -/

/-- A spare that an insertion had taken fails: another of the quadrant is tried, and with none the insertion ends, its port exhausted
where no clock serves it (R180, R181). -/
def State.spareLost (s : State) (x : Insertion) : State :=
  let p := x.target
  let s := s.modPort p fun y => { y with qreq := false, quietAt := none }
  if x.spare = none ∧ (s.spareFor x s.spareUsable).isSome then (s.insStep x 1 none s.now).advanceSynth p false
  else s.noneLeft x

/-- A synthesizer has failed: its output stops; a port it served is DOWN, and a spare is called for or found wanting. -/
def State.synthDown (s : State) (i : Nat) : State :=
  let y := s.synth i
  let arg := s.lsArg i
  let half := match y.port with
    | some p => s.portHalf p
    | none => y.half
  let s := s.modSynth i fun y => { y with st := .failed, half := half, rideAt := none, lockAt := none, cold := false }
  let s := s.raise evLsFail arg
  let s := if 64 ≤ i then s.spareBits (i - 64) false true else s
  match y.port with
  | none =>
    match s.findIns fun x => decide (x.kind = 3 ∧ x.took = some (i - 64)) with
    | some x => if 64 ≤ i then s.spareLost x else s
    | none => s
  | some p =>
    let s := s.modPort p fun x => { x with
      st := .down, qreq := false, rate := .none, ack := false, reqAt := none, quietAt := none }
    let mine := s.findIns fun x => decide (x.kind = 3 ∧ x.target = p) && x.took.isSome
    let q := p / 16
    if mine.isSome then s.advanceSynth p false
    else if ([2 * q, 2 * q + 1].filter s.spareUsable).isEmpty then s.noSpareFor p
    else if s.autoSpareLs then s.requestIns (insertion 3 p 0 q none false false 1)
    else s

/-- A synthesizer has failed, and the quadrant's spares follow the ports that are still LIVE (R169, R179). -/
def State.synthFailed (s : State) (i : Nat) : State := (s.synthDown i).spareFollow (synthQuad i)

/-- SYNTH_FAIL: out of lock for 2 us with a good reference, a control word at an end of its range for 10 us, or a cold lock
not made within 40 us (R179). DEDUCED (log 57): a warm relock has 10 us to lock (Table 6-1), and is out of lock from then on. -/
def execSynthFail (i : Fin 72) (why : SynthFault) (s : State) : Out :=
  let y := s.synth i
  let ok : Bool := match why, y.lockAt with
    | .outOfLock, some t =>
      s.refGood (synthQuad i) &&
        ((decide (y.st = .locked) && decide (t + 2000 ≤ s.now)) || (decide (y.st = .locking) && !y.cold && decide (t + 12000 ≤ s.now)))
    | .rangeEnd, _ => decide (y.st = .locked)
    | .coldLock, some t => decide (y.st = .locking) && y.cold && decide (t + 40000 ≤ s.now)
    | _, none => false
  if ok then .next (s.synthFailed i) else .next s

/-- LOSS_OF_LOCK: lock is lost while the reference is good; LOL_CNT counts it and the 2 us timer starts (R179). -/
def execLossOfLock (i : Fin 72) (s : State) : Out :=
  let y := s.synth i
  if y.st = .locked ∧ y.lockAt = none ∧ s.refGood (synthQuad i) then
    .next (s.modSynth i fun y => { y with lol := sat16 y.lol 1, lockAt := some s.now })
  else .next s

/-- Jitter limit of a rate in fs (Table 6-1). -/
def jitterLimit (half : Bool) : Nat := if half then 250 else 100

/-- SYNTH_JITTER_MEASURE: a 1 ms measurement; the tenth in a row above the limit, with an optical reference, degrades the
synthesizer (R179, R180). -/
def execSynthJitterMeasure (i : Fin 72) (fs : BitVec 16) (s : State) : Out :=
  let y := s.synth i
  if y.st ≠ .locked ∧ y.st ≠ .ride then .next s
  else
    let spent := decide (jitterLimit y.half < fs.toNat) && !y.backup && decide (y.st = .locked)
    let run := if spent then min 10 (y.jitRun + 1) else 0
    let hit := decide (run = 10) && !y.degraded
    let s := s.modSynth i fun y => { y with jitter := fs, jitRun := run, degraded := y.degraded || hit }
    if !hit then .next s
    else
      let s := s.raise evLsDegraded (s.lsArg i)
      match y.port with
      | some p =>
        if s.autoSpareLs then .next (s.requestIns (insertion 3 p 0 (p / 16) none false false 1)) else .next s
      | none => .next s

/-! ### Enabling and disabling (R182, R186) -/

/-- A synthesizer disabled: its output stops within 10 ns, and it is OFF. A disabled spare is not free. -/
def State.synthOff (s : State) (i : Nat) : State :=
  let s := s.modSynth i fun y => { y with
    en := false, st := .off, rideAt := none, lockAt := none, cold := false, jitRun := 0 }
  if 64 ≤ i then s.spareBits (i - 64) false false else s

/-- A synthesizer enabled: a cold lock on its quadrant's source; an unassigned spare that has not failed is free again. -/
def State.synthOn (s : State) (i : Nat) : State :=
  let y := s.synth i
  let s := s.modSynth i fun y => { y with en := true }
  if y.en then s
  else
    let half := match y.port with
      | some _ => y.half
      | none => s.majorityHalf (synthQuad i)
    let s := s.coldLock i half
    if 64 ≤ i ∧ y.port = none ∧ !s.ls.failed.getLsbD (i - 64) then s.spareBits (i - 64) true false else s

/-- A rate change or an insertion is in progress on a synthesizer (R182). -/
def State.synthBusy (s : State) (i : Nat) : Bool :=
  let y := s.synth i
  (decide (y.st = .locking) && !y.cold) ||
  (s.opt.ins.any fun x => decide (x.kind = 3) && (decide (x.took = some (i - 64) ∧ 64 ≤ i) || decide (y.port = some x.target))) ||
  match y.port with
  | some p => decide ((s.port p).rate ≠ .none)
  | none => false

/-- The synthesizer's port is LIVE. -/
def State.portLive (s : State) (i : Nat) : Bool :=
  match (s.synth i).port with
  | some p => decide ((s.port p).st = .live)
  | none => false

/-- EN written directly: clearing it is rejected for a LIVE port unless OVERRIDE is set with it, and while a rate change or an insertion is
in progress (R182, R186). None where the write is rejected. -/
def State.writeEn (s : State) (i : Nat) (en override : Bool) : Option State :=
  if en then some (s.synthOn i)
  else if !(s.synth i).en then some s
  else if s.synthBusy i then none
  else if s.portLive i then
    if override then some ((s.synthOff i).raise evLsForced (s.lsArg i)) else none
  else some (s.synthOff i)

/-- PIN_HALF written: set on a port at FULL it starts R176 at once; cleared it lets R177 start (R186). -/
def State.writePin (s : State) (i : Nat) (set : Bool) : State :=
  let y := s.synth i
  let s := s.modSynth i fun y => { y with pinHalf := set }
  match y.port with
  | some p => if set ∧ !y.half ∧ (s.port p).rate ≠ .half then s.reneg p true else s
  | none => s

/-- MB_LS_EN_WRITE (R182, R186). -/
def execMbLsEnWrite (i : Fin 72) (en override : Bool) (s : State) : Out := .next ((s.writeEn i en override).getD s)

/-- PIN_HALF_WRITE (R186). -/
def execPinHalfWrite (i : Fin 72) (set : Bool) (s : State) : Out := .next (s.writePin i set)

/-- Counters of MB_LS_CLEAR (Table 6-7). -/
def State.clearLs (s : State) : State :=
  let s := { s with ls := { s.ls with rides := 0, inserts := 0, forced := 0, renegs := 0 } }
  (List.range 72).foldl (fun s i => s.modSynth i fun y => { y with lol := 0 }) s

/-- CLEAR_LS_COUNTERS (R185). -/
def execClearLsCounters (s : State) : Out := .next s.clearLs

/-! ### Commands (R184, R330) -/

/-- The synthesizer that serves a port, or the last one that did. -/
def State.portSynth (s : State) (p : Nat) : Nat := (s.serving p).getD (s.port p).synth

/-- The 12 bytes of SYNTH_QUERY for a port. -/
def State.synthInfo (s : State) (p : Nat) : Bytes :=
  let i := s.portSynth p
  toLE 4 (s.lsStatus i) ++ toLE 4 (s.lsJit i) ++ toLE 4 (s.lsAssign i)

/-- SYNTH_QUERY. -/
def cmdSynthQuery (q : Req) (s : State) : Result :=
  if q.u8 0 = 0 then
    if 63 < q.tgt then refuse badTarget s else .done (okReply (s.synthInfo q.tgt)) s
  else if q.u8 0 = 1 then
    if 3 < q.tgt then refuse badTarget s else .done (okReply ((quadPorts q.tgt).flatMap s.synthInfo)) s
  else refuse (badArg 0) s

/-- SYNTH_QUERY, the command (R184). -/
def execSynthQuery (q : Req) (s : State) : Out := .next (s.submit 0x0601 cmdSynthQuery q)

/-- SYNTH_SET_MODE: OFF under R182, the policy, or a named rate (R178, R182, R330). -/
def cmdSynthSetMode (q : Req) (s : State) : Result :=
  let p := q.tgt
  let en := q.u8 0
  let pol := q.u8 1
  let rate := q.u8 2
  if 63 < p then refuse badTarget s
  else if 1 < en then refuse (badArg 0) s
  else if 1 < pol then refuse (badArg 1) s
  else if 2 < rate then refuse (badArg 2) s
  else
    let i := s.portSynth p
    let y := s.synth i
    let busy := s.synthBusy i
    if rate = 1 ∧ (!s.optical16 (p / 16) ∨ pol = 1) then refuse (codeReply stRefused) s
    else if en = 0 ∧ y.en ∧ busy then refuse (busyReply 0) s
    else if en = 0 ∧ y.en ∧ s.portLive i ∧ !q.force then refuse (codeReply stRefused) s
    else
      let s := if en = 0 then (s.writeEn i false q.force).getD s else s.synthOn i
      let s := if en = 0 then s.modSynth i fun y => { y with pinHalf := decide (pol = 1) } else s.writePin i (decide (pol = 1))
      let s :=
        if en = 1 ∧ rate = 1 ∧ (s.synth i).half ∧ (s.port p).rate = .none then s.reneg p false
        else if en = 1 ∧ rate = 2 ∧ !(s.synth i).half ∧ (s.port p).rate = .none then s.reneg p true
        else s
      .done (okReply (toLE 4 (s.lsStatus i))) s

/-- SYNTH_SET_MODE, the command (R182). -/
def execSynthSetMode (q : Req) (s : State) : Out := .next (s.submit 0x0602 cmdSynthSetMode q)

end Sys2Proof.Machine
end

