-- ==== Sys2Proof/Machine/Optical.lean ====
section
/-! DEFINITION. Optical distribution: faults, bridges, borrowed feeds, the insertions of landings, groups and carriers, the
degradation ladder, and in-service recalibration (05_optical_distribution.md), with the commands of 11 R328. -/
namespace Sys2Proof.Machine

/-! ### Quadrants and feeds -/

/-- Quadrant of a region (R140). -/
def quadOf (r : RegionNo) : Nat := localOf r / (localCount (siteOf r) / 4)

/-- Regions of a quadrant of a site. -/
def quadRegions (site q : Nat) : List RegionNo := (siteRegions site).filter fun r => decide (quadOf r = q)

/-- The route of a quadrant. -/
def SiteOpt.route (x : SiteOpt) (q : Nat) : Route := x.routes.getD q ⟨3, 7, 7⟩

/-- The quadrant is fed through a group of its own. -/
def SiteOpt.own (x : SiteOpt) (q : Nat) : Bool :=
  decide ((x.route (q % 4)).group ≠ 7) && decide ((x.route (q % 4)).source ≠ 7)

/-- The cross-link that joins quadrants q and q + 1 has not failed its calibration (R140, R146). -/
def SiteOpt.link (x : SiteOpt) (q : Nat) : Bool := !x.xfail.contains (q % 4)

/-- The feed that a quadrant without a group takes: from (q - 1), else from (q + 1), else over two hops with (q - 1)
preferred, else none; no failed cross-link is crossed (R143, R146). -/
def SiteOpt.borrow (x : SiteOpt) (q : Nat) : Nat :=
  if x.link (q + 3) && x.own (q + 3) then 1
  else if x.link q && x.own (q + 1) then 2
  else if x.link (q + 3) && x.link (q + 2) && x.own (q + 2) then 1
  else if x.link q && x.link (q + 1) && x.own (q + 2) then 2
  else 3

/-- The quadrant whose group feeds a quadrant, and the cross-links crossed from it on, each as the kind and quadrant of its term; none
where the quadrant is unfed (R143). -/
def SiteOpt.path (x : SiteOpt) (q : Nat) : Option (Nat × List (Nat × Nat)) :=
  match (x.route (q % 4)).feed with
  | 0 => if x.own q then some (q % 4, []) else none
  | 1 =>
    if x.link (q + 3) && x.own (q + 3) then some ((q + 3) % 4, [(2, (q + 3) % 4)])
    else some ((q + 2) % 4, [(2, (q + 2) % 4), (2, (q + 3) % 4)])
  | 2 =>
    if x.link q && x.own (q + 1) then some ((q + 1) % 4, [(3, (q + 1) % 4)])
    else some ((q + 2) % 4, [(3, (q + 2) % 4), (3, (q + 1) % 4)])
  | _ => none

/-- What a quadrant's delay totals come from: its route, its path, and the source and group of the quadrant that feeds it (R145). -/
def SiteOpt.feeds (x : SiteOpt) (q : Nat) : Route × Option (Nat × List (Nat × Nat)) × Option Route :=
  (x.route q, x.path q, (x.path q).map fun p => x.route p.1)

/-- Feeds of the quadrants without a group, after a change of groups from an earlier state of the site. A borrow whose path has changed
is permanent no longer. -/
def SiteOpt.refeed (x old : SiteOpt) : SiteOpt :=
  let y := { x with routes := (List.range 4).map fun q => if x.own q then x.route q else { x.route q with feed := x.borrow q } }
  { y with fixedX := x.fixedX.filter fun e => decide (y.path e.1 = old.path e.1) && !y.own e.1 }

/-- The borrow of a quadrant is permanent. -/
def SiteOpt.fixed (x : SiteOpt) (q : Nat) : Bool := x.fixedX.any fun e => decide (e.1 = q)

/-- A bridge is in force, or the insertion that ended it is not complete: a source on the backup line, a borrowed feed that is not
permanent, or a hand-over that awaits its heartbeats (R151, Table 5-4, Table 5-6). -/
def SiteOpt.bridged (x : SiteOpt) : Bool :=
  !x.confirm.isEmpty || (List.range 4).any fun q =>
    decide ((x.route q).source = 6) || (decide ((x.route q).feed ≠ 0) && !x.fixed q)

/-- SITE_STATE after a change of routes, between OPTICAL and BRIDGED; the other states are left by rules of their own. -/
def SiteOpt.restate (x : SiteOpt) : SiteOpt :=
  if x.state = .optical ∨ x.state = .bridged then { x with state := if x.bridged then .bridged else .optical } else x

/-- A site that has routes: calibrated, present and not isolated. -/
def SiteOpt.served (x : SiteOpt) : Bool := decide (x.state = .optical ∨ x.state = .bridged ∨ x.state = .backup)

/-- A replica that had stopped counts on from where it stood; its next slot corrects it (R107, R152). -/
def Replica.resume (p : Replica) (now : Nat) : Replica :=
  if p.stopped then { p with stopped := false, skew := (p.held : Int) - now } else p

/-- A replica without a tick holds its count (R152). -/
def State.stopReplica (s : State) (r : RegionNo) : State :=
  let n := s.replicaCount r
  s.modRgn r fun g => if g.rep.stopped then g else { g with rep := { g.rep with stopped := true, held := n } }

/-! ### Power and delays (R138, R145) -/

/-- Carriers in a role. -/
def State.carrierUsed (s : State) (c : Nat) : Bool := decide (s.opt.tone = c ∨ s.opt.slot = c)

/-- LOSS and WARN as powers against nominal, 0.25 dB (R138). -/
def State.lossAt (s : State) : Int := -(fld s.opt.power.eff 15 8 : Int)
def State.warnAt (s : State) : Int := -(fld s.opt.power.eff 7 0 : Int)

/-- Received power of a carrier at a landing. -/
def SiteOpt.powerAt (x : SiteOpt) (l c : Nat) : Int := Map.get 0 x.power (4 * l + c)

/-- A reading of received power (R138). -/
def State.setPower (s : State) (site l c : Nat) (p : Int) : State :=
  s.modSite site fun x => { x with power := Map.put 0 x.power (4 * l + c) (clampI (-128) 127 p) }

/-- A reading of launched power. -/
def State.setLaunch (s : State) (c : Nat) (p : Int) : State :=
  { s with opt := { s.opt with launch := s.opt.launch.set c (clampI (-128) 127 p) } }

/-- A landing is active: it is the source of some route of a site that has routes. -/
def State.landingActive (s : State) (site l : Nat) : Bool :=
  (s.site site).served && (List.range 4).any fun q => decide (((s.site site).route q).source = l)

/-- The term of a landing's delay for a carrier. -/
def landingKey (site l c : Nat) : Nat := termKey site 0 l 0 c

/-- The value in use of a term. -/
def State.inUse (s : State) (key : Nat) : Option Nat := (s.term key).map (·.inUse)

/-- Sum of some terms; none where one is not measured. -/
def sumTerms : List (Option Nat) → Option Nat
  | [] => some 0
  | x :: xs => match x, sumTerms xs with
    | some a, some b => some (a + b)
    | _, _ => none

/-- D_src of a route: the landing's delay for the carrier of a role, tone or slot, or the backup line's. -/
def State.srcDelay (s : State) (site source : Nat) (slot : Bool) : Option Nat :=
  if source < 6 then s.inUse (landingKey site source (if slot then s.opt.slot else s.opt.tone)) else s.inUse (termKey site 4 0 0 0)

/-- D_X of a quadrant: the fixed offset of a permanent borrow, else the sum of the cross-links crossed (R158). -/
def State.crossDelay (s : State) (site q : Nat) (links : List (Nat × Nat)) : Option Nat :=
  match (s.site site).fixedX.find? fun e => decide (e.1 = q) with
  | some e => some e.2
  | none => sumTerms (links.map fun e => s.inUse (termKey site e.1 0 e.2 0))

/-- The delay that a region's replica and frequency loop apply for the carrier of a role: D_src + D_G + D_X + S_r, in 0.5 ps (R145).
None without a feed. -/
def State.delayTotal (s : State) (r : RegionNo) (slot : Bool) : Option Nat :=
  let site := siteOf r
  let x := s.site site
  match x.path (quadOf r) with
  | none => none
  | some (p, links) =>
    let y := x.route p
    sumTerms [s.srcDelay site y.source slot, s.inUse (termKey site 1 y.group p 0), s.crossDelay site (quadOf r) links,
      some (s.spine r)]

/-- A region whose tick has stopped: its quadrant is unfed, or hangs on a backup line or a site that has failed (R150, R152). -/
def State.unfed (s : State) (r : RegionNo) : Bool :=
  let x := s.site (siteOf r)
  decide (x.state = .isolated) || match x.path (quadOf r) with
    | some (p, _) => decide (6 ≤ (x.route p).source) && (x.backupBad || decide ((x.route p).source = 7))
    | none => true

/-- The route of a quadrant has changed, and with it the totals that State.delayTotal forms: its frequency loops enter fast acquisition
for 4 windows, and a replica whose flywheel had run out counts again once the quadrant is fed (R151, R154). -/
def State.retime (s : State) (site q : Nat) : State :=
  s.modRgns (quadRegions site q) fun r g => { g with
    fl := { g.fl with fast := 4 }, rep := if s.unfed r then g.rep else g.rep.resume s.now }

/-- When each of site 16's routes became optical; a port's earlier refusal counts no longer on a route that is optical anew
(R177). -/
def State.note16 (s : State) : State :=
  let since := (List.range 4).map fun q =>
    if s.optical16 q then some ((s.opt.since16.getD q none).getD s.now) else none
  let fresh := (List.range 4).filter fun q => (s.opt.since16.getD q none).isNone && (since.getD q none).isSome
  let s := (fresh.flatMap quadPorts).foldl (fun s p => s.modPort p fun x => { x with declinedAt := none }) s
  { s with opt := { s.opt with since16 := since } }

/-- Routes of a site changed: feeds, SITE_STATE, the delay totals of the quadrants that changed; a measurement of a landing
whose route changed is discarded and due again; on site 16 the synthesizers of a quadrant that comes to a landing re-close. The delay
totals of a borrower change with its path and with its lender's source (R145, R151, R163, R174). -/
def State.routes (s : State) (site : Nat) (f : SiteOpt → SiteOpt) : State :=
  let old := s.site site
  let s := s.modSite site fun x => ((f x).refeed x).restate
  let new := s.site site
  let changed := (List.range 4).filter fun q => decide (new.route q ≠ old.route q)
  let moved := (List.range 4).filter fun q => decide (new.feeds q ≠ old.feeds q)
  let s := moved.foldl (fun s q => s.retime site q) s
  let s := if changed.isEmpty then s else s.modSite site fun x => { x with laneDue := some s.now }
  let s := match s.opt.armed with
    | some (x, l) =>
      if x = site ∧ changed.any (fun q => decide ((new.route q).source = l ∨ (old.route q).source = l)) then
        { s with opt := { s.opt with armed := none, redo := (x, l) :: s.opt.redo.filter (· ≠ (x, l)) } } else s
    | none => s
  if site = 16 then
    let s := s.note16
    changed.foldl (fun s q => if (new.route q).source < 6 ∧ 6 ≤ (old.route q).source then s.reclose q else s) s
  else s

/-- Argument of the route events: site, quadrant, row of Table 5-1, part (Table 15-6). -/
def routeArg (site q row part : Nat) : Nat := site + at_ q 5 + at_ row 8 + at_ part 12

/-- AUTO_SPARE. -/
def State.autoSpare (s : State) : Bool := bitOf s.opt.ctrl.eff 1

/-- Insertions wait while the die is LOST or rejoining (Table 5-8). -/
def State.siteWaits (s : State) (site : Nat) : Bool :=
  decide ((s.dieAt site).st = .lost) || decide ((s.dieAt site).st = .rejoining)

/-- A planned insertion of a landing or group called for: at once, or after rejoin on a LOST die (R153, R163). -/
def State.callRoute (s : State) (site kind part q : Nat) : State :=
  if s.siteWaits site then
    s.modSite site fun x => { x with waiting := if x.waiting.contains (kind, part, q) then x.waiting else x.waiting ++ [(kind, part, q)] }
  else s.requestIns { insertion kind site part q none true false 2 with wear := decide (kind = 1) && (s.field (7 * site + part)).raised }

/-- A landing or group has failed in service: it stays out of use until it is replaced, and with AUTO_SPARE set an insertion is called
for. A planned insertion of the part goes on from its step as a fault insertion (Table 9-6). On a LOST die the fault is recorded in LFAIL
or GFAIL, and the insertion waits for rejoin (R153, R163). -/
def State.partDown (s : State) (site kind part q : Nat) : State :=
  let lost := s.siteWaits site
  let unplan (y : Insertion) : Insertion :=
    if y.kind = kind ∧ y.target = site ∧ y.part = part then { y with planned := false } else y
  let s := { s with opt := { s.opt with ins := s.opt.ins.map unplan } }
  let s := s.modSite site fun x => { x with
    down := (kind, part, q) :: x.down.filter (fun e => decide (¬(e.1 = kind ∧ e.2.1 = part)))
    lfail := if lost ∧ kind = 0 then addKey part x.lfail else x.lfail
    gfail := if lost ∧ kind = 1 then addKey part x.gfail else x.gfail }
  if s.autoSpare ∧ !lost then s.requestIns (insertion kind site part q none false false 1) else s

/-- A part that failed in service has been replaced or given up: it is marked in LFAIL or GFAIL (Table 5-4 step 6). -/
def State.partFailed (s : State) (site kind part : Nat) : State :=
  s.modSite site fun x => { x with
    down := x.down.filter fun e => decide (¬(e.1 = kind ∧ e.2.1 = part))
    lfail := if kind = 0 then addKey part x.lfail else x.lfail
    gfail := if kind = 1 then addKey part x.gfail else x.gfail }

/-- A landing or group has failed and is not replaced yet. -/
def SiteOpt.isDown (x : SiteOpt) (kind part : Nat) : Bool := x.down.any fun e => decide (e.1 = kind ∧ e.2.1 = part)

/-! ### Bridges (R151, R152) -/

/-- The instant at which a site that is OPTICAL is first bridged (R419). -/
def State.noteBridge (s : State) (site : Nat) : State :=
  s.modSite site fun x => if x.state = .bridged then x else { x with bridgedAt := some s.now }

/-- A quadrant's landing is lost: the backup line takes its group, or a borrowed feed where that line has failed. A quadrant without a
group of its own has no source to lose. -/
def State.bridge (s : State) (site q row part : Nat) : State :=
  let s := s.noteBridge site
  let s := s.routes site fun x =>
    let y : Route := if x.backupBad then { x.route q with source := 7 } else { x.route q with source := 6 }
    { x with routes := x.routes.set q y }
  let s := { s with opt := { s.opt with bridges := sat16 s.opt.bridges 1 } }
  s.raise evRouteBridge (routeArg site q row part)

/-- The quadrant that a landing serves. -/
def SiteOpt.served? (x : SiteOpt) (l : Nat) : Option Nat := (List.range 4).find? fun q => decide ((x.route q).source = l)

/-- LANDING_FAULT: received power of a carrier in use below LOSS at a landing (R138, R139). The quadrant it serves is bridged (R151).
DESIGN CHOICE (log 55): a landing without a route, as on a BACKUP site or a spare, is only recorded, in the count of landing faults
and in LFAIL. -/
def execLandingFault (site : Site) (l : Fin 6) (s : State) (c : Fin 4 := 0) (power : Int := 0) : Out :=
  let x := s.site site
  if !x.served ∨ x.lfail.contains l.val ∨ x.isDown 0 l ∨ !s.carrierUsed c ∨ s.lossAt ≤ power then .next s
  else
    let s := (s.setPower site l c power).modSite site fun x => { x with evL := sat16 x.evL 1 }
    match x.served? l with
    | some q => .next ((s.bridge site q 2 l).partDown site 0 l q)
    | none => .next (s.modSite site fun x => { x with lfail := addKey l x.lfail })

/-- A quadrant's group is lost: its root borrows, and its landing is free. At site 16 the landing stays the source of the route, which
the synthesizers take before the group (R142, R151, R168). -/
def State.groupLost (s : State) (site q : Nat) : State :=
  let y := (s.site site).route q
  let keep := decide (site = 16)
  let s := s.noteBridge site
  let s := s.modSite site fun x => { x with freed := if !keep ∧ y.source < 6 then x.freed ++ [y.source] else x.freed }
  let s := s.routes site fun x => { x with routes := x.routes.set q ⟨3, 7, if keep then y.source else 7⟩ }
  let s := { s with opt := { s.opt with bridges := sat16 s.opt.bridges 1 } }
  s.raise evRouteBridge (routeArg site q 5 y.group)

/-- The spare that an insertion of a landing or group has taken is free again. -/
def State.untake (s : State) (y : Insertion) : State :=
  match y.took with
  | some n => s.modSite y.target fun x =>
      if y.kind = 0 then { x with takenL := dropKey n x.takenL } else { x with takenG := dropKey n x.takenG }
  | none => s

/-- A landing insertion of a quadrant is abandoned; the landing it was to replace is marked (R159, R163). -/
def State.dropLanding (s : State) (y : Insertion) : State :=
  let s := (s.untake y).modSite y.target fun x => { x with confirm := dropKey y.quad x.confirm }
  let s := if y.planned then s else s.partFailed y.target 0 y.part
  s.endIns y .failed stRefused

/-- GROUP_FAULT: a root loses its clock while its landing has good power; the quadrant borrows, its landing is freed, and a
landing insertion of the quadrant gives way (R139, R151, R163). -/
def execGroupFault (site : Site) (q : Fin 4) (s : State) : Out :=
  let x := s.site site
  let g := (x.route q).group
  let src := (x.route q).source
  let good := [s.opt.tone, s.opt.slot].all fun c => decide (s.lossAt ≤ x.powerAt src c)
  if !x.served ∨ g = 7 ∨ (src < 6 ∧ !good) then .next s
  else
    let s := (s.modSite site fun x => { x with evG := sat16 x.evG 1 }).groupLost site q
    let s := match s.findIns fun y => decide (y.kind = 0 ∧ y.target = site.val ∧ y.quad = q.val) with
      | some y => s.dropLanding y
      | none => s
    .next (s.partDown site 1 g q)

/-- Carrier order of spares: 2, then 3, then those marked free again (R153). -/
def carrierOrder : List Nat := [2, 3, 0, 1]

/-- The next free spare carrier. -/
def State.freeCarrier (s : State) : Option Nat := carrierOrder.find? fun c => s.opt.free.contains c

/-- Readings of a carrier's received power. -/
def State.readings (s : State) (c : Nat) (rs : List (Site × Fin 6 × Int)) : State :=
  rs.foldl (fun s e => s.setPower e.1 e.2.1 c e.2.2) s

/-- A role has no usable carrier left (R160). -/
def State.roleLost (s : State) (c : Nat) : State :=
  let s := { s with opt := { s.opt with
    lostTone := s.opt.lostTone || decide (s.opt.tone = c), lostSlot := s.opt.lostSlot || decide (s.opt.slot = c) } }
  s.raise evSpareExhausted (partCode 2 + at_ c 16)

/-- A failed carrier of a role that no insertion replaces and no free spare could leaves its role lost (R160). -/
def State.roleCheck (s : State) : State :=
  [s.opt.tone, s.opt.slot].eraseDups.foldl (fun s c =>
    let told := (decide (s.opt.tone = c) && s.opt.lostTone) || (decide (s.opt.slot = c) && s.opt.lostSlot)
    if s.opt.failed.contains c ∧ s.opt.free.isEmpty ∧ !told ∧ !(s.opt.ins.any fun y => decide (y.kind = 2 ∧ y.part = c))
    then s.roleLost c else s) s

/-- WAVELENGTH_FAULT: a carrier in use is launched below LOSS, or received below it at 8 active landings or more. Every quadrant on a
landing is bridged, insertions of landings and groups are abandoned to restart at step 2, and a wavelength insertion is called; with
AUTO_SPARE clear and no spare the role is lost (R139, R151, R156, R160, R163). -/
def execWavelengthFault (c : Fin 4) (s : State) (launched : Int := 0) (received : List (Site × Fin 6 × Int) := []) : Out :=
  let low := (received.filter fun e => decide (e.2.2 < s.lossAt) && s.landingActive e.1 e.2.1).map fun e => (e.1, e.2.1)
  if s.opt.failed.contains c.val ∨ !s.carrierUsed c ∨ (s.lossAt ≤ launched ∧ low.eraseDups.length < 8) then .next s
  else
    let s := (s.setLaunch c launched).readings c received
    let back := s.opt.ins.filter fun y => decide (y.kind ≤ 1 ∧ y.step < 6)
    let s := back.foldl (fun s y => (s.untake y).insStep y 2 none s.now) s
    let s := { s with opt := { s.opt with
      failed := addKey c s.opt.failed, free := dropKey c.val s.opt.free, dark := s.opt.dark || decide (s.opt.tone = c.val) } }
    let s := allSites.foldl (fun s i =>
      if (s.site i).served then
        (List.range 4).foldl (fun s q =>
          if ((s.site i).route q).source < 6 then s.bridge i q 1 c else s) s
      else s) s
    if s.autoSpare then .next (s.requestIns (insertion 2 0 c 0 none false false 1)) else .next s.roleCheck

/-! ### Degraded parts (R139, R144) -/

/-- A landing is marked degraded; a planned insertion follows for one in use (R139, R153). -/
def State.degradeLanding (s : State) (site l : Nat) : State :=
  if (s.site site).ldeg.contains l then s
  else
    let s := s.modSite site fun x => { x with ldeg := addKey l x.ldeg }
    match (s.site site).served? l with
    | some q => s.callRoute site 0 l q
    | none => s

/-- A group is marked degraded; a planned insertion follows for one in use. -/
def State.degradeGroup (s : State) (site g : Nat) : State :=
  if (s.site site).gdeg.contains g then s
  else
    let s := s.modSite site fun x => { x with gdeg := addKey g x.gdeg }
    match (List.range 4).find? fun q => decide (((s.site site).route q).group = g) with
    | some q => s.callRoute site 1 g q
    | none => s

/-- LANDING_WARN_TIMEOUT: received power of a carrier in use below WARN for 10 ms (R138, R139). -/
def execLandingWarnTimeout (site : Site) (l : Fin 6) (s : State) (c : Fin 4 := 0) (power : Int := 0) : Out :=
  if (s.site site).served ∧ s.carrierUsed c ∧ power < s.warnAt then .next ((s.setPower site l c power).degradeLanding site l) else .next s

/-- LANDING_CRC_DEGRADE: more than 16 slot CRC failures in 4,096 slots with power above WARN (R139). -/
def execLandingCrcDegrade (site : Site) (l : Fin 6) (s : State) : Out :=
  let good := [s.opt.tone, s.opt.slot].all fun c => decide (s.warnAt ≤ (s.site site).powerAt l c)
  if s.landingActive site l ∧ good then .next (s.degradeLanding site l) else .next s

/-- CONTINUITY_CHECK: the returned SYNC at a slot boundary; the fourth failure in a row degrades the group (R139, R144). -/
def execContinuityCheck (site : Site) (g : Fin 7) (ok : Bool) (s : State) : Out :=
  let n := if ok then 0 else min 4 (Map.get 0 (s.site site).contFail g + 1)
  let s := s.modSite site fun x => { x with contFail := Map.put 0 x.contFail g n }
  if n = 4 ∧ (s.site site).served then .next (s.degradeGroup site g) else .next s

/-- SPARE_CARRIER_LOSS: a spare carrier below LOSS is marked failed; it may have been the last for a role whose carrier has failed (R138,
R139, R160). -/
def execSpareCarrierLoss (c : Fin 4) (s : State) (launched : Int := 0) : Out :=
  if s.opt.free.contains c.val ∧ launched < s.lossAt then
    let s := s.setLaunch c launched
    .next ({ s with opt := { s.opt with free := dropKey c.val s.opt.free, failed := addKey c s.opt.failed } } : State).roleCheck
  else .next s

/-- The landings that are active. -/
def State.activeLandings (s : State) : List (Nat × Nat) :=
  allSites.flatMap fun i => ((List.range 6).filter (s.landingActive i)).map fun l => (i, l)

/-- CARRIER_RECOVERED: within WARN at every active landing for 1 s; a free spare again (R138, R139). -/
def execCarrierRecovered (c : Fin 4) (s : State) (launched : Int := 0) (received : List (Site × Fin 6 × Int) := []) : Out :=
  let t := (s.setLaunch c launched).readings c received
  if s.opt.failed.contains c.val ∧ s.warnAt ≤ launched ∧ t.activeLandings.all fun e => decide (s.warnAt ≤ (t.site e.1).powerAt e.2 c) then
    .next { t with opt := { t.opt with free := addKey c t.opt.free, failed := dropKey c.val t.opt.failed } }
  else .next s

/-- FLYWHEEL_EXPIRY: 256 ns without a tick, on an unfed quadrant or on one whose backup line has failed; the replica stops and its
heartbeats with it (R150, R152, R161). -/
def execFlywheelExpiry (r : RegionNo) (s : State) : Out :=
  let x := s.site (siteOf r)
  let onLine : Bool := match x.path (quadOf r) with
    | some (p, _) => decide (6 ≤ (x.route p).source)
    | none => true
  if validRegion r ∧ (onLine ∨ s.unfed r) then .next (s.stopReplica r) else .next s

/-! ### Insertions (R153-R156) -/

/-- A landing of a site is free for insertion: not in a route, not failed, degraded or taken. -/
def SiteOpt.landingFree (x : SiteOpt) (l : Nat) : Bool :=
  !x.lfail.contains l && !x.ldeg.contains l && !x.takenL.contains l && !x.isDown 0 l &&
  ((List.range 4).all fun q => decide ((x.route q).source ≠ l) && (decide (x.home.getD q 7 ≠ l) || x.freed.contains l))

/-- Landings in the order of choice: those freed by group faults, then L4, L5 (R153). -/
def SiteOpt.freeLandings (x : SiteOpt) : List Nat := (x.freed ++ [4, 5]).eraseDups.filter x.landingFree

/-- A group of a site is free for insertion at a quadrant, whose root the group selector can connect to it: G0-G3 reach one root each
(R141). -/
def SiteOpt.groupFree (x : SiteOpt) (q g : Nat) : Bool :=
  (decide (4 ≤ g) || decide (g = q)) && !x.gfail.contains g && !x.gdeg.contains g && !x.takenG.contains g && !x.isDown 1 g &&
  ((List.range 4).all fun q => decide ((x.route q).group ≠ g))

/-- Groups in the order of choice (R153). -/
def SiteOpt.freeGroups (x : SiteOpt) : List Nat := [4, 5, 6].filter (x.groupFree 0)

/-- A wavelength insertion is under way: landings and groups wait for it (Table 5-8). -/
def State.waveBusy (s : State) : Bool := s.opt.ins.any fun y => decide (y.kind = 2)

/-- An insertion of a landing or group may go on. -/
def State.routeReady (s : State) (y : Insertion) : Bool :=
  s.insRuns y && !s.waveBusy && !s.siteWaits y.target && (s.site y.target).served

/-- Faults of one slot are served in site order, then quadrant order: no insertion of the same slot that comes first waits for its spare
(R163). -/
def State.turnOf (s : State) (y : Insertion) : Bool :=
  y.planned || !(s.opt.ins.any fun z => decide (z.kind ≤ 1 ∧ z.step ≤ 2 ∧ z.at_ / 256 = y.at_ / 256) && !z.planned && s.routeReady z &&
    (decide (z.target < y.target) || decide (z.target = y.target ∧ z.quad < y.quad)))

/-- A term of a route measured and in use at once. -/
def State.putTerm (s : State) (key d : Nat) : State :=
  { s with opt := { s.opt with terms := Map.put none s.opt.terms key (some ⟨d % 2 ^ 20, d % 2 ^ 20, s.now, none⟩) } }

/-- The temperature at which a landing was measured last (R148). -/
def State.noteTemp (s : State) (site l : Nat) : State :=
  { s with opt := { s.opt with calTemp := Map.put none s.opt.calTemp (6 * site + l) (s.siteMean site) } }

/-- A quick result agrees with the stored delay within 3 ps (Table 5-4 step 4). -/
def State.agrees (s : State) (key quick : Nat) : Bool := match s.term key with
  | some t => decide (((quick : Int) - t.inUse).natAbs ≤ 6)
  | none => false

/-- The next slot boundary, now or later. -/
def State.nextSlot (s : State) : Nat := (s.now + 255) / 256 * 256

/-- The spare landings or groups that are free for a quadrant, in the order of choice; an insertion for wear skips groups that are at the
threshold themselves (R153, R270). -/
def State.sparesFor (s : State) (site kind q : Nat) (wear : Bool) : List Nat :=
  let x := s.site site
  if kind = 0 then x.freeLandings
  else x.freeGroups.filter fun n => x.groupFree q n && !(wear && s.groupWorn site n)

/-- Step 2: the spare is confirmed free and marked taken. Without one a planned insertion, or one that names its spare, ends; another
waits for the ladder (R153, R154, R157). One for wear that finds none raises EV_WEAR_NO_SPARE (R270). -/
def State.takeSpare (s : State) (y : Insertion) : State :=
  let x := s.site y.target
  let free (n : Nat) : Bool := if y.kind = 0 then x.landingFree n else x.groupFree y.quad n
  let wear := y.planned && y.wear
  let choice : Option Nat := match y.spare with
    | some n => if free n then some n else none
    | none => (s.sparesFor y.target y.kind y.quad wear).head?
  match choice with
  | none =>
    if y.planned ∨ y.spare.isSome then
      (s.raiseIf wear evWearNoSpare (y.target + at_ y.part 5)).endIns y .failed stRefused
    else s
  | some n =>
    if !s.turnOf y then s
    else
      (s.modSite y.target fun x =>
        if y.kind = 0 then { x with takenL := addKey n x.takenL } else { x with takenG := addKey n x.takenG }).insStep y 3 (some n) s.now

/-- The chosen spare fails its power check or its verification: it is marked failed and the next is chosen; a spare that was named ends
its insertion (R163). -/
def State.spareFails (s : State) (y : Insertion) (n : Nat) : State :=
  let s := (s.untake y).modSite y.target fun x =>
    if y.kind = 0 then { x with lfail := addKey n x.lfail } else { x with gfail := addKey n x.gfail }
  if y.spare = some n then s.endIns y .failed stRefused else s.insStep y 2 none s.now

/-- What Chrysalis measures at a spare landing or group (Table 5-4, R155): received power of the four carriers in 0.25 dB against
nominal once a landing is tuned; the delays of the quick verification and of the full measurement in 0.5 ps, a landing's for the four
carriers, a group's one for its root; no full measurement where its samples spread too far twice. -/
structure SpareCheck where
  power : List Int
  quick : List Nat
  full  : Option (List Nat)
  deriving DecidableEq, Repr

/-- Step 3 of a landing: its drop filters are tuned, and received power must lie within WARN for the carriers of both roles. Step 3 of a
group has no check. Verification begins at the next slot boundary. -/
def State.tuneSpare (s : State) (y : Insertion) (n : Nat) (m : SpareCheck) : State :=
  if y.kind = 0 then
    let s := (List.range 4).foldl (fun s c => s.setPower y.target n c (m.power.getD c 0)) s
    let ok := [s.opt.tone, s.opt.slot].all fun c => decide (s.warnAt ≤ (s.site y.target).powerAt n c)
    if ok then s.insStep y 4 (some n) s.nextSlot else s.spareFails y n
  else s.insStep y 4 (some n) s.nextSlot

/-- The terms that step 4 verifies: a landing's D_L for the four carriers, a group's D_G for the quadrant's root. -/
def Insertion.terms (y : Insertion) (n : Nat) : List Nat :=
  if y.kind = 0 then (List.range 4).map (landingKey y.target n) else [termKey y.target 1 n y.quad 0]

/-- Step 4: none while the measurement that decides it still runs, 16 slots for the quick one and 64 more for the full one; else whether
the spare passes, with the delays in use as they are then (Table 5-4 step 4). -/
def State.verifySpare (s : State) (y : Insertion) (n : Nat) (m : SpareCheck) : Option (State × Bool) :=
  let keys := (y.terms n).zipIdx
  let quick := keys.all fun e => (decide (y.kind = 0) && !s.carrierUsed e.2) || s.agrees e.1 (m.quick.getD e.2 0)
  if s.now < y.since + 4096 then none
  else if quick then some (s, true)
  else if s.now < y.since + 20480 then none
  else match m.full with
    | some ds =>
      let s := keys.foldl (fun s e => s.putTerm e.1 (ds.getD e.2 0)) s
      some (if y.kind = 0 then s.noteTemp y.target n else s, true)
    | none => some (s, false)

/-- Step 5 of a landing: it takes the quadrant's group. -/
def State.handLanding (s : State) (y : Insertion) (l : Nat) : State :=
  let back := decide ((s.site y.target).state = .backup)
  let s := s.modSite y.target fun x => { x with
    home := x.home.set y.quad l, freed := dropKey l x.freed, takenL := dropKey l x.takenL }
  if back then s
  else s.routes y.target fun x => { x with routes := x.routes.set y.quad { x.route y.quad with source := l, feed := 0 } }

/-- Step 5 of a group: the quadrant's landing is on the spare group, and its root returns to its own feed (R155). DESIGN CHOICE (log 65): where
that landing has failed, or serves another quadrant now, the spec names none; the group takes the first free landing as it is measured,
else the backup line. -/
def State.handGroup (s : State) (y : Insertion) (g : Nat) : State :=
  let x := s.site y.target
  let h := x.home.getD y.quad 7
  let land :=
    if x.state = .backup then 6
    else if (x.route y.quad).source = h ∨ x.landingFree h then h
    else x.freeLandings.headD 6
  let s := s.modSite y.target fun x => { x with
    takenG := dropKey g x.takenG
    home := if land < 6 then x.home.set y.quad land
      else if x.state = .backup ∨ x.lfail.contains h ∨ x.isDown 0 h then x.home else x.home.set y.quad 7
    freed := dropKey land x.freed }
  s.routes y.target fun x => { x with routes := x.routes.set y.quad ⟨0, g, land⟩ }

/-- Heartbeats have come from every region of a quadrant since the last check but one (Table 5-4 step 6, R375). -/
def State.quadBeats (s : State) (site q : Nat) : Bool :=
  (quadRegions site q).all fun r =>
    !(s.regionExists r && s.clocked r && decide (s.xState (xId 8 r) = .whole)) || decide (s.die.checks ≤ (s.rgn r).hb.at_ + 1)

/-- Step 6: the part that was replaced is marked, the site is OPTICAL again unless another bridge is in force, and EV_CHRYSALIS_DONE. -/
def State.routeDone (s : State) (y : Insertion) : State :=
  let s := s.modSite y.target fun x => ({ x with confirm := dropKey y.quad x.confirm } : SiteOpt).restate
  let s := if y.planned then s else s.partFailed y.target y.kind y.part
  ({ s with opt := { s.opt with inserts := sat16 s.opt.inserts 1 } } : State).insDone y

/-- One step of an insertion of a landing or group (Table 5-4, R155): each occurrence takes it as far as its own conditions let the next
step be; hand-over stands at a slot boundary, and 4 slots of heartbeats confirm it. -/
def State.routeStep (s : State) (y : Insertion) (m : SpareCheck) : State :=
  if !s.routeReady y then s
  else if y.step ≤ 2 then s.takeSpare y
  else match y.took with
    | none => s
    | some n =>
      if y.step = 3 then s.tuneSpare y n m
      else if y.step ≤ 5 then
        if s.now % 256 ≠ 0 then s
        else match s.verifySpare y n m with
          | none => s
          | some (t, false) => t.spareFails y n
          | some (t, true) =>
            let t := if y.planned then t else t.modSite y.target fun x => { x with confirm := addKey y.quad x.confirm }
            (if y.kind = 0 then t.handLanding y n else t.handGroup y n).insStep y 6 (some n) s.now
      else if y.since + 1024 ≤ s.now ∧ s.quadBeats y.target y.quad then s.routeDone y
      else s

/-- LANDING_INSERT: the insertion of a landing for a quadrant goes one step on (R154). A quadrant without a group has no use for one, but
at site 16, where the synthesizers take their reference before the group (R142, R168). -/
def execLandingInsert (site : Site) (q : Fin 4) (power : List Int) (quick : List Nat) (full : Option (List Nat)) (s : State) : Out :=
  match s.findIns fun y => decide (y.kind = 0 ∧ y.target = site.val ∧ y.quad = q.val) with
  | none => .next s
  | some y => if ((s.site site).route q).group = 7 ∧ site.val ≠ 16 then .next s else .next (s.routeStep y ⟨power, quick, full⟩)

/-- GROUP_INSERT: the insertion of a group for a quadrant goes one step on (R155). -/
def execGroupInsert (site : Site) (q : Fin 4) (quick : List Nat) (full : Option (List Nat)) (s : State) : Out :=
  match s.findIns fun y => decide (y.kind = 1 ∧ y.target = site.val ∧ y.quad = q.val) with
  | none => .next s
  | some y => .next (s.routeStep y ⟨[], quick, full⟩)

/-- Quadrants that a wavelength insertion returns to their landings: those whose landing has not failed, is not waiting to be replaced and
is free to take them back. -/
def State.homeward (s : State) (site : Nat) : State :=
  let go (x : SiteOpt) (q : Nat) : Route :=
    let h := x.home.getD q 7
    let fed := decide ((x.route q).group ≠ 7) || decide (site = 16)
    if 6 ≤ (x.route q).source ∧ fed ∧ h < 6 ∧ !x.lfail.contains h ∧ !x.isDown 0 h then { x.route q with source := h }
    else x.route q
  s.routes site fun x => { x with routes := (List.range 4).map (go x) }

/-- Every role has a carrier that works. -/
def State.rolesLit (s : State) : Bool := !s.opt.failed.contains s.opt.tone && !s.opt.failed.contains s.opt.slot

/-- WAVELENGTH_INSERT: a spare carrier is set to the role where its power lies within WARN, and at a slot boundary after it every bridged
quadrant returns together, unless a role's carrier has failed meanwhile and keeps the sites bridged for an insertion of its own. A planned
hand-over changes the carrier of every landing's delay, and the lanes are remeasured after it (07 R204). A spare that fails its power check gives way to the next, and with none left the role is lost (R156,
R160). -/
def execWavelengthInsert (launched : Int) (s : State) : Out :=
  match s.findIns fun y => decide (y.kind = 2) with
  | none => .next s
  | some y =>
    if !s.insRuns y then .next s
    else if y.step ≤ 1 then
      let named : Option Nat := match y.spare with
        | some c => if s.opt.free.contains c then some c else none
        | none => s.freeCarrier
      match named with
      | none =>
        if y.planned then .next (s.endIns y .failed stRefused)
        else .next ((s.roleLost y.part).endIns y .failed stRefused)
      | some c =>
        let s := s.setLaunch c launched
        let s := { s with opt := { s.opt with free := dropKey c s.opt.free } }
        if launched < s.warnAt then
          let s := { s with opt := { s.opt with failed := addKey c s.opt.failed } }
          if y.spare = some c ∧ y.planned then .next (s.endIns y .failed stRefused)
          else .next (s.modIns y fun y => { y with spare := none })
        else
          let s := { s with opt := { s.opt with
            tone := if s.opt.tone = y.part then c else s.opt.tone
            slot := if s.opt.slot = y.part then c else s.opt.slot } }
          .next (s.insStep y 2 (some c) s.now)
    else if s.now % 256 ≠ 0 ∨ s.now ≤ y.since then .next s
    else
      let s := { s with opt := { s.opt with
        free := if y.planned then addKey y.part s.opt.free else s.opt.free
        inserts := sat16 s.opt.inserts 1 } }
      let s := allSites.foldl (fun s i =>
        if s.rolesLit ∧ ((s.site i).state = .optical ∨ (s.site i).state = .bridged) then
          (s.homeward i).modSite i fun x => if y.planned then { x with laneDue := some s.now } else x
        else s) s
      .next (s.insDone y)

/-! ### The degradation ladder (R157-R161) -/

/-- BORROW_PERMANENT: no spare group is left; the cross-links crossed are remeasured, their sum is the quadrant's fixed offset from a slot
boundary on, the lanes are remeasured with it, and the quadrant's landing is free (R158, R162). -/
def execBorrowPermanent (site : Site) (q : Fin 4) (delays : List Nat) (s : State) : Out :=
  let x := s.site site
  let open_ := s.findIns fun y => decide (y.kind = 1 ∧ y.target = site.val ∧ y.quad = q.val ∧ !y.planned)
  let runs : Bool := match open_ with
    | some y => s.insRuns y && decide (y.step ≤ 2)
    | none => s.chrysalis
  match x.path q with
  | some (_, links) =>
    if !runs ∨ s.siteWaits site ∨ !x.served ∨ !x.freeGroups.isEmpty ∨ links.isEmpty ∨ x.fixed q ∨ s.now % 256 ≠ 0 ∨
        delays.length ≠ links.length then .next s
    else
      let s := (links.zip delays).foldl (fun s e => s.putTerm (termKey site e.1.1 0 e.1.2 0) e.2) s
      let part := ((x.down.find? fun e => decide (e.1 = 1 ∧ e.2.2 = q.val)).map (·.2.1)).getD 7
      let s := if part < 7 then s.partFailed site 1 part else s
      let s := s.modSite site fun x => { x with fixedX := x.fixedX ++ [(q.val, delays.sum)], laneDue := some s.now }
      let s := (s.routes site id).raise evRouteBorrowed (routeArg site q 0 part)
      match open_ with
      | some y => .next (s.endIns y .failed stRefused)
      | none => .next s
  | none => .next s

/-- A site moves to BACKUP as a whole: every quadrant takes the backup line through its group; on site 16 the synthesizers ride and every
port is renegotiated (R159, R176). -/
def State.siteToBackup (s : State) (site : Nat) : State :=
  let s := s.modSite site fun x => { x with state := .backup }
  let s := s.routes site fun x =>
    { x with routes := (List.range 4).map fun q =>
      if x.own q ∨ site = 16 then { x.route q with source := 6 } else x.route q }
  let s := s.raise evSiteBackup (routeArg site 0 0 0)
  let s := (s.opt.ins.filter fun y => decide (y.kind = 0 ∧ y.target = site)).foldl State.dropLanding s
  if site = 16 then (List.range 4).foldl State.backupQuad s else s

/-- A role has been left without a usable carrier. -/
def State.roleGone (s : State) : Bool := s.opt.lostTone || s.opt.lostSlot

/-- A quadrant's landing has failed and it has no other: its source is the backup line or nothing, and its own landing is out of use. -/
def SiteOpt.noLanding (x : SiteOpt) (q : Nat) : Bool :=
  let h := x.home.getD q 7
  decide (6 ≤ (x.route q).source ∧ (x.route q).group ≠ 7) && (decide (6 ≤ h) || x.lfail.contains h || x.isDown 0 h)

/-- A quadrant's landing fault finds no free landing at the site: no insertion has taken a spare for it, and one that is held waits
(Table 5-6, R159). -/
def State.landingSought (s : State) (site q : Nat) : Bool :=
  let x := s.site site
  match s.findIns fun y => decide (y.kind = 0 ∧ y.target = site ∧ y.quad = q) with
  | some y => !y.planned && decide (y.step ≤ 2) && s.insRuns y && x.freeLandings.isEmpty
  | none => x.noLanding q && x.freeLandings.isEmpty

/-- SITE_BACKUP: at a slot boundary, a site where a landing fault finds no free landing, or every site where a role has no carrier
(R157, R159, R160). -/
def execSiteBackup (site : Site) (s : State) : Out :=
  let x := s.site site
  let none_ := (List.range 4).any fun q => s.landingSought site q
  let need := s.roleGone || (none_ && !s.siteWaits site)
  if s.chrysalis ∧ s.now % 256 = 0 ∧ (x.state = .optical ∨ x.state = .bridged) ∧ need then .next (s.siteToBackup site)
  else .next s

/-- A free carrier offered to a role that has none: it takes the role where its launched power lies within WARN, and is marked failed
where it does not (R156 step 1, R160). -/
def State.tryCarrier (launched : List (Fin 4 × Int)) (s : State) (c : Nat) : State :=
  if !s.opt.free.contains c ∨ !s.roleGone then s
  else match launched.find? fun e => decide (e.1.val = c) with
    | none => s
    | some (_, p) =>
      let s := s.setLaunch c p
      let s := { s with opt := { s.opt with free := dropKey c s.opt.free } }
      if p < s.warnAt then { s with opt := { s.opt with failed := addKey c s.opt.failed } }
      else if s.opt.lostTone then { s with opt := { s.opt with tone := c, lostTone := false } }
      else { s with opt := { s.opt with slot := c, lostSlot := false } }

/-- A site's landings are intact: every quadrant that has a route of its own has its landing. -/
def SiteOpt.intact (x : SiteOpt) : Bool :=
  (List.range 4).all fun q => !x.own q ||
    (decide (x.home.getD q 7 < 6) && !x.lfail.contains (x.home.getD q 7) && !x.isDown 0 (x.home.getD q 7))

/-- SITE_OPTICAL: a lost role has a carrier again; at a slot boundary every site on BACKUP whose landings are intact returns to optical
routes (R160). -/
def execSiteOptical (s : State) (launched : List (Fin 4 × Int) := []) : Out :=
  if !s.fw ∨ !s.roleGone ∨ s.now % 256 ≠ 0 then .next s
  else
    let s := carrierOrder.foldl (State.tryCarrier launched) s
    if s.roleGone then .next s
    else
      .next (allSites.foldl (fun s i =>
        if (s.site i).state = .backup ∧ (s.site i).intact then
          ((s.modSite i fun x => { x with state := .optical }).homeward i).raise evSiteOptical (routeArg i 0 0 0)
        else s) s)

/-- A region leaves the calibration unit (08 Table 8-11). -/
def State.calAbandon (s : State) (rs : List RegionNo) : State :=
  rs.foldl (fun s r => if (s.rgn r).cal.running ∨ (s.rgn r).cal.phase = 2 then s.calLeave r .fenced else s) s

/-- SITE_ISOLATED: no group of the site works, or it is on BACKUP and its backup line fails. A die that has live regions is LOST by then,
its crossings fenced; site 16 is never LOST, and every crossing of a Chrounyar region is fenced at once and its calibrations abandoned.
Anchors are freed and replicas stand; measurements at the site end, and an OPTIC_RECAL that waits is answered (R161, R162, R208, R316). -/
def execSiteIsolated (site : Site) (s : State) (backupFailed : Bool := false) : Out :=
  let x := s.site site
  let none_ := ((List.range 4).all fun q => decide ((x.route q).group = 7)) &&
    (List.range 7).all fun g => x.gfail.contains g || x.isDown 1 g
  let bad := x.backupBad || (backupFailed && decide (x.state = .backup))
  let gone := decide (site.val = 16) || decide ((s.dieAt site).st = .lost) || !((siteRegions site).any fun r => s.regionExists r && s.clocked r)
  if s.chrysalis ∧ x.served ∧ gone ∧ (none_ ∨ (x.state = .backup ∧ bad)) then
    let s := s.modSite site fun x => { x with state := .isolated, backupBad := bad }
    let s := s.modDie site fun d => { d with st := .isolated }
    let mine := s.opt.ins.filter fun y => decide (y.kind ≤ 1 ∧ y.target = site.val)
    let s := mine.foldl (fun s y => s.endIns y .failed stFenced) s
    let s := s.answerAll (fun w => match w with
      | .opticRecal t => decide (t.site = site)
      | _ => false) (codeReply stFenced)
    let s := { s with opt := { s.opt with
      armed := if s.opt.armed.any fun e => decide (e.1 = site.val) then none else s.opt.armed } }
    let s := (siteRegions site).foldl State.stopReplica s
    let s := s.breakAnchors fun r => decide (siteOf r = site.val)
    let s := if site.val = 16 then ((s.calAbandon (siteRegions 16)).fenceAll (s.sideCrossings (siteRegions 16))).note16 else s
    .next ((s.raise evDieIsolated (routeArg site 0 0 0)).mlbSet (.isolated site))
  else .next s

/-- The outputs of a side slot run: its reference and its tick-and-sync pair come from quadrant 0's route, and stop with it (R142, R162,
R398). -/
def State.sideRuns (s : State) (site : Nat) : Bool :=
  let x := s.site site
  s.sys.sideOut && decide (x.state ≠ .isolated) && match x.path 0 with
    | some (p, _) => decide ((x.route p).source < 6) || (decide ((x.route p).source = 6) && !x.backupBad)
    | none => false

/-- A rising edge of a side slot's 100 MHz reference: at whole multiples of 10 ns of Erg time (Table 14-7). -/
def State.sideEdge (s : State) (site : Nat) : Bool := s.sideRuns site && decide (s.now % 10 = 0)

/-! ### In-service recalibration (R148, R149) -/

/-- A value of a landing has been withheld: its second measurement is due at once (R149). -/
def State.withheld (s : State) (site l : Nat) : Bool :=
  (List.range 4).any fun c => (s.term (landingKey site l c)).any fun x => x.held.isSome

/-- A landing is due for remeasurement: after RECAL_MS, once its site has moved by more than OPT_DT, after a measurement that was discarded,
or after one that was withheld (R148, R149, R163). -/
def State.recalDue (s : State) (site l : Nat) : Bool :=
  s.opt.redo.contains (site, l) || s.withheld site l || match s.term (landingKey site l s.opt.tone) with
  | none => true
  | some t =>
    decide (t.at_ + fld s.opt.ctrl.eff 31 16 * 1000000 ≤ s.now) ||
      match Map.get none s.opt.calTemp (6 * site + l), s.siteMean site with
      | some a, some b => decide (fld s.opt.ctrl.eff 15 8 * 8 < (a - b).natAbs)
      | _, _ => false

/-- INSVC_RECAL: a landing in use or held as a spare is armed for a measurement; one landing at a time (R148). -/
def execInsvcRecal (site : Site) (l : Fin 6) (s : State) : Out :=
  let x := s.site site
  if bitOf s.opt.ctrl.eff 0 ∧ s.opt.armed = none ∧ x.served ∧ !x.lfail.contains l.val ∧ s.recalDue site l then
    .next { s with opt := { s.opt with
      armed := some (site.val, l.val), redo := s.opt.redo.filter (· ≠ (site.val, l.val)) } }
  else .next s

/-- Key of a route term. -/
def RouteTerm.key (t : RouteTerm) : Nat := termKey t.site t.kind t.index t.quad t.carrier

/-- The part a term belongs to is marked degraded by a damaged measurement; a planned insertion follows for a landing or a group in use
(R149). -/
def State.degradeTerm (s : State) (t : RouteTerm) : State :=
  let link : Nat := if t.kind = 2 then t.quad.val else (t.quad.val + 3) % 4
  if t.kind = 0 then s.degradeLanding t.site t.index
  else if t.kind = 1 then s.degradeGroup t.site t.index
  else if t.kind = 4 then s.modSite t.site fun x => { x with backupDeg := true }
  else s.modSite t.site fun x => { x with xdeg := addKey link x.xdeg }

/-- A measured term under R149: slewed in, or withheld and measured again; a second agreeing value degrades the part. Second
component: whether it is applied. -/
def State.measured (s : State) (t : RouteTerm) (d : Nat) : State × Bool :=
  let key := RouteTerm.key t
  let put (x : Term) : State := { s with opt := { s.opt with terms := Map.put none s.opt.terms key (some x) } }
  match s.term key with
  | none => (s.putTerm key d, true)
  | some x =>
    if ((d : Int) - x.inUse).natAbs ≤ 20 then (put { x with meas := d, at_ := s.now, held := none }, true)
    else
      match x.held with
      | none => (put { x with at_ := s.now, held := some d }, false)
      | some h =>
        let s' := put { x with at_ := s.now, held := none }
        if ((d : Int) - h).natAbs ≤ 6 then (s'.degradeTerm t, false) else (s', false)

/-- A waiting OPTIC_RECAL is for this term; for a landing it measures all four carriers (R329). -/
def RouteTerm.asked (t : RouteTerm) (w : Wait) : Bool := match w with
  | .opticRecal t' => decide (RouteTerm.key { t' with carrier := 0 } = RouteTerm.key { t with carrier := 0 })
  | _ => false

/-- OPTIC_RECAL's answer: the delay, whether it is applied, and the instant (Table 11-8). -/
def State.recalReply (s : State) (key : Nat) : Reply :=
  let x := (s.term key).getD ⟨0, 0, 0, none⟩
  let d := x.held.getD x.meas
  okReply (toLE 4 (at_ (b2n x.held.isNone) 31 + d) ++ zeros 4 ++ toLE 8 s.now)

/-- INSVC_MEASUREMENT_DONE: a measurement of a route term ends: a landing's four carriers in order while it is armed, another term's of the
site together with them. A value that is withheld is measured again at once. An OPTIC_RECAL that waits is answered with the tone carrier's
value once all four are in (R148, R149, R329). -/
def execInsvcMeasurementDone (t : RouteTerm) (delay : Nat) (s : State) : Out :=
  let d := delay % 2 ^ 20
  let waiting := (s.findWait (RouteTerm.asked t)).isSome
  let armed : Bool := match s.opt.armed with
    | some (i, l) => decide (i = t.site.val) && (decide (t.kind ≠ 0) || decide (l = t.index))
    | none => false
  let again : Bool := decide (t.kind ≠ 0) && (s.term (RouteTerm.key t)).any fun x => x.held.isSome
  let may := armed || again || (waiting && (decide (t.kind ≠ 0) || s.opt.armed.isNone))
  if !(s.site t.site).served ∨ !may then .next s
  else
    let (s, applied) := s.measured t d
    if t.kind ≠ 0 then
      .next (s.answerAll (RouteTerm.asked t) (okReply (toLE 4 (at_ (b2n applied) 31 + d) ++ zeros 4 ++ toLE 8 s.now)))
    else
      let s := s.noteTemp t.site t.index
      if t.carrier ≠ 3 then .next { s with opt := { s.opt with armed := some (t.site.val, t.index) } }
      else
        let s := { s with opt := { s.opt with
          armed := if s.withheld t.site t.index then some (t.site.val, t.index) else none } }
        .next (s.answerAll (RouteTerm.asked t) (s.recalReply (landingKey t.site t.index s.opt.tone)))

/-- One slot's slew of a term: at most 0.5 ps toward the measurement (R149). -/
def Term.slew (t : Term) : Term :=
  { t with inUse := if t.inUse < t.meas then t.inUse + 1 else if t.meas < t.inUse then t.inUse - 1 else t.inUse }

/-- DELAY_SLEW: every value in use moves at a slot boundary, where writes to MB_OPT_CTRL and MB_OPT_POWER_TH take effect (R149,
R164). -/
def execDelaySlew (s : State) : Out :=
  if s.now % 256 ≠ 0 then .next s
  else .next { s with opt := { s.opt with
    terms := s.opt.terms.map fun e => (e.1, e.2.map Term.slew), ctrl := s.opt.ctrl.tick s.now, power := s.opt.power.tick s.now } }

/-- 0.5 ps in the unit of a lane's deviation, a sixteenth of a quantum, in thousandths: 32,768 quanta to 1 ns. -/
def halfPs : Int := 262144

/-- A lane remeasured in service: the shift goes into its deviation, and it realigns at its next quiet window (R204). -/
def Lane.remeasure (l : Lane) (d : Nat) : Lane :=
  let l := { l with delta := l.delta + tdiv (((d : Int) - l.dlane) * halfPs) 1000, dlane := d }
  if l.st = .paused ∨ l.near && !l.slipped then l
  else { l with st := .skewed, quiet := if l.st = .skewed then l.quiet else 0 }

/-- The lanes of a site that are up, each by its region and link. -/
def State.lanesUp (s : State) (site : Nat) : List (RegionNo × Nat) :=
  (siteRegions site).flatMap fun r => ((List.range 4).filter fun k => (s.laneAt r k).st.up).map fun k => (r, k)

/-- LANE_REMEASURE: after a route change D_lane of every link at the site is remeasured in service; none is due any longer once every lane
that is up has been (R204). -/
def execLaneRemeasure (site : Site) (delays : List (RegionNo × Nat × Nat)) (s : State) : Out :=
  if (s.site site).laneDue.isNone then .next s
  else
    let all := (s.lanesUp site).all fun e => delays.any fun d => decide (d.1 = e.1 ∧ d.2.1 = e.2)
    let s := if all then s.modSite site fun x => { x with laneDue := none } else s
    .next (delays.foldl (fun s e =>
      if siteOf e.1 = site.val ∧ e.2.1 < 4 ∧ (s.laneAt e.1 e.2.1).st.up then s.modLane e.1 e.2.1 fun l => l.remeasure e.2.2 else s) s)

/-! ### Commands (R166, R328, R329) -/

/-- ROUTE_QUERY. -/
def cmdRouteQuery (q : Req) (s : State) : Result :=
  match siteTarget q with
  | some r => refuse r s
  | none => .done (okReply (toLE 4 (s.siteStateWord q.tgt) ++ toLE 4 (s.siteRouteWord q.tgt) ++ toLE 4 s.optWave)) s

/-- ROUTE_QUERY, the command (R166). -/
def execRouteQuery (q : Req) (s : State) : Out := .next (s.submit 0x0501 cmdRouteQuery q)

/-- OPTIC_RECAL: a named term measured; the response waits for the measurement (R166, R329). -/
def cmdOpticRecal (q : Req) (s : State) : Result :=
  if h : q.tgt < 23 then
    let kind := q.u8 0
    let index := q.u8 1
    let quad := q.u8 2
    if 4 < kind then refuse (badArg 0) s
    else if 6 < index ∨ (kind = 0 ∧ index = 6) then refuse (badArg 1) s
    else if 3 < quad then refuse (badArg 2) s
    else if !(s.site q.tgt).served then refuse (codeReply stFenced) s
    else if s.opt.ins.any fun y => decide (y.target = q.tgt ∧ ((y.kind = 0 ∧ kind = 0 ∧ (y.part = index ∨ y.took = some index)) ∨
        (y.kind = 1 ∧ kind = 1 ∧ (y.part = index ∨ y.took = some index)))) then refuse (busyReply 0) s
    else .wait (.opticRecal ⟨⟨q.tgt, h⟩, Fin.ofNat 5 kind, index, Fin.ofNat 4 quad,
      Fin.ofNat 4 (if kind = 0 then s.opt.tone else 0)⟩) s
  else refuse badTarget s

/-- OPTIC_RECAL, the command (R166). -/
def execOpticRecal (q : Req) (s : State) : Out := .next (s.submit 0x0503 cmdOpticRecal q)

/-- Counters of MB_OPT_CLEAR (Table 5-9). -/
def State.clearOpt (s : State) : State :=
  let s := { s with opt := { s.opt with inserts := 0, bridges := 0 } }
  allSites.foldl (fun s i => s.modSite i fun x => { x with evG := 0, evL := 0 }) s

/-- CLEAR_OPT_COUNTERS (R164). -/
def execClearOptCounters (s : State) : Out := .next s.clearOpt

end Sys2Proof.Machine
end

