-- ==== Sys2Proof/Machine/Anchor.lean ====
section
/-! DEFINITION. Erg time as it is read, replicas, anchors, folding and conversion (04 R107-R116, R123-R136), with the
commands of 11 R326. -/
namespace Sys2Proof.Machine

/-! ### Reading Erg time -/

/-- MB_ERG_LO_READ: bits [31:0] of the count that region 16:0's replica gives the window; the upper half is latched (R20, R110,
R218). -/
def execMbErgLoRead (s : State) : Out :=
  if !s.windowUp then .next s
  else
    let n := s.windowErg
    .next { s with mbx := { s.mbx with winErg := n, read := word n, ergHi := word (n / 2 ^ 32) } }

/-- MB_ERG_HI_READ: the latched half (R110). -/
def execMbErgHiRead (s : State) : Out :=
  if !s.windowUp then .next s else .next { s with mbx := { s.mbx with read := s.mbx.ergHi } }

/-- ERG_READ: HOLDOVER while it lasts; the count is the one of the Erg status word (R110, R113, Table 7-7). -/
def cmdErgRead (_ : Req) (s : State) : Result :=
  .done { status := if s.et.holdover then stHoldover else stOk
          payload := stamp s.ergSeen 0 ++ stampS s.et.rack ++ toLE 4 s.ergStatus } s

/-- ERG_READ, the command (R110). -/
def execErgRead (q : Req) (s : State) : Out := .next (s.submit 0x0401 cmdErgRead q)

/-- Counters of MB_ERG_CLEAR (Table 4-11). -/
def State.clearErg (s : State) : State :=
  { s with et := { s.et with inexact := 0, loss := 0, fix := 0, full := 0, evict := 0 } }

/-- CLEAR_ERG_COUNTERS (R135). -/
def execClearErgCounters (s : State) : Out := .next s.clearErg

/-! ### λC1 slots (R104, R105, Table 4-1) -/

/-- Bits of a number, most significant first. -/
def msbFirst (n x : Nat) : List Bool := (List.range n).map fun i => x.testBit (n - 1 - i)

/-- CRC-16 over bits in transmission order: polynomial 0x1021, no reflection and no final XOR (Table 4-1). -/
def crc16 (bs : List Bool) : BitVec 16 :=
  bs.foldl (fun (c : BitVec 16) b => if c.msb != b then (c <<< 1) ^^^ 0x1021 else c <<< 1) 0xFFFF

/-- The bits that the CRC covers: ERG_NEXT, FLAGS and the reserved bits. -/
def Slot1.data (x : Slot1) : List Bool := msbFirst 64 x.next.toNat ++ msbFirst 8 x.flags.toNat ++ List.replicate 32 false

/-- Manchester coding: a 1 is on, off, and a 0 is off, on. -/
def manchester (bs : List Bool) : List Bool := bs.flatMap fun b => [b, !b]

/-- SYNC: on x4, off x4, on x4, off x4. -/
def syncSymbols : List Bool := [true, false, true, false].flatMap (List.replicate 4)

/-- The 256 symbols of a slot. -/
def Slot1.symbols (x : Slot1) : List Bool := syncSymbols ++ manchester (x.data ++ msbFirst 16 (crc16 x.data).toNat)

/-- Manchester data decoded; none where a pair has equal symbols. -/
def unmanchester : List Bool → Option (List Bool)
  | [] => some []
  | a :: b :: rest => if a = b then none else (unmanchester rest).map (a :: ·)
  | [_] => none

/-- Bits to a number. -/
def ofMsb (bs : List Bool) : Nat := bs.foldl (fun n b => 2 * n + b2n b) 0

/-- What a replica reads from 256 symbols: none where SYNC is not found or the CRC fails (Table 4-2). -/
def readSlot (xs : List Bool) : Option Slot1 :=
  if xs.take 16 ≠ syncSymbols then none
  else match unmanchester (xs.drop 16) with
    | none => none
    | some bs =>
      if bs.length = 120 ∧ ofMsb (bs.drop 104) = (crc16 (bs.take 104)).toNat then
        some ⟨BitVec.ofNat 64 (ofMsb (bs.take 64)), BitVec.ofNat 8 (ofMsb ((bs.drop 64).take 8))⟩
      else none

/-- The slot whose preceding one a site's replicas have just received, over λC1 or, on the electrical backup reference, over base-layer
metal with the same content (R105); an unfed quadrant receives none. -/
def State.slotAt (s : State) (r : RegionNo) : Option Slot1 := if s.unfed r then none else s.et.prevSlot

/-! ### Replicas (R107, R108) -/

/-- A heartbeat: the region counts it, and its count crossing carries it; a fenced or torn one delivers none (R108, R191, R207). -/
def State.heartbeat (s : State) (r : RegionNo) : State :=
  let whole := decide (s.xState (xId 8 r) = .whole)
  s.modRgn r fun g =>
    let n := (g.hb.src + 1) % 256
    if whole then { g with hb := { g.hb with
      src := n, snap := n, total := g.hb.total + (n + 256 - g.hb.snap) % 256, at_ := s.die.checks } }
    else { g with hb := { g.hb with src := n } }

/-- REPLICA_SLOT_CHECK: Table 4-2, once at symbol 0 of each slot. `slipped` is how many ticks the replica has counted too many since
its last check, and `crcOk` whether the preceding slot's symbols reached it unharmed. A correction counts, marks an open stop, and is
reported at most once per 64 slots. The table has no row of its own for the first slot that a replica finds: its count differs then, and
it is corrected. -/
def execReplicaSlotCheck (r : RegionNo) (crcOk : Bool) (slipped : Int) (s : State) : Out :=
  let g := s.rgn r
  if !s.clocked r ∨ g.inReset ∨ g.rep.stopped ∨ s.now % 256 ≠ 0 ∨ g.rep.slotAt = some s.win then .next s
  else
    let own : Int := s.replicaCount r + slipped
    match (if crcOk then (s.slotAt r).bind fun x => readSlot x.symbols else none) with
    | none => .next (s.modRgn r fun g => { g with
        rep := { g.rep with crcErr := g.rep.crcErr + 1, skew := g.rep.skew + slipped, slotAt := some s.win } })
    | some x =>
      let fixed := decide (own ≠ x.next.toNat)
      let say := fixed && match g.rep.fixAt with
        | some w => decide (w + 64 ≤ s.win)
        | none => true
      let s := s.modRgn r fun g => { g with
        rep := { g.rep with
          found := true, skew := (x.next.toNat : Int) - s.now, slotAt := some s.win
          fixAt := if say then some s.win else g.rep.fixAt }
        stop := if fixed then g.stop.map fun x => { x with fixed := true } else g.stop }
      let s := if fixed then { s with et := { s.et with fix := s.et.fix + 1 } } else s
      .next ((s.raiseIf say evErgReplicaFix r).heartbeat r)

/-! ### The walk over a region's records (R119, R129) -/

/-- A 48-bit field resolved to the number nearest a base whose low bits match (R119). -/
def near48 (base x : Nat) : Int := (base : Int) + signed 48 (unsigned 48 ((x : Int) - base))

/-- A record with its cycle and capture resolved: position, cycle, kind, AUX, and VALUE. -/
structure WRec where
  pos   : Nat
  cycle : Int
  rec_  : LRec
  deriving DecidableEq, Repr

/-- The region's records in ring order from an anchor's CURSOR. -/
def State.records (s : State) (a : Anchor) : List WRec :=
  if !a.based then []
  else
  let from_ := max a.cursor (s.et.written - ledgerSize)
  (List.range (s.et.written - from_)).filterMap fun k =>
    match s.ringAt ((from_ + k) % ledgerSize) with
    | some x =>
      if x.region.toNat = a.region then some ⟨from_ + k, near48 a.baseCycle x.cycle.toNat, x⟩ else none
    | none => none

/-- A STOP record's capture in quanta (R119). -/
def Anchor.erg (a : Anchor) (x : LRec) : Int := near48 (a.baseErg / 64) x.value.toNat * 64

/-- Where a walk stands: Erg time in quanta, cycle, target, nominal, the latest opening capture, and the stops crossed whose
closing was corrected (Table 4-10). -/
structure Walk where
  t     : Int
  k     : Int
  tg    : Int
  n     : Int
  open_ : Int
  fixed : Nat
  deriving DecidableEq, Repr

/-- A walk at an anchor's base. -/
def Anchor.start (a : Anchor) : Walk := ⟨a.baseErg, a.baseCycle, a.baseTg, a.baseN, a.baseErg, 0⟩

/-- The walk moved to a record's cycle. -/
def Walk.to (w : Walk) (c : Int) : Walk := { w with t := w.t + (c - w.k) * w.tg, k := c }

/-- TARGET, STOP_OPEN and STOP_CLOSE taken; other kinds only advance. -/
def Walk.take (w : Walk) (a : Anchor) (x : LRec) : Walk :=
  if x.kind = kTarget then { w with tg := bits x.value.toNat 19 0, n := bits x.value.toNat 32 20 }
  else if x.kind = kStopOpen then { w with open_ := a.erg x }
  else if x.kind = kStopClose then
    { w with t := w.t + (a.erg x - w.open_), fixed := w.fixed + b2n (bitAt x.aux 7) }
  else w

/-- What a walk finds: a start, how far the latest start lies behind it, and whether it is inexact. -/
structure Found where
  cycle  : Int
  start  : Int
  extra  : Int
  slack  : Nat
  inexact : Bool
  inStop : Bool
  deriving DecidableEq, Repr

/-- The start of period c (R129, R131). -/
def ergWalk (a : Anchor) (c : Int) : Walk → List WRec → Found
  | w, [] => ⟨c, w.t + (c - w.k) * w.tg, 0, w.fixed, decide (0 < w.fixed), false⟩
  | w, r :: rs =>
    if c < r.cycle then ⟨c, w.t + (c - w.k) * w.tg, 0, w.fixed, decide (0 < w.fixed), false⟩
    else
      let w := w.to r.cycle
      let x := r.rec_
      let len : Int := bits x.value.toNat 15 0
      if x.kind = kStopOpen ∨ x.kind = kStopClose then ergWalk a c (w.take a x) rs
      else if r.cycle = c then ⟨c, w.t, 0, w.fixed, decide (0 < w.fixed), false⟩
      else if x.kind = kStretch then
        let m := min len (c - w.k)
        ergWalk a c { w with t := w.t + m * (w.tg + 4 * w.n * x.aux), k := w.k + m } rs
      else if x.kind = kWindow then
        let sum : Int := bits x.value.toNat 31 16
        if c < w.k + len then ⟨c, w.t + (c - w.k) * w.tg, 4 * w.n * sum, w.fixed, true, false⟩
        else ergWalk a c { w with t := w.t + len * w.tg + 4 * w.n * sum, k := w.k + len } rs
      else ergWalk a c (w.take a x) rs

/-- The period that contains x (R129, R131). -/
def cycleWalk (a : Anchor) (x : Int) : Walk → List WRec → Found
  | w, [] => let c := w.k + tdiv (x - w.t) w.tg; ⟨c, w.t + (c - w.k) * w.tg, 0, w.fixed, decide (0 < w.fixed), false⟩
  | w, r :: rs =>
    if x < w.t + (r.cycle - w.k) * w.tg then
      let c := w.k + tdiv (x - w.t) w.tg
      ⟨c, w.t + (c - w.k) * w.tg, 0, w.fixed, decide (0 < w.fixed), false⟩
    else
      let w := w.to r.cycle
      let y := r.rec_
      let len : Int := bits y.value.toNat 15 0
      if y.kind = kStopClose then
        if x < w.t + (a.erg y - w.open_) then
          let w := w.take a y
          ⟨w.k, w.t, 0, w.fixed, decide (0 < w.fixed), true⟩
        else cycleWalk a x (w.take a y) rs
      else if y.kind = kStretch then
        let p := w.tg + 4 * w.n * y.aux
        if x < w.t + len * p then
          let c := w.k + tdiv (x - w.t) p
          ⟨c, w.t + (c - w.k) * p, 0, w.fixed, decide (0 < w.fixed), false⟩
        else cycleWalk a x { w with t := w.t + len * p, k := w.k + len } rs
      else if y.kind = kWindow then
        let sum : Int := bits y.value.toNat 31 16
        let e := w.t + len * w.tg + 4 * w.n * sum
        if x < e then
          let j := min (len - 1) (tdiv (x - w.t) w.tg)
          ⟨w.k + j, w.t + j * w.tg, 4 * w.n * sum, w.fixed, true, false⟩
        else cycleWalk a x { w with t := e, k := w.k + len } rs
      else cycleWalk a x (w.take a y) rs

/-- The start of a cycle of an anchor's region, from its records. -/
def State.ergOf (s : State) (a : Anchor) (c : Nat) : Found := ergWalk a c a.start (s.records a)

/-- The cycle that contains an Erg time in quanta. -/
def State.cycleOf (s : State) (a : Anchor) (x : Nat) : Found := cycleWalk a x a.start (s.records a)

/-! ### Predictions (R132) -/

/-- Target in quanta of a window under the earliest or the latest assumption: the target in force in the present window, a
held plan's trim, then TRIM_FAST or TRIM_SLOW. -/
def Region.assume (g : Region) (fast : Bool) (w : Nat) : Nat :=
  if w ≤ g.win then g.tg
  else match g.planFor w with
    | some p => g.target (p.trims.getD (w - p.win0) 0)
    | none => g.target (if fast then g.trimFast else g.trimSlow)

/-- Periods that start in a window from an instant on. -/
def startsIn (t tg w : Nat) : Nat := if tg = 0 then 0 else ((w + 1) * windowQ - t + tg - 1) / tg

/-- The start of cycle c from (t, k), through the windows listed and then at a constant target. -/
def reachCycle (tgOf : Nat → Nat) (last c : Nat) : List Nat → Nat → Nat → Nat
  | [], t, k => t + (c - k) * last
  | w :: ws, t, k =>
    if winOfQ t ≠ w then reachCycle tgOf last c ws t k
    else
      let m := startsIn t (tgOf w) w
      if c ≤ k + m then t + (c - k) * tgOf w else reachCycle tgOf last c ws (t + m * tgOf w) (k + m)

/-- The cycle that contains x, likewise. -/
def reachErg (tgOf : Nat → Nat) (last x : Nat) : List Nat → Nat → Nat → Nat
  | [], t, k => if last = 0 then k else k + (x - t) / last
  | w :: ws, t, k =>
    if winOfQ t ≠ w then reachErg tgOf last x ws t k
    else
      let m := startsIn t (tgOf w) w
      if x < t + m * tgOf w then (if tgOf w = 0 then k else k + (x - t) / tgOf w)
      else reachErg tgOf last x ws (t + m * tgOf w) (k + m)

/-- Windows that held plans may cover, from the present one. -/
def Region.horizon (g : Region) (t : Nat) : List Nat := (List.range 40).map (min g.win (winOfQ t) + ·)

/-- The predicted start of cycle c (R132): the latest bound adds BUDGET_NS for every window in which a predicted period
ends. -/
def Region.predictCycle (g : Region) (t k c : Nat) (fast : Bool) : Nat :=
  let tgOf := g.assume fast
  let far := winOfQ t + 1000
  let at_ (c : Nat) : Nat := reachCycle tgOf (tgOf far) c (g.horizon t) t k
  let wins := if c ≤ k then 0 else winOfQ (at_ c) - winOfQ (at_ (k + 1)) + 1
  at_ c + (if fast then 0 else wins * g.budgetNs * 32768)

/-! ### Conversion (R130) -/

/-- FLAGS, CYCLE, ERG, ERG_LATEST, PHASE of ANCHOR_CONVERT (R327). -/
def convertReply (flags cycle : Nat) (erg latest phase : Int) : Reply :=
  okReply (toLE 1 flags ++ zeros 7 ++ toLE 8 cycle ++ stampQ erg.toNat ++ stampQ latest.toNat ++ stampQ phase.toNat)

/-- An exact or inexact answer: bounds of 1 ns about each corrected stop (Table 4-10). PHASE is zero for a cycle and in a
stop. -/
def Found.reply (f : Found) (x : Option Int) : Reply :=
  let d : Int := 32768 * f.slack
  let flags := (if f.inexact then 2 else 1) + (if f.inStop then 8 else 0)
  let phase := match x with
    | some x => if f.inStop then 0 else x - (f.start - d)
    | none => 0
  convertReply flags f.cycle.toNat (f.start - d) (f.start + f.extra + d) phase

/-- The answer from settled records; INEXACT_SEEN is set where it is inexact (R130, R131). -/
def State.convertNow (s : State) (i : Nat) (toCycle : Bool) (x : Nat) : Reply × State :=
  let a := s.anchor i
  let f := if toCycle then s.cycleOf a x else s.ergOf a x
  (f.reply (if toCycle then some x else none), s.modAnchor i fun a => { a with inexact := a.inexact || f.inexact })

/-- A predicted answer (R132). -/
def State.convertAhead (s : State) (i : Nat) (toCycle : Bool) (x : Nat) : Reply :=
  let a := s.anchor i
  let g := s.rgn a.region
  let k := s.seenCycle a.region
  let t := (s.ergOf a k).start.toNat
  if toCycle then
    let c := reachErg (g.assume true) (g.assume true (winOfQ t + 1000)) x (g.horizon t) t k
    let e := g.predictCycle t k c true
    convertReply 4 c e (g.predictCycle t k c false) ((x : Int) - e)
  else convertReply 4 x (g.predictCycle t k x true) (g.predictCycle t k x false) 0

/-- The target has been reached: a cycle in progress or past, an Erg time not in the future. The first cycle after an open stop is not
in progress yet. The region's cycle is read through its count crossing (R130). -/
def State.reached (s : State) (i : Nat) (toCycle : Bool) (x : Nat) : Bool :=
  let r := (s.anchor i).region
  if toCycle then decide (x ≤ s.nowQ)
  else decide (x < s.seenCycle r) || (decide (x = s.seenCycle r) && (s.rgn r).stop.isNone)

/-- The target lies past the opening of a stop that is open. -/
def State.pastStop (s : State) (i : Nat) (toCycle : Bool) (x : Nat) : Bool :=
  let g := s.rgn (s.anchor i).region
  match g.stop with
  | some st => if toCycle then decide (st.opened ≤ x) else decide (g.cycle ≤ x)
  | none => false

/-- The target is settled: its Erg time lies 1,024 ns back or more, no stop is open before it, and no record
that bears on it stands in the record lane (R120, Table 4-10). -/
def State.settled (s : State) (i : Nat) (toCycle : Bool) (x : Nat) : Bool :=
  let e : Int := if toCycle then x else (s.ergOf (s.anchor i) x).start
  (s.anchor i).based && s.reached i toCycle x && !s.pastStop i toCycle x && decide (e + 1024 * 32768 ≤ s.nowQ) &&
    !((s.rgn (s.anchor i).region).former.lane.any fun y => match y with
      | .record z => decide (near48 (s.anchor i).baseCycle z.cycle.toNat ≤ (if toCycle then ((s.cycleOf (s.anchor i) x).cycle) else x))
      | .summary _ => false)

/-- The outage of a region will not end: its insertion has not succeeded, for no spare is left (Table 4-10, R67). -/
def State.noReturn (s : State) (r : RegionNo) : Bool :=
  let g := s.rgn r
  decide (g.chan.st = .dead) && g.chan.noSpare

/-- A conversion waits for its target: one reached and not settled, or one past the outage of a DEAD region that may still be served
again, until that region's count crossing is released too (R130, Table 4-10). -/
def State.awaitsTarget (s : State) (i : Nat) (toCycle : Bool) (x : Nat) : Bool :=
  let r := (s.anchor i).region
  if s.pastStop i toCycle x && decide ((s.rgn r).chan.st = .dead) then !s.noReturn r
  else s.reached i toCycle x || (!toCycle && decide (s.xState (xId 7 r) ≠ .whole))

/-- The code with which a conversion is refused because the region's cycle cannot be read (R130, R207, R316); the outage of a DEAD
region is Table 4-10's case. -/
def State.countBlock (s : State) (r : RegionNo) : Option Nat :=
  if (s.rgn r).chan.st = .dead then none else s.xBlock (xId 7 r)

/-- The target lies before the anchor's base: the offset of the field at fault (R129). -/
def State.beforeBase (s : State) (i : Nat) (toCycle : Bool) (x : Nat) : Option Nat :=
  let a := s.anchor i
  if toCycle then (if x < a.baseErg then some 16 else none) else if x < a.baseCycle then some 8 else none

/-- Entry index that an ANCHOR_ID names, when its generation matches and the entry is not FREE (R128). -/
def State.anchorOf (s : State) (id : Nat) : Option Nat :=
  let i := id % 1024
  let a := s.anchor i
  if a.state ≠ 0 ∧ a.gen.toNat = id / 1024 then some i else none

/-- A touch (R124). -/
def State.touch (s : State) (i : Nat) : State := s.modAnchor i fun a => { a with lastUse := s.now }

/-- ANCHOR_CONVERT. DESIGN CHOICE (log 53): an entry that is still PENDING has no base; the answer is BUSY for the 2 us within which it
has one. -/
def cmdAnchorConvert (q : Req) (s : State) : Result :=
  match s.anchorOf q.tgt with
  | none => refuse badTarget s
  | some i =>
    let a := s.anchor i
    let toCycle := decide (q.u8 0 = 1)
    if 1 < q.u8 0 then refuse (badArg 0) s
    else if !toCycle ∧ !zeroAt q.payload 16 16 then refuse (badArg 16) s
    else if toCycle ∧ q.le 8 8 ≠ 0 then refuse (badArg 8) s
    else if a.state = 1 then refuse (busyReply 2) s
    else if 8 ≤ a.busy then refuse (busyReply 8) s
    else
      let x := if toCycle then q.le 16 8 * 32768 + q.le 24 2 / 2 else q.le 8 8
      match s.countBlock a.region, s.beforeBase i toCycle x with
      | some st, _ => refuse (codeReply st) s
      | none, some off => refuse (badArg off) s
      | none, none =>
        let s := s.touch i
        if s.settled i toCycle x then
          let (r, s) := s.convertNow i toCycle x
          .done r s
        else if s.awaitsTarget i toCycle x then
          .wait (.convert i toCycle x) (s.modAnchor i fun a => { a with busy := a.busy + 1 })
        else .done (s.convertAhead i toCycle x) s

/-- ANCHOR_CONVERT, the command (R130). -/
def execAnchorConvert (q : Req) (s : State) : Out := .next (s.submit 0x0405 cmdAnchorConvert q)

/-- The ANCHOR_REMOVEs that waited for the last conversion on their entry are answered in order of mailbox: the first frees it, and
the ANCHOR_ID of any other names it no longer (R128, R130, R319). -/
def State.removeWaiting (s : State) (i : Nat) : State :=
  if (s.anchor i).busy = 0 then
    match s.findWait fun w => decide (w = .anchorRemove i) with
    | some m => ((s.freeAnchor i).complete m okReply).answerAll (fun w => decide (w = .anchorRemove i)) badTarget
    | none => s
  else s

/-- CONVERSION_SETTLED: a waiting conversion answers exactly once its target is settled, with a prediction where the outage before
it will not end, and BAD_ARG where a new base has come to lie after it (R129, R130, Table 4-7, Table 4-10). -/
def execConversionSettled (m : Fin 8) (s : State) : Out :=
  match (s.box m).wait with
  | some (.convert i toCycle x) =>
    let done (r : Reply) (s : State) : State :=
      ((s.modAnchor i fun a => { a with busy := a.busy - 1 }).complete m r).removeWaiting i
    if (s.anchor i).based ∧ (s.beforeBase i toCycle x).isSome then
      .next (done (badArg (if toCycle then 16 else 8)) s)
    else if s.settled i toCycle x then
      let (r, s) := s.convertNow i toCycle x
      .next (done r s)
    else if s.awaitsTarget i toCycle x then .next s
    else .next (done (s.convertAhead i toCycle x) s)
  | _ => .next s

/-! ### Folding (R123) -/

/-- A fold's result: the new base and its cursor. -/
structure Fold where
  w   : Walk
  pos : Nat
  deriving DecidableEq, Repr

/-- Walk forward from whole periods: ceil((x - t) / tg), 0 when x is past. -/
def Walk.ahead (w : Walk) (x : Int) : Int := if x ≤ w.t ∨ w.tg ≤ 0 then 0 else fdiv (x - w.t + w.tg - 1) w.tg

/-- The walk moved forward by whole periods. -/
def Walk.by (w : Walk) (m : Int) : Walk := { w with t := w.t + m * w.tg, k := w.k + m }

/-- Whole periods from a walk to the first boundary at or after x, none past `lim` quanta or cycle `top` (R123). -/
def Walk.stride (w : Walk) (x lim top : Int) : Int :=
  let fits := if w.tg ≤ 0 then 0 else fdiv (lim - w.t) w.tg
  min (w.ahead x) (max 0 (min fits (top - w.k)))

/-- The first period boundary at or after x, and the position of the records that follow it. It passes neither `lim`, the newest settled
Erg time, nor `top`, the newest cycle whose records are in the ring (R120, R123). A base never lies inside a run or a WINDOW record:
where x does, the boundary is that record's end, or its beginning where the end is not settled. A stop whose restart is not settled is
not crossed either: the base is then the last period before it. `back` is the boundary to which a fold returns, and `inStop` says that a
STOP_OPEN has been read and not its STOP_CLOSE. -/
def foldWalk (a : Anchor) (x lim top : Int) (last : Nat) : Fold → Bool → Walk → List WRec → Fold
  | back, inStop, w, [] => if inStop then back else ⟨w.by (w.stride x lim top), last⟩
  | back, inStop, w, r :: rs =>
    let y := r.rec_
    let m := w.stride x lim top
    if w.k + m < r.cycle then (if inStop then back else ⟨w.by m, r.pos⟩)
    else
      let before : Fold := if w.k < r.cycle then ⟨w.by (r.cycle - 1 - w.k), r.pos⟩ else back
      let w := w.to r.cycle
      let len : Int := bits y.value.toNat 15 0
      if y.kind = kStretch ∨ y.kind = kWindow then
        let end_ : Walk := if y.kind = kStretch
          then { w with t := w.t + len * (w.tg + 4 * w.n * y.aux), k := w.k + len }
          else { w with t := w.t + len * w.tg + 4 * w.n * bits y.value.toNat 31 16, k := w.k + len }
        if x ≤ w.t ∨ lim < end_.t ∨ top < end_.k then ⟨w, r.pos⟩
        else foldWalk a x lim top last ⟨w, r.pos⟩ false end_ rs
      else if y.kind = kStopOpen then foldWalk a x lim top last before true (w.take a y) rs
      else if y.kind = kStopClose then
        let w := w.take a y
        if lim < w.t then back else foldWalk a x lim top last back false w rs
      else foldWalk a x lim top last back inStop (w.take a y) rs

/-- The newest cycle of an anchor's region whose beginning the ring's records give: not the one after an open stop, nor one past a
record that the former or the lane still holds (R117, R118, R123). -/
def State.foldTop (s : State) (a : Anchor) : Int :=
  let g := s.rgn a.region
  let c : Int := if g.stop.isSome then g.cycle - 1 else g.cycle
  let c := if 0 < g.former.len then min c g.former.cycle else c
  g.former.lane.foldl (fun c y => match y with
    | .record z => min c (near48 a.baseCycle z.cycle.toNat - b2n (decide (z.kind = kStopOpen ∨ z.kind = kStopClose)))
    | .summary _ => c) c

/-- An ACTIVE anchor folded to the first period boundary at or after x quanta, no further than the newest settled point (R120, R123);
not while a conversion is in progress or a new base is awaited. -/
def State.foldTo (s : State) (i x : Nat) : State :=
  let a := s.anchor i
  let lim := (s.now - 1024) * 32768
  let x := min x lim
  if a.busy ≠ 0 ∨ !a.based ∨ (s.rgn a.region).awaits i ∨ x ≤ a.baseErg then s
  else
    let f := foldWalk a x lim (s.foldTop a) s.et.written ⟨a.start, a.cursor⟩ false a.start (s.records a)
    s.modAnchor i fun a => { a with
      baseCycle := f.w.k.toNat, baseErg := f.w.t.toNat, baseTg := f.w.tg.toNat, baseN := f.w.n.toNat, cursor := f.pos }

/-- ANCHOR_FOLD: at a window boundary every ACTIVE anchor is folded to window w - REACH_WIN (R123). -/
def execAnchorFold (s : State) : Out :=
  if s.now % 256 ≠ 0 then .next s
  else .next (s.allActive.foldl (fun s i =>
    let reach := (s.anchor i).reach
    if reach ≤ s.win then s.foldTo i ((s.win - reach) * windowQ) else s) s)

/-- Records that some ACTIVE anchor has not folded past. -/
def State.unfolded (s : State) : Nat :=
  s.allActive.foldl (fun n i => max n (s.et.written - (s.anchor i).cursor)) 0

/-- Anchors by base, oldest first. -/
def State.byBase (s : State) : List Nat :=
  let ins (i : Nat) (l : List Nat) : List Nat :=
    let rec go : List Nat → List Nat
      | [] => [i]
      | j :: js => if (s.anchor i).baseErg ≤ (s.anchor j).baseErg then i :: j :: js else j :: go js
    go l
  s.allActive.foldr ins []

/-- LEDGER_PRESSURE: at 7/8 of the ring the oldest anchors are folded, to the newest settled point at most, until it is below
3/4 (R123). -/
def execLedgerPressure (s : State) : Out :=
  if s.unfolded < 86016 ∧ !s.et.pressure then .next s
  else
    let s := (if s.et.pressure then s else s.raise evLedgerPressure 0)
    let s := s.byBase.foldl (fun s i =>
      if 73728 ≤ s.unfolded then s.foldTo i ((s.now - 1024) * 32768) else s) s
    .next { s with et := { s.et with pressure := decide (73728 ≤ s.unfolded) } }

/-- The ring holds a LOSS record that an anchor of its region has not folded past. -/
def State.lossBefore (s : State) (i : Nat) : Bool :=
  (s.records (s.anchor i)).any fun x => decide (x.rec_.kind = kLoss)

/-- LEDGER_LOSS: a LOSS record of the region calls for a new base of each of its ACTIVE anchors, captured at the region's next period
boundary as for PENDING (R119, R127). -/
def execLedgerLoss (r : RegionNo) (s : State) : Out :=
  .next (((s.activeAnchors r).filter fun i => s.lossBefore i && !(s.rgn r).awaits i).foldl (fun s i => s.sendMsg r (.capture i)) s)

/-! ### Registration (R125-R128) -/

/-- BASE_ERG: a capture in quanta (R109). -/
def captureQ (q : Nat) : Nat := capture q * 64

/-- An idle anchor (R125). -/
def State.idle (s : State) (a : Anchor) : Bool :=
  decide (a.state = 2 ∧ a.busy = 0 ∧ (a.deadline = 0 ∨ a.deadline ≤ s.now)) && !a.pinned &&
    decide (a.lastUse / 256 + fld s.et.ctrl.eff 15 8 * 16 ≤ s.win)

/-- The idle anchor with the earliest LAST_USE. -/
def State.oldestIdle (s : State) : Option Nat :=
  (s.et.anchors.filter fun e => s.idle e.2).foldl (fun b e => match b with
    | none => some e.1
    | some i => if e.2.lastUse < (s.anchor i).lastUse then some e.1 else some i) none

/-- The lowest FREE entry. -/
def State.freeEntry (s : State) : Option Nat := (List.range 1024).find? fun i => decide ((s.anchor i).state = 0)

/-- An entry taken for a request, PENDING, and its capture sent to the region (R126, R127). -/
def State.takeAnchor (s : State) (q : Req) (i : Nat) : Result :=
  let reach := if q.le 16 2 = 0 then fld s.et.ctrl.eff 28 16 else q.le 16 2
  let s := s.modAnchor i fun a =>
    { gen := a.gen, state := 1, based := false, pinned := decide (q.u8 18 = 1), region := q.tgt
      owner := BitVec.ofNat 16 (q.mbx.val + 8 * q.le 0 2), reach := reach, deadline := q.le 8 8, lastUse := s.now }
  .wait (.anchorAdd i) (s.sendMsg q.tgt (.capture i))

/-- FULL_CNT (Table 4-6). -/
def State.countFull (s : State) : State := { s with et := { s.et with full := sat16 s.et.full 1 } }

/-- The entry of the table that a captured ANCHOR_ADD has: its own, or, for one that evicts, the entry of the idle anchor with the
earliest LAST_USE, which is freed now that the request commits (R299, Table 4-6). -/
def State.seatAnchor (s : State) (i : Nat) : Option (Nat × State) :=
  if i < 1024 then some (i, s)
  else
    let a := s.anchor i
    let move (s : State) (j : Nat) : Option (Nat × State) :=
      some (j, (s.modAnchor j fun b => { a with gen := b.gen }).modAnchor i fun _ => {})
    match s.freeEntry, s.oldestIdle with
    | some j, _ => move s j
    | none, some j =>
      let s := (s.raise evAnchorEvicted (s.anchorArg j)).freeAnchor j
      move { s with et := { s.et with evict := sat16 s.et.evict 1 } } j
    | none, none => none

/-- An entry's base from a capture (R127). -/
def Anchor.rebase (a : Anchor) (g : Region) : Anchor :=
  { a with
    state := 2, baseCycle := g.cycle, baseErg := captureQ g.edge, baseTg := g.tg, baseN := g.nominal, based := false
    rebased := a.rebased || decide (a.state = 2) }

/-- A capture reaches the entry that waits for it (R127). A new base of an ACTIVE anchor is reported. A PENDING entry becomes ACTIVE as
its ANCHOR_ADD commits; one whose request has been given up meanwhile is FREE again, for that request has no effect (R301, Table 4-10). -/
def State.captured (s : State) (g : Region) (i : Nat) : State :=
  if (s.anchor i).state = 2 then (s.raise evAnchorRebased (s.anchorArg i)).modAnchor i fun a => a.rebase g
  else
    match s.findWait fun w => decide (w = .anchorAdd i) with
    | none => s.modAnchor i fun a => { gen := a.gen }
    | some m =>
      match s.seatAnchor i with
      | none => ((s.modAnchor i fun _ => {}).countFull).complete m (codeReply stFull)
      | some (j, s) =>
        (s.modAnchor j fun a => a.rebase g).complete m
          (okReply (toLE 2 (s.anchorId j) ++ zeros 6 ++ toLE 8 g.cycle ++ stampQ (captureQ g.edge)))

/-- ANCHOR_CAPTURE: at a period boundary outside a stop, or a restart, the waiting anchors of a region take their base from
one BASE and one TARGET record (R127). -/
def execAnchorCapture (r : RegionNo) (s : State) : Out :=
  let g := s.rgn r
  if g.capture.isEmpty ∨ !s.clocked r ∨ g.stop.isSome ∨ !g.rep.found then .next s
  else
    let s := s.markBase r g.cycle (captureValue g.edge) (targetValue g.tg g.nominal)
    let s := s.modRgn r fun g => { g with capture := [] }
    .next (g.capture.foldl (fun s i => s.captured g i) s)

/-- Entries from here on hold what no entry of the table holds yet: an ANCHOR_ADD that will evict, until it commits (R299). -/
def anchorSeats : Nat := 1024

/-- ANCHOR_ADD (R126, R128, Table 4-6). One that is to evict takes the idle anchor's entry when it commits (R299). -/
def cmdAnchorAdd (q : Req) (s : State) : Result :=
  match s.regionTarget q with
  | some r => refuse r s
  | none =>
    if 8191 < q.le 0 2 then refuse (badArg 0) s
    else if q.le 16 2 ≠ 0 ∧ (q.le 16 2 < 16 ∨ 4096 < q.le 16 2) then refuse (badArg 16) s
    else if 1 < q.u8 18 then refuse (badArg 18) s
    else if (s.rgn q.tgt).chan.st = .dead then refuse (codeReply stRefused) s
    else
      match s.xBlock (xId 4 q.tgt) with
      | some st => refuse (codeReply st) s
      | none =>
        let pins := (s.et.anchors.filter fun e => e.2.pinned).length
        if q.u8 18 = 1 ∧ 64 ≤ pins then refuse (codeReply stFull) s
        else
          match s.freeEntry with
          | some i => s.takeAnchor q i
          | none =>
            if !q.evict ∨ s.oldestIdle.isNone then .done (codeReply stFull) s.countFull
            else match (List.range 64).find? fun k => decide ((s.anchor (anchorSeats + k)).state = 0) with
              | some k => s.takeAnchor q (anchorSeats + k)
              | none => .done (codeReply stFull) s.countFull

/-- ANCHOR_ADD, the command (R126). -/
def execAnchorAdd (q : Req) (s : State) : Out := .next (s.submit 0x0402 cmdAnchorAdd q)

/-- ANCHOR_REMOVE: waits for a conversion's answer (R127, R130). DESIGN CHOICE (log 53): the ANCHOR_ADD whose entry is removed while it
is still PENDING is answered REFUSED. -/
def cmdAnchorRemove (q : Req) (s : State) : Result :=
  match s.anchorOf q.tgt with
  | none => refuse badTarget s
  | some i =>
    if (s.anchor i).busy ≠ 0 then .wait (.anchorRemove i) s
    else
      let waits := s.findWait fun w => decide (w = .anchorAdd i)
      let s := s.freeAnchor i
      .done okReply (match waits with
        | some m => s.complete m (codeReply stRefused)
        | none => s)

/-- ANCHOR_REMOVE, the command (R127). -/
def execAnchorRemove (q : Req) (s : State) : Out := .next (s.submit 0x0403 cmdAnchorRemove q)

/-- An entry's 64 bytes (Table 4-5). -/
def State.anchorBytes (s : State) (i : Nat) : Bytes :=
  let a := s.anchor i
  padTo 64 (toLE 2 (s.anchorId i) ++ toLE 1 a.state ++ toLE 1 (b2n a.pinned + 2 * b2n a.inexact + 4 * b2n a.rebased) ++
    toLE 2 a.region ++ toLE 2 a.owner.toNat ++ toLE 8 a.baseCycle ++ stampQ a.baseErg ++
    toLE 4 (targetValue a.baseTg a.baseN) ++ toLE 4 (a.cursor % ledgerSize) ++ toLE 8 a.lastUse ++ toLE 8 a.deadline ++
    toLE 2 a.reach ++ toLE 1 a.busy)

/-- ANCHOR_QUERY: the entry, and a touch (R128). -/
def cmdAnchorQuery (q : Req) (s : State) : Result :=
  match s.anchorOf q.tgt with
  | none => refuse badTarget s
  | some i => .done (okReply ((s.touch i).anchorBytes i)) (s.touch i)

/-- ANCHOR_QUERY, the command (R128). -/
def execAnchorQuery (q : Req) (s : State) : Out := .next (s.submit 0x0404 cmdAnchorQuery q)

/-- LEDGER_READ (R136). -/
def cmdLedgerRead (q : Req) (s : State) : Result :=
  let start := q.le 0 4
  let n := q.u8 4
  if ledgerSize ≤ start then refuse (badArg 0) s
  else if n = 0 ∨ 14 < n then refuse (badArg 4) s
  else .done (okReply (toLE 4 s.et.wptr ++ zeros 12 ++
    (List.range n).flatMap fun k => s.ringBytes ((start + k) % ledgerSize))) s

/-- LEDGER_READ, the command (R136). -/
def execLedgerRead (q : Req) (s : State) : Out := .next (s.submit 0x0406 cmdLedgerRead q)

end Sys2Proof.Machine
end

