-- ==== Sys2Proof/Machine/Registers.lean ====
section
/-! DEFINITION. The control fabric: the register blocks of Table 11-2, what a write of each register checks (02 R72) and does,
the _READ_FIELD and _WRITE_FIELD commands (11 R321), direct register writes, and the clear bits. -/
namespace Sys2Proof.Machine

/-! ### The map (Table 11-2) -/

/-- Register blocks by number [31:24] of the address, with the offset of their last byte. -/
def blockEnd (b : Nat) : Option Nat :=
  match b with
  | 1 => some 0x2C01FF
  | 2 => some 0x3F
  | 3 => some 0x3F
  | 4 => some 0x3DF
  | 5 => some 0x57F
  | 6 => some 0xC007F
  | 7 => some 0x6803F
  | 8 => some 0x6803F
  | 9 => some 0x3F
  | 10 => some 0x3F
  | _ => none

/-- A word that a block has: the block's own register at an offset, or a region's. -/
inductive Reg where
  | glob (block off : Nat)
  | rgn (block : Nat) (r : RegionNo) (off : Nat)
  deriving DecidableEq, Repr

/-- The register at an absolute address; none outside every block. -/
def regAt (a : Nat) : Option Reg :=
  let b := a / 2 ^ 24
  let o := a % 2 ^ 24 / 4 * 4
  match blockEnd b with
  | none => none
  | some e =>
    if e < o then none
    else if b = 1 then some (.rgn 1 (o / 64) (o % 64))
    else if b = 6 ∧ 0x10000 ≤ o then some (.rgn 6 ((o - 0x10000) / 16) (o % 16))
    else if (b = 7 ∨ b = 8) ∧ 0x10000 ≤ o then some (.rgn b ((o - 0x10000) / 8) (o % 8))
    else some (.glob b o)

/-- A register's value as a read of the fabric gives it: WO and reserved words, and words of a region that is invalid or not a
managed die's, read zero (R70, R321). -/
def State.regRead (s : State) : Reg → Nat
  | .rgn b r off =>
    if !s.regionExists r then 0
    else if b = 1 then s.rgnWord r off
    else if b = 6 then s.pbLink r (off / 4)
    else if b = 7 then (if off = 0 then s.calRstat r else s.calRage r)
    else s.oscHours r (decide (off = 4))
  | .glob b off =>
    match b with
    | 2 => s.hmWord off
    | 3 => s.ergWord off
    | 4 => s.optWord off
    | 5 => s.lsWord off
    | 6 => s.xgWord off
    | 7 => s.calWord off
    | 8 => s.snsWord off
    | 9 => s.ctlWord off
    | 10 => s.spWord off
    | _ => 0

/-- A word of the control fabric; zero where no block lies (R337). -/
def State.fabRead (s : State) (a : Nat) : Nat :=
  match regAt a with
  | some x => s.regRead x
  | none => 0

/-- How a register takes a write. -/
inductive Access where
  | ignored | reserved | ro | wo | rw
  deriving DecidableEq, Repr

/-- Access of a register (the Access columns of the block tables). -/
def Reg.access : Reg → Access
  | .rgn 1 _ off => if off ≤ 0x24 then .rw else if off ≤ 0x34 then .ro else if off = 0x38 then .wo else .reserved
  | .rgn _ _ _ => .ro
  | .glob 2 off => if off = 0 then .rw else if off ≤ 0x28 then .ro else if off = 0x2C then .wo else .reserved
  | .glob 3 off => if off = 0 then .rw else if off ≤ 0x24 then .ro else if off = 0x28 then .wo else .reserved
  | .glob 4 off =>
    if off ≤ 4 then .rw else if off ≤ 0x18 then .ro else if off = 0x1C then .wo else if off < 0x100 then .reserved
    else if off % 32 = 8 then .rw else if off % 32 = 0x1C then .reserved else .ro
  | .glob 5 off =>
    if off = 0 then .rw else if off ≤ 0x18 then .ro else if off = 0x1C then .wo else if off < 0x100 then .reserved
    else if off % 16 = 0 then .rw else .ro
  | .glob 6 off => if off = 0 ∨ off = 0x1C then .rw else if off ≤ 0x20 then .ro else if off = 0x24 then .wo else .reserved
  | .glob 7 off => if off ≤ 4 then .rw else if off ≤ 0x1C then .ro else if off = 0x20 then .wo else .reserved
  | .glob 8 off =>
    if off ≤ 0x10 then .rw else if off ≤ 0x20 then .ro else if off = 0x24 then .wo else if off < 0x1000 then .reserved
    else if off < 0x1200 then .ro else if 0x2000 ≤ off ∧ off < 0x2508 then .ro
    else if 0x3000 ≤ off ∧ off < 0x3800 then .ro else .reserved
  | .glob 9 off => if off = 0 then .rw else if off ≤ 0x24 then .ro else if off = 0x28 then .wo else .reserved
  | .glob 10 off => if off ≤ 8 then .rw else if off ≤ 0x2C then .ro else if off = 0x30 then .wo else .reserved
  | .glob _ _ => .reserved

/-! ### Checks (R72) -/

/-- Bits of a word outside some fields (hi, lo) are zero. -/
def onlyBits (w : Word) (fs : List (Nat × Nat)) : Bool :=
  (List.range 32).all fun i => !bitOf w i || fs.any fun f => decide (f.2 ≤ i ∧ i ≤ f.1)

/-- A field lies in a range. -/
def inR (w : Word) (hi lo a b : Nat) : Bool := decide (a ≤ fld w hi lo ∧ fld w hi lo ≤ b)

/-- A write of a region's register is within its ranges, orderings and layout (Table 2-10). -/
def State.checkRgn (s : State) (r : RegionNo) (off : Nat) (w : Word) : Bool :=
  let f (hi lo : Nat) : Nat := fld w hi lo
  if off = 0x00 then
    onlyBits w [(8, 0)] && (List.range 4).all fun k =>
      !bitOf w (4 + k) ||
        let pr := if k / 2 = 0 then (s.rgn r).regs.pair0.img else (s.rgn r).regs.pair1.img
        validRegion (if k % 2 = 0 then fld pr 15 0 else fld pr 31 16)
  else if off = 0x04 then onlyBits w [(16, 16), (12, 0)] && inR w 12 0 160 1280
  else if off = 0x08 then
    onlyBits w [(15, 0)] && decide (f 15 8 ≤ 127) && decide (-63 ≤ signed 8 (f 7 0) ∧ signed 8 (f 7 0) ≤ 0)
  else if off = 0x0C then decide (0 < f 7 0 ∧ f 7 0 < f 15 8 ∧ f 15 8 < f 23 16 ∧ f 23 16 < f 31 24)
  else if off = 0x10 then decide (f 7 0 ≤ f 15 8 ∧ f 15 8 ≤ f 23 16 ∧ f 23 16 ≤ f 31 24 ∧ f 31 24 ≤ 48)
  else if off = 0x14 then
    onlyBits w [(21, 16), (11, 8), (7, 0)] && inR w 21 16 0 48 && inR w 11 8 1 15 && inR w 7 0 1 255
  else if off = 0x18 then onlyBits w [(7, 0)] && inR w 7 0 1 255
  else if off = 0x1C then onlyBits w [(23, 0)] && decide (f 15 8 < f 23 16)
  else if off = 0x38 then onlyBits w [(1, 0)]
  else true

/-- A write of a block's own register is within its ranges, orderings and layout. -/
def State.checkGlob (s : State) (b off : Nat) (w : Word) : Bool :=
  let f (hi lo : Nat) : Nat := fld w hi lo
  match b with
  | 2 => if off = 0 then onlyBits w [(15, 8), (2, 2), (0, 0)] && inR w 15 8 1 255 else onlyBits w [(0, 0)]
  | 3 =>
    if off = 0 then onlyBits w [(28, 8), (2, 0)] && inR w 28 16 16 4096 && inR w 15 8 1 255 && decide (f 1 0 ≠ 3)
    else onlyBits w [(0, 0)]
  | 4 =>
    if off = 0 then onlyBits w [(31, 8), (1, 0)] && inR w 31 16 10 65535 && inR w 15 8 1 64
    else if off = 4 then onlyBits w [(15, 0)] && inR w 15 8 1 80 && inR w 7 0 1 80 && decide (f 7 0 < f 15 8)
    else if off = 0x1C then onlyBits w [(0, 0)]
    else onlyBits w [(13, 12), (10, 8), (5, 4), (2, 0)] && inR w 10 8 0 4 && inR w 2 0 0 6
  | 5 =>
    if off = 0 then
      onlyBits w [(31, 8), (1, 0)] && inR w 31 24 1 255 && inR w 23 16 10 100 && inR w 15 8 1 100
    else if off = 0x1C then onlyBits w [(0, 0)]
    else
      let i := (off - 0x100) / 16
      onlyBits w [(7, 4), (2, 0)] && (bitOf w 0 || !(s.synth i).en || !s.portLive i || bitOf w 2 || s.synthBusy i)
  | 6 =>
    if off = 0 then onlyBits w [(7, 4), (0, 0)] && inR w 7 4 1 15
    else if off = 0x1C then s.xExists w.toNat
    else onlyBits w [(1, 0)]
  | 7 =>
    if off = 0 then onlyBits w [(31, 10), (3, 0)] && inR w 23 16 1 64 && inR w 15 10 1 32
    else if off = 4 then onlyBits w [(31, 16), (7, 0)] && inR w 31 16 16 65535 && inR w 7 0 1 255
    else onlyBits w [(0, 0)]
  | 8 =>
    if off = 0 then onlyBits w [(31, 16), (1, 0)] && inR w 31 24 20 100 && inR w 23 16 1 50
    else if off = 4 then
      inR w 31 24 60 125 && decide (f 7 0 < f 15 8 ∧ f 15 8 < f 23 16 ∧ f 23 16 < f 31 24)
    else if off = 8 then
      onlyBits w [(28, 16), (12, 0)] && inR w 28 16 160 1280 && inR w 12 0 160 1280 && decide (f 12 0 ≤ f 28 16)
    else if off = 0xC then inR w 31 16 1 65535 && inR w 15 0 1 65535
    else if off = 0x10 then onlyBits w [(16, 0)]
    else onlyBits w [(0, 0)]
  | 9 => if off = 0 then onlyBits w [(15, 8), (1, 0)] && inR w 15 8 1 255 else onlyBits w [(0, 0)]
  | 10 =>
    if off = 0 then onlyBits w [(31, 8), (2, 0)] && inR w 31 24 1 255 && inR w 23 16 32 255 && inR w 15 8 1 255
    else if off = 4 then inR w 31 16 1 65535 && inR w 15 0 1 65535
    else if off = 8 then onlyBits w [(15, 0)] && inR w 15 0 1 65535
    else onlyBits w [(0, 0)]
  | _ => true

/-- A write that R72 accepts. -/
def State.checkReg (s : State) : Reg → Word → Bool
  | .rgn 1 r off, w => s.checkRgn r off w
  | .rgn _ _ _, _ => true
  | .glob b off, w => s.checkGlob b off w

/-! ### Clears -/

/-- Counters of MB_HM_CLEAR (Table 3-13). -/
def State.clearHm (s : State) : State :=
  { s with hm := { s.evalNow.hm with
    accept := 0, merge := 0, reject := 0, stale := 0, sat := 0, faults := 0, overruns := 0 } }

/-- CLEAR_HM_COUNTERS (R100). -/
def execClearHmCounters (s : State) : Out := .next s.clearHm

/-- Counters of MB_XING_CLEAR bit 0 (Table 7-9). -/
def State.clearXing (s : State) : State :=
  { s with xg := { s.xg with
    stalls := 0, torns := 0, drops := 0, slips := 0
    lane := s.xg.lane.foldl (fun m e => Map.put {} m e.1 { e.2 with slips := 0 }) [] } }

/-- CLEAR_XING_COUNTERS (R221). -/
def execClearXingCounters (s : State) : Out := .next s.clearXing

/-- DROP of the selected crossing cleared: MB_XING_CLEAR bit 1 (Table 7-9). -/
def State.clearDrop (s : State) : State :=
  let id := s.xg.sel.toNat
  if !s.xExists id then s
  else if xClass id = 9 then s.modLane (xInst id) (xLink id) fun l => { l with drop := 0 }
  else s.modXing id fun x => { x with drop := 0 }

/-- CLEAR_XING_DROP (R221). -/
def execClearXingDrop (s : State) : Out := .next s.clearDrop

/-- Counters of MB_CAL_CLEAR (Table 8-12). -/
def State.clearCal (s : State) : State :=
  { s with cal := { s.cal with runs := 0, disagree := 0, void := 0, retired := 0, stFail := 0, stPass := 0 } }

/-- MB_CAL_CLEAR written: it takes effect at the next window boundary, as every write of the block does (R249). -/
def State.askClearCal (s : State) : State :=
  match s.cal.clearAt with
  | none => { s with cal := { s.cal with clearAt := some s.now } }
  | some t => if t / 256 < s.now / 256 then { s.clearCal with cal := { s.clearCal.cal with clearAt := some s.now } } else s

/-- CLEAR_CAL_COUNTERS: MB_CAL_CLEAR is written (R249). -/
def execClearCalCounters (s : State) : Out := .next s.askClearCal

/-- MB_SNS_EVCNT cleared (Table 9-7). -/
def State.clearSns (s : State) : State := { s with sns := { s.sns with disagree := 0, faults := 0 } }

/-- MB_SNS_CLEAR written: it takes effect at the next frame end, as every write of the block but the budget's does (R275). -/
def State.askClearSns (s : State) : State :=
  match s.sns.clearAt with
  | none => { s with sns := { s.sns with clearAt := some s.now } }
  | some t => if t / 65536 < s.now / 65536 then { s.clearSns with sns := { s.clearSns.sns with clearAt := some s.now } } else s

/-- CLEAR_SNS_COUNTERS: MB_SNS_CLEAR is written (R275). -/
def execClearSnsCounters (s : State) : Out := .next s.askClearSns

/-- Counters of MB_SPAN_CLEAR (Table 14-13). -/
def State.clearSpan (s : State) : State :=
  let f (p : SpanPort) : SpanPort := { p with accept := 0, authRej := 0, boundRej := 0 }
  { s with sp := { s.sp with p0 := f s.sp.p0, p1 := f s.sp.p1 } }

/-- CLEAR_SPAN_COUNTERS (R406). -/
def execClearSpanCounters (s : State) : Out := .next s.clearSpan

/-- Counters of MB_CTL_CLEAR (Table 10-16). -/
def State.clearCtl (s : State) : State := { s with ctl := { s.ctl with ce := 0, ue := 0, spared := 0 } }

/-- CLEAR_CTL_COUNTERS (R311). -/
def execClearCtlCounters (s : State) : Out := .next s.clearCtl

/-- MB_RGN_EVCNT cleared; both counts are the region's, and the copy follows (R71). -/
def State.clearEvcnt (s : State) (r : RegionNo) : State :=
  s.modRgn r fun g => { g with overCnt := 0, rangeCnt := 0, roEvcnt := 0 }

/-- CLEAR_RGN_EVCNT (R71). -/
def execClearRgnEvcnt (r : RegionNo) (s : State) : Out :=
  if s.regionExists r then .next (s.clearEvcnt r) else .next s

/-- MB_RGN_STRETCH_CNT cleared (R71). -/
def State.clearStretch (s : State) (r : RegionNo) : State :=
  s.modRgn r fun g => { g with stretchCnt := 0, roStretch := 0 }

/-- CLEAR_RGN_STRETCH_CNT (R71). -/
def execClearRgnStretchCnt (r : RegionNo) (s : State) : Out :=
  if s.regionExists r then .next (s.clearStretch r) else .next s

/-! ### Writes -/

/-- MB_RGN_CTRL: SLOOP_EN and FLOOP_EN act by Table 2-8, the rest at its boundary (R73). A change of SLOOP_EN that is already due at the
period boundary in progress stays due, and the new one waits for the boundary after it (R421). -/
def Region.writeCtrl (g : Region) (now : Nat) (w : Word) : Region :=
  let old := g.regs.ctrl.img
  let g := { g with regs := { g.regs with ctrl := g.regs.ctrl.write now w } }
  let g :=
    if bitOf w 0 ∧ !bitOf old 0 then
      { g with sl := { g.sl with toFixed := g.loopDue, toIdle := g.loopDue || decide (g.sl.st = .fixed), askedOn := now } }
    else if !bitOf w 0 ∧ bitOf old 0 then
      { g with sl := { g.sl with toIdle := g.idleDue, toFixed := g.idleDue || decide (g.sl.st ≠ .fixed), asked := now } }
    else g
  if bitOf w 1 ∧ !bitOf old 1 then { g with fl := { g.fl with fast := 4 } }
  else if !bitOf w 1 ∧ bitOf old 1 then { g with fl := { g.fl with flock := false, drift := 0 } }
  else g

/-- A region's register written as from instant n, checked already. -/
def State.writeRgnAt (s : State) (n : Nat) (r : RegionNo) (off : Nat) (w : Word) : State :=
  let put (f : RgnRegs → RgnRegs) : State := s.modRgn r fun g => { g with regs := f g.regs }
  if off = 0x00 then
    let was := (s.rgn r).floopEn
    let s := s.modRgn r fun g => g.writeCtrl n w
    s.raiseIf (was && !bitOf w 1) evRegionUnlock r
  else if off = 0x04 then s.sendCode r (fld w 12 0)
  else if off = 0x08 then put fun x => { x with trimlim := x.trimlim.write n w }
  else if off = 0x0C then put fun x => { x with thresh := x.thresh.write n w }
  else if off = 0x10 then put fun x => { x with sval := x.sval.write n w }
  else if off = 0x14 then put fun x => { x with stiming := x.stiming.write n w }
  else if off = 0x18 then put fun x => { x with budget := x.budget.write n w }
  else if off = 0x1C then put fun x => { x with floop := x.floop.write n w }
  else if off = 0x20 then put fun x => { x with pair0 := x.pair0.write n w }
  else if off = 0x24 then put fun x => { x with pair1 := x.pair1.write n w }
  else if off = 0x38 then
    let s := if bitOf w 0 then s.clearEvcnt r else s
    if bitOf w 1 then s.clearStretch r else s
  else s

/-- A region's register written now: the engine's image takes it, and a REGWRITE message forwards it to the region's side; a crossing
that is not whole is presented the image at its release (R189, R190, R207). -/
def State.writeRgn (s : State) (r : RegionNo) (off : Nat) (w : Word) : State :=
  let t := s.writeRgnAt s.now r off w
  if off ≠ 0x04 ∧ off < 0x28 ∧ s.xState (xId 4 r) = .whole then t.sendMsg r (.regwrite off w) else t

/-- The package budget written: RECEIVED is set, and the time runs for staleness (R263, R264, R275). -/
def State.writeBudget (s : State) (w : Word) : State :=
  { s with sns := { s.sns with
    budget := s.sns.budget.write s.now (word (fld w 15 0)), recv := true, recvAt := some (s.sns.recvAt.getD s.now)
    budgetAt := some s.now, budgetStale := false } }

/-- MB_SNS_BUDGET_WRITE (R263). -/
def execMbSnsBudgetWrite (w : Word) (s : State) : Out :=
  if s.sys.pkgReset ∨ !s.checkGlob 8 0x10 w then .next s else .next (s.writeBudget w)

/-- A controller takes mastership (steps 2 and 6 of Tables 10-2 and 12-7). -/
def State.promote (s : State) (c : Bool) : State :=
  let s := s.modCtrl c fun x => { x with st := .active, beat := s.now, copying := false, loadFrom := none }
  { s with ctl := { s.ctl with activeId := c }, mbx := { s.mbx with fwVer := (s.ctrl c).version } }

/-- A controller is STANDBY: EV_CTRL_STANDBY_READY; it stops being RETIRED; under hold cause 4 it takes over (R279, R280, R422). -/
def State.standbyReady (s : State) (c : Bool) : State :=
  let s := s.modCtrl c fun x => { x with
    st := .standby, beat := s.now, copying := false, loadFrom := none, wasRetired := false, verified := true }
  let s := (s.mlbClear (.retired (b2n c))).raise evCtrlStandbyReady (b2n c)
  if s.sys.hold = 4 ∧ s.active.isNone then
    let s := s.promote c
    { s with ctl := { s.ctl with takeover := true } }
  else s

/-- STANDBY_EN set again lets a verified controller that is held in LOADING become STANDBY (Table 10-16). -/
def State.standbyFree (s : State) : State :=
  [false, true].foldl (fun s c => if (s.ctrl c).st = .loading ∧ (s.ctrl c).verified then s.standbyReady c else s) s

/-- A block's own register written, checked already. -/
def State.writeGlob (s : State) (b off : Nat) (w : Word) : State :=
  let n := s.now
  match b with
  | 2 =>
    if off = 0 then { s with hm := { s.hm with ctrl := s.hm.ctrl.write n w } }
    else if off = 0x2C ∧ bitOf w 0 then s.clearHm else s
  | 3 =>
    if off = 0 then { s with et := { s.et with ctrl := s.et.ctrl.write n w } }
    else if off = 0x28 ∧ bitOf w 0 then s.clearErg else s
  | 4 =>
    if off = 0 then { s with opt := { s.opt with ctrl := s.opt.ctrl.write n w } }
    else if off = 4 then { s with opt := { s.opt with power := s.opt.power.write n w } }
    else if off = 0x1C then (if bitOf w 0 then s.clearOpt else s)
    else if 0x100 ≤ off ∧ off % 32 = 8 then s.modSite ((off - 0x100) / 32) fun x => { x with dsel := w }
    else s
  | 5 =>
    if off = 0 then { s with ls := { s.ls with gctrl := w } }
    else if off = 0x1C then (if bitOf w 0 then s.clearLs else s)
    else if 0x100 ≤ off ∧ off % 16 = 0 then
      let i := (off - 0x100) / 16
      match (s.modSynth i fun y => { y with bw := fld w 7 4 }).writeEn i (bitOf w 0) (bitOf w 2) with
      | some t => t.writePin i (bitOf w 1)
      | none => s
    else s
  | 6 =>
    if off = 0 then { s with xg := { s.xg with ctrl := s.xg.ctrl.write n w } }
    else if off = 0x1C then { s with xg := { s.xg with sel := w } }
    else if off = 0x24 then
      let s := if bitOf w 1 then s.clearDrop else s
      if bitOf w 0 then s.clearXing else s
    else s
  | 7 =>
    if off = 0 then { s with cal := { s.cal with ctrl := s.cal.ctrl.write n w } }
    else if off = 4 then { s with cal := { s.cal with gap := s.cal.gap.write n w } }
    else if off = 0x20 ∧ bitOf w 0 then s.askClearCal else s
  | 8 =>
    if off = 0 then { s with sns := { s.sns with ctrl := s.sns.ctrl.write n w } }
    else if off = 4 then { s with sns := { s.sns with thresh := s.sns.thresh.write n w } }
    else if off = 8 then { s with sns := { s.sns with ceil := s.sns.ceil.write n w } }
    else if off = 0xC then { s with sns := { s.sns with wearctl := s.sns.wearctl.write n w } }
    else if off = 0x10 then s.writeBudget w
    else if off = 0x24 ∧ bitOf w 0 then s.askClearSns else s
  | 9 =>
    if off = 0 then
      let s := { s with ctl := { s.ctl with ctrl := w } }
      if bitOf w 0 then s.standbyFree else s
    else if off = 0x28 ∧ bitOf w 0 then s.clearCtl else s
  | 10 =>
    if off = 0 then { s with sp := { s.sp with ctrl := s.sp.ctrl.write n w } }
    else if off = 4 then { s with sp := { s.sp with bounds := s.sp.bounds.write n w } }
    else if off = 8 then { s with sp := { s.sp with host := s.sp.host.write n w } }
    else if off = 0x30 ∧ bitOf w 0 then s.clearSpan else s
  | _ => s

/-- A register written, checked already; a word of a region that does not exist is ignored (R70). -/
def State.regWrite (s : State) : Reg → Word → State
  | .rgn b r off, w => if b = 1 ∧ s.regionExists r then s.writeRgn r off w else s
  | .glob b off, w => s.writeGlob b off w

/-- Whether a write falls on a word that is ignored without a check (R70, R321). -/
def State.ignores (s : State) : Reg → Bool
  | .rgn _ r _ => !s.regionExists r
  | .glob _ _ => false

/-! ### _READ_FIELD and _WRITE_FIELD (R321) -/

/-- Bytes of words read from a block. -/
def State.fabWords (s : State) (a n : Nat) : Bytes := (List.range n).flatMap fun i => toLE 4 (s.fabRead (a + 4 * i))

/-- OFFSET and COUNT of a register access command; the reply that refuses them. -/
def fieldRange (block most : Nat) (q : Req) : Option Reply :=
  let off := q.le 0 4
  let n := q.le 4 2
  if off % 4 ≠ 0 then some (badArg 0)
  else if n = 0 ∨ most < n then some (badArg 4)
  else if (blockEnd block).getD 0 < off + 4 * n - 1 then some (badArg 0)
  else none

/-- A _READ_FIELD of a block. -/
def cmdReadField (block : Nat) (q : Req) (s : State) : Result :=
  match fieldRange block 60 q with
  | some r => refuse r s
  | none => .done (okReply (s.fabWords (block * 2 ^ 24 + q.le 0 4) (q.le 4 2))) s

/-- A word of a write is acceptable where it falls. -/
def State.acceptsWord (s : State) (a : Nat) (w : Word) : Bool :=
  match regAt a with
  | none => false
  | some x =>
    s.ignores x ||
      match x.access with
      | .rw => s.checkReg x w
      | .wo => s.checkReg x w
      | _ => false

/-- A word commands a region's period below its MIN_CODE: an expert request that R69 refuses, FORCE being defined for
REGION_SET_PERIOD alone (Table 11-4). The code that the register shows may be written back (R72). -/
def State.belowMin (s : State) (a : Nat) (w : Word) : Bool :=
  match regAt a with
  | some (.rgn 1 r 0x04) =>
    s.regionExists r && decide (fld w 12 0 < (s.rgn r).minCode) && decide (fld w 12 0 ≠ s.rgnWord r 0x04 % 8192)
  | _ => false

/-- A write that clears EN during a rate change or an insertion on its synthesizer (R182). -/
def State.busyEn (s : State) (a : Nat) (w : Word) : Bool :=
  match regAt a with
  | some (.glob 5 off) =>
    let i := (off - 0x100) / 16
    decide (0x100 ≤ off ∧ off % 16 = 0) && !bitOf w 0 && (s.synth i).en && s.synthBusy i
  | _ => false

/-- The crossing that keeps a word from its region: the first region of a write whose state crossing is fenced or torn. -/
def State.writeBlock (s : State) (block a n : Nat) : Option Nat :=
  if block ≠ 1 then none
  else (List.range n).findSome? fun i =>
    match regAt (a + 4 * i) with
    | some (.rgn _ r _) => if s.regionExists r then s.xBlock (xId 4 r) else none
    | _ => none

/-- REGION_READ_FIELD (R321). -/
def execRegionReadField (q : Req) (s : State) : Out := .next (s.submit 0x0203 (cmdReadField 1) q)
/-- HAWKMOTH_READ_FIELD (R321). -/
def execHawkmothReadField (q : Req) (s : State) : Out := .next (s.submit 0x0306 (cmdReadField 2) q)
/-- ERG_READ_FIELD (R321). -/
def execErgReadField (q : Req) (s : State) : Out := .next (s.submit 0x0407 (cmdReadField 3) q)
/-- OPTIC_READ_FIELD (R321). -/
def execOpticReadField (q : Req) (s : State) : Out := .next (s.submit 0x0504 (cmdReadField 4) q)
/-- SYNTH_READ_FIELD (R321). -/
def execSynthReadField (q : Req) (s : State) : Out := .next (s.submit 0x0603 (cmdReadField 5) q)
/-- CROSS_READ_FIELD (R321). -/
def execCrossReadField (q : Req) (s : State) : Out := .next (s.submit 0x0705 (cmdReadField 6) q)
/-- CAL_READ_FIELD (R321). -/
def execCalReadField (q : Req) (s : State) : Out := .next (s.submit 0x0805 (cmdReadField 7) q)
/-- SENSE_READ_FIELD (R321). -/
def execSenseReadField (q : Req) (s : State) : Out := .next (s.submit 0x0907 (cmdReadField 8) q)
/-- SPAN_READ_FIELD (R321). -/
def execSpanReadField (q : Req) (s : State) : Out := .next (s.submit 0x0B06 (cmdReadField 10) q)
/-- SIROCCO_READ_FIELD (R321). -/
def execSiroccoReadField (q : Req) (s : State) : Out := .next (s.submit 0x0C03 (cmdReadField 9) q)

/-! ### Registers of the management window (Table 10-6) -/

/-- MB_IRQ_STATUS: write of 1 clears. -/
def State.irqClear (s : State) (w : Word) : State := { s with mbx := { s.mbx with irq := s.mbx.irq &&& ~~~w } }

/-- A window register written; one whose reserved bits are not zero is rejected whole (R17), and read-only and unlisted words ignore
the write. Doorbells and request buffers are rows of their
own. -/
def State.windowWrite (s : State) (off : Nat) (w : Word) : State :=
  if (off = 0x1110 ∨ off = 0x1114) ∧ !onlyBits w [(11, 0)] then s
  else if off = 0x1110 then s.irqClear w
  else if off = 0x1114 then { s with mbx := { s.mbx with irqEn := w } }
  else if off = 0x1118 then { s with mbx := { s.mbx with done := s.mbx.done &&& ~~~w } }
  else s

end Sys2Proof.Machine
end

