-- ==== Sys2Proof/Machine/Calibration.lean ====
section
/-! DEFINITION. Calibration and self-test: runs, their judgement and acceptance, triggers, slots, gap mode, suspect episodes
and self-tests (08_calibration.md), with the commands of 11 R332. -/
namespace Sys2Proof.Machine

/-! ### Register fields in force -/

/-- AGE in ns; 0 disables. -/
def State.calAge (s : State) : Nat := fld s.cal.ctrl.eff 31 24 * 10000000000
/-- SLOTS. -/
def State.calSlots (s : State) : Nat := fld s.cal.ctrl.eff 23 16
/-- DT in temperature codes. -/
def State.calDt (s : State) : Nat := fld s.cal.ctrl.eff 15 10 * 8
/-- GAP_QUIET. -/
def State.gapQuiet (s : State) : Bool := bitOf s.cal.ctrl.eff 3
/-- GAP_MODE. -/
def State.gapMode (s : State) : Bool := bitOf s.cal.ctrl.eff 2
/-- SELFTEST_EN. -/
def State.selftestEn (s : State) : Bool := bitOf s.cal.ctrl.eff 1
/-- AUTO_EN. -/
def State.calAuto (s : State) : Bool := bitOf s.cal.ctrl.eff 0
/-- GAP_WAIT in windows. -/
def State.gapWait (s : State) : Nat := fld s.cal.gap.eff 31 16
/-- SELFTEST_MIN in ns. -/
def State.selftestNs (s : State) : Nat := fld s.cal.gap.eff 7 0 * 60000000000

/-! ### Runs (R230-R232) -/

/-- MIN of a run or reduced run: ceil(16 x d_ref / 15) with d_ref = d - KV x (VREF - V) / 256, d in eighths of a code
unit (Table 8-7 step 3). -/
def minCodeOf (d kv vref supply : Nat) : Nat :=
  (-(fdiv (-(16 * (32 * (d : Int) - kv * ((vref : Int) - supply)))) 3840)).toNat

/-- The supply lies within 30 mV of VREF (R231). -/
def supplyOk (vref supply : Nat) : Bool := decide (((vref : Int) - supply).natAbs ≤ 30)

/-- A full run's periods are usable: every P0 exceeds its P1 (R231). -/
def runFalls (x : RunResult) : Bool :=
  (List.range 3).all fun k => decide (x.periods.getD (2 * k + 1) 0 < x.periods.getD (2 * k) 0)

/-- Two runs agree (R232). -/
def RunRec.agree (x y : RunRec) : Bool :=
  ((List.range 6).all fun i => decide (((x.periods.getD i 0 : Int) - y.periods.getD i 0).natAbs ≤ 16)) &&
    decide (((x.min : Int) - y.min).natAbs ≤ 2) && decide ((x.temp - y.temp).natAbs ≤ 16)

/-- Two reduced runs agree (R243). -/
def RedRec.agree (x y : RedRec) : Bool :=
  decide ((x.delta - y.delta).natAbs ≤ 16) && decide (((x.min : Int) - y.min).natAbs ≤ 2)

/-- What a sequence of runs of one oscillator comes to: more runs are needed, two agree, or a triple disagrees (R232). -/
inductive Verdict (α : Type) where
  | more
  | pair (x y : α)
  | disagree
  deriving DecidableEq, Repr

/-- The judgement of R232: runs 1 and 2; then 2 and 3, or 1 and 3. -/
def judge {α : Type} (agree : α → α → Bool) : List α → Verdict α
  | [x, y] => if agree x y then .pair x y else .more
  | [x, y, z] => if agree y z then .pair y z else if agree x z then .pair x z else .disagree
  | _ => .more

/-! ### Acceptance (R233) -/

/-- The points that bracket a temperature. -/
def bracket (t : Int) : List Nat :=
  if t ≤ 320 then [0]
  else if 1760 ≤ t then [7]
  else if tempPoints.getD (lowPoint t) 0 = t then [lowPoint t] else [lowPoint t, lowPoint t + 1]

/-- A period value moved, as an unsigned 16-bit value. -/
def movePeriod (v : Nat) (d : Int) : Nat := unsigned 16 ((v : Int) + d)

/-- A minimum code moved, as a 13-bit value. -/
def moveMin (v : Nat) (d : Int) : Nat := unsigned 13 ((v : Int) + d)

/-- A point with corrections added to one oscillator's values. -/
def CalPoint.move (p : CalPoint) (oscB : Bool) (dp : List Int) (dm : Int) : CalPoint :=
  let go (v : List Nat) : List Nat := (List.range 6).map fun i => movePeriod (v.getD i 0) (dp.getD i 0)
  if oscB then { p with b := go p.b, minB := moveMin p.minB dm } else { p with a := go p.a, minA := moveMin p.minA dm }

/-- Corrections added at the points that bracket T, with the marks of an acceptance. The oscillator's suspect episode ends
(R233, R234). -/
def CalSet.accept (c : CalSet) (oscB : Bool) (t : Int) (dp : List Int) (dm : Int) (now : Nat) : CalSet :=
  let ks := bracket t
  let ends := c.suspect && decide (c.suspectB = oscB)
  { c with
    points := (List.range 8).map fun k =>
      let p := c.points.getD k ⟨[], [], 0, 0⟩
      if ks.contains k then p.move oscB dp dm else p
    measured := ks.foldl (fun m k => m ||| BitVec.ofNat 16 (2 ^ (k + if oscB then 8 else 0))) c.measured
    tLast := t, ergLast := now, runs := sat16 c.runs 1
    suspect := c.suspect && !ends, suspectB := c.suspectB && !ends, episodes := if ends then 0 else c.episodes }

/-- A set interpolated for one oscillator: six periods and MIN. -/
def CalSet.at_ (c : CalSet) (oscB : Bool) (t : Int) : List Nat × Nat :=
  let w := c.work t
  if oscB then (w.b, w.minB) else (w.a, w.minA)

/-- An agreeing pair accepted into a set (R233). -/
def CalSet.acceptPair (c : CalSet) (oscB : Bool) (x y : RunRec) (now : Nat) : CalSet :=
  let t := fdiv (x.temp + y.temp + 1) 2
  let (v, m) := c.at_ oscB t
  let dp := (List.range 6).map fun i =>
    fdiv ((x.periods.getD i 0 : Int) + y.periods.getD i 0 + 1) 2 - (v.getD i 0 : Int)
  c.accept oscB t dp ((max x.min y.min : Nat) - (m : Int)) now

/-- An agreeing pair of reduced runs accepted: the mean correction on both ends of the range, and MIN (R243). DESIGN CHOICE (log 65): where
the two were measured in different ranges the spec names neither; the first run's range is corrected. -/
def CalSet.acceptReduced (c : CalSet) (oscB : Bool) (x y : RedRec) (now : Nat) : CalSet :=
  let t := fdiv (x.temp + y.temp + 1) 2
  let (_, m) := c.at_ oscB t
  let d := fdiv (x.delta + y.delta + 1) 2
  let dp := (List.range 6).map fun i => if i / 2 = x.range then d else 0
  c.accept oscB t dp ((max x.min y.min : Nat) - (m : Int)) now

/-- The region is suspect no longer, where its set says so. -/
def State.suspectSync (s : State) (r : RegionNo) : State :=
  { s with cal := { s.cal with suspect := if (s.setFor r).suspect then addKey r s.cal.suspect else dropKey r s.cal.suspect } }

/-- An acceptance written for a region, and the working set due (R229, R233). -/
def State.accepted (s : State) (r : RegionNo) (c : CalSet) : State :=
  let s := ((s.putSetFor r c).suspectSync r).modRgn r fun g => { g with wsDue := true }
  s.workingSet r

/-! ### Failures of an oscillator (R234, R245) -/

/-- Event argument of R417: region, oscillator, test row counted from 1. -/
def calArg (r : RegionNo) (oscB : Bool) (row : Nat) : Nat := r + at_ (b2n oscB) 16 + at_ row 17

/-- Row of Table 8-10. -/
def testRow : SelfTest → Nat
  | .coverage => 1
  | .biasDac => 2
  | .tapLine => 3
  | .replica => 4
  | .tdc => 5

/-- Tests that leave the oscillator undisturbed (Table 8-10). -/
def testQuiet : SelfTest → Bool
  | .coverage => false
  | .biasDac => false
  | _ => true

/-- A standby or busy twin fails: SINGLE without a takeover (R66). -/
def State.failTwin (s : State) (r : RegionNo) : State :=
  let c := (s.rgn r).cal
  let s := if c.ending then s.calLeave r .accepted else if c.phase = 4 then s.calGapOn r else s
  s.modRgn r fun g => { g with
    swap := none
    chan := { g.chan with twin := .failed, locked := false, reloadWin := none, st := if g.chan.st = .dead then .dead else .single } }

/-- An oscillator fails a test: EV_ST_FAIL. The twin is failed; an active oscillator has failed as a channel: the twin takes
over, at the restart of a stop that is open, or the region is DEAD (R61, R65, R66, R245). -/
def State.failOsc (s : State) (r : RegionNo) (oscB : Bool) (t : SelfTest) : State :=
  let g := s.rgn r
  let s := s.raise evStFail (calArg r oscB (testRow t))
  if oscB ≠ g.chan.activeB then s.failTwin r
  else if !g.chan.hasTwin then s.regionDie r
  else if g.stop.isSome then s.modRgn r fun g => { g with stop := g.stop.map fun x => { x with failed := true } }
  else s.openStop r 2 g.nominal true

/-- A suspect episode on an oscillator: its values stay, triggers are ignored for 16,384 windows, and a third episode retires
it; an active one waits for its planned swap (R234). -/
def State.suspectEpisode (s : State) (r : RegionNo) (oscB : Bool) : State :=
  let c := s.setFor r
  let n := min 3 (c.episodes + 1)
  let s := (s.putSetFor r { c with suspect := true, suspectB := oscB, episodes := n }).suspectSync r
  let s := s.raise evCalSuspect (calArg r oscB 0)
  let s := s.modRgn r fun g => { g with cal := { g.cal with holdOff := s.win + 16384 } }
  if n = 3 ∧ oscB ≠ (s.rgn r).chan.activeB ∧ (s.rgn r).chan.hasTwin then
    let s := s.failTwin r
    ({ s with cal := { s.cal with retired := sat16 s.cal.retired 1 } } : State).raise evCalOscRetired (calArg r oscB 0)
  else s

/-! ### Void and disagreeing runs (R231, R232) -/

/-- VOID_CNT takes runs. -/
def State.voids (s : State) (n : Nat) : State := { s with cal := { s.cal with void := sat16 s.cal.void n } }

/-- What a run gathered is dropped for the next one, whose windows in gap mode count from now (R243). -/
def RgnCal.nextRun (c : RgnCal) (win : Nat) : RgnCal :=
  { c with gapWins := 0, gapNow := none, gapStart := c.gapStart.map fun _ => win }

/-- A void run: the fourth in a row of one oscillator ends the region's calibration for 64 windows (R231). -/
def State.voidRun (s : State) (r : RegionNo) (oscB : Bool) : State :=
  let n := (s.rgn r).cal.voids + 1
  let s := s.voids 1
  if n < 4 then s.modRgn r fun g => { g with cal := { g.cal with voids := n }.nextRun s.win }
  else
    let s := s.raise evCalVoid (calArg r oscB 0)
    let s := s.modRgn r fun g => { g with cal := { g.cal with retryWin := s.win + 64 } }
    s.calLeave r .void

/-- Disagreeing triples in a row of an oscillator. -/
def RgnCal.triples (c : RgnCal) (oscB : Bool) : Nat := if oscB then c.triplesB else c.triplesA

/-- Disagreeing triples in a row set. -/
def RgnCal.setTriples (c : RgnCal) (oscB : Bool) (n : Nat) : RgnCal :=
  if oscB then { c with triplesB := n } else { c with triplesA := n }

/-- A disagreeing triple counted; the second in a row of one oscillator starts an episode. Second component: whether it did. -/
def State.disagreed (s : State) (r : RegionNo) (oscB : Bool) : State × Bool :=
  let n := (s.rgn r).cal.triples oscB + 1
  let s := { s with cal := { s.cal with disagree := sat16 s.cal.disagree 1 } }
  let s := s.modRgn r fun g => { g with cal := (({ g.cal with runs := [], reduced := [] } : RgnCal).nextRun s.win).setTriples oscB (n % 2) }
  if n = 2 then (s.suspectEpisode r oscB, true) else (s, false)

/-- Runs of a sequence with a new one: a run more than 16 codes from run 1 discards those before it as void (R232). -/
def RgnCal.join (c : RgnCal) (x : RunRec) : List RunRec × Nat :=
  match c.runs with
  | y :: _ => if 16 < (x.temp - y.temp).natAbs then ([x], c.runs.length) else (c.runs ++ [x], 0)
  | [] => ([x], 0)

/-! ### Progress of a region's calibration (Table 8-9, R235, R241) -/

/-- The last oscillator of a region's calibration is accepted: RUN_CNT. The calibration is complete, or waits for the oscillator just
loaded to lock (Table 8-9 step 7, R233). -/
def State.calComplete (s : State) (r : RegionNo) (twin : Bool) : State :=
  let s : State := { s with cal := { s.cal with runs := s.cal.runs + 1 } }
  if twin then s.modRgn r fun g => { g with cal := { g.cal with ending := true } } else s.calLeave r .accepted

/-- The twin is standby again, loaded from the new working set, and locks within 4 windows (Table 8-9 steps 3 and 7). -/
def State.twinBack (s : State) (r : RegionNo) : State :=
  s.modRgn r fun g => g.twinBack s.win

/-- One oscillator accepted: the next step of the region's calibration. Native: swap after the first, unless the work is
limited to the twin; gap: reduced runs on the active oscillator follow. -/
def State.calStep (s : State) (r : RegionNo) (twin : Bool) : State :=
  let c := (s.rgn r).cal
  let s := s.modRgn r fun g => { g with cal := { g.cal with runs := [], reduced := [], voids := 0, gapWins := 0 } }
  if twin ∧ c.phase = 3 ∧ !c.twinOnly then
    (s.twinBack r).modRgn r fun g => { g with cal := { g.cal with half := true, phase := 4 } }
  else if twin ∧ c.phase = 6 ∧ !c.twinOnly then
    (s.twinBack r).modRgn r fun g => { g with cal := { g.cal with half := true, gapStart := some s.win } }
  else
    let s := if twin then s.twinBack r else s
    (s.modRgn r fun g => { g with cal := { g.cal with half := false } }).calComplete r twin

/-- A full run of the busy twin, in a region's own calibration. -/
def State.twinRun (s : State) (r : RegionNo) (oscB : Bool) (x : RunResult) : State :=
  let set := s.setFor r
  if x.tripped ∨ !supplyOk set.vref x.supply ∨ 16 < x.moved then s.voidRun r oscB
  else
    let m := minCodeOf x.d set.kv set.vref x.supply
    if !runFalls x then (s.calLeave r .failed).failOsc r oscB .coverage
    else if 1280 < m then (s.calLeave r .failed).failOsc r oscB .replica
    else
      let (runs, gone) := (s.rgn r).cal.join ⟨x.periods, m, x.temp, x.supply⟩
      let s := (s.voids gone).modRgn r fun g => { g with cal := { g.cal with runs := runs, voids := 0 }.nextRun s.win }
      match judge RunRec.agree runs with
      | .more => s
      | .pair a b =>
        let s := s.modRgn r fun g => { g with cal := g.cal.setTriples oscB 0 }
        (s.accepted r (set.acceptPair oscB a b s.now)).calStep r true
      | .disagree =>
        let (s, episode) := s.disagreed r oscB
        if episode then s.calLeave r .suspect else s

/-- The correction of a reduced run: 8p - pp, with pp = P0 - fdiv((P0 - P1) x b, 4,095) of the range in use (R243). -/
def Region.redDelta (g : Region) (oscB : Bool) (period : Nat) : Int :=
  let v : List Nat := match g.ws with
    | some w => if oscB then w.b else w.a
    | none => []
  let k := if oscB then g.fl.rangeB else g.fl.rangeA
  let b := if oscB then g.fl.biasB else g.fl.biasA
  let (p0, p1) := rangeOf v k
  (period : Int) - ((p0 : Int) - fdiv (((p0 : Int) - p1) * b) 4095)

/-- A reduced run of the active oscillator (R243). -/
def State.activeRun (s : State) (r : RegionNo) (oscB : Bool) (x : ReducedRun) : State :=
  let set := s.setFor r
  let g := s.rgn r
  if !supplyOk set.vref x.supply ∨ 16 < x.moved then s.voidRun r oscB
  else
    let m := minCodeOf x.d set.kv set.vref x.supply
    if 1280 < m then (s.calLeave r .failed).failOsc r oscB .replica
    else
      let k := if oscB then g.fl.rangeB else g.fl.rangeA
      let runs := g.cal.reduced ++ [⟨g.redDelta oscB x.period, k, m, x.temp⟩]
      let s := s.modRgn r fun g => { g with cal := { g.cal with reduced := runs, voids := 0 }.nextRun s.win }
      match judge RedRec.agree runs with
      | .more => s
      | .pair a b =>
        let s := s.modRgn r fun g => { g with cal := g.cal.setTriples oscB 0 }
        (s.accepted r (set.acceptReduced oscB a b s.now)).calStep r false
      | .disagree =>
        let (s, episode) := s.disagreed r oscB
        if episode then s.calLeave r .suspect else s

/-! ### Boot calibration (R236) -/

/-- Boot runs of an oscillator. -/
def RgnCal.bootRuns (c : RgnCal) (oscB : Bool) : List RunRec := if oscB then c.bootRunsB else c.runs

/-- Boot runs of an oscillator set. -/
def RgnCal.setBootRuns (c : RgnCal) (oscB : Bool) (l : List RunRec) : RgnCal :=
  if oscB then { c with bootRunsB := l } else { c with runs := l }

/-- The boot calibration of a region runs: seeds are expanded, its die is in the census, its outputs are gated (R236). -/
def State.calBooting (s : State) (r : RegionNo) : Bool :=
  s.cal.seeded && s.regionExists r && !(s.rgn r).cal.bootDone && !(s.dieAt (siteOf r)).ungated &&
    decide ((s.dieAt (siteOf r)).st = .census) && decide (s.sys.bootStep < 11)

/-- An oscillator of a region is settled at boot; with both, VALID is set, the working set is sent and
both are loaded from it, and the calibration counts once in RUN_CNT. -/
def State.bootSettled (s : State) (r : RegionNo) (oscB : Bool) : State :=
  let s := s.modRgn r fun g => { g with cal := { g.cal with
    bootA := g.cal.bootA || !oscB, bootB := g.cal.bootB || oscB } }
  let c := (s.rgn r).cal
  if c.bootA ∧ c.bootB ∧ !c.bootDone then
    let set := s.regionSet r
    let s := s.putRegionSet r { set with valid := true }
    let s := (s.deliverSet r set.tLast).modRgn r fun g => { g with
      cal := { g.cal with bootDone := true, runs := [], bootRunsB := [], voids := 0, bootVoidsB := 0, lastTest := s.now } }
    let s := s.modRgn r fun g => { (g.load false g.nominal).load true g.nominal with chan := { g.chan with locked := true } }
    { s with cal := { s.cal with runs := s.cal.runs + 1 } }
  else s

/-- VREF from the first non-void run of a region at boot: its supply, or the seed's value with a suspect episode where that
lies more than 50 mV off (R236 step 3). -/
def State.bootVref (s : State) (r : RegionNo) (oscB : Bool) (supply : Nat) : State :=
  let set := s.regionSet r
  let s := s.modRgn r fun g => { g with cal := { g.cal with vrefSet := true } }
  if ((set.vref : Int) - supply).natAbs ≤ 50 then s.putRegionSet r { set with vref := supply }
  else s.suspectEpisode r oscB

/-- An oscillator that fails at boot: the other serves alone; both failed, the region stays uncalibrated. -/
def State.bootFail (s : State) (r : RegionNo) (oscB : Bool) : State :=
  let g := s.rgn r
  if g.chan.st = .single then s.modRgn r fun g => { g with chan := { g.chan with st := .dead } }
  else
    (s.modRgn r fun g => { g with chan := { g.chan with st := .single, twin := .failed, activeB := !oscB } }).bootSettled r oscB

/-- A run at boot (R236 step 2): the rules of R230-R233, before VREF is set without the supply bound. The fourth void run in a row of an
oscillator abandons the region's calibration for 64 windows (R231). -/
def State.bootRun (s : State) (r : RegionNo) (oscB : Bool) (x : RunResult) : State :=
  let c := (s.rgn r).cal
  let first := !c.vrefSet
  if (if oscB then c.bootB else c.bootA) ∨ s.win < c.retryWin then s
  else if x.tripped ∨ (!first ∧ !supplyOk (s.regionSet r).vref x.supply) ∨ 16 < x.moved then
    let n := (if oscB then c.bootVoidsB else c.voids) + 1
    let s := (s.voids 1).modRgn r fun g => { g with cal :=
      if oscB then { g.cal with bootVoidsB := n % 4 } else { g.cal with voids := n % 4 } }
    if n < 4 then s
    else (s.raise evCalVoid (calArg r oscB 0)).modRgn r fun g => { g with cal := { g.cal with
      retryWin := s.win + 64, runs := [], bootRunsB := [], voids := 0, bootVoidsB := 0 } }
  else
    let s := if first then s.bootVref r oscB x.supply else s
    let set := s.regionSet r
    let m := minCodeOf x.d set.kv set.vref x.supply
    if !runFalls x then (s.raise evStFail (calArg r oscB 1)).bootFail r oscB
    else if 1280 < m then (s.raise evStFail (calArg r oscB 4)).bootFail r oscB
    else
      let old := c.bootRuns oscB
      let (runs, gone) := ({ c with runs := old } : RgnCal).join ⟨x.periods, m, x.temp, x.supply⟩
      let s := (s.voids gone).modRgn r fun g => { g with cal :=
        if oscB then { g.cal.setBootRuns true runs with bootVoidsB := 0 } else { g.cal.setBootRuns false runs with voids := 0 } }
      match judge RunRec.agree runs with
      | .more => s
      | .pair a b => ((s.putRegionSet r (set.acceptPair oscB a b s.now)).suspectSync r).bootSettled r oscB
      | .disagree =>
        let n := (s.rgn r).cal.triples oscB + 1
        let s := { s with cal := { s.cal with disagree := sat16 s.cal.disagree 1 } }
        let s := s.modRgn r fun g => { g with cal := (g.cal.setBootRuns oscB []).setTriples oscB (n % 2) }
        if n = 2 then s.suspectEpisode r oscB else s

/-! ### Rows -/

/-- CAL_RUN_COMPLETE: a run's results arrive and are judged; a run is complete with eight ADC samples (R230-R236, R243). -/
def execCalRunComplete (r : RegionNo) (oscB : Bool) (res : CalResult) (s : State) : Out :=
  let g := s.rgn r
  let c := g.cal
  match res with
  | .full x =>
    if x.samples < 8 then .next s
    else if s.calBooting r then .next (s.bootRun r oscB x)
    else if c.test ∨ c.ending ∨ oscB = g.chan.activeB ∨ g.chan.twin ≠ .busy then .next s
    else if c.phase = 3 ∨ c.phase = 5 ∨ (c.phase = 6 ∧ !c.half ∧ 54 ≤ c.gapWins) then .next (s.twinRun r oscB x)
    else .next s
  | .reduced x =>
    if 8 ≤ x.samples ∧ !c.test ∧ !c.ending ∧ oscB = g.chan.activeB ∧ c.phase = 6 ∧ (c.half ∨ !g.chan.hasTwin) ∧ 36 ≤ c.gapWins then
      .next (s.activeRun r oscB x)
    else .next s

/-- Drift and age of one region at a window boundary (R238, R234). -/
def State.dueCheck (s : State) (r : RegionNo) : State :=
  let g := s.rgn r
  if !s.clocked r ∨ s.siteFenced (siteOf r) ∨ g.cal.running ∨ s.win < g.cal.holdOff ∨ !s.calAuto then s
  else
    let drift := decide (s.calDt < s.drift r)
    let age := decide (s.calAge ≠ 0) && decide ((s.setFor r).ergLast + s.calAge < s.now)
    if (drift ∧ !g.cal.dueDrift) ∨ (age ∧ !g.cal.dueAge) then
      (s.modRgn r fun g => { g with cal := { g.cal with
        dueDrift := g.cal.dueDrift || drift, dueAge := g.cal.dueAge || age } }).calSync r
    else s

/-- CAL_DUE_CHECK: at each window boundary the registers of the block take effect, every region's triggers are checked, and
working sets are sent (R229, R238, R249). -/
def execCalDueCheck (s : State) : Out :=
  if s.now % 256 ≠ 0 then .next s
  else
    let s := { s with cal := { s.cal with ctrl := s.cal.ctrl.tick s.now, gap := s.cal.gap.tick s.now } }
    let s := if s.cal.clearAt.any (· < s.now) then { s.clearCal with cal := { s.clearCal.cal with clearAt := none } } else s
    .next (allRegions.foldl (fun s r => if s.clocked r then (s.dueCheck r).workingSet r else s) s)

/-- The region may be given a slot now: clocked, reached, not running, its district free, its twin not busy (R239). -/
def State.calReady (s : State) (r : RegionNo) : Bool :=
  let g := s.rgn r
  s.clocked r && s.regionExists r && !s.siteFenced (siteOf r) && !g.cal.running && decide (g.cal.retryWin ≤ s.win) &&
    g.swap.isNone && decide (g.chan.twin ≠ .busy) && !(s.cal.busy.any fun x => decide (districtOf x = districtOf r))

/-- Best of a list under a strict order, the earlier on a tie. -/
def best (lt : Nat → Nat → Bool) : List Nat → Option Nat
  | [] => none
  | x :: xs => match best lt xs with
    | none => some x
    | some y => if lt y x then some y else some x

/-- The first due region in the order of R239, with the request it serves and whether it is a self-test. -/
def State.calPick (s : State) : Option (RegionNo × Option LongOp × Bool) :=
  let asked := s.cal.queue.findSome? fun q => match s.calOp q.handle with
    | some o => if o.st = .running then (o.left.find? s.calReady).map fun r => (r, some o, decide (o.kind = .selftestRun)) else none
    | none => none
  asked.orElse fun _ =>
    let ready := s.cal.due.filter s.calReady
    let drift := best (fun x y => decide (s.drift y < s.drift x)) (ready.filter fun r => (s.rgn r).cal.dueDrift)
    let age := best (fun x y => decide ((s.setFor x).ergLast < (s.setFor y).ergLast)) (ready.filter fun r => (s.rgn r).cal.dueAge)
    match drift, age with
    | some r, _ => some (r, none, false)
    | none, some r => some (r, none, false)
    | none, none =>
      (best (fun x y => decide ((s.rgn x).cal.lastTest < (s.rgn y).cal.lastTest))
        (allRegions.filter fun r => s.selftestEn && (s.rgn r).cal.dueTest && s.calReady r)).map fun r => (r, none, true)

/-- A region's activity begins: gap mode where it applies, else native mode on the twin, or at the swap where the twin's part is
already done or the oscillator named is the active one (R235, R241, R244). DESIGN CHOICE (log 65): a CAL_RUN with TWIN_ONLY on a region in
SINGLE, which has no twin, runs reduced runs on its active oscillator. -/
def State.calStart (s : State) (r : RegionNo) (o : Option LongOp) (test : Bool) : State :=
  let g := s.rgn r
  let osc : Nat := (o.map (·.osc)).getD 0
  let onActive : Bool := (decide (osc = 1) && !g.chan.activeB) || (decide (osc = 2) && g.chan.activeB)
  let gap := s.gapMode || (o.map (·.gap)).getD false || !g.chan.hasTwin
  let phase : Nat :=
    if test then (if gap ∨ !onActive then 7 else 4)
    else if gap then 6 else if g.cal.half then 4 else 3
  let half := g.cal.half && !gap && !test
  let busy := g.chan.hasTwin && decide (phase ≠ 4) && !(gap && test && onActive)
  let s := s.modRgn r fun g => { g with
    chan := if busy then { g.chan with twin := .busy, st := if g.chan.st = .paired then .twinBusy else g.chan.st } else g.chan
    cal := { g.cal with
      phase := phase, gap := gap, twinOnly := (o.map (·.twinOnly)).getD false, test := test, began := s.now
      runs := [], reduced := [], voids := 0, half := half, ending := false, gapWins := 0, gapNow := none
      oscB := if !g.chan.hasTwin ∨ onActive then g.chan.activeB else !g.chan.activeB
      gapStart := if gap then some s.win else none } }
  ({ s with cal := { s.cal with busy := addKey r s.cal.busy } } : State).calQueue

/-- CAL_SLOT_GRANT: a free slot goes to the first due region (R239, R240). No run starts in hold, nor before what
comes first after it (R32). -/
def execCalSlotGrant (s : State) : Out :=
  if !s.fw ∨ s.suspended ∨ s.calSlots ≤ s.cal.busy.length then .next s
  else match s.calPick with
    | some (r, o, test) => .next (s.calStart r o test)
    | none => .next s

/-- SUSPECT_HOLDOFF_EXPIRY: drift and age triggers apply again (R234). -/
def execSuspectHoldoffExpiry (r : RegionNo) (s : State) : Out :=
  if validRegion r ∧ (s.rgn r).cal.holdOff ≤ s.win then
    .next (s.modRgn r fun g => { g with cal := { g.cal with holdOff := 0 } })
  else .next s

/-- CAL_VOID_RETRY_EXPIRY: the region may be attempted again (R231). -/
def execCalVoidRetryExpiry (r : RegionNo) (s : State) : Out :=
  if validRegion r ∧ (s.rgn r).cal.retryWin ≤ s.win then
    .next (s.modRgn r fun g => { g with cal := { g.cal with retryWin := 0 } })
  else .next s

/-- The window now begun is forecast-zero for a district; a region that is not clocked has had no trip and no stretch (R242). -/
def State.forecastZero (s : State) (d : Nat) : Bool :=
  decide (Map.get 0 s.hm.board (256 * s.win + d) = 1) ||
    (s.gapQuiet && (districtRegions d).all fun r =>
      !s.clocked r || match (s.rgn r).sum with
        | some y => decide (y.start / 256 + 1 = s.win) && decide (y.trips = 0) && decide (y.sum = 0)
        | none => false)

/-- GAP_WINDOW: a forecast-zero window begins; gap-mode runs of the district gather in it (R242, R243). -/
def execGapWindow (d : Fin 256) (s : State) : Out :=
  if s.now % 256 = 0 ∧ s.forecastZero d then
    .next (s.modRgns ((districtRegions d).filter fun r => (s.rgn r).cal.gapStart.isSome) fun _ g =>
      { g with cal := { g.cal with gapNow := some s.win } })
  else .next s

/-- The forecast-zero windows that the gap-mode run in progress needs: 54 of a full run on the twin, 36 of a reduced run or a self-test
(R243, R244). -/
def Region.gapNeed (g : Region) : Nat := if g.cal.phase = 6 ∧ !g.cal.half ∧ g.chan.hasTwin then 54 else 36

/-- CAL_GAP_TIMEOUT: a gap-mode run has not gathered its windows within GAP_WAIT (R243). -/
def execCalGapTimeout (r : RegionNo) (s : State) : Out :=
  match (s.rgn r).cal.gapStart with
  | some w =>
    if (s.rgn r).cal.running ∧ (s.rgn r).cal.gapWins < (s.rgn r).gapNeed ∧ w + s.gapWait ≤ s.win then
      .next ((s.raise evCalGapTimeout (calArg r (s.rgn r).cal.oscB 0)).calLeave r .timeout)
    else .next s
  | none => .next s

/-- SELFTEST_DUE: the standby twin is due for its periodic self-test (R245). -/
def execSelftestDue (r : RegionNo) (s : State) : Out :=
  let g := s.rgn r
  if s.selftestEn ∧ s.clocked r ∧ g.chan.twin = .standby ∧ g.cal.lastTest + s.selftestNs ≤ s.now then
    .next ((s.modRgn r fun g => { g with cal := { g.cal with dueTest := true } }).calSync r)
  else .next s

/-- A list of numbers falls throughout. -/
def falls : List Nat → Bool
  | x :: y :: zs => decide (y < x) && falls (y :: zs)
  | _ => true

/-- The tap line: increasing, each step within a quarter of nominal / 16, in 1/8 code unit (Table 8-10). -/
def tapsOk (n : Nat) : List Nat → Bool
  | x :: y :: zs => decide (x < y ∧ (8 * ((y : Int) - x) - 4 * n).natAbs ≤ n) && tapsOk n (y :: zs)
  | _ => true

/-- The pass condition of a test on an oscillator's measurements (Table 8-10). -/
def TestMeas.passes (m : TestMeas) (set : CalSet) (workMin n : Nat) (t : SelfTest) : Bool :=
  let p (i : Nat) : Nat := m.periods.getD i 0
  let min := minCodeOf m.d set.kv set.vref m.supply
  match t with
  | .coverage => decide (p 1 ≤ 1216 ∧ 10752 ≤ p 4 ∧ p 3 + 128 ≤ p 0 ∧ p 5 + 128 ≤ p 2)
  | .biasDac => decide (m.biases.length = 16) && falls m.biases
  | .tapLine => decide (m.taps.length = 64) && tapsOk n m.taps
  | .replica => decide (min ≤ 1280 ∧ ((min : Int) - workMin).natAbs ≤ 8)
  | .tdc => decide (((m.tdc : Int) - 8192).natAbs ≤ 2)

/-- The tests in row order (Table 8-10). -/
def allTests : List SelfTest := [.coverage, .biasDac, .tapLine, .replica, .tdc]

/-- The first test that fails, of those that run. -/
def TestMeas.fails (m : TestMeas) (set : CalSet) (workMin n : Nat) (quiet : Bool) : Option SelfTest :=
  allTests.find? fun t => (!quiet || testQuiet t) && !TestMeas.passes m set workMin n t

/-- What each test of a self-test is reported as: on an active oscillator in gap mode those that disturb it are NOT_RUN (R244). -/
def testReport (quiet : Bool) (failed : Option SelfTest) : List TestOutcome :=
  allTests.map fun t => if quiet && !testQuiet t then .notRun else if failed = some t then .fail else .pass

/-- SELFTEST_COMPLETE: an oscillator's self-test ends, and what each test is reported as is kept; a failed oscillator is failed (R244,
R245). The outcome is the one that the measurements give, where the occurrence brings them. -/
def execSelftestComplete (r : RegionNo) (oscB : Bool) (failed : Option SelfTest) (s : State) (meas : Option TestMeas := none) : Out :=
  let g := s.rgn r
  let onActive := decide (oscB = g.chan.activeB)
  let workMin : Nat := match g.ws with
    | some w => if oscB then w.minB else w.minA
    | none => 0
  let failed := match meas with
    | some m => TestMeas.fails m (s.setFor r) workMin g.nominal onActive
    | none => failed
  let quiet := match failed with
    | some t => testQuiet t
    | none => true
  if g.cal.phase ≠ 7 ∨ oscB ≠ g.cal.oscB ∨ (g.cal.gap ∧ g.cal.gapWins < 36) ∨ (onActive ∧ !quiet) then .next s
  else
    let s := s.modRgn r fun g => { g with cal := { g.cal with report := testReport onActive failed } }
    match failed with
    | none =>
      let s := { s with cal := { s.cal with stPass := sat16 s.cal.stPass 1 } }
      .next ((if onActive then s else s.twinBack r).calLeave r .accepted)
    | some t =>
      let s := { s with cal := { s.cal with stFail := sat16 s.cal.stFail 1 } }
      .next ((s.calLeave r .failed).failOsc r oscB t)

/-! ### Commands (R247, R332) -/

/-- The regions that SCOPE and TARGET name, or the reply that refuses them (R316). -/
def State.calScope (s : State) (q : Req) : Except Reply (List RegionNo) :=
  match q.u8 0 with
  | 0 => match s.regionTarget q with
    | some r => .error r
    | none => .ok [q.tgt]
  | 1 => if q.tgt < 256 then .ok (districtRegions q.tgt) else .error badTarget
  | 2 => if q.tgt ≤ 22 then .ok (siteRegions q.tgt) else .error badTarget
  | 3 => if q.tgt = 0 then .ok allRegions else .error badTarget
  | _ => .error (badArg 0)

/-- The code with which one region of a request is refused: no managed die or DEAD, or a site out of reach (R247). -/
def State.calRefuses (s : State) (r : RegionNo) : Option Nat :=
  if !s.regionExists r then some stRefused
  else if s.siteFenced (siteOf r) then some stFenced
  else if (s.rgn r).chan.st = .dead then some stRefused else none

/-- A calibration or self-test request accepted into the queue of 32 (R240, R316). -/
def State.calRequest (s : State) (q : Req) (kind : OpKind) (twinOnly : Bool) (osc : Nat) : Result :=
  match s.calScope q with
  | .error r => refuse r s
  | .ok rs =>
    let ok := rs.filter fun r => (s.calRefuses r).isNone
    if ok.isEmpty then refuse (codeReply (((rs.head?).bind s.calRefuses).getD stRefused)) s
    else if 32 ≤ s.cal.queue.length then refuse (busyReply 0) s
    else
      let bad := rs.length - ok.length
      let op := { newOp kind .running s.now with
        target := q.tgt, scope := q.u8 0, left := ok, gap := decide (q.u8 1 = 2), twinOnly := twinOnly, osc := osc
        failed := bad, code := if bad = 0 then stOk else stPartial }
      s.startOp q op fun i s =>
        let s := { s with cal := { s.cal with queue := s.cal.queue ++ [⟨i, decide (kind = .selftestRun)⟩] } }
        ok.foldl State.calSync s

/-- CAL_RUN. -/
def cmdCalRun (q : Req) (s : State) : Result :=
  if 3 < q.u8 0 then refuse (badArg 0) s
  else if 2 < q.u8 1 then refuse (badArg 1) s
  else if 1 < q.u8 2 then refuse (badArg 2) s
  else s.calRequest q .calRun (decide (q.u8 2 = 1)) 0

/-- CAL_RUN, the command (R247). -/
def execCalRun (q : Req) (s : State) : Out := .next (s.submit 0x0801 cmdCalRun q)

/-- SELFTEST_RUN. -/
def cmdSelftestRun (q : Req) (s : State) : Result :=
  if 3 < q.u8 0 then refuse (badArg 0) s
  else if 2 < q.u8 1 then refuse (badArg 1) s
  else if 2 < q.u8 2 then refuse (badArg 2) s
  else s.calRequest q .selftestRun false (q.u8 2)

/-- SELFTEST_RUN, the command (R247). -/
def execSelftestRun (q : Req) (s : State) : Out := .next (s.submit 0x0802 cmdSelftestRun q)

/-- A working set as CAL_QUERY returns it; zeros where none has been delivered. -/
def Region.workBytes (g : Region) : Bytes :=
  match g.ws with
  | some w => (w.a ++ w.b).flatMap (toLE 2) ++ toLE 2 w.minA ++ toLE 2 w.minB
  | none => zeros 28

/-- CAL_QUERY. -/
def cmdCalQuery (q : Req) (s : State) : Result :=
  match s.regionTarget q with
  | some r => refuse r s
  | none => .done (okReply (toLE 4 (s.calRstat q.tgt) ++ toLE 4 (s.calRage q.tgt) ++ (s.rgn q.tgt).workBytes)) s

/-- CAL_QUERY, the command (R247). -/
def execCalQuery (q : Req) (s : State) : Out := .next (s.submit 0x0803 cmdCalQuery q)

/-- A point's 28 bytes (Table 8-4). -/
def CalPoint.bytes (p : CalPoint) : Bytes :=
  (p.a ++ p.b).flatMap (toLE 2) ++ toLE 2 (p.minA % 8192) ++ toLE 2 (p.minB % 8192)

/-- A set's 256 bytes (Tables 8-3, 8-4). -/
def CalSet.bytes (c : CalSet) : Bytes :=
  toLE 2 c.region.toNat ++ toLE 2 c.vref ++
    toLE 1 (b2n c.valid + 2 * b2n c.suspect + 4 * b2n c.suspectB + 8 * c.episodes) ++ zeros 1 ++
    toLE 2 (unsigned 12 c.tLast) ++ toLE 8 c.ergLast ++ toLE 2 c.kv ++ toLE 2 c.runs ++ toLE 2 c.measured.toNat ++ zeros 10 ++
    c.points.flatMap CalPoint.bytes

/-- CAL_SET_READ. -/
def cmdCalSetRead (q : Req) (s : State) : Result :=
  if q.u8 0 = 0 then
    match s.regionTarget q with
    | some r => refuse r s
    | none => .done (okReply (s.regionSet q.tgt).bytes) s
  else if q.u8 0 = 1 then
    if q.tgt < 256 then .done (okReply (s.spareSet q.tgt).bytes) s else refuse badTarget s
  else refuse (badArg 0) s

/-- CAL_SET_READ, the command (R247). -/
def execCalSetRead (q : Req) (s : State) : Out := .next (s.submit 0x0804 cmdCalSetRead q)

end Sys2Proof.Machine
end

