-- ==== Sys2Proof/Machine/Configuration.lean ====
section
/-! DEFINITION. Base configuration, overlays, modes and region fences (12_configuration_and_upgrade.md R339-R358; 15 R418),
with the commands of 11 R335. -/
namespace Sys2Proof.Machine

/-! ### Fields that records may write (R344) -/

/-- Fields (hi, lo) of a register that configuration may write; none where it has none. -/
def Reg.fields : Reg → List (Nat × Nat)
  | .rgn 1 _ off =>
    if off = 0x00 then [(8, 8), (7, 4), (3, 3), (2, 2), (1, 1), (0, 0)]
    else if off = 0x04 then [(12, 0)]
    else if off = 0x08 then [(15, 8), (7, 0)]
    else if off = 0x0C ∨ off = 0x10 then [(31, 24), (23, 16), (15, 8), (7, 0)]
    else if off = 0x14 then [(21, 16), (11, 8), (7, 0)]
    else if off = 0x18 then [(7, 0)]
    else if off = 0x1C then [(23, 16), (15, 8), (7, 4), (3, 0)]
    else []
  | .rgn _ _ _ => []
  | .glob 2 off => if off = 0 then [(15, 8), (2, 2), (0, 0)] else []
  | .glob 3 off => if off = 0 then [(28, 16), (15, 8), (2, 2), (1, 0)] else []
  | .glob 4 off => if off = 0 then [(31, 16), (15, 8), (1, 1), (0, 0)] else if off = 4 then [(15, 8), (7, 0)] else []
  | .glob 5 off =>
    if off = 0 then [(31, 24), (23, 16), (15, 8), (1, 1), (0, 0)]
    else if 0x100 ≤ off ∧ off % 16 = 0 then [(7, 4), (1, 1)] else []
  | .glob 6 off => if off = 0 then [(7, 4), (0, 0)] else []
  | .glob 7 off =>
    if off = 0 then [(31, 24), (23, 16), (15, 10), (3, 3), (2, 2), (1, 1), (0, 0)]
    else if off = 4 then [(31, 16), (7, 0)] else []
  | .glob 8 off =>
    if off = 0 then [(31, 24), (23, 16), (1, 1), (0, 0)]
    else if off = 4 then [(31, 24), (23, 16), (15, 8), (7, 0)]
    else if off = 8 then [(28, 16), (12, 0)]
    else if off = 0xC then [(31, 16), (15, 0)] else []
  | .glob 9 off => if off = 0 then [(15, 8), (1, 1), (0, 0)] else []
  | .glob 10 off =>
    if off = 0 then [(31, 24), (23, 16), (15, 8), (2, 2), (1, 1), (0, 0)]
    else if off = 4 then [(31, 16), (15, 0)] else if off = 8 then [(15, 0)] else []
  | .glob _ _ => []

/-- Bits of a list of fields. -/
def fieldMask (fs : List (Nat × Nat)) : Nat := (fs.map fun f => at_ (2 ^ (f.1 + 1 - f.2) - 1) f.2).sum

/-- Reset value of a register that configuration may write. -/
def Reg.reset : Reg → Nat
  | .rgn 1 _ off =>
    if off = 0x00 then 0x107 else if off = 0x04 then 0x200 else if off = 0x08 then 0x20F8 else if off = 0x0C then 0x8C5A3219
    else if off = 0x10 then 0x0C060301 else if off = 0x14 then 0x00040210 else if off = 0x18 then 0x20
    else if off = 0x1C then 0x00C83202 else 0
  | .rgn _ _ _ => 0
  | .glob 2 _ => 0x2004
  | .glob 3 _ => 0x01000404
  | .glob 4 off => if off = 0 then 0x03E81003 else 0x180C
  | .glob 5 off => if off = 0 then 0x0A640A03 else 0x71
  | .glob 6 _ => 0x41
  | .glob 7 off => if off = 0 then 0x3C402003 else 0x1000003C
  | .glob 8 off => if off = 0 then 0x3C0F0003 else if off = 4 then 0x6E69645F else if off = 8 then 0x02000120 else 0x02BC03E8
  | .glob 9 _ => 0x403
  | .glob 10 off => if off = 0 then 0x067D0507 else if off = 4 then 0x03E807D0 else 0x3E8
  | .glob _ _ => 0

/-! ### Records (R344) -/

/-- A record from its 16 bytes. -/
def parseRec (bs : Bytes) (i : Nat) : Rec :=
  ⟨byteAt bs i, byteAt bs (i + 1), le bs (i + 2) 2, le bs (i + 4) 2, le bs (i + 6) 2, word (le bs (i + 8) 4),
    word (le bs (i + 12) 4)⟩

/-- n records from an offset. -/
def parseRecs (bs : Bytes) (i n : Nat) : List Rec := (List.range n).map fun k => parseRec bs (i + 16 * k)

/-- A register that a FIELD record names, for its first instance. -/
def Rec.reg (x : Rec) : Reg :=
  if x.first = 0xFFFF then .glob x.block x.offset
  else if x.block = 1 then .rgn 1 x.first x.offset else .glob 5 (0x100 + 16 * x.first + x.offset)

/-- A record is well formed on its own: its fields, its block's instances, RW fields only, and a period code in range (R9,
R344). -/
def Rec.ok (x : Rec) : Bool :=
  if x.kind = 1 then
    decide (1 ≤ x.block ∧ x.block ≤ 10 ∧ x.offset % 4 = 0) && decide (x.value &&& ~~~x.mask = 0) &&
      (if x.first = 0xFFFF ∨ x.last = 0xFFFF then
        decide (x.first = x.last ∧ x.block ≠ 1) && (decide (x.block ≠ 5) || decide (x.offset < 0x100))
       else decide (x.first ≤ x.last) &&
        (decide (x.block = 1 ∧ x.offset < 64) || (decide (x.block = 5 ∧ x.last ≤ 71 ∧ x.offset < 16)))) &&
      decide (x.mask.toNat &&& fieldMask x.reg.fields = x.mask.toNat) && !x.reg.fields.isEmpty &&
      (decide (x.block ≠ 1 ∨ x.offset ≠ 4 ∨ fld x.mask 12 0 ≠ 8191) || decide (160 ≤ fld x.value 12 0 ∧ fld x.value 12 0 ≤ 1280))
  else
    decide (x.kind = 2 ∨ x.kind = 3) && decide (x.block = 0 ∧ x.mask = 0 ∧ x.value = 0) &&
      decide (x.offset ≤ (if x.kind = 2 then 1 else 0)) && validRegion x.first && validRegion x.last &&
      decide (x.first ≠ x.last ∧ siteOf x.first = siteOf x.last)

/-- A FIELD record writes a register. -/
def Rec.hits (x : Rec) (g : Reg) : Bool :=
  decide (x.kind = 1) &&
  match g with
  | .rgn b r off => decide (b = 1 ∧ x.block = 1 ∧ x.first ≠ 0xFFFF ∧ x.first ≤ r ∧ r ≤ x.last ∧ x.offset = off)
  | .glob b off =>
    if b = 5 ∧ 0x100 ≤ off then
      decide (x.block = 5 ∧ x.first ≠ 0xFFFF ∧ x.first ≤ (off - 0x100) / 16 ∧ (off - 0x100) / 16 ≤ x.last ∧ x.offset = off % 16)
    else decide (x.block = b ∧ x.first = 0xFFFF ∧ x.offset = off)

/-- The registers a record writes: only valid regions of a FIELD record's range; both regions' links, and SYM_EN, of a PAIR or an UNPAIR. -/
def Rec.regs (x : Rec) : List Reg :=
  if x.kind ≠ 1 then [x.first, x.last].flatMap fun r => [.rgn 1 r 0, .rgn 1 r 0x20, .rgn 1 r 0x24]
  else if x.first = 0xFFFF then [.glob x.block x.offset]
  else if x.block = 1 then
    (allRegions.filter fun r => decide (x.first ≤ r ∧ r ≤ x.last)).map fun r => .rgn 1 r x.offset
  else ((List.range 72).filter fun i => decide (x.first ≤ i ∧ i ≤ x.last)).map fun i => .glob 5 (0x100 + 16 * i + x.offset)

/-! ### Composition (R339, R340, R349) -/

/-- An overlay put in its place by PRIORITY, then by order. -/
def overlayInsert (x : Nat × Nat × Nat × List Rec) : List (Nat × Nat × Nat × List Rec) → List (Nat × Nat × Nat × List Rec)
  | [] => [x]
  | y :: ys => if x.2.1 < y.2.1 ∨ (x.2.1 = y.2.1 ∧ x.2.2.1 ≤ y.2.2.1) then x :: y :: ys else y :: overlayInsert x ys

/-- The records of a composition in order, the last that sets a bit winning. Bring-up has none. -/
def State.recsOf (s : State) (l : Layers) : List Rec :=
  if l.mode = 0 then []
  else
    ((s.cfg.base.map (·.records)).getD []) ++ l.modeRecs ++ (l.overlays.foldr overlayInsert []).flatMap (fun x => x.2.2.2) ++
      l.throttle.getD []

/-- Limp's forcings on a register (Table 12-5). -/
def forced (mode : Nat) (g : Reg) (v : Nat) : Nat :=
  if mode ≠ 5 then v
  else match g with
    | .rgn 1 _ 0 => v ||| 3
    | .glob 2 0 => v - v % 2
    | .glob 4 0 => v ||| 2
    | .glob 5 0 => v ||| 1
    | .glob 8 0 => v ||| 1
    | .glob 9 0 => v ||| 2
    | _ => v

/-- The region that a PAIR or an UNPAIR record has a region link with, or let go. -/
def Rec.other (x : Rec) (r : RegionNo) : Option RegionNo :=
  if x.kind = 1 then none else if x.first = r then some x.last else if x.last = r then some x.first else none

/-- Links of a region, by number, after a PAIR or an UNPAIR record, and the link that it makes or frees: a PAIR takes the lowest-numbered
free link (R344). -/
def Rec.link (x : Rec) (r : RegionNo) (ls : List Nat) : List Nat × Option Nat :=
  match x.other r with
  | none => (ls, none)
  | some p =>
    let k := ls.findIdx (· = (if x.kind = 2 then 0xFFFF else p))
    if k < ls.length then (ls.set k (if x.kind = 2 then p else 0xFFFF), some k) else (ls, none)

/-- A record's share in a register of a region: the bits of a FIELD record; SYM_EN of the link that a PAIR with SYM makes, and of the one
that an UNPAIR frees (log 67). -/
def Rec.put (x : Rec) (g : Reg) (link : Option Nat) (v : Nat) : Nat :=
  if x.hits g then (v &&& (0xFFFFFFFF - x.mask.toNat)) ||| x.value.toNat
  else match g, link with
    | .rgn 1 _ 0, some k =>
      if x.kind = 2 then (if x.offset = 1 then v ||| 2 ^ (4 + k) else v) else v &&& (0xFFFFFFFF - 2 ^ (4 + k))
    | _, _ => v

/-- A region's links, none, before any record. -/
def noLinks : List Nat := List.replicate 4 0xFFFF

/-- The links that records leave a region, and a register of it, in record order (R339). -/
def composeRgn (rs : List Rec) (r : RegionNo) (g : Reg) : List Nat × Nat :=
  rs.foldl (fun a x => let l := x.link r a.1; (l.1, x.put g l.2 a.2)) (noLinks, g.reset)

/-- A register's composed value. The PARTNER fields are those of the links that PAIR and UNPAIR records leave. -/
def composedAt (rs : List Rec) (mode : Nat) (g : Reg) : Nat :=
  forced mode g (match g with
    | .rgn 1 r off =>
      let c := composeRgn rs r g
      if off = 0x20 then c.1.getD 0 0 + c.1.getD 1 0 * 65536
      else if off = 0x24 then c.1.getD 2 0 + c.1.getD 3 0 * 65536 else c.2
    | g => rs.foldl (fun v x => x.put g none v) g.reset)

/-- Registers whose composed value may differ from reset. -/
def touched (rs : List Rec) (mode : Nat) : List Reg :=
  rs.flatMap Rec.regs ++
    (if mode = 5 then [.glob 2 0, .glob 4 0, .glob 5 0, .glob 8 0, .glob 9 0] ++ allRegions.map fun r => .rgn 1 r 0 else [])

/-- PAIR and UNPAIR records in order are such as R345 asks: a PAIR does not name regions that are paired already, and leaves neither with a
fifth link; an UNPAIR names regions that are paired. Both sides of a pair are made and freed together, so every link is named by both its
regions, which lie on one site (Rec.ok). -/
def linksOk : List Rec → Map (List Nat) → Bool
  | [], _ => true
  | x :: xs, m =>
    if x.kind = 1 then linksOk xs m
    else
      let la := Map.get noLinks m x.first
      let lb := Map.get noLinks m x.last
      (if x.kind = 2 then !la.contains x.last && la.contains 0xFFFF && lb.contains 0xFFFF else la.contains x.last) &&
        decide (siteOf x.first = siteOf x.last) &&
        linksOk xs (Map.put noLinks (Map.put noLinks m x.first (x.link x.first la).1) x.last (x.link x.last lb).1)

/-! ### The check of a composition (R345, R349) -/

/-- The conditions of a mode on its composition (Table 12-5). -/
def State.modeOk (s : State) (rs : List Rec) (mode : Nat) : Bool :=
  let v (g : Reg) : Nat := composedAt rs mode g
  let serve := bitAt (v (.glob 5 0)) 1 && bitAt (v (.glob 4 0)) 0 &&
    ((rs.filter fun x => decide (x.kind = 1 ∧ x.block = 1 ∧ x.offset = 0)).flatMap Rec.regs).all fun g => match g with
      | .rgn _ r _ => !s.live r || bitAt (v g) 8
      | _ => true
  if mode = 1 ∨ mode = 2 then serve
  else if mode = 3 then bitAt (v (.glob 5 0)) 1
  else if mode = 4 then bitAt (v (.glob 7 0)) 0 && bitAt (v (.glob 7 0)) 1
  else true

/-! ### Applying a composition at a fence (R340, R352) -/

/-- Bits of a register that a change writes: the fields whose composed value differs. -/
def changedBits (a b : Nat) (fs : List (Nat × Nat)) : Nat :=
  fieldMask (fs.filter fun f => decide (bits a f.1 f.2 ≠ bits b f.1 f.2))

/-- Every value of a region's registers in force: it is not clocked, and starts with them. -/
def Region.settleRegs (g : Region) : Region :=
  let f (l : Lat) : Lat := Lat.of l.img
  let x := g.regs
  { g with regs := { ctrl := f x.ctrl, trimlim := f x.trimlim, thresh := f x.thresh, sval := f x.sval, stiming := f x.stiming
                     budget := f x.budget, floop := f x.floop, pair0 := f x.pair0, pair1 := f x.pair1 } }

/-- One register written at a fence F: a region takes it at its first period boundary at or after F, CODE is latched at F, which
governs from F itself (R352, R421), where the region's crossing is whole and waits in it otherwise (R207), the sensing block takes it at the first frame end at or after F, every other block at F. -/
def State.fenceReg (s : State) (g : Reg) (w : Word) (f : Nat) : State :=
  match g with
  | .rgn _ r off =>
    if !s.regionExists r then s
    else if off = 4 then
      (if (s.rgn r).chan.st = .dead ∨ s.xState (xId 4 r) ≠ .whole then s.sendCode r (fld w 12 0) else s.latchCodeAt r (fld w 12 0) (f - 1))
    else
      let s := s.writeRgnAt (f - 1) r off w
      if s.clocked r then s else s.relane (s.modRgn r Region.settleRegs) r
  | .glob 2 _ => { s with hm := { s.hm with ctrl := s.hm.ctrl.force f w } }
  | .glob 3 _ => { s with et := { s.et with ctrl := s.et.ctrl.force f w } }
  | .glob 4 off =>
    if off = 0 then { s with opt := { s.opt with ctrl := s.opt.ctrl.force f w } }
    else { s with opt := { s.opt with power := s.opt.power.force f w } }
  | .glob 6 _ => { s with xg := { s.xg with ctrl := s.xg.ctrl.force f w } }
  | .glob 7 off =>
    if off = 0 then { s with cal := { s.cal with ctrl := s.cal.ctrl.force f w } }
    else { s with cal := { s.cal with gap := s.cal.gap.force f w } }
  | .glob 8 off =>
    if off = 0 then { s with sns := { s.sns with ctrl := s.sns.ctrl.write (f - 1) w } }
    else if off = 4 then { s with sns := { s.sns with thresh := s.sns.thresh.write (f - 1) w } }
    else if off = 8 then { s with sns := { s.sns with ceil := s.sns.ceil.write (f - 1) w } }
    else { s with sns := { s.sns with wearctl := s.sns.wearctl.write (f - 1) w } }
  | .glob 10 off =>
    if off = 0 then { s with sp := { s.sp with ctrl := s.sp.ctrl.force f w } }
    else if off = 4 then { s with sp := { s.sp with bounds := s.sp.bounds.force f w } }
    else { s with sp := { s.sp with host := s.sp.host.force f w } }
  | .glob b off => s.writeGlob b off w

/-- Fields of a register that a composition sets: what records may write, and the PARTNER fields, which PAIR and UNPAIR records set. -/
def Reg.composed : Reg → List (Nat × Nat)
  | .rgn 1 r off => if off = 0x20 ∨ off = 0x24 then [(31, 16), (15, 0)] else (Reg.rgn 1 r off).fields
  | g => g.fields

/-- One register of a change written at F, where its composed value differs (R340). -/
def State.layReg (a b : List Rec) (old new f : Nat) (t : State) (g : Reg) : State :=
  let vb := composedAt b new g
  let m := changedBits (composedAt a old g) vb g.composed
  if m = 0 then t else t.fenceReg g (word ((t.regRead g &&& (0xFFFFFFFF - m)) ||| (vb &&& m))) f

/-- A register that holds links. -/
def Reg.isLinks : Reg → Bool
  | .rgn 1 _ off => decide (off = 0x20 ∨ off = 0x24)
  | _ => false

/-- The registers that two sets of layers touch. -/
def State.layRegs (s : State) (old new : Layers) : List Reg :=
  (touched (s.recsOf old) old.mode ++ touched (s.recsOf new) new.mode).eraseDups

/-- The differences of R340 between two sets of layers written at F: the links first, then the other registers. -/
def State.applyLayers (s : State) (old new : Layers) (f : Nat) : State :=
  let (links, rest) := (s.layRegs old new).partition Reg.isLinks
  let lay := State.layReg (s.recsOf old) (s.recsOf new) old.mode new.mode f
  rest.foldl lay (links.foldl lay s)

/-- A change from one set of layers to another passes R345: the composed registers are judged beside the links that they come with. -/
def State.passes (s : State) (old new : Layers) (modes : Bool) : Bool :=
  let rs := s.recsOf new
  let t := ((s.layRegs old new).filter Reg.isLinks).foldl (State.layReg (s.recsOf old) rs old.mode new.mode s.now) s
  linksOk rs [] && ((touched rs new.mode).all fun g => g.isLinks || t.checkReg g (word (composedAt rs new.mode g))) &&
    (!modes || s.modeOk rs new.mode)

/-! ### Fences (R351) -/

/-- The layers that the next change is checked against: those of the last armed fence, or those in force. -/
def State.nextLayers (s : State) : Layers := ((s.cfg.fences.getLast?).map (·.layers)).getD s.cfg.layers

/-- The first multiple of 4,096 ns at least d ahead, after every armed fence. -/
def State.fenceTime (s : State) (d : Nat) : Nat :=
  let f := (s.now + d + 4095) / 4096 * 4096
  match s.cfg.fences.getLast? with
  | some e => max f (e.f + 4096)
  | none => f

/-- A fence armed. -/
def State.arm (s : State) (e : Fence) : State := { s with cfg := { s.cfg with fences := s.cfg.fences ++ [e] } }

/-- A slot by number. -/
def State.slot (s : State) (k : Nat) : Slot := vget s.cfg.slots {} k

/-- A slot changed. -/
def State.modSlot (s : State) (k : Nat) (f : Slot → Slot) : State := { s with cfg := { s.cfg with slots := vmod s.cfg.slots k f } }

/-- The slot that holds an overlay. -/
def State.slotOf (s : State) (id : Nat) : Option Nat :=
  (List.range 16).find? fun k => decide ((s.slot k).state ≠ .empty ∧ (s.slot k).id = id)

/-- The throttle overlay's id, 0 for none. -/
def State.throttleId (s : State) : Nat := (s.cfg.base.map (·.throttleId)).getD 0

/-- Layers with an overlay in force: the throttle overlay has a layer of its own; a replaced overlay keeps its place in the
order (R339, R348). -/
def State.withOverlay (s : State) (l : Layers) (x : Slot) (order : Nat) : Layers :=
  if x.id = s.throttleId then { l with throttle := some x.records }
  else match l.overlays.find? (·.1 == x.id) with
    | some y => { l with overlays := l.overlays.map fun z => if z.1 = x.id then (x.id, x.priority, y.2.2.1, x.records) else z }
    | none => { l with overlays := l.overlays ++ [(x.id, x.priority, order, x.records)] }

/-- The overlay is in force in some layers. -/
def State.layerHas (s : State) (l : Layers) (id : Nat) : Bool :=
  if id = s.throttleId ∧ id ≠ 0 then l.throttle.isSome else l.overlays.any (·.1 == id)

/-- Layers without an overlay. -/
def State.withoutOverlay (s : State) (l : Layers) (id : Nat) : Layers :=
  if id = s.throttleId then { l with throttle := none } else { l with overlays := l.overlays.filter (·.1 ≠ id) }

/-- A configuration change of the host is unfinished: OVERLAY_APPLY, OVERLAY_WITHDRAW or MODE_SET (Table 11-18). -/
def State.changing (s : State) : Bool :=
  (s.findOp fun o => decide (o.kind = .overlayApply)).isSome ||
    s.cfg.fences.any fun e => match e.kind with
      | .withdraw _ _ => true
      | .mode _ _ => true
      | _ => false

/-- Changes are refused: the base is lost, or an overlay in force is damaged and the change is not its replacement (R357). -/
def State.changeBarred (s : State) (id : Nat) : Bool :=
  s.cfg.lost || (List.range 16).any fun k => (s.slot k).damaged && decide ((s.slot k).state = .inForce ∧ (s.slot k).id ≠ id)

/-! ### Register writes while a fence is armed (Table 1-5) -/

/-- The registers as the last armed fence will leave them. -/
def State.overlaid (s : State) : State :=
  if s.cfg.fences.isEmpty then s else s.applyLayers s.cfg.layers s.nextLayers s.now

/-- A word of a write is acceptable where it falls, now and, where a fence has been requested, against what it puts in force (R28). -/
def State.acceptsNext (s : State) (a : Nat) (w : Word) : Bool := s.acceptsWord a w && s.overlaid.acceptsWord a w

/-- A _WRITE_FIELD of a block: checked whole, then written word by word (R321). -/
def cmdWriteField (block : Nat) (q : Req) (s : State) : Result :=
  let a := block * 2 ^ 24 + q.le 0 4
  let n := q.le 4 2
  let val (i : Nat) : Word := word (q.le (8 + 4 * i) 4)
  match fieldRange block 58 q with
  | some r => refuse r s
  | none =>
    match (List.range n).find? fun i => !s.acceptsNext (a + 4 * i) (val i) with
    | some i => refuse (badArg (8 + 4 * i)) s
    | none =>
      if (List.range n).any fun i => s.belowMin (a + 4 * i) (val i) then refuse (codeReply stRefused) s
      else if (List.range n).any fun i => s.busyEn (a + 4 * i) (val i) then refuse (busyReply 0) s
      else match s.writeBlock block a n with
      | some st => refuse (codeReply st) s
      | none =>
        .done okReply ((List.range n).foldl (fun s i =>
          match regAt (a + 4 * i) with
          | some x => s.regWrite x (val i)
          | none => s) s)

/-- REGION_WRITE_FIELD (R70-R73, R321). -/
def execRegionWriteField (q : Req) (s : State) : Out := .next (s.submit 0x0204 (cmdWriteField 1) q)
/-- HAWKMOTH_WRITE_FIELD (R321). -/
def execHawkmothWriteField (q : Req) (s : State) : Out := .next (s.submit 0x0307 (cmdWriteField 2) q)
/-- ERG_WRITE_FIELD (R321). -/
def execErgWriteField (q : Req) (s : State) : Out := .next (s.submit 0x0408 (cmdWriteField 3) q)
/-- OPTIC_WRITE_FIELD (R321). -/
def execOpticWriteField (q : Req) (s : State) : Out := .next (s.submit 0x0505 (cmdWriteField 4) q)
/-- SYNTH_WRITE_FIELD (R321). -/
def execSynthWriteField (q : Req) (s : State) : Out := .next (s.submit 0x0604 (cmdWriteField 5) q)
/-- CROSS_WRITE_FIELD (R321). -/
def execCrossWriteField (q : Req) (s : State) : Out := .next (s.submit 0x0706 (cmdWriteField 6) q)
/-- CAL_WRITE_FIELD (R321). -/
def execCalWriteField (q : Req) (s : State) : Out := .next (s.submit 0x0806 (cmdWriteField 7) q)
/-- SENSE_WRITE_FIELD (R321). -/
def execSenseWriteField (q : Req) (s : State) : Out := .next (s.submit 0x0908 (cmdWriteField 8) q)
/-- SPAN_WRITE_FIELD (R321). -/
def execSpanWriteField (q : Req) (s : State) : Out := .next (s.submit 0x0B07 (cmdWriteField 10) q)
/-- SIROCCO_WRITE_FIELD (R321). -/
def execSiroccoWriteField (q : Req) (s : State) : Out := .next (s.submit 0x0C04 (cmdWriteField 9) q)

/-- A direct write of a fabric register by Sirocco: rejected whole, or written (R72). Outside every block, and on an RO or
reserved word, nothing is written. -/
def State.fabWrite (s : State) (a : Nat) (w : Word) : State :=
  if s.acceptsNext a w ∧ !s.busyEn a w then
    match regAt a with
    | some x => s.regWrite x w
    | none => s
  else s

/-- REGISTER_WRITE: a window register by the host, or a fabric register by Sirocco or an engine (R17, R72, R289). -/
def execRegisterWrite (sp : RegSpace) (a w : Word) (s : State) : Out :=
  match sp with
  | .window => if s.windowUp ∧ a.toNat % 4 = 0 then .next (s.windowWrite a.toNat w) else .next s
  | .fabric => if s.sys.pkgReset ∨ a.toNat % 4 ≠ 0 then .next s else .next (s.fabWrite a.toNat w)

/-! ### Verification (R341-R343) -/

/-- Record schema of the firmware (R358). -/
def schemaMax : Nat := 1

/-- Signature, digest and key of a configuration image (R342); the step of Table 10-4 that fails. -/
def verifyConfig (bs : Bytes) : Option Nat :=
  let pub := slice bs 80 96
  if !((Config.sha384 pub == Config.keyHash 2 && Config.keyIntact 2) || (Config.sha384 pub == Config.keyHash 3 && Config.keyIntact 3)) then
    some 2
  else if !Config.ecdsaP384Verify pub (slice bs 0 176) (slice bs 176 96) then some 3
  else if Config.sha384 (bs.drop 512) != slice bs 32 48 then some 4
  else none

/-- The header of Table 12-1 is well formed for a MAGIC and a range of LENGTH. -/
def configHeader (bs magic : Bytes) (most : Nat) : Bool :=
  slice bs 0 4 == magic && decide (1 ≤ le bs 4 2) && decide (byteAt bs 11 = 0) && decide (528 ≤ bs.length ∧ bs.length ≤ most) &&
    decide (le bs 12 4 = bs.length) && zeroAt bs 20 12 && zeroAt bs 272 240

/-- The whole header of an overlay, step 1 of Table 10-4: ID, PRIORITY and COUNT in range, and COUNT against LENGTH (Table 12-1). -/
def overlayHeader (bs : Bytes) : Bool :=
  configHeader bs [0x4D, 0x42, 0x4F, 0x56] 12288 && decide (1 ≤ le bs 8 2 ∧ byteAt bs 10 ≤ 15) &&
    decide (1 ≤ le bs 16 4 ∧ le bs 16 4 ≤ 736 ∧ 512 + 16 * le bs 16 4 = bs.length)

/-- An overlay image that does not verify: the final code, the step of Table 10-4, and the byte offset of a record that fails on its own
(R342, R345). -/
structure OverlayFault where
  code   : Nat
  step   : Nat
  argOff : Nat := 0xFFFF
  deriving DecidableEq, Repr

/-- An overlay image verified under R342, in the order of Table 10-4: its header before the key, its records after the digest. -/
def verifyOverlay (bs : Bytes) : Except OverlayFault Slot :=
  let rs := parseRecs bs 512 (le bs 16 4)
  if !overlayHeader bs then .error ⟨stBadArg, 1, 0xFFFF⟩
  else match verifyConfig bs with
    | some k => .error ⟨stVerify, k, 0xFFFF⟩
    | none =>
      if schemaMax < le bs 4 2 then .error ⟨stVersion, 5, 0xFFFF⟩
      else match (List.range rs.length).find? fun k => !(rs[k]?.all Rec.ok) with
        | some k => .error ⟨stBadArg, 1, 512 + 16 * k⟩
        | none => .ok { id := le bs 8 2, state := .stored, version := word (le bs 4 2 * 65536 + le bs 6 2), priority := byteAt bs 10
                        records := rs, image := bs, top := bs.length }

/-- A section: its type and its content. -/
structure Section where
  type    : Nat
  content : Bytes
  deriving DecidableEq, Repr

/-- n sections from an offset, and where they end. -/
def parseSections (bs : Bytes) : Nat → Nat → Option (List Section × Nat)
  | 0, i => some ([], i)
  | n + 1, i =>
    let len := le bs (i + 4) 4
    if bs.length < i + 8 + len ∨ !zeroAt bs (i + 1) 3 then none
    else (parseSections bs n ((i + 8 + len + 7) / 8 * 8)).map fun r => (⟨byteAt bs i, slice bs (i + 8) len⟩ :: r.1, r.2)

/-- An overlay that a base embeds: AT_BOOT and the overlay. -/
def parseEmbedded (c : Bytes) : Option (Bool × Slot) :=
  if 1 < byteAt c 0 ∨ !zeroAt c 1 7 then none
  else match verifyOverlay (c.drop 8) with
    | .ok x => some (byteAt c 0 == 1, x)
    | .error _ => none

/-- A MODELS section's entries: id, offset, length, digest. -/
def parseModels (c : Bytes) : List (Nat × Nat × Nat × Bytes) :=
  (List.range (c.length / 64)).map fun i => (le c (64 * i) 2, le c (64 * i + 4) 4, le c (64 * i + 8) 4, slice c (64 * i + 16) 48)

/-- The whole header of a base (Table 12-1). -/
def baseHeader (bs : Bytes) : Bool :=
  configHeader bs [0x4D, 0x42, 0x43, 0x46] 1048576 && decide (le bs 8 2 = 0 ∧ byteAt bs 10 = 0)

/-- A base configuration and its embedded overlays, in section order (R343). -/
def parseBase (bs : Bytes) : Option (Base × List (Bool × Slot)) :=
  if !baseHeader bs then none
  else match parseSections bs (le bs 16 4) 512 with
    | none => none
    | some (ss, fin) =>
      let of (t : Nat) : List Bytes := (ss.filter (·.type == t)).map (·.content)
      let perf := (of 1).headD []
      let recs := (of 2).headD []
      let modes := (of 3).map fun c => (byteAt c 0, parseRecs c 8 ((c.length - 8) / 16), c)
      let sys := (of 4).headD []
      let tiles := (of 5).headD []
      let ports := (of 6).headD []
      let ovl := (of 7).map parseEmbedded
      let models := (of 8).flatMap parseModels
      let small := ((ss.filter fun x => decide (x.type ≠ 7 ∧ x.type ≠ 8)).map fun x => x.content.length + 8).sum
      let ids := modes.map (·.1)
      let ok := ss.all (fun x => decide (1 ≤ x.type ∧ x.type ≤ 8)) &&
        decide ((of 1).length = 1 ∧ (of 2).length ≤ 1 ∧ (of 4).length = 1 ∧ (of 5).length = 1 ∧ (of 6).length = 1) &&
        decide (perf.length = 8192 ∧ recs.length % 16 = 0 ∧ sys.length = 16 ∧ tiles.length = 256 ∧ ports.length = 128) &&
        ((List.range 4096).all fun i => let c := le perf (2 * i) 2; decide (c = 0 ∨ (160 ≤ c ∧ c ≤ 1280))) &&
        (parseRecs recs 0 (recs.length / 16)).all Rec.ok &&
        (modes.all fun m => decide (1 ≤ m.1 ∧ m.1 ≤ 5 ∧ 8 ≤ m.2.2.length ∧ m.2.2.length % 16 = 8) && zeroAt m.2.2 1 7 && m.2.1.all Rec.ok) &&
        decide (ids.eraseDups.length = ids.length) && ids.contains 1 && ids.contains (byteAt sys 0) && zeroAt sys 4 12 &&
        (tiles.all fun b => decide (b.toNat < 16 ∨ b.toNat = 255)) && ((List.range 64).all fun p => validRegion (le ports (2 * p) 2)) &&
        ovl.all (·.isSome) && decide (ovl.length ≤ 15) &&
        (decide (le sys 2 2 = 0) || ovl.any fun o => match o with
          | some (_, x) => decide (x.id = le sys 2 2)
          | none => false) &&
        (of 8).all (fun c => decide (c.length % 64 = 0) && (List.range (c.length / 64)).all fun i => zeroAt c (64 * i + 2) 2 && zeroAt c (64 * i + 12) 4) &&
        (models.all fun m => decide (fin ≤ m.2.1 ∧ m.2.1 + m.2.2.1 ≤ bs.length)) && decide (small ≤ 24576)
      if ok then
        some ({ image := bs, version := word (le bs 4 2 * 65536 + le bs 6 2), perf := perf
                records := parseRecs recs 0 (recs.length / 16), modes := modes.map fun m => (m.1, m.2.1)
                defaultMode := byteAt sys 0, expertMask := BitVec.ofNat 8 (byteAt sys 1) ||| 0x80, throttleId := le sys 2 2
                tiles := tiles, ports := ports, models := models, damaged := false }, ovl.filterMap id)
      else none

/-- A base configuration verified under R342. -/
def verifyBase (bs : Bytes) : Option (Base × List (Bool × Slot)) :=
  if baseHeader bs && (verifyConfig bs).isNone && decide (le bs 4 2 ≤ schemaMax) then parseBase bs else none

/-- What the base's area of the configuration partition holds: the header and every section except those of types 7 and 8 (Table 12-4),
each at a multiple of 8 bytes as in the image (log 67). -/
def Base.area (b : Base) : Bytes :=
  let ss := ((parseSections b.image (le b.image 16 4) 512).map (·.1)).getD []
  b.image.take 512 ++ (ss.filter fun x => decide (x.type ≠ 7 ∧ x.type ≠ 8)).flatMap fun x =>
    toLE 1 x.type ++ zeros 3 ++ toLE 4 x.content.length ++ padTo ((x.content.length + 7) / 8 * 8) x.content

/-- The base with the highest version that verifies, the earliest slot on a tie (R347). -/
def pickBase : List (Option Bytes) → Option (Base × List (Bool × Slot))
  | [] => none
  | x :: xs =>
    let rest := pickBase xs
    match x.bind verifyBase, rest with
    | some a, some b => if a.1.version.toNat < b.1.version.toNat then some b else some a
    | some a, none => some a
    | none, r => r

/-! ### The throttle overlay and Limp (R356, R418) -/

/-- The throttle overlay's slot, where it can be applied: configured, not empty and not damaged. -/
def State.throttleSlot (s : State) : Option Slot :=
  if s.throttleId = 0 then none
  else match s.slotOf s.throttleId with
    | some k => if (s.slot k).damaged then none else some (s.slot k)
    | none => none

/-- A change that takes a fence without the host: it joins one armed at least 4,096 ns ahead, and every later one; otherwise it
takes its own at the first multiple of 4,096 ns at least 4,096 ns ahead (R356). -/
def State.joinFence (s : State) (kind : FenceKind) (f : Layers → Layers) (mark : Fence → Fence) : State :=
  if s.cfg.fences.any fun e => decide (s.now + 4096 ≤ e.f) then
    let rec walk : List Fence → Bool → List Fence
      | [], _ => []
      | e :: es, joined =>
        if s.now + 4096 ≤ e.f then
          (if joined then { e with layers := f e.layers } else mark { e with layers := f e.layers }) :: walk es true
        else e :: walk es joined
    { s with cfg := { s.cfg with fences := walk s.cfg.fences false } }
  else
    s.arm (mark ⟨s.fenceTime 4096, kind, f s.nextLayers, none, false, 0⟩)

/-- The throttle overlay called for (R258, R261, R356). Second component: the ceiling fallback applies, because it is not
available. -/
def State.callThrottle (s : State) : State × Bool :=
  if s.nextLayers.throttle.isSome then (s, false)
  else match s.throttleSlot with
    | none => (s, true)
    | some x =>
      let l := s.nextLayers
      if !s.passes l { l with throttle := some x.records } false then (s, true)
      else (s.joinFence .throttle (fun l => { l with throttle := some x.records }) fun e => { e with throttle := true }, false)

/-- Regions DEAD now. -/
def State.deadCount (s : State) : Nat := (s.reg.filter fun e => e.2.chan.st = .dead).length

/-- The lowest Limp trigger that holds (R418). -/
def State.limpTrigger (s : State) : Option Nat :=
  if s.sys.limp1 then some 1
  else if s.opt.lostTone ∨ s.opt.lostSlot then some 2
  else if s.sys.limp3 then some 3
  else if 16 ≤ s.deadCount then some 4
  else match s.sns.severe with
    | some t => if t + 1000000000 ≤ s.now then some 5 else none
    | none => none

/-- Limp's layers: the base's Limp section, or an empty one. -/
def State.limpLayers (s : State) (l : Layers) : Layers :=
  { l with mode := 5, modeRecs := ((s.cfg.base.bind fun b => (b.modes.find? (·.1 == 5)).map (·.2))).getD [] }

/-- Limp entered for a trigger: at a fence as the throttle overlay takes, or at hold exit. -/
def State.toLimp (s : State) (trigger : Nat) : State :=
  if s.nextLayers.mode = 5 then s
  else if s.inHold then { s with sys := { s.sys with limpDue := if s.sys.limpDue = 0 then trigger else s.sys.limpDue } }
  else if !s.passes s.nextLayers (s.limpLayers s.nextLayers) false then s
  else s.joinFence .limp s.limpLayers fun e => { e with limp := trigger }

/-- LIMP_ENTER: a trigger of R418 holds. -/
def execLimpEnter (s : State) : Out :=
  match s.limpTrigger with
  | some t => if s.active.isSome ∧ s.sys.bootStep = 11 then .next (s.toLimp t) else .next s
  | none => .next s

/-- SEVERE_SUSTAINED: the package level has been SEVERE or above for 1 s, trigger 5 (R418). -/
def execSevereSustained (s : State) : Out :=
  match s.sns.severe with
  | some t => if t + 1000000000 ≤ s.now ∧ s.active.isSome ∧ s.sys.bootStep = 11 then .next (s.toLimp 5) else .next s
  | none => .next s

/-! ### Rows -/

/-- What a fence's kind leaves: slots, handles, answers and events (R351, R354, R355, R347, R418). -/
def State.fenceDone (s : State) (e : Fence) (was : Layers) : State :=
  let say (k id : Nat) (s : State) : State := s.raise evConfigFence (k + at_ id 16)
  let s := match e.image with
    | some (k, _, x) => s.modSlot k fun _ => { x with state := .inForce }
    | none => s
  let s := match e.kind with
    | .boot =>
      let mask : BitVec 8 := match s.cfg.base with
        | some b => b.expertMask
        | none => 0xFF
      { s with
        mbx := { s.mbx with expert := mask }
        cfg := { s.cfg with slots := s.cfg.slots.map fun (x : Slot) => if x.state = SlotState.awaiting then { x with state := SlotState.inForce } else x }
        sys := { s.sys with bootStep := 9, release := some ⟨0, e.f + 256, false⟩ } }
    | .overlay id h => (say 0 id s).finishOp h .completed stOk
    | .withdraw id m =>
      let s := match s.slotOf id with
        | some k => s.modSlot k fun x => if x.damaged then { top := x.top } else { x with state := .stored }
        | none => s
      (say 1 id s).complete m (okReply (toLE 8 e.f))
    | .mode m _ => (say 2 0 s).complete m (okReply (toLE 8 e.f))
    | .throttle => say 0 s.throttleId s
    | .limp => say 3 0 s
  let s := if e.throttle then (match s.slotOf s.throttleId with
      | some k => s.modSlot k fun x => { x with state := .inForce }
      | none => s) else s
  let s := s.raiseIf (decide (was.mode = 5 ∧ e.layers.mode ≠ 5)) evLimpExit ((s.limpTrigger).getD 0)
  s.raiseIf (decide (e.limp ≠ 0)) evLimpEnter e.limp

/-- REGION_FENCE: the first armed fence, at its F: every block takes the whole change (R352). -/
def execRegionFence (s : State) : Out :=
  match s.cfg.fences with
  | [] => .next s
  | e :: es =>
    if s.now < e.f then .next s
    else
      let was := s.cfg.layers
      let s := s.applyLayers was e.layers e.f
      let s := { s with cfg := { s.cfg with layers := e.layers, fences := es, lastFence := e.f, orders := s.cfg.orders + 1 } }
      .next (s.fenceDone e was)

/-- What the boot source serves in configuration slot i: an I/O die that passed the census serves its slots while it is not LOST
(R347, R372). -/
def State.bootConfig (s : State) (i : Nat) : Option Bytes :=
  let st := (s.dieAt (17 + i / 2)).st
  if st = .census ∨ st = .running then s.sys.env.config.getD i none else none

/-- The base can be read again: its boot-source slot serves it, and it verifies (R357). -/
def State.rereads (s : State) : Bool := ((s.bootConfig s.cfg.baseSlot).bind verifyBase).isSome

/-- An uncorrectable word of the configuration partition (R357). -/
def State.configLost (s : State) (area : ConfigArea) : State :=
  match area with
  | .base =>
    match s.cfg.base with
    | none => s
    | some _ =>
      if s.rereads ∨ s.cfg.lost then s
      else ({ s with cfg := { s.cfg with lost := true, base := s.cfg.base.map fun b => { b with damaged := true } } } : State).raise evConfigLost 0
  | .slot k =>
    match (s.slot k).state with
    | .empty => s
    | .stored => (s.modSlot k fun x => { top := x.top }).raise evConfigLost 0
    | _ => s.modSlot k fun x => { x with damaged := true }

/-- CONFIG_WORD_LOST (R357). -/
def execConfigWordLost (area : ConfigArea) (s : State) : Out := .next (s.configLost area)

/-! ### Commands (R335) -/

/-- STATE of a slot (Table 11-14). -/
def SlotState.code : SlotState → Nat
  | .empty => 0
  | .stored => 1
  | .inForce => 2
  | .awaiting => 3

/-- CONFIG_QUERY. -/
def cmdConfigQuery (_ : Req) (s : State) : Result :=
  let n := (List.range 16).filter fun k => decide ((s.slot k).state = .inForce)
  .done (okReply (toLE 1 s.cfg.layers.mode ++ toLE 1 n.length ++ zeros 2 ++ toLE 4 ((s.cfg.base.map (·.version.toNat)).getD 0) ++
    (List.range 16).flatMap fun k =>
      let x := s.slot k
      toLE 2 x.id ++ toLE 1 x.state.code ++ zeros 1 ++ toLE 4 x.version.toNat)) s

/-- CONFIG_QUERY, the command (R335). -/
def execConfigQuery (q : Req) (s : State) : Out := .next (s.submit 0x0A01 cmdConfigQuery q)

/-- An overlay that has passed verification goes to its slot's fence, or its handle ends (R345, R348, R354). -/
def State.applyOverlay (s : State) (h : Nat) (x : Slot) : State :=
  let fail (st : Nat) : State := s.finishOp h .failed st
  let k := (s.slotOf x.id).orElse fun _ => (List.range 16).find? fun k => decide ((s.slot k).state = .empty)
  match k with
  | none => fail stFull
  | some k =>
    let l := s.nextLayers
    let new := s.withOverlay l x (s.cfg.orders + s.cfg.fences.length + 1)
    if s.changeBarred x.id ∨ l.mode = 0 ∨ !s.passes l new true then fail stRefused
    else
      let old := s.slot k
      let x := { x with top := max x.top old.top }
      let s := s.modSlot k fun _ => { x with state := .awaiting, damaged := false, order := s.cfg.orders + 1 }
      let s := s.modOp h fun o => { o with step := 4, target := x.id }
      s.arm ⟨s.fenceTime 20000, .overlay x.id h, new, some (k, old, { x with state := .inForce, damaged := false }), false, 0⟩

/-- An expert image complete in the staging area: verified, checked, and its fence armed (R354 steps 2-4). -/
def State.overlayStaged (s : State) (h : Nat) : State :=
  match verifyOverlay s.cfg.staging with
  | .error e => (s.modOp h fun o => { o with verify := e.step, argOff := e.argOff }).finishOp h .failed e.code
  | .ok x => (s.modOp h fun o => { o with step := 3 }).applyOverlay h x

/-- A change that stopped for hold is given a new fence (Table 12-6). -/
def State.refence (s : State) (e : Fence) : State :=
  match e.kind, e.image with
  | .overlay _ h, some (_, _, x) =>
    match (s.handle h).op with
    | some o =>
      if o.st = .running then s.applyOverlay h x
      else if o.st = .suspended then { s with cfg := { s.cfg with stopped := s.cfg.stopped ++ [e] } } else s
    | none => s
  | _, _ => s

/-- OVERLAY_APPLY. -/
def cmdOverlayApply (q : Req) (s : State) : Result :=
  if q.level then
    let n := q.le 4 4
    if q.le 0 2 ≠ 0 then refuse (badArg 0) s
    else if n = 0 ∨ 12288 < n then refuse (badArg 4) s
    else if s.changing then refuse (busyReply 0) s
    else
      s.startOp q { newOp .overlayApply .receiving s.now with total := n, expert := true, step := 1 } fun _ s =>
        { s with cfg := { s.cfg with staging := [] } }
  else
    match s.slotOf (q.le 0 2) with
    | some k =>
      if (s.slot k).state ≠ .stored then refuse (badArg 0) s
      else if s.changing then refuse (busyReply 0) s
      else
        s.startOp q { newOp .overlayApply .running s.now with target := q.le 0 2, step := 3 } fun i s =>
          s.applyOverlay i (s.slot k)
    | none => refuse (badArg 0) s

/-- OVERLAY_APPLY, the command (R354). -/
def execOverlayApply (q : Req) (s : State) : Out := .next (s.submit 0x0A02 cmdOverlayApply q)

/-- OVERLAY_WITHDRAW. -/
def cmdOverlayWithdraw (q : Req) (s : State) : Result :=
  let id := q.le 0 2
  let l := s.nextLayers
  if id = 0 ∨ !s.layerHas l id then refuse (badArg 0) s
  else if s.changing then refuse (busyReply 0) s
  else
    let new := s.withoutOverlay l id
    if !s.passes l new true then refuse (codeReply stRefused) s
    else
      let f := s.fenceTime 20000
      .wait (.fence f) (s.arm ⟨f, .withdraw id q.mbx, new, none, false, 0⟩)

/-- OVERLAY_WITHDRAW, the command (R355). -/
def execOverlayWithdraw (q : Req) (s : State) : Out := .next (s.submit 0x0A03 cmdOverlayWithdraw q)

/-- MODE_SET. -/
def cmdModeSet (q : Req) (s : State) : Result :=
  let m := q.u8 0
  let l := s.nextLayers
  let recs := s.cfg.base.bind fun b => (b.modes.find? (·.1 == m)).map (·.2)
  if m = 0 ∨ 5 < m then refuse (badArg 0) s
  else if s.changing then refuse (busyReply 0) s
  else match recs with
    | none => refuse (codeReply stRefused) s
    | some rs =>
      if m ≠ 5 ∧ s.limpTrigger.isSome then refuse (codeReply stRefused) s
      else if l.mode = m ∧ s.cfg.fences.isEmpty then .done (okReply (toLE 8 s.cfg.lastFence)) s
      else
        let new := { l with mode := m, modeRecs := rs }
        if s.changeBarred 0 ∨ !s.passes l new true then refuse (codeReply stRefused) s
        else
          let f := s.fenceTime 20000
          .wait (.fence f) (s.arm ⟨f, .mode q.mbx m, new, none, false, 0⟩)

/-- MODE_SET, the command (R350). -/
def execModeSet (q : Req) (s : State) : Out := .next (s.submit 0x0A04 cmdModeSet q)

end Sys2Proof.Machine
end

