-- ==== Sys2Proof/Machine/Sensing.lean ====
section
/-! DEFINITION. Sensing, thermometry, throttling and wear (09 R250-R275; 11 R333, R334). -/
namespace Sys2Proof.Machine

/-! ### Settings (Table 9-7) -/

/-- AUTO_OVERLAY. -/
def State.autoOverlay (s : State) : Bool := bitOf s.sns.ctrl.eff 0
/-- CEIL_MAX. -/
def State.ceilMax (s : State) : Nat := fld s.sns.ceil.eff 28 16
/-- CEIL_START. -/
def State.ceilStart (s : State) : Nat := fld s.sns.ceil.eff 12 0
/-- Entry threshold of a level 1-4, in 1/16 degree (Table 9-2). -/
def State.levelTh (s : State) (l : Nat) : Int := 16 * fld s.sns.thresh.eff (8 * l - 1) (8 * l - 8)
/-- A site's thermal state changed. -/
def State.modTherm (s : State) (i : Nat) (f : SiteTherm → SiteTherm) : State :=
  { s with sns := { s.sns with site := vmod s.sns.site i f } }

/-- A tile changed. -/
def State.modTile (s : State) (t : Nat) (f : Tile → Tile) : State :=
  { s with sns := { s.sns with tile := vmod s.sns.tile t f } }

/-- The sites that overlap a tile: up to four of sites 0-15, and site 16 (R253). -/
def State.tileSites (s : State) (t : Nat) : List Nat :=
  (match s.cfg.base with
    | some b => (((List.range 4).map fun i => byteAt b.tiles (4 * t + i)).filter fun x => decide (x < 16)).eraseDups
    | none => []) ++ [16]

/-- The tiles that overlap a site. -/
def State.siteTiles (s : State) (i : Nat) : List Nat := (List.range 64).filter fun t => (s.tileSites t).contains i

/-! ### Region sensors (R252) -/

/-- A region's sensor is faulted. -/
def Region.sensorBad (g : Region) : SensorKind → Bool
  | .adc => g.badAdc
  | .diode => g.badDiode
  | .droop => g.badDroop

/-- A region's sensor marked. -/
def Region.markSensor (g : Region) (k : SensorKind) (bad : Bool) : Region :=
  match k with
  | .adc => { g with badAdc := bad }
  | .diode => { g with badDiode := bad }
  | .droop => { g with badDroop := bad }

/-- For 1 ms a sensor has stood out of its bounds, or within them. The droop detectors' readings are not held: the row tells of them (log
62). -/
def Region.sensorStands (g : Region) (k : SensorKind) (odd : Bool) (now : Nat) : Bool :=
  match k with
  | .adc => g.adcWatch.stands odd now
  | .diode => g.diodeWatch.stands odd now
  | .droop => true

/-- SENSOR_FAULT: a sensor out of range, or away from its district's median, for 1 ms. A faulted droop detector is not replaced. -/
def execSensorFault (r : RegionNo) (k : SensorKind) (s : State) : Out :=
  let g := s.rgn r
  if s.sys.pkgReset ∨ !s.regionExists r ∨ g.sensorBad k ∨ !g.sensorStands k true s.now then .next s
  else
    let s := s.modRgn r fun g => g.markSensor k true
    .next (({ s with sns := { s.sns with faults := sat16 s.sns.faults 1 } } : State).raise evSnsFault r)

/-- SENSOR_RECOVERED: a faulted sensor within bounds for 1 ms is used again. -/
def execSensorRecovered (r : RegionNo) (k : SensorKind) (s : State) : Out :=
  if s.sys.pkgReset ∨ !s.regionExists r ∨ !(s.rgn r).sensorStands k false s.now then .next s
  else .next (s.modRgn r fun g => g.markSensor k false)

/-! ### The throttle overlay and the ceiling fallback (R258, R261, Table 1-7) -/

/-- TC set at an instant. -/
def SiteTherm.setTc (x : SiteTherm) (now v : Nat) : SiteTherm :=
  { x with tc := v, tcWas := if x.tcAt = some now then x.tcWas else x.tc, tcAt := some now }

/-- TC as a boundary at an instant finds it: a change of that very instant governs from the next (R421). -/
def SiteTherm.tcFor (x : SiteTherm) (now : Nat) : Nat := if x.tcAt = some now then x.tcWas else x.tc

/-- The ceiling fallback: the TC of some sites is CEIL_MAX at once, but after TRIP (R258, Table 9-6). -/
def State.ceilingFallback (s : State) (sites : List Nat) (arg : Nat) : State :=
  let m := s.ceilMax
  let s := if s.sys.trip then s
    else sites.foldl (fun s i => s.modTherm i fun x => { x.setTc s.now m with fbAt := some s.now }) s
  s.raise evThermNoOverlay arg

/-- The throttle overlay is called for, or in hold waits for hold's end; where it is not available, the ceiling fallback for
some sites stands for it. OVERLAY_PENDING tells only of an overlay that is there to wait (Table 9-7). -/
def State.throttleCall (s : State) (sites : List Nat) (arg : Nat) (wait : Sns → Sns) : State :=
  if !s.autoOverlay then s
  else if s.inHold then
    (if s.cfg.layers.throttle.isSome then s else { s with sns := { wait s.sns with overlayDue := s.sns.overlayDue || s.throttleSlot.isSome } })
  else
    let (s, fallback) := s.callThrottle
    if fallback then s.ceilingFallback sites arg else s

/-- ARG of the events of a tile (Table 15-6). -/
def State.tileArg (s : State) (t : Nat) : Nat :=
  t + at_ (unsigned 12 (s.tile t).tElec) 6 + at_ (unsigned 12 (s.tile t).tRing) 18

/-- The call for an established disagreement. -/
def State.throttleTile (s : State) (t : Nat) : State :=
  s.throttleCall (s.tileSites t) (s.tileArg t) fun x => { x with dueTiles := addKey t x.dueTiles }

/-- The call for a site's entry into SEVERE. -/
def State.throttleSite (s : State) (i : Nat) : State :=
  s.throttleCall [i] i fun x => { x with dueSites := addKey i x.dueSites }

/-- Hold has ended: calls that waited are made where their cause persists (Table 1-7). -/
def State.throttleDue (s : State) : State :=
  let ts := s.sns.dueTiles
  let is := s.sns.dueSites
  let s := { s with sns := { s.sns with overlayDue := false, dueTiles := [], dueSites := [] } }
  let s := ts.foldl (fun s t => if (s.tile t).trusted then s.throttleTile t else s) s
  is.foldl (fun s i => if 3 ≤ (s.therm i).level then s.throttleSite i else s) s

/-! ### Rings and electrical sensors (R254-R259) -/

/-- The mean of an electrical sensor over its valid samples; none where no sample is valid (R254). -/
def elecMean (xs : List Int) : Option Int :=
  let ok := (xs.take 64).filter fun x => decide (-640 ≤ x ∧ x ≤ 2047)
  if ok.isEmpty then none else some (meanT ok)

/-- A ring's temperature from its resonance in pm: T_seed + (λ - λ_seed) / k, reported to 1/16 degree (R255). Which of two neighbouring
codes stands for a value between them is open (log 62). -/
def State.ringCode (s : State) (t j : Nat) (l : Int) : Int :=
  let k : Nat := Config.ringK (s.fuse 16) t j
  let n := 16000 * (l - Config.ringLambda (s.fuse 16) t j)
  let q := fdiv n k
  Config.ringTemp (s.fuse 16) t j + q + (if q * k ≠ n ∧ Config.ringUp t j l then 1 else 0)

/-- The readings of a tile's rings (R255). -/
def State.ringCodes (s : State) (t : Nat) (ls : List (Option Int)) : List (Option Int) :=
  ls.mapIdx fun j l => l.map (s.ringCode t j)

/-- The rings of a tile that are valid: found, and within 10 K of the median of those found (R256). -/
def validRings (rings : List (Option Int)) : List Int :=
  let found := (rings.take 8).filterMap id
  found.filter fun x => decide ((2 * x - median2 found).natAbs ≤ 320)

/-- The largest of some temperatures. -/
def maxT : List Int → Option Int
  | [] => none
  | x :: xs => some (xs.foldl max x)

/-- The tone role has a carrier, and has had one throughout the sweep (R255, R256). -/
def State.toneUp (s : State) : Bool := !s.opt.dark && !s.opt.lostTone && !s.opt.failed.contains s.opt.tone

/-- A temperature that the rules leave without a value: the mean of no sensors (log 6). -/
def State.drawTemp (s : State) : Int × State :=
  let (n, s) := s.draw
  (signed 12 n, s)

/-- A tile's new readings (R254, R256). -/
def State.readTile (s : State) (t : Nat) (m : TileMeas) : State :=
  let means := (m.elec.take 4).filterMap elecMean
  let rings := if s.toneUp then validRings (s.ringCodes t m.rings) else []
  let (e, s) := match maxT means with
    | some x => (x, s)
    | none => s.drawTemp
  let (r, s) := if rings.isEmpty then s.drawTemp else (meanT rings, s)
  s.modTile t fun x =>
    { x with
      tElec := e, tRing := r, elecs := means.length, rings := rings.length
      okElec := decide (2 ≤ means.length), okRing := decide (5 ≤ rings.length)
      lastRing := if 5 ≤ rings.length then r else x.lastRing
      bad := if 5 ≤ rings.length then 0 else x.bad + 1 }

/-- The comparison on a tile whose disagreement is not established; second component: it is established now (R257). -/
def Tile.compare (x : Tile) (now : Nat) : Tile × Bool :=
  if x.okRing ∧ x.okElec ∧ 96 < x.tRing - x.tElec then
    match x.first with
    | none => ({ x with first := some now, count := 0, gov := x.tElec }, false)
    | some f =>
      if f + 10000000 < now then ({ x with trusted := true, first := none, count := 0, gov := x.tRing }, true)
      else ({ x with count := x.count + 1, gov := x.tElec }, false)
  else ({ x with first := none, count := 0, gov := x.tElec }, false)

/-- The comparison on a tile whose rings are trusted; second component: the disagreement clears (R258, R259). -/
def Tile.agree (x : Tile) (now : Nat) : Tile × Bool :=
  if !x.okRing then ({ x with count := 0, gov := max x.lastRing (x.tElec + 96) }, false)
  else if x.okElec ∧ x.tRing - x.tElec ≤ 64 then
    if 39 ≤ x.count + 1 then ({ x with trusted := false, count := 0, gov := x.tElec, clearAt := some now }, true)
    else ({ x with count := x.count + 1, gov := x.tRing }, false)
  else ({ x with count := 0, gov := x.tRing }, false)

/-- A tile at a ring period. -/
def State.ringTile (s : State) (t : Nat) (m : TileMeas) : State :=
  let s := s.readTile t m
  let s := s.raiseIf (decide ((s.tile t).bad = 4)) evRingFault (s.tileArg t)
  let x := s.tile t
  if x.trusted then
    let (y, clears) := x.agree s.now
    (s.modTile t fun _ => y).raiseIf clears evThermAgree (s.tileArg t)
  else
    let (y, sets) := x.compare s.now
    let s := s.modTile t fun _ => y
    if sets then
      let s := s.raise evThermDisagree (s.tileArg t)
      let s := { s with sns := { s.sns with disagree := sat16 s.sns.disagree 1 } }
      s.throttleTile t
    else s

/-- RING_PERIOD: a sweep of all rings completes at each multiple of 262,144 ns (R255-R259). -/
def execRingPeriod (ms : List TileMeas) (s : State) : Out :=
  if !s.sys.epoch ∨ s.now % 262144 ≠ 0 ∨ s.now ≤ s.sns.ringAt then .next s
  else
    let s := { s with sns := { s.sns with ringAt := s.now } }
    let s := (List.range 64).foldl (fun s t => s.ringTile t (ms.getD t ⟨[], []⟩)) s
    .next { s with opt := { s.opt with dark := s.opt.lostTone || s.opt.failed.contains s.opt.tone } }

/-! ### Levels and ceilings (R260-R262) -/

/-- A site's governing temperature; none where nothing measures it (R260, Table 9-6). -/
def State.siteGov (s : State) (i : Nat) : Option Int :=
  let tiles := (s.siteTiles i).map fun t => (s.tile t).gov
  if i = 16 then maxT tiles
  else
    let own := if (s.dieAt i).st = .lost then [] else (siteRegions i).filterMap fun r =>
      let g := s.rgn r
      if s.regionExists r ∧ !g.badDiode ∧ 0 < g.acc.n then some g.acc.tMax else none
    maxT (tiles ++ own)

/-- The level that a temperature leaves (R261): it rises to every threshold reached, and falls one step at 3 K below the
current one; TRIP never falls. -/
def State.levelAt (s : State) (l : Nat) (t : Int) : Nat :=
  let up := (List.range 5).foldl (fun a k => if a < k ∧ s.levelTh k ≤ t then k else a) l
  if l < up then up
  else if 0 < l ∧ l < 4 ∧ t ≤ s.levelTh l - 48 then l - 1 else l

/-- Entry of a site into one level (Table 9-2). -/
def State.enterLevel (s : State) (i l : Nat) : State :=
  if l = 1 then s.raise evThermWarn i
  else if l = 3 then (s.throttleSite i).raise evThermSevere i
  else if l = 4 then
    let s := s.raise evThermTrip i
    { s with sys := { s.sys with trip := true }, sns := { s.sns with throt := s.sns.throt ||| word (2 ^ 28) } }
  else s

/-- A site's level at a frame end. -/
def State.siteLevel (s : State) (i : Nat) : State :=
  match s.siteGov i with
  | none => s
  | some t =>
    let was := (s.therm i).level
    let l := s.levelAt was t
    let s := s.modTherm i fun x => { x with level := l }
    (List.range (l - was)).foldl (fun s k => s.enterLevel i (was + 1 + k)) s

/-- R262 at the frame end e; a fallback since then stands until the next, and TRIP's 1,280 for good. -/
def SiteTherm.ceiling (x : SiteTherm) (trip : Bool) (start most now e : Nat) : SiteTherm :=
  let hot := decide (2 ≤ x.level)
  let tc :=
    if trip then 1280
    else if x.fbAt.any fun t => decide (e ≤ t) then x.tc
    else if hot then (if x.prev then min most (max x.tc start + 16) else max x.tc start)
    else if x.tc - 16 < start then 160 else x.tc - 16
  { (if tc = x.tc then x else x.setTc now tc) with prev := hot, fbAt := none }

/-- The highest level of any site (R260). -/
def State.topLevel (s : State) : Nat := allSites.foldl (fun m i => max m (s.therm i).level) 0

/-- The package level: the coolant outlet can raise it to WARN (R260, R263). -/
def State.packageLevel (s : State) : Nat :=
  let hot := !s.sns.coolStale && decide ((16 * fld s.sns.ctrl.eff 31 24 : Int) ≤ s.sns.outlet)
  if hot then max 1 s.topLevel else s.topLevel

/-- FLOW_REQ (R261, R263, R264). -/
def State.flowReq (s : State) : Nat :=
  let f := min 3 s.packageLevel
  if s.sns.coolStale then max 1 f
  else if (16 * fld s.sns.ctrl.eff 23 16 : Int) < s.sns.outlet - s.sns.inlet then min 3 (f + 1) else f

/-- MB_SNS_THROTREQ (R265). -/
def State.throtWord (s : State) : Nat :=
  at_ (b2n s.sys.trip) 28 + at_ (min 3 s.packageLevel) 26 + at_ s.flowReq 24 +
    bitmap (allSites.filter fun i => decide (2 ≤ (s.therm i).level))

/-! ### The sensor frame (R266) -/

/-- One district's record: the two temperatures and the deficit of a district no window of which ended in the frame are open
(log 6). -/
def State.districtRec (s : State) (d : Nat) : Bytes :=
  let gs := ((districtRegions d).map fun r => (s.rgn r).acc).filter fun a => decide (0 < a.n)
  let held := (districtRegions d).any s.sys.droop.contains
  let n := (gs.map (·.n)).sum
  let sum := (gs.map (·.tSum)).sum
  let head : Bytes := match maxT (gs.map (·.tMax)), maxT (gs.map (·.worst)) with
    | some t, some w => toLE 2 (unsigned 12 t) ++ toLE 2 (unsigned 12 (fdiv (2 * sum + n) (2 * n))) ++ toLES 1 (clampI (-128) 127 w)
    | _, _ => (List.range 5).map fun k => Config.freeByte s.fresh (8 * d + k)
  head ++ toLE 1 (min 255 ((gs.map (·.trips)).sum / 16)) ++ toLE 1 (min 255 ((gs.map (·.sMax)).foldl max 0)) ++
    toLE 1 (b2n (gs.any (·.spent)) + 2 * b2n (gs.any (·.range)) + 4 * b2n held)

/-- A tile's record (Table 9-4). -/
def Tile.bytes (x : Tile) : Bytes :=
  toLE 2 (unsigned 12 x.tElec) ++ toLE 2 (unsigned 12 x.tRing) ++ toLE 1 x.rings ++ toLE 1 x.elecs ++ toLE 1 x.state.code ++ zeros 1

/-- The frame of 3,072 bytes (Table 9-4). -/
def State.frameBytes (s : State) : Bytes :=
  toLE 8 (s.now / 65536 * 65536) ++ toLE 8 s.sns.seq ++ zeros 48 ++ (List.range 256).flatMap s.districtRec ++
    (List.range 64).flatMap (fun t => (s.tile t).bytes) ++
    toLE 2 (unsigned 12 s.sns.inlet) ++ toLE 2 (unsigned 12 s.sns.outlet) ++ toLE 2 (fld s.sns.budget.img 15 0) ++
    toLE 1 s.packageLevel ++ toLE 1 s.flowReq ++ toLE 1 (b2n s.sns.coolStale + 2 * b2n s.sns.budgetStale) ++ zeros 55 ++ zeros 384

/-- One frame written over the oldest. -/
def State.writeFrame (s : State) : State :=
  { s with
    fresh := s.fresh + 1
    sns := { s.sns with frames := (s.frameBytes :: s.sns.frames).take 170, seq := s.sns.seq + 1 } }

/-! ### Wear (R267-R270) -/

/-- count(f, x, h) of R268. -/
def Field.cycle (f : Field) (x h : Nat) : Field :=
  if 320 < x then
    let w := if x ≤ 640 then 1 else if x ≤ 960 then 4 else 9
    { f with cyc := min 0xFFFFFFFF (f.cyc + h), dmg := min 0xFFFFFFFF (f.dmg + h * w) }
  else f

/-- The four-point rule on a stack held newest first (R268). -/
def Field.fold : Nat → Field → List Int → Field × List Int
  | n + 1, f, d :: c :: b :: a :: rest =>
    let x := (b - c).natAbs
    if (a - b).natAbs < x ∨ (c - d).natAbs < x then (f, d :: c :: b :: a :: rest)
    else Field.fold n (f.cycle x 2) (d :: a :: rest)
  | _, f, st => (f, st)

/-- A reversal processed (R268). -/
def Field.push (f : Field) (v : Int) : Field :=
  let (f, st) := Field.fold 64 f (v :: f.stack.reverse)
  match st.reverse with
  | a :: b :: rest => if st.length = 64 then { f.cycle (a - b).natAbs 1 with stack := b :: rest } else { f with stack := a :: b :: rest }
  | l => { f with stack := l }

/-- A field's temperature at a frame end: a reversal when it moves back by more than 2 K from its running extreme (R268). -/
def Field.see (f : Field) (t : Int) : Field :=
  match f.ext with
  | none => { f with ext := some (t, t, none) }
  | some (lo, hi, none) =>
    if 32 < t - lo then { f.push lo with ext := some (t, t, some true) }
    else if 32 < hi - t then { f.push hi with ext := some (t, t, some false) }
    else { f with ext := some (min lo t, max hi t, none) }
  | some (lo, hi, some true) =>
    if 32 < hi - t then { f.push hi with ext := some (t, t, some false) } else { f with ext := some (lo, max hi t, some true) }
  | some (lo, hi, some false) =>
    if 32 < t - lo then { f.push lo with ext := some (t, t, some true) } else { f with ext := some (min lo t, hi, some false) }

/-- A bump field changed. -/
def State.modField (s : State) (k : Nat) (f : Field → Field) : State :=
  { s with sns := { s.sns with fields := Map.put {} s.sns.fields k (f (s.field k)) } }

/-- The bump fields' temperatures are those of the tiles beneath them (R267). -/
def State.fieldsSee (s : State) : State :=
  (List.range 161).foldl (fun s k => s.modField k fun f =>
    f.see (s.tile (s.fieldTile (k / 7) (k % 7))).gov) s

/-- Stress weight of Table 9-5 in 1/32: temperature, supply, role. -/
def stressWeight (t : Int) (above busy : Bool) : Nat :=
  let a := if t < 1040 then 1 else if t < 1200 then 2 else if t < 1360 then 4 else if t < 1520 then 8 else if t < 1680 then 16 else 32
  a * (if above then 2 else 1) * (if busy then 8 else 1)

/-- One region's oscillators at a frame end (R269): a failed oscillator and those of a LOST site gather nothing. -/
def State.stress (s : State) (r : RegionNo) : State :=
  let g := s.rgn r
  if g.acc.n = 0 ∨ (s.dieAt (siteOf r)).st = .lost ∨ g.chan.st = .dead then s
  else
    let t := fdiv (2 * g.acc.tSum + g.acc.n) (2 * g.acc.n)
    let act := stressWeight t g.acc.above true
    let twin := match g.chan.twin with
      | .standby => stressWeight t g.acc.above false
      | .busy => act
      | .failed => 0
    let a := if g.chan.activeB then twin else act
    let b := if g.chan.activeB then act else twin
    if g.chan.onSpare then
      let d := 2 * districtOf r
      let m := Map.put 0 s.sns.spare d (Map.get 0 s.sns.spare d + a)
      { s with sns := { s.sns with spare := Map.put 0 m (d + 1) (Map.get 0 m (d + 1) + b) } }
    else s.modRgn r fun g => { g with wearA := g.wearA + a, wearB := g.wearB + b }

/-- A bump field at its threshold: a spare group is inserted in place of one in use, skipping spares at the threshold (R270). -/
def State.fieldWear (s : State) (k : Nat) : State :=
  let f := s.field k
  if f.raised ∨ f.dmg < s.grpWearTh then s
  else
    let site := k / 7
    let g := k % 7
    let arg := site + at_ g 5
    let s := (s.modField k fun f => { f with raised := true }).raise evWearGroup arg
    match (List.range 4).find? fun q => decide (((s.site site).route q).group = g) with
    | none => s
    | some q =>
      if (s.sparesFor site 1 q true).isEmpty then s.raise evWearNoSpare arg
      else if s.siteWaits site then s.callRoute site 1 g q
      else s.requestIns { insertion 1 site g q none true false 2 with wear := true }

/-- The district spare pair is free (R39, R67, R270). -/
def State.pairFree (s : State) (d : Nat) : Bool := (Map.get none s.cal.taken d).isNone

/-- It is free, and no insertion of it is under way. -/
def State.pairIdle (s : State) (d : Nat) : Bool :=
  s.pairFree d && s.opt.ins.all fun x => !(decide (x.kind = 4) && decide (districtOf x.target = d))

/-- A region's oscillators at the threshold (R270). -/
def State.oscWear (s : State) (r : RegionNo) : State :=
  let g := s.rgn r
  let th := s.oscWearTh
  let b := g.chan.activeB
  if g.chan.st = .dead ∨ !s.regionExists r then s
  else
    let s := if th ≤ s.servingHours r b ∧ !(if b then g.wornB else g.wornA) then
        (s.modRgn r fun g => if b then { g with wornB := true } else { g with wornA := true }).raise evWearOsc r
      else s
    if th ≤ s.servingHours r false ∧ th ≤ s.servingHours r true ∧ !g.wornBoth then
      let s := s.modRgn r fun g => { g with wornBoth := true }
      if s.pairIdle (districtOf r) then s.requestIns (insertion 4 r 0 0 none true false 1) else s.raise evWearNoSpare r
    else s

/-- Thresholds of R270, with AUTO_WEAR. -/
def State.wearCheck (s : State) : State :=
  if !s.autoWear then s
  else
    let s := (s.sns.fields.map (·.1)).foldl State.fieldWear s
    (s.reg.map (·.1)).foldl State.oscWear s

/-- FRAME_END: the frame that ended at a multiple of 65,536 ns is evaluated, once, before the window that began there ends, so that the
summaries of the frame's last windows have come (R260-R270, R275; log 62). -/
def execFrameEnd (s : State) : Out :=
  let n := s.now / 65536 * 65536
  let done : Bool := match s.sns.frames with
    | f :: _ => decide (le f 0 8 = n)
    | [] => false
  if !s.sys.epoch ∨ 256 ≤ s.now % 65536 ∨ n = 0 ∨ done then .next s
  else
    let s := { s with sns := { s.sns with
      ctrl := s.sns.ctrl.tick n, thresh := s.sns.thresh.tick n, ceil := s.sns.ceil.tick n, wearctl := s.sns.wearctl.tick n } }
    let s := if s.sns.clearAt.any (· < n) then { s.clearSns with sns := { s.clearSns.sns with clearAt := none } } else s
    let s := allSites.foldl State.siteLevel s
    let s := allSites.foldl (fun s i => s.modTherm i fun x => x.ceiling s.sys.trip s.ceilStart s.ceilMax s.now n) s
    let s := { s with sns := { s.sns with
      throt := word s.throtWord
      severe := if 3 ≤ s.packageLevel then some (s.sns.severe.getD n) else none } }
    let s := s.writeFrame
    let s := s.fieldsSee
    let s := (s.reg.map (·.1)).foldl State.stress s
    let s := s.wearCheck
    .next { s with reg := s.reg.foldl (fun m e => Map.put Region.reset m e.1 { e.2 with acc := {} }) [] }

/-! ### Plant inputs (R263, R264) -/

/-- COOLANT_STALE: 1 s after the last post, or after the release of boot hold where none has come. -/
def execCoolantStale (s : State) : Out :=
  match s.sns.coolAt with
  | some t =>
    if !s.sns.coolStale ∧ t + 1000000000 ≤ s.now then
      .next (({ s with sns := { s.sns with coolStale := true } } : State).raise evPlantStale 1)
    else .next s
  | none =>
    match s.sys.bootedAt with
    | some t =>
      if !s.sns.coolRaised ∧ t + 1000000000 ≤ s.now then
        .next (({ s with sns := { s.sns with coolRaised := true } } : State).raise evPlantStale 1)
      else .next s
    | none => .next s

/-- BUDGET_STALE: 10 ms after the last write, or after the release of boot hold where none has come. -/
def execBudgetStale (s : State) : Out :=
  match s.sns.budgetAt.orElse fun _ => s.sys.bootedAt with
  | some t =>
    if !s.sns.budgetStale ∧ t + 10000000 ≤ s.now then
      .next (({ s with sns := { s.sns with budgetStale := true } } : State).raise evPlantStale 2)
    else .next s
  | none => .next s

/-! ### Commands (R274, R333, R334) -/

/-- SENSE_QUERY. -/
def cmdSenseQuery (q : Req) (s : State) : Result :=
  match q.u8 0 with
  | 0 =>
    match s.regionTarget q with
    | some r => refuse r s
    | none =>
      let y : Summary := ((s.rgn q.tgt).sum).getD ⟨0, 0, 0, 0, 0⟩
      .done (okReply (toLE 8 y.start ++ toLE 2 y.adc ++ toLE 2 (unsigned 12 y.diode) ++ toLE 2 y.trips ++ toLE 2 (min 0xFFFF y.sum))) s
  | 1 => if q.tgt < 64 then .done (okReply (s.tile q.tgt).bytes) s else refuse badTarget s
  | _ => refuse (badArg 0) s

/-- SENSE_QUERY, the command (R274). -/
def execSenseQuery (q : Req) (s : State) : Out := .next (s.submit 0x0901 cmdSenseQuery q)

/-- THERM_QUERY. -/
def cmdThermQuery (_ : Req) (s : State) : Result :=
  .done (okReply (toLE 4 s.snsStatus ++ toLE 4 s.sns.throt.toNat ++ allSites.flatMap fun i =>
    toLE 1 (s.therm i).level ++ zeros 1 ++ toLE 2 (s.therm i).tc)) s

/-- THERM_QUERY, the command (R274). -/
def execThermQuery (q : Req) (s : State) : Out := .next (s.submit 0x0902 cmdThermQuery q)

/-- PLANT_POST. -/
def cmdPlantPost (q : Req) (s : State) : Result :=
  let a := q.le 0 2
  let b := q.le 2 2
  let i := signed 12 a
  let o := signed 12 b
  if 4096 ≤ a ∨ i < -640 then refuse (badArg 0) s
  else if 4096 ≤ b ∨ o < -640 then refuse (badArg 2) s
  else
    let fresh : Bool := match s.sns.coolAt with
      | some t => !s.sns.coolStale && decide (s.now < t + 1000000000)
      | none => false
    let step := fresh && decide (32 < (i - s.sns.inlet).natAbs ∨ 32 < (o - s.sns.outlet).natAbs)
    let s := s.raiseIf step evCoolantStep 0
    .done okReply { s with sns := { s.sns with inlet := i, outlet := o, coolAt := some s.now, coolStale := false } }

/-- PLANT_POST, the command (R263). -/
def execPlantPost (q : Req) (s : State) : Out := .next (s.submit 0x0903 cmdPlantPost q)

/-- WEAR_QUERY. -/
def cmdWearQuery (q : Req) (s : State) : Result :=
  match q.u8 0 with
  | 0 =>
    if 22 < q.tgt then refuse badTarget s
    else if 6 < q.u8 1 then refuse (badArg 1) s
    else
      let f := s.field (7 * q.tgt + q.u8 1)
      .done (okReply (toLE 4 f.cyc ++ toLE 4 f.dmg)) s
  | 1 =>
    match s.regionTarget q with
    | some r => refuse r s
    | none => .done (okReply (toLE 4 (s.oscHours q.tgt false) ++ toLE 4 (s.oscHours q.tgt true))) s
  | 2 =>
    if 255 < q.tgt then refuse badTarget s
    else .done (okReply (toLE 4 (s.spareHours q.tgt 0) ++ toLE 4 (s.spareHours q.tgt 1))) s
  | _ => refuse (badArg 0) s

/-- WEAR_QUERY, the command (R274). -/
def execWearQuery (q : Req) (s : State) : Out := .next (s.submit 0x0904 cmdWearQuery q)

/-- A page of the wear image (R272); the header's 64 bytes are open (log 6). -/
def State.wearPage (s : State) (p : Nat) : Bytes :=
  padTo 8192 (if p = 0 then
    (List.range 64).map (Config.freeByte s.fresh) ++ (allSites.flatMap fun i => toLE 8 (s.dieAt i).serial.toNat) ++ zeros 8 ++
      ((List.range 161).flatMap fun k => toLE 4 (s.field k).cyc ++ toLE 4 (s.field k).dmg) ++
      ((List.range 256).flatMap fun d => toLE 4 (s.spareHours d 0) ++ toLE 4 (s.spareHours d 1))
  else
    (List.range 1024).flatMap fun i =>
      let r := ofDense (1024 * (p - 1) + i)
      toLE 4 (s.oscHours r false) ++ toLE 4 (s.oscHours r true))

/-- WEAR_EXPORT. -/
def cmdWearExport (q : Req) (s : State) : Result :=
  if 2 < q.u8 0 then refuse (badArg 0) s
  else .done (okReply (s.wearPage (q.u8 0))) { s with fresh := s.fresh + 1 }

/-- WEAR_EXPORT, the command (R272). -/
def execWearExport (q : Req) (s : State) : Out := .next (s.submit 0x0905 cmdWearExport q)

/-- Page 0 added: fields and district spare pairs of the sites whose serial agrees with the census (R272). -/
def State.addPage0 (s : State) (p : Bytes) : State :=
  let bad := allSites.filter fun i => decide (le p (64 + 8 * i) 8 ≠ (s.dieAt i).serial.toNat)
  let s := { s with sns := { s.sns with serialBad := bad } }
  let s := bad.foldl (fun s i => s.raise evWearSerial i) s
  let s := (List.range 161).foldl (fun s k =>
    if bad.contains (k / 7) then s
    else s.modField k fun f =>
      { f with cyc := min 0xFFFFFFFF (f.cyc + le p (256 + 8 * k) 4), dmg := min 0xFFFFFFFF (f.dmg + le p (260 + 8 * k) 4) }) s
  (List.range 512).foldl (fun s i =>
    if bad.contains (districtSite (i / 2)) then s
    else { s with sns := { s.sns with spareIn := Map.put 0 s.sns.spareIn i (Map.get 0 s.sns.spareIn i + le p (1544 + 4 * i) 4) } }) s

/-- Page 1 or 2 added: the stress of A and B of 1,024 regions; sites that page 0 has shown to differ are ignored (R272). -/
def State.addPage (s : State) (n : Nat) (p : Bytes) : State :=
  let rs := (List.range 1024).map fun i => (i, ofDense (1024 * (n - 1) + i))
  let bad := s.sns.serialBad.filter fun i => rs.any fun e => decide (siteOf e.2 = i)
  let s := bad.foldl (fun s i => s.raise evWearSerial i) s
  rs.foldl (fun s e =>
    if bad.contains (siteOf e.2) ∨ !s.regionExists e.2 then s
    else s.modRgn e.2 fun g => { g with wearInA := g.wearInA + le p (8 * e.1) 4, wearInB := g.wearInB + le p (8 * e.1 + 4) 4 }) s

/-- WEAR_IMPORT. -/
def cmdWearImport (q : Req) (s : State) : Result :=
  let p := q.u8 0
  let off := q.le 4 4
  let n := q.len - 8
  let had : Bytes := match s.sns.stage with
    | some (k, bs) => if k = p then bs else []
    | none => []
  let other : Bool := match s.sns.stage with
    | some (k, _) => decide (k ≠ p)
    | none => true
  if 2 < p then refuse (badArg 0) s
  else if n = 0 ∨ n % 8 ≠ 0 ∨ 224 < n then refuse (badArg 8) s
  else if off % 8 ≠ 0 ∨ 8192 < off + n then refuse (badArg 4) s
  else if s.sns.imported.contains p then refuse (codeReply stRefused) s
  else if off ≠ 0 ∧ other then refuse (badArg 0) s
  else if off ≠ 0 ∧ off ≠ had.length then refuse (badArg 4) s
  else
    let bs := (if off = 0 then [] else had) ++ slice q.payload 8 n
    if bs.length = 8192 then
      let s := { s with sns := { s.sns with stage := none, imported := addKey p s.sns.imported } }
      let s := if p = 0 then s.addPage0 bs else s.addPage p bs
      .done (okReply (toLE 4 8192 ++ toLE 1 1)) s.wearCheck
    else .done (okReply (toLE 4 bs.length ++ zeros 1)) { s with sns := { s.sns with stage := some (p, bs) } }

/-- WEAR_IMPORT, the command (R334). -/
def execWearImport (q : Req) (s : State) : Out := .next (s.submit 0x0906 cmdWearImport q)

end Sys2Proof.Machine
end

