-- ==== Sys2Proof/Machine/District.lean ====
section
/-! DEFINITION. Region commands, SPARE_INSERT and the district spare pair (02 R39, R67, R69, R74; 08 R237; 09 R271; 11 R324,
R328, R329). -/
namespace Sys2Proof.Machine

/-! ### REGION_SET_PERIOD and REGION_QUERY (R74, R324) -/

/-- What one region makes of a code: the code that refuses it, or the code it takes, CLAMPED and FORCED. -/
def State.periodFor (s : State) (q : Req) (r : RegionNo) (c : Nat) : Except Nat (Nat × Bool × Bool) :=
  let g := s.rgn r
  if !s.regionExists r ∨ g.chan.st = .dead then .error stRefused
  else match s.xBlock (xId 4 r) with
    | some st => .error st
    | none =>
      if g.minCode ≤ c then .ok (c, false, false)
      else if !q.level then .ok (g.minCode, true, false)
      else if q.force then .ok (c, false, true) else .error stRefused

/-- One region's part of REGION_SET_PERIOD: its entry and its effect. -/
def State.periodEntry (s : State) (q : Req) (r : RegionNo) (c : Nat) : Bytes × State :=
  match s.periodFor q r c with
  | .error _ => (toLE 2 r ++ toLE 2 (at_ 1 15 + (s.rgn r).nominal), s)
  | .ok (c, clamped, forced) =>
    (toLE 2 r ++ toLE 2 (c + at_ (b2n clamped) 13 + at_ (b2n forced) 14),
      (s.sendCode r c).raiseIf forced evRegionForced (r + at_ c 16))

/-- A code applied to some regions: PERIOD words go out, and the response waits for every latch (R74, R190): PARTIAL where some are
refused, and the first's code where all are (R315). -/
def State.periodAll (s : State) (q : Req) (rs : List RegionNo) (c : Nat) : Result :=
  let codes := rs.map fun r => match s.periodFor q r c with
    | .error st => some st
    | .ok _ => none
  if codes.all (·.isSome) then refuse (codeReply ((codes.headD none).getD stRefused)) s
  else
    let (bs, s') := rs.foldl (fun a r => let (b, s) := a.2.periodEntry q r c; (a.1 ++ b, s)) (([] : Bytes), s)
    let left := rs.filter fun r => match s.periodFor q r c with
      | .ok _ => true
      | .error _ => false
    .wait (.period left (if codes.any (·.isSome) then stPartial else stOk) (toLE 1 rs.length ++ zeros 3 ++ bs)) s'

/-- The code that the base configuration maps a level of a district to; none where it is not mapped (Table 12-2). -/
def State.perfCode (s : State) (d l : Nat) : Option Nat :=
  match s.cfg.base with
  | some b => let c := le b.perf (2 * (16 * d + l)) 2; if c = 0 then none else some c
  | none => none

/-- REGION_SET_PERIOD. -/
def cmdRegionSetPeriod (q : Req) (s : State) : Result :=
  let perf := q.u8 1
  let scope : Except Reply (List RegionNo × Nat) :=
    if q.u8 0 = 0 then match s.regionTarget q with
      | some r => .error r
      | none => .ok ([q.tgt], districtOf q.tgt)
    else if q.u8 0 = 1 then (if q.tgt < 256 then .ok (districtRegions q.tgt, q.tgt) else .error badTarget)
    else .error (badArg 0)
  match scope with
  | .error r => refuse r s
  | .ok (rs, d) =>
    if q.level then
      if perf ≠ 0 then refuse (badArg 1) s
      else if q.le 2 2 < 160 ∨ 1280 < q.le 2 2 then refuse (badArg 2) s
      else s.periodAll q rs (q.le 2 2)
    else if 15 < perf then refuse (badArg 1) s
    else match s.perfCode d perf with
      | some c => s.periodAll q rs c
      | none => refuse (badArg 1) s

/-- REGION_SET_PERIOD, the command (R74). -/
def execRegionSetPeriod (q : Req) (s : State) : Out := .next (s.submit 0x0201 cmdRegionSetPeriod q)

/-- REGION_QUERY. -/
def cmdRegionQuery (q : Req) (s : State) : Result :=
  match s.regionTarget q with
  | some r => refuse r s
  | none => .done (okReply ((List.range 16).flatMap (fun i => toLE 4 (s.rgnWord q.tgt (4 * i))) ++ toLES 2 (s.rgn q.tgt).trim)) s

/-- REGION_QUERY, the command (R324). -/
def execRegionQuery (q : Req) (s : State) : Out := .next (s.submit 0x0202 cmdRegionQuery q)

/-! ### SPARE_INSERT (R166, R180, R271, R329) -/

/-- An insertion commanded: a handle, and the insertion joins the queue. -/
def State.startIns (s : State) (q : Req) (x : Insertion) : Result :=
  let op := { newOp .spareInsert .running s.now with
    target := x.target, scope := x.kind, part := x.part, step := 1, force := q.force, expert := q.level, spare := q.u8 2 }
  s.startOp q op fun i s =>
    { s with opt := { s.opt with ins := s.opt.ins ++ [{ x with handle := some i, asked := true, at_ := s.now, since := s.now }] } }

/-- The last checks of every kind: BUSY for the same part, REFUSED for a healthy one without FORCE. -/
def State.tryIns (s : State) (q : Req) (x : Insertion) (healthy : Bool) : Result :=
  if s.opt.ins.any x.same then refuse (busyReply 0) s
  else if healthy ∧ !q.force then refuse (codeReply stRefused) s
  else s.startIns q x

/-- The spare that a request names. -/
def Req.spare (q : Req) : Option Nat := if q.u8 2 = 0 then none else some (q.u8 2 - 1)

/-- SPARE_INSERT of a landing or a group of a site. -/
def State.insRoute (s : State) (q : Req) (kind : Nat) : Result :=
  let part := q.u8 1
  let x := s.site q.tgt
  let gone := (x.down.find? fun e => decide (e.1 = kind ∧ e.2.1 = part)).map (·.2.2)
  let quad := if kind = 0 then
      ((List.range 4).find? fun k => decide ((x.route k).source = part ∨ (6 ≤ (x.route k).source ∧ x.home.getD k 7 = part))).orElse fun _ => gone
    else (((List.range 4).find? fun k => decide ((x.route k).group = part)).orElse fun _ => gone).orElse fun _ =>
      if x.gfail.contains part ∧ part < 4 ∧ (x.route part).group = 7 then some part else none
  let bad := gone.isSome ||
    (if kind = 0 then x.lfail.contains part || x.ldeg.contains part else x.gfail.contains part || x.gdeg.contains part)
  let serves := (List.range 4).any fun k => if kind = 0 then decide ((x.route k).source = part) else decide ((x.route k).group = part)
  let free (k n : Nat) : Bool := if kind = 0 then x.landingFree n && decide (n < 6) else x.groupFree k n && decide (n < 7)
  match siteTarget q with
  | some r => refuse r s
  | none =>
    if x.state = .isolated ∨ x.state = .absent ∨ x.state = .uncalibrated ∨ s.siteFenced q.tgt then refuse (codeReply stFenced) s
    else if (if kind = 0 then 5 else 6) < part then refuse (badArg 1) s
    else match quad with
      | none => refuse (badArg 1) s
      | some k =>
        if !((Req.spare q).all (free k)) then refuse (badArg 2) s
        else s.tryIns q (insertion kind q.tgt part k (Req.spare q) serves q.force (if serves then 2 else 1)) (serves && !bad)

/-- SPARE_INSERT of a carrier. -/
def State.insCarrier (s : State) (q : Req) : Result :=
  let c := q.u8 1
  if q.tgt ≠ 0 then refuse badTarget s
  else if c ≠ s.opt.tone ∧ c ≠ s.opt.slot then refuse (badArg 1) s
  else if !((Req.spare q).all s.opt.free.contains) then refuse (badArg 2) s
  else
    let healthy := !s.opt.failed.contains c
    s.tryIns q (insertion 2 0 c 0 (Req.spare q) healthy q.force 1) healthy

/-- SPARE_INSERT of a port's synthesizer. -/
def State.insSynth (s : State) (q : Req) : Result :=
  let p := q.tgt
  let k := p / 16
  let healthy : Bool := match s.serving p with
    | some i => !(s.synth i).degraded && decide ((s.synth i).st ≠ .failed)
    | none => false
  if 63 < p then refuse badTarget s
  else if q.u8 1 ≠ 0 then refuse (badArg 1) s
  else if !((Req.spare q).all fun j => decide (j = 2 * k ∨ j = 2 * k + 1) && s.spareUsable j) then refuse (badArg 2) s
  else s.tryIns q (insertion 3 p 0 k (Req.spare q) healthy q.force 1) healthy

/-- SPARE_INSERT of a district spare pair: the planned procedure of R271. -/
def State.insPair (s : State) (q : Req) : Result :=
  match s.regionTarget q with
  | some r => refuse r s
  | none =>
    let d := districtOf q.tgt
    let st := (s.rgn q.tgt).chan.st
    if q.u8 1 ≠ 0 then refuse (badArg 1) s
    else if q.u8 2 ≠ 0 then refuse (badArg 2) s
    else if s.siteFenced (siteOf q.tgt) then refuse (codeReply stFenced) s
    else if (st ≠ .paired ∧ st ≠ .single) ∨ !s.pairIdle d then
      refuse (codeReply stRefused) s
    else s.startIns q (insertion 4 q.tgt 0 0 none true q.force 1)

/-- SPARE_INSERT. -/
def cmdSpareInsert (q : Req) (s : State) : Result :=
  match q.u8 0 with
  | 0 => s.insRoute q 0
  | 1 => s.insRoute q 1
  | 2 => s.insCarrier q
  | 3 => s.insSynth q
  | 4 => s.insPair q
  | _ => refuse (badArg 0) s

/-- SPARE_INSERT, the command (R166, R180, R329). -/
def execSpareInsert (q : Req) (s : State) : Out := .next (s.submit 0x0502 cmdSpareInsert q)

/-! ### The district spare pair (Table 2-7, R237, R271) -/

/-- What a spare oscillator's runs come to so far: runs in sequence, void runs, disagreeing triples, and the accepted pair. -/
structure SpareCal where
  runs  : List RunRec := []
  voids : Nat := 0
  bad   : Nat := 0
  pair  : Option (RunRec × RunRec) := none
  /-- void runs in a row, four of which abandon the calibration. -/
  row   : Nat := 0
  /-- the test that a run's result fails. -/
  fail  : Option SelfTest := none
  deriving DecidableEq, Repr

/-- Four void runs in a row of one oscillator (R231). -/
def SpareCal.spent (a : SpareCal) : Bool := decide (4 ≤ a.row)

/-- One more run of a spare oscillator, under R230-R233. -/
def SpareCal.add (set : CalSet) (a : SpareCal) (x : RunResult) : SpareCal :=
  let m := minCodeOf x.d set.kv set.vref x.supply
  if a.pair.isSome ∨ a.spent ∨ a.fail.isSome ∨ x.samples < 8 then a
  else if x.tripped ∨ !supplyOk set.vref x.supply ∨ 16 < x.moved then { a with voids := a.voids + 1, row := a.row + 1 }
  else if !runFalls x then { a with fail := some .coverage }
  else if 1280 < m then { a with fail := some .replica }
  else
    let a := { a with row := 0 }
    let y : RunRec := ⟨x.periods, m, x.temp, x.supply⟩
    let fresh : Bool := match a.runs with
      | z :: _ => decide (16 < (x.temp - z.temp).natAbs)
      | [] => false
    let a := if fresh then { a with runs := [], voids := a.voids + a.runs.length } else a
    let rs := a.runs ++ [y]
    match judge RunRec.agree rs with
    | .more => { a with runs := rs }
    | .pair b c => { a with pair := some (b, c) }
    | .disagree => { a with runs := [], bad := a.bad + 1 }

/-- The runs of one spare oscillator. -/
def spareCal (set : CalSet) (xs : List RunResult) : SpareCal := xs.foldl (SpareCal.add set) {}

/-- How step 3 of Table 2-7 ends: both oscillators accepted, more runs needed, or an oscillator failed. -/
inductive PairEnd where
  | accepted | open_ | failed
  deriving DecidableEq, Repr

/-- What a spare oscillator's calibration raises: EV_CAL_VOID and 64 windows' pause after four void runs in a row, EV_ST_FAIL for a result
that fails it (R231). -/
def State.spareJudged (s : State) (r : RegionNo) (oscB : Bool) (a : SpareCal) : State :=
  let s := if a.spent then
      (s.raise evCalVoid (calArg r oscB 0)).modRgn r fun g => { g with cal := { g.cal with retryWin := s.win + 64 } }
    else s
  match a.fail with
  | some t => s.raise evStFail (calArg r oscB (testRow t))
  | none => s

/-- Steps 1-3: the pair is taken, its set carries the region's number, and both oscillators are calibrated under R230-R233 (R237). -/
def State.pairCal (s : State) (r : RegionNo) (runs0 runs1 : List RunResult) : State × PairEnd :=
  let d := districtOf r
  let s := { s with cal := { s.cal with taken := Map.put none s.cal.taken d (some r) } }
  let set := { s.spareSet d with region := BitVec.ofNat 16 r }
  let a := spareCal set runs0
  let b := spareCal set runs1
  let s := { s with cal := { s.cal with void := sat16 s.cal.void (a.voids + b.voids), disagree := sat16 s.cal.disagree (a.bad + b.bad) } }
  let s := (s.spareJudged r false a).spareJudged r true b
  if a.fail.isSome ∨ b.fail.isSome then (s.putSpareSet d set, .failed)
  else match a.pair, b.pair with
  | some (x, y), some (z, w) =>
    let set := { (set.acceptPair false x y s.now).acceptPair true z w s.now with valid := true }
    (({ s with cal := { s.cal with runs := s.cal.runs + 1 } } : State).putSpareSet d set, .accepted)
  | _, _ => (s.putSpareSet d set, .open_)

/-- Step 3 as far as it has come: a pair that is accepted already is not calibrated again, and one whose runs were void waits (R231, R271). -/
def State.pairStep (s : State) (y : Insertion) (r : RegionNo) (runs0 runs1 : List RunResult) : State × PairEnd :=
  if 4 ≤ y.step then (s, .accepted)
  else if s.win < (s.rgn r).cal.retryWin then (s, .open_)
  else s.pairCal r runs0 runs1

/-- No district spare is left for a region (R67). -/
def State.pairExhausted (s : State) (r : RegionNo) : State :=
  let s := s.modRgn r fun g => { g with chan := { g.chan with noSpare := true } }
  (s.raise evSpareExhausted (at_ r 16)).mlbSet (.sparePair (districtOf r))

/-- The pair serves: oscillator 0 is active, oscillator 1 the twin, both loaded from the district spare set. -/
def State.pairServes (s : State) (r : RegionNo) : State :=
  let s := s.modRgn r fun g => { g with
    chan := { g.chan with st := .spare, activeB := false, twin := .standby, locked := true, reloadWin := none, onSpare := true }
    swap := none, wornA := false, wornB := false, wornBoth := false
    cal := { g.cal with lastTest := s.now } }
  let s := s.deliverSet r (s.setFor r).tLast
  s.modRgn r fun g => (g.load false g.nominal).load true g.nominal

/-- A region for which a district spare has been inserted is due for calibration (R238). -/
def State.spareDue (s : State) (r : RegionNo) : State :=
  (s.modRgn r fun g => { g with cal := { g.cal with dueDrift := true } }).calSync r

/-- A planned insertion gives its district's pair up: the worn region keeps its oscillators (Table 9-6). -/
def State.dropPlanned (s : State) (d code : Nat) : State :=
  match s.findIns fun y => decide (y.kind = 4 ∧ y.planned ∧ districtOf y.target = d) with
  | some y =>
    let s := { s with cal := { s.cal with taken := Map.put none s.cal.taken d none } }
    s.endIns y .failed code
  | none => s

/-- An insertion whose release is complete: EV_CHRYSALIS_DONE, and the region is due for calibration (Table 2-7 step 6, R238). -/
def State.pairReleased (s : State) (y : Insertion) : State := (s.insDone y).spareDue y.target

/-- The insertions that wait for the release of step 5 and whose region's crossings are released now (Table 2-7). -/
def State.pairsReleased (s : State) : State :=
  (s.opt.ins.filter fun y => decide (y.kind = 4 ∧ y.step = 5) && !s.xg.rel.any fun e => decide (e.scope = .region y.target)).foldl
    State.pairReleased s

/-- PAIR_CALIBRATION_DONE: MARKER calibration of a lane ends, accepted and ALIGNED or OFF; every PAIR_RECAL that waits for
it answers, and a release whose last lane it was goes on, with the insertion that called for it (R203, R331, Tables 2-7, 7-5). -/
def execPairCalibrationDone (r : RegionNo) (k : Fin 4) (dlane : Nat) (s : State) : Out :=
  let reply (s : State) (x : Reply) : State := s.answerAll (fun w => decide (w = .pairRecal r k)) x
  let id := laneId r k
  match s.xBlock id with
  | some st => .next (reply s (codeReply st))
  | none =>
    if (s.linkEnd r k).isNone ∨ (s.laneAt r k).st ≠ .calibrating then .next s
    else
      let s := (s.laneResult r k dlane).releasesGo.pairsReleased
      if (s.laneAt r k).st = .aligned then .next (reply s (okReply (toLE 4 (s.pbLink r k))))
      else .next (reply s (codeReply stRefused))

/-- DISTRICT_SPARE_INSERT: Chrysalis answers EV_REGION_DEAD with the district spare pair (R67, Table 2-7). The restart is the
oscillator's edge at q quanta. On a site that is not RUNNING it waits (Table 13-8). -/
def execDistrictSpareInsert (r : RegionNo) (runs0 runs1 : List RunResult) (q : Nat) (s : State) : Out :=
  let d := districtOf r
  let g := s.rgn r
  if !s.fw ∨ (s.dieAt (siteOf r)).st ≠ .running ∨ g.chan.st ≠ .dead ∨ g.stop.isNone then .next s
  else
    let s := s.dropPlanned d stRefused
    match Map.get none s.cal.taken d with
    | some o =>
      if o = r ∧ !g.chan.onSpare ∧ !g.chan.noSpare then .next (insert s d)
      else if g.chan.noSpare then .next s
      else .next (s.pairExhausted r)
    | none => .next (insert s d)
where
  /-- The steps of Table 2-7 from step 1. -/
  insert (s : State) (d : Nat) : State :=
    let s := s.requestIns (insertion 4 r 0 0 none false false 1)
    match s.findIns fun y => decide (y.kind = 4 ∧ y.target = r ∧ districtOf y.target = d) with
    | none => s
    | some y =>
      if !s.insRuns y then s
      else
        let (s, ok) := s.pairStep y r runs0 runs1
        match (s.rgn r).stop with
        | none => s
        | some st =>
          if ok = .failed then (s.endIns y .failed stRefused).pairExhausted r
          else if ok = .open_ then s.insStep y 3 none s.now
          else if q < st.opened then s.insStep y 4 none s.now
          else
            let s := s.pairServes r
            let s := s.restart r { st with code := (s.rgn r).nominal } q (s.rgn r).vref
            if !s.proves r ∨ s.siteFenced (siteOf r) then s.endIns y .failed stRefused
            else
              let s := s.releaseRegions (.region r) [r] []
              if s.xg.rel.any fun e => decide (e.scope = .region r) then s.insStep y 5 none s.now else s.pairReleased y

/-- PLANNED_DISTRICT_SPARE: steps 1-3 of Table 2-7 beside the running region, then a takeover at an unstretched boundary; the
region never stops (R271). A takeover that finds none within 16 windows of the pair's alignment, which takes at most five from step 3, is
abandoned with BUSY (R64); on a site that has become LOST or ISOLATED the insertion ends with FENCED, and with REFUSED where a spare
oscillator fails. -/
def execPlannedDistrictSpare (r : RegionNo) (runs0 runs1 : List RunResult) (s : State) : Out :=
  let d := districtOf r
  let g := s.rgn r
  match s.findIns fun y => decide (y.kind = 4 ∧ y.planned ∧ y.target = r) with
  | none => .next s
  | some y =>
    if s.siteFenced (siteOf r) then .next (s.dropPlanned d stFenced)
    else if g.chan.st ≠ .paired ∧ g.chan.st ≠ .single ∧ g.chan.st ≠ .twinBusy then .next (s.dropPlanned d stRefused)
    else if !s.insRuns y ∨ !s.clocked r ∨ g.cal.running ∨ g.swap.isSome ∨ !(s.pairFree d ∨ Map.get none s.cal.taken d = some r) then .next s
    else
      let (s, ok) := s.pairStep y r runs0 runs1
      if ok = .failed then .next (s.endIns y .failed stRefused)
      else if ok = .open_ then .next (s.insStep y 3 none s.now)
      else if y.step < 4 ∧ (g.sLast ≠ 0 ∨ g.stop.isSome ∨ g.pend.isSome) then .next (s.insStep y 4 none s.now)
      else if y.step = 4 ∧ y.since + 21 * 256 ≤ s.now then .next (s.dropPlanned d stBusy)
      else if g.sLast ≠ 0 ∨ g.stop.isSome ∨ g.pend.isSome then .next s
      else
        let s := (s.pairServes r).modRgn r fun g => { g with fl := { g.fl with fast := 4, drift := 0 } }
        .next (((s.raise evRegionSwap r).insDone y).spareDue r)

end Sys2Proof.Machine
end

