-- ==== Sys2Proof/Machine/Hawkmoth.lean ====
section
/-! DEFINITION. Hawkmoth and the surge governor: forecasts, features, evaluations, plans, VOID, models and spare columns (03
R75-R100; 11 R325; 15 R411, R412). -/
namespace Sys2Proof.Machine

/-! ### Settings (Table 3-13) -/

/-- FC_STALE. -/
def State.fcStale (s : State) : Nat := fld s.hm.ctrl.eff 15 8
/-- Hawkmoth is enabled: HM_EN in force. -/
def State.hmOn (s : State) : Bool := bitOf s.hm.ctrl.eff 0

/-- The evaluation boundary that a change made now waits for (R421). -/
def State.nextEval (s : State) : Nat := nextAfter 512 s.now

/-! ### Forecasts (R77-R82) -/

/-- DISTRICT of a forecast word. -/
def wordDistrict (w : BitVec 64) : Nat := bits w.toNat 7 0

/-- Level of a forecast word for the k-th window from BASE_WIN (Table 3-2). -/
def wordLevel (w : BitVec 64) (k : Nat) : Nat := bits w.toNat (27 + 4 * k) (24 + 4 * k)

/-- BASE_WIN resolved to the nearest window number (R79). -/
def wordWin (c : Nat) (w : BitVec 64) : Int := c + signed 16 (unsigned 16 ((bits w.toNat 23 8 : Int) - c))

/-- Handling of a word (Table 3-3). -/
inductive Arrival where
  | reject | stale | accept (w : Int)
  deriving DecidableEq, Repr

/-- The rows of Table 3-3. -/
def arrival (c : Nat) (x : BitVec 64) : Arrival :=
  let w := wordWin c x
  if !bitAt x.toNat 56 || decide (bits x.toNat 63 57 ≠ 0) then .reject
  else if w + 7 < c then .stale
  else if (c : Int) + 64 < w then .reject
  else .accept w

/-- A word folded into the board by maximum; levels of windows before the present one are ignored (R79, R80). -/
def State.foldWord (s : State) (x : BitVec 64) (w : Int) : State :=
  let d := wordDistrict x
  let board := (List.range 8).foldl (fun (m : Map Nat) (k : Nat) =>
    let n : Int := w + (k : Int)
    if n < s.win then m
    else
      let key := 256 * n.toNat + d
      Map.put 0 m key (max (Map.get 0 m key) (wordLevel x k + 1))) s.hm.board
  { s with hm := { s.hm with board := board } }

/-- An accepted word: queued, or through a full queue folded at once, as one of the merger's 2 of this engine cycle, and counted in
MERGE_CNT (R80, R81). -/
def State.takeWord (s : State) (x : BitVec 64) (w : Int) : State :=
  let s := { s with hm := { s.hm with
    accept := s.hm.accept + 1, lastAcc := Map.put none s.hm.lastAcc (wordDistrict x) (some s.win) } }
  if s.hm.queue.length < 4096 then { s with hm := { s.hm with queue := s.hm.queue ++ [(x, w)] } }
  else { s.foldWord x w with hm := { (s.foldWord x w).hm with
    merge := s.hm.merge + 1, foldAt := s.now, foldN := if s.hm.foldAt = s.now then s.hm.foldN + 1 else 1 } }

/-- REJECT_CNT counts words. -/
def State.rejectWords (s : State) (n : Nat) : State := { s with hm := { s.hm with reject := sat16 s.hm.reject n } }

/-- A word at its arrival; while Hawkmoth is disabled it is discarded and counted (R79, R97). -/
def State.arrive (s : State) (x : BitVec 64) : State :=
  if !s.hmOn then s.rejectWords 1
  else match arrival s.win x with
    | .reject => s.rejectWords 1
    | .stale => { s with hm := { s.hm with stale := sat16 s.hm.stale 1 } }
    | .accept w => s.takeWord x w

/-- Forecast lane of a compute die in a district (R194). -/
def State.fqAt (s : State) (d die : Nat) : List (BitVec 64) := Map.get [] s.xg.fq (8 * d + die)

/-- A forecast lane replaced. -/
def State.setFq (s : State) (d die : Nat) (l : List (BitVec 64)) : State :=
  { s with xg := { s.xg with fq := Map.put [] s.xg.fq (8 * d + die) l } }

/-- Hawkmoth takes a word now: its queue has room, or the merger has not folded 2 words past it in this engine cycle yet (R81). -/
def State.fqRoom (s : State) : Bool :=
  decide (s.hm.queue.length < 4096) || decide (s.hm.foldAt ≠ s.now) || decide (s.hm.foldN < 2)

/-- FORECAST_PORT_WRITE: a word at a compute die's forecast port. The die's lane in the word's district carries it, behind what waits
there; a full lane stalls the port, which holds one word until there is room. A fenced or torn lane refuses the word, which is counted
(R78, R81, R193, R194, R207, R208). -/
def execForecastPortWrite (die : Fin 8) (x : BitVec 64) (s : State) : Out :=
  let d := wordDistrict x
  let id := xId 6 (d * 256 + die.val)
  if !s.clocked (regionNo die.val 0) then .next s
  else if s.xState id ≠ .whole then .next ((s.modXing id fun y => { y with drop := sat16 y.drop 1 }).xDrop 1)
  else if s.fqAt d die = [] ∧ s.fqRoom then .next (s.arrive x)
  else if queueSize < (s.fqAt d die).length then .next s
  else .next (s.setFq d die (s.fqAt d die ++ [x]))

/-- A district's crossing queue is full for some compute die (R194). DESIGN CHOICE (log 65): R194 says when it is full for one die; a
FORECAST_POST, which names none, waits where it is full for any. -/
def State.fqFull (s : State) (d : Nat) : Bool := (List.range 8).any fun die => decide (queueSize ≤ (s.fqAt d die).length)

/-- One word leaves a lane for Hawkmoth, where Hawkmoth takes it. -/
def State.fqDrain (s : State) (d die : Nat) : State :=
  match s.fqAt d die with
  | x :: xs => if s.fqRoom then (s.setFq d die xs).arrive x else s
  | [] => s

/-- FORECAST_MERGE: up to 2 words leave the head of the queue and are folded (R80). DESIGN CHOICE (log 65): words folded past a full
queue have 2 of their own in an engine cycle; R81 does not say whether the two share one limit. -/
def execForecastMerge (s : State) : Out :=
  let n := min 2 s.hm.queue.length
  let s' := (s.hm.queue.take n).foldl (fun s e => s.foldWord e.1 e.2) s
  .next { s' with hm := { s'.hm with queue := s'.hm.queue.drop n, head := s'.hm.head + n } }

/-- A district is forecast-stale (R82). -/
def State.isStale (s : State) (d : Nat) : Bool :=
  match Map.get none s.hm.lastAcc d with
  | some a => decide (a + s.fcStale ≤ s.win)
  | none => true

/-- FORECAST_STALE: FC_STALE windows have begun since a district's last accepted word. The condition is one of time and of what
State holds already; no stored value changes (R82). -/
def execForecastStale (_ : Fin 256) (s : State) : Out := .next s

/-- Words of a FORECAST_POST taken in order while their districts' queues and the merger have room in this engine cycle: the words left,
and how many of those taken were stale (R81). -/
def State.postWords : List (BitVec 64) → Nat → State → List (BitVec 64) × Nat × State
  | [], late, s => ([], late, s)
  | x :: xs, late, s =>
    if s.fqFull (wordDistrict x) ∨ !s.fqRoom then (x :: xs, late, s)
    else State.postWords xs (late + b2n (decide (arrival s.win x = .stale))) (s.arrive x)

/-- A post's answer: words accepted, and stale ones among them (R325). -/
def postReply (n late : Nat) : Reply := okReply (toLE 2 n ++ toLE 2 late)

/-- A FORECAST_POST that waits goes on, and is answered when its last word has been accepted (R81). DESIGN CHOICE (log 65): where
Hawkmoth is disabled meanwhile, its words count in REJECT_CNT (R97) and the answer's ACCEPTED still counts them. -/
def State.postWaiting (s : State) : State :=
  (List.finRange 8).foldl (fun s m =>
    match (s.box m).wait with
    | some (.forecast xs n late) =>
      let (rest, late, s) := State.postWords xs late s
      if rest.isEmpty then s.complete m (postReply n late)
      else s.modBox m fun b => { b with wait := some (.forecast rest n late) }
    | _ => s) s

/-- FORECAST_POST: all words are judged before any is taken; a word whose district's queue is full, or past the merger's 2 in this engine
cycle, waits and those behind it with it (R79, R81, R325). -/
def cmdForecastPost (q : Req) (s : State) : Result :=
  let n := q.len / 8
  let xs := (List.range n).map fun i => BitVec.ofNat 64 (q.le (8 * i) 8)
  let bad := (List.range n).filter fun i => decide (arrival s.win (BitVec.ofNat 64 (q.le (8 * i) 8)) = .reject)
  if q.len % 8 ≠ 0 ∨ n = 0 then refuse { status := stBadArg, argOff := 6 } s
  else if !s.hmOn then refuse (codeReply stRefused) (s.rejectWords n)
  else match bad with
    | i :: _ => refuse (badArg (8 * i)) (s.rejectWords bad.length)
    | [] =>
      let (rest, late, s) := State.postWords xs 0 s
      if rest.isEmpty then .done (postReply n late) s else .wait (.forecast rest n late) s

/-- FORECAST_POST, the command (R78). -/
def execForecastPost (q : Req) (s : State) : Out := .next (s.submit 0x0301 cmdForecastPost q)

/-- Board level and presence of a district in a window (R80). -/
def State.boardAt (s : State) (d w : Nat) : Option Nat :=
  let v := Map.get 0 s.hm.board (256 * w + d)
  if w < s.win ∨ v = 0 then none else some (v - 1)

/-! ### The surge governor (R411, R412) -/

/-- The nominal code of a district's lowest-numbered live region. -/
def State.liveCode (s : State) (d : Nat) : Option Nat :=
  ((districtRegions d).find? s.live).map fun r => (s.rgn r).nominal

/-- Level of a district in one plan window, and the governor's memory of set bits (R411). -/
def State.govLevel (s : State) (d w : Nat) : Nat × State :=
  match s.boardAt d w with
  | some l => (l, { s with hm := { s.hm with govLvl := Map.put none s.hm.govLvl d (some (l, w)) } })
  | none =>
    match Map.get none s.hm.govLvl d with
    | some (l, w0) => (if w ≤ w0 + s.fcStale then l else 15, s)
    | none => (15, s)

/-- lvl_d of a district at E. -/
def State.govLvlOf (s : State) (d : Nat) : Nat × State :=
  let (a, s) := s.govLevel d (s.win + 3)
  let (b, s) := s.govLevel d (s.win + 4)
  (max a b, s)

/-- Terms of est(g): k_d x lvl_d x 512 and code_d of each compute district with a live region. -/
def State.govTerms (s : State) : List (Nat × Nat) × State :=
  (List.range 224).foldl (fun a d =>
    let (l, s) := a.2.govLvlOf d
    match s.liveCode d with
    | some c => (a.1 ++ [(Map.get 0 s.hm.kd d * l * 512, c)], s)
    | none => (a.1, s)) (([] : List (Nat × Nat)), s)

/-- est(g) in mA. -/
def estimate (base : Nat) (ts : List (Nat × Nat)) (g : Nat) : Nat := base + (ts.map fun t => t.1 / (15 * max t.2 g)).sum

/-- greq. -/
def govRequest (base : Nat) (ts : List (Nat × Nat)) (beff : Nat) : Nat :=
  (((List.range 141).map fun k => 160 + 8 * k).find? fun g => decide (estimate base ts g ≤ beff)).getD 1280

/-- The budget in force at an evaluation: none before the first write (R412, R421). -/
def State.budgetAtEval (s : State) : Option Nat :=
  match s.sns.recvAt with
  | some t => if t < s.now then some (s.sns.budget.tick s.now).eff.toNat else none
  | none => none

/-- The governor at an evaluation boundary: G, feature 37 and its events. -/
def State.govern (s : State) : State :=
  let (ts, s) := s.govTerms
  match s.budgetAtEval with
  | none => { s with hm := { s.hm with g := 256, headroom := 0 } }
  | some b =>
    let base := s.hm.iBase
    let beff := b * 1000 * 15 / 16
    let old := s.hm.g
    let g := max (govRequest base ts beff) (old - 32)
    let spent := decide (beff < estimate base ts 1280)
    let free : Int := (b * 1000 : Nat) - (estimate base ts g : Int)
    let room := if b = 0 then 0 else (clampI 0 100 (fdiv (100 * free) (b * 1000))).toNat
    let s := s.raiseIf (decide (old = 160 ∧ g ≠ 160)) evGovCap g
    let s := s.raiseIf (decide (g ≠ 160) && spent && !s.hm.satGov) evGovSaturated g
    { s with hm := { s.hm with
      g := g, headroom := room, capped := decide (g ≠ 160) && (s.hm.capped || decide (old = 160))
      satGov := decide (g ≠ 160) && (s.hm.satGov || spent) }
             sns := { s.sns with budget := s.sns.budget.tick s.now } }

/-! ### Features (R83) -/

/-- The summary of the window that ended at E - 256. -/
def State.summaryFor (s : State) (r : RegionNo) : Option Summary :=
  let g := s.rgn r
  [g.sum, g.sumPrev].findSome? fun y => match y with
    | some x => if x.start + 512 = s.now then some x else none
    | none => none

/-- Trim that a plan record gives for a window. -/
def PlanRec.trimAt (p : PlanRec) (w : Nat) : Option Int :=
  let w0 := p.win0Erg / 256
  if w0 ≤ w ∧ w < w0 + 16 then some (p.trims.getD (w - w0) 0) else none

/-- The record of a district in the front buffer. -/
def State.frontRec (s : State) (d : Nat) : Option PlanRec := Map.get none s.hm.front d

/-- The district's previous plan: the newest record that a flip has delivered for it (R83, R95, Table 3-11). -/
def State.lastRec (s : State) (d : Nat) : Option PlanRec := Map.get none s.hm.last d

/-- Feature 38: the trim that the newest delivered plan gives for the window begun at E. -/
def State.trimInForce (s : State) (d : Nat) : Int :=
  ((Map.get [] s.hm.sent d).findSome? fun p => p.trimAt s.win).getD 0

/-- The feature vector of a district (Table 3-4). DESIGN CHOICE (log 51): features 32-36 are 0 where no summary of a live region
arrived; features 40-47 are 0 where the district has no previous plan, or one without such a window; feature 35 takes sixteenths to
ns at each region's nominal code at E. -/
def State.features (s : State) (d : Nat) : List Int :=
  let stale := s.isStale d
  let cell (j : Nat) : Option Nat := if stale then none else s.boardAt d (s.win + 3 + j)
  let live := (districtRegions d).filter s.live
  let ys := live.filterMap fun r => (s.summaryFor r).map fun y => (r, y)
  let m : Nat := ys.length
  let deficits := ys.map fun e => ((s.rgn e.1).vref : Int) - e.2.adc
  let trips := (ys.map fun e => e.2.trips).sum
  let used := (ys.map fun e => e.2.sum * sixteenth (s.rgn e.1).nominal).sum / 32768
  let temps := (ys.map fun e => s.junction e.1 e.2).sum
  let prev (k : Nat) : Int := ((s.lastRec d).bind fun p => p.trimAt (s.win + 3 + k)).getD 0
  (List.range 16).map (fun j => match cell j with
    | some l => ((8 * l : Nat) : Int)
    | none => (0 : Int)) ++
  (List.range 16).map (fun j => if (cell j).isSome then (127 : Int) else 0) ++
  (if m = 0 then [0, 0, 0, 0, 0] else
    ([clampI (-128) 127 (fdiv deficits.sum m), clampI (-128) 127 ((maxT deficits).getD 0), ((min 127 (trips / 16) : Nat) : Int),
      ((min 127 used : Nat) : Int), clampI (-128) 127 (fdiv temps (16 * m) - 64)] : List Int)) ++
  [(s.hm.headroom : Int), clampI (-128) 127 (s.trimInForce d),
    match s.liveCode d with
      | some c => ((clampN 10 80 (c / 16) : Nat) : Int)
      | none => (0 : Int)] ++
  (List.range 8).map (fun k => prev k) ++ List.replicate 16 0

/-! ### Plans (R92, R95) -/

/-- A neutral plan: it ramps where the district's previous plan was not neutral (R95). DESIGN CHOICE (log 51): a district that has no
previous plan, or one that does not reach the window, ramps from 0. -/
def State.neutral (s : State) (d : Nat) (reason : Nat) (stale : Bool) : PlanRec :=
  let t : Int := match s.lastRec d with
    | some p => if p.neutral then 0 else (p.trimAt (s.win + 2)).getD 0
    | none => 0
  { win0Erg := s.now + 768, model := 0, valid := true, neutral := true, sat := false, staleFc := stale, reason := reason
    trims := [tdiv (t * 3) 4, tdiv (t * 2) 4, tdiv t 4] ++ List.replicate 13 0 }

/-- A district's plan record, and how many saturations its model made (R83, R90-R92, R95). -/
def State.planFor (s : State) (d : Nat) : PlanRec × Nat :=
  let stale := s.isStale d
  match (if s.hm.gap.contains d then none else followed s.hm.images d) with
  | none => (s.neutral d 1 stale, 0)
  | some x =>
    if stale ∧ x.requireFc then (s.neutral d 2 stale, 0)
    else if x.state = 1 then (s.neutral d 3 stale, 0)
    else if !s.hm.failed.isEmpty then (s.neutral d 4 stale, 0)
    else
      let (ts, n) := x.run (s.features d)
      ({ win0Erg := s.now + 768, model := x.id, valid := true, neutral := false, sat := decide (0 < n), staleFc := stale
         reason := 0, trims := ts }, n)

/-- A plan record as stored (Table 3-7). -/
def PlanRec.bytes (p : PlanRec) : Bytes :=
  toLE 8 p.win0Erg ++ toLE 2 p.model.toNat ++ toLE 1 (b2n p.valid + 2 * b2n p.neutral + 4 * b2n p.sat + 8 * b2n p.staleFc) ++
    toLE 1 p.reason ++ zeros 4 ++ p.trims.flatMap (toLES 1)

/-! ### Models (R89) -/

/-- A resident image is faulted: EV_HM_MODEL_FAULT once, and MODEL_FAULT_CNT (R96). -/
def State.imageFaults (s : State) (id : BitVec 16) : State :=
  match s.hm.images.findIdx? fun x => decide (x.id = id) with
  | none => s
  | some k =>
    match s.hm.images[k]? with
    | none => s
    | some x =>
      if x.state = 1 then s
      else ({ s with hm := { s.hm with images := s.hm.images.set k { x with state := 1 }, faults := sat16 s.hm.faults 1 } } : State).raise
        evHmModelFault x.id.toNat

/-- Images to be removed at this boundary; their districts receive neutral plans there (R89). -/
def State.unloadDue (s : State) : State :=
  let ids := (s.hm.unload.filter fun e => decide (e.2 < s.now)).map (·.1)
  let gap := (List.range 256).filter fun d => match followed s.hm.images d with
    | some x => ids.contains x.id
    | none => false
  { s with hm := { s.hm with
    unload := s.hm.unload.filter fun e => !decide (e.2 < s.now)
    images := s.hm.images.filter fun x => !ids.contains x.id
    gap := gap } }

/-- The copied image becomes active at an evaluation boundary after its copy, unless its handle is held (R89 step 5). -/
def State.activate (s : State) : State :=
  match s.hm.ready with
  | some (x, h, t) =>
    let runs : Bool := match (s.handle h).op with
      | some o => decide (o.st = .running)
      | none => false
    if runs ∧ t < s.now ∧ !s.inHold then
      ({ s with hm := { s.hm with images := install s.hm.images x, ready := none } } : State).finishOp h .completed stOk
    else s
  | none => s

/-- MODEL_ACTIVATE (R89). -/
def execModelActivate (id : BitVec 16) (s : State) : Out :=
  match s.hm.ready with
  | some (x, _, _) => if s.now % 512 = 0 ∧ x.id = id then .next s.activate else .next s
  | none => .next s

/-- An image complete in the staging half: validated, checked, copied (R89 steps 2-4). -/
def State.modelStaged (s : State) (h : Nat) : State :=
  match parseImage s.hm.staging with
  | none => (s.modOp h fun o => { o with step := 2, verify := 2 }).finishOp h .failed stBadArg
  | some x =>
    if !fits s.hm.images x then (s.modOp h fun o => { o with step := 3 }).finishOp h .failed stRefused
    else { s.modOp h fun o => { o with step := 4, target := x.id.toNat } with hm := { s.hm with ready := some (x, h, s.now) } }

/-- MODEL_LOAD: an image of the base configuration, or one that follows by OP_WRITE (R89, R325). One whose digest differs has failed in
step 1 of R89, which reads it from the boot source (R346, Table 11-17). -/
def cmdModelLoad (q : Req) (s : State) : Result :=
  let id := q.le 0 2
  let n := q.le 0 4
  let busy := (s.findOp fun o => decide (o.kind = .modelLoad ∨ o.kind = .fwUpdate)).isSome
  if busy then refuse (busyReply 0) s
  else if q.level then
    if n < 128 ∨ 262144 < n then refuse (badArg 0) s
    else s.startOp q { newOp .modelLoad .receiving s.now with total := n, expert := true, step := 1 } fun _ s =>
      { s with hm := { s.hm with staging := [] } }
  else match s.cfg.base.bind fun b => (b.models.find? (·.1 == id)).map fun m => (b, m) with
    | none => refuse (badArg 0) s
    | some (b, _, off, len, digest) =>
      let bs := slice b.image off len
      s.startOp q { newOp .modelLoad .running s.now with target := id, step := 1, total := len } fun h s =>
        if Config.sha384 bs != digest then (s.modOp h fun o => { o with verify := 1 }).finishOp h .failed stVerify
        else ({ s with hm := { s.hm with staging := bs, stageTop := max s.hm.stageTop bs.length } } : State).modelStaged h

/-- MODEL_LOAD, the command (R89). -/
def execModelLoad (q : Req) (s : State) : Out := .next (s.submit 0x0304 cmdModelLoad q)

/-- MODEL_UNLOAD. -/
def cmdModelUnload (q : Req) (s : State) : Result :=
  let id := BitVec.ofNat 16 (q.le 0 2)
  if (s.findOp fun o => decide (o.kind = .modelLoad ∧ o.target = id.toNat ∧ o.target ≠ 0)).isSome then refuse (busyReply 0) s
  else if !(s.hm.images.any fun x => decide (x.id = id)) then refuse (badArg 0) s
  else .done (okReply (toLE 8 s.nextEval)) { s with hm := { s.hm with unload := s.hm.unload ++ [(id, s.now)] } }

/-- MODEL_UNLOAD, the command (R89). -/
def execModelUnload (q : Req) (s : State) : Out := .next (s.submit 0x0305 cmdModelUnload q)

/-! ### The evaluation cycle (R75, R76, R97) -/

/-- The control word in force from this boundary; HM_EN stays clear once the columns are exhausted (R99, R100). -/
def State.hmTick (s : State) : State :=
  let c := s.hm.ctrl.tick s.now
  let c := if s.hm.exhausted then { c with eff := c.eff &&& 0xFFFFFFFE } else c
  { s with hm := { s.hm with ctrl := c } }

/-- VOID takes the place of every plan delivered (R83, R95). DESIGN CHOICE (log 51): RAMPING reads 1 from a VOID sent after plans to
the end of its ramp's fourth window; the ramp of a neutral plan does not show in it (Table 3-13 names the bit only). -/
def State.voidSent (s : State) (fresh : Bool) : State :=
  { s with hm := { s.hm with sent := [], rampEnd := if fresh then s.win + 5 else s.hm.rampEnd } }

/-- The words before this boundary carried plans. -/
def State.planned (s : State) : Bool :=
  match s.hm.word with
  | some w => !w.void
  | none => false

/-- Hawkmoth enabled or disabled since the last evaluation boundary, by a command, a register write or a fence (R97): VOID goes out
with the ceiling last sent, and the G of this evaluation follows in its own word. -/
def State.hmSwitch (s : State) : State :=
  let on := s.hmOn
  if s.hm.enabled ∧ !on then
    let w : PlanWord := s.hm.word.getD ⟨s.now - 512, true, s.hm.g, allSites.map fun i => (s.therm i).tcFor s.now⟩
    let s := s.voidSent s.planned
    { s with hm := { s.hm with queue := [], board := [], word := some { w with void := true }, enabled := false } }
  else if !s.hm.enabled ∧ on then { s with hm := { s.hm with lastAcc := [], enabled := true } }
  else s

/-! ### What follows a hold's end (R32) -/

/-- Requests whose regions stopped for hold are queued again; calibration is due as before (Table 1-5, R32). -/
def State.requeue (s : State) : State :=
  let s := (List.range 32).foldl (fun s i => match s.calOp i with
    | some o =>
      let s := if !o.left.isEmpty ∧ !(s.cal.queue.any (·.handle == i)) then
          { s with cal := { s.cal with queue := s.cal.queue ++ [⟨i, decide (o.kind = .selftestRun)⟩] } }
        else s
      s.calOpEnd i
    | none => s) s
  (s.reg.map (·.1)).foldl State.calSync s

/-- A joint reset of some torn crossing is outstanding (R211). -/
def State.resetDue (s : State) : Bool :=
  (s.xg.x.any fun e => decide (s.xState e.1 = .torn) && (s.tornAt e.1).isSome) ||
  s.xg.lane.any fun e => decide (s.xState (laneId (e.1 / 4) (e.1 % 4)) = .torn) && e.2.tornAt.isSome

/-- After a hold's end, evaluation has resumed and no torn crossing is left to be reset: throttle overlays, a Limp trigger and
armed fences that waited are applied, then requests are queued again, calibration may start and span discipline goes on (R32, R301,
Table 1-7, Table 15-5). -/
def State.followUp (s : State) : State :=
  if s.sys.follow ≠ 2 ∨ s.resetDue then s
  else
    let s := ({ s with sys := { s.sys with follow := 0 } } : State).throttleDue
    let n := s.sys.limpDue
    let s := if n = 0 then s else ({ s with sys := { s.sys with limpDue := 0 } } : State).toLimp n
    let stopped := s.cfg.stopped
    let s := { s with cfg := { s.cfg with stopped := [] } }
    (stopped.foldl State.refence s).requeue

/-- Evaluation has resumed after a hold (R32). -/
def State.resumed (s : State) : State :=
  if s.sys.follow = 1 ∧ !s.inHold then ({ s with sys := { s.sys with follow := 2 } } : State).followUp else s

/-- JOINT_RESET: Sirocco's reset of a torn crossing, not in hold, not of a LOST site, and on a released site no sooner
than 1,024 ns after the tear (R213, R377, Table 1-7). -/
def execJointReset (id : Word) (s : State) : Out :=
  let i := id.toNat
  let sited := !(s.xRegions i).isEmpty
  match s.tornAt i with
  | some t =>
    if s.fw && decide (s.xState i = .torn) && (!sited || decide (t + 1024 ≤ s.now)) then .next (s.joint i).followUp
    else .next s
  | none => .next s

/-- EVALUATION_START: at each multiple of 512 ns the governor computes G, and Hawkmoth, where it runs, evaluates every
district from its inputs at E (R75, R76, R411). `bad` names the images in whose weight-store words this evaluation detects an
uncorrectable error (Table 3-11). The records go into the back buffer from E + 32 on. -/
def execEvaluationStart (s : State) (bad : List (BitVec 16) := []) : Out :=
  let again : Bool := match s.hm.next with
    | some w => decide (w.e = s.now)
    | none => false
  if !s.sys.epoch ∨ s.now % 512 ≠ 0 ∨ again then .next s
  else
    let s := s.hmTick.hmSwitch
    let s := s.unloadDue.activate
    let s := { s with hm := { s.hm with board := s.hm.board.filter fun e => decide (256 * s.win ≤ e.1) } }
    let s := s.govern
    let tc := allSites.map fun i => (s.therm i).tcFor s.now
    let runs := s.hmOn && !s.inHold && s.active.isSome
    let s := if runs then bad.foldl State.imageFaults s else s
    .next ({ s with hm := { s.hm with
      running := runs
      eval := if runs then some ⟨s.now, 0, (List.range 256).map s.planFor⟩ else none
      next := some ⟨s.now, !runs, s.hm.g, tc⟩ } } : State).resumed

/-- EVALUATION_OVERRUN: the evaluation has not finished by E + 447: districts from `reached` on keep no record from it
(Table 3-11). -/
def execEvaluationOverrun (reached : Fin 256) (s : State) : Out :=
  match s.hm.eval with
  | some v =>
    if s.now < v.e + 447 ∨ v.recs.length < 256 then .next s
    else
      let n := sat16 s.hm.overruns 1
      let say : Bool := match s.hm.overEv with
        | some x => decide (x + 64 * 512 ≤ v.e)
        | none => true
      let s := { s with hm := { s.hm with
        eval := some { v with recs := v.recs.take (max v.done reached.val) }, overruns := n, overLast := true
        overEv := if say then some v.e else s.hm.overEv } }
      .next (s.raiseIf say evHmOverrun n)
  | none => .next s

/-- The evaluation discarded: the back buffer keeps what has been written and does not flip (Table 3-12). -/
def State.discardEval (s : State) : State := { s with hm := { s.evalNow.hm with eval := none } }

/-- The new record that a PLAN word brings a region, where its district has one (R92, R96). -/
def State.planCarried (s : State) (r : RegionNo) (w : PlanWord) : Option PlanRec :=
  match s.frontRec (districtOf r) with
  | some p => if p.win0Erg = w.e + 768 then some p else none
  | none => none

/-- The word before stays in transfer to the regions that have not captured it, with the record that it carries (R188, R189). -/
def State.holdPlans (s : State) : State :=
  match s.hm.word with
  | none => s
  | some w =>
    let late := allRegions.filter fun r =>
      s.regionExists r && s.planWaits r && (s.rgn r).planTx.isNone && decide (s.xState (xId 4 r) = .whole)
    s.modRgns late fun r g => { g with planTx := some ⟨w, s.planCarried r w, w.e + 448⟩ }

/-- PLAN_FLIP: at E + 448 the buffers flip and every region's PLAN word is sent, with VOID where there is no plan: Hawkmoth
does not run, hold or a disable has come, or a column has failed (R92, R97, R98, R411). -/
def execPlanFlip (s : State) : Out :=
  match s.hm.next with
  | none => .next s
  | some w =>
    let sentNow : Bool := match s.hm.word with
      | some x => decide (x.e = w.e)
      | none => false
    if s.now < w.e + 448 ∨ (sentNow ∧ s.hm.eval.isNone) then .next s
    else
      let s := if sentNow then s else s.holdPlans
      match (if s.inHold ∨ !bitOf s.hm.ctrl.img 0 then none else s.hm.eval) with
      | none =>
        let s := s.discardEval.voidSent s.planned
        .next { s with hm := { s.hm with word := some { w with void := true } } }
      | some v =>
        let ks := (List.range 256).zip (v.recs.map (·.1))
        let h := s.hm.evalStep 256
        .next { s with hm := { h with
          eval := none, word := some { w with void := false }, front := h.back, back := s.hm.front
          sent := ks.foldl (fun m k => Map.put [] m k.1 ((k.2 :: Map.get [] m k.1).take 2)) s.hm.sent
          last := ks.foldl (fun m k => Map.put none m k.1 (some k.2)) s.hm.last
          flip := !s.hm.flip, overLast := decide (v.recs.length < 256), evalErg := word v.e } }

/-- VOID at a region: held plans are ignored and the trim in force ramps to neutral over the four windows that follow; a ramp
under way goes on (R95). -/
def Region.takeVoid (g : Region) : Region :=
  { g with plans := [], ramp := if g.ramp.isSome then g.ramp else if g.plans.isEmpty ∧ g.trim = 0 then none else some ⟨g.win + 1, g.trim⟩ }

/-- The PLAN word reaches a region through its held-word crossing: the ceiling for the window that begins the plan, and the
plan or VOID; a district without a new record keeps the plan it holds (R92, R95, R96, R262, R411). -/
def State.captureWord (s : State) (r : RegionNo) (w : PlanWord) (fresh : Option PlanRec) : State :=
  let win0 := (w.e + 768) / 256
  let ceil := max w.g (w.tc.getD (siteOf r) 160)
  let s := s.modRgn r fun g =>
    let g := { g with govNext := some (ceil, win0), gotPlan := some (w.e, w.void), planTx := none }
    if w.void then g.takeVoid
    else match fresh with
      | some p => { g with plans := (⟨win0, p.trims, ceil⟩ :: g.plans.filter fun x => decide (x.win0 ≠ win0)).take 2 }
      | none => g
  s.pump r

/-- The PLAN word in transfer to a region, and the record it carries: one held since before the last flip, or the newest (R189). -/
def State.planWord (s : State) (r : RegionNo) : Option (PlanWord × Option PlanRec) :=
  match (s.rgn r).planTx with
  | some x => some (x.w, x.plan)
  | none => s.hm.word.map fun w => (w, s.planCarried r w)

/-- A region can capture the PLAN word: it waits and no other transfer is under way, and the region is clocked, in no stop, with its
crossing whole (R188, R190, R207). -/
def State.captures (s : State) (r : RegionNo) : Bool :=
  s.clocked r && (s.rgn r).stop.isNone && decide (s.xState (xId 4 r) = .whole) && s.planWaits r && (s.rgn r).tx.isNone

/-- PLAN_CAPTURE (R92): the engine side's next word may follow (R188). -/
def execPlanCapture (r : RegionNo) (s : State) : Out :=
  match s.planWord r with
  | some (w, p) => if s.captures r then .next (s.captureWord r w p) else .next s
  | none => .next s

/-- VOID_RECEIVE (R95). -/
def execVoidReceive (r : RegionNo) (s : State) : Out :=
  match s.planWord r with
  | some (w, p) => if w.void ∧ s.captures r then .next (s.captureWord r w p) else .next s
  | none => .next s

/-! ### Spare columns (R99) -/

/-- Logical column that spare j replaces, 127 for none. -/
def Hm.map (h : Hm) (j : Nat) : Nat := if j = 0 then h.map0 else h.map1

/-- A spare's column set. -/
def Hm.setMap (h : Hm) (j c : Nat) : Hm := if j = 0 then { h with map0 := c } else { h with map1 := c }

/-- A spare column that can be mapped. -/
def Hm.freeColumn (h : Hm) : Option Nat := [0, 1].find? fun j => decide (h.map j = 127) && !h.badSpare.contains j

/-- Spare columns that can be mapped. -/
def Hm.freeColumns (h : Hm) : Nat := ([0, 1].filter fun j => decide (h.map j = 127) && !h.badSpare.contains j).length

/-- With more columns failed than spares can replace, Hawkmoth is disabled and stays so (R99, R418). -/
def State.columnsSpent (s : State) (c : Nat) : State :=
  if s.hm.failed.length ≤ s.hm.freeColumns ∨ s.hm.exhausted then s
  else
    let s := { s with
      hm := { s.hm with exhausted := true, ctrl := s.hm.ctrl.write s.now (s.hm.ctrl.img &&& 0xFFFFFFFE) }
      sys := { s.sys with limp3 := true } }
    s.raise evSpareExhausted (5 + at_ c 16)

/-- A mapped column has failed: EV_HM_COLUMN_FAIL, and the cadence's back buffer is discarded (R98, R99). -/
def State.columnFails (s : State) (c logical : Nat) : State :=
  let s := s.discardEval
  let s := { s with hm := { s.hm with failed := s.hm.failed ++ [logical] } }
  (s.raise evHmColumnFail c).columnsSpent c

/-- COLUMN_TEST: the known-answer test of one physical column in a cadence, in turn, from E + 448 to E + 479 (R99). -/
def execColumnTest (pass : Bool) (s : State) : Out :=
  let c := s.hm.testCol
  let o := s.now % 512
  if !s.hm.running ∨ !bitOf s.hm.ctrl.eff 2 ∨ o < 448 ∨ 479 < o ∨ s.hm.testedAt = some (s.now - o) then .next s
  else
    let s := { s with hm := { s.hm with testCol := (c + 1) % 66, testedAt := some (s.now - o) } }
    if pass then .next s
    else
      let s := { s with hm := { s.hm with lastCol := c } }
      if c < 64 then
        if c = s.hm.map0 ∨ c = s.hm.map1 ∨ s.hm.failed.contains c then .next s else .next (s.columnFails c c)
      else
        let j := c - 64
        let l := s.hm.map j
        if s.hm.badSpare.contains j then .next s
        else
          let s := { s with hm := { s.hm with badSpare := addKey j s.hm.badSpare } }
          if l = 127 then .next (s.columnsSpent c)
          else .next (({ s with hm := s.hm.setMap j 127 } : State).columnFails c l)

/-- COLUMN_SPARE_MAP: Chrysalis maps a spare in place of a failed column at an evaluation boundary (R99). -/
def execColumnSpareMap (s : State) : Out :=
  match s.hm.failed, s.hm.freeColumn with
  | c :: rest, some j =>
    if s.fw ∧ s.now % 512 = 0 then
      .next (({ s with hm := { s.hm.setMap j c with failed := rest } } : State).raise evChrysalisDone (5 + at_ c 16))
    else .next s
  | _, _ => .next s

/-! ### Commands (R100, R325) -/

/-- HAWKMOTH_SET_MODE. -/
def cmdHawkmothSetMode (q : Req) (s : State) : Result :=
  let mode := q.u8 0
  let st := q.u8 1
  let old := s.hm.ctrl.img.toNat
  let st' := if st = 0 then bits old 15 8 else st
  if 1 < mode then refuse (badArg 0) s
  else if mode = 1 ∧ s.hm.exhausted then refuse (codeReply stRefused) s
  else
    let w := word (at_ st' 8 + (if bitAt old 2 then 4 else 0) + mode)
    .done (okReply (toLE 8 s.nextEval)) { s with hm := { s.hm with ctrl := s.hm.ctrl.write s.now w } }

/-- HAWKMOTH_SET_MODE, the command (R97, R100). -/
def execHawkmothSetMode (q : Req) (s : State) : Out := .next (s.submit 0x0302 cmdHawkmothSetMode q)

/-- HAWKMOTH_QUERY. -/
def cmdHawkmothQuery (q : Req) (s : State) : Result :=
  let entry (x : Image) (st : Nat) : Bytes :=
    toLE 2 x.id.toNat ++ toLE 1 (b2n x.perDistrict) ++ toLE 1 st ++ toLE 4 x.bytes.length
  match q.u8 0 with
  | 0 =>
    let wait := match s.hm.ready with
      | some (x, _, _) => [x]
      | none => []
    if q.tgt ≠ 0 then refuse badTarget s
    else .done (okReply ((List.range 11).flatMap (fun i => toLE 4 (s.hmWord (4 * i))) ++ toLE 4 (s.hm.images.length + wait.length) ++
      (s.hm.images.flatMap fun x => entry x x.state) ++ wait.flatMap fun x => entry x 2)) s
  | 1 =>
    if 255 < q.tgt then refuse badTarget s
    else
      let id := ((followed s.hm.images q.tgt).map fun x => x.id.toNat).getD 0
      .done (okReply (toLE 2 id ++ zeros 2 ++ ((s.frontRec q.tgt).map PlanRec.bytes).getD (zeros 32))) s
  | _ => refuse (badArg 0) s

/-- HAWKMOTH_QUERY, the command (R325). -/
def execHawkmothQuery (q : Req) (s : State) : Out := .next (s.submit 0x0303 cmdHawkmothQuery q)

end Sys2Proof.Machine
end

