-- ==== Sys2Proof/Machine/Boot.lean ====
section
/-! DEFINITION. PKG_RESET_N, the boot sequence, the census, reset calibration of the routes, die release, and the crystal
(13 R365-R374, 14 R383-R385, 05 R146, 04 R113-R115). -/
namespace Sys2Proof.Machine

/-! ### The census (R371, R372) -/

/-- TYPE that a site's die must have (Table 13-3). -/
def siteType (site : Nat) : Nat :=
  if site ≤ 7 then 1 else if site ≤ 15 then 2 else if site = 16 then 3 else if site ≤ 18 then 4 else 5

/-- FORMAT, reserved bytes, LENGTH and CRC of a fuse record (Table 13-2). -/
def fuseForm (bs : Bytes) : Bool :=
  let n := le bs 12 2
  decide (byteAt bs 0 = 1) && zeroAt bs 3 1 && zeroAt bs 14 2 && zeroAt bs 20 12 && decide (32 ≤ n ∧ n ≤ 1408 ∧ n ≤ bs.length) &&
    decide (le bs 16 4 = crc32 (slice bs 0 16 ++ slice bs 20 (n - 20)))

/-- SERIAL of a fuse record. -/
def fuseSerial (bs : Bytes) : Nat := le bs 4 8

/-- A fuse record passes every check of Table 13-3 but for the other sites' serials. -/
def fuseOk (site : Nat) (bs : Bytes) : Bool :=
  fuseForm bs && decide (byteAt bs 1 = site ∧ byteAt bs 2 = siteType site ∧ fuseSerial bs ≠ 0)

/-- Another site's segment that has passed the format check carries the serial. DESIGN CHOICE (log 63): a segment without a sound
record gives no serial. -/
def serialShared (fuses : List (Option Bytes)) (site serial : Nat) : Bool :=
  allSites.any fun i => decide (i ≠ site) && match fuses.getD i none with
    | some bs => fuseForm bs && decide (fuseSerial bs = serial)
    | none => false

/-- One site's outcome of the census (Table 13-3): type and serial as read. The fuses given are what the last reading of each
segment gave: a record whose CRC fails is read once more first (R372). -/
def State.censusDie (s : State) (site : Nat) (d : Die) : Die :=
  match s.sys.env.fuses.getD site none with
  | none =>
    if 19 ≤ site ∧ s.sys.env.found.getD (site - 19) false then { d with st := .running, attach := 2 } else { d with st := .absent }
  | some bs =>
    let d := { d with type := byteAt bs 2, serial := BitVec.ofNat 64 (fuseSerial bs) }
    if fuseOk site bs ∧ !serialShared s.sys.env.fuses site (fuseSerial bs) then
      { d with st := .census, attach := if 17 ≤ site then 1 else 0, bootPath := d.bootPath || decide (site = 17 ∨ site = 18) }
    else { d with st := .mismatch }

/-- The census: every site's state, the boot-path regions of the I/O dies ungated, MLB_FAULT_N for a MISMATCH and for an
ABSENT site among 0-16 (R369, R372). The crossings of such a site are fenced, so one of them is the latest fence (R221). -/
def State.census (s : State) : State :=
  allSites.foldl (fun s i =>
    let s := s.modDie i (s.censusDie i)
    let st := (s.dieAt i).st
    let s := if i ≤ 16 ∧ (st = .mismatch ∨ st = .absent) then s.xLast (xId 8 (regionNo i (localCount i - 1))) else s
    if st = .mismatch ∨ (st = .absent ∧ i ≤ 16) then s.mlbSet (.census i) else s) s

/-! ### Reset calibration of the routes (R146, R151) -/

/-- The part failed its reset calibration. -/
def State.calFailed (s : State) (p : CalPart) : Bool := s.sys.env.calFail.contains p

/-- Sites as `Site`. -/
def siteOfNat (i : Nat) : Site := ⟨i % 23, Nat.mod_lt _ (by decide)⟩

/-- Terms of a site that reset calibration measures (Table 5-2): kind, index, quadrant, carrier. -/
def State.calTerms (s : State) (site : Nat) : List (Nat × Nat × Nat × Nat) :=
  let x := siteOfNat site
  let ls := ((List.finRange 6).filter fun l => !s.calFailed (.landing x l)).flatMap fun l => (List.range 4).map fun c => (0, l.val, 0, c)
  let gs := ((List.finRange 7).filter fun g => !s.calFailed (.group x g)).flatMap fun g =>
    if g.val < 4 then [(1, g.val, g.val, 0)] else (List.range 4).map fun q => (1, g.val, q, 0)
  let xs := ((List.finRange 4).filter fun q => !s.calFailed (.link x q)).flatMap fun q => [(2, 0, q.val, 0), (3, 0, (q.val + 1) % 4, 0)]
  ls ++ gs ++ xs ++ (if s.calFailed (.backup x) then [] else [(4, 0, 0, 0)])

/-- Events of the parts that failed, in order. DESIGN CHOICE (log 56): a landing or group that is no quadrant's at reset is given the
quadrant of its index modulo 4. -/
def State.calEvents (s : State) : State :=
  s.sys.env.calFail.foldl (fun s p => s.raise evRouteCalFail (match p with
    | .landing x l => routeArg x (l.val % 4) 2 l
    | .group x g => routeArg x (g.val % 4) 5 g
    | .link x q => routeArg x q 0 0
    | .backup x => routeArg x 0 0 0)) s

/-- A site after reset calibration: its terms in use, failed parts marked, and the quadrants of failed parts bridged. Received power
is against the nominal recorded here (R138). A site without a die is ABSENT, its landings lit and measured like the others. -/
def State.calSite (s : State) (site : Nat) : State :=
  let x := siteOfNat site
  let s := (s.calTerms site).foldl (fun s t =>
    let key := termKey site t.1 t.2.1 t.2.2.1 t.2.2.2
    s.putTerm key (Config.routeDelay key)) s
  let bad := ((List.finRange 6).filter fun l => s.calFailed (.landing x l)).map (·.val)
  let badG := ((List.finRange 7).filter fun g => s.calFailed (.group x g)).map (·.val)
  let none_ := decide ((s.dieAt site).st = .absent)
  let s := s.modSite site fun y => { y with
    state := if none_ then .absent else .optical, lfail := bad, gfail := badG, backupBad := s.calFailed (.backup x)
    xfail := ((List.finRange 4).filter fun q => s.calFailed (.link x q)).map (·.val), power := [] }
  let temp := some (s.sys.env.temps.getD site 0)
  let s := { s with opt := { s.opt with
    calTemp := (List.range 6).foldl (fun m l => Map.put none m (6 * site + l) temp) s.opt.calTemp } }
  if none_ then s
  else
    let s := (bad.filter (· < 4)).foldl (fun s l => s.bridge site l 2 l) s
    (badG.filter (· < 4)).foldl (fun s g => s.groupLost site g) s

/-- Reset calibration of every route. -/
def State.calRoutes (s : State) : State := ((allSites.foldl State.calSite s.calEvents)).note16

/-- Insertions for the parts that failed it (step 5 of Table 13-1). -/
def State.calSpares (s : State) : State :=
  if s.autoSpare then
    allSites.foldl (fun s i =>
      if (s.site i).served then
        let s := ((s.site i).lfail.filter (· < 4)).foldl (fun s l => s.requestIns (insertion 0 i l l none false false 1)) s
        ((s.site i).gfail.filter (· < 4)).foldl (fun s g => s.requestIns (insertion 1 i g g none false false 1)) s
      else s) s
  else s

/-! ### λC1 slots -/

/-- FLAGS of the slot that begins now (Table 4-1): HOLDOVER, SPAN, HOST, EPOCH in slot 0, XTAL_LOST. -/
def State.slotFlags (s : State) : Nat :=
  b2n s.et.holdover + 2 * b2n s.et.span + 4 * b2n s.et.host + 8 * b2n (decide (s.win = 0)) + 16 * b2n s.et.xtalLost

/-- A slot begins at a window boundary (R103, R104); the sites on the backup reference and the side slots' outputs carry the same
content (R105). -/
def State.slotTurn (s : State) : State :=
  if s.now % 256 = 0 then
    { s with et := { s.et with prevSlot := s.et.slot, slot := some ⟨BitVec.ofNat 64 (256 * (s.win + 1)), BitVec.ofNat 8 s.slotFlags⟩ } }
  else s

/-- What a side slot's tick and sync pair carries: the slot of λC1, while its outputs run (R105, R142, R398). -/
def State.sideSlot (s : State) (site : Nat) : Option Slot1 := if s.sideRuns site then s.et.slot else none

/-! ### Boot steps -/

/-- Step 1: every synthesizer begins its cold lock (R169). -/
def State.coldLocks (s : State) : State :=
  (List.range 72).foldl (fun s i =>
    if (s.synth i).en then s.coldLock i false else s) s

/-- PKG_RESET_N_ASSERT: within 1 us the machine is as after reset; what is lost and what stops is the list of R367. The waiting
commands and the count of free values drawn are the model's own and stay. -/
def execPkgResetNAssert (s : State) : Out := .next { State.reset with pending := s.pending, fresh := s.fresh }

/-- PKG_RESET_N_RELEASE: hold cause 1, and both controllers start their boot ROMs (R368, step 0 of Table 13-1). The span agent draws
its BOOT_ID (R389). -/
def execPkgResetNRelease (env : BootEnv) (s : State) : Out :=
  if s.sys.pkgReset then
    .next { s with
      fresh := s.fresh + 1
      sys := { s.sys with pkgReset := false, env := env, hold := 1, bootStep := 0 }
      sp := { s.sp with bootId := Config.bootId s.fresh } }
  else .next s

/-- BASE_PLL_LOCK: package epoch, steps 1-3 of Table 13-1 (R101, R369, R371, R146). A package whose site 16 fails the census
stops after step 2 (R370). -/
def execBasePllLock (s : State) : Out :=
  if s.sys.pkgReset ∨ s.sys.epoch then .next s
  else
    let s := { s with sys := { s.sys with epoch := true, erg := 0, sideOut := true } }.mlbClear .pllLock
    let s := s.slotTurn
    let s := (s.modDie 16 fun d => { d with bootPath := true }).census.calRoutes.coldLocks
    .next { s with sys := { s.sys with bootStep := if (s.dieAt 16).st = .census then 4 else 2 } }

/-- BASE_PLL_LOCK_TIMEOUT: 100 us after release without lock; boot waits at step 1 (R385). -/
def execBasePllLockTimeout (s : State) : Out :=
  if s.sys.pkgReset ∨ s.sys.epoch then .next s else .next (s.mlbSet .pllLock)

/-- BOOT_OVERRUN: hold has not ended by Erg time 250,000,000 (R370); the event waits until firmware runs. -/
def execBootOverrun (s : State) : Out :=
  if s.sys.epoch ∧ s.inHold ∧ s.sys.bootedAt = none ∧ 250000000 ≤ s.now ∧ !s.sys.mlb.contains .bootOverrun then
    .next ((s.mlbSet .bootOverrun).raiseIf s.active.isSome evBootOverrun 0)
  else .next s

/-- A controller has become ACTIVE at boot: events that waited for firmware, and step 5 of Table 13-1 (R236, R370, R372, R411). -/
def State.bootFirmware (s : State) : State :=
  let s := allSites.foldl (fun s i =>
    let d := s.dieAt i
    s.raiseIf (decide (d.st = .mismatch)) evDieMismatch (i + at_ d.type 8 + at_ (d.serial.toNat % 65536) 16)) s
  let s := s.raiseIf (s.sys.mlb.contains .bootOverrun) evBootOverrun 0
  let fuse (site : Nat) : Option Bytes := if (s.dieAt site).st = .census then s.sys.env.fuses.getD site none else none
  let kd := (List.range 224).foldl (fun (m : Map Nat) d => match fuse (districtSite d) with
    | some bs => Map.put 0 m d (Config.seedKd bs d)
    | none => m) []
  let s := { s with
    sys := { s.sys with bootStep := 6 }
    cal := { s.cal with seeded := true }
    hm := { s.hm with iBase := Config.seedIBase ((List.range 8).map fuse), kd := kd } }
  s.calSpares

/-- The boot calibration of a region is over, accepted or failed (R236). -/
def State.bootSettledRgn (s : State) (r : RegionNo) : Bool := (s.rgn r).cal.bootDone || decide ((s.rgn r).chan.st = .dead)

/-- Regions that are calibrated at boot: those of dies that passed the census. -/
def State.bootRegions (s : State) : List RegionNo :=
  (allSites.filter fun i => (s.dieAt i).st = .census).flatMap siteRegions

/-- A region without a completed boot calibration is DEAD (R374, R208). -/
def State.bootDead (s : State) (r : RegionNo) : State :=
  let s := s.modRgn r fun g => { g with
    chan := { g.chan with st := .dead, twin := .failed, locked := false }
    stop := some ⟨3, s.nowQ, g.nominal, true, false⟩ }
  ((s.mark r kStopOpen 3 (s.rgn r).cycle (captureValue s.nowQ)).raise evRegionDead r).fenceAll (s.sideCrossings [r])

/-- Configuration slots that the boot source serves (R347, R372). -/
def State.bootConfigs (s : State) : List (Option Bytes) := (List.range 4).map s.bootConfig

/-- The slot that a base was picked from: the earliest that verifies at its version (R347). -/
def State.pickedSlot (s : State) (b : Base) : Nat :=
  ((List.range 4).find? fun i => decide (((s.bootConfig i).bind verifyBase).map (fun e => e.1.version) = some b.version)).getD 0

/-- Step 7 of Table 13-1: the base is chosen and composed, and step 8's fence is armed; with no base that verifies and passes
R345 Milbin stays in Bring-up (R347). -/
def State.bootCompose (s : State) : State :=
  let s := (s.bootRegions.filter fun r => !(s.rgn r).cal.bootDone).foldl State.bootDead s
  let go (s : State) (l : Layers) : State :=
    let s := { s with sys := { s.sys with bootStep := 8 } }
    s.arm ⟨s.fenceTime 20000, .boot, l, none, false, 0⟩
  let stay : State := (go s s.cfg.layers).raise evConfigAbsent 0
  match pickBase s.bootConfigs with
  | none => stay
  | some (b, ovl) =>
    let t := { s with cfg := { s.cfg with base := some b, baseSlot := s.pickedSlot b } }
    let recs := ((b.modes.find? (·.1 == b.defaultMode)).map (·.2)).getD []
    let (l, n) := ovl.foldl (fun (a : Layers × Nat) e =>
      if e.1 then (t.withOverlay a.1 e.2 (a.2 + 1), a.2 + 1) else a) (({ mode := b.defaultMode, modeRecs := recs, overlays := [], throttle := none } : Layers), 0)
    if !t.passes s.cfg.layers l true then stay
    else
      let t := (ovl.zipIdx).foldl (fun s e => s.modSlot e.2 fun _ =>
        { e.1.2 with state := if e.1.1 then .awaiting else .stored, order := if e.1.1 then e.2 + 1 else 0 }) t
      go { t with cfg := { t.cfg with orders := n } } l

/-! ### Die release (R373) -/

/-- Sites of a release group that passed the census. -/
def State.releaseSites (s : State) (group : Nat) : List Nat :=
  (allSites.filter fun i =>
    decide ((s.dieAt i).st = .census) &&
    (if group = 0 then decide (i = 16) else if group = 1 then decide (8 ≤ i ∧ i ≤ 15) else if group = 2 then decide (i ≤ 7) else decide (17 ≤ i)))

/-- A region's clock starts at a window boundary now. -/
def Region.start (g : Region) (now : Nat) : Region := { g with edge := now * 32768, win := now / 256 }

/-- Step 1 and 2 of R373: outputs ungated but for the boot-path regions, monitoring armed, pair links calibrating. -/
def State.ungate (s : State) (sites : List Nat) : State :=
  let rs := (sites.flatMap siteRegions).filter fun r => (s.rgn r).cal.bootDone
  let s := s.modRgns (rs.filter fun r => !bootPathRegion r) fun _ g => g.start s.now
  let s := sites.foldl (fun s i => s.modDie i fun d => { d with ungated := true, armed := some s.die.checks }) s
  rs.foldl (fun s r => (List.range 4).foldl (fun s k =>
    if (s.linkEnd r k).isSome ∧ (s.laneAt r k).st = .off then s.modLane r k Lane.calibrate else s) s) s

/-- Step 3 of R373. -/
def State.releaseLogic (s : State) (sites : List Nat) : State :=
  sites.foldl (fun s i => s.modDie i fun d => { d with logicReset := false, st := .running }) s

/-- Die release at a window boundary: the group's clocks at W, its logic at W + 6,144; a TRIP stops further groups (R373, Table
13-8). -/
def State.releaseTick (s : State) : State :=
  match s.sys.release with
  | none => s
  | some ⟨g, w, ungated⟩ =>
    if !ungated then
      if s.now < w then s
      else if s.sys.trip then { s with sys := { s.sys with release := none, bootStep := 10 } }
      else { s.ungate (s.releaseSites g) with sys := { s.sys with release := some ⟨g, w, true⟩ } }
    else if s.now < w + 6144 then s
    else
      let s := s.releaseLogic (s.releaseSites g)
      if g < 3 then { s with sys := { s.sys with release := some ⟨g + 1, s.now + 256, false⟩ } }
      else { s with sys := { s.sys with release := none, bootStep := 10 } }

/-- Boot at a window boundary: step 6 ends with its last region or its budget, and dies are released (Table 13-1). -/
def State.bootTick (s : State) : State :=
  if s.now % 256 ≠ 0 ∨ 10 ≤ s.sys.bootStep then s
  else if s.sys.bootStep = 6 then
    if s.bootRegions.all s.bootSettledRgn ∨ 101310000 ≤ s.now then s.bootCompose else s
  else s.releaseTick

/-! ### The crystal (R113, R115, R384) -/

/-- XTAL_LOSS: holdover; RACK_OFFSET is frozen (R113). While the crystal is lost, a break in its tolerance begins the 10 ms anew (R115). -/
def execXtalLoss (s : State) : Out :=
  if s.sys.pkgReset then .next s
  else if s.et.xtalLost then .next { s with et := { s.et with lossAt := some s.now } }
  else .next (({ s with et := { s.et with
    xtalLost := true, holdover := true, span := false, lossAt := some s.now } } : State).raise evErgHoldover 0)

/-- The correction that discipline asks for goes back to the crystal's own, where DISC_SRC names no other source, and to what it was before
a span peer took over from the crystal where DISC_SRC names the host; the rate follows at the slew rate of R111 (R115). -/
def State.crystalRate (s : State) : Int :=
  let src := fld s.et.ctrl.eff 1 0
  if src = 0 then 0 else if src = 1 then s.et.rateTo else s.et.ownTo.getD s.et.rateTo

/-- XTAL_RESTORED: the crystal has been within tolerance for 10 ms, and so it was lost 10 ms ago or earlier; the flags clear, and the
PLL returns at the slew rate of R111 (R115). -/
def execXtalRestored (s : State) : Out :=
  let due : Bool := match s.et.lossAt with
    | some t => decide (t + 10000000 ≤ s.now)
    | none => true
  if s.et.xtalLost ∧ due then
    .next (({ s with et := { s.et with
      xtalLost := false, holdover := false, lossAt := none, rateTo := s.crystalRate, ownTo := none
      span := s.et.span && decide (fld s.et.ctrl.eff 1 0 = 1) } } : State).raise evXtalRestored 0)
  else .next s

end Sys2Proof.Machine
end

