-- ==== Sys2Proof/Machine/Controllers.lean ====
section
/-! DEFINITION. The controller pair, firmware images, autonomous hold and live updates (01 R29-R32, 10 R276-R284, R303, R422,
12 R359-R362). -/
namespace Sys2Proof.Machine

/-! ### Firmware images (R282, R283) -/

/-- Step 1 of Table 10-4. -/
def fwForm (bs : Bytes) : Bool :=
  let code := le bs 16 4
  let data := le bs 20 4
  slice bs 0 4 == [0x53, 0x52, 0x43, 0x46] && decide (le bs 4 2 = 1) && zeroAt bs 7 1 && zeroAt bs 11 1 && zeroAt bs 28 4 &&
    zeroAt bs 272 240 && decide (code % 4 = 0 ∧ 4 ≤ code ∧ code ≤ 245760 ∧ data % 4 = 0 ∧ data ≤ 49152 ∧ le bs 24 4 < code) &&
    decide (512 + code + data ≤ bs.length)

/-- The step of Table 10-4 that fails; none where the image verifies. -/
def verifyFw (bs : Bytes) : Option Nat :=
  let pub := slice bs 80 96
  if !fwForm bs then some 1
  else if !((Config.sha384 pub == Config.keyHash 0 && Config.keyIntact 0) || (Config.sha384 pub == Config.keyHash 1 && Config.keyIntact 1)) then
    some 2
  else if !Config.ecdsaP384Verify pub (slice bs 0 176) (slice bs 176 96) then some 3
  else if Config.sha384 (slice bs 512 (le bs 16 4 + le bs 20 4)) != slice bs 32 48 then some 4
  else if le bs 12 4 < Config.minSvn then some 5
  else none

/-- MB_FW_VERSION of an image. -/
def fwVersion (bs : Bytes) : Word := word (at_ (byteAt bs 8) 24 + at_ (byteAt bs 9) 16 + at_ (byteAt bs 10) 8 + byteAt bs 6)

/-- The image slots that the boot source serves: those of I/O dies that passed the census (R284, R372). -/
def State.bootImages (s : State) : List (Option Bytes) :=
  (List.range 4).map fun i =>
    let st := (s.dieAt (17 + i / 2)).st
    if st = .census ∨ st = .running then s.sys.env.fw.getD i none else none

/-- Rank of an image: SVN, then version. -/
def fwRank (bs : Bytes) : Nat := le bs 12 4 * 2 ^ 24 + at_ (byteAt bs 8) 16 + at_ (byteAt bs 9) 8 + byteAt bs 10

/-- The verifying image with the highest SVN, then version, the earliest slot on a tie (R284). -/
def pickFw : List (Option Bytes) → Option Bytes
  | [] => none
  | x :: xs =>
    let rest := pickFw xs
    match x, rest with
    | some a, some b => if (verifyFw a).isNone then (if fwRank a < fwRank b then some b else some a) else some b
    | some a, none => if (verifyFw a).isNone then some a else none
    | none, r => r

/-- ARGs of EV_FW_VERIFY_FAIL for the slots that do not verify; an empty slot fails step 1 (R283, R368). -/
def fwFailures (c : Nat) (xs : List (Option Bytes)) : List Nat :=
  xs.filterMap fun x => (match x with
    | some bs => verifyFw bs
    | none => some 1).map fun k => c + at_ k 8

/-- Failed verifications recorded: CODE 7, and events that are raised once firmware runs (R283). -/
def State.verifyFailed (s : State) (c : Nat) (args : List Nat) : State :=
  if args.isEmpty then s
  else
    let s := { s with ctl := { s.ctl with
      fault := word (at_ c 8 + 7), faultErg := word s.now, verifyDue := s.ctl.verifyDue ++ args } }
    if s.active.isSome then { args.foldl (fun s a => s.raise evFwVerifyFail a) s with ctl := { s.ctl with verifyDue := [] } } else s

/-! ### States of the pair -/

/-- Controller numbers as the model keeps them. -/
def ctrlOf (c : Fin 2) : Bool := decide (c = 1)

/-- An image loaded into a controller's memories: header and code in the one, data in the other (R276, R282; log 67). -/
def Ctrl.load (x : Ctrl) (bs : Bytes) : Ctrl :=
  let n := 512 + le bs 16 4
  { x with version := fwVersion bs, iram := bs.take n, dram := slice bs n (le bs 20 4) }

/-- The image copied from another controller's memories (step 5 of Table 10-2). -/
def Ctrl.copyOf (x y : Ctrl) : Ctrl := { x with version := y.version, iram := y.iram, dram := y.dram }

/-- A controller retired (R280): it is Limp's trigger 1 (R418). -/
def State.retire (s : State) (c : Bool) : State :=
  let s := s.modCtrl c fun x => { x with st := .retired, copying := false, loadFrom := none, verified := false }
  ((({ s with sys := { s.sys with limp1 := true } } : State).raise evCtrlRetired (b2n c)).mlbSet (.retired (b2n c)))

/-- A FAULTED controller released from reset into LOADING, to take its image by copy (R279 step 5). -/
def State.reload (s : State) (c : Bool) : State :=
  if (s.ctrl c).st = .faulted then
    s.modCtrl c fun x => { x with st := .loading, copying := true, verified := false, loadFrom := some s.now }
  else s

/-- The live update in progress ends with its handle FAILED. -/
def State.dropUpdate (s : State) (st : Nat) : State :=
  match s.cfg.update with
  | some u => ({ s with cfg := { s.cfg with update := none, fwStage := [] } } : State).finishOp u.handle .failed st
  | none => s

/-- The active controller is lost: the standby takes over under hold cause 3, or there is none and the cause is 4 (R278, R279). A
takeover ends an update that has not reached its hold (R359, Table 10-15). -/
def State.lostActive (s : State) (c : Bool) : State :=
  if (s.ctrl (!c)).st = .standby then
    let s := (s.enterHold 3).dropUpdate stInternal
    let s := s.promote (!c)
    { s with ctl := { s.ctl with takeover := true } }
  else (s.enterHold 4).dropUpdate stInternal

/-- CODE of MB_CTL_FAULT (Table 10-16). -/
def faultCode : FaultKind → Nat
  | .heartbeat => 1
  | .instrEcc => 2
  | .dataEcc => 3
  | .illegal => 4
  | .bus => 5
  | .fatal => 6

/-- MB_CTL_FAULT and its time. -/
def State.faultNoted (s : State) (c : Bool) (code : Nat) : State :=
  { s with ctl := { s.ctl with fault := word (at_ (b2n c) 8 + code), faultErg := word s.now } }

/-- A live update rolls back (R361): the new firmware's controller is held in reset and the outgoing one takes over. -/
def State.rollback (s : State) (u : Update) (st : Nat) : State :=
  let new := !u.outgoing
  let s := s.modCtrl new fun x => { x with st := .faulted, copying := false, loadFrom := none }
  let back := decide ((s.ctrl u.outgoing).st = .standby ∨ (s.ctrl u.outgoing).st = .active)
  let s := s.enterHold (if back then 3 else 4)
  let s := if back then { s.promote u.outgoing with ctl := { (s.promote u.outgoing).ctl with takeover := true } } else s
  let s := s.raise evFwRollback (b2n new)
  ({ s with cfg := { s.cfg with update := none, fwStage := [] } } : State).finishOp u.handle .failed st

/-- A controller is lost to a fault: it counts toward R280, and the third retires it. -/
def State.controllerFaults (s : State) (c : Bool) (code : Nat) : State :=
  let was := (s.ctrl c).st
  let s := s.faultNoted c code
  let s := s.modCtrl c fun x => { x with faults := min 255 (x.faults + 1), st := .faulted, copying := false, verified := false }
  let failsReload := decide (was = .loading) && ((s.ctrl c).loadFrom.isSome || (s.ctrl c).wasRetired)
  let s := s.modCtrl c fun x => { x with loadFrom := none }
  let s := if 3 ≤ (s.ctrl c).faults ∨ failsReload then s.retire c else s
  if was = .active ∨ was = .halted then s.lostActive c
  else
    let s := match s.cfg.update with
      | some u => if u.outgoing ≠ c ∧ s.sys.hold ≠ 2 then s.dropUpdate stInternal else s
      | none => s
    if s.fw then s.reload c else s

/-- CONTROLLER_FAULT (R278, R280): the heartbeat's 30 us run from the last one. The new firmware's controller in an update's hold
rolls back, and its fault does not count (R361). -/
def execControllerFault (c : Fin 2) (why : FaultKind) (s : State) : Out :=
  let k := ctrlOf c
  let x := s.ctrl k
  let late := decide (x.beat + 30000 ≤ s.now)
  if !s.sys.epoch ∨ x.st = .faulted ∨ x.st = .retired then .next s
  else if why = .heartbeat ∧ (!late ∨ (x.st ≠ .active ∧ x.st ≠ .standby)) then .next s
  else
    match s.cfg.update with
    | some u =>
      if s.sys.hold = 2 ∧ u.outgoing ≠ k then .next ((s.faultNoted k (faultCode why)).rollback u stInternal)
      else .next (s.controllerFaults k (faultCode why))
    | none => .next (s.controllerFaults k (faultCode why))

/-- CONTROLLER_HEARTBEAT: an ACTIVE or STANDBY controller's heartbeat reaches the hold monitor through its count crossing (R29,
Table 7-7). -/
def execControllerHeartbeat (c : Fin 2) (s : State) : Out :=
  let k := ctrlOf c
  let st := (s.ctrl k).st
  if st = .active ∨ st = .standby then
    let s := s.modCtrl k fun x => { x with hbSrc := (x.hbSrc + 1) % 256 }
    if s.xState (xId 3 (if k then 5 else 3)) = .whole then
      .next (s.modCtrl k fun x => { x with
        hbTot := x.hbTot + (x.hbSrc + 256 - x.hbSnap) % 256, hbSnap := x.hbSrc, beat := s.now })
    else .next s
  else .next s

/-- CONTROLLER_RELOAD_DONE: the copy from the active controller, or the image that it has verified itself, is loaded and
self-tested. With STANDBY_EN clear it stays in LOADING (R279 step 5, R284, Table 10-16). -/
def execControllerReloadDone (c : Fin 2) (s : State) : Out :=
  let k := ctrlOf c
  let x := s.ctrl k
  if x.st ≠ .loading ∨ x.bootFail then .next s
  else if x.copying then
    if (s.ctrl (!k)).st ≠ .active then .next s
    else
      let s := s.modCtrl k fun x => { x.copyOf (s.ctrl (!k)) with verified := true, copying := false, loadFrom := none }
      if bitOf s.ctl.ctrl 0 then .next (s.standbyReady k) else .next s
  else if x.verified ∧ bitOf s.ctl.ctrl 0 then .next (s.standbyReady k)
  else .next s

/-- CONTROLLER_RELOAD_TIMEOUT: not STANDBY within 40 ms (R280). -/
def execControllerReloadTimeout (c : Fin 2) (s : State) : Out :=
  let k := ctrlOf c
  match (s.ctrl k).st, (s.ctrl k).loadFrom with
  | .loading, some t => if t + 40000000 ≤ s.now then .next (s.retire k) else .next s
  | _, _ => .next s

/-- RELOAD_SOURCE_LOST: the copy's source has faulted or is halted; the boot source is read instead, its 40 ms counted afresh
(R422). -/
def execReloadSourceLost (c : Fin 2) (s : State) : Out :=
  let k := ctrlOf c
  if (s.ctrl k).st = .loading ∧ (s.ctrl k).copying ∧ (s.ctrl (!k)).st ≠ .active then
    .next (s.modCtrl k fun x => { x with copying := false, loadFrom := some s.now })
  else .next s

/-! ### Image verification at boot, at a reload and in a live update -/

/-- A controller cannot run an image at boot: the roles pass to the other, and with both Milbin waits with MLB_FAULT_N asserted
(R284, R370). -/
def State.bootFails (s : State) (c : Bool) : State :=
  let s := s.modCtrl c fun x => { x with bootFail := true }
  if (s.ctrl (!c)).bootFail then s.mlbSet .noImage else s

/-- Step 4 of Table 13-1: the boot source's slots are all verified, and the best image runs (R284). -/
def State.bootImage (s : State) (c : Bool) (selfTest : Bool) : State :=
  let s := s.verifyFailed (b2n c) (fwFailures (b2n c) s.bootImages)
  match selfTest, pickFw s.bootImages with
  | true, some bs =>
    let s := s.modCtrl c fun x => { x.load bs with verified := true }
    let s := s.promote c
    let s := if (s.ctrl (!c)).bootFail then s else s.modCtrl (!c) fun x => { x with copying := true }
    let s := s.ctl.verifyDue.foldl (fun s a => s.raise evFwVerifyFail a) s
    ({ s with ctl := { s.ctl with verifyDue := [] } } : State).bootFirmware
  | _, _ => s.bootFails c

/-- A reload's own read of the boot source (R280, R422): a controller that finds no image or fails its self-test is RETIRED, or
held in reset after a CTRL_RESTART of a FAULTED one. -/
def State.reloadImage (s : State) (c : Bool) (selfTest : Bool) : State :=
  let s := s.verifyFailed (b2n c) (fwFailures (b2n c) s.bootImages)
  match selfTest, pickFw s.bootImages with
  | true, some bs => s.modCtrl c fun x => { x.load bs with verified := true }
  | _, _ =>
    if (s.ctrl c).loadFrom.isSome ∨ (s.ctrl c).wasRetired then s.retire c
    else s.modCtrl c fun x => { x with st := .faulted, verified := false }

/-- Step 2 of Table 12-7: the staged image is verified. -/
def State.stagedImage (s : State) (u : Update) : State :=
  match verifyFw s.cfg.fwStage with
  | some k =>
    let s := s.verifyFailed (b2n !u.outgoing) [b2n (!u.outgoing) + at_ k 8]
    (s.modOp u.handle fun o => { o with verify := k }).dropUpdate stVerify
  | none =>
    if byteAt s.cfg.fwStage 6 ≠ 1 then s.dropUpdate stVersion
    else
      let s := s.modOp u.handle fun o => { o with step := 3 }
      { s with cfg := { s.cfg with update := some { u with step := 3, version := fwVersion s.cfg.fwStage } } }

/-- IMAGE_VERIFIED (R283, R284, R360). -/
def execImageVerified (c : Fin 2) (src : ImageSource) (selfTest : Bool) (s : State) : Out :=
  let k := ctrlOf c
  let x := s.ctrl k
  match src with
  | .boot =>
    if x.st ≠ .loading ∨ x.copying ∨ x.verified ∨ x.bootFail then .next s
    else if s.sys.bootStep = 4 then
      if k && !s.ctl.c0.bootFail then .next s else .next (s.bootImage k selfTest)
    else if 4 < s.sys.bootStep then .next (s.reloadImage k selfTest)
    else .next s
  | .copy =>
    if x.st ≠ .loading ∨ !x.copying ∨ (s.ctrl (!k)).st ≠ .active then .next s
    else if selfTest then .next (s.modCtrl k fun y => y.copyOf (s.ctrl (!k)))
    else if x.loadFrom.isSome then .next (s.retire k)
    else .next (s.modCtrl k fun y => { y with copying := false, bootFail := true })
  | .staged =>
    match s.cfg.update with
    | some u =>
      let running : Bool := match (s.handle u.handle).op with
        | some o => decide (o.st = .running)
        | none => false
      if u.step = 2 ∧ u.outgoing ≠ k ∧ running ∧ !s.inHold then .next (s.stagedImage u) else .next s
    | none => .next s

/-! ### Hold (R29-R32) -/

/-- HOLD_REQUEST: Sirocco requests hold at the start of a live update, cause 2 (R29). -/
def execHoldRequest (s : State) : Out := if s.fw then .next (s.enterHold 2) else .next s

/-- HOLD_RELEASE: firmware releases hold; at boot it does so at step 10. A faulted controller is then reloaded (R32, R279 step 5,
Table 13-1). -/
def execHoldRelease (s : State) : Out :=
  if s.active.isSome ∧ s.inHold ∧ s.sys.released.isNone ∧ 10 ≤ s.sys.bootStep then
    let s := { s with sys := { s.sys with released := some s.now } }
    .next ((s.reload false).reload true)
  else .next s

/-- Timers of RECEIVING handles do not run in hold (R307). -/
def State.shiftTimers (s : State) : State :=
  (List.range 32).foldl (fun s i => s.modOp i fun o =>
    if o.st = .receiving then { o with timer := o.timer + (s.now - max o.timer s.sys.holdFrom) } else o) s

/-- HOLD_EXIT: the first evaluation boundary after the release (R32). What waited follows in R32's order (State.followUp). -/
def execHoldExit (s : State) : Out :=
  match s.sys.released with
  | none => .next s
  | some t =>
    if !s.inHold ∨ s.now % 512 ≠ 0 ∨ s.now ≤ t then .next s
    else
      let cause := s.sys.hold
      let s := s.raise evHoldExit (cause + at_ (min (2 ^ 29 - 1) (s.now - s.sys.holdFrom)) 3)
      let s := (s.shiftTimers.irq 9).mlbClear .hold4
      let s := (s.mlbClear .holdOverrun).mlbClear .bootOverrun
      let boot := decide (s.sys.bootStep = 10)
      let s := { s with sys := { s.sys with
        hold := 0, released := none, overrun := false, follow := 1, bootStep := if boot then 11 else s.sys.bootStep
        bootedAt := if boot then some s.now else s.sys.bootedAt } }
      let s := if s.ctl.takeover then
          (({ s with ctl := { s.ctl with takeover := false } } : State).raise evCtrlTakeover (b2n s.ctl.activeId)).irq 10
        else s
      let s := match s.cfg.update with
        | some u =>
          if u.startedNew then
            let s := s.raise evFwUpdated (b2n !u.outgoing)
            let s := s.modCtrl u.outgoing fun (x : Ctrl) =>
              if x.st = CtrlState.standby then { x with st := CtrlState.loading, copying := true, verified := false, loadFrom := some s.now } else x
            ({ s with cfg := { s.cfg with update := none, fwStage := [] } } : State).finishOp u.handle .completed stOk
          else s
        | none => s
      .next s

/-- HOLD_OVERRUN: a cause-2 hold passes 200 ms (R32, Table 1-7); R361 follows. -/
def execHoldOverrun (s : State) : Out :=
  if s.sys.hold = 2 ∧ !s.sys.overrun ∧ s.sys.causeFrom + 200000000 ≤ s.now then
    .next ((({ s with sys := { s.sys with overrun := true } } : State).raise evHoldOverrun 2).mlbSet .holdOverrun)
  else .next s

/-! ### Live update (R359-R362) -/

/-- RETRY_US of FW_UPDATE while the other controller reloads: what is left of its 40 ms; 0 when RETIRED (R359). -/
def State.reloadUs (s : State) (c : Bool) : Nat :=
  if (s.ctrl c).st = .retired then 0
  else
    match (s.ctrl c).loadFrom with
    | some t => (t + 40000000 - s.now + 999) / 1000
    | none => 0

/-- The image is complete in the staging area: its verification follows (R360 steps 1 and 2). -/
def State.fwStaged (s : State) (h : Nat) : State :=
  let s := s.modOp h fun o => { o with step := 2 }
  { s with cfg := { s.cfg with update := s.cfg.update.map fun u => if u.handle = h then { u with step := 2 } else u } }

/-- FW_UPDATE. -/
def cmdFwUpdate (q : Req) (s : State) : Result :=
  let n := q.le 4 4
  let slot := q.u8 0
  let act := s.ctl.activeId
  let other := s.ctrl (!act)
  let up (i step : Nat) : Option Update := some ⟨i, step, act, 0, (s.ctrl act).version, false⟩
  if q.level ∧ slot ≠ 0 then refuse (badArg 0) s
  else if q.level ∧ (n < 516 ∨ 295424 < n) then refuse (badArg 4) s
  else if !q.level ∧ 3 < slot then refuse (badArg 0) s
  else if (s.findOp fun o => decide (o.kind = .modelLoad ∨ o.kind = .fwUpdate)).isSome then refuse (busyReply 0) s
  else if other.st ≠ .standby then refuse (busyReply (s.reloadUs (!act))) s
  else if q.level then
    s.startOp q { newOp .fwUpdate .receiving s.now with total := n, expert := true, step := 1 } fun i s =>
      { s with cfg := { s.cfg with update := up i 1, fwStage := [] } }
  else
    s.startOp q { newOp .fwUpdate .running s.now with target := slot, step := 1 } fun i s =>
      let bs := (s.bootImages.getD slot none).getD []
      ({ s with cfg := { s.cfg with update := up i 1, fwStage := bs, fwTop := max s.cfg.fwTop bs.length } } : State).fwStaged i

/-- FW_UPDATE, the command (R359, R360). -/
def execFwUpdate (q : Req) (s : State) : Out := .next (s.submit 0x0A05 cmdFwUpdate q)

/-- FW_UPDATE_HOLD_ENTRY: steps 3-6 of Table 12-7, with no mailbox WORKING: hold cause 2, the outgoing controller STANDBY with the
running image, the new firmware ACTIVE. -/
def execFwUpdateHoldEntry (s : State) : Out :=
  match s.cfg.update with
  | none => .next s
  | some u =>
    let running : Bool := match (s.handle u.handle).op with
      | some o => decide (o.st = .running)
      | none => false
    let idle := (List.finRange 8).all fun m => decide ((s.box m).st ≠ .working)
    let ready := decide ((s.ctrl u.outgoing).st = .active ∧ (s.ctrl (!u.outgoing)).st = .standby)
    if u.step ≠ 3 ∨ !running ∨ !ready then .next s
    else if s.sys.hold = 2 ∨ (s.fw ∧ idle) then
      let s := if s.sys.hold = 2 then s else s.enterHold 2
      let s := s.modCtrl u.outgoing fun x => { x with st := .standby, beat := s.now }
      let s := (s.modCtrl (!u.outgoing) fun x => { x.load s.cfg.fwStage with version := u.version }).promote (!u.outgoing)
      let s := s.modOp u.handle fun o => { o with step := 7 }
      .next { s with cfg := { s.cfg with update := some { u with step := 7, startedNew := true } } }
    else .next s

/-- FW_ROLLBACK (R361): VERSION for a schema failure, TIMEOUT for an overrun, INTERNAL otherwise. -/
def execFwRollback (why : RollbackWhy) (s : State) : Out :=
  match s.cfg.update with
  | some u =>
    if s.sys.hold ≠ 2 ∨ u.step < 3 ∨ (why = .overrun ∧ !s.sys.overrun) then .next s
    else
      let s := if why = .overrun then s else s.faultNoted (!u.outgoing) 6
      .next (s.rollback u (match why with
        | .schema => stVersion
        | .overrun => stTimeout
        | .fatal => stInternal))
  | none => .next s

/-! ### The debug executor's controls (R303) -/

/-- CTRL_HALT. -/
def cmdCtrlHalt (_ : Req) (s : State) : Result :=
  match s.active with
  | none => refuse (codeReply stRefused) s
  | some c => .done okReply ((s.modCtrl c fun x => { x with st := .halted }).enterHold 5)

/-- CTRL_HALT, the command (R303). -/
def execCtrlHalt (q : Req) (s : State) : Out := .next (s.submit 0x0C12 cmdCtrlHalt q)

/-- The HALTED controller. -/
def State.haltedCtrl (s : State) : Option Bool :=
  if s.ctl.c0.st = .halted then some false else if s.ctl.c1.st = .halted then some true else none

/-- CTRL_RESUME: the controller runs again; firmware's release of hold follows. -/
def cmdCtrlResume (_ : Req) (s : State) : Result :=
  match s.haltedCtrl with
  | none => refuse (codeReply stRefused) s
  | some c => .done okReply (s.modCtrl c fun x => { x with st := .active, beat := s.now })

/-- CTRL_RESUME, the command (R303). -/
def execCtrlResume (q : Req) (s : State) : Out := .next (s.submit 0x0C13 cmdCtrlResume q)

/-- CTRL_RESTART: a FAULTED or RETIRED controller loads from the boot source; its side of the heartbeat crossing is reset alone
(R280, R378). -/
def cmdCtrlRestart (q : Req) (s : State) : Result :=
  let c := decide (q.u8 0 = 1)
  let st := (s.ctrl c).st
  if 1 < q.u8 0 then refuse (badArg 0) s
  else if st ≠ .faulted ∧ st ≠ .retired then refuse (codeReply stRefused) s
  else
    let s := s.modCtrl c fun x => { x with
      st := .loading, copying := false, verified := false, loadFrom := none, bootFail := false, hbSrc := 0
      wasRetired := x.wasRetired || decide (st = .retired) }
    .done okReply (s.tear (xId 3 (if c then 5 else 3)) false)

/-- CTRL_RESTART, the command (R280). -/
def execCtrlRestart (q : Req) (s : State) : Out := .next (s.submit 0x0C14 cmdCtrlRestart q)

end Sys2Proof.Machine
end

