-- ==== Sys2Proof/Machine/Handles.lean ====
section
/-! DEFINITION. The handle and spill commands, and the ends of long operations (10 R298, R304-R309; 11 R322, R323). -/
namespace Sys2Proof.Machine

/-! ### Handles (R304, R305) -/

/-- Group of a mailbox: MBX0-MBX3, MBX4-MBX5, MBX6, and MBX7 alone. -/
def mbxGroup (m : Fin 8) : Nat := if m.val ≤ 3 then 0 else if m.val ≤ 5 then 1 else if m.val = 6 then 2 else 3

/-- The operation that TARGET names and the mailbox may act on; one that Sirocco started belongs to MBX0-MBX3 (R305, R309). -/
def State.opFor (s : State) (q : Req) : Option (Nat × LongOp) :=
  let i := q.tgt % 32
  match (s.handle i).op with
  | some o =>
    let group := match o.starter with
      | some m => mbxGroup m
      | none => 0
    if s.handleNo i = q.tgt ∧ (q.mbx = 7 ∨ mbxGroup q.mbx = group) then some (i, o) else none
  | none => none

/-- A long operation ends and frees what it still held of its kind. -/
def State.dropStaged (s : State) (i : Nat) (o : LongOp) : State :=
  match o.kind with
  | .modelLoad => { s with hm := { s.hm with
      staging := [], ready := match s.hm.ready with
        | some (x, h, t) => if h = i then none else some (x, h, t)
        | none => none } }
  | .overlayApply => { s with cfg := { s.cfg with staging := [] } }
  | .fwUpdate => { s with cfg := { s.cfg with update := none, fwStage := [] } }
  | _ => s

/-! ### OP_SUSPEND and OP_RESUME (R306, Table 10-13) -/

/-- OP_SUSPEND. -/
def cmdOpSuspend (q : Req) (s : State) : Result :=
  match s.opFor q with
  | none => refuse badTarget s
  | some (i, o) =>
    let go (s : State) : Result := .done okReply s
    match o.st with
    | .done => refuse (codeReply stRefused) s
    | .cancelling => refuse (codeReply stRefused) s
    | .suspending => go s
    | .suspended => go s
    | .receiving => go (s.modOp i fun o => o.suspendNow s.now)
    | .running =>
      match o.kind with
      | .crossRelease => refuse (codeReply stRefused) s
      | .calRun => go ((s.modOp i fun o => { o with st := .suspending }).calOpEnd i)
      | .selftestRun => go ((s.modOp i fun o => { o with st := .suspending }).calOpEnd i)
      | .overlayApply =>
        if 4 ≤ o.step then go (s.modOp i fun o => { o with st := .suspending }) else go (s.modOp i fun o => o.suspendNow s.now)
      | .spareInsert =>
        if s.opt.ins.any fun x => decide (x.handle = some i ∧ x.kind = 3 ∧ 2 ≤ x.step) then
          go (s.modOp i fun o => { o with st := .suspending })
        else go (s.modOp i fun o => o.suspendNow s.now)
      | _ => go (s.modOp i fun o => o.suspendNow s.now)

/-- OP_SUSPEND, the command (R306). -/
def execOpSuspend (q : Req) (s : State) : Out := .next (s.submit 0x0101 cmdOpSuspend q)

/-- A SUSPENDED operation goes on from its safe point: an image held out of activation may be activated from now on, an overlay
stopped at its validation is given its fence. -/
def State.resume (s : State) (i : Nat) (o : LongOp) : State :=
  if o.wasRecv then s.modOp i fun o => { o with st := .receiving, wasRecv := false, timer := s.now - o.timer }
  else
    let s := s.modOp i fun o => { o with st := .running }
    match o.kind with
    | .modelLoad => { s with hm := { s.hm with ready := s.hm.ready.map fun e => if e.2.1 = i then (e.1, e.2.1, s.now) else e } }
    | .overlayApply =>
      let mine (e : Fence) : Bool := match e.kind with
        | .overlay _ h => decide (h = i)
        | _ => false
      let es := s.cfg.stopped.filter mine
      let s := { s with cfg := { s.cfg with stopped := s.cfg.stopped.filter fun e => !mine e } }
      es.foldl State.refence s
    | _ => s

/-- OP_RESUME. -/
def cmdOpResume (q : Req) (s : State) : Result :=
  match s.opFor q with
  | none => refuse badTarget s
  | some (i, o) =>
    match o.st with
    | .done => refuse (codeReply stRefused) s
    | .cancelling => refuse (codeReply stRefused) s
    | .suspending => .done okReply (s.modOp i fun o => { o with st := .running })
    | .suspended => .done okReply (s.resume i o)
    | _ => .done okReply s

/-- OP_RESUME, the command (R306). -/
def execOpResume (q : Req) (s : State) : Out := .next (s.submit 0x0102 cmdOpResume q)

/-! ### OP_CANCEL (R306, Table 10-13) -/

/-- A region's activity given up for a cancelled request: a swap dropped and a busy twin back on standby (R248). -/
def State.calDrop (s : State) (r : RegionNo) : State :=
  let s := (s.swapDrop r).modRgn r fun g =>
    if g.chan.twin = .busy then g.twinBack s.win else g
  s.calPause r

/-- The regions that run for one request alone. -/
def State.onlyFor (s : State) (i : Nat) (o : LongOp) : List RegionNo :=
  o.left.filter fun r => (s.rgn r).cal.running && decide ((s.rgn r).cal.test = decide (o.kind = .selftestRun)) &&
    !((List.range 32).any fun j => decide (j ≠ i) && match s.calOp j with
      | some p => decide (p.st ≠ .cancelling) && p.left.contains r
      | none => false)

/-- An insertion undone: what it had taken is free again, and the part in place serves (R153, R180, R271). -/
def State.insUndo (s : State) (x : Insertion) : State :=
  let s := { s with opt := { s.opt with ins := s.opt.ins.filter (· ≠ x) } }
  if x.kind ≤ 1 then s.untake x
  else if x.kind = 2 then
    match x.took with
    | some c => { s with opt := { s.opt with
        tone := if s.opt.tone = c then x.part else s.opt.tone
        slot := if s.opt.slot = c then x.part else s.opt.slot, free := addKey c s.opt.free } }
    | none => s
  else if x.kind = 3 then
    let s := (s.modPort x.target fun y => { y with qreq := false, quietAt := none }).letGo x.target
    match x.took with
    | some j => (s.spareBits j true false).spareFollow (x.target / 16)
    | none => s
  else if x.kind = 4 then
    let d := districtOf x.target
    if Map.get none s.cal.taken d = some x.target ∧ !(s.rgn x.target).chan.onSpare then
      { s with cal := { s.cal with taken := Map.put none s.cal.taken d none } }
    else s
  else s

/-- An overlay's fence undone: its slot as before; a throttle overlay or a Limp trigger that had joined the fence is taken
up again. -/
def State.overlayUndo (s : State) (i : Nat) : State :=
  let mine (e : Fence) : Bool := match e.kind with
    | .overlay _ h => decide (h = i)
    | _ => false
  let es := s.cfg.fences.filter mine
  let s := { s with cfg := { s.cfg with
    fences := s.cfg.fences.filter fun e => !mine e, stopped := s.cfg.stopped.filter fun e => !mine e, staging := [] } }
  let s := es.foldl State.unfence s
  es.foldl (fun s e =>
    let s := if e.throttle then (s.callThrottle).1 else s
    if e.limp = 0 then s else s.toLimp e.limp) s

/-- What OP_CANCEL undoes at once, by kind. -/
def State.undoOp (s : State) (i : Nat) (o : LongOp) : State :=
  match o.kind with
  | .calRun => calUndo s
  | .selftestRun => calUndo s
  | .spareInsert => ((s.opt.ins.filter fun x => decide (x.handle = some i))).foldl State.insUndo s
  | .crossRelease =>
    let mine := s.xg.rel.filter fun e => decide (e.handle = some i)
    let lanes := mine.flatMap fun e => ((e.rs.getD []).flatMap s.regionLanes).filter fun l => decide ((s.laneAt l.1 l.2).st = .calibrating)
    let s := s.fenceAll (lanes.map fun l => laneId l.1 l.2)
    { s with xg := { s.xg with rel := s.xg.rel.filter fun e => decide (e.handle ≠ some i) } }
  | .overlayApply => s.overlayUndo i
  | _ => s.dropStaged i o
where
  /-- Runs in progress abandoned; regions already accepted keep their sets. -/
  calUndo (s : State) : State :=
    let rs := s.onlyFor i o
    let all := o.left
    let s := s.modOp i fun o => { o with left := [] }
    let s := rs.foldl State.calDrop s
    (all.foldl State.calSync s).calQueue

/-- The last cancellable point is behind: an overlay's fence is due, a live update is in its hold, or a spare landing or group has been
handed over (R153). -/
def State.pastCancel (s : State) (i : Nat) (o : LongOp) : Bool :=
  match o.kind with
  | .overlayApply => s.cfg.fences.any fun e => match e.kind with
    | .overlay _ h => decide (h = i ∧ e.f ≤ s.now)
    | _ => false
  | .fwUpdate => decide (7 ≤ o.step)
  | .spareInsert => s.opt.ins.any fun x => decide (x.handle = some i ∧ x.kind ≤ 1 ∧ 6 ≤ x.step)
  | _ => false

/-- OP_CANCEL. -/
def cmdOpCancel (q : Req) (s : State) : Result :=
  match s.opFor q with
  | none => refuse badTarget s
  | some (i, o) =>
    match o.st with
    | .done => refuse (codeReply stRefused) s
    | .cancelling => .done okReply s
    | _ =>
      if s.pastCancel i o then refuse (codeReply stRefused) s
      else .done okReply ((s.modOp i fun o => { o with st := .cancelling }).undoOp i o)

/-- OP_CANCEL, the command (R306). -/
def execOpCancel (q : Req) (s : State) : Out := .next (s.submit 0x0103 cmdOpCancel q)

/-- LONG_OP_DONE: an operation whose cancelling is over ends CANCELLED; operations of every kind reach DONE in the commands that
complete them (R306, R308). -/
def execLongOpDone (h : Fin 32) (s : State) : Out :=
  match (s.handle h).op with
  | some o => if o.st = .cancelling then .next (s.finishOp h .cancelled stOk) else .next s
  | none => .next s

/-! ### OP_QUERY (R323, Table 11-17) -/

/-- STATE of OP_QUERY. -/
def OpState.code : OpState → Nat
  | .receiving => 0
  | .running => 1
  | .suspending => 2
  | .suspended => 3
  | .cancelling => 4
  | .done => 5

/-- OUTCOME of OP_QUERY. -/
def Outcome.code : Outcome → Nat
  | .none => 0
  | .completed => 1
  | .cancelled => 2
  | .failed => 3

/-- Progress, bytes 24-47. -/
def LongOp.progress (o : LongOp) : Bytes :=
  match o.kind with
  | .spareInsert => toLE 1 o.step ++ toLE 1 o.scope ++ toLE 1 o.spare ++ zeros 21
  | .calRun => calProgress
  | .selftestRun => calProgress
  | .crossRelease => toLE 1 o.step ++ zeros 23
  | _ => toLE 1 o.step ++ zeros 3 ++ toLE 4 o.received ++ toLE 1 o.verify ++ zeros 15
where
  /-- The counts of R248. -/
  calProgress : Bytes :=
    toLE 2 o.accepted ++ toLE 2 o.left.length ++ toLE 2 o.void ++ toLE 2 o.suspect ++ toLE 2 o.failed ++ zeros 14

/-- The 48 bytes of Table 11-17. -/
def LongOp.record (o : LongOp) : Bytes :=
  toLE 1 o.st.code ++ toLE 1 o.outcome.code ++ toLE 1 o.final ++ toLE 1 ((o.starter.map (·.val)).getD 255) ++ toLE 2 o.kind.opcode ++
    zeros 2 ++ toLE 8 o.start ++ toLE 8 o.done ++ o.progress

/-- OP_QUERY; a DONE handle is freed (R308). -/
def cmdOpQuery (q : Req) (s : State) : Result :=
  match s.opFor q with
  | none => refuse badTarget s
  | some (i, o) => .done (okReply o.record) (if o.st = .done then s.releaseHandle i else s)

/-- OP_QUERY, the command (R323). -/
def execOpQuery (q : Req) (s : State) : Out := .next (s.submit 0x0104 cmdOpQuery q)

/-! ### OP_WRITE (R307) -/

/-- Data to the staging area of a kind; the last byte starts the operation (R89, R354, R360). -/
def State.stage (s : State) (i : Nat) (o : LongOp) (bs : Bytes) : State :=
  let n := o.received + bs.length
  let s := s.modOp i fun o => { o with received := n, timer := s.now, st := if n = o.total then .running else .receiving }
  let s := match o.kind with
    | .modelLoad => { s with hm := { s.hm with
        staging := s.hm.staging ++ bs, stageTop := max s.hm.stageTop (s.hm.staging.length + bs.length) } }
    | .overlayApply => { s with cfg := { s.cfg with
        staging := s.cfg.staging ++ bs, ovlTop := max s.cfg.ovlTop (s.cfg.staging.length + bs.length) } }
    | .fwUpdate => { s with cfg := { s.cfg with
        fwStage := s.cfg.fwStage ++ bs, fwTop := max s.cfg.fwTop (s.cfg.fwStage.length + bs.length) } }
    | _ => s
  if n ≠ o.total then s
  else match o.kind with
    | .modelLoad => s.modelStaged i
    | .overlayApply => s.overlayStaged i
    | .fwUpdate => s.fwStaged i
    | _ => s

/-- OP_WRITE. -/
def cmdOpWrite (q : Req) (s : State) : Result :=
  match s.opFor q with
  | none => refuse badTarget s
  | some (i, o) =>
    let bs := q.payload.drop 8
    if o.st = .suspended then refuse (busyReply 0) s
    else if o.st ≠ .receiving then refuse badTarget s
    else if q.le 0 4 ≠ o.received then refuse (badArg 0) s
    else if bs.isEmpty ∨ 232 < bs.length ∨ o.total < o.received + bs.length then refuse (badArg 8) s
    else .done (okReply (toLE 4 (o.received + bs.length))) (s.stage i o bs)

/-- OP_WRITE, the command (R307). -/
def execOpWrite (q : Req) (s : State) : Out := .next (s.submit 0x0105 cmdOpWrite q)

/-- OP_WRITE_TIMEOUT: 100 ms without an OP_WRITE; the timer stops in hold (R307). -/
def execOpWriteTimeout (h : Fin 32) (s : State) : Out :=
  match (s.handle h).op with
  | some o =>
    if o.st = .receiving ∧ !s.inHold ∧ o.timer + 100000000 ≤ s.now then .next ((s.dropStaged h o).finishOp h .failed stTimeout)
    else .next s
  | none => .next s

/-- HANDLE_EXPIRED: 10 s after DONE (R308). -/
def execHandleExpired (h : Fin 32) (s : State) : Out :=
  match (s.handle h).op with
  | some o =>
    if o.st = .done ∧ o.done + 10000000000 ≤ s.now then .next ((s.raise evHandleExpired (s.handleNo h)).releaseHandle h) else .next s
  | none => .next s

/-! ### Spill (R298) -/

/-- MBX_SPILL_READ: up to 240 bytes; the last byte returned frees the spill. One that an uncorrectable word has freed is told
with INTERNAL (Table 10-5). -/
def cmdMbxSpillRead (q : Req) (s : State) : Result :=
  let b := s.box q.mbx
  let off := q.le 0 4
  match b.spill with
  | none =>
    if b.spillLost then .done (codeReply stInternal) (s.modBox q.mbx fun b => { b with spillLost := false })
    else refuse (badArg 0) s
  | some bs =>
    if bs.length ≤ off then refuse (badArg 0) s
    else
      let out := slice bs off (min 240 (bs.length - off))
      .done (okReply out) (if off + 240 < bs.length then s else s.modBox q.mbx fun b => { b with spill := none })

/-- MBX_SPILL_READ, the command (R298). -/
def execMbxSpillRead (q : Req) (s : State) : Out := .next (s.submit 0x0106 cmdMbxSpillRead q)

/-- MBX_SPILL_FREE. -/
def cmdMbxSpillFree (q : Req) (s : State) : Result :=
  .done okReply (s.modBox q.mbx fun b => { b with spill := none, spillLost := false })

/-- MBX_SPILL_FREE, the command (R298). -/
def execMbxSpillFree (q : Req) (s : State) : Out := .next (s.submit 0x0107 cmdMbxSpillFree q)

end Sys2Proof.Machine
end

