-- ==== Sys2Proof/Machine/Log.lean ====
section
/-! DEFINITION. The event log: raising an event, writing an entry, and EVENT_READ (15 R414-R417; 11 R337). -/
namespace Sys2Proof.Machine

/-- First 64-bit word of the event log's partition, at 0x38_C000 (Table 1-10). -/
def logWord : Nat := 0x38C000 / 8

/-- Index of the entry with a sequence number (R414). -/
def logIndex (seq : Nat) : Nat := seq % logSize

/-- The words of the entry with a sequence number. -/
def logWords (seq : Nat) : List Nat := [logWord + 2 * logIndex seq, logWord + 2 * logIndex seq + 1]

/-- EVENT_RAISE (R415). -/
def execEventRaise (id : BitVec 10) (arg : Word) (s : State) : Out := .next (s.raise id.toNat arg.toNat)

/-- EVENT_LOG_WRITE: in an engine cycle in which the arbiter serves the ingress, one entry is written over the oldest; what the words held before, a
poison mark included, is gone (R414, R415). -/
def execEventLogWrite (s : State) : Out :=
  if !s.sys.epoch ∨ s.ev.queue.isEmpty ∨ !s.ev.turn then .next s
  else .next { s with
    ev := { s.ev.drain with turn := false }
    ctl := { s.ctl with poison := s.ctl.poison.filter fun w => !(logWords s.ev.seq).contains w } }

/-- An entry's 16 bytes (Table 15-4). -/
def LogEntry.bytes (e : LogEntry) : Bytes :=
  toLE 4 e.seq ++ toLE 6 e.ev.erg ++ toLE 2 (e.ev.id % 1024 + at_ (e.ev.sev % 4) 10 + at_ (min 15 e.ev.rep) 12) ++ toLE 4 e.ev.arg.toNat

/-- The entry that an index holds, as a read returns it: with an uncorrectable word only its SEQ stands (R414). -/
def State.logRead (s : State) (e : LogEntry) : Bytes :=
  if (logWords e.seq).any s.ctl.poison.contains then toLE 4 e.seq ++ zeros 12 else e.bytes

/-- The held entry with a sequence number. -/
def State.logAt (s : State) (seq : Nat) : Option LogEntry := s.ev.log.find? fun e => decide (e.seq = seq)

/-- Sequence number of the oldest entry held; of the next entry where none is. -/
def State.logOldest (s : State) : Nat := ((s.ev.log.getLast?).map (·.seq)).getD s.ev.seq

/-- EVENT_READ: entries from START, or from the oldest held; sequence numbers not written yet read as zero. -/
def cmdEventRead (q : Req) (s : State) : Result :=
  let n := q.u8 4
  let first := max (q.le 0 4) s.logOldest
  if n = 0 ∨ 14 < n then refuse (badArg 4) s
  else .done (okReply (toLE 4 first ++ toLE 4 s.ev.overrun ++ zeros 8 ++
    (List.range n).flatMap fun k => match s.logAt (first + k) with
      | some e => s.logRead e
      | none => zeros 16)) s

/-- EVENT_READ, the command (R337). -/
def execEventRead (q : Req) (s : State) : Out := .next (s.submit 0x0C01 cmdEventRead q)

end Sys2Proof.Machine
end

