-- ==== Sys2Proof/Machine/Oasis.lean ====
section
/-! DEFINITION. Oasis: scrubbing, row sparing, and what an uncorrectable word brings about in each partition (10 R285-R288,
Table 10-5; 01 Table 1-10). A word is a byte address divided by 8. -/
namespace Sys2Proof.Machine

/-- Words of Oasis (R285). -/
def oasisWords : Nat := 524288

/-- Row of a word: 4 KiB (R285). -/
def rowOf (w : Nat) : Nat := w / 512

/-- Bank of a row (R285). -/
def bankOf (row : Nat) : Nat := row % 16

/-! ### Scrubbing (R286) -/

/-- A corrected error, written back, counted and charged to its row. -/
def State.corrected (s : State) (w : Nat) : State :=
  let row := rowOf w
  { s with ctl := { s.ctl with
    ce := s.ctl.ce + 1
    lastErr := word w
    rowCe := Map.put [] s.ctl.rowCe row ((s.now :: Map.get [] s.ctl.rowCe row).take 255) } }

/-- OASIS_SCRUB: one more word of the pass, in an engine cycle in which no requester waits; a pass is complete when every word has been
read (R286). -/
def execOasisScrub (w : Fin 524288) (corrected : Bool) (s : State) : Out :=
  if s.sys.pkgReset ∨ !s.xg.arb.wait.isEmpty then .next s
  else
    let s := if corrected then s.corrected w else s
    let n := s.ctl.scrubbed + 1
    .next { s with ctl := { s.ctl with
      scrubbed := if n < oasisWords then n else 0
      passes := if n < oasisWords then s.ctl.passes else s.ctl.passes + 1 } }

/-! ### Row sparing (R287) -/

/-- The row's corrected errors have reached ROW_CE_TH within one second of Erg time. -/
def State.rowWorn (s : State) (row : Nat) : Bool :=
  let l := Map.get [] s.ctl.rowCe row
  match l.head?, l[fld s.ctl.ctrl 15 8 - 1]? with
  | some new, some old => decide (new - old ≤ 1000000000)
  | _, _ => false

/-- A free spare row of a bank: spare j of bank b at bit 2b + j (Table 10-16). -/
def State.freeRow (s : State) (bank : Nat) : Option Nat := [0, 1].find? fun j => !bitOf s.ctl.spareUse (2 * bank + j)

/-- OASIS_ROW_SPARE, not in hold, a boot's included: the row is copied, poison marks with it, and its address remapped; without a free spare it stays in service
(R287). What called for the sparing is answered either way. In hold sparing waits (Table 1-7). -/
def execOasisRowSpare (row : Fin 1024) (s : State) : Out :=
  if !bitOf s.ctl.ctrl 1 ∨ !s.fw ∨ !(s.rowWorn row || s.ctl.rowUe.contains row.val) then .next s
  else
    let answered : State := { s with ctl := { s.ctl with
      rowCe := Map.put [] s.ctl.rowCe row [], rowUe := s.ctl.rowUe.filter (· ≠ row.val) } }
    let bank := bankOf row
    match s.freeRow bank with
    | none => .next (answered.raise evSpareExhausted (6 + at_ bank 16))
    | some j =>
      let bit := 2 * bank + j
      let done : State := { answered with ctl := { answered.ctl with
        spareUse := s.ctl.spareUse ||| word (2 ^ bit)
        spared := sat16 s.ctl.spared 1
        rowMap := Map.put 0 s.ctl.rowMap row (bit + 1) } }
      .next (done.raise evOasisRowSpared (512 * row.val))

/-! ### Uncorrectable words (R288, Table 10-5) -/

/-- Partitions of Oasis with what a word's offset names in each (Tables 1-10, 8-2, 12-4). -/
inductive Place where
  /-- forecast queue slot -/
  | forecast (slot : Nat)
  /-- plan record: second half, district, byte offset -/
  | plan (second : Bool) (d off : Nat)
  /-- anchor entry, byte offset -/
  | anchor (i off : Nat)
  /-- spill area of a mailbox, byte offset -/
  | spill (m : Fin 8) (off : Nat)
  /-- sensor frame by ring position, byte offset -/
  | frame (k off : Nat)
  /-- ledger record by ring index, byte offset -/
  | ledger (i off : Nat)
  /-- region set by dense index, byte offset -/
  | regionSet (i off : Nat)
  /-- district spare set, byte offset -/
  | spareSet (d off : Nat)
  /-- lane synthesizer sets -/
  | synthSets
  /-- route terms -/
  | terms
  /-- seed image, byte offset -/
  | seeds (off : Nat)
  /-- active half of the model partition -/
  | models
  /-- staging half and firmware staging extension: byte offset from 0x30_C000 -/
  | staging (off : Nat)
  /-- base configuration, byte offset -/
  | base (off : Nat)
  /-- overlay slot, byte offset -/
  | slot (k : Fin 16) (off : Nat)
  /-- event log entry by index, byte offset -/
  | log (i off : Nat)
  /-- Sirocco working data -/
  | working
  /-- overlay staging, byte offset -/
  | overlay (off : Nat)
  /-- reserved -/
  | reserved
  deriving DecidableEq, Repr

/-- Where a byte address of Oasis lies (Table 1-10). -/
def placeOf (a : Nat) : Place :=
  if a < 0x008000 then .forecast (a / 8)
  else if a < 0x00C000 then let o := a - 0x8000; .plan (decide (0x2000 ≤ o)) (o % 0x2000 / 32) (o % 32)
  else if a < 0x01C000 then let o := a - 0xC000; .anchor (o / 64) (o % 64)
  else if a < 0x02C000 then let o := a - 0x1C000; .spill (Fin.ofNat 8 (o / 0x2000)) (o % 0x2000)
  else if a < 0x0AC000 then let o := a - 0x2C000; if o < 522240 then .frame (o / 3072) (o % 3072) else .reserved
  else if a < 0x22C000 then let o := a - 0xAC000; .ledger (o / 16) (o % 16)
  else if a < 0x2AC000 then let o := a - 0x22C000; .regionSet (o / 256) (o % 256)
  else if a < 0x2BC000 then let o := a - 0x2AC000; .spareSet (o / 256) (o % 256)
  else if a < 0x2BE000 then .synthSets
  else if a < 0x2C2000 then .terms
  else if a < 0x2CA000 then .seeds (a - 0x2C2000)
  else if a < 0x2CC000 then .reserved
  else if a < 0x30C000 then .models
  else if a < 0x356000 then .staging (a - 0x30C000)
  else if a < 0x35C000 then .base (a - 0x356000)
  else if a < 0x38C000 then let o := a - 0x35C000; .slot (Fin.ofNat 16 (o / 0x3000)) (o % 0x3000)
  else if a < 0x3CC000 then let o := a - 0x38C000; .log (o / 16) (o % 16)
  else if a < 0x3FC000 then .working
  else if a < 0x3FF000 then .overlay (a - 0x3FC000)
  else .reserved

/-- Place in the queue of the word that a slot holds. -/
def State.queuePos (s : State) (slot : Nat) : Nat := (slot + 4096 - s.hm.head % 4096) % 4096

/-- Place among the frames held, newest first, of the frame at a ring position: frame n lies at n mod 170 (R266). -/
def State.framePos (s : State) (k : Nat) : Nat := (s.sns.seq + 169 - k) % 170

/-- The frame with the record that a byte lies in read as zero: a district's or a tile's 8 bytes, the plant record's 64, or one of
the header's fields (Table 9-4). -/
def blankRecord (f : Bytes) (off : Nat) : Bytes :=
  if 2624 ≤ off ∧ off < 2688 then overlayAt f 2624 (zeros 64) else overlayAt f (off / 8 * 8) (zeros 8)

/-- A resident image is faulted: EV_HM_MODEL_FAULT once, and MODEL_FAULT_CNT (R96). Which image a word of the active half belongs
to the spec does not say. -/
def State.faultImage (s : State) : State :=
  let (n, s) := s.draw
  let k := n % max 1 s.hm.images.length
  match s.hm.images[k]? with
  | none => s
  | some x => s.imageFaults x.id

/-- A route term is remeasured; which one a word belongs to, and what is measured, the spec does not say (R148). -/
def State.remeasureTerm (s : State) : State :=
  let (n, s) := s.draw
  let (d, s) := s.draw
  match s.opt.terms[n % max 1 s.opt.terms.length]? with
  | some (k, some x) =>
    { s with opt := { s.opt with terms := Map.put none s.opt.terms k (some { x with meas := d % 2 ^ 20, at_ := s.now, held := none }) } }
  | _ => s

/-- A handle's operation ends FAILED with INTERNAL; what it holds is given back. -/
def State.handleLost (s : State) (i : Nat) : State :=
  match (s.handle i).op with
  | some o => if o.st = .done then s else (s.undoOp i o).finishOp i .failed stInternal
  | none => s

/-- A word of a mailbox's journal slot is lost: its request in progress is answered INTERNAL, without effect; where it has been answered, the
same request sent again finds INTERNAL in place of the response (Table 10-5; log 67). -/
def State.journalLost (s : State) (m : Fin 8) : State :=
  if (s.box m).st = .working then
    (match (s.box m).wait with
      | some w => s.undoWait w
      | none => s).complete m (codeReply stInternal)
  else s.modBox m fun b => { b with journal := b.journal.map fun j =>
    { j with resp := trim (respBytes (padTo 256 j.req) (codeReply stInternal) false false), spilled := false } }

/-- A word of working data: a handle's, a journal's, or another; the spec does not give its layout. -/
def State.workingLost (s : State) : State :=
  let (n, s) := s.draw
  let (k, s) := s.draw
  if n % 3 = 0 then s.handleLost (k % 32)
  else if n % 3 = 1 then s.journalLost (Fin.ofNat 8 k)
  else match s.active with
    | some c => s.controllerFaults c 6
    | none => s

/-- The consequence of an uncorrectable word by partition (Table 10-5). -/
def State.wordLost (s : State) : Place → State
  | .forecast slot =>
    let j := s.queuePos slot
    if j < s.hm.queue.length then
      { s with hm := { s.hm with queue := s.hm.queue.eraseIdx j, reject := sat16 s.hm.reject 1 } }
    else s
  | .plan second d _ =>
    if second = s.hm.flip then { s with hm := { s.hm with front := Map.put none s.hm.front d none } }
    else { s with hm := { s.evalNow.hm with back := Map.put none s.evalNow.hm.back d none } }
  | .anchor i _ => if (s.anchor i).state = 0 then s else s.breakAnchor i
  | .spill m off => match (s.box m).spill with
    | some bs => if off < bs.length then s.modBox m fun b => { b with spill := none, spillLost := true } else s
    | none => s
  | .frame k off => { s with sns := { s.sns with frames := s.sns.frames.modify (s.framePos k) fun f => blankRecord f off } }
  | .ledger i _ => match s.ringAt i with
    | some x =>
      let r := x.region.toNat
      ({ s with et := { s.et with ring := Map.put none s.et.ring i (some (lrec r kLoss 0 x.cycle.toNat s.win)) } } : State).lossNoted r
    | none => s
  | .regionSet i _ =>
    let r := ofDense i
    ((({ s with cal := { s.cal with sets := Map.put none s.cal.sets i none } } : State).suspectSync r).modRgn r fun g =>
      { g with wsDue := true, cal := { g.cal with dueDrift := true } }).calSync r
  | .spareSet d _ =>
    let s : State := { s with cal := { s.cal with spares := Map.put none s.cal.spares d none } }
    match Map.get none s.cal.taken d with
    | some r => if (s.rgn r).chan.onSpare then
        ((s.suspectSync r).modRgn r fun g => { g with wsDue := true, cal := { g.cal with dueDrift := true } }).calSync r else s
    | none => s
  | .synthSets => s
  | .terms => s.remeasureTerm
  | .seeds _ => s
  | .models => s.faultImage
  | .staging _ => match s.hm.ready with
    | some (x, h, t) =>
      if x.state = 1 then s
      else ({ s with hm := { s.hm with ready := some ({ x with state := 1 }, h, t), faults := sat16 s.hm.faults 1 } } : State).raise
        evHmModelFault x.id.toNat
    | none => s
  | .base _ => s.configLost .base
  | .slot k _ => s.configLost (.slot k)
  | .log _ _ => s
  | .working => s.workingLost
  | .overlay _ => s
  | .reserved => s

/-- A read meets an uncorrectable or poisoned word: EV_OASIS_UE, UE_CNT, MB_OASIS_LAST_ERR, and the partition's consequence (R288). -/
def State.readLost (s : State) (w : Nat) : State :=
  let noted : State := { s with ctl := { s.ctl with
    ue := sat16 s.ctl.ue 1
    lastErr := word (2 ^ 31 + w)
    poison := addKey w s.ctl.poison
    rowUe := addKey (rowOf w) s.ctl.rowUe } }
  (noted.raise evOasisUe w).wordLost (placeOf (8 * w))

/-- OASIS_UE (R288). -/
def execOasisUe (w : Fin 524288) (s : State) : Out := if s.sys.pkgReset then .next s else .next (s.readLost w)

end Sys2Proof.Machine
end

