-- ==== Sys2Proof/Machine/Debug.lean ====
section
/-! DEFINITION. The debug executor's reads and writes: Oasis as bytes, and the control fabric (10 R303; 11 R337). Oasis holds what
State holds, in the layouts that the spec gives; a byte of an area whose layout the spec does not give is what DEBUG_WRITE put there, else
free (log 8); one that nothing has written since PKG_RESET_N cleared Oasis is zero (R281, Table 13-1). -/
namespace Sys2Proof.Machine

/-! ### Oasis as bytes -/

/-- A byte of an area without a layout: as DEBUG_WRITE left it, else free for this read. -/
def State.rawByte (s : State) (a : Nat) : Byte :=
  match Map.get 0 s.ctl.raw a with
  | 0 => Config.freeByte s.fresh a
  | v => BitVec.ofNat 8 (v - 1)

/-- A byte of a reserved area, or of a place never written since Oasis was cleared: zero unless DEBUG_WRITE has put another there. -/
def State.restByte (s : State) (a : Nat) : Byte :=
  match Map.get 0 s.ctl.raw a with
  | 0 => 0
  | v => BitVec.ofNat 8 (v - 1)

/-- The bytes of the record that a place lies in, with the place's offset in it; none where the area has no layout. -/
def State.recordAt (s : State) : Place → Option (Bytes × Nat)
  | .forecast slot => (s.hm.queue[s.queuePos slot]?).map fun e => (toLE 8 e.1.toNat, 0)
  | .plan second d off => (Map.get none (if second = s.hm.flip then s.hm.front else s.evalNow.hm.back) d).map fun p => (p.bytes, off)
  | .anchor i off => some (s.anchorBytes i, off)
  | .spill m off => match (s.box m).spill with
    | some bs => if off < bs.length then some (bs, off) else none
    | none => none
  | .frame k off => (s.sns.frames[s.framePos k]?).map fun f => (f, off)
  | .ledger i off => (s.ringAt i).map fun x => (x.bytes, off)
  | .regionSet i off => some ((s.regionSet (ofDense i)).bytes, off)
  | .spareSet d off => some ((s.spareSet d).bytes, off)
  | .staging off =>
    let bs := if s.cfg.fwStage.isEmpty then s.hm.staging else s.cfg.fwStage
    if off < bs.length then some (bs, off) else none
  | .slot k off =>
    let x := s.slot k
    if x.state ≠ .empty ∧ off < x.image.length then some (x.image, off) else none
  | .seeds off => if s.sys.bootStep < 2 then none else some (padTo 0x580 (((s.sys.env.fuses.getD (off / 0x580) none)).getD []), off % 0x580)
  | .base off => s.cfg.base.bind fun b => if off < b.area.length then some (b.area, off) else none
  | .log i off => (s.ev.log.find? fun e => decide (logIndex e.seq = i)).map fun e => (s.logRead e, off)
  | .overlay off => if off < s.cfg.staging.length then some (s.cfg.staging, off) else none
  | _ => none

/-- Whether a place that holds no record now may have held one, or has contents of which the spec gives no layout: what stands there is
open. Any other such place has not been written since Oasis was cleared (R281). -/
def State.wasWritten (s : State) : Place → Bool
  | .forecast slot => decide (slot < s.hm.head + s.hm.queue.length)
  | .spill m off => decide (off < (s.box m).spillTop)
  | .staging off => decide (off < max s.hm.stageTop s.cfg.fwTop)
  | .slot k off => decide (off < (s.slot k).top)
  | .overlay off => decide (off < s.cfg.ovlTop)
  | .synthSets | .terms | .models | .working => true
  | _ => false

/-- A byte of Oasis. The base's area and the seed image are read as DEBUG_WRITE has left them. -/
def State.oasisByte (s : State) (a : Nat) : Byte :=
  let p := placeOf a
  match s.recordAt p with
  | some (bs, off) => match p with
    | .forecast _ => bs.getD (a % 8) 0
    | .base _ | .seeds _ => if Map.get 0 s.ctl.raw a = 0 then bs.getD off 0 else s.restByte a
    | _ => bs.getD off 0
  | none => if s.wasWritten p then s.rawByte a else s.restByte a

/-! ### Records read back from bytes -/

/-- A plan record (Table 3-7). -/
def planOf (b : Bytes) : PlanRec :=
  { win0Erg := le b 0 8, model := BitVec.ofNat 16 (le b 8 2), valid := bitAt (byteAt b 10) 0, neutral := bitAt (byteAt b 10) 1
    sat := bitAt (byteAt b 10) 2, staleFc := bitAt (byteAt b 10) 3, reason := byteAt b 11
    trims := (List.range 16).map fun k => signed 8 (byteAt b (16 + k)) }

/-- An anchor entry (Table 4-5). CURSOR is a ring index; the record it names is the newest one written there. -/
def State.anchorOfBytes (s : State) (b : Bytes) : Anchor :=
  let ix := bits (le b 36 4) 16 0
  { gen := BitVec.ofNat 6 (le b 0 2 / 1024), state := byteAt b 2, pinned := bitAt (byteAt b 3) 0, inexact := bitAt (byteAt b 3) 1
    rebased := bitAt (byteAt b 3) 2, region := le b 4 2, owner := BitVec.ofNat 16 (le b 6 2), baseCycle := le b 8 8
    baseErg := le b 16 8 * 32768 + le b 24 2 / 2, baseTg := bits (le b 32 4) 19 0, baseN := bits (le b 32 4) 31 20
    cursor := s.et.written - (s.et.written + ledgerSize - ix % ledgerSize) % ledgerSize
    lastUse := le b 40 8, deadline := le b 48 8, reach := le b 56 2, busy := byteAt b 58 }

/-- A ledger record (Table 4-3). -/
def lrecOf (b : Bytes) : LRec :=
  { region := BitVec.ofNat 16 (le b 0 2), kind := byteAt b 2, aux := byteAt b 3, cycle := BitVec.ofNat 48 (le b 4 6)
    value := BitVec.ofNat 48 (le b 10 6) }

/-- A region or spare set (Tables 8-3, 8-4). -/
def calSetOf (b : Bytes) : CalSet :=
  let f := byteAt b 4
  { region := BitVec.ofNat 16 (le b 0 2), vref := le b 2 2, valid := bitAt f 0, suspect := bitAt f 1, suspectB := bitAt f 2
    episodes := bits f 4 3, tLast := signed 12 (le b 6 2), ergLast := le b 8 8, kv := le b 16 2, runs := le b 18 2
    measured := BitVec.ofNat 16 (le b 20 2)
    points := (List.range 8).map fun k =>
      let o := 32 + 28 * k
      { a := (List.range 6).map fun i => le b (o + 2 * i) 2, b := (List.range 6).map fun i => le b (o + 12 + 2 * i) 2
        minA := bits (le b (o + 24) 2) 12 0, minB := bits (le b (o + 26) 2) 12 0 } }

/-- A log entry (Table 15-4); the bits of ERG above [47:0] stay. -/
def LogEntry.ofBytes (e : LogEntry) (b : Bytes) : LogEntry :=
  { seq := le b 0 4
    ev := { erg := e.ev.erg / 2 ^ 48 * 2 ^ 48 + le b 4 6, id := bits (le b 10 2) 9 0, sev := bits (le b 10 2) 11 10
            rep := bits (le b 10 2) 15 12, arg := word (le b 12 4) } }

/-- A byte stored in an area without a layout. -/
def State.putRaw (s : State) (a : Nat) (v : Byte) : State :=
  { s with ctl := { s.ctl with raw := Map.put 0 s.ctl.raw a (v.toNat + 1) } }

/-- One byte of a record changed. -/
def setByte (bs : Bytes) (i : Nat) (v : Byte) : Bytes := bs.set i v

/-- A byte of Oasis written: the record that it lies in is read back with the byte in place. Bits that a layout reserves are not
kept (log 8). -/
def State.oasisPut (s : State) (a : Nat) (v : Byte) : State :=
  let p := placeOf a
  match s.recordAt p with
  | none => s.putRaw a v
  | some (bs, off) =>
    match p with
    | .forecast slot =>
      let w := BitVec.ofNat 64 (leVal (setByte bs (a % 8) v))
      { s with hm := { s.hm with queue := s.hm.queue.modify (s.queuePos slot) fun e => (w, e.2) } }
    | .plan second d _ =>
      let x := some (planOf (setByte bs off v))
      if second = s.hm.flip then { s with hm := { s.hm with front := Map.put none s.hm.front d x } }
      else { s with hm := { s.evalNow.hm with back := Map.put none s.evalNow.hm.back d x } }
    | .anchor i _ =>
      let x := s.anchorOfBytes (setByte bs off v)
      s.modAnchor i fun _ => x
    | .spill m _ => s.modBox m fun b => { b with spill := some (setByte bs off v) }
    | .frame k _ => { s with sns := { s.sns with frames := s.sns.frames.modify (s.framePos k) fun f => setByte f off v } }
    | .ledger i _ => { s with et := { s.et with ring := Map.put none s.et.ring i (some (lrecOf (setByte bs off v))) } }
    | .regionSet i _ => s.putRegionSet (ofDense i) (calSetOf (setByte bs off v))
    | .spareSet d _ => s.putSpareSet d (calSetOf (setByte bs off v))
    | .staging _ =>
      if s.cfg.fwStage.isEmpty then { s with hm := { s.hm with staging := setByte bs off v } }
      else { s with cfg := { s.cfg with fwStage := setByte bs off v } }
    | .slot k _ => s.modSlot k fun x => { x with image := setByte bs off v }
    | .log i _ =>
      let f (e : LogEntry) : LogEntry := if logIndex e.seq = i then e.ofBytes (setByte bs off v) else e
      { s with ev := { s.ev with log := s.ev.log.map f } }
    | .overlay _ => { s with cfg := { s.cfg with staging := setByte bs off v } }
    | _ => s.putRaw a v

/-! ### The commands -/

/-- SPACE, ADDRESS and BYTES; the reply that refuses them. -/
def debugRange (q : Req) : Option Reply :=
  let a := q.le 4 4
  let n := q.le 8 2
  if 1 < q.u8 0 then some (badArg 0)
  else if a % 4 ≠ 0 then some (badArg 4)
  else if n < 4 ∨ 224 < n ∨ n % 4 ≠ 0 then some (badArg 8)
  else if q.u8 0 = 0 ∧ 0x400000 < a + n then some (badArg 4)
  else none

/-- The first word of a range of Oasis that is poisoned (R288). -/
def State.poisonedIn (s : State) (a n : Nat) : Option Nat :=
  ((List.range ((a + n + 7) / 8 - a / 8)).map fun k => a / 8 + k).find? fun w => s.ctl.poison.contains w

/-- DEBUG_READ: the bytes drawn free count as one draw. A poisoned word gives its reader an error (R288). -/
def cmdDebugRead (q : Req) (s : State) : Result :=
  match debugRange q with
  | some r => refuse r s
  | none =>
    let a := q.le 4 4
    let n := q.le 8 2
    if q.u8 0 = 0 then
      match s.poisonedIn a n with
      | some w => .done (codeReply stInternal) (s.readLost w)
      | none => .done (okReply ((List.range n).map fun i => s.oasisByte (a + i))) { s with fresh := s.fresh + 1 }
    else .done (okReply (s.fabWords a (n / 4))) s

/-- DEBUG_READ, the command (R303, R337). -/
def execDebugRead (q : Req) (s : State) : Out := .next (s.submit 0x0C10 cmdDebugRead q)

/-- A word of a DEBUG_WRITE obeys R72 where it falls: outside every block nothing is checked, an RO register takes no value, a
reserved one takes zero only. Where a fence has been requested, a word is checked against what it puts in force too (R28). -/
def State.debugAccepts (s : State) (a : Nat) (w : Word) : Bool :=
  match regAt a with
  | none => true
  | some x => match x.access with
    | .ro => true
    | .reserved => s.ignores x || decide (w = 0)
    | _ => s.acceptsNext a w && !s.busyEn a w

/-- DEBUG_WRITE: Oasis bytes unchecked, fabric words checked whole and then written (R72, R337). -/
def cmdDebugWrite (q : Req) (s : State) : Result :=
  match debugRange q with
  | some r => refuse r s
  | none =>
    let a := q.le 4 4
    let n := q.le 8 2
    let val (i : Nat) : Word := word (q.le (16 + 4 * i) 4)
    if q.u8 0 = 0 then
      let s := (List.range n).foldl (fun s i => s.oasisPut (a + i) (BitVec.ofNat 8 (q.u8 (16 + i)))) s
      .done okReply { s with ctl := { s.ctl with
        poison := s.ctl.poison.filter fun w => !decide (a ≤ 8 * w ∧ 8 * w + 8 ≤ a + n) } }
    else
      match (List.range (n / 4)).find? fun i => !s.debugAccepts (a + 4 * i) (val i) with
      | some i => refuse (badArg (16 + 4 * i)) s
      | none => .done okReply ((List.range (n / 4)).foldl (fun s i => s.fabWrite (a + 4 * i) (val i)) s)

/-- DEBUG_WRITE, the command (R303, R337). -/
def execDebugWrite (q : Req) (s : State) : Out := .next (s.submit 0x0C11 cmdDebugWrite q)

end Sys2Proof.Machine
end

