-- ==== Sys2Proof/Machine/Dies.lean ====
section
/-! DEFINITION. Dies after boot: resets of their own, power, the heartbeat monitor, LOST dies and their rejoin, and the side
dies' UCIe sideband (13 R375-R382, 07 R211-R214, 14 R399-R401). -/
namespace Sys2Proof.Machine

/-! ### Reset scopes (R378, Table 13-4) -/

/-- A register's region side at its reset value; the engine's image stays and is presented again at release (R190). -/
def Lat.offRegion (v : Word) (l : Lat) : Lat := { l with eff := v }

/-- The region side of a register block in reset (Table 2-10). -/
def RgnRegs.offRegion (x : RgnRegs) : RgnRegs :=
  let z : RgnRegs := {}
  { ctrl := x.ctrl.offRegion z.ctrl.eff, trimlim := x.trimlim.offRegion z.trimlim.eff, thresh := x.thresh.offRegion z.thresh.eff
    sval := x.sval.offRegion z.sval.eff, stiming := x.stiming.offRegion z.stiming.eff, budget := x.budget.offRegion z.budget.eff
    floop := x.floop.offRegion z.floop.eff, pair0 := x.pair0.offRegion z.pair0.eff, pair1 := x.pair1.offRegion z.pair1.eff }

/-- A region's Milbin parts reset, but for its oscillators, frequency loop, range and bias: stretch loop IDLE, cycle count 0,
replica searching; a code not yet in force waits in the crossing again (Table 13-4). -/
def Region.partsReset (g : Region) : Region :=
  let code := (g.abandon).sent.orElse fun _ => g.pend.map (·.1)
  let dead := decide (g.chan.st = .dead)
  let g : Region := { g with
    regs := g.regs.offRegion, sent := code, pend := none, cycle := 0, plans := [], gov := 160, govNext := none, ramp := none
    trim := 0, sl := {}, sym := [0, 0, 0, 0], symEn := 0, sLast := 0, win_ := {}, overCnt := 0, rangeCnt := 0, stretchCnt := 0
    chan := { g.chan with
      twin := if g.chan.twin = .busy then .standby else g.chan.twin
      st := if g.chan.st = .twinBusy then .paired else g.chan.st }
    swap := none, stop := if dead then g.stop else none, stopWin := none, stopSaid := false, noted := none, ws := none, rep := {}
    former := { lane := g.former.lane }, capture := [], tx := none, gotPlan := none
    cnt := { g.cnt with trips := 0, swaps := 0, faults := 0 }, hb := { g.hb with src := 0 } }
  { g with tg := g.target 0 }

/-- Every region part reset, oscillators included: code 512, the range and bias of reset; the code commanded waits in the
crossing (Table 13-4, die power loss). -/
def Region.powerReset (g : Region) : Region :=
  let code := ((g.abandon).sent.orElse fun _ => g.pend.map (·.1)).getD g.nominal
  let g := ({ g with nominal := 512, fl := {} } : Region).partsReset
  { g with sent := some code }

/-- The side of a crossing that a region clocks: true for the side named second in Table 7-7; none where no region does. -/
def sideOfRegion (id : Nat) : Option Bool :=
  match xClass id with
  | 4 => some true
  | 5 => some false
  | 6 => some false
  | 7 => some false
  | 8 => some false
  | 13 => some true
  | _ => none

/-- The sides of a region's crossings that its reset reaches: crossing, and whether it is the second side (R211). -/
def State.regionSides (s : State) (r : RegionNo) : List (Nat × Bool) :=
  let plain := (s.regionCrossings r).filterMap fun id => (sideOfRegion id).map fun b => (id, b)
  let lanes := (List.range 4).flatMap fun k => match s.linkEnd r k with
    | some (p, k') => [(laneId r k, true), (laneId p k', false)]
    | none => []
  plain ++ lanes

/-- The fabric's side of a crossing: the source of the mailboxes' inbound words, and the destination of all others (Table 7-7). -/
def fabricSecond (id : Nat) : Bool := !decide (xClass id = 1 ∧ xInst id < 256)

/-- The crossings of regions that have been reset: those with one side reset are torn, those with both are not (R211, R212). The fabric's
side is reset with the last of the regions that clock it (log 64). -/
def State.tearAll (s : State) (rs : List RegionNo) : State :=
  let s := if s.fabricNeeds rs then fabricCrossings.foldl (fun s id => s.toggle id (fabricSecond id)) s else s
  (s.sideCrossings rs).foldl State.tornCheck s

/-- A region held in a reset of its own: its sides toggle their epoch bits (R210); it no longer holds the droop-warning
condition. -/
def State.regionReset (s : State) (r : RegionNo) (f : Region → Region) : State :=
  let s := (s.regionSides r).foldl (fun s e => s.toggle e.1 e.2) s
  let s := s.modRgn r f
  { s with sys := { s.sys with droop := dropKey r s.sys.droop } }

/-- A rejoin under way is abandoned: the site is LOST again, and signs of life are counted afresh (Table 13-8). -/
def State.rejoinDrop (s : State) (site : Nat) : State :=
  let d := s.dieAt site
  let s := s.modDie site fun d => { d with
    st := if d.st = .rejoining then .lost else d.st, lostAt := if d.st = .rejoining then some s.now else d.lostAt
    joinAt := none, checks := 0, signed := false }
  if d.st = .rejoining ∨ d.st = .lost then
    s.modRgns (siteRegions site) fun _ g => { g with hb := { g.hb with life := false } }
  else s

/-- A site with a die of Milbin regions on it. -/
def State.hasDie (s : State) (site : Nat) : Bool :=
  decide ((s.dieAt site).st ≠ .absent) && decide ((s.dieAt site).attach ≠ 2)

/-- DIE_POWER_LOSS: every region part of the die stops; Chrounyar's main supply takes the package with it (R365, R378). -/
def execDiePowerLoss (site : Site) (s : State) : Out :=
  if site.val = 16 then .next { State.reset with pending := s.pending, fresh := s.fresh }
  else if !s.hasDie site ∨ (s.dieAt site).unpowered then .next s
  else
    let s := (s.rejoinDrop site).modDie site fun d => { d with unpowered := true }
    .next { s with sys := { s.sys with droop := s.sys.droop.filter fun r => decide (siteOf r ≠ site.val) } }

/-- DIE_POWER_ON: the region parts come up under power-on reset, which clears their epoch bits, with their oscillators at code
512; their anchors are freed, and a clock that starts again is a sign of life (R127, R214, R379, Table 13-4). -/
def execDiePowerOn (site : Site) (s : State) : Out :=
  if !(s.dieAt site).unpowered then .next s
  else
    let s := (s.modDie site fun d => { d with unpowered := false }).breakAnchors fun r => decide (siteOf r = site.val)
    .next ((siteRegions site).foldl (fun s r =>
      let s := (s.regionSides r).foldl (fun s e =>
        if xClass e.1 = 9 then s.modLane (xInst e.1) (xLink e.1) fun l => if e.2 then { l with e2 := false } else { l with e1 := false }
        else s.modXing e.1 fun x => if e.2 then { x with e2 := false, rst2 := true } else { x with e1 := false, rst1 := true }) s
      s.modRgn r fun g =>
        let g := (g.powerReset).start s.now
        { g with inReset := false, hb := { g.hb with life := g.hb.life || decide ((s.dieAt site).st = .lost) } }) s)

/-- DIE_OWN_RESET: the die's logic and its regions' Milbin parts, one-sided; their anchors are freed (R127, R211, Table 13-4). -/
def execDieOwnReset (site : Site) (s : State) : Out :=
  if !s.hasDie site ∨ site.val = 16 then .next s
  else
    let s := s.rejoinDrop site
    let rs := siteRegions site
    let s := (rs.foldl (fun s r => s.regionReset r fun g => { g.partsReset with inReset := true }) s).tearAll rs
    .next (s.breakAnchors rs.contains)

/-- REGIONS_OWN_RESET: some regions' Milbin parts, one-sided; their anchors are freed (R127, Table 13-4). -/
def execRegionsOwnReset (regions : List RegionNo) (s : State) : Out :=
  let rs := regions.eraseDups.filter fun r => s.regionExists r && s.hasDie (siteOf r)
  let s := (rs.foldl (fun s r => s.regionReset r fun g => { g.partsReset with inReset := true }) s).tearAll rs
  .next (s.breakAnchors rs.contains)

/-- The region that a crossing's side belongs to, where it is a region's. -/
def State.sideRegion (s : State) (id : Nat) (second : Bool) : Option RegionNo :=
  if xClass id = 9 then
    if second then some (xInst id) else (s.linkEnd (xInst id) (xLink id)).map (·.1)
  else if sideOfRegion id = some second then (s.xRegions id).head? else none

/-- A region leaves its own reset: it counts periods again, and its toggle is a sign of life on a LOST site (R212, R379). -/
def State.regionLeavesReset (s : State) (r : RegionNo) : State :=
  if (s.rgn r).inReset then
    s.modRgn r fun g =>
      let g := g.start s.now
      { g with inReset := false, hb := { g.hb with life := g.hb.life || decide ((s.dieAt (siteOf r)).st = .lost) } }
  else s

/-- LOCAL_RESET_EXIT: the side toggles its lines with its new epoch bit; a side whose far side holds another epoch tears the
crossing, and does not act on it (R212). -/
def execLocalResetExit (id : Word) (second : Bool) (s : State) : Out :=
  let i := id.toNat
  if !s.xExists i then .next s
  else
    let s := s.tornCheck i
    match s.sideRegion i second with
    | some r => .next (s.regionLeavesReset r)
    | none => .next s

/-! ### The heartbeat monitor (R375, R376) -/

/-- A region of a released site is silent at the check that follows n checks. -/
def State.silent (s : State) (r : RegionNo) : Bool :=
  let n := s.die.checks
  let since := max (s.rgn r).hb.at_ ((s.dieAt (siteOf r)).armed.getD n)
  decide ((s.rgn r).chan.st ≠ .dead) &&
    (decide (since + 2 ≤ n) || decide (s.xState (xId 8 r) = .torn) || decide (s.xState (xId 8 r) = .fenced))

/-- The regions of a site that are not DEAD. -/
def State.liveRegions (s : State) (site : Nat) : List RegionNo := (siteRegions site).filter s.live

/-- The commanded insertions of a site that has become LOST end with FENCED, and what they had taken is free again; the part stays out of
use (Table 11-8). -/
def State.endAsked (s : State) (site : Nat) : State :=
  let mine := s.opt.ins.filter fun y => y.asked &&
    ((decide (y.kind ≤ 1) && decide (y.target = site)) || (decide (y.kind = 4) && decide (siteOf y.target = site)))
  mine.foldl (fun s y =>
    let d := districtOf y.target
    let s := if y.kind ≤ 1 then s.untake y
      else if Map.get none s.cal.taken d = some y.target ∧ !(s.rgn y.target).chan.onSpare then
        { s with cal := { s.cal with taken := Map.put none s.cal.taken d none } }
      else s
    s.endIns y .failed stFenced) s

/-- A site becomes LOST (R376, R163, Table 8-11, Table 13-8). -/
def State.dieLost (s : State) (site silent : Nat) : State :=
  let rs := siteRegions site
  let s := s.modDie site fun d => { d with st := .lost, lostAt := some s.now, joinAt := none, checks := 0, signed := false }
  let s := s.modRgns rs fun _ g => { g with hb := { g.hb with life := false, silentRaised := false } }
  let back (y : Insertion) : Insertion := if y.kind = 4 ∧ siteOf y.target = site then { y with step := 1 } else y
  let s := { s with opt := { s.opt with ins := s.opt.ins.map back } }
  let s := s.endAsked site
  let s := s.fenceAll (s.sideCrossings rs)
  let s := (s.breakAnchors fun r => decide (siteOf r = site)).calAbandon rs
  s.raise evDieLost (site + at_ silent 16)

/-- One site at a check: RUNNING with armed monitoring, LOST with every sign of life recorded, or on its way through a rejoin, whose
step 2 ends within 16,384 ns of step 1 (R375, R376, Table 13-5). -/
def State.checkSite (s : State) (site : Nat) : State :=
  let d := s.dieAt site
  let live := s.liveRegions site
  let quiet := live.filter s.silent
  if d.st = .running ∧ d.armed.isSome ∧ d.attach ≠ 2 then
    if site ≠ 16 ∧ !quiet.isEmpty ∧ min 4 live.length ≤ quiet.length then s.dieLost site quiet.length
    else
      let s := live.foldl (fun s r =>
        if quiet.contains r then
          if (s.rgn r).hb.silentRaised then s
          else (s.modRgn r fun g => { g with hb := { g.hb with silentRaised := true } }).raise evHbSilent r
        else s.modRgn r fun g => { g with hb := { g.hb with silentRaised := false } }) s
      if site = 16 ∧ 4 ≤ quiet.length then s.mlbSet .silent16 else s
  else if d.st = .lost then
    match d.joinAt with
    | none =>
      s.modDie site fun d => { d with signed := !live.isEmpty && live.all fun r => (s.rgn r).hb.life }
    | some t =>
      let all := live.all fun r => decide (s.die.checks ≤ (s.rgn r).hb.at_)
      let n := if all then d.checks + 1 else 0
      if n < 4 ∨ t + 16384 < s.now then s.modDie site fun d => { d with checks := n }
      else (s.modDie site fun d => { d with st := .rejoining, joinAt := some s.now, checks := 4 }).raise evDieRejoining site
  else if d.st = .rejoining ∧ d.attach ≠ 2 then
    if quiet.isEmpty then s else s.rejoinDrop site
  else s

/-- HEARTBEAT_CHECK: at every slot boundary plus 64 ns (R375). -/
def execHeartbeatCheck (s : State) : Out :=
  if !s.sys.epoch ∨ s.now % 256 ≠ 64 ∨ s.die.checkAt = some s.now then .next s
  else
    let s := allSites.foldl State.checkSite s
    .next { s with die := { s.die with checks := s.die.checks + 1, checkAt := some s.now } }

/-- DIE_LOST_LONG: LOST for 100 ms; MLB_FAULT_N until the site rejoins (R376). -/
def execDieLostLong (site : Site) (s : State) : Out :=
  let d := s.dieAt site
  match d.lostAt with
  | some t =>
    if d.st = .lost ∧ d.attach ≠ 2 ∧ !d.lostLong ∧ t + 100000000 ≤ s.now then
      .next (((s.modDie site fun d => { d with lostLong := true }).raise evDieLostLong site).mlbSet (.lostLong site))
    else .next s
  | none => .next s

/-- SIGN_OF_LIFE: a toggle from a LOST site's region side, whatever its epoch bit (R379). -/
def execSignOfLife (r : RegionNo) (s : State) : Out :=
  if s.clocked r ∧ (s.dieAt (siteOf r)).st = .lost then
    .next (s.modRgn r fun g => { g with hb := { g.hb with life := true } })
  else .next s

/-! ### Rejoin (R379, R380, Table 13-5) -/

/-- A failed attempt: LOST again with its signs of life cleared; after the third in a row it stays LOST and MLB_FAULT_N is
asserted (R380). -/
def State.rejoinFail (s : State) (site : Nat) : State :=
  let s := (s.rejoinDrop site).modDie site fun d => { d with fails := d.fails + 1 }
  let s := s.fenceAll ((siteRegions site).map (xId 8))
  let s := s.raise evRejoinFail site
  if 3 ≤ (s.dieAt site).fails then s.mlbSet (.rejoinFail site) else s

/-- Step 1: the joint reset of the site's heartbeat crossings, unless a live region is not clocked. -/
def State.rejoinStep1 (s : State) (site : Nat) : State :=
  let live := s.liveRegions site
  if !live.all s.clocked then s.rejoinFail site
  else
    let s := live.foldl (fun s r => (s.resetContents (xId 8 r)).whole (xId 8 r)) s
    s.modDie site fun d => { d with joinAt := some s.now, checks := 0 }

/-- The identity read at rejoin step 3 is the census's. -/
def State.sameDie (s : State) (site : Nat) (fuse : Option Bytes) : Bool :=
  match fuse with
  | some bs => fuseOk site bs && decide (BitVec.ofNat 64 (fuseSerial bs) = (s.dieAt site).serial)
  | none => false

/-- A die that is not the one of the census: its clock outputs are gated and its logic is in reset from now on (R372, Table 13-5 step
3). DESIGN CHOICE (log 63): a segment that does not answer at the rejoin counts so too, with TYPE and SERIAL 0. -/
def State.dieMismatch (s : State) (site type serial : Nat) : State :=
  let s := s.modDie site fun d => { d with
    st := .mismatch, type := type, serial := BitVec.ofNat 64 serial, joinAt := none, checks := 0
    ungated := false, bootPath := false, logicReset := true, armed := none }
  (s.raise evDieMismatch (site + at_ type 8 + at_ (serial % 65536) 16)).mlbSet (.census site)

/-- A term that a rejoin remeasures: of an active landing, an active group or a cross-link of the site (R163). -/
def State.rejoinTerm (s : State) (site : Nat) (t : RouteTerm) : Bool :=
  let x := s.site site
  decide (t.site.val = site) &&
    (if t.kind = 0 then s.landingActive site t.index
    else if t.kind = 1 then (List.range 4).any fun q => decide ((x.route q).group = t.index)
    else decide (t.kind = 2 ∨ t.kind = 3))

/-- The terms that a rejoin must have measured before fences are released: every active landing's for the four carriers, every active
group's for its root, and both ways over every cross-link (R163, Table 13-5). -/
def State.rejoinKeys (s : State) (site : Nat) : List Nat :=
  let x := s.site site
  (((List.range 6).filter (s.landingActive site)).flatMap fun l => (List.range 4).map (landingKey site l)) ++
  (((List.range 4).filter fun q => decide ((x.route q).group ≠ 7)).map fun q => termKey site 1 (x.route q).group q 0) ++
  ([2, 3].flatMap fun k => (List.range 4).map fun q => termKey site k 0 q 0)

/-- When the fuse segment read again from Erg ns t is in: 50 Mbit/s, one bit in 20 ns (R371). -/
def fuseRead (fuse : Option Bytes) (t : Nat) : Nat := t + ((fuse.map fun bs => le bs 12 2).getD 0) * 160

/-- The end of step 4 of Table 13-5: 65,536 ns after the slot boundary that follows the reading of the fuses. -/
def rejoinMeasured (fuse : Option Bytes) (t : Nat) : Nat := (fuseRead fuse t + 255) / 256 * 256 + 65536

/-- Steps 3-6: identity, remeasurement, release, RUNNING with every region due for calibration (R163, R238). A step whose time has
not come, or whose measurements are not all in, is not taken. -/
def State.rejoinEnd (s : State) (site : Nat) (t : Nat) (fuse : Option Bytes) (terms : List (RouteTerm × Nat))
    (dlanes : List (RegionNo × Nat × Nat)) : State :=
  if s.now < fuseRead fuse t then s
  else if !s.sameDie site fuse then s.dieMismatch site (((fuse.map fun bs => byteAt bs 2)).getD 0) ((fuse.map fuseSerial).getD 0)
  else if s.now < rejoinMeasured fuse t then s
  else if !(s.rejoinKeys site).all fun k => terms.any fun e => decide (RouteTerm.key e.1 = k) then s
  else
    let rs := (s.liveRegions site).filter s.proves
    if rs.isEmpty then s.rejoinFail site
    else
      let s := s.modDie site fun d => { d with
        st := .running, lostAt := none, lostLong := false, joinAt := none, checks := 0, signed := false, fails := 0
        armed := some s.die.checks }
      let s := s.modRgns (siteRegions site) fun _ g => { g with hb := { g.hb with life := false } }
      let s := (terms.filter fun e => s.rejoinTerm site e.1).foldl (fun s e =>
        let s := s.putTerm (RouteTerm.key e.1) e.2
        if e.1.kind = 0 then s.noteTemp site e.1.index else s) s
      let s := (s.releaseRegions (.die (Fin.ofNat 23 site)) rs dlanes).raise evDieRejoined site
      let s := s.mlbClear (.lostLong site)
      let s := rs.foldl (fun s r => (s.modRgn r fun g => { g with cal := { g.cal with dueDrift := true } }).calSync r) s
      let calls := (s.site site).waiting
      let s := s.modSite site fun x => { x with waiting := [] }
      let s := calls.foldl (fun s e => s.callRoute site e.1 e.2.1 e.2.2) s
      if s.autoSpare then
        (List.range 4).foldl (fun s q =>
          ((s.site site).down.filter fun e => decide (e.2.2 = q)).foldl
            (fun s e => s.requestIns (insertion e.1 site e.2.1 q none false false 1)) s) s
      else s

/-- REJOIN: step 1 once a check has found that every live region of a LOST site has shown life; and, for a site that reads
REJOINING, its last steps. Not in hold (Table 13-8). -/
def execRejoin (site : Site) (fuse : Option Bytes) (s : State) (terms : List (RouteTerm × Nat) := [])
    (dlanes : List (RegionNo × Nat × Nat) := []) : Out :=
  let d := s.dieAt site
  if !s.fw ∨ d.attach = 2 then .next s
  else if d.st = .lost ∧ d.joinAt.isNone then
    if d.fails < 3 ∧ d.signed then .next (s.rejoinStep1 site)
    else .next s
  else
    match d.st, d.joinAt with
    | .rejoining, some t => .next (s.rejoinEnd site t fuse terms dlanes)
    | _, _ => .next s

/-- REJOIN_STEP2_TIMEOUT: the budget of step 2 is missed (R380). -/
def execRejoinStep2Timeout (site : Site) (s : State) : Out :=
  let d := s.dieAt site
  match d.joinAt with
  | some t => if d.st = .lost ∧ t + 16384 ≤ s.now then .next (s.rejoinFail site) else .next s
  | none => .next s

/-! ### Side dies (R399-R401) -/

/-- What the sideband's answers make of a die on slots 19-22 (Table 14-8). -/
def State.discovered (s : State) (site : Nat) (caps : Option UcieCaps) : State :=
  let d := s.dieAt site
  match caps with
  | some c =>
    if !c.gt16 ∧ !c.gt32 then
      ((s.modDie site fun d => { d with st := .mismatch, attach := if d.attach = 1 then 1 else 2 }).raise evUcieUnsupported site).mlbSet (.census site)
    else
      let speed := if c.gt32 then 32 else 16
      if d.attach = 1 then s.modDie site fun d => { d with speed := speed }
      else
        let s := s.modDie site fun d => { d with st := .running, attach := 2, speed := speed, polls := 0 }
        if d.st = .absent then s.calSite site else s.raiseIf (decide (d.st = .rejoining)) evDieRejoined site
  | none =>
    let s := s.modDie site fun d => { d with triedAt := some s.now }
    if d.attach = 1 then s.raise evUcieFail site
    else if d.st = .rejoining then s.modDie site fun d => { d with st := .lost }
    else s.modDie site fun d => { d with st := .absent, attach := 0 }

/-- 10 ms have passed since the last discovery that nothing answered (R400, Table 14-12). -/
def State.retryDue (s : State) (site : Nat) : Bool :=
  match (s.dieAt site).triedAt with
  | some t => decide (t + 10000000 ≤ s.now)
  | none => true

/-- The sideband queues of a slot carry packets both ways (Table 7-4): through a fenced one nothing is sent, and no answer comes. -/
def State.sideband (s : State) (site : Nat) : Bool :=
  decide (s.xState (xId 12 site) = .whole ∧ s.xState (xId 12 (256 + site)) = .whole)

/-- UCIE_DISCOVERY: in boot step 2, and at each rejoin of a foreign die (R400). -/
def execUcieDiscovery (site : Site) (caps : Option UcieCaps) (s : State) : Out :=
  let d := s.dieAt site
  let caps := if s.sideband site then caps else none
  if !s.sys.epoch ∨ site.val < 19 then .next s
  else if d.st = .census ∨ d.st = .rejoining ∧ d.attach = 2 ∧ s.retryDue site ∨ d.st = .running ∧ d.speed = 0 then .next (s.discovered site caps)
  else .next s

/-- DISCOVERY_RETRY: 10 ms after the last try on a slot where nothing answered; a die found becomes foreign and RUNNING (R400). -/
def execDiscoveryRetry (site : Site) (caps : Option UcieCaps) (s : State) : Out :=
  if s.sys.epoch ∧ 19 ≤ site.val ∧ (s.dieAt site).st = .absent ∧ s.retryDue site then
    .next (s.discovered site (if s.sideband site then caps else none))
  else .next s

/-- A foreign die's sideband is gone (R401). -/
def State.sideLost (s : State) (site : Nat) : State :=
  (s.modDie site fun d => { d with st := .lost, polls := 0 }).raise evSideLost site

/-- A poll is due 1 ms after the one before it (R401). -/
def State.pollDue (s : State) (site : Nat) : Bool :=
  match (s.dieAt site).polledAt with
  | some t => decide (t + 1000000 ≤ s.now)
  | none => true

/-- FOREIGN_DIE_POLL: three unanswered polls in a row lose a foreign die; an answer from a LOST one begins its rejoin (R401). -/
def execForeignDiePoll (site : Site) (answered : Bool) (s : State) : Out :=
  let d := s.dieAt site
  if d.attach ≠ 2 ∨ !s.pollDue site then .next s
  else
    let answered := answered && s.sideband site
    let s := s.modDie site fun d => { d with polledAt := some s.now }
    if answered then
      .next (s.modDie site fun d => { d with polls := 0, st := if d.st = .lost then .rejoining else d.st })
    else if d.st = .running ∧ 2 ≤ d.polls then .next (s.sideLost site)
    else .next (s.modDie site fun d => { d with polls := min 3 (d.polls + 1), st := if d.st = .rejoining then .lost else d.st })

/-- SIDEBAND_LINK_DOWN: a foreign die is LOST; a rejoin's discovery is abandoned (R401, Table 14-12). -/
def execSidebandLinkDown (site : Site) (s : State) : Out :=
  let d := s.dieAt site
  if d.attach ≠ 2 then .next s
  else if d.st = .running then .next (s.sideLost site)
  else if d.st = .rejoining then .next (s.modDie site fun d => { d with st := .lost })
  else .next s

/-! ### DIE_QUERY -/

/-- STATE of DIE_QUERY (Table 13-7). -/
def DieState.code : DieState → Nat
  | .absent => 0
  | .census => 1
  | .running => 2
  | .lost => 3
  | .rejoining => 4
  | .isolated => 5
  | .mismatch => 6

/-- DIE_QUERY (R381). -/
def cmdDieQuery (q : Req) (s : State) : Result :=
  match siteTarget q with
  | some r => refuse r s
  | none =>
    let d := s.dieAt q.tgt
    .done (okReply (toLE 1 d.st.code ++ toLE 1 d.type ++ toLE 1 d.attach ++ zeros 5 ++ toLE 8 d.serial.toNat)) s

/-- DIE_QUERY, the command (R381). -/
def execDieQuery (q : Req) (s : State) : Out := .next (s.submit 0x0C02 cmdDieQuery q)

end Sys2Proof.Machine
end

