-- ==== Sys2Proof/Machine/Span.lean ====
section
/-! DEFINITION. Rack time and its discipline, the span link and the host path (04 R111-R115, 14 R386-R397, R405-R406,
12 R363, 15 R409, R413). -/
namespace Sys2Proof.Machine

/-- One second in ns. -/
def secondNs : Nat := 1000000000

/-- A span port changed. -/
def State.modSp (s : State) (one : Bool) (f : SpanPort → SpanPort) : State :=
  if one then { s with sp := { s.sp with p1 := f s.sp.p1 } } else { s with sp := { s.sp with p0 := f s.sp.p0 } }

/-- KSL0_EN, KSL1_EN. -/
def State.spEn (s : State) (one : Bool) : Bool := bitOf s.sp.ctrl.eff (b2n one)

/-- DISC_SRC in force. -/
def State.discSrc (s : State) : Nat := fld s.et.ctrl.eff 1 0

/-- The package's SENDER_ID: the serial number of Chrounyar (R389). -/
def State.ownId (s : State) : Nat := (s.dieAt 16).serial.toNat

/-- The Erg count in 1/65,536 ns. -/
def State.erg65 (s : State) : Int := (s.now : Int) * 65536

/-- Rack time now in 1/65,536 ns (R112). -/
def State.rackNow (s : State) : Int := s.erg65 + s.et.rack

/-! ### Rank, eligibility and the source (R393) -/

/-- A rank is better when lower, compared lexicographically. -/
def Rank.better (a b : Rank) : Bool :=
  decide (a.cls < b.cls) || (decide (a.cls = b.cls) && (decide (a.grand < b.grand) || (decide (a.grand = b.grand) && decide (a.steps < b.steps))))

/-- The package's own class: 2 in holdover, 1 while span or host disciplines, 0 otherwise (Table 14-3). -/
def State.ownClass (s : State) : Nat :=
  if s.et.holdover then 2 else if s.et.span ∨ (s.discSrc = 2 ∧ s.et.host) then 1 else 0

/-- The package's own rank. -/
def State.ownRank (s : State) : Rank := ⟨s.ownClass, s.ownId, 0⟩

/-- A peer is eligible (R393). -/
def State.eligible (s : State) (p : SpanPort) : Bool :=
  match p.peer, p.rank, p.annAt with
  | some (_, monitor), some r, some t =>
    !monitor && decide (p.st = 2 ∨ p.st = 3 ∨ p.st = 4) && decide (1 ≤ p.proto) && decide (8 ≤ p.count) &&
      decide (s.now ≤ t + 3000000) && r.better s.ownRank
  | _, _, _ => false

/-- The source by R393: the present one stays while it is eligible and no other is strictly better. None: 0; KSL0: 1; KSL1: 2. -/
def State.pickSource (s : State) : Nat :=
  let e0 := s.eligible s.sp.p0
  let e1 := s.eligible s.sp.p1
  let better (a b : SpanPort) : Bool := match a.rank, b.rank with
    | some x, some y => x.better y
    | _, _ => false
  if s.discSrc ≠ 1 ∧ !s.et.span then 0
  else if e0 && e1 then
    if s.sp.source = 1 then (if better s.sp.p1 s.sp.p0 then 2 else 1)
    else if s.sp.source = 2 then (if better s.sp.p0 s.sp.p1 then 1 else 2)
    else if better s.sp.p1 s.sp.p0 then 2 else 1
  else if e0 then 1 else if e1 then 2 else 0

/-- STATE of a peer in MONITOR, ELIGIBLE or DISCIPLINING. -/
def State.peerState (s : State) (p : SpanPort) (mine : Bool) : Nat :=
  if p.st = 2 ∨ p.st = 3 ∨ p.st = 4 then (if !s.eligible p then 2 else if mine then 4 else 3) else p.st

/-- Every peer held has announced N without a break for 1 s (R363). -/
def State.allN (s : State) : Bool :=
  [s.sp.p0, s.sp.p1].all fun p => p.peer.isNone || match p.protoN with
    | some t => decide (t + secondNs ≤ s.now)
    | none => false

/-- Source, peer states, what the package announces, the protocol in use and FAST_PROBE, after anything they depend on has
changed (R363, R393, R396). -/
def State.reselect (s : State) : State :=
  let src := s.pickSource
  let old := s.sp.source
  let put (s : State) (one : Bool) : State :=
    let mine := decide (src = b2n one + 1)
    s.modSp one fun p => { p with st := s.peerState p mine, rateRef := if mine ∧ old ≠ src then none else p.rateRef }
  let s := put (put s false) true
  let rank := if src = 1 then s.sp.p0.rank else if src = 2 then s.sp.p1.rank else none
  let r := rank.getD s.ownRank
  let proto := if s.allN then 2 else 1
  let busy := s.eligible s.sp.p0 || s.eligible s.sp.p1 || s.et.host
  { s with
    sp := { s.sp with
      source := if src ≠ 0 then src else if s.discSrc = 2 ∧ s.et.host then 3 else 0
      root := rank.isNone, cls := r.cls, grand := r.grand, steps := r.steps, protoUse := proto
      fast := bitOf s.sp.ctrl.eff 2 && decide (proto = 2) && (s.sp.p0.peer.isSome || s.sp.p1.peer.isSome) }
    et := { s.et with idleFrom := if busy then none else some (s.et.idleFrom.getD s.now) } }

/-! ### Discipline (R111, R112, R394) -/

/-- A measured offset of rack time applied: adopted where an adoption is due, with EV_RACK_STEP, else slewed in from the next
window; nothing moves in holdover (R112, R113). Second component: adopted. -/
def State.applyRack (s : State) (x : Int) : State × Bool :=
  if s.et.adoptNext ∧ !s.et.holdover then
    (({ s with et := { s.et with rack := x, rackTo := none, adopted := true, adoptNext := false } } : State).raise evRackStep 0, true)
  else ({ s with et := { s.et with rackTo := some x } }, false)

/-- A rate error in 1/16 ppb applied to the base PLL (R111). -/
def State.applyRate (s : State) (err : Int) : State :=
  { s with et := { s.et with rateTo := clampI (-160000) 160000 (s.et.rate + err) } }

/-- A change of x in 1/65,536 ns over t ns, as a rate in 1/16 ppb. -/
def rateOf (x : Int) (t : Nat) : Int := if t = 0 then 0 else tdiv (x * 16000000000) (65536 * t)

/-- The source's filtered offset applied, and after every 8 accepted measurements its rate (R394). -/
def State.discipline (s : State) (one : Bool) : State :=
  let p := s.spPort one
  match p.best with
  | none => s
  | some b =>
    let x := b.rack + b.o
    let s := if s.discSrc = 1 then (s.applyRack x).1 else s
    if p.count % 8 ≠ 0 then s
    else
      let s := match p.rateRef with
        | some (y, t) => if t < s.now then s.applyRate (rateOf (x - y) (s.now - t)) else s
        | none => s
      s.modSp one fun p => { p with rateRef := some (x, s.now) }

/-- The rate correction's step in one window: at most 0.05 ppb toward what discipline asks for (R111). -/
def Et.rateStep (e : Et) : Et :=
  let full := e.rate * 20 + e.rateFine
  let new := full + clampI (-16) 16 (e.rateTo * 20 - full)
  { e with rate := new / 20, rateFine := new % 20 }

/-- RACK_OFFSET's step in one window: at most 1/16 ns (R112). -/
def Et.rackStep (e : Et) : Et :=
  match e.rackTo with
  | some x => { e with rack := e.rack + clampI (-4096) 4096 (x - e.rack), rackTo := if (x - e.rack).natAbs ≤ 4096 then none else some x }
  | none => e

/-- DISC_SRC has changed: the old source's measurements are discarded (Table 14-12). -/
def State.dropSource (s : State) (old : Nat) : State :=
  let drop (p : SpanPort) : SpanPort := if p.st = 4 then { p with meas := [], count := 0, rateRef := none } else p
  let s := if old = 1 then (s.modSp false drop).modSp true drop else s
  { s with et := { s.et with rackTo := none, hostLast := if old = 2 then none else s.et.hostLast, host := if old = 2 then false else s.et.host } }

/-- ERG_WINDOW_DISCIPLINE: at a window boundary the registers of the Erg, crossing and span blocks take effect, a source
replaces a lost crystal under HOLDOVER_SPAN or is lost itself, SPAN says whether a peer disciplines, and rate and rack offset step;
discipline waits in hold, and in holdover rate and offset are frozen (R32, R111-R114, R135, R406, Table 1-7). A boundary steps once. -/
def execErgWindowDiscipline (s : State) : Out :=
  if !s.sys.epoch ∨ s.now % 256 ≠ 0 ∨ s.et.stepAt = some s.now then .next s
  else
    let old := s.discSrc
    let s := { s with
      et := { s.et with ctrl := s.et.ctrl.tick s.now, stepAt := some s.now }
      xg := { s.xg with ctrl := s.xg.ctrl.tick s.now }
      sp := { s.sp with ctrl := s.sp.ctrl.tick s.now, bounds := s.sp.bounds.tick s.now, host := s.sp.host.tick s.now } }
    let s := if s.discSrc = old then s else s.dropSource old
    let any := s.eligible s.sp.p0 || s.eligible s.sp.p1
    let s := if s.et.xtalLost then
        if s.suspended then s
        else if s.et.holdover ∧ bitOf s.et.ctrl.eff 2 ∧ any then
          { s with et := { s.et with holdover := false, span := true, ownTo := s.et.ownTo.orElse fun _ => some s.et.rateTo } }
        else if s.et.span ∧ (!bitOf s.et.ctrl.eff 2 ∨ !any) then { s with et := { s.et with holdover := true, span := false } }
        else s
      else s
    let s := s.reselect
    let s := if s.et.xtalLost then s else { s with et := { s.et with span := decide (s.discSrc = 1 ∧ s.sp.source ≠ 0) } }
    if s.suspended ∨ s.et.holdover then .next s else .next { s with et := s.et.rateStep.rackStep }

/-- RACK_ADOPT_IDLE: every peer and the host out of use for 1 s (R112). -/
def execRackAdoptIdle (s : State) : Out :=
  match s.et.idleFrom with
  | some t => if t + secondNs ≤ s.now then .next { s with et := { s.et with adoptNext := true } } else .next s
  | none => .next s

/-! ### Quarantine (R395, R409) -/

/-- The identity is quarantined. -/
def State.quarantined (s : State) (id : BitVec 64) : Bool := s.sp.quar.any fun q => decide (q.id = id)

/-- Ports that hold a peer changed. -/
def State.modPeer (s : State) (id : BitVec 64) (f : SpanPort → SpanPort) : State :=
  let g (p : SpanPort) : SpanPort := if p.peer.map (·.1) = some id then f p else p
  (s.modSp false g).modSp true g

/-- A peer's quarantine ends: LISTENING. -/
def SpanPort.listen (p : SpanPort) : SpanPort := { p with st := if p.lock then 1 else 7, qreason := 0, annAt := none }

/-- The entry with the earliest expiry. -/
def firstExpiry : List Quar → Option Quar
  | [] => none
  | q :: qs => match firstExpiry qs with
    | some r => if r.until_ < q.until_ then some r else some q
    | none => some q

/-- A trigger of Table 14-5 is met on a port. -/
def State.quarantine (s : State) (one : Bool) (reason : Nat) : State :=
  match (s.spPort one).peer with
  | none => s
  | some (id, _) =>
    let first := fld s.sp.ctrl.eff 31 24 * 10 * secondNs
    let len := match s.sp.past.find? fun e => decide (e.1 = id) with
      | some (_, t, l) => if s.now ≤ t + 3600 * secondNs then min (2 * l) (3600 * secondNs) else first
      | none => first
    let s := if s.sp.quar.length < 16 then s
      else match firstExpiry s.sp.quar with
        | some q => ({ s with sp := { s.sp with quar := s.sp.quar.filter (· ≠ q) } } : State).modPeer q.id SpanPort.listen
        | none => s
    let s := { s with sp := { s.sp with
      quar := (s.sp.quar.filter fun (q : Quar) => decide (q.id ≠ id)) ++ [(⟨id, s.now + len, len, reason⟩ : Quar)]
      past := (id, s.now, len) :: s.sp.past.filter fun (e : BitVec 64 × Nat × Nat) => decide (e.1 ≠ id) } }
    let s := s.modPeer id fun p => { p with
      st := 6, qreason := reason, probe := none, fDelay := 0, fOffset := 0, fRate := 0, fLoop := 0, auth := [], replay := [], ident := [] }
    (s.raise evSpanQuarantine (b2n one + at_ reason 4)).reselect

/-- QUARANTINE_EXPIRY (R395). -/
def execQuarantineExpiry (id : BitVec 64) (s : State) : Out :=
  if s.sp.quar.any fun q => decide (q.id = id ∧ q.until_ ≤ s.now) then
    .next ((({ s with sp := { s.sp with quar := s.sp.quar.filter fun q => decide (q.id ≠ id) } } : State).modPeer id SpanPort.listen).reselect)
  else .next s

/-- One more failure in the last second, and whether it is the sixteenth. -/
def State.failList (s : State) (l : List Nat) : List Nat × Bool :=
  let l := (s.now :: l).filter fun t => decide (s.now < t + secondNs)
  (l.take 16, decide (16 ≤ l.length))

/-! ### Frames (R389-R391) -/

/-- PROTO, TYPE, LEN and payload of a frame as received. -/
def frameType (f : Frame) : Nat := byteAt f.bytes 1

/-- LEN that a TYPE must have (Table 14-3). -/
def frameLen (type : Nat) : Option Nat := if type = 1 ∨ type = 2 then some 16 else if type = 3 then some 56 else none

/-- SENDER_ID. -/
def frameSender (f : Frame) : BitVec 64 := BitVec.ofNat 64 (le f.bytes 4 8)
/-- BOOT_ID. -/
def frameBoot (f : Frame) : BitVec 64 := BitVec.ofNat 64 (le f.bytes 12 8)
/-- SEQ. -/
def frameSeq (f : Frame) : Nat := le f.bytes 20 4

/-- Key check value: the first 16 bits of AES-CMAC of 16 zero bytes (Table 14-2). -/
def kcv (k : Key) : Bytes := (Config.aesCmac k (zeros 16)).take 2

/-- The keys a port holds. -/
def SpanPort.keys (p : SpanPort) : List Key := p.key.toList ++ p.next.toList ++ (p.prev.map (·.1)).toList

/-- The MAC verifies under a held key that the frame's KCV selects (R390). -/
def SpanPort.macOk (p : SpanPort) (f : Frame) : Bool :=
  p.keys.any fun k => decide (kcv k = slice f.bytes 24 2) && decide ((Config.aesCmac k f.bytes).take 8 = f.mac)

/-- BOOT_ID and SEQ under R391. -/
def SpanPort.freshFrame (p : SpanPort) (f : Frame) : Bool :=
  if p.bootId = some (frameBoot f) then decide (p.seq < frameSeq f) else !p.left.contains (frameBoot f)

/-- The check a frame fails, in the order of R391, and then TYPE and LEN. -/
def SpanPort.fault (p : SpanPort) (f : Frame) : Option FrameFault :=
  if !p.macOk f then some .mac
  else if p.peer.map (·.1) ≠ some (frameSender f) then some .identity
  else if !p.freshFrame f then some .replay
  else if frameLen (frameType f) ≠ some (le f.bytes 2 2) ∨ f.bytes.length ≠ 28 + le f.bytes 2 2 then some .shape
  else none

/-- A port takes frames: out of reset and of hold, enabled, locked, its queue of received frames whole, and its peer not quarantined
(R387, R395, R212, Tables 1-6, 7-4, 7-7). -/
def State.takes (s : State) (one : Bool) : Bool :=
  let p := s.spPort one
  !s.sys.pkgReset && !s.inHold && s.spEn one && p.lock && decide (s.xState (xId 10 (b2n one)) = .whole) && match p.peer with
    | some (id, _) => !s.quarantined id
    | none => true

/-- A frame that verifies: SEQ, BOOT_ID and PROTO taken; a new BOOT_ID clears the measurement history (R391, R363). -/
def State.takeFrame (s : State) (one : Bool) (f : Frame) : State :=
  let proto := byteAt f.bytes 0
  s.modSp one fun p =>
    let p := if p.bootId = some (frameBoot f) then p
      else { p with
        bootId := some (frameBoot f), left := (p.bootId.toList ++ p.left).take 4, meas := [], count := 0, rateRef := none, probe := none
        fDelay := 0, fOffset := 0, fRate := 0 }
    { p with
      seq := frameSeq f, proto := proto, protoN := if 2 ≤ proto then some (p.protoN.getD s.now) else none
      st := if p.st = 1 then 2 else p.st, heardAt := if p.st = 1 then s.now else p.heardAt }

/-- One rejection of a frame counted, and the trigger it may meet (Table 14-5). -/
def State.rejectFrame (s : State) (one : Bool) (why : FrameFault) : State :=
  let p := s.spPort one
  let s := s.modSp one fun p => { p with authRej := sat16 p.authRej 1 }
  match why with
  | .mac =>
    let (l, hit) := s.failList p.auth
    let s := s.modSp one fun p => { p with auth := l }
    if hit then s.quarantine one 1 else s
  | .replay =>
    let (l, hit) := s.failList p.replay
    let s := s.modSp one fun p => { p with replay := l }
    if hit then s.quarantine one 2 else s
  | .identity =>
    let (l, hit) := s.failList p.ident
    let s := s.modSp one fun p => { p with ident := l }
    if hit then s.quarantine one 3 else s
  | .shape => s

/-- REJECTED_FRAME (R391, R395). -/
def execRejectedFrame (port : Fin 2) (f : Frame) (why : FrameFault) (s : State) : Out :=
  let one := decide (port.val = 1)
  if s.takes one ∧ (s.spPort one).fault f = some why then .next (s.rejectFrame one why) else .next s

/-- One rejection of a measurement or an ANNOUNCE under its bounds; the eighth in a row quarantines. -/
def State.rejectBound (s : State) (one : Bool) (n reason : Nat) : State :=
  let s := s.modSp one fun p => { p with boundRej := sat16 p.boundRej 1 }
  if 8 ≤ n then s.quarantine one reason else s

/-- ANNOUNCE: the peer's rank (R393), under the last check of Table 14-5. -/
def execAnnounce (port : Fin 2) (f : Frame) (s : State) : Out :=
  let one := decide (port.val = 1)
  let p := s.spPort one
  if !s.takes one ∨ p.fault f ≠ none ∨ frameType f ≠ 1 then .next s
  else
    let cls := byteAt f.bytes 28
    let steps := byteAt f.bytes 29
    let grand := le f.bytes 32 8
    if 15 < steps ∨ 3 < cls ∨ (!s.sp.root ∧ grand = s.ownId) then
      let n := p.fLoop + 1
      .next ((s.modSp one fun p => { p with fLoop := n }).rejectBound one n 7)
    else
      let s := s.takeFrame one f
      .next (s.modSp one fun p => { p with
        rank := some ⟨cls, grand, steps + 1⟩, annAt := some s.now, fLoop := 0, st := if p.st = 5 then 2 else p.st }).reselect

/-- PEER_ANNOUNCE_TIMEOUT: 3 ms without a verified ANNOUNCE, counted from the peer's first frame where it has sent none (Table
14-4). -/
def execPeerAnnounceTimeout (port : Fin 2) (s : State) : Out :=
  let one := decide (port.val = 1)
  let p := s.spPort one
  let late : Bool := match p.annAt with
    | some t => decide (t + 3000000 ≤ s.now)
    | none => decide (p.heardAt + 3000000 ≤ s.now)
  if (p.st = 2 ∨ p.st = 3 ∨ p.st = 4) ∧ late then .next (s.modSp one fun p => { p with st := 5, annAt := none }).reselect else .next s

/-! ### Transmission -/

/-- A port may transmit: firmware runs, the port is enabled and locked and holds a current key (R390, Table 1-6). -/
def State.sends (s : State) (one : Bool) : Bool := s.fw && s.spEn one && (s.spPort one).lock && (s.spPort one).key.isSome

/-- A frame handed to the transmitter: header, payload and MAC under the current key (Table 14-2, R390). -/
def State.sendFrame (s : State) (one : Bool) (type : Nat) (payload : Bytes) : State :=
  match (s.spPort one).key with
  | none => s
  | some k =>
    let seq := (s.spPort one).txSeq + 1
    let bytes := [2, BitVec.ofNat 8 type] ++ toLE 2 payload.length ++ toLE 8 s.ownId ++ toLE 8 s.sp.bootId.toNat ++ toLE 4 seq ++
      padTo 2 (kcv k) ++ zeros 2 ++ payload
    s.modSp one fun p => { p with txSeq := seq, tx := some (bytes, (Config.aesCmac k bytes).take 8) }

/-- The interval since the last one has passed. -/
def State.due (s : State) (last : Option Nat) (interval : Nat) : Bool :=
  match last with
  | some t => decide (t + interval ≤ s.now)
  | none => true

/-- The interval between probes in ns: 31.25 us while FAST_PROBE is in use, else PROBE_US as last written (Table 14-3, R406). -/
def State.probeEvery (s : State) : Nat := if s.sp.fast then 31250 else fld s.sp.ctrl.img 23 16 * 1000

/-- ANNOUNCE_TRANSMIT: every 1 ms (Table 14-3). -/
def execAnnounceTransmit (port : Fin 2) (s : State) : Out :=
  let one := decide (port.val = 1)
  if s.sends one ∧ s.due (s.spPort one).annSent 1000000 then
    let s := s.reselect
    let s := s.sendFrame one 1 ([BitVec.ofNat 8 s.sp.cls, BitVec.ofNat 8 s.sp.steps, BitVec.ofNat 8 (b2n s.sp.fast), 0] ++ toLE 8 s.sp.grand ++ zeros 4)
    .next (s.modSp one fun p => { p with annSent := some s.now })
  else .next s

/-- PROBE_TRANSMIT: to a peer in MONITOR, ELIGIBLE or DISCIPLINING; its departure is now (Table 14-3). -/
def execProbeTransmit (port : Fin 2) (s : State) : Out :=
  let one := decide (port.val = 1)
  let p := s.spPort one
  if s.sends one ∧ (p.st = 2 ∨ p.st = 3 ∨ p.st = 4) ∧ s.due p.probedAt s.probeEvery then
    let s := s.sendFrame one 2 (stampS s.rackNow)
    .next (s.modSp one fun p => { p with probe := some (p.txSeq, s.rackNow, s.now), probedAt := some s.now })
  else .next s

/-- The arrival words of a port's frames reach the Erg domain (R207, R212, Table 7-7). -/
def State.stamps (s : State) (one : Bool) : Bool := decide (s.xState (xId 10 (2 + b2n one)) = .whole)

/-- Arrival instant of a frame as rack time, on the grid of 1/512 ns (R388). -/
def State.arrival (s : State) (f : Frame) : Int := f.arrival / 128 * 128 + s.et.rack

/-- PROBE: a REPLY within 20 us to a verified probe of a configured peer; the instant of its departure is a free value in that
bound (R389, Table 14-3). -/
def execProbe (port : Fin 2) (f : Frame) (s : State) : Out :=
  let one := decide (port.val = 1)
  if !s.takes one ∨ !s.stamps one ∨ (s.spPort one).fault f ≠ none ∨ frameType f ≠ 2 then .next s
  else
    let s := (s.takeFrame one f).reselect
    if !s.spEn one ∨ (s.spPort one).key.isNone then .next s
    else
      let t2 := s.arrival f
      let (n, s) := s.draw
      let t3 := t2 + ((n % (20000 * 65536 + 1) : Nat) : Int)
      .next (s.sendFrame one 3 (toLE 4 (frameSeq f) ++ zeros 4 ++ slice f.bytes 28 16 ++ stampS t2 ++ stampS t3))

/-! ### Measurements (R392, Table 14-5) -/

/-- Twice the median of a list. -/
def twiceMedian (xs : List Int) : Int :=
  let l := xs.foldl (fun a x => insertI x a) []
  let n := l.length
  l.getD ((n - 1) / 2) 0 + l.getD (n / 2) 0

/-- The delay check. -/
def State.delayOk (s : State) (p : SpanPort) (d : Int) : Bool :=
  let max_ : Int := (fld s.sp.bounds.eff 15 0 : Int) * 65536
  let tol : Int := (fld s.sp.ctrl.eff 15 8 : Int) * 65536
  decide (0 ≤ d) && decide (d ≤ max_) &&
    (decide (p.count < 16) || decide ((2 * d - twiceMedian (p.meas.map (·.d))).natAbs ≤ (2 * tol).natAbs))

/-- The offset check: against the filtered offset, with RACK_OFFSET's own slewing since taken out. -/
def State.offsetOk (s : State) (p : SpanPort) (o : Int) : Bool :=
  match p.best with
  | some b => decide (p.count < 8) || decide ((s.et.rack + o - (b.rack + b.o)).natAbs ≤ fld s.sp.bounds.eff 31 16 * 65536)
  | none => true

/-- The rate check: against the oldest measurement kept of the last 1 s. -/
def State.rateOk (s : State) (p : SpanPort) (o : Int) : Bool :=
  match (p.meas.filter fun m => decide (s.now ≤ m.at_ + secondNs ∧ m.at_ < s.now)).getLast? with
  | some m => decide ((s.et.rack + o - (m.rack + m.o)).natAbs * 1000000 ≤ 20 * 65536 * (s.now - m.at_))
  | none => true

/-- An accepted measurement, and the discipline that follows from the source's. -/
def State.acceptMeas (s : State) (one : Bool) (d o : Int) : State :=
  let s := s.modSp one fun p => { p with
    meas := (⟨d, o, s.et.rack, s.now⟩ :: p.meas).take 16, count := p.count + 1, accept := p.accept + 1, fDelay := 0, fOffset := 0, fRate := 0 }
  let s := s.reselect
  if (s.spPort one).st = 4 ∧ !s.suspended then s.discipline one else s

/-- REPLY: d and o from the four instants, checked, and source selection and discipline (R392-R395). -/
def execReply (port : Fin 2) (f : Frame) (s : State) : Out :=
  let one := decide (port.val = 1)
  let p := s.spPort one
  if !s.takes one ∨ !s.stamps one ∨ p.fault f ≠ none ∨ frameType f ≠ 3 then .next s
  else
    let t4 := s.arrival f
    let hit : Bool := match p.probe with
      | some (n, t1, at_) => decide (le f.bytes 28 4 = n) && decide (slice f.bytes 36 16 = stampS t1) &&
          decide (f.arrival ≤ ((at_ : Int) + 100000) * 65536)
      | none => false
    match p.probe, hit with
    | some (_, t1, _), true =>
      let t2 := stampSRead f.bytes 52
      let t3 := stampSRead f.bytes 68
      let d := tdiv ((t2 - t1) + (t4 - t3)) 2
      let o := tdiv ((t2 - t1) - (t4 - t3)) 2
      let s := (s.takeFrame one f).modSp one fun p => { p with probe := none }
      let p := s.spPort one
      if !s.delayOk p d then
        .next ((s.modSp one fun p => { p with fDelay := p.fDelay + 1 }).rejectBound one (p.fDelay + 1) 4)
      else if !s.offsetOk p o then
        .next ((s.modSp one fun p => { p with fDelay := 0, fOffset := p.fOffset + 1 }).rejectBound one (p.fOffset + 1) 5)
      else if !s.rateOk p o then
        .next ((s.modSp one fun p => { p with fDelay := 0, fOffset := 0, fRate := p.fRate + 1 }).rejectBound one (p.fRate + 1) 6)
      else .next (s.acceptMeas one d o)
    | _, _ => .next (s.rejectFrame one .replay)

/-- MEASUREMENT_DEFERRED: the measurement of the probe outstanding waited more than 100 us and is discarded; it counts neither
way, and EV_SPAN_DEFERRED reports how many, once per second (R413). -/
def execMeasurementDeferred (port : Fin 2) (s : State) : Out :=
  let one := decide (port.val = 1)
  match (s.spPort one).probe with
  | none => .next s
  | some _ =>
    let s := s.modSp one fun p => { p with probe := none }
    let n := s.sp.deferred + 1
    let say : Bool := match s.sp.deferAt with
      | some t => decide (t + secondNs ≤ s.now)
      | none => true
    .next (({ s with sp := { s.sp with deferred := if say then 0 else n, deferAt := if say then some s.now else s.sp.deferAt } } : State).raiseIf say
      evSpanDeferred n)

/-! ### Symbol lock (R387, R215) -/

/-- SPAN_SYMBOL_LOCK. -/
def execSpanSymbolLock (port : Fin 2) (s : State) : Out :=
  let one := decide (port.val = 1)
  let p := s.spPort one
  if s.sys.pkgReset ∨ p.lock then .next s
  else
    let st := match p.peer with
      | none => 0
      | some (id, _) =>
        if s.quarantined id then 6
        else match p.annAt with
          | some t => if s.now ≤ t + 3000000 then 2 else 5
          | none => if p.bootId.isSome then 5 else 1
    .next (s.modSp one fun p => { p with lock := true, st := st }).reselect

/-- SPAN_LOCK_LOSS: the port's crossings are reset jointly without TORN, the probe is void, the peer is NO_LOCK (R387, R215). -/
def execSpanLockLoss (port : Fin 2) (s : State) : Out :=
  let one := decide (port.val = 1)
  if !(s.spPort one).lock then .next s
  else
    let s := s.modSp one fun p => { p with lock := false, probe := none, st := if p.peer.isSome then 7 else 0 }
    let reset (s : State) (id : Nat) : State := (s.resetContents id).whole id
    .next (reset (reset s (xId 10 port)) (xId 10 (2 + port))).reselect

/-- PREVIOUS_KEY_EXPIRY (R390). -/
def execPreviousKeyExpiry (port : Fin 2) (s : State) : Out :=
  let one := decide (port.val = 1)
  match (s.spPort one).prev with
  | some (_, t) => if t ≤ s.now then .next (s.modSp one fun p => { p with prev := none }) else .next s
  | none => .next s

/-! ### Commands (R336, R397) -/

/-- A port's 32-byte record (Table 11-15). -/
def SpanPort.record (p : SpanPort) : Bytes :=
  toLE 1 p.st ++ toLE 1 p.proto ++ toLE 1 p.qreason ++ zeros 5 ++ toLE 8 ((p.peer.map fun x => x.1.toNat).getD 0) ++
    toLES 8 ((p.meas.head?.map (·.o)).getD 0) ++ toLE 4 p.accept.toNat ++ toLE 4 (p.authRej + p.boundRej)

/-- SPAN_QUERY. -/
def cmdSpanQuery (_ : Req) (s : State) : Result := .done (okReply (s.sp.p0.record ++ s.sp.p1.record)) s

/-- SPAN_QUERY, the command (R336). -/
def execSpanQuery (q : Req) (s : State) : Out := .next (s.submit 0x0B01 cmdSpanQuery q)

/-- What a port keeps when its peer is added or removed: lock, keys, frames sent and counters. -/
def SpanPort.cleared (p : SpanPort) : SpanPort :=
  { lock := p.lock, key := p.key, next := p.next, prev := p.prev, txSeq := p.txSeq, tx := p.tx, accept := p.accept, authRej := p.authRej, boundRej := p.boundRej }

/-- SPAN_PEER_ADD. -/
def cmdSpanPeerAdd (q : Req) (s : State) : Result :=
  if 1 < q.u8 0 then refuse (badArg 0) s
  else if 1 < q.u8 1 then refuse (badArg 1) s
  else
    let one := decide (q.u8 0 = 1)
    let id := BitVec.ofNat 64 (q.le 8 8)
    if (s.spPort one).peer.isSome then refuse (codeReply stFull) s
    else if s.quarantined id then refuse (codeReply stQuarantined) s
    else
      let s := (s.modSp one fun p => { p.cleared with
        peer := some (id, decide (q.u8 1 = 1)), st := if p.lock then 1 else 7 }).reselect
      .done (okReply (s.spPort one).record) s

/-- SPAN_PEER_ADD, the command (R336). -/
def execSpanPeerAdd (q : Req) (s : State) : Out := .next (s.submit 0x0B02 cmdSpanPeerAdd q)

/-- SPAN_PEER_REMOVE. -/
def cmdSpanPeerRemove (q : Req) (s : State) : Result :=
  let one := decide (q.u8 0 = 1)
  if 1 < q.u8 0 ∨ (s.spPort one).peer.isNone then refuse (badArg 0) s
  else .done okReply (s.modSp one SpanPort.cleared).reselect

/-- SPAN_PEER_REMOVE, the command (R336). -/
def execSpanPeerRemove (q : Req) (s : State) : Out := .next (s.submit 0x0B03 cmdSpanPeerRemove q)

/-- SPAN_KEY_SET: on both ports; the current key that it replaces is kept as previous for 10 ms (R390). -/
def cmdSpanKeySet (q : Req) (s : State) : Result :=
  if 1 < q.u8 0 then refuse (badArg 0) s
  else
    let k := slice q.payload 16 16
    let put (p : SpanPort) : SpanPort :=
      if q.u8 0 = 0 then
        { p with key := some k, prev := match p.key with
          | some old => some (old, s.now + 10000000)
          | none => p.prev }
      else { p with next := some k }
    .done okReply ((s.modSp false put).modSp true put)

/-- SPAN_KEY_SET, the command (R390). -/
def execSpanKeySet (q : Req) (s : State) : Out := .next (s.submit 0x0B04 cmdSpanKeySet q)

/-- HOST_OFFSET_POST: refused outside the bounds of R397; adopted or slewed under R112, and a rate from two posts at least 1 s
apart. -/
def cmdHostOffsetPost (q : Req) (s : State) : Result :=
  let x := stampSRead q.payload 0
  let t := q.le 16 8 * 65536 + q.le 24 2
  let now65 := s.now * 65536
  let far : Bool := s.et.hostLast.isSome && decide (fld s.sp.bounds.eff 31 16 * 65536 < (x - s.et.rack).natAbs)
  if s.discSrc ≠ 2 ∨ fld s.sp.host.eff 15 0 < q.le 32 4 ∨ now65 < t ∨ t + secondNs * 65536 < now65 ∨ far then
    refuse (codeReply stRefused) s
  else
    let (s, ref) : State × (Int × Nat) := match s.et.hostLast with
      | none => (s, (x, t))
      | some (y, u, _) =>
        if u + secondNs * 65536 ≤ t then (s.applyRate (rateOf (x - y) ((t - u) / 65536)), (x, t)) else (s, (y, u))
    let (s, adopted) := s.applyRack x
    let s := { s with et := { s.et with host := true, hostLast := some (ref.1, ref.2, s.now) } }
    .done (okReply (toLE 1 (b2n adopted))) s.reselect

/-- HOST_OFFSET_POST, the command (R397). -/
def execHostOffsetPost (q : Req) (s : State) : Out := .next (s.submit 0x0B05 cmdHostOffsetPost q)

/-- HOST_OUT_OF_USE: 10 s without an accepted post (R397). -/
def execHostOutOfUse (s : State) : Out :=
  match s.et.hostLast with
  | some (_, _, t) =>
    if s.et.host ∧ t + 10 * secondNs ≤ s.now then .next ({ s with et := { s.et with host := false } } : State).reselect else .next s
  | none => .next s

end Sys2Proof.Machine
end

