-- ==== Sys2Proof/Machine/Commands.lean ====
section
/-! DEFINITION. The commands by opcode (11_command_reference.md), for a RING that serves whatever the request buffer holds. -/
namespace Sys2Proof.Machine

/-! ### The degradation ladder (R419) -/

/-- A spare of Table 1-9 is in service. -/
def State.spareInService (s : State) : Bool :=
  allRegions.any (fun r => (s.rgn r).chan.onSpare) ||
  allSites.any (fun i =>
    let x := s.site i
    decide (x.state = .backup) || (List.range 4).any fun q => decide (4 ≤ (x.route q).source ∧ (x.route q).source ≤ 6) || decide (4 ≤ (x.route q).group ∧ (x.route q).group < 7)) ||
  decide (2 ≤ s.opt.tone ∨ 2 ≤ s.opt.slot) ||
  (List.range 8).any (fun i => (s.synth (64 + i)).port.isSome) ||
  decide (s.hm.map0 ≠ 127 ∨ s.hm.map1 ≠ 127) || !s.ctl.rowMap.isEmpty || s.sys.limp1

/-- A part of the service is reduced (Table 15-7). -/
def State.serviceReduced (s : State) : Bool :=
  allRegions.any (fun r => s.regionExists r && decide ((s.rgn r).chan.st = .single ∨ (s.rgn r).chan.st = .dead)) ||
  (List.range 64).any (fun p => s.portHalf p) ||
  allSites.any (fun i =>
    let x := s.site i
    let long : Bool := match x.bridgedAt with
      | some t => decide (t + 100000 < s.now)
      | none => true
    decide (x.state = .backup) || (decide (x.state = .bridged) && long) || (List.range 4).any (fun q => x.fixed q) ||
      decide ((s.dieAt i).st = .lost)) ||
  s.hm.front.any (fun e => (e.2.map (·.neutral)).getD false) || s.hm.capped

/-- The stage of the ladder that Milbin's service is in (Table 15-7): 0 full, 1 spared, 2 reduced, 3 Limp, 4 fault. -/
def State.serviceStage (s : State) : Nat :=
  if !s.sys.mlb.isEmpty ∨ s.sys.hold = 4 then 4
  else if s.cfg.layers.mode = 5 then 3
  else if s.serviceReduced then 2
  else if s.spareInService then 1
  else 0

/-- An opcode's command; none where Table 11-2's groups list none (R312). -/
def command (op : Nat) : Option Cmd :=
  if op = 0x0101 then some cmdOpSuspend
  else if op = 0x0102 then some cmdOpResume
  else if op = 0x0103 then some cmdOpCancel
  else if op = 0x0104 then some cmdOpQuery
  else if op = 0x0105 then some cmdOpWrite
  else if op = 0x0106 then some cmdMbxSpillRead
  else if op = 0x0107 then some cmdMbxSpillFree
  else if op = 0x0201 then some cmdRegionSetPeriod
  else if op = 0x0202 then some cmdRegionQuery
  else if op = 0x0203 then some (cmdReadField 1)
  else if op = 0x0204 then some (cmdWriteField 1)
  else if op = 0x0301 then some cmdForecastPost
  else if op = 0x0302 then some cmdHawkmothSetMode
  else if op = 0x0303 then some cmdHawkmothQuery
  else if op = 0x0304 then some cmdModelLoad
  else if op = 0x0305 then some cmdModelUnload
  else if op = 0x0306 then some (cmdReadField 2)
  else if op = 0x0307 then some (cmdWriteField 2)
  else if op = 0x0401 then some cmdErgRead
  else if op = 0x0402 then some cmdAnchorAdd
  else if op = 0x0403 then some cmdAnchorRemove
  else if op = 0x0404 then some cmdAnchorQuery
  else if op = 0x0405 then some cmdAnchorConvert
  else if op = 0x0406 then some cmdLedgerRead
  else if op = 0x0407 then some (cmdReadField 3)
  else if op = 0x0408 then some (cmdWriteField 3)
  else if op = 0x0501 then some cmdRouteQuery
  else if op = 0x0502 then some cmdSpareInsert
  else if op = 0x0503 then some cmdOpticRecal
  else if op = 0x0504 then some (cmdReadField 4)
  else if op = 0x0505 then some (cmdWriteField 4)
  else if op = 0x0601 then some cmdSynthQuery
  else if op = 0x0602 then some cmdSynthSetMode
  else if op = 0x0603 then some (cmdReadField 5)
  else if op = 0x0604 then some (cmdWriteField 5)
  else if op = 0x0701 then some cmdCrossQuery
  else if op = 0x0702 then some cmdCrossReset
  else if op = 0x0703 then some cmdCrossRelease
  else if op = 0x0704 then some cmdPairRecal
  else if op = 0x0705 then some (cmdReadField 6)
  else if op = 0x0706 then some (cmdWriteField 6)
  else if op = 0x0801 then some cmdCalRun
  else if op = 0x0802 then some cmdSelftestRun
  else if op = 0x0803 then some cmdCalQuery
  else if op = 0x0804 then some cmdCalSetRead
  else if op = 0x0805 then some (cmdReadField 7)
  else if op = 0x0806 then some (cmdWriteField 7)
  else if op = 0x0901 then some cmdSenseQuery
  else if op = 0x0902 then some cmdThermQuery
  else if op = 0x0903 then some cmdPlantPost
  else if op = 0x0904 then some cmdWearQuery
  else if op = 0x0905 then some cmdWearExport
  else if op = 0x0906 then some cmdWearImport
  else if op = 0x0907 then some (cmdReadField 8)
  else if op = 0x0908 then some (cmdWriteField 8)
  else if op = 0x0A01 then some cmdConfigQuery
  else if op = 0x0A02 then some cmdOverlayApply
  else if op = 0x0A03 then some cmdOverlayWithdraw
  else if op = 0x0A04 then some cmdModeSet
  else if op = 0x0A05 then some cmdFwUpdate
  else if op = 0x0B01 then some cmdSpanQuery
  else if op = 0x0B02 then some cmdSpanPeerAdd
  else if op = 0x0B03 then some cmdSpanPeerRemove
  else if op = 0x0B04 then some cmdSpanKeySet
  else if op = 0x0B05 then some cmdHostOffsetPost
  else if op = 0x0B06 then some (cmdReadField 10)
  else if op = 0x0B07 then some (cmdWriteField 10)
  else if op = 0x0C01 then some cmdEventRead
  else if op = 0x0C02 then some cmdDieQuery
  else if op = 0x0C03 then some (cmdReadField 9)
  else if op = 0x0C04 then some (cmdWriteField 9)
  else if op = 0x0C10 then some cmdDebugRead
  else if op = 0x0C11 then some cmdDebugWrite
  else if op = 0x0C12 then some cmdCtrlHalt
  else if op = 0x0C13 then some cmdCtrlResume
  else if op = 0x0C14 then some cmdCtrlRestart
  else none

end Sys2Proof.Machine
end

