-- ==== Sys2Proof/Machine/Port.lean ====
section
/-! DEFINITION. Mailbox doorbells and request buffers, by the management window and by the test access port (10 R295, R302;
14 R404; 07 R215). -/
namespace Sys2Proof.Machine

/-! ### Buffers and doorbells (R295) -/

/-- Bytes written into a mailbox's request buffer, discarded with WR_ERR in POSTED or WORKING. -/
def State.writeBuffer (s : State) (m : Fin 8) (off : Nat) (bs : Bytes) : State :=
  if (s.box m).st = .posted ∨ (s.box m).st = .working then s.modBox m fun b => { b with wrErr := true }
  else s.modBox m fun b => { b with req := trim (overlayAt (padTo 256 b.req) off bs) }

/-- ACK: RESPONDED becomes IDLE; ignored in any other state. -/
def State.ackBox (s : State) (m : Fin 8) : State :=
  s.modBox m fun b => if b.st = .responded then { b with st := .idle } else b

/-- CLEAR_ERR. -/
def State.clearErr (s : State) (m : Fin 8) : State := s.modBox m fun b => { b with dbErr := false, wrErr := false }

/-- RING, whatever the buffer holds. -/
def State.ringBox (s : State) (m : Fin 8) (test : Bool) : State := s.serve command m test

/-- REQUEST_BUFFER_WRITE: one aligned 32-bit or 64-bit word through the window (R289, R295). -/
def execRequestBufferWrite (m : Fin 8) (offset : Nat) (bytes : Bytes) (s : State) : Out :=
  if s.reaches m false ∧ (bytes.length = 4 ∨ bytes.length = 8) ∧ offset % bytes.length = 0 ∧ offset + bytes.length ≤ 256 then
    .next (s.writeBuffer m offset bytes)
  else .next s

/-- RING through the window (R295). -/
def execRing (m : Fin 8) (s : State) : Out := if s.reaches m false then .next (s.ringBox m false) else .next s

/-- ACK through the window (R295). -/
def execAck (m : Fin 8) (s : State) : Out := if s.reaches m false then .next (s.ackBox m) else .next s

/-- CLEAR_ERR through the window (R295). -/
def execClearErr (m : Fin 8) (s : State) : Out := if s.reaches m false then .next (s.clearErr m) else .next s

/-! ### The test access port (R404) -/

/-- The port changed. -/
def State.modTap (s : State) (f : Tap → Tap) : State := { s with tap := f s.tap }

/-- The levels of the three board outputs. -/
def State.pins (s : State) : BoundaryCells := ⟨s.sys.trip, !s.sys.droop.isEmpty, !s.sys.mlb.isEmpty⟩

/-- What the three pins carry: the boundary cells' levels under EXTEST, Milbin's otherwise. -/
def State.pinLevels (s : State) : BoundaryCells := if s.tap.ir = 0x00 then s.tap.cells else s.pins

/-- The identification register (Table 14-11). -/
def idcodeValue : Nat := at_ 1 28 + at_ 0x4D42 12 + at_ Config.idManufacturer.toNat 1 + 1

/-- Codes of Table 14-11 other than BYPASS. -/
def tapCodes : List Nat := [0x00, 0x01, 0x02, 0x20, 0x21, 0x22]

/-- TRST_N: the port is reset, and the test side's crossings tear (R215). -/
def execTrstN (s : State) : Out :=
  let s := s.modTap fun _ => {}
  if s.sys.pkgReset then .next s else .next ((s.tear (xId 11 0) false).tear (xId 11 1) true)

/-- EXTEST: the boundary cells take the pins with the values shifted in. -/
def execExtest (cells : BoundaryCells) (s : State) : Out := .next (s.modTap fun t => { t with ir := 0x00, cells := cells })

/-- SAMPLE/PRELOAD: the pins' levels are captured and the cells loaded; Milbin keeps the pins. -/
def execSamplePreload (cells : BoundaryCells) (s : State) : Out :=
  .next (s.modTap fun t => { t with ir := 0x01, sampled := s.pins, cells := cells })

/-- IDCODE. -/
def execIdcode (s : State) : Out := .next (s.modTap fun t => { t with ir := 0x02, dr := toLE 4 idcodeValue })

/-- BYPASS, by its own code or any that Table 14-11 does not list; the 1-bit register captures 0. -/
def execBypass (code : BitVec 8) (s : State) : Out :=
  if tapCodes.contains code.toNat then .next s else .next (s.modTap fun t => { t with ir := code, dr := [0] })

/-- MBX7_REQ: 2,048 bits into MBX7's request buffer at Update-DR, while the test side's crossing carries them. -/
def execMbx7Req (bytes : Bytes) (s : State) : Out :=
  let s := s.modTap fun t => { t with ir := 0x20 }
  if s.reaches 7 true ∧ s.xState (xId 11 0) = .whole then .next (s.writeBuffer 7 0 (padTo 256 bytes)) else .next s

/-- MBX7's response buffer at the test port: what crossing 0xB:1 carries, or the words that it carried last (Table 7-4, R212). -/
def State.testResp (s : State) : Bytes :=
  if s.xState (xId 11 1) = .whole then padTo 256 (s.box 7).resp
  else (List.range 64).flatMap fun k => toLE 4 (s.through (xId 11 1) (512 * 7 + 256 + 4 * k))

/-- MBX7_RSP: MBX7's response buffer captured. -/
def execMbx7Rsp (s : State) : Out := .next (s.modTap fun t => { t with ir := 0x21, dr := s.testResp })

/-- MBX7_CTL: MB_MBX_STATUS7 captured, as crossing 0xB:1 carries it; then the bits shifted in act as MB_DOORBELL7 (R302). -/
def execMbx7Ctl (dr : Word) (s : State) : Out :=
  let s := s.modTap fun t => { t with ir := 0x22, dr := toLE 4 (s.through (xId 11 1) (0x1000 + 16 * 7 + 4)) }
  if s.reaches 7 true ∧ s.xState (xId 11 0) = .whole then
    let s := if bitOf dr 2 then s.clearErr 7 else s
    let s := if bitOf dr 1 then s.ackBox 7 else s
    .next (if bitOf dr 0 then s.ringBox 7 true else s)
  else .next s

end Sys2Proof.Machine
end

