-- ==== Sys2Proof/Machine/Dispatch.lean ====
section
/-! DEFINITION. One arm per command: its meaning. Rigid form, read by the host arm by arm. -/
namespace Sys2Proof.Machine

def exec (i : Instr) (s : State) : Host.Outcome State Fault Refusal :=
  match i with
  | .pkgResetNAssert => Sys2Proof.Machine.execPkgResetNAssert s
  | .pkgResetNRelease env => Sys2Proof.Machine.execPkgResetNRelease env s
  | .basePllLock => Sys2Proof.Machine.execBasePllLock s
  | .basePllLockTimeout => Sys2Proof.Machine.execBasePllLockTimeout s
  | .bootOverrun => Sys2Proof.Machine.execBootOverrun s
  | .xtalLoss => Sys2Proof.Machine.execXtalLoss s
  | .xtalRestored => Sys2Proof.Machine.execXtalRestored s
  | .diePowerLoss site => Sys2Proof.Machine.execDiePowerLoss site s
  | .dieOwnReset site => Sys2Proof.Machine.execDieOwnReset site s
  | .regionsOwnReset regions => Sys2Proof.Machine.execRegionsOwnReset regions s
  | .localResetExit id second => Sys2Proof.Machine.execLocalResetExit id second s
  | .trstN => Sys2Proof.Machine.execTrstN s
  | .extest cells => Sys2Proof.Machine.execExtest cells s
  | .samplePreload cells => Sys2Proof.Machine.execSamplePreload cells s
  | .idcode => Sys2Proof.Machine.execIdcode s
  | .bypass code => Sys2Proof.Machine.execBypass code s
  | .mbx7Req bytes => Sys2Proof.Machine.execMbx7Req bytes s
  | .mbx7Rsp => Sys2Proof.Machine.execMbx7Rsp s
  | .mbx7Ctl dr => Sys2Proof.Machine.execMbx7Ctl dr s
  | .requestBufferWrite m offset bytes => Sys2Proof.Machine.execRequestBufferWrite m offset bytes s
  | .ring m => Sys2Proof.Machine.execRing m s
  | .ack m => Sys2Proof.Machine.execAck m s
  | .clearErr m => Sys2Proof.Machine.execClearErr m s
  | .mbErgLoRead => Sys2Proof.Machine.execMbErgLoRead s
  | .mbErgHiRead => Sys2Proof.Machine.execMbErgHiRead s
  | .registerWrite space addr value => Sys2Proof.Machine.execRegisterWrite space addr value s
  | .mbSnsBudgetWrite value => Sys2Proof.Machine.execMbSnsBudgetWrite value s
  | .mbLsEnWrite synth enable override => Sys2Proof.Machine.execMbLsEnWrite synth enable override s
  | .pinHalfWrite synth set => Sys2Proof.Machine.execPinHalfWrite synth set s
  | .clearRgnEvcnt r => Sys2Proof.Machine.execClearRgnEvcnt r s
  | .clearRgnStretchCnt r => Sys2Proof.Machine.execClearRgnStretchCnt r s
  | .clearHmCounters => Sys2Proof.Machine.execClearHmCounters s
  | .clearErgCounters => Sys2Proof.Machine.execClearErgCounters s
  | .clearOptCounters => Sys2Proof.Machine.execClearOptCounters s
  | .clearLsCounters => Sys2Proof.Machine.execClearLsCounters s
  | .clearXingCounters => Sys2Proof.Machine.execClearXingCounters s
  | .clearXingDrop => Sys2Proof.Machine.execClearXingDrop s
  | .clearCalCounters => Sys2Proof.Machine.execClearCalCounters s
  | .clearSnsCounters => Sys2Proof.Machine.execClearSnsCounters s
  | .clearSpanCounters => Sys2Proof.Machine.execClearSpanCounters s
  | .clearCtlCounters => Sys2Proof.Machine.execClearCtlCounters s
  | .opSuspend q => Sys2Proof.Machine.execOpSuspend q s
  | .opResume q => Sys2Proof.Machine.execOpResume q s
  | .opCancel q => Sys2Proof.Machine.execOpCancel q s
  | .opQuery q => Sys2Proof.Machine.execOpQuery q s
  | .opWrite q => Sys2Proof.Machine.execOpWrite q s
  | .mbxSpillRead q => Sys2Proof.Machine.execMbxSpillRead q s
  | .mbxSpillFree q => Sys2Proof.Machine.execMbxSpillFree q s
  | .regionSetPeriod q => Sys2Proof.Machine.execRegionSetPeriod q s
  | .regionQuery q => Sys2Proof.Machine.execRegionQuery q s
  | .regionReadField q => Sys2Proof.Machine.execRegionReadField q s
  | .regionWriteField q => Sys2Proof.Machine.execRegionWriteField q s
  | .forecastPost q => Sys2Proof.Machine.execForecastPost q s
  | .hawkmothSetMode q => Sys2Proof.Machine.execHawkmothSetMode q s
  | .hawkmothQuery q => Sys2Proof.Machine.execHawkmothQuery q s
  | .hawkmothReadField q => Sys2Proof.Machine.execHawkmothReadField q s
  | .hawkmothWriteField q => Sys2Proof.Machine.execHawkmothWriteField q s
  | .modelLoad q => Sys2Proof.Machine.execModelLoad q s
  | .modelUnload q => Sys2Proof.Machine.execModelUnload q s
  | .ergRead q => Sys2Proof.Machine.execErgRead q s
  | .ergReadField q => Sys2Proof.Machine.execErgReadField q s
  | .ergWriteField q => Sys2Proof.Machine.execErgWriteField q s
  | .anchorAdd q => Sys2Proof.Machine.execAnchorAdd q s
  | .anchorRemove q => Sys2Proof.Machine.execAnchorRemove q s
  | .anchorQuery q => Sys2Proof.Machine.execAnchorQuery q s
  | .anchorConvert q => Sys2Proof.Machine.execAnchorConvert q s
  | .ledgerRead q => Sys2Proof.Machine.execLedgerRead q s
  | .routeQuery q => Sys2Proof.Machine.execRouteQuery q s
  | .spareInsert q => Sys2Proof.Machine.execSpareInsert q s
  | .opticRecal q => Sys2Proof.Machine.execOpticRecal q s
  | .opticReadField q => Sys2Proof.Machine.execOpticReadField q s
  | .opticWriteField q => Sys2Proof.Machine.execOpticWriteField q s
  | .synthQuery q => Sys2Proof.Machine.execSynthQuery q s
  | .synthSetMode q => Sys2Proof.Machine.execSynthSetMode q s
  | .synthReadField q => Sys2Proof.Machine.execSynthReadField q s
  | .synthWriteField q => Sys2Proof.Machine.execSynthWriteField q s
  | .crossQuery q => Sys2Proof.Machine.execCrossQuery q s
  | .crossReset q => Sys2Proof.Machine.execCrossReset q s
  | .crossRelease q => Sys2Proof.Machine.execCrossRelease q s
  | .pairRecal q => Sys2Proof.Machine.execPairRecal q s
  | .crossReadField q => Sys2Proof.Machine.execCrossReadField q s
  | .crossWriteField q => Sys2Proof.Machine.execCrossWriteField q s
  | .calRun q => Sys2Proof.Machine.execCalRun q s
  | .selftestRun q => Sys2Proof.Machine.execSelftestRun q s
  | .calQuery q => Sys2Proof.Machine.execCalQuery q s
  | .calSetRead q => Sys2Proof.Machine.execCalSetRead q s
  | .calReadField q => Sys2Proof.Machine.execCalReadField q s
  | .calWriteField q => Sys2Proof.Machine.execCalWriteField q s
  | .senseQuery q => Sys2Proof.Machine.execSenseQuery q s
  | .thermQuery q => Sys2Proof.Machine.execThermQuery q s
  | .plantPost q => Sys2Proof.Machine.execPlantPost q s
  | .wearQuery q => Sys2Proof.Machine.execWearQuery q s
  | .wearExport q => Sys2Proof.Machine.execWearExport q s
  | .wearImport q => Sys2Proof.Machine.execWearImport q s
  | .senseReadField q => Sys2Proof.Machine.execSenseReadField q s
  | .senseWriteField q => Sys2Proof.Machine.execSenseWriteField q s
  | .configQuery q => Sys2Proof.Machine.execConfigQuery q s
  | .overlayApply q => Sys2Proof.Machine.execOverlayApply q s
  | .overlayWithdraw q => Sys2Proof.Machine.execOverlayWithdraw q s
  | .modeSet q => Sys2Proof.Machine.execModeSet q s
  | .fwUpdate q => Sys2Proof.Machine.execFwUpdate q s
  | .spanQuery q => Sys2Proof.Machine.execSpanQuery q s
  | .spanPeerAdd q => Sys2Proof.Machine.execSpanPeerAdd q s
  | .spanPeerRemove q => Sys2Proof.Machine.execSpanPeerRemove q s
  | .spanKeySet q => Sys2Proof.Machine.execSpanKeySet q s
  | .hostOffsetPost q => Sys2Proof.Machine.execHostOffsetPost q s
  | .spanReadField q => Sys2Proof.Machine.execSpanReadField q s
  | .spanWriteField q => Sys2Proof.Machine.execSpanWriteField q s
  | .eventRead q => Sys2Proof.Machine.execEventRead q s
  | .dieQuery q => Sys2Proof.Machine.execDieQuery q s
  | .debugRead q => Sys2Proof.Machine.execDebugRead q s
  | .debugWrite q => Sys2Proof.Machine.execDebugWrite q s
  | .ctrlHalt q => Sys2Proof.Machine.execCtrlHalt q s
  | .ctrlResume q => Sys2Proof.Machine.execCtrlResume q s
  | .ctrlRestart q => Sys2Proof.Machine.execCtrlRestart q s
  | .siroccoReadField q => Sys2Proof.Machine.execSiroccoReadField q s
  | .siroccoWriteField q => Sys2Proof.Machine.execSiroccoWriteField q s
  | .controllerFault c why => Sys2Proof.Machine.execControllerFault c why s
  | .holdRequest => Sys2Proof.Machine.execHoldRequest s
  | .holdRelease => Sys2Proof.Machine.execHoldRelease s
  | .holdExit => Sys2Proof.Machine.execHoldExit s
  | .holdOverrun => Sys2Proof.Machine.execHoldOverrun s
  | .controllerReloadDone c => Sys2Proof.Machine.execControllerReloadDone c s
  | .controllerReloadTimeout c => Sys2Proof.Machine.execControllerReloadTimeout c s
  | .reloadSourceLost c => Sys2Proof.Machine.execReloadSourceLost c s
  | .controllerHeartbeat c => Sys2Proof.Machine.execControllerHeartbeat c s
  | .imageVerified c src selfTest => Sys2Proof.Machine.execImageVerified c src selfTest s
  | .oasisScrub word corrected => Sys2Proof.Machine.execOasisScrub word corrected s
  | .oasisRowSpare row => Sys2Proof.Machine.execOasisRowSpare row s
  | .oasisUe word => Sys2Proof.Machine.execOasisUe word s
  | .handleExpired h => Sys2Proof.Machine.execHandleExpired h s
  | .opWriteTimeout h => Sys2Proof.Machine.execOpWriteTimeout h s
  | .longOpDone h => Sys2Proof.Machine.execLongOpDone h s
  | .regionPeriodEnd r taps vmin offers => Sys2Proof.Machine.execRegionPeriodEnd r taps vmin s offers
  | .stretchLoopStep r => Sys2Proof.Machine.execStretchLoopStep r s
  | .stretchNoticeReceive r k => Sys2Proof.Machine.execStretchNoticeReceive r k s
  | .regionWindowBoundary r m => Sys2Proof.Machine.execRegionWindowBoundary r m s
  | .periodCodeLatch r => Sys2Proof.Machine.execPeriodCodeLatch r s
  | .freqStopBegin r => Sys2Proof.Machine.execFreqStopBegin r s
  | .freqStopRestart r q vmin => Sys2Proof.Machine.execFreqStopRestart r q vmin s
  | .retuneFail r => Sys2Proof.Machine.execRetuneFail r s
  | .channelEdgeTimeout r => Sys2Proof.Machine.execChannelEdgeTimeout r s
  | .directTakeoverRestart r q vmin => Sys2Proof.Machine.execDirectTakeoverRestart r q vmin s
  | .regionDead r => Sys2Proof.Machine.execRegionDead r s
  | .twinReloadLocked r => Sys2Proof.Machine.execTwinReloadLocked r s
  | .plannedSwapRequest r why => Sys2Proof.Machine.execPlannedSwapRequest r why s
  | .swapHandover r => Sys2Proof.Machine.execSwapHandover r s
  | .swapWaitTimeout r => Sys2Proof.Machine.execSwapWaitTimeout r s
  | .districtSpareInsert r runs0 runs1 q => Sys2Proof.Machine.execDistrictSpareInsert r runs0 runs1 q s
  | .plannedDistrictSpare r runs0 runs1 => Sys2Proof.Machine.execPlannedDistrictSpare r runs0 runs1 s
  | .evaluationStart bad => Sys2Proof.Machine.execEvaluationStart s bad
  | .planFlip => Sys2Proof.Machine.execPlanFlip s
  | .evaluationOverrun reached => Sys2Proof.Machine.execEvaluationOverrun reached s
  | .columnTest pass => Sys2Proof.Machine.execColumnTest pass s
  | .columnSpareMap => Sys2Proof.Machine.execColumnSpareMap s
  | .planCapture r => Sys2Proof.Machine.execPlanCapture r s
  | .voidReceive r => Sys2Proof.Machine.execVoidReceive r s
  | .forecastPortWrite die word => Sys2Proof.Machine.execForecastPortWrite die word s
  | .forecastMerge => Sys2Proof.Machine.execForecastMerge s
  | .forecastStale d => Sys2Proof.Machine.execForecastStale d s
  | .modelActivate id => Sys2Proof.Machine.execModelActivate id s
  | .replicaSlotCheck r crcOk slipped => Sys2Proof.Machine.execReplicaSlotCheck r crcOk slipped s
  | .heartbeatCheck => Sys2Proof.Machine.execHeartbeatCheck s
  | .dieLostLong site => Sys2Proof.Machine.execDieLostLong site s
  | .signOfLife r => Sys2Proof.Machine.execSignOfLife r s
  | .rejoin site fuse terms dlanes => Sys2Proof.Machine.execRejoin site fuse s terms dlanes
  | .rejoinStep2Timeout site => Sys2Proof.Machine.execRejoinStep2Timeout site s
  | .ergWindowDiscipline => Sys2Proof.Machine.execErgWindowDiscipline s
  | .rackAdoptIdle => Sys2Proof.Machine.execRackAdoptIdle s
  | .anchorCapture r => Sys2Proof.Machine.execAnchorCapture r s
  | .anchorFold => Sys2Proof.Machine.execAnchorFold s
  | .ledgerPressure => Sys2Proof.Machine.execLedgerPressure s
  | .ledgerLoss r => Sys2Proof.Machine.execLedgerLoss r s
  | .conversionSettled m => Sys2Proof.Machine.execConversionSettled m s
  | .landingFault site landing carrier power => Sys2Proof.Machine.execLandingFault site landing s carrier power
  | .wavelengthFault carrier launched received => Sys2Proof.Machine.execWavelengthFault carrier s launched received
  | .groupFault site quad => Sys2Proof.Machine.execGroupFault site quad s
  | .continuityCheck site group ok => Sys2Proof.Machine.execContinuityCheck site group ok s
  | .landingWarnTimeout site landing carrier power => Sys2Proof.Machine.execLandingWarnTimeout site landing s carrier power
  | .landingCrcDegrade site landing => Sys2Proof.Machine.execLandingCrcDegrade site landing s
  | .spareCarrierLoss carrier launched => Sys2Proof.Machine.execSpareCarrierLoss carrier s launched
  | .carrierRecovered carrier launched received => Sys2Proof.Machine.execCarrierRecovered carrier s launched received
  | .flywheelExpiry r => Sys2Proof.Machine.execFlywheelExpiry r s
  | .landingInsert site quad power quick full => Sys2Proof.Machine.execLandingInsert site quad power quick full s
  | .groupInsert site quad quick full => Sys2Proof.Machine.execGroupInsert site quad quick full s
  | .wavelengthInsert launched => Sys2Proof.Machine.execWavelengthInsert launched s
  | .borrowPermanent site quad delays => Sys2Proof.Machine.execBorrowPermanent site quad delays s
  | .siteBackup site => Sys2Proof.Machine.execSiteBackup site s
  | .siteOptical launched => Sys2Proof.Machine.execSiteOptical s launched
  | .siteIsolated site backupFailed => Sys2Proof.Machine.execSiteIsolated site s backupFailed
  | .insvcRecal site landing => Sys2Proof.Machine.execInsvcRecal site landing s
  | .insvcMeasurementDone t delay => Sys2Proof.Machine.execInsvcMeasurementDone t delay s
  | .delaySlew => Sys2Proof.Machine.execDelaySlew s
  | .laneRemeasure site delays => Sys2Proof.Machine.execLaneRemeasure site delays s
  | .synthRide quad => Sys2Proof.Machine.execSynthRide quad s
  | .rideTimeout synth => Sys2Proof.Machine.execRideTimeout synth s
  | .renegotiateHalf quad => Sys2Proof.Machine.execRenegotiateHalf quad s
  | .rateAck port => Sys2Proof.Machine.execRateAck port s
  | .portStateChange port st => Sys2Proof.Machine.execPortStateChange port st s
  | .clkGrantTimeout port => Sys2Proof.Machine.execClkGrantTimeout port s
  | .renegTimeout port => Sys2Proof.Machine.execRenegTimeout port s
  | .renegotiateFull port => Sys2Proof.Machine.execRenegotiateFull port s
  | .synthRelockDone synth cw band => Sys2Proof.Machine.execSynthRelockDone synth cw band s
  | .synthFail synth why => Sys2Proof.Machine.execSynthFail synth why s
  | .synthJitterMeasure synth fs => Sys2Proof.Machine.execSynthJitterMeasure synth fs s
  | .synthInsert port => Sys2Proof.Machine.execSynthInsert port s
  | .quiesceTimeout port => Sys2Proof.Machine.execQuiesceTimeout port s
  | .crossStall id => Sys2Proof.Machine.execCrossStall id s
  | .crossTear id => Sys2Proof.Machine.execCrossTear id s
  | .jointReset id => Sys2Proof.Machine.execJointReset id s
  | .fenceRelease scope dlanes => Sys2Proof.Machine.execFenceRelease scope dlanes s
  | .pairSlot r k only => Sys2Proof.Machine.execPairSlot r k only s
  | .realignWinExpiry r k => Sys2Proof.Machine.execRealignWinExpiry r k s
  | .targetNotice r k => Sys2Proof.Machine.execTargetNotice r k s
  | .stopNotice r k => Sys2Proof.Machine.execStopNotice r k s
  | .restartNotice r k => Sys2Proof.Machine.execRestartNotice r k s
  | .pairCalibrationDone r k dlane => Sys2Proof.Machine.execPairCalibrationDone r k dlane s
  | .spanSymbolLock port => Sys2Proof.Machine.execSpanSymbolLock port s
  | .spanLockLoss port => Sys2Proof.Machine.execSpanLockLoss port s
  | .announce port f => Sys2Proof.Machine.execAnnounce port f s
  | .probe port f => Sys2Proof.Machine.execProbe port f s
  | .reply port f => Sys2Proof.Machine.execReply port f s
  | .announceTransmit port => Sys2Proof.Machine.execAnnounceTransmit port s
  | .probeTransmit port => Sys2Proof.Machine.execProbeTransmit port s
  | .peerAnnounceTimeout port => Sys2Proof.Machine.execPeerAnnounceTimeout port s
  | .quarantineExpiry id => Sys2Proof.Machine.execQuarantineExpiry id s
  | .previousKeyExpiry port => Sys2Proof.Machine.execPreviousKeyExpiry port s
  | .measurementDeferred port => Sys2Proof.Machine.execMeasurementDeferred port s
  | .hostOutOfUse => Sys2Proof.Machine.execHostOutOfUse s
  | .ucieDiscovery site caps => Sys2Proof.Machine.execUcieDiscovery site caps s
  | .discoveryRetry site caps => Sys2Proof.Machine.execDiscoveryRetry site caps s
  | .foreignDiePoll site answered => Sys2Proof.Machine.execForeignDiePoll site answered s
  | .sidebandLinkDown site => Sys2Proof.Machine.execSidebandLinkDown site s
  | .calDueCheck => Sys2Proof.Machine.execCalDueCheck s
  | .calSlotGrant => Sys2Proof.Machine.execCalSlotGrant s
  | .calRunComplete r oscB res => Sys2Proof.Machine.execCalRunComplete r oscB res s
  | .suspectHoldoffExpiry r => Sys2Proof.Machine.execSuspectHoldoffExpiry r s
  | .calVoidRetryExpiry r => Sys2Proof.Machine.execCalVoidRetryExpiry r s
  | .gapWindow d => Sys2Proof.Machine.execGapWindow d s
  | .calGapTimeout r => Sys2Proof.Machine.execCalGapTimeout r s
  | .selftestDue r => Sys2Proof.Machine.execSelftestDue r s
  | .selftestComplete r oscB failed meas => Sys2Proof.Machine.execSelftestComplete r oscB failed s meas
  | .sensorFault r k => Sys2Proof.Machine.execSensorFault r k s
  | .sensorRecovered r k => Sys2Proof.Machine.execSensorRecovered r k s
  | .ringPeriod tiles => Sys2Proof.Machine.execRingPeriod tiles s
  | .frameEnd => Sys2Proof.Machine.execFrameEnd s
  | .coolantStale => Sys2Proof.Machine.execCoolantStale s
  | .budgetStale => Sys2Proof.Machine.execBudgetStale s
  | .regionFence => Sys2Proof.Machine.execRegionFence s
  | .configWordLost area => Sys2Proof.Machine.execConfigWordLost area s
  | .fwUpdateHoldEntry => Sys2Proof.Machine.execFwUpdateHoldEntry s
  | .fwRollback why => Sys2Proof.Machine.execFwRollback why s
  | .limpEnter => Sys2Proof.Machine.execLimpEnter s
  | .severeSustained => Sys2Proof.Machine.execSevereSustained s
  | .eventRaise id arg => Sys2Proof.Machine.execEventRaise id arg s
  | .eventLogWrite => Sys2Proof.Machine.execEventLogWrite s
  | .rejectedFrame port f why => Sys2Proof.Machine.execRejectedFrame port f why s
  | .diePowerOn site => Sys2Proof.Machine.execDiePowerOn site s
  | .lossOfLock synth => Sys2Proof.Machine.execLossOfLock synth s

end Sys2Proof.Machine
end

