-- ==== Sys2Proof/Machine/Tick.lean ====
section
/-! DEFINITION. What the empty queue does: one edge of the Erg and engine domains (log 1). The Oasis arbiter serves its requesters in
that engine cycle (01 R37; 07 R193, R194). -/
namespace Sys2Proof.Machine

/-! ### The Oasis arbiter (R37) -/

/-- A request before the arbiter: its class, 0 the highest of the seven, and its number in the class. -/
structure Ask where
  cls : Nat
  who : Nat
  deriving DecidableEq, Repr

/-- A requester's number. -/
def Ask.key (a : Ask) : Nat := a.cls * 65536 + a.who

/-- Lanes that a reader may drain: whole ones, and the entries visible in a fenced one (R207). -/
def State.drains (s : State) (id : Nat) : Bool := decide (s.xState id = .whole ∨ s.xState id = .fenced)

/-- The request of a region's record lane: its oldest entry is a stretch record or a sensor summary (R37, R194). -/
def Region.ask (g : Region) (r : RegionNo) : Option Ask :=
  match g.former.lane with
  | .record _ :: _ => some ⟨0, r⟩
  | .summary _ :: _ => some ⟨3, r⟩
  | [] => none

/-- Every request of an engine cycle: record lanes, the event ingress, forecast lanes, Hawkmoth while it evaluates, Sirocco and the
mailbox spill. DESIGN CHOICE (log 54): the ingress stands in the class of the monitors' events, which it carries. -/
def State.asks (s : State) : List Ask :=
  ((s.reg.filter fun e => s.drains (xId 5 e.1)).filterMap fun e => e.2.ask e.1) ++
  (if s.ev.queue.isEmpty || s.ev.turn then [] else [⟨1, 0⟩]) ++
  ((s.xg.fq.filter fun e => !e.2.isEmpty && s.drains (xId 6 (e.1 / 8 * 256 + e.1 % 8))).map fun e => ⟨2, e.1⟩) ++
  (if s.hm.eval.isSome then [⟨4, 0⟩] else []) ++ (if 0 < s.mbx.asks then [⟨5, 0⟩] else []) ++
  (if 0 < s.mbx.spillAsks then [⟨6, 0⟩] else [])

/-- Engine cycles after which a requester is served next whatever its class (R37). -/
def agedAt : Nat := 64

/-- A request's place: aged ones first, the longest waiting before the others; then by class, and within a class in rotation from the
requester served last (R37, R194). -/
def Arbiter.place (b : Arbiter) (a : Ask) : Nat :=
  let n := Map.get 0 b.wait a.key
  if agedAt ≤ n then 2 ^ 30 - min n (2 ^ 30) else 2 ^ 30 + a.cls * 65536 + (a.who + 65536 - b.turn % 65536 - 1) % 65536

/-- Requests in the order in which the arbiter takes them. -/
def Arbiter.order (b : Arbiter) (as : List Ask) : List Ask :=
  let ins (a : Ask) (l : List Ask) : List Ask :=
    let rec go : List Ask → List Ask
      | [] => [a]
      | x :: xs => if b.place a ≤ b.place x then a :: x :: xs else x :: go xs
    go l
  as.foldr ins []

/-- A request served: the entry at the head of its lane is taken, or the access is made. -/
def State.grantAsk (s : State) (a : Ask) : State :=
  match a.cls with
  | 1 => { s with ev := { s.ev with turn := true } }
  | 2 => s.fqDrain (a.who / 8) (a.who % 8)
  | 4 => s
  | 5 => { s with mbx := { s.mbx with asks := s.mbx.asks - 1 } }
  | 6 => { s with mbx := { s.mbx with spillAsks := s.mbx.spillAsks - 1 } }
  | _ =>
    let g := s.rgn a.who
    let t := s.modRgn a.who fun g => { g with former := { g.former with lane := g.former.lane.drop 1 } }
    match g.former.lane with
    | .record x :: _ => t.record x
    | .summary y :: _ => t.modRgn a.who fun g => { g with sum := some y, sumPrev := g.sum }
    | [] => t

/-- An engine cycle of Oasis: requests are served in their order, and those left over have waited one cycle longer; a region whose
request is left over sees backpressure (R37, R121). The spec gives no number of accesses per engine cycle: it is a free value, 1 at
least (log 54). -/
def State.oasisCycle (s : State) : State :=
  let as := s.xg.arb.order s.asks
  if as.isEmpty then
    { s with xg := { s.xg with arb := { s.xg.arb with wait := [] } }
             reg := s.reg.foldl (fun m e => Map.put Region.reset m e.1 { e.2 with former := { e.2.former with pressed := false } }) [] }
  else
    let (n, s) := s.draw
    let now := as.take (n + 1)
    let left := as.drop (n + 1)
    let b := s.xg.arb
    let s := now.foldl State.grantAsk s
    let unserved (r : RegionNo) : Bool := left.any fun a => decide (a.who = r) && decide (a.cls = 0 ∨ a.cls = 3)
    { s with
      xg := { s.xg with arb := {
        wait := left.foldl (fun m a => Map.put 0 m a.key (Map.get 0 b.wait a.key + 1)) []
        turn := ((now.getLast?).map (·.who)).getD b.turn } }
      reg := s.reg.foldl (fun m e => Map.put Region.reset m e.1 { e.2 with former := { e.2.former with pressed := unserved e.1 } }) [] }

/-- Every state-word crossing whose destination may stand still at this edge of its source (R188, R189). -/
def State.heldEdge (s : State) : State := heldOut.foldl State.present s

/-- One edge: after package epoch the counter counts (R101), a slot begins at a window boundary (R104), the Oasis arbiter serves its
requesters, posts that waited for room are taken, held-word sources present their words, and boot takes its step at a window boundary (Table 13-1). -/
def State.tick (s : State) : State :=
  if s.sys.epoch then
    (({ s with sys := { s.sys with erg := (s.sys.erg + 1) % 2 ^ 64 } } : State).slotTurn.oasisCycle.postWaiting.heldEdge).bootTick
  else s

end Sys2Proof.Machine
end

