-- ==== Sys2Proof/WellFormed.lean ====
section
/-! DEFINITION. Well-formed commands: operands that name what the spec's numbering has (00_scope.md R4-R5; 07 R217; 10 R293,
R302). A command that is not well formed spells nothing the block can meet; its meaning leaves the state as it is or, for a
request, answers BAD_ARG. -/
namespace Sys2Proof

/-- Regions of a site (Table 0-4). -/
def regionsOfSite (site : Nat) : Nat :=
  if site ≤ 7 then 224 else if site ≤ 15 then 16 else if site = 16 then 80 else if site ≤ 22 then 8 else 0

/-- A region number valid under R5. -/
def RegionNo.wf (r : RegionNo) : Bool := decide (r % 2048 < regionsOfSite (r / 2048))

/-- A request's payload holds at most 240 bytes (R293), and only MBX7 is reached through the test port (R302). -/
def Req.wf (q : Req) : Bool := decide (q.payload.length ≤ 240) && (!q.test || decide (q.mbx = 7))

/-- Class and reserved bits of a crossing identifier (R217). -/
def crossingWf (id : BitVec 32) : Bool := decide (id.toNat / 2 ^ 18 % 1024 = 0) && decide (1 ≤ id.toNat / 2 ^ 28)

/-- Fuse segments, temperatures, slots and discovery results of the package: 23 sites, 4 side slots with UCIe, 4 and 4 image slots. -/
def BootEnv.wf (e : BootEnv) : Bool :=
  decide (e.fuses.length = 23 ∧ e.found.length = 4 ∧ e.fw.length = 4 ∧ e.config.length = 4 ∧ e.temps.length = 23)

/-- Six period values, as a run returns them (R230). -/
def RunResult.wf (x : RunResult) : Bool := decide (x.periods.length = 6)

/-- Readings of 64 tiles, 4 sensors and 8 rings each (R253-R255). -/
def tilesWf (ts : List TileMeas) : Bool :=
  decide (ts.length = 64) && ts.all fun t => decide (t.elec.length = 4 ∧ t.rings.length = 8)

/-- A spare pair's accepted runs, at least two of each oscillator (R232). -/
def pairRunsWf (a b : List RunResult) : Bool := a.all RunResult.wf && b.all RunResult.wf

/-- A command is well formed. -/
def Instr.wf : Instr → Bool
  | .pkgResetNRelease e => e.wf
  | .regionsOwnReset rs => rs.all RegionNo.wf
  | .localResetExit id _ => crossingWf id
  | .mbx7Req bs => decide (bs.length ≤ 256)
  | .requestBufferWrite _ off bs => decide (bs.length = 4 ∨ bs.length = 8) && decide (off % bs.length = 0 ∧ off + bs.length ≤ 256)
  | .registerWrite _ a _ => decide (a.toNat % 4 = 0)
  | .clearRgnEvcnt r => r.wf
  | .clearRgnStretchCnt r => r.wf
  | .opSuspend q => q.wf
  | .opResume q => q.wf
  | .opCancel q => q.wf
  | .opQuery q => q.wf
  | .opWrite q => q.wf
  | .mbxSpillRead q => q.wf
  | .mbxSpillFree q => q.wf
  | .regionSetPeriod q => q.wf
  | .regionQuery q => q.wf
  | .regionReadField q => q.wf
  | .regionWriteField q => q.wf
  | .forecastPost q => q.wf
  | .hawkmothSetMode q => q.wf
  | .hawkmothQuery q => q.wf
  | .hawkmothReadField q => q.wf
  | .hawkmothWriteField q => q.wf
  | .modelLoad q => q.wf
  | .modelUnload q => q.wf
  | .ergRead q => q.wf
  | .ergReadField q => q.wf
  | .ergWriteField q => q.wf
  | .anchorAdd q => q.wf
  | .anchorRemove q => q.wf
  | .anchorQuery q => q.wf
  | .anchorConvert q => q.wf
  | .ledgerRead q => q.wf
  | .routeQuery q => q.wf
  | .spareInsert q => q.wf
  | .opticRecal q => q.wf
  | .opticReadField q => q.wf
  | .opticWriteField q => q.wf
  | .synthQuery q => q.wf
  | .synthSetMode q => q.wf
  | .synthReadField q => q.wf
  | .synthWriteField q => q.wf
  | .crossQuery q => q.wf
  | .crossReset q => q.wf
  | .crossRelease q => q.wf
  | .pairRecal q => q.wf
  | .crossReadField q => q.wf
  | .crossWriteField q => q.wf
  | .calRun q => q.wf
  | .selftestRun q => q.wf
  | .calQuery q => q.wf
  | .calSetRead q => q.wf
  | .calReadField q => q.wf
  | .calWriteField q => q.wf
  | .senseQuery q => q.wf
  | .thermQuery q => q.wf
  | .plantPost q => q.wf
  | .wearQuery q => q.wf
  | .wearExport q => q.wf
  | .wearImport q => q.wf
  | .senseReadField q => q.wf
  | .senseWriteField q => q.wf
  | .configQuery q => q.wf
  | .overlayApply q => q.wf
  | .overlayWithdraw q => q.wf
  | .modeSet q => q.wf
  | .fwUpdate q => q.wf
  | .spanQuery q => q.wf
  | .spanPeerAdd q => q.wf
  | .spanPeerRemove q => q.wf
  | .spanKeySet q => q.wf
  | .hostOffsetPost q => q.wf
  | .spanReadField q => q.wf
  | .spanWriteField q => q.wf
  | .eventRead q => q.wf
  | .dieQuery q => q.wf
  | .debugRead q => q.wf
  | .debugWrite q => q.wf
  | .ctrlHalt q => q.wf
  | .ctrlResume q => q.wf
  | .ctrlRestart q => q.wf
  | .siroccoReadField q => q.wf
  | .siroccoWriteField q => q.wf
  | .regionPeriodEnd r _ _ _ => r.wf
  | .stretchLoopStep r => r.wf
  | .stretchNoticeReceive r _ => r.wf
  | .regionWindowBoundary r _ => r.wf
  | .periodCodeLatch r => r.wf
  | .freqStopBegin r => r.wf
  | .freqStopRestart r _ _ => r.wf
  | .retuneFail r => r.wf
  | .channelEdgeTimeout r => r.wf
  | .directTakeoverRestart r _ _ => r.wf
  | .regionDead r => r.wf
  | .twinReloadLocked r => r.wf
  | .plannedSwapRequest r _ => r.wf
  | .swapHandover r => r.wf
  | .swapWaitTimeout r => r.wf
  | .districtSpareInsert r a b _ => r.wf && pairRunsWf a b
  | .plannedDistrictSpare r a b => r.wf && pairRunsWf a b
  | .planCapture r => r.wf
  | .voidReceive r => r.wf
  | .replicaSlotCheck r _ _ => r.wf
  | .signOfLife r => r.wf
  | .anchorCapture r => r.wf
  | .ledgerLoss r => r.wf
  | .flywheelExpiry r => r.wf
  | .crossStall id => crossingWf id
  | .crossTear id => crossingWf id
  | .jointReset id => crossingWf id
  | .fenceRelease (.region r) _ => r.wf
  | .pairSlot r _ _ => r.wf
  | .realignWinExpiry r _ => r.wf
  | .targetNotice r _ => r.wf
  | .stopNotice r _ => r.wf
  | .restartNotice r _ => r.wf
  | .pairCalibrationDone r _ _ => r.wf
  | .calRunComplete r _ (.full x) => r.wf && x.wf
  | .calRunComplete r _ (.reduced _) => r.wf
  | .suspectHoldoffExpiry r => r.wf
  | .calVoidRetryExpiry r => r.wf
  | .calGapTimeout r => r.wf
  | .selftestDue r => r.wf
  | .selftestComplete r _ _ _ => r.wf
  | .sensorFault r _ => r.wf
  | .sensorRecovered r _ => r.wf
  | .ringPeriod ts => tilesWf ts
  | .insvcMeasurementDone t _ => decide (t.index ≤ 6)
  | _ => true

end Sys2Proof
end

