-- ==== Sys2Proof/Safety.lean ====
section
/-! DEFINITION. The terms that claims use: a step that answers a next state, the groups of state that a command may change, and
a request that its mailbox takes and serves. -/
namespace Sys2Proof.Safety

open Sys2Proof.Machine

/-- The outcome of a step or of a command is a next state. -/
def Answers (o : Host.Outcome State Fault Refusal) : Prop := ∃ t, o = .next t

/-- Every command that waits runs without a stop: the spec names none, every limit has an outcome of its own (R407). -/
def SafeStep (s : State) : Prop := Answers (step s)

/-- The groups of state, one for each field of State. -/
inductive Group where
  | pending | fresh | sys | ctl | mbx | reg | hm | et | opt | ls | xg | cal | sns | cfg | sp | die | ev | tap
  deriving DecidableEq, Repr

/-- A group is the same in two states. -/
@[reducible] def Group.same (g : Group) (s t : State) : Prop :=
  match g with
  | .pending => t.pending = s.pending
  | .fresh => t.fresh = s.fresh
  | .sys => t.sys = s.sys
  | .ctl => t.ctl = s.ctl
  | .mbx => t.mbx = s.mbx
  | .reg => t.reg = s.reg
  | .hm => t.hm = s.hm
  | .et => t.et = s.et
  | .opt => t.opt = s.opt
  | .ls => t.ls = s.ls
  | .xg => t.xg = s.xg
  | .cal => t.cal = s.cal
  | .sns => t.sns = s.sns
  | .cfg => t.cfg = s.cfg
  | .sp => t.sp = s.sp
  | .die => t.die = s.die
  | .ev => t.ev = s.ev
  | .tap => t.tap = s.tap

/-- Outside the listed groups, the second state is the first. -/
structure Only (gs : List Group) (s t : State) : Prop where
  same : ∀ g : Group, g ∉ gs → g.same s t

/-- What holds of every state that the block can be in, and that no command breaks: the hold cause is 0 or one of R29's; the
counter is 64 bits and stands before epoch; the queue, the log, the forecast queue and the frame ring keep their sizes
(R414, R415, R80, R266); the ledger's pointer stays in its ring (R118); and every sparse table is in its one canonical form. -/
structure Regular (s : State) : Prop where
  hold : s.sys.hold ≤ 5
  erg : s.sys.erg < 2 ^ 64
  still : s.sys.epoch = false → s.sys.erg = 0
  queue : s.ev.queue.length ≤ 64
  log : s.ev.log.length ≤ 16384
  forecasts : s.hm.queue.length ≤ 4096
  frames : s.sns.frames.length ≤ 170
  wptr : s.et.wptr < 98304
  regions : Map.wf Region.reset s.reg = true
  crossings : Map.wf ({} : Xing) s.xg.x = true
  lanes : Map.wf ({} : Lane) s.xg.lane = true
  anchors : Map.wf ({} : Anchor) s.et.anchors = true
  ring : Map.wf none s.et.ring = true
  terms : Map.wf none s.opt.terms = true

/-! ### Requests -/

/-- The mailbox as a command meets it: its request captured, WORKING, SRC telling the path (R295, R302). -/
def posted (s : State) (op : Nat) (q : Req) : State :=
  s.modBox q.mbx fun b => { b with
    req := trim (q.encode op), st := .working, src := decide (q.mbx = 7) && q.test, wait := none }

/-- The mailbox's journal holds this request, from the same path, with its response: a RING replays it (R300). -/
def replays (s : State) (op : Nat) (q : Req) : Bool :=
  match (s.box q.mbx).journal with
  | some ⟨req, _, test, false⟩ => decide (req = trim (q.encode op)) && decide (test = (decide (q.mbx = 7) && q.test))
  | _ => false

/-- The request reaches a mailbox that takes one: out of reset, by a path that leads there, IDLE or RESPONDED (R20, R295, R302). -/
def reachesFree (s : State) (q : Req) : Bool :=
  q.wf && s.reaches q.mbx q.test && decide ((s.box q.mbx).st = .idle ∨ (s.box q.mbx).st = .responded)

/-- The request passes the checks that R296 lists before the command's own. -/
def passes (s : State) (op : Nat) (q : Req) : Bool := (checkRequest (posted s op q) (q.encode op) q).isNone

/-- Firmware serves the request: it reaches a free mailbox, no hold is in force, it is no replay, and it passes the checks. -/
def ready (s : State) (op : Nat) (q : Req) : Bool :=
  reachesFree s q && s.fw && !replays s op q && passes s op q && !(decide (q.mbx = 7) && isDebugOp op)

/-- A debug command on MBX7 is served, whatever the controllers do, unless the journal replays it (R300, R303). -/
def readyDebug (s : State) (op : Nat) (q : Req) : Bool :=
  reachesFree s q && decide (q.mbx = 7) && isDebugOp op && !replays s op q && passes s op q

/-- How a command's result ends on its mailbox: answered and journaled, or waiting under its own rule (R299, R318). -/
def finish (q : Req) : Result → State
  | .done r t => t.answer q.mbx r
  | .wait w t => t.modBox q.mbx fun b => { b with wait := some w }

/-- A register access command: its opcode, its block of Table 11-2, and its command. -/
structure FieldCmd where
  op    : Nat
  block : Nat
  cmd   : Req → Instr

/-- The ten _READ_FIELD commands (R321). -/
def fieldReads : List FieldCmd :=
  [⟨0x0203, 1, .regionReadField⟩, ⟨0x0306, 2, .hawkmothReadField⟩, ⟨0x0407, 3, .ergReadField⟩, ⟨0x0504, 4, .opticReadField⟩,
   ⟨0x0603, 5, .synthReadField⟩, ⟨0x0705, 6, .crossReadField⟩, ⟨0x0805, 7, .calReadField⟩, ⟨0x0907, 8, .senseReadField⟩,
   ⟨0x0C03, 9, .siroccoReadField⟩, ⟨0x0B06, 10, .spanReadField⟩]

/-- The ten _WRITE_FIELD commands (R321). -/
def fieldWrites : List FieldCmd :=
  [⟨0x0204, 1, .regionWriteField⟩, ⟨0x0307, 2, .hawkmothWriteField⟩, ⟨0x0408, 3, .ergWriteField⟩, ⟨0x0505, 4, .opticWriteField⟩,
   ⟨0x0604, 5, .synthWriteField⟩, ⟨0x0706, 6, .crossWriteField⟩, ⟨0x0806, 7, .calWriteField⟩, ⟨0x0908, 8, .senseWriteField⟩,
   ⟨0x0C04, 9, .siroccoWriteField⟩, ⟨0x0B07, 10, .spanWriteField⟩]

/-- OFFSET of a register access request. -/
def fieldOff (q : Req) : Nat := q.le 0 4

/-- COUNT of a register access request. -/
def fieldCount (q : Req) : Nat := q.le 4 2

/-- Word i that a _WRITE_FIELD carries. -/
def fieldVal (q : Req) (i : Nat) : Word := word (q.le (8 + 4 * i) 4)

/-- OFFSET and COUNT name whole words of a block, as many as one request carries (R321). -/
def fieldFits (block most : Nat) (q : Req) : Prop :=
  fieldOff q % 4 = 0 ∧ 1 ≤ fieldCount q ∧ fieldCount q ≤ most ∧ ∃ e, blockEnd block = some e ∧ fieldOff q + 4 * fieldCount q ≤ e + 1

/-! ### Groups of the commands -/

/-- The groups of state that a command may change. Every other group, the queue among them, it leaves as it is. -/
def writes : Instr → List Group
  | .pkgResetNAssert => [.sys, .ctl, .mbx, .reg, .hm, .et, .opt, .ls, .xg, .cal, .sns, .cfg, .sp, .die, .ev, .tap]
  | .pkgResetNRelease _ => [.fresh, .sys, .sp]
  | .basePllLock => [.sys, .mbx, .reg, .et, .opt, .ls, .xg, .die, .ev]
  | .basePllLockTimeout => [.sys, .mbx]
  | .bootOverrun => [.sys, .mbx, .ev]
  | .xtalLoss | .xtalRestored => [.et, .ev]
  | .diePowerLoss _ => [.sys, .ctl, .mbx, .reg, .hm, .et, .opt, .ls, .xg, .cal, .sns, .cfg, .sp, .die, .ev, .tap]
  | .dieOwnReset _ => [.sys, .mbx, .reg, .et, .ls, .xg, .die, .ev]
  | .regionsOwnReset _ => [.sys, .mbx, .reg, .et, .ls, .xg, .ev]
  | .localResetExit _ _ => [.reg, .ls, .xg]
  | .trstN => [.reg, .ls, .xg, .tap]
  | .extest _ | .samplePreload _ | .idcode | .bypass _ => [.tap]
  | .mbx7Req _ => [.mbx, .tap]
  | .mbx7Rsp => [.tap]
  | .mbx7Ctl _ => [.fresh, .sys, .ctl, .mbx, .reg, .hm, .et, .opt, .ls, .xg, .cal, .sns, .cfg, .sp, .die, .ev, .tap]
  | .requestBufferWrite _ _ _ => [.mbx]
  | .ring _ => [.fresh, .sys, .ctl, .mbx, .reg, .hm, .et, .opt, .ls, .xg, .cal, .sns, .cfg, .sp, .die, .ev]
  | .ack _ | .clearErr _ | .mbErgLoRead | .mbErgHiRead => [.mbx]
  | .registerWrite _ _ _ => [.sys, .ctl, .mbx, .reg, .hm, .et, .opt, .ls, .xg, .cal, .sns, .sp, .ev]
  | .mbSnsBudgetWrite _ => [.sns]
  | .mbLsEnWrite _ _ _ => [.ls, .ev]
  | .pinHalfWrite _ _ => [.ls]
  | .clearRgnEvcnt _ | .clearRgnStretchCnt _ => [.reg]
  | .clearHmCounters => [.hm]
  | .clearErgCounters => [.et]
  | .clearOptCounters => [.opt]
  | .clearLsCounters => [.ls]
  | .clearXingCounters | .clearXingDrop => [.xg]
  | .clearCalCounters => [.cal]
  | .clearSnsCounters => [.sns]
  | .clearSpanCounters => [.sp]
  | .clearCtlCounters => [.ctl]
  | .opSuspend _ => [.mbx]
  | .opResume _ => [.mbx, .hm, .cfg]
  | .opCancel _ => [.sys, .mbx, .reg, .hm, .opt, .ls, .xg, .cal, .cfg]
  | .opQuery _ => [.mbx]
  | .opWrite _ => [.mbx, .hm, .cfg]
  | .mbxSpillRead _ | .mbxSpillFree _ => [.mbx]
  | .regionSetPeriod _ => [.mbx, .reg, .ev]
  | .regionQuery _ | .regionReadField _ => [.mbx]
  | .regionWriteField _ => [.sys, .ctl, .mbx, .reg, .hm, .et, .opt, .ls, .xg, .cal, .sns, .sp, .ev]
  | .forecastPost _ | .hawkmothSetMode _ => [.mbx, .hm]
  | .hawkmothQuery _ | .hawkmothReadField _ => [.mbx]
  | .hawkmothWriteField _ => [.sys, .ctl, .mbx, .reg, .hm, .et, .opt, .ls, .xg, .cal, .sns, .sp, .ev]
  | .modelLoad _ | .modelUnload _ => [.mbx, .hm]
  | .ergRead _ | .ergReadField _ => [.mbx]
  | .ergWriteField _ => [.sys, .ctl, .mbx, .reg, .hm, .et, .opt, .ls, .xg, .cal, .sns, .sp, .ev]
  | .anchorAdd _ | .anchorRemove _ => [.mbx, .reg, .et]
  | .anchorQuery _ | .anchorConvert _ => [.mbx, .et]
  | .ledgerRead _ | .routeQuery _ => [.mbx]
  | .spareInsert _ => [.mbx, .opt]
  | .opticRecal _ | .opticReadField _ => [.mbx]
  | .opticWriteField _ => [.sys, .ctl, .mbx, .reg, .hm, .et, .opt, .ls, .xg, .cal, .sns, .sp, .ev]
  | .synthQuery _ => [.mbx]
  | .synthSetMode _ => [.mbx, .ls, .ev]
  | .synthReadField _ => [.mbx]
  | .synthWriteField _ => [.sys, .ctl, .mbx, .reg, .hm, .et, .opt, .ls, .xg, .cal, .sns, .sp, .ev]
  | .crossQuery _ => [.mbx]
  | .crossReset _ => [.ctl, .mbx, .reg, .ls, .xg, .ev]
  | .crossRelease _ | .pairRecal _ => [.mbx, .xg]
  | .crossReadField _ => [.mbx]
  | .crossWriteField _ => [.sys, .ctl, .mbx, .reg, .hm, .et, .opt, .ls, .xg, .cal, .sns, .sp, .ev]
  | .calRun _ | .selftestRun _ => [.mbx, .reg, .cal]
  | .calQuery _ | .calSetRead _ | .calReadField _ => [.mbx]
  | .calWriteField _ => [.sys, .ctl, .mbx, .reg, .hm, .et, .opt, .ls, .xg, .cal, .sns, .sp, .ev]
  | .senseQuery _ | .thermQuery _ => [.mbx]
  | .plantPost _ => [.mbx, .sns, .ev]
  | .wearQuery _ => [.mbx]
  | .wearExport _ => [.fresh, .mbx]
  | .wearImport _ => [.mbx, .reg, .opt, .sns, .ev]
  | .senseReadField _ => [.mbx]
  | .senseWriteField _ => [.sys, .ctl, .mbx, .reg, .hm, .et, .opt, .ls, .xg, .cal, .sns, .sp, .ev]
  | .configQuery _ => [.mbx]
  | .overlayApply _ | .overlayWithdraw _ | .modeSet _ | .fwUpdate _ => [.mbx, .cfg]
  | .spanQuery _ => [.mbx]
  | .spanPeerAdd _ | .spanPeerRemove _ => [.mbx, .et, .sp]
  | .spanKeySet _ => [.mbx, .sp]
  | .hostOffsetPost _ => [.mbx, .et, .sp, .ev]
  | .spanReadField _ => [.mbx]
  | .spanWriteField _ => [.sys, .ctl, .mbx, .reg, .hm, .et, .opt, .ls, .xg, .cal, .sns, .sp, .ev]
  | .eventRead _ | .dieQuery _ => [.mbx]
  | .debugRead _ => [.fresh, .sys, .ctl, .mbx, .reg, .hm, .et, .opt, .ls, .xg, .cal, .sns, .cfg, .die, .ev]
  | .debugWrite _ => [.sys, .ctl, .mbx, .reg, .hm, .et, .opt, .ls, .xg, .cal, .sns, .cfg, .sp, .ev]
  | .ctrlHalt _ => [.sys, .ctl, .mbx, .reg, .hm, .et, .xg, .cal, .sns, .cfg, .die, .ev]
  | .ctrlResume _ => [.ctl, .mbx]
  | .ctrlRestart _ => [.ctl, .mbx, .reg, .ls, .xg]
  | .siroccoReadField _ => [.mbx]
  | .siroccoWriteField _ => [.sys, .ctl, .mbx, .reg, .hm, .et, .opt, .ls, .xg, .cal, .sns, .sp, .ev]
  | .controllerFault _ _ => [.sys, .ctl, .mbx, .reg, .hm, .et, .xg, .cal, .sns, .cfg, .die, .ev]
  | .holdRequest => [.sys, .mbx, .reg, .hm, .et, .xg, .cal, .sns, .cfg, .die, .ev]
  | .holdRelease => [.sys, .ctl]
  | .holdExit => [.sys, .ctl, .mbx, .cfg, .ev]
  | .holdOverrun => [.sys, .mbx, .ev]
  | .controllerReloadDone _ => [.sys, .ctl, .mbx, .reg, .cal, .ev]
  | .controllerReloadTimeout _ => [.sys, .ctl, .mbx, .ev]
  | .reloadSourceLost _ | .controllerHeartbeat _ => [.ctl]
  | .imageVerified _ _ _ => [.sys, .ctl, .mbx, .reg, .hm, .opt, .cal, .cfg, .ev]
  | .oasisScrub _ _ => [.ctl]
  | .oasisRowSpare _ => [.ctl, .ev]
  | .oasisUe _ => [.fresh, .sys, .ctl, .mbx, .reg, .hm, .et, .opt, .ls, .xg, .cal, .sns, .cfg, .die, .ev]
  | .handleExpired _ => [.mbx, .ev]
  | .opWriteTimeout _ => [.mbx, .hm, .cfg]
  | .longOpDone _ => [.mbx]
  | .regionPeriodEnd _ _ _ _ | .stretchLoopStep _ => [.reg, .et, .xg, .ev]
  | .stretchNoticeReceive _ _ => [.reg, .xg]
  | .regionWindowBoundary _ _ => [.sys, .reg, .et, .xg, .ev]
  | .periodCodeLatch _ => [.mbx, .reg, .xg]
  | .freqStopBegin _ | .freqStopRestart _ _ _ | .retuneFail _ => [.reg, .et, .xg, .ev]
  | .channelEdgeTimeout _ => [.mbx, .reg, .et, .ls, .xg, .cal, .ev]
  | .directTakeoverRestart _ _ _ => [.mbx, .reg, .et, .xg, .cal, .ev]
  | .regionDead _ => [.mbx, .reg, .et, .ls, .xg, .cal, .ev]
  | .twinReloadLocked _ | .plannedSwapRequest _ _ => [.mbx, .reg, .cal]
  | .swapHandover _ => [.reg, .cal, .ev]
  | .swapWaitTimeout _ => [.mbx, .reg, .cal]
  | .districtSpareInsert _ _ _ _ => [.sys, .ctl, .mbx, .reg, .et, .opt, .ls, .xg, .cal, .ev]
  | .plannedDistrictSpare _ _ _ => [.mbx, .reg, .opt, .cal, .ev]
  | .evaluationStart _ => [.sys, .mbx, .reg, .hm, .cal, .sns, .cfg, .ev]
  | .planFlip => [.reg, .hm]
  | .evaluationOverrun _ => [.hm, .ev]
  | .columnTest _ => [.sys, .hm, .ev]
  | .columnSpareMap => [.hm, .ev]
  | .planCapture _ | .voidReceive _ => [.reg]
  | .forecastPortWrite _ _ => [.hm, .xg]
  | .forecastMerge => [.hm]
  | .forecastStale _ => []
  | .modelActivate _ => [.mbx, .hm]
  | .replicaSlotCheck _ _ _ => [.reg, .et, .ev]
  | .heartbeatCheck => [.sys, .mbx, .reg, .et, .opt, .ls, .xg, .cal, .die, .ev]
  | .dieLostLong _ => [.sys, .mbx, .die, .ev]
  | .signOfLife _ => [.reg]
  | .rejoin _ _ _ _ => [.sys, .ctl, .mbx, .reg, .opt, .ls, .xg, .cal, .die, .ev]
  | .rejoinStep2Timeout _ => [.sys, .mbx, .reg, .ls, .xg, .die, .ev]
  | .ergWindowDiscipline => [.et, .xg, .sp]
  | .rackAdoptIdle => [.et]
  | .anchorCapture _ => [.mbx, .reg, .et, .xg, .ev]
  | .anchorFold => [.et]
  | .ledgerPressure => [.et, .ev]
  | .ledgerLoss _ => [.reg]
  | .conversionSettled _ => [.mbx, .reg, .et]
  | .landingFault _ _ _ _ | .wavelengthFault _ _ _ | .groupFault _ _ => [.mbx, .reg, .opt, .ls, .ev]
  | .continuityCheck _ _ _ | .landingWarnTimeout _ _ _ _ | .landingCrcDegrade _ _ => [.mbx, .opt]
  | .spareCarrierLoss _ _ => [.opt, .ev]
  | .carrierRecovered _ _ _ => [.opt]
  | .flywheelExpiry _ => [.reg]
  | .landingInsert _ _ _ _ _ | .groupInsert _ _ _ _ | .wavelengthInsert _ | .borrowPermanent _ _ _ |
    .siteBackup _ => [.mbx, .reg, .opt, .ls, .ev]
  | .siteOptical _ => [.reg, .opt, .ls, .ev]
  | .siteIsolated _ _ => [.sys, .mbx, .reg, .et, .opt, .ls, .xg, .cal, .die, .ev]
  | .insvcRecal _ _ => [.opt]
  | .insvcMeasurementDone _ _ => [.mbx, .opt]
  | .delaySlew => [.opt]
  | .laneRemeasure _ _ => [.opt, .xg]
  | .synthRide _ => [.ls]
  | .rideTimeout _ => [.ls, .ev]
  | .renegotiateHalf _ | .rateAck _ => [.ls]
  | .portStateChange _ _ => [.sys, .mbx, .opt, .ls, .ev]
  | .clkGrantTimeout _ => [.ls]
  | .renegTimeout _ => [.ls, .ev]
  | .renegotiateFull _ => [.ls]
  | .synthRelockDone _ _ _ | .synthFail _ _ => [.sys, .mbx, .opt, .ls, .ev]
  | .synthJitterMeasure _ _ => [.mbx, .opt, .ls, .ev]
  | .synthInsert _ | .quiesceTimeout _ => [.sys, .mbx, .opt, .ls, .ev]
  | .crossStall _ => [.reg, .ls, .xg, .ev]
  | .crossTear _ => [.xg, .ev]
  | .jointReset _ => [.sys, .ctl, .mbx, .reg, .ls, .xg, .cal, .sns, .cfg, .ev]
  | .fenceRelease _ _ => [.ctl, .mbx, .reg, .ls, .xg, .ev]
  | .pairSlot _ _ _ => [.xg, .ev]
  | .realignWinExpiry _ _ | .targetNotice _ _ | .stopNotice _ _ | .restartNotice _ _ => [.xg]
  | .pairCalibrationDone _ _ _ => [.ctl, .mbx, .reg, .opt, .ls, .xg, .cal, .ev]
  | .spanSymbolLock _ => [.et, .sp]
  | .spanLockLoss _ => [.ctl, .reg, .et, .ls, .xg, .sp]
  | .announce _ _ => [.et, .sp, .ev]
  | .probe _ _ => [.fresh, .et, .sp]
  | .reply _ _ => [.et, .sp, .ev]
  | .announceTransmit _ => [.et, .sp]
  | .probeTransmit _ => [.sp]
  | .peerAnnounceTimeout _ | .quarantineExpiry _ => [.et, .sp]
  | .previousKeyExpiry _ => [.sp]
  | .measurementDeferred _ => [.sp, .ev]
  | .hostOutOfUse => [.et, .sp]
  | .ucieDiscovery _ _ | .discoveryRetry _ _ => [.sys, .mbx, .reg, .opt, .ls, .die, .ev]
  | .foreignDiePoll _ _ | .sidebandLinkDown _ => [.die, .ev]
  | .calDueCheck | .calSlotGrant => [.reg, .cal]
  | .calRunComplete _ _ _ => [.mbx, .reg, .et, .ls, .xg, .cal, .ev]
  | .suspectHoldoffExpiry _ | .calVoidRetryExpiry _ | .gapWindow _ => [.reg]
  | .calGapTimeout _ => [.mbx, .reg, .cal, .ev]
  | .selftestDue _ => [.reg, .cal]
  | .selftestComplete _ _ _ _ => [.mbx, .reg, .et, .ls, .xg, .cal, .ev]
  | .sensorFault _ _ => [.reg, .sns, .ev]
  | .sensorRecovered _ _ => [.reg]
  | .ringPeriod _ => [.fresh, .opt, .sns, .cfg, .ev]
  | .frameEnd => [.fresh, .sys, .mbx, .reg, .opt, .sns, .cfg, .ev]
  | .coolantStale | .budgetStale => [.sns, .ev]
  | .regionFence => [.sys, .ctl, .mbx, .reg, .hm, .et, .opt, .ls, .xg, .cal, .sns, .cfg, .sp, .ev]
  | .configWordLost _ => [.cfg, .ev]
  | .fwUpdateHoldEntry | .fwRollback _ => [.sys, .ctl, .mbx, .reg, .hm, .et, .xg, .cal, .sns, .cfg, .die, .ev]
  | .limpEnter | .severeSustained => [.sys, .cfg]
  | .eventRaise _ _ => [.ev]
  | .eventLogWrite => [.ctl, .ev]
  | .rejectedFrame _ _ _ => [.et, .sp, .ev]
  | .diePowerOn _ => [.mbx, .reg, .et, .xg, .die, .ev]
  | .lossOfLock _ => [.ls]

end Sys2Proof.Safety
end

