-- ==== Sys2Proof/Certificates/Slice0/Obligations.lean ====
section
/-! DEFINITION. The statements for the provers, each formalising rules of the spec that its docstring names. A clause that rests on a
choice of the model's own says so with the number of its log entry. -/
open Sys2Proof Sys2Proof.Machine Sys2Proof.Safety

/-- A step takes the command at the front of the queue and runs it on the state with the queue's rest. -/
def Obligations.StepRunsTheFrontCommand : Prop :=
  ∀ (c : Instr) (s : State), step { s with pending := c :: s.pending } = exec c s

/-- With an empty queue the step is one Erg-domain edge (the model's choice, log 1): before package epoch nothing changes; from it on the
count advances by 1 modulo 2^64 (R101). Between slots, with no post that waits for room and every side of the state-word crossings clocked,
an edge without a request leaves the rest as it is; a lone record lane at the arbiter passes its oldest entry, a record into the ring at the
write pointer (R118, R194), a summary to its region (R96); a window boundary begins a slot with the next boundary's count (R104). The
model's own choices that it rests on: log 1, 54. -/
def Obligations.EmptyQueueIsOneErgEdge : Prop :=
  (∀ s : State, s.pending = [] → s.sys.epoch = false → step s = .next s) ∧
  (∀ s : State, s.pending = [] → s.sys.epoch = true →
    ∃ t, step s = .next t ∧ t.sys.erg = (s.sys.erg + 1) % 2 ^ 64 ∧ t.pending = []) ∧
  (∀ s : State, Regular s → s.pending = [] → s.sys.epoch = true → ((s.sys.erg + 1) % 2 ^ 64) % 256 ≠ 0 →
    (∀ m : Fin 8, (match (s.box m).wait with | some (.forecast _ _ _) => true | _ => false) = false) →
    (∀ id ∈ heldOut, s.xState id = .whole → s.xClocked id = true ∧ (s.xing id).wait = none) →
    (s.asks = [] → ∃ t, step s = .next t ∧ t.sys = { s.sys with erg := (s.sys.erg + 1) % 2 ^ 64 } ∧
      t.xg = { s.xg with arb := { s.xg.arb with wait := [] } } ∧
      (∀ r, t.rgn r = { s.rgn r with former := { (s.rgn r).former with pressed := false } }) ∧ Only [.sys, .reg, .xg] s t) ∧
    (∀ (r : RegionNo) (x : LRec) (l : List LaneEntry), s.asks = [⟨0, r⟩] → (s.rgn r).former.lane = .record x :: l → x.kind ≠ kBase →
      s.ringVictim = none →
      ∃ t, step s = .next t ∧ (t.rgn r).former.lane = l ∧ Map.get none t.et.ring s.et.wptr = some x ∧
        t.et.wptr = (s.et.wptr + 1) % 98304 ∧ (∀ k, k ≠ s.et.wptr → Map.get none t.et.ring k = Map.get none s.et.ring k) ∧
        (∀ r', r' ≠ r → (t.rgn r').former.lane = (s.rgn r').former.lane) ∧ Only [.fresh, .sys, .reg, .et, .xg] s t) ∧
    (∀ (r : RegionNo) (y : Summary) (l : List LaneEntry), s.asks = [⟨3, r⟩] → (s.rgn r).former.lane = .summary y :: l →
      ∃ t, step s = .next t ∧ (t.rgn r).former.lane = l ∧ (t.rgn r).sum = some y ∧ (t.rgn r).sumPrev = (s.rgn r).sum ∧
        (∀ r', r' ≠ r → (t.rgn r').sum = (s.rgn r').sum) ∧ Only [.fresh, .sys, .reg, .xg] s t)) ∧
  (∀ s : State, s.pending = [] → s.sys.epoch = true → ((s.sys.erg + 1) % 2 ^ 64) % 256 = 0 →
    ∃ t, step s = .next t ∧ t.et.prevSlot = s.et.slot ∧
      ∃ flags, t.et.slot = some ⟨BitVec.ofNat 64 ((s.sys.erg + 1) % 2 ^ 64 + 256), flags⟩)

/-- What reset leaves: the reset values of the register tables (R70, R96, R135, R163, R185, R217, R240, R268, R288, R397), and a block that
is held in reset, before package epoch, with its mailboxes IDLE, its handles free and nothing configured. What holds of every state that the
block can be in, the hold cause, the counter, the queues' sizes and the tables' canonical forms among it (Regular in Safety.lean), holds at
reset. The model's own choices that it rests on: log 4. -/
def Obligations.ResetValues : Prop :=
  (∀ r : RegionNo, validRegion r = true → siteOf r ≤ 16 →
    ∀ e ∈ [(0x00, 0x00000107), (0x04, 0x00000200), (0x08, 0x000020F8), (0x0C, 0x8C5A3219), (0x10, 0x0C060301), (0x14, 0x00040210),
        (0x18, 0x00000020), (0x1C, 0x00C83202), (0x20, 0xFFFFFFFF), (0x24, 0xFFFFFFFF), (0x28, 0x00800000), (0x2C, 0x02EE0200),
        (0x30, 0), (0x34, 0)],
      State.reset.fabRead (0x01000000 + r * 64 + e.1) = e.2) ∧
  (∀ e ∈ [(0x02000000, 0x00002004), (0x02000004, 0x01A00000), (0x02000008, 0x0000FF00), (0x02000024, 0x00007F7F),
      (0x03000000, 0x01000404), (0x04000000, 0x03E81003), (0x04000004, 0x0000180C), (0x04000008, 0x0000C004),
      (0x05000000, 0x0A640A03), (0x05000010, 0x000000FF), (0x06000000, 0x00000041), (0x07000000, 0x3C402003),
      (0x07000004, 0x1000003C), (0x08000000, 0x3C0F0003), (0x08000004, 0x6E69645F), (0x08000008, 0x02000120),
      (0x0800000C, 0x02BC03E8), (0x08000014, 0x80000000), (0x0800001C, 0x00000040), (0x09000000, 0x00000403),
      (0x0A000000, 0x067D0507), (0x0A000004, 0x03E807D0), (0x0A000008, 0x000003E8), (0x0A00000C, 0x00000200)],
    State.reset.fabRead e.1 = e.2) ∧
  (∀ i : Fin 23, State.reset.fabRead (0x04000104 + 32 * i.val) = 0x1B120900) ∧
  (∀ i : Fin 64, State.reset.fabRead (0x05000100 + 16 * i.val) = 0x71 ∧ State.reset.fabRead (0x0500010C + 16 * i.val) = 0x80 + i.val) ∧
  (∀ i : Fin 8, State.reset.fabRead (0x0500050C + 16 * i.val) = 0) ∧
  State.reset.windowRead 0x1100 = 0x49000000 ∧ State.reset.windowRead 0x110C = 0x08000000 ∧
  (∀ m : Fin 8, State.reset.box m = {} ∧ State.reset.windowRead (0x1004 + 16 * m.val) = 0 ∧
    State.reset.windowRead (0x1008 + 16 * m.val) = 3) ∧
  (∀ i : Fin 32, State.reset.handle i = {}) ∧
  State.reset.sys.pkgReset = true ∧ State.reset.sys.epoch = false ∧ State.reset.sys.erg = 0 ∧ State.reset.et.wptr = 0 ∧
  State.reset.ev.log = [] ∧ State.reset.pending = [] ∧
  Regular State.reset

/-- And every step keeps it. -/
def Obligations.EveryStepKeepsRegular : Prop :=
  ∀ s t : State, step s = .next t → Regular s → Regular t

/-- No command stops, and each changes only the groups of state that `writes` lists for it: the others, and the queue, stay. -/
def Obligations.EveryCommandAnswersAndKeepsTheOtherGroups : Prop :=
  ∀ (c : Instr) (s : State), ∃ t, exec c s = .next t ∧ Only (writes c) s t

/-- The request a caller writes into a request buffer (Table 10-8) is the request that the mailbox reads from it: every well-formed request
and every opcode survive the 256 bytes. -/
def Obligations.RequestSurvivesItsBuffer : Prop :=
  ∀ (op : Nat) (q : Req), q.wf = true → op < 65536 →
    (q.encode op).length = 256 ∧ le (q.encode op) 0 2 = op ∧ le (q.encode op) 6 2 = q.payload.length ∧
      Req.ofBuffer q.mbx q.test (padTo 256 (trim (q.encode op))) = q

/-- What a request meets at its mailbox. One that firmware can serve runs its command and its result ends on the mailbox (R295, R296, R299);
a debug command on MBX7 is served whatever the controllers do, and commits as every command does (R299, R303); a busy mailbox discards it
with WR_ERR and DB_ERR (R295); in hold the responder answers BUSY (R31); a request that the journal holds gets its response again, without
its effect (R300). A response (Table 10-9, R295, R299): the mailbox reads RESPONDED with the request's sequence number and the status, its
bit of MB_IRQ_STATUS is set, the journal holds request and response, a payload over 240 bytes goes to the spill, and no other mailbox
changes. The model's own choices that it rests on: log 3, 11, 24. -/
def Obligations.WhatARequestMeets : Prop :=
  (∀ (op : Nat) (c : Cmd) (q : Req) (s : State), op < 65536 → ready s op q = true →
    s.submit op c q = finish q (c q (posted s op q))) ∧
  (∀ (op : Nat) (c : Cmd) (q : Req) (s t : State) (r : Reply), op < 65536 → readyDebug s op q = true →
    c q (posted s op q) = .done r t → s.submit op c q = t.answer q.mbx r) ∧
  (∀ (op : Nat) (c : Cmd) (q : Req) (s : State), s.reaches q.mbx q.test = true →
    (s.box q.mbx).st = .posted ∨ (s.box q.mbx).st = .working →
    s.submit op c q = s.modBox q.mbx fun b => { b with wrErr := true, dbErr := true }) ∧
  (∀ (op : Nat) (c : Cmd) (q : Req) (s : State), op < 65536 → reachesFree s q = true → s.fw = false → ¬(q.mbx = 7 ∧ isDebugOp op = true) →
    s.submit op c q = (posted s op q).answerBusy q.mbx) ∧
  (∀ (op : Nat) (c : Cmd) (q : Req) (s : State) (j : Journal), op < 65536 → reachesFree s q = true →
    s.fw = true ∨ (q.mbx = 7 ∧ isDebugOp op = true) → (s.box q.mbx).journal = some j → replays s op q = true →
    s.submit op c q = (posted s op q).deliver q.mbx (setReplayed j.resp) true) ∧
  (∀ (op : Nat) (c : Cmd) (q : Req) (s : State) (r : Reply), op < 65536 → reachesFree s q = true →
    s.fw = true ∨ (q.mbx = 7 ∧ isDebugOp op = true) → replays s op q = false → checkRequest (posted s op q) (q.encode op) q = some r →
    s.submit op c q = (posted s op q).answer q.mbx r) ∧
  (∀ (m : Fin 8) (r : Reply) (s : State), r.status < 256 →
    let b := s.box m
    let t := s.answer m r
    (t.box m).st = .responded ∧ (t.box m).lastSeq.toNat = le b.req 2 2 ∧ (t.box m).lastStatus.toNat = r.status ∧
    (t.box m).replayed = false ∧ (t.box m).wait = none ∧ (t.box m).req = b.req ∧
    (t.box m).resp = trim (respBytes b.req r false false) ∧
    (t.box m).journal = some ⟨trim b.req, trim (respBytes b.req r false false), b.src, decide (240 < r.payload.length)⟩ ∧
    (t.box m).spill = (if 240 < r.payload.length then some (r.payload.take 8192) else b.spill) ∧
    t.mbx.irq = s.mbx.irq ||| word (2 ^ m.val) ∧ (∀ n : Fin 8, n ≠ m → t.box n = s.box n) ∧ Only [.mbx] s t)

/-- Windows (R103): window w begins at Erg time 256w, and package epoch, which the lock of the base PLL begins, is the begin of window 0. -/
def Obligations.WindowsAreNumberedFromEpoch : Prop :=
  (∀ (w : Nat) (s : State), s.win = w ↔ 256 * w ≤ s.now ∧ s.now < 256 * (w + 1)) ∧
  (∀ s : State, s.sys.pkgReset = false → s.sys.epoch = false →
    ∃ t, exec .basePllLock s = .next t ∧ t.sys.epoch = true ∧ t.now = 256 * 0 ∧ t.win = 0)

/-- The base PLL has not locked 100 us after the release of PKG_RESET_N (R385; that the time has run out is what the row says): MLB_FAULT_N
is asserted, boot stands where it stood and goes on at lock, no epoch begins, and before one no event is logged. -/
def Obligations.NoLockNoEpoch : Prop :=
  (∀ s : State, s.sys.pkgReset = false → s.sys.epoch = false →
    ∃ t, exec .basePllLockTimeout s = .next t ∧ t.pins.mlbFault = true ∧ FaultCause.pllLock ∈ t.sys.mlb ∧ t.sys.epoch = false ∧
      t.sys.bootStep = s.sys.bootStep ∧ t.sys = { s.sys with mlb := t.sys.mlb } ∧ Only [.sys, .mbx] s t) ∧
  (∀ s : State, s.sys.pkgReset = false → s.sys.epoch = false →
    ∃ t, exec .basePllLock s = .next t ∧ 2 ≤ t.sys.bootStep ∧ t.sys.epoch = true) ∧
  (∀ s : State, s.pending = [] → s.sys.epoch = false → step s = .next s) ∧
  (∀ (id : BitVec 10) (arg : Word) (s : State), s.sys.epoch = false →
    exec (.eventRaise id arg) s = .next s ∧ exec .eventLogWrite s = .next s)

/-- ANCHOR_CONVERT on an anchor that already has eight conversions in progress (R408) answers BUSY with RETRY_US 8, and nothing but its
mailbox changes. -/
def Obligations.NinthConversionIsBusy : Prop :=
  ∀ (q : Req) (i : Nat) (s : State), ready s 0x0405 q = true → s.anchorOf q.tgt = some i → (s.anchor i).state = 2 → (s.anchor i).busy = 8 →
    (q.u8 0 = 0 ∧ zeroAt q.payload 16 16 = true) ∨ (q.u8 0 = 1 ∧ q.le 8 8 = 0) →
    ∃ t, exec (.anchorConvert q) s = .next t ∧ t = (posted s 0x0405 q).answer q.mbx { status := 0x10, retry := 8 } ∧ Only [.mbx] s t

/-- PKG_RESET_N. Its assertion leaves the state after reset, the model's own two fields apart (R367). Its release starts boot in hold cause
1 with the environment it finds (R368); a release that is none changes nothing. BASE_PLL_LOCK and BOOT_OVERRUN. Lock begins package epoch at
Erg time 0; a hold that has not ended by Erg time 250,000,000 asserts MLB_FAULT_N. The model's own choices that it rests on: log 2, 3, 38.
-/
def Obligations.PackageResetReleaseAndEpoch : Prop :=
  (∀ s : State, exec .pkgResetNAssert s = .next { State.reset with pending := s.pending, fresh := s.fresh }) ∧
  (∀ (env : BootEnv) (s : State), s.sys.pkgReset = true →
    exec (.pkgResetNRelease env) s = .next { s with
      fresh := s.fresh + 1
      sys := { s.sys with pkgReset := false, env := env, hold := 1, bootStep := 0 }
      sp := { s.sp with bootId := Config.bootId s.fresh } }) ∧
  (∀ (env : BootEnv) (s : State), s.sys.pkgReset = false → exec (.pkgResetNRelease env) s = .next s) ∧
  (∀ s : State, s.sys.pkgReset = false → s.sys.epoch = false →
    ∃ t, exec .basePllLock s = .next t ∧ t.sys.epoch = true ∧ t.sys.erg = 0 ∧ t.sys.sideOut = true ∧
      t.sys.hold = s.sys.hold ∧ FaultCause.pllLock ∉ t.sys.mlb ∧
      t.sys.bootStep = (if (t.dieAt 16).st = .census then 4 else 2) ∧
      Only [.sys, .mbx, .reg, .et, .opt, .ls, .xg, .die, .ev] s t) ∧
  (∀ s : State, s.sys.epoch = true → s.sys.hold ≠ 0 → s.sys.bootedAt = none → 250000000 ≤ s.sys.erg →
    FaultCause.bootOverrun ∉ s.sys.mlb →
    ∃ t, exec .bootOverrun s = .next t ∧ t.sys = { s.sys with mlb := s.sys.mlb ++ [.bootOverrun] } ∧
      t.ev = (if s.active.isSome then (s.raise evBootOverrun 0).ev else s.ev) ∧ Only [.sys, .mbx, .ev] s t)

/-- A die's supply. Lost, its regions' parts stop and hold no droop warning; Chrounyar's takes the package with it (R365, R378). Returned,
every region part comes up out of its reset with its oscillators at code 512 and its cycle count at 0 (Table 13-4). Resets of a die's own
(R211, R378, Table 13-4): the die's regions, or the named ones, are held in reset with their stretch loops IDLE and their cycle counts at 0,
and no such region holds the droop warning. A side that leaves a reset and finds the other epoch bit on the far side tears its crossing
(R212). The model's own choices that it rests on: log 40, 64. -/
def Obligations.DieSupplyAndOwnResets : Prop :=
  (∀ (site : Site) (s : State), site.val ≠ 16 → s.hasDie site = true → (s.dieAt site).unpowered = false →
    ∃ t, exec (.diePowerLoss site) s = .next t ∧ (t.dieAt site).unpowered = true ∧
      (∀ i, i ≠ site.val → t.dieAt i = s.dieAt i) ∧ (∀ r, siteOf r = site.val → r ∉ t.sys.droop) ∧
      Only [.sys, .die, .reg] s t) ∧
  (∀ s : State, exec (.diePowerLoss 16) s = .next { State.reset with pending := s.pending, fresh := s.fresh }) ∧
  (∀ (site : Site) (s : State), Regular s → (s.dieAt site).unpowered = true →
    ∃ t, exec (.diePowerOn site) s = .next t ∧ (t.dieAt site).unpowered = false ∧
      (∀ i, i ≠ site.val → t.dieAt i = s.dieAt i) ∧
      (∀ r ∈ siteRegions site, (t.rgn r).nominal = 512 ∧ (t.rgn r).cycle = 0 ∧ (t.rgn r).inReset = false) ∧
      Only [.mbx, .reg, .et, .xg, .die, .ev] s t) ∧
  (∀ (site : Site) (s : State), Regular s → site.val ≠ 16 → s.hasDie site = true →
    ∃ t, exec (.dieOwnReset site) s = .next t ∧
      (∀ r ∈ siteRegions site, (t.rgn r).inReset = true ∧ (t.rgn r).cycle = 0 ∧ (t.rgn r).sl = {} ∧ r ∉ t.sys.droop) ∧
      (∀ i, i ≠ site.val → t.dieAt i = s.dieAt i) ∧ Only [.sys, .mbx, .reg, .et, .ls, .xg, .die, .ev] s t) ∧
  (∀ (rs : List RegionNo) (s : State), Regular s →
    ∃ t, exec (.regionsOwnReset rs) s = .next t ∧
      (∀ r ∈ rs, s.regionExists r = true → s.hasDie (siteOf r) = true →
        (t.rgn r).inReset = true ∧ (t.rgn r).cycle = 0 ∧ (t.rgn r).sl = {} ∧ r ∉ t.sys.droop) ∧
      Only [.sys, .mbx, .reg, .et, .ls, .xg, .ev] s t) ∧
  (∀ (id : Word) (second : Bool) (s : State), Regular s → s.xExists id.toNat = true → xClass id.toNat ≠ 9 →
    ∃ t, exec (.localResetExit id second) s = .next t ∧
      (t.xing id.toNat).st = (if (s.xing id.toNat).st ≠ .fenced ∧ (s.xing id.toNat).e1 ≠ (s.xing id.toNat).e2 then .torn
        else (s.xing id.toNat).st) ∧
      (t.xing id.toNat).e1 = (s.xing id.toNat).e1 ∧ (t.xing id.toNat).e2 = (s.xing id.toNat).e2 ∧
      Only [.reg, .ls, .xg] s t)

/-- The test access port (R404, Table 14-11). EXTEST and SAMPLE/PRELOAD load the boundary cells, IDCODE and BYPASS capture their registers,
and nothing else changes; TRST_N resets the port and, out of PKG_RESET_N, the test side's two crossings, one-sided: each is TORN (R215). The
model's own choices that it rests on: log 9, 19. -/
def Obligations.TestPort : Prop :=
  (∀ (cells : BoundaryCells) (s : State),
    exec (.extest cells) s = .next { s with tap := { s.tap with ir := 0x00, cells := cells } }) ∧
  (∀ (cells : BoundaryCells) (s : State),
    exec (.samplePreload cells) s = .next { s with tap := { s.tap with ir := 0x01, sampled := s.pins, cells := cells } }) ∧
  (∀ s : State, exec .idcode s = .next { s with tap := { s.tap with ir := 0x02, dr := toLE 4 idcodeValue } }) ∧
  (∀ (code : BitVec 8) (s : State), code.toNat ∉ tapCodes →
    exec (.bypass code) s = .next { s with tap := { s.tap with ir := code, dr := [0] } }) ∧
  (∀ s : State, s.sys.pkgReset = true → exec .trstN s = .next { s with tap := {} }) ∧
  (∀ s : State, s.sys.pkgReset = false → Map.wf {} s.xg.x = true →
    ∃ t, exec .trstN s = .next t ∧ t.tap = {} ∧
      (t.xing (xId 11 0)).e1 = !(s.xing (xId 11 0)).e1 ∧ (t.xing (xId 11 1)).e2 = !(s.xing (xId 11 1)).e2 ∧
      (∀ n, n = 0 ∨ n = 1 → (s.xing (xId 11 n)).st ≠ .fenced → (s.xing (xId 11 n)).e1 = (s.xing (xId 11 n)).e2 →
        (t.xing (xId 11 n)).st = .torn) ∧
      (∀ id, id ≠ xId 11 0 → id ≠ xId 11 1 → t.xing id = s.xing id) ∧ Only [.reg, .ls, .xg, .tap] s t)

/-- Mailbox 7 through the test port (R302, R404). MBX7_REQ fills its request buffer, which a busy mailbox discards with WR_ERR, and loads
the instruction alone where the inbound crossing is not WHOLE (R207, R212). MBX7_RSP captures its response buffer, and MBX7_CTL its status,
as the outbound crossing carries them: the present words while it is WHOLE, those that it carried last otherwise; MBX7_CTL then rings,
acknowledges or clears as its bits say. The model's own choices that it rests on: log 19, 20. -/
def Obligations.MailboxSevenByTheTestPort : Prop :=
  (∀ (bs : Bytes) (s : State), s.sys.pkgReset = false → s.xState (xId 11 0) = .whole →
    ∃ t, exec (.mbx7Req bs) s = .next t ∧ t.tap = { s.tap with ir := 0x20 } ∧
      ((s.box 7).st = .idle ∨ (s.box 7).st = .responded → t.box 7 = { s.box 7 with req := trim (padTo 256 bs) }) ∧
      ((s.box 7).st = .posted ∨ (s.box 7).st = .working → t.box 7 = { s.box 7 with wrErr := true }) ∧
      (∀ m : Fin 8, m ≠ 7 → t.box m = s.box m) ∧ Only [.tap, .mbx] s t) ∧
  (∀ (bs : Bytes) (s : State), s.xState (xId 11 0) ≠ .whole →
    exec (.mbx7Req bs) s = .next { s with tap := { s.tap with ir := 0x20 } }) ∧
  (∀ s : State, s.xState (xId 11 1) = .whole →
    exec .mbx7Rsp s = .next { s with tap := { s.tap with ir := 0x21, dr := padTo 256 (s.box 7).resp } }) ∧
  (∀ s : State, s.xState (xId 11 1) ≠ .whole →
    exec .mbx7Rsp s = .next { s with tap := { s.tap with
      ir := 0x21, dr := (List.range 64).flatMap fun k => toLE 4 (Map.get 0 s.xg.shown (0x20F00 + 4 * k)) } }) ∧
  (∀ (w : Word) (s : State), s.sys.pkgReset = false → s.xState (xId 11 0) = .whole → w = 2 ∨ w = 4 →
    ∃ t, exec (.mbx7Ctl w) s = .next t ∧
      t.tap = { s.tap with
        ir := 0x22, dr := toLE 4 (if s.xState (xId 11 1) = .whole then s.mbxStatus 7 else Map.get 0 s.xg.shown 0x21074) } ∧
      (w = 2 → t.box 7 = if (s.box 7).st = .responded then { s.box 7 with st := .idle } else s.box 7) ∧
      (w = 4 → t.box 7 = { s.box 7 with dbErr := false, wrErr := false }) ∧
      (∀ m : Fin 8, m ≠ 7 → t.box m = s.box m) ∧ Only [.tap, .mbx] s t) ∧
  (∀ (w : Word) (s : State), s.xState (xId 11 0) ≠ .whole →
    exec (.mbx7Ctl w) s = .next { s with tap := { s.tap with
      ir := 0x22, dr := toLE 4 (if s.xState (xId 11 1) = .whole then s.mbxStatus 7 else Map.get 0 s.xg.shown 0x21074) } }) ∧
  (∀ (s : State) (op : Nat) (c : Cmd) (q : Req), command op = some c → q.mbx = 7 → q.test = true →
    (s.box 7).req = trim (q.encode op) → s.xState (xId 11 0) = .whole → s.xState (xId 11 1) = .whole →
    let u := { s with tap := { s.tap with ir := 0x22, dr := toLE 4 (s.mbxStatus 7) } }
    ready u op q = true → exec (.mbx7Ctl 1) s = .next (finish q (c q (posted u op q))))

/-- Request buffers and doorbells through the window (R289, R295): the buffer is written in IDLE or RESPONDED, and a write in POSTED or
WORKING is discarded with WR_ERR; RING serves the request that the buffer holds, or sets DB_ERR in POSTED or WORKING; ACK in RESPONDED leads
to IDLE and is ignored elsewhere; CLEAR_ERR clears both flags. The Erg count through the window (R110, R20, R218). MB_ERG_LO returns bits
[31:0] of a count and latches its upper half. The count is never later than the package's, never more than 20 ns earlier, and never below
what an earlier read gave; within these bounds it is that of region 16:0's replica. MB_ERG_HI returns what was latched, whatever the count
has done since. The model's own choices that it rests on: log 3, 19, 20, 65. -/
def Obligations.DoorbellsAndErgHalves : Prop :=
  (∀ (m : Fin 8) (off : Nat) (bs : Bytes) (s : State), s.reaches m false = true → bs.length = 4 ∨ bs.length = 8 →
    off % bs.length = 0 → off + bs.length ≤ 256 →
    ∃ t, exec (.requestBufferWrite m off bs) s = .next t ∧
      ((s.box m).st = .idle ∨ (s.box m).st = .responded →
        t.box m = { s.box m with req := (t.box m).req } ∧
        ∀ i, i < 256 → (padTo 256 (t.box m).req).getD i 0 =
          if off ≤ i ∧ i < off + bs.length then bs.getD (i - off) 0 else (padTo 256 (s.box m).req).getD i 0) ∧
      ((s.box m).st = .posted ∨ (s.box m).st = .working → t.box m = { s.box m with wrErr := true }) ∧
      (∀ n : Fin 8, n ≠ m → t.box n = s.box n) ∧ Only [.mbx] s t) ∧
  (∀ (s : State) (op : Nat) (c : Cmd) (q : Req), command op = some c → q.test = false →
    (s.box q.mbx).req = trim (q.encode op) → ready s op q = true →
    exec (.ring q.mbx) s = .next (finish q (c q (posted s op q)))) ∧
  (∀ (m : Fin 8) (s : State), s.reaches m false = true → (s.box m).st = .posted ∨ (s.box m).st = .working →
    ∃ t, exec (.ring m) s = .next t ∧ t.box m = { s.box m with dbErr := true } ∧
      (∀ n : Fin 8, n ≠ m → t.box n = s.box n) ∧ Only [.mbx] s t) ∧
  (∀ (m : Fin 8) (s : State), s.reaches m false = true →
    ∃ t, exec (.ack m) s = .next t ∧
      t.box m = (if (s.box m).st = .responded then { s.box m with st := .idle } else s.box m) ∧
      (∀ n : Fin 8, n ≠ m → t.box n = s.box n) ∧ Only [.mbx] s t) ∧
  (∀ (m : Fin 8) (s : State), s.reaches m false = true →
    ∃ t, exec (.clearErr m) s = .next t ∧ t.box m = { s.box m with dbErr := false, wrErr := false } ∧
      (∀ n : Fin 8, n ≠ m → t.box n = s.box n) ∧ Only [.mbx] s t) ∧
  (∀ s : State, s.windowUp = true →
    ∃ (n : Nat) (t : State), exec .mbErgLoRead s = .next t ∧ n ≤ s.sys.erg ∧ s.sys.erg ≤ n + 20 ∧
      (s.mbx.winErg ≤ s.sys.erg → s.mbx.winErg ≤ n) ∧
      (s.mbx.winErg ≤ s.replicaCount (regionNo 16 0) → s.replicaCount (regionNo 16 0) ≤ s.sys.erg →
        s.sys.erg ≤ s.replicaCount (regionNo 16 0) + 20 → n = s.replicaCount (regionNo 16 0)) ∧
      t.mbx.read.toNat = n % 2 ^ 32 ∧ t.mbx.ergHi.toNat = n / 2 ^ 32 % 2 ^ 32 ∧
      t.mbx = { s.mbx with winErg := n, read := t.mbx.read, ergHi := t.mbx.ergHi } ∧ Only [.mbx] s t) ∧
  (∀ s : State, s.windowUp = true →
    exec .mbErgHiRead s = .next { s with mbx := { s.mbx with read := s.mbx.ergHi } })

/-- Register writes (R17, R28, R72, R289). In the window MB_IRQ_STATUS and MB_HANDLE_DONE clear where a 1 is written and MB_IRQ_ENABLE takes
its twelve bits; a word with a reserved bit set is rejected whole. On the fabric a word that its register accepts, as the registers stand
and as the armed fences will leave them, is written, and any other leaves the block as it was. What a region's register holds after an
accepted write: a read of the block gives the value written, a message forwards the word to the region's side where its crossing is whole,
other regions and every other part of the machine stay (R70, R71, R73, R190). Writes with a rule of their own: the power budget (R263,
R264), EN of a synthesizer, which no write clears on a LIVE port without OVERRIDE, nor any while a rate change or an insertion is in
progress (R182, R186), and PIN_HALF (R186). The clear bits: exactly the counters that each register block's table lists go to zero (of an
evaluation in progress, what has been counted so far); those of calibration at the window boundary and those of sensing at the frame end
that follow the write (R249, R275). The model's own choices that it rests on: log 21, 27. -/
def Obligations.RegistersAreWrittenAndCleared : Prop :=
  (∀ (w : Word) (s : State), s.windowUp = true →
    exec (.registerWrite .window 0x1110 w) s =
      .next (if w &&& 0xFFFFF000 = 0 then { s with mbx := { s.mbx with irq := s.mbx.irq &&& ~~~w } } else s) ∧
    exec (.registerWrite .window 0x1114 w) s =
      .next (if w &&& 0xFFFFF000 = 0 then { s with mbx := { s.mbx with irqEn := w } } else s) ∧
    exec (.registerWrite .window 0x1118 w) s = .next { s with mbx := { s.mbx with done := s.mbx.done &&& ~~~w } }) ∧
  (∀ (a w : Word) (x : Reg) (s : State), s.sys.pkgReset = false → a.toNat % 4 = 0 → regAt a.toNat = some x →
    s.acceptsWord a.toNat w = true → s.overlaid.acceptsWord a.toNat w = true →
    exec (.registerWrite .fabric a w) s = .next (s.regWrite x w)) ∧
  (∀ (a w : Word) (s : State), s.acceptsWord a.toNat w = false ∨ s.overlaid.acceptsWord a.toNat w = false →
    exec (.registerWrite .fabric a w) s = .next s) ∧
  (∀ (r : RegionNo) (off : Nat) (a w : Word) (s : State), Regular s → s.sys.pkgReset = false → s.regionExists r = true →
    off ∈ [0x08, 0x0C, 0x10, 0x14, 0x18, 0x1C, 0x20, 0x24] → a.toNat = 0x01000000 + r * 64 + off → s.checkRgn r off w = true →
    s.overlaid.checkRgn r off w = true →
    ∃ t, exec (.registerWrite .fabric a w) s = .next t ∧ t.rgnWord r off = w.toNat ∧
      (∀ o, o ≠ off → t.rgnWord r o = s.rgnWord r o) ∧ (∀ r', r' ≠ r → t.rgn r' = s.rgn r') ∧ Only [.reg] s t) ∧
  (∀ (w : Word) (s : State), s.sys.pkgReset = false → s.checkGlob 8 0x10 w = true →
    ∃ t, exec (.mbSnsBudgetWrite w) s = .next t ∧ fld t.sns.budget.img 15 0 = fld w 15 0 ∧ t.sns.recv = true ∧
      t.sns.budgetAt = some s.sys.erg ∧ t.sns.budgetStale = false ∧
      t.sns = { s.sns with budget := t.sns.budget, recv := true, recvAt := t.sns.recvAt, budgetAt := t.sns.budgetAt, budgetStale := false } ∧
      Only [.sns] s t) ∧
  (∀ (i : Fin 72) (override : Bool) (s : State), (s.synth i).en = true → s.synthBusy i = true →
    exec (.mbLsEnWrite i false override) s = .next s) ∧
  (∀ (i : Fin 72) (override : Bool) (s : State), (s.synth i).en = true → s.portLive i = true → s.synthBusy i = false →
    ∃ t, exec (.mbLsEnWrite i false override) s = .next t ∧ (t.synth i).en = !override ∧
      (override = false → t = s) ∧ (override = true → t.ev = (s.raise evLsForced (s.lsArg i)).ev) ∧ Only [.ls, .ev] s t) ∧
  (∀ (i : Fin 72) (override : Bool) (s : State), (s.synth i).en = true → s.portLive i = false →
    s.synthBusy i = false →
    ∃ t, exec (.mbLsEnWrite i false override) s = .next t ∧ (t.synth i).en = false ∧ (t.synth i).st = .off ∧ Only [.ls] s t) ∧
  (∀ (i : Fin 72) (override : Bool) (s : State),
    ∃ t, exec (.mbLsEnWrite i true override) s = .next t ∧ (t.synth i).en = true ∧ Only [.ls] s t) ∧
  (∀ (i : Fin 72) (s : State),
    exec (.pinHalfWrite i false) s = .next (s.modSynth i fun y => { y with pinHalf := false })) ∧
  (∀ (i : Fin 72) (p : Nat) (s : State), p < 64 → (s.synth i).port = some p → s.serving p = some i.val →
    (s.synth i).half = false → (s.synth i).pinHalf = false → (s.synth i).st = .locked ∨ (s.synth i).st = .ride →
    (s.port p).st ≠ .down → (s.port p).rate ≠ .half →
    ∃ t, exec (.pinHalfWrite i true) s = .next t ∧ t.synth i = { s.synth i with pinHalf := true } ∧
      (∀ j, j ≠ i.val → t.synth j = s.synth j) ∧ (t.port p).rate = .half ∧ (t.port p).reqAt = some s.sys.erg ∧
      (∀ o, o ≠ p → t.port o = s.port o) ∧ Only [.ls] s t) ∧
  (∀ (r : RegionNo) (s : State), s.regionExists r = true →
    exec (.clearRgnEvcnt r) s = .next (s.modRgn r fun g => { g with overCnt := 0, rangeCnt := 0, roEvcnt := 0 })) ∧
  (∀ (r : RegionNo) (s : State), s.regionExists r = true →
    exec (.clearRgnStretchCnt r) s = .next (s.modRgn r fun g => { g with stretchCnt := 0, roStretch := 0 })) ∧
  (∀ s : State,
    exec .clearHmCounters s = .next { s with hm := { s.evalNow.hm with
      accept := 0, merge := 0, reject := 0, stale := 0, sat := 0, faults := 0, overruns := 0 } } ∧
    exec .clearErgCounters s = .next { s with et := { s.et with inexact := 0, loss := 0, fix := 0, full := 0, evict := 0 } } ∧
    (s.cal.clearAt = none → exec .clearCalCounters s = .next { s with cal := { s.cal with clearAt := some s.now } }) ∧
    (s.sns.clearAt = none → exec .clearSnsCounters s = .next { s with sns := { s.sns with clearAt := some s.now } }) ∧
    exec .clearSpanCounters s = .next { s with sp := { s.sp with
      p0 := { s.sp.p0 with accept := 0, authRej := 0, boundRej := 0 }
      p1 := { s.sp.p1 with accept := 0, authRej := 0, boundRej := 0 } } } ∧
    exec .clearCtlCounters s = .next { s with ctl := { s.ctl with ce := 0, ue := 0, spared := 0 } }) ∧
  (∀ (a : Nat) (s : State), s.cal.clearAt = some a → s.now % 256 = 0 → a < s.now →
    ∃ t, exec .calDueCheck s = .next t ∧ t.cal.runs = 0 ∧ t.cal.disagree = 0 ∧ t.cal.void = 0 ∧ t.cal.retired = 0 ∧ t.cal.stFail = 0 ∧
      t.cal.stPass = 0 ∧ t.cal.clearAt = none) ∧
  (∀ s : State, ∃ t, exec .clearOptCounters s = .next t ∧ t.opt.inserts = 0 ∧ t.opt.bridges = 0 ∧
    (∀ i, i < 23 → t.site i = { s.site i with evG := 0, evL := 0 }) ∧
    t.opt = { s.opt with inserts := 0, bridges := 0, site := t.opt.site } ∧ Only [.opt] s t) ∧
  (∀ s : State, ∃ t, exec .clearLsCounters s = .next t ∧ t.ls.rides = 0 ∧ t.ls.inserts = 0 ∧ t.ls.forced = 0 ∧ t.ls.renegs = 0 ∧
    (∀ i, i < 72 → t.synth i = { s.synth i with lol := 0 }) ∧ t.ls.port = s.ls.port ∧ Only [.ls] s t) ∧
  (∀ s : State, Regular s → ∃ t, exec .clearXingCounters s = .next t ∧ t.xg.stalls = 0 ∧ t.xg.torns = 0 ∧ t.xg.drops = 0 ∧
    t.xg.slips = 0 ∧ (∀ r k, t.laneAt r k = { s.laneAt r k with slips := 0 }) ∧ (∀ id, t.xing id = s.xing id) ∧
    Only [.xg] s t) ∧
  (∀ s : State, Regular s → s.xExists s.xg.sel.toNat = true → xClass s.xg.sel.toNat ≠ 9 →
    ∃ t, exec .clearXingDrop s = .next t ∧ t.xing s.xg.sel.toNat = { s.xing s.xg.sel.toNat with drop := 0 } ∧
      (∀ id, id ≠ s.xg.sel.toNat → t.xing id = s.xing id) ∧ Only [.xg] s t)

/-- The ten _READ_FIELD commands: the words of the block from OFFSET on, one after the other (R321). The ten _WRITE_FIELD commands. Where
every word is acceptable and its crossing carries it, the words are written in order and OK is answered; the first word that is not
acceptable, as the registers stand or as the armed fences will leave them, refuses the whole write with BAD_ARG at that word, and a period
code below its region's MIN_CODE refuses it with REFUSED (R28, R69, R72, R321). The model's own choices that it rests on: log 11, 27. -/
def Obligations.FieldsAreReadAndWritten : Prop :=
  (∀ e ∈ fieldReads, ∀ (q : Req) (s : State), ready s e.op q = true → fieldFits e.block 60 q →
    exec (e.cmd q) s = .next ((posted s e.op q).answer q.mbx
      (okReply ((posted s e.op q).fabWords (e.block * 2 ^ 24 + fieldOff q) (fieldCount q))))) ∧
  (∀ e ∈ fieldWrites, ∀ (q : Req) (s : State), ready s e.op q = true → fieldFits e.block 58 q →
    (∀ i, i < fieldCount q → (posted s e.op q).acceptsNext (e.block * 2 ^ 24 + fieldOff q + 4 * i) (fieldVal q i) = true) →
    (∀ i, i < fieldCount q → (posted s e.op q).belowMin (e.block * 2 ^ 24 + fieldOff q + 4 * i) (fieldVal q i) = false) →
    (posted s e.op q).writeBlock e.block (e.block * 2 ^ 24 + fieldOff q) (fieldCount q) = none →
    exec (e.cmd q) s = .next (((List.range (fieldCount q)).foldl (fun s i =>
      match regAt (e.block * 2 ^ 24 + fieldOff q + 4 * i) with
      | some x => s.regWrite x (fieldVal q i)
      | none => s) (posted s e.op q)).answer q.mbx okReply)) ∧
  (∀ e ∈ fieldWrites, ∀ (q : Req) (s : State) (i : Nat), ready s e.op q = true → fieldFits e.block 58 q → i < fieldCount q →
    (∀ j, j < i → (posted s e.op q).acceptsNext (e.block * 2 ^ 24 + fieldOff q + 4 * j) (fieldVal q j) = true) →
    (posted s e.op q).acceptsNext (e.block * 2 ^ 24 + fieldOff q + 4 * i) (fieldVal q i) = false →
    exec (e.cmd q) s = .next ((posted s e.op q).answer q.mbx (badArg (8 + 4 * i)))) ∧
  (∀ e ∈ fieldWrites, ∀ (q : Req) (s : State) (i : Nat), ready s e.op q = true → fieldFits e.block 58 q → i < fieldCount q →
    (∀ j, j < fieldCount q → (posted s e.op q).acceptsNext (e.block * 2 ^ 24 + fieldOff q + 4 * j) (fieldVal q j) = true) →
    (posted s e.op q).belowMin (e.block * 2 ^ 24 + fieldOff q + 4 * i) (fieldVal q i) = true →
    exec (e.cmd q) s = .next ((posted s e.op q).answer q.mbx (codeReply 0x50)))

/-- OP_SUSPEND, OP_RESUME and OP_CANCEL (R306, Table 10-13) on the operation that TARGET names. An operation at a safe point reads SUSPENDED
at once, with what has run of its RECEIVING timer, a calibration run SUSPENDING until its regions at work have finished, and an insertion of
a synthesizer inside its steps SUSPENDING until between them; resumed, it is again what it was; cancelled, it reads CANCELLING with what it
had taken undone, and a model's or an image's staging area is empty. The model's own choices that it rests on: log 46. -/
def Obligations.SuspendResumeCancel : Prop :=
  (∀ (q : Req) (s : State) (i : Nat) (o : LongOp), ready s 0x0101 q = true → (posted s 0x0101 q).opFor q = some (i, o) →
    o.st = .receiving →
    exec (.opSuspend q) s = .next (((posted s 0x0101 q).modOp i fun o => { o with
      st := .suspended, wasRecv := true, timer := s.now - o.timer }).answer q.mbx okReply)) ∧
  (∀ (q : Req) (s : State) (i : Nat) (o : LongOp), ready s 0x0101 q = true → (posted s 0x0101 q).opFor q = some (i, o) →
    o.st = .running → o.kind = .modelLoad ∨ o.kind = .spareInsert ∨ o.kind = .fwUpdate →
    (o.kind = .spareInsert → ∀ x ∈ s.opt.ins, x.handle = some i → x.kind = 3 → x.step < 2) →
    exec (.opSuspend q) s = .next (((posted s 0x0101 q).modOp i fun o => { o with
      st := .suspended, wasRecv := false }).answer q.mbx okReply)) ∧
  (∀ (q : Req) (s : State) (i : Nat) (o : LongOp) (x : Insertion), ready s 0x0101 q = true → (posted s 0x0101 q).opFor q = some (i, o) →
    o.st = .running → o.kind = .spareInsert → x ∈ s.opt.ins → x.handle = some i → x.kind = 3 → 2 ≤ x.step →
    exec (.opSuspend q) s = .next (((posted s 0x0101 q).modOp i fun o => { o with st := .suspending }).answer q.mbx okReply)) ∧
  (∀ (q : Req) (s : State) (i : Nat) (o : LongOp), ready s 0x0101 q = true → (posted s 0x0101 q).opFor q = some (i, o) →
    o.st = .running → o.kind = .overlayApply → 4 ≤ o.step →
    exec (.opSuspend q) s = .next (((posted s 0x0101 q).modOp i fun o => { o with st := .suspending }).answer q.mbx okReply)) ∧
  (∀ (q : Req) (s : State) (i : Nat) (o : LongOp), ready s 0x0101 q = true → (posted s 0x0101 q).opFor q = some (i, o) →
    o.st = .running → o.kind = .calRun ∨ o.kind = .selftestRun →
    exec (.opSuspend q) s = .next ((((posted s 0x0101 q).modOp i fun o => { o with st := .suspending }).calOpEnd i).answer q.mbx
      okReply)) ∧
  (∀ (q : Req) (s : State) (i : Nat) (o : LongOp), ready s 0x0102 q = true → (posted s 0x0102 q).opFor q = some (i, o) →
    o.st = .suspended → o.wasRecv = true →
    exec (.opResume q) s = .next (((posted s 0x0102 q).modOp i fun o => { o with
      st := .receiving, wasRecv := false, timer := s.now - o.timer }).answer q.mbx okReply)) ∧
  (∀ (q : Req) (s : State) (i : Nat) (o : LongOp), ready s 0x0102 q = true → (posted s 0x0102 q).opFor q = some (i, o) →
    o.st = .suspending →
    exec (.opResume q) s = .next (((posted s 0x0102 q).modOp i fun o => { o with st := .running }).answer q.mbx okReply)) ∧
  (∀ (q : Req) (s : State) (i : Nat) (o : LongOp), ready s 0x0103 q = true → (posted s 0x0103 q).opFor q = some (i, o) →
    o.st = .receiving ∨ o.st = .running ∨ o.st = .suspended → o.kind = .modelLoad →
    ∃ t, exec (.opCancel q) s = .next (t.answer q.mbx okReply) ∧ t.handle i = { gen := (s.handle i).gen, op := some { o with st := .cancelling } } ∧
      (∀ j, j ≠ i → t.handle j = s.handle j) ∧ t.hm.staging = [] ∧ (∀ x, t.hm.ready = some x → x.2.1 ≠ i) ∧
      Only [.mbx, .hm] s t) ∧
  (∀ (q : Req) (s : State) (i : Nat) (o : LongOp), ready s 0x0103 q = true → (posted s 0x0103 q).opFor q = some (i, o) →
    o.st = .receiving ∨ o.st = .running ∨ o.st = .suspended ∨ o.st = .suspending → (posted s 0x0103 q).pastCancel i o = false →
    exec (.opCancel q) s = .next ((((posted s 0x0103 q).modOp i fun o => { o with st := .cancelling }).undoOp i o).answer q.mbx okReply)) ∧
  (∀ (q : Req) (s : State),
    (ready s 0x0101 q = true → (posted s 0x0101 q).opFor q = none → exec (.opSuspend q) s = .next ((posted s 0x0101 q).answer q.mbx badTarget)) ∧
    (ready s 0x0102 q = true → (posted s 0x0102 q).opFor q = none → exec (.opResume q) s = .next ((posted s 0x0102 q).answer q.mbx badTarget)) ∧
    (ready s 0x0103 q = true → (posted s 0x0103 q).opFor q = none → exec (.opCancel q) s = .next ((posted s 0x0103 q).answer q.mbx badTarget)))

/-- OP_QUERY and the ends of a handle (R307, R308, R323). OP_QUERY answers Table 11-17's record and frees a DONE handle, whose generation
rises; a cancelled operation ends CANCELLED; 100 ms without an OP_WRITE end a RECEIVING one FAILED with TIMEOUT; 10 s after DONE an unread
handle is freed with EV_HANDLE_EXPIRED. OP_WRITE (R307): input data at the expected offset goes on the staging area and NEXT answers the
offset after it; at the last byte the handle reads RUNNING and the operation starts; an offset that is not the expected one is BAD_ARG. The
spill (R298): MBX_SPILL_READ returns up to 240 bytes from an offset inside it and frees it with its last byte; an offset past it is BAD_ARG;
MBX_SPILL_FREE frees it. The model's own choices that it rests on: log 46, 67. -/
def Obligations.HandlesDataAndSpill : Prop :=
  (∀ (q : Req) (s : State) (i : Nat) (o : LongOp), ready s 0x0104 q = true → (posted s 0x0104 q).opFor q = some (i, o) →
    exec (.opQuery q) s = .next ((if o.st = .done
      then (posted s 0x0104 q).modHandle i fun h => { gen := h.gen + 1, op := none }
      else posted s 0x0104 q).answer q.mbx (okReply o.record))) ∧
  (∀ o : LongOp, o.record.length = 48) ∧
  (∀ (h : Fin 32) (s : State) (o : LongOp), (s.handle h).op = some o → o.st = .cancelling →
    ∃ t, exec (.longOpDone h) s = .next t ∧
      t.handle h = { gen := (s.handle h).gen, op := some { o with st := .done, outcome := .cancelled, final := 0, done := s.now } } ∧
      (∀ j, j ≠ h.val → t.handle j = s.handle j) ∧
      t.mbx.done = (if o.async then s.mbx.done ||| word (2 ^ h.val) else s.mbx.done) ∧
      t.mbx.irq = (if o.async then s.mbx.irq ||| word (2 ^ 8) else s.mbx.irq) ∧ t.mbx.box = s.mbx.box ∧ Only [.mbx] s t) ∧
  (∀ (h : Fin 32) (s : State) (o : LongOp), (s.handle h).op = some o → o.st = .receiving → s.sys.hold = 0 →
    o.timer + 100000000 ≤ s.now →
    ∃ t, exec (.opWriteTimeout h) s = .next t ∧
      t.handle h = { gen := (s.handle h).gen, op := some { o with st := .done, outcome := .failed, final := 0x40, done := s.now } } ∧
      (∀ j, j ≠ h.val → t.handle j = s.handle j) ∧
      (o.kind = .modelLoad → t.hm.staging = []) ∧ (o.kind = .overlayApply → t.cfg.staging = []) ∧
      (o.kind = .fwUpdate → t.cfg.fwStage = [] ∧ t.cfg.update = none) ∧ Only [.mbx, .hm, .cfg] s t) ∧
  (∀ (h : Fin 32) (s : State) (o : LongOp), (s.handle h).op = some o → o.st = .done → o.done + 10000000000 ≤ s.now →
    exec (.handleExpired h) s = .next ((s.raise evHandleExpired (s.handleNo h)).modHandle h fun e => { gen := e.gen + 1, op := none })) ∧
  (∀ (q : Req) (s : State) (i : Nat) (o : LongOp), ready s 0x0105 q = true → (posted s 0x0105 q).opFor q = some (i, o) →
    o.st = .receiving → q.le 0 4 = o.received → 9 ≤ q.payload.length → q.payload.length ≤ 240 →
    o.received + (q.payload.length - 8) < o.total →
    let bs := q.payload.drop 8
    let n := o.received + bs.length
    ∃ t, exec (.opWrite q) s = .next (t.answer q.mbx (okReply (toLE 4 n))) ∧
      t.handle i = { gen := (s.handle i).gen, op := some { o with received := n, timer := s.now } } ∧
      (o.kind = .modelLoad → t.hm = { s.hm with
        staging := s.hm.staging ++ bs, stageTop := max s.hm.stageTop (s.hm.staging ++ bs).length } ∧ t.cfg = s.cfg) ∧
      (o.kind = .overlayApply → t.cfg = { s.cfg with
        staging := s.cfg.staging ++ bs, ovlTop := max s.cfg.ovlTop (s.cfg.staging ++ bs).length } ∧ t.hm = s.hm) ∧
      (o.kind = .fwUpdate → t.cfg = { s.cfg with
        fwStage := s.cfg.fwStage ++ bs, fwTop := max s.cfg.fwTop (s.cfg.fwStage ++ bs).length } ∧ t.hm = s.hm) ∧ Only [.mbx, .hm, .cfg] s t) ∧
  (∀ (q : Req) (s : State) (i : Nat) (o : LongOp), ready s 0x0105 q = true → (posted s 0x0105 q).opFor q = some (i, o) →
    o.st = .receiving → q.le 0 4 ≠ o.received → exec (.opWrite q) s = .next ((posted s 0x0105 q).answer q.mbx (badArg 0))) ∧
  (∀ (q : Req) (s : State) (bs : Bytes), ready s 0x0106 q = true → (s.box q.mbx).spill = some bs → q.le 0 4 + 240 < bs.length →
    exec (.mbxSpillRead q) s = .next ((posted s 0x0106 q).answer q.mbx (okReply (slice bs (q.le 0 4) 240)))) ∧
  (∀ (q : Req) (s : State) (bs : Bytes), ready s 0x0106 q = true → (s.box q.mbx).spill = some bs → q.le 0 4 < bs.length →
    bs.length ≤ q.le 0 4 + 240 →
    exec (.mbxSpillRead q) s = .next (((posted s 0x0106 q).modBox q.mbx fun b => { b with spill := none }).answer q.mbx
      (okReply (slice bs (q.le 0 4) (bs.length - q.le 0 4))))) ∧
  (∀ (q : Req) (s : State) (bs : Bytes), ready s 0x0106 q = true → (s.box q.mbx).spill = some bs → bs.length ≤ q.le 0 4 →
    exec (.mbxSpillRead q) s = .next ((posted s 0x0106 q).answer q.mbx (badArg 0))) ∧
  (∀ (q : Req) (s : State), ready s 0x0107 q = true →
    exec (.mbxSpillFree q) s = .next (((posted s 0x0107 q).modBox q.mbx fun b => { b with
      spill := none, spillLost := false }).answer q.mbx okReply))

/-- The heartbeat monitor (R375, R376). A check counts, once in its slot. A RUNNING and armed site other than Chrounyar's is LOST when four
of its live regions are silent, or all of them where fewer live; with fewer silent it stays as it is; Chrounyar's four assert MLB_FAULT_N
instead. A LOST site whose live regions have all shown life may begin its rejoin; on its way back it is REJOINING after four good checks
within 16,384 ns. After 100 ms LOST, EV_DIE_LOST_LONG is told and MLB_FAULT_N asserted. The model's own choices that it rests on: log 41. -/
def Obligations.DiesAreLost : Prop :=
  (∀ s : State, Regular s → s.sys.epoch = true → s.now % 256 = 64 → s.die.checkAt ≠ some s.now →
    ∃ t, exec .heartbeatCheck s = .next t ∧ t.die.checks = s.die.checks + 1 ∧ t.die.checkAt = some s.now ∧
      (∀ site : Site, site.val ≠ 16 → (s.dieAt site).st = .running → (s.dieAt site).armed.isSome = true → (s.dieAt site).attach ≠ 2 →
        let live := s.liveRegions site
        let quiet := live.filter s.silent
        (quiet ≠ [] → min 4 live.length ≤ quiet.length →
          t.dieAt site = { s.dieAt site with st := .lost, lostAt := some s.now, joinAt := none, checks := 0, signed := false }) ∧
        (quiet = [] ∨ quiet.length < min 4 live.length → t.dieAt site = s.dieAt site)) ∧
      ((s.dieAt 16).st = .running → (s.dieAt 16).armed.isSome = true → (s.dieAt 16).attach ≠ 2 →
        t.dieAt 16 = s.dieAt 16 ∧
        (4 ≤ ((s.liveRegions 16).filter s.silent).length → FaultCause.silent16 ∈ t.sys.mlb)) ∧
      (∀ (site : Site) (a : Nat), (s.dieAt site).st = .lost → (s.dieAt site).joinAt = some a → s.now ≤ a + 16384 →
        (s.liveRegions site).all (fun r => decide (s.die.checks ≤ (s.rgn r).hb.at_)) = true →
        ((s.dieAt site).checks = 3 → t.dieAt site = { s.dieAt site with st := .rejoining, joinAt := some s.now, checks := 4 }) ∧
        ((s.dieAt site).checks < 3 → t.dieAt site = { s.dieAt site with checks := (s.dieAt site).checks + 1 })) ∧
      (∀ site : Site, (s.dieAt site).st = .lost → (s.dieAt site).joinAt = none →
        (t.dieAt site).signed = (!(s.liveRegions site).isEmpty && (s.liveRegions site).all fun r => (s.rgn r).hb.life)) ∧
      Only [.sys, .mbx, .reg, .et, .opt, .ls, .xg, .cal, .die, .ev] s t) ∧
  (∀ s : State, s.die.checkAt = some s.now → exec .heartbeatCheck s = .next s) ∧
  (∀ (site : Site) (a : Nat) (s : State), (s.dieAt site).st = .lost → (s.dieAt site).attach ≠ 2 → (s.dieAt site).lostLong = false →
    (s.dieAt site).lostAt = some a → a + 100000000 ≤ s.now →
    ∃ t, exec (.dieLostLong site) s = .next t ∧ t.dieAt site = { s.dieAt site with lostLong := true } ∧
      (∀ i, i ≠ site.val → t.dieAt i = s.dieAt i) ∧ t.ev = (s.raise evDieLostLong site).ev ∧
      FaultCause.lostLong site.val ∈ t.sys.mlb ∧ Only [.sys, .mbx, .die, .ev] s t)

/-- A rejoin (R379, R380, Table 13-5). A toggle from a LOST site is a sign of life; once a check has seen every live region alive and all
are clocked, step 1 resets the heartbeat crossings jointly; after step 2 come the fuses, 20 ns a bit, and 65,536 ns of remeasurement from
the next slot boundary, which must bring every term of the site's routes in use: the same die is then RUNNING again, its count of failures
0, its monitoring armed and its regions due for calibration, and another is MISMATCH, gated and in reset; 16,384 ns without the end of step
2 fail the attempt, told, and the third failure asserts MLB_FAULT_N. The model's own choices that it rests on: log 16, 41, 63. -/
def Obligations.DiesRejoin : Prop :=
  (∀ (r : RegionNo) (s : State), Regular s → s.clocked r = true → (s.dieAt (siteOf r)).st = .lost →
    ∃ t, exec (.signOfLife r) s = .next t ∧ t.rgn r = { s.rgn r with hb := { (s.rgn r).hb with life := true } } ∧
      (∀ r', r' ≠ r → t.rgn r' = s.rgn r') ∧ Only [.reg] s t) ∧
  (∀ (site : Site) (fuse : Option Bytes) (terms : List (RouteTerm × Nat)) (dlanes : List (RegionNo × Nat × Nat)) (s : State), Regular s →
    s.fw = true → (s.dieAt site).attach ≠ 2 → (s.dieAt site).st = .lost →
    (s.dieAt site).joinAt = none → (s.dieAt site).fails < 3 → (s.dieAt site).signed = true →
    (∀ r ∈ s.liveRegions site, s.clocked r = true) →
    ∃ t, exec (.rejoin site fuse terms dlanes) s = .next t ∧ t.dieAt site = { s.dieAt site with joinAt := some s.now, checks := 0 } ∧
      (∀ i, i ≠ site.val → t.dieAt i = s.dieAt i) ∧
      (∀ r ∈ s.liveRegions site, (t.xing (xId 8 r)).st = .whole ∧ (t.xing (xId 8 r)).e2 = (s.xing (xId 8 r)).e1) ∧
      t.ev = s.ev ∧ t.sys = s.sys) ∧
  (∀ (site : Site) (fuse : Option Bytes) (terms : List (RouteTerm × Nat)) (dlanes : List (RegionNo × Nat × Nat)) (a : Nat) (s : State),
    s.fw = true → (s.dieAt site).attach ≠ 2 → (s.dieAt site).st = .rejoining → (s.dieAt site).joinAt = some a →
    s.now < fuseRead fuse a ∨ s.sameDie site fuse = true ∧ s.now < rejoinMeasured fuse a ∨
      s.sameDie site fuse = true ∧ (∃ k ∈ s.rejoinKeys site, ∀ e ∈ terms, RouteTerm.key e.1 ≠ k) →
    exec (.rejoin site fuse terms dlanes) s = .next s) ∧
  (∀ (site : Site) (fuse : Option Bytes) (terms : List (RouteTerm × Nat)) (dlanes : List (RegionNo × Nat × Nat)) (a : Nat) (s : State),
    Regular s → s.fw = true → (s.dieAt site).attach ≠ 2 →
    (s.dieAt site).st = .rejoining → (s.dieAt site).joinAt = some a → fuseRead fuse a ≤ s.now → rejoinMeasured fuse a ≤ s.now →
    s.sameDie site fuse = true →
    (∀ k ∈ s.rejoinKeys site, ∃ e ∈ terms, RouteTerm.key e.1 = k) → (∃ r ∈ s.liveRegions site, s.proves r = true) →
    ∃ t, exec (.rejoin site fuse terms dlanes) s = .next t ∧
      t.dieAt site = { s.dieAt site with st := .running, lostAt := none, lostLong := false, joinAt := none, checks := 0, fails := 0,
                                         signed := false, armed := some s.die.checks } ∧
      (∀ r ∈ s.liveRegions site, s.proves r = true → (t.rgn r).cal.dueDrift = true ∧ r ∈ t.cal.due ∧ (t.rgn r).hb.life = false) ∧
      (∀ i, i ≠ site.val → t.dieAt i = s.dieAt i) ∧ FaultCause.lostLong site.val ∉ t.sys.mlb ∧
      (∀ c, c ≠ FaultCause.lostLong site.val → c ∈ s.sys.mlb → c ∈ t.sys.mlb)) ∧
  (∀ (site : Site) (fuse : Option Bytes) (terms : List (RouteTerm × Nat)) (dlanes : List (RegionNo × Nat × Nat)) (a : Nat) (s : State),
    s.fw = true → (s.dieAt site).attach ≠ 2 →
    (s.dieAt site).st = .rejoining → (s.dieAt site).joinAt = some a → fuseRead fuse a ≤ s.now → s.sameDie site fuse = false →
    ∃ t, exec (.rejoin site fuse terms dlanes) s = .next t ∧ (t.dieAt site).st = .mismatch ∧ (t.dieAt site).joinAt = none ∧
      (t.dieAt site).ungated = false ∧ (t.dieAt site).logicReset = true ∧ (t.dieAt site).armed = none ∧
      (∀ i, i ≠ site.val → t.dieAt i = s.dieAt i) ∧ FaultCause.census site.val ∈ t.sys.mlb ∧ Only [.sys, .mbx, .die, .ev] s t) ∧
  (∀ (site : Site) (a : Nat) (s : State), Regular s → (s.dieAt site).st = .lost → (s.dieAt site).joinAt = some a → a + 16384 ≤ s.now →
    ∃ t, exec (.rejoinStep2Timeout site) s = .next t ∧ (t.dieAt site).st = .lost ∧ (t.dieAt site).joinAt = none ∧
      (t.dieAt site).fails = (s.dieAt site).fails + 1 ∧ (∀ i, i ≠ site.val → t.dieAt i = s.dieAt i) ∧
      (∀ r ∈ siteRegions site, (t.rgn r).hb.life = false) ∧ t.ev = (s.raise evRejoinFail site).ev ∧
      (2 ≤ (s.dieAt site).fails → FaultCause.rejoinFail site.val ∈ t.sys.mlb) ∧
      Only [.sys, .mbx, .reg, .ls, .xg, .die, .ev] s t)

/-- Side dies (R399-R401) and DIE_QUERY (R381). A die that answers on an empty slot is foreign and RUNNING at the speed it offers; one that
offers neither is MISMATCH; a discovery is repeated no sooner than 10 ms after one that nothing answered, and a poll 1 ms after the last; a
third poll in a row without an answer, or the sideband's link going down, loses it, told; an answer from a LOST one begins its rejoin;
through a sideband queue that is not WHOLE no answer comes (R207). The model's own choices that it rests on: log 42. -/
def Obligations.SideDies : Prop :=
  (∀ (site : Site) (c : UcieCaps) (s : State), s.sys.epoch = true → 19 ≤ site.val → (s.dieAt site).st = .absent →
    (s.dieAt site).attach ≠ 1 → s.retryDue site = true → s.sideband site = true → c.gt16 = true ∨ c.gt32 = true →
    ∃ t, exec (.discoveryRetry site (some c)) s = .next t ∧
      t.dieAt site = { s.dieAt site with st := .running, attach := 2, speed := if c.gt32 then 32 else 16, polls := 0 } ∧
      (∀ i, i ≠ site.val → t.dieAt i = s.dieAt i) ∧ Only [.sys, .mbx, .reg, .opt, .ls, .die, .ev] s t) ∧
  (∀ (site : Site) (c : UcieCaps) (s : State), s.sys.epoch = true → 19 ≤ site.val → (s.dieAt site).st = .rejoining →
    (s.dieAt site).attach = 2 → s.retryDue site = true → s.sideband site = true → c.gt16 = true ∨ c.gt32 = true →
    ∃ t, exec (.ucieDiscovery site (some c)) s = .next t ∧
      t.dieAt site = { s.dieAt site with st := .running, speed := if c.gt32 then 32 else 16, polls := 0 } ∧
      (∀ i, i ≠ site.val → t.dieAt i = s.dieAt i) ∧ t.ev = (s.raise evDieRejoined site).ev ∧ Only [.die, .ev] s t) ∧
  (∀ (site : Site) (c : UcieCaps) (s : State), s.sys.epoch = true → 19 ≤ site.val → (s.dieAt site).st = .rejoining →
    (s.dieAt site).attach = 2 → s.retryDue site = true → s.sideband site = true → c.gt16 = false → c.gt32 = false →
    ∃ t, exec (.ucieDiscovery site (some c)) s = .next t ∧ t.dieAt site = { s.dieAt site with st := .mismatch } ∧
      t.ev = (s.raise evUcieUnsupported site).ev ∧ FaultCause.census site.val ∈ t.sys.mlb ∧ Only [.sys, .mbx, .die, .ev] s t) ∧
  (∀ (site : Site) (s : State), (s.dieAt site).attach = 2 → (s.dieAt site).st = .running → s.pollDue site = true → 2 ≤ (s.dieAt site).polls →
    exec (.foreignDiePoll site false) s =
      .next ((s.modDie site fun d => { d with polledAt := some s.now, st := .lost, polls := 0 }).raise evSideLost site)) ∧
  (∀ (site : Site) (s : State), (s.dieAt site).attach = 2 → (s.dieAt site).st = .running → s.pollDue site = true → (s.dieAt site).polls < 2 →
    exec (.foreignDiePoll site false) s =
      .next (s.modDie site fun d => { d with polledAt := some s.now, polls := (s.dieAt site).polls + 1 })) ∧
  (∀ (site : Site) (s : State), (s.dieAt site).attach = 2 → (s.dieAt site).st = .lost → s.pollDue site = true → s.sideband site = true →
    exec (.foreignDiePoll site true) s = .next (s.modDie site fun d => { d with polledAt := some s.now, st := .rejoining, polls := 0 })) ∧
  (∀ (site : Site) (answered : Bool) (a : Nat) (s : State), (s.dieAt site).polledAt = some a → s.now < a + 1000000 →
    exec (.foreignDiePoll site answered) s = .next s) ∧
  (∀ (site : Site) (caps : Option UcieCaps) (s : State), s.sideband site = false →
    exec (.foreignDiePoll site true) s = exec (.foreignDiePoll site false) s ∧
    exec (.discoveryRetry site caps) s = exec (.discoveryRetry site none) s ∧
    exec (.ucieDiscovery site caps) s = exec (.ucieDiscovery site none) s) ∧
  (∀ (site : Site) (s : State), (s.dieAt site).attach = 2 → (s.dieAt site).st = .running →
    exec (.sidebandLinkDown site) s = .next ((s.modDie site fun d => { d with st := .lost, polls := 0 }).raise evSideLost site)) ∧
  (∀ (q : Req) (s : State), ready s 0x0C02 q = true → q.tgt ≤ 22 →
    let d := s.dieAt q.tgt
    exec (.dieQuery q) s = .next ((posted s 0x0C02 q).answer q.mbx
      (okReply (toLE 1 d.st.code ++ toLE 1 d.type ++ toLE 1 d.attach ++ zeros 5 ++ toLE 8 d.serial.toNat)))) ∧
  (∀ (q : Req) (s : State), ready s 0x0C02 q = true → 22 < q.tgt →
    exec (.dieQuery q) s = .next ((posted s 0x0C02 q).answer q.mbx badTarget))

/-- ERG_READ, LEDGER_READ and ANCHOR_QUERY (R110, R128, R136): Erg time with the rack offset, the status HOLDOVER while it lasts; up to 14
records from an index inside the ring; an anchor's 64 bytes, which touch it. Through a fenced or torn status crossing the Erg time read is
the one that it held when it stopped (Table 7-7). Conversion (R129-R132). ANCHOR_CONVERT touches the anchor; it answers at once where its
target is settled or has not been reached, and waits where it is reached and not yet settled, or lies past the outage of a DEAD region that
may still be served again, until CONVERSION_SETTLED, which predicts where the outage will not end, and answers BAD_ARG where a new base has
come to lie after the target (R129); through a count crossing that is fenced or torn the code is FENCED or TORN. From the anchor's base a
period is the target long, and each period of a STRETCH record longer by its sixteenths of the nominal. The model's own choices that it
rests on: log 5, 23, 53. -/
def Obligations.ErgLedgerAndConversions : Prop :=
  (∀ (q : Req) (s : State), ready s 0x0401 q = true →
    exec (.ergRead q) s = .next ((posted s 0x0401 q).answer q.mbx
      { status := if s.et.holdover then 0x70 else 0, payload := stamp (if s.xState (xId 3 0) = .whole then s.sys.erg else (s.xing (xId 3 0)).heldAt) 0 ++
          stampS s.et.rack ++ toLE 4 s.ergStatus })) ∧
  (∀ (q : Req) (s : State), ready s 0x0406 q = true → q.le 0 4 < 98304 → 1 ≤ q.u8 4 → q.u8 4 ≤ 14 →
    exec (.ledgerRead q) s = .next ((posted s 0x0406 q).answer q.mbx (okReply (toLE 4 s.et.wptr ++ zeros 12 ++
      (List.range (q.u8 4)).flatMap fun k => s.ringBytes ((q.le 0 4 + k) % 98304))))) ∧
  (∀ (q : Req) (s : State), ready s 0x0406 q = true → 98304 ≤ q.le 0 4 →
    exec (.ledgerRead q) s = .next ((posted s 0x0406 q).answer q.mbx (badArg 0))) ∧
  (∀ (q : Req) (s : State), ready s 0x0406 q = true → q.le 0 4 < 98304 → q.u8 4 = 0 ∨ 14 < q.u8 4 →
    exec (.ledgerRead q) s = .next ((posted s 0x0406 q).answer q.mbx (badArg 4))) ∧
  (∀ (q : Req) (i : Nat) (s : State), ready s 0x0404 q = true → s.anchorOf q.tgt = some i → Regular s →
    ∃ t, exec (.anchorQuery q) s = .next (t.answer q.mbx (okReply (t.anchorBytes i))) ∧
      t.anchor i = { s.anchor i with lastUse := s.now } ∧ (∀ j, j ≠ i → t.anchor j = s.anchor j) ∧ Only [.mbx, .et] s t) ∧
  (∀ (q : Req) (s : State), ready s 0x0404 q = true → s.anchorOf q.tgt = none →
    exec (.anchorQuery q) s = .next ((posted s 0x0404 q).answer q.mbx badTarget)) ∧
  (∀ (q : Req) (i : Nat) (s : State), ready s 0x0405 q = true → s.anchorOf q.tgt = some i → q.u8 0 ≤ 1 → (s.anchor i).state = 2 →
    (s.anchor i).busy < 8 → s.countBlock (s.anchor i).region = none →
    let tc := decide (q.u8 0 = 1)
    let x := if tc then q.le 16 8 * 32768 + q.le 24 2 / 2 else q.le 8 8
    (tc = false → zeroAt q.payload 16 16 = true ∧ (s.anchor i).baseCycle ≤ x) →
    (tc = true → q.le 8 8 = 0 ∧ (s.anchor i).baseErg ≤ x) →
    let u := (posted s 0x0405 q).touch i
    (u.settled i tc x = true →
      exec (.anchorConvert q) s = .next ((u.convertNow i tc x).2.answer q.mbx (u.convertNow i tc x).1)) ∧
    (u.settled i tc x = false → u.awaitsTarget i tc x = true →
      exec (.anchorConvert q) s = .next ((u.modAnchor i fun a => { a with busy := a.busy + 1 }).modBox q.mbx
        fun b => { b with wait := some (.convert i tc x) })) ∧
    (u.settled i tc x = false → u.awaitsTarget i tc x = false →
      exec (.anchorConvert q) s = .next (u.answer q.mbx (u.convertAhead i tc x)))) ∧
  (∀ (q : Req) (i st : Nat) (s : State), ready s 0x0405 q = true → s.anchorOf q.tgt = some i → q.u8 0 ≤ 1 → (s.anchor i).state = 2 →
    (s.anchor i).busy < 8 → s.countBlock (s.anchor i).region = some st → (q.u8 0 = 0 → zeroAt q.payload 16 16 = true) →
    (q.u8 0 = 1 → q.le 8 8 = 0) →
    exec (.anchorConvert q) s = .next ((posted s 0x0405 q).answer q.mbx (codeReply st))) ∧
  (∀ (m : Fin 8) (i x off : Nat) (tc : Bool) (s : State), Regular s → (s.box m).wait = some (.convert i tc x) → (s.box m).st = .working →
    (s.anchor i).based = true → s.beforeBase i tc x = some off →
    ∃ t, exec (.conversionSettled m) s = .next t ∧ (t.box m).st = .responded ∧
      (t.box m).resp = trim (respBytes (s.box m).req (badArg off) false false) ∧ (∀ j, j ≠ i → t.anchor j = s.anchor j) ∧
      Only [.mbx, .reg, .et] s t) ∧
  (∀ (m : Fin 8) (i x : Nat) (tc : Bool) (s : State), Regular s → (s.box m).wait = some (.convert i tc x) → (s.box m).st = .working →
    s.beforeBase i tc x = none → s.settled i tc x = true →
    ∃ t, exec (.conversionSettled m) s = .next t ∧ (t.box m).st = .responded ∧ (t.box m).wait = none ∧
      (t.box m).resp = trim (respBytes (s.box m).req (s.convertNow i tc x).1 false false) ∧
      (1 < (s.anchor i).busy → t.anchor i = { (s.convertNow i tc x).2.anchor i with busy := (s.anchor i).busy - 1 }) ∧
      (∀ j, j ≠ i → t.anchor j = s.anchor j) ∧ Only [.mbx, .reg, .et] s t) ∧
  (∀ (m : Fin 8) (i x : Nat) (tc : Bool) (s : State), (s.box m).wait = some (.convert i tc x) →
    (s.anchor i).based = false ∨ s.beforeBase i tc x = none → s.settled i tc x = false →
    s.awaitsTarget i tc x = true → exec (.conversionSettled m) s = .next s) ∧
  (∀ (m : Fin 8) (i x : Nat) (tc : Bool) (s : State), Regular s → (s.box m).wait = some (.convert i tc x) → (s.box m).st = .working →
    (s.anchor i).based = false ∨ s.beforeBase i tc x = none → s.settled i tc x = false → s.awaitsTarget i tc x = false →
    ∃ t, exec (.conversionSettled m) s = .next t ∧ (t.box m).st = .responded ∧
      (t.box m).resp = trim (respBytes (s.box m).req (s.convertAhead i tc x) false false) ∧ Only [.mbx, .reg, .et] s t) ∧
  (∀ (a : Anchor) (c : Nat) (s : State), s.records a = [] →
    s.ergOf a c = ⟨c, a.baseErg + ((c : Int) - a.baseCycle) * a.baseTg, 0, 0, false, false⟩) ∧
  (∀ (a : Anchor) (c : Nat) (k : Int) (p v len : Nat) (r : RegionNo) (cy : BitVec 48) (s : State), len < 65536 → a.baseCycle ≤ k →
    s.records a = [⟨p, k, ⟨BitVec.ofNat 16 r, 1, v, cy, BitVec.ofNat 48 len⟩⟩] →
    (s.ergOf a c).start = a.baseErg + ((c : Int) - a.baseCycle) * a.baseTg + min (max ((c : Int) - k) 0) len * (4 * a.baseN * v) ∧
      (s.ergOf a c).inexact = false) ∧
  (∀ (a : Anchor) (x : Int) (s : State), s.records a = [] → a.baseErg ≤ x → 0 < a.baseTg →
    let f := s.cycleOf a x.toNat
    f.start ≤ x ∧ x < f.start + a.baseTg ∧ f.start = a.baseErg + (f.cycle - a.baseCycle) * a.baseTg)

/-- Anchors are added, captured and removed (R124-R128). ANCHOR_ADD takes an entry, which is PENDING; with EVICT and a full table the
request waits beside it (the model's entry 1024), and as it commits the idle anchor used longest ago gives its place, told and counted. At a
period boundary ANCHOR_CAPTURE gives it its base, the boundary's cycle and capture, with a BASE record in the record lane and a TARGET
record after it, and answers. ANCHOR_REMOVE frees an entry, and its generation rises. The model's own choices that it rests on: log 15, 23,
53, 67. -/
def Obligations.AnchorsComeAndGo : Prop :=
  (∀ (q : Req) (i : Nat) (s : State), Regular s → ready s 0x0402 q = true → s.regionExists q.tgt = true → q.le 0 2 ≤ 8191 →
    q.le 16 2 = 0 ∨ (16 ≤ q.le 16 2 ∧ q.le 16 2 ≤ 4096) → q.u8 18 ≤ 1 → (s.rgn q.tgt).chan.st ≠ .dead →
    s.xBlock (xId 4 q.tgt) = none → q.u8 18 = 0 ∨ (s.et.anchors.filter fun e => e.2.pinned).length < 64 → s.freeEntry = some i →
    ∃ t, exec (.anchorAdd q) s = .next t ∧ (t.box q.mbx).wait = some (.anchorAdd i) ∧ (t.box q.mbx).st = .working ∧
      t.anchor i = { gen := (s.anchor i).gen, state := 1, pinned := decide (q.u8 18 = 1), region := q.tgt,
                     owner := BitVec.ofNat 16 (q.mbx.val + 8 * q.le 0 2),
                     reach := if q.le 16 2 = 0 then fld s.et.ctrl.eff 28 16 else q.le 16 2, deadline := q.le 8 8, lastUse := s.now } ∧
      (∀ j, j ≠ i → t.anchor j = s.anchor j) ∧ (t.rgn q.tgt).awaits i = true ∧
      (∀ r, r ≠ q.tgt → t.rgn r = s.rgn r) ∧ Only [.mbx, .reg, .et] s t) ∧
  (∀ (q : Req) (i : Nat) (s : State), Regular s → ready s 0x0402 q = true → s.regionExists q.tgt = true → q.le 0 2 ≤ 8191 →
    q.le 16 2 = 0 → q.u8 18 = 0 → (s.rgn q.tgt).chan.st ≠ .dead →
    s.xBlock (xId 4 q.tgt) = none → s.freeEntry = none → q.evict = true → s.oldestIdle = some i → (s.anchor 1024).state = 0 →
    ∃ t, exec (.anchorAdd q) s = .next t ∧ (t.box q.mbx).wait = some (.anchorAdd 1024) ∧
      (t.anchor 1024).state = 1 ∧ (t.anchor 1024).region = q.tgt ∧ (t.rgn q.tgt).awaits 1024 = true ∧
      (∀ j, j ≠ 1024 → t.anchor j = s.anchor j) ∧ t.et.evict = s.et.evict ∧ Only [.mbx, .reg, .et] s t) ∧
  (∀ (r : RegionNo) (j : Nat) (m : Fin 8) (s : State), Regular s → (s.rgn r).capture = [1024] → s.clocked r = true →
    (s.rgn r).stop = none → (s.rgn r).rep.found = true → (s.anchor 1024).state = 1 → (s.anchor 1024).region = r →
    (s.findWait fun w => decide (w = .anchorAdd 1024)) = some m → s.freeEntry = none → s.oldestIdle = some j → j < 1024 →
    let g := s.rgn r
    ∃ t, exec (.anchorCapture r) s = .next t ∧ (t.anchor j).gen = (s.anchor j).gen + 1 ∧ (t.anchor j).state = 2 ∧
      (t.anchor j).region = r ∧ (t.anchor j).baseCycle = g.cycle ∧ (t.anchor j).baseErg = g.edge / 64 * 64 ∧ (t.anchor 1024).state = 0 ∧
      (∀ i, i ≠ j → i ≠ 1024 → t.anchor i = s.anchor i) ∧ t.et.evict = sat16 s.et.evict 1 ∧ (t.box m).st = .responded ∧
      (g.former.len = 0 → t.ev = (s.raise evAnchorEvicted (s.anchorArg j)).ev) ∧ Only [.mbx, .reg, .et, .xg, .ev] s t) ∧
  (∀ (q : Req) (s : State), ready s 0x0402 q = true → s.regionExists q.tgt = true → q.le 0 2 ≤ 8191 →
    q.le 16 2 = 0 → q.u8 18 = 0 → (s.rgn q.tgt).chan.st ≠ .dead →
    s.xBlock (xId 4 q.tgt) = none → s.freeEntry = none → q.evict = false →
    ∃ t, exec (.anchorAdd q) s = .next (t.answer q.mbx { status := 0x11 }) ∧ t.et = { s.et with full := sat16 s.et.full 1 } ∧
      Only [.mbx, .et] s t) ∧
  (∀ (r : RegionNo) (i : Nat) (m : Fin 8) (s : State), Regular s → (s.rgn r).capture = [i] → s.clocked r = true →
    (s.rgn r).stop = none → (s.rgn r).rep.found = true → (s.anchor i).state = 1 → (s.anchor i).region = r →
    (s.findWait fun w => decide (w = .anchorAdd i)) = some m → i < 1024 →
    let g := s.rgn r
    ∃ t, exec (.anchorCapture r) s = .next t ∧ (t.rgn r).capture = [] ∧
      t.anchor i = { s.anchor i with
        state := 2, baseCycle := g.cycle, baseErg := g.edge / 64 * 64, baseTg := g.tg, baseN := g.nominal, based := false } ∧
      (∀ j, j ≠ i → t.anchor j = s.anchor j) ∧
      (s.xState (xId 5 r) = .whole → LaneEntry.record (lrec r 5 0 g.cycle (captureValue g.edge)) ∈ (t.rgn r).former.lane) ∧
      (t.rgn r).former.target = some (g.cycle, 4, targetValue g.tg g.nominal) ∧
      (t.box m).st = .responded ∧
      (t.box m).resp = trim (respBytes (s.box m).req
        (okReply (toLE 2 (s.anchorId i) ++ zeros 6 ++ toLE 8 g.cycle ++ stampQ (g.edge / 64 * 64))) false false) ∧
      Only [.mbx, .reg, .et, .xg, .ev] s t) ∧
  (∀ (q : Req) (i : Nat) (s : State), Regular s → ready s 0x0403 q = true → s.anchorOf q.tgt = some i → (s.anchor i).busy = 0 →
    ∃ t, exec (.anchorRemove q) s = .next (t.answer q.mbx okReply) ∧ t.anchor i = { gen := (s.anchor i).gen + 1 } ∧
      (∀ j, j ≠ i → t.anchor j = s.anchor j) ∧ (t.rgn (s.anchor i).region).awaits i = false ∧ Only [.mbx, .reg, .et] s t) ∧
  (∀ (q : Req) (i : Nat) (s : State), ready s 0x0403 q = true → s.anchorOf q.tgt = some i → (s.anchor i).busy ≠ 0 →
    exec (.anchorRemove q) s = .next ((posted s 0x0403 q).modBox q.mbx fun b => { b with wait := some (.anchorRemove i) }))

/-- Folding, pressure and loss (R119, R123). At a window boundary every ACTIVE anchor's base goes to the first period boundary at or after
the start of the window REACH_WIN back; at 7/8 of the ring anchors are folded to the settled point at most, and EV_LEDGER_PRESSURE is told;
a LOSS record that an anchor has not folded past calls for a new base, and the capture of one marks the anchor REBASED. A fold goes no
further than the settled point and the newest cycle whose records are in the ring, and not while a base is awaited. The model's own choices
that it rests on: log 5, 23, 65. -/
def Obligations.AnchorsAreFolded : Prop :=
  (∀ s : State, Regular s → s.now % 256 = 0 →
    ∃ t, exec .anchorFold s = .next t ∧ Only [.et] s t ∧ t.et = { s.et with anchors := t.et.anchors } ∧
      (∀ i, (s.anchor i).state ≠ 2 → t.anchor i = s.anchor i) ∧
      (∀ i, (s.anchor i).state = 2 → s.win < (s.anchor i).reach → t.anchor i = s.anchor i) ∧
      (∀ i, (s.anchor i).state = 2 → (s.anchor i).reach ≤ s.win →
        let a := s.anchor i
        let x := min ((s.win - a.reach) * (256 * 32768)) ((s.now - 1024) * 32768)
        t.anchor i = (s.foldTo i ((s.win - a.reach) * (256 * 32768))).anchor i ∧
        (a.busy = 0 → a.based = true → (s.rgn a.region).awaits i = false → a.baseErg < x → s.records a = [] → 0 < a.baseTg →
          ∃ m, (t.anchor i).baseErg = a.baseErg + m * a.baseTg ∧ (t.anchor i).baseCycle = a.baseCycle + m ∧
            (x ≤ (t.anchor i).baseErg ∨ s.foldTop a ≤ (t.anchor i).baseCycle ∨
              ((s.now - 1024) * 32768 : Nat) < (t.anchor i).baseErg + a.baseTg) ∧
            (0 < m → (t.anchor i).baseErg ≤ (s.now - 1024) * 32768 ∧ (t.anchor i).baseCycle ≤ s.foldTop a) ∧
            (t.anchor i).baseErg < x + a.baseTg ∧ (t.anchor i).cursor = s.et.written) ∧
        (a.busy ≠ 0 ∨ a.based = false ∨ (s.rgn a.region).awaits i = true ∨ x ≤ a.baseErg → t.anchor i = a))) ∧
  (∀ s : State, s.now % 256 ≠ 0 → exec .anchorFold s = .next s) ∧
  (∀ s : State, Regular s → 86016 ≤ s.unfolded → s.et.pressure = false →
    ∃ t, exec .ledgerPressure s = .next t ∧ t.ev = (s.raise evLedgerPressure 0).ev ∧ t.et.pressure = decide (73728 ≤ t.unfolded) ∧
      (∀ i, t.anchor i = s.anchor i ∨ t.anchor i = (s.foldTo i ((s.now - 1024) * 32768)).anchor i) ∧
      t.et.ring = s.et.ring ∧ Only [.et, .ev] s t) ∧
  (∀ s : State, s.unfolded < 86016 → s.et.pressure = false → exec .ledgerPressure s = .next s) ∧
  (∀ (r : RegionNo) (s : State), Regular s →
    ∃ t, exec (.ledgerLoss r) s = .next t ∧
      (∀ i, (s.anchor i).state = 2 → (s.anchor i).region = r → s.lossBefore i = true → (t.rgn r).awaits i = true) ∧
      (∀ i, s.lossBefore i = false → (t.rgn r).awaits i = (s.rgn r).awaits i) ∧
      (∀ r', r' ≠ r → t.rgn r' = s.rgn r') ∧ Only [.reg] s t) ∧
  (∀ (r : RegionNo) (i : Nat) (s : State), Regular s → (s.rgn r).capture = [i] → (s.anchor i).state = 2 → s.clocked r = true →
    (s.rgn r).stop = none → (s.rgn r).rep.found = true → (s.findWait fun w => decide (w = .anchorAdd i)) = none →
    let g := s.rgn r
    ∃ t, exec (.anchorCapture r) s = .next t ∧ (t.rgn r).capture = [] ∧
      t.anchor i = { s.anchor i with
        baseCycle := g.cycle, baseErg := g.edge / 64 * 64, baseTg := g.tg, baseN := g.nominal, based := false, rebased := true } ∧
      (∀ j, j ≠ i → t.anchor j = s.anchor j) ∧ (g.former.len = 0 → t.ev = (s.raise evAnchorRebased (s.anchorArg i)).ev) ∧
      Only [.mbx, .reg, .et, .xg, .ev] s t)

/-- Replicas and the window discipline (R107, R108, R111-R113, Table 4-2). A replica checks once in each slot. A slot whose CRC fails is
counted; a count that is not the slot's corrects the replica, counts, marks an open stop, and is told at most once in 64 slots; a slot of a
WHOLE count crossing is a heartbeat. At a window boundary, once, the registers take effect, the rate steps by at most 0.05 ppb and the rack
offset by at most 1/16 ns; both stand still in hold, until its follow-ups are done, and in holdover; SPAN says whether a peer disciplines.
The crystal: its loss puts Erg time in holdover (R113); its return, once it has been within tolerance for 10 ms, clears XTAL_LOST and
HOLDOVER without a phase step, and the PLL goes back at the slew rate (R115); a break in the tolerance begins the 10 ms anew. The model's
own choices that it rests on: log 2, 5, 52, 60. -/
def Obligations.ReplicasDisciplineAndCrystal : Prop :=
  (∀ (r : RegionNo) (slipped : Int) (s : State), Regular s → s.clocked r = true → (s.rgn r).inReset = false → (s.rgn r).rep.stopped = false →
    s.now % 256 = 0 → (s.rgn r).rep.slotAt ≠ some s.win →
    ∃ t, exec (.replicaSlotCheck r false slipped) s = .next t ∧
      t.rgn r = { s.rgn r with rep := { (s.rgn r).rep with
        crcErr := (s.rgn r).rep.crcErr + 1, skew := (s.rgn r).rep.skew + slipped, slotAt := some s.win } } ∧
      (∀ r', r' ≠ r → t.rgn r' = s.rgn r') ∧ Only [.reg] s t) ∧
  (∀ (r : RegionNo) (ok : Bool) (slipped : Int) (s : State), s.now % 256 ≠ 0 ∨ (s.rgn r).rep.slotAt = some s.win →
    exec (.replicaSlotCheck r ok slipped) s = .next s) ∧
  (∀ (r : RegionNo) (slipped : Int) (x : Slot1) (s : State), Regular s → s.clocked r = true → (s.rgn r).inReset = false →
    (s.rgn r).rep.stopped = false → s.now % 256 = 0 → (s.rgn r).rep.slotAt ≠ some s.win → s.slotAt r = some x →
    s.replicaCount r + slipped ≠ x.next.toNat →
    ∃ t, exec (.replicaSlotCheck r true slipped) s = .next t ∧ t.et = { s.et with fix := s.et.fix + 1 } ∧
      t.replicaCount r = x.next.toNat ∧ (t.rgn r).rep.slotAt = some s.win ∧
      (t.rgn r).stop = (s.rgn r).stop.map (fun x => { x with fixed := true }) ∧ (t.rgn r).rep.crcErr = (s.rgn r).rep.crcErr ∧
      (∀ w, (s.rgn r).rep.fixAt = some w → s.win < w + 64 → t.ev = s.ev ∧ (t.rgn r).rep.fixAt = some w) ∧
      ((s.rgn r).rep.fixAt = none ∨ (∃ w, (s.rgn r).rep.fixAt = some w ∧ w + 64 ≤ s.win) →
        t.ev = (s.raise evErgReplicaFix r).ev ∧ (t.rgn r).rep.fixAt = some s.win) ∧
      (let h := (s.rgn r).hb
       let n := (h.src + 1) % 256
       (t.rgn r).hb = if s.xState (xId 8 r) = .whole then
           { h with src := n, snap := n, total := h.total + (n + 256 - h.snap) % 256, at_ := s.die.checks }
         else { h with src := n }) ∧
      (∀ r', r' ≠ r → t.rgn r' = s.rgn r') ∧ Only [.reg, .et, .ev] s t) ∧
  (∀ (r : RegionNo) (slipped : Int) (x : Slot1) (s : State), Regular s → s.clocked r = true → (s.rgn r).inReset = false →
    (s.rgn r).rep.stopped = false → s.now % 256 = 0 → (s.rgn r).rep.slotAt ≠ some s.win → s.slotAt r = some x →
    s.replicaCount r + slipped = x.next.toNat → s.xState (xId 8 r) = .whole →
    let h := (s.rgn r).hb
    let n := (h.src + 1) % 256
    ∃ t, exec (.replicaSlotCheck r true slipped) s = .next t ∧
      t.rgn r = { s.rgn r with rep := { (s.rgn r).rep with found := true, skew := (x.next.toNat : Int) - s.now, slotAt := some s.win },
                               hb := { h with src := n, snap := n, total := h.total + (n + 256 - h.snap) % 256, at_ := s.die.checks } } ∧
      (∀ r', r' ≠ r → t.rgn r' = s.rgn r') ∧ Only [.reg] s t) ∧
  (∀ s : State, s.et.stepAt = some s.now → exec .ergWindowDiscipline s = .next s) ∧
  (∀ s : State, s.sys.epoch = true → s.now % 256 = 0 → s.et.stepAt ≠ some s.now → fld (s.et.ctrl.tick s.now).eff 1 0 = s.discSrc → s.suspended = false →
    s.et.xtalLost = false → s.et.holdover = false →
    ∃ t, exec .ergWindowDiscipline s = .next t ∧ t.et.ctrl = s.et.ctrl.tick s.now ∧ t.xg = { s.xg with ctrl := s.xg.ctrl.tick s.now } ∧
      t.et.rack = s.et.rackStep.rack ∧ t.et.rackTo = s.et.rackStep.rackTo ∧ (t.et.rack - s.et.rack).natAbs ≤ 4096 ∧
      (∀ x, s.et.rackTo = some x → (x - t.et.rack).natAbs = (x - s.et.rack).natAbs - 4096) ∧
      (t.et.rate * 20 + t.et.rateFine - (s.et.rate * 20 + s.et.rateFine)).natAbs ≤ 16 ∧
      t.et.span = decide (fld t.et.ctrl.eff 1 0 = 1 ∧ t.sp.source ≠ 0) ∧ Only [.et, .xg, .sp] s t) ∧
  (∀ s : State, s.sys.epoch = true → s.now % 256 = 0 → s.et.stepAt ≠ some s.now → s.suspended = true →
    ∃ t, exec .ergWindowDiscipline s = .next t ∧ t.et.rack = s.et.rack ∧ t.et.rate = s.et.rate ∧ t.et.rateFine = s.et.rateFine ∧
      t.et.ctrl = s.et.ctrl.tick s.now ∧ Only [.et, .xg, .sp] s t) ∧
  (∀ s : State, s.sys.epoch = true → s.now % 256 = 0 → s.et.stepAt ≠ some s.now → s.et.xtalLost = true → s.et.holdover = true →
    bitOf (s.et.ctrl.tick s.now).eff 2 = false →
    ∃ t, exec .ergWindowDiscipline s = .next t ∧ t.et.rack = s.et.rack ∧ t.et.rate = s.et.rate ∧ t.et.holdover = true ∧
      Only [.et, .xg, .sp] s t) ∧
  (∀ s : State, s.sys.epoch = true → s.now % 256 = 0 → s.et.stepAt ≠ some s.now → s.et.xtalLost = true → s.et.holdover = true →
    fld (s.et.ctrl.tick s.now).eff 1 0 = s.discSrc → bitOf (s.et.ctrl.tick s.now).eff 2 = true →
    s.suspended = false →
    s.eligible s.sp.p0 = true ∨ s.eligible s.sp.p1 = true →
    ∃ t, exec .ergWindowDiscipline s = .next t ∧ t.et.holdover = false ∧ t.et.span = true ∧ Only [.et, .xg, .sp] s t) ∧
  (∀ (a : Nat) (s : State), s.et.idleFrom = some a → a + 1000000000 ≤ s.now →
    exec .rackAdoptIdle s = .next { s with et := { s.et with adoptNext := true } }) ∧
  (∀ s : State, s.sys.pkgReset = false → s.et.xtalLost = false →
    ∃ t, exec .xtalLoss s = .next t ∧ t.et = { s.et with xtalLost := true, holdover := true, span := false, lossAt := some s.now } ∧
      t.ev = (s.raise evErgHoldover 0).ev ∧ Only [.et, .ev] s t) ∧
  (∀ s : State, s.sys.pkgReset = false → s.et.xtalLost = true →
    exec .xtalLoss s = .next { s with et := { s.et with lossAt := some s.now } }) ∧
  (∀ (s : State) (at0 : Nat), s.et.xtalLost = true → s.et.lossAt = some at0 → at0 + 10000000 ≤ s.now →
    ∃ t, exec .xtalRestored s = .next t ∧ t.et = { s.et with
        xtalLost := false, holdover := false, lossAt := none, ownTo := none
        rateTo := if fld s.et.ctrl.eff 1 0 = 0 then 0 else if fld s.et.ctrl.eff 1 0 = 1 then s.et.rateTo else s.et.ownTo.getD s.et.rateTo
        span := s.et.span && decide (fld s.et.ctrl.eff 1 0 = 1) } ∧
      t.ev = (s.raise evXtalRestored 0).ev ∧ Only [.et, .ev] s t)

/-- A region fence (R340, R351, R352, R354). At its F the first armed fence takes its layers into force; its image's slot reads in force,
its handle ends COMPLETED, or its mailbox answers with F; a register whose composed value changes takes the changed fields and keeps the
others, and one whose value does not change stays. F is the first multiple of 4,096 ns far enough ahead and after every armed fence. The
model's own choices that it rests on: log 31, 67. -/
def Obligations.FencesTakeEffect : Prop :=
  (∀ (e : Fence) (es : List Fence) (s : State), s.cfg.fences = e :: es → e.f ≤ s.now →
    ∃ t, exec .regionFence s = .next t ∧ t.cfg.layers = e.layers ∧ t.cfg.fences = es ∧ t.cfg.lastFence = e.f ∧
      t.cfg.orders = s.cfg.orders + 1 ∧
      (∀ id h o, e.kind = .overlay id h → (s.handle h).op = some o →
        (t.handle h).op = some { o with st := .done, outcome := .completed, final := 0, done := s.now }) ∧
      (∀ k old x, e.kind ≠ .boot → e.throttle = false → (∀ id m, e.kind ≠ .withdraw id m) → k < 16 → e.image = some (k, old, x) →
        t.slot k = { x with state := .inForce }) ∧
      (∀ m d, e.kind = .mode m d → (s.box m).st = .working →
        (t.box m).st = .responded ∧ (t.box m).resp = trim (respBytes (s.box m).req (okReply (toLE 8 e.f)) false false)) ∧
      (e.kind = .boot → t.sys.bootStep = 9) ∧ (e.kind ≠ .boot → t.sys.bootStep = s.sys.bootStep) ∧
      (let va := composedAt (s.recsOf s.cfg.layers) s.cfg.layers.mode (.glob 6 0)
       let vb := composedAt (s.recsOf e.layers) e.layers.mode (.glob 6 0)
       let m := changedBits va vb [(7, 4), (0, 0)]
       (m = 0 → t.xg.ctrl = s.xg.ctrl) ∧
       (m ≠ 0 → t.xg.ctrl = s.xg.ctrl.force e.f (word ((s.xg.ctrl.img.toNat &&& (0xFFFFFFFF - m)) ||| (vb &&& m)))))) ∧
  (∀ (e : Fence) (es : List Fence) (s : State), s.cfg.fences = e :: es → s.now < e.f → exec .regionFence s = .next s) ∧
  (∀ (d : Nat) (s : State), s.now + d ≤ s.fenceTime d ∧ (s.cfg.fences = [] → s.fenceTime d < s.now + d + 4096) ∧
    (∀ es e, s.cfg.fences = es ++ [e] → e.f + 4096 ≤ s.fenceTime d) ∧
    ((∀ e ∈ s.cfg.fences, e.f % 4096 = 0) → s.fenceTime d % 4096 = 0))

/-- Changes of configuration (R335, R345, R348, R350, R354-R357, R418). An overlay that passes the check has its fence armed 20,000 ns ahead
and its slot awaiting it, and one that does not ends its handle FAILED with REFUSED; OVERLAY_WITHDRAW and MODE_SET wait for their fence; a
Limp trigger arms one 4,096 ns ahead, or waits for the end of hold; a stored overlay with a lost word is gone, and a base with one is read
again where its boot-source slot still serves it and it verifies, and lost otherwise. The model's own choices that it rests on: log 31, 32,
67. -/
def Obligations.ChangesAreArmed : Prop :=
  (∀ (q : Req) (i k : Nat) (s : State), ready s 0x0A02 q = true → q.level = false → s.slotOf (q.le 0 2) = some k → q.le 4 4 = 0 →
    (s.slot k).state = .stored → s.changing = false → s.freeHandle (decide (q.mbx = 7)) = some i →
    let o : LongOp := { newOp .overlayApply .running s.now with
      target := q.le 0 2, step := 3, starter := some q.mbx, start := s.now, timer := s.now, async := bitOf (q.flags.setWidth 32) 3 }
    let v := (posted s 0x0A02 q).modHandle i fun h => { h with op := some o }
    exec (.overlayApply q) s =
      .next ((v.applyOverlay i (s.slot k)).answer q.mbx { status := 0x01, handle := some (s.handleNo i) })) ∧
  (∀ (q : Req) (i : Nat) (s : State), ready s 0x0A02 q = true → q.level = true → q.le 0 2 = 0 → 1 ≤ q.le 4 4 → q.le 4 4 ≤ 12288 →
    s.changing = false → s.freeHandle (decide (q.mbx = 7)) = some i →
    ∃ t, exec (.overlayApply q) s = .next (t.answer q.mbx { status := 0x01, handle := some (s.handleNo i) }) ∧
      t.cfg = { s.cfg with staging := [] } ∧
      (∃ o, t.handle i = { gen := (s.handle i).gen, op := some o } ∧ o.kind = .overlayApply ∧ o.st = .receiving ∧ o.total = q.le 4 4 ∧
        o.received = 0 ∧ o.starter = some q.mbx) ∧ (∀ j, j ≠ i → t.handle j = s.handle j) ∧ Only [.mbx, .cfg] s t) ∧
  (∀ (v : State) (h k : Nat) (x : Slot) (o : LongOp), v.slotOf x.id = some k → (v.handle h).op = some o →
    let l := v.nextLayers
    let n := v.withOverlay l x (v.cfg.orders + v.cfg.fences.length + 1)
    let t := v.applyOverlay h x
    (v.changeBarred x.id = false → l.mode ≠ 0 → v.passes l n true = true →
      t.cfg.fences = v.cfg.fences ++
        [⟨v.fenceTime 20000, .overlay x.id h, n, some (k, v.slot k, { x with
          state := .inForce, damaged := false, top := max x.top (v.slot k).top }), false, 0⟩] ∧
      (k < 16 → t.slot k = { x with
        state := .awaiting, damaged := false, order := v.cfg.orders + 1, top := max x.top (v.slot k).top }) ∧
      (t.handle h).op = some { o with step := 4, target := x.id } ∧ Only [.mbx, .cfg] v t) ∧
    (v.changeBarred x.id = true ∨ l.mode = 0 ∨ v.passes l n true = false →
      t.cfg = v.cfg ∧ (t.handle h).op = some { o with st := .done, outcome := .failed, final := 0x50, done := v.now } ∧ Only [.mbx] v t)) ∧
  (∀ (q : Req) (s : State), ready s 0x0A03 q = true →
    let v := posted s 0x0A03 q
    let l := v.nextLayers
    let n := v.withoutOverlay l (q.le 0 2)
    let f := v.fenceTime 20000
    q.le 0 2 ≠ 0 → v.layerHas l (q.le 0 2) = true → v.changing = false → v.passes l n true = true →
    exec (.overlayWithdraw q) s =
      .next ((v.arm ⟨f, .withdraw (q.le 0 2) q.mbx, n, none, false, 0⟩).modBox q.mbx fun b => { b with wait := some (.fence f) })) ∧
  (∀ (q : Req) (b : Base) (rs : List Rec) (s : State), ready s 0x0A04 q = true →
    let v := posted s 0x0A04 q
    let l := v.nextLayers
    let m := q.u8 0
    let n : Layers := { l with mode := m, modeRecs := rs }
    let f := v.fenceTime 20000
    1 ≤ m → m ≤ 5 → v.changing = false → s.cfg.base = some b → ((b.modes.find? (·.1 == m)).map (·.2)) = some rs →
    m = 5 ∨ v.limpTrigger = none →
    (l.mode ≠ m → v.changeBarred 0 = false → v.passes l n true = true →
      exec (.modeSet q) s = .next ((v.arm ⟨f, .mode q.mbx m, n, none, false, 0⟩).modBox q.mbx fun b => { b with wait := some (.fence f) })) ∧
    (l.mode = m → s.cfg.fences = [] → exec (.modeSet q) s = .next (v.answer q.mbx (okReply (toLE 8 s.cfg.lastFence))))) ∧
  (∀ (q : Req) (s : State), ready s 0x0A01 q = true →
    exec (.configQuery q) s = .next ((posted s 0x0A01 q).answer q.mbx (okReply (toLE 1 s.cfg.layers.mode ++
      toLE 1 ((List.range 16).filter fun k => decide ((s.slot k).state = .inForce)).length ++ zeros 2 ++
      toLE 4 ((s.cfg.base.map (·.version.toNat)).getD 0) ++
      (List.range 16).flatMap fun k => toLE 2 (s.slot k).id ++ toLE 1 (s.slot k).state.code ++ zeros 1 ++ toLE 4 (s.slot k).version.toNat)))) ∧
  (∀ (tr : Nat) (s : State), s.limpTrigger = some tr → s.active.isSome = true → s.sys.bootStep = 11 → s.sys.hold = 0 →
    s.nextLayers.mode ≠ 5 → s.passes s.nextLayers (s.limpLayers s.nextLayers) false = true → s.cfg.fences = [] →
    exec .limpEnter s = .next (s.arm ⟨s.fenceTime 4096, .limp, s.limpLayers s.cfg.layers, none, false, tr⟩)) ∧
  (∀ (tr : Nat) (s : State), s.limpTrigger = some tr → s.active.isSome = true → s.sys.bootStep = 11 → s.sys.hold ≠ 0 →
    s.nextLayers.mode ≠ 5 → s.sys.limpDue = 0 → exec .limpEnter s = .next { s with sys := { s.sys with limpDue := tr } }) ∧
  (∀ (a : Nat) (s : State), s.sns.severe = some a → a + 1000000000 ≤ s.now → s.active.isSome = true → s.sys.bootStep = 11 → s.sys.hold = 0 →
    s.nextLayers.mode ≠ 5 → s.passes s.nextLayers (s.limpLayers s.nextLayers) false = true → s.cfg.fences = [] →
    exec .severeSustained s = .next (s.arm ⟨s.fenceTime 4096, .limp, s.limpLayers s.cfg.layers, none, false, 5⟩)) ∧
  (∀ (k : Fin 16) (s : State), (s.slot k).state = .stored →
    ∃ t, exec (.configWordLost (.slot k)) s = .next t ∧ t.slot k = { top := (s.slot k).top } ∧ (∀ j, j ≠ k.val → t.slot j = s.slot j) ∧
      t.ev = (s.raise evConfigLost 0).ev ∧ Only [.cfg, .ev] s t) ∧
  (∀ (k : Fin 16) (s : State), (s.slot k).state = .inForce ∨ (s.slot k).state = .awaiting →
    ∃ t, exec (.configWordLost (.slot k)) s = .next t ∧ t.slot k = { s.slot k with damaged := true } ∧
      (∀ j, j ≠ k.val → t.slot j = s.slot j) ∧ Only [.cfg] s t) ∧
  (∀ s : State, s.cfg.base = none ∨ s.rereads = true ∨ s.cfg.lost = true → exec (.configWordLost .base) s = .next s) ∧
  (∀ (b : Base) (s : State), s.cfg.base = some b → s.rereads = false → s.cfg.lost = false →
    ∃ t, exec (.configWordLost .base) s = .next t ∧ t.cfg = { s.cfg with lost := true, base := some { b with damaged := true } } ∧
      t.ev = (s.raise evConfigLost 0).ev ∧ Only [.cfg, .ev] s t)

/-- FORECAST_PORT_WRITE and FORECAST_STALE (R79, R80, R82, R97, Table 3-3): an accepted word joins the queue, or is folded at once where
4,096 wait; a late one counts as stale; a word without VALID, with reserved bits or too far ahead is rejected, and every word is while
Hawkmoth is disabled; a word behind others joins their lane, and a full lane stalls the port; a lane that is fenced or torn refuses the
word, which is counted (R81, R194, R207). Nothing stored changes when a district's forecast goes stale. FORECAST_MERGE and FORECAST_POST
(R78, R80, R325). The two oldest words leave the queue; each cell of the board that a word covers, from the present window on, takes the
larger level, and no other cell changes. FORECAST_POST takes all its words, or none where one is rejected, and waits while the queue of one
of their districts is full, or where the merger has folded its 2 words past a full queue in this engine cycle (R81). The model's own choices
that it rests on: log 37, 65. -/
def Obligations.ForecastsArriveAndMerge : Prop :=
  (∀ (die : Fin 8) (x : BitVec 64) (s : State), s.clocked (regionNo die.val 0) = true →
    s.xState (xId 6 (wordDistrict x * 256 + die.val)) = .whole → s.fqAt (wordDistrict x) die = [] → s.fqRoom = true →
    ∃ t, exec (.forecastPortWrite die x) s = .next t ∧
      (s.hmOn = false → t.hm = { s.hm with reject := sat16 s.hm.reject 1 }) ∧
      (s.hmOn = true → bitAt x.toNat 56 = false ∨ bits x.toNat 63 57 ≠ 0 → t.hm = { s.hm with reject := sat16 s.hm.reject 1 }) ∧
      (s.hmOn = true → bitAt x.toNat 56 = true → bits x.toNat 63 57 = 0 → wordWin s.win x + 7 < s.win →
        t.hm = { s.hm with stale := sat16 s.hm.stale 1 }) ∧
      (s.hmOn = true → bitAt x.toNat 56 = true → bits x.toNat 63 57 = 0 → (s.win : Int) + 64 < wordWin s.win x →
        t.hm = { s.hm with reject := sat16 s.hm.reject 1 }) ∧
      (s.hmOn = true → bitAt x.toNat 56 = true → bits x.toNat 63 57 = 0 → (s.win : Int) ≤ wordWin s.win x + 7 →
        wordWin s.win x ≤ s.win + 64 → s.hm.queue.length < 4096 →
        t.hm = { s.hm with
          accept := s.hm.accept + 1, queue := s.hm.queue ++ [(x, wordWin s.win x)]
          lastAcc := Map.put none s.hm.lastAcc (wordDistrict x) (some s.win) }) ∧
      (s.hmOn = true → bitAt x.toNat 56 = true → bits x.toNat 63 57 = 0 → (s.win : Int) ≤ wordWin s.win x + 7 →
        wordWin s.win x ≤ s.win + 64 → 4096 ≤ s.hm.queue.length →
        t.hm.accept = s.hm.accept + 1 ∧ t.hm.merge = s.hm.merge + 1 ∧ t.hm.queue = s.hm.queue ∧
          t.hm.board = (s.foldWord x (wordWin s.win x)).hm.board) ∧ Only [.hm] s t) ∧
  (∀ (die : Fin 8) (x : BitVec 64) (s : State), s.clocked (regionNo die.val 0) = true →
    s.xState (xId 6 (wordDistrict x * 256 + die.val)) = .whole → s.fqAt (wordDistrict x) die ≠ [] ∨ s.fqRoom = false →
    ((s.fqAt (wordDistrict x) die).length ≤ 16 →
      ∃ t, exec (.forecastPortWrite die x) s = .next t ∧ t.fqAt (wordDistrict x) die = s.fqAt (wordDistrict x) die ++ [x] ∧ Only [.xg] s t) ∧
    (16 < (s.fqAt (wordDistrict x) die).length → exec (.forecastPortWrite die x) s = .next s)) ∧
  (∀ (die : Fin 8) (x : BitVec 64) (s : State), s.clocked (regionNo die.val 0) = true →
    let id := xId 6 (wordDistrict x * 256 + die.val)
    s.xState id ≠ .whole →
    ∃ t, exec (.forecastPortWrite die x) s = .next t ∧ (t.xing id).drop = sat16 (s.xing id).drop 1 ∧ Only [.xg] s t) ∧
  (∀ (d : Fin 256) (a : Nat) (s : State), Map.get none s.hm.lastAcc d = some a → a + s.fcStale ≤ s.win →
    exec (.forecastStale d) s = .next s ∧ s.isStale d = true) ∧
  (∀ (x y : BitVec 64) (w v : Int) (rest : List (BitVec 64 × Int)) (s : State), s.hm.queue = (x, w) :: (y, v) :: rest →
    ∃ t, exec .forecastMerge s = .next t ∧ t.hm.queue = rest ∧ t.hm.head = s.hm.head + 2 ∧
      t.hm.board = ((s.foldWord x w).foldWord y v).hm.board ∧
      t.hm = { s.hm with queue := t.hm.queue, head := t.hm.head, board := t.hm.board } ∧ Only [.hm] s t) ∧
  (∀ (x : BitVec 64) (w : Int) (s : State), Map.wf 0 s.hm.board = true →
    Map.wf 0 (s.foldWord x w).hm.board = true ∧
    (∀ k n : Nat, k < 8 → (n : Int) = w + k → s.win ≤ n →
      Map.get 0 (s.foldWord x w).hm.board (256 * n + wordDistrict x) =
        max (Map.get 0 s.hm.board (256 * n + wordDistrict x)) (wordLevel x k + 1)) ∧
    (∀ c : Nat, (∀ k n : Nat, k < 8 → (n : Int) = w + k → s.win ≤ n → c ≠ 256 * n + wordDistrict x) →
      Map.get 0 (s.foldWord x w).hm.board c = Map.get 0 s.hm.board c)) ∧
  (∀ (q : Req) (s : State), ready s 0x0301 q = true → s.hmOn = true → q.payload.length = 8 →
    arrival s.win (BitVec.ofNat 64 (q.le 0 8)) ≠ .reject → arrival s.win (BitVec.ofNat 64 (q.le 0 8)) ≠ .stale →
    s.fqFull (wordDistrict (BitVec.ofNat 64 (q.le 0 8))) = false → s.fqRoom = true →
    exec (.forecastPost q) s = .next (((posted s 0x0301 q).arrive (BitVec.ofNat 64 (q.le 0 8))).answer q.mbx
      (okReply (toLE 2 1 ++ toLE 2 0)))) ∧
  (∀ (q : Req) (s : State), ready s 0x0301 q = true → s.hmOn = true → q.payload.length = 8 →
    arrival s.win (BitVec.ofNat 64 (q.le 0 8)) ≠ .reject → s.fqFull (wordDistrict (BitVec.ofNat 64 (q.le 0 8))) = true ∨ s.fqRoom = false →
    exec (.forecastPost q) s = .next ((posted s 0x0301 q).modBox q.mbx fun b => { b with
      wait := some (.forecast [BitVec.ofNat 64 (q.le 0 8)] 1 0) })) ∧
  (∀ (q : Req) (s : State), ready s 0x0301 q = true → s.hmOn = true → q.payload.length = 8 →
    arrival s.win (BitVec.ofNat 64 (q.le 0 8)) = .reject →
    ∃ t, exec (.forecastPost q) s = .next (t.answer q.mbx (badArg 0)) ∧
      t.hm = { s.hm with reject := sat16 s.hm.reject 1 } ∧ Only [.mbx, .hm] s t)

/-- EVALUATION_START (R75, R76, R95, R411): at a multiple of 512 ns the governor computes G, and an enabled Hawkmoth outside hold makes a
record for every district, none of which is written yet; disabled or in hold it makes none, and its words will carry VOID. A district
without a model gets the neutral plan with REASON 1, and one whose model runs gets that model's trims. After a hold the first evaluation
lets what waited follow, once no joint reset is outstanding (R32). The request of the surge governor (R411): the least code of 160, 168,
..., 1280 at which the estimate is within the budget, and 1280 where none is; and the estimate never rises with the code. The model's own
choices that it rests on: log 37, 51. -/
def Obligations.EvaluationsBegin : Prop :=
  (∀ (bad : List (BitVec 16)) (s : State), s.sys.epoch = true → s.now % 512 = 0 → (∀ w, s.hm.next = some w → w.e ≠ s.now) →
    ∃ t, exec (.evaluationStart bad) s = .next t ∧
      (∃ w, t.hm.next = some w ∧ w.e = s.now ∧ w.g = t.hm.g ∧ w.tc.length = 23 ∧
        (w.void = true ↔ t.hmOn = false ∨ s.inHold = true ∨ s.active = none)) ∧
      (t.hmOn = true → s.inHold = false → s.active.isSome = true →
        t.hm.running = true ∧ ∃ v, t.hm.eval = some v ∧ v.e = s.now ∧ v.done = 0 ∧ v.recs.length = 256) ∧
      t.hm.enabled = t.hmOn ∧ (s.sys.follow = 1 → s.inHold = false → t.sys.follow = if s.resetDue then 2 else 0) ∧
      (t.hmOn = false ∨ s.inHold = true → t.hm.running = false ∧ t.hm.eval = none) ∧
      (s.sns.recvAt = none → t.hm.g = 256 ∧ t.hm.headroom = 0) ∧ t.hm.front = s.hm.front ∧
      Only [.sys, .mbx, .reg, .hm, .cal, .sns, .cfg, .ev] s t) ∧
  (∀ (d : Nat) (s : State), d ∉ s.hm.gap → followed s.hm.images d = none →
    (s.planFor d).1.neutral = true ∧ (s.planFor d).1.reason = 1 ∧ (s.planFor d).1.model = 0 ∧ (s.planFor d).1.valid = true ∧
      (s.planFor d).1.win0Erg = s.now + 768 ∧ (s.planFor d).1.trims.length = 16) ∧
  (∀ (d : Nat) (x : Image) (s : State), d ∉ s.hm.gap → followed s.hm.images d = some x → s.isStale d = false → x.state ≠ 1 →
    s.hm.failed = [] →
    (s.planFor d).1.neutral = false ∧ (s.planFor d).1.reason = 0 ∧ (s.planFor d).1.model = x.id ∧
      (s.planFor d).1.trims = (x.run (s.features d)).1 ∧ (s.planFor d).1.win0Erg = s.now + 768) ∧
  (∀ (base g h : Nat) (ts : List (Nat × Nat)), 0 < g → g ≤ h → estimate base ts h ≤ estimate base ts g) ∧
  (∀ (base beff : Nat) (ts : List (Nat × Nat)),
    (∃ k, k ≤ 140 ∧ govRequest base ts beff = 160 + 8 * k) ∧
    (estimate base ts 1280 ≤ beff → estimate base ts (govRequest base ts beff) ≤ beff) ∧
    (∀ k, 160 + 8 * k < govRequest base ts beff → beff < estimate base ts (160 + 8 * k)) ∧
    (beff < estimate base ts 1280 → govRequest base ts beff = 1280))

/-- PLAN_FLIP and EVALUATION_OVERRUN (R76, R92, R96, R98). At E + 448 the buffers flip: each district that has a record finds it in the
front buffer, another what the back buffer held, which is not the district's newest plan, and the words carry the plan; without records they
carry VOID and the buffers stay. A word that a region has not captured stays in transfer to it (R188, R189). An evaluation that overruns
keeps the records of the districts reached, and OVERRUN_CNT counts. PLAN_CAPTURE and VOID_RECEIVE (R92, R95). A clocked region outside a
stop takes the ceiling for the window that begins the plan, and the district's new plan before the older of those it holds; on VOID it drops
its plans, and the trim in force begins the ramp, unless one is under way. The capture frees the crossing for its next word (R188); a word
that has stayed in transfer is captured first. The model's own choices that it rests on: log 37, 51. -/
def Obligations.PlansAreFlippedAndCaptured : Prop :=
  (∀ (w : PlanWord) (v : Eval) (s : State), s.hm.next = some w → w.e + 448 ≤ s.now → s.inHold = false →
    bitOf s.hm.ctrl.img 0 = true → s.hm.eval = some v → v.recs.length ≤ 256 → Map.wf none s.hm.back = true → Map.wf none s.hm.last = true →
    (∀ d, d < v.done → Map.get none s.hm.back d = (v.recs[d]?).map (·.1)) →
    ∃ t, exec .planFlip s = .next t ∧ t.hm.word = some { w with void := false } ∧ t.hm.eval = none ∧
      t.hm.flip = !s.hm.flip ∧ t.hm.back = s.hm.front ∧ t.hm.evalErg = word v.e ∧ t.hm.overLast = decide (v.recs.length < 256) ∧
      (∀ d, d < 256 → t.frontRec d = ((v.recs[d]?).map (·.1)).or (Map.get none s.hm.back d)) ∧
      (∀ d, d < 256 → t.lastRec d = ((v.recs[d]?).map (·.1)).or (s.lastRec d)) ∧ Map.wf none t.hm.front = true ∧
      (Regular s → ∀ r, t.rgn r = { s.rgn r with planTx := (t.rgn r).planTx }) ∧ (s.hm.word = none → Only [.hm] s t) ∧ Only [.reg, .hm] s t) ∧
  (∀ (w : PlanWord) (s : State), s.hm.next = some w → w.e + 448 ≤ s.now → s.inHold = true ∨ bitOf s.hm.ctrl.img 0 = false →
    s.hm.eval.isSome = true →
    ∃ t, exec .planFlip s = .next t ∧ t.hm.word = some { w with void := true } ∧ t.hm.eval = none ∧ t.hm.sent = [] ∧
      t.hm.front = s.hm.front ∧ t.hm.back = s.evalNow.hm.back ∧ t.hm.flip = s.hm.flip ∧
      (Regular s → ∀ r, t.rgn r = { s.rgn r with planTx := (t.rgn r).planTx }) ∧ (s.hm.word = none → Only [.hm] s t) ∧ Only [.reg, .hm] s t) ∧
  (∀ (r : RegionNo) (w x : PlanWord) (s : State), Regular s → s.hm.next = some w → w.e + 448 ≤ s.now → s.hm.word = some x → x.e ≠ w.e →
    s.regionExists r = true → s.planWaits r = true → (s.rgn r).planTx = none → s.xState (xId 4 r) = .whole →
    ∃ t, exec .planFlip s = .next t ∧ (t.rgn r).planTx = some ⟨x, s.planCarried r x, x.e + 448⟩) ∧
  (∀ (d : Fin 256) (v : Eval) (s : State), s.hm.eval = some v → v.e + 447 ≤ s.now → v.recs.length = 256 →
    ∃ t, exec (.evaluationOverrun d) s = .next t ∧ t.hm.eval = some { v with recs := v.recs.take (max v.done d) } ∧ t.hm.overruns = sat16 s.hm.overruns 1 ∧
      t.hm.overLast = true ∧ (s.hm.overEv = none → t.ev = (s.raise evHmOverrun (sat16 s.hm.overruns 1)).ev ∧ t.hm.overEv = some v.e) ∧
      t.hm.front = s.hm.front ∧ Only [.hm, .ev] s t) ∧
  (∀ (r : RegionNo) (w : PlanWord) (p : PlanRec) (s : State), Regular s → s.hm.word = some w → (s.rgn r).planTx = none → w.void = false → s.captures r = true →
    s.frontRec (districtOf r) = some p → p.win0Erg = w.e + 768 →
    let win0 := (w.e + 768) / 256
    let c := max w.g (w.tc.getD (siteOf r) 160)
    ∃ t, exec (.planCapture r) s = .next t ∧ t.rgn r = { s.rgn r with
        govNext := some (c, win0), gotPlan := some (w.e, false)
        tx := (t.rgn r).tx, msgs := (t.rgn r).msgs, sent := (t.rgn r).sent
        plans := (⟨win0, p.trims, c⟩ :: (s.rgn r).plans.filter fun x => decide (x.win0 ≠ win0)).take 2 } ∧
      (∀ r', r' ≠ r → t.rgn r' = s.rgn r') ∧ Only [.reg] s t) ∧
  (∀ (r : RegionNo) (x : PlanXfer) (s : State), Regular s → (s.rgn r).planTx = some x → s.captures r = true →
    ∃ t, exec (.planCapture r) s = .next t ∧ (t.rgn r).planTx = none ∧ (t.rgn r).gotPlan = some (x.w.e, x.w.void) ∧
      (t.rgn r).govNext = some (max x.w.g (x.w.tc.getD (siteOf r) 160), (x.w.e + 768) / 256) ∧
      (∀ r', r' ≠ r → t.rgn r' = s.rgn r') ∧ Only [.reg] s t) ∧
  (∀ (r : RegionNo) (w : PlanWord) (s : State), Regular s → s.hm.word = some w → (s.rgn r).planTx = none → w.void = true → s.captures r = true →
    (s.rgn r).plans ≠ [] →
    ∃ t, exec (.voidReceive r) s = .next t ∧ t.rgn r = { s.rgn r with
        govNext := some (max w.g (w.tc.getD (siteOf r) 160), (w.e + 768) / 256), gotPlan := some (w.e, true)
        tx := (t.rgn r).tx, msgs := (t.rgn r).msgs, sent := (t.rgn r).sent
        plans := [], ramp := some ((s.rgn r).ramp.getD ⟨(s.rgn r).win + 1, (s.rgn r).trim⟩) } ∧
      (∀ r', r' ≠ r → t.rgn r' = s.rgn r') ∧ Only [.reg] s t)

/-- Columns (R98, R99). One column is tested in a cadence, from E + 448 to E + 479. A test that passes only goes on to the next column; a
working column that fails is noted with EV_HM_COLUMN_FAIL and ends the evaluation, and with more columns failed than spare columns are left
HM_EN clears for good; Chrysalis maps a free spare in its place at an evaluation boundary. Models and the mode (R89, R97, R100, R325).
MODEL_ACTIVATE puts a copied image in force at an evaluation boundary and ends its handle COMPLETED; an expert MODEL_LOAD is ACCEPTED and
RECEIVING; MODEL_UNLOAD and HAWKMOTH_SET_MODE answer the boundary from which they hold. The model's own choices that it rests on: log 27,
37, 65, 67. -/
def Obligations.ColumnsModelsAndMode : Prop :=
  (∀ s : State, s.hm.running = true → bitOf s.hm.ctrl.eff 2 = true → 448 ≤ s.now % 512 → s.now % 512 ≤ 479 →
    s.hm.testedAt ≠ some (s.now - s.now % 512) →
    exec (.columnTest true) s = .next { s with hm := { s.hm with
      testCol := (s.hm.testCol + 1) % 66, testedAt := some (s.now - s.now % 512) } }) ∧
  (∀ (pass : Bool) (s : State), s.now % 512 < 448 ∨ 479 < s.now % 512 ∨ s.hm.testedAt = some (s.now - s.now % 512) →
    exec (.columnTest pass) s = .next s) ∧
  (∀ s : State, s.hm.running = true → bitOf s.hm.ctrl.eff 2 = true → 448 ≤ s.now % 512 → s.now % 512 ≤ 479 →
    s.hm.testedAt ≠ some (s.now - s.now % 512) → s.hm.exhausted = false → s.hm.testCol < 64 →
    s.hm.testCol ≠ s.hm.map0 → s.hm.testCol ≠ s.hm.map1 → s.hm.testCol ∉ s.hm.failed →
    ∃ t, exec (.columnTest false) s = .next t ∧ t.hm.testCol = s.hm.testCol + 1 ∧ t.hm.lastCol = s.hm.testCol ∧
      t.hm.failed = s.hm.failed ++ [s.hm.testCol] ∧ t.hm.eval = none ∧
      (s.hm.failed.length < s.hm.freeColumns → t.hm.ctrl = s.hm.ctrl ∧ t.ev = (s.raise evHmColumnFail s.hm.testCol).ev ∧ t.sys = s.sys) ∧
      (s.hm.freeColumns ≤ s.hm.failed.length → t.hm.exhausted = true ∧ bitOf t.hm.ctrl.img 0 = false ∧ t.sys = { s.sys with limp3 := true }) ∧
      Only [.sys, .hm, .ev] s t) ∧
  (∀ (c j : Nat) (rest : List Nat) (s : State), s.hm.failed = c :: rest → s.hm.freeColumn = some j → s.fw = true → s.now % 512 = 0 →
    exec .columnSpareMap s = .next (({ s with hm := { s.hm.setMap j c with failed := rest } } : State).raise evChrysalisDone
      (5 + at_ c 16))) ∧
  (∀ (x : Image) (h a : Nat) (o : LongOp) (s : State), s.hm.ready = some (x, h, a) → s.now % 512 = 0 → (s.handle h).op = some o →
    o.st = .running → a < s.now → s.sys.hold = 0 →
    ∃ t, exec (.modelActivate x.id) s = .next t ∧ t.hm = { s.hm with images := install s.hm.images x, ready := none } ∧
      x ∈ t.hm.images ∧ (∀ y ∈ t.hm.images, y.id = x.id → y = x) ∧
      (t.handle h).op = some { o with st := .done, outcome := .completed, final := 0, done := s.now } ∧ Only [.mbx, .hm] s t) ∧
  (∀ (q : Req) (i : Nat) (s : State), ready s 0x0304 q = true → q.level = true → 128 ≤ q.le 0 4 → q.le 0 4 ≤ 262144 →
    (s.findOp fun o => decide (o.kind = .modelLoad ∨ o.kind = .fwUpdate)) = none → s.freeHandle (decide (q.mbx = 7)) = some i →
    ∃ t, exec (.modelLoad q) s = .next (t.answer q.mbx { status := 0x01, handle := some (s.handleNo i) }) ∧
      t.hm = { s.hm with staging := [] } ∧
      (∃ o, t.handle i = { gen := (s.handle i).gen, op := some o } ∧ o.kind = .modelLoad ∧ o.st = .receiving ∧ o.total = q.le 0 4 ∧
        o.received = 0 ∧ o.starter = some q.mbx ∧ o.timer = s.now) ∧
      (∀ j, j ≠ i → t.handle j = s.handle j) ∧ Only [.mbx, .hm] s t) ∧
  (∀ (q : Req) (s : State), ready s 0x0305 q = true →
    (s.findOp fun o => decide (o.kind = .modelLoad ∧ o.target = (BitVec.ofNat 16 (q.le 0 2)).toNat ∧ o.target ≠ 0)) = none →
    (∃ x ∈ s.hm.images, x.id = BitVec.ofNat 16 (q.le 0 2)) →
    exec (.modelUnload q) s = .next (({ posted s 0x0305 q with hm := { s.hm with
      unload := s.hm.unload ++ [(BitVec.ofNat 16 (q.le 0 2), s.now)] } } : State).answer q.mbx (okReply (toLE 8 (nextAfter 512 s.now))))) ∧
  (∀ (q : Req) (s : State), ready s 0x0302 q = true → q.u8 0 ≤ 1 → (q.u8 0 = 1 → s.hm.exhausted = false) →
    ∃ t, exec (.hawkmothSetMode q) s = .next (t.answer q.mbx (okReply (toLE 8 (nextAfter 512 s.now)))) ∧
      bitOf t.hm.ctrl.img 0 = decide (q.u8 0 = 1) ∧ bitOf t.hm.ctrl.img 2 = bitOf s.hm.ctrl.img 2 ∧
      fld t.hm.ctrl.img 15 8 = (if q.u8 1 = 0 then fld s.hm.ctrl.img 15 8 else q.u8 1) ∧ t.hm.ctrl.eff = s.hm.ctrl.eff ∧
      t.hm = { s.hm with ctrl := t.hm.ctrl } ∧ Only [.mbx, .hm] s t) ∧
  (∀ (q : Req) (s : State), ready s 0x0303 q = true → q.u8 0 = 1 → q.tgt ≤ 255 →
    exec (.hawkmothQuery q) s = .next ((posted s 0x0303 q).answer q.mbx (okReply
      (toLE 2 (((followed s.hm.images q.tgt).map fun x => x.id.toNat).getD 0) ++ zeros 2 ++
        ((s.frontRec q.tgt).map PlanRec.bytes).getD (zeros 32)))))

/-- Controllers (R29, R278-R280). The active one's fault is noted and counted; a STANDBY takes over under hold cause 3, and with none the
cause is 4 and MLB_FAULT_N is asserted; the third fault retires a controller. A heartbeat less than 30 us old is no fault; a heartbeat adds
to the 8-bit count of its crossing's source (R192), and over a WHOLE crossing it is noted and the destination's total takes the difference.
Autonomous hold (R29-R32, R301). Requested while firmware runs, it begins with cause 2: requests in progress are answered by the responder,
no evaluation goes on and the next plan is void. Released, it ends at the first evaluation boundary after the release, and with it the pin's
causes that hold had; what waited for its end waits until evaluation has resumed and the joint resets are done; at boot boot is over then. A
faulted controller is reloaded at the release; 200 ms under cause 2 are told. The model's own choices that it rests on: log 2, 15, 39. -/
def Obligations.ControllersAndHold : Prop :=
  (∀ (c : Fin 2) (why : FaultKind) (s : State), s.sys.epoch = true → s.cfg.update = none → (s.ctrl (ctrlOf c)).st = .active →
    (why = .heartbeat → (s.ctrl (ctrlOf c)).beat + 30000 ≤ s.now) →
    let k := ctrlOf c
    ∃ t, exec (.controllerFault c why) s = .next t ∧
      t.ctl.fault = word (256 * b2n k + faultCode why) ∧ t.ctl.faultErg = word s.now ∧
      (t.ctrl k).faults = min 255 ((s.ctrl k).faults + 1) ∧
      ((s.ctrl k).faults < 2 → (t.ctrl k).st = .faulted) ∧
      (2 ≤ (s.ctrl k).faults → (t.ctrl k).st = .retired ∧ t.sys.limp1 = true ∧ FaultCause.retired (b2n k) ∈ t.sys.mlb) ∧
      ((s.ctrl (!k)).st = .standby → (t.ctrl (!k)).st = .active ∧ (t.ctrl (!k)).beat = s.now ∧ t.ctl.activeId = !k ∧
        t.ctl.takeover = true ∧ t.mbx.fwVer = (s.ctrl (!k)).version ∧ t.sys.hold = 3 ∧ t.sys.causeFrom = s.now) ∧
      ((s.ctrl (!k)).st ≠ .standby → t.ctrl (!k) = s.ctrl (!k) ∧ t.sys.hold = 4 ∧ FaultCause.hold4 ∈ t.sys.mlb) ∧
      Only [.sys, .ctl, .mbx, .reg, .hm, .et, .xg, .cal, .sns, .cfg, .die, .ev] s t) ∧
  (∀ (c : Fin 2) (s : State), s.now < (s.ctrl (ctrlOf c)).beat + 30000 → exec (.controllerFault c .heartbeat) s = .next s) ∧
  (∀ (c : Fin 2) (s : State), (s.ctrl (ctrlOf c)).st = .active ∨ (s.ctrl (ctrlOf c)).st = .standby →
    s.xState (xId 3 (if ctrlOf c then 5 else 3)) = .whole →
    let x := s.ctrl (ctrlOf c)
    let n := (x.hbSrc + 1) % 256
    ∃ t, exec (.controllerHeartbeat c) s = .next t ∧
      t.ctrl (ctrlOf c) = { x with beat := s.now, hbSrc := n, hbSnap := n, hbTot := x.hbTot + (n + 256 - x.hbSnap) % 256 } ∧
      t.ctrl (!(ctrlOf c)) = s.ctrl (!(ctrlOf c)) ∧ Only [.ctl] s t) ∧
  (∀ (c : Fin 2) (s : State), (s.ctrl (ctrlOf c)).st = .active ∨ (s.ctrl (ctrlOf c)).st = .standby →
    s.xState (xId 3 (if ctrlOf c then 5 else 3)) ≠ .whole →
    exec (.controllerHeartbeat c) s = .next (s.modCtrl (ctrlOf c) fun x => { x with hbSrc := (x.hbSrc + 1) % 256 })) ∧
  (∀ s : State, s.fw = true →
    ∃ t, exec .holdRequest s = .next t ∧ t.sys.hold = 2 ∧ t.sys.holdFrom = s.now ∧ t.sys.causeFrom = s.now ∧ t.sys.released = none ∧
      t.hm = { s.evalNow.hm with eval := none, next := s.hm.next.map fun w => { w with void := true } } ∧
      (∀ m : Fin 8, m ≠ 7 → (s.box m).st = .posted ∨ (s.box m).st = .working → (t.box m).st = .responded ∧ (t.box m).wait = none) ∧
      t.cfg.fences = [] ∧ (∀ i : Fin 23, (s.dieAt i).st = .rejoining → (s.dieAt i).joinAt.isSome = true →
        (t.dieAt i).st = .lost ∧ (t.dieAt i).joinAt = none) ∧
      Only [.sys, .mbx, .reg, .hm, .et, .xg, .cal, .sns, .cfg, .die, .ev] s t) ∧
  (∀ s : State, s.fw = false → exec .holdRequest s = .next s) ∧
  (∀ s : State, s.active.isSome = true → s.sys.hold ≠ 0 → s.sys.released = none → 10 ≤ s.sys.bootStep →
    ∃ t, exec .holdRelease s = .next t ∧ t.sys = { s.sys with released := some s.now } ∧
      (∀ c, (s.ctrl c).st ≠ .faulted → t.ctrl c = s.ctrl c) ∧
      (∀ c, (s.ctrl c).st = .faulted → t.ctrl c = { s.ctrl c with st := .loading, copying := true, verified := false, loadFrom := some s.now }) ∧
      Only [.sys, .ctl] s t) ∧
  (∀ (a : Nat) (s : State), s.sys.hold ≠ 0 → s.sys.released = some a → a < s.now → s.now % 512 = 0 →
    ∃ t, exec .holdExit s = .next t ∧ t.sys.hold = 0 ∧ t.sys.released = none ∧ t.sys.overrun = false ∧
      t.sys.follow = 1 ∧ t.suspended = true ∧ t.ctl.takeover = false ∧
      FaultCause.hold4 ∉ t.sys.mlb ∧ FaultCause.holdOverrun ∉ t.sys.mlb ∧ FaultCause.bootOverrun ∉ t.sys.mlb ∧
      (s.sys.bootStep = 10 → t.sys.bootStep = 11 ∧ t.sys.bootedAt = some s.now) ∧
      (s.sys.bootStep ≠ 10 → t.sys.bootStep = s.sys.bootStep) ∧
      Only [.sys, .ctl, .mbx, .cfg, .ev] s t) ∧
  (∀ s : State, s.now % 512 ≠ 0 → exec .holdExit s = .next s) ∧
  (∀ s : State, s.sys.hold = 2 → s.sys.overrun = false → s.sys.causeFrom + 200000000 ≤ s.now →
    ∃ t, exec .holdOverrun s = .next t ∧ t.sys.overrun = true ∧ FaultCause.holdOverrun ∈ t.sys.mlb ∧ t.sys.hold = 2 ∧
      t.ev = (s.raise evHoldOverrun 2).ev ∧ Only [.sys, .mbx, .ev] s t)

/-- Firmware images and reloads (R279-R284, R422). At boot controller 0 runs the best image that verifies; where none does, or its self-test
fails, the role passes on, and with neither MLB_FAULT_N is asserted. A copied image makes its controller STANDBY, told; 40 ms without that
retire it; a lost source leaves the boot source to read. The model's own choices that it rests on: log 7, 38, 39, 67. -/
def Obligations.FirmwareIsLoaded : Prop :=
  (∀ (bs : Bytes) (s : State), (s.ctrl false).st = .loading → (s.ctrl false).copying = false → (s.ctrl false).verified = false →
    (s.ctrl false).bootFail = false → s.sys.bootStep = 4 → pickFw s.bootImages = some bs →
    ∃ t, exec (.imageVerified 0 .boot true) s = .next t ∧ (t.ctrl false).st = .active ∧ (t.ctrl false).version = fwVersion bs ∧
      t.ctl.activeId = false ∧ t.mbx.fwVer = fwVersion bs ∧ t.sys.bootStep = 6 ∧
      ((s.ctrl true).bootFail = false → (t.ctrl true).copying = true)) ∧
  (∀ (selfTest : Bool) (s : State), (s.ctrl false).st = .loading → (s.ctrl false).copying = false → (s.ctrl false).verified = false →
    (s.ctrl false).bootFail = false → s.sys.bootStep = 4 → pickFw s.bootImages = none ∨ selfTest = false →
    ∃ t, exec (.imageVerified 0 .boot selfTest) s = .next t ∧ (t.ctrl false).bootFail = true ∧ (t.ctrl false).st = .loading ∧
      t.sys.bootStep = 4 ∧ ((s.ctrl true).bootFail = true → FaultCause.noImage ∈ t.sys.mlb)) ∧
  (∀ (c : Fin 2) (bs : Bytes) (s : State), (s.ctrl (ctrlOf c)).st = .loading → (s.ctrl (ctrlOf c)).copying = false →
    (s.ctrl (ctrlOf c)).verified = false → (s.ctrl (ctrlOf c)).bootFail = false → 4 < s.sys.bootStep → pickFw s.bootImages = some bs →
    ∃ t, exec (.imageVerified c .boot true) s = .next t ∧
      t.ctrl (ctrlOf c) = { (s.ctrl (ctrlOf c)).load bs with verified := true } ∧ (t.ctrl (ctrlOf c)).version = fwVersion bs ∧
      t.ctrl (!(ctrlOf c)) = s.ctrl (!(ctrlOf c)) ∧ t.sys = s.sys) ∧
  (∀ (c : Fin 2) (s : State), (s.ctrl (ctrlOf c)).st = .loading → (s.ctrl (ctrlOf c)).copying = true → (s.ctrl (!(ctrlOf c))).st = .active →
    exec (.imageVerified c .copy true) s =
      .next (s.modCtrl (ctrlOf c) fun y => { y with
        version := (s.ctrl (!(ctrlOf c))).version, iram := (s.ctrl (!(ctrlOf c))).iram, dram := (s.ctrl (!(ctrlOf c))).dram })) ∧
  (∀ (c : Fin 2) (s : State), (s.ctrl (ctrlOf c)).st = .loading → (s.ctrl (ctrlOf c)).bootFail = false → (s.ctrl (ctrlOf c)).copying = true →
    (s.ctrl (!(ctrlOf c))).st = .active → bitOf s.ctl.ctrl 0 = true →
    let k := ctrlOf c
    ∃ t, exec (.controllerReloadDone c) s = .next t ∧ (t.ctrl k).st = .standby ∧ (t.ctrl k).version = (s.ctrl (!k)).version ∧
      (t.ctrl k).verified = true ∧ (t.ctrl k).beat = s.now ∧ (t.ctrl k).faults = (s.ctrl k).faults ∧ (t.ctrl k).loadFrom = none ∧
      t.ctrl (!k) = s.ctrl (!k) ∧ FaultCause.retired (b2n k) ∉ t.sys.mlb ∧ t.ev = (s.raise evCtrlStandbyReady (b2n k)).ev ∧
      Only [.sys, .ctl, .mbx, .reg, .cal, .ev] s t) ∧
  (∀ (c : Fin 2) (s : State), (s.ctrl (ctrlOf c)).st = .loading → (s.ctrl (ctrlOf c)).bootFail = false → (s.ctrl (ctrlOf c)).copying = false →
    (s.ctrl (ctrlOf c)).verified = true → bitOf s.ctl.ctrl 0 = true → s.sys.hold = 4 → s.active = none →
    ∃ t, exec (.controllerReloadDone c) s = .next t ∧ (t.ctrl (ctrlOf c)).st = .active ∧ t.ctl.activeId = ctrlOf c ∧
      t.ctl.takeover = true ∧ t.mbx.fwVer = (s.ctrl (ctrlOf c)).version ∧ t.sys.hold = 4) ∧
  (∀ (c : Fin 2) (a : Nat) (s : State), (s.ctrl (ctrlOf c)).st = .loading → (s.ctrl (ctrlOf c)).loadFrom = some a → a + 40000000 ≤ s.now →
    ∃ t, exec (.controllerReloadTimeout c) s = .next t ∧ (t.ctrl (ctrlOf c)).st = .retired ∧ t.ctrl (!(ctrlOf c)) = s.ctrl (!(ctrlOf c)) ∧
      t.sys.limp1 = true ∧ FaultCause.retired (b2n (ctrlOf c)) ∈ t.sys.mlb ∧ t.ev = (s.raise evCtrlRetired (b2n (ctrlOf c))).ev ∧
      Only [.sys, .ctl, .mbx, .ev] s t) ∧
  (∀ (c : Fin 2) (s : State), (s.ctrl (ctrlOf c)).st = .loading → (s.ctrl (ctrlOf c)).copying = true → (s.ctrl (!(ctrlOf c))).st ≠ .active →
    exec (.reloadSourceLost c) s = .next (s.modCtrl (ctrlOf c) fun x => { x with copying := false, loadFrom := some s.now }))

/-- A live update (R359-R362). FW_UPDATE from a boot slot is ACCEPTED, its image staged; once that verifies, with no request in progress the
update enters hold cause 2 with the new image ACTIVE and the outgoing controller STANDBY; an image that does not verify ends the handle
FAILED with VERIFY; in that hold a failure rolls back: the outgoing controller is ACTIVE under cause 3 and the new one is held in reset. The
model's own choices that it rests on: log 7, 39. -/
def Obligations.FirmwareIsUpdated : Prop :=
  (∀ (q : Req) (i : Nat) (s : State), ready s 0x0A05 q = true → q.level = false → q.u8 0 ≤ 3 → q.le 4 4 = 0 →
    (s.findOp fun o => decide (o.kind = .modelLoad ∨ o.kind = .fwUpdate)) = none → (s.ctrl (!s.ctl.activeId)).st = .standby →
    s.freeHandle (decide (q.mbx = 7)) = some i →
    ∃ t, exec (.fwUpdate q) s = .next (t.answer q.mbx { status := 0x01, handle := some (s.handleNo i) }) ∧
      t.cfg = { s.cfg with
        update := some ⟨i, 2, s.ctl.activeId, 0, (s.ctrl s.ctl.activeId).version, false⟩
        fwStage := (s.bootImages.getD (q.u8 0) none).getD []
        fwTop := max s.cfg.fwTop ((s.bootImages.getD (q.u8 0) none).getD []).length } ∧
      (∃ o, t.handle i = { gen := (s.handle i).gen, op := some o } ∧ o.kind = .fwUpdate ∧ o.st = .running ∧ o.step = 2 ∧
        o.starter = some q.mbx ∧ o.target = q.u8 0) ∧ (∀ j, j ≠ i → t.handle j = s.handle j) ∧ Only [.mbx, .cfg] s t) ∧
  (∀ (q : Req) (s : State), ready s 0x0A05 q = true → q.level = false → q.u8 0 ≤ 3 → q.le 4 4 = 0 →
    (s.findOp fun o => decide (o.kind = .modelLoad ∨ o.kind = .fwUpdate)) = none → (s.ctrl (!s.ctl.activeId)).st ≠ .standby →
    exec (.fwUpdate q) s = .next ((posted s 0x0A05 q).answer q.mbx { status := 0x10, retry := s.reloadUs (!s.ctl.activeId) })) ∧
  (∀ (c : Fin 2) (u : Update) (o : LongOp) (st : Bool) (s : State), s.cfg.update = some u → (s.handle u.handle).op = some o →
    o.st = .running → u.step = 2 → u.outgoing = !(ctrlOf c) → s.sys.hold = 0 → verifyFw s.cfg.fwStage = none →
    byteAt s.cfg.fwStage 6 = 1 →
    ∃ t, exec (.imageVerified c .staged st) s = .next t ∧
      t.cfg = { s.cfg with update := some { u with step := 3, version := fwVersion s.cfg.fwStage } } ∧
      (t.handle u.handle).op = some { o with step := 3 } ∧ Only [.mbx, .cfg] s t) ∧
  (∀ (c : Fin 2) (u : Update) (o : LongOp) (k : Nat) (st : Bool) (s : State), s.cfg.update = some u → (s.handle u.handle).op = some o →
    o.st = .running → u.step = 2 → u.outgoing = !(ctrlOf c) → s.sys.hold = 0 → verifyFw s.cfg.fwStage = some k →
    ∃ t, exec (.imageVerified c .staged st) s = .next t ∧ t.cfg = { s.cfg with update := none, fwStage := [] } ∧
      (t.handle u.handle).op = some { o with verify := k, st := .done, outcome := .failed, final := 0x61, done := s.now } ∧
      t.ctl.fault = word (256 * b2n (ctrlOf c) + 7)) ∧
  (∀ (u : Update) (o : LongOp) (s : State), s.cfg.update = some u → (s.handle u.handle).op = some o → o.st = .running → u.step = 3 →
    (s.ctrl u.outgoing).st = .active → (s.ctrl (!u.outgoing)).st = .standby → s.sys.hold = 0 →
    (∀ m : Fin 8, (s.box m).st ≠ .working) →
    ∃ t, exec .fwUpdateHoldEntry s = .next t ∧ t.sys.hold = 2 ∧ (t.ctrl u.outgoing).st = .standby ∧ (t.ctrl (!u.outgoing)).st = .active ∧
      (t.ctrl (!u.outgoing)).version = u.version ∧ t.mbx.fwVer = u.version ∧ t.ctl.activeId = !u.outgoing ∧
      t.cfg.update = some { u with step := 7, startedNew := true } ∧
      Only [.sys, .ctl, .mbx, .reg, .hm, .et, .xg, .cal, .sns, .cfg, .die, .ev] s t) ∧
  (∀ (u : Update) (o : LongOp) (why : RollbackWhy) (s : State), s.cfg.update = some u → (s.handle u.handle).op = some o →
    s.sys.hold = 2 → 3 ≤ u.step → (why = .overrun → s.sys.overrun = true) → (s.ctrl u.outgoing).st = .standby →
    ∃ t, exec (.fwRollback why) s = .next t ∧ t.sys.hold = 3 ∧ (t.ctrl (!u.outgoing)).st = .faulted ∧ (t.ctrl u.outgoing).st = .active ∧
      t.ctl.activeId = u.outgoing ∧ t.ctl.takeover = true ∧ t.cfg = { s.cfg with update := none, fwStage := [] } ∧
      (∃ p, (t.handle u.handle).op = some p ∧ p.st = .done ∧ p.outcome = .failed ∧
        p.final = (match why with
          | .schema => 0x62
          | .overrun => 0x40
          | .fatal => 0xF0)) ∧
      Only [.sys, .ctl, .mbx, .reg, .hm, .et, .xg, .cal, .sns, .cfg, .die, .ev] s t)

/-- The debug executor (R303, R280), on MBX7, whatever the controllers do. CTRL_HALT halts the active controller under hold cause 5,
CTRL_RESUME makes it ACTIVE again, CTRL_RESTART takes a FAULTED or RETIRED one to LOADING; DEBUG_READ and DEBUG_WRITE reach the fabric's
registers and Oasis, and bytes written to an area without a layout read back, and a read that meets a poisoned word has its consequence and
answers INTERNAL (R288). The model's own choices that it rests on: log 8, 19, 67. -/
def Obligations.TheDebugExecutor : Prop :=
  (∀ (q : Req) (c : Bool) (s : State), readyDebug s 0x0C12 q = true → s.active = some c →
    ∃ t, exec (.ctrlHalt q) s = .next (t.answer q.mbx okReply) ∧ (t.ctrl c).st = .halted ∧ t.ctrl (!c) = s.ctrl (!c) ∧ t.sys.hold = 5 ∧
      Only [.sys, .ctl, .mbx, .reg, .hm, .et, .xg, .cal, .sns, .cfg, .die, .ev] s t) ∧
  (∀ (q : Req) (s : State), readyDebug s 0x0C12 q = true → s.active = none →
    exec (.ctrlHalt q) s = .next ((posted s 0x0C12 q).answer q.mbx { status := 0x50 })) ∧
  (∀ (q : Req) (c : Bool) (s : State), readyDebug s 0x0C13 q = true → s.haltedCtrl = some c →
    exec (.ctrlResume q) s = .next (((posted s 0x0C13 q).modCtrl c fun x => { x with st := .active, beat := s.now }).answer q.mbx okReply)) ∧
  (∀ (q : Req) (s : State), Regular s → readyDebug s 0x0C14 q = true → q.u8 0 ≤ 1 →
    let c := decide (q.u8 0 = 1)
    (s.ctrl c).st = .faulted ∨ (s.ctrl c).st = .retired →
    ∃ t, exec (.ctrlRestart q) s = .next (t.answer q.mbx okReply) ∧ (t.ctrl c).st = .loading ∧ (t.ctrl c).copying = false ∧
      (t.ctrl c).verified = false ∧ (t.ctrl c).faults = (s.ctrl c).faults ∧ t.ctrl (!c) = s.ctrl (!c) ∧
      ((s.xing (xId 3 (if c then 5 else 3))).st ≠ .fenced →
        (s.xing (xId 3 (if c then 5 else 3))).e1 = (s.xing (xId 3 (if c then 5 else 3))).e2 →
        (t.xing (xId 3 (if c then 5 else 3))).st = .torn) ∧
      Only [.ctl, .mbx, .reg, .ls, .xg] s t) ∧
  (∀ (q : Req) (s : State), readyDebug s 0x0C10 q = true → q.u8 0 = 1 → q.le 4 4 % 4 = 0 → q.le 8 2 % 4 = 0 → 4 ≤ q.le 8 2 → q.le 8 2 ≤ 224 →
    exec (.debugRead q) s = .next ((posted s 0x0C10 q).answer q.mbx
      (okReply ((List.range (q.le 8 2 / 4)).flatMap fun i => toLE 4 (s.fabRead (q.le 4 4 + 4 * i)))))) ∧
  (∀ (q : Req) (s : State), readyDebug s 0x0C10 q = true → q.u8 0 = 0 → q.le 4 4 % 4 = 0 → q.le 8 2 % 4 = 0 → 4 ≤ q.le 8 2 → q.le 8 2 ≤ 224 →
    q.le 4 4 + q.le 8 2 ≤ 4194304 → (posted s 0x0C10 q).poisonedIn (q.le 4 4) (q.le 8 2) = none →
    exec (.debugRead q) s = .next (({ posted s 0x0C10 q with fresh := s.fresh + 1 } : State).answer q.mbx
      (okReply ((List.range (q.le 8 2)).map fun i => (posted s 0x0C10 q).oasisByte (q.le 4 4 + i))))) ∧
  (∀ (q : Req) (w : Nat) (s : State), readyDebug s 0x0C10 q = true → q.u8 0 = 0 → q.le 4 4 % 4 = 0 → q.le 8 2 % 4 = 0 → 4 ≤ q.le 8 2 →
    q.le 8 2 ≤ 224 → q.le 4 4 + q.le 8 2 ≤ 4194304 → (posted s 0x0C10 q).poisonedIn (q.le 4 4) (q.le 8 2) = some w →
    exec (.debugRead q) s = .next (((posted s 0x0C10 q).readLost w).answer q.mbx { status := 0xF0 })) ∧
  (∀ (q : Req) (s : State), readyDebug s 0x0C11 q = true → q.u8 0 = 1 → q.le 4 4 % 4 = 0 → q.le 8 2 = 4 →
    (posted s 0x0C11 q).debugAccepts (q.le 4 4) (word (q.le 16 4)) = true →
    exec (.debugWrite q) s =
      .next (((posted s 0x0C11 q).fabWrite (q.le 4 4) (word (q.le 16 4))).answer q.mbx okReply)) ∧
  (∀ (q : Req) (s : State), Map.wf 0 s.ctl.raw = true → readyDebug s 0x0C11 q = true → q.u8 0 = 0 → q.le 4 4 % 4 = 0 → q.le 8 2 % 4 = 0 →
    4 ≤ q.le 8 2 → q.le 8 2 ≤ 224 → 0x3CC000 ≤ q.le 4 4 → q.le 4 4 + q.le 8 2 ≤ 0x3FC000 →
    ∃ t, exec (.debugWrite q) s = .next (t.answer q.mbx okReply) ∧ Map.wf 0 t.ctl.raw = true ∧
      (∀ i, i < q.le 8 2 → t.oasisByte (q.le 4 4 + i) = BitVec.ofNat 8 (q.u8 (16 + i))) ∧
      (∀ w ∈ t.ctl.poison, w ∈ s.ctl.poison ∧ ¬(q.le 4 4 ≤ 8 * w ∧ 8 * w + 8 ≤ q.le 4 4 + q.le 8 2)) ∧ Only [.ctl, .mbx] s t)

/-- Oasis (R286-R288, Table 10-5). The scrubber reads while no requester waits. A scrubbed word counts toward its pass, a corrected one is
counted and charged to its row; a worn row takes a free spare row of its bank, told, or EV_SPARE_EXHAUSTED is; an uncorrectable word is
noted, told, and has its partition's consequence. The event log (R414, R415, R337). An event takes an entry of the ingress queue; the same
again within 1 us is counted in it; an INFO or NOTICE that finds 48 entries is dropped and counted. The arbiter, in an engine cycle in which
it serves the ingress, writes the oldest into the log under the next sequence number, over the oldest entry of a full one. EVENT_READ
answers up to 14 entries from one on that is held. The model's own choices that it rests on: log 17, 67. -/
def Obligations.OasisAndEventLog : Prop :=
  (∀ (w : Fin 524288) (corrected : Bool) (s : State), s.xg.arb.wait ≠ [] → exec (.oasisScrub w corrected) s = .next s) ∧
  (∀ (w : Fin 524288) (s : State), s.sys.pkgReset = false → s.xg.arb.wait = [] →
    ∃ t, exec (.oasisScrub w false) s = .next t ∧ t.ctl = { s.ctl with
        scrubbed := if s.ctl.scrubbed + 1 < 524288 then s.ctl.scrubbed + 1 else 0
        passes := if s.ctl.scrubbed + 1 < 524288 then s.ctl.passes else s.ctl.passes + 1 } ∧ Only [.ctl] s t) ∧
  (∀ (w : Fin 524288) (s : State), s.sys.pkgReset = false → s.xg.arb.wait = [] →
    ∃ t, exec (.oasisScrub w true) s = .next t ∧ t.ctl.ce = s.ctl.ce + 1 ∧ t.ctl.lastErr = word w.val ∧
      (Map.wf [] s.ctl.rowCe = true → Map.get [] t.ctl.rowCe (w.val / 512) = (s.now :: Map.get [] s.ctl.rowCe (w.val / 512)).take 255) ∧
      t.ctl.scrubbed = (if s.ctl.scrubbed + 1 < 524288 then s.ctl.scrubbed + 1 else 0) ∧ Only [.ctl] s t) ∧
  (∀ (row : Fin 1024) (j : Nat) (s : State), bitOf s.ctl.ctrl 1 = true → s.fw = true →
    s.rowWorn row = true ∨ row.val ∈ s.ctl.rowUe → s.freeRow (row.val % 16) = some j →
    ∃ t, exec (.oasisRowSpare row) s = .next t ∧ t.ctl.spareUse = s.ctl.spareUse ||| word (2 ^ (2 * (row.val % 16) + j)) ∧
      t.ctl.spared = sat16 s.ctl.spared 1 ∧ row.val ∉ t.ctl.rowUe ∧
      (Map.wf 0 s.ctl.rowMap = true → Map.get 0 t.ctl.rowMap row = 2 * (row.val % 16) + j + 1) ∧
      t.ctl.poison = s.ctl.poison ∧ t.ev = (s.raise evOasisRowSpared (512 * row.val)).ev ∧ Only [.ctl, .ev] s t) ∧
  (∀ (row : Fin 1024) (s : State), bitOf s.ctl.ctrl 1 = true → s.fw = true →
    s.rowWorn row = true ∨ row.val ∈ s.ctl.rowUe → s.freeRow (row.val % 16) = none →
    ∃ t, exec (.oasisRowSpare row) s = .next t ∧ t.ctl.spareUse = s.ctl.spareUse ∧ t.ctl.spared = s.ctl.spared ∧ row.val ∉ t.ctl.rowUe ∧
      t.ctl.rowMap = s.ctl.rowMap ∧ t.ev = (s.raise evSpareExhausted (6 + 65536 * (row.val % 16))).ev ∧ Only [.ctl, .ev] s t) ∧
  (∀ (w : Fin 524288) (s : State), s.sys.pkgReset = false →
    let noted : State := { s with ctl := { s.ctl with
      ue := sat16 s.ctl.ue 1, lastErr := word (2 ^ 31 + w.val), poison := addKey w.val s.ctl.poison, rowUe := addKey (w.val / 512) s.ctl.rowUe } }
    ((∃ o, placeOf (8 * w.val) = .seeds o) ∨ placeOf (8 * w.val) = .synthSets ∨ placeOf (8 * w.val) = .reserved ∨ (∃ i o, placeOf (8 * w.val) = .log i o) ∨
        (∃ o, placeOf (8 * w.val) = .overlay o) → exec (.oasisUe w) s = .next (noted.raise evOasisUe w)) ∧
    (∀ i o, placeOf (8 * w.val) = .anchor i o → (s.anchor i).state ≠ 0 → Regular s →
      ∃ t, exec (.oasisUe w) s = .next t ∧ t.ctl = noted.ctl ∧ t.anchor i = { gen := (s.anchor i).gen + 1 }) ∧
    (∀ m o bs, placeOf (8 * w.val) = .spill m o → (s.box m).spill = some bs → o < bs.length →
      ∃ t, exec (.oasisUe w) s = .next t ∧ t.ctl = noted.ctl ∧ t.box m = { s.box m with spill := none, spillLost := true } ∧
        t.ev = (s.raise evOasisUe w).ev ∧ Only [.ctl, .mbx, .ev] s t) ∧
    (∀ k, placeOf (8 * w.val) = .forecast k → s.queuePos k < s.hm.queue.length →
      ∃ t, exec (.oasisUe w) s = .next t ∧ t.ctl = noted.ctl ∧
        t.hm = { s.hm with queue := s.hm.queue.eraseIdx (s.queuePos k), reject := sat16 s.hm.reject 1 } ∧
        t.ev = (s.raise evOasisUe w).ev ∧ Only [.ctl, .hm, .ev] s t) ∧
    (∀ i o x, placeOf (8 * w.val) = .ledger i o → s.ringAt i = some x → Regular s →
      ∃ t, exec (.oasisUe w) s = .next t ∧ t.ctl = noted.ctl ∧ t.ringAt i = some (lrec x.region.toNat 8 0 x.cycle.toNat s.win) ∧
        t.et.loss = sat16 s.et.loss 1 ∧ t.ev = (s.raise evOasisUe w).ev ∧ Only [.ctl, .reg, .et, .ev] s t)) ∧
  (∀ (id : BitVec 10) (arg : Word) (sev : Nat) (s : State), s.sys.epoch = true → sevOf id.toNat = some sev →
    (∀ e, s.ev.last = some e → e.merges s.now id.toNat arg = false) → s.ev.queue.length < 48 → s.ev.latch = [] →
    ∃ t, exec (.eventRaise id arg) s = .next t ∧
      t.ev = { s.ev with queue := s.ev.queue ++ [⟨s.now, id.toNat, sev, 1, arg⟩], newest := 0 } ∧ Only [.ev] s t) ∧
  (∀ (id : BitVec 10) (arg : Word) (sev : Nat) (es : List Event) (e : Event) (s : State), s.sys.epoch = true → sevOf id.toNat = some sev →
    s.ev.newest = 0 → s.ev.queue = es ++ [e] → e.id = id.toNat → e.arg = arg → s.now ≤ e.erg + 1000 →
    ∃ t, exec (.eventRaise id arg) s = .next t ∧ t.ev = { s.ev with queue := es ++ [{ e with rep := min 15 (e.rep + 1) }] } ∧
      Only [.ev] s t) ∧
  (∀ (id : BitVec 10) (arg : Word) (sev : Nat) (s : State), s.sys.epoch = true → sevOf id.toNat = some sev → sev < 2 →
    (∀ e, s.ev.last = some e → e.merges s.now id.toNat arg = false) → 48 ≤ s.ev.queue.length →
    ∃ t, exec (.eventRaise id arg) s = .next t ∧ t.ev = { s.ev with overrun := min 0xFFFFFFFF (s.ev.overrun + 1) } ∧ Only [.ev] s t) ∧
  (∀ (e : Event) (es : List Event) (s : State), s.sys.epoch = true → s.ev.queue = e :: es → s.ev.latch = [] → s.ev.turn = true →
    ∃ t, exec .eventLogWrite s = .next t ∧ t.ev.queue = es ∧ t.ev.turn = false ∧ t.ev.log = (⟨s.ev.seq, e⟩ :: s.ev.log).take 16384 ∧
      t.ev.seq = s.ev.seq + 1 ∧
      t.ev.overrun = (if s.ev.log.length < 16384 then s.ev.overrun else min 0xFFFFFFFF (s.ev.overrun + 1)) ∧ Only [.ctl, .ev] s t) ∧
  (∀ s : State, s.ev.queue = [] ∨ s.ev.turn = false → exec .eventLogWrite s = .next s) ∧
  (∀ (q : Req) (s : State), ready s 0x0C01 q = true → 1 ≤ q.u8 4 → q.u8 4 ≤ 14 →
    let first := max (q.le 0 4) s.logOldest
    exec (.eventRead q) s = .next ((posted s 0x0C01 q).answer q.mbx (okReply (toLE 4 first ++ toLE 4 s.ev.overrun ++ zeros 8 ++
      (List.range (q.u8 4)).flatMap fun k => match s.logAt (first + k) with
        | some e => s.logRead e
        | none => zeros 16)))) ∧
  (∀ (q : Req) (s : State), ready s 0x0C01 q = true → q.u8 4 = 0 ∨ 14 < q.u8 4 →
    exec (.eventRead q) s = .next ((posted s 0x0C01 q).answer q.mbx (badArg 4)))

/-- What calls for calibration, and when (R229, R231, R234, R238-R243, R245). A window boundary makes a region due whose temperature has
moved by more than DT or whose set is older than AGE, sends a working set as a message of the region's crossing where the temperature has
moved by 4 codes (a set is one message: the model's choice, log 66), and clears the counters where a write asked for it; a free slot goes,
outside hold and what follows it, to the first due region, whose twin is then BUSY; the hold-off after an episode, the 64 windows after void
runs, the windows of gap mode and self-test have their own rows. The calibration commands (R247, R248, R332). CAL_RUN and SELFTEST_RUN of
one region are ACCEPTED into the queue, and the region is due by request; a DEAD region and a full queue refuse them; CAL_QUERY and
CAL_SET_READ answer the region's state and its set of 256 bytes. The model's own choices that it rests on: log 30, 61, 65, 66. -/
def Obligations.CalibrationsAreCalledFor : Prop :=
  (∀ s : State, Regular s → s.now % 256 = 0 →
    let u : State := { s with cal := { s.cal with ctrl := s.cal.ctrl.tick s.now, gap := s.cal.gap.tick s.now } }
    ∃ t, exec .calDueCheck s = .next t ∧ t.cal.ctrl = u.cal.ctrl ∧ t.cal.gap = u.cal.gap ∧
      (∀ r, validRegion r = true → s.clocked r = true → s.siteFenced (siteOf r) = false → (s.rgn r).cal.running = false →
        (s.rgn r).cal.holdOff ≤ s.win → u.calAuto = true →
        ((s.rgn r).cal.dueDrift = false → u.calDt < s.drift r → (t.rgn r).cal.dueDrift = true ∧ r ∈ t.cal.due) ∧
        ((s.rgn r).cal.dueAge = false → u.calAge ≠ 0 → (s.setFor r).ergLast + u.calAge < s.now →
          (t.rgn r).cal.dueAge = true ∧ r ∈ t.cal.due) ∧
        (s.drift r ≤ u.calDt → u.calAge = 0 ∨ s.now ≤ (s.setFor r).ergLast + u.calAge → (t.rgn r).cal = (s.rgn r).cal)) ∧
      (∀ (r : RegionNo) (T : Int), validRegion r = true → s.clocked r = true → s.regionTemp r = some T → s.cal.seeded = true →
        (s.rgn r).wsDue = true ∨ (s.rgn r).lastSet = none ∨ (∃ w, (s.rgn r).lastSet = some w ∧ 4 ≤ (T - w.temp).natAbs) →
        let m : Msg := .calset ((s.setFor r).work T) (s.setFor r).vref
        (s.xState (xId 4 r) ≠ .whole → (t.rgn r).wsDue = true ∧ (t.rgn r).msgs = (s.rgn r).msgs) ∧
        (s.xState (xId 4 r) = .whole → (s.rgn r).msgWait = [] → (s.rgn r).msgs.length < 16 →
          (s.rgn r).tx ≠ none ∨ (s.rgn r).sent ≠ none ∨ s.planWaits r = true ∨ s.planOnly = true →
          (t.rgn r).wsDue = false ∧ (t.rgn r).msgs = (s.rgn r).msgs ++ [m]) ∧
        (s.xState (xId 4 r) = .whole → (s.rgn r).msgWait = [] → (s.rgn r).msgs = [] → (s.rgn r).tx = none → (s.rgn r).sent = none →
          s.planWaits r = false → s.planOnly = false →
          (t.rgn r).wsDue = false ∧ (t.rgn r).msgs = [] ∧ (t.rgn r).tx = some (.message m, s.now))) ∧
      (∀ (r : RegionNo) (T : Int) (w : WorkSet), s.regionTemp r = some T → (s.rgn r).wsDue = false → (s.rgn r).lastSet = some w →
        (T - w.temp).natAbs < 4 → (t.rgn r).msgs = (s.rgn r).msgs ∧ (t.rgn r).tx = (s.rgn r).tx) ∧
      (s.cal.clearAt.any (· < s.now) = true → t.cal.runs = 0 ∧ t.cal.void = 0 ∧ t.cal.stFail = 0 ∧ t.cal.clearAt = none) ∧
      (s.cal.clearAt.any (· < s.now) = false → t.cal.runs = s.cal.runs ∧ t.cal.void = s.cal.void ∧ t.cal.clearAt = s.cal.clearAt) ∧
      Only [.reg, .cal] s t) ∧
  (∀ (r : RegionNo) (s : State), Regular s → s.fw = true → s.suspended = false → s.cal.busy.length < s.calSlots → s.calPick = some (r, none, false) →
    (s.rgn r).chan.hasTwin = true → (s.rgn r).cal.half = false →
    ∃ t, exec .calSlotGrant s = .next t ∧ r ∈ t.cal.busy ∧ (t.rgn r).cal.phase = (if s.gapMode then 6 else 3) ∧
      (t.rgn r).chan.twin = .busy ∧ ((s.rgn r).chan.st = .paired → (t.rgn r).chan.st = .twinBusy) ∧ (t.rgn r).cal.began = s.now ∧
      (t.rgn r).cal.oscB = !(s.rgn r).chan.activeB ∧ (t.rgn r).cal.runs = [] ∧ (∀ r', r' ≠ r → t.rgn r' = s.rgn r') ∧
      Only [.reg, .cal] s t) ∧
  (∀ s : State, s.fw = false ∨ s.suspended = true ∨ s.calSlots ≤ s.cal.busy.length → exec .calSlotGrant s = .next s) ∧
  (∀ (r : RegionNo) (s : State), validRegion r = true → (s.rgn r).cal.holdOff ≤ s.win →
    exec (.suspectHoldoffExpiry r) s = .next (s.modRgn r fun g => { g with cal := { g.cal with holdOff := 0 } })) ∧
  (∀ (r : RegionNo) (s : State), validRegion r = true → (s.rgn r).cal.retryWin ≤ s.win →
    exec (.calVoidRetryExpiry r) s = .next (s.modRgn r fun g => { g with cal := { g.cal with retryWin := 0 } })) ∧
  (∀ (d : Fin 256) (s : State), Regular s → s.now % 256 = 0 → s.forecastZero d.val = true →
    ∃ t, exec (.gapWindow d) s = .next t ∧
      (∀ r ∈ districtRegions d.val, (s.rgn r).cal.gapStart.isSome = true →
        t.rgn r = { s.rgn r with cal := { (s.rgn r).cal with gapNow := some s.win } }) ∧
      (∀ r, r ∉ districtRegions d.val ∨ (s.rgn r).cal.gapStart = none → t.rgn r = s.rgn r) ∧ Only [.reg] s t) ∧
  (∀ (r : RegionNo) (w : Nat) (s : State), Regular s → (s.rgn r).cal.gapStart = some w → (s.rgn r).cal.running = true →
    (s.rgn r).cal.gapWins < (s.rgn r).gapNeed → w + s.gapWait ≤ s.win →
    ∃ t, exec (.calGapTimeout r) s = .next t ∧ (t.rgn r).cal.gapStart = none ∧ (t.rgn r).cal.running = false ∧ r ∉ t.cal.busy ∧
      t.ev = (s.raise evCalGapTimeout (calArg r (s.rgn r).cal.oscB 0)).ev ∧ Only [.mbx, .reg, .cal, .ev] s t) ∧
  (∀ (r : RegionNo) (s : State), Regular s → s.selftestEn = true → s.clocked r = true → (s.rgn r).chan.twin = .standby →
    (s.rgn r).cal.lastTest + s.selftestNs ≤ s.now →
    ∃ t, exec (.selftestDue r) s = .next t ∧ (t.rgn r).cal.dueTest = true ∧
      ((s.rgn r).cal.running = false → 1 ≤ (t.rgn r).cal.phase) ∧ (∀ r', r' ≠ r → t.rgn r' = s.rgn r') ∧ Only [.reg, .cal] s t) ∧
  (∀ (q : Req) (i : Nat) (s : State), Regular s → ready s 0x0801 q = true → q.u8 0 = 0 → q.u8 1 ≤ 2 → q.u8 2 ≤ 1 →
    s.regionExists q.tgt = true → s.calRefuses q.tgt = none → s.cal.queue.length < 32 → s.freeHandle (decide (q.mbx = 7)) = some i →
    ∃ t, exec (.calRun q) s = .next (t.answer q.mbx { status := 0x01, handle := some (s.handleNo i) }) ∧
      t.cal.queue = s.cal.queue ++ [⟨i, false⟩] ∧ (t.rgn q.tgt).cal.dueReq = true ∧ q.tgt ∈ t.cal.due ∧
      (∃ o, t.handle i = { gen := (s.handle i).gen, op := some o } ∧ o.kind = .calRun ∧ o.st = .running ∧ o.left = [q.tgt] ∧
        o.gap = decide (q.u8 1 = 2) ∧ o.twinOnly = decide (q.u8 2 = 1) ∧ o.starter = some q.mbx) ∧
      (∀ j, j ≠ i → t.handle j = s.handle j) ∧ (∀ r, r ≠ q.tgt → t.rgn r = s.rgn r) ∧ Only [.mbx, .reg, .cal] s t) ∧
  (∀ (q : Req) (i : Nat) (s : State), Regular s → ready s 0x0802 q = true → q.u8 0 = 0 → q.u8 1 ≤ 2 → q.u8 2 ≤ 2 →
    s.regionExists q.tgt = true → s.calRefuses q.tgt = none → s.cal.queue.length < 32 → s.freeHandle (decide (q.mbx = 7)) = some i →
    ∃ t, exec (.selftestRun q) s = .next (t.answer q.mbx { status := 0x01, handle := some (s.handleNo i) }) ∧
      t.cal.queue = s.cal.queue ++ [⟨i, true⟩] ∧ ((s.rgn q.tgt).cal.running = false → (t.rgn q.tgt).cal.phase = 2) ∧
      (∃ o, t.handle i = { gen := (s.handle i).gen, op := some o } ∧ o.kind = .selftestRun ∧ o.st = .running ∧ o.left = [q.tgt] ∧
        o.gap = decide (q.u8 1 = 2) ∧ o.osc = q.u8 2 ∧ o.starter = some q.mbx) ∧
      (∀ j, j ≠ i → t.handle j = s.handle j) ∧ (∀ r, r ≠ q.tgt → t.rgn r = s.rgn r) ∧ Only [.mbx, .reg, .cal] s t) ∧
  (∀ (q : Req) (s : State), ready s 0x0801 q = true → q.u8 0 = 0 → q.u8 1 ≤ 2 → q.u8 2 ≤ 1 → s.regionExists q.tgt = true →
    s.siteFenced (siteOf q.tgt) = false → (s.rgn q.tgt).chan.st = .dead →
    exec (.calRun q) s = .next ((posted s 0x0801 q).answer q.mbx { status := 0x50 })) ∧
  (∀ (q : Req) (s : State), ready s 0x0801 q = true → q.u8 0 = 0 → q.u8 1 ≤ 2 → q.u8 2 ≤ 1 → s.regionExists q.tgt = true →
    s.calRefuses q.tgt = none → 32 ≤ s.cal.queue.length →
    exec (.calRun q) s = .next ((posted s 0x0801 q).answer q.mbx { status := 0x10 })) ∧
  (∀ (q : Req) (s : State), ready s 0x0803 q = true → s.regionExists q.tgt = true →
    exec (.calQuery q) s = .next ((posted s 0x0803 q).answer q.mbx
      (okReply (toLE 4 (s.calRstat q.tgt) ++ toLE 4 (s.calRage q.tgt) ++ (s.rgn q.tgt).workBytes)))) ∧
  (∀ (q : Req) (s : State), ready s 0x0804 q = true → q.u8 0 = 0 → s.regionExists q.tgt = true →
    exec (.calSetRead q) s = .next ((posted s 0x0804 q).answer q.mbx (okReply (s.regionSet q.tgt).bytes))) ∧
  (∀ (q : Req) (s : State), ready s 0x0804 q = true → q.u8 0 = 1 → q.tgt < 256 →
    exec (.calSetRead q) s = .next ((posted s 0x0804 q).answer q.mbx (okReply (s.spareSet q.tgt).bytes))) ∧
  (∀ (q : Req) (s : State), ready s 0x0804 q = true → 1 < q.u8 0 →
    exec (.calSetRead q) s = .next ((posted s 0x0804 q).answer q.mbx (badArg 0)))

/-- Runs and self-tests are judged (R230-R235, R245). A run outside its bounds is void, and four in a row put the region off for 64 windows;
two that agree are accepted into the set, and the twin stands by for the swap; values that do not fall fail the oscillator, and the region
is SINGLE. A set interpolated at the temperature of the pair that it accepted gives what the pair measured. A self-test that passes is
counted, and one that fails fails its oscillator; measurements decide which test fails, of those that run on that oscillator (R244). The
model's own choices that it rests on: log 28, 30, 61, 65. -/
def Obligations.RunsAreJudged : Prop :=
  (∀ (r : RegionNo) (oscB : Bool) (x : RunResult) (s : State), Regular s → s.calBooting r = false → (s.rgn r).cal.test = false →
    (s.rgn r).cal.ending = false → 8 ≤ x.samples →
    oscB = !(s.rgn r).chan.activeB → (s.rgn r).chan.twin = .busy → (s.rgn r).cal.phase = 3 →
    let set := s.setFor r
    let m := minCodeOf x.d set.kv set.vref x.supply
    let a : RunRec := ⟨x.periods, m, x.temp, x.supply⟩
    (x.tripped = true ∨ supplyOk set.vref x.supply = false ∨ 16 < x.moved → (s.rgn r).cal.voids < 3 →
      ∃ t, exec (.calRunComplete r oscB (.full x)) s = .next t ∧
        t.rgn r = { s.rgn r with cal := ({ (s.rgn r).cal with voids := (s.rgn r).cal.voids + 1 } : RgnCal).nextRun s.win } ∧
        t.cal = { s.cal with void := sat16 s.cal.void 1 } ∧ Only [.reg, .cal] s t) ∧
    (x.tripped = true ∨ supplyOk set.vref x.supply = false ∨ 16 < x.moved → (s.rgn r).cal.voids = 3 → (s.rgn r).swap = none →
      ∃ t, exec (.calRunComplete r oscB (.full x)) s = .next t ∧ (t.rgn r).cal.retryWin = s.win + 64 ∧ (t.rgn r).cal.running = false ∧
        (t.rgn r).chan.twin = .standby ∧ r ∉ t.cal.busy ∧ t.ev = (s.raise evCalVoid (calArg r oscB 0)).ev) ∧
    (x.tripped = false → supplyOk set.vref x.supply = true → x.moved ≤ 16 →
      (runFalls x = false → (s.rgn r).chan.st ≠ .dead →
        ∃ t, exec (.calRunComplete r oscB (.full x)) s = .next t ∧ (t.rgn r).chan.twin = .failed ∧ (t.rgn r).chan.st = .single ∧
          (t.rgn r).chan.activeB = (s.rgn r).chan.activeB ∧ t.ev = (s.raise evStFail (calArg r oscB 1)).ev) ∧
      (runFalls x = true → m ≤ 1280 → (s.rgn r).cal.runs = [] →
        ∃ t, exec (.calRunComplete r oscB (.full x)) s = .next t ∧
          t.rgn r = { s.rgn r with cal := ({ (s.rgn r).cal with runs := [a], voids := 0 } : RgnCal).nextRun s.win } ∧ Only [.reg, .cal] s t) ∧
      (∀ y, runFalls x = true → m ≤ 1280 → (s.rgn r).cal.runs = [y] → y.agree a = true → (s.rgn r).cal.twinOnly = false →
        Map.wf none s.cal.sets = true → Map.wf none s.cal.spares = true →
        ∃ t, exec (.calRunComplete r oscB (.full x)) s = .next t ∧ t.setFor r = set.acceptPair oscB y a s.now ∧
          (t.rgn r).cal.phase = 4 ∧ (t.rgn r).cal.half = true ∧ (t.rgn r).chan.twin = .standby ∧ (t.rgn r).chan.locked = false ∧
          (t.rgn r).chan.reloadWin = some (s.win + 4) ∧ (t.rgn r).cal.runs = [] ∧
          Only [.reg, .cal] s t))) ∧
  (∀ (r : RegionNo) (oscB : Bool) (x : RunResult) (s : State), x.samples < 8 → exec (.calRunComplete r oscB (.full x)) s = .next s) ∧
  (∀ (c : CalSet) (x y : RunRec) (now i : Nat), i < 6 →
    let t := fdiv (x.temp + y.temp + 1) 2
    let p := fdiv ((x.periods.getD i 0 : Int) + y.periods.getD i 0 + 1) 2
    let m := max x.min y.min
    (∀ k ∈ bracket t, let q := (c.points.getD k ⟨[], [], 0, 0⟩)
      0 ≤ (q.a.getD i 0 : Int) + (p - (c.work t).a.getD i 0) ∧ (q.a.getD i 0 : Int) + (p - (c.work t).a.getD i 0) < 65536 ∧
      0 ≤ (q.minA : Int) + (m - (c.work t).minA) ∧ (q.minA : Int) + (m - (c.work t).minA) < 8192) →
    let n := (c.acceptPair false x y now).work t
    (n.a.getD i 0 : Int) = p ∧ n.minA = m ∧ n.b = (c.work t).b ∧ n.minB = (c.work t).minB) ∧
  (∀ (r : RegionNo) (s : State), Regular s → (s.rgn r).cal.phase = 7 → (s.rgn r).cal.test = true → (s.rgn r).cal.gap = false →
    (s.rgn r).cal.oscB = !(s.rgn r).chan.activeB →
    ∃ t, exec (.selftestComplete r (s.rgn r).cal.oscB none) s = .next t ∧ t.cal.stPass = sat16 s.cal.stPass 1 ∧
      (t.rgn r).chan.twin = .standby ∧ (t.rgn r).chan.reloadWin = some (s.win + 4) ∧ (t.rgn r).cal.lastTest = s.now ∧ (t.rgn r).cal.running = false ∧ r ∉ t.cal.busy) ∧
  (∀ (r : RegionNo) (oscB : Bool) (f : Option SelfTest) (m : TestMeas) (s : State),
    let min : Nat := match (s.rgn r).ws with
      | some w => if oscB then w.minB else w.minA
      | none => 0
    exec (.selftestComplete r oscB f (some m)) s =
      exec (.selftestComplete r oscB (Machine.TestMeas.fails m (s.setFor r) min (s.rgn r).nominal (decide (oscB = (s.rgn r).chan.activeB)))) s) ∧
  (∀ (m : TestMeas) (c : CalSet) (min n : Nat) (quiet : Bool),
    (Machine.TestMeas.fails m c min n quiet = none → ∀ f, quiet = false ∨ testQuiet f = true → Machine.TestMeas.passes m c min n f = true) ∧
    (∀ f, Machine.TestMeas.fails m c min n quiet = some f → Machine.TestMeas.passes m c min n f = false ∧ (quiet = true → testQuiet f = true))) ∧
  (∀ (r : RegionNo) (f : SelfTest) (s : State), Regular s → (s.rgn r).cal.phase = 7 → (s.rgn r).cal.gap = false →
    (s.rgn r).cal.oscB = !(s.rgn r).chan.activeB → (s.rgn r).chan.st ≠ .dead →
    ∃ t, exec (.selftestComplete r (s.rgn r).cal.oscB (some f)) s = .next t ∧ t.cal.stFail = sat16 s.cal.stFail 1 ∧
      (t.rgn r).chan.twin = .failed ∧ (t.rgn r).chan.st = .single ∧
      t.ev = (s.raise evStFail (calArg r (s.rgn r).cal.oscB (testRow f))).ev)

/-- Region sensors and the rings (R252, R254-R259). A sensor that has stood out of its bounds for 1 ms is counted and told, and used again
once it has stood within them for 1 ms. A ring period takes a tile's largest electrical mean and the mean of its valid rings: within 6 K
they agree and the electrical governs; above it for more than 10 ms the rings do, until 39 periods within 4 K. A ring reads its seed
temperature and the shift of its resonance by its slope, to the code below or above (log 62). A frame ends, and is evaluated within the
window that begins there (R260-R262, R266, Table 9-2; log 62). Each site's level rises to every threshold that its temperature reaches and
falls one step at 3 K below; at TRIP every ceiling is 1,280 for good; at THROTTLE or above a site's ceiling rises by 16 a frame, and below
it falls back. A frame of 3,072 bytes with its time and number is written over the oldest of 170, and the regions gather afresh. The model's
own choices that it rests on: log 33, 34, 62, 65. -/
def Obligations.SensorsRingsAndFrames : Prop :=
  (∀ (r : RegionNo) (s : State), Regular s → s.sys.pkgReset = false → s.regionExists r = true → (s.rgn r).badAdc = false → (s.rgn r).adcWatch.stands true s.now = true →
    ∃ t, exec (.sensorFault r .adc) s = .next t ∧ t.rgn r = { s.rgn r with badAdc := true } ∧ (∀ r', r' ≠ r → t.rgn r' = s.rgn r') ∧
      t.sns = { s.sns with faults := sat16 s.sns.faults 1 } ∧ t.ev = (s.raise evSnsFault r).ev ∧ Only [.reg, .sns, .ev] s t) ∧
  (∀ (r : RegionNo) (s : State), Regular s → s.sys.pkgReset = false → s.regionExists r = true → (s.rgn r).badDiode = false → (s.rgn r).diodeWatch.stands true s.now = true →
    ∃ t, exec (.sensorFault r .diode) s = .next t ∧ t.rgn r = { s.rgn r with badDiode := true } ∧ (∀ r', r' ≠ r → t.rgn r' = s.rgn r') ∧
      t.sns = { s.sns with faults := sat16 s.sns.faults 1 } ∧ t.ev = (s.raise evSnsFault r).ev ∧ Only [.reg, .sns, .ev] s t) ∧
  (∀ (r : RegionNo) (s : State), s.sys.pkgReset = false → s.regionExists r = true →
    ((s.rgn r).adcWatch.stands false s.now = true → exec (.sensorRecovered r .adc) s = .next (s.modRgn r fun g => { g with badAdc := false })) ∧
    ((s.rgn r).diodeWatch.stands false s.now = true →
      exec (.sensorRecovered r .diode) s = .next (s.modRgn r fun g => { g with badDiode := false })) ∧
    exec (.sensorRecovered r .droop) s = .next (s.modRgn r fun g => { g with badDroop := false })) ∧
  (∀ (r : RegionNo) (s : State), (s.rgn r).adcWatch.stands true s.now = false → exec (.sensorFault r .adc) s = .next s) ∧
  (∀ (ms : List TileMeas) (s : State), s.sys.epoch = true → s.now % 262144 = 0 → s.sns.ringAt < s.now →
    ∃ t, exec (.ringPeriod ms) s = .next t ∧ t.sns.ringAt = s.now ∧
      (∀ (k : Fin 64) (e : Int), let m := ms.getD k ⟨[], []⟩
        let means := (m.elec.take 4).filterMap elecMean
        let rings := if s.toneUp then validRings (s.ringCodes k m.rings) else []
        let x := { s.tile k with
          tElec := e, tRing := meanT rings, elecs := means.length, rings := rings.length
          okElec := decide (2 ≤ means.length), okRing := decide (5 ≤ rings.length)
          lastRing := if 5 ≤ rings.length then meanT rings else (s.tile k).lastRing
          bad := if 5 ≤ rings.length then 0 else (s.tile k).bad + 1 }
        maxT means = some e → rings ≠ [] → t.tile k = (if x.trusted then x.agree s.now else x.compare s.now).1) ∧
      t.opt = { s.opt with dark := s.opt.lostTone || s.opt.failed.contains s.opt.tone } ∧ Only [.fresh, .opt, .sns, .cfg, .ev] s t) ∧
  (∀ (x : Tile) (now : Nat), x.okElec = true → x.okRing = true →
    (x.tRing - x.tElec ≤ 96 → x.compare now = ({ x with first := none, count := 0, gov := x.tElec }, false)) ∧
    (96 < x.tRing - x.tElec → x.first = none → x.compare now = ({ x with first := some now, count := 0, gov := x.tElec }, false)) ∧
    (∀ f, 96 < x.tRing - x.tElec → x.first = some f → now ≤ f + 10000000 →
      x.compare now = ({ x with count := x.count + 1, gov := x.tElec }, false)) ∧
    (∀ f, 96 < x.tRing - x.tElec → x.first = some f → f + 10000000 < now →
      x.compare now = ({ x with trusted := true, first := none, count := 0, gov := x.tRing }, true)) ∧
    (64 < x.tRing - x.tElec → x.agree now = ({ x with count := 0, gov := x.tRing }, false)) ∧
    (x.tRing - x.tElec ≤ 64 → x.count < 38 → x.agree now = ({ x with count := x.count + 1, gov := x.tRing }, false)) ∧
    (x.tRing - x.tElec ≤ 64 → 38 ≤ x.count →
      x.agree now = ({ x with trusted := false, count := 0, gov := x.tElec, clearAt := some now }, true))) ∧
  (∀ (x : Tile) (now : Nat), x.okRing = false → x.compare now = ({ x with first := none, count := 0, gov := x.tElec }, false) ∧
    x.agree now = ({ x with count := 0, gov := max x.lastRing (x.tElec + 96) }, false)) ∧
  (∀ (s : State) (i j : Nat) (l : Int), let k : Nat := Config.ringK (s.fuse 16) i j
    let d := 16000 * (l - Config.ringLambda (s.fuse 16) i j)
    ∃ q : Int, (s.ringCode i j l = Config.ringTemp (s.fuse 16) i j + q ∨ s.ringCode i j l = Config.ringTemp (s.fuse 16) i j + q + 1 ∧ q * k ≠ d) ∧
      (0 < k → q * k ≤ d ∧ d < (q + 1) * k)) ∧
  (∀ s : State, Regular s → s.sys.epoch = true → s.now % 65536 < 256 → 65536 ≤ s.now →
    let n := s.now / 65536 * 65536
    (s.sns.frames.head?.all fun f => decide (le f 0 8 ≠ n)) = true →
    let u : State := { s with sns := { s.sns with ctrl := s.sns.ctrl.tick n, thresh := s.sns.thresh.tick n, ceil := s.sns.ceil.tick n } }
    ∃ t, exec .frameEnd s = .next t ∧ t.sns.seq = s.sns.seq + 1 ∧
      (∃ f, t.sns.frames = (f :: s.sns.frames).take 170 ∧ f.length = 3072 ∧ le f 0 8 = n ∧ le f 8 8 = s.sns.seq % 2 ^ 64) ∧
      (∀ r, (t.rgn r).acc = {}) ∧ (s.sns.clearAt.any (· < n) = true → t.sns.disagree = 0 ∧ t.sns.faults = 0 ∧ t.sns.clearAt = none) ∧
      (∀ i : Fin 23, s.siteGov i = none → (t.therm i).level = (s.therm i).level) ∧
      (∀ (i : Fin 23) (T : Int), s.siteGov i = some T → (t.therm i).level = u.levelAt (s.therm i).level T) ∧
      (∀ i : Fin 23, (s.therm i).level < 4 → (t.therm i).level = 4 → t.sys.trip = true) ∧
      (t.sys.trip = true → ∀ i : Fin 23, (t.therm i).tc = 1280) ∧
      (∀ i : Fin 23, t.sys.trip = false → u.autoOverlay = false → (∀ a, (s.therm i).fbAt = some a → a < n) →
        (t.therm i).tc = (if 2 ≤ (t.therm i).level then
            (if (s.therm i).prev then min u.ceilMax (max (s.therm i).tc u.ceilStart + 16) else max (s.therm i).tc u.ceilStart)
          else if (s.therm i).tc - 16 < u.ceilStart then 160 else (s.therm i).tc - 16)) ∧
      Only [.fresh, .sys, .mbx, .reg, .opt, .sns, .cfg, .ev] s t) ∧
  (∀ (u : State) (l k : Nat) (T : Int), l < k → k ≤ 4 → u.levelTh k ≤ T → k ≤ u.levelAt l T) ∧
  (∀ (u : State) (l : Nat) (T : Int), 0 < l → l < 4 → T ≤ u.levelTh l - 48 → (∀ k, l < k → k ≤ 4 → T < u.levelTh k) → u.levelAt l T = l - 1) ∧
  (∀ (u : State) (l : Nat) (T : Int), l ≤ 4 → (∀ k, l < k → k ≤ 4 → T < u.levelTh k) → u.levelTh l - 48 < T ∨ l = 4 ∨ l = 0 → u.levelAt l T = l) ∧
  (∀ (u : State) (T : Int), u.levelAt 4 T = 4)

/-- Plant inputs and what they read (R263, R264, R274). PLANT_POST stores both temperatures; 1 s without one, or 10 ms without a budget, is
told once and marked; SENSE_QUERY answers a region's window summary or a tile's record, and THERM_QUERY every site's level and ceiling. Wear
(R268, R269, R272, R274, R334). WEAR_QUERY answers a bump field's two counts, a region's or a spare pair's stress-hours; WEAR_EXPORT answers
a page of 8,192 bytes, so it spills; WEAR_IMPORT gathers a page in order and adds it once, when its last byte has come. A cycle of more than
20 K counts, weighted by its range. The model's own choices that it rests on: log 33, 34, 35. -/
def Obligations.PlantInputsAndWear : Prop :=
  (∀ (q : Req) (s : State), ready s 0x0903 q = true → q.le 0 2 < 4096 → -640 ≤ signed 12 (q.le 0 2) → q.le 2 2 < 4096 →
    -640 ≤ signed 12 (q.le 2 2) →
    ∃ t, exec (.plantPost q) s = .next (t.answer q.mbx okReply) ∧
      t.sns = { s.sns with inlet := signed 12 (q.le 0 2), outlet := signed 12 (q.le 2 2), coolAt := some s.now, coolStale := false } ∧
      (s.sns.coolAt = none ∨ s.sns.coolStale = true → t.ev = s.ev) ∧
      (∀ a, s.sns.coolAt = some a → s.sns.coolStale = false → s.now < a + 1000000000 →
        32 < (signed 12 (q.le 0 2) - s.sns.inlet).natAbs ∨ 32 < (signed 12 (q.le 2 2) - s.sns.outlet).natAbs →
        t.ev = (s.raise evCoolantStep 0).ev) ∧
      Only [.mbx, .sns, .ev] s t) ∧
  (∀ (q : Req) (s : State), ready s 0x0903 q = true → signed 12 (q.le 0 2) < -640 →
    exec (.plantPost q) s = .next ((posted s 0x0903 q).answer q.mbx (badArg 0))) ∧
  (∀ (a : Nat) (s : State), s.sns.coolAt = some a → s.sns.coolStale = false → a + 1000000000 ≤ s.now →
    ∃ t, exec .coolantStale s = .next t ∧ t.sns = { s.sns with coolStale := true } ∧ t.ev = (s.raise evPlantStale 1).ev ∧
      Only [.sns, .ev] s t) ∧
  (∀ (a : Nat) (s : State), s.sns.budgetAt = some a → s.sns.budgetStale = false → a + 10000000 ≤ s.now →
    ∃ t, exec .budgetStale s = .next t ∧ t.sns = { s.sns with budgetStale := true } ∧ t.ev = (s.raise evPlantStale 2).ev ∧
      Only [.sns, .ev] s t) ∧
  (∀ s : State, s.sns.budgetStale = true → exec .budgetStale s = .next s) ∧
  (∀ (q : Req) (y : Summary) (s : State), ready s 0x0901 q = true → q.u8 0 = 0 → s.regionExists q.tgt = true → (s.rgn q.tgt).sum = some y →
    exec (.senseQuery q) s = .next ((posted s 0x0901 q).answer q.mbx (okReply
      (toLE 8 y.start ++ toLE 2 y.adc ++ toLE 2 (unsigned 12 y.diode) ++ toLE 2 y.trips ++ toLE 2 (min 0xFFFF y.sum))))) ∧
  (∀ (q : Req) (s : State), ready s 0x0901 q = true → q.u8 0 = 1 → q.tgt < 64 →
    exec (.senseQuery q) s = .next ((posted s 0x0901 q).answer q.mbx (okReply (s.tile q.tgt).bytes))) ∧
  (∀ (q : Req) (s : State), ready s 0x0901 q = true → 1 < q.u8 0 →
    exec (.senseQuery q) s = .next ((posted s 0x0901 q).answer q.mbx (badArg 0))) ∧
  (∀ (q : Req) (s : State), ready s 0x0902 q = true →
    exec (.thermQuery q) s = .next ((posted s 0x0902 q).answer q.mbx (okReply (toLE 4 s.snsStatus ++ toLE 4 s.sns.throt.toNat ++
      (List.range 23).flatMap fun i => toLE 1 (s.therm i).level ++ zeros 1 ++ toLE 2 (s.therm i).tc)))) ∧
  (∀ (q : Req) (s : State), ready s 0x0904 q = true → q.u8 0 = 0 → q.tgt ≤ 22 → q.u8 1 ≤ 6 →
    exec (.wearQuery q) s = .next ((posted s 0x0904 q).answer q.mbx
      (okReply (toLE 4 (s.field (7 * q.tgt + q.u8 1)).cyc ++ toLE 4 (s.field (7 * q.tgt + q.u8 1)).dmg)))) ∧
  (∀ (q : Req) (s : State), ready s 0x0904 q = true → q.u8 0 = 1 → s.regionExists q.tgt = true →
    exec (.wearQuery q) s = .next ((posted s 0x0904 q).answer q.mbx
      (okReply (toLE 4 (s.oscHours q.tgt false) ++ toLE 4 (s.oscHours q.tgt true))))) ∧
  (∀ (q : Req) (s : State), ready s 0x0904 q = true → q.u8 0 = 2 → q.tgt ≤ 255 →
    exec (.wearQuery q) s = .next ((posted s 0x0904 q).answer q.mbx
      (okReply (toLE 4 (s.spareHours q.tgt 0) ++ toLE 4 (s.spareHours q.tgt 1))))) ∧
  (∀ (q : Req) (s : State), ready s 0x0905 q = true → q.u8 0 ≤ 2 →
    ∃ t, exec (.wearExport q) s = .next (t.answer q.mbx (okReply (s.wearPage (q.u8 0)))) ∧ (s.wearPage (q.u8 0)).length = 8192 ∧
      t.fresh = s.fresh + 1 ∧ Only [.fresh, .mbx] s t) ∧
  (∀ (q : Req) (s : State), ready s 0x0906 q = true → q.u8 0 ≤ 2 → 8 < q.len → (q.len - 8) % 8 = 0 → q.len - 8 ≤ 224 →
    q.u8 0 ∉ s.sns.imported → q.le 4 4 = 0 →
    exec (.wearImport q) s = .next (({ posted s 0x0906 q with sns := { s.sns with stage := some (q.u8 0, slice q.payload 8 (q.len - 8)) } } : State).answer
      q.mbx (okReply (toLE 4 (q.len - 8) ++ zeros 1)))) ∧
  (∀ (q : Req) (bs : Bytes) (s : State), ready s 0x0906 q = true → q.u8 0 ≤ 2 → 8 < q.len → (q.len - 8) % 8 = 0 → q.len - 8 ≤ 224 →
    q.u8 0 ∉ s.sns.imported → s.sns.stage = some (q.u8 0, bs) → q.le 4 4 = bs.length → bs ≠ [] → bs.length % 8 = 0 →
    bs.length + (q.len - 8) < 8192 →
    exec (.wearImport q) s = .next (({ posted s 0x0906 q with sns := { s.sns with stage := some (q.u8 0, bs ++ slice q.payload 8 (q.len - 8)) } } :
      State).answer q.mbx (okReply (toLE 4 (bs.length + (q.len - 8)) ++ zeros 1)))) ∧
  (∀ (q : Req) (bs : Bytes) (s : State), Regular s → ready s 0x0906 q = true → q.u8 0 = 1 ∨ q.u8 0 = 2 → 8 < q.len → (q.len - 8) % 8 = 0 →
    q.len - 8 ≤ 224 → q.u8 0 ∉ s.sns.imported → s.sns.stage = some (q.u8 0, bs) → q.le 4 4 = bs.length → bs.length % 8 = 0 →
    bs.length + (q.len - 8) = 8192 →
    let p := bs ++ slice q.payload 8 (q.len - 8)
    ∃ t, exec (.wearImport q) s = .next (t.answer q.mbx (okReply (toLE 4 8192 ++ toLE 1 1))) ∧ q.u8 0 ∈ t.sns.imported ∧ t.sns.stage = none ∧
      (∀ i, i < 1024 → let r := ofDense (1024 * (q.u8 0 - 1) + i)
        s.regionExists r = true → siteOf r ∉ s.sns.serialBad →
        (t.rgn r).wearInA = (s.rgn r).wearInA + le p (8 * i) 4 ∧ (t.rgn r).wearInB = (s.rgn r).wearInB + le p (8 * i + 4) 4) ∧
      Only [.mbx, .reg, .opt, .sns, .ev] s t) ∧
  (∀ (q : Req) (s : State), ready s 0x0906 q = true → q.u8 0 ≤ 2 → 8 < q.len → (q.len - 8) % 8 = 0 → q.len - 8 ≤ 224 → q.le 4 4 % 8 = 0 →
    q.le 4 4 + (q.len - 8) ≤ 8192 → q.u8 0 ∈ s.sns.imported →
    exec (.wearImport q) s = .next ((posted s 0x0906 q).answer q.mbx { status := 0x50 })) ∧
  (∀ (f : Field) (x h : Nat), (x ≤ 320 → f.cycle x h = f) ∧
    (320 < x → x ≤ 640 → f.cycle x h = { f with cyc := min 0xFFFFFFFF (f.cyc + h), dmg := min 0xFFFFFFFF (f.dmg + h) }) ∧
    (640 < x → x ≤ 960 → f.cycle x h = { f with cyc := min 0xFFFFFFFF (f.cyc + h), dmg := min 0xFFFFFFFF (f.dmg + 4 * h) }) ∧
    (960 < x → f.cycle x h = { f with cyc := min 0xFFFFFFFF (f.cyc + h), dmg := min 0xFFFFFFFF (f.dmg + 9 * h) }))

/-- Faults of landings, groups and carriers (R138, R139, R143, R151, R152, R163). A landing in use that falls below LOSS leaves its quadrant
on the backup line; a group that faults leaves its quadrant on a borrowed feed, with its landing freed but on site 16; a carrier that fails
leaves no quadrant on a landing. Each counts, and with AUTO_SPARE an insertion of the part is under way; on a LOST die the fault is
recorded. Degraded parts and carriers (R138, R139, R144). Power below WARN for 10 ms, or CRC failures above it, degrade a landing in use;
the fourth continuity failure in a row degrades a group in use, and a success starts the count again; a spare carrier below LOSS is failed,
and a failed one that is within WARN at every active landing is a free spare. The model's own choices that it rests on: log 21, 55, 60. -/
def Obligations.OpticalFaultsAndDegradation : Prop :=
  (∀ (site : Site) (l : Fin 6) (c : Fin 4) (power : Int) (q : Nat) (s : State),
    let x := s.site site
    x.served = true → l.val ∉ x.lfail → x.isDown 0 l = false → s.carrierUsed c = true → power < s.lossAt → x.served? l = some q →
    (x.route q).group ≠ 7 → x.backupBad = false →
    ∃ t, exec (.landingFault site l c power) s = .next t ∧ (t.site site).route q = { x.route q with source := 6 } ∧
      (t.site site).evL = sat16 x.evL 1 ∧ t.opt.bridges = sat16 s.opt.bridges 1 ∧ (t.site site).isDown 0 l = true ∧
      (x.state ≠ .backup → (t.site site).state = .bridged) ∧
      (s.autoSpare = true → s.siteWaits site = false → ∃ y ∈ t.opt.ins, y.kind = 0 ∧ y.target = site.val ∧ y.part = l.val) ∧
      (s.siteWaits site = true → l.val ∈ (t.site site).lfail) ∧
      (∀ i, i ≠ site.val → t.site i = s.site i) ∧ Only [.mbx, .reg, .opt, .ls, .ev] s t) ∧
  (∀ (site : Site) (l : Fin 6) (c : Fin 4) (power : Int) (s : State), s.lossAt ≤ power ∨ s.carrierUsed c = false →
    exec (.landingFault site l c power) s = .next s) ∧
  (∀ (site : Site) (q : Fin 4) (s : State),
    let x := s.site site
    x.served = true → (x.route q).group ≠ 7 →
    ((x.route q).source < 6 → s.lossAt ≤ x.powerAt (x.route q).source s.opt.tone ∧ s.lossAt ≤ x.powerAt (x.route q).source s.opt.slot) →
    ∃ t, exec (.groupFault site q) s = .next t ∧
      (t.site site).route q = ⟨x.borrow q, 7, if site = 16 then (x.route q).source else 7⟩ ∧
      (t.site site).evG = sat16 x.evG 1 ∧ t.opt.bridges = sat16 s.opt.bridges 1 ∧
      (site ≠ 16 → (x.route q).source < 6 → (x.route q).source ∈ (t.site site).freed) ∧
      (x.state ≠ .backup → x.fixed q = false → (t.site site).state = .bridged) ∧
      (s.autoSpare = true → s.siteWaits site = false →
        ∃ y ∈ t.opt.ins, y.kind = 1 ∧ y.target = site.val ∧ y.part = (x.route q).group) ∧
      (s.siteWaits site = true → (x.route q).group ∈ (t.site site).gfail) ∧
      (∀ i, i ≠ site.val → t.site i = s.site i) ∧ Only [.mbx, .reg, .opt, .ls, .ev] s t) ∧
  (∀ (c : Fin 4) (launched : Int) (rs : List (Site × Fin 6 × Int)) (s : State), c.val ∉ s.opt.failed → s.carrierUsed c = true →
    launched < s.lossAt ∨
      8 ≤ ((rs.filter fun e => decide (e.2.2 < s.lossAt) && s.landingActive e.1 e.2.1).map fun e => (e.1, e.2.1)).eraseDups.length →
    ∃ t, exec (.wavelengthFault c launched rs) s = .next t ∧ c.val ∈ t.opt.failed ∧ c.val ∉ t.opt.free ∧
      (∀ i, i < 23 → (s.site i).served = true → ∀ q, q < 4 → 6 ≤ ((t.site i).route q).source) ∧
      (s.autoSpare = true → ∃ y ∈ t.opt.ins, y.kind = 2 ∧ y.part = c.val) ∧
      t.opt.tone = s.opt.tone ∧ t.opt.slot = s.opt.slot ∧ Only [.mbx, .reg, .opt, .ls, .ev] s t) ∧
  (∀ (r : RegionNo) (s : State), validRegion r = true → ((s.site (siteOf r)).route (quadOf r)).feed = 3 →
    (s.rgn r).rep.stopped = false →
    exec (.flywheelExpiry r) s = .next (s.modRgn r fun g => { g with rep := { g.rep with stopped := true, held := s.replicaCount r } })) ∧
  (∀ (site : Site) (l : Fin 6) (q : Nat) (s : State), (s.site site).served = true → (s.site site).served? l = some q →
    l.val ∉ (s.site site).ldeg →
    (∀ (c : Fin 4) (power : Int), s.carrierUsed c = true → power < s.warnAt →
      ∃ t, exec (.landingWarnTimeout site l c power) s = .next t ∧ (t.site site).ldeg = addKey l (s.site site).ldeg ∧
        (t.site site).routes = (s.site site).routes ∧ (∀ i, i ≠ site.val → t.site i = s.site i) ∧ Only [.mbx, .opt] s t) ∧
    (s.warnAt ≤ (s.site site).powerAt l s.opt.tone → s.warnAt ≤ (s.site site).powerAt l s.opt.slot →
      ∃ t, exec (.landingCrcDegrade site l) s = .next t ∧ (t.site site).ldeg = addKey l (s.site site).ldeg ∧
        (t.site site).routes = (s.site site).routes ∧ (∀ i, i ≠ site.val → t.site i = s.site i) ∧ Only [.mbx, .opt] s t)) ∧
  (∀ (site : Site) (g : Fin 7) (s : State),
    exec (.continuityCheck site g true) s =
      .next (s.modSite site fun x => { x with contFail := Map.put 0 x.contFail g 0 })) ∧
  (∀ (site : Site) (g : Fin 7) (s : State), Map.get 0 (s.site site).contFail g < 3 →
    exec (.continuityCheck site g false) s = .next (s.modSite site fun x => { x with
      contFail := Map.put 0 x.contFail g (Map.get 0 (s.site site).contFail g + 1) })) ∧
  (∀ (site : Site) (g : Fin 7) (q : Nat) (s : State), 3 ≤ Map.get 0 (s.site site).contFail g → (s.site site).served = true → q < 4 →
    ((s.site site).route q).group = g.val → g.val ∉ (s.site site).gdeg →
    ∃ t, exec (.continuityCheck site g false) s = .next t ∧ (t.site site).gdeg = addKey g (s.site site).gdeg ∧
      (t.site site).contFail = Map.put 0 (s.site site).contFail g 4 ∧
      (∀ i, i ≠ site.val → t.site i = s.site i) ∧ Only [.mbx, .opt] s t) ∧
  (∀ (c : Fin 4) (launched : Int) (s : State), c.val ∈ s.opt.free → launched < s.lossAt →
    exec (.spareCarrierLoss c launched) s = .next { s with opt := { s.opt with launch := s.opt.launch.set c (clampI (-128) 127 launched), free := dropKey c.val s.opt.free, failed := addKey c s.opt.failed } }) ∧
  (∀ (c : Fin 4) (launched : Int) (rs : List (Site × Fin 6 × Int)) (s : State), c.val ∈ s.opt.failed → s.warnAt ≤ launched →
    let u := (s.setLaunch c launched).readings c rs
    (∀ e ∈ u.activeLandings, s.warnAt ≤ (u.site e.1).powerAt e.2 c) →
    exec (.carrierRecovered c launched rs) s = .next { u with opt := { u.opt with
      free := addKey c s.opt.free, failed := dropKey c.val s.opt.failed } }) ∧
  (∀ (c : Fin 4) (launched : Int) (rs : List (Site × Fin 6 × Int)) (s : State), launched < s.warnAt →
    exec (.carrierRecovered c launched rs) s = .next s)

/-- Insertions of landings and groups go step by step (R153-R155, Table 5-4). The next spare is marked taken; its power is checked; from the
next slot boundary on it is verified for 16 slots; at a slot boundary it takes its quadrant's route; 4 slots of heartbeats later the site is
OPTICAL again unless another bridge is in force, the part replaced is marked failed, INSERT_CNT counts it, and its handle ends COMPLETED. A
spare that fails its check is marked failed, and the next is chosen. The model's own choices that it rests on: log 21, 60, 65. -/
def Obligations.RouteInsertionsComplete : Prop :=
  (∀ (site : Site) (q : Fin 4) (m : SpareCheck) (y : Insertion) (s : State),
    let x := s.site site
    s.findIns (fun y => decide (y.kind = 0 ∧ y.target = site.val ∧ y.quad = q.val)) = some y → s.routeReady y = true → (x.route q).group ≠ 7 →
    (∀ l, y.step ≤ 2 → y.spare = none → (y.planned && y.wear) = false → x.freeLandings.head? = some l → s.turnOf y = true →
      ∃ t, exec (.landingInsert site q m.power m.quick m.full) s = .next t ∧ (t.site site).takenL = addKey l x.takenL ∧
        { y with step := 3, took := some l, since := s.now } ∈ t.opt.ins ∧ (t.site site).routes = x.routes ∧
        (∀ i, i ≠ site.val → t.site i = s.site i) ∧ Only [.mbx, .opt] s t) ∧
    (∀ l, y.step = 3 → y.took = some l →
      let u := (List.range 4).foldl (fun s c => s.setPower site l c (m.power.getD c 0)) s
      (s.warnAt ≤ (u.site site).powerAt l s.opt.tone → s.warnAt ≤ (u.site site).powerAt l s.opt.slot →
        ∃ t, exec (.landingInsert site q m.power m.quick m.full) s = .next t ∧ { y with step := 4, took := some l, since := s.nextSlot } ∈ t.opt.ins ∧
          (t.site site).routes = x.routes ∧ (∀ i, i ≠ site.val → t.site i = s.site i) ∧ Only [.mbx, .opt] s t) ∧
      ((u.site site).powerAt l s.opt.tone < s.warnAt → y.spare ≠ some l →
        ∃ t, exec (.landingInsert site q m.power m.quick m.full) s = .next t ∧ { y with step := 2, took := none, since := s.now } ∈ t.opt.ins ∧
          (t.site site).lfail = addKey l x.lfail ∧ (t.site site).takenL = dropKey l x.takenL ∧ Only [.mbx, .opt] s t)) ∧
    (∀ l, y.step = 4 ∨ y.step = 5 → y.took = some l → l < 6 → x.state ≠ .backup → s.now % 256 = 0 → y.since + 4096 ≤ s.now →
      (∀ c, c < 4 → s.carrierUsed c = true → s.agrees (landingKey site l c) (m.quick.getD c 0) = true) →
      ∃ t, exec (.landingInsert site q m.power m.quick m.full) s = .next t ∧ (t.site site).route q = { x.route q with source := l, feed := 0 } ∧
        (t.site site).takenL = dropKey l x.takenL ∧ { y with step := 6, took := some l, since := s.now } ∈ t.opt.ins ∧
        (x.state = .bridged → y.planned = false → (t.site site).state = .bridged) ∧
        (∀ i, i ≠ site.val → t.site i = s.site i) ∧ Only [.mbx, .reg, .opt, .ls] s t) ∧
    (∀ l, y.step = 6 → y.took = some l → y.since + 1024 ≤ s.now → s.quadBeats site q = true → y.planned = false →
      ∃ t, exec (.landingInsert site q m.power m.quick m.full) s = .next t ∧ y.part ∈ (t.site site).lfail ∧ t.opt.inserts = sat16 s.opt.inserts 1 ∧ y ∉ t.opt.ins ∧
        (∀ h o, y.handle = some h → (s.handle h).op = some o →
          (t.handle h).op = some { o with st := .done, outcome := .completed, final := 0, done := s.now }) ∧
        (x.state = .bridged → x.confirm = [q.val] → (∀ p, p < 4 → (x.route p).source ≠ 6 ∧ (x.route p).feed = 0) → (t.site site).state = .optical) ∧
        (t.site site).routes = x.routes ∧ (∀ i, i ≠ site.val → t.site i = s.site i) ∧ Only [.mbx, .opt, .ev] s t)) ∧
  (∀ (site : Site) (q : Fin 4) (quick : List Nat) (full : Option (List Nat)) (y : Insertion) (s : State),
    let x := s.site site
    let h := x.home.getD q 7
    s.findIns (fun y => decide (y.kind = 1 ∧ y.target = site.val ∧ y.quad = q.val)) = some y → s.routeReady y = true →
    (∀ g, y.step ≤ 2 → y.spare = none → (y.planned && y.wear) = false → (x.freeGroups.filter (x.groupFree q)).head? = some g → s.turnOf y = true →
      ∃ t, exec (.groupInsert site q quick full) s = .next t ∧ (t.site site).takenG = addKey g x.takenG ∧
        { y with step := 3, took := some g, since := s.now } ∈ t.opt.ins ∧ (t.site site).routes = x.routes ∧
        (∀ i, i ≠ site.val → t.site i = s.site i) ∧ Only [.mbx, .opt] s t) ∧
    (∀ g, y.step = 4 ∨ y.step = 5 → y.took = some g → g < 7 → x.state ≠ .backup → s.now % 256 = 0 → y.since + 4096 ≤ s.now →
      s.agrees (termKey site 1 g q 0) (quick.getD 0 0) = true → h < 6 → (x.route q).source = h ∨ x.landingFree h = true →
      ∃ t, exec (.groupInsert site q quick full) s = .next t ∧ (t.site site).route q = ⟨0, g, h⟩ ∧ (t.site site).takenG = dropKey g x.takenG ∧
        { y with step := 6, took := some g, since := s.now } ∈ t.opt.ins ∧
        (∀ i, i ≠ site.val → t.site i = s.site i) ∧ Only [.mbx, .reg, .opt, .ls] s t) ∧
    (∀ g, y.step = 6 → y.took = some g → y.since + 1024 ≤ s.now → s.quadBeats site q = true → y.planned = false →
      ∃ t, exec (.groupInsert site q quick full) s = .next t ∧ y.part ∈ (t.site site).gfail ∧ t.opt.inserts = sat16 s.opt.inserts 1 ∧ y ∉ t.opt.ins ∧
        (∀ i, i ≠ site.val → t.site i = s.site i) ∧ Only [.mbx, .opt, .ev] s t))

/-- Insertions of carriers (R156, R160). The next spare whose launched power lies within WARN takes the role of the carrier that it
replaces; at the next slot boundary, unless a role's carrier has failed meanwhile, every bridged quadrant whose own landing is sound is back
on it, INSERT_CNT counts the insertion, and it leaves the queue. A spare below WARN is failed, and with no spare left the role is lost. The
district spare pair (R67, R271, Table 2-7). Both oscillators accepted, it takes a dead region back to life as SPARE from its first edge on,
with the insertion's event once its lanes are calibrated; a worn region takes it without a stop, within 16 windows of the pair's alignment
or not at all. Where another region has it, the region stays dead and MLB_FAULT_N is asserted with EV_SPARE_EXHAUSTED. The model's own
choices that it rests on: log 21, 36, 60. -/
def Obligations.CarriersAndTheSparePair : Prop :=
  (∀ (c : Nat) (launched : Int) (y : Insertion) (s : State), s.findIns (fun y => decide (y.kind = 2)) = some y → s.insRuns y = true →
    y.step ≤ 1 → y.spare = none → s.freeCarrier = some c →
    (s.warnAt ≤ launched →
      ∃ t, exec (.wavelengthInsert launched) s = .next t ∧ t.opt.tone = (if s.opt.tone = y.part then c else s.opt.tone) ∧
        t.opt.slot = (if s.opt.slot = y.part then c else s.opt.slot) ∧ t.opt.free = dropKey c s.opt.free ∧
        { y with step := 2, took := some c, since := s.now } ∈ t.opt.ins ∧ t.opt.site = s.opt.site ∧ Only [.mbx, .opt] s t) ∧
    (launched < s.warnAt →
      ∃ t, exec (.wavelengthInsert launched) s = .next t ∧ t.opt.tone = s.opt.tone ∧ t.opt.slot = s.opt.slot ∧
        t.opt.free = dropKey c s.opt.free ∧ t.opt.failed = addKey c s.opt.failed ∧ y ∈ t.opt.ins ∧ Only [.opt] s t)) ∧
  (∀ (launched : Int) (y : Insertion) (s : State), s.findIns (fun y => decide (y.kind = 2)) = some y → s.insRuns y = true →
    y.step ≤ 1 → y.spare = none → y.planned = false → s.freeCarrier = none →
    ∃ t, exec (.wavelengthInsert launched) s = .next t ∧ y ∉ t.opt.ins ∧
      t.opt.lostTone = (s.opt.lostTone || decide (s.opt.tone = y.part)) ∧ t.opt.lostSlot = (s.opt.lostSlot || decide (s.opt.slot = y.part)) ∧
      t.opt.site = s.opt.site ∧ Only [.mbx, .opt, .ev] s t) ∧
  (∀ (launched : Int) (y : Insertion) (s : State), s.findIns (fun y => decide (y.kind = 2)) = some y → s.insRuns y = true →
    2 ≤ y.step → s.now % 256 = 0 → y.since < s.now →
    ∃ t, exec (.wavelengthInsert launched) s = .next t ∧ t.opt.inserts = sat16 s.opt.inserts 1 ∧ y ∉ t.opt.ins ∧
      t.opt.tone = s.opt.tone ∧ t.opt.slot = s.opt.slot ∧
      (s.rolesLit = false → t.opt.site = s.opt.site) ∧
      (∀ i q, s.rolesLit = true → i < 23 → q < 4 → (s.site i).state = .optical ∨ (s.site i).state = .bridged → 6 ≤ ((s.site i).route q).source →
        ((s.site i).route q).group ≠ 7 → (s.site i).home.getD q 7 < 6 → (s.site i).home.getD q 7 ∉ (s.site i).lfail →
        (s.site i).isDown 0 ((s.site i).home.getD q 7) = false → ((t.site i).route q).source = (s.site i).home.getD q 7) ∧
      Only [.mbx, .reg, .opt, .ls, .ev] s t) ∧
  (∀ (r : RegionNo) (runs0 runs1 : List RunResult) (q : Nat) (x : Stop) (s : State), Regular s → s.fw = true →
    (s.dieAt (siteOf r)).st = .running → (s.rgn r).rep.found = true → (s.rgn r).rep.stopped = false →
    s.regionExists r = true → (s.rgn r).chan.st = .dead → (s.rgn r).stop = some x → s.opt.ins = [] →
    Map.get none s.cal.taken (districtOf r) = none → (s.pairCal r runs0 runs1).2 = .accepted → x.opened ≤ q →
    (s.dieAt (siteOf r)).ungated = true → (s.dieAt (siteOf r)).unpowered = false → (s.rgn r).unpowered = false →
    (s.rgn r).inReset = false → s.siteFenced (siteOf r) = false → (s.rgn r).cal.retryWin ≤ s.win →
    ∃ t, exec (.districtSpareInsert r runs0 runs1 q) s = .next t ∧ (t.rgn r).chan.st = .spare ∧ (t.rgn r).chan.onSpare = true ∧
      (t.rgn r).chan.activeB = false ∧ (t.rgn r).chan.twin = .standby ∧ (t.rgn r).stop = none ∧ (t.rgn r).edge = q ∧
      (t.rgn r).nominal = (s.rgn r).nominal ∧ (∀ y ∈ t.opt.ins, y.kind = 4 ∧ y.target = r ∧ y.step = 5) ∧
      ((∀ e ∈ t.xg.rel, e.scope ≠ .region r) → t.opt.ins = [])) ∧
  (∀ (r : RegionNo) (runs0 runs1 : List RunResult) (q o : Nat) (s : State), s.fw = true → (s.dieAt (siteOf r)).st = .running →
    s.regionExists r = true →
    (s.rgn r).chan.st = .dead → (s.rgn r).stop.isSome = true → s.opt.ins = [] → Map.get none s.cal.taken (districtOf r) = some o →
    o ≠ r → (s.rgn r).chan.noSpare = false →
    exec (.districtSpareInsert r runs0 runs1 q) s = .next (((s.modRgn r fun g => { g with
      chan := { g.chan with noSpare := true } }).raise evSpareExhausted (at_ r 16)).mlbSet (.sparePair (districtOf r)))) ∧
  (∀ (r : RegionNo) (runs0 runs1 : List RunResult) (y : Insertion) (s : State), Regular s →
    s.findIns (fun y => decide (y.kind = 4 ∧ y.planned ∧ y.target = r)) = some y →
    (s.rgn r).chan.st = .paired ∨ (s.rgn r).chan.st = .single → s.siteFenced (siteOf r) = false → s.insRuns y = true →
    y.step < 4 → (s.rgn r).cal.retryWin ≤ s.win →
    s.clocked r = true → (s.rgn r).cal.running = false → (s.rgn r).swap = none →
    s.pairFree (districtOf r) = true → (s.pairCal r runs0 runs1).2 = .accepted → (s.rgn r).sLast = 0 → (s.rgn r).stop = none →
    (s.rgn r).pend = none →
    ∃ t, exec (.plannedDistrictSpare r runs0 runs1) s = .next t ∧ (t.rgn r).chan.st = .spare ∧ (t.rgn r).chan.onSpare = true ∧
      (t.rgn r).chan.activeB = false ∧ (t.rgn r).stop = none ∧ (t.rgn r).nominal = (s.rgn r).nominal ∧
      (t.rgn r).edge = (s.rgn r).edge ∧ (t.rgn r).cycle = (s.rgn r).cycle ∧ (t.rgn r).fl.fast = 4 ∧ y ∉ t.opt.ins ∧
      (∀ r', r' ≠ r → t.rgn r' = s.rgn r')) ∧
  (∀ (r : RegionNo) (runs0 runs1 : List RunResult) (y : Insertion) (s : State), Regular s →
    s.findIns (fun y => decide (y.kind = 4 ∧ y.planned ∧ y.target = r)) = some y →
    (∀ z ∈ s.opt.ins, z.kind = 4 → districtOf z.target = districtOf r → z = y) →
    (s.rgn r).chan.st = .paired ∨ (s.rgn r).chan.st = .single → s.siteFenced (siteOf r) = false → s.insRuns y = true →
    s.clocked r = true → (s.rgn r).cal.running = false → (s.rgn r).swap = none → Map.get none s.cal.taken (districtOf r) = some r →
    y.step = 4 → y.since + 5376 ≤ s.now →
    ∃ t, exec (.plannedDistrictSpare r runs0 runs1) s = .next t ∧ y ∉ t.opt.ins ∧ Map.get none t.cal.taken (districtOf r) = none ∧
      Only [.mbx, .cal, .opt] s t)

/-- The degradation ladder (R157-R161): a borrow becomes permanent where no group is free, its offset the sum of the cross-links remeasured;
a site without a landing, or every site with a role lost, moves to BACKUP as a whole at a slot boundary; it returns when a carrier within
WARN takes the role; without a group that works, or with its backup line failed on BACKUP, it is ISOLATED for good, with MLB_FAULT_N
asserted. The model's own choices that it rests on: log 21, 22, 60. -/
def Obligations.DegradationLadder : Prop :=
  (∀ (site : Site) (q : Fin 4) (p g : Nat) (links : List (Nat × Nat)) (delays : List Nat) (y : Insertion) (s : State), Regular s →
    let x := s.site site
    s.findIns (fun y => decide (y.kind = 1 ∧ y.target = site.val ∧ y.quad = q.val ∧ !y.planned)) = some y → s.insRuns y = true → y.step ≤ 2 →
    s.siteWaits site = false → x.served = true → x.freeGroups = [] → x.path q = some (p, links) → links ≠ [] → x.fixed q = false →
    x.own q = false → (x.route q).feed = x.borrow q → s.now % 256 = 0 → delays.length = links.length →
    x.down.find? (fun e => decide (e.1 = 1 ∧ e.2.2 = q.val)) = some (1, g, q.val) → g < 7 →
    ∃ t, exec (.borrowPermanent site q delays) s = .next t ∧ (q.val, delays.sum) ∈ (t.site site).fixedX ∧ g ∈ (t.site site).gfail ∧
      y ∉ t.opt.ins ∧
      (∀ i, i < links.length → let k := links.getD i (0, 0)
        t.term (termKey site k.1 0 k.2 0) = some ⟨delays.getD i 0 % 2 ^ 20, delays.getD i 0 % 2 ^ 20, s.now, none⟩) ∧
      (∀ i, i ≠ site.val → t.site i = s.site i) ∧ Only [.mbx, .reg, .opt, .ls, .ev] s t) ∧
  (∀ (site : Site) (s : State),
    let x := s.site site
    s.chrysalis = true → s.now % 256 = 0 → x.state = .optical ∨ x.state = .bridged →
    s.opt.lostTone = true ∨ s.opt.lostSlot = true ∨ (s.siteWaits site = false ∧ x.freeLandings = [] ∧ ∃ q, q < 4 ∧
      ((∃ y, s.findIns (fun y => decide (y.kind = 0 ∧ y.target = site.val ∧ y.quad = q)) = some y ∧ y.planned = false ∧ y.step ≤ 2 ∧ s.insRuns y = true) ∨
        (s.findIns (fun y => decide (y.kind = 0 ∧ y.target = site.val ∧ y.quad = q)) = none ∧ x.noLanding q = true))) →
    ∃ t, exec (.siteBackup site) s = .next t ∧ (t.site site).state = .backup ∧
      (∀ q, q < 4 → x.own q = true → (t.site site).route q = { x.route q with source := 6 }) ∧
      (∀ i, i ≠ site.val → t.site i = s.site i) ∧ Only [.mbx, .reg, .opt, .ls, .ev] s t) ∧
  (∀ (c : Nat) (p : Int) (e : Fin 4) (launched : List (Fin 4 × Int)) (s : State), s.fw = true → s.now % 256 = 0 → s.opt.lostTone = true →
    s.opt.lostSlot = false → s.freeCarrier = some c → launched.find? (fun e => decide (e.1.val = c)) = some (e, p) → s.warnAt ≤ p →
    ∃ t, exec (.siteOptical launched) s = .next t ∧ t.opt.tone = c ∧ t.opt.lostTone = false ∧ t.opt.free = dropKey c s.opt.free ∧
      (∀ i, i < 23 → (s.site i).state = .backup → (s.site i).intact = true →
        ((t.site i).state = .optical ∨ (t.site i).state = .bridged) ∧
        (∀ q, q < 4 → (s.site i).own q = true → ((s.site i).route q).source = 6 → ((t.site i).route q).source = (s.site i).home.getD q 7)) ∧
      Only [.reg, .opt, .ls, .ev] s t) ∧
  (∀ (site : Site) (backupFailed : Bool) (s : State), Regular s →
    let x := s.site site
    s.chrysalis = true → x.served = true → site = 16 ∨ (s.dieAt site).st = .lost →
    ((∀ q, q < 4 → (x.route q).group = 7) ∧ ∀ g, g < 7 → g ∈ x.gfail ∨ x.isDown 1 g = true) ∨ (x.state = .backup ∧ (x.backupBad = true ∨ backupFailed = true)) →
    ∃ t, exec (.siteIsolated site backupFailed) s = .next t ∧ (t.site site).state = .isolated ∧ (t.dieAt site).st = .isolated ∧
      FaultCause.isolated site ∈ t.sys.mlb ∧ (∀ y ∈ t.opt.ins, y.kind ≤ 1 → y.target ≠ site.val) ∧
      (site = 16 → ∀ r ∈ siteRegions 16, (t.xing (xId 4 r)).st = .fenced) ∧
      (∀ r ∈ siteRegions site, (t.rgn r).rep.stopped = true) ∧
      (∀ i, i ≠ site.val → t.site i = s.site i ∧ t.dieAt i = s.dieAt i))

/-- Measurement in service and the delay slew (R148, R149, R204). A landing that is due is armed, one at a time; a measurement within 10 ps
of the value in use is taken, another is withheld and the landing stays armed for a second one; at each slot boundary the value in use moves
by 0.5 ps toward the measurement; after a route change lanes take the shift of the delays remeasured into their deviation, and realign where
that leaves more than half a slot; none is due once every lane that is up has been. ROUTE_QUERY, OPTIC_RECAL and SPARE_INSERT (R153, R166,
R328, R329). ROUTE_QUERY answers the site's state and routes and the carriers; OPTIC_RECAL waits for the measurement of the term it names,
for a landing of all four carriers, and answers its value; SPARE_INSERT of a failed carrier is ACCEPTED with a handle, and the insertion
joins the queue. The model's own choices that it rests on: log 22, 36. -/
def Obligations.MeasurementsAndRouteCommands : Prop :=
  (∀ (site : Site) (l : Fin 6) (s : State), bitOf s.opt.ctrl.eff 0 = true → s.opt.armed = none → (s.site site).served = true →
    l.val ∉ (s.site site).lfail → s.recalDue site l = true →
    exec (.insvcRecal site l) s = .next { s with opt := { s.opt with
      armed := some (site.val, l.val), redo := s.opt.redo.filter (· ≠ (site.val, l.val)) } }) ∧
  (∀ (m : RouteTerm) (delay l : Nat) (x : Term) (s : State), Regular s → (s.site m.site).served = true → delay < 2 ^ 20 →
    s.opt.armed = some (m.site.val, l) → m.kind ≠ 0 ∨ l = m.index → s.findWait (RouteTerm.asked m) = none →
    s.term (RouteTerm.key m) = some x →
    ∃ t, exec (.insvcMeasurementDone m delay) s = .next t ∧
      (((delay : Int) - x.inUse).natAbs ≤ 20 → t.term (RouteTerm.key m) = some { x with meas := delay, at_ := s.now, held := none } ∧
        Only [.opt] s t) ∧
      (20 < ((delay : Int) - x.inUse).natAbs → x.held = none →
        t.term (RouteTerm.key m) = some { x with at_ := s.now, held := some delay } ∧ Only [.opt] s t) ∧
      (20 < ((delay : Int) - x.inUse).natAbs → x.held.isSome = true →
        t.term (RouteTerm.key m) = some { x with at_ := s.now, held := none }) ∧
      (m.kind = 0 → m.carrier ≠ 3 → t.opt.armed = some (m.site.val, m.index)) ∧
      (m.kind = 0 → m.carrier = 3 → t.opt.armed = if t.withheld m.site m.index then some (m.site.val, m.index) else none) ∧
      (∀ k, k ≠ RouteTerm.key m → t.term k = s.term k)) ∧
  (∀ s : State, s.now % 256 = 0 →
    ∃ t, exec .delaySlew s = .next t ∧ (∀ k, t.term k = (s.term k).map fun x => { x with
        inUse := if x.inUse < x.meas then x.inUse + 1 else if x.meas < x.inUse then x.inUse - 1 else x.inUse }) ∧
      t.opt.site = s.opt.site ∧ t.opt.armed = s.opt.armed ∧ Only [.opt] s t) ∧
  (∀ (site : Site) (r : RegionNo) (k d : Nat) (s : State), Regular s → siteOf r = site.val → k < 4 → (s.site site).laneDue.isSome = true →
    (s.laneAt r k).st.up = true →
    let l := s.laneAt r k
    let m := { l with delta := l.delta + tdiv (((d : Int) - l.dlane) * 262144) 1000, dlane := d }
    ∃ t, exec (.laneRemeasure site [(r, k, d)]) s = .next t ∧
      (l.st = .paused ∨ (m.delta.natAbs ≤ 8 * l.slot ∧ l.slipped = false) → t.laneAt r k = m) ∧
      (l.st ≠ .paused → 8 * l.slot < m.delta.natAbs ∨ l.slipped = true →
        t.laneAt r k = { m with st := .skewed, quiet := if l.st = .skewed then l.quiet else 0 }) ∧
      ((∀ e ∈ s.lanesUp site, e = (r, k)) → (t.site site).laneDue = none) ∧
      ((∃ e ∈ s.lanesUp site, e ≠ (r, k)) → t.opt = s.opt) ∧
      (∀ r' k', 4 * r' + k' ≠ 4 * r + k → t.laneAt r' k' = s.laneAt r' k') ∧ Only [.opt, .xg] s t) ∧
  (∀ (site : Site) (ds : List (RegionNo × Nat × Nat)) (s : State), (s.site site).laneDue = none → exec (.laneRemeasure site ds) s = .next s) ∧
  (∀ (q : Req) (s : State), ready s 0x0501 q = true → q.tgt ≤ 22 →
    exec (.routeQuery q) s = .next ((posted s 0x0501 q).answer q.mbx
      (okReply (toLE 4 (s.siteStateWord q.tgt) ++ toLE 4 (s.siteRouteWord q.tgt) ++ toLE 4 s.optWave)))) ∧
  (∀ (q : Req) (site : Site) (kind : Fin 5) (s : State), ready s 0x0503 q = true → q.tgt = site.val → q.u8 0 = kind.val →
    q.u8 1 ≤ (if kind = 0 then 5 else 6) → q.u8 2 ≤ 3 → (s.site site).served = true → s.opt.ins = [] →
    exec (.opticRecal q) s = .next ((posted s 0x0503 q).modBox q.mbx fun b => { b with
      wait := some (.opticRecal ⟨site, kind, q.u8 1, Fin.ofNat 4 (q.u8 2), Fin.ofNat 4 (if kind = 0 then s.opt.tone else 0)⟩) })) ∧
  (∀ (m : RouteTerm) (delay : Nat) (x : Term) (b : Fin 8) (s : State), (s.site m.site).served = true → delay < 2 ^ 20 →
    s.term (RouteTerm.key m) = some x → ((delay : Int) - x.inUse).natAbs ≤ 20 → s.findWait (RouteTerm.asked m) = some b →
    (∀ n, n ≠ b → ∀ w, (s.box n).wait = some w → RouteTerm.asked m w = false) →
    (m.kind ≠ 0 → ∃ u, exec (.insvcMeasurementDone m delay) s =
      .next (u.answer b (okReply (toLE 4 (2 ^ 31 + delay) ++ zeros 4 ++ toLE 8 s.now))) ∧ Only [.opt] s u) ∧
    (m.kind = 0 → s.opt.armed = none ∨ s.opt.armed = some (m.site.val, m.index) →
      (m.carrier ≠ 3 → ∃ t, exec (.insvcMeasurementDone m delay) s = .next t ∧ t.opt.armed = some (m.site.val, m.index) ∧ Only [.opt] s t) ∧
      (m.carrier = 3 → ∃ u, exec (.insvcMeasurementDone m delay) s =
        .next (u.answer b (u.recalReply (landingKey m.site m.index s.opt.tone))) ∧ Only [.opt] s u))) ∧
  (∀ (q : Req) (i : Nat) (s : State), ready s 0x0502 q = true → q.u8 0 = 2 → q.tgt = 0 → q.u8 1 = s.opt.tone ∨ q.u8 1 = s.opt.slot →
    q.u8 2 = 0 → q.u8 1 ∈ s.opt.failed → (∀ y ∈ s.opt.ins, y.kind ≠ 2) → s.freeHandle (decide (q.mbx = 7)) = some i →
    ∃ t, exec (.spareInsert q) s = .next (t.answer q.mbx { status := 0x01, handle := some (s.handleNo i) }) ∧
      t.opt.ins = s.opt.ins ++ [{ insertion 2 0 (q.u8 1) 0 none false q.force 1 with handle := some i, asked := true, at_ := s.now, since := s.now }] ∧
      (∃ o, t.handle i = { gen := (s.handle i).gen, op := some o } ∧ o.kind = .spareInsert ∧ o.st = .running ∧
        o.starter = some q.mbx ∧ o.start = s.now) ∧
      (∀ j, j ≠ i → t.handle j = s.handle j) ∧ Only [.mbx, .opt] s t)

/-- The host's path to rack time (R112, R397). A post within its bounds is adopted at once where an adoption is due, told, and slewed to
otherwise; with another source, or too wide a bound, it is REFUSED; 10 s without one put the host out of use. Span peers, keys and lock
(R336, R387, R390, R395, R215). SPAN_PEER_ADD configures a port that has no peer, SPAN_PEER_REMOVE clears it; a new current key keeps the
one it replaces for 10 ms on both ports; symbol lock takes a new peer to LISTENING, and its loss, which resets the port's two crossings
jointly and WHOLE, to NO_LOCK; a quarantine that is over leaves its peer LISTENING. The model's own choices that it rests on: log 43, 44. -/
def Obligations.HostOffsetsPeersAndKeys : Prop :=
  (∀ (q : Req) (s : State), ready s 0x0B05 q = true →
    let x := stampSRead q.payload 0
    let a := q.le 16 8 * 65536 + q.le 24 2
    s.discSrc = 2 → q.le 32 4 ≤ fld s.sp.host.eff 15 0 → a ≤ s.now * 65536 → s.now * 65536 ≤ a + 1000000000 * 65536 → s.et.hostLast = none →
    (s.et.adoptNext = true → s.et.holdover = false →
      ∃ t, exec (.hostOffsetPost q) s = .next (t.answer q.mbx (okReply [1])) ∧
        t.et = { s.et with rack := x, rackTo := none, adopted := true, adoptNext := false, host := true, hostLast := some (x, a, s.now),
                           idleFrom := none } ∧
        t.ev = (s.raise evRackStep 0).ev ∧ Only [.mbx, .et, .sp, .ev] s t) ∧
    (s.et.adoptNext = false ∨ s.et.holdover = true →
      ∃ t, exec (.hostOffsetPost q) s = .next (t.answer q.mbx (okReply [0])) ∧
        t.et = { s.et with rackTo := some x, host := true, hostLast := some (x, a, s.now), idleFrom := none } ∧
        Only [.mbx, .et, .sp] s t)) ∧
  (∀ (q : Req) (s : State), ready s 0x0B05 q = true → s.discSrc ≠ 2 ∨ fld s.sp.host.eff 15 0 < q.le 32 4 →
    exec (.hostOffsetPost q) s = .next ((posted s 0x0B05 q).answer q.mbx { status := 0x50 })) ∧
  (∀ (x : Int) (u a : Nat) (s : State), s.et.hostLast = some (x, u, a) → s.et.host = true → a + 10000000000 ≤ s.now →
    ∃ t, exec .hostOutOfUse s = .next t ∧ t.et.host = false ∧ t.et.hostLast = s.et.hostLast ∧ t.et.rack = s.et.rack ∧ t.et.rackTo = s.et.rackTo ∧
      Only [.et, .sp] s t) ∧
  (∀ (q : Req) (s : State), ready s 0x0B02 q = true → q.u8 0 ≤ 1 → q.u8 1 ≤ 1 →
    let one := decide (q.u8 0 = 1)
    let id := BitVec.ofNat 64 (q.le 8 8)
    (s.spPort one).peer = none → s.quarantined id = false →
    ∃ t, exec (.spanPeerAdd q) s = .next (t.answer q.mbx (okReply (t.spPort one).record)) ∧
      (t.spPort one).peer = some (id, decide (q.u8 1 = 1)) ∧ (t.spPort one).st = (if (s.spPort one).lock then 1 else 7) ∧
      (t.spPort one).meas = [] ∧ (t.spPort one).count = 0 ∧ (t.spPort one).bootId = none ∧ (t.spPort one).key = (s.spPort one).key ∧
      (t.spPort one).lock = (s.spPort one).lock ∧ (t.spPort (!one)).peer = (s.spPort (!one)).peer ∧ Only [.mbx, .et, .sp] s t) ∧
  (∀ (q : Req) (s : State), ready s 0x0B02 q = true → q.u8 0 ≤ 1 → q.u8 1 ≤ 1 → (s.spPort (decide (q.u8 0 = 1))).peer.isSome = true →
    exec (.spanPeerAdd q) s = .next ((posted s 0x0B02 q).answer q.mbx { status := 0x11 })) ∧
  (∀ (q : Req) (s : State), ready s 0x0B02 q = true → q.u8 0 ≤ 1 → q.u8 1 ≤ 1 → (s.spPort (decide (q.u8 0 = 1))).peer = none →
    s.quarantined (BitVec.ofNat 64 (q.le 8 8)) = true →
    exec (.spanPeerAdd q) s = .next ((posted s 0x0B02 q).answer q.mbx { status := 0x51 })) ∧
  (∀ (q : Req) (s : State), ready s 0x0B03 q = true → q.u8 0 ≤ 1 → (s.spPort (decide (q.u8 0 = 1))).peer.isSome = true →
    let one := decide (q.u8 0 = 1)
    ∃ t, exec (.spanPeerRemove q) s = .next (t.answer q.mbx okReply) ∧ (t.spPort one).peer = none ∧ (t.spPort one).st = 0 ∧
      (t.spPort one).key = (s.spPort one).key ∧ (t.spPort one).rank = none ∧ (t.spPort (!one)).peer = (s.spPort (!one)).peer ∧
      Only [.mbx, .et, .sp] s t) ∧
  (∀ (q : Req) (s : State), ready s 0x0B04 q = true → q.u8 0 = 0 →
    ∃ t, exec (.spanKeySet q) s = .next (t.answer q.mbx okReply) ∧
      (∀ one, t.spPort one = { s.spPort one with
        key := some (slice q.payload 16 16)
        prev := match (s.spPort one).key with
          | some old => some (old, s.now + 10000000)
          | none => (s.spPort one).prev }) ∧ Only [.mbx, .sp] s t) ∧
  (∀ (q : Req) (s : State), ready s 0x0B04 q = true → q.u8 0 = 1 →
    ∃ t, exec (.spanKeySet q) s = .next (t.answer q.mbx okReply) ∧
      (∀ one, t.spPort one = { s.spPort one with next := some (slice q.payload 16 16) }) ∧ Only [.mbx, .sp] s t) ∧
  (∀ (q : Req) (s : State), ready s 0x0B01 q = true →
    exec (.spanQuery q) s = .next ((posted s 0x0B01 q).answer q.mbx (okReply (s.sp.p0.record ++ s.sp.p1.record)))) ∧
  (∀ (port : Fin 2) (k : Key) (a : Nat) (s : State), (s.spPort (decide (port.val = 1))).prev = some (k, a) → a ≤ s.now →
    ∃ t, exec (.previousKeyExpiry port) s = .next t ∧
      t.spPort (decide (port.val = 1)) = { s.spPort (decide (port.val = 1)) with prev := none } ∧
      t.spPort (!decide (port.val = 1)) = s.spPort (!decide (port.val = 1)) ∧ Only [.sp] s t) ∧
  (∀ (port : Fin 2) (s : State), s.sys.pkgReset = false →
    let p := s.spPort (decide (port.val = 1))
    p.lock = false →
    ∃ t, exec (.spanSymbolLock port) s = .next t ∧ (t.spPort (decide (port.val = 1))).lock = true ∧
      (p.peer = none → (t.spPort (decide (port.val = 1))).st = 0) ∧
      (∀ id m, p.peer = some (id, m) → s.quarantined id = true → (t.spPort (decide (port.val = 1))).st = 6) ∧
      (∀ id m, p.peer = some (id, m) → s.quarantined id = false → p.annAt = none → p.bootId = none →
        (t.spPort (decide (port.val = 1))).st = 1) ∧ Only [.et, .sp] s t) ∧
  (∀ (port : Fin 2) (s : State), Regular s →
    let p := s.spPort (decide (port.val = 1))
    p.lock = true →
    ∃ t, exec (.spanLockLoss port) s = .next t ∧ (t.spPort (decide (port.val = 1))).lock = false ∧
      (t.spPort (decide (port.val = 1))).probe = none ∧ (t.spPort (decide (port.val = 1))).st = (if p.peer.isSome then 7 else 0) ∧
      (∀ n, n = port.val ∨ n = 2 + port.val →
        (t.xing (xId 10 n)).st = .whole ∧ (t.xing (xId 10 n)).e1 = (s.xing (xId 10 n)).e1 ∧ (t.xing (xId 10 n)).e2 = (s.xing (xId 10 n)).e1) ∧
      Only [.et, .xg, .sp] s t) ∧
  (∀ (id : BitVec 64) (e : Quar) (s : State), e ∈ s.sp.quar → e.id = id → e.until_ ≤ s.now →
    ∃ t, exec (.quarantineExpiry id) s = .next t ∧ t.quarantined id = false ∧ (∀ i, i ≠ id → t.quarantined i = s.quarantined i) ∧
      (∀ one, (s.spPort one).peer.map (·.1) = some id → (t.spPort one).st = (if (s.spPort one).lock then 1 else 7) ∧ (t.spPort one).qreason = 0) ∧
      Only [.et, .sp] s t)

/-- Span frames (R389-R392, R395, R413). A frame that verifies gives its SEQ; an ANNOUNCE its peer's rank; a PROBE is answered within 20 us;
a REPLY to the probe outstanding, within its bounds, is a measurement of delay and offset; one outside them is counted, as is a frame whose
MAC fails, and the sixteenth of these in a second puts its peer in quarantine. The model's own choices that it rests on: log 7, 43, 44, 45,
60. -/
def Obligations.SpanFrames : Prop :=
  (∀ (port : Fin 2) (f : Frame) (s : State),
    let one := decide (port.val = 1)
    let p := s.spPort one
    s.takes one = true → p.fault f = none → frameType f = 1 → byteAt f.bytes 28 ≤ 3 → byteAt f.bytes 29 ≤ 15 →
    s.sp.root = true ∨ le f.bytes 32 8 ≠ s.ownId →
    ∃ t, exec (.announce port f) s = .next t ∧
      (t.spPort one).rank = some ⟨byteAt f.bytes 28, le f.bytes 32 8, byteAt f.bytes 29 + 1⟩ ∧ (t.spPort one).annAt = some s.now ∧
      (t.spPort one).seq = frameSeq f ∧ (t.spPort one).bootId = some (frameBoot f) ∧ (t.spPort one).proto = byteAt f.bytes 0 ∧
      (t.spPort one).fLoop = 0 ∧ t.ev = s.ev ∧ Only [.et, .sp] s t) ∧
  (∀ (port : Fin 2) (f : Frame) (s : State),
    let one := decide (port.val = 1)
    let p := s.spPort one
    s.takes one = true → p.fault f = none → frameType f = 1 →
    15 < byteAt f.bytes 29 ∨ 3 < byteAt f.bytes 28 ∨ (s.sp.root = false ∧ le f.bytes 32 8 = s.ownId) → p.fLoop < 7 →
    ∃ t, exec (.announce port f) s = .next t ∧ t.spPort one = { p with fLoop := p.fLoop + 1, boundRej := sat16 p.boundRej 1 } ∧
      t.spPort (!one) = s.spPort (!one) ∧ Only [.sp] s t) ∧
  (∀ (port : Fin 2) (f : Frame) (k : Key) (s : State),
    let one := decide (port.val = 1)
    s.takes one = true → s.stamps one = true → (s.spPort one).fault f = none → frameType f = 2 → (s.spPort one).key = some k →
    ∃ t, exec (.probe port f) s = .next t ∧ t.fresh = s.fresh + 1 ∧ (t.spPort one).txSeq = (s.spPort one).txSeq + 1 ∧
      (t.spPort one).seq = frameSeq f ∧
      (∃ d : Nat, d ≤ 20000 * 65536 ∧
        let bytes := [2, 3] ++ toLE 2 56 ++ toLE 8 s.ownId ++ toLE 8 s.sp.bootId.toNat ++ toLE 4 ((s.spPort one).txSeq + 1) ++
          padTo 2 (kcv k) ++ zeros 2 ++
          (toLE 4 (frameSeq f) ++ zeros 4 ++ slice f.bytes 28 16 ++ stampS (s.arrival f) ++ stampS (s.arrival f + d));
        (t.spPort one).tx = some (bytes, (Config.aesCmac k bytes).take 8)) ∧ Only [.fresh, .et, .sp] s t) ∧
  (∀ (port : Fin 2) (f : Frame) (n : Nat) (t1 : Int) (a : Nat) (s : State),
    let one := decide (port.val = 1)
    let p := s.spPort one
    s.takes one = true → s.stamps one = true → p.fault f = none → frameType f = 3 → p.bootId = some (frameBoot f) → p.probe = some (n, t1, a) →
    le f.bytes 28 4 = n → slice f.bytes 36 16 = stampS t1 → f.arrival ≤ ((a : Int) + 100000) * 65536 →
    let t2 := stampSRead f.bytes 52
    let t3 := stampSRead f.bytes 68
    let d := tdiv ((t2 - t1) + (s.arrival f - t3)) 2
    let o := tdiv ((t2 - t1) - (s.arrival f - t3)) 2
    (s.delayOk p d = true → s.offsetOk p o = true → s.rateOk p o = true →
      ∃ t, exec (.reply port f) s = .next t ∧ (t.spPort one).meas = (⟨d, o, s.et.rack, s.now⟩ :: p.meas).take 16 ∧
        (t.spPort one).count = p.count + 1 ∧ (t.spPort one).accept = p.accept + 1 ∧ (t.spPort one).probe = none ∧
        (t.spPort one).fDelay = 0 ∧ (t.spPort one).fOffset = 0 ∧ (t.spPort one).fRate = 0) ∧
    (s.delayOk p d = false → p.fDelay < 7 →
      ∃ t, exec (.reply port f) s = .next t ∧ (t.spPort one).meas = p.meas ∧ (t.spPort one).fDelay = p.fDelay + 1 ∧
        (t.spPort one).boundRej = sat16 p.boundRej 1 ∧ (t.spPort one).accept = p.accept ∧ (t.spPort one).probe = none ∧ t.et = s.et)) ∧
  (∀ (port : Fin 2) (k : Key) (s : State),
    let one := decide (port.val = 1)
    s.sends one = true → (s.spPort one).key = some k → s.due (s.spPort one).annSent 1000000 = true →
    ∃ t, exec (.announceTransmit port) s = .next t ∧ (t.spPort one).txSeq = (s.spPort one).txSeq + 1 ∧ (t.spPort one).annSent = some s.now ∧
      (let bytes := [2, 1] ++ toLE 2 16 ++ toLE 8 s.ownId ++ toLE 8 s.sp.bootId.toNat ++ toLE 4 ((s.spPort one).txSeq + 1) ++
          padTo 2 (kcv k) ++ zeros 2 ++ ([BitVec.ofNat 8 t.sp.cls, BitVec.ofNat 8 t.sp.steps, BitVec.ofNat 8 (b2n t.sp.fast), 0] ++
            toLE 8 t.sp.grand ++ zeros 4);
        (t.spPort one).tx = some (bytes, (Config.aesCmac k bytes).take 8)) ∧ Only [.et, .sp] s t) ∧
  (∀ (port : Fin 2) (k : Key) (s : State),
    let one := decide (port.val = 1)
    let p := s.spPort one
    s.sends one = true → p.key = some k → p.st = 2 ∨ p.st = 3 ∨ p.st = 4 → s.due p.probedAt s.probeEvery = true →
    ∃ t, exec (.probeTransmit port) s = .next t ∧
      (let bytes := [2, 2] ++ toLE 2 16 ++ toLE 8 s.ownId ++ toLE 8 s.sp.bootId.toNat ++ toLE 4 (p.txSeq + 1) ++
          padTo 2 (kcv k) ++ zeros 2 ++ stampS s.rackNow;
        t.spPort one = { p with txSeq := p.txSeq + 1, tx := some (bytes, (Config.aesCmac k bytes).take 8),
                                probe := some (p.txSeq + 1, s.rackNow, s.now), probedAt := some s.now }) ∧
      t.spPort (!one) = s.spPort (!one) ∧ Only [.sp] s t) ∧
  (∀ (port : Fin 2) (s : State),
    let one := decide (port.val = 1)
    let p := s.spPort one
    p.st = 2 ∨ p.st = 3 ∨ p.st = 4 → (∀ a, p.annAt = some a → a + 3000000 ≤ s.now) → (p.annAt = none → p.heardAt + 3000000 ≤ s.now) →
    ∃ t, exec (.peerAnnounceTimeout port) s = .next t ∧ (t.spPort one).st = 5 ∧ (t.spPort one).annAt = none ∧
      (t.spPort one).meas = p.meas ∧ Only [.et, .sp] s t) ∧
  (∀ (port : Fin 2) (f : Frame) (s : State),
    let one := decide (port.val = 1)
    let p := s.spPort one
    s.takes one = true → p.fault f = some .mac →
    ((s.failList p.auth).2 = false →
      ∃ t, exec (.rejectedFrame port f .mac) s = .next t ∧ t.spPort one = { p with authRej := sat16 p.authRej 1, auth := (s.failList p.auth).1 } ∧
        t.spPort (!one) = s.spPort (!one) ∧ Only [.sp] s t) ∧
    (∀ id m, (s.failList p.auth).2 = true → p.peer = some (id, m) →
      ∃ t, exec (.rejectedFrame port f .mac) s = .next t ∧ (t.spPort one).st = 6 ∧ (t.spPort one).qreason = 1 ∧ t.quarantined id = true ∧
        (t.spPort one).authRej = sat16 p.authRej 1 ∧ t.ev = (s.raise evSpanQuarantine (b2n one + 16)).ev ∧ Only [.et, .sp, .ev] s t)) ∧
  (∀ (port : Fin 2) (f : Frame) (s : State),
    let one := decide (port.val = 1)
    let p := s.spPort one
    s.takes one = true → p.fault f = some .identity → (s.failList p.ident).2 = false →
    ∃ t, exec (.rejectedFrame port f .identity) s = .next t ∧ t.spPort one = { p with authRej := sat16 p.authRej 1, ident := (s.failList p.ident).1 } ∧
      Only [.sp] s t) ∧
  (∀ (port : Fin 2) (x : Nat × Int × Nat) (s : State),
    let one := decide (port.val = 1)
    (s.spPort one).probe = some x →
    ∃ t, exec (.measurementDeferred port) s = .next t ∧ t.spPort one = { s.spPort one with probe := none } ∧
      (s.sp.deferAt = none → t.sp.deferred = 0 ∧ t.sp.deferAt = some s.now ∧ t.ev = (s.raise evSpanDeferred (s.sp.deferred + 1)).ev) ∧
      (∀ a, s.sp.deferAt = some a → s.now < a + 1000000000 → t.sp.deferred = s.sp.deferred + 1 ∧ t.sp.deferAt = some a ∧ t.ev = s.ev) ∧
      Only [.sp, .ev] s t)

/-- REGION_PERIOD_END (R42-R48, R51, R117): the period is lengthened by the effective stretch v, the largest of the taps, the loop's and the
sympathetic stretch and never more than 48 sixteenths of the nominal; the cycle count advances, the trip level is latched, the stretch is
charged to the window in which the period ended, and a period that needed more than 48 counts as an overrange (R44). The model's own choices
that it rests on: log 25, 65. -/
def Obligations.APeriodEnds : Prop :=
  ∀ (r : RegionNo) (taps vmin : Nat) (offers : List (Option Nat)) (s : State), Regular s → s.clocked r = true → (s.rgn r).stop = none →
    let g := s.rgn r
    let v := min 48 (max (min 48 taps) (max g.sl.s g.sSym))
    let e := g.edge + g.tg + v * (4 * g.nominal)
    ∃ t, exec (.regionPeriodEnd r taps vmin offers) s = .next t ∧
      (t.rgn r).edge = e ∧ (t.rgn r).cycle = g.cycle + 1 ∧ (t.rgn r).sLast = v ∧
      (t.rgn r).sl.l1 = g.trip vmin ∧ (t.rgn r).sl.l2 = g.sl.l1 ∧ (t.rgn r).sl.s = g.sl.s ∧ (t.rgn r).sl.st = g.sl.st ∧
      (t.rgn r).stretchCnt = (if v = 0 then g.stretchCnt else g.stretchCnt + 1) ∧
      (t.rgn r).rangeCnt = (if 48 < taps then sat16 g.rangeCnt 1 else g.rangeCnt) ∧
      (winOfQ e = g.win → (t.rgn r).win_.quanta = g.win_.quanta + v * (4 * g.nominal) ∧ (t.rgn r).win_.aheadQ = g.win_.aheadQ) ∧
      (winOfQ e ≠ g.win → (t.rgn r).win_.quanta = g.win_.quanta ∧ (t.rgn r).win_.aheadQ = g.win_.aheadQ + v * (4 * g.nominal)) ∧
      (g.sl.st ≠ .fixed → g.sl.margin = 0 → (t.rgn r).tg = g.tg) ∧
      (t.rgn r).nominal = g.nominal ∧ (t.rgn r).chan = g.chan ∧ (t.rgn r).stop = none ∧ (t.rgn r).pend = g.pend ∧
      (∀ r', r' ≠ r → t.rgn r' = s.rgn r') ∧ Only [.reg, .et, .xg, .ev] s t

/-- STRETCH_LOOP_STEP (R49, Table 2-2) for the level L of the period before last: up at once, held, then down by one at each decay step,
never below L; IDLE where it reaches 0. Entry into FIXED adds SAFE_S sixteenths to the target and leaves s_loop at 0; the exit takes off
what the entry added (R50); a write of SLOOP_EN governs from the first boundary after it (R421). STRETCH_NOTICE_RECEIVE (R53): the link's
sympathetic stretch is the sender's stretch times its code over the receiver's, rounded up and never above 48; during a stop for a change of
nominal it is 0 (R54). The model's own choices that it rests on: log 25, 50. -/
def Obligations.StretchLoopAndNotices : Prop :=
  (∀ (r : RegionNo) (s : State), Regular s → s.clocked r = true → (s.rgn r).stop = none → (s.rgn r).sl.st ≠ .fixed →
    (s.rgn r).sl.toFixed = false ∨ (s.rgn r).edge ≤ (s.rgn r).sl.asked * 32768 →
    let g := s.rgn r
    let x := g.sl
    ∃ t, exec (.stretchLoopStep r) s = .next t ∧ t.rgn r = { g with sl := (t.rgn r).sl } ∧
      (x.st = .idle → x.l2 = 0 → (t.rgn r).sl = { x with s := 0 }) ∧
      (x.st = .idle → 0 < x.l2 → (t.rgn r).sl = { x with st := .hold, s := x.l2, hold := g.holdLen }) ∧
      (x.st = .hold → x.s ≤ x.l2 → (t.rgn r).sl = { x with s := x.l2, hold := g.holdLen }) ∧
      (x.st = .hold → x.l2 < x.s → 1 < x.hold → (t.rgn r).sl = { x with hold := x.hold - 1 }) ∧
      (x.st = .hold → x.l2 < x.s → x.hold ≤ 1 → (t.rgn r).sl = { x with
        s := x.s - 1, st := if x.s = 1 then .idle else .decay, decay := 1 }) ∧
      (x.st = .decay → x.s ≤ x.l2 → (t.rgn r).sl = { x with st := .hold, s := x.l2, hold := g.holdLen }) ∧
      (x.st = .decay → x.l2 < x.s → x.decay < g.decayLen → (t.rgn r).sl = { x with decay := x.decay + 1 }) ∧
      (x.st = .decay → x.l2 < x.s → g.decayLen ≤ x.decay → (t.rgn r).sl = { x with
        s := x.s - 1, st := if x.s = 1 then .idle else .decay, decay := 1 }) ∧
      (∀ r', r' ≠ r → t.rgn r' = s.rgn r') ∧ Only [.reg, .xg] s t) ∧
  (∀ (r : RegionNo) (s : State), Regular s → s.clocked r = true → (s.rgn r).stop = none → (s.rgn r).sl.st ≠ .fixed →
    (s.rgn r).sl.toFixed = true → (s.rgn r).sl.asked * 32768 < (s.rgn r).edge → (s.rgn r).sl.margin = 0 →
    ∃ t, exec (.stretchLoopStep r) s = .next t ∧ (t.rgn r).sl.st = .fixed ∧ (t.rgn r).sl.s = 0 ∧
      (t.rgn r).sl.margin = 4 * (s.rgn r).nominal * (s.rgn r).safeS ∧
      (t.rgn r).tg = (s.rgn r).tg + 4 * (s.rgn r).nominal * (s.rgn r).safeS ∧ Only [.reg, .et, .xg, .ev] s t) ∧
  (∀ (r : RegionNo) (s : State), Regular s → s.clocked r = true → (s.rgn r).stop = none → (s.rgn r).sl.st = .fixed →
    (s.rgn r).sl.toIdle = true → (s.rgn r).sl.askedOn * 32768 < (s.rgn r).edge →
    ∃ t, exec (.stretchLoopStep r) s = .next t ∧ (t.rgn r).sl.st = .idle ∧ (t.rgn r).sl.s = 0 ∧ (t.rgn r).sl.margin = 0 ∧
      (t.rgn r).tg = (s.rgn r).tg - (s.rgn r).sl.margin ∧ Only [.reg, .et, .xg, .ev] s t) ∧
  (∀ (r : RegionNo) (k : Fin 4) (v p : Nat) (s : State), Regular s → (s.laneAt r k).sNote = some (v, p) →
    (s.rgn r).sl.st ≠ .fixed → (s.rgn r).symEn.getLsbD k = true →
    ∃ t, exec (.stretchNoticeReceive r k) s = .next t ∧
      t.rgn r = { s.rgn r with
        sym := (s.rgn r).sym.set k (if (s.rgn r).stop.any (fun x => decide (x.kind = 1)) then 0 else symOf v p (s.rgn r).nominal) } ∧
      t.laneAt r k = { s.laneAt r k with sNote := none } ∧ (∀ r', r' ≠ r → t.rgn r' = s.rgn r') ∧
      (∀ r' k', r' * 4 + k' ≠ r * 4 + k.val → t.laneAt r' k' = s.laneAt r' k') ∧ Only [.reg, .xg] s t)

/-- REGION_WINDOW_BOUNDARY (R51, R52, R73, R92, R93, R96, R251): the window that ends sends its summary through the record lane, and the
read-only words are refreshed; the new window begins with what periods that ended in it have stretched; its trim is the newest plan's that
covers it, within the trim limits, or 0 where nothing is planned; the period target is T of R93; the ceiling word that is due applies. A
DEAD region's words are refreshed too, CHANNEL_STATE through a record lane that does not work (R66, R67). The model's own choices that it
rests on: log 13, 25, 65. -/
def Obligations.AWindowBegins : Prop :=
  (∀ (r : RegionNo) (m : WinMeas) (s : State), Regular s → s.clocked r = true → (s.rgn r).stop = none →
    (s.rgn r).win < winOfQ (s.rgn r).edge →
    let g := s.rgn r
    let w := winOfQ g.edge
    ∃ t, exec (.regionWindowBoundary r m) s = .next t ∧ (t.rgn r).win = w ∧
      (s.xState (xId 5 r) = .whole →
        .summary ⟨g.win * 256, (s.windowReadings r m).1, (s.windowReadings r m).2, g.win_.trips, g.win_.sixteenths⟩ ∈ (t.rgn r).former.lane ∧
        (t.rgn r).roStatus = word (g.statusWord s.inHold) ∧ (t.rgn r).roEvcnt = word g.evcntWord ∧ (t.rgn r).roStretch = g.stretchCnt) ∧
      (s.xState (xId 5 r) ≠ .whole → (t.rgn r).former.lane = g.former.lane ∧ (t.rgn r).roStatus = g.showChan.roStatus) ∧
      (t.rgn r).win_.quanta = g.win_.aheadQ ∧ (t.rgn r).win_.sixteenths = g.win_.aheadS ∧ (t.rgn r).win_.trips = g.win_.aheadT ∧
      (t.rgn r).win_.warn = g.win_.close.warn ∧
      (t.rgn r).edge = g.edge ∧ (t.rgn r).cycle = g.cycle ∧ (t.rgn r).nominal = g.nominal ∧
      (t.rgn r).gov = (match g.govNext with | some (c, w0) => if w0 ≤ w then c else g.gov | none => g.gov) ∧
      (∀ p, s.sys.hold = 0 → g.planFor w = some p →
        (t.rgn r).trim = (t.rgn r).clipTrim (p.trims.getD (w - p.win0) 0) ∧ (t.rgn r).ramp = none ∧
        (t.rgn r).tg = (t.rgn r).target (p.trims.getD (w - p.win0) 0)) ∧
      (s.sys.hold = 0 → g.plans = [] → g.ramp = none →
        (t.rgn r).trim = (t.rgn r).clipTrim 0 ∧ (t.rgn r).tg = (t.rgn r).target 0) ∧
      ((t.rgn r).floopActs = false → (t.rgn r).fl = g.fl) ∧
      ((t.rgn r).floopActs = true → (t.rgn r).fl = ((({ t.rgn r with fl := g.fl } : Region).twinLoop m.twinErr).freqLoop m.err).fl) ∧
      (r ∈ t.sys.droop ↔ (t.rgn r).win_.warn = true) ∧ (∀ r', r' ≠ r → t.rgn r' = s.rgn r')) ∧
  (∀ (r : RegionNo) (m : WinMeas) (s : State), Regular s → validRegion r = true → (s.rgn r).chan.st = .dead → (s.rgn r).win < s.win →
    ∃ t, exec (.regionWindowBoundary r m) s = .next t ∧ (t.rgn r).win = s.win ∧ (t.rgn r).win_.warn = (s.rgn r).win_.close.warn ∧
      (s.xState (xId 5 r) = .whole → (t.rgn r).roStatus = word ((s.rgn r).statusWord s.inHold)) ∧
      (s.xState (xId 5 r) ≠ .whole → (t.rgn r).roStatus = (s.rgn r).showChan.roStatus) ∧
      (r ∈ t.sys.droop ↔ (t.rgn r).win_.warn = true) ∧ (∀ r', r' ≠ r → t.rgn r' = s.rgn r') ∧ Only [.sys, .reg] s t)

/-- The period target T of R93 and the frequency loops of R55 and R57: the target is the nominal with the trim added, never under the floor
that the ceiling and MIN_CODE set, and with SAFE_S sixteenths more in FIXED; the loop adds the shifted error to the bias of the active
channel, within 0 to 4,095, and the standby twin's own loop to the other. REGION_SET_PERIOD and REGION_QUERY (R74, R189, R190, R324). A raw
code at or above MIN_CODE goes out as commanded; a level of the base configuration whose code lies below MIN_CODE is raised to it and marked
CLAMPED; the response waits for the latch of its own code, which PERIOD_CODE_LATCH brings; a dead region refuses. REGION_QUERY answers the
region's sixteen words and its trim in force. A change of nominal period (R58-R61, R65). A code that differs from the nominal is latched as
pending, an equal one clears it; the stop opens at the end of the period in progress at the first window boundary after the latch; at a
restart 33 to 40 ns after it the new code is the nominal, fast acquisition begins, and a standby twin is reloaded with four windows to lock;
a failed verification marks the stop failed and raises EV_REGION_RETUNE_FAIL, and one of an aligned twin opens an unplanned stop. The
model's own choices that it rests on: log 12, 25, 65. -/
def Obligations.PeriodsAreTargetedAndChanged : Prop :=
  (∀ (g : Region) (trim : Int), g.planEn = true → g.sl.st ≠ .fixed → g.trimFast ≤ trim → trim ≤ g.trimSlow →
    g.target trim = max (g.nominal * (64 + trim)).toNat (64 * max 160 (max g.gov (min g.minCode g.nominal)))) ∧
  (∀ (g : Region) (trim : Int), g.planEn = false → g.sl.st ≠ .fixed →
    g.target trim = max (64 * g.nominal) (64 * max 160 (max g.gov (min g.minCode g.nominal)))) ∧
  (∀ (g : Region) (trim : Int), g.planEn = false → g.sl.st = .fixed →
    g.target trim = max (64 * g.nominal) (64 * max 160 (max g.gov (min g.minCode g.nominal))) + 4 * g.nominal * g.safeS) ∧
  (∀ (g : Region) (err : Int), 0 < g.fl.fast →
    let f := g.regs.floop.eff
    let old := if g.chan.activeB then g.fl.biasB else g.fl.biasA
    let h := (g.freqLoop err).fl
    ((if g.chan.activeB then h.biasB else h.biasA) : Int) = min 4095 (max 0 ((old : Int) + Int.fdiv err (2 ^ fld f 7 4))) ∧
    (if g.chan.activeB then h.biasA = g.fl.biasA else h.biasB = g.fl.biasB) ∧ h.fast = g.fl.fast - 1 ∧
    (fld f 23 16 * 64 < err.natAbs * 125 → h.flock = false) ∧
    (err.natAbs * 125 ≤ fld f 15 8 * 64 → fld f 15 8 < fld f 23 16 → h.flock = true)) ∧
  (∀ (g : Region) (err : Int), g.floopActs = true → g.chan.twin = .standby → g.chan.locked = false →
    let old := if g.chan.activeB then g.fl.biasA else g.fl.biasB
    let h := (g.twinLoop err).fl
    ((if g.chan.activeB then h.biasA else h.biasB) : Int) = min 4095 (max 0 ((old : Int) + Int.fdiv err (2 ^ fld g.regs.floop.eff 7 4))) ∧
    (if g.chan.activeB then h.biasB = g.fl.biasB else h.biasA = g.fl.biasA)) ∧
  (∀ (g : Region) (err : Int), g.chan.twin ≠ .standby → g.twinLoop err = g) ∧
  (∀ (q : Req) (s : State), ready s 0x0201 q = true → q.u8 0 = 0 → q.level = true → q.u8 1 = 0 → 160 ≤ q.le 2 2 → q.le 2 2 ≤ 1280 →
    s.regionExists q.tgt = true → (s.rgn q.tgt).chan.st ≠ .dead → s.xState (xId 4 q.tgt) = .whole → (s.rgn q.tgt).minCode ≤ q.le 2 2 →
    exec (.regionSetPeriod q) s = .next (((posted s 0x0201 q).sendCode q.tgt (q.le 2 2)).modBox q.mbx fun b => { b with
      wait := some (.period [q.tgt] 0 (toLE 1 1 ++ zeros 3 ++ (toLE 2 q.tgt ++ toLE 2 (q.le 2 2)))) })) ∧
  (∀ (q : Req) (s : State) (c : Nat), ready s 0x0201 q = true → q.u8 0 = 0 → q.level = false → q.u8 1 ≤ 15 →
    s.perfCode (districtOf q.tgt) (q.u8 1) = some c → s.regionExists q.tgt = true → (s.rgn q.tgt).chan.st ≠ .dead →
    s.xState (xId 4 q.tgt) = .whole → c < (s.rgn q.tgt).minCode →
    exec (.regionSetPeriod q) s = .next (((posted s 0x0201 q).sendCode q.tgt (s.rgn q.tgt).minCode).modBox q.mbx fun b => { b with
      wait := some (.period [q.tgt] 0 (toLE 1 1 ++ zeros 3 ++ (toLE 2 q.tgt ++ toLE 2 ((s.rgn q.tgt).minCode + 2 ^ 13)))) })) ∧
  (∀ (r : RegionNo) (c : Nat) (s : State), Regular s → validRegion r = true → s.xState (xId 4 r) = .whole → s.planWaits r = false →
    s.planOnly = false → (s.rgn r).tx = none →
    ((s.sendCode r c).rgn r).tx = some (.period c, s.now) ∧ ((s.sendCode r c).rgn r).sent = none) ∧
  (∀ (r : RegionNo) (c : Nat) (x : Xfer × Nat) (s : State), Regular s → validRegion r = true → (s.rgn r).tx = some x →
    ((s.sendCode r c).rgn r).tx = some x ∧ ((s.sendCode r c).rgn r).sent = some c) ∧
  (∀ (r : RegionNo) (c at_ st : Nat) (pay : Bytes) (m : Fin 8) (s : State), Regular s → validRegion r = true →
    (s.rgn r).tx = some (.period c, at_) → s.clocked r = true → s.xState (xId 4 r) = .whole → (s.box m).st = .working →
    (s.box m).wait = some (.period [r] st pay) → (∀ n : Fin 8, n ≠ m → (match (s.box n).wait with | some (.period _ _ _) => true | _ => false) = false) →
    ((∀ c', (s.rgn r).sent = some c' → c' = c ∨ entryCode pay r ≠ some c') →
      ∃ u : State, exec (.periodCodeLatch r) s = .next (u.answer m { status := st, payload := pay }) ∧
        (u.rgn r).pend = (if c = (s.rgn r).nominal ∧ (s.rgn r).stop = none then none else some (c, s.now))) ∧
    (∀ c', c' ≠ c → (s.rgn r).sent = some c' → entryCode pay r = some c' →
      ∃ t, exec (.periodCodeLatch r) s = .next t ∧ (t.box m).st = .working ∧ (t.box m).wait = some (.period [r] st pay))) ∧
  (∀ (q : Req) (s : State), ready s 0x0201 q = true → q.u8 0 = 0 → q.level = true → q.u8 1 = 0 → 160 ≤ q.le 2 2 → q.le 2 2 ≤ 1280 →
    s.regionExists q.tgt = true → (s.rgn q.tgt).chan.st = .dead →
    exec (.regionSetPeriod q) s = .next ((posted s 0x0201 q).answer q.mbx (codeReply 0x50))) ∧
  (∀ (q : Req) (s : State), ready s 0x0202 q = true → s.regionExists q.tgt = true →
    exec (.regionQuery q) s = .next ((posted s 0x0202 q).answer q.mbx
      (okReply ((List.range 16).flatMap (fun i => toLE 4 (s.rgnWord q.tgt (4 * i))) ++ toLES 2 (s.rgn q.tgt).trim)))) ∧
  (∀ (r : RegionNo) (c at_ : Nat) (s : State), Regular s → (s.rgn r).tx = some (.period c, at_) → s.clocked r = true →
    s.xState (xId 4 r) = .whole →
    ∃ t, exec (.periodCodeLatch r) s = .next t ∧
      (c ≠ (s.rgn r).nominal → (t.rgn r).pend = some (c, s.now) ∧ (t.rgn r).swap = (s.rgn r).swap.map fun w => { w with aligned := none }) ∧
      (c = (s.rgn r).nominal → (s.rgn r).stop = none → (t.rgn r).pend = none ∧ (t.rgn r).swap = (s.rgn r).swap) ∧
      ((s.rgn r).sent = none → (s.rgn r).msgs = [] → (t.rgn r).tx = none) ∧
      (t.rgn r).nominal = (s.rgn r).nominal ∧ (t.rgn r).stop = (s.rgn r).stop ∧ (∀ r', r' ≠ r → t.rgn r' = s.rgn r') ∧
      Only [.mbx, .reg, .xg] s t) ∧
  (∀ (r : RegionNo) (c at_ : Nat) (s : State), Regular s → (s.rgn r).pend = some (c, at_) → s.clocked r = true →
    (s.rgn r).stop = none → nextAfter 256 at_ * 32768 < (s.rgn r).edge → (s.rgn r).stopWin ≠ some (winOfQ (s.rgn r).edge) →
    c ≠ (s.rgn r).nominal →
    ∃ t, exec (.freqStopBegin r) s = .next t ∧ (t.rgn r).stop = some ⟨1, (s.rgn r).edge, c, false, false⟩ ∧
      (t.rgn r).pend = none ∧ (t.rgn r).stopWin = some (winOfQ (s.rgn r).edge) ∧ (t.rgn r).nominal = (s.rgn r).nominal ∧
      t.rgnWord r 4 = 65536 + c ∧
      (t.rgn r).sl = (if (s.rgn r).sl.st = .fixed then (s.rgn r).sl
        else { (s.rgn r).sl with st := .paused, lp := max (s.rgn r).sl.l1 (s.rgn r).sl.l2 }) ∧
      (t.rgn r).edge = (s.rgn r).edge ∧ (t.rgn r).cycle = (s.rgn r).cycle ∧ (t.rgn r).chan = (s.rgn r).chan ∧
      (∀ r', r' ≠ r → t.rgn r' = s.rgn r') ∧ Only [.reg, .et, .xg, .ev] s t) ∧
  (∀ (r : RegionNo) (q vmin op c : Nat) (fixed : Bool) (s : State), Regular s → (s.rgn r).stop = some ⟨1, op, c, false, fixed⟩ →
    op + 33 * 32768 ≤ q → q ≤ op + 40 * 32768 →
    ∃ t, exec (.freqStopRestart r q vmin) s = .next t ∧ (t.rgn r).stop = none ∧ (t.rgn r).nominal = c ∧ (t.rgn r).edge = q ∧
      (t.rgn r).fl.fast = 4 ∧ (t.rgn r).cycle = (s.rgn r).cycle ∧
      ((s.rgn r).chan.twin = .standby → (t.rgn r).chan = { (s.rgn r).chan with locked := false, reloadWin := some (winOfQ q + 4) }) ∧
      ((s.rgn r).chan.twin ≠ .standby → (t.rgn r).chan = (s.rgn r).chan) ∧
      ((s.rgn r).sl.st = .paused → (s.rgn r).sl.toFixed = false → max (s.rgn r).sl.lp ((s.rgn r).trip vmin) = 0 →
        (t.rgn r).sl.st = .idle ∧ (t.rgn r).sl.s = 0) ∧
      ((s.rgn r).sl.st = .paused → (s.rgn r).sl.toFixed = false → 0 < max (s.rgn r).sl.lp ((s.rgn r).trip vmin) →
        (t.rgn r).sl.st = .hold ∧ (t.rgn r).sl.s = max (s.rgn r).sl.lp ((s.rgn r).trip vmin) ∧
        (t.rgn r).sl.hold = (t.rgn r).holdLen) ∧
      (∀ r', r' ≠ r → t.rgn r' = s.rgn r') ∧ Only [.reg, .et, .xg, .ev] s t) ∧
  (∀ (r : RegionNo) (q vmin : Nat) (x : Stop) (s : State), (s.rgn r).stop = some x → q < x.opened + 33 * 32768 ∨ x.opened + 40 * 32768 < q →
    exec (.freqStopRestart r q vmin) s = .next s) ∧
  (∀ (r : RegionNo) (x : Stop) (s : State), (s.rgn r).stop = some x → x.kind = 1 → x.failed = false →
    exec (.retuneFail r) s = .next ((s.modRgn r fun g => { g with
      stop := some { x with failed := true } }).raise evRegionRetuneFail (r + at_ x.code 16))) ∧
  (∀ (r : RegionNo) (why : SwapWhy) (w : Nat) (s : State), Regular s → s.clocked r = true → (s.rgn r).stop = none →
    (s.rgn r).swap = some ⟨why, some w⟩ → (s.rgn r).chan.hasTwin = true →
    ∃ t, exec (.retuneFail r) s = .next t ∧ (t.rgn r).stop = some ⟨2, (s.rgn r).edge, (s.rgn r).nominal, true, false⟩ ∧
      (t.rgn r).chan = (s.rgn r).chan ∧ (∀ r', r' ≠ r → t.rgn r' = s.rgn r') ∧ Only [.reg, .et, .xg, .ev] s t)

/-- The failure of an oscillator (R52, R61, R62, R65, R66, R235). Where the region has a twin the stop is an unplanned one and the twin's
first edge ends it, with the region SINGLE on the other oscillator; where it has none the region is DEAD and every crossing of its own is
fenced, while its droop warning lasts. A reloaded twin locks, and a calibration that waited for it is complete. Planned swaps (R63, R64,
R65). A drift failure's request is taken whatever else goes on; the twin is loaded, locked and BUSY, to be aligned by a window that is
noted; at an unstretched boundary the multiplexer hands over, and the former active oscillator is the twin in the role that the reason
gives; 16 windows without such a boundary give the swap up, with the twin reloaded on STANDBY and a calibration off its slot; where gap mode
applies no swap is made for a calibration, which goes on in gap mode (R241). The model's own choices that it rests on: log 25. -/
def Obligations.OscillatorsFailAndSwap : Prop :=
  (∀ (r : RegionNo) (s : State), Regular s → s.clocked r = true → (s.rgn r).stop = none → (s.rgn r).chan.hasTwin = true →
    ∃ t, exec (.channelEdgeTimeout r) s = .next t ∧
      (t.rgn r).stop = some ⟨2, (s.rgn r).edge, (s.rgn r).nominal, true, false⟩ ∧ (t.rgn r).chan = (s.rgn r).chan ∧
      (t.rgn r).nominal = (s.rgn r).nominal ∧ (∀ r', r' ≠ r → t.rgn r' = s.rgn r') ∧ Only [.reg, .et, .xg, .ev] s t) ∧
  (∀ (r : RegionNo) (q vmin : Nat) (x : Stop) (s : State), Regular s → (s.rgn r).stop = some x → x.failed = true → x.opened ≤ q →
    (s.rgn r).chan.hasTwin = true →
    ∃ t, exec (.directTakeoverRestart r q vmin) s = .next t ∧ (t.rgn r).stop = none ∧ (t.rgn r).chan.st = .single ∧
      (t.rgn r).chan.activeB = !(s.rgn r).chan.activeB ∧ (t.rgn r).chan.twin = .failed ∧ (t.rgn r).nominal = x.code ∧
      (t.rgn r).edge = q ∧ (t.rgn r).swap = none ∧ (t.rgn r).fl.fast = 4 ∧
      (t.rgn r).cnt.faults = ((s.rgn r).cnt.faults + 1) % 65536 ∧
      (∃ u : State, u.sys = s.sys ∧ t.ev = (u.raise evRegionTakeover r).ev) ∧ Only [.mbx, .cal, .reg, .et, .xg, .ev] s t) ∧
  (∀ (r : RegionNo) (s : State), Regular s → validRegion r = true → (s.rgn r).chan.st ≠ .dead → (s.rgn r).chan.hasTwin = false →
    s.clocked r = true ∨ (s.rgn r).stop.isSome = true →
    ∃ t, exec (.regionDead r) s = .next t ∧ (t.rgn r).chan.st = .dead ∧ (t.rgn r).swap = none ∧
      (∃ x, (t.rgn r).stop = some x ∧ x.failed = true ∧ ((s.rgn r).stop = none → x.kind = 3)) ∧ t.sys.droop = s.sys.droop ∧
      (∀ n, n = 4 ∨ n = 5 ∨ n = 7 ∨ n = 8 → (t.xing (xId n r)).st = .fenced) ∧
      (∃ u : State, u.sys.epoch = s.sys.epoch ∧ u.sys.erg = s.sys.erg ∧ t.ev = (u.raise evRegionDead r).ev)) ∧
  (∀ (r : RegionNo) (s : State), Regular s → (s.rgn r).chan.reloadWin.isSome = true → (s.rgn r).chan.twin = .standby →
    (s.rgn r).cal.ending = false →
    exec (.twinReloadLocked r) s = .next (s.modRgn r fun g => { g with chan := { g.chan with locked := true, reloadWin := none } })) ∧
  (∀ (r : RegionNo) (s : State), Regular s → (s.rgn r).chan.reloadWin.isSome = true → (s.rgn r).chan.twin = .standby →
    (s.rgn r).cal.ending = true →
    ∃ t, exec (.twinReloadLocked r) s = .next t ∧ (t.rgn r).chan.locked = true ∧ (t.rgn r).chan.reloadWin = none ∧
      (t.rgn r).cal.ending = false ∧ (t.rgn r).cal.running = false ∧ r ∉ t.cal.busy) ∧
  (∀ (r : RegionNo) (s : State), Regular s → s.clocked r = true → (s.rgn r).chan.hasTwin = true → (s.rgn r).stop = none →
    (s.rgn r).pend = none → 2 ≤ (s.rgn r).fl.drift →
    ∃ t, exec (.plannedSwapRequest r .drift) s = .next t ∧ (t.rgn r).chan.twin = .busy ∧ (t.rgn r).chan.locked = true ∧
      (t.rgn r).chan.activeB = (s.rgn r).chan.activeB ∧ (t.rgn r).swap = some ⟨.drift, some ((s.now + 1310) / 256)⟩ ∧
      (∀ r', r' ≠ r → t.rgn r' = s.rgn r') ∧ Only [.mbx, .cal, .reg] s t) ∧
  (∀ (r : RegionNo) (s : State), Regular s → s.clocked r = true → (s.rgn r).chan.hasTwin = true → (s.rgn r).stop = none →
    (s.rgn r).pend = none → s.fw = true → s.twinSuspect r = false → (s.rgn r).swap = none → (s.rgn r).chan.twin = .standby →
    (s.rgn r).cal.phase = 4 → (s.rgn r).cal.ending = false → (s.rgn r).chan.reloadWin = none → s.gapApplies r = false →
    ∃ t, exec (.plannedSwapRequest r .calibration) s = .next t ∧ (t.rgn r).chan.twin = .busy ∧ (t.rgn r).chan.locked = true ∧
      (t.rgn r).chan.activeB = (s.rgn r).chan.activeB ∧ (t.rgn r).swap = some ⟨.calibration, some ((s.now + 1310) / 256)⟩ ∧
      (∀ r', r' ≠ r → t.rgn r' = s.rgn r') ∧ Only [.reg] s t) ∧
  (∀ (r : RegionNo) (s : State), Regular s → (s.rgn r).cal.phase = 4 → (s.rgn r).cal.test = false → s.gapApplies r = true →
    ∃ t, exec (.plannedSwapRequest r .calibration) s = .next t ∧ (t.rgn r).cal.phase = 6 ∧ (t.rgn r).cal.half = true ∧ (t.rgn r).cal.gap = true ∧
      (t.rgn r).swap = (s.rgn r).swap ∧ (t.rgn r).chan = (s.rgn r).chan ∧ (∀ r', r' ≠ r → t.rgn r' = s.rgn r') ∧ Only [.reg] s t) ∧
  (∀ (r : RegionNo) (why : SwapWhy) (w : Nat) (s : State), Regular s → (s.rgn r).swap = some ⟨why, some w⟩ → s.clocked r = true →
    (s.rgn r).stop = none → (s.rgn r).pend = none → (s.rgn r).sLast = 0 → why = .drift ∨ (s.rgn r).win < w + 16 →
    ∃ t, exec (.swapHandover r) s = .next t ∧ (t.rgn r).chan.activeB = !(s.rgn r).chan.activeB ∧ (t.rgn r).swap = none ∧
      (why = .calibration → (t.rgn r).chan.twin = .busy) ∧ (why = .wear → (t.rgn r).chan.twin = .standby) ∧
      (why = .drift ∨ why = .retire → (t.rgn r).chan.twin = .failed ∧ (t.rgn r).chan.st = .single) ∧
      (t.rgn r).fl.fast = 4 ∧ (t.rgn r).fl.drift = 0 ∧ (t.rgn r).nominal = (s.rgn r).nominal ∧ (t.rgn r).edge = (s.rgn r).edge ∧
      (t.rgn r).cnt.swaps = ((s.rgn r).cnt.swaps + 1) % 65536 ∧
      (why = .retire → t.cal.retired = sat16 s.cal.retired 1) ∧ (why ≠ .retire → t.cal = s.cal) ∧
      (∀ r', r' ≠ r → t.rgn r' = s.rgn r') ∧ Only [.reg, .cal, .ev] s t) ∧
  (∀ (r : RegionNo) (why : SwapWhy) (w : Nat) (s : State), Regular s → (s.rgn r).swap = some ⟨why, some w⟩ → why = .wear ∨ why = .retire →
    w + 16 ≤ (s.rgn r).win →
    ∃ t, exec (.swapWaitTimeout r) s = .next t ∧ (t.rgn r).swap = none ∧ (t.rgn r).chan.activeB = (s.rgn r).chan.activeB ∧
      ((s.rgn r).chan.twin = .busy → t.rgn r = { (s.rgn r).twinBack s.win with swap := none } ∧ (t.rgn r).chan.twin = .standby ∧
        (t.rgn r).chan.reloadWin = some (s.win + 4)) ∧
      ((s.rgn r).chan.twin ≠ .busy → t.rgn r = { s.rgn r with swap := none }) ∧
      (∀ r', r' ≠ r → t.rgn r' = s.rgn r') ∧ Only [.reg] s t) ∧
  (∀ (r : RegionNo) (w : Nat) (s : State), Regular s → (s.rgn r).swap = some ⟨.calibration, some w⟩ → w + 16 ≤ (s.rgn r).win →
    ∃ t, exec (.swapWaitTimeout r) s = .next t ∧ (t.rgn r).swap = none ∧ (t.rgn r).chan.twin ≠ .busy ∧ (t.rgn r).cal.running = false ∧
      r ∉ t.cal.busy ∧ ((s.rgn r).cal.dueAge = false → (t.rgn r).cal.dueDrift = true ∨ (s.rgn r).cal.test = true) ∧
      (∀ r', r' ≠ r → t.rgn r' = s.rgn r') ∧ Only [.mbx, .cal, .reg] s t)

/-- RIDE (R174, R175, R178). A quadrant that loses its reference puts every locked synthesizer of its own in RIDE, and no other. After
RIDE_US, once: with AUTO_RATE clear EV_LS_RIDE_LIMIT is raised, with no backup line and no landing available EV_LS_NO_REF; else its port is
asked for HALF. The rate handshake (R172, R173, R176, R177). A port that is due is asked for HALF; its RATE_ACK makes it QUIESCED, and its
synthesizer relocks at the rate asked for, never at FULL on the backup line; without it the synthesizer relocks at HALF regardless, or a
request for FULL is withdrawn, and a port that is QUIESCED leaves on CLK_GRANT; a HALF port whose route has been optical for 1 ms is asked
back up; CLK_GRANT is dropped after 1 ms. SYNTH_QUERY and SYNTH_SET_MODE (R182, R184, R330). SYNTH_QUERY answers the words of a port's
synthesizer, or of a quadrant's sixteen; SYNTH_SET_MODE switches the synthesizer of a port that is not LIVE off; it is BUSY during a rate
change or an insertion, and REFUSED for a LIVE port without FORCE and for FULL without an optical reference. The model's own choices that it
rests on: log 21, 60. -/
def Obligations.SynthesizersRideAndRenegotiate : Prop :=
  (∀ (q : Fin 4) (s : State), s.refGood q = false →
    ∃ t, exec (.synthRide q) s = .next t ∧
      (∀ i, i ∈ quadAll q → (s.synth i).st = .locked → t.synth i = { s.synth i with
        st := .ride, rideAt := some s.now, rideOver := false, lockAt := none, jitRun := 0 }) ∧
      (∀ i, i ∉ quadAll q ∨ (s.synth i).st ≠ .locked ∧ (s.synth i).st ≠ .locking → t.synth i = s.synth i) ∧
      (∀ p, (∀ i, i ∈ quadAll q → (s.synth i).port ≠ some p) → t.port p = s.port p) ∧ Only [.ls] s t) ∧
  (∀ (i : Fin 72) (a : Nat) (s : State), (s.synth i).st = .ride → (s.synth i).rideAt = some a → (s.synth i).rideOver = false →
    a + s.rideNs ≤ s.now →
    let u := s.modSynth i fun y => { y with rideOver := true }
    (s.autoRate = false → exec (.rideTimeout i) s =
      .next ((u.raise evLsRideLimit (s.lsArg i)).raiseIf (s.noSource (synthQuad i)) evLsNoRef (s.lsArg i))) ∧
    (s.autoRate = true → s.noSource (synthQuad i) = true → exec (.rideTimeout i) s = .next (u.raise evLsNoRef (s.lsArg i))) ∧
    (∀ p, s.autoRate = true → s.noSource (synthQuad i) = false → (s.synth i).port = some p → s.halfDue p = true →
      (s.port p).st ≠ .down → p < 64 →
      ∃ t, exec (.rideTimeout i) s = .next t ∧ t.port p = { s.port p with
          rate := .half, ack := false, reqAt := some s.now } ∧
        t.ls.renegs = sat16 s.ls.renegs 1 ∧ (∀ o, o ≠ p → t.port o = s.port o) ∧ (∀ j, t.synth j = u.synth j) ∧ Only [.ls] s t)) ∧
  (∀ (q : Fin 4) (s : State), s.autoRate = true →
    ∃ t, exec (.renegotiateHalf q) s = .next t ∧
      (∀ p, p ∈ quadPorts q → s.halfDue p = true → (s.port p).st ≠ .down → t.port p = { s.port p with
        rate := .half, ack := false, reqAt := some s.now }) ∧
      (∀ p, p ∉ quadPorts q ∨ s.halfDue p = false → t.port p = s.port p) ∧ Only [.ls] s t) ∧
  (∀ (p : Fin 64) (i : Nat) (s : State), s.serving p = some i → (s.port p).rate ≠ .none → (s.port p).ack = false →
    s.portHeard p = true → (s.portSees p).2.1 = (s.port p).rate →
    let back := decide (s.source16 (synthQuad i) = 6)
    let cold := (s.synth i).cold && decide ((s.synth i).st = .locking)
    ∃ t, exec (.rateAck p) s = .next t ∧ t.port p = { s.port p with ack := true, st := .quiesced, reqAt := none } ∧
      t.synth i = { s.synth i with
        st := .locking, half := decide ((s.port p).rate = .half) || back, bwEff := (s.synth i).bw, backup := back, rideAt := none
        lockAt := if cold then (s.synth i).lockAt else some s.now, cold := cold, jitRun := 0 } ∧
      (∀ o, o ≠ p.val → t.port o = s.port o) ∧ Only [.ls] s t) ∧
  (∀ (p : Fin 64) (i a : Nat) (s : State), s.serving p = some i → (s.port p).reqAt = some a → (s.port p).ack = false →
    a + s.renegNs ≤ s.now → (s.port p).rate = .half →
    ∃ t, exec (.renegTimeout p) s = .next t ∧ t.port p = { s.port p with reqAt := none } ∧ (t.synth i).st = .locking ∧
      (t.synth i).half = true ∧ t.ls.forced = sat16 s.ls.forced 1 ∧ t.ev = (s.raise evLsRenegForced (s.lsArg i)).ev ∧
      (∀ o, o ≠ p.val → t.port o = s.port o) ∧ Only [.ls, .ev] s t) ∧
  (∀ (p : Fin 64) (i a : Nat) (s : State), s.serving p = some i → (s.port p).reqAt = some a → (s.port p).ack = false →
    a + s.renegNs ≤ s.now → (s.port p).rate = .full →
    ((s.port p).st ≠ .quiesced → exec (.renegTimeout p) s = .next ((s.modPort p fun x => { x with
      rate := .none, reqAt := none, declinedAt := some a }).raise evLsRenegDeclined (s.lsArg i))) ∧
    ((s.port p).st = .quiesced → (s.port p).qreq = false → (s.port p).grant = false → (s.synth i).st = .locked → (s.synth i).lockAt = none →
      exec (.renegTimeout p) s = .next ((s.modPort p fun x => { x with
        qreq := false, rate := .none, ack := false, grant := true, grantAt := some s.now, reqAt := none, quietAt := none
        declinedAt := some a }).raise evLsRenegDeclined (s.lsArg i)))) ∧
  (∀ (p : Fin 64) (i a : Nat) (s : State), s.serving p = some i → s.opt.since16.getD (p.val / 16) none = some a →
    (s.synth i).st = .locked → (s.synth i).half = true → (s.synth i).pinHalf = false → s.autoRate = true → a + 1000000 ≤ s.now →
    (s.port p).rate = .none → (∀ d, (s.port p).declinedAt = some d → d + 10000000 ≤ s.now) → (s.port p).st ≠ .down →
    ∃ t, exec (.renegotiateFull p) s = .next t ∧ t.port p = { s.port p with
        rate := .full, ack := false, reqAt := some s.now } ∧
      t.ls.renegs = sat16 s.ls.renegs 1 ∧ (∀ j, t.synth j = s.synth j) ∧ (∀ o, o ≠ p.val → t.port o = s.port o) ∧
      Only [.ls] s t) ∧
  (∀ (p : Fin 64) (a : Nat) (s : State), (s.port p).grantAt = some a → (s.port p).grant = true → a + 1000000 ≤ s.now →
    exec (.clkGrantTimeout p) s = .next (s.modPort p fun x => { x with grant := false, grantAt := none })) ∧
  (∀ (q : Req) (s : State), ready s 0x0601 q = true → q.u8 0 = 0 → q.tgt ≤ 63 →
    exec (.synthQuery q) s = .next ((posted s 0x0601 q).answer q.mbx (okReply (s.synthInfo q.tgt)))) ∧
  (∀ (q : Req) (s : State), ready s 0x0601 q = true → q.u8 0 = 1 → q.tgt ≤ 3 →
    exec (.synthQuery q) s = .next ((posted s 0x0601 q).answer q.mbx (okReply ((quadPorts q.tgt).flatMap s.synthInfo)))) ∧
  (∀ (q : Req) (s : State), ready s 0x0602 q = true → q.tgt ≤ 63 → q.u8 0 = 0 → q.u8 1 ≤ 1 → q.u8 2 = 0 →
    let i := s.portSynth q.tgt
    i < 64 → (s.synth i).en = true → s.synthBusy i = false → s.portLive i = false →
    ∃ t, exec (.synthSetMode q) s = .next (t.answer q.mbx (okReply (toLE 4 (t.lsStatus i)))) ∧
      t.synth i = { s.synth i with
        en := false, st := .off, rideAt := none, lockAt := none, cold := false
        jitRun := 0, pinHalf := decide (q.u8 1 = 1) } ∧
      (∀ j, j ≠ i → t.synth j = s.synth j) ∧ Only [.mbx, .ls] s t) ∧
  (∀ (q : Req) (s : State), ready s 0x0602 q = true → q.tgt ≤ 63 → q.u8 0 = 0 → q.u8 1 ≤ 1 → q.u8 2 = 0 → q.force = false →
    let i := s.portSynth q.tgt
    (s.synth i).en = true → s.synthBusy i = false → s.portLive i = true →
    exec (.synthSetMode q) s = .next ((posted s 0x0602 q).answer q.mbx (codeReply 0x50))) ∧
  (∀ (q : Req) (s : State), ready s 0x0602 q = true → q.tgt ≤ 63 → q.u8 0 = 0 → q.u8 1 ≤ 1 → q.u8 2 = 0 →
    (s.synth (s.portSynth q.tgt)).en = true → s.synthBusy (s.portSynth q.tgt) = true →
    exec (.synthSetMode q) s = .next ((posted s 0x0602 q).answer q.mbx (busyReply 0))) ∧
  (∀ (q : Req) (s : State), ready s 0x0602 q = true → q.tgt ≤ 63 → q.u8 0 ≤ 1 → q.u8 1 ≤ 1 → q.u8 2 = 1 →
    s.optical16 (q.tgt / 16) = false ∨ q.u8 1 = 1 →
    exec (.synthSetMode q) s = .next ((posted s 0x0602 q).answer q.mbx (codeReply 0x50)))

/-- Locks and the port's report (R169, R172, R173, R179). A relock that is done leaves its synthesizer LOCKED with the control word and band
found, and grants the port its clock unless it has been asked for a rate and has not answered; a lock found again within 2 us stops the
timer that its loss has started and LOL_CNT has counted; a port leaves QUIESCED only on CLK_GRANT, its report counts only while its crossing
carries it, and unassigned spares follow the majority of the live ports. Failures and insertions of synthesizers (R179-R181, Table 6-5). Out
of lock for 2 us with a good reference (a warm relock that has taken 12 us, log 57), at an end of the control word's range, or not
cold-locked within 40 us, a synthesizer has failed and its port is DOWN; with AUTO_SPARE_LS a spare of the quadrant is inserted, and without
a spare MLB_FAULT_N is asserted. A spare that is locked at the port's rate takes a port that is not LIVE; the tenth jitter reading in a row
over the limit degrades; a port that does not quiesce ends the insertion with BUSY, but a SUSPENDED one is held. The model's own choices
that it rests on: log 21, 57, 61. -/
def Obligations.SynthesizersLockFailAndAreReplaced : Prop :=
  (∀ (i : Fin 72) (p : Nat) (cw : BitVec 12) (band : BitVec 8) (s : State), (s.synth i).st = .locking → (s.synth i).port = some p →
    p < 64 → s.opt.ins = [] →
    let asked := (s.port p).rate ≠ .none ∧ (s.port p).ack = false ∧ (s.port p).reqAt.isSome = true
    ∃ t, exec (.synthRelockDone i cw band) s = .next t ∧
      t.synth i = { s.synth i with
        st := .locked, lockAt := none, cold := false, cw := cw, band := band
        bands := Map.put none (s.synth i).bands (8 * b2n (s.synth i).half + lowPoint ((s.siteMean 16).getD 0)) (some band) } ∧
      (¬ asked → t.port p = { s.port p with
        qreq := false, rate := .none, ack := false, grant := true, grantAt := some s.now, reqAt := none, quietAt := none }) ∧
      (asked → t.port p = s.port p) ∧ (∀ o, o ≠ p → t.port o = s.port o) ∧ Only [.ls] s t) ∧
  (∀ (i : Fin 72) (s : State), (s.synth i).st = .locked → (s.synth i).lockAt = none → s.refGood (synthQuad i) = true →
    exec (.lossOfLock i) s = .next (s.modSynth i fun y => { y with lol := sat16 y.lol 1, lockAt := some s.now })) ∧
  (∀ (i : Fin 72) (cw : BitVec 12) (band : BitVec 8) (s : State), (s.synth i).st = .locked → (s.synth i).lockAt.isSome = true →
    exec (.synthRelockDone i cw band) s = .next (s.modSynth i fun y => { y with
      lockAt := none, cw := cw, band := band
      bands := Map.put none y.bands (8 * b2n y.half + lowPoint ((s.siteMean 16).getD 0)) (some band) })) ∧
  (∀ (p : Fin 64) (st : PortState) (s : State), s.opt.ins = [] → s.portHeard p = true →
    ¬ ((s.port p).st = .quiesced ∧ st ≠ .quiesced ∧ (s.portSees p).2.2 = false) →
    st ≠ .down ∨ (s.port p).rate = .none ∨ (s.port p).ack = true →
    ∃ t, exec (.portStateChange p st) s = .next t ∧
      t.port p = { s.port p with
        st := st, grant := (s.port p).grant && decide (st ≠ .live), grantAt := if st = .live then none else (s.port p).grantAt
        qreq := (s.port p).qreq && decide (st ≠ .down), quietAt := if st = .down then none else (s.port p).quietAt } ∧
      (∀ i, (s.synth i).port ≠ none → t.synth i = s.synth i) ∧
      (∀ i, i = 64 + 2 * (p.val / 16) ∨ i = 65 + 2 * (p.val / 16) → (s.synth i).port = none → (s.synth i).st = .locked →
        (s.synth i).half ≠ t.majorityHalf (p.val / 16) → s.optical16 (p.val / 16) = true →
        (t.synth i).st = .locking ∧ (t.synth i).half = t.majorityHalf (p.val / 16)) ∧
      (∀ o, o ≠ p.val → t.port o = s.port o) ∧ Only [.ls] s t) ∧
  (∀ (p : Fin 64) (st : PortState) (s : State),
    s.portHeard p = false ∨ (s.port p).st = .quiesced ∧ st ≠ .quiesced ∧ (s.portSees p).2.2 = false →
    exec (.portStateChange p st) s = .next s) ∧
  (∀ (i : Fin 72) (why : SynthFault) (a p : Nat) (s : State), (s.synth i).port = some p → p < 64 →
    (∀ x ∈ s.opt.ins, x.kind = 3 → x.target ≠ p) →
    (why = .outOfLock ∧ (s.synth i).st = .locked ∧ (s.synth i).lockAt = some a ∧ a + 2000 ≤ s.now ∧ s.refGood (synthQuad i) = true) ∨
    (why = .outOfLock ∧ (s.synth i).st = .locking ∧ (s.synth i).cold = false ∧ (s.synth i).lockAt = some a ∧ a + 12000 ≤ s.now ∧
      s.refGood (synthQuad i) = true) ∨
    (why = .rangeEnd ∧ (s.synth i).st = .locked) ∨
    (why = .coldLock ∧ (s.synth i).st = .locking ∧ (s.synth i).cold = true ∧ (s.synth i).lockAt = some a ∧ a + 40000 ≤ s.now) →
    ∃ t, exec (.synthFail i why) s = .next t ∧ (t.synth i).st = .failed ∧ (t.synth i).port = some p ∧
      t.port p = { s.port p with st := .down, qreq := false, rate := .none, ack := false, reqAt := none, quietAt := none } ∧
      (s.spareUsable (2 * (p / 16)) = false → s.spareUsable (2 * (p / 16) + 1) = false → FaultCause.synthSpare p ∈ t.sys.mlb) ∧
      (s.spareUsable (2 * (p / 16)) = true ∨ s.spareUsable (2 * (p / 16) + 1) = true → s.autoSpareLs = true → ∃ y ∈ t.opt.ins, y.kind = 3 ∧ y.target = p) ∧
      (∀ j, j ≠ i.val → (s.synth j).port ≠ none → t.synth j = s.synth j) ∧ (∀ o, o ≠ p → t.port o = s.port o) ∧
      (∀ j, j = 64 + 2 * (p / 16) ∨ j = 65 + 2 * (p / 16) → s.opt.ins = [] → s.autoSpareLs = false → synthQuad i = p / 16 → (s.synth j).port = none →
        (s.synth j).st = .locked → (s.synth j).half ≠ t.majorityHalf (p / 16) → s.optical16 (p / 16) = true → (t.synth j).half = t.majorityHalf (p / 16)) ∧
      Only [.sys, .mbx, .opt, .ls, .ev] s t) ∧
  (∀ (i : Fin 72) (fs : BitVec 16) (s : State), (s.synth i).st = .locked → (s.synth i).backup = false →
    jitterLimit (s.synth i).half < fs.toNat → (s.synth i).jitRun < 9 →
    exec (.synthJitterMeasure i fs) s = .next (s.modSynth i fun y => { y with jitter := fs, jitRun := (s.synth i).jitRun + 1 })) ∧
  (∀ (i : Fin 72) (fs : BitVec 16) (s : State), (s.synth i).st = .locked → (s.synth i).backup = false →
    jitterLimit (s.synth i).half < fs.toNat → 9 ≤ (s.synth i).jitRun → (s.synth i).degraded = false →
    ∃ t, exec (.synthJitterMeasure i fs) s = .next t ∧
      t.synth i = { s.synth i with jitter := fs, jitRun := 10, degraded := true } ∧
      t.ev = (s.raise evLsDegraded (s.lsArg i)).ev ∧ (∀ j, j ≠ i.val → t.synth j = s.synth j) ∧ Only [.mbx, .opt, .ls, .ev] s t) ∧
  (∀ (i : Fin 72) (fs : BitVec 16) (s : State), (s.synth i).st = .locked ∨ (s.synth i).st = .ride →
    fs.toNat ≤ jitterLimit (s.synth i).half →
    exec (.synthJitterMeasure i fs) s = .next (s.modSynth i fun y => { y with jitter := fs, jitRun := 0 })) ∧
  (∀ (p : Fin 64) (x : Insertion) (j : Nat) (s : State), s.findIns (fun x => decide (x.kind = 3 ∧ x.target = p.val)) = some x →
    s.insRuns x = true → x.spare = none → x.took = none → ([2 * (p.val / 16), 2 * (p.val / 16) + 1].filter s.spareOk).head? = some j →
    (s.synth (64 + j)).half = s.portHalf p → (∀ i, s.serving p = some i → (s.synth i).st ≠ .ride) → (s.port p).st ≠ .live →
    ∃ t, exec (.synthInsert p) s = .next t ∧ t.synth (64 + j) = { s.synth (64 + j) with port := some p.val } ∧
      (t.port p).synth = 64 + j ∧ (t.port p).grant = true ∧ (t.port p).qreq = false ∧ (t.port p).rate = .none ∧
      (∀ i, s.serving p = some i → (t.synth i).port = none ∧
        (t.synth i).st = (if (s.synth i).st = .failed then .failed else .off)) ∧
      t.ls.free.getLsbD j = false ∧ t.ls.inserts = sat16 s.ls.inserts 1 ∧
      (∀ y ∈ t.opt.ins, y.kind = 3 → y.target = p.val → y ∈ s.opt.ins ∧ y ≠ x) ∧
      (∀ o, o ≠ p.val → t.port o = s.port o) ∧ Only [.mbx, .opt, .ls, .ev] s t) ∧
  (∀ (p : Fin 64) (x : Insertion) (a j : Nat) (s : State),
    s.findIns (fun x => decide (x.kind = 3 ∧ x.target = p.val ∧ x.step = 3)) = some x → (s.port p).quietAt = some a →
    (s.port p).qreq = true → a + s.quiesceNs ≤ s.now → x.force = false → x.took = some j → j < 8 →
    (∀ i, s.serving p = some i → (s.synth i).st ≠ .ride) → (s.port p).st = .live → s.insRuns x = true →
    ∃ t, exec (.quiesceTimeout p) s = .next t ∧ t.port p = { s.port p with qreq := false, quietAt := none } ∧
      t.ls.free.getLsbD j = true ∧ x ∉ t.opt.ins ∧
      (∀ h o, x.handle = some h → (s.handle h).op = some o →
        (t.handle h).op = some { o with st := .done, outcome := .failed, final := 0x10, done := s.now }) ∧
      (∀ i, (s.synth i).port ≠ none → t.synth i = s.synth i) ∧ (∀ o, o ≠ p.val → t.port o = s.port o) ∧ Only [.mbx, .opt, .ls] s t) ∧
  (∀ (p : Fin 64) (x : Insertion) (s : State), s.findIns (fun x => decide (x.kind = 3 ∧ x.target = p.val ∧ x.step = 3)) = some x →
    s.insRuns x = false → s.insSuspending x = false → exec (.quiesceTimeout p) s = .next s)

/-- PAIR_SLOT and REALIGN_WIN_EXPIRY (R196, R198-R201). At a slot that is due the deviation takes the difference of the two regions'
stretches, and a new slot period's (R197); within half a slot a lane that has not slipped is ALIGNED and reads its word; below a slot and a
half it slips, reads no word, is SKEWED, and counts; above it the source stalls at its next slot; a SKEWED lane that has had its quiet
windows goes on to realign through slips; each step of a realignment moves the deviation by one slot. A period of the source's region writes
a word in a slot, or an idle one. The notices that pair lanes carry, in the order in which they were sent (R197, R202). A TARGET notice
names the source's target for a coming window; a STOP notice leaves the lane, and the one that goes back, PAUSED with READY low and the
buffered words to read; a RESTART notice leaves both ALIGNED with deviation 0, the frames begun anew and the new target, the buffered words
first to be read (two idle words at least stand behind them: the model's choice, log 65). Notices that have found the set busy follow when
it is free. The model's own choices that it rests on: log 26, 48, 65. -/
def Obligations.LanesSlipRealignAndTakeNotices : Prop :=
  (∀ (r : RegionNo) (k : Fin 4) (p k' : Nat) (s : State), Regular s →
    let l := s.laneAt r k
    l.due = true → l.st = .aligned ∨ l.st = .skewed → s.linkEnd r k = some (p, k') →
    let m := (l.turn (s.rgn r).win).newSlot (s.rgn r).win
    let d : Int := m.delta + (((s.rgn r).sLast : Int) - (s.rgn p).sLast) * m.slot
    ∃ t, exec (.pairSlot r k) s = .next t ∧ (t.laneAt r k).slots = m.slots + 1 ∧ (t.laneAt r k).tSrc = m.tSrc ∧
      (t.laneAt r k).tDst = m.tDst ∧ (t.laneAt r k).due = false ∧
      (d.natAbs ≤ 8 * m.slot → l.slipped = false →
        (t.laneAt r k).st = .aligned ∧ (t.laneAt r k).delta = d ∧ (t.laneAt r k).words = l.words.tail ∧
        (t.laneAt r k).shown = (l.words.head?).join ∧ t.xg.slips = s.xg.slips ∧ Only [.xg] s t) ∧
      (d < -(24 * (m.slot : Int)) → (t.laneAt r k).st = .skewed ∧ (t.laneAt r k).delta = d + 16 * m.slot ∧
        (t.laneAt r k).slips = min 255 (l.slips + 1) ∧ (t.laneAt r k).slipped = true ∧ (t.laneAt r k).words = l.words ∧
        (t.laneAt r k).shown = none ∧ t.xg.slips = s.xg.slips + 1) ∧
      (24 * (m.slot : Int) < d → (t.laneAt r k).st = .skewed ∧ (t.laneAt r k).delta = d ∧ (t.laneAt r k).stall = true ∧
        (t.laneAt r k).slips = l.slips ∧ (t.laneAt r k).words = l.words.tail ∧ t.xg.slips = s.xg.slips ∧ Only [.xg] s t) ∧
      (∀ r' j, 4 * r' + j ≠ 4 * r + k.val → t.laneAt r' j = s.laneAt r' j) ∧ Only [.xg, .ev] s t) ∧
  (∀ (r : RegionNo) (k : Fin 4) (s : State), (s.laneAt r k).due = false → exec (.pairSlot r k) s = .next s) ∧
  (∀ (r : RegionNo) (k : Fin 4) (s : State), Regular s →
    let l := (s.laneAt r k).turn (s.rgn r).win
    l.st = .skewed → fld s.xg.ctrl.eff 7 4 ≤ l.quiet →
    ∃ t, exec (.realignWinExpiry r k) s = .next t ∧ t.laneAt r k = { l with forceRealign := true } ∧
      (∀ r' j, 4 * r' + j ≠ 4 * r + k.val → t.laneAt r' j = s.laneAt r' j) ∧ Only [.xg] s t) ∧
  (∀ l : Lane, l.st = .skewed → 8 * l.slot < l.delta.natAbs →
    (l.delta < 0 → l.realign.delta = l.delta + 16 * l.slot ∧ l.realign.words = l.words ∧ l.realign.shown = none) ∧
    (0 ≤ l.delta → none ∈ l.words → l.realign.delta = l.delta - 16 * l.slot ∧ l.realign.words = (l.words.erase none).tail) ∧
    (l.realign.delta.natAbs ≤ 8 * l.slot → l.realign.st = .aligned ∧ l.realign.slipped = false)) ∧
  (∀ (r : RegionNo) (k p k' : Nat) (x : Option Nat) (s : State), Regular s → s.linkEnd r k = some (p, k') →
    let l := s.laneAt p k'
    let t := s.laneSource r k x
    4 * p + k' ≠ 4 * r + k → l.st.counts = true → passes l.fSrc (s.rgn r).tg (s.laneSlot r k l) = true →
    (l.stall = false → l.words.length < 4 → (t.laneAt p k').words = l.words ++ [x] ∧ (t.laneAt p k').ready = true ∧
      (t.laneAt p k').fSrc = l.fSrc + (s.rgn r).tg) ∧
    (l.stall = true → (t.laneAt p k').words = l.words ∧ (t.laneAt p k').ready = false ∧ (t.laneAt p k').delta = l.delta - 16 * l.slot ∧
      (t.laneAt p k').st = .skewed ∧ (t.laneAt p k').slips = min 255 (l.slips + 1) ∧ t.xg.slips = s.xg.slips + 1)) ∧
  (∀ (r : RegionNo) (k : Fin 4) (a w : Nat) (ns : List Note) (s : State), Regular s → (s.laneAt r k).notes = .target a w :: ns →
    let w8 := (s.laneAt r k).noteWait
    ∃ t, exec (.targetNotice r k) s = .next t ∧ t.laneAt r k = { s.laneAt r k with
        notes := if ns.isEmpty then w8.take 1 else ns, noteWait := if ns.isEmpty then w8.drop 1 else w8, tNext := some (a, w) } ∧
      (∀ r' j, 4 * r' + j ≠ 4 * r + k.val → t.laneAt r' j = s.laneAt r' j) ∧ Only [.xg] s t) ∧
  (∀ (r : RegionNo) (k : Fin 4) (ns : List Note) (s : State), Regular s → (s.laneAt r k).notes = .stop :: ns →
    ∃ t, exec (.stopNotice r k) s = .next t ∧ (t.laneAt r k).notes = (if ns.isEmpty then (s.laneAt r k).noteWait.take 1 else ns) ∧
      ((s.laneAt r k).st.up = true → (t.laneAt r k).st = .paused ∧ (t.laneAt r k).ready = false ∧ (t.laneAt r k).words = (s.laneAt r k).words) ∧
      (∀ p k', s.linkEnd r k = some (p, k') → (s.laneAt p k').st.up = true →
        (t.laneAt p k').st = .paused ∧ (t.laneAt p k').ready = false ∧ (t.laneAt p k').words = (s.laneAt p k').words) ∧ Only [.xg] s t) ∧
  (∀ (r : RegionNo) (k : Fin 4) (a : Nat) (x : Bool) (ns : List Note) (s : State), Regular s → (s.laneAt r k).notes = .restart a x :: ns →
    ∃ t, exec (.restartNotice r k) s = .next t ∧ (t.laneAt r k).notes = (if ns.isEmpty then (s.laneAt r k).noteWait.take 1 else ns) ∧
      (∀ p k', s.linkEnd r k = some (p, k') → 4 * p + k' ≠ 4 * r + k.val →
        ((s.laneAt r k).st.up = true → (s.laneAt r k).leaving = false →
          (s.laneAt r k).words <+: (t.laneAt r k).words ∧ 2 ≤ (t.laneAt r k).words.length ∧ (t.laneAt r k).st = .aligned ∧ (t.laneAt r k).delta = 0 ∧ (t.laneAt r k).tSrc = a ∧
          (t.laneAt r k).fSrc = 0 ∧ (t.laneAt r k).fDst = 0) ∧
        ((s.laneAt p k').st.up = true → (s.laneAt p k').leaving = false → (t.laneAt p k').st = .aligned ∧ (t.laneAt p k').delta = 0 ∧ (t.laneAt p k').tDst = a ∧
          (t.laneAt p k').fSrc = 0 ∧ (t.laneAt p k').fDst = 0)) ∧ Only [.xg] s t)

/-- CROSS_STALL, CROSS_TEAR and JOINT_RESET (R205, R207, R211-R213). A wait of 4,096 ns fences a crossing, and where nothing waits there is
none; sides that hold different epochs tear it, which is told once per tear; Sirocco's joint reset, 1,024 ns after the tear at a released
site, leaves both epochs as the first side's and the crossing WHOLE, a pair lane CALIBRATING, where every side is clocked, fenced where one
is not. The model's own choices that it rests on: log 26, 47, 58, 64. -/
def Obligations.CrossingsStallTearAndJoin : Prop :=
  (∀ (id : Word) (w : Nat) (s : State), Regular s →
    let i := id.toNat
    s.xExists i = true → s.waitFrom i = some w → w + 4096 ≤ s.now → s.xState i = .whole →
    ∃ t, exec (.crossStall id) s = .next t ∧
      (xClass i ≠ 9 → (t.xing i).st = .fenced ∧ (t.xing i).stale = decide (xStruct i = .held) ∧
        (t.xing i).lost = decide (xStruct i = .count) ∧ (t.xing i).e1 = (s.xing i).e1 ∧ (t.xing i).e2 = (s.xing i).e2) ∧
      (xClass i = 4 → (t.rgn (xInst i)).tx = none) ∧
      (xClass i = 9 → (t.laneAt (xInst i) (xLink i)).st = .fenced ∧ (t.laneAt (xInst i) (xLink i)).words = [] ∧
        t.xg.drops = s.xg.drops + word (s.laneAt (xInst i) (xLink i)).words.length) ∧
      t.xg.stalls = sat16 s.xg.stalls 1 ∧ t.xg.lastId = id ∧ t.xg.lastErg = word s.now ∧
      t.ev = (s.raise evCrossStall i).ev ∧ (∀ j, j ≠ i → t.xing j = s.xing j) ∧ Only [.reg, .ls, .xg, .ev] s t) ∧
  (∀ (id : Word) (s : State), s.waitFrom id.toNat = none → exec (.crossStall id) s = .next s) ∧
  (∀ (id : Word) (w : Nat) (s : State), s.waitFrom id.toNat = some w → s.now < w + 4096 → exec (.crossStall id) s = .next s) ∧
  (∀ (id : Word) (s : State), Regular s →
    let i := id.toNat
    s.xExists i = true → xClass i ≠ 9 → (s.xing i).st = .torn → (s.xing i).tornAt = none →
    ∃ t, exec (.crossTear id) s = .next t ∧ t.xing i = { s.xing i with tornAt := some s.now } ∧
      t.xg.torns = sat16 s.xg.torns 1 ∧ t.xg.lastId = id ∧ t.ev = (s.raise evCrossTorn i).ev ∧
      (∀ j, j ≠ i → t.xing j = s.xing j) ∧ Only [.xg, .ev] s t) ∧
  (∀ (id : Word) (s : State), Regular s →
    let i := id.toNat
    s.xExists i = true → xClass i = 9 → (s.laneAt (xInst i) (xLink i)).st = .torn → (s.laneAt (xInst i) (xLink i)).tornAt = none →
    ∃ t, exec (.crossTear id) s = .next t ∧
      t.laneAt (xInst i) (xLink i) = { s.laneAt (xInst i) (xLink i) with tornAt := some s.now } ∧
      t.xg.torns = sat16 s.xg.torns 1 ∧ t.xg.lastId = id ∧ t.ev = (s.raise evCrossTorn i).ev ∧ Only [.xg, .ev] s t) ∧
  (∀ (id : Word) (second : Bool) (s : State), Regular s →
    let i := id.toNat
    xClass i ≠ 9 → (s.xing i).st = .whole → (s.xing i).e1 = (s.xing i).e2 →
    ((s.tear i second).xing i).st = .torn ∧ ((s.tear i second).xing i).e1 ≠ ((s.tear i second).xing i).e2 ∧
      (((s.tear i false).tear i true).xing i).e1 = (((s.tear i false).tear i true).xing i).e2) ∧
  (∀ (id : Word) (a : Nat) (s : State), Regular s → s.sys.follow ≠ 2 →
    let i := id.toNat
    s.fw = true → s.xState i = .torn → s.tornAt i = some a → a + 1024 ≤ s.now →
    ∃ t, exec (.jointReset id) s = .next t ∧
      (xClass i ≠ 9 → s.xClocked i = true → (t.xing i).e1 = (s.xing i).e1 ∧ (t.xing i).e2 = (s.xing i).e1 ∧
        (t.xing i).tornAt = none ∧ (t.xing i).rst1 = false ∧ (t.xing i).rst2 = false ∧ (t.xing i).st = .whole) ∧
      (xClass i = 9 → s.xClocked i = true → (t.laneAt (xInst i) (xLink i)).e2 = (s.laneAt (xInst i) (xLink i)).e1 ∧
        (t.laneAt (xInst i) (xLink i)).st = .calibrating ∧ (t.laneAt (xInst i) (xLink i)).markers = 64) ∧
      (s.xClocked i = true → t.ev = (s.raise evCrossJoint i).ev) ∧
      (xClass i ≠ 9 → s.xClocked i = false → (t.xing i).st = .fenced ∧ (t.xing i).e2 = (s.xing i).e2 ∧ t.ev = s.ev) ∧
      (∀ j, j ≠ i → t.xing j = s.xing j) ∧ Only [.ctl, .reg, .ls, .xg, .ev] s t) ∧
  (∀ (id : Word) (a : Nat) (s : State), s.tornAt id.toNat = some a → s.xRegions id.toNat ≠ [] → s.now < a + 1024 →
    exec (.jointReset id) s = .next s)

/-- FENCE_RELEASE and PAIR_CALIBRATION_DONE (Table 7-5, R203, R209). The crossings of a region that is clocked and whose replica counts are
WHOLE with equal epochs, and the handle that asked for the release ends COMPLETED; for a region that is not clocked it ends FAILED with
REFUSED. A lane within 80 ps is ALIGNED with deviation 0, another is OFF with EV_PB_CAL_FAIL, and a PAIR_RECAL that waits is answered; a
release that waits for lanes of its own to be calibrated stands at step 3. The model's own choices that it rests on: log 26, 59, 64. -/
def Obligations.FencesAreReleased : Prop :=
  (∀ (r : RegionNo) (h since : Nat) (o : LongOp) (s : State), Regular s → s.fw = true → s.regionExists r = true → s.clocked r = true →
    (s.rgn r).rep.found = true → (s.rgn r).rep.stopped = false → s.regionLanes r = [] →
    s.siteFenced (siteOf r) = false → s.xg.rel = [⟨.region r, some h, since, none⟩] → (s.handle h).op = some o →
    ∃ t, exec (.fenceRelease (.region r) []) s = .next t ∧
      (∀ n, n = 4 ∨ n = 5 ∨ n = 7 ∨ n = 8 → (t.xing (xId n r)).st = .whole ∧ (t.xing (xId n r)).e2 = (s.xing (xId n r)).e1) ∧
      t.xg.rel = [] ∧ (t.handle h).op = some { o with step := 5, st := .done, outcome := .completed, final := 0, done := s.now } ∧
      Only [.mbx, .reg, .ls, .xg, .ev] s t) ∧
  (∀ (r : RegionNo) (k : Nat) (h since : Nat) (o : LongOp) (s : State), Regular s → s.fw = true → s.regionExists r = true → s.clocked r = true →
    (s.rgn r).rep.found = true → (s.rgn r).rep.stopped = false → k < 4 → (s.linkEnd r k).isSome = true → s.xClocked (laneId r k) = true →
    (s.laneAt r k).st ≠ .off → s.siteFenced (siteOf r) = false → s.xg.rel = [⟨.region r, some h, since, none⟩] → (s.handle h).op = some o →
    ∃ t, exec (.fenceRelease (.region r) []) s = .next t ∧ (t.laneAt r k).st = .calibrating ∧
      (∀ n, n = 4 ∨ n = 5 ∨ n = 7 ∨ n = 8 → (t.xing (xId n r)).st = .fenced) ∧
      t.xg.rel = [⟨.region r, some h, since, some [r]⟩] ∧ (t.handle h).op = some { o with step := 3 }) ∧
  (∀ (r : RegionNo) (h since : Nat) (o : LongOp) (dl : List (RegionNo × Nat × Nat)) (s : State), s.fw = true → s.clocked r = false →
    s.xg.rel = [⟨.region r, some h, since, none⟩] → (s.handle h).op = some o →
    ∃ t, exec (.fenceRelease (.region r) dl) s = .next t ∧ t.xg = { s.xg with rel := [] } ∧
      (t.handle h).op = some { o with st := .done, outcome := .failed, final := 0x50, done := s.now } ∧ Only [.mbx, .xg] s t) ∧
  (∀ (r : RegionNo) (k : Fin 4) (dlane : Nat) (s : State), Regular s → (s.linkEnd r k).isSome = true →
    (s.laneAt r k).st = .calibrating → (s.findWait fun w => decide (w = .pairRecal r k)) = none → s.xState (laneId r k) = .whole →
    (∀ e ∈ s.xg.rel, e.rs = none) → (∀ y ∈ s.opt.ins, y.kind ≠ 4) →
    ∃ t, exec (.pairCalibrationDone r k dlane) s = .next t ∧
      (dlane ≤ 160 → (t.laneAt r k).st = .aligned ∧ (t.laneAt r k).delta = 0 ∧ (t.laneAt r k).dlane = dlane ∧
        (t.laneAt r k).valid = true ∧ (t.laneAt r k).tDst = (s.rgn r).tg ∧ (t.laneAt r k).markers = 0 ∧ Only [.xg] s t) ∧
      (160 < dlane → (t.laneAt r k).st = .off ∧ (t.laneAt r k).valid = false ∧ t.ev = (s.raise evPbCalFail (laneId r k)).ev) ∧
      (∀ r' j, 4 * r' + j ≠ 4 * r + k.val → t.laneAt r' j = s.laneAt r' j) ∧ Only [.xg, .ev] s t) ∧
  (∀ (r : RegionNo) (k : Fin 4) (dlane : Nat) (b : Fin 8) (s : State), (s.linkEnd r k).isSome = true →
    (s.laneAt r k).st = .calibrating → (s.findWait fun w => decide (w = .pairRecal r k)) = some b → s.xState (laneId r k) = .whole →
    (∀ n, n ≠ b → (s.box n).wait ≠ some (.pairRecal r k)) → (∀ e ∈ s.xg.rel, e.rs = none) → (∀ y ∈ s.opt.ins, y.kind ≠ 4) → dlane ≤ 160 →
    ∃ u : State, exec (.pairCalibrationDone r k dlane) s = .next (u.answer b (okReply (toLE 4 (u.pbLink r k)))) ∧ Only [.xg] s u)

/-- CROSS_QUERY, CROSS_RESET, CROSS_RELEASE and PAIR_RECAL (R203, R220, R331). CROSS_QUERY answers an identifier and its MB_XING_SELSTAT, or
those of every crossing of a region with its four MB_PB_LINK words; CROSS_RESET repairs a tear and leaves a fence in place; CROSS_RELEASE is
ACCEPTED with a handle; PAIR_RECAL leaves the lane CALIBRATING, with its 64 markers to come, and waits. The model's own choices that it
rests on: log 26. -/
def Obligations.CrossingCommands : Prop :=
  (∀ (q : Req) (s : State), ready s 0x0701 q = true → q.u8 0 = 0 → q.tgt = 0 → s.xExists (q.le 4 4) = true →
    exec (.crossQuery q) s = .next ((posted s 0x0701 q).answer q.mbx (okReply (toLE 4 (q.le 4 4) ++ toLE 4 (s.selstat (q.le 4 4)))))) ∧
  (∀ (q : Req) (s : State), ready s 0x0701 q = true → q.u8 0 = 1 → s.regionExists q.tgt = true →
    let ids := [xId 4 q.tgt, xId 5 q.tgt, xId 7 q.tgt, xId 8 q.tgt] ++
      ((List.range 4).filter fun k => (s.linkEnd q.tgt k).isSome).map (laneId q.tgt)
    exec (.crossQuery q) s = .next ((posted s 0x0701 q).answer q.mbx (okReply (toLE 4 ids.length ++
      (ids.flatMap fun i => toLE 4 i ++ toLE 4 (s.selstat i)) ++ (List.range 4).flatMap fun k => toLE 4 (s.pbLink q.tgt k))))) ∧
  (∀ (q : Req) (s : State), Regular s → ready s 0x0702 q = true →
    let i := q.le 0 4
    s.xExists i = true → xClass i ≠ 9 → s.xClocked i = true →
    ∃ t, exec (.crossReset q) s = .next (t.answer q.mbx (okReply (toLE 4 (t.selstat i)))) ∧ (t.xing i).e2 = (s.xing i).e1 ∧
      (s.xState i = .torn → (t.xing i).st = .whole ∧ t.ev = (s.raise evCrossJoint i).ev) ∧
      (s.xState i = .fenced → (t.xing i).st = (s.xing i).st ∧ t.ev = s.ev) ∧
      (∀ j, j ≠ i → t.xing j = s.xing j) ∧ Only [.ctl, .mbx, .reg, .ls, .xg, .ev] s t) ∧
  (∀ (q : Req) (s : State), ready s 0x0702 q = true → s.xExists (q.le 0 4) = true → s.xClocked (q.le 0 4) = false →
    exec (.crossReset q) s = .next ((posted s 0x0702 q).answer q.mbx { status := 0x30 })) ∧
  (∀ (q : Req) (i : Nat) (s : State), ready s 0x0703 q = true → q.u8 0 = 0 → s.regionExists q.tgt = true →
    s.siteFenced (siteOf q.tgt) = false → s.xg.rel = [] → s.freeHandle (decide (q.mbx = 7)) = some i →
    ∃ t, exec (.crossRelease q) s = .next (t.answer q.mbx { status := 0x01, handle := some (s.handleNo i) }) ∧
      t.xg = { s.xg with rel := [⟨.region q.tgt, some i, s.now, none⟩] } ∧
      (∃ o, t.handle i = { gen := (s.handle i).gen, op := some o } ∧ o.kind = .crossRelease ∧ o.st = .running ∧
        o.starter = some q.mbx ∧ o.target = q.tgt) ∧ (∀ j, j ≠ i → t.handle j = s.handle j) ∧ Only [.mbx, .xg] s t) ∧
  (∀ (q : Req) (s : State), ready s 0x0704 q = true → s.regionExists q.tgt = true → q.u8 0 ≤ 3 → (s.linkEnd q.tgt (q.u8 0)).isSome = true →
    s.xState (laneId q.tgt (q.u8 0)) = .whole →
    exec (.pairRecal q) s = .next (((posted s 0x0704 q).modLane q.tgt (q.u8 0) fun l => { l with st := .calibrating, before := l.st, markers := 64 }).modBox q.mbx
      fun b => { b with wait := some (.pairRecal q.tgt (q.u8 0)) }))

/-- λC1 slots (R104, Table 4-1, Table 4-2). A slot is 256 symbols, from which a replica reads ERG_NEXT and FLAGS as they were sent; with any
one symbol changed it reads none. -/
def Obligations.SlotsReadBack : Prop :=
  ∀ x : Slot1, x.symbols.length = 256 ∧ readSlot x.symbols = some x ∧
    (∀ i, i < 256 → readSlot (x.symbols.set i !(x.symbols.getD i false)) = none)
end

