-- ==== Sys2Proof/Laws/Bytes.lean ====
section
/-! SUPPORT. Byte strings: slices, little-endian numbers, padding and trimming. -/
namespace Sys2Proof.Machine

theorem leVal_toLE (n v : Nat) : leVal (toLE n v) = v % 256 ^ n := by
  induction n generalizing v with
  | zero => simp [toLE, leVal, Nat.mod_one]
  | succ n ih =>
    have h : 256 ^ (n + 1) = 256 * 256 ^ n := by omega
    rw [toLE, leVal, ih, BitVec.toNat_ofNat, h]
    exact (Nat.mod_mul (a := 256) (b := 256 ^ n)).symm

@[simp] theorem toLE_length (n v : Nat) : (toLE n v).length = n := by
  induction n generalizing v with
  | zero => rfl
  | succ n ih => simp [toLE, ih]

@[simp] theorem zeros_length (n : Nat) : (zeros n).length = n := by simp [zeros]

@[simp] theorem slice_length (bs : Bytes) (i n : Nat) : (slice bs i n).length = n := by simp [slice]

@[simp] theorem padTo_length (n : Nat) (bs : Bytes) : (padTo n bs).length = n := slice_length bs 0 n

theorem slice_getD (bs : Bytes) (i n k : Nat) (h : k < n) : (slice bs i n).getD k 0 = bs.getD (i + k) 0 := by
  simp [slice, List.getD_eq_getElem?_getD, h]

theorem slice_getD_out (bs : Bytes) (i n k : Nat) (h : n ≤ k) : (slice bs i n).getD k 0 = 0 := by
  rw [List.getD_eq_default]
  simpa using h

/-- Two byte strings of one length that agree at every byte are equal. -/
theorem bytes_ext {a b : Bytes} (hl : a.length = b.length) (h : ∀ k, k < a.length → a.getD k 0 = b.getD k 0) : a = b := by
  apply List.ext_getElem hl
  intro i h1 h2
  have := h i h1
  simpa [List.getD_eq_getElem?_getD, h1, h2] using this

/-- A slice of a string is the slice of a padded copy that reaches as far. -/
theorem slice_padTo (n : Nat) (bs : Bytes) (i k : Nat) (h : i + k ≤ n) : slice (padTo n bs) i k = slice bs i k := by
  apply bytes_ext (by simp)
  intro j hj
  rw [slice_length] at hj
  rw [slice_getD _ _ _ _ hj, slice_getD _ _ _ _ hj, padTo, slice_getD _ _ _ _ (by omega), Nat.zero_add]

theorem padTo_of_length {n : Nat} {bs : Bytes} (h : bs.length = n) : padTo n bs = bs := by
  apply bytes_ext (by simp [h])
  intro j hj
  rw [padTo_length] at hj
  rw [padTo, slice_getD _ _ _ _ hj, Nat.zero_add]

/-- A byte of a trimmed string is the byte of the string. -/
theorem trim_getD (bs : Bytes) (k : Nat) : (trim bs).getD k 0 = bs.getD k 0 := by
  induction bs using List.reverseRecOn with
  | nil => rfl
  | append_singleton xs x ih =>
    by_cases h : x = 0
    · have ht : trim (xs ++ [x]) = trim xs := by simp [trim, h]
      rw [ht, ih]
      rcases Nat.lt_trichotomy k xs.length with hk | hk | hk
      · simp [List.getD_eq_getElem?_getD, List.getElem?_append_left hk]
      · subst hk; simp [List.getD_eq_getElem?_getD, h]
      · rw [List.getD_eq_default _ _ (by omega), List.getD_eq_default _ _ (by simp; omega)]
    · have hx : (x == 0) = false := by simpa using h
      have ht : trim (xs ++ [x]) = xs ++ [x] := by
        simp only [trim, List.reverse_append, List.reverse_cons, List.reverse_nil, List.nil_append, List.singleton_append,
          List.dropWhile_cons, hx]
        simp
      rw [ht]

theorem slice_trim (bs : Bytes) (i n : Nat) : slice (trim bs) i n = slice bs i n := by
  simp only [slice, trim_getD]

/-- Trimming loses nothing that padding does not put back. -/
theorem padTo_trim (n : Nat) (bs : Bytes) : padTo n (trim bs) = padTo n bs := slice_trim bs 0 n

/-- A slice that lies past a prefix. -/
theorem slice_append_right (a b : Bytes) (i n : Nat) (h : a.length ≤ i) : slice (a ++ b) i n = slice b (i - a.length) n := by
  apply bytes_ext (by simp)
  intro j hj
  rw [slice_length] at hj
  rw [slice_getD _ _ _ _ hj, slice_getD _ _ _ _ hj]
  simp only [List.getD_eq_getElem?_getD]
  rw [List.getElem?_append_right (by omega)]
  congr 2
  omega

/-- A slice that lies within a prefix. -/
theorem slice_append_left (a b : Bytes) (i n : Nat) (h : i + n ≤ a.length) : slice (a ++ b) i n = slice a i n := by
  apply bytes_ext (by simp)
  intro j hj
  rw [slice_length] at hj
  rw [slice_getD _ _ _ _ hj, slice_getD _ _ _ _ hj]
  simp only [List.getD_eq_getElem?_getD]
  rw [List.getElem?_append_left (by omega)]

theorem slice_all (a : Bytes) (n : Nat) (h : a.length = n) : slice a 0 n = a := padTo_of_length h

/-- The first n bytes of a longer string. -/
theorem slice_prefix (a b : Bytes) (n : Nat) (h : a.length = n) : slice (a ++ b) 0 n = a := by
  rw [slice_append_left _ _ _ _ (by omega), slice_all _ _ h]

/-- A byte is the one-byte little-endian number at its place. -/
theorem byteAt_eq_le (bs : Bytes) (i : Nat) : byteAt bs i = le bs i 1 := by
  simp [byteAt, le, slice, leVal]

/-- A number of n bytes read back from the place where it was written. -/
theorem le_of_slice {bs : Bytes} {i n v : Nat} (h : slice bs i n = toLE n v) : le bs i n = v % 256 ^ n := by
  rw [le, h, leVal_toLE]

end Sys2Proof.Machine
end

