-- ==== Sys2Proof/Laws/Store.lean ====
section
/-! SUPPORT. Sparse tables and vectors: what a read gives after a write, and that a write keeps the canonical form. -/
namespace Sys2Proof.Machine

variable {α : Type}

theorem Map.get_insert_self (d : α) (m : Map α) (k : Nat) (v : α) : Map.get d (Map.insert m k v) k = v := by
  induction m with
  | nil => simp [Map.insert, Map.get]
  | cons e m ih =>
    obtain ⟨k', v'⟩ := e
    unfold Map.insert
    by_cases h1 : k < k'
    · simp [h1, Map.get]
    · by_cases h2 : k = k'
      · simp [h1, h2, Map.get]
      · simp [h1, h2, Map.get, ih]

theorem Map.get_insert_ne (d : α) (m : Map α) {k j : Nat} (v : α) (h : j ≠ k) : Map.get d (Map.insert m k v) j = Map.get d m j := by
  induction m with
  | nil => simp [Map.insert, Map.get, h]
  | cons e m ih =>
    obtain ⟨k', v'⟩ := e
    unfold Map.insert
    by_cases h1 : k < k'
    · simp [h1, Map.get, h]
    · by_cases h2 : k = k'
      · subst h2; simp [h1, Map.get, h]
      · simp [h1, h2, Map.get, ih]

theorem Map.get_erase_ne (d : α) (m : Map α) {k j : Nat} (h : j ≠ k) : Map.get d (Map.erase m k) j = Map.get d m j := by
  induction m with
  | nil => rfl
  | cons e m ih =>
    obtain ⟨k', v'⟩ := e
    unfold Map.erase
    by_cases h2 : k = k'
    · subst h2; simp [Map.get, h]
    · simp [h2, Map.get, ih]

/-- Keys that rise from above a bound. -/
theorem Map.rising_cons {k : Nat} {v : α} {m : Map α} : Map.rising ((k, v) :: m) = true ↔ Map.rising m = true ∧ ∀ e ∈ m, k < e.1 := by
  induction m generalizing k v with
  | nil => simp [Map.rising]
  | cons e m ih =>
    obtain ⟨k', v'⟩ := e
    simp only [Map.rising, Bool.and_eq_true, decide_eq_true_eq, List.mem_cons, forall_eq_or_imp]
    constructor
    · rintro ⟨h1, h2⟩
      refine ⟨h2, h1, fun e he => ?_⟩
      exact Nat.lt_trans h1 ((ih.1 h2).2 e he)
    · rintro ⟨h1, h2, _⟩
      exact ⟨h2, h1⟩

theorem Map.get_not_mem (d : α) {m : Map α} {k : Nat} (h : ∀ e ∈ m, e.1 ≠ k) : Map.get d m k = d := by
  induction m with
  | nil => rfl
  | cons e m ih =>
    obtain ⟨k', v'⟩ := e
    have h1 : k ≠ k' := fun h' => h (k', v') (by simp) h'.symm
    simp [Map.get, h1, ih fun e he => h e (by simp [he])]

theorem Map.get_erase_self (d : α) {m : Map α} {k : Nat} (hm : Map.rising m = true) : Map.get d (Map.erase m k) k = d := by
  induction m with
  | nil => rfl
  | cons e m ih =>
    obtain ⟨k', v'⟩ := e
    have hr := Map.rising_cons.1 hm
    unfold Map.erase
    by_cases h2 : k = k'
    · subst h2
      rw [if_pos rfl]
      exact Map.get_not_mem d fun e he => by have := hr.2 e he; omega
    · simp [h2, Map.get, ih hr.1]

/-- A read at another key gives what it gave before a write. -/
@[simp] theorem Map.get_put_ne [DecidableEq α] (d : α) (m : Map α) {k j : Nat} (v : α) (h : j ≠ k) : Map.get d (Map.put d m k v) j = Map.get d m j := by
  unfold Map.put
  split
  · exact Map.get_erase_ne d m h
  · exact Map.get_insert_ne d m v h

/-- A read at the key of a write gives the value written, in a table whose keys rise. -/
theorem Map.get_put_self [DecidableEq α] (d : α) {m : Map α} (k : Nat) (v : α) (hm : Map.rising m = true) : Map.get d (Map.put d m k v) k = v := by
  unfold Map.put
  split
  · rename_i h
    rw [h]
    exact Map.get_erase_self d hm
  · exact Map.get_insert_self d m k v

theorem Map.mem_erase {m : Map α} {k : Nat} {e : Nat × α} (h : e ∈ Map.erase m k) : e ∈ m := by
  induction m with
  | nil => exact h
  | cons x m ih =>
    obtain ⟨k', v'⟩ := x
    unfold Map.erase at h
    split at h
    · exact List.mem_cons_of_mem _ h
    · rcases List.mem_cons.1 h with h | h
      · rw [h]; exact List.mem_cons_self
      · exact List.mem_cons_of_mem _ (ih h)

theorem Map.mem_insert {m : Map α} {k : Nat} {v : α} {e : Nat × α} (h : e ∈ Map.insert m k v) : e = (k, v) ∨ e ∈ m := by
  induction m with
  | nil => simpa [Map.insert] using h
  | cons x m ih =>
    obtain ⟨k', v'⟩ := x
    unfold Map.insert at h
    split at h
    · simpa using h
    · split at h
      · rcases List.mem_cons.1 h with h | h
        · exact .inl h
        · exact .inr (List.mem_cons_of_mem _ h)
      · rcases List.mem_cons.1 h with h | h
        · rw [h]; exact .inr List.mem_cons_self
        · rcases ih h with h | h
          · exact .inl h
          · exact .inr (List.mem_cons_of_mem _ h)

theorem Map.rising_erase {m : Map α} (k : Nat) (h : Map.rising m = true) : Map.rising (Map.erase m k) = true := by
  induction m with
  | nil => rfl
  | cons x m ih =>
    obtain ⟨k', v'⟩ := x
    have hr := Map.rising_cons.1 h
    unfold Map.erase
    split
    · exact hr.1
    · exact Map.rising_cons.2 ⟨ih hr.1, fun e he => hr.2 e (Map.mem_erase he)⟩

theorem Map.rising_insert {m : Map α} (k : Nat) (v : α) (h : Map.rising m = true) : Map.rising (Map.insert m k v) = true := by
  induction m with
  | nil => rfl
  | cons x m ih =>
    obtain ⟨k', v'⟩ := x
    have hr := Map.rising_cons.1 h
    unfold Map.insert
    split
    · rename_i hk
      refine Map.rising_cons.2 ⟨h, fun e he => ?_⟩
      rcases List.mem_cons.1 he with he | he
      · rw [he]; exact hk
      · have := hr.2 e he; omega
    · split
      · rename_i hk
        subst hk
        exact Map.rising_cons.2 ⟨hr.1, hr.2⟩
      · refine Map.rising_cons.2 ⟨ih hr.1, fun e he => ?_⟩
        rcases Map.mem_insert he with he | he
        · rw [he]; simp only; omega
        · exact hr.2 e he

theorem Map.wf_rising [DecidableEq α] {d : α} {m : Map α} (h : Map.wf d m = true) : Map.rising m = true := by
  simp only [Map.wf, Bool.and_eq_true] at h
  exact h.1

/-- A write keeps the canonical form. -/
theorem Map.put_wf [DecidableEq α] {d : α} {m : Map α} (k : Nat) (v : α) (h : Map.wf d m = true) : Map.wf d (Map.put d m k v) = true := by
  simp only [Map.wf, Bool.and_eq_true, List.all_eq_true, decide_eq_true_eq] at h ⊢
  unfold Map.put
  split
  · exact ⟨Map.rising_erase k h.1, fun e he => h.2 e (Map.mem_erase he)⟩
  · rename_i hv
    refine ⟨Map.rising_insert k v h.1, fun e he => ?_⟩
    rcases Map.mem_insert he with he | he
    · rw [he]; exact hv
    · exact h.2 e he

/-- Writes that go through a list keep the canonical form. -/
theorem Map.foldl_put_wf [DecidableEq α] {β : Type} {d : α} {m : Map α} {l : List β} {f : Map α → β → Map α}
    (hf : ∀ m b, Map.wf d m = true → Map.wf d (f m b) = true) (h : Map.wf d m = true) : Map.wf d (l.foldl f m) = true := by
  induction l generalizing m with
  | nil => exact h
  | cons b l ih => exact ih (hf m b h)

/-- What an entry of a vector reads as after one has been changed. -/
theorem vget_vmod {n : Nat} (v : Vector α n) (d : α) (i j : Nat) (f : α → α) :
    vget (vmod v i f) d j = if i = j ∧ j < n then f (vget v d j) else vget v d j := by
  unfold vmod
  by_cases h : i < n
  · by_cases hj : i = j
    · subst hj
      simp [h, vget, List.getD_eq_getElem?_getD]
    · simp only [h, dif_pos, hj, false_and, if_false]
      simp [vget, List.getD_eq_getElem?_getD, hj]
  · have hk : ¬(i = j ∧ j < n) := by omega
    simp [h, hk]

/-- Another entry of a vector stays. -/
theorem vget_vmod_ne {n : Nat} (v : Vector α n) (d : α) {i j : Nat} (f : α → α) (h : j ≠ i) : vget (vmod v i f) d j = vget v d j := by
  rw [vget_vmod, if_neg (by omega)]

/-- The changed entry of a vector. -/
theorem vget_vmod_self {n : Nat} (v : Vector α n) (d : α) {i : Nat} (f : α → α) (h : i < n) : vget (vmod v i f) d i = f (vget v d i) := by
  rw [vget_vmod, if_pos ⟨rfl, h⟩]

end Sys2Proof.Machine
end

