-- ==== Sys2Proof/Laws/Queues.lean ====
section
/-! SUPPORT. The ingress queue and the event log keep their sizes (R414, R415), and a table rebuilt entry by entry its form. -/
namespace Sys2Proof.Machine

/-- The queue holds at most 64 entries and the log at most 16,384. -/
structure Ev.Bounded (v : Ev) : Prop where
  queue : v.queue.length ≤ 64
  log : v.log.length ≤ 16384

theorem modLast_length {α : Type} (f : α → α) (l : List α) : (modLast f l).length = l.length := by
  induction l with
  | nil => rfl
  | cons x xs ih => cases xs with
    | nil => rfl
    | cons y ys => simp [modLast, ih]

theorem dropNewestLow_go_length (q : List Event) : (dropNewestLow.go q).length ≤ q.length := by
  induction q with
  | nil => exact Nat.le_refl 0
  | cons e es ih =>
    unfold dropNewestLow.go
    split
    · simp
    · simpa using ih

theorem dropNewestLow_length (q : List Event) : (dropNewestLow q).length ≤ q.length := by
  have := dropNewestLow_go_length q.reverse
  simpa [dropNewestLow] using this

theorem Ev.refill_bounded (n : Nat) {v : Ev} (h : v.Bounded) : (Ev.refill n v).Bounded := by
  induction n generalizing v with
  | zero => exact h
  | succ n ih =>
    unfold Ev.refill
    split
    · exact h
    · dsimp only
      split
      · rename_i hq
        refine ih ⟨?_, h.log⟩
        simp [ingressSize] at hq ⊢
        omega
      · exact h

theorem Ev.enter_bounded (e : Event) {v : Ev} (h : v.Bounded) : (Ev.enter e v).Bounded := by
  have push : ∀ {w : Ev}, w.Bounded → w.queue.length < 64 → Ev.Bounded { w with queue := w.queue ++ [e], newest := 0 } := by
    intro w hw hq
    exact ⟨by simp; omega, hw.log⟩
  unfold Ev.enter
  split
  · split
    · rename_i hq
      exact push h (Nat.lt_trans hq (by decide))
    · exact ⟨h.queue, h.log⟩
  · extract_lets d v1 v2
    have h1 : v1.Bounded := by
      subst v1
      split
      · exact h
      · split
        · exact ⟨Nat.le_trans (dropNewestLow_length _) h.queue, h.log⟩
        · exact h
    have h2 : v2.Bounded := Ev.refill_bounded _ h1
    clear_value v2
    split
    · rename_i hq
      exact push h2 hq
    · exact ⟨h2.queue, h2.log⟩

/-- Raising an event keeps both sizes. -/
theorem Ev.raise_bounded (now id sev : Nat) (arg : Word) {v : Ev} (h : v.Bounded) : (Ev.raise now id sev arg v).Bounded := by
  unfold Ev.raise
  split
  · split
    · split
      · exact ⟨by rw [modLast_length]; exact h.queue, h.log⟩
      · refine ⟨h.queue, ?_⟩
        dsimp only
        have := h.log
        split
        · simp
        · rename_i hl
          rw [hl] at this
          simpa using this
    · exact Ev.enter_bounded _ h
  · exact Ev.enter_bounded _ h

/-- Writing an entry to the log keeps both sizes. -/
theorem Ev.drain_bounded {v : Ev} (h : v.Bounded) : v.drain.Bounded := by
  unfold Ev.drain
  split
  · exact h
  · rename_i e es hq
    have hl := h.queue
    rw [hq] at hl
    refine Ev.refill_bounded _ ⟨?_, ?_⟩
    · simp at hl ⊢; omega
    · simp [logSize]

/-- A table rebuilt entry by entry is in the canonical form. -/
theorem Map.rebuild_wf {α : Type} [DecidableEq α] {d : α} (f : Nat × α → α) (l : Map α) :
    Map.wf d (l.foldl (fun m e => Map.put d m e.1 (f e)) []) = true :=
  Map.foldl_put_wf (fun _ e h => Map.put_wf e.1 (f e) h) rfl

/-- Values changed in place, none to the value that an unlisted key reads as. -/
theorem Map.map_wf {α : Type} [DecidableEq α] {d : α} {m : Map α} (f : α → α) (hf : ∀ x, x ≠ d → f x ≠ d) (h : Map.wf d m = true) :
    Map.wf d (m.map fun e => (e.1, f e.2)) = true := by
  simp only [Map.wf, Bool.and_eq_true, List.all_eq_true, decide_eq_true_eq] at h ⊢
  refine ⟨?_, fun e he => ?_⟩
  · obtain ⟨h, k⟩ := h
    clear k
    induction m with
    | nil => rfl
    | cons e m ih =>
      have hr := Map.rising_cons.1 h
      refine Map.rising_cons.2 ⟨ih hr.1, fun x hx => ?_⟩
      obtain ⟨y, hy, rfl⟩ := List.mem_map.1 hx
      exact hr.2 y hy
  · obtain ⟨y, hy, rfl⟩ := List.mem_map.1 he
    exact hf _ (h.2 y hy)

end Sys2Proof.Machine
end

