-- ==== Sys2Proof/Laws/Keeps.lean ====
section
/-! SUPPORT. How "only these groups change, and the state stays regular" composes: updates, branches, folds, outcomes and results. -/
namespace Sys2Proof.Safety
open Sys2Proof.Machine

theorem Group.same_refl (g : Group) (s : State) : g.same s s := by cases g <;> rfl

theorem Group.same_trans (g : Group) {s t u : State} (h : g.same s t) (k : g.same t u) : g.same s u := by
  cases g <;> exact Eq.trans k h

/-- Only the listed groups change, and the state stays regular. -/
structure Keeps (gs : List Group) (s t : State) : Prop where
  only : Only gs s t
  regular : Regular s → Regular t

theorem Keeps.refl {gs : List Group} (s : State) : Keeps gs s s := ⟨⟨fun g _ => g.same_refl s⟩, id⟩

theorem Keeps.trans {gs : List Group} {s t u : State} (h : Keeps gs s t) (k : Keeps gs t u) : Keeps gs s u :=
  ⟨⟨fun g hg => g.same_trans (h.only.same g hg) (k.only.same g hg)⟩, fun r => k.regular (h.regular r)⟩

theorem Keeps.mono {gs hs : List Group} {s t : State} (h : Keeps gs s t) (k : gs ⊆ hs) : Keeps hs s t :=
  ⟨⟨fun g hg => h.only.same g fun hm => hg (k hm)⟩, h.regular⟩

/-- What regularity reads of a state. -/
abbrev regularPart (s : State) :=
  (s.sys.hold, s.sys.erg, s.sys.epoch, s.ev.queue, s.ev.log, s.hm.queue, s.sns.frames, s.et.wptr, s.reg, s.xg.x, s.xg.lane,
    s.et.anchors, s.et.ring, s.opt.terms)

/-- A state that agrees in all of it. -/
theorem Regular.keep {s t : State} (e : regularPart s = regularPart t) (h : Regular s) : Regular t := by
  simp only [regularPart, Prod.mk.injEq] at e
  obtain ⟨e1, e2, e3, e4, e5, e6, e7, e8, e9, e10, e11, e12, e13, e14⟩ := e
  exact ⟨e1 ▸ h.hold, e2 ▸ h.erg, e2 ▸ e3 ▸ h.still, e4 ▸ h.queue, e5 ▸ h.log, e6 ▸ h.forecasts, e7 ▸ h.frames, e8 ▸ h.wptr,
    e9 ▸ h.regions, e10 ▸ h.crossings, e11 ▸ h.lanes, e12 ▸ h.anchors, e13 ▸ h.ring, e14 ▸ h.terms⟩

/-- A goal about a record update, marked as such. -/
def KeepsLit (gs : List Group) (o t : State) : Prop := Keeps gs o t

theorem Keeps.mark {gs : List Group} {o : State} {p a1 a2 a3 a4 a5 a6 a7 a8 a9 b1 b2 b3 b4 b5 b6 b7 b8} :
    Keeps gs o (State.mk p a1 a2 a3 a4 a5 a6 a7 a8 a9 b1 b2 b3 b4 b5 b6 b7 b8) =
      KeepsLit gs o (State.mk p a1 a2 a3 a4 a5 a6 a7 a8 a9 b1 b2 b3 b4 b5 b6 b7 b8) := rfl

/-- A record update: the groups that differ are in the list. -/
theorem KeepsLit.intro {gs : List Group} {o u : State} {p a1 a2 a3 a4 a5 a6 a7 a8 a9 b1 b2 b3 b4 b5 b6 b7 b8} (_ : u.pending = p)
    (h : Keeps gs o u) (k : ∀ g : Group, g ∉ gs → g.same u (State.mk p a1 a2 a3 a4 a5 a6 a7 a8 a9 b1 b2 b3 b4 b5 b6 b7 b8))
    (r : Regular u → Regular (State.mk p a1 a2 a3 a4 a5 a6 a7 a8 a9 b1 b2 b3 b4 b5 b6 b7 b8)) :
    KeepsLit gs o (State.mk p a1 a2 a3 a4 a5 a6 a7 a8 a9 b1 b2 b3 b4 b5 b6 b7 b8) := h.trans ⟨⟨k⟩, r⟩

theorem Keeps.foldl {gs : List Group} {α : Type} {o : State} {f : State → α → State} (h : ∀ t x, Keeps gs o t → Keeps gs o (f t x))
    {l : List α} {t : State} (k : Keeps gs o t) : Keeps gs o (l.foldl f t) := by
  induction l generalizing t with
  | nil => exact k
  | cons x xs ih => exact ih (h t x k)

theorem Keeps.have_ {gs : List Group} {o t : State} {P : Prop} (h : Keeps gs o t) (k : Keeps gs o t → P) : P := k h

theorem Keeps.out {ts gs : List Group} (h : ts ⊆ gs) {g : Group} (k : g ∈ ts) (n : g ∉ gs) : False := n (h k)

/-- A command answers, and changes only some groups. -/
def KeepsOut (gs : List Group) (o : State) (x : Out) : Prop := ∃ t, x = .next t ∧ Keeps gs o t

theorem KeepsOut.next {gs : List Group} {o t : State} (h : Keeps gs o t) : KeepsOut gs o (.next t) := ⟨t, rfl, h⟩

/-- The state that a mailbox command's own effect leaves. -/
def resState : Result → State
  | .done _ s => s
  | .wait _ s => s

/-- A mailbox command's own effect changes only some groups. -/
def KeepsRes (gs : List Group) (o : State) (x : Result) : Prop := Keeps gs o (resState x)

theorem KeepsRes.done {gs : List Group} {o t : State} {r : Reply} (h : Keeps gs o t) : KeepsRes gs o (.done r t) := h

theorem KeepsRes.wait {gs : List Group} {o t : State} {w : Wait} (h : Keeps gs o t) : KeepsRes gs o (.wait w t) := h

theorem KeepsRes.refuse {gs : List Group} {o t : State} {r : Reply} (h : Keeps gs o t) : KeepsRes gs o (refuse r t) := h

/-- Every state that an option holds. -/
structure KeepsOpt (gs : List Group) (o : State) (x : Option State) : Prop where
  all : ∀ t, x = some t → Keeps gs o t

theorem KeepsOpt.some_ {gs : List Group} {o t : State} (h : Keeps gs o t) : KeepsOpt gs o (some t) := ⟨fun _ e => by
  cases e; exact h⟩

theorem KeepsOpt.none_ {gs : List Group} {o : State} : KeepsOpt gs o none := ⟨fun _ e => by cases e⟩

theorem KeepsOpt.getD {gs : List Group} {o t : State} {x : Option State} (h : KeepsOpt gs o x) (k : Keeps gs o t) : Keeps gs o (x.getD t) := by
  cases x with
  | none => exact k
  | some u => exact h.all u rfl

theorem Keeps.fun1 {α : Sort _} {P : Prop} (_ : α → State) (h : P) : P := h
theorem Keeps.fun2 {α β : Sort _} {P : Prop} (_ : α → β → State) (h : P) : P := h
theorem Keeps.fun3 {α β γ : Sort _} {P : Prop} (_ : α → β → γ → State) (h : P) : P := h

theorem Keeps.foldl2 {gs : List Group} {α β : Type} {o : State} {f : β × State → α → β × State}
    (h : ∀ a x, Keeps gs o a.2 → Keeps gs o (f a x).2) {l : List α} {a : β × State} (k : Keeps gs o a.2) : Keeps gs o (l.foldl f a).2 := by
  induction l generalizing a with
  | nil => exact k
  | cons x xs ih => exact ih (h a x k)

theorem Keeps.foldl1 {gs : List Group} {α β : Type} {o : State} {f : State × β → α → State × β}
    (h : ∀ a x, Keeps gs o a.1 → Keeps gs o (f a x).1) {l : List α} {a : State × β} (k : Keeps gs o a.1) : Keeps gs o (l.foldl f a).1 := by
  induction l generalizing a with
  | nil => exact k
  | cons x xs ih => exact ih (h a x k)

theorem Keeps.pair1 {gs : List Group} {o t : State} {α : Type} {a : α} (h : Keeps gs o t) : Keeps gs o (t, a).1 := h
theorem Keeps.pair2 {gs : List Group} {o t : State} {α : Type} {a : α} (h : Keeps gs o t) : Keeps gs o (a, t).2 := h
theorem Keeps.pairEq1 {gs : List Group} {o t : State} {α : Type} {a : α} {x : State × α} (e : x = (t, a)) (h : Keeps gs o x.1) : Keeps gs o t := by
  rw [e] at h; exact h
theorem Keeps.pairEq2 {gs : List Group} {o t : State} {α : Type} {a : α} {x : α × State} (e : x = (a, t)) (h : Keeps gs o x.2) : Keeps gs o t := by
  rw [e] at h; exact h
theorem Keeps.optEq {gs : List Group} {o t : State} {x : Option State} (e : x = some t) (h : KeepsOpt gs o x) : Keeps gs o t := h.all t e

theorem KeepsRes.have_ {gs : List Group} {o : State} {r : Result} {P : Prop} (h : KeepsRes gs o r) (k : KeepsRes gs o r → P) : P := k h

theorem KeepsOpt.foldl {gs : List Group} {α : Type} {o : State} {f : Option State → α → Option State}
    (h : ∀ x a, KeepsOpt gs o x → KeepsOpt gs o (f x a)) {l : List α} {x : Option State} (k : KeepsOpt gs o x) : KeepsOpt gs o (l.foldl f x) := by
  induction l generalizing x with
  | nil => exact k
  | cons a l ih => exact ih (h x a k)

theorem KeepsOpt.bind {gs : List Group} {o : State} {x : Option State} {f : State → Option State} (h : KeepsOpt gs o x)
    (k : ∀ t, Keeps gs o t → KeepsOpt gs o (f t)) : KeepsOpt gs o (x.bind f) := by
  cases x with
  | none => exact KeepsOpt.none_
  | some t => exact k t (h.all t rfl)

theorem Keeps.ite {gs : List Group} {o a b : State} {c : Prop} [Decidable c] (h : Keeps gs o a) (k : Keeps gs o b) :
    Keeps gs o (if c then a else b) := by
  split
  · exact h
  · exact k

theorem KeepsRes.fun1 {α : Sort _} {P : Prop} (_ : α → Result) (h : P) : P := h

theorem Keeps.pick {gs : List Group} {o t : State} {q : Req} {p : Prop} [Decidable p] {a c : Cmd} {rest : Option Cmd}
    (e : (if p then some a else rest) = some c) (h : KeepsRes gs o (a q t)) (k : rest = some c → KeepsRes gs o (c q t)) :
    KeepsRes gs o (c q t) := by
  split at e
  · cases e; exact h
  · exact k e

end Sys2Proof.Safety
end

