-- ==== Sys2Proof/Laws/KeepsOps.lean ====
section
/-! SUPPORT. What each operation can change, and that it keeps the state regular: operations that every family shares, the ledger and the crossings. -/
namespace Sys2Proof.Safety
open Sys2Proof.Machine

set_option linter.unreachableTactic false
set_option linter.unusedTactic false

theorem Keeps.raise_keeps {gs : List Group} (hg : [.ev] ⊆ gs) {o0 s : State} (h0 : Keeps gs o0 s) (id : Nat) (arg : Nat) : Keeps gs o0 (State.raise id arg s) := by
  unfold State.raise
  repeat' first
    | with_reducible assumption
    | with_reducible exact List.Subset.trans (by decide) hg
    | exact fun h => { h with queue := (Ev.raise_bounded _ _ _ _ ⟨h.queue, h.log⟩).queue, log := (Ev.raise_bounded _ _ _ _ ⟨h.queue, h.log⟩).log }
    | with_reducible exact Regular.keep rfl
    | (intro g hgn; cases g <;> first | exact (Keeps.out hg (by decide) hgn).elim | with_reducible rfl)
    | (extract_lets +onlyGivenNames s1; refine Keeps.have_ (gs := gs) (o := o0) (t := s1) ?_ (fun h => ?_); (on_goal 1 => subst s1); (on_goal 2 => try clear_value s1))
    | (extract_lets +onlyGivenNames n1; first | (have p : Sys := n1; clear p; subst n1) | (have p : Et := n1; clear p; subst n1) | (have p : Hm := n1; clear p; subst n1) | (have p : Opt := n1; clear p; subst n1) | (have p : Xg := n1; clear p; subst n1) | (have p : Sns := n1; clear p; subst n1) | (have p : Ev := n1; clear p; subst n1) | clear_value n1)
    | (with_reducible refine Keeps.foldl (fun t x h => ?_) ?_)
    | (simp -zeta only [Keeps.mark]; with_reducible refine KeepsLit.intro rfl ?_ ?_ ?_)
    | (with_reducible refine Keeps.ite ?_ ?_)
    | split

theorem Keeps.raiseIf_keeps {gs : List Group} (hg : [.ev] ⊆ gs) {o0 s : State} (h0 : Keeps gs o0 s) (c : Bool) (id : Nat) (arg : Nat) : Keeps gs o0 (State.raiseIf c id arg s) := by
  unfold State.raiseIf
  repeat' first
    | with_reducible assumption
    | with_reducible exact List.Subset.trans (by decide) hg
    | with_reducible exact Regular.keep rfl
    | (intro g hgn; cases g <;> first | exact (Keeps.out hg (by decide) hgn).elim | with_reducible rfl)
    | (extract_lets +onlyGivenNames s1; refine Keeps.have_ (gs := gs) (o := o0) (t := s1) ?_ (fun h => ?_); (on_goal 1 => subst s1); (on_goal 2 => try clear_value s1))
    | (extract_lets +onlyGivenNames n1; first | (have p : Sys := n1; clear p; subst n1) | (have p : Et := n1; clear p; subst n1) | (have p : Hm := n1; clear p; subst n1) | (have p : Opt := n1; clear p; subst n1) | (have p : Xg := n1; clear p; subst n1) | (have p : Sns := n1; clear p; subst n1) | (have p : Ev := n1; clear p; subst n1) | clear_value n1)
    | (with_reducible refine Keeps.foldl (fun t x h => ?_) ?_)
    | with_reducible apply Keeps.raise_keeps
    | (simp -zeta only [Keeps.mark]; with_reducible refine KeepsLit.intro rfl ?_ ?_ ?_)
    | (with_reducible refine Keeps.ite ?_ ?_)
    | split

theorem Keeps.modCtrl_keeps {gs : List Group} (hg : [.ctl] ⊆ gs) {o0 s : State} (h0 : Keeps gs o0 s) (one : Bool) (f : Ctrl → Ctrl) : Keeps gs o0 (State.modCtrl s one f) := by
  unfold State.modCtrl
  repeat' first
    | with_reducible assumption
    | with_reducible exact List.Subset.trans (by decide) hg
    | with_reducible exact Regular.keep rfl
    | (intro g hgn; cases g <;> first | exact (Keeps.out hg (by decide) hgn).elim | with_reducible rfl)
    | (extract_lets +onlyGivenNames s1; refine Keeps.have_ (gs := gs) (o := o0) (t := s1) ?_ (fun h => ?_); (on_goal 1 => subst s1); (on_goal 2 => try clear_value s1))
    | (extract_lets +onlyGivenNames n1; first | (have p : Sys := n1; clear p; subst n1) | (have p : Et := n1; clear p; subst n1) | (have p : Hm := n1; clear p; subst n1) | (have p : Opt := n1; clear p; subst n1) | (have p : Xg := n1; clear p; subst n1) | (have p : Sns := n1; clear p; subst n1) | (have p : Ev := n1; clear p; subst n1) | clear_value n1)
    | (with_reducible refine Keeps.foldl (fun t x h => ?_) ?_)
    | (simp -zeta only [Keeps.mark]; with_reducible refine KeepsLit.intro rfl ?_ ?_ ?_)
    | (with_reducible refine Keeps.ite ?_ ?_)
    | split

theorem Keeps.setRgn_keeps {gs : List Group} (hg : [.reg] ⊆ gs) {o0 s : State} (h0 : Keeps gs o0 s) (r : RegionNo) (x : Region) : Keeps gs o0 (State.setRgn s r x) := by
  unfold State.setRgn
  repeat' first
    | with_reducible assumption
    | with_reducible exact List.Subset.trans (by decide) hg
    | exact fun h => { h with regions := Map.put_wf _ _ h.regions }
    | with_reducible exact Regular.keep rfl
    | (intro g hgn; cases g <;> first | exact (Keeps.out hg (by decide) hgn).elim | with_reducible rfl)
    | (extract_lets +onlyGivenNames s1; refine Keeps.have_ (gs := gs) (o := o0) (t := s1) ?_ (fun h => ?_); (on_goal 1 => subst s1); (on_goal 2 => try clear_value s1))
    | (extract_lets +onlyGivenNames n1; first | (have p : Sys := n1; clear p; subst n1) | (have p : Et := n1; clear p; subst n1) | (have p : Hm := n1; clear p; subst n1) | (have p : Opt := n1; clear p; subst n1) | (have p : Xg := n1; clear p; subst n1) | (have p : Sns := n1; clear p; subst n1) | (have p : Ev := n1; clear p; subst n1) | clear_value n1)
    | (with_reducible refine Keeps.foldl (fun t x h => ?_) ?_)
    | (simp -zeta only [Keeps.mark]; with_reducible refine KeepsLit.intro rfl ?_ ?_ ?_)
    | split

theorem Keeps.modRgn_keeps {gs : List Group} (hg : [.reg] ⊆ gs) {o0 s : State} (h0 : Keeps gs o0 s) (r : RegionNo) (f : Region → Region) : Keeps gs o0 (State.modRgn s r f) := by
  unfold State.modRgn
  repeat' first
    | with_reducible assumption
    | with_reducible exact List.Subset.trans (by decide) hg
    | with_reducible exact Regular.keep rfl
    | (intro g hgn; cases g <;> first | exact (Keeps.out hg (by decide) hgn).elim | with_reducible rfl)
    | (extract_lets +onlyGivenNames s1; refine Keeps.have_ (gs := gs) (o := o0) (t := s1) ?_ (fun h => ?_); (on_goal 1 => subst s1); (on_goal 2 => try clear_value s1))
    | (extract_lets +onlyGivenNames n1; first | (have p : Sys := n1; clear p; subst n1) | (have p : Et := n1; clear p; subst n1) | (have p : Hm := n1; clear p; subst n1) | (have p : Opt := n1; clear p; subst n1) | (have p : Xg := n1; clear p; subst n1) | (have p : Sns := n1; clear p; subst n1) | (have p : Ev := n1; clear p; subst n1) | clear_value n1)
    | (with_reducible refine Keeps.foldl (fun t x h => ?_) ?_)
    | with_reducible apply Keeps.setRgn_keeps
    | (simp -zeta only [Keeps.mark]; with_reducible refine KeepsLit.intro rfl ?_ ?_ ?_)
    | split

theorem Keeps.modRgns_keeps {gs : List Group} (hg : [.reg] ⊆ gs) {o0 s : State} (h0 : Keeps gs o0 s) (rs : List RegionNo) (f : RegionNo → Region → Region) : Keeps gs o0 (State.modRgns s rs f) := by
  unfold State.modRgns
  repeat' first
    | with_reducible assumption
    | with_reducible exact List.Subset.trans (by decide) hg
    | with_reducible exact Regular.keep rfl
    | (intro g hgn; cases g <;> first | exact (Keeps.out hg (by decide) hgn).elim | with_reducible rfl)
    | (extract_lets +onlyGivenNames s1; refine Keeps.have_ (gs := gs) (o := o0) (t := s1) ?_ (fun h => ?_); (on_goal 1 => subst s1); (on_goal 2 => try clear_value s1))
    | (extract_lets +onlyGivenNames n1; first | (have p : Sys := n1; clear p; subst n1) | (have p : Et := n1; clear p; subst n1) | (have p : Hm := n1; clear p; subst n1) | (have p : Opt := n1; clear p; subst n1) | (have p : Xg := n1; clear p; subst n1) | (have p : Sns := n1; clear p; subst n1) | (have p : Ev := n1; clear p; subst n1) | clear_value n1)
    | (with_reducible refine Keeps.foldl (fun t x h => ?_) ?_)
    | with_reducible apply Keeps.modRgn_keeps
    | (simp -zeta only [Keeps.mark]; with_reducible refine KeepsLit.intro rfl ?_ ?_ ?_)
    | split

theorem Keeps.modBox_keeps {gs : List Group} (hg : [.mbx] ⊆ gs) {o0 s : State} (h0 : Keeps gs o0 s) (m : Fin 8) (f : Mailbox → Mailbox) : Keeps gs o0 (State.modBox s m f) := by
  unfold State.modBox
  repeat' first
    | with_reducible assumption
    | with_reducible exact List.Subset.trans (by decide) hg
    | with_reducible exact Regular.keep rfl
    | (intro g hgn; cases g <;> first | exact (Keeps.out hg (by decide) hgn).elim | with_reducible rfl)
    | (extract_lets +onlyGivenNames s1; refine Keeps.have_ (gs := gs) (o := o0) (t := s1) ?_ (fun h => ?_); (on_goal 1 => subst s1); (on_goal 2 => try clear_value s1))
    | (extract_lets +onlyGivenNames n1; first | (have p : Sys := n1; clear p; subst n1) | (have p : Et := n1; clear p; subst n1) | (have p : Hm := n1; clear p; subst n1) | (have p : Opt := n1; clear p; subst n1) | (have p : Xg := n1; clear p; subst n1) | (have p : Sns := n1; clear p; subst n1) | (have p : Ev := n1; clear p; subst n1) | clear_value n1)
    | (with_reducible refine Keeps.foldl (fun t x h => ?_) ?_)
    | (simp -zeta only [Keeps.mark]; with_reducible refine KeepsLit.intro rfl ?_ ?_ ?_)
    | split

theorem Keeps.modHandle_keeps {gs : List Group} (hg : [.mbx] ⊆ gs) {o0 s : State} (h0 : Keeps gs o0 s) (i : Nat) (f : Handle → Handle) : Keeps gs o0 (State.modHandle s i f) := by
  unfold State.modHandle
  repeat' first
    | with_reducible assumption
    | with_reducible exact List.Subset.trans (by decide) hg
    | with_reducible exact Regular.keep rfl
    | (intro g hgn; cases g <;> first | exact (Keeps.out hg (by decide) hgn).elim | with_reducible rfl)
    | (extract_lets +onlyGivenNames s1; refine Keeps.have_ (gs := gs) (o := o0) (t := s1) ?_ (fun h => ?_); (on_goal 1 => subst s1); (on_goal 2 => try clear_value s1))
    | (extract_lets +onlyGivenNames n1; first | (have p : Sys := n1; clear p; subst n1) | (have p : Et := n1; clear p; subst n1) | (have p : Hm := n1; clear p; subst n1) | (have p : Opt := n1; clear p; subst n1) | (have p : Xg := n1; clear p; subst n1) | (have p : Sns := n1; clear p; subst n1) | (have p : Ev := n1; clear p; subst n1) | clear_value n1)
    | (with_reducible refine Keeps.foldl (fun t x h => ?_) ?_)
    | (simp -zeta only [Keeps.mark]; with_reducible refine KeepsLit.intro rfl ?_ ?_ ?_)
    | split

theorem Keeps.modOp_keeps {gs : List Group} (hg : [.mbx] ⊆ gs) {o0 s : State} (h0 : Keeps gs o0 s) (i : Nat) (f : LongOp → LongOp) : Keeps gs o0 (State.modOp s i f) := by
  unfold State.modOp
  repeat' first
    | with_reducible assumption
    | with_reducible exact List.Subset.trans (by decide) hg
    | with_reducible exact Regular.keep rfl
    | (intro g hgn; cases g <;> first | exact (Keeps.out hg (by decide) hgn).elim | with_reducible rfl)
    | (extract_lets +onlyGivenNames s1; refine Keeps.have_ (gs := gs) (o := o0) (t := s1) ?_ (fun h => ?_); (on_goal 1 => subst s1); (on_goal 2 => try clear_value s1))
    | (extract_lets +onlyGivenNames n1; first | (have p : Sys := n1; clear p; subst n1) | (have p : Et := n1; clear p; subst n1) | (have p : Hm := n1; clear p; subst n1) | (have p : Opt := n1; clear p; subst n1) | (have p : Xg := n1; clear p; subst n1) | (have p : Sns := n1; clear p; subst n1) | (have p : Ev := n1; clear p; subst n1) | clear_value n1)
    | (with_reducible refine Keeps.foldl (fun t x h => ?_) ?_)
    | with_reducible apply Keeps.modHandle_keeps
    | (simp -zeta only [Keeps.mark]; with_reducible refine KeepsLit.intro rfl ?_ ?_ ?_)
    | split

theorem Keeps.modDie_keeps {gs : List Group} (hg : [.die] ⊆ gs) {o0 s : State} (h0 : Keeps gs o0 s) (i : Nat) (f : Die → Die) : Keeps gs o0 (State.modDie s i f) := by
  unfold State.modDie
  repeat' first
    | with_reducible assumption
    | with_reducible exact List.Subset.trans (by decide) hg
    | with_reducible exact Regular.keep rfl
    | (intro g hgn; cases g <;> first | exact (Keeps.out hg (by decide) hgn).elim | with_reducible rfl)
    | (extract_lets +onlyGivenNames s1; refine Keeps.have_ (gs := gs) (o := o0) (t := s1) ?_ (fun h => ?_); (on_goal 1 => subst s1); (on_goal 2 => try clear_value s1))
    | (extract_lets +onlyGivenNames n1; first | (have p : Sys := n1; clear p; subst n1) | (have p : Et := n1; clear p; subst n1) | (have p : Hm := n1; clear p; subst n1) | (have p : Opt := n1; clear p; subst n1) | (have p : Xg := n1; clear p; subst n1) | (have p : Sns := n1; clear p; subst n1) | (have p : Ev := n1; clear p; subst n1) | clear_value n1)
    | (with_reducible refine Keeps.foldl (fun t x h => ?_) ?_)
    | (simp -zeta only [Keeps.mark]; with_reducible refine KeepsLit.intro rfl ?_ ?_ ?_)
    | split

theorem Keeps.modSite_keeps {gs : List Group} (hg : [.opt] ⊆ gs) {o0 s : State} (h0 : Keeps gs o0 s) (i : Nat) (f : SiteOpt → SiteOpt) : Keeps gs o0 (State.modSite s i f) := by
  unfold State.modSite
  repeat' first
    | with_reducible assumption
    | with_reducible exact List.Subset.trans (by decide) hg
    | with_reducible exact Regular.keep rfl
    | (intro g hgn; cases g <;> first | exact (Keeps.out hg (by decide) hgn).elim | with_reducible rfl)
    | (extract_lets +onlyGivenNames s1; refine Keeps.have_ (gs := gs) (o := o0) (t := s1) ?_ (fun h => ?_); (on_goal 1 => subst s1); (on_goal 2 => try clear_value s1))
    | (extract_lets +onlyGivenNames n1; first | (have p : Sys := n1; clear p; subst n1) | (have p : Et := n1; clear p; subst n1) | (have p : Hm := n1; clear p; subst n1) | (have p : Opt := n1; clear p; subst n1) | (have p : Xg := n1; clear p; subst n1) | (have p : Sns := n1; clear p; subst n1) | (have p : Ev := n1; clear p; subst n1) | clear_value n1)
    | (with_reducible refine Keeps.foldl (fun t x h => ?_) ?_)
    | (simp -zeta only [Keeps.mark]; with_reducible refine KeepsLit.intro rfl ?_ ?_ ?_)
    | split

theorem Keeps.modSynth_keeps {gs : List Group} (hg : [.ls] ⊆ gs) {o0 s : State} (h0 : Keeps gs o0 s) (i : Nat) (f : Synth → Synth) : Keeps gs o0 (State.modSynth s i f) := by
  unfold State.modSynth
  repeat' first
    | with_reducible assumption
    | with_reducible exact List.Subset.trans (by decide) hg
    | with_reducible exact Regular.keep rfl
    | (intro g hgn; cases g <;> first | exact (Keeps.out hg (by decide) hgn).elim | with_reducible rfl)
    | (extract_lets +onlyGivenNames s1; refine Keeps.have_ (gs := gs) (o := o0) (t := s1) ?_ (fun h => ?_); (on_goal 1 => subst s1); (on_goal 2 => try clear_value s1))
    | (extract_lets +onlyGivenNames n1; first | (have p : Sys := n1; clear p; subst n1) | (have p : Et := n1; clear p; subst n1) | (have p : Hm := n1; clear p; subst n1) | (have p : Opt := n1; clear p; subst n1) | (have p : Xg := n1; clear p; subst n1) | (have p : Sns := n1; clear p; subst n1) | (have p : Ev := n1; clear p; subst n1) | clear_value n1)
    | (with_reducible refine Keeps.foldl (fun t x h => ?_) ?_)
    | (simp -zeta only [Keeps.mark]; with_reducible refine KeepsLit.intro rfl ?_ ?_ ?_)
    | split

theorem Keeps.modPort_keeps {gs : List Group} (hg : [.ls] ⊆ gs) {o0 s : State} (h0 : Keeps gs o0 s) (i : Nat) (f : Port → Port) : Keeps gs o0 (State.modPort s i f) := by
  unfold State.modPort
  repeat' first
    | with_reducible assumption
    | with_reducible exact List.Subset.trans (by decide) hg
    | with_reducible exact Regular.keep rfl
    | (intro g hgn; cases g <;> first | exact (Keeps.out hg (by decide) hgn).elim | with_reducible rfl)
    | (extract_lets +onlyGivenNames s1; refine Keeps.have_ (gs := gs) (o := o0) (t := s1) ?_ (fun h => ?_); (on_goal 1 => subst s1); (on_goal 2 => try clear_value s1))
    | (extract_lets +onlyGivenNames n1; first | (have p : Sys := n1; clear p; subst n1) | (have p : Et := n1; clear p; subst n1) | (have p : Hm := n1; clear p; subst n1) | (have p : Opt := n1; clear p; subst n1) | (have p : Xg := n1; clear p; subst n1) | (have p : Sns := n1; clear p; subst n1) | (have p : Ev := n1; clear p; subst n1) | clear_value n1)
    | (with_reducible refine Keeps.foldl (fun t x h => ?_) ?_)
    | (simp -zeta only [Keeps.mark]; with_reducible refine KeepsLit.intro rfl ?_ ?_ ?_)
    | split

theorem Keeps.modAnchor_keeps {gs : List Group} (hg : [.et] ⊆ gs) {o0 s : State} (h0 : Keeps gs o0 s) (i : Nat) (f : Anchor → Anchor) : Keeps gs o0 (State.modAnchor s i f) := by
  unfold State.modAnchor
  repeat' first
    | with_reducible assumption
    | with_reducible exact List.Subset.trans (by decide) hg
    | exact fun h => { h with anchors := Map.put_wf _ _ h.anchors }
    | with_reducible exact Regular.keep rfl
    | (intro g hgn; cases g <;> first | exact (Keeps.out hg (by decide) hgn).elim | with_reducible rfl)
    | (extract_lets +onlyGivenNames s1; refine Keeps.have_ (gs := gs) (o := o0) (t := s1) ?_ (fun h => ?_); (on_goal 1 => subst s1); (on_goal 2 => try clear_value s1))
    | (extract_lets +onlyGivenNames n1; first | (have p : Sys := n1; clear p; subst n1) | (have p : Et := n1; clear p; subst n1) | (have p : Hm := n1; clear p; subst n1) | (have p : Opt := n1; clear p; subst n1) | (have p : Xg := n1; clear p; subst n1) | (have p : Sns := n1; clear p; subst n1) | (have p : Ev := n1; clear p; subst n1) | clear_value n1)
    | (with_reducible refine Keeps.foldl (fun t x h => ?_) ?_)
    | (simp -zeta only [Keeps.mark]; with_reducible refine KeepsLit.intro rfl ?_ ?_ ?_)
    | split

theorem Keeps.draw_keeps {gs : List Group} (hg : [.fresh] ⊆ gs) {o0 s : State} (h0 : Keeps gs o0 s) : Keeps gs o0 (State.draw s).2 := by
  unfold State.draw
  repeat' first
    | with_reducible assumption
    | with_reducible exact List.Subset.trans (by decide) hg
    | with_reducible exact Regular.keep rfl
    | (intro g hgn; cases g <;> first | exact (Keeps.out hg (by decide) hgn).elim | with_reducible rfl)
    | (extract_lets +onlyGivenNames s1; refine Keeps.have_ (gs := gs) (o := o0) (t := s1) ?_ (fun h => ?_); (on_goal 1 => subst s1); (on_goal 2 => try clear_value s1))
    | (extract_lets +onlyGivenNames n1; first | (have p : Sys := n1; clear p; subst n1) | (have p : Et := n1; clear p; subst n1) | (have p : Hm := n1; clear p; subst n1) | (have p : Opt := n1; clear p; subst n1) | (have p : Xg := n1; clear p; subst n1) | (have p : Sns := n1; clear p; subst n1) | (have p : Ev := n1; clear p; subst n1) | clear_value n1)
    | (with_reducible refine Keeps.foldl (fun t x h => ?_) ?_)
    | (with_reducible refine Keeps.foldl2 (fun t x h => ?_) ?_)
    | (with_reducible refine Keeps.foldl1 (fun t x h => ?_) ?_)
    | (dsimp -zeta only)
    | (simp -zeta only [Keeps.mark]; with_reducible refine KeepsLit.intro rfl ?_ ?_ ?_)
    | split

theorem Keeps.drawBool_keeps {gs : List Group} (hg : [.fresh] ⊆ gs) {o0 s : State} (h0 : Keeps gs o0 s) : Keeps gs o0 (State.drawBool s).2 := by
  unfold State.drawBool
  repeat' first
    | with_reducible assumption
    | with_reducible exact List.Subset.trans (by decide) hg
    | with_reducible exact Regular.keep rfl
    | (intro g hgn; cases g <;> first | exact (Keeps.out hg (by decide) hgn).elim | with_reducible rfl)
    | (extract_lets +onlyGivenNames s1; refine Keeps.have_ (gs := gs) (o := o0) (t := s1) ?_ (fun h => ?_); (on_goal 1 => subst s1); (on_goal 2 => try clear_value s1))
    | (extract_lets +onlyGivenNames n1; first | (have p : Sys := n1; clear p; subst n1) | (have p : Et := n1; clear p; subst n1) | (have p : Hm := n1; clear p; subst n1) | (have p : Opt := n1; clear p; subst n1) | (have p : Xg := n1; clear p; subst n1) | (have p : Sns := n1; clear p; subst n1) | (have p : Ev := n1; clear p; subst n1) | clear_value n1)
    | (with_reducible refine Keeps.foldl (fun t x h => ?_) ?_)
    | (with_reducible refine Keeps.foldl2 (fun t x h => ?_) ?_)
    | (with_reducible refine Keeps.foldl1 (fun t x h => ?_) ?_)
    | (dsimp -zeta only)
    | (simp -zeta only [Keeps.mark]; with_reducible refine KeepsLit.intro rfl ?_ ?_ ?_)
    | split

theorem Keeps.irq_keeps {gs : List Group} (hg : [.mbx] ⊆ gs) {o0 s : State} (h0 : Keeps gs o0 s) (n : Nat) : Keeps gs o0 (State.irq s n) := by
  unfold State.irq
  repeat' first
    | with_reducible assumption
    | with_reducible exact List.Subset.trans (by decide) hg
    | with_reducible exact Regular.keep rfl
    | (intro g hgn; cases g <;> first | exact (Keeps.out hg (by decide) hgn).elim | with_reducible rfl)
    | (extract_lets +onlyGivenNames s1; refine Keeps.have_ (gs := gs) (o := o0) (t := s1) ?_ (fun h => ?_); (on_goal 1 => subst s1); (on_goal 2 => try clear_value s1))
    | (extract_lets +onlyGivenNames n1; first | (have p : Sys := n1; clear p; subst n1) | (have p : Et := n1; clear p; subst n1) | (have p : Hm := n1; clear p; subst n1) | (have p : Opt := n1; clear p; subst n1) | (have p : Xg := n1; clear p; subst n1) | (have p : Sns := n1; clear p; subst n1) | (have p : Ev := n1; clear p; subst n1) | clear_value n1)
    | (with_reducible refine Keeps.foldl (fun t x h => ?_) ?_)
    | (simp -zeta only [Keeps.mark]; with_reducible refine KeepsLit.intro rfl ?_ ?_ ?_)
    | split

theorem Keeps.mlbSet_keeps {gs : List Group} (hg : [.sys, .mbx] ⊆ gs) {o0 s : State} (h0 : Keeps gs o0 s) (c : FaultCause) : Keeps gs o0 (State.mlbSet s c) := by
  unfold State.mlbSet
  repeat' first
    | with_reducible assumption
    | with_reducible exact List.Subset.trans (by decide) hg
    | with_reducible exact Regular.keep rfl
    | (intro g hgn; cases g <;> first | exact (Keeps.out hg (by decide) hgn).elim | with_reducible rfl)
    | (extract_lets +onlyGivenNames s1; refine Keeps.have_ (gs := gs) (o := o0) (t := s1) ?_ (fun h => ?_); (on_goal 1 => subst s1); (on_goal 2 => try clear_value s1))
    | (extract_lets +onlyGivenNames n1; first | (have p : Sys := n1; clear p; subst n1) | (have p : Et := n1; clear p; subst n1) | (have p : Hm := n1; clear p; subst n1) | (have p : Opt := n1; clear p; subst n1) | (have p : Xg := n1; clear p; subst n1) | (have p : Sns := n1; clear p; subst n1) | (have p : Ev := n1; clear p; subst n1) | clear_value n1)
    | (with_reducible refine Keeps.foldl (fun t x h => ?_) ?_)
    | with_reducible apply Keeps.irq_keeps
    | (simp -zeta only [Keeps.mark]; with_reducible refine KeepsLit.intro rfl ?_ ?_ ?_)
    | (with_reducible refine Keeps.ite ?_ ?_)
    | split

theorem Keeps.mlbClear_keeps {gs : List Group} (hg : [.sys] ⊆ gs) {o0 s : State} (h0 : Keeps gs o0 s) (c : FaultCause) : Keeps gs o0 (State.mlbClear s c) := by
  unfold State.mlbClear
  repeat' first
    | with_reducible assumption
    | with_reducible exact List.Subset.trans (by decide) hg
    | with_reducible exact Regular.keep rfl
    | (intro g hgn; cases g <;> first | exact (Keeps.out hg (by decide) hgn).elim | with_reducible rfl)
    | (extract_lets +onlyGivenNames s1; refine Keeps.have_ (gs := gs) (o := o0) (t := s1) ?_ (fun h => ?_); (on_goal 1 => subst s1); (on_goal 2 => try clear_value s1))
    | (extract_lets +onlyGivenNames n1; first | (have p : Sys := n1; clear p; subst n1) | (have p : Et := n1; clear p; subst n1) | (have p : Hm := n1; clear p; subst n1) | (have p : Opt := n1; clear p; subst n1) | (have p : Xg := n1; clear p; subst n1) | (have p : Sns := n1; clear p; subst n1) | (have p : Ev := n1; clear p; subst n1) | clear_value n1)
    | (with_reducible refine Keeps.foldl (fun t x h => ?_) ?_)
    | (simp -zeta only [Keeps.mark]; with_reducible refine KeepsLit.intro rfl ?_ ?_ ?_)
    | split

theorem Keeps.refuse_keeps {gs : List Group} (hg : [] ⊆ gs) {o0 s : State} (h0 : Keeps gs o0 s) (r : Reply) : KeepsRes gs o0 (refuse r s) := by
  unfold refuse
  repeat' first
    | with_reducible assumption
    | with_reducible exact List.Subset.trans (by decide) hg
    | with_reducible exact Regular.keep rfl
    | (intro g hgn; cases g <;> first | exact (Keeps.out hg (by decide) hgn).elim | with_reducible rfl)
    | (extract_lets +onlyGivenNames s1; refine KeepsRes.have_ (gs := gs) (o := o0) (r := s1) ?_ (fun h => ?_); (on_goal 1 => subst s1); (on_goal 2 => try clear_value s1))
    | (extract_lets +onlyGivenNames s1; refine Keeps.have_ (gs := gs) (o := o0) (t := s1) ?_ (fun h => ?_); (on_goal 1 => subst s1); (on_goal 2 => try clear_value s1))
    | (extract_lets +onlyGivenNames n1; first | (have p : Sys := n1; clear p; subst n1) | (have p : Et := n1; clear p; subst n1) | (have p : Hm := n1; clear p; subst n1) | (have p : Opt := n1; clear p; subst n1) | (have p : Xg := n1; clear p; subst n1) | (have p : Sns := n1; clear p; subst n1) | (have p : Ev := n1; clear p; subst n1) | clear_value n1)
    | (with_reducible refine Keeps.foldl (fun t x h => ?_) ?_)
    | (with_reducible refine KeepsRes.done ?_)
    | (with_reducible refine KeepsRes.wait ?_)
    | (with_reducible refine KeepsRes.refuse ?_)
    | (simp -zeta only [Keeps.mark]; with_reducible refine KeepsLit.intro rfl ?_ ?_ ?_)
    | split

theorem Keeps.deliver_keeps {gs : List Group} (hg : [.mbx] ⊆ gs) {o0 s : State} (h0 : Keeps gs o0 s) (m : Fin 8) (resp : Bytes) (replayed : Bool) : Keeps gs o0 (State.deliver s m resp replayed) := by
  unfold State.deliver
  repeat' first
    | with_reducible assumption
    | with_reducible exact List.Subset.trans (by decide) hg
    | with_reducible exact Regular.keep rfl
    | (intro g hgn; cases g <;> first | exact (Keeps.out hg (by decide) hgn).elim | with_reducible rfl)
    | (extract_lets +onlyGivenNames s1; refine Keeps.have_ (gs := gs) (o := o0) (t := s1) ?_ (fun h => ?_); (on_goal 1 => subst s1); (on_goal 2 => try clear_value s1))
    | (extract_lets +onlyGivenNames n1; first | (have p : Sys := n1; clear p; subst n1) | (have p : Et := n1; clear p; subst n1) | (have p : Hm := n1; clear p; subst n1) | (have p : Opt := n1; clear p; subst n1) | (have p : Xg := n1; clear p; subst n1) | (have p : Sns := n1; clear p; subst n1) | (have p : Ev := n1; clear p; subst n1) | clear_value n1)
    | (with_reducible refine Keeps.foldl (fun t x h => ?_) ?_)
    | with_reducible apply Keeps.irq_keeps
    | with_reducible apply Keeps.modBox_keeps
    | (simp -zeta only [Keeps.mark]; with_reducible refine KeepsLit.intro rfl ?_ ?_ ?_)
    | split

theorem Keeps.answerHw_keeps {gs : List Group} (hg : [.mbx] ⊆ gs) {o0 s : State} (h0 : Keeps gs o0 s) (m : Fin 8) (r : Reply) : Keeps gs o0 (State.answerHw s m r) := by
  unfold State.answerHw
  repeat' first
    | with_reducible assumption
    | with_reducible exact List.Subset.trans (by decide) hg
    | with_reducible exact Regular.keep rfl
    | (intro g hgn; cases g <;> first | exact (Keeps.out hg (by decide) hgn).elim | with_reducible rfl)
    | (extract_lets +onlyGivenNames s1; refine Keeps.have_ (gs := gs) (o := o0) (t := s1) ?_ (fun h => ?_); (on_goal 1 => subst s1); (on_goal 2 => try clear_value s1))
    | (extract_lets +onlyGivenNames n1; first | (have p : Sys := n1; clear p; subst n1) | (have p : Et := n1; clear p; subst n1) | (have p : Hm := n1; clear p; subst n1) | (have p : Opt := n1; clear p; subst n1) | (have p : Xg := n1; clear p; subst n1) | (have p : Sns := n1; clear p; subst n1) | (have p : Ev := n1; clear p; subst n1) | clear_value n1)
    | (with_reducible refine Keeps.foldl (fun t x h => ?_) ?_)
    | with_reducible apply Keeps.deliver_keeps
    | (simp -zeta only [Keeps.mark]; with_reducible refine KeepsLit.intro rfl ?_ ?_ ?_)
    | split

theorem Keeps.answer_keeps {gs : List Group} (hg : [.mbx] ⊆ gs) {o0 s : State} (h0 : Keeps gs o0 s) (m : Fin 8) (r : Reply) : Keeps gs o0 (State.answer s m r) := by
  unfold State.answer
  repeat' first
    | with_reducible assumption
    | with_reducible exact List.Subset.trans (by decide) hg
    | with_reducible exact Regular.keep rfl
    | (intro g hgn; cases g <;> first | exact (Keeps.out hg (by decide) hgn).elim | with_reducible rfl)
    | (extract_lets +onlyGivenNames s1; refine Keeps.have_ (gs := gs) (o := o0) (t := s1) ?_ (fun h => ?_); (on_goal 1 => subst s1); (on_goal 2 => try clear_value s1))
    | (extract_lets +onlyGivenNames n1; first | (have p : Sys := n1; clear p; subst n1) | (have p : Et := n1; clear p; subst n1) | (have p : Hm := n1; clear p; subst n1) | (have p : Opt := n1; clear p; subst n1) | (have p : Xg := n1; clear p; subst n1) | (have p : Sns := n1; clear p; subst n1) | (have p : Ev := n1; clear p; subst n1) | clear_value n1)
    | (with_reducible refine Keeps.foldl (fun t x h => ?_) ?_)
    | with_reducible apply Keeps.deliver_keeps
    | with_reducible apply Keeps.modBox_keeps
    | (simp -zeta only [Keeps.mark]; with_reducible refine KeepsLit.intro rfl ?_ ?_ ?_)
    | (with_reducible refine Keeps.ite ?_ ?_)
    | split

theorem Keeps.answerBusy_keeps {gs : List Group} (hg : [.mbx] ⊆ gs) {o0 s : State} (h0 : Keeps gs o0 s) (m : Fin 8) : Keeps gs o0 (State.answerBusy s m) := by
  unfold State.answerBusy
  repeat' first
    | with_reducible assumption
    | with_reducible exact List.Subset.trans (by decide) hg
    | with_reducible exact Regular.keep rfl
    | (intro g hgn; cases g <;> first | exact (Keeps.out hg (by decide) hgn).elim | with_reducible rfl)
    | (extract_lets +onlyGivenNames s1; refine Keeps.have_ (gs := gs) (o := o0) (t := s1) ?_ (fun h => ?_); (on_goal 1 => subst s1); (on_goal 2 => try clear_value s1))
    | (extract_lets +onlyGivenNames n1; first | (have p : Sys := n1; clear p; subst n1) | (have p : Et := n1; clear p; subst n1) | (have p : Hm := n1; clear p; subst n1) | (have p : Opt := n1; clear p; subst n1) | (have p : Xg := n1; clear p; subst n1) | (have p : Sns := n1; clear p; subst n1) | (have p : Ev := n1; clear p; subst n1) | clear_value n1)
    | (with_reducible refine Keeps.foldl (fun t x h => ?_) ?_)
    | with_reducible apply Keeps.answerHw_keeps
    | (simp -zeta only [Keeps.mark]; with_reducible refine KeepsLit.intro rfl ?_ ?_ ?_)
    | split

theorem Keeps.modLane_keeps {gs : List Group} (hg : [.xg] ⊆ gs) {o0 s : State} (h0 : Keeps gs o0 s) (r : RegionNo) (k : Nat) (f : Lane → Lane) : Keeps gs o0 (State.modLane s r k f) := by
  unfold State.modLane
  repeat' first
    | with_reducible assumption
    | with_reducible exact List.Subset.trans (by decide) hg
    | exact fun h => { h with lanes := Map.put_wf _ _ h.lanes }
    | with_reducible exact Regular.keep rfl
    | (intro g hgn; cases g <;> first | exact (Keeps.out hg (by decide) hgn).elim | with_reducible rfl)
    | (extract_lets +onlyGivenNames s1; refine Keeps.have_ (gs := gs) (o := o0) (t := s1) ?_ (fun h => ?_); (on_goal 1 => subst s1); (on_goal 2 => try clear_value s1))
    | (extract_lets +onlyGivenNames n1; first | (have p : Sys := n1; clear p; subst n1) | (have p : Et := n1; clear p; subst n1) | (have p : Hm := n1; clear p; subst n1) | (have p : Opt := n1; clear p; subst n1) | (have p : Xg := n1; clear p; subst n1) | (have p : Sns := n1; clear p; subst n1) | (have p : Ev := n1; clear p; subst n1) | clear_value n1)
    | (with_reducible refine Keeps.foldl (fun t x h => ?_) ?_)
    | (simp -zeta only [Keeps.mark]; with_reducible refine KeepsLit.intro rfl ?_ ?_ ?_)
    | split

theorem Keeps.undoWait_keeps {gs : List Group} (hg : [.reg, .et, .xg, .cfg] ⊆ gs) {o0 s : State} (h0 : Keeps gs o0 s) (w : Wait) : Keeps gs o0 (State.undoWait s w) := by
  unfold State.undoWait
  repeat' first
    | with_reducible assumption
    | with_reducible exact List.Subset.trans (by decide) hg
    | with_reducible exact Regular.keep rfl
    | (intro g hgn; cases g <;> first | exact (Keeps.out hg (by decide) hgn).elim | with_reducible rfl)
    | (extract_lets +onlyGivenNames s1; refine Keeps.have_ (gs := gs) (o := o0) (t := s1) ?_ (fun h => ?_); (on_goal 1 => subst s1); (on_goal 2 => try clear_value s1))
    | (extract_lets +onlyGivenNames n1; first | (have p : Sys := n1; clear p; subst n1) | (have p : Et := n1; clear p; subst n1) | (have p : Hm := n1; clear p; subst n1) | (have p : Opt := n1; clear p; subst n1) | (have p : Xg := n1; clear p; subst n1) | (have p : Sns := n1; clear p; subst n1) | (have p : Ev := n1; clear p; subst n1) | clear_value n1)
    | (with_reducible refine Keeps.foldl (fun t x h => ?_) ?_)
    | with_reducible apply Keeps.modAnchor_keeps
    | with_reducible apply Keeps.modLane_keeps
    | with_reducible apply Keeps.modRgn_keeps
    | (simp -zeta only [Keeps.mark]; with_reducible refine KeepsLit.intro rfl ?_ ?_ ?_)
    | (with_reducible refine Keeps.ite ?_ ?_)
    | split

theorem Keeps.settle_keeps {gs : List Group} (hg : [.mbx, .reg, .et, .xg, .cfg] ⊆ gs) {o0 s : State} (h0 : Keeps gs o0 s) : Keeps gs o0 (State.settle s) := by
  unfold State.settle
  repeat' first
    | with_reducible assumption
    | with_reducible exact List.Subset.trans (by decide) hg
    | with_reducible exact Regular.keep rfl
    | (intro g hgn; cases g <;> first | exact (Keeps.out hg (by decide) hgn).elim | with_reducible rfl)
    | (extract_lets +onlyGivenNames s1; refine Keeps.have_ (gs := gs) (o := o0) (t := s1) ?_ (fun h => ?_); (on_goal 1 => subst s1); (on_goal 2 => try clear_value s1))
    | (extract_lets +onlyGivenNames n1; first | (have p : Sys := n1; clear p; subst n1) | (have p : Et := n1; clear p; subst n1) | (have p : Hm := n1; clear p; subst n1) | (have p : Opt := n1; clear p; subst n1) | (have p : Xg := n1; clear p; subst n1) | (have p : Sns := n1; clear p; subst n1) | (have p : Ev := n1; clear p; subst n1) | clear_value n1)
    | (with_reducible refine Keeps.foldl (fun t x h => ?_) ?_)
    | with_reducible apply Keeps.answerBusy_keeps
    | with_reducible apply Keeps.undoWait_keeps
    | (simp -zeta only [Keeps.mark]; with_reducible refine KeepsLit.intro rfl ?_ ?_ ?_)
    | (with_reducible refine Keeps.ite ?_ ?_)
    | split

theorem Hm.evalStep_queue (h : Hm) (k : Nat) : (h.evalStep k).queue = h.queue := by
  unfold Hm.evalStep
  split <;> rfl

theorem State.evalNow_queue (s : State) : s.evalNow.hm.queue = s.hm.queue := by
  unfold State.evalNow
  split
  · rfl
  · exact Hm.evalStep_queue _ _

theorem Keeps.evalNow_keeps {gs : List Group} (hg : [.hm] ⊆ gs) {o0 s : State} (h0 : Keeps gs o0 s) : Keeps gs o0 (State.evalNow s) := by
  unfold State.evalNow
  split
  · exact h0
  · refine h0.trans ⟨⟨?_⟩, fun h => { h with forecasts := (by dsimp only; rw [Hm.evalStep_queue]; exact h.forecasts) }⟩
    intro g hgn
    cases g <;> first | exact (Keeps.out hg (by decide) hgn).elim | rfl

theorem Keeps.holdPause_keeps {gs : List Group} (hg : [.reg, .cal] ⊆ gs) {o0 s : State} (h0 : Keeps gs o0 s) : Keeps gs o0 (State.holdPause s) := by
  unfold State.holdPause
  repeat' first
    | with_reducible assumption
    | with_reducible exact List.Subset.trans (by decide) hg
    | exact fun h => { h with regions := Map.rebuild_wf (fun e : Nat × Region => e.2.holdPause s.win) _ }
    | with_reducible exact Regular.keep rfl
    | (intro g hgn; cases g <;> first | exact (Keeps.out hg (by decide) hgn).elim | with_reducible rfl)
    | (extract_lets +onlyGivenNames s1; refine Keeps.have_ (gs := gs) (o := o0) (t := s1) ?_ (fun h => ?_); (on_goal 1 => subst s1); (on_goal 2 => try clear_value s1))
    | (extract_lets +onlyGivenNames n1; first | (have p : Sys := n1; clear p; subst n1) | (have p : Et := n1; clear p; subst n1) | (have p : Hm := n1; clear p; subst n1) | (have p : Opt := n1; clear p; subst n1) | (have p : Xg := n1; clear p; subst n1) | (have p : Sns := n1; clear p; subst n1) | (have p : Ev := n1; clear p; subst n1) | clear_value n1)
    | (with_reducible refine Keeps.foldl (fun t x h => ?_) ?_)
    | (with_reducible refine Keeps.foldl2 (fun t x h => ?_) ?_)
    | (with_reducible refine Keeps.foldl1 (fun t x h => ?_) ?_)
    | (simp -zeta only [Keeps.mark]; with_reducible refine KeepsLit.intro rfl ?_ ?_ ?_)
    | split

theorem Keeps.unfence_keeps {gs : List Group} (hg : [.cfg] ⊆ gs) {o0 s : State} (h0 : Keeps gs o0 s) (e : Fence) : Keeps gs o0 (State.unfence s e) := by
  unfold State.unfence
  repeat' first
    | with_reducible assumption
    | with_reducible exact List.Subset.trans (by decide) hg
    | with_reducible exact Regular.keep rfl
    | (intro g hgn; cases g <;> first | exact (Keeps.out hg (by decide) hgn).elim | with_reducible rfl)
    | (extract_lets +onlyGivenNames s1; refine Keeps.have_ (gs := gs) (o := o0) (t := s1) ?_ (fun h => ?_); (on_goal 1 => subst s1); (on_goal 2 => try clear_value s1))
    | (extract_lets +onlyGivenNames n1; first | (have p : Sys := n1; clear p; subst n1) | (have p : Et := n1; clear p; subst n1) | (have p : Hm := n1; clear p; subst n1) | (have p : Opt := n1; clear p; subst n1) | (have p : Xg := n1; clear p; subst n1) | (have p : Sns := n1; clear p; subst n1) | (have p : Ev := n1; clear p; subst n1) | clear_value n1)
    | (with_reducible refine Keeps.foldl (fun t x h => ?_) ?_)
    | (simp -zeta only [Keeps.mark]; with_reducible refine KeepsLit.intro rfl ?_ ?_ ?_)
    | split

theorem Keeps.holdFences_keeps {gs : List Group} (hg : [.sys, .mbx, .sns, .cfg] ⊆ gs) {o0 s : State} (h0 : Keeps gs o0 s) : Keeps gs o0 (State.holdFences s) := by
  unfold State.holdFences
  repeat' first
    | with_reducible assumption
    | with_reducible exact List.Subset.trans (by decide) hg
    | with_reducible exact Regular.keep rfl
    | (intro g hgn; cases g <;> first | exact (Keeps.out hg (by decide) hgn).elim | with_reducible rfl)
    | (extract_lets +onlyGivenNames s1; refine Keeps.have_ (gs := gs) (o := o0) (t := s1) ?_ (fun h => ?_); (on_goal 1 => subst s1); (on_goal 2 => try clear_value s1))
    | (extract_lets +onlyGivenNames n1; first | (have p : Sys := n1; clear p; subst n1) | (have p : Et := n1; clear p; subst n1) | (have p : Hm := n1; clear p; subst n1) | (have p : Opt := n1; clear p; subst n1) | (have p : Xg := n1; clear p; subst n1) | (have p : Sns := n1; clear p; subst n1) | (have p : Ev := n1; clear p; subst n1) | clear_value n1)
    | (with_reducible refine Keeps.foldl (fun t x h => ?_) ?_)
    | with_reducible apply Keeps.modOp_keeps
    | with_reducible apply Keeps.unfence_keeps
    | (simp -zeta only [Keeps.mark]; with_reducible refine KeepsLit.intro rfl ?_ ?_ ?_)
    | (with_reducible refine Keeps.ite ?_ ?_)
    | split

theorem Keeps.holdRejoin_keeps {gs : List Group} (hg : [.die] ⊆ gs) {o0 s : State} (h0 : Keeps gs o0 s) : Keeps gs o0 (State.holdRejoin s) := by
  unfold State.holdRejoin
  repeat' first
    | with_reducible assumption
    | with_reducible exact List.Subset.trans (by decide) hg
    | with_reducible exact Regular.keep rfl
    | (intro g hgn; cases g <;> first | exact (Keeps.out hg (by decide) hgn).elim | with_reducible rfl)
    | (extract_lets +onlyGivenNames s1; refine Keeps.have_ (gs := gs) (o := o0) (t := s1) ?_ (fun h => ?_); (on_goal 1 => subst s1); (on_goal 2 => try clear_value s1))
    | (extract_lets +onlyGivenNames n1; first | (have p : Sys := n1; clear p; subst n1) | (have p : Et := n1; clear p; subst n1) | (have p : Hm := n1; clear p; subst n1) | (have p : Opt := n1; clear p; subst n1) | (have p : Xg := n1; clear p; subst n1) | (have p : Sns := n1; clear p; subst n1) | (have p : Ev := n1; clear p; subst n1) | clear_value n1)
    | (with_reducible refine Keeps.foldl (fun t x h => ?_) ?_)
    | with_reducible apply Keeps.modDie_keeps
    | (simp -zeta only [Keeps.mark]; with_reducible refine KeepsLit.intro rfl ?_ ?_ ?_)
    | (with_reducible refine Keeps.ite ?_ ?_)
    | split

theorem Keeps.enterHold_keeps {gs : List Group} (hg : [.sys, .mbx, .reg, .hm, .et, .xg, .cal, .sns, .cfg, .die, .ev] ⊆ gs) {o0 s : State} (h0 : Keeps gs o0 s) (cause : Nat) (hc : cause ≤ 5) :
    Keeps gs o0 (State.enterHold s cause) := by
  unfold State.enterHold
  extract_lets fresh y s1 s2 e s3 b a s4
  have h1 : Keeps gs o0 s1 := by
    refine h0.trans ⟨⟨?_⟩, fun h => { h with hold := hc }⟩
    intro g hgn
    cases g <;> first | exact (Keeps.out hg (by decide) hgn).elim | rfl
  have h2 : Keeps gs o0 s2 := Keeps.irq_keeps (List.Subset.trans (by decide) hg) (Keeps.raise_keeps (List.Subset.trans (by decide) hg) h1 _ _) 9
  have hm : ∀ (t : State) (x : Hm), x.queue = t.hm.queue → Keeps gs o0 t → Keeps gs o0 { t with hm := x } := by
    intro t x hx ht
    refine ht.trans ⟨⟨?_⟩, Regular.keep (by simp only [regularPart, hx])⟩
    intro g hgn
    cases g <;> first | exact (Keeps.out hg (by decide) hgn).elim | rfl
  have h3 : Keeps gs o0 s3 := by
    refine Keeps.ite (h2.trans ⟨⟨?_⟩, Regular.keep rfl⟩) h2
    intro g hgn
    cases g <;> first | exact (Keeps.out hg (by decide) hgn).elim | rfl
  have h4 : Keeps gs o0 s4 := by
    clear_value s3
    subst s4 b a
    split
    · have k : Keeps [.sys, .mbx, .reg, .et, .xg, .cal, .sns, .cfg, .die, .ev] s3 s3.holdFences.settle.holdPause.holdRejoin :=
        Keeps.holdRejoin_keeps (by decide) (Keeps.holdPause_keeps (by decide)
          (Keeps.settle_keeps (by decide) (Keeps.holdFences_keeps (by decide) (Keeps.refl s3))))
      refine hm _ _ ?_ (h3.trans (k.mono (List.Subset.trans (by decide) hg)))
      have := k.only.same .hm (by decide)
      simp only [Group.same] at this
      rw [this]
      exact State.evalNow_queue s3
    · exact h3
  clear_value s4
  split
  · exact Keeps.mlbSet_keeps (List.Subset.trans (by decide) hg) h4 _
  · exact Keeps.mlbClear_keeps (List.Subset.trans (by decide) hg) h4 _

theorem Keeps.finishOp_keeps {gs : List Group} (hg : [.mbx] ⊆ gs) {o0 s : State} (h0 : Keeps gs o0 s) (i : Nat) (o : Outcome) (st : Nat) : Keeps gs o0 (State.finishOp s i o st) := by
  unfold State.finishOp
  repeat' first
    | with_reducible assumption
    | with_reducible exact List.Subset.trans (by decide) hg
    | with_reducible exact Regular.keep rfl
    | (intro g hgn; cases g <;> first | exact (Keeps.out hg (by decide) hgn).elim | with_reducible rfl)
    | (extract_lets +onlyGivenNames s1; refine Keeps.have_ (gs := gs) (o := o0) (t := s1) ?_ (fun h => ?_); (on_goal 1 => subst s1); (on_goal 2 => try clear_value s1))
    | (extract_lets +onlyGivenNames n1; first | (have p : Sys := n1; clear p; subst n1) | (have p : Et := n1; clear p; subst n1) | (have p : Hm := n1; clear p; subst n1) | (have p : Opt := n1; clear p; subst n1) | (have p : Xg := n1; clear p; subst n1) | (have p : Sns := n1; clear p; subst n1) | (have p : Ev := n1; clear p; subst n1) | clear_value n1)
    | (with_reducible refine Keeps.foldl (fun t x h => ?_) ?_)
    | with_reducible apply Keeps.irq_keeps
    | with_reducible apply Keeps.modOp_keeps
    | (simp -zeta only [Keeps.mark]; with_reducible refine KeepsLit.intro rfl ?_ ?_ ?_)
    | (with_reducible refine Keeps.ite ?_ ?_)
    | split

theorem Keeps.releaseHandle_keeps {gs : List Group} (hg : [.mbx] ⊆ gs) {o0 s : State} (h0 : Keeps gs o0 s) (i : Nat) : Keeps gs o0 (State.releaseHandle s i) := by
  unfold State.releaseHandle
  repeat' first
    | with_reducible assumption
    | with_reducible exact List.Subset.trans (by decide) hg
    | with_reducible exact Regular.keep rfl
    | (intro g hgn; cases g <;> first | exact (Keeps.out hg (by decide) hgn).elim | with_reducible rfl)
    | (extract_lets +onlyGivenNames s1; refine Keeps.have_ (gs := gs) (o := o0) (t := s1) ?_ (fun h => ?_); (on_goal 1 => subst s1); (on_goal 2 => try clear_value s1))
    | (extract_lets +onlyGivenNames n1; first | (have p : Sys := n1; clear p; subst n1) | (have p : Et := n1; clear p; subst n1) | (have p : Hm := n1; clear p; subst n1) | (have p : Opt := n1; clear p; subst n1) | (have p : Xg := n1; clear p; subst n1) | (have p : Sns := n1; clear p; subst n1) | (have p : Ev := n1; clear p; subst n1) | clear_value n1)
    | (with_reducible refine Keeps.foldl (fun t x h => ?_) ?_)
    | with_reducible apply Keeps.modHandle_keeps
    | (simp -zeta only [Keeps.mark]; with_reducible refine KeepsLit.intro rfl ?_ ?_ ?_)
    | split

theorem Keeps.startOp_keeps {gs : List Group} (hg : [.mbx] ⊆ gs) {o0 s : State} (h0 : Keeps gs o0 s) (q : Req) (op : LongOp)
    (k : Nat → State → State) (hk : ∀ i t, Keeps gs o0 t → Keeps gs o0 (k i t)) : KeepsRes gs o0 (State.startOp s q op k) := by
  unfold State.startOp
  split
  · exact KeepsRes.done (hk _ _ (Keeps.modHandle_keeps hg h0 _ _))
  · exact KeepsRes.done h0

theorem Keeps.serveFresh_keeps {gs : List Group} {o0 s : State} (hg : [.mbx] ⊆ gs) (h0 : Keeps gs o0 s) (cmd : Nat → Option Cmd) (m : Fin 8)
    (hc : ∀ op c, cmd op = some c → ∀ q t, Keeps gs o0 t → KeepsRes gs o0 (c q t)) (buf : Bytes) (q : Req) (op : Nat) :
    Keeps gs o0 (State.serve.serveFresh cmd m s buf q op) := by
  unfold State.serve.serveFresh
  split
  · exact Keeps.answer_keeps hg h0 _ _
  · split
    · exact Keeps.answer_keeps hg h0 _ _
    · rename_i c hcc
      have h := hc _ _ hcc q s h0
      split
      · rename_i e
        rw [e] at h
        exact Keeps.answer_keeps hg h _ _
      · rename_i e
        rw [e] at h
        exact Keeps.modBox_keeps hg h _ _

theorem Keeps.serve_keeps {gs : List Group} (hg : [.mbx] ⊆ gs) {o0 s : State} (h0 : Keeps gs o0 s) (cmd : Nat → Option Cmd)
    (hc : ∀ op c, cmd op = some c → ∀ q t, Keeps gs o0 t → KeepsRes gs o0 (c q t)) (m : Fin 8) (test : Bool) :
    Keeps gs o0 (State.serve s cmd m test) := by
  unfold State.serve
  dsimp only
  split
  · exact Keeps.modBox_keeps hg h0 _ _
  · have h1 := Keeps.modBox_keeps hg h0 m fun b => { b with st := .working, src := decide (m = 7) && test, wait := none }
    split
    · exact Keeps.answerBusy_keeps hg h1 _
    · split
      · split
        · exact Keeps.deliver_keeps hg h1 _ _ _
        · exact Keeps.serveFresh_keeps hg h1 cmd _ hc _ _ _
      · exact Keeps.serveFresh_keeps hg h1 cmd _ hc _ _ _

theorem Keeps.submit_keeps {gs : List Group} (hg : [.mbx] ⊆ gs) {o0 s : State} (h0 : Keeps gs o0 s) (op : Nat) (c : Cmd)
    (hc : ∀ q t, Keeps gs o0 t → KeepsRes gs o0 (c q t)) (q : Req) : Keeps gs o0 (State.submit s op c q) := by
  unfold State.submit
  split
  · exact h0
  · split
    · exact Keeps.modBox_keeps hg h0 _ _
    · refine Keeps.serve_keeps hg (Keeps.modBox_keeps hg h0 _ _) _ ?_ _ _
      intro o c' h
      split at h
      · cases h; exact hc
      · cases h

theorem Keeps.complete_keeps {gs : List Group} (hg : [.mbx] ⊆ gs) {o0 s : State} (h0 : Keeps gs o0 s) (m : Fin 8) (r : Reply) : Keeps gs o0 (State.complete s m r) := by
  unfold State.complete
  repeat' first
    | with_reducible assumption
    | with_reducible exact List.Subset.trans (by decide) hg
    | with_reducible exact Regular.keep rfl
    | (intro g hgn; cases g <;> first | exact (Keeps.out hg (by decide) hgn).elim | with_reducible rfl)
    | (extract_lets +onlyGivenNames s1; refine Keeps.have_ (gs := gs) (o := o0) (t := s1) ?_ (fun h => ?_); (on_goal 1 => subst s1); (on_goal 2 => try clear_value s1))
    | (extract_lets +onlyGivenNames n1; first | (have p : Sys := n1; clear p; subst n1) | (have p : Et := n1; clear p; subst n1) | (have p : Hm := n1; clear p; subst n1) | (have p : Opt := n1; clear p; subst n1) | (have p : Xg := n1; clear p; subst n1) | (have p : Sns := n1; clear p; subst n1) | (have p : Ev := n1; clear p; subst n1) | clear_value n1)
    | (with_reducible refine Keeps.foldl (fun t x h => ?_) ?_)
    | with_reducible apply Keeps.answer_keeps
    | (simp -zeta only [Keeps.mark]; with_reducible refine KeepsLit.intro rfl ?_ ?_ ?_)
    | (with_reducible refine Keeps.ite ?_ ?_)
    | split

theorem Keeps.answerAll_keeps {gs : List Group} (hg : [.mbx] ⊆ gs) {o0 s : State} (h0 : Keeps gs o0 s) (p : Wait → Bool) (r : Reply) : Keeps gs o0 (State.answerAll s p r) := by
  unfold State.answerAll
  repeat' first
    | with_reducible assumption
    | with_reducible exact List.Subset.trans (by decide) hg
    | with_reducible exact Regular.keep rfl
    | (intro g hgn; cases g <;> first | exact (Keeps.out hg (by decide) hgn).elim | with_reducible rfl)
    | (extract_lets +onlyGivenNames s1; refine Keeps.have_ (gs := gs) (o := o0) (t := s1) ?_ (fun h => ?_); (on_goal 1 => subst s1); (on_goal 2 => try clear_value s1))
    | (extract_lets +onlyGivenNames n1; first | (have p : Sys := n1; clear p; subst n1) | (have p : Et := n1; clear p; subst n1) | (have p : Hm := n1; clear p; subst n1) | (have p : Opt := n1; clear p; subst n1) | (have p : Xg := n1; clear p; subst n1) | (have p : Sns := n1; clear p; subst n1) | (have p : Ev := n1; clear p; subst n1) | clear_value n1)
    | (with_reducible refine Keeps.foldl (fun t x h => ?_) ?_)
    | with_reducible apply Keeps.complete_keeps
    | (simp -zeta only [Keeps.mark]; with_reducible refine KeepsLit.intro rfl ?_ ?_ ?_)
    | (with_reducible refine Keeps.ite ?_ ?_)
    | split

theorem Keeps.modXing_keeps {gs : List Group} (hg : [.xg] ⊆ gs) {o0 s : State} (h0 : Keeps gs o0 s) (id : Nat) (f : Xing → Xing) : Keeps gs o0 (State.modXing s id f) := by
  unfold State.modXing
  repeat' first
    | with_reducible assumption
    | with_reducible exact List.Subset.trans (by decide) hg
    | exact fun h => { h with crossings := Map.put_wf _ _ h.crossings }
    | with_reducible exact Regular.keep rfl
    | (intro g hgn; cases g <;> first | exact (Keeps.out hg (by decide) hgn).elim | with_reducible rfl)
    | (extract_lets +onlyGivenNames s1; refine Keeps.have_ (gs := gs) (o := o0) (t := s1) ?_ (fun h => ?_); (on_goal 1 => subst s1); (on_goal 2 => try clear_value s1))
    | (extract_lets +onlyGivenNames n1; first | (have p : Sys := n1; clear p; subst n1) | (have p : Et := n1; clear p; subst n1) | (have p : Hm := n1; clear p; subst n1) | (have p : Opt := n1; clear p; subst n1) | (have p : Xg := n1; clear p; subst n1) | (have p : Sns := n1; clear p; subst n1) | (have p : Ev := n1; clear p; subst n1) | clear_value n1)
    | (with_reducible refine Keeps.foldl (fun t x h => ?_) ?_)
    | (simp -zeta only [Keeps.mark]; with_reducible refine KeepsLit.intro rfl ?_ ?_ ?_)
    | split

theorem Keeps.pump_keeps {gs : List Group} (hg : [.reg] ⊆ gs) {o0 s : State} (h0 : Keeps gs o0 s) (r : RegionNo) : Keeps gs o0 (State.pump s r) := by
  unfold State.pump
  repeat' first
    | with_reducible assumption
    | with_reducible exact List.Subset.trans (by decide) hg
    | with_reducible exact Regular.keep rfl
    | (intro g hgn; cases g <;> first | exact (Keeps.out hg (by decide) hgn).elim | with_reducible rfl)
    | (extract_lets +onlyGivenNames s1; refine Keeps.have_ (gs := gs) (o := o0) (t := s1) ?_ (fun h => ?_); (on_goal 1 => subst s1); (on_goal 2 => try clear_value s1))
    | (extract_lets +onlyGivenNames n1; first | (have p : Sys := n1; clear p; subst n1) | (have p : Et := n1; clear p; subst n1) | (have p : Hm := n1; clear p; subst n1) | (have p : Opt := n1; clear p; subst n1) | (have p : Xg := n1; clear p; subst n1) | (have p : Sns := n1; clear p; subst n1) | (have p : Ev := n1; clear p; subst n1) | clear_value n1)
    | (with_reducible refine Keeps.foldl (fun t x h => ?_) ?_)
    | with_reducible apply Keeps.modRgn_keeps
    | (simp -zeta only [Keeps.mark]; with_reducible refine KeepsLit.intro rfl ?_ ?_ ?_)
    | (with_reducible refine Keeps.ite ?_ ?_)
    | split

theorem Keeps.sendMsg_keeps {gs : List Group} (hg : [.reg] ⊆ gs) {o0 s : State} (h0 : Keeps gs o0 s) (r : RegionNo) (m : Msg) : Keeps gs o0 (State.sendMsg s r m) := by
  unfold State.sendMsg
  repeat' first
    | with_reducible assumption
    | with_reducible exact List.Subset.trans (by decide) hg
    | with_reducible exact Regular.keep rfl
    | (intro g hgn; cases g <;> first | exact (Keeps.out hg (by decide) hgn).elim | with_reducible rfl)
    | (extract_lets +onlyGivenNames s1; refine Keeps.have_ (gs := gs) (o := o0) (t := s1) ?_ (fun h => ?_); (on_goal 1 => subst s1); (on_goal 2 => try clear_value s1))
    | (extract_lets +onlyGivenNames n1; first | (have p : Sys := n1; clear p; subst n1) | (have p : Et := n1; clear p; subst n1) | (have p : Hm := n1; clear p; subst n1) | (have p : Opt := n1; clear p; subst n1) | (have p : Xg := n1; clear p; subst n1) | (have p : Sns := n1; clear p; subst n1) | (have p : Ev := n1; clear p; subst n1) | clear_value n1)
    | (with_reducible refine Keeps.foldl (fun t x h => ?_) ?_)
    | with_reducible apply Keeps.modRgn_keeps
    | with_reducible apply Keeps.pump_keeps
    | (simp -zeta only [Keeps.mark]; with_reducible refine KeepsLit.intro rfl ?_ ?_ ?_)
    | split

theorem Keeps.carry_keeps {gs : List Group} (hg : [.reg] ⊆ gs) {o0 s : State} (h0 : Keeps gs o0 s) (r : RegionNo) : Keeps gs o0 (State.carry s r) := by
  unfold State.carry
  repeat' first
    | with_reducible assumption
    | with_reducible exact List.Subset.trans (by decide) hg
    | with_reducible exact Regular.keep rfl
    | (intro g hgn; cases g <;> first | exact (Keeps.out hg (by decide) hgn).elim | with_reducible rfl)
    | (extract_lets +onlyGivenNames s1; refine Keeps.have_ (gs := gs) (o := o0) (t := s1) ?_ (fun h => ?_); (on_goal 1 => subst s1); (on_goal 2 => try clear_value s1))
    | (extract_lets +onlyGivenNames n1; first | (have p : Sys := n1; clear p; subst n1) | (have p : Et := n1; clear p; subst n1) | (have p : Hm := n1; clear p; subst n1) | (have p : Opt := n1; clear p; subst n1) | (have p : Xg := n1; clear p; subst n1) | (have p : Sns := n1; clear p; subst n1) | (have p : Ev := n1; clear p; subst n1) | clear_value n1)
    | (with_reducible refine Keeps.foldl (fun t x h => ?_) ?_)
    | with_reducible apply Keeps.modRgn_keeps
    | (simp -zeta only [Keeps.mark]; with_reducible refine KeepsLit.intro rfl ?_ ?_ ?_)
    | (with_reducible refine Keeps.ite ?_ ?_)
    | split

theorem Keeps.xLast_keeps {gs : List Group} (hg : [.xg] ⊆ gs) {o0 s : State} (h0 : Keeps gs o0 s) (id : Nat) : Keeps gs o0 (State.xLast s id) := by
  unfold State.xLast
  repeat' first
    | with_reducible assumption
    | with_reducible exact List.Subset.trans (by decide) hg
    | with_reducible exact Regular.keep rfl
    | (intro g hgn; cases g <;> first | exact (Keeps.out hg (by decide) hgn).elim | with_reducible rfl)
    | (extract_lets +onlyGivenNames s1; refine Keeps.have_ (gs := gs) (o := o0) (t := s1) ?_ (fun h => ?_); (on_goal 1 => subst s1); (on_goal 2 => try clear_value s1))
    | (extract_lets +onlyGivenNames n1; first | (have p : Sys := n1; clear p; subst n1) | (have p : Et := n1; clear p; subst n1) | (have p : Hm := n1; clear p; subst n1) | (have p : Opt := n1; clear p; subst n1) | (have p : Xg := n1; clear p; subst n1) | (have p : Sns := n1; clear p; subst n1) | (have p : Ev := n1; clear p; subst n1) | clear_value n1)
    | (with_reducible refine Keeps.foldl (fun t x h => ?_) ?_)
    | (simp -zeta only [Keeps.mark]; with_reducible refine KeepsLit.intro rfl ?_ ?_ ?_)
    | split

theorem Keeps.xDrop_keeps {gs : List Group} (hg : [.xg] ⊆ gs) {o0 s : State} (h0 : Keeps gs o0 s) (n : Nat) : Keeps gs o0 (State.xDrop s n) := by
  unfold State.xDrop
  repeat' first
    | with_reducible assumption
    | with_reducible exact List.Subset.trans (by decide) hg
    | with_reducible exact Regular.keep rfl
    | (intro g hgn; cases g <;> first | exact (Keeps.out hg (by decide) hgn).elim | with_reducible rfl)
    | (extract_lets +onlyGivenNames s1; refine Keeps.have_ (gs := gs) (o := o0) (t := s1) ?_ (fun h => ?_); (on_goal 1 => subst s1); (on_goal 2 => try clear_value s1))
    | (extract_lets +onlyGivenNames n1; first | (have p : Sys := n1; clear p; subst n1) | (have p : Et := n1; clear p; subst n1) | (have p : Hm := n1; clear p; subst n1) | (have p : Opt := n1; clear p; subst n1) | (have p : Xg := n1; clear p; subst n1) | (have p : Sns := n1; clear p; subst n1) | (have p : Ev := n1; clear p; subst n1) | clear_value n1)
    | (with_reducible refine Keeps.foldl (fun t x h => ?_) ?_)
    | (simp -zeta only [Keeps.mark]; with_reducible refine KeepsLit.intro rfl ?_ ?_ ?_)
    | split

theorem Keeps.holdWords_keeps {gs : List Group} (hg : [.ls, .xg] ⊆ gs) {o0 s : State} (h0 : Keeps gs o0 s) (id : Nat) : Keeps gs o0 (State.holdWords s id) := by
  unfold State.holdWords
  repeat' first
    | with_reducible assumption
    | with_reducible exact List.Subset.trans (by decide) hg
    | with_reducible exact Regular.keep rfl
    | (intro g hgn; cases g <;> first | exact (Keeps.out hg (by decide) hgn).elim | with_reducible rfl)
    | (extract_lets +onlyGivenNames s1; refine Keeps.have_ (gs := gs) (o := o0) (t := s1) ?_ (fun h => ?_); (on_goal 1 => subst s1); (on_goal 2 => try clear_value s1))
    | (extract_lets +onlyGivenNames n1; first | (have p : Sys := n1; clear p; subst n1) | (have p : Et := n1; clear p; subst n1) | (have p : Hm := n1; clear p; subst n1) | (have p : Opt := n1; clear p; subst n1) | (have p : Xg := n1; clear p; subst n1) | (have p : Sns := n1; clear p; subst n1) | (have p : Ev := n1; clear p; subst n1) | clear_value n1)
    | (with_reducible refine Keeps.foldl (fun t x h => ?_) ?_)
    | with_reducible apply Keeps.modPort_keeps
    | (simp -zeta only [Keeps.mark]; with_reducible refine KeepsLit.intro rfl ?_ ?_ ?_)
    | (with_reducible refine Keeps.ite ?_ ?_)
    | split

theorem Keeps.present_keeps {gs : List Group} (hg : [.ls, .xg] ⊆ gs) {o0 s : State} (h0 : Keeps gs o0 s) (id : Nat) : Keeps gs o0 (State.present s id) := by
  unfold State.present
  repeat' first
    | with_reducible assumption
    | with_reducible exact List.Subset.trans (by decide) hg
    | with_reducible exact Regular.keep rfl
    | (intro g hgn; cases g <;> first | exact (Keeps.out hg (by decide) hgn).elim | with_reducible rfl)
    | (extract_lets +onlyGivenNames s1; refine Keeps.have_ (gs := gs) (o := o0) (t := s1) ?_ (fun h => ?_); (on_goal 1 => subst s1); (on_goal 2 => try clear_value s1))
    | (extract_lets +onlyGivenNames n1; first | (have p : Sys := n1; clear p; subst n1) | (have p : Et := n1; clear p; subst n1) | (have p : Hm := n1; clear p; subst n1) | (have p : Opt := n1; clear p; subst n1) | (have p : Xg := n1; clear p; subst n1) | (have p : Sns := n1; clear p; subst n1) | (have p : Ev := n1; clear p; subst n1) | clear_value n1)
    | (with_reducible refine Keeps.foldl (fun t x h => ?_) ?_)
    | with_reducible apply Keeps.holdWords_keeps
    | with_reducible apply Keeps.modPort_keeps
    | with_reducible apply Keeps.modXing_keeps
    | (simp -zeta only [Keeps.mark]; with_reducible refine KeepsLit.intro rfl ?_ ?_ ?_)
    | (with_reducible refine Keeps.ite ?_ ?_)
    | split

theorem Keeps.dropWaiting_keeps {gs : List Group} (hg : [.reg, .xg] ⊆ gs) {o0 s : State} (h0 : Keeps gs o0 s) (id : Nat) : Keeps gs o0 (State.dropWaiting s id) := by
  unfold State.dropWaiting
  repeat' first
    | with_reducible assumption
    | with_reducible exact List.Subset.trans (by decide) hg
    | with_reducible exact Regular.keep rfl
    | (intro g hgn; cases g <;> first | exact (Keeps.out hg (by decide) hgn).elim | with_reducible rfl)
    | (extract_lets +onlyGivenNames s1; refine Keeps.have_ (gs := gs) (o := o0) (t := s1) ?_ (fun h => ?_); (on_goal 1 => subst s1); (on_goal 2 => try clear_value s1))
    | (extract_lets +onlyGivenNames n1; first | (have p : Sys := n1; clear p; subst n1) | (have p : Et := n1; clear p; subst n1) | (have p : Hm := n1; clear p; subst n1) | (have p : Opt := n1; clear p; subst n1) | (have p : Xg := n1; clear p; subst n1) | (have p : Sns := n1; clear p; subst n1) | (have p : Ev := n1; clear p; subst n1) | clear_value n1)
    | (with_reducible refine Keeps.foldl (fun t x h => ?_) ?_)
    | with_reducible apply Keeps.modRgn_keeps
    | with_reducible apply Keeps.modXing_keeps
    | with_reducible apply Keeps.xDrop_keeps
    | (simp -zeta only [Keeps.mark]; with_reducible refine KeepsLit.intro rfl ?_ ?_ ?_)
    | (with_reducible refine Keeps.ite ?_ ?_)
    | split

theorem Keeps.xHalt_keeps {gs : List Group} (hg : [.reg, .ls, .xg] ⊆ gs) {o0 s : State} (h0 : Keeps gs o0 s) (id : Nat) : Keeps gs o0 (State.xHalt s id) := by
  unfold State.xHalt
  repeat' first
    | with_reducible assumption
    | with_reducible exact List.Subset.trans (by decide) hg
    | with_reducible exact Regular.keep rfl
    | (intro g hgn; cases g <;> first | exact (Keeps.out hg (by decide) hgn).elim | with_reducible rfl)
    | (extract_lets +onlyGivenNames s1; refine Keeps.have_ (gs := gs) (o := o0) (t := s1) ?_ (fun h => ?_); (on_goal 1 => subst s1); (on_goal 2 => try clear_value s1))
    | (extract_lets +onlyGivenNames n1; first | (have p : Sys := n1; clear p; subst n1) | (have p : Et := n1; clear p; subst n1) | (have p : Hm := n1; clear p; subst n1) | (have p : Opt := n1; clear p; subst n1) | (have p : Xg := n1; clear p; subst n1) | (have p : Sns := n1; clear p; subst n1) | (have p : Ev := n1; clear p; subst n1) | clear_value n1)
    | (with_reducible refine Keeps.foldl (fun t x h => ?_) ?_)
    | with_reducible apply Keeps.dropWaiting_keeps
    | with_reducible apply Keeps.holdWords_keeps
    | with_reducible apply Keeps.modRgn_keeps
    | with_reducible apply Keeps.modXing_keeps
    | (simp -zeta only [Keeps.mark]; with_reducible refine KeepsLit.intro rfl ?_ ?_ ?_)
    | (with_reducible refine Keeps.ite ?_ ?_)
    | split

theorem Keeps.relane_keeps {gs : List Group} (hg : [.xg] ⊆ gs) {o0 old s : State} (h0 : Keeps gs o0 s) (r : RegionNo) :
    Keeps gs o0 (State.relane old s r) := by
  have lane : ∀ (t : State) (r' : RegionNo) (k : Nat) (f : Lane → Lane), Keeps gs o0 t → Keeps gs o0 (t.modLane r' k f) :=
    fun t r' k f h => Keeps.modLane_keeps (List.Subset.trans (by decide) hg) h _ _ _
  unfold State.relane
  have go : ∀ (u : State) (x : Option (RegionNo × Nat)) (k : Nat) (f : Lane → Lane), Keeps gs o0 u →
      Keeps gs o0 (match x with | some (p, k') => (u.modLane r k f).modLane p k' f | none => u) := by
    intro u x k f h
    split
    · exact lane _ _ _ _ (lane _ _ _ _ h)
    · exact h
  extract_lets named
  clear_value named
  split
  · exact h0
  · refine Keeps.foldl (fun t k h => ?_) h0
    extract_lets was now u
    split
    · exact h
    · exact go u now k _ (go t was k _ h)

theorem Keeps.fence_keeps {gs : List Group} (hg : [.reg, .ls, .xg] ⊆ gs) {o0 s : State} (h0 : Keeps gs o0 s) (id : Nat) : Keeps gs o0 (State.fence s id) := by
  unfold State.fence
  repeat' first
    | with_reducible assumption
    | with_reducible exact List.Subset.trans (by decide) hg
    | with_reducible exact Regular.keep rfl
    | (intro g hgn; cases g <;> first | exact (Keeps.out hg (by decide) hgn).elim | with_reducible rfl)
    | (extract_lets +onlyGivenNames s1; refine Keeps.have_ (gs := gs) (o := o0) (t := s1) ?_ (fun h => ?_); (on_goal 1 => subst s1); (on_goal 2 => try clear_value s1))
    | (extract_lets +onlyGivenNames n1; first | (have p : Sys := n1; clear p; subst n1) | (have p : Et := n1; clear p; subst n1) | (have p : Hm := n1; clear p; subst n1) | (have p : Opt := n1; clear p; subst n1) | (have p : Xg := n1; clear p; subst n1) | (have p : Sns := n1; clear p; subst n1) | (have p : Ev := n1; clear p; subst n1) | clear_value n1)
    | (with_reducible refine Keeps.foldl (fun t x h => ?_) ?_)
    | with_reducible apply Keeps.modLane_keeps
    | with_reducible apply Keeps.modXing_keeps
    | with_reducible apply Keeps.xDrop_keeps
    | with_reducible apply Keeps.xHalt_keeps
    | with_reducible apply Keeps.xLast_keeps
    | (simp -zeta only [Keeps.mark]; with_reducible refine KeepsLit.intro rfl ?_ ?_ ?_)
    | (with_reducible refine Keeps.ite ?_ ?_)
    | split

theorem Keeps.fenceAll_keeps {gs : List Group} (hg : [.reg, .ls, .xg] ⊆ gs) {o0 s : State} (h0 : Keeps gs o0 s) (ids : List Nat) : Keeps gs o0 (State.fenceAll s ids) := by
  unfold State.fenceAll
  repeat' first
    | with_reducible assumption
    | with_reducible exact List.Subset.trans (by decide) hg
    | with_reducible exact Regular.keep rfl
    | (intro g hgn; cases g <;> first | exact (Keeps.out hg (by decide) hgn).elim | with_reducible rfl)
    | (extract_lets +onlyGivenNames s1; refine Keeps.have_ (gs := gs) (o := o0) (t := s1) ?_ (fun h => ?_); (on_goal 1 => subst s1); (on_goal 2 => try clear_value s1))
    | (extract_lets +onlyGivenNames n1; first | (have p : Sys := n1; clear p; subst n1) | (have p : Et := n1; clear p; subst n1) | (have p : Hm := n1; clear p; subst n1) | (have p : Opt := n1; clear p; subst n1) | (have p : Xg := n1; clear p; subst n1) | (have p : Sns := n1; clear p; subst n1) | (have p : Ev := n1; clear p; subst n1) | clear_value n1)
    | (with_reducible refine Keeps.foldl (fun t x h => ?_) ?_)
    | with_reducible apply Keeps.fence_keeps
    | (simp -zeta only [Keeps.mark]; with_reducible refine KeepsLit.intro rfl ?_ ?_ ?_)
    | split

theorem Keeps.toggle_keeps {gs : List Group} (hg : [.xg] ⊆ gs) {o0 s : State} (h0 : Keeps gs o0 s) (id : Nat) (second : Bool) : Keeps gs o0 (State.toggle s id second) := by
  unfold State.toggle
  repeat' first
    | with_reducible assumption
    | with_reducible exact List.Subset.trans (by decide) hg
    | with_reducible exact Regular.keep rfl
    | (intro g hgn; cases g <;> first | exact (Keeps.out hg (by decide) hgn).elim | with_reducible rfl)
    | (extract_lets +onlyGivenNames s1; refine Keeps.have_ (gs := gs) (o := o0) (t := s1) ?_ (fun h => ?_); (on_goal 1 => subst s1); (on_goal 2 => try clear_value s1))
    | (extract_lets +onlyGivenNames n1; first | (have p : Sys := n1; clear p; subst n1) | (have p : Et := n1; clear p; subst n1) | (have p : Hm := n1; clear p; subst n1) | (have p : Opt := n1; clear p; subst n1) | (have p : Xg := n1; clear p; subst n1) | (have p : Sns := n1; clear p; subst n1) | (have p : Ev := n1; clear p; subst n1) | clear_value n1)
    | (with_reducible refine Keeps.foldl (fun t x h => ?_) ?_)
    | with_reducible apply Keeps.modLane_keeps
    | with_reducible apply Keeps.modXing_keeps
    | (simp -zeta only [Keeps.mark]; with_reducible refine KeepsLit.intro rfl ?_ ?_ ?_)
    | (with_reducible refine Keeps.ite ?_ ?_)
    | split

theorem Keeps.tornCheck_keeps {gs : List Group} (hg : [.reg, .ls, .xg] ⊆ gs) {o0 s : State} (h0 : Keeps gs o0 s) (id : Nat) : Keeps gs o0 (State.tornCheck s id) := by
  unfold State.tornCheck
  repeat' first
    | with_reducible assumption
    | with_reducible exact List.Subset.trans (by decide) hg
    | with_reducible exact Regular.keep rfl
    | (intro g hgn; cases g <;> first | exact (Keeps.out hg (by decide) hgn).elim | with_reducible rfl)
    | (extract_lets +onlyGivenNames s1; refine Keeps.have_ (gs := gs) (o := o0) (t := s1) ?_ (fun h => ?_); (on_goal 1 => subst s1); (on_goal 2 => try clear_value s1))
    | (extract_lets +onlyGivenNames n1; first | (have p : Sys := n1; clear p; subst n1) | (have p : Et := n1; clear p; subst n1) | (have p : Hm := n1; clear p; subst n1) | (have p : Opt := n1; clear p; subst n1) | (have p : Xg := n1; clear p; subst n1) | (have p : Sns := n1; clear p; subst n1) | (have p : Ev := n1; clear p; subst n1) | clear_value n1)
    | (with_reducible refine Keeps.foldl (fun t x h => ?_) ?_)
    | with_reducible apply Keeps.modLane_keeps
    | with_reducible apply Keeps.modXing_keeps
    | with_reducible apply Keeps.xDrop_keeps
    | with_reducible apply Keeps.xHalt_keeps
    | (simp -zeta only [Keeps.mark]; with_reducible refine KeepsLit.intro rfl ?_ ?_ ?_)
    | (with_reducible refine Keeps.ite ?_ ?_)
    | split

theorem Keeps.tear_keeps {gs : List Group} (hg : [.reg, .ls, .xg] ⊆ gs) {o0 s : State} (h0 : Keeps gs o0 s) (id : Nat) (second : Bool) : Keeps gs o0 (State.tear s id second) := by
  unfold State.tear
  repeat' first
    | with_reducible assumption
    | with_reducible exact List.Subset.trans (by decide) hg
    | with_reducible exact Regular.keep rfl
    | (intro g hgn; cases g <;> first | exact (Keeps.out hg (by decide) hgn).elim | with_reducible rfl)
    | (extract_lets +onlyGivenNames s1; refine Keeps.have_ (gs := gs) (o := o0) (t := s1) ?_ (fun h => ?_); (on_goal 1 => subst s1); (on_goal 2 => try clear_value s1))
    | (extract_lets +onlyGivenNames n1; first | (have p : Sys := n1; clear p; subst n1) | (have p : Et := n1; clear p; subst n1) | (have p : Hm := n1; clear p; subst n1) | (have p : Opt := n1; clear p; subst n1) | (have p : Xg := n1; clear p; subst n1) | (have p : Sns := n1; clear p; subst n1) | (have p : Ev := n1; clear p; subst n1) | clear_value n1)
    | (with_reducible refine Keeps.foldl (fun t x h => ?_) ?_)
    | with_reducible apply Keeps.toggle_keeps
    | with_reducible apply Keeps.tornCheck_keeps
    | (simp -zeta only [Keeps.mark]; with_reducible refine KeepsLit.intro rfl ?_ ?_ ?_)
    | split

theorem Keeps.resetContents_keeps {gs : List Group} (hg : [.reg, .xg] ⊆ gs) {o0 s : State} (h0 : Keeps gs o0 s) (id : Nat) : Keeps gs o0 (State.resetContents s id) := by
  unfold State.resetContents
  repeat' first
    | with_reducible assumption
    | with_reducible exact List.Subset.trans (by decide) hg
    | with_reducible exact Regular.keep rfl
    | (intro g hgn; cases g <;> first | exact (Keeps.out hg (by decide) hgn).elim | with_reducible rfl)
    | (extract_lets +onlyGivenNames s1; refine Keeps.have_ (gs := gs) (o := o0) (t := s1) ?_ (fun h => ?_); (on_goal 1 => subst s1); (on_goal 2 => try clear_value s1))
    | (extract_lets +onlyGivenNames n1; first | (have p : Sys := n1; clear p; subst n1) | (have p : Et := n1; clear p; subst n1) | (have p : Hm := n1; clear p; subst n1) | (have p : Opt := n1; clear p; subst n1) | (have p : Xg := n1; clear p; subst n1) | (have p : Sns := n1; clear p; subst n1) | (have p : Ev := n1; clear p; subst n1) | clear_value n1)
    | (with_reducible refine Keeps.foldl (fun t x h => ?_) ?_)
    | with_reducible apply Keeps.modLane_keeps
    | with_reducible apply Keeps.modRgn_keeps
    | with_reducible apply Keeps.modXing_keeps
    | with_reducible apply Keeps.xDrop_keeps
    | (simp -zeta only [Keeps.mark]; with_reducible refine KeepsLit.intro rfl ?_ ?_ ?_)
    | (with_reducible refine Keeps.ite ?_ ?_)
    | split

theorem Keeps.whole_keeps {gs : List Group} (hg : [.ctl, .reg, .ls, .xg] ⊆ gs) {o0 s : State} (h0 : Keeps gs o0 s) (id : Nat) : Keeps gs o0 (State.whole s id) := by
  unfold State.whole
  repeat' first
    | with_reducible assumption
    | with_reducible exact List.Subset.trans (by decide) hg
    | with_reducible exact Regular.keep rfl
    | (intro g hgn; cases g <;> first | exact (Keeps.out hg (by decide) hgn).elim | with_reducible rfl)
    | (extract_lets +onlyGivenNames s1; refine Keeps.have_ (gs := gs) (o := o0) (t := s1) ?_ (fun h => ?_); (on_goal 1 => subst s1); (on_goal 2 => try clear_value s1))
    | (extract_lets +onlyGivenNames n1; first | (have p : Sys := n1; clear p; subst n1) | (have p : Et := n1; clear p; subst n1) | (have p : Hm := n1; clear p; subst n1) | (have p : Opt := n1; clear p; subst n1) | (have p : Xg := n1; clear p; subst n1) | (have p : Sns := n1; clear p; subst n1) | (have p : Ev := n1; clear p; subst n1) | clear_value n1)
    | (with_reducible refine Keeps.foldl (fun t x h => ?_) ?_)
    | with_reducible apply Keeps.modCtrl_keeps
    | with_reducible apply Keeps.modLane_keeps
    | with_reducible apply Keeps.modPort_keeps
    | with_reducible apply Keeps.modRgn_keeps
    | with_reducible apply Keeps.modXing_keeps
    | (simp -zeta only [Keeps.mark]; with_reducible refine KeepsLit.intro rfl ?_ ?_ ?_)
    | (with_reducible refine Keeps.ite ?_ ?_)
    | split

theorem Keeps.laneResult_keeps {gs : List Group} (hg : [.xg, .ev] ⊆ gs) {o0 s : State} (h0 : Keeps gs o0 s) (r : RegionNo) (k : Nat) (dlane : Nat) : Keeps gs o0 (State.laneResult s r k dlane) := by
  unfold State.laneResult
  repeat' first
    | with_reducible assumption
    | with_reducible exact List.Subset.trans (by decide) hg
    | with_reducible exact Regular.keep rfl
    | (intro g hgn; cases g <;> first | exact (Keeps.out hg (by decide) hgn).elim | with_reducible rfl)
    | (extract_lets +onlyGivenNames s1; refine Keeps.have_ (gs := gs) (o := o0) (t := s1) ?_ (fun h => ?_); (on_goal 1 => subst s1); (on_goal 2 => try clear_value s1))
    | (extract_lets +onlyGivenNames n1; first | (have p : Sys := n1; clear p; subst n1) | (have p : Et := n1; clear p; subst n1) | (have p : Hm := n1; clear p; subst n1) | (have p : Opt := n1; clear p; subst n1) | (have p : Xg := n1; clear p; subst n1) | (have p : Sns := n1; clear p; subst n1) | (have p : Ev := n1; clear p; subst n1) | clear_value n1)
    | (with_reducible refine Keeps.foldl (fun t x h => ?_) ?_)
    | with_reducible apply Keeps.modLane_keeps
    | with_reducible apply Keeps.raise_keeps
    | (simp -zeta only [Keeps.mark]; with_reducible refine KeepsLit.intro rfl ?_ ?_ ?_)
    | (with_reducible refine Keeps.ite ?_ ?_)
    | split

theorem Keeps.endRelease_keeps {gs : List Group} (hg : [.mbx, .xg] ⊆ gs) {o0 s : State} (h0 : Keeps gs o0 s) (scope : ReleaseScope) (o : Outcome) (st : Nat) : Keeps gs o0 (State.endRelease s scope o st) := by
  unfold State.endRelease
  repeat' first
    | with_reducible assumption
    | with_reducible exact List.Subset.trans (by decide) hg
    | with_reducible exact Regular.keep rfl
    | (intro g hgn; cases g <;> first | exact (Keeps.out hg (by decide) hgn).elim | with_reducible rfl)
    | (extract_lets +onlyGivenNames s1; refine Keeps.have_ (gs := gs) (o := o0) (t := s1) ?_ (fun h => ?_); (on_goal 1 => subst s1); (on_goal 2 => try clear_value s1))
    | (extract_lets +onlyGivenNames n1; first | (have p : Sys := n1; clear p; subst n1) | (have p : Et := n1; clear p; subst n1) | (have p : Hm := n1; clear p; subst n1) | (have p : Opt := n1; clear p; subst n1) | (have p : Xg := n1; clear p; subst n1) | (have p : Sns := n1; clear p; subst n1) | (have p : Ev := n1; clear p; subst n1) | clear_value n1)
    | (with_reducible refine Keeps.foldl (fun t x h => ?_) ?_)
    | with_reducible apply Keeps.finishOp_keeps
    | (simp -zeta only [Keeps.mark]; with_reducible refine KeepsLit.intro rfl ?_ ?_ ?_)
    | split

theorem Keeps.releaseEnd_keeps {gs : List Group} (hg : [.ctl, .mbx, .reg, .ls, .xg, .ev] ⊆ gs) {o0 s : State} (h0 : Keeps gs o0 s) (scope : ReleaseScope) (rs : List RegionNo) : Keeps gs o0 (State.releaseEnd s scope rs) := by
  unfold State.releaseEnd
  repeat' first
    | with_reducible assumption
    | with_reducible exact List.Subset.trans (by decide) hg
    | with_reducible exact Regular.keep rfl
    | (intro g hgn; cases g <;> first | exact (Keeps.out hg (by decide) hgn).elim | with_reducible rfl)
    | (extract_lets +onlyGivenNames s1; refine Keeps.have_ (gs := gs) (o := o0) (t := s1) ?_ (fun h => ?_); (on_goal 1 => subst s1); (on_goal 2 => try clear_value s1))
    | (extract_lets +onlyGivenNames n1; first | (have p : Sys := n1; clear p; subst n1) | (have p : Et := n1; clear p; subst n1) | (have p : Hm := n1; clear p; subst n1) | (have p : Opt := n1; clear p; subst n1) | (have p : Xg := n1; clear p; subst n1) | (have p : Sns := n1; clear p; subst n1) | (have p : Ev := n1; clear p; subst n1) | clear_value n1)
    | (with_reducible refine Keeps.foldl (fun t x h => ?_) ?_)
    | with_reducible apply Keeps.endRelease_keeps
    | with_reducible apply Keeps.modOp_keeps
    | with_reducible apply Keeps.modRgns_keeps
    | with_reducible apply Keeps.raise_keeps
    | with_reducible apply Keeps.whole_keeps
    | (simp -zeta only [Keeps.mark]; with_reducible refine KeepsLit.intro rfl ?_ ?_ ?_)
    | split

theorem Keeps.releaseRegions_keeps {gs : List Group} (hg : [.ctl, .mbx, .reg, .ls, .xg, .ev] ⊆ gs) {o0 s : State} (h0 : Keeps gs o0 s) (scope : ReleaseScope) (rs : List RegionNo) (dl : List (RegionNo × Nat × Nat)) : Keeps gs o0 (State.releaseRegions s scope rs dl) := by
  unfold State.releaseRegions
  repeat' first
    | with_reducible assumption
    | with_reducible exact List.Subset.trans (by decide) hg
    | with_reducible exact Regular.keep rfl
    | (intro g hgn; cases g <;> first | exact (Keeps.out hg (by decide) hgn).elim | with_reducible rfl)
    | (extract_lets +onlyGivenNames s1; refine Keeps.have_ (gs := gs) (o := o0) (t := s1) ?_ (fun h => ?_); (on_goal 1 => subst s1); (on_goal 2 => try clear_value s1))
    | (extract_lets +onlyGivenNames n1; first | (have p : Sys := n1; clear p; subst n1) | (have p : Et := n1; clear p; subst n1) | (have p : Hm := n1; clear p; subst n1) | (have p : Opt := n1; clear p; subst n1) | (have p : Xg := n1; clear p; subst n1) | (have p : Sns := n1; clear p; subst n1) | (have p : Ev := n1; clear p; subst n1) | clear_value n1)
    | (with_reducible refine Keeps.foldl (fun t x h => ?_) ?_)
    | (with_reducible refine Keeps.foldl2 (fun t x h => ?_) ?_)
    | (with_reducible refine Keeps.foldl1 (fun t x h => ?_) ?_)
    | with_reducible apply Keeps.fenceAll_keeps
    | with_reducible apply Keeps.laneResult_keeps
    | with_reducible apply Keeps.modOp_keeps
    | with_reducible apply Keeps.releaseEnd_keeps
    | with_reducible apply Keeps.resetContents_keeps
    | with_reducible apply Keeps.whole_keeps
    | (simp -zeta only [Keeps.mark]; with_reducible refine KeepsLit.intro rfl ?_ ?_ ?_)
    | split

theorem Keeps.releasesGo_keeps {gs : List Group} (hg : [.ctl, .mbx, .reg, .ls, .xg, .ev] ⊆ gs) {o0 s : State} (h0 : Keeps gs o0 s) : Keeps gs o0 (State.releasesGo s) := by
  unfold State.releasesGo
  repeat' first
    | with_reducible assumption
    | with_reducible exact List.Subset.trans (by decide) hg
    | with_reducible exact Regular.keep rfl
    | (intro g hgn; cases g <;> first | exact (Keeps.out hg (by decide) hgn).elim | with_reducible rfl)
    | (extract_lets +onlyGivenNames s1; refine Keeps.have_ (gs := gs) (o := o0) (t := s1) ?_ (fun h => ?_); (on_goal 1 => subst s1); (on_goal 2 => try clear_value s1))
    | (extract_lets +onlyGivenNames n1; first | (have p : Sys := n1; clear p; subst n1) | (have p : Et := n1; clear p; subst n1) | (have p : Hm := n1; clear p; subst n1) | (have p : Opt := n1; clear p; subst n1) | (have p : Xg := n1; clear p; subst n1) | (have p : Sns := n1; clear p; subst n1) | (have p : Ev := n1; clear p; subst n1) | clear_value n1)
    | (with_reducible refine Keeps.foldl (fun t x h => ?_) ?_)
    | with_reducible apply Keeps.releaseEnd_keeps
    | (simp -zeta only [Keeps.mark]; with_reducible refine KeepsLit.intro rfl ?_ ?_ ?_)
    | (with_reducible refine Keeps.ite ?_ ?_)
    | split

theorem Keeps.sendStretch_keeps {gs : List Group} (hg : [.xg] ⊆ gs) {o0 s : State} (h0 : Keeps gs o0 s) (r : RegionNo) (v : Nat) : Keeps gs o0 (State.sendStretch s r v) := by
  unfold State.sendStretch
  repeat' first
    | with_reducible assumption
    | with_reducible exact List.Subset.trans (by decide) hg
    | with_reducible exact Regular.keep rfl
    | (intro g hgn; cases g <;> first | exact (Keeps.out hg (by decide) hgn).elim | with_reducible rfl)
    | (extract_lets +onlyGivenNames s1; refine Keeps.have_ (gs := gs) (o := o0) (t := s1) ?_ (fun h => ?_); (on_goal 1 => subst s1); (on_goal 2 => try clear_value s1))
    | (extract_lets +onlyGivenNames n1; first | (have p : Sys := n1; clear p; subst n1) | (have p : Et := n1; clear p; subst n1) | (have p : Hm := n1; clear p; subst n1) | (have p : Opt := n1; clear p; subst n1) | (have p : Xg := n1; clear p; subst n1) | (have p : Sns := n1; clear p; subst n1) | (have p : Ev := n1; clear p; subst n1) | clear_value n1)
    | (with_reducible refine Keeps.foldl (fun t x h => ?_) ?_)
    | with_reducible apply Keeps.modLane_keeps
    | (simp -zeta only [Keeps.mark]; with_reducible refine KeepsLit.intro rfl ?_ ?_ ?_)
    | (with_reducible refine Keeps.ite ?_ ?_)
    | split

theorem Keeps.sendNote_keeps {gs : List Group} (hg : [.xg] ⊆ gs) {o0 s : State} (h0 : Keeps gs o0 s) (r : RegionNo) (n : Note) : Keeps gs o0 (State.sendNote s r n) := by
  unfold State.sendNote
  repeat' first
    | with_reducible assumption
    | with_reducible exact List.Subset.trans (by decide) hg
    | with_reducible exact Regular.keep rfl
    | (intro g hgn; cases g <;> first | exact (Keeps.out hg (by decide) hgn).elim | with_reducible rfl)
    | (extract_lets +onlyGivenNames s1; refine Keeps.have_ (gs := gs) (o := o0) (t := s1) ?_ (fun h => ?_); (on_goal 1 => subst s1); (on_goal 2 => try clear_value s1))
    | (extract_lets +onlyGivenNames n1; first | (have p : Sys := n1; clear p; subst n1) | (have p : Et := n1; clear p; subst n1) | (have p : Hm := n1; clear p; subst n1) | (have p : Opt := n1; clear p; subst n1) | (have p : Xg := n1; clear p; subst n1) | (have p : Sns := n1; clear p; subst n1) | (have p : Ev := n1; clear p; subst n1) | clear_value n1)
    | (with_reducible refine Keeps.foldl (fun t x h => ?_) ?_)
    | with_reducible apply Keeps.modLane_keeps
    | (simp -zeta only [Keeps.mark]; with_reducible refine KeepsLit.intro rfl ?_ ?_ ?_)
    | (with_reducible refine Keeps.ite ?_ ?_)
    | split

theorem Keeps.sendTarget_keeps {gs : List Group} (hg : [.xg] ⊆ gs) {o0 s : State} (h0 : Keeps gs o0 s) (r : RegionNo) (t : Nat) (win : Nat) : Keeps gs o0 (State.sendTarget s r t win) := by
  unfold State.sendTarget
  repeat' first
    | with_reducible assumption
    | with_reducible exact List.Subset.trans (by decide) hg
    | with_reducible exact Regular.keep rfl
    | (intro g hgn; cases g <;> first | exact (Keeps.out hg (by decide) hgn).elim | with_reducible rfl)
    | (extract_lets +onlyGivenNames s1; refine Keeps.have_ (gs := gs) (o := o0) (t := s1) ?_ (fun h => ?_); (on_goal 1 => subst s1); (on_goal 2 => try clear_value s1))
    | (extract_lets +onlyGivenNames n1; first | (have p : Sys := n1; clear p; subst n1) | (have p : Et := n1; clear p; subst n1) | (have p : Hm := n1; clear p; subst n1) | (have p : Opt := n1; clear p; subst n1) | (have p : Xg := n1; clear p; subst n1) | (have p : Sns := n1; clear p; subst n1) | (have p : Ev := n1; clear p; subst n1) | clear_value n1)
    | (with_reducible refine Keeps.foldl (fun t x h => ?_) ?_)
    | with_reducible apply Keeps.modLane_keeps
    | with_reducible apply Keeps.sendNote_keeps
    | (simp -zeta only [Keeps.mark]; with_reducible refine KeepsLit.intro rfl ?_ ?_ ?_)
    | (with_reducible refine Keeps.ite ?_ ?_)
    | split

theorem Keeps.slip_keeps {gs : List Group} (hg : [.xg, .ev] ⊆ gs) {o0 s : State} (h0 : Keeps gs o0 s) (r : RegionNo) (k : Nat) (up : Bool) : Keeps gs o0 (State.slip s r k up) := by
  unfold State.slip
  repeat' first
    | with_reducible assumption
    | with_reducible exact List.Subset.trans (by decide) hg
    | with_reducible exact Regular.keep rfl
    | (intro g hgn; cases g <;> first | exact (Keeps.out hg (by decide) hgn).elim | with_reducible rfl)
    | (extract_lets +onlyGivenNames s1; refine Keeps.have_ (gs := gs) (o := o0) (t := s1) ?_ (fun h => ?_); (on_goal 1 => subst s1); (on_goal 2 => try clear_value s1))
    | (extract_lets +onlyGivenNames n1; first | (have p : Sys := n1; clear p; subst n1) | (have p : Et := n1; clear p; subst n1) | (have p : Hm := n1; clear p; subst n1) | (have p : Opt := n1; clear p; subst n1) | (have p : Xg := n1; clear p; subst n1) | (have p : Sns := n1; clear p; subst n1) | (have p : Ev := n1; clear p; subst n1) | clear_value n1)
    | (with_reducible refine Keeps.foldl (fun t x h => ?_) ?_)
    | with_reducible apply Keeps.modLane_keeps
    | with_reducible apply Keeps.raiseIf_keeps
    | (simp -zeta only [Keeps.mark]; with_reducible refine KeepsLit.intro rfl ?_ ?_ ?_)
    | (with_reducible refine Keeps.ite ?_ ?_)
    | split

theorem Keeps.laneSource_keeps {gs : List Group} (hg : [.xg, .ev] ⊆ gs) {o0 s : State} (h0 : Keeps gs o0 s) (r : RegionNo) (k : Nat) (word : Option Nat) : Keeps gs o0 (State.laneSource s r k word) := by
  unfold State.laneSource
  repeat' first
    | with_reducible assumption
    | with_reducible exact List.Subset.trans (by decide) hg
    | with_reducible exact Regular.keep rfl
    | (intro g hgn; cases g <;> first | exact (Keeps.out hg (by decide) hgn).elim | with_reducible rfl)
    | (extract_lets +onlyGivenNames s1; refine Keeps.have_ (gs := gs) (o := o0) (t := s1) ?_ (fun h => ?_); (on_goal 1 => subst s1); (on_goal 2 => try clear_value s1))
    | (extract_lets +onlyGivenNames n1; first | (have p : Sys := n1; clear p; subst n1) | (have p : Et := n1; clear p; subst n1) | (have p : Hm := n1; clear p; subst n1) | (have p : Opt := n1; clear p; subst n1) | (have p : Xg := n1; clear p; subst n1) | (have p : Sns := n1; clear p; subst n1) | (have p : Ev := n1; clear p; subst n1) | clear_value n1)
    | (with_reducible refine Keeps.foldl (fun t x h => ?_) ?_)
    | with_reducible apply Keeps.modLane_keeps
    | with_reducible apply Keeps.slip_keeps
    | (simp -zeta only [Keeps.mark]; with_reducible refine KeepsLit.intro rfl ?_ ?_ ?_)
    | (with_reducible refine Keeps.ite ?_ ?_)
    | split

theorem Keeps.laneDest_keeps {gs : List Group} (hg : [.xg] ⊆ gs) {o0 s : State} (h0 : Keeps gs o0 s) (r : RegionNo) (k : Nat) : Keeps gs o0 (State.laneDest s r k) := by
  unfold State.laneDest
  repeat' first
    | with_reducible assumption
    | with_reducible exact List.Subset.trans (by decide) hg
    | with_reducible exact Regular.keep rfl
    | (intro g hgn; cases g <;> first | exact (Keeps.out hg (by decide) hgn).elim | with_reducible rfl)
    | (extract_lets +onlyGivenNames s1; refine Keeps.have_ (gs := gs) (o := o0) (t := s1) ?_ (fun h => ?_); (on_goal 1 => subst s1); (on_goal 2 => try clear_value s1))
    | (extract_lets +onlyGivenNames n1; first | (have p : Sys := n1; clear p; subst n1) | (have p : Et := n1; clear p; subst n1) | (have p : Hm := n1; clear p; subst n1) | (have p : Opt := n1; clear p; subst n1) | (have p : Xg := n1; clear p; subst n1) | (have p : Sns := n1; clear p; subst n1) | (have p : Ev := n1; clear p; subst n1) | clear_value n1)
    | (with_reducible refine Keeps.foldl (fun t x h => ?_) ?_)
    | with_reducible apply Keeps.modLane_keeps
    | (simp -zeta only [Keeps.mark]; with_reducible refine KeepsLit.intro rfl ?_ ?_ ?_)
    | (with_reducible refine Keeps.ite ?_ ?_)
    | split

theorem Keeps.lanePeriod_keeps {gs : List Group} (hg : [.xg, .ev] ⊆ gs) {o0 s : State} (h0 : Keeps gs o0 s) (r : RegionNo) (offers : List (Option Nat)) : Keeps gs o0 (State.lanePeriod s r offers) := by
  unfold State.lanePeriod
  repeat' first
    | with_reducible assumption
    | with_reducible exact List.Subset.trans (by decide) hg
    | with_reducible exact Regular.keep rfl
    | (intro g hgn; cases g <;> first | exact (Keeps.out hg (by decide) hgn).elim | with_reducible rfl)
    | (extract_lets +onlyGivenNames s1; refine Keeps.have_ (gs := gs) (o := o0) (t := s1) ?_ (fun h => ?_); (on_goal 1 => subst s1); (on_goal 2 => try clear_value s1))
    | (extract_lets +onlyGivenNames n1; first | (have p : Sys := n1; clear p; subst n1) | (have p : Et := n1; clear p; subst n1) | (have p : Hm := n1; clear p; subst n1) | (have p : Opt := n1; clear p; subst n1) | (have p : Xg := n1; clear p; subst n1) | (have p : Sns := n1; clear p; subst n1) | (have p : Ev := n1; clear p; subst n1) | clear_value n1)
    | (with_reducible refine Keeps.foldl (fun t x h => ?_) ?_)
    | with_reducible apply Keeps.laneDest_keeps
    | with_reducible apply Keeps.laneSource_keeps
    | (simp -zeta only [Keeps.mark]; with_reducible refine KeepsLit.intro rfl ?_ ?_ ?_)
    | (with_reducible refine Keeps.ite ?_ ?_)
    | split

theorem Keeps.forceStep_keeps {gs : List Group} (hg : [.xg, .ev] ⊆ gs) {o0 s : State} (h0 : Keeps gs o0 s) (r : RegionNo) (k : Nat) : Keeps gs o0 (State.forceStep s r k) := by
  unfold State.forceStep
  repeat' first
    | with_reducible assumption
    | with_reducible exact List.Subset.trans (by decide) hg
    | with_reducible exact Regular.keep rfl
    | (intro g hgn; cases g <;> first | exact (Keeps.out hg (by decide) hgn).elim | with_reducible rfl)
    | (extract_lets +onlyGivenNames s1; refine Keeps.have_ (gs := gs) (o := o0) (t := s1) ?_ (fun h => ?_); (on_goal 1 => subst s1); (on_goal 2 => try clear_value s1))
    | (extract_lets +onlyGivenNames n1; first | (have p : Sys := n1; clear p; subst n1) | (have p : Et := n1; clear p; subst n1) | (have p : Hm := n1; clear p; subst n1) | (have p : Opt := n1; clear p; subst n1) | (have p : Xg := n1; clear p; subst n1) | (have p : Sns := n1; clear p; subst n1) | (have p : Ev := n1; clear p; subst n1) | clear_value n1)
    | (with_reducible refine Keeps.foldl (fun t x h => ?_) ?_)
    | with_reducible apply Keeps.modLane_keeps
    | with_reducible apply Keeps.slip_keeps
    | (simp -zeta only [Keeps.mark]; with_reducible refine KeepsLit.intro rfl ?_ ?_ ?_)
    | (with_reducible refine Keeps.ite ?_ ?_)
    | split

theorem Keeps.lanePaused_keeps {gs : List Group} (hg : [.xg] ⊆ gs) {o0 s : State} (h0 : Keeps gs o0 s) (r : RegionNo) (k : Nat) : Keeps gs o0 (State.lanePaused s r k) := by
  unfold State.lanePaused
  repeat' first
    | with_reducible assumption
    | with_reducible exact List.Subset.trans (by decide) hg
    | with_reducible exact Regular.keep rfl
    | (intro g hgn; cases g <;> first | exact (Keeps.out hg (by decide) hgn).elim | with_reducible rfl)
    | (extract_lets +onlyGivenNames s1; refine Keeps.have_ (gs := gs) (o := o0) (t := s1) ?_ (fun h => ?_); (on_goal 1 => subst s1); (on_goal 2 => try clear_value s1))
    | (extract_lets +onlyGivenNames n1; first | (have p : Sys := n1; clear p; subst n1) | (have p : Et := n1; clear p; subst n1) | (have p : Hm := n1; clear p; subst n1) | (have p : Opt := n1; clear p; subst n1) | (have p : Xg := n1; clear p; subst n1) | (have p : Sns := n1; clear p; subst n1) | (have p : Ev := n1; clear p; subst n1) | clear_value n1)
    | (with_reducible refine Keeps.foldl (fun t x h => ?_) ?_)
    | with_reducible apply Keeps.modLane_keeps
    | (simp -zeta only [Keeps.mark]; with_reducible refine KeepsLit.intro rfl ?_ ?_ ?_)
    | (with_reducible refine Keeps.ite ?_ ?_)
    | split

theorem Keeps.execPairSlot_keeps {gs : List Group} (hg : [.xg, .ev] ⊆ gs) {o0 s : State} (h0 : Keeps gs o0 s) (r : RegionNo) (k : Fin 4) (_only : Unit) : KeepsOut gs o0 (execPairSlot r k _only s) := by
  unfold execPairSlot
  repeat' first
    | with_reducible assumption
    | with_reducible exact List.Subset.trans (by decide) hg
    | with_reducible exact Regular.keep rfl
    | (intro g hgn; cases g <;> first | exact (Keeps.out hg (by decide) hgn).elim | with_reducible rfl)
    | (extract_lets +onlyGivenNames s1; refine Keeps.have_ (gs := gs) (o := o0) (t := s1) ?_ (fun h => ?_); (on_goal 1 => subst s1); (on_goal 2 => try clear_value s1))
    | (extract_lets +onlyGivenNames n1; first | (have p : Sys := n1; clear p; subst n1) | (have p : Et := n1; clear p; subst n1) | (have p : Hm := n1; clear p; subst n1) | (have p : Opt := n1; clear p; subst n1) | (have p : Xg := n1; clear p; subst n1) | (have p : Sns := n1; clear p; subst n1) | (have p : Ev := n1; clear p; subst n1) | clear_value n1)
    | (with_reducible refine Keeps.foldl (fun t x h => ?_) ?_)
    | (with_reducible refine KeepsOut.next ?_)
    | with_reducible apply Keeps.forceStep_keeps
    | with_reducible apply Keeps.lanePaused_keeps
    | with_reducible apply Keeps.modLane_keeps
    | with_reducible apply Keeps.slip_keeps
    | (simp -zeta only [Keeps.mark]; with_reducible refine KeepsLit.intro rfl ?_ ?_ ?_)
    | (with_reducible refine Keeps.ite ?_ ?_)
    | split

theorem Keeps.execRealignWinExpiry_keeps {gs : List Group} (hg : [.xg] ⊆ gs) {o0 s : State} (h0 : Keeps gs o0 s) (r : RegionNo) (k : Fin 4) : KeepsOut gs o0 (execRealignWinExpiry r k s) := by
  unfold execRealignWinExpiry
  repeat' first
    | with_reducible assumption
    | with_reducible exact List.Subset.trans (by decide) hg
    | with_reducible exact Regular.keep rfl
    | (intro g hgn; cases g <;> first | exact (Keeps.out hg (by decide) hgn).elim | with_reducible rfl)
    | (extract_lets +onlyGivenNames s1; refine Keeps.have_ (gs := gs) (o := o0) (t := s1) ?_ (fun h => ?_); (on_goal 1 => subst s1); (on_goal 2 => try clear_value s1))
    | (extract_lets +onlyGivenNames n1; first | (have p : Sys := n1; clear p; subst n1) | (have p : Et := n1; clear p; subst n1) | (have p : Hm := n1; clear p; subst n1) | (have p : Opt := n1; clear p; subst n1) | (have p : Xg := n1; clear p; subst n1) | (have p : Sns := n1; clear p; subst n1) | (have p : Ev := n1; clear p; subst n1) | clear_value n1)
    | (with_reducible refine Keeps.foldl (fun t x h => ?_) ?_)
    | (with_reducible refine KeepsOut.next ?_)
    | with_reducible apply Keeps.modLane_keeps
    | (simp -zeta only [Keeps.mark]; with_reducible refine KeepsLit.intro rfl ?_ ?_ ?_)
    | (with_reducible refine Keeps.ite ?_ ?_)
    | split

theorem Keeps.takeNote_keeps {gs : List Group} (hg : [.xg] ⊆ gs) {o0 s t : State} {r : RegionNo} {k : Nat} {n : Note}
    (e : State.takeNote s r k = some (n, t)) (h0 : Keeps gs o0 s) : Keeps gs o0 t := by
  unfold State.takeNote at e
  split at e
  · cases e
    exact Keeps.modLane_keeps hg h0 _ _ _
  · cases e

theorem Keeps.execTargetNotice_keeps {gs : List Group} (hg : [.xg] ⊆ gs) {o0 s : State} (h0 : Keeps gs o0 s) (r : RegionNo) (k : Fin 4) : KeepsOut gs o0 (execTargetNotice r k s) := by
  unfold execTargetNotice
  repeat' first
    | with_reducible assumption
    | with_reducible exact List.Subset.trans (by decide) hg
    | with_reducible exact Regular.keep rfl
    | (intro g hgn; cases g <;> first | exact (Keeps.out hg (by decide) hgn).elim | with_reducible rfl)
    | (extract_lets +onlyGivenNames s1; refine Keeps.have_ (gs := gs) (o := o0) (t := s1) ?_ (fun h => ?_); (on_goal 1 => subst s1); (on_goal 2 => try clear_value s1))
    | (extract_lets +onlyGivenNames n1; first | (have p : Sys := n1; clear p; subst n1) | (have p : Et := n1; clear p; subst n1) | (have p : Hm := n1; clear p; subst n1) | (have p : Opt := n1; clear p; subst n1) | (have p : Xg := n1; clear p; subst n1) | (have p : Sns := n1; clear p; subst n1) | (have p : Ev := n1; clear p; subst n1) | clear_value n1)
    | (with_reducible refine Keeps.foldl (fun t x h => ?_) ?_)
    | (with_reducible refine KeepsOut.next ?_)
    | with_reducible apply Keeps.modLane_keeps
    | (with_reducible refine Keeps.takeNote_keeps ?_ (by assumption) ?_)
    | (simp -zeta only [Keeps.mark]; with_reducible refine KeepsLit.intro rfl ?_ ?_ ?_)
    | (with_reducible refine KeepsOpt.getD ?_ ?_)
    | (with_reducible refine Keeps.optEq (by assumption) ?_)
    | (with_reducible refine Keeps.pairEq1 (by assumption) ?_)
    | (with_reducible refine Keeps.pairEq2 (by assumption) ?_)
    | split

theorem Keeps.execStopNotice_keeps {gs : List Group} (hg : [.xg] ⊆ gs) {o0 s : State} (h0 : Keeps gs o0 s) (r : RegionNo) (k : Fin 4) : KeepsOut gs o0 (execStopNotice r k s) := by
  unfold execStopNotice
  repeat' first
    | with_reducible assumption
    | with_reducible exact List.Subset.trans (by decide) hg
    | with_reducible exact Regular.keep rfl
    | (intro g hgn; cases g <;> first | exact (Keeps.out hg (by decide) hgn).elim | with_reducible rfl)
    | (extract_lets +onlyGivenNames s1; refine Keeps.have_ (gs := gs) (o := o0) (t := s1) ?_ (fun h => ?_); (on_goal 1 => subst s1); (on_goal 2 => try clear_value s1))
    | (extract_lets +onlyGivenNames n1; first | (have p : Sys := n1; clear p; subst n1) | (have p : Et := n1; clear p; subst n1) | (have p : Hm := n1; clear p; subst n1) | (have p : Opt := n1; clear p; subst n1) | (have p : Xg := n1; clear p; subst n1) | (have p : Sns := n1; clear p; subst n1) | (have p : Ev := n1; clear p; subst n1) | clear_value n1)
    | (with_reducible refine Keeps.foldl (fun t x h => ?_) ?_)
    | (with_reducible refine KeepsOut.next ?_)
    | with_reducible apply Keeps.modLane_keeps
    | (with_reducible refine Keeps.takeNote_keeps ?_ (by assumption) ?_)
    | (simp -zeta only [Keeps.mark]; with_reducible refine KeepsLit.intro rfl ?_ ?_ ?_)
    | (with_reducible refine KeepsOpt.getD ?_ ?_)
    | (with_reducible refine Keeps.optEq (by assumption) ?_)
    | (with_reducible refine Keeps.pairEq1 (by assumption) ?_)
    | (with_reducible refine Keeps.pairEq2 (by assumption) ?_)
    | split

theorem Keeps.execRestartNotice_keeps {gs : List Group} (hg : [.xg] ⊆ gs) {o0 s : State} (h0 : Keeps gs o0 s) (r : RegionNo) (k : Fin 4) : KeepsOut gs o0 (execRestartNotice r k s) := by
  unfold execRestartNotice
  repeat' first
    | with_reducible assumption
    | with_reducible exact List.Subset.trans (by decide) hg
    | with_reducible exact Regular.keep rfl
    | (intro g hgn; cases g <;> first | exact (Keeps.out hg (by decide) hgn).elim | with_reducible rfl)
    | (extract_lets +onlyGivenNames s1; refine Keeps.have_ (gs := gs) (o := o0) (t := s1) ?_ (fun h => ?_); (on_goal 1 => subst s1); (on_goal 2 => try clear_value s1))
    | (extract_lets +onlyGivenNames n1; first | (have p : Sys := n1; clear p; subst n1) | (have p : Et := n1; clear p; subst n1) | (have p : Hm := n1; clear p; subst n1) | (have p : Opt := n1; clear p; subst n1) | (have p : Xg := n1; clear p; subst n1) | (have p : Sns := n1; clear p; subst n1) | (have p : Ev := n1; clear p; subst n1) | clear_value n1)
    | (with_reducible refine Keeps.foldl (fun t x h => ?_) ?_)
    | (with_reducible refine KeepsOut.next ?_)
    | with_reducible apply Keeps.modLane_keeps
    | (with_reducible refine Keeps.takeNote_keeps ?_ (by assumption) ?_)
    | (simp -zeta only [Keeps.mark]; with_reducible refine KeepsLit.intro rfl ?_ ?_ ?_)
    | (with_reducible refine KeepsOpt.getD ?_ ?_)
    | (with_reducible refine Keeps.optEq (by assumption) ?_)
    | (with_reducible refine Keeps.pairEq1 (by assumption) ?_)
    | (with_reducible refine Keeps.pairEq2 (by assumption) ?_)
    | split

theorem Keeps.execCrossStall_keeps {gs : List Group} (hg : [.reg, .ls, .xg, .ev] ⊆ gs) {o0 s : State} (h0 : Keeps gs o0 s) (id : Word) : KeepsOut gs o0 (execCrossStall id s) := by
  unfold execCrossStall
  repeat' first
    | with_reducible assumption
    | with_reducible exact List.Subset.trans (by decide) hg
    | with_reducible exact Regular.keep rfl
    | (intro g hgn; cases g <;> first | exact (Keeps.out hg (by decide) hgn).elim | with_reducible rfl)
    | (extract_lets +onlyGivenNames s1; refine Keeps.have_ (gs := gs) (o := o0) (t := s1) ?_ (fun h => ?_); (on_goal 1 => subst s1); (on_goal 2 => try clear_value s1))
    | (extract_lets +onlyGivenNames n1; first | (have p : Sys := n1; clear p; subst n1) | (have p : Et := n1; clear p; subst n1) | (have p : Hm := n1; clear p; subst n1) | (have p : Opt := n1; clear p; subst n1) | (have p : Xg := n1; clear p; subst n1) | (have p : Sns := n1; clear p; subst n1) | (have p : Ev := n1; clear p; subst n1) | clear_value n1)
    | (with_reducible refine Keeps.foldl (fun t x h => ?_) ?_)
    | (with_reducible refine KeepsOut.next ?_)
    | with_reducible apply Keeps.fence_keeps
    | with_reducible apply Keeps.modXing_keeps
    | with_reducible apply Keeps.raise_keeps
    | (simp -zeta only [Keeps.mark]; with_reducible refine KeepsLit.intro rfl ?_ ?_ ?_)
    | (with_reducible refine Keeps.ite ?_ ?_)
    | split

theorem Keeps.execCrossTear_keeps {gs : List Group} (hg : [.xg, .ev] ⊆ gs) {o0 s : State} (h0 : Keeps gs o0 s) (id : Word) : KeepsOut gs o0 (execCrossTear id s) := by
  unfold execCrossTear
  repeat' first
    | with_reducible assumption
    | with_reducible exact List.Subset.trans (by decide) hg
    | with_reducible exact Regular.keep rfl
    | (intro g hgn; cases g <;> first | exact (Keeps.out hg (by decide) hgn).elim | with_reducible rfl)
    | (extract_lets +onlyGivenNames f1; (first | (refine Keeps.fun1 f1 ?_) | (refine Keeps.fun2 f1 ?_) | (refine Keeps.fun3 f1 ?_) | (refine KeepsRes.fun1 f1 ?_)); subst f1; beta_reduce)
    | (extract_lets +onlyGivenNames s1; refine Keeps.have_ (gs := gs) (o := o0) (t := s1) ?_ (fun h => ?_); (on_goal 1 => subst s1); (on_goal 2 => try clear_value s1))
    | (extract_lets +onlyGivenNames n1; first | (have p : Sys := n1; clear p; subst n1) | (have p : Et := n1; clear p; subst n1) | (have p : Hm := n1; clear p; subst n1) | (have p : Opt := n1; clear p; subst n1) | (have p : Xg := n1; clear p; subst n1) | (have p : Sns := n1; clear p; subst n1) | (have p : Ev := n1; clear p; subst n1) | clear_value n1)
    | (with_reducible refine Keeps.foldl (fun t x h => ?_) ?_)
    | (with_reducible refine KeepsOut.next ?_)
    | with_reducible apply Keeps.modLane_keeps
    | with_reducible apply Keeps.modXing_keeps
    | with_reducible apply Keeps.raise_keeps
    | with_reducible apply Keeps.xLast_keeps
    | (simp -zeta only [Keeps.mark]; with_reducible refine KeepsLit.intro rfl ?_ ?_ ?_)
    | (with_reducible refine Keeps.ite ?_ ?_)
    | split

theorem Keeps.joint_keeps {gs : List Group} (hg : [.ctl, .reg, .ls, .xg, .ev] ⊆ gs) {o0 s : State} (h0 : Keeps gs o0 s) (id : Nat) : Keeps gs o0 (State.joint s id) := by
  unfold State.joint
  repeat' first
    | with_reducible assumption
    | with_reducible exact List.Subset.trans (by decide) hg
    | with_reducible exact Regular.keep rfl
    | (intro g hgn; cases g <;> first | exact (Keeps.out hg (by decide) hgn).elim | with_reducible rfl)
    | (extract_lets +onlyGivenNames s1; refine Keeps.have_ (gs := gs) (o := o0) (t := s1) ?_ (fun h => ?_); (on_goal 1 => subst s1); (on_goal 2 => try clear_value s1))
    | (extract_lets +onlyGivenNames n1; first | (have p : Sys := n1; clear p; subst n1) | (have p : Et := n1; clear p; subst n1) | (have p : Hm := n1; clear p; subst n1) | (have p : Opt := n1; clear p; subst n1) | (have p : Xg := n1; clear p; subst n1) | (have p : Sns := n1; clear p; subst n1) | (have p : Ev := n1; clear p; subst n1) | clear_value n1)
    | (with_reducible refine Keeps.foldl (fun t x h => ?_) ?_)
    | with_reducible apply Keeps.fence_keeps
    | with_reducible apply Keeps.raise_keeps
    | with_reducible apply Keeps.resetContents_keeps
    | with_reducible apply Keeps.whole_keeps
    | (simp -zeta only [Keeps.mark]; with_reducible refine KeepsLit.intro rfl ?_ ?_ ?_)
    | (with_reducible refine Keeps.ite ?_ ?_)
    | split

theorem Keeps.execFenceRelease_keeps {gs : List Group} (hg : [.ctl, .mbx, .reg, .ls, .xg, .ev] ⊆ gs) {o0 s : State} (h0 : Keeps gs o0 s) (scope : ReleaseScope) (dlanes : List (RegionNo × Nat × Nat)) : KeepsOut gs o0 (execFenceRelease scope dlanes s) := by
  unfold execFenceRelease
  repeat' first
    | with_reducible assumption
    | with_reducible exact List.Subset.trans (by decide) hg
    | with_reducible exact Regular.keep rfl
    | (intro g hgn; cases g <;> first | exact (Keeps.out hg (by decide) hgn).elim | with_reducible rfl)
    | (extract_lets +onlyGivenNames s1; refine Keeps.have_ (gs := gs) (o := o0) (t := s1) ?_ (fun h => ?_); (on_goal 1 => subst s1); (on_goal 2 => try clear_value s1))
    | (extract_lets +onlyGivenNames n1; first | (have p : Sys := n1; clear p; subst n1) | (have p : Et := n1; clear p; subst n1) | (have p : Hm := n1; clear p; subst n1) | (have p : Opt := n1; clear p; subst n1) | (have p : Xg := n1; clear p; subst n1) | (have p : Sns := n1; clear p; subst n1) | (have p : Ev := n1; clear p; subst n1) | clear_value n1)
    | (with_reducible refine Keeps.foldl (fun t x h => ?_) ?_)
    | (with_reducible refine KeepsOut.next ?_)
    | with_reducible apply Keeps.endRelease_keeps
    | with_reducible apply Keeps.releaseRegions_keeps
    | (simp -zeta only [Keeps.mark]; with_reducible refine KeepsLit.intro rfl ?_ ?_ ?_)
    | (with_reducible refine Keeps.ite ?_ ?_)
    | split

theorem Keeps.cmdCrossQuery_keeps {gs : List Group} (hg : [] ⊆ gs) {o0 s : State} (h0 : Keeps gs o0 s) (q : Req) : KeepsRes gs o0 (cmdCrossQuery q s) := by
  unfold cmdCrossQuery
  repeat' first
    | with_reducible assumption
    | with_reducible exact List.Subset.trans (by decide) hg
    | with_reducible exact Regular.keep rfl
    | (intro g hgn; cases g <;> first | exact (Keeps.out hg (by decide) hgn).elim | with_reducible rfl)
    | (extract_lets +onlyGivenNames s1; refine KeepsRes.have_ (gs := gs) (o := o0) (r := s1) ?_ (fun h => ?_); (on_goal 1 => subst s1); (on_goal 2 => try clear_value s1))
    | (extract_lets +onlyGivenNames s1; refine Keeps.have_ (gs := gs) (o := o0) (t := s1) ?_ (fun h => ?_); (on_goal 1 => subst s1); (on_goal 2 => try clear_value s1))
    | (extract_lets +onlyGivenNames n1; first | (have p : Sys := n1; clear p; subst n1) | (have p : Et := n1; clear p; subst n1) | (have p : Hm := n1; clear p; subst n1) | (have p : Opt := n1; clear p; subst n1) | (have p : Xg := n1; clear p; subst n1) | (have p : Sns := n1; clear p; subst n1) | (have p : Ev := n1; clear p; subst n1) | clear_value n1)
    | (with_reducible refine Keeps.foldl (fun t x h => ?_) ?_)
    | (with_reducible refine KeepsRes.done ?_)
    | (with_reducible refine KeepsRes.wait ?_)
    | (with_reducible refine KeepsRes.refuse ?_)
    | with_reducible apply Keeps.refuse_keeps
    | (simp -zeta only [Keeps.mark]; with_reducible refine KeepsLit.intro rfl ?_ ?_ ?_)
    | (with_reducible refine Keeps.ite ?_ ?_)
    | split

theorem Keeps.execCrossQuery_keeps {gs : List Group} (hg : [.mbx] ⊆ gs) {o0 s : State} (h0 : Keeps gs o0 s) (q : Req) : KeepsOut gs o0 (execCrossQuery q s) := by
  unfold execCrossQuery
  repeat' first
    | with_reducible assumption
    | with_reducible exact List.Subset.trans (by decide) hg
    | with_reducible exact Regular.keep rfl
    | (intro g hgn; cases g <;> first | exact (Keeps.out hg (by decide) hgn).elim | with_reducible rfl)
    | (extract_lets +onlyGivenNames s1; refine Keeps.have_ (gs := gs) (o := o0) (t := s1) ?_ (fun h => ?_); (on_goal 1 => subst s1); (on_goal 2 => try clear_value s1))
    | (extract_lets +onlyGivenNames n1; first | (have p : Sys := n1; clear p; subst n1) | (have p : Et := n1; clear p; subst n1) | (have p : Hm := n1; clear p; subst n1) | (have p : Opt := n1; clear p; subst n1) | (have p : Xg := n1; clear p; subst n1) | (have p : Sns := n1; clear p; subst n1) | (have p : Ev := n1; clear p; subst n1) | clear_value n1)
    | (with_reducible refine Keeps.foldl (fun t x h => ?_) ?_)
    | (with_reducible refine KeepsOut.next ?_)
    | (with_reducible refine Keeps.submit_keeps ?_ ?_ _ _ (fun q t h => ?_) _)
    | with_reducible apply Keeps.cmdCrossQuery_keeps
    | (simp -zeta only [Keeps.mark]; with_reducible refine KeepsLit.intro rfl ?_ ?_ ?_)
    | split

theorem Keeps.cmdCrossReset_keeps {gs : List Group} (hg : [.ctl, .reg, .ls, .xg, .ev] ⊆ gs) {o0 s : State} (h0 : Keeps gs o0 s) (q : Req) : KeepsRes gs o0 (cmdCrossReset q s) := by
  unfold cmdCrossReset
  repeat' first
    | with_reducible assumption
    | with_reducible exact List.Subset.trans (by decide) hg
    | with_reducible exact Regular.keep rfl
    | (intro g hgn; cases g <;> first | exact (Keeps.out hg (by decide) hgn).elim | with_reducible rfl)
    | (extract_lets +onlyGivenNames s1; refine KeepsRes.have_ (gs := gs) (o := o0) (r := s1) ?_ (fun h => ?_); (on_goal 1 => subst s1); (on_goal 2 => try clear_value s1))
    | (extract_lets +onlyGivenNames s1; refine Keeps.have_ (gs := gs) (o := o0) (t := s1) ?_ (fun h => ?_); (on_goal 1 => subst s1); (on_goal 2 => try clear_value s1))
    | (extract_lets +onlyGivenNames n1; first | (have p : Sys := n1; clear p; subst n1) | (have p : Et := n1; clear p; subst n1) | (have p : Hm := n1; clear p; subst n1) | (have p : Opt := n1; clear p; subst n1) | (have p : Xg := n1; clear p; subst n1) | (have p : Sns := n1; clear p; subst n1) | (have p : Ev := n1; clear p; subst n1) | clear_value n1)
    | (with_reducible refine Keeps.foldl (fun t x h => ?_) ?_)
    | (with_reducible refine KeepsRes.done ?_)
    | (with_reducible refine KeepsRes.wait ?_)
    | (with_reducible refine KeepsRes.refuse ?_)
    | with_reducible apply Keeps.raise_keeps
    | with_reducible apply Keeps.resetContents_keeps
    | with_reducible apply Keeps.whole_keeps
    | with_reducible apply Keeps.refuse_keeps
    | (simp -zeta only [Keeps.mark]; with_reducible refine KeepsLit.intro rfl ?_ ?_ ?_)
    | (with_reducible refine Keeps.ite ?_ ?_)
    | split

theorem Keeps.execCrossReset_keeps {gs : List Group} (hg : [.ctl, .mbx, .reg, .ls, .xg, .ev] ⊆ gs) {o0 s : State} (h0 : Keeps gs o0 s) (q : Req) : KeepsOut gs o0 (execCrossReset q s) := by
  unfold execCrossReset
  repeat' first
    | with_reducible assumption
    | with_reducible exact List.Subset.trans (by decide) hg
    | with_reducible exact Regular.keep rfl
    | (intro g hgn; cases g <;> first | exact (Keeps.out hg (by decide) hgn).elim | with_reducible rfl)
    | (extract_lets +onlyGivenNames s1; refine Keeps.have_ (gs := gs) (o := o0) (t := s1) ?_ (fun h => ?_); (on_goal 1 => subst s1); (on_goal 2 => try clear_value s1))
    | (extract_lets +onlyGivenNames n1; first | (have p : Sys := n1; clear p; subst n1) | (have p : Et := n1; clear p; subst n1) | (have p : Hm := n1; clear p; subst n1) | (have p : Opt := n1; clear p; subst n1) | (have p : Xg := n1; clear p; subst n1) | (have p : Sns := n1; clear p; subst n1) | (have p : Ev := n1; clear p; subst n1) | clear_value n1)
    | (with_reducible refine Keeps.foldl (fun t x h => ?_) ?_)
    | (with_reducible refine KeepsOut.next ?_)
    | (with_reducible refine Keeps.submit_keeps ?_ ?_ _ _ (fun q t h => ?_) _)
    | with_reducible apply Keeps.cmdCrossReset_keeps
    | (simp -zeta only [Keeps.mark]; with_reducible refine KeepsLit.intro rfl ?_ ?_ ?_)
    | split

theorem Keeps.cmdCrossRelease_keeps {gs : List Group} (hg : [.mbx, .xg] ⊆ gs) {o0 s : State} (h0 : Keeps gs o0 s) (q : Req) : KeepsRes gs o0 (cmdCrossRelease q s) := by
  unfold cmdCrossRelease
  repeat' first
    | with_reducible assumption
    | with_reducible exact List.Subset.trans (by decide) hg
    | with_reducible exact Regular.keep rfl
    | (intro g hgn; cases g <;> first | exact (Keeps.out hg (by decide) hgn).elim | with_reducible rfl)
    | (extract_lets +onlyGivenNames s1; refine KeepsRes.have_ (gs := gs) (o := o0) (r := s1) ?_ (fun h => ?_); (on_goal 1 => subst s1); (on_goal 2 => try clear_value s1))
    | (extract_lets +onlyGivenNames s1; refine Keeps.have_ (gs := gs) (o := o0) (t := s1) ?_ (fun h => ?_); (on_goal 1 => subst s1); (on_goal 2 => try clear_value s1))
    | (extract_lets +onlyGivenNames n1; first | (have p : Sys := n1; clear p; subst n1) | (have p : Et := n1; clear p; subst n1) | (have p : Hm := n1; clear p; subst n1) | (have p : Opt := n1; clear p; subst n1) | (have p : Xg := n1; clear p; subst n1) | (have p : Sns := n1; clear p; subst n1) | (have p : Ev := n1; clear p; subst n1) | clear_value n1)
    | (with_reducible refine Keeps.foldl (fun t x h => ?_) ?_)
    | (with_reducible refine KeepsRes.done ?_)
    | (with_reducible refine KeepsRes.wait ?_)
    | (with_reducible refine KeepsRes.refuse ?_)
    | (with_reducible refine Keeps.startOp_keeps ?_ ?_ _ _ _ (fun i t h => ?_))
    | with_reducible apply Keeps.refuse_keeps
    | (simp -zeta only [Keeps.mark]; with_reducible refine KeepsLit.intro rfl ?_ ?_ ?_)
    | (with_reducible refine Keeps.ite ?_ ?_)
    | split

theorem Keeps.execCrossRelease_keeps {gs : List Group} (hg : [.mbx, .xg] ⊆ gs) {o0 s : State} (h0 : Keeps gs o0 s) (q : Req) : KeepsOut gs o0 (execCrossRelease q s) := by
  unfold execCrossRelease
  repeat' first
    | with_reducible assumption
    | with_reducible exact List.Subset.trans (by decide) hg
    | with_reducible exact Regular.keep rfl
    | (intro g hgn; cases g <;> first | exact (Keeps.out hg (by decide) hgn).elim | with_reducible rfl)
    | (extract_lets +onlyGivenNames s1; refine Keeps.have_ (gs := gs) (o := o0) (t := s1) ?_ (fun h => ?_); (on_goal 1 => subst s1); (on_goal 2 => try clear_value s1))
    | (extract_lets +onlyGivenNames n1; first | (have p : Sys := n1; clear p; subst n1) | (have p : Et := n1; clear p; subst n1) | (have p : Hm := n1; clear p; subst n1) | (have p : Opt := n1; clear p; subst n1) | (have p : Xg := n1; clear p; subst n1) | (have p : Sns := n1; clear p; subst n1) | (have p : Ev := n1; clear p; subst n1) | clear_value n1)
    | (with_reducible refine Keeps.foldl (fun t x h => ?_) ?_)
    | (with_reducible refine KeepsOut.next ?_)
    | (with_reducible refine Keeps.submit_keeps ?_ ?_ _ _ (fun q t h => ?_) _)
    | with_reducible apply Keeps.cmdCrossRelease_keeps
    | (simp -zeta only [Keeps.mark]; with_reducible refine KeepsLit.intro rfl ?_ ?_ ?_)
    | split

theorem Keeps.cmdPairRecal_keeps {gs : List Group} (hg : [.xg] ⊆ gs) {o0 s : State} (h0 : Keeps gs o0 s) (q : Req) : KeepsRes gs o0 (cmdPairRecal q s) := by
  unfold cmdPairRecal
  repeat' first
    | with_reducible assumption
    | with_reducible exact List.Subset.trans (by decide) hg
    | with_reducible exact Regular.keep rfl
    | (intro g hgn; cases g <;> first | exact (Keeps.out hg (by decide) hgn).elim | with_reducible rfl)
    | (extract_lets +onlyGivenNames s1; refine KeepsRes.have_ (gs := gs) (o := o0) (r := s1) ?_ (fun h => ?_); (on_goal 1 => subst s1); (on_goal 2 => try clear_value s1))
    | (extract_lets +onlyGivenNames s1; refine Keeps.have_ (gs := gs) (o := o0) (t := s1) ?_ (fun h => ?_); (on_goal 1 => subst s1); (on_goal 2 => try clear_value s1))
    | (extract_lets +onlyGivenNames n1; first | (have p : Sys := n1; clear p; subst n1) | (have p : Et := n1; clear p; subst n1) | (have p : Hm := n1; clear p; subst n1) | (have p : Opt := n1; clear p; subst n1) | (have p : Xg := n1; clear p; subst n1) | (have p : Sns := n1; clear p; subst n1) | (have p : Ev := n1; clear p; subst n1) | clear_value n1)
    | (with_reducible refine Keeps.foldl (fun t x h => ?_) ?_)
    | (with_reducible refine KeepsRes.done ?_)
    | (with_reducible refine KeepsRes.wait ?_)
    | (with_reducible refine KeepsRes.refuse ?_)
    | with_reducible apply Keeps.modLane_keeps
    | with_reducible apply Keeps.refuse_keeps
    | (simp -zeta only [Keeps.mark]; with_reducible refine KeepsLit.intro rfl ?_ ?_ ?_)
    | (with_reducible refine Keeps.ite ?_ ?_)
    | split

theorem Keeps.execPairRecal_keeps {gs : List Group} (hg : [.mbx, .xg] ⊆ gs) {o0 s : State} (h0 : Keeps gs o0 s) (q : Req) : KeepsOut gs o0 (execPairRecal q s) := by
  unfold execPairRecal
  repeat' first
    | with_reducible assumption
    | with_reducible exact List.Subset.trans (by decide) hg
    | with_reducible exact Regular.keep rfl
    | (intro g hgn; cases g <;> first | exact (Keeps.out hg (by decide) hgn).elim | with_reducible rfl)
    | (extract_lets +onlyGivenNames s1; refine Keeps.have_ (gs := gs) (o := o0) (t := s1) ?_ (fun h => ?_); (on_goal 1 => subst s1); (on_goal 2 => try clear_value s1))
    | (extract_lets +onlyGivenNames n1; first | (have p : Sys := n1; clear p; subst n1) | (have p : Et := n1; clear p; subst n1) | (have p : Hm := n1; clear p; subst n1) | (have p : Opt := n1; clear p; subst n1) | (have p : Xg := n1; clear p; subst n1) | (have p : Sns := n1; clear p; subst n1) | (have p : Ev := n1; clear p; subst n1) | clear_value n1)
    | (with_reducible refine Keeps.foldl (fun t x h => ?_) ?_)
    | (with_reducible refine KeepsOut.next ?_)
    | (with_reducible refine Keeps.submit_keeps ?_ ?_ _ _ (fun q t h => ?_) _)
    | with_reducible apply Keeps.cmdPairRecal_keeps
    | (simp -zeta only [Keeps.mark]; with_reducible refine KeepsLit.intro rfl ?_ ?_ ?_)
    | split

theorem Keeps.ringPut_keeps {gs : List Group} (hg : [.et] ⊆ gs) {o0 s : State} (h0 : Keeps gs o0 s) (x : LRec) : Keeps gs o0 (State.ringPut s x) := by
  unfold State.ringPut
  repeat' first
    | with_reducible assumption
    | with_reducible exact List.Subset.trans (by decide) hg
    | exact fun h => { h with ring := (by dsimp only; exact Map.put_wf _ _ h.ring), wptr := Nat.mod_lt _ (by decide) }
    | with_reducible exact Regular.keep rfl
    | (intro g hgn; cases g <;> first | exact (Keeps.out hg (by decide) hgn).elim | with_reducible rfl)
    | (extract_lets +onlyGivenNames s1; refine Keeps.have_ (gs := gs) (o := o0) (t := s1) ?_ (fun h => ?_); (on_goal 1 => subst s1); (on_goal 2 => try clear_value s1))
    | (extract_lets +onlyGivenNames n1; first | (have p : Sys := n1; clear p; subst n1) | (have p : Et := n1; clear p; subst n1) | (have p : Hm := n1; clear p; subst n1) | (have p : Opt := n1; clear p; subst n1) | (have p : Xg := n1; clear p; subst n1) | (have p : Sns := n1; clear p; subst n1) | (have p : Ev := n1; clear p; subst n1) | clear_value n1)
    | (with_reducible refine Keeps.foldl (fun t x h => ?_) ?_)
    | (simp -zeta only [Keeps.mark]; with_reducible refine KeepsLit.intro rfl ?_ ?_ ?_)
    | split

theorem Keeps.lossNoted_keeps {gs : List Group} (hg : [.reg, .et] ⊆ gs) {o0 s : State} (h0 : Keeps gs o0 s) (r : RegionNo) : Keeps gs o0 (State.lossNoted s r) := by
  unfold State.lossNoted
  repeat' first
    | with_reducible assumption
    | with_reducible exact List.Subset.trans (by decide) hg
    | with_reducible exact Regular.keep rfl
    | (intro g hgn; cases g <;> first | exact (Keeps.out hg (by decide) hgn).elim | with_reducible rfl)
    | (extract_lets +onlyGivenNames s1; refine Keeps.have_ (gs := gs) (o := o0) (t := s1) ?_ (fun h => ?_); (on_goal 1 => subst s1); (on_goal 2 => try clear_value s1))
    | (extract_lets +onlyGivenNames n1; first | (have p : Sys := n1; clear p; subst n1) | (have p : Et := n1; clear p; subst n1) | (have p : Hm := n1; clear p; subst n1) | (have p : Opt := n1; clear p; subst n1) | (have p : Xg := n1; clear p; subst n1) | (have p : Sns := n1; clear p; subst n1) | (have p : Ev := n1; clear p; subst n1) | clear_value n1)
    | (with_reducible refine Keeps.foldl (fun t x h => ?_) ?_)
    | with_reducible apply Keeps.sendMsg_keeps
    | (simp -zeta only [Keeps.mark]; with_reducible refine KeepsLit.intro rfl ?_ ?_ ?_)
    | split

theorem Keeps.ringWrite_keeps {gs : List Group} (hg : [.reg, .et] ⊆ gs) {o0 s : State} (h0 : Keeps gs o0 s) (x : LRec) (n : Nat) :
    Keeps gs o0 (State.ringWrite x n s) := by
  induction n generalizing s with
  | zero => exact Keeps.ringPut_keeps (List.Subset.trans (by decide) hg) h0 x
  | succ n ih =>
    unfold State.ringWrite
    split
    · exact ih (Keeps.lossNoted_keeps (List.Subset.trans (by decide) hg) (Keeps.ringPut_keeps (List.Subset.trans (by decide) hg) h0 _) _)
    · exact Keeps.ringPut_keeps (List.Subset.trans (by decide) hg) h0 x

theorem Keeps.basedBy_keeps {gs : List Group} (hg : [.et] ⊆ gs) {o0 s : State} (h0 : Keeps gs o0 s) (x : LRec) : Keeps gs o0 (State.basedBy s x) := by
  unfold State.basedBy
  repeat' first
    | with_reducible assumption
    | with_reducible exact List.Subset.trans (by decide) hg
    | with_reducible exact Regular.keep rfl
    | (intro g hgn; cases g <;> first | exact (Keeps.out hg (by decide) hgn).elim | with_reducible rfl)
    | (extract_lets +onlyGivenNames s1; refine Keeps.have_ (gs := gs) (o := o0) (t := s1) ?_ (fun h => ?_); (on_goal 1 => subst s1); (on_goal 2 => try clear_value s1))
    | (extract_lets +onlyGivenNames n1; first | (have p : Sys := n1; clear p; subst n1) | (have p : Et := n1; clear p; subst n1) | (have p : Hm := n1; clear p; subst n1) | (have p : Opt := n1; clear p; subst n1) | (have p : Xg := n1; clear p; subst n1) | (have p : Sns := n1; clear p; subst n1) | (have p : Ev := n1; clear p; subst n1) | clear_value n1)
    | (with_reducible refine Keeps.foldl (fun t x h => ?_) ?_)
    | with_reducible apply Keeps.modAnchor_keeps
    | (simp -zeta only [Keeps.mark]; with_reducible refine KeepsLit.intro rfl ?_ ?_ ?_)
    | (with_reducible refine Keeps.ite ?_ ?_)
    | split

theorem Keeps.record_keeps {gs : List Group} (hg : [.reg, .et] ⊆ gs) {o0 s : State} (h0 : Keeps gs o0 s) (x : LRec) : Keeps gs o0 (State.record s x) := by
  unfold State.record
  repeat' first
    | with_reducible assumption
    | with_reducible exact List.Subset.trans (by decide) hg
    | with_reducible exact Regular.keep rfl
    | (intro g hgn; cases g <;> first | exact (Keeps.out hg (by decide) hgn).elim | with_reducible rfl)
    | (extract_lets +onlyGivenNames s1; refine Keeps.have_ (gs := gs) (o := o0) (t := s1) ?_ (fun h => ?_); (on_goal 1 => subst s1); (on_goal 2 => try clear_value s1))
    | (extract_lets +onlyGivenNames n1; first | (have p : Sys := n1; clear p; subst n1) | (have p : Et := n1; clear p; subst n1) | (have p : Hm := n1; clear p; subst n1) | (have p : Opt := n1; clear p; subst n1) | (have p : Xg := n1; clear p; subst n1) | (have p : Sns := n1; clear p; subst n1) | (have p : Ev := n1; clear p; subst n1) | clear_value n1)
    | (with_reducible refine Keeps.foldl (fun t x h => ?_) ?_)
    | with_reducible apply Keeps.basedBy_keeps
    | with_reducible apply Keeps.ringWrite_keeps
    | (simp -zeta only [Keeps.mark]; with_reducible refine KeepsLit.intro rfl ?_ ?_ ?_)
    | split

theorem Keeps.push_keeps {gs : List Group} (hg : [.reg, .xg] ⊆ gs) {o0 s : State} (h0 : Keeps gs o0 s) (r : RegionNo) (e : LaneEntry) : Keeps gs o0 (State.push s r e) := by
  unfold State.push
  repeat' first
    | with_reducible assumption
    | with_reducible exact List.Subset.trans (by decide) hg
    | with_reducible exact Regular.keep rfl
    | (intro g hgn; cases g <;> first | exact (Keeps.out hg (by decide) hgn).elim | with_reducible rfl)
    | (extract_lets +onlyGivenNames s1; refine Keeps.have_ (gs := gs) (o := o0) (t := s1) ?_ (fun h => ?_); (on_goal 1 => subst s1); (on_goal 2 => try clear_value s1))
    | (extract_lets +onlyGivenNames n1; first | (have p : Sys := n1; clear p; subst n1) | (have p : Et := n1; clear p; subst n1) | (have p : Hm := n1; clear p; subst n1) | (have p : Opt := n1; clear p; subst n1) | (have p : Xg := n1; clear p; subst n1) | (have p : Sns := n1; clear p; subst n1) | (have p : Ev := n1; clear p; subst n1) | clear_value n1)
    | (with_reducible refine Keeps.foldl (fun t x h => ?_) ?_)
    | with_reducible apply Keeps.modRgn_keeps
    | with_reducible apply Keeps.modXing_keeps
    | with_reducible apply Keeps.xDrop_keeps
    | (simp -zeta only [Keeps.mark]; with_reducible refine KeepsLit.intro rfl ?_ ?_ ?_)
    | (with_reducible refine Keeps.ite ?_ ?_)
    | split

theorem Keeps.emit_keeps {gs : List Group} (hg : [.reg, .xg] ⊆ gs) {o0 s : State} (h0 : Keeps gs o0 s) (r : RegionNo) (kind : Nat) (aux : Nat) (cycle : Nat) (value : Nat) : Keeps gs o0 (State.emit s r kind aux cycle value) := by
  unfold State.emit
  repeat' first
    | with_reducible assumption
    | with_reducible exact List.Subset.trans (by decide) hg
    | with_reducible exact Regular.keep rfl
    | (intro g hgn; cases g <;> first | exact (Keeps.out hg (by decide) hgn).elim | with_reducible rfl)
    | (extract_lets +onlyGivenNames s1; refine Keeps.have_ (gs := gs) (o := o0) (t := s1) ?_ (fun h => ?_); (on_goal 1 => subst s1); (on_goal 2 => try clear_value s1))
    | (extract_lets +onlyGivenNames n1; first | (have p : Sys := n1; clear p; subst n1) | (have p : Et := n1; clear p; subst n1) | (have p : Hm := n1; clear p; subst n1) | (have p : Opt := n1; clear p; subst n1) | (have p : Xg := n1; clear p; subst n1) | (have p : Sns := n1; clear p; subst n1) | (have p : Ev := n1; clear p; subst n1) | clear_value n1)
    | (with_reducible refine Keeps.foldl (fun t x h => ?_) ?_)
    | with_reducible apply Keeps.push_keeps
    | (simp -zeta only [Keeps.mark]; with_reducible refine KeepsLit.intro rfl ?_ ?_ ?_)
    | (with_reducible refine Keeps.ite ?_ ?_)
    | split

theorem Keeps.modFormer_keeps {gs : List Group} (hg : [.reg] ⊆ gs) {o0 s : State} (h0 : Keeps gs o0 s) (r : RegionNo) (f : Former → Former) : Keeps gs o0 (State.modFormer s r f) := by
  unfold State.modFormer
  repeat' first
    | with_reducible assumption
    | with_reducible exact List.Subset.trans (by decide) hg
    | with_reducible exact Regular.keep rfl
    | (intro g hgn; cases g <;> first | exact (Keeps.out hg (by decide) hgn).elim | with_reducible rfl)
    | (extract_lets +onlyGivenNames s1; refine Keeps.have_ (gs := gs) (o := o0) (t := s1) ?_ (fun h => ?_); (on_goal 1 => subst s1); (on_goal 2 => try clear_value s1))
    | (extract_lets +onlyGivenNames n1; first | (have p : Sys := n1; clear p; subst n1) | (have p : Et := n1; clear p; subst n1) | (have p : Hm := n1; clear p; subst n1) | (have p : Opt := n1; clear p; subst n1) | (have p : Xg := n1; clear p; subst n1) | (have p : Sns := n1; clear p; subst n1) | (have p : Ev := n1; clear p; subst n1) | clear_value n1)
    | (with_reducible refine Keeps.foldl (fun t x h => ?_) ?_)
    | with_reducible apply Keeps.modRgn_keeps
    | (simp -zeta only [Keeps.mark]; with_reducible refine KeepsLit.intro rfl ?_ ?_ ?_)
    | split

theorem Keeps.flushTarget_keeps {gs : List Group} (hg : [.reg, .xg] ⊆ gs) {o0 s : State} (h0 : Keeps gs o0 s) (r : RegionNo) : Keeps gs o0 (State.flushTarget s r) := by
  unfold State.flushTarget
  repeat' first
    | with_reducible assumption
    | with_reducible exact List.Subset.trans (by decide) hg
    | with_reducible exact Regular.keep rfl
    | (intro g hgn; cases g <;> first | exact (Keeps.out hg (by decide) hgn).elim | with_reducible rfl)
    | (extract_lets +onlyGivenNames s1; refine Keeps.have_ (gs := gs) (o := o0) (t := s1) ?_ (fun h => ?_); (on_goal 1 => subst s1); (on_goal 2 => try clear_value s1))
    | (extract_lets +onlyGivenNames n1; first | (have p : Sys := n1; clear p; subst n1) | (have p : Et := n1; clear p; subst n1) | (have p : Hm := n1; clear p; subst n1) | (have p : Opt := n1; clear p; subst n1) | (have p : Xg := n1; clear p; subst n1) | (have p : Sns := n1; clear p; subst n1) | (have p : Ev := n1; clear p; subst n1) | clear_value n1)
    | (with_reducible refine Keeps.foldl (fun t x h => ?_) ?_)
    | with_reducible apply Keeps.emit_keeps
    | with_reducible apply Keeps.modFormer_keeps
    | (simp -zeta only [Keeps.mark]; with_reducible refine KeepsLit.intro rfl ?_ ?_ ?_)
    | split

theorem Keeps.emitStretch_keeps {gs : List Group} (hg : [.reg, .et, .xg, .ev] ⊆ gs) {o0 s : State} (h0 : Keeps gs o0 s) (r : RegionNo) (first : Nat) (v : Nat) (len : Nat) : Keeps gs o0 (State.emitStretch s r first v len) := by
  unfold State.emitStretch
  repeat' first
    | with_reducible assumption
    | with_reducible exact List.Subset.trans (by decide) hg
    | with_reducible exact Regular.keep rfl
    | (intro g hgn; cases g <;> first | exact (Keeps.out hg (by decide) hgn).elim | with_reducible rfl)
    | (extract_lets +onlyGivenNames s1; refine Keeps.have_ (gs := gs) (o := o0) (t := s1) ?_ (fun h => ?_); (on_goal 1 => subst s1); (on_goal 2 => try clear_value s1))
    | (extract_lets +onlyGivenNames n1; first | (have p : Sys := n1; clear p; subst n1) | (have p : Et := n1; clear p; subst n1) | (have p : Hm := n1; clear p; subst n1) | (have p : Opt := n1; clear p; subst n1) | (have p : Xg := n1; clear p; subst n1) | (have p : Sns := n1; clear p; subst n1) | (have p : Ev := n1; clear p; subst n1) | clear_value n1)
    | (with_reducible refine Keeps.foldl (fun t x h => ?_) ?_)
    | with_reducible apply Keeps.emit_keeps
    | with_reducible apply Keeps.flushTarget_keeps
    | with_reducible apply Keeps.modFormer_keeps
    | with_reducible apply Keeps.raise_keeps
    | (simp -zeta only [Keeps.mark]; with_reducible refine KeepsLit.intro rfl ?_ ?_ ?_)
    | (with_reducible refine Keeps.ite ?_ ?_)
    | split

theorem Keeps.flushBefore_keeps {gs : List Group} (hg : [.reg, .xg] ⊆ gs) {o0 s : State} (h0 : Keeps gs o0 s) (r : RegionNo) (cycle : Nat) : Keeps gs o0 (State.flushBefore s r cycle) := by
  unfold State.flushBefore
  repeat' first
    | with_reducible assumption
    | with_reducible exact List.Subset.trans (by decide) hg
    | with_reducible exact Regular.keep rfl
    | (intro g hgn; cases g <;> first | exact (Keeps.out hg (by decide) hgn).elim | with_reducible rfl)
    | (extract_lets +onlyGivenNames s1; refine Keeps.have_ (gs := gs) (o := o0) (t := s1) ?_ (fun h => ?_); (on_goal 1 => subst s1); (on_goal 2 => try clear_value s1))
    | (extract_lets +onlyGivenNames n1; first | (have p : Sys := n1; clear p; subst n1) | (have p : Et := n1; clear p; subst n1) | (have p : Hm := n1; clear p; subst n1) | (have p : Opt := n1; clear p; subst n1) | (have p : Xg := n1; clear p; subst n1) | (have p : Sns := n1; clear p; subst n1) | (have p : Ev := n1; clear p; subst n1) | clear_value n1)
    | (with_reducible refine Keeps.foldl (fun t x h => ?_) ?_)
    | with_reducible apply Keeps.flushTarget_keeps
    | (simp -zeta only [Keeps.mark]; with_reducible refine KeepsLit.intro rfl ?_ ?_ ?_)
    | (with_reducible refine Keeps.ite ?_ ?_)
    | split

theorem Keeps.flushMark_keeps {gs : List Group} (hg : [.reg, .xg] ⊆ gs) {o0 s : State} (h0 : Keeps gs o0 s) (r : RegionNo) : Keeps gs o0 (State.flushMark s r) := by
  unfold State.flushMark
  repeat' first
    | with_reducible assumption
    | with_reducible exact List.Subset.trans (by decide) hg
    | with_reducible exact Regular.keep rfl
    | (intro g hgn; cases g <;> first | exact (Keeps.out hg (by decide) hgn).elim | with_reducible rfl)
    | (extract_lets +onlyGivenNames s1; refine Keeps.have_ (gs := gs) (o := o0) (t := s1) ?_ (fun h => ?_); (on_goal 1 => subst s1); (on_goal 2 => try clear_value s1))
    | (extract_lets +onlyGivenNames n1; first | (have p : Sys := n1; clear p; subst n1) | (have p : Et := n1; clear p; subst n1) | (have p : Hm := n1; clear p; subst n1) | (have p : Opt := n1; clear p; subst n1) | (have p : Xg := n1; clear p; subst n1) | (have p : Sns := n1; clear p; subst n1) | (have p : Ev := n1; clear p; subst n1) | clear_value n1)
    | (with_reducible refine Keeps.foldl (fun t x h => ?_) ?_)
    | (with_reducible refine Keeps.foldl2 (fun t x h => ?_) ?_)
    | (with_reducible refine Keeps.foldl1 (fun t x h => ?_) ?_)
    | with_reducible apply Keeps.emit_keeps
    | with_reducible apply Keeps.flushBefore_keeps
    | with_reducible apply Keeps.modFormer_keeps
    | (simp -zeta only [Keeps.mark]; with_reducible refine KeepsLit.intro rfl ?_ ?_ ?_)
    | (with_reducible refine Keeps.ite ?_ ?_)
    | split

theorem Keeps.closeRun_keeps {gs : List Group} (hg : [.reg, .et, .xg, .ev] ⊆ gs) {o0 s : State} (h0 : Keeps gs o0 s) (r : RegionNo) : Keeps gs o0 (State.closeRun s r) := by
  unfold State.closeRun
  repeat' first
    | with_reducible assumption
    | with_reducible exact List.Subset.trans (by decide) hg
    | with_reducible exact Regular.keep rfl
    | (intro g hgn; cases g <;> first | exact (Keeps.out hg (by decide) hgn).elim | with_reducible rfl)
    | (extract_lets +onlyGivenNames s1; refine Keeps.have_ (gs := gs) (o := o0) (t := s1) ?_ (fun h => ?_); (on_goal 1 => subst s1); (on_goal 2 => try clear_value s1))
    | (extract_lets +onlyGivenNames n1; first | (have p : Sys := n1; clear p; subst n1) | (have p : Et := n1; clear p; subst n1) | (have p : Hm := n1; clear p; subst n1) | (have p : Opt := n1; clear p; subst n1) | (have p : Xg := n1; clear p; subst n1) | (have p : Sns := n1; clear p; subst n1) | (have p : Ev := n1; clear p; subst n1) | clear_value n1)
    | (with_reducible refine Keeps.foldl (fun t x h => ?_) ?_)
    | with_reducible apply Keeps.emitStretch_keeps
    | with_reducible apply Keeps.flushMark_keeps
    | with_reducible apply Keeps.modFormer_keeps
    | (simp -zeta only [Keeps.mark]; with_reducible refine KeepsLit.intro rfl ?_ ?_ ?_)
    | (with_reducible refine Keeps.ite ?_ ?_)
    | split

theorem Keeps.closeWide_keeps {gs : List Group} (hg : [.reg, .xg] ⊆ gs) {o0 s : State} (h0 : Keeps gs o0 s) (r : RegionNo) (next : Nat) : Keeps gs o0 (State.closeWide s r next) := by
  unfold State.closeWide
  repeat' first
    | with_reducible assumption
    | with_reducible exact List.Subset.trans (by decide) hg
    | with_reducible exact Regular.keep rfl
    | (intro g hgn; cases g <;> first | exact (Keeps.out hg (by decide) hgn).elim | with_reducible rfl)
    | (extract_lets +onlyGivenNames s1; refine Keeps.have_ (gs := gs) (o := o0) (t := s1) ?_ (fun h => ?_); (on_goal 1 => subst s1); (on_goal 2 => try clear_value s1))
    | (extract_lets +onlyGivenNames n1; first | (have p : Sys := n1; clear p; subst n1) | (have p : Et := n1; clear p; subst n1) | (have p : Hm := n1; clear p; subst n1) | (have p : Opt := n1; clear p; subst n1) | (have p : Xg := n1; clear p; subst n1) | (have p : Sns := n1; clear p; subst n1) | (have p : Ev := n1; clear p; subst n1) | clear_value n1)
    | (with_reducible refine Keeps.foldl (fun t x h => ?_) ?_)
    | with_reducible apply Keeps.emit_keeps
    | with_reducible apply Keeps.flushMark_keeps
    | with_reducible apply Keeps.flushTarget_keeps
    | with_reducible apply Keeps.modFormer_keeps
    | (simp -zeta only [Keeps.mark]; with_reducible refine KeepsLit.intro rfl ?_ ?_ ?_)
    | (with_reducible refine Keeps.ite ?_ ?_)
    | split

theorem Keeps.mark_keeps {gs : List Group} (hg : [.reg, .et, .xg, .ev] ⊆ gs) {o0 s : State} (h0 : Keeps gs o0 s) (r : RegionNo) (kind : Nat) (aux : Nat) (cycle : Nat) (value : Nat) : Keeps gs o0 (State.mark s r kind aux cycle value) := by
  unfold State.mark
  repeat' first
    | with_reducible assumption
    | with_reducible exact List.Subset.trans (by decide) hg
    | with_reducible exact Regular.keep rfl
    | (intro g hgn; cases g <;> first | exact (Keeps.out hg (by decide) hgn).elim | with_reducible rfl)
    | (extract_lets +onlyGivenNames s1; refine Keeps.have_ (gs := gs) (o := o0) (t := s1) ?_ (fun h => ?_); (on_goal 1 => subst s1); (on_goal 2 => try clear_value s1))
    | (extract_lets +onlyGivenNames n1; first | (have p : Sys := n1; clear p; subst n1) | (have p : Et := n1; clear p; subst n1) | (have p : Hm := n1; clear p; subst n1) | (have p : Opt := n1; clear p; subst n1) | (have p : Xg := n1; clear p; subst n1) | (have p : Sns := n1; clear p; subst n1) | (have p : Ev := n1; clear p; subst n1) | clear_value n1)
    | (with_reducible refine Keeps.foldl (fun t x h => ?_) ?_)
    | with_reducible apply Keeps.closeRun_keeps
    | with_reducible apply Keeps.closeWide_keeps
    | with_reducible apply Keeps.emit_keeps
    | with_reducible apply Keeps.flushBefore_keeps
    | (simp -zeta only [Keeps.mark]; with_reducible refine KeepsLit.intro rfl ?_ ?_ ?_)
    | split

theorem Keeps.markTarget_keeps {gs : List Group} (hg : [.reg, .et, .xg, .ev] ⊆ gs) {o0 s : State} (h0 : Keeps gs o0 s) (r : RegionNo) (aux : Nat) (cycle : Nat) (value : Nat) : Keeps gs o0 (State.markTarget s r aux cycle value) := by
  unfold State.markTarget
  repeat' first
    | with_reducible assumption
    | with_reducible exact List.Subset.trans (by decide) hg
    | exact fun h => { h with ring := (by dsimp only; exact Map.put_wf _ _ h.ring) }
    | with_reducible exact Regular.keep rfl
    | (intro g hgn; cases g <;> first | exact (Keeps.out hg (by decide) hgn).elim | with_reducible rfl)
    | (extract_lets +onlyGivenNames s1; refine Keeps.have_ (gs := gs) (o := o0) (t := s1) ?_ (fun h => ?_); (on_goal 1 => subst s1); (on_goal 2 => try clear_value s1))
    | (extract_lets +onlyGivenNames n1; first | (have p : Sys := n1; clear p; subst n1) | (have p : Et := n1; clear p; subst n1) | (have p : Hm := n1; clear p; subst n1) | (have p : Opt := n1; clear p; subst n1) | (have p : Xg := n1; clear p; subst n1) | (have p : Sns := n1; clear p; subst n1) | (have p : Ev := n1; clear p; subst n1) | clear_value n1)
    | (with_reducible refine Keeps.foldl (fun t x h => ?_) ?_)
    | with_reducible apply Keeps.closeRun_keeps
    | with_reducible apply Keeps.closeWide_keeps
    | with_reducible apply Keeps.flushBefore_keeps
    | with_reducible apply Keeps.modFormer_keeps
    | (simp -zeta only [Keeps.mark]; with_reducible refine KeepsLit.intro rfl ?_ ?_ ?_)
    | (with_reducible refine Keeps.ite ?_ ?_)
    | split

theorem Keeps.markBase_keeps {gs : List Group} (hg : [.reg, .et, .xg, .ev] ⊆ gs) {o0 s : State} (h0 : Keeps gs o0 s) (r : RegionNo) (cycle : Nat) (value : Nat) (target : Nat) : Keeps gs o0 (State.markBase s r cycle value target) := by
  unfold State.markBase
  repeat' first
    | with_reducible assumption
    | with_reducible exact List.Subset.trans (by decide) hg
    | exact fun h => { h with ring := (by dsimp only; exact Map.put_wf _ _ h.ring) }
    | with_reducible exact Regular.keep rfl
    | (intro g hgn; cases g <;> first | exact (Keeps.out hg (by decide) hgn).elim | with_reducible rfl)
    | (extract_lets +onlyGivenNames s1; refine Keeps.have_ (gs := gs) (o := o0) (t := s1) ?_ (fun h => ?_); (on_goal 1 => subst s1); (on_goal 2 => try clear_value s1))
    | (extract_lets +onlyGivenNames n1; first | (have p : Sys := n1; clear p; subst n1) | (have p : Et := n1; clear p; subst n1) | (have p : Hm := n1; clear p; subst n1) | (have p : Opt := n1; clear p; subst n1) | (have p : Xg := n1; clear p; subst n1) | (have p : Sns := n1; clear p; subst n1) | (have p : Ev := n1; clear p; subst n1) | clear_value n1)
    | (with_reducible refine Keeps.foldl (fun t x h => ?_) ?_)
    | with_reducible apply Keeps.mark_keeps
    | with_reducible apply Keeps.markTarget_keeps
    | (simp -zeta only [Keeps.mark]; with_reducible refine KeepsLit.intro rfl ?_ ?_ ?_)
    | split

theorem Keeps.formPeriod_keeps {gs : List Group} (hg : [.reg, .et, .xg, .ev] ⊆ gs) {o0 s : State} (h0 : Keeps gs o0 s) (r : RegionNo) (cycle : Nat) (v : Nat) : Keeps gs o0 (State.formPeriod s r cycle v) := by
  unfold State.formPeriod
  repeat' first
    | with_reducible assumption
    | with_reducible exact List.Subset.trans (by decide) hg
    | with_reducible exact Regular.keep rfl
    | (intro g hgn; cases g <;> first | exact (Keeps.out hg (by decide) hgn).elim | with_reducible rfl)
    | (extract_lets +onlyGivenNames s1; refine Keeps.have_ (gs := gs) (o := o0) (t := s1) ?_ (fun h => ?_); (on_goal 1 => subst s1); (on_goal 2 => try clear_value s1))
    | (extract_lets +onlyGivenNames n1; first | (have p : Sys := n1; clear p; subst n1) | (have p : Et := n1; clear p; subst n1) | (have p : Hm := n1; clear p; subst n1) | (have p : Opt := n1; clear p; subst n1) | (have p : Xg := n1; clear p; subst n1) | (have p : Sns := n1; clear p; subst n1) | (have p : Ev := n1; clear p; subst n1) | clear_value n1)
    | (with_reducible refine Keeps.foldl (fun t x h => ?_) ?_)
    | with_reducible apply Keeps.closeRun_keeps
    | with_reducible apply Keeps.emitStretch_keeps
    | with_reducible apply Keeps.flushTarget_keeps
    | with_reducible apply Keeps.modFormer_keeps
    | (simp -zeta only [Keeps.mark]; with_reducible refine KeepsLit.intro rfl ?_ ?_ ?_)
    | (with_reducible refine Keeps.ite ?_ ?_)
    | split

theorem Keeps.formBoundary_keeps {gs : List Group} (hg : [.reg, .et, .xg, .ev] ⊆ gs) {o0 s : State} (h0 : Keeps gs o0 s) (r : RegionNo) : Keeps gs o0 (State.formBoundary s r) := by
  unfold State.formBoundary
  repeat' first
    | with_reducible assumption
    | with_reducible exact List.Subset.trans (by decide) hg
    | with_reducible exact Regular.keep rfl
    | (intro g hgn; cases g <;> first | exact (Keeps.out hg (by decide) hgn).elim | with_reducible rfl)
    | (extract_lets +onlyGivenNames s1; refine Keeps.have_ (gs := gs) (o := o0) (t := s1) ?_ (fun h => ?_); (on_goal 1 => subst s1); (on_goal 2 => try clear_value s1))
    | (extract_lets +onlyGivenNames n1; first | (have p : Sys := n1; clear p; subst n1) | (have p : Et := n1; clear p; subst n1) | (have p : Hm := n1; clear p; subst n1) | (have p : Opt := n1; clear p; subst n1) | (have p : Xg := n1; clear p; subst n1) | (have p : Sns := n1; clear p; subst n1) | (have p : Ev := n1; clear p; subst n1) | clear_value n1)
    | (with_reducible refine Keeps.foldl (fun t x h => ?_) ?_)
    | with_reducible apply Keeps.closeRun_keeps
    | with_reducible apply Keeps.closeWide_keeps
    | with_reducible apply Keeps.modFormer_keeps
    | (simp -zeta only [Keeps.mark]; with_reducible refine KeepsLit.intro rfl ?_ ?_ ?_)
    | split

theorem Keeps.freeAnchor_keeps {gs : List Group} (hg : [.reg, .et] ⊆ gs) {o0 s : State} (h0 : Keeps gs o0 s) (i : Nat) : Keeps gs o0 (State.freeAnchor s i) := by
  unfold State.freeAnchor
  repeat' first
    | with_reducible assumption
    | with_reducible exact List.Subset.trans (by decide) hg
    | with_reducible exact Regular.keep rfl
    | (intro g hgn; cases g <;> first | exact (Keeps.out hg (by decide) hgn).elim | with_reducible rfl)
    | (extract_lets +onlyGivenNames s1; refine Keeps.have_ (gs := gs) (o := o0) (t := s1) ?_ (fun h => ?_); (on_goal 1 => subst s1); (on_goal 2 => try clear_value s1))
    | (extract_lets +onlyGivenNames n1; first | (have p : Sys := n1; clear p; subst n1) | (have p : Et := n1; clear p; subst n1) | (have p : Hm := n1; clear p; subst n1) | (have p : Opt := n1; clear p; subst n1) | (have p : Xg := n1; clear p; subst n1) | (have p : Sns := n1; clear p; subst n1) | (have p : Ev := n1; clear p; subst n1) | clear_value n1)
    | (with_reducible refine Keeps.foldl (fun t x h => ?_) ?_)
    | with_reducible apply Keeps.modAnchor_keeps
    | with_reducible apply Keeps.modRgn_keeps
    | (simp -zeta only [Keeps.mark]; with_reducible refine KeepsLit.intro rfl ?_ ?_ ?_)
    | split

theorem Keeps.breakAnchor_keeps {gs : List Group} (hg : [.mbx, .reg, .et, .ev] ⊆ gs) {o0 s : State} (h0 : Keeps gs o0 s) (i : Nat) : Keeps gs o0 (State.breakAnchor s i) := by
  unfold State.breakAnchor
  repeat' first
    | with_reducible assumption
    | with_reducible exact List.Subset.trans (by decide) hg
    | with_reducible exact Regular.keep rfl
    | (intro g hgn; cases g <;> first | exact (Keeps.out hg (by decide) hgn).elim | with_reducible rfl)
    | (extract_lets +onlyGivenNames f1; (first | (refine Keeps.fun1 f1 ?_) | (refine Keeps.fun2 f1 ?_) | (refine Keeps.fun3 f1 ?_) | (refine KeepsRes.fun1 f1 ?_)); subst f1; beta_reduce)
    | (extract_lets +onlyGivenNames s1; refine Keeps.have_ (gs := gs) (o := o0) (t := s1) ?_ (fun h => ?_); (on_goal 1 => subst s1); (on_goal 2 => try clear_value s1))
    | (extract_lets +onlyGivenNames n1; first | (have p : Sys := n1; clear p; subst n1) | (have p : Et := n1; clear p; subst n1) | (have p : Hm := n1; clear p; subst n1) | (have p : Opt := n1; clear p; subst n1) | (have p : Xg := n1; clear p; subst n1) | (have p : Sns := n1; clear p; subst n1) | (have p : Ev := n1; clear p; subst n1) | clear_value n1)
    | (with_reducible refine Keeps.foldl (fun t x h => ?_) ?_)
    | with_reducible apply Keeps.complete_keeps
    | with_reducible apply Keeps.freeAnchor_keeps
    | with_reducible apply Keeps.raiseIf_keeps
    | (simp -zeta only [Keeps.mark]; with_reducible refine KeepsLit.intro rfl ?_ ?_ ?_)
    | (with_reducible refine Keeps.ite ?_ ?_)
    | split

theorem Keeps.breakAnchors_keeps {gs : List Group} (hg : [.mbx, .reg, .et, .ev] ⊆ gs) {o0 s : State} (h0 : Keeps gs o0 s) (p : RegionNo → Bool) : Keeps gs o0 (State.breakAnchors s p) := by
  unfold State.breakAnchors
  repeat' first
    | with_reducible assumption
    | with_reducible exact List.Subset.trans (by decide) hg
    | with_reducible exact Regular.keep rfl
    | (intro g hgn; cases g <;> first | exact (Keeps.out hg (by decide) hgn).elim | with_reducible rfl)
    | (extract_lets +onlyGivenNames s1; refine Keeps.have_ (gs := gs) (o := o0) (t := s1) ?_ (fun h => ?_); (on_goal 1 => subst s1); (on_goal 2 => try clear_value s1))
    | (extract_lets +onlyGivenNames n1; first | (have p : Sys := n1; clear p; subst n1) | (have p : Et := n1; clear p; subst n1) | (have p : Hm := n1; clear p; subst n1) | (have p : Opt := n1; clear p; subst n1) | (have p : Xg := n1; clear p; subst n1) | (have p : Sns := n1; clear p; subst n1) | (have p : Ev := n1; clear p; subst n1) | clear_value n1)
    | (with_reducible refine Keeps.foldl (fun t x h => ?_) ?_)
    | (with_reducible refine Keeps.foldl2 (fun t x h => ?_) ?_)
    | (with_reducible refine Keeps.foldl1 (fun t x h => ?_) ?_)
    | with_reducible apply Keeps.breakAnchor_keeps
    | (simp -zeta only [Keeps.mark]; with_reducible refine KeepsLit.intro rfl ?_ ?_ ?_)
    | split

theorem Keeps.putRegionSet_keeps {gs : List Group} (hg : [.cal] ⊆ gs) {o0 s : State} (h0 : Keeps gs o0 s) (r : RegionNo) (c : CalSet) : Keeps gs o0 (State.putRegionSet s r c) := by
  unfold State.putRegionSet
  repeat' first
    | with_reducible assumption
    | with_reducible exact List.Subset.trans (by decide) hg
    | with_reducible exact Regular.keep rfl
    | (intro g hgn; cases g <;> first | exact (Keeps.out hg (by decide) hgn).elim | with_reducible rfl)
    | (extract_lets +onlyGivenNames s1; refine Keeps.have_ (gs := gs) (o := o0) (t := s1) ?_ (fun h => ?_); (on_goal 1 => subst s1); (on_goal 2 => try clear_value s1))
    | (extract_lets +onlyGivenNames n1; first | (have p : Sys := n1; clear p; subst n1) | (have p : Et := n1; clear p; subst n1) | (have p : Hm := n1; clear p; subst n1) | (have p : Opt := n1; clear p; subst n1) | (have p : Xg := n1; clear p; subst n1) | (have p : Sns := n1; clear p; subst n1) | (have p : Ev := n1; clear p; subst n1) | clear_value n1)
    | (with_reducible refine Keeps.foldl (fun t x h => ?_) ?_)
    | (simp -zeta only [Keeps.mark]; with_reducible refine KeepsLit.intro rfl ?_ ?_ ?_)
    | split

theorem Keeps.putSpareSet_keeps {gs : List Group} (hg : [.cal] ⊆ gs) {o0 s : State} (h0 : Keeps gs o0 s) (d : Nat) (c : CalSet) : Keeps gs o0 (State.putSpareSet s d c) := by
  unfold State.putSpareSet
  repeat' first
    | with_reducible assumption
    | with_reducible exact List.Subset.trans (by decide) hg
    | with_reducible exact Regular.keep rfl
    | (intro g hgn; cases g <;> first | exact (Keeps.out hg (by decide) hgn).elim | with_reducible rfl)
    | (extract_lets +onlyGivenNames s1; refine Keeps.have_ (gs := gs) (o := o0) (t := s1) ?_ (fun h => ?_); (on_goal 1 => subst s1); (on_goal 2 => try clear_value s1))
    | (extract_lets +onlyGivenNames n1; first | (have p : Sys := n1; clear p; subst n1) | (have p : Et := n1; clear p; subst n1) | (have p : Hm := n1; clear p; subst n1) | (have p : Opt := n1; clear p; subst n1) | (have p : Xg := n1; clear p; subst n1) | (have p : Sns := n1; clear p; subst n1) | (have p : Ev := n1; clear p; subst n1) | clear_value n1)
    | (with_reducible refine Keeps.foldl (fun t x h => ?_) ?_)
    | (simp -zeta only [Keeps.mark]; with_reducible refine KeepsLit.intro rfl ?_ ?_ ?_)
    | split

theorem Keeps.putSetFor_keeps {gs : List Group} (hg : [.cal] ⊆ gs) {o0 s : State} (h0 : Keeps gs o0 s) (r : RegionNo) (c : CalSet) : Keeps gs o0 (State.putSetFor s r c) := by
  unfold State.putSetFor
  repeat' first
    | with_reducible assumption
    | with_reducible exact List.Subset.trans (by decide) hg
    | with_reducible exact Regular.keep rfl
    | (intro g hgn; cases g <;> first | exact (Keeps.out hg (by decide) hgn).elim | with_reducible rfl)
    | (extract_lets +onlyGivenNames s1; refine Keeps.have_ (gs := gs) (o := o0) (t := s1) ?_ (fun h => ?_); (on_goal 1 => subst s1); (on_goal 2 => try clear_value s1))
    | (extract_lets +onlyGivenNames n1; first | (have p : Sys := n1; clear p; subst n1) | (have p : Et := n1; clear p; subst n1) | (have p : Hm := n1; clear p; subst n1) | (have p : Opt := n1; clear p; subst n1) | (have p : Xg := n1; clear p; subst n1) | (have p : Sns := n1; clear p; subst n1) | (have p : Ev := n1; clear p; subst n1) | clear_value n1)
    | (with_reducible refine Keeps.foldl (fun t x h => ?_) ?_)
    | with_reducible apply Keeps.putRegionSet_keeps
    | with_reducible apply Keeps.putSpareSet_keeps
    | (simp -zeta only [Keeps.mark]; with_reducible refine KeepsLit.intro rfl ?_ ?_ ?_)
    | (with_reducible refine Keeps.ite ?_ ?_)
    | split

theorem Keeps.deliverSet_keeps {gs : List Group} (hg : [.reg] ⊆ gs) {o0 s : State} (h0 : Keeps gs o0 s) (r : RegionNo) (t : Int) : Keeps gs o0 (State.deliverSet s r t) := by
  unfold State.deliverSet
  repeat' first
    | with_reducible assumption
    | with_reducible exact List.Subset.trans (by decide) hg
    | with_reducible exact Regular.keep rfl
    | (intro g hgn; cases g <;> first | exact (Keeps.out hg (by decide) hgn).elim | with_reducible rfl)
    | (extract_lets +onlyGivenNames s1; refine Keeps.have_ (gs := gs) (o := o0) (t := s1) ?_ (fun h => ?_); (on_goal 1 => subst s1); (on_goal 2 => try clear_value s1))
    | (extract_lets +onlyGivenNames n1; first | (have p : Sys := n1; clear p; subst n1) | (have p : Et := n1; clear p; subst n1) | (have p : Hm := n1; clear p; subst n1) | (have p : Opt := n1; clear p; subst n1) | (have p : Xg := n1; clear p; subst n1) | (have p : Sns := n1; clear p; subst n1) | (have p : Ev := n1; clear p; subst n1) | clear_value n1)
    | (with_reducible refine Keeps.foldl (fun t x h => ?_) ?_)
    | with_reducible apply Keeps.modRgn_keeps
    | (simp -zeta only [Keeps.mark]; with_reducible refine KeepsLit.intro rfl ?_ ?_ ?_)
    | split

theorem Keeps.takeMsg_keeps {gs : List Group} (hg : [.reg] ⊆ gs) {o0 s : State} (h0 : Keeps gs o0 s) (r : RegionNo) : Keeps gs o0 (State.takeMsg s r) := by
  unfold State.takeMsg
  repeat' first
    | with_reducible assumption
    | with_reducible exact List.Subset.trans (by decide) hg
    | with_reducible exact Regular.keep rfl
    | (intro g hgn; cases g <;> first | exact (Keeps.out hg (by decide) hgn).elim | with_reducible rfl)
    | (extract_lets +onlyGivenNames s1; refine Keeps.have_ (gs := gs) (o := o0) (t := s1) ?_ (fun h => ?_); (on_goal 1 => subst s1); (on_goal 2 => try clear_value s1))
    | (extract_lets +onlyGivenNames n1; first | (have p : Sys := n1; clear p; subst n1) | (have p : Et := n1; clear p; subst n1) | (have p : Hm := n1; clear p; subst n1) | (have p : Opt := n1; clear p; subst n1) | (have p : Xg := n1; clear p; subst n1) | (have p : Sns := n1; clear p; subst n1) | (have p : Ev := n1; clear p; subst n1) | clear_value n1)
    | (with_reducible refine Keeps.foldl (fun t x h => ?_) ?_)
    | with_reducible apply Keeps.modRgn_keeps
    | with_reducible apply Keeps.pump_keeps
    | (simp -zeta only [Keeps.mark]; with_reducible refine KeepsLit.intro rfl ?_ ?_ ?_)
    | split

theorem Keeps.workingSet_keeps {gs : List Group} (hg : [.reg] ⊆ gs) {o0 s : State} (h0 : Keeps gs o0 s) (r : RegionNo) : Keeps gs o0 (State.workingSet s r) := by
  unfold State.workingSet
  repeat' first
    | with_reducible assumption
    | with_reducible exact List.Subset.trans (by decide) hg
    | with_reducible exact Regular.keep rfl
    | (intro g hgn; cases g <;> first | exact (Keeps.out hg (by decide) hgn).elim | with_reducible rfl)
    | (extract_lets +onlyGivenNames s1; refine Keeps.have_ (gs := gs) (o := o0) (t := s1) ?_ (fun h => ?_); (on_goal 1 => subst s1); (on_goal 2 => try clear_value s1))
    | (extract_lets +onlyGivenNames n1; first | (have p : Sys := n1; clear p; subst n1) | (have p : Et := n1; clear p; subst n1) | (have p : Hm := n1; clear p; subst n1) | (have p : Opt := n1; clear p; subst n1) | (have p : Xg := n1; clear p; subst n1) | (have p : Sns := n1; clear p; subst n1) | (have p : Ev := n1; clear p; subst n1) | clear_value n1)
    | (with_reducible refine Keeps.foldl (fun t x h => ?_) ?_)
    | with_reducible apply Keeps.modRgn_keeps
    | with_reducible apply Keeps.sendMsg_keeps
    | (simp -zeta only [Keeps.mark]; with_reducible refine KeepsLit.intro rfl ?_ ?_ ?_)
    | (with_reducible refine Keeps.ite ?_ ?_)
    | split

theorem Keeps.calQueue_keeps {gs : List Group} (hg : [.cal] ⊆ gs) {o0 s : State} (h0 : Keeps gs o0 s) : Keeps gs o0 (State.calQueue s) := by
  unfold State.calQueue
  repeat' first
    | with_reducible assumption
    | with_reducible exact List.Subset.trans (by decide) hg
    | with_reducible exact Regular.keep rfl
    | (intro g hgn; cases g <;> first | exact (Keeps.out hg (by decide) hgn).elim | with_reducible rfl)
    | (extract_lets +onlyGivenNames s1; refine Keeps.have_ (gs := gs) (o := o0) (t := s1) ?_ (fun h => ?_); (on_goal 1 => subst s1); (on_goal 2 => try clear_value s1))
    | (extract_lets +onlyGivenNames n1; first | (have p : Sys := n1; clear p; subst n1) | (have p : Et := n1; clear p; subst n1) | (have p : Hm := n1; clear p; subst n1) | (have p : Opt := n1; clear p; subst n1) | (have p : Xg := n1; clear p; subst n1) | (have p : Sns := n1; clear p; subst n1) | (have p : Ev := n1; clear p; subst n1) | clear_value n1)
    | (with_reducible refine Keeps.foldl (fun t x h => ?_) ?_)
    | (simp -zeta only [Keeps.mark]; with_reducible refine KeepsLit.intro rfl ?_ ?_ ?_)
    | split

theorem Keeps.calSync_keeps {gs : List Group} (hg : [.reg, .cal] ⊆ gs) {o0 s : State} (h0 : Keeps gs o0 s) (r : RegionNo) : Keeps gs o0 (State.calSync s r) := by
  unfold State.calSync
  repeat' first
    | with_reducible assumption
    | with_reducible exact List.Subset.trans (by decide) hg
    | with_reducible exact Regular.keep rfl
    | (intro g hgn; cases g <;> first | exact (Keeps.out hg (by decide) hgn).elim | with_reducible rfl)
    | (extract_lets +onlyGivenNames f1; (first | (refine Keeps.fun1 f1 ?_) | (refine Keeps.fun2 f1 ?_) | (refine Keeps.fun3 f1 ?_) | (refine KeepsRes.fun1 f1 ?_)); subst f1; beta_reduce)
    | (extract_lets +onlyGivenNames s1; refine Keeps.have_ (gs := gs) (o := o0) (t := s1) ?_ (fun h => ?_); (on_goal 1 => subst s1); (on_goal 2 => try clear_value s1))
    | (extract_lets +onlyGivenNames n1; first | (have p : Sys := n1; clear p; subst n1) | (have p : Et := n1; clear p; subst n1) | (have p : Hm := n1; clear p; subst n1) | (have p : Opt := n1; clear p; subst n1) | (have p : Xg := n1; clear p; subst n1) | (have p : Sns := n1; clear p; subst n1) | (have p : Ev := n1; clear p; subst n1) | clear_value n1)
    | (with_reducible refine Keeps.foldl (fun t x h => ?_) ?_)
    | with_reducible apply Keeps.modRgn_keeps
    | (simp -zeta only [Keeps.mark]; with_reducible refine KeepsLit.intro rfl ?_ ?_ ?_)
    | (with_reducible refine Keeps.ite ?_ ?_)
    | split

theorem Keeps.calOpEnd_keeps {gs : List Group} (hg : [.mbx] ⊆ gs) {o0 s : State} (h0 : Keeps gs o0 s) (i : Nat) : Keeps gs o0 (State.calOpEnd s i) := by
  unfold State.calOpEnd
  repeat' first
    | with_reducible assumption
    | with_reducible exact List.Subset.trans (by decide) hg
    | with_reducible exact Regular.keep rfl
    | (intro g hgn; cases g <;> first | exact (Keeps.out hg (by decide) hgn).elim | with_reducible rfl)
    | (extract_lets +onlyGivenNames s1; refine Keeps.have_ (gs := gs) (o := o0) (t := s1) ?_ (fun h => ?_); (on_goal 1 => subst s1); (on_goal 2 => try clear_value s1))
    | (extract_lets +onlyGivenNames n1; first | (have p : Sys := n1; clear p; subst n1) | (have p : Et := n1; clear p; subst n1) | (have p : Hm := n1; clear p; subst n1) | (have p : Opt := n1; clear p; subst n1) | (have p : Xg := n1; clear p; subst n1) | (have p : Sns := n1; clear p; subst n1) | (have p : Ev := n1; clear p; subst n1) | clear_value n1)
    | (with_reducible refine Keeps.foldl (fun t x h => ?_) ?_)
    | with_reducible apply Keeps.finishOp_keeps
    | with_reducible apply Keeps.modOp_keeps
    | (simp -zeta only [Keeps.mark]; with_reducible refine KeepsLit.intro rfl ?_ ?_ ?_)
    | (with_reducible refine Keeps.ite ?_ ?_)
    | split

theorem Keeps.calCount_keeps {gs : List Group} (hg : [.mbx] ⊆ gs) {o0 s : State} (h0 : Keeps gs o0 s) (r : RegionNo) (e : CalEnd) : Keeps gs o0 (State.calCount s r e) := by
  unfold State.calCount
  repeat' first
    | with_reducible assumption
    | with_reducible exact List.Subset.trans (by decide) hg
    | with_reducible exact Regular.keep rfl
    | (intro g hgn; cases g <;> first | exact (Keeps.out hg (by decide) hgn).elim | with_reducible rfl)
    | (extract_lets +onlyGivenNames s1; refine Keeps.have_ (gs := gs) (o := o0) (t := s1) ?_ (fun h => ?_); (on_goal 1 => subst s1); (on_goal 2 => try clear_value s1))
    | (extract_lets +onlyGivenNames n1; first | (have p : Sys := n1; clear p; subst n1) | (have p : Et := n1; clear p; subst n1) | (have p : Hm := n1; clear p; subst n1) | (have p : Opt := n1; clear p; subst n1) | (have p : Xg := n1; clear p; subst n1) | (have p : Sns := n1; clear p; subst n1) | (have p : Ev := n1; clear p; subst n1) | clear_value n1)
    | (with_reducible refine Keeps.foldl (fun t x h => ?_) ?_)
    | with_reducible apply Keeps.calOpEnd_keeps
    | with_reducible apply Keeps.modOp_keeps
    | (simp -zeta only [Keeps.mark]; with_reducible refine KeepsLit.intro rfl ?_ ?_ ?_)
    | (with_reducible refine Keeps.ite ?_ ?_)
    | split

theorem Keeps.calLeave_keeps {gs : List Group} (hg : [.mbx, .reg, .cal] ⊆ gs) {o0 s : State} (h0 : Keeps gs o0 s) (r : RegionNo) (e : CalEnd) : Keeps gs o0 (State.calLeave s r e) := by
  unfold State.calLeave
  repeat' first
    | with_reducible assumption
    | with_reducible exact List.Subset.trans (by decide) hg
    | with_reducible exact Regular.keep rfl
    | (intro g hgn; cases g <;> first | exact (Keeps.out hg (by decide) hgn).elim | with_reducible rfl)
    | (extract_lets +onlyGivenNames s1; refine Keeps.have_ (gs := gs) (o := o0) (t := s1) ?_ (fun h => ?_); (on_goal 1 => subst s1); (on_goal 2 => try clear_value s1))
    | (extract_lets +onlyGivenNames n1; first | (have p : Sys := n1; clear p; subst n1) | (have p : Et := n1; clear p; subst n1) | (have p : Hm := n1; clear p; subst n1) | (have p : Opt := n1; clear p; subst n1) | (have p : Xg := n1; clear p; subst n1) | (have p : Sns := n1; clear p; subst n1) | (have p : Ev := n1; clear p; subst n1) | clear_value n1)
    | (with_reducible refine Keeps.foldl (fun t x h => ?_) ?_)
    | with_reducible apply Keeps.calCount_keeps
    | with_reducible apply Keeps.calQueue_keeps
    | with_reducible apply Keeps.calSync_keeps
    | with_reducible apply Keeps.modRgn_keeps
    | (simp -zeta only [Keeps.mark]; with_reducible refine KeepsLit.intro rfl ?_ ?_ ?_)
    | (with_reducible refine Keeps.ite ?_ ?_)
    | split

theorem Keeps.calPause_keeps {gs : List Group} (hg : [.reg, .cal] ⊆ gs) {o0 s : State} (h0 : Keeps gs o0 s) (r : RegionNo) : Keeps gs o0 (State.calPause s r) := by
  unfold State.calPause
  repeat' first
    | with_reducible assumption
    | with_reducible exact List.Subset.trans (by decide) hg
    | with_reducible exact Regular.keep rfl
    | (intro g hgn; cases g <;> first | exact (Keeps.out hg (by decide) hgn).elim | with_reducible rfl)
    | (extract_lets +onlyGivenNames s1; refine Keeps.have_ (gs := gs) (o := o0) (t := s1) ?_ (fun h => ?_); (on_goal 1 => subst s1); (on_goal 2 => try clear_value s1))
    | (extract_lets +onlyGivenNames n1; first | (have p : Sys := n1; clear p; subst n1) | (have p : Et := n1; clear p; subst n1) | (have p : Hm := n1; clear p; subst n1) | (have p : Opt := n1; clear p; subst n1) | (have p : Xg := n1; clear p; subst n1) | (have p : Sns := n1; clear p; subst n1) | (have p : Ev := n1; clear p; subst n1) | clear_value n1)
    | (with_reducible refine Keeps.foldl (fun t x h => ?_) ?_)
    | with_reducible apply Keeps.calSync_keeps
    | with_reducible apply Keeps.modRgn_keeps
    | (simp -zeta only [Keeps.mark]; with_reducible refine KeepsLit.intro rfl ?_ ?_ ?_)
    | split

theorem Keeps.calGapOn_keeps {gs : List Group} (hg : [.mbx, .reg, .cal] ⊆ gs) {o0 s : State} (h0 : Keeps gs o0 s) (r : RegionNo) : Keeps gs o0 (State.calGapOn s r) := by
  unfold State.calGapOn
  repeat' first
    | with_reducible assumption
    | with_reducible exact List.Subset.trans (by decide) hg
    | with_reducible exact Regular.keep rfl
    | (intro g hgn; cases g <;> first | exact (Keeps.out hg (by decide) hgn).elim | with_reducible rfl)
    | (extract_lets +onlyGivenNames s1; refine Keeps.have_ (gs := gs) (o := o0) (t := s1) ?_ (fun h => ?_); (on_goal 1 => subst s1); (on_goal 2 => try clear_value s1))
    | (extract_lets +onlyGivenNames n1; first | (have p : Sys := n1; clear p; subst n1) | (have p : Et := n1; clear p; subst n1) | (have p : Hm := n1; clear p; subst n1) | (have p : Opt := n1; clear p; subst n1) | (have p : Xg := n1; clear p; subst n1) | (have p : Sns := n1; clear p; subst n1) | (have p : Ev := n1; clear p; subst n1) | clear_value n1)
    | (with_reducible refine Keeps.foldl (fun t x h => ?_) ?_)
    | with_reducible apply Keeps.calLeave_keeps
    | with_reducible apply Keeps.modRgn_keeps
    | (simp -zeta only [Keeps.mark]; with_reducible refine KeepsLit.intro rfl ?_ ?_ ?_)
    | (with_reducible refine Keeps.ite ?_ ?_)
    | split

end Sys2Proof.Safety
end

