-- ==== Sys2Proof/Laws/KeepsRegion.lean ====
section
/-! SUPPORT. What each operation can change, and that it keeps the state regular: the regions, their windows and the insertions. -/
namespace Sys2Proof.Safety
open Sys2Proof.Machine

set_option linter.unreachableTactic false
set_option linter.unusedTactic false

theorem Keeps.setTarget_keeps {gs : List Group} (hg : [.reg, .et, .xg, .ev] ⊆ gs) {o0 s : State} (h0 : Keeps gs o0 s) (r : RegionNo) (aux : Nat) (oldTg : Nat) (oldN : Nat) (trim : Int) : Keeps gs o0 (State.setTarget s r aux oldTg oldN trim) := by
  unfold State.setTarget
  repeat' first
    | with_reducible assumption
    | with_reducible exact List.Subset.trans (by decide) hg
    | with_reducible exact Regular.keep rfl
    | (intro g hgn; cases g <;> first | exact (Keeps.out hg (by decide) hgn).elim | with_reducible rfl)
    | (extract_lets +onlyGivenNames s1; refine Keeps.have_ (gs := gs) (o := o0) (t := s1) ?_ (fun h => ?_); (on_goal 1 => subst s1); (on_goal 2 => try clear_value s1))
    | (extract_lets +onlyGivenNames n1; first | (have p : Sys := n1; clear p; subst n1) | (have p : Et := n1; clear p; subst n1) | (have p : Hm := n1; clear p; subst n1) | (have p : Opt := n1; clear p; subst n1) | (have p : Xg := n1; clear p; subst n1) | (have p : Sns := n1; clear p; subst n1) | (have p : Ev := n1; clear p; subst n1) | clear_value n1)
    | (with_reducible refine Keeps.foldl (fun t x h => ?_) ?_)
    | with_reducible apply Keeps.markTarget_keeps
    | with_reducible apply Keeps.modRgn_keeps
    | (simp -zeta only [Keeps.mark]; with_reducible refine KeepsLit.intro rfl ?_ ?_ ?_)
    | (with_reducible refine Keeps.ite ?_ ?_)
    | split

theorem Keeps.remargin_keeps {gs : List Group} (hg : [.reg, .et, .xg, .ev] ⊆ gs) {o0 s : State} (h0 : Keeps gs o0 s) (r : RegionNo) (aux : Nat) : Keeps gs o0 (State.remargin s r aux) := by
  unfold State.remargin
  repeat' first
    | with_reducible assumption
    | with_reducible exact List.Subset.trans (by decide) hg
    | with_reducible exact Regular.keep rfl
    | (intro g hgn; cases g <;> first | exact (Keeps.out hg (by decide) hgn).elim | with_reducible rfl)
    | (extract_lets +onlyGivenNames s1; refine Keeps.have_ (gs := gs) (o := o0) (t := s1) ?_ (fun h => ?_); (on_goal 1 => subst s1); (on_goal 2 => try clear_value s1))
    | (extract_lets +onlyGivenNames n1; first | (have p : Sys := n1; clear p; subst n1) | (have p : Et := n1; clear p; subst n1) | (have p : Hm := n1; clear p; subst n1) | (have p : Opt := n1; clear p; subst n1) | (have p : Xg := n1; clear p; subst n1) | (have p : Sns := n1; clear p; subst n1) | (have p : Ev := n1; clear p; subst n1) | clear_value n1)
    | (with_reducible refine Keeps.foldl (fun t x h => ?_) ?_)
    | with_reducible apply Keeps.markTarget_keeps
    | with_reducible apply Keeps.modRgn_keeps
    | with_reducible apply Keeps.sendTarget_keeps
    | (simp -zeta only [Keeps.mark]; with_reducible refine KeepsLit.intro rfl ?_ ?_ ?_)
    | (with_reducible refine Keeps.ite ?_ ?_)
    | split

theorem Keeps.budgetCheck_keeps {gs : List Group} (hg : [.reg, .ev] ⊆ gs) {o0 s : State} (h0 : Keeps gs o0 s) (r : RegionNo) (cycle : Nat) : Keeps gs o0 (State.budgetCheck s r cycle) := by
  unfold State.budgetCheck
  repeat' first
    | with_reducible assumption
    | with_reducible exact List.Subset.trans (by decide) hg
    | with_reducible exact Regular.keep rfl
    | (intro g hgn; cases g <;> first | exact (Keeps.out hg (by decide) hgn).elim | with_reducible rfl)
    | (extract_lets +onlyGivenNames s1; refine Keeps.have_ (gs := gs) (o := o0) (t := s1) ?_ (fun h => ?_); (on_goal 1 => subst s1); (on_goal 2 => try clear_value s1))
    | (extract_lets +onlyGivenNames n1; first | (have p : Sys := n1; clear p; subst n1) | (have p : Et := n1; clear p; subst n1) | (have p : Hm := n1; clear p; subst n1) | (have p : Opt := n1; clear p; subst n1) | (have p : Xg := n1; clear p; subst n1) | (have p : Sns := n1; clear p; subst n1) | (have p : Ev := n1; clear p; subst n1) | clear_value n1)
    | (with_reducible refine Keeps.foldl (fun t x h => ?_) ?_)
    | with_reducible apply Keeps.modFormer_keeps
    | with_reducible apply Keeps.modRgn_keeps
    | with_reducible apply Keeps.raise_keeps
    | (simp -zeta only [Keeps.mark]; with_reducible refine KeepsLit.intro rfl ?_ ?_ ?_)
    | (with_reducible refine Keeps.ite ?_ ?_)
    | split

theorem Keeps.overrange_keeps {gs : List Group} (hg : [.reg, .ev] ⊆ gs) {o0 s : State} (h0 : Keeps gs o0 s) (r : RegionNo) (ahead : Bool) : Keeps gs o0 (State.overrange s r ahead) := by
  unfold State.overrange
  repeat' first
    | with_reducible assumption
    | with_reducible exact List.Subset.trans (by decide) hg
    | with_reducible exact Regular.keep rfl
    | (intro g hgn; cases g <;> first | exact (Keeps.out hg (by decide) hgn).elim | with_reducible rfl)
    | (extract_lets +onlyGivenNames s1; refine Keeps.have_ (gs := gs) (o := o0) (t := s1) ?_ (fun h => ?_); (on_goal 1 => subst s1); (on_goal 2 => try clear_value s1))
    | (extract_lets +onlyGivenNames n1; first | (have p : Sys := n1; clear p; subst n1) | (have p : Et := n1; clear p; subst n1) | (have p : Hm := n1; clear p; subst n1) | (have p : Opt := n1; clear p; subst n1) | (have p : Xg := n1; clear p; subst n1) | (have p : Sns := n1; clear p; subst n1) | (have p : Ev := n1; clear p; subst n1) | clear_value n1)
    | (with_reducible refine Keeps.foldl (fun t x h => ?_) ?_)
    | with_reducible apply Keeps.modRgn_keeps
    | with_reducible apply Keeps.raiseIf_keeps
    | (simp -zeta only [Keeps.mark]; with_reducible refine KeepsLit.intro rfl ?_ ?_ ?_)
    | (with_reducible refine Keeps.ite ?_ ?_)
    | split

theorem Keeps.calset_keeps {gs : List Group} (hg : [.reg] ⊆ gs) {o0 s : State} (h0 : Keeps gs o0 s) (r : RegionNo) : Keeps gs o0 (State.calset s r) := by
  unfold State.calset
  repeat' first
    | with_reducible assumption
    | with_reducible exact List.Subset.trans (by decide) hg
    | with_reducible exact Regular.keep rfl
    | (intro g hgn; cases g <;> first | exact (Keeps.out hg (by decide) hgn).elim | with_reducible rfl)
    | (extract_lets +onlyGivenNames s1; refine Keeps.have_ (gs := gs) (o := o0) (t := s1) ?_ (fun h => ?_); (on_goal 1 => subst s1); (on_goal 2 => try clear_value s1))
    | (extract_lets +onlyGivenNames n1; first | (have p : Sys := n1; clear p; subst n1) | (have p : Et := n1; clear p; subst n1) | (have p : Hm := n1; clear p; subst n1) | (have p : Opt := n1; clear p; subst n1) | (have p : Xg := n1; clear p; subst n1) | (have p : Sns := n1; clear p; subst n1) | (have p : Ev := n1; clear p; subst n1) | clear_value n1)
    | (with_reducible refine Keeps.foldl (fun t x h => ?_) ?_)
    | with_reducible apply Keeps.workingSet_keeps
    | (simp -zeta only [Keeps.mark]; with_reducible refine KeepsLit.intro rfl ?_ ?_ ?_)
    | (with_reducible refine Keeps.ite ?_ ?_)
    | split

theorem Keeps.setLoop_keeps {gs : List Group} (hg : [.reg, .xg] ⊆ gs) {o0 s : State} (h0 : Keeps gs o0 s) (r : RegionNo) (f : StretchLoop → StretchLoop) : Keeps gs o0 (State.setLoop s r f) := by
  unfold State.setLoop
  repeat' first
    | with_reducible assumption
    | with_reducible exact List.Subset.trans (by decide) hg
    | with_reducible exact Regular.keep rfl
    | (intro g hgn; cases g <;> first | exact (Keeps.out hg (by decide) hgn).elim | with_reducible rfl)
    | (extract_lets +onlyGivenNames s1; refine Keeps.have_ (gs := gs) (o := o0) (t := s1) ?_ (fun h => ?_); (on_goal 1 => subst s1); (on_goal 2 => try clear_value s1))
    | (extract_lets +onlyGivenNames n1; first | (have p : Sys := n1; clear p; subst n1) | (have p : Et := n1; clear p; subst n1) | (have p : Hm := n1; clear p; subst n1) | (have p : Opt := n1; clear p; subst n1) | (have p : Xg := n1; clear p; subst n1) | (have p : Sns := n1; clear p; subst n1) | (have p : Ev := n1; clear p; subst n1) | clear_value n1)
    | (with_reducible refine Keeps.foldl (fun t x h => ?_) ?_)
    | with_reducible apply Keeps.modRgn_keeps
    | with_reducible apply Keeps.sendStretch_keeps
    | (simp -zeta only [Keeps.mark]; with_reducible refine KeepsLit.intro rfl ?_ ?_ ?_)
    | (with_reducible refine Keeps.ite ?_ ?_)
    | split

theorem Keeps.fixedChange_keeps {gs : List Group} (hg : [.reg, .et, .xg, .ev] ⊆ gs) {o0 s : State} (h0 : Keeps gs o0 s) (r : RegionNo) (enter : Bool) : Keeps gs o0 (State.fixedChange s r enter) := by
  unfold State.fixedChange
  repeat' first
    | with_reducible assumption
    | with_reducible exact List.Subset.trans (by decide) hg
    | with_reducible exact Regular.keep rfl
    | (intro g hgn; cases g <;> first | exact (Keeps.out hg (by decide) hgn).elim | with_reducible rfl)
    | (extract_lets +onlyGivenNames s1; refine Keeps.have_ (gs := gs) (o := o0) (t := s1) ?_ (fun h => ?_); (on_goal 1 => subst s1); (on_goal 2 => try clear_value s1))
    | (extract_lets +onlyGivenNames n1; first | (have p : Sys := n1; clear p; subst n1) | (have p : Et := n1; clear p; subst n1) | (have p : Hm := n1; clear p; subst n1) | (have p : Opt := n1; clear p; subst n1) | (have p : Xg := n1; clear p; subst n1) | (have p : Sns := n1; clear p; subst n1) | (have p : Ev := n1; clear p; subst n1) | clear_value n1)
    | (with_reducible refine Keeps.foldl (fun t x h => ?_) ?_)
    | with_reducible apply Keeps.remargin_keeps
    | with_reducible apply Keeps.setLoop_keeps
    | (simp -zeta only [Keeps.mark]; with_reducible refine KeepsLit.intro rfl ?_ ?_ ?_)
    | (with_reducible refine Keeps.ite ?_ ?_)
    | split

theorem Keeps.execStretchLoopStep_keeps {gs : List Group} (hg : [.reg, .et, .xg, .ev] ⊆ gs) {o0 s : State} (h0 : Keeps gs o0 s) (r : RegionNo) : KeepsOut gs o0 (execStretchLoopStep r s) := by
  unfold execStretchLoopStep
  repeat' first
    | with_reducible assumption
    | with_reducible exact List.Subset.trans (by decide) hg
    | with_reducible exact Regular.keep rfl
    | (intro g hgn; cases g <;> first | exact (Keeps.out hg (by decide) hgn).elim | with_reducible rfl)
    | (extract_lets +onlyGivenNames s1; refine Keeps.have_ (gs := gs) (o := o0) (t := s1) ?_ (fun h => ?_); (on_goal 1 => subst s1); (on_goal 2 => try clear_value s1))
    | (extract_lets +onlyGivenNames n1; first | (have p : Sys := n1; clear p; subst n1) | (have p : Et := n1; clear p; subst n1) | (have p : Hm := n1; clear p; subst n1) | (have p : Opt := n1; clear p; subst n1) | (have p : Xg := n1; clear p; subst n1) | (have p : Sns := n1; clear p; subst n1) | (have p : Ev := n1; clear p; subst n1) | clear_value n1)
    | (with_reducible refine Keeps.foldl (fun t x h => ?_) ?_)
    | (with_reducible refine KeepsOut.next ?_)
    | with_reducible apply Keeps.fixedChange_keeps
    | with_reducible apply Keeps.setLoop_keeps
    | (simp -zeta only [Keeps.mark]; with_reducible refine KeepsLit.intro rfl ?_ ?_ ?_)
    | (with_reducible refine Keeps.ite ?_ ?_)
    | split

theorem Keeps.execStretchNoticeReceive_keeps {gs : List Group} (hg : [.reg, .xg] ⊆ gs) {o0 s : State} (h0 : Keeps gs o0 s) (r : RegionNo) (k : Fin 4) :
    KeepsOut gs o0 (execStretchNoticeReceive r k s) := by
  unfold execStretchNoticeReceive
  split
  · exact KeepsOut.next h0
  · have h1 := Keeps.modLane_keeps (gs := gs) (List.Subset.trans (by decide) hg) h0 r k fun l => { l with sNote := none }
    dsimp only
    split
    · exact KeepsOut.next h1
    · exact KeepsOut.next (Keeps.modRgn_keeps (List.Subset.trans (by decide) hg) h1 _ _)

theorem Keeps.sendCode_keeps {gs : List Group} (hg : [.reg] ⊆ gs) {o0 s : State} (h0 : Keeps gs o0 s) (r : RegionNo) (c : Nat) : Keeps gs o0 (State.sendCode s r c) := by
  unfold State.sendCode
  repeat' first
    | with_reducible assumption
    | with_reducible exact List.Subset.trans (by decide) hg
    | with_reducible exact Regular.keep rfl
    | (intro g hgn; cases g <;> first | exact (Keeps.out hg (by decide) hgn).elim | with_reducible rfl)
    | (extract_lets +onlyGivenNames s1; refine Keeps.have_ (gs := gs) (o := o0) (t := s1) ?_ (fun h => ?_); (on_goal 1 => subst s1); (on_goal 2 => try clear_value s1))
    | (extract_lets +onlyGivenNames n1; first | (have p : Sys := n1; clear p; subst n1) | (have p : Et := n1; clear p; subst n1) | (have p : Hm := n1; clear p; subst n1) | (have p : Opt := n1; clear p; subst n1) | (have p : Xg := n1; clear p; subst n1) | (have p : Sns := n1; clear p; subst n1) | (have p : Ev := n1; clear p; subst n1) | clear_value n1)
    | (with_reducible refine Keeps.foldl (fun t x h => ?_) ?_)
    | with_reducible apply Keeps.modRgn_keeps
    | with_reducible apply Keeps.pump_keeps
    | (simp -zeta only [Keeps.mark]; with_reducible refine KeepsLit.intro rfl ?_ ?_ ?_)
    | split

theorem Keeps.latchCodeAt_keeps {gs : List Group} (hg : [.reg] ⊆ gs) {o0 s : State} (h0 : Keeps gs o0 s) (r : RegionNo) (c : Nat) (at_ : Nat) : Keeps gs o0 (State.latchCodeAt s r c at_) := by
  unfold State.latchCodeAt
  repeat' first
    | with_reducible assumption
    | with_reducible exact List.Subset.trans (by decide) hg
    | with_reducible exact Regular.keep rfl
    | (intro g hgn; cases g <;> first | exact (Keeps.out hg (by decide) hgn).elim | with_reducible rfl)
    | (extract_lets +onlyGivenNames s1; refine Keeps.have_ (gs := gs) (o := o0) (t := s1) ?_ (fun h => ?_); (on_goal 1 => subst s1); (on_goal 2 => try clear_value s1))
    | (extract_lets +onlyGivenNames n1; first | (have p : Sys := n1; clear p; subst n1) | (have p : Et := n1; clear p; subst n1) | (have p : Hm := n1; clear p; subst n1) | (have p : Opt := n1; clear p; subst n1) | (have p : Xg := n1; clear p; subst n1) | (have p : Sns := n1; clear p; subst n1) | (have p : Ev := n1; clear p; subst n1) | clear_value n1)
    | (with_reducible refine Keeps.foldl (fun t x h => ?_) ?_)
    | with_reducible apply Keeps.modRgn_keeps
    | (simp -zeta only [Keeps.mark]; with_reducible refine KeepsLit.intro rfl ?_ ?_ ?_)
    | (with_reducible refine Keeps.ite ?_ ?_)
    | split

theorem Keeps.latchCode_keeps {gs : List Group} (hg : [.reg] ⊆ gs) {o0 s : State} (h0 : Keeps gs o0 s) (r : RegionNo) (c : Nat) : Keeps gs o0 (State.latchCode s r c) := by
  unfold State.latchCode
  repeat' first
    | with_reducible assumption
    | with_reducible exact List.Subset.trans (by decide) hg
    | with_reducible exact Regular.keep rfl
    | (intro g hgn; cases g <;> first | exact (Keeps.out hg (by decide) hgn).elim | with_reducible rfl)
    | (extract_lets +onlyGivenNames s1; refine Keeps.have_ (gs := gs) (o := o0) (t := s1) ?_ (fun h => ?_); (on_goal 1 => subst s1); (on_goal 2 => try clear_value s1))
    | (extract_lets +onlyGivenNames n1; first | (have p : Sys := n1; clear p; subst n1) | (have p : Et := n1; clear p; subst n1) | (have p : Hm := n1; clear p; subst n1) | (have p : Opt := n1; clear p; subst n1) | (have p : Xg := n1; clear p; subst n1) | (have p : Sns := n1; clear p; subst n1) | (have p : Ev := n1; clear p; subst n1) | clear_value n1)
    | (with_reducible refine Keeps.foldl (fun t x h => ?_) ?_)
    | with_reducible apply Keeps.latchCodeAt_keeps
    | (simp -zeta only [Keeps.mark]; with_reducible refine KeepsLit.intro rfl ?_ ?_ ?_)
    | split

theorem Keeps.periodLatched_keeps {gs : List Group} (hg : [.mbx] ⊆ gs) {o0 s : State} (h0 : Keeps gs o0 s) (r : RegionNo) (behind : Option Nat) : Keeps gs o0 (State.periodLatched s r behind) := by
  unfold State.periodLatched
  repeat' first
    | with_reducible assumption
    | with_reducible exact List.Subset.trans (by decide) hg
    | with_reducible exact Regular.keep rfl
    | (intro g hgn; cases g <;> first | exact (Keeps.out hg (by decide) hgn).elim | with_reducible rfl)
    | (extract_lets +onlyGivenNames s1; refine Keeps.have_ (gs := gs) (o := o0) (t := s1) ?_ (fun h => ?_); (on_goal 1 => subst s1); (on_goal 2 => try clear_value s1))
    | (extract_lets +onlyGivenNames n1; first | (have p : Sys := n1; clear p; subst n1) | (have p : Et := n1; clear p; subst n1) | (have p : Hm := n1; clear p; subst n1) | (have p : Opt := n1; clear p; subst n1) | (have p : Xg := n1; clear p; subst n1) | (have p : Sns := n1; clear p; subst n1) | (have p : Ev := n1; clear p; subst n1) | clear_value n1)
    | (with_reducible refine Keeps.foldl (fun t x h => ?_) ?_)
    | with_reducible apply Keeps.complete_keeps
    | with_reducible apply Keeps.modBox_keeps
    | (simp -zeta only [Keeps.mark]; with_reducible refine KeepsLit.intro rfl ?_ ?_ ?_)
    | (with_reducible refine Keeps.ite ?_ ?_)
    | split

theorem Keeps.unstop_keeps {gs : List Group} (hg : [.reg, .xg] ⊆ gs) {o0 s : State} (h0 : Keeps gs o0 s) (r : RegionNo) : Keeps gs o0 (State.unstop s r) := by
  unfold State.unstop
  repeat' first
    | with_reducible assumption
    | with_reducible exact List.Subset.trans (by decide) hg
    | with_reducible exact Regular.keep rfl
    | (intro g hgn; cases g <;> first | exact (Keeps.out hg (by decide) hgn).elim | with_reducible rfl)
    | (extract_lets +onlyGivenNames s1; refine Keeps.have_ (gs := gs) (o := o0) (t := s1) ?_ (fun h => ?_); (on_goal 1 => subst s1); (on_goal 2 => try clear_value s1))
    | (extract_lets +onlyGivenNames n1; first | (have p : Sys := n1; clear p; subst n1) | (have p : Et := n1; clear p; subst n1) | (have p : Hm := n1; clear p; subst n1) | (have p : Opt := n1; clear p; subst n1) | (have p : Xg := n1; clear p; subst n1) | (have p : Sns := n1; clear p; subst n1) | (have p : Ev := n1; clear p; subst n1) | clear_value n1)
    | (with_reducible refine Keeps.foldl (fun t x h => ?_) ?_)
    | with_reducible apply Keeps.modRgn_keeps
    | with_reducible apply Keeps.sendNote_keeps
    | (simp -zeta only [Keeps.mark]; with_reducible refine KeepsLit.intro rfl ?_ ?_ ?_)
    | (with_reducible refine Keeps.ite ?_ ?_)
    | split

theorem Keeps.execPeriodCodeLatch_keeps {gs : List Group} (hg : [.mbx, .reg, .xg] ⊆ gs) {o0 s : State} (h0 : Keeps gs o0 s) (r : RegionNo) : KeepsOut gs o0 (execPeriodCodeLatch r s) := by
  unfold execPeriodCodeLatch
  repeat' first
    | with_reducible assumption
    | with_reducible exact List.Subset.trans (by decide) hg
    | with_reducible exact Regular.keep rfl
    | (intro g hgn; cases g <;> first | exact (Keeps.out hg (by decide) hgn).elim | with_reducible rfl)
    | (extract_lets +onlyGivenNames s1; refine Keeps.have_ (gs := gs) (o := o0) (t := s1) ?_ (fun h => ?_); (on_goal 1 => subst s1); (on_goal 2 => try clear_value s1))
    | (extract_lets +onlyGivenNames n1; first | (have p : Sys := n1; clear p; subst n1) | (have p : Et := n1; clear p; subst n1) | (have p : Hm := n1; clear p; subst n1) | (have p : Opt := n1; clear p; subst n1) | (have p : Xg := n1; clear p; subst n1) | (have p : Sns := n1; clear p; subst n1) | (have p : Ev := n1; clear p; subst n1) | clear_value n1)
    | (with_reducible refine Keeps.foldl (fun t x h => ?_) ?_)
    | (with_reducible refine KeepsOut.next ?_)
    | with_reducible apply Keeps.latchCode_keeps
    | with_reducible apply Keeps.modRgn_keeps
    | with_reducible apply Keeps.periodLatched_keeps
    | with_reducible apply Keeps.pump_keeps
    | with_reducible apply Keeps.unstop_keeps
    | (simp -zeta only [Keeps.mark]; with_reducible refine KeepsLit.intro rfl ?_ ?_ ?_)
    | (with_reducible refine Keeps.ite ?_ ?_)
    | split

theorem Keeps.countChan_keeps {gs : List Group} (hg : [.reg] ⊆ gs) {o0 s : State} (h0 : Keeps gs o0 s) (r : RegionNo) (swap : Bool) : Keeps gs o0 (State.countChan s r swap) := by
  unfold State.countChan
  repeat' first
    | with_reducible assumption
    | with_reducible exact List.Subset.trans (by decide) hg
    | with_reducible exact Regular.keep rfl
    | (intro g hgn; cases g <;> first | exact (Keeps.out hg (by decide) hgn).elim | with_reducible rfl)
    | (extract_lets +onlyGivenNames s1; refine Keeps.have_ (gs := gs) (o := o0) (t := s1) ?_ (fun h => ?_); (on_goal 1 => subst s1); (on_goal 2 => try clear_value s1))
    | (extract_lets +onlyGivenNames n1; first | (have p : Sys := n1; clear p; subst n1) | (have p : Et := n1; clear p; subst n1) | (have p : Hm := n1; clear p; subst n1) | (have p : Opt := n1; clear p; subst n1) | (have p : Xg := n1; clear p; subst n1) | (have p : Sns := n1; clear p; subst n1) | (have p : Ev := n1; clear p; subst n1) | clear_value n1)
    | (with_reducible refine Keeps.foldl (fun t x h => ?_) ?_)
    | with_reducible apply Keeps.carry_keeps
    | with_reducible apply Keeps.modRgn_keeps
    | (simp -zeta only [Keeps.mark]; with_reducible refine KeepsLit.intro rfl ?_ ?_ ?_)
    | (with_reducible refine Keeps.ite ?_ ?_)
    | split

theorem Keeps.openStop_keeps {gs : List Group} (hg : [.reg, .et, .xg, .ev] ⊆ gs) {o0 s : State} (h0 : Keeps gs o0 s) (r : RegionNo) (kind : Nat) (code : Nat) (failed : Bool) : Keeps gs o0 (State.openStop s r kind code failed) := by
  unfold State.openStop
  repeat' first
    | with_reducible assumption
    | with_reducible exact List.Subset.trans (by decide) hg
    | with_reducible exact Regular.keep rfl
    | (intro g hgn; cases g <;> first | exact (Keeps.out hg (by decide) hgn).elim | with_reducible rfl)
    | (extract_lets +onlyGivenNames s1; refine Keeps.have_ (gs := gs) (o := o0) (t := s1) ?_ (fun h => ?_); (on_goal 1 => subst s1); (on_goal 2 => try clear_value s1))
    | (extract_lets +onlyGivenNames n1; first | (have p : Sys := n1; clear p; subst n1) | (have p : Et := n1; clear p; subst n1) | (have p : Hm := n1; clear p; subst n1) | (have p : Opt := n1; clear p; subst n1) | (have p : Xg := n1; clear p; subst n1) | (have p : Sns := n1; clear p; subst n1) | (have p : Ev := n1; clear p; subst n1) | clear_value n1)
    | (with_reducible refine Keeps.foldl (fun t x h => ?_) ?_)
    | with_reducible apply Keeps.mark_keeps
    | with_reducible apply Keeps.modRgn_keeps
    | (simp -zeta only [Keeps.mark]; with_reducible refine KeepsLit.intro rfl ?_ ?_ ?_)
    | (with_reducible refine Keeps.ite ?_ ?_)
    | split

theorem Keeps.execFreqStopBegin_keeps {gs : List Group} (hg : [.reg, .et, .xg, .ev] ⊆ gs) {o0 s : State} (h0 : Keeps gs o0 s) (r : RegionNo) : KeepsOut gs o0 (execFreqStopBegin r s) := by
  unfold execFreqStopBegin
  repeat' first
    | with_reducible assumption
    | with_reducible exact List.Subset.trans (by decide) hg
    | with_reducible exact Regular.keep rfl
    | (intro g hgn; cases g <;> first | exact (Keeps.out hg (by decide) hgn).elim | with_reducible rfl)
    | (extract_lets +onlyGivenNames s1; refine Keeps.have_ (gs := gs) (o := o0) (t := s1) ?_ (fun h => ?_); (on_goal 1 => subst s1); (on_goal 2 => try clear_value s1))
    | (extract_lets +onlyGivenNames n1; first | (have p : Sys := n1; clear p; subst n1) | (have p : Et := n1; clear p; subst n1) | (have p : Hm := n1; clear p; subst n1) | (have p : Opt := n1; clear p; subst n1) | (have p : Xg := n1; clear p; subst n1) | (have p : Sns := n1; clear p; subst n1) | (have p : Ev := n1; clear p; subst n1) | clear_value n1)
    | (with_reducible refine Keeps.foldl (fun t x h => ?_) ?_)
    | (with_reducible refine KeepsOut.next ?_)
    | with_reducible apply Keeps.modRgn_keeps
    | with_reducible apply Keeps.openStop_keeps
    | with_reducible apply Keeps.sendNote_keeps
    | (simp -zeta only [Keeps.mark]; with_reducible refine KeepsLit.intro rfl ?_ ?_ ?_)
    | (with_reducible refine Keeps.ite ?_ ?_)
    | split

theorem Keeps.restart_keeps {gs : List Group} (hg : [.reg, .et, .xg, .ev] ⊆ gs) {o0 s : State} (h0 : Keeps gs o0 s) (r : RegionNo) (st : Stop) (q : Nat) (vmin : Nat) : Keeps gs o0 (State.restart s r st q vmin) := by
  unfold State.restart
  repeat' first
    | with_reducible assumption
    | with_reducible exact List.Subset.trans (by decide) hg
    | with_reducible exact Regular.keep rfl
    | (intro g hgn; cases g <;> first | exact (Keeps.out hg (by decide) hgn).elim | with_reducible rfl)
    | (extract_lets +onlyGivenNames f1; (first | (refine Keeps.fun1 f1 ?_) | (refine Keeps.fun2 f1 ?_) | (refine Keeps.fun3 f1 ?_) | (refine KeepsRes.fun1 f1 ?_)); subst f1; beta_reduce)
    | (extract_lets +onlyGivenNames s1; refine Keeps.have_ (gs := gs) (o := o0) (t := s1) ?_ (fun h => ?_); (on_goal 1 => subst s1); (on_goal 2 => try clear_value s1))
    | (extract_lets +onlyGivenNames n1; first | (have p : Sys := n1; clear p; subst n1) | (have p : Et := n1; clear p; subst n1) | (have p : Hm := n1; clear p; subst n1) | (have p : Opt := n1; clear p; subst n1) | (have p : Xg := n1; clear p; subst n1) | (have p : Sns := n1; clear p; subst n1) | (have p : Ev := n1; clear p; subst n1) | clear_value n1)
    | (with_reducible refine Keeps.foldl (fun t x h => ?_) ?_)
    | with_reducible apply Keeps.mark_keeps
    | with_reducible apply Keeps.modRgn_keeps
    | with_reducible apply Keeps.relane_keeps
    | with_reducible apply Keeps.sendNote_keeps
    | with_reducible apply Keeps.sendStretch_keeps
    | with_reducible apply Keeps.setTarget_keeps
    | with_reducible apply Keeps.takeMsg_keeps
    | with_reducible apply Keeps.workingSet_keeps
    | (simp -zeta only [Keeps.mark]; with_reducible refine KeepsLit.intro rfl ?_ ?_ ?_)
    | (with_reducible refine Keeps.ite ?_ ?_)
    | split

theorem Keeps.execFreqStopRestart_keeps {gs : List Group} (hg : [.reg, .et, .xg, .ev] ⊆ gs) {o0 s : State} (h0 : Keeps gs o0 s) (r : RegionNo) (q : Nat) (vmin : Nat) : KeepsOut gs o0 (execFreqStopRestart r q vmin s) := by
  unfold execFreqStopRestart
  repeat' first
    | with_reducible assumption
    | with_reducible exact List.Subset.trans (by decide) hg
    | with_reducible exact Regular.keep rfl
    | (intro g hgn; cases g <;> first | exact (Keeps.out hg (by decide) hgn).elim | with_reducible rfl)
    | (extract_lets +onlyGivenNames s1; refine Keeps.have_ (gs := gs) (o := o0) (t := s1) ?_ (fun h => ?_); (on_goal 1 => subst s1); (on_goal 2 => try clear_value s1))
    | (extract_lets +onlyGivenNames n1; first | (have p : Sys := n1; clear p; subst n1) | (have p : Et := n1; clear p; subst n1) | (have p : Hm := n1; clear p; subst n1) | (have p : Opt := n1; clear p; subst n1) | (have p : Xg := n1; clear p; subst n1) | (have p : Sns := n1; clear p; subst n1) | (have p : Ev := n1; clear p; subst n1) | clear_value n1)
    | (with_reducible refine Keeps.foldl (fun t x h => ?_) ?_)
    | (with_reducible refine KeepsOut.next ?_)
    | with_reducible apply Keeps.modRgn_keeps
    | with_reducible apply Keeps.restart_keeps
    | (simp -zeta only [Keeps.mark]; with_reducible refine KeepsLit.intro rfl ?_ ?_ ?_)
    | (with_reducible refine Keeps.ite ?_ ?_)
    | split

theorem Keeps.execRetuneFail_keeps {gs : List Group} (hg : [.reg, .et, .xg, .ev] ⊆ gs) {o0 s : State} (h0 : Keeps gs o0 s) (r : RegionNo) : KeepsOut gs o0 (execRetuneFail r s) := by
  unfold execRetuneFail
  repeat' first
    | with_reducible assumption
    | with_reducible exact List.Subset.trans (by decide) hg
    | with_reducible exact Regular.keep rfl
    | (intro g hgn; cases g <;> first | exact (Keeps.out hg (by decide) hgn).elim | with_reducible rfl)
    | (extract_lets +onlyGivenNames s1; refine Keeps.have_ (gs := gs) (o := o0) (t := s1) ?_ (fun h => ?_); (on_goal 1 => subst s1); (on_goal 2 => try clear_value s1))
    | (extract_lets +onlyGivenNames n1; first | (have p : Sys := n1; clear p; subst n1) | (have p : Et := n1; clear p; subst n1) | (have p : Hm := n1; clear p; subst n1) | (have p : Opt := n1; clear p; subst n1) | (have p : Xg := n1; clear p; subst n1) | (have p : Sns := n1; clear p; subst n1) | (have p : Ev := n1; clear p; subst n1) | clear_value n1)
    | (with_reducible refine Keeps.foldl (fun t x h => ?_) ?_)
    | (with_reducible refine KeepsOut.next ?_)
    | with_reducible apply Keeps.modRgn_keeps
    | with_reducible apply Keeps.openStop_keeps
    | with_reducible apply Keeps.raise_keeps
    | (simp -zeta only [Keeps.mark]; with_reducible refine KeepsLit.intro rfl ?_ ?_ ?_)
    | (with_reducible refine Keeps.ite ?_ ?_)
    | split

theorem Keeps.execTwinReloadLocked_keeps {gs : List Group} (hg : [.mbx, .reg, .cal] ⊆ gs) {o0 s : State} (h0 : Keeps gs o0 s) (r : RegionNo) : KeepsOut gs o0 (execTwinReloadLocked r s) := by
  unfold execTwinReloadLocked
  repeat' first
    | with_reducible assumption
    | with_reducible exact List.Subset.trans (by decide) hg
    | with_reducible exact Regular.keep rfl
    | (intro g hgn; cases g <;> first | exact (Keeps.out hg (by decide) hgn).elim | with_reducible rfl)
    | (extract_lets +onlyGivenNames s1; refine Keeps.have_ (gs := gs) (o := o0) (t := s1) ?_ (fun h => ?_); (on_goal 1 => subst s1); (on_goal 2 => try clear_value s1))
    | (extract_lets +onlyGivenNames n1; first | (have p : Sys := n1; clear p; subst n1) | (have p : Et := n1; clear p; subst n1) | (have p : Hm := n1; clear p; subst n1) | (have p : Opt := n1; clear p; subst n1) | (have p : Xg := n1; clear p; subst n1) | (have p : Sns := n1; clear p; subst n1) | (have p : Ev := n1; clear p; subst n1) | clear_value n1)
    | (with_reducible refine Keeps.foldl (fun t x h => ?_) ?_)
    | (with_reducible refine KeepsOut.next ?_)
    | with_reducible apply Keeps.calLeave_keeps
    | with_reducible apply Keeps.modRgn_keeps
    | (simp -zeta only [Keeps.mark]; with_reducible refine KeepsLit.intro rfl ?_ ?_ ?_)
    | (with_reducible refine Keeps.ite ?_ ?_)
    | split

theorem Keeps.regionDie_keeps {gs : List Group} (hg : [.mbx, .reg, .et, .ls, .xg, .cal, .ev] ⊆ gs) {o0 s : State} (h0 : Keeps gs o0 s) (r : RegionNo) : Keeps gs o0 (State.regionDie s r) := by
  unfold State.regionDie
  repeat' first
    | with_reducible assumption
    | with_reducible exact List.Subset.trans (by decide) hg
    | with_reducible exact Regular.keep rfl
    | (intro g hgn; cases g <;> first | exact (Keeps.out hg (by decide) hgn).elim | with_reducible rfl)
    | (extract_lets +onlyGivenNames s1; refine Keeps.have_ (gs := gs) (o := o0) (t := s1) ?_ (fun h => ?_); (on_goal 1 => subst s1); (on_goal 2 => try clear_value s1))
    | (extract_lets +onlyGivenNames n1; first | (have p : Sys := n1; clear p; subst n1) | (have p : Et := n1; clear p; subst n1) | (have p : Hm := n1; clear p; subst n1) | (have p : Opt := n1; clear p; subst n1) | (have p : Xg := n1; clear p; subst n1) | (have p : Sns := n1; clear p; subst n1) | (have p : Ev := n1; clear p; subst n1) | clear_value n1)
    | (with_reducible refine Keeps.foldl (fun t x h => ?_) ?_)
    | with_reducible apply Keeps.calLeave_keeps
    | with_reducible apply Keeps.fenceAll_keeps
    | with_reducible apply Keeps.modRgn_keeps
    | with_reducible apply Keeps.openStop_keeps
    | with_reducible apply Keeps.raise_keeps
    | (simp -zeta only [Keeps.mark]; with_reducible refine KeepsLit.intro rfl ?_ ?_ ?_)
    | (with_reducible refine Keeps.ite ?_ ?_)
    | split

theorem Keeps.execChannelEdgeTimeout_keeps {gs : List Group} (hg : [.mbx, .reg, .et, .ls, .xg, .cal, .ev] ⊆ gs) {o0 s : State} (h0 : Keeps gs o0 s) (r : RegionNo) : KeepsOut gs o0 (execChannelEdgeTimeout r s) := by
  unfold execChannelEdgeTimeout
  repeat' first
    | with_reducible assumption
    | with_reducible exact List.Subset.trans (by decide) hg
    | with_reducible exact Regular.keep rfl
    | (intro g hgn; cases g <;> first | exact (Keeps.out hg (by decide) hgn).elim | with_reducible rfl)
    | (extract_lets +onlyGivenNames s1; refine Keeps.have_ (gs := gs) (o := o0) (t := s1) ?_ (fun h => ?_); (on_goal 1 => subst s1); (on_goal 2 => try clear_value s1))
    | (extract_lets +onlyGivenNames n1; first | (have p : Sys := n1; clear p; subst n1) | (have p : Et := n1; clear p; subst n1) | (have p : Hm := n1; clear p; subst n1) | (have p : Opt := n1; clear p; subst n1) | (have p : Xg := n1; clear p; subst n1) | (have p : Sns := n1; clear p; subst n1) | (have p : Ev := n1; clear p; subst n1) | clear_value n1)
    | (with_reducible refine Keeps.foldl (fun t x h => ?_) ?_)
    | (with_reducible refine KeepsOut.next ?_)
    | with_reducible apply Keeps.openStop_keeps
    | with_reducible apply Keeps.regionDie_keeps
    | (simp -zeta only [Keeps.mark]; with_reducible refine KeepsLit.intro rfl ?_ ?_ ?_)
    | (with_reducible refine Keeps.ite ?_ ?_)
    | split

theorem Keeps.execDirectTakeoverRestart_keeps {gs : List Group} (hg : [.mbx, .reg, .et, .xg, .cal, .ev] ⊆ gs) {o0 s : State} (h0 : Keeps gs o0 s) (r : RegionNo) (q : Nat) (vmin : Nat) : KeepsOut gs o0 (execDirectTakeoverRestart r q vmin s) := by
  unfold execDirectTakeoverRestart
  repeat' first
    | with_reducible assumption
    | with_reducible exact List.Subset.trans (by decide) hg
    | with_reducible exact Regular.keep rfl
    | (intro g hgn; cases g <;> first | exact (Keeps.out hg (by decide) hgn).elim | with_reducible rfl)
    | (extract_lets +onlyGivenNames s1; refine Keeps.have_ (gs := gs) (o := o0) (t := s1) ?_ (fun h => ?_); (on_goal 1 => subst s1); (on_goal 2 => try clear_value s1))
    | (extract_lets +onlyGivenNames n1; first | (have p : Sys := n1; clear p; subst n1) | (have p : Et := n1; clear p; subst n1) | (have p : Hm := n1; clear p; subst n1) | (have p : Opt := n1; clear p; subst n1) | (have p : Xg := n1; clear p; subst n1) | (have p : Sns := n1; clear p; subst n1) | (have p : Ev := n1; clear p; subst n1) | clear_value n1)
    | (with_reducible refine Keeps.foldl (fun t x h => ?_) ?_)
    | (with_reducible refine KeepsOut.next ?_)
    | with_reducible apply Keeps.calGapOn_keeps
    | with_reducible apply Keeps.countChan_keeps
    | with_reducible apply Keeps.modRgn_keeps
    | with_reducible apply Keeps.raise_keeps
    | with_reducible apply Keeps.restart_keeps
    | (simp -zeta only [Keeps.mark]; with_reducible refine KeepsLit.intro rfl ?_ ?_ ?_)
    | (with_reducible refine Keeps.ite ?_ ?_)
    | split

theorem Keeps.execRegionDead_keeps {gs : List Group} (hg : [.mbx, .reg, .et, .ls, .xg, .cal, .ev] ⊆ gs) {o0 s : State} (h0 : Keeps gs o0 s) (r : RegionNo) : KeepsOut gs o0 (execRegionDead r s) := by
  unfold execRegionDead
  repeat' first
    | with_reducible assumption
    | with_reducible exact List.Subset.trans (by decide) hg
    | with_reducible exact Regular.keep rfl
    | (intro g hgn; cases g <;> first | exact (Keeps.out hg (by decide) hgn).elim | with_reducible rfl)
    | (extract_lets +onlyGivenNames s1; refine Keeps.have_ (gs := gs) (o := o0) (t := s1) ?_ (fun h => ?_); (on_goal 1 => subst s1); (on_goal 2 => try clear_value s1))
    | (extract_lets +onlyGivenNames n1; first | (have p : Sys := n1; clear p; subst n1) | (have p : Et := n1; clear p; subst n1) | (have p : Hm := n1; clear p; subst n1) | (have p : Opt := n1; clear p; subst n1) | (have p : Xg := n1; clear p; subst n1) | (have p : Sns := n1; clear p; subst n1) | (have p : Ev := n1; clear p; subst n1) | clear_value n1)
    | (with_reducible refine Keeps.foldl (fun t x h => ?_) ?_)
    | (with_reducible refine KeepsOut.next ?_)
    | with_reducible apply Keeps.regionDie_keeps
    | (simp -zeta only [Keeps.mark]; with_reducible refine KeepsLit.intro rfl ?_ ?_ ?_)
    | (with_reducible refine Keeps.ite ?_ ?_)
    | split

theorem Keeps.calGapHalf_keeps {gs : List Group} (hg : [.reg] ⊆ gs) {o0 s : State} (h0 : Keeps gs o0 s) (r : RegionNo) : Keeps gs o0 (State.calGapHalf s r) := by
  unfold State.calGapHalf
  repeat' first
    | with_reducible assumption
    | with_reducible exact List.Subset.trans (by decide) hg
    | with_reducible exact Regular.keep rfl
    | (intro g hgn; cases g <;> first | exact (Keeps.out hg (by decide) hgn).elim | with_reducible rfl)
    | (extract_lets +onlyGivenNames s1; refine Keeps.have_ (gs := gs) (o := o0) (t := s1) ?_ (fun h => ?_); (on_goal 1 => subst s1); (on_goal 2 => try clear_value s1))
    | (extract_lets +onlyGivenNames n1; first | (have p : Sys := n1; clear p; subst n1) | (have p : Et := n1; clear p; subst n1) | (have p : Hm := n1; clear p; subst n1) | (have p : Opt := n1; clear p; subst n1) | (have p : Xg := n1; clear p; subst n1) | (have p : Sns := n1; clear p; subst n1) | (have p : Ev := n1; clear p; subst n1) | clear_value n1)
    | (with_reducible refine Keeps.foldl (fun t x h => ?_) ?_)
    | with_reducible apply Keeps.modRgn_keeps
    | (simp -zeta only [Keeps.mark]; with_reducible refine KeepsLit.intro rfl ?_ ?_ ?_)
    | (with_reducible refine Keeps.ite ?_ ?_)
    | split

theorem Keeps.execPlannedSwapRequest_keeps {gs : List Group} (hg : [.mbx, .reg, .cal] ⊆ gs) {o0 s : State} (h0 : Keeps gs o0 s) (r : RegionNo) (why : SwapWhy) : KeepsOut gs o0 (execPlannedSwapRequest r why s) := by
  unfold execPlannedSwapRequest
  repeat' first
    | with_reducible assumption
    | with_reducible exact List.Subset.trans (by decide) hg
    | with_reducible exact Regular.keep rfl
    | (intro g hgn; cases g <;> first | exact (Keeps.out hg (by decide) hgn).elim | with_reducible rfl)
    | (extract_lets +onlyGivenNames s1; refine Keeps.have_ (gs := gs) (o := o0) (t := s1) ?_ (fun h => ?_); (on_goal 1 => subst s1); (on_goal 2 => try clear_value s1))
    | (extract_lets +onlyGivenNames n1; first | (have p : Sys := n1; clear p; subst n1) | (have p : Et := n1; clear p; subst n1) | (have p : Hm := n1; clear p; subst n1) | (have p : Opt := n1; clear p; subst n1) | (have p : Xg := n1; clear p; subst n1) | (have p : Sns := n1; clear p; subst n1) | (have p : Ev := n1; clear p; subst n1) | clear_value n1)
    | (with_reducible refine Keeps.foldl (fun t x h => ?_) ?_)
    | (with_reducible refine KeepsOut.next ?_)
    | with_reducible apply Keeps.calGapHalf_keeps
    | with_reducible apply Keeps.calGapOn_keeps
    | with_reducible apply Keeps.modRgn_keeps
    | (simp -zeta only [Keeps.mark]; with_reducible refine KeepsLit.intro rfl ?_ ?_ ?_)
    | (with_reducible refine Keeps.ite ?_ ?_)
    | split

theorem Keeps.execSwapHandover_keeps {gs : List Group} (hg : [.reg, .cal, .ev] ⊆ gs) {o0 s : State} (h0 : Keeps gs o0 s) (r : RegionNo) : KeepsOut gs o0 (execSwapHandover r s) := by
  unfold execSwapHandover
  dsimp only
  repeat' first
    | with_reducible assumption
    | with_reducible exact List.Subset.trans (by decide) hg
    | with_reducible exact Regular.keep rfl
    | (intro g hgn; cases g <;> first | exact (Keeps.out hg (by decide) hgn).elim | with_reducible rfl)
    | (with_reducible refine Keeps.foldl (fun t x h => ?_) ?_)
    | (with_reducible refine KeepsOut.next ?_)
    | (with_reducible refine KeepsRes.done ?_)
    | (with_reducible refine KeepsRes.wait ?_)
    | (with_reducible refine KeepsRes.refuse ?_)
    | with_reducible apply Keeps.raise_keeps
    | with_reducible apply Keeps.raiseIf_keeps
    | with_reducible apply Keeps.modRgn_keeps
    | with_reducible apply Keeps.countChan_keeps
    | (with_reducible refine Keeps.ite ?_ ?_)
    | (simp -zeta only [Keeps.mark]; with_reducible refine KeepsLit.intro rfl ?_ ?_ ?_)
    | split

theorem Keeps.swapDrop_keeps {gs : List Group} (hg : [.reg] ⊆ gs) {o0 s : State} (h0 : Keeps gs o0 s) (r : RegionNo) : Keeps gs o0 (State.swapDrop s r) := by
  unfold State.swapDrop
  repeat' first
    | with_reducible assumption
    | with_reducible exact List.Subset.trans (by decide) hg
    | with_reducible exact Regular.keep rfl
    | (intro g hgn; cases g <;> first | exact (Keeps.out hg (by decide) hgn).elim | with_reducible rfl)
    | (extract_lets +onlyGivenNames s1; refine Keeps.have_ (gs := gs) (o := o0) (t := s1) ?_ (fun h => ?_); (on_goal 1 => subst s1); (on_goal 2 => try clear_value s1))
    | (extract_lets +onlyGivenNames n1; first | (have p : Sys := n1; clear p; subst n1) | (have p : Et := n1; clear p; subst n1) | (have p : Hm := n1; clear p; subst n1) | (have p : Opt := n1; clear p; subst n1) | (have p : Xg := n1; clear p; subst n1) | (have p : Sns := n1; clear p; subst n1) | (have p : Ev := n1; clear p; subst n1) | clear_value n1)
    | (with_reducible refine Keeps.foldl (fun t x h => ?_) ?_)
    | with_reducible apply Keeps.modRgn_keeps
    | (simp -zeta only [Keeps.mark]; with_reducible refine KeepsLit.intro rfl ?_ ?_ ?_)
    | (with_reducible refine Keeps.ite ?_ ?_)
    | split

theorem Keeps.execSwapWaitTimeout_keeps {gs : List Group} (hg : [.mbx, .reg, .cal] ⊆ gs) {o0 s : State} (h0 : Keeps gs o0 s) (r : RegionNo) : KeepsOut gs o0 (execSwapWaitTimeout r s) := by
  unfold execSwapWaitTimeout
  repeat' first
    | with_reducible assumption
    | with_reducible exact List.Subset.trans (by decide) hg
    | with_reducible exact Regular.keep rfl
    | (intro g hgn; cases g <;> first | exact (Keeps.out hg (by decide) hgn).elim | with_reducible rfl)
    | (extract_lets +onlyGivenNames s1; refine Keeps.have_ (gs := gs) (o := o0) (t := s1) ?_ (fun h => ?_); (on_goal 1 => subst s1); (on_goal 2 => try clear_value s1))
    | (extract_lets +onlyGivenNames n1; first | (have p : Sys := n1; clear p; subst n1) | (have p : Et := n1; clear p; subst n1) | (have p : Hm := n1; clear p; subst n1) | (have p : Opt := n1; clear p; subst n1) | (have p : Xg := n1; clear p; subst n1) | (have p : Sns := n1; clear p; subst n1) | (have p : Ev := n1; clear p; subst n1) | clear_value n1)
    | (with_reducible refine Keeps.foldl (fun t x h => ?_) ?_)
    | (with_reducible refine KeepsOut.next ?_)
    | with_reducible apply Keeps.calLeave_keeps
    | with_reducible apply Keeps.swapDrop_keeps
    | (simp -zeta only [Keeps.mark]; with_reducible refine KeepsLit.intro rfl ?_ ?_ ?_)
    | (with_reducible refine Keeps.ite ?_ ?_)
    | split

theorem Keeps.watchReadings_keeps {gs : List Group} (hg : [.reg] ⊆ gs) {o0 s : State} (h0 : Keeps gs o0 s) (r : RegionNo) (m : WinMeas) : Keeps gs o0 (State.watchReadings s r m) := by
  unfold State.watchReadings
  repeat' first
    | with_reducible assumption
    | with_reducible exact List.Subset.trans (by decide) hg
    | with_reducible exact Regular.keep rfl
    | (intro g hgn; cases g <;> first | exact (Keeps.out hg (by decide) hgn).elim | with_reducible rfl)
    | (extract_lets +onlyGivenNames f1; (first | (refine Keeps.fun1 f1 ?_) | (refine Keeps.fun2 f1 ?_) | (refine Keeps.fun3 f1 ?_) | (refine KeepsRes.fun1 f1 ?_)); subst f1; beta_reduce)
    | (extract_lets +onlyGivenNames s1; refine Keeps.have_ (gs := gs) (o := o0) (t := s1) ?_ (fun h => ?_); (on_goal 1 => subst s1); (on_goal 2 => try clear_value s1))
    | (extract_lets +onlyGivenNames n1; first | (have p : Sys := n1; clear p; subst n1) | (have p : Et := n1; clear p; subst n1) | (have p : Hm := n1; clear p; subst n1) | (have p : Opt := n1; clear p; subst n1) | (have p : Xg := n1; clear p; subst n1) | (have p : Sns := n1; clear p; subst n1) | (have p : Ev := n1; clear p; subst n1) | clear_value n1)
    | (with_reducible refine Keeps.foldl (fun t x h => ?_) ?_)
    | with_reducible apply Keeps.modRgn_keeps
    | (simp -zeta only [Keeps.mark]; with_reducible refine KeepsLit.intro rfl ?_ ?_ ?_)
    | split

theorem Keeps.closeWindow_keeps {gs : List Group} (hg : [.sys, .reg, .xg] ⊆ gs) {o0 s : State} (h0 : Keeps gs o0 s) (r : RegionNo) (m : WinMeas) : Keeps gs o0 (State.closeWindow s r m) := by
  unfold State.closeWindow
  repeat' first
    | with_reducible assumption
    | with_reducible exact List.Subset.trans (by decide) hg
    | with_reducible exact Regular.keep rfl
    | (intro g hgn; cases g <;> first | exact (Keeps.out hg (by decide) hgn).elim | with_reducible rfl)
    | (extract_lets +onlyGivenNames s1; refine Keeps.have_ (gs := gs) (o := o0) (t := s1) ?_ (fun h => ?_); (on_goal 1 => subst s1); (on_goal 2 => try clear_value s1))
    | (extract_lets +onlyGivenNames n1; first | (have p : Sys := n1; clear p; subst n1) | (have p : Et := n1; clear p; subst n1) | (have p : Hm := n1; clear p; subst n1) | (have p : Opt := n1; clear p; subst n1) | (have p : Xg := n1; clear p; subst n1) | (have p : Sns := n1; clear p; subst n1) | (have p : Ev := n1; clear p; subst n1) | clear_value n1)
    | (with_reducible refine Keeps.foldl (fun t x h => ?_) ?_)
    | with_reducible apply Keeps.modRgn_keeps
    | with_reducible apply Keeps.push_keeps
    | with_reducible apply Keeps.watchReadings_keeps
    | (simp -zeta only [Keeps.mark]; with_reducible refine KeepsLit.intro rfl ?_ ?_ ?_)
    | (with_reducible refine Keeps.ite ?_ ?_)
    | split

theorem Keeps.openWindow_keeps {gs : List Group} (hg : [.reg, .xg, .ev] ⊆ gs) {o0 s : State} (h0 : Keeps gs o0 s) (r : RegionNo) (w : Nat) : Keeps gs o0 (State.openWindow s r w) := by
  unfold State.openWindow
  repeat' first
    | with_reducible assumption
    | with_reducible exact List.Subset.trans (by decide) hg
    | with_reducible exact Regular.keep rfl
    | (intro g hgn; cases g <;> first | exact (Keeps.out hg (by decide) hgn).elim | with_reducible rfl)
    | (extract_lets +onlyGivenNames s1; refine Keeps.have_ (gs := gs) (o := o0) (t := s1) ?_ (fun h => ?_); (on_goal 1 => subst s1); (on_goal 2 => try clear_value s1))
    | (extract_lets +onlyGivenNames n1; first | (have p : Sys := n1; clear p; subst n1) | (have p : Et := n1; clear p; subst n1) | (have p : Hm := n1; clear p; subst n1) | (have p : Opt := n1; clear p; subst n1) | (have p : Xg := n1; clear p; subst n1) | (have p : Sns := n1; clear p; subst n1) | (have p : Ev := n1; clear p; subst n1) | clear_value n1)
    | (with_reducible refine Keeps.foldl (fun t x h => ?_) ?_)
    | with_reducible apply Keeps.budgetCheck_keeps
    | with_reducible apply Keeps.flushMark_keeps
    | with_reducible apply Keeps.modFormer_keeps
    | with_reducible apply Keeps.modRgn_keeps
    | (simp -zeta only [Keeps.mark]; with_reducible refine KeepsLit.intro rfl ?_ ?_ ?_)
    | (with_reducible refine Keeps.ite ?_ ?_)
    | split

theorem Keeps.freqBoundary_keeps {gs : List Group} (hg : [.reg, .ev] ⊆ gs) {o0 s : State} (h0 : Keeps gs o0 s) (r : RegionNo) (err : Int) (twin : Int) : Keeps gs o0 (State.freqBoundary s r err twin) := by
  unfold State.freqBoundary
  repeat' first
    | with_reducible assumption
    | with_reducible exact List.Subset.trans (by decide) hg
    | with_reducible exact Regular.keep rfl
    | (intro g hgn; cases g <;> first | exact (Keeps.out hg (by decide) hgn).elim | with_reducible rfl)
    | (extract_lets +onlyGivenNames s1; refine Keeps.have_ (gs := gs) (o := o0) (t := s1) ?_ (fun h => ?_); (on_goal 1 => subst s1); (on_goal 2 => try clear_value s1))
    | (extract_lets +onlyGivenNames n1; first | (have p : Sys := n1; clear p; subst n1) | (have p : Et := n1; clear p; subst n1) | (have p : Hm := n1; clear p; subst n1) | (have p : Opt := n1; clear p; subst n1) | (have p : Xg := n1; clear p; subst n1) | (have p : Sns := n1; clear p; subst n1) | (have p : Ev := n1; clear p; subst n1) | clear_value n1)
    | (with_reducible refine Keeps.foldl (fun t x h => ?_) ?_)
    | with_reducible apply Keeps.modRgn_keeps
    | with_reducible apply Keeps.raiseIf_keeps
    | (simp -zeta only [Keeps.mark]; with_reducible refine KeepsLit.intro rfl ?_ ?_ ?_)
    | (with_reducible refine Keeps.ite ?_ ?_)
    | split

theorem Keeps.trimBoundary_keeps {gs : List Group} (hg : [.reg, .et, .xg, .ev] ⊆ gs) {o0 s : State} (h0 : Keeps gs o0 s) (r : RegionNo) (w : Nat) : Keeps gs o0 (State.trimBoundary s r w) := by
  unfold State.trimBoundary
  repeat' first
    | with_reducible assumption
    | with_reducible exact List.Subset.trans (by decide) hg
    | with_reducible exact Regular.keep rfl
    | (intro g hgn; cases g <;> first | exact (Keeps.out hg (by decide) hgn).elim | with_reducible rfl)
    | (extract_lets +onlyGivenNames s1; refine Keeps.have_ (gs := gs) (o := o0) (t := s1) ?_ (fun h => ?_); (on_goal 1 => subst s1); (on_goal 2 => try clear_value s1))
    | (extract_lets +onlyGivenNames n1; first | (have p : Sys := n1; clear p; subst n1) | (have p : Et := n1; clear p; subst n1) | (have p : Hm := n1; clear p; subst n1) | (have p : Opt := n1; clear p; subst n1) | (have p : Xg := n1; clear p; subst n1) | (have p : Sns := n1; clear p; subst n1) | (have p : Ev := n1; clear p; subst n1) | clear_value n1)
    | (with_reducible refine Keeps.foldl (fun t x h => ?_) ?_)
    | with_reducible apply Keeps.modRgn_keeps
    | with_reducible apply Keeps.sendTarget_keeps
    | with_reducible apply Keeps.setTarget_keeps
    | (simp -zeta only [Keeps.mark]; with_reducible refine KeepsLit.intro rfl ?_ ?_ ?_)
    | (with_reducible refine Keeps.ite ?_ ?_)
    | split

theorem Keeps.saysTarget_keeps {gs : List Group} (hg : [.reg, .xg] ⊆ gs) {o0 s : State} (h0 : Keeps gs o0 s) (r : RegionNo) : Keeps gs o0 (State.saysTarget s r) := by
  unfold State.saysTarget
  repeat' first
    | with_reducible assumption
    | with_reducible exact List.Subset.trans (by decide) hg
    | with_reducible exact Regular.keep rfl
    | (intro g hgn; cases g <;> first | exact (Keeps.out hg (by decide) hgn).elim | with_reducible rfl)
    | (extract_lets +onlyGivenNames s1; refine Keeps.have_ (gs := gs) (o := o0) (t := s1) ?_ (fun h => ?_); (on_goal 1 => subst s1); (on_goal 2 => try clear_value s1))
    | (extract_lets +onlyGivenNames n1; first | (have p : Sys := n1; clear p; subst n1) | (have p : Et := n1; clear p; subst n1) | (have p : Hm := n1; clear p; subst n1) | (have p : Opt := n1; clear p; subst n1) | (have p : Xg := n1; clear p; subst n1) | (have p : Sns := n1; clear p; subst n1) | (have p : Ev := n1; clear p; subst n1) | clear_value n1)
    | (with_reducible refine Keeps.foldl (fun t x h => ?_) ?_)
    | with_reducible apply Keeps.modRgn_keeps
    | with_reducible apply Keeps.sendTarget_keeps
    | (simp -zeta only [Keeps.mark]; with_reducible refine KeepsLit.intro rfl ?_ ?_ ?_)
    | (with_reducible refine Keeps.ite ?_ ?_)
    | split

theorem Keeps.saysStop_keeps {gs : List Group} (hg : [.reg, .xg] ⊆ gs) {o0 s : State} (h0 : Keeps gs o0 s) (r : RegionNo) : Keeps gs o0 (State.saysStop s r) := by
  unfold State.saysStop
  repeat' first
    | with_reducible assumption
    | with_reducible exact List.Subset.trans (by decide) hg
    | with_reducible exact Regular.keep rfl
    | (intro g hgn; cases g <;> first | exact (Keeps.out hg (by decide) hgn).elim | with_reducible rfl)
    | (extract_lets +onlyGivenNames s1; refine Keeps.have_ (gs := gs) (o := o0) (t := s1) ?_ (fun h => ?_); (on_goal 1 => subst s1); (on_goal 2 => try clear_value s1))
    | (extract_lets +onlyGivenNames n1; first | (have p : Sys := n1; clear p; subst n1) | (have p : Et := n1; clear p; subst n1) | (have p : Hm := n1; clear p; subst n1) | (have p : Opt := n1; clear p; subst n1) | (have p : Xg := n1; clear p; subst n1) | (have p : Sns := n1; clear p; subst n1) | (have p : Ev := n1; clear p; subst n1) | clear_value n1)
    | (with_reducible refine Keeps.foldl (fun t x h => ?_) ?_)
    | with_reducible apply Keeps.modRgn_keeps
    | with_reducible apply Keeps.sendNote_keeps
    | (simp -zeta only [Keeps.mark]; with_reducible refine KeepsLit.intro rfl ?_ ?_ ?_)
    | (with_reducible refine Keeps.ite ?_ ?_)
    | split

theorem Keeps.execRegionPeriodEnd_keeps {gs : List Group} (hg : [.reg, .et, .xg, .ev] ⊆ gs) {o0 s : State} (h0 : Keeps gs o0 s) (r : RegionNo) (taps : Nat) (vmin : Nat) (offers : List (Option Nat) := []) : KeepsOut gs o0 (execRegionPeriodEnd r taps vmin s offers) := by
  unfold execRegionPeriodEnd
  repeat' first
    | with_reducible assumption
    | with_reducible exact List.Subset.trans (by decide) hg
    | with_reducible exact Regular.keep rfl
    | (intro g hgn; cases g <;> first | exact (Keeps.out hg (by decide) hgn).elim | with_reducible rfl)
    | (extract_lets +onlyGivenNames s1; refine Keeps.have_ (gs := gs) (o := o0) (t := s1) ?_ (fun h => ?_); (on_goal 1 => subst s1); (on_goal 2 => try clear_value s1))
    | (extract_lets +onlyGivenNames n1; first | (have p : Sys := n1; clear p; subst n1) | (have p : Et := n1; clear p; subst n1) | (have p : Hm := n1; clear p; subst n1) | (have p : Opt := n1; clear p; subst n1) | (have p : Xg := n1; clear p; subst n1) | (have p : Sns := n1; clear p; subst n1) | (have p : Ev := n1; clear p; subst n1) | clear_value n1)
    | (with_reducible refine Keeps.foldl (fun t x h => ?_) ?_)
    | (with_reducible refine KeepsOut.next ?_)
    | with_reducible apply Keeps.budgetCheck_keeps
    | with_reducible apply Keeps.calset_keeps
    | with_reducible apply Keeps.carry_keeps
    | with_reducible apply Keeps.flushMark_keeps
    | with_reducible apply Keeps.formPeriod_keeps
    | with_reducible apply Keeps.lanePeriod_keeps
    | with_reducible apply Keeps.modRgn_keeps
    | with_reducible apply Keeps.overrange_keeps
    | with_reducible apply Keeps.relane_keeps
    | with_reducible apply Keeps.remargin_keeps
    | with_reducible apply Keeps.saysStop_keeps
    | with_reducible apply Keeps.saysTarget_keeps
    | with_reducible apply Keeps.takeMsg_keeps
    | (simp -zeta only [Keeps.mark]; with_reducible refine KeepsLit.intro rfl ?_ ?_ ?_)
    | (with_reducible refine Keeps.ite ?_ ?_)
    | split

theorem Keeps.deadBoundary_keeps {gs : List Group} (hg : [.sys, .reg] ⊆ gs) {o0 s : State} (h0 : Keeps gs o0 s) (r : RegionNo) : Keeps gs o0 (State.deadBoundary s r) := by
  unfold State.deadBoundary
  repeat' first
    | with_reducible assumption
    | with_reducible exact List.Subset.trans (by decide) hg
    | with_reducible exact Regular.keep rfl
    | (intro g hgn; cases g <;> first | exact (Keeps.out hg (by decide) hgn).elim | with_reducible rfl)
    | (extract_lets +onlyGivenNames s1; refine Keeps.have_ (gs := gs) (o := o0) (t := s1) ?_ (fun h => ?_); (on_goal 1 => subst s1); (on_goal 2 => try clear_value s1))
    | (extract_lets +onlyGivenNames n1; first | (have p : Sys := n1; clear p; subst n1) | (have p : Et := n1; clear p; subst n1) | (have p : Hm := n1; clear p; subst n1) | (have p : Opt := n1; clear p; subst n1) | (have p : Xg := n1; clear p; subst n1) | (have p : Sns := n1; clear p; subst n1) | (have p : Ev := n1; clear p; subst n1) | clear_value n1)
    | (with_reducible refine Keeps.foldl (fun t x h => ?_) ?_)
    | with_reducible apply Keeps.modRgn_keeps
    | (simp -zeta only [Keeps.mark]; with_reducible refine KeepsLit.intro rfl ?_ ?_ ?_)
    | (with_reducible refine Keeps.ite ?_ ?_)
    | split

theorem Keeps.execRegionWindowBoundary_keeps {gs : List Group} (hg : [.sys, .reg, .et, .xg, .ev] ⊆ gs) {o0 s : State} (h0 : Keeps gs o0 s) (r : RegionNo) (m : WinMeas) : KeepsOut gs o0 (execRegionWindowBoundary r m s) := by
  unfold execRegionWindowBoundary
  repeat' first
    | with_reducible assumption
    | with_reducible exact List.Subset.trans (by decide) hg
    | with_reducible exact Regular.keep rfl
    | (intro g hgn; cases g <;> first | exact (Keeps.out hg (by decide) hgn).elim | with_reducible rfl)
    | (extract_lets +onlyGivenNames s1; refine Keeps.have_ (gs := gs) (o := o0) (t := s1) ?_ (fun h => ?_); (on_goal 1 => subst s1); (on_goal 2 => try clear_value s1))
    | (extract_lets +onlyGivenNames n1; first | (have p : Sys := n1; clear p; subst n1) | (have p : Et := n1; clear p; subst n1) | (have p : Hm := n1; clear p; subst n1) | (have p : Opt := n1; clear p; subst n1) | (have p : Xg := n1; clear p; subst n1) | (have p : Sns := n1; clear p; subst n1) | (have p : Ev := n1; clear p; subst n1) | clear_value n1)
    | (with_reducible refine Keeps.foldl (fun t x h => ?_) ?_)
    | (with_reducible refine KeepsOut.next ?_)
    | with_reducible apply Keeps.closeWindow_keeps
    | with_reducible apply Keeps.deadBoundary_keeps
    | with_reducible apply Keeps.formBoundary_keeps
    | with_reducible apply Keeps.freqBoundary_keeps
    | with_reducible apply Keeps.modRgn_keeps
    | with_reducible apply Keeps.openWindow_keeps
    | with_reducible apply Keeps.relane_keeps
    | with_reducible apply Keeps.trimBoundary_keeps
    | (simp -zeta only [Keeps.mark]; with_reducible refine KeepsLit.intro rfl ?_ ?_ ?_)
    | (with_reducible refine Keeps.ite ?_ ?_)
    | split

theorem Keeps.modIns_keeps {gs : List Group} (hg : [.opt] ⊆ gs) {o0 s : State} (h0 : Keeps gs o0 s) (x : Insertion) (f : Insertion → Insertion) : Keeps gs o0 (State.modIns s x f) := by
  unfold State.modIns
  repeat' first
    | with_reducible assumption
    | with_reducible exact List.Subset.trans (by decide) hg
    | with_reducible exact Regular.keep rfl
    | (intro g hgn; cases g <;> first | exact (Keeps.out hg (by decide) hgn).elim | with_reducible rfl)
    | (extract_lets +onlyGivenNames s1; refine Keeps.have_ (gs := gs) (o := o0) (t := s1) ?_ (fun h => ?_); (on_goal 1 => subst s1); (on_goal 2 => try clear_value s1))
    | (extract_lets +onlyGivenNames n1; first | (have p : Sys := n1; clear p; subst n1) | (have p : Et := n1; clear p; subst n1) | (have p : Hm := n1; clear p; subst n1) | (have p : Opt := n1; clear p; subst n1) | (have p : Xg := n1; clear p; subst n1) | (have p : Sns := n1; clear p; subst n1) | (have p : Ev := n1; clear p; subst n1) | clear_value n1)
    | (with_reducible refine Keeps.foldl (fun t x h => ?_) ?_)
    | (simp -zeta only [Keeps.mark]; with_reducible refine KeepsLit.intro rfl ?_ ?_ ?_)
    | (with_reducible refine Keeps.ite ?_ ?_)
    | split

theorem Keeps.suspendIns_keeps {gs : List Group} (hg : [.mbx] ⊆ gs) {o0 s : State} (h0 : Keeps gs o0 s) (x : Insertion) : Keeps gs o0 (State.suspendIns s x) := by
  unfold State.suspendIns
  repeat' first
    | with_reducible assumption
    | with_reducible exact List.Subset.trans (by decide) hg
    | with_reducible exact Regular.keep rfl
    | (intro g hgn; cases g <;> first | exact (Keeps.out hg (by decide) hgn).elim | with_reducible rfl)
    | (extract_lets +onlyGivenNames s1; refine Keeps.have_ (gs := gs) (o := o0) (t := s1) ?_ (fun h => ?_); (on_goal 1 => subst s1); (on_goal 2 => try clear_value s1))
    | (extract_lets +onlyGivenNames n1; first | (have p : Sys := n1; clear p; subst n1) | (have p : Et := n1; clear p; subst n1) | (have p : Hm := n1; clear p; subst n1) | (have p : Opt := n1; clear p; subst n1) | (have p : Xg := n1; clear p; subst n1) | (have p : Sns := n1; clear p; subst n1) | (have p : Ev := n1; clear p; subst n1) | clear_value n1)
    | (with_reducible refine Keeps.foldl (fun t x h => ?_) ?_)
    | with_reducible apply Keeps.modOp_keeps
    | (simp -zeta only [Keeps.mark]; with_reducible refine KeepsLit.intro rfl ?_ ?_ ?_)
    | split

theorem Keeps.insProgress_keeps {gs : List Group} (hg : [.mbx] ⊆ gs) {o0 s : State} (h0 : Keeps gs o0 s) (x : Insertion) (step : Nat) (spare : Option Nat) : Keeps gs o0 (State.insProgress s x step spare) := by
  unfold State.insProgress
  repeat' first
    | with_reducible assumption
    | with_reducible exact List.Subset.trans (by decide) hg
    | with_reducible exact Regular.keep rfl
    | (intro g hgn; cases g <;> first | exact (Keeps.out hg (by decide) hgn).elim | with_reducible rfl)
    | (extract_lets +onlyGivenNames s1; refine Keeps.have_ (gs := gs) (o := o0) (t := s1) ?_ (fun h => ?_); (on_goal 1 => subst s1); (on_goal 2 => try clear_value s1))
    | (extract_lets +onlyGivenNames n1; first | (have p : Sys := n1; clear p; subst n1) | (have p : Et := n1; clear p; subst n1) | (have p : Hm := n1; clear p; subst n1) | (have p : Opt := n1; clear p; subst n1) | (have p : Xg := n1; clear p; subst n1) | (have p : Sns := n1; clear p; subst n1) | (have p : Ev := n1; clear p; subst n1) | clear_value n1)
    | (with_reducible refine Keeps.foldl (fun t x h => ?_) ?_)
    | with_reducible apply Keeps.modOp_keeps
    | (simp -zeta only [Keeps.mark]; with_reducible refine KeepsLit.intro rfl ?_ ?_ ?_)
    | split

theorem Keeps.endIns_keeps {gs : List Group} (hg : [.mbx, .opt] ⊆ gs) {o0 s : State} (h0 : Keeps gs o0 s) (x : Insertion) (o : Outcome) (st : Nat) : Keeps gs o0 (State.endIns s x o st) := by
  unfold State.endIns
  repeat' first
    | with_reducible assumption
    | with_reducible exact List.Subset.trans (by decide) hg
    | with_reducible exact Regular.keep rfl
    | (intro g hgn; cases g <;> first | exact (Keeps.out hg (by decide) hgn).elim | with_reducible rfl)
    | (extract_lets +onlyGivenNames s1; refine Keeps.have_ (gs := gs) (o := o0) (t := s1) ?_ (fun h => ?_); (on_goal 1 => subst s1); (on_goal 2 => try clear_value s1))
    | (extract_lets +onlyGivenNames n1; first | (have p : Sys := n1; clear p; subst n1) | (have p : Et := n1; clear p; subst n1) | (have p : Hm := n1; clear p; subst n1) | (have p : Opt := n1; clear p; subst n1) | (have p : Xg := n1; clear p; subst n1) | (have p : Sns := n1; clear p; subst n1) | (have p : Ev := n1; clear p; subst n1) | clear_value n1)
    | (with_reducible refine Keeps.foldl (fun t x h => ?_) ?_)
    | with_reducible apply Keeps.finishOp_keeps
    | (simp -zeta only [Keeps.mark]; with_reducible refine KeepsLit.intro rfl ?_ ?_ ?_)
    | split

theorem Keeps.insStep_keeps {gs : List Group} (hg : [.mbx, .opt] ⊆ gs) {o0 s : State} (h0 : Keeps gs o0 s) (x : Insertion) (step : Nat) (took : Option Nat) (since : Nat) : Keeps gs o0 (State.insStep s x step took since) := by
  unfold State.insStep
  repeat' first
    | with_reducible assumption
    | with_reducible exact List.Subset.trans (by decide) hg
    | with_reducible exact Regular.keep rfl
    | (intro g hgn; cases g <;> first | exact (Keeps.out hg (by decide) hgn).elim | with_reducible rfl)
    | (extract_lets +onlyGivenNames s1; refine Keeps.have_ (gs := gs) (o := o0) (t := s1) ?_ (fun h => ?_); (on_goal 1 => subst s1); (on_goal 2 => try clear_value s1))
    | (extract_lets +onlyGivenNames n1; first | (have p : Sys := n1; clear p; subst n1) | (have p : Et := n1; clear p; subst n1) | (have p : Hm := n1; clear p; subst n1) | (have p : Opt := n1; clear p; subst n1) | (have p : Xg := n1; clear p; subst n1) | (have p : Sns := n1; clear p; subst n1) | (have p : Ev := n1; clear p; subst n1) | clear_value n1)
    | (with_reducible refine Keeps.foldl (fun t x h => ?_) ?_)
    | with_reducible apply Keeps.insProgress_keeps
    | with_reducible apply Keeps.modIns_keeps
    | (simp -zeta only [Keeps.mark]; with_reducible refine KeepsLit.intro rfl ?_ ?_ ?_)
    | split

theorem Keeps.requestIns_keeps {gs : List Group} (hg : [.mbx, .opt] ⊆ gs) {o0 s : State} (h0 : Keeps gs o0 s) (x : Insertion) : Keeps gs o0 (State.requestIns s x) := by
  unfold State.requestIns
  repeat' first
    | with_reducible assumption
    | with_reducible exact List.Subset.trans (by decide) hg
    | with_reducible exact Regular.keep rfl
    | (intro g hgn; cases g <;> first | exact (Keeps.out hg (by decide) hgn).elim | with_reducible rfl)
    | (extract_lets +onlyGivenNames s1; refine Keeps.have_ (gs := gs) (o := o0) (t := s1) ?_ (fun h => ?_); (on_goal 1 => subst s1); (on_goal 2 => try clear_value s1))
    | (extract_lets +onlyGivenNames n1; first | (have p : Sys := n1; clear p; subst n1) | (have p : Et := n1; clear p; subst n1) | (have p : Hm := n1; clear p; subst n1) | (have p : Opt := n1; clear p; subst n1) | (have p : Xg := n1; clear p; subst n1) | (have p : Sns := n1; clear p; subst n1) | (have p : Ev := n1; clear p; subst n1) | clear_value n1)
    | (with_reducible refine Keeps.foldl (fun t x h => ?_) ?_)
    | with_reducible apply Keeps.modHandle_keeps
    | (simp -zeta only [Keeps.mark]; with_reducible refine KeepsLit.intro rfl ?_ ?_ ?_)
    | (with_reducible refine Keeps.ite ?_ ?_)
    | split

theorem Keeps.insDone_keeps {gs : List Group} (hg : [.mbx, .opt, .ev] ⊆ gs) {o0 s : State} (h0 : Keeps gs o0 s) (x : Insertion) : Keeps gs o0 (State.insDone s x) := by
  unfold State.insDone
  repeat' first
    | with_reducible assumption
    | with_reducible exact List.Subset.trans (by decide) hg
    | with_reducible exact Regular.keep rfl
    | (intro g hgn; cases g <;> first | exact (Keeps.out hg (by decide) hgn).elim | with_reducible rfl)
    | (extract_lets +onlyGivenNames s1; refine Keeps.have_ (gs := gs) (o := o0) (t := s1) ?_ (fun h => ?_); (on_goal 1 => subst s1); (on_goal 2 => try clear_value s1))
    | (extract_lets +onlyGivenNames n1; first | (have p : Sys := n1; clear p; subst n1) | (have p : Et := n1; clear p; subst n1) | (have p : Hm := n1; clear p; subst n1) | (have p : Opt := n1; clear p; subst n1) | (have p : Xg := n1; clear p; subst n1) | (have p : Sns := n1; clear p; subst n1) | (have p : Ev := n1; clear p; subst n1) | clear_value n1)
    | (with_reducible refine Keeps.foldl (fun t x h => ?_) ?_)
    | with_reducible apply Keeps.endIns_keeps
    | with_reducible apply Keeps.raise_keeps
    | (simp -zeta only [Keeps.mark]; with_reducible refine KeepsLit.intro rfl ?_ ?_ ?_)
    | split

end Sys2Proof.Safety
end

