-- ==== Sys2Proof/Laws/KeepsDistribution.lean ====
section
/-! SUPPORT. What each operation can change, and that it keeps the state regular: the routes, the synthesizers, the anchors and the registers. -/
namespace Sys2Proof.Safety
open Sys2Proof.Machine

set_option linter.unreachableTactic false
set_option linter.unusedTactic false

theorem Keeps.relock_keeps {gs : List Group} (hg : [.ls] ⊆ gs) {o0 s : State} (h0 : Keeps gs o0 s) (i : Nat) (half : Bool) : Keeps gs o0 (State.relock s i half) := by
  unfold State.relock
  repeat' first
    | with_reducible assumption
    | with_reducible exact List.Subset.trans (by decide) hg
    | with_reducible exact Regular.keep rfl
    | (intro g hgn; cases g <;> first | exact (Keeps.out hg (by decide) hgn).elim | with_reducible rfl)
    | (extract_lets +onlyGivenNames s1; refine Keeps.have_ (gs := gs) (o := o0) (t := s1) ?_ (fun h => ?_); (on_goal 1 => subst s1); (on_goal 2 => try clear_value s1))
    | (extract_lets +onlyGivenNames n1; first | (have p : Sys := n1; clear p; subst n1) | (have p : Et := n1; clear p; subst n1) | (have p : Hm := n1; clear p; subst n1) | (have p : Opt := n1; clear p; subst n1) | (have p : Xg := n1; clear p; subst n1) | (have p : Sns := n1; clear p; subst n1) | (have p : Ev := n1; clear p; subst n1) | clear_value n1)
    | (with_reducible refine Keeps.foldl (fun t x h => ?_) ?_)
    | with_reducible apply Keeps.modSynth_keeps
    | (simp -zeta only [Keeps.mark]; with_reducible refine KeepsLit.intro rfl ?_ ?_ ?_)
    | (with_reducible refine Keeps.ite ?_ ?_)
    | split

theorem Keeps.coldLock_keeps {gs : List Group} (hg : [.ls] ⊆ gs) {o0 s : State} (h0 : Keeps gs o0 s) (i : Nat) (half : Bool) : Keeps gs o0 (State.coldLock s i half) := by
  unfold State.coldLock
  repeat' first
    | with_reducible assumption
    | with_reducible exact List.Subset.trans (by decide) hg
    | with_reducible exact Regular.keep rfl
    | (intro g hgn; cases g <;> first | exact (Keeps.out hg (by decide) hgn).elim | with_reducible rfl)
    | (extract_lets +onlyGivenNames s1; refine Keeps.have_ (gs := gs) (o := o0) (t := s1) ?_ (fun h => ?_); (on_goal 1 => subst s1); (on_goal 2 => try clear_value s1))
    | (extract_lets +onlyGivenNames n1; first | (have p : Sys := n1; clear p; subst n1) | (have p : Et := n1; clear p; subst n1) | (have p : Hm := n1; clear p; subst n1) | (have p : Opt := n1; clear p; subst n1) | (have p : Xg := n1; clear p; subst n1) | (have p : Sns := n1; clear p; subst n1) | (have p : Ev := n1; clear p; subst n1) | clear_value n1)
    | (with_reducible refine Keeps.foldl (fun t x h => ?_) ?_)
    | with_reducible apply Keeps.modSynth_keeps
    | with_reducible apply Keeps.relock_keeps
    | (simp -zeta only [Keeps.mark]; with_reducible refine KeepsLit.intro rfl ?_ ?_ ?_)
    | split

theorem Keeps.spareRelock_keeps {gs : List Group} (hg : [.ls] ⊆ gs) {o0 s : State} (h0 : Keeps gs o0 s) (q : Nat) : Keeps gs o0 (State.spareRelock s q) := by
  unfold State.spareRelock
  repeat' first
    | with_reducible assumption
    | with_reducible exact List.Subset.trans (by decide) hg
    | with_reducible exact Regular.keep rfl
    | (intro g hgn; cases g <;> first | exact (Keeps.out hg (by decide) hgn).elim | with_reducible rfl)
    | (extract_lets +onlyGivenNames s1; refine Keeps.have_ (gs := gs) (o := o0) (t := s1) ?_ (fun h => ?_); (on_goal 1 => subst s1); (on_goal 2 => try clear_value s1))
    | (extract_lets +onlyGivenNames n1; first | (have p : Sys := n1; clear p; subst n1) | (have p : Et := n1; clear p; subst n1) | (have p : Hm := n1; clear p; subst n1) | (have p : Opt := n1; clear p; subst n1) | (have p : Xg := n1; clear p; subst n1) | (have p : Sns := n1; clear p; subst n1) | (have p : Ev := n1; clear p; subst n1) | clear_value n1)
    | (with_reducible refine Keeps.foldl (fun t x h => ?_) ?_)
    | with_reducible apply Keeps.relock_keeps
    | (simp -zeta only [Keeps.mark]; with_reducible refine KeepsLit.intro rfl ?_ ?_ ?_)
    | (with_reducible refine Keeps.ite ?_ ?_)
    | split

theorem Keeps.relockHalf_keeps {gs : List Group} (hg : [.ls] ⊆ gs) {o0 s : State} (h0 : Keeps gs o0 s) (i : Nat) : Keeps gs o0 (State.relockHalf s i) := by
  unfold State.relockHalf
  repeat' first
    | with_reducible assumption
    | with_reducible exact List.Subset.trans (by decide) hg
    | with_reducible exact Regular.keep rfl
    | (intro g hgn; cases g <;> first | exact (Keeps.out hg (by decide) hgn).elim | with_reducible rfl)
    | (extract_lets +onlyGivenNames s1; refine Keeps.have_ (gs := gs) (o := o0) (t := s1) ?_ (fun h => ?_); (on_goal 1 => subst s1); (on_goal 2 => try clear_value s1))
    | (extract_lets +onlyGivenNames n1; first | (have p : Sys := n1; clear p; subst n1) | (have p : Et := n1; clear p; subst n1) | (have p : Hm := n1; clear p; subst n1) | (have p : Opt := n1; clear p; subst n1) | (have p : Xg := n1; clear p; subst n1) | (have p : Sns := n1; clear p; subst n1) | (have p : Ev := n1; clear p; subst n1) | clear_value n1)
    | (with_reducible refine Keeps.foldl (fun t x h => ?_) ?_)
    | with_reducible apply Keeps.relock_keeps
    | with_reducible apply Keeps.spareRelock_keeps
    | (simp -zeta only [Keeps.mark]; with_reducible refine KeepsLit.intro rfl ?_ ?_ ?_)
    | (with_reducible refine Keeps.ite ?_ ?_)
    | split

theorem Keeps.reneg_keeps {gs : List Group} (hg : [.ls] ⊆ gs) {o0 s : State} (h0 : Keeps gs o0 s) (p : Nat) (half : Bool) : Keeps gs o0 (State.reneg s p half) := by
  unfold State.reneg
  repeat' first
    | with_reducible assumption
    | with_reducible exact List.Subset.trans (by decide) hg
    | with_reducible exact Regular.keep rfl
    | (intro g hgn; cases g <;> first | exact (Keeps.out hg (by decide) hgn).elim | with_reducible rfl)
    | (extract_lets +onlyGivenNames s1; refine Keeps.have_ (gs := gs) (o := o0) (t := s1) ?_ (fun h => ?_); (on_goal 1 => subst s1); (on_goal 2 => try clear_value s1))
    | (extract_lets +onlyGivenNames n1; first | (have p : Sys := n1; clear p; subst n1) | (have p : Et := n1; clear p; subst n1) | (have p : Hm := n1; clear p; subst n1) | (have p : Opt := n1; clear p; subst n1) | (have p : Xg := n1; clear p; subst n1) | (have p : Sns := n1; clear p; subst n1) | (have p : Ev := n1; clear p; subst n1) | clear_value n1)
    | (with_reducible refine Keeps.foldl (fun t x h => ?_) ?_)
    | with_reducible apply Keeps.modPort_keeps
    | with_reducible apply Keeps.relock_keeps
    | with_reducible apply Keeps.relockHalf_keeps
    | (simp -zeta only [Keeps.mark]; with_reducible refine KeepsLit.intro rfl ?_ ?_ ?_)
    | (with_reducible refine Keeps.ite ?_ ?_)
    | split

theorem Keeps.renegHalf_keeps {gs : List Group} (hg : [.ls] ⊆ gs) {o0 s : State} (h0 : Keeps gs o0 s) (q : Nat) : Keeps gs o0 (State.renegHalf s q) := by
  unfold State.renegHalf
  repeat' first
    | with_reducible assumption
    | with_reducible exact List.Subset.trans (by decide) hg
    | with_reducible exact Regular.keep rfl
    | (intro g hgn; cases g <;> first | exact (Keeps.out hg (by decide) hgn).elim | with_reducible rfl)
    | (extract_lets +onlyGivenNames s1; refine Keeps.have_ (gs := gs) (o := o0) (t := s1) ?_ (fun h => ?_); (on_goal 1 => subst s1); (on_goal 2 => try clear_value s1))
    | (extract_lets +onlyGivenNames n1; first | (have p : Sys := n1; clear p; subst n1) | (have p : Et := n1; clear p; subst n1) | (have p : Hm := n1; clear p; subst n1) | (have p : Opt := n1; clear p; subst n1) | (have p : Xg := n1; clear p; subst n1) | (have p : Sns := n1; clear p; subst n1) | (have p : Ev := n1; clear p; subst n1) | clear_value n1)
    | (with_reducible refine Keeps.foldl (fun t x h => ?_) ?_)
    | with_reducible apply Keeps.reneg_keeps
    | (simp -zeta only [Keeps.mark]; with_reducible refine KeepsLit.intro rfl ?_ ?_ ?_)
    | (with_reducible refine Keeps.ite ?_ ?_)
    | split

theorem Keeps.rideQuad_keeps {gs : List Group} (hg : [.ls] ⊆ gs) {o0 s : State} (h0 : Keeps gs o0 s) (q : Nat) : Keeps gs o0 (State.rideQuad s q) := by
  unfold State.rideQuad
  repeat' first
    | with_reducible assumption
    | with_reducible exact List.Subset.trans (by decide) hg
    | with_reducible exact Regular.keep rfl
    | (intro g hgn; cases g <;> first | exact (Keeps.out hg (by decide) hgn).elim | with_reducible rfl)
    | (extract_lets +onlyGivenNames f1; (first | (refine Keeps.fun1 f1 ?_) | (refine Keeps.fun2 f1 ?_) | (refine Keeps.fun3 f1 ?_) | (refine KeepsRes.fun1 f1 ?_)); subst f1; beta_reduce)
    | (extract_lets +onlyGivenNames s1; refine Keeps.have_ (gs := gs) (o := o0) (t := s1) ?_ (fun h => ?_); (on_goal 1 => subst s1); (on_goal 2 => try clear_value s1))
    | (extract_lets +onlyGivenNames n1; first | (have p : Sys := n1; clear p; subst n1) | (have p : Et := n1; clear p; subst n1) | (have p : Hm := n1; clear p; subst n1) | (have p : Opt := n1; clear p; subst n1) | (have p : Xg := n1; clear p; subst n1) | (have p : Sns := n1; clear p; subst n1) | (have p : Ev := n1; clear p; subst n1) | clear_value n1)
    | (with_reducible refine Keeps.foldl (fun t x h => ?_) ?_)
    | with_reducible apply Keeps.modPort_keeps
    | with_reducible apply Keeps.modSynth_keeps
    | (simp -zeta only [Keeps.mark]; with_reducible refine KeepsLit.intro rfl ?_ ?_ ?_)
    | (with_reducible refine Keeps.ite ?_ ?_)
    | split

theorem Keeps.backupQuad_keeps {gs : List Group} (hg : [.ls] ⊆ gs) {o0 s : State} (h0 : Keeps gs o0 s) (q : Nat) : Keeps gs o0 (State.backupQuad s q) := by
  unfold State.backupQuad
  repeat' first
    | with_reducible assumption
    | with_reducible exact List.Subset.trans (by decide) hg
    | with_reducible exact Regular.keep rfl
    | (intro g hgn; cases g <;> first | exact (Keeps.out hg (by decide) hgn).elim | with_reducible rfl)
    | (extract_lets +onlyGivenNames s1; refine Keeps.have_ (gs := gs) (o := o0) (t := s1) ?_ (fun h => ?_); (on_goal 1 => subst s1); (on_goal 2 => try clear_value s1))
    | (extract_lets +onlyGivenNames n1; first | (have p : Sys := n1; clear p; subst n1) | (have p : Et := n1; clear p; subst n1) | (have p : Hm := n1; clear p; subst n1) | (have p : Opt := n1; clear p; subst n1) | (have p : Xg := n1; clear p; subst n1) | (have p : Sns := n1; clear p; subst n1) | (have p : Ev := n1; clear p; subst n1) | clear_value n1)
    | (with_reducible refine Keeps.foldl (fun t x h => ?_) ?_)
    | with_reducible apply Keeps.reneg_keeps
    | with_reducible apply Keeps.rideQuad_keeps
    | (simp -zeta only [Keeps.mark]; with_reducible refine KeepsLit.intro rfl ?_ ?_ ?_)
    | (with_reducible refine Keeps.ite ?_ ?_)
    | split

theorem Keeps.spareFollow_keeps {gs : List Group} (hg : [.ls] ⊆ gs) {o0 s : State} (h0 : Keeps gs o0 s) (q : Nat) : Keeps gs o0 (State.spareFollow s q) := by
  unfold State.spareFollow
  repeat' first
    | with_reducible assumption
    | with_reducible exact List.Subset.trans (by decide) hg
    | with_reducible exact Regular.keep rfl
    | (intro g hgn; cases g <;> first | exact (Keeps.out hg (by decide) hgn).elim | with_reducible rfl)
    | (extract_lets +onlyGivenNames s1; refine Keeps.have_ (gs := gs) (o := o0) (t := s1) ?_ (fun h => ?_); (on_goal 1 => subst s1); (on_goal 2 => try clear_value s1))
    | (extract_lets +onlyGivenNames n1; first | (have p : Sys := n1; clear p; subst n1) | (have p : Et := n1; clear p; subst n1) | (have p : Hm := n1; clear p; subst n1) | (have p : Opt := n1; clear p; subst n1) | (have p : Xg := n1; clear p; subst n1) | (have p : Sns := n1; clear p; subst n1) | (have p : Ev := n1; clear p; subst n1) | clear_value n1)
    | (with_reducible refine Keeps.foldl (fun t x h => ?_) ?_)
    | with_reducible apply Keeps.relock_keeps
    | (simp -zeta only [Keeps.mark]; with_reducible refine KeepsLit.intro rfl ?_ ?_ ?_)
    | (with_reducible refine Keeps.ite ?_ ?_)
    | split

theorem Keeps.grant_keeps {gs : List Group} (hg : [.ls] ⊆ gs) {o0 s : State} (h0 : Keeps gs o0 s) (p : Nat) : Keeps gs o0 (State.grant s p) := by
  unfold State.grant
  repeat' first
    | with_reducible assumption
    | with_reducible exact List.Subset.trans (by decide) hg
    | with_reducible exact Regular.keep rfl
    | (intro g hgn; cases g <;> first | exact (Keeps.out hg (by decide) hgn).elim | with_reducible rfl)
    | (extract_lets +onlyGivenNames s1; refine Keeps.have_ (gs := gs) (o := o0) (t := s1) ?_ (fun h => ?_); (on_goal 1 => subst s1); (on_goal 2 => try clear_value s1))
    | (extract_lets +onlyGivenNames n1; first | (have p : Sys := n1; clear p; subst n1) | (have p : Et := n1; clear p; subst n1) | (have p : Hm := n1; clear p; subst n1) | (have p : Opt := n1; clear p; subst n1) | (have p : Xg := n1; clear p; subst n1) | (have p : Sns := n1; clear p; subst n1) | (have p : Ev := n1; clear p; subst n1) | clear_value n1)
    | (with_reducible refine Keeps.foldl (fun t x h => ?_) ?_)
    | with_reducible apply Keeps.modPort_keeps
    | (simp -zeta only [Keeps.mark]; with_reducible refine KeepsLit.intro rfl ?_ ?_ ?_)
    | split

theorem Keeps.letGo_keeps {gs : List Group} (hg : [.ls] ⊆ gs) {o0 s : State} (h0 : Keeps gs o0 s) (p : Nat) : Keeps gs o0 (State.letGo s p) := by
  unfold State.letGo
  repeat' first
    | with_reducible assumption
    | with_reducible exact List.Subset.trans (by decide) hg
    | with_reducible exact Regular.keep rfl
    | (intro g hgn; cases g <;> first | exact (Keeps.out hg (by decide) hgn).elim | with_reducible rfl)
    | (extract_lets +onlyGivenNames s1; refine Keeps.have_ (gs := gs) (o := o0) (t := s1) ?_ (fun h => ?_); (on_goal 1 => subst s1); (on_goal 2 => try clear_value s1))
    | (extract_lets +onlyGivenNames n1; first | (have p : Sys := n1; clear p; subst n1) | (have p : Et := n1; clear p; subst n1) | (have p : Hm := n1; clear p; subst n1) | (have p : Opt := n1; clear p; subst n1) | (have p : Xg := n1; clear p; subst n1) | (have p : Sns := n1; clear p; subst n1) | (have p : Ev := n1; clear p; subst n1) | clear_value n1)
    | (with_reducible refine Keeps.foldl (fun t x h => ?_) ?_)
    | with_reducible apply Keeps.grant_keeps
    | (simp -zeta only [Keeps.mark]; with_reducible refine KeepsLit.intro rfl ?_ ?_ ?_)
    | (with_reducible refine Keeps.ite ?_ ?_)
    | split

theorem Keeps.reclose_keeps {gs : List Group} (hg : [.ls] ⊆ gs) {o0 s : State} (h0 : Keeps gs o0 s) (q : Nat) : Keeps gs o0 (State.reclose s q) := by
  unfold State.reclose
  repeat' first
    | with_reducible assumption
    | with_reducible exact List.Subset.trans (by decide) hg
    | with_reducible exact Regular.keep rfl
    | (intro g hgn; cases g <;> first | exact (Keeps.out hg (by decide) hgn).elim | with_reducible rfl)
    | (extract_lets +onlyGivenNames s1; refine Keeps.have_ (gs := gs) (o := o0) (t := s1) ?_ (fun h => ?_); (on_goal 1 => subst s1); (on_goal 2 => try clear_value s1))
    | (extract_lets +onlyGivenNames n1; first | (have p : Sys := n1; clear p; subst n1) | (have p : Et := n1; clear p; subst n1) | (have p : Hm := n1; clear p; subst n1) | (have p : Opt := n1; clear p; subst n1) | (have p : Xg := n1; clear p; subst n1) | (have p : Sns := n1; clear p; subst n1) | (have p : Ev := n1; clear p; subst n1) | clear_value n1)
    | (with_reducible refine Keeps.foldl (fun t x h => ?_) ?_)
    | with_reducible apply Keeps.letGo_keeps
    | with_reducible apply Keeps.modPort_keeps
    | with_reducible apply Keeps.modSynth_keeps
    | with_reducible apply Keeps.rideQuad_keeps
    | with_reducible apply Keeps.spareFollow_keeps
    | (simp -zeta only [Keeps.mark]; with_reducible refine KeepsLit.intro rfl ?_ ?_ ?_)
    | (with_reducible refine Keeps.ite ?_ ?_)
    | split

theorem Keeps.execSynthRide_keeps {gs : List Group} (hg : [.ls] ⊆ gs) {o0 s : State} (h0 : Keeps gs o0 s) (q : Fin 4) : KeepsOut gs o0 (execSynthRide q s) := by
  unfold execSynthRide
  repeat' first
    | with_reducible assumption
    | with_reducible exact List.Subset.trans (by decide) hg
    | with_reducible exact Regular.keep rfl
    | (intro g hgn; cases g <;> first | exact (Keeps.out hg (by decide) hgn).elim | with_reducible rfl)
    | (extract_lets +onlyGivenNames s1; refine Keeps.have_ (gs := gs) (o := o0) (t := s1) ?_ (fun h => ?_); (on_goal 1 => subst s1); (on_goal 2 => try clear_value s1))
    | (extract_lets +onlyGivenNames n1; first | (have p : Sys := n1; clear p; subst n1) | (have p : Et := n1; clear p; subst n1) | (have p : Hm := n1; clear p; subst n1) | (have p : Opt := n1; clear p; subst n1) | (have p : Xg := n1; clear p; subst n1) | (have p : Sns := n1; clear p; subst n1) | (have p : Ev := n1; clear p; subst n1) | clear_value n1)
    | (with_reducible refine Keeps.foldl (fun t x h => ?_) ?_)
    | (with_reducible refine KeepsOut.next ?_)
    | with_reducible apply Keeps.rideQuad_keeps
    | (simp -zeta only [Keeps.mark]; with_reducible refine KeepsLit.intro rfl ?_ ?_ ?_)
    | split

theorem Keeps.execRideTimeout_keeps {gs : List Group} (hg : [.ls, .ev] ⊆ gs) {o0 s : State} (h0 : Keeps gs o0 s) (i : Fin 72) : KeepsOut gs o0 (execRideTimeout i s) := by
  unfold execRideTimeout
  repeat' first
    | with_reducible assumption
    | with_reducible exact List.Subset.trans (by decide) hg
    | with_reducible exact Regular.keep rfl
    | (intro g hgn; cases g <;> first | exact (Keeps.out hg (by decide) hgn).elim | with_reducible rfl)
    | (extract_lets +onlyGivenNames s1; refine Keeps.have_ (gs := gs) (o := o0) (t := s1) ?_ (fun h => ?_); (on_goal 1 => subst s1); (on_goal 2 => try clear_value s1))
    | (extract_lets +onlyGivenNames n1; first | (have p : Sys := n1; clear p; subst n1) | (have p : Et := n1; clear p; subst n1) | (have p : Hm := n1; clear p; subst n1) | (have p : Opt := n1; clear p; subst n1) | (have p : Xg := n1; clear p; subst n1) | (have p : Sns := n1; clear p; subst n1) | (have p : Ev := n1; clear p; subst n1) | clear_value n1)
    | (with_reducible refine Keeps.foldl (fun t x h => ?_) ?_)
    | (with_reducible refine KeepsOut.next ?_)
    | with_reducible apply Keeps.modSynth_keeps
    | with_reducible apply Keeps.raiseIf_keeps
    | with_reducible apply Keeps.reneg_keeps
    | (simp -zeta only [Keeps.mark]; with_reducible refine KeepsLit.intro rfl ?_ ?_ ?_)
    | (with_reducible refine Keeps.ite ?_ ?_)
    | split

theorem Keeps.execRenegotiateHalf_keeps {gs : List Group} (hg : [.ls] ⊆ gs) {o0 s : State} (h0 : Keeps gs o0 s) (q : Fin 4) : KeepsOut gs o0 (execRenegotiateHalf q s) := by
  unfold execRenegotiateHalf
  repeat' first
    | with_reducible assumption
    | with_reducible exact List.Subset.trans (by decide) hg
    | with_reducible exact Regular.keep rfl
    | (intro g hgn; cases g <;> first | exact (Keeps.out hg (by decide) hgn).elim | with_reducible rfl)
    | (extract_lets +onlyGivenNames s1; refine Keeps.have_ (gs := gs) (o := o0) (t := s1) ?_ (fun h => ?_); (on_goal 1 => subst s1); (on_goal 2 => try clear_value s1))
    | (extract_lets +onlyGivenNames n1; first | (have p : Sys := n1; clear p; subst n1) | (have p : Et := n1; clear p; subst n1) | (have p : Hm := n1; clear p; subst n1) | (have p : Opt := n1; clear p; subst n1) | (have p : Xg := n1; clear p; subst n1) | (have p : Sns := n1; clear p; subst n1) | (have p : Ev := n1; clear p; subst n1) | clear_value n1)
    | (with_reducible refine Keeps.foldl (fun t x h => ?_) ?_)
    | (with_reducible refine KeepsOut.next ?_)
    | with_reducible apply Keeps.renegHalf_keeps
    | (simp -zeta only [Keeps.mark]; with_reducible refine KeepsLit.intro rfl ?_ ?_ ?_)
    | (with_reducible refine Keeps.ite ?_ ?_)
    | split

theorem Keeps.execRateAck_keeps {gs : List Group} (hg : [.ls] ⊆ gs) {o0 s : State} (h0 : Keeps gs o0 s) (p : Fin 64) : KeepsOut gs o0 (execRateAck p s) := by
  unfold execRateAck
  repeat' first
    | with_reducible assumption
    | with_reducible exact List.Subset.trans (by decide) hg
    | with_reducible exact Regular.keep rfl
    | (intro g hgn; cases g <;> first | exact (Keeps.out hg (by decide) hgn).elim | with_reducible rfl)
    | (extract_lets +onlyGivenNames s1; refine Keeps.have_ (gs := gs) (o := o0) (t := s1) ?_ (fun h => ?_); (on_goal 1 => subst s1); (on_goal 2 => try clear_value s1))
    | (extract_lets +onlyGivenNames n1; first | (have p : Sys := n1; clear p; subst n1) | (have p : Et := n1; clear p; subst n1) | (have p : Hm := n1; clear p; subst n1) | (have p : Opt := n1; clear p; subst n1) | (have p : Xg := n1; clear p; subst n1) | (have p : Sns := n1; clear p; subst n1) | (have p : Ev := n1; clear p; subst n1) | clear_value n1)
    | (with_reducible refine Keeps.foldl (fun t x h => ?_) ?_)
    | (with_reducible refine KeepsOut.next ?_)
    | with_reducible apply Keeps.modPort_keeps
    | with_reducible apply Keeps.relock_keeps
    | with_reducible apply Keeps.relockHalf_keeps
    | (simp -zeta only [Keeps.mark]; with_reducible refine KeepsLit.intro rfl ?_ ?_ ?_)
    | (with_reducible refine Keeps.ite ?_ ?_)
    | split

theorem Keeps.execRenegTimeout_keeps {gs : List Group} (hg : [.ls, .ev] ⊆ gs) {o0 s : State} (h0 : Keeps gs o0 s) (p : Fin 64) : KeepsOut gs o0 (execRenegTimeout p s) := by
  unfold execRenegTimeout
  repeat' first
    | with_reducible assumption
    | with_reducible exact List.Subset.trans (by decide) hg
    | with_reducible exact Regular.keep rfl
    | (intro g hgn; cases g <;> first | exact (Keeps.out hg (by decide) hgn).elim | with_reducible rfl)
    | (extract_lets +onlyGivenNames s1; refine Keeps.have_ (gs := gs) (o := o0) (t := s1) ?_ (fun h => ?_); (on_goal 1 => subst s1); (on_goal 2 => try clear_value s1))
    | (extract_lets +onlyGivenNames n1; first | (have p : Sys := n1; clear p; subst n1) | (have p : Et := n1; clear p; subst n1) | (have p : Hm := n1; clear p; subst n1) | (have p : Opt := n1; clear p; subst n1) | (have p : Xg := n1; clear p; subst n1) | (have p : Sns := n1; clear p; subst n1) | (have p : Ev := n1; clear p; subst n1) | clear_value n1)
    | (with_reducible refine Keeps.foldl (fun t x h => ?_) ?_)
    | (with_reducible refine KeepsOut.next ?_)
    | with_reducible apply Keeps.letGo_keeps
    | with_reducible apply Keeps.modPort_keeps
    | with_reducible apply Keeps.raise_keeps
    | with_reducible apply Keeps.relockHalf_keeps
    | (simp -zeta only [Keeps.mark]; with_reducible refine KeepsLit.intro rfl ?_ ?_ ?_)
    | (with_reducible refine Keeps.ite ?_ ?_)
    | split

theorem Keeps.spareBits_keeps {gs : List Group} (hg : [.ls] ⊆ gs) {o0 s : State} (h0 : Keeps gs o0 s) (j : Nat) (free : Bool) (failed : Bool) : Keeps gs o0 (State.spareBits s j free failed) := by
  unfold State.spareBits
  repeat' first
    | with_reducible assumption
    | with_reducible exact List.Subset.trans (by decide) hg
    | with_reducible exact Regular.keep rfl
    | (intro g hgn; cases g <;> first | exact (Keeps.out hg (by decide) hgn).elim | with_reducible rfl)
    | (extract_lets +onlyGivenNames s1; refine Keeps.have_ (gs := gs) (o := o0) (t := s1) ?_ (fun h => ?_); (on_goal 1 => subst s1); (on_goal 2 => try clear_value s1))
    | (extract_lets +onlyGivenNames n1; first | (have p : Sys := n1; clear p; subst n1) | (have p : Et := n1; clear p; subst n1) | (have p : Hm := n1; clear p; subst n1) | (have p : Opt := n1; clear p; subst n1) | (have p : Xg := n1; clear p; subst n1) | (have p : Sns := n1; clear p; subst n1) | (have p : Ev := n1; clear p; subst n1) | clear_value n1)
    | (with_reducible refine Keeps.foldl (fun t x h => ?_) ?_)
    | (simp -zeta only [Keeps.mark]; with_reducible refine KeepsLit.intro rfl ?_ ?_ ?_)
    | (with_reducible refine Keeps.ite ?_ ?_)
    | split

theorem Keeps.switchSynth_keeps {gs : List Group} (hg : [.mbx, .opt, .ls, .ev] ⊆ gs) {o0 s : State} (h0 : Keeps gs o0 s) (x : Insertion) (j : Nat) : Keeps gs o0 (State.switchSynth s x j) := by
  unfold State.switchSynth
  repeat' first
    | with_reducible assumption
    | with_reducible exact List.Subset.trans (by decide) hg
    | with_reducible exact Regular.keep rfl
    | (intro g hgn; cases g <;> first | exact (Keeps.out hg (by decide) hgn).elim | with_reducible rfl)
    | (extract_lets +onlyGivenNames s1; refine Keeps.have_ (gs := gs) (o := o0) (t := s1) ?_ (fun h => ?_); (on_goal 1 => subst s1); (on_goal 2 => try clear_value s1))
    | (extract_lets +onlyGivenNames n1; first | (have p : Sys := n1; clear p; subst n1) | (have p : Et := n1; clear p; subst n1) | (have p : Hm := n1; clear p; subst n1) | (have p : Opt := n1; clear p; subst n1) | (have p : Xg := n1; clear p; subst n1) | (have p : Sns := n1; clear p; subst n1) | (have p : Ev := n1; clear p; subst n1) | clear_value n1)
    | (with_reducible refine Keeps.foldl (fun t x h => ?_) ?_)
    | with_reducible apply Keeps.grant_keeps
    | with_reducible apply Keeps.insDone_keeps
    | with_reducible apply Keeps.insProgress_keeps
    | with_reducible apply Keeps.modPort_keeps
    | with_reducible apply Keeps.modSynth_keeps
    | with_reducible apply Keeps.spareBits_keeps
    | (simp -zeta only [Keeps.mark]; with_reducible refine KeepsLit.intro rfl ?_ ?_ ?_)
    | (with_reducible refine Keeps.ite ?_ ?_)
    | split

theorem Keeps.goSynth_keeps {gs : List Group} (hg : [.mbx, .opt, .ls, .ev] ⊆ gs) {o0 s : State} (h0 : Keeps gs o0 s) (x : Insertion) (j : Nat) (force : Bool) : Keeps gs o0 (State.goSynth s x j force) := by
  unfold State.goSynth
  repeat' first
    | with_reducible assumption
    | with_reducible exact List.Subset.trans (by decide) hg
    | with_reducible exact Regular.keep rfl
    | (intro g hgn; cases g <;> first | exact (Keeps.out hg (by decide) hgn).elim | with_reducible rfl)
    | (extract_lets +onlyGivenNames s1; refine Keeps.have_ (gs := gs) (o := o0) (t := s1) ?_ (fun h => ?_); (on_goal 1 => subst s1); (on_goal 2 => try clear_value s1))
    | (extract_lets +onlyGivenNames n1; first | (have p : Sys := n1; clear p; subst n1) | (have p : Et := n1; clear p; subst n1) | (have p : Hm := n1; clear p; subst n1) | (have p : Opt := n1; clear p; subst n1) | (have p : Xg := n1; clear p; subst n1) | (have p : Sns := n1; clear p; subst n1) | (have p : Ev := n1; clear p; subst n1) | clear_value n1)
    | (with_reducible refine Keeps.foldl (fun t x h => ?_) ?_)
    | with_reducible apply Keeps.insStep_keeps
    | with_reducible apply Keeps.modPort_keeps
    | with_reducible apply Keeps.relock_keeps
    | with_reducible apply Keeps.suspendIns_keeps
    | with_reducible apply Keeps.switchSynth_keeps
    | (simp -zeta only [Keeps.mark]; with_reducible refine KeepsLit.intro rfl ?_ ?_ ?_)
    | (with_reducible refine Keeps.ite ?_ ?_)
    | split

theorem Keeps.noSpareFor_keeps {gs : List Group} (hg : [.sys, .mbx, .ev] ⊆ gs) {o0 s : State} (h0 : Keeps gs o0 s) (p : Nat) : Keeps gs o0 (State.noSpareFor s p) := by
  unfold State.noSpareFor
  repeat' first
    | with_reducible assumption
    | with_reducible exact List.Subset.trans (by decide) hg
    | with_reducible exact Regular.keep rfl
    | (intro g hgn; cases g <;> first | exact (Keeps.out hg (by decide) hgn).elim | with_reducible rfl)
    | (extract_lets +onlyGivenNames s1; refine Keeps.have_ (gs := gs) (o := o0) (t := s1) ?_ (fun h => ?_); (on_goal 1 => subst s1); (on_goal 2 => try clear_value s1))
    | (extract_lets +onlyGivenNames n1; first | (have p : Sys := n1; clear p; subst n1) | (have p : Et := n1; clear p; subst n1) | (have p : Hm := n1; clear p; subst n1) | (have p : Opt := n1; clear p; subst n1) | (have p : Xg := n1; clear p; subst n1) | (have p : Sns := n1; clear p; subst n1) | (have p : Ev := n1; clear p; subst n1) | clear_value n1)
    | (with_reducible refine Keeps.foldl (fun t x h => ?_) ?_)
    | with_reducible apply Keeps.mlbSet_keeps
    | with_reducible apply Keeps.raise_keeps
    | (simp -zeta only [Keeps.mark]; with_reducible refine KeepsLit.intro rfl ?_ ?_ ?_)
    | split

theorem Keeps.noneLeft_keeps {gs : List Group} (hg : [.sys, .mbx, .opt, .ls, .ev] ⊆ gs) {o0 s : State} (h0 : Keeps gs o0 s) (x : Insertion) : Keeps gs o0 (State.noneLeft s x) := by
  unfold State.noneLeft
  repeat' first
    | with_reducible assumption
    | with_reducible exact List.Subset.trans (by decide) hg
    | with_reducible exact Regular.keep rfl
    | (intro g hgn; cases g <;> first | exact (Keeps.out hg (by decide) hgn).elim | with_reducible rfl)
    | (extract_lets +onlyGivenNames s1; refine Keeps.have_ (gs := gs) (o := o0) (t := s1) ?_ (fun h => ?_); (on_goal 1 => subst s1); (on_goal 2 => try clear_value s1))
    | (extract_lets +onlyGivenNames n1; first | (have p : Sys := n1; clear p; subst n1) | (have p : Et := n1; clear p; subst n1) | (have p : Hm := n1; clear p; subst n1) | (have p : Opt := n1; clear p; subst n1) | (have p : Xg := n1; clear p; subst n1) | (have p : Sns := n1; clear p; subst n1) | (have p : Ev := n1; clear p; subst n1) | clear_value n1)
    | (with_reducible refine Keeps.foldl (fun t x h => ?_) ?_)
    | with_reducible apply Keeps.endIns_keeps
    | with_reducible apply Keeps.letGo_keeps
    | with_reducible apply Keeps.noSpareFor_keeps
    | (simp -zeta only [Keeps.mark]; with_reducible refine KeepsLit.intro rfl ?_ ?_ ?_)
    | (with_reducible refine Keeps.ite ?_ ?_)
    | split

theorem Keeps.advanceSynth_keeps {gs : List Group} (hg : [.sys, .mbx, .opt, .ls, .ev] ⊆ gs) {o0 s : State} (h0 : Keeps gs o0 s) (p : Nat) (force : Bool) : Keeps gs o0 (State.advanceSynth s p force) := by
  unfold State.advanceSynth
  repeat' first
    | with_reducible assumption
    | with_reducible exact List.Subset.trans (by decide) hg
    | with_reducible exact Regular.keep rfl
    | (intro g hgn; cases g <;> first | exact (Keeps.out hg (by decide) hgn).elim | with_reducible rfl)
    | (extract_lets +onlyGivenNames s1; refine Keeps.have_ (gs := gs) (o := o0) (t := s1) ?_ (fun h => ?_); (on_goal 1 => subst s1); (on_goal 2 => try clear_value s1))
    | (extract_lets +onlyGivenNames n1; first | (have p : Sys := n1; clear p; subst n1) | (have p : Et := n1; clear p; subst n1) | (have p : Hm := n1; clear p; subst n1) | (have p : Opt := n1; clear p; subst n1) | (have p : Xg := n1; clear p; subst n1) | (have p : Sns := n1; clear p; subst n1) | (have p : Ev := n1; clear p; subst n1) | clear_value n1)
    | (with_reducible refine Keeps.foldl (fun t x h => ?_) ?_)
    | with_reducible apply Keeps.goSynth_keeps
    | with_reducible apply Keeps.insStep_keeps
    | with_reducible apply Keeps.noneLeft_keeps
    | with_reducible apply Keeps.spareBits_keeps
    | with_reducible apply Keeps.suspendIns_keeps
    | (simp -zeta only [Keeps.mark]; with_reducible refine KeepsLit.intro rfl ?_ ?_ ?_)
    | (with_reducible refine Keeps.ite ?_ ?_)
    | split

theorem Keeps.execSynthInsert_keeps {gs : List Group} (hg : [.sys, .mbx, .opt, .ls, .ev] ⊆ gs) {o0 s : State} (h0 : Keeps gs o0 s) (p : Fin 64) : KeepsOut gs o0 (execSynthInsert p s) := by
  unfold execSynthInsert
  repeat' first
    | with_reducible assumption
    | with_reducible exact List.Subset.trans (by decide) hg
    | with_reducible exact Regular.keep rfl
    | (intro g hgn; cases g <;> first | exact (Keeps.out hg (by decide) hgn).elim | with_reducible rfl)
    | (extract_lets +onlyGivenNames s1; refine Keeps.have_ (gs := gs) (o := o0) (t := s1) ?_ (fun h => ?_); (on_goal 1 => subst s1); (on_goal 2 => try clear_value s1))
    | (extract_lets +onlyGivenNames n1; first | (have p : Sys := n1; clear p; subst n1) | (have p : Et := n1; clear p; subst n1) | (have p : Hm := n1; clear p; subst n1) | (have p : Opt := n1; clear p; subst n1) | (have p : Xg := n1; clear p; subst n1) | (have p : Sns := n1; clear p; subst n1) | (have p : Ev := n1; clear p; subst n1) | clear_value n1)
    | (with_reducible refine Keeps.foldl (fun t x h => ?_) ?_)
    | (with_reducible refine KeepsOut.next ?_)
    | with_reducible apply Keeps.advanceSynth_keeps
    | (simp -zeta only [Keeps.mark]; with_reducible refine KeepsLit.intro rfl ?_ ?_ ?_)
    | split

theorem Keeps.execQuiesceTimeout_keeps {gs : List Group} (hg : [.sys, .mbx, .opt, .ls, .ev] ⊆ gs) {o0 s : State} (h0 : Keeps gs o0 s) (p : Fin 64) : KeepsOut gs o0 (execQuiesceTimeout p s) := by
  unfold execQuiesceTimeout
  repeat' first
    | with_reducible assumption
    | with_reducible exact List.Subset.trans (by decide) hg
    | with_reducible exact Regular.keep rfl
    | (intro g hgn; cases g <;> first | exact (Keeps.out hg (by decide) hgn).elim | with_reducible rfl)
    | (extract_lets +onlyGivenNames s1; refine Keeps.have_ (gs := gs) (o := o0) (t := s1) ?_ (fun h => ?_); (on_goal 1 => subst s1); (on_goal 2 => try clear_value s1))
    | (extract_lets +onlyGivenNames n1; first | (have p : Sys := n1; clear p; subst n1) | (have p : Et := n1; clear p; subst n1) | (have p : Hm := n1; clear p; subst n1) | (have p : Opt := n1; clear p; subst n1) | (have p : Xg := n1; clear p; subst n1) | (have p : Sns := n1; clear p; subst n1) | (have p : Ev := n1; clear p; subst n1) | clear_value n1)
    | (with_reducible refine Keeps.foldl (fun t x h => ?_) ?_)
    | (with_reducible refine KeepsOut.next ?_)
    | with_reducible apply Keeps.advanceSynth_keeps
    | with_reducible apply Keeps.endIns_keeps
    | with_reducible apply Keeps.modPort_keeps
    | with_reducible apply Keeps.spareBits_keeps
    | with_reducible apply Keeps.spareFollow_keeps
    | (simp -zeta only [Keeps.mark]; with_reducible refine KeepsLit.intro rfl ?_ ?_ ?_)
    | (with_reducible refine Keeps.ite ?_ ?_)
    | split

theorem Keeps.noteBand_keeps {gs : List Group} (hg : [.ls] ⊆ gs) {o0 s : State} (h0 : Keeps gs o0 s) (i : Nat) (band : BitVec 8) : Keeps gs o0 (State.noteBand s i band) := by
  unfold State.noteBand
  repeat' first
    | with_reducible assumption
    | with_reducible exact List.Subset.trans (by decide) hg
    | with_reducible exact Regular.keep rfl
    | (intro g hgn; cases g <;> first | exact (Keeps.out hg (by decide) hgn).elim | with_reducible rfl)
    | (extract_lets +onlyGivenNames s1; refine Keeps.have_ (gs := gs) (o := o0) (t := s1) ?_ (fun h => ?_); (on_goal 1 => subst s1); (on_goal 2 => try clear_value s1))
    | (extract_lets +onlyGivenNames n1; first | (have p : Sys := n1; clear p; subst n1) | (have p : Et := n1; clear p; subst n1) | (have p : Hm := n1; clear p; subst n1) | (have p : Opt := n1; clear p; subst n1) | (have p : Xg := n1; clear p; subst n1) | (have p : Sns := n1; clear p; subst n1) | (have p : Ev := n1; clear p; subst n1) | clear_value n1)
    | (with_reducible refine Keeps.foldl (fun t x h => ?_) ?_)
    | with_reducible apply Keeps.modSynth_keeps
    | (simp -zeta only [Keeps.mark]; with_reducible refine KeepsLit.intro rfl ?_ ?_ ?_)
    | split

theorem Keeps.execSynthRelockDone_keeps {gs : List Group} (hg : [.sys, .mbx, .opt, .ls, .ev] ⊆ gs) {o0 s : State} (h0 : Keeps gs o0 s) (i : Fin 72) (cw : BitVec 12) (band : BitVec 8) : KeepsOut gs o0 (execSynthRelockDone i cw band s) := by
  unfold execSynthRelockDone
  repeat' first
    | with_reducible assumption
    | with_reducible exact List.Subset.trans (by decide) hg
    | with_reducible exact Regular.keep rfl
    | (intro g hgn; cases g <;> first | exact (Keeps.out hg (by decide) hgn).elim | with_reducible rfl)
    | (extract_lets +onlyGivenNames s1; refine Keeps.have_ (gs := gs) (o := o0) (t := s1) ?_ (fun h => ?_); (on_goal 1 => subst s1); (on_goal 2 => try clear_value s1))
    | (extract_lets +onlyGivenNames n1; first | (have p : Sys := n1; clear p; subst n1) | (have p : Et := n1; clear p; subst n1) | (have p : Hm := n1; clear p; subst n1) | (have p : Opt := n1; clear p; subst n1) | (have p : Xg := n1; clear p; subst n1) | (have p : Sns := n1; clear p; subst n1) | (have p : Ev := n1; clear p; subst n1) | clear_value n1)
    | (with_reducible refine Keeps.foldl (fun t x h => ?_) ?_)
    | (with_reducible refine KeepsOut.next ?_)
    | with_reducible apply Keeps.advanceSynth_keeps
    | with_reducible apply Keeps.grant_keeps
    | with_reducible apply Keeps.modSynth_keeps
    | with_reducible apply Keeps.noteBand_keeps
    | with_reducible apply Keeps.spareFollow_keeps
    | (simp -zeta only [Keeps.mark]; with_reducible refine KeepsLit.intro rfl ?_ ?_ ?_)
    | (with_reducible refine Keeps.ite ?_ ?_)
    | split

theorem Keeps.execPortStateChange_keeps {gs : List Group} (hg : [.sys, .mbx, .opt, .ls, .ev] ⊆ gs) {o0 s : State} (h0 : Keeps gs o0 s) (p : Fin 64) (st : PortState) : KeepsOut gs o0 (execPortStateChange p st s) := by
  unfold execPortStateChange
  repeat' first
    | with_reducible assumption
    | with_reducible exact List.Subset.trans (by decide) hg
    | with_reducible exact Regular.keep rfl
    | (intro g hgn; cases g <;> first | exact (Keeps.out hg (by decide) hgn).elim | with_reducible rfl)
    | (extract_lets +onlyGivenNames s1; refine Keeps.have_ (gs := gs) (o := o0) (t := s1) ?_ (fun h => ?_); (on_goal 1 => subst s1); (on_goal 2 => try clear_value s1))
    | (extract_lets +onlyGivenNames n1; first | (have p : Sys := n1; clear p; subst n1) | (have p : Et := n1; clear p; subst n1) | (have p : Hm := n1; clear p; subst n1) | (have p : Opt := n1; clear p; subst n1) | (have p : Xg := n1; clear p; subst n1) | (have p : Sns := n1; clear p; subst n1) | (have p : Ev := n1; clear p; subst n1) | clear_value n1)
    | (with_reducible refine Keeps.foldl (fun t x h => ?_) ?_)
    | (with_reducible refine KeepsOut.next ?_)
    | with_reducible apply Keeps.advanceSynth_keeps
    | with_reducible apply Keeps.grant_keeps
    | with_reducible apply Keeps.modPort_keeps
    | with_reducible apply Keeps.relock_keeps
    | with_reducible apply Keeps.relockHalf_keeps
    | with_reducible apply Keeps.spareFollow_keeps
    | (simp -zeta only [Keeps.mark]; with_reducible refine KeepsLit.intro rfl ?_ ?_ ?_)
    | (with_reducible refine Keeps.ite ?_ ?_)
    | split

theorem Keeps.execClkGrantTimeout_keeps {gs : List Group} (hg : [.ls] ⊆ gs) {o0 s : State} (h0 : Keeps gs o0 s) (p : Fin 64) : KeepsOut gs o0 (execClkGrantTimeout p s) := by
  unfold execClkGrantTimeout
  repeat' first
    | with_reducible assumption
    | with_reducible exact List.Subset.trans (by decide) hg
    | with_reducible exact Regular.keep rfl
    | (intro g hgn; cases g <;> first | exact (Keeps.out hg (by decide) hgn).elim | with_reducible rfl)
    | (extract_lets +onlyGivenNames s1; refine Keeps.have_ (gs := gs) (o := o0) (t := s1) ?_ (fun h => ?_); (on_goal 1 => subst s1); (on_goal 2 => try clear_value s1))
    | (extract_lets +onlyGivenNames n1; first | (have p : Sys := n1; clear p; subst n1) | (have p : Et := n1; clear p; subst n1) | (have p : Hm := n1; clear p; subst n1) | (have p : Opt := n1; clear p; subst n1) | (have p : Xg := n1; clear p; subst n1) | (have p : Sns := n1; clear p; subst n1) | (have p : Ev := n1; clear p; subst n1) | clear_value n1)
    | (with_reducible refine Keeps.foldl (fun t x h => ?_) ?_)
    | (with_reducible refine KeepsOut.next ?_)
    | with_reducible apply Keeps.grant_keeps
    | with_reducible apply Keeps.modPort_keeps
    | (simp -zeta only [Keeps.mark]; with_reducible refine KeepsLit.intro rfl ?_ ?_ ?_)
    | (with_reducible refine Keeps.ite ?_ ?_)
    | split

theorem Keeps.execRenegotiateFull_keeps {gs : List Group} (hg : [.ls] ⊆ gs) {o0 s : State} (h0 : Keeps gs o0 s) (p : Fin 64) : KeepsOut gs o0 (execRenegotiateFull p s) := by
  unfold execRenegotiateFull
  repeat' first
    | with_reducible assumption
    | with_reducible exact List.Subset.trans (by decide) hg
    | with_reducible exact Regular.keep rfl
    | (intro g hgn; cases g <;> first | exact (Keeps.out hg (by decide) hgn).elim | with_reducible rfl)
    | (extract_lets +onlyGivenNames s1; refine Keeps.have_ (gs := gs) (o := o0) (t := s1) ?_ (fun h => ?_); (on_goal 1 => subst s1); (on_goal 2 => try clear_value s1))
    | (extract_lets +onlyGivenNames n1; first | (have p : Sys := n1; clear p; subst n1) | (have p : Et := n1; clear p; subst n1) | (have p : Hm := n1; clear p; subst n1) | (have p : Opt := n1; clear p; subst n1) | (have p : Xg := n1; clear p; subst n1) | (have p : Sns := n1; clear p; subst n1) | (have p : Ev := n1; clear p; subst n1) | clear_value n1)
    | (with_reducible refine Keeps.foldl (fun t x h => ?_) ?_)
    | (with_reducible refine KeepsOut.next ?_)
    | with_reducible apply Keeps.reneg_keeps
    | (simp -zeta only [Keeps.mark]; with_reducible refine KeepsLit.intro rfl ?_ ?_ ?_)
    | (with_reducible refine Keeps.ite ?_ ?_)
    | split

theorem Keeps.spareLost_keeps {gs : List Group} (hg : [.sys, .mbx, .opt, .ls, .ev] ⊆ gs) {o0 s : State} (h0 : Keeps gs o0 s) (x : Insertion) : Keeps gs o0 (State.spareLost s x) := by
  unfold State.spareLost
  repeat' first
    | with_reducible assumption
    | with_reducible exact List.Subset.trans (by decide) hg
    | with_reducible exact Regular.keep rfl
    | (intro g hgn; cases g <;> first | exact (Keeps.out hg (by decide) hgn).elim | with_reducible rfl)
    | (extract_lets +onlyGivenNames s1; refine Keeps.have_ (gs := gs) (o := o0) (t := s1) ?_ (fun h => ?_); (on_goal 1 => subst s1); (on_goal 2 => try clear_value s1))
    | (extract_lets +onlyGivenNames n1; first | (have p : Sys := n1; clear p; subst n1) | (have p : Et := n1; clear p; subst n1) | (have p : Hm := n1; clear p; subst n1) | (have p : Opt := n1; clear p; subst n1) | (have p : Xg := n1; clear p; subst n1) | (have p : Sns := n1; clear p; subst n1) | (have p : Ev := n1; clear p; subst n1) | clear_value n1)
    | (with_reducible refine Keeps.foldl (fun t x h => ?_) ?_)
    | with_reducible apply Keeps.advanceSynth_keeps
    | with_reducible apply Keeps.insStep_keeps
    | with_reducible apply Keeps.modPort_keeps
    | with_reducible apply Keeps.noneLeft_keeps
    | (simp -zeta only [Keeps.mark]; with_reducible refine KeepsLit.intro rfl ?_ ?_ ?_)
    | (with_reducible refine Keeps.ite ?_ ?_)
    | split

theorem Keeps.synthDown_keeps {gs : List Group} (hg : [.sys, .mbx, .opt, .ls, .ev] ⊆ gs) {o0 s : State} (h0 : Keeps gs o0 s) (i : Nat) : Keeps gs o0 (State.synthDown s i) := by
  unfold State.synthDown
  repeat' first
    | with_reducible assumption
    | with_reducible exact List.Subset.trans (by decide) hg
    | with_reducible exact Regular.keep rfl
    | (intro g hgn; cases g <;> first | exact (Keeps.out hg (by decide) hgn).elim | with_reducible rfl)
    | (extract_lets +onlyGivenNames s1; refine Keeps.have_ (gs := gs) (o := o0) (t := s1) ?_ (fun h => ?_); (on_goal 1 => subst s1); (on_goal 2 => try clear_value s1))
    | (extract_lets +onlyGivenNames n1; first | (have p : Sys := n1; clear p; subst n1) | (have p : Et := n1; clear p; subst n1) | (have p : Hm := n1; clear p; subst n1) | (have p : Opt := n1; clear p; subst n1) | (have p : Xg := n1; clear p; subst n1) | (have p : Sns := n1; clear p; subst n1) | (have p : Ev := n1; clear p; subst n1) | clear_value n1)
    | (with_reducible refine Keeps.foldl (fun t x h => ?_) ?_)
    | with_reducible apply Keeps.advanceSynth_keeps
    | with_reducible apply Keeps.modPort_keeps
    | with_reducible apply Keeps.modSynth_keeps
    | with_reducible apply Keeps.noSpareFor_keeps
    | with_reducible apply Keeps.raise_keeps
    | with_reducible apply Keeps.requestIns_keeps
    | with_reducible apply Keeps.spareBits_keeps
    | with_reducible apply Keeps.spareLost_keeps
    | (simp -zeta only [Keeps.mark]; with_reducible refine KeepsLit.intro rfl ?_ ?_ ?_)
    | (with_reducible refine Keeps.ite ?_ ?_)
    | split

theorem Keeps.synthFailed_keeps {gs : List Group} (hg : [.sys, .mbx, .opt, .ls, .ev] ⊆ gs) {o0 s : State} (h0 : Keeps gs o0 s) (i : Nat) : Keeps gs o0 (State.synthFailed s i) := by
  unfold State.synthFailed
  repeat' first
    | with_reducible assumption
    | with_reducible exact List.Subset.trans (by decide) hg
    | with_reducible exact Regular.keep rfl
    | (intro g hgn; cases g <;> first | exact (Keeps.out hg (by decide) hgn).elim | with_reducible rfl)
    | (extract_lets +onlyGivenNames s1; refine Keeps.have_ (gs := gs) (o := o0) (t := s1) ?_ (fun h => ?_); (on_goal 1 => subst s1); (on_goal 2 => try clear_value s1))
    | (extract_lets +onlyGivenNames n1; first | (have p : Sys := n1; clear p; subst n1) | (have p : Et := n1; clear p; subst n1) | (have p : Hm := n1; clear p; subst n1) | (have p : Opt := n1; clear p; subst n1) | (have p : Xg := n1; clear p; subst n1) | (have p : Sns := n1; clear p; subst n1) | (have p : Ev := n1; clear p; subst n1) | clear_value n1)
    | (with_reducible refine Keeps.foldl (fun t x h => ?_) ?_)
    | with_reducible apply Keeps.spareFollow_keeps
    | with_reducible apply Keeps.synthDown_keeps
    | (simp -zeta only [Keeps.mark]; with_reducible refine KeepsLit.intro rfl ?_ ?_ ?_)
    | split

theorem Keeps.execSynthFail_keeps {gs : List Group} (hg : [.sys, .mbx, .opt, .ls, .ev] ⊆ gs) {o0 s : State} (h0 : Keeps gs o0 s) (i : Fin 72) (why : SynthFault) : KeepsOut gs o0 (execSynthFail i why s) := by
  unfold execSynthFail
  repeat' first
    | with_reducible assumption
    | with_reducible exact List.Subset.trans (by decide) hg
    | with_reducible exact Regular.keep rfl
    | (intro g hgn; cases g <;> first | exact (Keeps.out hg (by decide) hgn).elim | with_reducible rfl)
    | (extract_lets +onlyGivenNames s1; refine Keeps.have_ (gs := gs) (o := o0) (t := s1) ?_ (fun h => ?_); (on_goal 1 => subst s1); (on_goal 2 => try clear_value s1))
    | (extract_lets +onlyGivenNames n1; first | (have p : Sys := n1; clear p; subst n1) | (have p : Et := n1; clear p; subst n1) | (have p : Hm := n1; clear p; subst n1) | (have p : Opt := n1; clear p; subst n1) | (have p : Xg := n1; clear p; subst n1) | (have p : Sns := n1; clear p; subst n1) | (have p : Ev := n1; clear p; subst n1) | clear_value n1)
    | (with_reducible refine Keeps.foldl (fun t x h => ?_) ?_)
    | (with_reducible refine KeepsOut.next ?_)
    | with_reducible apply Keeps.synthFailed_keeps
    | (simp -zeta only [Keeps.mark]; with_reducible refine KeepsLit.intro rfl ?_ ?_ ?_)
    | (with_reducible refine Keeps.ite ?_ ?_)
    | split

theorem Keeps.execLossOfLock_keeps {gs : List Group} (hg : [.ls] ⊆ gs) {o0 s : State} (h0 : Keeps gs o0 s) (i : Fin 72) : KeepsOut gs o0 (execLossOfLock i s) := by
  unfold execLossOfLock
  repeat' first
    | with_reducible assumption
    | with_reducible exact List.Subset.trans (by decide) hg
    | with_reducible exact Regular.keep rfl
    | (intro g hgn; cases g <;> first | exact (Keeps.out hg (by decide) hgn).elim | with_reducible rfl)
    | (extract_lets +onlyGivenNames s1; refine Keeps.have_ (gs := gs) (o := o0) (t := s1) ?_ (fun h => ?_); (on_goal 1 => subst s1); (on_goal 2 => try clear_value s1))
    | (extract_lets +onlyGivenNames n1; first | (have p : Sys := n1; clear p; subst n1) | (have p : Et := n1; clear p; subst n1) | (have p : Hm := n1; clear p; subst n1) | (have p : Opt := n1; clear p; subst n1) | (have p : Xg := n1; clear p; subst n1) | (have p : Sns := n1; clear p; subst n1) | (have p : Ev := n1; clear p; subst n1) | clear_value n1)
    | (with_reducible refine Keeps.foldl (fun t x h => ?_) ?_)
    | (with_reducible refine KeepsOut.next ?_)
    | with_reducible apply Keeps.modSynth_keeps
    | (simp -zeta only [Keeps.mark]; with_reducible refine KeepsLit.intro rfl ?_ ?_ ?_)
    | (with_reducible refine Keeps.ite ?_ ?_)
    | split

theorem Keeps.execSynthJitterMeasure_keeps {gs : List Group} (hg : [.mbx, .opt, .ls, .ev] ⊆ gs) {o0 s : State} (h0 : Keeps gs o0 s) (i : Fin 72) (fs : BitVec 16) : KeepsOut gs o0 (execSynthJitterMeasure i fs s) := by
  unfold execSynthJitterMeasure
  repeat' first
    | with_reducible assumption
    | with_reducible exact List.Subset.trans (by decide) hg
    | with_reducible exact Regular.keep rfl
    | (intro g hgn; cases g <;> first | exact (Keeps.out hg (by decide) hgn).elim | with_reducible rfl)
    | (extract_lets +onlyGivenNames s1; refine Keeps.have_ (gs := gs) (o := o0) (t := s1) ?_ (fun h => ?_); (on_goal 1 => subst s1); (on_goal 2 => try clear_value s1))
    | (extract_lets +onlyGivenNames n1; first | (have p : Sys := n1; clear p; subst n1) | (have p : Et := n1; clear p; subst n1) | (have p : Hm := n1; clear p; subst n1) | (have p : Opt := n1; clear p; subst n1) | (have p : Xg := n1; clear p; subst n1) | (have p : Sns := n1; clear p; subst n1) | (have p : Ev := n1; clear p; subst n1) | clear_value n1)
    | (with_reducible refine Keeps.foldl (fun t x h => ?_) ?_)
    | (with_reducible refine KeepsOut.next ?_)
    | with_reducible apply Keeps.modSynth_keeps
    | with_reducible apply Keeps.raise_keeps
    | with_reducible apply Keeps.requestIns_keeps
    | (simp -zeta only [Keeps.mark]; with_reducible refine KeepsLit.intro rfl ?_ ?_ ?_)
    | (with_reducible refine Keeps.ite ?_ ?_)
    | split

theorem Keeps.synthOff_keeps {gs : List Group} (hg : [.ls] ⊆ gs) {o0 s : State} (h0 : Keeps gs o0 s) (i : Nat) : Keeps gs o0 (State.synthOff s i) := by
  unfold State.synthOff
  repeat' first
    | with_reducible assumption
    | with_reducible exact List.Subset.trans (by decide) hg
    | with_reducible exact Regular.keep rfl
    | (intro g hgn; cases g <;> first | exact (Keeps.out hg (by decide) hgn).elim | with_reducible rfl)
    | (extract_lets +onlyGivenNames s1; refine Keeps.have_ (gs := gs) (o := o0) (t := s1) ?_ (fun h => ?_); (on_goal 1 => subst s1); (on_goal 2 => try clear_value s1))
    | (extract_lets +onlyGivenNames n1; first | (have p : Sys := n1; clear p; subst n1) | (have p : Et := n1; clear p; subst n1) | (have p : Hm := n1; clear p; subst n1) | (have p : Opt := n1; clear p; subst n1) | (have p : Xg := n1; clear p; subst n1) | (have p : Sns := n1; clear p; subst n1) | (have p : Ev := n1; clear p; subst n1) | clear_value n1)
    | (with_reducible refine Keeps.foldl (fun t x h => ?_) ?_)
    | with_reducible apply Keeps.modSynth_keeps
    | with_reducible apply Keeps.spareBits_keeps
    | (simp -zeta only [Keeps.mark]; with_reducible refine KeepsLit.intro rfl ?_ ?_ ?_)
    | (with_reducible refine Keeps.ite ?_ ?_)
    | split

theorem Keeps.synthOn_keeps {gs : List Group} (hg : [.ls] ⊆ gs) {o0 s : State} (h0 : Keeps gs o0 s) (i : Nat) : Keeps gs o0 (State.synthOn s i) := by
  unfold State.synthOn
  repeat' first
    | with_reducible assumption
    | with_reducible exact List.Subset.trans (by decide) hg
    | with_reducible exact Regular.keep rfl
    | (intro g hgn; cases g <;> first | exact (Keeps.out hg (by decide) hgn).elim | with_reducible rfl)
    | (extract_lets +onlyGivenNames s1; refine Keeps.have_ (gs := gs) (o := o0) (t := s1) ?_ (fun h => ?_); (on_goal 1 => subst s1); (on_goal 2 => try clear_value s1))
    | (extract_lets +onlyGivenNames n1; first | (have p : Sys := n1; clear p; subst n1) | (have p : Et := n1; clear p; subst n1) | (have p : Hm := n1; clear p; subst n1) | (have p : Opt := n1; clear p; subst n1) | (have p : Xg := n1; clear p; subst n1) | (have p : Sns := n1; clear p; subst n1) | (have p : Ev := n1; clear p; subst n1) | clear_value n1)
    | (with_reducible refine Keeps.foldl (fun t x h => ?_) ?_)
    | with_reducible apply Keeps.coldLock_keeps
    | with_reducible apply Keeps.modSynth_keeps
    | with_reducible apply Keeps.spareBits_keeps
    | (simp -zeta only [Keeps.mark]; with_reducible refine KeepsLit.intro rfl ?_ ?_ ?_)
    | (with_reducible refine Keeps.ite ?_ ?_)
    | split

theorem Keeps.writeEn_keeps {gs : List Group} (hg : [.ls, .ev] ⊆ gs) {o0 s : State} (h0 : Keeps gs o0 s) (i : Nat) (en : Bool) (override : Bool) : KeepsOpt gs o0 (State.writeEn s i en override) := by
  unfold State.writeEn
  repeat' first
    | with_reducible assumption
    | with_reducible exact List.Subset.trans (by decide) hg
    | with_reducible exact Regular.keep rfl
    | (intro g hgn; cases g <;> first | exact (Keeps.out hg (by decide) hgn).elim | with_reducible rfl)
    | (extract_lets +onlyGivenNames s1; refine Keeps.have_ (gs := gs) (o := o0) (t := s1) ?_ (fun h => ?_); (on_goal 1 => subst s1); (on_goal 2 => try clear_value s1))
    | (extract_lets +onlyGivenNames n1; first | (have p : Sys := n1; clear p; subst n1) | (have p : Et := n1; clear p; subst n1) | (have p : Hm := n1; clear p; subst n1) | (have p : Opt := n1; clear p; subst n1) | (have p : Xg := n1; clear p; subst n1) | (have p : Sns := n1; clear p; subst n1) | (have p : Ev := n1; clear p; subst n1) | clear_value n1)
    | (with_reducible refine Keeps.foldl (fun t x h => ?_) ?_)
    | (with_reducible refine KeepsOpt.some_ ?_)
    | (with_reducible exact KeepsOpt.none_)
    | with_reducible apply Keeps.raise_keeps
    | with_reducible apply Keeps.synthOff_keeps
    | with_reducible apply Keeps.synthOn_keeps
    | (simp -zeta only [Keeps.mark]; with_reducible refine KeepsLit.intro rfl ?_ ?_ ?_)
    | (with_reducible refine Keeps.ite ?_ ?_)
    | split

theorem Keeps.writePin_keeps {gs : List Group} (hg : [.ls] ⊆ gs) {o0 s : State} (h0 : Keeps gs o0 s) (i : Nat) (set : Bool) : Keeps gs o0 (State.writePin s i set) := by
  unfold State.writePin
  repeat' first
    | with_reducible assumption
    | with_reducible exact List.Subset.trans (by decide) hg
    | with_reducible exact Regular.keep rfl
    | (intro g hgn; cases g <;> first | exact (Keeps.out hg (by decide) hgn).elim | with_reducible rfl)
    | (extract_lets +onlyGivenNames s1; refine Keeps.have_ (gs := gs) (o := o0) (t := s1) ?_ (fun h => ?_); (on_goal 1 => subst s1); (on_goal 2 => try clear_value s1))
    | (extract_lets +onlyGivenNames n1; first | (have p : Sys := n1; clear p; subst n1) | (have p : Et := n1; clear p; subst n1) | (have p : Hm := n1; clear p; subst n1) | (have p : Opt := n1; clear p; subst n1) | (have p : Xg := n1; clear p; subst n1) | (have p : Sns := n1; clear p; subst n1) | (have p : Ev := n1; clear p; subst n1) | clear_value n1)
    | (with_reducible refine Keeps.foldl (fun t x h => ?_) ?_)
    | with_reducible apply Keeps.modSynth_keeps
    | with_reducible apply Keeps.reneg_keeps
    | (simp -zeta only [Keeps.mark]; with_reducible refine KeepsLit.intro rfl ?_ ?_ ?_)
    | (with_reducible refine Keeps.ite ?_ ?_)
    | split

theorem Keeps.execMbLsEnWrite_keeps {gs : List Group} (hg : [.ls, .ev] ⊆ gs) {o0 s : State} (h0 : Keeps gs o0 s) (i : Fin 72) (en : Bool) (override : Bool) : KeepsOut gs o0 (execMbLsEnWrite i en override s) := by
  unfold execMbLsEnWrite
  repeat' first
    | with_reducible assumption
    | with_reducible exact List.Subset.trans (by decide) hg
    | with_reducible exact Regular.keep rfl
    | (intro g hgn; cases g <;> first | exact (Keeps.out hg (by decide) hgn).elim | with_reducible rfl)
    | (extract_lets +onlyGivenNames s1; refine Keeps.have_ (gs := gs) (o := o0) (t := s1) ?_ (fun h => ?_); (on_goal 1 => subst s1); (on_goal 2 => try clear_value s1))
    | (extract_lets +onlyGivenNames n1; first | (have p : Sys := n1; clear p; subst n1) | (have p : Et := n1; clear p; subst n1) | (have p : Hm := n1; clear p; subst n1) | (have p : Opt := n1; clear p; subst n1) | (have p : Xg := n1; clear p; subst n1) | (have p : Sns := n1; clear p; subst n1) | (have p : Ev := n1; clear p; subst n1) | clear_value n1)
    | (with_reducible refine Keeps.foldl (fun t x h => ?_) ?_)
    | (with_reducible refine KeepsOut.next ?_)
    | with_reducible apply Keeps.writeEn_keeps
    | (simp -zeta only [Keeps.mark]; with_reducible refine KeepsLit.intro rfl ?_ ?_ ?_)
    | (with_reducible refine KeepsOpt.getD ?_ ?_)
    | (with_reducible refine Keeps.optEq (by assumption) ?_)
    | (with_reducible refine Keeps.pairEq1 (by assumption) ?_)
    | (with_reducible refine Keeps.pairEq2 (by assumption) ?_)
    | split

theorem Keeps.execPinHalfWrite_keeps {gs : List Group} (hg : [.ls] ⊆ gs) {o0 s : State} (h0 : Keeps gs o0 s) (i : Fin 72) (set : Bool) : KeepsOut gs o0 (execPinHalfWrite i set s) := by
  unfold execPinHalfWrite
  repeat' first
    | with_reducible assumption
    | with_reducible exact List.Subset.trans (by decide) hg
    | with_reducible exact Regular.keep rfl
    | (intro g hgn; cases g <;> first | exact (Keeps.out hg (by decide) hgn).elim | with_reducible rfl)
    | (extract_lets +onlyGivenNames s1; refine Keeps.have_ (gs := gs) (o := o0) (t := s1) ?_ (fun h => ?_); (on_goal 1 => subst s1); (on_goal 2 => try clear_value s1))
    | (extract_lets +onlyGivenNames n1; first | (have p : Sys := n1; clear p; subst n1) | (have p : Et := n1; clear p; subst n1) | (have p : Hm := n1; clear p; subst n1) | (have p : Opt := n1; clear p; subst n1) | (have p : Xg := n1; clear p; subst n1) | (have p : Sns := n1; clear p; subst n1) | (have p : Ev := n1; clear p; subst n1) | clear_value n1)
    | (with_reducible refine Keeps.foldl (fun t x h => ?_) ?_)
    | (with_reducible refine KeepsOut.next ?_)
    | with_reducible apply Keeps.writePin_keeps
    | (simp -zeta only [Keeps.mark]; with_reducible refine KeepsLit.intro rfl ?_ ?_ ?_)
    | split

theorem Keeps.clearLs_keeps {gs : List Group} (hg : [.ls] ⊆ gs) {o0 s : State} (h0 : Keeps gs o0 s) : Keeps gs o0 (State.clearLs s) := by
  unfold State.clearLs
  repeat' first
    | with_reducible assumption
    | with_reducible exact List.Subset.trans (by decide) hg
    | with_reducible exact Regular.keep rfl
    | (intro g hgn; cases g <;> first | exact (Keeps.out hg (by decide) hgn).elim | with_reducible rfl)
    | (extract_lets +onlyGivenNames s1; refine Keeps.have_ (gs := gs) (o := o0) (t := s1) ?_ (fun h => ?_); (on_goal 1 => subst s1); (on_goal 2 => try clear_value s1))
    | (extract_lets +onlyGivenNames n1; first | (have p : Sys := n1; clear p; subst n1) | (have p : Et := n1; clear p; subst n1) | (have p : Hm := n1; clear p; subst n1) | (have p : Opt := n1; clear p; subst n1) | (have p : Xg := n1; clear p; subst n1) | (have p : Sns := n1; clear p; subst n1) | (have p : Ev := n1; clear p; subst n1) | clear_value n1)
    | (with_reducible refine Keeps.foldl (fun t x h => ?_) ?_)
    | with_reducible apply Keeps.modSynth_keeps
    | (simp -zeta only [Keeps.mark]; with_reducible refine KeepsLit.intro rfl ?_ ?_ ?_)
    | split

theorem Keeps.execClearLsCounters_keeps {gs : List Group} (hg : [.ls] ⊆ gs) {o0 s : State} (h0 : Keeps gs o0 s) : KeepsOut gs o0 (execClearLsCounters s) := by
  unfold execClearLsCounters
  repeat' first
    | with_reducible assumption
    | with_reducible exact List.Subset.trans (by decide) hg
    | with_reducible exact Regular.keep rfl
    | (intro g hgn; cases g <;> first | exact (Keeps.out hg (by decide) hgn).elim | with_reducible rfl)
    | (extract_lets +onlyGivenNames s1; refine Keeps.have_ (gs := gs) (o := o0) (t := s1) ?_ (fun h => ?_); (on_goal 1 => subst s1); (on_goal 2 => try clear_value s1))
    | (extract_lets +onlyGivenNames n1; first | (have p : Sys := n1; clear p; subst n1) | (have p : Et := n1; clear p; subst n1) | (have p : Hm := n1; clear p; subst n1) | (have p : Opt := n1; clear p; subst n1) | (have p : Xg := n1; clear p; subst n1) | (have p : Sns := n1; clear p; subst n1) | (have p : Ev := n1; clear p; subst n1) | clear_value n1)
    | (with_reducible refine Keeps.foldl (fun t x h => ?_) ?_)
    | (with_reducible refine KeepsOut.next ?_)
    | with_reducible apply Keeps.clearLs_keeps
    | (simp -zeta only [Keeps.mark]; with_reducible refine KeepsLit.intro rfl ?_ ?_ ?_)
    | split

theorem Keeps.cmdSynthQuery_keeps {gs : List Group} (hg : [] ⊆ gs) {o0 s : State} (h0 : Keeps gs o0 s) (q : Req) : KeepsRes gs o0 (cmdSynthQuery q s) := by
  unfold cmdSynthQuery
  repeat' first
    | with_reducible assumption
    | with_reducible exact List.Subset.trans (by decide) hg
    | with_reducible exact Regular.keep rfl
    | (intro g hgn; cases g <;> first | exact (Keeps.out hg (by decide) hgn).elim | with_reducible rfl)
    | (extract_lets +onlyGivenNames s1; refine KeepsRes.have_ (gs := gs) (o := o0) (r := s1) ?_ (fun h => ?_); (on_goal 1 => subst s1); (on_goal 2 => try clear_value s1))
    | (extract_lets +onlyGivenNames s1; refine Keeps.have_ (gs := gs) (o := o0) (t := s1) ?_ (fun h => ?_); (on_goal 1 => subst s1); (on_goal 2 => try clear_value s1))
    | (extract_lets +onlyGivenNames n1; first | (have p : Sys := n1; clear p; subst n1) | (have p : Et := n1; clear p; subst n1) | (have p : Hm := n1; clear p; subst n1) | (have p : Opt := n1; clear p; subst n1) | (have p : Xg := n1; clear p; subst n1) | (have p : Sns := n1; clear p; subst n1) | (have p : Ev := n1; clear p; subst n1) | clear_value n1)
    | (with_reducible refine Keeps.foldl (fun t x h => ?_) ?_)
    | (with_reducible refine KeepsRes.done ?_)
    | (with_reducible refine KeepsRes.wait ?_)
    | (with_reducible refine KeepsRes.refuse ?_)
    | with_reducible apply Keeps.refuse_keeps
    | (simp -zeta only [Keeps.mark]; with_reducible refine KeepsLit.intro rfl ?_ ?_ ?_)
    | (with_reducible refine Keeps.ite ?_ ?_)
    | split

theorem Keeps.execSynthQuery_keeps {gs : List Group} (hg : [.mbx] ⊆ gs) {o0 s : State} (h0 : Keeps gs o0 s) (q : Req) : KeepsOut gs o0 (execSynthQuery q s) := by
  unfold execSynthQuery
  repeat' first
    | with_reducible assumption
    | with_reducible exact List.Subset.trans (by decide) hg
    | with_reducible exact Regular.keep rfl
    | (intro g hgn; cases g <;> first | exact (Keeps.out hg (by decide) hgn).elim | with_reducible rfl)
    | (extract_lets +onlyGivenNames s1; refine Keeps.have_ (gs := gs) (o := o0) (t := s1) ?_ (fun h => ?_); (on_goal 1 => subst s1); (on_goal 2 => try clear_value s1))
    | (extract_lets +onlyGivenNames n1; first | (have p : Sys := n1; clear p; subst n1) | (have p : Et := n1; clear p; subst n1) | (have p : Hm := n1; clear p; subst n1) | (have p : Opt := n1; clear p; subst n1) | (have p : Xg := n1; clear p; subst n1) | (have p : Sns := n1; clear p; subst n1) | (have p : Ev := n1; clear p; subst n1) | clear_value n1)
    | (with_reducible refine Keeps.foldl (fun t x h => ?_) ?_)
    | (with_reducible refine KeepsOut.next ?_)
    | (with_reducible refine Keeps.submit_keeps ?_ ?_ _ _ (fun q t h => ?_) _)
    | with_reducible apply Keeps.cmdSynthQuery_keeps
    | (simp -zeta only [Keeps.mark]; with_reducible refine KeepsLit.intro rfl ?_ ?_ ?_)
    | split

theorem Keeps.cmdSynthSetMode_keeps {gs : List Group} (hg : [.ls, .ev] ⊆ gs) {o0 s : State} (h0 : Keeps gs o0 s) (q : Req) : KeepsRes gs o0 (cmdSynthSetMode q s) := by
  unfold cmdSynthSetMode
  repeat' first
    | with_reducible assumption
    | with_reducible exact List.Subset.trans (by decide) hg
    | with_reducible exact Regular.keep rfl
    | (intro g hgn; cases g <;> first | exact (Keeps.out hg (by decide) hgn).elim | with_reducible rfl)
    | (extract_lets +onlyGivenNames s1; refine KeepsRes.have_ (gs := gs) (o := o0) (r := s1) ?_ (fun h => ?_); (on_goal 1 => subst s1); (on_goal 2 => try clear_value s1))
    | (extract_lets +onlyGivenNames s1; refine Keeps.have_ (gs := gs) (o := o0) (t := s1) ?_ (fun h => ?_); (on_goal 1 => subst s1); (on_goal 2 => try clear_value s1))
    | (extract_lets +onlyGivenNames n1; first | (have p : Sys := n1; clear p; subst n1) | (have p : Et := n1; clear p; subst n1) | (have p : Hm := n1; clear p; subst n1) | (have p : Opt := n1; clear p; subst n1) | (have p : Xg := n1; clear p; subst n1) | (have p : Sns := n1; clear p; subst n1) | (have p : Ev := n1; clear p; subst n1) | clear_value n1)
    | (with_reducible refine Keeps.foldl (fun t x h => ?_) ?_)
    | (with_reducible refine KeepsRes.done ?_)
    | (with_reducible refine KeepsRes.wait ?_)
    | (with_reducible refine KeepsRes.refuse ?_)
    | with_reducible apply Keeps.modSynth_keeps
    | with_reducible apply Keeps.reneg_keeps
    | with_reducible apply Keeps.synthOn_keeps
    | with_reducible apply Keeps.writeEn_keeps
    | with_reducible apply Keeps.writePin_keeps
    | with_reducible apply Keeps.refuse_keeps
    | (simp -zeta only [Keeps.mark]; with_reducible refine KeepsLit.intro rfl ?_ ?_ ?_)
    | (with_reducible refine KeepsOpt.getD ?_ ?_)
    | (with_reducible refine Keeps.optEq (by assumption) ?_)
    | (with_reducible refine Keeps.pairEq1 (by assumption) ?_)
    | (with_reducible refine Keeps.pairEq2 (by assumption) ?_)
    | (with_reducible refine Keeps.ite ?_ ?_)
    | split

theorem Keeps.execSynthSetMode_keeps {gs : List Group} (hg : [.mbx, .ls, .ev] ⊆ gs) {o0 s : State} (h0 : Keeps gs o0 s) (q : Req) : KeepsOut gs o0 (execSynthSetMode q s) := by
  unfold execSynthSetMode
  repeat' first
    | with_reducible assumption
    | with_reducible exact List.Subset.trans (by decide) hg
    | with_reducible exact Regular.keep rfl
    | (intro g hgn; cases g <;> first | exact (Keeps.out hg (by decide) hgn).elim | with_reducible rfl)
    | (extract_lets +onlyGivenNames s1; refine Keeps.have_ (gs := gs) (o := o0) (t := s1) ?_ (fun h => ?_); (on_goal 1 => subst s1); (on_goal 2 => try clear_value s1))
    | (extract_lets +onlyGivenNames n1; first | (have p : Sys := n1; clear p; subst n1) | (have p : Et := n1; clear p; subst n1) | (have p : Hm := n1; clear p; subst n1) | (have p : Opt := n1; clear p; subst n1) | (have p : Xg := n1; clear p; subst n1) | (have p : Sns := n1; clear p; subst n1) | (have p : Ev := n1; clear p; subst n1) | clear_value n1)
    | (with_reducible refine Keeps.foldl (fun t x h => ?_) ?_)
    | (with_reducible refine KeepsOut.next ?_)
    | (with_reducible refine Keeps.submit_keeps ?_ ?_ _ _ (fun q t h => ?_) _)
    | with_reducible apply Keeps.cmdSynthSetMode_keeps
    | (simp -zeta only [Keeps.mark]; with_reducible refine KeepsLit.intro rfl ?_ ?_ ?_)
    | split

theorem Keeps.stopReplica_keeps {gs : List Group} (hg : [.reg] ⊆ gs) {o0 s : State} (h0 : Keeps gs o0 s) (r : RegionNo) : Keeps gs o0 (State.stopReplica s r) := by
  unfold State.stopReplica
  repeat' first
    | with_reducible assumption
    | with_reducible exact List.Subset.trans (by decide) hg
    | with_reducible exact Regular.keep rfl
    | (intro g hgn; cases g <;> first | exact (Keeps.out hg (by decide) hgn).elim | with_reducible rfl)
    | (extract_lets +onlyGivenNames s1; refine Keeps.have_ (gs := gs) (o := o0) (t := s1) ?_ (fun h => ?_); (on_goal 1 => subst s1); (on_goal 2 => try clear_value s1))
    | (extract_lets +onlyGivenNames n1; first | (have p : Sys := n1; clear p; subst n1) | (have p : Et := n1; clear p; subst n1) | (have p : Hm := n1; clear p; subst n1) | (have p : Opt := n1; clear p; subst n1) | (have p : Xg := n1; clear p; subst n1) | (have p : Sns := n1; clear p; subst n1) | (have p : Ev := n1; clear p; subst n1) | clear_value n1)
    | (with_reducible refine Keeps.foldl (fun t x h => ?_) ?_)
    | with_reducible apply Keeps.modRgn_keeps
    | (simp -zeta only [Keeps.mark]; with_reducible refine KeepsLit.intro rfl ?_ ?_ ?_)
    | (with_reducible refine Keeps.ite ?_ ?_)
    | split

theorem Keeps.setPower_keeps {gs : List Group} (hg : [.opt] ⊆ gs) {o0 s : State} (h0 : Keeps gs o0 s) (site : Nat) (l : Nat) (c : Nat) (p : Int) : Keeps gs o0 (State.setPower s site l c p) := by
  unfold State.setPower
  repeat' first
    | with_reducible assumption
    | with_reducible exact List.Subset.trans (by decide) hg
    | with_reducible exact Regular.keep rfl
    | (intro g hgn; cases g <;> first | exact (Keeps.out hg (by decide) hgn).elim | with_reducible rfl)
    | (extract_lets +onlyGivenNames s1; refine Keeps.have_ (gs := gs) (o := o0) (t := s1) ?_ (fun h => ?_); (on_goal 1 => subst s1); (on_goal 2 => try clear_value s1))
    | (extract_lets +onlyGivenNames n1; first | (have p : Sys := n1; clear p; subst n1) | (have p : Et := n1; clear p; subst n1) | (have p : Hm := n1; clear p; subst n1) | (have p : Opt := n1; clear p; subst n1) | (have p : Xg := n1; clear p; subst n1) | (have p : Sns := n1; clear p; subst n1) | (have p : Ev := n1; clear p; subst n1) | clear_value n1)
    | (with_reducible refine Keeps.foldl (fun t x h => ?_) ?_)
    | with_reducible apply Keeps.modSite_keeps
    | (simp -zeta only [Keeps.mark]; with_reducible refine KeepsLit.intro rfl ?_ ?_ ?_)
    | split

theorem Keeps.setLaunch_keeps {gs : List Group} (hg : [.opt] ⊆ gs) {o0 s : State} (h0 : Keeps gs o0 s) (c : Nat) (p : Int) : Keeps gs o0 (State.setLaunch s c p) := by
  unfold State.setLaunch
  repeat' first
    | with_reducible assumption
    | with_reducible exact List.Subset.trans (by decide) hg
    | with_reducible exact Regular.keep rfl
    | (intro g hgn; cases g <;> first | exact (Keeps.out hg (by decide) hgn).elim | with_reducible rfl)
    | (extract_lets +onlyGivenNames s1; refine Keeps.have_ (gs := gs) (o := o0) (t := s1) ?_ (fun h => ?_); (on_goal 1 => subst s1); (on_goal 2 => try clear_value s1))
    | (extract_lets +onlyGivenNames n1; first | (have p : Sys := n1; clear p; subst n1) | (have p : Et := n1; clear p; subst n1) | (have p : Hm := n1; clear p; subst n1) | (have p : Opt := n1; clear p; subst n1) | (have p : Xg := n1; clear p; subst n1) | (have p : Sns := n1; clear p; subst n1) | (have p : Ev := n1; clear p; subst n1) | clear_value n1)
    | (with_reducible refine Keeps.foldl (fun t x h => ?_) ?_)
    | (simp -zeta only [Keeps.mark]; with_reducible refine KeepsLit.intro rfl ?_ ?_ ?_)
    | split

theorem Keeps.retime_keeps {gs : List Group} (hg : [.reg] ⊆ gs) {o0 s : State} (h0 : Keeps gs o0 s) (site : Nat) (q : Nat) : Keeps gs o0 (State.retime s site q) := by
  unfold State.retime
  repeat' first
    | with_reducible assumption
    | with_reducible exact List.Subset.trans (by decide) hg
    | with_reducible exact Regular.keep rfl
    | (intro g hgn; cases g <;> first | exact (Keeps.out hg (by decide) hgn).elim | with_reducible rfl)
    | (extract_lets +onlyGivenNames s1; refine Keeps.have_ (gs := gs) (o := o0) (t := s1) ?_ (fun h => ?_); (on_goal 1 => subst s1); (on_goal 2 => try clear_value s1))
    | (extract_lets +onlyGivenNames n1; first | (have p : Sys := n1; clear p; subst n1) | (have p : Et := n1; clear p; subst n1) | (have p : Hm := n1; clear p; subst n1) | (have p : Opt := n1; clear p; subst n1) | (have p : Xg := n1; clear p; subst n1) | (have p : Sns := n1; clear p; subst n1) | (have p : Ev := n1; clear p; subst n1) | clear_value n1)
    | (with_reducible refine Keeps.foldl (fun t x h => ?_) ?_)
    | with_reducible apply Keeps.modRgns_keeps
    | (simp -zeta only [Keeps.mark]; with_reducible refine KeepsLit.intro rfl ?_ ?_ ?_)
    | (with_reducible refine Keeps.ite ?_ ?_)
    | split

theorem Keeps.note16_keeps {gs : List Group} (hg : [.opt, .ls] ⊆ gs) {o0 s : State} (h0 : Keeps gs o0 s) : Keeps gs o0 (State.note16 s) := by
  unfold State.note16
  repeat' first
    | with_reducible assumption
    | with_reducible exact List.Subset.trans (by decide) hg
    | with_reducible exact Regular.keep rfl
    | (intro g hgn; cases g <;> first | exact (Keeps.out hg (by decide) hgn).elim | with_reducible rfl)
    | (extract_lets +onlyGivenNames s1; refine Keeps.have_ (gs := gs) (o := o0) (t := s1) ?_ (fun h => ?_); (on_goal 1 => subst s1); (on_goal 2 => try clear_value s1))
    | (extract_lets +onlyGivenNames n1; first | (have p : Sys := n1; clear p; subst n1) | (have p : Et := n1; clear p; subst n1) | (have p : Hm := n1; clear p; subst n1) | (have p : Opt := n1; clear p; subst n1) | (have p : Xg := n1; clear p; subst n1) | (have p : Sns := n1; clear p; subst n1) | (have p : Ev := n1; clear p; subst n1) | clear_value n1)
    | (with_reducible refine Keeps.foldl (fun t x h => ?_) ?_)
    | with_reducible apply Keeps.modPort_keeps
    | (simp -zeta only [Keeps.mark]; with_reducible refine KeepsLit.intro rfl ?_ ?_ ?_)
    | (with_reducible refine Keeps.ite ?_ ?_)
    | split

theorem Keeps.routes_keeps {gs : List Group} (hg : [.reg, .opt, .ls] ⊆ gs) {o0 s : State} (h0 : Keeps gs o0 s) (site : Nat) (f : SiteOpt → SiteOpt) : Keeps gs o0 (State.routes s site f) := by
  unfold State.routes
  repeat' first
    | with_reducible assumption
    | with_reducible exact List.Subset.trans (by decide) hg
    | with_reducible exact Regular.keep rfl
    | (intro g hgn; cases g <;> first | exact (Keeps.out hg (by decide) hgn).elim | with_reducible rfl)
    | (extract_lets +onlyGivenNames s1; refine Keeps.have_ (gs := gs) (o := o0) (t := s1) ?_ (fun h => ?_); (on_goal 1 => subst s1); (on_goal 2 => try clear_value s1))
    | (extract_lets +onlyGivenNames n1; first | (have p : Sys := n1; clear p; subst n1) | (have p : Et := n1; clear p; subst n1) | (have p : Hm := n1; clear p; subst n1) | (have p : Opt := n1; clear p; subst n1) | (have p : Xg := n1; clear p; subst n1) | (have p : Sns := n1; clear p; subst n1) | (have p : Ev := n1; clear p; subst n1) | clear_value n1)
    | (with_reducible refine Keeps.foldl (fun t x h => ?_) ?_)
    | with_reducible apply Keeps.modSite_keeps
    | with_reducible apply Keeps.note16_keeps
    | with_reducible apply Keeps.reclose_keeps
    | with_reducible apply Keeps.retime_keeps
    | (simp -zeta only [Keeps.mark]; with_reducible refine KeepsLit.intro rfl ?_ ?_ ?_)
    | (with_reducible refine Keeps.ite ?_ ?_)
    | split

theorem Keeps.callRoute_keeps {gs : List Group} (hg : [.mbx, .opt] ⊆ gs) {o0 s : State} (h0 : Keeps gs o0 s) (site : Nat) (kind : Nat) (part : Nat) (q : Nat) : Keeps gs o0 (State.callRoute s site kind part q) := by
  unfold State.callRoute
  repeat' first
    | with_reducible assumption
    | with_reducible exact List.Subset.trans (by decide) hg
    | with_reducible exact Regular.keep rfl
    | (intro g hgn; cases g <;> first | exact (Keeps.out hg (by decide) hgn).elim | with_reducible rfl)
    | (extract_lets +onlyGivenNames s1; refine Keeps.have_ (gs := gs) (o := o0) (t := s1) ?_ (fun h => ?_); (on_goal 1 => subst s1); (on_goal 2 => try clear_value s1))
    | (extract_lets +onlyGivenNames n1; first | (have p : Sys := n1; clear p; subst n1) | (have p : Et := n1; clear p; subst n1) | (have p : Hm := n1; clear p; subst n1) | (have p : Opt := n1; clear p; subst n1) | (have p : Xg := n1; clear p; subst n1) | (have p : Sns := n1; clear p; subst n1) | (have p : Ev := n1; clear p; subst n1) | clear_value n1)
    | (with_reducible refine Keeps.foldl (fun t x h => ?_) ?_)
    | with_reducible apply Keeps.modSite_keeps
    | with_reducible apply Keeps.requestIns_keeps
    | (simp -zeta only [Keeps.mark]; with_reducible refine KeepsLit.intro rfl ?_ ?_ ?_)
    | (with_reducible refine Keeps.ite ?_ ?_)
    | split

theorem Keeps.partDown_keeps {gs : List Group} (hg : [.mbx, .opt] ⊆ gs) {o0 s : State} (h0 : Keeps gs o0 s) (site : Nat) (kind : Nat) (part : Nat) (q : Nat) : Keeps gs o0 (State.partDown s site kind part q) := by
  unfold State.partDown
  repeat' first
    | with_reducible assumption
    | with_reducible exact List.Subset.trans (by decide) hg
    | with_reducible exact Regular.keep rfl
    | (intro g hgn; cases g <;> first | exact (Keeps.out hg (by decide) hgn).elim | with_reducible rfl)
    | (extract_lets +onlyGivenNames f1; (first | (refine Keeps.fun1 f1 ?_) | (refine Keeps.fun2 f1 ?_) | (refine Keeps.fun3 f1 ?_) | (refine KeepsRes.fun1 f1 ?_)); subst f1; beta_reduce)
    | (extract_lets +onlyGivenNames s1; refine Keeps.have_ (gs := gs) (o := o0) (t := s1) ?_ (fun h => ?_); (on_goal 1 => subst s1); (on_goal 2 => try clear_value s1))
    | (extract_lets +onlyGivenNames n1; first | (have p : Sys := n1; clear p; subst n1) | (have p : Et := n1; clear p; subst n1) | (have p : Hm := n1; clear p; subst n1) | (have p : Opt := n1; clear p; subst n1) | (have p : Xg := n1; clear p; subst n1) | (have p : Sns := n1; clear p; subst n1) | (have p : Ev := n1; clear p; subst n1) | clear_value n1)
    | (with_reducible refine Keeps.foldl (fun t x h => ?_) ?_)
    | with_reducible apply Keeps.modSite_keeps
    | with_reducible apply Keeps.requestIns_keeps
    | (simp -zeta only [Keeps.mark]; with_reducible refine KeepsLit.intro rfl ?_ ?_ ?_)
    | (with_reducible refine Keeps.ite ?_ ?_)
    | split

theorem Keeps.partFailed_keeps {gs : List Group} (hg : [.opt] ⊆ gs) {o0 s : State} (h0 : Keeps gs o0 s) (site : Nat) (kind : Nat) (part : Nat) : Keeps gs o0 (State.partFailed s site kind part) := by
  unfold State.partFailed
  repeat' first
    | with_reducible assumption
    | with_reducible exact List.Subset.trans (by decide) hg
    | with_reducible exact Regular.keep rfl
    | (intro g hgn; cases g <;> first | exact (Keeps.out hg (by decide) hgn).elim | with_reducible rfl)
    | (extract_lets +onlyGivenNames s1; refine Keeps.have_ (gs := gs) (o := o0) (t := s1) ?_ (fun h => ?_); (on_goal 1 => subst s1); (on_goal 2 => try clear_value s1))
    | (extract_lets +onlyGivenNames n1; first | (have p : Sys := n1; clear p; subst n1) | (have p : Et := n1; clear p; subst n1) | (have p : Hm := n1; clear p; subst n1) | (have p : Opt := n1; clear p; subst n1) | (have p : Xg := n1; clear p; subst n1) | (have p : Sns := n1; clear p; subst n1) | (have p : Ev := n1; clear p; subst n1) | clear_value n1)
    | (with_reducible refine Keeps.foldl (fun t x h => ?_) ?_)
    | with_reducible apply Keeps.modSite_keeps
    | (simp -zeta only [Keeps.mark]; with_reducible refine KeepsLit.intro rfl ?_ ?_ ?_)
    | (with_reducible refine Keeps.ite ?_ ?_)
    | split

theorem Keeps.noteBridge_keeps {gs : List Group} (hg : [.opt] ⊆ gs) {o0 s : State} (h0 : Keeps gs o0 s) (site : Nat) : Keeps gs o0 (State.noteBridge s site) := by
  unfold State.noteBridge
  repeat' first
    | with_reducible assumption
    | with_reducible exact List.Subset.trans (by decide) hg
    | with_reducible exact Regular.keep rfl
    | (intro g hgn; cases g <;> first | exact (Keeps.out hg (by decide) hgn).elim | with_reducible rfl)
    | (extract_lets +onlyGivenNames s1; refine Keeps.have_ (gs := gs) (o := o0) (t := s1) ?_ (fun h => ?_); (on_goal 1 => subst s1); (on_goal 2 => try clear_value s1))
    | (extract_lets +onlyGivenNames n1; first | (have p : Sys := n1; clear p; subst n1) | (have p : Et := n1; clear p; subst n1) | (have p : Hm := n1; clear p; subst n1) | (have p : Opt := n1; clear p; subst n1) | (have p : Xg := n1; clear p; subst n1) | (have p : Sns := n1; clear p; subst n1) | (have p : Ev := n1; clear p; subst n1) | clear_value n1)
    | (with_reducible refine Keeps.foldl (fun t x h => ?_) ?_)
    | with_reducible apply Keeps.modSite_keeps
    | (simp -zeta only [Keeps.mark]; with_reducible refine KeepsLit.intro rfl ?_ ?_ ?_)
    | (with_reducible refine Keeps.ite ?_ ?_)
    | split

theorem Keeps.bridge_keeps {gs : List Group} (hg : [.reg, .opt, .ls, .ev] ⊆ gs) {o0 s : State} (h0 : Keeps gs o0 s) (site : Nat) (q : Nat) (row : Nat) (part : Nat) : Keeps gs o0 (State.bridge s site q row part) := by
  unfold State.bridge
  repeat' first
    | with_reducible assumption
    | with_reducible exact List.Subset.trans (by decide) hg
    | with_reducible exact Regular.keep rfl
    | (intro g hgn; cases g <;> first | exact (Keeps.out hg (by decide) hgn).elim | with_reducible rfl)
    | (extract_lets +onlyGivenNames s1; refine Keeps.have_ (gs := gs) (o := o0) (t := s1) ?_ (fun h => ?_); (on_goal 1 => subst s1); (on_goal 2 => try clear_value s1))
    | (extract_lets +onlyGivenNames n1; first | (have p : Sys := n1; clear p; subst n1) | (have p : Et := n1; clear p; subst n1) | (have p : Hm := n1; clear p; subst n1) | (have p : Opt := n1; clear p; subst n1) | (have p : Xg := n1; clear p; subst n1) | (have p : Sns := n1; clear p; subst n1) | (have p : Ev := n1; clear p; subst n1) | clear_value n1)
    | (with_reducible refine Keeps.foldl (fun t x h => ?_) ?_)
    | with_reducible apply Keeps.noteBridge_keeps
    | with_reducible apply Keeps.raise_keeps
    | with_reducible apply Keeps.routes_keeps
    | (simp -zeta only [Keeps.mark]; with_reducible refine KeepsLit.intro rfl ?_ ?_ ?_)
    | (with_reducible refine Keeps.ite ?_ ?_)
    | split

theorem Keeps.execLandingFault_keeps {gs : List Group} (hg : [.mbx, .reg, .opt, .ls, .ev] ⊆ gs) {o0 s : State} (h0 : Keeps gs o0 s) (site : Site) (l : Fin 6) (c : Fin 4 := 0) (power : Int := 0) : KeepsOut gs o0 (execLandingFault site l s c power) := by
  unfold execLandingFault
  repeat' first
    | with_reducible assumption
    | with_reducible exact List.Subset.trans (by decide) hg
    | with_reducible exact Regular.keep rfl
    | (intro g hgn; cases g <;> first | exact (Keeps.out hg (by decide) hgn).elim | with_reducible rfl)
    | (extract_lets +onlyGivenNames s1; refine Keeps.have_ (gs := gs) (o := o0) (t := s1) ?_ (fun h => ?_); (on_goal 1 => subst s1); (on_goal 2 => try clear_value s1))
    | (extract_lets +onlyGivenNames n1; first | (have p : Sys := n1; clear p; subst n1) | (have p : Et := n1; clear p; subst n1) | (have p : Hm := n1; clear p; subst n1) | (have p : Opt := n1; clear p; subst n1) | (have p : Xg := n1; clear p; subst n1) | (have p : Sns := n1; clear p; subst n1) | (have p : Ev := n1; clear p; subst n1) | clear_value n1)
    | (with_reducible refine Keeps.foldl (fun t x h => ?_) ?_)
    | (with_reducible refine KeepsOut.next ?_)
    | with_reducible apply Keeps.bridge_keeps
    | with_reducible apply Keeps.modSite_keeps
    | with_reducible apply Keeps.partDown_keeps
    | with_reducible apply Keeps.setPower_keeps
    | (simp -zeta only [Keeps.mark]; with_reducible refine KeepsLit.intro rfl ?_ ?_ ?_)
    | (with_reducible refine Keeps.ite ?_ ?_)
    | split

theorem Keeps.groupLost_keeps {gs : List Group} (hg : [.reg, .opt, .ls, .ev] ⊆ gs) {o0 s : State} (h0 : Keeps gs o0 s) (site : Nat) (q : Nat) : Keeps gs o0 (State.groupLost s site q) := by
  unfold State.groupLost
  repeat' first
    | with_reducible assumption
    | with_reducible exact List.Subset.trans (by decide) hg
    | with_reducible exact Regular.keep rfl
    | (intro g hgn; cases g <;> first | exact (Keeps.out hg (by decide) hgn).elim | with_reducible rfl)
    | (extract_lets +onlyGivenNames s1; refine Keeps.have_ (gs := gs) (o := o0) (t := s1) ?_ (fun h => ?_); (on_goal 1 => subst s1); (on_goal 2 => try clear_value s1))
    | (extract_lets +onlyGivenNames n1; first | (have p : Sys := n1; clear p; subst n1) | (have p : Et := n1; clear p; subst n1) | (have p : Hm := n1; clear p; subst n1) | (have p : Opt := n1; clear p; subst n1) | (have p : Xg := n1; clear p; subst n1) | (have p : Sns := n1; clear p; subst n1) | (have p : Ev := n1; clear p; subst n1) | clear_value n1)
    | (with_reducible refine Keeps.foldl (fun t x h => ?_) ?_)
    | with_reducible apply Keeps.modSite_keeps
    | with_reducible apply Keeps.noteBridge_keeps
    | with_reducible apply Keeps.raise_keeps
    | with_reducible apply Keeps.routes_keeps
    | (simp -zeta only [Keeps.mark]; with_reducible refine KeepsLit.intro rfl ?_ ?_ ?_)
    | (with_reducible refine Keeps.ite ?_ ?_)
    | split

theorem Keeps.untake_keeps {gs : List Group} (hg : [.opt] ⊆ gs) {o0 s : State} (h0 : Keeps gs o0 s) (y : Insertion) : Keeps gs o0 (State.untake s y) := by
  unfold State.untake
  repeat' first
    | with_reducible assumption
    | with_reducible exact List.Subset.trans (by decide) hg
    | with_reducible exact Regular.keep rfl
    | (intro g hgn; cases g <;> first | exact (Keeps.out hg (by decide) hgn).elim | with_reducible rfl)
    | (extract_lets +onlyGivenNames s1; refine Keeps.have_ (gs := gs) (o := o0) (t := s1) ?_ (fun h => ?_); (on_goal 1 => subst s1); (on_goal 2 => try clear_value s1))
    | (extract_lets +onlyGivenNames n1; first | (have p : Sys := n1; clear p; subst n1) | (have p : Et := n1; clear p; subst n1) | (have p : Hm := n1; clear p; subst n1) | (have p : Opt := n1; clear p; subst n1) | (have p : Xg := n1; clear p; subst n1) | (have p : Sns := n1; clear p; subst n1) | (have p : Ev := n1; clear p; subst n1) | clear_value n1)
    | (with_reducible refine Keeps.foldl (fun t x h => ?_) ?_)
    | with_reducible apply Keeps.modSite_keeps
    | (simp -zeta only [Keeps.mark]; with_reducible refine KeepsLit.intro rfl ?_ ?_ ?_)
    | (with_reducible refine Keeps.ite ?_ ?_)
    | split

theorem Keeps.dropLanding_keeps {gs : List Group} (hg : [.mbx, .opt] ⊆ gs) {o0 s : State} (h0 : Keeps gs o0 s) (y : Insertion) : Keeps gs o0 (State.dropLanding s y) := by
  unfold State.dropLanding
  repeat' first
    | with_reducible assumption
    | with_reducible exact List.Subset.trans (by decide) hg
    | with_reducible exact Regular.keep rfl
    | (intro g hgn; cases g <;> first | exact (Keeps.out hg (by decide) hgn).elim | with_reducible rfl)
    | (extract_lets +onlyGivenNames s1; refine Keeps.have_ (gs := gs) (o := o0) (t := s1) ?_ (fun h => ?_); (on_goal 1 => subst s1); (on_goal 2 => try clear_value s1))
    | (extract_lets +onlyGivenNames n1; first | (have p : Sys := n1; clear p; subst n1) | (have p : Et := n1; clear p; subst n1) | (have p : Hm := n1; clear p; subst n1) | (have p : Opt := n1; clear p; subst n1) | (have p : Xg := n1; clear p; subst n1) | (have p : Sns := n1; clear p; subst n1) | (have p : Ev := n1; clear p; subst n1) | clear_value n1)
    | (with_reducible refine Keeps.foldl (fun t x h => ?_) ?_)
    | with_reducible apply Keeps.endIns_keeps
    | with_reducible apply Keeps.modSite_keeps
    | with_reducible apply Keeps.partFailed_keeps
    | with_reducible apply Keeps.untake_keeps
    | (simp -zeta only [Keeps.mark]; with_reducible refine KeepsLit.intro rfl ?_ ?_ ?_)
    | (with_reducible refine Keeps.ite ?_ ?_)
    | split

theorem Keeps.execGroupFault_keeps {gs : List Group} (hg : [.mbx, .reg, .opt, .ls, .ev] ⊆ gs) {o0 s : State} (h0 : Keeps gs o0 s) (site : Site) (q : Fin 4) : KeepsOut gs o0 (execGroupFault site q s) := by
  unfold execGroupFault
  repeat' first
    | with_reducible assumption
    | with_reducible exact List.Subset.trans (by decide) hg
    | with_reducible exact Regular.keep rfl
    | (intro g hgn; cases g <;> first | exact (Keeps.out hg (by decide) hgn).elim | with_reducible rfl)
    | (extract_lets +onlyGivenNames s1; refine Keeps.have_ (gs := gs) (o := o0) (t := s1) ?_ (fun h => ?_); (on_goal 1 => subst s1); (on_goal 2 => try clear_value s1))
    | (extract_lets +onlyGivenNames n1; first | (have p : Sys := n1; clear p; subst n1) | (have p : Et := n1; clear p; subst n1) | (have p : Hm := n1; clear p; subst n1) | (have p : Opt := n1; clear p; subst n1) | (have p : Xg := n1; clear p; subst n1) | (have p : Sns := n1; clear p; subst n1) | (have p : Ev := n1; clear p; subst n1) | clear_value n1)
    | (with_reducible refine Keeps.foldl (fun t x h => ?_) ?_)
    | (with_reducible refine KeepsOut.next ?_)
    | with_reducible apply Keeps.dropLanding_keeps
    | with_reducible apply Keeps.groupLost_keeps
    | with_reducible apply Keeps.modSite_keeps
    | with_reducible apply Keeps.partDown_keeps
    | (simp -zeta only [Keeps.mark]; with_reducible refine KeepsLit.intro rfl ?_ ?_ ?_)
    | (with_reducible refine Keeps.ite ?_ ?_)
    | split

theorem Keeps.readings_keeps {gs : List Group} (hg : [.opt] ⊆ gs) {o0 s : State} (h0 : Keeps gs o0 s) (c : Nat) (rs : List (Site × Fin 6 × Int)) : Keeps gs o0 (State.readings s c rs) := by
  unfold State.readings
  repeat' first
    | with_reducible assumption
    | with_reducible exact List.Subset.trans (by decide) hg
    | with_reducible exact Regular.keep rfl
    | (intro g hgn; cases g <;> first | exact (Keeps.out hg (by decide) hgn).elim | with_reducible rfl)
    | (extract_lets +onlyGivenNames s1; refine Keeps.have_ (gs := gs) (o := o0) (t := s1) ?_ (fun h => ?_); (on_goal 1 => subst s1); (on_goal 2 => try clear_value s1))
    | (extract_lets +onlyGivenNames n1; first | (have p : Sys := n1; clear p; subst n1) | (have p : Et := n1; clear p; subst n1) | (have p : Hm := n1; clear p; subst n1) | (have p : Opt := n1; clear p; subst n1) | (have p : Xg := n1; clear p; subst n1) | (have p : Sns := n1; clear p; subst n1) | (have p : Ev := n1; clear p; subst n1) | clear_value n1)
    | (with_reducible refine Keeps.foldl (fun t x h => ?_) ?_)
    | (with_reducible refine Keeps.foldl2 (fun t x h => ?_) ?_)
    | (with_reducible refine Keeps.foldl1 (fun t x h => ?_) ?_)
    | with_reducible apply Keeps.setPower_keeps
    | (simp -zeta only [Keeps.mark]; with_reducible refine KeepsLit.intro rfl ?_ ?_ ?_)
    | split

theorem Keeps.roleLost_keeps {gs : List Group} (hg : [.opt, .ev] ⊆ gs) {o0 s : State} (h0 : Keeps gs o0 s) (c : Nat) : Keeps gs o0 (State.roleLost s c) := by
  unfold State.roleLost
  repeat' first
    | with_reducible assumption
    | with_reducible exact List.Subset.trans (by decide) hg
    | with_reducible exact Regular.keep rfl
    | (intro g hgn; cases g <;> first | exact (Keeps.out hg (by decide) hgn).elim | with_reducible rfl)
    | (extract_lets +onlyGivenNames s1; refine Keeps.have_ (gs := gs) (o := o0) (t := s1) ?_ (fun h => ?_); (on_goal 1 => subst s1); (on_goal 2 => try clear_value s1))
    | (extract_lets +onlyGivenNames n1; first | (have p : Sys := n1; clear p; subst n1) | (have p : Et := n1; clear p; subst n1) | (have p : Hm := n1; clear p; subst n1) | (have p : Opt := n1; clear p; subst n1) | (have p : Xg := n1; clear p; subst n1) | (have p : Sns := n1; clear p; subst n1) | (have p : Ev := n1; clear p; subst n1) | clear_value n1)
    | (with_reducible refine Keeps.foldl (fun t x h => ?_) ?_)
    | with_reducible apply Keeps.raise_keeps
    | (simp -zeta only [Keeps.mark]; with_reducible refine KeepsLit.intro rfl ?_ ?_ ?_)
    | split

theorem Keeps.roleCheck_keeps {gs : List Group} (hg : [.opt, .ev] ⊆ gs) {o0 s : State} (h0 : Keeps gs o0 s) : Keeps gs o0 (State.roleCheck s) := by
  unfold State.roleCheck
  repeat' first
    | with_reducible assumption
    | with_reducible exact List.Subset.trans (by decide) hg
    | with_reducible exact Regular.keep rfl
    | (intro g hgn; cases g <;> first | exact (Keeps.out hg (by decide) hgn).elim | with_reducible rfl)
    | (extract_lets +onlyGivenNames s1; refine Keeps.have_ (gs := gs) (o := o0) (t := s1) ?_ (fun h => ?_); (on_goal 1 => subst s1); (on_goal 2 => try clear_value s1))
    | (extract_lets +onlyGivenNames n1; first | (have p : Sys := n1; clear p; subst n1) | (have p : Et := n1; clear p; subst n1) | (have p : Hm := n1; clear p; subst n1) | (have p : Opt := n1; clear p; subst n1) | (have p : Xg := n1; clear p; subst n1) | (have p : Sns := n1; clear p; subst n1) | (have p : Ev := n1; clear p; subst n1) | clear_value n1)
    | (with_reducible refine Keeps.foldl (fun t x h => ?_) ?_)
    | with_reducible apply Keeps.roleLost_keeps
    | (simp -zeta only [Keeps.mark]; with_reducible refine KeepsLit.intro rfl ?_ ?_ ?_)
    | (with_reducible refine Keeps.ite ?_ ?_)
    | split

theorem Keeps.execWavelengthFault_keeps {gs : List Group} (hg : [.mbx, .reg, .opt, .ls, .ev] ⊆ gs) {o0 s : State} (h0 : Keeps gs o0 s) (c : Fin 4) (launched : Int := 0) (received : List (Site × Fin 6 × Int) := []) : KeepsOut gs o0 (execWavelengthFault c s launched received) := by
  unfold execWavelengthFault
  repeat' first
    | with_reducible assumption
    | with_reducible exact List.Subset.trans (by decide) hg
    | with_reducible exact Regular.keep rfl
    | (intro g hgn; cases g <;> first | exact (Keeps.out hg (by decide) hgn).elim | with_reducible rfl)
    | (extract_lets +onlyGivenNames s1; refine Keeps.have_ (gs := gs) (o := o0) (t := s1) ?_ (fun h => ?_); (on_goal 1 => subst s1); (on_goal 2 => try clear_value s1))
    | (extract_lets +onlyGivenNames n1; first | (have p : Sys := n1; clear p; subst n1) | (have p : Et := n1; clear p; subst n1) | (have p : Hm := n1; clear p; subst n1) | (have p : Opt := n1; clear p; subst n1) | (have p : Xg := n1; clear p; subst n1) | (have p : Sns := n1; clear p; subst n1) | (have p : Ev := n1; clear p; subst n1) | clear_value n1)
    | (with_reducible refine Keeps.foldl (fun t x h => ?_) ?_)
    | (with_reducible refine Keeps.foldl2 (fun t x h => ?_) ?_)
    | (with_reducible refine Keeps.foldl1 (fun t x h => ?_) ?_)
    | (with_reducible refine KeepsOut.next ?_)
    | with_reducible apply Keeps.bridge_keeps
    | with_reducible apply Keeps.insStep_keeps
    | with_reducible apply Keeps.readings_keeps
    | with_reducible apply Keeps.requestIns_keeps
    | with_reducible apply Keeps.roleCheck_keeps
    | with_reducible apply Keeps.setLaunch_keeps
    | with_reducible apply Keeps.untake_keeps
    | (simp -zeta only [Keeps.mark]; with_reducible refine KeepsLit.intro rfl ?_ ?_ ?_)
    | (with_reducible refine Keeps.ite ?_ ?_)
    | split

theorem Keeps.degradeLanding_keeps {gs : List Group} (hg : [.mbx, .opt] ⊆ gs) {o0 s : State} (h0 : Keeps gs o0 s) (site : Nat) (l : Nat) : Keeps gs o0 (State.degradeLanding s site l) := by
  unfold State.degradeLanding
  repeat' first
    | with_reducible assumption
    | with_reducible exact List.Subset.trans (by decide) hg
    | with_reducible exact Regular.keep rfl
    | (intro g hgn; cases g <;> first | exact (Keeps.out hg (by decide) hgn).elim | with_reducible rfl)
    | (extract_lets +onlyGivenNames s1; refine Keeps.have_ (gs := gs) (o := o0) (t := s1) ?_ (fun h => ?_); (on_goal 1 => subst s1); (on_goal 2 => try clear_value s1))
    | (extract_lets +onlyGivenNames n1; first | (have p : Sys := n1; clear p; subst n1) | (have p : Et := n1; clear p; subst n1) | (have p : Hm := n1; clear p; subst n1) | (have p : Opt := n1; clear p; subst n1) | (have p : Xg := n1; clear p; subst n1) | (have p : Sns := n1; clear p; subst n1) | (have p : Ev := n1; clear p; subst n1) | clear_value n1)
    | (with_reducible refine Keeps.foldl (fun t x h => ?_) ?_)
    | with_reducible apply Keeps.callRoute_keeps
    | with_reducible apply Keeps.modSite_keeps
    | (simp -zeta only [Keeps.mark]; with_reducible refine KeepsLit.intro rfl ?_ ?_ ?_)
    | (with_reducible refine Keeps.ite ?_ ?_)
    | split

theorem Keeps.degradeGroup_keeps {gs : List Group} (hg : [.mbx, .opt] ⊆ gs) {o0 s : State} (h0 : Keeps gs o0 s) (site : Nat) (g : Nat) : Keeps gs o0 (State.degradeGroup s site g) := by
  unfold State.degradeGroup
  repeat' first
    | with_reducible assumption
    | with_reducible exact List.Subset.trans (by decide) hg
    | with_reducible exact Regular.keep rfl
    | (intro g hgn; cases g <;> first | exact (Keeps.out hg (by decide) hgn).elim | with_reducible rfl)
    | (extract_lets +onlyGivenNames s1; refine Keeps.have_ (gs := gs) (o := o0) (t := s1) ?_ (fun h => ?_); (on_goal 1 => subst s1); (on_goal 2 => try clear_value s1))
    | (extract_lets +onlyGivenNames n1; first | (have p : Sys := n1; clear p; subst n1) | (have p : Et := n1; clear p; subst n1) | (have p : Hm := n1; clear p; subst n1) | (have p : Opt := n1; clear p; subst n1) | (have p : Xg := n1; clear p; subst n1) | (have p : Sns := n1; clear p; subst n1) | (have p : Ev := n1; clear p; subst n1) | clear_value n1)
    | (with_reducible refine Keeps.foldl (fun t x h => ?_) ?_)
    | with_reducible apply Keeps.callRoute_keeps
    | with_reducible apply Keeps.modSite_keeps
    | (simp -zeta only [Keeps.mark]; with_reducible refine KeepsLit.intro rfl ?_ ?_ ?_)
    | (with_reducible refine Keeps.ite ?_ ?_)
    | split

theorem Keeps.execLandingWarnTimeout_keeps {gs : List Group} (hg : [.mbx, .opt] ⊆ gs) {o0 s : State} (h0 : Keeps gs o0 s) (site : Site) (l : Fin 6) (c : Fin 4 := 0) (power : Int := 0) : KeepsOut gs o0 (execLandingWarnTimeout site l s c power) := by
  unfold execLandingWarnTimeout
  repeat' first
    | with_reducible assumption
    | with_reducible exact List.Subset.trans (by decide) hg
    | with_reducible exact Regular.keep rfl
    | (intro g hgn; cases g <;> first | exact (Keeps.out hg (by decide) hgn).elim | with_reducible rfl)
    | (extract_lets +onlyGivenNames s1; refine Keeps.have_ (gs := gs) (o := o0) (t := s1) ?_ (fun h => ?_); (on_goal 1 => subst s1); (on_goal 2 => try clear_value s1))
    | (extract_lets +onlyGivenNames n1; first | (have p : Sys := n1; clear p; subst n1) | (have p : Et := n1; clear p; subst n1) | (have p : Hm := n1; clear p; subst n1) | (have p : Opt := n1; clear p; subst n1) | (have p : Xg := n1; clear p; subst n1) | (have p : Sns := n1; clear p; subst n1) | (have p : Ev := n1; clear p; subst n1) | clear_value n1)
    | (with_reducible refine Keeps.foldl (fun t x h => ?_) ?_)
    | (with_reducible refine KeepsOut.next ?_)
    | with_reducible apply Keeps.degradeLanding_keeps
    | with_reducible apply Keeps.setPower_keeps
    | (simp -zeta only [Keeps.mark]; with_reducible refine KeepsLit.intro rfl ?_ ?_ ?_)
    | (with_reducible refine Keeps.ite ?_ ?_)
    | split

theorem Keeps.execLandingCrcDegrade_keeps {gs : List Group} (hg : [.mbx, .opt] ⊆ gs) {o0 s : State} (h0 : Keeps gs o0 s) (site : Site) (l : Fin 6) : KeepsOut gs o0 (execLandingCrcDegrade site l s) := by
  unfold execLandingCrcDegrade
  repeat' first
    | with_reducible assumption
    | with_reducible exact List.Subset.trans (by decide) hg
    | with_reducible exact Regular.keep rfl
    | (intro g hgn; cases g <;> first | exact (Keeps.out hg (by decide) hgn).elim | with_reducible rfl)
    | (extract_lets +onlyGivenNames s1; refine Keeps.have_ (gs := gs) (o := o0) (t := s1) ?_ (fun h => ?_); (on_goal 1 => subst s1); (on_goal 2 => try clear_value s1))
    | (extract_lets +onlyGivenNames n1; first | (have p : Sys := n1; clear p; subst n1) | (have p : Et := n1; clear p; subst n1) | (have p : Hm := n1; clear p; subst n1) | (have p : Opt := n1; clear p; subst n1) | (have p : Xg := n1; clear p; subst n1) | (have p : Sns := n1; clear p; subst n1) | (have p : Ev := n1; clear p; subst n1) | clear_value n1)
    | (with_reducible refine Keeps.foldl (fun t x h => ?_) ?_)
    | (with_reducible refine KeepsOut.next ?_)
    | with_reducible apply Keeps.degradeLanding_keeps
    | (simp -zeta only [Keeps.mark]; with_reducible refine KeepsLit.intro rfl ?_ ?_ ?_)
    | (with_reducible refine Keeps.ite ?_ ?_)
    | split

theorem Keeps.execContinuityCheck_keeps {gs : List Group} (hg : [.mbx, .opt] ⊆ gs) {o0 s : State} (h0 : Keeps gs o0 s) (site : Site) (g : Fin 7) (ok : Bool) : KeepsOut gs o0 (execContinuityCheck site g ok s) := by
  unfold execContinuityCheck
  repeat' first
    | with_reducible assumption
    | with_reducible exact List.Subset.trans (by decide) hg
    | with_reducible exact Regular.keep rfl
    | (intro g hgn; cases g <;> first | exact (Keeps.out hg (by decide) hgn).elim | with_reducible rfl)
    | (extract_lets +onlyGivenNames s1; refine Keeps.have_ (gs := gs) (o := o0) (t := s1) ?_ (fun h => ?_); (on_goal 1 => subst s1); (on_goal 2 => try clear_value s1))
    | (extract_lets +onlyGivenNames n1; first | (have p : Sys := n1; clear p; subst n1) | (have p : Et := n1; clear p; subst n1) | (have p : Hm := n1; clear p; subst n1) | (have p : Opt := n1; clear p; subst n1) | (have p : Xg := n1; clear p; subst n1) | (have p : Sns := n1; clear p; subst n1) | (have p : Ev := n1; clear p; subst n1) | clear_value n1)
    | (with_reducible refine Keeps.foldl (fun t x h => ?_) ?_)
    | (with_reducible refine KeepsOut.next ?_)
    | with_reducible apply Keeps.degradeGroup_keeps
    | with_reducible apply Keeps.modSite_keeps
    | (simp -zeta only [Keeps.mark]; with_reducible refine KeepsLit.intro rfl ?_ ?_ ?_)
    | (with_reducible refine Keeps.ite ?_ ?_)
    | split

theorem Keeps.execSpareCarrierLoss_keeps {gs : List Group} (hg : [.opt, .ev] ⊆ gs) {o0 s : State} (h0 : Keeps gs o0 s) (c : Fin 4) (launched : Int := 0) : KeepsOut gs o0 (execSpareCarrierLoss c s launched) := by
  unfold execSpareCarrierLoss
  repeat' first
    | with_reducible assumption
    | with_reducible exact List.Subset.trans (by decide) hg
    | with_reducible exact Regular.keep rfl
    | (intro g hgn; cases g <;> first | exact (Keeps.out hg (by decide) hgn).elim | with_reducible rfl)
    | (extract_lets +onlyGivenNames s1; refine Keeps.have_ (gs := gs) (o := o0) (t := s1) ?_ (fun h => ?_); (on_goal 1 => subst s1); (on_goal 2 => try clear_value s1))
    | (extract_lets +onlyGivenNames n1; first | (have p : Sys := n1; clear p; subst n1) | (have p : Et := n1; clear p; subst n1) | (have p : Hm := n1; clear p; subst n1) | (have p : Opt := n1; clear p; subst n1) | (have p : Xg := n1; clear p; subst n1) | (have p : Sns := n1; clear p; subst n1) | (have p : Ev := n1; clear p; subst n1) | clear_value n1)
    | (with_reducible refine Keeps.foldl (fun t x h => ?_) ?_)
    | (with_reducible refine KeepsOut.next ?_)
    | with_reducible apply Keeps.roleCheck_keeps
    | with_reducible apply Keeps.setLaunch_keeps
    | (simp -zeta only [Keeps.mark]; with_reducible refine KeepsLit.intro rfl ?_ ?_ ?_)
    | (with_reducible refine Keeps.ite ?_ ?_)
    | split

theorem Keeps.execCarrierRecovered_keeps {gs : List Group} (hg : [.opt] ⊆ gs) {o0 s : State} (h0 : Keeps gs o0 s) (c : Fin 4) (launched : Int := 0) (received : List (Site × Fin 6 × Int) := []) : KeepsOut gs o0 (execCarrierRecovered c s launched received) := by
  unfold execCarrierRecovered
  repeat' first
    | with_reducible assumption
    | with_reducible exact List.Subset.trans (by decide) hg
    | with_reducible exact Regular.keep rfl
    | (intro g hgn; cases g <;> first | exact (Keeps.out hg (by decide) hgn).elim | with_reducible rfl)
    | (extract_lets +onlyGivenNames s1; refine Keeps.have_ (gs := gs) (o := o0) (t := s1) ?_ (fun h => ?_); (on_goal 1 => subst s1); (on_goal 2 => try clear_value s1))
    | (extract_lets +onlyGivenNames n1; first | (have p : Sys := n1; clear p; subst n1) | (have p : Et := n1; clear p; subst n1) | (have p : Hm := n1; clear p; subst n1) | (have p : Opt := n1; clear p; subst n1) | (have p : Xg := n1; clear p; subst n1) | (have p : Sns := n1; clear p; subst n1) | (have p : Ev := n1; clear p; subst n1) | clear_value n1)
    | (with_reducible refine Keeps.foldl (fun t x h => ?_) ?_)
    | (with_reducible refine KeepsOut.next ?_)
    | with_reducible apply Keeps.readings_keeps
    | with_reducible apply Keeps.setLaunch_keeps
    | (simp -zeta only [Keeps.mark]; with_reducible refine KeepsLit.intro rfl ?_ ?_ ?_)
    | (with_reducible refine Keeps.ite ?_ ?_)
    | split

theorem Keeps.execFlywheelExpiry_keeps {gs : List Group} (hg : [.reg] ⊆ gs) {o0 s : State} (h0 : Keeps gs o0 s) (r : RegionNo) : KeepsOut gs o0 (execFlywheelExpiry r s) := by
  unfold execFlywheelExpiry
  repeat' first
    | with_reducible assumption
    | with_reducible exact List.Subset.trans (by decide) hg
    | with_reducible exact Regular.keep rfl
    | (intro g hgn; cases g <;> first | exact (Keeps.out hg (by decide) hgn).elim | with_reducible rfl)
    | (extract_lets +onlyGivenNames s1; refine Keeps.have_ (gs := gs) (o := o0) (t := s1) ?_ (fun h => ?_); (on_goal 1 => subst s1); (on_goal 2 => try clear_value s1))
    | (extract_lets +onlyGivenNames n1; first | (have p : Sys := n1; clear p; subst n1) | (have p : Et := n1; clear p; subst n1) | (have p : Hm := n1; clear p; subst n1) | (have p : Opt := n1; clear p; subst n1) | (have p : Xg := n1; clear p; subst n1) | (have p : Sns := n1; clear p; subst n1) | (have p : Ev := n1; clear p; subst n1) | clear_value n1)
    | (with_reducible refine Keeps.foldl (fun t x h => ?_) ?_)
    | (with_reducible refine KeepsOut.next ?_)
    | with_reducible apply Keeps.stopReplica_keeps
    | (simp -zeta only [Keeps.mark]; with_reducible refine KeepsLit.intro rfl ?_ ?_ ?_)
    | (with_reducible refine Keeps.ite ?_ ?_)
    | split

theorem Keeps.putTerm_keeps {gs : List Group} (hg : [.opt] ⊆ gs) {o0 s : State} (h0 : Keeps gs o0 s) (key : Nat) (d : Nat) : Keeps gs o0 (State.putTerm s key d) := by
  unfold State.putTerm
  repeat' first
    | with_reducible assumption
    | with_reducible exact List.Subset.trans (by decide) hg
    | exact fun h => { h with terms := (by dsimp only; exact Map.put_wf _ _ h.terms) }
    | with_reducible exact Regular.keep rfl
    | (intro g hgn; cases g <;> first | exact (Keeps.out hg (by decide) hgn).elim | with_reducible rfl)
    | (extract_lets +onlyGivenNames s1; refine Keeps.have_ (gs := gs) (o := o0) (t := s1) ?_ (fun h => ?_); (on_goal 1 => subst s1); (on_goal 2 => try clear_value s1))
    | (extract_lets +onlyGivenNames n1; first | (have p : Sys := n1; clear p; subst n1) | (have p : Et := n1; clear p; subst n1) | (have p : Hm := n1; clear p; subst n1) | (have p : Opt := n1; clear p; subst n1) | (have p : Xg := n1; clear p; subst n1) | (have p : Sns := n1; clear p; subst n1) | (have p : Ev := n1; clear p; subst n1) | clear_value n1)
    | (with_reducible refine Keeps.foldl (fun t x h => ?_) ?_)
    | (simp -zeta only [Keeps.mark]; with_reducible refine KeepsLit.intro rfl ?_ ?_ ?_)
    | split

theorem Keeps.noteTemp_keeps {gs : List Group} (hg : [.opt] ⊆ gs) {o0 s : State} (h0 : Keeps gs o0 s) (site : Nat) (l : Nat) : Keeps gs o0 (State.noteTemp s site l) := by
  unfold State.noteTemp
  repeat' first
    | with_reducible assumption
    | with_reducible exact List.Subset.trans (by decide) hg
    | with_reducible exact Regular.keep rfl
    | (intro g hgn; cases g <;> first | exact (Keeps.out hg (by decide) hgn).elim | with_reducible rfl)
    | (extract_lets +onlyGivenNames s1; refine Keeps.have_ (gs := gs) (o := o0) (t := s1) ?_ (fun h => ?_); (on_goal 1 => subst s1); (on_goal 2 => try clear_value s1))
    | (extract_lets +onlyGivenNames n1; first | (have p : Sys := n1; clear p; subst n1) | (have p : Et := n1; clear p; subst n1) | (have p : Hm := n1; clear p; subst n1) | (have p : Opt := n1; clear p; subst n1) | (have p : Xg := n1; clear p; subst n1) | (have p : Sns := n1; clear p; subst n1) | (have p : Ev := n1; clear p; subst n1) | clear_value n1)
    | (with_reducible refine Keeps.foldl (fun t x h => ?_) ?_)
    | (simp -zeta only [Keeps.mark]; with_reducible refine KeepsLit.intro rfl ?_ ?_ ?_)
    | split

theorem Keeps.takeSpare_keeps {gs : List Group} (hg : [.mbx, .opt, .ev] ⊆ gs) {o0 s : State} (h0 : Keeps gs o0 s) (y : Insertion) : Keeps gs o0 (State.takeSpare s y) := by
  unfold State.takeSpare
  repeat' first
    | with_reducible assumption
    | with_reducible exact List.Subset.trans (by decide) hg
    | with_reducible exact Regular.keep rfl
    | (intro g hgn; cases g <;> first | exact (Keeps.out hg (by decide) hgn).elim | with_reducible rfl)
    | (extract_lets +onlyGivenNames f1; (first | (refine Keeps.fun1 f1 ?_) | (refine Keeps.fun2 f1 ?_) | (refine Keeps.fun3 f1 ?_) | (refine KeepsRes.fun1 f1 ?_)); subst f1; beta_reduce)
    | (extract_lets +onlyGivenNames s1; refine Keeps.have_ (gs := gs) (o := o0) (t := s1) ?_ (fun h => ?_); (on_goal 1 => subst s1); (on_goal 2 => try clear_value s1))
    | (extract_lets +onlyGivenNames n1; first | (have p : Sys := n1; clear p; subst n1) | (have p : Et := n1; clear p; subst n1) | (have p : Hm := n1; clear p; subst n1) | (have p : Opt := n1; clear p; subst n1) | (have p : Xg := n1; clear p; subst n1) | (have p : Sns := n1; clear p; subst n1) | (have p : Ev := n1; clear p; subst n1) | clear_value n1)
    | (with_reducible refine Keeps.foldl (fun t x h => ?_) ?_)
    | with_reducible apply Keeps.endIns_keeps
    | with_reducible apply Keeps.insStep_keeps
    | with_reducible apply Keeps.modSite_keeps
    | with_reducible apply Keeps.raiseIf_keeps
    | (simp -zeta only [Keeps.mark]; with_reducible refine KeepsLit.intro rfl ?_ ?_ ?_)
    | (with_reducible refine Keeps.ite ?_ ?_)
    | split

theorem Keeps.spareFails_keeps {gs : List Group} (hg : [.mbx, .opt] ⊆ gs) {o0 s : State} (h0 : Keeps gs o0 s) (y : Insertion) (n : Nat) : Keeps gs o0 (State.spareFails s y n) := by
  unfold State.spareFails
  repeat' first
    | with_reducible assumption
    | with_reducible exact List.Subset.trans (by decide) hg
    | with_reducible exact Regular.keep rfl
    | (intro g hgn; cases g <;> first | exact (Keeps.out hg (by decide) hgn).elim | with_reducible rfl)
    | (extract_lets +onlyGivenNames s1; refine Keeps.have_ (gs := gs) (o := o0) (t := s1) ?_ (fun h => ?_); (on_goal 1 => subst s1); (on_goal 2 => try clear_value s1))
    | (extract_lets +onlyGivenNames n1; first | (have p : Sys := n1; clear p; subst n1) | (have p : Et := n1; clear p; subst n1) | (have p : Hm := n1; clear p; subst n1) | (have p : Opt := n1; clear p; subst n1) | (have p : Xg := n1; clear p; subst n1) | (have p : Sns := n1; clear p; subst n1) | (have p : Ev := n1; clear p; subst n1) | clear_value n1)
    | (with_reducible refine Keeps.foldl (fun t x h => ?_) ?_)
    | with_reducible apply Keeps.endIns_keeps
    | with_reducible apply Keeps.insStep_keeps
    | with_reducible apply Keeps.modSite_keeps
    | with_reducible apply Keeps.untake_keeps
    | (simp -zeta only [Keeps.mark]; with_reducible refine KeepsLit.intro rfl ?_ ?_ ?_)
    | (with_reducible refine Keeps.ite ?_ ?_)
    | split

theorem Keeps.tuneSpare_keeps {gs : List Group} (hg : [.mbx, .opt] ⊆ gs) {o0 s : State} (h0 : Keeps gs o0 s) (y : Insertion) (n : Nat) (m : SpareCheck) : Keeps gs o0 (State.tuneSpare s y n m) := by
  unfold State.tuneSpare
  repeat' first
    | with_reducible assumption
    | with_reducible exact List.Subset.trans (by decide) hg
    | with_reducible exact Regular.keep rfl
    | (intro g hgn; cases g <;> first | exact (Keeps.out hg (by decide) hgn).elim | with_reducible rfl)
    | (extract_lets +onlyGivenNames s1; refine Keeps.have_ (gs := gs) (o := o0) (t := s1) ?_ (fun h => ?_); (on_goal 1 => subst s1); (on_goal 2 => try clear_value s1))
    | (extract_lets +onlyGivenNames n1; first | (have p : Sys := n1; clear p; subst n1) | (have p : Et := n1; clear p; subst n1) | (have p : Hm := n1; clear p; subst n1) | (have p : Opt := n1; clear p; subst n1) | (have p : Xg := n1; clear p; subst n1) | (have p : Sns := n1; clear p; subst n1) | (have p : Ev := n1; clear p; subst n1) | clear_value n1)
    | (with_reducible refine Keeps.foldl (fun t x h => ?_) ?_)
    | with_reducible apply Keeps.insStep_keeps
    | with_reducible apply Keeps.setPower_keeps
    | with_reducible apply Keeps.spareFails_keeps
    | (simp -zeta only [Keeps.mark]; with_reducible refine KeepsLit.intro rfl ?_ ?_ ?_)
    | (with_reducible refine Keeps.ite ?_ ?_)
    | split

theorem Keeps.verifySpare_keeps {gs : List Group} (hg : [.opt] ⊆ gs) {o0 s : State} (h0 : Keeps gs o0 s) {y : Insertion} {n : Nat} {m : SpareCheck}
    {t : State} {b : Bool} (e : State.verifySpare s y n m = some (t, b)) : Keeps gs o0 t := by
  unfold State.verifySpare at e
  dsimp only at e
  split at e
  · cases e
  · split at e
    · cases e; exact h0
    · split at e
      · cases e
      · split at e
        · have h1 : ∀ ds : List Nat, Keeps gs o0 (((y.terms n).zipIdx).foldl (fun s e => s.putTerm e.1 (ds.getD e.2 0)) s) :=
            fun ds => Keeps.foldl (fun t x h => Keeps.putTerm_keeps (List.Subset.trans (by decide) hg) h _ _) h0
          cases e
          exact Keeps.ite (Keeps.noteTemp_keeps (List.Subset.trans (by decide) hg) (h1 _) _ _) (h1 _)
        · cases e; exact h0

theorem Keeps.handLanding_keeps {gs : List Group} (hg : [.reg, .opt, .ls] ⊆ gs) {o0 s : State} (h0 : Keeps gs o0 s) (y : Insertion) (l : Nat) : Keeps gs o0 (State.handLanding s y l) := by
  unfold State.handLanding
  repeat' first
    | with_reducible assumption
    | with_reducible exact List.Subset.trans (by decide) hg
    | with_reducible exact Regular.keep rfl
    | (intro g hgn; cases g <;> first | exact (Keeps.out hg (by decide) hgn).elim | with_reducible rfl)
    | (extract_lets +onlyGivenNames s1; refine Keeps.have_ (gs := gs) (o := o0) (t := s1) ?_ (fun h => ?_); (on_goal 1 => subst s1); (on_goal 2 => try clear_value s1))
    | (extract_lets +onlyGivenNames n1; first | (have p : Sys := n1; clear p; subst n1) | (have p : Et := n1; clear p; subst n1) | (have p : Hm := n1; clear p; subst n1) | (have p : Opt := n1; clear p; subst n1) | (have p : Xg := n1; clear p; subst n1) | (have p : Sns := n1; clear p; subst n1) | (have p : Ev := n1; clear p; subst n1) | clear_value n1)
    | (with_reducible refine Keeps.foldl (fun t x h => ?_) ?_)
    | with_reducible apply Keeps.modSite_keeps
    | with_reducible apply Keeps.routes_keeps
    | (simp -zeta only [Keeps.mark]; with_reducible refine KeepsLit.intro rfl ?_ ?_ ?_)
    | (with_reducible refine Keeps.ite ?_ ?_)
    | split

theorem Keeps.handGroup_keeps {gs : List Group} (hg : [.reg, .opt, .ls] ⊆ gs) {o0 s : State} (h0 : Keeps gs o0 s) (y : Insertion) (g : Nat) : Keeps gs o0 (State.handGroup s y g) := by
  unfold State.handGroup
  repeat' first
    | with_reducible assumption
    | with_reducible exact List.Subset.trans (by decide) hg
    | with_reducible exact Regular.keep rfl
    | (intro g hgn; cases g <;> first | exact (Keeps.out hg (by decide) hgn).elim | with_reducible rfl)
    | (extract_lets +onlyGivenNames s1; refine Keeps.have_ (gs := gs) (o := o0) (t := s1) ?_ (fun h => ?_); (on_goal 1 => subst s1); (on_goal 2 => try clear_value s1))
    | (extract_lets +onlyGivenNames n1; first | (have p : Sys := n1; clear p; subst n1) | (have p : Et := n1; clear p; subst n1) | (have p : Hm := n1; clear p; subst n1) | (have p : Opt := n1; clear p; subst n1) | (have p : Xg := n1; clear p; subst n1) | (have p : Sns := n1; clear p; subst n1) | (have p : Ev := n1; clear p; subst n1) | clear_value n1)
    | (with_reducible refine Keeps.foldl (fun t x h => ?_) ?_)
    | with_reducible apply Keeps.modSite_keeps
    | with_reducible apply Keeps.routes_keeps
    | (simp -zeta only [Keeps.mark]; with_reducible refine KeepsLit.intro rfl ?_ ?_ ?_)
    | (with_reducible refine Keeps.ite ?_ ?_)
    | split

theorem Keeps.routeDone_keeps {gs : List Group} (hg : [.mbx, .opt, .ev] ⊆ gs) {o0 s : State} (h0 : Keeps gs o0 s) (y : Insertion) : Keeps gs o0 (State.routeDone s y) := by
  unfold State.routeDone
  repeat' first
    | with_reducible assumption
    | with_reducible exact List.Subset.trans (by decide) hg
    | with_reducible exact Regular.keep rfl
    | (intro g hgn; cases g <;> first | exact (Keeps.out hg (by decide) hgn).elim | with_reducible rfl)
    | (extract_lets +onlyGivenNames s1; refine Keeps.have_ (gs := gs) (o := o0) (t := s1) ?_ (fun h => ?_); (on_goal 1 => subst s1); (on_goal 2 => try clear_value s1))
    | (extract_lets +onlyGivenNames n1; first | (have p : Sys := n1; clear p; subst n1) | (have p : Et := n1; clear p; subst n1) | (have p : Hm := n1; clear p; subst n1) | (have p : Opt := n1; clear p; subst n1) | (have p : Xg := n1; clear p; subst n1) | (have p : Sns := n1; clear p; subst n1) | (have p : Ev := n1; clear p; subst n1) | clear_value n1)
    | (with_reducible refine Keeps.foldl (fun t x h => ?_) ?_)
    | with_reducible apply Keeps.insDone_keeps
    | with_reducible apply Keeps.modSite_keeps
    | with_reducible apply Keeps.partFailed_keeps
    | (simp -zeta only [Keeps.mark]; with_reducible refine KeepsLit.intro rfl ?_ ?_ ?_)
    | (with_reducible refine Keeps.ite ?_ ?_)
    | split

theorem Keeps.routeStep_keeps {gs : List Group} (hg : [.mbx, .reg, .opt, .ls, .ev] ⊆ gs) {o0 s : State} (h0 : Keeps gs o0 s) (y : Insertion) (m : SpareCheck) :
    Keeps gs o0 (State.routeStep s y m) := by
  have sub : ∀ {ts : List Group}, ts ⊆ [.mbx, .reg, .opt, .ls, .ev] → ts ⊆ gs := fun h => List.Subset.trans h hg
  unfold State.routeStep
  split
  · exact h0
  · split
    · exact Keeps.takeSpare_keeps (sub (by decide)) h0 _
    · split
      · exact h0
      · split
        · exact Keeps.tuneSpare_keeps (sub (by decide)) h0 _ _ _
        · split
          · split
            · exact h0
            · split
              · exact h0
              · exact Keeps.spareFails_keeps (sub (by decide)) (Keeps.verifySpare_keeps (sub (by decide)) h0 (by assumption)) _ _
              · have h1 := Keeps.verifySpare_keeps (gs := gs) (sub (by decide)) h0 (by assumption)
                have h2 := Keeps.ite (c := y.planned = true) h1
                  (Keeps.modSite_keeps (gs := gs) (sub (by decide)) h1 y.target fun x => { x with confirm := addKey y.quad x.confirm })
                dsimp only
                exact Keeps.insStep_keeps (sub (by decide)) (Keeps.ite (Keeps.handLanding_keeps (sub (by decide)) h2 _ _)
                  (Keeps.handGroup_keeps (sub (by decide)) h2 _ _)) _ _ _ _
          · split
            · exact Keeps.routeDone_keeps (sub (by decide)) h0 _
            · exact h0

theorem Keeps.execLandingInsert_keeps {gs : List Group} (hg : [.mbx, .reg, .opt, .ls, .ev] ⊆ gs) {o0 s : State} (h0 : Keeps gs o0 s) (site : Site) (q : Fin 4) (power : List Int) (quick : List Nat) (full : Option (List Nat)) : KeepsOut gs o0 (execLandingInsert site q power quick full s) := by
  unfold execLandingInsert
  repeat' first
    | with_reducible assumption
    | with_reducible exact List.Subset.trans (by decide) hg
    | with_reducible exact Regular.keep rfl
    | (intro g hgn; cases g <;> first | exact (Keeps.out hg (by decide) hgn).elim | with_reducible rfl)
    | (extract_lets +onlyGivenNames s1; refine Keeps.have_ (gs := gs) (o := o0) (t := s1) ?_ (fun h => ?_); (on_goal 1 => subst s1); (on_goal 2 => try clear_value s1))
    | (extract_lets +onlyGivenNames n1; first | (have p : Sys := n1; clear p; subst n1) | (have p : Et := n1; clear p; subst n1) | (have p : Hm := n1; clear p; subst n1) | (have p : Opt := n1; clear p; subst n1) | (have p : Xg := n1; clear p; subst n1) | (have p : Sns := n1; clear p; subst n1) | (have p : Ev := n1; clear p; subst n1) | clear_value n1)
    | (with_reducible refine Keeps.foldl (fun t x h => ?_) ?_)
    | (with_reducible refine KeepsOut.next ?_)
    | with_reducible apply Keeps.routeStep_keeps
    | (simp -zeta only [Keeps.mark]; with_reducible refine KeepsLit.intro rfl ?_ ?_ ?_)
    | (with_reducible refine Keeps.ite ?_ ?_)
    | split

theorem Keeps.execGroupInsert_keeps {gs : List Group} (hg : [.mbx, .reg, .opt, .ls, .ev] ⊆ gs) {o0 s : State} (h0 : Keeps gs o0 s) (site : Site) (q : Fin 4) (quick : List Nat) (full : Option (List Nat)) : KeepsOut gs o0 (execGroupInsert site q quick full s) := by
  unfold execGroupInsert
  repeat' first
    | with_reducible assumption
    | with_reducible exact List.Subset.trans (by decide) hg
    | with_reducible exact Regular.keep rfl
    | (intro g hgn; cases g <;> first | exact (Keeps.out hg (by decide) hgn).elim | with_reducible rfl)
    | (extract_lets +onlyGivenNames s1; refine Keeps.have_ (gs := gs) (o := o0) (t := s1) ?_ (fun h => ?_); (on_goal 1 => subst s1); (on_goal 2 => try clear_value s1))
    | (extract_lets +onlyGivenNames n1; first | (have p : Sys := n1; clear p; subst n1) | (have p : Et := n1; clear p; subst n1) | (have p : Hm := n1; clear p; subst n1) | (have p : Opt := n1; clear p; subst n1) | (have p : Xg := n1; clear p; subst n1) | (have p : Sns := n1; clear p; subst n1) | (have p : Ev := n1; clear p; subst n1) | clear_value n1)
    | (with_reducible refine Keeps.foldl (fun t x h => ?_) ?_)
    | (with_reducible refine KeepsOut.next ?_)
    | with_reducible apply Keeps.routeStep_keeps
    | (simp -zeta only [Keeps.mark]; with_reducible refine KeepsLit.intro rfl ?_ ?_ ?_)
    | split

theorem Keeps.homeward_keeps {gs : List Group} (hg : [.reg, .opt, .ls] ⊆ gs) {o0 s : State} (h0 : Keeps gs o0 s) (site : Nat) : Keeps gs o0 (State.homeward s site) := by
  unfold State.homeward
  repeat' first
    | with_reducible assumption
    | with_reducible exact List.Subset.trans (by decide) hg
    | with_reducible exact Regular.keep rfl
    | (intro g hgn; cases g <;> first | exact (Keeps.out hg (by decide) hgn).elim | with_reducible rfl)
    | (extract_lets +onlyGivenNames f1; (first | (refine Keeps.fun1 f1 ?_) | (refine Keeps.fun2 f1 ?_) | (refine Keeps.fun3 f1 ?_) | (refine KeepsRes.fun1 f1 ?_)); subst f1; beta_reduce)
    | (extract_lets +onlyGivenNames s1; refine Keeps.have_ (gs := gs) (o := o0) (t := s1) ?_ (fun h => ?_); (on_goal 1 => subst s1); (on_goal 2 => try clear_value s1))
    | (extract_lets +onlyGivenNames n1; first | (have p : Sys := n1; clear p; subst n1) | (have p : Et := n1; clear p; subst n1) | (have p : Hm := n1; clear p; subst n1) | (have p : Opt := n1; clear p; subst n1) | (have p : Xg := n1; clear p; subst n1) | (have p : Sns := n1; clear p; subst n1) | (have p : Ev := n1; clear p; subst n1) | clear_value n1)
    | (with_reducible refine Keeps.foldl (fun t x h => ?_) ?_)
    | with_reducible apply Keeps.routes_keeps
    | (simp -zeta only [Keeps.mark]; with_reducible refine KeepsLit.intro rfl ?_ ?_ ?_)
    | (with_reducible refine Keeps.ite ?_ ?_)
    | split

theorem Keeps.execWavelengthInsert_keeps {gs : List Group} (hg : [.mbx, .reg, .opt, .ls, .ev] ⊆ gs) {o0 s : State} (h0 : Keeps gs o0 s) (launched : Int) : KeepsOut gs o0 (execWavelengthInsert launched s) := by
  unfold execWavelengthInsert
  repeat' first
    | with_reducible assumption
    | with_reducible exact List.Subset.trans (by decide) hg
    | with_reducible exact Regular.keep rfl
    | (intro g hgn; cases g <;> first | exact (Keeps.out hg (by decide) hgn).elim | with_reducible rfl)
    | (extract_lets +onlyGivenNames s1; refine Keeps.have_ (gs := gs) (o := o0) (t := s1) ?_ (fun h => ?_); (on_goal 1 => subst s1); (on_goal 2 => try clear_value s1))
    | (extract_lets +onlyGivenNames n1; first | (have p : Sys := n1; clear p; subst n1) | (have p : Et := n1; clear p; subst n1) | (have p : Hm := n1; clear p; subst n1) | (have p : Opt := n1; clear p; subst n1) | (have p : Xg := n1; clear p; subst n1) | (have p : Sns := n1; clear p; subst n1) | (have p : Ev := n1; clear p; subst n1) | clear_value n1)
    | (with_reducible refine Keeps.foldl (fun t x h => ?_) ?_)
    | (with_reducible refine KeepsOut.next ?_)
    | with_reducible apply Keeps.endIns_keeps
    | with_reducible apply Keeps.homeward_keeps
    | with_reducible apply Keeps.insDone_keeps
    | with_reducible apply Keeps.insStep_keeps
    | with_reducible apply Keeps.modIns_keeps
    | with_reducible apply Keeps.modSite_keeps
    | with_reducible apply Keeps.roleLost_keeps
    | with_reducible apply Keeps.setLaunch_keeps
    | (simp -zeta only [Keeps.mark]; with_reducible refine KeepsLit.intro rfl ?_ ?_ ?_)
    | (with_reducible refine Keeps.ite ?_ ?_)
    | split

theorem Keeps.execBorrowPermanent_keeps {gs : List Group} (hg : [.mbx, .reg, .opt, .ls, .ev] ⊆ gs) {o0 s : State} (h0 : Keeps gs o0 s) (site : Site) (q : Fin 4) (delays : List Nat) : KeepsOut gs o0 (execBorrowPermanent site q delays s) := by
  unfold execBorrowPermanent
  repeat' first
    | with_reducible assumption
    | with_reducible exact List.Subset.trans (by decide) hg
    | with_reducible exact Regular.keep rfl
    | (intro g hgn; cases g <;> first | exact (Keeps.out hg (by decide) hgn).elim | with_reducible rfl)
    | (extract_lets +onlyGivenNames s1; refine Keeps.have_ (gs := gs) (o := o0) (t := s1) ?_ (fun h => ?_); (on_goal 1 => subst s1); (on_goal 2 => try clear_value s1))
    | (extract_lets +onlyGivenNames n1; first | (have p : Sys := n1; clear p; subst n1) | (have p : Et := n1; clear p; subst n1) | (have p : Hm := n1; clear p; subst n1) | (have p : Opt := n1; clear p; subst n1) | (have p : Xg := n1; clear p; subst n1) | (have p : Sns := n1; clear p; subst n1) | (have p : Ev := n1; clear p; subst n1) | clear_value n1)
    | (with_reducible refine Keeps.foldl (fun t x h => ?_) ?_)
    | (with_reducible refine Keeps.foldl2 (fun t x h => ?_) ?_)
    | (with_reducible refine Keeps.foldl1 (fun t x h => ?_) ?_)
    | (with_reducible refine KeepsOut.next ?_)
    | with_reducible apply Keeps.endIns_keeps
    | with_reducible apply Keeps.modSite_keeps
    | with_reducible apply Keeps.partFailed_keeps
    | with_reducible apply Keeps.putTerm_keeps
    | with_reducible apply Keeps.raise_keeps
    | with_reducible apply Keeps.routes_keeps
    | (simp -zeta only [Keeps.mark]; with_reducible refine KeepsLit.intro rfl ?_ ?_ ?_)
    | (with_reducible refine Keeps.ite ?_ ?_)
    | split

theorem Keeps.siteToBackup_keeps {gs : List Group} (hg : [.mbx, .reg, .opt, .ls, .ev] ⊆ gs) {o0 s : State} (h0 : Keeps gs o0 s) (site : Nat) : Keeps gs o0 (State.siteToBackup s site) := by
  unfold State.siteToBackup
  repeat' first
    | with_reducible assumption
    | with_reducible exact List.Subset.trans (by decide) hg
    | with_reducible exact Regular.keep rfl
    | (intro g hgn; cases g <;> first | exact (Keeps.out hg (by decide) hgn).elim | with_reducible rfl)
    | (extract_lets +onlyGivenNames s1; refine Keeps.have_ (gs := gs) (o := o0) (t := s1) ?_ (fun h => ?_); (on_goal 1 => subst s1); (on_goal 2 => try clear_value s1))
    | (extract_lets +onlyGivenNames n1; first | (have p : Sys := n1; clear p; subst n1) | (have p : Et := n1; clear p; subst n1) | (have p : Hm := n1; clear p; subst n1) | (have p : Opt := n1; clear p; subst n1) | (have p : Xg := n1; clear p; subst n1) | (have p : Sns := n1; clear p; subst n1) | (have p : Ev := n1; clear p; subst n1) | clear_value n1)
    | (with_reducible refine Keeps.foldl (fun t x h => ?_) ?_)
    | with_reducible apply Keeps.backupQuad_keeps
    | with_reducible apply Keeps.dropLanding_keeps
    | with_reducible apply Keeps.modSite_keeps
    | with_reducible apply Keeps.raise_keeps
    | with_reducible apply Keeps.routes_keeps
    | (simp -zeta only [Keeps.mark]; with_reducible refine KeepsLit.intro rfl ?_ ?_ ?_)
    | (with_reducible refine Keeps.ite ?_ ?_)
    | split

theorem Keeps.execSiteBackup_keeps {gs : List Group} (hg : [.mbx, .reg, .opt, .ls, .ev] ⊆ gs) {o0 s : State} (h0 : Keeps gs o0 s) (site : Site) : KeepsOut gs o0 (execSiteBackup site s) := by
  unfold execSiteBackup
  repeat' first
    | with_reducible assumption
    | with_reducible exact List.Subset.trans (by decide) hg
    | with_reducible exact Regular.keep rfl
    | (intro g hgn; cases g <;> first | exact (Keeps.out hg (by decide) hgn).elim | with_reducible rfl)
    | (extract_lets +onlyGivenNames s1; refine Keeps.have_ (gs := gs) (o := o0) (t := s1) ?_ (fun h => ?_); (on_goal 1 => subst s1); (on_goal 2 => try clear_value s1))
    | (extract_lets +onlyGivenNames n1; first | (have p : Sys := n1; clear p; subst n1) | (have p : Et := n1; clear p; subst n1) | (have p : Hm := n1; clear p; subst n1) | (have p : Opt := n1; clear p; subst n1) | (have p : Xg := n1; clear p; subst n1) | (have p : Sns := n1; clear p; subst n1) | (have p : Ev := n1; clear p; subst n1) | clear_value n1)
    | (with_reducible refine Keeps.foldl (fun t x h => ?_) ?_)
    | (with_reducible refine KeepsOut.next ?_)
    | with_reducible apply Keeps.siteToBackup_keeps
    | (simp -zeta only [Keeps.mark]; with_reducible refine KeepsLit.intro rfl ?_ ?_ ?_)
    | (with_reducible refine Keeps.ite ?_ ?_)
    | split

theorem Keeps.tryCarrier_keeps {gs : List Group} (hg : [.opt] ⊆ gs) {o0 s : State} (h0 : Keeps gs o0 s) (launched : List (Fin 4 × Int)) (c : Nat) : Keeps gs o0 (State.tryCarrier launched s c) := by
  unfold State.tryCarrier
  repeat' first
    | with_reducible assumption
    | with_reducible exact List.Subset.trans (by decide) hg
    | with_reducible exact Regular.keep rfl
    | (intro g hgn; cases g <;> first | exact (Keeps.out hg (by decide) hgn).elim | with_reducible rfl)
    | (extract_lets +onlyGivenNames s1; refine Keeps.have_ (gs := gs) (o := o0) (t := s1) ?_ (fun h => ?_); (on_goal 1 => subst s1); (on_goal 2 => try clear_value s1))
    | (extract_lets +onlyGivenNames n1; first | (have p : Sys := n1; clear p; subst n1) | (have p : Et := n1; clear p; subst n1) | (have p : Hm := n1; clear p; subst n1) | (have p : Opt := n1; clear p; subst n1) | (have p : Xg := n1; clear p; subst n1) | (have p : Sns := n1; clear p; subst n1) | (have p : Ev := n1; clear p; subst n1) | clear_value n1)
    | (with_reducible refine Keeps.foldl (fun t x h => ?_) ?_)
    | with_reducible apply Keeps.setLaunch_keeps
    | (simp -zeta only [Keeps.mark]; with_reducible refine KeepsLit.intro rfl ?_ ?_ ?_)
    | (with_reducible refine Keeps.ite ?_ ?_)
    | split

theorem Keeps.execSiteOptical_keeps {gs : List Group} (hg : [.reg, .opt, .ls, .ev] ⊆ gs) {o0 s : State} (h0 : Keeps gs o0 s) (launched : List (Fin 4 × Int) := []) : KeepsOut gs o0 (execSiteOptical s launched) := by
  unfold execSiteOptical
  repeat' first
    | with_reducible assumption
    | with_reducible exact List.Subset.trans (by decide) hg
    | with_reducible exact Regular.keep rfl
    | (intro g hgn; cases g <;> first | exact (Keeps.out hg (by decide) hgn).elim | with_reducible rfl)
    | (extract_lets +onlyGivenNames s1; refine Keeps.have_ (gs := gs) (o := o0) (t := s1) ?_ (fun h => ?_); (on_goal 1 => subst s1); (on_goal 2 => try clear_value s1))
    | (extract_lets +onlyGivenNames n1; first | (have p : Sys := n1; clear p; subst n1) | (have p : Et := n1; clear p; subst n1) | (have p : Hm := n1; clear p; subst n1) | (have p : Opt := n1; clear p; subst n1) | (have p : Xg := n1; clear p; subst n1) | (have p : Sns := n1; clear p; subst n1) | (have p : Ev := n1; clear p; subst n1) | clear_value n1)
    | (with_reducible refine Keeps.foldl (fun t x h => ?_) ?_)
    | (with_reducible refine KeepsOut.next ?_)
    | with_reducible apply Keeps.homeward_keeps
    | with_reducible apply Keeps.modSite_keeps
    | with_reducible apply Keeps.raise_keeps
    | with_reducible apply Keeps.tryCarrier_keeps
    | (simp -zeta only [Keeps.mark]; with_reducible refine KeepsLit.intro rfl ?_ ?_ ?_)
    | (with_reducible refine Keeps.ite ?_ ?_)
    | split

theorem Keeps.calAbandon_keeps {gs : List Group} (hg : [.mbx, .reg, .cal] ⊆ gs) {o0 s : State} (h0 : Keeps gs o0 s) (rs : List RegionNo) : Keeps gs o0 (State.calAbandon s rs) := by
  unfold State.calAbandon
  repeat' first
    | with_reducible assumption
    | with_reducible exact List.Subset.trans (by decide) hg
    | with_reducible exact Regular.keep rfl
    | (intro g hgn; cases g <;> first | exact (Keeps.out hg (by decide) hgn).elim | with_reducible rfl)
    | (extract_lets +onlyGivenNames s1; refine Keeps.have_ (gs := gs) (o := o0) (t := s1) ?_ (fun h => ?_); (on_goal 1 => subst s1); (on_goal 2 => try clear_value s1))
    | (extract_lets +onlyGivenNames n1; first | (have p : Sys := n1; clear p; subst n1) | (have p : Et := n1; clear p; subst n1) | (have p : Hm := n1; clear p; subst n1) | (have p : Opt := n1; clear p; subst n1) | (have p : Xg := n1; clear p; subst n1) | (have p : Sns := n1; clear p; subst n1) | (have p : Ev := n1; clear p; subst n1) | clear_value n1)
    | (with_reducible refine Keeps.foldl (fun t x h => ?_) ?_)
    | with_reducible apply Keeps.calLeave_keeps
    | (simp -zeta only [Keeps.mark]; with_reducible refine KeepsLit.intro rfl ?_ ?_ ?_)
    | (with_reducible refine Keeps.ite ?_ ?_)
    | split

theorem Keeps.execSiteIsolated_keeps {gs : List Group} (hg : [.sys, .mbx, .reg, .et, .opt, .ls, .xg, .cal, .die, .ev] ⊆ gs) {o0 s : State} (h0 : Keeps gs o0 s) (site : Site) (backupFailed : Bool := false) : KeepsOut gs o0 (execSiteIsolated site s backupFailed) := by
  unfold execSiteIsolated
  repeat' first
    | with_reducible assumption
    | with_reducible exact List.Subset.trans (by decide) hg
    | with_reducible exact Regular.keep rfl
    | (intro g hgn; cases g <;> first | exact (Keeps.out hg (by decide) hgn).elim | with_reducible rfl)
    | (extract_lets +onlyGivenNames s1; refine Keeps.have_ (gs := gs) (o := o0) (t := s1) ?_ (fun h => ?_); (on_goal 1 => subst s1); (on_goal 2 => try clear_value s1))
    | (extract_lets +onlyGivenNames n1; first | (have p : Sys := n1; clear p; subst n1) | (have p : Et := n1; clear p; subst n1) | (have p : Hm := n1; clear p; subst n1) | (have p : Opt := n1; clear p; subst n1) | (have p : Xg := n1; clear p; subst n1) | (have p : Sns := n1; clear p; subst n1) | (have p : Ev := n1; clear p; subst n1) | clear_value n1)
    | (with_reducible refine Keeps.foldl (fun t x h => ?_) ?_)
    | (with_reducible refine KeepsOut.next ?_)
    | with_reducible apply Keeps.answerAll_keeps
    | with_reducible apply Keeps.breakAnchors_keeps
    | with_reducible apply Keeps.calAbandon_keeps
    | with_reducible apply Keeps.endIns_keeps
    | with_reducible apply Keeps.fenceAll_keeps
    | with_reducible apply Keeps.mlbSet_keeps
    | with_reducible apply Keeps.modDie_keeps
    | with_reducible apply Keeps.modSite_keeps
    | with_reducible apply Keeps.note16_keeps
    | with_reducible apply Keeps.raise_keeps
    | with_reducible apply Keeps.stopReplica_keeps
    | (simp -zeta only [Keeps.mark]; with_reducible refine KeepsLit.intro rfl ?_ ?_ ?_)
    | (with_reducible refine Keeps.ite ?_ ?_)
    | split

theorem Keeps.execInsvcRecal_keeps {gs : List Group} (hg : [.opt] ⊆ gs) {o0 s : State} (h0 : Keeps gs o0 s) (site : Site) (l : Fin 6) : KeepsOut gs o0 (execInsvcRecal site l s) := by
  unfold execInsvcRecal
  repeat' first
    | with_reducible assumption
    | with_reducible exact List.Subset.trans (by decide) hg
    | with_reducible exact Regular.keep rfl
    | (intro g hgn; cases g <;> first | exact (Keeps.out hg (by decide) hgn).elim | with_reducible rfl)
    | (extract_lets +onlyGivenNames s1; refine Keeps.have_ (gs := gs) (o := o0) (t := s1) ?_ (fun h => ?_); (on_goal 1 => subst s1); (on_goal 2 => try clear_value s1))
    | (extract_lets +onlyGivenNames n1; first | (have p : Sys := n1; clear p; subst n1) | (have p : Et := n1; clear p; subst n1) | (have p : Hm := n1; clear p; subst n1) | (have p : Opt := n1; clear p; subst n1) | (have p : Xg := n1; clear p; subst n1) | (have p : Sns := n1; clear p; subst n1) | (have p : Ev := n1; clear p; subst n1) | clear_value n1)
    | (with_reducible refine Keeps.foldl (fun t x h => ?_) ?_)
    | (with_reducible refine KeepsOut.next ?_)
    | (simp -zeta only [Keeps.mark]; with_reducible refine KeepsLit.intro rfl ?_ ?_ ?_)
    | (with_reducible refine Keeps.ite ?_ ?_)
    | split

theorem Keeps.degradeTerm_keeps {gs : List Group} (hg : [.mbx, .opt] ⊆ gs) {o0 s : State} (h0 : Keeps gs o0 s) (t : RouteTerm) : Keeps gs o0 (State.degradeTerm s t) := by
  unfold State.degradeTerm
  repeat' first
    | with_reducible assumption
    | with_reducible exact List.Subset.trans (by decide) hg
    | with_reducible exact Regular.keep rfl
    | (intro g hgn; cases g <;> first | exact (Keeps.out hg (by decide) hgn).elim | with_reducible rfl)
    | (extract_lets +onlyGivenNames s1; refine Keeps.have_ (gs := gs) (o := o0) (t := s1) ?_ (fun h => ?_); (on_goal 1 => subst s1); (on_goal 2 => try clear_value s1))
    | (extract_lets +onlyGivenNames n1; first | (have p : Sys := n1; clear p; subst n1) | (have p : Et := n1; clear p; subst n1) | (have p : Hm := n1; clear p; subst n1) | (have p : Opt := n1; clear p; subst n1) | (have p : Xg := n1; clear p; subst n1) | (have p : Sns := n1; clear p; subst n1) | (have p : Ev := n1; clear p; subst n1) | clear_value n1)
    | (with_reducible refine Keeps.foldl (fun t x h => ?_) ?_)
    | with_reducible apply Keeps.degradeGroup_keeps
    | with_reducible apply Keeps.degradeLanding_keeps
    | with_reducible apply Keeps.modSite_keeps
    | (simp -zeta only [Keeps.mark]; with_reducible refine KeepsLit.intro rfl ?_ ?_ ?_)
    | (with_reducible refine Keeps.ite ?_ ?_)
    | split

theorem Keeps.measured_keeps {gs : List Group} (hg : [.mbx, .opt] ⊆ gs) {o0 s : State} (h0 : Keeps gs o0 s) (t : RouteTerm) (d : Nat) : Keeps gs o0 (State.measured s t d).1 := by
  unfold State.measured
  repeat' first
    | with_reducible assumption
    | with_reducible exact List.Subset.trans (by decide) hg
    | exact fun h => { h with terms := (by dsimp only; exact Map.put_wf _ _ h.terms) }
    | with_reducible exact Regular.keep rfl
    | (extract_lets +onlyGivenNames f1; (first | (refine Keeps.fun1 f1 ?_) | (refine Keeps.fun2 f1 ?_) | (refine Keeps.fun3 f1 ?_) | (refine KeepsRes.fun1 f1 ?_)); subst f1; beta_reduce)
    | (intro g hgn; cases g <;> first | exact (Keeps.out hg (by decide) hgn).elim | with_reducible rfl)
    | (extract_lets +onlyGivenNames s1; refine Keeps.have_ (gs := gs) (o := o0) (t := s1) ?_ (fun h => ?_); (on_goal 1 => subst s1); (on_goal 2 => try clear_value s1))
    | (extract_lets +onlyGivenNames n1; first | (have p : Sys := n1; clear p; subst n1) | (have p : Et := n1; clear p; subst n1) | (have p : Hm := n1; clear p; subst n1) | (have p : Opt := n1; clear p; subst n1) | (have p : Xg := n1; clear p; subst n1) | (have p : Sns := n1; clear p; subst n1) | (have p : Ev := n1; clear p; subst n1) | clear_value n1)
    | (with_reducible refine Keeps.foldl (fun t x h => ?_) ?_)
    | (with_reducible refine Keeps.foldl2 (fun t x h => ?_) ?_)
    | (with_reducible refine Keeps.foldl1 (fun t x h => ?_) ?_)
    | (dsimp -zeta only)
    | with_reducible apply Keeps.degradeTerm_keeps
    | with_reducible apply Keeps.putTerm_keeps
    | (simp -zeta only [Keeps.mark]; with_reducible refine KeepsLit.intro rfl ?_ ?_ ?_)
    | (with_reducible refine Keeps.ite ?_ ?_)
    | split

theorem Keeps.execInsvcMeasurementDone_keeps {gs : List Group} (hg : [.mbx, .opt] ⊆ gs) {o0 s : State} (h0 : Keeps gs o0 s) (t : RouteTerm) (delay : Nat) : KeepsOut gs o0 (execInsvcMeasurementDone t delay s) := by
  unfold execInsvcMeasurementDone
  repeat' first
    | with_reducible assumption
    | with_reducible exact List.Subset.trans (by decide) hg
    | with_reducible exact Regular.keep rfl
    | (intro g hgn; cases g <;> first | exact (Keeps.out hg (by decide) hgn).elim | with_reducible rfl)
    | (extract_lets +onlyGivenNames s1; refine Keeps.have_ (gs := gs) (o := o0) (t := s1) ?_ (fun h => ?_); (on_goal 1 => subst s1); (on_goal 2 => try clear_value s1))
    | (extract_lets +onlyGivenNames n1; first | (have p : Sys := n1; clear p; subst n1) | (have p : Et := n1; clear p; subst n1) | (have p : Hm := n1; clear p; subst n1) | (have p : Opt := n1; clear p; subst n1) | (have p : Xg := n1; clear p; subst n1) | (have p : Sns := n1; clear p; subst n1) | (have p : Ev := n1; clear p; subst n1) | clear_value n1)
    | (with_reducible refine Keeps.foldl (fun t x h => ?_) ?_)
    | (with_reducible refine KeepsOut.next ?_)
    | with_reducible apply Keeps.answerAll_keeps
    | with_reducible apply Keeps.measured_keeps
    | with_reducible apply Keeps.noteTemp_keeps
    | (simp -zeta only [Keeps.mark]; with_reducible refine KeepsLit.intro rfl ?_ ?_ ?_)
    | (with_reducible refine KeepsOpt.getD ?_ ?_)
    | (with_reducible refine Keeps.optEq (by assumption) ?_)
    | (with_reducible refine Keeps.pairEq1 (by assumption) ?_)
    | (with_reducible refine Keeps.pairEq2 (by assumption) ?_)
    | (with_reducible refine Keeps.ite ?_ ?_)
    | split

theorem Keeps.execDelaySlew_keeps {gs : List Group} (hg : [.opt] ⊆ gs) {o0 s : State} (h0 : Keeps gs o0 s) : KeepsOut gs o0 (execDelaySlew s) := by
  unfold execDelaySlew
  repeat' first
    | with_reducible assumption
    | with_reducible exact List.Subset.trans (by decide) hg
    | exact fun h => { h with terms := Map.map_wf (fun x : Option Term => x.map Term.slew) (fun x hx => by cases x <;> simp at hx ⊢) h.terms }
    | with_reducible exact Regular.keep rfl
    | (intro g hgn; cases g <;> first | exact (Keeps.out hg (by decide) hgn).elim | with_reducible rfl)
    | (extract_lets +onlyGivenNames s1; refine Keeps.have_ (gs := gs) (o := o0) (t := s1) ?_ (fun h => ?_); (on_goal 1 => subst s1); (on_goal 2 => try clear_value s1))
    | (extract_lets +onlyGivenNames n1; first | (have p : Sys := n1; clear p; subst n1) | (have p : Et := n1; clear p; subst n1) | (have p : Hm := n1; clear p; subst n1) | (have p : Opt := n1; clear p; subst n1) | (have p : Xg := n1; clear p; subst n1) | (have p : Sns := n1; clear p; subst n1) | (have p : Ev := n1; clear p; subst n1) | clear_value n1)
    | (with_reducible refine Keeps.foldl (fun t x h => ?_) ?_)
    | (with_reducible refine KeepsOut.next ?_)
    | (simp -zeta only [Keeps.mark]; with_reducible refine KeepsLit.intro rfl ?_ ?_ ?_)
    | (with_reducible refine Keeps.ite ?_ ?_)
    | split

theorem Keeps.execLaneRemeasure_keeps {gs : List Group} (hg : [.opt, .xg] ⊆ gs) {o0 s : State} (h0 : Keeps gs o0 s) (site : Site) (delays : List (RegionNo × Nat × Nat)) : KeepsOut gs o0 (execLaneRemeasure site delays s) := by
  unfold execLaneRemeasure
  repeat' first
    | with_reducible assumption
    | with_reducible exact List.Subset.trans (by decide) hg
    | with_reducible exact Regular.keep rfl
    | (intro g hgn; cases g <;> first | exact (Keeps.out hg (by decide) hgn).elim | with_reducible rfl)
    | (extract_lets +onlyGivenNames s1; refine Keeps.have_ (gs := gs) (o := o0) (t := s1) ?_ (fun h => ?_); (on_goal 1 => subst s1); (on_goal 2 => try clear_value s1))
    | (extract_lets +onlyGivenNames n1; first | (have p : Sys := n1; clear p; subst n1) | (have p : Et := n1; clear p; subst n1) | (have p : Hm := n1; clear p; subst n1) | (have p : Opt := n1; clear p; subst n1) | (have p : Xg := n1; clear p; subst n1) | (have p : Sns := n1; clear p; subst n1) | (have p : Ev := n1; clear p; subst n1) | clear_value n1)
    | (with_reducible refine Keeps.foldl (fun t x h => ?_) ?_)
    | (with_reducible refine Keeps.foldl2 (fun t x h => ?_) ?_)
    | (with_reducible refine Keeps.foldl1 (fun t x h => ?_) ?_)
    | (with_reducible refine KeepsOut.next ?_)
    | with_reducible apply Keeps.modLane_keeps
    | with_reducible apply Keeps.modSite_keeps
    | (simp -zeta only [Keeps.mark]; with_reducible refine KeepsLit.intro rfl ?_ ?_ ?_)
    | (with_reducible refine Keeps.ite ?_ ?_)
    | split

theorem Keeps.cmdRouteQuery_keeps {gs : List Group} (hg : [] ⊆ gs) {o0 s : State} (h0 : Keeps gs o0 s) (q : Req) : KeepsRes gs o0 (cmdRouteQuery q s) := by
  unfold cmdRouteQuery
  repeat' first
    | with_reducible assumption
    | with_reducible exact List.Subset.trans (by decide) hg
    | with_reducible exact Regular.keep rfl
    | (intro g hgn; cases g <;> first | exact (Keeps.out hg (by decide) hgn).elim | with_reducible rfl)
    | (extract_lets +onlyGivenNames s1; refine KeepsRes.have_ (gs := gs) (o := o0) (r := s1) ?_ (fun h => ?_); (on_goal 1 => subst s1); (on_goal 2 => try clear_value s1))
    | (extract_lets +onlyGivenNames s1; refine Keeps.have_ (gs := gs) (o := o0) (t := s1) ?_ (fun h => ?_); (on_goal 1 => subst s1); (on_goal 2 => try clear_value s1))
    | (extract_lets +onlyGivenNames n1; first | (have p : Sys := n1; clear p; subst n1) | (have p : Et := n1; clear p; subst n1) | (have p : Hm := n1; clear p; subst n1) | (have p : Opt := n1; clear p; subst n1) | (have p : Xg := n1; clear p; subst n1) | (have p : Sns := n1; clear p; subst n1) | (have p : Ev := n1; clear p; subst n1) | clear_value n1)
    | (with_reducible refine Keeps.foldl (fun t x h => ?_) ?_)
    | (with_reducible refine KeepsRes.done ?_)
    | (with_reducible refine KeepsRes.wait ?_)
    | (with_reducible refine KeepsRes.refuse ?_)
    | with_reducible apply Keeps.refuse_keeps
    | (simp -zeta only [Keeps.mark]; with_reducible refine KeepsLit.intro rfl ?_ ?_ ?_)
    | split

theorem Keeps.execRouteQuery_keeps {gs : List Group} (hg : [.mbx] ⊆ gs) {o0 s : State} (h0 : Keeps gs o0 s) (q : Req) : KeepsOut gs o0 (execRouteQuery q s) := by
  unfold execRouteQuery
  repeat' first
    | with_reducible assumption
    | with_reducible exact List.Subset.trans (by decide) hg
    | with_reducible exact Regular.keep rfl
    | (intro g hgn; cases g <;> first | exact (Keeps.out hg (by decide) hgn).elim | with_reducible rfl)
    | (extract_lets +onlyGivenNames s1; refine Keeps.have_ (gs := gs) (o := o0) (t := s1) ?_ (fun h => ?_); (on_goal 1 => subst s1); (on_goal 2 => try clear_value s1))
    | (extract_lets +onlyGivenNames n1; first | (have p : Sys := n1; clear p; subst n1) | (have p : Et := n1; clear p; subst n1) | (have p : Hm := n1; clear p; subst n1) | (have p : Opt := n1; clear p; subst n1) | (have p : Xg := n1; clear p; subst n1) | (have p : Sns := n1; clear p; subst n1) | (have p : Ev := n1; clear p; subst n1) | clear_value n1)
    | (with_reducible refine Keeps.foldl (fun t x h => ?_) ?_)
    | (with_reducible refine KeepsOut.next ?_)
    | (with_reducible refine Keeps.submit_keeps ?_ ?_ _ _ (fun q t h => ?_) _)
    | with_reducible apply Keeps.cmdRouteQuery_keeps
    | (simp -zeta only [Keeps.mark]; with_reducible refine KeepsLit.intro rfl ?_ ?_ ?_)
    | split

theorem Keeps.cmdOpticRecal_keeps {gs : List Group} (hg : [] ⊆ gs) {o0 s : State} (h0 : Keeps gs o0 s) (q : Req) : KeepsRes gs o0 (cmdOpticRecal q s) := by
  unfold cmdOpticRecal
  repeat' first
    | with_reducible assumption
    | with_reducible exact List.Subset.trans (by decide) hg
    | with_reducible exact Regular.keep rfl
    | (intro g hgn; cases g <;> first | exact (Keeps.out hg (by decide) hgn).elim | with_reducible rfl)
    | (extract_lets +onlyGivenNames s1; refine KeepsRes.have_ (gs := gs) (o := o0) (r := s1) ?_ (fun h => ?_); (on_goal 1 => subst s1); (on_goal 2 => try clear_value s1))
    | (extract_lets +onlyGivenNames s1; refine Keeps.have_ (gs := gs) (o := o0) (t := s1) ?_ (fun h => ?_); (on_goal 1 => subst s1); (on_goal 2 => try clear_value s1))
    | (extract_lets +onlyGivenNames n1; first | (have p : Sys := n1; clear p; subst n1) | (have p : Et := n1; clear p; subst n1) | (have p : Hm := n1; clear p; subst n1) | (have p : Opt := n1; clear p; subst n1) | (have p : Xg := n1; clear p; subst n1) | (have p : Sns := n1; clear p; subst n1) | (have p : Ev := n1; clear p; subst n1) | clear_value n1)
    | (with_reducible refine Keeps.foldl (fun t x h => ?_) ?_)
    | (with_reducible refine KeepsRes.done ?_)
    | (with_reducible refine KeepsRes.wait ?_)
    | (with_reducible refine KeepsRes.refuse ?_)
    | with_reducible apply Keeps.refuse_keeps
    | (simp -zeta only [Keeps.mark]; with_reducible refine KeepsLit.intro rfl ?_ ?_ ?_)
    | (with_reducible refine Keeps.ite ?_ ?_)
    | split

theorem Keeps.execOpticRecal_keeps {gs : List Group} (hg : [.mbx] ⊆ gs) {o0 s : State} (h0 : Keeps gs o0 s) (q : Req) : KeepsOut gs o0 (execOpticRecal q s) := by
  unfold execOpticRecal
  repeat' first
    | with_reducible assumption
    | with_reducible exact List.Subset.trans (by decide) hg
    | with_reducible exact Regular.keep rfl
    | (intro g hgn; cases g <;> first | exact (Keeps.out hg (by decide) hgn).elim | with_reducible rfl)
    | (extract_lets +onlyGivenNames s1; refine Keeps.have_ (gs := gs) (o := o0) (t := s1) ?_ (fun h => ?_); (on_goal 1 => subst s1); (on_goal 2 => try clear_value s1))
    | (extract_lets +onlyGivenNames n1; first | (have p : Sys := n1; clear p; subst n1) | (have p : Et := n1; clear p; subst n1) | (have p : Hm := n1; clear p; subst n1) | (have p : Opt := n1; clear p; subst n1) | (have p : Xg := n1; clear p; subst n1) | (have p : Sns := n1; clear p; subst n1) | (have p : Ev := n1; clear p; subst n1) | clear_value n1)
    | (with_reducible refine Keeps.foldl (fun t x h => ?_) ?_)
    | (with_reducible refine KeepsOut.next ?_)
    | (with_reducible refine Keeps.submit_keeps ?_ ?_ _ _ (fun q t h => ?_) _)
    | with_reducible apply Keeps.cmdOpticRecal_keeps
    | (simp -zeta only [Keeps.mark]; with_reducible refine KeepsLit.intro rfl ?_ ?_ ?_)
    | split

theorem Keeps.clearOpt_keeps {gs : List Group} (hg : [.opt] ⊆ gs) {o0 s : State} (h0 : Keeps gs o0 s) : Keeps gs o0 (State.clearOpt s) := by
  unfold State.clearOpt
  repeat' first
    | with_reducible assumption
    | with_reducible exact List.Subset.trans (by decide) hg
    | with_reducible exact Regular.keep rfl
    | (intro g hgn; cases g <;> first | exact (Keeps.out hg (by decide) hgn).elim | with_reducible rfl)
    | (extract_lets +onlyGivenNames s1; refine Keeps.have_ (gs := gs) (o := o0) (t := s1) ?_ (fun h => ?_); (on_goal 1 => subst s1); (on_goal 2 => try clear_value s1))
    | (extract_lets +onlyGivenNames n1; first | (have p : Sys := n1; clear p; subst n1) | (have p : Et := n1; clear p; subst n1) | (have p : Hm := n1; clear p; subst n1) | (have p : Opt := n1; clear p; subst n1) | (have p : Xg := n1; clear p; subst n1) | (have p : Sns := n1; clear p; subst n1) | (have p : Ev := n1; clear p; subst n1) | clear_value n1)
    | (with_reducible refine Keeps.foldl (fun t x h => ?_) ?_)
    | with_reducible apply Keeps.modSite_keeps
    | (simp -zeta only [Keeps.mark]; with_reducible refine KeepsLit.intro rfl ?_ ?_ ?_)
    | split

theorem Keeps.execClearOptCounters_keeps {gs : List Group} (hg : [.opt] ⊆ gs) {o0 s : State} (h0 : Keeps gs o0 s) : KeepsOut gs o0 (execClearOptCounters s) := by
  unfold execClearOptCounters
  repeat' first
    | with_reducible assumption
    | with_reducible exact List.Subset.trans (by decide) hg
    | with_reducible exact Regular.keep rfl
    | (intro g hgn; cases g <;> first | exact (Keeps.out hg (by decide) hgn).elim | with_reducible rfl)
    | (extract_lets +onlyGivenNames s1; refine Keeps.have_ (gs := gs) (o := o0) (t := s1) ?_ (fun h => ?_); (on_goal 1 => subst s1); (on_goal 2 => try clear_value s1))
    | (extract_lets +onlyGivenNames n1; first | (have p : Sys := n1; clear p; subst n1) | (have p : Et := n1; clear p; subst n1) | (have p : Hm := n1; clear p; subst n1) | (have p : Opt := n1; clear p; subst n1) | (have p : Xg := n1; clear p; subst n1) | (have p : Sns := n1; clear p; subst n1) | (have p : Ev := n1; clear p; subst n1) | clear_value n1)
    | (with_reducible refine Keeps.foldl (fun t x h => ?_) ?_)
    | (with_reducible refine KeepsOut.next ?_)
    | with_reducible apply Keeps.clearOpt_keeps
    | (simp -zeta only [Keeps.mark]; with_reducible refine KeepsLit.intro rfl ?_ ?_ ?_)
    | split

theorem Keeps.execMbErgLoRead_keeps {gs : List Group} (hg : [.mbx] ⊆ gs) {o0 s : State} (h0 : Keeps gs o0 s) : KeepsOut gs o0 (execMbErgLoRead s) := by
  unfold execMbErgLoRead
  repeat' first
    | with_reducible assumption
    | with_reducible exact List.Subset.trans (by decide) hg
    | with_reducible exact Regular.keep rfl
    | (intro g hgn; cases g <;> first | exact (Keeps.out hg (by decide) hgn).elim | with_reducible rfl)
    | (extract_lets +onlyGivenNames s1; refine Keeps.have_ (gs := gs) (o := o0) (t := s1) ?_ (fun h => ?_); (on_goal 1 => subst s1); (on_goal 2 => try clear_value s1))
    | (extract_lets +onlyGivenNames n1; first | (have p : Sys := n1; clear p; subst n1) | (have p : Et := n1; clear p; subst n1) | (have p : Hm := n1; clear p; subst n1) | (have p : Opt := n1; clear p; subst n1) | (have p : Xg := n1; clear p; subst n1) | (have p : Sns := n1; clear p; subst n1) | (have p : Ev := n1; clear p; subst n1) | clear_value n1)
    | (with_reducible refine Keeps.foldl (fun t x h => ?_) ?_)
    | (with_reducible refine KeepsOut.next ?_)
    | (simp -zeta only [Keeps.mark]; with_reducible refine KeepsLit.intro rfl ?_ ?_ ?_)
    | (with_reducible refine Keeps.ite ?_ ?_)
    | split

theorem Keeps.execMbErgHiRead_keeps {gs : List Group} (hg : [.mbx] ⊆ gs) {o0 s : State} (h0 : Keeps gs o0 s) : KeepsOut gs o0 (execMbErgHiRead s) := by
  unfold execMbErgHiRead
  repeat' first
    | with_reducible assumption
    | with_reducible exact List.Subset.trans (by decide) hg
    | with_reducible exact Regular.keep rfl
    | (intro g hgn; cases g <;> first | exact (Keeps.out hg (by decide) hgn).elim | with_reducible rfl)
    | (extract_lets +onlyGivenNames s1; refine Keeps.have_ (gs := gs) (o := o0) (t := s1) ?_ (fun h => ?_); (on_goal 1 => subst s1); (on_goal 2 => try clear_value s1))
    | (extract_lets +onlyGivenNames n1; first | (have p : Sys := n1; clear p; subst n1) | (have p : Et := n1; clear p; subst n1) | (have p : Hm := n1; clear p; subst n1) | (have p : Opt := n1; clear p; subst n1) | (have p : Xg := n1; clear p; subst n1) | (have p : Sns := n1; clear p; subst n1) | (have p : Ev := n1; clear p; subst n1) | clear_value n1)
    | (with_reducible refine Keeps.foldl (fun t x h => ?_) ?_)
    | (with_reducible refine KeepsOut.next ?_)
    | (simp -zeta only [Keeps.mark]; with_reducible refine KeepsLit.intro rfl ?_ ?_ ?_)
    | (with_reducible refine Keeps.ite ?_ ?_)
    | split

theorem Keeps.cmdErgRead_keeps {gs : List Group} (hg : [] ⊆ gs) {o0 s : State} (h0 : Keeps gs o0 s) (q0 : Req) : KeepsRes gs o0 (cmdErgRead q0 s) := by
  unfold cmdErgRead
  repeat' first
    | with_reducible assumption
    | with_reducible exact List.Subset.trans (by decide) hg
    | with_reducible exact Regular.keep rfl
    | (intro g hgn; cases g <;> first | exact (Keeps.out hg (by decide) hgn).elim | with_reducible rfl)
    | (extract_lets +onlyGivenNames s1; refine KeepsRes.have_ (gs := gs) (o := o0) (r := s1) ?_ (fun h => ?_); (on_goal 1 => subst s1); (on_goal 2 => try clear_value s1))
    | (extract_lets +onlyGivenNames s1; refine Keeps.have_ (gs := gs) (o := o0) (t := s1) ?_ (fun h => ?_); (on_goal 1 => subst s1); (on_goal 2 => try clear_value s1))
    | (extract_lets +onlyGivenNames n1; first | (have p : Sys := n1; clear p; subst n1) | (have p : Et := n1; clear p; subst n1) | (have p : Hm := n1; clear p; subst n1) | (have p : Opt := n1; clear p; subst n1) | (have p : Xg := n1; clear p; subst n1) | (have p : Sns := n1; clear p; subst n1) | (have p : Ev := n1; clear p; subst n1) | clear_value n1)
    | (with_reducible refine Keeps.foldl (fun t x h => ?_) ?_)
    | (with_reducible refine KeepsRes.done ?_)
    | (with_reducible refine KeepsRes.wait ?_)
    | (with_reducible refine KeepsRes.refuse ?_)
    | (simp -zeta only [Keeps.mark]; with_reducible refine KeepsLit.intro rfl ?_ ?_ ?_)
    | (with_reducible refine Keeps.ite ?_ ?_)
    | split

theorem Keeps.execErgRead_keeps {gs : List Group} (hg : [.mbx] ⊆ gs) {o0 s : State} (h0 : Keeps gs o0 s) (q : Req) : KeepsOut gs o0 (execErgRead q s) := by
  unfold execErgRead
  repeat' first
    | with_reducible assumption
    | with_reducible exact List.Subset.trans (by decide) hg
    | with_reducible exact Regular.keep rfl
    | (intro g hgn; cases g <;> first | exact (Keeps.out hg (by decide) hgn).elim | with_reducible rfl)
    | (extract_lets +onlyGivenNames s1; refine Keeps.have_ (gs := gs) (o := o0) (t := s1) ?_ (fun h => ?_); (on_goal 1 => subst s1); (on_goal 2 => try clear_value s1))
    | (extract_lets +onlyGivenNames n1; first | (have p : Sys := n1; clear p; subst n1) | (have p : Et := n1; clear p; subst n1) | (have p : Hm := n1; clear p; subst n1) | (have p : Opt := n1; clear p; subst n1) | (have p : Xg := n1; clear p; subst n1) | (have p : Sns := n1; clear p; subst n1) | (have p : Ev := n1; clear p; subst n1) | clear_value n1)
    | (with_reducible refine Keeps.foldl (fun t x h => ?_) ?_)
    | (with_reducible refine KeepsOut.next ?_)
    | (with_reducible refine Keeps.submit_keeps ?_ ?_ _ _ (fun q t h => ?_) _)
    | with_reducible apply Keeps.cmdErgRead_keeps
    | (simp -zeta only [Keeps.mark]; with_reducible refine KeepsLit.intro rfl ?_ ?_ ?_)
    | split

theorem Keeps.clearErg_keeps {gs : List Group} (hg : [.et] ⊆ gs) {o0 s : State} (h0 : Keeps gs o0 s) : Keeps gs o0 (State.clearErg s) := by
  unfold State.clearErg
  repeat' first
    | with_reducible assumption
    | with_reducible exact List.Subset.trans (by decide) hg
    | with_reducible exact Regular.keep rfl
    | (intro g hgn; cases g <;> first | exact (Keeps.out hg (by decide) hgn).elim | with_reducible rfl)
    | (extract_lets +onlyGivenNames s1; refine Keeps.have_ (gs := gs) (o := o0) (t := s1) ?_ (fun h => ?_); (on_goal 1 => subst s1); (on_goal 2 => try clear_value s1))
    | (extract_lets +onlyGivenNames n1; first | (have p : Sys := n1; clear p; subst n1) | (have p : Et := n1; clear p; subst n1) | (have p : Hm := n1; clear p; subst n1) | (have p : Opt := n1; clear p; subst n1) | (have p : Xg := n1; clear p; subst n1) | (have p : Sns := n1; clear p; subst n1) | (have p : Ev := n1; clear p; subst n1) | clear_value n1)
    | (with_reducible refine Keeps.foldl (fun t x h => ?_) ?_)
    | (simp -zeta only [Keeps.mark]; with_reducible refine KeepsLit.intro rfl ?_ ?_ ?_)
    | split

theorem Keeps.execClearErgCounters_keeps {gs : List Group} (hg : [.et] ⊆ gs) {o0 s : State} (h0 : Keeps gs o0 s) : KeepsOut gs o0 (execClearErgCounters s) := by
  unfold execClearErgCounters
  repeat' first
    | with_reducible assumption
    | with_reducible exact List.Subset.trans (by decide) hg
    | with_reducible exact Regular.keep rfl
    | (intro g hgn; cases g <;> first | exact (Keeps.out hg (by decide) hgn).elim | with_reducible rfl)
    | (extract_lets +onlyGivenNames s1; refine Keeps.have_ (gs := gs) (o := o0) (t := s1) ?_ (fun h => ?_); (on_goal 1 => subst s1); (on_goal 2 => try clear_value s1))
    | (extract_lets +onlyGivenNames n1; first | (have p : Sys := n1; clear p; subst n1) | (have p : Et := n1; clear p; subst n1) | (have p : Hm := n1; clear p; subst n1) | (have p : Opt := n1; clear p; subst n1) | (have p : Xg := n1; clear p; subst n1) | (have p : Sns := n1; clear p; subst n1) | (have p : Ev := n1; clear p; subst n1) | clear_value n1)
    | (with_reducible refine Keeps.foldl (fun t x h => ?_) ?_)
    | (with_reducible refine KeepsOut.next ?_)
    | with_reducible apply Keeps.clearErg_keeps
    | (simp -zeta only [Keeps.mark]; with_reducible refine KeepsLit.intro rfl ?_ ?_ ?_)
    | split

theorem Keeps.heartbeat_keeps {gs : List Group} (hg : [.reg] ⊆ gs) {o0 s : State} (h0 : Keeps gs o0 s) (r : RegionNo) : Keeps gs o0 (State.heartbeat s r) := by
  unfold State.heartbeat
  repeat' first
    | with_reducible assumption
    | with_reducible exact List.Subset.trans (by decide) hg
    | with_reducible exact Regular.keep rfl
    | (intro g hgn; cases g <;> first | exact (Keeps.out hg (by decide) hgn).elim | with_reducible rfl)
    | (extract_lets +onlyGivenNames s1; refine Keeps.have_ (gs := gs) (o := o0) (t := s1) ?_ (fun h => ?_); (on_goal 1 => subst s1); (on_goal 2 => try clear_value s1))
    | (extract_lets +onlyGivenNames n1; first | (have p : Sys := n1; clear p; subst n1) | (have p : Et := n1; clear p; subst n1) | (have p : Hm := n1; clear p; subst n1) | (have p : Opt := n1; clear p; subst n1) | (have p : Xg := n1; clear p; subst n1) | (have p : Sns := n1; clear p; subst n1) | (have p : Ev := n1; clear p; subst n1) | clear_value n1)
    | (with_reducible refine Keeps.foldl (fun t x h => ?_) ?_)
    | with_reducible apply Keeps.modRgn_keeps
    | (simp -zeta only [Keeps.mark]; with_reducible refine KeepsLit.intro rfl ?_ ?_ ?_)
    | (with_reducible refine Keeps.ite ?_ ?_)
    | split

theorem Keeps.execReplicaSlotCheck_keeps {gs : List Group} (hg : [.reg, .et, .ev] ⊆ gs) {o0 s : State} (h0 : Keeps gs o0 s) (r : RegionNo) (crcOk : Bool) (slipped : Int) : KeepsOut gs o0 (execReplicaSlotCheck r crcOk slipped s) := by
  unfold execReplicaSlotCheck
  repeat' first
    | with_reducible assumption
    | with_reducible exact List.Subset.trans (by decide) hg
    | with_reducible exact Regular.keep rfl
    | (intro g hgn; cases g <;> first | exact (Keeps.out hg (by decide) hgn).elim | with_reducible rfl)
    | (extract_lets +onlyGivenNames s1; refine Keeps.have_ (gs := gs) (o := o0) (t := s1) ?_ (fun h => ?_); (on_goal 1 => subst s1); (on_goal 2 => try clear_value s1))
    | (extract_lets +onlyGivenNames n1; first | (have p : Sys := n1; clear p; subst n1) | (have p : Et := n1; clear p; subst n1) | (have p : Hm := n1; clear p; subst n1) | (have p : Opt := n1; clear p; subst n1) | (have p : Xg := n1; clear p; subst n1) | (have p : Sns := n1; clear p; subst n1) | (have p : Ev := n1; clear p; subst n1) | clear_value n1)
    | (with_reducible refine Keeps.foldl (fun t x h => ?_) ?_)
    | (with_reducible refine KeepsOut.next ?_)
    | with_reducible apply Keeps.heartbeat_keeps
    | with_reducible apply Keeps.modRgn_keeps
    | with_reducible apply Keeps.raiseIf_keeps
    | (simp -zeta only [Keeps.mark]; with_reducible refine KeepsLit.intro rfl ?_ ?_ ?_)
    | (with_reducible refine Keeps.ite ?_ ?_)
    | split

theorem Keeps.convertNow_keeps {gs : List Group} (hg : [.et] ⊆ gs) {o0 s : State} (h0 : Keeps gs o0 s) (i : Nat) (toCycle : Bool) (x : Nat) : Keeps gs o0 (State.convertNow s i toCycle x).2 := by
  unfold State.convertNow
  repeat' first
    | with_reducible assumption
    | with_reducible exact List.Subset.trans (by decide) hg
    | with_reducible exact Regular.keep rfl
    | (intro g hgn; cases g <;> first | exact (Keeps.out hg (by decide) hgn).elim | with_reducible rfl)
    | (extract_lets +onlyGivenNames s1; refine Keeps.have_ (gs := gs) (o := o0) (t := s1) ?_ (fun h => ?_); (on_goal 1 => subst s1); (on_goal 2 => try clear_value s1))
    | (extract_lets +onlyGivenNames n1; first | (have p : Sys := n1; clear p; subst n1) | (have p : Et := n1; clear p; subst n1) | (have p : Hm := n1; clear p; subst n1) | (have p : Opt := n1; clear p; subst n1) | (have p : Xg := n1; clear p; subst n1) | (have p : Sns := n1; clear p; subst n1) | (have p : Ev := n1; clear p; subst n1) | clear_value n1)
    | (with_reducible refine Keeps.foldl (fun t x h => ?_) ?_)
    | (with_reducible refine Keeps.foldl2 (fun t x h => ?_) ?_)
    | (with_reducible refine Keeps.foldl1 (fun t x h => ?_) ?_)
    | (dsimp -zeta only)
    | with_reducible apply Keeps.modAnchor_keeps
    | (simp -zeta only [Keeps.mark]; with_reducible refine KeepsLit.intro rfl ?_ ?_ ?_)
    | (with_reducible refine Keeps.ite ?_ ?_)
    | split

theorem Keeps.touch_keeps {gs : List Group} (hg : [.et] ⊆ gs) {o0 s : State} (h0 : Keeps gs o0 s) (i : Nat) : Keeps gs o0 (State.touch s i) := by
  unfold State.touch
  repeat' first
    | with_reducible assumption
    | with_reducible exact List.Subset.trans (by decide) hg
    | with_reducible exact Regular.keep rfl
    | (intro g hgn; cases g <;> first | exact (Keeps.out hg (by decide) hgn).elim | with_reducible rfl)
    | (extract_lets +onlyGivenNames s1; refine Keeps.have_ (gs := gs) (o := o0) (t := s1) ?_ (fun h => ?_); (on_goal 1 => subst s1); (on_goal 2 => try clear_value s1))
    | (extract_lets +onlyGivenNames n1; first | (have p : Sys := n1; clear p; subst n1) | (have p : Et := n1; clear p; subst n1) | (have p : Hm := n1; clear p; subst n1) | (have p : Opt := n1; clear p; subst n1) | (have p : Xg := n1; clear p; subst n1) | (have p : Sns := n1; clear p; subst n1) | (have p : Ev := n1; clear p; subst n1) | clear_value n1)
    | (with_reducible refine Keeps.foldl (fun t x h => ?_) ?_)
    | with_reducible apply Keeps.modAnchor_keeps
    | (simp -zeta only [Keeps.mark]; with_reducible refine KeepsLit.intro rfl ?_ ?_ ?_)
    | split

theorem Keeps.cmdAnchorConvert_keeps {gs : List Group} (hg : [.et] ⊆ gs) {o0 s : State} (h0 : Keeps gs o0 s) (q : Req) : KeepsRes gs o0 (cmdAnchorConvert q s) := by
  unfold cmdAnchorConvert
  repeat' first
    | with_reducible assumption
    | with_reducible exact List.Subset.trans (by decide) hg
    | with_reducible exact Regular.keep rfl
    | (intro g hgn; cases g <;> first | exact (Keeps.out hg (by decide) hgn).elim | with_reducible rfl)
    | (extract_lets +onlyGivenNames s1; refine KeepsRes.have_ (gs := gs) (o := o0) (r := s1) ?_ (fun h => ?_); (on_goal 1 => subst s1); (on_goal 2 => try clear_value s1))
    | (extract_lets +onlyGivenNames s1; refine Keeps.have_ (gs := gs) (o := o0) (t := s1) ?_ (fun h => ?_); (on_goal 1 => subst s1); (on_goal 2 => try clear_value s1))
    | (extract_lets +onlyGivenNames n1; first | (have p : Sys := n1; clear p; subst n1) | (have p : Et := n1; clear p; subst n1) | (have p : Hm := n1; clear p; subst n1) | (have p : Opt := n1; clear p; subst n1) | (have p : Xg := n1; clear p; subst n1) | (have p : Sns := n1; clear p; subst n1) | (have p : Ev := n1; clear p; subst n1) | clear_value n1)
    | (with_reducible refine Keeps.foldl (fun t x h => ?_) ?_)
    | (with_reducible refine KeepsRes.done ?_)
    | (with_reducible refine KeepsRes.wait ?_)
    | (with_reducible refine KeepsRes.refuse ?_)
    | with_reducible apply Keeps.convertNow_keeps
    | with_reducible apply Keeps.modAnchor_keeps
    | with_reducible apply Keeps.touch_keeps
    | with_reducible apply Keeps.refuse_keeps
    | (simp -zeta only [Keeps.mark]; with_reducible refine KeepsLit.intro rfl ?_ ?_ ?_)
    | (with_reducible refine KeepsOpt.getD ?_ ?_)
    | (with_reducible refine Keeps.optEq (by assumption) ?_)
    | (with_reducible refine Keeps.pairEq1 (by assumption) ?_)
    | (with_reducible refine Keeps.pairEq2 (by assumption) ?_)
    | (with_reducible refine Keeps.ite ?_ ?_)
    | split

theorem Keeps.execAnchorConvert_keeps {gs : List Group} (hg : [.mbx, .et] ⊆ gs) {o0 s : State} (h0 : Keeps gs o0 s) (q : Req) : KeepsOut gs o0 (execAnchorConvert q s) := by
  unfold execAnchorConvert
  repeat' first
    | with_reducible assumption
    | with_reducible exact List.Subset.trans (by decide) hg
    | with_reducible exact Regular.keep rfl
    | (intro g hgn; cases g <;> first | exact (Keeps.out hg (by decide) hgn).elim | with_reducible rfl)
    | (extract_lets +onlyGivenNames s1; refine Keeps.have_ (gs := gs) (o := o0) (t := s1) ?_ (fun h => ?_); (on_goal 1 => subst s1); (on_goal 2 => try clear_value s1))
    | (extract_lets +onlyGivenNames n1; first | (have p : Sys := n1; clear p; subst n1) | (have p : Et := n1; clear p; subst n1) | (have p : Hm := n1; clear p; subst n1) | (have p : Opt := n1; clear p; subst n1) | (have p : Xg := n1; clear p; subst n1) | (have p : Sns := n1; clear p; subst n1) | (have p : Ev := n1; clear p; subst n1) | clear_value n1)
    | (with_reducible refine Keeps.foldl (fun t x h => ?_) ?_)
    | (with_reducible refine KeepsOut.next ?_)
    | (with_reducible refine Keeps.submit_keeps ?_ ?_ _ _ (fun q t h => ?_) _)
    | with_reducible apply Keeps.cmdAnchorConvert_keeps
    | (simp -zeta only [Keeps.mark]; with_reducible refine KeepsLit.intro rfl ?_ ?_ ?_)
    | split

theorem Keeps.removeWaiting_keeps {gs : List Group} (hg : [.mbx, .reg, .et] ⊆ gs) {o0 s : State} (h0 : Keeps gs o0 s) (i : Nat) : Keeps gs o0 (State.removeWaiting s i) := by
  unfold State.removeWaiting
  repeat' first
    | with_reducible assumption
    | with_reducible exact List.Subset.trans (by decide) hg
    | with_reducible exact Regular.keep rfl
    | (intro g hgn; cases g <;> first | exact (Keeps.out hg (by decide) hgn).elim | with_reducible rfl)
    | (extract_lets +onlyGivenNames s1; refine Keeps.have_ (gs := gs) (o := o0) (t := s1) ?_ (fun h => ?_); (on_goal 1 => subst s1); (on_goal 2 => try clear_value s1))
    | (extract_lets +onlyGivenNames n1; first | (have p : Sys := n1; clear p; subst n1) | (have p : Et := n1; clear p; subst n1) | (have p : Hm := n1; clear p; subst n1) | (have p : Opt := n1; clear p; subst n1) | (have p : Xg := n1; clear p; subst n1) | (have p : Sns := n1; clear p; subst n1) | (have p : Ev := n1; clear p; subst n1) | clear_value n1)
    | (with_reducible refine Keeps.foldl (fun t x h => ?_) ?_)
    | with_reducible apply Keeps.answerAll_keeps
    | with_reducible apply Keeps.complete_keeps
    | with_reducible apply Keeps.freeAnchor_keeps
    | (simp -zeta only [Keeps.mark]; with_reducible refine KeepsLit.intro rfl ?_ ?_ ?_)
    | (with_reducible refine Keeps.ite ?_ ?_)
    | split

theorem Keeps.execConversionSettled_keeps {gs : List Group} (hg : [.mbx, .reg, .et] ⊆ gs) {o0 s : State} (h0 : Keeps gs o0 s) (m : Fin 8) : KeepsOut gs o0 (execConversionSettled m s) := by
  unfold execConversionSettled
  repeat' first
    | with_reducible assumption
    | with_reducible exact List.Subset.trans (by decide) hg
    | with_reducible exact Regular.keep rfl
    | (intro g hgn; cases g <;> first | exact (Keeps.out hg (by decide) hgn).elim | with_reducible rfl)
    | (extract_lets +onlyGivenNames f1; (first | (refine Keeps.fun1 f1 ?_) | (refine Keeps.fun2 f1 ?_) | (refine Keeps.fun3 f1 ?_) | (refine KeepsRes.fun1 f1 ?_)); subst f1; beta_reduce)
    | (extract_lets +onlyGivenNames s1; refine Keeps.have_ (gs := gs) (o := o0) (t := s1) ?_ (fun h => ?_); (on_goal 1 => subst s1); (on_goal 2 => try clear_value s1))
    | (extract_lets +onlyGivenNames n1; first | (have p : Sys := n1; clear p; subst n1) | (have p : Et := n1; clear p; subst n1) | (have p : Hm := n1; clear p; subst n1) | (have p : Opt := n1; clear p; subst n1) | (have p : Xg := n1; clear p; subst n1) | (have p : Sns := n1; clear p; subst n1) | (have p : Ev := n1; clear p; subst n1) | clear_value n1)
    | (with_reducible refine Keeps.foldl (fun t x h => ?_) ?_)
    | (with_reducible refine KeepsOut.next ?_)
    | with_reducible apply Keeps.complete_keeps
    | with_reducible apply Keeps.convertNow_keeps
    | with_reducible apply Keeps.modAnchor_keeps
    | with_reducible apply Keeps.removeWaiting_keeps
    | (simp -zeta only [Keeps.mark]; with_reducible refine KeepsLit.intro rfl ?_ ?_ ?_)
    | (with_reducible refine KeepsOpt.getD ?_ ?_)
    | (with_reducible refine Keeps.optEq (by assumption) ?_)
    | (with_reducible refine Keeps.pairEq1 (by assumption) ?_)
    | (with_reducible refine Keeps.pairEq2 (by assumption) ?_)
    | (with_reducible refine Keeps.ite ?_ ?_)
    | split

theorem Keeps.foldTo_keeps {gs : List Group} (hg : [.et] ⊆ gs) {o0 s : State} (h0 : Keeps gs o0 s) (i : Nat) (x : Nat) : Keeps gs o0 (State.foldTo s i x) := by
  unfold State.foldTo
  repeat' first
    | with_reducible assumption
    | with_reducible exact List.Subset.trans (by decide) hg
    | with_reducible exact Regular.keep rfl
    | (intro g hgn; cases g <;> first | exact (Keeps.out hg (by decide) hgn).elim | with_reducible rfl)
    | (extract_lets +onlyGivenNames s1; refine Keeps.have_ (gs := gs) (o := o0) (t := s1) ?_ (fun h => ?_); (on_goal 1 => subst s1); (on_goal 2 => try clear_value s1))
    | (extract_lets +onlyGivenNames n1; first | (have p : Sys := n1; clear p; subst n1) | (have p : Et := n1; clear p; subst n1) | (have p : Hm := n1; clear p; subst n1) | (have p : Opt := n1; clear p; subst n1) | (have p : Xg := n1; clear p; subst n1) | (have p : Sns := n1; clear p; subst n1) | (have p : Ev := n1; clear p; subst n1) | clear_value n1)
    | (with_reducible refine Keeps.foldl (fun t x h => ?_) ?_)
    | with_reducible apply Keeps.modAnchor_keeps
    | (simp -zeta only [Keeps.mark]; with_reducible refine KeepsLit.intro rfl ?_ ?_ ?_)
    | (with_reducible refine Keeps.ite ?_ ?_)
    | split

theorem Keeps.execAnchorFold_keeps {gs : List Group} (hg : [.et] ⊆ gs) {o0 s : State} (h0 : Keeps gs o0 s) : KeepsOut gs o0 (execAnchorFold s) := by
  unfold execAnchorFold
  repeat' first
    | with_reducible assumption
    | with_reducible exact List.Subset.trans (by decide) hg
    | with_reducible exact Regular.keep rfl
    | (intro g hgn; cases g <;> first | exact (Keeps.out hg (by decide) hgn).elim | with_reducible rfl)
    | (extract_lets +onlyGivenNames s1; refine Keeps.have_ (gs := gs) (o := o0) (t := s1) ?_ (fun h => ?_); (on_goal 1 => subst s1); (on_goal 2 => try clear_value s1))
    | (extract_lets +onlyGivenNames n1; first | (have p : Sys := n1; clear p; subst n1) | (have p : Et := n1; clear p; subst n1) | (have p : Hm := n1; clear p; subst n1) | (have p : Opt := n1; clear p; subst n1) | (have p : Xg := n1; clear p; subst n1) | (have p : Sns := n1; clear p; subst n1) | (have p : Ev := n1; clear p; subst n1) | clear_value n1)
    | (with_reducible refine Keeps.foldl (fun t x h => ?_) ?_)
    | (with_reducible refine KeepsOut.next ?_)
    | with_reducible apply Keeps.foldTo_keeps
    | (simp -zeta only [Keeps.mark]; with_reducible refine KeepsLit.intro rfl ?_ ?_ ?_)
    | (with_reducible refine Keeps.ite ?_ ?_)
    | split

theorem Keeps.execLedgerPressure_keeps {gs : List Group} (hg : [.et, .ev] ⊆ gs) {o0 s : State} (h0 : Keeps gs o0 s) : KeepsOut gs o0 (execLedgerPressure s) := by
  unfold execLedgerPressure
  repeat' first
    | with_reducible assumption
    | with_reducible exact List.Subset.trans (by decide) hg
    | with_reducible exact Regular.keep rfl
    | (intro g hgn; cases g <;> first | exact (Keeps.out hg (by decide) hgn).elim | with_reducible rfl)
    | (extract_lets +onlyGivenNames s1; refine Keeps.have_ (gs := gs) (o := o0) (t := s1) ?_ (fun h => ?_); (on_goal 1 => subst s1); (on_goal 2 => try clear_value s1))
    | (extract_lets +onlyGivenNames n1; first | (have p : Sys := n1; clear p; subst n1) | (have p : Et := n1; clear p; subst n1) | (have p : Hm := n1; clear p; subst n1) | (have p : Opt := n1; clear p; subst n1) | (have p : Xg := n1; clear p; subst n1) | (have p : Sns := n1; clear p; subst n1) | (have p : Ev := n1; clear p; subst n1) | clear_value n1)
    | (with_reducible refine Keeps.foldl (fun t x h => ?_) ?_)
    | (with_reducible refine KeepsOut.next ?_)
    | with_reducible apply Keeps.foldTo_keeps
    | with_reducible apply Keeps.raise_keeps
    | (simp -zeta only [Keeps.mark]; with_reducible refine KeepsLit.intro rfl ?_ ?_ ?_)
    | (with_reducible refine Keeps.ite ?_ ?_)
    | split

theorem Keeps.execLedgerLoss_keeps {gs : List Group} (hg : [.reg] ⊆ gs) {o0 s : State} (h0 : Keeps gs o0 s) (r : RegionNo) : KeepsOut gs o0 (execLedgerLoss r s) := by
  unfold execLedgerLoss
  repeat' first
    | with_reducible assumption
    | with_reducible exact List.Subset.trans (by decide) hg
    | with_reducible exact Regular.keep rfl
    | (intro g hgn; cases g <;> first | exact (Keeps.out hg (by decide) hgn).elim | with_reducible rfl)
    | (extract_lets +onlyGivenNames s1; refine Keeps.have_ (gs := gs) (o := o0) (t := s1) ?_ (fun h => ?_); (on_goal 1 => subst s1); (on_goal 2 => try clear_value s1))
    | (extract_lets +onlyGivenNames n1; first | (have p : Sys := n1; clear p; subst n1) | (have p : Et := n1; clear p; subst n1) | (have p : Hm := n1; clear p; subst n1) | (have p : Opt := n1; clear p; subst n1) | (have p : Xg := n1; clear p; subst n1) | (have p : Sns := n1; clear p; subst n1) | (have p : Ev := n1; clear p; subst n1) | clear_value n1)
    | (with_reducible refine Keeps.foldl (fun t x h => ?_) ?_)
    | (with_reducible refine KeepsOut.next ?_)
    | with_reducible apply Keeps.sendMsg_keeps
    | (simp -zeta only [Keeps.mark]; with_reducible refine KeepsLit.intro rfl ?_ ?_ ?_)
    | split

theorem Keeps.takeAnchor_keeps {gs : List Group} (hg : [.reg, .et] ⊆ gs) {o0 s : State} (h0 : Keeps gs o0 s) (q : Req) (i : Nat) : KeepsRes gs o0 (State.takeAnchor s q i) := by
  unfold State.takeAnchor
  repeat' first
    | with_reducible assumption
    | with_reducible exact List.Subset.trans (by decide) hg
    | with_reducible exact Regular.keep rfl
    | (intro g hgn; cases g <;> first | exact (Keeps.out hg (by decide) hgn).elim | with_reducible rfl)
    | (extract_lets +onlyGivenNames s1; refine KeepsRes.have_ (gs := gs) (o := o0) (r := s1) ?_ (fun h => ?_); (on_goal 1 => subst s1); (on_goal 2 => try clear_value s1))
    | (extract_lets +onlyGivenNames s1; refine Keeps.have_ (gs := gs) (o := o0) (t := s1) ?_ (fun h => ?_); (on_goal 1 => subst s1); (on_goal 2 => try clear_value s1))
    | (extract_lets +onlyGivenNames n1; first | (have p : Sys := n1; clear p; subst n1) | (have p : Et := n1; clear p; subst n1) | (have p : Hm := n1; clear p; subst n1) | (have p : Opt := n1; clear p; subst n1) | (have p : Xg := n1; clear p; subst n1) | (have p : Sns := n1; clear p; subst n1) | (have p : Ev := n1; clear p; subst n1) | clear_value n1)
    | (with_reducible refine Keeps.foldl (fun t x h => ?_) ?_)
    | (with_reducible refine KeepsRes.done ?_)
    | (with_reducible refine KeepsRes.wait ?_)
    | (with_reducible refine KeepsRes.refuse ?_)
    | with_reducible apply Keeps.modAnchor_keeps
    | with_reducible apply Keeps.sendMsg_keeps
    | (simp -zeta only [Keeps.mark]; with_reducible refine KeepsLit.intro rfl ?_ ?_ ?_)
    | (with_reducible refine Keeps.ite ?_ ?_)
    | split

theorem Keeps.countFull_keeps {gs : List Group} (hg : [.et] ⊆ gs) {o0 s : State} (h0 : Keeps gs o0 s) : Keeps gs o0 (State.countFull s) := by
  unfold State.countFull
  repeat' first
    | with_reducible assumption
    | with_reducible exact List.Subset.trans (by decide) hg
    | with_reducible exact Regular.keep rfl
    | (intro g hgn; cases g <;> first | exact (Keeps.out hg (by decide) hgn).elim | with_reducible rfl)
    | (extract_lets +onlyGivenNames s1; refine Keeps.have_ (gs := gs) (o := o0) (t := s1) ?_ (fun h => ?_); (on_goal 1 => subst s1); (on_goal 2 => try clear_value s1))
    | (extract_lets +onlyGivenNames n1; first | (have p : Sys := n1; clear p; subst n1) | (have p : Et := n1; clear p; subst n1) | (have p : Hm := n1; clear p; subst n1) | (have p : Opt := n1; clear p; subst n1) | (have p : Xg := n1; clear p; subst n1) | (have p : Sns := n1; clear p; subst n1) | (have p : Ev := n1; clear p; subst n1) | clear_value n1)
    | (with_reducible refine Keeps.foldl (fun t x h => ?_) ?_)
    | (simp -zeta only [Keeps.mark]; with_reducible refine KeepsLit.intro rfl ?_ ?_ ?_)
    | split

theorem Keeps.seatAnchor_keeps {gs : List Group} (hg : [.reg, .et, .ev] ⊆ gs) {o0 s t : State} {i j : Nat} (e : State.seatAnchor s i = some (j, t))
    (h0 : Keeps gs o0 s) : Keeps gs o0 t := by
  have sub : ∀ {ts : List Group}, ts ⊆ [.reg, .et, .ev] → ts ⊆ gs := fun h => List.Subset.trans h hg
  have move : ∀ (u : State) (k : Nat) (f g : Anchor → Anchor), Keeps gs o0 u → Keeps gs o0 ((u.modAnchor k f).modAnchor i g) :=
    fun u k f g h => Keeps.modAnchor_keeps (sub (by decide)) (Keeps.modAnchor_keeps (sub (by decide)) h _ _) _ _
  unfold State.seatAnchor at e
  split at e
  · cases e; exact h0
  · dsimp only at e
    split at e
    · cases e; exact move _ _ _ _ h0
    · cases e
      refine move _ _ _ _ ((Keeps.freeAnchor_keeps (gs := gs) (sub (by decide)) (Keeps.raise_keeps (gs := gs) (sub (by decide)) h0 _ _) _).trans ⟨⟨?_⟩, Regular.keep rfl⟩)
      intro g hgn
      cases g <;> first | exact (Keeps.out hg (by decide) hgn).elim | rfl
    · cases e

theorem Keeps.captured_keeps {gs : List Group} (hg : [.mbx, .reg, .et, .ev] ⊆ gs) {o0 s : State} (h0 : Keeps gs o0 s) (g : Region) (i : Nat) :
    Keeps gs o0 (State.captured s g i) := by
  have sub : ∀ {ts : List Group}, ts ⊆ [.mbx, .reg, .et, .ev] → ts ⊆ gs := fun h => List.Subset.trans h hg
  unfold State.captured
  split
  · exact Keeps.modAnchor_keeps (sub (by decide)) (Keeps.raise_keeps (sub (by decide)) h0 _ _) _ _
  · split
    · exact Keeps.modAnchor_keeps (sub (by decide)) h0 _ _
    · split
      · exact Keeps.complete_keeps (sub (by decide)) (Keeps.countFull_keeps (sub (by decide)) (Keeps.modAnchor_keeps (sub (by decide)) h0 _ _)) _ _
      · rename_i e
        exact Keeps.complete_keeps (sub (by decide)) (Keeps.modAnchor_keeps (sub (by decide)) (Keeps.seatAnchor_keeps (sub (by decide)) e h0) _ _) _ _

theorem Keeps.execAnchorCapture_keeps {gs : List Group} (hg : [.mbx, .reg, .et, .xg, .ev] ⊆ gs) {o0 s : State} (h0 : Keeps gs o0 s) (r : RegionNo) : KeepsOut gs o0 (execAnchorCapture r s) := by
  unfold execAnchorCapture
  repeat' first
    | with_reducible assumption
    | with_reducible exact List.Subset.trans (by decide) hg
    | with_reducible exact Regular.keep rfl
    | (intro g hgn; cases g <;> first | exact (Keeps.out hg (by decide) hgn).elim | with_reducible rfl)
    | (extract_lets +onlyGivenNames s1; refine Keeps.have_ (gs := gs) (o := o0) (t := s1) ?_ (fun h => ?_); (on_goal 1 => subst s1); (on_goal 2 => try clear_value s1))
    | (extract_lets +onlyGivenNames n1; first | (have p : Sys := n1; clear p; subst n1) | (have p : Et := n1; clear p; subst n1) | (have p : Hm := n1; clear p; subst n1) | (have p : Opt := n1; clear p; subst n1) | (have p : Xg := n1; clear p; subst n1) | (have p : Sns := n1; clear p; subst n1) | (have p : Ev := n1; clear p; subst n1) | clear_value n1)
    | (with_reducible refine Keeps.foldl (fun t x h => ?_) ?_)
    | (with_reducible refine KeepsOut.next ?_)
    | with_reducible apply Keeps.captured_keeps
    | with_reducible apply Keeps.markBase_keeps
    | with_reducible apply Keeps.modRgn_keeps
    | (simp -zeta only [Keeps.mark]; with_reducible refine KeepsLit.intro rfl ?_ ?_ ?_)
    | (with_reducible refine Keeps.ite ?_ ?_)
    | split

theorem Keeps.cmdAnchorAdd_keeps {gs : List Group} (hg : [.reg, .et] ⊆ gs) {o0 s : State} (h0 : Keeps gs o0 s) (q : Req) : KeepsRes gs o0 (cmdAnchorAdd q s) := by
  unfold cmdAnchorAdd
  repeat' first
    | with_reducible assumption
    | with_reducible exact List.Subset.trans (by decide) hg
    | with_reducible exact Regular.keep rfl
    | (intro g hgn; cases g <;> first | exact (Keeps.out hg (by decide) hgn).elim | with_reducible rfl)
    | (extract_lets +onlyGivenNames s1; refine KeepsRes.have_ (gs := gs) (o := o0) (r := s1) ?_ (fun h => ?_); (on_goal 1 => subst s1); (on_goal 2 => try clear_value s1))
    | (extract_lets +onlyGivenNames s1; refine Keeps.have_ (gs := gs) (o := o0) (t := s1) ?_ (fun h => ?_); (on_goal 1 => subst s1); (on_goal 2 => try clear_value s1))
    | (extract_lets +onlyGivenNames n1; first | (have p : Sys := n1; clear p; subst n1) | (have p : Et := n1; clear p; subst n1) | (have p : Hm := n1; clear p; subst n1) | (have p : Opt := n1; clear p; subst n1) | (have p : Xg := n1; clear p; subst n1) | (have p : Sns := n1; clear p; subst n1) | (have p : Ev := n1; clear p; subst n1) | clear_value n1)
    | (with_reducible refine Keeps.foldl (fun t x h => ?_) ?_)
    | (with_reducible refine KeepsRes.done ?_)
    | (with_reducible refine KeepsRes.wait ?_)
    | (with_reducible refine KeepsRes.refuse ?_)
    | with_reducible apply Keeps.countFull_keeps
    | with_reducible apply Keeps.takeAnchor_keeps
    | with_reducible apply Keeps.refuse_keeps
    | (simp -zeta only [Keeps.mark]; with_reducible refine KeepsLit.intro rfl ?_ ?_ ?_)
    | (with_reducible refine Keeps.ite ?_ ?_)
    | split

theorem Keeps.execAnchorAdd_keeps {gs : List Group} (hg : [.mbx, .reg, .et] ⊆ gs) {o0 s : State} (h0 : Keeps gs o0 s) (q : Req) : KeepsOut gs o0 (execAnchorAdd q s) := by
  unfold execAnchorAdd
  repeat' first
    | with_reducible assumption
    | with_reducible exact List.Subset.trans (by decide) hg
    | with_reducible exact Regular.keep rfl
    | (intro g hgn; cases g <;> first | exact (Keeps.out hg (by decide) hgn).elim | with_reducible rfl)
    | (extract_lets +onlyGivenNames s1; refine Keeps.have_ (gs := gs) (o := o0) (t := s1) ?_ (fun h => ?_); (on_goal 1 => subst s1); (on_goal 2 => try clear_value s1))
    | (extract_lets +onlyGivenNames n1; first | (have p : Sys := n1; clear p; subst n1) | (have p : Et := n1; clear p; subst n1) | (have p : Hm := n1; clear p; subst n1) | (have p : Opt := n1; clear p; subst n1) | (have p : Xg := n1; clear p; subst n1) | (have p : Sns := n1; clear p; subst n1) | (have p : Ev := n1; clear p; subst n1) | clear_value n1)
    | (with_reducible refine Keeps.foldl (fun t x h => ?_) ?_)
    | (with_reducible refine KeepsOut.next ?_)
    | (with_reducible refine Keeps.submit_keeps ?_ ?_ _ _ (fun q t h => ?_) _)
    | with_reducible apply Keeps.cmdAnchorAdd_keeps
    | (simp -zeta only [Keeps.mark]; with_reducible refine KeepsLit.intro rfl ?_ ?_ ?_)
    | split

theorem Keeps.cmdAnchorRemove_keeps {gs : List Group} (hg : [.mbx, .reg, .et] ⊆ gs) {o0 s : State} (h0 : Keeps gs o0 s) (q : Req) : KeepsRes gs o0 (cmdAnchorRemove q s) := by
  unfold cmdAnchorRemove
  repeat' first
    | with_reducible assumption
    | with_reducible exact List.Subset.trans (by decide) hg
    | with_reducible exact Regular.keep rfl
    | (intro g hgn; cases g <;> first | exact (Keeps.out hg (by decide) hgn).elim | with_reducible rfl)
    | (extract_lets +onlyGivenNames s1; refine KeepsRes.have_ (gs := gs) (o := o0) (r := s1) ?_ (fun h => ?_); (on_goal 1 => subst s1); (on_goal 2 => try clear_value s1))
    | (extract_lets +onlyGivenNames s1; refine Keeps.have_ (gs := gs) (o := o0) (t := s1) ?_ (fun h => ?_); (on_goal 1 => subst s1); (on_goal 2 => try clear_value s1))
    | (extract_lets +onlyGivenNames n1; first | (have p : Sys := n1; clear p; subst n1) | (have p : Et := n1; clear p; subst n1) | (have p : Hm := n1; clear p; subst n1) | (have p : Opt := n1; clear p; subst n1) | (have p : Xg := n1; clear p; subst n1) | (have p : Sns := n1; clear p; subst n1) | (have p : Ev := n1; clear p; subst n1) | clear_value n1)
    | (with_reducible refine Keeps.foldl (fun t x h => ?_) ?_)
    | (with_reducible refine KeepsRes.done ?_)
    | (with_reducible refine KeepsRes.wait ?_)
    | (with_reducible refine KeepsRes.refuse ?_)
    | with_reducible apply Keeps.complete_keeps
    | with_reducible apply Keeps.freeAnchor_keeps
    | with_reducible apply Keeps.refuse_keeps
    | (simp -zeta only [Keeps.mark]; with_reducible refine KeepsLit.intro rfl ?_ ?_ ?_)
    | (with_reducible refine Keeps.ite ?_ ?_)
    | split

theorem Keeps.execAnchorRemove_keeps {gs : List Group} (hg : [.mbx, .reg, .et] ⊆ gs) {o0 s : State} (h0 : Keeps gs o0 s) (q : Req) : KeepsOut gs o0 (execAnchorRemove q s) := by
  unfold execAnchorRemove
  repeat' first
    | with_reducible assumption
    | with_reducible exact List.Subset.trans (by decide) hg
    | with_reducible exact Regular.keep rfl
    | (intro g hgn; cases g <;> first | exact (Keeps.out hg (by decide) hgn).elim | with_reducible rfl)
    | (extract_lets +onlyGivenNames s1; refine Keeps.have_ (gs := gs) (o := o0) (t := s1) ?_ (fun h => ?_); (on_goal 1 => subst s1); (on_goal 2 => try clear_value s1))
    | (extract_lets +onlyGivenNames n1; first | (have p : Sys := n1; clear p; subst n1) | (have p : Et := n1; clear p; subst n1) | (have p : Hm := n1; clear p; subst n1) | (have p : Opt := n1; clear p; subst n1) | (have p : Xg := n1; clear p; subst n1) | (have p : Sns := n1; clear p; subst n1) | (have p : Ev := n1; clear p; subst n1) | clear_value n1)
    | (with_reducible refine Keeps.foldl (fun t x h => ?_) ?_)
    | (with_reducible refine KeepsOut.next ?_)
    | (with_reducible refine Keeps.submit_keeps ?_ ?_ _ _ (fun q t h => ?_) _)
    | with_reducible apply Keeps.cmdAnchorRemove_keeps
    | (simp -zeta only [Keeps.mark]; with_reducible refine KeepsLit.intro rfl ?_ ?_ ?_)
    | split

theorem Keeps.cmdAnchorQuery_keeps {gs : List Group} (hg : [.et] ⊆ gs) {o0 s : State} (h0 : Keeps gs o0 s) (q : Req) : KeepsRes gs o0 (cmdAnchorQuery q s) := by
  unfold cmdAnchorQuery
  repeat' first
    | with_reducible assumption
    | with_reducible exact List.Subset.trans (by decide) hg
    | with_reducible exact Regular.keep rfl
    | (intro g hgn; cases g <;> first | exact (Keeps.out hg (by decide) hgn).elim | with_reducible rfl)
    | (extract_lets +onlyGivenNames s1; refine KeepsRes.have_ (gs := gs) (o := o0) (r := s1) ?_ (fun h => ?_); (on_goal 1 => subst s1); (on_goal 2 => try clear_value s1))
    | (extract_lets +onlyGivenNames s1; refine Keeps.have_ (gs := gs) (o := o0) (t := s1) ?_ (fun h => ?_); (on_goal 1 => subst s1); (on_goal 2 => try clear_value s1))
    | (extract_lets +onlyGivenNames n1; first | (have p : Sys := n1; clear p; subst n1) | (have p : Et := n1; clear p; subst n1) | (have p : Hm := n1; clear p; subst n1) | (have p : Opt := n1; clear p; subst n1) | (have p : Xg := n1; clear p; subst n1) | (have p : Sns := n1; clear p; subst n1) | (have p : Ev := n1; clear p; subst n1) | clear_value n1)
    | (with_reducible refine Keeps.foldl (fun t x h => ?_) ?_)
    | (with_reducible refine KeepsRes.done ?_)
    | (with_reducible refine KeepsRes.wait ?_)
    | (with_reducible refine KeepsRes.refuse ?_)
    | with_reducible apply Keeps.touch_keeps
    | with_reducible apply Keeps.refuse_keeps
    | (simp -zeta only [Keeps.mark]; with_reducible refine KeepsLit.intro rfl ?_ ?_ ?_)
    | split

theorem Keeps.execAnchorQuery_keeps {gs : List Group} (hg : [.mbx, .et] ⊆ gs) {o0 s : State} (h0 : Keeps gs o0 s) (q : Req) : KeepsOut gs o0 (execAnchorQuery q s) := by
  unfold execAnchorQuery
  repeat' first
    | with_reducible assumption
    | with_reducible exact List.Subset.trans (by decide) hg
    | with_reducible exact Regular.keep rfl
    | (intro g hgn; cases g <;> first | exact (Keeps.out hg (by decide) hgn).elim | with_reducible rfl)
    | (extract_lets +onlyGivenNames s1; refine Keeps.have_ (gs := gs) (o := o0) (t := s1) ?_ (fun h => ?_); (on_goal 1 => subst s1); (on_goal 2 => try clear_value s1))
    | (extract_lets +onlyGivenNames n1; first | (have p : Sys := n1; clear p; subst n1) | (have p : Et := n1; clear p; subst n1) | (have p : Hm := n1; clear p; subst n1) | (have p : Opt := n1; clear p; subst n1) | (have p : Xg := n1; clear p; subst n1) | (have p : Sns := n1; clear p; subst n1) | (have p : Ev := n1; clear p; subst n1) | clear_value n1)
    | (with_reducible refine Keeps.foldl (fun t x h => ?_) ?_)
    | (with_reducible refine KeepsOut.next ?_)
    | (with_reducible refine Keeps.submit_keeps ?_ ?_ _ _ (fun q t h => ?_) _)
    | with_reducible apply Keeps.cmdAnchorQuery_keeps
    | (simp -zeta only [Keeps.mark]; with_reducible refine KeepsLit.intro rfl ?_ ?_ ?_)
    | split

theorem Keeps.cmdLedgerRead_keeps {gs : List Group} (hg : [] ⊆ gs) {o0 s : State} (h0 : Keeps gs o0 s) (q : Req) : KeepsRes gs o0 (cmdLedgerRead q s) := by
  unfold cmdLedgerRead
  repeat' first
    | with_reducible assumption
    | with_reducible exact List.Subset.trans (by decide) hg
    | with_reducible exact Regular.keep rfl
    | (intro g hgn; cases g <;> first | exact (Keeps.out hg (by decide) hgn).elim | with_reducible rfl)
    | (extract_lets +onlyGivenNames s1; refine KeepsRes.have_ (gs := gs) (o := o0) (r := s1) ?_ (fun h => ?_); (on_goal 1 => subst s1); (on_goal 2 => try clear_value s1))
    | (extract_lets +onlyGivenNames s1; refine Keeps.have_ (gs := gs) (o := o0) (t := s1) ?_ (fun h => ?_); (on_goal 1 => subst s1); (on_goal 2 => try clear_value s1))
    | (extract_lets +onlyGivenNames n1; first | (have p : Sys := n1; clear p; subst n1) | (have p : Et := n1; clear p; subst n1) | (have p : Hm := n1; clear p; subst n1) | (have p : Opt := n1; clear p; subst n1) | (have p : Xg := n1; clear p; subst n1) | (have p : Sns := n1; clear p; subst n1) | (have p : Ev := n1; clear p; subst n1) | clear_value n1)
    | (with_reducible refine Keeps.foldl (fun t x h => ?_) ?_)
    | (with_reducible refine KeepsRes.done ?_)
    | (with_reducible refine KeepsRes.wait ?_)
    | (with_reducible refine KeepsRes.refuse ?_)
    | with_reducible apply Keeps.refuse_keeps
    | (simp -zeta only [Keeps.mark]; with_reducible refine KeepsLit.intro rfl ?_ ?_ ?_)
    | (with_reducible refine Keeps.ite ?_ ?_)
    | split

theorem Keeps.execLedgerRead_keeps {gs : List Group} (hg : [.mbx] ⊆ gs) {o0 s : State} (h0 : Keeps gs o0 s) (q : Req) : KeepsOut gs o0 (execLedgerRead q s) := by
  unfold execLedgerRead
  repeat' first
    | with_reducible assumption
    | with_reducible exact List.Subset.trans (by decide) hg
    | with_reducible exact Regular.keep rfl
    | (intro g hgn; cases g <;> first | exact (Keeps.out hg (by decide) hgn).elim | with_reducible rfl)
    | (extract_lets +onlyGivenNames s1; refine Keeps.have_ (gs := gs) (o := o0) (t := s1) ?_ (fun h => ?_); (on_goal 1 => subst s1); (on_goal 2 => try clear_value s1))
    | (extract_lets +onlyGivenNames n1; first | (have p : Sys := n1; clear p; subst n1) | (have p : Et := n1; clear p; subst n1) | (have p : Hm := n1; clear p; subst n1) | (have p : Opt := n1; clear p; subst n1) | (have p : Xg := n1; clear p; subst n1) | (have p : Sns := n1; clear p; subst n1) | (have p : Ev := n1; clear p; subst n1) | clear_value n1)
    | (with_reducible refine Keeps.foldl (fun t x h => ?_) ?_)
    | (with_reducible refine KeepsOut.next ?_)
    | (with_reducible refine Keeps.submit_keeps ?_ ?_ _ _ (fun q t h => ?_) _)
    | with_reducible apply Keeps.cmdLedgerRead_keeps
    | (simp -zeta only [Keeps.mark]; with_reducible refine KeepsLit.intro rfl ?_ ?_ ?_)
    | split

theorem Keeps.clearHm_keeps {gs : List Group} (hg : [.hm] ⊆ gs) {o0 s : State} (h0 : Keeps gs o0 s) : Keeps gs o0 (State.clearHm s) := by
  unfold State.clearHm
  repeat' first
    | with_reducible assumption
    | with_reducible exact List.Subset.trans (by decide) hg
    | exact fun h => { h with forecasts := (by dsimp only; rw [State.evalNow_queue]; exact h.forecasts) }
    | with_reducible exact Regular.keep rfl
    | (intro g hgn; cases g <;> first | exact (Keeps.out hg (by decide) hgn).elim | with_reducible rfl)
    | (extract_lets +onlyGivenNames s1; refine Keeps.have_ (gs := gs) (o := o0) (t := s1) ?_ (fun h => ?_); (on_goal 1 => subst s1); (on_goal 2 => try clear_value s1))
    | (extract_lets +onlyGivenNames n1; first | (have p : Sys := n1; clear p; subst n1) | (have p : Et := n1; clear p; subst n1) | (have p : Hm := n1; clear p; subst n1) | (have p : Opt := n1; clear p; subst n1) | (have p : Xg := n1; clear p; subst n1) | (have p : Sns := n1; clear p; subst n1) | (have p : Ev := n1; clear p; subst n1) | clear_value n1)
    | (with_reducible refine Keeps.foldl (fun t x h => ?_) ?_)
    | with_reducible apply Keeps.evalNow_keeps
    | (simp -zeta only [Keeps.mark]; with_reducible refine KeepsLit.intro rfl ?_ ?_ ?_)
    | split

theorem Keeps.execClearHmCounters_keeps {gs : List Group} (hg : [.hm] ⊆ gs) {o0 s : State} (h0 : Keeps gs o0 s) : KeepsOut gs o0 (execClearHmCounters s) := by
  unfold execClearHmCounters
  repeat' first
    | with_reducible assumption
    | with_reducible exact List.Subset.trans (by decide) hg
    | with_reducible exact Regular.keep rfl
    | (intro g hgn; cases g <;> first | exact (Keeps.out hg (by decide) hgn).elim | with_reducible rfl)
    | (extract_lets +onlyGivenNames s1; refine Keeps.have_ (gs := gs) (o := o0) (t := s1) ?_ (fun h => ?_); (on_goal 1 => subst s1); (on_goal 2 => try clear_value s1))
    | (extract_lets +onlyGivenNames n1; first | (have p : Sys := n1; clear p; subst n1) | (have p : Et := n1; clear p; subst n1) | (have p : Hm := n1; clear p; subst n1) | (have p : Opt := n1; clear p; subst n1) | (have p : Xg := n1; clear p; subst n1) | (have p : Sns := n1; clear p; subst n1) | (have p : Ev := n1; clear p; subst n1) | clear_value n1)
    | (with_reducible refine Keeps.foldl (fun t x h => ?_) ?_)
    | (with_reducible refine KeepsOut.next ?_)
    | with_reducible apply Keeps.clearHm_keeps
    | (simp -zeta only [Keeps.mark]; with_reducible refine KeepsLit.intro rfl ?_ ?_ ?_)
    | split

theorem Keeps.clearXing_keeps {gs : List Group} (hg : [.xg] ⊆ gs) {o0 s : State} (h0 : Keeps gs o0 s) : Keeps gs o0 (State.clearXing s) := by
  unfold State.clearXing
  repeat' first
    | with_reducible assumption
    | with_reducible exact List.Subset.trans (by decide) hg
    | exact fun h => { h with lanes := Map.rebuild_wf (fun e : Nat × Lane => { e.2 with slips := 0 }) _ }
    | with_reducible exact Regular.keep rfl
    | (intro g hgn; cases g <;> first | exact (Keeps.out hg (by decide) hgn).elim | with_reducible rfl)
    | (extract_lets +onlyGivenNames s1; refine Keeps.have_ (gs := gs) (o := o0) (t := s1) ?_ (fun h => ?_); (on_goal 1 => subst s1); (on_goal 2 => try clear_value s1))
    | (extract_lets +onlyGivenNames n1; first | (have p : Sys := n1; clear p; subst n1) | (have p : Et := n1; clear p; subst n1) | (have p : Hm := n1; clear p; subst n1) | (have p : Opt := n1; clear p; subst n1) | (have p : Xg := n1; clear p; subst n1) | (have p : Sns := n1; clear p; subst n1) | (have p : Ev := n1; clear p; subst n1) | clear_value n1)
    | (with_reducible refine Keeps.foldl (fun t x h => ?_) ?_)
    | (with_reducible refine Keeps.foldl2 (fun t x h => ?_) ?_)
    | (with_reducible refine Keeps.foldl1 (fun t x h => ?_) ?_)
    | (simp -zeta only [Keeps.mark]; with_reducible refine KeepsLit.intro rfl ?_ ?_ ?_)
    | split

theorem Keeps.execClearXingCounters_keeps {gs : List Group} (hg : [.xg] ⊆ gs) {o0 s : State} (h0 : Keeps gs o0 s) : KeepsOut gs o0 (execClearXingCounters s) := by
  unfold execClearXingCounters
  repeat' first
    | with_reducible assumption
    | with_reducible exact List.Subset.trans (by decide) hg
    | with_reducible exact Regular.keep rfl
    | (intro g hgn; cases g <;> first | exact (Keeps.out hg (by decide) hgn).elim | with_reducible rfl)
    | (extract_lets +onlyGivenNames s1; refine Keeps.have_ (gs := gs) (o := o0) (t := s1) ?_ (fun h => ?_); (on_goal 1 => subst s1); (on_goal 2 => try clear_value s1))
    | (extract_lets +onlyGivenNames n1; first | (have p : Sys := n1; clear p; subst n1) | (have p : Et := n1; clear p; subst n1) | (have p : Hm := n1; clear p; subst n1) | (have p : Opt := n1; clear p; subst n1) | (have p : Xg := n1; clear p; subst n1) | (have p : Sns := n1; clear p; subst n1) | (have p : Ev := n1; clear p; subst n1) | clear_value n1)
    | (with_reducible refine Keeps.foldl (fun t x h => ?_) ?_)
    | (with_reducible refine KeepsOut.next ?_)
    | with_reducible apply Keeps.clearXing_keeps
    | (simp -zeta only [Keeps.mark]; with_reducible refine KeepsLit.intro rfl ?_ ?_ ?_)
    | split

theorem Keeps.clearDrop_keeps {gs : List Group} (hg : [.xg] ⊆ gs) {o0 s : State} (h0 : Keeps gs o0 s) : Keeps gs o0 (State.clearDrop s) := by
  unfold State.clearDrop
  repeat' first
    | with_reducible assumption
    | with_reducible exact List.Subset.trans (by decide) hg
    | with_reducible exact Regular.keep rfl
    | (intro g hgn; cases g <;> first | exact (Keeps.out hg (by decide) hgn).elim | with_reducible rfl)
    | (extract_lets +onlyGivenNames s1; refine Keeps.have_ (gs := gs) (o := o0) (t := s1) ?_ (fun h => ?_); (on_goal 1 => subst s1); (on_goal 2 => try clear_value s1))
    | (extract_lets +onlyGivenNames n1; first | (have p : Sys := n1; clear p; subst n1) | (have p : Et := n1; clear p; subst n1) | (have p : Hm := n1; clear p; subst n1) | (have p : Opt := n1; clear p; subst n1) | (have p : Xg := n1; clear p; subst n1) | (have p : Sns := n1; clear p; subst n1) | (have p : Ev := n1; clear p; subst n1) | clear_value n1)
    | (with_reducible refine Keeps.foldl (fun t x h => ?_) ?_)
    | with_reducible apply Keeps.modLane_keeps
    | with_reducible apply Keeps.modXing_keeps
    | (simp -zeta only [Keeps.mark]; with_reducible refine KeepsLit.intro rfl ?_ ?_ ?_)
    | (with_reducible refine Keeps.ite ?_ ?_)
    | split

theorem Keeps.execClearXingDrop_keeps {gs : List Group} (hg : [.xg] ⊆ gs) {o0 s : State} (h0 : Keeps gs o0 s) : KeepsOut gs o0 (execClearXingDrop s) := by
  unfold execClearXingDrop
  repeat' first
    | with_reducible assumption
    | with_reducible exact List.Subset.trans (by decide) hg
    | with_reducible exact Regular.keep rfl
    | (intro g hgn; cases g <;> first | exact (Keeps.out hg (by decide) hgn).elim | with_reducible rfl)
    | (extract_lets +onlyGivenNames s1; refine Keeps.have_ (gs := gs) (o := o0) (t := s1) ?_ (fun h => ?_); (on_goal 1 => subst s1); (on_goal 2 => try clear_value s1))
    | (extract_lets +onlyGivenNames n1; first | (have p : Sys := n1; clear p; subst n1) | (have p : Et := n1; clear p; subst n1) | (have p : Hm := n1; clear p; subst n1) | (have p : Opt := n1; clear p; subst n1) | (have p : Xg := n1; clear p; subst n1) | (have p : Sns := n1; clear p; subst n1) | (have p : Ev := n1; clear p; subst n1) | clear_value n1)
    | (with_reducible refine Keeps.foldl (fun t x h => ?_) ?_)
    | (with_reducible refine KeepsOut.next ?_)
    | with_reducible apply Keeps.clearDrop_keeps
    | (simp -zeta only [Keeps.mark]; with_reducible refine KeepsLit.intro rfl ?_ ?_ ?_)
    | split

theorem Keeps.clearCal_keeps {gs : List Group} (hg : [.cal] ⊆ gs) {o0 s : State} (h0 : Keeps gs o0 s) : Keeps gs o0 (State.clearCal s) := by
  unfold State.clearCal
  repeat' first
    | with_reducible assumption
    | with_reducible exact List.Subset.trans (by decide) hg
    | with_reducible exact Regular.keep rfl
    | (intro g hgn; cases g <;> first | exact (Keeps.out hg (by decide) hgn).elim | with_reducible rfl)
    | (extract_lets +onlyGivenNames s1; refine Keeps.have_ (gs := gs) (o := o0) (t := s1) ?_ (fun h => ?_); (on_goal 1 => subst s1); (on_goal 2 => try clear_value s1))
    | (extract_lets +onlyGivenNames n1; first | (have p : Sys := n1; clear p; subst n1) | (have p : Et := n1; clear p; subst n1) | (have p : Hm := n1; clear p; subst n1) | (have p : Opt := n1; clear p; subst n1) | (have p : Xg := n1; clear p; subst n1) | (have p : Sns := n1; clear p; subst n1) | (have p : Ev := n1; clear p; subst n1) | clear_value n1)
    | (with_reducible refine Keeps.foldl (fun t x h => ?_) ?_)
    | (simp -zeta only [Keeps.mark]; with_reducible refine KeepsLit.intro rfl ?_ ?_ ?_)
    | split

theorem Keeps.askClearCal_keeps {gs : List Group} (hg : [.cal] ⊆ gs) {o0 s : State} (h0 : Keeps gs o0 s) : Keeps gs o0 (State.askClearCal s) := by
  unfold State.askClearCal
  repeat' first
    | with_reducible assumption
    | with_reducible exact List.Subset.trans (by decide) hg
    | with_reducible exact Regular.keep rfl
    | (intro g hgn; cases g <;> first | exact (Keeps.out hg (by decide) hgn).elim | with_reducible rfl)
    | (extract_lets +onlyGivenNames s1; refine Keeps.have_ (gs := gs) (o := o0) (t := s1) ?_ (fun h => ?_); (on_goal 1 => subst s1); (on_goal 2 => try clear_value s1))
    | (extract_lets +onlyGivenNames n1; first | (have p : Sys := n1; clear p; subst n1) | (have p : Et := n1; clear p; subst n1) | (have p : Hm := n1; clear p; subst n1) | (have p : Opt := n1; clear p; subst n1) | (have p : Xg := n1; clear p; subst n1) | (have p : Sns := n1; clear p; subst n1) | (have p : Ev := n1; clear p; subst n1) | clear_value n1)
    | (with_reducible refine Keeps.foldl (fun t x h => ?_) ?_)
    | with_reducible apply Keeps.clearCal_keeps
    | (simp -zeta only [Keeps.mark]; with_reducible refine KeepsLit.intro rfl ?_ ?_ ?_)
    | (with_reducible refine Keeps.ite ?_ ?_)
    | split

theorem Keeps.execClearCalCounters_keeps {gs : List Group} (hg : [.cal] ⊆ gs) {o0 s : State} (h0 : Keeps gs o0 s) : KeepsOut gs o0 (execClearCalCounters s) := by
  unfold execClearCalCounters
  repeat' first
    | with_reducible assumption
    | with_reducible exact List.Subset.trans (by decide) hg
    | with_reducible exact Regular.keep rfl
    | (intro g hgn; cases g <;> first | exact (Keeps.out hg (by decide) hgn).elim | with_reducible rfl)
    | (extract_lets +onlyGivenNames s1; refine Keeps.have_ (gs := gs) (o := o0) (t := s1) ?_ (fun h => ?_); (on_goal 1 => subst s1); (on_goal 2 => try clear_value s1))
    | (extract_lets +onlyGivenNames n1; first | (have p : Sys := n1; clear p; subst n1) | (have p : Et := n1; clear p; subst n1) | (have p : Hm := n1; clear p; subst n1) | (have p : Opt := n1; clear p; subst n1) | (have p : Xg := n1; clear p; subst n1) | (have p : Sns := n1; clear p; subst n1) | (have p : Ev := n1; clear p; subst n1) | clear_value n1)
    | (with_reducible refine Keeps.foldl (fun t x h => ?_) ?_)
    | (with_reducible refine KeepsOut.next ?_)
    | with_reducible apply Keeps.askClearCal_keeps
    | (simp -zeta only [Keeps.mark]; with_reducible refine KeepsLit.intro rfl ?_ ?_ ?_)
    | split

theorem Keeps.clearSns_keeps {gs : List Group} (hg : [.sns] ⊆ gs) {o0 s : State} (h0 : Keeps gs o0 s) : Keeps gs o0 (State.clearSns s) := by
  unfold State.clearSns
  repeat' first
    | with_reducible assumption
    | with_reducible exact List.Subset.trans (by decide) hg
    | with_reducible exact Regular.keep rfl
    | (intro g hgn; cases g <;> first | exact (Keeps.out hg (by decide) hgn).elim | with_reducible rfl)
    | (extract_lets +onlyGivenNames s1; refine Keeps.have_ (gs := gs) (o := o0) (t := s1) ?_ (fun h => ?_); (on_goal 1 => subst s1); (on_goal 2 => try clear_value s1))
    | (extract_lets +onlyGivenNames n1; first | (have p : Sys := n1; clear p; subst n1) | (have p : Et := n1; clear p; subst n1) | (have p : Hm := n1; clear p; subst n1) | (have p : Opt := n1; clear p; subst n1) | (have p : Xg := n1; clear p; subst n1) | (have p : Sns := n1; clear p; subst n1) | (have p : Ev := n1; clear p; subst n1) | clear_value n1)
    | (with_reducible refine Keeps.foldl (fun t x h => ?_) ?_)
    | (simp -zeta only [Keeps.mark]; with_reducible refine KeepsLit.intro rfl ?_ ?_ ?_)
    | split

theorem Keeps.askClearSns_keeps {gs : List Group} (hg : [.sns] ⊆ gs) {o0 s : State} (h0 : Keeps gs o0 s) :
    Keeps gs o0 (State.askClearSns s) := by
  have set : ∀ x : Sns, x.frames = s.sns.frames → Keeps gs o0 { s with sns := x } := by
    intro x e
    refine h0.trans ⟨⟨?_⟩, Regular.keep (by simp only [regularPart, e])⟩
    intro g hgn
    cases g <;> first | exact (Keeps.out hg (by decide) hgn).elim | rfl
  unfold State.askClearSns
  split
  · exact set _ rfl
  · exact Keeps.ite (set _ rfl) h0

theorem Keeps.execClearSnsCounters_keeps {gs : List Group} (hg : [.sns] ⊆ gs) {o0 s : State} (h0 : Keeps gs o0 s) : KeepsOut gs o0 (execClearSnsCounters s) := by
  unfold execClearSnsCounters
  repeat' first
    | with_reducible assumption
    | with_reducible exact List.Subset.trans (by decide) hg
    | with_reducible exact Regular.keep rfl
    | (intro g hgn; cases g <;> first | exact (Keeps.out hg (by decide) hgn).elim | with_reducible rfl)
    | (extract_lets +onlyGivenNames s1; refine Keeps.have_ (gs := gs) (o := o0) (t := s1) ?_ (fun h => ?_); (on_goal 1 => subst s1); (on_goal 2 => try clear_value s1))
    | (extract_lets +onlyGivenNames n1; first | (have p : Sys := n1; clear p; subst n1) | (have p : Et := n1; clear p; subst n1) | (have p : Hm := n1; clear p; subst n1) | (have p : Opt := n1; clear p; subst n1) | (have p : Xg := n1; clear p; subst n1) | (have p : Sns := n1; clear p; subst n1) | (have p : Ev := n1; clear p; subst n1) | clear_value n1)
    | (with_reducible refine Keeps.foldl (fun t x h => ?_) ?_)
    | (with_reducible refine KeepsOut.next ?_)
    | with_reducible apply Keeps.askClearSns_keeps
    | (simp -zeta only [Keeps.mark]; with_reducible refine KeepsLit.intro rfl ?_ ?_ ?_)
    | split

theorem Keeps.clearSpan_keeps {gs : List Group} (hg : [.sp] ⊆ gs) {o0 s : State} (h0 : Keeps gs o0 s) : Keeps gs o0 (State.clearSpan s) := by
  unfold State.clearSpan
  repeat' first
    | with_reducible assumption
    | with_reducible exact List.Subset.trans (by decide) hg
    | with_reducible exact Regular.keep rfl
    | (intro g hgn; cases g <;> first | exact (Keeps.out hg (by decide) hgn).elim | with_reducible rfl)
    | (extract_lets +onlyGivenNames f1; (first | (refine Keeps.fun1 f1 ?_) | (refine Keeps.fun2 f1 ?_) | (refine Keeps.fun3 f1 ?_) | (refine KeepsRes.fun1 f1 ?_)); subst f1; beta_reduce)
    | (extract_lets +onlyGivenNames s1; refine Keeps.have_ (gs := gs) (o := o0) (t := s1) ?_ (fun h => ?_); (on_goal 1 => subst s1); (on_goal 2 => try clear_value s1))
    | (extract_lets +onlyGivenNames n1; first | (have p : Sys := n1; clear p; subst n1) | (have p : Et := n1; clear p; subst n1) | (have p : Hm := n1; clear p; subst n1) | (have p : Opt := n1; clear p; subst n1) | (have p : Xg := n1; clear p; subst n1) | (have p : Sns := n1; clear p; subst n1) | (have p : Ev := n1; clear p; subst n1) | clear_value n1)
    | (with_reducible refine Keeps.foldl (fun t x h => ?_) ?_)
    | (simp -zeta only [Keeps.mark]; with_reducible refine KeepsLit.intro rfl ?_ ?_ ?_)
    | split

theorem Keeps.execClearSpanCounters_keeps {gs : List Group} (hg : [.sp] ⊆ gs) {o0 s : State} (h0 : Keeps gs o0 s) : KeepsOut gs o0 (execClearSpanCounters s) := by
  unfold execClearSpanCounters
  repeat' first
    | with_reducible assumption
    | with_reducible exact List.Subset.trans (by decide) hg
    | with_reducible exact Regular.keep rfl
    | (intro g hgn; cases g <;> first | exact (Keeps.out hg (by decide) hgn).elim | with_reducible rfl)
    | (extract_lets +onlyGivenNames s1; refine Keeps.have_ (gs := gs) (o := o0) (t := s1) ?_ (fun h => ?_); (on_goal 1 => subst s1); (on_goal 2 => try clear_value s1))
    | (extract_lets +onlyGivenNames n1; first | (have p : Sys := n1; clear p; subst n1) | (have p : Et := n1; clear p; subst n1) | (have p : Hm := n1; clear p; subst n1) | (have p : Opt := n1; clear p; subst n1) | (have p : Xg := n1; clear p; subst n1) | (have p : Sns := n1; clear p; subst n1) | (have p : Ev := n1; clear p; subst n1) | clear_value n1)
    | (with_reducible refine Keeps.foldl (fun t x h => ?_) ?_)
    | (with_reducible refine KeepsOut.next ?_)
    | with_reducible apply Keeps.clearSpan_keeps
    | (simp -zeta only [Keeps.mark]; with_reducible refine KeepsLit.intro rfl ?_ ?_ ?_)
    | split

theorem Keeps.clearCtl_keeps {gs : List Group} (hg : [.ctl] ⊆ gs) {o0 s : State} (h0 : Keeps gs o0 s) : Keeps gs o0 (State.clearCtl s) := by
  unfold State.clearCtl
  repeat' first
    | with_reducible assumption
    | with_reducible exact List.Subset.trans (by decide) hg
    | with_reducible exact Regular.keep rfl
    | (intro g hgn; cases g <;> first | exact (Keeps.out hg (by decide) hgn).elim | with_reducible rfl)
    | (extract_lets +onlyGivenNames s1; refine Keeps.have_ (gs := gs) (o := o0) (t := s1) ?_ (fun h => ?_); (on_goal 1 => subst s1); (on_goal 2 => try clear_value s1))
    | (extract_lets +onlyGivenNames n1; first | (have p : Sys := n1; clear p; subst n1) | (have p : Et := n1; clear p; subst n1) | (have p : Hm := n1; clear p; subst n1) | (have p : Opt := n1; clear p; subst n1) | (have p : Xg := n1; clear p; subst n1) | (have p : Sns := n1; clear p; subst n1) | (have p : Ev := n1; clear p; subst n1) | clear_value n1)
    | (with_reducible refine Keeps.foldl (fun t x h => ?_) ?_)
    | (simp -zeta only [Keeps.mark]; with_reducible refine KeepsLit.intro rfl ?_ ?_ ?_)
    | split

theorem Keeps.execClearCtlCounters_keeps {gs : List Group} (hg : [.ctl] ⊆ gs) {o0 s : State} (h0 : Keeps gs o0 s) : KeepsOut gs o0 (execClearCtlCounters s) := by
  unfold execClearCtlCounters
  repeat' first
    | with_reducible assumption
    | with_reducible exact List.Subset.trans (by decide) hg
    | with_reducible exact Regular.keep rfl
    | (intro g hgn; cases g <;> first | exact (Keeps.out hg (by decide) hgn).elim | with_reducible rfl)
    | (extract_lets +onlyGivenNames s1; refine Keeps.have_ (gs := gs) (o := o0) (t := s1) ?_ (fun h => ?_); (on_goal 1 => subst s1); (on_goal 2 => try clear_value s1))
    | (extract_lets +onlyGivenNames n1; first | (have p : Sys := n1; clear p; subst n1) | (have p : Et := n1; clear p; subst n1) | (have p : Hm := n1; clear p; subst n1) | (have p : Opt := n1; clear p; subst n1) | (have p : Xg := n1; clear p; subst n1) | (have p : Sns := n1; clear p; subst n1) | (have p : Ev := n1; clear p; subst n1) | clear_value n1)
    | (with_reducible refine Keeps.foldl (fun t x h => ?_) ?_)
    | (with_reducible refine KeepsOut.next ?_)
    | with_reducible apply Keeps.clearCtl_keeps
    | (simp -zeta only [Keeps.mark]; with_reducible refine KeepsLit.intro rfl ?_ ?_ ?_)
    | split

theorem Keeps.clearEvcnt_keeps {gs : List Group} (hg : [.reg] ⊆ gs) {o0 s : State} (h0 : Keeps gs o0 s) (r : RegionNo) : Keeps gs o0 (State.clearEvcnt s r) := by
  unfold State.clearEvcnt
  repeat' first
    | with_reducible assumption
    | with_reducible exact List.Subset.trans (by decide) hg
    | with_reducible exact Regular.keep rfl
    | (intro g hgn; cases g <;> first | exact (Keeps.out hg (by decide) hgn).elim | with_reducible rfl)
    | (extract_lets +onlyGivenNames s1; refine Keeps.have_ (gs := gs) (o := o0) (t := s1) ?_ (fun h => ?_); (on_goal 1 => subst s1); (on_goal 2 => try clear_value s1))
    | (extract_lets +onlyGivenNames n1; first | (have p : Sys := n1; clear p; subst n1) | (have p : Et := n1; clear p; subst n1) | (have p : Hm := n1; clear p; subst n1) | (have p : Opt := n1; clear p; subst n1) | (have p : Xg := n1; clear p; subst n1) | (have p : Sns := n1; clear p; subst n1) | (have p : Ev := n1; clear p; subst n1) | clear_value n1)
    | (with_reducible refine Keeps.foldl (fun t x h => ?_) ?_)
    | with_reducible apply Keeps.modRgn_keeps
    | (simp -zeta only [Keeps.mark]; with_reducible refine KeepsLit.intro rfl ?_ ?_ ?_)
    | split

theorem Keeps.execClearRgnEvcnt_keeps {gs : List Group} (hg : [.reg] ⊆ gs) {o0 s : State} (h0 : Keeps gs o0 s) (r : RegionNo) : KeepsOut gs o0 (execClearRgnEvcnt r s) := by
  unfold execClearRgnEvcnt
  repeat' first
    | with_reducible assumption
    | with_reducible exact List.Subset.trans (by decide) hg
    | with_reducible exact Regular.keep rfl
    | (intro g hgn; cases g <;> first | exact (Keeps.out hg (by decide) hgn).elim | with_reducible rfl)
    | (extract_lets +onlyGivenNames s1; refine Keeps.have_ (gs := gs) (o := o0) (t := s1) ?_ (fun h => ?_); (on_goal 1 => subst s1); (on_goal 2 => try clear_value s1))
    | (extract_lets +onlyGivenNames n1; first | (have p : Sys := n1; clear p; subst n1) | (have p : Et := n1; clear p; subst n1) | (have p : Hm := n1; clear p; subst n1) | (have p : Opt := n1; clear p; subst n1) | (have p : Xg := n1; clear p; subst n1) | (have p : Sns := n1; clear p; subst n1) | (have p : Ev := n1; clear p; subst n1) | clear_value n1)
    | (with_reducible refine Keeps.foldl (fun t x h => ?_) ?_)
    | (with_reducible refine KeepsOut.next ?_)
    | with_reducible apply Keeps.clearEvcnt_keeps
    | (simp -zeta only [Keeps.mark]; with_reducible refine KeepsLit.intro rfl ?_ ?_ ?_)
    | (with_reducible refine Keeps.ite ?_ ?_)
    | split

theorem Keeps.clearStretch_keeps {gs : List Group} (hg : [.reg] ⊆ gs) {o0 s : State} (h0 : Keeps gs o0 s) (r : RegionNo) : Keeps gs o0 (State.clearStretch s r) := by
  unfold State.clearStretch
  repeat' first
    | with_reducible assumption
    | with_reducible exact List.Subset.trans (by decide) hg
    | with_reducible exact Regular.keep rfl
    | (intro g hgn; cases g <;> first | exact (Keeps.out hg (by decide) hgn).elim | with_reducible rfl)
    | (extract_lets +onlyGivenNames s1; refine Keeps.have_ (gs := gs) (o := o0) (t := s1) ?_ (fun h => ?_); (on_goal 1 => subst s1); (on_goal 2 => try clear_value s1))
    | (extract_lets +onlyGivenNames n1; first | (have p : Sys := n1; clear p; subst n1) | (have p : Et := n1; clear p; subst n1) | (have p : Hm := n1; clear p; subst n1) | (have p : Opt := n1; clear p; subst n1) | (have p : Xg := n1; clear p; subst n1) | (have p : Sns := n1; clear p; subst n1) | (have p : Ev := n1; clear p; subst n1) | clear_value n1)
    | (with_reducible refine Keeps.foldl (fun t x h => ?_) ?_)
    | with_reducible apply Keeps.modRgn_keeps
    | (simp -zeta only [Keeps.mark]; with_reducible refine KeepsLit.intro rfl ?_ ?_ ?_)
    | split

theorem Keeps.execClearRgnStretchCnt_keeps {gs : List Group} (hg : [.reg] ⊆ gs) {o0 s : State} (h0 : Keeps gs o0 s) (r : RegionNo) : KeepsOut gs o0 (execClearRgnStretchCnt r s) := by
  unfold execClearRgnStretchCnt
  repeat' first
    | with_reducible assumption
    | with_reducible exact List.Subset.trans (by decide) hg
    | with_reducible exact Regular.keep rfl
    | (intro g hgn; cases g <;> first | exact (Keeps.out hg (by decide) hgn).elim | with_reducible rfl)
    | (extract_lets +onlyGivenNames s1; refine Keeps.have_ (gs := gs) (o := o0) (t := s1) ?_ (fun h => ?_); (on_goal 1 => subst s1); (on_goal 2 => try clear_value s1))
    | (extract_lets +onlyGivenNames n1; first | (have p : Sys := n1; clear p; subst n1) | (have p : Et := n1; clear p; subst n1) | (have p : Hm := n1; clear p; subst n1) | (have p : Opt := n1; clear p; subst n1) | (have p : Xg := n1; clear p; subst n1) | (have p : Sns := n1; clear p; subst n1) | (have p : Ev := n1; clear p; subst n1) | clear_value n1)
    | (with_reducible refine Keeps.foldl (fun t x h => ?_) ?_)
    | (with_reducible refine KeepsOut.next ?_)
    | with_reducible apply Keeps.clearStretch_keeps
    | (simp -zeta only [Keeps.mark]; with_reducible refine KeepsLit.intro rfl ?_ ?_ ?_)
    | (with_reducible refine Keeps.ite ?_ ?_)
    | split

theorem Keeps.writeRgnAt_keeps {gs : List Group} (hg : [.reg, .ev] ⊆ gs) {o0 s : State} (h0 : Keeps gs o0 s) (n : Nat) (r : RegionNo) (off : Nat) (w : Word) : Keeps gs o0 (State.writeRgnAt s n r off w) := by
  unfold State.writeRgnAt
  dsimp only
  repeat' first
    | with_reducible assumption
    | with_reducible exact List.Subset.trans (by decide) hg
    | with_reducible exact Regular.keep rfl
    | (intro g hgn; cases g <;> first | exact (Keeps.out hg (by decide) hgn).elim | with_reducible rfl)
    | (with_reducible refine Keeps.foldl (fun t x h => ?_) ?_)
    | (with_reducible refine KeepsOut.next ?_)
    | (with_reducible refine KeepsRes.done ?_)
    | (with_reducible refine KeepsRes.wait ?_)
    | (with_reducible refine KeepsRes.refuse ?_)
    | with_reducible apply Keeps.raiseIf_keeps
    | with_reducible apply Keeps.modRgn_keeps
    | with_reducible apply Keeps.sendCode_keeps
    | with_reducible apply Keeps.clearEvcnt_keeps
    | with_reducible apply Keeps.clearStretch_keeps
    | (with_reducible refine Keeps.ite ?_ ?_)
    | (simp -zeta only [Keeps.mark]; with_reducible refine KeepsLit.intro rfl ?_ ?_ ?_)
    | split

theorem Keeps.writeRgn_keeps {gs : List Group} (hg : [.reg, .ev] ⊆ gs) {o0 s : State} (h0 : Keeps gs o0 s) (r : RegionNo) (off : Nat) (w : Word) : Keeps gs o0 (State.writeRgn s r off w) := by
  unfold State.writeRgn
  repeat' first
    | with_reducible assumption
    | with_reducible exact List.Subset.trans (by decide) hg
    | with_reducible exact Regular.keep rfl
    | (intro g hgn; cases g <;> first | exact (Keeps.out hg (by decide) hgn).elim | with_reducible rfl)
    | (extract_lets +onlyGivenNames s1; refine Keeps.have_ (gs := gs) (o := o0) (t := s1) ?_ (fun h => ?_); (on_goal 1 => subst s1); (on_goal 2 => try clear_value s1))
    | (extract_lets +onlyGivenNames n1; first | (have p : Sys := n1; clear p; subst n1) | (have p : Et := n1; clear p; subst n1) | (have p : Hm := n1; clear p; subst n1) | (have p : Opt := n1; clear p; subst n1) | (have p : Xg := n1; clear p; subst n1) | (have p : Sns := n1; clear p; subst n1) | (have p : Ev := n1; clear p; subst n1) | clear_value n1)
    | (with_reducible refine Keeps.foldl (fun t x h => ?_) ?_)
    | with_reducible apply Keeps.sendMsg_keeps
    | with_reducible apply Keeps.writeRgnAt_keeps
    | (simp -zeta only [Keeps.mark]; with_reducible refine KeepsLit.intro rfl ?_ ?_ ?_)
    | (with_reducible refine Keeps.ite ?_ ?_)
    | split

theorem Keeps.writeBudget_keeps {gs : List Group} (hg : [.sns] ⊆ gs) {o0 s : State} (h0 : Keeps gs o0 s) (w : Word) : Keeps gs o0 (State.writeBudget s w) := by
  unfold State.writeBudget
  repeat' first
    | with_reducible assumption
    | with_reducible exact List.Subset.trans (by decide) hg
    | with_reducible exact Regular.keep rfl
    | (intro g hgn; cases g <;> first | exact (Keeps.out hg (by decide) hgn).elim | with_reducible rfl)
    | (extract_lets +onlyGivenNames s1; refine Keeps.have_ (gs := gs) (o := o0) (t := s1) ?_ (fun h => ?_); (on_goal 1 => subst s1); (on_goal 2 => try clear_value s1))
    | (extract_lets +onlyGivenNames n1; first | (have p : Sys := n1; clear p; subst n1) | (have p : Et := n1; clear p; subst n1) | (have p : Hm := n1; clear p; subst n1) | (have p : Opt := n1; clear p; subst n1) | (have p : Xg := n1; clear p; subst n1) | (have p : Sns := n1; clear p; subst n1) | (have p : Ev := n1; clear p; subst n1) | clear_value n1)
    | (with_reducible refine Keeps.foldl (fun t x h => ?_) ?_)
    | (simp -zeta only [Keeps.mark]; with_reducible refine KeepsLit.intro rfl ?_ ?_ ?_)
    | split

theorem Keeps.execMbSnsBudgetWrite_keeps {gs : List Group} (hg : [.sns] ⊆ gs) {o0 s : State} (h0 : Keeps gs o0 s) (w : Word) : KeepsOut gs o0 (execMbSnsBudgetWrite w s) := by
  unfold execMbSnsBudgetWrite
  repeat' first
    | with_reducible assumption
    | with_reducible exact List.Subset.trans (by decide) hg
    | with_reducible exact Regular.keep rfl
    | (intro g hgn; cases g <;> first | exact (Keeps.out hg (by decide) hgn).elim | with_reducible rfl)
    | (extract_lets +onlyGivenNames s1; refine Keeps.have_ (gs := gs) (o := o0) (t := s1) ?_ (fun h => ?_); (on_goal 1 => subst s1); (on_goal 2 => try clear_value s1))
    | (extract_lets +onlyGivenNames n1; first | (have p : Sys := n1; clear p; subst n1) | (have p : Et := n1; clear p; subst n1) | (have p : Hm := n1; clear p; subst n1) | (have p : Opt := n1; clear p; subst n1) | (have p : Xg := n1; clear p; subst n1) | (have p : Sns := n1; clear p; subst n1) | (have p : Ev := n1; clear p; subst n1) | clear_value n1)
    | (with_reducible refine Keeps.foldl (fun t x h => ?_) ?_)
    | (with_reducible refine KeepsOut.next ?_)
    | with_reducible apply Keeps.writeBudget_keeps
    | (simp -zeta only [Keeps.mark]; with_reducible refine KeepsLit.intro rfl ?_ ?_ ?_)
    | (with_reducible refine Keeps.ite ?_ ?_)
    | split

theorem Keeps.promote_keeps {gs : List Group} (hg : [.ctl, .mbx] ⊆ gs) {o0 s : State} (h0 : Keeps gs o0 s) (c : Bool) : Keeps gs o0 (State.promote s c) := by
  unfold State.promote
  repeat' first
    | with_reducible assumption
    | with_reducible exact List.Subset.trans (by decide) hg
    | with_reducible exact Regular.keep rfl
    | (intro g hgn; cases g <;> first | exact (Keeps.out hg (by decide) hgn).elim | with_reducible rfl)
    | (extract_lets +onlyGivenNames s1; refine Keeps.have_ (gs := gs) (o := o0) (t := s1) ?_ (fun h => ?_); (on_goal 1 => subst s1); (on_goal 2 => try clear_value s1))
    | (extract_lets +onlyGivenNames n1; first | (have p : Sys := n1; clear p; subst n1) | (have p : Et := n1; clear p; subst n1) | (have p : Hm := n1; clear p; subst n1) | (have p : Opt := n1; clear p; subst n1) | (have p : Xg := n1; clear p; subst n1) | (have p : Sns := n1; clear p; subst n1) | (have p : Ev := n1; clear p; subst n1) | clear_value n1)
    | (with_reducible refine Keeps.foldl (fun t x h => ?_) ?_)
    | with_reducible apply Keeps.modCtrl_keeps
    | (simp -zeta only [Keeps.mark]; with_reducible refine KeepsLit.intro rfl ?_ ?_ ?_)
    | split

theorem Keeps.standbyReady_keeps {gs : List Group} (hg : [.sys, .ctl, .mbx, .ev] ⊆ gs) {o0 s : State} (h0 : Keeps gs o0 s) (c : Bool) : Keeps gs o0 (State.standbyReady s c) := by
  unfold State.standbyReady
  repeat' first
    | with_reducible assumption
    | with_reducible exact List.Subset.trans (by decide) hg
    | with_reducible exact Regular.keep rfl
    | (intro g hgn; cases g <;> first | exact (Keeps.out hg (by decide) hgn).elim | with_reducible rfl)
    | (extract_lets +onlyGivenNames s1; refine Keeps.have_ (gs := gs) (o := o0) (t := s1) ?_ (fun h => ?_); (on_goal 1 => subst s1); (on_goal 2 => try clear_value s1))
    | (extract_lets +onlyGivenNames n1; first | (have p : Sys := n1; clear p; subst n1) | (have p : Et := n1; clear p; subst n1) | (have p : Hm := n1; clear p; subst n1) | (have p : Opt := n1; clear p; subst n1) | (have p : Xg := n1; clear p; subst n1) | (have p : Sns := n1; clear p; subst n1) | (have p : Ev := n1; clear p; subst n1) | clear_value n1)
    | (with_reducible refine Keeps.foldl (fun t x h => ?_) ?_)
    | with_reducible apply Keeps.mlbClear_keeps
    | with_reducible apply Keeps.modCtrl_keeps
    | with_reducible apply Keeps.promote_keeps
    | with_reducible apply Keeps.raise_keeps
    | (simp -zeta only [Keeps.mark]; with_reducible refine KeepsLit.intro rfl ?_ ?_ ?_)
    | (with_reducible refine Keeps.ite ?_ ?_)
    | split

theorem Keeps.standbyFree_keeps {gs : List Group} (hg : [.sys, .ctl, .mbx, .ev] ⊆ gs) {o0 s : State} (h0 : Keeps gs o0 s) : Keeps gs o0 (State.standbyFree s) := by
  unfold State.standbyFree
  repeat' first
    | with_reducible assumption
    | with_reducible exact List.Subset.trans (by decide) hg
    | with_reducible exact Regular.keep rfl
    | (intro g hgn; cases g <;> first | exact (Keeps.out hg (by decide) hgn).elim | with_reducible rfl)
    | (extract_lets +onlyGivenNames s1; refine Keeps.have_ (gs := gs) (o := o0) (t := s1) ?_ (fun h => ?_); (on_goal 1 => subst s1); (on_goal 2 => try clear_value s1))
    | (extract_lets +onlyGivenNames n1; first | (have p : Sys := n1; clear p; subst n1) | (have p : Et := n1; clear p; subst n1) | (have p : Hm := n1; clear p; subst n1) | (have p : Opt := n1; clear p; subst n1) | (have p : Xg := n1; clear p; subst n1) | (have p : Sns := n1; clear p; subst n1) | (have p : Ev := n1; clear p; subst n1) | clear_value n1)
    | (with_reducible refine Keeps.foldl (fun t x h => ?_) ?_)
    | with_reducible apply Keeps.standbyReady_keeps
    | (simp -zeta only [Keeps.mark]; with_reducible refine KeepsLit.intro rfl ?_ ?_ ?_)
    | (with_reducible refine Keeps.ite ?_ ?_)
    | split

theorem Keeps.writeGlob_keeps {gs : List Group} (hg : [.sys, .ctl, .mbx, .hm, .et, .opt, .ls, .xg, .cal, .sns, .sp, .ev] ⊆ gs) {o0 s : State} (h0 : Keeps gs o0 s) (b : Nat) (off : Nat) (w : Word) : Keeps gs o0 (State.writeGlob s b off w) := by
  unfold State.writeGlob
  repeat' first
    | with_reducible assumption
    | with_reducible exact List.Subset.trans (by decide) hg
    | with_reducible exact Regular.keep rfl
    | (intro g hgn; cases g <;> first | exact (Keeps.out hg (by decide) hgn).elim | with_reducible rfl)
    | (extract_lets +onlyGivenNames s1; refine Keeps.have_ (gs := gs) (o := o0) (t := s1) ?_ (fun h => ?_); (on_goal 1 => subst s1); (on_goal 2 => try clear_value s1))
    | (extract_lets +onlyGivenNames n1; first | (have p : Sys := n1; clear p; subst n1) | (have p : Et := n1; clear p; subst n1) | (have p : Hm := n1; clear p; subst n1) | (have p : Opt := n1; clear p; subst n1) | (have p : Xg := n1; clear p; subst n1) | (have p : Sns := n1; clear p; subst n1) | (have p : Ev := n1; clear p; subst n1) | clear_value n1)
    | (with_reducible refine Keeps.foldl (fun t x h => ?_) ?_)
    | with_reducible apply Keeps.askClearCal_keeps
    | with_reducible apply Keeps.askClearSns_keeps
    | with_reducible apply Keeps.clearCtl_keeps
    | with_reducible apply Keeps.clearDrop_keeps
    | with_reducible apply Keeps.clearErg_keeps
    | with_reducible apply Keeps.clearHm_keeps
    | with_reducible apply Keeps.clearLs_keeps
    | with_reducible apply Keeps.clearOpt_keeps
    | with_reducible apply Keeps.clearSpan_keeps
    | with_reducible apply Keeps.clearXing_keeps
    | with_reducible apply Keeps.modSite_keeps
    | with_reducible apply Keeps.modSynth_keeps
    | with_reducible apply Keeps.standbyFree_keeps
    | with_reducible apply Keeps.writeBudget_keeps
    | with_reducible apply Keeps.writeEn_keeps
    | with_reducible apply Keeps.writePin_keeps
    | (simp -zeta only [Keeps.mark]; with_reducible refine KeepsLit.intro rfl ?_ ?_ ?_)
    | (with_reducible refine KeepsOpt.getD ?_ ?_)
    | (with_reducible refine Keeps.optEq (by assumption) ?_)
    | (with_reducible refine Keeps.pairEq1 (by assumption) ?_)
    | (with_reducible refine Keeps.pairEq2 (by assumption) ?_)
    | (with_reducible refine Keeps.ite ?_ ?_)
    | split

theorem Keeps.regWrite_keeps {gs : List Group} (hg : [.sys, .ctl, .mbx, .reg, .hm, .et, .opt, .ls, .xg, .cal, .sns, .sp, .ev] ⊆ gs) {o0 s : State} (h0 : Keeps gs o0 s) (g : Reg) (w : Word) : Keeps gs o0 (State.regWrite s g w) := by
  unfold State.regWrite
  repeat' first
    | with_reducible assumption
    | (extract_lets +onlyGivenNames s1; refine Keeps.have_ (gs := gs) (o := o0) (t := s1) ?_ (fun h => ?_); (on_goal 1 => subst s1); (on_goal 2 => try clear_value s1))
    | (extract_lets +onlyGivenNames n1; first | (have p : Sys := n1; clear p; subst n1) | (have p : Et := n1; clear p; subst n1) | (have p : Hm := n1; clear p; subst n1) | (have p : Opt := n1; clear p; subst n1) | (have p : Xg := n1; clear p; subst n1) | (have p : Sns := n1; clear p; subst n1) | (have p : Ev := n1; clear p; subst n1) | clear_value n1)
    | with_reducible exact List.Subset.trans (by decide) hg
    | with_reducible exact Regular.keep rfl
    | (intro g hgn; cases g <;> first | exact (Keeps.out hg (by decide) hgn).elim | with_reducible rfl)
    | (with_reducible refine Keeps.foldl (fun t x h => ?_) ?_)
    | (with_reducible refine KeepsOut.next ?_)
    | (with_reducible refine KeepsRes.done ?_)
    | (with_reducible refine KeepsRes.wait ?_)
    | (with_reducible refine KeepsRes.refuse ?_)
    | with_reducible apply Keeps.writeRgn_keeps
    | with_reducible apply Keeps.writeGlob_keeps
    | (with_reducible refine Keeps.ite ?_ ?_)
    | (simp -zeta only [Keeps.mark]; with_reducible refine KeepsLit.intro rfl ?_ ?_ ?_)
    | split

theorem Keeps.cmdReadField_keeps {gs : List Group} (hg : [] ⊆ gs) {o0 s : State} (h0 : Keeps gs o0 s) (block : Nat) (q : Req) : KeepsRes gs o0 (cmdReadField block q s) := by
  unfold cmdReadField
  repeat' first
    | with_reducible assumption
    | with_reducible exact List.Subset.trans (by decide) hg
    | with_reducible exact Regular.keep rfl
    | (intro g hgn; cases g <;> first | exact (Keeps.out hg (by decide) hgn).elim | with_reducible rfl)
    | (extract_lets +onlyGivenNames s1; refine KeepsRes.have_ (gs := gs) (o := o0) (r := s1) ?_ (fun h => ?_); (on_goal 1 => subst s1); (on_goal 2 => try clear_value s1))
    | (extract_lets +onlyGivenNames s1; refine Keeps.have_ (gs := gs) (o := o0) (t := s1) ?_ (fun h => ?_); (on_goal 1 => subst s1); (on_goal 2 => try clear_value s1))
    | (extract_lets +onlyGivenNames n1; first | (have p : Sys := n1; clear p; subst n1) | (have p : Et := n1; clear p; subst n1) | (have p : Hm := n1; clear p; subst n1) | (have p : Opt := n1; clear p; subst n1) | (have p : Xg := n1; clear p; subst n1) | (have p : Sns := n1; clear p; subst n1) | (have p : Ev := n1; clear p; subst n1) | clear_value n1)
    | (with_reducible refine Keeps.foldl (fun t x h => ?_) ?_)
    | (with_reducible refine KeepsRes.done ?_)
    | (with_reducible refine KeepsRes.wait ?_)
    | (with_reducible refine KeepsRes.refuse ?_)
    | with_reducible apply Keeps.refuse_keeps
    | (simp -zeta only [Keeps.mark]; with_reducible refine KeepsLit.intro rfl ?_ ?_ ?_)
    | split

theorem Keeps.execRegionReadField_keeps {gs : List Group} (hg : [.mbx] ⊆ gs) {o0 s : State} (h0 : Keeps gs o0 s) (q : Req) : KeepsOut gs o0 (execRegionReadField q s) := by
  unfold execRegionReadField
  repeat' first
    | with_reducible assumption
    | with_reducible exact List.Subset.trans (by decide) hg
    | with_reducible exact Regular.keep rfl
    | (intro g hgn; cases g <;> first | exact (Keeps.out hg (by decide) hgn).elim | with_reducible rfl)
    | (extract_lets +onlyGivenNames s1; refine Keeps.have_ (gs := gs) (o := o0) (t := s1) ?_ (fun h => ?_); (on_goal 1 => subst s1); (on_goal 2 => try clear_value s1))
    | (extract_lets +onlyGivenNames n1; first | (have p : Sys := n1; clear p; subst n1) | (have p : Et := n1; clear p; subst n1) | (have p : Hm := n1; clear p; subst n1) | (have p : Opt := n1; clear p; subst n1) | (have p : Xg := n1; clear p; subst n1) | (have p : Sns := n1; clear p; subst n1) | (have p : Ev := n1; clear p; subst n1) | clear_value n1)
    | (with_reducible refine Keeps.foldl (fun t x h => ?_) ?_)
    | (with_reducible refine KeepsOut.next ?_)
    | (with_reducible refine Keeps.submit_keeps ?_ ?_ _ _ (fun q t h => ?_) _)
    | with_reducible apply Keeps.cmdReadField_keeps
    | (simp -zeta only [Keeps.mark]; with_reducible refine KeepsLit.intro rfl ?_ ?_ ?_)
    | split

theorem Keeps.execHawkmothReadField_keeps {gs : List Group} (hg : [.mbx] ⊆ gs) {o0 s : State} (h0 : Keeps gs o0 s) (q : Req) : KeepsOut gs o0 (execHawkmothReadField q s) := by
  unfold execHawkmothReadField
  repeat' first
    | with_reducible assumption
    | with_reducible exact List.Subset.trans (by decide) hg
    | with_reducible exact Regular.keep rfl
    | (intro g hgn; cases g <;> first | exact (Keeps.out hg (by decide) hgn).elim | with_reducible rfl)
    | (extract_lets +onlyGivenNames s1; refine Keeps.have_ (gs := gs) (o := o0) (t := s1) ?_ (fun h => ?_); (on_goal 1 => subst s1); (on_goal 2 => try clear_value s1))
    | (extract_lets +onlyGivenNames n1; first | (have p : Sys := n1; clear p; subst n1) | (have p : Et := n1; clear p; subst n1) | (have p : Hm := n1; clear p; subst n1) | (have p : Opt := n1; clear p; subst n1) | (have p : Xg := n1; clear p; subst n1) | (have p : Sns := n1; clear p; subst n1) | (have p : Ev := n1; clear p; subst n1) | clear_value n1)
    | (with_reducible refine Keeps.foldl (fun t x h => ?_) ?_)
    | (with_reducible refine KeepsOut.next ?_)
    | (with_reducible refine Keeps.submit_keeps ?_ ?_ _ _ (fun q t h => ?_) _)
    | with_reducible apply Keeps.cmdReadField_keeps
    | (simp -zeta only [Keeps.mark]; with_reducible refine KeepsLit.intro rfl ?_ ?_ ?_)
    | split

theorem Keeps.execErgReadField_keeps {gs : List Group} (hg : [.mbx] ⊆ gs) {o0 s : State} (h0 : Keeps gs o0 s) (q : Req) : KeepsOut gs o0 (execErgReadField q s) := by
  unfold execErgReadField
  repeat' first
    | with_reducible assumption
    | with_reducible exact List.Subset.trans (by decide) hg
    | with_reducible exact Regular.keep rfl
    | (intro g hgn; cases g <;> first | exact (Keeps.out hg (by decide) hgn).elim | with_reducible rfl)
    | (extract_lets +onlyGivenNames s1; refine Keeps.have_ (gs := gs) (o := o0) (t := s1) ?_ (fun h => ?_); (on_goal 1 => subst s1); (on_goal 2 => try clear_value s1))
    | (extract_lets +onlyGivenNames n1; first | (have p : Sys := n1; clear p; subst n1) | (have p : Et := n1; clear p; subst n1) | (have p : Hm := n1; clear p; subst n1) | (have p : Opt := n1; clear p; subst n1) | (have p : Xg := n1; clear p; subst n1) | (have p : Sns := n1; clear p; subst n1) | (have p : Ev := n1; clear p; subst n1) | clear_value n1)
    | (with_reducible refine Keeps.foldl (fun t x h => ?_) ?_)
    | (with_reducible refine KeepsOut.next ?_)
    | (with_reducible refine Keeps.submit_keeps ?_ ?_ _ _ (fun q t h => ?_) _)
    | with_reducible apply Keeps.cmdReadField_keeps
    | (simp -zeta only [Keeps.mark]; with_reducible refine KeepsLit.intro rfl ?_ ?_ ?_)
    | split

theorem Keeps.execOpticReadField_keeps {gs : List Group} (hg : [.mbx] ⊆ gs) {o0 s : State} (h0 : Keeps gs o0 s) (q : Req) : KeepsOut gs o0 (execOpticReadField q s) := by
  unfold execOpticReadField
  repeat' first
    | with_reducible assumption
    | with_reducible exact List.Subset.trans (by decide) hg
    | with_reducible exact Regular.keep rfl
    | (intro g hgn; cases g <;> first | exact (Keeps.out hg (by decide) hgn).elim | with_reducible rfl)
    | (extract_lets +onlyGivenNames s1; refine Keeps.have_ (gs := gs) (o := o0) (t := s1) ?_ (fun h => ?_); (on_goal 1 => subst s1); (on_goal 2 => try clear_value s1))
    | (extract_lets +onlyGivenNames n1; first | (have p : Sys := n1; clear p; subst n1) | (have p : Et := n1; clear p; subst n1) | (have p : Hm := n1; clear p; subst n1) | (have p : Opt := n1; clear p; subst n1) | (have p : Xg := n1; clear p; subst n1) | (have p : Sns := n1; clear p; subst n1) | (have p : Ev := n1; clear p; subst n1) | clear_value n1)
    | (with_reducible refine Keeps.foldl (fun t x h => ?_) ?_)
    | (with_reducible refine KeepsOut.next ?_)
    | (with_reducible refine Keeps.submit_keeps ?_ ?_ _ _ (fun q t h => ?_) _)
    | with_reducible apply Keeps.cmdReadField_keeps
    | (simp -zeta only [Keeps.mark]; with_reducible refine KeepsLit.intro rfl ?_ ?_ ?_)
    | split

theorem Keeps.execSynthReadField_keeps {gs : List Group} (hg : [.mbx] ⊆ gs) {o0 s : State} (h0 : Keeps gs o0 s) (q : Req) : KeepsOut gs o0 (execSynthReadField q s) := by
  unfold execSynthReadField
  repeat' first
    | with_reducible assumption
    | with_reducible exact List.Subset.trans (by decide) hg
    | with_reducible exact Regular.keep rfl
    | (intro g hgn; cases g <;> first | exact (Keeps.out hg (by decide) hgn).elim | with_reducible rfl)
    | (extract_lets +onlyGivenNames s1; refine Keeps.have_ (gs := gs) (o := o0) (t := s1) ?_ (fun h => ?_); (on_goal 1 => subst s1); (on_goal 2 => try clear_value s1))
    | (extract_lets +onlyGivenNames n1; first | (have p : Sys := n1; clear p; subst n1) | (have p : Et := n1; clear p; subst n1) | (have p : Hm := n1; clear p; subst n1) | (have p : Opt := n1; clear p; subst n1) | (have p : Xg := n1; clear p; subst n1) | (have p : Sns := n1; clear p; subst n1) | (have p : Ev := n1; clear p; subst n1) | clear_value n1)
    | (with_reducible refine Keeps.foldl (fun t x h => ?_) ?_)
    | (with_reducible refine KeepsOut.next ?_)
    | (with_reducible refine Keeps.submit_keeps ?_ ?_ _ _ (fun q t h => ?_) _)
    | with_reducible apply Keeps.cmdReadField_keeps
    | (simp -zeta only [Keeps.mark]; with_reducible refine KeepsLit.intro rfl ?_ ?_ ?_)
    | split

theorem Keeps.execCrossReadField_keeps {gs : List Group} (hg : [.mbx] ⊆ gs) {o0 s : State} (h0 : Keeps gs o0 s) (q : Req) : KeepsOut gs o0 (execCrossReadField q s) := by
  unfold execCrossReadField
  repeat' first
    | with_reducible assumption
    | with_reducible exact List.Subset.trans (by decide) hg
    | with_reducible exact Regular.keep rfl
    | (intro g hgn; cases g <;> first | exact (Keeps.out hg (by decide) hgn).elim | with_reducible rfl)
    | (extract_lets +onlyGivenNames s1; refine Keeps.have_ (gs := gs) (o := o0) (t := s1) ?_ (fun h => ?_); (on_goal 1 => subst s1); (on_goal 2 => try clear_value s1))
    | (extract_lets +onlyGivenNames n1; first | (have p : Sys := n1; clear p; subst n1) | (have p : Et := n1; clear p; subst n1) | (have p : Hm := n1; clear p; subst n1) | (have p : Opt := n1; clear p; subst n1) | (have p : Xg := n1; clear p; subst n1) | (have p : Sns := n1; clear p; subst n1) | (have p : Ev := n1; clear p; subst n1) | clear_value n1)
    | (with_reducible refine Keeps.foldl (fun t x h => ?_) ?_)
    | (with_reducible refine KeepsOut.next ?_)
    | (with_reducible refine Keeps.submit_keeps ?_ ?_ _ _ (fun q t h => ?_) _)
    | with_reducible apply Keeps.cmdReadField_keeps
    | (simp -zeta only [Keeps.mark]; with_reducible refine KeepsLit.intro rfl ?_ ?_ ?_)
    | split

theorem Keeps.execCalReadField_keeps {gs : List Group} (hg : [.mbx] ⊆ gs) {o0 s : State} (h0 : Keeps gs o0 s) (q : Req) : KeepsOut gs o0 (execCalReadField q s) := by
  unfold execCalReadField
  repeat' first
    | with_reducible assumption
    | with_reducible exact List.Subset.trans (by decide) hg
    | with_reducible exact Regular.keep rfl
    | (intro g hgn; cases g <;> first | exact (Keeps.out hg (by decide) hgn).elim | with_reducible rfl)
    | (extract_lets +onlyGivenNames s1; refine Keeps.have_ (gs := gs) (o := o0) (t := s1) ?_ (fun h => ?_); (on_goal 1 => subst s1); (on_goal 2 => try clear_value s1))
    | (extract_lets +onlyGivenNames n1; first | (have p : Sys := n1; clear p; subst n1) | (have p : Et := n1; clear p; subst n1) | (have p : Hm := n1; clear p; subst n1) | (have p : Opt := n1; clear p; subst n1) | (have p : Xg := n1; clear p; subst n1) | (have p : Sns := n1; clear p; subst n1) | (have p : Ev := n1; clear p; subst n1) | clear_value n1)
    | (with_reducible refine Keeps.foldl (fun t x h => ?_) ?_)
    | (with_reducible refine KeepsOut.next ?_)
    | (with_reducible refine Keeps.submit_keeps ?_ ?_ _ _ (fun q t h => ?_) _)
    | with_reducible apply Keeps.cmdReadField_keeps
    | (simp -zeta only [Keeps.mark]; with_reducible refine KeepsLit.intro rfl ?_ ?_ ?_)
    | split

theorem Keeps.execSenseReadField_keeps {gs : List Group} (hg : [.mbx] ⊆ gs) {o0 s : State} (h0 : Keeps gs o0 s) (q : Req) : KeepsOut gs o0 (execSenseReadField q s) := by
  unfold execSenseReadField
  repeat' first
    | with_reducible assumption
    | with_reducible exact List.Subset.trans (by decide) hg
    | with_reducible exact Regular.keep rfl
    | (intro g hgn; cases g <;> first | exact (Keeps.out hg (by decide) hgn).elim | with_reducible rfl)
    | (extract_lets +onlyGivenNames s1; refine Keeps.have_ (gs := gs) (o := o0) (t := s1) ?_ (fun h => ?_); (on_goal 1 => subst s1); (on_goal 2 => try clear_value s1))
    | (extract_lets +onlyGivenNames n1; first | (have p : Sys := n1; clear p; subst n1) | (have p : Et := n1; clear p; subst n1) | (have p : Hm := n1; clear p; subst n1) | (have p : Opt := n1; clear p; subst n1) | (have p : Xg := n1; clear p; subst n1) | (have p : Sns := n1; clear p; subst n1) | (have p : Ev := n1; clear p; subst n1) | clear_value n1)
    | (with_reducible refine Keeps.foldl (fun t x h => ?_) ?_)
    | (with_reducible refine KeepsOut.next ?_)
    | (with_reducible refine Keeps.submit_keeps ?_ ?_ _ _ (fun q t h => ?_) _)
    | with_reducible apply Keeps.cmdReadField_keeps
    | (simp -zeta only [Keeps.mark]; with_reducible refine KeepsLit.intro rfl ?_ ?_ ?_)
    | split

theorem Keeps.execSpanReadField_keeps {gs : List Group} (hg : [.mbx] ⊆ gs) {o0 s : State} (h0 : Keeps gs o0 s) (q : Req) : KeepsOut gs o0 (execSpanReadField q s) := by
  unfold execSpanReadField
  repeat' first
    | with_reducible assumption
    | with_reducible exact List.Subset.trans (by decide) hg
    | with_reducible exact Regular.keep rfl
    | (intro g hgn; cases g <;> first | exact (Keeps.out hg (by decide) hgn).elim | with_reducible rfl)
    | (extract_lets +onlyGivenNames s1; refine Keeps.have_ (gs := gs) (o := o0) (t := s1) ?_ (fun h => ?_); (on_goal 1 => subst s1); (on_goal 2 => try clear_value s1))
    | (extract_lets +onlyGivenNames n1; first | (have p : Sys := n1; clear p; subst n1) | (have p : Et := n1; clear p; subst n1) | (have p : Hm := n1; clear p; subst n1) | (have p : Opt := n1; clear p; subst n1) | (have p : Xg := n1; clear p; subst n1) | (have p : Sns := n1; clear p; subst n1) | (have p : Ev := n1; clear p; subst n1) | clear_value n1)
    | (with_reducible refine Keeps.foldl (fun t x h => ?_) ?_)
    | (with_reducible refine KeepsOut.next ?_)
    | (with_reducible refine Keeps.submit_keeps ?_ ?_ _ _ (fun q t h => ?_) _)
    | with_reducible apply Keeps.cmdReadField_keeps
    | (simp -zeta only [Keeps.mark]; with_reducible refine KeepsLit.intro rfl ?_ ?_ ?_)
    | split

theorem Keeps.execSiroccoReadField_keeps {gs : List Group} (hg : [.mbx] ⊆ gs) {o0 s : State} (h0 : Keeps gs o0 s) (q : Req) : KeepsOut gs o0 (execSiroccoReadField q s) := by
  unfold execSiroccoReadField
  repeat' first
    | with_reducible assumption
    | with_reducible exact List.Subset.trans (by decide) hg
    | with_reducible exact Regular.keep rfl
    | (intro g hgn; cases g <;> first | exact (Keeps.out hg (by decide) hgn).elim | with_reducible rfl)
    | (extract_lets +onlyGivenNames s1; refine Keeps.have_ (gs := gs) (o := o0) (t := s1) ?_ (fun h => ?_); (on_goal 1 => subst s1); (on_goal 2 => try clear_value s1))
    | (extract_lets +onlyGivenNames n1; first | (have p : Sys := n1; clear p; subst n1) | (have p : Et := n1; clear p; subst n1) | (have p : Hm := n1; clear p; subst n1) | (have p : Opt := n1; clear p; subst n1) | (have p : Xg := n1; clear p; subst n1) | (have p : Sns := n1; clear p; subst n1) | (have p : Ev := n1; clear p; subst n1) | clear_value n1)
    | (with_reducible refine Keeps.foldl (fun t x h => ?_) ?_)
    | (with_reducible refine KeepsOut.next ?_)
    | (with_reducible refine Keeps.submit_keeps ?_ ?_ _ _ (fun q t h => ?_) _)
    | with_reducible apply Keeps.cmdReadField_keeps
    | (simp -zeta only [Keeps.mark]; with_reducible refine KeepsLit.intro rfl ?_ ?_ ?_)
    | split

theorem Keeps.irqClear_keeps {gs : List Group} (hg : [.mbx] ⊆ gs) {o0 s : State} (h0 : Keeps gs o0 s) (w : Word) : Keeps gs o0 (State.irqClear s w) := by
  unfold State.irqClear
  repeat' first
    | with_reducible assumption
    | with_reducible exact List.Subset.trans (by decide) hg
    | with_reducible exact Regular.keep rfl
    | (intro g hgn; cases g <;> first | exact (Keeps.out hg (by decide) hgn).elim | with_reducible rfl)
    | (extract_lets +onlyGivenNames s1; refine Keeps.have_ (gs := gs) (o := o0) (t := s1) ?_ (fun h => ?_); (on_goal 1 => subst s1); (on_goal 2 => try clear_value s1))
    | (extract_lets +onlyGivenNames n1; first | (have p : Sys := n1; clear p; subst n1) | (have p : Et := n1; clear p; subst n1) | (have p : Hm := n1; clear p; subst n1) | (have p : Opt := n1; clear p; subst n1) | (have p : Xg := n1; clear p; subst n1) | (have p : Sns := n1; clear p; subst n1) | (have p : Ev := n1; clear p; subst n1) | clear_value n1)
    | (with_reducible refine Keeps.foldl (fun t x h => ?_) ?_)
    | with_reducible apply Keeps.irq_keeps
    | (simp -zeta only [Keeps.mark]; with_reducible refine KeepsLit.intro rfl ?_ ?_ ?_)
    | split

theorem Keeps.windowWrite_keeps {gs : List Group} (hg : [.mbx] ⊆ gs) {o0 s : State} (h0 : Keeps gs o0 s) (off : Nat) (w : Word) : Keeps gs o0 (State.windowWrite s off w) := by
  unfold State.windowWrite
  repeat' first
    | with_reducible assumption
    | with_reducible exact List.Subset.trans (by decide) hg
    | with_reducible exact Regular.keep rfl
    | (intro g hgn; cases g <;> first | exact (Keeps.out hg (by decide) hgn).elim | with_reducible rfl)
    | (extract_lets +onlyGivenNames s1; refine Keeps.have_ (gs := gs) (o := o0) (t := s1) ?_ (fun h => ?_); (on_goal 1 => subst s1); (on_goal 2 => try clear_value s1))
    | (extract_lets +onlyGivenNames n1; first | (have p : Sys := n1; clear p; subst n1) | (have p : Et := n1; clear p; subst n1) | (have p : Hm := n1; clear p; subst n1) | (have p : Opt := n1; clear p; subst n1) | (have p : Xg := n1; clear p; subst n1) | (have p : Sns := n1; clear p; subst n1) | (have p : Ev := n1; clear p; subst n1) | clear_value n1)
    | (with_reducible refine Keeps.foldl (fun t x h => ?_) ?_)
    | with_reducible apply Keeps.irqClear_keeps
    | (simp -zeta only [Keeps.mark]; with_reducible refine KeepsLit.intro rfl ?_ ?_ ?_)
    | (with_reducible refine Keeps.ite ?_ ?_)
    | split

end Sys2Proof.Safety
end

