-- ==== Sys2Proof/Laws/KeepsEngines.lean ====
section
/-! SUPPORT. What each operation can change, and that it keeps the state regular: calibration, configuration, sensing, districts and Hawkmoth. -/
namespace Sys2Proof.Safety
open Sys2Proof.Machine

set_option linter.unreachableTactic false
set_option linter.unusedTactic false

theorem Keeps.suspectSync_keeps {gs : List Group} (hg : [.cal] ⊆ gs) {o0 s : State} (h0 : Keeps gs o0 s) (r : RegionNo) : Keeps gs o0 (State.suspectSync s r) := by
  unfold State.suspectSync
  repeat' first
    | with_reducible assumption
    | with_reducible exact List.Subset.trans (by decide) hg
    | with_reducible exact Regular.keep rfl
    | (intro g hgn; cases g <;> first | exact (Keeps.out hg (by decide) hgn).elim | with_reducible rfl)
    | (extract_lets +onlyGivenNames s1; refine Keeps.have_ (gs := gs) (o := o0) (t := s1) ?_ (fun h => ?_); (on_goal 1 => subst s1); (on_goal 2 => try clear_value s1))
    | (extract_lets +onlyGivenNames n1; first | (have p : Sys := n1; clear p; subst n1) | (have p : Et := n1; clear p; subst n1) | (have p : Hm := n1; clear p; subst n1) | (have p : Opt := n1; clear p; subst n1) | (have p : Xg := n1; clear p; subst n1) | (have p : Sns := n1; clear p; subst n1) | (have p : Ev := n1; clear p; subst n1) | clear_value n1)
    | (with_reducible refine Keeps.foldl (fun t x h => ?_) ?_)
    | (simp -zeta only [Keeps.mark]; with_reducible refine KeepsLit.intro rfl ?_ ?_ ?_)
    | (with_reducible refine Keeps.ite ?_ ?_)
    | split

theorem Keeps.accepted_keeps {gs : List Group} (hg : [.reg, .cal] ⊆ gs) {o0 s : State} (h0 : Keeps gs o0 s) (r : RegionNo) (c : CalSet) : Keeps gs o0 (State.accepted s r c) := by
  unfold State.accepted
  repeat' first
    | with_reducible assumption
    | with_reducible exact List.Subset.trans (by decide) hg
    | with_reducible exact Regular.keep rfl
    | (intro g hgn; cases g <;> first | exact (Keeps.out hg (by decide) hgn).elim | with_reducible rfl)
    | (extract_lets +onlyGivenNames s1; refine Keeps.have_ (gs := gs) (o := o0) (t := s1) ?_ (fun h => ?_); (on_goal 1 => subst s1); (on_goal 2 => try clear_value s1))
    | (extract_lets +onlyGivenNames n1; first | (have p : Sys := n1; clear p; subst n1) | (have p : Et := n1; clear p; subst n1) | (have p : Hm := n1; clear p; subst n1) | (have p : Opt := n1; clear p; subst n1) | (have p : Xg := n1; clear p; subst n1) | (have p : Sns := n1; clear p; subst n1) | (have p : Ev := n1; clear p; subst n1) | clear_value n1)
    | (with_reducible refine Keeps.foldl (fun t x h => ?_) ?_)
    | with_reducible apply Keeps.modRgn_keeps
    | with_reducible apply Keeps.putSetFor_keeps
    | with_reducible apply Keeps.suspectSync_keeps
    | with_reducible apply Keeps.workingSet_keeps
    | (simp -zeta only [Keeps.mark]; with_reducible refine KeepsLit.intro rfl ?_ ?_ ?_)
    | split

theorem Keeps.failTwin_keeps {gs : List Group} (hg : [.mbx, .reg, .cal] ⊆ gs) {o0 s : State} (h0 : Keeps gs o0 s) (r : RegionNo) : Keeps gs o0 (State.failTwin s r) := by
  unfold State.failTwin
  repeat' first
    | with_reducible assumption
    | with_reducible exact List.Subset.trans (by decide) hg
    | with_reducible exact Regular.keep rfl
    | (intro g hgn; cases g <;> first | exact (Keeps.out hg (by decide) hgn).elim | with_reducible rfl)
    | (extract_lets +onlyGivenNames s1; refine Keeps.have_ (gs := gs) (o := o0) (t := s1) ?_ (fun h => ?_); (on_goal 1 => subst s1); (on_goal 2 => try clear_value s1))
    | (extract_lets +onlyGivenNames n1; first | (have p : Sys := n1; clear p; subst n1) | (have p : Et := n1; clear p; subst n1) | (have p : Hm := n1; clear p; subst n1) | (have p : Opt := n1; clear p; subst n1) | (have p : Xg := n1; clear p; subst n1) | (have p : Sns := n1; clear p; subst n1) | (have p : Ev := n1; clear p; subst n1) | clear_value n1)
    | (with_reducible refine Keeps.foldl (fun t x h => ?_) ?_)
    | with_reducible apply Keeps.calGapOn_keeps
    | with_reducible apply Keeps.calLeave_keeps
    | with_reducible apply Keeps.modRgn_keeps
    | (simp -zeta only [Keeps.mark]; with_reducible refine KeepsLit.intro rfl ?_ ?_ ?_)
    | (with_reducible refine Keeps.ite ?_ ?_)
    | split

theorem Keeps.failOsc_keeps {gs : List Group} (hg : [.mbx, .reg, .et, .ls, .xg, .cal, .ev] ⊆ gs) {o0 s : State} (h0 : Keeps gs o0 s) (r : RegionNo) (oscB : Bool) (t : SelfTest) : Keeps gs o0 (State.failOsc s r oscB t) := by
  unfold State.failOsc
  repeat' first
    | with_reducible assumption
    | with_reducible exact List.Subset.trans (by decide) hg
    | with_reducible exact Regular.keep rfl
    | (intro g hgn; cases g <;> first | exact (Keeps.out hg (by decide) hgn).elim | with_reducible rfl)
    | (extract_lets +onlyGivenNames s1; refine Keeps.have_ (gs := gs) (o := o0) (t := s1) ?_ (fun h => ?_); (on_goal 1 => subst s1); (on_goal 2 => try clear_value s1))
    | (extract_lets +onlyGivenNames n1; first | (have p : Sys := n1; clear p; subst n1) | (have p : Et := n1; clear p; subst n1) | (have p : Hm := n1; clear p; subst n1) | (have p : Opt := n1; clear p; subst n1) | (have p : Xg := n1; clear p; subst n1) | (have p : Sns := n1; clear p; subst n1) | (have p : Ev := n1; clear p; subst n1) | clear_value n1)
    | (with_reducible refine Keeps.foldl (fun t x h => ?_) ?_)
    | with_reducible apply Keeps.failTwin_keeps
    | with_reducible apply Keeps.modRgn_keeps
    | with_reducible apply Keeps.openStop_keeps
    | with_reducible apply Keeps.raise_keeps
    | with_reducible apply Keeps.regionDie_keeps
    | (simp -zeta only [Keeps.mark]; with_reducible refine KeepsLit.intro rfl ?_ ?_ ?_)
    | (with_reducible refine Keeps.ite ?_ ?_)
    | split

theorem Keeps.suspectEpisode_keeps {gs : List Group} (hg : [.mbx, .reg, .cal, .ev] ⊆ gs) {o0 s : State} (h0 : Keeps gs o0 s) (r : RegionNo) (oscB : Bool) : Keeps gs o0 (State.suspectEpisode s r oscB) := by
  unfold State.suspectEpisode
  repeat' first
    | with_reducible assumption
    | with_reducible exact List.Subset.trans (by decide) hg
    | with_reducible exact Regular.keep rfl
    | (intro g hgn; cases g <;> first | exact (Keeps.out hg (by decide) hgn).elim | with_reducible rfl)
    | (extract_lets +onlyGivenNames s1; refine Keeps.have_ (gs := gs) (o := o0) (t := s1) ?_ (fun h => ?_); (on_goal 1 => subst s1); (on_goal 2 => try clear_value s1))
    | (extract_lets +onlyGivenNames n1; first | (have p : Sys := n1; clear p; subst n1) | (have p : Et := n1; clear p; subst n1) | (have p : Hm := n1; clear p; subst n1) | (have p : Opt := n1; clear p; subst n1) | (have p : Xg := n1; clear p; subst n1) | (have p : Sns := n1; clear p; subst n1) | (have p : Ev := n1; clear p; subst n1) | clear_value n1)
    | (with_reducible refine Keeps.foldl (fun t x h => ?_) ?_)
    | with_reducible apply Keeps.failTwin_keeps
    | with_reducible apply Keeps.modRgn_keeps
    | with_reducible apply Keeps.putSetFor_keeps
    | with_reducible apply Keeps.raise_keeps
    | with_reducible apply Keeps.suspectSync_keeps
    | (simp -zeta only [Keeps.mark]; with_reducible refine KeepsLit.intro rfl ?_ ?_ ?_)
    | (with_reducible refine Keeps.ite ?_ ?_)
    | split

theorem Keeps.voids_keeps {gs : List Group} (hg : [.cal] ⊆ gs) {o0 s : State} (h0 : Keeps gs o0 s) (n : Nat) : Keeps gs o0 (State.voids s n) := by
  unfold State.voids
  repeat' first
    | with_reducible assumption
    | with_reducible exact List.Subset.trans (by decide) hg
    | with_reducible exact Regular.keep rfl
    | (intro g hgn; cases g <;> first | exact (Keeps.out hg (by decide) hgn).elim | with_reducible rfl)
    | (extract_lets +onlyGivenNames s1; refine Keeps.have_ (gs := gs) (o := o0) (t := s1) ?_ (fun h => ?_); (on_goal 1 => subst s1); (on_goal 2 => try clear_value s1))
    | (extract_lets +onlyGivenNames n1; first | (have p : Sys := n1; clear p; subst n1) | (have p : Et := n1; clear p; subst n1) | (have p : Hm := n1; clear p; subst n1) | (have p : Opt := n1; clear p; subst n1) | (have p : Xg := n1; clear p; subst n1) | (have p : Sns := n1; clear p; subst n1) | (have p : Ev := n1; clear p; subst n1) | clear_value n1)
    | (with_reducible refine Keeps.foldl (fun t x h => ?_) ?_)
    | (simp -zeta only [Keeps.mark]; with_reducible refine KeepsLit.intro rfl ?_ ?_ ?_)
    | split

theorem Keeps.voidRun_keeps {gs : List Group} (hg : [.mbx, .reg, .cal, .ev] ⊆ gs) {o0 s : State} (h0 : Keeps gs o0 s) (r : RegionNo) (oscB : Bool) : Keeps gs o0 (State.voidRun s r oscB) := by
  unfold State.voidRun
  repeat' first
    | with_reducible assumption
    | with_reducible exact List.Subset.trans (by decide) hg
    | with_reducible exact Regular.keep rfl
    | (intro g hgn; cases g <;> first | exact (Keeps.out hg (by decide) hgn).elim | with_reducible rfl)
    | (extract_lets +onlyGivenNames s1; refine Keeps.have_ (gs := gs) (o := o0) (t := s1) ?_ (fun h => ?_); (on_goal 1 => subst s1); (on_goal 2 => try clear_value s1))
    | (extract_lets +onlyGivenNames n1; first | (have p : Sys := n1; clear p; subst n1) | (have p : Et := n1; clear p; subst n1) | (have p : Hm := n1; clear p; subst n1) | (have p : Opt := n1; clear p; subst n1) | (have p : Xg := n1; clear p; subst n1) | (have p : Sns := n1; clear p; subst n1) | (have p : Ev := n1; clear p; subst n1) | clear_value n1)
    | (with_reducible refine Keeps.foldl (fun t x h => ?_) ?_)
    | with_reducible apply Keeps.calLeave_keeps
    | with_reducible apply Keeps.modRgn_keeps
    | with_reducible apply Keeps.raise_keeps
    | with_reducible apply Keeps.voids_keeps
    | (simp -zeta only [Keeps.mark]; with_reducible refine KeepsLit.intro rfl ?_ ?_ ?_)
    | (with_reducible refine Keeps.ite ?_ ?_)
    | split

theorem Keeps.disagreed_keeps {gs : List Group} (hg : [.mbx, .reg, .cal, .ev] ⊆ gs) {o0 s : State} (h0 : Keeps gs o0 s) (r : RegionNo) (oscB : Bool) : Keeps gs o0 (State.disagreed s r oscB).1 := by
  unfold State.disagreed
  repeat' first
    | with_reducible assumption
    | with_reducible exact List.Subset.trans (by decide) hg
    | with_reducible exact Regular.keep rfl
    | (intro g hgn; cases g <;> first | exact (Keeps.out hg (by decide) hgn).elim | with_reducible rfl)
    | (extract_lets +onlyGivenNames s1; refine Keeps.have_ (gs := gs) (o := o0) (t := s1) ?_ (fun h => ?_); (on_goal 1 => subst s1); (on_goal 2 => try clear_value s1))
    | (extract_lets +onlyGivenNames n1; first | (have p : Sys := n1; clear p; subst n1) | (have p : Et := n1; clear p; subst n1) | (have p : Hm := n1; clear p; subst n1) | (have p : Opt := n1; clear p; subst n1) | (have p : Xg := n1; clear p; subst n1) | (have p : Sns := n1; clear p; subst n1) | (have p : Ev := n1; clear p; subst n1) | clear_value n1)
    | (with_reducible refine Keeps.foldl (fun t x h => ?_) ?_)
    | (with_reducible refine Keeps.foldl2 (fun t x h => ?_) ?_)
    | (with_reducible refine Keeps.foldl1 (fun t x h => ?_) ?_)
    | (dsimp -zeta only)
    | with_reducible apply Keeps.modRgn_keeps
    | with_reducible apply Keeps.suspectEpisode_keeps
    | (simp -zeta only [Keeps.mark]; with_reducible refine KeepsLit.intro rfl ?_ ?_ ?_)
    | (with_reducible refine Keeps.ite ?_ ?_)
    | split

theorem Keeps.calComplete_keeps {gs : List Group} (hg : [.mbx, .reg, .cal] ⊆ gs) {o0 s : State} (h0 : Keeps gs o0 s) (r : RegionNo) (twin : Bool) : Keeps gs o0 (State.calComplete s r twin) := by
  unfold State.calComplete
  repeat' first
    | with_reducible assumption
    | with_reducible exact List.Subset.trans (by decide) hg
    | with_reducible exact Regular.keep rfl
    | (intro g hgn; cases g <;> first | exact (Keeps.out hg (by decide) hgn).elim | with_reducible rfl)
    | (extract_lets +onlyGivenNames s1; refine Keeps.have_ (gs := gs) (o := o0) (t := s1) ?_ (fun h => ?_); (on_goal 1 => subst s1); (on_goal 2 => try clear_value s1))
    | (extract_lets +onlyGivenNames n1; first | (have p : Sys := n1; clear p; subst n1) | (have p : Et := n1; clear p; subst n1) | (have p : Hm := n1; clear p; subst n1) | (have p : Opt := n1; clear p; subst n1) | (have p : Xg := n1; clear p; subst n1) | (have p : Sns := n1; clear p; subst n1) | (have p : Ev := n1; clear p; subst n1) | clear_value n1)
    | (with_reducible refine Keeps.foldl (fun t x h => ?_) ?_)
    | with_reducible apply Keeps.calLeave_keeps
    | with_reducible apply Keeps.modRgn_keeps
    | (simp -zeta only [Keeps.mark]; with_reducible refine KeepsLit.intro rfl ?_ ?_ ?_)
    | (with_reducible refine Keeps.ite ?_ ?_)
    | split

theorem Keeps.twinBack_keeps {gs : List Group} (hg : [.reg] ⊆ gs) {o0 s : State} (h0 : Keeps gs o0 s) (r : RegionNo) : Keeps gs o0 (State.twinBack s r) := by
  unfold State.twinBack
  repeat' first
    | with_reducible assumption
    | with_reducible exact List.Subset.trans (by decide) hg
    | with_reducible exact Regular.keep rfl
    | (intro g hgn; cases g <;> first | exact (Keeps.out hg (by decide) hgn).elim | with_reducible rfl)
    | (extract_lets +onlyGivenNames s1; refine Keeps.have_ (gs := gs) (o := o0) (t := s1) ?_ (fun h => ?_); (on_goal 1 => subst s1); (on_goal 2 => try clear_value s1))
    | (extract_lets +onlyGivenNames n1; first | (have p : Sys := n1; clear p; subst n1) | (have p : Et := n1; clear p; subst n1) | (have p : Hm := n1; clear p; subst n1) | (have p : Opt := n1; clear p; subst n1) | (have p : Xg := n1; clear p; subst n1) | (have p : Sns := n1; clear p; subst n1) | (have p : Ev := n1; clear p; subst n1) | clear_value n1)
    | (with_reducible refine Keeps.foldl (fun t x h => ?_) ?_)
    | with_reducible apply Keeps.modRgn_keeps
    | (simp -zeta only [Keeps.mark]; with_reducible refine KeepsLit.intro rfl ?_ ?_ ?_)
    | split

theorem Keeps.calStep_keeps {gs : List Group} (hg : [.mbx, .reg, .cal] ⊆ gs) {o0 s : State} (h0 : Keeps gs o0 s) (r : RegionNo) (twin : Bool) : Keeps gs o0 (State.calStep s r twin) := by
  unfold State.calStep
  repeat' first
    | with_reducible assumption
    | with_reducible exact List.Subset.trans (by decide) hg
    | with_reducible exact Regular.keep rfl
    | (intro g hgn; cases g <;> first | exact (Keeps.out hg (by decide) hgn).elim | with_reducible rfl)
    | (extract_lets +onlyGivenNames s1; refine Keeps.have_ (gs := gs) (o := o0) (t := s1) ?_ (fun h => ?_); (on_goal 1 => subst s1); (on_goal 2 => try clear_value s1))
    | (extract_lets +onlyGivenNames n1; first | (have p : Sys := n1; clear p; subst n1) | (have p : Et := n1; clear p; subst n1) | (have p : Hm := n1; clear p; subst n1) | (have p : Opt := n1; clear p; subst n1) | (have p : Xg := n1; clear p; subst n1) | (have p : Sns := n1; clear p; subst n1) | (have p : Ev := n1; clear p; subst n1) | clear_value n1)
    | (with_reducible refine Keeps.foldl (fun t x h => ?_) ?_)
    | with_reducible apply Keeps.calComplete_keeps
    | with_reducible apply Keeps.modRgn_keeps
    | with_reducible apply Keeps.twinBack_keeps
    | (simp -zeta only [Keeps.mark]; with_reducible refine KeepsLit.intro rfl ?_ ?_ ?_)
    | (with_reducible refine Keeps.ite ?_ ?_)
    | split

theorem Keeps.twinRun_keeps {gs : List Group} (hg : [.mbx, .reg, .et, .ls, .xg, .cal, .ev] ⊆ gs) {o0 s : State} (h0 : Keeps gs o0 s) (r : RegionNo) (oscB : Bool) (x : RunResult) : Keeps gs o0 (State.twinRun s r oscB x) := by
  unfold State.twinRun
  repeat' first
    | with_reducible assumption
    | with_reducible exact List.Subset.trans (by decide) hg
    | with_reducible exact Regular.keep rfl
    | (intro g hgn; cases g <;> first | exact (Keeps.out hg (by decide) hgn).elim | with_reducible rfl)
    | (extract_lets +onlyGivenNames s1; refine Keeps.have_ (gs := gs) (o := o0) (t := s1) ?_ (fun h => ?_); (on_goal 1 => subst s1); (on_goal 2 => try clear_value s1))
    | (extract_lets +onlyGivenNames n1; first | (have p : Sys := n1; clear p; subst n1) | (have p : Et := n1; clear p; subst n1) | (have p : Hm := n1; clear p; subst n1) | (have p : Opt := n1; clear p; subst n1) | (have p : Xg := n1; clear p; subst n1) | (have p : Sns := n1; clear p; subst n1) | (have p : Ev := n1; clear p; subst n1) | clear_value n1)
    | (with_reducible refine Keeps.foldl (fun t x h => ?_) ?_)
    | with_reducible apply Keeps.accepted_keeps
    | with_reducible apply Keeps.calLeave_keeps
    | with_reducible apply Keeps.calStep_keeps
    | with_reducible apply Keeps.disagreed_keeps
    | with_reducible apply Keeps.failOsc_keeps
    | with_reducible apply Keeps.modRgn_keeps
    | with_reducible apply Keeps.voidRun_keeps
    | with_reducible apply Keeps.voids_keeps
    | (simp -zeta only [Keeps.mark]; with_reducible refine KeepsLit.intro rfl ?_ ?_ ?_)
    | (with_reducible refine KeepsOpt.getD ?_ ?_)
    | (with_reducible refine Keeps.optEq (by assumption) ?_)
    | (with_reducible refine Keeps.pairEq1 (by assumption) ?_)
    | (with_reducible refine Keeps.pairEq2 (by assumption) ?_)
    | (with_reducible refine Keeps.ite ?_ ?_)
    | split

theorem Keeps.activeRun_keeps {gs : List Group} (hg : [.mbx, .reg, .et, .ls, .xg, .cal, .ev] ⊆ gs) {o0 s : State} (h0 : Keeps gs o0 s) (r : RegionNo) (oscB : Bool) (x : ReducedRun) : Keeps gs o0 (State.activeRun s r oscB x) := by
  unfold State.activeRun
  repeat' first
    | with_reducible assumption
    | with_reducible exact List.Subset.trans (by decide) hg
    | with_reducible exact Regular.keep rfl
    | (intro g hgn; cases g <;> first | exact (Keeps.out hg (by decide) hgn).elim | with_reducible rfl)
    | (extract_lets +onlyGivenNames s1; refine Keeps.have_ (gs := gs) (o := o0) (t := s1) ?_ (fun h => ?_); (on_goal 1 => subst s1); (on_goal 2 => try clear_value s1))
    | (extract_lets +onlyGivenNames n1; first | (have p : Sys := n1; clear p; subst n1) | (have p : Et := n1; clear p; subst n1) | (have p : Hm := n1; clear p; subst n1) | (have p : Opt := n1; clear p; subst n1) | (have p : Xg := n1; clear p; subst n1) | (have p : Sns := n1; clear p; subst n1) | (have p : Ev := n1; clear p; subst n1) | clear_value n1)
    | (with_reducible refine Keeps.foldl (fun t x h => ?_) ?_)
    | with_reducible apply Keeps.accepted_keeps
    | with_reducible apply Keeps.calLeave_keeps
    | with_reducible apply Keeps.calStep_keeps
    | with_reducible apply Keeps.disagreed_keeps
    | with_reducible apply Keeps.failOsc_keeps
    | with_reducible apply Keeps.modRgn_keeps
    | with_reducible apply Keeps.voidRun_keeps
    | (simp -zeta only [Keeps.mark]; with_reducible refine KeepsLit.intro rfl ?_ ?_ ?_)
    | (with_reducible refine KeepsOpt.getD ?_ ?_)
    | (with_reducible refine Keeps.optEq (by assumption) ?_)
    | (with_reducible refine Keeps.pairEq1 (by assumption) ?_)
    | (with_reducible refine Keeps.pairEq2 (by assumption) ?_)
    | (with_reducible refine Keeps.ite ?_ ?_)
    | split

theorem Keeps.bootSettled_keeps {gs : List Group} (hg : [.reg, .cal] ⊆ gs) {o0 s : State} (h0 : Keeps gs o0 s) (r : RegionNo) (oscB : Bool) : Keeps gs o0 (State.bootSettled s r oscB) := by
  unfold State.bootSettled
  repeat' first
    | with_reducible assumption
    | with_reducible exact List.Subset.trans (by decide) hg
    | with_reducible exact Regular.keep rfl
    | (intro g hgn; cases g <;> first | exact (Keeps.out hg (by decide) hgn).elim | with_reducible rfl)
    | (extract_lets +onlyGivenNames s1; refine Keeps.have_ (gs := gs) (o := o0) (t := s1) ?_ (fun h => ?_); (on_goal 1 => subst s1); (on_goal 2 => try clear_value s1))
    | (extract_lets +onlyGivenNames n1; first | (have p : Sys := n1; clear p; subst n1) | (have p : Et := n1; clear p; subst n1) | (have p : Hm := n1; clear p; subst n1) | (have p : Opt := n1; clear p; subst n1) | (have p : Xg := n1; clear p; subst n1) | (have p : Sns := n1; clear p; subst n1) | (have p : Ev := n1; clear p; subst n1) | clear_value n1)
    | (with_reducible refine Keeps.foldl (fun t x h => ?_) ?_)
    | with_reducible apply Keeps.deliverSet_keeps
    | with_reducible apply Keeps.modRgn_keeps
    | with_reducible apply Keeps.putRegionSet_keeps
    | (simp -zeta only [Keeps.mark]; with_reducible refine KeepsLit.intro rfl ?_ ?_ ?_)
    | (with_reducible refine Keeps.ite ?_ ?_)
    | split

theorem Keeps.bootVref_keeps {gs : List Group} (hg : [.mbx, .reg, .cal, .ev] ⊆ gs) {o0 s : State} (h0 : Keeps gs o0 s) (r : RegionNo) (oscB : Bool) (supply : Nat) : Keeps gs o0 (State.bootVref s r oscB supply) := by
  unfold State.bootVref
  repeat' first
    | with_reducible assumption
    | with_reducible exact List.Subset.trans (by decide) hg
    | with_reducible exact Regular.keep rfl
    | (intro g hgn; cases g <;> first | exact (Keeps.out hg (by decide) hgn).elim | with_reducible rfl)
    | (extract_lets +onlyGivenNames s1; refine Keeps.have_ (gs := gs) (o := o0) (t := s1) ?_ (fun h => ?_); (on_goal 1 => subst s1); (on_goal 2 => try clear_value s1))
    | (extract_lets +onlyGivenNames n1; first | (have p : Sys := n1; clear p; subst n1) | (have p : Et := n1; clear p; subst n1) | (have p : Hm := n1; clear p; subst n1) | (have p : Opt := n1; clear p; subst n1) | (have p : Xg := n1; clear p; subst n1) | (have p : Sns := n1; clear p; subst n1) | (have p : Ev := n1; clear p; subst n1) | clear_value n1)
    | (with_reducible refine Keeps.foldl (fun t x h => ?_) ?_)
    | with_reducible apply Keeps.modRgn_keeps
    | with_reducible apply Keeps.putRegionSet_keeps
    | with_reducible apply Keeps.suspectEpisode_keeps
    | (simp -zeta only [Keeps.mark]; with_reducible refine KeepsLit.intro rfl ?_ ?_ ?_)
    | (with_reducible refine Keeps.ite ?_ ?_)
    | split

theorem Keeps.bootFail_keeps {gs : List Group} (hg : [.reg, .cal] ⊆ gs) {o0 s : State} (h0 : Keeps gs o0 s) (r : RegionNo) (oscB : Bool) : Keeps gs o0 (State.bootFail s r oscB) := by
  unfold State.bootFail
  repeat' first
    | with_reducible assumption
    | with_reducible exact List.Subset.trans (by decide) hg
    | with_reducible exact Regular.keep rfl
    | (intro g hgn; cases g <;> first | exact (Keeps.out hg (by decide) hgn).elim | with_reducible rfl)
    | (extract_lets +onlyGivenNames s1; refine Keeps.have_ (gs := gs) (o := o0) (t := s1) ?_ (fun h => ?_); (on_goal 1 => subst s1); (on_goal 2 => try clear_value s1))
    | (extract_lets +onlyGivenNames n1; first | (have p : Sys := n1; clear p; subst n1) | (have p : Et := n1; clear p; subst n1) | (have p : Hm := n1; clear p; subst n1) | (have p : Opt := n1; clear p; subst n1) | (have p : Xg := n1; clear p; subst n1) | (have p : Sns := n1; clear p; subst n1) | (have p : Ev := n1; clear p; subst n1) | clear_value n1)
    | (with_reducible refine Keeps.foldl (fun t x h => ?_) ?_)
    | with_reducible apply Keeps.bootSettled_keeps
    | with_reducible apply Keeps.modRgn_keeps
    | (simp -zeta only [Keeps.mark]; with_reducible refine KeepsLit.intro rfl ?_ ?_ ?_)
    | (with_reducible refine Keeps.ite ?_ ?_)
    | split

theorem Keeps.bootRun_keeps {gs : List Group} (hg : [.mbx, .reg, .cal, .ev] ⊆ gs) {o0 s : State} (h0 : Keeps gs o0 s) (r : RegionNo) (oscB : Bool) (x : RunResult) : Keeps gs o0 (State.bootRun s r oscB x) := by
  unfold State.bootRun
  repeat' first
    | with_reducible assumption
    | with_reducible exact List.Subset.trans (by decide) hg
    | with_reducible exact Regular.keep rfl
    | (intro g hgn; cases g <;> first | exact (Keeps.out hg (by decide) hgn).elim | with_reducible rfl)
    | (extract_lets +onlyGivenNames s1; refine Keeps.have_ (gs := gs) (o := o0) (t := s1) ?_ (fun h => ?_); (on_goal 1 => subst s1); (on_goal 2 => try clear_value s1))
    | (extract_lets +onlyGivenNames n1; first | (have p : Sys := n1; clear p; subst n1) | (have p : Et := n1; clear p; subst n1) | (have p : Hm := n1; clear p; subst n1) | (have p : Opt := n1; clear p; subst n1) | (have p : Xg := n1; clear p; subst n1) | (have p : Sns := n1; clear p; subst n1) | (have p : Ev := n1; clear p; subst n1) | clear_value n1)
    | (with_reducible refine Keeps.foldl (fun t x h => ?_) ?_)
    | with_reducible apply Keeps.bootFail_keeps
    | with_reducible apply Keeps.bootSettled_keeps
    | with_reducible apply Keeps.bootVref_keeps
    | with_reducible apply Keeps.modRgn_keeps
    | with_reducible apply Keeps.putRegionSet_keeps
    | with_reducible apply Keeps.raise_keeps
    | with_reducible apply Keeps.suspectEpisode_keeps
    | with_reducible apply Keeps.suspectSync_keeps
    | with_reducible apply Keeps.voids_keeps
    | (simp -zeta only [Keeps.mark]; with_reducible refine KeepsLit.intro rfl ?_ ?_ ?_)
    | (with_reducible refine Keeps.ite ?_ ?_)
    | split

theorem Keeps.execCalRunComplete_keeps {gs : List Group} (hg : [.mbx, .reg, .et, .ls, .xg, .cal, .ev] ⊆ gs) {o0 s : State} (h0 : Keeps gs o0 s) (r : RegionNo) (oscB : Bool) (res : CalResult) : KeepsOut gs o0 (execCalRunComplete r oscB res s) := by
  unfold execCalRunComplete
  repeat' first
    | with_reducible assumption
    | with_reducible exact List.Subset.trans (by decide) hg
    | with_reducible exact Regular.keep rfl
    | (intro g hgn; cases g <;> first | exact (Keeps.out hg (by decide) hgn).elim | with_reducible rfl)
    | (extract_lets +onlyGivenNames s1; refine Keeps.have_ (gs := gs) (o := o0) (t := s1) ?_ (fun h => ?_); (on_goal 1 => subst s1); (on_goal 2 => try clear_value s1))
    | (extract_lets +onlyGivenNames n1; first | (have p : Sys := n1; clear p; subst n1) | (have p : Et := n1; clear p; subst n1) | (have p : Hm := n1; clear p; subst n1) | (have p : Opt := n1; clear p; subst n1) | (have p : Xg := n1; clear p; subst n1) | (have p : Sns := n1; clear p; subst n1) | (have p : Ev := n1; clear p; subst n1) | clear_value n1)
    | (with_reducible refine Keeps.foldl (fun t x h => ?_) ?_)
    | (with_reducible refine KeepsOut.next ?_)
    | with_reducible apply Keeps.activeRun_keeps
    | with_reducible apply Keeps.bootRun_keeps
    | with_reducible apply Keeps.twinRun_keeps
    | (simp -zeta only [Keeps.mark]; with_reducible refine KeepsLit.intro rfl ?_ ?_ ?_)
    | (with_reducible refine Keeps.ite ?_ ?_)
    | split

theorem Keeps.dueCheck_keeps {gs : List Group} (hg : [.reg, .cal] ⊆ gs) {o0 s : State} (h0 : Keeps gs o0 s) (r : RegionNo) : Keeps gs o0 (State.dueCheck s r) := by
  unfold State.dueCheck
  repeat' first
    | with_reducible assumption
    | with_reducible exact List.Subset.trans (by decide) hg
    | with_reducible exact Regular.keep rfl
    | (intro g hgn; cases g <;> first | exact (Keeps.out hg (by decide) hgn).elim | with_reducible rfl)
    | (extract_lets +onlyGivenNames s1; refine Keeps.have_ (gs := gs) (o := o0) (t := s1) ?_ (fun h => ?_); (on_goal 1 => subst s1); (on_goal 2 => try clear_value s1))
    | (extract_lets +onlyGivenNames n1; first | (have p : Sys := n1; clear p; subst n1) | (have p : Et := n1; clear p; subst n1) | (have p : Hm := n1; clear p; subst n1) | (have p : Opt := n1; clear p; subst n1) | (have p : Xg := n1; clear p; subst n1) | (have p : Sns := n1; clear p; subst n1) | (have p : Ev := n1; clear p; subst n1) | clear_value n1)
    | (with_reducible refine Keeps.foldl (fun t x h => ?_) ?_)
    | with_reducible apply Keeps.calSync_keeps
    | with_reducible apply Keeps.modRgn_keeps
    | (simp -zeta only [Keeps.mark]; with_reducible refine KeepsLit.intro rfl ?_ ?_ ?_)
    | (with_reducible refine Keeps.ite ?_ ?_)
    | split

theorem Keeps.execCalDueCheck_keeps {gs : List Group} (hg : [.reg, .cal] ⊆ gs) {o0 s : State} (h0 : Keeps gs o0 s) : KeepsOut gs o0 (execCalDueCheck s) := by
  unfold execCalDueCheck
  repeat' first
    | with_reducible assumption
    | with_reducible exact List.Subset.trans (by decide) hg
    | with_reducible exact Regular.keep rfl
    | (intro g hgn; cases g <;> first | exact (Keeps.out hg (by decide) hgn).elim | with_reducible rfl)
    | (extract_lets +onlyGivenNames s1; refine Keeps.have_ (gs := gs) (o := o0) (t := s1) ?_ (fun h => ?_); (on_goal 1 => subst s1); (on_goal 2 => try clear_value s1))
    | (extract_lets +onlyGivenNames n1; first | (have p : Sys := n1; clear p; subst n1) | (have p : Et := n1; clear p; subst n1) | (have p : Hm := n1; clear p; subst n1) | (have p : Opt := n1; clear p; subst n1) | (have p : Xg := n1; clear p; subst n1) | (have p : Sns := n1; clear p; subst n1) | (have p : Ev := n1; clear p; subst n1) | clear_value n1)
    | (with_reducible refine Keeps.foldl (fun t x h => ?_) ?_)
    | (with_reducible refine KeepsOut.next ?_)
    | with_reducible apply Keeps.clearCal_keeps
    | with_reducible apply Keeps.dueCheck_keeps
    | with_reducible apply Keeps.workingSet_keeps
    | (simp -zeta only [Keeps.mark]; with_reducible refine KeepsLit.intro rfl ?_ ?_ ?_)
    | (with_reducible refine Keeps.ite ?_ ?_)
    | split

theorem Keeps.calStart_keeps {gs : List Group} (hg : [.reg, .cal] ⊆ gs) {o0 s : State} (h0 : Keeps gs o0 s) (r : RegionNo) (o : Option LongOp) (test : Bool) : Keeps gs o0 (State.calStart s r o test) := by
  unfold State.calStart
  repeat' first
    | with_reducible assumption
    | with_reducible exact List.Subset.trans (by decide) hg
    | with_reducible exact Regular.keep rfl
    | (intro g hgn; cases g <;> first | exact (Keeps.out hg (by decide) hgn).elim | with_reducible rfl)
    | (extract_lets +onlyGivenNames s1; refine Keeps.have_ (gs := gs) (o := o0) (t := s1) ?_ (fun h => ?_); (on_goal 1 => subst s1); (on_goal 2 => try clear_value s1))
    | (extract_lets +onlyGivenNames n1; first | (have p : Sys := n1; clear p; subst n1) | (have p : Et := n1; clear p; subst n1) | (have p : Hm := n1; clear p; subst n1) | (have p : Opt := n1; clear p; subst n1) | (have p : Xg := n1; clear p; subst n1) | (have p : Sns := n1; clear p; subst n1) | (have p : Ev := n1; clear p; subst n1) | clear_value n1)
    | (with_reducible refine Keeps.foldl (fun t x h => ?_) ?_)
    | with_reducible apply Keeps.calQueue_keeps
    | with_reducible apply Keeps.modRgn_keeps
    | (simp -zeta only [Keeps.mark]; with_reducible refine KeepsLit.intro rfl ?_ ?_ ?_)
    | (with_reducible refine Keeps.ite ?_ ?_)
    | split

theorem Keeps.execCalSlotGrant_keeps {gs : List Group} (hg : [.reg, .cal] ⊆ gs) {o0 s : State} (h0 : Keeps gs o0 s) : KeepsOut gs o0 (execCalSlotGrant s) := by
  unfold execCalSlotGrant
  repeat' first
    | with_reducible assumption
    | with_reducible exact List.Subset.trans (by decide) hg
    | with_reducible exact Regular.keep rfl
    | (intro g hgn; cases g <;> first | exact (Keeps.out hg (by decide) hgn).elim | with_reducible rfl)
    | (extract_lets +onlyGivenNames s1; refine Keeps.have_ (gs := gs) (o := o0) (t := s1) ?_ (fun h => ?_); (on_goal 1 => subst s1); (on_goal 2 => try clear_value s1))
    | (extract_lets +onlyGivenNames n1; first | (have p : Sys := n1; clear p; subst n1) | (have p : Et := n1; clear p; subst n1) | (have p : Hm := n1; clear p; subst n1) | (have p : Opt := n1; clear p; subst n1) | (have p : Xg := n1; clear p; subst n1) | (have p : Sns := n1; clear p; subst n1) | (have p : Ev := n1; clear p; subst n1) | clear_value n1)
    | (with_reducible refine Keeps.foldl (fun t x h => ?_) ?_)
    | (with_reducible refine KeepsOut.next ?_)
    | with_reducible apply Keeps.calStart_keeps
    | (simp -zeta only [Keeps.mark]; with_reducible refine KeepsLit.intro rfl ?_ ?_ ?_)
    | (with_reducible refine Keeps.ite ?_ ?_)
    | split

theorem Keeps.execSuspectHoldoffExpiry_keeps {gs : List Group} (hg : [.reg] ⊆ gs) {o0 s : State} (h0 : Keeps gs o0 s) (r : RegionNo) : KeepsOut gs o0 (execSuspectHoldoffExpiry r s) := by
  unfold execSuspectHoldoffExpiry
  repeat' first
    | with_reducible assumption
    | with_reducible exact List.Subset.trans (by decide) hg
    | with_reducible exact Regular.keep rfl
    | (intro g hgn; cases g <;> first | exact (Keeps.out hg (by decide) hgn).elim | with_reducible rfl)
    | (extract_lets +onlyGivenNames s1; refine Keeps.have_ (gs := gs) (o := o0) (t := s1) ?_ (fun h => ?_); (on_goal 1 => subst s1); (on_goal 2 => try clear_value s1))
    | (extract_lets +onlyGivenNames n1; first | (have p : Sys := n1; clear p; subst n1) | (have p : Et := n1; clear p; subst n1) | (have p : Hm := n1; clear p; subst n1) | (have p : Opt := n1; clear p; subst n1) | (have p : Xg := n1; clear p; subst n1) | (have p : Sns := n1; clear p; subst n1) | (have p : Ev := n1; clear p; subst n1) | clear_value n1)
    | (with_reducible refine Keeps.foldl (fun t x h => ?_) ?_)
    | (with_reducible refine KeepsOut.next ?_)
    | with_reducible apply Keeps.modRgn_keeps
    | (simp -zeta only [Keeps.mark]; with_reducible refine KeepsLit.intro rfl ?_ ?_ ?_)
    | (with_reducible refine Keeps.ite ?_ ?_)
    | split

theorem Keeps.execCalVoidRetryExpiry_keeps {gs : List Group} (hg : [.reg] ⊆ gs) {o0 s : State} (h0 : Keeps gs o0 s) (r : RegionNo) : KeepsOut gs o0 (execCalVoidRetryExpiry r s) := by
  unfold execCalVoidRetryExpiry
  repeat' first
    | with_reducible assumption
    | with_reducible exact List.Subset.trans (by decide) hg
    | with_reducible exact Regular.keep rfl
    | (intro g hgn; cases g <;> first | exact (Keeps.out hg (by decide) hgn).elim | with_reducible rfl)
    | (extract_lets +onlyGivenNames s1; refine Keeps.have_ (gs := gs) (o := o0) (t := s1) ?_ (fun h => ?_); (on_goal 1 => subst s1); (on_goal 2 => try clear_value s1))
    | (extract_lets +onlyGivenNames n1; first | (have p : Sys := n1; clear p; subst n1) | (have p : Et := n1; clear p; subst n1) | (have p : Hm := n1; clear p; subst n1) | (have p : Opt := n1; clear p; subst n1) | (have p : Xg := n1; clear p; subst n1) | (have p : Sns := n1; clear p; subst n1) | (have p : Ev := n1; clear p; subst n1) | clear_value n1)
    | (with_reducible refine Keeps.foldl (fun t x h => ?_) ?_)
    | (with_reducible refine KeepsOut.next ?_)
    | with_reducible apply Keeps.modRgn_keeps
    | (simp -zeta only [Keeps.mark]; with_reducible refine KeepsLit.intro rfl ?_ ?_ ?_)
    | (with_reducible refine Keeps.ite ?_ ?_)
    | split

theorem Keeps.execGapWindow_keeps {gs : List Group} (hg : [.reg] ⊆ gs) {o0 s : State} (h0 : Keeps gs o0 s) (d : Fin 256) : KeepsOut gs o0 (execGapWindow d s) := by
  unfold execGapWindow
  repeat' first
    | with_reducible assumption
    | with_reducible exact List.Subset.trans (by decide) hg
    | with_reducible exact Regular.keep rfl
    | (intro g hgn; cases g <;> first | exact (Keeps.out hg (by decide) hgn).elim | with_reducible rfl)
    | (extract_lets +onlyGivenNames s1; refine Keeps.have_ (gs := gs) (o := o0) (t := s1) ?_ (fun h => ?_); (on_goal 1 => subst s1); (on_goal 2 => try clear_value s1))
    | (extract_lets +onlyGivenNames n1; first | (have p : Sys := n1; clear p; subst n1) | (have p : Et := n1; clear p; subst n1) | (have p : Hm := n1; clear p; subst n1) | (have p : Opt := n1; clear p; subst n1) | (have p : Xg := n1; clear p; subst n1) | (have p : Sns := n1; clear p; subst n1) | (have p : Ev := n1; clear p; subst n1) | clear_value n1)
    | (with_reducible refine Keeps.foldl (fun t x h => ?_) ?_)
    | (with_reducible refine KeepsOut.next ?_)
    | with_reducible apply Keeps.modRgns_keeps
    | (simp -zeta only [Keeps.mark]; with_reducible refine KeepsLit.intro rfl ?_ ?_ ?_)
    | (with_reducible refine Keeps.ite ?_ ?_)
    | split

theorem Keeps.execCalGapTimeout_keeps {gs : List Group} (hg : [.mbx, .reg, .cal, .ev] ⊆ gs) {o0 s : State} (h0 : Keeps gs o0 s) (r : RegionNo) : KeepsOut gs o0 (execCalGapTimeout r s) := by
  unfold execCalGapTimeout
  repeat' first
    | with_reducible assumption
    | with_reducible exact List.Subset.trans (by decide) hg
    | with_reducible exact Regular.keep rfl
    | (intro g hgn; cases g <;> first | exact (Keeps.out hg (by decide) hgn).elim | with_reducible rfl)
    | (extract_lets +onlyGivenNames s1; refine Keeps.have_ (gs := gs) (o := o0) (t := s1) ?_ (fun h => ?_); (on_goal 1 => subst s1); (on_goal 2 => try clear_value s1))
    | (extract_lets +onlyGivenNames n1; first | (have p : Sys := n1; clear p; subst n1) | (have p : Et := n1; clear p; subst n1) | (have p : Hm := n1; clear p; subst n1) | (have p : Opt := n1; clear p; subst n1) | (have p : Xg := n1; clear p; subst n1) | (have p : Sns := n1; clear p; subst n1) | (have p : Ev := n1; clear p; subst n1) | clear_value n1)
    | (with_reducible refine Keeps.foldl (fun t x h => ?_) ?_)
    | (with_reducible refine KeepsOut.next ?_)
    | with_reducible apply Keeps.calLeave_keeps
    | with_reducible apply Keeps.raise_keeps
    | (simp -zeta only [Keeps.mark]; with_reducible refine KeepsLit.intro rfl ?_ ?_ ?_)
    | (with_reducible refine Keeps.ite ?_ ?_)
    | split

theorem Keeps.execSelftestDue_keeps {gs : List Group} (hg : [.reg, .cal] ⊆ gs) {o0 s : State} (h0 : Keeps gs o0 s) (r : RegionNo) : KeepsOut gs o0 (execSelftestDue r s) := by
  unfold execSelftestDue
  repeat' first
    | with_reducible assumption
    | with_reducible exact List.Subset.trans (by decide) hg
    | with_reducible exact Regular.keep rfl
    | (intro g hgn; cases g <;> first | exact (Keeps.out hg (by decide) hgn).elim | with_reducible rfl)
    | (extract_lets +onlyGivenNames s1; refine Keeps.have_ (gs := gs) (o := o0) (t := s1) ?_ (fun h => ?_); (on_goal 1 => subst s1); (on_goal 2 => try clear_value s1))
    | (extract_lets +onlyGivenNames n1; first | (have p : Sys := n1; clear p; subst n1) | (have p : Et := n1; clear p; subst n1) | (have p : Hm := n1; clear p; subst n1) | (have p : Opt := n1; clear p; subst n1) | (have p : Xg := n1; clear p; subst n1) | (have p : Sns := n1; clear p; subst n1) | (have p : Ev := n1; clear p; subst n1) | clear_value n1)
    | (with_reducible refine Keeps.foldl (fun t x h => ?_) ?_)
    | (with_reducible refine KeepsOut.next ?_)
    | with_reducible apply Keeps.calSync_keeps
    | with_reducible apply Keeps.modRgn_keeps
    | (simp -zeta only [Keeps.mark]; with_reducible refine KeepsLit.intro rfl ?_ ?_ ?_)
    | (with_reducible refine Keeps.ite ?_ ?_)
    | split

theorem Keeps.execSelftestComplete_keeps {gs : List Group} (hg : [.mbx, .reg, .et, .ls, .xg, .cal, .ev] ⊆ gs) {o0 s : State} (h0 : Keeps gs o0 s) (r : RegionNo) (oscB : Bool) (failed : Option SelfTest) (meas : Option TestMeas := none) : KeepsOut gs o0 (execSelftestComplete r oscB failed s meas) := by
  unfold execSelftestComplete
  repeat' first
    | with_reducible assumption
    | with_reducible exact List.Subset.trans (by decide) hg
    | with_reducible exact Regular.keep rfl
    | (intro g hgn; cases g <;> first | exact (Keeps.out hg (by decide) hgn).elim | with_reducible rfl)
    | (extract_lets +onlyGivenNames s1; refine Keeps.have_ (gs := gs) (o := o0) (t := s1) ?_ (fun h => ?_); (on_goal 1 => subst s1); (on_goal 2 => try clear_value s1))
    | (extract_lets +onlyGivenNames n1; first | (have p : Sys := n1; clear p; subst n1) | (have p : Et := n1; clear p; subst n1) | (have p : Hm := n1; clear p; subst n1) | (have p : Opt := n1; clear p; subst n1) | (have p : Xg := n1; clear p; subst n1) | (have p : Sns := n1; clear p; subst n1) | (have p : Ev := n1; clear p; subst n1) | clear_value n1)
    | (with_reducible refine Keeps.foldl (fun t x h => ?_) ?_)
    | (with_reducible refine KeepsOut.next ?_)
    | with_reducible apply Keeps.calLeave_keeps
    | with_reducible apply Keeps.failOsc_keeps
    | with_reducible apply Keeps.modRgn_keeps
    | with_reducible apply Keeps.twinBack_keeps
    | (simp -zeta only [Keeps.mark]; with_reducible refine KeepsLit.intro rfl ?_ ?_ ?_)
    | (with_reducible refine Keeps.ite ?_ ?_)
    | split

theorem Keeps.calRequest_keeps {gs : List Group} (hg : [.mbx, .reg, .cal] ⊆ gs) {o0 s : State} (h0 : Keeps gs o0 s) (q : Req) (kind : OpKind) (twinOnly : Bool) (osc : Nat) : KeepsRes gs o0 (State.calRequest s q kind twinOnly osc) := by
  unfold State.calRequest
  repeat' first
    | with_reducible assumption
    | with_reducible exact List.Subset.trans (by decide) hg
    | with_reducible exact Regular.keep rfl
    | (intro g hgn; cases g <;> first | exact (Keeps.out hg (by decide) hgn).elim | with_reducible rfl)
    | (extract_lets +onlyGivenNames s1; refine KeepsRes.have_ (gs := gs) (o := o0) (r := s1) ?_ (fun h => ?_); (on_goal 1 => subst s1); (on_goal 2 => try clear_value s1))
    | (extract_lets +onlyGivenNames s1; refine Keeps.have_ (gs := gs) (o := o0) (t := s1) ?_ (fun h => ?_); (on_goal 1 => subst s1); (on_goal 2 => try clear_value s1))
    | (extract_lets +onlyGivenNames n1; first | (have p : Sys := n1; clear p; subst n1) | (have p : Et := n1; clear p; subst n1) | (have p : Hm := n1; clear p; subst n1) | (have p : Opt := n1; clear p; subst n1) | (have p : Xg := n1; clear p; subst n1) | (have p : Sns := n1; clear p; subst n1) | (have p : Ev := n1; clear p; subst n1) | clear_value n1)
    | (with_reducible refine Keeps.foldl (fun t x h => ?_) ?_)
    | (with_reducible refine KeepsRes.done ?_)
    | (with_reducible refine KeepsRes.wait ?_)
    | (with_reducible refine KeepsRes.refuse ?_)
    | with_reducible apply Keeps.calSync_keeps
    | (with_reducible refine Keeps.startOp_keeps ?_ ?_ _ _ _ (fun i t h => ?_))
    | with_reducible apply Keeps.refuse_keeps
    | (simp -zeta only [Keeps.mark]; with_reducible refine KeepsLit.intro rfl ?_ ?_ ?_)
    | (with_reducible refine Keeps.ite ?_ ?_)
    | split

theorem Keeps.cmdCalRun_keeps {gs : List Group} (hg : [.mbx, .reg, .cal] ⊆ gs) {o0 s : State} (h0 : Keeps gs o0 s) (q : Req) : KeepsRes gs o0 (cmdCalRun q s) := by
  unfold cmdCalRun
  repeat' first
    | with_reducible assumption
    | with_reducible exact List.Subset.trans (by decide) hg
    | with_reducible exact Regular.keep rfl
    | (intro g hgn; cases g <;> first | exact (Keeps.out hg (by decide) hgn).elim | with_reducible rfl)
    | (extract_lets +onlyGivenNames s1; refine KeepsRes.have_ (gs := gs) (o := o0) (r := s1) ?_ (fun h => ?_); (on_goal 1 => subst s1); (on_goal 2 => try clear_value s1))
    | (extract_lets +onlyGivenNames s1; refine Keeps.have_ (gs := gs) (o := o0) (t := s1) ?_ (fun h => ?_); (on_goal 1 => subst s1); (on_goal 2 => try clear_value s1))
    | (extract_lets +onlyGivenNames n1; first | (have p : Sys := n1; clear p; subst n1) | (have p : Et := n1; clear p; subst n1) | (have p : Hm := n1; clear p; subst n1) | (have p : Opt := n1; clear p; subst n1) | (have p : Xg := n1; clear p; subst n1) | (have p : Sns := n1; clear p; subst n1) | (have p : Ev := n1; clear p; subst n1) | clear_value n1)
    | (with_reducible refine Keeps.foldl (fun t x h => ?_) ?_)
    | (with_reducible refine KeepsRes.done ?_)
    | (with_reducible refine KeepsRes.wait ?_)
    | (with_reducible refine KeepsRes.refuse ?_)
    | with_reducible apply Keeps.calRequest_keeps
    | with_reducible apply Keeps.refuse_keeps
    | (simp -zeta only [Keeps.mark]; with_reducible refine KeepsLit.intro rfl ?_ ?_ ?_)
    | (with_reducible refine Keeps.ite ?_ ?_)
    | split

theorem Keeps.execCalRun_keeps {gs : List Group} (hg : [.mbx, .reg, .cal] ⊆ gs) {o0 s : State} (h0 : Keeps gs o0 s) (q : Req) : KeepsOut gs o0 (execCalRun q s) := by
  unfold execCalRun
  repeat' first
    | with_reducible assumption
    | with_reducible exact List.Subset.trans (by decide) hg
    | with_reducible exact Regular.keep rfl
    | (intro g hgn; cases g <;> first | exact (Keeps.out hg (by decide) hgn).elim | with_reducible rfl)
    | (extract_lets +onlyGivenNames s1; refine Keeps.have_ (gs := gs) (o := o0) (t := s1) ?_ (fun h => ?_); (on_goal 1 => subst s1); (on_goal 2 => try clear_value s1))
    | (extract_lets +onlyGivenNames n1; first | (have p : Sys := n1; clear p; subst n1) | (have p : Et := n1; clear p; subst n1) | (have p : Hm := n1; clear p; subst n1) | (have p : Opt := n1; clear p; subst n1) | (have p : Xg := n1; clear p; subst n1) | (have p : Sns := n1; clear p; subst n1) | (have p : Ev := n1; clear p; subst n1) | clear_value n1)
    | (with_reducible refine Keeps.foldl (fun t x h => ?_) ?_)
    | (with_reducible refine KeepsOut.next ?_)
    | (with_reducible refine Keeps.submit_keeps ?_ ?_ _ _ (fun q t h => ?_) _)
    | with_reducible apply Keeps.cmdCalRun_keeps
    | (simp -zeta only [Keeps.mark]; with_reducible refine KeepsLit.intro rfl ?_ ?_ ?_)
    | split

theorem Keeps.cmdSelftestRun_keeps {gs : List Group} (hg : [.mbx, .reg, .cal] ⊆ gs) {o0 s : State} (h0 : Keeps gs o0 s) (q : Req) : KeepsRes gs o0 (cmdSelftestRun q s) := by
  unfold cmdSelftestRun
  repeat' first
    | with_reducible assumption
    | with_reducible exact List.Subset.trans (by decide) hg
    | with_reducible exact Regular.keep rfl
    | (intro g hgn; cases g <;> first | exact (Keeps.out hg (by decide) hgn).elim | with_reducible rfl)
    | (extract_lets +onlyGivenNames s1; refine KeepsRes.have_ (gs := gs) (o := o0) (r := s1) ?_ (fun h => ?_); (on_goal 1 => subst s1); (on_goal 2 => try clear_value s1))
    | (extract_lets +onlyGivenNames s1; refine Keeps.have_ (gs := gs) (o := o0) (t := s1) ?_ (fun h => ?_); (on_goal 1 => subst s1); (on_goal 2 => try clear_value s1))
    | (extract_lets +onlyGivenNames n1; first | (have p : Sys := n1; clear p; subst n1) | (have p : Et := n1; clear p; subst n1) | (have p : Hm := n1; clear p; subst n1) | (have p : Opt := n1; clear p; subst n1) | (have p : Xg := n1; clear p; subst n1) | (have p : Sns := n1; clear p; subst n1) | (have p : Ev := n1; clear p; subst n1) | clear_value n1)
    | (with_reducible refine Keeps.foldl (fun t x h => ?_) ?_)
    | (with_reducible refine KeepsRes.done ?_)
    | (with_reducible refine KeepsRes.wait ?_)
    | (with_reducible refine KeepsRes.refuse ?_)
    | with_reducible apply Keeps.calRequest_keeps
    | with_reducible apply Keeps.refuse_keeps
    | (simp -zeta only [Keeps.mark]; with_reducible refine KeepsLit.intro rfl ?_ ?_ ?_)
    | (with_reducible refine Keeps.ite ?_ ?_)
    | split

theorem Keeps.execSelftestRun_keeps {gs : List Group} (hg : [.mbx, .reg, .cal] ⊆ gs) {o0 s : State} (h0 : Keeps gs o0 s) (q : Req) : KeepsOut gs o0 (execSelftestRun q s) := by
  unfold execSelftestRun
  repeat' first
    | with_reducible assumption
    | with_reducible exact List.Subset.trans (by decide) hg
    | with_reducible exact Regular.keep rfl
    | (intro g hgn; cases g <;> first | exact (Keeps.out hg (by decide) hgn).elim | with_reducible rfl)
    | (extract_lets +onlyGivenNames s1; refine Keeps.have_ (gs := gs) (o := o0) (t := s1) ?_ (fun h => ?_); (on_goal 1 => subst s1); (on_goal 2 => try clear_value s1))
    | (extract_lets +onlyGivenNames n1; first | (have p : Sys := n1; clear p; subst n1) | (have p : Et := n1; clear p; subst n1) | (have p : Hm := n1; clear p; subst n1) | (have p : Opt := n1; clear p; subst n1) | (have p : Xg := n1; clear p; subst n1) | (have p : Sns := n1; clear p; subst n1) | (have p : Ev := n1; clear p; subst n1) | clear_value n1)
    | (with_reducible refine Keeps.foldl (fun t x h => ?_) ?_)
    | (with_reducible refine KeepsOut.next ?_)
    | (with_reducible refine Keeps.submit_keeps ?_ ?_ _ _ (fun q t h => ?_) _)
    | with_reducible apply Keeps.cmdSelftestRun_keeps
    | (simp -zeta only [Keeps.mark]; with_reducible refine KeepsLit.intro rfl ?_ ?_ ?_)
    | split

theorem Keeps.cmdCalQuery_keeps {gs : List Group} (hg : [] ⊆ gs) {o0 s : State} (h0 : Keeps gs o0 s) (q : Req) : KeepsRes gs o0 (cmdCalQuery q s) := by
  unfold cmdCalQuery
  repeat' first
    | with_reducible assumption
    | with_reducible exact List.Subset.trans (by decide) hg
    | with_reducible exact Regular.keep rfl
    | (intro g hgn; cases g <;> first | exact (Keeps.out hg (by decide) hgn).elim | with_reducible rfl)
    | (extract_lets +onlyGivenNames s1; refine KeepsRes.have_ (gs := gs) (o := o0) (r := s1) ?_ (fun h => ?_); (on_goal 1 => subst s1); (on_goal 2 => try clear_value s1))
    | (extract_lets +onlyGivenNames s1; refine Keeps.have_ (gs := gs) (o := o0) (t := s1) ?_ (fun h => ?_); (on_goal 1 => subst s1); (on_goal 2 => try clear_value s1))
    | (extract_lets +onlyGivenNames n1; first | (have p : Sys := n1; clear p; subst n1) | (have p : Et := n1; clear p; subst n1) | (have p : Hm := n1; clear p; subst n1) | (have p : Opt := n1; clear p; subst n1) | (have p : Xg := n1; clear p; subst n1) | (have p : Sns := n1; clear p; subst n1) | (have p : Ev := n1; clear p; subst n1) | clear_value n1)
    | (with_reducible refine Keeps.foldl (fun t x h => ?_) ?_)
    | (with_reducible refine KeepsRes.done ?_)
    | (with_reducible refine KeepsRes.wait ?_)
    | (with_reducible refine KeepsRes.refuse ?_)
    | with_reducible apply Keeps.refuse_keeps
    | (simp -zeta only [Keeps.mark]; with_reducible refine KeepsLit.intro rfl ?_ ?_ ?_)
    | split

theorem Keeps.execCalQuery_keeps {gs : List Group} (hg : [.mbx] ⊆ gs) {o0 s : State} (h0 : Keeps gs o0 s) (q : Req) : KeepsOut gs o0 (execCalQuery q s) := by
  unfold execCalQuery
  repeat' first
    | with_reducible assumption
    | with_reducible exact List.Subset.trans (by decide) hg
    | with_reducible exact Regular.keep rfl
    | (intro g hgn; cases g <;> first | exact (Keeps.out hg (by decide) hgn).elim | with_reducible rfl)
    | (extract_lets +onlyGivenNames s1; refine Keeps.have_ (gs := gs) (o := o0) (t := s1) ?_ (fun h => ?_); (on_goal 1 => subst s1); (on_goal 2 => try clear_value s1))
    | (extract_lets +onlyGivenNames n1; first | (have p : Sys := n1; clear p; subst n1) | (have p : Et := n1; clear p; subst n1) | (have p : Hm := n1; clear p; subst n1) | (have p : Opt := n1; clear p; subst n1) | (have p : Xg := n1; clear p; subst n1) | (have p : Sns := n1; clear p; subst n1) | (have p : Ev := n1; clear p; subst n1) | clear_value n1)
    | (with_reducible refine Keeps.foldl (fun t x h => ?_) ?_)
    | (with_reducible refine KeepsOut.next ?_)
    | (with_reducible refine Keeps.submit_keeps ?_ ?_ _ _ (fun q t h => ?_) _)
    | with_reducible apply Keeps.cmdCalQuery_keeps
    | (simp -zeta only [Keeps.mark]; with_reducible refine KeepsLit.intro rfl ?_ ?_ ?_)
    | split

theorem Keeps.cmdCalSetRead_keeps {gs : List Group} (hg : [] ⊆ gs) {o0 s : State} (h0 : Keeps gs o0 s) (q : Req) : KeepsRes gs o0 (cmdCalSetRead q s) := by
  unfold cmdCalSetRead
  repeat' first
    | with_reducible assumption
    | with_reducible exact List.Subset.trans (by decide) hg
    | with_reducible exact Regular.keep rfl
    | (intro g hgn; cases g <;> first | exact (Keeps.out hg (by decide) hgn).elim | with_reducible rfl)
    | (extract_lets +onlyGivenNames s1; refine KeepsRes.have_ (gs := gs) (o := o0) (r := s1) ?_ (fun h => ?_); (on_goal 1 => subst s1); (on_goal 2 => try clear_value s1))
    | (extract_lets +onlyGivenNames s1; refine Keeps.have_ (gs := gs) (o := o0) (t := s1) ?_ (fun h => ?_); (on_goal 1 => subst s1); (on_goal 2 => try clear_value s1))
    | (extract_lets +onlyGivenNames n1; first | (have p : Sys := n1; clear p; subst n1) | (have p : Et := n1; clear p; subst n1) | (have p : Hm := n1; clear p; subst n1) | (have p : Opt := n1; clear p; subst n1) | (have p : Xg := n1; clear p; subst n1) | (have p : Sns := n1; clear p; subst n1) | (have p : Ev := n1; clear p; subst n1) | clear_value n1)
    | (with_reducible refine Keeps.foldl (fun t x h => ?_) ?_)
    | (with_reducible refine KeepsRes.done ?_)
    | (with_reducible refine KeepsRes.wait ?_)
    | (with_reducible refine KeepsRes.refuse ?_)
    | with_reducible apply Keeps.refuse_keeps
    | (simp -zeta only [Keeps.mark]; with_reducible refine KeepsLit.intro rfl ?_ ?_ ?_)
    | (with_reducible refine Keeps.ite ?_ ?_)
    | split

theorem Keeps.execCalSetRead_keeps {gs : List Group} (hg : [.mbx] ⊆ gs) {o0 s : State} (h0 : Keeps gs o0 s) (q : Req) : KeepsOut gs o0 (execCalSetRead q s) := by
  unfold execCalSetRead
  repeat' first
    | with_reducible assumption
    | with_reducible exact List.Subset.trans (by decide) hg
    | with_reducible exact Regular.keep rfl
    | (intro g hgn; cases g <;> first | exact (Keeps.out hg (by decide) hgn).elim | with_reducible rfl)
    | (extract_lets +onlyGivenNames s1; refine Keeps.have_ (gs := gs) (o := o0) (t := s1) ?_ (fun h => ?_); (on_goal 1 => subst s1); (on_goal 2 => try clear_value s1))
    | (extract_lets +onlyGivenNames n1; first | (have p : Sys := n1; clear p; subst n1) | (have p : Et := n1; clear p; subst n1) | (have p : Hm := n1; clear p; subst n1) | (have p : Opt := n1; clear p; subst n1) | (have p : Xg := n1; clear p; subst n1) | (have p : Sns := n1; clear p; subst n1) | (have p : Ev := n1; clear p; subst n1) | clear_value n1)
    | (with_reducible refine Keeps.foldl (fun t x h => ?_) ?_)
    | (with_reducible refine KeepsOut.next ?_)
    | (with_reducible refine Keeps.submit_keeps ?_ ?_ _ _ (fun q t h => ?_) _)
    | with_reducible apply Keeps.cmdCalSetRead_keeps
    | (simp -zeta only [Keeps.mark]; with_reducible refine KeepsLit.intro rfl ?_ ?_ ?_)
    | split

theorem Keeps.fenceReg_keeps {gs : List Group} (hg : [.sys, .ctl, .mbx, .reg, .hm, .et, .opt, .ls, .xg, .cal, .sns, .sp, .ev] ⊆ gs) {o0 s : State} (h0 : Keeps gs o0 s) (g : Reg) (w : Word) (f : Nat) : Keeps gs o0 (State.fenceReg s g w f) := by
  unfold State.fenceReg
  repeat' first
    | with_reducible assumption
    | with_reducible exact List.Subset.trans (by decide) hg
    | with_reducible exact Regular.keep rfl
    | (intro g hgn; cases g <;> first | exact (Keeps.out hg (by decide) hgn).elim | with_reducible rfl)
    | (extract_lets +onlyGivenNames s1; refine Keeps.have_ (gs := gs) (o := o0) (t := s1) ?_ (fun h => ?_); (on_goal 1 => subst s1); (on_goal 2 => try clear_value s1))
    | (extract_lets +onlyGivenNames n1; first | (have p : Sys := n1; clear p; subst n1) | (have p : Et := n1; clear p; subst n1) | (have p : Hm := n1; clear p; subst n1) | (have p : Opt := n1; clear p; subst n1) | (have p : Xg := n1; clear p; subst n1) | (have p : Sns := n1; clear p; subst n1) | (have p : Ev := n1; clear p; subst n1) | clear_value n1)
    | (with_reducible refine Keeps.foldl (fun t x h => ?_) ?_)
    | with_reducible apply Keeps.latchCodeAt_keeps
    | with_reducible apply Keeps.modRgn_keeps
    | with_reducible apply Keeps.relane_keeps
    | with_reducible apply Keeps.sendCode_keeps
    | with_reducible apply Keeps.writeGlob_keeps
    | with_reducible apply Keeps.writeRgnAt_keeps
    | (simp -zeta only [Keeps.mark]; with_reducible refine KeepsLit.intro rfl ?_ ?_ ?_)
    | (with_reducible refine Keeps.ite ?_ ?_)
    | split

theorem Keeps.layReg_keeps {gs : List Group} (hg : [.sys, .ctl, .mbx, .reg, .hm, .et, .opt, .ls, .xg, .cal, .sns, .sp, .ev] ⊆ gs) {o0 t : State} (h0 : Keeps gs o0 t) (a : List Rec) (b : List Rec) (old : Nat) (new : Nat) (f : Nat) (g : Reg) : Keeps gs o0 (State.layReg a b old new f t g) := by
  unfold State.layReg
  repeat' first
    | with_reducible assumption
    | with_reducible exact List.Subset.trans (by decide) hg
    | with_reducible exact Regular.keep rfl
    | (intro g hgn; cases g <;> first | exact (Keeps.out hg (by decide) hgn).elim | with_reducible rfl)
    | (extract_lets +onlyGivenNames s1; refine Keeps.have_ (gs := gs) (o := o0) (t := s1) ?_ (fun h => ?_); (on_goal 1 => subst s1); (on_goal 2 => try clear_value s1))
    | (extract_lets +onlyGivenNames n1; first | (have p : Sys := n1; clear p; subst n1) | (have p : Et := n1; clear p; subst n1) | (have p : Hm := n1; clear p; subst n1) | (have p : Opt := n1; clear p; subst n1) | (have p : Xg := n1; clear p; subst n1) | (have p : Sns := n1; clear p; subst n1) | (have p : Ev := n1; clear p; subst n1) | clear_value n1)
    | (with_reducible refine Keeps.foldl (fun t x h => ?_) ?_)
    | with_reducible apply Keeps.fenceReg_keeps
    | (simp -zeta only [Keeps.mark]; with_reducible refine KeepsLit.intro rfl ?_ ?_ ?_)
    | (with_reducible refine Keeps.ite ?_ ?_)
    | split

theorem Keeps.applyLayers_keeps {gs : List Group} (hg : [.sys, .ctl, .mbx, .reg, .hm, .et, .opt, .ls, .xg, .cal, .sns, .sp, .ev] ⊆ gs) {o0 s : State} (h0 : Keeps gs o0 s) (old : Layers) (new : Layers) (f : Nat) :
    Keeps gs o0 (State.applyLayers s old new f) := by
  unfold State.applyLayers
  exact Keeps.foldl (fun t x h => Keeps.layReg_keeps hg h _ _ _ _ _ _)
    (Keeps.foldl (fun t x h => Keeps.layReg_keeps hg h _ _ _ _ _ _) h0)

theorem Keeps.arm_keeps {gs : List Group} (hg : [.cfg] ⊆ gs) {o0 s : State} (h0 : Keeps gs o0 s) (e : Fence) : Keeps gs o0 (State.arm s e) := by
  unfold State.arm
  repeat' first
    | with_reducible assumption
    | with_reducible exact List.Subset.trans (by decide) hg
    | with_reducible exact Regular.keep rfl
    | (intro g hgn; cases g <;> first | exact (Keeps.out hg (by decide) hgn).elim | with_reducible rfl)
    | (extract_lets +onlyGivenNames s1; refine Keeps.have_ (gs := gs) (o := o0) (t := s1) ?_ (fun h => ?_); (on_goal 1 => subst s1); (on_goal 2 => try clear_value s1))
    | (extract_lets +onlyGivenNames n1; first | (have p : Sys := n1; clear p; subst n1) | (have p : Et := n1; clear p; subst n1) | (have p : Hm := n1; clear p; subst n1) | (have p : Opt := n1; clear p; subst n1) | (have p : Xg := n1; clear p; subst n1) | (have p : Sns := n1; clear p; subst n1) | (have p : Ev := n1; clear p; subst n1) | clear_value n1)
    | (with_reducible refine Keeps.foldl (fun t x h => ?_) ?_)
    | (simp -zeta only [Keeps.mark]; with_reducible refine KeepsLit.intro rfl ?_ ?_ ?_)
    | split

theorem Keeps.modSlot_keeps {gs : List Group} (hg : [.cfg] ⊆ gs) {o0 s : State} (h0 : Keeps gs o0 s) (k : Nat) (f : Slot → Slot) : Keeps gs o0 (State.modSlot s k f) := by
  unfold State.modSlot
  repeat' first
    | with_reducible assumption
    | with_reducible exact List.Subset.trans (by decide) hg
    | with_reducible exact Regular.keep rfl
    | (intro g hgn; cases g <;> first | exact (Keeps.out hg (by decide) hgn).elim | with_reducible rfl)
    | (extract_lets +onlyGivenNames s1; refine Keeps.have_ (gs := gs) (o := o0) (t := s1) ?_ (fun h => ?_); (on_goal 1 => subst s1); (on_goal 2 => try clear_value s1))
    | (extract_lets +onlyGivenNames n1; first | (have p : Sys := n1; clear p; subst n1) | (have p : Et := n1; clear p; subst n1) | (have p : Hm := n1; clear p; subst n1) | (have p : Opt := n1; clear p; subst n1) | (have p : Xg := n1; clear p; subst n1) | (have p : Sns := n1; clear p; subst n1) | (have p : Ev := n1; clear p; subst n1) | clear_value n1)
    | (with_reducible refine Keeps.foldl (fun t x h => ?_) ?_)
    | (simp -zeta only [Keeps.mark]; with_reducible refine KeepsLit.intro rfl ?_ ?_ ?_)
    | split

theorem Keeps.overlaid_keeps {gs : List Group} (hg : [.sys, .ctl, .mbx, .reg, .hm, .et, .opt, .ls, .xg, .cal, .sns, .sp, .ev] ⊆ gs) {o0 s : State} (h0 : Keeps gs o0 s) : Keeps gs o0 (State.overlaid s) := by
  unfold State.overlaid
  repeat' first
    | with_reducible assumption
    | with_reducible exact List.Subset.trans (by decide) hg
    | with_reducible exact Regular.keep rfl
    | (intro g hgn; cases g <;> first | exact (Keeps.out hg (by decide) hgn).elim | with_reducible rfl)
    | (extract_lets +onlyGivenNames s1; refine Keeps.have_ (gs := gs) (o := o0) (t := s1) ?_ (fun h => ?_); (on_goal 1 => subst s1); (on_goal 2 => try clear_value s1))
    | (extract_lets +onlyGivenNames n1; first | (have p : Sys := n1; clear p; subst n1) | (have p : Et := n1; clear p; subst n1) | (have p : Hm := n1; clear p; subst n1) | (have p : Opt := n1; clear p; subst n1) | (have p : Xg := n1; clear p; subst n1) | (have p : Sns := n1; clear p; subst n1) | (have p : Ev := n1; clear p; subst n1) | clear_value n1)
    | (with_reducible refine Keeps.foldl (fun t x h => ?_) ?_)
    | with_reducible apply Keeps.applyLayers_keeps
    | (simp -zeta only [Keeps.mark]; with_reducible refine KeepsLit.intro rfl ?_ ?_ ?_)
    | (with_reducible refine Keeps.ite ?_ ?_)
    | split

theorem Keeps.cmdWriteField_keeps {gs : List Group} (hg : [.sys, .ctl, .mbx, .reg, .hm, .et, .opt, .ls, .xg, .cal, .sns, .sp, .ev] ⊆ gs) {o0 s : State} (h0 : Keeps gs o0 s) (block : Nat) (q : Req) : KeepsRes gs o0 (cmdWriteField block q s) := by
  unfold cmdWriteField
  repeat' first
    | with_reducible assumption
    | with_reducible exact List.Subset.trans (by decide) hg
    | with_reducible exact Regular.keep rfl
    | (intro g hgn; cases g <;> first | exact (Keeps.out hg (by decide) hgn).elim | with_reducible rfl)
    | (extract_lets +onlyGivenNames s1; refine KeepsRes.have_ (gs := gs) (o := o0) (r := s1) ?_ (fun h => ?_); (on_goal 1 => subst s1); (on_goal 2 => try clear_value s1))
    | (extract_lets +onlyGivenNames f1; (first | (refine Keeps.fun1 f1 ?_) | (refine Keeps.fun2 f1 ?_) | (refine Keeps.fun3 f1 ?_) | (refine KeepsRes.fun1 f1 ?_)); subst f1; beta_reduce)
    | (extract_lets +onlyGivenNames s1; refine Keeps.have_ (gs := gs) (o := o0) (t := s1) ?_ (fun h => ?_); (on_goal 1 => subst s1); (on_goal 2 => try clear_value s1))
    | (extract_lets +onlyGivenNames n1; first | (have p : Sys := n1; clear p; subst n1) | (have p : Et := n1; clear p; subst n1) | (have p : Hm := n1; clear p; subst n1) | (have p : Opt := n1; clear p; subst n1) | (have p : Xg := n1; clear p; subst n1) | (have p : Sns := n1; clear p; subst n1) | (have p : Ev := n1; clear p; subst n1) | clear_value n1)
    | (with_reducible refine Keeps.foldl (fun t x h => ?_) ?_)
    | (with_reducible refine KeepsRes.done ?_)
    | (with_reducible refine KeepsRes.wait ?_)
    | (with_reducible refine KeepsRes.refuse ?_)
    | with_reducible apply Keeps.regWrite_keeps
    | with_reducible apply Keeps.refuse_keeps
    | (simp -zeta only [Keeps.mark]; with_reducible refine KeepsLit.intro rfl ?_ ?_ ?_)
    | (with_reducible refine Keeps.ite ?_ ?_)
    | split

theorem Keeps.execRegionWriteField_keeps {gs : List Group} (hg : [.sys, .ctl, .mbx, .reg, .hm, .et, .opt, .ls, .xg, .cal, .sns, .sp, .ev] ⊆ gs) {o0 s : State} (h0 : Keeps gs o0 s) (q : Req) : KeepsOut gs o0 (execRegionWriteField q s) := by
  unfold execRegionWriteField
  repeat' first
    | with_reducible assumption
    | with_reducible exact List.Subset.trans (by decide) hg
    | with_reducible exact Regular.keep rfl
    | (intro g hgn; cases g <;> first | exact (Keeps.out hg (by decide) hgn).elim | with_reducible rfl)
    | (extract_lets +onlyGivenNames s1; refine Keeps.have_ (gs := gs) (o := o0) (t := s1) ?_ (fun h => ?_); (on_goal 1 => subst s1); (on_goal 2 => try clear_value s1))
    | (extract_lets +onlyGivenNames n1; first | (have p : Sys := n1; clear p; subst n1) | (have p : Et := n1; clear p; subst n1) | (have p : Hm := n1; clear p; subst n1) | (have p : Opt := n1; clear p; subst n1) | (have p : Xg := n1; clear p; subst n1) | (have p : Sns := n1; clear p; subst n1) | (have p : Ev := n1; clear p; subst n1) | clear_value n1)
    | (with_reducible refine Keeps.foldl (fun t x h => ?_) ?_)
    | (with_reducible refine KeepsOut.next ?_)
    | (with_reducible refine Keeps.submit_keeps ?_ ?_ _ _ (fun q t h => ?_) _)
    | with_reducible apply Keeps.cmdWriteField_keeps
    | (simp -zeta only [Keeps.mark]; with_reducible refine KeepsLit.intro rfl ?_ ?_ ?_)
    | split

theorem Keeps.execHawkmothWriteField_keeps {gs : List Group} (hg : [.sys, .ctl, .mbx, .reg, .hm, .et, .opt, .ls, .xg, .cal, .sns, .sp, .ev] ⊆ gs) {o0 s : State} (h0 : Keeps gs o0 s) (q : Req) : KeepsOut gs o0 (execHawkmothWriteField q s) := by
  unfold execHawkmothWriteField
  repeat' first
    | with_reducible assumption
    | with_reducible exact List.Subset.trans (by decide) hg
    | with_reducible exact Regular.keep rfl
    | (intro g hgn; cases g <;> first | exact (Keeps.out hg (by decide) hgn).elim | with_reducible rfl)
    | (extract_lets +onlyGivenNames s1; refine Keeps.have_ (gs := gs) (o := o0) (t := s1) ?_ (fun h => ?_); (on_goal 1 => subst s1); (on_goal 2 => try clear_value s1))
    | (extract_lets +onlyGivenNames n1; first | (have p : Sys := n1; clear p; subst n1) | (have p : Et := n1; clear p; subst n1) | (have p : Hm := n1; clear p; subst n1) | (have p : Opt := n1; clear p; subst n1) | (have p : Xg := n1; clear p; subst n1) | (have p : Sns := n1; clear p; subst n1) | (have p : Ev := n1; clear p; subst n1) | clear_value n1)
    | (with_reducible refine Keeps.foldl (fun t x h => ?_) ?_)
    | (with_reducible refine KeepsOut.next ?_)
    | (with_reducible refine Keeps.submit_keeps ?_ ?_ _ _ (fun q t h => ?_) _)
    | with_reducible apply Keeps.cmdWriteField_keeps
    | (simp -zeta only [Keeps.mark]; with_reducible refine KeepsLit.intro rfl ?_ ?_ ?_)
    | split

theorem Keeps.execErgWriteField_keeps {gs : List Group} (hg : [.sys, .ctl, .mbx, .reg, .hm, .et, .opt, .ls, .xg, .cal, .sns, .sp, .ev] ⊆ gs) {o0 s : State} (h0 : Keeps gs o0 s) (q : Req) : KeepsOut gs o0 (execErgWriteField q s) := by
  unfold execErgWriteField
  repeat' first
    | with_reducible assumption
    | with_reducible exact List.Subset.trans (by decide) hg
    | with_reducible exact Regular.keep rfl
    | (intro g hgn; cases g <;> first | exact (Keeps.out hg (by decide) hgn).elim | with_reducible rfl)
    | (extract_lets +onlyGivenNames s1; refine Keeps.have_ (gs := gs) (o := o0) (t := s1) ?_ (fun h => ?_); (on_goal 1 => subst s1); (on_goal 2 => try clear_value s1))
    | (extract_lets +onlyGivenNames n1; first | (have p : Sys := n1; clear p; subst n1) | (have p : Et := n1; clear p; subst n1) | (have p : Hm := n1; clear p; subst n1) | (have p : Opt := n1; clear p; subst n1) | (have p : Xg := n1; clear p; subst n1) | (have p : Sns := n1; clear p; subst n1) | (have p : Ev := n1; clear p; subst n1) | clear_value n1)
    | (with_reducible refine Keeps.foldl (fun t x h => ?_) ?_)
    | (with_reducible refine KeepsOut.next ?_)
    | (with_reducible refine Keeps.submit_keeps ?_ ?_ _ _ (fun q t h => ?_) _)
    | with_reducible apply Keeps.cmdWriteField_keeps
    | (simp -zeta only [Keeps.mark]; with_reducible refine KeepsLit.intro rfl ?_ ?_ ?_)
    | split

theorem Keeps.execOpticWriteField_keeps {gs : List Group} (hg : [.sys, .ctl, .mbx, .reg, .hm, .et, .opt, .ls, .xg, .cal, .sns, .sp, .ev] ⊆ gs) {o0 s : State} (h0 : Keeps gs o0 s) (q : Req) : KeepsOut gs o0 (execOpticWriteField q s) := by
  unfold execOpticWriteField
  repeat' first
    | with_reducible assumption
    | with_reducible exact List.Subset.trans (by decide) hg
    | with_reducible exact Regular.keep rfl
    | (intro g hgn; cases g <;> first | exact (Keeps.out hg (by decide) hgn).elim | with_reducible rfl)
    | (extract_lets +onlyGivenNames s1; refine Keeps.have_ (gs := gs) (o := o0) (t := s1) ?_ (fun h => ?_); (on_goal 1 => subst s1); (on_goal 2 => try clear_value s1))
    | (extract_lets +onlyGivenNames n1; first | (have p : Sys := n1; clear p; subst n1) | (have p : Et := n1; clear p; subst n1) | (have p : Hm := n1; clear p; subst n1) | (have p : Opt := n1; clear p; subst n1) | (have p : Xg := n1; clear p; subst n1) | (have p : Sns := n1; clear p; subst n1) | (have p : Ev := n1; clear p; subst n1) | clear_value n1)
    | (with_reducible refine Keeps.foldl (fun t x h => ?_) ?_)
    | (with_reducible refine KeepsOut.next ?_)
    | (with_reducible refine Keeps.submit_keeps ?_ ?_ _ _ (fun q t h => ?_) _)
    | with_reducible apply Keeps.cmdWriteField_keeps
    | (simp -zeta only [Keeps.mark]; with_reducible refine KeepsLit.intro rfl ?_ ?_ ?_)
    | split

theorem Keeps.execSynthWriteField_keeps {gs : List Group} (hg : [.sys, .ctl, .mbx, .reg, .hm, .et, .opt, .ls, .xg, .cal, .sns, .sp, .ev] ⊆ gs) {o0 s : State} (h0 : Keeps gs o0 s) (q : Req) : KeepsOut gs o0 (execSynthWriteField q s) := by
  unfold execSynthWriteField
  repeat' first
    | with_reducible assumption
    | with_reducible exact List.Subset.trans (by decide) hg
    | with_reducible exact Regular.keep rfl
    | (intro g hgn; cases g <;> first | exact (Keeps.out hg (by decide) hgn).elim | with_reducible rfl)
    | (extract_lets +onlyGivenNames s1; refine Keeps.have_ (gs := gs) (o := o0) (t := s1) ?_ (fun h => ?_); (on_goal 1 => subst s1); (on_goal 2 => try clear_value s1))
    | (extract_lets +onlyGivenNames n1; first | (have p : Sys := n1; clear p; subst n1) | (have p : Et := n1; clear p; subst n1) | (have p : Hm := n1; clear p; subst n1) | (have p : Opt := n1; clear p; subst n1) | (have p : Xg := n1; clear p; subst n1) | (have p : Sns := n1; clear p; subst n1) | (have p : Ev := n1; clear p; subst n1) | clear_value n1)
    | (with_reducible refine Keeps.foldl (fun t x h => ?_) ?_)
    | (with_reducible refine KeepsOut.next ?_)
    | (with_reducible refine Keeps.submit_keeps ?_ ?_ _ _ (fun q t h => ?_) _)
    | with_reducible apply Keeps.cmdWriteField_keeps
    | (simp -zeta only [Keeps.mark]; with_reducible refine KeepsLit.intro rfl ?_ ?_ ?_)
    | split

theorem Keeps.execCrossWriteField_keeps {gs : List Group} (hg : [.sys, .ctl, .mbx, .reg, .hm, .et, .opt, .ls, .xg, .cal, .sns, .sp, .ev] ⊆ gs) {o0 s : State} (h0 : Keeps gs o0 s) (q : Req) : KeepsOut gs o0 (execCrossWriteField q s) := by
  unfold execCrossWriteField
  repeat' first
    | with_reducible assumption
    | with_reducible exact List.Subset.trans (by decide) hg
    | with_reducible exact Regular.keep rfl
    | (intro g hgn; cases g <;> first | exact (Keeps.out hg (by decide) hgn).elim | with_reducible rfl)
    | (extract_lets +onlyGivenNames s1; refine Keeps.have_ (gs := gs) (o := o0) (t := s1) ?_ (fun h => ?_); (on_goal 1 => subst s1); (on_goal 2 => try clear_value s1))
    | (extract_lets +onlyGivenNames n1; first | (have p : Sys := n1; clear p; subst n1) | (have p : Et := n1; clear p; subst n1) | (have p : Hm := n1; clear p; subst n1) | (have p : Opt := n1; clear p; subst n1) | (have p : Xg := n1; clear p; subst n1) | (have p : Sns := n1; clear p; subst n1) | (have p : Ev := n1; clear p; subst n1) | clear_value n1)
    | (with_reducible refine Keeps.foldl (fun t x h => ?_) ?_)
    | (with_reducible refine KeepsOut.next ?_)
    | (with_reducible refine Keeps.submit_keeps ?_ ?_ _ _ (fun q t h => ?_) _)
    | with_reducible apply Keeps.cmdWriteField_keeps
    | (simp -zeta only [Keeps.mark]; with_reducible refine KeepsLit.intro rfl ?_ ?_ ?_)
    | split

theorem Keeps.execCalWriteField_keeps {gs : List Group} (hg : [.sys, .ctl, .mbx, .reg, .hm, .et, .opt, .ls, .xg, .cal, .sns, .sp, .ev] ⊆ gs) {o0 s : State} (h0 : Keeps gs o0 s) (q : Req) : KeepsOut gs o0 (execCalWriteField q s) := by
  unfold execCalWriteField
  repeat' first
    | with_reducible assumption
    | with_reducible exact List.Subset.trans (by decide) hg
    | with_reducible exact Regular.keep rfl
    | (intro g hgn; cases g <;> first | exact (Keeps.out hg (by decide) hgn).elim | with_reducible rfl)
    | (extract_lets +onlyGivenNames s1; refine Keeps.have_ (gs := gs) (o := o0) (t := s1) ?_ (fun h => ?_); (on_goal 1 => subst s1); (on_goal 2 => try clear_value s1))
    | (extract_lets +onlyGivenNames n1; first | (have p : Sys := n1; clear p; subst n1) | (have p : Et := n1; clear p; subst n1) | (have p : Hm := n1; clear p; subst n1) | (have p : Opt := n1; clear p; subst n1) | (have p : Xg := n1; clear p; subst n1) | (have p : Sns := n1; clear p; subst n1) | (have p : Ev := n1; clear p; subst n1) | clear_value n1)
    | (with_reducible refine Keeps.foldl (fun t x h => ?_) ?_)
    | (with_reducible refine KeepsOut.next ?_)
    | (with_reducible refine Keeps.submit_keeps ?_ ?_ _ _ (fun q t h => ?_) _)
    | with_reducible apply Keeps.cmdWriteField_keeps
    | (simp -zeta only [Keeps.mark]; with_reducible refine KeepsLit.intro rfl ?_ ?_ ?_)
    | split

theorem Keeps.execSenseWriteField_keeps {gs : List Group} (hg : [.sys, .ctl, .mbx, .reg, .hm, .et, .opt, .ls, .xg, .cal, .sns, .sp, .ev] ⊆ gs) {o0 s : State} (h0 : Keeps gs o0 s) (q : Req) : KeepsOut gs o0 (execSenseWriteField q s) := by
  unfold execSenseWriteField
  repeat' first
    | with_reducible assumption
    | with_reducible exact List.Subset.trans (by decide) hg
    | with_reducible exact Regular.keep rfl
    | (intro g hgn; cases g <;> first | exact (Keeps.out hg (by decide) hgn).elim | with_reducible rfl)
    | (extract_lets +onlyGivenNames s1; refine Keeps.have_ (gs := gs) (o := o0) (t := s1) ?_ (fun h => ?_); (on_goal 1 => subst s1); (on_goal 2 => try clear_value s1))
    | (extract_lets +onlyGivenNames n1; first | (have p : Sys := n1; clear p; subst n1) | (have p : Et := n1; clear p; subst n1) | (have p : Hm := n1; clear p; subst n1) | (have p : Opt := n1; clear p; subst n1) | (have p : Xg := n1; clear p; subst n1) | (have p : Sns := n1; clear p; subst n1) | (have p : Ev := n1; clear p; subst n1) | clear_value n1)
    | (with_reducible refine Keeps.foldl (fun t x h => ?_) ?_)
    | (with_reducible refine KeepsOut.next ?_)
    | (with_reducible refine Keeps.submit_keeps ?_ ?_ _ _ (fun q t h => ?_) _)
    | with_reducible apply Keeps.cmdWriteField_keeps
    | (simp -zeta only [Keeps.mark]; with_reducible refine KeepsLit.intro rfl ?_ ?_ ?_)
    | split

theorem Keeps.execSpanWriteField_keeps {gs : List Group} (hg : [.sys, .ctl, .mbx, .reg, .hm, .et, .opt, .ls, .xg, .cal, .sns, .sp, .ev] ⊆ gs) {o0 s : State} (h0 : Keeps gs o0 s) (q : Req) : KeepsOut gs o0 (execSpanWriteField q s) := by
  unfold execSpanWriteField
  repeat' first
    | with_reducible assumption
    | with_reducible exact List.Subset.trans (by decide) hg
    | with_reducible exact Regular.keep rfl
    | (intro g hgn; cases g <;> first | exact (Keeps.out hg (by decide) hgn).elim | with_reducible rfl)
    | (extract_lets +onlyGivenNames s1; refine Keeps.have_ (gs := gs) (o := o0) (t := s1) ?_ (fun h => ?_); (on_goal 1 => subst s1); (on_goal 2 => try clear_value s1))
    | (extract_lets +onlyGivenNames n1; first | (have p : Sys := n1; clear p; subst n1) | (have p : Et := n1; clear p; subst n1) | (have p : Hm := n1; clear p; subst n1) | (have p : Opt := n1; clear p; subst n1) | (have p : Xg := n1; clear p; subst n1) | (have p : Sns := n1; clear p; subst n1) | (have p : Ev := n1; clear p; subst n1) | clear_value n1)
    | (with_reducible refine Keeps.foldl (fun t x h => ?_) ?_)
    | (with_reducible refine KeepsOut.next ?_)
    | (with_reducible refine Keeps.submit_keeps ?_ ?_ _ _ (fun q t h => ?_) _)
    | with_reducible apply Keeps.cmdWriteField_keeps
    | (simp -zeta only [Keeps.mark]; with_reducible refine KeepsLit.intro rfl ?_ ?_ ?_)
    | split

theorem Keeps.execSiroccoWriteField_keeps {gs : List Group} (hg : [.sys, .ctl, .mbx, .reg, .hm, .et, .opt, .ls, .xg, .cal, .sns, .sp, .ev] ⊆ gs) {o0 s : State} (h0 : Keeps gs o0 s) (q : Req) : KeepsOut gs o0 (execSiroccoWriteField q s) := by
  unfold execSiroccoWriteField
  repeat' first
    | with_reducible assumption
    | with_reducible exact List.Subset.trans (by decide) hg
    | with_reducible exact Regular.keep rfl
    | (intro g hgn; cases g <;> first | exact (Keeps.out hg (by decide) hgn).elim | with_reducible rfl)
    | (extract_lets +onlyGivenNames s1; refine Keeps.have_ (gs := gs) (o := o0) (t := s1) ?_ (fun h => ?_); (on_goal 1 => subst s1); (on_goal 2 => try clear_value s1))
    | (extract_lets +onlyGivenNames n1; first | (have p : Sys := n1; clear p; subst n1) | (have p : Et := n1; clear p; subst n1) | (have p : Hm := n1; clear p; subst n1) | (have p : Opt := n1; clear p; subst n1) | (have p : Xg := n1; clear p; subst n1) | (have p : Sns := n1; clear p; subst n1) | (have p : Ev := n1; clear p; subst n1) | clear_value n1)
    | (with_reducible refine Keeps.foldl (fun t x h => ?_) ?_)
    | (with_reducible refine KeepsOut.next ?_)
    | (with_reducible refine Keeps.submit_keeps ?_ ?_ _ _ (fun q t h => ?_) _)
    | with_reducible apply Keeps.cmdWriteField_keeps
    | (simp -zeta only [Keeps.mark]; with_reducible refine KeepsLit.intro rfl ?_ ?_ ?_)
    | split

theorem Keeps.fabWrite_keeps {gs : List Group} (hg : [.sys, .ctl, .mbx, .reg, .hm, .et, .opt, .ls, .xg, .cal, .sns, .sp, .ev] ⊆ gs) {o0 s : State} (h0 : Keeps gs o0 s) (a : Nat) (w : Word) : Keeps gs o0 (State.fabWrite s a w) := by
  unfold State.fabWrite
  repeat' first
    | with_reducible assumption
    | with_reducible exact List.Subset.trans (by decide) hg
    | with_reducible exact Regular.keep rfl
    | (intro g hgn; cases g <;> first | exact (Keeps.out hg (by decide) hgn).elim | with_reducible rfl)
    | (extract_lets +onlyGivenNames s1; refine Keeps.have_ (gs := gs) (o := o0) (t := s1) ?_ (fun h => ?_); (on_goal 1 => subst s1); (on_goal 2 => try clear_value s1))
    | (extract_lets +onlyGivenNames n1; first | (have p : Sys := n1; clear p; subst n1) | (have p : Et := n1; clear p; subst n1) | (have p : Hm := n1; clear p; subst n1) | (have p : Opt := n1; clear p; subst n1) | (have p : Xg := n1; clear p; subst n1) | (have p : Sns := n1; clear p; subst n1) | (have p : Ev := n1; clear p; subst n1) | clear_value n1)
    | (with_reducible refine Keeps.foldl (fun t x h => ?_) ?_)
    | with_reducible apply Keeps.regWrite_keeps
    | (simp -zeta only [Keeps.mark]; with_reducible refine KeepsLit.intro rfl ?_ ?_ ?_)
    | (with_reducible refine Keeps.ite ?_ ?_)
    | split

theorem Keeps.execRegisterWrite_keeps {gs : List Group} (hg : [.sys, .ctl, .mbx, .reg, .hm, .et, .opt, .ls, .xg, .cal, .sns, .sp, .ev] ⊆ gs) {o0 s : State} (h0 : Keeps gs o0 s) (sp : RegSpace) (a : Word) (w : Word) : KeepsOut gs o0 (execRegisterWrite sp a w s) := by
  unfold execRegisterWrite
  repeat' first
    | with_reducible assumption
    | with_reducible exact List.Subset.trans (by decide) hg
    | with_reducible exact Regular.keep rfl
    | (intro g hgn; cases g <;> first | exact (Keeps.out hg (by decide) hgn).elim | with_reducible rfl)
    | (extract_lets +onlyGivenNames s1; refine Keeps.have_ (gs := gs) (o := o0) (t := s1) ?_ (fun h => ?_); (on_goal 1 => subst s1); (on_goal 2 => try clear_value s1))
    | (extract_lets +onlyGivenNames n1; first | (have p : Sys := n1; clear p; subst n1) | (have p : Et := n1; clear p; subst n1) | (have p : Hm := n1; clear p; subst n1) | (have p : Opt := n1; clear p; subst n1) | (have p : Xg := n1; clear p; subst n1) | (have p : Sns := n1; clear p; subst n1) | (have p : Ev := n1; clear p; subst n1) | clear_value n1)
    | (with_reducible refine Keeps.foldl (fun t x h => ?_) ?_)
    | (with_reducible refine KeepsOut.next ?_)
    | with_reducible apply Keeps.fabWrite_keeps
    | with_reducible apply Keeps.windowWrite_keeps
    | (simp -zeta only [Keeps.mark]; with_reducible refine KeepsLit.intro rfl ?_ ?_ ?_)
    | (with_reducible refine Keeps.ite ?_ ?_)
    | split

theorem Keeps.joinFence_keeps {gs : List Group} (hg : [.cfg] ⊆ gs) {o0 s : State} (h0 : Keeps gs o0 s) (kind : FenceKind) (f : Layers → Layers) (mark : Fence → Fence) : Keeps gs o0 (State.joinFence s kind f mark) := by
  unfold State.joinFence
  repeat' first
    | with_reducible assumption
    | with_reducible exact List.Subset.trans (by decide) hg
    | with_reducible exact Regular.keep rfl
    | (intro g hgn; cases g <;> first | exact (Keeps.out hg (by decide) hgn).elim | with_reducible rfl)
    | (extract_lets +onlyGivenNames s1; refine Keeps.have_ (gs := gs) (o := o0) (t := s1) ?_ (fun h => ?_); (on_goal 1 => subst s1); (on_goal 2 => try clear_value s1))
    | (extract_lets +onlyGivenNames n1; first | (have p : Sys := n1; clear p; subst n1) | (have p : Et := n1; clear p; subst n1) | (have p : Hm := n1; clear p; subst n1) | (have p : Opt := n1; clear p; subst n1) | (have p : Xg := n1; clear p; subst n1) | (have p : Sns := n1; clear p; subst n1) | (have p : Ev := n1; clear p; subst n1) | clear_value n1)
    | (with_reducible refine Keeps.foldl (fun t x h => ?_) ?_)
    | with_reducible apply Keeps.arm_keeps
    | (simp -zeta only [Keeps.mark]; with_reducible refine KeepsLit.intro rfl ?_ ?_ ?_)
    | (with_reducible refine Keeps.ite ?_ ?_)
    | split

theorem Keeps.callThrottle_keeps {gs : List Group} (hg : [.cfg] ⊆ gs) {o0 s : State} (h0 : Keeps gs o0 s) : Keeps gs o0 (State.callThrottle s).1 := by
  unfold State.callThrottle
  repeat' first
    | with_reducible assumption
    | with_reducible exact List.Subset.trans (by decide) hg
    | with_reducible exact Regular.keep rfl
    | (intro g hgn; cases g <;> first | exact (Keeps.out hg (by decide) hgn).elim | with_reducible rfl)
    | (extract_lets +onlyGivenNames s1; refine Keeps.have_ (gs := gs) (o := o0) (t := s1) ?_ (fun h => ?_); (on_goal 1 => subst s1); (on_goal 2 => try clear_value s1))
    | (extract_lets +onlyGivenNames n1; first | (have p : Sys := n1; clear p; subst n1) | (have p : Et := n1; clear p; subst n1) | (have p : Hm := n1; clear p; subst n1) | (have p : Opt := n1; clear p; subst n1) | (have p : Xg := n1; clear p; subst n1) | (have p : Sns := n1; clear p; subst n1) | (have p : Ev := n1; clear p; subst n1) | clear_value n1)
    | (with_reducible refine Keeps.foldl (fun t x h => ?_) ?_)
    | (with_reducible refine Keeps.foldl2 (fun t x h => ?_) ?_)
    | (with_reducible refine Keeps.foldl1 (fun t x h => ?_) ?_)
    | (dsimp -zeta only)
    | with_reducible apply Keeps.joinFence_keeps
    | (simp -zeta only [Keeps.mark]; with_reducible refine KeepsLit.intro rfl ?_ ?_ ?_)
    | (with_reducible refine Keeps.ite ?_ ?_)
    | split

theorem Keeps.toLimp_keeps {gs : List Group} (hg : [.sys, .cfg] ⊆ gs) {o0 s : State} (h0 : Keeps gs o0 s) (trigger : Nat) : Keeps gs o0 (State.toLimp s trigger) := by
  unfold State.toLimp
  repeat' first
    | with_reducible assumption
    | with_reducible exact List.Subset.trans (by decide) hg
    | with_reducible exact Regular.keep rfl
    | (intro g hgn; cases g <;> first | exact (Keeps.out hg (by decide) hgn).elim | with_reducible rfl)
    | (extract_lets +onlyGivenNames s1; refine Keeps.have_ (gs := gs) (o := o0) (t := s1) ?_ (fun h => ?_); (on_goal 1 => subst s1); (on_goal 2 => try clear_value s1))
    | (extract_lets +onlyGivenNames n1; first | (have p : Sys := n1; clear p; subst n1) | (have p : Et := n1; clear p; subst n1) | (have p : Hm := n1; clear p; subst n1) | (have p : Opt := n1; clear p; subst n1) | (have p : Xg := n1; clear p; subst n1) | (have p : Sns := n1; clear p; subst n1) | (have p : Ev := n1; clear p; subst n1) | clear_value n1)
    | (with_reducible refine Keeps.foldl (fun t x h => ?_) ?_)
    | with_reducible apply Keeps.joinFence_keeps
    | (simp -zeta only [Keeps.mark]; with_reducible refine KeepsLit.intro rfl ?_ ?_ ?_)
    | (with_reducible refine Keeps.ite ?_ ?_)
    | split

theorem Keeps.execLimpEnter_keeps {gs : List Group} (hg : [.sys, .cfg] ⊆ gs) {o0 s : State} (h0 : Keeps gs o0 s) : KeepsOut gs o0 (execLimpEnter s) := by
  unfold execLimpEnter
  repeat' first
    | with_reducible assumption
    | with_reducible exact List.Subset.trans (by decide) hg
    | with_reducible exact Regular.keep rfl
    | (intro g hgn; cases g <;> first | exact (Keeps.out hg (by decide) hgn).elim | with_reducible rfl)
    | (extract_lets +onlyGivenNames s1; refine Keeps.have_ (gs := gs) (o := o0) (t := s1) ?_ (fun h => ?_); (on_goal 1 => subst s1); (on_goal 2 => try clear_value s1))
    | (extract_lets +onlyGivenNames n1; first | (have p : Sys := n1; clear p; subst n1) | (have p : Et := n1; clear p; subst n1) | (have p : Hm := n1; clear p; subst n1) | (have p : Opt := n1; clear p; subst n1) | (have p : Xg := n1; clear p; subst n1) | (have p : Sns := n1; clear p; subst n1) | (have p : Ev := n1; clear p; subst n1) | clear_value n1)
    | (with_reducible refine Keeps.foldl (fun t x h => ?_) ?_)
    | (with_reducible refine KeepsOut.next ?_)
    | with_reducible apply Keeps.toLimp_keeps
    | (simp -zeta only [Keeps.mark]; with_reducible refine KeepsLit.intro rfl ?_ ?_ ?_)
    | (with_reducible refine Keeps.ite ?_ ?_)
    | split

theorem Keeps.execSevereSustained_keeps {gs : List Group} (hg : [.sys, .cfg] ⊆ gs) {o0 s : State} (h0 : Keeps gs o0 s) : KeepsOut gs o0 (execSevereSustained s) := by
  unfold execSevereSustained
  repeat' first
    | with_reducible assumption
    | with_reducible exact List.Subset.trans (by decide) hg
    | with_reducible exact Regular.keep rfl
    | (intro g hgn; cases g <;> first | exact (Keeps.out hg (by decide) hgn).elim | with_reducible rfl)
    | (extract_lets +onlyGivenNames s1; refine Keeps.have_ (gs := gs) (o := o0) (t := s1) ?_ (fun h => ?_); (on_goal 1 => subst s1); (on_goal 2 => try clear_value s1))
    | (extract_lets +onlyGivenNames n1; first | (have p : Sys := n1; clear p; subst n1) | (have p : Et := n1; clear p; subst n1) | (have p : Hm := n1; clear p; subst n1) | (have p : Opt := n1; clear p; subst n1) | (have p : Xg := n1; clear p; subst n1) | (have p : Sns := n1; clear p; subst n1) | (have p : Ev := n1; clear p; subst n1) | clear_value n1)
    | (with_reducible refine Keeps.foldl (fun t x h => ?_) ?_)
    | (with_reducible refine KeepsOut.next ?_)
    | with_reducible apply Keeps.toLimp_keeps
    | (simp -zeta only [Keeps.mark]; with_reducible refine KeepsLit.intro rfl ?_ ?_ ?_)
    | (with_reducible refine Keeps.ite ?_ ?_)
    | split

theorem Keeps.fenceDone_keeps {gs : List Group} (hg : [.sys, .mbx, .cfg, .ev] ⊆ gs) {o0 s : State} (h0 : Keeps gs o0 s) (e : Fence) (was : Layers) : Keeps gs o0 (State.fenceDone s e was) := by
  unfold State.fenceDone
  repeat' first
    | with_reducible assumption
    | with_reducible exact List.Subset.trans (by decide) hg
    | with_reducible exact Regular.keep rfl
    | (intro g hgn; cases g <;> first | exact (Keeps.out hg (by decide) hgn).elim | with_reducible rfl)
    | (extract_lets +onlyGivenNames f1; (first | (refine Keeps.fun1 f1 ?_) | (refine Keeps.fun2 f1 ?_) | (refine Keeps.fun3 f1 ?_) | (refine KeepsRes.fun1 f1 ?_)); subst f1; beta_reduce)
    | (extract_lets +onlyGivenNames s1; refine Keeps.have_ (gs := gs) (o := o0) (t := s1) ?_ (fun h => ?_); (on_goal 1 => subst s1); (on_goal 2 => try clear_value s1))
    | (extract_lets +onlyGivenNames n1; first | (have p : Sys := n1; clear p; subst n1) | (have p : Et := n1; clear p; subst n1) | (have p : Hm := n1; clear p; subst n1) | (have p : Opt := n1; clear p; subst n1) | (have p : Xg := n1; clear p; subst n1) | (have p : Sns := n1; clear p; subst n1) | (have p : Ev := n1; clear p; subst n1) | clear_value n1)
    | (with_reducible refine Keeps.foldl (fun t x h => ?_) ?_)
    | with_reducible apply Keeps.complete_keeps
    | with_reducible apply Keeps.finishOp_keeps
    | with_reducible apply Keeps.modSlot_keeps
    | with_reducible apply Keeps.raise_keeps
    | with_reducible apply Keeps.raiseIf_keeps
    | (simp -zeta only [Keeps.mark]; with_reducible refine KeepsLit.intro rfl ?_ ?_ ?_)
    | (with_reducible refine Keeps.ite ?_ ?_)
    | split

theorem Keeps.execRegionFence_keeps {gs : List Group} (hg : [.sys, .ctl, .mbx, .reg, .hm, .et, .opt, .ls, .xg, .cal, .sns, .cfg, .sp, .ev] ⊆ gs) {o0 s : State} (h0 : Keeps gs o0 s) : KeepsOut gs o0 (execRegionFence s) := by
  unfold execRegionFence
  repeat' first
    | with_reducible assumption
    | with_reducible exact List.Subset.trans (by decide) hg
    | with_reducible exact Regular.keep rfl
    | (intro g hgn; cases g <;> first | exact (Keeps.out hg (by decide) hgn).elim | with_reducible rfl)
    | (extract_lets +onlyGivenNames s1; refine Keeps.have_ (gs := gs) (o := o0) (t := s1) ?_ (fun h => ?_); (on_goal 1 => subst s1); (on_goal 2 => try clear_value s1))
    | (extract_lets +onlyGivenNames n1; first | (have p : Sys := n1; clear p; subst n1) | (have p : Et := n1; clear p; subst n1) | (have p : Hm := n1; clear p; subst n1) | (have p : Opt := n1; clear p; subst n1) | (have p : Xg := n1; clear p; subst n1) | (have p : Sns := n1; clear p; subst n1) | (have p : Ev := n1; clear p; subst n1) | clear_value n1)
    | (with_reducible refine Keeps.foldl (fun t x h => ?_) ?_)
    | (with_reducible refine KeepsOut.next ?_)
    | with_reducible apply Keeps.applyLayers_keeps
    | with_reducible apply Keeps.fenceDone_keeps
    | (simp -zeta only [Keeps.mark]; with_reducible refine KeepsLit.intro rfl ?_ ?_ ?_)
    | (with_reducible refine Keeps.ite ?_ ?_)
    | split

theorem Keeps.configLost_keeps {gs : List Group} (hg : [.cfg, .ev] ⊆ gs) {o0 s : State} (h0 : Keeps gs o0 s) (area : ConfigArea) : Keeps gs o0 (State.configLost s area) := by
  unfold State.configLost
  repeat' first
    | with_reducible assumption
    | with_reducible exact List.Subset.trans (by decide) hg
    | with_reducible exact Regular.keep rfl
    | (intro g hgn; cases g <;> first | exact (Keeps.out hg (by decide) hgn).elim | with_reducible rfl)
    | (extract_lets +onlyGivenNames s1; refine Keeps.have_ (gs := gs) (o := o0) (t := s1) ?_ (fun h => ?_); (on_goal 1 => subst s1); (on_goal 2 => try clear_value s1))
    | (extract_lets +onlyGivenNames n1; first | (have p : Sys := n1; clear p; subst n1) | (have p : Et := n1; clear p; subst n1) | (have p : Hm := n1; clear p; subst n1) | (have p : Opt := n1; clear p; subst n1) | (have p : Xg := n1; clear p; subst n1) | (have p : Sns := n1; clear p; subst n1) | (have p : Ev := n1; clear p; subst n1) | clear_value n1)
    | (with_reducible refine Keeps.foldl (fun t x h => ?_) ?_)
    | with_reducible apply Keeps.modSlot_keeps
    | with_reducible apply Keeps.raise_keeps
    | (simp -zeta only [Keeps.mark]; with_reducible refine KeepsLit.intro rfl ?_ ?_ ?_)
    | (with_reducible refine Keeps.ite ?_ ?_)
    | split

theorem Keeps.execConfigWordLost_keeps {gs : List Group} (hg : [.cfg, .ev] ⊆ gs) {o0 s : State} (h0 : Keeps gs o0 s) (area : ConfigArea) : KeepsOut gs o0 (execConfigWordLost area s) := by
  unfold execConfigWordLost
  repeat' first
    | with_reducible assumption
    | with_reducible exact List.Subset.trans (by decide) hg
    | with_reducible exact Regular.keep rfl
    | (intro g hgn; cases g <;> first | exact (Keeps.out hg (by decide) hgn).elim | with_reducible rfl)
    | (extract_lets +onlyGivenNames s1; refine Keeps.have_ (gs := gs) (o := o0) (t := s1) ?_ (fun h => ?_); (on_goal 1 => subst s1); (on_goal 2 => try clear_value s1))
    | (extract_lets +onlyGivenNames n1; first | (have p : Sys := n1; clear p; subst n1) | (have p : Et := n1; clear p; subst n1) | (have p : Hm := n1; clear p; subst n1) | (have p : Opt := n1; clear p; subst n1) | (have p : Xg := n1; clear p; subst n1) | (have p : Sns := n1; clear p; subst n1) | (have p : Ev := n1; clear p; subst n1) | clear_value n1)
    | (with_reducible refine Keeps.foldl (fun t x h => ?_) ?_)
    | (with_reducible refine KeepsOut.next ?_)
    | with_reducible apply Keeps.configLost_keeps
    | (simp -zeta only [Keeps.mark]; with_reducible refine KeepsLit.intro rfl ?_ ?_ ?_)
    | split

theorem Keeps.cmdConfigQuery_keeps {gs : List Group} (hg : [] ⊆ gs) {o0 s : State} (h0 : Keeps gs o0 s) (q0 : Req) : KeepsRes gs o0 (cmdConfigQuery q0 s) := by
  unfold cmdConfigQuery
  repeat' first
    | with_reducible assumption
    | with_reducible exact List.Subset.trans (by decide) hg
    | with_reducible exact Regular.keep rfl
    | (intro g hgn; cases g <;> first | exact (Keeps.out hg (by decide) hgn).elim | with_reducible rfl)
    | (extract_lets +onlyGivenNames s1; refine KeepsRes.have_ (gs := gs) (o := o0) (r := s1) ?_ (fun h => ?_); (on_goal 1 => subst s1); (on_goal 2 => try clear_value s1))
    | (extract_lets +onlyGivenNames s1; refine Keeps.have_ (gs := gs) (o := o0) (t := s1) ?_ (fun h => ?_); (on_goal 1 => subst s1); (on_goal 2 => try clear_value s1))
    | (extract_lets +onlyGivenNames n1; first | (have p : Sys := n1; clear p; subst n1) | (have p : Et := n1; clear p; subst n1) | (have p : Hm := n1; clear p; subst n1) | (have p : Opt := n1; clear p; subst n1) | (have p : Xg := n1; clear p; subst n1) | (have p : Sns := n1; clear p; subst n1) | (have p : Ev := n1; clear p; subst n1) | clear_value n1)
    | (with_reducible refine Keeps.foldl (fun t x h => ?_) ?_)
    | (with_reducible refine KeepsRes.done ?_)
    | (with_reducible refine KeepsRes.wait ?_)
    | (with_reducible refine KeepsRes.refuse ?_)
    | (simp -zeta only [Keeps.mark]; with_reducible refine KeepsLit.intro rfl ?_ ?_ ?_)
    | split

theorem Keeps.execConfigQuery_keeps {gs : List Group} (hg : [.mbx] ⊆ gs) {o0 s : State} (h0 : Keeps gs o0 s) (q : Req) : KeepsOut gs o0 (execConfigQuery q s) := by
  unfold execConfigQuery
  repeat' first
    | with_reducible assumption
    | with_reducible exact List.Subset.trans (by decide) hg
    | with_reducible exact Regular.keep rfl
    | (intro g hgn; cases g <;> first | exact (Keeps.out hg (by decide) hgn).elim | with_reducible rfl)
    | (extract_lets +onlyGivenNames s1; refine Keeps.have_ (gs := gs) (o := o0) (t := s1) ?_ (fun h => ?_); (on_goal 1 => subst s1); (on_goal 2 => try clear_value s1))
    | (extract_lets +onlyGivenNames n1; first | (have p : Sys := n1; clear p; subst n1) | (have p : Et := n1; clear p; subst n1) | (have p : Hm := n1; clear p; subst n1) | (have p : Opt := n1; clear p; subst n1) | (have p : Xg := n1; clear p; subst n1) | (have p : Sns := n1; clear p; subst n1) | (have p : Ev := n1; clear p; subst n1) | clear_value n1)
    | (with_reducible refine Keeps.foldl (fun t x h => ?_) ?_)
    | (with_reducible refine KeepsOut.next ?_)
    | (with_reducible refine Keeps.submit_keeps ?_ ?_ _ _ (fun q t h => ?_) _)
    | with_reducible apply Keeps.cmdConfigQuery_keeps
    | (simp -zeta only [Keeps.mark]; with_reducible refine KeepsLit.intro rfl ?_ ?_ ?_)
    | split

theorem Keeps.applyOverlay_keeps {gs : List Group} (hg : [.mbx, .cfg] ⊆ gs) {o0 s : State} (h0 : Keeps gs o0 s) (h : Nat) (x : Slot) : Keeps gs o0 (State.applyOverlay s h x) := by
  unfold State.applyOverlay
  repeat' first
    | with_reducible assumption
    | with_reducible exact List.Subset.trans (by decide) hg
    | with_reducible exact Regular.keep rfl
    | (intro g hgn; cases g <;> first | exact (Keeps.out hg (by decide) hgn).elim | with_reducible rfl)
    | (extract_lets +onlyGivenNames f1; (first | (refine Keeps.fun1 f1 ?_) | (refine Keeps.fun2 f1 ?_) | (refine Keeps.fun3 f1 ?_) | (refine KeepsRes.fun1 f1 ?_)); subst f1; beta_reduce)
    | (extract_lets +onlyGivenNames s1; refine Keeps.have_ (gs := gs) (o := o0) (t := s1) ?_ (fun h => ?_); (on_goal 1 => subst s1); (on_goal 2 => try clear_value s1))
    | (extract_lets +onlyGivenNames n1; first | (have p : Sys := n1; clear p; subst n1) | (have p : Et := n1; clear p; subst n1) | (have p : Hm := n1; clear p; subst n1) | (have p : Opt := n1; clear p; subst n1) | (have p : Xg := n1; clear p; subst n1) | (have p : Sns := n1; clear p; subst n1) | (have p : Ev := n1; clear p; subst n1) | clear_value n1)
    | (with_reducible refine Keeps.foldl (fun t x h => ?_) ?_)
    | with_reducible apply Keeps.arm_keeps
    | with_reducible apply Keeps.finishOp_keeps
    | with_reducible apply Keeps.modOp_keeps
    | with_reducible apply Keeps.modSlot_keeps
    | (simp -zeta only [Keeps.mark]; with_reducible refine KeepsLit.intro rfl ?_ ?_ ?_)
    | (with_reducible refine Keeps.ite ?_ ?_)
    | split

theorem Keeps.overlayStaged_keeps {gs : List Group} (hg : [.mbx, .cfg] ⊆ gs) {o0 s : State} (h0 : Keeps gs o0 s) (h : Nat) : Keeps gs o0 (State.overlayStaged s h) := by
  unfold State.overlayStaged
  repeat' first
    | with_reducible assumption
    | with_reducible exact List.Subset.trans (by decide) hg
    | with_reducible exact Regular.keep rfl
    | (intro g hgn; cases g <;> first | exact (Keeps.out hg (by decide) hgn).elim | with_reducible rfl)
    | (extract_lets +onlyGivenNames s1; refine Keeps.have_ (gs := gs) (o := o0) (t := s1) ?_ (fun h => ?_); (on_goal 1 => subst s1); (on_goal 2 => try clear_value s1))
    | (extract_lets +onlyGivenNames n1; first | (have p : Sys := n1; clear p; subst n1) | (have p : Et := n1; clear p; subst n1) | (have p : Hm := n1; clear p; subst n1) | (have p : Opt := n1; clear p; subst n1) | (have p : Xg := n1; clear p; subst n1) | (have p : Sns := n1; clear p; subst n1) | (have p : Ev := n1; clear p; subst n1) | clear_value n1)
    | (with_reducible refine Keeps.foldl (fun t x h => ?_) ?_)
    | with_reducible apply Keeps.applyOverlay_keeps
    | with_reducible apply Keeps.finishOp_keeps
    | with_reducible apply Keeps.modOp_keeps
    | (simp -zeta only [Keeps.mark]; with_reducible refine KeepsLit.intro rfl ?_ ?_ ?_)
    | split

theorem Keeps.refence_keeps {gs : List Group} (hg : [.mbx, .cfg] ⊆ gs) {o0 s : State} (h0 : Keeps gs o0 s) (e : Fence) : Keeps gs o0 (State.refence s e) := by
  unfold State.refence
  repeat' first
    | with_reducible assumption
    | with_reducible exact List.Subset.trans (by decide) hg
    | with_reducible exact Regular.keep rfl
    | (intro g hgn; cases g <;> first | exact (Keeps.out hg (by decide) hgn).elim | with_reducible rfl)
    | (extract_lets +onlyGivenNames s1; refine Keeps.have_ (gs := gs) (o := o0) (t := s1) ?_ (fun h => ?_); (on_goal 1 => subst s1); (on_goal 2 => try clear_value s1))
    | (extract_lets +onlyGivenNames n1; first | (have p : Sys := n1; clear p; subst n1) | (have p : Et := n1; clear p; subst n1) | (have p : Hm := n1; clear p; subst n1) | (have p : Opt := n1; clear p; subst n1) | (have p : Xg := n1; clear p; subst n1) | (have p : Sns := n1; clear p; subst n1) | (have p : Ev := n1; clear p; subst n1) | clear_value n1)
    | (with_reducible refine Keeps.foldl (fun t x h => ?_) ?_)
    | with_reducible apply Keeps.applyOverlay_keeps
    | (simp -zeta only [Keeps.mark]; with_reducible refine KeepsLit.intro rfl ?_ ?_ ?_)
    | (with_reducible refine Keeps.ite ?_ ?_)
    | split

theorem Keeps.cmdOverlayApply_keeps {gs : List Group} (hg : [.mbx, .cfg] ⊆ gs) {o0 s : State} (h0 : Keeps gs o0 s) (q : Req) : KeepsRes gs o0 (cmdOverlayApply q s) := by
  unfold cmdOverlayApply
  repeat' first
    | with_reducible assumption
    | with_reducible exact List.Subset.trans (by decide) hg
    | with_reducible exact Regular.keep rfl
    | (intro g hgn; cases g <;> first | exact (Keeps.out hg (by decide) hgn).elim | with_reducible rfl)
    | (extract_lets +onlyGivenNames s1; refine KeepsRes.have_ (gs := gs) (o := o0) (r := s1) ?_ (fun h => ?_); (on_goal 1 => subst s1); (on_goal 2 => try clear_value s1))
    | (extract_lets +onlyGivenNames s1; refine Keeps.have_ (gs := gs) (o := o0) (t := s1) ?_ (fun h => ?_); (on_goal 1 => subst s1); (on_goal 2 => try clear_value s1))
    | (extract_lets +onlyGivenNames n1; first | (have p : Sys := n1; clear p; subst n1) | (have p : Et := n1; clear p; subst n1) | (have p : Hm := n1; clear p; subst n1) | (have p : Opt := n1; clear p; subst n1) | (have p : Xg := n1; clear p; subst n1) | (have p : Sns := n1; clear p; subst n1) | (have p : Ev := n1; clear p; subst n1) | clear_value n1)
    | (with_reducible refine Keeps.foldl (fun t x h => ?_) ?_)
    | (with_reducible refine KeepsRes.done ?_)
    | (with_reducible refine KeepsRes.wait ?_)
    | (with_reducible refine KeepsRes.refuse ?_)
    | with_reducible apply Keeps.applyOverlay_keeps
    | (with_reducible refine Keeps.startOp_keeps ?_ ?_ _ _ _ (fun i t h => ?_))
    | with_reducible apply Keeps.refuse_keeps
    | (simp -zeta only [Keeps.mark]; with_reducible refine KeepsLit.intro rfl ?_ ?_ ?_)
    | (with_reducible refine Keeps.ite ?_ ?_)
    | split

theorem Keeps.execOverlayApply_keeps {gs : List Group} (hg : [.mbx, .cfg] ⊆ gs) {o0 s : State} (h0 : Keeps gs o0 s) (q : Req) : KeepsOut gs o0 (execOverlayApply q s) := by
  unfold execOverlayApply
  repeat' first
    | with_reducible assumption
    | with_reducible exact List.Subset.trans (by decide) hg
    | with_reducible exact Regular.keep rfl
    | (intro g hgn; cases g <;> first | exact (Keeps.out hg (by decide) hgn).elim | with_reducible rfl)
    | (extract_lets +onlyGivenNames s1; refine Keeps.have_ (gs := gs) (o := o0) (t := s1) ?_ (fun h => ?_); (on_goal 1 => subst s1); (on_goal 2 => try clear_value s1))
    | (extract_lets +onlyGivenNames n1; first | (have p : Sys := n1; clear p; subst n1) | (have p : Et := n1; clear p; subst n1) | (have p : Hm := n1; clear p; subst n1) | (have p : Opt := n1; clear p; subst n1) | (have p : Xg := n1; clear p; subst n1) | (have p : Sns := n1; clear p; subst n1) | (have p : Ev := n1; clear p; subst n1) | clear_value n1)
    | (with_reducible refine Keeps.foldl (fun t x h => ?_) ?_)
    | (with_reducible refine KeepsOut.next ?_)
    | (with_reducible refine Keeps.submit_keeps ?_ ?_ _ _ (fun q t h => ?_) _)
    | with_reducible apply Keeps.cmdOverlayApply_keeps
    | (simp -zeta only [Keeps.mark]; with_reducible refine KeepsLit.intro rfl ?_ ?_ ?_)
    | split

theorem Keeps.cmdOverlayWithdraw_keeps {gs : List Group} (hg : [.cfg] ⊆ gs) {o0 s : State} (h0 : Keeps gs o0 s) (q : Req) : KeepsRes gs o0 (cmdOverlayWithdraw q s) := by
  unfold cmdOverlayWithdraw
  repeat' first
    | with_reducible assumption
    | with_reducible exact List.Subset.trans (by decide) hg
    | with_reducible exact Regular.keep rfl
    | (intro g hgn; cases g <;> first | exact (Keeps.out hg (by decide) hgn).elim | with_reducible rfl)
    | (extract_lets +onlyGivenNames s1; refine KeepsRes.have_ (gs := gs) (o := o0) (r := s1) ?_ (fun h => ?_); (on_goal 1 => subst s1); (on_goal 2 => try clear_value s1))
    | (extract_lets +onlyGivenNames s1; refine Keeps.have_ (gs := gs) (o := o0) (t := s1) ?_ (fun h => ?_); (on_goal 1 => subst s1); (on_goal 2 => try clear_value s1))
    | (extract_lets +onlyGivenNames n1; first | (have p : Sys := n1; clear p; subst n1) | (have p : Et := n1; clear p; subst n1) | (have p : Hm := n1; clear p; subst n1) | (have p : Opt := n1; clear p; subst n1) | (have p : Xg := n1; clear p; subst n1) | (have p : Sns := n1; clear p; subst n1) | (have p : Ev := n1; clear p; subst n1) | clear_value n1)
    | (with_reducible refine Keeps.foldl (fun t x h => ?_) ?_)
    | (with_reducible refine KeepsRes.done ?_)
    | (with_reducible refine KeepsRes.wait ?_)
    | (with_reducible refine KeepsRes.refuse ?_)
    | with_reducible apply Keeps.arm_keeps
    | with_reducible apply Keeps.refuse_keeps
    | (simp -zeta only [Keeps.mark]; with_reducible refine KeepsLit.intro rfl ?_ ?_ ?_)
    | (with_reducible refine Keeps.ite ?_ ?_)
    | split

theorem Keeps.execOverlayWithdraw_keeps {gs : List Group} (hg : [.mbx, .cfg] ⊆ gs) {o0 s : State} (h0 : Keeps gs o0 s) (q : Req) : KeepsOut gs o0 (execOverlayWithdraw q s) := by
  unfold execOverlayWithdraw
  repeat' first
    | with_reducible assumption
    | with_reducible exact List.Subset.trans (by decide) hg
    | with_reducible exact Regular.keep rfl
    | (intro g hgn; cases g <;> first | exact (Keeps.out hg (by decide) hgn).elim | with_reducible rfl)
    | (extract_lets +onlyGivenNames s1; refine Keeps.have_ (gs := gs) (o := o0) (t := s1) ?_ (fun h => ?_); (on_goal 1 => subst s1); (on_goal 2 => try clear_value s1))
    | (extract_lets +onlyGivenNames n1; first | (have p : Sys := n1; clear p; subst n1) | (have p : Et := n1; clear p; subst n1) | (have p : Hm := n1; clear p; subst n1) | (have p : Opt := n1; clear p; subst n1) | (have p : Xg := n1; clear p; subst n1) | (have p : Sns := n1; clear p; subst n1) | (have p : Ev := n1; clear p; subst n1) | clear_value n1)
    | (with_reducible refine Keeps.foldl (fun t x h => ?_) ?_)
    | (with_reducible refine KeepsOut.next ?_)
    | (with_reducible refine Keeps.submit_keeps ?_ ?_ _ _ (fun q t h => ?_) _)
    | with_reducible apply Keeps.cmdOverlayWithdraw_keeps
    | (simp -zeta only [Keeps.mark]; with_reducible refine KeepsLit.intro rfl ?_ ?_ ?_)
    | split

theorem Keeps.cmdModeSet_keeps {gs : List Group} (hg : [.cfg] ⊆ gs) {o0 s : State} (h0 : Keeps gs o0 s) (q : Req) : KeepsRes gs o0 (cmdModeSet q s) := by
  unfold cmdModeSet
  repeat' first
    | with_reducible assumption
    | with_reducible exact List.Subset.trans (by decide) hg
    | with_reducible exact Regular.keep rfl
    | (intro g hgn; cases g <;> first | exact (Keeps.out hg (by decide) hgn).elim | with_reducible rfl)
    | (extract_lets +onlyGivenNames s1; refine KeepsRes.have_ (gs := gs) (o := o0) (r := s1) ?_ (fun h => ?_); (on_goal 1 => subst s1); (on_goal 2 => try clear_value s1))
    | (extract_lets +onlyGivenNames s1; refine Keeps.have_ (gs := gs) (o := o0) (t := s1) ?_ (fun h => ?_); (on_goal 1 => subst s1); (on_goal 2 => try clear_value s1))
    | (extract_lets +onlyGivenNames n1; first | (have p : Sys := n1; clear p; subst n1) | (have p : Et := n1; clear p; subst n1) | (have p : Hm := n1; clear p; subst n1) | (have p : Opt := n1; clear p; subst n1) | (have p : Xg := n1; clear p; subst n1) | (have p : Sns := n1; clear p; subst n1) | (have p : Ev := n1; clear p; subst n1) | clear_value n1)
    | (with_reducible refine Keeps.foldl (fun t x h => ?_) ?_)
    | (with_reducible refine KeepsRes.done ?_)
    | (with_reducible refine KeepsRes.wait ?_)
    | (with_reducible refine KeepsRes.refuse ?_)
    | with_reducible apply Keeps.arm_keeps
    | with_reducible apply Keeps.refuse_keeps
    | (simp -zeta only [Keeps.mark]; with_reducible refine KeepsLit.intro rfl ?_ ?_ ?_)
    | (with_reducible refine Keeps.ite ?_ ?_)
    | split

theorem Keeps.execModeSet_keeps {gs : List Group} (hg : [.mbx, .cfg] ⊆ gs) {o0 s : State} (h0 : Keeps gs o0 s) (q : Req) : KeepsOut gs o0 (execModeSet q s) := by
  unfold execModeSet
  repeat' first
    | with_reducible assumption
    | with_reducible exact List.Subset.trans (by decide) hg
    | with_reducible exact Regular.keep rfl
    | (intro g hgn; cases g <;> first | exact (Keeps.out hg (by decide) hgn).elim | with_reducible rfl)
    | (extract_lets +onlyGivenNames s1; refine Keeps.have_ (gs := gs) (o := o0) (t := s1) ?_ (fun h => ?_); (on_goal 1 => subst s1); (on_goal 2 => try clear_value s1))
    | (extract_lets +onlyGivenNames n1; first | (have p : Sys := n1; clear p; subst n1) | (have p : Et := n1; clear p; subst n1) | (have p : Hm := n1; clear p; subst n1) | (have p : Opt := n1; clear p; subst n1) | (have p : Xg := n1; clear p; subst n1) | (have p : Sns := n1; clear p; subst n1) | (have p : Ev := n1; clear p; subst n1) | clear_value n1)
    | (with_reducible refine Keeps.foldl (fun t x h => ?_) ?_)
    | (with_reducible refine KeepsOut.next ?_)
    | (with_reducible refine Keeps.submit_keeps ?_ ?_ _ _ (fun q t h => ?_) _)
    | with_reducible apply Keeps.cmdModeSet_keeps
    | (simp -zeta only [Keeps.mark]; with_reducible refine KeepsLit.intro rfl ?_ ?_ ?_)
    | split

theorem Keeps.modTherm_keeps {gs : List Group} (hg : [.sns] ⊆ gs) {o0 s : State} (h0 : Keeps gs o0 s) (i : Nat) (f : SiteTherm → SiteTherm) : Keeps gs o0 (State.modTherm s i f) := by
  unfold State.modTherm
  repeat' first
    | with_reducible assumption
    | with_reducible exact List.Subset.trans (by decide) hg
    | with_reducible exact Regular.keep rfl
    | (intro g hgn; cases g <;> first | exact (Keeps.out hg (by decide) hgn).elim | with_reducible rfl)
    | (extract_lets +onlyGivenNames s1; refine Keeps.have_ (gs := gs) (o := o0) (t := s1) ?_ (fun h => ?_); (on_goal 1 => subst s1); (on_goal 2 => try clear_value s1))
    | (extract_lets +onlyGivenNames n1; first | (have p : Sys := n1; clear p; subst n1) | (have p : Et := n1; clear p; subst n1) | (have p : Hm := n1; clear p; subst n1) | (have p : Opt := n1; clear p; subst n1) | (have p : Xg := n1; clear p; subst n1) | (have p : Sns := n1; clear p; subst n1) | (have p : Ev := n1; clear p; subst n1) | clear_value n1)
    | (with_reducible refine Keeps.foldl (fun t x h => ?_) ?_)
    | (simp -zeta only [Keeps.mark]; with_reducible refine KeepsLit.intro rfl ?_ ?_ ?_)
    | split

theorem Keeps.modTile_keeps {gs : List Group} (hg : [.sns] ⊆ gs) {o0 s : State} (h0 : Keeps gs o0 s) (t : Nat) (f : Tile → Tile) : Keeps gs o0 (State.modTile s t f) := by
  unfold State.modTile
  repeat' first
    | with_reducible assumption
    | with_reducible exact List.Subset.trans (by decide) hg
    | with_reducible exact Regular.keep rfl
    | (intro g hgn; cases g <;> first | exact (Keeps.out hg (by decide) hgn).elim | with_reducible rfl)
    | (extract_lets +onlyGivenNames s1; refine Keeps.have_ (gs := gs) (o := o0) (t := s1) ?_ (fun h => ?_); (on_goal 1 => subst s1); (on_goal 2 => try clear_value s1))
    | (extract_lets +onlyGivenNames n1; first | (have p : Sys := n1; clear p; subst n1) | (have p : Et := n1; clear p; subst n1) | (have p : Hm := n1; clear p; subst n1) | (have p : Opt := n1; clear p; subst n1) | (have p : Xg := n1; clear p; subst n1) | (have p : Sns := n1; clear p; subst n1) | (have p : Ev := n1; clear p; subst n1) | clear_value n1)
    | (with_reducible refine Keeps.foldl (fun t x h => ?_) ?_)
    | (simp -zeta only [Keeps.mark]; with_reducible refine KeepsLit.intro rfl ?_ ?_ ?_)
    | split

theorem Keeps.execSensorFault_keeps {gs : List Group} (hg : [.reg, .sns, .ev] ⊆ gs) {o0 s : State} (h0 : Keeps gs o0 s) (r : RegionNo) (k : SensorKind) : KeepsOut gs o0 (execSensorFault r k s) := by
  unfold execSensorFault
  repeat' first
    | with_reducible assumption
    | with_reducible exact List.Subset.trans (by decide) hg
    | with_reducible exact Regular.keep rfl
    | (intro g hgn; cases g <;> first | exact (Keeps.out hg (by decide) hgn).elim | with_reducible rfl)
    | (extract_lets +onlyGivenNames s1; refine Keeps.have_ (gs := gs) (o := o0) (t := s1) ?_ (fun h => ?_); (on_goal 1 => subst s1); (on_goal 2 => try clear_value s1))
    | (extract_lets +onlyGivenNames n1; first | (have p : Sys := n1; clear p; subst n1) | (have p : Et := n1; clear p; subst n1) | (have p : Hm := n1; clear p; subst n1) | (have p : Opt := n1; clear p; subst n1) | (have p : Xg := n1; clear p; subst n1) | (have p : Sns := n1; clear p; subst n1) | (have p : Ev := n1; clear p; subst n1) | clear_value n1)
    | (with_reducible refine Keeps.foldl (fun t x h => ?_) ?_)
    | (with_reducible refine KeepsOut.next ?_)
    | with_reducible apply Keeps.modRgn_keeps
    | with_reducible apply Keeps.raise_keeps
    | (simp -zeta only [Keeps.mark]; with_reducible refine KeepsLit.intro rfl ?_ ?_ ?_)
    | (with_reducible refine Keeps.ite ?_ ?_)
    | split

theorem Keeps.execSensorRecovered_keeps {gs : List Group} (hg : [.reg] ⊆ gs) {o0 s : State} (h0 : Keeps gs o0 s) (r : RegionNo) (k : SensorKind) : KeepsOut gs o0 (execSensorRecovered r k s) := by
  unfold execSensorRecovered
  repeat' first
    | with_reducible assumption
    | with_reducible exact List.Subset.trans (by decide) hg
    | with_reducible exact Regular.keep rfl
    | (intro g hgn; cases g <;> first | exact (Keeps.out hg (by decide) hgn).elim | with_reducible rfl)
    | (extract_lets +onlyGivenNames s1; refine Keeps.have_ (gs := gs) (o := o0) (t := s1) ?_ (fun h => ?_); (on_goal 1 => subst s1); (on_goal 2 => try clear_value s1))
    | (extract_lets +onlyGivenNames n1; first | (have p : Sys := n1; clear p; subst n1) | (have p : Et := n1; clear p; subst n1) | (have p : Hm := n1; clear p; subst n1) | (have p : Opt := n1; clear p; subst n1) | (have p : Xg := n1; clear p; subst n1) | (have p : Sns := n1; clear p; subst n1) | (have p : Ev := n1; clear p; subst n1) | clear_value n1)
    | (with_reducible refine Keeps.foldl (fun t x h => ?_) ?_)
    | (with_reducible refine KeepsOut.next ?_)
    | with_reducible apply Keeps.modRgn_keeps
    | (simp -zeta only [Keeps.mark]; with_reducible refine KeepsLit.intro rfl ?_ ?_ ?_)
    | (with_reducible refine Keeps.ite ?_ ?_)
    | split

theorem Keeps.ceilingFallback_keeps {gs : List Group} (hg : [.sns, .ev] ⊆ gs) {o0 s : State} (h0 : Keeps gs o0 s) (sites : List Nat) (arg : Nat) : Keeps gs o0 (State.ceilingFallback s sites arg) := by
  unfold State.ceilingFallback
  repeat' first
    | with_reducible assumption
    | with_reducible exact List.Subset.trans (by decide) hg
    | with_reducible exact Regular.keep rfl
    | (intro g hgn; cases g <;> first | exact (Keeps.out hg (by decide) hgn).elim | with_reducible rfl)
    | (extract_lets +onlyGivenNames s1; refine Keeps.have_ (gs := gs) (o := o0) (t := s1) ?_ (fun h => ?_); (on_goal 1 => subst s1); (on_goal 2 => try clear_value s1))
    | (extract_lets +onlyGivenNames n1; first | (have p : Sys := n1; clear p; subst n1) | (have p : Et := n1; clear p; subst n1) | (have p : Hm := n1; clear p; subst n1) | (have p : Opt := n1; clear p; subst n1) | (have p : Xg := n1; clear p; subst n1) | (have p : Sns := n1; clear p; subst n1) | (have p : Ev := n1; clear p; subst n1) | clear_value n1)
    | (with_reducible refine Keeps.foldl (fun t x h => ?_) ?_)
    | with_reducible apply Keeps.modTherm_keeps
    | with_reducible apply Keeps.raise_keeps
    | (simp -zeta only [Keeps.mark]; with_reducible refine KeepsLit.intro rfl ?_ ?_ ?_)
    | (with_reducible refine Keeps.ite ?_ ?_)
    | split

theorem Keeps.throttleCall_keeps {gs : List Group} (hg : [.sns, .cfg, .ev] ⊆ gs) {o0 s : State} (h0 : Keeps gs o0 s) (sites : List Nat) (arg : Nat) (wait : Sns → Sns) (hw : ∀ x, (wait x).frames = x.frames) : Keeps gs o0 (State.throttleCall s sites arg wait) := by
  unfold State.throttleCall
  repeat' first
    | with_reducible assumption
    | with_reducible exact List.Subset.trans (by decide) hg
    | exact fun h => { h with frames := (by dsimp only; rw [hw]; exact h.frames) }
    | with_reducible exact Regular.keep rfl
    | (intro g hgn; cases g <;> first | exact (Keeps.out hg (by decide) hgn).elim | with_reducible rfl)
    | (extract_lets +onlyGivenNames s1; refine Keeps.have_ (gs := gs) (o := o0) (t := s1) ?_ (fun h => ?_); (on_goal 1 => subst s1); (on_goal 2 => try clear_value s1))
    | (extract_lets +onlyGivenNames n1; first | (have p : Sys := n1; clear p; subst n1) | (have p : Et := n1; clear p; subst n1) | (have p : Hm := n1; clear p; subst n1) | (have p : Opt := n1; clear p; subst n1) | (have p : Xg := n1; clear p; subst n1) | (have p : Sns := n1; clear p; subst n1) | (have p : Ev := n1; clear p; subst n1) | clear_value n1)
    | (with_reducible refine Keeps.foldl (fun t x h => ?_) ?_)
    | with_reducible apply Keeps.callThrottle_keeps
    | with_reducible apply Keeps.ceilingFallback_keeps
    | (simp -zeta only [Keeps.mark]; with_reducible refine KeepsLit.intro rfl ?_ ?_ ?_)
    | (with_reducible refine KeepsOpt.getD ?_ ?_)
    | (with_reducible refine Keeps.optEq (by assumption) ?_)
    | (with_reducible refine Keeps.pairEq1 (by assumption) ?_)
    | (with_reducible refine Keeps.pairEq2 (by assumption) ?_)
    | (with_reducible refine Keeps.ite ?_ ?_)
    | split

theorem Keeps.throttleTile_keeps {gs : List Group} (hg : [.sns, .cfg, .ev] ⊆ gs) {o0 s : State} (h0 : Keeps gs o0 s) (t : Nat) : Keeps gs o0 (State.throttleTile s t) := by
  unfold State.throttleTile
  repeat' first
    | with_reducible assumption
    | with_reducible exact List.Subset.trans (by decide) hg
    | with_reducible exact Regular.keep rfl
    | (intro g hgn; cases g <;> first | exact (Keeps.out hg (by decide) hgn).elim | with_reducible rfl)
    | (extract_lets +onlyGivenNames s1; refine Keeps.have_ (gs := gs) (o := o0) (t := s1) ?_ (fun h => ?_); (on_goal 1 => subst s1); (on_goal 2 => try clear_value s1))
    | (extract_lets +onlyGivenNames n1; first | (have p : Sys := n1; clear p; subst n1) | (have p : Et := n1; clear p; subst n1) | (have p : Hm := n1; clear p; subst n1) | (have p : Opt := n1; clear p; subst n1) | (have p : Xg := n1; clear p; subst n1) | (have p : Sns := n1; clear p; subst n1) | (have p : Ev := n1; clear p; subst n1) | clear_value n1)
    | (with_reducible refine Keeps.foldl (fun t x h => ?_) ?_)
    | with_reducible apply Keeps.throttleCall_keeps
    | (simp -zeta only [Keeps.mark]; with_reducible refine KeepsLit.intro rfl ?_ ?_ ?_)
    | split
    | (intro x; rfl)

theorem Keeps.throttleSite_keeps {gs : List Group} (hg : [.sns, .cfg, .ev] ⊆ gs) {o0 s : State} (h0 : Keeps gs o0 s) (i : Nat) : Keeps gs o0 (State.throttleSite s i) := by
  unfold State.throttleSite
  repeat' first
    | with_reducible assumption
    | with_reducible exact List.Subset.trans (by decide) hg
    | with_reducible exact Regular.keep rfl
    | (intro g hgn; cases g <;> first | exact (Keeps.out hg (by decide) hgn).elim | with_reducible rfl)
    | (extract_lets +onlyGivenNames s1; refine Keeps.have_ (gs := gs) (o := o0) (t := s1) ?_ (fun h => ?_); (on_goal 1 => subst s1); (on_goal 2 => try clear_value s1))
    | (extract_lets +onlyGivenNames n1; first | (have p : Sys := n1; clear p; subst n1) | (have p : Et := n1; clear p; subst n1) | (have p : Hm := n1; clear p; subst n1) | (have p : Opt := n1; clear p; subst n1) | (have p : Xg := n1; clear p; subst n1) | (have p : Sns := n1; clear p; subst n1) | (have p : Ev := n1; clear p; subst n1) | clear_value n1)
    | (with_reducible refine Keeps.foldl (fun t x h => ?_) ?_)
    | with_reducible apply Keeps.throttleCall_keeps
    | (simp -zeta only [Keeps.mark]; with_reducible refine KeepsLit.intro rfl ?_ ?_ ?_)
    | split
    | (intro x; rfl)

theorem Keeps.throttleDue_keeps {gs : List Group} (hg : [.sns, .cfg, .ev] ⊆ gs) {o0 s : State} (h0 : Keeps gs o0 s) : Keeps gs o0 (State.throttleDue s) := by
  unfold State.throttleDue
  repeat' first
    | with_reducible assumption
    | with_reducible exact List.Subset.trans (by decide) hg
    | with_reducible exact Regular.keep rfl
    | (intro g hgn; cases g <;> first | exact (Keeps.out hg (by decide) hgn).elim | with_reducible rfl)
    | (extract_lets +onlyGivenNames s1; refine Keeps.have_ (gs := gs) (o := o0) (t := s1) ?_ (fun h => ?_); (on_goal 1 => subst s1); (on_goal 2 => try clear_value s1))
    | (extract_lets +onlyGivenNames n1; first | (have p : Sys := n1; clear p; subst n1) | (have p : Et := n1; clear p; subst n1) | (have p : Hm := n1; clear p; subst n1) | (have p : Opt := n1; clear p; subst n1) | (have p : Xg := n1; clear p; subst n1) | (have p : Sns := n1; clear p; subst n1) | (have p : Ev := n1; clear p; subst n1) | clear_value n1)
    | (with_reducible refine Keeps.foldl (fun t x h => ?_) ?_)
    | with_reducible apply Keeps.throttleSite_keeps
    | with_reducible apply Keeps.throttleTile_keeps
    | (simp -zeta only [Keeps.mark]; with_reducible refine KeepsLit.intro rfl ?_ ?_ ?_)
    | (with_reducible refine Keeps.ite ?_ ?_)
    | split

theorem Keeps.drawTemp_keeps {gs : List Group} (hg : [.fresh] ⊆ gs) {o0 s : State} (h0 : Keeps gs o0 s) : Keeps gs o0 (State.drawTemp s).2 := by
  unfold State.drawTemp
  repeat' first
    | with_reducible assumption
    | with_reducible exact List.Subset.trans (by decide) hg
    | with_reducible exact Regular.keep rfl
    | (intro g hgn; cases g <;> first | exact (Keeps.out hg (by decide) hgn).elim | with_reducible rfl)
    | (extract_lets +onlyGivenNames s1; refine Keeps.have_ (gs := gs) (o := o0) (t := s1) ?_ (fun h => ?_); (on_goal 1 => subst s1); (on_goal 2 => try clear_value s1))
    | (extract_lets +onlyGivenNames n1; first | (have p : Sys := n1; clear p; subst n1) | (have p : Et := n1; clear p; subst n1) | (have p : Hm := n1; clear p; subst n1) | (have p : Opt := n1; clear p; subst n1) | (have p : Xg := n1; clear p; subst n1) | (have p : Sns := n1; clear p; subst n1) | (have p : Ev := n1; clear p; subst n1) | clear_value n1)
    | (with_reducible refine Keeps.foldl (fun t x h => ?_) ?_)
    | (with_reducible refine Keeps.foldl2 (fun t x h => ?_) ?_)
    | (with_reducible refine Keeps.foldl1 (fun t x h => ?_) ?_)
    | (dsimp -zeta only)
    | with_reducible apply Keeps.draw_keeps
    | (simp -zeta only [Keeps.mark]; with_reducible refine KeepsLit.intro rfl ?_ ?_ ?_)
    | (with_reducible refine KeepsOpt.getD ?_ ?_)
    | (with_reducible refine Keeps.optEq (by assumption) ?_)
    | (with_reducible refine Keeps.pairEq1 (by assumption) ?_)
    | (with_reducible refine Keeps.pairEq2 (by assumption) ?_)
    | split

theorem Keeps.readTile_keeps {gs : List Group} (hg : [.fresh, .sns] ⊆ gs) {o0 s : State} (h0 : Keeps gs o0 s) (t : Nat) (m : TileMeas) : Keeps gs o0 (State.readTile s t m) := by
  unfold State.readTile
  repeat' first
    | with_reducible assumption
    | with_reducible exact List.Subset.trans (by decide) hg
    | with_reducible exact Regular.keep rfl
    | (intro g hgn; cases g <;> first | exact (Keeps.out hg (by decide) hgn).elim | with_reducible rfl)
    | (extract_lets +onlyGivenNames s1; refine Keeps.have_ (gs := gs) (o := o0) (t := s1) ?_ (fun h => ?_); (on_goal 1 => subst s1); (on_goal 2 => try clear_value s1))
    | (extract_lets +onlyGivenNames n1; first | (have p : Sys := n1; clear p; subst n1) | (have p : Et := n1; clear p; subst n1) | (have p : Hm := n1; clear p; subst n1) | (have p : Opt := n1; clear p; subst n1) | (have p : Xg := n1; clear p; subst n1) | (have p : Sns := n1; clear p; subst n1) | (have p : Ev := n1; clear p; subst n1) | clear_value n1)
    | (with_reducible refine Keeps.foldl (fun t x h => ?_) ?_)
    | with_reducible apply Keeps.drawTemp_keeps
    | with_reducible apply Keeps.modTile_keeps
    | (simp -zeta only [Keeps.mark]; with_reducible refine KeepsLit.intro rfl ?_ ?_ ?_)
    | (with_reducible refine KeepsOpt.getD ?_ ?_)
    | (with_reducible refine Keeps.optEq (by assumption) ?_)
    | (with_reducible refine Keeps.pairEq1 (by assumption) ?_)
    | (with_reducible refine Keeps.pairEq2 (by assumption) ?_)
    | (with_reducible refine Keeps.ite ?_ ?_)
    | split

theorem Keeps.ringTile_keeps {gs : List Group} (hg : [.fresh, .sns, .cfg, .ev] ⊆ gs) {o0 s : State} (h0 : Keeps gs o0 s) (t : Nat) (m : TileMeas) : Keeps gs o0 (State.ringTile s t m) := by
  unfold State.ringTile
  repeat' first
    | with_reducible assumption
    | with_reducible exact List.Subset.trans (by decide) hg
    | with_reducible exact Regular.keep rfl
    | (intro g hgn; cases g <;> first | exact (Keeps.out hg (by decide) hgn).elim | with_reducible rfl)
    | (extract_lets +onlyGivenNames s1; refine Keeps.have_ (gs := gs) (o := o0) (t := s1) ?_ (fun h => ?_); (on_goal 1 => subst s1); (on_goal 2 => try clear_value s1))
    | (extract_lets +onlyGivenNames n1; first | (have p : Sys := n1; clear p; subst n1) | (have p : Et := n1; clear p; subst n1) | (have p : Hm := n1; clear p; subst n1) | (have p : Opt := n1; clear p; subst n1) | (have p : Xg := n1; clear p; subst n1) | (have p : Sns := n1; clear p; subst n1) | (have p : Ev := n1; clear p; subst n1) | clear_value n1)
    | (with_reducible refine Keeps.foldl (fun t x h => ?_) ?_)
    | with_reducible apply Keeps.modTile_keeps
    | with_reducible apply Keeps.raise_keeps
    | with_reducible apply Keeps.raiseIf_keeps
    | with_reducible apply Keeps.readTile_keeps
    | with_reducible apply Keeps.throttleTile_keeps
    | (simp -zeta only [Keeps.mark]; with_reducible refine KeepsLit.intro rfl ?_ ?_ ?_)
    | (with_reducible refine Keeps.ite ?_ ?_)
    | split

theorem Keeps.execRingPeriod_keeps {gs : List Group} (hg : [.fresh, .opt, .sns, .cfg, .ev] ⊆ gs) {o0 s : State} (h0 : Keeps gs o0 s) (ms : List TileMeas) : KeepsOut gs o0 (execRingPeriod ms s) := by
  unfold execRingPeriod
  repeat' first
    | with_reducible assumption
    | with_reducible exact List.Subset.trans (by decide) hg
    | with_reducible exact Regular.keep rfl
    | (intro g hgn; cases g <;> first | exact (Keeps.out hg (by decide) hgn).elim | with_reducible rfl)
    | (extract_lets +onlyGivenNames s1; refine Keeps.have_ (gs := gs) (o := o0) (t := s1) ?_ (fun h => ?_); (on_goal 1 => subst s1); (on_goal 2 => try clear_value s1))
    | (extract_lets +onlyGivenNames n1; first | (have p : Sys := n1; clear p; subst n1) | (have p : Et := n1; clear p; subst n1) | (have p : Hm := n1; clear p; subst n1) | (have p : Opt := n1; clear p; subst n1) | (have p : Xg := n1; clear p; subst n1) | (have p : Sns := n1; clear p; subst n1) | (have p : Ev := n1; clear p; subst n1) | clear_value n1)
    | (with_reducible refine Keeps.foldl (fun t x h => ?_) ?_)
    | (with_reducible refine KeepsOut.next ?_)
    | with_reducible apply Keeps.ringTile_keeps
    | (simp -zeta only [Keeps.mark]; with_reducible refine KeepsLit.intro rfl ?_ ?_ ?_)
    | (with_reducible refine Keeps.ite ?_ ?_)
    | split

theorem Keeps.enterLevel_keeps {gs : List Group} (hg : [.sys, .sns, .cfg, .ev] ⊆ gs) {o0 s : State} (h0 : Keeps gs o0 s) (i : Nat) (l : Nat) : Keeps gs o0 (State.enterLevel s i l) := by
  unfold State.enterLevel
  repeat' first
    | with_reducible assumption
    | with_reducible exact List.Subset.trans (by decide) hg
    | with_reducible exact Regular.keep rfl
    | (intro g hgn; cases g <;> first | exact (Keeps.out hg (by decide) hgn).elim | with_reducible rfl)
    | (extract_lets +onlyGivenNames s1; refine Keeps.have_ (gs := gs) (o := o0) (t := s1) ?_ (fun h => ?_); (on_goal 1 => subst s1); (on_goal 2 => try clear_value s1))
    | (extract_lets +onlyGivenNames n1; first | (have p : Sys := n1; clear p; subst n1) | (have p : Et := n1; clear p; subst n1) | (have p : Hm := n1; clear p; subst n1) | (have p : Opt := n1; clear p; subst n1) | (have p : Xg := n1; clear p; subst n1) | (have p : Sns := n1; clear p; subst n1) | (have p : Ev := n1; clear p; subst n1) | clear_value n1)
    | (with_reducible refine Keeps.foldl (fun t x h => ?_) ?_)
    | with_reducible apply Keeps.raise_keeps
    | with_reducible apply Keeps.throttleSite_keeps
    | (simp -zeta only [Keeps.mark]; with_reducible refine KeepsLit.intro rfl ?_ ?_ ?_)
    | (with_reducible refine Keeps.ite ?_ ?_)
    | split

theorem Keeps.siteLevel_keeps {gs : List Group} (hg : [.sys, .sns, .cfg, .ev] ⊆ gs) {o0 s : State} (h0 : Keeps gs o0 s) (i : Nat) : Keeps gs o0 (State.siteLevel s i) := by
  unfold State.siteLevel
  repeat' first
    | with_reducible assumption
    | with_reducible exact List.Subset.trans (by decide) hg
    | with_reducible exact Regular.keep rfl
    | (intro g hgn; cases g <;> first | exact (Keeps.out hg (by decide) hgn).elim | with_reducible rfl)
    | (extract_lets +onlyGivenNames s1; refine Keeps.have_ (gs := gs) (o := o0) (t := s1) ?_ (fun h => ?_); (on_goal 1 => subst s1); (on_goal 2 => try clear_value s1))
    | (extract_lets +onlyGivenNames n1; first | (have p : Sys := n1; clear p; subst n1) | (have p : Et := n1; clear p; subst n1) | (have p : Hm := n1; clear p; subst n1) | (have p : Opt := n1; clear p; subst n1) | (have p : Xg := n1; clear p; subst n1) | (have p : Sns := n1; clear p; subst n1) | (have p : Ev := n1; clear p; subst n1) | clear_value n1)
    | (with_reducible refine Keeps.foldl (fun t x h => ?_) ?_)
    | with_reducible apply Keeps.enterLevel_keeps
    | with_reducible apply Keeps.modTherm_keeps
    | (simp -zeta only [Keeps.mark]; with_reducible refine KeepsLit.intro rfl ?_ ?_ ?_)
    | split

theorem Keeps.writeFrame_keeps {gs : List Group} (hg : [.fresh, .sns] ⊆ gs) {o0 s : State} (h0 : Keeps gs o0 s) : Keeps gs o0 (State.writeFrame s) := by
  unfold State.writeFrame
  repeat' first
    | with_reducible assumption
    | with_reducible exact List.Subset.trans (by decide) hg
    | exact fun h => { h with frames := List.length_take_le _ _ }
    | with_reducible exact Regular.keep rfl
    | (intro g hgn; cases g <;> first | exact (Keeps.out hg (by decide) hgn).elim | with_reducible rfl)
    | (extract_lets +onlyGivenNames s1; refine Keeps.have_ (gs := gs) (o := o0) (t := s1) ?_ (fun h => ?_); (on_goal 1 => subst s1); (on_goal 2 => try clear_value s1))
    | (extract_lets +onlyGivenNames n1; first | (have p : Sys := n1; clear p; subst n1) | (have p : Et := n1; clear p; subst n1) | (have p : Hm := n1; clear p; subst n1) | (have p : Opt := n1; clear p; subst n1) | (have p : Xg := n1; clear p; subst n1) | (have p : Sns := n1; clear p; subst n1) | (have p : Ev := n1; clear p; subst n1) | clear_value n1)
    | (with_reducible refine Keeps.foldl (fun t x h => ?_) ?_)
    | (simp -zeta only [Keeps.mark]; with_reducible refine KeepsLit.intro rfl ?_ ?_ ?_)
    | split

theorem Keeps.modField_keeps {gs : List Group} (hg : [.sns] ⊆ gs) {o0 s : State} (h0 : Keeps gs o0 s) (k : Nat) (f : Field → Field) : Keeps gs o0 (State.modField s k f) := by
  unfold State.modField
  repeat' first
    | with_reducible assumption
    | with_reducible exact List.Subset.trans (by decide) hg
    | with_reducible exact Regular.keep rfl
    | (intro g hgn; cases g <;> first | exact (Keeps.out hg (by decide) hgn).elim | with_reducible rfl)
    | (extract_lets +onlyGivenNames s1; refine Keeps.have_ (gs := gs) (o := o0) (t := s1) ?_ (fun h => ?_); (on_goal 1 => subst s1); (on_goal 2 => try clear_value s1))
    | (extract_lets +onlyGivenNames n1; first | (have p : Sys := n1; clear p; subst n1) | (have p : Et := n1; clear p; subst n1) | (have p : Hm := n1; clear p; subst n1) | (have p : Opt := n1; clear p; subst n1) | (have p : Xg := n1; clear p; subst n1) | (have p : Sns := n1; clear p; subst n1) | (have p : Ev := n1; clear p; subst n1) | clear_value n1)
    | (with_reducible refine Keeps.foldl (fun t x h => ?_) ?_)
    | (simp -zeta only [Keeps.mark]; with_reducible refine KeepsLit.intro rfl ?_ ?_ ?_)
    | split

theorem Keeps.fieldsSee_keeps {gs : List Group} (hg : [.sns] ⊆ gs) {o0 s : State} (h0 : Keeps gs o0 s) : Keeps gs o0 (State.fieldsSee s) := by
  unfold State.fieldsSee
  repeat' first
    | with_reducible assumption
    | with_reducible exact List.Subset.trans (by decide) hg
    | with_reducible exact Regular.keep rfl
    | (intro g hgn; cases g <;> first | exact (Keeps.out hg (by decide) hgn).elim | with_reducible rfl)
    | (extract_lets +onlyGivenNames s1; refine Keeps.have_ (gs := gs) (o := o0) (t := s1) ?_ (fun h => ?_); (on_goal 1 => subst s1); (on_goal 2 => try clear_value s1))
    | (extract_lets +onlyGivenNames n1; first | (have p : Sys := n1; clear p; subst n1) | (have p : Et := n1; clear p; subst n1) | (have p : Hm := n1; clear p; subst n1) | (have p : Opt := n1; clear p; subst n1) | (have p : Xg := n1; clear p; subst n1) | (have p : Sns := n1; clear p; subst n1) | (have p : Ev := n1; clear p; subst n1) | clear_value n1)
    | (with_reducible refine Keeps.foldl (fun t x h => ?_) ?_)
    | with_reducible apply Keeps.modField_keeps
    | (simp -zeta only [Keeps.mark]; with_reducible refine KeepsLit.intro rfl ?_ ?_ ?_)
    | split

theorem Keeps.stress_keeps {gs : List Group} (hg : [.reg, .sns] ⊆ gs) {o0 s : State} (h0 : Keeps gs o0 s) (r : RegionNo) : Keeps gs o0 (State.stress s r) := by
  unfold State.stress
  repeat' first
    | with_reducible assumption
    | with_reducible exact List.Subset.trans (by decide) hg
    | with_reducible exact Regular.keep rfl
    | (intro g hgn; cases g <;> first | exact (Keeps.out hg (by decide) hgn).elim | with_reducible rfl)
    | (extract_lets +onlyGivenNames s1; refine Keeps.have_ (gs := gs) (o := o0) (t := s1) ?_ (fun h => ?_); (on_goal 1 => subst s1); (on_goal 2 => try clear_value s1))
    | (extract_lets +onlyGivenNames n1; first | (have p : Sys := n1; clear p; subst n1) | (have p : Et := n1; clear p; subst n1) | (have p : Hm := n1; clear p; subst n1) | (have p : Opt := n1; clear p; subst n1) | (have p : Xg := n1; clear p; subst n1) | (have p : Sns := n1; clear p; subst n1) | (have p : Ev := n1; clear p; subst n1) | clear_value n1)
    | (with_reducible refine Keeps.foldl (fun t x h => ?_) ?_)
    | with_reducible apply Keeps.modRgn_keeps
    | (simp -zeta only [Keeps.mark]; with_reducible refine KeepsLit.intro rfl ?_ ?_ ?_)
    | (with_reducible refine Keeps.ite ?_ ?_)
    | split

theorem Keeps.fieldWear_keeps {gs : List Group} (hg : [.mbx, .opt, .sns, .ev] ⊆ gs) {o0 s : State} (h0 : Keeps gs o0 s) (k : Nat) : Keeps gs o0 (State.fieldWear s k) := by
  unfold State.fieldWear
  repeat' first
    | with_reducible assumption
    | with_reducible exact List.Subset.trans (by decide) hg
    | with_reducible exact Regular.keep rfl
    | (intro g hgn; cases g <;> first | exact (Keeps.out hg (by decide) hgn).elim | with_reducible rfl)
    | (extract_lets +onlyGivenNames s1; refine Keeps.have_ (gs := gs) (o := o0) (t := s1) ?_ (fun h => ?_); (on_goal 1 => subst s1); (on_goal 2 => try clear_value s1))
    | (extract_lets +onlyGivenNames n1; first | (have p : Sys := n1; clear p; subst n1) | (have p : Et := n1; clear p; subst n1) | (have p : Hm := n1; clear p; subst n1) | (have p : Opt := n1; clear p; subst n1) | (have p : Xg := n1; clear p; subst n1) | (have p : Sns := n1; clear p; subst n1) | (have p : Ev := n1; clear p; subst n1) | clear_value n1)
    | (with_reducible refine Keeps.foldl (fun t x h => ?_) ?_)
    | with_reducible apply Keeps.callRoute_keeps
    | with_reducible apply Keeps.modField_keeps
    | with_reducible apply Keeps.raise_keeps
    | with_reducible apply Keeps.requestIns_keeps
    | (simp -zeta only [Keeps.mark]; with_reducible refine KeepsLit.intro rfl ?_ ?_ ?_)
    | (with_reducible refine Keeps.ite ?_ ?_)
    | split

theorem Keeps.oscWear_keeps {gs : List Group} (hg : [.mbx, .reg, .opt, .ev] ⊆ gs) {o0 s : State} (h0 : Keeps gs o0 s) (r : RegionNo) : Keeps gs o0 (State.oscWear s r) := by
  unfold State.oscWear
  repeat' first
    | with_reducible assumption
    | with_reducible exact List.Subset.trans (by decide) hg
    | with_reducible exact Regular.keep rfl
    | (intro g hgn; cases g <;> first | exact (Keeps.out hg (by decide) hgn).elim | with_reducible rfl)
    | (extract_lets +onlyGivenNames s1; refine Keeps.have_ (gs := gs) (o := o0) (t := s1) ?_ (fun h => ?_); (on_goal 1 => subst s1); (on_goal 2 => try clear_value s1))
    | (extract_lets +onlyGivenNames n1; first | (have p : Sys := n1; clear p; subst n1) | (have p : Et := n1; clear p; subst n1) | (have p : Hm := n1; clear p; subst n1) | (have p : Opt := n1; clear p; subst n1) | (have p : Xg := n1; clear p; subst n1) | (have p : Sns := n1; clear p; subst n1) | (have p : Ev := n1; clear p; subst n1) | clear_value n1)
    | (with_reducible refine Keeps.foldl (fun t x h => ?_) ?_)
    | with_reducible apply Keeps.modRgn_keeps
    | with_reducible apply Keeps.raise_keeps
    | with_reducible apply Keeps.requestIns_keeps
    | (simp -zeta only [Keeps.mark]; with_reducible refine KeepsLit.intro rfl ?_ ?_ ?_)
    | (with_reducible refine Keeps.ite ?_ ?_)
    | split

theorem Keeps.wearCheck_keeps {gs : List Group} (hg : [.mbx, .reg, .opt, .sns, .ev] ⊆ gs) {o0 s : State} (h0 : Keeps gs o0 s) : Keeps gs o0 (State.wearCheck s) := by
  unfold State.wearCheck
  repeat' first
    | with_reducible assumption
    | with_reducible exact List.Subset.trans (by decide) hg
    | with_reducible exact Regular.keep rfl
    | (intro g hgn; cases g <;> first | exact (Keeps.out hg (by decide) hgn).elim | with_reducible rfl)
    | (extract_lets +onlyGivenNames s1; refine Keeps.have_ (gs := gs) (o := o0) (t := s1) ?_ (fun h => ?_); (on_goal 1 => subst s1); (on_goal 2 => try clear_value s1))
    | (extract_lets +onlyGivenNames n1; first | (have p : Sys := n1; clear p; subst n1) | (have p : Et := n1; clear p; subst n1) | (have p : Hm := n1; clear p; subst n1) | (have p : Opt := n1; clear p; subst n1) | (have p : Xg := n1; clear p; subst n1) | (have p : Sns := n1; clear p; subst n1) | (have p : Ev := n1; clear p; subst n1) | clear_value n1)
    | (with_reducible refine Keeps.foldl (fun t x h => ?_) ?_)
    | with_reducible apply Keeps.fieldWear_keeps
    | with_reducible apply Keeps.oscWear_keeps
    | (simp -zeta only [Keeps.mark]; with_reducible refine KeepsLit.intro rfl ?_ ?_ ?_)
    | (with_reducible refine Keeps.ite ?_ ?_)
    | split

theorem Keeps.execFrameEnd_keeps {gs : List Group} (hg : [.fresh, .sys, .mbx, .reg, .opt, .sns, .cfg, .ev] ⊆ gs) {o0 s : State} (h0 : Keeps gs o0 s) : KeepsOut gs o0 (execFrameEnd s) := by
  have sub : ∀ {ts : List Group}, ts ⊆ [.fresh, .sys, .mbx, .reg, .opt, .sns, .cfg, .ev] → ts ⊆ gs := fun h => List.Subset.trans h hg
  have setS : ∀ (t : State) (w : Word) (v : Option Nat) (a b c d : Machine.Lat), Keeps gs o0 t →
      Keeps gs o0 { t with sns := { t.sns with throt := w, severe := v, ctrl := a, thresh := b, ceil := c, wearctl := d } } := by
    intro t w v a b c d h
    refine h.trans ⟨⟨?_⟩, Regular.keep rfl⟩
    intro g hgn
    cases g <;> first | exact (Keeps.out hg (by decide) hgn).elim | rfl
  unfold execFrameEnd
  extract_lets n done a s1 c' c'' s1' s2 b s3 s4 s5 s6 s7 s8
  split
  · exact KeepsOut.next h0
  · have h1 : Keeps gs o0 s1 := setS s s.sns.throt s.sns.severe _ _ _ _ h0
    have h1' : Keeps gs o0 s1' := by
      refine Keeps.ite ((Keeps.clearSns_keeps (sub (by decide)) h1).trans ⟨⟨?_⟩, Regular.keep rfl⟩) h1
      intro g hgn
      cases g <;> first | exact (Keeps.out hg (by decide) hgn).elim | rfl
    have h2 : Keeps gs o0 s2 := Keeps.foldl (fun t x h => Keeps.siteLevel_keeps (sub (by decide)) h x) h1'
    have h3 : Keeps gs o0 b := Keeps.foldl (fun t x h => Keeps.modTherm_keeps (sub (by decide)) h x _) h2
    have h4 : Keeps gs o0 s4 := setS b _ _ b.sns.ctrl b.sns.thresh b.sns.ceil b.sns.wearctl h3
    have h5 : Keeps gs o0 s5 := Keeps.writeFrame_keeps (sub (by decide)) h4
    have h6 : Keeps gs o0 s6 := Keeps.fieldsSee_keeps (sub (by decide)) h5
    have h7 : Keeps gs o0 s7 := Keeps.foldl (fun t x h => Keeps.stress_keeps (sub (by decide)) h x) h6
    have h8 : Keeps gs o0 s8 := Keeps.wearCheck_keeps (sub (by decide)) h7
    clear_value s8
    refine KeepsOut.next (h8.trans ⟨⟨?_⟩, fun h => { h with regions := Map.foldl_put_wf (fun _ e hm => Map.put_wf e.1 _ hm) rfl }⟩)
    intro g hgn
    cases g <;> first | exact (Keeps.out hg (by decide) hgn).elim | rfl

theorem Keeps.execCoolantStale_keeps {gs : List Group} (hg : [.sns, .ev] ⊆ gs) {o0 s : State} (h0 : Keeps gs o0 s) : KeepsOut gs o0 (execCoolantStale s) := by
  unfold execCoolantStale
  repeat' first
    | with_reducible assumption
    | with_reducible exact List.Subset.trans (by decide) hg
    | with_reducible exact Regular.keep rfl
    | (intro g hgn; cases g <;> first | exact (Keeps.out hg (by decide) hgn).elim | with_reducible rfl)
    | (extract_lets +onlyGivenNames s1; refine Keeps.have_ (gs := gs) (o := o0) (t := s1) ?_ (fun h => ?_); (on_goal 1 => subst s1); (on_goal 2 => try clear_value s1))
    | (extract_lets +onlyGivenNames n1; first | (have p : Sys := n1; clear p; subst n1) | (have p : Et := n1; clear p; subst n1) | (have p : Hm := n1; clear p; subst n1) | (have p : Opt := n1; clear p; subst n1) | (have p : Xg := n1; clear p; subst n1) | (have p : Sns := n1; clear p; subst n1) | (have p : Ev := n1; clear p; subst n1) | clear_value n1)
    | (with_reducible refine Keeps.foldl (fun t x h => ?_) ?_)
    | (with_reducible refine KeepsOut.next ?_)
    | with_reducible apply Keeps.raise_keeps
    | (simp -zeta only [Keeps.mark]; with_reducible refine KeepsLit.intro rfl ?_ ?_ ?_)
    | (with_reducible refine Keeps.ite ?_ ?_)
    | split

theorem Keeps.execBudgetStale_keeps {gs : List Group} (hg : [.sns, .ev] ⊆ gs) {o0 s : State} (h0 : Keeps gs o0 s) : KeepsOut gs o0 (execBudgetStale s) := by
  unfold execBudgetStale
  repeat' first
    | with_reducible assumption
    | with_reducible exact List.Subset.trans (by decide) hg
    | with_reducible exact Regular.keep rfl
    | (intro g hgn; cases g <;> first | exact (Keeps.out hg (by decide) hgn).elim | with_reducible rfl)
    | (extract_lets +onlyGivenNames s1; refine Keeps.have_ (gs := gs) (o := o0) (t := s1) ?_ (fun h => ?_); (on_goal 1 => subst s1); (on_goal 2 => try clear_value s1))
    | (extract_lets +onlyGivenNames n1; first | (have p : Sys := n1; clear p; subst n1) | (have p : Et := n1; clear p; subst n1) | (have p : Hm := n1; clear p; subst n1) | (have p : Opt := n1; clear p; subst n1) | (have p : Xg := n1; clear p; subst n1) | (have p : Sns := n1; clear p; subst n1) | (have p : Ev := n1; clear p; subst n1) | clear_value n1)
    | (with_reducible refine Keeps.foldl (fun t x h => ?_) ?_)
    | (with_reducible refine KeepsOut.next ?_)
    | with_reducible apply Keeps.raise_keeps
    | (simp -zeta only [Keeps.mark]; with_reducible refine KeepsLit.intro rfl ?_ ?_ ?_)
    | (with_reducible refine Keeps.ite ?_ ?_)
    | split

theorem Keeps.cmdSenseQuery_keeps {gs : List Group} (hg : [] ⊆ gs) {o0 s : State} (h0 : Keeps gs o0 s) (q : Req) : KeepsRes gs o0 (cmdSenseQuery q s) := by
  unfold cmdSenseQuery
  repeat' first
    | with_reducible assumption
    | with_reducible exact List.Subset.trans (by decide) hg
    | with_reducible exact Regular.keep rfl
    | (intro g hgn; cases g <;> first | exact (Keeps.out hg (by decide) hgn).elim | with_reducible rfl)
    | (extract_lets +onlyGivenNames s1; refine KeepsRes.have_ (gs := gs) (o := o0) (r := s1) ?_ (fun h => ?_); (on_goal 1 => subst s1); (on_goal 2 => try clear_value s1))
    | (extract_lets +onlyGivenNames s1; refine Keeps.have_ (gs := gs) (o := o0) (t := s1) ?_ (fun h => ?_); (on_goal 1 => subst s1); (on_goal 2 => try clear_value s1))
    | (extract_lets +onlyGivenNames n1; first | (have p : Sys := n1; clear p; subst n1) | (have p : Et := n1; clear p; subst n1) | (have p : Hm := n1; clear p; subst n1) | (have p : Opt := n1; clear p; subst n1) | (have p : Xg := n1; clear p; subst n1) | (have p : Sns := n1; clear p; subst n1) | (have p : Ev := n1; clear p; subst n1) | clear_value n1)
    | (with_reducible refine Keeps.foldl (fun t x h => ?_) ?_)
    | (with_reducible refine KeepsRes.done ?_)
    | (with_reducible refine KeepsRes.wait ?_)
    | (with_reducible refine KeepsRes.refuse ?_)
    | with_reducible apply Keeps.refuse_keeps
    | (simp -zeta only [Keeps.mark]; with_reducible refine KeepsLit.intro rfl ?_ ?_ ?_)
    | (with_reducible refine Keeps.ite ?_ ?_)
    | split

theorem Keeps.execSenseQuery_keeps {gs : List Group} (hg : [.mbx] ⊆ gs) {o0 s : State} (h0 : Keeps gs o0 s) (q : Req) : KeepsOut gs o0 (execSenseQuery q s) := by
  unfold execSenseQuery
  repeat' first
    | with_reducible assumption
    | with_reducible exact List.Subset.trans (by decide) hg
    | with_reducible exact Regular.keep rfl
    | (intro g hgn; cases g <;> first | exact (Keeps.out hg (by decide) hgn).elim | with_reducible rfl)
    | (extract_lets +onlyGivenNames s1; refine Keeps.have_ (gs := gs) (o := o0) (t := s1) ?_ (fun h => ?_); (on_goal 1 => subst s1); (on_goal 2 => try clear_value s1))
    | (extract_lets +onlyGivenNames n1; first | (have p : Sys := n1; clear p; subst n1) | (have p : Et := n1; clear p; subst n1) | (have p : Hm := n1; clear p; subst n1) | (have p : Opt := n1; clear p; subst n1) | (have p : Xg := n1; clear p; subst n1) | (have p : Sns := n1; clear p; subst n1) | (have p : Ev := n1; clear p; subst n1) | clear_value n1)
    | (with_reducible refine Keeps.foldl (fun t x h => ?_) ?_)
    | (with_reducible refine KeepsOut.next ?_)
    | (with_reducible refine Keeps.submit_keeps ?_ ?_ _ _ (fun q t h => ?_) _)
    | with_reducible apply Keeps.cmdSenseQuery_keeps
    | (simp -zeta only [Keeps.mark]; with_reducible refine KeepsLit.intro rfl ?_ ?_ ?_)
    | split

theorem Keeps.cmdThermQuery_keeps {gs : List Group} (hg : [] ⊆ gs) {o0 s : State} (h0 : Keeps gs o0 s) (q0 : Req) : KeepsRes gs o0 (cmdThermQuery q0 s) := by
  unfold cmdThermQuery
  repeat' first
    | with_reducible assumption
    | with_reducible exact List.Subset.trans (by decide) hg
    | with_reducible exact Regular.keep rfl
    | (intro g hgn; cases g <;> first | exact (Keeps.out hg (by decide) hgn).elim | with_reducible rfl)
    | (extract_lets +onlyGivenNames s1; refine KeepsRes.have_ (gs := gs) (o := o0) (r := s1) ?_ (fun h => ?_); (on_goal 1 => subst s1); (on_goal 2 => try clear_value s1))
    | (extract_lets +onlyGivenNames s1; refine Keeps.have_ (gs := gs) (o := o0) (t := s1) ?_ (fun h => ?_); (on_goal 1 => subst s1); (on_goal 2 => try clear_value s1))
    | (extract_lets +onlyGivenNames n1; first | (have p : Sys := n1; clear p; subst n1) | (have p : Et := n1; clear p; subst n1) | (have p : Hm := n1; clear p; subst n1) | (have p : Opt := n1; clear p; subst n1) | (have p : Xg := n1; clear p; subst n1) | (have p : Sns := n1; clear p; subst n1) | (have p : Ev := n1; clear p; subst n1) | clear_value n1)
    | (with_reducible refine Keeps.foldl (fun t x h => ?_) ?_)
    | (with_reducible refine KeepsRes.done ?_)
    | (with_reducible refine KeepsRes.wait ?_)
    | (with_reducible refine KeepsRes.refuse ?_)
    | (simp -zeta only [Keeps.mark]; with_reducible refine KeepsLit.intro rfl ?_ ?_ ?_)
    | split

theorem Keeps.execThermQuery_keeps {gs : List Group} (hg : [.mbx] ⊆ gs) {o0 s : State} (h0 : Keeps gs o0 s) (q : Req) : KeepsOut gs o0 (execThermQuery q s) := by
  unfold execThermQuery
  repeat' first
    | with_reducible assumption
    | with_reducible exact List.Subset.trans (by decide) hg
    | with_reducible exact Regular.keep rfl
    | (intro g hgn; cases g <;> first | exact (Keeps.out hg (by decide) hgn).elim | with_reducible rfl)
    | (extract_lets +onlyGivenNames s1; refine Keeps.have_ (gs := gs) (o := o0) (t := s1) ?_ (fun h => ?_); (on_goal 1 => subst s1); (on_goal 2 => try clear_value s1))
    | (extract_lets +onlyGivenNames n1; first | (have p : Sys := n1; clear p; subst n1) | (have p : Et := n1; clear p; subst n1) | (have p : Hm := n1; clear p; subst n1) | (have p : Opt := n1; clear p; subst n1) | (have p : Xg := n1; clear p; subst n1) | (have p : Sns := n1; clear p; subst n1) | (have p : Ev := n1; clear p; subst n1) | clear_value n1)
    | (with_reducible refine Keeps.foldl (fun t x h => ?_) ?_)
    | (with_reducible refine KeepsOut.next ?_)
    | (with_reducible refine Keeps.submit_keeps ?_ ?_ _ _ (fun q t h => ?_) _)
    | with_reducible apply Keeps.cmdThermQuery_keeps
    | (simp -zeta only [Keeps.mark]; with_reducible refine KeepsLit.intro rfl ?_ ?_ ?_)
    | split

theorem Keeps.cmdPlantPost_keeps {gs : List Group} (hg : [.sns, .ev] ⊆ gs) {o0 s : State} (h0 : Keeps gs o0 s) (q : Req) : KeepsRes gs o0 (cmdPlantPost q s) := by
  unfold cmdPlantPost
  repeat' first
    | with_reducible assumption
    | with_reducible exact List.Subset.trans (by decide) hg
    | with_reducible exact Regular.keep rfl
    | (intro g hgn; cases g <;> first | exact (Keeps.out hg (by decide) hgn).elim | with_reducible rfl)
    | (extract_lets +onlyGivenNames s1; refine KeepsRes.have_ (gs := gs) (o := o0) (r := s1) ?_ (fun h => ?_); (on_goal 1 => subst s1); (on_goal 2 => try clear_value s1))
    | (extract_lets +onlyGivenNames s1; refine Keeps.have_ (gs := gs) (o := o0) (t := s1) ?_ (fun h => ?_); (on_goal 1 => subst s1); (on_goal 2 => try clear_value s1))
    | (extract_lets +onlyGivenNames n1; first | (have p : Sys := n1; clear p; subst n1) | (have p : Et := n1; clear p; subst n1) | (have p : Hm := n1; clear p; subst n1) | (have p : Opt := n1; clear p; subst n1) | (have p : Xg := n1; clear p; subst n1) | (have p : Sns := n1; clear p; subst n1) | (have p : Ev := n1; clear p; subst n1) | clear_value n1)
    | (with_reducible refine Keeps.foldl (fun t x h => ?_) ?_)
    | (with_reducible refine KeepsRes.done ?_)
    | (with_reducible refine KeepsRes.wait ?_)
    | (with_reducible refine KeepsRes.refuse ?_)
    | with_reducible apply Keeps.raiseIf_keeps
    | with_reducible apply Keeps.refuse_keeps
    | (simp -zeta only [Keeps.mark]; with_reducible refine KeepsLit.intro rfl ?_ ?_ ?_)
    | (with_reducible refine Keeps.ite ?_ ?_)
    | split

theorem Keeps.execPlantPost_keeps {gs : List Group} (hg : [.mbx, .sns, .ev] ⊆ gs) {o0 s : State} (h0 : Keeps gs o0 s) (q : Req) : KeepsOut gs o0 (execPlantPost q s) := by
  unfold execPlantPost
  repeat' first
    | with_reducible assumption
    | with_reducible exact List.Subset.trans (by decide) hg
    | with_reducible exact Regular.keep rfl
    | (intro g hgn; cases g <;> first | exact (Keeps.out hg (by decide) hgn).elim | with_reducible rfl)
    | (extract_lets +onlyGivenNames s1; refine Keeps.have_ (gs := gs) (o := o0) (t := s1) ?_ (fun h => ?_); (on_goal 1 => subst s1); (on_goal 2 => try clear_value s1))
    | (extract_lets +onlyGivenNames n1; first | (have p : Sys := n1; clear p; subst n1) | (have p : Et := n1; clear p; subst n1) | (have p : Hm := n1; clear p; subst n1) | (have p : Opt := n1; clear p; subst n1) | (have p : Xg := n1; clear p; subst n1) | (have p : Sns := n1; clear p; subst n1) | (have p : Ev := n1; clear p; subst n1) | clear_value n1)
    | (with_reducible refine Keeps.foldl (fun t x h => ?_) ?_)
    | (with_reducible refine KeepsOut.next ?_)
    | (with_reducible refine Keeps.submit_keeps ?_ ?_ _ _ (fun q t h => ?_) _)
    | with_reducible apply Keeps.cmdPlantPost_keeps
    | (simp -zeta only [Keeps.mark]; with_reducible refine KeepsLit.intro rfl ?_ ?_ ?_)
    | split

theorem Keeps.cmdWearQuery_keeps {gs : List Group} (hg : [] ⊆ gs) {o0 s : State} (h0 : Keeps gs o0 s) (q : Req) : KeepsRes gs o0 (cmdWearQuery q s) := by
  unfold cmdWearQuery
  repeat' first
    | with_reducible assumption
    | with_reducible exact List.Subset.trans (by decide) hg
    | with_reducible exact Regular.keep rfl
    | (intro g hgn; cases g <;> first | exact (Keeps.out hg (by decide) hgn).elim | with_reducible rfl)
    | (extract_lets +onlyGivenNames s1; refine KeepsRes.have_ (gs := gs) (o := o0) (r := s1) ?_ (fun h => ?_); (on_goal 1 => subst s1); (on_goal 2 => try clear_value s1))
    | (extract_lets +onlyGivenNames s1; refine Keeps.have_ (gs := gs) (o := o0) (t := s1) ?_ (fun h => ?_); (on_goal 1 => subst s1); (on_goal 2 => try clear_value s1))
    | (extract_lets +onlyGivenNames n1; first | (have p : Sys := n1; clear p; subst n1) | (have p : Et := n1; clear p; subst n1) | (have p : Hm := n1; clear p; subst n1) | (have p : Opt := n1; clear p; subst n1) | (have p : Xg := n1; clear p; subst n1) | (have p : Sns := n1; clear p; subst n1) | (have p : Ev := n1; clear p; subst n1) | clear_value n1)
    | (with_reducible refine Keeps.foldl (fun t x h => ?_) ?_)
    | (with_reducible refine KeepsRes.done ?_)
    | (with_reducible refine KeepsRes.wait ?_)
    | (with_reducible refine KeepsRes.refuse ?_)
    | with_reducible apply Keeps.refuse_keeps
    | (simp -zeta only [Keeps.mark]; with_reducible refine KeepsLit.intro rfl ?_ ?_ ?_)
    | (with_reducible refine Keeps.ite ?_ ?_)
    | split

theorem Keeps.execWearQuery_keeps {gs : List Group} (hg : [.mbx] ⊆ gs) {o0 s : State} (h0 : Keeps gs o0 s) (q : Req) : KeepsOut gs o0 (execWearQuery q s) := by
  unfold execWearQuery
  repeat' first
    | with_reducible assumption
    | with_reducible exact List.Subset.trans (by decide) hg
    | with_reducible exact Regular.keep rfl
    | (intro g hgn; cases g <;> first | exact (Keeps.out hg (by decide) hgn).elim | with_reducible rfl)
    | (extract_lets +onlyGivenNames s1; refine Keeps.have_ (gs := gs) (o := o0) (t := s1) ?_ (fun h => ?_); (on_goal 1 => subst s1); (on_goal 2 => try clear_value s1))
    | (extract_lets +onlyGivenNames n1; first | (have p : Sys := n1; clear p; subst n1) | (have p : Et := n1; clear p; subst n1) | (have p : Hm := n1; clear p; subst n1) | (have p : Opt := n1; clear p; subst n1) | (have p : Xg := n1; clear p; subst n1) | (have p : Sns := n1; clear p; subst n1) | (have p : Ev := n1; clear p; subst n1) | clear_value n1)
    | (with_reducible refine Keeps.foldl (fun t x h => ?_) ?_)
    | (with_reducible refine KeepsOut.next ?_)
    | (with_reducible refine Keeps.submit_keeps ?_ ?_ _ _ (fun q t h => ?_) _)
    | with_reducible apply Keeps.cmdWearQuery_keeps
    | (simp -zeta only [Keeps.mark]; with_reducible refine KeepsLit.intro rfl ?_ ?_ ?_)
    | split

theorem Keeps.cmdWearExport_keeps {gs : List Group} (hg : [.fresh] ⊆ gs) {o0 s : State} (h0 : Keeps gs o0 s) (q : Req) : KeepsRes gs o0 (cmdWearExport q s) := by
  unfold cmdWearExport
  repeat' first
    | with_reducible assumption
    | with_reducible exact List.Subset.trans (by decide) hg
    | with_reducible exact Regular.keep rfl
    | (intro g hgn; cases g <;> first | exact (Keeps.out hg (by decide) hgn).elim | with_reducible rfl)
    | (extract_lets +onlyGivenNames s1; refine KeepsRes.have_ (gs := gs) (o := o0) (r := s1) ?_ (fun h => ?_); (on_goal 1 => subst s1); (on_goal 2 => try clear_value s1))
    | (extract_lets +onlyGivenNames s1; refine Keeps.have_ (gs := gs) (o := o0) (t := s1) ?_ (fun h => ?_); (on_goal 1 => subst s1); (on_goal 2 => try clear_value s1))
    | (extract_lets +onlyGivenNames n1; first | (have p : Sys := n1; clear p; subst n1) | (have p : Et := n1; clear p; subst n1) | (have p : Hm := n1; clear p; subst n1) | (have p : Opt := n1; clear p; subst n1) | (have p : Xg := n1; clear p; subst n1) | (have p : Sns := n1; clear p; subst n1) | (have p : Ev := n1; clear p; subst n1) | clear_value n1)
    | (with_reducible refine Keeps.foldl (fun t x h => ?_) ?_)
    | (with_reducible refine KeepsRes.done ?_)
    | (with_reducible refine KeepsRes.wait ?_)
    | (with_reducible refine KeepsRes.refuse ?_)
    | with_reducible apply Keeps.refuse_keeps
    | (simp -zeta only [Keeps.mark]; with_reducible refine KeepsLit.intro rfl ?_ ?_ ?_)
    | (with_reducible refine Keeps.ite ?_ ?_)
    | split

theorem Keeps.execWearExport_keeps {gs : List Group} (hg : [.fresh, .mbx] ⊆ gs) {o0 s : State} (h0 : Keeps gs o0 s) (q : Req) : KeepsOut gs o0 (execWearExport q s) := by
  unfold execWearExport
  repeat' first
    | with_reducible assumption
    | with_reducible exact List.Subset.trans (by decide) hg
    | with_reducible exact Regular.keep rfl
    | (intro g hgn; cases g <;> first | exact (Keeps.out hg (by decide) hgn).elim | with_reducible rfl)
    | (extract_lets +onlyGivenNames s1; refine Keeps.have_ (gs := gs) (o := o0) (t := s1) ?_ (fun h => ?_); (on_goal 1 => subst s1); (on_goal 2 => try clear_value s1))
    | (extract_lets +onlyGivenNames n1; first | (have p : Sys := n1; clear p; subst n1) | (have p : Et := n1; clear p; subst n1) | (have p : Hm := n1; clear p; subst n1) | (have p : Opt := n1; clear p; subst n1) | (have p : Xg := n1; clear p; subst n1) | (have p : Sns := n1; clear p; subst n1) | (have p : Ev := n1; clear p; subst n1) | clear_value n1)
    | (with_reducible refine Keeps.foldl (fun t x h => ?_) ?_)
    | (with_reducible refine KeepsOut.next ?_)
    | (with_reducible refine Keeps.submit_keeps ?_ ?_ _ _ (fun q t h => ?_) _)
    | with_reducible apply Keeps.cmdWearExport_keeps
    | (simp -zeta only [Keeps.mark]; with_reducible refine KeepsLit.intro rfl ?_ ?_ ?_)
    | split

theorem Keeps.addPage0_keeps {gs : List Group} (hg : [.sns, .ev] ⊆ gs) {o0 s : State} (h0 : Keeps gs o0 s) (p : Bytes) : Keeps gs o0 (State.addPage0 s p) := by
  unfold State.addPage0
  repeat' first
    | with_reducible assumption
    | with_reducible exact List.Subset.trans (by decide) hg
    | with_reducible exact Regular.keep rfl
    | (intro g hgn; cases g <;> first | exact (Keeps.out hg (by decide) hgn).elim | with_reducible rfl)
    | (extract_lets +onlyGivenNames s1; refine Keeps.have_ (gs := gs) (o := o0) (t := s1) ?_ (fun h => ?_); (on_goal 1 => subst s1); (on_goal 2 => try clear_value s1))
    | (extract_lets +onlyGivenNames n1; first | (have p : Sys := n1; clear p; subst n1) | (have p : Et := n1; clear p; subst n1) | (have p : Hm := n1; clear p; subst n1) | (have p : Opt := n1; clear p; subst n1) | (have p : Xg := n1; clear p; subst n1) | (have p : Sns := n1; clear p; subst n1) | (have p : Ev := n1; clear p; subst n1) | clear_value n1)
    | (with_reducible refine Keeps.foldl (fun t x h => ?_) ?_)
    | with_reducible apply Keeps.modField_keeps
    | with_reducible apply Keeps.raise_keeps
    | (simp -zeta only [Keeps.mark]; with_reducible refine KeepsLit.intro rfl ?_ ?_ ?_)
    | (with_reducible refine Keeps.ite ?_ ?_)
    | split

theorem Keeps.addPage_keeps {gs : List Group} (hg : [.reg, .ev] ⊆ gs) {o0 s : State} (h0 : Keeps gs o0 s) (n : Nat) (p : Bytes) : Keeps gs o0 (State.addPage s n p) := by
  unfold State.addPage
  repeat' first
    | with_reducible assumption
    | with_reducible exact List.Subset.trans (by decide) hg
    | with_reducible exact Regular.keep rfl
    | (intro g hgn; cases g <;> first | exact (Keeps.out hg (by decide) hgn).elim | with_reducible rfl)
    | (extract_lets +onlyGivenNames s1; refine Keeps.have_ (gs := gs) (o := o0) (t := s1) ?_ (fun h => ?_); (on_goal 1 => subst s1); (on_goal 2 => try clear_value s1))
    | (extract_lets +onlyGivenNames n1; first | (have p : Sys := n1; clear p; subst n1) | (have p : Et := n1; clear p; subst n1) | (have p : Hm := n1; clear p; subst n1) | (have p : Opt := n1; clear p; subst n1) | (have p : Xg := n1; clear p; subst n1) | (have p : Sns := n1; clear p; subst n1) | (have p : Ev := n1; clear p; subst n1) | clear_value n1)
    | (with_reducible refine Keeps.foldl (fun t x h => ?_) ?_)
    | (with_reducible refine Keeps.foldl2 (fun t x h => ?_) ?_)
    | (with_reducible refine Keeps.foldl1 (fun t x h => ?_) ?_)
    | with_reducible apply Keeps.modRgn_keeps
    | with_reducible apply Keeps.raise_keeps
    | (simp -zeta only [Keeps.mark]; with_reducible refine KeepsLit.intro rfl ?_ ?_ ?_)
    | (with_reducible refine Keeps.ite ?_ ?_)
    | split

theorem Keeps.cmdWearImport_keeps {gs : List Group} (hg : [.mbx, .reg, .opt, .sns, .ev] ⊆ gs) {o0 s : State} (h0 : Keeps gs o0 s) (q : Req) : KeepsRes gs o0 (cmdWearImport q s) := by
  unfold cmdWearImport
  repeat' first
    | with_reducible assumption
    | with_reducible exact List.Subset.trans (by decide) hg
    | with_reducible exact Regular.keep rfl
    | (intro g hgn; cases g <;> first | exact (Keeps.out hg (by decide) hgn).elim | with_reducible rfl)
    | (extract_lets +onlyGivenNames s1; refine KeepsRes.have_ (gs := gs) (o := o0) (r := s1) ?_ (fun h => ?_); (on_goal 1 => subst s1); (on_goal 2 => try clear_value s1))
    | (extract_lets +onlyGivenNames s1; refine Keeps.have_ (gs := gs) (o := o0) (t := s1) ?_ (fun h => ?_); (on_goal 1 => subst s1); (on_goal 2 => try clear_value s1))
    | (extract_lets +onlyGivenNames n1; first | (have p : Sys := n1; clear p; subst n1) | (have p : Et := n1; clear p; subst n1) | (have p : Hm := n1; clear p; subst n1) | (have p : Opt := n1; clear p; subst n1) | (have p : Xg := n1; clear p; subst n1) | (have p : Sns := n1; clear p; subst n1) | (have p : Ev := n1; clear p; subst n1) | clear_value n1)
    | (with_reducible refine Keeps.foldl (fun t x h => ?_) ?_)
    | (with_reducible refine KeepsRes.done ?_)
    | (with_reducible refine KeepsRes.wait ?_)
    | (with_reducible refine KeepsRes.refuse ?_)
    | with_reducible apply Keeps.addPage_keeps
    | with_reducible apply Keeps.addPage0_keeps
    | with_reducible apply Keeps.wearCheck_keeps
    | with_reducible apply Keeps.refuse_keeps
    | (simp -zeta only [Keeps.mark]; with_reducible refine KeepsLit.intro rfl ?_ ?_ ?_)
    | (with_reducible refine Keeps.ite ?_ ?_)
    | split

theorem Keeps.execWearImport_keeps {gs : List Group} (hg : [.mbx, .reg, .opt, .sns, .ev] ⊆ gs) {o0 s : State} (h0 : Keeps gs o0 s) (q : Req) : KeepsOut gs o0 (execWearImport q s) := by
  unfold execWearImport
  repeat' first
    | with_reducible assumption
    | with_reducible exact List.Subset.trans (by decide) hg
    | with_reducible exact Regular.keep rfl
    | (intro g hgn; cases g <;> first | exact (Keeps.out hg (by decide) hgn).elim | with_reducible rfl)
    | (extract_lets +onlyGivenNames s1; refine Keeps.have_ (gs := gs) (o := o0) (t := s1) ?_ (fun h => ?_); (on_goal 1 => subst s1); (on_goal 2 => try clear_value s1))
    | (extract_lets +onlyGivenNames n1; first | (have p : Sys := n1; clear p; subst n1) | (have p : Et := n1; clear p; subst n1) | (have p : Hm := n1; clear p; subst n1) | (have p : Opt := n1; clear p; subst n1) | (have p : Xg := n1; clear p; subst n1) | (have p : Sns := n1; clear p; subst n1) | (have p : Ev := n1; clear p; subst n1) | clear_value n1)
    | (with_reducible refine Keeps.foldl (fun t x h => ?_) ?_)
    | (with_reducible refine KeepsOut.next ?_)
    | (with_reducible refine Keeps.submit_keeps ?_ ?_ _ _ (fun q t h => ?_) _)
    | with_reducible apply Keeps.cmdWearImport_keeps
    | (simp -zeta only [Keeps.mark]; with_reducible refine KeepsLit.intro rfl ?_ ?_ ?_)
    | split

theorem Keeps.periodEntry_keeps {gs : List Group} (hg : [.reg, .ev] ⊆ gs) {o0 s : State} (h0 : Keeps gs o0 s) (q : Req) (r : RegionNo) (c : Nat) : Keeps gs o0 (State.periodEntry s q r c).2 := by
  unfold State.periodEntry
  repeat' first
    | with_reducible assumption
    | with_reducible exact List.Subset.trans (by decide) hg
    | with_reducible exact Regular.keep rfl
    | (intro g hgn; cases g <;> first | exact (Keeps.out hg (by decide) hgn).elim | with_reducible rfl)
    | (extract_lets +onlyGivenNames s1; refine Keeps.have_ (gs := gs) (o := o0) (t := s1) ?_ (fun h => ?_); (on_goal 1 => subst s1); (on_goal 2 => try clear_value s1))
    | (extract_lets +onlyGivenNames n1; first | (have p : Sys := n1; clear p; subst n1) | (have p : Et := n1; clear p; subst n1) | (have p : Hm := n1; clear p; subst n1) | (have p : Opt := n1; clear p; subst n1) | (have p : Xg := n1; clear p; subst n1) | (have p : Sns := n1; clear p; subst n1) | (have p : Ev := n1; clear p; subst n1) | clear_value n1)
    | (with_reducible refine Keeps.foldl (fun t x h => ?_) ?_)
    | (with_reducible refine Keeps.foldl2 (fun t x h => ?_) ?_)
    | (with_reducible refine Keeps.foldl1 (fun t x h => ?_) ?_)
    | (dsimp -zeta only)
    | with_reducible apply Keeps.raiseIf_keeps
    | with_reducible apply Keeps.sendCode_keeps
    | (simp -zeta only [Keeps.mark]; with_reducible refine KeepsLit.intro rfl ?_ ?_ ?_)
    | split

theorem Keeps.periodAll_keeps {gs : List Group} (hg : [.reg, .ev] ⊆ gs) {o0 s : State} (h0 : Keeps gs o0 s) (q : Req) (rs : List RegionNo) (c : Nat) : KeepsRes gs o0 (State.periodAll s q rs c) := by
  unfold State.periodAll
  repeat' first
    | with_reducible assumption
    | with_reducible exact List.Subset.trans (by decide) hg
    | with_reducible exact Regular.keep rfl
    | (intro g hgn; cases g <;> first | exact (Keeps.out hg (by decide) hgn).elim | with_reducible rfl)
    | (extract_lets +onlyGivenNames s1; refine KeepsRes.have_ (gs := gs) (o := o0) (r := s1) ?_ (fun h => ?_); (on_goal 1 => subst s1); (on_goal 2 => try clear_value s1))
    | (extract_lets +onlyGivenNames s1; refine Keeps.have_ (gs := gs) (o := o0) (t := s1) ?_ (fun h => ?_); (on_goal 1 => subst s1); (on_goal 2 => try clear_value s1))
    | (extract_lets +onlyGivenNames n1; first | (have p : Sys := n1; clear p; subst n1) | (have p : Et := n1; clear p; subst n1) | (have p : Hm := n1; clear p; subst n1) | (have p : Opt := n1; clear p; subst n1) | (have p : Xg := n1; clear p; subst n1) | (have p : Sns := n1; clear p; subst n1) | (have p : Ev := n1; clear p; subst n1) | clear_value n1)
    | (with_reducible refine Keeps.foldl (fun t x h => ?_) ?_)
    | (with_reducible refine Keeps.foldl2 (fun t x h => ?_) ?_)
    | (with_reducible refine Keeps.foldl1 (fun t x h => ?_) ?_)
    | (with_reducible refine KeepsRes.done ?_)
    | (with_reducible refine KeepsRes.wait ?_)
    | (with_reducible refine KeepsRes.refuse ?_)
    | with_reducible apply Keeps.periodEntry_keeps
    | with_reducible apply Keeps.refuse_keeps
    | (simp -zeta only [Keeps.mark]; with_reducible refine KeepsLit.intro rfl ?_ ?_ ?_)
    | (with_reducible refine KeepsOpt.getD ?_ ?_)
    | (with_reducible refine Keeps.optEq (by assumption) ?_)
    | (with_reducible refine Keeps.pairEq1 (by assumption) ?_)
    | (with_reducible refine Keeps.pairEq2 (by assumption) ?_)
    | (with_reducible refine Keeps.ite ?_ ?_)
    | split

theorem Keeps.cmdRegionSetPeriod_keeps {gs : List Group} (hg : [.reg, .ev] ⊆ gs) {o0 s : State} (h0 : Keeps gs o0 s) (q : Req) : KeepsRes gs o0 (cmdRegionSetPeriod q s) := by
  unfold cmdRegionSetPeriod
  repeat' first
    | with_reducible assumption
    | with_reducible exact List.Subset.trans (by decide) hg
    | with_reducible exact Regular.keep rfl
    | (intro g hgn; cases g <;> first | exact (Keeps.out hg (by decide) hgn).elim | with_reducible rfl)
    | (extract_lets +onlyGivenNames s1; refine KeepsRes.have_ (gs := gs) (o := o0) (r := s1) ?_ (fun h => ?_); (on_goal 1 => subst s1); (on_goal 2 => try clear_value s1))
    | (extract_lets +onlyGivenNames s1; refine Keeps.have_ (gs := gs) (o := o0) (t := s1) ?_ (fun h => ?_); (on_goal 1 => subst s1); (on_goal 2 => try clear_value s1))
    | (extract_lets +onlyGivenNames n1; first | (have p : Sys := n1; clear p; subst n1) | (have p : Et := n1; clear p; subst n1) | (have p : Hm := n1; clear p; subst n1) | (have p : Opt := n1; clear p; subst n1) | (have p : Xg := n1; clear p; subst n1) | (have p : Sns := n1; clear p; subst n1) | (have p : Ev := n1; clear p; subst n1) | clear_value n1)
    | (with_reducible refine Keeps.foldl (fun t x h => ?_) ?_)
    | (with_reducible refine KeepsRes.done ?_)
    | (with_reducible refine KeepsRes.wait ?_)
    | (with_reducible refine KeepsRes.refuse ?_)
    | with_reducible apply Keeps.periodAll_keeps
    | with_reducible apply Keeps.refuse_keeps
    | (simp -zeta only [Keeps.mark]; with_reducible refine KeepsLit.intro rfl ?_ ?_ ?_)
    | (with_reducible refine Keeps.ite ?_ ?_)
    | split

theorem Keeps.execRegionSetPeriod_keeps {gs : List Group} (hg : [.mbx, .reg, .ev] ⊆ gs) {o0 s : State} (h0 : Keeps gs o0 s) (q : Req) : KeepsOut gs o0 (execRegionSetPeriod q s) := by
  unfold execRegionSetPeriod
  repeat' first
    | with_reducible assumption
    | with_reducible exact List.Subset.trans (by decide) hg
    | with_reducible exact Regular.keep rfl
    | (intro g hgn; cases g <;> first | exact (Keeps.out hg (by decide) hgn).elim | with_reducible rfl)
    | (extract_lets +onlyGivenNames s1; refine Keeps.have_ (gs := gs) (o := o0) (t := s1) ?_ (fun h => ?_); (on_goal 1 => subst s1); (on_goal 2 => try clear_value s1))
    | (extract_lets +onlyGivenNames n1; first | (have p : Sys := n1; clear p; subst n1) | (have p : Et := n1; clear p; subst n1) | (have p : Hm := n1; clear p; subst n1) | (have p : Opt := n1; clear p; subst n1) | (have p : Xg := n1; clear p; subst n1) | (have p : Sns := n1; clear p; subst n1) | (have p : Ev := n1; clear p; subst n1) | clear_value n1)
    | (with_reducible refine Keeps.foldl (fun t x h => ?_) ?_)
    | (with_reducible refine KeepsOut.next ?_)
    | (with_reducible refine Keeps.submit_keeps ?_ ?_ _ _ (fun q t h => ?_) _)
    | with_reducible apply Keeps.cmdRegionSetPeriod_keeps
    | (simp -zeta only [Keeps.mark]; with_reducible refine KeepsLit.intro rfl ?_ ?_ ?_)
    | split

theorem Keeps.cmdRegionQuery_keeps {gs : List Group} (hg : [] ⊆ gs) {o0 s : State} (h0 : Keeps gs o0 s) (q : Req) : KeepsRes gs o0 (cmdRegionQuery q s) := by
  unfold cmdRegionQuery
  repeat' first
    | with_reducible assumption
    | with_reducible exact List.Subset.trans (by decide) hg
    | with_reducible exact Regular.keep rfl
    | (intro g hgn; cases g <;> first | exact (Keeps.out hg (by decide) hgn).elim | with_reducible rfl)
    | (extract_lets +onlyGivenNames s1; refine KeepsRes.have_ (gs := gs) (o := o0) (r := s1) ?_ (fun h => ?_); (on_goal 1 => subst s1); (on_goal 2 => try clear_value s1))
    | (extract_lets +onlyGivenNames s1; refine Keeps.have_ (gs := gs) (o := o0) (t := s1) ?_ (fun h => ?_); (on_goal 1 => subst s1); (on_goal 2 => try clear_value s1))
    | (extract_lets +onlyGivenNames n1; first | (have p : Sys := n1; clear p; subst n1) | (have p : Et := n1; clear p; subst n1) | (have p : Hm := n1; clear p; subst n1) | (have p : Opt := n1; clear p; subst n1) | (have p : Xg := n1; clear p; subst n1) | (have p : Sns := n1; clear p; subst n1) | (have p : Ev := n1; clear p; subst n1) | clear_value n1)
    | (with_reducible refine Keeps.foldl (fun t x h => ?_) ?_)
    | (with_reducible refine KeepsRes.done ?_)
    | (with_reducible refine KeepsRes.wait ?_)
    | (with_reducible refine KeepsRes.refuse ?_)
    | with_reducible apply Keeps.refuse_keeps
    | (simp -zeta only [Keeps.mark]; with_reducible refine KeepsLit.intro rfl ?_ ?_ ?_)
    | split

theorem Keeps.execRegionQuery_keeps {gs : List Group} (hg : [.mbx] ⊆ gs) {o0 s : State} (h0 : Keeps gs o0 s) (q : Req) : KeepsOut gs o0 (execRegionQuery q s) := by
  unfold execRegionQuery
  repeat' first
    | with_reducible assumption
    | with_reducible exact List.Subset.trans (by decide) hg
    | with_reducible exact Regular.keep rfl
    | (intro g hgn; cases g <;> first | exact (Keeps.out hg (by decide) hgn).elim | with_reducible rfl)
    | (extract_lets +onlyGivenNames s1; refine Keeps.have_ (gs := gs) (o := o0) (t := s1) ?_ (fun h => ?_); (on_goal 1 => subst s1); (on_goal 2 => try clear_value s1))
    | (extract_lets +onlyGivenNames n1; first | (have p : Sys := n1; clear p; subst n1) | (have p : Et := n1; clear p; subst n1) | (have p : Hm := n1; clear p; subst n1) | (have p : Opt := n1; clear p; subst n1) | (have p : Xg := n1; clear p; subst n1) | (have p : Sns := n1; clear p; subst n1) | (have p : Ev := n1; clear p; subst n1) | clear_value n1)
    | (with_reducible refine Keeps.foldl (fun t x h => ?_) ?_)
    | (with_reducible refine KeepsOut.next ?_)
    | (with_reducible refine Keeps.submit_keeps ?_ ?_ _ _ (fun q t h => ?_) _)
    | with_reducible apply Keeps.cmdRegionQuery_keeps
    | (simp -zeta only [Keeps.mark]; with_reducible refine KeepsLit.intro rfl ?_ ?_ ?_)
    | split

theorem Keeps.startIns_keeps {gs : List Group} (hg : [.mbx, .opt] ⊆ gs) {o0 s : State} (h0 : Keeps gs o0 s) (q : Req) (x : Insertion) : KeepsRes gs o0 (State.startIns s q x) := by
  unfold State.startIns
  repeat' first
    | with_reducible assumption
    | with_reducible exact List.Subset.trans (by decide) hg
    | with_reducible exact Regular.keep rfl
    | (intro g hgn; cases g <;> first | exact (Keeps.out hg (by decide) hgn).elim | with_reducible rfl)
    | (extract_lets +onlyGivenNames s1; refine KeepsRes.have_ (gs := gs) (o := o0) (r := s1) ?_ (fun h => ?_); (on_goal 1 => subst s1); (on_goal 2 => try clear_value s1))
    | (extract_lets +onlyGivenNames s1; refine Keeps.have_ (gs := gs) (o := o0) (t := s1) ?_ (fun h => ?_); (on_goal 1 => subst s1); (on_goal 2 => try clear_value s1))
    | (extract_lets +onlyGivenNames n1; first | (have p : Sys := n1; clear p; subst n1) | (have p : Et := n1; clear p; subst n1) | (have p : Hm := n1; clear p; subst n1) | (have p : Opt := n1; clear p; subst n1) | (have p : Xg := n1; clear p; subst n1) | (have p : Sns := n1; clear p; subst n1) | (have p : Ev := n1; clear p; subst n1) | clear_value n1)
    | (with_reducible refine Keeps.foldl (fun t x h => ?_) ?_)
    | (with_reducible refine KeepsRes.done ?_)
    | (with_reducible refine KeepsRes.wait ?_)
    | (with_reducible refine KeepsRes.refuse ?_)
    | (with_reducible refine Keeps.startOp_keeps ?_ ?_ _ _ _ (fun i t h => ?_))
    | (simp -zeta only [Keeps.mark]; with_reducible refine KeepsLit.intro rfl ?_ ?_ ?_)
    | split

theorem Keeps.tryIns_keeps {gs : List Group} (hg : [.mbx, .opt] ⊆ gs) {o0 s : State} (h0 : Keeps gs o0 s) (q : Req) (x : Insertion) (healthy : Bool) : KeepsRes gs o0 (State.tryIns s q x healthy) := by
  unfold State.tryIns
  repeat' first
    | with_reducible assumption
    | with_reducible exact List.Subset.trans (by decide) hg
    | with_reducible exact Regular.keep rfl
    | (intro g hgn; cases g <;> first | exact (Keeps.out hg (by decide) hgn).elim | with_reducible rfl)
    | (extract_lets +onlyGivenNames s1; refine KeepsRes.have_ (gs := gs) (o := o0) (r := s1) ?_ (fun h => ?_); (on_goal 1 => subst s1); (on_goal 2 => try clear_value s1))
    | (extract_lets +onlyGivenNames s1; refine Keeps.have_ (gs := gs) (o := o0) (t := s1) ?_ (fun h => ?_); (on_goal 1 => subst s1); (on_goal 2 => try clear_value s1))
    | (extract_lets +onlyGivenNames n1; first | (have p : Sys := n1; clear p; subst n1) | (have p : Et := n1; clear p; subst n1) | (have p : Hm := n1; clear p; subst n1) | (have p : Opt := n1; clear p; subst n1) | (have p : Xg := n1; clear p; subst n1) | (have p : Sns := n1; clear p; subst n1) | (have p : Ev := n1; clear p; subst n1) | clear_value n1)
    | (with_reducible refine Keeps.foldl (fun t x h => ?_) ?_)
    | (with_reducible refine KeepsRes.done ?_)
    | (with_reducible refine KeepsRes.wait ?_)
    | (with_reducible refine KeepsRes.refuse ?_)
    | with_reducible apply Keeps.startIns_keeps
    | with_reducible apply Keeps.refuse_keeps
    | (simp -zeta only [Keeps.mark]; with_reducible refine KeepsLit.intro rfl ?_ ?_ ?_)
    | (with_reducible refine Keeps.ite ?_ ?_)
    | split

theorem Keeps.insRoute_keeps {gs : List Group} (hg : [.mbx, .opt] ⊆ gs) {o0 s : State} (h0 : Keeps gs o0 s) (q : Req) (kind : Nat) : KeepsRes gs o0 (State.insRoute s q kind) := by
  unfold State.insRoute
  repeat' first
    | with_reducible assumption
    | with_reducible exact List.Subset.trans (by decide) hg
    | with_reducible exact Regular.keep rfl
    | (intro g hgn; cases g <;> first | exact (Keeps.out hg (by decide) hgn).elim | with_reducible rfl)
    | (extract_lets +onlyGivenNames s1; refine KeepsRes.have_ (gs := gs) (o := o0) (r := s1) ?_ (fun h => ?_); (on_goal 1 => subst s1); (on_goal 2 => try clear_value s1))
    | (extract_lets +onlyGivenNames f1; (first | (refine Keeps.fun1 f1 ?_) | (refine Keeps.fun2 f1 ?_) | (refine Keeps.fun3 f1 ?_) | (refine KeepsRes.fun1 f1 ?_)); subst f1; beta_reduce)
    | (extract_lets +onlyGivenNames s1; refine Keeps.have_ (gs := gs) (o := o0) (t := s1) ?_ (fun h => ?_); (on_goal 1 => subst s1); (on_goal 2 => try clear_value s1))
    | (extract_lets +onlyGivenNames n1; first | (have p : Sys := n1; clear p; subst n1) | (have p : Et := n1; clear p; subst n1) | (have p : Hm := n1; clear p; subst n1) | (have p : Opt := n1; clear p; subst n1) | (have p : Xg := n1; clear p; subst n1) | (have p : Sns := n1; clear p; subst n1) | (have p : Ev := n1; clear p; subst n1) | clear_value n1)
    | (with_reducible refine Keeps.foldl (fun t x h => ?_) ?_)
    | (with_reducible refine KeepsRes.done ?_)
    | (with_reducible refine KeepsRes.wait ?_)
    | (with_reducible refine KeepsRes.refuse ?_)
    | with_reducible apply Keeps.tryIns_keeps
    | with_reducible apply Keeps.refuse_keeps
    | (simp -zeta only [Keeps.mark]; with_reducible refine KeepsLit.intro rfl ?_ ?_ ?_)
    | (with_reducible refine Keeps.ite ?_ ?_)
    | split

theorem Keeps.insCarrier_keeps {gs : List Group} (hg : [.mbx, .opt] ⊆ gs) {o0 s : State} (h0 : Keeps gs o0 s) (q : Req) : KeepsRes gs o0 (State.insCarrier s q) := by
  unfold State.insCarrier
  repeat' first
    | with_reducible assumption
    | with_reducible exact List.Subset.trans (by decide) hg
    | with_reducible exact Regular.keep rfl
    | (intro g hgn; cases g <;> first | exact (Keeps.out hg (by decide) hgn).elim | with_reducible rfl)
    | (extract_lets +onlyGivenNames s1; refine KeepsRes.have_ (gs := gs) (o := o0) (r := s1) ?_ (fun h => ?_); (on_goal 1 => subst s1); (on_goal 2 => try clear_value s1))
    | (extract_lets +onlyGivenNames s1; refine Keeps.have_ (gs := gs) (o := o0) (t := s1) ?_ (fun h => ?_); (on_goal 1 => subst s1); (on_goal 2 => try clear_value s1))
    | (extract_lets +onlyGivenNames n1; first | (have p : Sys := n1; clear p; subst n1) | (have p : Et := n1; clear p; subst n1) | (have p : Hm := n1; clear p; subst n1) | (have p : Opt := n1; clear p; subst n1) | (have p : Xg := n1; clear p; subst n1) | (have p : Sns := n1; clear p; subst n1) | (have p : Ev := n1; clear p; subst n1) | clear_value n1)
    | (with_reducible refine Keeps.foldl (fun t x h => ?_) ?_)
    | (with_reducible refine KeepsRes.done ?_)
    | (with_reducible refine KeepsRes.wait ?_)
    | (with_reducible refine KeepsRes.refuse ?_)
    | with_reducible apply Keeps.tryIns_keeps
    | with_reducible apply Keeps.refuse_keeps
    | (simp -zeta only [Keeps.mark]; with_reducible refine KeepsLit.intro rfl ?_ ?_ ?_)
    | (with_reducible refine Keeps.ite ?_ ?_)
    | split

theorem Keeps.insSynth_keeps {gs : List Group} (hg : [.mbx, .opt] ⊆ gs) {o0 s : State} (h0 : Keeps gs o0 s) (q : Req) : KeepsRes gs o0 (State.insSynth s q) := by
  unfold State.insSynth
  repeat' first
    | with_reducible assumption
    | with_reducible exact List.Subset.trans (by decide) hg
    | with_reducible exact Regular.keep rfl
    | (intro g hgn; cases g <;> first | exact (Keeps.out hg (by decide) hgn).elim | with_reducible rfl)
    | (extract_lets +onlyGivenNames s1; refine KeepsRes.have_ (gs := gs) (o := o0) (r := s1) ?_ (fun h => ?_); (on_goal 1 => subst s1); (on_goal 2 => try clear_value s1))
    | (extract_lets +onlyGivenNames s1; refine Keeps.have_ (gs := gs) (o := o0) (t := s1) ?_ (fun h => ?_); (on_goal 1 => subst s1); (on_goal 2 => try clear_value s1))
    | (extract_lets +onlyGivenNames n1; first | (have p : Sys := n1; clear p; subst n1) | (have p : Et := n1; clear p; subst n1) | (have p : Hm := n1; clear p; subst n1) | (have p : Opt := n1; clear p; subst n1) | (have p : Xg := n1; clear p; subst n1) | (have p : Sns := n1; clear p; subst n1) | (have p : Ev := n1; clear p; subst n1) | clear_value n1)
    | (with_reducible refine Keeps.foldl (fun t x h => ?_) ?_)
    | (with_reducible refine KeepsRes.done ?_)
    | (with_reducible refine KeepsRes.wait ?_)
    | (with_reducible refine KeepsRes.refuse ?_)
    | with_reducible apply Keeps.tryIns_keeps
    | with_reducible apply Keeps.refuse_keeps
    | (simp -zeta only [Keeps.mark]; with_reducible refine KeepsLit.intro rfl ?_ ?_ ?_)
    | (with_reducible refine Keeps.ite ?_ ?_)
    | split

theorem Keeps.insPair_keeps {gs : List Group} (hg : [.mbx, .opt] ⊆ gs) {o0 s : State} (h0 : Keeps gs o0 s) (q : Req) : KeepsRes gs o0 (State.insPair s q) := by
  unfold State.insPair
  repeat' first
    | with_reducible assumption
    | with_reducible exact List.Subset.trans (by decide) hg
    | with_reducible exact Regular.keep rfl
    | (intro g hgn; cases g <;> first | exact (Keeps.out hg (by decide) hgn).elim | with_reducible rfl)
    | (extract_lets +onlyGivenNames s1; refine KeepsRes.have_ (gs := gs) (o := o0) (r := s1) ?_ (fun h => ?_); (on_goal 1 => subst s1); (on_goal 2 => try clear_value s1))
    | (extract_lets +onlyGivenNames s1; refine Keeps.have_ (gs := gs) (o := o0) (t := s1) ?_ (fun h => ?_); (on_goal 1 => subst s1); (on_goal 2 => try clear_value s1))
    | (extract_lets +onlyGivenNames n1; first | (have p : Sys := n1; clear p; subst n1) | (have p : Et := n1; clear p; subst n1) | (have p : Hm := n1; clear p; subst n1) | (have p : Opt := n1; clear p; subst n1) | (have p : Xg := n1; clear p; subst n1) | (have p : Sns := n1; clear p; subst n1) | (have p : Ev := n1; clear p; subst n1) | clear_value n1)
    | (with_reducible refine Keeps.foldl (fun t x h => ?_) ?_)
    | (with_reducible refine KeepsRes.done ?_)
    | (with_reducible refine KeepsRes.wait ?_)
    | (with_reducible refine KeepsRes.refuse ?_)
    | with_reducible apply Keeps.startIns_keeps
    | with_reducible apply Keeps.refuse_keeps
    | (simp -zeta only [Keeps.mark]; with_reducible refine KeepsLit.intro rfl ?_ ?_ ?_)
    | (with_reducible refine Keeps.ite ?_ ?_)
    | split

theorem Keeps.cmdSpareInsert_keeps {gs : List Group} (hg : [.mbx, .opt] ⊆ gs) {o0 s : State} (h0 : Keeps gs o0 s) (q : Req) : KeepsRes gs o0 (cmdSpareInsert q s) := by
  unfold cmdSpareInsert
  repeat' first
    | with_reducible assumption
    | with_reducible exact List.Subset.trans (by decide) hg
    | with_reducible exact Regular.keep rfl
    | (intro g hgn; cases g <;> first | exact (Keeps.out hg (by decide) hgn).elim | with_reducible rfl)
    | (extract_lets +onlyGivenNames s1; refine KeepsRes.have_ (gs := gs) (o := o0) (r := s1) ?_ (fun h => ?_); (on_goal 1 => subst s1); (on_goal 2 => try clear_value s1))
    | (extract_lets +onlyGivenNames s1; refine Keeps.have_ (gs := gs) (o := o0) (t := s1) ?_ (fun h => ?_); (on_goal 1 => subst s1); (on_goal 2 => try clear_value s1))
    | (extract_lets +onlyGivenNames n1; first | (have p : Sys := n1; clear p; subst n1) | (have p : Et := n1; clear p; subst n1) | (have p : Hm := n1; clear p; subst n1) | (have p : Opt := n1; clear p; subst n1) | (have p : Xg := n1; clear p; subst n1) | (have p : Sns := n1; clear p; subst n1) | (have p : Ev := n1; clear p; subst n1) | clear_value n1)
    | (with_reducible refine Keeps.foldl (fun t x h => ?_) ?_)
    | (with_reducible refine KeepsRes.done ?_)
    | (with_reducible refine KeepsRes.wait ?_)
    | (with_reducible refine KeepsRes.refuse ?_)
    | with_reducible apply Keeps.insCarrier_keeps
    | with_reducible apply Keeps.insPair_keeps
    | with_reducible apply Keeps.insRoute_keeps
    | with_reducible apply Keeps.insSynth_keeps
    | with_reducible apply Keeps.refuse_keeps
    | (simp -zeta only [Keeps.mark]; with_reducible refine KeepsLit.intro rfl ?_ ?_ ?_)
    | split

theorem Keeps.execSpareInsert_keeps {gs : List Group} (hg : [.mbx, .opt] ⊆ gs) {o0 s : State} (h0 : Keeps gs o0 s) (q : Req) : KeepsOut gs o0 (execSpareInsert q s) := by
  unfold execSpareInsert
  repeat' first
    | with_reducible assumption
    | with_reducible exact List.Subset.trans (by decide) hg
    | with_reducible exact Regular.keep rfl
    | (intro g hgn; cases g <;> first | exact (Keeps.out hg (by decide) hgn).elim | with_reducible rfl)
    | (extract_lets +onlyGivenNames s1; refine Keeps.have_ (gs := gs) (o := o0) (t := s1) ?_ (fun h => ?_); (on_goal 1 => subst s1); (on_goal 2 => try clear_value s1))
    | (extract_lets +onlyGivenNames n1; first | (have p : Sys := n1; clear p; subst n1) | (have p : Et := n1; clear p; subst n1) | (have p : Hm := n1; clear p; subst n1) | (have p : Opt := n1; clear p; subst n1) | (have p : Xg := n1; clear p; subst n1) | (have p : Sns := n1; clear p; subst n1) | (have p : Ev := n1; clear p; subst n1) | clear_value n1)
    | (with_reducible refine Keeps.foldl (fun t x h => ?_) ?_)
    | (with_reducible refine KeepsOut.next ?_)
    | (with_reducible refine Keeps.submit_keeps ?_ ?_ _ _ (fun q t h => ?_) _)
    | with_reducible apply Keeps.cmdSpareInsert_keeps
    | (simp -zeta only [Keeps.mark]; with_reducible refine KeepsLit.intro rfl ?_ ?_ ?_)
    | split

theorem Keeps.spareJudged_keeps {gs : List Group} (hg : [.reg, .ev] ⊆ gs) {o0 s : State} (h0 : Keeps gs o0 s) (r : RegionNo) (oscB : Bool) (a : SpareCal) : Keeps gs o0 (State.spareJudged s r oscB a) := by
  unfold State.spareJudged
  repeat' first
    | with_reducible assumption
    | with_reducible exact List.Subset.trans (by decide) hg
    | with_reducible exact Regular.keep rfl
    | (intro g hgn; cases g <;> first | exact (Keeps.out hg (by decide) hgn).elim | with_reducible rfl)
    | (extract_lets +onlyGivenNames s1; refine Keeps.have_ (gs := gs) (o := o0) (t := s1) ?_ (fun h => ?_); (on_goal 1 => subst s1); (on_goal 2 => try clear_value s1))
    | (extract_lets +onlyGivenNames n1; first | (have p : Sys := n1; clear p; subst n1) | (have p : Et := n1; clear p; subst n1) | (have p : Hm := n1; clear p; subst n1) | (have p : Opt := n1; clear p; subst n1) | (have p : Xg := n1; clear p; subst n1) | (have p : Sns := n1; clear p; subst n1) | (have p : Ev := n1; clear p; subst n1) | clear_value n1)
    | (with_reducible refine Keeps.foldl (fun t x h => ?_) ?_)
    | with_reducible apply Keeps.modRgn_keeps
    | with_reducible apply Keeps.raise_keeps
    | (simp -zeta only [Keeps.mark]; with_reducible refine KeepsLit.intro rfl ?_ ?_ ?_)
    | (with_reducible refine Keeps.ite ?_ ?_)
    | split

theorem Keeps.pairCal_keeps {gs : List Group} (hg : [.reg, .cal, .ev] ⊆ gs) {o0 s : State} (h0 : Keeps gs o0 s) (r : RegionNo) (runs0 : List RunResult) (runs1 : List RunResult) : Keeps gs o0 (State.pairCal s r runs0 runs1).1 := by
  unfold State.pairCal
  repeat' first
    | with_reducible assumption
    | with_reducible exact List.Subset.trans (by decide) hg
    | with_reducible exact Regular.keep rfl
    | (intro g hgn; cases g <;> first | exact (Keeps.out hg (by decide) hgn).elim | with_reducible rfl)
    | (extract_lets +onlyGivenNames s1; refine Keeps.have_ (gs := gs) (o := o0) (t := s1) ?_ (fun h => ?_); (on_goal 1 => subst s1); (on_goal 2 => try clear_value s1))
    | (extract_lets +onlyGivenNames n1; first | (have p : Sys := n1; clear p; subst n1) | (have p : Et := n1; clear p; subst n1) | (have p : Hm := n1; clear p; subst n1) | (have p : Opt := n1; clear p; subst n1) | (have p : Xg := n1; clear p; subst n1) | (have p : Sns := n1; clear p; subst n1) | (have p : Ev := n1; clear p; subst n1) | clear_value n1)
    | (with_reducible refine Keeps.foldl (fun t x h => ?_) ?_)
    | (with_reducible refine Keeps.foldl2 (fun t x h => ?_) ?_)
    | (with_reducible refine Keeps.foldl1 (fun t x h => ?_) ?_)
    | (dsimp -zeta only)
    | with_reducible apply Keeps.putSpareSet_keeps
    | with_reducible apply Keeps.spareJudged_keeps
    | with_reducible apply Keeps.voids_keeps
    | (simp -zeta only [Keeps.mark]; with_reducible refine KeepsLit.intro rfl ?_ ?_ ?_)
    | (with_reducible refine Keeps.ite ?_ ?_)
    | split

theorem Keeps.pairStep_keeps {gs : List Group} (hg : [.reg, .cal, .ev] ⊆ gs) {o0 s : State} (h0 : Keeps gs o0 s) (y : Insertion) (r : RegionNo) (runs0 : List RunResult) (runs1 : List RunResult) : Keeps gs o0 (State.pairStep s y r runs0 runs1).1 := by
  unfold State.pairStep
  repeat' first
    | with_reducible assumption
    | with_reducible exact List.Subset.trans (by decide) hg
    | with_reducible exact Regular.keep rfl
    | (intro g hgn; cases g <;> first | exact (Keeps.out hg (by decide) hgn).elim | with_reducible rfl)
    | (extract_lets +onlyGivenNames s1; refine Keeps.have_ (gs := gs) (o := o0) (t := s1) ?_ (fun h => ?_); (on_goal 1 => subst s1); (on_goal 2 => try clear_value s1))
    | (extract_lets +onlyGivenNames n1; first | (have p : Sys := n1; clear p; subst n1) | (have p : Et := n1; clear p; subst n1) | (have p : Hm := n1; clear p; subst n1) | (have p : Opt := n1; clear p; subst n1) | (have p : Xg := n1; clear p; subst n1) | (have p : Sns := n1; clear p; subst n1) | (have p : Ev := n1; clear p; subst n1) | clear_value n1)
    | (with_reducible refine Keeps.foldl (fun t x h => ?_) ?_)
    | (with_reducible refine Keeps.foldl2 (fun t x h => ?_) ?_)
    | (with_reducible refine Keeps.foldl1 (fun t x h => ?_) ?_)
    | (dsimp -zeta only)
    | with_reducible apply Keeps.pairCal_keeps
    | (simp -zeta only [Keeps.mark]; with_reducible refine KeepsLit.intro rfl ?_ ?_ ?_)
    | (with_reducible refine KeepsOpt.getD ?_ ?_)
    | (with_reducible refine Keeps.optEq (by assumption) ?_)
    | (with_reducible refine Keeps.pairEq1 (by assumption) ?_)
    | (with_reducible refine Keeps.pairEq2 (by assumption) ?_)
    | (with_reducible refine Keeps.ite ?_ ?_)
    | split

theorem Keeps.pairExhausted_keeps {gs : List Group} (hg : [.sys, .mbx, .reg, .ev] ⊆ gs) {o0 s : State} (h0 : Keeps gs o0 s) (r : RegionNo) : Keeps gs o0 (State.pairExhausted s r) := by
  unfold State.pairExhausted
  repeat' first
    | with_reducible assumption
    | with_reducible exact List.Subset.trans (by decide) hg
    | with_reducible exact Regular.keep rfl
    | (intro g hgn; cases g <;> first | exact (Keeps.out hg (by decide) hgn).elim | with_reducible rfl)
    | (extract_lets +onlyGivenNames s1; refine Keeps.have_ (gs := gs) (o := o0) (t := s1) ?_ (fun h => ?_); (on_goal 1 => subst s1); (on_goal 2 => try clear_value s1))
    | (extract_lets +onlyGivenNames n1; first | (have p : Sys := n1; clear p; subst n1) | (have p : Et := n1; clear p; subst n1) | (have p : Hm := n1; clear p; subst n1) | (have p : Opt := n1; clear p; subst n1) | (have p : Xg := n1; clear p; subst n1) | (have p : Sns := n1; clear p; subst n1) | (have p : Ev := n1; clear p; subst n1) | clear_value n1)
    | (with_reducible refine Keeps.foldl (fun t x h => ?_) ?_)
    | with_reducible apply Keeps.mlbSet_keeps
    | with_reducible apply Keeps.modRgn_keeps
    | with_reducible apply Keeps.raise_keeps
    | (simp -zeta only [Keeps.mark]; with_reducible refine KeepsLit.intro rfl ?_ ?_ ?_)
    | split

theorem Keeps.pairServes_keeps {gs : List Group} (hg : [.reg] ⊆ gs) {o0 s : State} (h0 : Keeps gs o0 s) (r : RegionNo) : Keeps gs o0 (State.pairServes s r) := by
  unfold State.pairServes
  repeat' first
    | with_reducible assumption
    | with_reducible exact List.Subset.trans (by decide) hg
    | with_reducible exact Regular.keep rfl
    | (intro g hgn; cases g <;> first | exact (Keeps.out hg (by decide) hgn).elim | with_reducible rfl)
    | (extract_lets +onlyGivenNames s1; refine Keeps.have_ (gs := gs) (o := o0) (t := s1) ?_ (fun h => ?_); (on_goal 1 => subst s1); (on_goal 2 => try clear_value s1))
    | (extract_lets +onlyGivenNames n1; first | (have p : Sys := n1; clear p; subst n1) | (have p : Et := n1; clear p; subst n1) | (have p : Hm := n1; clear p; subst n1) | (have p : Opt := n1; clear p; subst n1) | (have p : Xg := n1; clear p; subst n1) | (have p : Sns := n1; clear p; subst n1) | (have p : Ev := n1; clear p; subst n1) | clear_value n1)
    | (with_reducible refine Keeps.foldl (fun t x h => ?_) ?_)
    | with_reducible apply Keeps.deliverSet_keeps
    | with_reducible apply Keeps.modRgn_keeps
    | (simp -zeta only [Keeps.mark]; with_reducible refine KeepsLit.intro rfl ?_ ?_ ?_)
    | split

theorem Keeps.spareDue_keeps {gs : List Group} (hg : [.reg, .cal] ⊆ gs) {o0 s : State} (h0 : Keeps gs o0 s) (r : RegionNo) : Keeps gs o0 (State.spareDue s r) := by
  unfold State.spareDue
  repeat' first
    | with_reducible assumption
    | with_reducible exact List.Subset.trans (by decide) hg
    | with_reducible exact Regular.keep rfl
    | (intro g hgn; cases g <;> first | exact (Keeps.out hg (by decide) hgn).elim | with_reducible rfl)
    | (extract_lets +onlyGivenNames s1; refine Keeps.have_ (gs := gs) (o := o0) (t := s1) ?_ (fun h => ?_); (on_goal 1 => subst s1); (on_goal 2 => try clear_value s1))
    | (extract_lets +onlyGivenNames n1; first | (have p : Sys := n1; clear p; subst n1) | (have p : Et := n1; clear p; subst n1) | (have p : Hm := n1; clear p; subst n1) | (have p : Opt := n1; clear p; subst n1) | (have p : Xg := n1; clear p; subst n1) | (have p : Sns := n1; clear p; subst n1) | (have p : Ev := n1; clear p; subst n1) | clear_value n1)
    | (with_reducible refine Keeps.foldl (fun t x h => ?_) ?_)
    | with_reducible apply Keeps.calSync_keeps
    | with_reducible apply Keeps.modRgn_keeps
    | (simp -zeta only [Keeps.mark]; with_reducible refine KeepsLit.intro rfl ?_ ?_ ?_)
    | split

theorem Keeps.dropPlanned_keeps {gs : List Group} (hg : [.mbx, .opt, .cal] ⊆ gs) {o0 s : State} (h0 : Keeps gs o0 s) (d : Nat) (code : Nat) : Keeps gs o0 (State.dropPlanned s d code) := by
  unfold State.dropPlanned
  repeat' first
    | with_reducible assumption
    | with_reducible exact List.Subset.trans (by decide) hg
    | with_reducible exact Regular.keep rfl
    | (intro g hgn; cases g <;> first | exact (Keeps.out hg (by decide) hgn).elim | with_reducible rfl)
    | (extract_lets +onlyGivenNames s1; refine Keeps.have_ (gs := gs) (o := o0) (t := s1) ?_ (fun h => ?_); (on_goal 1 => subst s1); (on_goal 2 => try clear_value s1))
    | (extract_lets +onlyGivenNames n1; first | (have p : Sys := n1; clear p; subst n1) | (have p : Et := n1; clear p; subst n1) | (have p : Hm := n1; clear p; subst n1) | (have p : Opt := n1; clear p; subst n1) | (have p : Xg := n1; clear p; subst n1) | (have p : Sns := n1; clear p; subst n1) | (have p : Ev := n1; clear p; subst n1) | clear_value n1)
    | (with_reducible refine Keeps.foldl (fun t x h => ?_) ?_)
    | with_reducible apply Keeps.endIns_keeps
    | (simp -zeta only [Keeps.mark]; with_reducible refine KeepsLit.intro rfl ?_ ?_ ?_)
    | split

theorem Keeps.pairReleased_keeps {gs : List Group} (hg : [.mbx, .reg, .opt, .cal, .ev] ⊆ gs) {o0 s : State} (h0 : Keeps gs o0 s) (y : Insertion) : Keeps gs o0 (State.pairReleased s y) := by
  unfold State.pairReleased
  repeat' first
    | with_reducible assumption
    | with_reducible exact List.Subset.trans (by decide) hg
    | with_reducible exact Regular.keep rfl
    | (intro g hgn; cases g <;> first | exact (Keeps.out hg (by decide) hgn).elim | with_reducible rfl)
    | (extract_lets +onlyGivenNames s1; refine Keeps.have_ (gs := gs) (o := o0) (t := s1) ?_ (fun h => ?_); (on_goal 1 => subst s1); (on_goal 2 => try clear_value s1))
    | (extract_lets +onlyGivenNames n1; first | (have p : Sys := n1; clear p; subst n1) | (have p : Et := n1; clear p; subst n1) | (have p : Hm := n1; clear p; subst n1) | (have p : Opt := n1; clear p; subst n1) | (have p : Xg := n1; clear p; subst n1) | (have p : Sns := n1; clear p; subst n1) | (have p : Ev := n1; clear p; subst n1) | clear_value n1)
    | (with_reducible refine Keeps.foldl (fun t x h => ?_) ?_)
    | with_reducible apply Keeps.insDone_keeps
    | with_reducible apply Keeps.spareDue_keeps
    | (simp -zeta only [Keeps.mark]; with_reducible refine KeepsLit.intro rfl ?_ ?_ ?_)
    | split

theorem Keeps.pairsReleased_keeps {gs : List Group} (hg : [.mbx, .reg, .opt, .cal, .ev] ⊆ gs) {o0 s : State} (h0 : Keeps gs o0 s) : Keeps gs o0 (State.pairsReleased s) := by
  unfold State.pairsReleased
  repeat' first
    | with_reducible assumption
    | with_reducible exact List.Subset.trans (by decide) hg
    | with_reducible exact Regular.keep rfl
    | (intro g hgn; cases g <;> first | exact (Keeps.out hg (by decide) hgn).elim | with_reducible rfl)
    | (extract_lets +onlyGivenNames s1; refine Keeps.have_ (gs := gs) (o := o0) (t := s1) ?_ (fun h => ?_); (on_goal 1 => subst s1); (on_goal 2 => try clear_value s1))
    | (extract_lets +onlyGivenNames n1; first | (have p : Sys := n1; clear p; subst n1) | (have p : Et := n1; clear p; subst n1) | (have p : Hm := n1; clear p; subst n1) | (have p : Opt := n1; clear p; subst n1) | (have p : Xg := n1; clear p; subst n1) | (have p : Sns := n1; clear p; subst n1) | (have p : Ev := n1; clear p; subst n1) | clear_value n1)
    | (with_reducible refine Keeps.foldl (fun t x h => ?_) ?_)
    | with_reducible apply Keeps.pairReleased_keeps
    | (simp -zeta only [Keeps.mark]; with_reducible refine KeepsLit.intro rfl ?_ ?_ ?_)
    | split

theorem Keeps.execPairCalibrationDone_keeps {gs : List Group} (hg : [.ctl, .mbx, .reg, .opt, .ls, .xg, .cal, .ev] ⊆ gs) {o0 s : State} (h0 : Keeps gs o0 s) (r : RegionNo) (k : Fin 4)
    (dlane : Nat) : KeepsOut gs o0 (execPairCalibrationDone r k dlane s) := by
  have sub : ∀ {ts : List Group}, ts ⊆ [.ctl, .mbx, .reg, .opt, .ls, .xg, .cal, .ev] → ts ⊆ gs := fun h => List.Subset.trans h hg
  have rep : ∀ (t : State) (p : Wait → Bool) (x : Reply), Keeps gs o0 t → Keeps gs o0 (t.answerAll p x) :=
    fun t p x h => Keeps.answerAll_keeps (sub (by decide)) h _ _
  unfold execPairCalibrationDone
  dsimp only
  split
  · exact KeepsOut.next (rep _ _ _ h0)
  · split
    · exact KeepsOut.next h0
    · have h1 := Keeps.pairsReleased_keeps (gs := gs) (sub (by decide)) (Keeps.releasesGo_keeps (gs := gs) (sub (by decide))
        (Keeps.laneResult_keeps (gs := gs) (sub (by decide)) h0 r k dlane))
      split
      · exact KeepsOut.next (rep _ _ _ h1)
      · exact KeepsOut.next (rep _ _ _ h1)

theorem Keeps.insertSpare_keeps {gs : List Group} (hg : [.sys, .ctl, .mbx, .reg, .et, .opt, .ls, .xg, .cal, .ev] ⊆ gs) {o0 s : State} (h0 : Keeps gs o0 s) (r : RegionNo)
    (runs0 runs1 : List RunResult) (q : Nat) (d : Nat) : Keeps gs o0 (execDistrictSpareInsert.insert r runs0 runs1 q s d) := by
  unfold execDistrictSpareInsert.insert
  have sub : ∀ {ts : List Group}, ts ⊆ [.sys, .ctl, .mbx, .reg, .et, .opt, .ls, .xg, .cal, .ev] → ts ⊆ gs := fun h => List.Subset.trans h hg
  extract_lets s1
  have h1 : Keeps gs o0 s1 := Keeps.requestIns_keeps (sub (by decide)) h0 _
  clear_value s1
  split
  · exact h1
  · rename_i y _
    split
    · exact h1
    · have h2 := Keeps.pairStep_keeps (gs := gs) (sub (by decide)) h1 y r runs0 runs1
      cases hc : s1.pairStep y r runs0 runs1 with
      | mk s2 ok =>
        rw [hc] at h2
        dsimp only at h2 ⊢
        split
        · exact h2
        · split
          · exact Keeps.pairExhausted_keeps (sub (by decide)) (Keeps.endIns_keeps (sub (by decide)) h2 _ _ _) _
          · split
            · exact Keeps.insStep_keeps (sub (by decide)) h2 _ _ _ _
            · split
              · exact Keeps.insStep_keeps (sub (by decide)) h2 _ _ _ _
              · have h3 := Keeps.pairServes_keeps (gs := gs) (sub (by decide)) h2 r
                have h4 := fun st v => Keeps.restart_keeps (gs := gs) (sub (by decide)) h3 r st q v
                split
                · exact Keeps.endIns_keeps (sub (by decide)) (h4 _ _) _ _ _
                · split
                  · exact Keeps.insStep_keeps (sub (by decide)) (Keeps.releaseRegions_keeps (sub (by decide)) (h4 _ _) _ _ _) _ _ _ _
                  · exact Keeps.pairReleased_keeps (sub (by decide)) (Keeps.releaseRegions_keeps (sub (by decide)) (h4 _ _) _ _ _) _

theorem Keeps.execDistrictSpareInsert_keeps {gs : List Group} (hg : [.sys, .ctl, .mbx, .reg, .et, .opt, .ls, .xg, .cal, .ev] ⊆ gs) {o0 s : State} (h0 : Keeps gs o0 s) (r : RegionNo)
    (runs0 runs1 : List RunResult) (q : Nat) : KeepsOut gs o0 (execDistrictSpareInsert r runs0 runs1 q s) := by
  have sub : ∀ {ts : List Group}, ts ⊆ [.sys, .ctl, .mbx, .reg, .et, .opt, .ls, .xg, .cal, .ev] → ts ⊆ gs := fun h => List.Subset.trans h hg
  unfold execDistrictSpareInsert
  dsimp only
  have h1 := Keeps.dropPlanned_keeps (gs := gs) (sub (by decide)) h0 (districtOf r) stRefused
  split
  · exact KeepsOut.next h0
  · split
    · split
      · exact KeepsOut.next (Keeps.insertSpare_keeps hg h1 _ _ _ _ _)
      · split
        · exact KeepsOut.next h1
        · exact KeepsOut.next (Keeps.pairExhausted_keeps (sub (by decide)) h1 _)
    · exact KeepsOut.next (Keeps.insertSpare_keeps hg h1 _ _ _ _ _)

theorem Keeps.execPlannedDistrictSpare_keeps {gs : List Group} (hg : [.mbx, .reg, .opt, .cal, .ev] ⊆ gs) {o0 s : State} (h0 : Keeps gs o0 s) (r : RegionNo) (runs0 : List RunResult) (runs1 : List RunResult) : KeepsOut gs o0 (execPlannedDistrictSpare r runs0 runs1 s) := by
  unfold execPlannedDistrictSpare
  repeat' first
    | with_reducible assumption
    | with_reducible exact List.Subset.trans (by decide) hg
    | with_reducible exact Regular.keep rfl
    | (intro g hgn; cases g <;> first | exact (Keeps.out hg (by decide) hgn).elim | with_reducible rfl)
    | (extract_lets +onlyGivenNames s1; refine Keeps.have_ (gs := gs) (o := o0) (t := s1) ?_ (fun h => ?_); (on_goal 1 => subst s1); (on_goal 2 => try clear_value s1))
    | (extract_lets +onlyGivenNames n1; first | (have p : Sys := n1; clear p; subst n1) | (have p : Et := n1; clear p; subst n1) | (have p : Hm := n1; clear p; subst n1) | (have p : Opt := n1; clear p; subst n1) | (have p : Xg := n1; clear p; subst n1) | (have p : Sns := n1; clear p; subst n1) | (have p : Ev := n1; clear p; subst n1) | clear_value n1)
    | (with_reducible refine Keeps.foldl (fun t x h => ?_) ?_)
    | (with_reducible refine KeepsOut.next ?_)
    | with_reducible apply Keeps.dropPlanned_keeps
    | with_reducible apply Keeps.endIns_keeps
    | with_reducible apply Keeps.insDone_keeps
    | with_reducible apply Keeps.insStep_keeps
    | with_reducible apply Keeps.modRgn_keeps
    | with_reducible apply Keeps.pairServes_keeps
    | with_reducible apply Keeps.pairStep_keeps
    | with_reducible apply Keeps.raise_keeps
    | with_reducible apply Keeps.spareDue_keeps
    | (simp -zeta only [Keeps.mark]; with_reducible refine KeepsLit.intro rfl ?_ ?_ ?_)
    | (with_reducible refine KeepsOpt.getD ?_ ?_)
    | (with_reducible refine Keeps.optEq (by assumption) ?_)
    | (with_reducible refine Keeps.pairEq1 (by assumption) ?_)
    | (with_reducible refine Keeps.pairEq2 (by assumption) ?_)
    | (with_reducible refine Keeps.ite ?_ ?_)
    | split

theorem Keeps.foldWord_keeps {gs : List Group} (hg : [.hm] ⊆ gs) {o0 s : State} (h0 : Keeps gs o0 s) (x : BitVec 64) (w : Int) : Keeps gs o0 (State.foldWord s x w) := by
  unfold State.foldWord
  repeat' first
    | with_reducible assumption
    | with_reducible exact List.Subset.trans (by decide) hg
    | with_reducible exact Regular.keep rfl
    | (intro g hgn; cases g <;> first | exact (Keeps.out hg (by decide) hgn).elim | with_reducible rfl)
    | (extract_lets +onlyGivenNames s1; refine Keeps.have_ (gs := gs) (o := o0) (t := s1) ?_ (fun h => ?_); (on_goal 1 => subst s1); (on_goal 2 => try clear_value s1))
    | (extract_lets +onlyGivenNames n1; first | (have p : Sys := n1; clear p; subst n1) | (have p : Et := n1; clear p; subst n1) | (have p : Hm := n1; clear p; subst n1) | (have p : Opt := n1; clear p; subst n1) | (have p : Xg := n1; clear p; subst n1) | (have p : Sns := n1; clear p; subst n1) | (have p : Ev := n1; clear p; subst n1) | clear_value n1)
    | (with_reducible refine Keeps.foldl (fun t x h => ?_) ?_)
    | (simp -zeta only [Keeps.mark]; with_reducible refine KeepsLit.intro rfl ?_ ?_ ?_)
    | (with_reducible refine Keeps.ite ?_ ?_)
    | split

theorem Hm.setMap_queue (h : Hm) (j c : Nat) : (h.setMap j c).queue = h.queue := by
  unfold Hm.setMap
  split <;> rfl

theorem Keeps.takeWord_keeps {gs : List Group} (hg : [.hm] ⊆ gs) {o0 s : State} (h0 : Keeps gs o0 s) (x : BitVec 64) (w : Int) :
    Keeps gs o0 (State.takeWord s x w) := by
  have hm : ∀ (t : State) (y : Hm), (t.hm.queue.length ≤ 4096 → y.queue.length ≤ 4096) → Keeps gs o0 t → Keeps gs o0 { t with hm := y } := by
    intro t y hy ht
    refine ht.trans ⟨⟨?_⟩, fun h => { h with forecasts := hy h.forecasts }⟩
    intro g hgn
    cases g <;> first | exact (Keeps.out hg (by decide) hgn).elim | rfl
  unfold State.takeWord
  dsimp only
  split
  · rename_i hq
    exact hm s _ (fun _ => by simp; omega) h0
  · refine hm _ _ id (Keeps.foldWord_keeps (List.Subset.trans (by decide) hg) ?_ x w)
    exact hm s _ (fun h => h) h0

theorem Keeps.rejectWords_keeps {gs : List Group} (hg : [.hm] ⊆ gs) {o0 s : State} (h0 : Keeps gs o0 s) (n : Nat) : Keeps gs o0 (State.rejectWords s n) := by
  unfold State.rejectWords
  repeat' first
    | with_reducible assumption
    | with_reducible exact List.Subset.trans (by decide) hg
    | with_reducible exact Regular.keep rfl
    | (intro g hgn; cases g <;> first | exact (Keeps.out hg (by decide) hgn).elim | with_reducible rfl)
    | (extract_lets +onlyGivenNames s1; refine Keeps.have_ (gs := gs) (o := o0) (t := s1) ?_ (fun h => ?_); (on_goal 1 => subst s1); (on_goal 2 => try clear_value s1))
    | (extract_lets +onlyGivenNames n1; first | (have p : Sys := n1; clear p; subst n1) | (have p : Et := n1; clear p; subst n1) | (have p : Hm := n1; clear p; subst n1) | (have p : Opt := n1; clear p; subst n1) | (have p : Xg := n1; clear p; subst n1) | (have p : Sns := n1; clear p; subst n1) | (have p : Ev := n1; clear p; subst n1) | clear_value n1)
    | (with_reducible refine Keeps.foldl (fun t x h => ?_) ?_)
    | (simp -zeta only [Keeps.mark]; with_reducible refine KeepsLit.intro rfl ?_ ?_ ?_)
    | split

theorem Keeps.arrive_keeps {gs : List Group} (hg : [.hm] ⊆ gs) {o0 s : State} (h0 : Keeps gs o0 s) (x : BitVec 64) : Keeps gs o0 (State.arrive s x) := by
  unfold State.arrive
  repeat' first
    | with_reducible assumption
    | with_reducible exact List.Subset.trans (by decide) hg
    | with_reducible exact Regular.keep rfl
    | (intro g hgn; cases g <;> first | exact (Keeps.out hg (by decide) hgn).elim | with_reducible rfl)
    | (extract_lets +onlyGivenNames s1; refine Keeps.have_ (gs := gs) (o := o0) (t := s1) ?_ (fun h => ?_); (on_goal 1 => subst s1); (on_goal 2 => try clear_value s1))
    | (extract_lets +onlyGivenNames n1; first | (have p : Sys := n1; clear p; subst n1) | (have p : Et := n1; clear p; subst n1) | (have p : Hm := n1; clear p; subst n1) | (have p : Opt := n1; clear p; subst n1) | (have p : Xg := n1; clear p; subst n1) | (have p : Sns := n1; clear p; subst n1) | (have p : Ev := n1; clear p; subst n1) | clear_value n1)
    | (with_reducible refine Keeps.foldl (fun t x h => ?_) ?_)
    | with_reducible apply Keeps.rejectWords_keeps
    | with_reducible apply Keeps.takeWord_keeps
    | (simp -zeta only [Keeps.mark]; with_reducible refine KeepsLit.intro rfl ?_ ?_ ?_)
    | (with_reducible refine Keeps.ite ?_ ?_)
    | split

theorem Keeps.setFq_keeps {gs : List Group} (hg : [.xg] ⊆ gs) {o0 s : State} (h0 : Keeps gs o0 s) (d : Nat) (die : Nat) (l : List (BitVec 64)) : Keeps gs o0 (State.setFq s d die l) := by
  unfold State.setFq
  repeat' first
    | with_reducible assumption
    | with_reducible exact List.Subset.trans (by decide) hg
    | with_reducible exact Regular.keep rfl
    | (intro g hgn; cases g <;> first | exact (Keeps.out hg (by decide) hgn).elim | with_reducible rfl)
    | (extract_lets +onlyGivenNames s1; refine Keeps.have_ (gs := gs) (o := o0) (t := s1) ?_ (fun h => ?_); (on_goal 1 => subst s1); (on_goal 2 => try clear_value s1))
    | (extract_lets +onlyGivenNames n1; first | (have p : Sys := n1; clear p; subst n1) | (have p : Et := n1; clear p; subst n1) | (have p : Hm := n1; clear p; subst n1) | (have p : Opt := n1; clear p; subst n1) | (have p : Xg := n1; clear p; subst n1) | (have p : Sns := n1; clear p; subst n1) | (have p : Ev := n1; clear p; subst n1) | clear_value n1)
    | (with_reducible refine Keeps.foldl (fun t x h => ?_) ?_)
    | (simp -zeta only [Keeps.mark]; with_reducible refine KeepsLit.intro rfl ?_ ?_ ?_)
    | split

theorem Keeps.execForecastPortWrite_keeps {gs : List Group} (hg : [.hm, .xg] ⊆ gs) {o0 s : State} (h0 : Keeps gs o0 s) (die : Fin 8) (x : BitVec 64) : KeepsOut gs o0 (execForecastPortWrite die x s) := by
  unfold execForecastPortWrite
  repeat' first
    | with_reducible assumption
    | with_reducible exact List.Subset.trans (by decide) hg
    | with_reducible exact Regular.keep rfl
    | (intro g hgn; cases g <;> first | exact (Keeps.out hg (by decide) hgn).elim | with_reducible rfl)
    | (extract_lets +onlyGivenNames s1; refine Keeps.have_ (gs := gs) (o := o0) (t := s1) ?_ (fun h => ?_); (on_goal 1 => subst s1); (on_goal 2 => try clear_value s1))
    | (extract_lets +onlyGivenNames n1; first | (have p : Sys := n1; clear p; subst n1) | (have p : Et := n1; clear p; subst n1) | (have p : Hm := n1; clear p; subst n1) | (have p : Opt := n1; clear p; subst n1) | (have p : Xg := n1; clear p; subst n1) | (have p : Sns := n1; clear p; subst n1) | (have p : Ev := n1; clear p; subst n1) | clear_value n1)
    | (with_reducible refine Keeps.foldl (fun t x h => ?_) ?_)
    | (with_reducible refine KeepsOut.next ?_)
    | with_reducible apply Keeps.arrive_keeps
    | with_reducible apply Keeps.modXing_keeps
    | with_reducible apply Keeps.setFq_keeps
    | with_reducible apply Keeps.xDrop_keeps
    | (simp -zeta only [Keeps.mark]; with_reducible refine KeepsLit.intro rfl ?_ ?_ ?_)
    | (with_reducible refine Keeps.ite ?_ ?_)
    | split

theorem Keeps.fqDrain_keeps {gs : List Group} (hg : [.hm, .xg] ⊆ gs) {o0 s : State} (h0 : Keeps gs o0 s) (d : Nat) (die : Nat) : Keeps gs o0 (State.fqDrain s d die) := by
  unfold State.fqDrain
  repeat' first
    | with_reducible assumption
    | with_reducible exact List.Subset.trans (by decide) hg
    | with_reducible exact Regular.keep rfl
    | (intro g hgn; cases g <;> first | exact (Keeps.out hg (by decide) hgn).elim | with_reducible rfl)
    | (extract_lets +onlyGivenNames s1; refine Keeps.have_ (gs := gs) (o := o0) (t := s1) ?_ (fun h => ?_); (on_goal 1 => subst s1); (on_goal 2 => try clear_value s1))
    | (extract_lets +onlyGivenNames n1; first | (have p : Sys := n1; clear p; subst n1) | (have p : Et := n1; clear p; subst n1) | (have p : Hm := n1; clear p; subst n1) | (have p : Opt := n1; clear p; subst n1) | (have p : Xg := n1; clear p; subst n1) | (have p : Sns := n1; clear p; subst n1) | (have p : Ev := n1; clear p; subst n1) | clear_value n1)
    | (with_reducible refine Keeps.foldl (fun t x h => ?_) ?_)
    | with_reducible apply Keeps.arrive_keeps
    | with_reducible apply Keeps.setFq_keeps
    | (simp -zeta only [Keeps.mark]; with_reducible refine KeepsLit.intro rfl ?_ ?_ ?_)
    | (with_reducible refine Keeps.ite ?_ ?_)
    | split

theorem Keeps.execForecastMerge_keeps {gs : List Group} (hg : [.hm] ⊆ gs) {o0 s : State} (h0 : Keeps gs o0 s) : KeepsOut gs o0 (execForecastMerge s) := by
  unfold execForecastMerge
  repeat' first
    | with_reducible assumption
    | with_reducible exact List.Subset.trans (by decide) hg
    | exact fun h => { h with forecasts := Nat.le_trans (by simp) h.forecasts }
    | with_reducible exact Regular.keep rfl
    | (intro g hgn; cases g <;> first | exact (Keeps.out hg (by decide) hgn).elim | with_reducible rfl)
    | (extract_lets +onlyGivenNames s1; refine Keeps.have_ (gs := gs) (o := o0) (t := s1) ?_ (fun h => ?_); (on_goal 1 => subst s1); (on_goal 2 => try clear_value s1))
    | (extract_lets +onlyGivenNames n1; first | (have p : Sys := n1; clear p; subst n1) | (have p : Et := n1; clear p; subst n1) | (have p : Hm := n1; clear p; subst n1) | (have p : Opt := n1; clear p; subst n1) | (have p : Xg := n1; clear p; subst n1) | (have p : Sns := n1; clear p; subst n1) | (have p : Ev := n1; clear p; subst n1) | clear_value n1)
    | (with_reducible refine Keeps.foldl (fun t x h => ?_) ?_)
    | (with_reducible refine Keeps.foldl2 (fun t x h => ?_) ?_)
    | (with_reducible refine Keeps.foldl1 (fun t x h => ?_) ?_)
    | (with_reducible refine KeepsOut.next ?_)
    | with_reducible apply Keeps.foldWord_keeps
    | (simp -zeta only [Keeps.mark]; with_reducible refine KeepsLit.intro rfl ?_ ?_ ?_)
    | split

theorem Keeps.execForecastStale_keeps {gs : List Group} (hg : [] ⊆ gs) {o0 s : State} (h0 : Keeps gs o0 s) (q0 : Fin 256) : KeepsOut gs o0 (execForecastStale q0 s) := by
  unfold execForecastStale
  repeat' first
    | with_reducible assumption
    | with_reducible exact List.Subset.trans (by decide) hg
    | with_reducible exact Regular.keep rfl
    | (intro g hgn; cases g <;> first | exact (Keeps.out hg (by decide) hgn).elim | with_reducible rfl)
    | (extract_lets +onlyGivenNames s1; refine Keeps.have_ (gs := gs) (o := o0) (t := s1) ?_ (fun h => ?_); (on_goal 1 => subst s1); (on_goal 2 => try clear_value s1))
    | (extract_lets +onlyGivenNames n1; first | (have p : Sys := n1; clear p; subst n1) | (have p : Et := n1; clear p; subst n1) | (have p : Hm := n1; clear p; subst n1) | (have p : Opt := n1; clear p; subst n1) | (have p : Xg := n1; clear p; subst n1) | (have p : Sns := n1; clear p; subst n1) | (have p : Ev := n1; clear p; subst n1) | clear_value n1)
    | (with_reducible refine Keeps.foldl (fun t x h => ?_) ?_)
    | (with_reducible refine KeepsOut.next ?_)
    | (simp -zeta only [Keeps.mark]; with_reducible refine KeepsLit.intro rfl ?_ ?_ ?_)
    | split

theorem Keeps.postWords_keeps {gs : List Group} (hg : [.hm] ⊆ gs) {o0 s : State} (h0 : Keeps gs o0 s) (xs : List (BitVec 64)) (n : Nat) :
    Keeps gs o0 (State.postWords xs n s).2.2 := by
  induction xs generalizing s n with
  | nil => exact h0
  | cons x xs ih =>
    unfold State.postWords
    split
    · exact h0
    · exact ih (Keeps.arrive_keeps (List.Subset.trans (by decide) hg) h0 x) _

theorem Keeps.postWaiting_keeps {gs : List Group} (hg : [.mbx, .hm] ⊆ gs) {o0 s : State} (h0 : Keeps gs o0 s) : Keeps gs o0 (State.postWaiting s) := by
  unfold State.postWaiting
  refine Keeps.foldl (fun t m h => ?_) h0
  split
  · rename_i xs n late _
    have h1 := Keeps.postWords_keeps (gs := gs) (List.Subset.trans (by decide) hg) h xs late
    cases hc : State.postWords xs late t with
    | mk a b =>
      rw [hc] at h1
      exact Keeps.ite (Keeps.complete_keeps (List.Subset.trans (by decide) hg) h1 _ _) (Keeps.modBox_keeps (List.Subset.trans (by decide) hg) h1 _ _)
  · exact h

theorem Keeps.cmdForecastPost_keeps {gs : List Group} (hg : [.hm] ⊆ gs) {o0 s : State} (h0 : Keeps gs o0 s) (q : Req) :
    KeepsRes gs o0 (cmdForecastPost q s) := by
  unfold cmdForecastPost
  dsimp only
  split
  · exact KeepsRes.refuse h0
  · split
    · exact KeepsRes.refuse (Keeps.rejectWords_keeps (List.Subset.trans (by decide) hg) h0 _)
    · split
      · exact KeepsRes.refuse (Keeps.rejectWords_keeps (List.Subset.trans (by decide) hg) h0 _)
      · have h1 := Keeps.postWords_keeps (gs := gs) (List.Subset.trans (by decide) hg) h0
        split
        · exact KeepsRes.done (h1 _ _)
        · exact KeepsRes.wait (h1 _ _)

theorem Keeps.execForecastPost_keeps {gs : List Group} (hg : [.mbx, .hm] ⊆ gs) {o0 s : State} (h0 : Keeps gs o0 s) (q : Req) : KeepsOut gs o0 (execForecastPost q s) := by
  unfold execForecastPost
  repeat' first
    | with_reducible assumption
    | with_reducible exact List.Subset.trans (by decide) hg
    | with_reducible exact Regular.keep rfl
    | (intro g hgn; cases g <;> first | exact (Keeps.out hg (by decide) hgn).elim | with_reducible rfl)
    | (extract_lets +onlyGivenNames s1; refine Keeps.have_ (gs := gs) (o := o0) (t := s1) ?_ (fun h => ?_); (on_goal 1 => subst s1); (on_goal 2 => try clear_value s1))
    | (extract_lets +onlyGivenNames n1; first | (have p : Sys := n1; clear p; subst n1) | (have p : Et := n1; clear p; subst n1) | (have p : Hm := n1; clear p; subst n1) | (have p : Opt := n1; clear p; subst n1) | (have p : Xg := n1; clear p; subst n1) | (have p : Sns := n1; clear p; subst n1) | (have p : Ev := n1; clear p; subst n1) | clear_value n1)
    | (with_reducible refine Keeps.foldl (fun t x h => ?_) ?_)
    | (with_reducible refine KeepsOut.next ?_)
    | (with_reducible refine Keeps.submit_keeps ?_ ?_ _ _ (fun q t h => ?_) _)
    | with_reducible apply Keeps.cmdForecastPost_keeps
    | (simp -zeta only [Keeps.mark]; with_reducible refine KeepsLit.intro rfl ?_ ?_ ?_)
    | split

theorem Keeps.govLevel_keeps {gs : List Group} (hg : [.hm] ⊆ gs) {o0 s : State} (h0 : Keeps gs o0 s) (d : Nat) (w : Nat) : Keeps gs o0 (State.govLevel s d w).2 := by
  unfold State.govLevel
  repeat' first
    | with_reducible assumption
    | with_reducible exact List.Subset.trans (by decide) hg
    | with_reducible exact Regular.keep rfl
    | (intro g hgn; cases g <;> first | exact (Keeps.out hg (by decide) hgn).elim | with_reducible rfl)
    | (extract_lets +onlyGivenNames s1; refine Keeps.have_ (gs := gs) (o := o0) (t := s1) ?_ (fun h => ?_); (on_goal 1 => subst s1); (on_goal 2 => try clear_value s1))
    | (extract_lets +onlyGivenNames n1; first | (have p : Sys := n1; clear p; subst n1) | (have p : Et := n1; clear p; subst n1) | (have p : Hm := n1; clear p; subst n1) | (have p : Opt := n1; clear p; subst n1) | (have p : Xg := n1; clear p; subst n1) | (have p : Sns := n1; clear p; subst n1) | (have p : Ev := n1; clear p; subst n1) | clear_value n1)
    | (with_reducible refine Keeps.foldl (fun t x h => ?_) ?_)
    | (with_reducible refine Keeps.foldl2 (fun t x h => ?_) ?_)
    | (with_reducible refine Keeps.foldl1 (fun t x h => ?_) ?_)
    | (dsimp -zeta only)
    | (simp -zeta only [Keeps.mark]; with_reducible refine KeepsLit.intro rfl ?_ ?_ ?_)
    | (with_reducible refine Keeps.ite ?_ ?_)
    | split

theorem Keeps.govLvlOf_keeps {gs : List Group} (hg : [.hm] ⊆ gs) {o0 s : State} (h0 : Keeps gs o0 s) (d : Nat) : Keeps gs o0 (State.govLvlOf s d).2 := by
  unfold State.govLvlOf
  repeat' first
    | with_reducible assumption
    | with_reducible exact List.Subset.trans (by decide) hg
    | with_reducible exact Regular.keep rfl
    | (intro g hgn; cases g <;> first | exact (Keeps.out hg (by decide) hgn).elim | with_reducible rfl)
    | (extract_lets +onlyGivenNames s1; refine Keeps.have_ (gs := gs) (o := o0) (t := s1) ?_ (fun h => ?_); (on_goal 1 => subst s1); (on_goal 2 => try clear_value s1))
    | (extract_lets +onlyGivenNames n1; first | (have p : Sys := n1; clear p; subst n1) | (have p : Et := n1; clear p; subst n1) | (have p : Hm := n1; clear p; subst n1) | (have p : Opt := n1; clear p; subst n1) | (have p : Xg := n1; clear p; subst n1) | (have p : Sns := n1; clear p; subst n1) | (have p : Ev := n1; clear p; subst n1) | clear_value n1)
    | (with_reducible refine Keeps.foldl (fun t x h => ?_) ?_)
    | (with_reducible refine Keeps.foldl2 (fun t x h => ?_) ?_)
    | (with_reducible refine Keeps.foldl1 (fun t x h => ?_) ?_)
    | (dsimp -zeta only)
    | with_reducible apply Keeps.govLevel_keeps
    | (simp -zeta only [Keeps.mark]; with_reducible refine KeepsLit.intro rfl ?_ ?_ ?_)
    | (with_reducible refine KeepsOpt.getD ?_ ?_)
    | (with_reducible refine Keeps.optEq (by assumption) ?_)
    | (with_reducible refine Keeps.pairEq1 (by assumption) ?_)
    | (with_reducible refine Keeps.pairEq2 (by assumption) ?_)
    | split

theorem Keeps.govTerms_keeps {gs : List Group} (hg : [.hm] ⊆ gs) {o0 s : State} (h0 : Keeps gs o0 s) : Keeps gs o0 (State.govTerms s).2 := by
  unfold State.govTerms
  repeat' first
    | with_reducible assumption
    | with_reducible exact List.Subset.trans (by decide) hg
    | with_reducible exact Regular.keep rfl
    | (intro g hgn; cases g <;> first | exact (Keeps.out hg (by decide) hgn).elim | with_reducible rfl)
    | (extract_lets +onlyGivenNames s1; refine Keeps.have_ (gs := gs) (o := o0) (t := s1) ?_ (fun h => ?_); (on_goal 1 => subst s1); (on_goal 2 => try clear_value s1))
    | (extract_lets +onlyGivenNames n1; first | (have p : Sys := n1; clear p; subst n1) | (have p : Et := n1; clear p; subst n1) | (have p : Hm := n1; clear p; subst n1) | (have p : Opt := n1; clear p; subst n1) | (have p : Xg := n1; clear p; subst n1) | (have p : Sns := n1; clear p; subst n1) | (have p : Ev := n1; clear p; subst n1) | clear_value n1)
    | (with_reducible refine Keeps.foldl (fun t x h => ?_) ?_)
    | (with_reducible refine Keeps.foldl2 (fun t x h => ?_) ?_)
    | (with_reducible refine Keeps.foldl1 (fun t x h => ?_) ?_)
    | (dsimp -zeta only)
    | with_reducible apply Keeps.govLvlOf_keeps
    | (simp -zeta only [Keeps.mark]; with_reducible refine KeepsLit.intro rfl ?_ ?_ ?_)
    | (with_reducible refine KeepsOpt.getD ?_ ?_)
    | (with_reducible refine Keeps.optEq (by assumption) ?_)
    | (with_reducible refine Keeps.pairEq1 (by assumption) ?_)
    | (with_reducible refine Keeps.pairEq2 (by assumption) ?_)
    | split

theorem Keeps.govern_keeps {gs : List Group} (hg : [.hm, .sns, .ev] ⊆ gs) {o0 s : State} (h0 : Keeps gs o0 s) : Keeps gs o0 (State.govern s) := by
  unfold State.govern
  repeat' first
    | with_reducible assumption
    | with_reducible exact List.Subset.trans (by decide) hg
    | with_reducible exact Regular.keep rfl
    | (intro g hgn; cases g <;> first | exact (Keeps.out hg (by decide) hgn).elim | with_reducible rfl)
    | (extract_lets +onlyGivenNames s1; refine Keeps.have_ (gs := gs) (o := o0) (t := s1) ?_ (fun h => ?_); (on_goal 1 => subst s1); (on_goal 2 => try clear_value s1))
    | (extract_lets +onlyGivenNames n1; first | (have p : Sys := n1; clear p; subst n1) | (have p : Et := n1; clear p; subst n1) | (have p : Hm := n1; clear p; subst n1) | (have p : Opt := n1; clear p; subst n1) | (have p : Xg := n1; clear p; subst n1) | (have p : Sns := n1; clear p; subst n1) | (have p : Ev := n1; clear p; subst n1) | clear_value n1)
    | (with_reducible refine Keeps.foldl (fun t x h => ?_) ?_)
    | with_reducible apply Keeps.govTerms_keeps
    | with_reducible apply Keeps.raiseIf_keeps
    | (simp -zeta only [Keeps.mark]; with_reducible refine KeepsLit.intro rfl ?_ ?_ ?_)
    | (with_reducible refine KeepsOpt.getD ?_ ?_)
    | (with_reducible refine Keeps.optEq (by assumption) ?_)
    | (with_reducible refine Keeps.pairEq1 (by assumption) ?_)
    | (with_reducible refine Keeps.pairEq2 (by assumption) ?_)
    | (with_reducible refine Keeps.ite ?_ ?_)
    | split

theorem Keeps.imageFaults_keeps {gs : List Group} (hg : [.hm, .ev] ⊆ gs) {o0 s : State} (h0 : Keeps gs o0 s) (id : BitVec 16) : Keeps gs o0 (State.imageFaults s id) := by
  unfold State.imageFaults
  repeat' first
    | with_reducible assumption
    | with_reducible exact List.Subset.trans (by decide) hg
    | with_reducible exact Regular.keep rfl
    | (intro g hgn; cases g <;> first | exact (Keeps.out hg (by decide) hgn).elim | with_reducible rfl)
    | (extract_lets +onlyGivenNames s1; refine Keeps.have_ (gs := gs) (o := o0) (t := s1) ?_ (fun h => ?_); (on_goal 1 => subst s1); (on_goal 2 => try clear_value s1))
    | (extract_lets +onlyGivenNames n1; first | (have p : Sys := n1; clear p; subst n1) | (have p : Et := n1; clear p; subst n1) | (have p : Hm := n1; clear p; subst n1) | (have p : Opt := n1; clear p; subst n1) | (have p : Xg := n1; clear p; subst n1) | (have p : Sns := n1; clear p; subst n1) | (have p : Ev := n1; clear p; subst n1) | clear_value n1)
    | (with_reducible refine Keeps.foldl (fun t x h => ?_) ?_)
    | with_reducible apply Keeps.raise_keeps
    | (simp -zeta only [Keeps.mark]; with_reducible refine KeepsLit.intro rfl ?_ ?_ ?_)
    | (with_reducible refine Keeps.ite ?_ ?_)
    | split

theorem Keeps.unloadDue_keeps {gs : List Group} (hg : [.hm] ⊆ gs) {o0 s : State} (h0 : Keeps gs o0 s) : Keeps gs o0 (State.unloadDue s) := by
  unfold State.unloadDue
  repeat' first
    | with_reducible assumption
    | with_reducible exact List.Subset.trans (by decide) hg
    | with_reducible exact Regular.keep rfl
    | (intro g hgn; cases g <;> first | exact (Keeps.out hg (by decide) hgn).elim | with_reducible rfl)
    | (extract_lets +onlyGivenNames s1; refine Keeps.have_ (gs := gs) (o := o0) (t := s1) ?_ (fun h => ?_); (on_goal 1 => subst s1); (on_goal 2 => try clear_value s1))
    | (extract_lets +onlyGivenNames n1; first | (have p : Sys := n1; clear p; subst n1) | (have p : Et := n1; clear p; subst n1) | (have p : Hm := n1; clear p; subst n1) | (have p : Opt := n1; clear p; subst n1) | (have p : Xg := n1; clear p; subst n1) | (have p : Sns := n1; clear p; subst n1) | (have p : Ev := n1; clear p; subst n1) | clear_value n1)
    | (with_reducible refine Keeps.foldl (fun t x h => ?_) ?_)
    | (simp -zeta only [Keeps.mark]; with_reducible refine KeepsLit.intro rfl ?_ ?_ ?_)
    | split

theorem Keeps.activate_keeps {gs : List Group} (hg : [.mbx, .hm] ⊆ gs) {o0 s : State} (h0 : Keeps gs o0 s) : Keeps gs o0 (State.activate s) := by
  unfold State.activate
  repeat' first
    | with_reducible assumption
    | with_reducible exact List.Subset.trans (by decide) hg
    | with_reducible exact Regular.keep rfl
    | (intro g hgn; cases g <;> first | exact (Keeps.out hg (by decide) hgn).elim | with_reducible rfl)
    | (extract_lets +onlyGivenNames s1; refine Keeps.have_ (gs := gs) (o := o0) (t := s1) ?_ (fun h => ?_); (on_goal 1 => subst s1); (on_goal 2 => try clear_value s1))
    | (extract_lets +onlyGivenNames n1; first | (have p : Sys := n1; clear p; subst n1) | (have p : Et := n1; clear p; subst n1) | (have p : Hm := n1; clear p; subst n1) | (have p : Opt := n1; clear p; subst n1) | (have p : Xg := n1; clear p; subst n1) | (have p : Sns := n1; clear p; subst n1) | (have p : Ev := n1; clear p; subst n1) | clear_value n1)
    | (with_reducible refine Keeps.foldl (fun t x h => ?_) ?_)
    | with_reducible apply Keeps.finishOp_keeps
    | (simp -zeta only [Keeps.mark]; with_reducible refine KeepsLit.intro rfl ?_ ?_ ?_)
    | (with_reducible refine Keeps.ite ?_ ?_)
    | split

theorem Keeps.execModelActivate_keeps {gs : List Group} (hg : [.mbx, .hm] ⊆ gs) {o0 s : State} (h0 : Keeps gs o0 s) (id : BitVec 16) : KeepsOut gs o0 (execModelActivate id s) := by
  unfold execModelActivate
  repeat' first
    | with_reducible assumption
    | with_reducible exact List.Subset.trans (by decide) hg
    | with_reducible exact Regular.keep rfl
    | (intro g hgn; cases g <;> first | exact (Keeps.out hg (by decide) hgn).elim | with_reducible rfl)
    | (extract_lets +onlyGivenNames s1; refine Keeps.have_ (gs := gs) (o := o0) (t := s1) ?_ (fun h => ?_); (on_goal 1 => subst s1); (on_goal 2 => try clear_value s1))
    | (extract_lets +onlyGivenNames n1; first | (have p : Sys := n1; clear p; subst n1) | (have p : Et := n1; clear p; subst n1) | (have p : Hm := n1; clear p; subst n1) | (have p : Opt := n1; clear p; subst n1) | (have p : Xg := n1; clear p; subst n1) | (have p : Sns := n1; clear p; subst n1) | (have p : Ev := n1; clear p; subst n1) | clear_value n1)
    | (with_reducible refine Keeps.foldl (fun t x h => ?_) ?_)
    | (with_reducible refine KeepsOut.next ?_)
    | with_reducible apply Keeps.activate_keeps
    | (simp -zeta only [Keeps.mark]; with_reducible refine KeepsLit.intro rfl ?_ ?_ ?_)
    | (with_reducible refine Keeps.ite ?_ ?_)
    | split

theorem Keeps.modelStaged_keeps {gs : List Group} (hg : [.mbx, .hm] ⊆ gs) {o0 s : State} (h0 : Keeps gs o0 s) (h : Nat) :
    Keeps gs o0 (State.modelStaged s h) := by
  have hs : ∀ f : LongOp → LongOp, Keeps gs o0 (s.modOp h f) := fun f => Keeps.modOp_keeps (List.Subset.trans (by decide) hg) h0 h f
  unfold State.modelStaged
  split
  · exact Keeps.finishOp_keeps (List.Subset.trans (by decide) hg) (hs _) _ _ _
  · split
    · exact Keeps.finishOp_keeps (List.Subset.trans (by decide) hg) (hs _) _ _ _
    · rename_i x _ _
      refine (hs (fun o => { o with step := 4, target := x.id.toNat })).trans ⟨⟨?_⟩, Regular.keep rfl⟩
      intro g hgn
      cases g <;> first | exact (Keeps.out hg (by decide) hgn).elim | rfl

theorem Keeps.cmdModelLoad_keeps {gs : List Group} (hg : [.mbx, .hm] ⊆ gs) {o0 s : State} (h0 : Keeps gs o0 s) (q : Req) : KeepsRes gs o0 (cmdModelLoad q s) := by
  unfold cmdModelLoad
  repeat' first
    | with_reducible assumption
    | with_reducible exact List.Subset.trans (by decide) hg
    | with_reducible exact Regular.keep rfl
    | (intro g hgn; cases g <;> first | exact (Keeps.out hg (by decide) hgn).elim | with_reducible rfl)
    | (extract_lets +onlyGivenNames s1; refine KeepsRes.have_ (gs := gs) (o := o0) (r := s1) ?_ (fun h => ?_); (on_goal 1 => subst s1); (on_goal 2 => try clear_value s1))
    | (extract_lets +onlyGivenNames s1; refine Keeps.have_ (gs := gs) (o := o0) (t := s1) ?_ (fun h => ?_); (on_goal 1 => subst s1); (on_goal 2 => try clear_value s1))
    | (extract_lets +onlyGivenNames n1; first | (have p : Sys := n1; clear p; subst n1) | (have p : Et := n1; clear p; subst n1) | (have p : Hm := n1; clear p; subst n1) | (have p : Opt := n1; clear p; subst n1) | (have p : Xg := n1; clear p; subst n1) | (have p : Sns := n1; clear p; subst n1) | (have p : Ev := n1; clear p; subst n1) | clear_value n1)
    | (with_reducible refine Keeps.foldl (fun t x h => ?_) ?_)
    | (with_reducible refine KeepsRes.done ?_)
    | (with_reducible refine KeepsRes.wait ?_)
    | (with_reducible refine KeepsRes.refuse ?_)
    | with_reducible apply Keeps.finishOp_keeps
    | with_reducible apply Keeps.modOp_keeps
    | with_reducible apply Keeps.modelStaged_keeps
    | (with_reducible refine Keeps.startOp_keeps ?_ ?_ _ _ _ (fun i t h => ?_))
    | with_reducible apply Keeps.refuse_keeps
    | (simp -zeta only [Keeps.mark]; with_reducible refine KeepsLit.intro rfl ?_ ?_ ?_)
    | (with_reducible refine Keeps.ite ?_ ?_)
    | split

theorem Keeps.execModelLoad_keeps {gs : List Group} (hg : [.mbx, .hm] ⊆ gs) {o0 s : State} (h0 : Keeps gs o0 s) (q : Req) : KeepsOut gs o0 (execModelLoad q s) := by
  unfold execModelLoad
  repeat' first
    | with_reducible assumption
    | with_reducible exact List.Subset.trans (by decide) hg
    | with_reducible exact Regular.keep rfl
    | (intro g hgn; cases g <;> first | exact (Keeps.out hg (by decide) hgn).elim | with_reducible rfl)
    | (extract_lets +onlyGivenNames s1; refine Keeps.have_ (gs := gs) (o := o0) (t := s1) ?_ (fun h => ?_); (on_goal 1 => subst s1); (on_goal 2 => try clear_value s1))
    | (extract_lets +onlyGivenNames n1; first | (have p : Sys := n1; clear p; subst n1) | (have p : Et := n1; clear p; subst n1) | (have p : Hm := n1; clear p; subst n1) | (have p : Opt := n1; clear p; subst n1) | (have p : Xg := n1; clear p; subst n1) | (have p : Sns := n1; clear p; subst n1) | (have p : Ev := n1; clear p; subst n1) | clear_value n1)
    | (with_reducible refine Keeps.foldl (fun t x h => ?_) ?_)
    | (with_reducible refine KeepsOut.next ?_)
    | (with_reducible refine Keeps.submit_keeps ?_ ?_ _ _ (fun q t h => ?_) _)
    | with_reducible apply Keeps.cmdModelLoad_keeps
    | (simp -zeta only [Keeps.mark]; with_reducible refine KeepsLit.intro rfl ?_ ?_ ?_)
    | split

theorem Keeps.cmdModelUnload_keeps {gs : List Group} (hg : [.hm] ⊆ gs) {o0 s : State} (h0 : Keeps gs o0 s) (q : Req) : KeepsRes gs o0 (cmdModelUnload q s) := by
  unfold cmdModelUnload
  repeat' first
    | with_reducible assumption
    | with_reducible exact List.Subset.trans (by decide) hg
    | with_reducible exact Regular.keep rfl
    | (intro g hgn; cases g <;> first | exact (Keeps.out hg (by decide) hgn).elim | with_reducible rfl)
    | (extract_lets +onlyGivenNames s1; refine KeepsRes.have_ (gs := gs) (o := o0) (r := s1) ?_ (fun h => ?_); (on_goal 1 => subst s1); (on_goal 2 => try clear_value s1))
    | (extract_lets +onlyGivenNames s1; refine Keeps.have_ (gs := gs) (o := o0) (t := s1) ?_ (fun h => ?_); (on_goal 1 => subst s1); (on_goal 2 => try clear_value s1))
    | (extract_lets +onlyGivenNames n1; first | (have p : Sys := n1; clear p; subst n1) | (have p : Et := n1; clear p; subst n1) | (have p : Hm := n1; clear p; subst n1) | (have p : Opt := n1; clear p; subst n1) | (have p : Xg := n1; clear p; subst n1) | (have p : Sns := n1; clear p; subst n1) | (have p : Ev := n1; clear p; subst n1) | clear_value n1)
    | (with_reducible refine Keeps.foldl (fun t x h => ?_) ?_)
    | (with_reducible refine KeepsRes.done ?_)
    | (with_reducible refine KeepsRes.wait ?_)
    | (with_reducible refine KeepsRes.refuse ?_)
    | with_reducible apply Keeps.refuse_keeps
    | (simp -zeta only [Keeps.mark]; with_reducible refine KeepsLit.intro rfl ?_ ?_ ?_)
    | (with_reducible refine Keeps.ite ?_ ?_)
    | split

theorem Keeps.execModelUnload_keeps {gs : List Group} (hg : [.mbx, .hm] ⊆ gs) {o0 s : State} (h0 : Keeps gs o0 s) (q : Req) : KeepsOut gs o0 (execModelUnload q s) := by
  unfold execModelUnload
  repeat' first
    | with_reducible assumption
    | with_reducible exact List.Subset.trans (by decide) hg
    | with_reducible exact Regular.keep rfl
    | (intro g hgn; cases g <;> first | exact (Keeps.out hg (by decide) hgn).elim | with_reducible rfl)
    | (extract_lets +onlyGivenNames s1; refine Keeps.have_ (gs := gs) (o := o0) (t := s1) ?_ (fun h => ?_); (on_goal 1 => subst s1); (on_goal 2 => try clear_value s1))
    | (extract_lets +onlyGivenNames n1; first | (have p : Sys := n1; clear p; subst n1) | (have p : Et := n1; clear p; subst n1) | (have p : Hm := n1; clear p; subst n1) | (have p : Opt := n1; clear p; subst n1) | (have p : Xg := n1; clear p; subst n1) | (have p : Sns := n1; clear p; subst n1) | (have p : Ev := n1; clear p; subst n1) | clear_value n1)
    | (with_reducible refine Keeps.foldl (fun t x h => ?_) ?_)
    | (with_reducible refine KeepsOut.next ?_)
    | (with_reducible refine Keeps.submit_keeps ?_ ?_ _ _ (fun q t h => ?_) _)
    | with_reducible apply Keeps.cmdModelUnload_keeps
    | (simp -zeta only [Keeps.mark]; with_reducible refine KeepsLit.intro rfl ?_ ?_ ?_)
    | split

theorem Keeps.hmTick_keeps {gs : List Group} (hg : [.hm] ⊆ gs) {o0 s : State} (h0 : Keeps gs o0 s) : Keeps gs o0 (State.hmTick s) := by
  unfold State.hmTick
  repeat' first
    | with_reducible assumption
    | with_reducible exact List.Subset.trans (by decide) hg
    | with_reducible exact Regular.keep rfl
    | (intro g hgn; cases g <;> first | exact (Keeps.out hg (by decide) hgn).elim | with_reducible rfl)
    | (extract_lets +onlyGivenNames s1; refine Keeps.have_ (gs := gs) (o := o0) (t := s1) ?_ (fun h => ?_); (on_goal 1 => subst s1); (on_goal 2 => try clear_value s1))
    | (extract_lets +onlyGivenNames n1; first | (have p : Sys := n1; clear p; subst n1) | (have p : Et := n1; clear p; subst n1) | (have p : Hm := n1; clear p; subst n1) | (have p : Opt := n1; clear p; subst n1) | (have p : Xg := n1; clear p; subst n1) | (have p : Sns := n1; clear p; subst n1) | (have p : Ev := n1; clear p; subst n1) | clear_value n1)
    | (with_reducible refine Keeps.foldl (fun t x h => ?_) ?_)
    | (simp -zeta only [Keeps.mark]; with_reducible refine KeepsLit.intro rfl ?_ ?_ ?_)
    | (with_reducible refine Keeps.ite ?_ ?_)
    | split

theorem Keeps.voidSent_keeps {gs : List Group} (hg : [.hm] ⊆ gs) {o0 s : State} (h0 : Keeps gs o0 s) (fresh : Bool) : Keeps gs o0 (State.voidSent s fresh) := by
  unfold State.voidSent
  repeat' first
    | with_reducible assumption
    | with_reducible exact List.Subset.trans (by decide) hg
    | with_reducible exact Regular.keep rfl
    | (intro g hgn; cases g <;> first | exact (Keeps.out hg (by decide) hgn).elim | with_reducible rfl)
    | (extract_lets +onlyGivenNames s1; refine Keeps.have_ (gs := gs) (o := o0) (t := s1) ?_ (fun h => ?_); (on_goal 1 => subst s1); (on_goal 2 => try clear_value s1))
    | (extract_lets +onlyGivenNames n1; first | (have p : Sys := n1; clear p; subst n1) | (have p : Et := n1; clear p; subst n1) | (have p : Hm := n1; clear p; subst n1) | (have p : Opt := n1; clear p; subst n1) | (have p : Xg := n1; clear p; subst n1) | (have p : Sns := n1; clear p; subst n1) | (have p : Ev := n1; clear p; subst n1) | clear_value n1)
    | (with_reducible refine Keeps.foldl (fun t x h => ?_) ?_)
    | (simp -zeta only [Keeps.mark]; with_reducible refine KeepsLit.intro rfl ?_ ?_ ?_)
    | (with_reducible refine Keeps.ite ?_ ?_)
    | split

theorem Keeps.hmSwitch_keeps {gs : List Group} (hg : [.hm] ⊆ gs) {o0 s : State} (h0 : Keeps gs o0 s) : Keeps gs o0 (State.hmSwitch s) := by
  unfold State.hmSwitch
  repeat' first
    | with_reducible assumption
    | with_reducible exact List.Subset.trans (by decide) hg
    | exact fun h => { h with forecasts := Nat.zero_le _ }
    | with_reducible exact Regular.keep rfl
    | (intro g hgn; cases g <;> first | exact (Keeps.out hg (by decide) hgn).elim | with_reducible rfl)
    | (extract_lets +onlyGivenNames s1; refine Keeps.have_ (gs := gs) (o := o0) (t := s1) ?_ (fun h => ?_); (on_goal 1 => subst s1); (on_goal 2 => try clear_value s1))
    | (extract_lets +onlyGivenNames n1; first | (have p : Sys := n1; clear p; subst n1) | (have p : Et := n1; clear p; subst n1) | (have p : Hm := n1; clear p; subst n1) | (have p : Opt := n1; clear p; subst n1) | (have p : Xg := n1; clear p; subst n1) | (have p : Sns := n1; clear p; subst n1) | (have p : Ev := n1; clear p; subst n1) | clear_value n1)
    | (with_reducible refine Keeps.foldl (fun t x h => ?_) ?_)
    | with_reducible apply Keeps.voidSent_keeps
    | (simp -zeta only [Keeps.mark]; with_reducible refine KeepsLit.intro rfl ?_ ?_ ?_)
    | (with_reducible refine Keeps.ite ?_ ?_)
    | split

theorem Keeps.requeue_keeps {gs : List Group} (hg : [.mbx, .reg, .cal] ⊆ gs) {o0 s : State} (h0 : Keeps gs o0 s) : Keeps gs o0 (State.requeue s) := by
  unfold State.requeue
  repeat' first
    | with_reducible assumption
    | with_reducible exact List.Subset.trans (by decide) hg
    | with_reducible exact Regular.keep rfl
    | (intro g hgn; cases g <;> first | exact (Keeps.out hg (by decide) hgn).elim | with_reducible rfl)
    | (extract_lets +onlyGivenNames s1; refine Keeps.have_ (gs := gs) (o := o0) (t := s1) ?_ (fun h => ?_); (on_goal 1 => subst s1); (on_goal 2 => try clear_value s1))
    | (extract_lets +onlyGivenNames n1; first | (have p : Sys := n1; clear p; subst n1) | (have p : Et := n1; clear p; subst n1) | (have p : Hm := n1; clear p; subst n1) | (have p : Opt := n1; clear p; subst n1) | (have p : Xg := n1; clear p; subst n1) | (have p : Sns := n1; clear p; subst n1) | (have p : Ev := n1; clear p; subst n1) | clear_value n1)
    | (with_reducible refine Keeps.foldl (fun t x h => ?_) ?_)
    | with_reducible apply Keeps.calOpEnd_keeps
    | with_reducible apply Keeps.calSync_keeps
    | (simp -zeta only [Keeps.mark]; with_reducible refine KeepsLit.intro rfl ?_ ?_ ?_)
    | (with_reducible refine Keeps.ite ?_ ?_)
    | split

theorem Keeps.followUp_keeps {gs : List Group} (hg : [.sys, .mbx, .reg, .cal, .sns, .cfg, .ev] ⊆ gs) {o0 s : State} (h0 : Keeps gs o0 s) : Keeps gs o0 (State.followUp s) := by
  unfold State.followUp
  repeat' first
    | with_reducible assumption
    | with_reducible exact List.Subset.trans (by decide) hg
    | with_reducible exact Regular.keep rfl
    | (intro g hgn; cases g <;> first | exact (Keeps.out hg (by decide) hgn).elim | with_reducible rfl)
    | (extract_lets +onlyGivenNames s1; refine Keeps.have_ (gs := gs) (o := o0) (t := s1) ?_ (fun h => ?_); (on_goal 1 => subst s1); (on_goal 2 => try clear_value s1))
    | (extract_lets +onlyGivenNames n1; first | (have p : Sys := n1; clear p; subst n1) | (have p : Et := n1; clear p; subst n1) | (have p : Hm := n1; clear p; subst n1) | (have p : Opt := n1; clear p; subst n1) | (have p : Xg := n1; clear p; subst n1) | (have p : Sns := n1; clear p; subst n1) | (have p : Ev := n1; clear p; subst n1) | clear_value n1)
    | (with_reducible refine Keeps.foldl (fun t x h => ?_) ?_)
    | with_reducible apply Keeps.refence_keeps
    | with_reducible apply Keeps.requeue_keeps
    | with_reducible apply Keeps.throttleDue_keeps
    | with_reducible apply Keeps.toLimp_keeps
    | (simp -zeta only [Keeps.mark]; with_reducible refine KeepsLit.intro rfl ?_ ?_ ?_)
    | (with_reducible refine Keeps.ite ?_ ?_)
    | split

theorem Keeps.resumed_keeps {gs : List Group} (hg : [.sys, .mbx, .reg, .cal, .sns, .cfg, .ev] ⊆ gs) {o0 s : State} (h0 : Keeps gs o0 s) : Keeps gs o0 (State.resumed s) := by
  unfold State.resumed
  repeat' first
    | with_reducible assumption
    | with_reducible exact List.Subset.trans (by decide) hg
    | with_reducible exact Regular.keep rfl
    | (intro g hgn; cases g <;> first | exact (Keeps.out hg (by decide) hgn).elim | with_reducible rfl)
    | (extract_lets +onlyGivenNames s1; refine Keeps.have_ (gs := gs) (o := o0) (t := s1) ?_ (fun h => ?_); (on_goal 1 => subst s1); (on_goal 2 => try clear_value s1))
    | (extract_lets +onlyGivenNames n1; first | (have p : Sys := n1; clear p; subst n1) | (have p : Et := n1; clear p; subst n1) | (have p : Hm := n1; clear p; subst n1) | (have p : Opt := n1; clear p; subst n1) | (have p : Xg := n1; clear p; subst n1) | (have p : Sns := n1; clear p; subst n1) | (have p : Ev := n1; clear p; subst n1) | clear_value n1)
    | (with_reducible refine Keeps.foldl (fun t x h => ?_) ?_)
    | with_reducible apply Keeps.followUp_keeps
    | (simp -zeta only [Keeps.mark]; with_reducible refine KeepsLit.intro rfl ?_ ?_ ?_)
    | (with_reducible refine Keeps.ite ?_ ?_)
    | split

theorem Keeps.execJointReset_keeps {gs : List Group} (hg : [.sys, .ctl, .mbx, .reg, .ls, .xg, .cal, .sns, .cfg, .ev] ⊆ gs) {o0 s : State} (h0 : Keeps gs o0 s) (id : Word) : KeepsOut gs o0 (execJointReset id s) := by
  unfold execJointReset
  repeat' first
    | with_reducible assumption
    | with_reducible exact List.Subset.trans (by decide) hg
    | with_reducible exact Regular.keep rfl
    | (intro g hgn; cases g <;> first | exact (Keeps.out hg (by decide) hgn).elim | with_reducible rfl)
    | (extract_lets +onlyGivenNames s1; refine Keeps.have_ (gs := gs) (o := o0) (t := s1) ?_ (fun h => ?_); (on_goal 1 => subst s1); (on_goal 2 => try clear_value s1))
    | (extract_lets +onlyGivenNames n1; first | (have p : Sys := n1; clear p; subst n1) | (have p : Et := n1; clear p; subst n1) | (have p : Hm := n1; clear p; subst n1) | (have p : Opt := n1; clear p; subst n1) | (have p : Xg := n1; clear p; subst n1) | (have p : Sns := n1; clear p; subst n1) | (have p : Ev := n1; clear p; subst n1) | clear_value n1)
    | (with_reducible refine Keeps.foldl (fun t x h => ?_) ?_)
    | (with_reducible refine KeepsOut.next ?_)
    | with_reducible apply Keeps.followUp_keeps
    | with_reducible apply Keeps.joint_keeps
    | (simp -zeta only [Keeps.mark]; with_reducible refine KeepsLit.intro rfl ?_ ?_ ?_)
    | (with_reducible refine Keeps.ite ?_ ?_)
    | split

theorem Keeps.execEvaluationStart_keeps {gs : List Group} (hg : [.sys, .mbx, .reg, .hm, .cal, .sns, .cfg, .ev] ⊆ gs) {o0 s : State} (h0 : Keeps gs o0 s) (bad : List (BitVec 16) := []) : KeepsOut gs o0 (execEvaluationStart s bad) := by
  unfold execEvaluationStart
  repeat' first
    | with_reducible assumption
    | with_reducible exact List.Subset.trans (by decide) hg
    | with_reducible exact Regular.keep rfl
    | (intro g hgn; cases g <;> first | exact (Keeps.out hg (by decide) hgn).elim | with_reducible rfl)
    | (extract_lets +onlyGivenNames s1; refine Keeps.have_ (gs := gs) (o := o0) (t := s1) ?_ (fun h => ?_); (on_goal 1 => subst s1); (on_goal 2 => try clear_value s1))
    | (extract_lets +onlyGivenNames n1; first | (have p : Sys := n1; clear p; subst n1) | (have p : Et := n1; clear p; subst n1) | (have p : Hm := n1; clear p; subst n1) | (have p : Opt := n1; clear p; subst n1) | (have p : Xg := n1; clear p; subst n1) | (have p : Sns := n1; clear p; subst n1) | (have p : Ev := n1; clear p; subst n1) | clear_value n1)
    | (with_reducible refine Keeps.foldl (fun t x h => ?_) ?_)
    | (with_reducible refine KeepsOut.next ?_)
    | with_reducible apply Keeps.activate_keeps
    | with_reducible apply Keeps.govern_keeps
    | with_reducible apply Keeps.hmSwitch_keeps
    | with_reducible apply Keeps.hmTick_keeps
    | with_reducible apply Keeps.imageFaults_keeps
    | with_reducible apply Keeps.resumed_keeps
    | with_reducible apply Keeps.unloadDue_keeps
    | (simp -zeta only [Keeps.mark]; with_reducible refine KeepsLit.intro rfl ?_ ?_ ?_)
    | (with_reducible refine Keeps.ite ?_ ?_)
    | split

theorem Keeps.execEvaluationOverrun_keeps {gs : List Group} (hg : [.hm, .ev] ⊆ gs) {o0 s : State} (h0 : Keeps gs o0 s) (reached : Fin 256) : KeepsOut gs o0 (execEvaluationOverrun reached s) := by
  unfold execEvaluationOverrun
  repeat' first
    | with_reducible assumption
    | with_reducible exact List.Subset.trans (by decide) hg
    | with_reducible exact Regular.keep rfl
    | (intro g hgn; cases g <;> first | exact (Keeps.out hg (by decide) hgn).elim | with_reducible rfl)
    | (extract_lets +onlyGivenNames s1; refine Keeps.have_ (gs := gs) (o := o0) (t := s1) ?_ (fun h => ?_); (on_goal 1 => subst s1); (on_goal 2 => try clear_value s1))
    | (extract_lets +onlyGivenNames n1; first | (have p : Sys := n1; clear p; subst n1) | (have p : Et := n1; clear p; subst n1) | (have p : Hm := n1; clear p; subst n1) | (have p : Opt := n1; clear p; subst n1) | (have p : Xg := n1; clear p; subst n1) | (have p : Sns := n1; clear p; subst n1) | (have p : Ev := n1; clear p; subst n1) | clear_value n1)
    | (with_reducible refine Keeps.foldl (fun t x h => ?_) ?_)
    | (with_reducible refine KeepsOut.next ?_)
    | with_reducible apply Keeps.raiseIf_keeps
    | (simp -zeta only [Keeps.mark]; with_reducible refine KeepsLit.intro rfl ?_ ?_ ?_)
    | (with_reducible refine Keeps.ite ?_ ?_)
    | split

theorem Keeps.discardEval_keeps {gs : List Group} (hg : [.hm] ⊆ gs) {o0 s : State} (h0 : Keeps gs o0 s) : Keeps gs o0 (State.discardEval s) := by
  unfold State.discardEval
  repeat' first
    | with_reducible assumption
    | with_reducible exact List.Subset.trans (by decide) hg
    | exact fun h => { h with forecasts := (by dsimp only; rw [State.evalNow_queue]; exact h.forecasts) }
    | with_reducible exact Regular.keep rfl
    | (intro g hgn; cases g <;> first | exact (Keeps.out hg (by decide) hgn).elim | with_reducible rfl)
    | (extract_lets +onlyGivenNames s1; refine Keeps.have_ (gs := gs) (o := o0) (t := s1) ?_ (fun h => ?_); (on_goal 1 => subst s1); (on_goal 2 => try clear_value s1))
    | (extract_lets +onlyGivenNames n1; first | (have p : Sys := n1; clear p; subst n1) | (have p : Et := n1; clear p; subst n1) | (have p : Hm := n1; clear p; subst n1) | (have p : Opt := n1; clear p; subst n1) | (have p : Xg := n1; clear p; subst n1) | (have p : Sns := n1; clear p; subst n1) | (have p : Ev := n1; clear p; subst n1) | clear_value n1)
    | (with_reducible refine Keeps.foldl (fun t x h => ?_) ?_)
    | with_reducible apply Keeps.evalNow_keeps
    | (simp -zeta only [Keeps.mark]; with_reducible refine KeepsLit.intro rfl ?_ ?_ ?_)
    | split

theorem Keeps.holdPlans_keeps {gs : List Group} (hg : [.reg] ⊆ gs) {o0 s : State} (h0 : Keeps gs o0 s) : Keeps gs o0 (State.holdPlans s) := by
  unfold State.holdPlans
  repeat' first
    | with_reducible assumption
    | with_reducible exact List.Subset.trans (by decide) hg
    | with_reducible exact Regular.keep rfl
    | (intro g hgn; cases g <;> first | exact (Keeps.out hg (by decide) hgn).elim | with_reducible rfl)
    | (extract_lets +onlyGivenNames s1; refine Keeps.have_ (gs := gs) (o := o0) (t := s1) ?_ (fun h => ?_); (on_goal 1 => subst s1); (on_goal 2 => try clear_value s1))
    | (extract_lets +onlyGivenNames n1; first | (have p : Sys := n1; clear p; subst n1) | (have p : Et := n1; clear p; subst n1) | (have p : Hm := n1; clear p; subst n1) | (have p : Opt := n1; clear p; subst n1) | (have p : Xg := n1; clear p; subst n1) | (have p : Sns := n1; clear p; subst n1) | (have p : Ev := n1; clear p; subst n1) | clear_value n1)
    | (with_reducible refine Keeps.foldl (fun t x h => ?_) ?_)
    | with_reducible apply Keeps.modRgns_keeps
    | (simp -zeta only [Keeps.mark]; with_reducible refine KeepsLit.intro rfl ?_ ?_ ?_)
    | split

theorem Keeps.execPlanFlip_keeps {gs : List Group} (hg : [.reg, .hm] ⊆ gs) {o0 s : State} (h0 : Keeps gs o0 s) : KeepsOut gs o0 (execPlanFlip s) := by
  unfold execPlanFlip
  repeat' first
    | with_reducible assumption
    | with_reducible exact List.Subset.trans (by decide) hg
    | exact fun h => { h with forecasts := (by dsimp only; rw [Hm.evalStep_queue]; exact h.forecasts) }
    | with_reducible exact Regular.keep rfl
    | (intro g hgn; cases g <;> first | exact (Keeps.out hg (by decide) hgn).elim | with_reducible rfl)
    | (extract_lets +onlyGivenNames s1; refine Keeps.have_ (gs := gs) (o := o0) (t := s1) ?_ (fun h => ?_); (on_goal 1 => subst s1); (on_goal 2 => try clear_value s1))
    | (extract_lets +onlyGivenNames n1; first | (have p : Sys := n1; clear p; subst n1) | (have p : Et := n1; clear p; subst n1) | (have p : Hm := n1; clear p; subst n1) | (have p : Opt := n1; clear p; subst n1) | (have p : Xg := n1; clear p; subst n1) | (have p : Sns := n1; clear p; subst n1) | (have p : Ev := n1; clear p; subst n1) | clear_value n1)
    | (with_reducible refine Keeps.foldl (fun t x h => ?_) ?_)
    | (with_reducible refine Keeps.foldl2 (fun t x h => ?_) ?_)
    | (with_reducible refine Keeps.foldl1 (fun t x h => ?_) ?_)
    | (with_reducible refine KeepsOut.next ?_)
    | with_reducible apply Keeps.discardEval_keeps
    | with_reducible apply Keeps.holdPlans_keeps
    | with_reducible apply Keeps.voidSent_keeps
    | (simp -zeta only [Keeps.mark]; with_reducible refine KeepsLit.intro rfl ?_ ?_ ?_)
    | (with_reducible refine Keeps.ite ?_ ?_)
    | split

theorem Keeps.captureWord_keeps {gs : List Group} (hg : [.reg] ⊆ gs) {o0 s : State} (h0 : Keeps gs o0 s) (r : RegionNo) (w : PlanWord) (fresh : Option PlanRec) : Keeps gs o0 (State.captureWord s r w fresh) := by
  unfold State.captureWord
  repeat' first
    | with_reducible assumption
    | with_reducible exact List.Subset.trans (by decide) hg
    | with_reducible exact Regular.keep rfl
    | (intro g hgn; cases g <;> first | exact (Keeps.out hg (by decide) hgn).elim | with_reducible rfl)
    | (extract_lets +onlyGivenNames s1; refine Keeps.have_ (gs := gs) (o := o0) (t := s1) ?_ (fun h => ?_); (on_goal 1 => subst s1); (on_goal 2 => try clear_value s1))
    | (extract_lets +onlyGivenNames n1; first | (have p : Sys := n1; clear p; subst n1) | (have p : Et := n1; clear p; subst n1) | (have p : Hm := n1; clear p; subst n1) | (have p : Opt := n1; clear p; subst n1) | (have p : Xg := n1; clear p; subst n1) | (have p : Sns := n1; clear p; subst n1) | (have p : Ev := n1; clear p; subst n1) | clear_value n1)
    | (with_reducible refine Keeps.foldl (fun t x h => ?_) ?_)
    | with_reducible apply Keeps.modRgn_keeps
    | with_reducible apply Keeps.pump_keeps
    | (simp -zeta only [Keeps.mark]; with_reducible refine KeepsLit.intro rfl ?_ ?_ ?_)
    | (with_reducible refine Keeps.ite ?_ ?_)
    | split

theorem Keeps.execPlanCapture_keeps {gs : List Group} (hg : [.reg] ⊆ gs) {o0 s : State} (h0 : Keeps gs o0 s) (r : RegionNo) : KeepsOut gs o0 (execPlanCapture r s) := by
  unfold execPlanCapture
  repeat' first
    | with_reducible assumption
    | with_reducible exact List.Subset.trans (by decide) hg
    | with_reducible exact Regular.keep rfl
    | (intro g hgn; cases g <;> first | exact (Keeps.out hg (by decide) hgn).elim | with_reducible rfl)
    | (extract_lets +onlyGivenNames s1; refine Keeps.have_ (gs := gs) (o := o0) (t := s1) ?_ (fun h => ?_); (on_goal 1 => subst s1); (on_goal 2 => try clear_value s1))
    | (extract_lets +onlyGivenNames n1; first | (have p : Sys := n1; clear p; subst n1) | (have p : Et := n1; clear p; subst n1) | (have p : Hm := n1; clear p; subst n1) | (have p : Opt := n1; clear p; subst n1) | (have p : Xg := n1; clear p; subst n1) | (have p : Sns := n1; clear p; subst n1) | (have p : Ev := n1; clear p; subst n1) | clear_value n1)
    | (with_reducible refine Keeps.foldl (fun t x h => ?_) ?_)
    | (with_reducible refine KeepsOut.next ?_)
    | with_reducible apply Keeps.captureWord_keeps
    | (simp -zeta only [Keeps.mark]; with_reducible refine KeepsLit.intro rfl ?_ ?_ ?_)
    | (with_reducible refine Keeps.ite ?_ ?_)
    | split

theorem Keeps.execVoidReceive_keeps {gs : List Group} (hg : [.reg] ⊆ gs) {o0 s : State} (h0 : Keeps gs o0 s) (r : RegionNo) : KeepsOut gs o0 (execVoidReceive r s) := by
  unfold execVoidReceive
  repeat' first
    | with_reducible assumption
    | with_reducible exact List.Subset.trans (by decide) hg
    | with_reducible exact Regular.keep rfl
    | (intro g hgn; cases g <;> first | exact (Keeps.out hg (by decide) hgn).elim | with_reducible rfl)
    | (extract_lets +onlyGivenNames s1; refine Keeps.have_ (gs := gs) (o := o0) (t := s1) ?_ (fun h => ?_); (on_goal 1 => subst s1); (on_goal 2 => try clear_value s1))
    | (extract_lets +onlyGivenNames n1; first | (have p : Sys := n1; clear p; subst n1) | (have p : Et := n1; clear p; subst n1) | (have p : Hm := n1; clear p; subst n1) | (have p : Opt := n1; clear p; subst n1) | (have p : Xg := n1; clear p; subst n1) | (have p : Sns := n1; clear p; subst n1) | (have p : Ev := n1; clear p; subst n1) | clear_value n1)
    | (with_reducible refine Keeps.foldl (fun t x h => ?_) ?_)
    | (with_reducible refine KeepsOut.next ?_)
    | with_reducible apply Keeps.captureWord_keeps
    | (simp -zeta only [Keeps.mark]; with_reducible refine KeepsLit.intro rfl ?_ ?_ ?_)
    | (with_reducible refine Keeps.ite ?_ ?_)
    | split

theorem Keeps.columnsSpent_keeps {gs : List Group} (hg : [.sys, .hm, .ev] ⊆ gs) {o0 s : State} (h0 : Keeps gs o0 s) (c : Nat) : Keeps gs o0 (State.columnsSpent s c) := by
  unfold State.columnsSpent
  repeat' first
    | with_reducible assumption
    | with_reducible exact List.Subset.trans (by decide) hg
    | with_reducible exact Regular.keep rfl
    | (intro g hgn; cases g <;> first | exact (Keeps.out hg (by decide) hgn).elim | with_reducible rfl)
    | (extract_lets +onlyGivenNames s1; refine Keeps.have_ (gs := gs) (o := o0) (t := s1) ?_ (fun h => ?_); (on_goal 1 => subst s1); (on_goal 2 => try clear_value s1))
    | (extract_lets +onlyGivenNames n1; first | (have p : Sys := n1; clear p; subst n1) | (have p : Et := n1; clear p; subst n1) | (have p : Hm := n1; clear p; subst n1) | (have p : Opt := n1; clear p; subst n1) | (have p : Xg := n1; clear p; subst n1) | (have p : Sns := n1; clear p; subst n1) | (have p : Ev := n1; clear p; subst n1) | clear_value n1)
    | (with_reducible refine Keeps.foldl (fun t x h => ?_) ?_)
    | with_reducible apply Keeps.raise_keeps
    | (simp -zeta only [Keeps.mark]; with_reducible refine KeepsLit.intro rfl ?_ ?_ ?_)
    | (with_reducible refine Keeps.ite ?_ ?_)
    | split

theorem Keeps.columnFails_keeps {gs : List Group} (hg : [.sys, .hm, .ev] ⊆ gs) {o0 s : State} (h0 : Keeps gs o0 s) (c : Nat) (logical : Nat) : Keeps gs o0 (State.columnFails s c logical) := by
  unfold State.columnFails
  repeat' first
    | with_reducible assumption
    | with_reducible exact List.Subset.trans (by decide) hg
    | with_reducible exact Regular.keep rfl
    | (intro g hgn; cases g <;> first | exact (Keeps.out hg (by decide) hgn).elim | with_reducible rfl)
    | (extract_lets +onlyGivenNames s1; refine Keeps.have_ (gs := gs) (o := o0) (t := s1) ?_ (fun h => ?_); (on_goal 1 => subst s1); (on_goal 2 => try clear_value s1))
    | (extract_lets +onlyGivenNames n1; first | (have p : Sys := n1; clear p; subst n1) | (have p : Et := n1; clear p; subst n1) | (have p : Hm := n1; clear p; subst n1) | (have p : Opt := n1; clear p; subst n1) | (have p : Xg := n1; clear p; subst n1) | (have p : Sns := n1; clear p; subst n1) | (have p : Ev := n1; clear p; subst n1) | clear_value n1)
    | (with_reducible refine Keeps.foldl (fun t x h => ?_) ?_)
    | with_reducible apply Keeps.columnsSpent_keeps
    | with_reducible apply Keeps.discardEval_keeps
    | with_reducible apply Keeps.raise_keeps
    | (simp -zeta only [Keeps.mark]; with_reducible refine KeepsLit.intro rfl ?_ ?_ ?_)
    | split

theorem Keeps.execColumnTest_keeps {gs : List Group} (hg : [.sys, .hm, .ev] ⊆ gs) {o0 s : State} (h0 : Keeps gs o0 s) (pass : Bool) : KeepsOut gs o0 (execColumnTest pass s) := by
  unfold execColumnTest
  repeat' first
    | with_reducible assumption
    | with_reducible exact List.Subset.trans (by decide) hg
    | exact fun h => { h with forecasts := (by dsimp only; rw [Hm.setMap_queue]; exact h.forecasts) }
    | with_reducible exact Regular.keep rfl
    | (intro g hgn; cases g <;> first | exact (Keeps.out hg (by decide) hgn).elim | with_reducible rfl)
    | (extract_lets +onlyGivenNames s1; refine Keeps.have_ (gs := gs) (o := o0) (t := s1) ?_ (fun h => ?_); (on_goal 1 => subst s1); (on_goal 2 => try clear_value s1))
    | (extract_lets +onlyGivenNames n1; first | (have p : Sys := n1; clear p; subst n1) | (have p : Et := n1; clear p; subst n1) | (have p : Hm := n1; clear p; subst n1) | (have p : Opt := n1; clear p; subst n1) | (have p : Xg := n1; clear p; subst n1) | (have p : Sns := n1; clear p; subst n1) | (have p : Ev := n1; clear p; subst n1) | clear_value n1)
    | (with_reducible refine Keeps.foldl (fun t x h => ?_) ?_)
    | (with_reducible refine KeepsOut.next ?_)
    | with_reducible apply Keeps.columnFails_keeps
    | with_reducible apply Keeps.columnsSpent_keeps
    | (simp -zeta only [Keeps.mark]; with_reducible refine KeepsLit.intro rfl ?_ ?_ ?_)
    | (with_reducible refine Keeps.ite ?_ ?_)
    | split

theorem Keeps.execColumnSpareMap_keeps {gs : List Group} (hg : [.hm, .ev] ⊆ gs) {o0 s : State} (h0 : Keeps gs o0 s) : KeepsOut gs o0 (execColumnSpareMap s) := by
  unfold execColumnSpareMap
  repeat' first
    | with_reducible assumption
    | with_reducible exact List.Subset.trans (by decide) hg
    | exact fun h => { h with forecasts := (by dsimp only; rw [Hm.setMap_queue]; exact h.forecasts) }
    | with_reducible exact Regular.keep rfl
    | (intro g hgn; cases g <;> first | exact (Keeps.out hg (by decide) hgn).elim | with_reducible rfl)
    | (extract_lets +onlyGivenNames s1; refine Keeps.have_ (gs := gs) (o := o0) (t := s1) ?_ (fun h => ?_); (on_goal 1 => subst s1); (on_goal 2 => try clear_value s1))
    | (extract_lets +onlyGivenNames n1; first | (have p : Sys := n1; clear p; subst n1) | (have p : Et := n1; clear p; subst n1) | (have p : Hm := n1; clear p; subst n1) | (have p : Opt := n1; clear p; subst n1) | (have p : Xg := n1; clear p; subst n1) | (have p : Sns := n1; clear p; subst n1) | (have p : Ev := n1; clear p; subst n1) | clear_value n1)
    | (with_reducible refine Keeps.foldl (fun t x h => ?_) ?_)
    | (with_reducible refine KeepsOut.next ?_)
    | with_reducible apply Keeps.raise_keeps
    | (simp -zeta only [Keeps.mark]; with_reducible refine KeepsLit.intro rfl ?_ ?_ ?_)
    | (with_reducible refine Keeps.ite ?_ ?_)
    | split

theorem Keeps.cmdHawkmothSetMode_keeps {gs : List Group} (hg : [.hm] ⊆ gs) {o0 s : State} (h0 : Keeps gs o0 s) (q : Req) : KeepsRes gs o0 (cmdHawkmothSetMode q s) := by
  unfold cmdHawkmothSetMode
  repeat' first
    | with_reducible assumption
    | with_reducible exact List.Subset.trans (by decide) hg
    | with_reducible exact Regular.keep rfl
    | (intro g hgn; cases g <;> first | exact (Keeps.out hg (by decide) hgn).elim | with_reducible rfl)
    | (extract_lets +onlyGivenNames s1; refine KeepsRes.have_ (gs := gs) (o := o0) (r := s1) ?_ (fun h => ?_); (on_goal 1 => subst s1); (on_goal 2 => try clear_value s1))
    | (extract_lets +onlyGivenNames s1; refine Keeps.have_ (gs := gs) (o := o0) (t := s1) ?_ (fun h => ?_); (on_goal 1 => subst s1); (on_goal 2 => try clear_value s1))
    | (extract_lets +onlyGivenNames n1; first | (have p : Sys := n1; clear p; subst n1) | (have p : Et := n1; clear p; subst n1) | (have p : Hm := n1; clear p; subst n1) | (have p : Opt := n1; clear p; subst n1) | (have p : Xg := n1; clear p; subst n1) | (have p : Sns := n1; clear p; subst n1) | (have p : Ev := n1; clear p; subst n1) | clear_value n1)
    | (with_reducible refine Keeps.foldl (fun t x h => ?_) ?_)
    | (with_reducible refine KeepsRes.done ?_)
    | (with_reducible refine KeepsRes.wait ?_)
    | (with_reducible refine KeepsRes.refuse ?_)
    | with_reducible apply Keeps.refuse_keeps
    | (simp -zeta only [Keeps.mark]; with_reducible refine KeepsLit.intro rfl ?_ ?_ ?_)
    | (with_reducible refine Keeps.ite ?_ ?_)
    | split

theorem Keeps.execHawkmothSetMode_keeps {gs : List Group} (hg : [.mbx, .hm] ⊆ gs) {o0 s : State} (h0 : Keeps gs o0 s) (q : Req) : KeepsOut gs o0 (execHawkmothSetMode q s) := by
  unfold execHawkmothSetMode
  repeat' first
    | with_reducible assumption
    | with_reducible exact List.Subset.trans (by decide) hg
    | with_reducible exact Regular.keep rfl
    | (intro g hgn; cases g <;> first | exact (Keeps.out hg (by decide) hgn).elim | with_reducible rfl)
    | (extract_lets +onlyGivenNames s1; refine Keeps.have_ (gs := gs) (o := o0) (t := s1) ?_ (fun h => ?_); (on_goal 1 => subst s1); (on_goal 2 => try clear_value s1))
    | (extract_lets +onlyGivenNames n1; first | (have p : Sys := n1; clear p; subst n1) | (have p : Et := n1; clear p; subst n1) | (have p : Hm := n1; clear p; subst n1) | (have p : Opt := n1; clear p; subst n1) | (have p : Xg := n1; clear p; subst n1) | (have p : Sns := n1; clear p; subst n1) | (have p : Ev := n1; clear p; subst n1) | clear_value n1)
    | (with_reducible refine Keeps.foldl (fun t x h => ?_) ?_)
    | (with_reducible refine KeepsOut.next ?_)
    | (with_reducible refine Keeps.submit_keeps ?_ ?_ _ _ (fun q t h => ?_) _)
    | with_reducible apply Keeps.cmdHawkmothSetMode_keeps
    | (simp -zeta only [Keeps.mark]; with_reducible refine KeepsLit.intro rfl ?_ ?_ ?_)
    | split

theorem Keeps.cmdHawkmothQuery_keeps {gs : List Group} (hg : [] ⊆ gs) {o0 s : State} (h0 : Keeps gs o0 s) (q : Req) : KeepsRes gs o0 (cmdHawkmothQuery q s) := by
  unfold cmdHawkmothQuery
  repeat' first
    | with_reducible assumption
    | with_reducible exact List.Subset.trans (by decide) hg
    | with_reducible exact Regular.keep rfl
    | (intro g hgn; cases g <;> first | exact (Keeps.out hg (by decide) hgn).elim | with_reducible rfl)
    | (extract_lets +onlyGivenNames s1; refine KeepsRes.have_ (gs := gs) (o := o0) (r := s1) ?_ (fun h => ?_); (on_goal 1 => subst s1); (on_goal 2 => try clear_value s1))
    | (extract_lets +onlyGivenNames f1; (first | (refine Keeps.fun1 f1 ?_) | (refine Keeps.fun2 f1 ?_) | (refine Keeps.fun3 f1 ?_) | (refine KeepsRes.fun1 f1 ?_)); subst f1; beta_reduce)
    | (extract_lets +onlyGivenNames s1; refine Keeps.have_ (gs := gs) (o := o0) (t := s1) ?_ (fun h => ?_); (on_goal 1 => subst s1); (on_goal 2 => try clear_value s1))
    | (extract_lets +onlyGivenNames n1; first | (have p : Sys := n1; clear p; subst n1) | (have p : Et := n1; clear p; subst n1) | (have p : Hm := n1; clear p; subst n1) | (have p : Opt := n1; clear p; subst n1) | (have p : Xg := n1; clear p; subst n1) | (have p : Sns := n1; clear p; subst n1) | (have p : Ev := n1; clear p; subst n1) | clear_value n1)
    | (with_reducible refine Keeps.foldl (fun t x h => ?_) ?_)
    | (with_reducible refine KeepsRes.done ?_)
    | (with_reducible refine KeepsRes.wait ?_)
    | (with_reducible refine KeepsRes.refuse ?_)
    | with_reducible apply Keeps.refuse_keeps
    | (simp -zeta only [Keeps.mark]; with_reducible refine KeepsLit.intro rfl ?_ ?_ ?_)
    | (with_reducible refine Keeps.ite ?_ ?_)
    | split

theorem Keeps.execHawkmothQuery_keeps {gs : List Group} (hg : [.mbx] ⊆ gs) {o0 s : State} (h0 : Keeps gs o0 s) (q : Req) : KeepsOut gs o0 (execHawkmothQuery q s) := by
  unfold execHawkmothQuery
  repeat' first
    | with_reducible assumption
    | with_reducible exact List.Subset.trans (by decide) hg
    | with_reducible exact Regular.keep rfl
    | (intro g hgn; cases g <;> first | exact (Keeps.out hg (by decide) hgn).elim | with_reducible rfl)
    | (extract_lets +onlyGivenNames s1; refine Keeps.have_ (gs := gs) (o := o0) (t := s1) ?_ (fun h => ?_); (on_goal 1 => subst s1); (on_goal 2 => try clear_value s1))
    | (extract_lets +onlyGivenNames n1; first | (have p : Sys := n1; clear p; subst n1) | (have p : Et := n1; clear p; subst n1) | (have p : Hm := n1; clear p; subst n1) | (have p : Opt := n1; clear p; subst n1) | (have p : Xg := n1; clear p; subst n1) | (have p : Sns := n1; clear p; subst n1) | (have p : Ev := n1; clear p; subst n1) | clear_value n1)
    | (with_reducible refine Keeps.foldl (fun t x h => ?_) ?_)
    | (with_reducible refine KeepsOut.next ?_)
    | (with_reducible refine Keeps.submit_keeps ?_ ?_ _ _ (fun q t h => ?_) _)
    | with_reducible apply Keeps.cmdHawkmothQuery_keeps
    | (simp -zeta only [Keeps.mark]; with_reducible refine KeepsLit.intro rfl ?_ ?_ ?_)
    | split

end Sys2Proof.Safety
end

