-- ==== Sys2Proof/Laws/KeepsPackage.lean ====
section
/-! SUPPORT. What each operation can change, and that it keeps the state regular: boot, the controllers, the handles, Oasis, the dies, the span link and the ports. -/
namespace Sys2Proof.Safety
open Sys2Proof.Machine

set_option linter.unreachableTactic false
set_option linter.unusedTactic false

theorem Keeps.census_keeps {gs : List Group} (hg : [.sys, .mbx, .xg, .die] ⊆ gs) {o0 s : State} (h0 : Keeps gs o0 s) : Keeps gs o0 (State.census s) := by
  unfold State.census
  repeat' first
    | with_reducible assumption
    | with_reducible exact List.Subset.trans (by decide) hg
    | with_reducible exact Regular.keep rfl
    | (intro g hgn; cases g <;> first | exact (Keeps.out hg (by decide) hgn).elim | with_reducible rfl)
    | (extract_lets +onlyGivenNames s1; refine Keeps.have_ (gs := gs) (o := o0) (t := s1) ?_ (fun h => ?_); (on_goal 1 => subst s1); (on_goal 2 => try clear_value s1))
    | (extract_lets +onlyGivenNames n1; first | (have p : Sys := n1; clear p; subst n1) | (have p : Et := n1; clear p; subst n1) | (have p : Hm := n1; clear p; subst n1) | (have p : Opt := n1; clear p; subst n1) | (have p : Xg := n1; clear p; subst n1) | (have p : Sns := n1; clear p; subst n1) | (have p : Ev := n1; clear p; subst n1) | clear_value n1)
    | (with_reducible refine Keeps.foldl (fun t x h => ?_) ?_)
    | with_reducible apply Keeps.mlbSet_keeps
    | with_reducible apply Keeps.modDie_keeps
    | with_reducible apply Keeps.xLast_keeps
    | (simp -zeta only [Keeps.mark]; with_reducible refine KeepsLit.intro rfl ?_ ?_ ?_)
    | (with_reducible refine Keeps.ite ?_ ?_)
    | split

theorem Keeps.calEvents_keeps {gs : List Group} (hg : [.ev] ⊆ gs) {o0 s : State} (h0 : Keeps gs o0 s) : Keeps gs o0 (State.calEvents s) := by
  unfold State.calEvents
  repeat' first
    | with_reducible assumption
    | with_reducible exact List.Subset.trans (by decide) hg
    | with_reducible exact Regular.keep rfl
    | (intro g hgn; cases g <;> first | exact (Keeps.out hg (by decide) hgn).elim | with_reducible rfl)
    | (extract_lets +onlyGivenNames s1; refine Keeps.have_ (gs := gs) (o := o0) (t := s1) ?_ (fun h => ?_); (on_goal 1 => subst s1); (on_goal 2 => try clear_value s1))
    | (extract_lets +onlyGivenNames n1; first | (have p : Sys := n1; clear p; subst n1) | (have p : Et := n1; clear p; subst n1) | (have p : Hm := n1; clear p; subst n1) | (have p : Opt := n1; clear p; subst n1) | (have p : Xg := n1; clear p; subst n1) | (have p : Sns := n1; clear p; subst n1) | (have p : Ev := n1; clear p; subst n1) | clear_value n1)
    | (with_reducible refine Keeps.foldl (fun t x h => ?_) ?_)
    | with_reducible apply Keeps.raise_keeps
    | (simp -zeta only [Keeps.mark]; with_reducible refine KeepsLit.intro rfl ?_ ?_ ?_)
    | split

theorem Keeps.calSite_keeps {gs : List Group} (hg : [.reg, .opt, .ls, .ev] ⊆ gs) {o0 s : State} (h0 : Keeps gs o0 s) (site : Nat) : Keeps gs o0 (State.calSite s site) := by
  unfold State.calSite
  repeat' first
    | with_reducible assumption
    | with_reducible exact List.Subset.trans (by decide) hg
    | with_reducible exact Regular.keep rfl
    | (intro g hgn; cases g <;> first | exact (Keeps.out hg (by decide) hgn).elim | with_reducible rfl)
    | (extract_lets +onlyGivenNames s1; refine Keeps.have_ (gs := gs) (o := o0) (t := s1) ?_ (fun h => ?_); (on_goal 1 => subst s1); (on_goal 2 => try clear_value s1))
    | (extract_lets +onlyGivenNames n1; first | (have p : Sys := n1; clear p; subst n1) | (have p : Et := n1; clear p; subst n1) | (have p : Hm := n1; clear p; subst n1) | (have p : Opt := n1; clear p; subst n1) | (have p : Xg := n1; clear p; subst n1) | (have p : Sns := n1; clear p; subst n1) | (have p : Ev := n1; clear p; subst n1) | clear_value n1)
    | (with_reducible refine Keeps.foldl (fun t x h => ?_) ?_)
    | (with_reducible refine Keeps.foldl2 (fun t x h => ?_) ?_)
    | (with_reducible refine Keeps.foldl1 (fun t x h => ?_) ?_)
    | with_reducible apply Keeps.bridge_keeps
    | with_reducible apply Keeps.groupLost_keeps
    | with_reducible apply Keeps.modSite_keeps
    | with_reducible apply Keeps.putTerm_keeps
    | (simp -zeta only [Keeps.mark]; with_reducible refine KeepsLit.intro rfl ?_ ?_ ?_)
    | (with_reducible refine Keeps.ite ?_ ?_)
    | split

theorem Keeps.calRoutes_keeps {gs : List Group} (hg : [.reg, .opt, .ls, .ev] ⊆ gs) {o0 s : State} (h0 : Keeps gs o0 s) : Keeps gs o0 (State.calRoutes s) := by
  unfold State.calRoutes
  repeat' first
    | with_reducible assumption
    | with_reducible exact List.Subset.trans (by decide) hg
    | with_reducible exact Regular.keep rfl
    | (intro g hgn; cases g <;> first | exact (Keeps.out hg (by decide) hgn).elim | with_reducible rfl)
    | (extract_lets +onlyGivenNames s1; refine Keeps.have_ (gs := gs) (o := o0) (t := s1) ?_ (fun h => ?_); (on_goal 1 => subst s1); (on_goal 2 => try clear_value s1))
    | (extract_lets +onlyGivenNames n1; first | (have p : Sys := n1; clear p; subst n1) | (have p : Et := n1; clear p; subst n1) | (have p : Hm := n1; clear p; subst n1) | (have p : Opt := n1; clear p; subst n1) | (have p : Xg := n1; clear p; subst n1) | (have p : Sns := n1; clear p; subst n1) | (have p : Ev := n1; clear p; subst n1) | clear_value n1)
    | (with_reducible refine Keeps.foldl (fun t x h => ?_) ?_)
    | with_reducible apply Keeps.calEvents_keeps
    | with_reducible apply Keeps.calSite_keeps
    | with_reducible apply Keeps.note16_keeps
    | (simp -zeta only [Keeps.mark]; with_reducible refine KeepsLit.intro rfl ?_ ?_ ?_)
    | split

theorem Keeps.calSpares_keeps {gs : List Group} (hg : [.mbx, .opt] ⊆ gs) {o0 s : State} (h0 : Keeps gs o0 s) : Keeps gs o0 (State.calSpares s) := by
  unfold State.calSpares
  repeat' first
    | with_reducible assumption
    | with_reducible exact List.Subset.trans (by decide) hg
    | with_reducible exact Regular.keep rfl
    | (intro g hgn; cases g <;> first | exact (Keeps.out hg (by decide) hgn).elim | with_reducible rfl)
    | (extract_lets +onlyGivenNames s1; refine Keeps.have_ (gs := gs) (o := o0) (t := s1) ?_ (fun h => ?_); (on_goal 1 => subst s1); (on_goal 2 => try clear_value s1))
    | (extract_lets +onlyGivenNames n1; first | (have p : Sys := n1; clear p; subst n1) | (have p : Et := n1; clear p; subst n1) | (have p : Hm := n1; clear p; subst n1) | (have p : Opt := n1; clear p; subst n1) | (have p : Xg := n1; clear p; subst n1) | (have p : Sns := n1; clear p; subst n1) | (have p : Ev := n1; clear p; subst n1) | clear_value n1)
    | (with_reducible refine Keeps.foldl (fun t x h => ?_) ?_)
    | with_reducible apply Keeps.requestIns_keeps
    | (simp -zeta only [Keeps.mark]; with_reducible refine KeepsLit.intro rfl ?_ ?_ ?_)
    | (with_reducible refine Keeps.ite ?_ ?_)
    | split

theorem Keeps.slotTurn_keeps {gs : List Group} (hg : [.et] ⊆ gs) {o0 s : State} (h0 : Keeps gs o0 s) : Keeps gs o0 (State.slotTurn s) := by
  unfold State.slotTurn
  repeat' first
    | with_reducible assumption
    | with_reducible exact List.Subset.trans (by decide) hg
    | with_reducible exact Regular.keep rfl
    | (intro g hgn; cases g <;> first | exact (Keeps.out hg (by decide) hgn).elim | with_reducible rfl)
    | (extract_lets +onlyGivenNames s1; refine Keeps.have_ (gs := gs) (o := o0) (t := s1) ?_ (fun h => ?_); (on_goal 1 => subst s1); (on_goal 2 => try clear_value s1))
    | (extract_lets +onlyGivenNames n1; first | (have p : Sys := n1; clear p; subst n1) | (have p : Et := n1; clear p; subst n1) | (have p : Hm := n1; clear p; subst n1) | (have p : Opt := n1; clear p; subst n1) | (have p : Xg := n1; clear p; subst n1) | (have p : Sns := n1; clear p; subst n1) | (have p : Ev := n1; clear p; subst n1) | clear_value n1)
    | (with_reducible refine Keeps.foldl (fun t x h => ?_) ?_)
    | (simp -zeta only [Keeps.mark]; with_reducible refine KeepsLit.intro rfl ?_ ?_ ?_)
    | (with_reducible refine Keeps.ite ?_ ?_)
    | split

theorem Keeps.coldLocks_keeps {gs : List Group} (hg : [.ls] ⊆ gs) {o0 s : State} (h0 : Keeps gs o0 s) : Keeps gs o0 (State.coldLocks s) := by
  unfold State.coldLocks
  repeat' first
    | with_reducible assumption
    | with_reducible exact List.Subset.trans (by decide) hg
    | with_reducible exact Regular.keep rfl
    | (intro g hgn; cases g <;> first | exact (Keeps.out hg (by decide) hgn).elim | with_reducible rfl)
    | (extract_lets +onlyGivenNames s1; refine Keeps.have_ (gs := gs) (o := o0) (t := s1) ?_ (fun h => ?_); (on_goal 1 => subst s1); (on_goal 2 => try clear_value s1))
    | (extract_lets +onlyGivenNames n1; first | (have p : Sys := n1; clear p; subst n1) | (have p : Et := n1; clear p; subst n1) | (have p : Hm := n1; clear p; subst n1) | (have p : Opt := n1; clear p; subst n1) | (have p : Xg := n1; clear p; subst n1) | (have p : Sns := n1; clear p; subst n1) | (have p : Ev := n1; clear p; subst n1) | clear_value n1)
    | (with_reducible refine Keeps.foldl (fun t x h => ?_) ?_)
    | with_reducible apply Keeps.coldLock_keeps
    | (simp -zeta only [Keeps.mark]; with_reducible refine KeepsLit.intro rfl ?_ ?_ ?_)
    | (with_reducible refine Keeps.ite ?_ ?_)
    | split

theorem Keeps.reset_keeps {gs : List Group} (hg : [.sys, .ctl, .mbx, .reg, .hm, .et, .opt, .ls, .xg, .cal, .sns, .cfg, .sp, .die, .ev, .tap] ⊆ gs) {o0 s : State} (h0 : Keeps gs o0 s) :
    Keeps gs o0 { State.reset with pending := s.pending, fresh := s.fresh } := by
  refine ⟨⟨fun g hgn => ?_⟩, fun _ => ⟨(by decide : (1 : Nat) ≤ 5), (by decide : (0 : Nat) < 2 ^ 64), fun _ => rfl, Nat.zero_le _, Nat.zero_le _, Nat.zero_le _, Nat.zero_le _, (by decide : (0 : Nat) < 98304), rfl, rfl, rfl, rfl, rfl, rfl⟩⟩
  cases g
  case pending => exact h0.only.same _ hgn
  case fresh => exact h0.only.same _ hgn
  all_goals exact (Keeps.out hg (by decide) hgn).elim

theorem Keeps.execPkgResetNAssert_keeps {gs : List Group} (hg : [.sys, .ctl, .mbx, .reg, .hm, .et, .opt, .ls, .xg, .cal, .sns, .cfg, .sp, .die, .ev, .tap] ⊆ gs) {o0 s : State} (h0 : Keeps gs o0 s) :
    KeepsOut gs o0 (execPkgResetNAssert s) := KeepsOut.next (Keeps.reset_keeps hg h0)

theorem Keeps.execPkgResetNRelease_keeps {gs : List Group} (hg : [.fresh, .sys, .sp] ⊆ gs) {o0 s : State} (h0 : Keeps gs o0 s) (env : BootEnv) : KeepsOut gs o0 (execPkgResetNRelease env s) := by
  unfold execPkgResetNRelease
  repeat' first
    | with_reducible assumption
    | with_reducible exact List.Subset.trans (by decide) hg
    | exact fun h => { h with hold := (by decide : (1 : Nat) ≤ 5) }
    | with_reducible exact Regular.keep rfl
    | (intro g hgn; cases g <;> first | exact (Keeps.out hg (by decide) hgn).elim | with_reducible rfl)
    | (extract_lets +onlyGivenNames s1; refine Keeps.have_ (gs := gs) (o := o0) (t := s1) ?_ (fun h => ?_); (on_goal 1 => subst s1); (on_goal 2 => try clear_value s1))
    | (extract_lets +onlyGivenNames n1; first | (have p : Sys := n1; clear p; subst n1) | (have p : Et := n1; clear p; subst n1) | (have p : Hm := n1; clear p; subst n1) | (have p : Opt := n1; clear p; subst n1) | (have p : Xg := n1; clear p; subst n1) | (have p : Sns := n1; clear p; subst n1) | (have p : Ev := n1; clear p; subst n1) | clear_value n1)
    | (with_reducible refine Keeps.foldl (fun t x h => ?_) ?_)
    | (with_reducible refine KeepsOut.next ?_)
    | (simp -zeta only [Keeps.mark]; with_reducible refine KeepsLit.intro rfl ?_ ?_ ?_)
    | (with_reducible refine Keeps.ite ?_ ?_)
    | split

theorem Keeps.execBasePllLock_keeps {gs : List Group} (hg : [.sys, .mbx, .reg, .et, .opt, .ls, .xg, .die, .ev] ⊆ gs) {o0 s : State} (h0 : Keeps gs o0 s) : KeepsOut gs o0 (execBasePllLock s) := by
  unfold execBasePllLock
  repeat' first
    | with_reducible assumption
    | with_reducible exact List.Subset.trans (by decide) hg
    | exact fun h => { h with erg := (by decide : (0 : Nat) < 2 ^ 64), still := fun _ => rfl }
    | with_reducible exact Regular.keep rfl
    | (intro g hgn; cases g <;> first | exact (Keeps.out hg (by decide) hgn).elim | with_reducible rfl)
    | (extract_lets +onlyGivenNames s1; refine Keeps.have_ (gs := gs) (o := o0) (t := s1) ?_ (fun h => ?_); (on_goal 1 => subst s1); (on_goal 2 => try clear_value s1))
    | (extract_lets +onlyGivenNames n1; first | (have p : Sys := n1; clear p; subst n1) | (have p : Et := n1; clear p; subst n1) | (have p : Hm := n1; clear p; subst n1) | (have p : Opt := n1; clear p; subst n1) | (have p : Xg := n1; clear p; subst n1) | (have p : Sns := n1; clear p; subst n1) | (have p : Ev := n1; clear p; subst n1) | clear_value n1)
    | (with_reducible refine Keeps.foldl (fun t x h => ?_) ?_)
    | (with_reducible refine KeepsOut.next ?_)
    | with_reducible apply Keeps.calRoutes_keeps
    | with_reducible apply Keeps.census_keeps
    | with_reducible apply Keeps.coldLocks_keeps
    | with_reducible apply Keeps.mlbClear_keeps
    | with_reducible apply Keeps.modDie_keeps
    | with_reducible apply Keeps.slotTurn_keeps
    | (simp -zeta only [Keeps.mark]; with_reducible refine KeepsLit.intro rfl ?_ ?_ ?_)
    | (with_reducible refine Keeps.ite ?_ ?_)
    | split

theorem Keeps.execBasePllLockTimeout_keeps {gs : List Group} (hg : [.sys, .mbx] ⊆ gs) {o0 s : State} (h0 : Keeps gs o0 s) : KeepsOut gs o0 (execBasePllLockTimeout s) := by
  unfold execBasePllLockTimeout
  repeat' first
    | with_reducible assumption
    | with_reducible exact List.Subset.trans (by decide) hg
    | with_reducible exact Regular.keep rfl
    | (intro g hgn; cases g <;> first | exact (Keeps.out hg (by decide) hgn).elim | with_reducible rfl)
    | (extract_lets +onlyGivenNames s1; refine Keeps.have_ (gs := gs) (o := o0) (t := s1) ?_ (fun h => ?_); (on_goal 1 => subst s1); (on_goal 2 => try clear_value s1))
    | (extract_lets +onlyGivenNames n1; first | (have p : Sys := n1; clear p; subst n1) | (have p : Et := n1; clear p; subst n1) | (have p : Hm := n1; clear p; subst n1) | (have p : Opt := n1; clear p; subst n1) | (have p : Xg := n1; clear p; subst n1) | (have p : Sns := n1; clear p; subst n1) | (have p : Ev := n1; clear p; subst n1) | clear_value n1)
    | (with_reducible refine Keeps.foldl (fun t x h => ?_) ?_)
    | (with_reducible refine KeepsOut.next ?_)
    | with_reducible apply Keeps.mlbSet_keeps
    | (simp -zeta only [Keeps.mark]; with_reducible refine KeepsLit.intro rfl ?_ ?_ ?_)
    | (with_reducible refine Keeps.ite ?_ ?_)
    | split

theorem Keeps.execBootOverrun_keeps {gs : List Group} (hg : [.sys, .mbx, .ev] ⊆ gs) {o0 s : State} (h0 : Keeps gs o0 s) : KeepsOut gs o0 (execBootOverrun s) := by
  unfold execBootOverrun
  repeat' first
    | with_reducible assumption
    | with_reducible exact List.Subset.trans (by decide) hg
    | with_reducible exact Regular.keep rfl
    | (intro g hgn; cases g <;> first | exact (Keeps.out hg (by decide) hgn).elim | with_reducible rfl)
    | (extract_lets +onlyGivenNames s1; refine Keeps.have_ (gs := gs) (o := o0) (t := s1) ?_ (fun h => ?_); (on_goal 1 => subst s1); (on_goal 2 => try clear_value s1))
    | (extract_lets +onlyGivenNames n1; first | (have p : Sys := n1; clear p; subst n1) | (have p : Et := n1; clear p; subst n1) | (have p : Hm := n1; clear p; subst n1) | (have p : Opt := n1; clear p; subst n1) | (have p : Xg := n1; clear p; subst n1) | (have p : Sns := n1; clear p; subst n1) | (have p : Ev := n1; clear p; subst n1) | clear_value n1)
    | (with_reducible refine Keeps.foldl (fun t x h => ?_) ?_)
    | (with_reducible refine KeepsOut.next ?_)
    | with_reducible apply Keeps.mlbSet_keeps
    | with_reducible apply Keeps.raiseIf_keeps
    | (simp -zeta only [Keeps.mark]; with_reducible refine KeepsLit.intro rfl ?_ ?_ ?_)
    | (with_reducible refine Keeps.ite ?_ ?_)
    | split

theorem Keeps.bootFirmware_keeps {gs : List Group} (hg : [.sys, .mbx, .hm, .opt, .cal, .ev] ⊆ gs) {o0 s : State} (h0 : Keeps gs o0 s) : Keeps gs o0 (State.bootFirmware s) := by
  unfold State.bootFirmware
  repeat' first
    | with_reducible assumption
    | with_reducible exact List.Subset.trans (by decide) hg
    | with_reducible exact Regular.keep rfl
    | (intro g hgn; cases g <;> first | exact (Keeps.out hg (by decide) hgn).elim | with_reducible rfl)
    | (extract_lets +onlyGivenNames f1; (first | (refine Keeps.fun1 f1 ?_) | (refine Keeps.fun2 f1 ?_) | (refine Keeps.fun3 f1 ?_) | (refine KeepsRes.fun1 f1 ?_)); subst f1; beta_reduce)
    | (extract_lets +onlyGivenNames s1; refine Keeps.have_ (gs := gs) (o := o0) (t := s1) ?_ (fun h => ?_); (on_goal 1 => subst s1); (on_goal 2 => try clear_value s1))
    | (extract_lets +onlyGivenNames n1; first | (have p : Sys := n1; clear p; subst n1) | (have p : Et := n1; clear p; subst n1) | (have p : Hm := n1; clear p; subst n1) | (have p : Opt := n1; clear p; subst n1) | (have p : Xg := n1; clear p; subst n1) | (have p : Sns := n1; clear p; subst n1) | (have p : Ev := n1; clear p; subst n1) | clear_value n1)
    | (with_reducible refine Keeps.foldl (fun t x h => ?_) ?_)
    | with_reducible apply Keeps.calSpares_keeps
    | with_reducible apply Keeps.raiseIf_keeps
    | (simp -zeta only [Keeps.mark]; with_reducible refine KeepsLit.intro rfl ?_ ?_ ?_)
    | (with_reducible refine Keeps.ite ?_ ?_)
    | split

theorem Keeps.bootDead_keeps {gs : List Group} (hg : [.reg, .et, .ls, .xg, .ev] ⊆ gs) {o0 s : State} (h0 : Keeps gs o0 s) (r : RegionNo) : Keeps gs o0 (State.bootDead s r) := by
  unfold State.bootDead
  repeat' first
    | with_reducible assumption
    | with_reducible exact List.Subset.trans (by decide) hg
    | with_reducible exact Regular.keep rfl
    | (intro g hgn; cases g <;> first | exact (Keeps.out hg (by decide) hgn).elim | with_reducible rfl)
    | (extract_lets +onlyGivenNames s1; refine Keeps.have_ (gs := gs) (o := o0) (t := s1) ?_ (fun h => ?_); (on_goal 1 => subst s1); (on_goal 2 => try clear_value s1))
    | (extract_lets +onlyGivenNames n1; first | (have p : Sys := n1; clear p; subst n1) | (have p : Et := n1; clear p; subst n1) | (have p : Hm := n1; clear p; subst n1) | (have p : Opt := n1; clear p; subst n1) | (have p : Xg := n1; clear p; subst n1) | (have p : Sns := n1; clear p; subst n1) | (have p : Ev := n1; clear p; subst n1) | clear_value n1)
    | (with_reducible refine Keeps.foldl (fun t x h => ?_) ?_)
    | with_reducible apply Keeps.fenceAll_keeps
    | with_reducible apply Keeps.mark_keeps
    | with_reducible apply Keeps.modRgn_keeps
    | with_reducible apply Keeps.raise_keeps
    | (simp -zeta only [Keeps.mark]; with_reducible refine KeepsLit.intro rfl ?_ ?_ ?_)
    | split

theorem Keeps.bootCompose_keeps {gs : List Group} (hg : [.sys, .reg, .et, .ls, .xg, .cfg, .ev] ⊆ gs) {o0 s : State} (h0 : Keeps gs o0 s) : Keeps gs o0 (State.bootCompose s) := by
  unfold State.bootCompose
  repeat' first
    | with_reducible assumption
    | with_reducible exact List.Subset.trans (by decide) hg
    | with_reducible exact Regular.keep rfl
    | (intro g hgn; cases g <;> first | exact (Keeps.out hg (by decide) hgn).elim | with_reducible rfl)
    | (extract_lets +onlyGivenNames f1; (first | (refine Keeps.fun1 f1 ?_) | (refine Keeps.fun2 f1 ?_) | (refine Keeps.fun3 f1 ?_) | (refine KeepsRes.fun1 f1 ?_)); subst f1; beta_reduce)
    | (extract_lets +onlyGivenNames s1; refine Keeps.have_ (gs := gs) (o := o0) (t := s1) ?_ (fun h => ?_); (on_goal 1 => subst s1); (on_goal 2 => try clear_value s1))
    | (extract_lets +onlyGivenNames n1; first | (have p : Sys := n1; clear p; subst n1) | (have p : Et := n1; clear p; subst n1) | (have p : Hm := n1; clear p; subst n1) | (have p : Opt := n1; clear p; subst n1) | (have p : Xg := n1; clear p; subst n1) | (have p : Sns := n1; clear p; subst n1) | (have p : Ev := n1; clear p; subst n1) | clear_value n1)
    | (with_reducible refine Keeps.foldl (fun t x h => ?_) ?_)
    | (with_reducible refine Keeps.foldl2 (fun t x h => ?_) ?_)
    | (with_reducible refine Keeps.foldl1 (fun t x h => ?_) ?_)
    | with_reducible apply Keeps.arm_keeps
    | with_reducible apply Keeps.bootDead_keeps
    | with_reducible apply Keeps.modSlot_keeps
    | with_reducible apply Keeps.raise_keeps
    | (simp -zeta only [Keeps.mark]; with_reducible refine KeepsLit.intro rfl ?_ ?_ ?_)
    | (with_reducible refine Keeps.ite ?_ ?_)
    | split

theorem Keeps.ungate_keeps {gs : List Group} (hg : [.reg, .xg, .die] ⊆ gs) {o0 s : State} (h0 : Keeps gs o0 s) (sites : List Nat) : Keeps gs o0 (State.ungate s sites) := by
  unfold State.ungate
  repeat' first
    | with_reducible assumption
    | with_reducible exact List.Subset.trans (by decide) hg
    | with_reducible exact Regular.keep rfl
    | (intro g hgn; cases g <;> first | exact (Keeps.out hg (by decide) hgn).elim | with_reducible rfl)
    | (extract_lets +onlyGivenNames s1; refine Keeps.have_ (gs := gs) (o := o0) (t := s1) ?_ (fun h => ?_); (on_goal 1 => subst s1); (on_goal 2 => try clear_value s1))
    | (extract_lets +onlyGivenNames n1; first | (have p : Sys := n1; clear p; subst n1) | (have p : Et := n1; clear p; subst n1) | (have p : Hm := n1; clear p; subst n1) | (have p : Opt := n1; clear p; subst n1) | (have p : Xg := n1; clear p; subst n1) | (have p : Sns := n1; clear p; subst n1) | (have p : Ev := n1; clear p; subst n1) | clear_value n1)
    | (with_reducible refine Keeps.foldl (fun t x h => ?_) ?_)
    | with_reducible apply Keeps.modDie_keeps
    | with_reducible apply Keeps.modLane_keeps
    | with_reducible apply Keeps.modRgns_keeps
    | (simp -zeta only [Keeps.mark]; with_reducible refine KeepsLit.intro rfl ?_ ?_ ?_)
    | (with_reducible refine Keeps.ite ?_ ?_)
    | split

theorem Keeps.releaseLogic_keeps {gs : List Group} (hg : [.die] ⊆ gs) {o0 s : State} (h0 : Keeps gs o0 s) (sites : List Nat) : Keeps gs o0 (State.releaseLogic s sites) := by
  unfold State.releaseLogic
  repeat' first
    | with_reducible assumption
    | with_reducible exact List.Subset.trans (by decide) hg
    | with_reducible exact Regular.keep rfl
    | (intro g hgn; cases g <;> first | exact (Keeps.out hg (by decide) hgn).elim | with_reducible rfl)
    | (extract_lets +onlyGivenNames s1; refine Keeps.have_ (gs := gs) (o := o0) (t := s1) ?_ (fun h => ?_); (on_goal 1 => subst s1); (on_goal 2 => try clear_value s1))
    | (extract_lets +onlyGivenNames n1; first | (have p : Sys := n1; clear p; subst n1) | (have p : Et := n1; clear p; subst n1) | (have p : Hm := n1; clear p; subst n1) | (have p : Opt := n1; clear p; subst n1) | (have p : Xg := n1; clear p; subst n1) | (have p : Sns := n1; clear p; subst n1) | (have p : Ev := n1; clear p; subst n1) | clear_value n1)
    | (with_reducible refine Keeps.foldl (fun t x h => ?_) ?_)
    | with_reducible apply Keeps.modDie_keeps
    | (simp -zeta only [Keeps.mark]; with_reducible refine KeepsLit.intro rfl ?_ ?_ ?_)
    | split

theorem Keeps.releaseTick_keeps {gs : List Group} (hg : [.sys, .reg, .xg, .die] ⊆ gs) {o0 s : State} (h0 : Keeps gs o0 s) : Keeps gs o0 (State.releaseTick s) := by
  have hm : ∀ (t : State) (x : Sys), x.hold = t.sys.hold → x.erg = t.sys.erg → x.epoch = t.sys.epoch → Keeps gs o0 t → Keeps gs o0 { t with sys := x } := by
    intro t x h1 h2 h3 ht
    refine ht.trans ⟨⟨?_⟩, Regular.keep (by simp only [regularPart, h1, h2, h3])⟩
    intro g hgn
    cases g <;> first | exact (Keeps.out hg (by decide) hgn).elim | rfl
  unfold State.releaseTick
  split
  · exact h0
  · split
    · split
      · exact h0
      · split
        · exact hm _ _ rfl rfl rfl h0
        · rename_i g w u _ _ _ _
          have k := Keeps.ungate_keeps (gs := [.reg, .xg, .die]) (s := s) (by decide) (Keeps.refl s) (s.releaseSites g)
          have e := k.only.same .sys (by decide)
          simp only [Group.same] at e
          exact hm _ _ (by rw [e]) (by rw [e]) (by rw [e]) (h0.trans (k.mono (List.Subset.trans (by decide) hg)))
    · split
      · exact h0
      · extract_lets t
        have h1 : Keeps gs o0 t := Keeps.releaseLogic_keeps (List.Subset.trans (by decide) hg) h0 _
        clear_value t
        split
        · exact hm _ _ rfl rfl rfl h1
        · exact hm _ _ rfl rfl rfl h1

theorem Keeps.bootTick_keeps {gs : List Group} (hg : [.sys, .reg, .et, .ls, .xg, .cfg, .die, .ev] ⊆ gs) {o0 s : State} (h0 : Keeps gs o0 s) : Keeps gs o0 (State.bootTick s) := by
  unfold State.bootTick
  repeat' first
    | with_reducible assumption
    | with_reducible exact List.Subset.trans (by decide) hg
    | with_reducible exact Regular.keep rfl
    | (intro g hgn; cases g <;> first | exact (Keeps.out hg (by decide) hgn).elim | with_reducible rfl)
    | (extract_lets +onlyGivenNames s1; refine Keeps.have_ (gs := gs) (o := o0) (t := s1) ?_ (fun h => ?_); (on_goal 1 => subst s1); (on_goal 2 => try clear_value s1))
    | (extract_lets +onlyGivenNames n1; first | (have p : Sys := n1; clear p; subst n1) | (have p : Et := n1; clear p; subst n1) | (have p : Hm := n1; clear p; subst n1) | (have p : Opt := n1; clear p; subst n1) | (have p : Xg := n1; clear p; subst n1) | (have p : Sns := n1; clear p; subst n1) | (have p : Ev := n1; clear p; subst n1) | clear_value n1)
    | (with_reducible refine Keeps.foldl (fun t x h => ?_) ?_)
    | with_reducible apply Keeps.bootCompose_keeps
    | with_reducible apply Keeps.releaseTick_keeps
    | (simp -zeta only [Keeps.mark]; with_reducible refine KeepsLit.intro rfl ?_ ?_ ?_)
    | (with_reducible refine Keeps.ite ?_ ?_)
    | split

theorem Keeps.execXtalLoss_keeps {gs : List Group} (hg : [.et, .ev] ⊆ gs) {o0 s : State} (h0 : Keeps gs o0 s) : KeepsOut gs o0 (execXtalLoss s) := by
  unfold execXtalLoss
  repeat' first
    | with_reducible assumption
    | with_reducible exact List.Subset.trans (by decide) hg
    | with_reducible exact Regular.keep rfl
    | (intro g hgn; cases g <;> first | exact (Keeps.out hg (by decide) hgn).elim | with_reducible rfl)
    | (extract_lets +onlyGivenNames s1; refine Keeps.have_ (gs := gs) (o := o0) (t := s1) ?_ (fun h => ?_); (on_goal 1 => subst s1); (on_goal 2 => try clear_value s1))
    | (extract_lets +onlyGivenNames n1; first | (have p : Sys := n1; clear p; subst n1) | (have p : Et := n1; clear p; subst n1) | (have p : Hm := n1; clear p; subst n1) | (have p : Opt := n1; clear p; subst n1) | (have p : Xg := n1; clear p; subst n1) | (have p : Sns := n1; clear p; subst n1) | (have p : Ev := n1; clear p; subst n1) | clear_value n1)
    | (with_reducible refine Keeps.foldl (fun t x h => ?_) ?_)
    | (with_reducible refine KeepsOut.next ?_)
    | with_reducible apply Keeps.raise_keeps
    | (simp -zeta only [Keeps.mark]; with_reducible refine KeepsLit.intro rfl ?_ ?_ ?_)
    | (with_reducible refine Keeps.ite ?_ ?_)
    | split

theorem Keeps.execXtalRestored_keeps {gs : List Group} (hg : [.et, .ev] ⊆ gs) {o0 s : State} (h0 : Keeps gs o0 s) : KeepsOut gs o0 (execXtalRestored s) := by
  unfold execXtalRestored
  repeat' first
    | with_reducible assumption
    | with_reducible exact List.Subset.trans (by decide) hg
    | with_reducible exact Regular.keep rfl
    | (intro g hgn; cases g <;> first | exact (Keeps.out hg (by decide) hgn).elim | with_reducible rfl)
    | (extract_lets +onlyGivenNames s1; refine Keeps.have_ (gs := gs) (o := o0) (t := s1) ?_ (fun h => ?_); (on_goal 1 => subst s1); (on_goal 2 => try clear_value s1))
    | (extract_lets +onlyGivenNames n1; first | (have p : Sys := n1; clear p; subst n1) | (have p : Et := n1; clear p; subst n1) | (have p : Hm := n1; clear p; subst n1) | (have p : Opt := n1; clear p; subst n1) | (have p : Xg := n1; clear p; subst n1) | (have p : Sns := n1; clear p; subst n1) | (have p : Ev := n1; clear p; subst n1) | clear_value n1)
    | (with_reducible refine Keeps.foldl (fun t x h => ?_) ?_)
    | (with_reducible refine KeepsOut.next ?_)
    | with_reducible apply Keeps.raise_keeps
    | (simp -zeta only [Keeps.mark]; with_reducible refine KeepsLit.intro rfl ?_ ?_ ?_)
    | (with_reducible refine Keeps.ite ?_ ?_)
    | split

theorem Keeps.verifyFailed_keeps {gs : List Group} (hg : [.ctl, .ev] ⊆ gs) {o0 s : State} (h0 : Keeps gs o0 s) (c : Nat) (args : List Nat) : Keeps gs o0 (State.verifyFailed s c args) := by
  unfold State.verifyFailed
  repeat' first
    | with_reducible assumption
    | with_reducible exact List.Subset.trans (by decide) hg
    | with_reducible exact Regular.keep rfl
    | (intro g hgn; cases g <;> first | exact (Keeps.out hg (by decide) hgn).elim | with_reducible rfl)
    | (extract_lets +onlyGivenNames s1; refine Keeps.have_ (gs := gs) (o := o0) (t := s1) ?_ (fun h => ?_); (on_goal 1 => subst s1); (on_goal 2 => try clear_value s1))
    | (extract_lets +onlyGivenNames n1; first | (have p : Sys := n1; clear p; subst n1) | (have p : Et := n1; clear p; subst n1) | (have p : Hm := n1; clear p; subst n1) | (have p : Opt := n1; clear p; subst n1) | (have p : Xg := n1; clear p; subst n1) | (have p : Sns := n1; clear p; subst n1) | (have p : Ev := n1; clear p; subst n1) | clear_value n1)
    | (with_reducible refine Keeps.foldl (fun t x h => ?_) ?_)
    | with_reducible apply Keeps.raise_keeps
    | (simp -zeta only [Keeps.mark]; with_reducible refine KeepsLit.intro rfl ?_ ?_ ?_)
    | (with_reducible refine Keeps.ite ?_ ?_)
    | split

theorem Keeps.retire_keeps {gs : List Group} (hg : [.sys, .ctl, .mbx, .ev] ⊆ gs) {o0 s : State} (h0 : Keeps gs o0 s) (c : Bool) : Keeps gs o0 (State.retire s c) := by
  unfold State.retire
  repeat' first
    | with_reducible assumption
    | with_reducible exact List.Subset.trans (by decide) hg
    | with_reducible exact Regular.keep rfl
    | (intro g hgn; cases g <;> first | exact (Keeps.out hg (by decide) hgn).elim | with_reducible rfl)
    | (extract_lets +onlyGivenNames s1; refine Keeps.have_ (gs := gs) (o := o0) (t := s1) ?_ (fun h => ?_); (on_goal 1 => subst s1); (on_goal 2 => try clear_value s1))
    | (extract_lets +onlyGivenNames n1; first | (have p : Sys := n1; clear p; subst n1) | (have p : Et := n1; clear p; subst n1) | (have p : Hm := n1; clear p; subst n1) | (have p : Opt := n1; clear p; subst n1) | (have p : Xg := n1; clear p; subst n1) | (have p : Sns := n1; clear p; subst n1) | (have p : Ev := n1; clear p; subst n1) | clear_value n1)
    | (with_reducible refine Keeps.foldl (fun t x h => ?_) ?_)
    | with_reducible apply Keeps.mlbSet_keeps
    | with_reducible apply Keeps.modCtrl_keeps
    | with_reducible apply Keeps.raise_keeps
    | (simp -zeta only [Keeps.mark]; with_reducible refine KeepsLit.intro rfl ?_ ?_ ?_)
    | split

theorem Keeps.reload_keeps {gs : List Group} (hg : [.ctl] ⊆ gs) {o0 s : State} (h0 : Keeps gs o0 s) (c : Bool) : Keeps gs o0 (State.reload s c) := by
  unfold State.reload
  repeat' first
    | with_reducible assumption
    | with_reducible exact List.Subset.trans (by decide) hg
    | with_reducible exact Regular.keep rfl
    | (intro g hgn; cases g <;> first | exact (Keeps.out hg (by decide) hgn).elim | with_reducible rfl)
    | (extract_lets +onlyGivenNames s1; refine Keeps.have_ (gs := gs) (o := o0) (t := s1) ?_ (fun h => ?_); (on_goal 1 => subst s1); (on_goal 2 => try clear_value s1))
    | (extract_lets +onlyGivenNames n1; first | (have p : Sys := n1; clear p; subst n1) | (have p : Et := n1; clear p; subst n1) | (have p : Hm := n1; clear p; subst n1) | (have p : Opt := n1; clear p; subst n1) | (have p : Xg := n1; clear p; subst n1) | (have p : Sns := n1; clear p; subst n1) | (have p : Ev := n1; clear p; subst n1) | clear_value n1)
    | (with_reducible refine Keeps.foldl (fun t x h => ?_) ?_)
    | with_reducible apply Keeps.modCtrl_keeps
    | (simp -zeta only [Keeps.mark]; with_reducible refine KeepsLit.intro rfl ?_ ?_ ?_)
    | (with_reducible refine Keeps.ite ?_ ?_)
    | split

theorem Keeps.dropUpdate_keeps {gs : List Group} (hg : [.mbx, .cfg] ⊆ gs) {o0 s : State} (h0 : Keeps gs o0 s) (st : Nat) : Keeps gs o0 (State.dropUpdate s st) := by
  unfold State.dropUpdate
  repeat' first
    | with_reducible assumption
    | with_reducible exact List.Subset.trans (by decide) hg
    | with_reducible exact Regular.keep rfl
    | (intro g hgn; cases g <;> first | exact (Keeps.out hg (by decide) hgn).elim | with_reducible rfl)
    | (extract_lets +onlyGivenNames s1; refine Keeps.have_ (gs := gs) (o := o0) (t := s1) ?_ (fun h => ?_); (on_goal 1 => subst s1); (on_goal 2 => try clear_value s1))
    | (extract_lets +onlyGivenNames n1; first | (have p : Sys := n1; clear p; subst n1) | (have p : Et := n1; clear p; subst n1) | (have p : Hm := n1; clear p; subst n1) | (have p : Opt := n1; clear p; subst n1) | (have p : Xg := n1; clear p; subst n1) | (have p : Sns := n1; clear p; subst n1) | (have p : Ev := n1; clear p; subst n1) | clear_value n1)
    | (with_reducible refine Keeps.foldl (fun t x h => ?_) ?_)
    | with_reducible apply Keeps.finishOp_keeps
    | (simp -zeta only [Keeps.mark]; with_reducible refine KeepsLit.intro rfl ?_ ?_ ?_)
    | split

theorem Keeps.lostActive_keeps {gs : List Group} (hg : [.sys, .ctl, .mbx, .reg, .hm, .et, .xg, .cal, .sns, .cfg, .die, .ev] ⊆ gs) {o0 s : State} (h0 : Keeps gs o0 s) (c : Bool) : Keeps gs o0 (State.lostActive s c) := by
  unfold State.lostActive
  repeat' first
    | with_reducible assumption
    | with_reducible exact List.Subset.trans (by decide) hg
    | with_reducible exact Regular.keep rfl
    | (intro g hgn; cases g <;> first | exact (Keeps.out hg (by decide) hgn).elim | with_reducible rfl)
    | (extract_lets +onlyGivenNames s1; refine Keeps.have_ (gs := gs) (o := o0) (t := s1) ?_ (fun h => ?_); (on_goal 1 => subst s1); (on_goal 2 => try clear_value s1))
    | (extract_lets +onlyGivenNames n1; first | (have p : Sys := n1; clear p; subst n1) | (have p : Et := n1; clear p; subst n1) | (have p : Hm := n1; clear p; subst n1) | (have p : Opt := n1; clear p; subst n1) | (have p : Xg := n1; clear p; subst n1) | (have p : Sns := n1; clear p; subst n1) | (have p : Ev := n1; clear p; subst n1) | clear_value n1)
    | (with_reducible refine Keeps.foldl (fun t x h => ?_) ?_)
    | with_reducible apply Keeps.dropUpdate_keeps
    | with_reducible apply Keeps.enterHold_keeps
    | with_reducible apply Keeps.promote_keeps
    | (simp -zeta only [Keeps.mark]; with_reducible refine KeepsLit.intro rfl ?_ ?_ ?_)
    | (with_reducible refine Keeps.ite ?_ ?_)
    | split
    | omega

theorem Keeps.faultNoted_keeps {gs : List Group} (hg : [.ctl] ⊆ gs) {o0 s : State} (h0 : Keeps gs o0 s) (c : Bool) (code : Nat) : Keeps gs o0 (State.faultNoted s c code) := by
  unfold State.faultNoted
  repeat' first
    | with_reducible assumption
    | with_reducible exact List.Subset.trans (by decide) hg
    | with_reducible exact Regular.keep rfl
    | (intro g hgn; cases g <;> first | exact (Keeps.out hg (by decide) hgn).elim | with_reducible rfl)
    | (extract_lets +onlyGivenNames s1; refine Keeps.have_ (gs := gs) (o := o0) (t := s1) ?_ (fun h => ?_); (on_goal 1 => subst s1); (on_goal 2 => try clear_value s1))
    | (extract_lets +onlyGivenNames n1; first | (have p : Sys := n1; clear p; subst n1) | (have p : Et := n1; clear p; subst n1) | (have p : Hm := n1; clear p; subst n1) | (have p : Opt := n1; clear p; subst n1) | (have p : Xg := n1; clear p; subst n1) | (have p : Sns := n1; clear p; subst n1) | (have p : Ev := n1; clear p; subst n1) | clear_value n1)
    | (with_reducible refine Keeps.foldl (fun t x h => ?_) ?_)
    | (simp -zeta only [Keeps.mark]; with_reducible refine KeepsLit.intro rfl ?_ ?_ ?_)
    | split

theorem Keeps.rollback_keeps {gs : List Group} (hg : [.sys, .ctl, .mbx, .reg, .hm, .et, .xg, .cal, .sns, .cfg, .die, .ev] ⊆ gs) {o0 s : State} (h0 : Keeps gs o0 s) (u : Update) (st : Nat) : Keeps gs o0 (State.rollback s u st) := by
  unfold State.rollback
  repeat' first
    | with_reducible assumption
    | with_reducible exact List.Subset.trans (by decide) hg
    | with_reducible exact Regular.keep rfl
    | (intro g hgn; cases g <;> first | exact (Keeps.out hg (by decide) hgn).elim | with_reducible rfl)
    | (extract_lets +onlyGivenNames s1; refine Keeps.have_ (gs := gs) (o := o0) (t := s1) ?_ (fun h => ?_); (on_goal 1 => subst s1); (on_goal 2 => try clear_value s1))
    | (extract_lets +onlyGivenNames n1; first | (have p : Sys := n1; clear p; subst n1) | (have p : Et := n1; clear p; subst n1) | (have p : Hm := n1; clear p; subst n1) | (have p : Opt := n1; clear p; subst n1) | (have p : Xg := n1; clear p; subst n1) | (have p : Sns := n1; clear p; subst n1) | (have p : Ev := n1; clear p; subst n1) | clear_value n1)
    | (with_reducible refine Keeps.foldl (fun t x h => ?_) ?_)
    | with_reducible apply Keeps.enterHold_keeps
    | with_reducible apply Keeps.finishOp_keeps
    | with_reducible apply Keeps.modCtrl_keeps
    | with_reducible apply Keeps.promote_keeps
    | with_reducible apply Keeps.raise_keeps
    | (simp -zeta only [Keeps.mark]; with_reducible refine KeepsLit.intro rfl ?_ ?_ ?_)
    | (with_reducible refine Keeps.ite ?_ ?_)
    | split
    | omega

theorem Keeps.controllerFaults_keeps {gs : List Group} (hg : [.sys, .ctl, .mbx, .reg, .hm, .et, .xg, .cal, .sns, .cfg, .die, .ev] ⊆ gs) {o0 s : State} (h0 : Keeps gs o0 s) (c : Bool) (code : Nat) : Keeps gs o0 (State.controllerFaults s c code) := by
  unfold State.controllerFaults
  repeat' first
    | with_reducible assumption
    | with_reducible exact List.Subset.trans (by decide) hg
    | with_reducible exact Regular.keep rfl
    | (intro g hgn; cases g <;> first | exact (Keeps.out hg (by decide) hgn).elim | with_reducible rfl)
    | (extract_lets +onlyGivenNames s1; refine Keeps.have_ (gs := gs) (o := o0) (t := s1) ?_ (fun h => ?_); (on_goal 1 => subst s1); (on_goal 2 => try clear_value s1))
    | (extract_lets +onlyGivenNames n1; first | (have p : Sys := n1; clear p; subst n1) | (have p : Et := n1; clear p; subst n1) | (have p : Hm := n1; clear p; subst n1) | (have p : Opt := n1; clear p; subst n1) | (have p : Xg := n1; clear p; subst n1) | (have p : Sns := n1; clear p; subst n1) | (have p : Ev := n1; clear p; subst n1) | clear_value n1)
    | (with_reducible refine Keeps.foldl (fun t x h => ?_) ?_)
    | with_reducible apply Keeps.dropUpdate_keeps
    | with_reducible apply Keeps.faultNoted_keeps
    | with_reducible apply Keeps.lostActive_keeps
    | with_reducible apply Keeps.modCtrl_keeps
    | with_reducible apply Keeps.reload_keeps
    | with_reducible apply Keeps.retire_keeps
    | (simp -zeta only [Keeps.mark]; with_reducible refine KeepsLit.intro rfl ?_ ?_ ?_)
    | (with_reducible refine Keeps.ite ?_ ?_)
    | split

theorem Keeps.execControllerFault_keeps {gs : List Group} (hg : [.sys, .ctl, .mbx, .reg, .hm, .et, .xg, .cal, .sns, .cfg, .die, .ev] ⊆ gs) {o0 s : State} (h0 : Keeps gs o0 s) (c : Fin 2) (why : FaultKind) : KeepsOut gs o0 (execControllerFault c why s) := by
  unfold execControllerFault
  repeat' first
    | with_reducible assumption
    | with_reducible exact List.Subset.trans (by decide) hg
    | with_reducible exact Regular.keep rfl
    | (intro g hgn; cases g <;> first | exact (Keeps.out hg (by decide) hgn).elim | with_reducible rfl)
    | (extract_lets +onlyGivenNames s1; refine Keeps.have_ (gs := gs) (o := o0) (t := s1) ?_ (fun h => ?_); (on_goal 1 => subst s1); (on_goal 2 => try clear_value s1))
    | (extract_lets +onlyGivenNames n1; first | (have p : Sys := n1; clear p; subst n1) | (have p : Et := n1; clear p; subst n1) | (have p : Hm := n1; clear p; subst n1) | (have p : Opt := n1; clear p; subst n1) | (have p : Xg := n1; clear p; subst n1) | (have p : Sns := n1; clear p; subst n1) | (have p : Ev := n1; clear p; subst n1) | clear_value n1)
    | (with_reducible refine Keeps.foldl (fun t x h => ?_) ?_)
    | (with_reducible refine KeepsOut.next ?_)
    | with_reducible apply Keeps.controllerFaults_keeps
    | with_reducible apply Keeps.faultNoted_keeps
    | with_reducible apply Keeps.rollback_keeps
    | (simp -zeta only [Keeps.mark]; with_reducible refine KeepsLit.intro rfl ?_ ?_ ?_)
    | (with_reducible refine Keeps.ite ?_ ?_)
    | split

theorem Keeps.execControllerHeartbeat_keeps {gs : List Group} (hg : [.ctl] ⊆ gs) {o0 s : State} (h0 : Keeps gs o0 s) (c : Fin 2) : KeepsOut gs o0 (execControllerHeartbeat c s) := by
  unfold execControllerHeartbeat
  repeat' first
    | with_reducible assumption
    | with_reducible exact List.Subset.trans (by decide) hg
    | with_reducible exact Regular.keep rfl
    | (intro g hgn; cases g <;> first | exact (Keeps.out hg (by decide) hgn).elim | with_reducible rfl)
    | (extract_lets +onlyGivenNames s1; refine Keeps.have_ (gs := gs) (o := o0) (t := s1) ?_ (fun h => ?_); (on_goal 1 => subst s1); (on_goal 2 => try clear_value s1))
    | (extract_lets +onlyGivenNames n1; first | (have p : Sys := n1; clear p; subst n1) | (have p : Et := n1; clear p; subst n1) | (have p : Hm := n1; clear p; subst n1) | (have p : Opt := n1; clear p; subst n1) | (have p : Xg := n1; clear p; subst n1) | (have p : Sns := n1; clear p; subst n1) | (have p : Ev := n1; clear p; subst n1) | clear_value n1)
    | (with_reducible refine Keeps.foldl (fun t x h => ?_) ?_)
    | (with_reducible refine KeepsOut.next ?_)
    | with_reducible apply Keeps.modCtrl_keeps
    | (simp -zeta only [Keeps.mark]; with_reducible refine KeepsLit.intro rfl ?_ ?_ ?_)
    | (with_reducible refine Keeps.ite ?_ ?_)
    | split

theorem Keeps.execControllerReloadDone_keeps {gs : List Group} (hg : [.sys, .ctl, .mbx, .reg, .cal, .ev] ⊆ gs) {o0 s : State} (h0 : Keeps gs o0 s) (c : Fin 2) : KeepsOut gs o0 (execControllerReloadDone c s) := by
  unfold execControllerReloadDone
  repeat' first
    | with_reducible assumption
    | with_reducible exact List.Subset.trans (by decide) hg
    | with_reducible exact Regular.keep rfl
    | (intro g hgn; cases g <;> first | exact (Keeps.out hg (by decide) hgn).elim | with_reducible rfl)
    | (extract_lets +onlyGivenNames s1; refine Keeps.have_ (gs := gs) (o := o0) (t := s1) ?_ (fun h => ?_); (on_goal 1 => subst s1); (on_goal 2 => try clear_value s1))
    | (extract_lets +onlyGivenNames n1; first | (have p : Sys := n1; clear p; subst n1) | (have p : Et := n1; clear p; subst n1) | (have p : Hm := n1; clear p; subst n1) | (have p : Opt := n1; clear p; subst n1) | (have p : Xg := n1; clear p; subst n1) | (have p : Sns := n1; clear p; subst n1) | (have p : Ev := n1; clear p; subst n1) | clear_value n1)
    | (with_reducible refine Keeps.foldl (fun t x h => ?_) ?_)
    | (with_reducible refine KeepsOut.next ?_)
    | with_reducible apply Keeps.bootFail_keeps
    | with_reducible apply Keeps.modCtrl_keeps
    | with_reducible apply Keeps.standbyReady_keeps
    | (simp -zeta only [Keeps.mark]; with_reducible refine KeepsLit.intro rfl ?_ ?_ ?_)
    | (with_reducible refine Keeps.ite ?_ ?_)
    | split

theorem Keeps.execControllerReloadTimeout_keeps {gs : List Group} (hg : [.sys, .ctl, .mbx, .ev] ⊆ gs) {o0 s : State} (h0 : Keeps gs o0 s) (c : Fin 2) : KeepsOut gs o0 (execControllerReloadTimeout c s) := by
  unfold execControllerReloadTimeout
  repeat' first
    | with_reducible assumption
    | with_reducible exact List.Subset.trans (by decide) hg
    | with_reducible exact Regular.keep rfl
    | (intro g hgn; cases g <;> first | exact (Keeps.out hg (by decide) hgn).elim | with_reducible rfl)
    | (extract_lets +onlyGivenNames s1; refine Keeps.have_ (gs := gs) (o := o0) (t := s1) ?_ (fun h => ?_); (on_goal 1 => subst s1); (on_goal 2 => try clear_value s1))
    | (extract_lets +onlyGivenNames n1; first | (have p : Sys := n1; clear p; subst n1) | (have p : Et := n1; clear p; subst n1) | (have p : Hm := n1; clear p; subst n1) | (have p : Opt := n1; clear p; subst n1) | (have p : Xg := n1; clear p; subst n1) | (have p : Sns := n1; clear p; subst n1) | (have p : Ev := n1; clear p; subst n1) | clear_value n1)
    | (with_reducible refine Keeps.foldl (fun t x h => ?_) ?_)
    | (with_reducible refine KeepsOut.next ?_)
    | with_reducible apply Keeps.retire_keeps
    | (simp -zeta only [Keeps.mark]; with_reducible refine KeepsLit.intro rfl ?_ ?_ ?_)
    | (with_reducible refine Keeps.ite ?_ ?_)
    | split

theorem Keeps.execReloadSourceLost_keeps {gs : List Group} (hg : [.ctl] ⊆ gs) {o0 s : State} (h0 : Keeps gs o0 s) (c : Fin 2) : KeepsOut gs o0 (execReloadSourceLost c s) := by
  unfold execReloadSourceLost
  repeat' first
    | with_reducible assumption
    | with_reducible exact List.Subset.trans (by decide) hg
    | with_reducible exact Regular.keep rfl
    | (intro g hgn; cases g <;> first | exact (Keeps.out hg (by decide) hgn).elim | with_reducible rfl)
    | (extract_lets +onlyGivenNames s1; refine Keeps.have_ (gs := gs) (o := o0) (t := s1) ?_ (fun h => ?_); (on_goal 1 => subst s1); (on_goal 2 => try clear_value s1))
    | (extract_lets +onlyGivenNames n1; first | (have p : Sys := n1; clear p; subst n1) | (have p : Et := n1; clear p; subst n1) | (have p : Hm := n1; clear p; subst n1) | (have p : Opt := n1; clear p; subst n1) | (have p : Xg := n1; clear p; subst n1) | (have p : Sns := n1; clear p; subst n1) | (have p : Ev := n1; clear p; subst n1) | clear_value n1)
    | (with_reducible refine Keeps.foldl (fun t x h => ?_) ?_)
    | (with_reducible refine KeepsOut.next ?_)
    | with_reducible apply Keeps.modCtrl_keeps
    | (simp -zeta only [Keeps.mark]; with_reducible refine KeepsLit.intro rfl ?_ ?_ ?_)
    | (with_reducible refine Keeps.ite ?_ ?_)
    | split

theorem Keeps.bootFails_keeps {gs : List Group} (hg : [.sys, .ctl, .mbx, .reg, .cal] ⊆ gs) {o0 s : State} (h0 : Keeps gs o0 s) (c : Bool) : Keeps gs o0 (State.bootFails s c) := by
  unfold State.bootFails
  repeat' first
    | with_reducible assumption
    | with_reducible exact List.Subset.trans (by decide) hg
    | with_reducible exact Regular.keep rfl
    | (intro g hgn; cases g <;> first | exact (Keeps.out hg (by decide) hgn).elim | with_reducible rfl)
    | (extract_lets +onlyGivenNames s1; refine Keeps.have_ (gs := gs) (o := o0) (t := s1) ?_ (fun h => ?_); (on_goal 1 => subst s1); (on_goal 2 => try clear_value s1))
    | (extract_lets +onlyGivenNames n1; first | (have p : Sys := n1; clear p; subst n1) | (have p : Et := n1; clear p; subst n1) | (have p : Hm := n1; clear p; subst n1) | (have p : Opt := n1; clear p; subst n1) | (have p : Xg := n1; clear p; subst n1) | (have p : Sns := n1; clear p; subst n1) | (have p : Ev := n1; clear p; subst n1) | clear_value n1)
    | (with_reducible refine Keeps.foldl (fun t x h => ?_) ?_)
    | with_reducible apply Keeps.bootFail_keeps
    | with_reducible apply Keeps.mlbSet_keeps
    | with_reducible apply Keeps.modCtrl_keeps
    | (simp -zeta only [Keeps.mark]; with_reducible refine KeepsLit.intro rfl ?_ ?_ ?_)
    | (with_reducible refine Keeps.ite ?_ ?_)
    | split

theorem Keeps.bootImage_keeps {gs : List Group} (hg : [.sys, .ctl, .mbx, .reg, .hm, .opt, .cal, .ev] ⊆ gs) {o0 s : State} (h0 : Keeps gs o0 s) (c : Bool) (selfTest : Bool) : Keeps gs o0 (State.bootImage s c selfTest) := by
  unfold State.bootImage
  repeat' first
    | with_reducible assumption
    | with_reducible exact List.Subset.trans (by decide) hg
    | with_reducible exact Regular.keep rfl
    | (intro g hgn; cases g <;> first | exact (Keeps.out hg (by decide) hgn).elim | with_reducible rfl)
    | (extract_lets +onlyGivenNames s1; refine Keeps.have_ (gs := gs) (o := o0) (t := s1) ?_ (fun h => ?_); (on_goal 1 => subst s1); (on_goal 2 => try clear_value s1))
    | (extract_lets +onlyGivenNames n1; first | (have p : Sys := n1; clear p; subst n1) | (have p : Et := n1; clear p; subst n1) | (have p : Hm := n1; clear p; subst n1) | (have p : Opt := n1; clear p; subst n1) | (have p : Xg := n1; clear p; subst n1) | (have p : Sns := n1; clear p; subst n1) | (have p : Ev := n1; clear p; subst n1) | clear_value n1)
    | (with_reducible refine Keeps.foldl (fun t x h => ?_) ?_)
    | with_reducible apply Keeps.bootFail_keeps
    | with_reducible apply Keeps.bootFails_keeps
    | with_reducible apply Keeps.bootFirmware_keeps
    | with_reducible apply Keeps.modCtrl_keeps
    | with_reducible apply Keeps.promote_keeps
    | with_reducible apply Keeps.raise_keeps
    | with_reducible apply Keeps.verifyFailed_keeps
    | (simp -zeta only [Keeps.mark]; with_reducible refine KeepsLit.intro rfl ?_ ?_ ?_)
    | (with_reducible refine Keeps.ite ?_ ?_)
    | split

theorem Keeps.reloadImage_keeps {gs : List Group} (hg : [.sys, .ctl, .mbx, .ev] ⊆ gs) {o0 s : State} (h0 : Keeps gs o0 s) (c : Bool) (selfTest : Bool) : Keeps gs o0 (State.reloadImage s c selfTest) := by
  unfold State.reloadImage
  repeat' first
    | with_reducible assumption
    | with_reducible exact List.Subset.trans (by decide) hg
    | with_reducible exact Regular.keep rfl
    | (intro g hgn; cases g <;> first | exact (Keeps.out hg (by decide) hgn).elim | with_reducible rfl)
    | (extract_lets +onlyGivenNames s1; refine Keeps.have_ (gs := gs) (o := o0) (t := s1) ?_ (fun h => ?_); (on_goal 1 => subst s1); (on_goal 2 => try clear_value s1))
    | (extract_lets +onlyGivenNames n1; first | (have p : Sys := n1; clear p; subst n1) | (have p : Et := n1; clear p; subst n1) | (have p : Hm := n1; clear p; subst n1) | (have p : Opt := n1; clear p; subst n1) | (have p : Xg := n1; clear p; subst n1) | (have p : Sns := n1; clear p; subst n1) | (have p : Ev := n1; clear p; subst n1) | clear_value n1)
    | (with_reducible refine Keeps.foldl (fun t x h => ?_) ?_)
    | with_reducible apply Keeps.modCtrl_keeps
    | with_reducible apply Keeps.retire_keeps
    | with_reducible apply Keeps.verifyFailed_keeps
    | (simp -zeta only [Keeps.mark]; with_reducible refine KeepsLit.intro rfl ?_ ?_ ?_)
    | (with_reducible refine Keeps.ite ?_ ?_)
    | split

theorem Keeps.stagedImage_keeps {gs : List Group} (hg : [.ctl, .mbx, .cfg, .ev] ⊆ gs) {o0 s : State} (h0 : Keeps gs o0 s) (u : Update) : Keeps gs o0 (State.stagedImage s u) := by
  unfold State.stagedImage
  repeat' first
    | with_reducible assumption
    | with_reducible exact List.Subset.trans (by decide) hg
    | with_reducible exact Regular.keep rfl
    | (intro g hgn; cases g <;> first | exact (Keeps.out hg (by decide) hgn).elim | with_reducible rfl)
    | (extract_lets +onlyGivenNames s1; refine Keeps.have_ (gs := gs) (o := o0) (t := s1) ?_ (fun h => ?_); (on_goal 1 => subst s1); (on_goal 2 => try clear_value s1))
    | (extract_lets +onlyGivenNames n1; first | (have p : Sys := n1; clear p; subst n1) | (have p : Et := n1; clear p; subst n1) | (have p : Hm := n1; clear p; subst n1) | (have p : Opt := n1; clear p; subst n1) | (have p : Xg := n1; clear p; subst n1) | (have p : Sns := n1; clear p; subst n1) | (have p : Ev := n1; clear p; subst n1) | clear_value n1)
    | (with_reducible refine Keeps.foldl (fun t x h => ?_) ?_)
    | with_reducible apply Keeps.dropUpdate_keeps
    | with_reducible apply Keeps.modOp_keeps
    | with_reducible apply Keeps.verifyFailed_keeps
    | (simp -zeta only [Keeps.mark]; with_reducible refine KeepsLit.intro rfl ?_ ?_ ?_)
    | (with_reducible refine Keeps.ite ?_ ?_)
    | split

theorem Keeps.execImageVerified_keeps {gs : List Group} (hg : [.sys, .ctl, .mbx, .reg, .hm, .opt, .cal, .cfg, .ev] ⊆ gs) {o0 s : State} (h0 : Keeps gs o0 s) (c : Fin 2) (src : ImageSource) (selfTest : Bool) : KeepsOut gs o0 (execImageVerified c src selfTest s) := by
  unfold execImageVerified
  repeat' first
    | with_reducible assumption
    | with_reducible exact List.Subset.trans (by decide) hg
    | with_reducible exact Regular.keep rfl
    | (intro g hgn; cases g <;> first | exact (Keeps.out hg (by decide) hgn).elim | with_reducible rfl)
    | (extract_lets +onlyGivenNames s1; refine Keeps.have_ (gs := gs) (o := o0) (t := s1) ?_ (fun h => ?_); (on_goal 1 => subst s1); (on_goal 2 => try clear_value s1))
    | (extract_lets +onlyGivenNames n1; first | (have p : Sys := n1; clear p; subst n1) | (have p : Et := n1; clear p; subst n1) | (have p : Hm := n1; clear p; subst n1) | (have p : Opt := n1; clear p; subst n1) | (have p : Xg := n1; clear p; subst n1) | (have p : Sns := n1; clear p; subst n1) | (have p : Ev := n1; clear p; subst n1) | clear_value n1)
    | (with_reducible refine Keeps.foldl (fun t x h => ?_) ?_)
    | (with_reducible refine KeepsOut.next ?_)
    | with_reducible apply Keeps.bootFail_keeps
    | with_reducible apply Keeps.bootImage_keeps
    | with_reducible apply Keeps.modCtrl_keeps
    | with_reducible apply Keeps.reloadImage_keeps
    | with_reducible apply Keeps.retire_keeps
    | with_reducible apply Keeps.stagedImage_keeps
    | (simp -zeta only [Keeps.mark]; with_reducible refine KeepsLit.intro rfl ?_ ?_ ?_)
    | (with_reducible refine Keeps.ite ?_ ?_)
    | split

theorem Keeps.execHoldRequest_keeps {gs : List Group} (hg : [.sys, .mbx, .reg, .hm, .et, .xg, .cal, .sns, .cfg, .die, .ev] ⊆ gs) {o0 s : State} (h0 : Keeps gs o0 s) : KeepsOut gs o0 (execHoldRequest s) := by
  unfold execHoldRequest
  repeat' first
    | with_reducible assumption
    | with_reducible exact List.Subset.trans (by decide) hg
    | with_reducible exact Regular.keep rfl
    | (intro g hgn; cases g <;> first | exact (Keeps.out hg (by decide) hgn).elim | with_reducible rfl)
    | (extract_lets +onlyGivenNames s1; refine Keeps.have_ (gs := gs) (o := o0) (t := s1) ?_ (fun h => ?_); (on_goal 1 => subst s1); (on_goal 2 => try clear_value s1))
    | (extract_lets +onlyGivenNames n1; first | (have p : Sys := n1; clear p; subst n1) | (have p : Et := n1; clear p; subst n1) | (have p : Hm := n1; clear p; subst n1) | (have p : Opt := n1; clear p; subst n1) | (have p : Xg := n1; clear p; subst n1) | (have p : Sns := n1; clear p; subst n1) | (have p : Ev := n1; clear p; subst n1) | clear_value n1)
    | (with_reducible refine Keeps.foldl (fun t x h => ?_) ?_)
    | (with_reducible refine KeepsOut.next ?_)
    | with_reducible apply Keeps.enterHold_keeps
    | (simp -zeta only [Keeps.mark]; with_reducible refine KeepsLit.intro rfl ?_ ?_ ?_)
    | (with_reducible refine Keeps.ite ?_ ?_)
    | split
    | omega

theorem Keeps.execHoldRelease_keeps {gs : List Group} (hg : [.sys, .ctl] ⊆ gs) {o0 s : State} (h0 : Keeps gs o0 s) : KeepsOut gs o0 (execHoldRelease s) := by
  unfold execHoldRelease
  repeat' first
    | with_reducible assumption
    | with_reducible exact List.Subset.trans (by decide) hg
    | with_reducible exact Regular.keep rfl
    | (intro g hgn; cases g <;> first | exact (Keeps.out hg (by decide) hgn).elim | with_reducible rfl)
    | (extract_lets +onlyGivenNames s1; refine Keeps.have_ (gs := gs) (o := o0) (t := s1) ?_ (fun h => ?_); (on_goal 1 => subst s1); (on_goal 2 => try clear_value s1))
    | (extract_lets +onlyGivenNames n1; first | (have p : Sys := n1; clear p; subst n1) | (have p : Et := n1; clear p; subst n1) | (have p : Hm := n1; clear p; subst n1) | (have p : Opt := n1; clear p; subst n1) | (have p : Xg := n1; clear p; subst n1) | (have p : Sns := n1; clear p; subst n1) | (have p : Ev := n1; clear p; subst n1) | clear_value n1)
    | (with_reducible refine Keeps.foldl (fun t x h => ?_) ?_)
    | (with_reducible refine KeepsOut.next ?_)
    | with_reducible apply Keeps.reload_keeps
    | (simp -zeta only [Keeps.mark]; with_reducible refine KeepsLit.intro rfl ?_ ?_ ?_)
    | (with_reducible refine Keeps.ite ?_ ?_)
    | split

theorem Keeps.shiftTimers_keeps {gs : List Group} (hg : [.mbx] ⊆ gs) {o0 s : State} (h0 : Keeps gs o0 s) : Keeps gs o0 (State.shiftTimers s) := by
  unfold State.shiftTimers
  repeat' first
    | with_reducible assumption
    | with_reducible exact List.Subset.trans (by decide) hg
    | with_reducible exact Regular.keep rfl
    | (intro g hgn; cases g <;> first | exact (Keeps.out hg (by decide) hgn).elim | with_reducible rfl)
    | (extract_lets +onlyGivenNames s1; refine Keeps.have_ (gs := gs) (o := o0) (t := s1) ?_ (fun h => ?_); (on_goal 1 => subst s1); (on_goal 2 => try clear_value s1))
    | (extract_lets +onlyGivenNames n1; first | (have p : Sys := n1; clear p; subst n1) | (have p : Et := n1; clear p; subst n1) | (have p : Hm := n1; clear p; subst n1) | (have p : Opt := n1; clear p; subst n1) | (have p : Xg := n1; clear p; subst n1) | (have p : Sns := n1; clear p; subst n1) | (have p : Ev := n1; clear p; subst n1) | clear_value n1)
    | (with_reducible refine Keeps.foldl (fun t x h => ?_) ?_)
    | with_reducible apply Keeps.modOp_keeps
    | (simp -zeta only [Keeps.mark]; with_reducible refine KeepsLit.intro rfl ?_ ?_ ?_)
    | (with_reducible refine Keeps.ite ?_ ?_)
    | split

theorem Keeps.execHoldExit_keeps {gs : List Group} (hg : [.sys, .ctl, .mbx, .cfg, .ev] ⊆ gs) {o0 s : State} (h0 : Keeps gs o0 s) : KeepsOut gs o0 (execHoldExit s) := by
  have sub : ∀ {ts : List Group}, ts ⊆ [.sys, .ctl, .mbx, .cfg, .ev] → ts ⊆ gs := fun h => List.Subset.trans h hg
  have setS : ∀ (t : State) (b : Nat) (c : Option Nat), Keeps gs o0 t →
      Keeps gs o0 { t with sys := { t.sys with hold := 0, released := none, overrun := false, follow := 1, bootStep := b, bootedAt := c } } := by
    intro t b c h
    refine h.trans ⟨⟨?_⟩, fun h => { h with hold := Nat.zero_le _ }⟩
    intro g hgn
    cases g <;> first | exact (Keeps.out hg (by decide) hgn).elim | rfl
  have setC : ∀ (t : State), Keeps gs o0 t → Keeps gs o0 { t with cfg := { t.cfg with update := none, fwStage := [] } } := by
    intro t h
    refine h.trans ⟨⟨?_⟩, Regular.keep rfl⟩
    intro g hgn
    cases g <;> first | exact (Keeps.out hg (by decide) hgn).elim | rfl
  have setT : ∀ (t : State), Keeps gs o0 t → Keeps gs o0 { t with ctl := { t.ctl with takeover := false } } := by
    intro t h
    refine h.trans ⟨⟨?_⟩, Regular.keep rfl⟩
    intro g hgn
    cases g <;> first | exact (Keeps.out hg (by decide) hgn).elim | rfl
  unfold execHoldExit
  split
  · exact KeepsOut.next h0
  · extract_lets cause s1 s2 s3 boot a s4 c s5 s6
    have h1 : Keeps gs o0 s1 := Keeps.raise_keeps (sub (by decide)) h0 _ _
    have h2 : Keeps gs o0 s2 := Keeps.mlbClear_keeps (sub (by decide)) (Keeps.irq_keeps (sub (by decide)) (Keeps.shiftTimers_keeps (sub (by decide)) h1) _) _
    have h3 : Keeps gs o0 s3 := Keeps.mlbClear_keeps (sub (by decide)) (Keeps.mlbClear_keeps (sub (by decide)) h2 _) _
    have h4 : Keeps gs o0 s4 := setS s3 _ _ h3
    have h5 : Keeps gs o0 s5 := Keeps.ite (Keeps.irq_keeps (sub (by decide)) (Keeps.raise_keeps (sub (by decide)) (setT s4 h4) _ _) _) h4
    have h6 : Keeps gs o0 s6 := by
      subst s6
      split
      · split
        · refine Keeps.finishOp_keeps (sub (by decide)) (setC _ ?_) _ _ _
          exact Keeps.modCtrl_keeps (sub (by decide)) (Keeps.raise_keeps (sub (by decide)) h5 _ _) _ _
        · exact h5
      · exact h5
    split
    · exact KeepsOut.next h0
    · exact KeepsOut.next h6

theorem Keeps.execHoldOverrun_keeps {gs : List Group} (hg : [.sys, .mbx, .ev] ⊆ gs) {o0 s : State} (h0 : Keeps gs o0 s) : KeepsOut gs o0 (execHoldOverrun s) := by
  unfold execHoldOverrun
  repeat' first
    | with_reducible assumption
    | with_reducible exact List.Subset.trans (by decide) hg
    | with_reducible exact Regular.keep rfl
    | (intro g hgn; cases g <;> first | exact (Keeps.out hg (by decide) hgn).elim | with_reducible rfl)
    | (extract_lets +onlyGivenNames s1; refine Keeps.have_ (gs := gs) (o := o0) (t := s1) ?_ (fun h => ?_); (on_goal 1 => subst s1); (on_goal 2 => try clear_value s1))
    | (extract_lets +onlyGivenNames n1; first | (have p : Sys := n1; clear p; subst n1) | (have p : Et := n1; clear p; subst n1) | (have p : Hm := n1; clear p; subst n1) | (have p : Opt := n1; clear p; subst n1) | (have p : Xg := n1; clear p; subst n1) | (have p : Sns := n1; clear p; subst n1) | (have p : Ev := n1; clear p; subst n1) | clear_value n1)
    | (with_reducible refine Keeps.foldl (fun t x h => ?_) ?_)
    | (with_reducible refine KeepsOut.next ?_)
    | with_reducible apply Keeps.mlbSet_keeps
    | with_reducible apply Keeps.raise_keeps
    | (simp -zeta only [Keeps.mark]; with_reducible refine KeepsLit.intro rfl ?_ ?_ ?_)
    | (with_reducible refine Keeps.ite ?_ ?_)
    | split

theorem Keeps.fwStaged_keeps {gs : List Group} (hg : [.mbx, .cfg] ⊆ gs) {o0 s : State} (h0 : Keeps gs o0 s) (h : Nat) : Keeps gs o0 (State.fwStaged s h) := by
  unfold State.fwStaged
  repeat' first
    | with_reducible assumption
    | with_reducible exact List.Subset.trans (by decide) hg
    | with_reducible exact Regular.keep rfl
    | (intro g hgn; cases g <;> first | exact (Keeps.out hg (by decide) hgn).elim | with_reducible rfl)
    | (extract_lets +onlyGivenNames s1; refine Keeps.have_ (gs := gs) (o := o0) (t := s1) ?_ (fun h => ?_); (on_goal 1 => subst s1); (on_goal 2 => try clear_value s1))
    | (extract_lets +onlyGivenNames n1; first | (have p : Sys := n1; clear p; subst n1) | (have p : Et := n1; clear p; subst n1) | (have p : Hm := n1; clear p; subst n1) | (have p : Opt := n1; clear p; subst n1) | (have p : Xg := n1; clear p; subst n1) | (have p : Sns := n1; clear p; subst n1) | (have p : Ev := n1; clear p; subst n1) | clear_value n1)
    | (with_reducible refine Keeps.foldl (fun t x h => ?_) ?_)
    | with_reducible apply Keeps.modOp_keeps
    | (simp -zeta only [Keeps.mark]; with_reducible refine KeepsLit.intro rfl ?_ ?_ ?_)
    | (with_reducible refine Keeps.ite ?_ ?_)
    | split

theorem Keeps.cmdFwUpdate_keeps {gs : List Group} (hg : [.mbx, .cfg] ⊆ gs) {o0 s : State} (h0 : Keeps gs o0 s) (q : Req) : KeepsRes gs o0 (cmdFwUpdate q s) := by
  unfold cmdFwUpdate
  repeat' first
    | with_reducible assumption
    | with_reducible exact List.Subset.trans (by decide) hg
    | with_reducible exact Regular.keep rfl
    | (intro g hgn; cases g <;> first | exact (Keeps.out hg (by decide) hgn).elim | with_reducible rfl)
    | (extract_lets +onlyGivenNames s1; refine KeepsRes.have_ (gs := gs) (o := o0) (r := s1) ?_ (fun h => ?_); (on_goal 1 => subst s1); (on_goal 2 => try clear_value s1))
    | (extract_lets +onlyGivenNames f1; (first | (refine Keeps.fun1 f1 ?_) | (refine Keeps.fun2 f1 ?_) | (refine Keeps.fun3 f1 ?_) | (refine KeepsRes.fun1 f1 ?_)); subst f1; beta_reduce)
    | (extract_lets +onlyGivenNames s1; refine Keeps.have_ (gs := gs) (o := o0) (t := s1) ?_ (fun h => ?_); (on_goal 1 => subst s1); (on_goal 2 => try clear_value s1))
    | (extract_lets +onlyGivenNames n1; first | (have p : Sys := n1; clear p; subst n1) | (have p : Et := n1; clear p; subst n1) | (have p : Hm := n1; clear p; subst n1) | (have p : Opt := n1; clear p; subst n1) | (have p : Xg := n1; clear p; subst n1) | (have p : Sns := n1; clear p; subst n1) | (have p : Ev := n1; clear p; subst n1) | clear_value n1)
    | (with_reducible refine Keeps.foldl (fun t x h => ?_) ?_)
    | (with_reducible refine KeepsRes.done ?_)
    | (with_reducible refine KeepsRes.wait ?_)
    | (with_reducible refine KeepsRes.refuse ?_)
    | with_reducible apply Keeps.fwStaged_keeps
    | (with_reducible refine Keeps.startOp_keeps ?_ ?_ _ _ _ (fun i t h => ?_))
    | with_reducible apply Keeps.refuse_keeps
    | (simp -zeta only [Keeps.mark]; with_reducible refine KeepsLit.intro rfl ?_ ?_ ?_)
    | (with_reducible refine Keeps.ite ?_ ?_)
    | split

theorem Keeps.execFwUpdate_keeps {gs : List Group} (hg : [.mbx, .cfg] ⊆ gs) {o0 s : State} (h0 : Keeps gs o0 s) (q : Req) : KeepsOut gs o0 (execFwUpdate q s) := by
  unfold execFwUpdate
  repeat' first
    | with_reducible assumption
    | with_reducible exact List.Subset.trans (by decide) hg
    | with_reducible exact Regular.keep rfl
    | (intro g hgn; cases g <;> first | exact (Keeps.out hg (by decide) hgn).elim | with_reducible rfl)
    | (extract_lets +onlyGivenNames s1; refine Keeps.have_ (gs := gs) (o := o0) (t := s1) ?_ (fun h => ?_); (on_goal 1 => subst s1); (on_goal 2 => try clear_value s1))
    | (extract_lets +onlyGivenNames n1; first | (have p : Sys := n1; clear p; subst n1) | (have p : Et := n1; clear p; subst n1) | (have p : Hm := n1; clear p; subst n1) | (have p : Opt := n1; clear p; subst n1) | (have p : Xg := n1; clear p; subst n1) | (have p : Sns := n1; clear p; subst n1) | (have p : Ev := n1; clear p; subst n1) | clear_value n1)
    | (with_reducible refine Keeps.foldl (fun t x h => ?_) ?_)
    | (with_reducible refine KeepsOut.next ?_)
    | (with_reducible refine Keeps.submit_keeps ?_ ?_ _ _ (fun q t h => ?_) _)
    | with_reducible apply Keeps.cmdFwUpdate_keeps
    | (simp -zeta only [Keeps.mark]; with_reducible refine KeepsLit.intro rfl ?_ ?_ ?_)
    | split

theorem Keeps.execFwUpdateHoldEntry_keeps {gs : List Group} (hg : [.sys, .ctl, .mbx, .reg, .hm, .et, .xg, .cal, .sns, .cfg, .die, .ev] ⊆ gs) {o0 s : State} (h0 : Keeps gs o0 s) : KeepsOut gs o0 (execFwUpdateHoldEntry s) := by
  unfold execFwUpdateHoldEntry
  repeat' first
    | with_reducible assumption
    | with_reducible exact List.Subset.trans (by decide) hg
    | with_reducible exact Regular.keep rfl
    | (intro g hgn; cases g <;> first | exact (Keeps.out hg (by decide) hgn).elim | with_reducible rfl)
    | (extract_lets +onlyGivenNames s1; refine Keeps.have_ (gs := gs) (o := o0) (t := s1) ?_ (fun h => ?_); (on_goal 1 => subst s1); (on_goal 2 => try clear_value s1))
    | (extract_lets +onlyGivenNames n1; first | (have p : Sys := n1; clear p; subst n1) | (have p : Et := n1; clear p; subst n1) | (have p : Hm := n1; clear p; subst n1) | (have p : Opt := n1; clear p; subst n1) | (have p : Xg := n1; clear p; subst n1) | (have p : Sns := n1; clear p; subst n1) | (have p : Ev := n1; clear p; subst n1) | clear_value n1)
    | (with_reducible refine Keeps.foldl (fun t x h => ?_) ?_)
    | (with_reducible refine KeepsOut.next ?_)
    | with_reducible apply Keeps.enterHold_keeps
    | with_reducible apply Keeps.modCtrl_keeps
    | with_reducible apply Keeps.modOp_keeps
    | with_reducible apply Keeps.promote_keeps
    | (simp -zeta only [Keeps.mark]; with_reducible refine KeepsLit.intro rfl ?_ ?_ ?_)
    | (with_reducible refine Keeps.ite ?_ ?_)
    | split
    | omega

theorem Keeps.execFwRollback_keeps {gs : List Group} (hg : [.sys, .ctl, .mbx, .reg, .hm, .et, .xg, .cal, .sns, .cfg, .die, .ev] ⊆ gs) {o0 s : State} (h0 : Keeps gs o0 s) (why : RollbackWhy) : KeepsOut gs o0 (execFwRollback why s) := by
  unfold execFwRollback
  repeat' first
    | with_reducible assumption
    | with_reducible exact List.Subset.trans (by decide) hg
    | with_reducible exact Regular.keep rfl
    | (intro g hgn; cases g <;> first | exact (Keeps.out hg (by decide) hgn).elim | with_reducible rfl)
    | (extract_lets +onlyGivenNames s1; refine Keeps.have_ (gs := gs) (o := o0) (t := s1) ?_ (fun h => ?_); (on_goal 1 => subst s1); (on_goal 2 => try clear_value s1))
    | (extract_lets +onlyGivenNames n1; first | (have p : Sys := n1; clear p; subst n1) | (have p : Et := n1; clear p; subst n1) | (have p : Hm := n1; clear p; subst n1) | (have p : Opt := n1; clear p; subst n1) | (have p : Xg := n1; clear p; subst n1) | (have p : Sns := n1; clear p; subst n1) | (have p : Ev := n1; clear p; subst n1) | clear_value n1)
    | (with_reducible refine Keeps.foldl (fun t x h => ?_) ?_)
    | (with_reducible refine KeepsOut.next ?_)
    | with_reducible apply Keeps.faultNoted_keeps
    | with_reducible apply Keeps.rollback_keeps
    | (simp -zeta only [Keeps.mark]; with_reducible refine KeepsLit.intro rfl ?_ ?_ ?_)
    | (with_reducible refine Keeps.ite ?_ ?_)
    | split

theorem Keeps.cmdCtrlHalt_keeps {gs : List Group} (hg : [.sys, .ctl, .mbx, .reg, .hm, .et, .xg, .cal, .sns, .cfg, .die, .ev] ⊆ gs) {o0 s : State} (h0 : Keeps gs o0 s) (q0 : Req) : KeepsRes gs o0 (cmdCtrlHalt q0 s) := by
  unfold cmdCtrlHalt
  repeat' first
    | with_reducible assumption
    | with_reducible exact List.Subset.trans (by decide) hg
    | with_reducible exact Regular.keep rfl
    | (intro g hgn; cases g <;> first | exact (Keeps.out hg (by decide) hgn).elim | with_reducible rfl)
    | (extract_lets +onlyGivenNames s1; refine KeepsRes.have_ (gs := gs) (o := o0) (r := s1) ?_ (fun h => ?_); (on_goal 1 => subst s1); (on_goal 2 => try clear_value s1))
    | (extract_lets +onlyGivenNames s1; refine Keeps.have_ (gs := gs) (o := o0) (t := s1) ?_ (fun h => ?_); (on_goal 1 => subst s1); (on_goal 2 => try clear_value s1))
    | (extract_lets +onlyGivenNames n1; first | (have p : Sys := n1; clear p; subst n1) | (have p : Et := n1; clear p; subst n1) | (have p : Hm := n1; clear p; subst n1) | (have p : Opt := n1; clear p; subst n1) | (have p : Xg := n1; clear p; subst n1) | (have p : Sns := n1; clear p; subst n1) | (have p : Ev := n1; clear p; subst n1) | clear_value n1)
    | (with_reducible refine Keeps.foldl (fun t x h => ?_) ?_)
    | (with_reducible refine KeepsRes.done ?_)
    | (with_reducible refine KeepsRes.wait ?_)
    | (with_reducible refine KeepsRes.refuse ?_)
    | with_reducible apply Keeps.enterHold_keeps
    | with_reducible apply Keeps.modCtrl_keeps
    | with_reducible apply Keeps.refuse_keeps
    | (simp -zeta only [Keeps.mark]; with_reducible refine KeepsLit.intro rfl ?_ ?_ ?_)
    | split
    | omega

theorem Keeps.execCtrlHalt_keeps {gs : List Group} (hg : [.sys, .ctl, .mbx, .reg, .hm, .et, .xg, .cal, .sns, .cfg, .die, .ev] ⊆ gs) {o0 s : State} (h0 : Keeps gs o0 s) (q : Req) : KeepsOut gs o0 (execCtrlHalt q s) := by
  unfold execCtrlHalt
  repeat' first
    | with_reducible assumption
    | with_reducible exact List.Subset.trans (by decide) hg
    | with_reducible exact Regular.keep rfl
    | (intro g hgn; cases g <;> first | exact (Keeps.out hg (by decide) hgn).elim | with_reducible rfl)
    | (extract_lets +onlyGivenNames s1; refine Keeps.have_ (gs := gs) (o := o0) (t := s1) ?_ (fun h => ?_); (on_goal 1 => subst s1); (on_goal 2 => try clear_value s1))
    | (extract_lets +onlyGivenNames n1; first | (have p : Sys := n1; clear p; subst n1) | (have p : Et := n1; clear p; subst n1) | (have p : Hm := n1; clear p; subst n1) | (have p : Opt := n1; clear p; subst n1) | (have p : Xg := n1; clear p; subst n1) | (have p : Sns := n1; clear p; subst n1) | (have p : Ev := n1; clear p; subst n1) | clear_value n1)
    | (with_reducible refine Keeps.foldl (fun t x h => ?_) ?_)
    | (with_reducible refine KeepsOut.next ?_)
    | (with_reducible refine Keeps.submit_keeps ?_ ?_ _ _ (fun q t h => ?_) _)
    | with_reducible apply Keeps.cmdCtrlHalt_keeps
    | (simp -zeta only [Keeps.mark]; with_reducible refine KeepsLit.intro rfl ?_ ?_ ?_)
    | split

theorem Keeps.cmdCtrlResume_keeps {gs : List Group} (hg : [.ctl] ⊆ gs) {o0 s : State} (h0 : Keeps gs o0 s) (q0 : Req) : KeepsRes gs o0 (cmdCtrlResume q0 s) := by
  unfold cmdCtrlResume
  repeat' first
    | with_reducible assumption
    | with_reducible exact List.Subset.trans (by decide) hg
    | with_reducible exact Regular.keep rfl
    | (intro g hgn; cases g <;> first | exact (Keeps.out hg (by decide) hgn).elim | with_reducible rfl)
    | (extract_lets +onlyGivenNames s1; refine KeepsRes.have_ (gs := gs) (o := o0) (r := s1) ?_ (fun h => ?_); (on_goal 1 => subst s1); (on_goal 2 => try clear_value s1))
    | (extract_lets +onlyGivenNames s1; refine Keeps.have_ (gs := gs) (o := o0) (t := s1) ?_ (fun h => ?_); (on_goal 1 => subst s1); (on_goal 2 => try clear_value s1))
    | (extract_lets +onlyGivenNames n1; first | (have p : Sys := n1; clear p; subst n1) | (have p : Et := n1; clear p; subst n1) | (have p : Hm := n1; clear p; subst n1) | (have p : Opt := n1; clear p; subst n1) | (have p : Xg := n1; clear p; subst n1) | (have p : Sns := n1; clear p; subst n1) | (have p : Ev := n1; clear p; subst n1) | clear_value n1)
    | (with_reducible refine Keeps.foldl (fun t x h => ?_) ?_)
    | (with_reducible refine KeepsRes.done ?_)
    | (with_reducible refine KeepsRes.wait ?_)
    | (with_reducible refine KeepsRes.refuse ?_)
    | with_reducible apply Keeps.modCtrl_keeps
    | with_reducible apply Keeps.refuse_keeps
    | (simp -zeta only [Keeps.mark]; with_reducible refine KeepsLit.intro rfl ?_ ?_ ?_)
    | split

theorem Keeps.execCtrlResume_keeps {gs : List Group} (hg : [.ctl, .mbx] ⊆ gs) {o0 s : State} (h0 : Keeps gs o0 s) (q : Req) : KeepsOut gs o0 (execCtrlResume q s) := by
  unfold execCtrlResume
  repeat' first
    | with_reducible assumption
    | with_reducible exact List.Subset.trans (by decide) hg
    | with_reducible exact Regular.keep rfl
    | (intro g hgn; cases g <;> first | exact (Keeps.out hg (by decide) hgn).elim | with_reducible rfl)
    | (extract_lets +onlyGivenNames s1; refine Keeps.have_ (gs := gs) (o := o0) (t := s1) ?_ (fun h => ?_); (on_goal 1 => subst s1); (on_goal 2 => try clear_value s1))
    | (extract_lets +onlyGivenNames n1; first | (have p : Sys := n1; clear p; subst n1) | (have p : Et := n1; clear p; subst n1) | (have p : Hm := n1; clear p; subst n1) | (have p : Opt := n1; clear p; subst n1) | (have p : Xg := n1; clear p; subst n1) | (have p : Sns := n1; clear p; subst n1) | (have p : Ev := n1; clear p; subst n1) | clear_value n1)
    | (with_reducible refine Keeps.foldl (fun t x h => ?_) ?_)
    | (with_reducible refine KeepsOut.next ?_)
    | (with_reducible refine Keeps.submit_keeps ?_ ?_ _ _ (fun q t h => ?_) _)
    | with_reducible apply Keeps.cmdCtrlResume_keeps
    | (simp -zeta only [Keeps.mark]; with_reducible refine KeepsLit.intro rfl ?_ ?_ ?_)
    | split

theorem Keeps.cmdCtrlRestart_keeps {gs : List Group} (hg : [.ctl, .reg, .ls, .xg] ⊆ gs) {o0 s : State} (h0 : Keeps gs o0 s) (q : Req) : KeepsRes gs o0 (cmdCtrlRestart q s) := by
  unfold cmdCtrlRestart
  repeat' first
    | with_reducible assumption
    | with_reducible exact List.Subset.trans (by decide) hg
    | with_reducible exact Regular.keep rfl
    | (intro g hgn; cases g <;> first | exact (Keeps.out hg (by decide) hgn).elim | with_reducible rfl)
    | (extract_lets +onlyGivenNames s1; refine KeepsRes.have_ (gs := gs) (o := o0) (r := s1) ?_ (fun h => ?_); (on_goal 1 => subst s1); (on_goal 2 => try clear_value s1))
    | (extract_lets +onlyGivenNames s1; refine Keeps.have_ (gs := gs) (o := o0) (t := s1) ?_ (fun h => ?_); (on_goal 1 => subst s1); (on_goal 2 => try clear_value s1))
    | (extract_lets +onlyGivenNames n1; first | (have p : Sys := n1; clear p; subst n1) | (have p : Et := n1; clear p; subst n1) | (have p : Hm := n1; clear p; subst n1) | (have p : Opt := n1; clear p; subst n1) | (have p : Xg := n1; clear p; subst n1) | (have p : Sns := n1; clear p; subst n1) | (have p : Ev := n1; clear p; subst n1) | clear_value n1)
    | (with_reducible refine Keeps.foldl (fun t x h => ?_) ?_)
    | (with_reducible refine KeepsRes.done ?_)
    | (with_reducible refine KeepsRes.wait ?_)
    | (with_reducible refine KeepsRes.refuse ?_)
    | with_reducible apply Keeps.modCtrl_keeps
    | with_reducible apply Keeps.tear_keeps
    | with_reducible apply Keeps.refuse_keeps
    | (simp -zeta only [Keeps.mark]; with_reducible refine KeepsLit.intro rfl ?_ ?_ ?_)
    | (with_reducible refine Keeps.ite ?_ ?_)
    | split

theorem Keeps.execCtrlRestart_keeps {gs : List Group} (hg : [.ctl, .mbx, .reg, .ls, .xg] ⊆ gs) {o0 s : State} (h0 : Keeps gs o0 s) (q : Req) : KeepsOut gs o0 (execCtrlRestart q s) := by
  unfold execCtrlRestart
  repeat' first
    | with_reducible assumption
    | with_reducible exact List.Subset.trans (by decide) hg
    | with_reducible exact Regular.keep rfl
    | (intro g hgn; cases g <;> first | exact (Keeps.out hg (by decide) hgn).elim | with_reducible rfl)
    | (extract_lets +onlyGivenNames s1; refine Keeps.have_ (gs := gs) (o := o0) (t := s1) ?_ (fun h => ?_); (on_goal 1 => subst s1); (on_goal 2 => try clear_value s1))
    | (extract_lets +onlyGivenNames n1; first | (have p : Sys := n1; clear p; subst n1) | (have p : Et := n1; clear p; subst n1) | (have p : Hm := n1; clear p; subst n1) | (have p : Opt := n1; clear p; subst n1) | (have p : Xg := n1; clear p; subst n1) | (have p : Sns := n1; clear p; subst n1) | (have p : Ev := n1; clear p; subst n1) | clear_value n1)
    | (with_reducible refine Keeps.foldl (fun t x h => ?_) ?_)
    | (with_reducible refine KeepsOut.next ?_)
    | (with_reducible refine Keeps.submit_keeps ?_ ?_ _ _ (fun q t h => ?_) _)
    | with_reducible apply Keeps.cmdCtrlRestart_keeps
    | (simp -zeta only [Keeps.mark]; with_reducible refine KeepsLit.intro rfl ?_ ?_ ?_)
    | split

theorem Keeps.dropStaged_keeps {gs : List Group} (hg : [.hm, .cfg] ⊆ gs) {o0 s : State} (h0 : Keeps gs o0 s) (i : Nat) (o : LongOp) : Keeps gs o0 (State.dropStaged s i o) := by
  unfold State.dropStaged
  repeat' first
    | with_reducible assumption
    | with_reducible exact List.Subset.trans (by decide) hg
    | with_reducible exact Regular.keep rfl
    | (intro g hgn; cases g <;> first | exact (Keeps.out hg (by decide) hgn).elim | with_reducible rfl)
    | (extract_lets +onlyGivenNames s1; refine Keeps.have_ (gs := gs) (o := o0) (t := s1) ?_ (fun h => ?_); (on_goal 1 => subst s1); (on_goal 2 => try clear_value s1))
    | (extract_lets +onlyGivenNames n1; first | (have p : Sys := n1; clear p; subst n1) | (have p : Et := n1; clear p; subst n1) | (have p : Hm := n1; clear p; subst n1) | (have p : Opt := n1; clear p; subst n1) | (have p : Xg := n1; clear p; subst n1) | (have p : Sns := n1; clear p; subst n1) | (have p : Ev := n1; clear p; subst n1) | clear_value n1)
    | (with_reducible refine Keeps.foldl (fun t x h => ?_) ?_)
    | (simp -zeta only [Keeps.mark]; with_reducible refine KeepsLit.intro rfl ?_ ?_ ?_)
    | (with_reducible refine Keeps.ite ?_ ?_)
    | split

theorem Keeps.cmdOpSuspend_keeps {gs : List Group} (hg : [.mbx] ⊆ gs) {o0 s : State} (h0 : Keeps gs o0 s) (q : Req) : KeepsRes gs o0 (cmdOpSuspend q s) := by
  unfold cmdOpSuspend
  repeat' first
    | with_reducible assumption
    | with_reducible exact List.Subset.trans (by decide) hg
    | with_reducible exact Regular.keep rfl
    | (intro g hgn; cases g <;> first | exact (Keeps.out hg (by decide) hgn).elim | with_reducible rfl)
    | (extract_lets +onlyGivenNames s1; refine KeepsRes.have_ (gs := gs) (o := o0) (r := s1) ?_ (fun h => ?_); (on_goal 1 => subst s1); (on_goal 2 => try clear_value s1))
    | (extract_lets +onlyGivenNames f1; (first | (refine Keeps.fun1 f1 ?_) | (refine Keeps.fun2 f1 ?_) | (refine Keeps.fun3 f1 ?_) | (refine KeepsRes.fun1 f1 ?_)); subst f1; beta_reduce)
    | (extract_lets +onlyGivenNames s1; refine Keeps.have_ (gs := gs) (o := o0) (t := s1) ?_ (fun h => ?_); (on_goal 1 => subst s1); (on_goal 2 => try clear_value s1))
    | (extract_lets +onlyGivenNames n1; first | (have p : Sys := n1; clear p; subst n1) | (have p : Et := n1; clear p; subst n1) | (have p : Hm := n1; clear p; subst n1) | (have p : Opt := n1; clear p; subst n1) | (have p : Xg := n1; clear p; subst n1) | (have p : Sns := n1; clear p; subst n1) | (have p : Ev := n1; clear p; subst n1) | clear_value n1)
    | (with_reducible refine Keeps.foldl (fun t x h => ?_) ?_)
    | (with_reducible refine KeepsRes.done ?_)
    | (with_reducible refine KeepsRes.wait ?_)
    | (with_reducible refine KeepsRes.refuse ?_)
    | with_reducible apply Keeps.calOpEnd_keeps
    | with_reducible apply Keeps.modOp_keeps
    | with_reducible apply Keeps.refuse_keeps
    | (simp -zeta only [Keeps.mark]; with_reducible refine KeepsLit.intro rfl ?_ ?_ ?_)
    | (with_reducible refine Keeps.ite ?_ ?_)
    | split

theorem Keeps.execOpSuspend_keeps {gs : List Group} (hg : [.mbx] ⊆ gs) {o0 s : State} (h0 : Keeps gs o0 s) (q : Req) : KeepsOut gs o0 (execOpSuspend q s) := by
  unfold execOpSuspend
  repeat' first
    | with_reducible assumption
    | with_reducible exact List.Subset.trans (by decide) hg
    | with_reducible exact Regular.keep rfl
    | (intro g hgn; cases g <;> first | exact (Keeps.out hg (by decide) hgn).elim | with_reducible rfl)
    | (extract_lets +onlyGivenNames s1; refine Keeps.have_ (gs := gs) (o := o0) (t := s1) ?_ (fun h => ?_); (on_goal 1 => subst s1); (on_goal 2 => try clear_value s1))
    | (extract_lets +onlyGivenNames n1; first | (have p : Sys := n1; clear p; subst n1) | (have p : Et := n1; clear p; subst n1) | (have p : Hm := n1; clear p; subst n1) | (have p : Opt := n1; clear p; subst n1) | (have p : Xg := n1; clear p; subst n1) | (have p : Sns := n1; clear p; subst n1) | (have p : Ev := n1; clear p; subst n1) | clear_value n1)
    | (with_reducible refine Keeps.foldl (fun t x h => ?_) ?_)
    | (with_reducible refine KeepsOut.next ?_)
    | (with_reducible refine Keeps.submit_keeps ?_ ?_ _ _ (fun q t h => ?_) _)
    | with_reducible apply Keeps.cmdOpSuspend_keeps
    | (simp -zeta only [Keeps.mark]; with_reducible refine KeepsLit.intro rfl ?_ ?_ ?_)
    | split

theorem Keeps.resume_keeps {gs : List Group} (hg : [.mbx, .hm, .cfg] ⊆ gs) {o0 s : State} (h0 : Keeps gs o0 s) (i : Nat) (o : LongOp) : Keeps gs o0 (State.resume s i o) := by
  unfold State.resume
  repeat' first
    | with_reducible assumption
    | with_reducible exact List.Subset.trans (by decide) hg
    | with_reducible exact Regular.keep rfl
    | (intro g hgn; cases g <;> first | exact (Keeps.out hg (by decide) hgn).elim | with_reducible rfl)
    | (extract_lets +onlyGivenNames f1; (first | (refine Keeps.fun1 f1 ?_) | (refine Keeps.fun2 f1 ?_) | (refine Keeps.fun3 f1 ?_) | (refine KeepsRes.fun1 f1 ?_)); subst f1; beta_reduce)
    | (extract_lets +onlyGivenNames s1; refine Keeps.have_ (gs := gs) (o := o0) (t := s1) ?_ (fun h => ?_); (on_goal 1 => subst s1); (on_goal 2 => try clear_value s1))
    | (extract_lets +onlyGivenNames n1; first | (have p : Sys := n1; clear p; subst n1) | (have p : Et := n1; clear p; subst n1) | (have p : Hm := n1; clear p; subst n1) | (have p : Opt := n1; clear p; subst n1) | (have p : Xg := n1; clear p; subst n1) | (have p : Sns := n1; clear p; subst n1) | (have p : Ev := n1; clear p; subst n1) | clear_value n1)
    | (with_reducible refine Keeps.foldl (fun t x h => ?_) ?_)
    | (with_reducible refine Keeps.foldl2 (fun t x h => ?_) ?_)
    | (with_reducible refine Keeps.foldl1 (fun t x h => ?_) ?_)
    | with_reducible apply Keeps.modOp_keeps
    | with_reducible apply Keeps.refence_keeps
    | (simp -zeta only [Keeps.mark]; with_reducible refine KeepsLit.intro rfl ?_ ?_ ?_)
    | (with_reducible refine Keeps.ite ?_ ?_)
    | split

theorem Keeps.cmdOpResume_keeps {gs : List Group} (hg : [.mbx, .hm, .cfg] ⊆ gs) {o0 s : State} (h0 : Keeps gs o0 s) (q : Req) : KeepsRes gs o0 (cmdOpResume q s) := by
  unfold cmdOpResume
  repeat' first
    | with_reducible assumption
    | with_reducible exact List.Subset.trans (by decide) hg
    | with_reducible exact Regular.keep rfl
    | (intro g hgn; cases g <;> first | exact (Keeps.out hg (by decide) hgn).elim | with_reducible rfl)
    | (extract_lets +onlyGivenNames s1; refine KeepsRes.have_ (gs := gs) (o := o0) (r := s1) ?_ (fun h => ?_); (on_goal 1 => subst s1); (on_goal 2 => try clear_value s1))
    | (extract_lets +onlyGivenNames s1; refine Keeps.have_ (gs := gs) (o := o0) (t := s1) ?_ (fun h => ?_); (on_goal 1 => subst s1); (on_goal 2 => try clear_value s1))
    | (extract_lets +onlyGivenNames n1; first | (have p : Sys := n1; clear p; subst n1) | (have p : Et := n1; clear p; subst n1) | (have p : Hm := n1; clear p; subst n1) | (have p : Opt := n1; clear p; subst n1) | (have p : Xg := n1; clear p; subst n1) | (have p : Sns := n1; clear p; subst n1) | (have p : Ev := n1; clear p; subst n1) | clear_value n1)
    | (with_reducible refine Keeps.foldl (fun t x h => ?_) ?_)
    | (with_reducible refine KeepsRes.done ?_)
    | (with_reducible refine KeepsRes.wait ?_)
    | (with_reducible refine KeepsRes.refuse ?_)
    | with_reducible apply Keeps.modOp_keeps
    | with_reducible apply Keeps.resume_keeps
    | with_reducible apply Keeps.refuse_keeps
    | (simp -zeta only [Keeps.mark]; with_reducible refine KeepsLit.intro rfl ?_ ?_ ?_)
    | split

theorem Keeps.execOpResume_keeps {gs : List Group} (hg : [.mbx, .hm, .cfg] ⊆ gs) {o0 s : State} (h0 : Keeps gs o0 s) (q : Req) : KeepsOut gs o0 (execOpResume q s) := by
  unfold execOpResume
  repeat' first
    | with_reducible assumption
    | with_reducible exact List.Subset.trans (by decide) hg
    | with_reducible exact Regular.keep rfl
    | (intro g hgn; cases g <;> first | exact (Keeps.out hg (by decide) hgn).elim | with_reducible rfl)
    | (extract_lets +onlyGivenNames s1; refine Keeps.have_ (gs := gs) (o := o0) (t := s1) ?_ (fun h => ?_); (on_goal 1 => subst s1); (on_goal 2 => try clear_value s1))
    | (extract_lets +onlyGivenNames n1; first | (have p : Sys := n1; clear p; subst n1) | (have p : Et := n1; clear p; subst n1) | (have p : Hm := n1; clear p; subst n1) | (have p : Opt := n1; clear p; subst n1) | (have p : Xg := n1; clear p; subst n1) | (have p : Sns := n1; clear p; subst n1) | (have p : Ev := n1; clear p; subst n1) | clear_value n1)
    | (with_reducible refine Keeps.foldl (fun t x h => ?_) ?_)
    | (with_reducible refine KeepsOut.next ?_)
    | (with_reducible refine Keeps.submit_keeps ?_ ?_ _ _ (fun q t h => ?_) _)
    | with_reducible apply Keeps.cmdOpResume_keeps
    | (simp -zeta only [Keeps.mark]; with_reducible refine KeepsLit.intro rfl ?_ ?_ ?_)
    | split

theorem Keeps.calDrop_keeps {gs : List Group} (hg : [.reg, .cal] ⊆ gs) {o0 s : State} (h0 : Keeps gs o0 s) (r : RegionNo) : Keeps gs o0 (State.calDrop s r) := by
  unfold State.calDrop
  repeat' first
    | with_reducible assumption
    | with_reducible exact List.Subset.trans (by decide) hg
    | with_reducible exact Regular.keep rfl
    | (intro g hgn; cases g <;> first | exact (Keeps.out hg (by decide) hgn).elim | with_reducible rfl)
    | (extract_lets +onlyGivenNames s1; refine Keeps.have_ (gs := gs) (o := o0) (t := s1) ?_ (fun h => ?_); (on_goal 1 => subst s1); (on_goal 2 => try clear_value s1))
    | (extract_lets +onlyGivenNames n1; first | (have p : Sys := n1; clear p; subst n1) | (have p : Et := n1; clear p; subst n1) | (have p : Hm := n1; clear p; subst n1) | (have p : Opt := n1; clear p; subst n1) | (have p : Xg := n1; clear p; subst n1) | (have p : Sns := n1; clear p; subst n1) | (have p : Ev := n1; clear p; subst n1) | clear_value n1)
    | (with_reducible refine Keeps.foldl (fun t x h => ?_) ?_)
    | with_reducible apply Keeps.calPause_keeps
    | with_reducible apply Keeps.modRgn_keeps
    | with_reducible apply Keeps.swapDrop_keeps
    | with_reducible apply Keeps.twinBack_keeps
    | (simp -zeta only [Keeps.mark]; with_reducible refine KeepsLit.intro rfl ?_ ?_ ?_)
    | (with_reducible refine Keeps.ite ?_ ?_)
    | split

theorem Keeps.insUndo_keeps {gs : List Group} (hg : [.opt, .ls, .cal] ⊆ gs) {o0 s : State} (h0 : Keeps gs o0 s) (x : Insertion) : Keeps gs o0 (State.insUndo s x) := by
  unfold State.insUndo
  repeat' first
    | with_reducible assumption
    | with_reducible exact List.Subset.trans (by decide) hg
    | with_reducible exact Regular.keep rfl
    | (intro g hgn; cases g <;> first | exact (Keeps.out hg (by decide) hgn).elim | with_reducible rfl)
    | (extract_lets +onlyGivenNames s1; refine Keeps.have_ (gs := gs) (o := o0) (t := s1) ?_ (fun h => ?_); (on_goal 1 => subst s1); (on_goal 2 => try clear_value s1))
    | (extract_lets +onlyGivenNames n1; first | (have p : Sys := n1; clear p; subst n1) | (have p : Et := n1; clear p; subst n1) | (have p : Hm := n1; clear p; subst n1) | (have p : Opt := n1; clear p; subst n1) | (have p : Xg := n1; clear p; subst n1) | (have p : Sns := n1; clear p; subst n1) | (have p : Ev := n1; clear p; subst n1) | clear_value n1)
    | (with_reducible refine Keeps.foldl (fun t x h => ?_) ?_)
    | with_reducible apply Keeps.letGo_keeps
    | with_reducible apply Keeps.modPort_keeps
    | with_reducible apply Keeps.spareBits_keeps
    | with_reducible apply Keeps.spareFollow_keeps
    | with_reducible apply Keeps.untake_keeps
    | (simp -zeta only [Keeps.mark]; with_reducible refine KeepsLit.intro rfl ?_ ?_ ?_)
    | (with_reducible refine Keeps.ite ?_ ?_)
    | split

theorem Keeps.overlayUndo_keeps {gs : List Group} (hg : [.sys, .cfg] ⊆ gs) {o0 s : State} (h0 : Keeps gs o0 s) (i : Nat) : Keeps gs o0 (State.overlayUndo s i) := by
  unfold State.overlayUndo
  repeat' first
    | with_reducible assumption
    | with_reducible exact List.Subset.trans (by decide) hg
    | with_reducible exact Regular.keep rfl
    | (intro g hgn; cases g <;> first | exact (Keeps.out hg (by decide) hgn).elim | with_reducible rfl)
    | (extract_lets +onlyGivenNames f1; (first | (refine Keeps.fun1 f1 ?_) | (refine Keeps.fun2 f1 ?_) | (refine Keeps.fun3 f1 ?_) | (refine KeepsRes.fun1 f1 ?_)); subst f1; beta_reduce)
    | (extract_lets +onlyGivenNames s1; refine Keeps.have_ (gs := gs) (o := o0) (t := s1) ?_ (fun h => ?_); (on_goal 1 => subst s1); (on_goal 2 => try clear_value s1))
    | (extract_lets +onlyGivenNames n1; first | (have p : Sys := n1; clear p; subst n1) | (have p : Et := n1; clear p; subst n1) | (have p : Hm := n1; clear p; subst n1) | (have p : Opt := n1; clear p; subst n1) | (have p : Xg := n1; clear p; subst n1) | (have p : Sns := n1; clear p; subst n1) | (have p : Ev := n1; clear p; subst n1) | clear_value n1)
    | (with_reducible refine Keeps.foldl (fun t x h => ?_) ?_)
    | with_reducible apply Keeps.callThrottle_keeps
    | with_reducible apply Keeps.toLimp_keeps
    | with_reducible apply Keeps.unfence_keeps
    | (simp -zeta only [Keeps.mark]; with_reducible refine KeepsLit.intro rfl ?_ ?_ ?_)
    | (with_reducible refine KeepsOpt.getD ?_ ?_)
    | (with_reducible refine Keeps.optEq (by assumption) ?_)
    | (with_reducible refine Keeps.pairEq1 (by assumption) ?_)
    | (with_reducible refine Keeps.pairEq2 (by assumption) ?_)
    | (with_reducible refine Keeps.ite ?_ ?_)
    | split

theorem Keeps.calUndo_keeps {gs : List Group} (hg : [.sys, .mbx, .reg, .hm, .opt, .ls, .xg, .cal, .cfg] ⊆ gs) {o0 s : State} (h0 : Keeps gs o0 s) (i : Nat) (o : LongOp) :
    Keeps gs o0 (State.undoOp.calUndo i o s) := by
  unfold State.undoOp.calUndo
  dsimp only
  refine Keeps.calQueue_keeps (List.Subset.trans (by decide) hg) (Keeps.foldl (fun t x h => Keeps.calSync_keeps (List.Subset.trans (by decide) hg) h _) ?_)
  exact Keeps.foldl (fun t x h => Keeps.calDrop_keeps (List.Subset.trans (by decide) hg) h _) (Keeps.modOp_keeps (List.Subset.trans (by decide) hg) h0 _ _)

theorem Keeps.undoOp_keeps {gs : List Group} (hg : [.sys, .mbx, .reg, .hm, .opt, .ls, .xg, .cal, .cfg] ⊆ gs) {o0 s : State} (h0 : Keeps gs o0 s) (i : Nat) (o : LongOp) :
    Keeps gs o0 (State.undoOp s i o) := by
  have sub : ∀ {ts : List Group}, ts ⊆ [.sys, .mbx, .reg, .hm, .opt, .ls, .xg, .cal, .cfg] → ts ⊆ gs := fun h => List.Subset.trans h hg
  unfold State.undoOp
  split
  · exact Keeps.calUndo_keeps hg h0 _ _
  · exact Keeps.calUndo_keeps hg h0 _ _
  · exact Keeps.foldl (fun t x h => Keeps.insUndo_keeps (sub (by decide)) h _) h0
  · dsimp only
    refine (Keeps.fenceAll_keeps (gs := gs) (sub (by decide)) h0 _).trans ⟨⟨?_⟩, Regular.keep rfl⟩
    intro g hgn
    cases g <;> first | exact (Keeps.out hg (by decide) hgn).elim | with_reducible rfl
  · exact Keeps.overlayUndo_keeps (sub (by decide)) h0 _
  · exact Keeps.dropStaged_keeps (sub (by decide)) h0 _ _

theorem Keeps.cmdOpCancel_keeps {gs : List Group} (hg : [.sys, .mbx, .reg, .hm, .opt, .ls, .xg, .cal, .cfg] ⊆ gs) {o0 s : State} (h0 : Keeps gs o0 s) (q : Req) : KeepsRes gs o0 (cmdOpCancel q s) := by
  unfold cmdOpCancel
  repeat' first
    | with_reducible assumption
    | with_reducible exact List.Subset.trans (by decide) hg
    | with_reducible exact Regular.keep rfl
    | (intro g hgn; cases g <;> first | exact (Keeps.out hg (by decide) hgn).elim | with_reducible rfl)
    | (extract_lets +onlyGivenNames s1; refine KeepsRes.have_ (gs := gs) (o := o0) (r := s1) ?_ (fun h => ?_); (on_goal 1 => subst s1); (on_goal 2 => try clear_value s1))
    | (extract_lets +onlyGivenNames s1; refine Keeps.have_ (gs := gs) (o := o0) (t := s1) ?_ (fun h => ?_); (on_goal 1 => subst s1); (on_goal 2 => try clear_value s1))
    | (extract_lets +onlyGivenNames n1; first | (have p : Sys := n1; clear p; subst n1) | (have p : Et := n1; clear p; subst n1) | (have p : Hm := n1; clear p; subst n1) | (have p : Opt := n1; clear p; subst n1) | (have p : Xg := n1; clear p; subst n1) | (have p : Sns := n1; clear p; subst n1) | (have p : Ev := n1; clear p; subst n1) | clear_value n1)
    | (with_reducible refine Keeps.foldl (fun t x h => ?_) ?_)
    | (with_reducible refine KeepsRes.done ?_)
    | (with_reducible refine KeepsRes.wait ?_)
    | (with_reducible refine KeepsRes.refuse ?_)
    | with_reducible apply Keeps.modOp_keeps
    | with_reducible apply Keeps.undoOp_keeps
    | with_reducible apply Keeps.refuse_keeps
    | (simp -zeta only [Keeps.mark]; with_reducible refine KeepsLit.intro rfl ?_ ?_ ?_)
    | (with_reducible refine Keeps.ite ?_ ?_)
    | split

theorem Keeps.execOpCancel_keeps {gs : List Group} (hg : [.sys, .mbx, .reg, .hm, .opt, .ls, .xg, .cal, .cfg] ⊆ gs) {o0 s : State} (h0 : Keeps gs o0 s) (q : Req) : KeepsOut gs o0 (execOpCancel q s) := by
  unfold execOpCancel
  repeat' first
    | with_reducible assumption
    | with_reducible exact List.Subset.trans (by decide) hg
    | with_reducible exact Regular.keep rfl
    | (intro g hgn; cases g <;> first | exact (Keeps.out hg (by decide) hgn).elim | with_reducible rfl)
    | (extract_lets +onlyGivenNames s1; refine Keeps.have_ (gs := gs) (o := o0) (t := s1) ?_ (fun h => ?_); (on_goal 1 => subst s1); (on_goal 2 => try clear_value s1))
    | (extract_lets +onlyGivenNames n1; first | (have p : Sys := n1; clear p; subst n1) | (have p : Et := n1; clear p; subst n1) | (have p : Hm := n1; clear p; subst n1) | (have p : Opt := n1; clear p; subst n1) | (have p : Xg := n1; clear p; subst n1) | (have p : Sns := n1; clear p; subst n1) | (have p : Ev := n1; clear p; subst n1) | clear_value n1)
    | (with_reducible refine Keeps.foldl (fun t x h => ?_) ?_)
    | (with_reducible refine KeepsOut.next ?_)
    | (with_reducible refine Keeps.submit_keeps ?_ ?_ _ _ (fun q t h => ?_) _)
    | with_reducible apply Keeps.cmdOpCancel_keeps
    | (simp -zeta only [Keeps.mark]; with_reducible refine KeepsLit.intro rfl ?_ ?_ ?_)
    | split

theorem Keeps.execLongOpDone_keeps {gs : List Group} (hg : [.mbx] ⊆ gs) {o0 s : State} (h0 : Keeps gs o0 s) (h : Fin 32) : KeepsOut gs o0 (execLongOpDone h s) := by
  unfold execLongOpDone
  repeat' first
    | with_reducible assumption
    | with_reducible exact List.Subset.trans (by decide) hg
    | with_reducible exact Regular.keep rfl
    | (intro g hgn; cases g <;> first | exact (Keeps.out hg (by decide) hgn).elim | with_reducible rfl)
    | (extract_lets +onlyGivenNames s1; refine Keeps.have_ (gs := gs) (o := o0) (t := s1) ?_ (fun h => ?_); (on_goal 1 => subst s1); (on_goal 2 => try clear_value s1))
    | (extract_lets +onlyGivenNames n1; first | (have p : Sys := n1; clear p; subst n1) | (have p : Et := n1; clear p; subst n1) | (have p : Hm := n1; clear p; subst n1) | (have p : Opt := n1; clear p; subst n1) | (have p : Xg := n1; clear p; subst n1) | (have p : Sns := n1; clear p; subst n1) | (have p : Ev := n1; clear p; subst n1) | clear_value n1)
    | (with_reducible refine Keeps.foldl (fun t x h => ?_) ?_)
    | (with_reducible refine KeepsOut.next ?_)
    | with_reducible apply Keeps.finishOp_keeps
    | (simp -zeta only [Keeps.mark]; with_reducible refine KeepsLit.intro rfl ?_ ?_ ?_)
    | (with_reducible refine Keeps.ite ?_ ?_)
    | split

theorem Keeps.cmdOpQuery_keeps {gs : List Group} (hg : [.mbx] ⊆ gs) {o0 s : State} (h0 : Keeps gs o0 s) (q : Req) : KeepsRes gs o0 (cmdOpQuery q s) := by
  unfold cmdOpQuery
  repeat' first
    | with_reducible assumption
    | with_reducible exact List.Subset.trans (by decide) hg
    | with_reducible exact Regular.keep rfl
    | (intro g hgn; cases g <;> first | exact (Keeps.out hg (by decide) hgn).elim | with_reducible rfl)
    | (extract_lets +onlyGivenNames s1; refine KeepsRes.have_ (gs := gs) (o := o0) (r := s1) ?_ (fun h => ?_); (on_goal 1 => subst s1); (on_goal 2 => try clear_value s1))
    | (extract_lets +onlyGivenNames s1; refine Keeps.have_ (gs := gs) (o := o0) (t := s1) ?_ (fun h => ?_); (on_goal 1 => subst s1); (on_goal 2 => try clear_value s1))
    | (extract_lets +onlyGivenNames n1; first | (have p : Sys := n1; clear p; subst n1) | (have p : Et := n1; clear p; subst n1) | (have p : Hm := n1; clear p; subst n1) | (have p : Opt := n1; clear p; subst n1) | (have p : Xg := n1; clear p; subst n1) | (have p : Sns := n1; clear p; subst n1) | (have p : Ev := n1; clear p; subst n1) | clear_value n1)
    | (with_reducible refine Keeps.foldl (fun t x h => ?_) ?_)
    | (with_reducible refine KeepsRes.done ?_)
    | (with_reducible refine KeepsRes.wait ?_)
    | (with_reducible refine KeepsRes.refuse ?_)
    | with_reducible apply Keeps.releaseHandle_keeps
    | with_reducible apply Keeps.refuse_keeps
    | (simp -zeta only [Keeps.mark]; with_reducible refine KeepsLit.intro rfl ?_ ?_ ?_)
    | (with_reducible refine Keeps.ite ?_ ?_)
    | split

theorem Keeps.execOpQuery_keeps {gs : List Group} (hg : [.mbx] ⊆ gs) {o0 s : State} (h0 : Keeps gs o0 s) (q : Req) : KeepsOut gs o0 (execOpQuery q s) := by
  unfold execOpQuery
  repeat' first
    | with_reducible assumption
    | with_reducible exact List.Subset.trans (by decide) hg
    | with_reducible exact Regular.keep rfl
    | (intro g hgn; cases g <;> first | exact (Keeps.out hg (by decide) hgn).elim | with_reducible rfl)
    | (extract_lets +onlyGivenNames s1; refine Keeps.have_ (gs := gs) (o := o0) (t := s1) ?_ (fun h => ?_); (on_goal 1 => subst s1); (on_goal 2 => try clear_value s1))
    | (extract_lets +onlyGivenNames n1; first | (have p : Sys := n1; clear p; subst n1) | (have p : Et := n1; clear p; subst n1) | (have p : Hm := n1; clear p; subst n1) | (have p : Opt := n1; clear p; subst n1) | (have p : Xg := n1; clear p; subst n1) | (have p : Sns := n1; clear p; subst n1) | (have p : Ev := n1; clear p; subst n1) | clear_value n1)
    | (with_reducible refine Keeps.foldl (fun t x h => ?_) ?_)
    | (with_reducible refine KeepsOut.next ?_)
    | (with_reducible refine Keeps.submit_keeps ?_ ?_ _ _ (fun q t h => ?_) _)
    | with_reducible apply Keeps.cmdOpQuery_keeps
    | (simp -zeta only [Keeps.mark]; with_reducible refine KeepsLit.intro rfl ?_ ?_ ?_)
    | split

theorem Keeps.stage_keeps {gs : List Group} (hg : [.mbx, .hm, .cfg] ⊆ gs) {o0 s : State} (h0 : Keeps gs o0 s) (i : Nat) (o : LongOp) (bs : Bytes) : Keeps gs o0 (State.stage s i o bs) := by
  unfold State.stage
  repeat' first
    | with_reducible assumption
    | with_reducible exact List.Subset.trans (by decide) hg
    | with_reducible exact Regular.keep rfl
    | (intro g hgn; cases g <;> first | exact (Keeps.out hg (by decide) hgn).elim | with_reducible rfl)
    | (extract_lets +onlyGivenNames s1; refine Keeps.have_ (gs := gs) (o := o0) (t := s1) ?_ (fun h => ?_); (on_goal 1 => subst s1); (on_goal 2 => try clear_value s1))
    | (extract_lets +onlyGivenNames n1; first | (have p : Sys := n1; clear p; subst n1) | (have p : Et := n1; clear p; subst n1) | (have p : Hm := n1; clear p; subst n1) | (have p : Opt := n1; clear p; subst n1) | (have p : Xg := n1; clear p; subst n1) | (have p : Sns := n1; clear p; subst n1) | (have p : Ev := n1; clear p; subst n1) | clear_value n1)
    | (with_reducible refine Keeps.foldl (fun t x h => ?_) ?_)
    | with_reducible apply Keeps.fwStaged_keeps
    | with_reducible apply Keeps.modOp_keeps
    | with_reducible apply Keeps.modelStaged_keeps
    | with_reducible apply Keeps.overlayStaged_keeps
    | (simp -zeta only [Keeps.mark]; with_reducible refine KeepsLit.intro rfl ?_ ?_ ?_)
    | (with_reducible refine Keeps.ite ?_ ?_)
    | split

theorem Keeps.cmdOpWrite_keeps {gs : List Group} (hg : [.mbx, .hm, .cfg] ⊆ gs) {o0 s : State} (h0 : Keeps gs o0 s) (q : Req) : KeepsRes gs o0 (cmdOpWrite q s) := by
  unfold cmdOpWrite
  repeat' first
    | with_reducible assumption
    | with_reducible exact List.Subset.trans (by decide) hg
    | with_reducible exact Regular.keep rfl
    | (intro g hgn; cases g <;> first | exact (Keeps.out hg (by decide) hgn).elim | with_reducible rfl)
    | (extract_lets +onlyGivenNames s1; refine KeepsRes.have_ (gs := gs) (o := o0) (r := s1) ?_ (fun h => ?_); (on_goal 1 => subst s1); (on_goal 2 => try clear_value s1))
    | (extract_lets +onlyGivenNames s1; refine Keeps.have_ (gs := gs) (o := o0) (t := s1) ?_ (fun h => ?_); (on_goal 1 => subst s1); (on_goal 2 => try clear_value s1))
    | (extract_lets +onlyGivenNames n1; first | (have p : Sys := n1; clear p; subst n1) | (have p : Et := n1; clear p; subst n1) | (have p : Hm := n1; clear p; subst n1) | (have p : Opt := n1; clear p; subst n1) | (have p : Xg := n1; clear p; subst n1) | (have p : Sns := n1; clear p; subst n1) | (have p : Ev := n1; clear p; subst n1) | clear_value n1)
    | (with_reducible refine Keeps.foldl (fun t x h => ?_) ?_)
    | (with_reducible refine KeepsRes.done ?_)
    | (with_reducible refine KeepsRes.wait ?_)
    | (with_reducible refine KeepsRes.refuse ?_)
    | with_reducible apply Keeps.stage_keeps
    | with_reducible apply Keeps.refuse_keeps
    | (simp -zeta only [Keeps.mark]; with_reducible refine KeepsLit.intro rfl ?_ ?_ ?_)
    | (with_reducible refine Keeps.ite ?_ ?_)
    | split

theorem Keeps.execOpWrite_keeps {gs : List Group} (hg : [.mbx, .hm, .cfg] ⊆ gs) {o0 s : State} (h0 : Keeps gs o0 s) (q : Req) : KeepsOut gs o0 (execOpWrite q s) := by
  unfold execOpWrite
  repeat' first
    | with_reducible assumption
    | with_reducible exact List.Subset.trans (by decide) hg
    | with_reducible exact Regular.keep rfl
    | (intro g hgn; cases g <;> first | exact (Keeps.out hg (by decide) hgn).elim | with_reducible rfl)
    | (extract_lets +onlyGivenNames s1; refine Keeps.have_ (gs := gs) (o := o0) (t := s1) ?_ (fun h => ?_); (on_goal 1 => subst s1); (on_goal 2 => try clear_value s1))
    | (extract_lets +onlyGivenNames n1; first | (have p : Sys := n1; clear p; subst n1) | (have p : Et := n1; clear p; subst n1) | (have p : Hm := n1; clear p; subst n1) | (have p : Opt := n1; clear p; subst n1) | (have p : Xg := n1; clear p; subst n1) | (have p : Sns := n1; clear p; subst n1) | (have p : Ev := n1; clear p; subst n1) | clear_value n1)
    | (with_reducible refine Keeps.foldl (fun t x h => ?_) ?_)
    | (with_reducible refine KeepsOut.next ?_)
    | (with_reducible refine Keeps.submit_keeps ?_ ?_ _ _ (fun q t h => ?_) _)
    | with_reducible apply Keeps.cmdOpWrite_keeps
    | (simp -zeta only [Keeps.mark]; with_reducible refine KeepsLit.intro rfl ?_ ?_ ?_)
    | split

theorem Keeps.execOpWriteTimeout_keeps {gs : List Group} (hg : [.mbx, .hm, .cfg] ⊆ gs) {o0 s : State} (h0 : Keeps gs o0 s) (h : Fin 32) : KeepsOut gs o0 (execOpWriteTimeout h s) := by
  unfold execOpWriteTimeout
  repeat' first
    | with_reducible assumption
    | with_reducible exact List.Subset.trans (by decide) hg
    | with_reducible exact Regular.keep rfl
    | (intro g hgn; cases g <;> first | exact (Keeps.out hg (by decide) hgn).elim | with_reducible rfl)
    | (extract_lets +onlyGivenNames s1; refine Keeps.have_ (gs := gs) (o := o0) (t := s1) ?_ (fun h => ?_); (on_goal 1 => subst s1); (on_goal 2 => try clear_value s1))
    | (extract_lets +onlyGivenNames n1; first | (have p : Sys := n1; clear p; subst n1) | (have p : Et := n1; clear p; subst n1) | (have p : Hm := n1; clear p; subst n1) | (have p : Opt := n1; clear p; subst n1) | (have p : Xg := n1; clear p; subst n1) | (have p : Sns := n1; clear p; subst n1) | (have p : Ev := n1; clear p; subst n1) | clear_value n1)
    | (with_reducible refine Keeps.foldl (fun t x h => ?_) ?_)
    | (with_reducible refine KeepsOut.next ?_)
    | with_reducible apply Keeps.dropStaged_keeps
    | with_reducible apply Keeps.finishOp_keeps
    | (simp -zeta only [Keeps.mark]; with_reducible refine KeepsLit.intro rfl ?_ ?_ ?_)
    | (with_reducible refine Keeps.ite ?_ ?_)
    | split

theorem Keeps.execHandleExpired_keeps {gs : List Group} (hg : [.mbx, .ev] ⊆ gs) {o0 s : State} (h0 : Keeps gs o0 s) (h : Fin 32) : KeepsOut gs o0 (execHandleExpired h s) := by
  unfold execHandleExpired
  repeat' first
    | with_reducible assumption
    | with_reducible exact List.Subset.trans (by decide) hg
    | with_reducible exact Regular.keep rfl
    | (intro g hgn; cases g <;> first | exact (Keeps.out hg (by decide) hgn).elim | with_reducible rfl)
    | (extract_lets +onlyGivenNames s1; refine Keeps.have_ (gs := gs) (o := o0) (t := s1) ?_ (fun h => ?_); (on_goal 1 => subst s1); (on_goal 2 => try clear_value s1))
    | (extract_lets +onlyGivenNames n1; first | (have p : Sys := n1; clear p; subst n1) | (have p : Et := n1; clear p; subst n1) | (have p : Hm := n1; clear p; subst n1) | (have p : Opt := n1; clear p; subst n1) | (have p : Xg := n1; clear p; subst n1) | (have p : Sns := n1; clear p; subst n1) | (have p : Ev := n1; clear p; subst n1) | clear_value n1)
    | (with_reducible refine Keeps.foldl (fun t x h => ?_) ?_)
    | (with_reducible refine KeepsOut.next ?_)
    | with_reducible apply Keeps.raise_keeps
    | with_reducible apply Keeps.releaseHandle_keeps
    | (simp -zeta only [Keeps.mark]; with_reducible refine KeepsLit.intro rfl ?_ ?_ ?_)
    | (with_reducible refine Keeps.ite ?_ ?_)
    | split

theorem Keeps.cmdMbxSpillRead_keeps {gs : List Group} (hg : [.mbx] ⊆ gs) {o0 s : State} (h0 : Keeps gs o0 s) (q : Req) : KeepsRes gs o0 (cmdMbxSpillRead q s) := by
  unfold cmdMbxSpillRead
  repeat' first
    | with_reducible assumption
    | with_reducible exact List.Subset.trans (by decide) hg
    | with_reducible exact Regular.keep rfl
    | (intro g hgn; cases g <;> first | exact (Keeps.out hg (by decide) hgn).elim | with_reducible rfl)
    | (extract_lets +onlyGivenNames s1; refine KeepsRes.have_ (gs := gs) (o := o0) (r := s1) ?_ (fun h => ?_); (on_goal 1 => subst s1); (on_goal 2 => try clear_value s1))
    | (extract_lets +onlyGivenNames s1; refine Keeps.have_ (gs := gs) (o := o0) (t := s1) ?_ (fun h => ?_); (on_goal 1 => subst s1); (on_goal 2 => try clear_value s1))
    | (extract_lets +onlyGivenNames n1; first | (have p : Sys := n1; clear p; subst n1) | (have p : Et := n1; clear p; subst n1) | (have p : Hm := n1; clear p; subst n1) | (have p : Opt := n1; clear p; subst n1) | (have p : Xg := n1; clear p; subst n1) | (have p : Sns := n1; clear p; subst n1) | (have p : Ev := n1; clear p; subst n1) | clear_value n1)
    | (with_reducible refine Keeps.foldl (fun t x h => ?_) ?_)
    | (with_reducible refine KeepsRes.done ?_)
    | (with_reducible refine KeepsRes.wait ?_)
    | (with_reducible refine KeepsRes.refuse ?_)
    | with_reducible apply Keeps.modBox_keeps
    | with_reducible apply Keeps.refuse_keeps
    | (simp -zeta only [Keeps.mark]; with_reducible refine KeepsLit.intro rfl ?_ ?_ ?_)
    | (with_reducible refine Keeps.ite ?_ ?_)
    | split

theorem Keeps.execMbxSpillRead_keeps {gs : List Group} (hg : [.mbx] ⊆ gs) {o0 s : State} (h0 : Keeps gs o0 s) (q : Req) : KeepsOut gs o0 (execMbxSpillRead q s) := by
  unfold execMbxSpillRead
  repeat' first
    | with_reducible assumption
    | with_reducible exact List.Subset.trans (by decide) hg
    | with_reducible exact Regular.keep rfl
    | (intro g hgn; cases g <;> first | exact (Keeps.out hg (by decide) hgn).elim | with_reducible rfl)
    | (extract_lets +onlyGivenNames s1; refine Keeps.have_ (gs := gs) (o := o0) (t := s1) ?_ (fun h => ?_); (on_goal 1 => subst s1); (on_goal 2 => try clear_value s1))
    | (extract_lets +onlyGivenNames n1; first | (have p : Sys := n1; clear p; subst n1) | (have p : Et := n1; clear p; subst n1) | (have p : Hm := n1; clear p; subst n1) | (have p : Opt := n1; clear p; subst n1) | (have p : Xg := n1; clear p; subst n1) | (have p : Sns := n1; clear p; subst n1) | (have p : Ev := n1; clear p; subst n1) | clear_value n1)
    | (with_reducible refine Keeps.foldl (fun t x h => ?_) ?_)
    | (with_reducible refine KeepsOut.next ?_)
    | (with_reducible refine Keeps.submit_keeps ?_ ?_ _ _ (fun q t h => ?_) _)
    | with_reducible apply Keeps.cmdMbxSpillRead_keeps
    | (simp -zeta only [Keeps.mark]; with_reducible refine KeepsLit.intro rfl ?_ ?_ ?_)
    | split

theorem Keeps.cmdMbxSpillFree_keeps {gs : List Group} (hg : [.mbx] ⊆ gs) {o0 s : State} (h0 : Keeps gs o0 s) (q : Req) : KeepsRes gs o0 (cmdMbxSpillFree q s) := by
  unfold cmdMbxSpillFree
  repeat' first
    | with_reducible assumption
    | with_reducible exact List.Subset.trans (by decide) hg
    | with_reducible exact Regular.keep rfl
    | (intro g hgn; cases g <;> first | exact (Keeps.out hg (by decide) hgn).elim | with_reducible rfl)
    | (extract_lets +onlyGivenNames s1; refine KeepsRes.have_ (gs := gs) (o := o0) (r := s1) ?_ (fun h => ?_); (on_goal 1 => subst s1); (on_goal 2 => try clear_value s1))
    | (extract_lets +onlyGivenNames s1; refine Keeps.have_ (gs := gs) (o := o0) (t := s1) ?_ (fun h => ?_); (on_goal 1 => subst s1); (on_goal 2 => try clear_value s1))
    | (extract_lets +onlyGivenNames n1; first | (have p : Sys := n1; clear p; subst n1) | (have p : Et := n1; clear p; subst n1) | (have p : Hm := n1; clear p; subst n1) | (have p : Opt := n1; clear p; subst n1) | (have p : Xg := n1; clear p; subst n1) | (have p : Sns := n1; clear p; subst n1) | (have p : Ev := n1; clear p; subst n1) | clear_value n1)
    | (with_reducible refine Keeps.foldl (fun t x h => ?_) ?_)
    | (with_reducible refine KeepsRes.done ?_)
    | (with_reducible refine KeepsRes.wait ?_)
    | (with_reducible refine KeepsRes.refuse ?_)
    | with_reducible apply Keeps.modBox_keeps
    | (simp -zeta only [Keeps.mark]; with_reducible refine KeepsLit.intro rfl ?_ ?_ ?_)
    | split

theorem Keeps.execMbxSpillFree_keeps {gs : List Group} (hg : [.mbx] ⊆ gs) {o0 s : State} (h0 : Keeps gs o0 s) (q : Req) : KeepsOut gs o0 (execMbxSpillFree q s) := by
  unfold execMbxSpillFree
  repeat' first
    | with_reducible assumption
    | with_reducible exact List.Subset.trans (by decide) hg
    | with_reducible exact Regular.keep rfl
    | (intro g hgn; cases g <;> first | exact (Keeps.out hg (by decide) hgn).elim | with_reducible rfl)
    | (extract_lets +onlyGivenNames s1; refine Keeps.have_ (gs := gs) (o := o0) (t := s1) ?_ (fun h => ?_); (on_goal 1 => subst s1); (on_goal 2 => try clear_value s1))
    | (extract_lets +onlyGivenNames n1; first | (have p : Sys := n1; clear p; subst n1) | (have p : Et := n1; clear p; subst n1) | (have p : Hm := n1; clear p; subst n1) | (have p : Opt := n1; clear p; subst n1) | (have p : Xg := n1; clear p; subst n1) | (have p : Sns := n1; clear p; subst n1) | (have p : Ev := n1; clear p; subst n1) | clear_value n1)
    | (with_reducible refine Keeps.foldl (fun t x h => ?_) ?_)
    | (with_reducible refine KeepsOut.next ?_)
    | (with_reducible refine Keeps.submit_keeps ?_ ?_ _ _ (fun q t h => ?_) _)
    | with_reducible apply Keeps.cmdMbxSpillFree_keeps
    | (simp -zeta only [Keeps.mark]; with_reducible refine KeepsLit.intro rfl ?_ ?_ ?_)
    | split

theorem Keeps.execEventRaise_keeps {gs : List Group} (hg : [.ev] ⊆ gs) {o0 s : State} (h0 : Keeps gs o0 s) (id : BitVec 10) (arg : Word) : KeepsOut gs o0 (execEventRaise id arg s) := by
  unfold execEventRaise
  repeat' first
    | with_reducible assumption
    | with_reducible exact List.Subset.trans (by decide) hg
    | with_reducible exact Regular.keep rfl
    | (intro g hgn; cases g <;> first | exact (Keeps.out hg (by decide) hgn).elim | with_reducible rfl)
    | (extract_lets +onlyGivenNames s1; refine Keeps.have_ (gs := gs) (o := o0) (t := s1) ?_ (fun h => ?_); (on_goal 1 => subst s1); (on_goal 2 => try clear_value s1))
    | (extract_lets +onlyGivenNames n1; first | (have p : Sys := n1; clear p; subst n1) | (have p : Et := n1; clear p; subst n1) | (have p : Hm := n1; clear p; subst n1) | (have p : Opt := n1; clear p; subst n1) | (have p : Xg := n1; clear p; subst n1) | (have p : Sns := n1; clear p; subst n1) | (have p : Ev := n1; clear p; subst n1) | clear_value n1)
    | (with_reducible refine Keeps.foldl (fun t x h => ?_) ?_)
    | (with_reducible refine KeepsOut.next ?_)
    | with_reducible apply Keeps.raise_keeps
    | (simp -zeta only [Keeps.mark]; with_reducible refine KeepsLit.intro rfl ?_ ?_ ?_)
    | split

theorem Keeps.execEventLogWrite_keeps {gs : List Group} (hg : [.ctl, .ev] ⊆ gs) {o0 s : State} (h0 : Keeps gs o0 s) : KeepsOut gs o0 (execEventLogWrite s) := by
  unfold execEventLogWrite
  repeat' first
    | with_reducible assumption
    | with_reducible exact List.Subset.trans (by decide) hg
    | exact fun h => { h with queue := (Ev.drain_bounded ⟨h.queue, h.log⟩).queue, log := (Ev.drain_bounded ⟨h.queue, h.log⟩).log }
    | with_reducible exact Regular.keep rfl
    | (intro g hgn; cases g <;> first | exact (Keeps.out hg (by decide) hgn).elim | with_reducible rfl)
    | (extract_lets +onlyGivenNames s1; refine Keeps.have_ (gs := gs) (o := o0) (t := s1) ?_ (fun h => ?_); (on_goal 1 => subst s1); (on_goal 2 => try clear_value s1))
    | (extract_lets +onlyGivenNames n1; first | (have p : Sys := n1; clear p; subst n1) | (have p : Et := n1; clear p; subst n1) | (have p : Hm := n1; clear p; subst n1) | (have p : Opt := n1; clear p; subst n1) | (have p : Xg := n1; clear p; subst n1) | (have p : Sns := n1; clear p; subst n1) | (have p : Ev := n1; clear p; subst n1) | clear_value n1)
    | (with_reducible refine Keeps.foldl (fun t x h => ?_) ?_)
    | (with_reducible refine KeepsOut.next ?_)
    | (simp -zeta only [Keeps.mark]; with_reducible refine KeepsLit.intro rfl ?_ ?_ ?_)
    | (with_reducible refine Keeps.ite ?_ ?_)
    | split

theorem Keeps.cmdEventRead_keeps {gs : List Group} (hg : [] ⊆ gs) {o0 s : State} (h0 : Keeps gs o0 s) (q : Req) : KeepsRes gs o0 (cmdEventRead q s) := by
  unfold cmdEventRead
  repeat' first
    | with_reducible assumption
    | with_reducible exact List.Subset.trans (by decide) hg
    | with_reducible exact Regular.keep rfl
    | (intro g hgn; cases g <;> first | exact (Keeps.out hg (by decide) hgn).elim | with_reducible rfl)
    | (extract_lets +onlyGivenNames s1; refine KeepsRes.have_ (gs := gs) (o := o0) (r := s1) ?_ (fun h => ?_); (on_goal 1 => subst s1); (on_goal 2 => try clear_value s1))
    | (extract_lets +onlyGivenNames s1; refine Keeps.have_ (gs := gs) (o := o0) (t := s1) ?_ (fun h => ?_); (on_goal 1 => subst s1); (on_goal 2 => try clear_value s1))
    | (extract_lets +onlyGivenNames n1; first | (have p : Sys := n1; clear p; subst n1) | (have p : Et := n1; clear p; subst n1) | (have p : Hm := n1; clear p; subst n1) | (have p : Opt := n1; clear p; subst n1) | (have p : Xg := n1; clear p; subst n1) | (have p : Sns := n1; clear p; subst n1) | (have p : Ev := n1; clear p; subst n1) | clear_value n1)
    | (with_reducible refine Keeps.foldl (fun t x h => ?_) ?_)
    | (with_reducible refine KeepsRes.done ?_)
    | (with_reducible refine KeepsRes.wait ?_)
    | (with_reducible refine KeepsRes.refuse ?_)
    | with_reducible apply Keeps.refuse_keeps
    | (simp -zeta only [Keeps.mark]; with_reducible refine KeepsLit.intro rfl ?_ ?_ ?_)
    | (with_reducible refine Keeps.ite ?_ ?_)
    | split

theorem Keeps.execEventRead_keeps {gs : List Group} (hg : [.mbx] ⊆ gs) {o0 s : State} (h0 : Keeps gs o0 s) (q : Req) : KeepsOut gs o0 (execEventRead q s) := by
  unfold execEventRead
  repeat' first
    | with_reducible assumption
    | with_reducible exact List.Subset.trans (by decide) hg
    | with_reducible exact Regular.keep rfl
    | (intro g hgn; cases g <;> first | exact (Keeps.out hg (by decide) hgn).elim | with_reducible rfl)
    | (extract_lets +onlyGivenNames s1; refine Keeps.have_ (gs := gs) (o := o0) (t := s1) ?_ (fun h => ?_); (on_goal 1 => subst s1); (on_goal 2 => try clear_value s1))
    | (extract_lets +onlyGivenNames n1; first | (have p : Sys := n1; clear p; subst n1) | (have p : Et := n1; clear p; subst n1) | (have p : Hm := n1; clear p; subst n1) | (have p : Opt := n1; clear p; subst n1) | (have p : Xg := n1; clear p; subst n1) | (have p : Sns := n1; clear p; subst n1) | (have p : Ev := n1; clear p; subst n1) | clear_value n1)
    | (with_reducible refine Keeps.foldl (fun t x h => ?_) ?_)
    | (with_reducible refine KeepsOut.next ?_)
    | (with_reducible refine Keeps.submit_keeps ?_ ?_ _ _ (fun q t h => ?_) _)
    | with_reducible apply Keeps.cmdEventRead_keeps
    | (simp -zeta only [Keeps.mark]; with_reducible refine KeepsLit.intro rfl ?_ ?_ ?_)
    | split

theorem Keeps.corrected_keeps {gs : List Group} (hg : [.ctl] ⊆ gs) {o0 s : State} (h0 : Keeps gs o0 s) (w : Nat) : Keeps gs o0 (State.corrected s w) := by
  unfold State.corrected
  repeat' first
    | with_reducible assumption
    | with_reducible exact List.Subset.trans (by decide) hg
    | with_reducible exact Regular.keep rfl
    | (intro g hgn; cases g <;> first | exact (Keeps.out hg (by decide) hgn).elim | with_reducible rfl)
    | (extract_lets +onlyGivenNames s1; refine Keeps.have_ (gs := gs) (o := o0) (t := s1) ?_ (fun h => ?_); (on_goal 1 => subst s1); (on_goal 2 => try clear_value s1))
    | (extract_lets +onlyGivenNames n1; first | (have p : Sys := n1; clear p; subst n1) | (have p : Et := n1; clear p; subst n1) | (have p : Hm := n1; clear p; subst n1) | (have p : Opt := n1; clear p; subst n1) | (have p : Xg := n1; clear p; subst n1) | (have p : Sns := n1; clear p; subst n1) | (have p : Ev := n1; clear p; subst n1) | clear_value n1)
    | (with_reducible refine Keeps.foldl (fun t x h => ?_) ?_)
    | (simp -zeta only [Keeps.mark]; with_reducible refine KeepsLit.intro rfl ?_ ?_ ?_)
    | split

theorem Keeps.execOasisScrub_keeps {gs : List Group} (hg : [.ctl] ⊆ gs) {o0 s : State} (h0 : Keeps gs o0 s) (w : Fin 524288) (corrected : Bool) : KeepsOut gs o0 (execOasisScrub w corrected s) := by
  unfold execOasisScrub
  repeat' first
    | with_reducible assumption
    | with_reducible exact List.Subset.trans (by decide) hg
    | with_reducible exact Regular.keep rfl
    | (intro g hgn; cases g <;> first | exact (Keeps.out hg (by decide) hgn).elim | with_reducible rfl)
    | (extract_lets +onlyGivenNames s1; refine Keeps.have_ (gs := gs) (o := o0) (t := s1) ?_ (fun h => ?_); (on_goal 1 => subst s1); (on_goal 2 => try clear_value s1))
    | (extract_lets +onlyGivenNames n1; first | (have p : Sys := n1; clear p; subst n1) | (have p : Et := n1; clear p; subst n1) | (have p : Hm := n1; clear p; subst n1) | (have p : Opt := n1; clear p; subst n1) | (have p : Xg := n1; clear p; subst n1) | (have p : Sns := n1; clear p; subst n1) | (have p : Ev := n1; clear p; subst n1) | clear_value n1)
    | (with_reducible refine Keeps.foldl (fun t x h => ?_) ?_)
    | (with_reducible refine KeepsOut.next ?_)
    | with_reducible apply Keeps.corrected_keeps
    | (simp -zeta only [Keeps.mark]; with_reducible refine KeepsLit.intro rfl ?_ ?_ ?_)
    | (with_reducible refine Keeps.ite ?_ ?_)
    | split

theorem Keeps.execOasisRowSpare_keeps {gs : List Group} (hg : [.ctl, .ev] ⊆ gs) {o0 s : State} (h0 : Keeps gs o0 s) (row : Fin 1024) : KeepsOut gs o0 (execOasisRowSpare row s) := by
  unfold execOasisRowSpare
  repeat' first
    | with_reducible assumption
    | with_reducible exact List.Subset.trans (by decide) hg
    | with_reducible exact Regular.keep rfl
    | (intro g hgn; cases g <;> first | exact (Keeps.out hg (by decide) hgn).elim | with_reducible rfl)
    | (extract_lets +onlyGivenNames s1; refine Keeps.have_ (gs := gs) (o := o0) (t := s1) ?_ (fun h => ?_); (on_goal 1 => subst s1); (on_goal 2 => try clear_value s1))
    | (extract_lets +onlyGivenNames n1; first | (have p : Sys := n1; clear p; subst n1) | (have p : Et := n1; clear p; subst n1) | (have p : Hm := n1; clear p; subst n1) | (have p : Opt := n1; clear p; subst n1) | (have p : Xg := n1; clear p; subst n1) | (have p : Sns := n1; clear p; subst n1) | (have p : Ev := n1; clear p; subst n1) | clear_value n1)
    | (with_reducible refine Keeps.foldl (fun t x h => ?_) ?_)
    | (with_reducible refine KeepsOut.next ?_)
    | with_reducible apply Keeps.raise_keeps
    | (simp -zeta only [Keeps.mark]; with_reducible refine KeepsLit.intro rfl ?_ ?_ ?_)
    | (with_reducible refine Keeps.ite ?_ ?_)
    | split

theorem Keeps.faultImage_keeps {gs : List Group} (hg : [.fresh, .hm, .ev] ⊆ gs) {o0 s : State} (h0 : Keeps gs o0 s) : Keeps gs o0 (State.faultImage s) := by
  unfold State.faultImage
  repeat' first
    | with_reducible assumption
    | with_reducible exact List.Subset.trans (by decide) hg
    | with_reducible exact Regular.keep rfl
    | (intro g hgn; cases g <;> first | exact (Keeps.out hg (by decide) hgn).elim | with_reducible rfl)
    | (extract_lets +onlyGivenNames s1; refine Keeps.have_ (gs := gs) (o := o0) (t := s1) ?_ (fun h => ?_); (on_goal 1 => subst s1); (on_goal 2 => try clear_value s1))
    | (extract_lets +onlyGivenNames n1; first | (have p : Sys := n1; clear p; subst n1) | (have p : Et := n1; clear p; subst n1) | (have p : Hm := n1; clear p; subst n1) | (have p : Opt := n1; clear p; subst n1) | (have p : Xg := n1; clear p; subst n1) | (have p : Sns := n1; clear p; subst n1) | (have p : Ev := n1; clear p; subst n1) | clear_value n1)
    | (with_reducible refine Keeps.foldl (fun t x h => ?_) ?_)
    | with_reducible apply Keeps.draw_keeps
    | with_reducible apply Keeps.imageFaults_keeps
    | (simp -zeta only [Keeps.mark]; with_reducible refine KeepsLit.intro rfl ?_ ?_ ?_)
    | (with_reducible refine KeepsOpt.getD ?_ ?_)
    | (with_reducible refine Keeps.optEq (by assumption) ?_)
    | (with_reducible refine Keeps.pairEq1 (by assumption) ?_)
    | (with_reducible refine Keeps.pairEq2 (by assumption) ?_)
    | split

theorem Keeps.remeasureTerm_keeps {gs : List Group} (hg : [.fresh, .opt] ⊆ gs) {o0 s : State} (h0 : Keeps gs o0 s) : Keeps gs o0 (State.remeasureTerm s) := by
  unfold State.remeasureTerm
  repeat' first
    | with_reducible assumption
    | with_reducible exact List.Subset.trans (by decide) hg
    | exact fun h => { h with terms := (by dsimp only; exact Map.put_wf _ _ h.terms) }
    | with_reducible exact Regular.keep rfl
    | (intro g hgn; cases g <;> first | exact (Keeps.out hg (by decide) hgn).elim | with_reducible rfl)
    | (extract_lets +onlyGivenNames s1; refine Keeps.have_ (gs := gs) (o := o0) (t := s1) ?_ (fun h => ?_); (on_goal 1 => subst s1); (on_goal 2 => try clear_value s1))
    | (extract_lets +onlyGivenNames n1; first | (have p : Sys := n1; clear p; subst n1) | (have p : Et := n1; clear p; subst n1) | (have p : Hm := n1; clear p; subst n1) | (have p : Opt := n1; clear p; subst n1) | (have p : Xg := n1; clear p; subst n1) | (have p : Sns := n1; clear p; subst n1) | (have p : Ev := n1; clear p; subst n1) | clear_value n1)
    | (with_reducible refine Keeps.foldl (fun t x h => ?_) ?_)
    | with_reducible apply Keeps.draw_keeps
    | (simp -zeta only [Keeps.mark]; with_reducible refine KeepsLit.intro rfl ?_ ?_ ?_)
    | (with_reducible refine KeepsOpt.getD ?_ ?_)
    | (with_reducible refine Keeps.optEq (by assumption) ?_)
    | (with_reducible refine Keeps.pairEq1 (by assumption) ?_)
    | (with_reducible refine Keeps.pairEq2 (by assumption) ?_)
    | split

theorem Keeps.handleLost_keeps {gs : List Group} (hg : [.sys, .mbx, .reg, .hm, .opt, .ls, .xg, .cal, .cfg] ⊆ gs) {o0 s : State} (h0 : Keeps gs o0 s) (i : Nat) : Keeps gs o0 (State.handleLost s i) := by
  unfold State.handleLost
  repeat' first
    | with_reducible assumption
    | with_reducible exact List.Subset.trans (by decide) hg
    | with_reducible exact Regular.keep rfl
    | (intro g hgn; cases g <;> first | exact (Keeps.out hg (by decide) hgn).elim | with_reducible rfl)
    | (extract_lets +onlyGivenNames s1; refine Keeps.have_ (gs := gs) (o := o0) (t := s1) ?_ (fun h => ?_); (on_goal 1 => subst s1); (on_goal 2 => try clear_value s1))
    | (extract_lets +onlyGivenNames n1; first | (have p : Sys := n1; clear p; subst n1) | (have p : Et := n1; clear p; subst n1) | (have p : Hm := n1; clear p; subst n1) | (have p : Opt := n1; clear p; subst n1) | (have p : Xg := n1; clear p; subst n1) | (have p : Sns := n1; clear p; subst n1) | (have p : Ev := n1; clear p; subst n1) | clear_value n1)
    | (with_reducible refine Keeps.foldl (fun t x h => ?_) ?_)
    | with_reducible apply Keeps.finishOp_keeps
    | with_reducible apply Keeps.undoOp_keeps
    | (simp -zeta only [Keeps.mark]; with_reducible refine KeepsLit.intro rfl ?_ ?_ ?_)
    | (with_reducible refine Keeps.ite ?_ ?_)
    | split

theorem Keeps.journalLost_keeps {gs : List Group} (hg : [.mbx, .reg, .et, .xg, .cfg] ⊆ gs) {o0 s : State} (h0 : Keeps gs o0 s) (m : Fin 8) : Keeps gs o0 (State.journalLost s m) := by
  unfold State.journalLost
  repeat' first
    | with_reducible assumption
    | with_reducible exact List.Subset.trans (by decide) hg
    | with_reducible exact Regular.keep rfl
    | (intro g hgn; cases g <;> first | exact (Keeps.out hg (by decide) hgn).elim | with_reducible rfl)
    | (extract_lets +onlyGivenNames s1; refine Keeps.have_ (gs := gs) (o := o0) (t := s1) ?_ (fun h => ?_); (on_goal 1 => subst s1); (on_goal 2 => try clear_value s1))
    | (extract_lets +onlyGivenNames n1; first | (have p : Sys := n1; clear p; subst n1) | (have p : Et := n1; clear p; subst n1) | (have p : Hm := n1; clear p; subst n1) | (have p : Opt := n1; clear p; subst n1) | (have p : Xg := n1; clear p; subst n1) | (have p : Sns := n1; clear p; subst n1) | (have p : Ev := n1; clear p; subst n1) | clear_value n1)
    | (with_reducible refine Keeps.foldl (fun t x h => ?_) ?_)
    | with_reducible apply Keeps.complete_keeps
    | with_reducible apply Keeps.modBox_keeps
    | with_reducible apply Keeps.undoWait_keeps
    | (simp -zeta only [Keeps.mark]; with_reducible refine KeepsLit.intro rfl ?_ ?_ ?_)
    | (with_reducible refine Keeps.ite ?_ ?_)
    | split

theorem Keeps.workingLost_keeps {gs : List Group} (hg : [.fresh, .sys, .ctl, .mbx, .reg, .hm, .et, .opt, .ls, .xg, .cal, .sns, .cfg, .die, .ev] ⊆ gs) {o0 s : State} (h0 : Keeps gs o0 s) : Keeps gs o0 (State.workingLost s) := by
  unfold State.workingLost
  repeat' first
    | with_reducible assumption
    | with_reducible exact List.Subset.trans (by decide) hg
    | with_reducible exact Regular.keep rfl
    | (intro g hgn; cases g <;> first | exact (Keeps.out hg (by decide) hgn).elim | with_reducible rfl)
    | (extract_lets +onlyGivenNames s1; refine Keeps.have_ (gs := gs) (o := o0) (t := s1) ?_ (fun h => ?_); (on_goal 1 => subst s1); (on_goal 2 => try clear_value s1))
    | (extract_lets +onlyGivenNames n1; first | (have p : Sys := n1; clear p; subst n1) | (have p : Et := n1; clear p; subst n1) | (have p : Hm := n1; clear p; subst n1) | (have p : Opt := n1; clear p; subst n1) | (have p : Xg := n1; clear p; subst n1) | (have p : Sns := n1; clear p; subst n1) | (have p : Ev := n1; clear p; subst n1) | clear_value n1)
    | (with_reducible refine Keeps.foldl (fun t x h => ?_) ?_)
    | with_reducible apply Keeps.controllerFaults_keeps
    | with_reducible apply Keeps.draw_keeps
    | with_reducible apply Keeps.handleLost_keeps
    | with_reducible apply Keeps.journalLost_keeps
    | (simp -zeta only [Keeps.mark]; with_reducible refine KeepsLit.intro rfl ?_ ?_ ?_)
    | (with_reducible refine KeepsOpt.getD ?_ ?_)
    | (with_reducible refine Keeps.optEq (by assumption) ?_)
    | (with_reducible refine Keeps.pairEq1 (by assumption) ?_)
    | (with_reducible refine Keeps.pairEq2 (by assumption) ?_)
    | (with_reducible refine Keeps.ite ?_ ?_)
    | split

theorem Keeps.wordLost_keeps {gs : List Group} (hg : [.fresh, .sys, .ctl, .mbx, .reg, .hm, .et, .opt, .ls, .xg, .cal, .sns, .cfg, .die, .ev] ⊆ gs) {o0 s : State} (h0 : Keeps gs o0 s) (p : Place) : Keeps gs o0 (State.wordLost s p) := by
  unfold State.wordLost
  repeat' first
    | with_reducible assumption
    | (extract_lets +onlyGivenNames s1; refine Keeps.have_ (gs := gs) (o := o0) (t := s1) ?_ (fun h => ?_); (on_goal 1 => subst s1); (on_goal 2 => try clear_value s1))
    | (extract_lets +onlyGivenNames n1; first | (have p : Sys := n1; clear p; subst n1) | (have p : Et := n1; clear p; subst n1) | (have p : Hm := n1; clear p; subst n1) | (have p : Opt := n1; clear p; subst n1) | (have p : Xg := n1; clear p; subst n1) | (have p : Sns := n1; clear p; subst n1) | (have p : Ev := n1; clear p; subst n1) | clear_value n1)
    | with_reducible exact List.Subset.trans (by decide) hg
    | exact fun h => { h with forecasts := (by dsimp only; rw [State.evalNow_queue]; exact h.forecasts) }
    | exact fun h => { h with ring := (by dsimp only; exact Map.put_wf _ _ h.ring) }
    | exact fun h => { h with frames := (by dsimp only; rw [List.length_modify]; exact h.frames) }
    | exact fun h => { h with forecasts := Nat.le_trans (List.length_eraseIdx_le _ _) h.forecasts }
    | with_reducible exact Regular.keep rfl
    | (intro g hgn; cases g <;> first | exact (Keeps.out hg (by decide) hgn).elim | with_reducible rfl)
    | (with_reducible refine Keeps.foldl (fun t x h => ?_) ?_)
    | (with_reducible refine KeepsOut.next ?_)
    | (with_reducible refine KeepsRes.done ?_)
    | (with_reducible refine KeepsRes.wait ?_)
    | (with_reducible refine KeepsRes.refuse ?_)
    | with_reducible apply Keeps.modBox_keeps
    | with_reducible apply Keeps.lossNoted_keeps
    | with_reducible apply Keeps.calSync_keeps
    | with_reducible apply Keeps.modRgn_keeps
    | with_reducible apply Keeps.breakAnchor_keeps
    | with_reducible apply Keeps.remeasureTerm_keeps
    | with_reducible apply Keeps.faultImage_keeps
    | with_reducible apply Keeps.raise_keeps
    | with_reducible apply Keeps.configLost_keeps
    | with_reducible apply Keeps.workingLost_keeps
    | with_reducible apply Keeps.suspectSync_keeps
    | (with_reducible refine Keeps.ite ?_ ?_)
    | (simp -zeta only [Keeps.mark]; with_reducible refine KeepsLit.intro rfl ?_ ?_ ?_)
    | split

theorem Keeps.readLost_keeps {gs : List Group} (hg : [.fresh, .sys, .ctl, .mbx, .reg, .hm, .et, .opt, .ls, .xg, .cal, .sns, .cfg, .die, .ev] ⊆ gs) {o0 s : State} (h0 : Keeps gs o0 s) (w : Nat) :
    Keeps gs o0 (State.readLost s w) := by
  have sub : ∀ {ts : List Group}, ts ⊆ [.fresh, .sys, .ctl, .mbx, .reg, .hm, .et, .opt, .ls, .xg, .cal, .sns, .cfg, .die, .ev] → ts ⊆ gs := fun h => List.Subset.trans h hg
  unfold State.readLost
  extract_lets a x
  have hx : Keeps gs o0 x := h0.trans ⟨⟨fun g hgn => by
    cases g <;> first | exact (Keeps.out hg (by decide) hgn).elim | with_reducible rfl⟩, Regular.keep rfl⟩
  clear_value x
  exact Keeps.wordLost_keeps (sub (by decide)) (Keeps.raise_keeps (sub (by decide)) hx _ _) _

theorem Keeps.execOasisUe_keeps {gs : List Group} (hg : [.fresh, .sys, .ctl, .mbx, .reg, .hm, .et, .opt, .ls, .xg, .cal, .sns, .cfg, .die, .ev] ⊆ gs) {o0 s : State} (h0 : Keeps gs o0 s) (w : Fin 524288) : KeepsOut gs o0 (execOasisUe w s) := by
  unfold execOasisUe
  repeat' first
    | with_reducible assumption
    | with_reducible exact List.Subset.trans (by decide) hg
    | with_reducible exact Regular.keep rfl
    | (intro g hgn; cases g <;> first | exact (Keeps.out hg (by decide) hgn).elim | with_reducible rfl)
    | (extract_lets +onlyGivenNames s1; refine Keeps.have_ (gs := gs) (o := o0) (t := s1) ?_ (fun h => ?_); (on_goal 1 => subst s1); (on_goal 2 => try clear_value s1))
    | (extract_lets +onlyGivenNames n1; first | (have p : Sys := n1; clear p; subst n1) | (have p : Et := n1; clear p; subst n1) | (have p : Hm := n1; clear p; subst n1) | (have p : Opt := n1; clear p; subst n1) | (have p : Xg := n1; clear p; subst n1) | (have p : Sns := n1; clear p; subst n1) | (have p : Ev := n1; clear p; subst n1) | clear_value n1)
    | (with_reducible refine Keeps.foldl (fun t x h => ?_) ?_)
    | (with_reducible refine KeepsOut.next ?_)
    | with_reducible apply Keeps.readLost_keeps
    | (simp -zeta only [Keeps.mark]; with_reducible refine KeepsLit.intro rfl ?_ ?_ ?_)
    | (with_reducible refine Keeps.ite ?_ ?_)
    | split

theorem Keeps.putRaw_keeps {gs : List Group} (hg : [.ctl] ⊆ gs) {o0 s : State} (h0 : Keeps gs o0 s) (a : Nat) (v : Byte) : Keeps gs o0 (State.putRaw s a v) := by
  unfold State.putRaw
  repeat' first
    | with_reducible assumption
    | with_reducible exact List.Subset.trans (by decide) hg
    | with_reducible exact Regular.keep rfl
    | (intro g hgn; cases g <;> first | exact (Keeps.out hg (by decide) hgn).elim | with_reducible rfl)
    | (extract_lets +onlyGivenNames s1; refine Keeps.have_ (gs := gs) (o := o0) (t := s1) ?_ (fun h => ?_); (on_goal 1 => subst s1); (on_goal 2 => try clear_value s1))
    | (extract_lets +onlyGivenNames n1; first | (have p : Sys := n1; clear p; subst n1) | (have p : Et := n1; clear p; subst n1) | (have p : Hm := n1; clear p; subst n1) | (have p : Opt := n1; clear p; subst n1) | (have p : Xg := n1; clear p; subst n1) | (have p : Sns := n1; clear p; subst n1) | (have p : Ev := n1; clear p; subst n1) | clear_value n1)
    | (with_reducible refine Keeps.foldl (fun t x h => ?_) ?_)
    | (simp -zeta only [Keeps.mark]; with_reducible refine KeepsLit.intro rfl ?_ ?_ ?_)
    | split

theorem Keeps.oasisPut_keeps {gs : List Group} (hg : [.ctl, .mbx, .hm, .et, .cal, .sns, .cfg, .ev] ⊆ gs) {o0 s : State} (h0 : Keeps gs o0 s) (a : Nat) (v : Byte) : Keeps gs o0 (State.oasisPut s a v) := by
  unfold State.oasisPut
  dsimp only
  repeat' first
    | with_reducible assumption
    | with_reducible exact List.Subset.trans (by decide) hg
    | exact fun h => { h with forecasts := (by dsimp only; rw [State.evalNow_queue]; exact h.forecasts) }
    | exact fun h => { h with forecasts := (by dsimp only; rw [List.length_modify]; exact h.forecasts) }
    | (extract_lets +onlyGivenNames f1; (first | (refine Keeps.fun1 f1 ?_) | (refine Keeps.fun2 f1 ?_) | (refine Keeps.fun3 f1 ?_) | (refine KeepsRes.fun1 f1 ?_)); subst f1; beta_reduce)
    | exact fun h => { h with ring := (by dsimp only; exact Map.put_wf _ _ h.ring) }
    | exact fun h => { h with frames := (by dsimp only; rw [List.length_modify]; exact h.frames) }
    | exact fun h => { h with log := Nat.le_trans (Nat.le_of_eq (List.length_map _)) h.log }
    | with_reducible exact Regular.keep rfl
    | (intro g hgn; cases g <;> first | exact (Keeps.out hg (by decide) hgn).elim | with_reducible rfl)
    | (extract_lets +onlyGivenNames s1; refine Keeps.have_ (gs := gs) (o := o0) (t := s1) ?_ (fun h => ?_); (on_goal 1 => subst s1); (on_goal 2 => try clear_value s1))
    | (extract_lets +onlyGivenNames n1; first | (have p : Sys := n1; clear p; subst n1) | (have p : Et := n1; clear p; subst n1) | (have p : Hm := n1; clear p; subst n1) | (have p : Opt := n1; clear p; subst n1) | (have p : Xg := n1; clear p; subst n1) | (have p : Sns := n1; clear p; subst n1) | (have p : Ev := n1; clear p; subst n1) | clear_value n1)
    | (with_reducible refine Keeps.foldl (fun t x h => ?_) ?_)
    | with_reducible apply Keeps.evalNow_keeps
    | with_reducible apply Keeps.modAnchor_keeps
    | with_reducible apply Keeps.modBox_keeps
    | with_reducible apply Keeps.modSlot_keeps
    | with_reducible apply Keeps.putRaw_keeps
    | with_reducible apply Keeps.putRegionSet_keeps
    | with_reducible apply Keeps.putSpareSet_keeps
    | (simp -zeta only [Keeps.mark]; with_reducible refine KeepsLit.intro rfl ?_ ?_ ?_)
    | (with_reducible refine Keeps.ite ?_ ?_)
    | split

theorem Keeps.cmdDebugRead_keeps {gs : List Group} (hg : [.fresh, .sys, .ctl, .mbx, .reg, .hm, .et, .opt, .ls, .xg, .cal, .sns, .cfg, .die, .ev] ⊆ gs) {o0 s : State} (h0 : Keeps gs o0 s) (q : Req) : KeepsRes gs o0 (cmdDebugRead q s) := by
  unfold cmdDebugRead
  repeat' first
    | with_reducible assumption
    | with_reducible exact List.Subset.trans (by decide) hg
    | with_reducible exact Regular.keep rfl
    | (intro g hgn; cases g <;> first | exact (Keeps.out hg (by decide) hgn).elim | with_reducible rfl)
    | (extract_lets +onlyGivenNames s1; refine KeepsRes.have_ (gs := gs) (o := o0) (r := s1) ?_ (fun h => ?_); (on_goal 1 => subst s1); (on_goal 2 => try clear_value s1))
    | (extract_lets +onlyGivenNames s1; refine Keeps.have_ (gs := gs) (o := o0) (t := s1) ?_ (fun h => ?_); (on_goal 1 => subst s1); (on_goal 2 => try clear_value s1))
    | (extract_lets +onlyGivenNames n1; first | (have p : Sys := n1; clear p; subst n1) | (have p : Et := n1; clear p; subst n1) | (have p : Hm := n1; clear p; subst n1) | (have p : Opt := n1; clear p; subst n1) | (have p : Xg := n1; clear p; subst n1) | (have p : Sns := n1; clear p; subst n1) | (have p : Ev := n1; clear p; subst n1) | clear_value n1)
    | (with_reducible refine Keeps.foldl (fun t x h => ?_) ?_)
    | (with_reducible refine KeepsRes.done ?_)
    | (with_reducible refine KeepsRes.wait ?_)
    | (with_reducible refine KeepsRes.refuse ?_)
    | with_reducible apply Keeps.readLost_keeps
    | with_reducible apply Keeps.refuse_keeps
    | (simp -zeta only [Keeps.mark]; with_reducible refine KeepsLit.intro rfl ?_ ?_ ?_)
    | (with_reducible refine Keeps.ite ?_ ?_)
    | split

theorem Keeps.execDebugRead_keeps {gs : List Group} (hg : [.fresh, .sys, .ctl, .mbx, .reg, .hm, .et, .opt, .ls, .xg, .cal, .sns, .cfg, .die, .ev] ⊆ gs) {o0 s : State} (h0 : Keeps gs o0 s) (q : Req) : KeepsOut gs o0 (execDebugRead q s) := by
  unfold execDebugRead
  repeat' first
    | with_reducible assumption
    | with_reducible exact List.Subset.trans (by decide) hg
    | with_reducible exact Regular.keep rfl
    | (intro g hgn; cases g <;> first | exact (Keeps.out hg (by decide) hgn).elim | with_reducible rfl)
    | (extract_lets +onlyGivenNames s1; refine Keeps.have_ (gs := gs) (o := o0) (t := s1) ?_ (fun h => ?_); (on_goal 1 => subst s1); (on_goal 2 => try clear_value s1))
    | (extract_lets +onlyGivenNames n1; first | (have p : Sys := n1; clear p; subst n1) | (have p : Et := n1; clear p; subst n1) | (have p : Hm := n1; clear p; subst n1) | (have p : Opt := n1; clear p; subst n1) | (have p : Xg := n1; clear p; subst n1) | (have p : Sns := n1; clear p; subst n1) | (have p : Ev := n1; clear p; subst n1) | clear_value n1)
    | (with_reducible refine Keeps.foldl (fun t x h => ?_) ?_)
    | (with_reducible refine KeepsOut.next ?_)
    | (with_reducible refine Keeps.submit_keeps ?_ ?_ _ _ (fun q t h => ?_) _)
    | with_reducible apply Keeps.cmdDebugRead_keeps
    | (simp -zeta only [Keeps.mark]; with_reducible refine KeepsLit.intro rfl ?_ ?_ ?_)
    | split

theorem Keeps.cmdDebugWrite_keeps {gs : List Group} (hg : [.sys, .ctl, .mbx, .reg, .hm, .et, .opt, .ls, .xg, .cal, .sns, .cfg, .sp, .ev] ⊆ gs) {o0 s : State} (h0 : Keeps gs o0 s) (q : Req) : KeepsRes gs o0 (cmdDebugWrite q s) := by
  unfold cmdDebugWrite
  repeat' first
    | with_reducible assumption
    | with_reducible exact List.Subset.trans (by decide) hg
    | with_reducible exact Regular.keep rfl
    | (intro g hgn; cases g <;> first | exact (Keeps.out hg (by decide) hgn).elim | with_reducible rfl)
    | (extract_lets +onlyGivenNames s1; refine KeepsRes.have_ (gs := gs) (o := o0) (r := s1) ?_ (fun h => ?_); (on_goal 1 => subst s1); (on_goal 2 => try clear_value s1))
    | (extract_lets +onlyGivenNames f1; (first | (refine Keeps.fun1 f1 ?_) | (refine Keeps.fun2 f1 ?_) | (refine Keeps.fun3 f1 ?_) | (refine KeepsRes.fun1 f1 ?_)); subst f1; beta_reduce)
    | (extract_lets +onlyGivenNames s1; refine Keeps.have_ (gs := gs) (o := o0) (t := s1) ?_ (fun h => ?_); (on_goal 1 => subst s1); (on_goal 2 => try clear_value s1))
    | (extract_lets +onlyGivenNames n1; first | (have p : Sys := n1; clear p; subst n1) | (have p : Et := n1; clear p; subst n1) | (have p : Hm := n1; clear p; subst n1) | (have p : Opt := n1; clear p; subst n1) | (have p : Xg := n1; clear p; subst n1) | (have p : Sns := n1; clear p; subst n1) | (have p : Ev := n1; clear p; subst n1) | clear_value n1)
    | (with_reducible refine Keeps.foldl (fun t x h => ?_) ?_)
    | (with_reducible refine KeepsRes.done ?_)
    | (with_reducible refine KeepsRes.wait ?_)
    | (with_reducible refine KeepsRes.refuse ?_)
    | with_reducible apply Keeps.fabWrite_keeps
    | with_reducible apply Keeps.oasisPut_keeps
    | with_reducible apply Keeps.refuse_keeps
    | (simp -zeta only [Keeps.mark]; with_reducible refine KeepsLit.intro rfl ?_ ?_ ?_)
    | (with_reducible refine Keeps.ite ?_ ?_)
    | split

theorem Keeps.execDebugWrite_keeps {gs : List Group} (hg : [.sys, .ctl, .mbx, .reg, .hm, .et, .opt, .ls, .xg, .cal, .sns, .cfg, .sp, .ev] ⊆ gs) {o0 s : State} (h0 : Keeps gs o0 s) (q : Req) : KeepsOut gs o0 (execDebugWrite q s) := by
  unfold execDebugWrite
  repeat' first
    | with_reducible assumption
    | with_reducible exact List.Subset.trans (by decide) hg
    | with_reducible exact Regular.keep rfl
    | (intro g hgn; cases g <;> first | exact (Keeps.out hg (by decide) hgn).elim | with_reducible rfl)
    | (extract_lets +onlyGivenNames s1; refine Keeps.have_ (gs := gs) (o := o0) (t := s1) ?_ (fun h => ?_); (on_goal 1 => subst s1); (on_goal 2 => try clear_value s1))
    | (extract_lets +onlyGivenNames n1; first | (have p : Sys := n1; clear p; subst n1) | (have p : Et := n1; clear p; subst n1) | (have p : Hm := n1; clear p; subst n1) | (have p : Opt := n1; clear p; subst n1) | (have p : Xg := n1; clear p; subst n1) | (have p : Sns := n1; clear p; subst n1) | (have p : Ev := n1; clear p; subst n1) | clear_value n1)
    | (with_reducible refine Keeps.foldl (fun t x h => ?_) ?_)
    | (with_reducible refine KeepsOut.next ?_)
    | (with_reducible refine Keeps.submit_keeps ?_ ?_ _ _ (fun q t h => ?_) _)
    | with_reducible apply Keeps.cmdDebugWrite_keeps
    | (simp -zeta only [Keeps.mark]; with_reducible refine KeepsLit.intro rfl ?_ ?_ ?_)
    | split

theorem Keeps.tearAll_keeps {gs : List Group} (hg : [.reg, .ls, .xg] ⊆ gs) {o0 s : State} (h0 : Keeps gs o0 s) (rs : List RegionNo) : Keeps gs o0 (State.tearAll s rs) := by
  unfold State.tearAll
  repeat' first
    | with_reducible assumption
    | with_reducible exact List.Subset.trans (by decide) hg
    | with_reducible exact Regular.keep rfl
    | (intro g hgn; cases g <;> first | exact (Keeps.out hg (by decide) hgn).elim | with_reducible rfl)
    | (extract_lets +onlyGivenNames s1; refine Keeps.have_ (gs := gs) (o := o0) (t := s1) ?_ (fun h => ?_); (on_goal 1 => subst s1); (on_goal 2 => try clear_value s1))
    | (extract_lets +onlyGivenNames n1; first | (have p : Sys := n1; clear p; subst n1) | (have p : Et := n1; clear p; subst n1) | (have p : Hm := n1; clear p; subst n1) | (have p : Opt := n1; clear p; subst n1) | (have p : Xg := n1; clear p; subst n1) | (have p : Sns := n1; clear p; subst n1) | (have p : Ev := n1; clear p; subst n1) | clear_value n1)
    | (with_reducible refine Keeps.foldl (fun t x h => ?_) ?_)
    | with_reducible apply Keeps.toggle_keeps
    | with_reducible apply Keeps.tornCheck_keeps
    | (simp -zeta only [Keeps.mark]; with_reducible refine KeepsLit.intro rfl ?_ ?_ ?_)
    | (with_reducible refine Keeps.ite ?_ ?_)
    | split

theorem Keeps.regionReset_keeps {gs : List Group} (hg : [.sys, .reg, .xg] ⊆ gs) {o0 s : State} (h0 : Keeps gs o0 s) (r : RegionNo) (f : Region → Region) : Keeps gs o0 (State.regionReset s r f) := by
  unfold State.regionReset
  repeat' first
    | with_reducible assumption
    | with_reducible exact List.Subset.trans (by decide) hg
    | with_reducible exact Regular.keep rfl
    | (intro g hgn; cases g <;> first | exact (Keeps.out hg (by decide) hgn).elim | with_reducible rfl)
    | (extract_lets +onlyGivenNames s1; refine Keeps.have_ (gs := gs) (o := o0) (t := s1) ?_ (fun h => ?_); (on_goal 1 => subst s1); (on_goal 2 => try clear_value s1))
    | (extract_lets +onlyGivenNames n1; first | (have p : Sys := n1; clear p; subst n1) | (have p : Et := n1; clear p; subst n1) | (have p : Hm := n1; clear p; subst n1) | (have p : Opt := n1; clear p; subst n1) | (have p : Xg := n1; clear p; subst n1) | (have p : Sns := n1; clear p; subst n1) | (have p : Ev := n1; clear p; subst n1) | clear_value n1)
    | (with_reducible refine Keeps.foldl (fun t x h => ?_) ?_)
    | (with_reducible refine Keeps.foldl2 (fun t x h => ?_) ?_)
    | (with_reducible refine Keeps.foldl1 (fun t x h => ?_) ?_)
    | with_reducible apply Keeps.modRgn_keeps
    | with_reducible apply Keeps.toggle_keeps
    | (simp -zeta only [Keeps.mark]; with_reducible refine KeepsLit.intro rfl ?_ ?_ ?_)
    | split

theorem Keeps.rejoinDrop_keeps {gs : List Group} (hg : [.reg, .die] ⊆ gs) {o0 s : State} (h0 : Keeps gs o0 s) (site : Nat) : Keeps gs o0 (State.rejoinDrop s site) := by
  unfold State.rejoinDrop
  repeat' first
    | with_reducible assumption
    | with_reducible exact List.Subset.trans (by decide) hg
    | with_reducible exact Regular.keep rfl
    | (intro g hgn; cases g <;> first | exact (Keeps.out hg (by decide) hgn).elim | with_reducible rfl)
    | (extract_lets +onlyGivenNames s1; refine Keeps.have_ (gs := gs) (o := o0) (t := s1) ?_ (fun h => ?_); (on_goal 1 => subst s1); (on_goal 2 => try clear_value s1))
    | (extract_lets +onlyGivenNames n1; first | (have p : Sys := n1; clear p; subst n1) | (have p : Et := n1; clear p; subst n1) | (have p : Hm := n1; clear p; subst n1) | (have p : Opt := n1; clear p; subst n1) | (have p : Xg := n1; clear p; subst n1) | (have p : Sns := n1; clear p; subst n1) | (have p : Ev := n1; clear p; subst n1) | clear_value n1)
    | (with_reducible refine Keeps.foldl (fun t x h => ?_) ?_)
    | with_reducible apply Keeps.modDie_keeps
    | with_reducible apply Keeps.modRgns_keeps
    | (simp -zeta only [Keeps.mark]; with_reducible refine KeepsLit.intro rfl ?_ ?_ ?_)
    | (with_reducible refine Keeps.ite ?_ ?_)
    | split

theorem Keeps.execDiePowerLoss_keeps {gs : List Group} (hg : [.sys, .ctl, .mbx, .reg, .hm, .et, .opt, .ls, .xg, .cal, .sns, .cfg, .sp, .die, .ev, .tap] ⊆ gs) {o0 s : State} (h0 : Keeps gs o0 s) (site : Site) :
    KeepsOut gs o0 (execDiePowerLoss site s) := by
  unfold execDiePowerLoss
  split
  · exact KeepsOut.next (Keeps.reset_keeps (List.Subset.trans (by decide) hg) h0)
  · split
    · exact KeepsOut.next h0
    · refine KeepsOut.next ?_
      have h1 := Keeps.modDie_keeps (gs := gs) (List.Subset.trans (by decide) hg)
        (Keeps.rejoinDrop_keeps (gs := gs) (List.Subset.trans (by decide) hg) h0 site) site fun d => { d with unpowered := true }
      refine h1.trans ⟨⟨fun g hgn => ?_⟩, Regular.keep rfl⟩
      cases g
      case sys => exact (Keeps.out hg (by decide) hgn).elim
      all_goals with_reducible rfl

theorem Keeps.execDiePowerOn_keeps {gs : List Group} (hg : [.mbx, .reg, .et, .xg, .die, .ev] ⊆ gs) {o0 s : State} (h0 : Keeps gs o0 s) (site : Site) : KeepsOut gs o0 (execDiePowerOn site s) := by
  unfold execDiePowerOn
  repeat' first
    | with_reducible assumption
    | with_reducible exact List.Subset.trans (by decide) hg
    | with_reducible exact Regular.keep rfl
    | (intro g hgn; cases g <;> first | exact (Keeps.out hg (by decide) hgn).elim | with_reducible rfl)
    | (extract_lets +onlyGivenNames s1; refine Keeps.have_ (gs := gs) (o := o0) (t := s1) ?_ (fun h => ?_); (on_goal 1 => subst s1); (on_goal 2 => try clear_value s1))
    | (extract_lets +onlyGivenNames n1; first | (have p : Sys := n1; clear p; subst n1) | (have p : Et := n1; clear p; subst n1) | (have p : Hm := n1; clear p; subst n1) | (have p : Opt := n1; clear p; subst n1) | (have p : Xg := n1; clear p; subst n1) | (have p : Sns := n1; clear p; subst n1) | (have p : Ev := n1; clear p; subst n1) | clear_value n1)
    | (with_reducible refine Keeps.foldl (fun t x h => ?_) ?_)
    | (with_reducible refine Keeps.foldl2 (fun t x h => ?_) ?_)
    | (with_reducible refine Keeps.foldl1 (fun t x h => ?_) ?_)
    | (with_reducible refine KeepsOut.next ?_)
    | with_reducible apply Keeps.breakAnchors_keeps
    | with_reducible apply Keeps.modDie_keeps
    | with_reducible apply Keeps.modLane_keeps
    | with_reducible apply Keeps.modRgn_keeps
    | with_reducible apply Keeps.modXing_keeps
    | (simp -zeta only [Keeps.mark]; with_reducible refine KeepsLit.intro rfl ?_ ?_ ?_)
    | (with_reducible refine Keeps.ite ?_ ?_)
    | split

theorem Keeps.execDieOwnReset_keeps {gs : List Group} (hg : [.sys, .mbx, .reg, .et, .ls, .xg, .die, .ev] ⊆ gs) {o0 s : State} (h0 : Keeps gs o0 s) (site : Site) : KeepsOut gs o0 (execDieOwnReset site s) := by
  unfold execDieOwnReset
  repeat' first
    | with_reducible assumption
    | with_reducible exact List.Subset.trans (by decide) hg
    | with_reducible exact Regular.keep rfl
    | (intro g hgn; cases g <;> first | exact (Keeps.out hg (by decide) hgn).elim | with_reducible rfl)
    | (extract_lets +onlyGivenNames s1; refine Keeps.have_ (gs := gs) (o := o0) (t := s1) ?_ (fun h => ?_); (on_goal 1 => subst s1); (on_goal 2 => try clear_value s1))
    | (extract_lets +onlyGivenNames n1; first | (have p : Sys := n1; clear p; subst n1) | (have p : Et := n1; clear p; subst n1) | (have p : Hm := n1; clear p; subst n1) | (have p : Opt := n1; clear p; subst n1) | (have p : Xg := n1; clear p; subst n1) | (have p : Sns := n1; clear p; subst n1) | (have p : Ev := n1; clear p; subst n1) | clear_value n1)
    | (with_reducible refine Keeps.foldl (fun t x h => ?_) ?_)
    | (with_reducible refine KeepsOut.next ?_)
    | with_reducible apply Keeps.breakAnchors_keeps
    | with_reducible apply Keeps.regionReset_keeps
    | with_reducible apply Keeps.rejoinDrop_keeps
    | with_reducible apply Keeps.tearAll_keeps
    | (simp -zeta only [Keeps.mark]; with_reducible refine KeepsLit.intro rfl ?_ ?_ ?_)
    | (with_reducible refine Keeps.ite ?_ ?_)
    | split

theorem Keeps.execRegionsOwnReset_keeps {gs : List Group} (hg : [.sys, .mbx, .reg, .et, .ls, .xg, .ev] ⊆ gs) {o0 s : State} (h0 : Keeps gs o0 s) (regions : List RegionNo) : KeepsOut gs o0 (execRegionsOwnReset regions s) := by
  unfold execRegionsOwnReset
  repeat' first
    | with_reducible assumption
    | with_reducible exact List.Subset.trans (by decide) hg
    | with_reducible exact Regular.keep rfl
    | (intro g hgn; cases g <;> first | exact (Keeps.out hg (by decide) hgn).elim | with_reducible rfl)
    | (extract_lets +onlyGivenNames s1; refine Keeps.have_ (gs := gs) (o := o0) (t := s1) ?_ (fun h => ?_); (on_goal 1 => subst s1); (on_goal 2 => try clear_value s1))
    | (extract_lets +onlyGivenNames n1; first | (have p : Sys := n1; clear p; subst n1) | (have p : Et := n1; clear p; subst n1) | (have p : Hm := n1; clear p; subst n1) | (have p : Opt := n1; clear p; subst n1) | (have p : Xg := n1; clear p; subst n1) | (have p : Sns := n1; clear p; subst n1) | (have p : Ev := n1; clear p; subst n1) | clear_value n1)
    | (with_reducible refine Keeps.foldl (fun t x h => ?_) ?_)
    | (with_reducible refine KeepsOut.next ?_)
    | with_reducible apply Keeps.breakAnchors_keeps
    | with_reducible apply Keeps.regionReset_keeps
    | with_reducible apply Keeps.tearAll_keeps
    | (simp -zeta only [Keeps.mark]; with_reducible refine KeepsLit.intro rfl ?_ ?_ ?_)
    | split

theorem Keeps.regionLeavesReset_keeps {gs : List Group} (hg : [.reg] ⊆ gs) {o0 s : State} (h0 : Keeps gs o0 s) (r : RegionNo) : Keeps gs o0 (State.regionLeavesReset s r) := by
  unfold State.regionLeavesReset
  repeat' first
    | with_reducible assumption
    | with_reducible exact List.Subset.trans (by decide) hg
    | with_reducible exact Regular.keep rfl
    | (intro g hgn; cases g <;> first | exact (Keeps.out hg (by decide) hgn).elim | with_reducible rfl)
    | (extract_lets +onlyGivenNames s1; refine Keeps.have_ (gs := gs) (o := o0) (t := s1) ?_ (fun h => ?_); (on_goal 1 => subst s1); (on_goal 2 => try clear_value s1))
    | (extract_lets +onlyGivenNames n1; first | (have p : Sys := n1; clear p; subst n1) | (have p : Et := n1; clear p; subst n1) | (have p : Hm := n1; clear p; subst n1) | (have p : Opt := n1; clear p; subst n1) | (have p : Xg := n1; clear p; subst n1) | (have p : Sns := n1; clear p; subst n1) | (have p : Ev := n1; clear p; subst n1) | clear_value n1)
    | (with_reducible refine Keeps.foldl (fun t x h => ?_) ?_)
    | with_reducible apply Keeps.modRgn_keeps
    | (simp -zeta only [Keeps.mark]; with_reducible refine KeepsLit.intro rfl ?_ ?_ ?_)
    | (with_reducible refine Keeps.ite ?_ ?_)
    | split

theorem Keeps.execLocalResetExit_keeps {gs : List Group} (hg : [.reg, .ls, .xg] ⊆ gs) {o0 s : State} (h0 : Keeps gs o0 s) (id : Word) (second : Bool) : KeepsOut gs o0 (execLocalResetExit id second s) := by
  unfold execLocalResetExit
  repeat' first
    | with_reducible assumption
    | with_reducible exact List.Subset.trans (by decide) hg
    | with_reducible exact Regular.keep rfl
    | (intro g hgn; cases g <;> first | exact (Keeps.out hg (by decide) hgn).elim | with_reducible rfl)
    | (extract_lets +onlyGivenNames s1; refine Keeps.have_ (gs := gs) (o := o0) (t := s1) ?_ (fun h => ?_); (on_goal 1 => subst s1); (on_goal 2 => try clear_value s1))
    | (extract_lets +onlyGivenNames n1; first | (have p : Sys := n1; clear p; subst n1) | (have p : Et := n1; clear p; subst n1) | (have p : Hm := n1; clear p; subst n1) | (have p : Opt := n1; clear p; subst n1) | (have p : Xg := n1; clear p; subst n1) | (have p : Sns := n1; clear p; subst n1) | (have p : Ev := n1; clear p; subst n1) | clear_value n1)
    | (with_reducible refine Keeps.foldl (fun t x h => ?_) ?_)
    | (with_reducible refine KeepsOut.next ?_)
    | with_reducible apply Keeps.regionLeavesReset_keeps
    | with_reducible apply Keeps.tornCheck_keeps
    | (simp -zeta only [Keeps.mark]; with_reducible refine KeepsLit.intro rfl ?_ ?_ ?_)
    | (with_reducible refine Keeps.ite ?_ ?_)
    | split

theorem Keeps.endAsked_keeps {gs : List Group} (hg : [.mbx, .opt, .cal] ⊆ gs) {o0 s : State} (h0 : Keeps gs o0 s) (site : Nat) : Keeps gs o0 (State.endAsked s site) := by
  unfold State.endAsked
  repeat' first
    | with_reducible assumption
    | with_reducible exact List.Subset.trans (by decide) hg
    | with_reducible exact Regular.keep rfl
    | (intro g hgn; cases g <;> first | exact (Keeps.out hg (by decide) hgn).elim | with_reducible rfl)
    | (extract_lets +onlyGivenNames s1; refine Keeps.have_ (gs := gs) (o := o0) (t := s1) ?_ (fun h => ?_); (on_goal 1 => subst s1); (on_goal 2 => try clear_value s1))
    | (extract_lets +onlyGivenNames n1; first | (have p : Sys := n1; clear p; subst n1) | (have p : Et := n1; clear p; subst n1) | (have p : Hm := n1; clear p; subst n1) | (have p : Opt := n1; clear p; subst n1) | (have p : Xg := n1; clear p; subst n1) | (have p : Sns := n1; clear p; subst n1) | (have p : Ev := n1; clear p; subst n1) | clear_value n1)
    | (with_reducible refine Keeps.foldl (fun t x h => ?_) ?_)
    | with_reducible apply Keeps.endIns_keeps
    | with_reducible apply Keeps.untake_keeps
    | (simp -zeta only [Keeps.mark]; with_reducible refine KeepsLit.intro rfl ?_ ?_ ?_)
    | (with_reducible refine Keeps.ite ?_ ?_)
    | split

theorem Keeps.dieLost_keeps {gs : List Group} (hg : [.mbx, .reg, .et, .opt, .ls, .xg, .cal, .die, .ev] ⊆ gs) {o0 s : State} (h0 : Keeps gs o0 s) (site : Nat) (silent : Nat) : Keeps gs o0 (State.dieLost s site silent) := by
  unfold State.dieLost
  repeat' first
    | with_reducible assumption
    | with_reducible exact List.Subset.trans (by decide) hg
    | with_reducible exact Regular.keep rfl
    | (intro g hgn; cases g <;> first | exact (Keeps.out hg (by decide) hgn).elim | with_reducible rfl)
    | (extract_lets +onlyGivenNames f1; (first | (refine Keeps.fun1 f1 ?_) | (refine Keeps.fun2 f1 ?_) | (refine Keeps.fun3 f1 ?_) | (refine KeepsRes.fun1 f1 ?_)); subst f1; beta_reduce)
    | (extract_lets +onlyGivenNames s1; refine Keeps.have_ (gs := gs) (o := o0) (t := s1) ?_ (fun h => ?_); (on_goal 1 => subst s1); (on_goal 2 => try clear_value s1))
    | (extract_lets +onlyGivenNames n1; first | (have p : Sys := n1; clear p; subst n1) | (have p : Et := n1; clear p; subst n1) | (have p : Hm := n1; clear p; subst n1) | (have p : Opt := n1; clear p; subst n1) | (have p : Xg := n1; clear p; subst n1) | (have p : Sns := n1; clear p; subst n1) | (have p : Ev := n1; clear p; subst n1) | clear_value n1)
    | (with_reducible refine Keeps.foldl (fun t x h => ?_) ?_)
    | with_reducible apply Keeps.breakAnchors_keeps
    | with_reducible apply Keeps.calAbandon_keeps
    | with_reducible apply Keeps.endAsked_keeps
    | with_reducible apply Keeps.fenceAll_keeps
    | with_reducible apply Keeps.modDie_keeps
    | with_reducible apply Keeps.modRgns_keeps
    | with_reducible apply Keeps.raise_keeps
    | (simp -zeta only [Keeps.mark]; with_reducible refine KeepsLit.intro rfl ?_ ?_ ?_)
    | (with_reducible refine Keeps.ite ?_ ?_)
    | split

theorem Keeps.checkSite_keeps {gs : List Group} (hg : [.sys, .mbx, .reg, .et, .opt, .ls, .xg, .cal, .die, .ev] ⊆ gs) {o0 s : State} (h0 : Keeps gs o0 s) (site : Nat) : Keeps gs o0 (State.checkSite s site) := by
  unfold State.checkSite
  repeat' first
    | with_reducible assumption
    | with_reducible exact List.Subset.trans (by decide) hg
    | with_reducible exact Regular.keep rfl
    | (intro g hgn; cases g <;> first | exact (Keeps.out hg (by decide) hgn).elim | with_reducible rfl)
    | (extract_lets +onlyGivenNames s1; refine Keeps.have_ (gs := gs) (o := o0) (t := s1) ?_ (fun h => ?_); (on_goal 1 => subst s1); (on_goal 2 => try clear_value s1))
    | (extract_lets +onlyGivenNames n1; first | (have p : Sys := n1; clear p; subst n1) | (have p : Et := n1; clear p; subst n1) | (have p : Hm := n1; clear p; subst n1) | (have p : Opt := n1; clear p; subst n1) | (have p : Xg := n1; clear p; subst n1) | (have p : Sns := n1; clear p; subst n1) | (have p : Ev := n1; clear p; subst n1) | clear_value n1)
    | (with_reducible refine Keeps.foldl (fun t x h => ?_) ?_)
    | with_reducible apply Keeps.dieLost_keeps
    | with_reducible apply Keeps.mlbSet_keeps
    | with_reducible apply Keeps.modDie_keeps
    | with_reducible apply Keeps.modRgn_keeps
    | with_reducible apply Keeps.raise_keeps
    | with_reducible apply Keeps.rejoinDrop_keeps
    | (simp -zeta only [Keeps.mark]; with_reducible refine KeepsLit.intro rfl ?_ ?_ ?_)
    | (with_reducible refine Keeps.ite ?_ ?_)
    | split

theorem Keeps.execHeartbeatCheck_keeps {gs : List Group} (hg : [.sys, .mbx, .reg, .et, .opt, .ls, .xg, .cal, .die, .ev] ⊆ gs) {o0 s : State} (h0 : Keeps gs o0 s) : KeepsOut gs o0 (execHeartbeatCheck s) := by
  unfold execHeartbeatCheck
  repeat' first
    | with_reducible assumption
    | with_reducible exact List.Subset.trans (by decide) hg
    | with_reducible exact Regular.keep rfl
    | (intro g hgn; cases g <;> first | exact (Keeps.out hg (by decide) hgn).elim | with_reducible rfl)
    | (extract_lets +onlyGivenNames s1; refine Keeps.have_ (gs := gs) (o := o0) (t := s1) ?_ (fun h => ?_); (on_goal 1 => subst s1); (on_goal 2 => try clear_value s1))
    | (extract_lets +onlyGivenNames n1; first | (have p : Sys := n1; clear p; subst n1) | (have p : Et := n1; clear p; subst n1) | (have p : Hm := n1; clear p; subst n1) | (have p : Opt := n1; clear p; subst n1) | (have p : Xg := n1; clear p; subst n1) | (have p : Sns := n1; clear p; subst n1) | (have p : Ev := n1; clear p; subst n1) | clear_value n1)
    | (with_reducible refine Keeps.foldl (fun t x h => ?_) ?_)
    | (with_reducible refine KeepsOut.next ?_)
    | with_reducible apply Keeps.checkSite_keeps
    | (simp -zeta only [Keeps.mark]; with_reducible refine KeepsLit.intro rfl ?_ ?_ ?_)
    | (with_reducible refine Keeps.ite ?_ ?_)
    | split

theorem Keeps.execDieLostLong_keeps {gs : List Group} (hg : [.sys, .mbx, .die, .ev] ⊆ gs) {o0 s : State} (h0 : Keeps gs o0 s) (site : Site) : KeepsOut gs o0 (execDieLostLong site s) := by
  unfold execDieLostLong
  repeat' first
    | with_reducible assumption
    | with_reducible exact List.Subset.trans (by decide) hg
    | with_reducible exact Regular.keep rfl
    | (intro g hgn; cases g <;> first | exact (Keeps.out hg (by decide) hgn).elim | with_reducible rfl)
    | (extract_lets +onlyGivenNames s1; refine Keeps.have_ (gs := gs) (o := o0) (t := s1) ?_ (fun h => ?_); (on_goal 1 => subst s1); (on_goal 2 => try clear_value s1))
    | (extract_lets +onlyGivenNames n1; first | (have p : Sys := n1; clear p; subst n1) | (have p : Et := n1; clear p; subst n1) | (have p : Hm := n1; clear p; subst n1) | (have p : Opt := n1; clear p; subst n1) | (have p : Xg := n1; clear p; subst n1) | (have p : Sns := n1; clear p; subst n1) | (have p : Ev := n1; clear p; subst n1) | clear_value n1)
    | (with_reducible refine Keeps.foldl (fun t x h => ?_) ?_)
    | (with_reducible refine KeepsOut.next ?_)
    | with_reducible apply Keeps.mlbSet_keeps
    | with_reducible apply Keeps.modDie_keeps
    | with_reducible apply Keeps.raise_keeps
    | (simp -zeta only [Keeps.mark]; with_reducible refine KeepsLit.intro rfl ?_ ?_ ?_)
    | (with_reducible refine Keeps.ite ?_ ?_)
    | split

theorem Keeps.execSignOfLife_keeps {gs : List Group} (hg : [.reg] ⊆ gs) {o0 s : State} (h0 : Keeps gs o0 s) (r : RegionNo) : KeepsOut gs o0 (execSignOfLife r s) := by
  unfold execSignOfLife
  repeat' first
    | with_reducible assumption
    | with_reducible exact List.Subset.trans (by decide) hg
    | with_reducible exact Regular.keep rfl
    | (intro g hgn; cases g <;> first | exact (Keeps.out hg (by decide) hgn).elim | with_reducible rfl)
    | (extract_lets +onlyGivenNames s1; refine Keeps.have_ (gs := gs) (o := o0) (t := s1) ?_ (fun h => ?_); (on_goal 1 => subst s1); (on_goal 2 => try clear_value s1))
    | (extract_lets +onlyGivenNames n1; first | (have p : Sys := n1; clear p; subst n1) | (have p : Et := n1; clear p; subst n1) | (have p : Hm := n1; clear p; subst n1) | (have p : Opt := n1; clear p; subst n1) | (have p : Xg := n1; clear p; subst n1) | (have p : Sns := n1; clear p; subst n1) | (have p : Ev := n1; clear p; subst n1) | clear_value n1)
    | (with_reducible refine Keeps.foldl (fun t x h => ?_) ?_)
    | (with_reducible refine KeepsOut.next ?_)
    | with_reducible apply Keeps.modRgn_keeps
    | (simp -zeta only [Keeps.mark]; with_reducible refine KeepsLit.intro rfl ?_ ?_ ?_)
    | (with_reducible refine Keeps.ite ?_ ?_)
    | split

theorem Keeps.rejoinFail_keeps {gs : List Group} (hg : [.sys, .mbx, .reg, .ls, .xg, .die, .ev] ⊆ gs) {o0 s : State} (h0 : Keeps gs o0 s) (site : Nat) : Keeps gs o0 (State.rejoinFail s site) := by
  unfold State.rejoinFail
  repeat' first
    | with_reducible assumption
    | with_reducible exact List.Subset.trans (by decide) hg
    | with_reducible exact Regular.keep rfl
    | (intro g hgn; cases g <;> first | exact (Keeps.out hg (by decide) hgn).elim | with_reducible rfl)
    | (extract_lets +onlyGivenNames s1; refine Keeps.have_ (gs := gs) (o := o0) (t := s1) ?_ (fun h => ?_); (on_goal 1 => subst s1); (on_goal 2 => try clear_value s1))
    | (extract_lets +onlyGivenNames n1; first | (have p : Sys := n1; clear p; subst n1) | (have p : Et := n1; clear p; subst n1) | (have p : Hm := n1; clear p; subst n1) | (have p : Opt := n1; clear p; subst n1) | (have p : Xg := n1; clear p; subst n1) | (have p : Sns := n1; clear p; subst n1) | (have p : Ev := n1; clear p; subst n1) | clear_value n1)
    | (with_reducible refine Keeps.foldl (fun t x h => ?_) ?_)
    | with_reducible apply Keeps.fenceAll_keeps
    | with_reducible apply Keeps.mlbSet_keeps
    | with_reducible apply Keeps.modDie_keeps
    | with_reducible apply Keeps.raise_keeps
    | with_reducible apply Keeps.rejoinDrop_keeps
    | (simp -zeta only [Keeps.mark]; with_reducible refine KeepsLit.intro rfl ?_ ?_ ?_)
    | (with_reducible refine Keeps.ite ?_ ?_)
    | split

theorem Keeps.rejoinStep1_keeps {gs : List Group} (hg : [.sys, .ctl, .mbx, .reg, .ls, .xg, .die, .ev] ⊆ gs) {o0 s : State} (h0 : Keeps gs o0 s) (site : Nat) : Keeps gs o0 (State.rejoinStep1 s site) := by
  unfold State.rejoinStep1
  repeat' first
    | with_reducible assumption
    | with_reducible exact List.Subset.trans (by decide) hg
    | with_reducible exact Regular.keep rfl
    | (intro g hgn; cases g <;> first | exact (Keeps.out hg (by decide) hgn).elim | with_reducible rfl)
    | (extract_lets +onlyGivenNames s1; refine Keeps.have_ (gs := gs) (o := o0) (t := s1) ?_ (fun h => ?_); (on_goal 1 => subst s1); (on_goal 2 => try clear_value s1))
    | (extract_lets +onlyGivenNames n1; first | (have p : Sys := n1; clear p; subst n1) | (have p : Et := n1; clear p; subst n1) | (have p : Hm := n1; clear p; subst n1) | (have p : Opt := n1; clear p; subst n1) | (have p : Xg := n1; clear p; subst n1) | (have p : Sns := n1; clear p; subst n1) | (have p : Ev := n1; clear p; subst n1) | clear_value n1)
    | (with_reducible refine Keeps.foldl (fun t x h => ?_) ?_)
    | with_reducible apply Keeps.modDie_keeps
    | with_reducible apply Keeps.rejoinFail_keeps
    | with_reducible apply Keeps.resetContents_keeps
    | with_reducible apply Keeps.whole_keeps
    | (simp -zeta only [Keeps.mark]; with_reducible refine KeepsLit.intro rfl ?_ ?_ ?_)
    | (with_reducible refine Keeps.ite ?_ ?_)
    | split

theorem Keeps.dieMismatch_keeps {gs : List Group} (hg : [.sys, .mbx, .die, .ev] ⊆ gs) {o0 s : State} (h0 : Keeps gs o0 s) (site : Nat) (type : Nat) (serial : Nat) : Keeps gs o0 (State.dieMismatch s site type serial) := by
  unfold State.dieMismatch
  repeat' first
    | with_reducible assumption
    | with_reducible exact List.Subset.trans (by decide) hg
    | with_reducible exact Regular.keep rfl
    | (intro g hgn; cases g <;> first | exact (Keeps.out hg (by decide) hgn).elim | with_reducible rfl)
    | (extract_lets +onlyGivenNames s1; refine Keeps.have_ (gs := gs) (o := o0) (t := s1) ?_ (fun h => ?_); (on_goal 1 => subst s1); (on_goal 2 => try clear_value s1))
    | (extract_lets +onlyGivenNames n1; first | (have p : Sys := n1; clear p; subst n1) | (have p : Et := n1; clear p; subst n1) | (have p : Hm := n1; clear p; subst n1) | (have p : Opt := n1; clear p; subst n1) | (have p : Xg := n1; clear p; subst n1) | (have p : Sns := n1; clear p; subst n1) | (have p : Ev := n1; clear p; subst n1) | clear_value n1)
    | (with_reducible refine Keeps.foldl (fun t x h => ?_) ?_)
    | with_reducible apply Keeps.mlbSet_keeps
    | with_reducible apply Keeps.modDie_keeps
    | with_reducible apply Keeps.raise_keeps
    | (simp -zeta only [Keeps.mark]; with_reducible refine KeepsLit.intro rfl ?_ ?_ ?_)
    | split

theorem Keeps.rejoinEnd_keeps {gs : List Group} (hg : [.sys, .ctl, .mbx, .reg, .opt, .ls, .xg, .cal, .die, .ev] ⊆ gs) {o0 s : State} (h0 : Keeps gs o0 s) (site : Nat) (t : Nat) (fuse : Option Bytes) (terms : List (RouteTerm × Nat)) (dlanes : List (RegionNo × Nat × Nat)) : Keeps gs o0 (State.rejoinEnd s site t fuse terms dlanes) := by
  unfold State.rejoinEnd
  repeat' first
    | with_reducible assumption
    | with_reducible exact List.Subset.trans (by decide) hg
    | with_reducible exact Regular.keep rfl
    | (intro g hgn; cases g <;> first | exact (Keeps.out hg (by decide) hgn).elim | with_reducible rfl)
    | (extract_lets +onlyGivenNames s1; refine Keeps.have_ (gs := gs) (o := o0) (t := s1) ?_ (fun h => ?_); (on_goal 1 => subst s1); (on_goal 2 => try clear_value s1))
    | (extract_lets +onlyGivenNames n1; first | (have p : Sys := n1; clear p; subst n1) | (have p : Et := n1; clear p; subst n1) | (have p : Hm := n1; clear p; subst n1) | (have p : Opt := n1; clear p; subst n1) | (have p : Xg := n1; clear p; subst n1) | (have p : Sns := n1; clear p; subst n1) | (have p : Ev := n1; clear p; subst n1) | clear_value n1)
    | (with_reducible refine Keeps.foldl (fun t x h => ?_) ?_)
    | (with_reducible refine Keeps.foldl2 (fun t x h => ?_) ?_)
    | (with_reducible refine Keeps.foldl1 (fun t x h => ?_) ?_)
    | with_reducible apply Keeps.calSync_keeps
    | with_reducible apply Keeps.callRoute_keeps
    | with_reducible apply Keeps.dieMismatch_keeps
    | with_reducible apply Keeps.mlbClear_keeps
    | with_reducible apply Keeps.modDie_keeps
    | with_reducible apply Keeps.modRgn_keeps
    | with_reducible apply Keeps.modRgns_keeps
    | with_reducible apply Keeps.modSite_keeps
    | with_reducible apply Keeps.noteTemp_keeps
    | with_reducible apply Keeps.putTerm_keeps
    | with_reducible apply Keeps.raise_keeps
    | with_reducible apply Keeps.rejoinFail_keeps
    | with_reducible apply Keeps.releaseRegions_keeps
    | with_reducible apply Keeps.requestIns_keeps
    | (simp -zeta only [Keeps.mark]; with_reducible refine KeepsLit.intro rfl ?_ ?_ ?_)
    | (with_reducible refine Keeps.ite ?_ ?_)
    | split

theorem Keeps.execRejoin_keeps {gs : List Group} (hg : [.sys, .ctl, .mbx, .reg, .opt, .ls, .xg, .cal, .die, .ev] ⊆ gs) {o0 s : State} (h0 : Keeps gs o0 s) (site : Site) (fuse : Option Bytes) (terms : List (RouteTerm × Nat) := []) (dlanes : List (RegionNo × Nat × Nat) := []) : KeepsOut gs o0 (execRejoin site fuse s terms dlanes) := by
  unfold execRejoin
  repeat' first
    | with_reducible assumption
    | with_reducible exact List.Subset.trans (by decide) hg
    | with_reducible exact Regular.keep rfl
    | (intro g hgn; cases g <;> first | exact (Keeps.out hg (by decide) hgn).elim | with_reducible rfl)
    | (extract_lets +onlyGivenNames s1; refine Keeps.have_ (gs := gs) (o := o0) (t := s1) ?_ (fun h => ?_); (on_goal 1 => subst s1); (on_goal 2 => try clear_value s1))
    | (extract_lets +onlyGivenNames n1; first | (have p : Sys := n1; clear p; subst n1) | (have p : Et := n1; clear p; subst n1) | (have p : Hm := n1; clear p; subst n1) | (have p : Opt := n1; clear p; subst n1) | (have p : Xg := n1; clear p; subst n1) | (have p : Sns := n1; clear p; subst n1) | (have p : Ev := n1; clear p; subst n1) | clear_value n1)
    | (with_reducible refine Keeps.foldl (fun t x h => ?_) ?_)
    | (with_reducible refine KeepsOut.next ?_)
    | with_reducible apply Keeps.rejoinEnd_keeps
    | with_reducible apply Keeps.rejoinStep1_keeps
    | (simp -zeta only [Keeps.mark]; with_reducible refine KeepsLit.intro rfl ?_ ?_ ?_)
    | (with_reducible refine Keeps.ite ?_ ?_)
    | split

theorem Keeps.execRejoinStep2Timeout_keeps {gs : List Group} (hg : [.sys, .mbx, .reg, .ls, .xg, .die, .ev] ⊆ gs) {o0 s : State} (h0 : Keeps gs o0 s) (site : Site) : KeepsOut gs o0 (execRejoinStep2Timeout site s) := by
  unfold execRejoinStep2Timeout
  repeat' first
    | with_reducible assumption
    | with_reducible exact List.Subset.trans (by decide) hg
    | with_reducible exact Regular.keep rfl
    | (intro g hgn; cases g <;> first | exact (Keeps.out hg (by decide) hgn).elim | with_reducible rfl)
    | (extract_lets +onlyGivenNames s1; refine Keeps.have_ (gs := gs) (o := o0) (t := s1) ?_ (fun h => ?_); (on_goal 1 => subst s1); (on_goal 2 => try clear_value s1))
    | (extract_lets +onlyGivenNames n1; first | (have p : Sys := n1; clear p; subst n1) | (have p : Et := n1; clear p; subst n1) | (have p : Hm := n1; clear p; subst n1) | (have p : Opt := n1; clear p; subst n1) | (have p : Xg := n1; clear p; subst n1) | (have p : Sns := n1; clear p; subst n1) | (have p : Ev := n1; clear p; subst n1) | clear_value n1)
    | (with_reducible refine Keeps.foldl (fun t x h => ?_) ?_)
    | (with_reducible refine KeepsOut.next ?_)
    | with_reducible apply Keeps.rejoinFail_keeps
    | (simp -zeta only [Keeps.mark]; with_reducible refine KeepsLit.intro rfl ?_ ?_ ?_)
    | (with_reducible refine Keeps.ite ?_ ?_)
    | split

theorem Keeps.discovered_keeps {gs : List Group} (hg : [.sys, .mbx, .reg, .opt, .ls, .die, .ev] ⊆ gs) {o0 s : State} (h0 : Keeps gs o0 s) (site : Nat) (caps : Option UcieCaps) : Keeps gs o0 (State.discovered s site caps) := by
  unfold State.discovered
  repeat' first
    | with_reducible assumption
    | with_reducible exact List.Subset.trans (by decide) hg
    | with_reducible exact Regular.keep rfl
    | (intro g hgn; cases g <;> first | exact (Keeps.out hg (by decide) hgn).elim | with_reducible rfl)
    | (extract_lets +onlyGivenNames s1; refine Keeps.have_ (gs := gs) (o := o0) (t := s1) ?_ (fun h => ?_); (on_goal 1 => subst s1); (on_goal 2 => try clear_value s1))
    | (extract_lets +onlyGivenNames n1; first | (have p : Sys := n1; clear p; subst n1) | (have p : Et := n1; clear p; subst n1) | (have p : Hm := n1; clear p; subst n1) | (have p : Opt := n1; clear p; subst n1) | (have p : Xg := n1; clear p; subst n1) | (have p : Sns := n1; clear p; subst n1) | (have p : Ev := n1; clear p; subst n1) | clear_value n1)
    | (with_reducible refine Keeps.foldl (fun t x h => ?_) ?_)
    | with_reducible apply Keeps.calSite_keeps
    | with_reducible apply Keeps.mlbSet_keeps
    | with_reducible apply Keeps.modDie_keeps
    | with_reducible apply Keeps.raise_keeps
    | with_reducible apply Keeps.raiseIf_keeps
    | (simp -zeta only [Keeps.mark]; with_reducible refine KeepsLit.intro rfl ?_ ?_ ?_)
    | (with_reducible refine Keeps.ite ?_ ?_)
    | split

theorem Keeps.execUcieDiscovery_keeps {gs : List Group} (hg : [.sys, .mbx, .reg, .opt, .ls, .die, .ev] ⊆ gs) {o0 s : State} (h0 : Keeps gs o0 s) (site : Site) (caps : Option UcieCaps) : KeepsOut gs o0 (execUcieDiscovery site caps s) := by
  unfold execUcieDiscovery
  repeat' first
    | with_reducible assumption
    | with_reducible exact List.Subset.trans (by decide) hg
    | with_reducible exact Regular.keep rfl
    | (intro g hgn; cases g <;> first | exact (Keeps.out hg (by decide) hgn).elim | with_reducible rfl)
    | (extract_lets +onlyGivenNames s1; refine Keeps.have_ (gs := gs) (o := o0) (t := s1) ?_ (fun h => ?_); (on_goal 1 => subst s1); (on_goal 2 => try clear_value s1))
    | (extract_lets +onlyGivenNames n1; first | (have p : Sys := n1; clear p; subst n1) | (have p : Et := n1; clear p; subst n1) | (have p : Hm := n1; clear p; subst n1) | (have p : Opt := n1; clear p; subst n1) | (have p : Xg := n1; clear p; subst n1) | (have p : Sns := n1; clear p; subst n1) | (have p : Ev := n1; clear p; subst n1) | clear_value n1)
    | (with_reducible refine Keeps.foldl (fun t x h => ?_) ?_)
    | (with_reducible refine KeepsOut.next ?_)
    | with_reducible apply Keeps.discovered_keeps
    | (simp -zeta only [Keeps.mark]; with_reducible refine KeepsLit.intro rfl ?_ ?_ ?_)
    | (with_reducible refine Keeps.ite ?_ ?_)
    | split

theorem Keeps.execDiscoveryRetry_keeps {gs : List Group} (hg : [.sys, .mbx, .reg, .opt, .ls, .die, .ev] ⊆ gs) {o0 s : State} (h0 : Keeps gs o0 s) (site : Site) (caps : Option UcieCaps) : KeepsOut gs o0 (execDiscoveryRetry site caps s) := by
  unfold execDiscoveryRetry
  repeat' first
    | with_reducible assumption
    | with_reducible exact List.Subset.trans (by decide) hg
    | with_reducible exact Regular.keep rfl
    | (intro g hgn; cases g <;> first | exact (Keeps.out hg (by decide) hgn).elim | with_reducible rfl)
    | (extract_lets +onlyGivenNames s1; refine Keeps.have_ (gs := gs) (o := o0) (t := s1) ?_ (fun h => ?_); (on_goal 1 => subst s1); (on_goal 2 => try clear_value s1))
    | (extract_lets +onlyGivenNames n1; first | (have p : Sys := n1; clear p; subst n1) | (have p : Et := n1; clear p; subst n1) | (have p : Hm := n1; clear p; subst n1) | (have p : Opt := n1; clear p; subst n1) | (have p : Xg := n1; clear p; subst n1) | (have p : Sns := n1; clear p; subst n1) | (have p : Ev := n1; clear p; subst n1) | clear_value n1)
    | (with_reducible refine Keeps.foldl (fun t x h => ?_) ?_)
    | (with_reducible refine KeepsOut.next ?_)
    | with_reducible apply Keeps.discovered_keeps
    | (simp -zeta only [Keeps.mark]; with_reducible refine KeepsLit.intro rfl ?_ ?_ ?_)
    | (with_reducible refine Keeps.ite ?_ ?_)
    | split

theorem Keeps.sideLost_keeps {gs : List Group} (hg : [.die, .ev] ⊆ gs) {o0 s : State} (h0 : Keeps gs o0 s) (site : Nat) : Keeps gs o0 (State.sideLost s site) := by
  unfold State.sideLost
  repeat' first
    | with_reducible assumption
    | with_reducible exact List.Subset.trans (by decide) hg
    | with_reducible exact Regular.keep rfl
    | (intro g hgn; cases g <;> first | exact (Keeps.out hg (by decide) hgn).elim | with_reducible rfl)
    | (extract_lets +onlyGivenNames s1; refine Keeps.have_ (gs := gs) (o := o0) (t := s1) ?_ (fun h => ?_); (on_goal 1 => subst s1); (on_goal 2 => try clear_value s1))
    | (extract_lets +onlyGivenNames n1; first | (have p : Sys := n1; clear p; subst n1) | (have p : Et := n1; clear p; subst n1) | (have p : Hm := n1; clear p; subst n1) | (have p : Opt := n1; clear p; subst n1) | (have p : Xg := n1; clear p; subst n1) | (have p : Sns := n1; clear p; subst n1) | (have p : Ev := n1; clear p; subst n1) | clear_value n1)
    | (with_reducible refine Keeps.foldl (fun t x h => ?_) ?_)
    | with_reducible apply Keeps.modDie_keeps
    | with_reducible apply Keeps.raise_keeps
    | (simp -zeta only [Keeps.mark]; with_reducible refine KeepsLit.intro rfl ?_ ?_ ?_)
    | split

theorem Keeps.execForeignDiePoll_keeps {gs : List Group} (hg : [.die, .ev] ⊆ gs) {o0 s : State} (h0 : Keeps gs o0 s) (site : Site) (answered : Bool) : KeepsOut gs o0 (execForeignDiePoll site answered s) := by
  unfold execForeignDiePoll
  repeat' first
    | with_reducible assumption
    | with_reducible exact List.Subset.trans (by decide) hg
    | with_reducible exact Regular.keep rfl
    | (intro g hgn; cases g <;> first | exact (Keeps.out hg (by decide) hgn).elim | with_reducible rfl)
    | (extract_lets +onlyGivenNames s1; refine Keeps.have_ (gs := gs) (o := o0) (t := s1) ?_ (fun h => ?_); (on_goal 1 => subst s1); (on_goal 2 => try clear_value s1))
    | (extract_lets +onlyGivenNames n1; first | (have p : Sys := n1; clear p; subst n1) | (have p : Et := n1; clear p; subst n1) | (have p : Hm := n1; clear p; subst n1) | (have p : Opt := n1; clear p; subst n1) | (have p : Xg := n1; clear p; subst n1) | (have p : Sns := n1; clear p; subst n1) | (have p : Ev := n1; clear p; subst n1) | clear_value n1)
    | (with_reducible refine Keeps.foldl (fun t x h => ?_) ?_)
    | (with_reducible refine KeepsOut.next ?_)
    | with_reducible apply Keeps.modDie_keeps
    | with_reducible apply Keeps.sideLost_keeps
    | (simp -zeta only [Keeps.mark]; with_reducible refine KeepsLit.intro rfl ?_ ?_ ?_)
    | (with_reducible refine Keeps.ite ?_ ?_)
    | split

theorem Keeps.execSidebandLinkDown_keeps {gs : List Group} (hg : [.die, .ev] ⊆ gs) {o0 s : State} (h0 : Keeps gs o0 s) (site : Site) : KeepsOut gs o0 (execSidebandLinkDown site s) := by
  unfold execSidebandLinkDown
  repeat' first
    | with_reducible assumption
    | with_reducible exact List.Subset.trans (by decide) hg
    | with_reducible exact Regular.keep rfl
    | (intro g hgn; cases g <;> first | exact (Keeps.out hg (by decide) hgn).elim | with_reducible rfl)
    | (extract_lets +onlyGivenNames s1; refine Keeps.have_ (gs := gs) (o := o0) (t := s1) ?_ (fun h => ?_); (on_goal 1 => subst s1); (on_goal 2 => try clear_value s1))
    | (extract_lets +onlyGivenNames n1; first | (have p : Sys := n1; clear p; subst n1) | (have p : Et := n1; clear p; subst n1) | (have p : Hm := n1; clear p; subst n1) | (have p : Opt := n1; clear p; subst n1) | (have p : Xg := n1; clear p; subst n1) | (have p : Sns := n1; clear p; subst n1) | (have p : Ev := n1; clear p; subst n1) | clear_value n1)
    | (with_reducible refine Keeps.foldl (fun t x h => ?_) ?_)
    | (with_reducible refine KeepsOut.next ?_)
    | with_reducible apply Keeps.modDie_keeps
    | with_reducible apply Keeps.sideLost_keeps
    | (simp -zeta only [Keeps.mark]; with_reducible refine KeepsLit.intro rfl ?_ ?_ ?_)
    | (with_reducible refine Keeps.ite ?_ ?_)
    | split

theorem Keeps.cmdDieQuery_keeps {gs : List Group} (hg : [] ⊆ gs) {o0 s : State} (h0 : Keeps gs o0 s) (q : Req) : KeepsRes gs o0 (cmdDieQuery q s) := by
  unfold cmdDieQuery
  repeat' first
    | with_reducible assumption
    | with_reducible exact List.Subset.trans (by decide) hg
    | with_reducible exact Regular.keep rfl
    | (intro g hgn; cases g <;> first | exact (Keeps.out hg (by decide) hgn).elim | with_reducible rfl)
    | (extract_lets +onlyGivenNames s1; refine KeepsRes.have_ (gs := gs) (o := o0) (r := s1) ?_ (fun h => ?_); (on_goal 1 => subst s1); (on_goal 2 => try clear_value s1))
    | (extract_lets +onlyGivenNames s1; refine Keeps.have_ (gs := gs) (o := o0) (t := s1) ?_ (fun h => ?_); (on_goal 1 => subst s1); (on_goal 2 => try clear_value s1))
    | (extract_lets +onlyGivenNames n1; first | (have p : Sys := n1; clear p; subst n1) | (have p : Et := n1; clear p; subst n1) | (have p : Hm := n1; clear p; subst n1) | (have p : Opt := n1; clear p; subst n1) | (have p : Xg := n1; clear p; subst n1) | (have p : Sns := n1; clear p; subst n1) | (have p : Ev := n1; clear p; subst n1) | clear_value n1)
    | (with_reducible refine Keeps.foldl (fun t x h => ?_) ?_)
    | (with_reducible refine KeepsRes.done ?_)
    | (with_reducible refine KeepsRes.wait ?_)
    | (with_reducible refine KeepsRes.refuse ?_)
    | with_reducible apply Keeps.refuse_keeps
    | (simp -zeta only [Keeps.mark]; with_reducible refine KeepsLit.intro rfl ?_ ?_ ?_)
    | split

theorem Keeps.execDieQuery_keeps {gs : List Group} (hg : [.mbx] ⊆ gs) {o0 s : State} (h0 : Keeps gs o0 s) (q : Req) : KeepsOut gs o0 (execDieQuery q s) := by
  unfold execDieQuery
  repeat' first
    | with_reducible assumption
    | with_reducible exact List.Subset.trans (by decide) hg
    | with_reducible exact Regular.keep rfl
    | (intro g hgn; cases g <;> first | exact (Keeps.out hg (by decide) hgn).elim | with_reducible rfl)
    | (extract_lets +onlyGivenNames s1; refine Keeps.have_ (gs := gs) (o := o0) (t := s1) ?_ (fun h => ?_); (on_goal 1 => subst s1); (on_goal 2 => try clear_value s1))
    | (extract_lets +onlyGivenNames n1; first | (have p : Sys := n1; clear p; subst n1) | (have p : Et := n1; clear p; subst n1) | (have p : Hm := n1; clear p; subst n1) | (have p : Opt := n1; clear p; subst n1) | (have p : Xg := n1; clear p; subst n1) | (have p : Sns := n1; clear p; subst n1) | (have p : Ev := n1; clear p; subst n1) | clear_value n1)
    | (with_reducible refine Keeps.foldl (fun t x h => ?_) ?_)
    | (with_reducible refine KeepsOut.next ?_)
    | (with_reducible refine Keeps.submit_keeps ?_ ?_ _ _ (fun q t h => ?_) _)
    | with_reducible apply Keeps.cmdDieQuery_keeps
    | (simp -zeta only [Keeps.mark]; with_reducible refine KeepsLit.intro rfl ?_ ?_ ?_)
    | split

theorem Keeps.modSp_keeps {gs : List Group} (hg : [.sp] ⊆ gs) {o0 s : State} (h0 : Keeps gs o0 s) (one : Bool) (f : SpanPort → SpanPort) : Keeps gs o0 (State.modSp s one f) := by
  unfold State.modSp
  repeat' first
    | with_reducible assumption
    | with_reducible exact List.Subset.trans (by decide) hg
    | with_reducible exact Regular.keep rfl
    | (intro g hgn; cases g <;> first | exact (Keeps.out hg (by decide) hgn).elim | with_reducible rfl)
    | (extract_lets +onlyGivenNames s1; refine Keeps.have_ (gs := gs) (o := o0) (t := s1) ?_ (fun h => ?_); (on_goal 1 => subst s1); (on_goal 2 => try clear_value s1))
    | (extract_lets +onlyGivenNames n1; first | (have p : Sys := n1; clear p; subst n1) | (have p : Et := n1; clear p; subst n1) | (have p : Hm := n1; clear p; subst n1) | (have p : Opt := n1; clear p; subst n1) | (have p : Xg := n1; clear p; subst n1) | (have p : Sns := n1; clear p; subst n1) | (have p : Ev := n1; clear p; subst n1) | clear_value n1)
    | (with_reducible refine Keeps.foldl (fun t x h => ?_) ?_)
    | (simp -zeta only [Keeps.mark]; with_reducible refine KeepsLit.intro rfl ?_ ?_ ?_)
    | (with_reducible refine Keeps.ite ?_ ?_)
    | split

theorem Keeps.reselect_keeps {gs : List Group} (hg : [.et, .sp] ⊆ gs) {o0 s : State} (h0 : Keeps gs o0 s) : Keeps gs o0 (State.reselect s) := by
  unfold State.reselect
  repeat' first
    | with_reducible assumption
    | with_reducible exact List.Subset.trans (by decide) hg
    | with_reducible exact Regular.keep rfl
    | (intro g hgn; cases g <;> first | exact (Keeps.out hg (by decide) hgn).elim | with_reducible rfl)
    | (extract_lets +onlyGivenNames f1; (first | (refine Keeps.fun1 f1 ?_) | (refine Keeps.fun2 f1 ?_) | (refine Keeps.fun3 f1 ?_) | (refine KeepsRes.fun1 f1 ?_)); subst f1; beta_reduce)
    | (extract_lets +onlyGivenNames s1; refine Keeps.have_ (gs := gs) (o := o0) (t := s1) ?_ (fun h => ?_); (on_goal 1 => subst s1); (on_goal 2 => try clear_value s1))
    | (extract_lets +onlyGivenNames n1; first | (have p : Sys := n1; clear p; subst n1) | (have p : Et := n1; clear p; subst n1) | (have p : Hm := n1; clear p; subst n1) | (have p : Opt := n1; clear p; subst n1) | (have p : Xg := n1; clear p; subst n1) | (have p : Sns := n1; clear p; subst n1) | (have p : Ev := n1; clear p; subst n1) | clear_value n1)
    | (with_reducible refine Keeps.foldl (fun t x h => ?_) ?_)
    | with_reducible apply Keeps.modSp_keeps
    | (simp -zeta only [Keeps.mark]; with_reducible refine KeepsLit.intro rfl ?_ ?_ ?_)
    | (with_reducible refine Keeps.ite ?_ ?_)
    | split

theorem Keeps.applyRack_keeps {gs : List Group} (hg : [.et, .ev] ⊆ gs) {o0 s : State} (h0 : Keeps gs o0 s) (x : Int) : Keeps gs o0 (State.applyRack s x).1 := by
  unfold State.applyRack
  repeat' first
    | with_reducible assumption
    | with_reducible exact List.Subset.trans (by decide) hg
    | with_reducible exact Regular.keep rfl
    | (intro g hgn; cases g <;> first | exact (Keeps.out hg (by decide) hgn).elim | with_reducible rfl)
    | (extract_lets +onlyGivenNames s1; refine Keeps.have_ (gs := gs) (o := o0) (t := s1) ?_ (fun h => ?_); (on_goal 1 => subst s1); (on_goal 2 => try clear_value s1))
    | (extract_lets +onlyGivenNames n1; first | (have p : Sys := n1; clear p; subst n1) | (have p : Et := n1; clear p; subst n1) | (have p : Hm := n1; clear p; subst n1) | (have p : Opt := n1; clear p; subst n1) | (have p : Xg := n1; clear p; subst n1) | (have p : Sns := n1; clear p; subst n1) | (have p : Ev := n1; clear p; subst n1) | clear_value n1)
    | (with_reducible refine Keeps.foldl (fun t x h => ?_) ?_)
    | (with_reducible refine Keeps.foldl2 (fun t x h => ?_) ?_)
    | (with_reducible refine Keeps.foldl1 (fun t x h => ?_) ?_)
    | (dsimp -zeta only)
    | with_reducible apply Keeps.raise_keeps
    | (simp -zeta only [Keeps.mark]; with_reducible refine KeepsLit.intro rfl ?_ ?_ ?_)
    | (with_reducible refine Keeps.ite ?_ ?_)
    | split

theorem Keeps.applyRate_keeps {gs : List Group} (hg : [.et] ⊆ gs) {o0 s : State} (h0 : Keeps gs o0 s) (err : Int) : Keeps gs o0 (State.applyRate s err) := by
  unfold State.applyRate
  repeat' first
    | with_reducible assumption
    | with_reducible exact List.Subset.trans (by decide) hg
    | with_reducible exact Regular.keep rfl
    | (intro g hgn; cases g <;> first | exact (Keeps.out hg (by decide) hgn).elim | with_reducible rfl)
    | (extract_lets +onlyGivenNames s1; refine Keeps.have_ (gs := gs) (o := o0) (t := s1) ?_ (fun h => ?_); (on_goal 1 => subst s1); (on_goal 2 => try clear_value s1))
    | (extract_lets +onlyGivenNames n1; first | (have p : Sys := n1; clear p; subst n1) | (have p : Et := n1; clear p; subst n1) | (have p : Hm := n1; clear p; subst n1) | (have p : Opt := n1; clear p; subst n1) | (have p : Xg := n1; clear p; subst n1) | (have p : Sns := n1; clear p; subst n1) | (have p : Ev := n1; clear p; subst n1) | clear_value n1)
    | (with_reducible refine Keeps.foldl (fun t x h => ?_) ?_)
    | (simp -zeta only [Keeps.mark]; with_reducible refine KeepsLit.intro rfl ?_ ?_ ?_)
    | split

theorem Keeps.discipline_keeps {gs : List Group} (hg : [.et, .sp, .ev] ⊆ gs) {o0 s : State} (h0 : Keeps gs o0 s) (one : Bool) : Keeps gs o0 (State.discipline s one) := by
  unfold State.discipline
  repeat' first
    | with_reducible assumption
    | with_reducible exact List.Subset.trans (by decide) hg
    | with_reducible exact Regular.keep rfl
    | (intro g hgn; cases g <;> first | exact (Keeps.out hg (by decide) hgn).elim | with_reducible rfl)
    | (extract_lets +onlyGivenNames s1; refine Keeps.have_ (gs := gs) (o := o0) (t := s1) ?_ (fun h => ?_); (on_goal 1 => subst s1); (on_goal 2 => try clear_value s1))
    | (extract_lets +onlyGivenNames n1; first | (have p : Sys := n1; clear p; subst n1) | (have p : Et := n1; clear p; subst n1) | (have p : Hm := n1; clear p; subst n1) | (have p : Opt := n1; clear p; subst n1) | (have p : Xg := n1; clear p; subst n1) | (have p : Sns := n1; clear p; subst n1) | (have p : Ev := n1; clear p; subst n1) | clear_value n1)
    | (with_reducible refine Keeps.foldl (fun t x h => ?_) ?_)
    | with_reducible apply Keeps.applyRack_keeps
    | with_reducible apply Keeps.applyRate_keeps
    | with_reducible apply Keeps.modSp_keeps
    | (simp -zeta only [Keeps.mark]; with_reducible refine KeepsLit.intro rfl ?_ ?_ ?_)
    | (with_reducible refine KeepsOpt.getD ?_ ?_)
    | (with_reducible refine Keeps.optEq (by assumption) ?_)
    | (with_reducible refine Keeps.pairEq1 (by assumption) ?_)
    | (with_reducible refine Keeps.pairEq2 (by assumption) ?_)
    | (with_reducible refine Keeps.ite ?_ ?_)
    | split

theorem Keeps.dropSource_keeps {gs : List Group} (hg : [.et, .sp] ⊆ gs) {o0 s : State} (h0 : Keeps gs o0 s) (old : Nat) : Keeps gs o0 (State.dropSource s old) := by
  unfold State.dropSource
  repeat' first
    | with_reducible assumption
    | with_reducible exact List.Subset.trans (by decide) hg
    | with_reducible exact Regular.keep rfl
    | (intro g hgn; cases g <;> first | exact (Keeps.out hg (by decide) hgn).elim | with_reducible rfl)
    | (extract_lets +onlyGivenNames f1; (first | (refine Keeps.fun1 f1 ?_) | (refine Keeps.fun2 f1 ?_) | (refine Keeps.fun3 f1 ?_) | (refine KeepsRes.fun1 f1 ?_)); subst f1; beta_reduce)
    | (extract_lets +onlyGivenNames s1; refine Keeps.have_ (gs := gs) (o := o0) (t := s1) ?_ (fun h => ?_); (on_goal 1 => subst s1); (on_goal 2 => try clear_value s1))
    | (extract_lets +onlyGivenNames n1; first | (have p : Sys := n1; clear p; subst n1) | (have p : Et := n1; clear p; subst n1) | (have p : Hm := n1; clear p; subst n1) | (have p : Opt := n1; clear p; subst n1) | (have p : Xg := n1; clear p; subst n1) | (have p : Sns := n1; clear p; subst n1) | (have p : Ev := n1; clear p; subst n1) | clear_value n1)
    | (with_reducible refine Keeps.foldl (fun t x h => ?_) ?_)
    | with_reducible apply Keeps.modSp_keeps
    | (simp -zeta only [Keeps.mark]; with_reducible refine KeepsLit.intro rfl ?_ ?_ ?_)
    | (with_reducible refine Keeps.ite ?_ ?_)
    | split

theorem Et.steps_same (x : Et) : x.rateStep.rackStep.wptr = x.wptr ∧ x.rateStep.rackStep.anchors = x.anchors ∧ x.rateStep.rackStep.ring = x.ring := by
  unfold Et.rateStep Et.rackStep
  split <;> exact ⟨rfl, rfl, rfl⟩

theorem Keeps.execErgWindowDiscipline_keeps {gs : List Group} (hg : [.et, .xg, .sp] ⊆ gs) {o0 s : State} (h0 : Keeps gs o0 s) :
    KeepsOut gs o0 (execErgWindowDiscipline s) := by
  have sub : ∀ {ts : List Group}, ts ⊆ [.et, .xg, .sp] → ts ⊆ gs := fun h => List.Subset.trans h hg
  have et : ∀ (t : State) (x : Et), x.wptr = t.et.wptr → x.anchors = t.et.anchors → x.ring = t.et.ring → Keeps gs o0 t → Keeps gs o0 { t with et := x } := by
    intro t x e1 e2 e3 h
    refine h.trans ⟨⟨?_⟩, Regular.keep (by simp only [regularPart, e1, e2, e3])⟩
    intro g hgn
    cases g <;> first | exact (Keeps.out hg (by decide) hgn).elim | with_reducible rfl
  unfold execErgWindowDiscipline
  split
  · exact KeepsOut.next h0
  · extract_lets old e1 x1 p1 s1 s2 any e2 s3 s4 e3 s5
    have a1 : Keeps gs o0 s1 := h0.trans ⟨⟨fun g hgn => by cases g <;> first | exact (Keeps.out hg (by decide) hgn).elim | with_reducible rfl⟩, Regular.keep rfl⟩
    have a2 : Keeps gs o0 s2 := Keeps.ite a1 (Keeps.dropSource_keeps (sub (by decide)) a1 _)
    have a3 : Keeps gs o0 s3 := Keeps.ite (Keeps.ite a2 (Keeps.ite (et _ _ rfl rfl rfl a2) (Keeps.ite (et _ _ rfl rfl rfl a2) a2))) a2
    have a4 : Keeps gs o0 s4 := Keeps.reselect_keeps (sub (by decide)) a3
    have a5 : Keeps gs o0 s5 := Keeps.ite a4 (et _ _ rfl rfl rfl a4)
    split
    · exact KeepsOut.next a5
    · exact KeepsOut.next (et _ _ (Et.steps_same _).1 (Et.steps_same _).2.1 (Et.steps_same _).2.2 a5)

theorem Keeps.execRackAdoptIdle_keeps {gs : List Group} (hg : [.et] ⊆ gs) {o0 s : State} (h0 : Keeps gs o0 s) : KeepsOut gs o0 (execRackAdoptIdle s) := by
  unfold execRackAdoptIdle
  repeat' first
    | with_reducible assumption
    | with_reducible exact List.Subset.trans (by decide) hg
    | with_reducible exact Regular.keep rfl
    | (intro g hgn; cases g <;> first | exact (Keeps.out hg (by decide) hgn).elim | with_reducible rfl)
    | (extract_lets +onlyGivenNames s1; refine Keeps.have_ (gs := gs) (o := o0) (t := s1) ?_ (fun h => ?_); (on_goal 1 => subst s1); (on_goal 2 => try clear_value s1))
    | (extract_lets +onlyGivenNames n1; first | (have p : Sys := n1; clear p; subst n1) | (have p : Et := n1; clear p; subst n1) | (have p : Hm := n1; clear p; subst n1) | (have p : Opt := n1; clear p; subst n1) | (have p : Xg := n1; clear p; subst n1) | (have p : Sns := n1; clear p; subst n1) | (have p : Ev := n1; clear p; subst n1) | clear_value n1)
    | (with_reducible refine Keeps.foldl (fun t x h => ?_) ?_)
    | (with_reducible refine KeepsOut.next ?_)
    | (simp -zeta only [Keeps.mark]; with_reducible refine KeepsLit.intro rfl ?_ ?_ ?_)
    | (with_reducible refine Keeps.ite ?_ ?_)
    | split

theorem Keeps.modPeer_keeps {gs : List Group} (hg : [.sp] ⊆ gs) {o0 s : State} (h0 : Keeps gs o0 s) (id : BitVec 64) (f : SpanPort → SpanPort) : Keeps gs o0 (State.modPeer s id f) := by
  unfold State.modPeer
  repeat' first
    | with_reducible assumption
    | with_reducible exact List.Subset.trans (by decide) hg
    | with_reducible exact Regular.keep rfl
    | (intro g hgn; cases g <;> first | exact (Keeps.out hg (by decide) hgn).elim | with_reducible rfl)
    | (extract_lets +onlyGivenNames f1; (first | (refine Keeps.fun1 f1 ?_) | (refine Keeps.fun2 f1 ?_) | (refine Keeps.fun3 f1 ?_) | (refine KeepsRes.fun1 f1 ?_)); subst f1; beta_reduce)
    | (extract_lets +onlyGivenNames s1; refine Keeps.have_ (gs := gs) (o := o0) (t := s1) ?_ (fun h => ?_); (on_goal 1 => subst s1); (on_goal 2 => try clear_value s1))
    | (extract_lets +onlyGivenNames n1; first | (have p : Sys := n1; clear p; subst n1) | (have p : Et := n1; clear p; subst n1) | (have p : Hm := n1; clear p; subst n1) | (have p : Opt := n1; clear p; subst n1) | (have p : Xg := n1; clear p; subst n1) | (have p : Sns := n1; clear p; subst n1) | (have p : Ev := n1; clear p; subst n1) | clear_value n1)
    | (with_reducible refine Keeps.foldl (fun t x h => ?_) ?_)
    | with_reducible apply Keeps.modSp_keeps
    | (simp -zeta only [Keeps.mark]; with_reducible refine KeepsLit.intro rfl ?_ ?_ ?_)
    | (with_reducible refine Keeps.ite ?_ ?_)
    | split

theorem Keeps.quarantine_keeps {gs : List Group} (hg : [.et, .sp, .ev] ⊆ gs) {o0 s : State} (h0 : Keeps gs o0 s) (one : Bool) (reason : Nat) : Keeps gs o0 (State.quarantine s one reason) := by
  unfold State.quarantine
  repeat' first
    | with_reducible assumption
    | with_reducible exact List.Subset.trans (by decide) hg
    | with_reducible exact Regular.keep rfl
    | (intro g hgn; cases g <;> first | exact (Keeps.out hg (by decide) hgn).elim | with_reducible rfl)
    | (extract_lets +onlyGivenNames s1; refine Keeps.have_ (gs := gs) (o := o0) (t := s1) ?_ (fun h => ?_); (on_goal 1 => subst s1); (on_goal 2 => try clear_value s1))
    | (extract_lets +onlyGivenNames n1; first | (have p : Sys := n1; clear p; subst n1) | (have p : Et := n1; clear p; subst n1) | (have p : Hm := n1; clear p; subst n1) | (have p : Opt := n1; clear p; subst n1) | (have p : Xg := n1; clear p; subst n1) | (have p : Sns := n1; clear p; subst n1) | (have p : Ev := n1; clear p; subst n1) | clear_value n1)
    | (with_reducible refine Keeps.foldl (fun t x h => ?_) ?_)
    | with_reducible apply Keeps.modPeer_keeps
    | with_reducible apply Keeps.raise_keeps
    | with_reducible apply Keeps.reselect_keeps
    | (simp -zeta only [Keeps.mark]; with_reducible refine KeepsLit.intro rfl ?_ ?_ ?_)
    | (with_reducible refine Keeps.ite ?_ ?_)
    | split

theorem Keeps.execQuarantineExpiry_keeps {gs : List Group} (hg : [.et, .sp] ⊆ gs) {o0 s : State} (h0 : Keeps gs o0 s) (id : BitVec 64) : KeepsOut gs o0 (execQuarantineExpiry id s) := by
  unfold execQuarantineExpiry
  repeat' first
    | with_reducible assumption
    | with_reducible exact List.Subset.trans (by decide) hg
    | with_reducible exact Regular.keep rfl
    | (intro g hgn; cases g <;> first | exact (Keeps.out hg (by decide) hgn).elim | with_reducible rfl)
    | (extract_lets +onlyGivenNames s1; refine Keeps.have_ (gs := gs) (o := o0) (t := s1) ?_ (fun h => ?_); (on_goal 1 => subst s1); (on_goal 2 => try clear_value s1))
    | (extract_lets +onlyGivenNames n1; first | (have p : Sys := n1; clear p; subst n1) | (have p : Et := n1; clear p; subst n1) | (have p : Hm := n1; clear p; subst n1) | (have p : Opt := n1; clear p; subst n1) | (have p : Xg := n1; clear p; subst n1) | (have p : Sns := n1; clear p; subst n1) | (have p : Ev := n1; clear p; subst n1) | clear_value n1)
    | (with_reducible refine Keeps.foldl (fun t x h => ?_) ?_)
    | (with_reducible refine KeepsOut.next ?_)
    | with_reducible apply Keeps.modPeer_keeps
    | with_reducible apply Keeps.reselect_keeps
    | (simp -zeta only [Keeps.mark]; with_reducible refine KeepsLit.intro rfl ?_ ?_ ?_)
    | (with_reducible refine Keeps.ite ?_ ?_)
    | split

theorem Keeps.takeFrame_keeps {gs : List Group} (hg : [.sp] ⊆ gs) {o0 s : State} (h0 : Keeps gs o0 s) (one : Bool) (f : Frame) : Keeps gs o0 (State.takeFrame s one f) := by
  unfold State.takeFrame
  repeat' first
    | with_reducible assumption
    | with_reducible exact List.Subset.trans (by decide) hg
    | with_reducible exact Regular.keep rfl
    | (intro g hgn; cases g <;> first | exact (Keeps.out hg (by decide) hgn).elim | with_reducible rfl)
    | (extract_lets +onlyGivenNames s1; refine Keeps.have_ (gs := gs) (o := o0) (t := s1) ?_ (fun h => ?_); (on_goal 1 => subst s1); (on_goal 2 => try clear_value s1))
    | (extract_lets +onlyGivenNames n1; first | (have p : Sys := n1; clear p; subst n1) | (have p : Et := n1; clear p; subst n1) | (have p : Hm := n1; clear p; subst n1) | (have p : Opt := n1; clear p; subst n1) | (have p : Xg := n1; clear p; subst n1) | (have p : Sns := n1; clear p; subst n1) | (have p : Ev := n1; clear p; subst n1) | clear_value n1)
    | (with_reducible refine Keeps.foldl (fun t x h => ?_) ?_)
    | with_reducible apply Keeps.modSp_keeps
    | (simp -zeta only [Keeps.mark]; with_reducible refine KeepsLit.intro rfl ?_ ?_ ?_)
    | (with_reducible refine Keeps.ite ?_ ?_)
    | split

theorem Keeps.rejectFrame_keeps {gs : List Group} (hg : [.et, .sp, .ev] ⊆ gs) {o0 s : State} (h0 : Keeps gs o0 s) (one : Bool) (why : FrameFault) : Keeps gs o0 (State.rejectFrame s one why) := by
  unfold State.rejectFrame
  repeat' first
    | with_reducible assumption
    | with_reducible exact List.Subset.trans (by decide) hg
    | with_reducible exact Regular.keep rfl
    | (intro g hgn; cases g <;> first | exact (Keeps.out hg (by decide) hgn).elim | with_reducible rfl)
    | (extract_lets +onlyGivenNames s1; refine Keeps.have_ (gs := gs) (o := o0) (t := s1) ?_ (fun h => ?_); (on_goal 1 => subst s1); (on_goal 2 => try clear_value s1))
    | (extract_lets +onlyGivenNames n1; first | (have p : Sys := n1; clear p; subst n1) | (have p : Et := n1; clear p; subst n1) | (have p : Hm := n1; clear p; subst n1) | (have p : Opt := n1; clear p; subst n1) | (have p : Xg := n1; clear p; subst n1) | (have p : Sns := n1; clear p; subst n1) | (have p : Ev := n1; clear p; subst n1) | clear_value n1)
    | (with_reducible refine Keeps.foldl (fun t x h => ?_) ?_)
    | with_reducible apply Keeps.modSp_keeps
    | with_reducible apply Keeps.quarantine_keeps
    | (simp -zeta only [Keeps.mark]; with_reducible refine KeepsLit.intro rfl ?_ ?_ ?_)
    | (with_reducible refine Keeps.ite ?_ ?_)
    | split

theorem Keeps.execRejectedFrame_keeps {gs : List Group} (hg : [.et, .sp, .ev] ⊆ gs) {o0 s : State} (h0 : Keeps gs o0 s) (port : Fin 2) (f : Frame) (why : FrameFault) : KeepsOut gs o0 (execRejectedFrame port f why s) := by
  unfold execRejectedFrame
  repeat' first
    | with_reducible assumption
    | with_reducible exact List.Subset.trans (by decide) hg
    | with_reducible exact Regular.keep rfl
    | (intro g hgn; cases g <;> first | exact (Keeps.out hg (by decide) hgn).elim | with_reducible rfl)
    | (extract_lets +onlyGivenNames s1; refine Keeps.have_ (gs := gs) (o := o0) (t := s1) ?_ (fun h => ?_); (on_goal 1 => subst s1); (on_goal 2 => try clear_value s1))
    | (extract_lets +onlyGivenNames n1; first | (have p : Sys := n1; clear p; subst n1) | (have p : Et := n1; clear p; subst n1) | (have p : Hm := n1; clear p; subst n1) | (have p : Opt := n1; clear p; subst n1) | (have p : Xg := n1; clear p; subst n1) | (have p : Sns := n1; clear p; subst n1) | (have p : Ev := n1; clear p; subst n1) | clear_value n1)
    | (with_reducible refine Keeps.foldl (fun t x h => ?_) ?_)
    | (with_reducible refine KeepsOut.next ?_)
    | with_reducible apply Keeps.rejectFrame_keeps
    | (simp -zeta only [Keeps.mark]; with_reducible refine KeepsLit.intro rfl ?_ ?_ ?_)
    | (with_reducible refine Keeps.ite ?_ ?_)
    | split

theorem Keeps.rejectBound_keeps {gs : List Group} (hg : [.et, .sp, .ev] ⊆ gs) {o0 s : State} (h0 : Keeps gs o0 s) (one : Bool) (n : Nat) (reason : Nat) : Keeps gs o0 (State.rejectBound s one n reason) := by
  unfold State.rejectBound
  repeat' first
    | with_reducible assumption
    | with_reducible exact List.Subset.trans (by decide) hg
    | with_reducible exact Regular.keep rfl
    | (intro g hgn; cases g <;> first | exact (Keeps.out hg (by decide) hgn).elim | with_reducible rfl)
    | (extract_lets +onlyGivenNames s1; refine Keeps.have_ (gs := gs) (o := o0) (t := s1) ?_ (fun h => ?_); (on_goal 1 => subst s1); (on_goal 2 => try clear_value s1))
    | (extract_lets +onlyGivenNames n1; first | (have p : Sys := n1; clear p; subst n1) | (have p : Et := n1; clear p; subst n1) | (have p : Hm := n1; clear p; subst n1) | (have p : Opt := n1; clear p; subst n1) | (have p : Xg := n1; clear p; subst n1) | (have p : Sns := n1; clear p; subst n1) | (have p : Ev := n1; clear p; subst n1) | clear_value n1)
    | (with_reducible refine Keeps.foldl (fun t x h => ?_) ?_)
    | with_reducible apply Keeps.modSp_keeps
    | with_reducible apply Keeps.quarantine_keeps
    | (simp -zeta only [Keeps.mark]; with_reducible refine KeepsLit.intro rfl ?_ ?_ ?_)
    | (with_reducible refine Keeps.ite ?_ ?_)
    | split

theorem Keeps.execAnnounce_keeps {gs : List Group} (hg : [.et, .sp, .ev] ⊆ gs) {o0 s : State} (h0 : Keeps gs o0 s) (port : Fin 2) (f : Frame) : KeepsOut gs o0 (execAnnounce port f s) := by
  unfold execAnnounce
  repeat' first
    | with_reducible assumption
    | with_reducible exact List.Subset.trans (by decide) hg
    | with_reducible exact Regular.keep rfl
    | (intro g hgn; cases g <;> first | exact (Keeps.out hg (by decide) hgn).elim | with_reducible rfl)
    | (extract_lets +onlyGivenNames s1; refine Keeps.have_ (gs := gs) (o := o0) (t := s1) ?_ (fun h => ?_); (on_goal 1 => subst s1); (on_goal 2 => try clear_value s1))
    | (extract_lets +onlyGivenNames n1; first | (have p : Sys := n1; clear p; subst n1) | (have p : Et := n1; clear p; subst n1) | (have p : Hm := n1; clear p; subst n1) | (have p : Opt := n1; clear p; subst n1) | (have p : Xg := n1; clear p; subst n1) | (have p : Sns := n1; clear p; subst n1) | (have p : Ev := n1; clear p; subst n1) | clear_value n1)
    | (with_reducible refine Keeps.foldl (fun t x h => ?_) ?_)
    | (with_reducible refine KeepsOut.next ?_)
    | with_reducible apply Keeps.modSp_keeps
    | with_reducible apply Keeps.rejectBound_keeps
    | with_reducible apply Keeps.reselect_keeps
    | with_reducible apply Keeps.takeFrame_keeps
    | (simp -zeta only [Keeps.mark]; with_reducible refine KeepsLit.intro rfl ?_ ?_ ?_)
    | (with_reducible refine Keeps.ite ?_ ?_)
    | split

theorem Keeps.execPeerAnnounceTimeout_keeps {gs : List Group} (hg : [.et, .sp] ⊆ gs) {o0 s : State} (h0 : Keeps gs o0 s) (port : Fin 2) : KeepsOut gs o0 (execPeerAnnounceTimeout port s) := by
  unfold execPeerAnnounceTimeout
  repeat' first
    | with_reducible assumption
    | with_reducible exact List.Subset.trans (by decide) hg
    | with_reducible exact Regular.keep rfl
    | (intro g hgn; cases g <;> first | exact (Keeps.out hg (by decide) hgn).elim | with_reducible rfl)
    | (extract_lets +onlyGivenNames s1; refine Keeps.have_ (gs := gs) (o := o0) (t := s1) ?_ (fun h => ?_); (on_goal 1 => subst s1); (on_goal 2 => try clear_value s1))
    | (extract_lets +onlyGivenNames n1; first | (have p : Sys := n1; clear p; subst n1) | (have p : Et := n1; clear p; subst n1) | (have p : Hm := n1; clear p; subst n1) | (have p : Opt := n1; clear p; subst n1) | (have p : Xg := n1; clear p; subst n1) | (have p : Sns := n1; clear p; subst n1) | (have p : Ev := n1; clear p; subst n1) | clear_value n1)
    | (with_reducible refine Keeps.foldl (fun t x h => ?_) ?_)
    | (with_reducible refine KeepsOut.next ?_)
    | with_reducible apply Keeps.modSp_keeps
    | with_reducible apply Keeps.reselect_keeps
    | (simp -zeta only [Keeps.mark]; with_reducible refine KeepsLit.intro rfl ?_ ?_ ?_)
    | (with_reducible refine Keeps.ite ?_ ?_)
    | split

theorem Keeps.sendFrame_keeps {gs : List Group} (hg : [.sp] ⊆ gs) {o0 s : State} (h0 : Keeps gs o0 s) (one : Bool) (type : Nat) (payload : Bytes) : Keeps gs o0 (State.sendFrame s one type payload) := by
  unfold State.sendFrame
  repeat' first
    | with_reducible assumption
    | with_reducible exact List.Subset.trans (by decide) hg
    | with_reducible exact Regular.keep rfl
    | (intro g hgn; cases g <;> first | exact (Keeps.out hg (by decide) hgn).elim | with_reducible rfl)
    | (extract_lets +onlyGivenNames s1; refine Keeps.have_ (gs := gs) (o := o0) (t := s1) ?_ (fun h => ?_); (on_goal 1 => subst s1); (on_goal 2 => try clear_value s1))
    | (extract_lets +onlyGivenNames n1; first | (have p : Sys := n1; clear p; subst n1) | (have p : Et := n1; clear p; subst n1) | (have p : Hm := n1; clear p; subst n1) | (have p : Opt := n1; clear p; subst n1) | (have p : Xg := n1; clear p; subst n1) | (have p : Sns := n1; clear p; subst n1) | (have p : Ev := n1; clear p; subst n1) | clear_value n1)
    | (with_reducible refine Keeps.foldl (fun t x h => ?_) ?_)
    | with_reducible apply Keeps.modSp_keeps
    | (simp -zeta only [Keeps.mark]; with_reducible refine KeepsLit.intro rfl ?_ ?_ ?_)
    | split

theorem Keeps.execAnnounceTransmit_keeps {gs : List Group} (hg : [.et, .sp] ⊆ gs) {o0 s : State} (h0 : Keeps gs o0 s) (port : Fin 2) : KeepsOut gs o0 (execAnnounceTransmit port s) := by
  unfold execAnnounceTransmit
  repeat' first
    | with_reducible assumption
    | with_reducible exact List.Subset.trans (by decide) hg
    | with_reducible exact Regular.keep rfl
    | (intro g hgn; cases g <;> first | exact (Keeps.out hg (by decide) hgn).elim | with_reducible rfl)
    | (extract_lets +onlyGivenNames s1; refine Keeps.have_ (gs := gs) (o := o0) (t := s1) ?_ (fun h => ?_); (on_goal 1 => subst s1); (on_goal 2 => try clear_value s1))
    | (extract_lets +onlyGivenNames n1; first | (have p : Sys := n1; clear p; subst n1) | (have p : Et := n1; clear p; subst n1) | (have p : Hm := n1; clear p; subst n1) | (have p : Opt := n1; clear p; subst n1) | (have p : Xg := n1; clear p; subst n1) | (have p : Sns := n1; clear p; subst n1) | (have p : Ev := n1; clear p; subst n1) | clear_value n1)
    | (with_reducible refine Keeps.foldl (fun t x h => ?_) ?_)
    | (with_reducible refine KeepsOut.next ?_)
    | with_reducible apply Keeps.modSp_keeps
    | with_reducible apply Keeps.reselect_keeps
    | with_reducible apply Keeps.sendFrame_keeps
    | (simp -zeta only [Keeps.mark]; with_reducible refine KeepsLit.intro rfl ?_ ?_ ?_)
    | (with_reducible refine Keeps.ite ?_ ?_)
    | split

theorem Keeps.execProbeTransmit_keeps {gs : List Group} (hg : [.sp] ⊆ gs) {o0 s : State} (h0 : Keeps gs o0 s) (port : Fin 2) : KeepsOut gs o0 (execProbeTransmit port s) := by
  unfold execProbeTransmit
  repeat' first
    | with_reducible assumption
    | with_reducible exact List.Subset.trans (by decide) hg
    | with_reducible exact Regular.keep rfl
    | (intro g hgn; cases g <;> first | exact (Keeps.out hg (by decide) hgn).elim | with_reducible rfl)
    | (extract_lets +onlyGivenNames s1; refine Keeps.have_ (gs := gs) (o := o0) (t := s1) ?_ (fun h => ?_); (on_goal 1 => subst s1); (on_goal 2 => try clear_value s1))
    | (extract_lets +onlyGivenNames n1; first | (have p : Sys := n1; clear p; subst n1) | (have p : Et := n1; clear p; subst n1) | (have p : Hm := n1; clear p; subst n1) | (have p : Opt := n1; clear p; subst n1) | (have p : Xg := n1; clear p; subst n1) | (have p : Sns := n1; clear p; subst n1) | (have p : Ev := n1; clear p; subst n1) | clear_value n1)
    | (with_reducible refine Keeps.foldl (fun t x h => ?_) ?_)
    | (with_reducible refine KeepsOut.next ?_)
    | with_reducible apply Keeps.modSp_keeps
    | with_reducible apply Keeps.sendFrame_keeps
    | (simp -zeta only [Keeps.mark]; with_reducible refine KeepsLit.intro rfl ?_ ?_ ?_)
    | (with_reducible refine Keeps.ite ?_ ?_)
    | split

theorem Keeps.execProbe_keeps {gs : List Group} (hg : [.fresh, .et, .sp] ⊆ gs) {o0 s : State} (h0 : Keeps gs o0 s) (port : Fin 2) (f : Frame) : KeepsOut gs o0 (execProbe port f s) := by
  unfold execProbe
  repeat' first
    | with_reducible assumption
    | with_reducible exact List.Subset.trans (by decide) hg
    | with_reducible exact Regular.keep rfl
    | (intro g hgn; cases g <;> first | exact (Keeps.out hg (by decide) hgn).elim | with_reducible rfl)
    | (extract_lets +onlyGivenNames s1; refine Keeps.have_ (gs := gs) (o := o0) (t := s1) ?_ (fun h => ?_); (on_goal 1 => subst s1); (on_goal 2 => try clear_value s1))
    | (extract_lets +onlyGivenNames n1; first | (have p : Sys := n1; clear p; subst n1) | (have p : Et := n1; clear p; subst n1) | (have p : Hm := n1; clear p; subst n1) | (have p : Opt := n1; clear p; subst n1) | (have p : Xg := n1; clear p; subst n1) | (have p : Sns := n1; clear p; subst n1) | (have p : Ev := n1; clear p; subst n1) | clear_value n1)
    | (with_reducible refine Keeps.foldl (fun t x h => ?_) ?_)
    | (with_reducible refine KeepsOut.next ?_)
    | with_reducible apply Keeps.draw_keeps
    | with_reducible apply Keeps.reselect_keeps
    | with_reducible apply Keeps.sendFrame_keeps
    | with_reducible apply Keeps.takeFrame_keeps
    | (simp -zeta only [Keeps.mark]; with_reducible refine KeepsLit.intro rfl ?_ ?_ ?_)
    | (with_reducible refine KeepsOpt.getD ?_ ?_)
    | (with_reducible refine Keeps.optEq (by assumption) ?_)
    | (with_reducible refine Keeps.pairEq1 (by assumption) ?_)
    | (with_reducible refine Keeps.pairEq2 (by assumption) ?_)
    | (with_reducible refine Keeps.ite ?_ ?_)
    | split

theorem Keeps.acceptMeas_keeps {gs : List Group} (hg : [.et, .sp, .ev] ⊆ gs) {o0 s : State} (h0 : Keeps gs o0 s) (one : Bool) (d : Int) (o : Int) : Keeps gs o0 (State.acceptMeas s one d o) := by
  unfold State.acceptMeas
  repeat' first
    | with_reducible assumption
    | with_reducible exact List.Subset.trans (by decide) hg
    | with_reducible exact Regular.keep rfl
    | (intro g hgn; cases g <;> first | exact (Keeps.out hg (by decide) hgn).elim | with_reducible rfl)
    | (extract_lets +onlyGivenNames s1; refine Keeps.have_ (gs := gs) (o := o0) (t := s1) ?_ (fun h => ?_); (on_goal 1 => subst s1); (on_goal 2 => try clear_value s1))
    | (extract_lets +onlyGivenNames n1; first | (have p : Sys := n1; clear p; subst n1) | (have p : Et := n1; clear p; subst n1) | (have p : Hm := n1; clear p; subst n1) | (have p : Opt := n1; clear p; subst n1) | (have p : Xg := n1; clear p; subst n1) | (have p : Sns := n1; clear p; subst n1) | (have p : Ev := n1; clear p; subst n1) | clear_value n1)
    | (with_reducible refine Keeps.foldl (fun t x h => ?_) ?_)
    | with_reducible apply Keeps.discipline_keeps
    | with_reducible apply Keeps.modSp_keeps
    | with_reducible apply Keeps.reselect_keeps
    | (simp -zeta only [Keeps.mark]; with_reducible refine KeepsLit.intro rfl ?_ ?_ ?_)
    | (with_reducible refine Keeps.ite ?_ ?_)
    | split

theorem Keeps.execReply_keeps {gs : List Group} (hg : [.et, .sp, .ev] ⊆ gs) {o0 s : State} (h0 : Keeps gs o0 s) (port : Fin 2) (f : Frame) : KeepsOut gs o0 (execReply port f s) := by
  unfold execReply
  repeat' first
    | with_reducible assumption
    | with_reducible exact List.Subset.trans (by decide) hg
    | with_reducible exact Regular.keep rfl
    | (intro g hgn; cases g <;> first | exact (Keeps.out hg (by decide) hgn).elim | with_reducible rfl)
    | (extract_lets +onlyGivenNames s1; refine Keeps.have_ (gs := gs) (o := o0) (t := s1) ?_ (fun h => ?_); (on_goal 1 => subst s1); (on_goal 2 => try clear_value s1))
    | (extract_lets +onlyGivenNames n1; first | (have p : Sys := n1; clear p; subst n1) | (have p : Et := n1; clear p; subst n1) | (have p : Hm := n1; clear p; subst n1) | (have p : Opt := n1; clear p; subst n1) | (have p : Xg := n1; clear p; subst n1) | (have p : Sns := n1; clear p; subst n1) | (have p : Ev := n1; clear p; subst n1) | clear_value n1)
    | (with_reducible refine Keeps.foldl (fun t x h => ?_) ?_)
    | (with_reducible refine KeepsOut.next ?_)
    | with_reducible apply Keeps.acceptMeas_keeps
    | with_reducible apply Keeps.modSp_keeps
    | with_reducible apply Keeps.rejectBound_keeps
    | with_reducible apply Keeps.rejectFrame_keeps
    | with_reducible apply Keeps.takeFrame_keeps
    | (simp -zeta only [Keeps.mark]; with_reducible refine KeepsLit.intro rfl ?_ ?_ ?_)
    | (with_reducible refine Keeps.ite ?_ ?_)
    | split

theorem Keeps.execMeasurementDeferred_keeps {gs : List Group} (hg : [.sp, .ev] ⊆ gs) {o0 s : State} (h0 : Keeps gs o0 s) (port : Fin 2) : KeepsOut gs o0 (execMeasurementDeferred port s) := by
  unfold execMeasurementDeferred
  repeat' first
    | with_reducible assumption
    | with_reducible exact List.Subset.trans (by decide) hg
    | with_reducible exact Regular.keep rfl
    | (intro g hgn; cases g <;> first | exact (Keeps.out hg (by decide) hgn).elim | with_reducible rfl)
    | (extract_lets +onlyGivenNames s1; refine Keeps.have_ (gs := gs) (o := o0) (t := s1) ?_ (fun h => ?_); (on_goal 1 => subst s1); (on_goal 2 => try clear_value s1))
    | (extract_lets +onlyGivenNames n1; first | (have p : Sys := n1; clear p; subst n1) | (have p : Et := n1; clear p; subst n1) | (have p : Hm := n1; clear p; subst n1) | (have p : Opt := n1; clear p; subst n1) | (have p : Xg := n1; clear p; subst n1) | (have p : Sns := n1; clear p; subst n1) | (have p : Ev := n1; clear p; subst n1) | clear_value n1)
    | (with_reducible refine Keeps.foldl (fun t x h => ?_) ?_)
    | (with_reducible refine KeepsOut.next ?_)
    | with_reducible apply Keeps.modSp_keeps
    | with_reducible apply Keeps.raiseIf_keeps
    | (simp -zeta only [Keeps.mark]; with_reducible refine KeepsLit.intro rfl ?_ ?_ ?_)
    | (with_reducible refine Keeps.ite ?_ ?_)
    | split

theorem Keeps.execSpanSymbolLock_keeps {gs : List Group} (hg : [.et, .sp] ⊆ gs) {o0 s : State} (h0 : Keeps gs o0 s) (port : Fin 2) : KeepsOut gs o0 (execSpanSymbolLock port s) := by
  unfold execSpanSymbolLock
  repeat' first
    | with_reducible assumption
    | with_reducible exact List.Subset.trans (by decide) hg
    | with_reducible exact Regular.keep rfl
    | (intro g hgn; cases g <;> first | exact (Keeps.out hg (by decide) hgn).elim | with_reducible rfl)
    | (extract_lets +onlyGivenNames s1; refine Keeps.have_ (gs := gs) (o := o0) (t := s1) ?_ (fun h => ?_); (on_goal 1 => subst s1); (on_goal 2 => try clear_value s1))
    | (extract_lets +onlyGivenNames n1; first | (have p : Sys := n1; clear p; subst n1) | (have p : Et := n1; clear p; subst n1) | (have p : Hm := n1; clear p; subst n1) | (have p : Opt := n1; clear p; subst n1) | (have p : Xg := n1; clear p; subst n1) | (have p : Sns := n1; clear p; subst n1) | (have p : Ev := n1; clear p; subst n1) | clear_value n1)
    | (with_reducible refine Keeps.foldl (fun t x h => ?_) ?_)
    | (with_reducible refine KeepsOut.next ?_)
    | with_reducible apply Keeps.modSp_keeps
    | with_reducible apply Keeps.reselect_keeps
    | (simp -zeta only [Keeps.mark]; with_reducible refine KeepsLit.intro rfl ?_ ?_ ?_)
    | (with_reducible refine Keeps.ite ?_ ?_)
    | split

theorem Keeps.execSpanLockLoss_keeps {gs : List Group} (hg : [.ctl, .reg, .et, .ls, .xg, .sp] ⊆ gs) {o0 s : State} (h0 : Keeps gs o0 s) (port : Fin 2) : KeepsOut gs o0 (execSpanLockLoss port s) := by
  unfold execSpanLockLoss
  repeat' first
    | with_reducible assumption
    | with_reducible exact List.Subset.trans (by decide) hg
    | with_reducible exact Regular.keep rfl
    | (intro g hgn; cases g <;> first | exact (Keeps.out hg (by decide) hgn).elim | with_reducible rfl)
    | (extract_lets +onlyGivenNames f1; (first | (refine Keeps.fun1 f1 ?_) | (refine Keeps.fun2 f1 ?_) | (refine Keeps.fun3 f1 ?_) | (refine KeepsRes.fun1 f1 ?_)); subst f1; beta_reduce)
    | (extract_lets +onlyGivenNames s1; refine Keeps.have_ (gs := gs) (o := o0) (t := s1) ?_ (fun h => ?_); (on_goal 1 => subst s1); (on_goal 2 => try clear_value s1))
    | (extract_lets +onlyGivenNames n1; first | (have p : Sys := n1; clear p; subst n1) | (have p : Et := n1; clear p; subst n1) | (have p : Hm := n1; clear p; subst n1) | (have p : Opt := n1; clear p; subst n1) | (have p : Xg := n1; clear p; subst n1) | (have p : Sns := n1; clear p; subst n1) | (have p : Ev := n1; clear p; subst n1) | clear_value n1)
    | (with_reducible refine Keeps.foldl (fun t x h => ?_) ?_)
    | (with_reducible refine KeepsOut.next ?_)
    | with_reducible apply Keeps.modSp_keeps
    | with_reducible apply Keeps.reselect_keeps
    | with_reducible apply Keeps.resetContents_keeps
    | with_reducible apply Keeps.whole_keeps
    | (simp -zeta only [Keeps.mark]; with_reducible refine KeepsLit.intro rfl ?_ ?_ ?_)
    | (with_reducible refine Keeps.ite ?_ ?_)
    | split

theorem Keeps.execPreviousKeyExpiry_keeps {gs : List Group} (hg : [.sp] ⊆ gs) {o0 s : State} (h0 : Keeps gs o0 s) (port : Fin 2) : KeepsOut gs o0 (execPreviousKeyExpiry port s) := by
  unfold execPreviousKeyExpiry
  repeat' first
    | with_reducible assumption
    | with_reducible exact List.Subset.trans (by decide) hg
    | with_reducible exact Regular.keep rfl
    | (intro g hgn; cases g <;> first | exact (Keeps.out hg (by decide) hgn).elim | with_reducible rfl)
    | (extract_lets +onlyGivenNames s1; refine Keeps.have_ (gs := gs) (o := o0) (t := s1) ?_ (fun h => ?_); (on_goal 1 => subst s1); (on_goal 2 => try clear_value s1))
    | (extract_lets +onlyGivenNames n1; first | (have p : Sys := n1; clear p; subst n1) | (have p : Et := n1; clear p; subst n1) | (have p : Hm := n1; clear p; subst n1) | (have p : Opt := n1; clear p; subst n1) | (have p : Xg := n1; clear p; subst n1) | (have p : Sns := n1; clear p; subst n1) | (have p : Ev := n1; clear p; subst n1) | clear_value n1)
    | (with_reducible refine Keeps.foldl (fun t x h => ?_) ?_)
    | (with_reducible refine KeepsOut.next ?_)
    | with_reducible apply Keeps.modSp_keeps
    | (simp -zeta only [Keeps.mark]; with_reducible refine KeepsLit.intro rfl ?_ ?_ ?_)
    | (with_reducible refine Keeps.ite ?_ ?_)
    | split

theorem Keeps.cmdSpanQuery_keeps {gs : List Group} (hg : [] ⊆ gs) {o0 s : State} (h0 : Keeps gs o0 s) (q0 : Req) : KeepsRes gs o0 (cmdSpanQuery q0 s) := by
  unfold cmdSpanQuery
  repeat' first
    | with_reducible assumption
    | with_reducible exact List.Subset.trans (by decide) hg
    | with_reducible exact Regular.keep rfl
    | (intro g hgn; cases g <;> first | exact (Keeps.out hg (by decide) hgn).elim | with_reducible rfl)
    | (extract_lets +onlyGivenNames s1; refine KeepsRes.have_ (gs := gs) (o := o0) (r := s1) ?_ (fun h => ?_); (on_goal 1 => subst s1); (on_goal 2 => try clear_value s1))
    | (extract_lets +onlyGivenNames s1; refine Keeps.have_ (gs := gs) (o := o0) (t := s1) ?_ (fun h => ?_); (on_goal 1 => subst s1); (on_goal 2 => try clear_value s1))
    | (extract_lets +onlyGivenNames n1; first | (have p : Sys := n1; clear p; subst n1) | (have p : Et := n1; clear p; subst n1) | (have p : Hm := n1; clear p; subst n1) | (have p : Opt := n1; clear p; subst n1) | (have p : Xg := n1; clear p; subst n1) | (have p : Sns := n1; clear p; subst n1) | (have p : Ev := n1; clear p; subst n1) | clear_value n1)
    | (with_reducible refine Keeps.foldl (fun t x h => ?_) ?_)
    | (with_reducible refine KeepsRes.done ?_)
    | (with_reducible refine KeepsRes.wait ?_)
    | (with_reducible refine KeepsRes.refuse ?_)
    | (simp -zeta only [Keeps.mark]; with_reducible refine KeepsLit.intro rfl ?_ ?_ ?_)
    | split

theorem Keeps.execSpanQuery_keeps {gs : List Group} (hg : [.mbx] ⊆ gs) {o0 s : State} (h0 : Keeps gs o0 s) (q : Req) : KeepsOut gs o0 (execSpanQuery q s) := by
  unfold execSpanQuery
  repeat' first
    | with_reducible assumption
    | with_reducible exact List.Subset.trans (by decide) hg
    | with_reducible exact Regular.keep rfl
    | (intro g hgn; cases g <;> first | exact (Keeps.out hg (by decide) hgn).elim | with_reducible rfl)
    | (extract_lets +onlyGivenNames s1; refine Keeps.have_ (gs := gs) (o := o0) (t := s1) ?_ (fun h => ?_); (on_goal 1 => subst s1); (on_goal 2 => try clear_value s1))
    | (extract_lets +onlyGivenNames n1; first | (have p : Sys := n1; clear p; subst n1) | (have p : Et := n1; clear p; subst n1) | (have p : Hm := n1; clear p; subst n1) | (have p : Opt := n1; clear p; subst n1) | (have p : Xg := n1; clear p; subst n1) | (have p : Sns := n1; clear p; subst n1) | (have p : Ev := n1; clear p; subst n1) | clear_value n1)
    | (with_reducible refine Keeps.foldl (fun t x h => ?_) ?_)
    | (with_reducible refine KeepsOut.next ?_)
    | (with_reducible refine Keeps.submit_keeps ?_ ?_ _ _ (fun q t h => ?_) _)
    | with_reducible apply Keeps.cmdSpanQuery_keeps
    | (simp -zeta only [Keeps.mark]; with_reducible refine KeepsLit.intro rfl ?_ ?_ ?_)
    | split

theorem Keeps.cmdSpanPeerAdd_keeps {gs : List Group} (hg : [.et, .sp] ⊆ gs) {o0 s : State} (h0 : Keeps gs o0 s) (q : Req) : KeepsRes gs o0 (cmdSpanPeerAdd q s) := by
  unfold cmdSpanPeerAdd
  repeat' first
    | with_reducible assumption
    | with_reducible exact List.Subset.trans (by decide) hg
    | with_reducible exact Regular.keep rfl
    | (intro g hgn; cases g <;> first | exact (Keeps.out hg (by decide) hgn).elim | with_reducible rfl)
    | (extract_lets +onlyGivenNames s1; refine KeepsRes.have_ (gs := gs) (o := o0) (r := s1) ?_ (fun h => ?_); (on_goal 1 => subst s1); (on_goal 2 => try clear_value s1))
    | (extract_lets +onlyGivenNames s1; refine Keeps.have_ (gs := gs) (o := o0) (t := s1) ?_ (fun h => ?_); (on_goal 1 => subst s1); (on_goal 2 => try clear_value s1))
    | (extract_lets +onlyGivenNames n1; first | (have p : Sys := n1; clear p; subst n1) | (have p : Et := n1; clear p; subst n1) | (have p : Hm := n1; clear p; subst n1) | (have p : Opt := n1; clear p; subst n1) | (have p : Xg := n1; clear p; subst n1) | (have p : Sns := n1; clear p; subst n1) | (have p : Ev := n1; clear p; subst n1) | clear_value n1)
    | (with_reducible refine Keeps.foldl (fun t x h => ?_) ?_)
    | (with_reducible refine KeepsRes.done ?_)
    | (with_reducible refine KeepsRes.wait ?_)
    | (with_reducible refine KeepsRes.refuse ?_)
    | with_reducible apply Keeps.modSp_keeps
    | with_reducible apply Keeps.reselect_keeps
    | with_reducible apply Keeps.refuse_keeps
    | (simp -zeta only [Keeps.mark]; with_reducible refine KeepsLit.intro rfl ?_ ?_ ?_)
    | (with_reducible refine Keeps.ite ?_ ?_)
    | split

theorem Keeps.execSpanPeerAdd_keeps {gs : List Group} (hg : [.mbx, .et, .sp] ⊆ gs) {o0 s : State} (h0 : Keeps gs o0 s) (q : Req) : KeepsOut gs o0 (execSpanPeerAdd q s) := by
  unfold execSpanPeerAdd
  repeat' first
    | with_reducible assumption
    | with_reducible exact List.Subset.trans (by decide) hg
    | with_reducible exact Regular.keep rfl
    | (intro g hgn; cases g <;> first | exact (Keeps.out hg (by decide) hgn).elim | with_reducible rfl)
    | (extract_lets +onlyGivenNames s1; refine Keeps.have_ (gs := gs) (o := o0) (t := s1) ?_ (fun h => ?_); (on_goal 1 => subst s1); (on_goal 2 => try clear_value s1))
    | (extract_lets +onlyGivenNames n1; first | (have p : Sys := n1; clear p; subst n1) | (have p : Et := n1; clear p; subst n1) | (have p : Hm := n1; clear p; subst n1) | (have p : Opt := n1; clear p; subst n1) | (have p : Xg := n1; clear p; subst n1) | (have p : Sns := n1; clear p; subst n1) | (have p : Ev := n1; clear p; subst n1) | clear_value n1)
    | (with_reducible refine Keeps.foldl (fun t x h => ?_) ?_)
    | (with_reducible refine KeepsOut.next ?_)
    | (with_reducible refine Keeps.submit_keeps ?_ ?_ _ _ (fun q t h => ?_) _)
    | with_reducible apply Keeps.cmdSpanPeerAdd_keeps
    | (simp -zeta only [Keeps.mark]; with_reducible refine KeepsLit.intro rfl ?_ ?_ ?_)
    | split

theorem Keeps.cmdSpanPeerRemove_keeps {gs : List Group} (hg : [.et, .sp] ⊆ gs) {o0 s : State} (h0 : Keeps gs o0 s) (q : Req) : KeepsRes gs o0 (cmdSpanPeerRemove q s) := by
  unfold cmdSpanPeerRemove
  repeat' first
    | with_reducible assumption
    | with_reducible exact List.Subset.trans (by decide) hg
    | with_reducible exact Regular.keep rfl
    | (intro g hgn; cases g <;> first | exact (Keeps.out hg (by decide) hgn).elim | with_reducible rfl)
    | (extract_lets +onlyGivenNames s1; refine KeepsRes.have_ (gs := gs) (o := o0) (r := s1) ?_ (fun h => ?_); (on_goal 1 => subst s1); (on_goal 2 => try clear_value s1))
    | (extract_lets +onlyGivenNames s1; refine Keeps.have_ (gs := gs) (o := o0) (t := s1) ?_ (fun h => ?_); (on_goal 1 => subst s1); (on_goal 2 => try clear_value s1))
    | (extract_lets +onlyGivenNames n1; first | (have p : Sys := n1; clear p; subst n1) | (have p : Et := n1; clear p; subst n1) | (have p : Hm := n1; clear p; subst n1) | (have p : Opt := n1; clear p; subst n1) | (have p : Xg := n1; clear p; subst n1) | (have p : Sns := n1; clear p; subst n1) | (have p : Ev := n1; clear p; subst n1) | clear_value n1)
    | (with_reducible refine Keeps.foldl (fun t x h => ?_) ?_)
    | (with_reducible refine KeepsRes.done ?_)
    | (with_reducible refine KeepsRes.wait ?_)
    | (with_reducible refine KeepsRes.refuse ?_)
    | with_reducible apply Keeps.modSp_keeps
    | with_reducible apply Keeps.reselect_keeps
    | with_reducible apply Keeps.refuse_keeps
    | (simp -zeta only [Keeps.mark]; with_reducible refine KeepsLit.intro rfl ?_ ?_ ?_)
    | (with_reducible refine Keeps.ite ?_ ?_)
    | split

theorem Keeps.execSpanPeerRemove_keeps {gs : List Group} (hg : [.mbx, .et, .sp] ⊆ gs) {o0 s : State} (h0 : Keeps gs o0 s) (q : Req) : KeepsOut gs o0 (execSpanPeerRemove q s) := by
  unfold execSpanPeerRemove
  repeat' first
    | with_reducible assumption
    | with_reducible exact List.Subset.trans (by decide) hg
    | with_reducible exact Regular.keep rfl
    | (intro g hgn; cases g <;> first | exact (Keeps.out hg (by decide) hgn).elim | with_reducible rfl)
    | (extract_lets +onlyGivenNames s1; refine Keeps.have_ (gs := gs) (o := o0) (t := s1) ?_ (fun h => ?_); (on_goal 1 => subst s1); (on_goal 2 => try clear_value s1))
    | (extract_lets +onlyGivenNames n1; first | (have p : Sys := n1; clear p; subst n1) | (have p : Et := n1; clear p; subst n1) | (have p : Hm := n1; clear p; subst n1) | (have p : Opt := n1; clear p; subst n1) | (have p : Xg := n1; clear p; subst n1) | (have p : Sns := n1; clear p; subst n1) | (have p : Ev := n1; clear p; subst n1) | clear_value n1)
    | (with_reducible refine Keeps.foldl (fun t x h => ?_) ?_)
    | (with_reducible refine KeepsOut.next ?_)
    | (with_reducible refine Keeps.submit_keeps ?_ ?_ _ _ (fun q t h => ?_) _)
    | with_reducible apply Keeps.cmdSpanPeerRemove_keeps
    | (simp -zeta only [Keeps.mark]; with_reducible refine KeepsLit.intro rfl ?_ ?_ ?_)
    | split

theorem Keeps.cmdSpanKeySet_keeps {gs : List Group} (hg : [.sp] ⊆ gs) {o0 s : State} (h0 : Keeps gs o0 s) (q : Req) : KeepsRes gs o0 (cmdSpanKeySet q s) := by
  unfold cmdSpanKeySet
  repeat' first
    | with_reducible assumption
    | with_reducible exact List.Subset.trans (by decide) hg
    | with_reducible exact Regular.keep rfl
    | (intro g hgn; cases g <;> first | exact (Keeps.out hg (by decide) hgn).elim | with_reducible rfl)
    | (extract_lets +onlyGivenNames s1; refine KeepsRes.have_ (gs := gs) (o := o0) (r := s1) ?_ (fun h => ?_); (on_goal 1 => subst s1); (on_goal 2 => try clear_value s1))
    | (extract_lets +onlyGivenNames f1; (first | (refine Keeps.fun1 f1 ?_) | (refine Keeps.fun2 f1 ?_) | (refine Keeps.fun3 f1 ?_) | (refine KeepsRes.fun1 f1 ?_)); subst f1; beta_reduce)
    | (extract_lets +onlyGivenNames s1; refine Keeps.have_ (gs := gs) (o := o0) (t := s1) ?_ (fun h => ?_); (on_goal 1 => subst s1); (on_goal 2 => try clear_value s1))
    | (extract_lets +onlyGivenNames n1; first | (have p : Sys := n1; clear p; subst n1) | (have p : Et := n1; clear p; subst n1) | (have p : Hm := n1; clear p; subst n1) | (have p : Opt := n1; clear p; subst n1) | (have p : Xg := n1; clear p; subst n1) | (have p : Sns := n1; clear p; subst n1) | (have p : Ev := n1; clear p; subst n1) | clear_value n1)
    | (with_reducible refine Keeps.foldl (fun t x h => ?_) ?_)
    | (with_reducible refine KeepsRes.done ?_)
    | (with_reducible refine KeepsRes.wait ?_)
    | (with_reducible refine KeepsRes.refuse ?_)
    | with_reducible apply Keeps.modSp_keeps
    | with_reducible apply Keeps.refuse_keeps
    | (simp -zeta only [Keeps.mark]; with_reducible refine KeepsLit.intro rfl ?_ ?_ ?_)
    | (with_reducible refine Keeps.ite ?_ ?_)
    | split

theorem Keeps.execSpanKeySet_keeps {gs : List Group} (hg : [.mbx, .sp] ⊆ gs) {o0 s : State} (h0 : Keeps gs o0 s) (q : Req) : KeepsOut gs o0 (execSpanKeySet q s) := by
  unfold execSpanKeySet
  repeat' first
    | with_reducible assumption
    | with_reducible exact List.Subset.trans (by decide) hg
    | with_reducible exact Regular.keep rfl
    | (intro g hgn; cases g <;> first | exact (Keeps.out hg (by decide) hgn).elim | with_reducible rfl)
    | (extract_lets +onlyGivenNames s1; refine Keeps.have_ (gs := gs) (o := o0) (t := s1) ?_ (fun h => ?_); (on_goal 1 => subst s1); (on_goal 2 => try clear_value s1))
    | (extract_lets +onlyGivenNames n1; first | (have p : Sys := n1; clear p; subst n1) | (have p : Et := n1; clear p; subst n1) | (have p : Hm := n1; clear p; subst n1) | (have p : Opt := n1; clear p; subst n1) | (have p : Xg := n1; clear p; subst n1) | (have p : Sns := n1; clear p; subst n1) | (have p : Ev := n1; clear p; subst n1) | clear_value n1)
    | (with_reducible refine Keeps.foldl (fun t x h => ?_) ?_)
    | (with_reducible refine KeepsOut.next ?_)
    | (with_reducible refine Keeps.submit_keeps ?_ ?_ _ _ (fun q t h => ?_) _)
    | with_reducible apply Keeps.cmdSpanKeySet_keeps
    | (simp -zeta only [Keeps.mark]; with_reducible refine KeepsLit.intro rfl ?_ ?_ ?_)
    | split

theorem Keeps.cmdHostOffsetPost_keeps {gs : List Group} (hg : [.et, .sp, .ev] ⊆ gs) {o0 s : State} (h0 : Keeps gs o0 s) (q : Req) : KeepsRes gs o0 (cmdHostOffsetPost q s) := by
  unfold cmdHostOffsetPost
  repeat' first
    | with_reducible assumption
    | with_reducible exact List.Subset.trans (by decide) hg
    | with_reducible exact Regular.keep rfl
    | (intro g hgn; cases g <;> first | exact (Keeps.out hg (by decide) hgn).elim | with_reducible rfl)
    | (extract_lets +onlyGivenNames s1; refine KeepsRes.have_ (gs := gs) (o := o0) (r := s1) ?_ (fun h => ?_); (on_goal 1 => subst s1); (on_goal 2 => try clear_value s1))
    | (extract_lets +onlyGivenNames s1; refine Keeps.have_ (gs := gs) (o := o0) (t := s1) ?_ (fun h => ?_); (on_goal 1 => subst s1); (on_goal 2 => try clear_value s1))
    | (extract_lets +onlyGivenNames n1; first | (have p : Sys := n1; clear p; subst n1) | (have p : Et := n1; clear p; subst n1) | (have p : Hm := n1; clear p; subst n1) | (have p : Opt := n1; clear p; subst n1) | (have p : Xg := n1; clear p; subst n1) | (have p : Sns := n1; clear p; subst n1) | (have p : Ev := n1; clear p; subst n1) | clear_value n1)
    | (with_reducible refine Keeps.foldl (fun t x h => ?_) ?_)
    | (with_reducible refine KeepsRes.done ?_)
    | (with_reducible refine KeepsRes.wait ?_)
    | (with_reducible refine KeepsRes.refuse ?_)
    | with_reducible apply Keeps.applyRack_keeps
    | with_reducible apply Keeps.applyRate_keeps
    | with_reducible apply Keeps.reselect_keeps
    | with_reducible apply Keeps.refuse_keeps
    | (simp -zeta only [Keeps.mark]; with_reducible refine KeepsLit.intro rfl ?_ ?_ ?_)
    | (with_reducible refine KeepsOpt.getD ?_ ?_)
    | (with_reducible refine Keeps.optEq (by assumption) ?_)
    | (with_reducible refine Keeps.pairEq1 (by assumption) ?_)
    | (with_reducible refine Keeps.pairEq2 (by assumption) ?_)
    | (with_reducible refine Keeps.ite ?_ ?_)
    | split

theorem Keeps.execHostOffsetPost_keeps {gs : List Group} (hg : [.mbx, .et, .sp, .ev] ⊆ gs) {o0 s : State} (h0 : Keeps gs o0 s) (q : Req) : KeepsOut gs o0 (execHostOffsetPost q s) := by
  unfold execHostOffsetPost
  repeat' first
    | with_reducible assumption
    | with_reducible exact List.Subset.trans (by decide) hg
    | with_reducible exact Regular.keep rfl
    | (intro g hgn; cases g <;> first | exact (Keeps.out hg (by decide) hgn).elim | with_reducible rfl)
    | (extract_lets +onlyGivenNames s1; refine Keeps.have_ (gs := gs) (o := o0) (t := s1) ?_ (fun h => ?_); (on_goal 1 => subst s1); (on_goal 2 => try clear_value s1))
    | (extract_lets +onlyGivenNames n1; first | (have p : Sys := n1; clear p; subst n1) | (have p : Et := n1; clear p; subst n1) | (have p : Hm := n1; clear p; subst n1) | (have p : Opt := n1; clear p; subst n1) | (have p : Xg := n1; clear p; subst n1) | (have p : Sns := n1; clear p; subst n1) | (have p : Ev := n1; clear p; subst n1) | clear_value n1)
    | (with_reducible refine Keeps.foldl (fun t x h => ?_) ?_)
    | (with_reducible refine KeepsOut.next ?_)
    | (with_reducible refine Keeps.submit_keeps ?_ ?_ _ _ (fun q t h => ?_) _)
    | with_reducible apply Keeps.cmdHostOffsetPost_keeps
    | (simp -zeta only [Keeps.mark]; with_reducible refine KeepsLit.intro rfl ?_ ?_ ?_)
    | split

theorem Keeps.execHostOutOfUse_keeps {gs : List Group} (hg : [.et, .sp] ⊆ gs) {o0 s : State} (h0 : Keeps gs o0 s) : KeepsOut gs o0 (execHostOutOfUse s) := by
  unfold execHostOutOfUse
  repeat' first
    | with_reducible assumption
    | with_reducible exact List.Subset.trans (by decide) hg
    | with_reducible exact Regular.keep rfl
    | (intro g hgn; cases g <;> first | exact (Keeps.out hg (by decide) hgn).elim | with_reducible rfl)
    | (extract_lets +onlyGivenNames s1; refine Keeps.have_ (gs := gs) (o := o0) (t := s1) ?_ (fun h => ?_); (on_goal 1 => subst s1); (on_goal 2 => try clear_value s1))
    | (extract_lets +onlyGivenNames n1; first | (have p : Sys := n1; clear p; subst n1) | (have p : Et := n1; clear p; subst n1) | (have p : Hm := n1; clear p; subst n1) | (have p : Opt := n1; clear p; subst n1) | (have p : Xg := n1; clear p; subst n1) | (have p : Sns := n1; clear p; subst n1) | (have p : Ev := n1; clear p; subst n1) | clear_value n1)
    | (with_reducible refine Keeps.foldl (fun t x h => ?_) ?_)
    | (with_reducible refine KeepsOut.next ?_)
    | with_reducible apply Keeps.reselect_keeps
    | (simp -zeta only [Keeps.mark]; with_reducible refine KeepsLit.intro rfl ?_ ?_ ?_)
    | (with_reducible refine Keeps.ite ?_ ?_)
    | split

theorem Keeps.writeBuffer_keeps {gs : List Group} (hg : [.mbx] ⊆ gs) {o0 s : State} (h0 : Keeps gs o0 s) (m : Fin 8) (off : Nat) (bs : Bytes) : Keeps gs o0 (State.writeBuffer s m off bs) := by
  unfold State.writeBuffer
  repeat' first
    | with_reducible assumption
    | with_reducible exact List.Subset.trans (by decide) hg
    | with_reducible exact Regular.keep rfl
    | (intro g hgn; cases g <;> first | exact (Keeps.out hg (by decide) hgn).elim | with_reducible rfl)
    | (extract_lets +onlyGivenNames s1; refine Keeps.have_ (gs := gs) (o := o0) (t := s1) ?_ (fun h => ?_); (on_goal 1 => subst s1); (on_goal 2 => try clear_value s1))
    | (extract_lets +onlyGivenNames n1; first | (have p : Sys := n1; clear p; subst n1) | (have p : Et := n1; clear p; subst n1) | (have p : Hm := n1; clear p; subst n1) | (have p : Opt := n1; clear p; subst n1) | (have p : Xg := n1; clear p; subst n1) | (have p : Sns := n1; clear p; subst n1) | (have p : Ev := n1; clear p; subst n1) | clear_value n1)
    | (with_reducible refine Keeps.foldl (fun t x h => ?_) ?_)
    | with_reducible apply Keeps.modBox_keeps
    | (simp -zeta only [Keeps.mark]; with_reducible refine KeepsLit.intro rfl ?_ ?_ ?_)
    | (with_reducible refine Keeps.ite ?_ ?_)
    | split

theorem Keeps.ackBox_keeps {gs : List Group} (hg : [.mbx] ⊆ gs) {o0 s : State} (h0 : Keeps gs o0 s) (m : Fin 8) : Keeps gs o0 (State.ackBox s m) := by
  unfold State.ackBox
  repeat' first
    | with_reducible assumption
    | with_reducible exact List.Subset.trans (by decide) hg
    | with_reducible exact Regular.keep rfl
    | (intro g hgn; cases g <;> first | exact (Keeps.out hg (by decide) hgn).elim | with_reducible rfl)
    | (extract_lets +onlyGivenNames s1; refine Keeps.have_ (gs := gs) (o := o0) (t := s1) ?_ (fun h => ?_); (on_goal 1 => subst s1); (on_goal 2 => try clear_value s1))
    | (extract_lets +onlyGivenNames n1; first | (have p : Sys := n1; clear p; subst n1) | (have p : Et := n1; clear p; subst n1) | (have p : Hm := n1; clear p; subst n1) | (have p : Opt := n1; clear p; subst n1) | (have p : Xg := n1; clear p; subst n1) | (have p : Sns := n1; clear p; subst n1) | (have p : Ev := n1; clear p; subst n1) | clear_value n1)
    | (with_reducible refine Keeps.foldl (fun t x h => ?_) ?_)
    | with_reducible apply Keeps.modBox_keeps
    | (simp -zeta only [Keeps.mark]; with_reducible refine KeepsLit.intro rfl ?_ ?_ ?_)
    | (with_reducible refine Keeps.ite ?_ ?_)
    | split

theorem Keeps.clearErr_keeps {gs : List Group} (hg : [.mbx] ⊆ gs) {o0 s : State} (h0 : Keeps gs o0 s) (m : Fin 8) : Keeps gs o0 (State.clearErr s m) := by
  unfold State.clearErr
  repeat' first
    | with_reducible assumption
    | with_reducible exact List.Subset.trans (by decide) hg
    | with_reducible exact Regular.keep rfl
    | (intro g hgn; cases g <;> first | exact (Keeps.out hg (by decide) hgn).elim | with_reducible rfl)
    | (extract_lets +onlyGivenNames s1; refine Keeps.have_ (gs := gs) (o := o0) (t := s1) ?_ (fun h => ?_); (on_goal 1 => subst s1); (on_goal 2 => try clear_value s1))
    | (extract_lets +onlyGivenNames n1; first | (have p : Sys := n1; clear p; subst n1) | (have p : Et := n1; clear p; subst n1) | (have p : Hm := n1; clear p; subst n1) | (have p : Opt := n1; clear p; subst n1) | (have p : Xg := n1; clear p; subst n1) | (have p : Sns := n1; clear p; subst n1) | (have p : Ev := n1; clear p; subst n1) | clear_value n1)
    | (with_reducible refine Keeps.foldl (fun t x h => ?_) ?_)
    | with_reducible apply Keeps.modBox_keeps
    | (simp -zeta only [Keeps.mark]; with_reducible refine KeepsLit.intro rfl ?_ ?_ ?_)
    | split

theorem Keeps.command_keeps {gs : List Group} (hg : [.fresh, .sys, .ctl, .mbx, .reg, .hm, .et, .opt, .ls, .xg, .cal, .sns, .cfg, .sp, .die, .ev] ⊆ gs) {o0 : State} (op : Nat) (c : Cmd) (e : command op = some c) (q : Req) (t : State)
    (h : Keeps gs o0 t) : KeepsRes gs o0 (c q t) := by
  have sub : ∀ {ts : List Group}, ts ⊆ [.fresh, .sys, .ctl, .mbx, .reg, .hm, .et, .opt, .ls, .xg, .cal, .sns, .cfg, .sp, .die, .ev] → ts ⊆ gs := fun h => List.Subset.trans h hg
  unfold command at e
  refine Keeps.pick e (Keeps.cmdOpSuspend_keeps (sub (by decide)) h _) (fun e => ?_)
  refine Keeps.pick e (Keeps.cmdOpResume_keeps (sub (by decide)) h _) (fun e => ?_)
  refine Keeps.pick e (Keeps.cmdOpCancel_keeps (sub (by decide)) h _) (fun e => ?_)
  refine Keeps.pick e (Keeps.cmdOpQuery_keeps (sub (by decide)) h _) (fun e => ?_)
  refine Keeps.pick e (Keeps.cmdOpWrite_keeps (sub (by decide)) h _) (fun e => ?_)
  refine Keeps.pick e (Keeps.cmdMbxSpillRead_keeps (sub (by decide)) h _) (fun e => ?_)
  refine Keeps.pick e (Keeps.cmdMbxSpillFree_keeps (sub (by decide)) h _) (fun e => ?_)
  refine Keeps.pick e (Keeps.cmdRegionSetPeriod_keeps (sub (by decide)) h _) (fun e => ?_)
  refine Keeps.pick e (Keeps.cmdRegionQuery_keeps (sub (by decide)) h _) (fun e => ?_)
  refine Keeps.pick e (Keeps.cmdReadField_keeps (sub (by decide)) h _ _) (fun e => ?_)
  refine Keeps.pick e (Keeps.cmdWriteField_keeps (sub (by decide)) h _ _) (fun e => ?_)
  refine Keeps.pick e (Keeps.cmdForecastPost_keeps (sub (by decide)) h _) (fun e => ?_)
  refine Keeps.pick e (Keeps.cmdHawkmothSetMode_keeps (sub (by decide)) h _) (fun e => ?_)
  refine Keeps.pick e (Keeps.cmdHawkmothQuery_keeps (sub (by decide)) h _) (fun e => ?_)
  refine Keeps.pick e (Keeps.cmdModelLoad_keeps (sub (by decide)) h _) (fun e => ?_)
  refine Keeps.pick e (Keeps.cmdModelUnload_keeps (sub (by decide)) h _) (fun e => ?_)
  refine Keeps.pick e (Keeps.cmdReadField_keeps (sub (by decide)) h _ _) (fun e => ?_)
  refine Keeps.pick e (Keeps.cmdWriteField_keeps (sub (by decide)) h _ _) (fun e => ?_)
  refine Keeps.pick e (Keeps.cmdErgRead_keeps (sub (by decide)) h _) (fun e => ?_)
  refine Keeps.pick e (Keeps.cmdAnchorAdd_keeps (sub (by decide)) h _) (fun e => ?_)
  refine Keeps.pick e (Keeps.cmdAnchorRemove_keeps (sub (by decide)) h _) (fun e => ?_)
  refine Keeps.pick e (Keeps.cmdAnchorQuery_keeps (sub (by decide)) h _) (fun e => ?_)
  refine Keeps.pick e (Keeps.cmdAnchorConvert_keeps (sub (by decide)) h _) (fun e => ?_)
  refine Keeps.pick e (Keeps.cmdLedgerRead_keeps (sub (by decide)) h _) (fun e => ?_)
  refine Keeps.pick e (Keeps.cmdReadField_keeps (sub (by decide)) h _ _) (fun e => ?_)
  refine Keeps.pick e (Keeps.cmdWriteField_keeps (sub (by decide)) h _ _) (fun e => ?_)
  refine Keeps.pick e (Keeps.cmdRouteQuery_keeps (sub (by decide)) h _) (fun e => ?_)
  refine Keeps.pick e (Keeps.cmdSpareInsert_keeps (sub (by decide)) h _) (fun e => ?_)
  refine Keeps.pick e (Keeps.cmdOpticRecal_keeps (sub (by decide)) h _) (fun e => ?_)
  refine Keeps.pick e (Keeps.cmdReadField_keeps (sub (by decide)) h _ _) (fun e => ?_)
  refine Keeps.pick e (Keeps.cmdWriteField_keeps (sub (by decide)) h _ _) (fun e => ?_)
  refine Keeps.pick e (Keeps.cmdSynthQuery_keeps (sub (by decide)) h _) (fun e => ?_)
  refine Keeps.pick e (Keeps.cmdSynthSetMode_keeps (sub (by decide)) h _) (fun e => ?_)
  refine Keeps.pick e (Keeps.cmdReadField_keeps (sub (by decide)) h _ _) (fun e => ?_)
  refine Keeps.pick e (Keeps.cmdWriteField_keeps (sub (by decide)) h _ _) (fun e => ?_)
  refine Keeps.pick e (Keeps.cmdCrossQuery_keeps (sub (by decide)) h _) (fun e => ?_)
  refine Keeps.pick e (Keeps.cmdCrossReset_keeps (sub (by decide)) h _) (fun e => ?_)
  refine Keeps.pick e (Keeps.cmdCrossRelease_keeps (sub (by decide)) h _) (fun e => ?_)
  refine Keeps.pick e (Keeps.cmdPairRecal_keeps (sub (by decide)) h _) (fun e => ?_)
  refine Keeps.pick e (Keeps.cmdReadField_keeps (sub (by decide)) h _ _) (fun e => ?_)
  refine Keeps.pick e (Keeps.cmdWriteField_keeps (sub (by decide)) h _ _) (fun e => ?_)
  refine Keeps.pick e (Keeps.cmdCalRun_keeps (sub (by decide)) h _) (fun e => ?_)
  refine Keeps.pick e (Keeps.cmdSelftestRun_keeps (sub (by decide)) h _) (fun e => ?_)
  refine Keeps.pick e (Keeps.cmdCalQuery_keeps (sub (by decide)) h _) (fun e => ?_)
  refine Keeps.pick e (Keeps.cmdCalSetRead_keeps (sub (by decide)) h _) (fun e => ?_)
  refine Keeps.pick e (Keeps.cmdReadField_keeps (sub (by decide)) h _ _) (fun e => ?_)
  refine Keeps.pick e (Keeps.cmdWriteField_keeps (sub (by decide)) h _ _) (fun e => ?_)
  refine Keeps.pick e (Keeps.cmdSenseQuery_keeps (sub (by decide)) h _) (fun e => ?_)
  refine Keeps.pick e (Keeps.cmdThermQuery_keeps (sub (by decide)) h _) (fun e => ?_)
  refine Keeps.pick e (Keeps.cmdPlantPost_keeps (sub (by decide)) h _) (fun e => ?_)
  refine Keeps.pick e (Keeps.cmdWearQuery_keeps (sub (by decide)) h _) (fun e => ?_)
  refine Keeps.pick e (Keeps.cmdWearExport_keeps (sub (by decide)) h _) (fun e => ?_)
  refine Keeps.pick e (Keeps.cmdWearImport_keeps (sub (by decide)) h _) (fun e => ?_)
  refine Keeps.pick e (Keeps.cmdReadField_keeps (sub (by decide)) h _ _) (fun e => ?_)
  refine Keeps.pick e (Keeps.cmdWriteField_keeps (sub (by decide)) h _ _) (fun e => ?_)
  refine Keeps.pick e (Keeps.cmdConfigQuery_keeps (sub (by decide)) h _) (fun e => ?_)
  refine Keeps.pick e (Keeps.cmdOverlayApply_keeps (sub (by decide)) h _) (fun e => ?_)
  refine Keeps.pick e (Keeps.cmdOverlayWithdraw_keeps (sub (by decide)) h _) (fun e => ?_)
  refine Keeps.pick e (Keeps.cmdModeSet_keeps (sub (by decide)) h _) (fun e => ?_)
  refine Keeps.pick e (Keeps.cmdFwUpdate_keeps (sub (by decide)) h _) (fun e => ?_)
  refine Keeps.pick e (Keeps.cmdSpanQuery_keeps (sub (by decide)) h _) (fun e => ?_)
  refine Keeps.pick e (Keeps.cmdSpanPeerAdd_keeps (sub (by decide)) h _) (fun e => ?_)
  refine Keeps.pick e (Keeps.cmdSpanPeerRemove_keeps (sub (by decide)) h _) (fun e => ?_)
  refine Keeps.pick e (Keeps.cmdSpanKeySet_keeps (sub (by decide)) h _) (fun e => ?_)
  refine Keeps.pick e (Keeps.cmdHostOffsetPost_keeps (sub (by decide)) h _) (fun e => ?_)
  refine Keeps.pick e (Keeps.cmdReadField_keeps (sub (by decide)) h _ _) (fun e => ?_)
  refine Keeps.pick e (Keeps.cmdWriteField_keeps (sub (by decide)) h _ _) (fun e => ?_)
  refine Keeps.pick e (Keeps.cmdEventRead_keeps (sub (by decide)) h _) (fun e => ?_)
  refine Keeps.pick e (Keeps.cmdDieQuery_keeps (sub (by decide)) h _) (fun e => ?_)
  refine Keeps.pick e (Keeps.cmdReadField_keeps (sub (by decide)) h _ _) (fun e => ?_)
  refine Keeps.pick e (Keeps.cmdWriteField_keeps (sub (by decide)) h _ _) (fun e => ?_)
  refine Keeps.pick e (Keeps.cmdDebugRead_keeps (sub (by decide)) h _) (fun e => ?_)
  refine Keeps.pick e (Keeps.cmdDebugWrite_keeps (sub (by decide)) h _) (fun e => ?_)
  refine Keeps.pick e (Keeps.cmdCtrlHalt_keeps (sub (by decide)) h _) (fun e => ?_)
  refine Keeps.pick e (Keeps.cmdCtrlResume_keeps (sub (by decide)) h _) (fun e => ?_)
  refine Keeps.pick e (Keeps.cmdCtrlRestart_keeps (sub (by decide)) h _) (fun e => ?_)
  cases e

theorem Keeps.ringBox_keeps {gs : List Group} (hg : [.fresh, .sys, .ctl, .mbx, .reg, .hm, .et, .opt, .ls, .xg, .cal, .sns, .cfg, .sp, .die, .ev] ⊆ gs) {o0 s : State} (h0 : Keeps gs o0 s) (m : Fin 8) (test : Bool) :
    Keeps gs o0 (State.ringBox s m test) :=
  Keeps.serve_keeps (List.Subset.trans (by decide) hg) h0 command (Keeps.command_keeps hg) m test

theorem Keeps.execRequestBufferWrite_keeps {gs : List Group} (hg : [.mbx] ⊆ gs) {o0 s : State} (h0 : Keeps gs o0 s) (m : Fin 8) (offset : Nat) (bytes : Bytes) : KeepsOut gs o0 (execRequestBufferWrite m offset bytes s) := by
  unfold execRequestBufferWrite
  repeat' first
    | with_reducible assumption
    | with_reducible exact List.Subset.trans (by decide) hg
    | with_reducible exact Regular.keep rfl
    | (intro g hgn; cases g <;> first | exact (Keeps.out hg (by decide) hgn).elim | with_reducible rfl)
    | (extract_lets +onlyGivenNames s1; refine Keeps.have_ (gs := gs) (o := o0) (t := s1) ?_ (fun h => ?_); (on_goal 1 => subst s1); (on_goal 2 => try clear_value s1))
    | (extract_lets +onlyGivenNames n1; first | (have p : Sys := n1; clear p; subst n1) | (have p : Et := n1; clear p; subst n1) | (have p : Hm := n1; clear p; subst n1) | (have p : Opt := n1; clear p; subst n1) | (have p : Xg := n1; clear p; subst n1) | (have p : Sns := n1; clear p; subst n1) | (have p : Ev := n1; clear p; subst n1) | clear_value n1)
    | (with_reducible refine Keeps.foldl (fun t x h => ?_) ?_)
    | (with_reducible refine KeepsOut.next ?_)
    | with_reducible apply Keeps.writeBuffer_keeps
    | (simp -zeta only [Keeps.mark]; with_reducible refine KeepsLit.intro rfl ?_ ?_ ?_)
    | (with_reducible refine Keeps.ite ?_ ?_)
    | split

theorem Keeps.execRing_keeps {gs : List Group} (hg : [.fresh, .sys, .ctl, .mbx, .reg, .hm, .et, .opt, .ls, .xg, .cal, .sns, .cfg, .sp, .die, .ev] ⊆ gs) {o0 s : State} (h0 : Keeps gs o0 s) (m : Fin 8) : KeepsOut gs o0 (execRing m s) := by
  unfold execRing
  repeat' first
    | with_reducible assumption
    | with_reducible exact List.Subset.trans (by decide) hg
    | with_reducible exact Regular.keep rfl
    | (intro g hgn; cases g <;> first | exact (Keeps.out hg (by decide) hgn).elim | with_reducible rfl)
    | (extract_lets +onlyGivenNames s1; refine Keeps.have_ (gs := gs) (o := o0) (t := s1) ?_ (fun h => ?_); (on_goal 1 => subst s1); (on_goal 2 => try clear_value s1))
    | (extract_lets +onlyGivenNames n1; first | (have p : Sys := n1; clear p; subst n1) | (have p : Et := n1; clear p; subst n1) | (have p : Hm := n1; clear p; subst n1) | (have p : Opt := n1; clear p; subst n1) | (have p : Xg := n1; clear p; subst n1) | (have p : Sns := n1; clear p; subst n1) | (have p : Ev := n1; clear p; subst n1) | clear_value n1)
    | (with_reducible refine Keeps.foldl (fun t x h => ?_) ?_)
    | (with_reducible refine KeepsOut.next ?_)
    | with_reducible apply Keeps.ringBox_keeps
    | (simp -zeta only [Keeps.mark]; with_reducible refine KeepsLit.intro rfl ?_ ?_ ?_)
    | (with_reducible refine Keeps.ite ?_ ?_)
    | split

theorem Keeps.execAck_keeps {gs : List Group} (hg : [.mbx] ⊆ gs) {o0 s : State} (h0 : Keeps gs o0 s) (m : Fin 8) : KeepsOut gs o0 (execAck m s) := by
  unfold execAck
  repeat' first
    | with_reducible assumption
    | with_reducible exact List.Subset.trans (by decide) hg
    | with_reducible exact Regular.keep rfl
    | (intro g hgn; cases g <;> first | exact (Keeps.out hg (by decide) hgn).elim | with_reducible rfl)
    | (extract_lets +onlyGivenNames s1; refine Keeps.have_ (gs := gs) (o := o0) (t := s1) ?_ (fun h => ?_); (on_goal 1 => subst s1); (on_goal 2 => try clear_value s1))
    | (extract_lets +onlyGivenNames n1; first | (have p : Sys := n1; clear p; subst n1) | (have p : Et := n1; clear p; subst n1) | (have p : Hm := n1; clear p; subst n1) | (have p : Opt := n1; clear p; subst n1) | (have p : Xg := n1; clear p; subst n1) | (have p : Sns := n1; clear p; subst n1) | (have p : Ev := n1; clear p; subst n1) | clear_value n1)
    | (with_reducible refine Keeps.foldl (fun t x h => ?_) ?_)
    | (with_reducible refine KeepsOut.next ?_)
    | with_reducible apply Keeps.ackBox_keeps
    | (simp -zeta only [Keeps.mark]; with_reducible refine KeepsLit.intro rfl ?_ ?_ ?_)
    | (with_reducible refine Keeps.ite ?_ ?_)
    | split

theorem Keeps.execClearErr_keeps {gs : List Group} (hg : [.mbx] ⊆ gs) {o0 s : State} (h0 : Keeps gs o0 s) (m : Fin 8) : KeepsOut gs o0 (execClearErr m s) := by
  unfold execClearErr
  repeat' first
    | with_reducible assumption
    | with_reducible exact List.Subset.trans (by decide) hg
    | with_reducible exact Regular.keep rfl
    | (intro g hgn; cases g <;> first | exact (Keeps.out hg (by decide) hgn).elim | with_reducible rfl)
    | (extract_lets +onlyGivenNames s1; refine Keeps.have_ (gs := gs) (o := o0) (t := s1) ?_ (fun h => ?_); (on_goal 1 => subst s1); (on_goal 2 => try clear_value s1))
    | (extract_lets +onlyGivenNames n1; first | (have p : Sys := n1; clear p; subst n1) | (have p : Et := n1; clear p; subst n1) | (have p : Hm := n1; clear p; subst n1) | (have p : Opt := n1; clear p; subst n1) | (have p : Xg := n1; clear p; subst n1) | (have p : Sns := n1; clear p; subst n1) | (have p : Ev := n1; clear p; subst n1) | clear_value n1)
    | (with_reducible refine Keeps.foldl (fun t x h => ?_) ?_)
    | (with_reducible refine KeepsOut.next ?_)
    | with_reducible apply Keeps.clearErr_keeps
    | (simp -zeta only [Keeps.mark]; with_reducible refine KeepsLit.intro rfl ?_ ?_ ?_)
    | (with_reducible refine Keeps.ite ?_ ?_)
    | split

theorem Keeps.modTap_keeps {gs : List Group} (hg : [.tap] ⊆ gs) {o0 s : State} (h0 : Keeps gs o0 s) (f : Tap → Tap) : Keeps gs o0 (State.modTap s f) := by
  unfold State.modTap
  repeat' first
    | with_reducible assumption
    | with_reducible exact List.Subset.trans (by decide) hg
    | with_reducible exact Regular.keep rfl
    | (intro g hgn; cases g <;> first | exact (Keeps.out hg (by decide) hgn).elim | with_reducible rfl)
    | (extract_lets +onlyGivenNames s1; refine Keeps.have_ (gs := gs) (o := o0) (t := s1) ?_ (fun h => ?_); (on_goal 1 => subst s1); (on_goal 2 => try clear_value s1))
    | (extract_lets +onlyGivenNames n1; first | (have p : Sys := n1; clear p; subst n1) | (have p : Et := n1; clear p; subst n1) | (have p : Hm := n1; clear p; subst n1) | (have p : Opt := n1; clear p; subst n1) | (have p : Xg := n1; clear p; subst n1) | (have p : Sns := n1; clear p; subst n1) | (have p : Ev := n1; clear p; subst n1) | clear_value n1)
    | (with_reducible refine Keeps.foldl (fun t x h => ?_) ?_)
    | (simp -zeta only [Keeps.mark]; with_reducible refine KeepsLit.intro rfl ?_ ?_ ?_)
    | split

theorem Keeps.execTrstN_keeps {gs : List Group} (hg : [.reg, .ls, .xg, .tap] ⊆ gs) {o0 s : State} (h0 : Keeps gs o0 s) : KeepsOut gs o0 (execTrstN s) := by
  unfold execTrstN
  repeat' first
    | with_reducible assumption
    | with_reducible exact List.Subset.trans (by decide) hg
    | with_reducible exact Regular.keep rfl
    | (intro g hgn; cases g <;> first | exact (Keeps.out hg (by decide) hgn).elim | with_reducible rfl)
    | (extract_lets +onlyGivenNames s1; refine Keeps.have_ (gs := gs) (o := o0) (t := s1) ?_ (fun h => ?_); (on_goal 1 => subst s1); (on_goal 2 => try clear_value s1))
    | (extract_lets +onlyGivenNames n1; first | (have p : Sys := n1; clear p; subst n1) | (have p : Et := n1; clear p; subst n1) | (have p : Hm := n1; clear p; subst n1) | (have p : Opt := n1; clear p; subst n1) | (have p : Xg := n1; clear p; subst n1) | (have p : Sns := n1; clear p; subst n1) | (have p : Ev := n1; clear p; subst n1) | clear_value n1)
    | (with_reducible refine Keeps.foldl (fun t x h => ?_) ?_)
    | (with_reducible refine KeepsOut.next ?_)
    | with_reducible apply Keeps.modTap_keeps
    | with_reducible apply Keeps.tear_keeps
    | (simp -zeta only [Keeps.mark]; with_reducible refine KeepsLit.intro rfl ?_ ?_ ?_)
    | (with_reducible refine Keeps.ite ?_ ?_)
    | split

theorem Keeps.execExtest_keeps {gs : List Group} (hg : [.tap] ⊆ gs) {o0 s : State} (h0 : Keeps gs o0 s) (cells : BoundaryCells) : KeepsOut gs o0 (execExtest cells s) := by
  unfold execExtest
  repeat' first
    | with_reducible assumption
    | with_reducible exact List.Subset.trans (by decide) hg
    | with_reducible exact Regular.keep rfl
    | (intro g hgn; cases g <;> first | exact (Keeps.out hg (by decide) hgn).elim | with_reducible rfl)
    | (extract_lets +onlyGivenNames s1; refine Keeps.have_ (gs := gs) (o := o0) (t := s1) ?_ (fun h => ?_); (on_goal 1 => subst s1); (on_goal 2 => try clear_value s1))
    | (extract_lets +onlyGivenNames n1; first | (have p : Sys := n1; clear p; subst n1) | (have p : Et := n1; clear p; subst n1) | (have p : Hm := n1; clear p; subst n1) | (have p : Opt := n1; clear p; subst n1) | (have p : Xg := n1; clear p; subst n1) | (have p : Sns := n1; clear p; subst n1) | (have p : Ev := n1; clear p; subst n1) | clear_value n1)
    | (with_reducible refine Keeps.foldl (fun t x h => ?_) ?_)
    | (with_reducible refine KeepsOut.next ?_)
    | with_reducible apply Keeps.modTap_keeps
    | (simp -zeta only [Keeps.mark]; with_reducible refine KeepsLit.intro rfl ?_ ?_ ?_)
    | split

theorem Keeps.execSamplePreload_keeps {gs : List Group} (hg : [.tap] ⊆ gs) {o0 s : State} (h0 : Keeps gs o0 s) (cells : BoundaryCells) : KeepsOut gs o0 (execSamplePreload cells s) := by
  unfold execSamplePreload
  repeat' first
    | with_reducible assumption
    | with_reducible exact List.Subset.trans (by decide) hg
    | with_reducible exact Regular.keep rfl
    | (intro g hgn; cases g <;> first | exact (Keeps.out hg (by decide) hgn).elim | with_reducible rfl)
    | (extract_lets +onlyGivenNames s1; refine Keeps.have_ (gs := gs) (o := o0) (t := s1) ?_ (fun h => ?_); (on_goal 1 => subst s1); (on_goal 2 => try clear_value s1))
    | (extract_lets +onlyGivenNames n1; first | (have p : Sys := n1; clear p; subst n1) | (have p : Et := n1; clear p; subst n1) | (have p : Hm := n1; clear p; subst n1) | (have p : Opt := n1; clear p; subst n1) | (have p : Xg := n1; clear p; subst n1) | (have p : Sns := n1; clear p; subst n1) | (have p : Ev := n1; clear p; subst n1) | clear_value n1)
    | (with_reducible refine Keeps.foldl (fun t x h => ?_) ?_)
    | (with_reducible refine KeepsOut.next ?_)
    | with_reducible apply Keeps.modTap_keeps
    | (simp -zeta only [Keeps.mark]; with_reducible refine KeepsLit.intro rfl ?_ ?_ ?_)
    | split

theorem Keeps.execIdcode_keeps {gs : List Group} (hg : [.tap] ⊆ gs) {o0 s : State} (h0 : Keeps gs o0 s) : KeepsOut gs o0 (execIdcode s) := by
  unfold execIdcode
  repeat' first
    | with_reducible assumption
    | with_reducible exact List.Subset.trans (by decide) hg
    | with_reducible exact Regular.keep rfl
    | (intro g hgn; cases g <;> first | exact (Keeps.out hg (by decide) hgn).elim | with_reducible rfl)
    | (extract_lets +onlyGivenNames s1; refine Keeps.have_ (gs := gs) (o := o0) (t := s1) ?_ (fun h => ?_); (on_goal 1 => subst s1); (on_goal 2 => try clear_value s1))
    | (extract_lets +onlyGivenNames n1; first | (have p : Sys := n1; clear p; subst n1) | (have p : Et := n1; clear p; subst n1) | (have p : Hm := n1; clear p; subst n1) | (have p : Opt := n1; clear p; subst n1) | (have p : Xg := n1; clear p; subst n1) | (have p : Sns := n1; clear p; subst n1) | (have p : Ev := n1; clear p; subst n1) | clear_value n1)
    | (with_reducible refine Keeps.foldl (fun t x h => ?_) ?_)
    | (with_reducible refine KeepsOut.next ?_)
    | with_reducible apply Keeps.modTap_keeps
    | (simp -zeta only [Keeps.mark]; with_reducible refine KeepsLit.intro rfl ?_ ?_ ?_)
    | split

theorem Keeps.execBypass_keeps {gs : List Group} (hg : [.tap] ⊆ gs) {o0 s : State} (h0 : Keeps gs o0 s) (code : BitVec 8) : KeepsOut gs o0 (execBypass code s) := by
  unfold execBypass
  repeat' first
    | with_reducible assumption
    | with_reducible exact List.Subset.trans (by decide) hg
    | with_reducible exact Regular.keep rfl
    | (intro g hgn; cases g <;> first | exact (Keeps.out hg (by decide) hgn).elim | with_reducible rfl)
    | (extract_lets +onlyGivenNames s1; refine Keeps.have_ (gs := gs) (o := o0) (t := s1) ?_ (fun h => ?_); (on_goal 1 => subst s1); (on_goal 2 => try clear_value s1))
    | (extract_lets +onlyGivenNames n1; first | (have p : Sys := n1; clear p; subst n1) | (have p : Et := n1; clear p; subst n1) | (have p : Hm := n1; clear p; subst n1) | (have p : Opt := n1; clear p; subst n1) | (have p : Xg := n1; clear p; subst n1) | (have p : Sns := n1; clear p; subst n1) | (have p : Ev := n1; clear p; subst n1) | clear_value n1)
    | (with_reducible refine Keeps.foldl (fun t x h => ?_) ?_)
    | (with_reducible refine KeepsOut.next ?_)
    | with_reducible apply Keeps.modTap_keeps
    | (simp -zeta only [Keeps.mark]; with_reducible refine KeepsLit.intro rfl ?_ ?_ ?_)
    | (with_reducible refine Keeps.ite ?_ ?_)
    | split

theorem Keeps.execMbx7Req_keeps {gs : List Group} (hg : [.mbx, .tap] ⊆ gs) {o0 s : State} (h0 : Keeps gs o0 s) (bytes : Bytes) : KeepsOut gs o0 (execMbx7Req bytes s) := by
  unfold execMbx7Req
  repeat' first
    | with_reducible assumption
    | with_reducible exact List.Subset.trans (by decide) hg
    | with_reducible exact Regular.keep rfl
    | (intro g hgn; cases g <;> first | exact (Keeps.out hg (by decide) hgn).elim | with_reducible rfl)
    | (extract_lets +onlyGivenNames s1; refine Keeps.have_ (gs := gs) (o := o0) (t := s1) ?_ (fun h => ?_); (on_goal 1 => subst s1); (on_goal 2 => try clear_value s1))
    | (extract_lets +onlyGivenNames n1; first | (have p : Sys := n1; clear p; subst n1) | (have p : Et := n1; clear p; subst n1) | (have p : Hm := n1; clear p; subst n1) | (have p : Opt := n1; clear p; subst n1) | (have p : Xg := n1; clear p; subst n1) | (have p : Sns := n1; clear p; subst n1) | (have p : Ev := n1; clear p; subst n1) | clear_value n1)
    | (with_reducible refine Keeps.foldl (fun t x h => ?_) ?_)
    | (with_reducible refine KeepsOut.next ?_)
    | with_reducible apply Keeps.modTap_keeps
    | with_reducible apply Keeps.writeBuffer_keeps
    | (simp -zeta only [Keeps.mark]; with_reducible refine KeepsLit.intro rfl ?_ ?_ ?_)
    | (with_reducible refine Keeps.ite ?_ ?_)
    | split

theorem Keeps.execMbx7Rsp_keeps {gs : List Group} (hg : [.tap] ⊆ gs) {o0 s : State} (h0 : Keeps gs o0 s) : KeepsOut gs o0 (execMbx7Rsp s) := by
  unfold execMbx7Rsp
  repeat' first
    | with_reducible assumption
    | with_reducible exact List.Subset.trans (by decide) hg
    | with_reducible exact Regular.keep rfl
    | (intro g hgn; cases g <;> first | exact (Keeps.out hg (by decide) hgn).elim | with_reducible rfl)
    | (extract_lets +onlyGivenNames s1; refine Keeps.have_ (gs := gs) (o := o0) (t := s1) ?_ (fun h => ?_); (on_goal 1 => subst s1); (on_goal 2 => try clear_value s1))
    | (extract_lets +onlyGivenNames n1; first | (have p : Sys := n1; clear p; subst n1) | (have p : Et := n1; clear p; subst n1) | (have p : Hm := n1; clear p; subst n1) | (have p : Opt := n1; clear p; subst n1) | (have p : Xg := n1; clear p; subst n1) | (have p : Sns := n1; clear p; subst n1) | (have p : Ev := n1; clear p; subst n1) | clear_value n1)
    | (with_reducible refine Keeps.foldl (fun t x h => ?_) ?_)
    | (with_reducible refine KeepsOut.next ?_)
    | with_reducible apply Keeps.modTap_keeps
    | (simp -zeta only [Keeps.mark]; with_reducible refine KeepsLit.intro rfl ?_ ?_ ?_)
    | split

theorem Keeps.execMbx7Ctl_keeps {gs : List Group} (hg : [.fresh, .sys, .ctl, .mbx, .reg, .hm, .et, .opt, .ls, .xg, .cal, .sns, .cfg, .sp, .die, .ev, .tap] ⊆ gs) {o0 s : State} (h0 : Keeps gs o0 s) (dr : Word) : KeepsOut gs o0 (execMbx7Ctl dr s) := by
  unfold execMbx7Ctl
  repeat' first
    | with_reducible assumption
    | with_reducible exact List.Subset.trans (by decide) hg
    | with_reducible exact Regular.keep rfl
    | (intro g hgn; cases g <;> first | exact (Keeps.out hg (by decide) hgn).elim | with_reducible rfl)
    | (extract_lets +onlyGivenNames s1; refine Keeps.have_ (gs := gs) (o := o0) (t := s1) ?_ (fun h => ?_); (on_goal 1 => subst s1); (on_goal 2 => try clear_value s1))
    | (extract_lets +onlyGivenNames n1; first | (have p : Sys := n1; clear p; subst n1) | (have p : Et := n1; clear p; subst n1) | (have p : Hm := n1; clear p; subst n1) | (have p : Opt := n1; clear p; subst n1) | (have p : Xg := n1; clear p; subst n1) | (have p : Sns := n1; clear p; subst n1) | (have p : Ev := n1; clear p; subst n1) | clear_value n1)
    | (with_reducible refine Keeps.foldl (fun t x h => ?_) ?_)
    | (with_reducible refine KeepsOut.next ?_)
    | with_reducible apply Keeps.ackBox_keeps
    | with_reducible apply Keeps.clearErr_keeps
    | with_reducible apply Keeps.modTap_keeps
    | with_reducible apply Keeps.ringBox_keeps
    | (simp -zeta only [Keeps.mark]; with_reducible refine KeepsLit.intro rfl ?_ ?_ ?_)
    | (with_reducible refine Keeps.ite ?_ ?_)
    | split

theorem Keeps.grantAsk_keeps {gs : List Group} (hg : [.mbx, .reg, .hm, .et, .xg, .ev] ⊆ gs) {o0 s : State} (h0 : Keeps gs o0 s) (a : Ask) : Keeps gs o0 (State.grantAsk s a) := by
  unfold State.grantAsk
  repeat' first
    | with_reducible assumption
    | with_reducible exact List.Subset.trans (by decide) hg
    | with_reducible exact Regular.keep rfl
    | (intro g hgn; cases g <;> first | exact (Keeps.out hg (by decide) hgn).elim | with_reducible rfl)
    | (extract_lets +onlyGivenNames s1; refine Keeps.have_ (gs := gs) (o := o0) (t := s1) ?_ (fun h => ?_); (on_goal 1 => subst s1); (on_goal 2 => try clear_value s1))
    | (extract_lets +onlyGivenNames n1; first | (have p : Sys := n1; clear p; subst n1) | (have p : Et := n1; clear p; subst n1) | (have p : Hm := n1; clear p; subst n1) | (have p : Opt := n1; clear p; subst n1) | (have p : Xg := n1; clear p; subst n1) | (have p : Sns := n1; clear p; subst n1) | (have p : Ev := n1; clear p; subst n1) | clear_value n1)
    | (with_reducible refine Keeps.foldl (fun t x h => ?_) ?_)
    | with_reducible apply Keeps.fqDrain_keeps
    | with_reducible apply Keeps.modRgn_keeps
    | with_reducible apply Keeps.record_keeps
    | (simp -zeta only [Keeps.mark]; with_reducible refine KeepsLit.intro rfl ?_ ?_ ?_)
    | split

theorem Keeps.oasisCycle_keeps {gs : List Group} (hg : [.fresh, .mbx, .reg, .hm, .et, .xg, .ev] ⊆ gs) {o0 s : State} (h0 : Keeps gs o0 s) : Keeps gs o0 (State.oasisCycle s) := by
  unfold State.oasisCycle
  repeat' first
    | with_reducible assumption
    | with_reducible exact List.Subset.trans (by decide) hg
    | exact fun h => { h with regions := Map.foldl_put_wf (fun _ e hm => Map.put_wf e.1 _ hm) rfl }
    | with_reducible exact Regular.keep rfl
    | (extract_lets +onlyGivenNames f1; (first | (refine Keeps.fun1 f1 ?_) | (refine Keeps.fun2 f1 ?_) | (refine Keeps.fun3 f1 ?_) | (refine KeepsRes.fun1 f1 ?_)); subst f1; beta_reduce)
    | (intro g hgn; cases g <;> first | exact (Keeps.out hg (by decide) hgn).elim | with_reducible rfl)
    | (extract_lets +onlyGivenNames s1; refine Keeps.have_ (gs := gs) (o := o0) (t := s1) ?_ (fun h => ?_); (on_goal 1 => subst s1); (on_goal 2 => try clear_value s1))
    | (extract_lets +onlyGivenNames n1; first | (have p : Sys := n1; clear p; subst n1) | (have p : Et := n1; clear p; subst n1) | (have p : Hm := n1; clear p; subst n1) | (have p : Opt := n1; clear p; subst n1) | (have p : Xg := n1; clear p; subst n1) | (have p : Sns := n1; clear p; subst n1) | (have p : Ev := n1; clear p; subst n1) | clear_value n1)
    | (with_reducible refine Keeps.foldl (fun t x h => ?_) ?_)
    | (with_reducible refine Keeps.foldl2 (fun t x h => ?_) ?_)
    | (with_reducible refine Keeps.foldl1 (fun t x h => ?_) ?_)
    | with_reducible apply Keeps.draw_keeps
    | with_reducible apply Keeps.grantAsk_keeps
    | (simp -zeta only [Keeps.mark]; with_reducible refine KeepsLit.intro rfl ?_ ?_ ?_)
    | (with_reducible refine KeepsOpt.getD ?_ ?_)
    | (with_reducible refine Keeps.optEq (by assumption) ?_)
    | (with_reducible refine Keeps.pairEq1 (by assumption) ?_)
    | (with_reducible refine Keeps.pairEq2 (by assumption) ?_)
    | (with_reducible refine Keeps.ite ?_ ?_)
    | split

theorem Keeps.heldEdge_keeps {gs : List Group} (hg : [.ls, .xg] ⊆ gs) {o0 s : State} (h0 : Keeps gs o0 s) : Keeps gs o0 (State.heldEdge s) := by
  unfold State.heldEdge
  repeat' first
    | with_reducible assumption
    | with_reducible exact List.Subset.trans (by decide) hg
    | with_reducible exact Regular.keep rfl
    | (intro g hgn; cases g <;> first | exact (Keeps.out hg (by decide) hgn).elim | with_reducible rfl)
    | (extract_lets +onlyGivenNames s1; refine Keeps.have_ (gs := gs) (o := o0) (t := s1) ?_ (fun h => ?_); (on_goal 1 => subst s1); (on_goal 2 => try clear_value s1))
    | (extract_lets +onlyGivenNames n1; first | (have p : Sys := n1; clear p; subst n1) | (have p : Et := n1; clear p; subst n1) | (have p : Hm := n1; clear p; subst n1) | (have p : Opt := n1; clear p; subst n1) | (have p : Xg := n1; clear p; subst n1) | (have p : Sns := n1; clear p; subst n1) | (have p : Ev := n1; clear p; subst n1) | clear_value n1)
    | (with_reducible refine Keeps.foldl (fun t x h => ?_) ?_)
    | with_reducible apply Keeps.present_keeps
    | (simp -zeta only [Keeps.mark]; with_reducible refine KeepsLit.intro rfl ?_ ?_ ?_)
    | split

theorem Keeps.tick_keeps {gs : List Group} (hg : [.fresh, .sys, .mbx, .reg, .hm, .et, .ls, .xg, .cfg, .die, .ev] ⊆ gs) {o0 s : State} (h0 : Keeps gs o0 s) : Keeps gs o0 (State.tick s) := by
  have sub : ∀ {ts : List Group}, ts ⊆ [.fresh, .sys, .mbx, .reg, .hm, .et, .ls, .xg, .cfg, .die, .ev] → ts ⊆ gs := fun h => List.Subset.trans h hg
  unfold State.tick
  split
  · rename_i he
    refine Keeps.bootTick_keeps (sub (by decide)) (Keeps.heldEdge_keeps (sub (by decide)) (Keeps.postWaiting_keeps (sub (by decide)) (Keeps.oasisCycle_keeps (sub (by decide))
      (Keeps.slotTurn_keeps (sub (by decide)) (h0.trans ⟨⟨?_⟩, fun h => { h with
        erg := Nat.mod_lt _ (by decide), still := fun hf => absurd (he.symm.trans hf) (by decide) }⟩)))))
    intro g hgn
    cases g <;> first | exact (Keeps.out hg (by decide) hgn).elim | rfl
  · exact h0

end Sys2Proof.Safety
end

