-- ==== Sys2Proof/Laws/PerInstr.lean ====
section
/-! SUPPORT. Statements about every command as syntax, one lemma a constructor. -/

/-- A command's well-formedness is decided (WellFormed.lean). -/
def Sys2Proof.Laws.F.Statement (i : Sys2Proof.Instr) : Prop := i.wf = true ∨ i.wf = false

theorem Sys2Proof.Laws.F.pkgResetNAssert  : Sys2Proof.Laws.F.Statement (.pkgResetNAssert) := by
  unfold Sys2Proof.Laws.F.Statement; cases h : Sys2Proof.Instr.wf _ <;> simp

theorem Sys2Proof.Laws.F.pkgResetNRelease (env : BootEnv) : Sys2Proof.Laws.F.Statement (.pkgResetNRelease env) := by
  unfold Sys2Proof.Laws.F.Statement; cases h : Sys2Proof.Instr.wf _ <;> simp

theorem Sys2Proof.Laws.F.basePllLock  : Sys2Proof.Laws.F.Statement (.basePllLock) := by
  unfold Sys2Proof.Laws.F.Statement; cases h : Sys2Proof.Instr.wf _ <;> simp

theorem Sys2Proof.Laws.F.basePllLockTimeout  : Sys2Proof.Laws.F.Statement (.basePllLockTimeout) := by
  unfold Sys2Proof.Laws.F.Statement; cases h : Sys2Proof.Instr.wf _ <;> simp

theorem Sys2Proof.Laws.F.bootOverrun  : Sys2Proof.Laws.F.Statement (.bootOverrun) := by
  unfold Sys2Proof.Laws.F.Statement; cases h : Sys2Proof.Instr.wf _ <;> simp

theorem Sys2Proof.Laws.F.xtalLoss  : Sys2Proof.Laws.F.Statement (.xtalLoss) := by
  unfold Sys2Proof.Laws.F.Statement; cases h : Sys2Proof.Instr.wf _ <;> simp

theorem Sys2Proof.Laws.F.xtalRestored  : Sys2Proof.Laws.F.Statement (.xtalRestored) := by
  unfold Sys2Proof.Laws.F.Statement; cases h : Sys2Proof.Instr.wf _ <;> simp

theorem Sys2Proof.Laws.F.diePowerLoss (site : Site) : Sys2Proof.Laws.F.Statement (.diePowerLoss site) := by
  unfold Sys2Proof.Laws.F.Statement; cases h : Sys2Proof.Instr.wf _ <;> simp

theorem Sys2Proof.Laws.F.dieOwnReset (site : Site) : Sys2Proof.Laws.F.Statement (.dieOwnReset site) := by
  unfold Sys2Proof.Laws.F.Statement; cases h : Sys2Proof.Instr.wf _ <;> simp

theorem Sys2Proof.Laws.F.regionsOwnReset (regions : List RegionNo) : Sys2Proof.Laws.F.Statement (.regionsOwnReset regions) := by
  unfold Sys2Proof.Laws.F.Statement; cases h : Sys2Proof.Instr.wf _ <;> simp

theorem Sys2Proof.Laws.F.localResetExit (id : Word) (second : Bool) : Sys2Proof.Laws.F.Statement (.localResetExit id second) := by
  unfold Sys2Proof.Laws.F.Statement; cases h : Sys2Proof.Instr.wf _ <;> simp

theorem Sys2Proof.Laws.F.trstN  : Sys2Proof.Laws.F.Statement (.trstN) := by
  unfold Sys2Proof.Laws.F.Statement; cases h : Sys2Proof.Instr.wf _ <;> simp

theorem Sys2Proof.Laws.F.extest (cells : BoundaryCells) : Sys2Proof.Laws.F.Statement (.extest cells) := by
  unfold Sys2Proof.Laws.F.Statement; cases h : Sys2Proof.Instr.wf _ <;> simp

theorem Sys2Proof.Laws.F.samplePreload (cells : BoundaryCells) : Sys2Proof.Laws.F.Statement (.samplePreload cells) := by
  unfold Sys2Proof.Laws.F.Statement; cases h : Sys2Proof.Instr.wf _ <;> simp

theorem Sys2Proof.Laws.F.idcode  : Sys2Proof.Laws.F.Statement (.idcode) := by
  unfold Sys2Proof.Laws.F.Statement; cases h : Sys2Proof.Instr.wf _ <;> simp

theorem Sys2Proof.Laws.F.bypass (code : BitVec 8) : Sys2Proof.Laws.F.Statement (.bypass code) := by
  unfold Sys2Proof.Laws.F.Statement; cases h : Sys2Proof.Instr.wf _ <;> simp

theorem Sys2Proof.Laws.F.mbx7Req (bytes : Bytes) : Sys2Proof.Laws.F.Statement (.mbx7Req bytes) := by
  unfold Sys2Proof.Laws.F.Statement; cases h : Sys2Proof.Instr.wf _ <;> simp

theorem Sys2Proof.Laws.F.mbx7Rsp  : Sys2Proof.Laws.F.Statement (.mbx7Rsp) := by
  unfold Sys2Proof.Laws.F.Statement; cases h : Sys2Proof.Instr.wf _ <;> simp

theorem Sys2Proof.Laws.F.mbx7Ctl (dr : Word) : Sys2Proof.Laws.F.Statement (.mbx7Ctl dr) := by
  unfold Sys2Proof.Laws.F.Statement; cases h : Sys2Proof.Instr.wf _ <;> simp

theorem Sys2Proof.Laws.F.requestBufferWrite (m : Fin 8) (offset : Nat) (bytes : Bytes) : Sys2Proof.Laws.F.Statement (.requestBufferWrite m offset bytes) := by
  unfold Sys2Proof.Laws.F.Statement; cases h : Sys2Proof.Instr.wf _ <;> simp

theorem Sys2Proof.Laws.F.ring (m : Fin 8) : Sys2Proof.Laws.F.Statement (.ring m) := by
  unfold Sys2Proof.Laws.F.Statement; cases h : Sys2Proof.Instr.wf _ <;> simp

theorem Sys2Proof.Laws.F.ack (m : Fin 8) : Sys2Proof.Laws.F.Statement (.ack m) := by
  unfold Sys2Proof.Laws.F.Statement; cases h : Sys2Proof.Instr.wf _ <;> simp

theorem Sys2Proof.Laws.F.clearErr (m : Fin 8) : Sys2Proof.Laws.F.Statement (.clearErr m) := by
  unfold Sys2Proof.Laws.F.Statement; cases h : Sys2Proof.Instr.wf _ <;> simp

theorem Sys2Proof.Laws.F.mbErgLoRead  : Sys2Proof.Laws.F.Statement (.mbErgLoRead) := by
  unfold Sys2Proof.Laws.F.Statement; cases h : Sys2Proof.Instr.wf _ <;> simp

theorem Sys2Proof.Laws.F.mbErgHiRead  : Sys2Proof.Laws.F.Statement (.mbErgHiRead) := by
  unfold Sys2Proof.Laws.F.Statement; cases h : Sys2Proof.Instr.wf _ <;> simp

theorem Sys2Proof.Laws.F.registerWrite (space : RegSpace) (addr : Word) (value : Word) : Sys2Proof.Laws.F.Statement (.registerWrite space addr value) := by
  unfold Sys2Proof.Laws.F.Statement; cases h : Sys2Proof.Instr.wf _ <;> simp

theorem Sys2Proof.Laws.F.mbSnsBudgetWrite (value : Word) : Sys2Proof.Laws.F.Statement (.mbSnsBudgetWrite value) := by
  unfold Sys2Proof.Laws.F.Statement; cases h : Sys2Proof.Instr.wf _ <;> simp

theorem Sys2Proof.Laws.F.mbLsEnWrite (synth : Fin 72) (enable : Bool) (override : Bool) : Sys2Proof.Laws.F.Statement (.mbLsEnWrite synth enable override) := by
  unfold Sys2Proof.Laws.F.Statement; cases h : Sys2Proof.Instr.wf _ <;> simp

theorem Sys2Proof.Laws.F.pinHalfWrite (synth : Fin 72) (set : Bool) : Sys2Proof.Laws.F.Statement (.pinHalfWrite synth set) := by
  unfold Sys2Proof.Laws.F.Statement; cases h : Sys2Proof.Instr.wf _ <;> simp

theorem Sys2Proof.Laws.F.clearRgnEvcnt (r : RegionNo) : Sys2Proof.Laws.F.Statement (.clearRgnEvcnt r) := by
  unfold Sys2Proof.Laws.F.Statement; cases h : Sys2Proof.Instr.wf _ <;> simp

theorem Sys2Proof.Laws.F.clearRgnStretchCnt (r : RegionNo) : Sys2Proof.Laws.F.Statement (.clearRgnStretchCnt r) := by
  unfold Sys2Proof.Laws.F.Statement; cases h : Sys2Proof.Instr.wf _ <;> simp

theorem Sys2Proof.Laws.F.clearHmCounters  : Sys2Proof.Laws.F.Statement (.clearHmCounters) := by
  unfold Sys2Proof.Laws.F.Statement; cases h : Sys2Proof.Instr.wf _ <;> simp

theorem Sys2Proof.Laws.F.clearErgCounters  : Sys2Proof.Laws.F.Statement (.clearErgCounters) := by
  unfold Sys2Proof.Laws.F.Statement; cases h : Sys2Proof.Instr.wf _ <;> simp

theorem Sys2Proof.Laws.F.clearOptCounters  : Sys2Proof.Laws.F.Statement (.clearOptCounters) := by
  unfold Sys2Proof.Laws.F.Statement; cases h : Sys2Proof.Instr.wf _ <;> simp

theorem Sys2Proof.Laws.F.clearLsCounters  : Sys2Proof.Laws.F.Statement (.clearLsCounters) := by
  unfold Sys2Proof.Laws.F.Statement; cases h : Sys2Proof.Instr.wf _ <;> simp

theorem Sys2Proof.Laws.F.clearXingCounters  : Sys2Proof.Laws.F.Statement (.clearXingCounters) := by
  unfold Sys2Proof.Laws.F.Statement; cases h : Sys2Proof.Instr.wf _ <;> simp

theorem Sys2Proof.Laws.F.clearXingDrop  : Sys2Proof.Laws.F.Statement (.clearXingDrop) := by
  unfold Sys2Proof.Laws.F.Statement; cases h : Sys2Proof.Instr.wf _ <;> simp

theorem Sys2Proof.Laws.F.clearCalCounters  : Sys2Proof.Laws.F.Statement (.clearCalCounters) := by
  unfold Sys2Proof.Laws.F.Statement; cases h : Sys2Proof.Instr.wf _ <;> simp

theorem Sys2Proof.Laws.F.clearSnsCounters  : Sys2Proof.Laws.F.Statement (.clearSnsCounters) := by
  unfold Sys2Proof.Laws.F.Statement; cases h : Sys2Proof.Instr.wf _ <;> simp

theorem Sys2Proof.Laws.F.clearSpanCounters  : Sys2Proof.Laws.F.Statement (.clearSpanCounters) := by
  unfold Sys2Proof.Laws.F.Statement; cases h : Sys2Proof.Instr.wf _ <;> simp

theorem Sys2Proof.Laws.F.clearCtlCounters  : Sys2Proof.Laws.F.Statement (.clearCtlCounters) := by
  unfold Sys2Proof.Laws.F.Statement; cases h : Sys2Proof.Instr.wf _ <;> simp

theorem Sys2Proof.Laws.F.opSuspend (q : Req) : Sys2Proof.Laws.F.Statement (.opSuspend q) := by
  unfold Sys2Proof.Laws.F.Statement; cases h : Sys2Proof.Instr.wf _ <;> simp

theorem Sys2Proof.Laws.F.opResume (q : Req) : Sys2Proof.Laws.F.Statement (.opResume q) := by
  unfold Sys2Proof.Laws.F.Statement; cases h : Sys2Proof.Instr.wf _ <;> simp

theorem Sys2Proof.Laws.F.opCancel (q : Req) : Sys2Proof.Laws.F.Statement (.opCancel q) := by
  unfold Sys2Proof.Laws.F.Statement; cases h : Sys2Proof.Instr.wf _ <;> simp

theorem Sys2Proof.Laws.F.opQuery (q : Req) : Sys2Proof.Laws.F.Statement (.opQuery q) := by
  unfold Sys2Proof.Laws.F.Statement; cases h : Sys2Proof.Instr.wf _ <;> simp

theorem Sys2Proof.Laws.F.opWrite (q : Req) : Sys2Proof.Laws.F.Statement (.opWrite q) := by
  unfold Sys2Proof.Laws.F.Statement; cases h : Sys2Proof.Instr.wf _ <;> simp

theorem Sys2Proof.Laws.F.mbxSpillRead (q : Req) : Sys2Proof.Laws.F.Statement (.mbxSpillRead q) := by
  unfold Sys2Proof.Laws.F.Statement; cases h : Sys2Proof.Instr.wf _ <;> simp

theorem Sys2Proof.Laws.F.mbxSpillFree (q : Req) : Sys2Proof.Laws.F.Statement (.mbxSpillFree q) := by
  unfold Sys2Proof.Laws.F.Statement; cases h : Sys2Proof.Instr.wf _ <;> simp

theorem Sys2Proof.Laws.F.regionSetPeriod (q : Req) : Sys2Proof.Laws.F.Statement (.regionSetPeriod q) := by
  unfold Sys2Proof.Laws.F.Statement; cases h : Sys2Proof.Instr.wf _ <;> simp

theorem Sys2Proof.Laws.F.regionQuery (q : Req) : Sys2Proof.Laws.F.Statement (.regionQuery q) := by
  unfold Sys2Proof.Laws.F.Statement; cases h : Sys2Proof.Instr.wf _ <;> simp

theorem Sys2Proof.Laws.F.regionReadField (q : Req) : Sys2Proof.Laws.F.Statement (.regionReadField q) := by
  unfold Sys2Proof.Laws.F.Statement; cases h : Sys2Proof.Instr.wf _ <;> simp

theorem Sys2Proof.Laws.F.regionWriteField (q : Req) : Sys2Proof.Laws.F.Statement (.regionWriteField q) := by
  unfold Sys2Proof.Laws.F.Statement; cases h : Sys2Proof.Instr.wf _ <;> simp

theorem Sys2Proof.Laws.F.forecastPost (q : Req) : Sys2Proof.Laws.F.Statement (.forecastPost q) := by
  unfold Sys2Proof.Laws.F.Statement; cases h : Sys2Proof.Instr.wf _ <;> simp

theorem Sys2Proof.Laws.F.hawkmothSetMode (q : Req) : Sys2Proof.Laws.F.Statement (.hawkmothSetMode q) := by
  unfold Sys2Proof.Laws.F.Statement; cases h : Sys2Proof.Instr.wf _ <;> simp

theorem Sys2Proof.Laws.F.hawkmothQuery (q : Req) : Sys2Proof.Laws.F.Statement (.hawkmothQuery q) := by
  unfold Sys2Proof.Laws.F.Statement; cases h : Sys2Proof.Instr.wf _ <;> simp

theorem Sys2Proof.Laws.F.hawkmothReadField (q : Req) : Sys2Proof.Laws.F.Statement (.hawkmothReadField q) := by
  unfold Sys2Proof.Laws.F.Statement; cases h : Sys2Proof.Instr.wf _ <;> simp

theorem Sys2Proof.Laws.F.hawkmothWriteField (q : Req) : Sys2Proof.Laws.F.Statement (.hawkmothWriteField q) := by
  unfold Sys2Proof.Laws.F.Statement; cases h : Sys2Proof.Instr.wf _ <;> simp

theorem Sys2Proof.Laws.F.modelLoad (q : Req) : Sys2Proof.Laws.F.Statement (.modelLoad q) := by
  unfold Sys2Proof.Laws.F.Statement; cases h : Sys2Proof.Instr.wf _ <;> simp

theorem Sys2Proof.Laws.F.modelUnload (q : Req) : Sys2Proof.Laws.F.Statement (.modelUnload q) := by
  unfold Sys2Proof.Laws.F.Statement; cases h : Sys2Proof.Instr.wf _ <;> simp

theorem Sys2Proof.Laws.F.ergRead (q : Req) : Sys2Proof.Laws.F.Statement (.ergRead q) := by
  unfold Sys2Proof.Laws.F.Statement; cases h : Sys2Proof.Instr.wf _ <;> simp

theorem Sys2Proof.Laws.F.ergReadField (q : Req) : Sys2Proof.Laws.F.Statement (.ergReadField q) := by
  unfold Sys2Proof.Laws.F.Statement; cases h : Sys2Proof.Instr.wf _ <;> simp

theorem Sys2Proof.Laws.F.ergWriteField (q : Req) : Sys2Proof.Laws.F.Statement (.ergWriteField q) := by
  unfold Sys2Proof.Laws.F.Statement; cases h : Sys2Proof.Instr.wf _ <;> simp

theorem Sys2Proof.Laws.F.anchorAdd (q : Req) : Sys2Proof.Laws.F.Statement (.anchorAdd q) := by
  unfold Sys2Proof.Laws.F.Statement; cases h : Sys2Proof.Instr.wf _ <;> simp

theorem Sys2Proof.Laws.F.anchorRemove (q : Req) : Sys2Proof.Laws.F.Statement (.anchorRemove q) := by
  unfold Sys2Proof.Laws.F.Statement; cases h : Sys2Proof.Instr.wf _ <;> simp

theorem Sys2Proof.Laws.F.anchorQuery (q : Req) : Sys2Proof.Laws.F.Statement (.anchorQuery q) := by
  unfold Sys2Proof.Laws.F.Statement; cases h : Sys2Proof.Instr.wf _ <;> simp

theorem Sys2Proof.Laws.F.anchorConvert (q : Req) : Sys2Proof.Laws.F.Statement (.anchorConvert q) := by
  unfold Sys2Proof.Laws.F.Statement; cases h : Sys2Proof.Instr.wf _ <;> simp

theorem Sys2Proof.Laws.F.ledgerRead (q : Req) : Sys2Proof.Laws.F.Statement (.ledgerRead q) := by
  unfold Sys2Proof.Laws.F.Statement; cases h : Sys2Proof.Instr.wf _ <;> simp

theorem Sys2Proof.Laws.F.routeQuery (q : Req) : Sys2Proof.Laws.F.Statement (.routeQuery q) := by
  unfold Sys2Proof.Laws.F.Statement; cases h : Sys2Proof.Instr.wf _ <;> simp

theorem Sys2Proof.Laws.F.spareInsert (q : Req) : Sys2Proof.Laws.F.Statement (.spareInsert q) := by
  unfold Sys2Proof.Laws.F.Statement; cases h : Sys2Proof.Instr.wf _ <;> simp

theorem Sys2Proof.Laws.F.opticRecal (q : Req) : Sys2Proof.Laws.F.Statement (.opticRecal q) := by
  unfold Sys2Proof.Laws.F.Statement; cases h : Sys2Proof.Instr.wf _ <;> simp

theorem Sys2Proof.Laws.F.opticReadField (q : Req) : Sys2Proof.Laws.F.Statement (.opticReadField q) := by
  unfold Sys2Proof.Laws.F.Statement; cases h : Sys2Proof.Instr.wf _ <;> simp

theorem Sys2Proof.Laws.F.opticWriteField (q : Req) : Sys2Proof.Laws.F.Statement (.opticWriteField q) := by
  unfold Sys2Proof.Laws.F.Statement; cases h : Sys2Proof.Instr.wf _ <;> simp

theorem Sys2Proof.Laws.F.synthQuery (q : Req) : Sys2Proof.Laws.F.Statement (.synthQuery q) := by
  unfold Sys2Proof.Laws.F.Statement; cases h : Sys2Proof.Instr.wf _ <;> simp

theorem Sys2Proof.Laws.F.synthSetMode (q : Req) : Sys2Proof.Laws.F.Statement (.synthSetMode q) := by
  unfold Sys2Proof.Laws.F.Statement; cases h : Sys2Proof.Instr.wf _ <;> simp

theorem Sys2Proof.Laws.F.synthReadField (q : Req) : Sys2Proof.Laws.F.Statement (.synthReadField q) := by
  unfold Sys2Proof.Laws.F.Statement; cases h : Sys2Proof.Instr.wf _ <;> simp

theorem Sys2Proof.Laws.F.synthWriteField (q : Req) : Sys2Proof.Laws.F.Statement (.synthWriteField q) := by
  unfold Sys2Proof.Laws.F.Statement; cases h : Sys2Proof.Instr.wf _ <;> simp

theorem Sys2Proof.Laws.F.crossQuery (q : Req) : Sys2Proof.Laws.F.Statement (.crossQuery q) := by
  unfold Sys2Proof.Laws.F.Statement; cases h : Sys2Proof.Instr.wf _ <;> simp

theorem Sys2Proof.Laws.F.crossReset (q : Req) : Sys2Proof.Laws.F.Statement (.crossReset q) := by
  unfold Sys2Proof.Laws.F.Statement; cases h : Sys2Proof.Instr.wf _ <;> simp

theorem Sys2Proof.Laws.F.crossRelease (q : Req) : Sys2Proof.Laws.F.Statement (.crossRelease q) := by
  unfold Sys2Proof.Laws.F.Statement; cases h : Sys2Proof.Instr.wf _ <;> simp

theorem Sys2Proof.Laws.F.pairRecal (q : Req) : Sys2Proof.Laws.F.Statement (.pairRecal q) := by
  unfold Sys2Proof.Laws.F.Statement; cases h : Sys2Proof.Instr.wf _ <;> simp

theorem Sys2Proof.Laws.F.crossReadField (q : Req) : Sys2Proof.Laws.F.Statement (.crossReadField q) := by
  unfold Sys2Proof.Laws.F.Statement; cases h : Sys2Proof.Instr.wf _ <;> simp

theorem Sys2Proof.Laws.F.crossWriteField (q : Req) : Sys2Proof.Laws.F.Statement (.crossWriteField q) := by
  unfold Sys2Proof.Laws.F.Statement; cases h : Sys2Proof.Instr.wf _ <;> simp

theorem Sys2Proof.Laws.F.calRun (q : Req) : Sys2Proof.Laws.F.Statement (.calRun q) := by
  unfold Sys2Proof.Laws.F.Statement; cases h : Sys2Proof.Instr.wf _ <;> simp

theorem Sys2Proof.Laws.F.selftestRun (q : Req) : Sys2Proof.Laws.F.Statement (.selftestRun q) := by
  unfold Sys2Proof.Laws.F.Statement; cases h : Sys2Proof.Instr.wf _ <;> simp

theorem Sys2Proof.Laws.F.calQuery (q : Req) : Sys2Proof.Laws.F.Statement (.calQuery q) := by
  unfold Sys2Proof.Laws.F.Statement; cases h : Sys2Proof.Instr.wf _ <;> simp

theorem Sys2Proof.Laws.F.calSetRead (q : Req) : Sys2Proof.Laws.F.Statement (.calSetRead q) := by
  unfold Sys2Proof.Laws.F.Statement; cases h : Sys2Proof.Instr.wf _ <;> simp

theorem Sys2Proof.Laws.F.calReadField (q : Req) : Sys2Proof.Laws.F.Statement (.calReadField q) := by
  unfold Sys2Proof.Laws.F.Statement; cases h : Sys2Proof.Instr.wf _ <;> simp

theorem Sys2Proof.Laws.F.calWriteField (q : Req) : Sys2Proof.Laws.F.Statement (.calWriteField q) := by
  unfold Sys2Proof.Laws.F.Statement; cases h : Sys2Proof.Instr.wf _ <;> simp

theorem Sys2Proof.Laws.F.senseQuery (q : Req) : Sys2Proof.Laws.F.Statement (.senseQuery q) := by
  unfold Sys2Proof.Laws.F.Statement; cases h : Sys2Proof.Instr.wf _ <;> simp

theorem Sys2Proof.Laws.F.thermQuery (q : Req) : Sys2Proof.Laws.F.Statement (.thermQuery q) := by
  unfold Sys2Proof.Laws.F.Statement; cases h : Sys2Proof.Instr.wf _ <;> simp

theorem Sys2Proof.Laws.F.plantPost (q : Req) : Sys2Proof.Laws.F.Statement (.plantPost q) := by
  unfold Sys2Proof.Laws.F.Statement; cases h : Sys2Proof.Instr.wf _ <;> simp

theorem Sys2Proof.Laws.F.wearQuery (q : Req) : Sys2Proof.Laws.F.Statement (.wearQuery q) := by
  unfold Sys2Proof.Laws.F.Statement; cases h : Sys2Proof.Instr.wf _ <;> simp

theorem Sys2Proof.Laws.F.wearExport (q : Req) : Sys2Proof.Laws.F.Statement (.wearExport q) := by
  unfold Sys2Proof.Laws.F.Statement; cases h : Sys2Proof.Instr.wf _ <;> simp

theorem Sys2Proof.Laws.F.wearImport (q : Req) : Sys2Proof.Laws.F.Statement (.wearImport q) := by
  unfold Sys2Proof.Laws.F.Statement; cases h : Sys2Proof.Instr.wf _ <;> simp

theorem Sys2Proof.Laws.F.senseReadField (q : Req) : Sys2Proof.Laws.F.Statement (.senseReadField q) := by
  unfold Sys2Proof.Laws.F.Statement; cases h : Sys2Proof.Instr.wf _ <;> simp

theorem Sys2Proof.Laws.F.senseWriteField (q : Req) : Sys2Proof.Laws.F.Statement (.senseWriteField q) := by
  unfold Sys2Proof.Laws.F.Statement; cases h : Sys2Proof.Instr.wf _ <;> simp

theorem Sys2Proof.Laws.F.configQuery (q : Req) : Sys2Proof.Laws.F.Statement (.configQuery q) := by
  unfold Sys2Proof.Laws.F.Statement; cases h : Sys2Proof.Instr.wf _ <;> simp

theorem Sys2Proof.Laws.F.overlayApply (q : Req) : Sys2Proof.Laws.F.Statement (.overlayApply q) := by
  unfold Sys2Proof.Laws.F.Statement; cases h : Sys2Proof.Instr.wf _ <;> simp

theorem Sys2Proof.Laws.F.overlayWithdraw (q : Req) : Sys2Proof.Laws.F.Statement (.overlayWithdraw q) := by
  unfold Sys2Proof.Laws.F.Statement; cases h : Sys2Proof.Instr.wf _ <;> simp

theorem Sys2Proof.Laws.F.modeSet (q : Req) : Sys2Proof.Laws.F.Statement (.modeSet q) := by
  unfold Sys2Proof.Laws.F.Statement; cases h : Sys2Proof.Instr.wf _ <;> simp

theorem Sys2Proof.Laws.F.fwUpdate (q : Req) : Sys2Proof.Laws.F.Statement (.fwUpdate q) := by
  unfold Sys2Proof.Laws.F.Statement; cases h : Sys2Proof.Instr.wf _ <;> simp

theorem Sys2Proof.Laws.F.spanQuery (q : Req) : Sys2Proof.Laws.F.Statement (.spanQuery q) := by
  unfold Sys2Proof.Laws.F.Statement; cases h : Sys2Proof.Instr.wf _ <;> simp

theorem Sys2Proof.Laws.F.spanPeerAdd (q : Req) : Sys2Proof.Laws.F.Statement (.spanPeerAdd q) := by
  unfold Sys2Proof.Laws.F.Statement; cases h : Sys2Proof.Instr.wf _ <;> simp

theorem Sys2Proof.Laws.F.spanPeerRemove (q : Req) : Sys2Proof.Laws.F.Statement (.spanPeerRemove q) := by
  unfold Sys2Proof.Laws.F.Statement; cases h : Sys2Proof.Instr.wf _ <;> simp

theorem Sys2Proof.Laws.F.spanKeySet (q : Req) : Sys2Proof.Laws.F.Statement (.spanKeySet q) := by
  unfold Sys2Proof.Laws.F.Statement; cases h : Sys2Proof.Instr.wf _ <;> simp

theorem Sys2Proof.Laws.F.hostOffsetPost (q : Req) : Sys2Proof.Laws.F.Statement (.hostOffsetPost q) := by
  unfold Sys2Proof.Laws.F.Statement; cases h : Sys2Proof.Instr.wf _ <;> simp

theorem Sys2Proof.Laws.F.spanReadField (q : Req) : Sys2Proof.Laws.F.Statement (.spanReadField q) := by
  unfold Sys2Proof.Laws.F.Statement; cases h : Sys2Proof.Instr.wf _ <;> simp

theorem Sys2Proof.Laws.F.spanWriteField (q : Req) : Sys2Proof.Laws.F.Statement (.spanWriteField q) := by
  unfold Sys2Proof.Laws.F.Statement; cases h : Sys2Proof.Instr.wf _ <;> simp

theorem Sys2Proof.Laws.F.eventRead (q : Req) : Sys2Proof.Laws.F.Statement (.eventRead q) := by
  unfold Sys2Proof.Laws.F.Statement; cases h : Sys2Proof.Instr.wf _ <;> simp

theorem Sys2Proof.Laws.F.dieQuery (q : Req) : Sys2Proof.Laws.F.Statement (.dieQuery q) := by
  unfold Sys2Proof.Laws.F.Statement; cases h : Sys2Proof.Instr.wf _ <;> simp

theorem Sys2Proof.Laws.F.debugRead (q : Req) : Sys2Proof.Laws.F.Statement (.debugRead q) := by
  unfold Sys2Proof.Laws.F.Statement; cases h : Sys2Proof.Instr.wf _ <;> simp

theorem Sys2Proof.Laws.F.debugWrite (q : Req) : Sys2Proof.Laws.F.Statement (.debugWrite q) := by
  unfold Sys2Proof.Laws.F.Statement; cases h : Sys2Proof.Instr.wf _ <;> simp

theorem Sys2Proof.Laws.F.ctrlHalt (q : Req) : Sys2Proof.Laws.F.Statement (.ctrlHalt q) := by
  unfold Sys2Proof.Laws.F.Statement; cases h : Sys2Proof.Instr.wf _ <;> simp

theorem Sys2Proof.Laws.F.ctrlResume (q : Req) : Sys2Proof.Laws.F.Statement (.ctrlResume q) := by
  unfold Sys2Proof.Laws.F.Statement; cases h : Sys2Proof.Instr.wf _ <;> simp

theorem Sys2Proof.Laws.F.ctrlRestart (q : Req) : Sys2Proof.Laws.F.Statement (.ctrlRestart q) := by
  unfold Sys2Proof.Laws.F.Statement; cases h : Sys2Proof.Instr.wf _ <;> simp

theorem Sys2Proof.Laws.F.siroccoReadField (q : Req) : Sys2Proof.Laws.F.Statement (.siroccoReadField q) := by
  unfold Sys2Proof.Laws.F.Statement; cases h : Sys2Proof.Instr.wf _ <;> simp

theorem Sys2Proof.Laws.F.siroccoWriteField (q : Req) : Sys2Proof.Laws.F.Statement (.siroccoWriteField q) := by
  unfold Sys2Proof.Laws.F.Statement; cases h : Sys2Proof.Instr.wf _ <;> simp

theorem Sys2Proof.Laws.F.controllerFault (c : Fin 2) (why : FaultKind) : Sys2Proof.Laws.F.Statement (.controllerFault c why) := by
  unfold Sys2Proof.Laws.F.Statement; cases h : Sys2Proof.Instr.wf _ <;> simp

theorem Sys2Proof.Laws.F.holdRequest  : Sys2Proof.Laws.F.Statement (.holdRequest) := by
  unfold Sys2Proof.Laws.F.Statement; cases h : Sys2Proof.Instr.wf _ <;> simp

theorem Sys2Proof.Laws.F.holdRelease  : Sys2Proof.Laws.F.Statement (.holdRelease) := by
  unfold Sys2Proof.Laws.F.Statement; cases h : Sys2Proof.Instr.wf _ <;> simp

theorem Sys2Proof.Laws.F.holdExit  : Sys2Proof.Laws.F.Statement (.holdExit) := by
  unfold Sys2Proof.Laws.F.Statement; cases h : Sys2Proof.Instr.wf _ <;> simp

theorem Sys2Proof.Laws.F.holdOverrun  : Sys2Proof.Laws.F.Statement (.holdOverrun) := by
  unfold Sys2Proof.Laws.F.Statement; cases h : Sys2Proof.Instr.wf _ <;> simp

theorem Sys2Proof.Laws.F.controllerReloadDone (c : Fin 2) : Sys2Proof.Laws.F.Statement (.controllerReloadDone c) := by
  unfold Sys2Proof.Laws.F.Statement; cases h : Sys2Proof.Instr.wf _ <;> simp

theorem Sys2Proof.Laws.F.controllerReloadTimeout (c : Fin 2) : Sys2Proof.Laws.F.Statement (.controllerReloadTimeout c) := by
  unfold Sys2Proof.Laws.F.Statement; cases h : Sys2Proof.Instr.wf _ <;> simp

theorem Sys2Proof.Laws.F.reloadSourceLost (c : Fin 2) : Sys2Proof.Laws.F.Statement (.reloadSourceLost c) := by
  unfold Sys2Proof.Laws.F.Statement; cases h : Sys2Proof.Instr.wf _ <;> simp

theorem Sys2Proof.Laws.F.controllerHeartbeat (c : Fin 2) : Sys2Proof.Laws.F.Statement (.controllerHeartbeat c) := by
  unfold Sys2Proof.Laws.F.Statement; cases h : Sys2Proof.Instr.wf _ <;> simp

theorem Sys2Proof.Laws.F.imageVerified (c : Fin 2) (src : ImageSource) (selfTest : Bool) : Sys2Proof.Laws.F.Statement (.imageVerified c src selfTest) := by
  unfold Sys2Proof.Laws.F.Statement; cases h : Sys2Proof.Instr.wf _ <;> simp

theorem Sys2Proof.Laws.F.oasisScrub (word : Fin 524288) (corrected : Bool) : Sys2Proof.Laws.F.Statement (.oasisScrub word corrected) := by
  unfold Sys2Proof.Laws.F.Statement; cases h : Sys2Proof.Instr.wf _ <;> simp

theorem Sys2Proof.Laws.F.oasisRowSpare (row : Fin 1024) : Sys2Proof.Laws.F.Statement (.oasisRowSpare row) := by
  unfold Sys2Proof.Laws.F.Statement; cases h : Sys2Proof.Instr.wf _ <;> simp

theorem Sys2Proof.Laws.F.oasisUe (word : Fin 524288) : Sys2Proof.Laws.F.Statement (.oasisUe word) := by
  unfold Sys2Proof.Laws.F.Statement; cases h : Sys2Proof.Instr.wf _ <;> simp

theorem Sys2Proof.Laws.F.handleExpired (h : Fin 32) : Sys2Proof.Laws.F.Statement (.handleExpired h) := by
  unfold Sys2Proof.Laws.F.Statement; cases h : Sys2Proof.Instr.wf _ <;> simp

theorem Sys2Proof.Laws.F.opWriteTimeout (h : Fin 32) : Sys2Proof.Laws.F.Statement (.opWriteTimeout h) := by
  unfold Sys2Proof.Laws.F.Statement; cases h : Sys2Proof.Instr.wf _ <;> simp

theorem Sys2Proof.Laws.F.longOpDone (h : Fin 32) : Sys2Proof.Laws.F.Statement (.longOpDone h) := by
  unfold Sys2Proof.Laws.F.Statement; cases h : Sys2Proof.Instr.wf _ <;> simp

theorem Sys2Proof.Laws.F.regionPeriodEnd (r : RegionNo) (taps : Nat) (vmin : Nat) (offers : List (Option Nat) := []) : Sys2Proof.Laws.F.Statement (.regionPeriodEnd r taps vmin offers) := by
  unfold Sys2Proof.Laws.F.Statement; cases h : Sys2Proof.Instr.wf _ <;> simp

theorem Sys2Proof.Laws.F.stretchLoopStep (r : RegionNo) : Sys2Proof.Laws.F.Statement (.stretchLoopStep r) := by
  unfold Sys2Proof.Laws.F.Statement; cases h : Sys2Proof.Instr.wf _ <;> simp

theorem Sys2Proof.Laws.F.stretchNoticeReceive (r : RegionNo) (k : Fin 4) : Sys2Proof.Laws.F.Statement (.stretchNoticeReceive r k) := by
  unfold Sys2Proof.Laws.F.Statement; cases h : Sys2Proof.Instr.wf _ <;> simp

theorem Sys2Proof.Laws.F.regionWindowBoundary (r : RegionNo) (m : WinMeas) : Sys2Proof.Laws.F.Statement (.regionWindowBoundary r m) := by
  unfold Sys2Proof.Laws.F.Statement; cases h : Sys2Proof.Instr.wf _ <;> simp

theorem Sys2Proof.Laws.F.periodCodeLatch (r : RegionNo) : Sys2Proof.Laws.F.Statement (.periodCodeLatch r) := by
  unfold Sys2Proof.Laws.F.Statement; cases h : Sys2Proof.Instr.wf _ <;> simp

theorem Sys2Proof.Laws.F.freqStopBegin (r : RegionNo) : Sys2Proof.Laws.F.Statement (.freqStopBegin r) := by
  unfold Sys2Proof.Laws.F.Statement; cases h : Sys2Proof.Instr.wf _ <;> simp

theorem Sys2Proof.Laws.F.freqStopRestart (r : RegionNo) (q vmin : Nat) : Sys2Proof.Laws.F.Statement (.freqStopRestart r q vmin) := by
  unfold Sys2Proof.Laws.F.Statement; cases h : Sys2Proof.Instr.wf _ <;> simp

theorem Sys2Proof.Laws.F.retuneFail (r : RegionNo) : Sys2Proof.Laws.F.Statement (.retuneFail r) := by
  unfold Sys2Proof.Laws.F.Statement; cases h : Sys2Proof.Instr.wf _ <;> simp

theorem Sys2Proof.Laws.F.channelEdgeTimeout (r : RegionNo) : Sys2Proof.Laws.F.Statement (.channelEdgeTimeout r) := by
  unfold Sys2Proof.Laws.F.Statement; cases h : Sys2Proof.Instr.wf _ <;> simp

theorem Sys2Proof.Laws.F.directTakeoverRestart (r : RegionNo) (q vmin : Nat) : Sys2Proof.Laws.F.Statement (.directTakeoverRestart r q vmin) := by
  unfold Sys2Proof.Laws.F.Statement; cases h : Sys2Proof.Instr.wf _ <;> simp

theorem Sys2Proof.Laws.F.regionDead (r : RegionNo) : Sys2Proof.Laws.F.Statement (.regionDead r) := by
  unfold Sys2Proof.Laws.F.Statement; cases h : Sys2Proof.Instr.wf _ <;> simp

theorem Sys2Proof.Laws.F.twinReloadLocked (r : RegionNo) : Sys2Proof.Laws.F.Statement (.twinReloadLocked r) := by
  unfold Sys2Proof.Laws.F.Statement; cases h : Sys2Proof.Instr.wf _ <;> simp

theorem Sys2Proof.Laws.F.plannedSwapRequest (r : RegionNo) (why : SwapWhy) : Sys2Proof.Laws.F.Statement (.plannedSwapRequest r why) := by
  unfold Sys2Proof.Laws.F.Statement; cases h : Sys2Proof.Instr.wf _ <;> simp

theorem Sys2Proof.Laws.F.swapHandover (r : RegionNo) : Sys2Proof.Laws.F.Statement (.swapHandover r) := by
  unfold Sys2Proof.Laws.F.Statement; cases h : Sys2Proof.Instr.wf _ <;> simp

theorem Sys2Proof.Laws.F.swapWaitTimeout (r : RegionNo) : Sys2Proof.Laws.F.Statement (.swapWaitTimeout r) := by
  unfold Sys2Proof.Laws.F.Statement; cases h : Sys2Proof.Instr.wf _ <;> simp

theorem Sys2Proof.Laws.F.districtSpareInsert (r : RegionNo) (runs0 runs1 : List RunResult) (q : Nat) : Sys2Proof.Laws.F.Statement (.districtSpareInsert r runs0 runs1 q) := by
  unfold Sys2Proof.Laws.F.Statement; cases h : Sys2Proof.Instr.wf _ <;> simp

theorem Sys2Proof.Laws.F.plannedDistrictSpare (r : RegionNo) (runs0 runs1 : List RunResult) : Sys2Proof.Laws.F.Statement (.plannedDistrictSpare r runs0 runs1) := by
  unfold Sys2Proof.Laws.F.Statement; cases h : Sys2Proof.Instr.wf _ <;> simp

theorem Sys2Proof.Laws.F.evaluationStart (bad : List (BitVec 16) := []) : Sys2Proof.Laws.F.Statement (.evaluationStart bad) := by
  unfold Sys2Proof.Laws.F.Statement; cases h : Sys2Proof.Instr.wf _ <;> simp

theorem Sys2Proof.Laws.F.planFlip  : Sys2Proof.Laws.F.Statement (.planFlip) := by
  unfold Sys2Proof.Laws.F.Statement; cases h : Sys2Proof.Instr.wf _ <;> simp

theorem Sys2Proof.Laws.F.evaluationOverrun (reached : Fin 256) : Sys2Proof.Laws.F.Statement (.evaluationOverrun reached) := by
  unfold Sys2Proof.Laws.F.Statement; cases h : Sys2Proof.Instr.wf _ <;> simp

theorem Sys2Proof.Laws.F.columnTest (pass : Bool) : Sys2Proof.Laws.F.Statement (.columnTest pass) := by
  unfold Sys2Proof.Laws.F.Statement; cases h : Sys2Proof.Instr.wf _ <;> simp

theorem Sys2Proof.Laws.F.columnSpareMap  : Sys2Proof.Laws.F.Statement (.columnSpareMap) := by
  unfold Sys2Proof.Laws.F.Statement; cases h : Sys2Proof.Instr.wf _ <;> simp

theorem Sys2Proof.Laws.F.planCapture (r : RegionNo) : Sys2Proof.Laws.F.Statement (.planCapture r) := by
  unfold Sys2Proof.Laws.F.Statement; cases h : Sys2Proof.Instr.wf _ <;> simp

theorem Sys2Proof.Laws.F.voidReceive (r : RegionNo) : Sys2Proof.Laws.F.Statement (.voidReceive r) := by
  unfold Sys2Proof.Laws.F.Statement; cases h : Sys2Proof.Instr.wf _ <;> simp

theorem Sys2Proof.Laws.F.forecastPortWrite (die : Fin 8) (word : BitVec 64) : Sys2Proof.Laws.F.Statement (.forecastPortWrite die word) := by
  unfold Sys2Proof.Laws.F.Statement; cases h : Sys2Proof.Instr.wf _ <;> simp

theorem Sys2Proof.Laws.F.forecastMerge  : Sys2Proof.Laws.F.Statement (.forecastMerge) := by
  unfold Sys2Proof.Laws.F.Statement; cases h : Sys2Proof.Instr.wf _ <;> simp

theorem Sys2Proof.Laws.F.forecastStale (d : Fin 256) : Sys2Proof.Laws.F.Statement (.forecastStale d) := by
  unfold Sys2Proof.Laws.F.Statement; cases h : Sys2Proof.Instr.wf _ <;> simp

theorem Sys2Proof.Laws.F.modelActivate (id : BitVec 16) : Sys2Proof.Laws.F.Statement (.modelActivate id) := by
  unfold Sys2Proof.Laws.F.Statement; cases h : Sys2Proof.Instr.wf _ <;> simp

theorem Sys2Proof.Laws.F.replicaSlotCheck (r : RegionNo) (crcOk : Bool) (slipped : Int) : Sys2Proof.Laws.F.Statement (.replicaSlotCheck r crcOk slipped) := by
  unfold Sys2Proof.Laws.F.Statement; cases h : Sys2Proof.Instr.wf _ <;> simp

theorem Sys2Proof.Laws.F.heartbeatCheck  : Sys2Proof.Laws.F.Statement (.heartbeatCheck) := by
  unfold Sys2Proof.Laws.F.Statement; cases h : Sys2Proof.Instr.wf _ <;> simp

theorem Sys2Proof.Laws.F.dieLostLong (site : Site) : Sys2Proof.Laws.F.Statement (.dieLostLong site) := by
  unfold Sys2Proof.Laws.F.Statement; cases h : Sys2Proof.Instr.wf _ <;> simp

theorem Sys2Proof.Laws.F.signOfLife (r : RegionNo) : Sys2Proof.Laws.F.Statement (.signOfLife r) := by
  unfold Sys2Proof.Laws.F.Statement; cases h : Sys2Proof.Instr.wf _ <;> simp

theorem Sys2Proof.Laws.F.rejoin (site : Site) (fuse : Option Bytes) (terms : List (RouteTerm × Nat) := []) (dlanes : List (RegionNo × Nat × Nat) := []) : Sys2Proof.Laws.F.Statement (.rejoin site fuse terms dlanes) := by
  unfold Sys2Proof.Laws.F.Statement; cases h : Sys2Proof.Instr.wf _ <;> simp

theorem Sys2Proof.Laws.F.rejoinStep2Timeout (site : Site) : Sys2Proof.Laws.F.Statement (.rejoinStep2Timeout site) := by
  unfold Sys2Proof.Laws.F.Statement; cases h : Sys2Proof.Instr.wf _ <;> simp

theorem Sys2Proof.Laws.F.ergWindowDiscipline  : Sys2Proof.Laws.F.Statement (.ergWindowDiscipline) := by
  unfold Sys2Proof.Laws.F.Statement; cases h : Sys2Proof.Instr.wf _ <;> simp

theorem Sys2Proof.Laws.F.rackAdoptIdle  : Sys2Proof.Laws.F.Statement (.rackAdoptIdle) := by
  unfold Sys2Proof.Laws.F.Statement; cases h : Sys2Proof.Instr.wf _ <;> simp

theorem Sys2Proof.Laws.F.anchorCapture (r : RegionNo) : Sys2Proof.Laws.F.Statement (.anchorCapture r) := by
  unfold Sys2Proof.Laws.F.Statement; cases h : Sys2Proof.Instr.wf _ <;> simp

theorem Sys2Proof.Laws.F.anchorFold  : Sys2Proof.Laws.F.Statement (.anchorFold) := by
  unfold Sys2Proof.Laws.F.Statement; cases h : Sys2Proof.Instr.wf _ <;> simp

theorem Sys2Proof.Laws.F.ledgerPressure  : Sys2Proof.Laws.F.Statement (.ledgerPressure) := by
  unfold Sys2Proof.Laws.F.Statement; cases h : Sys2Proof.Instr.wf _ <;> simp

theorem Sys2Proof.Laws.F.ledgerLoss (r : RegionNo) : Sys2Proof.Laws.F.Statement (.ledgerLoss r) := by
  unfold Sys2Proof.Laws.F.Statement; cases h : Sys2Proof.Instr.wf _ <;> simp

theorem Sys2Proof.Laws.F.conversionSettled (m : Fin 8) : Sys2Proof.Laws.F.Statement (.conversionSettled m) := by
  unfold Sys2Proof.Laws.F.Statement; cases h : Sys2Proof.Instr.wf _ <;> simp

theorem Sys2Proof.Laws.F.landingFault (site : Site) (landing : Fin 6) (carrier : Fin 4 := 0) (power : Int := 0) : Sys2Proof.Laws.F.Statement (.landingFault site landing carrier power) := by
  unfold Sys2Proof.Laws.F.Statement; cases h : Sys2Proof.Instr.wf _ <;> simp

theorem Sys2Proof.Laws.F.wavelengthFault (carrier : Fin 4) (launched : Int := 0) (received : List (Site × Fin 6 × Int) := []) : Sys2Proof.Laws.F.Statement (.wavelengthFault carrier launched received) := by
  unfold Sys2Proof.Laws.F.Statement; cases h : Sys2Proof.Instr.wf _ <;> simp

theorem Sys2Proof.Laws.F.groupFault (site : Site) (quad : Fin 4) : Sys2Proof.Laws.F.Statement (.groupFault site quad) := by
  unfold Sys2Proof.Laws.F.Statement; cases h : Sys2Proof.Instr.wf _ <;> simp

theorem Sys2Proof.Laws.F.continuityCheck (site : Site) (group : Fin 7) (ok : Bool) : Sys2Proof.Laws.F.Statement (.continuityCheck site group ok) := by
  unfold Sys2Proof.Laws.F.Statement; cases h : Sys2Proof.Instr.wf _ <;> simp

theorem Sys2Proof.Laws.F.landingWarnTimeout (site : Site) (landing : Fin 6) (carrier : Fin 4 := 0) (power : Int := 0) : Sys2Proof.Laws.F.Statement (.landingWarnTimeout site landing carrier power) := by
  unfold Sys2Proof.Laws.F.Statement; cases h : Sys2Proof.Instr.wf _ <;> simp

theorem Sys2Proof.Laws.F.landingCrcDegrade (site : Site) (landing : Fin 6) : Sys2Proof.Laws.F.Statement (.landingCrcDegrade site landing) := by
  unfold Sys2Proof.Laws.F.Statement; cases h : Sys2Proof.Instr.wf _ <;> simp

theorem Sys2Proof.Laws.F.spareCarrierLoss (carrier : Fin 4) (launched : Int := 0) : Sys2Proof.Laws.F.Statement (.spareCarrierLoss carrier launched) := by
  unfold Sys2Proof.Laws.F.Statement; cases h : Sys2Proof.Instr.wf _ <;> simp

theorem Sys2Proof.Laws.F.carrierRecovered (carrier : Fin 4) (launched : Int := 0) (received : List (Site × Fin 6 × Int) := []) : Sys2Proof.Laws.F.Statement (.carrierRecovered carrier launched received) := by
  unfold Sys2Proof.Laws.F.Statement; cases h : Sys2Proof.Instr.wf _ <;> simp

theorem Sys2Proof.Laws.F.flywheelExpiry (r : RegionNo) : Sys2Proof.Laws.F.Statement (.flywheelExpiry r) := by
  unfold Sys2Proof.Laws.F.Statement; cases h : Sys2Proof.Instr.wf _ <;> simp

theorem Sys2Proof.Laws.F.landingInsert (site : Site) (quad : Fin 4) (power : List Int) (quick : List Nat) (full : Option (List Nat)) : Sys2Proof.Laws.F.Statement (.landingInsert site quad power quick full) := by
  unfold Sys2Proof.Laws.F.Statement; cases h : Sys2Proof.Instr.wf _ <;> simp

theorem Sys2Proof.Laws.F.groupInsert (site : Site) (quad : Fin 4) (quick : List Nat) (full : Option (List Nat)) : Sys2Proof.Laws.F.Statement (.groupInsert site quad quick full) := by
  unfold Sys2Proof.Laws.F.Statement; cases h : Sys2Proof.Instr.wf _ <;> simp

theorem Sys2Proof.Laws.F.wavelengthInsert (launched : Int) : Sys2Proof.Laws.F.Statement (.wavelengthInsert launched) := by
  unfold Sys2Proof.Laws.F.Statement; cases h : Sys2Proof.Instr.wf _ <;> simp

theorem Sys2Proof.Laws.F.borrowPermanent (site : Site) (quad : Fin 4) (delays : List Nat) : Sys2Proof.Laws.F.Statement (.borrowPermanent site quad delays) := by
  unfold Sys2Proof.Laws.F.Statement; cases h : Sys2Proof.Instr.wf _ <;> simp

theorem Sys2Proof.Laws.F.siteBackup (site : Site) : Sys2Proof.Laws.F.Statement (.siteBackup site) := by
  unfold Sys2Proof.Laws.F.Statement; cases h : Sys2Proof.Instr.wf _ <;> simp

theorem Sys2Proof.Laws.F.siteOptical (launched : List (Fin 4 × Int) := []) : Sys2Proof.Laws.F.Statement (.siteOptical launched) := by
  unfold Sys2Proof.Laws.F.Statement; cases h : Sys2Proof.Instr.wf _ <;> simp

theorem Sys2Proof.Laws.F.siteIsolated (site : Site) (backupFailed : Bool := false) : Sys2Proof.Laws.F.Statement (.siteIsolated site backupFailed) := by
  unfold Sys2Proof.Laws.F.Statement; cases h : Sys2Proof.Instr.wf _ <;> simp

theorem Sys2Proof.Laws.F.insvcRecal (site : Site) (landing : Fin 6) : Sys2Proof.Laws.F.Statement (.insvcRecal site landing) := by
  unfold Sys2Proof.Laws.F.Statement; cases h : Sys2Proof.Instr.wf _ <;> simp

theorem Sys2Proof.Laws.F.insvcMeasurementDone (t : RouteTerm) (delay : Nat) : Sys2Proof.Laws.F.Statement (.insvcMeasurementDone t delay) := by
  unfold Sys2Proof.Laws.F.Statement; cases h : Sys2Proof.Instr.wf _ <;> simp

theorem Sys2Proof.Laws.F.delaySlew  : Sys2Proof.Laws.F.Statement (.delaySlew) := by
  unfold Sys2Proof.Laws.F.Statement; cases h : Sys2Proof.Instr.wf _ <;> simp

theorem Sys2Proof.Laws.F.laneRemeasure (site : Site) (delays : List (RegionNo × Nat × Nat)) : Sys2Proof.Laws.F.Statement (.laneRemeasure site delays) := by
  unfold Sys2Proof.Laws.F.Statement; cases h : Sys2Proof.Instr.wf _ <;> simp

theorem Sys2Proof.Laws.F.synthRide (quad : Fin 4) : Sys2Proof.Laws.F.Statement (.synthRide quad) := by
  unfold Sys2Proof.Laws.F.Statement; cases h : Sys2Proof.Instr.wf _ <;> simp

theorem Sys2Proof.Laws.F.rideTimeout (synth : Fin 72) : Sys2Proof.Laws.F.Statement (.rideTimeout synth) := by
  unfold Sys2Proof.Laws.F.Statement; cases h : Sys2Proof.Instr.wf _ <;> simp

theorem Sys2Proof.Laws.F.renegotiateHalf (quad : Fin 4) : Sys2Proof.Laws.F.Statement (.renegotiateHalf quad) := by
  unfold Sys2Proof.Laws.F.Statement; cases h : Sys2Proof.Instr.wf _ <;> simp

theorem Sys2Proof.Laws.F.rateAck (port : Fin 64) : Sys2Proof.Laws.F.Statement (.rateAck port) := by
  unfold Sys2Proof.Laws.F.Statement; cases h : Sys2Proof.Instr.wf _ <;> simp

theorem Sys2Proof.Laws.F.portStateChange (port : Fin 64) (st : PortState) : Sys2Proof.Laws.F.Statement (.portStateChange port st) := by
  unfold Sys2Proof.Laws.F.Statement; cases h : Sys2Proof.Instr.wf _ <;> simp

theorem Sys2Proof.Laws.F.clkGrantTimeout (port : Fin 64) : Sys2Proof.Laws.F.Statement (.clkGrantTimeout port) := by
  unfold Sys2Proof.Laws.F.Statement; cases h : Sys2Proof.Instr.wf _ <;> simp

theorem Sys2Proof.Laws.F.renegTimeout (port : Fin 64) : Sys2Proof.Laws.F.Statement (.renegTimeout port) := by
  unfold Sys2Proof.Laws.F.Statement; cases h : Sys2Proof.Instr.wf _ <;> simp

theorem Sys2Proof.Laws.F.renegotiateFull (port : Fin 64) : Sys2Proof.Laws.F.Statement (.renegotiateFull port) := by
  unfold Sys2Proof.Laws.F.Statement; cases h : Sys2Proof.Instr.wf _ <;> simp

theorem Sys2Proof.Laws.F.synthRelockDone (synth : Fin 72) (cw : BitVec 12) (band : BitVec 8) : Sys2Proof.Laws.F.Statement (.synthRelockDone synth cw band) := by
  unfold Sys2Proof.Laws.F.Statement; cases h : Sys2Proof.Instr.wf _ <;> simp

theorem Sys2Proof.Laws.F.synthFail (synth : Fin 72) (why : SynthFault) : Sys2Proof.Laws.F.Statement (.synthFail synth why) := by
  unfold Sys2Proof.Laws.F.Statement; cases h : Sys2Proof.Instr.wf _ <;> simp

theorem Sys2Proof.Laws.F.synthJitterMeasure (synth : Fin 72) (fs : BitVec 16) : Sys2Proof.Laws.F.Statement (.synthJitterMeasure synth fs) := by
  unfold Sys2Proof.Laws.F.Statement; cases h : Sys2Proof.Instr.wf _ <;> simp

theorem Sys2Proof.Laws.F.synthInsert (port : Fin 64) : Sys2Proof.Laws.F.Statement (.synthInsert port) := by
  unfold Sys2Proof.Laws.F.Statement; cases h : Sys2Proof.Instr.wf _ <;> simp

theorem Sys2Proof.Laws.F.quiesceTimeout (port : Fin 64) : Sys2Proof.Laws.F.Statement (.quiesceTimeout port) := by
  unfold Sys2Proof.Laws.F.Statement; cases h : Sys2Proof.Instr.wf _ <;> simp

theorem Sys2Proof.Laws.F.crossStall (id : Word) : Sys2Proof.Laws.F.Statement (.crossStall id) := by
  unfold Sys2Proof.Laws.F.Statement; cases h : Sys2Proof.Instr.wf _ <;> simp

theorem Sys2Proof.Laws.F.crossTear (id : Word) : Sys2Proof.Laws.F.Statement (.crossTear id) := by
  unfold Sys2Proof.Laws.F.Statement; cases h : Sys2Proof.Instr.wf _ <;> simp

theorem Sys2Proof.Laws.F.jointReset (id : Word) : Sys2Proof.Laws.F.Statement (.jointReset id) := by
  unfold Sys2Proof.Laws.F.Statement; cases h : Sys2Proof.Instr.wf _ <;> simp

theorem Sys2Proof.Laws.F.fenceRelease (scope : ReleaseScope) (dlanes : List (RegionNo × Nat × Nat)) : Sys2Proof.Laws.F.Statement (.fenceRelease scope dlanes) := by
  unfold Sys2Proof.Laws.F.Statement; cases h : Sys2Proof.Instr.wf _ <;> simp

theorem Sys2Proof.Laws.F.pairSlot (r : RegionNo) (k : Fin 4) (only : Unit := ()) : Sys2Proof.Laws.F.Statement (.pairSlot r k only) := by
  unfold Sys2Proof.Laws.F.Statement; cases h : Sys2Proof.Instr.wf _ <;> simp

theorem Sys2Proof.Laws.F.realignWinExpiry (r : RegionNo) (k : Fin 4) : Sys2Proof.Laws.F.Statement (.realignWinExpiry r k) := by
  unfold Sys2Proof.Laws.F.Statement; cases h : Sys2Proof.Instr.wf _ <;> simp

theorem Sys2Proof.Laws.F.targetNotice (r : RegionNo) (k : Fin 4) : Sys2Proof.Laws.F.Statement (.targetNotice r k) := by
  unfold Sys2Proof.Laws.F.Statement; cases h : Sys2Proof.Instr.wf _ <;> simp

theorem Sys2Proof.Laws.F.stopNotice (r : RegionNo) (k : Fin 4) : Sys2Proof.Laws.F.Statement (.stopNotice r k) := by
  unfold Sys2Proof.Laws.F.Statement; cases h : Sys2Proof.Instr.wf _ <;> simp

theorem Sys2Proof.Laws.F.restartNotice (r : RegionNo) (k : Fin 4) : Sys2Proof.Laws.F.Statement (.restartNotice r k) := by
  unfold Sys2Proof.Laws.F.Statement; cases h : Sys2Proof.Instr.wf _ <;> simp

theorem Sys2Proof.Laws.F.pairCalibrationDone (r : RegionNo) (k : Fin 4) (dlane : Nat) : Sys2Proof.Laws.F.Statement (.pairCalibrationDone r k dlane) := by
  unfold Sys2Proof.Laws.F.Statement; cases h : Sys2Proof.Instr.wf _ <;> simp

theorem Sys2Proof.Laws.F.spanSymbolLock (port : Fin 2) : Sys2Proof.Laws.F.Statement (.spanSymbolLock port) := by
  unfold Sys2Proof.Laws.F.Statement; cases h : Sys2Proof.Instr.wf _ <;> simp

theorem Sys2Proof.Laws.F.spanLockLoss (port : Fin 2) : Sys2Proof.Laws.F.Statement (.spanLockLoss port) := by
  unfold Sys2Proof.Laws.F.Statement; cases h : Sys2Proof.Instr.wf _ <;> simp

theorem Sys2Proof.Laws.F.announce (port : Fin 2) (f : Frame) : Sys2Proof.Laws.F.Statement (.announce port f) := by
  unfold Sys2Proof.Laws.F.Statement; cases h : Sys2Proof.Instr.wf _ <;> simp

theorem Sys2Proof.Laws.F.probe (port : Fin 2) (f : Frame) : Sys2Proof.Laws.F.Statement (.probe port f) := by
  unfold Sys2Proof.Laws.F.Statement; cases h : Sys2Proof.Instr.wf _ <;> simp

theorem Sys2Proof.Laws.F.reply (port : Fin 2) (f : Frame) : Sys2Proof.Laws.F.Statement (.reply port f) := by
  unfold Sys2Proof.Laws.F.Statement; cases h : Sys2Proof.Instr.wf _ <;> simp

theorem Sys2Proof.Laws.F.announceTransmit (port : Fin 2) : Sys2Proof.Laws.F.Statement (.announceTransmit port) := by
  unfold Sys2Proof.Laws.F.Statement; cases h : Sys2Proof.Instr.wf _ <;> simp

theorem Sys2Proof.Laws.F.probeTransmit (port : Fin 2) : Sys2Proof.Laws.F.Statement (.probeTransmit port) := by
  unfold Sys2Proof.Laws.F.Statement; cases h : Sys2Proof.Instr.wf _ <;> simp

theorem Sys2Proof.Laws.F.peerAnnounceTimeout (port : Fin 2) : Sys2Proof.Laws.F.Statement (.peerAnnounceTimeout port) := by
  unfold Sys2Proof.Laws.F.Statement; cases h : Sys2Proof.Instr.wf _ <;> simp

theorem Sys2Proof.Laws.F.quarantineExpiry (id : BitVec 64) : Sys2Proof.Laws.F.Statement (.quarantineExpiry id) := by
  unfold Sys2Proof.Laws.F.Statement; cases h : Sys2Proof.Instr.wf _ <;> simp

theorem Sys2Proof.Laws.F.previousKeyExpiry (port : Fin 2) : Sys2Proof.Laws.F.Statement (.previousKeyExpiry port) := by
  unfold Sys2Proof.Laws.F.Statement; cases h : Sys2Proof.Instr.wf _ <;> simp

theorem Sys2Proof.Laws.F.measurementDeferred (port : Fin 2) : Sys2Proof.Laws.F.Statement (.measurementDeferred port) := by
  unfold Sys2Proof.Laws.F.Statement; cases h : Sys2Proof.Instr.wf _ <;> simp

theorem Sys2Proof.Laws.F.hostOutOfUse  : Sys2Proof.Laws.F.Statement (.hostOutOfUse) := by
  unfold Sys2Proof.Laws.F.Statement; cases h : Sys2Proof.Instr.wf _ <;> simp

theorem Sys2Proof.Laws.F.ucieDiscovery (site : Site) (caps : Option UcieCaps) : Sys2Proof.Laws.F.Statement (.ucieDiscovery site caps) := by
  unfold Sys2Proof.Laws.F.Statement; cases h : Sys2Proof.Instr.wf _ <;> simp

theorem Sys2Proof.Laws.F.discoveryRetry (site : Site) (caps : Option UcieCaps) : Sys2Proof.Laws.F.Statement (.discoveryRetry site caps) := by
  unfold Sys2Proof.Laws.F.Statement; cases h : Sys2Proof.Instr.wf _ <;> simp

theorem Sys2Proof.Laws.F.foreignDiePoll (site : Site) (answered : Bool) : Sys2Proof.Laws.F.Statement (.foreignDiePoll site answered) := by
  unfold Sys2Proof.Laws.F.Statement; cases h : Sys2Proof.Instr.wf _ <;> simp

theorem Sys2Proof.Laws.F.sidebandLinkDown (site : Site) : Sys2Proof.Laws.F.Statement (.sidebandLinkDown site) := by
  unfold Sys2Proof.Laws.F.Statement; cases h : Sys2Proof.Instr.wf _ <;> simp

theorem Sys2Proof.Laws.F.calDueCheck  : Sys2Proof.Laws.F.Statement (.calDueCheck) := by
  unfold Sys2Proof.Laws.F.Statement; cases h : Sys2Proof.Instr.wf _ <;> simp

theorem Sys2Proof.Laws.F.calSlotGrant  : Sys2Proof.Laws.F.Statement (.calSlotGrant) := by
  unfold Sys2Proof.Laws.F.Statement; cases h : Sys2Proof.Instr.wf _ <;> simp

theorem Sys2Proof.Laws.F.calRunComplete (r : RegionNo) (oscB : Bool) (res : CalResult) : Sys2Proof.Laws.F.Statement (.calRunComplete r oscB res) := by
  unfold Sys2Proof.Laws.F.Statement; cases h : Sys2Proof.Instr.wf _ <;> simp

theorem Sys2Proof.Laws.F.suspectHoldoffExpiry (r : RegionNo) : Sys2Proof.Laws.F.Statement (.suspectHoldoffExpiry r) := by
  unfold Sys2Proof.Laws.F.Statement; cases h : Sys2Proof.Instr.wf _ <;> simp

theorem Sys2Proof.Laws.F.calVoidRetryExpiry (r : RegionNo) : Sys2Proof.Laws.F.Statement (.calVoidRetryExpiry r) := by
  unfold Sys2Proof.Laws.F.Statement; cases h : Sys2Proof.Instr.wf _ <;> simp

theorem Sys2Proof.Laws.F.gapWindow (d : Fin 256) : Sys2Proof.Laws.F.Statement (.gapWindow d) := by
  unfold Sys2Proof.Laws.F.Statement; cases h : Sys2Proof.Instr.wf _ <;> simp

theorem Sys2Proof.Laws.F.calGapTimeout (r : RegionNo) : Sys2Proof.Laws.F.Statement (.calGapTimeout r) := by
  unfold Sys2Proof.Laws.F.Statement; cases h : Sys2Proof.Instr.wf _ <;> simp

theorem Sys2Proof.Laws.F.selftestDue (r : RegionNo) : Sys2Proof.Laws.F.Statement (.selftestDue r) := by
  unfold Sys2Proof.Laws.F.Statement; cases h : Sys2Proof.Instr.wf _ <;> simp

theorem Sys2Proof.Laws.F.selftestComplete (r : RegionNo) (oscB : Bool) (failed : Option SelfTest) (meas : Option TestMeas := none) : Sys2Proof.Laws.F.Statement (.selftestComplete r oscB failed meas) := by
  unfold Sys2Proof.Laws.F.Statement; cases h : Sys2Proof.Instr.wf _ <;> simp

theorem Sys2Proof.Laws.F.sensorFault (r : RegionNo) (k : SensorKind) : Sys2Proof.Laws.F.Statement (.sensorFault r k) := by
  unfold Sys2Proof.Laws.F.Statement; cases h : Sys2Proof.Instr.wf _ <;> simp

theorem Sys2Proof.Laws.F.sensorRecovered (r : RegionNo) (k : SensorKind) : Sys2Proof.Laws.F.Statement (.sensorRecovered r k) := by
  unfold Sys2Proof.Laws.F.Statement; cases h : Sys2Proof.Instr.wf _ <;> simp

theorem Sys2Proof.Laws.F.ringPeriod (tiles : List TileMeas) : Sys2Proof.Laws.F.Statement (.ringPeriod tiles) := by
  unfold Sys2Proof.Laws.F.Statement; cases h : Sys2Proof.Instr.wf _ <;> simp

theorem Sys2Proof.Laws.F.frameEnd  : Sys2Proof.Laws.F.Statement (.frameEnd) := by
  unfold Sys2Proof.Laws.F.Statement; cases h : Sys2Proof.Instr.wf _ <;> simp

theorem Sys2Proof.Laws.F.coolantStale  : Sys2Proof.Laws.F.Statement (.coolantStale) := by
  unfold Sys2Proof.Laws.F.Statement; cases h : Sys2Proof.Instr.wf _ <;> simp

theorem Sys2Proof.Laws.F.budgetStale  : Sys2Proof.Laws.F.Statement (.budgetStale) := by
  unfold Sys2Proof.Laws.F.Statement; cases h : Sys2Proof.Instr.wf _ <;> simp

theorem Sys2Proof.Laws.F.regionFence  : Sys2Proof.Laws.F.Statement (.regionFence) := by
  unfold Sys2Proof.Laws.F.Statement; cases h : Sys2Proof.Instr.wf _ <;> simp

theorem Sys2Proof.Laws.F.configWordLost (area : ConfigArea) : Sys2Proof.Laws.F.Statement (.configWordLost area) := by
  unfold Sys2Proof.Laws.F.Statement; cases h : Sys2Proof.Instr.wf _ <;> simp

theorem Sys2Proof.Laws.F.fwUpdateHoldEntry  : Sys2Proof.Laws.F.Statement (.fwUpdateHoldEntry) := by
  unfold Sys2Proof.Laws.F.Statement; cases h : Sys2Proof.Instr.wf _ <;> simp

theorem Sys2Proof.Laws.F.fwRollback (why : RollbackWhy) : Sys2Proof.Laws.F.Statement (.fwRollback why) := by
  unfold Sys2Proof.Laws.F.Statement; cases h : Sys2Proof.Instr.wf _ <;> simp

theorem Sys2Proof.Laws.F.limpEnter  : Sys2Proof.Laws.F.Statement (.limpEnter) := by
  unfold Sys2Proof.Laws.F.Statement; cases h : Sys2Proof.Instr.wf _ <;> simp

theorem Sys2Proof.Laws.F.severeSustained  : Sys2Proof.Laws.F.Statement (.severeSustained) := by
  unfold Sys2Proof.Laws.F.Statement; cases h : Sys2Proof.Instr.wf _ <;> simp

theorem Sys2Proof.Laws.F.eventRaise (id : BitVec 10) (arg : Word) : Sys2Proof.Laws.F.Statement (.eventRaise id arg) := by
  unfold Sys2Proof.Laws.F.Statement; cases h : Sys2Proof.Instr.wf _ <;> simp

theorem Sys2Proof.Laws.F.eventLogWrite  : Sys2Proof.Laws.F.Statement (.eventLogWrite) := by
  unfold Sys2Proof.Laws.F.Statement; cases h : Sys2Proof.Instr.wf _ <;> simp

theorem Sys2Proof.Laws.F.rejectedFrame (port : Fin 2) (f : Frame) (why : FrameFault) : Sys2Proof.Laws.F.Statement (.rejectedFrame port f why) := by
  unfold Sys2Proof.Laws.F.Statement; cases h : Sys2Proof.Instr.wf _ <;> simp

theorem Sys2Proof.Laws.F.diePowerOn (site : Site) : Sys2Proof.Laws.F.Statement (.diePowerOn site) := by
  unfold Sys2Proof.Laws.F.Statement; cases h : Sys2Proof.Instr.wf _ <;> simp

theorem Sys2Proof.Laws.F.lossOfLock (synth : Fin 72) : Sys2Proof.Laws.F.Statement (.lossOfLock synth) := by
  unfold Sys2Proof.Laws.F.Statement; cases h : Sys2Proof.Instr.wf _ <;> simp
end

