-- ==== Sys2Proof/Laws/State.lean ====
section
/-! SUPPORT. The updates of a part of the state: each group of state that an update leaves, and what reading a part gives after it. -/
namespace Sys2Proof.Machine

/-! ### What an update leaves -/

@[simp] theorem State.setRgn_pending (s : State) (r : RegionNo) (x : Region) : (s.setRgn r x).pending = s.pending := rfl
@[simp] theorem State.setRgn_fresh (s : State) (r : RegionNo) (x : Region) : (s.setRgn r x).fresh = s.fresh := rfl
@[simp] theorem State.setRgn_sys (s : State) (r : RegionNo) (x : Region) : (s.setRgn r x).sys = s.sys := rfl
@[simp] theorem State.setRgn_ctl (s : State) (r : RegionNo) (x : Region) : (s.setRgn r x).ctl = s.ctl := rfl
@[simp] theorem State.setRgn_mbx (s : State) (r : RegionNo) (x : Region) : (s.setRgn r x).mbx = s.mbx := rfl
@[simp] theorem State.setRgn_hm (s : State) (r : RegionNo) (x : Region) : (s.setRgn r x).hm = s.hm := rfl
@[simp] theorem State.setRgn_et (s : State) (r : RegionNo) (x : Region) : (s.setRgn r x).et = s.et := rfl
@[simp] theorem State.setRgn_opt (s : State) (r : RegionNo) (x : Region) : (s.setRgn r x).opt = s.opt := rfl
@[simp] theorem State.setRgn_ls (s : State) (r : RegionNo) (x : Region) : (s.setRgn r x).ls = s.ls := rfl
@[simp] theorem State.setRgn_xg (s : State) (r : RegionNo) (x : Region) : (s.setRgn r x).xg = s.xg := rfl
@[simp] theorem State.setRgn_cal (s : State) (r : RegionNo) (x : Region) : (s.setRgn r x).cal = s.cal := rfl
@[simp] theorem State.setRgn_sns (s : State) (r : RegionNo) (x : Region) : (s.setRgn r x).sns = s.sns := rfl
@[simp] theorem State.setRgn_cfg (s : State) (r : RegionNo) (x : Region) : (s.setRgn r x).cfg = s.cfg := rfl
@[simp] theorem State.setRgn_sp (s : State) (r : RegionNo) (x : Region) : (s.setRgn r x).sp = s.sp := rfl
@[simp] theorem State.setRgn_die (s : State) (r : RegionNo) (x : Region) : (s.setRgn r x).die = s.die := rfl
@[simp] theorem State.setRgn_ev (s : State) (r : RegionNo) (x : Region) : (s.setRgn r x).ev = s.ev := rfl
@[simp] theorem State.setRgn_tap (s : State) (r : RegionNo) (x : Region) : (s.setRgn r x).tap = s.tap := rfl

@[simp] theorem State.modRgn_pending (s : State) (r : RegionNo) (f : Region → Region) : (s.modRgn r f).pending = s.pending := rfl
@[simp] theorem State.modRgn_fresh (s : State) (r : RegionNo) (f : Region → Region) : (s.modRgn r f).fresh = s.fresh := rfl
@[simp] theorem State.modRgn_sys (s : State) (r : RegionNo) (f : Region → Region) : (s.modRgn r f).sys = s.sys := rfl
@[simp] theorem State.modRgn_ctl (s : State) (r : RegionNo) (f : Region → Region) : (s.modRgn r f).ctl = s.ctl := rfl
@[simp] theorem State.modRgn_mbx (s : State) (r : RegionNo) (f : Region → Region) : (s.modRgn r f).mbx = s.mbx := rfl
@[simp] theorem State.modRgn_hm (s : State) (r : RegionNo) (f : Region → Region) : (s.modRgn r f).hm = s.hm := rfl
@[simp] theorem State.modRgn_et (s : State) (r : RegionNo) (f : Region → Region) : (s.modRgn r f).et = s.et := rfl
@[simp] theorem State.modRgn_opt (s : State) (r : RegionNo) (f : Region → Region) : (s.modRgn r f).opt = s.opt := rfl
@[simp] theorem State.modRgn_ls (s : State) (r : RegionNo) (f : Region → Region) : (s.modRgn r f).ls = s.ls := rfl
@[simp] theorem State.modRgn_xg (s : State) (r : RegionNo) (f : Region → Region) : (s.modRgn r f).xg = s.xg := rfl
@[simp] theorem State.modRgn_cal (s : State) (r : RegionNo) (f : Region → Region) : (s.modRgn r f).cal = s.cal := rfl
@[simp] theorem State.modRgn_sns (s : State) (r : RegionNo) (f : Region → Region) : (s.modRgn r f).sns = s.sns := rfl
@[simp] theorem State.modRgn_cfg (s : State) (r : RegionNo) (f : Region → Region) : (s.modRgn r f).cfg = s.cfg := rfl
@[simp] theorem State.modRgn_sp (s : State) (r : RegionNo) (f : Region → Region) : (s.modRgn r f).sp = s.sp := rfl
@[simp] theorem State.modRgn_die (s : State) (r : RegionNo) (f : Region → Region) : (s.modRgn r f).die = s.die := rfl
@[simp] theorem State.modRgn_ev (s : State) (r : RegionNo) (f : Region → Region) : (s.modRgn r f).ev = s.ev := rfl
@[simp] theorem State.modRgn_tap (s : State) (r : RegionNo) (f : Region → Region) : (s.modRgn r f).tap = s.tap := rfl

@[simp] theorem State.modFormer_pending (s : State) (r : RegionNo) (f : Former → Former) : (s.modFormer r f).pending = s.pending := rfl
@[simp] theorem State.modFormer_fresh (s : State) (r : RegionNo) (f : Former → Former) : (s.modFormer r f).fresh = s.fresh := rfl
@[simp] theorem State.modFormer_sys (s : State) (r : RegionNo) (f : Former → Former) : (s.modFormer r f).sys = s.sys := rfl
@[simp] theorem State.modFormer_ctl (s : State) (r : RegionNo) (f : Former → Former) : (s.modFormer r f).ctl = s.ctl := rfl
@[simp] theorem State.modFormer_mbx (s : State) (r : RegionNo) (f : Former → Former) : (s.modFormer r f).mbx = s.mbx := rfl
@[simp] theorem State.modFormer_hm (s : State) (r : RegionNo) (f : Former → Former) : (s.modFormer r f).hm = s.hm := rfl
@[simp] theorem State.modFormer_et (s : State) (r : RegionNo) (f : Former → Former) : (s.modFormer r f).et = s.et := rfl
@[simp] theorem State.modFormer_opt (s : State) (r : RegionNo) (f : Former → Former) : (s.modFormer r f).opt = s.opt := rfl
@[simp] theorem State.modFormer_ls (s : State) (r : RegionNo) (f : Former → Former) : (s.modFormer r f).ls = s.ls := rfl
@[simp] theorem State.modFormer_xg (s : State) (r : RegionNo) (f : Former → Former) : (s.modFormer r f).xg = s.xg := rfl
@[simp] theorem State.modFormer_cal (s : State) (r : RegionNo) (f : Former → Former) : (s.modFormer r f).cal = s.cal := rfl
@[simp] theorem State.modFormer_sns (s : State) (r : RegionNo) (f : Former → Former) : (s.modFormer r f).sns = s.sns := rfl
@[simp] theorem State.modFormer_cfg (s : State) (r : RegionNo) (f : Former → Former) : (s.modFormer r f).cfg = s.cfg := rfl
@[simp] theorem State.modFormer_sp (s : State) (r : RegionNo) (f : Former → Former) : (s.modFormer r f).sp = s.sp := rfl
@[simp] theorem State.modFormer_die (s : State) (r : RegionNo) (f : Former → Former) : (s.modFormer r f).die = s.die := rfl
@[simp] theorem State.modFormer_ev (s : State) (r : RegionNo) (f : Former → Former) : (s.modFormer r f).ev = s.ev := rfl
@[simp] theorem State.modFormer_tap (s : State) (r : RegionNo) (f : Former → Former) : (s.modFormer r f).tap = s.tap := rfl

@[simp] theorem State.modCtrl_pending (s : State) (one : Bool) (f : Ctrl → Ctrl) : (s.modCtrl one f).pending = s.pending := by cases one <;> rfl
@[simp] theorem State.modCtrl_fresh (s : State) (one : Bool) (f : Ctrl → Ctrl) : (s.modCtrl one f).fresh = s.fresh := by cases one <;> rfl
@[simp] theorem State.modCtrl_sys (s : State) (one : Bool) (f : Ctrl → Ctrl) : (s.modCtrl one f).sys = s.sys := by cases one <;> rfl
@[simp] theorem State.modCtrl_mbx (s : State) (one : Bool) (f : Ctrl → Ctrl) : (s.modCtrl one f).mbx = s.mbx := by cases one <;> rfl
@[simp] theorem State.modCtrl_reg (s : State) (one : Bool) (f : Ctrl → Ctrl) : (s.modCtrl one f).reg = s.reg := by cases one <;> rfl
@[simp] theorem State.modCtrl_hm (s : State) (one : Bool) (f : Ctrl → Ctrl) : (s.modCtrl one f).hm = s.hm := by cases one <;> rfl
@[simp] theorem State.modCtrl_et (s : State) (one : Bool) (f : Ctrl → Ctrl) : (s.modCtrl one f).et = s.et := by cases one <;> rfl
@[simp] theorem State.modCtrl_opt (s : State) (one : Bool) (f : Ctrl → Ctrl) : (s.modCtrl one f).opt = s.opt := by cases one <;> rfl
@[simp] theorem State.modCtrl_ls (s : State) (one : Bool) (f : Ctrl → Ctrl) : (s.modCtrl one f).ls = s.ls := by cases one <;> rfl
@[simp] theorem State.modCtrl_xg (s : State) (one : Bool) (f : Ctrl → Ctrl) : (s.modCtrl one f).xg = s.xg := by cases one <;> rfl
@[simp] theorem State.modCtrl_cal (s : State) (one : Bool) (f : Ctrl → Ctrl) : (s.modCtrl one f).cal = s.cal := by cases one <;> rfl
@[simp] theorem State.modCtrl_sns (s : State) (one : Bool) (f : Ctrl → Ctrl) : (s.modCtrl one f).sns = s.sns := by cases one <;> rfl
@[simp] theorem State.modCtrl_cfg (s : State) (one : Bool) (f : Ctrl → Ctrl) : (s.modCtrl one f).cfg = s.cfg := by cases one <;> rfl
@[simp] theorem State.modCtrl_sp (s : State) (one : Bool) (f : Ctrl → Ctrl) : (s.modCtrl one f).sp = s.sp := by cases one <;> rfl
@[simp] theorem State.modCtrl_die (s : State) (one : Bool) (f : Ctrl → Ctrl) : (s.modCtrl one f).die = s.die := by cases one <;> rfl
@[simp] theorem State.modCtrl_ev (s : State) (one : Bool) (f : Ctrl → Ctrl) : (s.modCtrl one f).ev = s.ev := by cases one <;> rfl
@[simp] theorem State.modCtrl_tap (s : State) (one : Bool) (f : Ctrl → Ctrl) : (s.modCtrl one f).tap = s.tap := by cases one <;> rfl

@[simp] theorem State.modBox_pending (s : State) (m : Fin 8) (f : Mailbox → Mailbox) : (s.modBox m f).pending = s.pending := rfl
@[simp] theorem State.modBox_fresh (s : State) (m : Fin 8) (f : Mailbox → Mailbox) : (s.modBox m f).fresh = s.fresh := rfl
@[simp] theorem State.modBox_sys (s : State) (m : Fin 8) (f : Mailbox → Mailbox) : (s.modBox m f).sys = s.sys := rfl
@[simp] theorem State.modBox_ctl (s : State) (m : Fin 8) (f : Mailbox → Mailbox) : (s.modBox m f).ctl = s.ctl := rfl
@[simp] theorem State.modBox_reg (s : State) (m : Fin 8) (f : Mailbox → Mailbox) : (s.modBox m f).reg = s.reg := rfl
@[simp] theorem State.modBox_hm (s : State) (m : Fin 8) (f : Mailbox → Mailbox) : (s.modBox m f).hm = s.hm := rfl
@[simp] theorem State.modBox_et (s : State) (m : Fin 8) (f : Mailbox → Mailbox) : (s.modBox m f).et = s.et := rfl
@[simp] theorem State.modBox_opt (s : State) (m : Fin 8) (f : Mailbox → Mailbox) : (s.modBox m f).opt = s.opt := rfl
@[simp] theorem State.modBox_ls (s : State) (m : Fin 8) (f : Mailbox → Mailbox) : (s.modBox m f).ls = s.ls := rfl
@[simp] theorem State.modBox_xg (s : State) (m : Fin 8) (f : Mailbox → Mailbox) : (s.modBox m f).xg = s.xg := rfl
@[simp] theorem State.modBox_cal (s : State) (m : Fin 8) (f : Mailbox → Mailbox) : (s.modBox m f).cal = s.cal := rfl
@[simp] theorem State.modBox_sns (s : State) (m : Fin 8) (f : Mailbox → Mailbox) : (s.modBox m f).sns = s.sns := rfl
@[simp] theorem State.modBox_cfg (s : State) (m : Fin 8) (f : Mailbox → Mailbox) : (s.modBox m f).cfg = s.cfg := rfl
@[simp] theorem State.modBox_sp (s : State) (m : Fin 8) (f : Mailbox → Mailbox) : (s.modBox m f).sp = s.sp := rfl
@[simp] theorem State.modBox_die (s : State) (m : Fin 8) (f : Mailbox → Mailbox) : (s.modBox m f).die = s.die := rfl
@[simp] theorem State.modBox_ev (s : State) (m : Fin 8) (f : Mailbox → Mailbox) : (s.modBox m f).ev = s.ev := rfl
@[simp] theorem State.modBox_tap (s : State) (m : Fin 8) (f : Mailbox → Mailbox) : (s.modBox m f).tap = s.tap := rfl

@[simp] theorem State.modHandle_pending (s : State) (i : Nat) (f : Handle → Handle) : (s.modHandle i f).pending = s.pending := rfl
@[simp] theorem State.modHandle_fresh (s : State) (i : Nat) (f : Handle → Handle) : (s.modHandle i f).fresh = s.fresh := rfl
@[simp] theorem State.modHandle_sys (s : State) (i : Nat) (f : Handle → Handle) : (s.modHandle i f).sys = s.sys := rfl
@[simp] theorem State.modHandle_ctl (s : State) (i : Nat) (f : Handle → Handle) : (s.modHandle i f).ctl = s.ctl := rfl
@[simp] theorem State.modHandle_reg (s : State) (i : Nat) (f : Handle → Handle) : (s.modHandle i f).reg = s.reg := rfl
@[simp] theorem State.modHandle_hm (s : State) (i : Nat) (f : Handle → Handle) : (s.modHandle i f).hm = s.hm := rfl
@[simp] theorem State.modHandle_et (s : State) (i : Nat) (f : Handle → Handle) : (s.modHandle i f).et = s.et := rfl
@[simp] theorem State.modHandle_opt (s : State) (i : Nat) (f : Handle → Handle) : (s.modHandle i f).opt = s.opt := rfl
@[simp] theorem State.modHandle_ls (s : State) (i : Nat) (f : Handle → Handle) : (s.modHandle i f).ls = s.ls := rfl
@[simp] theorem State.modHandle_xg (s : State) (i : Nat) (f : Handle → Handle) : (s.modHandle i f).xg = s.xg := rfl
@[simp] theorem State.modHandle_cal (s : State) (i : Nat) (f : Handle → Handle) : (s.modHandle i f).cal = s.cal := rfl
@[simp] theorem State.modHandle_sns (s : State) (i : Nat) (f : Handle → Handle) : (s.modHandle i f).sns = s.sns := rfl
@[simp] theorem State.modHandle_cfg (s : State) (i : Nat) (f : Handle → Handle) : (s.modHandle i f).cfg = s.cfg := rfl
@[simp] theorem State.modHandle_sp (s : State) (i : Nat) (f : Handle → Handle) : (s.modHandle i f).sp = s.sp := rfl
@[simp] theorem State.modHandle_die (s : State) (i : Nat) (f : Handle → Handle) : (s.modHandle i f).die = s.die := rfl
@[simp] theorem State.modHandle_ev (s : State) (i : Nat) (f : Handle → Handle) : (s.modHandle i f).ev = s.ev := rfl
@[simp] theorem State.modHandle_tap (s : State) (i : Nat) (f : Handle → Handle) : (s.modHandle i f).tap = s.tap := rfl

@[simp] theorem State.modDie_pending (s : State) (i : Nat) (f : Die → Die) : (s.modDie i f).pending = s.pending := rfl
@[simp] theorem State.modDie_fresh (s : State) (i : Nat) (f : Die → Die) : (s.modDie i f).fresh = s.fresh := rfl
@[simp] theorem State.modDie_sys (s : State) (i : Nat) (f : Die → Die) : (s.modDie i f).sys = s.sys := rfl
@[simp] theorem State.modDie_ctl (s : State) (i : Nat) (f : Die → Die) : (s.modDie i f).ctl = s.ctl := rfl
@[simp] theorem State.modDie_mbx (s : State) (i : Nat) (f : Die → Die) : (s.modDie i f).mbx = s.mbx := rfl
@[simp] theorem State.modDie_reg (s : State) (i : Nat) (f : Die → Die) : (s.modDie i f).reg = s.reg := rfl
@[simp] theorem State.modDie_hm (s : State) (i : Nat) (f : Die → Die) : (s.modDie i f).hm = s.hm := rfl
@[simp] theorem State.modDie_et (s : State) (i : Nat) (f : Die → Die) : (s.modDie i f).et = s.et := rfl
@[simp] theorem State.modDie_opt (s : State) (i : Nat) (f : Die → Die) : (s.modDie i f).opt = s.opt := rfl
@[simp] theorem State.modDie_ls (s : State) (i : Nat) (f : Die → Die) : (s.modDie i f).ls = s.ls := rfl
@[simp] theorem State.modDie_xg (s : State) (i : Nat) (f : Die → Die) : (s.modDie i f).xg = s.xg := rfl
@[simp] theorem State.modDie_cal (s : State) (i : Nat) (f : Die → Die) : (s.modDie i f).cal = s.cal := rfl
@[simp] theorem State.modDie_sns (s : State) (i : Nat) (f : Die → Die) : (s.modDie i f).sns = s.sns := rfl
@[simp] theorem State.modDie_cfg (s : State) (i : Nat) (f : Die → Die) : (s.modDie i f).cfg = s.cfg := rfl
@[simp] theorem State.modDie_sp (s : State) (i : Nat) (f : Die → Die) : (s.modDie i f).sp = s.sp := rfl
@[simp] theorem State.modDie_ev (s : State) (i : Nat) (f : Die → Die) : (s.modDie i f).ev = s.ev := rfl
@[simp] theorem State.modDie_tap (s : State) (i : Nat) (f : Die → Die) : (s.modDie i f).tap = s.tap := rfl

@[simp] theorem State.modSite_pending (s : State) (i : Nat) (f : SiteOpt → SiteOpt) : (s.modSite i f).pending = s.pending := rfl
@[simp] theorem State.modSite_fresh (s : State) (i : Nat) (f : SiteOpt → SiteOpt) : (s.modSite i f).fresh = s.fresh := rfl
@[simp] theorem State.modSite_sys (s : State) (i : Nat) (f : SiteOpt → SiteOpt) : (s.modSite i f).sys = s.sys := rfl
@[simp] theorem State.modSite_ctl (s : State) (i : Nat) (f : SiteOpt → SiteOpt) : (s.modSite i f).ctl = s.ctl := rfl
@[simp] theorem State.modSite_mbx (s : State) (i : Nat) (f : SiteOpt → SiteOpt) : (s.modSite i f).mbx = s.mbx := rfl
@[simp] theorem State.modSite_reg (s : State) (i : Nat) (f : SiteOpt → SiteOpt) : (s.modSite i f).reg = s.reg := rfl
@[simp] theorem State.modSite_hm (s : State) (i : Nat) (f : SiteOpt → SiteOpt) : (s.modSite i f).hm = s.hm := rfl
@[simp] theorem State.modSite_et (s : State) (i : Nat) (f : SiteOpt → SiteOpt) : (s.modSite i f).et = s.et := rfl
@[simp] theorem State.modSite_ls (s : State) (i : Nat) (f : SiteOpt → SiteOpt) : (s.modSite i f).ls = s.ls := rfl
@[simp] theorem State.modSite_xg (s : State) (i : Nat) (f : SiteOpt → SiteOpt) : (s.modSite i f).xg = s.xg := rfl
@[simp] theorem State.modSite_cal (s : State) (i : Nat) (f : SiteOpt → SiteOpt) : (s.modSite i f).cal = s.cal := rfl
@[simp] theorem State.modSite_sns (s : State) (i : Nat) (f : SiteOpt → SiteOpt) : (s.modSite i f).sns = s.sns := rfl
@[simp] theorem State.modSite_cfg (s : State) (i : Nat) (f : SiteOpt → SiteOpt) : (s.modSite i f).cfg = s.cfg := rfl
@[simp] theorem State.modSite_sp (s : State) (i : Nat) (f : SiteOpt → SiteOpt) : (s.modSite i f).sp = s.sp := rfl
@[simp] theorem State.modSite_die (s : State) (i : Nat) (f : SiteOpt → SiteOpt) : (s.modSite i f).die = s.die := rfl
@[simp] theorem State.modSite_ev (s : State) (i : Nat) (f : SiteOpt → SiteOpt) : (s.modSite i f).ev = s.ev := rfl
@[simp] theorem State.modSite_tap (s : State) (i : Nat) (f : SiteOpt → SiteOpt) : (s.modSite i f).tap = s.tap := rfl

@[simp] theorem State.modSynth_pending (s : State) (i : Nat) (f : Synth → Synth) : (s.modSynth i f).pending = s.pending := rfl
@[simp] theorem State.modSynth_fresh (s : State) (i : Nat) (f : Synth → Synth) : (s.modSynth i f).fresh = s.fresh := rfl
@[simp] theorem State.modSynth_sys (s : State) (i : Nat) (f : Synth → Synth) : (s.modSynth i f).sys = s.sys := rfl
@[simp] theorem State.modSynth_ctl (s : State) (i : Nat) (f : Synth → Synth) : (s.modSynth i f).ctl = s.ctl := rfl
@[simp] theorem State.modSynth_mbx (s : State) (i : Nat) (f : Synth → Synth) : (s.modSynth i f).mbx = s.mbx := rfl
@[simp] theorem State.modSynth_reg (s : State) (i : Nat) (f : Synth → Synth) : (s.modSynth i f).reg = s.reg := rfl
@[simp] theorem State.modSynth_hm (s : State) (i : Nat) (f : Synth → Synth) : (s.modSynth i f).hm = s.hm := rfl
@[simp] theorem State.modSynth_et (s : State) (i : Nat) (f : Synth → Synth) : (s.modSynth i f).et = s.et := rfl
@[simp] theorem State.modSynth_opt (s : State) (i : Nat) (f : Synth → Synth) : (s.modSynth i f).opt = s.opt := rfl
@[simp] theorem State.modSynth_xg (s : State) (i : Nat) (f : Synth → Synth) : (s.modSynth i f).xg = s.xg := rfl
@[simp] theorem State.modSynth_cal (s : State) (i : Nat) (f : Synth → Synth) : (s.modSynth i f).cal = s.cal := rfl
@[simp] theorem State.modSynth_sns (s : State) (i : Nat) (f : Synth → Synth) : (s.modSynth i f).sns = s.sns := rfl
@[simp] theorem State.modSynth_cfg (s : State) (i : Nat) (f : Synth → Synth) : (s.modSynth i f).cfg = s.cfg := rfl
@[simp] theorem State.modSynth_sp (s : State) (i : Nat) (f : Synth → Synth) : (s.modSynth i f).sp = s.sp := rfl
@[simp] theorem State.modSynth_die (s : State) (i : Nat) (f : Synth → Synth) : (s.modSynth i f).die = s.die := rfl
@[simp] theorem State.modSynth_ev (s : State) (i : Nat) (f : Synth → Synth) : (s.modSynth i f).ev = s.ev := rfl
@[simp] theorem State.modSynth_tap (s : State) (i : Nat) (f : Synth → Synth) : (s.modSynth i f).tap = s.tap := rfl

@[simp] theorem State.modPort_pending (s : State) (i : Nat) (f : Port → Port) : (s.modPort i f).pending = s.pending := rfl
@[simp] theorem State.modPort_fresh (s : State) (i : Nat) (f : Port → Port) : (s.modPort i f).fresh = s.fresh := rfl
@[simp] theorem State.modPort_sys (s : State) (i : Nat) (f : Port → Port) : (s.modPort i f).sys = s.sys := rfl
@[simp] theorem State.modPort_ctl (s : State) (i : Nat) (f : Port → Port) : (s.modPort i f).ctl = s.ctl := rfl
@[simp] theorem State.modPort_mbx (s : State) (i : Nat) (f : Port → Port) : (s.modPort i f).mbx = s.mbx := rfl
@[simp] theorem State.modPort_reg (s : State) (i : Nat) (f : Port → Port) : (s.modPort i f).reg = s.reg := rfl
@[simp] theorem State.modPort_hm (s : State) (i : Nat) (f : Port → Port) : (s.modPort i f).hm = s.hm := rfl
@[simp] theorem State.modPort_et (s : State) (i : Nat) (f : Port → Port) : (s.modPort i f).et = s.et := rfl
@[simp] theorem State.modPort_opt (s : State) (i : Nat) (f : Port → Port) : (s.modPort i f).opt = s.opt := rfl
@[simp] theorem State.modPort_xg (s : State) (i : Nat) (f : Port → Port) : (s.modPort i f).xg = s.xg := rfl
@[simp] theorem State.modPort_cal (s : State) (i : Nat) (f : Port → Port) : (s.modPort i f).cal = s.cal := rfl
@[simp] theorem State.modPort_sns (s : State) (i : Nat) (f : Port → Port) : (s.modPort i f).sns = s.sns := rfl
@[simp] theorem State.modPort_cfg (s : State) (i : Nat) (f : Port → Port) : (s.modPort i f).cfg = s.cfg := rfl
@[simp] theorem State.modPort_sp (s : State) (i : Nat) (f : Port → Port) : (s.modPort i f).sp = s.sp := rfl
@[simp] theorem State.modPort_die (s : State) (i : Nat) (f : Port → Port) : (s.modPort i f).die = s.die := rfl
@[simp] theorem State.modPort_ev (s : State) (i : Nat) (f : Port → Port) : (s.modPort i f).ev = s.ev := rfl
@[simp] theorem State.modPort_tap (s : State) (i : Nat) (f : Port → Port) : (s.modPort i f).tap = s.tap := rfl

@[simp] theorem State.modAnchor_pending (s : State) (i : Nat) (f : Anchor → Anchor) : (s.modAnchor i f).pending = s.pending := rfl
@[simp] theorem State.modAnchor_fresh (s : State) (i : Nat) (f : Anchor → Anchor) : (s.modAnchor i f).fresh = s.fresh := rfl
@[simp] theorem State.modAnchor_sys (s : State) (i : Nat) (f : Anchor → Anchor) : (s.modAnchor i f).sys = s.sys := rfl
@[simp] theorem State.modAnchor_ctl (s : State) (i : Nat) (f : Anchor → Anchor) : (s.modAnchor i f).ctl = s.ctl := rfl
@[simp] theorem State.modAnchor_mbx (s : State) (i : Nat) (f : Anchor → Anchor) : (s.modAnchor i f).mbx = s.mbx := rfl
@[simp] theorem State.modAnchor_reg (s : State) (i : Nat) (f : Anchor → Anchor) : (s.modAnchor i f).reg = s.reg := rfl
@[simp] theorem State.modAnchor_hm (s : State) (i : Nat) (f : Anchor → Anchor) : (s.modAnchor i f).hm = s.hm := rfl
@[simp] theorem State.modAnchor_opt (s : State) (i : Nat) (f : Anchor → Anchor) : (s.modAnchor i f).opt = s.opt := rfl
@[simp] theorem State.modAnchor_ls (s : State) (i : Nat) (f : Anchor → Anchor) : (s.modAnchor i f).ls = s.ls := rfl
@[simp] theorem State.modAnchor_xg (s : State) (i : Nat) (f : Anchor → Anchor) : (s.modAnchor i f).xg = s.xg := rfl
@[simp] theorem State.modAnchor_cal (s : State) (i : Nat) (f : Anchor → Anchor) : (s.modAnchor i f).cal = s.cal := rfl
@[simp] theorem State.modAnchor_sns (s : State) (i : Nat) (f : Anchor → Anchor) : (s.modAnchor i f).sns = s.sns := rfl
@[simp] theorem State.modAnchor_cfg (s : State) (i : Nat) (f : Anchor → Anchor) : (s.modAnchor i f).cfg = s.cfg := rfl
@[simp] theorem State.modAnchor_sp (s : State) (i : Nat) (f : Anchor → Anchor) : (s.modAnchor i f).sp = s.sp := rfl
@[simp] theorem State.modAnchor_die (s : State) (i : Nat) (f : Anchor → Anchor) : (s.modAnchor i f).die = s.die := rfl
@[simp] theorem State.modAnchor_ev (s : State) (i : Nat) (f : Anchor → Anchor) : (s.modAnchor i f).ev = s.ev := rfl
@[simp] theorem State.modAnchor_tap (s : State) (i : Nat) (f : Anchor → Anchor) : (s.modAnchor i f).tap = s.tap := rfl

@[simp] theorem State.modTherm_pending (s : State) (i : Nat) (f : SiteTherm → SiteTherm) : (s.modTherm i f).pending = s.pending := rfl
@[simp] theorem State.modTherm_fresh (s : State) (i : Nat) (f : SiteTherm → SiteTherm) : (s.modTherm i f).fresh = s.fresh := rfl
@[simp] theorem State.modTherm_sys (s : State) (i : Nat) (f : SiteTherm → SiteTherm) : (s.modTherm i f).sys = s.sys := rfl
@[simp] theorem State.modTherm_ctl (s : State) (i : Nat) (f : SiteTherm → SiteTherm) : (s.modTherm i f).ctl = s.ctl := rfl
@[simp] theorem State.modTherm_mbx (s : State) (i : Nat) (f : SiteTherm → SiteTherm) : (s.modTherm i f).mbx = s.mbx := rfl
@[simp] theorem State.modTherm_reg (s : State) (i : Nat) (f : SiteTherm → SiteTherm) : (s.modTherm i f).reg = s.reg := rfl
@[simp] theorem State.modTherm_hm (s : State) (i : Nat) (f : SiteTherm → SiteTherm) : (s.modTherm i f).hm = s.hm := rfl
@[simp] theorem State.modTherm_et (s : State) (i : Nat) (f : SiteTherm → SiteTherm) : (s.modTherm i f).et = s.et := rfl
@[simp] theorem State.modTherm_opt (s : State) (i : Nat) (f : SiteTherm → SiteTherm) : (s.modTherm i f).opt = s.opt := rfl
@[simp] theorem State.modTherm_ls (s : State) (i : Nat) (f : SiteTherm → SiteTherm) : (s.modTherm i f).ls = s.ls := rfl
@[simp] theorem State.modTherm_xg (s : State) (i : Nat) (f : SiteTherm → SiteTherm) : (s.modTherm i f).xg = s.xg := rfl
@[simp] theorem State.modTherm_cal (s : State) (i : Nat) (f : SiteTherm → SiteTherm) : (s.modTherm i f).cal = s.cal := rfl
@[simp] theorem State.modTherm_cfg (s : State) (i : Nat) (f : SiteTherm → SiteTherm) : (s.modTherm i f).cfg = s.cfg := rfl
@[simp] theorem State.modTherm_sp (s : State) (i : Nat) (f : SiteTherm → SiteTherm) : (s.modTherm i f).sp = s.sp := rfl
@[simp] theorem State.modTherm_die (s : State) (i : Nat) (f : SiteTherm → SiteTherm) : (s.modTherm i f).die = s.die := rfl
@[simp] theorem State.modTherm_ev (s : State) (i : Nat) (f : SiteTherm → SiteTherm) : (s.modTherm i f).ev = s.ev := rfl
@[simp] theorem State.modTherm_tap (s : State) (i : Nat) (f : SiteTherm → SiteTherm) : (s.modTherm i f).tap = s.tap := rfl

@[simp] theorem State.modTile_pending (s : State) (t : Nat) (f : Tile → Tile) : (s.modTile t f).pending = s.pending := rfl
@[simp] theorem State.modTile_fresh (s : State) (t : Nat) (f : Tile → Tile) : (s.modTile t f).fresh = s.fresh := rfl
@[simp] theorem State.modTile_sys (s : State) (t : Nat) (f : Tile → Tile) : (s.modTile t f).sys = s.sys := rfl
@[simp] theorem State.modTile_ctl (s : State) (t : Nat) (f : Tile → Tile) : (s.modTile t f).ctl = s.ctl := rfl
@[simp] theorem State.modTile_mbx (s : State) (t : Nat) (f : Tile → Tile) : (s.modTile t f).mbx = s.mbx := rfl
@[simp] theorem State.modTile_reg (s : State) (t : Nat) (f : Tile → Tile) : (s.modTile t f).reg = s.reg := rfl
@[simp] theorem State.modTile_hm (s : State) (t : Nat) (f : Tile → Tile) : (s.modTile t f).hm = s.hm := rfl
@[simp] theorem State.modTile_et (s : State) (t : Nat) (f : Tile → Tile) : (s.modTile t f).et = s.et := rfl
@[simp] theorem State.modTile_opt (s : State) (t : Nat) (f : Tile → Tile) : (s.modTile t f).opt = s.opt := rfl
@[simp] theorem State.modTile_ls (s : State) (t : Nat) (f : Tile → Tile) : (s.modTile t f).ls = s.ls := rfl
@[simp] theorem State.modTile_xg (s : State) (t : Nat) (f : Tile → Tile) : (s.modTile t f).xg = s.xg := rfl
@[simp] theorem State.modTile_cal (s : State) (t : Nat) (f : Tile → Tile) : (s.modTile t f).cal = s.cal := rfl
@[simp] theorem State.modTile_cfg (s : State) (t : Nat) (f : Tile → Tile) : (s.modTile t f).cfg = s.cfg := rfl
@[simp] theorem State.modTile_sp (s : State) (t : Nat) (f : Tile → Tile) : (s.modTile t f).sp = s.sp := rfl
@[simp] theorem State.modTile_die (s : State) (t : Nat) (f : Tile → Tile) : (s.modTile t f).die = s.die := rfl
@[simp] theorem State.modTile_ev (s : State) (t : Nat) (f : Tile → Tile) : (s.modTile t f).ev = s.ev := rfl
@[simp] theorem State.modTile_tap (s : State) (t : Nat) (f : Tile → Tile) : (s.modTile t f).tap = s.tap := rfl

@[simp] theorem State.modField_pending (s : State) (k : Nat) (f : Field → Field) : (s.modField k f).pending = s.pending := rfl
@[simp] theorem State.modField_fresh (s : State) (k : Nat) (f : Field → Field) : (s.modField k f).fresh = s.fresh := rfl
@[simp] theorem State.modField_sys (s : State) (k : Nat) (f : Field → Field) : (s.modField k f).sys = s.sys := rfl
@[simp] theorem State.modField_ctl (s : State) (k : Nat) (f : Field → Field) : (s.modField k f).ctl = s.ctl := rfl
@[simp] theorem State.modField_mbx (s : State) (k : Nat) (f : Field → Field) : (s.modField k f).mbx = s.mbx := rfl
@[simp] theorem State.modField_reg (s : State) (k : Nat) (f : Field → Field) : (s.modField k f).reg = s.reg := rfl
@[simp] theorem State.modField_hm (s : State) (k : Nat) (f : Field → Field) : (s.modField k f).hm = s.hm := rfl
@[simp] theorem State.modField_et (s : State) (k : Nat) (f : Field → Field) : (s.modField k f).et = s.et := rfl
@[simp] theorem State.modField_opt (s : State) (k : Nat) (f : Field → Field) : (s.modField k f).opt = s.opt := rfl
@[simp] theorem State.modField_ls (s : State) (k : Nat) (f : Field → Field) : (s.modField k f).ls = s.ls := rfl
@[simp] theorem State.modField_xg (s : State) (k : Nat) (f : Field → Field) : (s.modField k f).xg = s.xg := rfl
@[simp] theorem State.modField_cal (s : State) (k : Nat) (f : Field → Field) : (s.modField k f).cal = s.cal := rfl
@[simp] theorem State.modField_cfg (s : State) (k : Nat) (f : Field → Field) : (s.modField k f).cfg = s.cfg := rfl
@[simp] theorem State.modField_sp (s : State) (k : Nat) (f : Field → Field) : (s.modField k f).sp = s.sp := rfl
@[simp] theorem State.modField_die (s : State) (k : Nat) (f : Field → Field) : (s.modField k f).die = s.die := rfl
@[simp] theorem State.modField_ev (s : State) (k : Nat) (f : Field → Field) : (s.modField k f).ev = s.ev := rfl
@[simp] theorem State.modField_tap (s : State) (k : Nat) (f : Field → Field) : (s.modField k f).tap = s.tap := rfl

@[simp] theorem State.modLane_pending (s : State) (r : RegionNo) (k : Nat) (f : Lane → Lane) : (s.modLane r k f).pending = s.pending := rfl
@[simp] theorem State.modLane_fresh (s : State) (r : RegionNo) (k : Nat) (f : Lane → Lane) : (s.modLane r k f).fresh = s.fresh := rfl
@[simp] theorem State.modLane_sys (s : State) (r : RegionNo) (k : Nat) (f : Lane → Lane) : (s.modLane r k f).sys = s.sys := rfl
@[simp] theorem State.modLane_ctl (s : State) (r : RegionNo) (k : Nat) (f : Lane → Lane) : (s.modLane r k f).ctl = s.ctl := rfl
@[simp] theorem State.modLane_mbx (s : State) (r : RegionNo) (k : Nat) (f : Lane → Lane) : (s.modLane r k f).mbx = s.mbx := rfl
@[simp] theorem State.modLane_reg (s : State) (r : RegionNo) (k : Nat) (f : Lane → Lane) : (s.modLane r k f).reg = s.reg := rfl
@[simp] theorem State.modLane_hm (s : State) (r : RegionNo) (k : Nat) (f : Lane → Lane) : (s.modLane r k f).hm = s.hm := rfl
@[simp] theorem State.modLane_et (s : State) (r : RegionNo) (k : Nat) (f : Lane → Lane) : (s.modLane r k f).et = s.et := rfl
@[simp] theorem State.modLane_opt (s : State) (r : RegionNo) (k : Nat) (f : Lane → Lane) : (s.modLane r k f).opt = s.opt := rfl
@[simp] theorem State.modLane_ls (s : State) (r : RegionNo) (k : Nat) (f : Lane → Lane) : (s.modLane r k f).ls = s.ls := rfl
@[simp] theorem State.modLane_cal (s : State) (r : RegionNo) (k : Nat) (f : Lane → Lane) : (s.modLane r k f).cal = s.cal := rfl
@[simp] theorem State.modLane_sns (s : State) (r : RegionNo) (k : Nat) (f : Lane → Lane) : (s.modLane r k f).sns = s.sns := rfl
@[simp] theorem State.modLane_cfg (s : State) (r : RegionNo) (k : Nat) (f : Lane → Lane) : (s.modLane r k f).cfg = s.cfg := rfl
@[simp] theorem State.modLane_sp (s : State) (r : RegionNo) (k : Nat) (f : Lane → Lane) : (s.modLane r k f).sp = s.sp := rfl
@[simp] theorem State.modLane_die (s : State) (r : RegionNo) (k : Nat) (f : Lane → Lane) : (s.modLane r k f).die = s.die := rfl
@[simp] theorem State.modLane_ev (s : State) (r : RegionNo) (k : Nat) (f : Lane → Lane) : (s.modLane r k f).ev = s.ev := rfl
@[simp] theorem State.modLane_tap (s : State) (r : RegionNo) (k : Nat) (f : Lane → Lane) : (s.modLane r k f).tap = s.tap := rfl

@[simp] theorem State.modXing_pending (s : State) (id : Nat) (f : Xing → Xing) : (s.modXing id f).pending = s.pending := rfl
@[simp] theorem State.modXing_fresh (s : State) (id : Nat) (f : Xing → Xing) : (s.modXing id f).fresh = s.fresh := rfl
@[simp] theorem State.modXing_sys (s : State) (id : Nat) (f : Xing → Xing) : (s.modXing id f).sys = s.sys := rfl
@[simp] theorem State.modXing_ctl (s : State) (id : Nat) (f : Xing → Xing) : (s.modXing id f).ctl = s.ctl := rfl
@[simp] theorem State.modXing_mbx (s : State) (id : Nat) (f : Xing → Xing) : (s.modXing id f).mbx = s.mbx := rfl
@[simp] theorem State.modXing_reg (s : State) (id : Nat) (f : Xing → Xing) : (s.modXing id f).reg = s.reg := rfl
@[simp] theorem State.modXing_hm (s : State) (id : Nat) (f : Xing → Xing) : (s.modXing id f).hm = s.hm := rfl
@[simp] theorem State.modXing_et (s : State) (id : Nat) (f : Xing → Xing) : (s.modXing id f).et = s.et := rfl
@[simp] theorem State.modXing_opt (s : State) (id : Nat) (f : Xing → Xing) : (s.modXing id f).opt = s.opt := rfl
@[simp] theorem State.modXing_ls (s : State) (id : Nat) (f : Xing → Xing) : (s.modXing id f).ls = s.ls := rfl
@[simp] theorem State.modXing_cal (s : State) (id : Nat) (f : Xing → Xing) : (s.modXing id f).cal = s.cal := rfl
@[simp] theorem State.modXing_sns (s : State) (id : Nat) (f : Xing → Xing) : (s.modXing id f).sns = s.sns := rfl
@[simp] theorem State.modXing_cfg (s : State) (id : Nat) (f : Xing → Xing) : (s.modXing id f).cfg = s.cfg := rfl
@[simp] theorem State.modXing_sp (s : State) (id : Nat) (f : Xing → Xing) : (s.modXing id f).sp = s.sp := rfl
@[simp] theorem State.modXing_die (s : State) (id : Nat) (f : Xing → Xing) : (s.modXing id f).die = s.die := rfl
@[simp] theorem State.modXing_ev (s : State) (id : Nat) (f : Xing → Xing) : (s.modXing id f).ev = s.ev := rfl
@[simp] theorem State.modXing_tap (s : State) (id : Nat) (f : Xing → Xing) : (s.modXing id f).tap = s.tap := rfl

@[simp] theorem State.modSlot_pending (s : State) (k : Nat) (f : Slot → Slot) : (s.modSlot k f).pending = s.pending := rfl
@[simp] theorem State.modSlot_fresh (s : State) (k : Nat) (f : Slot → Slot) : (s.modSlot k f).fresh = s.fresh := rfl
@[simp] theorem State.modSlot_sys (s : State) (k : Nat) (f : Slot → Slot) : (s.modSlot k f).sys = s.sys := rfl
@[simp] theorem State.modSlot_ctl (s : State) (k : Nat) (f : Slot → Slot) : (s.modSlot k f).ctl = s.ctl := rfl
@[simp] theorem State.modSlot_mbx (s : State) (k : Nat) (f : Slot → Slot) : (s.modSlot k f).mbx = s.mbx := rfl
@[simp] theorem State.modSlot_reg (s : State) (k : Nat) (f : Slot → Slot) : (s.modSlot k f).reg = s.reg := rfl
@[simp] theorem State.modSlot_hm (s : State) (k : Nat) (f : Slot → Slot) : (s.modSlot k f).hm = s.hm := rfl
@[simp] theorem State.modSlot_et (s : State) (k : Nat) (f : Slot → Slot) : (s.modSlot k f).et = s.et := rfl
@[simp] theorem State.modSlot_opt (s : State) (k : Nat) (f : Slot → Slot) : (s.modSlot k f).opt = s.opt := rfl
@[simp] theorem State.modSlot_ls (s : State) (k : Nat) (f : Slot → Slot) : (s.modSlot k f).ls = s.ls := rfl
@[simp] theorem State.modSlot_xg (s : State) (k : Nat) (f : Slot → Slot) : (s.modSlot k f).xg = s.xg := rfl
@[simp] theorem State.modSlot_cal (s : State) (k : Nat) (f : Slot → Slot) : (s.modSlot k f).cal = s.cal := rfl
@[simp] theorem State.modSlot_sns (s : State) (k : Nat) (f : Slot → Slot) : (s.modSlot k f).sns = s.sns := rfl
@[simp] theorem State.modSlot_sp (s : State) (k : Nat) (f : Slot → Slot) : (s.modSlot k f).sp = s.sp := rfl
@[simp] theorem State.modSlot_die (s : State) (k : Nat) (f : Slot → Slot) : (s.modSlot k f).die = s.die := rfl
@[simp] theorem State.modSlot_ev (s : State) (k : Nat) (f : Slot → Slot) : (s.modSlot k f).ev = s.ev := rfl
@[simp] theorem State.modSlot_tap (s : State) (k : Nat) (f : Slot → Slot) : (s.modSlot k f).tap = s.tap := rfl

@[simp] theorem State.arm_pending (s : State) (e : Fence) : (s.arm e).pending = s.pending := rfl
@[simp] theorem State.arm_fresh (s : State) (e : Fence) : (s.arm e).fresh = s.fresh := rfl
@[simp] theorem State.arm_sys (s : State) (e : Fence) : (s.arm e).sys = s.sys := rfl
@[simp] theorem State.arm_ctl (s : State) (e : Fence) : (s.arm e).ctl = s.ctl := rfl
@[simp] theorem State.arm_mbx (s : State) (e : Fence) : (s.arm e).mbx = s.mbx := rfl
@[simp] theorem State.arm_reg (s : State) (e : Fence) : (s.arm e).reg = s.reg := rfl
@[simp] theorem State.arm_hm (s : State) (e : Fence) : (s.arm e).hm = s.hm := rfl
@[simp] theorem State.arm_et (s : State) (e : Fence) : (s.arm e).et = s.et := rfl
@[simp] theorem State.arm_opt (s : State) (e : Fence) : (s.arm e).opt = s.opt := rfl
@[simp] theorem State.arm_ls (s : State) (e : Fence) : (s.arm e).ls = s.ls := rfl
@[simp] theorem State.arm_xg (s : State) (e : Fence) : (s.arm e).xg = s.xg := rfl
@[simp] theorem State.arm_cal (s : State) (e : Fence) : (s.arm e).cal = s.cal := rfl
@[simp] theorem State.arm_sns (s : State) (e : Fence) : (s.arm e).sns = s.sns := rfl
@[simp] theorem State.arm_sp (s : State) (e : Fence) : (s.arm e).sp = s.sp := rfl
@[simp] theorem State.arm_die (s : State) (e : Fence) : (s.arm e).die = s.die := rfl
@[simp] theorem State.arm_ev (s : State) (e : Fence) : (s.arm e).ev = s.ev := rfl
@[simp] theorem State.arm_tap (s : State) (e : Fence) : (s.arm e).tap = s.tap := rfl

@[simp] theorem State.modSp_pending (s : State) (one : Bool) (f : SpanPort → SpanPort) : (s.modSp one f).pending = s.pending := by cases one <;> rfl
@[simp] theorem State.modSp_fresh (s : State) (one : Bool) (f : SpanPort → SpanPort) : (s.modSp one f).fresh = s.fresh := by cases one <;> rfl
@[simp] theorem State.modSp_sys (s : State) (one : Bool) (f : SpanPort → SpanPort) : (s.modSp one f).sys = s.sys := by cases one <;> rfl
@[simp] theorem State.modSp_ctl (s : State) (one : Bool) (f : SpanPort → SpanPort) : (s.modSp one f).ctl = s.ctl := by cases one <;> rfl
@[simp] theorem State.modSp_mbx (s : State) (one : Bool) (f : SpanPort → SpanPort) : (s.modSp one f).mbx = s.mbx := by cases one <;> rfl
@[simp] theorem State.modSp_reg (s : State) (one : Bool) (f : SpanPort → SpanPort) : (s.modSp one f).reg = s.reg := by cases one <;> rfl
@[simp] theorem State.modSp_hm (s : State) (one : Bool) (f : SpanPort → SpanPort) : (s.modSp one f).hm = s.hm := by cases one <;> rfl
@[simp] theorem State.modSp_et (s : State) (one : Bool) (f : SpanPort → SpanPort) : (s.modSp one f).et = s.et := by cases one <;> rfl
@[simp] theorem State.modSp_opt (s : State) (one : Bool) (f : SpanPort → SpanPort) : (s.modSp one f).opt = s.opt := by cases one <;> rfl
@[simp] theorem State.modSp_ls (s : State) (one : Bool) (f : SpanPort → SpanPort) : (s.modSp one f).ls = s.ls := by cases one <;> rfl
@[simp] theorem State.modSp_xg (s : State) (one : Bool) (f : SpanPort → SpanPort) : (s.modSp one f).xg = s.xg := by cases one <;> rfl
@[simp] theorem State.modSp_cal (s : State) (one : Bool) (f : SpanPort → SpanPort) : (s.modSp one f).cal = s.cal := by cases one <;> rfl
@[simp] theorem State.modSp_sns (s : State) (one : Bool) (f : SpanPort → SpanPort) : (s.modSp one f).sns = s.sns := by cases one <;> rfl
@[simp] theorem State.modSp_cfg (s : State) (one : Bool) (f : SpanPort → SpanPort) : (s.modSp one f).cfg = s.cfg := by cases one <;> rfl
@[simp] theorem State.modSp_die (s : State) (one : Bool) (f : SpanPort → SpanPort) : (s.modSp one f).die = s.die := by cases one <;> rfl
@[simp] theorem State.modSp_ev (s : State) (one : Bool) (f : SpanPort → SpanPort) : (s.modSp one f).ev = s.ev := by cases one <;> rfl
@[simp] theorem State.modSp_tap (s : State) (one : Bool) (f : SpanPort → SpanPort) : (s.modSp one f).tap = s.tap := by cases one <;> rfl

@[simp] theorem State.modTap_pending (s : State) (f : Tap → Tap) : (s.modTap f).pending = s.pending := rfl
@[simp] theorem State.modTap_fresh (s : State) (f : Tap → Tap) : (s.modTap f).fresh = s.fresh := rfl
@[simp] theorem State.modTap_sys (s : State) (f : Tap → Tap) : (s.modTap f).sys = s.sys := rfl
@[simp] theorem State.modTap_ctl (s : State) (f : Tap → Tap) : (s.modTap f).ctl = s.ctl := rfl
@[simp] theorem State.modTap_mbx (s : State) (f : Tap → Tap) : (s.modTap f).mbx = s.mbx := rfl
@[simp] theorem State.modTap_reg (s : State) (f : Tap → Tap) : (s.modTap f).reg = s.reg := rfl
@[simp] theorem State.modTap_hm (s : State) (f : Tap → Tap) : (s.modTap f).hm = s.hm := rfl
@[simp] theorem State.modTap_et (s : State) (f : Tap → Tap) : (s.modTap f).et = s.et := rfl
@[simp] theorem State.modTap_opt (s : State) (f : Tap → Tap) : (s.modTap f).opt = s.opt := rfl
@[simp] theorem State.modTap_ls (s : State) (f : Tap → Tap) : (s.modTap f).ls = s.ls := rfl
@[simp] theorem State.modTap_xg (s : State) (f : Tap → Tap) : (s.modTap f).xg = s.xg := rfl
@[simp] theorem State.modTap_cal (s : State) (f : Tap → Tap) : (s.modTap f).cal = s.cal := rfl
@[simp] theorem State.modTap_sns (s : State) (f : Tap → Tap) : (s.modTap f).sns = s.sns := rfl
@[simp] theorem State.modTap_cfg (s : State) (f : Tap → Tap) : (s.modTap f).cfg = s.cfg := rfl
@[simp] theorem State.modTap_sp (s : State) (f : Tap → Tap) : (s.modTap f).sp = s.sp := rfl
@[simp] theorem State.modTap_die (s : State) (f : Tap → Tap) : (s.modTap f).die = s.die := rfl
@[simp] theorem State.modTap_ev (s : State) (f : Tap → Tap) : (s.modTap f).ev = s.ev := rfl

/-! ### Reading a part after it changed -/

/-- The queue's rest taken, every other part reads as before. -/
@[simp] theorem State.rgn_pending (s : State) (q : List Instr) (r : RegionNo) : { s with pending := q }.rgn r = s.rgn r := rfl

/-- A region reads what was put there, where the table of regions is canonical. -/
theorem State.rgn_setRgn (s : State) (r : RegionNo) (x : Region) (h : Map.wf Region.reset s.reg = true) : (s.setRgn r x).rgn r = x :=
  Map.get_put_self _ r x (Map.wf_rising h)

/-- Every other region reads as before. -/
@[simp] theorem State.rgn_setRgn_ne (s : State) {r k : RegionNo} (x : Region) (h : k ≠ r) : (s.setRgn r x).rgn k = s.rgn k :=
  Map.get_put_ne _ _ x h

/-- A changed region reads changed. -/
theorem State.rgn_modRgn (s : State) (r : RegionNo) (f : Region → Region) (h : Map.wf Region.reset s.reg = true) :
    (s.modRgn r f).rgn r = f (s.rgn r) := s.rgn_setRgn r _ h

/-- Every other region reads as before. -/
@[simp] theorem State.rgn_modRgn_ne (s : State) {r k : RegionNo} (f : Region → Region) (h : k ≠ r) : (s.modRgn r f).rgn k = s.rgn k :=
  s.rgn_setRgn_ne _ h

/-- A changed region leaves the table of regions canonical. -/
theorem State.modRgn_wf (s : State) (r : RegionNo) (f : Region → Region) (h : Map.wf Region.reset s.reg = true) :
    Map.wf Region.reset (s.modRgn r f).reg = true := Map.put_wf r _ h

@[simp] theorem State.box_modBox (s : State) (m : Fin 8) (f : Mailbox → Mailbox) : (s.modBox m f).box m = f (s.box m) := by
  simp [State.modBox, State.box]

@[simp] theorem State.box_modBox_ne (s : State) {m k : Fin 8} (f : Mailbox → Mailbox) (h : k ≠ m) : (s.modBox m f).box k = s.box k := by
  have : m.val ≠ k.val := fun e => h (Fin.ext e.symm)
  simp [State.modBox, State.box, this]

@[simp] theorem State.modBox_modBox (s : State) (m : Fin 8) (f g : Mailbox → Mailbox) :
    (s.modBox m f).modBox m g = s.modBox m fun b => g (f b) := by
  simp [State.modBox]

@[simp] theorem State.fw_modBox (s : State) (m : Fin 8) (f : Mailbox → Mailbox) : (s.modBox m f).fw = s.fw := rfl
@[simp] theorem State.handle_modBox (s : State) (m : Fin 8) (f : Mailbox → Mailbox) (i : Nat) : (s.modBox m f).handle i = s.handle i := rfl
@[simp] theorem State.box_modHandle (s : State) (i : Nat) (f : Handle → Handle) (m : Fin 8) : (s.modHandle i f).box m = s.box m := rfl
@[simp] theorem State.port_modSynth (s : State) (i : Nat) (f : Synth → Synth) (p : Nat) : (s.modSynth i f).port p = s.port p := rfl
@[simp] theorem State.synth_modPort (s : State) (p : Nat) (f : Port → Port) (i : Nat) : (s.modPort p f).synth i = s.synth i := rfl
@[simp] theorem State.xing_modLane (s : State) (r : RegionNo) (k : Nat) (f : Lane → Lane) (id : Nat) : (s.modLane r k f).xing id = s.xing id := rfl
@[simp] theorem State.laneAt_modXing (s : State) (id : Nat) (f : Xing → Xing) (r : RegionNo) (k : Nat) :
    (s.modXing id f).laneAt r k = s.laneAt r k := rfl
@[simp] theorem State.therm_modTile (s : State) (t : Nat) (f : Tile → Tile) (i : Nat) : (s.modTile t f).therm i = s.therm i := rfl

@[simp] theorem State.handle_modHandle (s : State) {i : Nat} (f : Handle → Handle) (h : i < 32) : (s.modHandle i f).handle i = f (s.handle i) :=
  vget_vmod_self _ _ f h

@[simp] theorem State.handle_modHandle_ne (s : State) {i j : Nat} (f : Handle → Handle) (h : j ≠ i) : (s.modHandle i f).handle j = s.handle j :=
  vget_vmod_ne _ _ f h

@[simp] theorem State.dieAt_modDie (s : State) {i : Nat} (f : Die → Die) (h : i < 23) : (s.modDie i f).dieAt i = f (s.dieAt i) :=
  vget_vmod_self _ _ f h

@[simp] theorem State.dieAt_modDie_ne (s : State) {i j : Nat} (f : Die → Die) (h : j ≠ i) : (s.modDie i f).dieAt j = s.dieAt j :=
  vget_vmod_ne _ _ f h

@[simp] theorem State.site_modSite (s : State) {i : Nat} (f : SiteOpt → SiteOpt) (h : i < 23) : (s.modSite i f).site i = f (s.site i) :=
  vget_vmod_self _ _ f h

@[simp] theorem State.site_modSite_ne (s : State) {i j : Nat} (f : SiteOpt → SiteOpt) (h : j ≠ i) : (s.modSite i f).site j = s.site j :=
  vget_vmod_ne _ _ f h

@[simp] theorem State.synth_modSynth (s : State) {i : Nat} (f : Synth → Synth) (h : i < 72) : (s.modSynth i f).synth i = f (s.synth i) :=
  vget_vmod_self _ _ f h

@[simp] theorem State.synth_modSynth_ne (s : State) {i j : Nat} (f : Synth → Synth) (h : j ≠ i) : (s.modSynth i f).synth j = s.synth j :=
  vget_vmod_ne _ _ f h

@[simp] theorem State.port_modPort (s : State) {i : Nat} (f : Port → Port) (h : i < 64) : (s.modPort i f).port i = f (s.port i) :=
  vget_vmod_self _ _ f h

@[simp] theorem State.port_modPort_ne (s : State) {i j : Nat} (f : Port → Port) (h : j ≠ i) : (s.modPort i f).port j = s.port j :=
  vget_vmod_ne _ _ f h

@[simp] theorem State.therm_modTherm (s : State) {i : Nat} (f : SiteTherm → SiteTherm) (h : i < 23) : (s.modTherm i f).therm i = f (s.therm i) :=
  vget_vmod_self _ _ f h

@[simp] theorem State.therm_modTherm_ne (s : State) {i j : Nat} (f : SiteTherm → SiteTherm) (h : j ≠ i) : (s.modTherm i f).therm j = s.therm j :=
  vget_vmod_ne _ _ f h

@[simp] theorem State.slot_modSlot (s : State) {i : Nat} (f : Slot → Slot) (h : i < 16) : (s.modSlot i f).slot i = f (s.slot i) :=
  vget_vmod_self _ _ f h

@[simp] theorem State.slot_modSlot_ne (s : State) {i j : Nat} (f : Slot → Slot) (h : j ≠ i) : (s.modSlot i f).slot j = s.slot j :=
  vget_vmod_ne _ _ f h

theorem State.anchor_modAnchor (s : State) (i : Nat) (f : Anchor → Anchor) (h : Map.wf {} s.et.anchors = true) : (s.modAnchor i f).anchor i = f (s.anchor i) :=
  Map.get_put_self _ _ _ (Map.wf_rising h)

@[simp] theorem State.anchor_modAnchor_ne (s : State) {i j : Nat} (f : Anchor → Anchor) (h : j ≠ i) : (s.modAnchor i f).anchor j = s.anchor j :=
  Map.get_put_ne _ _ _ h

theorem State.xing_modXing (s : State) (i : Nat) (f : Xing → Xing) (h : Map.wf {} s.xg.x = true) : (s.modXing i f).xing i = f (s.xing i) :=
  Map.get_put_self _ _ _ (Map.wf_rising h)

@[simp] theorem State.xing_modXing_ne (s : State) {i j : Nat} (f : Xing → Xing) (h : j ≠ i) : (s.modXing i f).xing j = s.xing j :=
  Map.get_put_ne _ _ _ h

theorem State.laneAt_modLane (s : State) (r : RegionNo) (k : Nat) (f : Lane → Lane) (h : Map.wf {} s.xg.lane = true) :
    (s.modLane r k f).laneAt r k = f (s.laneAt r k) :=
  Map.get_put_self _ _ _ (Map.wf_rising h)

@[simp] theorem State.laneAt_modLane_ne (s : State) {r q : RegionNo} {k j : Nat} (f : Lane → Lane) (h : laneKey q j ≠ laneKey r k) :
    (s.modLane r k f).laneAt q j = s.laneAt q j :=
  Map.get_put_ne _ _ _ h

@[simp] theorem State.ctrl_modCtrl (s : State) (one : Bool) (f : Ctrl → Ctrl) : (s.modCtrl one f).ctrl one = f (s.ctrl one) := by
  cases one <;> rfl

@[simp] theorem State.ctrl_modCtrl_not (s : State) (one : Bool) (f : Ctrl → Ctrl) : (s.modCtrl one f).ctrl (!one) = s.ctrl (!one) := by
  cases one <;> rfl

@[simp] theorem State.spPort_modSp (s : State) (one : Bool) (f : SpanPort → SpanPort) : (s.modSp one f).spPort one = f (s.spPort one) := by
  cases one <;> rfl

@[simp] theorem State.spPort_modSp_not (s : State) (one : Bool) (f : SpanPort → SpanPort) :
    (s.modSp one f).spPort (!one) = s.spPort (!one) := by
  cases one <;> rfl

end Sys2Proof.Machine
end

