-- ==== Sys2Proof/Tests/Slice0.lean ====
section
/-! SUPPORT. The author's own tests: an ill-formed term for each check of WellFormed, and for every statement with hypotheses one theorem
that shows, clause by clause, operands and a state that meet them all. -/
open Sys2Proof Sys2Proof.Machine Sys2Proof.Safety

namespace Sys2Proof.Tests

set_option Elab.async false

/-- An operating block: out of reset, booted, no hold, controller 0 ACTIVE and 1 STANDBY, every die RUNNING, every site OPTICAL. -/
def up : State :=
  { sys := { pkgReset := false, epoch := true, erg := 2560000, bootStep := 10, bootedAt := some 256, hold := 0, sideOut := true }
    ctl := { c0 := { st := .active, verified := true, version := 1 }, c1 := { st := .standby, verified := true, version := 1 } }
    die := { d := Vector.replicate 23 { st := .running, ungated := true, attach := 1 } }
    opt := { site := Vector.replicate 23 { state := .optical } } }

/-- A request on a mailbox. -/
def rq (m : Fin 8) (target : Nat) (p : Bytes) : Req := ⟨m, false, 1, 0, BitVec.ofNat 16 target, p⟩

/-- The same with LEVEL set. -/
def rqX (m : Fin 8) (target : Nat) (p : Bytes) : Req := ⟨m, false, 1, 1, BitVec.ofNat 16 target, p⟩

/-- A little-endian request field. -/
def f (n v : Nat) : Bytes := toLE n v

/-- The operating block at another time. -/
def at_ (t : Nat) (s : State) : State := { s with sys := { s.sys with erg := t } }

/-- One region set. -/
def setR (r : RegionNo) (g : Region) (s : State) : State := { s with reg := [(r, g)] }

/-- One long operation, in handle 0. -/
def withOp (o : LongOp) (s : State) : State := { s with mbx := { s.mbx with handle := s.mbx.handle.set 0 { op := some o } } }

/-- A long operation that MBX0 started. -/
def op0 (k : OpKind) (st : OpState) : LongOp := { kind := k, starter := some 0, st := st, start := 1000, async := true }

/-- MBX0 with a spill. -/
def spilled (n : Nat) : State := { up with mbx := { box := Vector.replicate 8 { spill := some (zeros n) } } }

/-- The operating block with its dies as given. -/
def dies (d : Die) : State := { up with die := { d := Vector.replicate 23 d } }

/-- A die fuse segment of a site, with a body of ones. -/
def fuseSeg (site : Nat) : Bytes :=
  let head := [1, BitVec.ofNat 8 site, BitVec.ofNat 8 (siteType site), 0] ++ toLE 8 (1000 + site) ++ toLE 2 64 ++ [0, 0]
  let rest := zeros 12 ++ List.replicate 32 1
  head ++ toLE 4 (crc32 (head ++ rest)) ++ rest

/-- The operating block with anchors in the first entries. -/
def anchors (as : List Anchor) : State := { up with et := { anchors := (List.range as.length).zip as } }

/-- An ACTIVE anchor of region 0, its base at cycle 0 and Erg 0, period 1 ns. -/
def anc : Anchor := { state := 2, based := true, baseTg := 32768, baseN := 512, reach := 16 }

/-- A base with five empty mode sections. -/
def base0 : Base :=
  ⟨[], 5, [], [], [(1, []), (2, []), (3, []), (4, []), (5, [])], 1, 0xFF, 0, [], [], [], false⟩

/-- The operating block under that base in mode 1, with slots as given. -/
def based (x : Slot) : State := { up with
  sys := { up.sys with bootStep := 11 }
  cfg := { base := some base0, layers := ⟨1, [], [], none⟩, slots := (Vector.replicate 16 {}).set 0 x } }

/-- A stored overlay without records. -/
def ov (st : SlotState) : Slot := { id := 7, state := st, version := 1 }

/-- A forecast word: district, base window and the first level, with VALID set. -/
def fcw (d w l : Nat) : BitVec 64 := BitVec.ofNat 64 (d + w * 2 ^ 8 + l * 2 ^ 24 + 2 ^ 56)

/-- Hawkmoth enabled. -/
def hmUp (h : Hm) : State := { up with hm := { h with ctrl := Machine.Lat.of 0x00002005 } }

/-- A plan record of a district without a model. -/
def plan0 (e : Nat) : PlanRec := ⟨e + 768, 0, true, true, false, false, 1, List.replicate 16 0⟩

/-- An image of one district without a layer. -/
def img0 (id : BitVec 16) : Image := ⟨id, true, 0, false, [3], [], [], 0⟩

/-- The operating block with its controllers as given. -/
def ctrls (a b : Ctrl) : State := { up with ctl := { c0 := a, c1 := b } }

/-- A request on MBX7 through the test port. -/
def rqT (p : Bytes) : Req := ⟨7, true, 1, 0, 0, p⟩

/-- A calibration set with eight equal points. -/
def cset : CalSet :=
  let p := [2400, 1200, 4800, 2200, 10400, 4000]
  ⟨0, 750, true, false, false, 0, 640, 1000, 64, 0, 0, List.replicate 8 ⟨p, p, 300, 300⟩⟩

/-- Region 0 under that set. -/
def calR (g : Region) (c : Cal) : State := { up with reg := [(0, g)], cal := { c with sets := [(0, some cset)] } }

/-- A run of that set's values. -/
def run0 : RunResult := ⟨[2400, 1200, 4800, 2200, 10400, 4000], 2400, 750, 8, 640, 0, false⟩

/-- An inactive oscillator in its first run. -/
def inRun : Region := { chan := { twin := .busy, st := .twinBusy }, cal := { phase := 3, oscB := true } }

/-- A tile measured: four sensors at e, eight rings at r. -/
def tileM (e r : Int) : TileMeas := ⟨List.replicate 4 (List.replicate 16 e), List.replicate 8 (some r)⟩

/-- The operating block at a ring period, the tiles as given. -/
def tiles (x : Tile) : State := at_ 262144000 { up with sns := { tile := Vector.replicate 64 x } }

/-- The operating block, every site as given. -/
def sites (x : SiteOpt) : State := { up with opt := { site := Vector.replicate 23 x } }

/-- Insertions under way. -/
def insOf (is : List Insertion) (s : State) : State := { s with opt := { s.opt with ins := is } }

/-- Measured terms of the optical network. -/
def termsOf (ts : List (Nat × Term)) (s : State) : State :=
  { s with opt := { s.opt with terms := ts.map fun (k, t) => (k, some t) } }

/-- A region that is dead in a stop. -/
def deadR : Region := { chan := { st := .dead }, stop := some ⟨3, 5, 2400, true, false⟩ }

/-- Ports and synthesizers all alike. -/
def lsU (p : Port) (y : Synth) : State :=
  { up with ls := { port := Vector.replicate 64 p, syn := Vector.replicate 72 y } }

/-- Port KSL0 as given. -/
def ksl (p : SpanPort) : State := { up with sp := { p0 := p } }

/-- A port in lock, with a peer in MONITOR and a key. -/
def kp : SpanPort := { lock := true, peer := some (9, false), key := some (zeros 16), st := 2 }

/-- A frame of that peer under that key: its MAC is what the standard's function gives. -/
def frm (type seq : Nat) (payload : Bytes) (arrival : Int) : Frame :=
  let b := [1, BitVec.ofNat 8 type] ++ toLE 2 payload.length ++ toLE 8 9 ++ toLE 8 5 ++ toLE 4 seq ++ kcv (zeros 16) ++ zeros 2 ++ payload
  ⟨b, (Config.aesCmac (zeros 16) b).take 8, arrival⟩

/-- ANNOUNCE's payload: CLASS, STEPS and GRAND_ID. -/
def ann (cls steps grand : Nat) : Bytes := [BitVec.ofNat 8 cls, BitVec.ofNat 8 steps, 0, 0] ++ toLE 8 grand ++ zeros 4

/-- A stretch loop of region 0. -/
def slR (x : StretchLoop) : State := setR 0 { sl := x } up

/-- Region 2048's and region 0's lane 0 as given. -/
def laneS (x : Lane) : State := { up with xg := { lane := [(0, x)] } }

/-- An insertion at a step, of a part of site 3's quadrant 0 or of a carrier. -/
def insAt (kind target part step : Nat) (took : Option Nat) : Insertion :=
  { insertion kind target part 0 none false false step with took := took, since := 256 }

/-- Routes of a site whose quadrant 0 is as given, the others on their own landings. -/
def rt0 (r : Route) : List Route := [r, ⟨0, 1, 1⟩, ⟨0, 2, 2⟩, ⟨0, 3, 3⟩]

/-- Lane 0 of region r, as given, its epochs alike. -/
def rlane (r : RegionNo) (x : Lane) : State := { up with xg := { lane := [(4 * r, x)] } }

/-- Regions 0 and 1 on each other's link 0, with the lanes that arrive there. -/
def linked (g0 g1 : Region) (l0 l1 : Lane) : State := { up with
  reg := [(0, { g0 with regs := { pair0 := Machine.Lat.of 0xFFFF0001 } }), (1, { g1 with regs := { pair0 := Machine.Lat.of 0xFFFF0000 } })]
  xg := { lane := [(0, l0), (4, l1)] } }

/-- Every anchor table entry in use and idle. -/
def anchorsFull : State := anchors (List.replicate 1024 anc)

/-- An ANCHOR_ADD of region 0 that may evict. -/
def rqEvict : Req := { rq 0 0 (f 2 0) with flags := 4 }

/-- Every delay of a site measured at 5. -/
def termsAll (site : Site) : List (RouteTerm × Nat) :=
  ((List.finRange 6).flatMap fun l => (List.finRange 4).map fun c => ((⟨site, 0, l, 0, c⟩ : RouteTerm), 5)) ++
  ((List.finRange 7).flatMap fun k => (List.finRange 4).map fun q => ((⟨site, 1, k, q, 0⟩ : RouteTerm), 5)) ++
  ([2, 3].flatMap fun k => (List.finRange 4).map fun q => ((⟨site, k, 0, q, 0⟩ : RouteTerm), 5))

/-- A full anchor table with one more anchor waiting beside it. -/
def anchorsBeside : State := { up with et := { anchors := ((List.range 1024).zip (List.replicate 1024 anc)) ++ [(1024, { state := 1 })] } }

/-- A firmware image of 64 words for a version. -/
def fwImg (v : Nat) : Bytes :=
  let code := List.replicate 64 (7:Byte)
  let h := [0x53,0x52,0x43,0x46] ++ toLE 2 1 ++ [1,0] ++ [BitVec.ofNat 8 v,2,3,0] ++ toLE 4 1 ++ toLE 4 64 ++ toLE 4 0 ++ toLE 4 0 ++ toLE 4 0 ++ zeros 48
  padTo 512 h ++ code
/-- A boot source with one image. -/
def env1 : BootEnv := ⟨[], [], [some (fwImg 1), none, none, none], [], [], []⟩
/-- A live update at a step. -/
def upd (st : Nat) : Update := ⟨0, st, false, 3, 1, st == 7⟩

/-- Every count of a state within what Regular allows: one entry for each. -/
def countsOf (s : State) : List (Nat × Nat) :=
  [(s.sys.hold, 5), (s.sys.erg, 2 ^ 64 - 1), (s.ev.queue.length, 64), (s.ev.log.length, 16384), (s.hm.queue.length, 4096),
    (s.sns.frames.length, 170), (s.et.wptr, 98303), (if s.sys.epoch then 0 else s.sys.erg, 0)]

/-- The tables in canonical form, in Regular's order. -/
def tablesOf (s : State) : List Bool :=
  [Map.wf Region.reset s.reg, Map.wf ({} : Xing) s.xg.x, Map.wf ({} : Lane) s.xg.lane, Map.wf ({} : Anchor) s.et.anchors,
    Map.wf none s.et.ring, Map.wf none s.opt.terms]

/-- Regular, as a check. -/
def regularB (s : State) : Bool := (countsOf s).all (fun c => c.1.ble c.2) && !(tablesOf s).contains false

/-- A state that the check passes is regular. -/
theorem regular_of (s : State) (h : regularB s = true) : Regular s := by
  have le (a b : Nat) (m : (a, b) ∈ countsOf s) : a ≤ b :=
    Nat.le_of_ble_eq_true (List.all_eq_true.mp (Bool.and_elim_left h) (a, b) m)
  have wf (b : Bool) (m : b ∈ tablesOf s) : b = true := by
    cases b with
    | true => rfl
    | false => exact absurd (List.contains_iff_mem.mpr m) (by simpa [regularB] using (Bool.and_elim_right h))
  have t : ∀ k (hk : k < 6), (tablesOf s)[k]'hk = true := fun k hk => wf _ (List.getElem_mem hk)
  have c : ∀ k (hk : k < 8), ((countsOf s)[k]'hk).1 ≤ ((countsOf s)[k]'hk).2 := fun k hk => le _ _ (List.getElem_mem hk)
  exact {
    hold := c 0 (by omega), queue := c 2 (by omega), log := c 3 (by omega), forecasts := c 4 (by omega), frames := c 5 (by omega)
    erg := Nat.lt_succ_of_le (c 1 (by omega))
    wptr := Nat.lt_succ_of_le (c 6 (by omega))
    still := fun e => Nat.le_zero.mp (by simpa [countsOf, e] using c 7 (by omega))
    regions := t 0 (by omega), crossings := t 1 (by omega), lanes := t 2 (by omega)
    anchors := t 3 (by omega), ring := t 4 (by omega), terms := t 5 (by omega) }

/-! ### Well-formedness refuses -/

/-- A region number past its site, a payload too long, a test request outside MBX7, a crossing of no class or with reserved bits. -/
theorem test_wf_operands : Instr.wf (.periodCodeLatch 224) = false ∧ Instr.wf (.regionDead (23 * 2048)) = false ∧
    Instr.wf (.regionQuery (rq 0 0 (zeros 241))) = false ∧ Instr.wf (.regionQuery ⟨3, true, 1, 0, 0, []⟩) = false ∧
    Instr.wf (.crossStall 0x00000005) = false ∧ Instr.wf (.crossTear 0x40040000) = false ∧
    Instr.wf (.regionsOwnReset [0, 224]) = false ∧ Instr.wf (.localResetExit 0x00000001 false) = false ∧
    Instr.wf (.fenceRelease (.region 224) []) = false := by decide +kernel

/-- A buffer too long or unaligned, a register address between words, lists of a wrong length. -/
theorem test_wf_lists : Instr.wf (.mbx7Req (zeros 257)) = false ∧ Instr.wf (.requestBufferWrite 0 0 [1, 2]) = false ∧
    Instr.wf (.requestBufferWrite 0 2 [1, 2, 3, 4]) = false ∧ Instr.wf (.requestBufferWrite 0 256 [1, 2, 3, 4]) = false ∧
    Instr.wf (.registerWrite .fabric 2 0) = false ∧ Instr.wf (.pkgResetNRelease ⟨[], [], [], [], [], []⟩) = false ∧
    Instr.wf (.ringPeriod []) = false ∧ Instr.wf (.ringPeriod (List.replicate 64 ⟨[], []⟩)) = false ∧
    Instr.wf (.calRunComplete 0 false (.full { run0 with periods := [1] })) = false ∧
    Instr.wf (.plannedDistrictSpare 0 [{ run0 with periods := [] }] []) = false := by decide +kernel

/-! ### Witnesses -/

/-- A table that begins with one value at each of some keys reads that value there. -/
theorem get_zip (d a : Anchor) (l : List (Nat × Anchor)) (i : Nat) :
    ∀ ks : List Nat, i ∈ ks → Map.get d (ks.zip (List.replicate ks.length a) ++ l) i = a
  | k :: ks, h => by
    simp only [List.length_cons, List.replicate_succ, List.zip_cons_cons, List.cons_append, Map.get]
    split
    · rfl
    · exact get_zip d a l i ks ((List.mem_cons.mp h).resolve_left (by assumption))

/-- No entry of a full anchor table is free, whatever stands beside it. -/
theorem freeEntry_full (s : State) (l : List (Nat × Anchor))
    (h : s.et.anchors = (List.range 1024).zip (List.replicate 1024 anc) ++ l) : s.freeEntry = none := by
  refine List.find?_eq_none.mpr fun i hi => ?_
  have g := get_zip {} anc l i (List.range 1024) hi
  rw [List.length_range] at g
  simp only [State.anchor, h, g]
  decide

/-- No entry of a full anchor table is free. -/
theorem anchorsFull_freeEntry : anchorsFull.freeEntry = none := freeEntry_full _ [] (by decide +kernel)

/-- The key check value is two bytes, whatever the standard's function gives. -/
theorem kcv_two (k : Key) : ∃ a b : Byte, kcv k = [a, b] :=
  ⟨(Config.aesCmacTag k (zeros 16))[0], (Config.aesCmacTag k (zeros 16))[1], by
    simp only [kcv, Config.aesCmac]
    obtain ⟨⟨l⟩, h⟩ := Config.aesCmacTag k (zeros 16)
    match l, h with
    | x :: y :: _, _ => rfl⟩

/-- A frame whose key check value and MAC are those of the port's key passes R391's first check. -/
theorem fault_of (p : SpanPort) (f : Frame) (k : Key) (hk : p.keys = [k]) (h1 : kcv k = slice f.bytes 24 2)
    (h2 : (Config.aesCmac k f.bytes).take 8 = f.mac) : p.fault f = if p.peer.map (·.1) ≠ some (frameSender f) then some .identity
      else if !p.freshFrame f then some .replay
      else if frameLen (frameType f) ≠ some (le f.bytes 2 2) ∨ f.bytes.length ≠ 28 + le f.bytes 2 2 then some .shape
      else none := by
  have : p.macOk f = true := by simp [SpanPort.macOk, hk, h1, h2]
  simp only [SpanPort.fault, this]; rfl

/-- A frame without a MAC fails R391's first check. -/
theorem fault_mac (p : SpanPort) (f : Frame) (k : Key) (hk : p.keys = [k]) (h : f.mac = []) : p.fault f = some .mac := by
  have h2 : Config.aesCmac k f.bytes ≠ [] := by
    intro e
    have := congrArg List.length e
    simp [Config.aesCmac] at this
  have : p.macOk f = false := by simp [SpanPort.macOk, hk, h, h2]
  simp [SpanPort.fault, this]

/-- The bytes of such a frame, its key check value written out. -/
theorem frm_bytes {a b : Byte} (h : kcv (zeros 16) = [a, b]) (t n : Nat) (pl : Bytes) (arr : Int) : (frm t n pl arr).bytes =
    [1, BitVec.ofNat 8 t] ++ toLE 2 pl.length ++ toLE 8 9 ++ toLE 8 5 ++ toLE 4 n ++ [a, b] ++ zeros 2 ++ pl := by
  simp only [frm, h]

/-- Clause 1 of SpanFrames: such a frame. -/
theorem frame_1 : ∃ (port : Fin 2) (f : Frame) (s : State),
    let one := decide (port.val = 1)
    let p := s.spPort one
    s.takes one = true ∧ p.fault f = none ∧ frameType f = 1 ∧ byteAt f.bytes 28 ≤ 3 ∧ byteAt f.bytes 29 ≤ 15 ∧
      (s.sp.root = true ∨ le f.bytes 32 8 ≠ s.ownId) := by
  obtain ⟨a, b, hab⟩ := kcv_two (zeros 16)
  have hb := frm_bytes hab 1 1 (ann 3 15 77) 0
  exact ⟨0,
    frm 1 1 (ann 3 15 77) 0,
    ksl { kp with fLoop := 3 },
    by decide +kernel,
    (fault_of _ _ (zeros 16) rfl (by rw [hab, hb]; cbv) rfl).trans
      (by simp only [frameSender, SpanPort.freshFrame, frameBoot, frameSeq, frameType, hb]; cbv),
    by simp only [frameType, hb]; cbv,
    by rw [hb]; cbv,
    by rw [hb]; cbv,
    .inr (by rw [hb]; cbv)⟩

/-- Clause 2 of SpanFrames: such a frame. -/
theorem frame_2 : ∃ (port : Fin 2) (f : Frame) (s : State),
    let one := decide (port.val = 1)
    let p := s.spPort one
    s.takes one = true ∧ p.fault f = none ∧ frameType f = 1 ∧
      (15 < byteAt f.bytes 29 ∨ 3 < byteAt f.bytes 28 ∨ (s.sp.root = false ∧ le f.bytes 32 8 = s.ownId)) ∧ p.fLoop < 7 := by
  obtain ⟨a, b, hab⟩ := kcv_two (zeros 16)
  have hb := frm_bytes hab 1 1 (ann 3 16 77) 0
  exact ⟨0,
    frm 1 1 (ann 3 16 77) 0,
    ksl { kp with fLoop := 6 },
    by decide +kernel,
    (fault_of _ _ (zeros 16) rfl (by rw [hab, hb]; cbv) rfl).trans
      (by simp only [frameSender, SpanPort.freshFrame, frameBoot, frameSeq, frameType, hb]; cbv),
    by simp only [frameType, hb]; cbv,
    .inl (by rw [hb]; cbv),
    by decide +kernel⟩

/-- Clause 3 of SpanFrames: such a frame. -/
theorem frame_3 : ∃ (port : Fin 2) (f : Frame) (k : Key) (s : State),
    let one := decide (port.val = 1)
    s.takes one = true ∧ s.stamps one = true ∧ (s.spPort one).fault f = none ∧ frameType f = 2 ∧ (s.spPort one).key = some k := by
  obtain ⟨a, b, hab⟩ := kcv_two (zeros 16)
  have hb := frm_bytes hab 2 1 (zeros 16) 65536
  exact ⟨0,
    frm 2 1 (zeros 16) 65536,
    zeros 16,
    ksl kp,
    by decide +kernel,
    by decide +kernel,
    (fault_of _ _ (zeros 16) rfl (by rw [hab, hb]; cbv) rfl).trans
      (by simp only [frameSender, SpanPort.freshFrame, frameBoot, frameSeq, frameType, hb]; cbv),
    by simp only [frameType, hb]; cbv,
    by decide +kernel⟩

/-- Clause 4 of SpanFrames: such a frame. -/
theorem frame_4 : ∃ (port : Fin 2) (f : Frame) (n : Nat) (t1 : Int) (a : Nat) (s : State),
    let one := decide (port.val = 1)
    let p := s.spPort one
    s.takes one = true ∧ s.stamps one = true ∧ p.fault f = none ∧ frameType f = 3 ∧ p.bootId = some (frameBoot f) ∧ p.probe = some (n, t1, a) ∧
      le f.bytes 28 4 = n ∧ slice f.bytes 36 16 = stampS t1 ∧ f.arrival ≤ ((a : Int) + 100000) * 65536 := by
  obtain ⟨a, b, hab⟩ := kcv_two (zeros 16)
  have hb := frm_bytes hab 3 1 (f 4 7 ++ zeros 4 ++ stampS 0 ++ stampS 65536 ++ stampS 65536) 131072
  have hs : frameSender (frm 3 1 (f 4 7 ++ zeros 4 ++ stampS 0 ++ stampS 65536 ++ stampS 65536) 131072) = 9 := by
    simp only [frameSender, hb]; cbv
  have ht : frameBoot (frm 3 1 (f 4 7 ++ zeros 4 ++ stampS 0 ++ stampS 65536 ++ stampS 65536) 131072) = 5 := by
    simp only [frameBoot, hb]; cbv
  exact ⟨0,
    frm 3 1 (f 4 7 ++ zeros 4 ++ stampS 0 ++ stampS 65536 ++ stampS 65536) 131072,
    7,
    0,
    2559000,
    ksl { kp with bootId := some 5, probe := some (7, 0, 2559000) },
    by decide +kernel,
    by decide +kernel,
    (fault_of _ _ (zeros 16) rfl (by rw [hab, hb]; cbv) rfl).trans ((if_neg (by rw [hs]; decide +kernel)).trans
      ((if_neg (by simp only [SpanPort.freshFrame, ht, frameSeq, hb]; cbv; exact Bool.false_ne_true)).trans
        (if_neg (by simp only [frameType, hb]; cbv)))),
    by simp only [frameType, hb]; cbv,
    by rw [ht]; decide +kernel,
    by decide +kernel,
    by rw [hb]; cbv,
    by rw [hb]; cbv,
    by decide +kernel⟩

/-- Clause 9 of SpanFrames: such a frame. -/
theorem frame_9 : ∃ (port : Fin 2) (f : Frame) (s : State),
    let one := decide (port.val = 1)
    let p := s.spPort one
    s.takes one = true ∧ p.fault f = some .identity ∧ (s.failList p.ident).2 = false := by
  obtain ⟨a, b, hab⟩ := kcv_two (zeros 16)
  have hb := frm_bytes hab 1 1 (ann 3 0 77) 0
  have hs : frameSender (frm 1 1 (ann 3 0 77) 0) = 9 := by
    simp only [frameSender, hb]; cbv
  exact ⟨0,
    frm 1 1 (ann 3 0 77) 0,
    ksl { kp with peer := some (10, false) },
    by decide +kernel,
    (fault_of _ _ (zeros 16) rfl (by rw [hab, hb]; cbv) rfl).trans (if_pos (by rw [hs]; decide +kernel)),
    by decide +kernel⟩


/-- The hypotheses of EmptyQueueIsOneErgEdge can be met. -/
theorem witness_EmptyQueueIsOneErgEdge :
    (∃ (s : State), s.pending = [] ∧ s.sys.epoch = false) ∧
    (∃ (s : State), s.pending = [] ∧ s.sys.epoch = true) ∧
    (∃ (s : State), Regular s ∧ s.pending = [] ∧ s.sys.epoch = true ∧ ((s.sys.erg + 1) % 2 ^ 64) % 256 ≠ 0 ∧ ((∀ m : Fin 8, (match (s.box
    m).wait with | some (.forecast _ _ _) => true | _ => false) = false)) ∧ ((∀ id ∈ heldOut, s.xState id = .whole → s.xClocked id = true ∧
    (s.xing id).wait = none))) ∧
    (∃ (s : State), s.pending = [] ∧ s.sys.epoch = true ∧ ((s.sys.erg + 1) % 2 ^ 64) % 256 = 0) :=
  ⟨⟨State.reset, by decide +kernel⟩,
  ⟨at_ (2 ^ 64 - 1) up, by decide +kernel⟩,
  ⟨setR 0 { former := { pressed := true } } up, regular_of _ (by decide +kernel), by decide +kernel⟩,
  ⟨at_ 2560255 { up with et := { slot := some ⟨2560256, 3⟩ } }, by decide +kernel⟩⟩

/-- The hypotheses of ResetValues can be met. -/
theorem witness_ResetValues :
    (∃ (r : RegionNo), validRegion r = true ∧ siteOf r ≤ 16) :=
  ⟨0, by decide +kernel⟩

/-- The hypotheses of EveryStepKeepsRegular can be met. -/
theorem witness_EveryStepKeepsRegular :
    (∃ (s : State) (t : State), step s = .next t ∧ Regular s) :=
  ⟨State.reset, State.reset, rfl, regular_of _ (by decide +kernel)⟩

/-- The hypotheses of RequestSurvivesItsBuffer can be met. -/
theorem witness_RequestSurvivesItsBuffer :
    (∃ (op : Nat) (q : Req), q.wf = true ∧ op < 65536) :=
  ⟨0x0301, rqX 5 7 (List.replicate 239 0 ++ [1]), by decide +kernel⟩

/-- The hypotheses of WhatARequestMeets can be met. -/
theorem witness_WhatARequestMeets :
    (∃ (op : Nat) (c : Cmd) (q : Req) (s : State), op < 65536 ∧ ready s op q = true) ∧
    (∃ (op : Nat) (c : Cmd) (q : Req) (s : State) (t : State) (r : Reply), op < 65536 ∧ readyDebug s op q = true ∧ c q (posted s op q) =
    .done r t) ∧
    (∃ (op : Nat) (c : Cmd) (q : Req) (s : State), s.reaches q.mbx q.test = true ∧ ((s.box q.mbx).st = .posted ∨ (s.box q.mbx).st =
    .working)) ∧
    (∃ (op : Nat) (c : Cmd) (q : Req) (s : State), op < 65536 ∧ reachesFree s q = true ∧ s.fw = false ∧ (¬(q.mbx = 7 ∧ isDebugOp op =
    true))) ∧
    (∃ (op : Nat) (c : Cmd) (q : Req) (s : State) (j : Journal), op < 65536 ∧ reachesFree s q = true ∧ (s.fw = true ∨ (q.mbx = 7 ∧ isDebugOp
    op = true)) ∧ (s.box q.mbx).journal = some j ∧ replays s op q = true) ∧
    (∃ (op : Nat) (c : Cmd) (q : Req) (s : State) (r : Reply), op < 65536 ∧ reachesFree s q = true ∧ (s.fw = true ∨ (q.mbx = 7 ∧ isDebugOp
    op = true)) ∧ replays s op q = false ∧ checkRequest (posted s op q) (q.encode op) q = some r) ∧
    (∃ (m : Fin 8) (r : Reply) (s : State), r.status < 256) :=
  ⟨⟨0x0C02, cmdDieQuery, rq 4 2 [], up, by decide +kernel⟩,
  ⟨0x0C12, cmdCtrlHalt, rqT [], ctrls {} {}, posted (ctrls {} {}) 0x0C12 (rqT []), { status := 0x50 }, by decide +kernel⟩,
  ⟨0x0C02, cmdDieQuery, rq 4 2 [], { up with mbx := { box := Vector.replicate 8 { st := .working } } }, by decide +kernel⟩,
  ⟨0x0C02, cmdDieQuery, rq 4 2 [], { up with sys := { up.sys with hold := 2 } }, by decide +kernel⟩,
  ⟨0x0C02, cmdDieQuery, rq 4 2 [],
  { up with mbx := { box := Vector.replicate 8 { journal := some ⟨trim ((rq 4 2 []).encode 0x0C02), [1, 2], false, false⟩ } } }, ⟨trim ((rq
  4 2 []).encode 0x0C02), [1, 2], false, false⟩, by decide +kernel⟩,
  ⟨0x0FFF, cmdDieQuery, rq 4 2 [], up, { status := 0x20, argOff := 0 }, by decide +kernel⟩,
  ⟨4, okReply (zeros 241), up, by decide +kernel⟩⟩

/-- The hypotheses of WindowsAreNumberedFromEpoch can be met. -/
theorem witness_WindowsAreNumberedFromEpoch :
    (∃ (s : State), s.sys.pkgReset = false ∧ s.sys.epoch = false) :=
  ⟨{ up with sys := { pkgReset := false } }, by decide +kernel⟩

/-- The hypotheses of NoLockNoEpoch can be met. -/
theorem witness_NoLockNoEpoch :
    (∃ (s : State), s.sys.pkgReset = false ∧ s.sys.epoch = false) ∧
    (∃ (s : State), s.sys.pkgReset = false ∧ s.sys.epoch = false) ∧
    (∃ (s : State), s.pending = [] ∧ s.sys.epoch = false) ∧
    (∃ (id : BitVec 10) (arg : Word) (s : State), s.sys.epoch = false) :=
  ⟨⟨{ up with sys := { pkgReset := false } }, by decide +kernel⟩,
  ⟨{ up with sys := { pkgReset := false } }, by decide +kernel⟩,
  ⟨State.reset, by decide +kernel⟩,
  ⟨6, 5, State.reset, by decide +kernel⟩⟩

/-- The hypotheses of NinthConversionIsBusy can be met. -/
theorem witness_NinthConversionIsBusy :
    (∃ (q : Req) (i : Nat) (s : State), ready s 0x0405 q = true ∧ s.anchorOf q.tgt = some i ∧ (s.anchor i).state = 2 ∧ (s.anchor i).busy = 8
    ∧ ((q.u8 0 = 0 ∧ zeroAt q.payload 16 16 = true) ∨ (q.u8 0 = 1 ∧ q.le 8 8 = 0))) :=
  ⟨rq 0 0 ([1] ++ zeros 15 ++ f 8 100), 0, anchors [{ anc with busy := 8 }], by decide +kernel⟩

/-- The hypotheses of PackageResetReleaseAndEpoch can be met. -/
theorem witness_PackageResetReleaseAndEpoch :
    (∃ (env : BootEnv) (s : State), s.sys.pkgReset = true) ∧
    (∃ (env : BootEnv) (s : State), s.sys.pkgReset = false) ∧
    (∃ (s : State), s.sys.pkgReset = false ∧ s.sys.epoch = false) ∧
    (∃ (s : State), s.sys.epoch = true ∧ s.sys.hold ≠ 0 ∧ s.sys.bootedAt = none ∧ 250000000 ≤ s.sys.erg ∧ FaultCause.bootOverrun ∉
    s.sys.mlb) :=
  ⟨⟨⟨[], [], [], [], [], []⟩, State.reset, by decide +kernel⟩,
  ⟨⟨[], [], [], [], [], []⟩, up, by decide +kernel⟩,
  ⟨{ up with sys := { pkgReset := false } }, by decide +kernel⟩,
  ⟨{ up with sys := { pkgReset := false, epoch := true, erg := 250000000 } }, by decide +kernel⟩⟩

/-- The hypotheses of DieSupplyAndOwnResets can be met. -/
theorem witness_DieSupplyAndOwnResets :
    (∃ (site : Site) (s : State), site.val ≠ 16 ∧ s.hasDie site = true ∧ (s.dieAt site).unpowered = false) ∧
    (∃ (site : Site) (s : State), Regular s ∧ (s.dieAt site).unpowered = true) ∧
    (∃ (site : Site) (s : State), Regular s ∧ site.val ≠ 16 ∧ s.hasDie site = true) ∧
    (∃ (rs : List RegionNo) (s : State), Regular s) ∧
    (∃ (id : Word) (second : Bool) (s : State), Regular s ∧ s.xExists id.toNat = true ∧ xClass id.toNat ≠ 9) :=
  ⟨⟨3, { up with sys := { up.sys with droop := [3*2048+1, 5] } }, by decide +kernel⟩,
  ⟨22, { up with die := { d := Vector.replicate 23 { st := .running, unpowered := true, ungated := true, attach := 1 } } }, regular_of _
  (by decide +kernel), by decide +kernel⟩,
  ⟨17, { up with sys := { up.sys with droop := [17*2048+1, 5] } }, regular_of _ (by decide +kernel), by decide +kernel⟩,
  ⟨[0, 17*2048], { up with sys := { up.sys with droop := [17*2048, 5] } }, regular_of _ (by decide +kernel)⟩,
  ⟨word (xId 3 0), true, { up with xg := { x := [(xId 3 0, { e1 := true })] } }, regular_of _ (by decide +kernel), by decide +kernel⟩⟩

/-- The hypotheses of TestPort can be met. -/
theorem witness_TestPort :
    (∃ (code : BitVec 8) (s : State), code.toNat ∉ tapCodes) ∧
    (∃ (s : State), s.sys.pkgReset = true) ∧
    (∃ (s : State), s.sys.pkgReset = false ∧ Map.wf {} s.xg.x = true) :=
  ⟨⟨0x7F, up, by decide +kernel⟩,
  ⟨State.reset, by decide +kernel⟩,
  ⟨up, by decide +kernel⟩⟩

/-- The hypotheses of MailboxSevenByTheTestPort can be met. -/
theorem witness_MailboxSevenByTheTestPort :
    (∃ (bs : Bytes) (s : State), s.sys.pkgReset = false ∧ s.xState (xId 11 0) = .whole) ∧
    (∃ (bs : Bytes) (s : State), s.xState (xId 11 0) ≠ .whole) ∧
    (∃ (s : State), s.xState (xId 11 1) = .whole) ∧
    (∃ (s : State), s.xState (xId 11 1) ≠ .whole) ∧
    (∃ (w : Word) (s : State), s.sys.pkgReset = false ∧ s.xState (xId 11 0) = .whole ∧ (w = 2 ∨ w = 4)) ∧
    (∃ (w : Word) (s : State), s.xState (xId 11 0) ≠ .whole) ∧
    (∃ (s : State) (op : Nat) (c : Cmd) (q : Req), command op = some c ∧ q.mbx = 7 ∧ q.test = true ∧ (s.box 7).req = trim (q.encode op) ∧
    s.xState (xId 11 0) = .whole ∧ s.xState (xId 11 1) = .whole ∧
    let u := { s with tap := { s.tap with ir := 0x22, dr := toLE 4 (s.mbxStatus 7) } }
    ready u op q = true) :=
  ⟨⟨[1, 2, 3], up, by decide +kernel⟩,
  ⟨[1, 2], { up with xg := { x := [(xId 11 0, { st := .torn })] } }, by decide +kernel⟩,
  ⟨up, by decide +kernel⟩,
  ⟨{ up with xg := { x := [(xId 11 1, { st := .torn })], shown := [(0x20F00, 7)] } }, by decide +kernel⟩,
  ⟨2, { up with mbx := { box := Vector.replicate 8 { st := .responded } } }, by decide +kernel⟩,
  ⟨2, { up with xg := { x := [(xId 11 0, { st := .torn }), (xId 11 1, { st := .torn })], shown := [(0x21074, 3)] } }, by decide +kernel⟩,
  ⟨{ up with mbx := { box := Vector.replicate 8 { req := trim (({ mbx := 7, test := true, seq := 1, flags := 0, target := 0, payload := [] } : Req).encode 0x0C02) } } },
  0x0C02, cmdDieQuery, ⟨7, true, 1, 0, 0, []⟩, rfl, by decide +kernel⟩⟩

/-- The hypotheses of DoorbellsAndErgHalves can be met. -/
theorem witness_DoorbellsAndErgHalves :
    (∃ (m : Fin 8) (off : Nat) (bs : Bytes) (s : State), s.reaches m false = true ∧ (bs.length = 4 ∨ bs.length = 8) ∧ off % bs.length = 0 ∧
    off + bs.length ≤ 256) ∧
    (∃ (s : State) (op : Nat) (c : Cmd) (q : Req), command op = some c ∧ q.test = false ∧ (s.box q.mbx).req = trim (q.encode op) ∧ ready s
    op q = true) ∧
    (∃ (m : Fin 8) (s : State), s.reaches m false = true ∧ ((s.box m).st = .posted ∨ (s.box m).st = .working)) ∧
    (∃ (m : Fin 8) (s : State), s.reaches m false = true) ∧
    (∃ (m : Fin 8) (s : State), s.reaches m false = true) ∧
    (∃ (s : State), s.windowUp = true) ∧
    (∃ (s : State), s.windowUp = true) :=
  ⟨⟨3, 248, [1, 2, 3, 4, 5, 6, 7, 8], up, by decide +kernel⟩,
  ⟨{ up with mbx := { box := Vector.replicate 8 { req := trim ((rq 2 0 []).encode 0x0C02) } } }, 0x0C02, cmdDieQuery, rq 2 0 [], rfl,
  by decide +kernel⟩,
  ⟨3, { up with mbx := { box := Vector.replicate 8 { st := .working } } }, by decide +kernel⟩,
  ⟨3, { up with mbx := { box := Vector.replicate 8 { st := .responded } } }, by decide +kernel⟩,
  ⟨7, { up with mbx := { box := Vector.replicate 8 { wrErr := true, dbErr := true } } }, by decide +kernel⟩,
  ⟨at_ 0x123456789A up, by decide +kernel⟩,
  ⟨{ up with mbx := { ergHi := 5 } }, by decide +kernel⟩⟩

/-- The hypotheses of RegistersAreWrittenAndCleared can be met. -/
theorem witness_RegistersAreWrittenAndCleared :
    (∃ (w : Word) (s : State), s.windowUp = true) ∧
    (∃ (a : Word) (w : Word) (x : Reg) (s : State), s.sys.pkgReset = false ∧ a.toNat % 4 = 0 ∧ regAt a.toNat = some x ∧ s.acceptsWord
    a.toNat w = true ∧ s.overlaid.acceptsWord a.toNat w = true) ∧
    (∃ (a : Word) (w : Word) (s : State), (s.acceptsWord a.toNat w = false ∨ s.overlaid.acceptsWord a.toNat w = false)) ∧
    (∃ (r : RegionNo) (off : Nat) (a : Word) (w : Word) (s : State), Regular s ∧ s.sys.pkgReset = false ∧ s.regionExists r = true ∧ off ∈
    [0x08, 0x0C, 0x10, 0x14, 0x18, 0x1C, 0x20, 0x24] ∧ a.toNat = 0x01000000 + r * 64 + off ∧ s.checkRgn r off w = true ∧ s.overlaid.checkRgn
    r off w = true) ∧
    (∃ (w : Word) (s : State), s.sys.pkgReset = false ∧ s.checkGlob 8 0x10 w = true) ∧
    (∃ (i : Fin 72) (override : Bool) (s : State), (s.synth i).en = true ∧ s.synthBusy i = true) ∧
    (∃ (i : Fin 72) (override : Bool) (s : State), (s.synth i).en = true ∧ s.portLive i = true ∧ s.synthBusy i = false) ∧
    (∃ (i : Fin 72) (override : Bool) (s : State), (s.synth i).en = true ∧ s.portLive i = false ∧ s.synthBusy i = false) ∧
    (∃ (i : Fin 72) (p : Nat) (s : State), p < 64 ∧ (s.synth i).port = some p ∧ s.serving p = some i.val ∧ (s.synth i).half = false ∧
    (s.synth i).pinHalf = false ∧ ((s.synth i).st = .locked ∨ (s.synth i).st = .ride) ∧ (s.port p).st ≠ .down ∧ (s.port p).rate ≠ .half) ∧
    (∃ (r : RegionNo) (s : State), s.regionExists r = true) ∧
    (∃ (r : RegionNo) (s : State), s.regionExists r = true) ∧
    (∃ (a : Nat) (s : State), s.cal.clearAt = some a ∧ s.now % 256 = 0 ∧ a < s.now) ∧
    (∃ (s : State), Regular s) ∧
    (∃ (s : State), Regular s ∧ s.xExists s.xg.sel.toNat = true ∧ xClass s.xg.sel.toNat ≠ 9) :=
  ⟨⟨0xFFF, up, by decide +kernel⟩,
  ⟨0x01000008, 0x000020F8, .rgn 1 0 8, up, by decide +kernel⟩,
  ⟨0x01000008, 0xFFFFFFFF, up, by decide +kernel⟩,
  ⟨0, 0x08, 0x01000008, 0x000010F0, up, regular_of _ (by decide +kernel), by decide +kernel⟩,
  ⟨100, up, by decide +kernel⟩,
  ⟨0, true,
  { up with ls := { port := Vector.replicate 64 { st := .live }, syn := Vector.replicate 72 { port := some 0, st := .locking } } },
  by decide +kernel⟩,
  ⟨0, true, { up with ls := { port := Vector.replicate 64 { st := .live }, syn := Vector.replicate 72 { port := some 0, st := .locked } } },
  by decide +kernel⟩,
  ⟨71, false, up, by decide +kernel⟩,
  ⟨0, 0, { up with ls := { port := Vector.replicate 64 { st := .live }, syn := Vector.replicate 72 { port := some 0, st := .locked } } },
  by decide +kernel⟩,
  ⟨0, setR 0 { overCnt := 3, rangeCnt := 4, roEvcnt := 5 } up, by decide +kernel⟩,
  ⟨45056, setR 45056 { stretchCnt := 3, roStretch := 3 } up, by decide +kernel⟩,
  ⟨2560000 - 256, { up with cal := { runs := 1, clearAt := some (2560000 - 256) } }, by decide +kernel⟩,
  ⟨{ up with xg := { stalls := 1, x := [(1, { drop := 1 })], lane := [(3, { slips := 3 })] } }, regular_of _ (by decide +kernel)⟩,
  ⟨{ up with xg := { sel := word (xId 3 0), x := [(xId 3 0, { drop := 1 })] } }, regular_of _ (by decide +kernel), by decide +kernel⟩⟩

/-- The hypotheses of FieldsAreReadAndWritten can be met. -/
theorem witness_FieldsAreReadAndWritten :
    (∃ (e : FieldCmd) (q : Req) (s : State), e ∈ fieldReads ∧ ready s e.op q = true ∧ fieldFits e.block 60 q) ∧
    (∃ (e : FieldCmd) (q : Req) (s : State), e ∈ fieldWrites ∧ ready s e.op q = true ∧ fieldFits e.block 58 q ∧ ((∀ i, i < fieldCount q →
    (posted s e.op q).acceptsNext (e.block * 2 ^ 24 + fieldOff q + 4 * i) (fieldVal q i) = true)) ∧ ((∀ i, i < fieldCount q → (posted s e.op
    q).belowMin (e.block * 2 ^ 24 + fieldOff q + 4 * i) (fieldVal q i) = false)) ∧ (posted s e.op q).writeBlock e.block (e.block * 2 ^ 24 +
    fieldOff q) (fieldCount q) = none) ∧
    (∃ (e : FieldCmd) (q : Req) (s : State) (i : Nat), e ∈ fieldWrites ∧ ready s e.op q = true ∧ fieldFits e.block 58 q ∧ i < fieldCount q ∧
    ((∀ j, j < i → (posted s e.op q).acceptsNext (e.block * 2 ^ 24 + fieldOff q + 4 * j) (fieldVal q j) = true)) ∧ (posted s e.op
    q).acceptsNext (e.block * 2 ^ 24 + fieldOff q + 4 * i) (fieldVal q i) = false) ∧
    (∃ (e : FieldCmd) (q : Req) (s : State) (i : Nat), e ∈ fieldWrites ∧ ready s e.op q = true ∧ fieldFits e.block 58 q ∧ i < fieldCount q ∧
    ((∀ j, j < fieldCount q → (posted s e.op q).acceptsNext (e.block * 2 ^ 24 + fieldOff q + 4 * j) (fieldVal q j) = true)) ∧ (posted s e.op
    q).belowMin (e.block * 2 ^ 24 + fieldOff q + 4 * i) (fieldVal q i) = true) :=
  ⟨⟨⟨0x0203, 1, .regionReadField⟩, rqX 0 0 (f 4 0 ++ f 2 60 ++ [0, 0]), up, by simp [fieldReads], by decide +kernel, ⟨by decide +kernel,
  by decide +kernel, by decide +kernel, _, rfl, by decide +kernel⟩⟩,
  ⟨⟨0x0204, 1, .regionWriteField⟩, rqX 0 0 (f 4 8 ++ f 2 2 ++ [0, 0] ++ f 4 0x000010F0 ++ f 4 0x8C5A3219), up, by simp [fieldWrites],
  by decide +kernel, ⟨by decide +kernel, by decide +kernel, by decide +kernel, _, rfl, by decide +kernel⟩, by decide +kernel⟩,
  ⟨⟨0x0204, 1, .regionWriteField⟩, rqX 0 0 (f 4 8 ++ f 2 2 ++ [0, 0] ++ f 4 0x000010F0 ++ f 4 0xFFFFFFFF), up, 1, by simp [fieldWrites],
  by decide +kernel, ⟨by decide +kernel, by decide +kernel, by decide +kernel, _, rfl, by decide +kernel⟩, by decide +kernel⟩,
  ⟨⟨0x0204, 1, .regionWriteField⟩, rqX 0 0 (f 4 4 ++ f 2 1 ++ [0, 0] ++ f 4 200), setR 0 { minCode := 240 } up, 0, by simp [fieldWrites],
  by decide +kernel, ⟨by decide +kernel, by decide +kernel, by decide +kernel, _, rfl, by decide +kernel⟩, by decide +kernel⟩⟩

/-- The hypotheses of SuspendResumeCancel can be met. -/
theorem witness_SuspendResumeCancel :
    (∃ (q : Req) (s : State) (i : Nat) (o : LongOp), ready s 0x0101 q = true ∧ (posted s 0x0101 q).opFor q = some (i, o) ∧ o.st =
    .receiving) ∧
    (∃ (q : Req) (s : State) (i : Nat) (o : LongOp), ready s 0x0101 q = true ∧ (posted s 0x0101 q).opFor q = some (i, o) ∧ o.st = .running ∧
    (o.kind = .modelLoad ∨ o.kind = .spareInsert ∨ o.kind = .fwUpdate) ∧ ((o.kind = .spareInsert → ∀ x ∈ s.opt.ins, x.handle = some i →
    x.kind = 3 → x.step < 2))) ∧
    (∃ (q : Req) (s : State) (i : Nat) (o : LongOp) (x : Insertion), ready s 0x0101 q = true ∧ (posted s 0x0101 q).opFor q = some (i, o) ∧
    o.st = .running ∧ o.kind = .spareInsert ∧ x ∈ s.opt.ins ∧ x.handle = some i ∧ x.kind = 3 ∧ 2 ≤ x.step) ∧
    (∃ (q : Req) (s : State) (i : Nat) (o : LongOp), ready s 0x0101 q = true ∧ (posted s 0x0101 q).opFor q = some (i, o) ∧ o.st = .running ∧
    o.kind = .overlayApply ∧ 4 ≤ o.step) ∧
    (∃ (q : Req) (s : State) (i : Nat) (o : LongOp), ready s 0x0101 q = true ∧ (posted s 0x0101 q).opFor q = some (i, o) ∧ o.st = .running ∧
    (o.kind = .calRun ∨ o.kind = .selftestRun)) ∧
    (∃ (q : Req) (s : State) (i : Nat) (o : LongOp), ready s 0x0102 q = true ∧ (posted s 0x0102 q).opFor q = some (i, o) ∧ o.st = .suspended
    ∧ o.wasRecv = true) ∧
    (∃ (q : Req) (s : State) (i : Nat) (o : LongOp), ready s 0x0102 q = true ∧ (posted s 0x0102 q).opFor q = some (i, o) ∧ o.st =
    .suspending) ∧
    (∃ (q : Req) (s : State) (i : Nat) (o : LongOp), ready s 0x0103 q = true ∧ (posted s 0x0103 q).opFor q = some (i, o) ∧ (o.st =
    .receiving ∨ o.st = .running ∨ o.st = .suspended) ∧ o.kind = .modelLoad) ∧
    (∃ (q : Req) (s : State) (i : Nat) (o : LongOp), ready s 0x0103 q = true ∧ (posted s 0x0103 q).opFor q = some (i, o) ∧ (o.st =
    .receiving ∨ o.st = .running ∨ o.st = .suspended ∨ o.st = .suspending) ∧ (posted s 0x0103 q).pastCancel i o = false) :=
  ⟨⟨rq 0 0 [], withOp (op0 .modelLoad .receiving) up, 0, op0 .modelLoad .receiving, by decide +kernel⟩,
  ⟨rq 0 0 [], withOp (op0 .fwUpdate .running) up, 0, op0 .fwUpdate .running, by decide +kernel⟩,
  ⟨rq 0 0 [], withOp (op0 .spareInsert .running) (insOf [{ insAt 3 0 0 2 none with handle := some 0 }] up), 0, op0 .spareInsert .running,
  { insAt 3 0 0 2 none with handle := some 0 }, by decide +kernel⟩,
  ⟨rq 0 0 [], withOp { op0 .overlayApply .running with step := 4 } up, 0, { op0 .overlayApply .running with step := 4 }, by decide +kernel⟩,
  ⟨rq 0 0 [], withOp (op0 .calRun .running) up, 0, op0 .calRun .running, by decide +kernel⟩,
  ⟨rq 0 0 [], withOp { op0 .modelLoad .suspended with wasRecv := true } up, 0, { op0 .modelLoad .suspended with wasRecv := true },
  by decide +kernel⟩,
  ⟨rq 0 0 [], withOp (op0 .calRun .suspending) up, 0, op0 .calRun .suspending, by decide +kernel⟩,
  ⟨rq 0 0 [], withOp (op0 .modelLoad .running) { up with hm := { staging := [1] } }, 0, op0 .modelLoad .running, by decide +kernel⟩,
  ⟨rq 0 0 [], withOp (op0 .calRun .running) up, 0, op0 .calRun .running, by decide +kernel⟩⟩

/-- The hypotheses of HandlesDataAndSpill can be met. -/
theorem witness_HandlesDataAndSpill :
    (∃ (q : Req) (s : State) (i : Nat) (o : LongOp), ready s 0x0104 q = true ∧ (posted s 0x0104 q).opFor q = some (i, o)) ∧
    (∃ (h : Fin 32) (s : State) (o : LongOp), (s.handle h).op = some o ∧ o.st = .cancelling) ∧
    (∃ (h : Fin 32) (s : State) (o : LongOp), (s.handle h).op = some o ∧ o.st = .receiving ∧ s.sys.hold = 0 ∧ o.timer + 100000000 ≤ s.now) ∧
    (∃ (h : Fin 32) (s : State) (o : LongOp), (s.handle h).op = some o ∧ o.st = .done ∧ o.done + 10000000000 ≤ s.now) ∧
    (∃ (q : Req) (s : State) (i : Nat) (o : LongOp), ready s 0x0105 q = true ∧ (posted s 0x0105 q).opFor q = some (i, o) ∧ o.st = .receiving
    ∧ q.le 0 4 = o.received ∧ 9 ≤ q.payload.length ∧ q.payload.length ≤ 240 ∧ o.received + (q.payload.length - 8) < o.total) ∧
    (∃ (q : Req) (s : State) (i : Nat) (o : LongOp), ready s 0x0105 q = true ∧ (posted s 0x0105 q).opFor q = some (i, o) ∧ o.st = .receiving
    ∧ q.le 0 4 ≠ o.received) ∧
    (∃ (q : Req) (s : State) (bs : Bytes), ready s 0x0106 q = true ∧ (s.box q.mbx).spill = some bs ∧ q.le 0 4 + 240 < bs.length) ∧
    (∃ (q : Req) (s : State) (bs : Bytes), ready s 0x0106 q = true ∧ (s.box q.mbx).spill = some bs ∧ q.le 0 4 < bs.length ∧ bs.length ≤ q.le
    0 4 + 240) ∧
    (∃ (q : Req) (s : State) (bs : Bytes), ready s 0x0106 q = true ∧ (s.box q.mbx).spill = some bs ∧ bs.length ≤ q.le 0 4) ∧
    (∃ (q : Req) (s : State), ready s 0x0107 q = true) :=
  ⟨⟨rq 0 0 [], withOp (op0 .calRun .done) up, 0, op0 .calRun .done, by decide +kernel⟩,
  ⟨0, withOp (op0 .calRun .cancelling) up, op0 .calRun .cancelling, by decide +kernel⟩,
  ⟨0, withOp (op0 .modelLoad .receiving) (at_ 100000000 { up with hm := { staging := [1] } }), op0 .modelLoad .receiving,
  by decide +kernel⟩,
  ⟨0, withOp (op0 .calRun .done) (at_ 10000000000 up), op0 .calRun .done, by decide +kernel⟩,
  ⟨rq 0 0 (f 8 0 ++ [7]), withOp { op0 .modelLoad .receiving with total := 4096 } up, 0, { op0 .modelLoad .receiving with total := 4096 },
  by decide +kernel⟩,
  ⟨rq 0 0 (f 8 1 ++ [7]), withOp { op0 .modelLoad .receiving with total := 4096 } up, 0, { op0 .modelLoad .receiving with total := 4096 },
  by decide +kernel⟩,
  ⟨rq 0 0 (f 4 0), spilled 241, zeros 241, by decide +kernel⟩,
  ⟨rq 0 0 (f 4 1), spilled 241, zeros 241, by decide +kernel⟩,
  ⟨rq 0 0 (f 4 241), spilled 241, zeros 241, by decide +kernel⟩,
  ⟨rq 0 0 [], spilled 241, by decide +kernel⟩⟩

/-- The hypotheses of DiesAreLost can be met. -/
theorem witness_DiesAreLost :
    (∃ (s : State), Regular s ∧ s.sys.epoch = true ∧ s.now % 256 = 64 ∧ s.die.checkAt ≠ some s.now) ∧
    (∃ (s : State), s.die.checkAt = some s.now) ∧
    (∃ (site : Site) (a : Nat) (s : State), (s.dieAt site).st = .lost ∧ (s.dieAt site).attach ≠ 2 ∧ (s.dieAt site).lostLong = false ∧
    (s.dieAt site).lostAt = some a ∧ a + 100000000 ≤ s.now) :=
  ⟨⟨at_ 2560064
  { dies { st := .running, armed := some 0, attach := 1 } with die := { d := Vector.replicate 23 { st := .running, armed := some 0, attach := 1 }, checks := 9 } },
  regular_of _ (by decide +kernel), by decide +kernel⟩,
  ⟨{ up with die := { checkAt := some 2560000 } }, by decide +kernel⟩,
  ⟨3, 0, at_ 100000000 (dies { st := .lost, lostAt := some 0 }), by decide +kernel⟩⟩

/-- The hypotheses of DiesRejoin can be met. -/
theorem witness_DiesRejoin :
    (∃ (r : RegionNo) (s : State), Regular s ∧ s.clocked r = true ∧ (s.dieAt (siteOf r)).st = .lost) ∧
    (∃ (site : Site) (fuse : Option Bytes) (terms : List (RouteTerm × Nat)) (dlanes : List (RegionNo × Nat × Nat)) (s : State), Regular s ∧
    s.fw = true ∧ (s.dieAt site).attach ≠ 2 ∧ (s.dieAt site).st = .lost ∧ (s.dieAt site).joinAt = none ∧ (s.dieAt site).fails < 3 ∧ (s.dieAt
    site).signed = true ∧ ((∀ r ∈ s.liveRegions site, s.clocked r = true))) ∧
    (∃ (site : Site) (fuse : Option Bytes) (terms : List (RouteTerm × Nat)) (dlanes : List (RegionNo × Nat × Nat)) (a : Nat) (s : State),
    s.fw = true ∧ (s.dieAt site).attach ≠ 2 ∧ (s.dieAt site).st = .rejoining ∧ (s.dieAt site).joinAt = some a ∧ (s.now < fuseRead fuse a ∨
    s.sameDie site fuse = true ∧ s.now < rejoinMeasured fuse a ∨ s.sameDie site fuse = true ∧ (∃ k ∈ s.rejoinKeys site, ∀ e ∈ terms,
    RouteTerm.key e.1 ≠ k))) ∧
    (∃ (site : Site) (fuse : Option Bytes) (terms : List (RouteTerm × Nat)) (dlanes : List (RegionNo × Nat × Nat)) (a : Nat) (s : State),
    Regular s ∧ s.fw = true ∧ (s.dieAt site).attach ≠ 2 ∧ (s.dieAt site).st = .rejoining ∧ (s.dieAt site).joinAt = some a ∧ fuseRead fuse a
    ≤ s.now ∧ rejoinMeasured fuse a ≤ s.now ∧ s.sameDie site fuse = true ∧ ((∀ k ∈ s.rejoinKeys site, ∃ e ∈ terms, RouteTerm.key e.1 = k)) ∧
    (∃ r ∈ s.liveRegions site, s.proves r = true)) ∧
    (∃ (site : Site) (fuse : Option Bytes) (terms : List (RouteTerm × Nat)) (dlanes : List (RegionNo × Nat × Nat)) (a : Nat) (s : State),
    s.fw = true ∧ (s.dieAt site).attach ≠ 2 ∧ (s.dieAt site).st = .rejoining ∧ (s.dieAt site).joinAt = some a ∧ fuseRead fuse a ≤ s.now ∧
    s.sameDie site fuse = false) ∧
    (∃ (site : Site) (a : Nat) (s : State), Regular s ∧ (s.dieAt site).st = .lost ∧ (s.dieAt site).joinAt = some a ∧ a + 16384 ≤ s.now) :=
  ⟨⟨0, dies { st := .lost, ungated := true }, regular_of _ (by decide +kernel), by decide +kernel⟩,
  ⟨22, none, [], [],
  { dies { st := .lost, ungated := true, attach := 1, signed := true } with reg := (List.range 8).map fun i => (45056 + i, { hb := { life := true } }) },
  regular_of _ (by decide +kernel), by decide +kernel⟩,
  ⟨3, some (fuseSeg 3), [], [], 2555000, dies { st := .rejoining, ungated := true, joinAt := some 2555000, serial := 1003 },
  by decide +kernel⟩,
  ⟨3, some (fuseSeg 3), termsAll 3, [], 2000000,
  { dies { st := .rejoining, ungated := true, joinAt := some 2000000, serial := 1003 } with reg := (List.range 2048).map fun i => (6144 + i, { rep := { found := true } }), sys := { up.sys with mlb := [.lostLong 3, .hold4] } },
  regular_of _ (by decide +kernel), by decide +kernel⟩,
  ⟨3, none, [], [], 2000000, dies { st := .rejoining, ungated := true, joinAt := some 2000000, serial := 7 }, by decide +kernel⟩,
  ⟨3, 2000000,
  { dies { st := .lost, ungated := true, joinAt := some 2000000, fails := 2 } with reg := [(6144, { hb := { life := true } })] }, regular_of
  _ (by decide +kernel), by decide +kernel⟩⟩

/-- The hypotheses of SideDies can be met. -/
theorem witness_SideDies :
    (∃ (site : Site) (c : UcieCaps) (s : State), s.sys.epoch = true ∧ 19 ≤ site.val ∧ (s.dieAt site).st = .absent ∧ (s.dieAt site).attach ≠
    1 ∧ s.retryDue site = true ∧ s.sideband site = true ∧ (c.gt16 = true ∨ c.gt32 = true)) ∧
    (∃ (site : Site) (c : UcieCaps) (s : State), s.sys.epoch = true ∧ 19 ≤ site.val ∧ (s.dieAt site).st = .rejoining ∧ (s.dieAt site).attach
    = 2 ∧ s.retryDue site = true ∧ s.sideband site = true ∧ (c.gt16 = true ∨ c.gt32 = true)) ∧
    (∃ (site : Site) (c : UcieCaps) (s : State), s.sys.epoch = true ∧ 19 ≤ site.val ∧ (s.dieAt site).st = .rejoining ∧ (s.dieAt site).attach
    = 2 ∧ s.retryDue site = true ∧ s.sideband site = true ∧ c.gt16 = false ∧ c.gt32 = false) ∧
    (∃ (site : Site) (s : State), (s.dieAt site).attach = 2 ∧ (s.dieAt site).st = .running ∧ s.pollDue site = true ∧ 2 ≤ (s.dieAt
    site).polls) ∧
    (∃ (site : Site) (s : State), (s.dieAt site).attach = 2 ∧ (s.dieAt site).st = .running ∧ s.pollDue site = true ∧ (s.dieAt site).polls <
    2) ∧
    (∃ (site : Site) (s : State), (s.dieAt site).attach = 2 ∧ (s.dieAt site).st = .lost ∧ s.pollDue site = true ∧ s.sideband site = true) ∧
    (∃ (site : Site) (answered : Bool) (a : Nat) (s : State), (s.dieAt site).polledAt = some a ∧ s.now < a + 1000000) ∧
    (∃ (site : Site) (caps : Option UcieCaps) (s : State), s.sideband site = false) ∧
    (∃ (site : Site) (s : State), (s.dieAt site).attach = 2 ∧ (s.dieAt site).st = .running) ∧
    (∃ (q : Req) (s : State), ready s 0x0C02 q = true ∧ q.tgt ≤ 22) ∧
    (∃ (q : Req) (s : State), ready s 0x0C02 q = true ∧ 22 < q.tgt) :=
  ⟨⟨19, ⟨true, true⟩, dies {}, by decide +kernel⟩,
  ⟨19, ⟨false, true⟩, dies { st := .rejoining, attach := 2 }, by decide +kernel⟩,
  ⟨19, ⟨false, false⟩, dies { st := .rejoining, attach := 2 }, by decide +kernel⟩,
  ⟨20, dies { st := .running, attach := 2, polls := 2 }, by decide +kernel⟩,
  ⟨20, dies { st := .running, attach := 2, polls := 1 }, by decide +kernel⟩,
  ⟨20, dies { st := .lost, attach := 2, polls := 1 }, by decide +kernel⟩,
  ⟨20, true, 2559999, dies { st := .running, attach := 2, polls := 1, polledAt := some 2559999 }, by decide +kernel⟩,
  ⟨20, some ⟨true, true⟩, { dies { st := .running, attach := 2, polls := 1 } with xg := { x := [(xId 12 20, { st := .fenced })] } },
  by decide +kernel⟩,
  ⟨20, dies { st := .running, attach := 2, polls := 1 }, by decide +kernel⟩,
  ⟨rq 5 22 [], dies { st := .lost, ungated := true, serial := 77 }, by decide +kernel⟩,
  ⟨rq 0 23 [], up, by decide +kernel⟩⟩

/-- The hypotheses of ErgLedgerAndConversions can be met. -/
theorem witness_ErgLedgerAndConversions :
    (∃ (q : Req) (s : State), ready s 0x0401 q = true) ∧
    (∃ (q : Req) (s : State), ready s 0x0406 q = true ∧ q.le 0 4 < 98304 ∧ 1 ≤ q.u8 4 ∧ q.u8 4 ≤ 14) ∧
    (∃ (q : Req) (s : State), ready s 0x0406 q = true ∧ 98304 ≤ q.le 0 4) ∧
    (∃ (q : Req) (s : State), ready s 0x0406 q = true ∧ q.le 0 4 < 98304 ∧ (q.u8 4 = 0 ∨ 14 < q.u8 4)) ∧
    (∃ (q : Req) (i : Nat) (s : State), ready s 0x0404 q = true ∧ s.anchorOf q.tgt = some i ∧ Regular s) ∧
    (∃ (q : Req) (s : State), ready s 0x0404 q = true ∧ s.anchorOf q.tgt = none) ∧
    (∃ (q : Req) (i : Nat) (s : State), ready s 0x0405 q = true ∧ s.anchorOf q.tgt = some i ∧ q.u8 0 ≤ 1 ∧ (s.anchor i).state = 2 ∧
    (s.anchor i).busy < 8 ∧ s.countBlock (s.anchor i).region = none ∧
    let tc := decide (q.u8 0 = 1)
    let x := if tc then q.le 16 8 * 32768 + q.le 24 2 / 2 else q.le 8 8
    ((tc = false → zeroAt q.payload 16 16 = true ∧ (s.anchor i).baseCycle ≤ x)) ∧ ((tc = true → q.le 8 8 = 0 ∧ (s.anchor i).baseErg ≤ x))) ∧
    (∃ (q : Req) (i : Nat) (st : Nat) (s : State), ready s 0x0405 q = true ∧ s.anchorOf q.tgt = some i ∧ q.u8 0 ≤ 1 ∧ (s.anchor i).state = 2
    ∧ (s.anchor i).busy < 8 ∧ s.countBlock (s.anchor i).region = some st ∧ ((q.u8 0 = 0 → zeroAt q.payload 16 16 = true)) ∧ ((q.u8 0 = 1 →
    q.le 8 8 = 0))) ∧
    (∃ (m : Fin 8) (i : Nat) (x : Nat) (off : Nat) (tc : Bool) (s : State), Regular s ∧ (s.box m).wait = some (.convert i tc x) ∧ (s.box
    m).st = .working ∧ (s.anchor i).based = true ∧ s.beforeBase i tc x = some off) ∧
    (∃ (m : Fin 8) (i : Nat) (x : Nat) (tc : Bool) (s : State), Regular s ∧ (s.box m).wait = some (.convert i tc x) ∧ (s.box m).st =
    .working ∧ s.beforeBase i tc x = none ∧ s.settled i tc x = true) ∧
    (∃ (m : Fin 8) (i : Nat) (x : Nat) (tc : Bool) (s : State), (s.box m).wait = some (.convert i tc x) ∧ ((s.anchor i).based = false ∨
    s.beforeBase i tc x = none) ∧ s.settled i tc x = false ∧ s.awaitsTarget i tc x = true) ∧
    (∃ (m : Fin 8) (i : Nat) (x : Nat) (tc : Bool) (s : State), Regular s ∧ (s.box m).wait = some (.convert i tc x) ∧ (s.box m).st =
    .working ∧ ((s.anchor i).based = false ∨ s.beforeBase i tc x = none) ∧ s.settled i tc x = false ∧ s.awaitsTarget i tc x = false) ∧
    (∃ (a : Anchor) (c : Nat) (s : State), s.records a = []) ∧
    (∃ (a : Anchor) (c : Nat) (k : Int) (p : Nat) (v : Nat) (len : Nat) (r : RegionNo) (cy : BitVec 48) (s : State), len < 65536 ∧
    a.baseCycle ≤ k ∧ s.records a = [⟨p, k, ⟨BitVec.ofNat 16 r, 1, v, cy, BitVec.ofNat 48 len⟩⟩]) ∧
    (∃ (a : Anchor) (x : Int) (s : State), s.records a = [] ∧ a.baseErg ≤ x ∧ 0 < a.baseTg) :=
  ⟨⟨rq 4 0 [], { up with et := { holdover := true, rack := -3 } }, by decide +kernel⟩,
  ⟨rqX 0 0 (f 4 98303 ++ [14]), up, by decide +kernel⟩,
  ⟨rqX 0 0 (f 4 98304 ++ [14]), up, by decide +kernel⟩,
  ⟨rqX 0 0 (f 4 98303 ++ [15]), up, by decide +kernel⟩,
  ⟨rq 0 0 [], 0, anchors [anc], by decide +kernel, by decide +kernel, regular_of _ (by decide +kernel)⟩,
  ⟨rq 0 1 [], anchors [anc], by decide +kernel⟩,
  ⟨rq 0 0 ([0] ++ zeros 7 ++ f 8 100), 0, anchors [anc], by decide +kernel⟩,
  ⟨rq 0 0 ([0] ++ zeros 7 ++ f 8 100), 0, 0x30, { anchors [anc] with xg := { x := [(xId 7 0, { st := .fenced })] } }, by decide +kernel⟩,
  ⟨0, 0, 100, 8, false,
  { anchors [{ anc with busy := 1, baseCycle := 500 }] with mbx := { box := Vector.replicate 8 { st := .working, wait := some (.convert 0 false 100), req := trim ((rq 0 0 ([0] ++ zeros 7 ++ f 8 100)).encode 0x0405) } } },
  regular_of _ (by decide +kernel), by decide +kernel⟩,
  ⟨0, 0, 100, false,
  { anchors [{ anc with busy := 2 }] with reg := [(0, { cycle := 2559998 })], mbx := { box := Vector.replicate 8 { st := .working, wait := some (.convert 0 false 100), req := trim ((rq 0 0 ([0] ++ zeros 7 ++ f 8 100)).encode 0x0405) } } },
  regular_of _ (by decide +kernel), by decide +kernel⟩,
  ⟨0, 0, 2559998, false,
  { anchors [{ anc with busy := 2 }] with reg := [(0, { cycle := 2559998 })], mbx := { box := Vector.replicate 8 { st := .working, wait := some (.convert 0 false 2559998), req := trim ((rq 0 0 ([0] ++ zeros 7 ++ f 8 2559998)).encode 0x0405) } } },
  by decide +kernel⟩,
  ⟨0, 0, 2559998, false,
  { anchors [{ anc with busy := 1 }] with reg := [(0, { cycle := 2559990, chan := { st := .dead, noSpare := true }, stop := some ⟨3, 2559000 * 32768, 0, false, false⟩ })], mbx := { box := Vector.replicate 8 { st := .working, wait := some (.convert 0 false 2559998), req := trim ((rq 0 0 ([0] ++ zeros 7 ++ f 8 2559998)).encode 0x0405) } } },
  regular_of _ (by decide +kernel), by decide +kernel⟩,
  ⟨anc, 77, up, by decide +kernel⟩,
  ⟨anc, 77, 50, 0, 3, 10, 0, 50, { up with et := { ring := [(0, some ⟨0, 1, 3, 50, 10⟩)], wptr := 1, written := 1 } }, by decide +kernel⟩,
  ⟨anc, 1000000, up, by decide +kernel⟩⟩

/-- The hypotheses of AnchorsComeAndGo can be met. -/
theorem witness_AnchorsComeAndGo :
    (∃ (q : Req) (i : Nat) (s : State), Regular s ∧ ready s 0x0402 q = true ∧ s.regionExists q.tgt = true ∧ q.le 0 2 ≤ 8191 ∧ (q.le 16 2 = 0
    ∨ (16 ≤ q.le 16 2 ∧ q.le 16 2 ≤ 4096)) ∧ q.u8 18 ≤ 1 ∧ (s.rgn q.tgt).chan.st ≠ .dead ∧ s.xBlock (xId 4 q.tgt) = none ∧ (q.u8 18 = 0 ∨
    (s.et.anchors.filter fun e => e.2.pinned).length < 64) ∧ s.freeEntry = some i) ∧
    (∃ (q : Req) (i : Nat) (s : State), Regular s ∧ ready s 0x0402 q = true ∧ s.regionExists q.tgt = true ∧ q.le 0 2 ≤ 8191 ∧ q.le 16 2 = 0
    ∧ q.u8 18 = 0 ∧ (s.rgn q.tgt).chan.st ≠ .dead ∧ s.xBlock (xId 4 q.tgt) = none ∧ s.freeEntry = none ∧ q.evict = true ∧ s.oldestIdle =
    some i ∧ (s.anchor 1024).state = 0) ∧
    (∃ (r : RegionNo) (j : Nat) (m : Fin 8) (s : State), Regular s ∧ (s.rgn r).capture = [1024] ∧ s.clocked r = true ∧ (s.rgn r).stop = none
    ∧ (s.rgn r).rep.found = true ∧ (s.anchor 1024).state = 1 ∧ (s.anchor 1024).region = r ∧ (s.findWait fun w => decide (w = .anchorAdd
    1024)) = some m ∧ s.freeEntry = none ∧ s.oldestIdle = some j ∧ j < 1024) ∧
    (∃ (q : Req) (s : State), ready s 0x0402 q = true ∧ s.regionExists q.tgt = true ∧ q.le 0 2 ≤ 8191 ∧ q.le 16 2 = 0 ∧ q.u8 18 = 0 ∧ (s.rgn
    q.tgt).chan.st ≠ .dead ∧ s.xBlock (xId 4 q.tgt) = none ∧ s.freeEntry = none ∧ q.evict = false) ∧
    (∃ (r : RegionNo) (i : Nat) (m : Fin 8) (s : State), Regular s ∧ (s.rgn r).capture = [i] ∧ s.clocked r = true ∧ (s.rgn r).stop = none ∧
    (s.rgn r).rep.found = true ∧ (s.anchor i).state = 1 ∧ (s.anchor i).region = r ∧ (s.findWait fun w => decide (w = .anchorAdd i)) = some m
    ∧ i < 1024) ∧
    (∃ (q : Req) (i : Nat) (s : State), Regular s ∧ ready s 0x0403 q = true ∧ s.anchorOf q.tgt = some i ∧ (s.anchor i).busy = 0) ∧
    (∃ (q : Req) (i : Nat) (s : State), ready s 0x0403 q = true ∧ s.anchorOf q.tgt = some i ∧ (s.anchor i).busy ≠ 0) :=
  ⟨⟨rq 0 0 (f 2 8191 ++ zeros 6 ++ f 8 0 ++ f 2 0 ++ [0]), 0, up, regular_of _ (by decide +kernel), by decide +kernel⟩,
  ⟨rqEvict, 0, anchorsFull, regular_of _ (by decide +kernel), by decide +kernel, by decide +kernel, by decide +kernel, by decide +kernel,
  by decide +kernel, by decide +kernel, by decide +kernel, anchorsFull_freeEntry, by decide +kernel⟩,
  ⟨0, 0, 0,
  { anchorsBeside with reg := [(0, { capture := [1024], rep := { found := true }, cycle := 5, edge := 2559999 * 32768 })], mbx := { box := (Vector.replicate 8 {}).set 0 { st := .working, wait := some (.anchorAdd 1024) } } },
  regular_of _ (by decide +kernel), by decide +kernel, by decide +kernel, by decide +kernel, by decide +kernel, by decide +kernel,
  by decide +kernel, by decide +kernel, freeEntry_full _ _ rfl, by decide +kernel⟩,
  ⟨rq 0 0 (f 2 0), anchorsFull, by decide +kernel, by decide +kernel, by decide +kernel, by decide +kernel, by decide +kernel,
  by decide +kernel, by decide +kernel, anchorsFull_freeEntry, by decide +kernel⟩,
  ⟨0, 0, 0,
  { anchors [{ state := 1 }] with reg := [(0, { capture := [0], rep := { found := true }, cycle := 5, edge := 2559999 * 32768 })], mbx := { box := (Vector.replicate 8 {}).set 0 { st := .working, wait := some (.anchorAdd 0) } } },
  regular_of _ (by decide +kernel), by decide +kernel⟩,
  ⟨rq 0 0 [], 0, { anchors [anc] with reg := [(0, { capture := [0] })] }, regular_of _ (by decide +kernel), by decide +kernel⟩,
  ⟨rq 0 0 [], 0, anchors [{ anc with busy := 1 }], by decide +kernel⟩⟩

/-- The hypotheses of AnchorsAreFolded can be met. -/
theorem witness_AnchorsAreFolded :
    (∃ (s : State), Regular s ∧ s.now % 256 = 0) ∧
    (∃ (s : State), s.now % 256 ≠ 0) ∧
    (∃ (s : State), Regular s ∧ 86016 ≤ s.unfolded ∧ s.et.pressure = false) ∧
    (∃ (s : State), s.unfolded < 86016 ∧ s.et.pressure = false) ∧
    (∃ (r : RegionNo) (s : State), Regular s) ∧
    (∃ (r : RegionNo) (i : Nat) (s : State), Regular s ∧ (s.rgn r).capture = [i] ∧ (s.anchor i).state = 2 ∧ s.clocked r = true ∧ (s.rgn
    r).stop = none ∧ (s.rgn r).rep.found = true ∧ (s.findWait fun w => decide (w = .anchorAdd i)) = none) :=
  ⟨⟨anchors [anc, { anc with busy := 1 }, { anc with reach := 20000 }, { state := 1 }, { anc with baseErg := 2560000 * 32768 }], regular_of
  _ (by decide +kernel), by decide +kernel⟩,
  ⟨at_ 5 up, by decide +kernel⟩,
  ⟨{ anchors [anc] with et := { anchors := [(0, { anc with cursor := 0 })], written := 86016, wptr := 86016 } }, regular_of _
  (by decide +kernel), by decide +kernel⟩,
  ⟨up, by decide +kernel⟩,
  ⟨0,
  { anchors [anc] with et := { anchors := [(0, anc), (1, { anc with cursor := 3 })], ring := [(0, some ⟨0, 5, 0, 50, 1⟩)], wptr := 1, written := 1 } },
  regular_of _ (by decide +kernel)⟩,
  ⟨0, 0, { anchors [anc] with reg := [(0, { capture := [0], rep := { found := true }, cycle := 5, edge := 2559999 * 32768 })] }, regular_of
  _ (by decide +kernel), by decide +kernel⟩⟩

/-- The hypotheses of ReplicasDisciplineAndCrystal can be met. -/
theorem witness_ReplicasDisciplineAndCrystal :
    (∃ (r : RegionNo) (slipped : Int) (s : State), Regular s ∧ s.clocked r = true ∧ (s.rgn r).inReset = false ∧ (s.rgn r).rep.stopped =
    false ∧ s.now % 256 = 0 ∧ (s.rgn r).rep.slotAt ≠ some s.win) ∧
    (∃ (r : RegionNo) (ok : Bool) (slipped : Int) (s : State), (s.now % 256 ≠ 0 ∨ (s.rgn r).rep.slotAt = some s.win)) ∧
    (∃ (r : RegionNo) (slipped : Int) (x : Slot1) (s : State), Regular s ∧ s.clocked r = true ∧ (s.rgn r).inReset = false ∧ (s.rgn
    r).rep.stopped = false ∧ s.now % 256 = 0 ∧ (s.rgn r).rep.slotAt ≠ some s.win ∧ s.slotAt r = some x ∧ s.replicaCount r + slipped ≠
    x.next.toNat) ∧
    (∃ (r : RegionNo) (slipped : Int) (x : Slot1) (s : State), Regular s ∧ s.clocked r = true ∧ (s.rgn r).inReset = false ∧ (s.rgn
    r).rep.stopped = false ∧ s.now % 256 = 0 ∧ (s.rgn r).rep.slotAt ≠ some s.win ∧ s.slotAt r = some x ∧ s.replicaCount r + slipped =
    x.next.toNat ∧ s.xState (xId 8 r) = .whole) ∧
    (∃ (s : State), s.et.stepAt = some s.now) ∧
    (∃ (s : State), s.sys.epoch = true ∧ s.now % 256 = 0 ∧ s.et.stepAt ≠ some s.now ∧ fld (s.et.ctrl.tick s.now).eff 1 0 = s.discSrc ∧
    s.suspended = false ∧ s.et.xtalLost = false ∧ s.et.holdover = false) ∧
    (∃ (s : State), s.sys.epoch = true ∧ s.now % 256 = 0 ∧ s.et.stepAt ≠ some s.now ∧ s.suspended = true) ∧
    (∃ (s : State), s.sys.epoch = true ∧ s.now % 256 = 0 ∧ s.et.stepAt ≠ some s.now ∧ s.et.xtalLost = true ∧ s.et.holdover = true ∧ bitOf
    (s.et.ctrl.tick s.now).eff 2 = false) ∧
    (∃ (s : State), s.sys.epoch = true ∧ s.now % 256 = 0 ∧ s.et.stepAt ≠ some s.now ∧ s.et.xtalLost = true ∧ s.et.holdover = true ∧ fld
    (s.et.ctrl.tick s.now).eff 1 0 = s.discSrc ∧ bitOf (s.et.ctrl.tick s.now).eff 2 = true ∧ s.suspended = false ∧ (s.eligible s.sp.p0 =
    true ∨ s.eligible s.sp.p1 = true)) ∧
    (∃ (a : Nat) (s : State), s.et.idleFrom = some a ∧ a + 1000000000 ≤ s.now) ∧
    (∃ (s : State), s.sys.pkgReset = false ∧ s.et.xtalLost = false) ∧
    (∃ (s : State), s.sys.pkgReset = false ∧ s.et.xtalLost = true) ∧
    (∃ (s : State) (at0 : Nat), s.et.xtalLost = true ∧ s.et.lossAt = some at0 ∧ at0 + 10000000 ≤ s.now) :=
  ⟨⟨0, 3, up, regular_of _ (by decide +kernel), by decide +kernel⟩,
  ⟨0, true, 3, at_ 2560001 up, by decide +kernel⟩,
  ⟨0, 0, ⟨2560000, 0⟩, setR 0 { rep := { found := true, skew := 5 }, stop := some ⟨0, 1, 1, false, false⟩ }
  { up with et := { slot := some ⟨2560256, 0⟩, prevSlot := some ⟨2560000, 0⟩ } }, regular_of _ (by decide +kernel), by decide +kernel⟩,
  ⟨0, 0, ⟨2560000, 0⟩, setR 0 { rep := { found := true } } { up with et := { slot := some ⟨2560256, 0⟩, prevSlot := some ⟨2560000, 0⟩ } },
  regular_of _ (by decide +kernel), by decide +kernel⟩,
  ⟨{ up with et := { stepAt := some 2560000 } }, by decide +kernel⟩,
  ⟨{ up with et := { rack := 100000, rackTo := some 50000, rate := 5, rateTo := 100 } }, by decide +kernel⟩,
  ⟨{ up with sys := { up.sys with hold := 2 }, et := { rack := 5, rackTo := some 50000 } }, by decide +kernel⟩,
  ⟨{ up with et := { xtalLost := true, holdover := true, ctrl := Machine.Lat.of 0x01000400 } }, by decide +kernel⟩,
  ⟨{ up with et := { xtalLost := true, holdover := true }, sp := { p0 := { peer := some (7, false), st := 3, lock := true, proto := 1, rank := some ⟨1, 7, 1⟩, annAt := some 2559000, count := 16 } } },
  by decide +kernel⟩,
  ⟨0, at_ 1000000000 up, by decide +kernel⟩,
  ⟨up, by decide +kernel⟩,
  ⟨{ up with et := { xtalLost := true, holdover := true, lossAt := some 0 } }, by decide +kernel⟩,
  ⟨{ up with sys := { up.sys with erg := 25600000 }, et := { xtalLost := true, holdover := true, lossAt := some 0 } }, 0,
  by decide +kernel⟩⟩

/-- The hypotheses of FencesTakeEffect can be met. -/
theorem witness_FencesTakeEffect :
    (∃ (e : Fence) (es : List Fence) (s : State), s.cfg.fences = e :: es ∧ e.f ≤ s.now) ∧
    (∃ (e : Fence) (es : List Fence) (s : State), s.cfg.fences = e :: es ∧ s.now < e.f) :=
  ⟨⟨⟨2560000, .overlay 7 0, ⟨1, [], [(7, 1, 1, [])], none⟩, some (0, ov .stored, ov .stored), false, 0⟩, [],
  { based (ov .awaiting) with mbx := { handle := (Vector.replicate 32 {}).set 0 { op := some { op0 .overlayApply .running with step := 4 } } }, cfg := { (based (ov .awaiting)).cfg with fences := [⟨2560000, .overlay 7 0, ⟨1, [], [(7, 1, 1, [])], none⟩, some (0, ov .stored, ov .stored), false, 0⟩] } },
  by decide +kernel⟩,
  ⟨⟨2560001, .boot, ⟨1, [], [], none⟩, none, false, 0⟩, [],
  { based {} with cfg := { (based {}).cfg with fences := [⟨2560001, .boot, ⟨1, [], [], none⟩, none, false, 0⟩] } }, by decide +kernel⟩⟩

/-- The hypotheses of ChangesAreArmed can be met. -/
theorem witness_ChangesAreArmed :
    (∃ (q : Req) (i : Nat) (k : Nat) (s : State), ready s 0x0A02 q = true ∧ q.level = false ∧ s.slotOf (q.le 0 2) = some k ∧ q.le 4 4 = 0 ∧
    (s.slot k).state = .stored ∧ s.changing = false ∧ s.freeHandle (decide (q.mbx = 7)) = some i) ∧
    (∃ (q : Req) (i : Nat) (s : State), ready s 0x0A02 q = true ∧ q.level = true ∧ q.le 0 2 = 0 ∧ 1 ≤ q.le 4 4 ∧ q.le 4 4 ≤ 12288 ∧
    s.changing = false ∧ s.freeHandle (decide (q.mbx = 7)) = some i) ∧
    (∃ (v : State) (h : Nat) (k : Nat) (x : Slot) (o : LongOp), v.slotOf x.id = some k ∧ (v.handle h).op = some o) ∧
    (∃ (q : Req) (s : State), ready s 0x0A03 q = true ∧
    let v := posted s 0x0A03 q
    let l := v.nextLayers
    let n := v.withoutOverlay l (q.le 0 2)
    let f := v.fenceTime 20000
    q.le 0 2 ≠ 0 ∧ v.layerHas l (q.le 0 2) = true ∧ v.changing = false ∧ v.passes l n true = true) ∧
    (∃ (q : Req) (b : Base) (rs : List Rec) (s : State), ready s 0x0A04 q = true ∧
    let v := posted s 0x0A04 q
    let l := v.nextLayers
    let m := q.u8 0
    let n : Layers := { l with mode := m, modeRecs := rs }
    let f := v.fenceTime 20000
    1 ≤ m ∧ m ≤ 5 ∧ v.changing = false ∧ s.cfg.base = some b ∧ ((b.modes.find? (·.1 == m)).map (·.2)) = some rs ∧ (m = 5 ∨ v.limpTrigger =
    none)) ∧
    (∃ (q : Req) (s : State), ready s 0x0A01 q = true) ∧
    (∃ (tr : Nat) (s : State), s.limpTrigger = some tr ∧ s.active.isSome = true ∧ s.sys.bootStep = 11 ∧ s.sys.hold = 0 ∧ s.nextLayers.mode ≠
    5 ∧ s.passes s.nextLayers (s.limpLayers s.nextLayers) false = true ∧ s.cfg.fences = []) ∧
    (∃ (tr : Nat) (s : State), s.limpTrigger = some tr ∧ s.active.isSome = true ∧ s.sys.bootStep = 11 ∧ s.sys.hold ≠ 0 ∧ s.nextLayers.mode ≠
    5 ∧ s.sys.limpDue = 0) ∧
    (∃ (a : Nat) (s : State), s.sns.severe = some a ∧ a + 1000000000 ≤ s.now ∧ s.active.isSome = true ∧ s.sys.bootStep = 11 ∧ s.sys.hold = 0
    ∧ s.nextLayers.mode ≠ 5 ∧ s.passes s.nextLayers (s.limpLayers s.nextLayers) false = true ∧ s.cfg.fences = []) ∧
    (∃ (k : Fin 16) (s : State), (s.slot k).state = .stored) ∧
    (∃ (k : Fin 16) (s : State), ((s.slot k).state = .inForce ∨ (s.slot k).state = .awaiting)) ∧
    (∃ (s : State), (s.cfg.base = none ∨ s.rereads = true ∨ s.cfg.lost = true)) ∧
    (∃ (b : Base) (s : State), s.cfg.base = some b ∧ s.rereads = false ∧ s.cfg.lost = false) :=
  ⟨⟨rq 0 0 (f 2 7), 0, 0, based (ov .stored), by decide +kernel⟩,
  ⟨rqX 0 0 (f 2 0 ++ [0, 0] ++ f 4 12288), 0, based (ov .stored), by decide +kernel⟩,
  ⟨withOp (op0 .overlayApply .running) (based (ov .stored)), 0, 0, ov .stored, op0 .overlayApply .running, by decide +kernel⟩,
  ⟨rq 0 0 (f 2 7), { based (ov .inForce) with cfg := { (based (ov .inForce)).cfg with layers := ⟨1, [], [(7, 1, 1, [])], none⟩ } },
  by decide +kernel⟩,
  ⟨rq 0 0 [2], base0, [], based {}, by decide +kernel⟩,
  ⟨rq 5 0 [], based (ov .inForce), by decide +kernel⟩,
  ⟨1, { based {} with sys := { (based {}).sys with limp1 := true } }, by decide +kernel⟩,
  ⟨3, { based {} with sys := { (based {}).sys with limp3 := true, hold := 2 } }, by decide +kernel⟩,
  ⟨0, at_ 1000000000 { based {} with sns := { severe := some 0 } }, by decide +kernel⟩,
  ⟨0, based (ov .stored), by decide +kernel⟩,
  ⟨0, based (ov .inForce), by decide +kernel⟩,
  ⟨up, by decide +kernel⟩,
  ⟨base0, based {}, by decide +kernel⟩⟩

/-- The hypotheses of ForecastsArriveAndMerge can be met. -/
theorem witness_ForecastsArriveAndMerge :
    (∃ (die : Fin 8) (x : BitVec 64) (s : State), s.clocked (regionNo die.val 0) = true ∧ s.xState (xId 6 (wordDistrict x * 256 + die.val))
    = .whole ∧ s.fqAt (wordDistrict x) die = [] ∧ s.fqRoom = true) ∧
    (∃ (die : Fin 8) (x : BitVec 64) (s : State), s.clocked (regionNo die.val 0) = true ∧ s.xState (xId 6 (wordDistrict x * 256 + die.val))
    = .whole ∧ (s.fqAt (wordDistrict x) die ≠ [] ∨ s.fqRoom = false)) ∧
    (∃ (die : Fin 8) (x : BitVec 64) (s : State), s.clocked (regionNo die.val 0) = true ∧
    let id := xId 6 (wordDistrict x * 256 + die.val)
    s.xState id ≠ .whole) ∧
    (∃ (d : Fin 256) (a : Nat) (s : State), Map.get none s.hm.lastAcc d = some a ∧ a + s.fcStale ≤ s.win) ∧
    (∃ (x : BitVec 64) (y : BitVec 64) (w : Int) (v : Int) (rest : List (BitVec 64 × Int)) (s : State), s.hm.queue = (x, w) :: (y, v) ::
    rest) ∧
    (∃ (x : BitVec 64) (w : Int) (s : State), Map.wf 0 s.hm.board = true) ∧
    (∃ (q : Req) (s : State), ready s 0x0301 q = true ∧ s.hmOn = true ∧ q.payload.length = 8 ∧ arrival s.win (BitVec.ofNat 64 (q.le 0 8)) ≠
    .reject ∧ arrival s.win (BitVec.ofNat 64 (q.le 0 8)) ≠ .stale ∧ s.fqFull (wordDistrict (BitVec.ofNat 64 (q.le 0 8))) = false ∧ s.fqRoom
    = true) ∧
    (∃ (q : Req) (s : State), ready s 0x0301 q = true ∧ s.hmOn = true ∧ q.payload.length = 8 ∧ arrival s.win (BitVec.ofNat 64 (q.le 0 8)) ≠
    .reject ∧ (s.fqFull (wordDistrict (BitVec.ofNat 64 (q.le 0 8))) = true ∨ s.fqRoom = false)) ∧
    (∃ (q : Req) (s : State), ready s 0x0301 q = true ∧ s.hmOn = true ∧ q.payload.length = 8 ∧ arrival s.win (BitVec.ofNat 64 (q.le 0 8)) =
    .reject) :=
  ⟨⟨0, fcw 3 10000 5, hmUp {}, by decide +kernel⟩,
  ⟨0, fcw 3 10000 5, { hmUp {} with xg := { fq := [(24, [fcw 3 10000 4])] } }, by decide +kernel⟩,
  ⟨0, fcw 3 10000 5, { hmUp {} with xg := { x := [(xId 6 768, { st := .fenced })] } }, by decide +kernel⟩,
  ⟨3, 9900, hmUp { lastAcc := [(3, some 9900)] }, by decide +kernel⟩,
  ⟨fcw 3 10000 5, fcw 4 10001 7, 10000, 10001, [], hmUp { head := 4095, queue := [(fcw 3 10000 5, 10000), (fcw 4 10001 7, 10001)] },
  by decide +kernel⟩,
  ⟨fcw 3 9999 5, 9999, hmUp { board := [(2560003, 9)] }, by decide +kernel⟩,
  ⟨rq 4 0 (f 8 (fcw 3 10000 5).toNat), hmUp {}, by decide +kernel⟩,
  ⟨rq 4 0 (f 8 (fcw 3 10000 5).toNat), { hmUp {} with xg := { fq := [(24, List.replicate 16 (fcw 3 10000 4))] } }, by decide +kernel⟩,
  ⟨rq 4 0 (f 8 0), hmUp {}, by decide +kernel⟩⟩

/-- The hypotheses of EvaluationsBegin can be met. -/
theorem witness_EvaluationsBegin :
    (∃ (bad : List (BitVec 16)) (s : State), s.sys.epoch = true ∧ s.now % 512 = 0 ∧ ((∀ w, s.hm.next = some w → w.e ≠ s.now))) ∧
    (∃ (d : Nat) (s : State), d ∉ s.hm.gap ∧ followed s.hm.images d = none) ∧
    (∃ (d : Nat) (x : Image) (s : State), d ∉ s.hm.gap ∧ followed s.hm.images d = some x ∧ s.isStale d = false ∧ x.state ≠ 1 ∧ s.hm.failed =
    []) ∧
    (∃ (base : Nat) (g : Nat) (h : Nat) (ts : List (Nat × Nat)), 0 < g ∧ g ≤ h) :=
  ⟨⟨[], hmUp {}, by decide +kernel⟩,
  ⟨3, hmUp {}, by decide +kernel⟩,
  ⟨3, img0 9, hmUp { images := [img0 9], lastAcc := [(3, some 10000)] }, by decide +kernel⟩,
  ⟨100, 160, 320, [(1000, 5), (2000, 9)], by decide +kernel⟩⟩

/-- The hypotheses of PlansAreFlippedAndCaptured can be met. -/
theorem witness_PlansAreFlippedAndCaptured :
    (∃ (w : PlanWord) (v : Eval) (s : State), s.hm.next = some w ∧ w.e + 448 ≤ s.now ∧ s.inHold = false ∧ bitOf s.hm.ctrl.img 0 = true ∧
    s.hm.eval = some v ∧ v.recs.length ≤ 256 ∧ Map.wf none s.hm.back = true ∧ Map.wf none s.hm.last = true ∧ ((∀ d, d < v.done → Map.get
    none s.hm.back d = (v.recs[d]?).map (·.1)))) ∧
    (∃ (w : PlanWord) (s : State), s.hm.next = some w ∧ w.e + 448 ≤ s.now ∧ (s.inHold = true ∨ bitOf s.hm.ctrl.img 0 = false) ∧
    s.hm.eval.isSome = true) ∧
    (∃ (r : RegionNo) (w : PlanWord) (x : PlanWord) (s : State), Regular s ∧ s.hm.next = some w ∧ w.e + 448 ≤ s.now ∧ s.hm.word = some x ∧
    x.e ≠ w.e ∧ s.regionExists r = true ∧ s.planWaits r = true ∧ (s.rgn r).planTx = none ∧ s.xState (xId 4 r) = .whole) ∧
    (∃ (d : Fin 256) (v : Eval) (s : State), s.hm.eval = some v ∧ v.e + 447 ≤ s.now ∧ v.recs.length = 256) ∧
    (∃ (r : RegionNo) (w : PlanWord) (p : PlanRec) (s : State), Regular s ∧ s.hm.word = some w ∧ (s.rgn r).planTx = none ∧ w.void = false ∧
    s.captures r = true ∧ s.frontRec (districtOf r) = some p ∧ p.win0Erg = w.e + 768) ∧
    (∃ (r : RegionNo) (x : PlanXfer) (s : State), Regular s ∧ (s.rgn r).planTx = some x ∧ s.captures r = true) ∧
    (∃ (r : RegionNo) (w : PlanWord) (s : State), Regular s ∧ s.hm.word = some w ∧ (s.rgn r).planTx = none ∧ w.void = true ∧ s.captures r =
    true ∧ (s.rgn r).plans ≠ []) :=
  ⟨⟨⟨2559488, true, 256, []⟩, ⟨2559488, 0, [(plan0 2559488, 3)]⟩, hmUp
  { next := some ⟨2559488, true, 256, []⟩, eval := some ⟨2559488, 0, [(plan0 2559488, 3)]⟩, back := [(1, some (plan0 5))] },
  by decide +kernel⟩,
  ⟨⟨2559488, true, 256, []⟩,
  { up with hm := { next := some ⟨2559488, true, 256, []⟩, eval := some ⟨2559488, 0, [(plan0 2559488, 3)]⟩, back := [(1, some (plan0 5))] } },
  by decide +kernel⟩,
  ⟨8, ⟨2559488, true, 256, []⟩, ⟨2558976, false, 300, []⟩,
  { up with hm := { next := some ⟨2559488, true, 256, []⟩, word := some ⟨2558976, false, 300, []⟩, eval := some ⟨2559488, 0, [(plan0 2559488, 3)]⟩ } },
  regular_of _ (by decide +kernel), by decide +kernel⟩,
  ⟨200, ⟨2559488, 3, List.replicate 256 (plan0 2559488, 0)⟩, hmUp { eval := some ⟨2559488, 3, List.replicate 256 (plan0 2559488, 0)⟩ },
  by decide +kernel⟩,
  ⟨8, ⟨2559488, false, 300, []⟩, plan0 2559488,
  { hmUp { word := some ⟨2559488, false, 300, []⟩, front := [(1, some (plan0 2559488))] } with reg := [(8, { plans := [⟨9, [], 5⟩, ⟨8, [], 3⟩] })] },
  regular_of _ (by decide +kernel), by decide +kernel⟩,
  ⟨8, ⟨⟨2558976, false, 300, []⟩, none, 2559424⟩, setR 8 { planTx := some ⟨⟨2558976, false, 300, []⟩, none, 2559424⟩ } up, regular_of _
  (by decide +kernel), by decide +kernel⟩,
  ⟨8, ⟨2559488, true, 300, []⟩,
  { hmUp { word := some ⟨2559488, true, 300, []⟩ } with reg := [(8, { plans := [⟨9, [], 5⟩, ⟨8, [], 3⟩], win := 5, trim := 7 })] },
  regular_of _ (by decide +kernel), by decide +kernel⟩⟩

/-- The hypotheses of ColumnsModelsAndMode can be met. -/
theorem witness_ColumnsModelsAndMode :
    (∃ (s : State), s.hm.running = true ∧ bitOf s.hm.ctrl.eff 2 = true ∧ 448 ≤ s.now % 512 ∧ s.now % 512 ≤ 479 ∧ s.hm.testedAt ≠ some (s.now
    - s.now % 512)) ∧
    (∃ (pass : Bool) (s : State), (s.now % 512 < 448 ∨ 479 < s.now % 512 ∨ s.hm.testedAt = some (s.now - s.now % 512))) ∧
    (∃ (s : State), s.hm.running = true ∧ bitOf s.hm.ctrl.eff 2 = true ∧ 448 ≤ s.now % 512 ∧ s.now % 512 ≤ 479 ∧ s.hm.testedAt ≠ some (s.now
    - s.now % 512) ∧ s.hm.exhausted = false ∧ s.hm.testCol < 64 ∧ s.hm.testCol ≠ s.hm.map0 ∧ s.hm.testCol ≠ s.hm.map1 ∧ s.hm.testCol ∉
    s.hm.failed) ∧
    (∃ (c : Nat) (j : Nat) (rest : List Nat) (s : State), s.hm.failed = c :: rest ∧ s.hm.freeColumn = some j ∧ s.fw = true ∧ s.now % 512 =
    0) ∧
    (∃ (x : Image) (h : Nat) (a : Nat) (o : LongOp) (s : State), s.hm.ready = some (x, h, a) ∧ s.now % 512 = 0 ∧ (s.handle h).op = some o ∧
    o.st = .running ∧ a < s.now ∧ s.sys.hold = 0) ∧
    (∃ (q : Req) (i : Nat) (s : State), ready s 0x0304 q = true ∧ q.level = true ∧ 128 ≤ q.le 0 4 ∧ q.le 0 4 ≤ 262144 ∧ ((s.findOp fun o =>
    decide (o.kind = .modelLoad ∨ o.kind = .fwUpdate)) = none) ∧ s.freeHandle (decide (q.mbx = 7)) = some i) ∧
    (∃ (q : Req) (s : State), ready s 0x0305 q = true ∧ ((s.findOp fun o => decide (o.kind = .modelLoad ∧ o.target = (BitVec.ofNat 16 (q.le
    0 2)).toNat ∧ o.target ≠ 0)) = none) ∧ (∃ x ∈ s.hm.images, x.id = BitVec.ofNat 16 (q.le 0 2))) ∧
    (∃ (q : Req) (s : State), ready s 0x0302 q = true ∧ q.u8 0 ≤ 1 ∧ ((q.u8 0 = 1 → s.hm.exhausted = false))) ∧
    (∃ (q : Req) (s : State), ready s 0x0303 q = true ∧ q.u8 0 = 1 ∧ q.tgt ≤ 255) :=
  ⟨⟨at_ 2560448 (hmUp { running := true, testCol := 65 }), by decide +kernel⟩,
  ⟨true, up, by decide +kernel⟩,
  ⟨at_ 2560448 (hmUp { running := true, testCol := 63 }), by decide +kernel⟩,
  ⟨5, 0, [6], hmUp { failed := [5, 6] }, by decide +kernel⟩,
  ⟨img0 9, 0, 2559999, op0 .modelLoad .running, withOp (op0 .modelLoad .running) (hmUp
  { ready := some (img0 9, 0, 2559999), images := [img0 9, img0 10] }), by decide +kernel⟩,
  ⟨rqX 0 0 (f 4 262144), 0, hmUp { staging := [1] }, by decide +kernel⟩,
  ⟨rq 0 0 (f 2 9), hmUp { images := [img0 9] }, by decide +kernel⟩,
  ⟨rqX 0 0 [1, 255], hmUp {}, by decide +kernel⟩,
  ⟨rq 0 3 [1], hmUp { images := [img0 9], front := [(3, some (plan0 0))] }, by decide +kernel⟩⟩

/-- The hypotheses of ControllersAndHold can be met. -/
theorem witness_ControllersAndHold :
    (∃ (c : Fin 2) (why : FaultKind) (s : State), s.sys.epoch = true ∧ s.cfg.update = none ∧ (s.ctrl (ctrlOf c)).st = .active ∧ ((why =
    .heartbeat → (s.ctrl (ctrlOf c)).beat + 30000 ≤ s.now))) ∧
    (∃ (c : Fin 2) (s : State), s.now < (s.ctrl (ctrlOf c)).beat + 30000) ∧
    (∃ (c : Fin 2) (s : State), ((s.ctrl (ctrlOf c)).st = .active ∨ (s.ctrl (ctrlOf c)).st = .standby) ∧ s.xState (xId 3 (if ctrlOf c then 5
    else 3)) = .whole) ∧
    (∃ (c : Fin 2) (s : State), ((s.ctrl (ctrlOf c)).st = .active ∨ (s.ctrl (ctrlOf c)).st = .standby) ∧ s.xState (xId 3 (if ctrlOf c then 5
    else 3)) ≠ .whole) ∧
    (∃ (s : State), s.fw = true) ∧
    (∃ (s : State), s.fw = false) ∧
    (∃ (s : State), s.active.isSome = true ∧ s.sys.hold ≠ 0 ∧ s.sys.released = none ∧ 10 ≤ s.sys.bootStep) ∧
    (∃ (a : Nat) (s : State), s.sys.hold ≠ 0 ∧ s.sys.released = some a ∧ a < s.now ∧ s.now % 512 = 0) ∧
    (∃ (s : State), s.now % 512 ≠ 0) ∧
    (∃ (s : State), s.sys.hold = 2 ∧ s.sys.overrun = false ∧ s.sys.causeFrom + 200000000 ≤ s.now) :=
  ⟨⟨0, .illegal, up, by decide +kernel⟩,
  ⟨0, ctrls { st := .active, beat := 2530001 } {}, by decide +kernel⟩,
  ⟨1, up, by decide +kernel⟩,
  ⟨1, { up with xg := { x := [(xId 3 5, { st := .torn })] } }, by decide +kernel⟩,
  ⟨{ dies { st := .rejoining, joinAt := some 5, ungated := true } with mbx := { box := Vector.replicate 8 { st := .working } }, hm := { next := some ⟨5, false, 256, []⟩ } },
  by decide +kernel⟩,
  ⟨{ up with sys := { up.sys with hold := 2 } }, by decide +kernel⟩,
  ⟨{ ctrls { st := .active } { st := .faulted } with sys := { up.sys with hold := 3 } }, by decide +kernel⟩,
  ⟨2559999,
  { up with sys := { up.sys with hold := 3, released := some 2559999, mlb := [.hold4, .bootOverrun], bootStep := 10, bootedAt := none } },
  by decide +kernel⟩,
  ⟨at_ 256 up, by decide +kernel⟩,
  ⟨at_ 200000000 { up with sys := { up.sys with hold := 2 } }, by decide +kernel⟩⟩

/-- The hypotheses of FirmwareIsLoaded can be met. -/
theorem witness_FirmwareIsLoaded :
    (∀ img : Bytes, pickFw [some img, none, none, none] = some img → ∃ (bs : Bytes) (s : State), (s.ctrl false).st = .loading ∧ (s.ctrl
    false).copying = false ∧ (s.ctrl false).verified = false ∧ (s.ctrl false).bootFail = false ∧ s.sys.bootStep = 4 ∧ pickFw s.bootImages =
    some bs) ∧
    (∃ (selfTest : Bool) (s : State), (s.ctrl false).st = .loading ∧ (s.ctrl false).copying = false ∧ (s.ctrl false).verified = false ∧
    (s.ctrl false).bootFail = false ∧ s.sys.bootStep = 4 ∧ (pickFw s.bootImages = none ∨ selfTest = false)) ∧
    (∀ img : Bytes, pickFw [some img, none, none, none] = some img → ∃ (c : Fin 2) (bs : Bytes) (s : State), (s.ctrl (ctrlOf c)).st =
    .loading ∧ (s.ctrl (ctrlOf c)).copying = false ∧ (s.ctrl (ctrlOf c)).verified = false ∧ (s.ctrl (ctrlOf c)).bootFail = false ∧ 4 <
    s.sys.bootStep ∧ pickFw s.bootImages = some bs) ∧
    (∃ (c : Fin 2) (s : State), (s.ctrl (ctrlOf c)).st = .loading ∧ (s.ctrl (ctrlOf c)).copying = true ∧ (s.ctrl (!(ctrlOf c))).st =
    .active) ∧
    (∃ (c : Fin 2) (s : State), (s.ctrl (ctrlOf c)).st = .loading ∧ (s.ctrl (ctrlOf c)).bootFail = false ∧ (s.ctrl (ctrlOf c)).copying =
    true ∧ (s.ctrl (!(ctrlOf c))).st = .active ∧ bitOf s.ctl.ctrl 0 = true) ∧
    (∃ (c : Fin 2) (s : State), (s.ctrl (ctrlOf c)).st = .loading ∧ (s.ctrl (ctrlOf c)).bootFail = false ∧ (s.ctrl (ctrlOf c)).copying =
    false ∧ (s.ctrl (ctrlOf c)).verified = true ∧ bitOf s.ctl.ctrl 0 = true ∧ s.sys.hold = 4 ∧ s.active = none) ∧
    (∃ (c : Fin 2) (a : Nat) (s : State), (s.ctrl (ctrlOf c)).st = .loading ∧ (s.ctrl (ctrlOf c)).loadFrom = some a ∧ a + 40000000 ≤ s.now)
    ∧
    (∃ (c : Fin 2) (s : State), (s.ctrl (ctrlOf c)).st = .loading ∧ (s.ctrl (ctrlOf c)).copying = true ∧ (s.ctrl (!(ctrlOf c))).st ≠
    .active) :=
  ⟨(fun img h => ⟨img,
  { ctrls {} {} with sys := { up.sys with bootStep := 4, env := ⟨[], [], [some img, none, none, none], [], [], []⟩, hold := 1 } }, rfl, rfl,
  rfl, rfl, rfl, h⟩),
  ⟨true, { ctrls {} { bootFail := true } with sys := { up.sys with bootStep := 4, hold := 1 } }, by decide +kernel⟩,
  (fun img h => ⟨1, img,
  { ctrls {} {} with sys := { up.sys with bootStep := 5, env := ⟨[], [], [some img, none, none, none], [], [], []⟩, hold := 1 } }, rfl, rfl,
  rfl, rfl, Nat.lt_succ_self 4, h⟩),
  ⟨1, ctrls { st := .active, version := 7 } { copying := true }, by decide +kernel⟩,
  ⟨1,
  { ctrls { st := .active, version := 7 } { copying := true, faults := 1, loadFrom := some 5 } with sys := { up.sys with mlb := [.retired 1] } },
  by decide +kernel⟩,
  ⟨1, { ctrls { st := .retired, version := 7 } { verified := true, faults := 1, version := 3 } with sys := { up.sys with hold := 4 } },
  by decide +kernel⟩,
  ⟨1, 0, at_ 40000000 (ctrls { st := .active, version := 7 } { loadFrom := some 0 }), by decide +kernel⟩,
  ⟨1, ctrls { st := .faulted, version := 7 } { copying := true }, by decide +kernel⟩⟩

/-- The hypotheses of FirmwareIsUpdated can be met. -/
theorem witness_FirmwareIsUpdated :
    (∃ (q : Req) (i : Nat) (s : State), ready s 0x0A05 q = true ∧ q.level = false ∧ q.u8 0 ≤ 3 ∧ q.le 4 4 = 0 ∧ ((s.findOp fun o => decide
    (o.kind = .modelLoad ∨ o.kind = .fwUpdate)) = none) ∧ (s.ctrl (!s.ctl.activeId)).st = .standby ∧ s.freeHandle (decide (q.mbx = 7)) =
    some i) ∧
    (∃ (q : Req) (s : State), ready s 0x0A05 q = true ∧ q.level = false ∧ q.u8 0 ≤ 3 ∧ q.le 4 4 = 0 ∧ ((s.findOp fun o => decide (o.kind =
    .modelLoad ∨ o.kind = .fwUpdate)) = none) ∧ (s.ctrl (!s.ctl.activeId)).st ≠ .standby) ∧
    (∀ img : Bytes, verifyFw img = none → byteAt img 6 = 1 → ∃ (c : Fin 2) (u : Update) (o : LongOp) (st : Bool) (s : State), s.cfg.update =
    some u ∧ (s.handle u.handle).op = some o ∧ o.st = .running ∧ u.step = 2 ∧ u.outgoing = !(ctrlOf c) ∧ s.sys.hold = 0 ∧ verifyFw
    s.cfg.fwStage = none ∧ byteAt s.cfg.fwStage 6 = 1) ∧
    (∃ (c : Fin 2) (u : Update) (o : LongOp) (k : Nat) (st : Bool) (s : State), s.cfg.update = some u ∧ (s.handle u.handle).op = some o ∧
    o.st = .running ∧ u.step = 2 ∧ u.outgoing = !(ctrlOf c) ∧ s.sys.hold = 0 ∧ verifyFw s.cfg.fwStage = some k) ∧
    (∃ (u : Update) (o : LongOp) (s : State), s.cfg.update = some u ∧ (s.handle u.handle).op = some o ∧ o.st = .running ∧ u.step = 3 ∧
    (s.ctrl u.outgoing).st = .active ∧ (s.ctrl (!u.outgoing)).st = .standby ∧ s.sys.hold = 0 ∧ ((∀ m : Fin 8, (s.box m).st ≠ .working))) ∧
    (∃ (u : Update) (o : LongOp) (why : RollbackWhy) (s : State), s.cfg.update = some u ∧ (s.handle u.handle).op = some o ∧ s.sys.hold = 2 ∧
    3 ≤ u.step ∧ ((why = .overrun → s.sys.overrun = true)) ∧ (s.ctrl u.outgoing).st = .standby) :=
  ⟨⟨rq 0 0 [3], 0, { up with sys := { up.sys with env := env1 } }, by decide +kernel⟩,
  ⟨rq 0 0 [3], ctrls { st := .active } { st := .loading, loadFrom := some 5 }, by decide +kernel⟩,
  (fun img h h1 => ⟨1, upd 2, op0 .fwUpdate .running, true, withOp (op0 .fwUpdate .running)
  { up with cfg := { update := some (upd 2), fwStage := img } }, rfl, rfl, rfl, rfl, rfl, rfl, h, h1⟩),
  ⟨1, upd 2, op0 .fwUpdate .running, 1, true, withOp (op0 .fwUpdate .running) { up with cfg := { update := some (upd 2), fwStage := [1] } },
  by decide +kernel⟩,
  ⟨upd 3, op0 .fwUpdate .running, withOp (op0 .fwUpdate .running) { up with cfg := { update := some (upd 3), fwStage := [1] } },
  by decide +kernel⟩,
  ⟨upd 7, op0 .fwUpdate .running, .schema, withOp (op0 .fwUpdate .running)
  { ctrls { st := .standby } { st := .active } with sys := { up.sys with hold := 2 }, cfg := { update := some (upd 7), fwStage := [1] } },
  by decide +kernel⟩⟩

/-- The hypotheses of TheDebugExecutor can be met. -/
theorem witness_TheDebugExecutor :
    (∃ (q : Req) (c : Bool) (s : State), readyDebug s 0x0C12 q = true ∧ s.active = some c) ∧
    (∃ (q : Req) (s : State), readyDebug s 0x0C12 q = true ∧ s.active = none) ∧
    (∃ (q : Req) (c : Bool) (s : State), readyDebug s 0x0C13 q = true ∧ s.haltedCtrl = some c) ∧
    (∃ (q : Req) (s : State), Regular s ∧ readyDebug s 0x0C14 q = true ∧ q.u8 0 ≤ 1 ∧
    let c := decide (q.u8 0 = 1)
    ((s.ctrl c).st = .faulted ∨ (s.ctrl c).st = .retired)) ∧
    (∃ (q : Req) (s : State), readyDebug s 0x0C10 q = true ∧ q.u8 0 = 1 ∧ q.le 4 4 % 4 = 0 ∧ q.le 8 2 % 4 = 0 ∧ 4 ≤ q.le 8 2 ∧ q.le 8 2 ≤
    224) ∧
    (∃ (q : Req) (s : State), readyDebug s 0x0C10 q = true ∧ q.u8 0 = 0 ∧ q.le 4 4 % 4 = 0 ∧ q.le 8 2 % 4 = 0 ∧ 4 ≤ q.le 8 2 ∧ q.le 8 2 ≤
    224 ∧ q.le 4 4 + q.le 8 2 ≤ 4194304 ∧ (posted s 0x0C10 q).poisonedIn (q.le 4 4) (q.le 8 2) = none) ∧
    (∃ (q : Req) (w : Nat) (s : State), readyDebug s 0x0C10 q = true ∧ q.u8 0 = 0 ∧ q.le 4 4 % 4 = 0 ∧ q.le 8 2 % 4 = 0 ∧ 4 ≤ q.le 8 2 ∧
    q.le 8 2 ≤ 224 ∧ q.le 4 4 + q.le 8 2 ≤ 4194304 ∧ (posted s 0x0C10 q).poisonedIn (q.le 4 4) (q.le 8 2) = some w) ∧
    (∃ (q : Req) (s : State), readyDebug s 0x0C11 q = true ∧ q.u8 0 = 1 ∧ q.le 4 4 % 4 = 0 ∧ q.le 8 2 = 4 ∧ (posted s 0x0C11 q).debugAccepts
    (q.le 4 4) (word (q.le 16 4)) = true) ∧
    (∃ (q : Req) (s : State), Map.wf 0 s.ctl.raw = true ∧ readyDebug s 0x0C11 q = true ∧ q.u8 0 = 0 ∧ q.le 4 4 % 4 = 0 ∧ q.le 8 2 % 4 = 0 ∧
    4 ≤ q.le 8 2 ∧ q.le 8 2 ≤ 224 ∧ 0x3CC000 ≤ q.le 4 4 ∧ q.le 4 4 + q.le 8 2 ≤ 0x3FC000) :=
  ⟨⟨rqT [], false, up, by decide +kernel⟩,
  ⟨rqT [], ctrls {} {}, by decide +kernel⟩,
  ⟨rqT [], false, ctrls { st := .halted } {}, by decide +kernel⟩,
  ⟨rqT [1], ctrls { st := .active } { st := .retired, faults := 3 }, regular_of _ (by decide +kernel), by decide +kernel⟩,
  ⟨rqT ([1, 0, 0, 0] ++ f 4 0x01000000 ++ f 2 224), up, by decide +kernel⟩,
  ⟨rqT ([0, 0, 0, 0] ++ f 4 0x3FFF20 ++ f 2 224), up, by decide +kernel⟩,
  ⟨rqT ([0, 0, 0, 0] ++ f 4 0x3CC000 ++ f 2 8), 497664, { up with ctl := { up.ctl with poison := [497664] } }, by decide +kernel⟩,
  ⟨rqT ([1, 0, 0, 0] ++ f 4 0x01000008 ++ f 2 4 ++ zeros 6 ++ f 4 0x000010F0), up, by decide +kernel⟩,
  ⟨rqT ([0, 0, 0, 0] ++ f 4 0x3CC000 ++ f 2 8 ++ zeros 6 ++ [1, 2, 3, 4, 5, 6, 7, 8]),
  { up with ctl := { up.ctl with poison := [498176, 7] } }, by decide +kernel⟩⟩

/-- The hypotheses of OasisAndEventLog can be met. -/
theorem witness_OasisAndEventLog :
    (∃ (w : Fin 524288) (corrected : Bool) (s : State), s.xg.arb.wait ≠ []) ∧
    (∃ (w : Fin 524288) (s : State), s.sys.pkgReset = false ∧ s.xg.arb.wait = []) ∧
    (∃ (w : Fin 524288) (s : State), s.sys.pkgReset = false ∧ s.xg.arb.wait = []) ∧
    (∃ (row : Fin 1024) (j : Nat) (s : State), bitOf s.ctl.ctrl 1 = true ∧ s.fw = true ∧ (s.rowWorn row = true ∨ row.val ∈ s.ctl.rowUe) ∧
    s.freeRow (row.val % 16) = some j) ∧
    (∃ (row : Fin 1024) (s : State), bitOf s.ctl.ctrl 1 = true ∧ s.fw = true ∧ (s.rowWorn row = true ∨ row.val ∈ s.ctl.rowUe) ∧ s.freeRow
    (row.val % 16) = none) ∧
    (∃ (w : Fin 524288) (s : State), s.sys.pkgReset = false) ∧
    (∃ (id : BitVec 10) (arg : Word) (sev : Nat) (s : State), s.sys.epoch = true ∧ sevOf id.toNat = some sev ∧ ((∀ e, s.ev.last = some e →
    e.merges s.now id.toNat arg = false)) ∧ s.ev.queue.length < 48 ∧ s.ev.latch = []) ∧
    (∃ (id : BitVec 10) (arg : Word) (sev : Nat) (es : List Event) (e : Event) (s : State), s.sys.epoch = true ∧ sevOf id.toNat = some sev ∧
    s.ev.newest = 0 ∧ s.ev.queue = es ++ [e] ∧ e.id = id.toNat ∧ e.arg = arg ∧ s.now ≤ e.erg + 1000) ∧
    (∃ (id : BitVec 10) (arg : Word) (sev : Nat) (s : State), s.sys.epoch = true ∧ sevOf id.toNat = some sev ∧ sev < 2 ∧ ((∀ e, s.ev.last =
    some e → e.merges s.now id.toNat arg = false)) ∧ 48 ≤ s.ev.queue.length) ∧
    (∃ (e : Event) (es : List Event) (s : State), s.sys.epoch = true ∧ s.ev.queue = e :: es ∧ s.ev.latch = [] ∧ s.ev.turn = true) ∧
    (∃ (s : State), (s.ev.queue = [] ∨ s.ev.turn = false)) ∧
    (∃ (q : Req) (s : State), ready s 0x0C01 q = true ∧ 1 ≤ q.u8 4 ∧ q.u8 4 ≤ 14) ∧
    (∃ (q : Req) (s : State), ready s 0x0C01 q = true ∧ (q.u8 4 = 0 ∨ 14 < q.u8 4)) :=
  ⟨⟨4, true, { up with xg := { arb := { wait := [(3, 1)] } } }, by decide +kernel⟩,
  ⟨524287, { up with ctl := { scrubbed := 524287 } }, by decide +kernel⟩,
  ⟨524287, { up with ctl := { scrubbed := 3 } }, by decide +kernel⟩,
  ⟨1023, 1, { up with ctl := { up.ctl with rowUe := [1023], spareUse := word (2 ^ 30) } }, by decide +kernel⟩,
  ⟨1023, { up with ctl := { up.ctl with rowUe := [1023], spareUse := word (3 * 2 ^ 30) } }, by decide +kernel⟩,
  ⟨361472, up, by decide +kernel⟩,
  ⟨0x006, 5, 3, up, by decide +kernel⟩,
  ⟨0x006, 5, 3, [], ⟨2559000, 6, 2, 1, 5⟩, { up with ev := { queue := [⟨2559000, 6, 2, 1, 5⟩], newest := 0 } }, by decide +kernel⟩,
  ⟨0x001, 5, 0, { up with ev := { queue := List.replicate 48 ⟨2559000, 6, 2, 1, 5⟩, newest := 0 } }, by decide +kernel⟩,
  ⟨⟨2559000, 6, 2, 1, 5⟩, [], { up with ev := { turn := true, queue := [⟨2559000, 6, 2, 1, 5⟩], newest := 0 } }, by decide +kernel⟩,
  ⟨up, by decide +kernel⟩,
  ⟨rq 0 0 (f 4 0 ++ [14]), { up with ev := { seq := 3, log := [⟨2, ⟨2559000, 6, 2, 1, 5⟩⟩, ⟨1, ⟨2559000, 6, 2, 1, 7⟩⟩] } },
  by decide +kernel⟩,
  ⟨rq 0 0 (f 4 0 ++ [15]), up, by decide +kernel⟩⟩

/-- The hypotheses of CalibrationsAreCalledFor can be met. -/
theorem witness_CalibrationsAreCalledFor :
    (∃ (s : State), Regular s ∧ s.now % 256 = 0) ∧
    (∃ (r : RegionNo) (s : State), Regular s ∧ s.fw = true ∧ s.suspended = false ∧ s.cal.busy.length < s.calSlots ∧ s.calPick = some (r,
    none, false) ∧ (s.rgn r).chan.hasTwin = true ∧ (s.rgn r).cal.half = false) ∧
    (∃ (s : State), (s.fw = false ∨ s.suspended = true ∨ s.calSlots ≤ s.cal.busy.length)) ∧
    (∃ (r : RegionNo) (s : State), validRegion r = true ∧ (s.rgn r).cal.holdOff ≤ s.win) ∧
    (∃ (r : RegionNo) (s : State), validRegion r = true ∧ (s.rgn r).cal.retryWin ≤ s.win) ∧
    (∃ (d : Fin 256) (s : State), Regular s ∧ s.now % 256 = 0 ∧ s.forecastZero d.val = true) ∧
    (∃ (r : RegionNo) (w : Nat) (s : State), Regular s ∧ (s.rgn r).cal.gapStart = some w ∧ (s.rgn r).cal.running = true ∧ (s.rgn
    r).cal.gapWins < (s.rgn r).gapNeed ∧ w + s.gapWait ≤ s.win) ∧
    (∃ (r : RegionNo) (s : State), Regular s ∧ s.selftestEn = true ∧ s.clocked r = true ∧ (s.rgn r).chan.twin = .standby ∧ (s.rgn
    r).cal.lastTest + s.selftestNs ≤ s.now) ∧
    (∃ (q : Req) (i : Nat) (s : State), Regular s ∧ ready s 0x0801 q = true ∧ q.u8 0 = 0 ∧ q.u8 1 ≤ 2 ∧ q.u8 2 ≤ 1 ∧ s.regionExists q.tgt =
    true ∧ s.calRefuses q.tgt = none ∧ s.cal.queue.length < 32 ∧ s.freeHandle (decide (q.mbx = 7)) = some i) ∧
    (∃ (q : Req) (i : Nat) (s : State), Regular s ∧ ready s 0x0802 q = true ∧ q.u8 0 = 0 ∧ q.u8 1 ≤ 2 ∧ q.u8 2 ≤ 2 ∧ s.regionExists q.tgt =
    true ∧ s.calRefuses q.tgt = none ∧ s.cal.queue.length < 32 ∧ s.freeHandle (decide (q.mbx = 7)) = some i) ∧
    (∃ (q : Req) (s : State), ready s 0x0801 q = true ∧ q.u8 0 = 0 ∧ q.u8 1 ≤ 2 ∧ q.u8 2 ≤ 1 ∧ s.regionExists q.tgt = true ∧ s.siteFenced
    (siteOf q.tgt) = false ∧ (s.rgn q.tgt).chan.st = .dead) ∧
    (∃ (q : Req) (s : State), ready s 0x0801 q = true ∧ q.u8 0 = 0 ∧ q.u8 1 ≤ 2 ∧ q.u8 2 ≤ 1 ∧ s.regionExists q.tgt = true ∧ s.calRefuses
    q.tgt = none ∧ 32 ≤ s.cal.queue.length) ∧
    (∃ (q : Req) (s : State), ready s 0x0803 q = true ∧ s.regionExists q.tgt = true) ∧
    (∃ (q : Req) (s : State), ready s 0x0804 q = true ∧ q.u8 0 = 0 ∧ s.regionExists q.tgt = true) ∧
    (∃ (q : Req) (s : State), ready s 0x0804 q = true ∧ q.u8 0 = 1 ∧ q.tgt < 256) ∧
    (∃ (q : Req) (s : State), ready s 0x0804 q = true ∧ 1 < q.u8 0) :=
  ⟨⟨calR { sum := some ⟨2559488, 0, 2000, 0, 0⟩, ws := some ⟨[], [], 0, 0, 640⟩ } { seeded := true }, regular_of _ (by decide +kernel),
  by decide +kernel⟩,
  ⟨0, calR { cal := { phase := 2, dueDrift := true } } { due := [0] }, regular_of _ (by decide +kernel), by decide +kernel⟩,
  ⟨{ up with sys := { up.sys with hold := 2 } }, by decide +kernel⟩,
  ⟨45063, setR 45063 { cal := { holdOff := 10000 } } up, by decide +kernel⟩,
  ⟨45063, setR 45063 { cal := { retryWin := 10000 } } up, by decide +kernel⟩,
  ⟨0, { calR { cal := { gapStart := some 1 } } {} with hm := { board := [(2560000, 1)] } }, regular_of _ (by decide +kernel),
  by decide +kernel⟩,
  ⟨0, 5000, calR { cal := { gapStart := some 5000, phase := 6, gap := true }, chan := { twin := .busy, st := .twinBusy } } { busy := [0] },
  regular_of _ (by decide +kernel), by decide +kernel⟩,
  ⟨0, at_ 3600000000000 (calR { cycle := 1 } {}), regular_of _ (by decide +kernel), by decide +kernel⟩,
  ⟨rqX 0 0 [0, 2, 1], 0, calR { cycle := 1 } {}, regular_of _ (by decide +kernel), by decide +kernel⟩,
  ⟨rqX 0 0 [0, 2, 2], 0, calR { cycle := 1 } {}, regular_of _ (by decide +kernel), by decide +kernel⟩,
  ⟨rqX 0 0 [0, 2, 1], calR { chan := { st := .dead } } {}, by decide +kernel⟩,
  ⟨rq 0 0 [0], calR {} { queue := List.replicate 32 ⟨1, true⟩ }, by decide +kernel⟩,
  ⟨rq 0 0 [], calR { cycle := 1 } {}, by decide +kernel⟩,
  ⟨rqX 0 0 [0], calR { cycle := 1 } {}, by decide +kernel⟩,
  ⟨rqX 0 255 [1], calR {} { spares := [(255, some cset)] }, by decide +kernel⟩,
  ⟨rqX 0 0 [2], calR { cycle := 1 } {}, by decide +kernel⟩⟩

/-- The hypotheses of RunsAreJudged can be met. -/
theorem witness_RunsAreJudged :
    (∃ (r : RegionNo) (oscB : Bool) (x : RunResult) (s : State), Regular s ∧ s.calBooting r = false ∧ (s.rgn r).cal.test = false ∧ (s.rgn
    r).cal.ending = false ∧ 8 ≤ x.samples ∧ oscB = !(s.rgn r).chan.activeB ∧ (s.rgn r).chan.twin = .busy ∧ (s.rgn r).cal.phase = 3) ∧
    (∃ (r : RegionNo) (oscB : Bool) (x : RunResult) (s : State), x.samples < 8) ∧
    (∃ (c : CalSet) (x : RunRec) (y : RunRec) (now : Nat) (i : Nat), i < 6 ∧
    let t := fdiv (x.temp + y.temp + 1) 2
    let p := fdiv ((x.periods.getD i 0 : Int) + y.periods.getD i 0 + 1) 2
    let m := max x.min y.min
    ((∀ k ∈ bracket t, let q := (c.points.getD k ⟨[], [], 0, 0⟩); 0 ≤ (q.a.getD i 0 : Int) + (p - (c.work t).a.getD i 0) ∧ (q.a.getD i 0 :
    Int) + (p - (c.work t).a.getD i 0) < 65536 ∧ 0 ≤ (q.minA : Int) + (m - (c.work t).minA) ∧ (q.minA : Int) + (m - (c.work t).minA) <
    8192))) ∧
    (∃ (r : RegionNo) (s : State), Regular s ∧ (s.rgn r).cal.phase = 7 ∧ (s.rgn r).cal.test = true ∧ (s.rgn r).cal.gap = false ∧ (s.rgn
    r).cal.oscB = !(s.rgn r).chan.activeB) ∧
    (∃ (r : RegionNo) (f : SelfTest) (s : State), Regular s ∧ (s.rgn r).cal.phase = 7 ∧ (s.rgn r).cal.gap = false ∧ (s.rgn r).cal.oscB =
    !(s.rgn r).chan.activeB ∧ (s.rgn r).chan.st ≠ .dead) :=
  ⟨⟨0, true, run0, calR inRun {}, regular_of _ (by decide +kernel), by decide +kernel⟩,
  ⟨0, true, { run0 with samples := 7 }, calR inRun {}, by decide +kernel⟩,
  ⟨cset, ⟨[2416, 1200, 4800, 2200, 10400, 4000], 321, 650, 750⟩, ⟨[2400, 1201, 4800, 2200, 10400, 4000], 322, 656, 750⟩, 5, 1,
  by decide +kernel⟩,
  ⟨0, calR { inRun with cal := { phase := 7, oscB := true, test := true } } { busy := [0] }, regular_of _ (by decide +kernel),
  by decide +kernel⟩,
  ⟨0, .tapLine, calR { inRun with cal := { phase := 7, oscB := true, test := true } } { busy := [0] }, regular_of _ (by decide +kernel),
  by decide +kernel⟩⟩

/-- The hypotheses of SensorsRingsAndFrames can be met. -/
theorem witness_SensorsRingsAndFrames :
    (∃ (r : RegionNo) (s : State), Regular s ∧ s.sys.pkgReset = false ∧ s.regionExists r = true ∧ (s.rgn r).badAdc = false ∧ (s.rgn
    r).adcWatch.stands true s.now = true) ∧
    (∃ (r : RegionNo) (s : State), Regular s ∧ s.sys.pkgReset = false ∧ s.regionExists r = true ∧ (s.rgn r).badDiode = false ∧ (s.rgn
    r).diodeWatch.stands true s.now = true) ∧
    (∃ (r : RegionNo) (s : State), s.sys.pkgReset = false ∧ s.regionExists r = true) ∧
    (∃ (r : RegionNo) (s : State), (s.rgn r).adcWatch.stands true s.now = false) ∧
    (∃ (ms : List TileMeas) (s : State), s.sys.epoch = true ∧ s.now % 262144 = 0 ∧ s.sns.ringAt < s.now) ∧
    (∃ (x : Tile) (now : Nat), x.okElec = true ∧ x.okRing = true) ∧
    (∃ (x : Tile) (now : Nat), x.okRing = false) ∧
    (∃ (s : State), Regular s ∧ s.sys.epoch = true ∧ s.now % 65536 < 256 ∧ 65536 ≤ s.now ∧
    let n := s.now / 65536 * 65536
    (s.sns.frames.head?.all fun f => decide (le f 0 8 ≠ n)) = true) ∧
    (∃ (u : State) (l : Nat) (k : Nat) (T : Int), l < k ∧ k ≤ 4 ∧ u.levelTh k ≤ T) ∧
    (∃ (u : State) (l : Nat) (T : Int), 0 < l ∧ l < 4 ∧ T ≤ u.levelTh l - 48 ∧ ((∀ k, l < k → k ≤ 4 → T < u.levelTh k))) ∧
    (∃ (u : State) (l : Nat) (T : Int), l ≤ 4 ∧ ((∀ k, l < k → k ≤ 4 → T < u.levelTh k)) ∧ (u.levelTh l - 48 < T ∨ l = 4 ∨ l = 0)) :=
  ⟨⟨0, setR 0 { adcWatch := ⟨true, 1⟩ } up, regular_of _ (by decide +kernel), by decide +kernel⟩,
  ⟨45063, setR 45063 { diodeWatch := ⟨true, 1⟩ } up, regular_of _ (by decide +kernel), by decide +kernel⟩,
  ⟨45063, setR 45063 { badAdc := true, badDiode := true } up, by decide +kernel⟩,
  ⟨0, up, by decide +kernel⟩,
  ⟨List.replicate 64 (tileM 640 736), tiles {}, by decide +kernel⟩,
  ⟨{ tElec := 640, tRing := 736 }, 262144000, by decide +kernel⟩,
  ⟨{ tElec := 640, lastRing := 800, okRing := false }, 262144000, by decide +kernel⟩,
  ⟨at_ 65536000 up, regular_of _ (by decide +kernel), by decide +kernel⟩,
  ⟨up, 0, 4, 3000, by decide +kernel⟩,
  ⟨up, 3, 0, by decide +kernel, by decide +kernel, by decide +kernel, fun k h1 h2 => (by decide +kernel : ∀ k < 5, 0 < k → 0 < up.levelTh k)
  k (by omega) (by omega)⟩,
  ⟨up, 0, 0, by decide +kernel, fun k h1 h2 => (by decide +kernel : ∀ k < 5, 0 < k → 0 < up.levelTh k) k (by omega) (by omega),
  by decide +kernel⟩⟩

/-- The hypotheses of PlantInputsAndWear can be met. -/
theorem witness_PlantInputsAndWear :
    (∃ (q : Req) (s : State), ready s 0x0903 q = true ∧ q.le 0 2 < 4096 ∧ -640 ≤ signed 12 (q.le 0 2) ∧ q.le 2 2 < 4096 ∧ -640 ≤ signed 12
    (q.le 2 2)) ∧
    (∃ (q : Req) (s : State), ready s 0x0903 q = true ∧ signed 12 (q.le 0 2) < -640) ∧
    (∃ (a : Nat) (s : State), s.sns.coolAt = some a ∧ s.sns.coolStale = false ∧ a + 1000000000 ≤ s.now) ∧
    (∃ (a : Nat) (s : State), s.sns.budgetAt = some a ∧ s.sns.budgetStale = false ∧ a + 10000000 ≤ s.now) ∧
    (∃ (s : State), s.sns.budgetStale = true) ∧
    (∃ (q : Req) (y : Summary) (s : State), ready s 0x0901 q = true ∧ q.u8 0 = 0 ∧ s.regionExists q.tgt = true ∧ (s.rgn q.tgt).sum = some y)
    ∧
    (∃ (q : Req) (s : State), ready s 0x0901 q = true ∧ q.u8 0 = 1 ∧ q.tgt < 64) ∧
    (∃ (q : Req) (s : State), ready s 0x0901 q = true ∧ 1 < q.u8 0) ∧
    (∃ (q : Req) (s : State), ready s 0x0902 q = true) ∧
    (∃ (q : Req) (s : State), ready s 0x0904 q = true ∧ q.u8 0 = 0 ∧ q.tgt ≤ 22 ∧ q.u8 1 ≤ 6) ∧
    (∃ (q : Req) (s : State), ready s 0x0904 q = true ∧ q.u8 0 = 1 ∧ s.regionExists q.tgt = true) ∧
    (∃ (q : Req) (s : State), ready s 0x0904 q = true ∧ q.u8 0 = 2 ∧ q.tgt ≤ 255) ∧
    (∃ (q : Req) (s : State), ready s 0x0905 q = true ∧ q.u8 0 ≤ 2) ∧
    (∃ (q : Req) (s : State), ready s 0x0906 q = true ∧ q.u8 0 ≤ 2 ∧ 8 < q.len ∧ (q.len - 8) % 8 = 0 ∧ q.len - 8 ≤ 224 ∧ q.u8 0 ∉
    s.sns.imported ∧ q.le 4 4 = 0) ∧
    (∃ (q : Req) (bs : Bytes) (s : State), ready s 0x0906 q = true ∧ q.u8 0 ≤ 2 ∧ 8 < q.len ∧ (q.len - 8) % 8 = 0 ∧ q.len - 8 ≤ 224 ∧ q.u8 0
    ∉ s.sns.imported ∧ s.sns.stage = some (q.u8 0, bs) ∧ q.le 4 4 = bs.length ∧ bs ≠ [] ∧ bs.length % 8 = 0 ∧ bs.length + (q.len - 8) <
    8192) ∧
    (∃ (q : Req) (bs : Bytes) (s : State), Regular s ∧ ready s 0x0906 q = true ∧ (q.u8 0 = 1 ∨ q.u8 0 = 2) ∧ 8 < q.len ∧ (q.len - 8) % 8 = 0
    ∧ q.len - 8 ≤ 224 ∧ q.u8 0 ∉ s.sns.imported ∧ s.sns.stage = some (q.u8 0, bs) ∧ q.le 4 4 = bs.length ∧ bs.length % 8 = 0 ∧ bs.length +
    (q.len - 8) = 8192) ∧
    (∃ (q : Req) (s : State), ready s 0x0906 q = true ∧ q.u8 0 ≤ 2 ∧ 8 < q.len ∧ (q.len - 8) % 8 = 0 ∧ q.len - 8 ≤ 224 ∧ q.le 4 4 % 8 = 0 ∧
    q.le 4 4 + (q.len - 8) ≤ 8192 ∧ q.u8 0 ∈ s.sns.imported) :=
  ⟨⟨rq 0 0 (f 2 400 ++ f 2 500), { up with sns := { coolAt := some 2559999, coolStale := false } }, by decide +kernel⟩,
  ⟨rq 0 0 (f 2 (4096 - 641) ++ f 2 500), up, by decide +kernel⟩,
  ⟨0, at_ 1000000000 { up with sns := { coolAt := some 0, coolStale := false } }, by decide +kernel⟩,
  ⟨0, at_ 10000000 { up with sns := { budgetAt := some 0 } }, by decide +kernel⟩,
  ⟨{ up with sns := { budgetStale := true } }, by decide +kernel⟩,
  ⟨rq 4 45063 [0], ⟨2559744, 5, -6, 7, 70000⟩, setR 45063 { sum := some ⟨2559744, 5, -6, 7, 70000⟩ } up, by decide +kernel⟩,
  ⟨rq 4 63 [1], up, by decide +kernel⟩,
  ⟨rq 4 63 [2], up, by decide +kernel⟩,
  ⟨rq 6 0 [], up, by decide +kernel⟩,
  ⟨rq 4 22 [0, 6], { up with sns := { fields := [(160, { cyc := 5, dmg := 7 })] } }, by decide +kernel⟩,
  ⟨rq 4 45063 [1], up, by decide +kernel⟩,
  ⟨rq 4 255 [2], up, by decide +kernel⟩,
  ⟨rq 0 0 [2], up, by decide +kernel⟩,
  ⟨rq 0 0 ([2, 0, 0, 0] ++ f 4 0 ++ zeros 223 ++ [1]), up, by decide +kernel⟩,
  ⟨rq 0 0 ([2, 0, 0, 0] ++ f 4 16 ++ zeros 7 ++ [1]), zeros 16, { up with sns := { stage := some (2, zeros 16) } }, by decide +kernel⟩,
  ⟨rq 0 0 ([2, 0, 0, 0] ++ f 4 8184 ++ List.replicate 8 1), List.replicate 8184 1,
  { up with sns := { stage := some (2, List.replicate 8184 1), serialBad := [17] } }, regular_of _ (by decide +kernel), by decide +kernel,
  by decide +kernel, by decide +kernel, by decide +kernel, by decide +kernel, by decide +kernel, rfl, by rw [List.length_replicate]; rfl,
  by rw [List.length_replicate], by rw [List.length_replicate]; rfl⟩,
  ⟨rq 0 0 ([2, 0, 0, 0] ++ f 4 0 ++ zeros 223 ++ [1]), { up with sns := { imported := [2] } }, by decide +kernel⟩⟩

/-- The hypotheses of OpticalFaultsAndDegradation can be met. -/
theorem witness_OpticalFaultsAndDegradation :
    (∃ (site : Site) (l : Fin 6) (c : Fin 4) (power : Int) (q : Nat) (s : State),
    let x := s.site site
    x.served = true ∧ l.val ∉ x.lfail ∧ x.isDown 0 l = false ∧ s.carrierUsed c = true ∧ power < s.lossAt ∧ x.served? l = some q ∧ (x.route
    q).group ≠ 7 ∧ x.backupBad = false) ∧
    (∃ (site : Site) (l : Fin 6) (c : Fin 4) (power : Int) (s : State), (s.lossAt ≤ power ∨ s.carrierUsed c = false)) ∧
    (∃ (site : Site) (q : Fin 4) (s : State),
    let x := s.site site
    x.served = true ∧ (x.route q).group ≠ 7 ∧ (((x.route q).source < 6 → s.lossAt ≤ x.powerAt (x.route q).source s.opt.tone ∧ s.lossAt ≤
    x.powerAt (x.route q).source s.opt.slot))) ∧
    (∃ (c : Fin 4) (launched : Int) (rs : List (Site × Fin 6 × Int)) (s : State), c.val ∉ s.opt.failed ∧ s.carrierUsed c = true ∧ (launched
    < s.lossAt ∨ 8 ≤ ((rs.filter fun e => decide (e.2.2 < s.lossAt) && s.landingActive e.1 e.2.1).map fun e => (e.1,
    e.2.1)).eraseDups.length)) ∧
    (∃ (r : RegionNo) (s : State), validRegion r = true ∧ ((s.site (siteOf r)).route (quadOf r)).feed = 3 ∧ (s.rgn r).rep.stopped = false) ∧
    (∃ (site : Site) (l : Fin 6) (q : Nat) (s : State), (s.site site).served = true ∧ (s.site site).served? l = some q ∧ l.val ∉ (s.site
    site).ldeg) ∧
    (∃ (site : Site) (g : Fin 7) (s : State), Map.get 0 (s.site site).contFail g < 3) ∧
    (∃ (site : Site) (g : Fin 7) (q : Nat) (s : State), 3 ≤ Map.get 0 (s.site site).contFail g ∧ (s.site site).served = true ∧ q < 4 ∧
    ((s.site site).route q).group = g.val ∧ g.val ∉ (s.site site).gdeg) ∧
    (∃ (c : Fin 4) (launched : Int) (s : State), c.val ∈ s.opt.free ∧ launched < s.lossAt) ∧
    (∃ (c : Fin 4) (launched : Int) (rs : List (Site × Fin 6 × Int)) (s : State), c.val ∈ s.opt.failed ∧ s.warnAt ≤ launched ∧
    let u := (s.setLaunch c launched).readings c rs
    ((∀ e ∈ u.activeLandings, s.warnAt ≤ (u.site e.1).powerAt e.2 c))) ∧
    (∃ (c : Fin 4) (launched : Int) (rs : List (Site × Fin 6 × Int)) (s : State), launched < s.warnAt) :=
  ⟨⟨3, 1, 0, -100, 1, up, by decide +kernel⟩,
  ⟨3, 1, 0, 0, up, by decide +kernel⟩,
  ⟨3, 1, up, by decide +kernel⟩,
  ⟨0, -100, [], up, by decide +kernel⟩,
  ⟨0, sites { state := .optical, routes := List.replicate 4 ⟨3, 7, 7⟩ }, by decide +kernel⟩,
  ⟨3, 1, 1, up, by decide +kernel⟩,
  ⟨3, 1, up, by decide +kernel⟩,
  ⟨3, 1, 1, sites { state := .optical, contFail := [(1, 3)] }, by decide +kernel⟩,
  ⟨3, -100, up, by decide +kernel⟩,
  ⟨0, 0, [(3, 1, -1)], { up with opt := { up.opt with failed := [0], free := [3] } }, by decide +kernel⟩,
  ⟨0, -100, [], { up with opt := { up.opt with failed := [0], free := [3] } }, by decide +kernel⟩⟩

/-- The hypotheses of RouteInsertionsComplete can be met. -/
theorem witness_RouteInsertionsComplete :
    (∃ (site : Site) (q : Fin 4) (m : SpareCheck) (y : Insertion) (s : State),
    let x := s.site site
    (s.findIns (fun y => decide (y.kind = 0 ∧ y.target = site.val ∧ y.quad = q.val)) = some y) ∧ s.routeReady y = true ∧ (x.route q).group ≠
    7) ∧
    (∃ (site : Site) (q : Fin 4) (quick : List Nat) (full : Option (List Nat)) (y : Insertion) (s : State),
    let x := s.site site
    let h := x.home.getD q 7
    (s.findIns (fun y => decide (y.kind = 1 ∧ y.target = site.val ∧ y.quad = q.val)) = some y) ∧ s.routeReady y = true) :=
  ⟨⟨3, 0, ⟨[], [], none⟩, insAt 0 3 0 1 none, insOf [insAt 0 3 0 1 none] (sites
  { state := .bridged, lfail := [0], routes := rt0 ⟨0, 0, 6⟩ }), by decide +kernel⟩,
  ⟨3, 0, [], none, insAt 1 3 0 1 none, insOf [insAt 1 3 0 1 none] (sites
  { state := .bridged, down := [(1, 0, 0)], freed := [0], routes := rt0 ⟨1, 7, 7⟩ }), by decide +kernel⟩⟩

/-- The hypotheses of CarriersAndTheSparePair can be met. -/
theorem witness_CarriersAndTheSparePair :
    (∃ (c : Nat) (launched : Int) (y : Insertion) (s : State), s.findIns (fun y => decide (y.kind = 2)) = some y ∧ s.insRuns y = true ∧
    y.step ≤ 1 ∧ y.spare = none ∧ s.freeCarrier = some c) ∧
    (∃ (launched : Int) (y : Insertion) (s : State), s.findIns (fun y => decide (y.kind = 2)) = some y ∧ s.insRuns y = true ∧ y.step ≤ 1 ∧
    y.spare = none ∧ y.planned = false ∧ s.freeCarrier = none) ∧
    (∃ (launched : Int) (y : Insertion) (s : State), s.findIns (fun y => decide (y.kind = 2)) = some y ∧ s.insRuns y = true ∧ 2 ≤ y.step ∧
    s.now % 256 = 0 ∧ y.since < s.now) ∧
    (∃ (r : RegionNo) (runs0 : List RunResult) (runs1 : List RunResult) (q : Nat) (x : Stop) (s : State), Regular s ∧ s.fw = true ∧ (s.dieAt
    (siteOf r)).st = .running ∧ (s.rgn r).rep.found = true ∧ (s.rgn r).rep.stopped = false ∧ s.regionExists r = true ∧ (s.rgn r).chan.st =
    .dead ∧ (s.rgn r).stop = some x ∧ s.opt.ins = [] ∧ Map.get none s.cal.taken (districtOf r) = none ∧ (s.pairCal r runs0 runs1).2 =
    .accepted ∧ x.opened ≤ q ∧ (s.dieAt (siteOf r)).ungated = true ∧ (s.dieAt (siteOf r)).unpowered = false ∧ (s.rgn r).unpowered = false ∧
    (s.rgn r).inReset = false ∧ s.siteFenced (siteOf r) = false ∧ (s.rgn r).cal.retryWin ≤ s.win) ∧
    (∃ (r : RegionNo) (runs0 : List RunResult) (runs1 : List RunResult) (q : Nat) (o : Nat) (s : State), s.fw = true ∧ (s.dieAt (siteOf
    r)).st = .running ∧ s.regionExists r = true ∧ (s.rgn r).chan.st = .dead ∧ (s.rgn r).stop.isSome = true ∧ s.opt.ins = [] ∧ Map.get none
    s.cal.taken (districtOf r) = some o ∧ o ≠ r ∧ (s.rgn r).chan.noSpare = false) ∧
    (∃ (r : RegionNo) (runs0 : List RunResult) (runs1 : List RunResult) (y : Insertion) (s : State), Regular s ∧ (s.findIns (fun y => decide
    (y.kind = 4 ∧ y.planned ∧ y.target = r)) = some y) ∧ ((s.rgn r).chan.st = .paired ∨ (s.rgn r).chan.st = .single) ∧ s.siteFenced (siteOf
    r) = false ∧ s.insRuns y = true ∧ y.step < 4 ∧ (s.rgn r).cal.retryWin ≤ s.win ∧ s.clocked r = true ∧ (s.rgn r).cal.running = false ∧
    (s.rgn r).swap = none ∧ s.pairFree (districtOf r) = true ∧ (s.pairCal r runs0 runs1).2 = .accepted ∧ (s.rgn r).sLast = 0 ∧ (s.rgn
    r).stop = none ∧ (s.rgn r).pend = none) ∧
    (∃ (r : RegionNo) (runs0 : List RunResult) (runs1 : List RunResult) (y : Insertion) (s : State), Regular s ∧ (s.findIns (fun y => decide
    (y.kind = 4 ∧ y.planned ∧ y.target = r)) = some y) ∧ ((∀ z ∈ s.opt.ins, z.kind = 4 → districtOf z.target = districtOf r → z = y)) ∧
    ((s.rgn r).chan.st = .paired ∨ (s.rgn r).chan.st = .single) ∧ s.siteFenced (siteOf r) = false ∧ s.insRuns y = true ∧ s.clocked r = true
    ∧ (s.rgn r).cal.running = false ∧ (s.rgn r).swap = none ∧ Map.get none s.cal.taken (districtOf r) = some r ∧ y.step = 4 ∧ y.since + 5376
    ≤ s.now) :=
  ⟨⟨2, 0, insAt 2 0 0 1 none, insOf [insAt 2 0 0 1 none] { up with opt := { up.opt with failed := [0] } }, by decide +kernel⟩,
  ⟨0, insAt 2 0 0 1 none, insOf [insAt 2 0 0 1 none] { up with opt := { up.opt with failed := [0, 2, 3], free := [] } }, by decide +kernel⟩,
  ⟨0, insAt 2 0 0 2 (some 2), insOf [insAt 2 0 0 2 (some 2)]
  { (sites { state := .bridged, routes := [⟨0, 0, 6⟩, ⟨0, 1, 6⟩, ⟨0, 2, 7⟩, ⟨0, 3, 6⟩], lfail := [3] }) with opt := { (sites { state := .bridged, routes := [⟨0, 0, 6⟩, ⟨0, 1, 6⟩, ⟨0, 2, 7⟩, ⟨0, 3, 6⟩], lfail := [3] }).opt with failed := [0], tone := 2 } },
  by decide +kernel⟩,
  ⟨0, [run0, run0], [run0, run0], 5, ⟨3, 5, 2400, true, false⟩,
  { setR 0 { deadR with rep := { found := true } } up with cal := { spares := [(0, some cset)] } }, regular_of _ (by decide +kernel),
  by decide +kernel⟩,
  ⟨0, [], [], 5, 1, { setR 0 deadR up with cal := { taken := [(0, some 1)] } }, by decide +kernel⟩,
  ⟨0, [run0, run0], [run0, run0], (insertion 4 0 0 0 none true false 1), insOf [(insertion 4 0 0 0 none true false 1)]
  { up with cal := { spares := [(0, some cset)] } }, regular_of _ (by decide +kernel), by decide +kernel⟩,
  ⟨0, [], [], { (insertion 4 0 0 0 none true false 4) with since := 2000000 }, insOf
  [{ (insertion 4 0 0 0 none true false 4) with since := 2000000 }] { up with cal := { taken := [(0, some 0)] } }, regular_of _
  (by decide +kernel), by decide +kernel⟩⟩

/-- The hypotheses of DegradationLadder can be met. -/
theorem witness_DegradationLadder :
    (∃ (site : Site) (q : Fin 4) (p : Nat) (g : Nat) (links : List (Nat × Nat)) (delays : List Nat) (y : Insertion) (s : State), Regular s ∧
    let x := s.site site
    (s.findIns (fun y => decide (y.kind = 1 ∧ y.target = site.val ∧ y.quad = q.val ∧ !y.planned)) = some y) ∧ s.insRuns y = true ∧ y.step ≤
    2 ∧ s.siteWaits site = false ∧ x.served = true ∧ x.freeGroups = [] ∧ x.path q = some (p, links) ∧ links ≠ [] ∧ x.fixed q = false ∧ x.own
    q = false ∧ (x.route q).feed = x.borrow q ∧ s.now % 256 = 0 ∧ delays.length = links.length ∧ (x.down.find? (fun e => decide (e.1 = 1 ∧
    e.2.2 = q.val)) = some (1, g, q.val)) ∧ g < 7) ∧
    (∃ (site : Site) (s : State),
    let x := s.site site
    s.chrysalis = true ∧ s.now % 256 = 0 ∧ (x.state = .optical ∨ x.state = .bridged) ∧ (s.opt.lostTone = true ∨ s.opt.lostSlot = true ∨
    (s.siteWaits site = false ∧ x.freeLandings = [] ∧ ∃ q, q < 4 ∧ ((∃ y, s.findIns (fun y => decide (y.kind = 0 ∧ y.target = site.val ∧
    y.quad = q)) = some y ∧ y.planned = false ∧ y.step ≤ 2 ∧ s.insRuns y = true) ∨ (s.findIns (fun y => decide (y.kind = 0 ∧ y.target =
    site.val ∧ y.quad = q)) = none ∧ x.noLanding q = true))))) ∧
    (∃ (c : Nat) (p : Int) (e : Fin 4) (launched : List (Fin 4 × Int)) (s : State), s.fw = true ∧ s.now % 256 = 0 ∧ s.opt.lostTone = true ∧
    s.opt.lostSlot = false ∧ s.freeCarrier = some c ∧ launched.find? (fun e => decide (e.1.val = c)) = some (e, p) ∧ s.warnAt ≤ p) ∧
    (∃ (site : Site) (backupFailed : Bool) (s : State), Regular s ∧
    let x := s.site site
    s.chrysalis = true ∧ x.served = true ∧ (site = 16 ∨ (s.dieAt site).st = .lost) ∧ (((∀ q, q < 4 → (x.route q).group = 7) ∧ ∀ g, g < 7 → g
    ∈ x.gfail ∨ x.isDown 1 g = true) ∨ (x.state = .backup ∧ (x.backupBad = true ∨ backupFailed = true)))) :=
  ⟨⟨3, 0, 3, 0, [(2, 3)], [100], insAt 1 3 0 1 none, insOf [insAt 1 3 0 1 none] (sites
  { state := .bridged, gfail := [4, 5, 6], down := [(1, 0, 0)], freed := [0], routes := rt0 ⟨1, 7, 7⟩ }), regular_of _ (by decide +kernel),
  by decide +kernel⟩,
  ⟨3, { up with opt := { up.opt with lostTone := true } }, by decide +kernel⟩,
  ⟨2, 0, 2, [(3, -100), (2, 0)],
  { (sites { state := .backup, routes := [⟨0, 0, 6⟩, ⟨0, 1, 6⟩, ⟨0, 2, 6⟩, ⟨0, 3, 6⟩] }) with opt := { (sites { state := .backup, routes := [⟨0, 0, 6⟩, ⟨0, 1, 6⟩, ⟨0, 2, 6⟩, ⟨0, 3, 6⟩] }).opt with lostTone := true, failed := [0, 3], free := [2] } },
  by decide +kernel⟩,
  ⟨16, false, sites { state := .backup, backupBad := true, routes := [⟨0, 0, 6⟩, ⟨0, 1, 6⟩, ⟨0, 2, 6⟩, ⟨0, 3, 6⟩] }, regular_of _
  (by decide +kernel), by decide +kernel⟩⟩

/-- The hypotheses of MeasurementsAndRouteCommands can be met. -/
theorem witness_MeasurementsAndRouteCommands :
    (∃ (site : Site) (l : Fin 6) (s : State), bitOf s.opt.ctrl.eff 0 = true ∧ s.opt.armed = none ∧ (s.site site).served = true ∧ l.val ∉
    (s.site site).lfail ∧ s.recalDue site l = true) ∧
    (∃ (m : RouteTerm) (delay : Nat) (l : Nat) (x : Term) (s : State), Regular s ∧ (s.site m.site).served = true ∧ delay < 2 ^ 20 ∧
    s.opt.armed = some (m.site.val, l) ∧ (m.kind ≠ 0 ∨ l = m.index) ∧ s.findWait (RouteTerm.asked m) = none ∧ s.term (RouteTerm.key m) =
    some x) ∧
    (∃ (s : State), s.now % 256 = 0) ∧
    (∃ (site : Site) (r : RegionNo) (k : Nat) (d : Nat) (s : State), Regular s ∧ siteOf r = site.val ∧ k < 4 ∧ (s.site site).laneDue.isSome
    = true ∧ (s.laneAt r k).st.up = true) ∧
    (∃ (site : Site) (ds : List (RegionNo × Nat × Nat)) (s : State), (s.site site).laneDue = none) ∧
    (∃ (q : Req) (s : State), ready s 0x0501 q = true ∧ q.tgt ≤ 22) ∧
    (∃ (q : Req) (site : Site) (kind : Fin 5) (s : State), ready s 0x0503 q = true ∧ q.tgt = site.val ∧ q.u8 0 = kind.val ∧ q.u8 1 ≤ (if
    kind = 0 then 5 else 6) ∧ q.u8 2 ≤ 3 ∧ (s.site site).served = true ∧ s.opt.ins = []) ∧
    (∃ (m : RouteTerm) (delay : Nat) (x : Term) (b : Fin 8) (s : State), (s.site m.site).served = true ∧ delay < 2 ^ 20 ∧ s.term
    (RouteTerm.key m) = some x ∧ ((delay : Int) - x.inUse).natAbs ≤ 20 ∧ s.findWait (RouteTerm.asked m) = some b ∧ ((∀ n, n ≠ b → ∀ w,
    (s.box n).wait = some w → RouteTerm.asked m w = false))) ∧
    (∃ (q : Req) (i : Nat) (s : State), ready s 0x0502 q = true ∧ q.u8 0 = 2 ∧ q.tgt = 0 ∧ (q.u8 1 = s.opt.tone ∨ q.u8 1 = s.opt.slot) ∧
    q.u8 2 = 0 ∧ q.u8 1 ∈ s.opt.failed ∧ ((∀ y ∈ s.opt.ins, y.kind ≠ 2)) ∧ s.freeHandle (decide (q.mbx = 7)) = some i) :=
  ⟨⟨3, 1, up, by decide +kernel⟩,
  ⟨⟨3, 1, 1, 2, 0⟩, 20, 2, ⟨0, 0, 5, none⟩, termsOf [(termKey 3 1 1 2 0, ⟨0, 0, 5, none⟩)]
  { up with opt := { up.opt with armed := some (3, 2) } }, regular_of _ (by decide +kernel), by decide +kernel⟩,
  ⟨termsOf [(3, ⟨0, 5, 5, none⟩), (termKey 3 1 1 2 0, ⟨7, 0, 5, none⟩)] up, by decide +kernel⟩,
  ⟨0, 0, 1, 300,
  { up with xg := { lane := [(1, { st := .aligned })] }, opt := { up.opt with site := Vector.replicate 23 { state := .optical, laneDue := some 5 } } },
  regular_of _ (by decide +kernel), by decide +kernel⟩,
  ⟨3, [(0, 0, 5)], up, by decide +kernel⟩,
  ⟨rq 0 22 [], up, by decide +kernel⟩,
  ⟨rqX 0 22 [4, 0, 0], 22, 4, up, by decide +kernel⟩,
  ⟨⟨3, 1, 1, 2, 0⟩, 20, ⟨0, 0, 5, none⟩, 5,
  { termsOf [(termKey 3 1 1 2 0, ⟨0, 0, 5, none⟩)] up with mbx := { box := (Vector.replicate 8 {}).set 5 { st := .working, wait := some (.opticRecal ⟨3, 1, 1, 2, 0⟩) } } },
  by decide +kernel⟩,
  ⟨rqX 0 0 [2, 0, 0], 0, { up with opt := { up.opt with failed := [0] } }, by decide +kernel⟩⟩

/-- The hypotheses of HostOffsetsPeersAndKeys can be met. -/
theorem witness_HostOffsetsPeersAndKeys :
    (∃ (q : Req) (s : State), ready s 0x0B05 q = true ∧
    let x := stampSRead q.payload 0
    let a := q.le 16 8 * 65536 + q.le 24 2
    s.discSrc = 2 ∧ q.le 32 4 ≤ fld s.sp.host.eff 15 0 ∧ a ≤ s.now * 65536 ∧ s.now * 65536 ≤ a + 1000000000 * 65536 ∧ s.et.hostLast = none)
    ∧
    (∃ (q : Req) (s : State), ready s 0x0B05 q = true ∧ (s.discSrc ≠ 2 ∨ fld s.sp.host.eff 15 0 < q.le 32 4)) ∧
    (∃ (x : Int) (u : Nat) (a : Nat) (s : State), s.et.hostLast = some (x, u, a) ∧ s.et.host = true ∧ a + 10000000000 ≤ s.now) ∧
    (∃ (q : Req) (s : State), ready s 0x0B02 q = true ∧ q.u8 0 ≤ 1 ∧ q.u8 1 ≤ 1 ∧
    let one := decide (q.u8 0 = 1)
    let id := BitVec.ofNat 64 (q.le 8 8)
    (s.spPort one).peer = none ∧ s.quarantined id = false) ∧
    (∃ (q : Req) (s : State), ready s 0x0B02 q = true ∧ q.u8 0 ≤ 1 ∧ q.u8 1 ≤ 1 ∧ (s.spPort (decide (q.u8 0 = 1))).peer.isSome = true) ∧
    (∃ (q : Req) (s : State), ready s 0x0B02 q = true ∧ q.u8 0 ≤ 1 ∧ q.u8 1 ≤ 1 ∧ (s.spPort (decide (q.u8 0 = 1))).peer = none ∧
    s.quarantined (BitVec.ofNat 64 (q.le 8 8)) = true) ∧
    (∃ (q : Req) (s : State), ready s 0x0B03 q = true ∧ q.u8 0 ≤ 1 ∧ (s.spPort (decide (q.u8 0 = 1))).peer.isSome = true) ∧
    (∃ (q : Req) (s : State), ready s 0x0B04 q = true ∧ q.u8 0 = 0) ∧
    (∃ (q : Req) (s : State), ready s 0x0B04 q = true ∧ q.u8 0 = 1) ∧
    (∃ (q : Req) (s : State), ready s 0x0B01 q = true) ∧
    (∃ (port : Fin 2) (k : Key) (a : Nat) (s : State), (s.spPort (decide (port.val = 1))).prev = some (k, a) ∧ a ≤ s.now) ∧
    (∃ (port : Fin 2) (s : State), s.sys.pkgReset = false ∧
    let p := s.spPort (decide (port.val = 1))
    p.lock = false) ∧
    (∃ (port : Fin 2) (s : State), Regular s ∧
    let p := s.spPort (decide (port.val = 1))
    p.lock = true) ∧
    (∃ (id : BitVec 64) (e : Quar) (s : State), e ∈ s.sp.quar ∧ e.id = id ∧ e.until_ ≤ s.now) :=
  ⟨⟨rq 0 0 (zeros 16 ++ f 8 2559000 ++ f 8 0 ++ f 4 1000 ++ zeros 12), { up with et := { ctrl := Machine.Lat.of 2, adoptNext := true } },
  by decide +kernel⟩,
  ⟨rq 0 0 (zeros 16 ++ f 8 2559000 ++ f 8 0 ++ f 4 1000 ++ zeros 12), up, by decide +kernel⟩,
  ⟨5, 6, 0, at_ 10000000000 { up with et := { host := true, hostLast := some (5, 6, 0) } }, by decide +kernel⟩,
  ⟨rq 0 0 ([0, 1] ++ zeros 6 ++ f 8 9), ksl {}, by decide +kernel⟩,
  ⟨rq 0 0 ([0, 1] ++ zeros 6 ++ f 8 9), ksl kp, by decide +kernel⟩,
  ⟨rq 0 0 ([0, 1] ++ zeros 6 ++ f 8 9), { up with sp := { quar := [⟨9, 5000000, 4000000, 1⟩] } }, by decide +kernel⟩,
  ⟨rq 0 0 ([0] ++ zeros 7), ksl kp, by decide +kernel⟩,
  ⟨rqX 0 0 ([0] ++ zeros 15 ++ List.replicate 16 7), ksl kp, by decide +kernel⟩,
  ⟨rqX 0 0 ([1] ++ zeros 15 ++ List.replicate 16 7), ksl kp, by decide +kernel⟩,
  ⟨rq 0 0 [], ksl kp, by decide +kernel⟩,
  ⟨0, zeros 16, 2560000, ksl { prev := some (zeros 16, 2560000) }, by decide +kernel⟩,
  ⟨0, ksl {}, by decide +kernel⟩,
  ⟨0, ksl kp, regular_of _ (by decide +kernel), by decide +kernel⟩,
  ⟨9, ⟨9, 2560000, 4000000, 1⟩, { up with sp := { p0 := { kp with st := 6, qreason := 1 }, quar := [⟨9, 2560000, 4000000, 1⟩] } },
  by decide +kernel⟩⟩

/-- The hypotheses of SpanFrames can be met. -/
theorem witness_SpanFrames :
    (∃ (port : Fin 2) (f : Frame) (s : State),
    let one := decide (port.val = 1)
    let p := s.spPort one
    s.takes one = true ∧ p.fault f = none ∧ frameType f = 1 ∧ byteAt f.bytes 28 ≤ 3 ∧ byteAt f.bytes 29 ≤ 15 ∧ (s.sp.root = true ∨ le
    f.bytes 32 8 ≠ s.ownId)) ∧
    (∃ (port : Fin 2) (f : Frame) (s : State),
    let one := decide (port.val = 1)
    let p := s.spPort one
    s.takes one = true ∧ p.fault f = none ∧ frameType f = 1 ∧ (15 < byteAt f.bytes 29 ∨ 3 < byteAt f.bytes 28 ∨ (s.sp.root = false ∧ le
    f.bytes 32 8 = s.ownId)) ∧ p.fLoop < 7) ∧
    (∃ (port : Fin 2) (f : Frame) (k : Key) (s : State),
    let one := decide (port.val = 1)
    s.takes one = true ∧ s.stamps one = true ∧ (s.spPort one).fault f = none ∧ frameType f = 2 ∧ (s.spPort one).key = some k) ∧
    (∃ (port : Fin 2) (f : Frame) (n : Nat) (t1 : Int) (a : Nat) (s : State),
    let one := decide (port.val = 1)
    let p := s.spPort one
    s.takes one = true ∧ s.stamps one = true ∧ p.fault f = none ∧ frameType f = 3 ∧ p.bootId = some (frameBoot f) ∧ p.probe = some (n, t1,
    a) ∧ le f.bytes 28 4 = n ∧ slice f.bytes 36 16 = stampS t1 ∧ f.arrival ≤ ((a : Int) + 100000) * 65536) ∧
    (∃ (port : Fin 2) (k : Key) (s : State),
    let one := decide (port.val = 1)
    s.sends one = true ∧ (s.spPort one).key = some k ∧ s.due (s.spPort one).annSent 1000000 = true) ∧
    (∃ (port : Fin 2) (k : Key) (s : State),
    let one := decide (port.val = 1)
    let p := s.spPort one
    s.sends one = true ∧ p.key = some k ∧ (p.st = 2 ∨ p.st = 3 ∨ p.st = 4) ∧ s.due p.probedAt s.probeEvery = true) ∧
    (∃ (port : Fin 2) (s : State),
    let one := decide (port.val = 1)
    let p := s.spPort one
    (p.st = 2 ∨ p.st = 3 ∨ p.st = 4) ∧ ((∀ a, p.annAt = some a → a + 3000000 ≤ s.now)) ∧ ((p.annAt = none → p.heardAt + 3000000 ≤ s.now))) ∧
    (∃ (port : Fin 2) (f : Frame) (s : State),
    let one := decide (port.val = 1)
    let p := s.spPort one
    s.takes one = true ∧ p.fault f = some .mac) ∧
    (∃ (port : Fin 2) (f : Frame) (s : State),
    let one := decide (port.val = 1)
    let p := s.spPort one
    s.takes one = true ∧ p.fault f = some .identity ∧ (s.failList p.ident).2 = false) ∧
    (∃ (port : Fin 2) (x : Nat × Int × Nat) (s : State),
    let one := decide (port.val = 1)
    (s.spPort one).probe = some x) :=
  ⟨frame_1,
  frame_2,
  frame_3,
  frame_4,
  ⟨0, zeros 16, ksl kp, by decide +kernel⟩,
  ⟨0, zeros 16, ksl kp, by decide +kernel⟩,
  ⟨0, at_ 3000000 (ksl { kp with st := 3, annAt := some 0 }), by decide +kernel⟩,
  ⟨0, { frm 1 1 (ann 3 0 77) 0 with mac := [] }, ksl kp, by decide +kernel, fault_mac _ _ (zeros 16) rfl rfl⟩,
  frame_9,
  ⟨0, (1, 2, 3), ksl { kp with probe := some (1, 2, 3) }, by decide +kernel⟩⟩

/-- The hypotheses of APeriodEnds can be met. -/
theorem witness_APeriodEnds :
    (∃ (r : RegionNo) (taps : Nat) (vmin : Nat) (offers : List (Option Nat)) (s : State), Regular s ∧ s.clocked r = true ∧ (s.rgn r).stop =
    none) :=
  ⟨0, 5, 700, [], setR 0 { edge := 2559000 * 32768, win := 9996 } up, regular_of _ (by decide +kernel), by decide +kernel⟩

/-- The hypotheses of StretchLoopAndNotices can be met. -/
theorem witness_StretchLoopAndNotices :
    (∃ (r : RegionNo) (s : State), Regular s ∧ s.clocked r = true ∧ (s.rgn r).stop = none ∧ (s.rgn r).sl.st ≠ .fixed ∧ ((s.rgn r).sl.toFixed
    = false ∨ (s.rgn r).edge ≤ (s.rgn r).sl.asked * 32768)) ∧
    (∃ (r : RegionNo) (s : State), Regular s ∧ s.clocked r = true ∧ (s.rgn r).stop = none ∧ (s.rgn r).sl.st ≠ .fixed ∧ (s.rgn r).sl.toFixed
    = true ∧ (s.rgn r).sl.asked * 32768 < (s.rgn r).edge ∧ (s.rgn r).sl.margin = 0) ∧
    (∃ (r : RegionNo) (s : State), Regular s ∧ s.clocked r = true ∧ (s.rgn r).stop = none ∧ (s.rgn r).sl.st = .fixed ∧ (s.rgn r).sl.toIdle =
    true ∧ (s.rgn r).sl.askedOn * 32768 < (s.rgn r).edge) ∧
    (∃ (r : RegionNo) (k : Fin 4) (v : Nat) (p : Nat) (s : State), Regular s ∧ (s.laneAt r k).sNote = some (v, p) ∧ (s.rgn r).sl.st ≠ .fixed
    ∧ (s.rgn r).symEn.getLsbD k = true) :=
  ⟨⟨0, slR { toFixed := true, l2 := 3 }, regular_of _ (by decide +kernel), by decide +kernel⟩,
  ⟨0, setR 0 { edge := 2559000 * 32768, sl := { toFixed := true, s := 3 } } up, regular_of _ (by decide +kernel), by decide +kernel⟩,
  ⟨0, setR 0 { edge := 2559000 * 32768, tg := 40000, sl := { st := .fixed, toIdle := true, margin := 1000 } } up, regular_of _
  (by decide +kernel), by decide +kernel⟩,
  ⟨0, 1, 3, 300, { up with reg := [(0, { symEn := 0xF })], xg := { lane := [(1, { sNote := some (3, 300) })] } }, regular_of _
  (by decide +kernel), by decide +kernel⟩⟩

/-- The hypotheses of AWindowBegins can be met. -/
theorem witness_AWindowBegins :
    (∃ (r : RegionNo) (m : WinMeas) (s : State), Regular s ∧ s.clocked r = true ∧ (s.rgn r).stop = none ∧ (s.rgn r).win < winOfQ (s.rgn
    r).edge) ∧
    (∃ (r : RegionNo) (m : WinMeas) (s : State), Regular s ∧ validRegion r = true ∧ (s.rgn r).chan.st = .dead ∧ (s.rgn r).win < s.win) :=
  ⟨⟨0, ⟨5, 0, 400, 10, 20⟩, setR 0 { edge := 2560000 * 32768 + 5, win := 9999 } up, regular_of _ (by decide +kernel), by decide +kernel⟩,
  ⟨0, ⟨5, 0, 400, 10, 20⟩, setR 0 { chan := { st := .dead }, win := 9999 } up, regular_of _ (by decide +kernel), by decide +kernel⟩⟩

/-- The hypotheses of PeriodsAreTargetedAndChanged can be met. -/
theorem witness_PeriodsAreTargetedAndChanged :
    (∃ (g : Region) (trim : Int), g.planEn = true ∧ g.sl.st ≠ .fixed ∧ g.trimFast ≤ trim ∧ trim ≤ g.trimSlow) ∧
    (∃ (g : Region) (trim : Int), g.planEn = false ∧ g.sl.st ≠ .fixed) ∧
    (∃ (g : Region) (trim : Int), g.planEn = false ∧ g.sl.st = .fixed) ∧
    (∃ (g : Region) (err : Int), 0 < g.fl.fast) ∧
    (∃ (g : Region) (err : Int), g.floopActs = true ∧ g.chan.twin = .standby ∧ g.chan.locked = false) ∧
    (∃ (g : Region) (err : Int), g.chan.twin ≠ .standby) ∧
    (∃ (q : Req) (s : State), ready s 0x0201 q = true ∧ q.u8 0 = 0 ∧ q.level = true ∧ q.u8 1 = 0 ∧ 160 ≤ q.le 2 2 ∧ q.le 2 2 ≤ 1280 ∧
    s.regionExists q.tgt = true ∧ (s.rgn q.tgt).chan.st ≠ .dead ∧ s.xState (xId 4 q.tgt) = .whole ∧ (s.rgn q.tgt).minCode ≤ q.le 2 2) ∧
    (∃ (q : Req) (s : State) (c : Nat), ready s 0x0201 q = true ∧ q.u8 0 = 0 ∧ q.level = false ∧ q.u8 1 ≤ 15 ∧ s.perfCode (districtOf q.tgt)
    (q.u8 1) = some c ∧ s.regionExists q.tgt = true ∧ (s.rgn q.tgt).chan.st ≠ .dead ∧ s.xState (xId 4 q.tgt) = .whole ∧ c < (s.rgn
    q.tgt).minCode) ∧
    (∃ (r : RegionNo) (c : Nat) (s : State), Regular s ∧ validRegion r = true ∧ s.xState (xId 4 r) = .whole ∧ s.planWaits r = false ∧
    s.planOnly = false ∧ (s.rgn r).tx = none) ∧
    (∃ (r : RegionNo) (c : Nat) (x : Xfer × Nat) (s : State), Regular s ∧ validRegion r = true ∧ (s.rgn r).tx = some x) ∧
    (∃ (r : RegionNo) (c : Nat) (at_ : Nat) (st : Nat) (pay : Bytes) (m : Fin 8) (s : State), Regular s ∧ validRegion r = true ∧ (s.rgn
    r).tx = some (.period c, at_) ∧ s.clocked r = true ∧ s.xState (xId 4 r) = .whole ∧ (s.box m).st = .working ∧ (s.box m).wait = some
    (.period [r] st pay) ∧ ((∀ n : Fin 8, n ≠ m → (match (s.box n).wait with | some (.period _ _ _) => true | _ => false) = false))) ∧
    (∃ (q : Req) (s : State), ready s 0x0201 q = true ∧ q.u8 0 = 0 ∧ q.level = true ∧ q.u8 1 = 0 ∧ 160 ≤ q.le 2 2 ∧ q.le 2 2 ≤ 1280 ∧
    s.regionExists q.tgt = true ∧ (s.rgn q.tgt).chan.st = .dead) ∧
    (∃ (q : Req) (s : State), ready s 0x0202 q = true ∧ s.regionExists q.tgt = true) ∧
    (∃ (r : RegionNo) (c : Nat) (at_ : Nat) (s : State), Regular s ∧ (s.rgn r).tx = some (.period c, at_) ∧ s.clocked r = true ∧ s.xState
    (xId 4 r) = .whole) ∧
    (∃ (r : RegionNo) (c : Nat) (at_ : Nat) (s : State), Regular s ∧ (s.rgn r).pend = some (c, at_) ∧ s.clocked r = true ∧ (s.rgn r).stop =
    none ∧ nextAfter 256 at_ * 32768 < (s.rgn r).edge ∧ (s.rgn r).stopWin ≠ some (winOfQ (s.rgn r).edge) ∧ c ≠ (s.rgn r).nominal) ∧
    (∃ (r : RegionNo) (q : Nat) (vmin : Nat) (op : Nat) (c : Nat) (fixed : Bool) (s : State), Regular s ∧ (s.rgn r).stop = some ⟨1, op, c,
    false, fixed⟩ ∧ op + 33 * 32768 ≤ q ∧ q ≤ op + 40 * 32768) ∧
    (∃ (r : RegionNo) (q : Nat) (vmin : Nat) (x : Stop) (s : State), (s.rgn r).stop = some x ∧ (q < x.opened + 33 * 32768 ∨ x.opened + 40 *
    32768 < q)) ∧
    (∃ (r : RegionNo) (x : Stop) (s : State), (s.rgn r).stop = some x ∧ x.kind = 1 ∧ x.failed = false) ∧
    (∃ (r : RegionNo) (why : SwapWhy) (w : Nat) (s : State), Regular s ∧ s.clocked r = true ∧ (s.rgn r).stop = none ∧ (s.rgn r).swap = some
    ⟨why, some w⟩ ∧ (s.rgn r).chan.hasTwin = true) :=
  ⟨⟨{}, 3, by decide +kernel⟩,
  ⟨{ regs := { ctrl := Machine.Lat.of 0 } }, 3, by decide +kernel⟩,
  ⟨{ regs := { ctrl := Machine.Lat.of 0 }, sl := { st := .fixed } }, 3, by decide +kernel⟩,
  ⟨{ fl := { fast := 4, flock := true } }, -3000, by decide +kernel⟩,
  ⟨{ fl := { biasB := 20 } }, -900, by decide +kernel⟩,
  ⟨{ chan := { twin := .busy } }, 900, by decide +kernel⟩,
  ⟨rqX 0 0 [0, 0, 0x00, 0x05], up, by decide +kernel⟩,
  ⟨rq 0 0 [0, 0], { based {} with cfg := { base := some { base0 with perf := toLE 2 200 }, layers := ⟨1, [], [], none⟩ } }, 200,
  by decide +kernel⟩,
  ⟨0, 400, up, regular_of _ (by decide +kernel), by decide +kernel⟩,
  ⟨0, 400, (.period 300, 5), setR 0 { tx := some (.period 300, 5) } up, regular_of _ (by decide +kernel), by decide +kernel⟩,
  ⟨0, 400, 5, 0, [1, 2], 4,
  { setR 0 { tx := some (.period 400, 5) } up with mbx := { box := (Vector.replicate 8 {}).set 4 { st := .working, wait := some (.period [0] 0 [1, 2]) } } },
  regular_of _ (by decide +kernel), by decide +kernel⟩,
  ⟨rqX 0 0 [0, 0, 0xF0, 0x00], setR 0 deadR up, by decide +kernel⟩,
  ⟨rq 0 0 [], up, by decide +kernel⟩,
  ⟨0, 300, 5, setR 0 { tx := some (.period 300, 5) } up, regular_of _ (by decide +kernel), by decide +kernel⟩,
  ⟨0, 300, 2559000, setR 0 { pend := some (300, 2559000), edge := 2559999 * 32768 } up, regular_of _ (by decide +kernel),
  by decide +kernel⟩,
  ⟨0, 2559035 * 32768, 700, 2559000 * 32768, 300, false, setR 0
  { stop := some ⟨1, 2559000 * 32768, 300, false, false⟩, sl := { st := .paused } } up, regular_of _ (by decide +kernel),
  by decide +kernel⟩,
  ⟨0, 2559032 * 32768, 500, ⟨1, 2559000 * 32768, 300, false, true⟩, setR 0 { stop := some ⟨1, 2559000 * 32768, 300, false, true⟩ } up,
  by decide +kernel⟩,
  ⟨0, ⟨1, 2559000 * 32768, 300, false, true⟩, setR 0 { stop := some ⟨1, 2559000 * 32768, 300, false, true⟩ } up, by decide +kernel⟩,
  ⟨0, .drift, 5, setR 0 { swap := some ⟨.drift, some 5⟩, edge := 2559000 * 32768 } up, regular_of _ (by decide +kernel), by decide +kernel⟩⟩

/-- The hypotheses of OscillatorsFailAndSwap can be met. -/
theorem witness_OscillatorsFailAndSwap :
    (∃ (r : RegionNo) (s : State), Regular s ∧ s.clocked r = true ∧ (s.rgn r).stop = none ∧ (s.rgn r).chan.hasTwin = true) ∧
    (∃ (r : RegionNo) (q : Nat) (vmin : Nat) (x : Stop) (s : State), Regular s ∧ (s.rgn r).stop = some x ∧ x.failed = true ∧ x.opened ≤ q ∧
    (s.rgn r).chan.hasTwin = true) ∧
    (∃ (r : RegionNo) (s : State), Regular s ∧ validRegion r = true ∧ (s.rgn r).chan.st ≠ .dead ∧ (s.rgn r).chan.hasTwin = false ∧
    (s.clocked r = true ∨ (s.rgn r).stop.isSome = true)) ∧
    (∃ (r : RegionNo) (s : State), Regular s ∧ (s.rgn r).chan.reloadWin.isSome = true ∧ (s.rgn r).chan.twin = .standby ∧ (s.rgn
    r).cal.ending = false) ∧
    (∃ (r : RegionNo) (s : State), Regular s ∧ (s.rgn r).chan.reloadWin.isSome = true ∧ (s.rgn r).chan.twin = .standby ∧ (s.rgn
    r).cal.ending = true) ∧
    (∃ (r : RegionNo) (s : State), Regular s ∧ s.clocked r = true ∧ (s.rgn r).chan.hasTwin = true ∧ (s.rgn r).stop = none ∧ (s.rgn r).pend =
    none ∧ 2 ≤ (s.rgn r).fl.drift) ∧
    (∃ (r : RegionNo) (s : State), Regular s ∧ s.clocked r = true ∧ (s.rgn r).chan.hasTwin = true ∧ (s.rgn r).stop = none ∧ (s.rgn r).pend =
    none ∧ s.fw = true ∧ s.twinSuspect r = false ∧ (s.rgn r).swap = none ∧ (s.rgn r).chan.twin = .standby ∧ (s.rgn r).cal.phase = 4 ∧ (s.rgn
    r).cal.ending = false ∧ (s.rgn r).chan.reloadWin = none ∧ s.gapApplies r = false) ∧
    (∃ (r : RegionNo) (s : State), Regular s ∧ (s.rgn r).cal.phase = 4 ∧ (s.rgn r).cal.test = false ∧ s.gapApplies r = true) ∧
    (∃ (r : RegionNo) (why : SwapWhy) (w : Nat) (s : State), Regular s ∧ (s.rgn r).swap = some ⟨why, some w⟩ ∧ s.clocked r = true ∧ (s.rgn
    r).stop = none ∧ (s.rgn r).pend = none ∧ (s.rgn r).sLast = 0 ∧ (why = .drift ∨ (s.rgn r).win < w + 16)) ∧
    (∃ (r : RegionNo) (why : SwapWhy) (w : Nat) (s : State), Regular s ∧ (s.rgn r).swap = some ⟨why, some w⟩ ∧ (why = .wear ∨ why = .retire)
    ∧ w + 16 ≤ (s.rgn r).win) ∧
    (∃ (r : RegionNo) (w : Nat) (s : State), Regular s ∧ (s.rgn r).swap = some ⟨.calibration, some w⟩ ∧ w + 16 ≤ (s.rgn r).win) :=
  ⟨⟨0, setR 0 { edge := 2559000 * 32768 } up, regular_of _ (by decide +kernel), by decide +kernel⟩,
  ⟨0, 2559035 * 32768, 700, ⟨2, 2559000 * 32768, 512, true, false⟩, setR 0
  { stop := some ⟨2, 2559000 * 32768, 512, true, false⟩, sl := { st := .paused } } up, regular_of _ (by decide +kernel), by decide +kernel⟩,
  ⟨0, setR 0 { edge := 2559000 * 32768, chan := { st := .single, twin := .failed } } up, regular_of _ (by decide +kernel),
  by decide +kernel⟩,
  ⟨0, setR 0 { chan := { reloadWin := some 5 } } up, regular_of _ (by decide +kernel), by decide +kernel⟩,
  ⟨0, calR { chan := { reloadWin := some 5 }, cal := { phase := 4, ending := true } } { busy := [0] }, regular_of _ (by decide +kernel),
  by decide +kernel⟩,
  ⟨0, setR 0 { fl := { drift := 2 } } up, regular_of _ (by decide +kernel), by decide +kernel⟩,
  ⟨0, calR { cal := { phase := 4 } } { busy := [0] }, regular_of _ (by decide +kernel), by decide +kernel⟩,
  ⟨0, calR { chan := { st := .single, twin := .failed }, cal := { phase := 4 } } { busy := [0] }, regular_of _ (by decide +kernel),
  by decide +kernel⟩,
  ⟨0, .calibration, 9998, calR { win := 9999, swap := some ⟨.calibration, some 9998⟩, chan := { twin := .busy, st := .twinBusy } } {},
  regular_of _ (by decide +kernel), by decide +kernel⟩,
  ⟨0, .wear, 998, calR { win := 9999, swap := some ⟨.wear, some 998⟩, chan := { twin := .busy, st := .twinBusy } } {}, regular_of _
  (by decide +kernel), by decide +kernel⟩,
  ⟨0, 998, calR { win := 9999, swap := some ⟨.calibration, some 998⟩, chan := { twin := .busy, st := .twinBusy }, cal := { phase := 4 } }
  { busy := [0] }, regular_of _ (by decide +kernel), by decide +kernel⟩⟩

/-- The hypotheses of SynthesizersRideAndRenegotiate can be met. -/
theorem witness_SynthesizersRideAndRenegotiate :
    (∃ (q : Fin 4) (s : State), s.refGood q = false) ∧
    (∃ (i : Fin 72) (a : Nat) (s : State), (s.synth i).st = .ride ∧ (s.synth i).rideAt = some a ∧ (s.synth i).rideOver = false ∧ a +
    s.rideNs ≤ s.now) ∧
    (∃ (q : Fin 4) (s : State), s.autoRate = true) ∧
    (∃ (p : Fin 64) (i : Nat) (s : State), s.serving p = some i ∧ (s.port p).rate ≠ .none ∧ (s.port p).ack = false ∧ s.portHeard p = true ∧
    (s.portSees p).2.1 = (s.port p).rate) ∧
    (∃ (p : Fin 64) (i : Nat) (a : Nat) (s : State), s.serving p = some i ∧ (s.port p).reqAt = some a ∧ (s.port p).ack = false ∧ a +
    s.renegNs ≤ s.now ∧ (s.port p).rate = .half) ∧
    (∃ (p : Fin 64) (i : Nat) (a : Nat) (s : State), s.serving p = some i ∧ (s.port p).reqAt = some a ∧ (s.port p).ack = false ∧ a +
    s.renegNs ≤ s.now ∧ (s.port p).rate = .full) ∧
    (∃ (p : Fin 64) (i : Nat) (a : Nat) (s : State), s.serving p = some i ∧ s.opt.since16.getD (p.val / 16) none = some a ∧ (s.synth i).st =
    .locked ∧ (s.synth i).half = true ∧ (s.synth i).pinHalf = false ∧ s.autoRate = true ∧ a + 1000000 ≤ s.now ∧ (s.port p).rate = .none ∧
    ((∀ d, (s.port p).declinedAt = some d → d + 10000000 ≤ s.now)) ∧ (s.port p).st ≠ .down) ∧
    (∃ (p : Fin 64) (a : Nat) (s : State), (s.port p).grantAt = some a ∧ (s.port p).grant = true ∧ a + 1000000 ≤ s.now) ∧
    (∃ (q : Req) (s : State), ready s 0x0601 q = true ∧ q.u8 0 = 0 ∧ q.tgt ≤ 63) ∧
    (∃ (q : Req) (s : State), ready s 0x0601 q = true ∧ q.u8 0 = 1 ∧ q.tgt ≤ 3) ∧
    (∃ (q : Req) (s : State), ready s 0x0602 q = true ∧ q.tgt ≤ 63 ∧ q.u8 0 = 0 ∧ q.u8 1 ≤ 1 ∧ q.u8 2 = 0 ∧
    let i := s.portSynth q.tgt
    i < 64 ∧ (s.synth i).en = true ∧ s.synthBusy i = false ∧ s.portLive i = false) ∧
    (∃ (q : Req) (s : State), ready s 0x0602 q = true ∧ q.tgt ≤ 63 ∧ q.u8 0 = 0 ∧ q.u8 1 ≤ 1 ∧ q.u8 2 = 0 ∧ q.force = false ∧
    let i := s.portSynth q.tgt
    (s.synth i).en = true ∧ s.synthBusy i = false ∧ s.portLive i = true) ∧
    (∃ (q : Req) (s : State), ready s 0x0602 q = true ∧ q.tgt ≤ 63 ∧ q.u8 0 = 0 ∧ q.u8 1 ≤ 1 ∧ q.u8 2 = 0 ∧ (s.synth (s.portSynth q.tgt)).en
    = true ∧ s.synthBusy (s.portSynth q.tgt) = true) ∧
    (∃ (q : Req) (s : State), ready s 0x0602 q = true ∧ q.tgt ≤ 63 ∧ q.u8 0 ≤ 1 ∧ q.u8 1 ≤ 1 ∧ q.u8 2 = 1 ∧ (s.optical16 (q.tgt / 16) =
    false ∨ q.u8 1 = 1)) :=
  ⟨⟨1,
  { lsU { synth := 3 } { st := .locked } with opt := { site := Vector.replicate 23 { state := .isolated, routes := List.replicate 4 ⟨3, 7, 7⟩ } } },
  by decide +kernel⟩,
  ⟨16, 5,
  { lsU { synth := 3 } { st := .ride, rideAt := some 5, port := some 3 } with opt := { site := Vector.replicate 23 { state := .isolated, routes := List.replicate 4 ⟨3, 7, 7⟩ } } },
  by decide +kernel⟩,
  ⟨0,
  { up with ls := { (Ls.mk 0x0A640A03 (Vector.replicate 72 { st := .ride, rideAt := some 5, port := some 3 }) (Vector.replicate 64 { st := .live }) 0xFF 0 0 0 0 0) with rides := 1 } },
  by decide +kernel⟩,
  ⟨3, 0, lsU { st := .live, rate := .half, reqAt := some 5 } { st := .ride, port := some 3 }, by decide +kernel⟩,
  ⟨3, 0, 5, lsU { st := .live, rate := .half, reqAt := some 5 } { st := .ride, port := some 3 }, by decide +kernel⟩,
  ⟨3, 0, 5, lsU { st := .live, rate := .full, reqAt := some 5 } { st := .locked, port := some 3 }, by decide +kernel⟩,
  ⟨3, 0, 5,
  { lsU { st := .live } { st := .locked, half := true, port := some 3 } with opt := { up.opt with since16 := List.replicate 4 (some 5) } },
  by decide +kernel⟩,
  ⟨3, 1560000, lsU { grant := true, grantAt := some 1560000 } {}, by decide +kernel⟩,
  ⟨rq 0 63 [0], up, by decide +kernel⟩,
  ⟨rq 0 3 [1], up, by decide +kernel⟩,
  ⟨rqX 0 3 [0, 1, 0], lsU { st := .quiesced } { st := .locked, port := some 3 }, by decide +kernel⟩,
  ⟨rqX 0 3 [0, 1, 0], lsU { st := .live } { st := .locked, port := some 3 }, by decide +kernel⟩,
  ⟨rqX 0 3 [0, 1, 0], lsU { st := .live, rate := .half } { st := .locked, port := some 3 }, by decide +kernel⟩,
  ⟨rqX 0 3 [1, 1, 1], lsU { st := .live } { st := .locked, port := some 3 }, by decide +kernel⟩⟩

/-- The hypotheses of SynthesizersLockFailAndAreReplaced can be met. -/
theorem witness_SynthesizersLockFailAndAreReplaced :
    (∃ (i : Fin 72) (p : Nat) (cw : BitVec 12) (band : BitVec 8) (s : State), (s.synth i).st = .locking ∧ (s.synth i).port = some p ∧ p < 64
    ∧ s.opt.ins = []) ∧
    (∃ (i : Fin 72) (s : State), (s.synth i).st = .locked ∧ (s.synth i).lockAt = none ∧ s.refGood (synthQuad i) = true) ∧
    (∃ (i : Fin 72) (cw : BitVec 12) (band : BitVec 8) (s : State), (s.synth i).st = .locked ∧ (s.synth i).lockAt.isSome = true) ∧
    (∃ (p : Fin 64) (st : PortState) (s : State), s.opt.ins = [] ∧ s.portHeard p = true ∧ (¬ ((s.port p).st = .quiesced ∧ st ≠ .quiesced ∧
    (s.portSees p).2.2 = false)) ∧ (st ≠ .down ∨ (s.port p).rate = .none ∨ (s.port p).ack = true)) ∧
    (∃ (p : Fin 64) (st : PortState) (s : State), (s.portHeard p = false ∨ (s.port p).st = .quiesced ∧ st ≠ .quiesced ∧ (s.portSees p).2.2 =
    false)) ∧
    (∃ (i : Fin 72) (why : SynthFault) (a : Nat) (p : Nat) (s : State), (s.synth i).port = some p ∧ p < 64 ∧ ((∀ x ∈ s.opt.ins, x.kind = 3 →
    x.target ≠ p)) ∧ ((why = .outOfLock ∧ (s.synth i).st = .locked ∧ (s.synth i).lockAt = some a ∧ a + 2000 ≤ s.now ∧ s.refGood (synthQuad
    i) = true) ∨ (why = .outOfLock ∧ (s.synth i).st = .locking ∧ (s.synth i).cold = false ∧ (s.synth i).lockAt = some a ∧ a + 12000 ≤ s.now
    ∧ s.refGood (synthQuad i) = true) ∨ (why = .rangeEnd ∧ (s.synth i).st = .locked) ∨ (why = .coldLock ∧ (s.synth i).st = .locking ∧
    (s.synth i).cold = true ∧ (s.synth i).lockAt = some a ∧ a + 40000 ≤ s.now))) ∧
    (∃ (i : Fin 72) (fs : BitVec 16) (s : State), (s.synth i).st = .locked ∧ (s.synth i).backup = false ∧ jitterLimit (s.synth i).half <
    fs.toNat ∧ (s.synth i).jitRun < 9) ∧
    (∃ (i : Fin 72) (fs : BitVec 16) (s : State), (s.synth i).st = .locked ∧ (s.synth i).backup = false ∧ jitterLimit (s.synth i).half <
    fs.toNat ∧ 9 ≤ (s.synth i).jitRun ∧ (s.synth i).degraded = false) ∧
    (∃ (i : Fin 72) (fs : BitVec 16) (s : State), ((s.synth i).st = .locked ∨ (s.synth i).st = .ride) ∧ fs.toNat ≤ jitterLimit (s.synth
    i).half) ∧
    (∃ (p : Fin 64) (x : Insertion) (j : Nat) (s : State), (s.findIns (fun x => decide (x.kind = 3 ∧ x.target = p.val)) = some x) ∧
    s.insRuns x = true ∧ x.spare = none ∧ x.took = none ∧ ([2 * (p.val / 16), 2 * (p.val / 16) + 1].filter s.spareOk).head? = some j ∧
    (s.synth (64 + j)).half = s.portHalf p ∧ ((∀ i, s.serving p = some i → (s.synth i).st ≠ .ride)) ∧ (s.port p).st ≠ .live) ∧
    (∃ (p : Fin 64) (x : Insertion) (a : Nat) (j : Nat) (s : State), (s.findIns (fun x => decide (x.kind = 3 ∧ x.target = p.val ∧ x.step =
    3)) = some x) ∧ (s.port p).quietAt = some a ∧ (s.port p).qreq = true ∧ a + s.quiesceNs ≤ s.now ∧ x.force = false ∧ x.took = some j ∧ j <
    8 ∧ ((∀ i, s.serving p = some i → (s.synth i).st ≠ .ride)) ∧ (s.port p).st = .live ∧ s.insRuns x = true) ∧
    (∃ (p : Fin 64) (x : Insertion) (s : State), (s.findIns (fun x => decide (x.kind = 3 ∧ x.target = p.val ∧ x.step = 3)) = some x) ∧
    s.insRuns x = false ∧ s.insSuspending x = false) :=
  ⟨⟨71, 63, 0xFFF, 3, lsU {} { st := .locking, port := some 63, lockAt := some 5 }, by decide +kernel⟩,
  ⟨71, lsU {} { st := .locked }, by decide +kernel⟩,
  ⟨71, 5, 6, lsU {} { st := .locked, lockAt := some 2559000 }, by decide +kernel⟩,
  ⟨3, .live, lsU { grant := true, st := .quiesced } {}, by decide +kernel⟩,
  ⟨3, .live, lsU { st := .quiesced } {}, by decide +kernel⟩,
  ⟨3, .outOfLock, 2558000, 3, lsU { st := .live } { st := .locked, lockAt := some 2558000, port := some 3 }, by decide +kernel⟩,
  ⟨3, 101, lsU {} { st := .locked, jitRun := 8 }, by decide +kernel⟩,
  ⟨3, 101, lsU {} { st := .locked, jitRun := 9 }, by decide +kernel⟩,
  ⟨3, 100, lsU {} { st := .ride, jitRun := 9 }, by decide +kernel⟩,
  ⟨3, insAt 3 3 0 1 none, 0, insOf [insAt 3 3 0 1 none]
  { up with ls := { port := Vector.replicate 64 { st := .quiesced, synth := 3 }, syn := ((Vector.replicate 72 {}).set 3 { st := .failed, port := some 3 }).set 64 { st := .locked } } },
  by decide +kernel⟩,
  ⟨3, insAt 3 3 0 3 (some 0), 5, 0, insOf [insAt 3 3 0 3 (some 0)] (lsU { qreq := true, quietAt := some 5, st := .live } {}),
  by decide +kernel⟩,
  ⟨3, { insAt 3 3 0 3 (some 0) with handle := some 0 }, insOf [{ insAt 3 3 0 3 (some 0) with handle := some 0 }] (withOp (op0 .spareInsert
  .suspended) (lsU { qreq := true, quietAt := some 5, st := .live } {})), by decide +kernel⟩⟩

/-- The hypotheses of LanesSlipRealignAndTakeNotices can be met. -/
theorem witness_LanesSlipRealignAndTakeNotices :
    (∃ (r : RegionNo) (k : Fin 4) (p : Nat) (k' : Nat) (s : State), Regular s ∧
    let l := s.laneAt r k
    l.due = true ∧ (l.st = .aligned ∨ l.st = .skewed) ∧ s.linkEnd r k = some (p, k')) ∧
    (∃ (r : RegionNo) (k : Fin 4) (s : State), (s.laneAt r k).due = false) ∧
    (∃ (r : RegionNo) (k : Fin 4) (s : State), Regular s ∧
    let l := (s.laneAt r k).turn (s.rgn r).win
    l.st = .skewed ∧ fld s.xg.ctrl.eff 7 4 ≤ l.quiet) ∧
    (∃ (l : Lane), l.st = .skewed ∧ 8 * l.slot < l.delta.natAbs) ∧
    (∃ (r : RegionNo) (k : Nat) (p : Nat) (k' : Nat) (x : Option Nat) (s : State), Regular s ∧ s.linkEnd r k = some (p, k') ∧
    let l := s.laneAt p k'
    let t := s.laneSource r k x
    4 * p + k' ≠ 4 * r + k ∧ l.st.counts = true ∧ passes l.fSrc (s.rgn r).tg (s.laneSlot r k l) = true) ∧
    (∃ (r : RegionNo) (k : Fin 4) (a : Nat) (w : Nat) (ns : List Note) (s : State), Regular s ∧ (s.laneAt r k).notes = .target a w :: ns) ∧
    (∃ (r : RegionNo) (k : Fin 4) (ns : List Note) (s : State), Regular s ∧ (s.laneAt r k).notes = .stop :: ns) ∧
    (∃ (r : RegionNo) (k : Fin 4) (a : Nat) (x : Bool) (ns : List Note) (s : State), Regular s ∧ (s.laneAt r k).notes = .restart a x :: ns) :=
  ⟨⟨0, 0, 1, 0,
  { linked {} {} { st := .aligned, due := true, tSrc := 32768, tDst := 32768, words := [some 5, none] } { st := .aligned } with et := {} },
  regular_of _ (by decide +kernel), by decide +kernel⟩,
  ⟨0, 0, linked {} {} { st := .aligned } { st := .aligned }, by decide +kernel⟩,
  ⟨0, 0, linked {} {} { st := .skewed, quiet := 255 } { st := .aligned }, regular_of _ (by decide +kernel), by decide +kernel⟩,
  ⟨{ st := .skewed, delta := 700000, tSrc := 32768, words := [some 4, none, some 5] }, by decide +kernel⟩,
  ⟨0, 0, 1, 0, some 7, linked {} {} { quiet := 1 } { st := .aligned, tSrc := 32768, tDst := 30000, fSrc := 32768, words := [some 3] },
  regular_of _ (by decide +kernel), by decide +kernel⟩,
  ⟨0, 0, 40000, 5, [.stop], linked {} {} { st := .aligned, notes := [.target 40000 5, .stop] } { st := .aligned }, regular_of _
  (by decide +kernel), by decide +kernel⟩,
  ⟨0, 0, [], linked {} {} { st := .aligned, notes := [.stop], words := [some 3] } { st := .aligned, words := [none] }, regular_of _
  (by decide +kernel), by decide +kernel⟩,
  ⟨0, 0, 40000, true, [], linked {} {} { st := .paused, notes := [.restart 40000 true], words := [some 3] }
  { st := .paused, words := [none] }, regular_of _ (by decide +kernel), by decide +kernel⟩⟩

/-- The hypotheses of CrossingsStallTearAndJoin can be met. -/
theorem witness_CrossingsStallTearAndJoin :
    (∃ (id : Word) (w : Nat) (s : State), Regular s ∧
    let i := id.toNat
    s.xExists i = true ∧ s.waitFrom i = some w ∧ w + 4096 ≤ s.now ∧ s.xState i = .whole) ∧
    (∃ (id : Word) (s : State), s.waitFrom id.toNat = none) ∧
    (∃ (id : Word) (w : Nat) (s : State), s.waitFrom id.toNat = some w ∧ s.now < w + 4096) ∧
    (∃ (id : Word) (s : State), Regular s ∧
    let i := id.toNat
    s.xExists i = true ∧ xClass i ≠ 9 ∧ (s.xing i).st = .torn ∧ (s.xing i).tornAt = none) ∧
    (∃ (id : Word) (s : State), Regular s ∧
    let i := id.toNat
    s.xExists i = true ∧ xClass i = 9 ∧ (s.laneAt (xInst i) (xLink i)).st = .torn ∧ (s.laneAt (xInst i) (xLink i)).tornAt = none) ∧
    (∃ (id : Word) (second : Bool) (s : State), Regular s ∧
    let i := id.toNat
    xClass i ≠ 9 ∧ (s.xing i).st = .whole ∧ (s.xing i).e1 = (s.xing i).e2) ∧
    (∃ (id : Word) (a : Nat) (s : State), Regular s ∧ s.sys.follow ≠ 2 ∧
    let i := id.toNat
    s.fw = true ∧ s.xState i = .torn ∧ s.tornAt i = some a ∧ a + 1024 ≤ s.now) ∧
    (∃ (id : Word) (a : Nat) (s : State), s.tornAt id.toNat = some a ∧ s.xRegions id.toNat ≠ [] ∧ s.now < a + 1024) :=
  ⟨⟨BitVec.ofNat 32 (4 * 2^28), 5, setR 0 { tx := some (.period 300, 5) } up, regular_of _ (by decide +kernel), by decide +kernel⟩,
  ⟨BitVec.ofNat 32 (4 * 2^28), up, by decide +kernel⟩,
  ⟨BitVec.ofNat 32 (4 * 2^28), 2559999, setR 0 { tx := some (.period 300, 2559999) } up, by decide +kernel⟩,
  ⟨BitVec.ofNat 32 (4 * 2^28), { up with xg := { x := [(1073741824, { st := .torn, e1 := true })] } }, regular_of _ (by decide +kernel),
  by decide +kernel⟩,
  ⟨BitVec.ofNat 32 (9 * 2^28), linked {} {} { st := .torn, e1 := true } { st := .aligned }, regular_of _ (by decide +kernel),
  by decide +kernel⟩,
  ⟨BitVec.ofNat 32 (4 * 2^28), false, up, regular_of _ (by decide +kernel), by decide +kernel⟩,
  ⟨BitVec.ofNat 32 (4 * 2^28), 5, { up with xg := { x := [(1073741824, { st := .torn, e1 := true, tornAt := some 5 })] } }, regular_of _
  (by decide +kernel), by decide +kernel⟩,
  ⟨BitVec.ofNat 32 (4 * 2^28), 2559999, { up with xg := { x := [(1073741824, { st := .torn, e1 := true, tornAt := some 2559999 })] } },
  by decide +kernel⟩⟩

/-- The hypotheses of FencesAreReleased can be met. -/
theorem witness_FencesAreReleased :
    (∃ (r : RegionNo) (h : Nat) (since : Nat) (o : LongOp) (s : State), Regular s ∧ s.fw = true ∧ s.regionExists r = true ∧ s.clocked r =
    true ∧ (s.rgn r).rep.found = true ∧ (s.rgn r).rep.stopped = false ∧ s.regionLanes r = [] ∧ s.siteFenced (siteOf r) = false ∧ s.xg.rel =
    [⟨.region r, some h, since, none⟩] ∧ (s.handle h).op = some o) ∧
    (∃ (r : RegionNo) (k : Nat) (h : Nat) (since : Nat) (o : LongOp) (s : State), Regular s ∧ s.fw = true ∧ s.regionExists r = true ∧
    s.clocked r = true ∧ (s.rgn r).rep.found = true ∧ (s.rgn r).rep.stopped = false ∧ k < 4 ∧ (s.linkEnd r k).isSome = true ∧ s.xClocked
    (laneId r k) = true ∧ (s.laneAt r k).st ≠ .off ∧ s.siteFenced (siteOf r) = false ∧ s.xg.rel = [⟨.region r, some h, since, none⟩] ∧
    (s.handle h).op = some o) ∧
    (∃ (r : RegionNo) (h : Nat) (since : Nat) (o : LongOp) (dl : List (RegionNo × Nat × Nat)) (s : State), s.fw = true ∧ s.clocked r = false
    ∧ s.xg.rel = [⟨.region r, some h, since, none⟩] ∧ (s.handle h).op = some o) ∧
    (∃ (r : RegionNo) (k : Fin 4) (dlane : Nat) (s : State), Regular s ∧ (s.linkEnd r k).isSome = true ∧ (s.laneAt r k).st = .calibrating ∧
    (s.findWait fun w => decide (w = .pairRecal r k)) = none ∧ s.xState (laneId r k) = .whole ∧ ((∀ e ∈ s.xg.rel, e.rs = none)) ∧ ((∀ y ∈
    s.opt.ins, y.kind ≠ 4))) ∧
    (∃ (r : RegionNo) (k : Fin 4) (dlane : Nat) (b : Fin 8) (s : State), (s.linkEnd r k).isSome = true ∧ (s.laneAt r k).st = .calibrating ∧
    (s.findWait fun w => decide (w = .pairRecal r k)) = some b ∧ s.xState (laneId r k) = .whole ∧ ((∀ n, n ≠ b → (s.box n).wait ≠ some
    (.pairRecal r k))) ∧ ((∀ e ∈ s.xg.rel, e.rs = none)) ∧ ((∀ y ∈ s.opt.ins, y.kind ≠ 4)) ∧ dlane ≤ 160) :=
  ⟨⟨0, 0, 5, op0 .crossRelease .running, withOp (op0 .crossRelease .running)
  { (setR 0 { rep := { found := true } } up) with xg := { rel := [⟨.region 0, some 0, 5, none⟩], x := [(1073741824, { st := .fenced, e1 := true })] } },
  regular_of _ (by decide +kernel), by decide +kernel⟩,
  ⟨0, 0, 0, 5, op0 .crossRelease .running, withOp (op0 .crossRelease .running)
  { (linked { rep := { found := true } } {} { st := .fenced } { st := .aligned }) with xg := { (linked { rep := { found := true } } {} { st := .fenced } { st := .aligned }).xg with rel := [⟨.region 0, some 0, 5, none⟩], x := [(1073741824, { st := .fenced, e1 := true })] } },
  regular_of _ (by decide +kernel), by decide +kernel⟩,
  ⟨0, 0, 5, op0 .crossRelease .running, [], withOp (op0 .crossRelease .running)
  { (setR 0 deadR up) with xg := { rel := [⟨.region 0, some 0, 5, none⟩] } }, by decide +kernel⟩,
  ⟨0, 0, 160, linked { tg := 40000 } {} { st := .calibrating, markers := 64 } { st := .aligned }, regular_of _ (by decide +kernel),
  by decide +kernel⟩,
  ⟨0, 0, 160, 2,
  { linked { tg := 40000 } {} { st := .calibrating } {} with mbx := { box := (Vector.replicate 8 {}).set 2 { st := .working, wait := some (.pairRecal 0 0) } } },
  by decide +kernel⟩⟩

/-- The hypotheses of CrossingCommands can be met. -/
theorem witness_CrossingCommands :
    (∃ (q : Req) (s : State), ready s 0x0701 q = true ∧ q.u8 0 = 0 ∧ q.tgt = 0 ∧ s.xExists (q.le 4 4) = true) ∧
    (∃ (q : Req) (s : State), ready s 0x0701 q = true ∧ q.u8 0 = 1 ∧ s.regionExists q.tgt = true) ∧
    (∃ (q : Req) (s : State), Regular s ∧ ready s 0x0702 q = true ∧
    let i := q.le 0 4
    s.xExists i = true ∧ xClass i ≠ 9 ∧ s.xClocked i = true) ∧
    (∃ (q : Req) (s : State), ready s 0x0702 q = true ∧ s.xExists (q.le 0 4) = true ∧ s.xClocked (q.le 0 4) = false) ∧
    (∃ (q : Req) (i : Nat) (s : State), ready s 0x0703 q = true ∧ q.u8 0 = 0 ∧ s.regionExists q.tgt = true ∧ s.siteFenced (siteOf q.tgt) =
    false ∧ s.xg.rel = [] ∧ s.freeHandle (decide (q.mbx = 7)) = some i) ∧
    (∃ (q : Req) (s : State), ready s 0x0704 q = true ∧ s.regionExists q.tgt = true ∧ q.u8 0 ≤ 3 ∧ (s.linkEnd q.tgt (q.u8 0)).isSome = true
    ∧ s.xState (laneId q.tgt (q.u8 0)) = .whole) :=
  ⟨⟨rq 0 0 ([0] ++ zeros 3 ++ f 4 0x40000000), up, by decide +kernel⟩,
  ⟨rq 0 0 [1], linked {} {} { st := .aligned } {}, by decide +kernel⟩,
  ⟨rqX 0 0 (f 4 0x40000000), { up with xg := { x := [(1073741824, { st := .torn, e1 := true, tornAt := some 5 })] } }, regular_of _
  (by decide +kernel), by decide +kernel⟩,
  ⟨rqX 0 0 (f 4 0x40000000), setR 0 deadR up, by decide +kernel⟩,
  ⟨rqX 0 0 [0], 0, up, by decide +kernel⟩,
  ⟨rqX 0 0 [0], linked {} {} { st := .aligned } {}, by decide +kernel⟩⟩

end Sys2Proof.Tests
end

section
/-! SUPPORT. Package epoch: what the lock of the base PLL leaves in the package's own fields, and the numbering of windows from it
(R101, R103). -/
namespace Sys2Proof.Machine
open Sys2Proof.Safety

/-! ### Steps that change the package's fields at most in the causes of MLB_FAULT_N -/

/-- Of the package's own fields only the causes of MLB_FAULT_N differ. -/
def State.SysButMlb (s t : State) : Prop := t.sys = { s.sys with mlb := t.sys.mlb }

theorem State.SysButMlb.of_eq {s t : State} (h : t.sys = s.sys) : s.SysButMlb t := by
  rw [State.SysButMlb, h]

theorem State.SysButMlb.trans {s t u : State} (h : s.SysButMlb t) (k : t.SysButMlb u) : s.SysButMlb u := by
  unfold State.SysButMlb at *
  rw [k, h]

theorem State.mlbSet_sysButMlb (s : State) (c : FaultCause) : s.SysButMlb (s.mlbSet c) := by
  unfold State.mlbSet
  split
  · exact .of_eq rfl
  · dsimp only
    split <;> rfl

/-- The census answers in the dies, in the latest fence, and in the causes of MLB_FAULT_N (R369, R372). -/
theorem State.census_sysButMlb (s : State) : s.SysButMlb s.census := by
  refine List.foldlRecOn allSites _ (.of_eq rfl) fun t ht i _ => ht.trans ?_
  have fence (u : State) (p : Prop) [Decidable p] (id : Nat) : u.SysButMlb (if p then u.xLast id else u) := by
    split <;> exact .of_eq rfl
  have die : t.SysButMlb (t.modDie i (t.censusDie i)) := .of_eq (State.modDie_sys ..)
  dsimp only
  split
  · exact (die.trans (fence ..)).trans (State.mlbSet_sysButMlb ..)
  · exact die.trans (fence ..)

/-! ### Steps of boot that leave the package's fields alone -/

@[simp] theorem State.slotTurn_sys (s : State) : s.slotTurn.sys = s.sys :=
  (Keeps.slotTurn_keeps (List.Subset.refl _) (Keeps.refl s)).only.same .sys (by decide)

@[simp] theorem State.calRoutes_sys (s : State) : s.calRoutes.sys = s.sys :=
  (Keeps.calRoutes_keeps (List.Subset.refl _) (Keeps.refl s)).only.same .sys (by decide)

@[simp] theorem State.coldLocks_sys (s : State) : s.coldLocks.sys = s.sys :=
  (Keeps.coldLocks_keeps (List.Subset.refl _) (Keeps.refl s)).only.same .sys (by decide)

/-! ### Epoch and windows -/

/-- Epoch begun: the count at 0, the side outputs running, slot 0 on λC1 (R101, R104). -/
def State.beginEpoch (s : State) : State :=
  ({ s with sys := { s.sys with epoch := true, erg := 0, sideOut := true } }.mlbClear .pllLock).slotTurn

/-- What boot does at lock: site 16's boot path, census, reset calibration of the routes, cold locks (R369, R371, R146, R169). -/
def State.bootAtLock (s : State) : State :=
  (s.modDie 16 fun d => { d with bootPath := true }).census.calRoutes.coldLocks

theorem State.beginEpoch_sys (s : State) :
    s.beginEpoch.sys = { s.sys with epoch := true, erg := 0, sideOut := true, mlb := s.sys.mlb.filter (· ≠ .pllLock) } := by
  simp [State.beginEpoch, State.mlbClear]

theorem State.bootAtLock_sysButMlb (s : State) : s.SysButMlb s.bootAtLock := by
  have routes (t : State) : t.SysButMlb t.calRoutes.coldLocks := .of_eq (by simp)
  exact (State.SysButMlb.of_eq (State.modDie_sys ..)).trans ((State.census_sysButMlb _).trans (routes _))

/-- The lock of the base PLL, where it begins epoch, is these two and the step that boot has then reached. -/
theorem exec_basePllLock {s : State} (hreset : s.sys.pkgReset = false) (hepoch : s.sys.epoch = false) :
    exec .basePllLock s = .next { s.beginEpoch.bootAtLock with
      sys := { s.beginEpoch.bootAtLock.sys with bootStep := if (s.beginEpoch.bootAtLock.dieAt 16).st = .census then 4 else 2 } } := by
  have hrun : exec .basePllLock s = execBasePllLock s := rfl
  simp [hrun, execBasePllLock, hreset, hepoch, State.bootAtLock, State.beginEpoch]

/-- Lock of the base PLL in a released package without epoch: epoch begins at Erg time 0 and the side outputs run; of the package's
other fields only the boot step and the causes of MLB_FAULT_N can differ. -/
theorem exec_basePllLock_sys {s : State} (hreset : s.sys.pkgReset = false) (hepoch : s.sys.epoch = false) :
    ∃ t, exec .basePllLock s = .next t ∧
      t.sys = { s.sys with epoch := true, erg := 0, sideOut := true, bootStep := t.sys.bootStep, mlb := t.sys.mlb } := by
  refine ⟨_, exec_basePllLock hreset hepoch, ?_⟩
  dsimp only
  rw [s.beginEpoch.bootAtLock_sysButMlb, s.beginEpoch_sys]

/-- The window in progress is w from Erg time 256w until the next begins (R103). -/
theorem State.win_eq_iff (s : State) (w : Nat) : s.win = w ↔ 256 * w ≤ s.now ∧ s.now < 256 * (w + 1) := by
  rw [State.win, State.now, Nat.div_eq_iff (by decide)]
  omega

/-- Settles O8: the windows part Erg time into runs of 256 ns, and the lock of the base PLL begins epoch with the count at 0, which is in
window 0. -/
theorem windowsAreNumberedFromEpoch : Obligations.WindowsAreNumberedFromEpoch := by
  refine ⟨fun w s => s.win_eq_iff w, fun s hreset hepoch => ?_⟩
  obtain ⟨t, hrun, hsys⟩ := exec_basePllLock_sys hreset hepoch
  have hnow : t.now = 256 * 0 := by rw [State.now, hsys]
  exact ⟨t, hrun, by rw [hsys], hnow, (t.win_eq_iff 0).mpr (by omega)⟩

end Sys2Proof.Machine
end

section
/-! SUPPORT. Before package epoch (R385): the time that the base PLL has for its lock runs out, the causes of MLB_FAULT_N, and what stands
still until lock. -/
namespace Sys2Proof.Machine
open Sys2Proof.Safety

/-! ### A cause of MLB_FAULT_N -/

theorem State.mlbSet_only (s : State) (c : FaultCause) : Only [.sys, .mbx] s (s.mlbSet c) :=
  (Keeps.mlbSet_keeps (List.Subset.refl _) (Keeps.refl s) c).only

/-- The cause is among those of the pin, whether it was already or is put there. -/
theorem State.mem_mlbSet (s : State) (c : FaultCause) : c ∈ (s.mlbSet c).sys.mlb := by
  unfold State.mlbSet
  split
  next held => simpa using held
  next => dsimp only; split <;> exact List.mem_concat_self

/-- MLB_FAULT_N is asserted as long as a cause holds (R403). -/
theorem State.pins_mlbFault_iff (s : State) : s.pins.mlbFault = true ↔ ∃ c, c ∈ s.sys.mlb := by
  have hpin : s.pins.mlbFault = !s.sys.mlb.isEmpty := rfl
  rw [hpin, Bool.not_eq_true', List.isEmpty_eq_false_iff_exists_mem]

/-! ### What waits for epoch -/

/-- The 100 us have run out: lock becomes a cause of MLB_FAULT_N. -/
theorem exec_basePllLockTimeout {s : State} (hreset : s.sys.pkgReset = false) (hepoch : s.sys.epoch = false) :
    exec .basePllLockTimeout s = .next (s.mlbSet .pllLock) := by
  have hrun : exec .basePllLockTimeout s = execBasePllLockTimeout s := rfl
  simp [hrun, execBasePllLockTimeout, hreset, hepoch]

/-- Lock takes boot past step 1 of Table 13-1: at least to step 2, the census. -/
theorem exec_basePllLock_bootStep {s : State} (hreset : s.sys.pkgReset = false) (hepoch : s.sys.epoch = false) :
    ∃ t, exec .basePllLock s = .next t ∧ 2 ≤ t.sys.bootStep := by
  refine ⟨_, exec_basePllLock hreset hepoch, ?_⟩
  dsimp only
  split <;> decide

theorem State.tick_of_not_epoch {s : State} (hepoch : s.sys.epoch = false) : s.tick = s := by
  simp [State.tick, hepoch]

theorem step_of_pending_nil {s : State} (hpending : s.pending = []) : step s = .next s.tick := by
  simp [step, hpending]

theorem State.raise_of_not_epoch {s : State} (hepoch : s.sys.epoch = false) (id arg : Nat) : s.raise id arg = s := by
  simp [State.raise, hepoch]

theorem exec_eventRaise (id : BitVec 10) (arg : Word) (s : State) :
    exec (.eventRaise id arg) s = .next (s.raise id.toNat arg.toNat) := rfl

theorem exec_eventLogWrite_of_not_epoch {s : State} (hepoch : s.sys.epoch = false) : exec .eventLogWrite s = .next s := by
  have hrun : exec .eventLogWrite s = execEventLogWrite s := rfl
  simp [hrun, execEventLogWrite, hepoch]

/-- Settles O9: the time-out asserts MLB_FAULT_N and changes nothing else of the package, lock takes boot on and begins epoch, and before
epoch neither an edge nor an event changes the state. -/
theorem noLockNoEpoch : Obligations.NoLockNoEpoch := by
  refine ⟨fun s hreset hepoch => ?timeout, fun s hreset hepoch => ?lock, fun s hpending hepoch => ?edge, fun id arg s hepoch => ?event⟩
  case timeout =>
    have hsys : (s.mlbSet .pllLock).sys = { s.sys with mlb := (s.mlbSet .pllLock).sys.mlb } := s.mlbSet_sysButMlb .pllLock
    have hcause := s.mem_mlbSet .pllLock
    exact ⟨_, exec_basePllLockTimeout hreset hepoch, (State.pins_mlbFault_iff _).mpr ⟨_, hcause⟩, hcause, by rw [hsys, hepoch],
      by rw [hsys], hsys, s.mlbSet_only .pllLock⟩
  case lock =>
    obtain ⟨t, hrun, hstep⟩ := exec_basePllLock_bootStep hreset hepoch
    obtain ⟨u, hrun', hsys⟩ := exec_basePllLock_sys hreset hepoch
    obtain rfl : t = u := Host.Outcome.next.inj (hrun.symm.trans hrun')
    exact ⟨t, hrun, hstep, by rw [hsys]⟩
  case edge => rw [step_of_pending_nil hpending, State.tick_of_not_epoch hepoch]
  case event => exact ⟨by rw [exec_eventRaise, State.raise_of_not_epoch hepoch], exec_eventLogWrite_of_not_epoch hepoch⟩

end Sys2Proof.Machine
end

section
/-! SUPPORT. A request that firmware serves: its buffer holds it (Table 10-8), its command runs on it and the result ends on its mailbox
(R293, R295, R296). A ninth conversion on an anchor meets the limit of eight (R408). -/
namespace Sys2Proof.Machine
open Sys2Proof.Safety

/-! ### The request buffer of Table 10-8 -/

@[simp] theorem encode_length (op : Nat) (q : Req) : (q.encode op).length = 256 := padTo_length 256 _

/-- Trimming and padding give the caller's buffer back. -/
theorem padTo_trim_encode (op : Nat) (q : Req) : padTo 256 (trim (q.encode op)) = q.encode op :=
  (padTo_trim 256 _).trans (padTo_of_length (encode_length op q))

/-- What lies inside the buffer lies in the fields of Table 10-8, one after the other. -/
theorem slice_encode (op : Nat) (q : Req) {i n : Nat} (h : i + n ≤ 256) :
    slice (q.encode op) i n = slice (toLE 2 op ++ (toLE 2 q.seq.toNat ++ (toLE 1 q.flags.toNat ++ (zeros 1 ++
      (toLE 2 q.payload.length ++ (toLE 2 q.target.toNat ++ (zeros 6 ++ q.payload))))))) i n := by
  rw [Req.encode, slice_padTo _ _ _ _ h]
  simp only [List.append_assoc]

/-- A number that fits its field is read back. -/
theorem le_of_slice_of_lt {bs : Bytes} {i n v : Nat} (h : slice bs i n = toLE n v) (hv : v < 256 ^ n) : le bs i n = v := by
  rw [le_of_slice h, Nat.mod_eq_of_lt hv]

theorem le_encode_op (op : Nat) (q : Req) (hop : op < 65536) : le (q.encode op) 0 2 = op := by
  have hfield : slice (q.encode op) 0 2 = toLE 2 op := by
    rw [slice_encode op q (by decide), slice_prefix _ _ _ (toLE_length 2 op)]
  exact le_of_slice_of_lt hfield hop

theorem le_encode_seq (op : Nat) (q : Req) : le (q.encode op) 2 2 = q.seq.toNat := by
  have hfield : slice (q.encode op) 2 2 = toLE 2 q.seq.toNat := by
    rw [slice_encode op q (by decide)]
    simp [slice_append_right, slice_prefix]
  exact le_of_slice_of_lt hfield q.seq.isLt

theorem byteAt_encode_flags (op : Nat) (q : Req) : byteAt (q.encode op) 4 = q.flags.toNat := by
  have hfield : slice (q.encode op) 4 1 = toLE 1 q.flags.toNat := by
    rw [slice_encode op q (by decide)]
    simp [slice_append_right, slice_prefix]
  exact (byteAt_eq_le _ 4).trans (le_of_slice_of_lt hfield q.flags.isLt)

theorem le_encode_length (op : Nat) (q : Req) (hlen : q.payload.length ≤ 240) : le (q.encode op) 6 2 = q.payload.length := by
  have hfield : slice (q.encode op) 6 2 = toLE 2 q.payload.length := by
    rw [slice_encode op q (by decide)]
    simp [slice_append_right, slice_prefix]
  exact le_of_slice_of_lt hfield (by omega)

theorem le_encode_target (op : Nat) (q : Req) : le (q.encode op) 8 2 = q.target.toNat := by
  have hfield : slice (q.encode op) 8 2 = toLE 2 q.target.toNat := by
    rw [slice_encode op q (by decide)]
    simp [slice_append_right, slice_prefix]
  exact le_of_slice_of_lt hfield q.target.isLt

theorem slice_encode_payload (op : Nat) (q : Req) (hlen : q.payload.length ≤ 240) :
    slice (q.encode op) 16 q.payload.length = q.payload := by
  rw [slice_encode op q (by omega)]
  simp [slice_append_right, slice_all]

/-- The buffer that a caller writes holds the caller's request. -/
theorem ofBuffer_encode (op : Nat) (q : Req) (hlen : q.payload.length ≤ 240) : Req.ofBuffer q.mbx q.test (q.encode op) = q := by
  simp [Req.ofBuffer, le_encode_seq, byteAt_encode_flags, le_encode_target, le_encode_length op q hlen, Nat.min_eq_right hlen,
    slice_encode_payload op q hlen]

/-! ### A request that firmware serves -/

/-- A RING that finds its mailbox free and firmware serving, and whose request the journal does not hold, is served afresh. -/
theorem State.serve_eq_serveFresh {s : State} {cmd : Nat → Option Cmd} {m : Fin 8} {test : Bool}
    (hfree : ¬((s.box m).st = .posted ∨ (s.box m).st = .working)) (hfw : s.fw = true)
    (hnew : ∀ resp, (s.box m).journal ≠ some ⟨(s.box m).req, resp, decide (m = 7) && test, false⟩) :
    s.serve cmd m test = State.serve.serveFresh cmd m
      (s.modBox m fun b => { b with st := .working, src := decide (m = 7) && test, wait := none })
      (padTo 256 (s.box m).req) (Req.ofBuffer m test (padTo 256 (s.box m).req)) (le (padTo 256 (s.box m).req) 0 2) := by
  unfold State.serve
  simp only [if_neg hfree, State.fw_modBox, hfw, Bool.not_true, Bool.and_false, Bool.false_eq_true, if_false, State.box_modBox]
  split
  next jreq jresp jtest hjournal =>
    refine if_neg fun hsame => hnew jresp ?_
    obtain ⟨hreq, hpath⟩ : jreq = (s.box m).req ∧ jtest = (decide (m = 7) && test) := by simpa using hsame
    rw [hjournal, hreq, hpath]
  next => rfl

/-- A request that passes the checks, and whose opcode has a command, runs it. -/
theorem State.serveFresh_of_checked {s : State} {cmd : Nat → Option Cmd} {buf : Bytes} {q : Req} {op : Nat} {c : Cmd}
    (hcheck : checkRequest s buf q = none) (hcmd : cmd op = some c) :
    State.serve.serveFresh cmd q.mbx s buf q op = finish q (c q s) := by
  simp only [State.serve.serveFresh, hcheck, hcmd]
  cases c q s <;> rfl

/-- A free mailbox takes the request into its buffer, and the RING follows (R295). -/
theorem State.submit_of_reachesFree {s : State} {q : Req} (op : Nat) (c : Cmd) (hfree : reachesFree s q = true) :
    s.submit op c q = (s.modBox q.mbx fun b => { b with req := trim (q.encode op) }).serve (fun o => if o = op then some c else none)
      q.mbx q.test := by
  simp only [reachesFree, Bool.and_eq_true, decide_eq_true_eq] at hfree
  obtain ⟨⟨_, hreach⟩, hst⟩ := hfree
  have hnotBusy : ¬((s.box q.mbx).st = .posted ∨ (s.box q.mbx).st = .working) := by
    rcases hst with hst | hst <;> simp [hst]
  simp [State.submit, hreach, hnotBusy]

/-- A request that firmware can serve runs its command, and its result ends on the mailbox (R295, R296, R299). -/
theorem State.submit_of_ready {s : State} {op : Nat} {q : Req} (c : Cmd) (hop : op < 65536) (hready : ready s op q = true) :
    s.submit op c q = finish q (c q (posted s op q)) := by
  simp only [ready, Bool.and_eq_true, Bool.not_eq_true'] at hready
  obtain ⟨⟨⟨⟨hfree, hfw⟩, hnew⟩, hpasses⟩, _⟩ := hready
  rw [State.submit_of_reachesFree op c hfree]
  simp only [reachesFree, Req.wf, Bool.and_eq_true, decide_eq_true_eq] at hfree
  obtain ⟨⟨⟨hlen, _⟩, _⟩, hst⟩ := hfree
  rw [State.serve_eq_serveFresh]
  case hfree => rcases hst with hst | hst <;> simp [hst]
  case hfw => exact hfw
  case hnew =>
    intro resp hjournal
    have hheld : (s.box q.mbx).journal = some ⟨trim (q.encode op), resp, decide (q.mbx = 7) && q.test, false⟩ := by
      simpa using hjournal
    simp [replays, hheld] at hnew
  simp only [State.box_modBox, State.modBox_modBox, padTo_trim_encode, ofBuffer_encode op q hlen, le_encode_op op q hop]
  exact State.serveFresh_of_checked (Option.isNone_iff_eq_none.mp hpasses) (if_pos rfl)

/-! ### The ninth conversion -/

theorem exec_anchorConvert (q : Req) (s : State) : exec (.anchorConvert q) s = .next (s.submit 0x0405 cmdAnchorConvert q) := rfl

/-- A request for either direction, its unnamed operand zero, on an anchor with its base and eight conversions in progress is refused. -/
theorem cmdAnchorConvert_of_busy_eight {q : Req} {i : Nat} {s : State} (hanchor : s.anchorOf q.tgt = some i)
    (hstate : (s.anchor i).state = 2) (hbusy : (s.anchor i).busy = 8)
    (hform : (q.u8 0 = 0 ∧ zeroAt q.payload 16 16 = true) ∨ (q.u8 0 = 1 ∧ q.le 8 8 = 0)) :
    cmdAnchorConvert q s = refuse (busyReply 8) s := by
  rcases hform with ⟨hkind, hzero⟩ | ⟨hkind, hzero⟩
  case inl => simp [cmdAnchorConvert, hanchor, hstate, hbusy, hkind, hzero]
  case inr => simp [cmdAnchorConvert, hanchor, hstate, hbusy, hkind, hzero]

/-- A request that is answered where it was posted changes the mailboxes alone. -/
theorem answer_posted_only (s : State) (op : Nat) (q : Req) (r : Reply) : Only [.mbx] s ((posted s op q).answer q.mbx r) :=
  (Keeps.answer_keeps (List.Subset.refl _) (Keeps.modBox_keeps (List.Subset.refl _) (Keeps.refl s) _ _) q.mbx r).only

/-- Settles O10: firmware serves the request, the command refuses it for its anchor's eight conversions, and a refusal changes the
mailboxes alone. -/
theorem ninthConversionIsBusy : Obligations.NinthConversionIsBusy := by
  intro q i s hready hanchor hstate hbusy hform
  have hrefused : cmdAnchorConvert q (posted s 0x0405 q) = refuse (busyReply 8) (posted s 0x0405 q) :=
    cmdAnchorConvert_of_busy_eight hanchor hstate hbusy hform
  refine ⟨_, ?_, rfl, answer_posted_only s 0x0405 q _⟩
  rw [exec_anchorConvert, State.submit_of_ready _ (by decide) hready, hrefused]
  rfl

end Sys2Proof.Machine
end

section
/-! SUPPORT. Every command answers, changes only the groups of state listed for it, and keeps the state regular; so does every step. -/
namespace Sys2Proof.Safety
open Sys2Proof.Machine

/-- Every command answers, changes only what `writes` lists for it, and keeps the state regular: the frame of its own meaning. -/
theorem exec_keeps (c : Instr) (s : State) : KeepsOut (writes c) s (exec c s) := by
  cases c with
  | pkgResetNAssert => exact Keeps.execPkgResetNAssert_keeps (List.Subset.refl _) (Keeps.refl s)
  | pkgResetNRelease _ => exact Keeps.execPkgResetNRelease_keeps (List.Subset.refl _) (Keeps.refl s) _
  | basePllLock => exact Keeps.execBasePllLock_keeps (List.Subset.refl _) (Keeps.refl s)
  | basePllLockTimeout => exact Keeps.execBasePllLockTimeout_keeps (List.Subset.refl _) (Keeps.refl s)
  | bootOverrun => exact Keeps.execBootOverrun_keeps (List.Subset.refl _) (Keeps.refl s)
  | xtalLoss => exact Keeps.execXtalLoss_keeps (List.Subset.refl _) (Keeps.refl s)
  | xtalRestored => exact Keeps.execXtalRestored_keeps (List.Subset.refl _) (Keeps.refl s)
  | diePowerLoss _ => exact Keeps.execDiePowerLoss_keeps (List.Subset.refl _) (Keeps.refl s) _
  | dieOwnReset _ => exact Keeps.execDieOwnReset_keeps (List.Subset.refl _) (Keeps.refl s) _
  | regionsOwnReset _ => exact Keeps.execRegionsOwnReset_keeps (List.Subset.refl _) (Keeps.refl s) _
  | localResetExit _ _ => exact Keeps.execLocalResetExit_keeps (List.Subset.refl _) (Keeps.refl s) _ _
  | trstN => exact Keeps.execTrstN_keeps (List.Subset.refl _) (Keeps.refl s)
  | extest _ => exact Keeps.execExtest_keeps (List.Subset.refl _) (Keeps.refl s) _
  | samplePreload _ => exact Keeps.execSamplePreload_keeps (List.Subset.refl _) (Keeps.refl s) _
  | idcode => exact Keeps.execIdcode_keeps (List.Subset.refl _) (Keeps.refl s)
  | bypass _ => exact Keeps.execBypass_keeps (List.Subset.refl _) (Keeps.refl s) _
  | mbx7Req _ => exact Keeps.execMbx7Req_keeps (List.Subset.refl _) (Keeps.refl s) _
  | mbx7Rsp => exact Keeps.execMbx7Rsp_keeps (List.Subset.refl _) (Keeps.refl s)
  | mbx7Ctl _ => exact Keeps.execMbx7Ctl_keeps (List.Subset.refl _) (Keeps.refl s) _
  | requestBufferWrite _ _ _ => exact Keeps.execRequestBufferWrite_keeps (List.Subset.refl _) (Keeps.refl s) _ _ _
  | ring _ => exact Keeps.execRing_keeps (List.Subset.refl _) (Keeps.refl s) _
  | ack _ => exact Keeps.execAck_keeps (List.Subset.refl _) (Keeps.refl s) _
  | clearErr _ => exact Keeps.execClearErr_keeps (List.Subset.refl _) (Keeps.refl s) _
  | mbErgLoRead => exact Keeps.execMbErgLoRead_keeps (List.Subset.refl _) (Keeps.refl s)
  | mbErgHiRead => exact Keeps.execMbErgHiRead_keeps (List.Subset.refl _) (Keeps.refl s)
  | registerWrite _ _ _ => exact Keeps.execRegisterWrite_keeps (List.Subset.refl _) (Keeps.refl s) _ _ _
  | mbSnsBudgetWrite _ => exact Keeps.execMbSnsBudgetWrite_keeps (List.Subset.refl _) (Keeps.refl s) _
  | mbLsEnWrite _ _ _ => exact Keeps.execMbLsEnWrite_keeps (List.Subset.refl _) (Keeps.refl s) _ _ _
  | pinHalfWrite _ _ => exact Keeps.execPinHalfWrite_keeps (List.Subset.refl _) (Keeps.refl s) _ _
  | clearRgnEvcnt _ => exact Keeps.execClearRgnEvcnt_keeps (List.Subset.refl _) (Keeps.refl s) _
  | clearRgnStretchCnt _ => exact Keeps.execClearRgnStretchCnt_keeps (List.Subset.refl _) (Keeps.refl s) _
  | clearHmCounters => exact Keeps.execClearHmCounters_keeps (List.Subset.refl _) (Keeps.refl s)
  | clearErgCounters => exact Keeps.execClearErgCounters_keeps (List.Subset.refl _) (Keeps.refl s)
  | clearOptCounters => exact Keeps.execClearOptCounters_keeps (List.Subset.refl _) (Keeps.refl s)
  | clearLsCounters => exact Keeps.execClearLsCounters_keeps (List.Subset.refl _) (Keeps.refl s)
  | clearXingCounters => exact Keeps.execClearXingCounters_keeps (List.Subset.refl _) (Keeps.refl s)
  | clearXingDrop => exact Keeps.execClearXingDrop_keeps (List.Subset.refl _) (Keeps.refl s)
  | clearCalCounters => exact Keeps.execClearCalCounters_keeps (List.Subset.refl _) (Keeps.refl s)
  | clearSnsCounters => exact Keeps.execClearSnsCounters_keeps (List.Subset.refl _) (Keeps.refl s)
  | clearSpanCounters => exact Keeps.execClearSpanCounters_keeps (List.Subset.refl _) (Keeps.refl s)
  | clearCtlCounters => exact Keeps.execClearCtlCounters_keeps (List.Subset.refl _) (Keeps.refl s)
  | opSuspend _ => exact Keeps.execOpSuspend_keeps (List.Subset.refl _) (Keeps.refl s) _
  | opResume _ => exact Keeps.execOpResume_keeps (List.Subset.refl _) (Keeps.refl s) _
  | opCancel _ => exact Keeps.execOpCancel_keeps (List.Subset.refl _) (Keeps.refl s) _
  | opQuery _ => exact Keeps.execOpQuery_keeps (List.Subset.refl _) (Keeps.refl s) _
  | opWrite _ => exact Keeps.execOpWrite_keeps (List.Subset.refl _) (Keeps.refl s) _
  | mbxSpillRead _ => exact Keeps.execMbxSpillRead_keeps (List.Subset.refl _) (Keeps.refl s) _
  | mbxSpillFree _ => exact Keeps.execMbxSpillFree_keeps (List.Subset.refl _) (Keeps.refl s) _
  | regionSetPeriod _ => exact Keeps.execRegionSetPeriod_keeps (List.Subset.refl _) (Keeps.refl s) _
  | regionQuery _ => exact Keeps.execRegionQuery_keeps (List.Subset.refl _) (Keeps.refl s) _
  | regionReadField _ => exact Keeps.execRegionReadField_keeps (List.Subset.refl _) (Keeps.refl s) _
  | regionWriteField _ => exact Keeps.execRegionWriteField_keeps (List.Subset.refl _) (Keeps.refl s) _
  | forecastPost _ => exact Keeps.execForecastPost_keeps (List.Subset.refl _) (Keeps.refl s) _
  | hawkmothSetMode _ => exact Keeps.execHawkmothSetMode_keeps (List.Subset.refl _) (Keeps.refl s) _
  | hawkmothQuery _ => exact Keeps.execHawkmothQuery_keeps (List.Subset.refl _) (Keeps.refl s) _
  | hawkmothReadField _ => exact Keeps.execHawkmothReadField_keeps (List.Subset.refl _) (Keeps.refl s) _
  | hawkmothWriteField _ => exact Keeps.execHawkmothWriteField_keeps (List.Subset.refl _) (Keeps.refl s) _
  | modelLoad _ => exact Keeps.execModelLoad_keeps (List.Subset.refl _) (Keeps.refl s) _
  | modelUnload _ => exact Keeps.execModelUnload_keeps (List.Subset.refl _) (Keeps.refl s) _
  | ergRead _ => exact Keeps.execErgRead_keeps (List.Subset.refl _) (Keeps.refl s) _
  | ergReadField _ => exact Keeps.execErgReadField_keeps (List.Subset.refl _) (Keeps.refl s) _
  | ergWriteField _ => exact Keeps.execErgWriteField_keeps (List.Subset.refl _) (Keeps.refl s) _
  | anchorAdd _ => exact Keeps.execAnchorAdd_keeps (List.Subset.refl _) (Keeps.refl s) _
  | anchorRemove _ => exact Keeps.execAnchorRemove_keeps (List.Subset.refl _) (Keeps.refl s) _
  | anchorQuery _ => exact Keeps.execAnchorQuery_keeps (List.Subset.refl _) (Keeps.refl s) _
  | anchorConvert _ => exact Keeps.execAnchorConvert_keeps (List.Subset.refl _) (Keeps.refl s) _
  | ledgerRead _ => exact Keeps.execLedgerRead_keeps (List.Subset.refl _) (Keeps.refl s) _
  | routeQuery _ => exact Keeps.execRouteQuery_keeps (List.Subset.refl _) (Keeps.refl s) _
  | spareInsert _ => exact Keeps.execSpareInsert_keeps (List.Subset.refl _) (Keeps.refl s) _
  | opticRecal _ => exact Keeps.execOpticRecal_keeps (List.Subset.refl _) (Keeps.refl s) _
  | opticReadField _ => exact Keeps.execOpticReadField_keeps (List.Subset.refl _) (Keeps.refl s) _
  | opticWriteField _ => exact Keeps.execOpticWriteField_keeps (List.Subset.refl _) (Keeps.refl s) _
  | synthQuery _ => exact Keeps.execSynthQuery_keeps (List.Subset.refl _) (Keeps.refl s) _
  | synthSetMode _ => exact Keeps.execSynthSetMode_keeps (List.Subset.refl _) (Keeps.refl s) _
  | synthReadField _ => exact Keeps.execSynthReadField_keeps (List.Subset.refl _) (Keeps.refl s) _
  | synthWriteField _ => exact Keeps.execSynthWriteField_keeps (List.Subset.refl _) (Keeps.refl s) _
  | crossQuery _ => exact Keeps.execCrossQuery_keeps (List.Subset.refl _) (Keeps.refl s) _
  | crossReset _ => exact Keeps.execCrossReset_keeps (List.Subset.refl _) (Keeps.refl s) _
  | crossRelease _ => exact Keeps.execCrossRelease_keeps (List.Subset.refl _) (Keeps.refl s) _
  | pairRecal _ => exact Keeps.execPairRecal_keeps (List.Subset.refl _) (Keeps.refl s) _
  | crossReadField _ => exact Keeps.execCrossReadField_keeps (List.Subset.refl _) (Keeps.refl s) _
  | crossWriteField _ => exact Keeps.execCrossWriteField_keeps (List.Subset.refl _) (Keeps.refl s) _
  | calRun _ => exact Keeps.execCalRun_keeps (List.Subset.refl _) (Keeps.refl s) _
  | selftestRun _ => exact Keeps.execSelftestRun_keeps (List.Subset.refl _) (Keeps.refl s) _
  | calQuery _ => exact Keeps.execCalQuery_keeps (List.Subset.refl _) (Keeps.refl s) _
  | calSetRead _ => exact Keeps.execCalSetRead_keeps (List.Subset.refl _) (Keeps.refl s) _
  | calReadField _ => exact Keeps.execCalReadField_keeps (List.Subset.refl _) (Keeps.refl s) _
  | calWriteField _ => exact Keeps.execCalWriteField_keeps (List.Subset.refl _) (Keeps.refl s) _
  | senseQuery _ => exact Keeps.execSenseQuery_keeps (List.Subset.refl _) (Keeps.refl s) _
  | thermQuery _ => exact Keeps.execThermQuery_keeps (List.Subset.refl _) (Keeps.refl s) _
  | plantPost _ => exact Keeps.execPlantPost_keeps (List.Subset.refl _) (Keeps.refl s) _
  | wearQuery _ => exact Keeps.execWearQuery_keeps (List.Subset.refl _) (Keeps.refl s) _
  | wearExport _ => exact Keeps.execWearExport_keeps (List.Subset.refl _) (Keeps.refl s) _
  | wearImport _ => exact Keeps.execWearImport_keeps (List.Subset.refl _) (Keeps.refl s) _
  | senseReadField _ => exact Keeps.execSenseReadField_keeps (List.Subset.refl _) (Keeps.refl s) _
  | senseWriteField _ => exact Keeps.execSenseWriteField_keeps (List.Subset.refl _) (Keeps.refl s) _
  | configQuery _ => exact Keeps.execConfigQuery_keeps (List.Subset.refl _) (Keeps.refl s) _
  | overlayApply _ => exact Keeps.execOverlayApply_keeps (List.Subset.refl _) (Keeps.refl s) _
  | overlayWithdraw _ => exact Keeps.execOverlayWithdraw_keeps (List.Subset.refl _) (Keeps.refl s) _
  | modeSet _ => exact Keeps.execModeSet_keeps (List.Subset.refl _) (Keeps.refl s) _
  | fwUpdate _ => exact Keeps.execFwUpdate_keeps (List.Subset.refl _) (Keeps.refl s) _
  | spanQuery _ => exact Keeps.execSpanQuery_keeps (List.Subset.refl _) (Keeps.refl s) _
  | spanPeerAdd _ => exact Keeps.execSpanPeerAdd_keeps (List.Subset.refl _) (Keeps.refl s) _
  | spanPeerRemove _ => exact Keeps.execSpanPeerRemove_keeps (List.Subset.refl _) (Keeps.refl s) _
  | spanKeySet _ => exact Keeps.execSpanKeySet_keeps (List.Subset.refl _) (Keeps.refl s) _
  | hostOffsetPost _ => exact Keeps.execHostOffsetPost_keeps (List.Subset.refl _) (Keeps.refl s) _
  | spanReadField _ => exact Keeps.execSpanReadField_keeps (List.Subset.refl _) (Keeps.refl s) _
  | spanWriteField _ => exact Keeps.execSpanWriteField_keeps (List.Subset.refl _) (Keeps.refl s) _
  | eventRead _ => exact Keeps.execEventRead_keeps (List.Subset.refl _) (Keeps.refl s) _
  | dieQuery _ => exact Keeps.execDieQuery_keeps (List.Subset.refl _) (Keeps.refl s) _
  | debugRead _ => exact Keeps.execDebugRead_keeps (List.Subset.refl _) (Keeps.refl s) _
  | debugWrite _ => exact Keeps.execDebugWrite_keeps (List.Subset.refl _) (Keeps.refl s) _
  | ctrlHalt _ => exact Keeps.execCtrlHalt_keeps (List.Subset.refl _) (Keeps.refl s) _
  | ctrlResume _ => exact Keeps.execCtrlResume_keeps (List.Subset.refl _) (Keeps.refl s) _
  | ctrlRestart _ => exact Keeps.execCtrlRestart_keeps (List.Subset.refl _) (Keeps.refl s) _
  | siroccoReadField _ => exact Keeps.execSiroccoReadField_keeps (List.Subset.refl _) (Keeps.refl s) _
  | siroccoWriteField _ => exact Keeps.execSiroccoWriteField_keeps (List.Subset.refl _) (Keeps.refl s) _
  | controllerFault _ _ => exact Keeps.execControllerFault_keeps (List.Subset.refl _) (Keeps.refl s) _ _
  | holdRequest => exact Keeps.execHoldRequest_keeps (List.Subset.refl _) (Keeps.refl s)
  | holdRelease => exact Keeps.execHoldRelease_keeps (List.Subset.refl _) (Keeps.refl s)
  | holdExit => exact Keeps.execHoldExit_keeps (List.Subset.refl _) (Keeps.refl s)
  | holdOverrun => exact Keeps.execHoldOverrun_keeps (List.Subset.refl _) (Keeps.refl s)
  | controllerReloadDone _ => exact Keeps.execControllerReloadDone_keeps (List.Subset.refl _) (Keeps.refl s) _
  | controllerReloadTimeout _ => exact Keeps.execControllerReloadTimeout_keeps (List.Subset.refl _) (Keeps.refl s) _
  | reloadSourceLost _ => exact Keeps.execReloadSourceLost_keeps (List.Subset.refl _) (Keeps.refl s) _
  | controllerHeartbeat _ => exact Keeps.execControllerHeartbeat_keeps (List.Subset.refl _) (Keeps.refl s) _
  | imageVerified _ _ _ => exact Keeps.execImageVerified_keeps (List.Subset.refl _) (Keeps.refl s) _ _ _
  | oasisScrub _ _ => exact Keeps.execOasisScrub_keeps (List.Subset.refl _) (Keeps.refl s) _ _
  | oasisRowSpare _ => exact Keeps.execOasisRowSpare_keeps (List.Subset.refl _) (Keeps.refl s) _
  | oasisUe _ => exact Keeps.execOasisUe_keeps (List.Subset.refl _) (Keeps.refl s) _
  | handleExpired _ => exact Keeps.execHandleExpired_keeps (List.Subset.refl _) (Keeps.refl s) _
  | opWriteTimeout _ => exact Keeps.execOpWriteTimeout_keeps (List.Subset.refl _) (Keeps.refl s) _
  | longOpDone _ => exact Keeps.execLongOpDone_keeps (List.Subset.refl _) (Keeps.refl s) _
  | regionPeriodEnd _ _ _ _ => exact Keeps.execRegionPeriodEnd_keeps (List.Subset.refl _) (Keeps.refl s) _ _ _ _
  | stretchLoopStep _ => exact Keeps.execStretchLoopStep_keeps (List.Subset.refl _) (Keeps.refl s) _
  | stretchNoticeReceive _ _ => exact Keeps.execStretchNoticeReceive_keeps (List.Subset.refl _) (Keeps.refl s) _ _
  | regionWindowBoundary _ _ => exact Keeps.execRegionWindowBoundary_keeps (List.Subset.refl _) (Keeps.refl s) _ _
  | periodCodeLatch _ => exact Keeps.execPeriodCodeLatch_keeps (List.Subset.refl _) (Keeps.refl s) _
  | freqStopBegin _ => exact Keeps.execFreqStopBegin_keeps (List.Subset.refl _) (Keeps.refl s) _
  | freqStopRestart _ _ _ => exact Keeps.execFreqStopRestart_keeps (List.Subset.refl _) (Keeps.refl s) _ _ _
  | retuneFail _ => exact Keeps.execRetuneFail_keeps (List.Subset.refl _) (Keeps.refl s) _
  | channelEdgeTimeout _ => exact Keeps.execChannelEdgeTimeout_keeps (List.Subset.refl _) (Keeps.refl s) _
  | directTakeoverRestart _ _ _ => exact Keeps.execDirectTakeoverRestart_keeps (List.Subset.refl _) (Keeps.refl s) _ _ _
  | regionDead _ => exact Keeps.execRegionDead_keeps (List.Subset.refl _) (Keeps.refl s) _
  | twinReloadLocked _ => exact Keeps.execTwinReloadLocked_keeps (List.Subset.refl _) (Keeps.refl s) _
  | plannedSwapRequest _ _ => exact Keeps.execPlannedSwapRequest_keeps (List.Subset.refl _) (Keeps.refl s) _ _
  | swapHandover _ => exact Keeps.execSwapHandover_keeps (List.Subset.refl _) (Keeps.refl s) _
  | swapWaitTimeout _ => exact Keeps.execSwapWaitTimeout_keeps (List.Subset.refl _) (Keeps.refl s) _
  | districtSpareInsert _ _ _ _ => exact Keeps.execDistrictSpareInsert_keeps (List.Subset.refl _) (Keeps.refl s) _ _ _ _
  | plannedDistrictSpare _ _ _ => exact Keeps.execPlannedDistrictSpare_keeps (List.Subset.refl _) (Keeps.refl s) _ _ _
  | evaluationStart _ => exact Keeps.execEvaluationStart_keeps (List.Subset.refl _) (Keeps.refl s) _
  | planFlip => exact Keeps.execPlanFlip_keeps (List.Subset.refl _) (Keeps.refl s)
  | evaluationOverrun _ => exact Keeps.execEvaluationOverrun_keeps (List.Subset.refl _) (Keeps.refl s) _
  | columnTest _ => exact Keeps.execColumnTest_keeps (List.Subset.refl _) (Keeps.refl s) _
  | columnSpareMap => exact Keeps.execColumnSpareMap_keeps (List.Subset.refl _) (Keeps.refl s)
  | planCapture _ => exact Keeps.execPlanCapture_keeps (List.Subset.refl _) (Keeps.refl s) _
  | voidReceive _ => exact Keeps.execVoidReceive_keeps (List.Subset.refl _) (Keeps.refl s) _
  | forecastPortWrite _ _ => exact Keeps.execForecastPortWrite_keeps (List.Subset.refl _) (Keeps.refl s) _ _
  | forecastMerge => exact Keeps.execForecastMerge_keeps (List.Subset.refl _) (Keeps.refl s)
  | forecastStale d => exact Keeps.execForecastStale_keeps (List.Subset.refl _) (Keeps.refl s) d
  | modelActivate _ => exact Keeps.execModelActivate_keeps (List.Subset.refl _) (Keeps.refl s) _
  | replicaSlotCheck _ _ _ => exact Keeps.execReplicaSlotCheck_keeps (List.Subset.refl _) (Keeps.refl s) _ _ _
  | heartbeatCheck => exact Keeps.execHeartbeatCheck_keeps (List.Subset.refl _) (Keeps.refl s)
  | dieLostLong _ => exact Keeps.execDieLostLong_keeps (List.Subset.refl _) (Keeps.refl s) _
  | signOfLife _ => exact Keeps.execSignOfLife_keeps (List.Subset.refl _) (Keeps.refl s) _
  | rejoin _ _ _ _ => exact Keeps.execRejoin_keeps (List.Subset.refl _) (Keeps.refl s) _ _ _ _
  | rejoinStep2Timeout _ => exact Keeps.execRejoinStep2Timeout_keeps (List.Subset.refl _) (Keeps.refl s) _
  | ergWindowDiscipline => exact Keeps.execErgWindowDiscipline_keeps (List.Subset.refl _) (Keeps.refl s)
  | rackAdoptIdle => exact Keeps.execRackAdoptIdle_keeps (List.Subset.refl _) (Keeps.refl s)
  | anchorCapture _ => exact Keeps.execAnchorCapture_keeps (List.Subset.refl _) (Keeps.refl s) _
  | anchorFold => exact Keeps.execAnchorFold_keeps (List.Subset.refl _) (Keeps.refl s)
  | ledgerPressure => exact Keeps.execLedgerPressure_keeps (List.Subset.refl _) (Keeps.refl s)
  | ledgerLoss _ => exact Keeps.execLedgerLoss_keeps (List.Subset.refl _) (Keeps.refl s) _
  | conversionSettled _ => exact Keeps.execConversionSettled_keeps (List.Subset.refl _) (Keeps.refl s) _
  | landingFault _ _ _ _ => exact Keeps.execLandingFault_keeps (List.Subset.refl _) (Keeps.refl s) _ _ _ _
  | wavelengthFault _ _ _ => exact Keeps.execWavelengthFault_keeps (List.Subset.refl _) (Keeps.refl s) _ _ _
  | groupFault _ _ => exact Keeps.execGroupFault_keeps (List.Subset.refl _) (Keeps.refl s) _ _
  | continuityCheck _ _ _ => exact Keeps.execContinuityCheck_keeps (List.Subset.refl _) (Keeps.refl s) _ _ _
  | landingWarnTimeout _ _ _ _ => exact Keeps.execLandingWarnTimeout_keeps (List.Subset.refl _) (Keeps.refl s) _ _ _ _
  | landingCrcDegrade _ _ => exact Keeps.execLandingCrcDegrade_keeps (List.Subset.refl _) (Keeps.refl s) _ _
  | spareCarrierLoss _ _ => exact Keeps.execSpareCarrierLoss_keeps (List.Subset.refl _) (Keeps.refl s) _ _
  | carrierRecovered _ _ _ => exact Keeps.execCarrierRecovered_keeps (List.Subset.refl _) (Keeps.refl s) _ _ _
  | flywheelExpiry _ => exact Keeps.execFlywheelExpiry_keeps (List.Subset.refl _) (Keeps.refl s) _
  | landingInsert _ _ _ _ _ => exact Keeps.execLandingInsert_keeps (List.Subset.refl _) (Keeps.refl s) _ _ _ _ _
  | groupInsert _ _ _ _ => exact Keeps.execGroupInsert_keeps (List.Subset.refl _) (Keeps.refl s) _ _ _ _
  | wavelengthInsert _ => exact Keeps.execWavelengthInsert_keeps (List.Subset.refl _) (Keeps.refl s) _
  | borrowPermanent _ _ _ => exact Keeps.execBorrowPermanent_keeps (List.Subset.refl _) (Keeps.refl s) _ _ _
  | siteBackup _ => exact Keeps.execSiteBackup_keeps (List.Subset.refl _) (Keeps.refl s) _
  | siteOptical _ => exact Keeps.execSiteOptical_keeps (List.Subset.refl _) (Keeps.refl s) _
  | siteIsolated _ _ => exact Keeps.execSiteIsolated_keeps (List.Subset.refl _) (Keeps.refl s) _ _
  | insvcRecal _ _ => exact Keeps.execInsvcRecal_keeps (List.Subset.refl _) (Keeps.refl s) _ _
  | insvcMeasurementDone _ _ => exact Keeps.execInsvcMeasurementDone_keeps (List.Subset.refl _) (Keeps.refl s) _ _
  | delaySlew => exact Keeps.execDelaySlew_keeps (List.Subset.refl _) (Keeps.refl s)
  | laneRemeasure _ _ => exact Keeps.execLaneRemeasure_keeps (List.Subset.refl _) (Keeps.refl s) _ _
  | synthRide _ => exact Keeps.execSynthRide_keeps (List.Subset.refl _) (Keeps.refl s) _
  | rideTimeout _ => exact Keeps.execRideTimeout_keeps (List.Subset.refl _) (Keeps.refl s) _
  | renegotiateHalf _ => exact Keeps.execRenegotiateHalf_keeps (List.Subset.refl _) (Keeps.refl s) _
  | rateAck _ => exact Keeps.execRateAck_keeps (List.Subset.refl _) (Keeps.refl s) _
  | portStateChange _ _ => exact Keeps.execPortStateChange_keeps (List.Subset.refl _) (Keeps.refl s) _ _
  | clkGrantTimeout _ => exact Keeps.execClkGrantTimeout_keeps (List.Subset.refl _) (Keeps.refl s) _
  | renegTimeout _ => exact Keeps.execRenegTimeout_keeps (List.Subset.refl _) (Keeps.refl s) _
  | renegotiateFull _ => exact Keeps.execRenegotiateFull_keeps (List.Subset.refl _) (Keeps.refl s) _
  | synthRelockDone _ _ _ => exact Keeps.execSynthRelockDone_keeps (List.Subset.refl _) (Keeps.refl s) _ _ _
  | synthFail _ _ => exact Keeps.execSynthFail_keeps (List.Subset.refl _) (Keeps.refl s) _ _
  | synthJitterMeasure _ _ => exact Keeps.execSynthJitterMeasure_keeps (List.Subset.refl _) (Keeps.refl s) _ _
  | synthInsert _ => exact Keeps.execSynthInsert_keeps (List.Subset.refl _) (Keeps.refl s) _
  | quiesceTimeout _ => exact Keeps.execQuiesceTimeout_keeps (List.Subset.refl _) (Keeps.refl s) _
  | crossStall _ => exact Keeps.execCrossStall_keeps (List.Subset.refl _) (Keeps.refl s) _
  | crossTear _ => exact Keeps.execCrossTear_keeps (List.Subset.refl _) (Keeps.refl s) _
  | jointReset _ => exact Keeps.execJointReset_keeps (List.Subset.refl _) (Keeps.refl s) _
  | fenceRelease _ _ => exact Keeps.execFenceRelease_keeps (List.Subset.refl _) (Keeps.refl s) _ _
  | pairSlot _ _ _ => exact Keeps.execPairSlot_keeps (List.Subset.refl _) (Keeps.refl s) _ _ ()
  | realignWinExpiry _ _ => exact Keeps.execRealignWinExpiry_keeps (List.Subset.refl _) (Keeps.refl s) _ _
  | targetNotice _ _ => exact Keeps.execTargetNotice_keeps (List.Subset.refl _) (Keeps.refl s) _ _
  | stopNotice _ _ => exact Keeps.execStopNotice_keeps (List.Subset.refl _) (Keeps.refl s) _ _
  | restartNotice _ _ => exact Keeps.execRestartNotice_keeps (List.Subset.refl _) (Keeps.refl s) _ _
  | pairCalibrationDone _ _ _ => exact Keeps.execPairCalibrationDone_keeps (List.Subset.refl _) (Keeps.refl s) _ _ _
  | spanSymbolLock _ => exact Keeps.execSpanSymbolLock_keeps (List.Subset.refl _) (Keeps.refl s) _
  | spanLockLoss _ => exact Keeps.execSpanLockLoss_keeps (List.Subset.refl _) (Keeps.refl s) _
  | announce _ _ => exact Keeps.execAnnounce_keeps (List.Subset.refl _) (Keeps.refl s) _ _
  | probe _ _ => exact Keeps.execProbe_keeps (List.Subset.refl _) (Keeps.refl s) _ _
  | reply _ _ => exact Keeps.execReply_keeps (List.Subset.refl _) (Keeps.refl s) _ _
  | announceTransmit _ => exact Keeps.execAnnounceTransmit_keeps (List.Subset.refl _) (Keeps.refl s) _
  | probeTransmit _ => exact Keeps.execProbeTransmit_keeps (List.Subset.refl _) (Keeps.refl s) _
  | peerAnnounceTimeout _ => exact Keeps.execPeerAnnounceTimeout_keeps (List.Subset.refl _) (Keeps.refl s) _
  | quarantineExpiry _ => exact Keeps.execQuarantineExpiry_keeps (List.Subset.refl _) (Keeps.refl s) _
  | previousKeyExpiry _ => exact Keeps.execPreviousKeyExpiry_keeps (List.Subset.refl _) (Keeps.refl s) _
  | measurementDeferred _ => exact Keeps.execMeasurementDeferred_keeps (List.Subset.refl _) (Keeps.refl s) _
  | hostOutOfUse => exact Keeps.execHostOutOfUse_keeps (List.Subset.refl _) (Keeps.refl s)
  | ucieDiscovery _ _ => exact Keeps.execUcieDiscovery_keeps (List.Subset.refl _) (Keeps.refl s) _ _
  | discoveryRetry _ _ => exact Keeps.execDiscoveryRetry_keeps (List.Subset.refl _) (Keeps.refl s) _ _
  | foreignDiePoll _ _ => exact Keeps.execForeignDiePoll_keeps (List.Subset.refl _) (Keeps.refl s) _ _
  | sidebandLinkDown _ => exact Keeps.execSidebandLinkDown_keeps (List.Subset.refl _) (Keeps.refl s) _
  | calDueCheck => exact Keeps.execCalDueCheck_keeps (List.Subset.refl _) (Keeps.refl s)
  | calSlotGrant => exact Keeps.execCalSlotGrant_keeps (List.Subset.refl _) (Keeps.refl s)
  | calRunComplete _ _ _ => exact Keeps.execCalRunComplete_keeps (List.Subset.refl _) (Keeps.refl s) _ _ _
  | suspectHoldoffExpiry _ => exact Keeps.execSuspectHoldoffExpiry_keeps (List.Subset.refl _) (Keeps.refl s) _
  | calVoidRetryExpiry _ => exact Keeps.execCalVoidRetryExpiry_keeps (List.Subset.refl _) (Keeps.refl s) _
  | gapWindow _ => exact Keeps.execGapWindow_keeps (List.Subset.refl _) (Keeps.refl s) _
  | calGapTimeout _ => exact Keeps.execCalGapTimeout_keeps (List.Subset.refl _) (Keeps.refl s) _
  | selftestDue _ => exact Keeps.execSelftestDue_keeps (List.Subset.refl _) (Keeps.refl s) _
  | selftestComplete _ _ _ _ => exact Keeps.execSelftestComplete_keeps (List.Subset.refl _) (Keeps.refl s) _ _ _ _
  | sensorFault _ _ => exact Keeps.execSensorFault_keeps (List.Subset.refl _) (Keeps.refl s) _ _
  | sensorRecovered _ _ => exact Keeps.execSensorRecovered_keeps (List.Subset.refl _) (Keeps.refl s) _ _
  | ringPeriod _ => exact Keeps.execRingPeriod_keeps (List.Subset.refl _) (Keeps.refl s) _
  | frameEnd => exact Keeps.execFrameEnd_keeps (List.Subset.refl _) (Keeps.refl s)
  | coolantStale => exact Keeps.execCoolantStale_keeps (List.Subset.refl _) (Keeps.refl s)
  | budgetStale => exact Keeps.execBudgetStale_keeps (List.Subset.refl _) (Keeps.refl s)
  | regionFence => exact Keeps.execRegionFence_keeps (List.Subset.refl _) (Keeps.refl s)
  | configWordLost _ => exact Keeps.execConfigWordLost_keeps (List.Subset.refl _) (Keeps.refl s) _
  | fwUpdateHoldEntry => exact Keeps.execFwUpdateHoldEntry_keeps (List.Subset.refl _) (Keeps.refl s)
  | fwRollback _ => exact Keeps.execFwRollback_keeps (List.Subset.refl _) (Keeps.refl s) _
  | limpEnter => exact Keeps.execLimpEnter_keeps (List.Subset.refl _) (Keeps.refl s)
  | severeSustained => exact Keeps.execSevereSustained_keeps (List.Subset.refl _) (Keeps.refl s)
  | eventRaise _ _ => exact Keeps.execEventRaise_keeps (List.Subset.refl _) (Keeps.refl s) _ _
  | eventLogWrite => exact Keeps.execEventLogWrite_keeps (List.Subset.refl _) (Keeps.refl s)
  | rejectedFrame _ _ _ => exact Keeps.execRejectedFrame_keeps (List.Subset.refl _) (Keeps.refl s) _ _ _
  | diePowerOn _ => exact Keeps.execDiePowerOn_keeps (List.Subset.refl _) (Keeps.refl s) _
  | lossOfLock _ => exact Keeps.execLossOfLock_keeps (List.Subset.refl _) (Keeps.refl s) _

/-- Settles O5: the frame of every command. -/
theorem everyCommandAnswersAndKeepsTheOtherGroups : Obligations.EveryCommandAnswersAndKeepsTheOtherGroups := by
  intro c s
  obtain ⟨t, hrun, hkeeps⟩ := exec_keeps c s
  exact ⟨t, hrun, hkeeps.only⟩

/-- The queue is no part of what regularity speaks of. -/
theorem Regular.withPending {s : State} (h : Regular s) (cs : List Instr) : Regular { s with pending := cs } := h.keep (s := s) rfl

/-- A command keeps the state regular. -/
theorem Regular.exec {c : Instr} {s t : State} (h : Regular s) (hrun : Machine.exec c s = .next t) : Regular t := by
  obtain ⟨u, hrun', hkeeps⟩ := exec_keeps c s
  obtain rfl : u = t := Host.Outcome.next.inj (hrun'.symm.trans hrun)
  exact hkeeps.regular h

/-- An edge keeps the state regular. -/
theorem Regular.tick {s : State} (h : Regular s) : Regular s.tick :=
  (Keeps.tick_keeps (List.Subset.refl _) (Keeps.refl s)).regular h

/-- Settles O4: a step is an edge on the empty queue, else the command at the front on the queue's rest. -/
theorem everyStepKeepsRegular : Obligations.EveryStepKeepsRegular := by
  intro s t hstep hregular
  unfold step at hstep
  split at hstep
  next => exact Host.Outcome.next.inj hstep ▸ hregular.tick
  next c cs _ => exact (hregular.withPending cs).exec hstep

end Sys2Proof.Safety
end

section
/-! SUPPORT. Byte forms and symbol forms read back: the request buffer of Table 10-8 and the λC1 slot of Table 4-1. -/
namespace Sys2Proof.Machine
open Sys2Proof.Safety

/-- Settles O6: the fields of Table 10-8 are read back one by one, and trimming loses nothing that padding does not put back. -/
theorem requestSurvivesItsBuffer : Obligations.RequestSurvivesItsBuffer := by
  intro op q hwf hop
  have hlen : q.payload.length ≤ 240 := by
    simp only [Req.wf, Bool.and_eq_true, decide_eq_true_eq] at hwf
    exact hwf.1
  refine ⟨encode_length op q, le_encode_op op q hop, le_encode_length op q hlen, ?_⟩
  rw [padTo_trim_encode, ofBuffer_encode op q hlen]

/-! ### Numbers as bits, most significant first -/

@[simp] theorem msbFirst_length (n x : Nat) : (msbFirst n x).length = n := by simp [msbFirst]

/-- One bit more is the lowest bit behind those of the half. -/
theorem msbFirst_succ (n x : Nat) : msbFirst (n + 1) x = msbFirst n (x / 2) ++ [x.testBit 0] := by
  have hbits : ∀ i ∈ List.range n, x.testBit (n + 1 - 1 - i) = (x / 2).testBit (n - 1 - i) := by
    intro i hi
    rw [← Nat.testBit_succ]
    congr 1
    have := List.mem_range.1 hi
    omega
  simp only [msbFirst, List.range_succ, List.map_append, List.map_congr_left hbits]
  simp

theorem ofMsb_append_singleton (bs : List Bool) (b : Bool) : ofMsb (bs ++ [b]) = 2 * ofMsb bs + b2n b := by
  simp [ofMsb]

theorem b2n_testBit_zero (x : Nat) : b2n (x.testBit 0) = x % 2 := by
  rcases Nat.mod_two_eq_zero_or_one x with h | h <;> simp [b2n, h]

/-- The low n bits are read back. -/
theorem ofMsb_msbFirst (n x : Nat) : ofMsb (msbFirst n x) = x % 2 ^ n := by
  induction n generalizing x with
  | zero => simp [msbFirst, ofMsb, Nat.mod_one]
  | succ n ih =>
    rw [msbFirst_succ, ofMsb_append_singleton, ih, b2n_testBit_zero, Nat.pow_succ', Nat.mod_mul]
    omega

theorem ofMsb_msbFirst_toNat {n : Nat} (x : BitVec n) : ofMsb (msbFirst n x.toNat) = x.toNat := by
  rw [ofMsb_msbFirst, Nat.mod_eq_of_lt x.isLt]

/-! ### Manchester coding -/

@[simp] theorem manchester_nil : manchester [] = [] := rfl

@[simp] theorem manchester_cons (b : Bool) (bs : List Bool) : manchester (b :: bs) = b :: (!b) :: manchester bs := rfl

@[simp] theorem manchester_length (bs : List Bool) : (manchester bs).length = 2 * bs.length := by
  induction bs with
  | nil => rfl
  | cons b bs ih =>
    simp only [manchester_cons, List.length_cons, ih]
    omega

theorem unmanchester_manchester (bs : List Bool) : unmanchester (manchester bs) = some bs := by
  induction bs with
  | nil => rfl
  | cons b bs ih => simp [unmanchester, ih]

/-- One symbol changed leaves its pair with equal symbols, which no bit has. -/
theorem unmanchester_set_not (bs : List Bool) (i : Nat) (hi : i < 2 * bs.length) :
    unmanchester ((manchester bs).set i !((manchester bs).getD i false)) = none := by
  induction bs generalizing i with
  | nil => simp at hi
  | cons b bs ih =>
    match i, hi with
    | 0, _ => simp [unmanchester]
    | 1, _ => simp [unmanchester]
    | i + 2, hi =>
      have htail := ih i (by rw [List.length_cons] at hi; omega)
      simp only [manchester_cons, List.set_cons_succ, List.getD_cons_succ, unmanchester, htail]
      simp

/-! ### A slot of 256 symbols (Table 4-1) -/

/-- The 120 bits behind SYNC. -/
def Slot1.bits (x : Slot1) : List Bool := x.data ++ msbFirst 16 (crc16 x.data).toNat

theorem Slot1.symbols_eq (x : Slot1) : x.symbols = syncSymbols ++ manchester x.bits := rfl

@[simp] theorem Slot1.data_length (x : Slot1) : x.data.length = 104 := by simp [Slot1.data]

@[simp] theorem Slot1.bits_length (x : Slot1) : x.bits.length = 120 := by simp [Slot1.bits]

@[simp] theorem syncSymbols_length : syncSymbols.length = 16 := rfl

theorem Slot1.symbols_length (x : Slot1) : x.symbols.length = 256 := by simp [Slot1.symbols_eq]

/-- What a replica reads where the bits behind SYNC are those of a slot. -/
theorem readSlot_of_bits {xs : List Bool} (x : Slot1) (hsync : xs.take 16 = syncSymbols)
    (hbits : unmanchester (xs.drop 16) = some x.bits) : readSlot xs = some x := by
  have hnext : x.bits.take 64 = msbFirst 64 x.next.toNat := by simp [Slot1.bits, Slot1.data]
  have hflags : (x.bits.drop 64).take 8 = msbFirst 8 x.flags.toNat := by simp [Slot1.bits, Slot1.data]
  have hdata : x.bits.take 104 = x.data := by simp [Slot1.bits]
  have hcrc : x.bits.drop 104 = msbFirst 16 (crc16 x.data).toNat := by simp [Slot1.bits]
  simp only [readSlot, hsync, hbits, hdata, hcrc, hnext, hflags, ofMsb_msbFirst_toNat]
  simp

theorem Slot1.readSlot_symbols (x : Slot1) : readSlot x.symbols = some x :=
  by
  have hdrop : x.symbols.drop 16 = manchester x.bits := List.drop_left' rfl
  exact readSlot_of_bits x (List.take_left' rfl) (by rw [hdrop, unmanchester_manchester])

/-- A changed symbol of SYNC is missed, and one behind it breaks its pair. -/
theorem Slot1.readSlot_set_not (x : Slot1) (i : Nat) (hi : i < 256) : readSlot (x.symbols.set i !(x.symbols.getD i false)) = none := by
  rw [Slot1.symbols_eq]
  rcases Nat.lt_or_ge i 16 with hsync | hdata
  · have hchanged : syncSymbols.set i (!(syncSymbols.getD i false)) ≠ syncSymbols := by
      have hall : ∀ k : Fin 16, syncSymbols.set k (!(syncSymbols.getD k false)) ≠ syncSymbols := by decide
      exact hall ⟨i, hsync⟩
    have htake : ((syncSymbols ++ manchester x.bits).set i (!((syncSymbols ++ manchester x.bits).getD i false))).take 16 ≠ syncSymbols := by
      rwa [List.set_append_left _ _ hsync, List.getD_append _ _ _ _ hsync, List.take_left' (by simp)]
    exact if_pos htake
  · have hpair := unmanchester_set_not x.bits (i - 16) (by rw [Slot1.bits_length]; omega)
    have hdrop : ((syncSymbols ++ manchester x.bits).set i (!((syncSymbols ++ manchester x.bits).getD i false))).drop 16 =
        (manchester x.bits).set (i - 16) !((manchester x.bits).getD (i - 16) false) := by
      rw [List.set_append_right _ _ hdata, List.getD_append_right _ _ _ _ hdata]
      exact List.drop_left' rfl
    simp only [readSlot, hdrop, hpair]
    split <;> rfl

/-- Settles O60: SYNC is fixed, each bit behind it is a pair of unlike symbols, and its fields are read back from the bits. -/
theorem slotsReadBack : Obligations.SlotsReadBack :=
  fun x => ⟨x.symbols_length, x.readSlot_symbols, x.readSlot_set_not⟩

end Sys2Proof.Machine
end

section
/-! SUPPORT. What a request meets at its mailbox (R31, R295, R296, R299, R300, R303), and what a committed response leaves there
(Table 10-9). -/
namespace Sys2Proof.Machine
open Sys2Proof.Safety

/-! ### A RING on the request that a free mailbox has just taken -/

/-- A request is served where firmware runs, and a debug command on MBX7 always (R31, R303). -/
def served (s : State) (op : Nat) (q : Req) : Prop := s.fw = true ∨ (q.mbx = 7 ∧ isDebugOp op = true)

theorem not_blocked_of_served {s : State} {op : Nat} {q : Req} (h : served s op q) :
    (!(decide (q.mbx = 7) && isDebugOp op) && !s.fw) = false := by
  rcases h with h | ⟨h, hop⟩ <;> simp [*]

theorem payload_le_of_reachesFree {s : State} {q : Req} (hfree : reachesFree s q = true) : q.payload.length ≤ 240 := by
  simp only [reachesFree, Req.wf, Bool.and_eq_true, decide_eq_true_eq] at hfree
  obtain ⟨⟨⟨hlen, _⟩, _⟩, _⟩ := hfree
  exact hlen

theorem not_busy_of_reachesFree {s : State} {q : Req} (hfree : reachesFree s q = true) :
    ¬((s.box q.mbx).st = .posted ∨ (s.box q.mbx).st = .working) := by
  simp only [reachesFree, Bool.and_eq_true, decide_eq_true_eq] at hfree
  rcases hfree.2 with hst | hst <;> simp [hst]

/-- What a free mailbox makes of a request: BUSY from the responder, the journal's response, or the checks and the command. -/
theorem State.submit_eq_of_reachesFree {s : State} {op : Nat} {q : Req} (c : Cmd) (hop : op < 65536) (hfree : reachesFree s q = true) :
    s.submit op c q =
      if !(decide (q.mbx = 7) && isDebugOp op) && !s.fw then (posted s op q).answerBusy q.mbx
      else match (s.box q.mbx).journal with
        | some ⟨jreq, jresp, jtest, false⟩ =>
          if decide (jreq = trim (q.encode op)) && decide (jtest = (decide (q.mbx = 7) && q.test)) then
            (posted s op q).deliver q.mbx (setReplayed jresp) true
          else State.serve.serveFresh (fun o => if o = op then some c else none) q.mbx (posted s op q) (q.encode op) q op
        | _ => State.serve.serveFresh (fun o => if o = op then some c else none) q.mbx (posted s op q) (q.encode op) q op := by
  rw [State.submit_of_reachesFree op c hfree, State.serve]
  simp only [State.box_modBox, State.modBox_modBox, State.fw_modBox, if_neg (not_busy_of_reachesFree hfree), padTo_trim_encode,
    ofBuffer_encode op q (payload_le_of_reachesFree hfree), le_encode_op op q hop]
  rfl

theorem State.submit_of_unserved {s : State} {op : Nat} {q : Req} (c : Cmd) (hop : op < 65536) (hfree : reachesFree s q = true)
    (hfw : s.fw = false) (hdebug : ¬(q.mbx = 7 ∧ isDebugOp op = true)) : s.submit op c q = (posted s op q).answerBusy q.mbx := by
  have hblocked : (!(decide (q.mbx = 7) && isDebugOp op) && !s.fw) = true := by
    simpa [hfw, imp_iff_not_or] using hdebug
  rw [State.submit_eq_of_reachesFree c hop hfree, hblocked]
  rfl

theorem State.submit_of_replays {s : State} {op : Nat} {q : Req} {j : Journal} (c : Cmd) (hop : op < 65536)
    (hfree : reachesFree s q = true) (hserved : served s op q) (hjournal : (s.box q.mbx).journal = some j)
    (hreplays : replays s op q = true) : s.submit op c q = (posted s op q).deliver q.mbx (setReplayed j.resp) true := by
  rw [State.submit_eq_of_reachesFree c hop hfree, not_blocked_of_served hserved]
  obtain ⟨jreq, jresp, jtest, lost⟩ := j
  cases lost <;> simp_all [replays]

/-- A request that the journal does not hold goes on to the checks of R296. -/
theorem State.submit_of_new {s : State} {op : Nat} {q : Req} (c : Cmd) (hop : op < 65536) (hfree : reachesFree s q = true)
    (hserved : served s op q) (hnew : replays s op q = false) :
    s.submit op c q =
      State.serve.serveFresh (fun o => if o = op then some c else none) q.mbx (posted s op q) (q.encode op) q op := by
  rw [State.submit_eq_of_reachesFree c hop hfree, not_blocked_of_served hserved]
  simp only [replays] at hnew
  simp only [Bool.false_eq_true, if_false]
  split
  next hjournal => simp_all
  next => rfl

theorem State.serveFresh_of_refused {s : State} {cmd : Nat → Option Cmd} {m : Fin 8} {buf : Bytes} {q : Req} {op : Nat} {r : Reply}
    (hcheck : checkRequest s buf q = some r) : State.serve.serveFresh cmd m s buf q op = s.answer m r := by
  simp [State.serve.serveFresh, hcheck]

theorem State.submit_of_readyDebug {s : State} {op : Nat} {q : Req} (c : Cmd) (hop : op < 65536) (hready : readyDebug s op q = true) :
    s.submit op c q = finish q (c q (posted s op q)) := by
  simp only [readyDebug, Bool.and_eq_true, Bool.not_eq_true', decide_eq_true_eq] at hready
  obtain ⟨⟨⟨⟨hfree, hmbx⟩, hdebug⟩, hnew⟩, hpasses⟩ := hready
  rw [State.submit_of_new c hop hfree (.inr ⟨hmbx, hdebug⟩) hnew]
  exact State.serveFresh_of_checked (Option.isNone_iff_eq_none.mp hpasses) (if_pos rfl)

/-- A busy mailbox discards buffer and RING. -/
theorem State.submit_of_busy {s : State} {q : Req} (op : Nat) (c : Cmd) (hreach : s.reaches q.mbx q.test = true)
    (hbusy : (s.box q.mbx).st = .posted ∨ (s.box q.mbx).st = .working) :
    s.submit op c q = s.modBox q.mbx fun b => { b with wrErr := true, dbErr := true } := by
  simp [State.submit, hreach, hbusy]

/-! ### A response committed -/

theorem leVal_lt (bs : Bytes) : leVal bs < 256 ^ bs.length := by
  induction bs with
  | nil => exact Nat.one_pos
  | cons b bs ih =>
    have hb := b.isLt
    rw [leVal, List.length_cons, Nat.pow_succ']
    omega

theorem le_lt (bs : Bytes) (i n : Nat) : le bs i n < 256 ^ n := by
  simpa [le] using leVal_lt (slice bs i n)

/-- The status stands behind the four bytes of the request's head. -/
theorem byteAt_respBytes_status (req : Bytes) (r : Reply) (replayed responder : Bool) (hstatus : r.status < 256) :
    byteAt (respBytes req r replayed responder) 4 = r.status := by
  have hfield : (respBytes req r replayed responder).getD 4 0 = BitVec.ofNat 8 r.status := by
    simp [respBytes, List.getD_eq_getElem?_getD, List.append_assoc]
  rw [byteAt, hfield, BitVec.toNat_ofNat, Nat.mod_eq_of_lt hstatus]

/-- The mailbox as a committed response leaves it. -/
def responded (b : Mailbox) (r : Reply) : Mailbox :=
  let resp := respBytes b.req r false false
  let long := decide (240 < r.payload.length)
  { b with
    journal := some ⟨trim b.req, trim resp, b.src, long⟩
    spill := if long then some (r.payload.take 8192) else b.spill
    spillTop := if long then max b.spillTop (min 8192 r.payload.length) else b.spillTop
    resp := trim resp
    st := .responded
    lastSeq := BitVec.ofNat 16 (le b.req 2 2)
    lastStatus := BitVec.ofNat 8 (byteAt resp 4)
    replayed := false
    wait := none }

@[simp] theorem State.box_answer (s : State) (m : Fin 8) (r : Reply) : (s.answer m r).box m = responded (s.box m) r := by
  simp [State.answer, State.deliver, State.irq, responded, State.box, State.modBox]

@[simp] theorem State.box_answer_ne (s : State) {m n : Fin 8} (r : Reply) (h : n ≠ m) : (s.answer m r).box n = s.box n := by
  have hne : m.val ≠ n.val := fun e => h (Fin.ext e.symm)
  simp [State.answer, State.deliver, State.irq, State.box, State.modBox, hne]

theorem State.answer_irq (s : State) (m : Fin 8) (r : Reply) : (s.answer m r).mbx.irq = s.mbx.irq ||| word (2 ^ m.val) := rfl

theorem State.answer_only (s : State) (m : Fin 8) (r : Reply) : Only [.mbx] s (s.answer m r) :=
  (Keeps.answer_keeps (List.Subset.refl _) (Keeps.refl s) m r).only

/-- Settles O7: the cases that a RING meets, one after the other, and the fields of a mailbox that has responded. -/
theorem whatARequestMeets : Obligations.WhatARequestMeets := by
  refine ⟨fun op c q s hop hready => State.submit_of_ready c hop hready, ?debug, fun op c q s => State.submit_of_busy op c,
    fun op c q s hop hfree => State.submit_of_unserved c hop hfree,
    fun op c q s j hop hfree hserved => State.submit_of_replays c hop hfree hserved, ?refused, ?response⟩
  case debug =>
    intro op c q s t r hop hready hdone
    rw [State.submit_of_readyDebug c hop hready, hdone]
    rfl
  case refused =>
    intro op c q s r hop hfree hserved hnew hcheck
    rw [State.submit_of_new c hop hfree hserved hnew, State.serveFresh_of_refused hcheck]
  case response =>
    intro m r s hstatus b t
    have hbox : t.box m = responded b r := s.box_answer m r
    have hseq : (BitVec.ofNat 16 (le b.req 2 2)).toNat = le b.req 2 2 := Nat.mod_eq_of_lt (le_lt b.req 2 2)
    have hcode : (BitVec.ofNat 8 (byteAt (respBytes b.req r false false) 4)).toNat = r.status := by
      rw [byteAt_respBytes_status _ _ _ _ hstatus]
      exact Nat.mod_eq_of_lt hstatus
    rw [hbox]
    exact ⟨rfl, hseq, hcode, rfl, rfl, rfl, rfl, rfl, by simp [responded], s.answer_irq m r, fun n hn => s.box_answer_ne r hn,
      s.answer_only m r⟩

end Sys2Proof.Machine
end

section
/-! SUPPORT. The front of the queue; the package's reset, its release, its epoch and the overrun of its boot (R367, R368, R385). -/
namespace Sys2Proof.Machine
open Sys2Proof.Safety

/-- What a command that has run can have changed. -/
theorem exec_only {c : Instr} {s t : State} (hrun : exec c s = .next t) : Only (writes c) s t := by
  obtain ⟨u, hrun', hkeeps⟩ := exec_keeps c s
  obtain rfl : u = t := Host.Outcome.next.inj (hrun'.symm.trans hrun)
  exact hkeeps.only

/-- Settles O1: the queue's front is taken and its rest left. -/
theorem stepRunsTheFrontCommand : Obligations.StepRunsTheFrontCommand := fun _ _ => rfl

/-! ### The causes of MLB_FAULT_N -/

/-- Putting a cause adds no other. -/
theorem State.mem_of_mem_mlbSet {s : State} {c d : FaultCause} (h : d ∈ (s.mlbSet c).sys.mlb) : d ∈ s.sys.mlb ∨ d = c := by
  unfold State.mlbSet at h
  split at h
  · exact .inl h
  · dsimp only at h
    split at h <;> simpa [State.irq] using h

theorem State.mlbSet_sys_of_new {s : State} {c : FaultCause} (hnew : c ∉ s.sys.mlb) :
    (s.mlbSet c).sys = { s.sys with mlb := s.sys.mlb ++ [c] } := by
  unfold State.mlbSet
  rw [if_neg (by simpa using hnew)]
  dsimp only
  split <;> rfl

/-- The census notes no cause but its own (R369, R372). -/
theorem State.census_mlb {s : State} {d : FaultCause} (h : d ∈ s.census.sys.mlb) : d ∈ s.sys.mlb ∨ ∃ i, d = .census i := by
  revert h
  unfold State.census
  refine List.foldlRecOn allSites _ (motive := fun t : State => d ∈ t.sys.mlb → d ∈ s.sys.mlb ∨ ∃ i, d = .census i)
    .inl fun t ht i _ => ?_
  have fence (u : State) (p : Prop) [Decidable p] (id : Nat) : (if p then u.xLast id else u).sys = u.sys := by
    split <;> rfl
  dsimp only
  intro h
  split at h
  · rcases State.mem_of_mem_mlbSet h with h | h
    · rw [fence] at h
      exact ht h
    · exact .inr ⟨i, h⟩
  · rw [fence] at h
    exact ht h

/-- A raised event changes the events alone. -/
@[simp] theorem State.raiseIf_sys (c : Bool) (id arg : Nat) (s : State) : (s.raiseIf c id arg).sys = s.sys :=
  (Keeps.raiseIf_keeps (List.Subset.refl _) (Keeps.refl s) c id arg).only.same .sys (by decide)

/-- What is raised depends on the epoch, the time and the events alone. -/
theorem State.raise_ev_congr {s t : State} (id arg : Nat) (hepoch : t.sys.epoch = s.sys.epoch) (herg : t.sys.erg = s.sys.erg)
    (hev : t.ev = s.ev) : (t.raise id arg).ev = (s.raise id arg).ev := by
  unfold State.raise
  rw [hepoch, herg]
  split
  · split <;> simp [hev]
  · exact hev

/-! ### Reset, release, epoch -/

theorem exec_pkgResetNRelease (env : BootEnv) (s : State) : exec (.pkgResetNRelease env) s = execPkgResetNRelease env s := rfl

/-- The lock's cause is gone after lock, and boot stands at the step that site 16's census has reached. -/
theorem exec_basePllLock_cause {s : State} (hreset : s.sys.pkgReset = false) (hepoch : s.sys.epoch = false) :
    ∃ t, exec .basePllLock s = .next t ∧ FaultCause.pllLock ∉ t.sys.mlb ∧
      t.sys.bootStep = (if (t.dieAt 16).st = .census then 4 else 2) := by
  have hrun := exec_basePllLock hreset hepoch
  have hcause : FaultCause.pllLock ∉ s.beginEpoch.bootAtLock.sys.mlb := by
    intro hmem
    simp only [State.bootAtLock, State.coldLocks_sys, State.calRoutes_sys] at hmem
    rcases State.census_mlb hmem with h | ⟨i, h⟩
    · rw [State.modDie_sys, State.beginEpoch_sys] at h
      simp at h
    · cases h
  generalize s.beginEpoch.bootAtLock = u at hrun hcause
  exact ⟨_, hrun, hcause, rfl⟩

theorem exec_bootOverrun {s : State} (hepoch : s.sys.epoch = true) (hhold : s.sys.hold ≠ 0) (hboot : s.sys.bootedAt = none)
    (htime : 250000000 ≤ s.sys.erg) (hnew : FaultCause.bootOverrun ∉ s.sys.mlb) :
    exec .bootOverrun s = .next ((s.mlbSet .bootOverrun).raiseIf s.active.isSome evBootOverrun 0) := by
  have hrun : exec .bootOverrun s = execBootOverrun s := rfl
  rw [hrun, execBootOverrun, if_pos]
  simp [hepoch, hhold, hboot, htime, hnew]

theorem State.mlbSet_ev (s : State) (c : FaultCause) : (s.mlbSet c).ev = s.ev := (s.mlbSet_only c).same .ev (by decide)

/-- Settles O11: reset and release are the model's own tables of values, lock begins epoch, and the overrun puts its cause. -/
theorem packageResetReleaseAndEpoch : Obligations.PackageResetReleaseAndEpoch := by
  refine ⟨fun _ => rfl, fun env s hreset => ?release, fun env s hreset => ?noRelease, fun s hreset hepoch => ?lock,
    fun s hepoch hhold hboot htime hnew => ?overrun⟩
  case release => rw [exec_pkgResetNRelease, execPkgResetNRelease, if_pos hreset]
  case noRelease => rw [exec_pkgResetNRelease, execPkgResetNRelease, if_neg (by simp [hreset])]
  case lock =>
    obtain ⟨t, hrun, hsys⟩ := exec_basePllLock_sys hreset hepoch
    obtain ⟨u, hrun', hcause, hstep⟩ := exec_basePllLock_cause hreset hepoch
    obtain rfl : t = u := Host.Outcome.next.inj (hrun.symm.trans hrun')
    exact ⟨t, hrun, by rw [hsys], by rw [hsys], by rw [hsys], by rw [hsys], hcause, hstep, exec_only hrun⟩
  case overrun =>
    have hrun := exec_bootOverrun hepoch hhold hboot htime hnew
    have hsys := State.mlbSet_sys_of_new hnew
    refine ⟨_, hrun, ?_, ?_, exec_only hrun⟩
    · rw [State.raiseIf_sys, hsys]
    · unfold State.raiseIf
      split
      · exact State.raise_ev_congr _ _ (by rw [hsys]) (by rw [hsys]) (s.mlbSet_ev _)
      · exact s.mlbSet_ev _

end Sys2Proof.Machine
end

section
/-! SUPPORT. Stored crossings: what halting, toggling and tearing one leave of it and of the others (R210, R212, Table 7-4). -/
namespace Sys2Proof.Machine
open Sys2Proof.Safety

/-- At most one stored crossing differs, and there only in what waits, lies and was dropped in it. -/
structure State.XingKept (id : Nat) (s t : State) : Prop where
  other : ∀ i, i ≠ id → t.xing i = s.xing i
  same : t.xing id = { s.xing id with wait := (t.xing id).wait, drop := (t.xing id).drop, fill := (t.xing id).fill }
  wf : Map.wf {} t.xg.x = true

theorem State.XingKept.of_eq {id : Nat} {s t : State} (h : t.xg.x = s.xg.x) (hwf : Map.wf {} s.xg.x = true) : State.XingKept id s t := by
  have hxing (i : Nat) : t.xing i = s.xing i := by rw [State.xing, h, State.xing]
  exact ⟨fun i _ => hxing i, by rw [hxing], h ▸ hwf⟩

theorem State.XingKept.trans {id : Nat} {s t u : State} (h : State.XingKept id s t) (k : State.XingKept id t u) : State.XingKept id s u := by
  refine ⟨fun i hi => (k.other i hi).trans (h.other i hi), ?_, k.wf⟩
  rw [k.same, h.same]

/-- A changed crossing leaves the table of crossings canonical. -/
theorem State.modXing_wf {s : State} (id : Nat) (f : Xing → Xing) (hwf : Map.wf {} s.xg.x = true) :
    Map.wf {} (s.modXing id f).xg.x = true := Map.put_wf id _ hwf

theorem State.XingKept.modXing {id : Nat} {s : State} (hwf : Map.wf {} s.xg.x = true) {f : Xing → Xing}
    (hf : f (s.xing id) = { s.xing id with wait := (f (s.xing id)).wait, drop := (f (s.xing id)).drop, fill := (f (s.xing id)).fill }) :
    State.XingKept id s (s.modXing id f) := by
  refine ⟨fun i hi => s.xing_modXing_ne f hi, ?_, State.modXing_wf id f hwf⟩
  rw [s.xing_modXing id f hwf]
  exact hf

theorem State.holdWords_x (s : State) (id : Nat) : (s.holdWords id).xg.x = s.xg.x := by
  unfold State.holdWords
  split
  · rfl
  · split <;> rfl

theorem State.dropWaiting_kept (s : State) (id : Nat) (hwf : Map.wf {} s.xg.x = true) : State.XingKept id s (s.dropWaiting id) := by
  unfold State.dropWaiting
  have kept {u : State} (hu : u.xg.x = s.xg.x) {f : Xing → Xing} (n : Nat)
      (hf : ∀ x, f x = { x with wait := (f x).wait, drop := (f x).drop, fill := (f x).fill }) :
      State.XingKept id s ((u.modXing id f).xDrop n) :=
    ((State.XingKept.of_eq hu hwf).trans (.modXing (hu ▸ hwf) (hf _))).trans (.of_eq rfl (State.modXing_wf id f (hu ▸ hwf)))
  dsimp only
  split
  · exact kept (by rfl) _ fun _ => rfl
  · split
    · exact kept (by rfl) _ fun _ => rfl
    · split
      · exact kept (by rfl) _ fun _ => rfl
      · split
        · exact kept (by rfl) _ fun _ => rfl
        · exact .of_eq rfl hwf

/-- A halted crossing keeps its state, its epochs and its times. -/
theorem State.xHalt_kept (s : State) (id : Nat) (hwf : Map.wf {} s.xg.x = true) : State.XingKept id s (s.xHalt id) := by
  have first : State.XingKept id s
      (if (s.xing id).wait.isSome then s.modXing id fun x => { x with wait := none } else s.holdWords id) := by
    split
    · exact .modXing hwf rfl
    · exact .of_eq (s.holdWords_x id) hwf
  have second := first.trans (State.dropWaiting_kept _ id first.wf)
  unfold State.xHalt
  dsimp only
  split
  · exact second.trans (.of_eq rfl second.wf)
  · exact second

/-! ### Toggling and tearing a crossing that is no pair lane's -/

theorem State.tornCheck_of_ne_lane (s : State) {id : Nat} (hclass : xClass id ≠ 9) :
    s.tornCheck id = if (s.xing id).st = .fenced ∨ (s.xing id).st = .torn ∨ (s.xing id).e1 = (s.xing id).e2 then s
      else (s.xHalt id).modXing id fun x => { x with st := .torn, tornAt := none, heldAt := s.now } := by
  rw [State.tornCheck, if_neg hclass]

theorem State.tornCheck_wf (s : State) {id : Nat} (hclass : xClass id ≠ 9) (hwf : Map.wf {} s.xg.x = true) :
    Map.wf {} (s.tornCheck id).xg.x = true := by
  rw [s.tornCheck_of_ne_lane hclass]
  split
  · exact hwf
  · exact State.modXing_wf _ _ (s.xHalt_kept id hwf).wf

theorem State.xing_tornCheck_ne (s : State) {id i : Nat} (hclass : xClass id ≠ 9) (hwf : Map.wf {} s.xg.x = true) (hi : i ≠ id) :
    (s.tornCheck id).xing i = s.xing i := by
  rw [s.tornCheck_of_ne_lane hclass]
  split
  · rfl
  · rw [State.xing_modXing_ne _ _ hi, (s.xHalt_kept id hwf).other i hi]

/-- A crossing whose sides are of different epochs is torn, and its epochs stay. -/
theorem State.xing_tornCheck (s : State) {id : Nat} (hclass : xClass id ≠ 9) (hwf : Map.wf {} s.xg.x = true) :
    ((s.tornCheck id).xing id).st =
        (if (s.xing id).st ≠ .fenced ∧ (s.xing id).e1 ≠ (s.xing id).e2 then .torn else (s.xing id).st) ∧
      ((s.tornCheck id).xing id).e1 = (s.xing id).e1 ∧ ((s.tornCheck id).xing id).e2 = (s.xing id).e2 := by
  rw [s.tornCheck_of_ne_lane hclass]
  split
  next h =>
    refine ⟨?_, rfl, rfl⟩
    split <;> grind
  next h =>
    have hkept := s.xHalt_kept id hwf
    rw [State.xing_modXing _ _ _ hkept.wf, hkept.same]
    exact ⟨by rw [if_pos (by grind)], rfl, rfl⟩

theorem State.toggle_of_ne_lane (s : State) {id : Nat} (second : Bool) (hclass : xClass id ≠ 9) :
    s.toggle id second = s.modXing id fun x => if second then { x with e2 := !x.e2, rst2 := true } else { x with e1 := !x.e1, rst1 := true } := by
  rw [State.toggle, if_neg hclass]

theorem State.tear_wf (s : State) {id : Nat} (second : Bool) (hclass : xClass id ≠ 9) (hwf : Map.wf {} s.xg.x = true) :
    Map.wf {} (s.tear id second).xg.x = true := by
  rw [State.tear, s.toggle_of_ne_lane second hclass]
  exact State.tornCheck_wf _ hclass (State.modXing_wf _ _ hwf)

theorem State.xing_tear_ne (s : State) {id i : Nat} (second : Bool) (hclass : xClass id ≠ 9) (hwf : Map.wf {} s.xg.x = true)
    (hi : i ≠ id) : (s.tear id second).xing i = s.xing i := by
  rw [State.tear, s.toggle_of_ne_lane second hclass, State.xing_tornCheck_ne _ hclass (State.modXing_wf _ _ hwf) hi,
    State.xing_modXing_ne _ _ hi]

/-- The side that was reset holds the other epoch, and a working crossing whose sides agreed is torn. -/
theorem State.xing_tear (s : State) {id : Nat} (second : Bool) (hclass : xClass id ≠ 9) (hwf : Map.wf {} s.xg.x = true) :
    ((s.tear id second).xing id).e1 = (if second then (s.xing id).e1 else !(s.xing id).e1) ∧
      ((s.tear id second).xing id).e2 = (if second then !(s.xing id).e2 else (s.xing id).e2) ∧
      ((s.xing id).st ≠ .fenced → (s.xing id).e1 = (s.xing id).e2 → ((s.tear id second).xing id).st = .torn) := by
  rw [State.tear, s.toggle_of_ne_lane second hclass]
  obtain ⟨hst, he1, he2⟩ := State.xing_tornCheck (s.modXing id fun x =>
    if second then { x with e2 := !x.e2, rst2 := true } else { x with e1 := !x.e1, rst1 := true }) hclass (State.modXing_wf _ _ hwf)
  rw [he1, he2, hst, State.xing_modXing _ _ _ hwf]
  cases second <;> simp +contextual

end Sys2Proof.Machine
end

section
/-! SUPPORT. The test access port: its boundary, its registers and its reset (R215, R404, Table 14-11). -/
namespace Sys2Proof.Machine
open Sys2Proof.Safety

theorem exec_trstN (s : State) : exec .trstN s = execTrstN s := rfl

theorem exec_bypass (code : BitVec 8) (s : State) : exec (.bypass code) s = execBypass code s := rfl

/-- Settles O13: the boundary instructions write the port's registers; TRST_N tears each of the two crossings at its test side. -/
theorem testPort : Obligations.TestPort := by
  refine ⟨fun _ _ => rfl, fun _ _ => rfl, fun _ => rfl, fun code s hcode => ?bypass, fun s hreset => ?inReset,
    fun s hreset hwf => ?outOfReset⟩
  case bypass => rw [exec_bypass, execBypass, if_neg (by simpa using hcode)]; rfl
  case inReset => rw [exec_trstN, execTrstN]; exact if_pos hreset
  case outOfReset =>
    have hrun : exec .trstN s = .next (((s.modTap fun _ => {}).tear (xId 11 0) false).tear (xId 11 1) true) := by
      rw [exec_trstN, execTrstN]
      exact if_neg (by simp [hreset])
    have hclass0 : xClass (xId 11 0) ≠ 9 := by decide
    have hclass1 : xClass (xId 11 1) ≠ 9 := by decide
    have hne : xId 11 0 ≠ xId 11 1 := by decide
    have hwf0 : Map.wf {} (s.modTap fun _ => {}).xg.x = true := hwf
    have hwf1 := State.tear_wf _ false hclass0 hwf0
    have h0 := State.xing_tear _ false hclass0 hwf0
    have h1 := State.xing_tear _ true hclass1 hwf1
    rw [State.xing_tear_ne _ false hclass0 hwf0 hne.symm] at h1
    obtain ⟨he1, _, htorn0⟩ := h0
    obtain ⟨_, he2, htorn1⟩ := h1
    refine ⟨_, hrun, ?_, ?_, he2, ?_, ?_, exec_only hrun⟩
    · exact (Keeps.tear_keeps (gs := [.reg, .ls, .xg]) (List.Subset.refl _)
        (Keeps.tear_keeps (List.Subset.refl _) (Keeps.refl _) _ _) _ _).only.same .tap (by decide)
    · rw [State.xing_tear_ne _ true hclass1 hwf1 hne]
      exact he1
    · rintro n (rfl | rfl)
      · rw [State.xing_tear_ne _ true hclass1 hwf1 hne]
        exact htorn0
      · exact htorn1
    · intro id hid0 hid1
      rw [State.xing_tear_ne _ true hclass1 hwf1 hid1, State.xing_tear_ne _ false hclass0 hwf0 hid0]
      rfl

end Sys2Proof.Machine
end

section
/-! SUPPORT. Mailboxes by their doorbells: the request buffer, RING, ACK and CLEAR_ERR through the window (R289, R295), and mailbox 7
through the test port (R302, R404). -/
namespace Sys2Proof.Machine
open Sys2Proof.Safety

/-- What a command that has run can have changed, in a longer list or another order. -/
theorem exec_only_of_subset {c : Instr} {s t : State} {gs : List Group} (hrun : exec c s = .next t) (h : writes c ⊆ gs) : Only gs s t :=
  ⟨fun g hg => (exec_only hrun).same g fun hmem => hg (h hmem)⟩

/-! ### RING on a request that stands in the buffer -/

/-- An opcode that has a command is one of 16 bits. -/
theorem command_lt {op : Nat} {c : Cmd} (h : command op = some c) : op < 65536 := by
  unfold command at h
  by_contra hlarge
  repeat rw [if_neg (by omega)] at h
  cases h

theorem State.modBox_congr {s : State} {m : Fin 8} {f g : Mailbox → Mailbox} (h : f (s.box m) = g (s.box m)) :
    s.modBox m f = s.modBox m g := by
  have hset : f s.mbx.box[m] = g s.mbx.box[m] := h
  rw [State.modBox, State.modBox, hset]

/-- A RING on a request that firmware can serve runs the command that its opcode names. -/
theorem State.serve_of_ready {s : State} {cmd : Nat → Option Cmd} {op : Nat} {c : Cmd} {q : Req} (hop : op < 65536)
    (hcmd : cmd op = some c) (hreq : (s.box q.mbx).req = trim (q.encode op)) (hready : ready s op q = true) :
    s.serve cmd q.mbx q.test = finish q (c q (posted s op q)) := by
  simp only [ready, Bool.and_eq_true, Bool.not_eq_true'] at hready
  obtain ⟨⟨⟨⟨hfree, hfw⟩, hnew⟩, hpasses⟩, _⟩ := hready
  have hposted : (s.modBox q.mbx fun b => { b with st := .working, src := decide (q.mbx = 7) && q.test, wait := none }) =
      posted s op q := State.modBox_congr (by rw [← hreq])
  have hfresh : ∀ resp, (s.box q.mbx).journal ≠ some ⟨(s.box q.mbx).req, resp, decide (q.mbx = 7) && q.test, false⟩ := by
    intro resp hjournal
    simp [replays, hjournal, hreq] at hnew
  rw [State.serve_eq_serveFresh (not_busy_of_reachesFree hfree) hfw hfresh, hposted, hreq, padTo_trim_encode,
    ofBuffer_encode op q (payload_le_of_reachesFree hfree), le_encode_op op q hop]
  exact State.serveFresh_of_checked (Option.isNone_iff_eq_none.mp hpasses) hcmd

theorem State.serve_of_busy {s : State} {cmd : Nat → Option Cmd} {m : Fin 8} {test : Bool}
    (hbusy : (s.box m).st = .posted ∨ (s.box m).st = .working) :
    s.serve cmd m test = s.modBox m fun b => { b with dbErr := true } := if_pos hbusy

/-! ### The request buffer -/

theorem State.writeBuffer_of_busy {s : State} {m : Fin 8} (off : Nat) (bs : Bytes)
    (hbusy : (s.box m).st = .posted ∨ (s.box m).st = .working) :
    s.writeBuffer m off bs = s.modBox m fun b => { b with wrErr := true } := if_pos hbusy

theorem State.writeBuffer_of_free {s : State} {m : Fin 8} (off : Nat) (bs : Bytes)
    (hfree : (s.box m).st = .idle ∨ (s.box m).st = .responded) :
    s.writeBuffer m off bs = s.modBox m fun b => { b with req := trim (overlayAt (padTo 256 b.req) off bs) } :=
  if_neg (by rcases hfree with h | h <;> simp [h])

theorem State.box_writeBuffer_ne (s : State) {m n : Fin 8} (off : Nat) (bs : Bytes) (h : n ≠ m) : (s.writeBuffer m off bs).box n = s.box n := by
  unfold State.writeBuffer
  split <;> exact s.box_modBox_ne _ h

theorem padTo_getD (n : Nat) (bs : Bytes) {i : Nat} (h : i < n) : (padTo n bs).getD i 0 = bs.getD i 0 := by
  rw [padTo, slice_getD _ _ _ _ h, Nat.zero_add]

/-- A byte of an overlaid string is the new one where the overlay reaches, and the old one elsewhere. -/
theorem overlayAt_getD (buf bs : Bytes) (off i : Nat) :
    (overlayAt buf off bs).getD i 0 = if off ≤ i ∧ i < off + bs.length then bs.getD (i - off) 0 else buf.getD i 0 := by
  unfold overlayAt
  rcases Nat.lt_or_ge i off with hlow | hlow
  · rw [List.append_assoc, List.getD_append _ _ _ _ (by simpa using hlow), padTo_getD _ _ hlow, if_neg (by omega)]
  · rw [List.append_assoc, List.getD_append_right _ _ _ _ (by simpa using hlow), padTo_length]
    rcases Nat.lt_or_ge i (off + bs.length) with hhigh | hhigh
    · rw [List.getD_append _ _ _ _ (by omega), if_pos ⟨hlow, hhigh⟩]
    · rw [List.getD_append_right _ _ _ _ (by omega), if_neg (by omega)]
      simp only [List.getD_eq_getElem?_getD, List.getElem?_drop]
      congr 2
      omega

/-- A whole buffer written over another leaves nothing of it. -/
theorem overlayAt_zero {buf bs : Bytes} (h : buf.length ≤ bs.length) : overlayAt buf 0 bs = bs := by
  simp [overlayAt, padTo, slice, h]

/-! ### The window -/

theorem exec_requestBufferWrite {m : Fin 8} {off : Nat} {bs : Bytes} {s : State} (hreach : s.reaches m false = true)
    (hlen : bs.length = 4 ∨ bs.length = 8) (halign : off % bs.length = 0) (hend : off + bs.length ≤ 256) :
    exec (.requestBufferWrite m off bs) s = .next (s.writeBuffer m off bs) := if_pos ⟨hreach, hlen, halign, hend⟩

theorem exec_ring {m : Fin 8} {s : State} (hreach : s.reaches m false = true) : exec (.ring m) s = .next (s.serve command m false) :=
  if_pos hreach

theorem exec_ack {m : Fin 8} {s : State} (hreach : s.reaches m false = true) : exec (.ack m) s = .next (s.ackBox m) := if_pos hreach

theorem exec_clearErr {m : Fin 8} {s : State} (hreach : s.reaches m false = true) : exec (.clearErr m) s = .next (s.clearErr m) :=
  if_pos hreach

theorem reaches_of_ready {s : State} {op : Nat} {q : Req} (hready : ready s op q = true) : s.reaches q.mbx q.test = true := by
  simp only [ready, reachesFree, Bool.and_eq_true] at hready
  obtain ⟨⟨⟨⟨⟨⟨_, hreach⟩, _⟩, _⟩, _⟩, _⟩, _⟩ := hready
  exact hreach

theorem exec_mbErgLoRead {s : State} (hup : s.windowUp = true) :
    exec .mbErgLoRead s = .next { s with mbx := { s.mbx with
      winErg := s.windowErg, read := word s.windowErg, ergHi := word (s.windowErg / 2 ^ 32) } } := by
  have hrun : exec .mbErgLoRead s = execMbErgLoRead s := rfl
  rw [hrun, execMbErgLoRead, hup]
  rfl

/-- Settles O15: each doorbell changes its own mailbox, a RING serves what stands in the buffer, and the window's count lies within its
bounds. -/
theorem doorbellsAndErgHalves : Obligations.DoorbellsAndErgHalves := by
  refine ⟨fun m off bs s hreach hlen halign hend => ?write, fun s op c q hcmd htest hreq hready => ?ring, fun m s hreach hbusy => ?ringBusy,
    fun m s hreach => ?ack, fun m s hreach => ?clear, fun s hup => ?low, fun s hup => ?high⟩
  case write =>
    have hrun := exec_requestBufferWrite hreach hlen halign hend
    refine ⟨_, hrun, fun hfree => ?_, fun hbusy => ?_, fun n hn => s.box_writeBuffer_ne off bs hn, exec_only hrun⟩
    · rw [State.writeBuffer_of_free off bs hfree, State.box_modBox]
      refine ⟨rfl, fun i hi => ?_⟩
      rw [padTo_trim, padTo_getD _ _ hi, overlayAt_getD]
    · rw [State.writeBuffer_of_busy off bs hbusy, State.box_modBox]
  case ring =>
    have hreach := reaches_of_ready hready
    have hserve := State.serve_of_ready (command_lt hcmd) hcmd hreq hready
    rw [htest] at hreach hserve
    rw [exec_ring hreach, hserve]
  case ringBusy =>
    have hrun := exec_ring hreach
    rw [State.serve_of_busy hbusy] at hrun
    exact ⟨_, hrun, s.box_modBox _ _, fun n hn => s.box_modBox_ne _ hn,
      (Keeps.modBox_keeps (List.Subset.refl _) (Keeps.refl s) _ _).only⟩
  case ack => exact ⟨_, exec_ack hreach, s.box_modBox _ _, fun n hn => s.box_modBox_ne _ hn, exec_only (exec_ack hreach)⟩
  case clear => exact ⟨_, exec_clearErr hreach, s.box_modBox _ _, fun n hn => s.box_modBox_ne _ hn, exec_only (exec_clearErr hreach)⟩
  case low =>
    have hrun := exec_mbErgLoRead hup
    have hcount : s.windowErg = max (min s.mbx.winErg s.sys.erg) (max (s.sys.erg - 20) (min (s.replicaCount (regionNo 16 0)) s.sys.erg)) := rfl
    refine ⟨s.windowErg, _, hrun, by omega, by omega, by omega, by omega, ?_, ?_, rfl, exec_only hrun⟩
    · exact BitVec.toNat_ofNat ..
    · exact BitVec.toNat_ofNat ..
  case high =>
    have hrun : exec .mbErgHiRead s = execMbErgHiRead s := rfl
    rw [hrun, execMbErgHiRead, hup]
    rfl

/-! ### The test port -/

/-- The test port reaches MBX7 out of PKG_RESET_N. -/
theorem State.reaches_seven {s : State} (hreset : s.sys.pkgReset = false) : s.reaches 7 true = true := by
  simp [State.reaches, hreset]

/-- The port with MBX7_CTL's capture. -/
def State.ctlCaptured (s : State) : State :=
  s.modTap fun t => { t with
    ir := 0x22, dr := toLE 4 (if s.xState (xId 11 1) = .whole then s.mbxStatus 7 else Map.get 0 s.xg.shown 0x21074) }

theorem State.ctlCaptured_keeps (s : State) : Keeps [.tap, .mbx] s s.ctlCaptured :=
  Keeps.modTap_keeps (gs := [.tap, .mbx]) (by decide) (Keeps.refl s) _

theorem exec_mbx7Ctl (w : Word) (s : State) : exec (.mbx7Ctl w) s =
    if s.reaches 7 true ∧ s.xState (xId 11 0) = .whole then
      let s := if bitOf w 2 then s.ctlCaptured.clearErr 7 else s.ctlCaptured
      let s := if bitOf w 1 then s.ackBox 7 else s
      .next (if bitOf w 0 then s.ringBox 7 true else s)
    else .next s.ctlCaptured := rfl

/-- The port with MBX7_REQ loaded. -/
def State.reqLoaded (s : State) : State := { s with tap := { s.tap with ir := 0x20 } }

theorem exec_mbx7Req (bs : Bytes) (s : State) : exec (.mbx7Req bs) s =
    if s.reaches 7 true ∧ s.xState (xId 11 0) = .whole then .next (s.reqLoaded.writeBuffer 7 0 (padTo 256 bs))
    else .next s.reqLoaded := rfl

theorem exec_mbx7Rsp (s : State) : exec .mbx7Rsp s = .next { s with tap := { s.tap with ir := 0x21, dr := s.testResp } } := rfl

/-- The words of MBX7's response buffer that the outbound crossing carried last. -/
theorem State.testResp_of_not_whole {s : State} (h : s.xState (xId 11 1) ≠ .whole) :
    s.testResp = (List.range 64).flatMap fun k => toLE 4 (Map.get 0 s.xg.shown (0x20F00 + 4 * k)) := by
  rw [State.testResp, if_neg h]
  congr 1
  funext k
  rw [State.through, if_neg h, faceKey]
  congr 2
  have hclass : xClass (xId 11 1) = 11 := rfl
  simp [hclass]
  omega

/-- Settles O14: the instruction loads the port, and a whole inbound crossing lets the buffer's write and the doorbells through. -/
theorem mailboxSevenByTheTestPort : Obligations.MailboxSevenByTheTestPort := by
  refine ⟨fun bs s hreset hwhole => ?req, fun bs s hbroken => ?reqBroken, fun s hwhole => ?rsp, fun s hbroken => ?rspBroken,
    fun w s hreset hwhole hw => ?ctl, fun w s hbroken => ?ctlBroken, fun s op c q hcmd hmbx htest hreq hwhole hout => ?ring⟩
  case req =>
    have hrun := exec_mbx7Req bs s
    rw [if_pos ⟨State.reaches_seven hreset, hwhole⟩] at hrun
    refine ⟨_, hrun, ?_, fun hfree => ?_, fun hbusy => ?_, fun m hm => State.box_writeBuffer_ne _ 0 _ hm,
      exec_only_of_subset hrun (by simp [writes])⟩
    · unfold State.writeBuffer
      split <;> rfl
    · rw [State.writeBuffer_of_free (s := s.reqLoaded) _ _ hfree, State.box_modBox, overlayAt_zero (by simp)]
      rfl
    · rw [State.writeBuffer_of_busy (s := s.reqLoaded) _ _ hbusy, State.box_modBox]
      rfl
  case reqBroken => rw [exec_mbx7Req, if_neg (by simp [hbroken]), State.reqLoaded]
  case rsp => rw [exec_mbx7Rsp, State.testResp, if_pos hwhole]
  case rspBroken => rw [exec_mbx7Rsp, State.testResp_of_not_whole hbroken]
  case ctl =>
    have hrun := exec_mbx7Ctl w s
    rw [if_pos ⟨State.reaches_seven hreset, hwhole⟩] at hrun
    rcases hw with rfl | rfl
    · have hack : exec (.mbx7Ctl 2) s = .next (s.ctlCaptured.ackBox 7) := hrun
      exact ⟨_, hack, rfl, fun _ => State.box_modBox _ _ _, fun h => absurd h (by decide), fun m hm => State.box_modBox_ne _ _ hm,
        (Keeps.modBox_keeps (by decide) s.ctlCaptured_keeps _ _).only⟩
    · have hclear : exec (.mbx7Ctl 4) s = .next (s.ctlCaptured.clearErr 7) := hrun
      exact ⟨_, hclear, rfl, fun h => absurd h (by decide), fun _ => State.box_modBox _ _ _, fun m hm => State.box_modBox_ne _ _ hm,
        (Keeps.modBox_keeps (by decide) s.ctlCaptured_keeps _ _).only⟩
  case ctlBroken => rw [exec_mbx7Ctl, if_neg (by simp [hbroken])]; rfl
  case ring =>
    intro u hready
    have hcaptured : s.ctlCaptured = u := by
      unfold State.ctlCaptured
      rw [if_pos hout]
      rfl
    have hreach : s.reaches 7 true = true := by
      have := reaches_of_ready hready
      rwa [hmbx, htest] at this
    have hserve := State.serve_of_ready (s := u) (command_lt hcmd) hcmd (by rw [hmbx]; exact hreq) hready
    rw [hmbx, htest] at hserve
    rw [exec_mbx7Ctl, if_pos ⟨hreach, hwhole⟩, hcaptured, ← hserve]
    rfl

end Sys2Proof.Machine
end

section
/-! SUPPORT. Regions under the crossings' operations: only what a crossing holds of a region changes; and folds that change one region
after another. -/
namespace Sys2Proof.Machine
open Sys2Proof.Safety

/-- The table of regions is canonical. -/
abbrev State.RegWf (s : State) : Prop := Map.wf Region.reset s.reg = true

/-- A region but for what its crossings and its record former hold. -/
def Region.core (g : Region) : Region :=
  { g with sent := none, tx := none, msgs := [], msgWait := [], planTx := none, former := {}, capture := [] }

@[simp] theorem Region.core_abandon (g : Region) : g.abandon.core = g.core := by
  simp only [Region.abandon]
  split <;> rfl

@[simp] theorem Region.core_uncapture (g : Region) (i : Nat) : (g.uncapture i).core = g.core := rfl

/-- The core has every field that is not a crossing's: fields read off it are those of the region. -/
theorem Region.core_inReset (g : Region) : g.core.inReset = g.inReset := rfl
theorem Region.core_cycle (g : Region) : g.core.cycle = g.cycle := rfl
theorem Region.core_sl (g : Region) : g.core.sl = g.sl := rfl

/-- Every region keeps its core. -/
structure State.CoreKept (s t : State) : Prop where
  region : ∀ r, (t.rgn r).core = (s.rgn r).core
  wf : t.RegWf

theorem State.CoreKept.refl {s : State} (hwf : s.RegWf) : State.CoreKept s s := ⟨fun _ => rfl, hwf⟩

theorem State.CoreKept.of_reg {o s t : State} (h : State.CoreKept o s) (hreg : t.reg = s.reg) : State.CoreKept o t := by
  refine ⟨fun r => ?_, ?_⟩
  · rw [← h.region r, State.rgn, hreg, ← State.rgn]
  · rw [State.RegWf, hreg]
    exact h.wf

theorem State.CoreKept.modRgn {o s : State} (h : State.CoreKept o s) (r : RegionNo) {f : Region → Region} (hf : ∀ g, (f g).core = g.core) :
    State.CoreKept o (s.modRgn r f) := by
  refine ⟨fun k => ?_, s.modRgn_wf r f h.wf⟩
  rcases Decidable.em (k = r) with rfl | hk
  · rw [s.rgn_modRgn k f h.wf, hf, h.region]
  · rw [s.rgn_modRgn_ne f hk, h.region]

theorem State.CoreKept.foldl {α : Type} {o s : State} {f : State → α → State} (hf : ∀ t x, State.CoreKept o t → State.CoreKept o (f t x))
    (h : State.CoreKept o s) (l : List α) : State.CoreKept o (l.foldl f s) :=
  List.foldlRecOn l f h fun t ht x _ => hf t x ht

theorem State.CoreKept.ite {o s t : State} {c : Prop} [Decidable c] (hs : State.CoreKept o s) (ht : State.CoreKept o t) :
    State.CoreKept o (if c then s else t) := by
  split
  · exact hs
  · exact ht

/-! ### The crossings' operations -/

theorem State.toggle_reg (s : State) (id : Nat) (second : Bool) : (s.toggle id second).reg = s.reg := by
  unfold State.toggle
  split <;> rfl

theorem State.holdWords_reg (s : State) (id : Nat) : (s.holdWords id).reg = s.reg := by
  unfold State.holdWords
  split
  · rfl
  · split <;> rfl

theorem State.CoreKept.dropWaiting {o s : State} (h : State.CoreKept o s) (id : Nat) : State.CoreKept o (s.dropWaiting id) := by
  unfold State.dropWaiting
  dsimp only
  refine .ite ?_ (.ite ?_ (.ite ?_ (.ite ?_ h)))
  · exact (h.modRgn (xInst id) (f := fun g => { g with msgWait := [] }) fun _ => rfl).of_reg rfl
  · exact (h.modRgn (xInst id) (f := fun g => { g with former := { g.former with lane := g.former.lane.take queueSize } })
      fun _ => rfl).of_reg rfl
  · exact h.of_reg rfl
  · exact h.of_reg rfl

theorem State.CoreKept.xHalt {o s : State} (h : State.CoreKept o s) (id : Nat) : State.CoreKept o (s.xHalt id) := by
  have first : State.CoreKept o (if (s.xing id).wait.isSome then s.modXing id fun x => { x with wait := none } else s.holdWords id) :=
    .ite (h.of_reg rfl) (h.of_reg (s.holdWords_reg id))
  unfold State.xHalt
  exact .ite ((first.dropWaiting id).modRgn _ Region.core_abandon) (first.dropWaiting id)

theorem State.CoreKept.tornCheck {o s : State} (h : State.CoreKept o s) (id : Nat) : State.CoreKept o (s.tornCheck id) := by
  unfold State.tornCheck
  exact .ite (.ite h (h.of_reg rfl)) (.ite h ((h.xHalt id).of_reg rfl))

theorem State.CoreKept.tearAll {o s : State} (h : State.CoreKept o s) (rs : List RegionNo) : State.CoreKept o (s.tearAll rs) := by
  unfold State.tearAll
  refine .foldl (fun t id ht => ht.tornCheck id) (.ite (.foldl (fun t id ht => ht.of_reg (t.toggle_reg ..)) h _) h) _

theorem State.complete_reg (s : State) (m : Fin 8) (r : Reply) : (s.complete m r).reg = s.reg := by
  unfold State.complete
  split <;> rfl

theorem State.raiseIf_reg (c : Bool) (id arg : Nat) (s : State) : (s.raiseIf c id arg).reg = s.reg :=
  (Keeps.raiseIf_keeps (List.Subset.refl _) (Keeps.refl s) c id arg).only.same .reg (by decide)

theorem State.CoreKept.freeAnchor {o s : State} (h : State.CoreKept o s) (i : Nat) : State.CoreKept o (s.freeAnchor i) :=
  (h.of_reg (t := s.modAnchor i fun a => { gen := a.gen + 1 }) rfl).modRgn _ fun g => g.core_uncapture i

theorem State.CoreKept.breakAnchor {o s : State} (h : State.CoreKept o s) (i : Nat) : State.CoreKept o (s.breakAnchor i) := by
  unfold State.breakAnchor
  refine .foldl (fun t m ht => ?_) ?_ _
  · split
    · exact .ite (ht.of_reg (t.complete_reg ..)) ht
    · exact ht
  · exact (h.of_reg (State.raiseIf_reg ..)).freeAnchor i

theorem State.CoreKept.breakAnchors {o s : State} (h : State.CoreKept o s) (p : RegionNo → Bool) : State.CoreKept o (s.breakAnchors p) :=
  .foldl (fun _ i ht => ht.breakAnchor i) h _

/-! ### One region after another -/

section Fold
variable {F : State → RegionNo → State} (hother : ∀ t r k, k ≠ r → (F t r).rgn k = t.rgn k)
include hother

theorem State.rgn_foldl_of_not_mem {l : List RegionNo} {r : RegionNo} (hr : r ∉ l) (s : State) : (l.foldl F s).rgn r = s.rgn r := by
  induction l generalizing s with
  | nil => rfl
  | cons x xs ih =>
    simp only [List.mem_cons, not_or] at hr
    rw [List.foldl_cons, ih hr.2, hother s x r hr.1]

/-- What each step brings about in its own region holds of every region of the list. -/
theorem State.rgn_foldl_of_mem {P : Region → Prop} (hself : ∀ t r, t.RegWf → P ((F t r).rgn r)) (hwf : ∀ t r, t.RegWf → (F t r).RegWf)
    {l : List RegionNo} {r : RegionNo} (hr : r ∈ l) {s : State} (hs : s.RegWf) : P ((l.foldl F s).rgn r) := by
  induction l generalizing s with
  | nil => simp at hr
  | cons x xs ih =>
    rw [List.foldl_cons]
    rcases Decidable.em (r ∈ xs) with hmem | hmem
    · exact ih hmem (hwf s x hs)
    · obtain rfl : r = x := (List.mem_cons.1 hr).resolve_right hmem
      rw [State.rgn_foldl_of_not_mem hother hmem]
      exact hself s r hs
end Fold

theorem State.foldl_wf {α : Type} {F : State → α → State} (hwf : ∀ t r, t.RegWf → (F t r).RegWf) (l : List α) {s : State} (hs : s.RegWf) :
    (l.foldl F s).RegWf :=
  List.foldlRecOn l F (motive := fun t : State => t.RegWf) hs fun t ht r _ => hwf t r ht

end Sys2Proof.Machine
end

section
/-! SUPPORT. A die's supply, and resets of a die's own: regions held in reset, their crossings torn, their anchors broken (R211, R378,
Table 13-4). -/
namespace Sys2Proof.Machine
open Sys2Proof.Safety

/-! ### A region's own reset -/

theorem State.foldl_toggle_reg (l : List (Nat × Bool)) (s : State) : (l.foldl (fun s e => s.toggle e.1 e.2) s).reg = s.reg := by
  induction l generalizing s with
  | nil => rfl
  | cons e l ih => rw [List.foldl_cons, ih, State.toggle_reg]

theorem State.foldl_toggle_sys (l : List (Nat × Bool)) (s : State) : (l.foldl (fun s e => s.toggle e.1 e.2) s).sys = s.sys := by
  induction l generalizing s with
  | nil => rfl
  | cons e l ih =>
    rw [List.foldl_cons, ih]
    exact (Keeps.toggle_keeps (List.Subset.refl _) (Keeps.refl s) e.1 e.2).only.same .sys (by decide)

theorem State.modRgn_reg_congr {s t : State} (h : t.reg = s.reg) (r : RegionNo) (f : Region → Region) :
    (t.modRgn r f).reg = (s.modRgn r f).reg := by
  simp only [State.modRgn, State.setRgn, State.rgn, h]

theorem State.regionReset_reg (s : State) (r : RegionNo) (f : Region → Region) : (s.regionReset r f).reg = (s.modRgn r f).reg :=
  State.modRgn_reg_congr (State.foldl_toggle_reg ..) r f

theorem State.rgn_congr {s t : State} (h : t.reg = s.reg) (r : RegionNo) : t.rgn r = s.rgn r := by
  rw [State.rgn, h, State.rgn]

theorem State.regionReset_wf {s : State} (r : RegionNo) (f : Region → Region) (hwf : s.RegWf) : (s.regionReset r f).RegWf := by
  rw [State.RegWf, State.regionReset_reg]
  exact s.modRgn_wf r f hwf

theorem State.rgn_regionReset {s : State} (r : RegionNo) (f : Region → Region) (hwf : s.RegWf) :
    (s.regionReset r f).rgn r = f (s.rgn r) := by
  rw [State.rgn_congr (State.regionReset_reg ..), s.rgn_modRgn r f hwf]

theorem State.rgn_regionReset_ne (s : State) {r k : RegionNo} (f : Region → Region) (h : k ≠ r) :
    (s.regionReset r f).rgn k = s.rgn k := by
  rw [State.rgn_congr (State.regionReset_reg ..), s.rgn_modRgn_ne f h]

/-- A region held in a reset of its own, its parts reset. -/
def Region.held (g : Region) : Region := { g.partsReset with inReset := true }

/-- Regions held in a reset of their own, one after the other. -/
def State.holdRegions (s : State) (rs : List RegionNo) : State := rs.foldl (fun s r => s.regionReset r Region.held) s

theorem State.holdRegions_wf {s : State} (rs : List RegionNo) (hwf : s.RegWf) : (s.holdRegions rs).RegWf :=
  State.foldl_wf (fun _ r h => State.regionReset_wf r _ h) rs hwf

/-- A region held in reset: its stretch loop is IDLE and its cycle count 0. -/
structure Region.AtRest (g : Region) : Prop where
  inReset : g.inReset = true
  cycle : g.cycle = 0
  sl : g.sl = {}

theorem Region.AtRest.of_core {g h : Region} (hg : g.AtRest) (hcore : h.core = g.core) : h.AtRest := by
  refine ⟨?_, ?_, ?_⟩
  · rw [← h.core_inReset, hcore, g.core_inReset, hg.inReset]
  · rw [← h.core_cycle, hcore, g.core_cycle, hg.cycle]
  · rw [← h.core_sl, hcore, g.core_sl, hg.sl]

theorem Region.held_atRest (g : Region) : g.held.AtRest := ⟨rfl, rfl, rfl⟩

theorem State.holdRegions_atRest {s : State} {rs : List RegionNo} {r : RegionNo} (hr : r ∈ rs) (hwf : s.RegWf) :
    ((s.holdRegions rs).rgn r).AtRest := by
  refine State.rgn_foldl_of_mem (fun t r k hk => t.rgn_regionReset_ne _ hk) (fun t r ht => ?_)
    (fun t r ht => State.regionReset_wf r _ ht) hr hwf
  rw [State.rgn_regionReset r _ ht]
  exact Region.held_atRest _

theorem State.regionReset_droop (s : State) (r : RegionNo) (f : Region → Region) :
    (s.regionReset r f).sys.droop = dropKey r s.sys.droop := by
  simp only [State.regionReset, State.modRgn_sys, State.foldl_toggle_sys]

/-- No region held in reset holds the droop warning. -/
theorem State.mem_holdRegions_droop {s : State} {rs : List RegionNo} {k : RegionNo} (h : k ∈ (s.holdRegions rs).sys.droop) :
    k ∈ s.sys.droop ∧ k ∉ rs := by
  induction rs generalizing s with
  | nil => exact ⟨h, by simp⟩
  | cons r rs ih =>
    obtain ⟨hdroop, hrs⟩ := ih (s := s.regionReset r Region.held) h
    rw [State.regionReset_droop] at hdroop
    simp only [dropKey, List.mem_filter, decide_eq_true_eq] at hdroop
    exact ⟨hdroop.1, by simp [hrs, hdroop.2]⟩

/-- Regions held in reset, their crossings torn, their anchors broken. -/
def State.resetRegions (s : State) (rs : List RegionNo) : State := ((s.holdRegions rs).tearAll rs).breakAnchors rs.contains

theorem State.resetRegions_atRest {s : State} {rs : List RegionNo} {r : RegionNo} (hr : r ∈ rs) (hwf : s.RegWf) :
    ((s.resetRegions rs).rgn r).AtRest ∧ r ∉ (s.resetRegions rs).sys.droop := by
  have hkept : State.CoreKept (s.holdRegions rs) (s.resetRegions rs) :=
    ((State.CoreKept.refl (State.holdRegions_wf rs hwf)).tearAll rs).breakAnchors _
  have hsys : (s.resetRegions rs).sys = (s.holdRegions rs).sys :=
    (Keeps.breakAnchors_keeps (gs := [.mbx, .reg, .et, .ls, .xg, .ev]) (by decide)
      (Keeps.tearAll_keeps (by decide) (Keeps.refl _) rs) _).only.same .sys (by decide)
  refine ⟨(State.holdRegions_atRest hr hwf).of_core (hkept.region r), fun hdroop => ?_⟩
  rw [hsys] at hdroop
  exact (State.mem_holdRegions_droop hdroop).2 hr

theorem State.resetRegions_keeps (s : State) (rs : List RegionNo) : Keeps [.sys, .mbx, .reg, .et, .ls, .xg, .ev] s (s.resetRegions rs) :=
  Keeps.breakAnchors_keeps (by decide) (Keeps.tearAll_keeps (by decide)
    (Keeps.foldl (fun _ r h => Keeps.regionReset_keeps (by decide) h r _) (Keeps.refl s)) rs) _

/-! ### The die -/

theorem State.rejoinDrop_dieAt (s : State) {site i : Nat} (h : i ≠ site) : (s.rejoinDrop site).dieAt i = s.dieAt i := by
  unfold State.rejoinDrop
  dsimp only
  split
  · have hdie := (Keeps.modRgns_keeps (List.Subset.refl _) (Keeps.refl (s.modDie site fun d => { d with
      st := if d.st = .rejoining then .lost else d.st, lostAt := if d.st = .rejoining then some s.now else d.lostAt
      joinAt := none, checks := 0, signed := false })) (siteRegions site)
      fun _ g => { g with hb := { g.hb with life := false } }).only.same .die (by decide)
    rw [State.dieAt, hdie]
    exact s.dieAt_modDie_ne _ h
  · exact s.dieAt_modDie_ne _ h

theorem State.rejoinDrop_keeps (s : State) (site : Nat) : Keeps [.reg, .die] s (s.rejoinDrop site) :=
  Keeps.rejoinDrop_keeps (List.Subset.refl _) (Keeps.refl s) site

theorem State.dieAt_congr {s t : State} (h : t.die = s.die) (i : Nat) : t.dieAt i = s.dieAt i := by
  rw [State.dieAt, h, State.dieAt]

theorem exec_diePowerLoss {site : Site} {s : State} (hsite : site.val ≠ 16) (hdie : s.hasDie site = true)
    (hpower : (s.dieAt site).unpowered = false) :
    exec (.diePowerLoss site) s = .next
      { (s.rejoinDrop site).modDie site fun d => { d with unpowered := true } with
        sys := { (s.rejoinDrop site).sys with droop := (s.rejoinDrop site).sys.droop.filter fun r => decide (siteOf r ≠ site.val) } } := by
  have hrun : exec (.diePowerLoss site) s = execDiePowerLoss site s := rfl
  rw [hrun, execDiePowerLoss, if_neg hsite, if_neg (by simp [hdie, hpower])]
  rfl

theorem exec_dieOwnReset {site : Site} {s : State} (hsite : site.val ≠ 16) (hdie : s.hasDie site = true) :
    exec (.dieOwnReset site) s = .next ((s.rejoinDrop site).resetRegions (siteRegions site)) := by
  have hrun : exec (.dieOwnReset site) s = execDieOwnReset site s := rfl
  rw [hrun, execDieOwnReset, if_neg (by simp [hdie, hsite])]
  rfl

/-- The regions that a reset of some regions reaches. -/
def State.resettable (s : State) (rs : List RegionNo) : List RegionNo :=
  rs.eraseDups.filter fun r => s.regionExists r && s.hasDie (siteOf r)

theorem exec_regionsOwnReset (rs : List RegionNo) (s : State) :
    exec (.regionsOwnReset rs) s = .next (s.resetRegions (s.resettable rs)) := rfl

/-! ### Supply returned -/

/-- A region's sides come up with their epoch bits clear. -/
def State.sideUp (s : State) (e : Nat × Bool) : State :=
  if xClass e.1 = 9 then s.modLane (xInst e.1) (xLink e.1) fun l => if e.2 then { l with e2 := false } else { l with e1 := false }
  else s.modXing e.1 fun x => if e.2 then { x with e2 := false, rst2 := true } else { x with e1 := false, rst1 := true }

theorem State.sideUp_reg (s : State) (e : Nat × Bool) : (s.sideUp e).reg = s.reg := by
  unfold State.sideUp
  split <;> rfl

/-- A region part comes up under power-on reset. -/
def Region.poweredUp (g : Region) (now : Nat) (lost : Bool) : Region :=
  { g.powerReset.start now with inReset := false, hb := { (g.powerReset.start now).hb with life := (g.powerReset.start now).hb.life || lost } }

/-- A region comes up: its sides, then its parts. -/
def State.regionUp (site : Nat) (s : State) (r : RegionNo) : State :=
  ((s.regionSides r).foldl State.sideUp s).modRgn r fun g =>
    g.poweredUp ((s.regionSides r).foldl State.sideUp s).now (decide ((((s.regionSides r).foldl State.sideUp s).dieAt site).st = .lost))

theorem State.foldl_sideUp_reg (l : List (Nat × Bool)) (s : State) : (l.foldl State.sideUp s).reg = s.reg := by
  induction l generalizing s with
  | nil => rfl
  | cons e l ih => rw [List.foldl_cons, ih, State.sideUp_reg]

theorem State.regionUp_wf {s : State} (site : Nat) (r : RegionNo) (hwf : s.RegWf) : (s.regionUp site r).RegWf := by
  refine State.modRgn_wf _ r _ ?_
  rwa [State.foldl_sideUp_reg]

theorem State.rgn_regionUp_ne (s : State) (site : Nat) {r k : RegionNo} (h : k ≠ r) : (s.regionUp site r).rgn k = s.rgn k := by
  rw [State.regionUp, State.rgn_modRgn_ne _ _ h, State.rgn_congr (State.foldl_sideUp_reg ..)]

/-- A region part that has come up: oscillators at code 512, cycle count 0, out of its reset. -/
structure Region.Fresh (g : Region) : Prop where
  nominal : g.nominal = 512
  cycle : g.cycle = 0
  inReset : g.inReset = false

theorem State.rgn_regionUp {s : State} (site : Nat) (r : RegionNo) (hwf : s.RegWf) : ((s.regionUp site r).rgn r).Fresh := by
  rw [State.regionUp, State.rgn_modRgn _ _ _ (by rwa [State.foldl_sideUp_reg])]
  exact ⟨rfl, rfl, rfl⟩

/-- The die's supply back, its anchors broken. -/
def State.suppliedAgain (s : State) (site : Nat) : State :=
  (s.modDie site fun d => { d with unpowered := false }).breakAnchors fun r => decide (siteOf r = site)

theorem exec_diePowerOn {site : Site} {s : State} (hpower : (s.dieAt site).unpowered = true) :
    exec (.diePowerOn site) s = .next ((siteRegions site).foldl (State.regionUp site) (s.suppliedAgain site)) := by
  have hrun : exec (.diePowerOn site) s = execDiePowerOn site s := rfl
  rw [hrun, execDiePowerOn, if_neg (by simp [hpower])]
  rfl

theorem State.suppliedAgain_wf {s : State} (site : Nat) (hwf : s.RegWf) : (s.suppliedAgain site).RegWf :=
  ((State.CoreKept.refl (s := s.modDie site _) hwf).breakAnchors _).wf

theorem State.regionUp_keeps (s : State) (site : Nat) (r : RegionNo) : Keeps [.reg, .xg] s (s.regionUp site r) := by
  refine Keeps.modRgn_keeps (by decide) (Keeps.foldl (fun t e h => ?_) (Keeps.refl s)) r _
  unfold State.sideUp
  split
  · exact Keeps.modLane_keeps (by decide) h ..
  · exact Keeps.modXing_keeps (by decide) h ..

theorem State.dieAt_powerOn (s : State) (site i : Nat) :
    ((siteRegions site).foldl (State.regionUp site) (s.suppliedAgain site)).dieAt i =
      (s.modDie site fun d => { d with unpowered := false }).dieAt i := by
  refine State.dieAt_congr ?_ i
  exact (Keeps.foldl (gs := [.mbx, .reg, .et, .xg, .ev]) (fun t r h => h.trans ((t.regionUp_keeps site r).mono (by decide)))
    (Keeps.breakAnchors_keeps (by decide) (Keeps.refl _) _)).only.same .die (by decide)

/-! ### A side that leaves its reset -/

theorem State.regionLeavesReset_xg (s : State) (r : RegionNo) : (s.regionLeavesReset r).xg = s.xg := by
  unfold State.regionLeavesReset
  split <;> rfl

theorem State.xing_congr {s t : State} (h : t.xg.x = s.xg.x) (id : Nat) : t.xing id = s.xing id := by
  rw [State.xing, h, State.xing]

theorem exec_localResetExit {id : Word} {s : State} (second : Bool) (hexists : s.xExists id.toNat = true) :
    ∃ t, exec (.localResetExit id second) s = .next t ∧ t.xg = (s.tornCheck id.toNat).xg := by
  have hrun : exec (.localResetExit id second) s = execLocalResetExit id second s := rfl
  rw [hrun, execLocalResetExit, if_neg (by simp [hexists])]
  dsimp only
  split
  · exact ⟨_, rfl, State.regionLeavesReset_xg ..⟩
  · exact ⟨_, rfl, rfl⟩

/-- Settles O12: the supply's loss and return, the resets of a die's own region by region, and the crossing that a reset leaves. -/
theorem dieSupplyAndOwnResets : Obligations.DieSupplyAndOwnResets := by
  refine ⟨fun site s hsite hdie hpower => ?loss, fun _ => rfl, fun site s hreg hpower => ?returned,
    fun site s hreg hsite hdie => ?ownReset, fun rs s hreg => ?regions, fun id second s hreg hexists hclass => ?exit⟩
  case loss =>
    refine ⟨_, exec_diePowerLoss hsite hdie hpower, ?_, fun i hi => ?_, fun r hr => ?_, ?_⟩
    · exact congrArg Die.unpowered (State.dieAt_modDie (s.rejoinDrop site) _ site.isLt)
    · exact (State.dieAt_modDie_ne _ _ hi).trans (s.rejoinDrop_dieAt hi)
    · simp [hr]
    · refine ⟨fun g hg => ?_⟩
      have hkeeps := (Keeps.modDie_keeps (by decide) ((s.rejoinDrop_keeps site).mono (hs := [.sys, .die, .reg]) (by decide)) site
        fun d => { d with unpowered := true }).only.same g hg
      cases g with
      | sys => exact absurd (by decide) hg
      | _ => exact hkeeps
  case returned =>
    have hrun := exec_diePowerOn hpower
    have hwf := State.suppliedAgain_wf site (s := s) hreg.regions
    refine ⟨_, hrun, ?_, fun i hi => ?_, fun r hr => ?_, exec_only hrun⟩
    · rw [State.dieAt_powerOn, State.dieAt_modDie _ _ site.isLt]
    · rw [State.dieAt_powerOn, State.dieAt_modDie_ne _ _ hi]
    · obtain ⟨hnominal, hcycle, hreset⟩ := State.rgn_foldl_of_mem (P := Region.Fresh) (fun t r k hk => t.rgn_regionUp_ne site hk)
        (fun t r ht => State.rgn_regionUp site r ht) (fun t r ht => State.regionUp_wf site r ht) hr hwf
      exact ⟨hnominal, hcycle, hreset⟩
  case ownReset =>
    have hrun := exec_dieOwnReset hsite hdie
    have hwf : (s.rejoinDrop site).RegWf := ((s.rejoinDrop_keeps site).regular hreg).regions
    refine ⟨_, hrun, fun r hr => ?_, fun i hi => ?_, exec_only hrun⟩
    · obtain ⟨⟨hreset, hcycle, hloop⟩, hdroop⟩ := State.resetRegions_atRest hr hwf
      exact ⟨hreset, hcycle, hloop, hdroop⟩
    · rw [State.dieAt_congr ((State.resetRegions_keeps _ _).only.same .die (by decide)), s.rejoinDrop_dieAt hi]
  case regions =>
    have hrun := exec_regionsOwnReset rs s
    refine ⟨_, hrun, fun r hr hexists hdie => ?_, exec_only hrun⟩
    have hmem : r ∈ s.resettable rs := by simp [State.resettable, List.mem_eraseDups, hr, hexists, hdie]
    obtain ⟨⟨hreset, hcycle, hloop⟩, hdroop⟩ := State.resetRegions_atRest hmem hreg.regions
    exact ⟨hreset, hcycle, hloop, hdroop⟩
  case exit =>
    obtain ⟨t, hrun, hxg⟩ := exec_localResetExit second hexists
    obtain ⟨hst, he1, he2⟩ := s.xing_tornCheck hclass hreg.crossings
    have hxing := State.xing_congr (congrArg Xg.x hxg) id.toNat
    exact ⟨t, hrun, by rw [hxing, hst], by rw [hxing, he1], by rw [hxing, he2], exec_only hrun⟩

end Sys2Proof.Machine
end

section
/-! SUPPORT. Concrete states for counterexamples, and the _WRITE_FIELD commands' answer to a write that clears EN of a busy synthesizer
(R182, R321). -/
namespace Sys2Proof.Machine
open Sys2Proof.Safety

/-- An operating package: out of reset and booted, controller 0 ACTIVE, every die RUNNING, every site OPTICAL. -/
def operating : State :=
  { sys := { pkgReset := false, epoch := true, erg := 2560000, bootStep := 10, bootedAt := some 256, hold := 0, sideOut := true }
    ctl := { c0 := { st := .active, verified := true, version := 1 }, c1 := { st := .standby, verified := true, version := 1 } }
    die := { d := Vector.replicate 23 { st := .running, ungated := true, attach := 1 } }
    opt := { site := Vector.replicate 23 { state := .optical } } }

/-- The status that a mailbox reads after a command. -/
def statusOf (m : Fin 8) : Out → Option (BitVec 8)
  | .next t => some (t.box m).lastStatus
  | _ => none

/-- Synthesizer 0 enabled and relocking at another rate. -/
def relocking : State :=
  operating.modSynth 0 fun y => { y with en := true, st := .locking, cold := false }

/-- SYNTH_WRITE_FIELD of one word at offset 0x100, MB_LS_SYNTH0's control word, which clears EN. -/
def clearEn : Req := ⟨0, false, 1, 1, 0, toLE 4 0x100 ++ toLE 2 1 ++ zeros 2 ++ toLE 4 0⟩

/-- Refutes O17: an acceptable write that clears EN of a synthesizer whose rate change is in progress is answered BUSY (R182), not OK, and
the statement's clause on acceptable writes makes no exception of it. -/
theorem not_fieldsAreReadAndWritten : ¬ Obligations.FieldsAreReadAndWritten := by
  rintro ⟨_, hwritten, _⟩
  have hmem : (⟨0x0604, 5, .synthWriteField⟩ : FieldCmd) ∈ fieldWrites := by simp [fieldWrites]
  have hfits : fieldFits 5 58 clearEn := ⟨by decide, by decide, by decide, 0x57F, rfl, by decide⟩
  have hok := hwritten _ hmem clearEn relocking (by decide +kernel) hfits (by decide +kernel) (by decide +kernel) (by decide +kernel)
  have hstatus := congrArg (statusOf 0) hok
  exact absurd hstatus (by decide +kernel)

end Sys2Proof.Machine
end

section
/-! SUPPORT. A table rebuilt entry by entry; vectors whose every entry changed. -/
namespace Sys2Proof.Machine

/-- A table rebuilt with every value changed reads changed, where what an unlisted key reads as does not change. -/
theorem Map.get_rebuild {α : Type} [DecidableEq α] {d : α} (f : Nat → α → α) (hf : ∀ k, f k d = d) {l : Map α} (hl : Map.wf d l = true)
    (k : Nat) : Map.get d (l.foldl (fun m e => Map.put d m e.1 (f e.1 e.2)) []) k = f k (Map.get d l k) := by
  suffices H : ∀ (l m : Map α), Map.rising l = true → Map.rising m = true →
      Map.get d (l.foldl (fun m e => Map.put d m e.1 (f e.1 e.2)) m) k =
        if ∃ e ∈ l, e.1 = k then f k (Map.get d l k) else Map.get d m k by
    rw [H l [] (Map.wf_rising hl) rfl]
    split
    · rfl
    next h =>
      push Not at h
      rw [Map.get_not_mem d h, hf]
      rfl
  intro l
  induction l with
  | nil => simp
  | cons e l ih =>
    intro m hl hm
    obtain ⟨k', v⟩ := e
    obtain ⟨hrest, habove⟩ := Map.rising_cons.1 hl
    have hput : Map.rising (Map.put d m k' (f k' v)) = true := by
      unfold Map.put
      split
      · exact Map.rising_erase k' hm
      · exact Map.rising_insert k' _ hm
    rw [List.foldl_cons, ih _ hrest hput]
    rcases Decidable.em (k = k') with rfl | hk
    · have hnone : ¬ ∃ e ∈ l, e.1 = k := by
        rintro ⟨e, he, rfl⟩
        exact Nat.lt_irrefl _ (habove e he)
      rw [if_neg hnone, if_pos ⟨(k, v), by simp, rfl⟩, Map.get_put_self d k _ hm]
      simp [Map.get]
    · have hmem : (∃ e ∈ (k', v) :: l, e.1 = k) ↔ ∃ e ∈ l, e.1 = k := by simp [Ne.symm hk]
      rw [Map.get_put_ne d m _ hk]
      simp only [hmem, Map.get, hk, if_false]

/-- Every entry of a vector that a list of places names has been changed once, where the change is the same a second time. -/
theorem vget_foldl_vmod {α : Type} {n : Nat} (d : α) (f : α → α) (hf : ∀ x, f (f x) = f x) (l : List Nat) (v : Vector α n) {j : Nat}
    (hj : j < n) : vget (l.foldl (fun v i => vmod v i f) v) d j = if j ∈ l then f (vget v d j) else vget v d j := by
  induction l generalizing v with
  | nil => simp
  | cons i l ih =>
    rw [List.foldl_cons, ih, vget_vmod]
    rcases Decidable.em (i = j) with rfl | hi
    · simp [hj, hf]
    · simp [hi, Ne.symm hi]

end Sys2Proof.Machine
end

section
/-! SUPPORT. Register writes: through the window, on the fabric, and those with a rule of their own (R17, R28, R72, R182, R186, R263,
R289). -/
namespace Sys2Proof.Machine
open Sys2Proof.Safety

/-! ### The window -/

theorem bitOf_eq_getLsbD (w : Word) (i : Nat) : bitOf w i = w.getLsbD i := by
  simp [bitOf, bitAt, BitVec.getLsbD, Nat.testBit_eq_decide_div_mod_eq, beq_eq_decide]

/-- A word has bits in [11:0] alone where no higher bit stands. -/
theorem onlyBits_low12_iff (w : Word) : onlyBits w [(11, 0)] = true ↔ w &&& 0xFFFFF000 = 0 := by
  have hmask : ∀ i : Fin 32, (0xFFFFF000 : Word).getLsbD i = !decide (i.val ≤ 11) := by decide
  simp only [onlyBits, List.all_eq_true, List.mem_range, List.any_cons, List.any_nil, Bool.or_false, Bool.or_eq_true,
    Bool.not_eq_true', decide_eq_true_eq, bitOf_eq_getLsbD, Nat.zero_le, true_and]
  constructor
  · intro h
    refine BitVec.eq_of_getLsbD_eq fun i hi => ?_
    rw [BitVec.getLsbD_and, hmask ⟨i, hi⟩]
    rcases h i hi with h | h <;> simp [h]
  · intro h i hi
    have hbit := congrArg (fun x : Word => x.getLsbD i) h
    simp only [BitVec.getLsbD_and, hmask ⟨i, hi⟩] at hbit
    simpa [imp_iff_not_or] using hbit

theorem exec_registerWrite_window {a w : Word} {s : State} (hup : s.windowUp = true) (ha : a.toNat % 4 = 0) :
    exec (.registerWrite .window a w) s = .next (s.windowWrite a.toNat w) := if_pos ⟨hup, ha⟩

theorem State.windowWrite_irq (s : State) (w : Word) : s.windowWrite 0x1110 w =
    if w &&& 0xFFFFF000 = 0 then { s with mbx := { s.mbx with irq := s.mbx.irq &&& ~~~w } } else s := by
  simp only [State.windowWrite, ← onlyBits_low12_iff]
  split <;> split <;> simp_all [State.irqClear]

theorem State.windowWrite_irqEn (s : State) (w : Word) : s.windowWrite 0x1114 w =
    if w &&& 0xFFFFF000 = 0 then { s with mbx := { s.mbx with irqEn := w } } else s := by
  simp only [State.windowWrite, ← onlyBits_low12_iff]
  split <;> split <;> simp_all

/-! ### Synthesizers under a change of one -/

/-- A synthesizer reads changed exactly at its own number. -/
theorem State.synth_modSynth_apply (s : State) (i j : Nat) (f : Synth → Synth) :
    (s.modSynth i f).synth j = if i = j ∧ j < 72 then f (s.synth j) else s.synth j := vget_vmod ..

/-- What a change of one synthesizer does not touch is as before in all of them. -/
theorem State.synth_modSynth_field {α : Type} (p : Synth → α) (s : State) (i j : Nat) {f : Synth → Synth} (hf : ∀ y, p (f y) = p y) :
    p ((s.modSynth i f).synth j) = p (s.synth j) := by
  rw [State.synth_modSynth_apply]
  split
  · exact hf _
  · rfl

theorem State.synthBusy_modSynth (s : State) (i j : Nat) {f : Synth → Synth} (hst : ∀ y, (f y).st = y.st) (hcold : ∀ y, (f y).cold = y.cold)
    (hport : ∀ y, (f y).port = y.port) : (s.modSynth i f).synthBusy j = s.synthBusy j := by
  simp only [State.synthBusy, State.synth_modSynth_field Synth.st s i j hst, State.synth_modSynth_field Synth.cold s i j hcold,
    State.synth_modSynth_field Synth.port s i j hport, State.modSynth_opt, State.port_modSynth]
  rfl

theorem State.writeEn_of_busy {s : State} {i : Nat} (override : Bool) (hen : (s.synth i).en = true) (hbusy : s.synthBusy i = true) :
    s.writeEn i false override = none := by
  simp [State.writeEn, hen, hbusy]

theorem State.writeEn_modBw_of_busy {s : State} {i : Nat} (bw : Nat) (override : Bool) (hen : (s.synth i).en = true)
    (hbusy : s.synthBusy i = true) : (s.modSynth i fun y => { y with bw := bw }).writeEn i false override = none := by
  refine State.writeEn_of_busy override ?_ ?_
  · rw [State.synth_modSynth_field (f := fun y => { y with bw := bw }) Synth.en s i i fun _ => rfl, hen]
  · rw [State.synthBusy_modSynth (f := fun y => { y with bw := bw }) s i i (fun _ => rfl) (fun _ => rfl) fun _ => rfl, hbusy]

theorem State.regWrite_glob5 (s : State) (off : Nat) (w : Word) : s.regWrite (.glob 5 off) w =
    if off = 0 then { s with ls := { s.ls with gctrl := w } }
    else if off = 0x1C then (if bitOf w 0 then s.clearLs else s)
    else if 0x100 ≤ off ∧ off % 16 = 0 then
      match (s.modSynth ((off - 0x100) / 16) fun y => { y with bw := fld w 7 4 }).writeEn ((off - 0x100) / 16) (bitOf w 0) (bitOf w 2) with
      | some t => t.writePin ((off - 0x100) / 16) (bitOf w 1)
      | none => s
    else s := rfl

/-- What R182 holds back: a word that clears EN of a synthesizer that is enabled and busy. -/
theorem State.of_busyEn {s : State} {a : Nat} {w : Word} {x : Reg} (hreg : regAt a = some x) (hbusy : s.busyEn a w = true) :
    ∃ off, x = .glob 5 off ∧ 0x100 ≤ off ∧ off % 16 = 0 ∧ bitOf w 0 = false ∧ (s.synth ((off - 0x100) / 16)).en = true ∧
      s.synthBusy ((off - 0x100) / 16) = true := by
  cases x with
  | rgn b r off => simp [State.busyEn, hreg] at hbusy
  | glob b off =>
    rcases Decidable.em (b = 5) with rfl | hb
    · simp only [State.busyEn, hreg, Bool.and_eq_true, decide_eq_true_eq, Bool.not_eq_true'] at hbusy
      obtain ⟨⟨⟨⟨hlow, hslot⟩, hbit⟩, hen⟩, hbusy⟩ := hbusy
      exact ⟨off, rfl, hlow, hslot, hbit, hen, hbusy⟩
    · simp [State.busyEn, hreg, hb] at hbusy

/-- A write that R182 holds back writes nothing. -/
theorem State.regWrite_of_busyEn {s : State} {a : Nat} {w : Word} {x : Reg} (hreg : regAt a = some x) (hbusy : s.busyEn a w = true) :
    s.regWrite x w = s := by
  obtain ⟨off, rfl, hlow, hslot, hbit, hen, hbusy⟩ := State.of_busyEn hreg hbusy
  have hnone := State.writeEn_modBw_of_busy (fld w 7 4) (bitOf w 2) hen hbusy
  have hzero : ¬ off = 0 := by omega
  have hclear : ¬ off = 0x1C := by omega
  rw [State.regWrite_glob5, if_neg hzero, if_neg hclear, if_pos ⟨hlow, hslot⟩, hbit, hnone]

/-! ### The fabric -/

theorem exec_registerWrite_fabric (a w : Word) (s : State) :
    exec (.registerWrite .fabric a w) s = if s.sys.pkgReset ∨ a.toNat % 4 ≠ 0 then .next s else .next (s.fabWrite a.toNat w) := rfl

theorem State.fabWrite_of_accepted {s : State} {a : Nat} {w : Word} {x : Reg} (hreg : regAt a = some x)
    (haccepts : s.acceptsWord a w = true) (hnext : s.overlaid.acceptsWord a w = true) : s.fabWrite a w = s.regWrite x w := by
  unfold State.fabWrite
  rcases Bool.eq_false_or_eq_true (s.busyEn a w) with hbusy | hbusy
  · rw [if_neg (by simp [hbusy]), State.regWrite_of_busyEn hreg hbusy]
  · rw [if_pos (by simp [State.acceptsNext, haccepts, hnext, hbusy]), hreg]

theorem State.fabWrite_of_rejected {s : State} {a : Nat} {w : Word}
    (h : s.acceptsWord a w = false ∨ s.overlaid.acceptsWord a w = false) : s.fabWrite a w = s := by
  unfold State.fabWrite
  rw [if_neg]
  rcases h with h | h <;> simp [State.acceptsNext, h]

/-! ### A region's register -/

theorem localCount_le (site : Nat) : localCount site ≤ 224 := by
  unfold localCount
  split_ifs <;> decide

/-- The address of a word of a region's block. -/
theorem regAt_rgn {r off : Nat} (hr : validRegion r = true) (hoff : off < 0x40) (h4 : off % 4 = 0) :
    regAt (0x01000000 + r * 64 + off) = some (.rgn 1 r off) := by
  simp only [validRegion, Bool.and_eq_true, decide_eq_true_eq] at hr
  obtain ⟨hsite, hloc⟩ := hr
  have hend : r * 64 + off ≤ 0x2C01FF := by
    have hcount := localCount_le (siteOf r)
    have hlast : siteOf r = 22 → localCount (siteOf r) = 8 := fun h => h ▸ rfl
    simp only [siteOf, localOf] at *
    omega
  have hblock : (0x01000000 + r * 64 + off) / 2 ^ 24 = 1 := by omega
  have hoffset : (0x01000000 + r * 64 + off) % 2 ^ 24 / 4 * 4 = r * 64 + off := by omega
  have hrgn : (r * 64 + off) / 64 = r := by omega
  have hword : (r * 64 + off) % 64 = off := by omega
  simp only [regAt, hblock, hoffset, blockEnd, hrgn, hword]
  rw [if_neg (by omega)]
  exact if_pos trivial

theorem validRegion_of_exists {s : State} {r : RegionNo} (h : s.regionExists r = true) : validRegion r = true := by
  simp only [State.regionExists, Bool.and_eq_true] at h
  exact h.1

theorem State.acceptsWord_rgn {s : State} {r off : Nat} {w : Word} (hr : validRegion r = true) (hoff : off ≤ 0x24) (h4 : off % 4 = 0)
    (hcheck : s.checkRgn r off w = true) : s.acceptsWord (0x01000000 + r * 64 + off) w = true := by
  have haccess : (Reg.rgn 1 r off).access = .rw := if_pos hoff
  simp [State.acceptsWord, regAt_rgn hr (by omega) h4, haccess, State.checkReg, hcheck]

theorem State.CoreKept.pump {o s : State} (h : State.CoreKept o s) (r : RegionNo) : State.CoreKept o (s.pump r) := by
  have hload (g : Region) : (g.load4 s.now).core = g.core := by
    unfold Region.load4
    split
    · rfl
    · simp only [Region.refill]
      split
      · split <;> rfl
      · rfl
    · rfl
  unfold State.pump
  exact .ite (h.modRgn r hload) h

theorem State.CoreKept.sendMsg {o s : State} (h : State.CoreKept o s) (r : RegionNo) (m : Msg) : State.CoreKept o (s.sendMsg r m) := by
  have hput (g : Region) : (g.putMsg m).core = g.core := by
    unfold Region.putMsg
    split <;> rfl
  exact (h.modRgn r hput).pump r

theorem State.rgn_pump_ne (s : State) {r k : RegionNo} (h : k ≠ r) : (s.pump r).rgn k = s.rgn k := by
  unfold State.pump
  split
  · exact s.rgn_modRgn_ne _ h
  · rfl

theorem State.rgn_sendMsg_ne (s : State) {r k : RegionNo} (m : Msg) (h : k ≠ r) : (s.sendMsg r m).rgn k = s.rgn k := by
  rw [State.sendMsg, State.rgn_pump_ne _ h, s.rgn_modRgn_ne _ h]

/-- The words of a region's block are those of its core. -/
theorem State.rgnWord_of_core {s t : State} {r : RegionNo} (h : (t.rgn r).core = (s.rgn r).core) (off : Nat) :
    t.rgnWord r off = s.rgnWord r off := by
  have hregs : (t.rgn r).regs = (s.rgn r).regs := (congrArg Region.regs h :)
  have hpend : (t.rgn r).pend = (s.rgn r).pend := (congrArg Region.pend h :)
  have hstop : (t.rgn r).stop = (s.rgn r).stop := (congrArg Region.stop h :)
  have hnominal : (t.rgn r).nominal = (s.rgn r).nominal := (congrArg Region.nominal h :)
  have hstatus : (t.rgn r).roStatus = (s.rgn r).roStatus := (congrArg Region.roStatus h :)
  have hvref : (t.rgn r).vref = (s.rgn r).vref := (congrArg Region.vref h :)
  have hmin : (t.rgn r).minCode = (s.rgn r).minCode := (congrArg Region.minCode h :)
  have hev : (t.rgn r).roEvcnt = (s.rgn r).roEvcnt := (congrArg Region.roEvcnt h :)
  have hstretch : (t.rgn r).roStretch = (s.rgn r).roStretch := (congrArg Region.roStretch h :)
  simp only [State.rgnWord, hregs, hpend, hstop, hnominal, hstatus, hvref, hmin, hev, hstretch]

/-- The registers of a region's block that hold what was written, and nothing else of the region. -/
def plainRgnOffs : List Nat := [0x08, 0x0C, 0x10, 0x14, 0x18, 0x1C, 0x20, 0x24]

/-- The registers with one of these words written. -/
theorem State.writeRgnAt_plain {s : State} {r : RegionNo} {off : Nat} (n : Nat) (w : Word) (hoff : off ∈ plainRgnOffs) :
    ∃ f, s.writeRgnAt n r off w = s.modRgn r f := by
  simp only [plainRgnOffs, List.mem_cons, List.not_mem_nil, or_false] at hoff
  rcases hoff with rfl | rfl | rfl | rfl | rfl | rfl | rfl | rfl
  all_goals
    simp only [State.writeRgnAt, OfNat.ofNat_ne_zero, Nat.reduceEqDiff, if_true, if_false]
    exact ⟨_, rfl⟩

theorem State.rgnWord_writeRgnAt_plain {s : State} {r : RegionNo} {off : Nat} (n : Nat) (w : Word) (hoff : off ∈ plainRgnOffs)
    (hwf : s.RegWf) : (s.writeRgnAt n r off w).rgnWord r off = w.toNat ∧
      ∀ o, o ≠ off → (s.writeRgnAt n r off w).rgnWord r o = s.rgnWord r o := by
  simp only [plainRgnOffs, List.mem_cons, List.not_mem_nil, or_false] at hoff
  rcases hoff with rfl | rfl | rfl | rfl | rfl | rfl | rfl | rfl <;>
    refine ⟨?_, fun o ho => ?_⟩ <;> simp [State.writeRgnAt, State.rgnWord, State.rgn_modRgn, Lat.write, *]

/-- A region's register written: the engine's image and the message that forwards it (R189, R190). -/
theorem State.writeRgn_plain {s : State} {r : RegionNo} {off : Nat} (w : Word) (hoff : off ∈ plainRgnOffs) :
    s.writeRgn r off w = (if s.xState (xId 4 r) = .whole then (s.writeRgnAt s.now r off w).sendMsg r (.regwrite off w)
      else s.writeRgnAt s.now r off w) := by
  have hrange : off ≠ 0x04 ∧ off < 0x28 := by
    simp only [plainRgnOffs, List.mem_cons, List.not_mem_nil, or_false] at hoff
    omega
  simp [State.writeRgn, hrange]

theorem State.writeRgn_plain_spec {s : State} {r : RegionNo} {off : Nat} (w : Word) (hoff : off ∈ plainRgnOffs) (hwf : s.RegWf) :
    (s.writeRgn r off w).rgnWord r off = w.toNat ∧ (∀ o, o ≠ off → (s.writeRgn r off w).rgnWord r o = s.rgnWord r o) ∧
      (∀ r', r' ≠ r → (s.writeRgn r off w).rgn r' = s.rgn r') ∧ Only [.reg] s (s.writeRgn r off w) := by
  obtain ⟨f, hf⟩ := s.writeRgnAt_plain (r := r) s.now w hoff
  obtain ⟨hword, hothers⟩ := State.rgnWord_writeRgnAt_plain (r := r) s.now w hoff hwf
  have hput : (s.writeRgnAt s.now r off w).RegWf := by
    rw [hf]
    exact s.modRgn_wf r _ hwf
  have hkept : State.CoreKept (s.writeRgnAt s.now r off w) (s.writeRgn r off w) := by
    rw [State.writeRgn_plain w hoff]
    exact .ite ((State.CoreKept.refl hput).sendMsg r _) (.refl hput)
  refine ⟨?_, fun o ho => ?_, fun r' hr' => ?_, ?_⟩
  · rw [State.rgnWord_of_core (hkept.region r), hword]
  · rw [State.rgnWord_of_core (hkept.region r), hothers o ho]
  · rw [State.writeRgn_plain w hoff, hf]
    split
    · rw [State.rgn_sendMsg_ne _ _ hr', State.rgn_modRgn_ne _ _ hr']
    · rw [State.rgn_modRgn_ne _ _ hr']
  · rw [State.writeRgn_plain w hoff, hf]
    have hmod := Keeps.modRgn_keeps (gs := [.reg]) (List.Subset.refl _) (Keeps.refl s) r f
    split
    · exact (Keeps.sendMsg_keeps (List.Subset.refl _) hmod r _).only
    · exact hmod.only

/-! ### A synthesizer's enable -/

theorem exec_mbLsEnWrite (i : Fin 72) (en override : Bool) (s : State) :
    exec (.mbLsEnWrite i en override) s = .next ((s.writeEn i en override).getD s) := rfl

@[simp] theorem State.synth_spareBits (s : State) (j i : Nat) (free failed : Bool) : (s.spareBits j free failed).synth i = s.synth i := rfl

/-- A synthesizer switched off. -/
theorem State.synthOff_spec {s : State} {i : Nat} (hi : i < 72) :
    ((s.synthOff i).synth i).en = false ∧ ((s.synthOff i).synth i).st = .off ∧ Only [.ls] s (s.synthOff i) := by
  refine ⟨?_, ?_, (Keeps.synthOff_keeps (List.Subset.refl _) (Keeps.refl s) i).only⟩
  all_goals
    unfold State.synthOff
    dsimp only
    split
    · rw [State.synth_spareBits, s.synth_modSynth _ hi]
    · rw [s.synth_modSynth _ hi]

theorem State.synth_relock_en (s : State) (i : Nat) (half : Bool) (j : Nat) : ((s.relock i half).synth j).en = (s.synth j).en :=
  State.synth_modSynth_field Synth.en s i j fun _ => rfl

theorem State.synth_coldLock_en (s : State) (i : Nat) (half : Bool) (j : Nat) : ((s.coldLock i half).synth j).en = (s.synth j).en :=
  (State.synth_modSynth_field Synth.en (s.relock i half) i j (by exact fun _ => rfl)).trans (State.synth_relock_en ..)

/-- A synthesizer switched on. -/
theorem State.synthOn_en {s : State} {i : Nat} (hi : i < 72) : ((s.synthOn i).synth i).en = true := by
  have hon : ((s.modSynth i fun y => { y with en := true }).synth i).en = true := by rw [s.synth_modSynth _ hi]
  unfold State.synthOn
  dsimp only
  split_ifs
  · exact hon
  · rw [State.synth_spareBits, State.synth_coldLock_en, hon]
  · rw [State.synth_coldLock_en, hon]

theorem State.synthOn_only (s : State) (i : Nat) : Only [.ls] s (s.synthOn i) :=
  (Keeps.synthOn_keeps (List.Subset.refl _) (Keeps.refl s) i).only

/-- Clearing EN of an idle port's synthesizer switches it off. -/
theorem State.writeEn_off {s : State} {i : Nat} (override : Bool) (hen : (s.synth i).en = true) (hlive : s.portLive i = false)
    (hbusy : s.synthBusy i = false) : s.writeEn i false override = some (s.synthOff i) := by
  simp [State.writeEn, hen, hlive, hbusy]

/-- On a LIVE port only OVERRIDE clears EN, told by an event. -/
theorem State.writeEn_live {s : State} {i : Nat} (override : Bool) (hen : (s.synth i).en = true) (hlive : s.portLive i = true)
    (hbusy : s.synthBusy i = false) :
    s.writeEn i false override = if override then some ((s.synthOff i).raise evLsForced (s.lsArg i)) else none := by
  simp [State.writeEn, hen, hlive, hbusy]

theorem State.synth_raise (s : State) (id arg i : Nat) : (s.raise id arg).synth i = s.synth i := by
  have hls : (s.raise id arg).ls = s.ls := (Keeps.raise_keeps (List.Subset.refl _) (Keeps.refl s) id arg).only.same .ls (by decide)
  rw [State.synth, hls, ← State.synth]

/-! ### PIN_HALF -/

theorem exec_pinHalfWrite (i : Fin 72) (set : Bool) (s : State) : exec (.pinHalfWrite i set) s = .next (s.writePin i set) := rfl

theorem State.writePin_false (s : State) (i : Nat) : s.writePin i false = s.modSynth i fun y => { y with pinHalf := false } := by
  unfold State.writePin
  dsimp only
  split
  · exact if_neg (by simp)
  · rfl

/-- A port asked for a rate (R173). -/
def Port.asked (x : Port) (half : Bool) (now : Nat) : Port :=
  { x with rate := if half then .half else .full, ack := false, reqAt := some now }

theorem State.reneg_of_up {s : State} {p i : Nat} (half : Bool) (hserving : s.serving p = some i)
    (hst : (s.synth i).st ≠ .failed ∧ (s.synth i).st ≠ .off) (hup : (s.port p).st ≠ .down) :
    s.reneg p half = { s.modPort p fun x => x.asked half s.now with
      ls := { (s.modPort p fun x => x.asked half s.now).ls with renegs := sat16 s.ls.renegs 1 } } := by
  simp only [State.reneg, hserving]
  rw [if_neg (by simp [hst]), if_neg hup]
  rfl

theorem State.serving_modSynth (s : State) (i p : Nat) {f : Synth → Synth} (hport : ∀ y, (f y).port = y.port) :
    (s.modSynth i f).serving p = s.serving p := by
  simp only [State.serving, State.synth_modSynth_field Synth.port s i _ hport]

/-- PIN_HALF set on a port at FULL asks it for HALF. -/
theorem State.writePin_true {s : State} {i p : Nat} (hport : (s.synth i).port = some p) (hserving : s.serving p = some i)
    (hhalf : (s.synth i).half = false) (hst : (s.synth i).st = .locked ∨ (s.synth i).st = .ride) (hup : (s.port p).st ≠ .down)
    (hrate : (s.port p).rate ≠ .half) :
    s.writePin i true = (s.modSynth i fun y => { y with pinHalf := true }).reneg p true ∧
      (s.modSynth i fun y => { y with pinHalf := true }).reneg p true =
        { (s.modSynth i fun y => { y with pinHalf := true }).modPort p fun x => x.asked true s.now with
          ls := { ((s.modSynth i fun y => { y with pinHalf := true }).modPort p fun x => x.asked true s.now).ls with
            renegs := sat16 s.ls.renegs 1 } } := by
  refine ⟨?_, ?_⟩
  · unfold State.writePin
    simp only [hport]
    rw [if_pos ⟨trivial, by simp [hhalf], hrate⟩]
  · refine State.reneg_of_up true ((State.serving_modSynth s i p (by exact fun _ => rfl)).trans hserving) ?_ hup
    rw [State.synth_modSynth_field Synth.st s i i (by exact fun _ => rfl)]
    rcases hst with h | h <;> simp [h]

end Sys2Proof.Machine
end

section
/-! SUPPORT. The clear bits of the register blocks (R71, R100, R135, R164, R185, R221, R249, R275). -/
namespace Sys2Proof.Machine
open Sys2Proof.Safety

theorem State.foldl_modSite_opt (f : SiteOpt → SiteOpt) (l : List Nat) (s : State) : (l.foldl (fun s i => s.modSite i f) s).opt =
    { s.opt with site := l.foldl (fun v i => vmod v i f) s.opt.site } := by
  induction l generalizing s with
  | nil => rfl
  | cons i l ih => rw [List.foldl_cons, List.foldl_cons, ih]; rfl

theorem State.foldl_modSynth_ls (f : Synth → Synth) (l : List Nat) (s : State) : (l.foldl (fun s i => s.modSynth i f) s).ls =
    { s.ls with syn := l.foldl (fun v i => vmod v i f) s.ls.syn } := by
  induction l generalizing s with
  | nil => rfl
  | cons i l ih => rw [List.foldl_cons, List.foldl_cons, ih]; rfl

/-- A site without its event counters' values. -/
def SiteOpt.cleared (x : SiteOpt) : SiteOpt := { x with evG := 0, evL := 0 }

theorem State.clearOpt_opt (s : State) : s.clearOpt.opt =
    { s.opt with inserts := 0, bridges := 0, site := allSites.foldl (fun v i => vmod v i SiteOpt.cleared) s.opt.site } := by
  unfold State.clearOpt
  generalize allSites = l
  exact State.foldl_modSite_opt SiteOpt.cleared l _

theorem State.clearOpt_site (s : State) {i : Nat} (hi : i < 23) : s.clearOpt.site i = (s.site i).cleared := by
  rw [State.site, s.clearOpt_opt, vget_foldl_vmod _ _ (by exact fun _ => rfl) _ _ hi,
    if_pos (show i ∈ allSites from List.mem_range.2 hi), State.site]

/-- A synthesizer without its count of losses. -/
def Synth.cleared (y : Synth) : Synth := { y with lol := 0 }

theorem State.clearLs_ls (s : State) : s.clearLs.ls = { s.ls with
    rides := 0, inserts := 0, forced := 0, renegs := 0, syn := (List.range 72).foldl (fun v i => vmod v i Synth.cleared) s.ls.syn } := by
  unfold State.clearLs
  generalize List.range 72 = l
  exact State.foldl_modSynth_ls Synth.cleared l _

theorem State.clearLs_synth (s : State) {i : Nat} (hi : i < 72) : s.clearLs.synth i = (s.synth i).cleared := by
  rw [State.synth, s.clearLs_ls, vget_foldl_vmod _ _ (by exact fun _ => rfl) _ _ hi, if_pos (List.mem_range.2 hi), State.synth]

theorem State.clearXing_laneAt (s : State) (hwf : Map.wf {} s.xg.lane = true) (r : RegionNo) (k : Nat) :
    s.clearXing.laneAt r k = { s.laneAt r k with slips := 0 } :=
  Map.get_rebuild (fun _ (l : Lane) => { l with slips := 0 }) (fun _ => rfl) hwf _

theorem exec_clearXingDrop {s : State} (hexists : s.xExists s.xg.sel.toNat = true) (hclass : xClass s.xg.sel.toNat ≠ 9) :
    exec .clearXingDrop s = .next (s.modXing s.xg.sel.toNat fun x => { x with drop := 0 }) := by
  have hrun : exec .clearXingDrop s = .next s.clearDrop := rfl
  rw [hrun, State.clearDrop, if_neg (by simp [hexists]), if_neg hclass]

/-! ### Calibration's counters at the window boundary -/

/-- The counters of MB_CAL_CLEAR and the time of its write (Table 8-12). -/
def Cal.counts (c : Cal) := (c.runs, c.disagree, c.void, c.retired, c.stFail, c.stPass, c.clearAt)

theorem Cal.counts_eq_zero {c : Cal} (h : c.counts = (0, 0, 0, 0, 0, 0, none)) : c.runs = 0 ∧ c.disagree = 0 ∧ c.void = 0 ∧
    c.retired = 0 ∧ c.stFail = 0 ∧ c.stPass = 0 ∧ c.clearAt = none := by
  simpa [Cal.counts] using h

theorem State.calSync_counts (s : State) (r : RegionNo) : (s.calSync r).cal.counts = s.cal.counts := by
  unfold State.calSync
  dsimp only
  split <;> rfl

theorem State.dueCheck_counts (s : State) (r : RegionNo) : (s.dueCheck r).cal.counts = s.cal.counts := by
  unfold State.dueCheck
  dsimp only
  split
  · rfl
  · split
    · exact State.calSync_counts _ r
    · rfl

theorem State.workingSet_cal (s : State) (r : RegionNo) : (s.workingSet r).cal = s.cal :=
  (Keeps.workingSet_keeps (List.Subset.refl _) (Keeps.refl s) r).only.same .cal (by decide)

/-- What a window boundary does before it looks at the regions: the registers take effect and a clear that was asked for is made. -/
def State.calBoundary (s : State) : State :=
  let s := { s with cal := { s.cal with ctrl := s.cal.ctrl.tick s.now, gap := s.cal.gap.tick s.now } }
  if s.cal.clearAt.any (· < s.now) then { s.clearCal with cal := { s.clearCal.cal with clearAt := none } } else s

theorem exec_calDueCheck {s : State} (hboundary : s.now % 256 = 0) : exec .calDueCheck s =
    .next (allRegions.foldl (fun s r => if s.clocked r then (s.dueCheck r).workingSet r else s) s.calBoundary) :=
  if_neg (by simp [hboundary])

theorem State.calBoundary_counts {s : State} {a : Nat} (hasked : s.cal.clearAt = some a) (hpast : a < s.now) :
    s.calBoundary.cal.counts = (0, 0, 0, 0, 0, 0, none) := by
  unfold State.calBoundary
  dsimp only
  rw [if_pos (by simpa [hasked] using hpast)]
  rfl

theorem State.foldl_dueCheck_counts (l : List RegionNo) (s : State) :
    (l.foldl (fun s r => if s.clocked r then (s.dueCheck r).workingSet r else s) s).cal.counts = s.cal.counts := by
  refine List.foldlRecOn (motive := fun t : State => t.cal.counts = s.cal.counts) l _ rfl fun t ht r _ => ?_
  split
  · rw [State.workingSet_cal, State.dueCheck_counts, ht]
  · exact ht

/-! ### All of them -/

/-- Settles O16: each write and each clear bit by the lemma on its register. -/
theorem registersAreWrittenAndCleared : Obligations.RegistersAreWrittenAndCleared := by
  refine ⟨fun w s hup => ?window, fun a w x s hreset ha hreg haccepts hnext => ?fabric, fun a w s hrejected => ?rejected,
    fun r off a w s hreg hreset hexists hoff ha hcheck hnext => ?region, fun w s hreset hcheck => ?budget, fun i o s hen hbusy => ?enBusy,
    fun i o s hen hlive hbusy => ?enLive, fun i o s hen hlive hbusy => ?enIdle, fun i o s => ?on,
    fun i s => congrArg _ (s.writePin_false i), fun i p s hp hport hserving hhalf hpin hst hup hrate => ?pin, fun r s hexists => ?evcnt,
    fun r s hexists => ?stretch, fun s => ?counters, fun a s hasked hboundary hpast => ?cal, fun s => ?opt, fun s => ?ls,
    fun s hreg => ?xing, fun s hreg hexists hclass => ?drop⟩
  case window =>
    refine ⟨?_, ?_, ?_⟩
    · rw [exec_registerWrite_window hup (by decide)]
      exact congrArg _ (s.windowWrite_irq w)
    · rw [exec_registerWrite_window hup (by decide)]
      exact congrArg _ (s.windowWrite_irqEn w)
    · rw [exec_registerWrite_window hup (by decide)]
      rfl
  case fabric => rw [exec_registerWrite_fabric, if_neg (by simp [hreset, ha]), State.fabWrite_of_accepted hreg haccepts hnext]
  case rejected =>
    rw [exec_registerWrite_fabric, State.fabWrite_of_rejected hrejected]
    exact ite_self _
  case region =>
    have hvalid := validRegion_of_exists hexists
    have hrange : off ≤ 0x24 ∧ off % 4 = 0 := by
      simp only [List.mem_cons, List.not_mem_nil, or_false] at hoff
      omega
    have hat := regAt_rgn hvalid (by omega) hrange.2
    have hrun : exec (.registerWrite .fabric a w) s = .next (s.writeRgn r off w) := by
      rw [exec_registerWrite_fabric, ha, if_neg (by simp [hreset]; omega),
        State.fabWrite_of_accepted hat (State.acceptsWord_rgn hvalid hrange.1 hrange.2 hcheck)
          (State.acceptsWord_rgn hvalid hrange.1 hrange.2 hnext)]
      simp [State.regWrite, hexists]
    exact ⟨_, hrun, State.writeRgn_plain_spec w hoff hreg.regions⟩
  case budget =>
    have hrun : exec (.mbSnsBudgetWrite w) s = .next (s.writeBudget w) := if_neg (by simp [hreset, hcheck])
    refine ⟨_, hrun, ?_, rfl, rfl, rfl, rfl, exec_only hrun⟩
    have hlow : fld w 15 0 < 2 ^ 16 := Nat.mod_lt _ (by decide)
    have himg : (s.writeBudget w).sns.budget.img = word (fld w 15 0) := rfl
    rw [himg, fld, bits, word, BitVec.toNat_ofNat]
    simp only [Nat.pow_zero, Nat.div_one]
    omega
  case enBusy => rw [exec_mbLsEnWrite, State.writeEn_of_busy o hen hbusy]; rfl
  case enLive =>
    have hrun := exec_mbLsEnWrite i false o s
    rw [State.writeEn_live o hen hlive hbusy] at hrun
    obtain ⟨hoff, _, honly⟩ := State.synthOff_spec (s := s) i.isLt
    cases o with
    | false =>
      rw [if_neg (by decide)] at hrun
      exact ⟨s, hrun, hen, fun _ => rfl, fun h => absurd h (by decide), ⟨fun g _ => g.same_refl s⟩⟩
    | true =>
      rw [if_pos rfl, Option.getD_some] at hrun
      refine ⟨_, hrun, ?_, fun h => absurd h (by decide), fun _ => ?_, exec_only_of_subset hrun (by simp [writes])⟩
      · exact (congrArg Synth.en (State.synth_raise ..)).trans hoff
      · exact State.raise_ev_congr _ _ (congrArg Sys.epoch (honly.same .sys (by decide))) (congrArg Sys.erg (honly.same .sys (by decide)))
          (honly.same .ev (by decide))
  case enIdle =>
    have hrun := exec_mbLsEnWrite i false o s
    rw [State.writeEn_off o hen hlive hbusy] at hrun
    exact ⟨_, hrun, State.synthOff_spec i.isLt⟩
  case on => exact ⟨_, rfl, State.synthOn_en i.isLt, s.synthOn_only i⟩
  case pin =>
    have hrun := exec_pinHalfWrite i true s
    obtain ⟨hreneg, hasked⟩ := State.writePin_true hport hserving hhalf hst hup hrate
    rw [hreneg, hasked] at hrun
    refine ⟨_, hrun, ?_, fun j hj => ?_, ?_, ?_, fun o ho => ?_, exec_only hrun⟩
    · exact s.synth_modSynth _ i.isLt
    · exact s.synth_modSynth_ne _ hj
    · exact congrArg Port.rate (State.port_modPort _ _ hp)
    · exact congrArg Port.reqAt (State.port_modPort _ _ hp)
    · exact State.port_modPort_ne _ _ ho
  case evcnt => exact if_pos hexists
  case stretch => exact if_pos hexists
  case counters =>
    refine ⟨rfl, rfl, fun hasked => ?_, fun hasked => ?_, rfl, rfl⟩
    · have hrun : exec .clearCalCounters s = .next s.askClearCal := rfl
      rw [hrun, State.askClearCal, hasked]
    · have hrun : exec .clearSnsCounters s = .next s.askClearSns := rfl
      rw [hrun, State.askClearSns, hasked]
  case cal =>
    refine ⟨_, exec_calDueCheck hboundary, Cal.counts_eq_zero ?_⟩
    exact (State.foldl_dueCheck_counts allRegions s.calBoundary).trans (State.calBoundary_counts hasked hpast)
  case opt =>
    have hrun : exec .clearOptCounters s = .next s.clearOpt := rfl
    exact ⟨_, hrun, by rw [s.clearOpt_opt], by rw [s.clearOpt_opt], fun i hi => s.clearOpt_site hi, by rw [s.clearOpt_opt], exec_only hrun⟩
  case ls =>
    have hrun : exec .clearLsCounters s = .next s.clearLs := rfl
    exact ⟨_, hrun, by rw [s.clearLs_ls], by rw [s.clearLs_ls], by rw [s.clearLs_ls], by rw [s.clearLs_ls],
      fun i hi => s.clearLs_synth hi, by rw [s.clearLs_ls], exec_only hrun⟩
  case xing =>
    have hrun : exec .clearXingCounters s = .next s.clearXing := rfl
    exact ⟨_, hrun, rfl, rfl, rfl, rfl, fun r k => s.clearXing_laneAt hreg.lanes r k, fun _ => rfl, exec_only hrun⟩
  case drop =>
    have hrun := exec_clearXingDrop hexists hclass
    exact ⟨_, hrun, s.xing_modXing _ _ hreg.crossings, fun id hid => s.xing_modXing_ne _ hid, exec_only hrun⟩

end Sys2Proof.Machine
end

section
/-! SUPPORT. Commands that firmware serves: what a command's result leaves at its mailbox. -/
namespace Sys2Proof.Machine
open Sys2Proof.Safety

/-- A command that firmware serves and that answers at once. -/
theorem State.submit_done {s t : State} {op : Nat} {c : Cmd} {q : Req} {r : Reply} (hop : op < 65536) (hready : ready s op q = true)
    (hc : c q (posted s op q) = .done r t) : s.submit op c q = t.answer q.mbx r := by
  rw [State.submit_of_ready c hop hready, hc]
  rfl

/-- A command that firmware serves and that waits. -/
theorem State.submit_wait {s t : State} {op : Nat} {c : Cmd} {q : Req} {w : Wait} (hop : op < 65536) (hready : ready s op q = true)
    (hc : c q (posted s op q) = .wait w t) : s.submit op c q = t.modBox q.mbx fun b => { b with wait := some w } := by
  rw [State.submit_of_ready c hop hready, hc]
  rfl

theorem posted_only (s : State) (op : Nat) (q : Req) : Only [.mbx] s (posted s op q) :=
  (Keeps.modBox_keeps (List.Subset.refl _) (Keeps.refl s) q.mbx _).only

/-- The operation that a request names is the one in its handle. -/
theorem State.handle_of_opFor {s : State} {q : Req} {i : Nat} {o : LongOp} (h : s.opFor q = some (i, o)) :
    i < 32 ∧ (s.handle i).op = some o := by
  unfold State.opFor at h
  dsimp only at h
  split at h
  case h_1 o' ho' =>
    obtain ⟨_, h⟩ := Option.ite_none_right_eq_some.1 h
    simp only [Option.some.injEq, Prod.mk.injEq] at h
    obtain ⟨rfl, rfl⟩ := h
    exact ⟨Nat.mod_lt _ (by decide), ho'⟩
  case h_2 => simp at h

/-- A change of a vector's entry is a change of the value it has. -/
theorem vmod_congr {α : Type} {n : Nat} {v : Vector α n} {d : α} {i : Nat} {f g : α → α} (h : f (vget v d i) = g (vget v d i)) :
    vmod v i f = vmod v i g := by
  unfold vmod
  split
  case isTrue hi =>
    have hget : vget v d i = v[i] := by simp [vget, hi]
    rw [hget] at h
    rw [h]
  case isFalse => rfl

/-- A change of a handle's operation is a change of the operation it holds. -/
theorem State.modOp_congr {s : State} {i : Nat} {o : LongOp} {f g : LongOp → LongOp} (ho : (s.handle i).op = some o) (hfg : f o = g o) :
    s.modOp i f = s.modOp i g := by
  unfold State.modOp State.modHandle
  rw [vmod_congr (d := {}) (f := fun h : Handle => { h with op := h.op.map f }) (g := fun h : Handle => { h with op := h.op.map g })
    (by rw [← State.handle, ho, Option.map_some, Option.map_some, hfg])]

/-- What a handle holds after a change of its operation. -/
theorem State.handle_modOp {s : State} {i : Nat} {o : LongOp} {f : LongOp → LongOp} (hi : i < 32) (ho : (s.handle i).op = some o) :
    (s.modOp i f).handle i = { gen := (s.handle i).gen, op := some (f o) } := by
  rw [State.modOp, s.handle_modHandle _ hi, ho]
  rfl

theorem State.handle_modOp_ne (s : State) {i j : Nat} (f : LongOp → LongOp) (h : j ≠ i) : (s.modOp i f).handle j = s.handle j :=
  s.handle_modHandle_ne _ h

end Sys2Proof.Machine
end

section
/-! SUPPORT. Long operations suspended, resumed and cancelled (R306, Table 10-13). -/
namespace Sys2Proof.Machine
open Sys2Proof.Safety

theorem State.modOp_suspendNow_of_receiving {s : State} {i : Nat} {o : LongOp} (ho : (s.handle i).op = some o) (hst : o.st = .receiving)
    (now : Nat) : (s.modOp i fun o => o.suspendNow now) =
      s.modOp i fun o => { o with st := .suspended, wasRecv := true, timer := now - o.timer } :=
  State.modOp_congr ho (by simp [LongOp.suspendNow, hst])

theorem State.modOp_suspendNow_of_running {s : State} {i : Nat} {o : LongOp} (ho : (s.handle i).op = some o) (hst : o.st = .running)
    (now : Nat) : (s.modOp i fun o => o.suspendNow now) = s.modOp i fun o => { o with st := .suspended, wasRecv := false } :=
  State.modOp_congr ho (by simp [LongOp.suspendNow, hst])

/-- An insertion that the handle asked for is a synthesizer's and inside its steps. -/
theorem insideSteps_iff {l : List Insertion} {i : Nat} :
    (l.any fun x => decide (x.handle = some i ∧ x.kind = 3 ∧ 2 ≤ x.step)) = true ↔ ∃ x ∈ l, x.handle = some i ∧ x.kind = 3 ∧ 2 ≤ x.step := by
  simp [List.any_eq_true]

/-- The staging area and the copied image of a cancelled model. -/
theorem State.dropStaged_modelLoad {s : State} {i : Nat} {o : LongOp} (hkind : o.kind = .modelLoad) :
    (s.dropStaged i o).mbx = s.mbx ∧ (s.dropStaged i o).hm.staging = [] ∧ ∀ x, (s.dropStaged i o).hm.ready = some x → x.2.1 ≠ i := by
  simp only [State.dropStaged, hkind]
  refine ⟨trivial, trivial, fun x hx => ?_⟩
  split at hx
  · split at hx
    · simp at hx
    · cases hx
      assumption
  · simp at hx

/-- Settles O18, the commands' cases one by one. -/
theorem suspendResumeCancel : Obligations.SuspendResumeCancel := by
  refine ⟨fun q s i o hready hop hst => ?recv, fun q s i o hready hop hst hkind hsteps => ?run,
    fun q s i o x hready hop hst hkind hx hhandle hx3 hstep => ?inside, fun q s i o hready hop hst hkind hstep => ?overlay,
    fun q s i o hready hop hst hkind => ?cal, fun q s i o hready hop hst hrecv => ?resumeRecv, fun q s i o hready hop hst => ?resumeRun,
    fun q s i o hready hop hst hkind => ?cancelModel, fun q s i o hready hop hst hpast => ?cancel,
    fun q s => ⟨fun hready hop => ?none1, fun hready hop => ?none2, fun hready hop => ?none3⟩⟩
  case recv =>
    obtain ⟨_, ho⟩ := State.handle_of_opFor hop
    refine congrArg Host.Outcome.next (State.submit_done (by decide) hready ?_)
    simp only [cmdOpSuspend, hop, hst]
    rw [State.modOp_suspendNow_of_receiving ho hst]
    rfl
  case run =>
    obtain ⟨_, ho⟩ := State.handle_of_opFor hop
    refine congrArg Host.Outcome.next (State.submit_done (by decide) hready ?_)
    rw [← State.modOp_suspendNow_of_running ho hst (posted s 0x0101 q).now]
    simp only [cmdOpSuspend, hop, hst]
    rcases hkind with hk | hk | hk <;> simp only [hk]
    have hout : ¬ ((posted s 0x0101 q).opt.ins.any fun x => decide (x.handle = some i ∧ x.kind = 3 ∧ 2 ≤ x.step)) = true := by
      rw [insideSteps_iff]
      rintro ⟨x, hx, hhandle, hx3, hstep⟩
      exact absurd (hsteps hk x hx hhandle hx3) (by omega)
    rw [if_neg hout]
  case inside =>
    refine congrArg Host.Outcome.next (State.submit_done (by decide) hready ?_)
    simp only [cmdOpSuspend, hop, hst, hkind]
    exact if_pos (insideSteps_iff.2 ⟨x, hx, hhandle, hx3, hstep⟩)
  case overlay =>
    refine congrArg Host.Outcome.next (State.submit_done (by decide) hready ?_)
    simp only [cmdOpSuspend, hop, hst, hkind]
    exact if_pos hstep
  case cal =>
    refine congrArg Host.Outcome.next (State.submit_done (by decide) hready ?_)
    rcases hkind with hk | hk <;> simp only [cmdOpSuspend, hop, hst, hk]
  case resumeRecv =>
    refine congrArg Host.Outcome.next (State.submit_done (by decide) hready ?_)
    simp only [cmdOpResume, hop, hst, State.resume, hrecv, if_true]
    rfl
  case resumeRun =>
    refine congrArg Host.Outcome.next (State.submit_done (by decide) hready ?_)
    simp only [cmdOpResume, hop, hst]
  case cancelModel =>
    obtain ⟨hi, ho⟩ := State.handle_of_opFor hop
    have hpast : (posted s 0x0103 q).pastCancel i o = false := by simp [State.pastCancel, hkind]
    have hundo (t : State) : t.undoOp i o = t.dropStaged i o := by simp only [State.undoOp, hkind]
    obtain ⟨hmbx, hstaging, hcopied⟩ :=
      State.dropStaged_modelLoad (s := (posted s 0x0103 q).modOp i fun o => { o with st := .cancelling }) (i := i) hkind
    have hhandle (j : Nat) : (((posted s 0x0103 q).modOp i fun o => { o with st := .cancelling }).dropStaged i o).handle j =
        ((posted s 0x0103 q).modOp i fun o => { o with st := .cancelling }).handle j := by
      rw [State.handle, hmbx, State.handle]
    refine ⟨((posted s 0x0103 q).modOp i fun o => { o with st := .cancelling }).dropStaged i o,
      congrArg Host.Outcome.next (State.submit_done (by decide) hready ?run), ?_, fun j hj => ?_, hstaging, hcopied, ?_⟩
    case run => rcases hst with h | h | h <;> simp only [cmdOpCancel, hop, h, hpast, hundo] <;> rfl
    · rw [hhandle, State.handle_modOp hi ho]
      rfl
    · rw [hhandle, State.handle_modOp_ne _ _ hj]
      rfl
    · refine ⟨fun g hg => ?_⟩
      cases g with
      | mbx | hm => exact absurd hg (by decide)
      | _ => simp [State.dropStaged, hkind, Group.same, State.modOp, State.modHandle, posted, State.modBox]
  case cancel =>
    refine congrArg Host.Outcome.next (State.submit_done (by decide) hready ?_)
    rcases hst with h | h | h | h <;> simp only [cmdOpCancel, hop, h, hpast] <;> rfl
  case none1 => exact congrArg Host.Outcome.next (State.submit_done (by decide) hready (by rw [cmdOpSuspend, hop]; rfl))
  case none2 => exact congrArg Host.Outcome.next (State.submit_done (by decide) hready (by rw [cmdOpResume, hop]; rfl))
  case none3 => exact congrArg Host.Outcome.next (State.submit_done (by decide) hready (by rw [cmdOpCancel, hop]; rfl))

end Sys2Proof.Machine
end

section
/-! SUPPORT. Handles queried, ended and written; the spill (R298, R307, R308, R323). -/
namespace Sys2Proof.Machine
open Sys2Proof.Safety

theorem LongOp.progress_length (o : LongOp) : o.progress.length = 24 := by
  unfold LongOp.progress
  split <;> simp [LongOp.progress.calProgress]

theorem LongOp.record_length (o : LongOp) : o.record.length = 48 := by
  simp [LongOp.record, o.progress_length]

/-- An operation as its end leaves it. -/
def LongOp.ended (o : LongOp) (out : Outcome) (st now : Nat) : LongOp :=
  { o with st := .done, outcome := out, final := st, done := now }

/-- The end of the operation in a handle, told where the operation was asked for asynchronously. -/
theorem State.finishOp_eq {s : State} {i : Nat} {o : LongOp} (out : Outcome) (st : Nat) (ho : (s.handle i).op = some o) :
    s.finishOp i out st = if o.async then
      ({ s.modOp i (·.ended out st s.now) with mbx := { (s.modOp i (·.ended out st s.now)).mbx with
        done := s.mbx.done ||| word (2 ^ i) } } : State).irq 8 else s.modOp i (·.ended out st s.now) := by
  simp only [State.finishOp, ho]
  rfl

theorem State.finishOp_spec {s : State} {i : Nat} {o : LongOp} (out : Outcome) (st : Nat) (hi : i < 32) (ho : (s.handle i).op = some o) :
    (s.finishOp i out st).handle i = { gen := (s.handle i).gen, op := some (o.ended out st s.now) } ∧
      (∀ j, j ≠ i → (s.finishOp i out st).handle j = s.handle j) ∧
      (s.finishOp i out st).mbx.done = (if o.async then s.mbx.done ||| word (2 ^ i) else s.mbx.done) ∧
      (s.finishOp i out st).mbx.irq = (if o.async then s.mbx.irq ||| word (2 ^ 8) else s.mbx.irq) ∧
      (s.finishOp i out st).mbx.box = s.mbx.box := by
  have hself : (s.modOp i (·.ended out st s.now)).handle i = { gen := (s.handle i).gen, op := some (o.ended out st s.now) } :=
    State.handle_modOp hi ho
  have hother : ∀ j, j ≠ i → (s.modOp i (·.ended out st s.now)).handle j = s.handle j := fun j => s.handle_modOp_ne _
  rw [State.finishOp_eq out st ho]
  cases o.async <;> exact ⟨hself, hother, rfl, rfl, rfl⟩

theorem State.finishOp_only (s : State) (i : Nat) (out : Outcome) (st : Nat) : Only [.mbx] s (s.finishOp i out st) :=
  (Keeps.finishOp_keeps (List.Subset.refl _) (Keeps.refl s) i out st).only

theorem State.dropStaged_mbx (s : State) (i : Nat) (o : LongOp) : (s.dropStaged i o).mbx = s.mbx :=
  (Keeps.dropStaged_keeps (List.Subset.refl _) (Keeps.refl s) i o).only.same .mbx (by decide)

theorem State.dropStaged_now (s : State) (i : Nat) (o : LongOp) : (s.dropStaged i o).now = s.now :=
  congrArg Sys.erg ((Keeps.dropStaged_keeps (List.Subset.refl _) (Keeps.refl s) i o).only.same .sys (by decide) :)

theorem exec_longOpDone {h : Fin 32} {s : State} {o : LongOp} (ho : (s.handle h).op = some o) (hst : o.st = .cancelling) :
    exec (.longOpDone h) s = .next (s.finishOp h .cancelled stOk) := by
  have hrun : exec (.longOpDone h) s = execLongOpDone h s := rfl
  rw [hrun, execLongOpDone, ho]
  exact if_pos hst

theorem exec_opWriteTimeout {h : Fin 32} {s : State} {o : LongOp} (ho : (s.handle h).op = some o) (hst : o.st = .receiving)
    (hhold : s.sys.hold = 0) (hold : o.timer + 100000000 ≤ s.now) :
    exec (.opWriteTimeout h) s = .next ((s.dropStaged h o).finishOp h .failed stTimeout) := by
  have hrun : exec (.opWriteTimeout h) s = execOpWriteTimeout h s := rfl
  rw [hrun, execOpWriteTimeout, ho]
  exact if_pos ⟨hst, by simp [State.inHold, hhold], hold⟩

theorem exec_handleExpired {h : Fin 32} {s : State} {o : LongOp} (ho : (s.handle h).op = some o) (hst : o.st = .done)
    (hold : o.done + 10000000000 ≤ s.now) :
    exec (.handleExpired h) s = .next ((s.raise evHandleExpired (s.handleNo h)).releaseHandle h) := by
  have hrun : exec (.handleExpired h) s = execHandleExpired h s := rfl
  rw [hrun, execHandleExpired, ho]
  exact if_pos ⟨hst, hold⟩

/-- Input data that are not the last. -/
theorem State.stage_before_end {s : State} {i : Nat} {o : LongOp} {bs : Bytes} (ho : (s.handle i).op = some o) (hst : o.st = .receiving)
    (hmore : o.received + bs.length < o.total) :
    (s.stage i o bs).mbx = (s.modOp i fun _ => { o with received := o.received + bs.length, timer := s.now }).mbx ∧
      (o.kind = .modelLoad → (s.stage i o bs).hm = { s.hm with
        staging := s.hm.staging ++ bs, stageTop := max s.hm.stageTop (s.hm.staging ++ bs).length } ∧ (s.stage i o bs).cfg = s.cfg) ∧
      (o.kind = .overlayApply → (s.stage i o bs).cfg = { s.cfg with
        staging := s.cfg.staging ++ bs, ovlTop := max s.cfg.ovlTop (s.cfg.staging ++ bs).length } ∧ (s.stage i o bs).hm = s.hm) ∧
      (o.kind = .fwUpdate → (s.stage i o bs).cfg = { s.cfg with
        fwStage := s.cfg.fwStage ++ bs, fwTop := max s.cfg.fwTop (s.cfg.fwStage ++ bs).length } ∧ (s.stage i o bs).hm = s.hm) := by
  have hne : o.received + bs.length ≠ o.total := by omega
  have hmod : (s.modOp i fun o' => { o' with received := o.received + bs.length, timer := s.now, st := if o.received + bs.length = o'.total
      then .running else .receiving }) = s.modOp i fun _ => { o with received := o.received + bs.length, timer := s.now } :=
    State.modOp_congr ho (by simp only [if_neg hne, ← hst])
  simp only [State.stage, if_pos hne, hmod, List.length_append]
  refine ⟨by split <;> rfl, fun hk => ?_, fun hk => ?_, fun hk => ?_⟩ <;> simp only [hk] <;> exact ⟨rfl, rfl⟩

theorem cmdOpWrite_of_expected {q : Req} {s : State} {i : Nat} {o : LongOp} (hop : s.opFor q = some (i, o)) (hst : o.st = .receiving)
    (hoff : q.le 0 4 = o.received) (hlow : 9 ≤ q.payload.length) (hhigh : q.payload.length ≤ 240)
    (hmore : o.received + (q.payload.length - 8) ≤ o.total) :
    cmdOpWrite q s = .done (okReply (toLE 4 (o.received + (q.payload.drop 8).length))) (s.stage i o (q.payload.drop 8)) := by
  have hfits : ¬ ((q.payload.drop 8).isEmpty = true ∨ 232 < (q.payload.drop 8).length ∨ o.total < o.received + (q.payload.drop 8).length) := by
    simp only [List.isEmpty_iff_length_eq_zero, List.length_drop]
    omega
  simp only [cmdOpWrite, hop, hst, hoff]
  rw [if_neg (by decide), if_neg (by decide), if_neg (not_not_intro rfl), if_neg hfits]

theorem cmdOpWrite_of_unexpected {q : Req} {s : State} {i : Nat} {o : LongOp} (hop : s.opFor q = some (i, o)) (hst : o.st = .receiving)
    (hoff : q.le 0 4 ≠ o.received) : cmdOpWrite q s = .done (badArg 0) s := by
  simp only [cmdOpWrite, hop, hst]
  rw [if_neg (by decide), if_neg (by decide), if_pos hoff]
  rfl

/-- A read of the spill from an offset inside it. -/
theorem cmdMbxSpillRead_of_inside {q : Req} {s : State} {bs : Bytes} (hspill : (s.box q.mbx).spill = some bs) (hoff : q.le 0 4 < bs.length) :
    cmdMbxSpillRead q s = .done (okReply (slice bs (q.le 0 4) (min 240 (bs.length - q.le 0 4))))
      (if q.le 0 4 + 240 < bs.length then s else s.modBox q.mbx fun b => { b with spill := none }) := by
  simp only [cmdMbxSpillRead, hspill]
  exact if_neg (by omega)

theorem cmdMbxSpillRead_of_past {q : Req} {s : State} {bs : Bytes} (hspill : (s.box q.mbx).spill = some bs) (hoff : bs.length ≤ q.le 0 4) :
    cmdMbxSpillRead q s = .done (badArg 0) s := by
  simp only [cmdMbxSpillRead, hspill]
  exact if_pos hoff

/-- A posted request leaves the spill. -/
theorem box_posted_spill (s : State) (op : Nat) (q : Req) : ((posted s op q).box q.mbx).spill = (s.box q.mbx).spill :=
  (congrArg Mailbox.spill (s.box_modBox q.mbx _) :)

/-- Settles O19, by what each of the commands and ends does with its handle or spill. -/
theorem handlesDataAndSpill : Obligations.HandlesDataAndSpill := by
  refine ⟨fun q s i o hready hop => ?query, LongOp.record_length, fun h s o ho hst => ?cancelled, fun h s o ho hst hhold hold => ?timeout,
    fun h s o ho hst hold => exec_handleExpired ho hst hold, fun q s i o hready hop hst hoff hlow hhigh hmore => ?write,
    fun q s i o hready hop hst hoff => ?unexpected, fun q s bs hready hspill hoff => ?readSome,
    fun q s bs hready hspill hoff hlast => ?readLast, fun q s bs hready hspill hoff => ?past, fun q s hready => ?free⟩
  case query =>
    refine congrArg Host.Outcome.next (State.submit_done (by decide) hready ?_)
    rw [cmdOpQuery, hop]
    rfl
  case cancelled =>
    have hrun := exec_longOpDone ho hst
    obtain ⟨hself, hother, hdone, hirq, hbox⟩ := State.finishOp_spec .cancelled stOk h.isLt ho
    exact ⟨_, hrun, hself, hother, hdone, hirq, hbox, exec_only hrun⟩
  case timeout =>
    have hrun := exec_opWriteTimeout ho hst hhold hold
    have hkept : (s.dropStaged h o).handle = s.handle := by
      funext j
      rw [State.handle, s.dropStaged_mbx, State.handle]
    have hdrop : ((s.dropStaged h o).handle h).op = some o := by rw [hkept, ho]
    obtain ⟨hself, hother, _, _, _⟩ := State.finishOp_spec .failed stTimeout h.isLt hdrop
    have honly := (s.dropStaged h o).finishOp_only h .failed stTimeout
    have hhm : _ = (s.dropStaged h o).hm := honly.same .hm (by decide)
    have hcfg : _ = (s.dropStaged h o).cfg := honly.same .cfg (by decide)
    rw [hkept, s.dropStaged_now] at hself
    rw [hkept] at hother
    refine ⟨_, hrun, hself, hother, fun hkind => ?_, fun hkind => ?_, fun hkind => ?_, exec_only hrun⟩
    · rw [hhm, State.dropStaged, hkind]
    · rw [hcfg, State.dropStaged, hkind]
    · rw [hcfg, State.dropStaged, hkind]
      exact ⟨rfl, rfl⟩
  case write =>
    obtain ⟨hi, ho⟩ := State.handle_of_opFor hop
    have hlen : (q.payload.drop 8).length = q.payload.length - 8 := List.length_drop ..
    obtain ⟨hmbx, hmodel, hoverlay, hfw⟩ := State.stage_before_end (bs := q.payload.drop 8) ho hst (by omega)
    have hself : (((posted s 0x0105 q).modOp i fun _ => { o with
        received := o.received + (q.payload.drop 8).length, timer := s.now }).handle i) = _ := State.handle_modOp hi ho
    dsimp only
    refine ⟨(posted s 0x0105 q).stage i o (q.payload.drop 8), congrArg Host.Outcome.next (State.submit_done (by decide) hready
      (cmdOpWrite_of_expected hop hst hoff hlow hhigh (by omega))), ?_, hmodel, hoverlay, hfw, ?_⟩
    · rw [State.handle, hmbx]
      exact hself
    · have hposted := Keeps.modBox_keeps (gs := [.mbx, .hm, .cfg]) (by decide) (Keeps.refl s) q.mbx fun b => { b with
        req := trim (q.encode 0x0105), st := .working, src := decide (q.mbx = 7) && q.test, wait := none }
      exact (Keeps.stage_keeps (by decide) hposted i o _).only
  case unexpected =>
    exact congrArg Host.Outcome.next (State.submit_done (by decide) hready (cmdOpWrite_of_unexpected hop hst hoff))
  case readSome =>
    refine congrArg Host.Outcome.next (State.submit_done (by decide) hready ?_)
    rw [cmdMbxSpillRead_of_inside ((box_posted_spill ..).trans hspill) (by omega), if_pos hoff, Nat.min_eq_left (by omega)]
  case readLast =>
    refine congrArg Host.Outcome.next (State.submit_done (by decide) hready ?_)
    rw [cmdMbxSpillRead_of_inside ((box_posted_spill ..).trans hspill) hoff, if_neg (by omega), Nat.min_eq_right (by omega)]
  case past =>
    exact congrArg Host.Outcome.next (State.submit_done (by decide) hready
      (cmdMbxSpillRead_of_past ((box_posted_spill ..).trans hspill) hoff))
  case free => exact congrArg Host.Outcome.next (State.submit_done (by decide) hready rfl)

end Sys2Proof.Machine
end

section
/-! SUPPORT. What the heartbeat monitor reads of a site, and that a check of another site leaves it (R375, R376). -/
namespace Sys2Proof.Machine
open Sys2Proof.Safety

theorem siteOf_regionNo {site loc : Nat} (h : loc < 2048) : siteOf (regionNo site loc) = site := by
  simp only [siteOf, regionNo]
  omega

theorem siteOf_of_mem_siteRegions {site : Nat} {r : RegionNo} (hr : r ∈ siteRegions site) : siteOf r = site := by
  simp only [siteRegions, List.mem_map, List.mem_range] at hr
  obtain ⟨loc, hloc, rfl⟩ := hr
  exact siteOf_regionNo (by have := localCount_le site; omega)

theorem xId_inj {c d i j : Nat} (hi : i < 2 ^ 28) (hj : j < 2 ^ 28) (h : xId c i = xId d j) : c = d ∧ i = j := by
  simp only [xId] at h
  omega

theorem xClass_xId {c i : Nat} (hi : i < 2 ^ 28) : xClass (xId c i) = c := by
  simp only [xClass, xId]
  omega

theorem xInst_xId (c : Nat) {i : Nat} (hi : i < 65536) : xInst (xId c i) = i := by
  simp only [xInst, xId]
  omega

/-- What a check of a site reads: its die, the cores of its regions, and the states of their heartbeat crossings. -/
structure State.SiteKept (site : Nat) (s t : State) : Prop where
  die : t.dieAt site = s.dieAt site
  count : t.die.checks = s.die.checks
  epoch : t.sys.epoch = s.sys.epoch
  now : t.now = s.now
  region : ∀ r, siteOf r = site → (t.rgn r).core = (s.rgn r).core
  heartbeat : ∀ r, siteOf r = site → t.xing (xId 8 r) = s.xing (xId 8 r)
  regular : Regular t

theorem State.SiteKept.refl (site : Nat) {s : State} (hreg : Regular s) : State.SiteKept site s s :=
  ⟨rfl, rfl, rfl, rfl, fun _ _ => rfl, fun _ _ => rfl, hreg⟩

theorem State.SiteKept.trans {site : Nat} {s t u : State} (h : State.SiteKept site s t) (k : State.SiteKept site t u) :
    State.SiteKept site s u :=
  ⟨k.die.trans h.die, k.count.trans h.count, k.epoch.trans h.epoch, k.now.trans h.now, fun r hr => (k.region r hr).trans (h.region r hr),
    fun r hr => (k.heartbeat r hr).trans (h.heartbeat r hr), k.regular⟩

/-- A step that leaves the dies and the package's own state keeps a site whose regions and heartbeat crossings it leaves. -/
theorem State.SiteKept.step {gs : List Group} {site : Nat} {o s t : State} (h : State.SiteKept site o s) (k : Keeps gs s t)
    (hsys : Group.sys ∉ gs) (hdie : Group.die ∉ gs) (hregion : ∀ r, siteOf r = site → (t.rgn r).core = (s.rgn r).core)
    (hheartbeat : ∀ r, siteOf r = site → t.xing (xId 8 r) = s.xing (xId 8 r)) : State.SiteKept site o t := by
  have hsys : t.sys = s.sys := k.only.same .sys hsys
  have hdie : t.die = s.die := k.only.same .die hdie
  exact h.trans ⟨State.dieAt_congr hdie site, by rw [hdie], by rw [hsys], by rw [State.now, hsys, State.now], hregion, hheartbeat,
    k.regular h.regular⟩

/-- A step that leaves the regions too. -/
theorem State.SiteKept.stepReg {gs : List Group} {site : Nat} {o s t : State} (h : State.SiteKept site o s) (k : Keeps gs s t)
    (hsys : Group.sys ∉ gs) (hdie : Group.die ∉ gs) (hreg : Group.reg ∉ gs) (hxg : Group.xg ∉ gs) : State.SiteKept site o t := by
  have hregions : t.reg = s.reg := k.only.same .reg hreg
  have hcrossings : t.xg = s.xg := k.only.same .xg hxg
  exact h.step k hsys hdie (fun r _ => by rw [State.rgn_congr hregions]) fun r _ => by rw [State.xing, hcrossings, State.xing]

theorem State.regionExists_of_siteKept {s t : State} {r : RegionNo} (h : State.SiteKept (siteOf r) s t) :
    t.regionExists r = s.regionExists r := by
  rw [State.regionExists, h.die, ← State.regionExists]

theorem State.live_of_siteKept {s t : State} {r : RegionNo} (h : State.SiteKept (siteOf r) s t) : t.live r = s.live r := by
  have hchan : (t.rgn r).chan = (s.rgn r).chan := (congrArg Region.chan (h.region r rfl) :)
  rw [State.live, hchan, State.regionExists_of_siteKept h, ← State.live]

theorem State.liveRegions_of_siteKept {s t : State} {site : Nat} (h : State.SiteKept site s t) : t.liveRegions site = s.liveRegions site :=
  List.filter_congr fun _ hr => State.live_of_siteKept (siteOf_of_mem_siteRegions hr ▸ h)

theorem State.siteFenced_of_siteKept {s t : State} {site : Nat} (h : State.SiteKept site s t) : t.siteFenced site = s.siteFenced site := by
  rw [State.siteFenced, h.die, h.epoch, ← State.siteFenced]

/-- The state of a region's heartbeat crossing (R207). -/
theorem State.xState_heartbeat (s : State) {r : Nat} (hr : r < 65536) : s.xState (xId 8 r) =
    if s.siteFenced (siteOf r) && !(s.dieAt (siteOf r)).joinAt.isSome then .fenced else (s.xing (xId 8 r)).st := by
  have hclass : xClass (xId 8 r) = 8 := xClass_xId (by omega)
  have hregions : s.xRegions (xId 8 r) = [r] := by simp only [State.xRegions, hclass, xInst_xId 8 hr]
  have hfabric : onFabric (xId 8 r) = false := by
    simp only [onFabric, hclass, decide_eq_false_iff_not, not_or]
    refine ⟨by decide, ?_⟩
    simp only [xId]
    omega
  simp [State.xState, hregions, hclass, hfabric]

theorem lt_of_siteOf_lt {r : Nat} (h : siteOf r < 23) : r < 65536 := by
  simp only [siteOf] at h
  omega

theorem State.silent_of_siteKept {s t : State} {r : RegionNo} (hr : siteOf r < 23) (h : State.SiteKept (siteOf r) s t) :
    t.silent r = s.silent r := by
  have hchan : (t.rgn r).chan = (s.rgn r).chan := (congrArg Region.chan (h.region r rfl) :)
  have hhb : (t.rgn r).hb = (s.rgn r).hb := (congrArg Region.hb (h.region r rfl) :)
  have hx : t.xState (xId 8 r) = s.xState (xId 8 r) := by
    rw [t.xState_heartbeat (lt_of_siteOf_lt hr), s.xState_heartbeat (lt_of_siteOf_lt hr), h.heartbeat r rfl, h.die,
      State.siteFenced_of_siteKept h]
  rw [State.silent, hchan, hhb, hx, h.count, h.die, ← State.silent]

/-! ### Crossings fenced -/

theorem State.xing_xLast (s : State) (id i : Nat) : (s.xLast id).xing i = s.xing i := rfl

/-- A fence touches no other stored crossing. -/
theorem State.xing_fence_ne (s : State) {id i : Nat} (hwf : Map.wf {} s.xg.x = true) (hi : i ≠ id) : (s.fence id).xing i = s.xing i := by
  unfold State.fence
  split
  · dsimp only
    split
    · rfl
    · exact State.xing_congr rfl i
  · split
    · rfl
    · have hhalt : (if (s.xing id).st = .torn then s else s.xHalt id).xing i = s.xing i := by
        split
        · rfl
        · exact (s.xHalt_kept id hwf).other i hi
      dsimp only
      rw [State.xing_xLast, State.xing_modXing_ne _ _ hi, hhalt]

theorem State.xing_fenceAll_of_not_mem {ids : List Nat} {i : Nat} (hi : i ∉ ids) {s : State} (hreg : Regular s) :
    (s.fenceAll ids).xing i = s.xing i := by
  unfold State.fenceAll
  induction ids generalizing s with
  | nil => rfl
  | cons id ids ih =>
    simp only [List.mem_cons, not_or] at hi
    have hnext : Regular (s.fence id) := (Keeps.fence_keeps (List.Subset.refl _) (Keeps.refl s) id).regular hreg
    rw [List.foldl_cons, ih hi.2 hnext, State.xing_fence_ne s hreg.crossings hi.1]

theorem State.CoreKept.fence {o s : State} (h : State.CoreKept o s) (id : Nat) : State.CoreKept o (s.fence id) := by
  unfold State.fence
  dsimp only
  exact .ite (.ite h (h.of_reg rfl)) (.ite h (.of_reg (.ite h (h.xHalt id)) rfl))

theorem State.CoreKept.fenceAll {o s : State} (h : State.CoreKept o s) (ids : List Nat) : State.CoreKept o (s.fenceAll ids) :=
  .foldl (fun _ id ht => ht.fence id) h ids

theorem forecastLanes_class {die id : Nat} (hdie : die ≤ 7) (h : id ∈ forecastLanes die) : ∃ i, i < 2 ^ 28 ∧ id = xId 6 i := by
  simp only [forecastLanes, List.mem_map, List.mem_range] at h
  obtain ⟨d, hd, rfl⟩ := h
  exact ⟨_, by omega, rfl⟩

theorem State.portCrossings_class {s : State} {r : RegionNo} {id : Nat} (h : id ∈ s.portCrossings r) : ∃ i, i < 2 ^ 28 ∧ id = xId 13 i := by
  simp only [State.portCrossings, List.mem_flatMap, List.mem_filter, List.mem_range, List.mem_cons, List.not_mem_nil, or_false] at h
  obtain ⟨p, ⟨hp, _⟩, rfl | rfl⟩ := h
  · exact ⟨_, by omega, rfl⟩
  · exact ⟨_, by omega, rfl⟩

theorem fabricCrossings_class {id : Nat} (h : id ∈ fabricCrossings) : ∃ c i, i < 2 ^ 28 ∧ c ≠ 8 ∧ id = xId c i := by
  simp only [fabricCrossings, List.mem_append, List.mem_map, List.mem_range, List.mem_cons, List.not_mem_nil, or_false] at h
  rcases h with (⟨i, hi, rfl⟩ | ⟨i, hi, rfl⟩) | rfl
  · exact ⟨1, i, by omega, by decide, rfl⟩
  · exact ⟨1, 256 + i, by omega, by decide, rfl⟩
  · exact ⟨3, 2, by decide, by decide, rfl⟩

/-- The far end of a region's link is a region of its site, on one of its four links. -/
theorem State.linkEnd_valid {s : State} {r p k k' : Nat} (h : s.linkEnd r k = some (p, k')) : p < 65536 ∧ k' < 4 := by
  unfold State.linkEnd at h
  split at h
  · simp at h
  · simp only [Option.ite_none_right_eq_some, Option.map_eq_some_iff, Prod.mk.injEq, Bool.and_eq_true] at h
    obtain ⟨⟨hexists, _⟩, k'', hget, rfl, rfl⟩ := h
    have hmem := List.mem_of_getElem? hget
    simp only [State.linksTo, List.mem_filter, List.mem_range] at hmem
    have hvalid := validRegion_of_exists hexists
    simp only [validRegion, Bool.and_eq_true, decide_eq_true_eq] at hvalid
    exact ⟨lt_of_siteOf_lt (by have := hvalid.1; omega), hmem.1⟩

theorem State.regionLanes_class {s : State} {r : Nat} (hr : r < 65536) {e : RegionNo × Nat} (h : e ∈ s.regionLanes r) :
    e.2 * 65536 + e.1 < 2 ^ 28 := by
  simp only [State.regionLanes, List.mem_flatMap, List.mem_range] at h
  obtain ⟨k, hk, h⟩ := h
  split at h
  next p k' hend =>
    obtain ⟨hp, hk'⟩ := State.linkEnd_valid hend
    simp only [List.mem_cons, List.not_mem_nil, or_false] at h
    rcases h with rfl | rfl <;> dsimp only <;> omega
  · simp at h

/-- The crossings of a set of regions: heartbeat crossings of regions of the set, and crossings of other classes. -/
theorem State.mem_sideCrossings {s : State} {rs : List RegionNo} {id : Nat} (hrs : ∀ q : Nat, q ∈ rs → q < 65536) (h : id ∈ s.sideCrossings rs) :
    (∃ c i, i < 2 ^ 28 ∧ c ≠ 8 ∧ id = xId c i) ∨ ∃ q ∈ rs, id = xId 8 q := by
  simp only [State.sideCrossings, List.mem_append, List.mem_eraseDups, List.mem_flatMap] at h
  rcases h with ⟨q, hq, h⟩ | h
  · have hlt : (q : Nat) < 65536 := hrs q hq
    have hlong : (q : Nat) < 2 ^ 28 := lt_trans hlt (by decide)
    simp only [State.regionCrossings, List.mem_append, List.mem_cons, List.not_mem_nil, or_false, List.mem_map] at h
    rcases h with (((rfl | rfl | rfl | rfl) | ⟨e, he, rfl⟩) | h) | h
    · exact .inl ⟨4, q, hlong, by decide, rfl⟩
    · exact .inl ⟨5, q, hlong, by decide, rfl⟩
    · exact .inl ⟨7, q, hlong, by decide, rfl⟩
    · exact .inr ⟨q, hq, rfl⟩
    · exact .inl ⟨9, _, State.regionLanes_class hlt he, by decide, rfl⟩
    · split at h
      next hdie =>
        obtain ⟨i, hi, rfl⟩ := forecastLanes_class hdie.1 h
        exact .inl ⟨6, i, hi, by decide, rfl⟩
      · simp at h
    · obtain ⟨i, hi, rfl⟩ := State.portCrossings_class h
      exact .inl ⟨13, i, hi, by decide, rfl⟩
  · split at h
    · exact .inl (fabricCrossings_class h)
    · simp at h

/-- The crossings of a set of regions hold no other region's heartbeat crossing. -/
theorem State.heartbeat_not_mem_sideCrossings (s : State) {rs : List RegionNo} {r : Nat} (hr : r ∉ rs) (hlt : r < 65536)
    (hrs : ∀ q : Nat, q ∈ rs → q < 65536) : xId 8 r ∉ s.sideCrossings rs := by
  intro hmem
  rcases State.mem_sideCrossings hrs hmem with ⟨c, i, hi, hc, heq⟩ | ⟨q, hq, heq⟩
  · exact hc (xId_inj (by omega) hi heq).1.symm
  · have hlt : (q : Nat) < 2 ^ 28 := lt_trans (hrs q hq) (by decide)
    obtain ⟨_, rfl⟩ := xId_inj (by omega) hlt heq
    exact hr hq

/-! ### A check of another site -/

theorem State.rgn_modRgns_of_not_mem (s : State) {rs : List RegionNo} {r : RegionNo} (f : RegionNo → Region → Region) (h : r ∉ rs) :
    (s.modRgns rs f).rgn r = s.rgn r :=
  State.rgn_foldl_of_not_mem (F := fun s r => s.modRgn r (f r)) (fun t _ _ hk => t.rgn_modRgn_ne _ hk) h s

theorem State.rgn_calSync_ne (s : State) {r k : RegionNo} (h : k ≠ r) : (s.calSync r).rgn k = s.rgn k := by
  have hfirst (f : Region → Region) (c : Cal) : ({ s.modRgn r f with cal := c } : State).rgn k = s.rgn k := s.rgn_modRgn_ne f h
  unfold State.calSync
  dsimp only
  rw [apply_ite (State.rgn · k), State.rgn_modRgn_ne _ _ h, ite_self]
  exact hfirst _ _

theorem State.rgn_calLeave_ne (s : State) {r k : RegionNo} (e : CalEnd) (h : k ≠ r) : (s.calLeave r e).rgn k = s.rgn k := by
  have hcount (t : State) : (t.calCount r e).rgn k = t.rgn k :=
    State.rgn_congr ((Keeps.calCount_keeps (List.Subset.refl _) (Keeps.refl t) r e).only.same .reg (by decide)) k
  have hqueue (t : State) : t.calQueue.rgn k = t.rgn k := rfl
  unfold State.calLeave
  dsimp only
  rw [hqueue, State.rgn_calSync_ne _ h, hcount, State.rgn_modRgn_ne _ _ h]
  rfl

theorem State.rgn_calAbandon_of_not_mem (s : State) {rs : List RegionNo} {r : RegionNo} (h : r ∉ rs) :
    (s.calAbandon rs).rgn r = s.rgn r := by
  unfold State.calAbandon
  refine State.rgn_foldl_of_not_mem (fun t q k hk => ?_) h s
  split
  · exact t.rgn_calLeave_ne _ hk
  · rfl

theorem State.dieAt_modDie_of_ne (s : State) {i j : Nat} (f : Die → Die) (h : j ≠ i) : (s.modDie i f).dieAt j = s.dieAt j :=
  vget_vmod_ne _ _ f h

theorem State.not_mem_siteRegions {x r : Nat} (h : siteOf r ≠ x) : r ∉ siteRegions x := fun hmem => h (siteOf_of_mem_siteRegions hmem)

section OtherSite
variable {site x : Nat} {o s : State} (h : State.SiteKept site o s) (hne : site ≠ x)
include h hne

theorem State.SiteKept.modDie (f : Die → Die) : State.SiteKept site o (s.modDie x f) :=
  h.trans ⟨s.dieAt_modDie_of_ne f hne, rfl, rfl, rfl, fun _ _ => rfl, fun _ _ => rfl,
    (Keeps.modDie_keeps (List.Subset.refl _) (Keeps.refl s) x f).regular h.regular⟩

theorem State.SiteKept.modRgns (f : RegionNo → Region → Region) : State.SiteKept site o (s.modRgns (siteRegions x) f) :=
  h.step (Keeps.modRgns_keeps (List.Subset.refl _) (Keeps.refl s) (siteRegions x) f) (by decide) (by decide)
    (fun r hr => by rw [s.rgn_modRgns_of_not_mem f (State.not_mem_siteRegions (hr ▸ hne))])
    fun r _ => State.xing_congr (by rw [(Keeps.modRgns_keeps (List.Subset.refl _) (Keeps.refl s) (siteRegions x) f).only.same .xg (by decide)]) _

theorem State.SiteKept.fenceAll (hx : x < 23) (hsite : site < 23) :
    State.SiteKept site o (s.fenceAll (s.sideCrossings (siteRegions x))) := by
  have hlt : ∀ q : Nat, q ∈ siteRegions x → q < 65536 := fun q hq => lt_of_siteOf_lt (by rw [siteOf_of_mem_siteRegions hq]; exact hx)
  refine h.step (Keeps.fenceAll_keeps (List.Subset.refl _) (Keeps.refl s) _) (by decide) (by decide)
    (fun r _ => ((State.CoreKept.refl h.regular.regions).fenceAll _).region r) fun r hr => ?_
  exact State.xing_fenceAll_of_not_mem (s.heartbeat_not_mem_sideCrossings (State.not_mem_siteRegions (hr ▸ hne))
    (lt_of_siteOf_lt (hr ▸ hsite)) hlt) h.regular

theorem State.SiteKept.calAbandon : State.SiteKept site o (s.calAbandon (siteRegions x)) :=
  h.step (Keeps.calAbandon_keeps (List.Subset.refl _) (Keeps.refl s) _) (by decide) (by decide)
    (fun r hr => by rw [s.rgn_calAbandon_of_not_mem (State.not_mem_siteRegions (hr ▸ hne))])
    fun r _ => State.xing_congr (by rw [(Keeps.calAbandon_keeps (List.Subset.refl _) (Keeps.refl s) _).only.same .xg (by decide)]) _

end OtherSite

theorem State.SiteKept.breakAnchors {site : Nat} {o s : State} (h : State.SiteKept site o s) (p : RegionNo → Bool) :
    State.SiteKept site o (s.breakAnchors p) :=
  h.step (Keeps.breakAnchors_keeps (List.Subset.refl _) (Keeps.refl s) p) (by decide) (by decide)
    (fun r _ => ((State.CoreKept.refl h.regular.regions).breakAnchors p).region r)
    fun r _ => State.xing_congr (by rw [(Keeps.breakAnchors_keeps (List.Subset.refl _) (Keeps.refl s) p).only.same .xg (by decide)]) _

theorem State.SiteKept.raise {site : Nat} {o s : State} (h : State.SiteKept site o s) (id arg : Nat) : State.SiteKept site o (s.raise id arg) :=
  h.stepReg (Keeps.raise_keeps (List.Subset.refl _) (Keeps.refl s) id arg) (by decide) (by decide) (by decide) (by decide)

theorem State.SiteKept.mlbSet {site : Nat} {o s : State} (h : State.SiteKept site o s) (c : FaultCause) : State.SiteKept site o (s.mlbSet c) := by
  have hkeeps := Keeps.mlbSet_keeps (List.Subset.refl _) (Keeps.refl s) c
  have hsys : (s.mlbSet c).sys = { s.sys with mlb := (s.mlbSet c).sys.mlb } := s.mlbSet_sysButMlb c
  have hdie : (s.mlbSet c).die = s.die := hkeeps.only.same .die (by decide)
  have hregions : (s.mlbSet c).reg = s.reg := hkeeps.only.same .reg (by decide)
  have hcrossings : (s.mlbSet c).xg = s.xg := hkeeps.only.same .xg (by decide)
  exact h.trans ⟨State.dieAt_congr hdie site, by rw [hdie], by rw [hsys], by rw [State.now, hsys, State.now],
    fun r _ => by rw [State.rgn_congr hregions], fun r _ => by rw [State.xing, hcrossings, State.xing], hkeeps.regular h.regular⟩

/-- A site that becomes LOST leaves what the checks of the others read. -/
theorem State.SiteKept.dieLost {site x : Nat} {o s : State} (h : State.SiteKept site o s) (n : Nat) (hx : x < 23) (hne : site ≠ x)
    (hsite : site < 23) : State.SiteKept site o (s.dieLost x n) := by
  unfold State.dieLost
  dsimp only
  refine State.SiteKept.raise (.calAbandon (.breakAnchors (.fenceAll ?_ hne hx hsite) _) hne) _ _
  refine State.SiteKept.stepReg ?_ (Keeps.endAsked_keeps (List.Subset.refl _) (Keeps.refl _) x) (by decide) (by decide) (by decide) (by decide)
  refine ((h.modDie hne _).modRgns hne _).stepReg (gs := [.opt]) ⟨⟨fun g hg => ?_⟩, Regular.keep rfl⟩ (by decide) (by decide) (by decide)
    (by decide)
  cases g with
  | opt => exact absurd (by decide) hg
  | _ => rfl

theorem State.SiteKept.foldl {α : Type} {site : Nat} {o s : State} {f : State → α → State} (l : List α)
    (hf : ∀ t, ∀ x ∈ l, State.SiteKept site o t → State.SiteKept site o (f t x)) (h : State.SiteKept site o s) :
    State.SiteKept site o (l.foldl f s) := List.foldlRecOn l f h fun t ht x hx => hf t x hx ht

theorem State.SiteKept.ite {site : Nat} {o s t : State} {c : Prop} [Decidable c] (hs : State.SiteKept site o s)
    (ht : State.SiteKept site o t) : State.SiteKept site o (if c then s else t) := by
  split
  · exact hs
  · exact ht

theorem State.SiteKept.modRgn {site : Nat} {o s : State} {r : RegionNo} (h : State.SiteKept site o s) (hr : siteOf r ≠ site)
    (f : Region → Region) : State.SiteKept site o (s.modRgn r f) :=
  h.step (Keeps.modRgn_keeps (List.Subset.refl _) (Keeps.refl s) r f) (by decide) (by decide)
    (fun q hq => by rw [s.rgn_modRgn_ne f fun he : q = r => hr (he ▸ hq)]) fun _ _ => rfl

/-- The regions of a site that are silent at a check. -/
def State.quiet (s : State) (x : Nat) : List RegionNo := (s.liveRegions x).filter s.silent

/-- What a check notes of the regions of a site that stays RUNNING. -/
def State.noteSilent (s : State) (x : Nat) : State :=
  (s.liveRegions x).foldl (fun t r =>
    if (s.quiet x).contains r then
      if (t.rgn r).hb.silentRaised then t
      else (t.modRgn r fun g => { g with hb := { g.hb with silentRaised := true } }).raise evHbSilent r
    else t.modRgn r fun g => { g with hb := { g.hb with silentRaised := false } }) s

theorem State.noteSilent_keeps (s : State) (x : Nat) : Keeps [.reg, .ev] s (s.noteSilent x) := by
  refine Keeps.foldl (fun t r ht => ?_) (Keeps.refl s)
  split
  · split
    · exact ht
    · exact Keeps.raise_keeps (by decide) (Keeps.modRgn_keeps (by decide) ht r _) _ _
  · exact Keeps.modRgn_keeps (by decide) ht r _

/-- The sites whose silence the monitor acts on. -/
def Die.monitored (d : Die) : Prop := d.st = .running ∧ d.armed.isSome = true ∧ d.attach ≠ 2

theorem State.checkSite_of_monitored {s : State} {x : Nat} (h : (s.dieAt x).monitored) : s.checkSite x =
    if x ≠ 16 ∧ !(s.quiet x).isEmpty ∧ min 4 (s.liveRegions x).length ≤ (s.quiet x).length then s.dieLost x (s.quiet x).length
    else if x = 16 ∧ 4 ≤ (s.quiet x).length then (s.noteSilent x).mlbSet .silent16 else s.noteSilent x := if_pos h

theorem State.checkSite_of_lost {s : State} {x : Nat} (h : (s.dieAt x).st = .lost) : s.checkSite x =
    match (s.dieAt x).joinAt with
    | none => s.modDie x fun d => { d with signed := !(s.liveRegions x).isEmpty && (s.liveRegions x).all fun r => (s.rgn r).hb.life }
    | some t =>
      let n := if (s.liveRegions x).all fun r => decide (s.die.checks ≤ (s.rgn r).hb.at_) then (s.dieAt x).checks + 1 else 0
      if n < 4 ∨ t + 16384 < s.now then s.modDie x fun d => { d with checks := n }
      else (s.modDie x fun d => { d with st := .rejoining, joinAt := some s.now, checks := 4 }).raise evDieRejoining x := by
  have hrun : ¬ ((s.dieAt x).st = .running ∧ (s.dieAt x).armed.isSome = true ∧ (s.dieAt x).attach ≠ 2) := fun hr => by simp [h] at hr
  unfold State.checkSite
  dsimp only
  exact (if_neg hrun).trans (if_pos h)

theorem State.checkSite_of_other {s : State} {x : Nat} (hrun : ¬ (s.dieAt x).monitored) (hlost : (s.dieAt x).st ≠ .lost) :
    s.checkSite x = s ∨ s.checkSite x = s.rejoinDrop x := by
  have hcheck : s.checkSite x =
      if (s.dieAt x).st = .rejoining ∧ (s.dieAt x).attach ≠ 2 then (if (s.quiet x).isEmpty then s else s.rejoinDrop x) else s :=
    (if_neg hrun).trans (if_neg hlost)
  rw [hcheck]
  split_ifs <;> simp

section OtherSite
variable {site x : Nat} {o s : State} (h : State.SiteKept site o s) (hne : site ≠ x)
include h hne

theorem State.SiteKept.noteSilent : State.SiteKept site o (s.noteSilent x) := by
  refine State.SiteKept.foldl _ (fun t r hr ht => ?_) h
  have hout : siteOf r ≠ site := fun he => hne (he.symm.trans (siteOf_of_mem_siteRegions (List.mem_filter.1 hr).1))
  exact .ite (.ite ht ((ht.modRgn hout _).raise _ _)) (ht.modRgn hout _)

theorem State.SiteKept.rejoinDrop : State.SiteKept site o (s.rejoinDrop x) := by
  unfold State.rejoinDrop
  dsimp only
  exact .ite ((h.modDie hne _).modRgns hne _) (h.modDie hne _)

/-- The check of a site leaves what the checks of the others read. -/
theorem State.SiteKept.checkSite (hx : x < 23) (hsite : site < 23) : State.SiteKept site o (s.checkSite x) := by
  rcases Classical.em (s.dieAt x).monitored with hrun | hrun
  · rw [State.checkSite_of_monitored hrun]
    exact .ite (h.dieLost _ hx hne hsite) (.ite ((h.noteSilent hne).mlbSet _) (h.noteSilent hne))
  rcases Decidable.em ((s.dieAt x).st = .lost) with hlost | hlost
  · rw [State.checkSite_of_lost hlost]
    split
    · exact h.modDie hne _
    · exact .ite (h.modDie hne _) ((h.modDie hne _).raise _ _)
  · rcases State.checkSite_of_other hrun hlost with heq | heq <;> rw [heq]
    · exact h
    · exact h.rejoinDrop hne

end OtherSite

theorem State.mem_mlbSet_of_mem {s : State} {c : FaultCause} (d : FaultCause) (hc : c ∈ s.sys.mlb) : c ∈ (s.mlbSet d).sys.mlb := by
  rcases Decidable.em (d ∈ s.sys.mlb) with hold | hnew
  · unfold State.mlbSet
    rw [if_pos (by simpa using hold)]
    exact hc
  · rw [State.mlbSet_sys_of_new hnew]
    exact List.mem_append_left _ hc

theorem State.mem_mlb_checkSite {s : State} {c : FaultCause} (hc : c ∈ s.sys.mlb) (x : Nat) : c ∈ (s.checkSite x).sys.mlb := by
  have hkeep {gs : List Group} {t : State} (hk : Keeps gs s t) (hgs : Group.sys ∉ gs) : c ∈ t.sys.mlb := by
    rw [show t.sys = s.sys from hk.only.same .sys hgs]
    exact hc
  have hdie (f : Die → Die) : Keeps [.die, .ev] s (s.modDie x f) := Keeps.modDie_keeps (by decide) (Keeps.refl s) x f
  rcases Classical.em (s.dieAt x).monitored with hrun | hrun
  · rw [State.checkSite_of_monitored hrun]
    split
    · exact hkeep (Keeps.dieLost_keeps (List.Subset.refl _) (Keeps.refl s) x _) (by decide)
    · split
      · exact State.mem_mlbSet_of_mem _ (hkeep (s.noteSilent_keeps x) (by decide))
      · exact hkeep (s.noteSilent_keeps x) (by decide)
  rcases Decidable.em ((s.dieAt x).st = .lost) with hlost | hlost
  · rw [State.checkSite_of_lost hlost]
    split
    · exact hkeep (hdie _) (by decide)
    · exact hkeep (gs := [.die, .ev]) (Keeps.ite (hdie _) (Keeps.raise_keeps (by decide) (hdie _) _ _)) (by decide)
  · rcases State.checkSite_of_other hrun hlost with heq | heq <;> rw [heq]
    · exact hc
    · exact hkeep (s.rejoinDrop_keeps x) (by decide)

end Sys2Proof.Machine
end

section
/-! SUPPORT. A check of a site, of that site, and the check of them all (R375, R376). -/
namespace Sys2Proof.Machine
open Sys2Proof.Safety

theorem State.dieAt_dieLost (s : State) {x : Nat} (n : Nat) (hx : x < 23) : (s.dieLost x n).dieAt x =
    { s.dieAt x with st := .lost, lostAt := some s.now, joinAt := none, checks := 0, signed := false } := by
  unfold State.dieLost
  dsimp only
  generalize hs1 : s.modDie x _ = s1
  have hopt {t : State} (ht : Keeps [.mbx, .reg, .et, .opt, .ls, .xg, .cal, .ev] s1 t) (l : List Insertion) :
      Keeps [.mbx, .reg, .et, .opt, .ls, .xg, .cal, .ev] s1 { t with opt := { t.opt with ins := l } } := by
    refine ht.trans ⟨⟨fun g hg => ?_⟩, Regular.keep rfl⟩
    cases g with
    | opt => exact absurd (by decide) hg
    | _ => rfl
  have hrest {t : State} (ht : Keeps [.mbx, .reg, .et, .opt, .ls, .xg, .cal, .ev] s1 t) : t.dieAt x =
      { s.dieAt x with st := .lost, lostAt := some s.now, joinAt := none, checks := 0, signed := false } := by
    rw [State.dieAt_congr (ht.only.same .die (by decide)) x, ← hs1, s.dieAt_modDie _ hx]
  exact hrest (Keeps.raise_keeps (by decide) (Keeps.calAbandon_keeps (by decide) (Keeps.breakAnchors_keeps (by decide)
    (Keeps.fenceAll_keeps (by decide) (Keeps.endAsked_keeps (by decide) (hopt (Keeps.modRgns_keeps (by decide) (Keeps.refl s1) _ _) _) x) _)
    _) _) _ _)

/-- Each check leaves the count of checks and the time. -/
theorem State.checkSite_kept {s : State} (hreg : Regular s) {x : Nat} (hx : x < 23) :
    (s.checkSite x).die.checks = s.die.checks ∧ (s.checkSite x).now = s.now ∧ Regular (s.checkSite x) := by
  obtain ⟨site, hsite, hne⟩ : ∃ site, site < 23 ∧ site ≠ x := ⟨if x = 0 then 1 else 0, by split <;> omega, by split <;> omega⟩
  have hkept := (State.SiteKept.refl site hreg).checkSite hne hx hsite
  exact ⟨hkept.count, hkept.now, hkept.regular⟩

/-- The state in which the checks of some sites end. -/
def State.checkSites (s : State) (l : List Nat) : State := l.foldl State.checkSite s

/-- The state in which the check of all sites ends. -/
abbrev State.checkAll (s : State) : State := s.checkSites allSites

theorem State.checkSites_kept {s : State} (hreg : Regular s) {l : List Nat} (hl : ∀ x ∈ l, x < 23) :
    (s.checkSites l).die.checks = s.die.checks ∧ (s.checkSites l).now = s.now := by
  obtain ⟨hcount, hnow, _⟩ := List.foldlRecOn (motive := fun t : State => t.die.checks = s.die.checks ∧ t.now = s.now ∧ Regular t) l
    State.checkSite ⟨rfl, rfl, hreg⟩ fun t ⟨hcount, hnow, ht⟩ x hx => by
      obtain ⟨hcount', hnow', ht'⟩ := State.checkSite_kept ht (hl x hx)
      exact ⟨hcount'.trans hcount, hnow'.trans hnow, ht'⟩
  exact ⟨hcount, hnow⟩

/-- In the check of all sites a site is checked once, in a state that reads the same of it, and is left so. -/
theorem State.checkAll_split {s : State} (hreg : Regular s) {site : Nat} (hsite : site < 23) : ∃ u, State.SiteKept site s u ∧
    s.checkAll.dieAt site = (u.checkSite site).dieAt site ∧ ∀ c ∈ (u.checkSite site).sys.mlb, c ∈ s.checkAll.sys.mlb := by
  obtain ⟨before, after, hsplit⟩ := List.append_of_mem (List.mem_range.2 hsite)
  have hnodup : (before ++ site :: after).Nodup := hsplit ▸ List.nodup_range
  have hlt : ∀ x ∈ before ++ site :: after, x < 23 := fun x hx => List.mem_range.1 (hsplit ▸ hx)
  rw [List.nodup_append, List.nodup_cons] at hnodup
  obtain ⟨_, ⟨hafter, _⟩, hbefore⟩ := hnodup
  have hall : s.checkAll = after.foldl State.checkSite ((before.foldl State.checkSite s).checkSite site) := by
    rw [← List.foldl_cons, ← List.foldl_append, ← hsplit]
    rfl
  have hu : State.SiteKept site s (before.foldl State.checkSite s) :=
    .foldl before (fun t x hx ht => ht.checkSite (fun he => hbefore x hx site (by simp) he.symm) (hlt x (by simp [hx])) hsite) (.refl site hreg)
  have hcheck := (State.checkSite_kept hu.regular hsite).2.2
  refine ⟨_, hu, ?_, fun c hc => ?_⟩
  · rw [hall]
    exact (State.SiteKept.foldl after (fun t x hx ht => ht.checkSite (fun he => hafter ((show site = x from he) ▸ hx)) (hlt x (by simp [hx])) hsite)
      (.refl site hcheck)).die
  · rw [hall]
    exact List.foldlRecOn (motive := fun t : State => c ∈ t.sys.mlb) after State.checkSite hc fun t ht x _ => State.mem_mlb_checkSite ht x

theorem exec_heartbeatCheck {s : State} (hepoch : s.sys.epoch = true) (hnow : s.now % 256 = 64) (hnew : s.die.checkAt ≠ some s.now) :
    exec .heartbeatCheck s =
      .next { s.checkAll with die := { s.checkAll.die with checks := s.checkAll.die.checks + 1, checkAt := some s.checkAll.now } } := by
  have hrun : exec .heartbeatCheck s = execHeartbeatCheck s := rfl
  rw [hrun]
  unfold execHeartbeatCheck State.checkAll State.checkSites
  generalize allSites = l
  exact if_neg (by simp [hepoch, hnow, hnew])

/-- A check counts, and checks each site in a state that reads the same of it. -/
theorem exec_heartbeatCheck_spec {s : State} (hreg : Regular s) (hepoch : s.sys.epoch = true) (hnow : s.now % 256 = 64)
    (hnew : s.die.checkAt ≠ some s.now) :
    ∃ t, exec .heartbeatCheck s = .next t ∧ t.die.checks = s.die.checks + 1 ∧ t.die.checkAt = some s.now ∧
      ∀ site, site < 23 → ∃ u, State.SiteKept site s u ∧ t.dieAt site = (u.checkSite site).dieAt site ∧
        ∀ c ∈ (u.checkSite site).sys.mlb, c ∈ t.sys.mlb := by
  have hrun := exec_heartbeatCheck hepoch hnow hnew
  obtain ⟨hcount, htime⟩ := State.checkSites_kept hreg (l := allSites) fun _ hx => List.mem_range.1 hx
  have hsites (site : Nat) (hsite : site < 23) := State.checkAll_split hreg hsite
  revert hrun hcount htime hsites
  unfold State.checkAll
  generalize s.checkSites allSites = u
  intro hrun hcount htime hsites
  exact ⟨_, hrun, congrArg (· + 1) hcount, congrArg some htime, hsites⟩

theorem exec_dieLostLong {site : Site} {a : Nat} {s : State} (hst : (s.dieAt site).st = .lost) (hattach : (s.dieAt site).attach ≠ 2)
    (hlong : (s.dieAt site).lostLong = false) (hat : (s.dieAt site).lostAt = some a) (hpast : a + 100000000 ≤ s.now) :
    exec (.dieLostLong site) s =
      .next (((s.modDie site fun d => { d with lostLong := true }).raise evDieLostLong site).mlbSet (.lostLong site)) := by
  have hrun : exec (.dieLostLong site) s = execDieLostLong site s := rfl
  rw [hrun, execDieLostLong]
  simp only [hat]
  exact if_pos ⟨hst, hattach, by simp [hlong], hpast⟩

theorem State.quiet_of_siteKept {s t : State} {site : Nat} (hsite : site < 23) (h : State.SiteKept site s t) : t.quiet site = s.quiet site := by
  rw [State.quiet, State.quiet, State.liveRegions_of_siteKept h]
  refine List.filter_congr fun r hr => ?_
  have hof := siteOf_of_mem_siteRegions (List.mem_filter.1 hr).1
  exact State.silent_of_siteKept (hof ▸ hsite) (hof ▸ h)

theorem State.hb_of_siteKept {s t : State} {site : Nat} {r : RegionNo} (h : State.SiteKept site s t) (hr : r ∈ s.liveRegions site) :
    (t.rgn r).hb = (s.rgn r).hb :=
  (congrArg Region.hb (h.region r (siteOf_of_mem_siteRegions (List.mem_filter.1 hr).1)) :)

/-- Settles O20: the check of all sites checks each in a state that reads of it what the first state does. -/
theorem diesAreLost : Obligations.DiesAreLost := by
  refine ⟨fun s hreg hepoch hnow hnew => ?check, fun s hat => ?again, fun site a s hst hattach hlong hat hpast => ?long⟩
  case again => exact if_pos (.inr (.inr hat))
  case long =>
    have hrun := exec_dieLostLong hst hattach hlong hat hpast
    have hraise := Keeps.raise_keeps (List.Subset.refl _) (Keeps.refl (s.modDie site fun d => { d with lostLong := true })) evDieLostLong site
    have hdie : ∀ i, _ = (s.modDie site fun d => { d with lostLong := true }).dieAt i := fun i =>
      State.dieAt_congr (((Keeps.mlbSet_keeps (gs := [.ev, .sys, .mbx]) (by decide) (hraise.mono (by decide)) (.lostLong site)).only.same .die
        (by decide))) i
    refine ⟨_, hrun, ?_, fun i hi => ?_, ?_, State.mem_mlbSet _ _, exec_only hrun⟩
    · rw [hdie, s.dieAt_modDie _ site.isLt]
    · rw [hdie, s.dieAt_modDie_of_ne _ hi]
    · rw [State.mlbSet_ev]
      exact State.raise_ev_congr _ _ rfl rfl rfl
  case check =>
    obtain ⟨t, hrun, hcount, htime, hsites⟩ := exec_heartbeatCheck_spec hreg hepoch hnow hnew
    refine ⟨t, hrun, hcount, htime, fun site hsite hst harmed hattach => ?_, fun hst harmed hattach => ?_,
      fun site a hst hjoin hin hall => ?_, fun site hst hjoin => ?_, exec_only hrun⟩
    · obtain ⟨u, hu, hdie, _⟩ := hsites site site.isLt
      have hcheck := State.checkSite_of_monitored (s := u) (x := site) (by rw [hu.die]; exact ⟨hst, harmed, hattach⟩)
      rw [State.quiet_of_siteKept site.isLt hu, State.liveRegions_of_siteKept hu] at hcheck
      refine ⟨fun hquiet hmany => ?_, fun hfew => ?_⟩
      · rw [if_pos ⟨hsite, by simpa [State.quiet] using hquiet, hmany⟩] at hcheck
        refine hdie.trans ?_
        rw [hcheck, u.dieAt_dieLost _ site.isLt, hu.die, hu.now]
      · have hstays : ¬ (site.val ≠ 16 ∧ !(s.quiet site).isEmpty ∧ min 4 (s.liveRegions site).length ≤ (s.quiet site).length) := by
          rintro ⟨_, hsome, hmany⟩
          rcases hfew with hnone | hfew
          · simp [State.quiet, hnone] at hsome
          · exact absurd hmany (by simpa [State.quiet] using hfew)
        rw [if_neg hstays, if_neg (fun h => hsite h.1)] at hcheck
        refine hdie.trans ?_
        rw [hcheck, State.dieAt_congr ((u.noteSilent_keeps site).only.same .die (by decide)), hu.die]
    · obtain ⟨u, hu, hdie, hmlb⟩ := hsites 16 (by decide)
      have hcheck := State.checkSite_of_monitored (s := u) (x := 16) (by rw [hu.die]; exact ⟨hst, harmed, hattach⟩)
      rw [State.quiet_of_siteKept (by decide) hu, if_neg (by simp)] at hcheck
      refine ⟨hdie.trans ?_, fun hfour => hmlb _ ?_⟩
      · rw [hcheck]
        split
        · have hkeeps := Keeps.mlbSet_keeps (gs := [.reg, .ev, .sys, .mbx]) (by decide) ((u.noteSilent_keeps 16).mono (by decide)) .silent16
          rw [State.dieAt_congr (hkeeps.only.same .die (by decide)), hu.die]
        · rw [State.dieAt_congr ((u.noteSilent_keeps 16).only.same .die (by decide)), hu.die]
      · rw [hcheck, if_pos ⟨rfl, hfour⟩]
        exact State.mem_mlbSet _ _
    · obtain ⟨u, hu, hdie, _⟩ := hsites site site.isLt
      have hcheck := State.checkSite_of_lost (s := u) (x := site) (by rw [hu.die, hst])
      have hall : ((u.liveRegions site).all fun r => decide (u.die.checks ≤ (u.rgn r).hb.at_)) = true := by
        rw [State.liveRegions_of_siteKept hu, hu.count]
        rw [List.all_eq_true] at hall ⊢
        intro r hr
        rw [State.hb_of_siteKept hu hr]
        exact hall r hr
      simp only [hu.die, hjoin, hall, hu.now, if_true] at hcheck
      refine ⟨fun hthree => hdie.trans ?_, fun hfew => hdie.trans ?_⟩
      · rw [hcheck, if_neg (by omega)]
        rw [State.dieAt_congr ((Keeps.raise_keeps (List.Subset.refl _) (Keeps.refl _) _ _).only.same .die (by decide)),
          u.dieAt_modDie _ site.isLt, hu.die]
      · rw [hcheck, if_pos (by omega), u.dieAt_modDie _ site.isLt, hu.die]
    · obtain ⟨u, hu, hdie, _⟩ := hsites site site.isLt
      have hcheck := State.checkSite_of_lost (s := u) (x := site) (by rw [hu.die, hst])
      have hlife : ((s.liveRegions site).all fun r => (u.rgn r).hb.life) = (s.liveRegions site).all fun r => (s.rgn r).hb.life := by
        refine Bool.eq_iff_iff.2 ?_
        simp only [List.all_eq_true]
        exact forall₂_congr fun r hr => by rw [State.hb_of_siteKept hu hr]
      simp only [hu.die, hjoin, State.liveRegions_of_siteKept hu, hlife] at hcheck
      refine (congrArg Die.signed hdie).trans ?_
      rw [hcheck, u.dieAt_modDie _ site.isLt]

end Sys2Proof.Machine
end

section
/-! SUPPORT. Facts of every element of a list that a fold establishes one by one; sorted lists of keys; one field of the regions. -/
namespace Sys2Proof.Machine
open Sys2Proof.Safety

/-- What each step establishes of its own element, and no step undoes, holds of every element in the end. -/
theorem foldl_establishes {α β : Type} {f : β → α → β} {I : β → Prop} {G : β → α → Prop} {l : List α}
    (hI : ∀ t, ∀ q ∈ l, I t → I (f t q)) (hself : ∀ t, ∀ q ∈ l, I t → G (f t q) q)
    (hkeep : ∀ t, ∀ q ∈ l, ∀ r ∈ l, I t → G t r → G (f t q) r) {s : β} (hs : I s) : ∀ r ∈ l, G (l.foldl f s) r := by
  suffices H : ∀ (l' : List α) (s : β), l' ⊆ l → I s → ∀ r ∈ l, (G s r ∨ r ∈ l') → G (l'.foldl f s) r from
    fun r hr => H l s (List.Subset.refl _) hs r hr (.inr hr)
  intro l'
  induction l' with
  | nil => intro s _ _ r _ h; simpa using h
  | cons q l' ih =>
    intro s hsub hs r hr h
    obtain ⟨hq, hsub⟩ := List.cons_subset.1 hsub
    refine ih (f s q) hsub (hI s q hq hs) r hr ?_
    rcases h with h | h
    · exact .inl (hkeep s q hq r hr hs h)
    · rcases List.mem_cons.1 h with rfl | h
      · exact .inl (hself s r hr hs)
      · exact .inr h

theorem mem_addKey_iff {k j : Nat} {l : List Nat} : j ∈ addKey k l ↔ j = k ∨ j ∈ l := by
  induction l with
  | nil => simp [addKey]
  | cons x l ih =>
    unfold addKey
    split
    · simp
    · split
      next hk => simp [hk]
      next => simp only [List.mem_cons, ih]; tauto

theorem mem_dropKey_iff {k j : Nat} {l : List Nat} : j ∈ dropKey k l ↔ j ∈ l ∧ j ≠ k := by
  simp [dropKey]

/-- Every region keeps what `p` reads of it. -/
structure State.FieldKept {α : Type} (p : Region → α) (s t : State) : Prop where
  region : ∀ r, p (t.rgn r) = p (s.rgn r)
  wf : t.RegWf

section FieldKept
variable {α : Type} {p : Region → α} {o s t : State}

theorem State.FieldKept.refl (hwf : s.RegWf) : State.FieldKept p s s := ⟨fun _ => rfl, hwf⟩

theorem State.FieldKept.of_reg (h : State.FieldKept p o s) (hreg : t.reg = s.reg) : State.FieldKept p o t :=
  ⟨fun r => by rw [State.rgn_congr hreg, h.region r], by rw [State.RegWf, hreg]; exact h.wf⟩

/-- A step that leaves the regions. -/
theorem State.FieldKept.step {gs : List Group} (h : State.FieldKept p o s) (k : Keeps gs s t) (hreg : Group.reg ∉ gs) :
    State.FieldKept p o t := h.of_reg (k.only.same .reg hreg)

theorem State.FieldKept.core (hp : ∀ g h : Region, g.core = h.core → p g = p h) (h : State.FieldKept p o s) (k : State.CoreKept s t) :
    State.FieldKept p o t := ⟨fun r => (hp _ _ (k.region r)).trans (h.region r), k.wf⟩

theorem State.FieldKept.modRgn (h : State.FieldKept p o s) (r : RegionNo) {f : Region → Region} (hf : ∀ g, p (f g) = p g) :
    State.FieldKept p o (s.modRgn r f) := by
  refine ⟨fun k => ?_, s.modRgn_wf r f h.wf⟩
  rcases Decidable.em (k = r) with rfl | hk
  · rw [s.rgn_modRgn k f h.wf, hf, h.region]
  · rw [s.rgn_modRgn_ne f hk, h.region]

theorem State.FieldKept.foldl {β : Type} {f : State → β → State} (l : List β) (hf : ∀ t, ∀ x ∈ l, State.FieldKept p o t → State.FieldKept p o (f t x))
    (h : State.FieldKept p o s) : State.FieldKept p o (l.foldl f s) :=
  List.foldlRecOn l f h fun t ht x hx => hf t x hx ht

theorem State.FieldKept.ite {c : Prop} [Decidable c] (hs : State.FieldKept p o s) (ht : State.FieldKept p o t) :
    State.FieldKept p o (if c then s else t) := by
  split
  · exact hs
  · exact ht

theorem State.FieldKept.modRgns (h : State.FieldKept p o s) (rs : List RegionNo) {f : RegionNo → Region → Region}
    (hf : ∀ r g, p (f r g) = p g) : State.FieldKept p o (s.modRgns rs f) :=
  .foldl _ (fun _ r _ ht => ht.modRgn r (hf r)) h

end FieldKept

end Sys2Proof.Machine
end

section
/-! SUPPORT. The joint reset of a stored crossing, and its return to WHOLE (R203, R213). -/
namespace Sys2Proof.Machine
open Sys2Proof.Safety

/-- The words that a joint reset loses in a crossing. -/
def State.resetLost (s : State) (id : Nat) : Nat :=
  match xStruct id with
  | .queue => s.xEntries id
  | .held => if (s.xing id).rst1 then s.xEntries id else 0
  | _ => 0

theorem State.xDrop_x (s : State) (n : Nat) : (s.xDrop n).xg.x = s.xg.x := rfl

theorem State.xing_xDrop (s : State) (n i : Nat) : (s.xDrop n).xing i = s.xing i := rfl

theorem State.resetContents_of_ne_lane (s : State) {id : Nat} (hclass : xClass id ≠ 9) : ∃ (u : State) (n : Nat), u.xg.x = s.xg.x ∧
    s.resetContents id = (u.modXing id fun x => { x with
      e2 := x.e1, fill := 0, drop := sat16 x.drop n, rst1 := false, rst2 := false, tornAt := none }).xDrop n := by
  unfold State.resetContents
  rw [if_neg hclass]
  dsimp only
  refine ⟨_, s.resetLost id, ?_, rfl⟩
  split_ifs <;> rfl

theorem State.xing_resetContents (s : State) {id : Nat} (hclass : xClass id ≠ 9) (hwf : Map.wf {} s.xg.x = true) :
    ∃ n, (s.resetContents id).xing id = { s.xing id with
      e2 := (s.xing id).e1, fill := 0, drop := n, rst1 := false, rst2 := false, tornAt := none } := by
  obtain ⟨u, n, hu, heq⟩ := s.resetContents_of_ne_lane hclass
  refine ⟨sat16 (s.xing id).drop n, ?_⟩
  have hx : u.xing id = s.xing id := State.xing_congr hu id
  rw [heq, State.xing_xDrop, u.xing_modXing id _ (hu ▸ hwf), hx]

theorem State.xing_resetContents_ne (s : State) {id i : Nat} (hclass : xClass id ≠ 9) (hi : i ≠ id) :
    (s.resetContents id).xing i = s.xing i := by
  obtain ⟨u, n, hu, heq⟩ := s.resetContents_of_ne_lane hclass
  rw [heq, State.xing_xDrop, u.xing_modXing_ne _ hi, State.xing_congr hu i]

theorem State.resetContents_wf (s : State) {id : Nat} (hclass : xClass id ≠ 9) (hwf : Map.wf {} s.xg.x = true) :
    Map.wf {} (s.resetContents id).xg.x = true := by
  obtain ⟨u, n, hu, heq⟩ := s.resetContents_of_ne_lane hclass
  rw [heq]
  rw [State.xDrop_x]
  exact State.modXing_wf id _ (hu ▸ hwf)

theorem State.whole_x (s : State) {id : Nat} (hclass : xClass id ≠ 9) :
    (s.whole id).xg.x = (s.modXing id fun x => { x with st := .whole, stale := false, lost := false }).xg.x := by
  unfold State.whole
  rw [if_neg hclass]
  dsimp only
  split_ifs <;> first | rfl | (unfold State.modCtrl; split <;> rfl)

theorem State.xing_whole (s : State) {id : Nat} (hclass : xClass id ≠ 9) (hwf : Map.wf {} s.xg.x = true) :
    (s.whole id).xing id = { s.xing id with st := .whole, stale := false, lost := false } :=
  (State.xing_congr (s.whole_x hclass) id).trans (s.xing_modXing id _ hwf)

theorem State.xing_whole_ne (s : State) {id i : Nat} (hclass : xClass id ≠ 9) (hi : i ≠ id) : (s.whole id).xing i = s.xing i :=
  (State.xing_congr (s.whole_x hclass) i).trans (s.xing_modXing_ne _ hi)

theorem State.whole_wf (s : State) {id : Nat} (hclass : xClass id ≠ 9) (hwf : Map.wf {} s.xg.x = true) :
    Map.wf {} (s.whole id).xg.x = true := by
  rw [s.whole_x hclass]
  exact State.modXing_wf id _ hwf

end Sys2Proof.Machine
end

section
/-! SUPPORT. Signs of life and a rejoin (R379, R380, Table 13-5). -/
namespace Sys2Proof.Machine
open Sys2Proof.Safety

/-! ### Signs of life through fences and releases -/

/-- A region's sign of life. -/
def Region.life (g : Region) : Bool := g.hb.life

theorem Region.life_congr (g h : Region) (hcore : g.core = h.core) : g.life = h.life :=
  congrArg RgnHb.life (congrArg Region.hb hcore :)

section
variable {o s : State} (h : State.FieldKept Region.life o s)
include h

theorem State.FieldKept.fence (id : Nat) : State.FieldKept Region.life o (s.fence id) :=
  h.core Region.life_congr ((State.CoreKept.refl h.wf).fence id)

theorem State.FieldKept.fenceAll (ids : List Nat) : State.FieldKept Region.life o (s.fenceAll ids) :=
  h.core Region.life_congr ((State.CoreKept.refl h.wf).fenceAll ids)

theorem State.FieldKept.resetContents (id : Nat) : State.FieldKept Region.life o (s.resetContents id) := by
  have hbase (n : Nat) : State.FieldKept Region.life o (if n = 0 then s
      else if xClass id = 5 then s.modRgn (xInst id) fun g => { g with former := { g.former with lane := [] } }
      else if xClass id = 6 then { s with xg := { s.xg with fq := Map.put [] s.xg.fq (fqKey id) [] } }
      else if xClass id = 4 then s.modRgn (xInst id) fun g => { g with msgs := [], msgWait := [] }
      else s) :=
    .ite h (.ite (h.modRgn _ (by exact fun _ => rfl)) (.ite (h.of_reg rfl) (.ite (h.modRgn _ (by exact fun _ => rfl)) h)))
  unfold State.resetContents
  exact .ite (h.of_reg rfl) ((hbase (s.resetLost id)).of_reg rfl)

theorem State.FieldKept.modCtrl (one : Bool) (f : Ctrl → Ctrl) : State.FieldKept Region.life o (s.modCtrl one f) :=
  h.step (Keeps.modCtrl_keeps (List.Subset.refl _) (Keeps.refl s) one f) (by decide)

theorem State.FieldKept.whole (id : Nat) : State.FieldKept Region.life o (s.whole id) := by
  unfold State.whole
  have hx : State.FieldKept Region.life o (s.modXing id fun x => { x with st := .whole, stale := false, lost := false }) := h.of_reg rfl
  refine .ite (h.of_reg rfl) (.ite (hx.of_reg rfl) (.ite ?_ (.ite ?_ (.ite (hx.modCtrl _ _) hx))))
  · exact hx.modRgn _ fun _ => rfl
  · exact hx.modRgn _ fun _ => rfl

theorem State.FieldKept.laneResult (r : RegionNo) (k dlane : Nat) : State.FieldKept Region.life o (s.laneResult r k dlane) :=
  h.step (Keeps.laneResult_keeps (List.Subset.refl _) (Keeps.refl s) r k dlane) (by decide)

theorem State.FieldKept.modOp (i : Nat) (f : LongOp → LongOp) : State.FieldKept Region.life o (s.modOp i f) := h.of_reg rfl

theorem State.FieldKept.releaseEnd (scope : ReleaseScope) (rs : List RegionNo) : State.FieldKept Region.life o (s.releaseEnd scope rs) := by
  unfold State.releaseEnd
  refine State.FieldKept.step ?_ (Keeps.endRelease_keeps (List.Subset.refl _) (Keeps.refl _) scope .completed stOk) (by decide)
  refine .foldl _ (fun t e _ ht => by split; exacts [ht.modOp _ _, ht]) ?_
  have hwhole := State.FieldKept.foldl (((s.releaseSet scope rs).filter s.xClocked).filter fun id => decide (xClass id ≠ 9))
    (fun t id _ ht => ht.whole id) (h.modRgns rs (f := fun _ g => { g with wsDue := true }) fun _ _ => rfl)
  split
  · exact hwhole
  · exact hwhole.step (Keeps.raise_keeps (List.Subset.refl _) (Keeps.refl _) _ _) (by decide)

theorem State.FieldKept.releaseRegions (scope : ReleaseScope) (rs : List RegionNo) (dl : List (RegionNo × Nat × Nat)) :
    State.FieldKept Region.life o (s.releaseRegions scope rs dl) := by
  unfold State.releaseRegions
  dsimp only
  have hreset := State.FieldKept.foldl ((s.releaseSet scope rs).filter s.xClocked)
    (f := fun s id =>
      if xClass id = 9 then
        match dl.find? fun e => decide (e.1 = xInst id ∧ e.2.1 = xLink id) with
        | some e => (s.resetContents id).laneResult (xInst id) (xLink id) e.2.2
        | none => (s.resetContents id).whole id
      else s.resetContents id)
    (fun t id _ ht => .ite (by split; exacts [(ht.resetContents id).laneResult _ _ _, (ht.resetContents id).whole id]) (ht.resetContents id))
    (h.fenceAll ((s.releaseSet scope rs).filter fun id => !s.xClocked id))
  refine .ite (.foldl _ (fun t e _ ht => by split; exacts [ht.modOp _ _, ht]) ?_) (hreset.releaseEnd scope rs)
  exact (hreset.fenceAll _).of_reg rfl

end

/-! ### The commands -/

theorem exec_signOfLife {r : RegionNo} {s : State} (hclocked : s.clocked r = true) (hlost : (s.dieAt (siteOf r)).st = .lost) :
    exec (.signOfLife r) s = .next (s.modRgn r fun g => { g with hb := { g.hb with life := true } }) := if_pos ⟨hclocked, hlost⟩

theorem exec_rejoin_lost {site : Site} {fuse : Option Bytes} {terms : List (RouteTerm × Nat)} {dlanes : List (RegionNo × Nat × Nat)}
    {s : State} (hfw : s.fw = true) (hattach : (s.dieAt site).attach ≠ 2) (hst : (s.dieAt site).st = .lost)
    (hjoin : (s.dieAt site).joinAt = none) (hfails : (s.dieAt site).fails < 3) (hsigned : (s.dieAt site).signed = true) :
    exec (.rejoin site fuse terms dlanes) s = .next (s.rejoinStep1 site) := by
  have hrun : exec (.rejoin site fuse terms dlanes) s = execRejoin site fuse s terms dlanes := rfl
  rw [hrun]
  unfold execRejoin
  dsimp only
  rw [if_neg (by simp [hfw, hattach]), if_pos (by simp [hst, hjoin]), if_pos ⟨hfails, hsigned⟩]

theorem exec_rejoin_rejoining {site : Site} (fuse : Option Bytes) (terms : List (RouteTerm × Nat)) (dlanes : List (RegionNo × Nat × Nat))
    {a : Nat} {s : State} (hfw : s.fw = true) (hattach : (s.dieAt site).attach ≠ 2) (hst : (s.dieAt site).st = .rejoining)
    (hjoin : (s.dieAt site).joinAt = some a) : exec (.rejoin site fuse terms dlanes) s = .next (s.rejoinEnd site a fuse terms dlanes) := by
  have hrun : exec (.rejoin site fuse terms dlanes) s = execRejoin site fuse s terms dlanes := rfl
  rw [hrun]
  unfold execRejoin
  dsimp only
  rw [if_neg (by simp [hfw, hattach]), if_neg (by simp [hst]), hst, hjoin]

theorem exec_rejoinStep2Timeout {site : Site} {a : Nat} {s : State} (hst : (s.dieAt site).st = .lost)
    (hjoin : (s.dieAt site).joinAt = some a) (hpast : a + 16384 ≤ s.now) :
    exec (.rejoinStep2Timeout site) s = .next (s.rejoinFail site) := by
  have hrun : exec (.rejoinStep2Timeout site) s = execRejoinStep2Timeout site s := rfl
  rw [hrun]
  unfold execRejoinStep2Timeout
  dsimp only
  rw [hjoin]
  exact if_pos ⟨hst, hpast⟩

/-! ### Step 1 -/

/-- The joint resets of heartbeat crossings. -/
def State.heartbeatsReset (s : State) (l : List RegionNo) : State :=
  l.foldl (fun s r => (s.resetContents (xId 8 r)).whole (xId 8 r)) s

theorem State.heartbeatsReset_keeps (s : State) (l : List RegionNo) : Keeps [.ctl, .reg, .ls, .xg] s (s.heartbeatsReset l) :=
  Keeps.foldl (fun _ _ ht => Keeps.whole_keeps (by decide) (Keeps.resetContents_keeps (by decide) ht _) _) (Keeps.refl s)

/-- Each of the heartbeat crossings is WHOLE with equal epoch bits. -/
theorem State.xing_heartbeatsReset {s : State} (hwf : Map.wf {} s.xg.x = true) {l : List RegionNo} (hl : ∀ q : Nat, q ∈ l → q < 65536) :
    ∀ r ∈ l, ((s.heartbeatsReset l).xing (xId 8 r)).st = .whole ∧
      ((s.heartbeatsReset l).xing (xId 8 r)).e2 = (s.xing (xId 8 r)).e1 := by
  have hlong {q : Nat} (hq : q ∈ l) : q < 2 ^ 28 := lt_trans (hl q hq) (by decide)
  have hclass {q : Nat} (hq : q ∈ l) : xClass (xId 8 q) ≠ 9 := by rw [xClass_xId (hlong hq)]; decide
  refine foldl_establishes (I := fun t : State => Map.wf {} t.xg.x = true ∧ ∀ i, (t.xing i).e1 = (s.xing i).e1)
    (G := fun (t : State) r => (t.xing (xId 8 r)).st = .whole ∧ (t.xing (xId 8 r)).e2 = (s.xing (xId 8 r)).e1)
    (fun t q hq ht => ?_) (fun t q hq ht => ?_) (fun t q hq r hr ht hgood => ?_) ⟨hwf, fun _ => rfl⟩
  · obtain ⟨htwf, hsame⟩ := ht
    have hreset := t.resetContents_wf (hclass hq) htwf
    refine ⟨State.whole_wf _ (hclass hq) hreset, fun i => ?_⟩
    rcases Decidable.em (i = xId 8 q) with rfl | hi
    · obtain ⟨n, hx⟩ := t.xing_resetContents (hclass hq) htwf
      rw [State.xing_whole _ (hclass hq) hreset, hx]
      exact hsame _
    · rw [State.xing_whole_ne _ (hclass hq) hi, t.xing_resetContents_ne (hclass hq) hi, hsame]
  · obtain ⟨htwf, hsame⟩ := ht
    obtain ⟨n, hx⟩ := t.xing_resetContents (hclass hq) htwf
    rw [State.xing_whole _ (hclass hq) (t.resetContents_wf (hclass hq) htwf), hx]
    exact ⟨rfl, hsame _⟩
  · obtain ⟨htwf, hsame⟩ := ht
    rcases Decidable.em (r = q) with rfl | hne
    · obtain ⟨n, hx⟩ := t.xing_resetContents (hclass hq) htwf
      rw [State.xing_whole _ (hclass hq) (t.resetContents_wf (hclass hq) htwf), hx]
      exact ⟨rfl, hsame _⟩
    · have hid : xId 8 r ≠ xId 8 q := fun h => hne (xId_inj (hlong hr) (hlong hq) h).2
      rw [State.xing_whole_ne _ (hclass hq) hid, t.xing_resetContents_ne (hclass hq) hid]
      exact hgood

theorem State.rejoinStep1_of_clocked {s : State} {site : Nat} (hclocked : ∀ r ∈ s.liveRegions site, s.clocked r = true) :
    s.rejoinStep1 site = (s.heartbeatsReset (s.liveRegions site)).modDie site fun d =>
      { d with joinAt := some (s.heartbeatsReset (s.liveRegions site)).now, checks := 0 } := by
  unfold State.rejoinStep1
  dsimp only
  rw [if_neg (by simpa using hclocked)]
  rfl

/-! ### The last steps -/

theorem State.rejoinEnd_early {s : State} {site a : Nat} {fuse : Option Bytes} {terms : List (RouteTerm × Nat)}
    (dlanes : List (RegionNo × Nat × Nat)) (h : s.now < fuseRead fuse a ∨ s.sameDie site fuse = true ∧ s.now < rejoinMeasured fuse a ∨
      s.sameDie site fuse = true ∧ ∃ k ∈ s.rejoinKeys site, ∀ e ∈ terms, RouteTerm.key e.1 ≠ k) :
    s.rejoinEnd site a fuse terms dlanes = s := by
  unfold State.rejoinEnd
  split
  · rfl
  next hread =>
    rcases h with h | ⟨hsame, h⟩ | ⟨hsame, k, hk, hmissing⟩
    · exact absurd h hread
    · rw [if_neg (by simp [hsame]), if_pos h]
    · have hkeys : ((s.rejoinKeys site).all fun k => terms.any fun e => decide (RouteTerm.key e.1 = k)) = false := by
        refine List.all_eq_false.2 ⟨k, hk, ?_⟩
        simpa using fun a b hab => hmissing (a, b) hab
      rw [if_neg (by simp [hsame]), hkeys, if_pos (c := (!false) = true) rfl, ite_self]

theorem State.rejoinEnd_mismatch {s : State} {site a : Nat} {fuse : Option Bytes} (terms : List (RouteTerm × Nat))
    (dlanes : List (RegionNo × Nat × Nat)) (hread : fuseRead fuse a ≤ s.now) (hsame : s.sameDie site fuse = false) :
    s.rejoinEnd site a fuse terms dlanes =
      s.dieMismatch site ((fuse.map fun bs => byteAt bs 2).getD 0) ((fuse.map fuseSerial).getD 0) := by
  unfold State.rejoinEnd
  rw [if_neg (by omega), if_pos (by simp [hsame])]

/-- The die as a rejoin that has succeeded leaves it. -/
def Die.rejoined (d : Die) (checks : Nat) : Die :=
  { d with st := .running, lostAt := none, lostLong := false, joinAt := none, checks := 0, signed := false, fails := 0, armed := some checks }

/-- The terms that the rejoin has measured, taken. -/
def State.takeTerms (s : State) (site : Nat) (terms : List (RouteTerm × Nat)) : State :=
  (terms.filter fun e => s.rejoinTerm site e.1).foldl (fun s e =>
    let s := s.putTerm (RouteTerm.key e.1) e.2
    if e.1.kind = 0 then s.noteTemp site e.1.index else s) s

/-- Regions due for calibration. -/
def State.callCal (s : State) (rs : List RegionNo) : State :=
  rs.foldl (fun s r => (s.modRgn r fun g => { g with cal := { g.cal with dueDrift := true } }).calSync r) s

/-- The calls that waited for the site, and those for its failed parts. -/
def State.callsOf (s : State) (site : Nat) : State :=
  let calls := (s.site site).waiting
  let s := s.modSite site fun x => { x with waiting := [] }
  let s := calls.foldl (fun s e => s.callRoute site e.1 e.2.1 e.2.2) s
  if s.autoSpare then
    (List.range 4).foldl (fun s q =>
      ((s.site site).down.filter fun e => decide (e.2.2 = q)).foldl
        (fun s e => s.requestIns (insertion e.1 site e.2.1 q none false false 1)) s) s
  else s

theorem State.rejoinEnd_same {s : State} {site a : Nat} {fuse : Option Bytes} {terms : List (RouteTerm × Nat)}
    (dlanes : List (RegionNo × Nat × Nat)) (hread : fuseRead fuse a ≤ s.now) (hmeasured : rejoinMeasured fuse a ≤ s.now)
    (hsame : s.sameDie site fuse = true) (hkeys : ∀ k ∈ s.rejoinKeys site, ∃ e ∈ terms, RouteTerm.key e.1 = k)
    (hproves : ∃ r ∈ s.liveRegions site, s.proves r = true) :
    s.rejoinEnd site a fuse terms dlanes =
      (((((((s.modDie site (·.rejoined s.die.checks)).modRgns (siteRegions site) fun _ g => { g with hb := { g.hb with life := false } }).takeTerms
        site terms).releaseRegions (.die (Fin.ofNat 23 site)) ((s.liveRegions site).filter s.proves) dlanes).raise evDieRejoined site).mlbClear
          (.lostLong site)).callCal ((s.liveRegions site).filter s.proves)).callsOf site := by
  have hall : ((s.rejoinKeys site).all fun k => terms.any fun e => decide (RouteTerm.key e.1 = k)) = true := by
    simpa using hkeys
  have hsome : ((s.liveRegions site).filter s.proves).isEmpty = false := by
    obtain ⟨r, hr, hp⟩ := hproves
    exact List.isEmpty_eq_false_iff_exists_mem.2 ⟨r, List.mem_filter.2 ⟨hr, hp⟩⟩
  unfold State.rejoinEnd
  rw [if_neg (by omega), if_neg (by simp [hsame]), if_neg (by omega), if_neg (by simp [hall])]
  dsimp only
  rw [if_neg (by simp [hsome])]
  rfl

theorem State.callsOf_keeps (s : State) (site : Nat) : Keeps [.mbx, .opt] s (s.callsOf site) := by
  have hcalls := Keeps.foldl (f := fun s e => State.callRoute s site e.1 e.2.1 e.2.2) (l := (s.site site).waiting)
    (fun t e ht => Keeps.callRoute_keeps (List.Subset.refl _) ht site e.1 e.2.1 e.2.2)
    (Keeps.modSite_keeps (gs := [.mbx, .opt]) (by decide) (Keeps.refl s) site fun x => { x with waiting := [] })
  unfold State.callsOf
  exact .ite (.foldl (fun t q ht => .foldl (fun u e hu => Keeps.requestIns_keeps (List.Subset.refl _) hu _) ht) hcalls) hcalls

theorem State.callCal_keeps (s : State) (rs : List RegionNo) : Keeps [.reg, .cal] s (s.callCal rs) :=
  Keeps.foldl (fun _ r ht => Keeps.calSync_keeps (List.Subset.refl _) (Keeps.modRgn_keeps (by decide) ht r _) r) (Keeps.refl s)

theorem State.takeTerms_keeps (s : State) (site : Nat) (terms : List (RouteTerm × Nat)) : Keeps [.opt] s (s.takeTerms site terms) :=
  Keeps.foldl (fun _ _ ht => .ite (Keeps.noteTemp_keeps (List.Subset.refl _) (Keeps.putTerm_keeps (List.Subset.refl _) ht _ _) _ _)
    (Keeps.putTerm_keeps (List.Subset.refl _) ht _ _)) (Keeps.refl s)

/-- What a look at what calls for a region's calibration leaves of the region, and what of the list of those that are due. -/
theorem State.calSync_spec {s : State} (r : RegionNo) (hwf : s.RegWf) :
    (s.calSync r).RegWf ∧ ((s.calSync r).rgn r).cal.dueDrift = (s.rgn r).cal.dueDrift ∧
      ((s.calSync r).rgn r).hb = (s.rgn r).hb ∧ ((s.rgn r).cal.dueDrift = true → r ∈ (s.calSync r).cal.due) ∧
      ∀ q, q ≠ r → q ∈ s.cal.due → q ∈ (s.calSync r).cal.due := by
  have hlast (t : State) (c : Prop) [Decidable c] (f : Region → Region) (hreg : t.RegWf) (hdrift : ∀ g, (f g).cal.dueDrift = g.cal.dueDrift)
      (hhb : ∀ g, (f g).hb = g.hb) : (if c then t else t.modRgn r f).RegWf ∧
        ((if c then t else t.modRgn r f).rgn r).cal.dueDrift = (t.rgn r).cal.dueDrift ∧
        ((if c then t else t.modRgn r f).rgn r).hb = (t.rgn r).hb ∧ (if c then t else t.modRgn r f).cal = t.cal := by
    split
    · exact ⟨hreg, rfl, rfl, rfl⟩
    · rw [t.rgn_modRgn r f hreg]
      exact ⟨t.modRgn_wf r f hreg, hdrift _, hhb _, rfl⟩
  unfold State.calSync
  dsimp only
  generalize hs1 : s.modRgn r _ = s1
  have hwf1 : s1.RegWf := hs1 ▸ s.modRgn_wf r _ hwf
  have hdrift1 : (s1.rgn r).cal.dueDrift = (s.rgn r).cal.dueDrift := by rw [← hs1, s.rgn_modRgn r _ hwf]
  have hhb1 : (s1.rgn r).hb = (s.rgn r).hb := by rw [← hs1, s.rgn_modRgn r _ hwf]
  have hdue1 : s1.cal.due = s.cal.due := by rw [← hs1]; rfl
  generalize hdue : (if ((s1.rgn r).cal.dueDrift || (s1.rgn r).cal.dueAge || (s1.rgn r).cal.dueReq) = true then addKey r s1.cal.due
    else dropKey r s1.cal.due) = due
  have hfinal (u : State) (h : u.RegWf ∧ (u.rgn r).cal.dueDrift = (s1.rgn r).cal.dueDrift ∧ (u.rgn r).hb = (s1.rgn r).hb ∧
      u.cal = { s1.cal with due := due }) : u.RegWf ∧ (u.rgn r).cal.dueDrift = (s.rgn r).cal.dueDrift ∧ (u.rgn r).hb = (s.rgn r).hb ∧
        ((s.rgn r).cal.dueDrift = true → r ∈ u.cal.due) ∧ ∀ q, q ≠ r → q ∈ s.cal.due → q ∈ u.cal.due := by
    obtain ⟨hwf2, hdrift2, hhb2, hcal2⟩ := h
    refine ⟨hwf2, hdrift2.trans hdrift1, hhb2.trans hhb1, fun hdrift => ?_, fun q hq hmem => ?_⟩
    · rw [hcal2, ← hdue, hdrift1, hdrift]
      exact mem_addKey_iff.2 (.inl rfl)
    · rw [hcal2, ← hdue]
      split
      · exact mem_addKey_iff.2 (.inr (hdue1 ▸ hmem))
      · exact mem_dropKey_iff.2 ⟨hdue1 ▸ hmem, hq⟩
  exact hfinal _ (hlast { s1 with cal := { s1.cal with due := due } } _ _ hwf1 (by exact fun _ => rfl) (by exact fun _ => rfl))

/-- A region called for is due, and stays so while others are called for. -/
theorem State.callCal_spec {s : State} (hwf : s.RegWf) (rs : List RegionNo) : State.FieldKept Region.life s (s.callCal rs) ∧
    ∀ r ∈ rs, ((s.callCal rs).rgn r).cal.dueDrift = true ∧ r ∈ (s.callCal rs).cal.due := by
  have hmod (t : State) (q : RegionNo) (ht : t.RegWf) := t.modRgn_wf q (fun g => { g with cal := { g.cal with dueDrift := true } }) ht
  constructor
  · refine .foldl rs (fun t q _ ht => ?_) (.refl hwf)
    have hcalled := ht.modRgn q (f := fun g => { g with cal := { g.cal with dueDrift := true } }) fun _ => rfl
    refine ⟨fun r => ?_, (State.calSync_spec q hcalled.wf).1⟩
    rcases Decidable.em (r = q) with rfl | hr
    · rw [Region.life, (State.calSync_spec r hcalled.wf).2.2.1]
      exact hcalled.region r
    · rw [State.rgn_calSync_ne _ hr]
      exact hcalled.region r
  · refine foldl_establishes (I := State.RegWf) (G := fun (t : State) r => (t.rgn r).cal.dueDrift = true ∧ r ∈ t.cal.due)
      (fun t q _ ht => (State.calSync_spec q (hmod t q ht)).1) (fun t q _ ht => ?_) (fun t q _ r _ ht hgood => ?_) hwf
    · obtain ⟨_, hdrift, _, hdue, _⟩ := State.calSync_spec q (hmod t q ht)
      rw [t.rgn_modRgn q _ ht] at hdrift hdue
      exact ⟨hdrift, hdue rfl⟩
    · obtain ⟨_, hdrift, _, hdue, hothers⟩ := State.calSync_spec q (hmod t q ht)
      rw [t.rgn_modRgn q _ ht] at hdrift hdue
      rcases Decidable.em (r = q) with rfl | hr
      · exact ⟨hdrift, hdue rfl⟩
      · refine ⟨?_, hothers r hr hgood.2⟩
        rw [State.rgn_calSync_ne _ hr, t.rgn_modRgn_ne _ hr]
        exact hgood.1

theorem State.modRgns_life {s : State} (hwf : s.RegWf) {rs : List RegionNo} {r : RegionNo} (hr : r ∈ rs) :
    ((s.modRgns rs fun _ g => { g with hb := { g.hb with life := false } }).rgn r).life = false :=
  State.rgn_foldl_of_mem (F := fun s r => s.modRgn r fun g => { g with hb := { g.hb with life := false } })
    (P := fun g => g.life = false) (fun t _ _ hk => t.rgn_modRgn_ne _ hk) (fun t q ht => by rw [t.rgn_modRgn q _ ht]; rfl)
    (fun t q ht => t.modRgn_wf q _ ht) hr hwf

theorem State.dieMismatch_dieAt {s : State} {site : Nat} (type serial : Nat) (i : Nat) : (s.dieMismatch site type serial).dieAt i =
    (s.modDie site fun d => { d with
      st := .mismatch, type := type, serial := BitVec.ofNat 64 serial, joinAt := none, checks := 0
      ungated := false, bootPath := false, logicReset := true, armed := none }).dieAt i :=
  State.dieAt_congr ((Keeps.mlbSet_keeps (gs := [.ev, .sys, .mbx]) (by decide) (Keeps.raise_keeps (by decide) (Keeps.refl _) _ _) _).only.same
    .die (by decide)) i

/-- A failed attempt before it is told: the die LOST again, its failure counted, and its heartbeat crossings fenced. -/
def State.rejoinFenced (s : State) (site : Nat) : State :=
  ((s.rejoinDrop site).modDie site fun d => { d with fails := d.fails + 1 }).fenceAll ((siteRegions site).map (xId 8))

theorem State.rejoinFenced_keeps (s : State) (site : Nat) : Keeps [.reg, .ls, .xg, .die] s (s.rejoinFenced site) :=
  Keeps.fenceAll_keeps (by decide) (Keeps.modDie_keeps (by decide) (Keeps.rejoinDrop_keeps (by decide) (Keeps.refl s) site) site _) _

/-- The die of a failed attempt. -/
def Die.failed (d : Die) : Die := { d with st := .lost, joinAt := none, checks := 0, signed := false, fails := d.fails + 1 }

/-- A rejoin abandoned by a site that is LOST. -/
theorem State.rejoinDrop_of_lost {s : State} (hwf : s.RegWf) {site : Nat} (hsite : site < 23) (hst : (s.dieAt site).st = .lost) :
    (s.rejoinDrop site).RegWf ∧ (s.rejoinDrop site).dieAt site = { s.dieAt site with joinAt := none, checks := 0, signed := false } ∧
      ∀ r ∈ siteRegions site, ((s.rejoinDrop site).rgn r).life = false := by
  unfold State.rejoinDrop
  dsimp only
  rw [if_pos (.inr hst)]
  generalize hs1 : s.modDie site _ = s1
  have hwf1 : s1.RegWf := hs1 ▸ hwf
  have hdie := State.dieAt_congr ((Keeps.modRgns_keeps (List.Subset.refl _) (Keeps.refl s1) (siteRegions site) fun _ g =>
    { g with hb := { g.hb with life := false } }).only.same .die (by decide)) site
  refine ⟨State.foldl_wf (F := fun s r => s.modRgn r fun g => { g with hb := { g.hb with life := false } })
    (fun t q ht => t.modRgn_wf q _ ht) _ hwf1, ?_, fun r hr => State.modRgns_life hwf1 hr⟩
  rw [hdie, ← hs1, s.dieAt_modDie _ hsite]
  simp [hst]

theorem State.rejoinFenced_spec {s : State} (hwf : s.RegWf) {site : Nat} (hsite : site < 23) (hst : (s.dieAt site).st = .lost) :
    (s.rejoinFenced site).dieAt site = (s.dieAt site).failed ∧ (∀ i, i ≠ site → (s.rejoinFenced site).dieAt i = s.dieAt i) ∧
      ∀ r ∈ siteRegions site, ((s.rejoinFenced site).rgn r).hb.life = false := by
  obtain ⟨hwf1, hdie1, hlife1⟩ := State.rejoinDrop_of_lost hwf hsite hst
  have hothers1 (i : Nat) (hi : i ≠ site) := s.rejoinDrop_dieAt hi
  unfold State.rejoinFenced
  generalize s.rejoinDrop site = s1 at *
  have hdie (i : Nat) := State.dieAt_congr ((Keeps.fenceAll_keeps (List.Subset.refl _)
    (Keeps.refl (s1.modDie site fun d => { d with fails := d.fails + 1 })) ((siteRegions site).map (xId 8))).only.same .die (by decide)) i
  have hfenced : State.FieldKept Region.life s1 ((s1.modDie site fun d => { d with fails := d.fails + 1 }).fenceAll
      ((siteRegions site).map (xId 8))) := ((State.FieldKept.refl hwf1).step (Keeps.modDie_keeps (List.Subset.refl _) (Keeps.refl s1) site
        fun d => { d with fails := d.fails + 1 }) (by decide)).fenceAll _
  refine ⟨?_, fun i hi => ?_, fun r hr => (hfenced.region r).trans (hlife1 r hr)⟩
  · rw [hdie, s1.dieAt_modDie _ hsite, hdie1, Die.failed, hst]
  · rw [hdie, s1.dieAt_modDie_of_ne _ hi, hothers1 i hi]

theorem State.rejoinFail_of_lost {s : State} (hwf : s.RegWf) {site : Nat} (hsite : site < 23) (hst : (s.dieAt site).st = .lost) :
    s.rejoinFail site = if 3 ≤ (s.dieAt site).fails + 1 then ((s.rejoinFenced site).raise evRejoinFail site).mlbSet (.rejoinFail site)
      else (s.rejoinFenced site).raise evRejoinFail site := by
  have hdie : (((s.rejoinFenced site).raise evRejoinFail site).dieAt site).fails = (s.dieAt site).fails + 1 := by
    rw [State.dieAt_congr ((Keeps.raise_keeps (List.Subset.refl _) (Keeps.refl (s.rejoinFenced site)) evRejoinFail site).only.same .die
      (by decide)), (State.rejoinFenced_spec hwf hsite hst).1, Die.failed]
  have hfail : s.rejoinFail site = if 3 ≤ (((s.rejoinFenced site).raise evRejoinFail site).dieAt site).fails
      then ((s.rejoinFenced site).raise evRejoinFail site).mlbSet (.rejoinFail site)
      else (s.rejoinFenced site).raise evRejoinFail site := rfl
  rw [hfail, hdie]

/-- Settles O21, by the equations of a rejoin's steps. -/
theorem diesRejoin : Obligations.DiesRejoin := by
  refine ⟨fun r s hreg hclocked hlost => ?life, fun site fuse terms dlanes s hreg hfw hattach hst hjoin hfails hsigned hclocked => ?step1,
    fun site fuse terms dlanes a s hfw hattach hst hjoin hearly => ?early,
    fun site fuse terms dlanes a s hreg hfw hattach hst hjoin hread hmeasured hsame hkeys hproves => ?same,
    fun site fuse terms dlanes a s hfw hattach hst hjoin hread hother => ?other, fun site a s hreg hst hjoin hpast => ?fail⟩
  case life =>
    have hrun := exec_signOfLife hclocked hlost
    exact ⟨_, hrun, s.rgn_modRgn _ _ hreg.regions, fun _ h => s.rgn_modRgn_ne _ h, exec_only hrun⟩
  case step1 =>
    have hrun := exec_rejoin_lost (fuse := fuse) (terms := terms) (dlanes := dlanes) hfw hattach hst hjoin hfails hsigned
    rw [State.rejoinStep1_of_clocked hclocked] at hrun
    have honly := (s.heartbeatsReset_keeps (s.liveRegions site)).only
    have hdie (i : Nat) := State.dieAt_congr (honly.same .die (by decide)) i
    have hsys : (s.heartbeatsReset (s.liveRegions site)).sys = s.sys := honly.same .sys (by decide)
    have hev : (s.heartbeatsReset (s.liveRegions site)).ev = s.ev := honly.same .ev (by decide)
    have hlt : ∀ q : Nat, q ∈ s.liveRegions site → q < 65536 := fun q hq =>
      lt_of_siteOf_lt (by rw [siteOf_of_mem_siteRegions (List.mem_filter.1 hq).1]; exact site.isLt)
    refine ⟨_, hrun, ?_, fun i hi => ?_, State.xing_heartbeatsReset hreg.crossings hlt, hev, hsys⟩
    · rw [State.dieAt_modDie _ _ site.isLt, hdie, State.now, hsys]
    · rw [State.dieAt_modDie_of_ne _ _ hi, hdie]
  case early =>
    rw [exec_rejoin_rejoining fuse terms dlanes hfw hattach hst hjoin, State.rejoinEnd_early dlanes hearly]
  case same =>
    have hrun := exec_rejoin_rejoining fuse terms dlanes hfw hattach hst hjoin
    rw [State.rejoinEnd_same dlanes hread hmeasured hsame hkeys hproves] at hrun
    generalize hrs : (s.liveRegions site).filter s.proves = rs at hrun
    generalize hs1 : s.modDie site (·.rejoined s.die.checks) = s1 at hrun
    generalize hs2 : (s1.modRgns (siteRegions site) fun _ g => { g with hb := { g.hb with life := false } }) = s2 at hrun
    generalize hs3 : ((s2.takeTerms site terms).releaseRegions (.die (Fin.ofNat 23 site)) rs dlanes).raise evDieRejoined site = s3 at hrun
    have hwf1 : s1.RegWf := hs1 ▸ hreg.regions
    have hk2 : Keeps [.reg] s1 s2 := hs2 ▸ Keeps.modRgns_keeps (by decide) (Keeps.refl s1) _ _
    have hk3 : Keeps [.opt, .ctl, .mbx, .reg, .ls, .xg, .ev] s2 s3 := hs3 ▸ Keeps.raise_keeps (by decide)
      (Keeps.releaseRegions_keeps (by decide) ((s2.takeTerms_keeps site terms).mono (by decide)) _ rs dlanes) _ _
    have hk4 : Keeps [.mbx, .opt, .reg, .cal] (s3.mlbClear (.lostLong site)) (((s3.mlbClear (.lostLong site)).callCal rs).callsOf site) :=
      ((State.callCal_keeps _ rs).mono (by decide)).trans ((State.callsOf_keeps _ site).mono (by decide))
    have hwf2 : s2.RegWf := hs2 ▸ State.foldl_wf (F := fun s r => s.modRgn r fun g => { g with hb := { g.hb with life := false } })
      (fun t q ht => t.modRgn_wf q _ ht) _ hwf1
    have hlife3 : State.FieldKept Region.life s2 s3 := hs3 ▸ State.FieldKept.step
      (((State.FieldKept.refl hwf2).step (s2.takeTerms_keeps site terms) (by decide)).releaseRegions _ rs dlanes)
      (Keeps.raise_keeps (List.Subset.refl _) (Keeps.refl _) _ _) (by decide)
    have hlife4 : State.FieldKept Region.life s2 (s3.mlbClear (.lostLong site)) := hlife3.of_reg rfl
    obtain ⟨hlife5, hdue⟩ := State.callCal_spec hlife4.wf rs
    have hreg5 : _ = ((s3.mlbClear (.lostLong site)).callCal rs).reg := (State.callsOf_keeps _ site).only.same .reg (by decide)
    have hcal5 : _ = ((s3.mlbClear (.lostLong site)).callCal rs).cal := (State.callsOf_keeps _ site).only.same .cal (by decide)
    have hdie : ∀ i, _ = s1.dieAt i := fun i => (State.dieAt_congr (hk4.only.same .die (by decide)) i).trans
      ((State.dieAt_congr (hk3.only.same .die (by decide)) i).trans (State.dieAt_congr (hk2.only.same .die (by decide)) i))
    have hsys3 : s3.sys = s.sys := (hk3.only.same .sys (by decide) :).trans ((hk2.only.same .sys (by decide) :).trans (hs1 ▸ rfl))
    have hsys : _ = (s3.mlbClear (.lostLong site)).sys := hk4.only.same .sys (by decide)
    refine ⟨_, hrun, ?_, fun r hr hp => ⟨?_, ?_, ?_⟩, fun i hi => ?_, ?_, fun c hc hmem => ?_⟩
    · rw [hdie, ← hs1, s.dieAt_modDie _ site.isLt]
      rfl
    · rw [State.rgn_congr hreg5]
      exact (hdue r (hrs ▸ List.mem_filter.2 ⟨hr, hp⟩)).1
    · rw [hcal5]
      exact (hdue r (hrs ▸ List.mem_filter.2 ⟨hr, hp⟩)).2
    · rw [State.rgn_congr hreg5]
      refine (hlife5.region r).trans ((hlife4.region r).trans ?_)
      rw [← hs2]
      exact State.modRgns_life hwf1 (List.mem_filter.1 hr).1
    · rw [hdie, ← hs1, s.dieAt_modDie_of_ne _ hi]
    · rw [hsys]
      simp [State.mlbClear]
    · rw [hsys]
      simp [State.mlbClear, hsys3, hc, hmem]
  case other =>
    have hrun := exec_rejoin_rejoining fuse terms dlanes hfw hattach hst hjoin
    rw [State.rejoinEnd_mismatch terms dlanes hread hother] at hrun
    refine ⟨_, hrun, ?_, ?_, ?_, ?_, ?_, fun i hi => ?_, State.mem_mlbSet _ _,
      (Keeps.dieMismatch_keeps (List.Subset.refl _) (Keeps.refl s) site _ _).only⟩
    · rw [State.dieMismatch_dieAt, s.dieAt_modDie _ site.isLt]
    · rw [State.dieMismatch_dieAt, s.dieAt_modDie _ site.isLt]
    · rw [State.dieMismatch_dieAt, s.dieAt_modDie _ site.isLt]
    · rw [State.dieMismatch_dieAt, s.dieAt_modDie _ site.isLt]
    · rw [State.dieMismatch_dieAt, s.dieAt_modDie _ site.isLt]
    · rw [State.dieMismatch_dieAt, s.dieAt_modDie_of_ne _ hi]
  case fail =>
    have hrun := exec_rejoinStep2Timeout hst hjoin hpast
    rw [State.rejoinFail_of_lost hreg.regions site.isLt hst] at hrun
    have hk1 := s.rejoinFenced_keeps site
    obtain ⟨hdie, hothers, hlife⟩ := s.rejoinFenced_spec hreg.regions site.isLt hst
    generalize s.rejoinFenced site = s1 at hrun hk1 hdie hothers hlife
    have hk2 : Keeps [.ev, .sys, .mbx] s1 (if 3 ≤ (s.dieAt site).fails + 1 then (s1.raise evRejoinFail site).mlbSet (.rejoinFail site)
        else s1.raise evRejoinFail site) :=
      .ite (Keeps.mlbSet_keeps (by decide) (Keeps.raise_keeps (by decide) (Keeps.refl s1) _ _) _) (Keeps.raise_keeps (by decide) (Keeps.refl s1) _ _)
    have hdie2 (i : Nat) := State.dieAt_congr (hk2.only.same .die (by decide)) i
    have hreg2 (r : RegionNo) := State.rgn_congr (hk2.only.same .reg (by decide)) r
    have hsys1 : s1.sys = s.sys := hk1.only.same .sys (by decide)
    have hev1 : (s1.raise evRejoinFail site).ev = (s.raise evRejoinFail site).ev :=
      State.raise_ev_congr _ _ (by rw [hsys1]) (by rw [hsys1]) (hk1.only.same .ev (by decide))
    refine ⟨_, hrun, ?_, ?_, ?_, fun i hi => ?_, fun r hr => ?_, ?_, fun htwo => ?_, exec_only hrun⟩
    · rw [hdie2, hdie]
      rfl
    · rw [hdie2, hdie]
      rfl
    · rw [hdie2, hdie]
      rfl
    · rw [hdie2, hothers i hi]
    · rw [hreg2]
      exact hlife r hr
    · split
      · rw [State.mlbSet_ev, hev1]
      · exact hev1
    · rw [if_pos (by omega)]
      exact State.mem_mlbSet _ _

end Sys2Proof.Machine
end

section
/-! SUPPORT. Foreign side dies: discovery, polls and losses (R399-R401), and DIE_QUERY (R381). -/
namespace Sys2Proof.Machine
open Sys2Proof.Safety

/-- Two changes of a vector's entry are one. -/
theorem vmod_vmod_same {α : Type} {n : Nat} (v : Vector α n) (i : Nat) (f g : α → α) : vmod (vmod v i f) i g = vmod v i fun x => g (f x) := by
  unfold vmod
  split <;> simp

theorem State.modDie_congr {s : State} {i : Nat} {f g : Die → Die} (h : f (s.dieAt i) = g (s.dieAt i)) : s.modDie i f = s.modDie i g := by
  unfold State.modDie
  rw [vmod_congr (v := s.die.d) (i := i) h]

theorem State.modDie_modDie (s : State) (i : Nat) (f g : Die → Die) : (s.modDie i f).modDie i g = s.modDie i fun d => g (f d) := by
  simp only [State.modDie, vmod_vmod_same]

/-- The link speed that the capabilities of a side die lead to. -/
def linkSpeed (c : UcieCaps) : Nat := if c.gt32 then 32 else 16

theorem State.discovered_answering {s : State} {site : Nat} {c : UcieCaps} (hattach : (s.dieAt site).attach ≠ 1)
    (hspeed : c.gt16 = true ∨ c.gt32 = true) : s.discovered site (some c) =
      if (s.dieAt site).st = .absent
        then (s.modDie site fun d => { d with st := .running, attach := 2, speed := linkSpeed c, polls := 0 }).calSite site
        else (s.modDie site fun d => { d with st := .running, attach := 2, speed := linkSpeed c, polls := 0 }).raiseIf
          (decide ((s.dieAt site).st = .rejoining)) evDieRejoined site := by
  have hsome : ¬ ((!c.gt16) = true ∧ (!c.gt32) = true) := by
    rcases hspeed with h | h <;> simp [h]
  unfold State.discovered
  dsimp only
  rw [if_neg hsome, if_neg hattach]
  rfl

theorem State.discovered_neither {s : State} {site : Nat} {c : UcieCaps} (h16 : c.gt16 = false) (h32 : c.gt32 = false) :
    s.discovered site (some c) = ((s.modDie site fun d => { d with st := .mismatch, attach := if d.attach = 1 then 1 else 2 }).raise
      evUcieUnsupported site).mlbSet (.census site) := by
  unfold State.discovered
  exact if_pos ⟨by simp [h16], by simp [h32]⟩

theorem exec_discoveryRetry (site : Site) (caps : Option UcieCaps) (s : State) : exec (.discoveryRetry site caps) s =
    if s.sys.epoch ∧ 19 ≤ site.val ∧ (s.dieAt site).st = .absent ∧ s.retryDue site
      then .next (s.discovered site (if s.sideband site then caps else none)) else .next s := rfl

theorem exec_ucieDiscovery (site : Site) (caps : Option UcieCaps) (s : State) : exec (.ucieDiscovery site caps) s =
    if !s.sys.epoch ∨ site.val < 19 then .next s
    else if (s.dieAt site).st = .census ∨ (s.dieAt site).st = .rejoining ∧ (s.dieAt site).attach = 2 ∧ s.retryDue site ∨
        (s.dieAt site).st = .running ∧ (s.dieAt site).speed = 0 then
      .next (s.discovered site (if s.sideband site then caps else none))
    else .next s := rfl

theorem exec_ucieDiscovery_rejoining {site : Site} (c : UcieCaps) {s : State} (hepoch : s.sys.epoch = true) (hside : 19 ≤ site.val)
    (hst : (s.dieAt site).st = .rejoining) (hattach : (s.dieAt site).attach = 2) (hdue : s.retryDue site = true)
    (hband : s.sideband site = true) : exec (.ucieDiscovery site (some c)) s = .next (s.discovered site (some c)) := by
  rw [exec_ucieDiscovery, if_neg (by simp [hepoch]; omega), if_pos (.inr (.inl ⟨hst, hattach, hdue⟩)), if_pos hband]

theorem exec_foreignDiePoll (site : Site) (answered : Bool) (s : State) : exec (.foreignDiePoll site answered) s =
    if (s.dieAt site).attach ≠ 2 ∨ !s.pollDue site then .next s
    else if answered && s.sideband site then
      .next (s.modDie site fun d => { d with polledAt := some s.now, polls := 0, st := if d.st = .lost then .rejoining else d.st })
    else if (s.dieAt site).st = .running ∧ 2 ≤ (s.dieAt site).polls then
      .next ((s.modDie site fun d => { d with polledAt := some s.now, st := .lost, polls := 0 }).raise evSideLost site)
    else .next (s.modDie site fun d =>
      { d with polledAt := some s.now, polls := min 3 (d.polls + 1), st := if d.st = .rejoining then .lost else d.st }) := by
  have hrun : exec (.foreignDiePoll site answered) s = execForeignDiePoll site answered s := rfl
  rw [hrun]
  simp only [execForeignDiePoll, State.sideLost, State.modDie_modDie]

/-- Settles O22, by the equations of discovery and polls. -/
theorem sideDies : Obligations.SideDies := by
  refine ⟨fun site c s hepoch hside hst hattach hdue hband hspeed => ?found, fun site c s hepoch hside hst hattach hdue hband hspeed => ?rejoined,
    fun site c s hepoch hside hst hattach hdue hband h16 h32 => ?unsupported, fun site s hattach hst hdue hpolls => ?third,
    fun site s hattach hst hdue hpolls => ?unanswered, fun site s hattach hst hdue hband => ?answered,
    fun site answered a s hpolled hearly => ?early, fun site caps s hband => ?torn, fun site s hattach hst => ?down,
    fun q s hready htgt => ?query, fun q s hready htgt => ?bad⟩
  case found =>
    have hrun := exec_discoveryRetry site (some c) s
    rw [if_pos ⟨hepoch, hside, hst, hdue⟩, if_pos hband, State.discovered_answering hattach hspeed, if_pos hst] at hrun
    have hdie (i : Nat) := State.dieAt_congr ((Keeps.calSite_keeps (List.Subset.refl _)
      (Keeps.refl (s.modDie site fun d => { d with st := .running, attach := 2, speed := linkSpeed c, polls := 0 })) site).only.same .die
        (by decide)) i
    refine ⟨_, hrun, ?_, fun i hi => ?_, exec_only hrun⟩
    · rw [hdie, s.dieAt_modDie _ site.isLt]
      rfl
    · rw [hdie, s.dieAt_modDie_of_ne _ hi]
  case rejoined =>
    have hrun := exec_ucieDiscovery_rejoining c hepoch hside hst hattach hdue hband
    rw [State.discovered_answering (by omega) hspeed, if_neg (by simp [hst]), hst, State.raiseIf, if_pos (decide_eq_true rfl)] at hrun
    have hraise := Keeps.raise_keeps (List.Subset.refl _)
      (Keeps.refl (s.modDie site fun d => { d with st := .running, attach := 2, speed := linkSpeed c, polls := 0 })) evDieRejoined site
    refine ⟨_, hrun, ?_, fun i hi => ?_, State.raise_ev_congr _ _ rfl rfl rfl,
      ((Keeps.modDie_keeps (by decide) (Keeps.refl s) site _).trans (hraise.mono (by decide))).only⟩
    · refine (State.dieAt_congr (hraise.only.same .die (by decide)) site).trans ?_
      rw [s.dieAt_modDie _ site.isLt, ← hattach]
      rfl
    · exact (State.dieAt_congr (hraise.only.same .die (by decide)) i).trans (s.dieAt_modDie_of_ne _ hi)
  case unsupported =>
    have hrun := exec_ucieDiscovery_rejoining c hepoch hside hst hattach hdue hband
    rw [State.discovered_neither h16 h32] at hrun
    have hraise := Keeps.raise_keeps (gs := [.ev, .sys, .mbx]) (by decide)
      (Keeps.refl (s.modDie site fun d => { d with st := .mismatch, attach := if d.attach = 1 then 1 else 2 })) evUcieUnsupported site
    have hset := Keeps.mlbSet_keeps (by decide) hraise (.census site)
    refine ⟨_, hrun, ?_, ?_, State.mem_mlbSet _ _, ((Keeps.modDie_keeps (by decide) (Keeps.refl s) site _).trans (hset.mono (by decide))).only⟩
    · refine (State.dieAt_congr (hset.only.same .die (by decide)) site).trans ?_
      rw [s.dieAt_modDie _ site.isLt, hattach, if_neg (by decide), ← hattach]
    · rw [State.mlbSet_ev]
      exact State.raise_ev_congr _ _ rfl rfl rfl
  case third => rw [exec_foreignDiePoll, if_neg (by simp [hattach, hdue]), if_neg (by simp), if_pos ⟨hst, hpolls⟩]
  case unanswered =>
    rw [exec_foreignDiePoll, if_neg (by simp [hattach, hdue]), if_neg (by simp), if_neg (by omega)]
    refine congrArg _ (State.modDie_congr ?_)
    simp only [hst, reduceCtorEq, if_false, Die.mk.injEq, true_and, and_true]
    omega
  case answered =>
    rw [exec_foreignDiePoll, if_neg (by simp [hattach, hdue]), if_pos (by simp [hband])]
    exact congrArg _ (State.modDie_congr (by simp [hst]))
  case early =>
    have hdue : s.pollDue site = false := by simpa [State.pollDue, hpolled] using hearly
    rw [exec_foreignDiePoll, if_pos (.inr (by simp [hdue]))]
  case torn =>
    refine ⟨?_, ?_, ?_⟩
    · rw [exec_foreignDiePoll, exec_foreignDiePoll, hband]
      rfl
    · simp only [exec_discoveryRetry, hband, Bool.false_eq_true, if_false]
    · simp only [exec_ucieDiscovery, hband, Bool.false_eq_true, if_false]
  case down =>
    have hrun : exec (.sidebandLinkDown site) s = execSidebandLinkDown site s := rfl
    rw [hrun, execSidebandLinkDown]
    simp only [hattach, hst]
    rfl
  case query =>
    refine congrArg Host.Outcome.next (State.submit_done (by decide) hready ?_)
    rw [cmdDieQuery, siteTarget, if_pos htgt]
    rfl
  case bad =>
    refine congrArg Host.Outcome.next (State.submit_done (by decide) hready ?_)
    rw [cmdDieQuery, siteTarget, if_neg (by omega)]
    rfl

end Sys2Proof.Machine
end

section
/-! SUPPORT. Answers to one mailbox seen from another. -/
namespace Sys2Proof.Machine
open Sys2Proof.Safety

theorem State.complete_of_working {s : State} {m : Fin 8} (r : Reply) (h : (s.box m).st = .working) : s.complete m r = s.answer m r :=
  if_pos h

theorem State.box_complete_ne (s : State) {m n : Fin 8} (r : Reply) (h : n ≠ m) : (s.complete m r).box n = s.box n := by
  unfold State.complete
  split
  · exact s.box_answer_ne r h
  · rfl

theorem State.box_congr {s t : State} (h : t.mbx.box = s.mbx.box) (m : Fin 8) : t.box m = s.box m := by
  rw [State.box, h, State.box]

/-- A mailbox that waits for nothing is not answered. -/
theorem State.box_answerAll_of_wait_none (s : State) {n : Fin 8} (p : Wait → Bool) (r : Reply) (h : (s.box n).wait = none) :
    (s.answerAll p r).box n = s.box n := by
  have hstep (t : State) (m : Fin 8) (ht : t.box n = s.box n) :
      (match (t.box m).wait with
        | some w => if p w then t.complete m r else t
        | none => t).box n = s.box n := by
    split
    next w hw =>
      split
      · have hne : n ≠ m := by
          rintro rfl
          rw [ht, h] at hw
          simp at hw
        rw [t.box_complete_ne r hne, ht]
      · exact ht
    · exact ht
  exact List.foldlRecOn (motive := fun t : State => t.box n = s.box n) (List.finRange 8) _ rfl fun t ht m _ => hstep t m ht

/-- A found waiter waits, and is at work. -/
theorem State.findWait_spec {s : State} {p : Wait → Bool} {m : Fin 8} (h : s.findWait p = some m) :
    (s.box m).st = .working ∧ ∃ w, (s.box m).wait = some w ∧ p w = true := by
  have hm := List.find?_some h
  simp only [Bool.and_eq_true, decide_eq_true_eq] at hm
  obtain ⟨hst, hw⟩ := hm
  refine ⟨hst, ?_⟩
  split at hw
  next w heq => exact ⟨w, heq, hw⟩
  · simp at hw

theorem State.anchor_congr {s t : State} (h : t.et = s.et) (i : Nat) : t.anchor i = s.anchor i := by
  rw [State.anchor, h, State.anchor]

end Sys2Proof.Machine
end

section
/-! SUPPORT. Erg time, ledger, anchors and conversions read (R110, R128-R132, R136). -/
namespace Sys2Proof.Machine
open Sys2Proof.Safety

/-! ### The walks over an anchor's records -/

theorem ergWalk_nil (a : Anchor) (c : Int) :
    ergWalk a c a.start [] = ⟨c, a.baseErg + (c - a.baseCycle) * a.baseTg, 0, 0, false, false⟩ := by
  simp [ergWalk, Anchor.start]

theorem bits_low16 {len : Nat} (h : len < 65536) : bits (BitVec.ofNat 48 len).toNat 15 0 = len := by
  simp only [bits, BitVec.toNat_ofNat]
  omega

/-- One STRETCH record lengthens its periods by its sixteenths of the nominal. -/
theorem ergWalk_stretch (a : Anchor) (c k : Int) (p v len : Nat) (r : BitVec 16) (cy : BitVec 48) (hlen : len < 65536)
    (hk : a.baseCycle ≤ k) :
    (ergWalk a c a.start [⟨p, k, ⟨r, 1, v, cy, BitVec.ofNat 48 len⟩⟩]).start =
        a.baseErg + (c - a.baseCycle) * a.baseTg + min (max (c - k) 0) len * (4 * a.baseN * v) ∧
      (ergWalk a c a.start [⟨p, k, ⟨r, 1, v, cy, BitVec.ofNat 48 len⟩⟩]).inexact = false := by
  simp only [ergWalk, Anchor.start, Walk.to, bits_low16 hlen]
  rcases lt_trichotomy c k with hlt | heq | hgt
  · rw [if_pos hlt]
    have hmin : min (max (c - k) 0) (len : Int) = 0 := by omega
    refine ⟨?_, rfl⟩
    rw [hmin]
    ring
  · subst heq
    have hmin : min (max (c - c) 0) (len : Int) = 0 := by omega
    rw [if_neg (lt_irrefl c), if_neg (by decide), if_pos rfl, hmin]
    exact ⟨by ring, rfl⟩
  · have hmin : min (max (c - k) 0) (len : Int) = min (len : Int) (c - k) := by omega
    rw [if_neg (by omega), if_neg (by decide), if_neg (by omega), if_pos trivial, hmin]
    exact ⟨by ring, rfl⟩

theorem cycleWalk_nil {a : Anchor} {x : Int} (hx : (a.baseErg : Int) ≤ x) (htg : 0 < a.baseTg) :
    (cycleWalk a x a.start []).start ≤ x ∧ x < (cycleWalk a x a.start []).start + a.baseTg ∧
      (cycleWalk a x a.start []).start = a.baseErg + ((cycleWalk a x a.start []).cycle - a.baseCycle) * a.baseTg := by
  have hquot : tdiv (x - a.baseErg) a.baseTg = (x - a.baseErg) / a.baseTg := Int.tdiv_eq_ediv_of_nonneg (by omega)
  have hpos : (0 : Int) < a.baseTg := by omega
  have hlow := Int.ediv_mul_le (x - a.baseErg) hpos.ne'
  have hhigh := Int.lt_ediv_add_one_mul_self (x - a.baseErg) hpos
  simp only [cycleWalk, Anchor.start, hquot]
  generalize (x - (a.baseErg : Int)) / a.baseTg = d at *
  rw [add_mul, one_mul] at hhigh
  have hcycle : ((a.baseCycle : Int) + d - a.baseCycle) * a.baseTg = d * a.baseTg := by ring
  rw [hcycle]
  exact ⟨by linarith, by linarith, trivial⟩

/-! ### The commands -/

theorem State.touch_spec {s : State} (i : Nat) (hwf : Map.wf {} s.et.anchors = true) :
    (s.touch i).anchor i = { s.anchor i with lastUse := s.now } ∧ (∀ j, j ≠ i → (s.touch i).anchor j = s.anchor j) ∧
      Only [.et] s (s.touch i) :=
  ⟨s.anchor_modAnchor i _ hwf, fun _ h => s.anchor_modAnchor_ne _ h, (Keeps.touch_keeps (List.Subset.refl _) (Keeps.refl s) i).only⟩

/-- The operand of a conversion: Erg time in quanta, or a cycle. -/
def operandOf (q : Req) (tc : Bool) : Nat := if tc then q.le 16 8 * 32768 + q.le 24 2 / 2 else q.le 8 8

/-- The operand that a conversion does not name is 0. -/
def PlainConversion (q : Req) (tc : Bool) : Prop := (tc = false → zeroAt q.payload 16 16 = true) ∧ (tc = true → q.le 8 8 = 0)

/-- A conversion that passes the checks of its request, its anchor ACTIVE with a place left. -/
theorem cmdAnchorConvert_of_plain {q : Req} {i : Nat} {s : State} (hanchor : s.anchorOf q.tgt = some i) (hkind : q.u8 0 ≤ 1)
    (hstate : (s.anchor i).state = 2) (hbusy : (s.anchor i).busy < 8) (hplain : PlainConversion q (decide (q.u8 0 = 1))) :
    cmdAnchorConvert q s =
      match s.countBlock (s.anchor i).region, s.beforeBase i (decide (q.u8 0 = 1)) (operandOf q (decide (q.u8 0 = 1))) with
      | some st, _ => refuse (codeReply st) s
      | none, some off => refuse (badArg off) s
      | none, none =>
        let s := s.touch i
        let x := operandOf q (decide (q.u8 0 = 1))
        if s.settled i (decide (q.u8 0 = 1)) x then .done (s.convertNow i (decide (q.u8 0 = 1)) x).1 (s.convertNow i (decide (q.u8 0 = 1)) x).2
        else if s.awaitsTarget i (decide (q.u8 0 = 1)) x then
          .wait (.convert i (decide (q.u8 0 = 1)) x) (s.modAnchor i fun a => { a with busy := a.busy + 1 })
        else .done (s.convertAhead i (decide (q.u8 0 = 1)) x) s := by
  obtain ⟨hzero, hcycle⟩ := hplain
  simp only [cmdAnchorConvert, hanchor]
  generalize decide (q.u8 0 = 1) = tc at *
  rw [if_neg (by omega), if_neg (by rintro ⟨h, hz⟩; simp [hzero (by simpa using h)] at hz), if_neg (fun h => h.2 (hcycle h.1)),
    if_neg (by omega), if_neg (by omega)]
  rfl

/-- What an end of a waiting conversion does: its place is free, its answer on the mailbox, and the removal that waited for the last one
follows. -/
def State.endConversion (s : State) (m : Fin 8) (i : Nat) (r : Reply) : State :=
  ((s.modAnchor i fun a => { a with busy := a.busy - 1 }).complete m r).removeWaiting i

theorem exec_conversionSettled {m : Fin 8} {i x : Nat} {tc : Bool} {s : State} (hwait : (s.box m).wait = some (.convert i tc x)) :
    exec (.conversionSettled m) s =
      if (s.anchor i).based ∧ (s.beforeBase i tc x).isSome then .next (s.endConversion m i (badArg (if tc then 16 else 8)))
      else if s.settled i tc x then .next ((s.convertNow i tc x).2.endConversion m i (s.convertNow i tc x).1)
      else if s.awaitsTarget i tc x then .next s
      else .next (s.endConversion m i (s.convertAhead i tc x)) := by
  have hrun : exec (.conversionSettled m) s = execConversionSettled m s := rfl
  rw [hrun, execConversionSettled, hwait]
  rfl

theorem State.anchor_freeAnchor_ne (s : State) {i j : Nat} (h : j ≠ i) : (s.freeAnchor i).anchor j = s.anchor j := by
  refine Eq.trans ?_ (s.anchor_modAnchor_ne (fun a => { gen := a.gen + 1 }) h)
  rfl

theorem State.removeWaiting_spec {s : State} (i : Nat) {m : Fin 8} (hwait : (s.box m).wait = none) :
    (s.removeWaiting i).box m = s.box m ∧ (∀ j, j ≠ i → (s.removeWaiting i).anchor j = s.anchor j) ∧
      ((s.anchor i).busy ≠ 0 → s.removeWaiting i = s) := by
  unfold State.removeWaiting
  split
  next hbusy =>
    refine ⟨?_, ?_, fun h => absurd hbusy h⟩
    · split
      next n hfind =>
        obtain ⟨_, w, hw, _⟩ := State.findWait_spec hfind
        have hne : m ≠ n := by
          rintro rfl
          simp [hwait] at hw
        have hfree : ((s.freeAnchor i).complete n okReply).box m = s.box m :=
          (State.box_complete_ne _ _ hne).trans (State.box_congr rfl m)
        rw [State.box_answerAll_of_wait_none _ _ _ (by rw [hfree, hwait]), hfree]
      · rfl
    · intro j hj
      split
      next n hfind =>
        have hkeeps := Keeps.answerAll_keeps (List.Subset.refl _) (Keeps.complete_keeps (List.Subset.refl _) (Keeps.refl (s.freeAnchor i)) n okReply)
          (fun w => decide (w = .anchorRemove i)) badTarget
        exact (State.anchor_congr (hkeeps.only.same .et (by decide)) j).trans (s.anchor_freeAnchor_ne hj)
      · rfl
  next hbusy => exact ⟨rfl, fun _ _ => rfl, fun _ => rfl⟩

theorem State.endConversion_spec {s : State} {m : Fin 8} (i : Nat) (r : Reply) (hst : (s.box m).st = .working)
    (hwf : Map.wf {} s.et.anchors = true) : (s.endConversion m i r).box m = responded (s.box m) r ∧
      (∀ j, j ≠ i → (s.endConversion m i r).anchor j = s.anchor j) ∧
      (1 < (s.anchor i).busy → (s.endConversion m i r).anchor i = { s.anchor i with busy := (s.anchor i).busy - 1 }) := by
  unfold State.endConversion
  generalize hs1 : s.modAnchor i _ = s1
  have hbox1 : s1.box m = s.box m := hs1 ▸ rfl
  have hself : s1.anchor i = { s.anchor i with busy := (s.anchor i).busy - 1 } := by rw [← hs1, s.anchor_modAnchor i _ hwf]
  have hother (j : Nat) (hj : j ≠ i) : s1.anchor j = s.anchor j := by rw [← hs1, s.anchor_modAnchor_ne _ hj]
  rw [State.complete_of_working r (by rw [hbox1, hst])]
  have hanchor (j : Nat) : (s1.answer m r).anchor j = s1.anchor j :=
    State.anchor_congr ((s1.answer_only m r).same .et (by decide)) j
  obtain ⟨hbox, hothers, hkept⟩ := State.removeWaiting_spec (s := s1.answer m r) i (m := m) (by rw [State.box_answer]; rfl)
  refine ⟨?_, fun j hj => ?_, fun hbusy => ?_⟩
  · rw [hbox, State.box_answer, hbox1]
  · rw [hothers j hj, hanchor, hother j hj]
  · rw [hkept (by rw [hanchor, hself]; dsimp only; omega), hanchor, hself]

theorem State.convertNow_spec {s : State} (i : Nat) (tc : Bool) (x : Nat) (hwf : Map.wf {} s.et.anchors = true) :
    (∀ m, (s.convertNow i tc x).2.box m = s.box m) ∧ (∀ j, j ≠ i → (s.convertNow i tc x).2.anchor j = s.anchor j) ∧
      ((s.convertNow i tc x).2.anchor i).busy = (s.anchor i).busy ∧ Map.wf {} (s.convertNow i tc x).2.et.anchors = true := by
  refine ⟨fun _ => rfl, fun j hj => s.anchor_modAnchor_ne _ hj, ?_, Map.put_wf i _ hwf⟩
  exact (congrArg Anchor.busy (s.anchor_modAnchor i _ hwf) :)

/-- Settles O23, by the equations of the commands and by what the end of a waiting conversion does. -/
theorem ergLedgerAndConversions : Obligations.ErgLedgerAndConversions := by
  refine ⟨fun q s hready => ?erg, fun q s hready hstart hlow hhigh => ?ledger, fun q s hready hstart => ?ledgerStart,
    fun q s hready hstart hcount => ?ledgerCount, fun q i s hready hanchor hreg => ?query, fun q s hready hanchor => ?queryNone,
    fun q i s hready hanchor hkind hstate hbusy hblock hcycle herg => ?convert,
    fun q i st s hready hanchor hkind hstate hbusy hblock hcycle herg => ?blocked,
    fun m i x off tc s hreg hwait hst hbased hbefore => ?before, fun m i x tc s hreg hwait hst hbefore hsettled => ?settled,
    fun m i x tc s hwait hbefore hsettled hawaits => ?awaits, fun m i x tc s hreg hwait hst hbefore hsettled hawaits => ?ahead,
    fun a c s hrecords => ?ergNil, fun a c k p v len r cy s hlen hk hrecords => ?ergStretch, fun a x s hrecords hx htg => ?cycleNil⟩
  case erg => exact congrArg Host.Outcome.next (State.submit_done (by decide) hready rfl)
  case ledger =>
    refine congrArg Host.Outcome.next (State.submit_done (by decide) hready ?_)
    simp only [cmdLedgerRead]
    rw [if_neg (by simp only [ledgerSize]; omega), if_neg (by omega)]
    rfl
  case ledgerStart => exact congrArg Host.Outcome.next (State.submit_done (by decide) hready (if_pos hstart))
  case ledgerCount =>
    refine congrArg Host.Outcome.next (State.submit_done (by decide) hready ?_)
    simp only [cmdLedgerRead]
    rw [if_neg (by simp only [ledgerSize]; omega), if_pos hcount]
    rfl
  case query =>
    have hanchors : Map.wf {} (posted s 0x0404 q).et.anchors = true := hreg.anchors
    obtain ⟨hself, hother, honly⟩ := State.touch_spec (s := posted s 0x0404 q) i hanchors
    refine ⟨(posted s 0x0404 q).touch i, congrArg Host.Outcome.next (State.submit_done (by decide) hready ?_), hself, hother, ?_⟩
    · have hposted : (posted s 0x0404 q).anchorOf q.tgt = some i := hanchor
      rw [cmdAnchorQuery, hposted]
    · exact (Keeps.touch_keeps (by decide) (Keeps.modBox_keeps (by decide) (Keeps.refl s) q.mbx _) i).only
  case queryNone =>
    refine congrArg Host.Outcome.next (State.submit_done (by decide) hready ?_)
    have hposted : (posted s 0x0404 q).anchorOf q.tgt = none := hanchor
    rw [cmdAnchorQuery, hposted]
    rfl
  case convert =>
    have hcmd := cmdAnchorConvert_of_plain (s := posted s 0x0405 q) hanchor hkind hstate hbusy
      ⟨fun h => (hcycle h).1, fun h => (herg h).1⟩
    have hblock' : (posted s 0x0405 q).countBlock ((posted s 0x0405 q).anchor i).region = none := hblock
    have hbefore : (posted s 0x0405 q).beforeBase i (decide (q.u8 0 = 1)) (operandOf q (decide (q.u8 0 = 1))) = none := by
      simp only [State.beforeBase]
      split
      next h => exact if_neg (not_lt.2 (herg h).2)
      next h => exact if_neg (not_lt.2 (hcycle (by simpa using h)).2)
    rw [hblock', hbefore] at hcmd
    refine ⟨fun hsettled => ?_, fun hsettled hawaits => ?_, fun hsettled hawaits => ?_⟩
    · refine congrArg Host.Outcome.next (State.submit_done (by decide) hready (hcmd.trans ?_))
      exact if_pos hsettled
    · refine congrArg Host.Outcome.next (State.submit_wait (by decide) hready (hcmd.trans ?_))
      exact (if_neg (by rw [Bool.not_eq_true]; exact hsettled)).trans (if_pos hawaits)
    · refine congrArg Host.Outcome.next (State.submit_done (by decide) hready (hcmd.trans ?_))
      exact (if_neg (by rw [Bool.not_eq_true]; exact hsettled)).trans (if_neg (by rw [Bool.not_eq_true]; exact hawaits))
  case blocked =>
    have hzero : q.u8 0 ≠ 1 → zeroAt q.payload 16 16 = true := fun h => hcycle (by omega)
    have hcmd := cmdAnchorConvert_of_plain (s := posted s 0x0405 q) hanchor hkind hstate hbusy
      ⟨fun h => hzero (by simpa using h), fun h => herg (by simpa using h)⟩
    have hblock' : (posted s 0x0405 q).countBlock ((posted s 0x0405 q).anchor i).region = some st := hblock
    rw [hblock'] at hcmd
    exact congrArg Host.Outcome.next (State.submit_done (by decide) hready hcmd)
  case before =>
    have hrun := exec_conversionSettled hwait
    have hoff : (if tc then 16 else 8) = off := by
      simp only [State.beforeBase] at hbefore
      split_ifs at hbefore ⊢ <;> simpa using hbefore
    rw [if_pos ⟨hbased, by simp [hbefore]⟩, hoff] at hrun
    obtain ⟨hbox, hother, _⟩ := State.endConversion_spec i (badArg off) hst hreg.anchors
    exact ⟨_, hrun, by rw [hbox]; rfl, by rw [hbox]; rfl, hother, exec_only hrun⟩
  case settled =>
    have hrun := exec_conversionSettled hwait
    rw [if_neg (by simp [hbefore]), if_pos hsettled] at hrun
    obtain ⟨hboxes, hanchors, hbusy, hwf⟩ := State.convertNow_spec (s := s) i tc x hreg.anchors
    obtain ⟨hbox, hother, hself⟩ := State.endConversion_spec (m := m) i (s.convertNow i tc x).1 (by rw [hboxes, hst]) hwf
    rw [hboxes] at hbox
    refine ⟨_, hrun, by rw [hbox]; rfl, by rw [hbox]; rfl, by rw [hbox]; rfl, fun hmany => ?_, fun j hj => ?_, exec_only hrun⟩
    · rw [hself (by rw [hbusy]; exact hmany), hbusy]
    · rw [hother j hj, hanchors j hj]
  case awaits =>
    have hnot : ¬ ((s.anchor i).based = true ∧ (s.beforeBase i tc x).isSome = true) := by
      rcases hbefore with h | h <;> simp [h]
    rw [exec_conversionSettled hwait, if_neg hnot, if_neg (by simp [hsettled]), if_pos hawaits]
  case ahead =>
    have hnot : ¬ ((s.anchor i).based = true ∧ (s.beforeBase i tc x).isSome = true) := by
      rcases hbefore with h | h <;> simp [h]
    have hrun := exec_conversionSettled hwait
    rw [if_neg hnot, if_neg (by simp [hsettled]), if_neg (by simp [hawaits])] at hrun
    obtain ⟨hbox, _, _⟩ := State.endConversion_spec i (s.convertAhead i tc x) hst hreg.anchors
    exact ⟨_, hrun, by rw [hbox]; rfl, by rw [hbox]; rfl, exec_only hrun⟩
  case ergNil => rw [State.ergOf, hrecords, ergWalk_nil]
  case ergStretch =>
    rw [State.ergOf, hrecords]
    exact ergWalk_stretch a c k p v len _ cy hlen hk
  case cycleNil =>
    have hnat : ((x.toNat : Nat) : Int) = x := Int.toNat_of_nonneg (by omega)
    dsimp only
    rw [State.cycleOf, hrecords, hnat]
    exact cycleWalk_nil hx htg

end Sys2Proof.Machine
end

section
/-! SUPPORT. Captures that wait for a region (R127, R189, R190). -/
namespace Sys2Proof.Machine
open Sys2Proof.Safety

theorem orElse_eq_some {α : Type} {x : Option α} {f : Unit → Option α} {a : α} (h : x.orElse f = some a) : x = some a ∨ f () = some a := by
  cases x with
  | none => exact .inr h
  | some b => exact .inl h

theorem Region.mem_msgs_of_nextMsg {g : Region} {m : Msg} (h : g.nextMsg = some m) : m ∈ g.msgs := by
  rcases orElse_eq_some h with h | h
  · rcases orElse_eq_some h with h | h
    · exact List.mem_of_find?_eq_some h
    · exact List.mem_of_find?_eq_some h
  · exact List.mem_of_mem_head? h

theorem Region.awaits_iff (g : Region) (i : Nat) :
    g.awaits i = true ↔ i ∈ g.capture ∨ .capture i ∈ g.queued ∨ ∃ n, g.tx = some (.message (.capture i), n) := by
  simp only [Region.awaits, Bool.or_eq_true, List.contains_iff_mem, or_assoc]
  refine or_congr Iff.rfl (or_congr Iff.rfl ?_)
  split
  next j n heq => simp [heq]
  next hne =>
    simp only [Bool.false_eq_true, false_iff, not_exists]
    exact fun n h => hne i n h

theorem Region.awaits_putMsg (g : Region) (m : Msg) (i : Nat) : (g.putMsg m).awaits i = true ↔ g.awaits i = true ∨ m = .capture i := by
  have hqueued : (g.putMsg m).queued = g.queued ++ [m] := by
    unfold Region.putMsg Region.queued
    split
    next h => simp [List.isEmpty_iff.1 h.1]
    next => simp
  have hcapture : (g.putMsg m).capture = g.capture := by
    unfold Region.putMsg
    split <;> rfl
  have htx : (g.putMsg m).tx = g.tx := by
    unfold Region.putMsg
    split <;> rfl
  simp only [Region.awaits_iff, hqueued, hcapture, htx, List.mem_append, List.mem_singleton]
  tauto

theorem Region.refill_queued (g : Region) : g.refill.queued = g.queued := by
  unfold Region.refill Region.queued
  split
  next m ms hwait =>
    split
    · simp [hwait]
    · rfl
  · rfl

theorem Region.awaits_refill (g : Region) (i : Nat) : g.refill.awaits i = true ↔ g.awaits i = true := by
  have hrest : g.refill.capture = g.capture ∧ g.refill.tx = g.tx := by
    unfold Region.refill
    split
    · split <;> exact ⟨rfl, rfl⟩
    · exact ⟨rfl, rfl⟩
  simp only [Region.awaits_iff, g.refill_queued, hrest]

theorem Region.awaits_load4 (g : Region) (now i : Nat) : (g.load4 now).awaits i = true ↔ g.awaits i = true := by
  unfold Region.load4
  split
  next htx hsent =>
    simp only [Region.awaits_iff, htx, Region.queued]
    simp
  next m htx hsent hnext =>
    have hmem := Region.mem_msgs_of_nextMsg hnext
    rw [Region.awaits_refill]
    simp only [Region.awaits_iff, htx, Region.queued, List.mem_append]
    rcases Decidable.em (m = .capture i) with rfl | hm
    · simp [hmem]
    · simp [List.mem_erase_of_ne (Ne.symm hm), hm]
  · rfl

/-- A capture sent to a region is awaited there, and what was awaited before still is. -/
theorem State.awaits_sendMsg {s : State} (r : RegionNo) (m : Msg) (i : Nat) (hwf : s.RegWf) :
    ((s.sendMsg r m).rgn r).awaits i = true ↔ (s.rgn r).awaits i = true ∨ m = .capture i := by
  have hput : ((s.modRgn r fun g => g.putMsg m).rgn r).awaits i = true ↔ (s.rgn r).awaits i = true ∨ m = .capture i := by
    rw [s.rgn_modRgn r _ hwf, Region.awaits_putMsg]
  unfold State.sendMsg State.pump
  split
  · rw [State.rgn_modRgn _ r _ (s.modRgn_wf r _ hwf), Region.awaits_load4, hput]
  · exact hput

theorem State.sendMsg_wf {s : State} (r : RegionNo) (m : Msg) (hwf : s.RegWf) : (s.sendMsg r m).RegWf :=
  ((State.CoreKept.refl hwf).sendMsg r m).wf

theorem Region.awaits_uncapture (g : Region) (i : Nat) : (g.uncapture i).awaits i = false := by
  rw [← Bool.not_eq_true, Region.awaits_iff]
  simp only [Region.uncapture, Region.queued, List.mem_append, List.mem_filter, decide_not, Bool.not_eq_true', decide_eq_false_iff_not,
    not_true_eq_false, and_false, or_false, false_or, not_exists]
  intro n h
  split at h
  · split at h
    · simp at h
    next htx hj => simp_all
  next hne => exact hne _ _ h

end Sys2Proof.Machine
end

section
/-! SUPPORT. What the record former leaves (R118-R122), and anchors taken, seated and freed (R124-R128). -/
namespace Sys2Proof.Machine
open Sys2Proof.Safety

/-- The state of a crossing is read from the dies, the fabric's configuration, the pairing of regions, the lanes and its own entry. -/
theorem State.xState_congr {s t : State} (hdie : t.die = s.die) (hepoch : t.sys.epoch = s.sys.epoch) (hcfg : t.cfg = s.cfg)
    (hlane : t.xg.lane = s.xg.lane) (hpartner : ∀ r k, (t.rgn r).partner k = (s.rgn r).partner k) {id : Nat}
    (hst : (t.xing id).st = (s.xing id).st) : t.xState id = s.xState id := by
  have hend (r : RegionNo) (k : Nat) : t.linkEnd r k = s.linkEnd r k := by
    simp only [State.linkEnd, State.linksTo, hpartner, State.regionExists, State.dieAt, hdie] <;> rfl
  have hregions : t.xRegions id = s.xRegions id := by simp only [State.xRegions, hend, State.portRegion, hcfg]
  have hfenced (site : Nat) : t.siteFenced site = s.siteFenced site := by simp only [State.siteFenced, State.dieAt, hdie, hepoch]
  simp only [State.xState, hregions, hfenced, hst, State.laneAt, hlane, State.dieAt, hdie] <;> rfl

/-- What the record former of region r leaves in every state that it passes: other regions, the rest of its own, and every crossing's
state stay, and its lane only grows. -/
structure State.Forms (r : RegionNo) (s t : State) : Prop where
  others : ∀ k, k ≠ r → t.rgn k = s.rgn k
  region : { t.rgn r with former := (s.rgn r).former } = s.rgn r
  lane : ∀ e ∈ (s.rgn r).former.lane, e ∈ (t.rgn r).former.lane
  crossing : ∀ id, t.xState id = s.xState id
  et : { t.et with inexact := s.et.inexact } = s.et
  wf : t.RegWf
  xwf : Map.wf {} t.xg.x = true

section
variable {r : RegionNo} {o s : State}

theorem State.Forms.refl (hwf : s.RegWf) (hx : Map.wf {} s.xg.x = true) : State.Forms r s s :=
  ⟨fun _ _ => rfl, rfl, fun _ h => h, fun _ => rfl, rfl, hwf, hx⟩

theorem State.Forms.trans {t : State} (h : State.Forms r o s) (k : State.Forms r s t) : State.Forms r o t where
  others q hq := (k.others q hq).trans (h.others q hq)
  region := by
    calc { t.rgn r with former := (o.rgn r).former }
        = { ({ t.rgn r with former := (s.rgn r).former } : Region) with former := (o.rgn r).former } := rfl
      _ = o.rgn r := by rw [k.region, h.region]
  lane e he := k.lane e (h.lane e he)
  crossing id := (k.crossing id).trans (h.crossing id)
  et := by
    calc { t.et with inexact := o.et.inexact }
        = { ({ t.et with inexact := s.et.inexact } : Et) with inexact := o.et.inexact } := rfl
      _ = o.et := by rw [k.et, h.et]
  wf := k.wf
  xwf := k.xwf

theorem State.Forms.modFormer (h : State.Forms r o s) {f : Former → Former} (hf : ∀ x, ∀ e ∈ x.lane, e ∈ (f x).lane) :
    State.Forms r o (s.modFormer r f) := by
  have hpartner (q k : Nat) : ((s.modFormer r f).rgn q).partner k = (s.rgn q).partner k := by
    rcases Decidable.em (q = r) with rfl | hq
    · rw [State.modFormer, s.rgn_modRgn q _ h.wf]
      rfl
    · rw [State.modFormer, s.rgn_modRgn_ne _ hq]
  refine h.trans ⟨fun k hk => s.rgn_modRgn_ne _ hk, ?_, ?_, fun id => State.xState_congr (s := s) (t := s.modFormer r f) (id := id) rfl rfl rfl rfl hpartner rfl, rfl, s.modRgn_wf r _ h.wf, h.xwf⟩
  · rw [State.modFormer, s.rgn_modRgn r _ h.wf]
  · rw [State.modFormer, s.rgn_modRgn r _ h.wf]
    exact hf _

theorem State.Forms.push (h : State.Forms r o s) (e : LaneEntry) : State.Forms r o (s.push r e) := by
  unfold State.push
  split
  · exact h.modFormer (f := fun x => { x with lane := x.lane ++ [e] }) fun _ _ hy => List.mem_append_left _ hy
  · have hx := State.modXing_wf (s := s) (xId 5 r) (fun x => { x with drop := sat16 x.drop 1 }) h.xwf
    have hst (id : Nat) : ((s.modXing (xId 5 r) fun x => { x with drop := sat16 x.drop 1 }).xing id).st = (s.xing id).st := by
      rcases Decidable.em (id = xId 5 r) with rfl | hid
      · rw [s.xing_modXing _ _ h.xwf]
      · rw [s.xing_modXing_ne _ hid]
    refine h.trans ⟨fun _ _ => rfl, rfl, fun _ h => h, fun id => ?_, rfl, h.wf, hx⟩
    exact State.xState_congr (s := s) (t := (s.modXing (xId 5 r) fun x => { x with drop := sat16 x.drop 1 }).xDrop 1)
      rfl rfl rfl rfl (fun _ _ => rfl) (hst id)

theorem State.Forms.emit (h : State.Forms r o s) (kind aux cycle value : Nat) : State.Forms r o (s.emit r kind aux cycle value) := by
  unfold State.emit
  split
  · exact h.push _
  · exact h

theorem State.Forms.flushTarget (h : State.Forms r o s) : State.Forms r o (s.flushTarget r) := by
  unfold State.flushTarget
  split
  · exact (h.modFormer (by exact fun _ _ hy => hy)).emit _ _ _ _
  · exact h

theorem State.Forms.flushBefore (h : State.Forms r o s) (cycle : Nat) : State.Forms r o (s.flushBefore r cycle) := by
  unfold State.flushBefore
  split
  · split
    · exact h.flushTarget
    · exact h
  · exact h

theorem State.Forms.flushMark (h : State.Forms r o s) : State.Forms r o (s.flushMark r) := by
  unfold State.flushMark
  dsimp only
  split
  · exact List.foldlRecOn _ _ (h.modFormer (by exact fun _ _ hy => hy)) fun t ht e _ => (ht.flushBefore _).emit _ _ _ _
  · exact h

theorem State.Forms.raise (h : State.Forms r o s) (id arg : Nat) : State.Forms r o (s.raise id arg) := by
  unfold State.raise
  split
  · split
    · exact h.trans ⟨fun _ _ => rfl, rfl, fun _ h => h, fun _ => State.xState_congr rfl rfl rfl rfl (fun _ _ => rfl) rfl, rfl, h.wf, h.xwf⟩
    · exact h
  · exact h

theorem State.Forms.countInexact (h : State.Forms r o s) :
    State.Forms r o { s with et := { s.et with inexact := sat16 s.et.inexact 1 } } :=
  h.trans ⟨fun _ _ => rfl, rfl, fun _ h => h, fun _ => State.xState_congr rfl rfl rfl rfl (fun _ _ => rfl) rfl, rfl, h.wf, h.xwf⟩

theorem State.Forms.emitStretch (h : State.Forms r o s) (first v len : Nat) : State.Forms r o (s.emitStretch r first v len) := by
  unfold State.emitStretch
  split
  · refine ((h.modFormer (f := fun f => { f with anchored := true, cycle := first, len := len, sum := v * len }) fun _ _ hy => hy).countInexact).raise _ _
  · exact ((h.modFormer (by exact fun _ _ hy => hy)).flushTarget).emit _ _ _ _

theorem State.Forms.closeRun (h : State.Forms r o s) : State.Forms r o (s.closeRun r) := by
  unfold State.closeRun
  dsimp only
  split
  · exact ((h.modFormer (by exact fun _ _ hy => hy)).emitStretch _ _ _).flushMark
  · exact h

theorem State.Forms.closeWide (h : State.Forms r o s) (next : Nat) : State.Forms r o (s.closeWide r next) := by
  unfold State.closeWide
  dsimp only
  split
  · have hopen := h.modFormer (f := fun f => { f with cycle := next, len := 0, sum := 0 }) fun _ _ hy => hy
    split
    · exact (hopen.flushTarget.emit _ _ _ _).flushMark
    · exact hopen
  · exact h

theorem State.Forms.mark (h : State.Forms r o s) (kind aux cycle value : Nat) : State.Forms r o (s.mark r kind aux cycle value) :=
  (((h.closeRun).closeWide cycle).flushBefore cycle).emit _ _ _ _

theorem State.Forms.markTarget (h : State.Forms r o s) (aux cycle value : Nat) : State.Forms r o (s.markTarget r aux cycle value) := by
  unfold State.markTarget
  exact (((h.closeRun).closeWide cycle).flushBefore cycle).modFormer (by exact fun _ _ hy => hy)

end
end Sys2Proof.Machine

namespace Sys2Proof.Machine
open Sys2Proof.Safety

/-! ### Anchors are taken, seated and freed -/

theorem State.modAnchor_wf (s : State) (i : Nat) (f : Anchor → Anchor) (hwf : Map.wf {} s.et.anchors = true) :
    Map.wf {} (s.modAnchor i f).et.anchors = true := Map.put_wf _ _ hwf

theorem State.Forms.anchor {r : RegionNo} {s t : State} (h : State.Forms r s t) (i : Nat) : t.anchor i = s.anchor i := by
  have hanchors : t.et.anchors = s.et.anchors := (congrArg Et.anchors h.et :)
  rw [State.anchor, hanchors, State.anchor]

theorem State.Forms.field {α : Type} {r : RegionNo} {s t : State} (h : State.Forms r s t) (p : Region → α)
    (hp : ∀ g f, p { g with former := f } = p g) : p (t.rgn r) = p (s.rgn r) := by
  exact (hp (t.rgn r) (s.rgn r).former).symm.trans (congrArg p h.region)

/-- A record of a whole record lane is in the lane once it is written. -/
theorem State.mem_lane_mark {s : State} {r : RegionNo} (kind aux cycle value : Nat) (hwf : s.RegWf) (hx : Map.wf {} s.xg.x = true)
    (hfound : (s.rgn r).rep.found = true) (hwhole : s.xState (xId 5 r) = .whole) :
    LaneEntry.record (lrec r kind aux cycle value) ∈ ((s.mark r kind aux cycle value).rgn r).former.lane := by
  have hforms : State.Forms r s (((s.closeRun r).closeWide r cycle).flushBefore r cycle) :=
    (((State.Forms.refl hwf hx).closeRun).closeWide cycle).flushBefore cycle
  have hfound' := (hforms.field (fun g => g.rep.found) fun _ _ => rfl).trans hfound
  unfold State.mark State.emit State.push
  rw [if_pos hfound', if_pos ((hforms.crossing _).trans hwhole), State.rgn_modRgn _ r _ hforms.wf]
  exact List.mem_append_right _ (List.mem_singleton.2 rfl)

/-- A base's own TARGET record stands in the place of every other of its cycle (R118). -/
theorem State.target_markTarget_base {s : State} {r : RegionNo} (cycle value : Nat) (hwf : s.RegWf) (hx : Map.wf {} s.xg.x = true) :
    ((s.markTarget r 4 cycle value).rgn r).former.target = some (cycle, 4, value) := by
  have hforms : State.Forms r s (((s.closeRun r).closeWide r cycle).flushBefore r cycle) :=
    (((State.Forms.refl hwf hx).closeRun).closeWide cycle).flushBefore cycle
  unfold State.markTarget State.modFormer
  dsimp only
  rw [State.rgn_modRgn _ r _ hforms.wf]
  refine congrArg some ?_
  split
  next old _ _ =>
    refine congrArg (fun a => (cycle, a, value)) ?_
    split
    next h =>
      simp only [auxRank, if_true, Nat.le_zero] at h
      split at h
      · assumption
      · split at h <;> [simp at h; split at h <;> simp at h]
    · rfl
  · rfl

theorem State.captured_of_pending {s : State} {g : Region} {i : Nat} {m : Fin 8} (hst : (s.anchor i).state = 1) (hi : i < 1024)
    (hwait : (s.findWait fun w => decide (w = .anchorAdd i)) = some m) :
    s.captured g i = (s.modAnchor i fun a => a.rebase g).answer m
      (okReply (toLE 2 (s.anchorId i) ++ zeros 6 ++ toLE 8 g.cycle ++ stampQ (captureQ g.edge))) := by
  unfold State.captured State.seatAnchor
  rw [if_neg (by rw [hst]; decide), hwait, if_pos hi]
  exact State.complete_of_working _ (State.findWait_spec hwait).1

theorem State.anchor_freeAnchor (s : State) (i : Nat) (hwf : Map.wf {} s.et.anchors = true) :
    (s.freeAnchor i).anchor i = { gen := (s.anchor i).gen + 1 } := s.anchor_modAnchor i (fun a => { gen := a.gen + 1 }) hwf

/-- The state in which the idle anchor j is told and counted as evicted, and its entry free. -/
def State.makeRoom (s : State) (j : Nat) : State :=
  let s := (s.raise evAnchorEvicted (s.anchorArg j)).freeAnchor j
  { s with et := { s.et with evict := sat16 s.et.evict 1 } }

structure State.MakesRoom (s : State) (j : Nat) (t : State) : Prop where
  anchor : t.anchor j = { gen := (s.anchor j).gen + 1 }
  other : ∀ k, k ≠ j → t.anchor k = s.anchor k
  wf : Map.wf {} t.et.anchors = true
  box : t.mbx.box = s.mbx.box
  evict : t.et.evict = sat16 s.et.evict 1
  ev : t.ev = (s.raise evAnchorEvicted (s.anchorArg j)).ev

theorem State.makeRoom_spec (s : State) (j : Nat) (hwf : Map.wf {} s.et.anchors = true) : State.MakesRoom s j (s.makeRoom j) := by
  have honly : Only [.ev] s (s.raise evAnchorEvicted (s.anchorArg j)) :=
    (Keeps.raise_keeps (List.Subset.refl _) (Keeps.refl s) evAnchorEvicted (s.anchorArg j)).only
  have het : (s.raise evAnchorEvicted (s.anchorArg j)).et = s.et := honly.same .et (by decide)
  have hmbx : (s.raise evAnchorEvicted (s.anchorArg j)).mbx = s.mbx := honly.same .mbx (by decide)
  unfold State.makeRoom
  generalize hu : s.raise evAnchorEvicted (s.anchorArg j) = u at het hmbx ⊢
  have huwf : Map.wf {} u.et.anchors = true := het ▸ hwf
  refine ⟨?_, fun k hk => ?_, u.modAnchor_wf j (fun a => { gen := a.gen + 1 }) huwf, congrArg Mbx.box hmbx, ?_, by rw [hu]; rfl⟩
  · exact (u.anchor_freeAnchor j huwf).trans (by rw [State.anchor_congr het])
  · exact (u.anchor_freeAnchor_ne hk).trans (State.anchor_congr het k)
  · have hevict : (u.freeAnchor j).et.evict = s.et.evict := (congrArg Et.evict het :)
    rw [← hevict]

/-- The state in which the anchor that waits in entry i has moved to entry j. -/
def State.moveEntry (s : State) (a : Anchor) (i j : Nat) : State :=
  (s.modAnchor j fun b => { a with gen := b.gen }).modAnchor i fun _ => {}

theorem State.anchor_moveEntry {s : State} (a : Anchor) {i j : Nat} (hij : j ≠ i) (hwf : Map.wf {} s.et.anchors = true) :
    (s.moveEntry a i j).anchor j = { a with gen := (s.anchor j).gen } ∧ (s.moveEntry a i j).anchor i = {} ∧
      (∀ k, k ≠ j → k ≠ i → (s.moveEntry a i j).anchor k = s.anchor k) := by
  unfold State.moveEntry
  refine ⟨?_, State.anchor_modAnchor _ _ _ (s.modAnchor_wf j _ hwf), fun k hkj hki => ?_⟩
  · rw [State.anchor_modAnchor_ne _ _ hij, s.anchor_modAnchor j _ hwf]
  · rw [State.anchor_modAnchor_ne _ _ hki, s.anchor_modAnchor_ne _ hkj]

theorem State.moveEntry_wf (s : State) (a : Anchor) (i j : Nat) (hwf : Map.wf {} s.et.anchors = true) :
    Map.wf {} (s.moveEntry a i j).et.anchors = true := State.modAnchor_wf _ _ _ (s.modAnchor_wf j _ hwf)

theorem State.captured_of_evicting {s : State} {g : Region} {i j : Nat} {m : Fin 8} (hst : (s.anchor i).state = 1) (hi : ¬ i < 1024)
    (hwf : Map.wf {} s.et.anchors = true) (hwait : (s.findWait fun w => decide (w = .anchorAdd i)) = some m)
    (hfull : s.freeEntry = none) (hidle : s.oldestIdle = some j) :
    s.captured g i = (((s.makeRoom j).moveEntry (s.anchor i) i j).modAnchor j fun a => a.rebase g).answer m
      (okReply (toLE 2 (((s.makeRoom j).moveEntry (s.anchor i) i j).anchorId j) ++ zeros 6 ++ toLE 8 g.cycle ++
        stampQ (captureQ g.edge))) := by
  have hwork : ((s.makeRoom j).box m).st = .working := by
    rw [State.box_congr (s.makeRoom_spec j hwf).box]
    exact (State.findWait_spec hwait).1
  have hseat : s.seatAnchor i = some (j, (s.makeRoom j).moveEntry (s.anchor i) i j) := by
    unfold State.seatAnchor
    rw [if_neg hi, hfull, hidle]
    rfl
  unfold State.captured
  rw [if_neg (by rw [hst]; decide), hwait, hseat]
  dsimp only
  generalize s.makeRoom j = v at hwork ⊢
  exact State.complete_of_working (s := (v.moveEntry (s.anchor i) i j).modAnchor j fun a => a.rebase g) _ hwork

end Sys2Proof.Machine

namespace Sys2Proof.Machine
open Sys2Proof.Safety

/-! ### The capture of a base -/

/-- The state that a capture's records and its bookkeeping leave before the anchors are given their base. -/
def State.based (s : State) (r : RegionNo) : State :=
  (s.markBase r (s.rgn r).cycle (captureValue (s.rgn r).edge) (targetValue (s.rgn r).tg (s.rgn r).nominal)).modRgn r fun g =>
    { g with capture := [] }

structure State.Based (s : State) (r : RegionNo) (t : State) : Prop where
  only : Only [.reg, .et, .xg, .ev] s t
  et : { t.et with inexact := s.et.inexact } = s.et
  capture : (t.rgn r).capture = []
  target : (t.rgn r).former.target = some ((s.rgn r).cycle, 4, targetValue (s.rgn r).tg (s.rgn r).nominal)
  lane : s.xState (xId 5 r) = .whole →
    LaneEntry.record (lrec r 5 0 (s.rgn r).cycle (captureValue (s.rgn r).edge)) ∈ (t.rgn r).former.lane
  quiet : (s.rgn r).former.len = 0 → t.ev = s.ev

section
variable {r : RegionNo} {o s : State}

theorem State.len_emit (h : State.FieldKept (fun g => g.former.len) o s) (kind aux cycle value : Nat) :
    State.FieldKept (fun g => g.former.len) o (s.emit r kind aux cycle value) := by
  unfold State.emit State.push
  exact .ite (.ite (h.modRgn r fun _ => rfl) (h.of_reg rfl)) h

theorem State.len_flushBefore (h : State.FieldKept (fun g => g.former.len) o s) (cycle : Nat) :
    State.FieldKept (fun g => g.former.len) o (s.flushBefore r cycle) := by
  have hflush : State.FieldKept (fun g => g.former.len) o (s.flushTarget r) := by
    unfold State.flushTarget
    split
    · exact State.len_emit (h.modRgn r (by exact fun _ => rfl)) _ _ _ _
    · exact h
  unfold State.flushBefore
  split
  · exact .ite hflush h
  · exact h

theorem State.closeRun_of_len_zero (hlen : (s.rgn r).former.len = 0) : s.closeRun r = s :=
  if_neg fun h => absurd h.2.2 (by omega)

theorem State.closeWide_of_len_zero (next : Nat) (hwf : s.RegWf) (hlen : (s.rgn r).former.len = 0) :
    ((s.closeWide r next).rgn r).former.len = 0 ∧ (s.closeWide r next).RegWf := by
  unfold State.closeWide
  dsimp only
  split
  · rw [if_neg (by omega), State.modFormer, s.rgn_modRgn r _ hwf]
    exact ⟨rfl, s.modRgn_wf r _ hwf⟩
  · exact ⟨hlen, hwf⟩

/-- No event is told where no run is open (R122). -/
theorem State.markTarget_quiet (aux cycle value : Nat) (hlen : (s.rgn r).former.len = 0) :
    (s.markTarget r aux cycle value).ev = s.ev := by
  unfold State.markTarget
  rw [State.closeRun_of_len_zero hlen]
  exact (Keeps.modFormer_keeps (gs := [.reg, .xg]) (by decide) (Keeps.flushBefore_keeps (List.Subset.refl _)
    (Keeps.closeWide_keeps (List.Subset.refl _) (Keeps.refl s) r cycle) r cycle) r _).only.same .ev (by decide)

theorem State.mark_quiet (kind aux cycle value : Nat) (hwf : s.RegWf) (hlen : (s.rgn r).former.len = 0) :
    (s.mark r kind aux cycle value).ev = s.ev ∧ ((s.mark r kind aux cycle value).rgn r).former.len = 0 := by
  unfold State.mark
  rw [State.closeRun_of_len_zero hlen]
  obtain ⟨hlen', hwf'⟩ := State.closeWide_of_len_zero cycle hwf hlen
  refine ⟨(Keeps.emit_keeps (gs := [.reg, .xg]) (by decide) (Keeps.flushBefore_keeps (List.Subset.refl _)
    (Keeps.closeWide_keeps (List.Subset.refl _) (Keeps.refl s) r cycle) r cycle) r _ _ _ _).only.same .ev (by decide), ?_⟩
  have hkept := State.len_emit (r := r) (State.len_flushBefore (r := r) (.refl hwf') cycle) kind aux cycle value
  exact (hkept.region r).trans hlen'
end

theorem State.ev_markBase {s : State} {r : RegionNo} (cycle value target : Nat) (hwf : s.RegWf)
    (hlen : (s.rgn r).former.len = 0) : (s.markBase r cycle value target).ev = s.ev := by
  obtain ⟨hev, hlen'⟩ := State.mark_quiet kBase 0 cycle value hwf hlen
  exact (State.markTarget_quiet 4 cycle target hlen').trans hev

theorem State.markBase_forms {s : State} (r : RegionNo) (cycle value target : Nat) (hreg : Regular s) :
    State.Forms r s (s.markBase r cycle value target) := by
  unfold State.markBase
  exact ((State.Forms.refl hreg.regions hreg.crossings).mark _ _ _ _).markTarget _ _ _

theorem State.target_markBase {s : State} (r : RegionNo) (cycle value target : Nat) (hreg : Regular s) :
    ((s.markBase r cycle value target).rgn r).former.target = some (cycle, 4, target) := by
  have hmark : State.Forms r s (s.mark r kBase 0 cycle value) := (State.Forms.refl hreg.regions hreg.crossings).mark _ _ _ _
  unfold State.markBase
  exact State.target_markTarget_base cycle target hmark.wf hmark.xwf

theorem State.mem_lane_markBase {s : State} {r : RegionNo} (cycle value target : Nat) (hreg : Regular s)
    (hfound : (s.rgn r).rep.found = true) (hwhole : s.xState (xId 5 r) = .whole) :
    LaneEntry.record (lrec r kBase 0 cycle value) ∈ ((s.markBase r cycle value target).rgn r).former.lane := by
  have hmark : State.Forms r s (s.mark r kBase 0 cycle value) := (State.Forms.refl hreg.regions hreg.crossings).mark _ _ _ _
  unfold State.markBase
  exact ((State.Forms.refl hmark.wf hmark.xwf).markTarget 4 _ _).lane _
    (s.mem_lane_mark kBase 0 cycle value hreg.regions hreg.crossings hfound hwhole)

theorem State.based_spec {s : State} (r : RegionNo) (hreg : Regular s) (hfound : (s.rgn r).rep.found = true) :
    State.Based s r (s.based r) := by
  have honly := (Keeps.markBase_keeps (List.Subset.refl _) (Keeps.refl s) r (s.rgn r).cycle (captureValue (s.rgn r).edge)
    (targetValue (s.rgn r).tg (s.rgn r).nominal))
  have hforms := s.markBase_forms r (s.rgn r).cycle (captureValue (s.rgn r).edge) (targetValue (s.rgn r).tg (s.rgn r).nominal) hreg
  have htarget := s.target_markBase r (s.rgn r).cycle (captureValue (s.rgn r).edge) (targetValue (s.rgn r).tg (s.rgn r).nominal) hreg
  have hlane := State.mem_lane_markBase (s.rgn r).cycle (captureValue (s.rgn r).edge) (targetValue (s.rgn r).tg (s.rgn r).nominal)
    hreg hfound
  have hquiet := State.ev_markBase (r := r) (s.rgn r).cycle (captureValue (s.rgn r).edge) (targetValue (s.rgn r).tg (s.rgn r).nominal)
    hreg.regions
  unfold State.based
  generalize s.markBase r (s.rgn r).cycle (captureValue (s.rgn r).edge) (targetValue (s.rgn r).tg (s.rgn r).nominal) = v at *
  have hself := v.rgn_modRgn r (fun g => { g with capture := [] }) hforms.wf
  exact ⟨(Keeps.modRgn_keeps (by decide) honly r _).only, hforms.et, by rw [hself], by rw [hself]; exact htarget,
    fun hwhole => by rw [hself]; exact hlane hwhole, hquiet⟩

theorem exec_anchorCapture {s : State} {r : RegionNo} {i : Nat} (hcapture : (s.rgn r).capture = [i]) (hclocked : s.clocked r = true)
    (hstop : (s.rgn r).stop = none) (hfound : (s.rgn r).rep.found = true) :
    exec (.anchorCapture r) s = .next ((s.based r).captured (s.rgn r) i) := by
  have hrun : exec (.anchorCapture r) s = execAnchorCapture r s := rfl
  rw [hrun, execAnchorCapture, if_neg (by simp [hcapture, hclocked, hstop, hfound])]
  dsimp only
  rw [hcapture, List.foldl_cons, List.foldl_nil, State.based]

end Sys2Proof.Machine

namespace Sys2Proof.Machine
open Sys2Proof.Safety

/-! ### What the choice of an entry reads -/

theorem State.freeEntry_congr {s t : State} (h : ∀ i, t.anchor i = s.anchor i) : t.freeEntry = s.freeEntry := by
  simp only [State.freeEntry, h]

theorem State.oldestIdle_congr {s t : State} (hanchors : t.et.anchors = s.et.anchors) (hctrl : t.et.ctrl = s.et.ctrl)
    (hsys : t.sys = s.sys) : t.oldestIdle = s.oldestIdle := by
  simp only [State.oldestIdle, State.idle, State.anchor, hanchors, hctrl, State.now, State.win, hsys] <;> rfl

theorem State.findWait_congr {s t : State} (p : Wait → Bool) (h : t.mbx.box = s.mbx.box) : t.findWait p = s.findWait p := by
  simp only [State.findWait, State.box_congr h]

theorem State.anchorId_congr {s t : State} (i : Nat) (h : t.anchor i = s.anchor i) : t.anchorId i = s.anchorId i := by
  simp only [State.anchorId, h]

/-! ### ANCHOR_ADD and ANCHOR_REMOVE -/

/-- The checks that ANCHOR_ADD makes before it looks for an entry (R127, R124). -/
structure AddPasses (q : Req) (s : State) : Prop where
  region : s.regionExists q.tgt = true
  owner : q.le 0 2 ≤ 8191
  reach : q.le 16 2 = 0 ∨ (16 ≤ q.le 16 2 ∧ q.le 16 2 ≤ 4096)
  flag : q.u8 18 ≤ 1
  alive : (s.rgn q.tgt).chan.st ≠ .dead
  carried : s.xBlock (xId 4 q.tgt) = none
  pins : q.u8 18 = 0 ∨ (s.et.anchors.filter fun e => e.2.pinned).length < 64

theorem cmdAnchorAdd_of_passes {q : Req} {s : State} (h : AddPasses q s) : cmdAnchorAdd q s =
    match s.freeEntry with
    | some i => s.takeAnchor q i
    | none =>
      if !q.evict ∨ s.oldestIdle.isNone then .done (codeReply stFull) s.countFull
      else match (List.range 64).find? fun k => decide ((s.anchor (anchorSeats + k)).state = 0) with
        | some k => s.takeAnchor q (anchorSeats + k)
        | none => .done (codeReply stFull) s.countFull := by
  have hvalid : validRegion q.tgt = true := validRegion_of_exists h.region
  have htarget : s.regionTarget q = none := by simp [State.regionTarget, hvalid, h.region]
  have hreach : ¬(q.le 16 2 ≠ 0 ∧ (q.le 16 2 < 16 ∨ 4096 < q.le 16 2)) := by
    have := h.reach
    omega
  have hpins : ¬(q.u8 18 = 1 ∧ 64 ≤ (s.et.anchors.filter fun e => e.2.pinned).length) := by
    rcases h.pins with hp | hp <;> omega
  unfold cmdAnchorAdd
  rw [htarget]
  dsimp only
  rw [if_neg (by have := h.owner; omega), if_neg hreach, if_neg (by have := h.flag; omega), if_neg h.alive, h.carried]
  dsimp only
  generalize List.range 64 = l, s.freeEntry = e
  exact if_neg hpins

/-- The state in which ANCHOR_ADD waits for the capture of entry i. -/
def addTaken (q : Req) (i : Nat) (s : State) : State :=
  ((posted s 0x0402 q).modAnchor i fun a =>
    { gen := a.gen, state := 1, based := false, pinned := decide (q.u8 18 = 1), region := q.tgt
      owner := BitVec.ofNat 16 (q.mbx.val + 8 * q.le 0 2), reach := if q.le 16 2 = 0 then fld s.et.ctrl.eff 28 16 else q.le 16 2
      deadline := q.le 8 8, lastUse := s.now }).sendMsg q.tgt (.capture i)

structure AddTaken (q : Req) (i : Nat) (s t : State) : Prop where
  wait : (t.box q.mbx).wait = some (.anchorAdd i)
  working : (t.box q.mbx).st = .working
  entry : t.anchor i = { gen := (s.anchor i).gen, state := 1, pinned := decide (q.u8 18 = 1), region := q.tgt,
                         owner := BitVec.ofNat 16 (q.mbx.val + 8 * q.le 0 2),
                         reach := if q.le 16 2 = 0 then fld s.et.ctrl.eff 28 16 else q.le 16 2, deadline := q.le 8 8, lastUse := s.now }
  other : ∀ j, j ≠ i → t.anchor j = s.anchor j
  awaits : (t.rgn q.tgt).awaits i = true
  regions : ∀ r, r ≠ q.tgt → t.rgn r = s.rgn r
  evict : t.et.evict = s.et.evict

theorem addTaken_spec (q : Req) (i : Nat) {s : State} (hreg : Regular s) :
    AddTaken q i s ((addTaken q i s).modBox q.mbx fun b => { b with wait := some (.anchorAdd i) }) := by
  have hanchors : Map.wf {} (posted s 0x0402 q).et.anchors = true := hreg.anchors
  let f : Anchor → Anchor := fun a =>
    { gen := a.gen, state := 1, based := false, pinned := decide (q.u8 18 = 1), region := q.tgt
      owner := BitVec.ofNat 16 (q.mbx.val + 8 * q.le 0 2), reach := if q.le 16 2 = 0 then fld s.et.ctrl.eff 28 16 else q.le 16 2
      deadline := q.le 8 8, lastUse := s.now }
  let u : State := (posted s 0x0402 q).modAnchor i f
  have hu : u.RegWf := hreg.regions
  have honly : Only [.reg] u (addTaken q i s) := (Keeps.sendMsg_keeps (List.Subset.refl _) (Keeps.refl u) q.tgt (.capture i)).only
  have het : (addTaken q i s).et = u.et := honly.same .et (by decide)
  have hbox : ((addTaken q i s).box q.mbx).st = .working := by
    rw [State.box_congr (congrArg Mbx.box (honly.same .mbx (by decide)))]
    have hposted : ((posted s 0x0402 q).box q.mbx).st = .working := by rw [posted, State.box_modBox]
    exact hposted
  have hself := (posted s 0x0402 q).anchor_modAnchor i f hanchors
  have hother (j : Nat) (hj : j ≠ i) : u.anchor j = s.anchor j := (posted s 0x0402 q).anchor_modAnchor_ne f hj
  have hawaits : ((addTaken q i s).rgn q.tgt).awaits i = true := (State.awaits_sendMsg (s := u) q.tgt (.capture i) i hu).2 (.inr rfl)
  have hregions (r : RegionNo) (hr : r ≠ q.tgt) : (addTaken q i s).rgn r = s.rgn r := u.rgn_sendMsg_ne _ hr
  have hevict : (addTaken q i s).et.evict = s.et.evict := by
    rw [het]
    rfl
  have hentry : (addTaken q i s).anchor i = f (s.anchor i) := (State.anchor_congr het i).trans hself
  have hothers (j : Nat) (hj : j ≠ i) : (addTaken q i s).anchor j = s.anchor j := (State.anchor_congr het j).trans (hother j hj)
  generalize addTaken q i s = v at *
  exact ⟨by rw [State.box_modBox], by rw [State.box_modBox]; exact hbox, hentry, hothers, hawaits, hregions, hevict⟩

theorem State.rgn_freeAnchor (s : State) (i : Nat) (hwf : s.RegWf) :
    (s.freeAnchor i).rgn (s.anchor i).region = (s.rgn (s.anchor i).region).uncapture i :=
  State.rgn_modRgn (s.modAnchor i fun a => { gen := a.gen + 1 }) _ _ hwf

/-- What ANCHOR_REMOVE leaves of entry i: an ANCHOR_ADD that waits for its capture is refused. -/
def State.removed (s : State) (i : Nat) : State :=
  match s.findWait fun w => decide (w = .anchorAdd i) with
  | some m => (s.freeAnchor i).complete m (codeReply stRefused)
  | none => s.freeAnchor i

theorem State.removed_only (s : State) (i : Nat) : Only [.mbx] (s.freeAnchor i) (s.removed i) := by
  unfold State.removed
  split
  · exact (Keeps.complete_keeps (List.Subset.refl _) (Keeps.refl _) _ _).only
  · exact (Keeps.refl _).only

theorem State.removed_reg_et_mbx {o s : State} (h : Keeps [.mbx, .reg, .et] o s) (i : Nat) : Only [.mbx, .reg, .et] o (s.removed i) := by
  unfold State.removed
  split
  · exact (Keeps.complete_keeps (by decide) (Keeps.freeAnchor_keeps (by decide) h i) _ _).only
  · exact (Keeps.freeAnchor_keeps (by decide) h i).only

theorem cmdAnchorRemove_of_idle {q : Req} {s : State} {i : Nat} (hanchor : s.anchorOf q.tgt = some i) (hbusy : (s.anchor i).busy = 0) :
    cmdAnchorRemove q s = .done okReply (s.removed i) := by
  unfold cmdAnchorRemove State.removed
  rw [hanchor]
  exact if_neg (not_not.2 hbusy)

end Sys2Proof.Machine

namespace Sys2Proof.Machine
open Sys2Proof.Safety

theorem find?_range_zero {n : Nat} (hn : 0 < n) {p : Nat → Bool} (h : p 0 = true) : (List.range n).find? p = some 0 := by
  obtain ⟨k, rfl⟩ := Nat.exists_eq_succ_of_ne_zero hn.ne'
  rw [List.range_succ_eq_map, List.find?_cons_of_pos h]

/-- Settles O24: an added anchor's entry and its capture's message are followed through the region's mail; a capture's records are
written by the former, which leaves anchors, other regions and crossings, and the anchor that waits for it takes its base, or the place
of the idle one used longest ago. -/
theorem anchorsComeAndGo : Obligations.AnchorsComeAndGo := by
  refine ⟨fun q i s hreg hready hexists howner hreach hflag halive hblock hpins hfree => ?add,
    fun q i s hreg hready hexists howner hreach hflag halive hblock hfree hevict hidle hseat => ?beside,
    fun r j m s hreg hcapture hclocked hstop hfound hst hregion hwait hfree hidle hj => ?evicting,
    fun q s hready hexists howner hreach hflag halive hblock hfree hevict => ?full,
    fun r i m s hreg hcapture hclocked hstop hfound hst hregion hwait hi => ?capture,
    fun q i s hreg hready hanchor hbusy => ?remove, fun q i s hready hanchor hbusy => ?busy⟩
  case add =>
    have hpasses : AddPasses q (posted s 0x0402 q) := ⟨hexists, howner, hreach, hflag, halive, hblock, hpins⟩
    have hfree' : (posted s 0x0402 q).freeEntry = some i := hfree
    have hcmd : cmdAnchorAdd q (posted s 0x0402 q) = .wait (.anchorAdd i) (addTaken q i s) := by
      rw [cmdAnchorAdd_of_passes hpasses, hfree']
      rfl
    have hrun : exec (.anchorAdd q) s = .next ((addTaken q i s).modBox q.mbx fun b => { b with wait := some (.anchorAdd i) }) :=
      congrArg Host.Outcome.next (State.submit_wait (by decide) hready hcmd)
    have h := addTaken_spec q i hreg
    exact ⟨_, hrun, h.wait, h.working, h.entry, h.other, h.awaits, h.regions, exec_only hrun⟩
  case beside =>
    have hpasses : AddPasses q (posted s 0x0402 q) := ⟨hexists, howner, .inl hreach, by omega, halive, hblock, .inl hflag⟩
    have hfree' : (posted s 0x0402 q).freeEntry = none := hfree
    have hidle' : (posted s 0x0402 q).oldestIdle = some i := hidle
    have hfind : ((List.range 64).find? fun k => decide (((posted s 0x0402 q).anchor (anchorSeats + k)).state = 0)) = some 0 :=
      find?_range_zero (by decide) (decide_eq_true hseat)
    have hcmd : cmdAnchorAdd q (posted s 0x0402 q) = .wait (.anchorAdd 1024) (addTaken q 1024 s) := by
      rw [cmdAnchorAdd_of_passes hpasses, hfree']
      dsimp only
      rw [if_neg (by simp [hevict, hidle']), hfind]
      rfl
    have hrun : exec (.anchorAdd q) s = .next ((addTaken q 1024 s).modBox q.mbx fun b => { b with wait := some (.anchorAdd 1024) }) :=
      congrArg Host.Outcome.next (State.submit_wait (by decide) hready hcmd)
    have h := addTaken_spec q 1024 hreg
    exact ⟨_, hrun, h.wait, by rw [h.entry], by rw [h.entry], h.awaits, h.other, h.evict, exec_only hrun⟩
  case evicting =>
    have hb := s.based_spec r hreg hfound
    have hrun := exec_anchorCapture hcapture hclocked hstop hfound
    generalize s.based r = v at hb hrun
    have hmbx : v.mbx.box = s.mbx.box := congrArg Mbx.box (hb.only.same .mbx (by decide))
    have hanchors : v.et.anchors = s.et.anchors := (congrArg Et.anchors hb.et :)
    have hv (k : Nat) : v.anchor k = s.anchor k := by rw [State.anchor, hanchors, State.anchor]
    have hwf : Map.wf {} v.et.anchors = true := hanchors ▸ hreg.anchors
    have hwait' := (State.findWait_congr _ hmbx).trans hwait
    have hsys : v.sys = s.sys := hb.only.same .sys (by decide)
    have hfree' := (State.freeEntry_congr hv).trans hfree
    have hidle' := (State.oldestIdle_congr hanchors (congrArg Et.ctrl hb.et :) hsys).trans hidle
    rw [State.captured_of_evicting (by rw [hv, hst]) (by decide) hwf hwait' hfree' hidle'] at hrun
    have hroom := v.makeRoom_spec j hwf
    have htold : (v.raise evAnchorEvicted (v.anchorArg j)).ev = (v.raise evAnchorEvicted (s.anchorArg j)).ev := by
      rw [State.anchorArg, State.anchorId_congr j (hv j), hv, ← State.anchorArg]
    generalize v.makeRoom j = e at hroom hrun
    obtain ⟨hnew, hleft, hother⟩ := State.anchor_moveEntry (s := e) (v.anchor 1024) (i := 1024) (j := j) (by omega) hroom.wf
    have hwwf := e.moveEntry_wf (v.anchor 1024) 1024 j hroom.wf
    have hwevict : (e.moveEntry (v.anchor 1024) 1024 j).et.evict = e.et.evict := rfl
    have hwev : (e.moveEntry (v.anchor 1024) 1024 j).ev = e.ev := rfl
    generalize e.moveEntry (v.anchor 1024) 1024 j = w at *
    rw [hroom.anchor, hv, hv] at hnew
    let x : State := w.modAnchor j fun a => a.rebase (s.rgn r)
    have hself : x.anchor j = (w.anchor j).rebase (s.rgn r) := w.anchor_modAnchor j _ hwwf
    have hnot (k : Nat) (hk : k ≠ j) : x.anchor k = w.anchor k := w.anchor_modAnchor_ne _ hk
    have hx (k : Nat) (rep : Reply) : (x.answer m rep).anchor k = x.anchor k :=
      State.anchor_congr ((x.answer_only m rep).same .et (by decide)) k
    have hevict (rep : Reply) : (x.answer m rep).et.evict = sat16 s.et.evict 1 := by
      have h : (x.answer m rep).et = x.et := (x.answer_only m rep).same .et (by decide)
      have hs : v.et.evict = s.et.evict := (congrArg Et.evict hb.et :)
      rw [h, ← hs, ← hroom.evict, ← hwevict]
      rfl
    have hev (rep : Reply) : (x.answer m rep).ev = w.ev := (x.answer_only m rep).same .ev (by decide)
    refine ⟨_, hrun, ?_, ?_, ?_, ?_, ?_, ?_, fun k hkj hk => ?_, hevict _, ?_, fun hlen => ?_, exec_only hrun⟩
    · rw [hx, hself, hnew]
      rfl
    · rw [hx, hself]
      rfl
    · rw [hx, hself, hnew]
      exact hregion
    · rw [hx, hself]
      rfl
    · rw [hx, hself]
      rfl
    · rw [hx, hnot _ (by omega), hleft]
    · rw [hx, hnot _ hkj, hother k hkj hk, hroom.other k hkj, hv]
    · rw [State.box_answer]
      rfl
    · rw [hev, hwev, hroom.ev, htold]
      exact State.raise_ev_congr _ _ (congrArg Sys.epoch hsys) (congrArg Sys.erg hsys) (hb.quiet hlen)
  case full =>
    have hpasses : AddPasses q (posted s 0x0402 q) := ⟨hexists, howner, .inl hreach, by omega, halive, hblock, .inl hflag⟩
    have hfree' : (posted s 0x0402 q).freeEntry = none := hfree
    have hcmd : cmdAnchorAdd q (posted s 0x0402 q) = .done (codeReply stFull) (posted s 0x0402 q).countFull := by
      rw [cmdAnchorAdd_of_passes hpasses, hfree']
      exact if_pos (.inl (by simp [hevict]))
    refine ⟨(posted s 0x0402 q).countFull, congrArg Host.Outcome.next (State.submit_done (by decide) hready hcmd), rfl, ?_⟩
    exact (Keeps.countFull_keeps (gs := [.mbx, .et]) (by decide) (Keeps.modBox_keeps (by decide) (Keeps.refl s) q.mbx _)).only
  case capture =>
    have hb := s.based_spec r hreg hfound
    have hrun := exec_anchorCapture hcapture hclocked hstop hfound
    generalize s.based r = v at hb hrun
    have hmbx : v.mbx.box = s.mbx.box := congrArg Mbx.box (hb.only.same .mbx (by decide))
    have hanchors : v.et.anchors = s.et.anchors := (congrArg Et.anchors hb.et :)
    have hv (k : Nat) : v.anchor k = s.anchor k := by rw [State.anchor, hanchors, State.anchor]
    have hwf : Map.wf {} v.et.anchors = true := hanchors ▸ hreg.anchors
    have hwait' := (State.findWait_congr _ hmbx).trans hwait
    rw [State.captured_of_pending (by rw [hv, hst]) hi hwait', State.anchorId_congr i (hv i)] at hrun
    let x : State := v.modAnchor i fun a => a.rebase (s.rgn r)
    have hself : x.anchor i = (v.anchor i).rebase (s.rgn r) := v.anchor_modAnchor i _ hwf
    have hx (k : Nat) (rep : Reply) : (x.answer m rep).anchor k = x.anchor k :=
      State.anchor_congr ((x.answer_only m rep).same .et (by decide)) k
    have hrgn (rep : Reply) : (x.answer m rep).rgn r = v.rgn r :=
      State.rgn_congr (s := x) ((x.answer_only m rep).same .reg (by decide)) r
    refine ⟨_, hrun, ?_, ?_, fun k hk => ?_, fun hwhole => ?_, ?_, ?_, ?_, exec_only hrun⟩
    · rw [hrgn, hb.capture]
    · rw [hx, hself, hv, Anchor.rebase, hst]
      simp
      rfl
    · rw [hx, v.anchor_modAnchor_ne _ hk, hv]
    · rw [hrgn]
      exact hb.lane hwhole
    · rw [hrgn, hb.target]
    · rw [State.box_answer]
      rfl
    · have hxbox : x.box m = s.box m := State.box_congr hmbx m
      rw [State.box_answer, hxbox]
      rfl
  case remove =>
    have hanchor' : (posted s 0x0403 q).anchorOf q.tgt = some i := hanchor
    have hanchors : Map.wf {} (posted s 0x0403 q).et.anchors = true := hreg.anchors
    have hregions : (posted s 0x0403 q).RegWf := hreg.regions
    have hcmd := cmdAnchorRemove_of_idle (q := q) (s := posted s 0x0403 q) hanchor' hbusy
    have honly := (posted s 0x0403 q).removed_only i
    refine ⟨_, congrArg Host.Outcome.next (State.submit_done (by decide) hready hcmd), ?_, fun j hj => ?_, ?_, ?_⟩
    · rw [State.anchor_congr (honly.same .et (by decide)), State.anchor_freeAnchor _ _ hanchors]
      rfl
    · rw [State.anchor_congr (honly.same .et (by decide)), State.anchor_freeAnchor_ne _ hj]
      rfl
    · have hregion : (s.anchor i).region = ((posted s 0x0403 q).anchor i).region := rfl
      rw [State.rgn_congr (honly.same .reg (by decide)), hregion, State.rgn_freeAnchor _ _ hregions]
      exact Region.awaits_uncapture _ i
    · exact State.removed_reg_et_mbx (Keeps.modBox_keeps (by decide) (Keeps.refl s) q.mbx _) i
  case busy =>
    refine congrArg Host.Outcome.next (State.submit_wait (by decide) hready ?_)
    have hanchor' : (posted s 0x0403 q).anchorOf q.tgt = some i := hanchor
    rw [cmdAnchorRemove, hanchor']
    exact if_pos hbusy

end Sys2Proof.Machine
end

section
/-! SUPPORT. Folds of anchors (R119, R123). -/
namespace Sys2Proof.Machine
open Sys2Proof.Safety

/-! ### The anchors that a fold goes through -/

theorem Map.get_mem {α : Type} {d : α} {m : Map α} {k : Nat} (h : Map.get d m k ≠ d) : (k, Map.get d m k) ∈ m := by
  induction m with
  | nil => exact absurd rfl h
  | cons e m ih =>
    obtain ⟨k', v⟩ := e
    by_cases hk : k = k'
    · simp [Map.get, hk]
    · simp only [Map.get, if_neg hk] at h ⊢
      exact List.mem_cons_of_mem _ (ih h)

theorem Map.get_of_mem {α : Type} {d : α} {m : Map α} {e : Nat × α} (hm : Map.rising m = true) (h : e ∈ m) : Map.get d m e.1 = e.2 := by
  induction m with
  | nil => cases h
  | cons c m ih =>
    obtain ⟨hrest, hless⟩ := Map.rising_cons.1 hm
    rcases List.mem_cons.1 h with rfl | h
    · simp [Map.get]
    · have hne : e.1 ≠ c.1 := (hless e h).ne'
      simpa [Map.get, if_neg hne] using ih hrest h

theorem Map.keys_nodup {α : Type} {m : Map α} (hm : Map.rising m = true) : (m.map (·.1)).Nodup := by
  induction m with
  | nil => exact List.nodup_nil
  | cons c m ih =>
    obtain ⟨hrest, hless⟩ := Map.rising_cons.1 hm
    refine List.nodup_cons.2 ⟨fun h => ?_, ih hrest⟩
    obtain ⟨e, he, heq⟩ := List.mem_map.1 h
    exact (hless e he).ne heq.symm

theorem State.mem_filter_anchors {s : State} {p : Anchor → Bool} (hp : p {} = false) (hwf : Map.wf {} s.et.anchors = true) (i : Nat) :
    i ∈ (s.et.anchors.filter fun e => p e.2).map (·.1) ↔ p (s.anchor i) = true := by
  constructor
  · intro h
    obtain ⟨e, he, rfl⟩ := List.mem_map.1 h
    obtain ⟨he, hpe⟩ := List.mem_filter.1 he
    rwa [State.anchor, Map.get_of_mem (Map.wf_rising hwf) he]
  · intro h
    refine List.mem_map.2 ⟨(i, s.anchor i), List.mem_filter.2 ⟨Map.get_mem fun hd => ?_, h⟩, rfl⟩
    rw [State.anchor, hd, hp] at h
    simp at h

theorem State.mem_allActive {s : State} (hwf : Map.wf {} s.et.anchors = true) (i : Nat) : i ∈ s.allActive ↔ (s.anchor i).state = 2 :=
  (State.mem_filter_anchors (p := fun a => decide (a.state = 2)) (by decide) hwf i).trans (by rw [decide_eq_true_eq])

theorem State.mem_activeAnchors {s : State} (r : RegionNo) (hwf : Map.wf {} s.et.anchors = true) (i : Nat) :
    i ∈ s.activeAnchors r ↔ (s.anchor i).state = 2 ∧ (s.anchor i).region = r :=
  (State.mem_filter_anchors (p := fun a => decide (a.state = 2 ∧ a.region = r)) (decide_eq_false fun h => absurd h.1 (by decide)) hwf i).trans
    (by rw [decide_eq_true_eq])

theorem State.allActive_nodup {s : State} (hwf : Map.wf {} s.et.anchors = true) : s.allActive.Nodup :=
  (Map.keys_nodup (Map.wf_rising hwf)).sublist (List.filter_sublist.map _)

theorem State.byBase_go_perm (s : State) (i : Nat) (l : List Nat) : (State.byBase.go s i l).Perm (i :: l) := by
  induction l with
  | nil => exact .refl _
  | cons j js ih =>
    unfold State.byBase.go
    split
    · exact .refl _
    · exact (ih.cons j).trans (.swap i j js)

theorem State.byBase_perm (s : State) : s.byBase.Perm s.allActive := by
  unfold State.byBase
  dsimp only
  induction s.allActive with
  | nil => exact .refl _
  | cons i l ih => exact (s.byBase_go_perm i _).trans (ih.cons i)

/-! ### One anchor is folded -/

/-- What folds leave: all but the anchors' own entries, and what is told. -/
structure State.Folded (s t : State) : Prop where
  only : Only [.et, .ev] s t
  et : t.et = { s.et with anchors := t.et.anchors }
  wf : Map.wf {} t.et.anchors = true

theorem State.Folded.refl {s : State} (hwf : Map.wf {} s.et.anchors = true) : State.Folded s s := ⟨(Keeps.refl s).only, rfl, hwf⟩

theorem State.Folded.trans {s t u : State} (h : State.Folded s t) (k : State.Folded t u) : State.Folded s u :=
  ⟨⟨fun g hg => Group.same_trans _ (h.only.same g hg) (k.only.same g hg)⟩, by rw [k.et, h.et], k.wf⟩

theorem State.foldTo_folded {s : State} (i x : Nat) (hwf : Map.wf {} s.et.anchors = true) : State.Folded s (s.foldTo i x) := by
  have honly : Only [.et, .ev] s (s.foldTo i x) := (Keeps.foldTo_keeps (by decide) (Keeps.refl s) i x).only
  refine ⟨honly, ?_, ?_⟩
  · unfold State.foldTo
    dsimp only
    split <;> rfl
  · unfold State.foldTo
    dsimp only
    split
    · exact hwf
    · exact s.modAnchor_wf i _ hwf

theorem State.anchor_foldTo_ne (s : State) {i j : Nat} (x : Nat) (h : j ≠ i) : (s.foldTo i x).anchor j = s.anchor j := by
  unfold State.foldTo
  dsimp only
  split
  · rfl
  · exact s.anchor_modAnchor_ne _ h

/-- A fold reads its own anchor's entry alone. -/
theorem State.Folded.foldTo {s t : State} (h : State.Folded s t) (hwf : Map.wf {} s.et.anchors = true) {i : Nat} (x : Nat)
    (hi : t.anchor i = s.anchor i) : (t.foldTo i x).anchor i = (s.foldTo i x).anchor i := by
  have hrgn (r : RegionNo) : t.rgn r = s.rgn r := State.rgn_congr (h.only.same .reg (by decide)) r
  have hnow : t.now = s.now := congrArg Sys.erg (h.only.same .sys (by decide))
  have hwritten : t.et.written = s.et.written := by rw [h.et]
  have hring : t.et.ring = s.et.ring := by rw [h.et]
  have hrecords (a : Anchor) : t.records a = s.records a := by
    simp only [State.records, State.ringAt, hwritten, hring]
  have htop (a : Anchor) : t.foldTop a = s.foldTop a := by simp only [State.foldTop, hrgn]
  unfold State.foldTo
  simp only [hi, hnow, hrgn, hwritten, hrecords, htop]
  split
  · exact hi
  · rw [t.anchor_modAnchor i _ h.wf, s.anchor_modAnchor i _ hwf, hi]

theorem State.foldTo_of_idle {s : State} {i x : Nat} (h : (s.anchor i).busy ≠ 0 ∨ (s.anchor i).based = false ∨
    (s.rgn (s.anchor i).region).awaits i = true ∨ min x ((s.now - 1024) * 32768) ≤ (s.anchor i).baseErg) : s.foldTo i x = s :=
  if_pos (by simpa using h)

/-- Without records the base goes the strides that fit, whole periods at a time. -/
theorem State.anchor_foldTo_of_no_records {s : State} {i x : Nat} (hwf : Map.wf {} s.et.anchors = true) (hbusy : (s.anchor i).busy = 0)
    (hbased : (s.anchor i).based = true) (hawaits : (s.rgn (s.anchor i).region).awaits i = false)
    (hx : (s.anchor i).baseErg < min x ((s.now - 1024) * 32768)) (hrecords : s.records (s.anchor i) = []) :
    (s.foldTo i x).anchor i =
      let w := (s.anchor i).start
      let w' := w.by (w.stride (min x ((s.now - 1024) * 32768) : Nat) ((s.now - 1024) * 32768 : Nat) (s.foldTop (s.anchor i)))
      { s.anchor i with
        baseCycle := w'.k.toNat, baseErg := w'.t.toNat, baseTg := w'.tg.toNat, baseN := w'.n.toNat, cursor := s.et.written } := by
  unfold State.foldTo
  dsimp only
  rw [if_neg (by simpa [hbusy, hbased, hawaits] using lt_min_iff.1 hx), s.anchor_modAnchor i _ hwf, hrecords]
  rfl

/-- The bounds of a stride: as far as x asks, no further than lim and top allow. -/
theorem Walk.stride_spec {w : Walk} {x lim top : Int} (htg : 0 < w.tg) (hx : w.t < x) :
    0 ≤ w.stride x lim top ∧
    (x ≤ w.t + w.stride x lim top * w.tg ∨ top ≤ w.k + w.stride x lim top ∨ lim < w.t + w.stride x lim top * w.tg + w.tg) ∧
    (0 < w.stride x lim top → w.t + w.stride x lim top * w.tg ≤ lim ∧ w.k + w.stride x lim top ≤ top) ∧
    w.t + w.stride x lim top * w.tg < x + w.tg := by
  have hahead : w.ahead x = (x - w.t + w.tg - 1) / w.tg := by
    rw [Walk.ahead, if_neg (by omega), fdiv, Int.fdiv_eq_ediv_of_nonneg _ htg.le]
  have hfits : (if w.tg ≤ 0 then 0 else fdiv (lim - w.t) w.tg) = (lim - w.t) / w.tg := by
    rw [if_neg (by omega), fdiv, Int.fdiv_eq_ediv_of_nonneg _ htg.le]
  have h1 := Int.ediv_mul_le (x - w.t + w.tg - 1) htg.ne'
  have h2 := Int.lt_ediv_add_one_mul_self (x - w.t + w.tg - 1) htg
  have h3 := Int.ediv_mul_le (lim - w.t) htg.ne'
  have h4 := Int.lt_ediv_add_one_mul_self (lim - w.t) htg
  have hpos : 1 ≤ (x - w.t + w.tg - 1) / w.tg := (Int.le_ediv_iff_mul_le htg).2 (by omega)
  rw [Walk.stride, hahead]
  simp only [hfits]
  generalize (x - w.t + w.tg - 1) / w.tg = a at *
  generalize (lim - w.t) / w.tg = f at *
  generalize hm : min a (max 0 (min f (top - w.k))) = m
  have hma : m * w.tg ≤ a * w.tg := Int.mul_le_mul_of_nonneg_right (by omega) htg.le
  rw [add_mul, one_mul] at h2 h4
  refine ⟨by omega, ?_, fun h => ⟨?_, by omega⟩, by linarith⟩
  · rcases (by omega : m = a ∨ m = f ∨ top ≤ w.k + m ∨ f ≤ m) with rfl | rfl | h | h
    · exact .inl (by linarith)
    · exact .inr (.inr (by linarith))
    · exact .inr (.inl h)
    · have := Int.mul_le_mul_of_nonneg_right h htg.le
      exact .inr (.inr (by linarith))
  · have := Int.mul_le_mul_of_nonneg_right (by omega : m ≤ f) htg.le
    linarith

/-! ### Folds one after the other -/

/-- Anchors are folded each on its own: what holds of one anchor's fold in s holds of it after all. -/
theorem State.folds_spec {s : State} {f : State → Nat → State} {R : Nat → Anchor → Prop}
    (hf : ∀ t i, State.Folded s t → t.anchor i = s.anchor i → State.Folded s (f t i) ∧ R i ((f t i).anchor i) ∧
      ∀ j, j ≠ i → (f t i).anchor j = t.anchor j) {l : List Nat} (hl : l.Nodup) {t : State} (ht : State.Folded s t)
    (hsame : ∀ i ∈ l, t.anchor i = s.anchor i) :
    State.Folded s (l.foldl f t) ∧ (∀ i ∈ l, R i ((l.foldl f t).anchor i)) ∧ ∀ i, i ∉ l → (l.foldl f t).anchor i = t.anchor i := by
  induction l generalizing t with
  | nil => exact ⟨ht, fun _ h => (List.not_mem_nil h).elim, fun _ _ => rfl⟩
  | cons k l ih =>
    obtain ⟨hk, hnodup⟩ := List.nodup_cons.1 hl
    obtain ⟨hfolded, hR, hother⟩ := hf t k ht (hsame k (List.mem_cons_self ..))
    have hne {i : Nat} (hi : i ∈ l) : i ≠ k := fun h => hk (h ▸ hi)
    obtain ⟨hall, heach, hleft⟩ := ih hnodup hfolded fun i hi => by rw [hother i (hne hi), hsame i (List.mem_cons_of_mem _ hi)]
    rw [List.foldl_cons]
    refine ⟨hall, fun i hi => ?_, fun i hi => ?_⟩
    · rcases List.mem_cons.1 hi with rfl | hi
      · rwa [hleft i hk]
      · exact heach i hi
    · rw [List.mem_cons, not_or] at hi
      rw [hleft i hi.2, hother i hi.1]

/-! ### A lost record calls for new bases -/

theorem State.captures_spec {s : State} (r : RegionNo) (l : List Nat) (hwf : s.RegWf) :
    (∀ i, ((l.foldl (fun s i => s.sendMsg r (.capture i)) s).rgn r).awaits i = true ↔ (s.rgn r).awaits i = true ∨ i ∈ l) ∧
    ∀ k, k ≠ r → (l.foldl (fun s i => s.sendMsg r (.capture i)) s).rgn k = s.rgn k := by
  induction l generalizing s with
  | nil => exact ⟨fun i => by simp, fun _ _ => rfl⟩
  | cons j l ih =>
    obtain ⟨hawaits, hother⟩ := ih (State.sendMsg_wf r (.capture j) hwf)
    rw [List.foldl_cons]
    refine ⟨fun i => ?_, fun k hk => (hother k hk).trans (s.rgn_sendMsg_ne _ hk)⟩
    rw [hawaits, State.awaits_sendMsg r _ i hwf, List.mem_cons, Msg.capture.injEq, eq_comm (a := j), or_assoc]

theorem State.captured_of_active {s : State} {g : Region} {i : Nat} (hst : (s.anchor i).state = 2) :
    s.captured g i = (s.raise evAnchorRebased (s.anchorArg i)).modAnchor i fun a => a.rebase g := if_pos hst

theorem Anchor.rebase_of_active {a : Anchor} {g : Region} (h : a.state = 2) : a.rebase g = { a with
    baseCycle := g.cycle, baseErg := captureQ g.edge, baseTg := g.tg, baseN := g.nominal, based := false, rebased := true } := by
  simp [Anchor.rebase, h]

/-- Settles O25: a fold reads and moves its own anchor alone, so the folds of all are each their own; without records a base moves by the
stride that the settled point and the newest records allow. -/
theorem anchorsAreFolded : Obligations.AnchorsAreFolded := by
  refine ⟨fun s hreg hwin => ?window, fun s hwin => if_pos hwin, fun s hreg hfull hpressure => ?pressure,
    fun s hfull hpressure => if_pos ⟨hfull, by simp [hpressure]⟩, fun r s hreg => ?loss,
    fun r i s hreg hcapture hst hclocked hstop hfound _ => ?rebase⟩
  case window =>
    let f : State → Nat → State := fun s i =>
      let reach := (s.anchor i).reach
      if reach ≤ s.win then s.foldTo i ((s.win - reach) * windowQ) else s
    have hrun : exec .anchorFold s = .next (s.allActive.foldl f s) := if_neg (not_not.2 hwin)
    let R : Nat → Anchor → Prop := fun i a => a = if (s.anchor i).reach ≤ s.win
      then (s.foldTo i ((s.win - (s.anchor i).reach) * (256 * 32768))).anchor i else s.anchor i
    have hf (t : State) (i : Nat) (ht : State.Folded s t) (hi : t.anchor i = s.anchor i) : State.Folded s (f t i) ∧
        R i ((f t i).anchor i) ∧ ∀ j, j ≠ i → (f t i).anchor j = t.anchor j := by
      have hnow : t.win = s.win := congrArg (fun y : Sys => y.erg / 256) (ht.only.same .sys (by decide))
      simp only [f, R, hi, hnow]
      split
      · exact ⟨ht.trans (t.foldTo_folded i _ ht.wf), ht.foldTo hreg.anchors _ hi, fun j hj => t.anchor_foldTo_ne _ hj⟩
      · exact ⟨ht, hi, fun _ _ => rfl⟩
    obtain ⟨hfolded, heach, hrest⟩ := State.folds_spec hf (State.allActive_nodup hreg.anchors) (.refl hreg.anchors) fun _ _ => rfl
    refine ⟨_, hrun, exec_only hrun, hfolded.et, fun i hi => hrest i fun h => hi ((State.mem_allActive hreg.anchors i).1 h),
      fun i hst hearly => ?_, fun i hst hreach => ?_⟩
    · exact (heach i ((State.mem_allActive hreg.anchors i).2 hst)).trans (if_neg (by omega))
    · have hi := (heach i ((State.mem_allActive hreg.anchors i).2 hst)).trans (if_pos hreach)
      rw [hi]
      refine ⟨rfl, fun hbusy hbased hawaits hx hrecords htg => ?_, fun hidle => by rw [State.foldTo_of_idle hidle]⟩
      have hfold := State.anchor_foldTo_of_no_records hreg.anchors hbusy hbased hawaits hx hrecords
      obtain ⟨hm, hstop, hfits, hover⟩ := Walk.stride_spec (w := (s.anchor i).start)
        (x := (min ((s.win - (s.anchor i).reach) * (256 * 32768)) ((s.now - 1024) * 32768) : Nat))
        (lim := ((s.now - 1024) * 32768 : Nat)) (top := s.foldTop (s.anchor i)) (Int.natCast_pos.2 htg) (Int.ofNat_lt.2 hx)
      dsimp only at hfold
      generalize (s.anchor i).start.stride (min ((s.win - (s.anchor i).reach) * (256 * 32768)) ((s.now - 1024) * 32768) : Nat)
        ((s.now - 1024) * 32768 : Nat) (s.foldTop (s.anchor i)) = m at hfold hm hstop hfits hover
      obtain ⟨k, rfl⟩ := Int.eq_ofNat_of_zero_le hm
      have herg : ((s.foldTo i ((s.win - (s.anchor i).reach) * (256 * 32768))).anchor i).baseErg =
          (s.anchor i).baseErg + k * (s.anchor i).baseTg := by
        rw [hfold]
        exact Int.toNat_natCast ((s.anchor i).baseErg + k * (s.anchor i).baseTg)
      have hcycle : ((s.foldTo i ((s.win - (s.anchor i).reach) * (256 * 32768))).anchor i).baseCycle = (s.anchor i).baseCycle + k := by
        rw [hfold]
        exact Int.toNat_natCast ((s.anchor i).baseCycle + k)
      rw [herg, hcycle]
      simp only [Anchor.start] at hstop hfits hover
      refine ⟨k, rfl, rfl, ?_, fun hk => ?_, by exact_mod_cast hover, by rw [hfold]⟩
      · exact_mod_cast hstop
      · obtain ⟨hlim, htop⟩ := hfits (by omega)
        exact ⟨by exact_mod_cast hlim, by exact_mod_cast htop⟩
  case pressure =>
    have hraise : Only [.ev] s (s.raise evLedgerPressure 0) :=
      (Keeps.raise_keeps (List.Subset.refl _) (Keeps.refl s) evLedgerPressure 0).only
    let f : State → Nat → State := fun s i => if 73728 ≤ s.unfolded then s.foldTo i ((s.now - 1024) * 32768) else s
    let t := (s.raise evLedgerPressure 0).byBase.foldl f (s.raise evLedgerPressure 0)
    have hrun : exec .ledgerPressure s = .next { t with et := { t.et with pressure := decide (73728 ≤ t.unfolded) } } := by
      have hexec : exec .ledgerPressure s = execLedgerPressure s := rfl
      rw [hexec, execLedgerPressure, if_neg (by omega), if_neg (by simp [hpressure])]
    generalize hu : s.raise evLedgerPressure 0 = u at hraise
    have het : u.et = s.et := hraise.same .et (by decide)
    have hwf : Map.wf {} u.et.anchors = true := het ▸ hreg.anchors
    have hstart : State.Folded s u := ⟨⟨fun g hg => hraise.same g fun h => hg (by simp at h; simp [h])⟩, by rw [het], hwf⟩
    let R : Nat → Anchor → Prop := fun i a => a = s.anchor i ∨ a = (s.foldTo i ((s.now - 1024) * 32768)).anchor i
    have hf (t : State) (i : Nat) (ht : State.Folded s t) (hi : t.anchor i = s.anchor i) : State.Folded s (f t i) ∧
        R i ((f t i).anchor i) ∧ ∀ j, j ≠ i → (f t i).anchor j = t.anchor j := by
      have hnow : t.now = s.now := congrArg Sys.erg (ht.only.same .sys (by decide))
      simp only [f, R, hnow]
      split
      · exact ⟨ht.trans (t.foldTo_folded i _ ht.wf), .inr (ht.foldTo hreg.anchors _ hi), fun j hj => t.anchor_foldTo_ne _ hj⟩
      · exact ⟨ht, .inl hi, fun _ _ => rfl⟩
    have hnodup : u.byBase.Nodup := (State.byBase_perm u).nodup_iff.2 (State.allActive_nodup hwf)
    obtain ⟨hfolded, heach, hrest⟩ := State.folds_spec hf hnodup hstart fun i _ => State.anchor_congr het i
    have ht : t = u.byBase.foldl f u := by
      simp only [t, hu]
    rw [ht] at hrun
    have hquiet : (u.byBase.foldl f u).ev = u.ev :=
      (Keeps.foldl (fun _ i ht => .ite (Keeps.foldTo_keeps (gs := [.et]) (List.Subset.refl _) ht i _) ht) (Keeps.refl u)).only.same .ev
        (by decide)
    generalize u.byBase.foldl f u = v at *
    have hring : v.et.ring = s.et.ring := by rw [hfolded.et]
    refine ⟨_, hrun, hquiet, rfl, fun i => ?_, hring, exec_only hrun⟩
    by_cases hi : i ∈ u.byBase
    · exact heach i hi
    · exact .inl ((hrest i hi).trans (State.anchor_congr het i))
  case loss =>
    let l := (s.activeAnchors r).filter fun i => s.lossBefore i && !(s.rgn r).awaits i
    have hrun : exec (.ledgerLoss r) s = .next (l.foldl (fun s i => s.sendMsg r (.capture i)) s) := rfl
    obtain ⟨hawaits, hother⟩ := State.captures_spec r l hreg.regions
    refine ⟨_, hrun, fun i hst hregion hloss => (hawaits i).2 ?_, fun i hloss => ?_, hother, exec_only hrun⟩
    · by_cases h : (s.rgn r).awaits i = true
      · exact .inl h
      · exact .inr (List.mem_filter.2 ⟨(State.mem_activeAnchors r hreg.anchors i).2 ⟨hst, hregion⟩, by simp [hloss, h]⟩)
    · refine Bool.eq_iff_iff.2 ((hawaits i).trans (or_iff_left fun h => ?_))
      have hfilter := (List.mem_filter.1 h).2
      simp [hloss] at hfilter
  case rebase =>
    have hb := s.based_spec r hreg hfound
    have hrun := exec_anchorCapture hcapture hclocked hstop hfound
    generalize s.based r = v at hb hrun
    have hanchors : v.et.anchors = s.et.anchors := (congrArg Et.anchors hb.et :)
    have hsys : v.sys = s.sys := hb.only.same .sys (by decide)
    have hv (k : Nat) : v.anchor k = s.anchor k := by rw [State.anchor, hanchors, State.anchor]
    have harg : v.anchorArg i = s.anchorArg i := by rw [State.anchorArg, State.anchorId_congr i (hv i), hv, ← State.anchorArg]
    rw [State.captured_of_active (by rw [hv, hst]), harg] at hrun
    have hraise : Only [.ev] v (v.raise evAnchorRebased (s.anchorArg i)) :=
      (Keeps.raise_keeps (List.Subset.refl _) (Keeps.refl v) evAnchorRebased (s.anchorArg i)).only
    have hev (hlen : (s.rgn r).former.len = 0) := State.raise_ev_congr (s := s) (t := v) evAnchorRebased (s.anchorArg i)
      (congrArg Sys.epoch hsys) (congrArg Sys.erg hsys) (hb.quiet hlen)
    generalize v.raise evAnchorRebased (s.anchorArg i) = w at *
    have hw (k : Nat) : w.anchor k = s.anchor k := (State.anchor_congr (hraise.same .et (by decide)) k).trans (hv k)
    have hwwf : Map.wf {} w.et.anchors = true := by
      rw [hraise.same .et (by decide), hanchors]
      exact hreg.anchors
    have hrgn : w.rgn r = v.rgn r := State.rgn_congr (hraise.same .reg (by decide)) r
    refine ⟨_, hrun, (congrArg Region.capture hrgn).trans hb.capture, ?_, fun k hk => ?_, hev, exec_only hrun⟩
    · rw [w.anchor_modAnchor i _ hwwf, hw, Anchor.rebase_of_active hst]
      rfl
    · rw [w.anchor_modAnchor_ne _ hk, hw]

end Sys2Proof.Machine
end

section
/-! SUPPORT. Groups left alone by one step after the other. -/
namespace Sys2Proof.Safety
open Sys2Proof.Machine

theorem Only.trans {gs : List Group} {s t u : State} (h : Only gs s t) (k : Only gs t u) : Only gs s u :=
  ⟨fun g hg => g.same_trans (h.same g hg) (k.same g hg)⟩

theorem Only.mono {gs hs : List Group} {s t : State} (h : Only gs s t) (k : gs ⊆ hs) : Only hs s t :=
  ⟨fun g hg => h.same g fun hm => hg (k hm)⟩

end Sys2Proof.Safety
end

section
/-! SUPPORT. Replicas, the window discipline of Erg time and the crystal (R107, R108, R111-R115). -/
namespace Sys2Proof.Machine
open Sys2Proof.Safety

theorem State.only_et (s : State) (e : Et) : Only [.et] s { s with et := e } :=
  ⟨fun g hg => by cases g with
    | et => exact absurd (List.mem_singleton_self _) hg
    | _ => rfl⟩

/-! ### A replica's check -/

/-- A replica's check is made once in its slot. -/
structure SlotDue (r : RegionNo) (s : State) : Prop where
  clocked : s.clocked r = true
  reset : (s.rgn r).inReset = false
  runs : (s.rgn r).rep.stopped = false
  boundary : s.now % 256 = 0
  once : (s.rgn r).rep.slotAt ≠ some s.win

theorem exec_replicaSlotCheck_of_crc {r : RegionNo} {slipped : Int} {s : State} (h : SlotDue r s) :
    exec (.replicaSlotCheck r false slipped) s = .next (s.modRgn r fun g => { g with
      rep := { g.rep with crcErr := g.rep.crcErr + 1, skew := g.rep.skew + slipped, slotAt := some s.win } }) := by
  have hrun : exec (.replicaSlotCheck r false slipped) s = execReplicaSlotCheck r false slipped s := rfl
  rw [hrun, execReplicaSlotCheck, if_neg (by simp [h.clocked, h.reset, h.runs, h.boundary, h.once])]
  rfl

/-- Whether a check that reads slot x with the replica's own count `own` tells its correction: once in 64 slots. -/
def State.saysFix (s : State) (r : RegionNo) : Bool :=
  match (s.rgn r).rep.fixAt with
  | some w => decide (w + 64 ≤ s.win)
  | none => true

/-- The state in which the replica of region r has taken a slot's count. -/
def State.slotTaken (s : State) (r : RegionNo) (x : Slot1) (fixed say : Bool) : State :=
  let s := s.modRgn r fun g => { g with
    rep := { g.rep with
      found := true, skew := (x.next.toNat : Int) - s.now, slotAt := some s.win
      fixAt := if say then some s.win else g.rep.fixAt }
    stop := if fixed then g.stop.map fun x => { x with fixed := true } else g.stop }
  if fixed then { s with et := { s.et with fix := s.et.fix + 1 } } else s

theorem exec_replicaSlotCheck_of_slot {r : RegionNo} {slipped : Int} {x : Slot1} {s : State} (h : SlotDue r s) (hx : s.slotAt r = some x) :
    exec (.replicaSlotCheck r true slipped) s = .next
      (((s.slotTaken r x (decide (s.replicaCount r + slipped ≠ x.next.toNat))
          (decide (s.replicaCount r + slipped ≠ x.next.toNat) && s.saysFix r)).raiseIf
        (decide (s.replicaCount r + slipped ≠ x.next.toNat) && s.saysFix r) evErgReplicaFix r).heartbeat r) := by
  have hrun : exec (.replicaSlotCheck r true slipped) s = execReplicaSlotCheck r true slipped s := rfl
  have hread : (if true = true then (s.slotAt r).bind fun x => readSlot x.symbols else none) = some x := by
    rw [if_pos rfl, hx]
    exact x.readSlot_symbols
  rw [hrun, execReplicaSlotCheck, if_neg (by simp [h.clocked, h.reset, h.runs, h.boundary, h.once])]
  dsimp only
  rw [hread]
  rfl

theorem State.partner_modRgn {s : State} (r : RegionNo) {f : Region → Region} (hwf : s.RegWf)
    (hf : ∀ g k, (f g).partner k = g.partner k) (q k : Nat) : ((s.modRgn r f).rgn q).partner k = (s.rgn q).partner k := by
  rcases Decidable.em (q = r) with rfl | hq
  · rw [s.rgn_modRgn q f hwf, hf]
  · rw [s.rgn_modRgn_ne f hq]

/-- What a taken slot leaves: the region's replica and open stop, and the count of corrections. -/
structure State.SlotTaken (s : State) (r : RegionNo) (x : Slot1) (fixed say : Bool) (t : State) : Prop where
  region : t.rgn r = { s.rgn r with
    rep := { (s.rgn r).rep with
      found := true, skew := (x.next.toNat : Int) - s.now, slotAt := some s.win
      fixAt := if say then some s.win else (s.rgn r).rep.fixAt }
    stop := if fixed then (s.rgn r).stop.map fun x => { x with fixed := true } else (s.rgn r).stop }
  other : ∀ k, k ≠ r → t.rgn k = s.rgn k
  wf : t.RegWf
  et : t.et = if fixed then { s.et with fix := s.et.fix + 1 } else s.et
  only : Only [.reg, .et] s t
  crossing : ∀ id, t.xState id = s.xState id

theorem State.slotTaken_spec {s : State} (r : RegionNo) (x : Slot1) (fixed say : Bool) (hwf : s.RegWf) :
    State.SlotTaken s r x fixed say (s.slotTaken r x fixed say) := by
  let f : Region → Region := fun g => { g with
    rep := { g.rep with
      found := true, skew := (x.next.toNat : Int) - s.now, slotAt := some s.win
      fixAt := if say then some s.win else g.rep.fixAt }
    stop := if fixed then g.stop.map fun x => { x with fixed := true } else g.stop }
  have hmod : Keeps [.reg, .et] s (s.modRgn r f) := Keeps.modRgn_keeps (by decide) (Keeps.refl s) r f
  have hself := s.rgn_modRgn r f hwf
  have hother (k : Nat) (hk : k ≠ r) : (s.modRgn r f).rgn k = s.rgn k := s.rgn_modRgn_ne f hk
  have hpartner := State.partner_modRgn (s := s) r (f := f) hwf fun _ _ => rfl
  cases fixed with
  | false =>
    exact ⟨hself, hother, s.modRgn_wf r f hwf, rfl, hmod.only,
      fun _ => State.xState_congr (s := s) (t := s.modRgn r f) rfl rfl rfl rfl hpartner rfl⟩
  | true =>
    let u : State := { s.modRgn r f with et := { s.et with fix := s.et.fix + 1 } }
    have hu : Only [.reg, .et] s u := hmod.only.trans ((s.modRgn r f).only_et { s.et with fix := s.et.fix + 1 } |>.mono (by decide))
    exact ⟨hself, hother, s.modRgn_wf r f hwf, rfl, hu,
      fun _ => State.xState_congr (s := s) (t := u) rfl rfl rfl rfl hpartner rfl⟩

/-- A slot of a WHOLE count crossing is a heartbeat (R192). -/
def beaten (h : RgnHb) (whole : Bool) (checks : Nat) : RgnHb :=
  let n := (h.src + 1) % 256
  if whole then { h with src := n, snap := n, total := h.total + (n + 256 - h.snap) % 256, at_ := checks }
  else { h with src := (h.src + 1) % 256 }

theorem State.rgn_heartbeat (s : State) (r : RegionNo) (hwf : s.RegWf) :
    (s.heartbeat r).rgn r = { s.rgn r with hb := beaten (s.rgn r).hb (decide (s.xState (xId 8 r) = .whole)) s.die.checks } := by
  unfold State.heartbeat
  dsimp only
  rw [s.rgn_modRgn r _ hwf, beaten]
  split <;> rfl

theorem State.rgn_heartbeat_ne (s : State) {r k : RegionNo} (h : k ≠ r) : (s.heartbeat r).rgn k = s.rgn k := s.rgn_modRgn_ne _ h

/-- What a heartbeat with an event before it leaves of the state u of a taken slot. -/
structure State.Beaten (s u : State) (r : RegionNo) (say : Bool) (t : State) : Prop where
  region : t.rgn r = { u.rgn r with hb := beaten (u.rgn r).hb (decide (s.xState (xId 8 r) = .whole)) s.die.checks }
  other : ∀ k, k ≠ r → t.rgn k = u.rgn k
  et : t.et = u.et
  ev : t.ev = (u.raiseIf say evErgReplicaFix r).ev
  only : Only [.reg, .ev] u t

theorem State.beaten_spec {s u : State} {r : RegionNo} {x : Slot1} {fixed say' : Bool} (say : Bool) (h : State.SlotTaken s r x fixed say' u) :
    State.Beaten s u r say ((u.raiseIf say evErgReplicaFix r).heartbeat r) := by
  have hraise : Keeps [.ev] u (u.raiseIf say evErgReplicaFix r) :=
    Keeps.raiseIf_keeps (List.Subset.refl _) (Keeps.refl u) say evErgReplicaFix r
  generalize hv : u.raiseIf say evErgReplicaFix r = v at hraise
  have hreg : v.reg = u.reg := hraise.only.same .reg (by decide)
  have hbeat : Only [.reg] v (v.heartbeat r) := (Keeps.heartbeat_keeps (List.Subset.refl _) (Keeps.refl v) r).only
  have hchecks : v.die.checks = s.die.checks :=
    congrArg Dies.checks ((hraise.only.same .die (by decide)).trans (h.only.same .die (by decide)))
  have hstate : v.xState (xId 8 r) = s.xState (xId 8 r) := by
    refine Eq.trans ?_ (h.crossing _)
    have hxg : v.xg = u.xg := hraise.only.same .xg (by decide)
    exact State.xState_congr (hraise.only.same .die (by decide)) (congrArg Sys.epoch (hraise.only.same .sys (by decide)))
      (hraise.only.same .cfg (by decide)) (congrArg Xg.lane hxg) (fun k _ => by rw [State.rgn_congr hreg k])
      (by rw [State.xing, hxg, State.xing])
  refine ⟨?_, fun k hk => (v.rgn_heartbeat_ne hk).trans (State.rgn_congr hreg k), ?_, ?_, ?_⟩
  · rw [v.rgn_heartbeat r (by rw [State.RegWf, hreg]; exact h.wf), hstate, hchecks, State.rgn_congr hreg]
  · exact (hbeat.same .et (by decide)).trans (hraise.only.same .et (by decide))
  · exact (hbeat.same .ev (by decide)).trans (by rw [hv])
  · exact (hraise.only.mono (by decide)).trans (hbeat.mono (by decide))

/-! ### The window discipline -/

/-- The state in which the registers of a window boundary have taken effect. -/
def State.ticked (s : State) : State :=
  { s with
    et := { s.et with ctrl := s.et.ctrl.tick s.now, stepAt := some s.now }
    xg := { s.xg with ctrl := s.xg.ctrl.tick s.now }
    sp := { s.sp with ctrl := s.sp.ctrl.tick s.now, bounds := s.sp.bounds.tick s.now, host := s.sp.host.tick s.now } }

/-- Which of crystal and span link gives the time at a window boundary. -/
def State.holdoverStep (s : State) : State :=
  let any := s.eligible s.sp.p0 || s.eligible s.sp.p1
  if s.et.xtalLost then
    if s.suspended then s
    else if s.et.holdover ∧ bitOf s.et.ctrl.eff 2 ∧ any then
      { s with et := { s.et with holdover := false, span := true, ownTo := s.et.ownTo.orElse fun _ => some s.et.rateTo } }
    else if s.et.span ∧ (!bitOf s.et.ctrl.eff 2 ∨ !any) then { s with et := { s.et with holdover := true, span := false } }
    else s
  else s

/-- The choice of a source, and what SPAN says of it. -/
def State.sourced (s : State) : State :=
  if s.reselect.et.xtalLost then s.reselect
  else { s.reselect with et := { s.reselect.et with span := decide (s.reselect.discSrc = 1 ∧ s.reselect.sp.source ≠ 0) } }

def State.stepped (s : State) : State :=
  if s.suspended ∨ s.et.holdover then s else { s with et := s.et.rateStep.rackStep }

theorem exec_ergWindowDiscipline {s : State} (hepoch : s.sys.epoch = true) (hwin : s.now % 256 = 0) (honce : s.et.stepAt ≠ some s.now) :
    exec .ergWindowDiscipline s =
      .next (if s.ticked.discSrc = s.discSrc then s.ticked else s.ticked.dropSource s.discSrc).holdoverStep.sourced.stepped := by
  have hrun : exec .ergWindowDiscipline s = execErgWindowDiscipline s := rfl
  rw [hrun, execErgWindowDiscipline, if_neg (by simp [hepoch, hwin, honce])]
  unfold State.stepped
  exact (apply_ite Host.Outcome.next _ _ _).symm

/-- What the choice of a source leaves of Erg time's own words. -/
theorem State.reselect_et (s : State) : s.reselect.et = { s.et with idleFrom := s.reselect.et.idleFrom } := rfl

theorem State.sourced_et (s : State) : s.sourced.et = { s.et with idleFrom := s.sourced.et.idleFrom, span := s.sourced.et.span } := by
  unfold State.sourced
  split
  · exact s.reselect_et
  · rw [s.reselect_et]

theorem State.sourced_only (s : State) : Only [.et, .sp] s s.sourced := by
  have h := (Keeps.reselect_keeps (List.Subset.refl _) (Keeps.refl s)).only
  unfold State.sourced
  split
  · exact h
  · exact h.trans ((s.reselect.only_et _).mono (by decide))

theorem State.sourced_suspended (s : State) : s.sourced.suspended = s.suspended :=
  congrArg (fun y : Sys => decide (y.hold ≠ 0) || decide (y.follow ≠ 0)) (s.sourced_only.same .sys (by decide))

/-- The rate moves by at most 16 of its finest steps, 1/320 ppb each (R111). -/
theorem Et.rateStep_bound (e : Et) :
    (e.rateStep.rate * 20 + e.rateStep.rateFine - (e.rate * 20 + e.rateFine)).natAbs ≤ 16 := by
  simp only [Et.rateStep, clampI]
  omega

theorem Et.rackStep_rate (e : Et) : e.rackStep.rate = e.rate ∧ e.rackStep.rateFine = e.rateFine := by
  unfold Et.rackStep
  split <;> exact ⟨rfl, rfl⟩

/-- The rack offset moves by at most 1/16 ns, toward the offset to slew to (R112). -/
theorem Et.rackStep_bound (e : Et) : (e.rackStep.rack - e.rack).natAbs ≤ 4096 ∧
    ∀ x, e.rackTo = some x → (x - e.rackStep.rack).natAbs = (x - e.rack).natAbs - 4096 := by
  unfold Et.rackStep
  split
  next y hy =>
    refine ⟨?_, fun x hx => ?_⟩
    · simp only [clampI]
      omega
    · obtain rfl : y = x := Option.some.inj (hy.symm.trans hx)
      simp only [clampI]
      omega
  next hy =>
    exact ⟨by simp, fun x hx => by simp [hy] at hx⟩

theorem Et.rackStep_congr {e f : Et} (hrack : f.rack = e.rack) (hto : f.rackTo = e.rackTo) :
    f.rackStep.rack = e.rackStep.rack ∧ f.rackStep.rackTo = e.rackStep.rackTo := by
  unfold Et.rackStep
  rw [hrack, hto]
  split
  · exact ⟨rfl, rfl⟩
  · exact ⟨hrack, hto⟩

theorem Et.steps_words (e : Et) : e.rateStep.rackStep.ctrl = e.ctrl ∧ e.rateStep.rackStep.span = e.span ∧
    e.rateStep.rackStep.holdover = e.holdover := by
  unfold Et.rackStep
  split <;> exact ⟨rfl, rfl, rfl⟩

/-- What a window boundary leaves of rack offset and rate while discipline stands still. -/
theorem State.stepped_of_still {s : State} (h : s.suspended = true ∨ s.et.holdover = true) : s.stepped = s := if_pos h

theorem State.stepped_of_running {s : State} (hsus : s.suspended = false) (hover : s.et.holdover = false) :
    s.stepped = { s with et := s.et.rateStep.rackStep } := if_neg (by simp [hsus, hover])

/-- What the choice of the time's giver keeps: all but HOLDOVER, SPAN and the correction kept for the crystal. -/
theorem State.holdoverStep_et (s : State) : s.holdoverStep.et =
    { s.et with holdover := s.holdoverStep.et.holdover, span := s.holdoverStep.et.span, ownTo := s.holdoverStep.et.ownTo } := by
  unfold State.holdoverStep
  dsimp only
  split
  · split
    · rfl
    · split
      · rfl
      · split <;> rfl
  · rfl

theorem State.holdoverStep_sys (s : State) : s.holdoverStep.sys = s.sys := by
  unfold State.holdoverStep
  dsimp only
  split
  · split
    · rfl
    · split
      · rfl
      · split <;> rfl
  · rfl

theorem State.holdoverStep_of_off {s : State} (hlost : s.et.xtalLost = true) (hover : s.et.holdover = true)
    (hoff : bitOf s.et.ctrl.eff 2 = false) : s.holdoverStep.et.holdover = true := by
  unfold State.holdoverStep
  dsimp only
  rw [if_pos hlost]
  split
  · exact hover
  · rw [if_neg (by simp [hoff])]
    split
    · rfl
    · exact hover

theorem State.holdoverStep_of_peer {s : State} (hlost : s.et.xtalLost = true) (hsus : s.suspended = false) (hover : s.et.holdover = true)
    (hon : bitOf s.et.ctrl.eff 2 = true) (hany : (s.eligible s.sp.p0 || s.eligible s.sp.p1) = true) : s.holdoverStep =
      { s with et := { s.et with holdover := false, span := true, ownTo := s.et.ownTo.orElse fun _ => some s.et.rateTo } } := by
  unfold State.holdoverStep
  dsimp only
  rw [if_pos hlost, if_neg (by rw [Bool.not_eq_true]; exact hsus), if_pos ⟨hover, hon, hany⟩]

/-- What dropping a source leaves of Erg time's own words. -/
theorem State.dropSource_et (s : State) (old : Nat) : (s.dropSource old).et =
    { s.et with rackTo := none, hostLast := (s.dropSource old).et.hostLast, host := (s.dropSource old).et.host } := by
  unfold State.dropSource
  dsimp only
  split <;> rfl

/-- The state before discipline at a window boundary, whether or not its source has been dropped. -/
def State.sourceTicked (s : State) : State :=
  if s.ticked.discSrc = s.discSrc then s.ticked else s.ticked.dropSource s.discSrc

structure State.SourceTicked (s t : State) : Prop where
  ctrl : t.et.ctrl = s.et.ctrl.tick s.now
  rack : t.et.rack = s.et.rack
  rate : t.et.rate = s.et.rate
  rateFine : t.et.rateFine = s.et.rateFine
  lost : t.et.xtalLost = s.et.xtalLost
  holdover : t.et.holdover = s.et.holdover
  sys : t.sys = s.sys

theorem State.sourceTicked_spec (s : State) : State.SourceTicked s s.sourceTicked := by
  unfold State.sourceTicked
  split
  · exact ⟨rfl, rfl, rfl, rfl, rfl, rfl, rfl⟩
  · have hsys : (s.ticked.dropSource s.discSrc).sys = s.sys :=
      (Keeps.dropSource_keeps (List.Subset.refl _) (Keeps.refl s.ticked) s.discSrc).only.same .sys (by decide)
    constructor
    case sys => exact hsys
    all_goals
      rw [State.dropSource_et]
      rfl

theorem exec_ergWindowDiscipline_still {s : State} (hepoch : s.sys.epoch = true) (hwin : s.now % 256 = 0)
    (honce : s.et.stepAt ≠ some s.now)
    (hstill : s.sourceTicked.holdoverStep.suspended = true ∨ s.sourceTicked.holdoverStep.et.holdover = true) :
    exec .ergWindowDiscipline s = .next s.sourceTicked.holdoverStep.sourced := by
  rw [exec_ergWindowDiscipline hepoch hwin honce, ← State.sourceTicked, State.stepped_of_still]
  rw [State.sourced_suspended, State.sourced_et]
  exact hstill

theorem State.suspended_congr {s t : State} (h : t.sys = s.sys) : t.suspended = s.suspended :=
  congrArg (fun y : Sys => decide (y.hold ≠ 0) || decide (y.follow ≠ 0)) h

/-- Settles O26: a replica's check is followed by what it reads in its slot; a window boundary by what its register tick, its source, its
giver of time and its steps each leave; the crystal's events are their own equations. -/
theorem replicasDisciplineAndCrystal : Obligations.ReplicasDisciplineAndCrystal := by
  refine ⟨fun r slipped s hreg hclocked hreset hruns hwin honce => ?crc, fun r ok slipped s hnot => ?notDue,
    fun r slipped x s hreg hclocked hreset hruns hwin honce hslot hcount => ?fix,
    fun r slipped x s hreg hclocked hreset hruns hwin honce hslot hcount hwhole => ?good,
    fun s honce => if_pos (.inr (.inr honce)), fun s hepoch hwin honce hsrc hsus hlost hover => ?discipline,
    fun s hepoch hwin honce hsus => ?still, fun s hepoch hwin honce hlost hover hoff => ?held,
    fun s hepoch hwin honce hlost hover hsrc hon hsus hpeer => ?peer, fun a s hidle hdue => ?idle, fun s hreset hlost => ?loss,
    fun s hreset hlost => ?lossAgain, fun s at0 hlost hat hdue => ?restored⟩
  case crc =>
    have hrun := exec_replicaSlotCheck_of_crc (slipped := slipped) ⟨hclocked, hreset, hruns, hwin, honce⟩
    exact ⟨_, hrun, s.rgn_modRgn r _ hreg.regions, fun k hk => s.rgn_modRgn_ne _ hk,
      (Keeps.modRgn_keeps (gs := [.reg]) (List.Subset.refl _) (Keeps.refl s) r _).only⟩
  case notDue =>
    refine if_pos ?_
    rcases hnot with h | h
    · exact .inr (.inr (.inr (.inl h)))
    · exact .inr (.inr (.inr (.inr h)))
  case fix =>
    have hrun := exec_replicaSlotCheck_of_slot (slipped := slipped) ⟨hclocked, hreset, hruns, hwin, honce⟩ hslot
    rw [decide_eq_true hcount, Bool.true_and] at hrun
    have h := s.slotTaken_spec r x true (s.saysFix r) hreg.regions
    have hb := State.beaten_spec (s.saysFix r) h
    generalize s.slotTaken r x true (s.saysFix r) = u at h hb hrun
    generalize ((u.raiseIf (s.saysFix r) evErgReplicaFix r).heartbeat r) = t at hb hrun
    have hself := hb.region.trans (by rw [h.region])
    have hnow : t.now = s.now := congrArg Sys.erg ((hb.only.same .sys (by decide)).trans (h.only.same .sys (by decide)))
    refine ⟨t, hrun, ?_, ?_, by rw [hself], by rw [hself]; rfl, by rw [hself], fun w hw hlate => ?_, fun hlong => ?_, ?_,
      fun k hk => (hb.other k hk).trans (h.other k hk), exec_only hrun⟩
    · rw [hb.et, h.et]
      rfl
    · rw [State.replicaCount, hself, hnow]
      simp [hruns]
    · have hsay : s.saysFix r = false := by
        rw [State.saysFix, hw]
        exact decide_eq_false (by omega)
      refine ⟨?_, by rw [hself, hsay]; exact hw⟩
      rw [hb.ev, hsay]
      exact h.only.same .ev (by decide)
    · have hsay : s.saysFix r = true := by
        unfold State.saysFix
        rcases hlong with hw | ⟨w, hw, hle⟩
        · rw [hw]
        · rw [hw]
          exact decide_eq_true hle
      refine ⟨?_, by rw [hself, hsay]; rfl⟩
      rw [hb.ev, hsay, State.raiseIf, if_pos rfl]
      exact State.raise_ev_congr _ _ (congrArg Sys.epoch (h.only.same .sys (by decide))) (congrArg Sys.erg (h.only.same .sys (by decide)))
        (h.only.same .ev (by decide))
    · rw [hself]
      simp only [beaten, decide_eq_true_eq]
  case good =>
    have hrun := exec_replicaSlotCheck_of_slot (slipped := slipped) ⟨hclocked, hreset, hruns, hwin, honce⟩ hslot
    rw [decide_eq_false (not_not.2 hcount), Bool.false_and] at hrun
    have h := s.slotTaken_spec r x false false hreg.regions
    have hb := State.beaten_spec false h
    generalize s.slotTaken r x false false = u at h hb hrun
    have hself := hb.region.trans (by rw [h.region, decide_eq_true hwhole])
    refine ⟨_, hrun, hself, fun k hk => (hb.other k hk).trans (h.other k hk), ?_⟩
    have honly : Only [.reg, .et] s (u.heartbeat r) :=
      h.only.trans ((Keeps.heartbeat_keeps (gs := [.reg, .et]) (by decide) (Keeps.refl u) r).only)
    refine ⟨fun g hg => ?_⟩
    by_cases hget : g = .et
    · subst hget
      exact hb.et.trans h.et
    · exact honly.same g (by simpa [hget] using hg)
  case discipline =>
    have hsame : s.ticked.discSrc = s.discSrc := hsrc
    have hu : s.ticked.holdoverStep = s.ticked := if_neg (by rw [Bool.not_eq_true]; exact hlost)
    have hrun := exec_ergWindowDiscipline hepoch hwin honce
    rw [if_pos hsame, hu, State.stepped_of_running (s.ticked.sourced_suspended.trans hsus)
      (by rw [State.sourced_et]; exact hover)] at hrun
    have het := s.ticked.sourced_et
    have hxg : s.ticked.sourced.xg = s.ticked.xg := s.ticked.sourced_only.same .xg (by decide)
    have hspan : s.ticked.sourced.et.span = decide (s.ticked.sourced.discSrc = 1 ∧ s.ticked.sourced.sp.source ≠ 0) := by
      have hlost' : s.ticked.reselect.et.xtalLost = false := by
        rw [State.reselect_et]
        exact hlost
      unfold State.sourced
      rw [if_neg (by rw [Bool.not_eq_true]; exact hlost')]
      rfl
    have honly := exec_only hrun
    generalize s.ticked.sourced = u at het hxg hspan hrun honly
    have hrack : u.et.rateStep.rack = s.et.rack ∧ u.et.rateStep.rackTo = s.et.rackTo := by
      rw [het]
      exact ⟨rfl, rfl⟩
    have hrate : u.et.rate = s.et.rate ∧ u.et.rateFine = s.et.rateFine := by
      rw [het]
      exact ⟨rfl, rfl⟩
    obtain ⟨hnear, htoward⟩ := Et.rackStep_bound u.et.rateStep
    have hsteps := Et.rackStep_congr (e := s.et) hrack.1 hrack.2
    have hrates := u.et.rateStep.rackStep_rate
    have hbound := u.et.rateStep_bound
    have hctrl : u.et.ctrl = s.et.ctrl.tick s.now := by rw [het]; rfl
    refine ⟨_, hrun, ?_, hxg, hsteps.1, hsteps.2, ?_, fun x hx => ?_, ?_, ?_, honly⟩
    · exact u.et.steps_words.1.trans hctrl
    · rwa [hrack.1] at hnear
    · have h := htoward x (hrack.2.trans hx)
      rwa [hrack.1] at h
    · dsimp only
      rw [hrates.1, hrates.2, ← hrate.1, ← hrate.2]
      exact hbound
    · dsimp only
      rw [u.et.steps_words.1, u.et.steps_words.2.1]
      exact hspan
  case still =>
    have h := s.sourceTicked_spec
    have hsus' : s.sourceTicked.holdoverStep.suspended = true :=
      (State.suspended_congr ((State.holdoverStep_sys _).trans h.sys)).trans hsus
    have hrun := exec_ergWindowDiscipline_still hepoch hwin honce (.inl hsus')
    have het := (State.sourced_et s.sourceTicked.holdoverStep).trans (by rw [State.holdoverStep_et])
    refine ⟨_, hrun, ?_, ?_, ?_, ?_, exec_only hrun⟩
    · rw [het]
      exact h.rack
    · rw [het]
      exact h.rate
    · rw [het]
      exact h.rateFine
    · rw [het]
      exact h.ctrl
  case held =>
    have h := s.sourceTicked_spec
    have hover' := State.holdoverStep_of_off (h.lost.trans hlost) (h.holdover.trans hover) (by rw [h.ctrl, hoff])
    have hrun := exec_ergWindowDiscipline_still hepoch hwin honce (.inr hover')
    have het := State.sourced_et s.sourceTicked.holdoverStep
    have hstep := State.holdoverStep_et s.sourceTicked
    refine ⟨_, hrun, ?_, ?_, ?_, exec_only hrun⟩
    · rw [het, hstep]
      exact h.rack
    · rw [het, hstep]
      exact h.rate
    · rw [het]
      exact hover'
  case peer =>
    have hsame : s.ticked.discSrc = s.discSrc := hsrc
    have heligible (p : SpanPort) : s.ticked.eligible p = s.eligible p := by
      have hrank : s.ticked.ownRank = s.ownRank := congrArg (fun c => (⟨c, s.ownId, 0⟩ : Rank)) ((if_pos hover).trans (if_pos hover).symm)
      unfold State.eligible
      rw [hrank]
      rfl
    have hany : (s.ticked.eligible s.ticked.sp.p0 || s.ticked.eligible s.ticked.sp.p1) = true := by
      rw [heligible, heligible, Bool.or_eq_true]
      exact hpeer
    have hu := State.holdoverStep_of_peer (s := s.ticked) hlost hsus hover hon hany
    have hrun := exec_ergWindowDiscipline hepoch hwin honce
    rw [if_pos hsame, hu] at hrun
    generalize hv : ({ s.ticked with et := { s.ticked.et with
      holdover := false, span := true, ownTo := s.ticked.et.ownTo.orElse fun _ => some s.ticked.et.rateTo } } : State) = v at hrun
    have hvlost : v.reselect.et.xtalLost = true := by
      rw [State.reselect_et, ← hv]
      exact hlost
    have hvsourced : v.sourced = v.reselect := if_pos hvlost
    have hvsus : v.sourced.suspended = false := v.sourced_suspended.trans (by rw [← hv]; exact hsus)
    have hvover : v.reselect.et.holdover = false := by rw [State.reselect_et, ← hv]
    have hvspan : v.reselect.et.span = true := by rw [State.reselect_et, ← hv]
    rw [State.stepped_of_running hvsus (by rw [hvsourced, hvover]), hvsourced] at hrun
    obtain ⟨_, hspan, hholdover⟩ := v.reselect.et.steps_words
    exact ⟨_, hrun, hholdover.trans hvover, hspan.trans hvspan, exec_only hrun⟩
  case idle =>
    have hrun : exec .rackAdoptIdle s = execRackAdoptIdle s := rfl
    rw [hrun, execRackAdoptIdle, hidle]
    exact if_pos hdue
  case loss =>
    have hrun : exec .xtalLoss s = .next (({ s with et := { s.et with
        xtalLost := true, holdover := true, span := false, lossAt := some s.now } } : State).raise evErgHoldover 0) :=
      (if_neg (by simp [hreset])).trans (if_neg (by simp [hlost]))
    refine ⟨_, hrun, ?_, State.raise_ev_congr _ _ rfl rfl rfl, exec_only hrun⟩
    exact (Keeps.raise_keeps (gs := [.ev]) (List.Subset.refl _) (Keeps.refl _) evErgHoldover 0).only.same .et (by decide)
  case lossAgain => exact (if_neg (by simp [hreset])).trans (if_pos hlost)
  case restored =>
    have hrun : exec .xtalRestored s = .next (({ s with et := { s.et with
        xtalLost := false, holdover := false, lossAt := none, rateTo := s.crystalRate, ownTo := none
        span := s.et.span && decide (fld s.et.ctrl.eff 1 0 = 1) } } : State).raise evXtalRestored 0) :=
      if_pos ⟨hlost, by rw [hat]; exact decide_eq_true hdue⟩
    refine ⟨_, hrun, ?_, State.raise_ev_congr _ _ rfl rfl rfl, exec_only hrun⟩
    exact (Keeps.raise_keeps (gs := [.ev]) (List.Subset.refl _) (Keeps.refl _) evXtalRestored 0).only.same .et (by decide)

end Sys2Proof.Machine
end

section
/-! SUPPORT. What the registers of a fence leave (R340, R352). -/
namespace Sys2Proof.Machine
open Sys2Proof.Safety

theorem eraseDups_nodup {α : Type} [DecidableEq α] : ∀ l : List α, l.eraseDups.Nodup
  | [] => List.nodup_nil
  | a :: l => by
    rw [List.eraseDups_cons]
    refine List.nodup_cons.2 ⟨fun h => ?_, eraseDups_nodup _⟩
    rw [List.mem_eraseDups, List.mem_filter] at h
    simp at h
termination_by l => l.length
decreasing_by exact Nat.lt_succ_of_le (List.length_filter_le _ _)

/-- What the registers written at a fence leave: mailboxes, handles, boot's step, Erg time and MB_XING_CTRL. -/
structure State.FenceKept (s t : State) : Prop where
  box : t.mbx.box = s.mbx.box
  handle : t.mbx.handle = s.mbx.handle
  boot : t.sys.bootStep = s.sys.bootStep
  erg : t.sys.erg = s.sys.erg
  ctrl : t.xg.ctrl = s.xg.ctrl

section
variable {o s t : State}

theorem State.FenceKept.refl (s : State) : State.FenceKept s s := ⟨rfl, rfl, rfl, rfl, rfl⟩

theorem State.FenceKept.trans (h : State.FenceKept o s) (k : State.FenceKept s t) : State.FenceKept o t :=
  ⟨k.box.trans h.box, k.handle.trans h.handle, k.boot.trans h.boot, k.erg.trans h.erg, k.ctrl.trans h.ctrl⟩

theorem State.FenceKept.of_only {gs : List Group} (h : Only gs s t) (hmbx : Group.mbx ∉ gs) (hsys : Group.sys ∉ gs) (hxg : Group.xg ∉ gs) :
    State.FenceKept s t :=
  ⟨congrArg Mbx.box (h.same .mbx hmbx), congrArg Mbx.handle (h.same .mbx hmbx), congrArg Sys.bootStep (h.same .sys hsys),
    congrArg Sys.erg (h.same .sys hsys), congrArg Xg.ctrl (h.same .xg hxg)⟩

theorem State.FenceKept.foldl {β : Type} {f : State → β → State} (hf : ∀ u x, State.FenceKept u (f u x)) (l : List β) :
    State.FenceKept s (l.foldl f s) :=
  List.foldlRecOn l f (.refl s) fun u hu x _ => hu.trans (hf u x)

theorem State.FenceKept.ite {c : Prop} [Decidable c] (hs : State.FenceKept o s) (ht : State.FenceKept o t) :
    State.FenceKept o (if c then s else t) := by
  split
  · exact hs
  · exact ht

theorem State.modLanes_fenceKept (s : State) (r k : Nat) (l : Option (RegionNo × Nat)) (f : Lane → Lane) :
    State.FenceKept s (match l with
      | some (p, k') => (s.modLane r k f).modLane p k' f
      | none => s) := by
  cases l with
  | none => exact .refl s
  | some _ => exact ⟨rfl, rfl, rfl, rfl, rfl⟩

theorem State.relane_fenceKept (old s : State) (r : RegionNo) : State.FenceKept s (old.relane s r) := by
  unfold State.relane
  dsimp only
  refine .ite (.refl s) (.foldl (fun u k => .ite (.refl u) ?_) _)
  exact (u.modLanes_fenceKept r k (old.linkEnd r k) Lane.leave).trans (State.modLanes_fenceKept _ r k (u.linkEnd r k) Lane.join)

theorem State.promote_fenceKept (s : State) (c : Bool) : State.FenceKept s (s.promote c) := by
  have h : State.FenceKept s (s.modCtrl c fun x => { x with st := .active, beat := s.now, copying := false, loadFrom := none }) :=
    .of_only (Keeps.modCtrl_keeps (gs := [.ctl]) (List.Subset.refl _) (Keeps.refl s) c _).only (by decide) (by decide) (by decide)
  exact h.trans ⟨rfl, rfl, rfl, rfl, rfl⟩

theorem State.standbyReady_fenceKept (s : State) (c : Bool) : State.FenceKept s (s.standbyReady c) := by
  have hctrl (f : Ctrl → Ctrl) : State.FenceKept s (s.modCtrl c f) :=
    .of_only (Keeps.modCtrl_keeps (gs := [.ctl]) (List.Subset.refl _) (Keeps.refl s) c f).only (by decide) (by decide) (by decide)
  have hclear (u : State) : State.FenceKept u (u.mlbClear (.retired (b2n c))) := ⟨rfl, rfl, rfl, rfl, rfl⟩
  have hraise (u : State) : State.FenceKept u (u.raise evCtrlStandbyReady (b2n c)) :=
    .of_only (Keeps.raise_keeps (gs := [.ev]) (List.Subset.refl _) (Keeps.refl u) _ _).only (by decide) (by decide) (by decide)
  have htake (u : State) : State.FenceKept u { u.promote c with ctl := { (u.promote c).ctl with takeover := true } } :=
    (u.promote_fenceKept c).trans ⟨rfl, rfl, rfl, rfl, rfl⟩
  unfold State.standbyReady
  refine .ite (.trans ?_ (htake _)) ?_ <;> exact ((hctrl _).trans (hclear _)).trans (hraise _)

theorem State.writeGlob_fenceKept (s : State) {b : Nat} (hb : b = 5 ∨ b = 9) (off : Nat) (w : Word) :
    State.FenceKept s (s.writeGlob b off w) := by
  rcases hb with rfl | rfl
  · have hclear (u : State) : State.FenceKept u u.clearLs :=
      .of_only (Keeps.clearLs_keeps (gs := [.ls]) (List.Subset.refl _) (Keeps.refl u)).only (by decide) (by decide) (by decide)
    refine .ite ⟨rfl, rfl, rfl, rfl, rfl⟩ (.ite (.ite (hclear s) (.refl s)) (.ite ?_ (.refl s)))
    have hbw : Keeps [.ls, .ev] s (s.modSynth ((off - 0x100) / 16) fun y => { y with bw := fld w 7 4 }) :=
      Keeps.modSynth_keeps (by decide) (Keeps.refl s) _ _
    have hen := Keeps.writeEn_keeps (List.Subset.refl _) hbw ((off - 0x100) / 16) (bitOf w 0) (bitOf w 2)
    dsimp only
    split
    next t ht =>
      have ht' : Keeps [.ls, .ev] s t := Keeps.optEq ht hen
      exact .of_only (Keeps.writePin_keeps (by decide) ht' _ _).only (by decide) (by decide) (by decide)
    · exact .refl s
  · have hfree (u : State) : State.FenceKept u u.standbyFree :=
      .foldl (fun v c => .ite (v.standbyReady_fenceKept c) (.refl v)) _
    have hput : State.FenceKept s { s with ctl := { s.ctl with ctrl := w } } := ⟨rfl, rfl, rfl, rfl, rfl⟩
    exact .ite (.ite (hput.trans (hfree _)) hput) (.ite ⟨rfl, rfl, rfl, rfl, rfl⟩ (.refl s))

/-- A fence writes every register but MB_XING_CTRL without touching what FenceKept names. -/
theorem State.fenceReg_fenceKept (s : State) {g : Reg} (hg : g.composed ≠ []) (hne : g ≠ .glob 6 0) (w : Word) (f : Nat) :
    State.FenceKept s (s.fenceReg g w f) := by
  cases g with
  | rgn b r off =>
    have hsend (c : Nat) : State.FenceKept s (s.sendCode r c) :=
      .of_only (Keeps.sendCode_keeps (gs := [.reg]) (List.Subset.refl _) (Keeps.refl s) r c).only (by decide) (by decide) (by decide)
    have hlatch (c at_ : Nat) : State.FenceKept s (s.latchCodeAt r c at_) := ⟨rfl, rfl, rfl, rfl, rfl⟩
    have hwrite : State.FenceKept s (s.writeRgnAt (f - 1) r off w) :=
      .of_only (Keeps.writeRgnAt_keeps (gs := [.reg, .ev]) (List.Subset.refl _) (Keeps.refl s) _ r off w).only (by decide) (by decide)
        (by decide)
    have hsettle (u : State) : State.FenceKept u (u.modRgn r Region.settleRegs) := ⟨rfl, rfl, rfl, rfl, rfl⟩
    exact .ite (.refl s) (.ite (.ite (hsend _) (hlatch _ _))
      (.ite hwrite ((hwrite.trans (hsettle _)).trans (State.relane_fenceKept _ _ r))))
  | glob b off =>
    match b with
    | 0 | 1 => exact absurd rfl hg
    | 2 | 3 => exact ⟨rfl, rfl, rfl, rfl, rfl⟩
    | 4 | 7 => exact .ite ⟨rfl, rfl, rfl, rfl, rfl⟩ ⟨rfl, rfl, rfl, rfl, rfl⟩
    | 5 => exact s.writeGlob_fenceKept (.inl rfl) off w
    | 6 =>
      by_cases hoff : off = 0
      · exact absurd (by rw [hoff]) hne
      · exact absurd (if_neg hoff) hg
    | 8 => exact .ite ⟨rfl, rfl, rfl, rfl, rfl⟩ (.ite ⟨rfl, rfl, rfl, rfl, rfl⟩ (.ite ⟨rfl, rfl, rfl, rfl, rfl⟩ ⟨rfl, rfl, rfl, rfl, rfl⟩))
    | 9 => exact s.writeGlob_fenceKept (.inr rfl) off w
    | 10 => exact .ite ⟨rfl, rfl, rfl, rfl, rfl⟩ (.ite ⟨rfl, rfl, rfl, rfl, rfl⟩ ⟨rfl, rfl, rfl, rfl, rfl⟩)
    | n + 11 => exact absurd rfl hg

end

/-! ### The registers of a change -/

/-- The bits of MB_XING_CTRL that a change of layers writes. -/
def crossBits (a b : List Rec) (old new : Nat) : Nat :=
  changedBits (composedAt a old (.glob 6 0)) (composedAt b new (.glob 6 0)) [(7, 4), (0, 0)]

/-- MB_XING_CTRL as a change of layers leaves it, where it changes. -/
def crossForced (b : List Rec) (new m f : Nat) (c : Lat) : Lat :=
  c.force f (word ((c.img.toNat &&& (0xFFFFFFFF - m)) ||| (composedAt b new (.glob 6 0) &&& m)))

theorem State.layReg_fenceKept (a b : List Rec) (old new f : Nat) (t : State) {g : Reg} (hg : g ≠ .glob 6 0) :
    State.FenceKept t (State.layReg a b old new f t g) := by
  unfold State.layReg
  dsimp only
  split
  · exact .refl t
  next hm => exact t.fenceReg_fenceKept (fun hnil => hm (by rw [hnil]; rfl)) hg _ _

theorem State.layReg_crossing (a b : List Rec) (old new f : Nat) (t : State) : State.layReg a b old new f t (.glob 6 0) =
    if crossBits a b old new = 0 then t
    else { t with xg := { t.xg with ctrl := crossForced b new (crossBits a b old new) f t.xg.ctrl } } := rfl

/-- What the registers of a change leave: mailboxes, handles, boot's step and Erg time stay, and MB_XING_CTRL is written where it is
among them and its composed value changes. -/
theorem State.layRegs_spec (a b : List Rec) (old new f : Nat) {l : List Reg} (hl : l.Nodup) (s : State) :
    let t := l.foldl (State.layReg a b old new f) s
    t.mbx.box = s.mbx.box ∧ t.mbx.handle = s.mbx.handle ∧ t.sys.bootStep = s.sys.bootStep ∧ t.sys.erg = s.sys.erg ∧
    t.xg.ctrl = if .glob 6 0 ∈ l ∧ crossBits a b old new ≠ 0 then crossForced b new (crossBits a b old new) f s.xg.ctrl else s.xg.ctrl := by
  dsimp only
  induction l generalizing s with
  | nil => exact ⟨rfl, rfl, rfl, rfl, (if_neg (by simp)).symm⟩
  | cons g l ih =>
    obtain ⟨hg, hnodup⟩ := List.nodup_cons.1 hl
    obtain ⟨hbox, hhandle, hboot, herg, hctrl⟩ := ih hnodup (State.layReg a b old new f s g)
    rw [List.foldl_cons]
    rcases Decidable.em (g = .glob 6 0) with rfl | hne
    · rw [if_neg (by simp [hg])] at hctrl
      rw [State.layReg_crossing] at hbox hhandle hboot herg hctrl ⊢
      by_cases hm : crossBits a b old new = 0
      · rw [if_pos hm] at hbox hhandle hboot herg hctrl ⊢
        exact ⟨hbox, hhandle, hboot, herg, hctrl.trans (if_neg (by simp [hm])).symm⟩
      · rw [if_neg hm] at hbox hhandle hboot herg hctrl ⊢
        exact ⟨hbox, hhandle, hboot, herg, hctrl.trans (if_pos ⟨List.mem_cons_self, hm⟩).symm⟩
    · have h := State.layReg_fenceKept a b old new f s hne
      refine ⟨hbox.trans h.box, hhandle.trans h.handle, hboot.trans h.boot, herg.trans h.erg, ?_⟩
      rw [hctrl, h.ctrl]
      simp only [List.mem_cons, Ne.symm hne, false_or]

theorem composedAt_of_not_hit {rs : List Rec} {mode : Nat} (h : ∀ x ∈ rs, x.hits (.glob 6 0) = false) :
    composedAt rs mode (.glob 6 0) = (Reg.glob 6 0).reset := by
  have hfold (v : Nat) : rs.foldl (fun v x => x.put (.glob 6 0) none v) v = v := by
    induction rs with
    | nil => rfl
    | cons x xs ih =>
      have hput : x.put (.glob 6 0) none v = v := if_neg (by simp [h x List.mem_cons_self])
      rw [List.foldl_cons, hput]
      exact ih fun y hy => h y (List.mem_cons_of_mem _ hy)
  unfold composedAt forced
  dsimp only
  rw [hfold]
  exact ite_self _

theorem Rec.mem_regs_of_hits {x : Rec} (h : x.hits (.glob 6 0) = true) : .glob 6 0 ∈ x.regs := by
  simp only [Rec.hits, Bool.and_eq_true, decide_eq_true_eq] at h
  obtain ⟨hkind, hglob⟩ := h
  rw [if_neg (by decide), decide_eq_true_eq] at hglob
  obtain ⟨hblock, hfirst, hoff⟩ := hglob
  rw [Rec.regs, if_neg (not_not.2 hkind), if_pos hfirst, hblock, hoff]
  exact List.mem_singleton_self _

theorem mem_touched_of_hits {rs : List Rec} {mode : Nat} {x : Rec} (hx : x ∈ rs) (h : x.hits (.glob 6 0) = true) :
    .glob 6 0 ∈ touched rs mode :=
  List.mem_append_left _ (List.mem_flatMap.2 ⟨x, hx, Rec.mem_regs_of_hits h⟩)

/-- MB_XING_CTRL is among the registers of every change that changes it. -/
theorem State.mem_layRegs (s : State) {old new : Layers} (h : crossBits (s.recsOf old) (s.recsOf new) old.mode new.mode ≠ 0) :
    .glob 6 0 ∈ s.layRegs old new := by
  rw [State.layRegs, List.mem_eraseDups, List.mem_append]
  by_contra hnot
  rw [not_or] at hnot
  have miss {rs : List Rec} {mode : Nat} (hn : .glob 6 0 ∉ touched rs mode) : ∀ x ∈ rs, x.hits (.glob 6 0) = false := fun x hx => by
    by_contra hhit
    exact hn (mem_touched_of_hits hx (by simpa using hhit))
  refine h ?_
  rw [crossBits, composedAt_of_not_hit (miss hnot.1), composedAt_of_not_hit (miss hnot.2)]
  rfl

structure State.Laid (s : State) (old new : Layers) (f : Nat) (t : State) : Prop where
  box : t.mbx.box = s.mbx.box
  handle : t.mbx.handle = s.mbx.handle
  boot : t.sys.bootStep = s.sys.bootStep
  erg : t.sys.erg = s.sys.erg
  cfg : t.cfg = s.cfg
  same : crossBits (s.recsOf old) (s.recsOf new) old.mode new.mode = 0 → t.xg.ctrl = s.xg.ctrl
  changed : crossBits (s.recsOf old) (s.recsOf new) old.mode new.mode ≠ 0 →
    t.xg.ctrl = crossForced (s.recsOf new) new.mode (crossBits (s.recsOf old) (s.recsOf new) old.mode new.mode) f s.xg.ctrl

theorem State.applyLayers_spec (s : State) (old new : Layers) (f : Nat) : State.Laid s old new f (s.applyLayers old new f) := by
  have hcfg : (s.applyLayers old new f).cfg = s.cfg :=
    (Keeps.applyLayers_keeps (List.Subset.refl _) (Keeps.refl s) old new f).only.same .cfg (by decide)
  let l := (s.layRegs old new).filter Reg.isLinks ++ (s.layRegs old new).filter (not ∘ Reg.isLinks)
  have hlist : s.applyLayers old new f = l.foldl (State.layReg (s.recsOf old) (s.recsOf new) old.mode new.mode f) s := by
    unfold State.applyLayers
    rw [List.partition_eq_filter_filter, List.foldl_append]
  have hperm : l.Perm (s.layRegs old new) := List.filter_append_perm _ _
  have hmem : .glob 6 0 ∈ l ↔ .glob 6 0 ∈ s.layRegs old new := hperm.mem_iff
  obtain ⟨hbox, hhandle, hboot, herg, hctrl⟩ := State.layRegs_spec (s.recsOf old) (s.recsOf new) old.mode new.mode f
    (hperm.nodup_iff.2 (eraseDups_nodup _)) s
  rw [← hlist] at hbox hhandle hboot herg hctrl
  refine ⟨hbox, hhandle, hboot, herg, hcfg, fun h => hctrl.trans (if_neg fun hc => hc.2 h), fun h => hctrl.trans (if_pos ⟨?_, h⟩)⟩
  exact hmem.2 (s.mem_layRegs h)

/-! ### What a fence's kind leaves -/

theorem State.fenceTime_spec (s : State) (d : Nat) : s.now + d ≤ s.fenceTime d ∧
    (s.cfg.fences = [] → s.fenceTime d < s.now + d + 4096) ∧ (∀ es e, s.cfg.fences = es ++ [e] → e.f + 4096 ≤ s.fenceTime d) ∧
    ((∀ e ∈ s.cfg.fences, e.f % 4096 = 0) → s.fenceTime d % 4096 = 0) := by
  unfold State.fenceTime
  generalize s.now = n
  dsimp only
  refine ⟨?_, fun hnil => ?_, fun es e he => ?_, fun hall => ?_⟩
  · split <;> omega
  · rw [hnil]
    dsimp only [List.getLast?_nil]
    omega
  · rw [he, List.getLast?_concat]
    exact le_max_right _ _
  · split
    next e he =>
      have := hall e (List.mem_of_getLast? he)
      omega
    · omega

/-- A fence whose time has not come. -/
theorem exec_regionFence_early {e : Fence} {es : List Fence} {s : State} (hfences : s.cfg.fences = e :: es) (hearly : s.now < e.f) :
    exec .regionFence s = .next s := by
  have hrun : exec .regionFence s = execRegionFence s := rfl
  rw [hrun, execRegionFence, hfences]
  exact if_pos hearly

/-- The state in which a due fence's layers are in force. -/
def State.fenced (s : State) (e : Fence) (es : List Fence) : State :=
  let t := s.applyLayers s.cfg.layers e.layers e.f
  { t with cfg := { t.cfg with layers := e.layers, fences := es, lastFence := e.f, orders := t.cfg.orders + 1 } }

theorem exec_regionFence_due {e : Fence} {es : List Fence} {s : State} (hfences : s.cfg.fences = e :: es) (hdue : e.f ≤ s.now) :
    exec .regionFence s = .next ((s.fenced e es).fenceDone e s.cfg.layers) := by
  have hrun : exec .regionFence s = execRegionFence s := rfl
  rw [hrun, execRegionFence, hfences]
  exact if_neg (by omega)

/-- The image of a fence in its slot. -/
def State.imaged (s : State) (e : Fence) : State :=
  match e.image with
  | some (k, _, x) => s.modSlot k fun _ => { x with state := .inForce }
  | none => s

/-- What the kind of a fence does. -/
def State.kindDone (s : State) (e : Fence) : State :=
  let say (k id : Nat) (s : State) : State := s.raise evConfigFence (k + at_ id 16)
  match e.kind with
  | .boot =>
    let mask : BitVec 8 := match s.cfg.base with
      | some b => b.expertMask
      | none => 0xFF
    { s with
      mbx := { s.mbx with expert := mask }
      cfg := { s.cfg with slots := s.cfg.slots.map fun (x : Slot) => if x.state = SlotState.awaiting then { x with state := SlotState.inForce } else x }
      sys := { s.sys with bootStep := 9, release := some ⟨0, e.f + 256, false⟩ } }
  | .overlay id h => (say 0 id s).finishOp h .completed stOk
  | .withdraw id m =>
    let s := match s.slotOf id with
      | some k => s.modSlot k fun x => if x.damaged then { top := x.top } else { x with state := .stored }
      | none => s
    (say 1 id s).complete m (okReply (toLE 8 e.f))
  | .mode m _ => (say 2 0 s).complete m (okReply (toLE 8 e.f))
  | .throttle => say 0 s.throttleId s
  | .limp => say 3 0 s

/-- The slot of the throttle overlay, where a fence puts that in force. -/
def State.throttled (s : State) (e : Fence) : State :=
  if e.throttle then (match s.slotOf s.throttleId with
    | some k => s.modSlot k fun x => { x with state := .inForce }
    | none => s) else s

theorem State.fenceDone_eq (s : State) (e : Fence) (was : Layers) : s.fenceDone e was =
    (((s.imaged e).kindDone e).throttled e |>.raiseIf (decide (was.mode = 5 ∧ e.layers.mode ≠ 5)) evLimpExit
      ((((s.imaged e).kindDone e).throttled e).limpTrigger.getD 0)).raiseIf (decide (e.limp ≠ 0)) evLimpEnter e.limp := rfl

theorem State.imaged_cfg (s : State) (e : Fence) : (s.imaged e) = { s with cfg := { s.cfg with slots := (s.imaged e).cfg.slots } } := by
  unfold State.imaged
  split <;> rfl

theorem State.throttled_cfg (s : State) (e : Fence) : (s.throttled e) = { s with cfg := { s.cfg with slots := (s.throttled e).cfg.slots } } := by
  unfold State.throttled
  split
  · split <;> rfl
  · rfl

theorem State.kindDone_cfg (s : State) (e : Fence) : (s.kindDone e).cfg = { s.cfg with slots := (s.kindDone e).cfg.slots } := by
  have hsay (u : State) (k id : Nat) : (u.raise evConfigFence (k + at_ id 16)).cfg = u.cfg :=
    (Keeps.raise_keeps (gs := [.ev]) (List.Subset.refl _) (Keeps.refl u) _ _).only.same .cfg (by decide)
  have hcomplete (u : State) (m : Fin 8) (r : Reply) : (u.complete m r).cfg = u.cfg :=
    (Keeps.complete_keeps (gs := [.mbx]) (List.Subset.refl _) (Keeps.refl u) m r).only.same .cfg (by decide)
  have hfinish (u : State) (h : Nat) : (u.finishOp h .completed stOk).cfg = u.cfg := (u.finishOp_only h _ _).same .cfg (by decide)
  unfold State.kindDone
  dsimp only
  split
  · rfl
  · rw [hfinish, hsay]
  · rw [hcomplete, hsay]
    split <;> rfl
  · rw [hcomplete, hsay]
  · rw [hsay]
  · rw [hsay]

/-- Kinds that leave every slot. -/
theorem State.kindDone_slots {s : State} {e : Fence} (hboot : e.kind ≠ .boot) (hwithdraw : ∀ id m, e.kind ≠ .withdraw id m) :
    (s.kindDone e).cfg = s.cfg := by
  have hsay (u : State) (k id : Nat) : (u.raise evConfigFence (k + at_ id 16)).cfg = u.cfg :=
    (Keeps.raise_keeps (gs := [.ev]) (List.Subset.refl _) (Keeps.refl u) _ _).only.same .cfg (by decide)
  have hcomplete (u : State) (m : Fin 8) (r : Reply) : (u.complete m r).cfg = u.cfg :=
    (Keeps.complete_keeps (gs := [.mbx]) (List.Subset.refl _) (Keeps.refl u) m r).only.same .cfg (by decide)
  have hfinish (u : State) (h : Nat) : (u.finishOp h .completed stOk).cfg = u.cfg := (u.finishOp_only h _ _).same .cfg (by decide)
  unfold State.kindDone
  dsimp only
  split
  next h => exact absurd h hboot
  · rw [hfinish, hsay]
  next h => exact absurd h (hwithdraw _ _)
  · rw [hcomplete, hsay]
  · rw [hsay]
  · rw [hsay]

theorem State.kindDone_boot (s : State) (e : Fence) :
    (s.kindDone e).sys.bootStep = if e.kind = .boot then 9 else s.sys.bootStep := by
  have hsay (u : State) (k id : Nat) : (u.raise evConfigFence (k + at_ id 16)).sys = u.sys :=
    (Keeps.raise_keeps (gs := [.ev]) (List.Subset.refl _) (Keeps.refl u) _ _).only.same .sys (by decide)
  have hcomplete (u : State) (m : Fin 8) (r : Reply) : (u.complete m r).sys = u.sys :=
    (Keeps.complete_keeps (gs := [.mbx]) (List.Subset.refl _) (Keeps.refl u) m r).only.same .sys (by decide)
  have hfinish (u : State) (h : Nat) : (u.finishOp h .completed stOk).sys = u.sys := (u.finishOp_only h _ _).same .sys (by decide)
  unfold State.kindDone
  dsimp only
  split
  next h => rw [if_pos h]
  next h => rw [hfinish, hsay, if_neg (by simp [h])]
  next h =>
    rw [hcomplete, hsay, if_neg (by simp [h])]
    split <;> rfl
  next h => rw [hcomplete, hsay, if_neg (by simp [h])]
  next h => rw [hsay, if_neg (by simp [h])]
  next h => rw [hsay, if_neg (by simp [h])]

/-- What the events at a fence's end leave. -/
theorem State.fenceDone_only (s : State) (e : Fence) (was : Layers) :
    Only [.ev] (((s.imaged e).kindDone e).throttled e) (s.fenceDone e was) := by
  rw [State.fenceDone_eq]
  exact (Keeps.raiseIf_keeps (List.Subset.refl _) (Keeps.raiseIf_keeps (List.Subset.refl _) (Keeps.refl _) _ _ _) _ _ _).only

theorem State.handle_lt {s : State} {h : Nat} {o : LongOp} (ho : (s.handle h).op = some o) : h < 32 := by
  by_contra hge
  have hlen : s.mbx.handle.toArray.toList.length = 32 := by simp
  rw [State.handle, vget, List.getD_eq_default _ _ (by omega)] at ho
  simp at ho

/-- Settles O27: the registers of a change leave mailboxes, handles and boot, and each is written once; a fence's kind then does its own. -/
theorem fencesTakeEffect : Obligations.FencesTakeEffect := by
  refine ⟨fun e es s hfences hdue => ?due, fun e es s hfences hearly => exec_regionFence_early hfences hearly, fun d s => s.fenceTime_spec d⟩
  have hrun := exec_regionFence_due hfences hdue
  have hlaid := s.applyLayers_spec s.cfg.layers e.layers e.f
  have hfenced : (s.fenced e es).cfg = { s.cfg with layers := e.layers, fences := es, lastFence := e.f, orders := s.cfg.orders + 1 } := by
    unfold State.fenced
    dsimp only
    rw [hlaid.cfg]
  have hmbx : (s.fenced e es).mbx = (s.applyLayers s.cfg.layers e.layers e.f).mbx := rfl
  have hsys : (s.fenced e es).sys = (s.applyLayers s.cfg.layers e.layers e.f).sys := rfl
  have hxg : (s.fenced e es).xg = (s.applyLayers s.cfg.layers e.layers e.f).xg := rfl
  generalize s.fenced e es = u at *
  generalize s.applyLayers s.cfg.layers e.layers e.f = l at hlaid hmbx hsys hxg
  have hdone := u.fenceDone_only e s.cfg.layers
  have hkeeps := (Keeps.fenceDone_keeps (List.Subset.refl _) (Keeps.refl u) e s.cfg.layers).only
  generalize u.fenceDone e s.cfg.layers = t at *
  have hcfg : t.cfg = { u.cfg with slots := t.cfg.slots } := by
    rw [hdone.same .cfg (by decide), State.throttled_cfg, State.kindDone_cfg, State.imaged_cfg]
  refine ⟨t, hrun, by rw [hcfg, hfenced], by rw [hcfg, hfenced], by rw [hcfg, hfenced], by rw [hcfg, hfenced], fun id h o hkind ho => ?overlay,
    fun k old x hboot hthrottle hwithdraw hk himage => ?image, fun m d hkind hst => ?mode, fun hkind => ?boot, fun hkind => ?notBoot,
    fun hm => ?same, fun hm => ?changed⟩
  case overlay =>
    have hkd : (u.imaged e).kindDone e = ((u.imaged e).raise evConfigFence (0 + at_ id 16)).finishOp h .completed stOk := by
      rw [State.kindDone, hkind]
    have hsaid : Only [.ev] (u.imaged e) ((u.imaged e).raise evConfigFence (0 + at_ id 16)) :=
      (Keeps.raise_keeps (List.Subset.refl _) (Keeps.refl _) _ _).only
    generalize (u.imaged e).raise evConfigFence (0 + at_ id 16) = w at hkd hsaid
    have hw : w.handle h = s.handle h := by
      rw [State.handle, hsaid.same .mbx (by decide), State.imaged_cfg, hmbx, hlaid.handle, State.handle]
    have hnow : w.now = s.now := by
      rw [State.now, hsaid.same .sys (by decide), State.imaged_cfg, hsys]
      exact hlaid.erg
    have hop : (w.handle h).op = some o := by rw [hw, ho]
    have hself := (State.finishOp_spec (s := w) .completed stOk (State.handle_lt ho) hop).1
    have ht : t.handle h = (w.finishOp h .completed stOk).handle h := by
      rw [State.handle, hdone.same .mbx (by decide), State.throttled_cfg, hkd, State.handle]
    rw [ht, hself, hnow]
    rfl
  case image =>
    have hthrottled (v : State) : v.throttled e = v := if_neg (by simp [hthrottle])
    have hslot : (u.imaged e).slot k = { x with state := .inForce } := by
      rw [State.imaged, himage]
      exact vget_vmod_self _ _ _ hk
    rw [State.slot, hdone.same .cfg (by decide), hthrottled, State.kindDone_slots hboot hwithdraw]
    exact hslot
  case mode =>
    have hkd : (u.imaged e).kindDone e = ((u.imaged e).raise evConfigFence (2 + at_ 0 16)).complete m (okReply (toLE 8 e.f)) := by
      rw [State.kindDone, hkind]
    have hsaid : Only [.ev] (u.imaged e) ((u.imaged e).raise evConfigFence (2 + at_ 0 16)) :=
      (Keeps.raise_keeps (List.Subset.refl _) (Keeps.refl _) _ _).only
    generalize (u.imaged e).raise evConfigFence (2 + at_ 0 16) = w at hkd hsaid
    have hw : w.box m = s.box m := by
      rw [State.box, hsaid.same .mbx (by decide), State.imaged_cfg, hmbx, hlaid.box, State.box]
    have ht : t.box m = responded (s.box m) (okReply (toLE 8 e.f)) := by
      rw [State.box, hdone.same .mbx (by decide), State.throttled_cfg, hkd, State.complete_of_working _ (by rw [hw, hst])]
      exact (w.box_answer m _).trans (by rw [hw])
    rw [ht]
    exact ⟨rfl, rfl⟩
  case boot =>
    rw [hdone.same .sys (by decide), State.throttled_cfg, State.kindDone_boot, if_pos hkind]
  case notBoot =>
    rw [hdone.same .sys (by decide), State.throttled_cfg, State.kindDone_boot, if_neg hkind, State.imaged_cfg, hsys]
    exact hlaid.boot
  case same =>
    rw [hkeeps.same .xg (by decide), hxg]
    exact hlaid.same hm
  case changed =>
    rw [hkeeps.same .xg (by decide), hxg]
    exact hlaid.changed hm

end Sys2Proof.Machine
end

section
/-! SUPPORT. Changes of configuration (R345, R348, R350, R354-R357, R418). -/
namespace Sys2Proof.Machine
open Sys2Proof.Safety

theorem State.only_cfg (s : State) (c : Cfg) : Only [.cfg] s { s with cfg := c } :=
  ⟨fun g hg => by cases g with
    | cfg => exact absurd (List.mem_singleton_self _) hg
    | _ => rfl⟩

/-- A found free handle is one of the 32. -/
theorem State.freeHandle_lt {s : State} {debug : Bool} {i : Nat} (h : s.freeHandle debug = some i) : i < 32 := by
  unfold State.freeHandle at h
  dsimp only at h
  split at h
  · simp at h
  · exact List.mem_range.1 (List.mem_of_find?_eq_some h)

theorem State.startOp_of_free {s : State} {q : Req} {i : Nat} (op : LongOp) (k : Nat → State → State)
    (h : s.freeHandle (decide (q.mbx = 7)) = some i) : s.startOp q op k = .done { status := stAccepted, handle := some (s.handleNo i) }
      (k i (s.modHandle i fun x => { x with op := some { op with
        starter := some q.mbx, start := s.now, timer := s.now, async := bitOf (q.flags.setWidth 32) 3 } })) := by
  have hgen : (s.modHandle i fun x => { x with op := some { op with
      starter := some q.mbx, start := s.now, timer := s.now, async := bitOf (q.flags.setWidth 32) 3 } }).handleNo i = s.handleNo i := by
    simp only [State.handleNo, s.handle_modHandle _ (State.freeHandle_lt h)]
  unfold State.startOp
  rw [h]
  dsimp only
  rw [hgen]

/-! ### An overlay that has been verified -/

theorem State.applyOverlay_of_passes {v : State} {h k : Nat} {x : Slot} (hk : v.slotOf x.id = some k)
    (hbarred : v.changeBarred x.id = false) (hmode : v.nextLayers.mode ≠ 0)
    (hpasses : v.passes v.nextLayers (v.withOverlay v.nextLayers x (v.cfg.orders + v.cfg.fences.length + 1)) true = true) :
    v.applyOverlay h x = ((v.modSlot k fun _ => { x with
        state := .awaiting, damaged := false, order := v.cfg.orders + 1, top := max x.top (v.slot k).top }).modOp h fun o =>
          { o with step := 4, target := x.id }).arm
      ⟨v.fenceTime 20000, .overlay x.id h, v.withOverlay v.nextLayers x (v.cfg.orders + v.cfg.fences.length + 1),
        some (k, v.slot k, { x with state := .inForce, damaged := false, top := max x.top (v.slot k).top }), false, 0⟩ := by
  unfold State.applyOverlay
  rw [hk]
  exact if_neg (by simp [hbarred, hmode, hpasses])

theorem State.applyOverlay_of_fails {v : State} {h k : Nat} {x : Slot} (hk : v.slotOf x.id = some k)
    (hfail : v.changeBarred x.id = true ∨ v.nextLayers.mode = 0 ∨
      v.passes v.nextLayers (v.withOverlay v.nextLayers x (v.cfg.orders + v.cfg.fences.length + 1)) true = false) :
    v.applyOverlay h x = v.finishOp h .failed stRefused := by
  unfold State.applyOverlay
  rw [hk]
  exact if_pos (by simpa using hfail)

/-- Limp's fence where none is armed. -/
theorem State.toLimp_of_passes {s : State} {tr : Nat} (hhold : s.sys.hold = 0) (hmode : s.nextLayers.mode ≠ 5)
    (hpasses : s.passes s.nextLayers (s.limpLayers s.nextLayers) false = true) (hfences : s.cfg.fences = []) :
    s.toLimp tr = s.arm ⟨s.fenceTime 4096, .limp, s.limpLayers s.cfg.layers, none, false, tr⟩ := by
  have hnext : s.nextLayers = s.cfg.layers := by
    rw [State.nextLayers, hfences]
    rfl
  unfold State.toLimp
  rw [if_neg hmode, if_neg (by simp [hhold]), if_neg (by simp [hpasses]), State.joinFence, hfences, if_neg (by simp), hnext]

/-- Settles O28: each change follows its command's checks to the fence that it arms or the handle that it ends. -/
theorem changesAreArmed : Obligations.ChangesAreArmed := by
  refine ⟨fun q i k s hready hlevel hslot _ hstate hchanging hfree => ?apply,
    fun q i s hready hlevel hid hone hlen hchanging hfree => ?stage, fun v h k x o hk ho => ⟨fun hbarred hmode hpasses => ?passes, fun hfail => ?fails⟩,
    fun q s hready hid hhas hchanging hpasses => ?withdraw, fun q b rs s hready hone hfive hchanging hbase hrecs hlimp => ⟨fun hmode hbarred hpasses => ?mode,
      fun hmode hfences => ?same⟩, fun q s hready => ?query, fun tr s htrigger hactive hboot hhold hmode hpasses hfences => ?limp,
    fun tr s htrigger hactive hboot hhold hmode hdue => ?limpLater, fun a s hsevere hlong hactive hboot hhold hmode hpasses hfences => ?severe,
    fun k s hstored => ?stored, fun k s hforce => ?force, fun s hnone => ?noBase, fun b s hbase hrereads hlost => ?base⟩
  case apply =>
    have hslot' : (posted s 0x0A02 q).slotOf (q.le 0 2) = some k := hslot
    have hstate' : ((posted s 0x0A02 q).slot k).state = .stored := hstate
    have hchanging' : (posted s 0x0A02 q).changing = false := hchanging
    have hfree' : (posted s 0x0A02 q).freeHandle (decide (q.mbx = 7)) = some i := hfree
    refine congrArg Host.Outcome.next (State.submit_done (by decide) hready ?_)
    rw [cmdOverlayApply, if_neg (by simp [hlevel]), hslot']
    dsimp only
    rw [if_neg (by simp [hstate']), if_neg (by simp [hchanging']), State.startOp_of_free _ _ hfree']
    rfl
  case stage =>
    have hchanging' : (posted s 0x0A02 q).changing = false := hchanging
    have hfree' : (posted s 0x0A02 q).freeHandle (decide (q.mbx = 7)) = some i := hfree
    have hi := State.freeHandle_lt hfree
    let o : LongOp := { newOp .overlayApply .receiving s.now with
      total := q.le 4 4, expert := true, step := 1, starter := some q.mbx, start := s.now, timer := s.now
      async := bitOf (q.flags.setWidth 32) 3 }
    let v := (posted s 0x0A02 q).modHandle i fun h => { h with op := some o }
    have hcmd : cmdOverlayApply q (posted s 0x0A02 q) = .done { status := 0x01, handle := some (s.handleNo i) }
        { v with cfg := { v.cfg with staging := [] } } := by
      rw [cmdOverlayApply, if_pos hlevel]
      dsimp only
      rw [if_neg (by omega), if_neg (by omega), if_neg (by simp [hchanging']), State.startOp_of_free _ _ hfree']
      rfl
    have hv : Keeps [.mbx, .cfg] s v := Keeps.modHandle_keeps (by decide) (Keeps.modBox_keeps (by decide) (Keeps.refl s) q.mbx _) i _
    refine ⟨_, congrArg Host.Outcome.next (State.submit_done (by decide) hready hcmd), rfl,
      ⟨o, (posted s 0x0A02 q).handle_modHandle _ hi, rfl, rfl, rfl, rfl, rfl⟩, fun j hj => (posted s 0x0A02 q).handle_modHandle_ne _ hj, ?_⟩
    exact hv.only.trans ((v.only_cfg _).mono (by decide))
  case passes =>
    rw [State.applyOverlay_of_passes hk hbarred hmode hpasses]
    refine ⟨rfl, fun hk16 => vget_vmod_self _ _ _ hk16, ?_, ?_⟩
    · have hself := State.handle_modOp (s := v.modSlot k fun _ => { x with
        state := .awaiting, damaged := false, order := v.cfg.orders + 1, top := max x.top (v.slot k).top })
        (f := fun o => { o with step := 4, target := x.id }) (State.handle_lt ho) ho
      exact congrArg Handle.op hself
    · exact (Keeps.arm_keeps (gs := [.mbx, .cfg]) (by decide) (Keeps.modOp_keeps (by decide)
        (Keeps.modSlot_keeps (by decide) (Keeps.refl v) k _) h _) _).only
  case fails =>
    rw [State.applyOverlay_of_fails hk hfail]
    have hself := (State.finishOp_spec .failed stRefused (State.handle_lt ho) ho).1
    exact ⟨(v.finishOp_only h .failed stRefused).same .cfg (by decide), by rw [hself]; rfl, v.finishOp_only h .failed stRefused⟩
  case withdraw =>
    refine congrArg Host.Outcome.next (State.submit_wait (by decide) hready ?_)
    rw [cmdOverlayWithdraw, if_neg (by simp [hid, hhas]), if_neg (by simp [hchanging]), if_neg (by simp [hpasses])]
  case mode =>
    refine congrArg Host.Outcome.next (State.submit_wait (by decide) hready ?_)
    have hrecs' : ((posted s 0x0A04 q).cfg.base.bind fun b => (b.modes.find? (·.1 == q.u8 0)).map (·.2)) = some rs := by
      rw [show (posted s 0x0A04 q).cfg.base = some b from hbase]
      exact hrecs
    unfold cmdModeSet
    dsimp only
    rw [if_neg (by omega), if_neg (by simp [hchanging]), hrecs']
    dsimp only
    rw [if_neg (by rcases hlimp with h | h <;> simp [h]), if_neg (by simp [hmode]), if_neg (by simp [hbarred, hpasses])]
  case same =>
    refine congrArg Host.Outcome.next (State.submit_done (by decide) hready ?_)
    have hrecs' : ((posted s 0x0A04 q).cfg.base.bind fun b => (b.modes.find? (·.1 == q.u8 0)).map (·.2)) = some rs := by
      rw [show (posted s 0x0A04 q).cfg.base = some b from hbase]
      exact hrecs
    have hfences' : (posted s 0x0A04 q).cfg.fences = [] := hfences
    unfold cmdModeSet
    dsimp only
    rw [if_neg (by omega), if_neg (by simp [hchanging]), hrecs']
    dsimp only
    rw [if_neg (by rcases hlimp with h | h <;> simp [h]), if_pos ⟨hmode, by rw [hfences']; rfl⟩]
    rfl
  case query => exact congrArg Host.Outcome.next (State.submit_done (by decide) hready rfl)
  case limp =>
    have hrun : exec .limpEnter s = execLimpEnter s := rfl
    rw [hrun, execLimpEnter, htrigger]
    dsimp only
    rw [if_pos ⟨hactive, hboot⟩, State.toLimp_of_passes hhold hmode hpasses hfences]
  case limpLater =>
    have hrun : exec .limpEnter s = execLimpEnter s := rfl
    rw [hrun, execLimpEnter, htrigger]
    dsimp only
    rw [if_pos ⟨hactive, hboot⟩, State.toLimp, if_neg hmode, if_pos (by simp [hhold]), if_pos hdue]
  case severe =>
    have hrun : exec .severeSustained s = execSevereSustained s := rfl
    rw [hrun, execSevereSustained, hsevere]
    dsimp only
    rw [if_pos ⟨hlong, hactive, hboot⟩, State.toLimp_of_passes hhold hmode hpasses hfences]
  case stored =>
    have hrun : exec (.configWordLost (.slot k)) s = .next ((s.modSlot k fun x => { top := x.top }).raise evConfigLost 0) := by
      have hexec : exec (.configWordLost (.slot k)) s = .next (s.configLost (.slot k)) := rfl
      rw [hexec, State.configLost, hstored]
    have hraise := (Keeps.raise_keeps (gs := [.ev]) (List.Subset.refl _) (Keeps.refl (s.modSlot k fun x => { top := x.top })) evConfigLost 0).only
    have hcfg := hraise.same .cfg (by decide)
    refine ⟨_, hrun, ?_, fun j hj => ?_, State.raise_ev_congr _ _ rfl rfl rfl, exec_only hrun⟩
    · rw [State.slot, hcfg]
      exact vget_vmod_self _ _ _ k.isLt
    · rw [State.slot, hcfg]
      exact vget_vmod_ne _ _ _ hj
  case force =>
    have hrun : exec (.configWordLost (.slot k)) s = .next (s.modSlot k fun x => { x with damaged := true }) := by
      have hexec : exec (.configWordLost (.slot k)) s = .next (s.configLost (.slot k)) := rfl
      rw [hexec, State.configLost]
      rcases hforce with h | h <;> rw [h]
    exact ⟨_, hrun, vget_vmod_self _ _ _ k.isLt, fun j hj => vget_vmod_ne _ _ _ hj,
      (Keeps.modSlot_keeps (gs := [.cfg]) (List.Subset.refl _) (Keeps.refl s) k _).only⟩
  case noBase =>
    have hexec : exec (.configWordLost .base) s = .next (s.configLost .base) := rfl
    rw [hexec, State.configLost]
    split
    · rfl
    next b hb => rw [if_pos (hnone.resolve_left (by simp [hb]))]
  case base =>
    have hrun : exec (.configWordLost .base) s = .next (({ s with cfg := { s.cfg with
        lost := true, base := some { b with damaged := true } } } : State).raise evConfigLost 0) := by
      have hexec : exec (.configWordLost .base) s = .next (s.configLost .base) := rfl
      rw [hexec, State.configLost, hbase]
      dsimp only
      rw [if_neg (by simp [hrereads, hlost])]
      rfl
    have hraise := (Keeps.raise_keeps (gs := [.ev]) (List.Subset.refl _) (Keeps.refl ({ s with cfg := { s.cfg with
        lost := true, base := some { b with damaged := true } } } : State)) evConfigLost 0).only
    exact ⟨_, hrun, hraise.same .cfg (by decide), State.raise_ev_congr _ _ rfl rfl rfl, exec_only hrun⟩

end Sys2Proof.Machine
end

section
/-! SUPPORT. Forecast words (R78-R82, R194). -/
namespace Sys2Proof.Machine
open Sys2Proof.Safety

/-! ### The board -/

/-- One window's level of a word, folded into the board by maximum. -/
def foldLevel (c : Nat) (x : BitVec 64) (w : Int) (m : Map Nat) (k : Nat) : Map Nat :=
  let n : Int := w + (k : Int)
  if n < c then m
  else
    let key := 256 * n.toNat + wordDistrict x
    Map.put 0 m key (max (Map.get 0 m key) (wordLevel x k + 1))

theorem foldLevel_wf {c : Nat} {x : BitVec 64} {w : Int} {m : Map Nat} {k : Nat} (h : Map.wf 0 m = true) :
    Map.wf 0 (foldLevel c x w m k) = true := by
  unfold foldLevel
  dsimp only
  split
  · exact h
  · exact Map.put_wf _ _ h

theorem get_foldLevel_ne {c : Nat} {x : BitVec 64} {w : Int} {m : Map Nat} {k cell : Nat}
    (h : ∀ n : Nat, (n : Int) = w + k → c ≤ n → cell ≠ 256 * n + wordDistrict x) :
    Map.get 0 (foldLevel c x w m k) cell = Map.get 0 m cell := by
  unfold foldLevel
  dsimp only
  split
  · rfl
  · exact Map.get_put_ne _ _ _ (h _ (by omega) (by omega))

theorem get_foldLevel_self {c : Nat} {x : BitVec 64} {w : Int} {m : Map Nat} {k n : Nat} (hm : Map.wf 0 m = true)
    (hn : (n : Int) = w + k) (hc : c ≤ n) : Map.get 0 (foldLevel c x w m k) (256 * n + wordDistrict x) =
      max (Map.get 0 m (256 * n + wordDistrict x)) (wordLevel x k + 1) := by
  unfold foldLevel
  dsimp only
  rw [if_neg (by omega), ← hn, Int.toNat_natCast]
  exact Map.get_put_self _ _ _ (Map.wf_rising hm)

theorem foldLevels_wf {c : Nat} {x : BitVec 64} {w : Int} {m : Map Nat} (l : List Nat) (h : Map.wf 0 m = true) :
    Map.wf 0 (l.foldl (foldLevel c x w) m) = true :=
  Map.foldl_put_wf (fun _ _ hm => foldLevel_wf hm) h

theorem get_foldLevels_ne {c : Nat} {x : BitVec 64} {w : Int} {cell : Nat} (l : List Nat)
    (h : ∀ k ∈ l, ∀ n : Nat, (n : Int) = w + k → c ≤ n → cell ≠ 256 * n + wordDistrict x) (m : Map Nat) :
    Map.get 0 (l.foldl (foldLevel c x w) m) cell = Map.get 0 m cell := by
  induction l generalizing m with
  | nil => rfl
  | cons k l ih =>
    rw [List.foldl_cons, ih (fun j hj => h j (List.mem_cons_of_mem _ hj)), get_foldLevel_ne (h k List.mem_cons_self)]

theorem get_foldLevels_self {c : Nat} {x : BitVec 64} {w : Int} {k n : Nat} (hn : (n : Int) = w + k) (hc : c ≤ n) {l : List Nat}
    (hl : l.Nodup) (hk : k ∈ l) {m : Map Nat} (hm : Map.wf 0 m = true) :
    Map.get 0 (l.foldl (foldLevel c x w) m) (256 * n + wordDistrict x) =
      max (Map.get 0 m (256 * n + wordDistrict x)) (wordLevel x k + 1) := by
  induction l generalizing m with
  | nil => exact absurd hk List.not_mem_nil
  | cons j l ih =>
    obtain ⟨hj, hnodup⟩ := List.nodup_cons.1 hl
    have hcell {i : Nat} (hi : i ≠ k) (n' : Nat) (hn' : (n' : Int) = w + i) : 256 * n + wordDistrict x ≠ 256 * n' + wordDistrict x := by
      omega
    rw [List.foldl_cons]
    rcases List.mem_cons.1 hk with rfl | hk
    · rw [get_foldLevels_ne l (fun i hi n' hn' _ => hcell (fun h => hj (h ▸ hi)) n' hn'), get_foldLevel_self hm hn hc]
    · have hne : j ≠ k := fun h => hj (h ▸ hk)
      rw [ih hnodup hk (foldLevel_wf hm), get_foldLevel_ne fun n' hn' _ => hcell hne n' hn']

/-! ### A word's arrival -/

theorem arrival_of_malformed {c : Nat} {x : BitVec 64} (h : bitAt x.toNat 56 = false ∨ bits x.toNat 63 57 ≠ 0) : arrival c x = .reject :=
  if_pos (by simpa using h)

theorem arrival_of_wellFormed {c : Nat} {x : BitVec 64} (hvalid : bitAt x.toNat 56 = true) (hzero : bits x.toNat 63 57 = 0) :
    arrival c x = if wordWin c x + 7 < c then .stale else if (c : Int) + 64 < wordWin c x then .reject else .accept (wordWin c x) :=
  if_neg (by simp [hvalid, hzero])

theorem arrive_of_off {s : State} {x : BitVec 64} (h : s.hmOn = false) : s.arrive x = s.rejectWords 1 := if_pos (by simp [h])

theorem arrive_of_reject {s : State} {x : BitVec 64} (h : s.hmOn = true) (hx : arrival s.win x = .reject) :
    s.arrive x = s.rejectWords 1 := by
  unfold State.arrive
  rw [if_neg (by simp [h]), hx]

theorem arrive_of_stale {s : State} {x : BitVec 64} (h : s.hmOn = true) (hx : arrival s.win x = .stale) :
    s.arrive x = { s with hm := { s.hm with stale := sat16 s.hm.stale 1 } } := by
  unfold State.arrive
  rw [if_neg (by simp [h]), hx]

theorem arrive_of_accept {s : State} {x : BitVec 64} {w : Int} (h : s.hmOn = true) (hx : arrival s.win x = .accept w) :
    s.arrive x = s.takeWord x w := by
  unfold State.arrive
  rw [if_neg (by simp [h]), hx]

theorem exec_forecastPortWrite {die : Fin 8} {x : BitVec 64} {s : State} (hclocked : s.clocked (regionNo die.val 0) = true)
    (hwhole : s.xState (xId 6 (wordDistrict x * 256 + die.val)) = .whole) : exec (.forecastPortWrite die x) s =
      if s.fqAt (wordDistrict x) die = [] ∧ s.fqRoom then .next (s.arrive x)
      else if queueSize < (s.fqAt (wordDistrict x) die).length then .next s
      else .next (s.setFq (wordDistrict x) die (s.fqAt (wordDistrict x) die ++ [x])) := by
  have hrun : exec (.forecastPortWrite die x) s = execForecastPortWrite die x s := rfl
  rw [hrun, execForecastPortWrite, if_neg (by simp [hclocked]), if_neg (not_not.2 hwhole)]

theorem State.fqAt_setFq (s : State) (d die : Nat) {l : List (BitVec 64)} (hl : l ≠ []) : (s.setFq d die l).fqAt d die = l := by
  unfold State.setFq State.fqAt Map.put
  rw [if_neg hl]
  exact Map.get_insert_self _ _ _ _

theorem State.xing_drop_modXing (s : State) (id : Nat) :
    ((s.modXing id fun y => { y with drop := sat16 y.drop 1 }).xing id).drop = sat16 (s.xing id).drop 1 := by
  have hne : { s.xing id with drop := sat16 (s.xing id).drop 1 } ≠ ({} : Xing) := by
    intro h
    have hzero : sat16 (s.xing id).drop 1 = 0 := congrArg Xing.drop h
    simp only [sat16] at hzero
    omega
  unfold State.modXing State.xing Map.put at *
  dsimp only at *
  rw [if_neg hne, Map.get_insert_self]

/-! ### FORECAST_POST of one word -/

theorem postWords_one_of_room {s : State} {x : BitVec 64} {late : Nat} (hfull : s.fqFull (wordDistrict x) = false)
    (hroom : s.fqRoom = true) :
    State.postWords [x] late s = ([], late + b2n (decide (arrival s.win x = .stale)), s.arrive x) := by
  unfold State.postWords
  rw [if_neg (by simp [hfull, hroom])]
  rfl

theorem postWords_one_of_full {s : State} {x : BitVec 64} {late : Nat} (h : s.fqFull (wordDistrict x) = true ∨ s.fqRoom = false) :
    State.postWords [x] late s = ([x], late, s) := by
  unfold State.postWords
  exact if_pos (by simpa using h)

theorem cmdForecastPost_one {q : Req} {s : State} (hon : s.hmOn = true) (hlen : q.payload.length = 8)
    (hok : arrival s.win (BitVec.ofNat 64 (q.le 0 8)) ≠ .reject) : cmdForecastPost q s =
      if (State.postWords [BitVec.ofNat 64 (q.le 0 8)] 0 s).1.isEmpty
      then .done (postReply 1 (State.postWords [BitVec.ofNat 64 (q.le 0 8)] 0 s).2.1) (State.postWords [BitVec.ofNat 64 (q.le 0 8)] 0 s).2.2
      else .wait (.forecast (State.postWords [BitVec.ofNat 64 (q.le 0 8)] 0 s).1 1 (State.postWords [BitVec.ofNat 64 (q.le 0 8)] 0 s).2.1)
        (State.postWords [BitVec.ofNat 64 (q.le 0 8)] 0 s).2.2 := by
  have hone : q.len = 8 := hlen
  have hbad : ((List.range 1).filter fun i => decide (arrival s.win (BitVec.ofNat 64 (q.le (8 * i) 8)) = .reject)) = [] := by
    simp [List.range_succ, hok]
  unfold cmdForecastPost
  rw [hone]
  dsimp only
  rw [if_neg (by decide), if_neg (by simp [hon]), hbad]
  rfl

theorem cmdForecastPost_reject {q : Req} {s : State} (hon : s.hmOn = true) (hlen : q.payload.length = 8)
    (hbad : arrival s.win (BitVec.ofNat 64 (q.le 0 8)) = .reject) : cmdForecastPost q s = .done (badArg 0) (s.rejectWords 1) := by
  have hone : q.len = 8 := hlen
  have hlist : ((List.range 1).filter fun i => decide (arrival s.win (BitVec.ofNat 64 (q.le (8 * i) 8)) = .reject)) = [0] := by
    simp [List.range_succ, hbad]
  unfold cmdForecastPost
  rw [hone]
  dsimp only
  rw [if_neg (by decide), if_neg (by simp [hon]), hlist]
  rfl

theorem State.only_hm (s : State) (x : Hm) : Only [.hm] s { s with hm := x } :=
  ⟨fun g hg => by cases g with
    | hm => exact absurd (List.mem_singleton_self _) hg
    | _ => rfl⟩

theorem exec_forecastMerge_two {x y : BitVec 64} {w v : Int} {rest : List (BitVec 64 × Int)} {s : State}
    (hqueue : s.hm.queue = (x, w) :: (y, v) :: rest) : exec .forecastMerge s =
      .next { (s.foldWord x w).foldWord y v with hm := { ((s.foldWord x w).foldWord y v).hm with
        queue := rest, head := ((s.foldWord x w).foldWord y v).hm.head + 2 } } := by
  have hrun : exec .forecastMerge s = execForecastMerge s := rfl
  have htwo : min 2 s.hm.queue.length = 2 := by
    rw [hqueue]
    simp
  have hsame : ((s.foldWord x w).foldWord y v).hm.queue = s.hm.queue := rfl
  have htake : (s.hm.queue.take 2).foldl (fun s e => s.foldWord e.1 e.2) s = (s.foldWord x w).foldWord y v := by
    rw [hqueue]
    rfl
  have hdrop : ((s.foldWord x w).foldWord y v).hm.queue.drop 2 = rest := by
    rw [hsame, hqueue]
    rfl
  rw [hrun, execForecastMerge]
  dsimp only
  rw [htwo, htake, hdrop]

/-- Settles O29: a port's word goes by its lane and by the row of its arrival; the board's cells of one word are its eight windows'. -/
theorem forecastsArriveAndMerge : Obligations.ForecastsArriveAndMerge := by
  refine ⟨fun die x s hclocked hwhole hempty hroom => ?arrive, fun die x s hclocked hwhole hbehind => ⟨fun hlane => ?behind, fun hlane => ?stall⟩,
    fun die x s hclocked hfence => ?fenced, fun d a s hlast hlate => ?stale, fun x y w v rest s hqueue => ?merge,
    fun x w s hwf => ⟨foldLevels_wf _ hwf, fun k n hk hn hwin => ?cell, fun c hc => ?other⟩,
    fun q s hready hon hlen hok hfresh hfull hroom => ?post, fun q s hready hon hlen hok hwait => ?postWaits, fun q s hready hon hlen hbad => ?postRejected⟩
  case arrive =>
    have hrun : exec (.forecastPortWrite die x) s = .next (s.arrive x) :=
      (exec_forecastPortWrite hclocked hwhole).trans (if_pos ⟨hempty, hroom⟩)
    refine ⟨_, hrun, fun hoff => by rw [arrive_of_off hoff]; rfl,
      fun hon hbad => by rw [arrive_of_reject hon (arrival_of_malformed hbad)]; rfl, fun hon hvalid hzero hlate => ?_,
      fun hon hvalid hzero hfar => ?_, fun hon hvalid hzero hnear hsoon hqueue => ?_, fun hon hvalid hzero hnear hsoon hqueue => ?_,
      (Keeps.arrive_keeps (gs := [.hm]) (List.Subset.refl _) (Keeps.refl s) x).only⟩
    · rw [arrive_of_stale hon ((arrival_of_wellFormed hvalid hzero).trans (if_pos hlate))]
    · rw [arrive_of_reject hon ((arrival_of_wellFormed hvalid hzero).trans ((if_neg (by omega)).trans (if_pos hfar)))]
      rfl
    · rw [arrive_of_accept hon ((arrival_of_wellFormed hvalid hzero).trans ((if_neg (by omega)).trans (if_neg (by omega))))]
      unfold State.takeWord
      dsimp only
      rw [if_pos hqueue]
    · rw [arrive_of_accept hon ((arrival_of_wellFormed hvalid hzero).trans ((if_neg (by omega)).trans (if_neg (by omega))))]
      unfold State.takeWord
      dsimp only
      rw [if_neg (by omega)]
      exact ⟨rfl, rfl, rfl, rfl⟩
  case behind =>
    have hnot : ¬ (s.fqAt (wordDistrict x) die = [] ∧ s.fqRoom = true) := by
      rintro ⟨hempty, hroom⟩
      rcases hbehind with h | h
      · exact h hempty
      · simp [hroom] at h
    have hrun : exec (.forecastPortWrite die x) s = .next (s.setFq (wordDistrict x) die (s.fqAt (wordDistrict x) die ++ [x])) :=
      (exec_forecastPortWrite hclocked hwhole).trans ((if_neg hnot).trans (if_neg (by rw [queueSize]; omega)))
    exact ⟨_, hrun, s.fqAt_setFq _ _ (by simp), (Keeps.setFq_keeps (gs := [.xg]) (List.Subset.refl _) (Keeps.refl s) _ _ _).only⟩
  case stall =>
    have hnot : ¬ (s.fqAt (wordDistrict x) die = [] ∧ s.fqRoom = true) := fun h => by simp [h.1] at hlane
    exact (exec_forecastPortWrite hclocked hwhole).trans ((if_neg hnot).trans (if_pos hlane))
  case fenced =>
    have hrun : exec (.forecastPortWrite die x) s =
        .next ((s.modXing (xId 6 (wordDistrict x * 256 + die.val)) fun y => { y with drop := sat16 y.drop 1 }).xDrop 1) :=
      (if_neg (by simp [hclocked])).trans (if_pos hfence)
    exact ⟨_, hrun, s.xing_drop_modXing _,
      (Keeps.xDrop_keeps (gs := [.xg]) (List.Subset.refl _) (Keeps.modXing_keeps (List.Subset.refl _) (Keeps.refl s) _ _) 1).only⟩
  case stale =>
    refine ⟨rfl, ?_⟩
    rw [State.isStale, hlast]
    exact decide_eq_true hlate
  case merge =>
    have hboard : ((s.foldWord x w).foldWord y v).hm = { s.hm with board := ((s.foldWord x w).foldWord y v).hm.board } := rfl
    have hfold := (Keeps.foldWord_keeps (gs := [.hm]) (List.Subset.refl _)
      (Keeps.foldWord_keeps (List.Subset.refl _) (Keeps.refl s) x w) y v).only
    have hrun := exec_forecastMerge_two hqueue
    generalize (s.foldWord x w).foldWord y v = u at hboard hrun hfold
    refine ⟨_, hrun, rfl, ?_, rfl, ?_, hfold.trans (u.only_hm _)⟩
    · dsimp only
      rw [hboard]
    · dsimp only
      rw [hboard]
  case cell => exact get_foldLevels_self hn hwin List.nodup_range (List.mem_range.2 hk) hwf
  case other => exact get_foldLevels_ne _ (fun k hk n hn hwin => hc k n (List.mem_range.1 hk) hn hwin) _
  case post =>
    have hcmd := cmdForecastPost_one (q := q) (s := posted s 0x0301 q) hon hlen hok
    rw [postWords_one_of_room (s := posted s 0x0301 q) hfull hroom, decide_eq_false (by exact hfresh)] at hcmd
    exact congrArg Host.Outcome.next (State.submit_done (by decide) hready hcmd)
  case postWaits =>
    have hcmd := cmdForecastPost_one (q := q) (s := posted s 0x0301 q) hon hlen hok
    rw [postWords_one_of_full (s := posted s 0x0301 q) hwait] at hcmd
    exact congrArg Host.Outcome.next (State.submit_wait (by decide) hready hcmd)
  case postRejected =>
    refine ⟨_, congrArg Host.Outcome.next (State.submit_done (by decide) hready (cmdForecastPost_reject hon hlen hbad)), rfl, ?_⟩
    exact (Keeps.rejectWords_keeps (gs := [.mbx, .hm]) (by decide) (Keeps.modBox_keeps (by decide) (Keeps.refl s) q.mbx _) 1).only

end Sys2Proof.Machine
end

section
/-! SUPPORT. The surge governor's request (R411). -/
namespace Sys2Proof.Machine
open Sys2Proof.Safety

/-- The estimate does not rise with the code. -/
theorem estimate_antitone (base : Nat) {g h : Nat} (ts : List (Nat × Nat)) (hg : 0 < g) (hgh : g ≤ h) :
    estimate base ts h ≤ estimate base ts g := by
  refine Nat.add_le_add_left (List.sum_le_sum fun t _ => ?_) base
  exact Nat.div_le_div_left (Nat.mul_le_mul_left 15 (max_le_max_left t.2 hgh)) (by have := le_max_right t.2 g; omega)

/-- The request is one of the codes 160, 168, ..., 1280, and no lower one is within the budget. -/
theorem govRequest_spec (base : Nat) (ts : List (Nat × Nat)) (beff : Nat) :
    ∃ k, k ≤ 140 ∧ govRequest base ts beff = 160 + 8 * k ∧ (∀ j, j < k → beff < estimate base ts (160 + 8 * j)) ∧
      (estimate base ts (160 + 8 * k) ≤ beff ∨ k = 140) := by
  have hfind : govRequest base ts beff = (((List.range 141).find? fun k => decide (estimate base ts (160 + 8 * k) ≤ beff)).map
      fun k => 160 + 8 * k).getD 1280 := by
    rw [govRequest, List.find?_map]
    rfl
  rw [hfind]
  cases hk : (List.range 141).find? fun k => decide (estimate base ts (160 + 8 * k) ≤ beff) with
  | none =>
    refine ⟨140, le_refl _, rfl, fun j hj => ?_, .inr rfl⟩
    have h := List.find?_eq_none.1 hk j (List.mem_range.2 (by omega))
    simpa using h
  | some k =>
    obtain ⟨hin, hmem, hbefore⟩ := List.find?_range_eq_some.1 hk
    refine ⟨k, ?_, rfl, fun j hj => ?_, .inl (by simpa using hin)⟩
    · have := List.mem_range.1 hmem
      omega
    · simpa using hbefore j hj

end Sys2Proof.Machine
end

section
/-! SUPPORT. An evaluation's beginning (R75, R76, R95, R411). -/
namespace Sys2Proof.Machine
open Sys2Proof.Safety

theorem State.only_sns (s : State) (x : Sns) : Only [.sns] s { s with sns := x } :=
  ⟨fun g hg => by cases g with
    | sns => exact absurd (List.mem_singleton_self _) hg
    | _ => rfl⟩

/-- Hawkmoth's control, its switch and its front buffer, which the steps before an evaluation leave. -/
structure State.HmKept (s t : State) : Prop where
  ctrl : t.hm.ctrl = s.hm.ctrl
  enabled : t.hm.enabled = s.hm.enabled
  front : t.hm.front = s.hm.front
  only : Only [.mbx, .hm, .sns, .ev] s t

theorem State.HmKept.refl (s : State) : State.HmKept s s := ⟨rfl, rfl, rfl, (Keeps.refl s).only⟩

theorem State.HmKept.trans {s t u : State} (h : State.HmKept s t) (k : State.HmKept t u) : State.HmKept s u :=
  ⟨k.ctrl.trans h.ctrl, k.enabled.trans h.enabled, k.front.trans h.front, h.only.trans k.only⟩

theorem State.HmKept.of_only {s t : State} {gs : List Group} (h : Only gs s t) (hgs : gs ⊆ [.mbx, .sns, .ev]) : State.HmKept s t := by
  have hhm : t.hm = s.hm := h.same .hm fun hmem => absurd (hgs hmem) (by decide)
  exact ⟨by rw [hhm], by rw [hhm], by rw [hhm], h.mono fun g hg => by have := hgs hg; simp at this; simp; tauto⟩

theorem State.HmKept.ite {s t u : State} {c : Prop} [Decidable c] (h : State.HmKept s t) (k : State.HmKept s u) :
    State.HmKept s (if c then t else u) := by
  split
  · exact h
  · exact k

theorem State.unloadDue_hmKept (s : State) : State.HmKept s s.unloadDue :=
  ⟨rfl, rfl, rfl, (Keeps.unloadDue_keeps (by decide) (Keeps.refl s)).only⟩

theorem State.activate_hmKept (s : State) : State.HmKept s s.activate := by
  have hfinish (u : State) (h : Nat) : State.HmKept u (u.finishOp h .completed stOk) := .of_only (u.finishOp_only h _ _) (by decide)
  unfold State.activate
  split
  next x h t hready =>
    have hput : State.HmKept s { s with hm := { s.hm with images := install s.hm.images x, ready := none } } :=
      ⟨rfl, rfl, rfl, (s.only_hm _).mono (by decide)⟩
    exact .ite (hput.trans (hfinish _ h)) (.refl s)
  · exact .refl s

theorem State.boardCut_hmKept (s : State) (board : Map Nat) : State.HmKept s { s with hm := { s.hm with board := board } } :=
  ⟨rfl, rfl, rfl, (s.only_hm _).mono (by decide)⟩

theorem State.govLevel_hmKept (s : State) (d w : Nat) : State.HmKept s (s.govLevel d w).2 := by
  unfold State.govLevel
  split
  next l _ =>
    exact ⟨rfl, rfl, rfl, (s.only_hm { s.hm with govLvl := Map.put none s.hm.govLvl d (some (l, w)) }).mono (by decide)⟩
  · split <;> exact .refl s

theorem State.govTerms_hmKept (s : State) : State.HmKept s s.govTerms.2 := by
  unfold State.govTerms
  refine List.foldlRecOn (motive := fun a : List (Nat × Nat) × State => State.HmKept s a.2) _ _ (.refl s) fun a ha d _ => ?_
  have hstep : State.HmKept s (a.2.govLvlOf d).2 := (ha.trans (a.2.govLevel_hmKept _ _)).trans (State.govLevel_hmKept _ _ _)
  dsimp only
  split <;> exact hstep

theorem State.govern_hmKept (s : State) : State.HmKept s s.govern := by
  have hterms := s.govTerms_hmKept
  unfold State.govern
  generalize s.govTerms = p at hterms ⊢
  obtain ⟨ts, u⟩ := p
  dsimp only at hterms ⊢
  split
  · exact hterms.trans ⟨rfl, rfl, rfl, (u.only_hm _).mono (by decide)⟩
  next b hb =>
    have hraise (v : State) (c : Bool) (id arg : Nat) : State.HmKept v (v.raiseIf c id arg) :=
      .of_only (Keeps.raiseIf_keeps (gs := [.ev]) (List.Subset.refl _) (Keeps.refl v) c id arg).only (by decide)
    have hset (v : State) (g room : Nat) (capped sat : Bool) (y : Sns) : State.HmKept v { v with
        hm := { v.hm with g := g, headroom := room, capped := capped, satGov := sat }, sns := y } :=
      have hhm := v.only_hm { v.hm with g := g, headroom := room, capped := capped, satGov := sat }
      ⟨rfl, rfl, rfl, (Only.mono hhm (by decide)).trans (Only.mono (hs := [.mbx, .hm, .sns, .ev]) (gs := [.sns]) (State.only_sns { v with hm := { v.hm with g := g, headroom := room, capped := capped, satGov := sat } } y) (by decide))⟩
    refine .trans ?_ (hset _ _ _ _ _ _)
    exact (hterms.trans (hraise _ _ _ _)).trans (hraise _ _ _ _)

/-- Without a budget that governs, G is 256 (R412). -/
theorem State.govern_of_no_budget {s : State} (h : s.sns.recvAt = none) : s.govern.hm.g = 256 ∧ s.govern.hm.headroom = 0 := by
  have hterms := s.govTerms_hmKept
  have hsns : s.govTerms.2.sns = s.sns := (Keeps.govTerms_keeps (gs := [.hm]) (List.Subset.refl _) (Keeps.refl s)).only.same .sns (by decide)
  unfold State.govern
  generalize s.govTerms = p at hsns ⊢
  obtain ⟨ts, u⟩ := p
  have hnone : u.budgetAtEval = none := by
    rw [State.budgetAtEval, hsns, h]
  dsimp only
  rw [hnone]
  exact ⟨rfl, rfl⟩

/-- Faults of images leave what the governor has found. -/
theorem State.imageFaults_hmKept (s : State) (id : BitVec 16) : State.HmKept s (s.imageFaults id) ∧ (s.imageFaults id).hm.g = s.hm.g ∧
    (s.imageFaults id).hm.headroom = s.hm.headroom := by
  have told (u : State) (arg : Nat) (hu : State.HmKept s u) (hg : u.hm.g = s.hm.g) (hroom : u.hm.headroom = s.hm.headroom) :
      State.HmKept s (u.raise evHmModelFault arg) ∧ (u.raise evHmModelFault arg).hm.g = s.hm.g ∧
      (u.raise evHmModelFault arg).hm.headroom = s.hm.headroom := by
    have hraise := (Keeps.raise_keeps (gs := [.ev]) (List.Subset.refl _) (Keeps.refl u) evHmModelFault arg).only
    have hhm : (u.raise evHmModelFault arg).hm = u.hm := hraise.same .hm (by decide)
    rw [hhm]
    exact ⟨hu.trans (.of_only hraise (by decide)), hg, hroom⟩
  unfold State.imageFaults
  split
  · exact ⟨.refl s, rfl, rfl⟩
  next k hk =>
    split
    · exact ⟨.refl s, rfl, rfl⟩
    next x hx =>
      split
      · exact ⟨.refl s, rfl, rfl⟩
      · exact told _ _ ⟨rfl, rfl, rfl, (s.only_hm _).mono (by decide)⟩ rfl rfl

theorem State.imageFaultsAll_hmKept (s : State) (bad : List (BitVec 16)) : State.HmKept s (bad.foldl State.imageFaults s) ∧
    (bad.foldl State.imageFaults s).hm.g = s.hm.g ∧ (bad.foldl State.imageFaults s).hm.headroom = s.hm.headroom := by
  induction bad generalizing s with
  | nil => exact ⟨.refl s, rfl, rfl⟩
  | cons id bad ih =>
    obtain ⟨hkept, hg, hroom⟩ := s.imageFaults_hmKept id
    obtain ⟨hkept', hg', hroom'⟩ := ih (s.imageFaults id)
    exact ⟨hkept.trans hkept', hg'.trans hg, hroom'.trans hroom⟩

/-- The switch follows HM_EN at a boundary. -/
theorem State.hmSwitch_spec (s : State) : s.hmSwitch.hm.enabled = s.hmOn ∧ s.hmSwitch.hm.ctrl = s.hm.ctrl ∧
    s.hmSwitch.hm.front = s.hm.front ∧ Only [.hm] s s.hmSwitch := by
  have honly := (Keeps.hmSwitch_keeps (gs := [.hm]) (List.Subset.refl _) (Keeps.refl s)).only
  unfold State.hmSwitch at honly ⊢
  dsimp only at honly ⊢
  split
  next h => exact ⟨by simpa using h.2.symm, rfl, rfl, by rwa [if_pos h] at honly⟩
  next h =>
    rw [if_neg h] at honly
    split
    next h' => exact ⟨h'.2.symm, rfl, rfl, by rwa [if_pos h'] at honly⟩
    next h' =>
      rw [if_neg h'] at honly
      refine ⟨?_, rfl, rfl, honly⟩
      cases hon : s.hmOn <;> cases hen : s.hm.enabled <;> simp_all

/-! ### What waited for a hold's end -/

theorem State.toLimp_follow (s : State) (n : Nat) : (s.toLimp n).sys.follow = s.sys.follow := by
  unfold State.toLimp
  split
  · rfl
  · split
    · rfl
    · split
      · rfl
      · exact congrArg Sys.follow ((Keeps.joinFence_keeps (gs := [.cfg]) (List.Subset.refl _) (Keeps.refl s) _ _ _).only.same .sys (by decide))

theorem State.followUp_follow {s : State} (h : s.sys.follow = 2) : s.followUp.sys.follow = if s.resetDue then 2 else 0 := by
  have hkeeps {gs : List Group} {u v : State} (hk : Keeps gs u v) (hsys : Group.sys ∉ gs) : v.sys.follow = u.sys.follow :=
    congrArg Sys.follow (hk.only.same .sys hsys)
  unfold State.followUp
  by_cases hdue : s.resetDue = true
  · rw [if_pos (.inr hdue), if_pos hdue, h]
  · rw [if_neg (by simp [h, hdue]), if_neg hdue]
    have hthrottle : ({ s with sys := { s.sys with follow := 0 } } : State).throttleDue.sys.follow = 0 :=
      hkeeps (Keeps.throttleDue_keeps (gs := [.sns, .cfg, .ev]) (List.Subset.refl _) (Keeps.refl _)) (by decide)
    generalize ({ s with sys := { s.sys with follow := 0 } } : State).throttleDue = u at hthrottle ⊢
    dsimp only
    have hlimp : (if u.sys.limpDue = 0 then u else ({ u with sys := { u.sys with limpDue := 0 } } : State).toLimp u.sys.limpDue).sys.follow = 0 := by
      split
      · exact hthrottle
      · exact (State.toLimp_follow _ _).trans hthrottle
    generalize (if u.sys.limpDue = 0 then u else ({ u with sys := { u.sys with limpDue := 0 } } : State).toLimp u.sys.limpDue) = v at hlimp ⊢
    have hrest : Keeps [.mbx, .reg, .cal, .cfg] v ((v.cfg.stopped.foldl State.refence { v with cfg := { v.cfg with stopped := [] } }).requeue) := by
      have hput : Keeps [.mbx, .reg, .cal, .cfg] v { v with cfg := { v.cfg with stopped := [] } } :=
        ⟨(v.only_cfg _).mono (by decide), Regular.keep (s := v) rfl⟩
      exact Keeps.requeue_keeps (by decide) (Keeps.foldl (fun _ e ht => Keeps.refence_keeps (by decide) ht e) hput)
    have hfollow := hkeeps hrest (by decide)
    dsimp only at hfollow
    rw [hfollow, hlimp]

theorem State.resetDue_congr {s t : State} (hreg : t.reg = s.reg) (hxg : t.xg = s.xg) (hdie : t.die = s.die) (hcfg : t.cfg = s.cfg)
    (hepoch : t.sys.epoch = s.sys.epoch) : t.resetDue = s.resetDue := by
  have hstate (id : Nat) : t.xState id = s.xState id :=
    State.xState_congr hdie hepoch hcfg (congrArg Xg.lane hxg) (fun r _ => by rw [State.rgn_congr hreg r]) (by rw [State.xing, hxg, State.xing])
  have htorn (id : Nat) : t.tornAt id = s.tornAt id := by
    simp only [State.tornAt, State.laneAt, State.xing, hxg]
  simp only [State.resetDue, hstate, htorn, hxg]

/-! ### The boundary -/

/-- The state in which an evaluation boundary's registers, switch, images and governor have done theirs. -/
def State.evalReady (s : State) (bad : List (BitVec 16)) : State :=
  let s := s.hmTick.hmSwitch
  let s := s.unloadDue.activate
  let s := { s with hm := { s.hm with board := s.hm.board.filter fun e => decide (256 * s.win ≤ e.1) } }
  let s := s.govern
  if s.hmOn && !s.inHold && s.active.isSome then bad.foldl State.imageFaults s else s

/-- The records of an evaluation that runs, and the word that will carry its plan. -/
def State.evalBegun (s : State) (tc : List Nat) (runs : Bool) : State :=
  { s with hm := { s.hm with
    running := runs
    eval := if runs then some ⟨s.now, 0, (List.range 256).map s.planFor⟩ else none
    next := some ⟨s.now, !runs, s.hm.g, tc⟩ } }

structure State.EvalReady (s t : State) : Prop where
  ctrl : t.hm.enabled = t.hmOn
  front : t.hm.front = s.hm.front
  only : Only [.mbx, .hm, .sns, .ev] s t
  gov : s.sns.recvAt = none → t.hm.g = 256 ∧ t.hm.headroom = 0

theorem State.evalReady_spec (s : State) (bad : List (BitVec 16)) : State.EvalReady s (s.evalReady bad) := by
  have htick : Only [.hm] s s.hmTick := (Keeps.hmTick_keeps (List.Subset.refl _) (Keeps.refl s)).only
  obtain ⟨hen, hctrl, hfront, hswitch⟩ := s.hmTick.hmSwitch_spec
  have hfront' : s.hmTick.hmSwitch.hm.front = s.hm.front := hfront
  have hon : s.hmTick.hmSwitch.hm.enabled = s.hmTick.hmSwitch.hmOn := by rw [hen, State.hmOn, State.hmOn, hctrl]
  have hfirst : Only [.hm] s s.hmTick.hmSwitch := htick.trans hswitch
  unfold State.evalReady
  dsimp only
  generalize s.hmTick.hmSwitch = u at hon hfirst hfront'
  have hload := (u.unloadDue_hmKept.trans (State.activate_hmKept _)).trans (State.boardCut_hmKept _
    (u.unloadDue.activate.hm.board.filter fun e => decide (256 * u.unloadDue.activate.win ≤ e.1)))
  have hsns : u.unloadDue.activate.sns = s.sns := by
    have hk := Keeps.activate_keeps (gs := [.mbx, .hm]) (by decide) (Keeps.unloadDue_keeps (by decide) (Keeps.refl u))
    exact (hk.only.same .sns (by decide)).trans (hfirst.same .sns (by decide))
  generalize u.unloadDue.activate = v at hload hsns ⊢
  have hgov (hrecv : s.sns.recvAt = none) := State.govern_of_no_budget
    (s := { v with hm := { v.hm with board := v.hm.board.filter fun e => decide (256 * v.win ≤ e.1) } }) (by rw [← hrecv, ← hsns])
  have hall := hload.trans (State.govern_hmKept _)
  generalize State.govern { v with hm := { v.hm with board := v.hm.board.filter fun e => decide (256 * v.win ≤ e.1) } } = w at hgov hall ⊢
  obtain ⟨hfaults, hg, hroom⟩ := w.imageFaultsAll_hmKept bad
  have done {x : State} (hx : State.HmKept u x) (hgx : s.sns.recvAt = none → x.hm.g = 256 ∧ x.hm.headroom = 0) : State.EvalReady s x := by
    refine ⟨?_, hx.front.trans hfront', (hfirst.mono (by decide)).trans hx.only, hgx⟩
    rw [hx.enabled, hon, State.hmOn, State.hmOn, hx.ctrl]
  split
  · exact done (hall.trans hfaults) fun hrecv => by rw [hg, hroom]; exact hgov hrecv
  · exact done hall hgov

/-- Hawkmoth evaluates: it is enabled, outside hold, and a controller is ACTIVE. -/
def State.hmRuns (s : State) : Bool := s.hmOn && !s.inHold && s.active.isSome

theorem State.hmRuns_congr {s t : State} (hhm : t.hm.ctrl = s.hm.ctrl) (hsys : t.sys = s.sys) (hctl : t.ctl = s.ctl) :
    t.hmRuns = s.hmRuns := by
  simp only [State.hmRuns, State.hmOn, State.inHold, State.active, hhm, hsys, hctl]

theorem exec_evaluationStart {s : State} (bad : List (BitVec 16)) (hepoch : s.sys.epoch = true) (hwin : s.now % 512 = 0)
    (hfresh : ∀ w, s.hm.next = some w → w.e ≠ s.now) : ∃ tc : List Nat, tc.length = 23 ∧
      exec (.evaluationStart bad) s = .next ((s.evalReady bad).evalBegun tc (s.evalReady bad).hmRuns).resumed := by
  have hrun : exec (.evaluationStart bad) s = execEvaluationStart s bad := rfl
  unfold execEvaluationStart at hrun
  rw [hrun, if_neg ?due]
  case due =>
    rintro (h | h | h)
    · simp [hepoch] at h
    · exact h hwin
    · split at h
      next w hnext => exact hfresh w hnext (by simpa using h)
      · simp at h
  unfold State.evalReady
  dsimp only
  generalize State.govern _ = w
  have hsame : (if w.hmRuns = true then bad.foldl State.imageFaults w else w).hmRuns = w.hmRuns := by
    split
    · have h := (w.imageFaultsAll_hmKept bad).1
      exact State.hmRuns_congr h.ctrl (h.only.same .sys (by decide)) (h.only.same .ctl (by decide))
    · rfl
  refine ⟨allSites.map fun i => (w.therm i).tcFor w.now, by simp [allSites], ?_⟩
  rw [← State.hmRuns, hsame]
  rfl

/-- A plan record of a district without a model ramps in 16 trims. -/
theorem State.neutral_trims_length (s : State) (d reason : Nat) (stale : Bool) : (s.neutral d reason stale).trims.length = 16 := rfl

/-- Settles O30: the steps before an evaluation keep Hawkmoth's control and buffers, the governor's request is the first code within the
budget, and what waited for a hold's end follows as the joint resets allow. -/
theorem evaluationsBegin : Obligations.EvaluationsBegin := by
  refine ⟨fun bad s hepoch hwin hfresh => ?start, fun d s hgap hnone => ?neutral, fun d x s hgap hsome hfresh hstate hfailed => ?model,
    fun base g h ts hg hgh => estimate_antitone base ts hg hgh, fun base beff ts => ?request⟩
  case start =>
    obtain ⟨tc, htc, hrun⟩ := exec_evaluationStart bad hepoch hwin hfresh
    have hready := s.evalReady_spec bad
    generalize s.evalReady bad = u at hrun hready
    have hsys : u.sys = s.sys := hready.only.same .sys (by decide)
    have hctl : u.ctl = s.ctl := hready.only.same .ctl (by decide)
    have hruns : u.hmRuns = (u.hmOn && !s.inHold && s.active.isSome) := by
      rw [State.hmRuns, State.inHold, State.active, hsys, hctl, State.inHold, State.active]
    have hresumed : Only [.sys, .mbx, .reg, .cal, .sns, .cfg, .ev] (u.evalBegun tc u.hmRuns) (u.evalBegun tc u.hmRuns).resumed :=
      (Keeps.resumed_keeps (List.Subset.refl _) (Keeps.refl _)).only
    have hhm : (u.evalBegun tc u.hmRuns).resumed.hm = (u.evalBegun tc u.hmRuns).hm := hresumed.same .hm (by decide)
    have hon : (u.evalBegun tc u.hmRuns).resumed.hmOn = u.hmOn := by
      rw [State.hmOn, hhm]
      rfl
    refine ⟨_, hrun, ⟨⟨u.now, !u.hmRuns, u.hm.g, tc⟩, by rw [hhm]; rfl, by rw [State.now, hsys], by rw [hhm]; rfl, htc, ?_⟩,
      fun h1 h2 h3 => ?_, ?_, fun hfollow hhold => ?_, fun hoff => ?_, fun hrecv => ?_, ?_, exec_only hrun⟩
    · rw [hon, hruns]
      cases u.hmOn <;> cases s.inHold <;> cases s.active <;> simp
    · rw [hon] at h1
      rw [hhm]
      have hyes : u.hmRuns = true := by rw [hruns, h1, h2, h3]; rfl
      rw [hyes]
      exact ⟨rfl, _, rfl, congrArg Sys.erg hsys, rfl, by simp⟩
    · rw [hhm, hon]
      exact hready.ctrl
    · have hmine : (u.evalBegun tc u.hmRuns).resumed = ({ u.evalBegun tc u.hmRuns with
          sys := { u.sys with follow := 2 } } : State).followUp := by
        refine if_pos ⟨?_, ?_⟩
        · exact (congrArg Sys.follow hsys).trans hfollow
        · have hout : (u.evalBegun tc u.hmRuns).inHold = s.inHold := congrArg (fun y : Sys => decide (y.hold ≠ 0)) hsys
          rw [hout, hhold]
          rfl
      have hdue : ({ u.evalBegun tc u.hmRuns with sys := { u.sys with follow := 2 } } : State).resetDue = s.resetDue :=
        State.resetDue_congr (hready.only.same .reg (by decide)) (hready.only.same .xg (by decide)) (hready.only.same .die (by decide))
          (hready.only.same .cfg (by decide)) (congrArg Sys.epoch hsys :)
      rw [hmine, State.followUp_follow rfl, hdue]
    · have hno : u.hmRuns = false := by
        rw [hon] at hoff
        rw [hruns]
        rcases hoff with h | h <;> simp [h]
      rw [hhm, hno]
      exact ⟨rfl, rfl⟩
    · rw [hhm]
      exact hready.gov hrecv
    · rw [hhm]
      exact hready.front
  case neutral =>
    have hplan : s.planFor d = (s.neutral d 1 (s.isStale d), 0) := by
      unfold State.planFor
      dsimp only
      rw [if_neg (by simpa using hgap), hnone]
    rw [hplan]
    exact ⟨rfl, rfl, rfl, rfl, rfl, s.neutral_trims_length d 1 _⟩
  case model =>
    have hplan : s.planFor d = ({
        win0Erg := s.now + 768, model := x.id, valid := true, neutral := false, sat := decide (0 < (x.run (s.features d)).2)
        staleFc := s.isStale d, reason := 0, trims := (x.run (s.features d)).1 }, (x.run (s.features d)).2) := by
      unfold State.planFor
      dsimp only
      rw [if_neg (by simpa using hgap), hsome]
      dsimp only
      rw [if_neg (by simp [hfresh]), if_neg hstate, if_neg (by simp [hfailed])]
    rw [hplan]
    exact ⟨rfl, rfl, rfl, rfl, rfl⟩
  case request =>
    obtain ⟨k, hk, hreq, hbelow, hin⟩ := govRequest_spec base ts beff
    refine ⟨⟨k, hk, hreq⟩, fun hfit => ?_, fun j hj => hbelow j (by omega), fun hover => ?_⟩
    · rw [hreq]
      rcases hin with h | rfl
      · exact h
      · exact hfit
    · rcases hin with h | rfl
      · have := estimate_antitone base ts (g := 160 + 8 * k) (h := 1280) (by omega) (by omega)
        omega
      · rw [hreq]

end Sys2Proof.Machine
end

section
/-! SUPPORT. A counterexample to what a captured PLAN word leaves (R189, R190). -/
namespace Sys2Proof.Machine
open Sys2Proof.Safety

/-- District 1's record of the evaluation at 2,559,488. -/
def deliveredPlan : PlanRec :=
  { win0Erg := 2560256, model := 0, valid := true, neutral := true, sat := false, staleFc := false, reason := 1, trims := [] }

/-- A PLAN word that waits at region 8, whose message queue has a word behind it that waits for room. -/
def mailBehindPlan : State :=
  { operating with
    hm := { word := some ⟨2559488, false, 300, []⟩, front := [(1, some deliveredPlan)] }
    reg := [(8, { msgs := [.capture 1], msgWait := [.capture 2] })] }

/-- The messages that wait behind a region's queue after a command. -/
def waitingMail (r : RegionNo) : Out → Option (List Msg)
  | .next t => some (t.rgn r).msgWait
  | _ => none

/-- Refutes O31: the capture of a PLAN word frees the crossing, the first message goes into transfer, and its place in the queue lets the
message behind the queue in (R189); the statement's clause on the capture has what waits behind the queue stay. -/
theorem not_plansAreFlippedAndCaptured : ¬ Obligations.PlansAreFlippedAndCaptured := by
  intro h
  obtain ⟨_, _, _, _, hcapture, _⟩ := h
  have hreg : Regular mailBehindPlan := by constructor <;> decide +kernel
  obtain ⟨t, hrun, hrgn, _⟩ := hcapture 8 ⟨2559488, false, 300, []⟩ deliveredPlan mailBehindPlan hreg (by decide +kernel) (by decide +kernel)
    (by decide +kernel) (by decide +kernel) (by decide +kernel) (by decide +kernel)
  have hstays : waitingMail 8 (exec (.planCapture 8) mailBehindPlan) = some [.capture 2] := by
    rw [hrun]
    exact congrArg (fun g : Region => some g.msgWait) hrgn
  exact absurd hstays (by decide +kernel)

end Sys2Proof.Machine
end

section
/-! SUPPORT. Columns, models and Hawkmoth's mode (R89, R97-R100, R325). -/
namespace Sys2Proof.Machine
open Sys2Proof.Safety

/-! ### Column tests -/

/-- What a test of one column sees: it is due in its cadence. -/
structure TestDue (s : State) : Prop where
  running : s.hm.running = true
  on : bitOf s.hm.ctrl.eff 2 = true
  low : 448 ≤ s.now % 512
  high : s.now % 512 ≤ 479
  once : s.hm.testedAt ≠ some (s.now - s.now % 512)

theorem TestDue.not_skipped {s : State} (h : TestDue s) : ¬ (!s.hm.running ∨ !bitOf s.hm.ctrl.eff 2 ∨ s.now % 512 < 448 ∨
    479 < s.now % 512 ∨ s.hm.testedAt = some (s.now - s.now % 512)) := by
  have := h.low
  have := h.high
  simp [h.running, h.on, h.once]
  omega

/-- The state in which a column's test has failed. -/
def State.testFailed (s : State) : State :=
  { s with hm := { s.hm with
    testCol := (s.hm.testCol + 1) % 66, testedAt := some (s.now - s.now % 512), lastCol := s.hm.testCol } }

theorem Hm.evalStep_eq (h : Hm) (k : Nat) :
    h.evalStep k = { h with back := (h.evalStep k).back, sat := (h.evalStep k).sat, eval := (h.evalStep k).eval } := by
  unfold Hm.evalStep
  split <;> rfl

theorem State.discardEval_hm (s : State) :
    s.discardEval.hm = { s.hm with back := s.discardEval.hm.back, sat := s.discardEval.hm.sat, eval := none } := by
  unfold State.discardEval State.evalNow
  split
  · rfl
  next v hv =>
    dsimp only
    rw [Hm.evalStep_eq]

theorem State.columnsSpent_of_spare {s : State} {c : Nat} (h : s.hm.failed.length ≤ s.hm.freeColumns) : s.columnsSpent c = s :=
  if_pos (.inl h)

theorem State.columnsSpent_of_none {s : State} {c : Nat} (h : s.hm.freeColumns < s.hm.failed.length) (hnot : s.hm.exhausted = false) :
    s.columnsSpent c = ({ s with
      hm := { s.hm with exhausted := true, ctrl := s.hm.ctrl.write s.now (s.hm.ctrl.img &&& 0xFFFFFFFE) }
      sys := { s.sys with limp3 := true } } : State).raise evSpareExhausted (5 + at_ c 16) :=
  if_neg (by simp [hnot]; omega)

theorem bitOf_clear_zero (w : Word) : bitOf (w &&& 0xFFFFFFFE) 0 = false := by
  rw [bitOf_eq_getLsbD, BitVec.getLsbD_and]
  exact Bool.and_false _

/-- What the failed test of a working column leaves before it is asked whether spares are left. -/
structure State.TestFails (s t : State) : Prop where
  hm : t.hm = { s.hm with
    back := t.hm.back, sat := t.hm.sat, eval := none, testCol := (s.hm.testCol + 1) % 66, testedAt := some (s.now - s.now % 512)
    lastCol := s.hm.testCol, failed := s.hm.failed ++ [s.hm.testCol] }
  ev : t.ev = (s.raise evHmColumnFail s.hm.testCol).ev
  sys : t.sys = s.sys

/-- The state in which a failed column is noted and told. -/
def State.columnNoted (s : State) (c : Nat) : State :=
  ({ s.discardEval with hm := { s.discardEval.hm with failed := s.discardEval.hm.failed ++ [c] } } : State).raise evHmColumnFail c

theorem State.columnNoted_spec (s : State) : State.TestFails s (s.testFailed.columnNoted s.hm.testCol) := by
  let u : State := { s.testFailed.discardEval with hm := { s.testFailed.discardEval.hm with
    failed := s.testFailed.discardEval.hm.failed ++ [s.hm.testCol] } }
  have hdiscard : Only [.hm] s.testFailed s.testFailed.discardEval :=
    (Keeps.discardEval_keeps (List.Subset.refl _) (Keeps.refl s.testFailed)).only
  have hraise := (Keeps.raise_keeps (gs := [.ev]) (List.Subset.refl _) (Keeps.refl u) evHmColumnFail s.hm.testCol).only
  have hu : (s.testFailed.columnNoted s.hm.testCol).hm = u.hm := hraise.same .hm (by decide)
  have hsys : u.sys = s.sys := hdiscard.same .sys (by decide)
  have hev : u.ev = s.ev := hdiscard.same .ev (by decide)
  refine ⟨?_, State.raise_ev_congr _ _ (congrArg Sys.epoch hsys) (congrArg Sys.erg hsys) hev, (hraise.same .sys (by decide)).trans hsys⟩
  rw [hu]
  change ({ s.testFailed.discardEval.hm with failed := s.testFailed.discardEval.hm.failed ++ [s.hm.testCol] } : Hm) = _
  rw [State.discardEval_hm]
  rfl

theorem exec_columnTest_fails {s : State} (h : TestDue s) (hcol : s.hm.testCol < 64) (h0 : s.hm.testCol ≠ s.hm.map0)
    (h1 : s.hm.testCol ≠ s.hm.map1) (hnew : s.hm.testCol ∉ s.hm.failed) :
    exec (.columnTest false) s = .next ((s.testFailed.columnNoted s.hm.testCol).columnsSpent s.hm.testCol) := by
  have hrun : exec (.columnTest false) s = execColumnTest false s := rfl
  unfold execColumnTest at hrun
  dsimp only at hrun
  rw [if_neg h.not_skipped, if_neg (by decide), if_pos hcol, if_neg (by simp [h0, h1, hnew])] at hrun
  exact hrun

/-! ### Models and the mode -/

theorem State.activate_of_ready {s : State} {x : Image} {h a : Nat} {o : LongOp} (hready : s.hm.ready = some (x, h, a))
    (ho : (s.handle h).op = some o) (hst : o.st = .running) (ha : a < s.now) (hhold : s.sys.hold = 0) :
    s.activate = ({ s with hm := { s.hm with images := install s.hm.images x, ready := none } } : State).finishOp h .completed stOk := by
  rw [State.activate, hready]
  dsimp only
  rw [ho]
  exact if_pos ⟨decide_eq_true hst, ha, by simp [hhold]⟩

theorem mem_install (l : List Image) (x : Image) : x ∈ install l x := List.mem_append_right _ (List.mem_singleton_self x)

/-- An image put in force replaces the one of its identifier. -/
theorem eq_of_mem_install {l : List Image} {x y : Image} (hy : y ∈ install l x) (hid : y.id = x.id) : y = x := by
  have hne : ∀ z ∈ l.filter (·.id ≠ x.id), z.id ≠ x.id := fun z hz => of_decide_eq_true (List.mem_filter.1 hz).2
  rcases List.mem_append.1 hy with hy | hy
  · have hy := (List.mem_filter.1 hy).1
    split at hy
    · exact absurd hid (hne y hy)
    · obtain ⟨z, hz, rfl⟩ := List.mem_map.1 hy
      refine absurd ?_ (hne z hz)
      split at hid
      · exact hid
      · exact hid
  · exact List.mem_singleton.1 hy

/-- MB_HM_CTRL as HAWKMOTH_SET_MODE writes it: a stale time, the column tests and the mode. -/
def modeWord (st : Nat) (test : Bool) (mode : Nat) : Word := word (at_ st 8 + (if test then 4 else 0) + mode)

theorem modeWord_fields {st mode : Nat} (hst : st < 256) (hmode : mode ≤ 1) (test : Bool) :
    bitOf (modeWord st test mode) 0 = decide (mode = 1) ∧ bitOf (modeWord st test mode) 2 = test ∧ fld (modeWord st test mode) 15 8 = st := by
  have hnat : (modeWord st test mode).toNat = st * 256 + (if test then 4 else 0) + mode := by
    rw [modeWord, word, at_, BitVec.toNat_ofNat]
    exact Nat.mod_eq_of_lt (by split <;> omega)
  simp only [bitOf, bitAt, fld, bits, hnat, beq_eq_decide]
  cases test
  · refine ⟨decide_eq_decide.2 ?_, decide_eq_false ?_, ?_⟩ <;> simp <;> omega
  · refine ⟨decide_eq_decide.2 ?_, decide_eq_true ?_, ?_⟩ <;> simp <;> omega

/-- Settles O32: a column's test, a spare's map, an image's activation and the commands are each their own equation; a failed column's
evaluation is discarded before spares are counted. -/
theorem columnsModelsAndMode : Obligations.ColumnsModelsAndMode := by
  refine ⟨fun s hrun hon hlow hhigh honce => ?passes, fun pass s hnot => ?notDue,
    fun s hrun hon hlow hhigh honce hexh hcol h0 h1 hnew => ?fails, fun c j rest s hfailed hfree hfw hwin => ?map,
    fun x h a o s hready hwin ho hst ha hhold => ?activate, fun q i s hready hlevel hlow hhigh hbusy hfree => ?load,
    fun q s hready hbusy hresident => ?unload, fun q s hready hmode hexh => ?mode, fun q s hready hkind htgt => ?query⟩
  case passes =>
    exact (if_neg (TestDue.not_skipped ⟨hrun, hon, hlow, hhigh, honce⟩)).trans (if_pos rfl)
  case notDue =>
    refine if_pos (.inr (.inr ?_))
    rcases hnot with h | h | h
    · exact .inl h
    · exact .inr (.inl h)
    · exact .inr (.inr h)
  case fails =>
    have hexec := exec_columnTest_fails ⟨hrun, hon, hlow, hhigh, honce⟩ hcol h0 h1 hnew
    have h := s.columnNoted_spec
    have honly := exec_only hexec
    generalize s.testFailed.columnNoted s.hm.testCol = u at hexec h honly
    have hhm := h.hm
    have hlen : u.hm.failed.length = s.hm.failed.length + 1 := by
      rw [hhm]
      simp
    have hfree : u.hm.freeColumns = s.hm.freeColumns := by
      rw [hhm]
      rfl
    have hexh' : u.hm.exhausted = false := by
      rw [hhm]
      exact hexh
    by_cases hspare : s.hm.failed.length < s.hm.freeColumns
    · rw [State.columnsSpent_of_spare (by omega)] at hexec honly
      refine ⟨u, hexec, ?_, by rw [hhm], by rw [hhm], by rw [hhm], fun _ => ⟨by rw [hhm], h.ev, h.sys⟩, fun hnone => by omega, honly⟩
      rw [hhm]
      exact Nat.mod_eq_of_lt (by omega)
    · rw [State.columnsSpent_of_none (by omega) hexh'] at hexec honly
      let v : State := { u with
        hm := { u.hm with exhausted := true, ctrl := u.hm.ctrl.write u.now (u.hm.ctrl.img &&& 0xFFFFFFFE) }
        sys := { u.sys with limp3 := true } }
      have hraise := (Keeps.raise_keeps (gs := [.ev]) (List.Subset.refl _) (Keeps.refl v) evSpareExhausted (5 + at_ s.hm.testCol 16)).only
      have hvhm : (v.raise evSpareExhausted (5 + at_ s.hm.testCol 16)).hm = v.hm := hraise.same .hm (by decide)
      have hvsys : (v.raise evSpareExhausted (5 + at_ s.hm.testCol 16)).sys = v.sys := hraise.same .sys (by decide)
      refine ⟨_, hexec, ?_, ?_, ?_, ?_, fun hyes => absurd hyes hspare, fun _ => ⟨?_, ?_, ?_⟩, honly⟩
      · rw [hvhm]
        change u.hm.testCol = _
        rw [hhm]
        exact Nat.mod_eq_of_lt (by omega)
      · rw [hvhm]
        change u.hm.lastCol = _
        rw [hhm]
      · rw [hvhm]
        change u.hm.failed = _
        rw [hhm]
      · rw [hvhm]
        change u.hm.eval = _
        rw [hhm]
      · rw [hvhm]
      · rw [hvhm]
        exact bitOf_clear_zero _
      · rw [hvsys]
        change ({ u.sys with limp3 := true } : Sys) = _
        rw [h.sys]
  case map =>
    have hrun : exec .columnSpareMap s = execColumnSpareMap s := rfl
    rw [hrun, execColumnSpareMap, hfailed, hfree]
    exact if_pos ⟨hfw, hwin⟩
  case activate =>
    let u : State := { s with hm := { s.hm with images := install s.hm.images x, ready := none } }
    have hrun : exec (.modelActivate x.id) s = .next (u.finishOp h .completed stOk) := by
      have hexec : exec (.modelActivate x.id) s = execModelActivate x.id s := rfl
      rw [hexec, execModelActivate, hready]
      dsimp only
      rw [if_pos ⟨hwin, rfl⟩, State.activate_of_ready hready ho hst ha hhold]
    obtain ⟨hself, -⟩ := State.finishOp_spec (s := u) .completed stOk (State.handle_lt ho) ho
    have honly := u.finishOp_only h .completed stOk
    have hhm : (u.finishOp h .completed stOk).hm = u.hm := honly.same .hm (by decide)
    refine ⟨_, hrun, hhm, ?_, ?_, congrArg Handle.op hself, ((s.only_hm _).mono (by decide)).trans (honly.mono (by decide))⟩
    · rw [hhm]
      exact mem_install _ x
    · rw [hhm]
      exact fun y hy hid => eq_of_mem_install hy hid
  case load =>
    have hbusy' : ((posted s 0x0304 q).findOp fun o => decide (o.kind = .modelLoad ∨ o.kind = .fwUpdate)) = none := hbusy
    have hfree' : (posted s 0x0304 q).freeHandle (decide (q.mbx = 7)) = some i := hfree
    have hi := State.freeHandle_lt hfree
    let o : LongOp := { newOp .modelLoad .receiving s.now with
      total := q.le 0 4, expert := true, step := 1, starter := some q.mbx, start := s.now, timer := s.now
      async := bitOf (q.flags.setWidth 32) 3 }
    let v := (posted s 0x0304 q).modHandle i fun h => { h with op := some o }
    have hcmd : cmdModelLoad q (posted s 0x0304 q) = .done { status := 0x01, handle := some (s.handleNo i) }
        { v with hm := { v.hm with staging := [] } } := by
      rw [cmdModelLoad, hbusy']
      dsimp only
      rw [if_neg (by simp), if_pos hlevel, if_neg (by omega), State.startOp_of_free _ _ hfree']
      rfl
    have hv : Keeps [.mbx, .hm] s v := Keeps.modHandle_keeps (by decide) (Keeps.modBox_keeps (by decide) (Keeps.refl s) q.mbx _) i _
    refine ⟨_, congrArg Host.Outcome.next (State.submit_done (by decide) hready hcmd), rfl,
      ⟨o, (posted s 0x0304 q).handle_modHandle _ hi, rfl, rfl, rfl, rfl, rfl, rfl⟩, fun j hj => (posted s 0x0304 q).handle_modHandle_ne _ hj, ?_⟩
    exact hv.only.trans ((v.only_hm _).mono (by decide))
  case unload =>
    refine congrArg Host.Outcome.next (State.submit_done (by decide) hready ?_)
    have hbusy' : ((posted s 0x0305 q).findOp fun o => decide (o.kind = .modelLoad ∧
      o.target = (BitVec.ofNat 16 (q.le 0 2)).toNat ∧ o.target ≠ 0)) = none := hbusy
    have hany : ((posted s 0x0305 q).hm.images.any fun x => decide (x.id = BitVec.ofNat 16 (q.le 0 2))) = true := by
      obtain ⟨x, hx, hid⟩ := hresident
      exact List.any_eq_true.2 ⟨x, hx, decide_eq_true hid⟩
    rw [cmdModelUnload, hbusy', hany]
    rfl
  case mode =>
    have hst : (if q.u8 1 = 0 then bits s.hm.ctrl.img.toNat 15 8 else q.u8 1) < 256 := by
      split
      · exact Nat.mod_lt _ (by decide)
      · exact (q.payload.getD 1 0).isLt
    generalize hw : modeWord (if q.u8 1 = 0 then bits s.hm.ctrl.img.toNat 15 8 else q.u8 1) (bitOf s.hm.ctrl.img 2) (q.u8 0) = w
    have hcmd : cmdHawkmothSetMode q (posted s 0x0302 q) = .done (okReply (toLE 8 (nextAfter 512 s.now)))
        { posted s 0x0302 q with hm := { s.hm with ctrl := s.hm.ctrl.write s.now w } } := by
      rw [cmdHawkmothSetMode, ← hw]
      exact (if_neg (by omega)).trans (if_neg fun h => by simp [posted, hexh h.1] at h)
    obtain ⟨h0, h2, h8⟩ := modeWord_fields hst hmode (bitOf s.hm.ctrl.img 2)
    rw [hw] at h0 h2 h8
    exact ⟨_, congrArg Host.Outcome.next (State.submit_done (by decide) hready hcmd), h0, h2, h8, rfl, rfl,
      ((posted_only s 0x0302 q).mono (by decide)).trans (((posted s 0x0302 q).only_hm _).mono (by decide))⟩
  case query =>
    refine congrArg Host.Outcome.next (State.submit_done (by decide) hready ?_)
    rw [cmdHawkmothQuery, hkind]
    exact if_neg (by omega)

end Sys2Proof.Machine
end

section
/-! SUPPORT. Autonomous hold (R29-R32, R301): what its entry leaves in the package's own fields, what it stops, and how it ends. -/
namespace Sys2Proof.Machine
open Sys2Proof.Safety

/-! ### Entry into hold -/

theorem State.raise_sys (s : State) (id arg : Nat) : (s.raise id arg).sys = s.sys :=
  (Keeps.raise_keeps (List.Subset.refl _) (Keeps.refl s) id arg).only.same .sys (by decide)

theorem State.only_sys (s : State) (x : Sys) : Only [.sys] s { s with sys := x } :=
  ⟨fun g hg => by cases g with
    | sys => exact absurd (List.mem_singleton_self _) hg
    | _ => rfl⟩

/-- The package's own fields as hold of a cause begins. -/
def Sys.holding (x : Sys) (cause : Nat) : Sys :=
  { x with
    hold := cause, holdFrom := if decide (x.hold = 0) then x.erg else x.holdFrom, causeFrom := x.erg, released := none, overrun := false }

/-- Hold as its cause is noted and told. -/
def State.holdTold (s : State) (cause : Nat) : State := (({ s with sys := s.sys.holding cause } : State).raise evHoldEnter cause).irq 9

/-- Discipline stops: Erg time runs in holdover where the crystal is lost. -/
def State.holdover (s : State) : State :=
  if s.et.xtalLost ∧ s.et.span then { s with et := { s.et with holdover := true, span := false } } else s

/-- What entry into hold stops. -/
def State.holdStopped (s : State) : State :=
  { s.holdFences.settle.holdPause.holdRejoin with
    hm := { s.evalNow.hm with eval := none, next := s.hm.next.map fun w => { w with void := true } } }

theorem State.enterHold_eq (s : State) (cause : Nat) : s.enterHold cause =
    if cause = 4 then (if decide (s.sys.hold = 0) then (s.holdTold cause).holdover.holdStopped else (s.holdTold cause).holdover).mlbSet .hold4
    else (if decide (s.sys.hold = 0) then (s.holdTold cause).holdover.holdStopped else (s.holdTold cause).holdover).mlbClear .hold4 := rfl

theorem State.holdTold_sys (s : State) (cause : Nat) : (s.holdTold cause).sys = s.sys.holding cause :=
  State.raise_sys _ _ _

theorem State.holdTold_only (s : State) (cause : Nat) : Only [.sys, .mbx, .ev] s (s.holdTold cause) :=
  ((s.only_sys _).mono (by decide)).trans ((Keeps.irq_keeps (gs := [.mbx, .ev]) (by decide)
    (Keeps.raise_keeps (by decide) (Keeps.refl _) _ _) 9).only.mono (by decide))

theorem State.holdTold_box (s : State) (cause : Nat) : (s.holdTold cause).mbx.box = s.mbx.box := by
  have hmbx : (({ s with sys := s.sys.holding cause } : State).raise evHoldEnter cause).mbx = s.mbx :=
    (Keeps.raise_keeps (gs := [.ev]) (List.Subset.refl _) (Keeps.refl _) _ _).only.same .mbx (by decide)
  unfold State.holdTold
  generalize ({ s with sys := s.sys.holding cause } : State).raise evHoldEnter cause = t at hmbx
  rw [← hmbx]
  rfl

theorem State.holdover_only (s : State) : Only [.et] s s.holdover := by
  unfold State.holdover
  split
  · exact s.only_et _
  · exact (Keeps.refl s).only

/-- What holds once hold of a cause is noted, told, and has stopped discipline. -/
structure State.HoldNoted (s t : State) (cause : Nat) : Prop where
  sys : t.sys = s.sys.holding cause
  box : t.mbx.box = s.mbx.box
  only : Only [.sys, .mbx, .et, .ev] s t

theorem State.holdNoted_spec (s : State) (cause : Nat) : State.HoldNoted s (s.holdTold cause).holdover cause := by
  have honly := (s.holdTold cause).holdover_only
  exact ⟨(honly.same .sys (by decide)).trans (s.holdTold_sys cause),
    (congrArg Mbx.box (honly.same .mbx (by decide))).trans (s.holdTold_box cause),
    ((s.holdTold_only cause).mono (by decide)).trans (honly.mono (by decide))⟩

/-! ### What entry into hold stops -/

/-- An armed fence that stays stopped: an overlay's. -/
def Fence.stays (e : Fence) : Bool :=
  match e.kind with
  | .overlay _ _ => true
  | _ => false

/-- A stopped overlay's operation goes back to its validation safe point. -/
def State.unvalidate (s : State) (e : Fence) : State :=
  match e.kind with
  | .overlay _ h => s.modOp h fun o => { o with step := 3 }
  | _ => s

/-- The slots given back and the stopped overlays' operations put back. -/
def State.fencesDropped (s : State) : State := (s.cfg.fences.filter Fence.stays).foldl State.unvalidate (s.cfg.fences.foldl State.unfence s)

theorem State.holdFences_eq (s : State) : s.holdFences = { s.fencesDropped with
    cfg := { s.fencesDropped.cfg with fences := [], stopped := s.fencesDropped.cfg.stopped ++ s.cfg.fences.filter Fence.stays }
    sns := s.holdFences.sns
    sys := { s.fencesDropped.sys with limpDue := s.holdFences.sys.limpDue } } := rfl

theorem State.unvalidate_mbx (s : State) (e : Fence) : (s.unvalidate e).mbx.box = s.mbx.box := by
  unfold State.unvalidate
  split <;> rfl

theorem State.unvalidate_keeps {o s : State} (h : Keeps [.mbx, .cfg] o s) (e : Fence) : Keeps [.mbx, .cfg] o (s.unvalidate e) := by
  unfold State.unvalidate
  split
  · exact Keeps.modOp_keeps (by decide) h _ _
  · exact h

theorem State.fencesDropped_only (s : State) : Only [.mbx, .cfg] s s.fencesDropped :=
  (Keeps.foldl (fun _ e h => State.unvalidate_keeps h e) (Keeps.foldl (fun _ e h => Keeps.unfence_keeps (by decide) h e) (Keeps.refl s))).only

theorem State.fencesDropped_box (s : State) : s.fencesDropped.mbx.box = s.mbx.box := by
  have hunfence : (s.cfg.fences.foldl State.unfence s).mbx = s.mbx :=
    (Keeps.foldl (gs := [.cfg]) (fun _ e h => Keeps.unfence_keeps (List.Subset.refl _) h e) (Keeps.refl s)).only.same .mbx (by decide)
  exact List.foldlRecOn (motive := fun t : State => t.mbx.box = s.mbx.box) _ _ (congrArg Mbx.box hunfence)
    fun (t : State) ht e _ => (t.unvalidate_mbx e).trans ht

/-- What holds once the armed fences are disarmed for hold. -/
structure State.FencesHeld (s t : State) : Prop where
  sys : t.sys = { s.sys with limpDue := t.sys.limpDue }
  box : t.mbx.box = s.mbx.box
  fences : t.cfg.fences = []
  only : Only [.sys, .mbx, .sns, .cfg] s t

theorem State.holdFences_spec (s : State) : State.FencesHeld s s.holdFences := by
  have hsys : s.fencesDropped.sys = s.sys := s.fencesDropped_only.same .sys (by decide)
  have hbox := s.fencesDropped_box
  refine ⟨?_, ?_, ?_, (Keeps.holdFences_keeps (List.Subset.refl _) (Keeps.refl s)).only⟩
  all_goals rw [State.holdFences_eq]
  · rw [hsys]
  · exact hbox

theorem State.answerBusy_box (s : State) (m : Fin 8) : ((s.answerBusy m).box m).st = .responded ∧ ((s.answerBusy m).box m).wait = none := by
  simp [State.answerBusy, State.answerHw, State.deliver, State.irq, State.box, State.modBox]

theorem State.answerBusy_box_ne (s : State) {m n : Fin 8} (h : n ≠ m) : (s.answerBusy m).box n = s.box n := by
  have hne : m.val ≠ n.val := fun e => h (Fin.ext e.symm)
  simp [State.answerBusy, State.answerHw, State.deliver, State.irq, State.box, State.modBox, hne]

theorem State.undoWait_mbx (s : State) (w : Wait) : (s.undoWait w).mbx = s.mbx :=
  (Keeps.undoWait_keeps (List.Subset.refl _) (Keeps.refl s) w).only.same .mbx (by decide)

/-- A mailbox in progress is settled by the responder. -/
def State.settleBox (s : State) (m : Fin 8) : State :=
  if m ≠ 7 ∧ ((s.box m).st = .posted ∨ (s.box m).st = .working) then
    (match (s.box m).wait with
      | some w => s.undoWait w
      | none => s).answerBusy m
  else s

theorem State.settle_eq (s : State) : s.settle = (List.finRange 8).foldl State.settleBox s := rfl

theorem State.settleBox_mbx (s : State) (m : Fin 8) : (s.settleBox m).mbx = s.mbx ∨
    ∃ t : State, t.mbx = s.mbx ∧ s.settleBox m = t.answerBusy m := by
  unfold State.settleBox
  split
  · right
    split
    · exact ⟨_, s.undoWait_mbx _, rfl⟩
    · exact ⟨s, rfl, rfl⟩
  · exact .inl rfl

theorem State.settleBox_box_ne (s : State) {m n : Fin 8} (h : n ≠ m) : (s.settleBox m).box n = s.box n := by
  rcases s.settleBox_mbx m with hm | ⟨t, ht, hm⟩
  · exact State.box_congr (congrArg Mbx.box hm) n
  · rw [hm, State.answerBusy_box_ne t h]
    exact State.box_congr (congrArg Mbx.box ht) n

/-- A mailbox that was in progress reads RESPONDED, and waits for nothing. -/
theorem State.settle_box (s : State) {m : Fin 8} (hm : m ≠ 7) (h : (s.box m).st = .posted ∨ (s.box m).st = .working) :
    (s.settle.box m).st = .responded ∧ (s.settle.box m).wait = none := by
  let Done (t : State) : Prop := (t.box m).st = .responded ∧ (t.box m).wait = none
  have hself (t : State) (ht : (t.box m).st = .posted ∨ (t.box m).st = .working) : Done (t.settleBox m) := by
    rw [State.settleBox, if_pos ⟨hm, ht⟩]
    exact State.answerBusy_box _ m
  have hsame (t : State) (ht : Done t) : Done (t.settleBox m) := by
    rw [State.settleBox, if_neg (by simp [ht.1])]
    exact ht
  have hother (t : State) {n : Fin 8} (hn : m ≠ n) : (t.settleBox n).box m = t.box m := t.settleBox_box_ne hn
  have hdone (t : State) (n : Fin 8) (ht : Done t) : Done (t.settleBox n) := by
    by_cases hn : m = n
    · exact hn ▸ hsame t ht
    · simp only [Done, hother t hn]
      exact ht
  refine foldl_establishes (I := fun t => ((t.box m).st = .posted ∨ (t.box m).st = .working) ∨ Done t) (G := fun t n => n = m → Done t)
    (fun t n _ ht => ?_) (fun t n _ ht hn => ?_) (fun t n _ r _ _ hg hr => hdone t n (hg hr)) (.inl h) m (List.mem_finRange m) rfl
  · rcases ht with ht | ht
    · by_cases hn : m = n
      · exact .inr (hn ▸ hself t ht)
      · exact .inl (by rw [hother t hn]; exact ht)
    · exact .inr (hdone t n ht)
  · subst hn
    exact ht.elim (hself t) (hsame t)

theorem State.undoWait_fences (s : State) (w : Wait) (h : s.cfg.fences = []) : (s.undoWait w).cfg.fences = [] := by
  cases w with
  | fence f => simp [State.undoWait, h]
  | period left st p =>
    exact List.foldlRecOn (motive := fun t : State => t.cfg.fences = []) left _ h fun _ ht _ _ => ht
  | _ => exact h

theorem State.settle_fences (s : State) (h : s.cfg.fences = []) : s.settle.cfg.fences = [] := by
  rw [State.settle_eq]
  refine List.foldlRecOn (motive := fun t : State => t.cfg.fences = []) _ State.settleBox h fun t ht m _ => ?_
  unfold State.settleBox
  split
  · split
    · exact t.undoWait_fences _ ht
    · exact ht
  · exact ht

/-- A rejoin stopped for hold. -/
def Die.rejoinStopped (d : Die) : Die :=
  if d.joinAt.isSome then { d with st := if d.st = .rejoining then .lost else d.st, joinAt := none, checks := 0 } else d

theorem State.holdRejoin_dieAt (s : State) (i : Fin 23) (hst : (s.dieAt i).st = .rejoining) (hjoin : (s.dieAt i).joinAt.isSome = true) :
    (s.holdRejoin.dieAt i).st = .lost ∧ (s.holdRejoin.dieAt i).joinAt = none := by
  let Done (t : State) : Prop := (t.dieAt i).st = .lost ∧ (t.dieAt i).joinAt = none
  let Before (t : State) : Prop := (t.dieAt i).st = .rejoining ∧ (t.dieAt i).joinAt.isSome = true
  have hself (t : State) (ht : Before t) : Done (t.modDie i Die.rejoinStopped) := by
    simp only [Done, t.dieAt_modDie _ i.isLt, Die.rejoinStopped, if_pos ht.2, if_pos ht.1, and_self]
  have hsame (t : State) (ht : Done t) : Done (t.modDie i Die.rejoinStopped) := by
    simp only [Done, t.dieAt_modDie _ i.isLt, Die.rejoinStopped, ht.2]
    exact ⟨ht.1, ht.2⟩
  have hother (t : State) {n : Nat} (hn : (i : Nat) ≠ n) : (t.modDie n Die.rejoinStopped).dieAt i = t.dieAt i :=
    t.dieAt_modDie_of_ne _ hn
  have hdone (t : State) (n : Nat) (ht : Done t) : Done (t.modDie n Die.rejoinStopped) := by
    by_cases hn : (i : Nat) = n
    · exact hn ▸ hsame t ht
    · simp only [Done, hother t hn]
      exact ht
  have hfold : s.holdRejoin = allSites.foldl (fun t n => t.modDie n Die.rejoinStopped) s := rfl
  rw [hfold]
  refine foldl_establishes (I := fun t => Before t ∨ Done t) (G := fun t n => n = (i : Nat) → Done t)
    (fun t n _ ht => ?_) (fun t n _ ht hn => ?_) (fun t n _ r _ _ hg hr => hdone t n (hg hr)) (.inl ⟨hst, hjoin⟩) i
    (List.mem_range.2 i.isLt) rfl
  · rcases ht with ht | ht
    · by_cases hn : (i : Nat) = n
      · exact .inr (hn ▸ hself t ht)
      · exact .inl (by simp only [Before, hother t hn]; exact ht)
    · exact .inr (hdone t n ht)
  · subst hn
    exact ht.elim (hself t) (hsame t)

/-- What holds once entry into hold has stopped what it stops. -/
structure State.HoldStopped (s t : State) : Prop where
  sys : t.sys = { s.sys with limpDue := t.sys.limpDue }
  hm : t.hm = { s.evalNow.hm with eval := none, next := s.hm.next.map fun w => { w with void := true } }
  box : ∀ m : Fin 8, m ≠ 7 → (s.box m).st = .posted ∨ (s.box m).st = .working → (t.box m).st = .responded ∧ (t.box m).wait = none
  fences : t.cfg.fences = []
  die : ∀ i : Fin 23, (s.dieAt i).st = .rejoining → (s.dieAt i).joinAt.isSome = true → (t.dieAt i).st = .lost ∧ (t.dieAt i).joinAt = none
  only : Only [.sys, .mbx, .reg, .hm, .et, .xg, .cal, .sns, .cfg, .die, .ev] s t

theorem State.holdStopped_spec (s : State) : State.HoldStopped s s.holdStopped := by
  have h := s.holdFences_spec
  have hset := (Keeps.settle_keeps (List.Subset.refl _) (Keeps.refl s.holdFences)).only
  have hbox (m : Fin 8) (hm : m ≠ 7) (hb : (s.box m).st = .posted ∨ (s.box m).st = .working) :=
    s.holdFences.settle_box hm (by rw [State.box_congr h.box m]; exact hb)
  have hfences := s.holdFences.settle_fences h.fences
  have hpause := (Keeps.holdPause_keeps (List.Subset.refl _) (Keeps.refl s.holdFences.settle)).only
  have hdie (i : Fin 23) := s.holdFences.settle.holdPause.holdRejoin_dieAt i
  have hjoin := (Keeps.holdRejoin_keeps (List.Subset.refl _) (Keeps.refl s.holdFences.settle.holdPause)).only
  unfold State.holdStopped
  generalize s.holdFences = a at *
  generalize a.settle = b at *
  generalize b.holdPause = c at *
  generalize c.holdRejoin = d at *
  have hd : d.sys = a.sys := ((hjoin.same .sys (by decide)).trans (hpause.same .sys (by decide))).trans (hset.same .sys (by decide))
  have hdbox : d.mbx = b.mbx := (hjoin.same .mbx (by decide)).trans (hpause.same .mbx (by decide))
  have hdcfg : d.cfg = b.cfg := (hjoin.same .cfg (by decide)).trans (hpause.same .cfg (by decide))
  have hcdie : c.die = s.die := ((hpause.same .die (by decide)).trans (hset.same .die (by decide))).trans (h.only.same .die (by decide))
  refine ⟨?_, rfl, fun m hm hb => ?_, (congrArg Cfg.fences hdcfg).trans hfences, fun i hi hj => ?_, ?_⟩
  · exact (hd.trans h.sys).trans (by rw [hd])
  · have hbm : d.box m = b.box m := State.box_congr (congrArg Mbx.box hdbox) m
    have := hbox m hm hb
    rw [← hbm] at this
    exact this
  · have hi' := State.dieAt_congr hcdie i
    exact hdie i (by rw [hi']; exact hi) (by rw [hi']; exact hj)
  · exact (h.only.mono (by decide)).trans ((hset.mono (by decide)).trans ((hpause.mono (by decide)).trans
      ((hjoin.mono (by decide)).trans ((State.only_hm d _).mono (by decide)))))

/-- What holds as hold of a cause is entered, or its cause changes. -/
structure State.HoldEntered (s t : State) (cause : Nat) : Prop where
  sys : t.sys = { s.sys.holding cause with limpDue := t.sys.limpDue, mlb := t.sys.mlb }
  mlb : ∀ c ∈ s.sys.mlb, c ≠ .hold4 → c ∈ t.sys.mlb
  hm : s.sys.hold = 0 → t.hm = { s.evalNow.hm with eval := none, next := s.hm.next.map fun w => { w with void := true } }
  box : s.sys.hold = 0 → ∀ m : Fin 8, m ≠ 7 → (s.box m).st = .posted ∨ (s.box m).st = .working →
    (t.box m).st = .responded ∧ (t.box m).wait = none
  fences : s.sys.hold = 0 → t.cfg.fences = []
  die : s.sys.hold = 0 → ∀ i : Fin 23, (s.dieAt i).st = .rejoining → (s.dieAt i).joinAt.isSome = true →
    (t.dieAt i).st = .lost ∧ (t.dieAt i).joinAt = none
  only : Only [.sys, .mbx, .reg, .hm, .et, .xg, .cal, .sns, .cfg, .die, .ev] s t

/-- What asserting a cause of the pin leaves as it was. -/
theorem State.mlbSet_box (s : State) (c : FaultCause) : (s.mlbSet c).mbx.box = s.mbx.box := by
  unfold State.mlbSet
  split
  · rfl
  · dsimp only
    split <;> rfl

theorem State.mlbClear_only (s : State) (c : FaultCause) : Only [.sys] s (s.mlbClear c) := s.only_sys _

theorem State.mem_mlbClear {s : State} {c d : FaultCause} (h : c ∈ s.sys.mlb) (hne : c ≠ d) : c ∈ (s.mlbClear d).sys.mlb :=
  List.mem_filter.2 ⟨h, decide_eq_true hne⟩

/-- The pin's cause of a hold without firmware, asserted or not, changes nothing else that entry into hold is asked for. -/
theorem State.HoldEntered.pinned {s u : State} {cause : Nat} (h : State.HoldEntered s u cause) :
    State.HoldEntered s (if cause = 4 then u.mlbSet .hold4 else u.mlbClear .hold4) cause := by
  generalize hv : (if cause = 4 then u.mlbSet .hold4 else u.mlbClear .hold4) = v
  have hsys : u.SysButMlb v := by
    rw [← hv]
    split
    · exact u.mlbSet_sysButMlb _
    · rfl
  have honly : Only [.sys, .mbx] u v := by
    rw [← hv]
    split
    · exact u.mlbSet_only _
    · exact (u.mlbClear_only _).mono (by decide)
  have hbox : v.mbx.box = u.mbx.box := by
    rw [← hv]
    split
    · exact u.mlbSet_box _
    · rfl
  have hmlb : ∀ c ∈ u.sys.mlb, c ≠ .hold4 → c ∈ v.sys.mlb := fun c hc hne => by
    rw [← hv]
    split
    · exact State.mem_mlbSet_of_mem _ hc
    · exact State.mem_mlbClear hc hne
  refine ⟨?_, fun c hc hne => hmlb c (h.mlb c hc hne) hne, fun hf => (honly.same .hm (by decide)).trans (h.hm hf), fun hf m hm hb => ?_,
    fun hf => (congrArg Cfg.fences (honly.same .cfg (by decide))).trans (h.fences hf), fun hf i hi hj => ?_,
    h.only.trans (honly.mono (by decide))⟩
  · rw [hsys, h.sys]
  · rw [State.box_congr hbox m]
    exact h.box hf m hm hb
  · rw [State.dieAt_congr (honly.same .die (by decide)) i]
    exact h.die hf i hi hj

theorem State.evalNow_hm_congr {s t : State} (hhm : t.hm = s.hm) (hnow : t.now = s.now) : t.evalNow.hm = s.evalNow.hm := by
  unfold State.evalNow
  rw [hhm, hnow]
  split
  · exact hhm
  · rfl

theorem State.enterHold_spec (s : State) (cause : Nat) : State.HoldEntered s (s.enterHold cause) cause := by
  have hn := s.holdNoted_spec cause
  rw [State.enterHold_eq]
  generalize (s.holdTold cause).holdover = u at *
  have hstop := u.holdStopped_spec
  refine State.HoldEntered.pinned ?_
  generalize u.holdStopped = v at *
  have hhm : u.hm = s.hm := hn.only.same .hm (by decide)
  by_cases hf : s.sys.hold = 0
  · rw [if_pos (decide_eq_true hf)]
    refine ⟨?_, fun c hc _ => ?_, fun _ => ?_, fun _ m hm hb => ?_, fun _ => hstop.fences, fun _ i hi hj => ?_,
      (hn.only.mono (by decide)).trans (hstop.only.mono (by decide))⟩
    · rw [hstop.sys, hn.sys]
    · rw [hstop.sys, hn.sys]
      exact hc
    · rw [hstop.hm, State.evalNow_hm_congr hhm (by rw [State.now, hn.sys]; rfl), hhm]
    · exact hstop.box m hm (by rw [State.box_congr hn.box m]; exact hb)
    · have hdie := State.dieAt_congr (hn.only.same .die (by decide)) i
      exact hstop.die i (by rw [hdie]; exact hi) (by rw [hdie]; exact hj)
  · rw [if_neg (by simp [hf])]
    refine ⟨by rw [hn.sys], fun c hc _ => ?_, fun h => absurd h hf, fun h => absurd h hf, fun h => absurd h hf, fun h => absurd h hf,
      hn.only.mono (by decide)⟩
    rw [hn.sys]
    exact hc

/-- Without firmware MLB_FAULT_N is asserted (Table 1-7). -/
theorem State.enterHold_pin (s : State) : FaultCause.hold4 ∈ (s.enterHold 4).sys.mlb := by
  rw [State.enterHold_eq, if_pos rfl]
  exact State.mem_mlbSet _ _

/-! ### A controller's fault -/

theorem State.retire_ctl (s : State) (c : Bool) : (s.retire c).ctl =
    (s.modCtrl c fun x => { x with st := .retired, copying := false, loadFrom := none, verified := false }).ctl := by
  unfold State.retire
  generalize (s.modCtrl c fun x => { x with st := .retired, copying := false, loadFrom := none, verified := false }) = t
  exact (Keeps.mlbSet_keeps (gs := [.sys, .mbx, .ev]) (by decide) (Keeps.raise_keeps (by decide)
    (Keeps.refl ({ t with sys := { t.sys with limp1 := true } } : State)) _ _) _).only.same .ctl (by decide)

/-- A retired controller's cause holds the pin, and calls for Limp. -/
theorem State.retire_sys (s : State) (c : Bool) : (s.retire c).sys = { s.sys with limp1 := true, mlb := (s.retire c).sys.mlb } ∧
    FaultCause.retired (b2n c) ∈ (s.retire c).sys.mlb := by
  refine ⟨?_, State.mem_mlbSet _ _⟩
  unfold State.retire
  have hsys : (s.modCtrl c fun x => { x with st := .retired, copying := false, loadFrom := none, verified := false }).sys = s.sys := by
    cases c <;> rfl
  generalize (s.modCtrl c fun x => { x with st := .retired, copying := false, loadFrom := none, verified := false }) = t at *
  have h := State.mlbSet_sysButMlb (({ t with sys := { t.sys with limp1 := true } } : State).raise evCtrlRetired (b2n c)) (.retired (b2n c))
  rw [State.SysButMlb, State.raise_sys] at h
  rw [← hsys]
  exact h

/-- A controller's fault noted and counted. -/
def State.faultCounted (s : State) (c : Bool) (code : Nat) : State :=
  ((s.faultNoted c code).modCtrl c fun x => { x with faults := min 255 (x.faults + 1), st := .faulted, copying := false, verified := false }).modCtrl
    c fun x => { x with loadFrom := none }

/-- The controllers as the fault of one leaves them, retired or not. -/
structure State.Faulted (s t : State) (c : Bool) (code : Nat) : Prop where
  fault : t.ctl.fault = word (256 * b2n c + code)
  faultErg : t.ctl.faultErg = word s.now
  faults : (t.ctrl c).faults = min 255 ((s.ctrl c).faults + 1)
  faulted : (s.ctrl c).faults < 2 → (t.ctrl c).st = .faulted
  retired : 2 ≤ (s.ctrl c).faults → (t.ctrl c).st = .retired ∧ t.sys.limp1 = true ∧ FaultCause.retired (b2n c) ∈ t.sys.mlb
  other : t.ctrl (!c) = s.ctrl (!c)
  erg : t.now = s.now
  update : t.cfg.update = s.cfg.update

theorem State.ctrl_congr {s t : State} (h : t.ctl = s.ctl) (c : Bool) : t.ctrl c = s.ctrl c := by
  rw [State.ctrl, h, State.ctrl]

theorem State.faultCounted_spec (s : State) (c : Bool) (code : Nat) :
    State.Faulted s (if 3 ≤ min 255 ((s.ctrl c).faults + 1) then (s.faultCounted c code).retire c else s.faultCounted c code) c code := by
  have hsys : (s.faultCounted c code).sys = s.sys := by cases c <;> rfl
  have hfault : (s.faultCounted c code).ctl.fault = word (256 * b2n c + code) := by cases c <;> rfl
  have herg : (s.faultCounted c code).ctl.faultErg = word s.now := by cases c <;> rfl
  have hupdate : (s.faultCounted c code).cfg.update = s.cfg.update := by cases c <;> rfl
  have hself : (s.faultCounted c code).ctrl c = { s.ctrl c with
      faults := min 255 ((s.ctrl c).faults + 1), st := .faulted, copying := false, verified := false, loadFrom := none } := by
    cases c <;> rfl
  have hother : (s.faultCounted c code).ctrl (!c) = s.ctrl (!c) := by cases c <;> rfl
  generalize s.faultCounted c code = u at *
  split
  next hthird =>
    have hctl := u.retire_ctl c
    obtain ⟨hrsys, hpin⟩ := u.retire_sys c
    have hcfg : (u.retire c).cfg = u.cfg :=
      (Keeps.retire_keeps (gs := [.sys, .ctl, .mbx, .ev]) (by decide) (Keeps.refl u) c).only.same .cfg (by decide)
    have hc := (State.ctrl_congr hctl c).trans (u.ctrl_modCtrl c _)
    have hnc := (State.ctrl_congr hctl (!c)).trans (u.ctrl_modCtrl_not c _)
    refine ⟨?_, ?_, by rw [hc, hself], fun h => by omega, fun _ => ⟨by rw [hc], by rw [hrsys], hpin⟩, hnc.trans hother, ?_,
      (congrArg Cfg.update hcfg).trans hupdate⟩
    · rw [hctl, ← hfault]
      cases c <;> rfl
    · rw [hctl, ← herg]
      cases c <;> rfl
    · rw [State.now, hrsys, hsys]
  next hfirst =>
    exact ⟨hfault, herg, by rw [hself], fun _ => by rw [hself], fun h => by omega, hother, by rw [State.now, hsys], hupdate⟩

theorem State.controllerFaults_of_active {s : State} {c : Bool} (code : Nat) (h : (s.ctrl c).st = .active) :
    s.controllerFaults c code =
      (if 3 ≤ min 255 ((s.ctrl c).faults + 1) then (s.faultCounted c code).retire c else s.faultCounted c code).lostActive c := by
  have hfaults : ((s.faultCounted c code).ctrl c).faults = min 255 ((s.ctrl c).faults + 1) := by cases c <;> rfl
  rw [State.controllerFaults]
  dsimp only
  rw [if_pos (.inl h)]
  refine congrArg (State.lostActive · c) ?_
  rw [← hfaults]
  refine if_congr ?_ rfl rfl
  simp only [h, reduceCtorEq, decide_false, Bool.false_and, Bool.false_eq_true, or_false]
  rfl

/-- A standby takes over from a lost active controller. -/
theorem State.lostActive_of_standby {u : State} {c : Bool} (h : (u.ctrl (!c)).st = .standby) :
    let t := u.lostActive c
    t.ctl = { (u.modCtrl (!c) fun x => { x with st := .active, beat := u.now, copying := false, loadFrom := none }).ctl with
        activeId := !c, takeover := true } ∧
      t.mbx.fwVer = (u.ctrl (!c)).version ∧ t.sys = (u.enterHold 3).sys := by
  have hent := u.enterHold_spec 3
  intro t
  have ht : t = { ((u.enterHold 3).dropUpdate stInternal).promote (!c) with
      ctl := { (((u.enterHold 3).dropUpdate stInternal).promote (!c)).ctl with takeover := true } } := if_pos h
  have hdrop := (Keeps.dropUpdate_keeps (gs := [.mbx, .cfg]) (by decide) (Keeps.refl (u.enterHold 3)) stInternal).only
  have hsys : ((u.enterHold 3).dropUpdate stInternal).sys = (u.enterHold 3).sys := hdrop.same .sys (by decide)
  have hctl : ((u.enterHold 3).dropUpdate stInternal).ctl = u.ctl := (hdrop.same .ctl (by decide)).trans (hent.only.same .ctl (by decide))
  have hnow : ((u.enterHold 3).dropUpdate stInternal).now = u.now := by
    rw [State.now, hsys, hent.sys]
    rfl
  rw [ht]
  clear_value t
  generalize (u.enterHold 3).dropUpdate stInternal = v at *
  have hself : v.ctrl (!c) = u.ctrl (!c) := State.ctrl_congr hctl _
  have hver : ((v.modCtrl (!c) fun x => { x with st := .active, beat := v.now, copying := false, loadFrom := none }).ctrl (!c)).version =
      (u.ctrl (!c)).version := by
    rw [State.ctrl_modCtrl, hself]
  refine ⟨?_, hver, ?_⟩
  · rw [← hnow]
    cases c <;> simp only [State.promote, State.modCtrl, Bool.not_false, Bool.not_true, if_true, Bool.false_eq_true, if_false, hctl]
  · rw [← hsys]
    cases c <;> rfl

/-- With no standby hold has no firmware, and nothing of the controllers changes. -/
theorem State.lostActive_of_none {u : State} {c : Bool} (h : (u.ctrl (!c)).st ≠ .standby) :
    (u.lostActive c).ctl = u.ctl ∧ (u.lostActive c).sys = (u.enterHold 4).sys := by
  have hent := u.enterHold_spec 4
  have ht : u.lostActive c = (u.enterHold 4).dropUpdate stInternal := if_neg h
  have hdrop := (Keeps.dropUpdate_keeps (gs := [.mbx, .cfg]) (by decide) (Keeps.refl (u.enterHold 4)) stInternal).only
  rw [ht]
  exact ⟨(hdrop.same .ctl (by decide)).trans (hent.only.same .ctl (by decide)), hdrop.same .sys (by decide)⟩

/-! ### Release and end of hold -/

theorem State.ctrl_reload_self (s : State) (c : Bool) : (s.reload c).ctrl c =
    if (s.ctrl c).st = .faulted then { s.ctrl c with st := .loading, copying := true, verified := false, loadFrom := some s.now }
    else s.ctrl c := by
  unfold State.reload
  split
  · exact s.ctrl_modCtrl c _
  · rfl

theorem State.ctrl_reload_ne (s : State) {c d : Bool} (h : d ≠ c) : (s.reload c).ctrl d = s.ctrl d := by
  unfold State.reload
  split
  · rw [Bool.eq_not.2 h]
    exact s.ctrl_modCtrl_not c _
  · rfl

/-- Hold as it ends: told, its timers and the pin's causes with it. -/
def State.holdEnded (s : State) : State :=
  let t := ((((s.raise evHoldExit (s.sys.hold + at_ (min (2 ^ 29 - 1) (s.now - s.sys.holdFrom)) 3)).shiftTimers.irq 9).mlbClear .hold4).mlbClear
    .holdOverrun).mlbClear .bootOverrun
  { t with sys := { t.sys with
    hold := 0, released := none, overrun := false, follow := 1, bootStep := if decide (t.sys.bootStep = 10) then 11 else t.sys.bootStep
    bootedAt := if decide (t.sys.bootStep = 10) then some t.now else t.sys.bootedAt } }

/-- The takeover that hold kept to itself is told. -/
def State.takeoverTold (s : State) : State :=
  if s.ctl.takeover then
    (({ s with ctl := { s.ctl with takeover := false } } : State).raise evCtrlTakeover (b2n s.ctl.activeId)).irq 10
  else s

/-- A live update that has started its new image ends with hold. -/
def State.updateEnded (s : State) : State :=
  match s.cfg.update with
  | some u =>
    if u.startedNew then
      let s := s.raise evFwUpdated (b2n !u.outgoing)
      let s := s.modCtrl u.outgoing fun (x : Ctrl) =>
        if x.st = CtrlState.standby then { x with st := CtrlState.loading, copying := true, verified := false, loadFrom := some s.now } else x
      ({ s with cfg := { s.cfg with update := none, fwStage := [] } } : State).finishOp u.handle .completed stOk
    else s
  | none => s

theorem exec_holdExit {s : State} {a : Nat} (hhold : s.sys.hold ≠ 0) (hrel : s.sys.released = some a) (ha : a < s.now)
    (hwin : s.now % 512 = 0) : exec .holdExit s = .next s.holdEnded.takeoverTold.updateEnded := by
  have hexec : exec .holdExit s = execHoldExit s := rfl
  rw [hexec, execHoldExit, hrel]
  exact if_neg (by simp [State.inHold, hhold, hwin]; exact ha)

theorem State.shiftTimers_sys (s : State) : s.shiftTimers.sys = s.sys :=
  (Keeps.shiftTimers_keeps (List.Subset.refl _) (Keeps.refl s)).only.same .sys (by decide)

/-- The package's own fields when hold has ended. -/
theorem State.holdEnded_sys (s : State) : s.holdEnded.sys = { s.sys with
    hold := 0, released := none, overrun := false, follow := 1, bootStep := if s.sys.bootStep = 10 then 11 else s.sys.bootStep
    bootedAt := if s.sys.bootStep = 10 then some s.now else s.sys.bootedAt
    mlb := ((s.sys.mlb.filter (· ≠ .hold4)).filter (· ≠ .holdOverrun)).filter (· ≠ .bootOverrun) } := by
  have hsys := ((s.raise evHoldExit (s.sys.hold + at_ (min (2 ^ 29 - 1) (s.now - s.sys.holdFrom)) 3)).shiftTimers_sys).trans (s.raise_sys _ _)
  unfold State.holdEnded
  generalize (s.raise evHoldExit (s.sys.hold + at_ (min (2 ^ 29 - 1) (s.now - s.sys.holdFrom)) 3)).shiftTimers = t at *
  simp only [State.mlbClear, State.irq, hsys, decide_eq_true_eq]

theorem State.takeoverTold_spec (s : State) : s.takeoverTold.sys = s.sys ∧ s.takeoverTold.ctl.takeover = false := by
  unfold State.takeoverTold
  split
  next h =>
    have hraise := (Keeps.irq_keeps (gs := [.mbx, .ev]) (by decide) (Keeps.raise_keeps (by decide)
      (Keeps.refl ({ s with ctl := { s.ctl with takeover := false } } : State)) evCtrlTakeover (b2n s.ctl.activeId)) 10).only
    exact ⟨hraise.same .sys (by decide), congrArg Ctl.takeover (hraise.same .ctl (by decide))⟩
  next h => exact ⟨rfl, by simpa using h⟩

theorem State.updateEnded_spec (s : State) : s.updateEnded.sys = s.sys ∧ s.updateEnded.ctl.takeover = s.ctl.takeover := by
  unfold State.updateEnded
  split
  next u hu =>
    split
    · dsimp only
      have hraise := (Keeps.raise_keeps (List.Subset.refl _) (Keeps.refl s) evFwUpdated (b2n !u.outgoing)).only
      have hctl : _ = s.ctl := hraise.same .ctl (by decide)
      have hsys : _ = s.sys := hraise.same .sys (by decide)
      generalize s.raise evFwUpdated (b2n !u.outgoing) = v at *
      generalize hw : ({ v.modCtrl u.outgoing _ with cfg := _ } : State) = w
      have hwctl : w.ctl.takeover = v.ctl.takeover ∧ w.sys = v.sys := by
        rw [← hw]
        cases u.outgoing <;> exact ⟨rfl, rfl⟩
      have hfin := w.finishOp_only u.handle .completed stOk
      exact ⟨((hfin.same .sys (by decide)).trans hwctl.2).trans hsys,
        ((congrArg Ctl.takeover (hfin.same .ctl (by decide))).trans hwctl.1).trans (congrArg Ctl.takeover hctl)⟩
    · exact ⟨rfl, rfl⟩
  · exact ⟨rfl, rfl⟩

theorem State.xState_modCtrl (s : State) (c : Bool) (f : Ctrl → Ctrl) (id : Nat) : (s.modCtrl c f).xState id = s.xState id := by
  cases c <;> rfl

/-- Settles O33: hold's entry and its end say what they set and leave; a fault counts, may retire, and then is the loss of the active
controller; the rest is each command's own equation. -/
theorem controllersAndHold : Obligations.ControllersAndHold := by
  refine ⟨fun c why s hepoch hupd hst hlate => ?fault, fun c s hfresh => ?fresh, fun c s hst hx => ?beats, fun c s hst hx => ?lost,
    fun s hfw => ?request, fun s hfw => ?noRequest, fun s hact hhold hrel hboot => ?release, fun a s hhold hrel ha hwin => ?exit,
    fun s hwin => ?noExit, fun s hhold hover hlong => ?overrun⟩
  case fault =>
    have hrun : exec (.controllerFault c why) s = .next (s.controllerFaults (ctrlOf c) (faultCode why)) := by
      have hexec : exec (.controllerFault c why) s = execControllerFault c why s := rfl
      rw [hexec, execControllerFault, hupd]
      dsimp only
      rw [if_neg (by simp [hepoch, hst]), if_neg]
      rintro ⟨hw, h | ⟨h, -⟩⟩
      · simp at h
        exact absurd (hlate hw) (by omega)
      · exact h hst
    have hf := s.faultCounted_spec (ctrlOf c) (faultCode why)
    have honly := exec_only hrun
    rw [State.controllerFaults_of_active _ hst] at hrun honly
    generalize ctrlOf c = k at *
    generalize (if 3 ≤ min 255 ((s.ctrl k).faults + 1) then _ else _ : State) = u at *
    by_cases hstandby : (s.ctrl (!k)).st = .standby
    · have hent := u.enterHold_spec 3
      obtain ⟨hctl, hver, hsys⟩ := State.lostActive_of_standby (u := u) (c := k) (by rw [hf.other]; exact hstandby)
      have hself : (u.lostActive k).ctrl k = u.ctrl k := by
        rw [State.ctrl, hctl]
        cases k <;> rfl
      have hother : (u.lostActive k).ctrl (!k) = { u.ctrl (!k) with st := .active, beat := u.now, copying := false, loadFrom := none } := by
        rw [State.ctrl, hctl]
        cases k <;> rfl
      have hfault : (u.lostActive k).ctl.fault = u.ctl.fault ∧ (u.lostActive k).ctl.faultErg = u.ctl.faultErg := by
        rw [hctl]
        cases k <;> exact ⟨rfl, rfl⟩
      refine ⟨_, hrun, hfault.1.trans hf.fault, hfault.2.trans hf.faultErg, by rw [hself]; exact hf.faults,
        fun hfew => by rw [hself]; exact hf.faulted hfew, fun hmany => ?_, fun _ => ?_, fun hnone => absurd hstandby hnone, honly⟩
      · obtain ⟨hret, hlimp, hpin⟩ := hf.retired hmany
        refine ⟨by rw [hself]; exact hret, ?_, ?_⟩
        · rw [hsys, hent.sys]
          exact hlimp
        · rw [hsys]
          exact hent.mlb _ hpin (by simp)
      · refine ⟨by rw [hother], by rw [hother]; exact hf.erg, by rw [hctl], by rw [hctl], by rw [hver, hf.other], ?_, ?_⟩
        · rw [hsys, hent.sys]
          rfl
        · rw [hsys, hent.sys]
          exact hf.erg
    · have hent := u.enterHold_spec 4
      have hpin4 := u.enterHold_pin
      obtain ⟨hctl, hsys⟩ := State.lostActive_of_none (u := u) (c := k) (by rw [hf.other]; exact hstandby)
      have hctrl := State.ctrl_congr hctl
      refine ⟨_, hrun, by rw [hctl]; exact hf.fault, by rw [hctl]; exact hf.faultErg, by rw [hctrl]; exact hf.faults,
        fun hfew => by rw [hctrl]; exact hf.faulted hfew, fun hmany => ?_, fun hyes => absurd hyes hstandby, fun _ => ?_, honly⟩
      · obtain ⟨hret, hlimp, hpin⟩ := hf.retired hmany
        refine ⟨by rw [hctrl]; exact hret, ?_, ?_⟩
        · rw [hsys, hent.sys]
          exact hlimp
        · rw [hsys]
          exact hent.mlb _ hpin (by simp)
      · refine ⟨(hctrl _).trans hf.other, ?_, by rw [hsys]; exact hpin4⟩
        rw [hsys, hent.sys]
        rfl
  case fresh =>
    have hexec : exec (.controllerFault c .heartbeat) s = execControllerFault c .heartbeat s := rfl
    rw [hexec, execControllerFault]
    split
    · rfl
    · exact if_pos ⟨rfl, .inl (by simpa using hfresh)⟩
  case beats =>
    have hrun : exec (.controllerHeartbeat c) s = .next ((s.modCtrl (ctrlOf c) fun x => { x with hbSrc := (x.hbSrc + 1) % 256 }).modCtrl
        (ctrlOf c) fun x => { x with
          hbTot := x.hbTot + (x.hbSrc + 256 - x.hbSnap) % 256, hbSnap := x.hbSrc, beat := s.now }) := by
      have hexec : exec (.controllerHeartbeat c) s = execControllerHeartbeat c s := rfl
      rw [hexec, execControllerHeartbeat]
      dsimp only
      rw [if_pos hst, if_pos (by rw [State.xState_modCtrl]; exact hx)]
      cases ctrlOf c <;> rfl
    refine ⟨_, hrun, ?_, ?_, exec_only hrun⟩
    · rw [State.ctrl_modCtrl, State.ctrl_modCtrl]
    · rw [State.ctrl_modCtrl_not, State.ctrl_modCtrl_not]
  case lost =>
    have hexec : exec (.controllerHeartbeat c) s = execControllerHeartbeat c s := rfl
    rw [hexec, execControllerHeartbeat]
    dsimp only
    rw [if_pos hst]
    exact if_neg (by rw [State.xState_modCtrl]; exact hx)
  case request =>
    have hrun : exec .holdRequest s = .next (s.enterHold 2) := if_pos hfw
    have hent := s.enterHold_spec 2
    have hhold : s.sys.hold = 0 := by simpa [State.fw, State.inHold] using (Bool.and_eq_true_iff.1 hfw).2
    refine ⟨_, hrun, ?_, ?_, ?_, ?_, hent.hm hhold, hent.box hhold, hent.fences hhold, hent.die hhold, hent.only⟩
    · rw [hent.sys]
      rfl
    · rw [hent.sys]
      exact if_pos (decide_eq_true hhold)
    · rw [hent.sys]
      rfl
    · rw [hent.sys]
      rfl
  case noRequest => exact if_neg (by simp [hfw])
  case release =>
    let u : State := { s with sys := { s.sys with released := some s.now } }
    have hrun : exec .holdRelease s = .next ((u.reload false).reload true) :=
      if_pos ⟨hact, by simp [State.inHold, hhold], by simp [hrel], hboot⟩
    have hsys (v : State) (c : Bool) : (v.reload c).sys = v.sys :=
      (Keeps.reload_keeps (List.Subset.refl _) (Keeps.refl v) c).only.same .sys (by decide)
    have hctrl (c : Bool) : ((u.reload false).reload true).ctrl c = if (s.ctrl c).st = .faulted then
        { s.ctrl c with st := .loading, copying := true, verified := false, loadFrom := some s.now } else s.ctrl c := by
      cases c
      · exact ((u.reload false).ctrl_reload_ne (by decide)).trans (u.ctrl_reload_self false)
      · have hnow : (u.reload false).now = s.now := (congrArg Sys.erg (hsys u false) :)
        rw [State.ctrl_reload_self, hnow, u.ctrl_reload_ne (by decide)]
        rfl
    refine ⟨_, hrun, ?_, fun c hc => by rw [hctrl, if_neg hc], fun c hc => by rw [hctrl, if_pos hc], exec_only hrun⟩
    rw [hsys, hsys]
  case exit =>
    have hrun := exec_holdExit hhold hrel ha hwin
    obtain ⟨hsys, htake⟩ := s.holdEnded.takeoverTold_spec
    obtain ⟨hsys', htake'⟩ := s.holdEnded.takeoverTold.updateEnded_spec
    have hend := (hsys'.trans hsys).trans s.holdEnded_sys
    have honly := exec_only hrun
    generalize s.holdEnded.takeoverTold.updateEnded = t at *
    refine ⟨t, hrun, by rw [hend], by rw [hend], by rw [hend], by rw [hend], ?_, htake'.trans htake, ?_, ?_, ?_, fun hboot => ?_,
      fun hboot => by rw [hend]; exact if_neg hboot, honly⟩
    · simp [State.suspended, hend]
    · simp [hend]
    · simp [hend]
    · simp [hend]
    · rw [hend]
      exact ⟨if_pos hboot, if_pos hboot⟩
  case noExit =>
    have hexec : exec .holdExit s = execHoldExit s := rfl
    rw [hexec, execHoldExit]
    split
    · rfl
    · exact if_pos (.inr (.inl hwin))
  case overrun =>
    let u : State := { s with sys := { s.sys with overrun := true } }
    have hrun : exec .holdOverrun s = .next ((u.raise evHoldOverrun 2).mlbSet .holdOverrun) :=
      if_pos ⟨hhold, by simp [hover], hlong⟩
    have hsys := State.mlbSet_sysButMlb (u.raise evHoldOverrun 2) .holdOverrun
    rw [State.SysButMlb, State.raise_sys] at hsys
    refine ⟨_, hrun, by rw [hsys], State.mem_mlbSet _ _, by rw [hsys]; exact hhold, ?_, exec_only hrun⟩
    rw [State.mlbSet_ev]
    exact State.raise_ev_congr _ _ rfl rfl rfl

end Sys2Proof.Machine
end

section
/-! SUPPORT. Firmware images at boot, and reloads of a controller (R279-R284, R422). -/
namespace Sys2Proof.Machine
open Sys2Proof.Safety

/-! ### Boot with a firmware image -/

theorem State.requestIns_fwVer (s : State) (x : Insertion) : (s.requestIns x).mbx.fwVer = s.mbx.fwVer := by
  unfold State.requestIns
  dsimp only
  split
  · rfl
  · split <;> rfl

theorem State.calSpares_fwVer (s : State) : s.calSpares.mbx.fwVer = s.mbx.fwVer := by
  have hpart (t : State) (p : Nat → Insertion) (l : List Nat) (ht : t.mbx.fwVer = s.mbx.fwVer) :
      (l.foldl (fun t x => t.requestIns (p x)) t).mbx.fwVer = s.mbx.fwVer :=
    List.foldlRecOn (motive := fun t : State => t.mbx.fwVer = s.mbx.fwVer) l _ ht fun t ht _ _ => (t.requestIns_fwVer _).trans ht
  unfold State.calSpares
  split
  · refine List.foldlRecOn (motive := fun t : State => t.mbx.fwVer = s.mbx.fwVer) _ _ rfl fun t ht i _ => ?_
    split
    · exact hpart _ _ _ (hpart _ _ _ ht)
    · exact ht
  · rfl

/-- What holds once firmware runs at boot: step 5 follows, and the controllers and the version are as its start left them. -/
structure State.FirmwareBooted (s t : State) : Prop where
  step : t.sys.bootStep = 6
  ctl : t.ctl = s.ctl
  fwVer : t.mbx.fwVer = s.mbx.fwVer

theorem State.bootFirmware_spec (s : State) : State.FirmwareBooted s s.bootFirmware := by
  unfold State.bootFirmware
  dsimp only
  generalize hu : (State.raiseIf _ evBootOverrun 0 _ : State) = u
  have hkeeps : Only [.ev] s u := by
    rw [← hu]
    exact (Keeps.raiseIf_keeps (List.Subset.refl _)
      (Keeps.foldl (fun t i h => Keeps.raiseIf_keeps (List.Subset.refl _) h _ _ _) (Keeps.refl s)) _ _ _).only
  clear hu
  generalize hv : ({ u with sys := _, cal := _, hm := _ } : State) = v
  have hstep : v.sys.bootStep = 6 := by rw [← hv]
  have hctl : v.ctl = s.ctl := by
    rw [← hv]
    exact hkeeps.same .ctl (by decide)
  have hver : v.mbx.fwVer = s.mbx.fwVer := by
    rw [← hv]
    exact congrArg Mbx.fwVer (hkeeps.same .mbx (by decide))
  have hspare := (Keeps.calSpares_keeps (List.Subset.refl _) (Keeps.refl v)).only
  exact ⟨(congrArg Sys.bootStep (hspare.same .sys (by decide))).trans hstep, (hspare.same .ctl (by decide)).trans hctl,
    v.calSpares_fwVer.trans hver⟩

/-- What a failed verification's record leaves of the controllers: both, and which one is active. -/
theorem State.verifyFailed_ctl (s : State) (c : Nat) (args : List Nat) : (s.verifyFailed c args).ctl =
    { s.ctl with
      fault := (s.verifyFailed c args).ctl.fault, faultErg := (s.verifyFailed c args).ctl.faultErg
      verifyDue := (s.verifyFailed c args).ctl.verifyDue } := by
  unfold State.verifyFailed
  split
  · rfl
  · dsimp only
    split <;> rfl

theorem State.verifyFailed_only (s : State) (c : Nat) (args : List Nat) : Only [.ctl, .ev] s (s.verifyFailed c args) :=
  (Keeps.verifyFailed_keeps (List.Subset.refl _) (Keeps.refl s) c args).only

theorem State.verifyFailed_ctrl (s : State) (c : Nat) (args : List Nat) (k : Bool) : (s.verifyFailed c args).ctrl k = s.ctrl k := by
  rw [State.ctrl, s.verifyFailed_ctl c args]
  rfl

theorem State.verifyFailed_bootImages (s : State) (c : Nat) (args : List Nat) : (s.verifyFailed c args).bootImages = s.bootImages := by
  have hsys : _ = s.sys := (s.verifyFailed_only c args).same .sys (by decide)
  have hdie := State.dieAt_congr ((s.verifyFailed_only c args).same .die (by decide))
  rw [State.bootImages, State.bootImages, hsys]
  simp only [hdie]

/-- A controller that takes mastership. -/
theorem State.promote_spec (s : State) (c : Bool) :
    (s.promote c).ctrl c = { s.ctrl c with st := .active, beat := s.now, copying := false, loadFrom := none } ∧
      (s.promote c).ctrl (!c) = s.ctrl (!c) ∧ (s.promote c).ctl.activeId = c ∧ (s.promote c).mbx.fwVer = (s.ctrl c).version ∧
      (s.promote c).sys = s.sys := by
  cases c <;> exact ⟨rfl, rfl, rfl, rfl, rfl⟩

theorem execImageVerified_atBoot {c : Fin 2} {s : State} (selfTest : Bool) (hst : (s.ctrl (ctrlOf c)).st = .loading)
    (hcopy : (s.ctrl (ctrlOf c)).copying = false) (hver : (s.ctrl (ctrlOf c)).verified = false)
    (hfail : (s.ctrl (ctrlOf c)).bootFail = false) : exec (.imageVerified c .boot selfTest) s =
      if s.sys.bootStep = 4 then
        if ctrlOf c && !s.ctl.c0.bootFail then .next s else .next (s.bootImage (ctrlOf c) selfTest)
      else if 4 < s.sys.bootStep then .next (s.reloadImage (ctrlOf c) selfTest)
      else .next s := by
  have hexec : exec (.imageVerified c .boot selfTest) s = execImageVerified c .boot selfTest s := rfl
  rw [hexec, execImageVerified]
  exact if_neg (by simp [hst, hcopy, hver, hfail])

/-- What a started image's boot does after its promotion: the other controller copies it, and what waited for firmware is told. -/
def State.roleTaken (s : State) (c : Bool) : State :=
  let t := if (s.ctrl (!c)).bootFail then s else s.modCtrl (!c) fun x => { x with copying := true }
  let u := t.ctl.verifyDue.foldl (fun u a => u.raise evFwVerifyFail a) t
  { u with ctl := { u.ctl with verifyDue := [] } }

theorem State.roleTaken_spec (s : State) (c : Bool) : (s.roleTaken c).ctrl c = s.ctrl c ∧
    ((s.ctrl (!c)).bootFail = false → ((s.roleTaken c).ctrl (!c)).copying = true) ∧ (s.roleTaken c).ctl.activeId = s.ctl.activeId ∧
    (s.roleTaken c).mbx.fwVer = s.mbx.fwVer := by
  unfold State.roleTaken
  dsimp only
  generalize ht : (if (s.ctrl (!c)).bootFail then s else s.modCtrl (!c) fun x => { x with copying := true } : State) = t
  have hself : t.ctrl c = s.ctrl c := by
    rw [← ht]
    split <;> cases c <;> rfl
  have hother (h : (s.ctrl (!c)).bootFail = false) : (t.ctrl (!c)).copying = true := by
    rw [← ht, if_neg (by simp [h]), State.ctrl_modCtrl]
  have hact : t.ctl.activeId = s.ctl.activeId ∧ t.mbx.fwVer = s.mbx.fwVer := by
    rw [← ht]
    split <;> cases c <;> exact ⟨rfl, rfl⟩
  have hraise : Only [.ev] t (t.ctl.verifyDue.foldl (fun u a => u.raise evFwVerifyFail a) t) :=
    (Keeps.foldl (fun _ _ h => Keeps.raise_keeps (List.Subset.refl _) h _ _) (Keeps.refl t)).only
  have hctl : _ = t.ctl := hraise.same .ctl (by decide)
  have hmbx : _ = t.mbx := hraise.same .mbx (by decide)
  generalize t.ctl.verifyDue.foldl (fun u a => u.raise evFwVerifyFail a) t = u at *
  have hctrl := State.ctrl_congr hctl
  exact ⟨(hctrl c).trans hself, fun h => (congrArg Ctrl.copying (hctrl (!c))).trans (hother h),
    (congrArg Ctl.activeId hctl).trans hact.1, (congrArg Mbx.fwVer hmbx).trans hact.2⟩

theorem State.bootImage_of_none {s : State} {c selfTest : Bool} (h : pickFw s.bootImages = none ∨ selfTest = false) :
    s.bootImage c selfTest = (s.verifyFailed (b2n c) (fwFailures (b2n c) s.bootImages)).bootFails c := by
  have hpick := s.verifyFailed_bootImages (b2n c) (fwFailures (b2n c) s.bootImages)
  simp only [State.bootImage, hpick]
  rcases h with h | h
  · rw [h]
    cases selfTest <;> rfl
  · rw [h]

theorem State.bootImage_of_some {s : State} {c : Bool} {bs : Bytes} (h : pickFw s.bootImages = some bs) : s.bootImage c true =
    ((((s.verifyFailed (b2n c) (fwFailures (b2n c) s.bootImages)).modCtrl c fun x =>
      { x.load bs with verified := true }).promote c).roleTaken c).bootFirmware := by
  have hpick : pickFw (s.verifyFailed (b2n c) (fwFailures (b2n c) s.bootImages)).bootImages = some bs := by
    rw [State.verifyFailed_bootImages, h]
  simp only [State.bootImage, hpick]
  rfl

theorem State.reloadImage_of_some {s : State} {c : Bool} {bs : Bytes} (h : pickFw s.bootImages = some bs) : s.reloadImage c true =
    (s.verifyFailed (b2n c) (fwFailures (b2n c) s.bootImages)).modCtrl c fun x => { x.load bs with verified := true } := by
  have hpick : pickFw (s.verifyFailed (b2n c) (fwFailures (b2n c) s.bootImages)).bootImages = some bs := by
    rw [State.verifyFailed_bootImages, h]
  simp only [State.reloadImage, hpick]

theorem State.bootFails_spec (s : State) (c : Bool) : ((s.bootFails c).ctrl c).bootFail = true ∧ ((s.bootFails c).ctrl c).st = (s.ctrl c).st ∧
    (s.bootFails c).sys.bootStep = s.sys.bootStep ∧ ((s.ctrl (!c)).bootFail = true → FaultCause.noImage ∈ (s.bootFails c).sys.mlb) := by
  let t : State := s.modCtrl c fun x => { x with bootFail := true }
  have hctrl : t.ctrl c = { s.ctrl c with bootFail := true } := s.ctrl_modCtrl c _
  have hother : t.ctrl (!c) = s.ctrl (!c) := s.ctrl_modCtrl_not c _
  have hsys : t.sys = s.sys := s.modCtrl_sys c _
  have hfails : s.bootFails c = if (t.ctrl (!c)).bootFail then t.mlbSet .noImage else t := rfl
  have honly := t.mlbSet_only .noImage
  have hstep := congrArg Sys.bootStep (t.mlbSet_sysButMlb .noImage)
  have hset := State.ctrl_congr (honly.same .ctl (by decide)) c
  rw [hfails]
  clear_value t
  split
  · exact ⟨by rw [hset, hctrl], by rw [hset, hctrl], by rw [hstep, hsys], fun _ => State.mem_mlbSet _ _⟩
  next h => exact ⟨by rw [hctrl], by rw [hctrl], by rw [hsys], fun h' => absurd ((congrArg Ctrl.bootFail hother).trans h') h⟩

theorem State.retire_ev (s : State) (c : Bool) : (s.retire c).ev = (s.raise evCtrlRetired (b2n c)).ev := by
  have hsys := s.modCtrl_sys c fun x => { x with st := .retired, copying := false, loadFrom := none, verified := false }
  have hev : (s.modCtrl c fun x => { x with st := .retired, copying := false, loadFrom := none, verified := false }).ev = s.ev := by
    cases c <;> rfl
  unfold State.retire
  dsimp only
  rw [State.mlbSet_ev]
  generalize (s.modCtrl c fun x => { x with st := .retired, copying := false, loadFrom := none, verified := false }) = t at *
  exact State.raise_ev_congr (s := s) _ _ (by change t.sys.epoch = _; rw [hsys]) (by change t.sys.erg = _; rw [hsys]) hev

/-! ### STANDBY -/

/-- What holds of a controller that is STANDBY and not called on at once. -/
def State.stoodBy (s : State) (c : Bool) : State :=
  ((s.modCtrl c fun x => { x with
    st := .standby, beat := s.now, copying := false, loadFrom := none, wasRetired := false, verified := true }).mlbClear
      (.retired (b2n c))).raise evCtrlStandbyReady (b2n c)

theorem State.standbyReady_eq (s : State) (c : Bool) : s.standbyReady c =
    if (s.stoodBy c).sys.hold = 4 ∧ (s.stoodBy c).active.isNone then
      { (s.stoodBy c).promote c with ctl := { ((s.stoodBy c).promote c).ctl with takeover := true } }
    else s.stoodBy c := rfl

theorem State.stoodBy_spec (s : State) (c : Bool) :
    (s.stoodBy c).ctrl c = { s.ctrl c with
      st := .standby, beat := s.now, copying := false, loadFrom := none, wasRetired := false, verified := true } ∧
      (s.stoodBy c).ctrl (!c) = s.ctrl (!c) ∧ (s.stoodBy c).sys = { s.sys with mlb := s.sys.mlb.filter (· ≠ .retired (b2n c)) } ∧
      (s.stoodBy c).ev = (s.raise evCtrlStandbyReady (b2n c)).ev := by
  let t : State := (s.modCtrl c fun x => { x with
    st := .standby, beat := s.now, copying := false, loadFrom := none, wasRetired := false, verified := true }).mlbClear (.retired (b2n c))
  have hself : t.ctrl c = { s.ctrl c with
      st := .standby, beat := s.now, copying := false, loadFrom := none, wasRetired := false, verified := true } :=
    s.ctrl_modCtrl c _
  have hother : t.ctrl (!c) = s.ctrl (!c) := s.ctrl_modCtrl_not c _
  have hsys : t.sys = { s.sys with mlb := s.sys.mlb.filter (· ≠ .retired (b2n c)) } := by cases c <;> rfl
  have hev : t.ev = s.ev := by cases c <;> rfl
  have hraise := (Keeps.raise_keeps (List.Subset.refl _) (Keeps.refl t) evCtrlStandbyReady (b2n c)).only
  have hctrl := State.ctrl_congr (hraise.same .ctl (by decide))
  exact ⟨(hctrl c).trans hself, (hctrl _).trans hother, (hraise.same .sys (by decide)).trans hsys,
    State.raise_ev_congr _ _ (by rw [hsys]) (by rw [hsys]) hev⟩

theorem State.active_eq_none_iff (s : State) : s.active = none ↔ ∀ c, (s.ctrl c).st ≠ .active := by
  rw [Bool.forall_bool, State.active, State.ctrl, State.ctrl]
  by_cases h0 : s.ctl.c0.st = .active <;> by_cases h1 : s.ctl.c1.st = .active <;> simp [h0, h1]

/-- Settles O34: at boot the image that verifies runs, or the role passes on; each reload command is its own equation, and a STANDBY
that finds hold without firmware takes over. -/
theorem firmwareIsLoaded : Obligations.FirmwareIsLoaded := by
  refine ⟨fun bs s hst hcopy hver hfail hboot hpick => ?boots, fun selfTest s hst hcopy hver hfail hboot hbad => ?fails,
    fun c bs s hst hcopy hver hfail hboot hpick => ?reloads, fun c s hst hcopy hact => ?copies,
    fun c s hst hfail hcopy hact hen => ?standby, fun c s hst hfail hcopy hver hen hhold hnone => ?takes,
    fun c a s hst hload ha => ?timeout, fun c s hst hcopy hact => ?source⟩
  case boots =>
    have hrun : exec (.imageVerified 0 .boot true) s = .next (s.bootImage false true) := by
      rw [execImageVerified_atBoot (c := 0) true hst hcopy hver hfail, if_pos hboot]
      rfl
    rw [State.bootImage_of_some hpick] at hrun
    have hv := s.verifyFailed_ctrl (b2n false) (fwFailures (b2n false) s.bootImages)
    generalize s.verifyFailed (b2n false) (fwFailures (b2n false) s.bootImages) = v at *
    have hload : (v.modCtrl false fun x => { x.load bs with verified := true }).ctrl true = s.ctrl true :=
      (v.ctrl_modCtrl_not false _).trans (hv true)
    have hself : ((v.modCtrl false fun x => { x.load bs with verified := true }).ctrl false).version = fwVersion bs := by
      rw [State.ctrl_modCtrl]
      rfl
    generalize (v.modCtrl false fun x => { x.load bs with verified := true }) = w at *
    obtain ⟨hpself, hpother, hpact, hpver, -⟩ := w.promote_spec false
    generalize w.promote false = p at *
    obtain ⟨htself, htother, htact, htver⟩ := p.roleTaken_spec false
    have hb := (p.roleTaken false).bootFirmware_spec
    generalize p.roleTaken false = r at *
    have hctrl := State.ctrl_congr hb.ctl
    refine ⟨_, hrun, by rw [hctrl, htself, hpself], by rw [hctrl, htself, hpself]; exact hself, by rw [hb.ctl, htact, hpact],
      by rw [hb.fwVer, htver, hpver, hself], hb.step, fun hok => ?_⟩
    rw [hctrl]
    exact htother (by rw [hpother]; exact (congrArg Ctrl.bootFail hload).trans hok)
  case fails =>
    have hrun : exec (.imageVerified 0 .boot selfTest) s = .next (s.bootImage false selfTest) := by
      rw [execImageVerified_atBoot (c := 0) selfTest hst hcopy hver hfail, if_pos hboot]
      rfl
    rw [State.bootImage_of_none hbad] at hrun
    have hv := s.verifyFailed_ctrl (b2n false) (fwFailures (b2n false) s.bootImages)
    have hvsys : _ = s.sys := (s.verifyFailed_only (b2n false) (fwFailures (b2n false) s.bootImages)).same .sys (by decide)
    generalize s.verifyFailed (b2n false) (fwFailures (b2n false) s.bootImages) = v at *
    obtain ⟨hself, hst', hsys, hpin⟩ := v.bootFails_spec false
    refine ⟨_, hrun, hself, by rw [hst', hv]; exact hst, ?_, fun h => hpin ((congrArg Ctrl.bootFail (hv true)).trans h)⟩
    rw [hsys, hvsys]
    exact hboot
  case reloads =>
    have hrun : exec (.imageVerified c .boot true) s = .next (s.reloadImage (ctrlOf c) true) := by
      rw [execImageVerified_atBoot true hst hcopy hver hfail, if_neg (by omega), if_pos hboot]
    rw [State.reloadImage_of_some hpick] at hrun
    have hv := s.verifyFailed_ctrl (b2n (ctrlOf c)) (fwFailures (b2n (ctrlOf c)) s.bootImages)
    have hvsys : _ = s.sys := (s.verifyFailed_only (b2n (ctrlOf c)) (fwFailures (b2n (ctrlOf c)) s.bootImages)).same .sys (by decide)
    generalize s.verifyFailed (b2n (ctrlOf c)) (fwFailures (b2n (ctrlOf c)) s.bootImages) = v at *
    refine ⟨_, hrun, ?_, ?_, ?_, ?_⟩
    · rw [State.ctrl_modCtrl, hv]
    · rw [State.ctrl_modCtrl]
      rfl
    · rw [State.ctrl_modCtrl_not, hv]
    · rw [State.modCtrl_sys, hvsys]
  case copies =>
    have hexec : exec (.imageVerified c .copy true) s = execImageVerified c .copy true s := rfl
    rw [hexec, execImageVerified]
    exact (if_neg (by simp [hst, hcopy, hact])).trans (if_pos rfl)
  case standby =>
    intro k
    let u : State := s.modCtrl k fun x => { x.copyOf (s.ctrl (!k)) with verified := true, copying := false, loadFrom := none }
    have huself : u.ctrl k = { (s.ctrl k).copyOf (s.ctrl (!k)) with verified := true, copying := false, loadFrom := none } :=
      s.ctrl_modCtrl k _
    have huother : u.ctrl (!k) = s.ctrl (!k) := s.ctrl_modCtrl_not k _
    have husys : u.sys = s.sys := s.modCtrl_sys k _
    have huev : u.ev = s.ev := by
      cases hk : k <;> simp only [u, hk] <;> rfl
    have hbit : bitOf u.ctl.ctrl 0 = true := by
      rw [← hen]
      cases hk : k <;> simp only [u, hk] <;> rfl
    have hrun : exec (.controllerReloadDone c) s = .next (u.standbyReady k) := by
      have hexec : exec (.controllerReloadDone c) s = execControllerReloadDone c s := rfl
      rw [hexec, execControllerReloadDone]
      dsimp only
      rw [if_neg (by simp [hst, hfail]), if_pos hcopy, if_neg (by simp [hact])]
      exact if_pos hbit
    have honly := exec_only hrun
    obtain ⟨hself, hother, hsys, hev⟩ := u.stoodBy_spec k
    have hsome : ¬ ((u.stoodBy k).sys.hold = 4 ∧ (u.stoodBy k).active.isNone) := by
      rintro ⟨-, h⟩
      exact (State.active_eq_none_iff _).1 (Option.isNone_iff_eq_none.1 h) (!k) (by rw [hother, huother]; exact hact)
    rw [State.standbyReady_eq, if_neg hsome] at hrun honly
    refine ⟨_, hrun, by rw [hself], by rw [hself, huself]; rfl, by rw [hself], ?_, by rw [hself, huself]; rfl, by rw [hself],
      hother.trans huother, ?_, hev.trans (State.raise_ev_congr _ _ (by rw [husys]) (by rw [husys]) huev), honly⟩
    · rw [hself, State.now, husys]
    · rw [hsys]
      exact fun h => absurd rfl (of_decide_eq_true (List.mem_filter.1 h).2)
  case takes =>
    generalize hk : ctrlOf c = k at *
    have hrun : exec (.controllerReloadDone c) s = .next (s.standbyReady k) := by
      have hexec : exec (.controllerReloadDone c) s = execControllerReloadDone c s := rfl
      rw [hexec, execControllerReloadDone]
      dsimp only
      rw [hk, if_neg (by simp [hst, hfail]), if_neg (by simp [hcopy])]
      exact if_pos ⟨hver, hen⟩
    obtain ⟨hself, hother, hsys, -⟩ := s.stoodBy_spec k
    have hidle : (s.stoodBy k).active = none := by
      rw [State.active_eq_none_iff] at hnone ⊢
      intro d
      by_cases hd : d = k
      · rw [hd, hself]
        simp
      · rw [Bool.eq_not.2 hd, hother]
        exact hnone _
    rw [State.standbyReady_eq, if_pos ⟨by rw [hsys]; exact hhold, by rw [hidle]; rfl⟩] at hrun
    generalize s.stoodBy k = u at *
    obtain ⟨hpself, -, hpact, hpver, hpsys⟩ := u.promote_spec k
    refine ⟨_, hrun, ?_, hpact, rfl, by rw [hpver, hself], ?_⟩
    · exact (congrArg Ctrl.st hpself :)
    · exact (congrArg Sys.hold (hpsys.trans hsys)).trans hhold
  case timeout =>
    generalize hk : ctrlOf c = k at *
    have hrun : exec (.controllerReloadTimeout c) s = .next (s.retire k) := by
      have hexec : exec (.controllerReloadTimeout c) s = execControllerReloadTimeout c s := rfl
      rw [hexec, execControllerReloadTimeout, hk, hst, hload]
      exact if_pos ha
    have hctrl := State.ctrl_congr (s.retire_ctl k)
    obtain ⟨hsys, hpin⟩ := s.retire_sys k
    refine ⟨_, hrun, by rw [hctrl, State.ctrl_modCtrl], by rw [hctrl, State.ctrl_modCtrl_not], by rw [hsys], hpin, s.retire_ev k, exec_only hrun⟩
  case source => exact if_pos ⟨hst, hcopy, hact⟩

end Sys2Proof.Machine
end

section
/-! SUPPORT. Live updates of firmware (R359-R362). -/
namespace Sys2Proof.Machine
open Sys2Proof.Safety

theorem State.fw_of_active {s : State} {c : Bool} (h : (s.ctrl c).st = .active) (hhold : s.sys.hold = 0) : s.fw = true := by
  have hsome : s.active.isSome = true := by
    rw [Option.isSome_iff_ne_none]
    exact fun hnone => (State.active_eq_none_iff s).1 hnone c h
  simp [State.fw, hsome, State.inHold, hhold]

/-! ### A staged image -/

theorem exec_imageVerified_staged {c : Fin 2} {u : Update} {o : LongOp} {s : State} (selfTest : Bool) (hupd : s.cfg.update = some u)
    (ho : (s.handle u.handle).op = some o) (hst : o.st = .running) (hstep : u.step = 2) (hout : u.outgoing = !(ctrlOf c))
    (hhold : s.sys.hold = 0) : exec (.imageVerified c .staged selfTest) s = .next (s.stagedImage u) := by
  have hexec : exec (.imageVerified c .staged selfTest) s = execImageVerified c .staged selfTest s := rfl
  simp only [hexec, execImageVerified, hupd, ho]
  exact if_pos ⟨hstep, by simp [hout], decide_eq_true hst, by simp [State.inHold, hhold]⟩

theorem State.dropUpdate_of_some {s : State} {u : Update} (h : s.cfg.update = some u) (st : Nat) : s.dropUpdate st =
    ({ s with cfg := { s.cfg with update := none, fwStage := [] } } : State).finishOp u.handle .failed st := by
  rw [State.dropUpdate, h]

/-- A failed verification's fault, CODE 7. -/
theorem State.verifyFailed_fault (s : State) (c : Nat) {args : List Nat} (h : args ≠ []) :
    (s.verifyFailed c args).ctl.fault = word (at_ c 8 + 7) := by
  unfold State.verifyFailed
  rw [if_neg (by simpa using h)]
  dsimp only
  split <;> rfl

/-! ### Rollback -/

theorem State.holdTold_handle (s : State) (cause : Nat) : (s.holdTold cause).mbx.handle = s.mbx.handle := by
  have hmbx : (({ s with sys := s.sys.holding cause } : State).raise evHoldEnter cause).mbx = s.mbx :=
    (Keeps.raise_keeps (gs := [.ev]) (List.Subset.refl _) (Keeps.refl _) _ _).only.same .mbx (by decide)
  unfold State.holdTold
  generalize ({ s with sys := s.sys.holding cause } : State).raise evHoldEnter cause = t at hmbx
  rw [← hmbx]
  rfl

/-- A change of hold's cause stops nothing: the handles and the configuration stay. -/
theorem State.enterHold_of_held {s : State} (h : s.sys.hold ≠ 0) {cause : Nat} (hcause : cause ≠ 4) :
    (s.enterHold cause).mbx.handle = s.mbx.handle ∧ Only [.sys, .mbx, .et, .ev] s (s.enterHold cause) := by
  have hn := s.holdNoted_spec cause
  have hhandle := s.holdTold_handle cause
  have hover := (s.holdTold cause).holdover_only
  rw [State.enterHold_eq, if_neg hcause, if_neg (by simp [h])]
  exact ⟨(congrArg Mbx.handle (hover.same .mbx (by decide))).trans hhandle, hn.only.trans ((State.mlbClear_only _ _).mono (by decide))⟩

/-- The new firmware's controller is held in reset under hold cause 3, and the outgoing one is ACTIVE. -/
def State.rolledBack (s : State) (u : Update) : State :=
  let t := ((s.modCtrl (!u.outgoing) fun x => { x with st := .faulted, copying := false, loadFrom := none }).enterHold 3).promote u.outgoing
  ({ t with ctl := { t.ctl with takeover := true } } : State).raise evFwRollback (b2n !u.outgoing)

theorem State.rollback_of_standby {s : State} {u : Update} (h : (s.ctrl u.outgoing).st = .standby) (st : Nat) : s.rollback u st =
    ({ s.rolledBack u with cfg := { (s.rolledBack u).cfg with update := none, fwStage := [] } } : State).finishOp u.handle .failed st := by
  have hother : (s.modCtrl (!u.outgoing) fun x => { x with st := .faulted, copying := false, loadFrom := none }).ctrl u.outgoing =
      s.ctrl u.outgoing := by
    cases u.outgoing <;> rfl
  rw [State.rollback]
  dsimp only
  rw [hother, h]
  rfl

/-- What holds once a rollback has changed the controllers in hold. -/
structure State.RolledBack (s t : State) (u : Update) : Prop where
  hold : t.sys.hold = 3
  new : (t.ctrl (!u.outgoing)).st = .faulted
  old : (t.ctrl u.outgoing).st = .active
  activeId : t.ctl.activeId = u.outgoing
  takeover : t.ctl.takeover = true
  cfg : t.cfg = s.cfg
  handle : t.mbx.handle = s.mbx.handle

theorem State.rolledBack_spec {s : State} (u : Update) (hhold : s.sys.hold ≠ 0) : State.RolledBack s (s.rolledBack u) u := by
  have hnew := s.ctrl_modCtrl (!u.outgoing) fun x => { x with st := .faulted, copying := false, loadFrom := none }
  have hkept : Only [.ctl] s (s.modCtrl (!u.outgoing) fun x => { x with st := .faulted, copying := false, loadFrom := none }) :=
    (Keeps.modCtrl_keeps (List.Subset.refl _) (Keeps.refl s) _ _).only
  unfold State.rolledBack
  generalize (s.modCtrl (!u.outgoing) fun x => { x with st := .faulted, copying := false, loadFrom := none }) = v at *
  have hvhold : v.sys.hold ≠ 0 := by
    rw [hkept.same .sys (by decide)]
    exact hhold
  have hent := v.enterHold_spec 3
  obtain ⟨hhandle, honly⟩ := State.enterHold_of_held hvhold (cause := 3) (by decide)
  have hctrl := State.ctrl_congr (honly.same .ctl (by decide))
  have hwhold : (v.enterHold 3).sys.hold = 3 := by
    rw [hent.sys]
    rfl
  have hwcfg : (v.enterHold 3).cfg = s.cfg := (honly.same .cfg (by decide)).trans (hkept.same .cfg (by decide))
  have hwhandle : (v.enterHold 3).mbx.handle = s.mbx.handle := hhandle.trans (congrArg Mbx.handle (hkept.same .mbx (by decide)))
  generalize v.enterHold 3 = w at *
  obtain ⟨hpself, hpother, hpact, -, hpsys⟩ := w.promote_spec u.outgoing
  have hpcfg : (w.promote u.outgoing).cfg = w.cfg := by cases u.outgoing <;> rfl
  have hphandle : (w.promote u.outgoing).mbx.handle = w.mbx.handle := by cases u.outgoing <;> rfl
  generalize w.promote u.outgoing = p at *
  have hraise := (Keeps.raise_keeps (List.Subset.refl _) (Keeps.refl ({ p with ctl := { p.ctl with takeover := true } } : State))
    evFwRollback (b2n !u.outgoing)).only
  have hctl : _ = ({ p.ctl with takeover := true } : Ctl) := hraise.same .ctl (by decide)
  have hmbx : _ = p.mbx := hraise.same .mbx (by decide)
  have hcfg : _ = p.cfg := hraise.same .cfg (by decide)
  have hsys : _ = p.sys := hraise.same .sys (by decide)
  generalize ({ p with ctl := { p.ctl with takeover := true } } : State).raise evFwRollback (b2n !u.outgoing) = r at *
  have hrctrl (c : Bool) : r.ctrl c = p.ctrl c := by
    rw [State.ctrl, hctl]
    rfl
  refine ⟨by rw [hsys, hpsys, hwhold], ?_, by rw [hrctrl, hpself], by rw [hctl]; exact hpact, by rw [hctl], (hcfg.trans hpcfg).trans hwcfg,
    by rw [hmbx, hphandle, hwhandle]⟩
  rw [hrctrl, hpother, hctrl, hnew]

theorem State.handle_congr {s t : State} (h : t.mbx.handle = s.mbx.handle) (i : Nat) : t.handle i = s.handle i := by
  rw [State.handle, h, State.handle]

/-! ### Entry into an update's hold -/

/-- The new firmware starts in the update's hold, and the outgoing controller stands by. -/
def State.newStarted (s : State) (u : Update) : State :=
  let t := s.modCtrl u.outgoing fun x => { x with st := .standby, beat := s.now }
  let p := (t.modCtrl (!u.outgoing) fun x => { x.load t.cfg.fwStage with version := u.version }).promote (!u.outgoing)
  let v := p.modOp u.handle fun o => { o with step := 7 }
  { v with cfg := { v.cfg with update := some { u with step := 7, startedNew := true } } }

/-- What holds once the new firmware has started. -/
structure State.NewStarted (s t : State) (u : Update) : Prop where
  sys : t.sys = s.sys
  old : (t.ctrl u.outgoing).st = .standby
  new : (t.ctrl (!u.outgoing)).st = .active
  version : (t.ctrl (!u.outgoing)).version = u.version
  fwVer : t.mbx.fwVer = u.version
  activeId : t.ctl.activeId = !u.outgoing
  update : t.cfg.update = some { u with step := 7, startedNew := true }

theorem State.newStarted_spec (s : State) (u : Update) : State.NewStarted s (s.newStarted u) u := by
  unfold State.newStarted
  dsimp only
  have hold := s.ctrl_modCtrl u.outgoing fun x => { x with st := .standby, beat := s.now }
  have hsys := s.modCtrl_sys u.outgoing fun x => { x with st := .standby, beat := s.now }
  generalize (s.modCtrl u.outgoing fun x => { x with st := .standby, beat := s.now }) = t at *
  have hnew := t.ctrl_modCtrl (!u.outgoing) fun x => { x.load t.cfg.fwStage with version := u.version }
  have hkept := t.ctrl_modCtrl_not (!u.outgoing) fun x => { x.load t.cfg.fwStage with version := u.version }
  have hsys' := t.modCtrl_sys (!u.outgoing) fun x => { x.load t.cfg.fwStage with version := u.version }
  generalize (t.modCtrl (!u.outgoing) fun x => { x.load t.cfg.fwStage with version := u.version }) = v at *
  obtain ⟨hpself, hpother, hpact, hpver, hpsys⟩ := v.promote_spec (!u.outgoing)
  rw [Bool.not_not] at hkept hpother
  generalize v.promote (!u.outgoing) = p at *
  have hctrl (c : Bool) : ({ p.modOp u.handle fun o => { o with step := 7 } with
      cfg := { (p.modOp u.handle fun o => { o with step := 7 }).cfg with update := some { u with step := 7, startedNew := true } } } :
        State).ctrl c = p.ctrl c := rfl
  refine ⟨(hpsys.trans hsys').trans hsys, ?_, ?_, ?_, ?_, hpact, rfl⟩
  · rw [hctrl, hpother, hkept, hold]
  · rw [hctrl, hpself]
  · rw [hctrl, hpself, hnew]
  · exact hpver.trans (by rw [hnew])

theorem exec_fwUpdateHoldEntry {s : State} {u : Update} {o : LongOp} (hupd : s.cfg.update = some u)
    (ho : (s.handle u.handle).op = some o) (hst : o.st = .running) (hstep : u.step = 3) (hold : (s.ctrl u.outgoing).st = .active)
    (hnew : (s.ctrl (!u.outgoing)).st = .standby) (hhold : s.sys.hold = 0) (hidle : ∀ m : Fin 8, (s.box m).st ≠ .working) :
    exec .fwUpdateHoldEntry s = .next ((s.enterHold 2).newStarted u) := by
  have hexec : exec .fwUpdateHoldEntry s = execFwUpdateHoldEntry s := rfl
  have hready : ¬ (u.step ≠ 3 ∨ (!decide (o.st = .running)) = true ∨
      (!decide ((s.ctrl u.outgoing).st = .active ∧ (s.ctrl (!u.outgoing)).st = .standby)) = true) := by
    simp [hstep, hst, hold, hnew]
  have henter : s.sys.hold = 2 ∨ (s.fw = true ∧ ((List.finRange 8).all fun m => decide ((s.box m).st ≠ .working)) = true) :=
    .inr ⟨State.fw_of_active hold hhold, List.all_eq_true.2 fun m _ => decide_eq_true (hidle m)⟩
  simp only [hexec, execFwUpdateHoldEntry, hupd, ho]
  rw [if_neg hready, if_pos henter, if_neg (by omega)]
  rfl

/-- The status with which a rollback ends the update's handle. -/
def rollbackStatus (why : RollbackWhy) : Nat :=
  match why with
  | .schema => stVersion
  | .overrun => stTimeout
  | .fatal => stInternal

/-- A rollback's fault: an overrun has none of its own. -/
def State.rollbackFault (s : State) (u : Update) (why : RollbackWhy) : State :=
  if why = .overrun then s else s.faultNoted (!u.outgoing) 6

theorem State.rollbackFault_only (s : State) (u : Update) (why : RollbackWhy) :
    Only [.ctl] s (s.rollbackFault u why) ∧ ∀ c, (s.rollbackFault u why).ctrl c = s.ctrl c := by
  unfold State.rollbackFault
  split
  · exact ⟨(Keeps.refl s).only, fun _ => rfl⟩
  · exact ⟨(Keeps.faultNoted_keeps (List.Subset.refl _) (Keeps.refl s) _ _).only, fun _ => rfl⟩

theorem exec_fwRollback {s : State} {u : Update} {why : RollbackWhy} (hupd : s.cfg.update = some u) (hhold : s.sys.hold = 2)
    (hstep : 3 ≤ u.step) (hover : why = .overrun → s.sys.overrun = true) :
    exec (.fwRollback why) s = .next ((s.rollbackFault u why).rollback u (rollbackStatus why)) := by
  have hexec : exec (.fwRollback why) s = execFwRollback why s := rfl
  have hgo : ¬ (s.sys.hold ≠ 2 ∨ u.step < 3 ∨ (why = .overrun ∧ (!s.sys.overrun) = true)) := by
    rintro (h | h | ⟨hw, h⟩)
    · exact h hhold
    · omega
    · simp [hover hw] at h
  simp only [hexec, execFwRollback, hupd]
  rw [if_neg hgo]
  cases why <;> rfl

/-- Settles O35: the command stages the slot's image; the staged image passes or ends the handle; entry into the update's hold is entry into
hold and the exchange of the controllers' roles, and a rollback changes them back. -/
theorem firmwareIsUpdated : Obligations.FirmwareIsUpdated := by
  refine ⟨fun q i s hready hlevel hslot hlen hnone hstandby hfree => ?update, fun q s hready hlevel hslot hlen hnone hstandby => ?busy,
    fun c u o st s hupd ho hst hstep hout hhold hok hsize => ?passes, fun c u o k st s hupd ho hst hstep hout hhold hbad => ?fails,
    fun u o s hupd ho hst hstep hold hnew hhold hidle => ?entry, fun u o why s hupd ho hhold hstep hover hstandby => ?rollback⟩
  case update =>
    have hnone' : ((posted s 0x0A05 q).findOp fun o => decide (o.kind = .modelLoad ∨ o.kind = .fwUpdate)) = none := hnone
    have hstandby' : ((posted s 0x0A05 q).ctrl (!(posted s 0x0A05 q).ctl.activeId)).st = .standby := hstandby
    have hfree' : (posted s 0x0A05 q).freeHandle (decide (q.mbx = 7)) = some i := hfree
    have hi := State.freeHandle_lt hfree
    let o : LongOp := { newOp .fwUpdate .running s.now with
      target := q.u8 0, step := 1, starter := some q.mbx, start := s.now, timer := s.now, async := bitOf (q.flags.setWidth 32) 3 }
    let v := (posted s 0x0A05 q).modHandle i fun h => { h with op := some o }
    let bs := (s.bootImages.getD (q.u8 0) none).getD []
    let w : State := { v with cfg := { v.cfg with
      update := some ⟨i, 1, s.ctl.activeId, 0, (s.ctrl s.ctl.activeId).version, false⟩, fwStage := bs, fwTop := max v.cfg.fwTop bs.length } }
    have hcmd : cmdFwUpdate q (posted s 0x0A05 q) = .done { status := 0x01, handle := some (s.handleNo i) } (w.fwStaged i) := by
      rw [cmdFwUpdate]
      dsimp only
      rw [if_neg (by simp [hlevel]), if_neg (by simp [hlevel]), if_neg (by simp [hlevel]; omega), hnone', if_neg (by simp),
        if_neg (by simp [hstandby']), if_neg (by simp [hlevel]), State.startOp_of_free _ _ hfree']
      rfl
    have hvself : v.handle i = { gen := (s.handle i).gen, op := some o } := (posted s 0x0A05 q).handle_modHandle _ hi
    have hv : Only [.mbx] s v :=
      (Keeps.modHandle_keeps (List.Subset.refl _) (Keeps.modBox_keeps (List.Subset.refl _) (Keeps.refl s) q.mbx _) i _).only
    have hwop : (w.handle i).op = some o := congrArg Handle.op hvself
    have hstaged : (w.fwStaged i).cfg = { s.cfg with
        update := some ⟨i, 2, s.ctl.activeId, 0, (s.ctrl s.ctl.activeId).version, false⟩, fwStage := bs
        fwTop := max s.cfg.fwTop bs.length } := by
      have hmap : (w.fwStaged i).cfg = { w.cfg with
          update := w.cfg.update.map fun u => if u.handle = i then { u with step := 2 } else u } := rfl
      rw [hmap]
      exact congrArg (fun x => ({ w.cfg with update := some x } : Cfg)) (if_pos rfl)
    refine ⟨_, congrArg Host.Outcome.next (State.submit_done (by decide) hready hcmd), hstaged,
      ⟨{ o with step := 2 }, (State.handle_modOp hi hwop).trans ?_, rfl, rfl, rfl, rfl, rfl⟩, fun j hj => ?_,
      (hv.mono (by decide)).trans (((v.only_cfg _).mono (by decide)).trans (Keeps.fwStaged_keeps (by decide) (Keeps.refl w) i).only)⟩
    · rw [show w.handle i = v.handle i from rfl, hvself]
    · exact (w.handle_modOp_ne _ hj).trans ((posted s 0x0A05 q).handle_modHandle_ne _ hj)
  case busy =>
    have hnone' : ((posted s 0x0A05 q).findOp fun o => decide (o.kind = .modelLoad ∨ o.kind = .fwUpdate)) = none := hnone
    have hstandby' : ((posted s 0x0A05 q).ctrl (!(posted s 0x0A05 q).ctl.activeId)).st ≠ .standby := hstandby
    refine congrArg Host.Outcome.next (State.submit_done (by decide) hready ?_)
    rw [cmdFwUpdate]
    dsimp only
    rw [if_neg (by simp [hlevel]), if_neg (by simp [hlevel]), if_neg (by simp [hlevel]; omega), hnone', if_neg (by simp), if_pos hstandby']
    rfl
  case passes =>
    have hrun := exec_imageVerified_staged st hupd ho hst hstep hout hhold
    have hstaged : s.stagedImage u = { s.modOp u.handle fun o => { o with step := 3 } with
        cfg := { s.cfg with update := some { u with step := 3, version := fwVersion s.cfg.fwStage } } } := by
      rw [State.stagedImage, hok]
      exact if_neg (by simp [hsize])
    rw [hstaged] at hrun
    exact ⟨_, hrun, rfl, congrArg Handle.op (State.handle_modOp (State.handle_lt ho) ho),
      ((Keeps.modOp_keeps (List.Subset.refl _) (Keeps.refl s) u.handle _).only.mono (by decide)).trans
        ((State.only_cfg _ _).mono (by decide))⟩
  case fails =>
    have hrun := exec_imageVerified_staged st hupd ho hst hstep hout hhold
    have hnot : (!u.outgoing) = ctrlOf c := by rw [hout, Bool.not_not]
    have honly := s.verifyFailed_only (b2n (ctrlOf c)) [b2n (ctrlOf c) + at_ k 8]
    have hfault := s.verifyFailed_fault (b2n (ctrlOf c)) (args := [b2n (ctrlOf c) + at_ k 8]) (by simp)
    have hstaged : s.stagedImage u = ((s.verifyFailed (b2n (ctrlOf c)) [b2n (ctrlOf c) + at_ k 8]).modOp u.handle fun o =>
        { o with verify := k }).dropUpdate stVerify := by
      rw [State.stagedImage, hbad, ← hnot]
    rw [hstaged] at hrun
    generalize s.verifyFailed (b2n (ctrlOf c)) [b2n (ctrlOf c) + at_ k 8] = v at *
    have hvo : (v.handle u.handle).op = some o := by
      rw [State.handle_congr (congrArg Mbx.handle (honly.same .mbx (by decide)))]
      exact ho
    have hwo := congrArg Handle.op (State.handle_modOp (f := fun o => { o with verify := k }) (State.handle_lt ho) hvo)
    have hwcfg : (v.modOp u.handle fun o => { o with verify := k }).cfg = s.cfg := honly.same .cfg (by decide)
    have hwctl : (v.modOp u.handle fun o => { o with verify := k }).ctl = v.ctl := rfl
    have hwnow : (v.modOp u.handle fun o => { o with verify := k }).now = s.now := congrArg Sys.erg (honly.same .sys (by decide))
    generalize (v.modOp u.handle fun o => { o with verify := k }) = w at *
    rw [State.dropUpdate_of_some (by rw [hwcfg]; exact hupd)] at hrun
    let x : State := { w with cfg := { w.cfg with update := none, fwStage := [] } }
    have hfin := x.finishOp_only u.handle .failed stVerify
    obtain ⟨hself, -⟩ := State.finishOp_spec (s := x) .failed stVerify (State.handle_lt ho) hwo
    refine ⟨_, hrun, (hfin.same .cfg (by decide)).trans ?_, (congrArg Handle.op hself).trans ?_, ?_⟩
    · change ({ w.cfg with update := none, fwStage := [] } : Cfg) = _
      rw [hwcfg]
    · have hnow : x.now = s.now := hwnow
      rw [hnow]
      rfl
    · rw [congrArg Ctl.fault (hfin.same .ctl (by decide))]
      exact (congrArg Ctl.fault hwctl).trans (hfault.trans (congrArg word (by rw [at_]; omega)))
  case entry =>
    have hrun := exec_fwUpdateHoldEntry hupd ho hst hstep hold hnew hhold hidle
    have hent := s.enterHold_spec 2
    have honly := exec_only hrun
    have h := (s.enterHold 2).newStarted_spec u
    refine ⟨_, hrun, ?_, h.old, h.new, h.version, h.fwVer, h.activeId, h.update, honly⟩
    rw [h.sys, hent.sys]
    rfl
  case rollback =>
    have hrun := exec_fwRollback hupd hhold hstep hover
    have honly := exec_only hrun
    obtain ⟨hfault, hctrl⟩ := s.rollbackFault_only u why
    generalize s.rollbackFault u why = v at *
    rw [State.rollback_of_standby (by rw [hctrl]; exact hstandby)] at hrun honly
    have hvsys : v.sys = s.sys := hfault.same .sys (by decide)
    have hback := v.rolledBack_spec u (by rw [hvsys, hhold]; decide)
    generalize v.rolledBack u = w at *
    have hcfg := hback.cfg.trans (hfault.same .cfg (by decide))
    have hwo : (w.handle u.handle).op = some o := by
      rw [State.handle_congr (hback.handle.trans (congrArg Mbx.handle (hfault.same .mbx (by decide))))]
      exact ho
    let x : State := { w with cfg := { w.cfg with update := none, fwStage := [] } }
    have hfin := x.finishOp_only u.handle .failed (rollbackStatus why)
    have hfctrl := State.ctrl_congr (hfin.same .ctl (by decide))
    obtain ⟨hself, -⟩ := State.finishOp_spec (s := x) .failed (rollbackStatus why) (State.handle_lt ho) hwo
    refine ⟨_, hrun, (congrArg Sys.hold (hfin.same .sys (by decide))).trans hback.hold, ?_, ?_,
      (congrArg Ctl.activeId (hfin.same .ctl (by decide))).trans hback.activeId,
      (congrArg Ctl.takeover (hfin.same .ctl (by decide))).trans hback.takeover, (hfin.same .cfg (by decide)).trans ?_,
      ⟨_, congrArg Handle.op hself, rfl, rfl, ?_⟩, honly⟩
    · exact (congrArg Ctrl.st (hfctrl _)).trans hback.new
    · exact (congrArg Ctrl.st (hfctrl _)).trans hback.old
    · change ({ w.cfg with update := none, fwStage := [] } : Cfg) = _
      rw [hcfg]
    · cases why <;> rfl

end Sys2Proof.Machine
end

section
/-! SUPPORT. The debug executor (R303, R280). -/
namespace Sys2Proof.Machine
open Sys2Proof.Safety

/-- A debug command that answers. -/
theorem State.submit_debug {s t : State} {op : Nat} {c : Cmd} {q : Req} {r : Reply} (hop : op < 65536) (hready : readyDebug s op q = true)
    (hc : c q (posted s op q) = .done r t) : s.submit op c q = t.answer q.mbx r := by
  rw [State.submit_of_readyDebug c hop hready, hc]
  rfl

/-- A debug request's space, address and count stand. -/
theorem debugRange_of_ok {q : Req} (hspace : q.u8 0 ≤ 1) (haddr : q.le 4 4 % 4 = 0) (hcount : q.le 8 2 % 4 = 0) (hlow : 4 ≤ q.le 8 2)
    (hhigh : q.le 8 2 ≤ 224) (hend : q.u8 0 = 0 → q.le 4 4 + q.le 8 2 ≤ 4194304) : debugRange q = none := by
  rw [debugRange]
  rw [if_neg (by omega), if_neg (by omega), if_neg (by omega), if_neg fun h => absurd (hend h.1) (by omega)]

/-! ### The fabric while a request is served -/

theorem State.hmWord_posted (s : State) (op : Nat) (q : Req) (off : Nat) : (posted s op q).hmWord off = s.hmWord off := by
  have heval : (posted s op q).evalNow.hm = s.evalNow.hm := State.evalNow_hm_congr rfl rfl
  unfold State.hmWord
  rw [heval]
  rfl

/-- No register tells that a request is being served. -/
theorem State.fabRead_posted (s : State) (op : Nat) (q : Req) (a : Nat) : (posted s op q).fabRead a = s.fabRead a := by
  unfold State.fabRead
  cases regAt a with
  | none => rfl
  | some x =>
    cases x with
    | rgn b r off => rfl
    | glob b off =>
      simp only [State.regRead, State.hmWord_posted]
      rfl

/-! ### Bytes of Sirocco's working data -/

theorem placeOf_working {a : Nat} (hlow : 0x3CC000 ≤ a) (hhigh : a < 0x3FC000) : placeOf a = .working := by
  unfold placeOf
  repeat rw [if_neg (by omega)]
  exact if_pos hhigh

/-- A byte written where the spec gives no layout is kept as it is. -/
theorem State.oasisPut_of_working (s : State) {a : Nat} (v : Byte) (hlow : 0x3CC000 ≤ a) (hhigh : a < 0x3FC000) :
    s.oasisPut a v = s.putRaw a v := by
  rw [State.oasisPut, placeOf_working hlow hhigh]
  rfl

theorem State.oasisByte_of_raw {s : State} {a : Nat} {v : Byte} (hlow : 0x3CC000 ≤ a) (hhigh : a < 0x3FC000)
    (h : Map.get 0 s.ctl.raw a = v.toNat + 1) : s.oasisByte a = v := by
  have hraw : s.oasisByte a = s.rawByte a := by
    rw [State.oasisByte, placeOf_working hlow hhigh]
    rfl
  rw [hraw, State.rawByte, h]
  simp

/-- What holds once bytes have been put into Sirocco's working data one after the other. -/
structure State.BytesPut (s t : State) (a n : Nat) (v : Nat → Byte) : Prop where
  wf : Map.wf 0 t.ctl.raw = true
  raw : ∀ i < n, Map.get 0 t.ctl.raw (a + i) = (v i).toNat + 1
  poison : t.ctl.poison = s.ctl.poison
  only : Only [.ctl] s t

theorem State.only_ctl (s : State) (x : Ctl) : Only [.ctl] s { s with ctl := x } :=
  ⟨fun g hg => by cases g with
    | ctl => exact absurd (List.mem_singleton_self _) hg
    | _ => rfl⟩

theorem State.bytesPut_spec {s : State} {a n : Nat} (v : Nat → Byte) (hwf : Map.wf 0 s.ctl.raw = true) (hlow : 0x3CC000 ≤ a)
    (hhigh : a + n ≤ 0x3FC000) : State.BytesPut s ((List.range n).foldl (fun t i => t.oasisPut (a + i) (v i)) s) a n v := by
  induction n with
  | zero => exact ⟨hwf, fun i hi => absurd hi (Nat.not_lt_zero i), rfl, (Keeps.refl s).only⟩
  | succ n ih =>
    have h := ih (by omega)
    rw [List.range_succ, List.foldl_append, List.foldl_cons, List.foldl_nil]
    generalize (List.range n).foldl (fun t i => t.oasisPut (a + i) (v i)) s = t at *
    rw [t.oasisPut_of_working (v n) (by omega) (by omega)]
    refine ⟨Map.put_wf (a + n) ((v n).toNat + 1) h.wf, fun i hi => ?_, h.poison, h.only.trans (t.only_ctl _)⟩
    rcases Nat.lt_succ_iff_lt_or_eq.1 hi with hlt | rfl
    · exact (Map.get_put_ne (j := a + i) (k := a + n) 0 t.ctl.raw ((v n).toNat + 1) (by omega)).trans (h.raw i hlt)
    · exact Map.get_put_self 0 (a + i) ((v i).toNat + 1) (Map.wf_rising h.wf)

/-- The marks of poison that a write of whole words takes away. -/
def State.unpoisoned (s : State) (a n : Nat) : State :=
  { s with ctl := { s.ctl with poison := s.ctl.poison.filter fun w => !decide (a ≤ 8 * w ∧ 8 * w + 8 ≤ a + n) } }

/-- Settles O36: each debug command is its own equation on the request's state; bytes put into the working data are read from there. -/
theorem theDebugExecutor : Obligations.TheDebugExecutor := by
  refine ⟨fun q c s hready hact => ?halt, fun q s hready hact => ?noHalt, fun q c s hready hhalted => ?resume,
    fun q s hreg hready hone => ?restart, fun q s hready hspace haddr hcount hlow hhigh => ?fabric,
    fun q s hready hspace haddr hcount hlow hhigh hend hclean => ?bytes, fun q w s hready hspace haddr hcount hlow hhigh hend hbad => ?poisoned,
    fun q s hready hspace haddr hcount hok => ?write, fun q s hwf hready hspace haddr hcount hlow hhigh hfrom hend => ?put⟩
  case halt =>
    let u : State := (posted s 0x0C12 q).modCtrl c fun x => { x with st := .halted }
    have hcmd : cmdCtrlHalt q (posted s 0x0C12 q) = .done okReply (u.enterHold 5) := by
      have hact' : (posted s 0x0C12 q).active = some c := hact
      rw [cmdCtrlHalt, hact']
    have hent := u.enterHold_spec 5
    have hctrl := State.ctrl_congr (hent.only.same .ctl (by decide))
    have hu : Only [.mbx, .ctl] s u :=
      (Keeps.modCtrl_keeps (by decide) (Keeps.modBox_keeps (by decide) (Keeps.refl s) q.mbx _) c _).only
    refine ⟨_, congrArg Host.Outcome.next (State.submit_debug (by decide) hready hcmd), ?_, ?_, ?_,
      (hu.mono (by decide)).trans (hent.only.mono (by decide))⟩
    · rw [hctrl, State.ctrl_modCtrl]
    · rw [hctrl, State.ctrl_modCtrl_not]
      rfl
    · rw [hent.sys]
      rfl
  case noHalt =>
    refine congrArg Host.Outcome.next (State.submit_debug (by decide) hready ?_)
    have hact' : (posted s 0x0C12 q).active = none := hact
    rw [cmdCtrlHalt, hact']
    rfl
  case resume =>
    refine congrArg Host.Outcome.next (State.submit_debug (by decide) hready ?_)
    have hhalted' : (posted s 0x0C13 q).haltedCtrl = some c := hhalted
    rw [cmdCtrlResume, hhalted']
    rfl
  case restart =>
    intro c hst
    let u : State := (posted s 0x0C14 q).modCtrl c fun x => { x with
      st := .loading, copying := false, verified := false, loadFrom := none, bootFail := false, hbSrc := 0
      wasRetired := x.wasRetired || decide ((s.ctrl c).st = .retired) }
    have hcmd : cmdCtrlRestart q (posted s 0x0C14 q) = .done okReply (u.tear (xId 3 (if c then 5 else 3)) false) := by
      rw [cmdCtrlRestart]
      dsimp only
      rw [if_neg (by omega)]
      refine if_neg fun h => ?_
      exact hst.elim (absurd · h.1) (absurd · h.2)
    have htear := (Keeps.tear_keeps (List.Subset.refl _) (Keeps.refl u) (xId 3 (if c then 5 else 3)) false).only
    have hctrl := State.ctrl_congr (htear.same .ctl (by decide))
    have huxg : u.xg = s.xg := (State.modCtrl_xg _ _ _).trans rfl
    have huself : u.ctrl c = { s.ctrl c with
        st := .loading, copying := false, verified := false, loadFrom := none, bootFail := false, hbSrc := 0
        wasRetired := (s.ctrl c).wasRetired || decide ((s.ctrl c).st = .retired) } := State.ctrl_modCtrl _ _ _
    have huother : u.ctrl (!c) = s.ctrl (!c) := State.ctrl_modCtrl_not _ _ _
    have hu : Only [.mbx, .ctl] s u :=
      (Keeps.modCtrl_keeps (by decide) (Keeps.modBox_keeps (by decide) (Keeps.refl s) q.mbx _) c _).only
    have hclass : xClass (xId 3 (if c then 5 else 3)) ≠ 9 := by cases c <;> decide
    obtain ⟨-, -, htorn⟩ := u.xing_tear (id := xId 3 (if c then 5 else 3)) false hclass (by rw [huxg]; exact hreg.crossings)
    rw [State.xing_congr (congrArg Xg.x huxg)] at htorn
    exact ⟨_, congrArg Host.Outcome.next (State.submit_debug (by decide) hready hcmd), by rw [hctrl, huself], by rw [hctrl, huself],
      by rw [hctrl, huself], by rw [hctrl, huself], by rw [hctrl, huother], htorn, (hu.mono (by decide)).trans (htear.mono (by decide))⟩
  case fabric =>
    refine congrArg Host.Outcome.next (State.submit_debug (by decide) hready ?_)
    rw [cmdDebugRead, debugRange_of_ok (by omega) haddr hcount hlow hhigh fun h => by omega]
    dsimp only
    rw [if_neg (by omega), State.fabWords]
    simp only [State.fabRead_posted]
  case bytes =>
    refine congrArg Host.Outcome.next (State.submit_debug (by decide) hready ?_)
    rw [cmdDebugRead, debugRange_of_ok (by omega) haddr hcount hlow hhigh fun _ => hend]
    dsimp only
    rw [if_pos hspace, hclean]
    rfl
  case poisoned =>
    refine congrArg Host.Outcome.next (State.submit_debug (by decide) hready ?_)
    rw [cmdDebugRead, debugRange_of_ok (by omega) haddr hcount hlow hhigh fun _ => hend]
    dsimp only
    rw [if_pos hspace, hbad]
    rfl
  case write =>
    refine congrArg Host.Outcome.next (State.submit_debug (by decide) hready ?_)
    have hnone : ((List.range 1).find? fun i => !(posted s 0x0C11 q).debugAccepts (q.le 4 4 + 4 * i) (word (q.le (16 + 4 * i) 4))) = none := by
      rw [List.find?_eq_none]
      intro i hi
      obtain rfl : i = 0 := by simpa using hi
      simpa using hok
    rw [cmdDebugWrite, debugRange_of_ok (by omega) haddr (by omega) (by omega) (by omega) fun h => by omega]
    dsimp only
    rw [if_neg (by omega), hcount, hnone]
    rfl
  case put =>
    have hput := State.bytesPut_spec (s := posted s 0x0C11 q) (fun i => BitVec.ofNat 8 (q.u8 (16 + i))) hwf hfrom hend
    have hcmd : cmdDebugWrite q (posted s 0x0C11 q) = .done okReply (State.unpoisoned ((List.range (q.le 8 2)).foldl (fun t i =>
        t.oasisPut (q.le 4 4 + i) (BitVec.ofNat 8 (q.u8 (16 + i)))) (posted s 0x0C11 q)) (q.le 4 4) (q.le 8 2)) := by
      rw [cmdDebugWrite, debugRange_of_ok (by omega) haddr hcount hlow hhigh fun h => by omega]
      exact if_pos hspace
    generalize (List.range (q.le 8 2)).foldl (fun t i => t.oasisPut (q.le 4 4 + i) (BitVec.ofNat 8 (q.u8 (16 + i)))) (posted s 0x0C11 q) = t at *
    refine ⟨_, congrArg Host.Outcome.next (State.submit_debug (by decide) hready hcmd), hput.wf,
      fun i hi => State.oasisByte_of_raw (by omega) (by omega) (hput.raw i hi), fun w hw => ?_,
      ((posted_only s 0x0C11 q).mono (by decide)).trans ((hput.only.trans (t.only_ctl _)).mono (by decide))⟩
    obtain ⟨hmem, hout⟩ := List.mem_filter.1 hw
    rw [hput.poison] at hmem
    exact ⟨hmem, by rwa [Bool.not_eq_true', decide_eq_false_iff_not] at hout⟩

end Sys2Proof.Machine
end

section
/-! SUPPORT. Oasis (R286-R288, Table 10-5) and the event log (R414, R415, R337). -/
namespace Sys2Proof.Machine
open Sys2Proof.Safety

/-! ### Scrubs and spare rows -/

/-- One more word of the scrubber's pass. -/
def State.wordScrubbed (s : State) : State :=
  { s with ctl := { s.ctl with
    scrubbed := if s.ctl.scrubbed + 1 < oasisWords then s.ctl.scrubbed + 1 else 0
    passes := if s.ctl.scrubbed + 1 < oasisWords then s.ctl.passes else s.ctl.passes + 1 } }

theorem exec_oasisScrub {s : State} (w : Fin 524288) (corrected : Bool) (hreset : s.sys.pkgReset = false) (hwait : s.xg.arb.wait = []) :
    exec (.oasisScrub w corrected) s = .next (if corrected then s.corrected w else s).wordScrubbed := by
  have hrun : exec (.oasisScrub w corrected) s = execOasisScrub w corrected s := rfl
  rw [hrun, execOasisScrub, if_neg (by simp [hreset, hwait])]
  rfl

/-- The row's sparing answered: its errors are forgotten. -/
def State.rowAnswered (s : State) (row : Nat) : State :=
  { s with ctl := { s.ctl with rowCe := Map.put [] s.ctl.rowCe row [], rowUe := s.ctl.rowUe.filter (· ≠ row) } }

theorem exec_oasisRowSpare {s : State} {row : Fin 1024} (hen : bitOf s.ctl.ctrl 1 = true) (hfw : s.fw = true)
    (hworn : s.rowWorn row = true ∨ row.val ∈ s.ctl.rowUe) : exec (.oasisRowSpare row) s = .next (match s.freeRow (row.val % 16) with
      | none => (s.rowAnswered row).raise evSpareExhausted (6 + at_ (row.val % 16) 16)
      | some j => ({ s.rowAnswered row with ctl := { (s.rowAnswered row).ctl with
          spareUse := s.ctl.spareUse ||| word (2 ^ (2 * (row.val % 16) + j))
          spared := sat16 s.ctl.spared 1
          rowMap := Map.put 0 s.ctl.rowMap row (2 * (row.val % 16) + j + 1) } } : State).raise evOasisRowSpared (512 * row.val)) := by
  have hrun : exec (.oasisRowSpare row) s = execOasisRowSpare row s := rfl
  have hgo : ¬ ((!bitOf s.ctl.ctrl 1) = true ∨ (!s.fw) = true ∨ (!(s.rowWorn row || s.ctl.rowUe.contains row.val)) = true) := by
    rcases hworn with h | h <;> simp [hen, hfw, h]
  rw [hrun, execOasisRowSpare, if_neg hgo, bankOf]
  dsimp only
  cases s.freeRow (row.val % 16) <;> rfl

theorem State.raise_ctl (s : State) (id arg : Nat) : (s.raise id arg).ctl = s.ctl :=
  (Keeps.raise_keeps (List.Subset.refl _) (Keeps.refl s) id arg).only.same .ctl (by decide)

theorem State.raise_only (s : State) (id arg : Nat) : Only [.ev] s (s.raise id arg) :=
  (Keeps.raise_keeps (List.Subset.refl _) (Keeps.refl s) id arg).only

theorem not_mem_filter_ne (l : List Nat) (x : Nat) : x ∉ l.filter (· ≠ x) := fun h => absurd rfl (of_decide_eq_true (List.mem_filter.1 h).2)

/-! ### Uncorrectable words -/

/-- An uncorrectable word noted. -/
def State.ueNoted (s : State) (w : Nat) : State :=
  { s with ctl := { s.ctl with
    ue := sat16 s.ctl.ue 1, lastErr := word (2 ^ 31 + w), poison := addKey w s.ctl.poison, rowUe := addKey (w / 512) s.ctl.rowUe } }

theorem exec_oasisUe {s : State} (w : Fin 524288) (hreset : s.sys.pkgReset = false) :
    exec (.oasisUe w) s = .next (((s.ueNoted w).raise evOasisUe w).wordLost (placeOf (8 * w.val))) :=
  if_neg (by simp [hreset])

/-- An uncorrectable word noted and told: the rest of the state stays. -/
structure State.UeTold (s t : State) (w : Nat) : Prop where
  ctl : t.ctl = (s.ueNoted w).ctl
  ev : t.ev = (s.raise evOasisUe w).ev
  only : Only [.ctl, .ev] s t

theorem State.ueTold_spec (s : State) (w : Nat) : State.UeTold s ((s.ueNoted w).raise evOasisUe w) w :=
  ⟨State.raise_ctl _ _ _, State.raise_ev_congr _ _ rfl rfl rfl,
    ((s.only_ctl _).mono (by decide)).trans (((s.ueNoted w).raise_only _ _).mono (by decide))⟩

theorem State.complete_only (s : State) (m : Fin 8) (r : Reply) : Only [.mbx] s (s.complete m r) :=
  (Keeps.complete_keeps (List.Subset.refl _) (Keeps.refl s) m r).only

/-- A broken anchor's entry is free, of the next generation. -/
theorem State.anchor_breakAnchor (s : State) (i : Nat) (hwf : Map.wf {} s.et.anchors = true) :
    (s.breakAnchor i).anchor i = { gen := (s.anchor i).gen + 1 } := by
  unfold State.breakAnchor
  dsimp only
  have hraise := (Keeps.raiseIf_keeps (List.Subset.refl _) (Keeps.refl s) (decide (i < 1024)) evAnchorBroken (s.anchorArg i)).only
  have het : _ = s.et := hraise.same .et (by decide)
  generalize s.raiseIf (decide (i < 1024)) evAnchorBroken (s.anchorArg i) = u at *
  have hfree := u.anchor_freeAnchor i (by rw [het]; exact hwf)
  rw [State.anchor_congr het i] at hfree
  rw [← hfree]
  refine List.foldlRecOn (motive := fun t : State => t.anchor i = (u.freeAnchor i).anchor i) _ _ rfl fun t ht m _ => ?_
  have hanswer (c : Prop) [Decidable c] (r : Reply) : (if c then t.complete m r else t).anchor i = (u.freeAnchor i).anchor i := by
    split
    · exact (State.anchor_congr ((t.complete_only m _).same .et (by decide)) i).trans ht
    · exact ht
  cases (t.box m).wait with
  | none => exact ht
  | some w => exact hanswer _ _

/-- A noted loss asks for captures: the ring stays. -/
theorem State.lossNoted_et (s : State) (r : RegionNo) : (s.lossNoted r).et = { s.et with loss := sat16 s.et.loss 1 } := by
  unfold State.lossNoted
  dsimp only
  exact (Keeps.foldl (gs := [.reg]) (fun _ _ h => Keeps.sendMsg_keeps (List.Subset.refl _) h r _)
    (Keeps.refl ({ s with et := { s.et with loss := sat16 s.et.loss 1 } } : State))).only.same .et (by decide)

/-! ### Events -/

theorem State.raise_eq {s : State} {id sev : Nat} (arg : Nat) (hepoch : s.sys.epoch = true) (hsev : sevOf id = some sev) :
    s.raise id arg = { s with ev := s.ev.raise s.now id sev (word arg) } := by
  rw [State.raise, if_pos hepoch, hsev]

theorem exec_eventRaise_of_known {s : State} {id : BitVec 10} {sev : Nat} (arg : Word) (hepoch : s.sys.epoch = true) (hsev : sevOf id.toNat = some sev) :
    exec (.eventRaise id arg) s = .next { s with ev := s.ev.raise s.now id.toNat sev arg } := by
  rw [exec_eventRaise, State.raise_eq _ hepoch hsev, show word arg.toNat = arg by simp [word]]

theorem State.only_ev (s : State) (x : Ev) : Only [.ev] s { s with ev := x } :=
  ⟨fun g hg => by cases g with
    | ev => exact absurd (List.mem_singleton_self _) hg
    | _ => rfl⟩

/-- An event that merges into none enters by itself. -/
theorem Ev.raise_of_new {v : Ev} {now id sev : Nat} {arg : Word} (h : ∀ e, v.last = some e → e.merges now id arg = false) :
    v.raise now id sev arg = v.enter ⟨now, id, sev, 1, arg⟩ := by
  unfold Ev.raise
  split
  next e he => exact if_neg (by simp [h e he])
  next => rfl

theorem Ev.refill_of_no_latch (n : Nat) {v : Ev} (h : v.latch = []) : v.refill n = v := by
  cases n with
  | zero => rfl
  | succ n => rw [Ev.refill, h]

/-- With room and nothing latched, an event of any severity joins the queue. -/
theorem Ev.enter_of_room {v : Ev} {e : Event} (hroom : v.queue.length < 48) (hlatch : v.latch = []) :
    v.enter e = { v with queue := v.queue ++ [e], newest := 0 } := by
  unfold Ev.enter
  split
  · exact if_pos hroom
  · have hsize : v.queue.length < ingressSize := Nat.lt_trans hroom (by decide)
    simp only [if_pos hsize, Ev.refill_of_no_latch ingressSize hlatch]

theorem modLast_append (f : Event → Event) (es : List Event) (e : Event) : modLast f (es ++ [e]) = es ++ [f e] := by
  induction es with
  | nil => rfl
  | cons x xs ih =>
    cases xs with
    | nil => rfl
    | cons y ys => exact congrArg (x :: ·) ih

/-- Settles O37: Oasis's commands are their own equations, an uncorrectable word's partition takes its consequence after it is told, and
the queue and the log of events follow their capacity. -/
theorem oasisAndEventLog : Obligations.OasisAndEventLog := by
  refine ⟨fun w corrected s hwait => ?waits, fun w s hreset hwait => ?scrub, fun w s hreset hwait => ?corrected,
    fun row j s hen hfw hworn hfree => ?spare, fun row s hen hfw hworn hfree => ?noSpare, fun w s hreset => ?ue,
    fun id arg sev s hepoch hsev hnew hroom hlatch => ?enters, fun id arg sev es e s hepoch hsev hnewest hqueue hid harg hnow => ?again,
    fun id arg sev s hepoch hsev hlow hnew hfull => ?dropped, fun e es s hepoch hqueue hlatch hturn => ?writes, fun s hnone => ?noWrite,
    fun q s hready hlow hhigh => ?reads, fun q s hready hbad => ?badRead⟩
  case waits => exact if_pos (.inr (by simp [hwait]))
  case scrub =>
    exact ⟨_, exec_oasisScrub w false hreset hwait, rfl, s.only_ctl _⟩
  case corrected =>
    refine ⟨_, exec_oasisScrub w true hreset hwait, rfl, rfl, fun hwf => ?_, rfl, (s.only_ctl _).trans (State.only_ctl _ _)⟩
    exact Map.get_put_self [] (w.val / 512) ((s.now :: Map.get [] s.ctl.rowCe (w.val / 512)).take 255) (Map.wf_rising hwf)
  case spare =>
    have hrun := exec_oasisRowSpare hen hfw hworn
    rw [hfree] at hrun
    dsimp only at hrun
    have hctl := State.raise_ctl ({ s.rowAnswered row with ctl := { (s.rowAnswered row).ctl with
          spareUse := s.ctl.spareUse ||| word (2 ^ (2 * (row.val % 16) + j))
          spared := sat16 s.ctl.spared 1
          rowMap := Map.put 0 s.ctl.rowMap row (2 * (row.val % 16) + j + 1) } }) evOasisRowSpared (512 * row.val)
    refine ⟨_, hrun, by rw [hctl], by rw [hctl], by rw [hctl]; exact not_mem_filter_ne _ _, fun hwf => ?_, by rw [hctl]; rfl,
      State.raise_ev_congr _ _ rfl rfl rfl, exec_only hrun⟩
    rw [hctl]
    exact Map.get_put_self 0 row.val (2 * (row.val % 16) + j + 1) (Map.wf_rising hwf)
  case noSpare =>
    have hrun := exec_oasisRowSpare hen hfw hworn
    rw [hfree] at hrun
    dsimp only at hrun
    have hctl := State.raise_ctl (s.rowAnswered row) evSpareExhausted (6 + at_ (row.val % 16) 16)
    refine ⟨_, hrun, by rw [hctl]; rfl, by rw [hctl]; rfl, by rw [hctl]; exact not_mem_filter_ne _ _, by rw [hctl]; rfl, ?_, exec_only hrun⟩
    have harg : 6 + at_ (row.val % 16) 16 = 6 + 65536 * (row.val % 16) := by rw [at_]; omega
    rw [harg]
    exact State.raise_ev_congr _ _ rfl rfl rfl
  case ue =>
    have hrun := exec_oasisUe w hreset
    have htold := s.ueTold_spec w
    refine ⟨fun hplace => ?nothing, fun i o hplace hused hreg => ?anchor, fun m o bs hplace hspill ho => ?spill,
      fun k hplace hk => ?forecast, fun i o x hplace hx hreg => ?ledger⟩
    case nothing =>
      rw [hrun]
      rcases hplace with ⟨o, h⟩ | h | h | ⟨i, o, h⟩ | ⟨o, h⟩ <;> (rw [h]; rfl)
    all_goals
      rw [hplace] at hrun
      generalize (s.ueNoted w).raise evOasisUe w = u at *
    case anchor =>
      have hanchor := State.anchor_congr (htold.only.same .et (by decide)) i
      have hlost : u.wordLost (.anchor i o) = u.breakAnchor i := if_neg (by rw [hanchor]; exact hused)
      have hbreak := (Keeps.breakAnchor_keeps (List.Subset.refl _) (Keeps.refl u) i).only
      rw [hlost] at hrun
      refine ⟨_, hrun, (hbreak.same .ctl (by decide)).trans htold.ctl, ?_⟩
      rw [u.anchor_breakAnchor i (by rw [htold.only.same .et (by decide)]; exact hreg.anchors), hanchor]
    case spill =>
      have hbox : u.box m = s.box m := State.box_congr (congrArg Mbx.box (htold.only.same .mbx (by decide))) m
      have hlost : u.wordLost (.spill m o) = u.modBox m fun b => { b with spill := none, spillLost := true } := by
        simp only [State.wordLost, hbox, hspill]
        exact if_pos ho
      have hmod := (Keeps.modBox_keeps (List.Subset.refl _) (Keeps.refl u) m fun b => { b with spill := none, spillLost := true }).only
      rw [hlost] at hrun
      refine ⟨_, hrun, htold.ctl, ?_, htold.ev, (htold.only.mono (by decide)).trans (hmod.mono (by decide))⟩
      rw [State.box_modBox, hbox]
    case forecast =>
      have hhm : u.hm = s.hm := htold.only.same .hm (by decide)
      have hpos : u.queuePos k = s.queuePos k := by rw [State.queuePos, hhm, State.queuePos]
      have hlost : u.wordLost (.forecast k) = { u with hm := { u.hm with
          queue := u.hm.queue.eraseIdx (u.queuePos k), reject := sat16 u.hm.reject 1 } } :=
        if_pos (by rw [hpos, hhm]; exact hk)
      rw [hlost] at hrun
      refine ⟨_, hrun, htold.ctl, ?_, htold.ev, (htold.only.mono (by decide)).trans ((u.only_hm _).mono (by decide))⟩
      rw [hpos, hhm]
    case ledger =>
      have het : u.et = s.et := htold.only.same .et (by decide)
      have hwin : u.win = s.win := congrArg (fun x : Sys => x.erg / 256) (htold.only.same .sys (by decide))
      let v : State := { u with et := { u.et with
        ring := Map.put none u.et.ring i (some (lrec x.region.toNat kLoss 0 x.cycle.toNat u.win)) } }
      have hlost : u.wordLost (.ledger i o) = v.lossNoted x.region.toNat := by
        have hring : u.ringAt i = some x := by rw [State.ringAt, het]; exact hx
        simp only [State.wordLost, hring]
        rfl
      have hloss := v.lossNoted_et x.region.toNat
      have hkeeps := (Keeps.lossNoted_keeps (List.Subset.refl _) (Keeps.refl v) x.region.toNat).only
      rw [hlost] at hrun
      refine ⟨_, hrun, (hkeeps.same .ctl (by decide)).trans htold.ctl, ?_, ?_, (hkeeps.same .ev (by decide)).trans htold.ev,
        (htold.only.mono (by decide)).trans (((u.only_et _).mono (by decide)).trans (hkeeps.mono (by decide)))⟩
      · rw [State.ringAt, hloss]
        have hring : Map.rising u.et.ring = true := by
          rw [het]
          exact Map.wf_rising hreg.ring
        refine (Map.get_put_self none i (some (lrec x.region.toNat kLoss 0 x.cycle.toNat u.win)) hring).trans ?_
        rw [hwin]
      · rw [hloss]
        change sat16 u.et.loss 1 = _
        rw [het]
  case enters =>
    refine ⟨_, exec_eventRaise_of_known arg hepoch hsev, ?_, s.only_ev _⟩
    exact (Ev.raise_of_new hnew).trans (Ev.enter_of_room hroom hlatch)
  case again =>
    refine ⟨_, exec_eventRaise_of_known arg hepoch hsev, ?_, s.only_ev _⟩
    have hlast : s.ev.last = some e := by
      rw [Ev.last, if_pos hnewest, hqueue, List.getLast?_concat]
    have hmerges : e.merges s.now id.toNat arg = true := by simp [Event.merges, hid, harg, hnow]
    change s.ev.raise s.now id.toNat sev arg = _
    rw [Ev.raise, hlast]
    dsimp only
    rw [if_pos hmerges, if_pos hnewest, hqueue, modLast_append]
    rfl
  case dropped =>
    refine ⟨_, exec_eventRaise_of_known arg hepoch hsev, (Ev.raise_of_new hnew).trans ?_, s.only_ev _⟩
    rw [Ev.enter, if_pos hlow]
    exact if_neg (Nat.not_lt.2 hfull)
  case writes =>
    let x : Ev := if logSize ≤ s.ev.log.length then s.ev.dropped else s.ev
    have hdrain : s.ev.drain = { x with
        queue := es, log := (⟨x.seq, e⟩ :: x.log).take logSize, seq := x.seq + 1
        newest := if es.isEmpty && x.newest = 0 then 1 else x.newest } := by
      rw [Ev.drain, hqueue]
      dsimp only
      refine (Ev.refill_of_no_latch _ ?_).trans ?_
      · split <;> exact hlatch
      · simp only [x, decide_eq_true_eq]
    have hx : x = { s.ev with overrun := if s.ev.log.length < 16384 then s.ev.overrun else min 0xFFFFFFFF (s.ev.overrun + 1) } := by
      by_cases hfull : s.ev.log.length < 16384
      · rw [if_pos hfull]
        exact if_neg (Nat.not_le.2 hfull)
      · rw [if_neg hfull]
        exact if_pos (Nat.not_lt.1 hfull)
    have hrun : exec .eventLogWrite s = .next { s with
        ev := { s.ev.drain with turn := false }
        ctl := { s.ctl with poison := s.ctl.poison.filter fun w => !(logWords s.ev.seq).contains w } } :=
      if_neg (by simp [hepoch, hqueue, hturn])
    clear_value x
    refine ⟨_, hrun, ?_, rfl, ?_, ?_, ?_, exec_only hrun⟩
    · rw [hdrain]
    · rw [hdrain, hx]
      rfl
    · rw [hdrain, hx]
    · rw [hdrain, hx]
  case noWrite =>
    refine if_pos (.inr ?_)
    rcases hnone with h | h <;> simp [h]
  case reads =>
    refine congrArg Host.Outcome.next (State.submit_done (by decide) hready ?_)
    rw [cmdEventRead]
    exact if_neg (by omega)
  case badRead =>
    refine congrArg Host.Outcome.next (State.submit_done (by decide) hready ?_)
    rw [cmdEventRead]
    exact if_pos hbad

end Sys2Proof.Machine
end

section
/-! SUPPORT. What calls for calibration, and when (R229, R234, R238-R245). -/
namespace Sys2Proof.Machine
open Sys2Proof.Safety

/-! ### Every region once -/

theorem siteRegions_nodup (site : Nat) : (siteRegions site).Nodup :=
  List.nodup_range.map fun a b h => by simpa [regionNo] using h

theorem allRegions_nodup : allRegions.Nodup := by
  refine List.nodup_flatMap.2 ⟨fun site _ => siteRegions_nodup site, ?_⟩
  refine List.nodup_range.imp fun {a b} hne r ha hb => hne ?_
  rw [← siteOf_of_mem_siteRegions ha, siteOf_of_mem_siteRegions hb]

theorem mem_siteRegions_of_valid {r : RegionNo} (h : validRegion r = true) : r ∈ siteRegions (siteOf r) := by
  simp only [validRegion, Bool.and_eq_true, decide_eq_true_eq] at h
  refine List.mem_map.2 ⟨localOf r, List.mem_range.2 h.2, ?_⟩
  exact Nat.div_add_mod' r 2048

theorem mem_allRegions_of_valid {r : RegionNo} (h : validRegion r = true) : r ∈ allRegions := by
  refine List.mem_flatMap.2 ⟨siteOf r, List.mem_range.2 ?_, mem_siteRegions_of_valid h⟩
  simp only [validRegion, Bool.and_eq_true, decide_eq_true_eq] at h
  exact Nat.lt_succ_of_le h.1

/-! ### What calls for a region's calibration, looked at -/

/-- A request of a kind that is not DONE names the region. -/
def State.calAsked (s : State) (r : RegionNo) (k : OpKind) : Bool :=
  (List.range 32).any fun i => match s.calOp i with
    | some o => decide (o.kind = k) && o.left.contains r
    | none => false

/-- A region's dues and PHASE as its requests leave them. -/
def RgnCal.synced (c : RgnCal) (run test : Bool) : RgnCal :=
  { c with
    dueReq := run
    phase := if c.running then c.phase else if run || test then 2 else if (c.dueDrift || c.dueAge || run) || c.dueTest then 1 else 0 }

/-- What a look at a region's dues leaves. -/
structure State.CalSynced (s t : State) (r : RegionNo) : Prop where
  rgn : t.rgn r = { s.rgn r with cal := (s.rgn r).cal.synced (s.calAsked r .calRun) (s.calAsked r .selftestRun) }
  other : ∀ k, k ≠ r → t.rgn k = s.rgn k
  cal : t.cal = { s.cal with due :=
    if ((s.rgn r).cal.dueDrift || (s.rgn r).cal.dueAge || s.calAsked r .calRun) = true then addKey r s.cal.due else dropKey r s.cal.due }
  wf : t.RegWf
  only : Only [.reg, .cal] s t

/-- A region's DUE_REQ and its place in the list of those that are due, brought up to date. -/
def State.dueSet (s : State) (r : RegionNo) : State :=
  let u := s.modRgn r fun g => { g with cal := { g.cal with dueReq := s.calAsked r .calRun } }
  { u with cal := { u.cal with due :=
    if ((u.rgn r).cal.dueDrift || (u.rgn r).cal.dueAge || (u.rgn r).cal.dueReq) = true then addKey r u.cal.due else dropKey r u.cal.due } }

theorem State.calSync_eq (s : State) (r : RegionNo) : s.calSync r =
    if ((s.dueSet r).rgn r).cal.running then s.dueSet r
    else (s.dueSet r).modRgn r fun g => { g with cal := { g.cal with
      phase := if (((s.dueSet r).rgn r).cal.dueReq || s.calAsked r .selftestRun) = true then 2
        else if ((((s.dueSet r).rgn r).cal.dueDrift || ((s.dueSet r).rgn r).cal.dueAge || ((s.dueSet r).rgn r).cal.dueReq) ||
          ((s.dueSet r).rgn r).cal.dueTest) = true then 1 else 0 } } := rfl

theorem State.calSync_synced {s : State} (r : RegionNo) (hwf : s.RegWf) : State.CalSynced s (s.calSync r) r := by
  have honly := (Keeps.calSync_keeps (List.Subset.refl _) (Keeps.refl s) r).only
  have hwf' := (State.calSync_spec r hwf).1
  have hself : (s.dueSet r).rgn r = { s.rgn r with cal := { (s.rgn r).cal with dueReq := s.calAsked r .calRun } } :=
    s.rgn_modRgn r (fun g => { g with cal := { g.cal with dueReq := s.calAsked r .calRun } }) hwf
  have hw : (s.dueSet r).RegWf := s.modRgn_wf r (fun g => { g with cal := { g.cal with dueReq := s.calAsked r .calRun } }) hwf
  have hcal : (s.dueSet r).cal = { s.cal with due :=
      if ((s.rgn r).cal.dueDrift || (s.rgn r).cal.dueAge || s.calAsked r .calRun) = true then addKey r s.cal.due else dropKey r s.cal.due } := by
    have hset := s.rgn_modRgn r (fun g => { g with cal := { g.cal with dueReq := s.calAsked r .calRun } }) hwf
    rw [State.dueSet]
    simp only [hset]
    rfl
  have heq := s.calSync_eq r
  rw [hself] at heq
  generalize s.dueSet r = v at *
  refine ⟨?_, fun k hk => s.rgn_calSync_ne hk, ?_, hwf', honly⟩
  · rw [heq, RgnCal.synced]
    by_cases hrun : (s.rgn r).cal.running = true
    · exact (congrArg (State.rgn · r) (if_pos hrun)).trans (hself.trans (by rw [if_pos hrun]))
    · refine (congrArg (State.rgn · r) (if_neg hrun)).trans ((v.rgn_modRgn r _ hw).trans ?_)
      rw [hself, if_neg hrun]
  · rw [heq]
    split
    · exact hcal
    · exact hcal

/-! ### One region at a window boundary -/

/-- What a step of one region leaves: other regions, and of calibration all but the list of those that are due. -/
structure State.DueStep (s t : State) (r : RegionNo) : Prop where
  other : ∀ k, k ≠ r → t.rgn k = s.rgn k
  cal : t.cal = { s.cal with due := t.cal.due }
  due : ∀ k, k ≠ r → k ∈ s.cal.due → k ∈ t.cal.due
  wf : t.RegWf
  only : Only [.reg, .cal] s t

theorem State.DueStep.refl {s : State} (r : RegionNo) (hwf : s.RegWf) : State.DueStep s s r :=
  ⟨fun _ _ => rfl, rfl, fun _ _ h => h, hwf, (Keeps.refl s).only⟩

theorem State.DueStep.trans {s t u : State} {r : RegionNo} (h : State.DueStep s t r) (k : State.DueStep t u r) : State.DueStep s u r :=
  ⟨fun x hx => (k.other x hx).trans (h.other x hx), by rw [k.cal, h.cal], fun x hx hm => k.due x hx (h.due x hx hm), k.wf, h.only.trans k.only⟩

/-- A region's dues as drift and age leave them. -/
def Region.called (drift age : Bool) (g : Region) : Region :=
  { g with cal := { g.cal with dueDrift := g.cal.dueDrift || drift, dueAge := g.cal.dueAge || age } }

/-- The set that serves the region is past its age. -/
def State.aged (s : State) (r : RegionNo) : Bool := decide (s.calAge ≠ 0) && decide ((s.setFor r).ergLast + s.calAge < s.now)

theorem State.dueCheck_eq (s : State) (r : RegionNo) : s.dueCheck r =
    if !s.clocked r ∨ s.siteFenced (siteOf r) ∨ (s.rgn r).cal.running ∨ s.win < (s.rgn r).cal.holdOff ∨ !s.calAuto then s
    else if (decide (s.calDt < s.drift r) ∧ !(s.rgn r).cal.dueDrift) ∨ (s.aged r ∧ !(s.rgn r).cal.dueAge) then
      (s.modRgn r (Region.called (decide (s.calDt < s.drift r)) (s.aged r))).calSync r
    else s := rfl

theorem State.called_synced {s : State} (r : RegionNo) (drift age : Bool) (hwf : s.RegWf) :
    State.CalSynced (s.modRgn r (Region.called drift age)) ((s.modRgn r (Region.called drift age)).calSync r) r :=
  State.calSync_synced r (s.modRgn_wf r _ hwf)

theorem State.CalSynced.dueStep {s t : State} {r : RegionNo} (h : State.CalSynced s t r) : State.DueStep s t r := by
  refine ⟨h.other, by rw [h.cal], fun k hk hm => ?_, h.wf, h.only⟩
  rw [h.cal]
  dsimp only
  split
  · exact mem_addKey_iff.2 (.inr hm)
  · exact mem_dropKey_iff.2 ⟨hm, hk⟩

theorem State.modRgn_dueStep {s : State} (r : RegionNo) (f : Region → Region) (hwf : s.RegWf) : State.DueStep s (s.modRgn r f) r :=
  ⟨fun _ hk => s.rgn_modRgn_ne f hk, rfl, fun _ _ h => h, s.modRgn_wf r f hwf,
    (Keeps.modRgn_keeps (by decide) (Keeps.refl s) r f).only⟩

theorem State.dueCheck_dueStep {s : State} (r : RegionNo) (hwf : s.RegWf) : State.DueStep s (s.dueCheck r) r := by
  rw [State.dueCheck_eq]
  split
  · exact .refl r hwf
  · split
    · exact (State.modRgn_dueStep r _ hwf).trans (State.called_synced r _ _ hwf).dueStep
    · exact .refl r hwf

/-- The temperature has moved by 4 codes from that of the set sent last, or none has been sent. -/
def Region.setMoved (g : Region) (T : Int) : Bool :=
  match g.lastSet with
  | none => true
  | some w => decide (4 ≤ (T - w.temp).natAbs)

theorem State.workingSet_of_none {s : State} {r : RegionNo} (h : s.regionTemp r = none) : s.workingSet r = s := by
  rw [State.workingSet, h]

theorem State.workingSet_of_some {s : State} {r : RegionNo} {T : Int} (h : s.regionTemp r = some T) : s.workingSet r =
    if s.cal.seeded ∧ ((s.rgn r).wsDue ∨ (s.rgn r).setMoved T) then
      if s.xState (xId 4 r) = .whole then
        (s.modRgn r fun g => { g with wsDue := false }).sendMsg r (.calset ((s.setFor r).work T) (s.setFor r).vref)
      else s.modRgn r fun g => { g with wsDue := true }
    else s := by
  rw [State.workingSet, h]
  rfl

theorem State.workingSet_dueStep {s : State} (r : RegionNo) (hwf : s.RegWf) : State.DueStep s (s.workingSet r) r := by
  have hcal := s.workingSet_cal r
  have honly := (Keeps.workingSet_keeps (gs := [.reg, .cal]) (by decide) (Keeps.refl s) r).only
  have hregion : (∀ k, k ≠ r → (s.workingSet r).rgn k = s.rgn k) ∧ (s.workingSet r).RegWf := by
    cases ht : s.regionTemp r with
    | none => rw [State.workingSet_of_none ht]; exact ⟨fun _ _ => rfl, hwf⟩
    | some T =>
      rw [State.workingSet_of_some ht]
      split
      · split
        · exact ⟨fun k hk => (State.rgn_sendMsg_ne _ _ hk).trans (s.rgn_modRgn_ne _ hk), State.sendMsg_wf r _ (s.modRgn_wf r _ hwf)⟩
        · exact ⟨fun k hk => s.rgn_modRgn_ne _ hk, s.modRgn_wf r _ hwf⟩
      · exact ⟨fun _ _ => rfl, hwf⟩
  exact ⟨hregion.1, by rw [hcal], fun _ _ h => by rw [hcal]; exact h, hregion.2, honly⟩

/-- What the boundary does for one region. -/
def State.dueTurn (s : State) (r : RegionNo) : State := if s.clocked r then (s.dueCheck r).workingSet r else s

theorem State.dueTurn_dueStep {s : State} (r : RegionNo) (hwf : s.RegWf) : State.DueStep s (s.dueTurn r) r := by
  unfold State.dueTurn
  split
  · have h := State.dueCheck_dueStep r hwf
    exact h.trans (State.workingSet_dueStep r h.wf)
  · exact .refl r hwf

/-- What a region's turn finds: its own region as the boundary found it, and all else but other regions and the list of those due. -/
structure State.TurnOf (u a : State) (r : RegionNo) : Prop where
  rgn : a.rgn r = u.rgn r
  cal : a.cal = { u.cal with due := a.cal.due }
  only : Only [.reg, .cal] u a
  wf : a.RegWf

/-- What turns of other regions leave: the regions that have had none, and the list of those due but for the others. -/
structure State.Turns (s t : State) (l : List RegionNo) : Prop where
  other : ∀ k, k ∉ l → t.rgn k = s.rgn k
  cal : t.cal = { s.cal with due := t.cal.due }
  due : ∀ k, k ∉ l → k ∈ s.cal.due → k ∈ t.cal.due
  wf : t.RegWf
  only : Only [.reg, .cal] s t

theorem State.dueTurns_spec (l : List RegionNo) {s : State} (hwf : s.RegWf) : State.Turns s (l.foldl State.dueTurn s) l := by
  induction l generalizing s with
  | nil => exact ⟨fun _ _ => rfl, rfl, fun _ _ h => h, hwf, (Keeps.refl s).only⟩
  | cons x xs ih =>
    have hstep := State.dueTurn_dueStep x hwf
    have h := ih hstep.wf
    rw [List.foldl_cons]
    refine ⟨fun k hk => ?_, by rw [h.cal, hstep.cal], fun k hk hm => ?_, h.wf, hstep.only.trans h.only⟩
    all_goals
      rw [List.mem_cons, not_or] at hk
    · exact (h.other k hk.2).trans (hstep.other k hk.1)
    · exact h.due k hk.2 (hstep.due k hk.1 hm)

/-- The regions' turns one after the other: each region has one of its own, and keeps what it leaves. -/
theorem State.dueTurns_split {u : State} {r : RegionNo} (hwf : u.RegWf) (hr : r ∈ allRegions) :
    ∃ a, State.TurnOf u a r ∧ (allRegions.foldl State.dueTurn u).rgn r = (a.dueTurn r).rgn r ∧
      (r ∈ (a.dueTurn r).cal.due → r ∈ (allRegions.foldl State.dueTurn u).cal.due) := by
  obtain ⟨before, after, hsplit⟩ := List.append_of_mem hr
  have hnodup : (before ++ r :: after).Nodup := hsplit ▸ allRegions_nodup
  have hbefore : r ∉ before := fun h => (List.nodup_append.1 hnodup).2.2 r h r (List.mem_cons_self ..) rfl
  have hafter : r ∉ after := (List.nodup_cons.1 (List.nodup_append.1 hnodup).2.1).1
  have h1 := State.dueTurns_spec before hwf
  rw [hsplit, List.foldl_append, List.foldl_cons]
  generalize before.foldl State.dueTurn u = a at *
  have h2 := State.dueTurns_spec after (State.dueTurn_dueStep r h1.wf).wf
  exact ⟨a, ⟨h1.other r hbefore, h1.cal, h1.only, h1.wf⟩, h2.other r hafter, h2.due r hafter⟩

/-! ### What a turn finds -/

/-- Two states that differ in regions and calibration only, and hold the same sets. -/
structure State.SameSets (s t : State) : Prop where
  sets : t.cal.sets = s.cal.sets
  spares : t.cal.spares = s.cal.spares
  seeded : t.cal.seeded = s.cal.seeded
  only : Only [.reg, .cal] s t

theorem State.SameSets.trans {s t u : State} (h : State.SameSets s t) (k : State.SameSets t u) : State.SameSets s u :=
  ⟨k.sets.trans h.sets, k.spares.trans h.spares, k.seeded.trans h.seeded, h.only.trans k.only⟩

/-- A region's configuration crossing is of the region alone. -/
theorem State.xRegions_xId4 (u : State) {r : Nat} (hr : r < 65536) : u.xRegions (xId 4 r) = [r] := by
  have hclass : xClass (xId 4 r) = 4 := xClass_xId (by omega)
  simp only [State.xRegions, hclass, xInst_xId 4 hr]

section SameSets
variable {s t : State} (h : State.SameSets s t)
include h

theorem State.SameSets.fuse (site : Nat) : t.fuse site = s.fuse site := by
  simp only [State.fuse, h.only.same .sys (by decide)]

theorem State.SameSets.regionSet (r : RegionNo) : t.regionSet r = s.regionSet r := by
  simp only [State.regionSet, State.seedSet, h.sets, h.seeded, h.fuse]

theorem State.SameSets.spareSet (d : Nat) : t.spareSet d = s.spareSet d := by
  simp only [State.spareSet, State.seedSpare, h.spares, h.seeded, h.fuse]

theorem State.SameSets.setFor {r : RegionNo} (hchan : (t.rgn r).chan = (s.rgn r).chan) : t.setFor r = s.setFor r := by
  simp only [State.setFor, hchan, h.regionSet, h.spareSet]

theorem State.SameSets.regionTemp {r : RegionNo} (hsum : (t.rgn r).sum = (s.rgn r).sum) : t.regionTemp r = s.regionTemp r := by
  have hjunction : t.junction r = s.junction r := by
    funext y
    simp only [State.junction, State.tile, State.regionTile, State.now, h.fuse, h.only.same .sys (by decide), h.only.same .sns (by decide)]
  simp only [State.regionTemp, hsum, hjunction]

theorem State.SameSets.drift {r : RegionNo} (hsum : (t.rgn r).sum = (s.rgn r).sum) (hchan : (t.rgn r).chan = (s.rgn r).chan) :
    t.drift r = s.drift r := by
  simp only [State.drift, h.regionTemp hsum, h.setFor hchan]

theorem State.SameSets.planWaits {r : RegionNo} (hplan : (t.rgn r).planTx = (s.rgn r).planTx) (hgot : (t.rgn r).gotPlan = (s.rgn r).gotPlan) :
    t.planWaits r = s.planWaits r := by
  simp only [State.planWaits, hplan, hgot, h.only.same .hm (by decide)]

theorem State.SameSets.planOnly : t.planOnly = s.planOnly := by
  simp only [State.planOnly, State.now, h.only.same .sys (by decide)]

theorem State.SameSets.clocked {r : RegionNo} (hr : t.rgn r = s.rgn r) : t.clocked r = s.clocked r := by
  simp only [State.clocked, State.bootGated, State.dieAt, hr, h.only.same .sys (by decide), h.only.same .die (by decide)]

theorem State.SameSets.siteFenced (site : Nat) : t.siteFenced site = s.siteFenced site := by
  simp only [State.siteFenced, State.dieAt, h.only.same .sys (by decide), h.only.same .die (by decide)]

theorem State.SameSets.xState4 {r : Nat} (hr : r < 65536) : t.xState (xId 4 r) = s.xState (xId 4 r) := by
  have hclass : xClass (xId 4 r) = 4 := xClass_xId (by omega)
  simp only [State.xState, State.xRegions_xId4 _ hr, hclass, if_neg (show ¬ 4 = 9 by decide), h.siteFenced, State.xing, State.dieAt,
    h.only.same .xg (by decide), h.only.same .die (by decide)]
  rfl

end SameSets

theorem State.DueStep.sameSets {s t : State} {r : RegionNo} (h : State.DueStep s t r) : State.SameSets s t :=
  ⟨by rw [h.cal], by rw [h.cal], by rw [h.cal], h.only⟩

/-! ### The working set sent -/

/-- A call for a working set: one is due, or the temperature has moved. -/
def State.setCalled (s : State) (r : RegionNo) (T : Int) : Prop := s.cal.seeded = true ∧ ((s.rgn r).wsDue = true ∨ (s.rgn r).setMoved T = true)

theorem State.workingSet_of_broken {s : State} {r : RegionNo} {T : Int} (hwf : s.RegWf) (hT : s.regionTemp r = some T)
    (hcall : s.setCalled r T) (hx : s.xState (xId 4 r) ≠ .whole) : (s.workingSet r).rgn r = { s.rgn r with wsDue := true } := by
  unfold State.setCalled at hcall
  rw [State.workingSet_of_some hT, if_pos hcall, if_neg hx, s.rgn_modRgn r _ hwf]

/-- A set that its crossing carries is put into the region's queue, and the engine's side looks at the queue. -/
def State.setQueued (s : State) (r : RegionNo) (m : Msg) : State :=
  (s.modRgn r fun g => { g with wsDue := false }).modRgn r fun g => g.putMsg m

theorem State.workingSet_of_whole {s : State} {r : RegionNo} {T : Int} (hT : s.regionTemp r = some T) (hcall : s.setCalled r T)
    (hx : s.xState (xId 4 r) = .whole) :
    s.workingSet r = (s.setQueued r (.calset ((s.setFor r).work T) (s.setFor r).vref)).pump r := by
  unfold State.setCalled at hcall
  rw [State.workingSet_of_some hT, if_pos hcall, if_pos hx]
  rfl

theorem State.setQueued_rgn {s : State} {r : RegionNo} (m : Msg) (hwf : s.RegWf) (hwait : (s.rgn r).msgWait = [])
    (hroom : (s.rgn r).msgs.length < 16) :
    (s.setQueued r m).rgn r = { s.rgn r with wsDue := false, msgs := (s.rgn r).msgs ++ [m] } := by
  rw [State.setQueued, State.rgn_modRgn _ r _ (s.modRgn_wf r _ hwf), s.rgn_modRgn r _ hwf, Region.putMsg]
  exact if_pos ⟨by simp [hwait], hroom⟩

theorem State.setQueued_sameSets {s : State} (r : RegionNo) (m : Msg) (hwf : s.RegWf) : State.SameSets s (s.setQueued r m) :=
  ((State.modRgn_dueStep r _ hwf).trans (State.modRgn_dueStep r _ (s.modRgn_wf r _ hwf))).sameSets

/-- What holds a region's next word back on the engine's side. -/
def State.wordHeld (s : State) (r : RegionNo) : Prop :=
  (s.rgn r).tx ≠ none ∨ (s.rgn r).sent ≠ none ∨ s.planWaits r = true ∨ s.planOnly = true

theorem Region.load4_of_held {g : Region} (now : Nat) (h : g.tx ≠ none ∨ g.sent ≠ none) :
    (g.load4 now).wsDue = g.wsDue ∧ (g.load4 now).msgs = g.msgs := by
  unfold Region.load4
  split
  · exact ⟨rfl, rfl⟩
  next htx hsent _ => exact absurd h (by simp [htx, hsent])
  · exact ⟨rfl, rfl⟩

theorem State.workingSet_of_held {s : State} {r : RegionNo} {T : Int} (hwf : s.RegWf) (hT : s.regionTemp r = some T)
    (hcall : s.setCalled r T) (hx : s.xState (xId 4 r) = .whole) (hwait : (s.rgn r).msgWait = []) (hroom : (s.rgn r).msgs.length < 16)
    (hheld : s.wordHeld r) : ((s.workingSet r).rgn r).wsDue = false ∧
      ((s.workingSet r).rgn r).msgs = (s.rgn r).msgs ++ [.calset ((s.setFor r).work T) (s.setFor r).vref] := by
  rw [State.workingSet_of_whole hT hcall hx]
  generalize Msg.calset ((s.setFor r).work T) (s.setFor r).vref = m
  have hq := State.setQueued_rgn m hwf hwait hroom
  have hsame := State.setQueued_sameSets r m hwf
  have hplan : (s.setQueued r m).planWaits r = s.planWaits r := hsame.planWaits (by rw [hq]) (by rw [hq])
  have honly : (s.setQueued r m).planOnly = s.planOnly := hsame.planOnly
  have hwf' : (s.setQueued r m).RegWf := State.modRgn_wf _ r _ (s.modRgn_wf r _ hwf)
  generalize s.setQueued r m = u at *
  unfold State.pump
  split
  next hgo =>
    obtain ⟨-, hp, ho⟩ := hgo
    have hword : (u.rgn r).tx ≠ none ∨ (u.rgn r).sent ≠ none := by
      rw [hq]
      rcases hheld with h | h | h | h
      · exact .inl h
      · exact .inr h
      · simp [hplan, h] at hp
      · simp [honly, h] at ho
    rw [u.rgn_modRgn r _ hwf']
    obtain ⟨hws, hmsgs⟩ := Region.load4_of_held u.now hword
    rw [hws, hmsgs, hq]
    exact ⟨rfl, rfl⟩
  next =>
    rw [hq]
    exact ⟨rfl, rfl⟩

/-- The only word of a region's queue goes into a free crossing. -/
theorem Region.load4_of_one (g : Region) (now : Nat) {m : Msg} (htx : g.tx = none) (hsent : g.sent = none) (hmsgs : g.msgs = [m])
    (hwait : g.msgWait = []) : g.load4 now = { g with msgs := [], tx := some (.message m, now) } := by
  have hnext : g.nextMsg = some m := by
    rw [Region.nextMsg, hmsgs]
    cases m <;> rfl
  have hload : g.load4 now = ({ g with tx := some (.message m, now), msgs := g.msgs.erase m } : Region).refill := by
    rw [Region.load4, htx, hsent, hnext]
  have hrefill (x : Region) (h : x.msgWait = []) : x.refill = x := by
    rw [Region.refill, h]
  rw [hload, hrefill _ (by exact hwait), hmsgs, List.erase_cons_head]

theorem State.workingSet_of_free {s : State} {r : RegionNo} {T : Int} (hwf : s.RegWf) (hr : r < 65536) (hT : s.regionTemp r = some T)
    (hcall : s.setCalled r T) (hx : s.xState (xId 4 r) = .whole) (hwait : (s.rgn r).msgWait = []) (hnone : (s.rgn r).msgs = [])
    (htx : (s.rgn r).tx = none) (hsent : (s.rgn r).sent = none) (hplan : s.planWaits r = false) (honly : s.planOnly = false) :
    ((s.workingSet r).rgn r).wsDue = false ∧ ((s.workingSet r).rgn r).msgs = [] ∧
      ((s.workingSet r).rgn r).tx = some (.message (.calset ((s.setFor r).work T) (s.setFor r).vref), s.now) := by
  rw [State.workingSet_of_whole hT hcall hx]
  generalize Msg.calset ((s.setFor r).work T) (s.setFor r).vref = m
  have hq := State.setQueued_rgn m hwf hwait (by rw [hnone]; decide)
  have hsame := State.setQueued_sameSets r m hwf
  have hplan' := (hsame.planWaits (r := r) (by rw [hq]) (by rw [hq])).trans hplan
  have honly' := hsame.planOnly.trans honly
  have hx' := (hsame.xState4 hr).trans hx
  have hnow : (s.setQueued r m).now = s.now := congrArg Sys.erg (hsame.only.same .sys (by decide))
  have hwf' : (s.setQueued r m).RegWf := State.modRgn_wf _ r _ (s.modRgn_wf r _ hwf)
  generalize s.setQueued r m = u at *
  unfold State.pump
  rw [if_pos ⟨hx', by simp [hplan'], by simp [honly']⟩, u.rgn_modRgn r _ hwf', hq, hnow, hnone, List.nil_append]
  generalize hg : ({ s.rgn r with wsDue := false, msgs := [m] } : Region) = g
  have htx' : g.tx = none := by rw [← hg]; exact htx
  have hsent' : g.sent = none := by rw [← hg]; exact hsent
  have hmsgs' : g.msgs = [m] := by rw [← hg]
  have hwait' : g.msgWait = [] := by rw [← hg]; exact hwait
  have hws' : g.wsDue = false := by rw [← hg]
  rw [g.load4_of_one s.now htx' hsent' hmsgs' hwait']
  exact ⟨hws', rfl, rfl⟩

theorem State.workingSet_of_still {s : State} {r : RegionNo} {T : Int} (hT : s.regionTemp r = some T) (hcall : ¬ s.setCalled r T) :
    s.workingSet r = s := by
  rw [State.workingSet_of_some hT]
  exact if_neg hcall

theorem Region.putMsg_cal (g : Region) (m : Msg) : (g.putMsg m).cal = g.cal := by
  unfold Region.putMsg
  split <;> rfl

theorem Region.load4_cal (g : Region) (now : Nat) : (g.load4 now).cal = g.cal := by
  have hrefill (x : Region) : x.refill.cal = x.cal := by
    unfold Region.refill
    split
    · split <;> rfl
    · rfl
  unfold Region.load4
  split
  · rfl
  · exact hrefill _
  · rfl

/-- Nothing that a region's calibration is called for by changes with its working set. -/
theorem State.workingSet_rgnCal {s : State} (r : RegionNo) (hwf : s.RegWf) : ((s.workingSet r).rgn r).cal = (s.rgn r).cal := by
  cases hT : s.regionTemp r with
  | none => rw [State.workingSet_of_none hT]
  | some T =>
    rw [State.workingSet_of_some hT]
    split
    · split
      · have h1 := s.modRgn_wf r (fun g => { g with wsDue := false }) hwf
        unfold State.sendMsg State.pump
        generalize Msg.calset ((s.setFor r).work T) (s.setFor r).vref = m
        have h2 := State.modRgn_wf _ r (fun g => g.putMsg m) h1
        split
        · rw [State.rgn_modRgn _ r _ h2, Region.load4_cal, State.rgn_modRgn _ r _ h1, Region.putMsg_cal, s.rgn_modRgn r _ hwf]
        · rw [State.rgn_modRgn _ r _ h1, Region.putMsg_cal, s.rgn_modRgn r _ hwf]
      · rw [s.rgn_modRgn r _ hwf]
    · rfl

/-! ### The boundary as a whole -/

theorem State.calBoundary_spec (s : State) : State.SameSets s s.calBoundary ∧ s.calBoundary.reg = s.reg ∧
    s.calBoundary.cal.ctrl = s.cal.ctrl.tick s.now ∧ s.calBoundary.cal.gap = s.cal.gap.tick s.now := by
  unfold State.calBoundary
  dsimp only
  split
  · exact ⟨⟨rfl, rfl, rfl, ⟨fun g hg => by cases g <;> first | exact absurd (by decide) hg | rfl⟩⟩, rfl, rfl, rfl⟩
  · exact ⟨⟨rfl, rfl, rfl, ⟨fun g hg => by cases g <;> first | exact absurd (by decide) hg | rfl⟩⟩, rfl, rfl, rfl⟩

/-- The state that the boundary leaves. -/
def State.boundaryChecked (s : State) : State := allRegions.foldl State.dueTurn s.calBoundary

theorem exec_calDueCheck_boundary {s : State} (hboundary : s.now % 256 = 0) : exec .calDueCheck s = .next s.boundaryChecked :=
  exec_calDueCheck hboundary

/-- What a region's turn at the boundary finds of the state before it, and what it leaves. -/
structure State.TurnIn (s a : State) (r : RegionNo) : Prop where
  same : State.SameSets s a
  ctrl : a.cal.ctrl = s.cal.ctrl.tick s.now
  rgn : a.rgn r = s.rgn r
  wf : a.RegWf
  leaves : s.boundaryChecked.rgn r = (a.dueTurn r).rgn r
  due : r ∈ (a.dueTurn r).cal.due → r ∈ s.boundaryChecked.cal.due

theorem State.turnIn {s : State} (hwf : s.RegWf) {r : RegionNo} (hr : r ∈ allRegions) : ∃ a, State.TurnIn s a r := by
  obtain ⟨hsame, hreg, hctrl, -⟩ := s.calBoundary_spec
  obtain ⟨a, ha, hleaves, hdue⟩ := State.dueTurns_split (u := s.calBoundary) (by rw [State.RegWf, hreg]; exact hwf) hr
  exact ⟨a, hsame.trans ⟨(congrArg Cal.sets ha.cal :), (congrArg Cal.spares ha.cal :), (congrArg Cal.seeded ha.cal :), ha.only⟩,
    (congrArg Cal.ctrl ha.cal :).trans hctrl, ha.rgn.trans (State.rgn_congr hreg r), ha.wf, by rw [State.boundaryChecked]; exact hleaves,
    by rw [State.boundaryChecked]; exact hdue⟩

section TurnIn
variable {s a : State} {r : RegionNo} (h : State.TurnIn s a r)
include h

theorem State.TurnIn.calDt : a.calDt = fld (s.cal.ctrl.tick s.now).eff 15 10 * 8 := by rw [State.calDt, h.ctrl]

theorem State.TurnIn.calAge : a.calAge = fld (s.cal.ctrl.tick s.now).eff 31 24 * 10000000000 := by rw [State.calAge, h.ctrl]

theorem State.TurnIn.calAuto : a.calAuto = bitOf (s.cal.ctrl.tick s.now).eff 0 := by rw [State.calAuto, h.ctrl]

theorem State.TurnIn.now : a.now = s.now := congrArg Sys.erg (h.same.only.same .sys (by decide))

theorem State.TurnIn.drift : a.drift r = s.drift r := h.same.drift (by rw [h.rgn]) (by rw [h.rgn])

theorem State.TurnIn.setFor : a.setFor r = s.setFor r := h.same.setFor (by rw [h.rgn])

theorem State.TurnIn.clocked : a.clocked r = s.clocked r := h.same.clocked h.rgn

end TurnIn

/-- A region that drift or age may call, as a state's registers have it. -/
structure State.Callable (s : State) (r : RegionNo) : Prop where
  clocked : s.clocked r = true
  reached : s.siteFenced (siteOf r) = false
  idle : (s.rgn r).cal.running = false
  off : (s.rgn r).cal.holdOff ≤ s.win
  auto : s.calAuto = true

theorem State.Callable.passes {s : State} {r : RegionNo} (h : State.Callable s r) : ¬ ((!s.clocked r) = true ∨ s.siteFenced (siteOf r) = true ∨
    (s.rgn r).cal.running = true ∨ s.win < (s.rgn r).cal.holdOff ∨ (!s.calAuto) = true) := by
  have := h.off
  simp only [h.clocked, h.reached, h.idle, h.auto]
  simp
  exact h.off

theorem State.dueCheck_of_called {s : State} {r : RegionNo} (h : State.Callable s r)
    (hcall : (decide (s.calDt < s.drift r) = true ∧ (s.rgn r).cal.dueDrift = false) ∨ (s.aged r = true ∧ (s.rgn r).cal.dueAge = false)) :
    s.dueCheck r = (s.modRgn r (Region.called (decide (s.calDt < s.drift r)) (s.aged r))).calSync r := by
  rw [State.dueCheck_eq, if_neg h.passes]
  exact if_pos (by simpa using hcall)

theorem State.dueCheck_of_not_called {s : State} {r : RegionNo} (hdrift : ¬ s.calDt < s.drift r) (hage : s.aged r = false) : s.dueCheck r = s := by
  rw [State.dueCheck_eq]
  split
  · rfl
  · exact if_neg (by simp [hdrift, hage])

/-- A called region is due, by what called it. -/
theorem State.dueCheck_called_spec {s : State} {r : RegionNo} (hwf : s.RegWf) (h : State.Callable s r)
    (hcall : (decide (s.calDt < s.drift r) = true ∧ (s.rgn r).cal.dueDrift = false) ∨ (s.aged r = true ∧ (s.rgn r).cal.dueAge = false)) :
    ((s.dueCheck r).rgn r).cal.dueDrift = ((s.rgn r).cal.dueDrift || decide (s.calDt < s.drift r)) ∧
      ((s.dueCheck r).rgn r).cal.dueAge = ((s.rgn r).cal.dueAge || s.aged r) ∧ r ∈ (s.dueCheck r).cal.due := by
  rw [State.dueCheck_of_called h hcall]
  have hsync := State.called_synced r (decide (s.calDt < s.drift r)) (s.aged r) hwf
  have hself := s.rgn_modRgn r (Region.called (decide (s.calDt < s.drift r)) (s.aged r)) hwf
  generalize (s.modRgn r (Region.called (decide (s.calDt < s.drift r)) (s.aged r))).calSync r = v at *
  have hdue : (((s.modRgn r (Region.called (decide (s.calDt < s.drift r)) (s.aged r))).rgn r).cal.dueDrift ||
      ((s.modRgn r (Region.called (decide (s.calDt < s.drift r)) (s.aged r))).rgn r).cal.dueAge ||
        (s.modRgn r (Region.called (decide (s.calDt < s.drift r)) (s.aged r))).calAsked r .calRun) = true := by
    rw [hself]
    rcases hcall with ⟨h1, -⟩ | ⟨h1, -⟩ <;> simp [Region.called, h1]
  refine ⟨?_, ?_, ?_⟩
  · rw [hsync.rgn, hself]
    rfl
  · rw [hsync.rgn, hself]
    rfl
  · rw [hsync.cal]
    dsimp only
    rw [if_pos hdue]
    exact mem_addKey_iff.2 (.inl rfl)

theorem State.dueCheck_rgn {s : State} (r : RegionNo) (hwf : s.RegWf) :
    (s.dueCheck r).rgn r = { s.rgn r with cal := ((s.dueCheck r).rgn r).cal } := by
  rw [State.dueCheck_eq]
  split
  · rfl
  · split
    · have hsync := State.called_synced r (decide (s.calDt < s.drift r)) (s.aged r) hwf
      rw [hsync.rgn, s.rgn_modRgn r _ hwf]
      rfl
    · rfl

/-- What a region's working set finds at the boundary: the state before it, but for what the region's calibration is called for by. -/
structure State.SetIn (s d : State) (r : RegionNo) : Prop where
  same : State.SameSets s d
  rgn : d.rgn r = { s.rgn r with cal := (d.rgn r).cal }
  wf : d.RegWf
  now : d.now = s.now

theorem State.TurnIn.setIn {s a : State} {r : RegionNo} (h : State.TurnIn s a r) : State.SetIn s (a.dueCheck r) r := by
  have hstep := State.dueCheck_dueStep r h.wf
  refine ⟨h.same.trans hstep.sameSets, ?_, hstep.wf, (congrArg Sys.erg (hstep.only.same .sys (by decide))).trans h.now⟩
  rw [State.dueCheck_rgn r h.wf, h.rgn]

section SetIn
variable {s d : State} {r : RegionNo} (h : State.SetIn s d r)
include h

theorem State.SetIn.regionTemp : d.regionTemp r = s.regionTemp r := h.same.regionTemp (by rw [h.rgn])

theorem State.SetIn.setFor : d.setFor r = s.setFor r := h.same.setFor (by rw [h.rgn])

theorem State.SetIn.setCalled_iff (T : Int) : d.setCalled r T ↔ s.setCalled r T := by
  rw [State.setCalled, State.setCalled, h.same.seeded, h.rgn]
  rfl

theorem State.SetIn.planWaits : d.planWaits r = s.planWaits r := h.same.planWaits (by rw [h.rgn]) (by rw [h.rgn])

theorem State.SetIn.wordHeld_iff : d.wordHeld r ↔ s.wordHeld r := by
  rw [State.wordHeld, State.wordHeld, h.planWaits, h.same.planOnly, h.rgn]

end SetIn

/-- What a boundary's check of a callable region brings about. -/
theorem State.TurnIn.called {s a : State} {r : RegionNo} (h : State.TurnIn s a r) (hcall : State.Callable a r) :
    let t := s.boundaryChecked
    ((s.rgn r).cal.dueDrift = false → a.calDt < s.drift r → (t.rgn r).cal.dueDrift = true ∧ r ∈ t.cal.due) ∧
      ((s.rgn r).cal.dueAge = false → a.calAge ≠ 0 → (s.setFor r).ergLast + a.calAge < s.now → (t.rgn r).cal.dueAge = true ∧ r ∈ t.cal.due) ∧
      (s.drift r ≤ a.calDt → a.calAge = 0 ∨ s.now ≤ (s.setFor r).ergLast + a.calAge → (t.rgn r).cal = (s.rgn r).cal) := by
  have hturn : a.dueTurn r = (a.dueCheck r).workingSet r := if_pos hcall.clocked
  have hwf := (State.dueCheck_dueStep r h.wf).wf
  have hcal : (s.boundaryChecked.rgn r).cal = ((a.dueCheck r).rgn r).cal := by
    rw [h.leaves, hturn, State.workingSet_rgnCal r hwf]
  have hdue (hd : r ∈ (a.dueCheck r).cal.due) : r ∈ s.boundaryChecked.cal.due := h.due (by rw [hturn, State.workingSet_cal]; exact hd)
  have haged : a.aged r = (decide (a.calAge ≠ 0) && decide ((s.setFor r).ergLast + a.calAge < s.now)) := by
    rw [State.aged, h.setFor, h.now]
  refine ⟨fun hnot hover => ?_, fun hnot hen hold => ?_, fun hin hyoung => ?_⟩
  · have hdrift : decide (a.calDt < a.drift r) = true := by rw [h.drift]; exact decide_eq_true hover
    obtain ⟨hd, -, hmem⟩ := State.dueCheck_called_spec h.wf hcall (.inl ⟨hdrift, by rw [h.rgn]; exact hnot⟩)
    exact ⟨by rw [hcal, hd, hdrift, Bool.or_true], hdue hmem⟩
  · have hage : a.aged r = true := by rw [haged, decide_eq_true hen, decide_eq_true hold]; rfl
    obtain ⟨-, hd, hmem⟩ := State.dueCheck_called_spec h.wf hcall (.inr ⟨hage, by rw [h.rgn]; exact hnot⟩)
    exact ⟨by rw [hcal, hd, hage, Bool.or_true], hdue hmem⟩
  · have hage : a.aged r = false := by
      rw [haged, Bool.and_eq_false_iff, decide_eq_false_iff_not, decide_eq_false_iff_not]
      rcases hyoung with hoff | hyoung
      · exact .inl (not_not.2 hoff)
      · exact .inr (Nat.not_lt.2 hyoung)
    rw [hcal, State.dueCheck_of_not_called (by rw [h.drift]; exact Nat.not_lt.2 hin) hage, h.rgn]

/-- What a boundary leaves of a clocked region that a working set is called for. -/
theorem State.TurnIn.sent {s a : State} {r : Nat} (h : State.TurnIn s a r) (hr : r < 65536) (hclocked : s.clocked r = true) {T : Int}
    (hT : s.regionTemp r = some T) (hcall : s.setCalled r T) :
    let t := s.boundaryChecked
    let m : Msg := .calset ((s.setFor r).work T) (s.setFor r).vref
    (s.xState (xId 4 r) ≠ .whole → (t.rgn r).wsDue = true ∧ (t.rgn r).msgs = (s.rgn r).msgs) ∧
      (s.xState (xId 4 r) = .whole → (s.rgn r).msgWait = [] → (s.rgn r).msgs.length < 16 → s.wordHeld r →
        (t.rgn r).wsDue = false ∧ (t.rgn r).msgs = (s.rgn r).msgs ++ [m]) ∧
      (s.xState (xId 4 r) = .whole → (s.rgn r).msgWait = [] → (s.rgn r).msgs = [] → (s.rgn r).tx = none → (s.rgn r).sent = none →
        s.planWaits r = false → s.planOnly = false →
        (t.rgn r).wsDue = false ∧ (t.rgn r).msgs = [] ∧ (t.rgn r).tx = some (.message m, s.now)) := by
  have hd := h.setIn
  have hturn : a.dueTurn r = (a.dueCheck r).workingSet r := if_pos (by rw [h.clocked]; exact hclocked)
  have hleaves := h.leaves
  rw [hturn] at hleaves
  dsimp only
  rw [hleaves]
  generalize a.dueCheck r = d at *
  have hTd := hd.regionTemp.trans hT
  have hcalld := (hd.setCalled_iff T).2 hcall
  have hxd := hd.same.xState4 hr
  have hmsgs : (d.rgn r).msgs = (s.rgn r).msgs := by rw [hd.rgn]
  have hmsgWait : (d.rgn r).msgWait = (s.rgn r).msgWait := by rw [hd.rgn]
  refine ⟨fun hx => ?_, fun hx hwait hroom hheld => ?_, fun hx hwait hnone htx hsent hplan honly => ?_⟩
  · rw [State.workingSet_of_broken hd.wf hTd hcalld (by rw [hxd]; exact hx)]
    exact ⟨rfl, hmsgs⟩
  · have := State.workingSet_of_held hd.wf hTd hcalld (hxd.trans hx) (hmsgWait.trans hwait) (by rw [hmsgs]; exact hroom)
      (hd.wordHeld_iff.2 hheld)
    rw [hmsgs, hd.setFor] at this
    exact this
  · have := State.workingSet_of_free hd.wf hr hTd hcalld (hxd.trans hx) (hmsgWait.trans hwait) (hmsgs.trans hnone) (by rw [hd.rgn]; exact htx)
      (by rw [hd.rgn]; exact hsent) (hd.planWaits.trans hplan) (hd.same.planOnly.trans honly)
    rw [hd.setFor, hd.now] at this
    exact this

/-- A region that no working set is called for keeps its queue and its word in transfer. -/
theorem State.boundaryChecked_of_still {s : State} (hwf : s.RegWf) {r : RegionNo} {T : Int} (hT : s.regionTemp r = some T)
    (hcall : ¬ s.setCalled r T) :
    (s.boundaryChecked.rgn r).msgs = (s.rgn r).msgs ∧ (s.boundaryChecked.rgn r).tx = (s.rgn r).tx := by
  by_cases hr : r ∈ allRegions
  · obtain ⟨a, h⟩ := State.turnIn hwf hr
    have hd := h.setIn
    have hkept : ((a.dueTurn r).rgn r).msgs = (s.rgn r).msgs ∧ ((a.dueTurn r).rgn r).tx = (s.rgn r).tx := by
      unfold State.dueTurn
      split
      · rw [State.workingSet_of_still (hd.regionTemp.trans hT) fun hc => hcall ((hd.setCalled_iff T).1 hc), hd.rgn]
        exact ⟨rfl, rfl⟩
      · rw [h.rgn]
        exact ⟨rfl, rfl⟩
    rw [h.leaves]
    exact hkept
  · obtain ⟨-, hreg, -⟩ := s.calBoundary_spec
    have hkept : s.boundaryChecked.rgn r = s.rgn r :=
      ((State.dueTurns_spec allRegions (s := s.calBoundary) (by rw [State.RegWf, hreg]; exact hwf)).other r hr).trans (State.rgn_congr hreg r)
    rw [hkept]
    exact ⟨rfl, rfl⟩

/-! ### A slot granted and left -/

/-- Each region of a list without repetition is changed once. -/
theorem State.rgn_modRgns_of_mem {s : State} (f : RegionNo → Region → Region) {rs : List RegionNo} (hnodup : rs.Nodup) {r : RegionNo}
    (hr : r ∈ rs) (hwf : s.RegWf) : (s.modRgns rs f).rgn r = f r (s.rgn r) := by
  obtain ⟨before, after, rfl⟩ := List.append_of_mem hr
  have hbefore : r ∉ before := fun h => (List.nodup_append.1 hnodup).2.2 r h r (List.mem_cons_self ..) rfl
  have hafter : r ∉ after := (List.nodup_cons.1 (List.nodup_append.1 hnodup).2.1).1
  have h1 : (s.modRgns before f).rgn r = s.rgn r := s.rgn_modRgns_of_not_mem f hbefore
  have hwf1 : (s.modRgns before f).RegWf := State.foldl_wf (fun t q ht => t.modRgn_wf q _ ht) before hwf
  have hfold : s.modRgns (before ++ r :: after) f = ((s.modRgns before f).modRgn r (f r)).modRgns after f := by
    rw [State.modRgns, List.foldl_append]
    rfl
  rw [hfold, State.rgn_modRgns_of_not_mem _ f hafter, State.rgn_modRgn _ r _ hwf1, h1]

theorem districtRegions_nodup (d : Nat) : (districtRegions d).Nodup :=
  List.nodup_range.map fun a b h => by simpa [regionNo] using h

theorem State.rgn_calQueue (s : State) (r : RegionNo) : s.calQueue.rgn r = s.rgn r := rfl

theorem State.calQueue_cal (s : State) : s.calQueue.cal = { s.cal with queue := s.calQueue.cal.queue } := rfl

/-- A region whose activity c has ended: what it was doing is dropped, and a busy twin stands by. -/
def Region.calLeft (g : Region) (c : RgnCal) (e : CalEnd) (win now : Nat) : Region :=
  let stays := decide (e = .void ∨ e = .timeout ∨ e = .fenced ∨ e = .busy)
  let freeTwin := c.running && decide (g.chan.twin = .busy) && g.swap.isNone
  { (if freeTwin then g.twinBack win else g) with
    cal := { g.cal with
      phase := 0, ending := false, runs := [], reduced := [], voids := 0, gapStart := none, gapWins := 0, gapNow := none
      half := g.cal.half && stays && !c.test
      dueDrift := if c.test then g.cal.dueDrift else stays && (g.cal.dueDrift || !g.cal.dueAge)
      dueAge := if c.test then g.cal.dueAge else g.cal.dueAge && stays
      dueTest := g.cal.dueTest && !c.test
      lastTest := if c.test ∧ !stays then now else g.cal.lastTest } }

/-- The slot given back and the activity dropped, before its requests are counted off. -/
def State.slotLeft (s : State) (r : RegionNo) (e : CalEnd) : State :=
  ({ s with cal := { s.cal with busy := s.cal.busy.filter (· ≠ r) } } : State).modRgn r fun g => g.calLeft (s.rgn r).cal e s.win s.now

theorem State.calLeave_eq (s : State) (r : RegionNo) (e : CalEnd) :
    s.calLeave r e = (((s.slotLeft r e).calCount r e).calSync r).calQueue := rfl

/-- What a region leaves when its activity ends. -/
structure State.CalLeft (s t : State) (r : RegionNo) (e : CalEnd) : Prop where
  rgn : ∃ run test, t.rgn r = { (s.rgn r).calLeft (s.rgn r).cal e s.win s.now with
    cal := ((s.rgn r).calLeft (s.rgn r).cal e s.win s.now).cal.synced run test }
  other : ∀ k, k ≠ r → t.rgn k = s.rgn k
  cal : t.cal = { s.cal with busy := s.cal.busy.filter (· ≠ r), due := t.cal.due, queue := t.cal.queue }
  wf : t.RegWf
  only : Only [.mbx, .reg, .cal] s t

theorem State.calLeave_spec {s : State} (r : RegionNo) (e : CalEnd) (hwf : s.RegWf) : State.CalLeft s (s.calLeave r e) r e := by
  have hleft : (s.slotLeft r e).rgn r = (s.rgn r).calLeft (s.rgn r).cal e s.win s.now := State.rgn_modRgn _ r _ hwf
  have hwf1 : (s.slotLeft r e).RegWf := State.modRgn_wf _ r _ hwf
  have hcal : (s.slotLeft r e).cal = { s.cal with busy := s.cal.busy.filter (· ≠ r) } := rfl
  have hcount := (Keeps.calCount_keeps (List.Subset.refl _) (Keeps.refl (s.slotLeft r e)) r e).only
  have hother := fun k (hk : k ≠ r) => s.rgn_calLeave_ne e hk
  have honly := (Keeps.calLeave_keeps (List.Subset.refl _) (Keeps.refl s) r e).only
  rw [State.calLeave_eq] at *
  generalize s.slotLeft r e = u at *
  have hreg : (u.calCount r e).reg = u.reg := hcount.same .reg (by decide)
  have hcal' : (u.calCount r e).cal = u.cal := hcount.same .cal (by decide)
  generalize u.calCount r e = v at *
  have hsync := State.calSync_synced r (s := v) (by rw [State.RegWf, hreg]; exact hwf1)
  refine ⟨⟨v.calAsked r .calRun, v.calAsked r .selftestRun, ?_⟩, hother, ?_, hsync.wf, honly⟩
  · rw [State.rgn_calQueue, hsync.rgn, State.rgn_congr hreg r, hleft]
  · rw [State.calQueue_cal, hsync.cal, hcal', hcal]

/-- A region's activity as its slot begins it, on the standby twin: native mode unless gap mode is in force. -/
def Region.calBegun (g : Region) (gap : Bool) (win now : Nat) : Region :=
  { g with
    chan := { g.chan with twin := .busy, st := if g.chan.st = .paired then .twinBusy else g.chan.st }
    cal := { g.cal with
      phase := if gap then 6 else 3, gap := gap, twinOnly := false, test := false, began := now
      runs := [], reduced := [], voids := 0, half := false, ending := false, gapWins := 0, gapNow := none
      oscB := !g.chan.activeB, gapStart := if gap then some win else none } }

theorem State.calStart_of_twin {s : State} {r : RegionNo} (htwin : (s.rgn r).chan.hasTwin = true) (hhalf : (s.rgn r).cal.half = false)
    (hwf : s.RegWf) : (s.calStart r none false).rgn r = (s.rgn r).calBegun s.gapMode s.win s.now ∧ r ∈ (s.calStart r none false).cal.busy ∧
      ∀ k, k ≠ r → (s.calStart r none false).rgn k = s.rgn k := by
  unfold State.calStart
  dsimp only
  simp only [State.rgn_calQueue]
  have hother (f : Region → Region) (c : Cal) (k : RegionNo) (hk : k ≠ r) : ({ s.modRgn r f with cal := c } : State).rgn k = s.rgn k :=
    s.rgn_modRgn_ne f hk
  have hself (f : Region → Region) (c : Cal) : ({ s.modRgn r f with cal := c } : State).rgn r = f (s.rgn r) := s.rgn_modRgn r f hwf
  refine ⟨(hself _ _).trans ?_, mem_addKey_iff.2 (.inl rfl), fun k hk => hother _ _ k hk⟩
  cases hgap : s.gapMode <;> simp [htwin, hhalf, Region.calBegun]

theorem validRegion_lt {r : Nat} (h : validRegion r = true) : r < 65536 := by
  simp only [validRegion, Bool.and_eq_true, decide_eq_true_eq] at h
  exact lt_of_siteOf_lt (Nat.lt_succ_of_le h.1)

theorem RgnCal.synced_running {c : RgnCal} (run test : Bool) (h : c.running = false) : (c.synced run test).running = false := by
  rw [RgnCal.running, RgnCal.synced, h, decide_eq_false_iff_not]
  split
  · rename_i h'
    exact absurd h' (by decide)
  · split
    · exact (by decide : ¬ 3 ≤ 2)
    · split
      · exact (by decide : ¬ 3 ≤ 1)
      · exact (by decide : ¬ 3 ≤ 0)

/-- A self-test that is due gives an idle region a phase of its own. -/
theorem RgnCal.synced_phase_of_dueTest {c : RgnCal} (run test : Bool) (hidle : c.running = false) (hdue : c.dueTest = true) :
    1 ≤ (c.synced run test).phase := by
  rw [RgnCal.synced, hidle, hdue]
  dsimp only
  rw [if_neg (by decide)]
  split
  · omega
  · rw [if_pos (by simp)]

/-! ### Requests -/

/-- The operation of a request for one region. -/
def calOperation (q : Req) (kind : OpKind) (twinOnly : Bool) (osc now : Nat) : LongOp :=
  { newOp kind .running now with
    target := q.tgt, scope := q.u8 0, left := [q.tgt], gap := decide (q.u8 1 = 2), twinOnly := twinOnly, osc := osc
    failed := 0, code := stOk, starter := some q.mbx, start := now, timer := now, async := bitOf (q.flags.setWidth 32) 3 }

/-- A request for one region in the queue, behind its handle. -/
def State.calAccepted (s : State) (q : Req) (kind : OpKind) (twinOnly : Bool) (osc i : Nat) : State :=
  let v := s.modHandle i fun h => { h with op := some (calOperation q kind twinOnly osc s.now) }
  { v with cal := { v.cal with queue := v.cal.queue ++ [⟨i, decide (kind = .selftestRun)⟩] } }

theorem State.regionTarget_of_exists {s : State} {q : Req} (hexists : s.regionExists q.tgt = true) : s.regionTarget q = none := by
  rw [State.regionTarget, if_neg (by simp [validRegion_of_exists hexists]), if_neg (by simp [hexists])]

section Request
variable {s : State} {q : Req} (hscope : q.u8 0 = 0) (hexists : s.regionExists q.tgt = true)
include hscope hexists

theorem State.calScope_region : s.calScope q = .ok [q.tgt] := by
  have hnone := State.regionTarget_of_exists hexists
  simp only [State.calScope, hscope, hnone]

theorem State.calRequest_of_refused {st : Nat} (hbad : s.calRefuses q.tgt = some st) (kind : OpKind) (twinOnly : Bool) (osc : Nat) :
    s.calRequest q kind twinOnly osc = .done (codeReply st) s := by
  rw [State.calRequest, State.calScope_region hscope hexists]
  simp [hbad, refuse]

theorem State.calRequest_of_full (hok : s.calRefuses q.tgt = none) (hfull : 32 ≤ s.cal.queue.length) (kind : OpKind) (twinOnly : Bool)
    (osc : Nat) : s.calRequest q kind twinOnly osc = .done (busyReply 0) s := by
  rw [State.calRequest, State.calScope_region hscope hexists]
  simp [hok, hfull, refuse]

theorem State.calRequest_of_ok {i : Nat} (hok : s.calRefuses q.tgt = none) (hroom : s.cal.queue.length < 32)
    (hfree : s.freeHandle (decide (q.mbx = 7)) = some i) (kind : OpKind) (twinOnly : Bool) (osc : Nat) :
    s.calRequest q kind twinOnly osc = .done { status := stAccepted, handle := some (s.handleNo i) }
      ((s.calAccepted q kind twinOnly osc i).calSync q.tgt) := by
  have hone : [q.tgt].filter (fun r => (s.calRefuses r).isNone) = [q.tgt] := by simp [hok]
  rw [State.calRequest, State.calScope_region hscope hexists]
  dsimp only
  rw [hone, if_neg (by simp), if_neg (by omega), State.startOp_of_free _ _ hfree]
  rfl

end Request

/-- What an accepted request for one region leaves. -/
structure State.CalRequested (s t : State) (q : Req) (o : LongOp) (i : Nat) (test : Bool) : Prop where
  queue : t.cal.queue = s.cal.queue ++ [⟨i, test⟩]
  handle : t.handle i = { gen := (s.handle i).gen, op := some o }
  others : ∀ j, j ≠ i → t.handle j = s.handle j
  other : ∀ r, r ≠ q.tgt → t.rgn r = s.rgn r
  only : Only [.mbx, .reg, .cal] s t

theorem State.calAccepted_spec {s : State} {q : Req} {i : Nat} (kind : OpKind) (twinOnly : Bool) (osc : Nat) (hi : i < 32) (hwf : s.RegWf) :
    State.CalRequested s ((s.calAccepted q kind twinOnly osc i).calSync q.tgt) q (calOperation q kind twinOnly osc s.now) i
      (decide (kind = .selftestRun)) := by
  have hsync := State.calSync_synced (s := s.calAccepted q kind twinOnly osc i) q.tgt hwf
  have hmbx : _ = (s.calAccepted q kind twinOnly osc i).mbx := hsync.only.same .mbx (by decide)
  have hhandle := State.handle_congr (congrArg Mbx.handle hmbx)
  have haccepted : Only [.mbx, .cal] s (s.calAccepted q kind twinOnly osc i) :=
    ⟨fun g hg => by cases g <;> first | exact absurd (by decide) hg | rfl⟩
  refine ⟨by rw [hsync.cal]; rfl, (hhandle i).trans (s.handle_modHandle _ hi), fun j hj => (hhandle j).trans (s.handle_modHandle_ne _ hj),
    fun r hr => hsync.other r hr, (haccepted.mono (by decide)).trans (hsync.only.mono (by decide))⟩

/-- The region of an accepted request of a kind is asked for. -/
theorem State.calAsked_calAccepted {s : State} {q : Req} {i : Nat} (kind : OpKind) (twinOnly : Bool) (osc : Nat) (hi : i < 32)
    (hkind : kind = .calRun ∨ kind = .selftestRun) : (s.calAccepted q kind twinOnly osc i).calAsked q.tgt kind = true := by
  have hop : (s.calAccepted q kind twinOnly osc i).calOp i = some (calOperation q kind twinOnly osc s.now) := by
    have hself : (s.calAccepted q kind twinOnly osc i).handle i = { gen := (s.handle i).gen, op := some (calOperation q kind twinOnly osc s.now) } :=
      s.handle_modHandle _ hi
    rw [State.calOp, hself]
    exact if_pos ⟨by simp [calOperation, newOp], hkind⟩
  refine List.any_eq_true.2 ⟨i, List.mem_range.2 hi, ?_⟩
  rw [hop]
  simp [calOperation, newOp]

/-- Settles O38: the boundary gives each region one turn, which looks at its drift and age and then at its working set; a slot's begin and
end, and the requests, change their own region and the lists of calibration. -/
theorem calibrationsAreCalledFor : Obligations.CalibrationsAreCalledFor := by
  refine ⟨fun s hreg hwin => ?boundary, fun r s hreg hfw hsusp hslots hpick htwin hhalf => ?grant, fun s hnone => ?noGrant,
    fun r s hvalid hoff => if_pos ⟨hvalid, hoff⟩, fun r s hvalid hretry => if_pos ⟨hvalid, hretry⟩, fun d s hreg hwin hzero => ?gap,
    fun r w s hreg hgap hrun hfew hlong => ?timeout, fun r s hreg hen hclk htwin hdue => ?test,
    fun q i s hreg hready hscope h1 h2 hexists hok hroom hfree => ?calRun,
    fun q i s hreg hready hscope h1 h2 hexists hok hroom hfree => ?testRun,
    fun q s hready hscope h1 h2 hexists hreach hdead => ?dead, fun q s hready hscope h1 h2 hexists hok hfull => ?full,
    fun q s hready hexists => ?query, fun q s hready hscope hexists => ?set, fun q s hready hscope htgt => ?spareSet,
    fun q s hready hscope => ?badScope⟩
  case boundary =>
    intro u
    have hrun := exec_calDueCheck_boundary hwin
    have hwf : s.RegWf := hreg.regions
    obtain ⟨-, hbreg, hctrl, hgap⟩ := s.calBoundary_spec
    have hcal : s.boundaryChecked.cal = { s.calBoundary.cal with due := s.boundaryChecked.cal.due } := by
      rw [State.boundaryChecked]
      exact (State.dueTurns_spec allRegions (s := s.calBoundary) (by rw [State.RegWf, hbreg]; exact hwf)).cal
    refine ⟨_, hrun, (congrArg Cal.ctrl hcal :).trans hctrl, (congrArg Cal.gap hcal :).trans hgap, fun r hvalid hclk hreach hidle hoff hauto => ?_,
      fun r T hvalid hclk hT hseeded hcall => ?_, fun r T w hT hws hlast hsmall => ?_, fun hclear => ?_, fun hkeep => ?_, exec_only hrun⟩
    · obtain ⟨a, h⟩ := State.turnIn hwf (mem_allRegions_of_valid hvalid)
      have hdt : a.calDt = u.calDt := h.calDt
      have hage : a.calAge = u.calAge := h.calAge
      have hwin' : a.win = s.win := congrArg (fun x : Sys => x.erg / 256) (h.same.only.same .sys (by decide))
      rw [← hdt, ← hage]
      exact h.called ⟨h.clocked.trans hclk, (h.same.siteFenced _).trans hreach, by rw [h.rgn]; exact hidle,
        by rw [h.rgn, hwin']; exact hoff, h.calAuto.trans hauto⟩
    · obtain ⟨a, h⟩ := State.turnIn hwf (mem_allRegions_of_valid hvalid)
      have hr : r < 65536 := validRegion_lt hvalid
      have hcalled : s.setCalled r T := by
        refine ⟨hseeded, ?_⟩
        rcases hcall with hc | hc | ⟨w, hc, hm⟩
        · exact .inl hc
        · exact .inr (by rw [Region.setMoved, hc])
        · exact .inr (by rw [Region.setMoved, hc]; exact decide_eq_true hm)
      exact h.sent hr hclk hT hcalled
    · refine State.boundaryChecked_of_still hwf hT ?_
      rintro ⟨-, hc | hc⟩
      · rw [hws] at hc
        exact absurd hc (by decide)
      · rw [Region.setMoved, hlast] at hc
        exact absurd (of_decide_eq_true hc) (by omega)
    · have hb : s.calBoundary.cal = { (u.clearCal).cal with clearAt := none } := congrArg State.cal (if_pos hclear)
      rw [hcal, hb]
      exact ⟨rfl, rfl, rfl, rfl⟩
    · have hb : s.calBoundary.cal = u.cal := congrArg State.cal (if_neg (by rw [hkeep]; decide))
      rw [hcal, hb]
      exact ⟨rfl, rfl, rfl⟩
  case grant =>
    have hrun : exec .calSlotGrant s = .next (s.calStart r none false) := by
      have hexec : exec .calSlotGrant s = execCalSlotGrant s := rfl
      rw [hexec, execCalSlotGrant, if_neg (by simp [hfw, hsusp]; exact hslots), hpick]
    obtain ⟨hself, hbusy, hother⟩ := State.calStart_of_twin htwin hhalf hreg.regions
    refine ⟨_, hrun, hbusy, by rw [hself]; rfl, by rw [hself]; rfl, fun hpaired => ?_, by rw [hself]; rfl, by rw [hself]; rfl, by rw [hself]; rfl,
      hother, exec_only hrun⟩
    rw [hself]
    exact if_pos hpaired
  case noGrant => 
    refine if_pos ?_
    rcases hnone with h | h | h
    · exact .inl (by simp [h])
    · exact .inr (.inl h)
    · exact .inr (.inr h)
  case gap =>
    have hrun : exec (.gapWindow d) s = .next (s.modRgns ((districtRegions d).filter fun r => (s.rgn r).cal.gapStart.isSome) fun _ g =>
      { g with cal := { g.cal with gapNow := some s.win } }) := if_pos ⟨hwin, hzero⟩
    refine ⟨_, hrun, fun r hr hstart => ?_, fun r hr => ?_, exec_only hrun⟩
    · exact State.rgn_modRgns_of_mem (fun _ g => { g with cal := { g.cal with gapNow := some s.win } }) ((districtRegions_nodup d).filter _)
        (List.mem_filter.2 ⟨hr, hstart⟩) hreg.regions
    · refine State.rgn_modRgns_of_not_mem s (fun _ g => { g with cal := { g.cal with gapNow := some s.win } }) fun hmem => ?_
      obtain ⟨hin, hsome⟩ := List.mem_filter.1 hmem
      rcases hr with hr | hr
      · exact hr hin
      · rw [hr] at hsome
        exact absurd hsome (by decide)
  case timeout =>
    have hrun : exec (.calGapTimeout r) s = .next ((s.raise evCalGapTimeout (calArg r (s.rgn r).cal.oscB 0)).calLeave r .timeout) := by
      have hexec : exec (.calGapTimeout r) s = execCalGapTimeout r s := rfl
      rw [hexec, execCalGapTimeout, hgap]
      exact if_pos ⟨hrun, hfew, hlong⟩
    have hraise := s.raise_only evCalGapTimeout (calArg r (s.rgn r).cal.oscB 0)
    have hleft := State.calLeave_spec (s := s.raise evCalGapTimeout (calArg r (s.rgn r).cal.oscB 0)) r .timeout
      (by rw [State.RegWf, hraise.same .reg (by decide)]; exact hreg.regions)
    obtain ⟨run, test, hself⟩ := hleft.rgn
    refine ⟨_, hrun, by rw [hself]; rfl, ?_, ?_, hleft.only.same .ev (by decide), exec_only hrun⟩
    · rw [hself]
      exact RgnCal.synced_running _ _ rfl
    · rw [hleft.cal]
      exact not_mem_filter_ne _ r
  case test =>
    let u : State := s.modRgn r fun g => { g with cal := { g.cal with dueTest := true } }
    have hrun : exec (.selftestDue r) s = .next (u.calSync r) := if_pos ⟨hen, hclk, htwin, hdue⟩
    have hself : u.rgn r = { s.rgn r with cal := { (s.rgn r).cal with dueTest := true } } := s.rgn_modRgn r _ hreg.regions
    have hsync := State.calSync_synced (s := u) r (s.modRgn_wf r _ hreg.regions)
    refine ⟨_, hrun, by rw [hsync.rgn, hself]; rfl, fun hidle => ?_, fun k hk => (hsync.other k hk).trans (s.rgn_modRgn_ne _ hk), exec_only hrun⟩
    rw [hsync.rgn, hself]
    exact RgnCal.synced_phase_of_dueTest _ _ hidle rfl
  case calRun =>
    have hi := State.freeHandle_lt hfree
    have hcmd : cmdCalRun q (posted s 0x0801 q) = .done { status := 0x01, handle := some (s.handleNo i) }
        (((posted s 0x0801 q).calAccepted q .calRun (decide (q.u8 2 = 1)) 0 i).calSync q.tgt) := by
      rw [cmdCalRun, if_neg (by omega), if_neg (by omega), if_neg (by omega)]
      exact State.calRequest_of_ok (s := posted s 0x0801 q) hscope hexists hok hroom hfree _ _ _
    have h := State.calAccepted_spec (s := posted s 0x0801 q) (q := q) .calRun (decide (q.u8 2 = 1)) 0 hi hreg.regions
    have hasked := State.calAsked_calAccepted (s := posted s 0x0801 q) (q := q) .calRun (decide (q.u8 2 = 1)) 0 hi (.inl rfl)
    have hsync := State.calSync_synced (s := (posted s 0x0801 q).calAccepted q .calRun (decide (q.u8 2 = 1)) 0 i) q.tgt hreg.regions
    refine ⟨_, congrArg Host.Outcome.next (State.submit_done (by decide) hready hcmd), h.queue, by rw [hsync.rgn, hasked]; rfl, ?_,
      ⟨_, h.handle, rfl, rfl, rfl, rfl, rfl, rfl⟩, h.others, h.other, ((posted_only s 0x0801 q).mono (by decide)).trans h.only⟩
    rw [hsync.cal, hasked]
    dsimp only
    rw [if_pos (Bool.or_true _)]
    exact mem_addKey_iff.2 (.inl rfl)
  case testRun =>
    have hi := State.freeHandle_lt hfree
    have hcmd : cmdSelftestRun q (posted s 0x0802 q) = .done { status := 0x01, handle := some (s.handleNo i) }
        (((posted s 0x0802 q).calAccepted q .selftestRun false (q.u8 2) i).calSync q.tgt) := by
      rw [cmdSelftestRun, if_neg (by omega), if_neg (by omega), if_neg (by omega)]
      exact State.calRequest_of_ok (s := posted s 0x0802 q) hscope hexists hok hroom hfree _ _ _
    have h := State.calAccepted_spec (s := posted s 0x0802 q) (q := q) .selftestRun false (q.u8 2) hi hreg.regions
    have hasked := State.calAsked_calAccepted (s := posted s 0x0802 q) (q := q) .selftestRun false (q.u8 2) hi (.inr rfl)
    have hsync := State.calSync_synced (s := (posted s 0x0802 q).calAccepted q .selftestRun false (q.u8 2) i) q.tgt hreg.regions
    refine ⟨_, congrArg Host.Outcome.next (State.submit_done (by decide) hready hcmd), h.queue, fun hidle => ?_,
      ⟨_, h.handle, rfl, rfl, rfl, rfl, rfl, rfl⟩, h.others, h.other, ((posted_only s 0x0802 q).mono (by decide)).trans h.only⟩
    have hidle' : (((posted s 0x0802 q).calAccepted q .selftestRun false (q.u8 2) i).rgn q.tgt).cal.running = false := hidle
    rw [hsync.rgn, hasked, RgnCal.synced, hidle', if_neg (by decide), if_pos (Bool.or_true _)]
  case dead =>
    refine congrArg Host.Outcome.next (State.submit_done (by decide) hready ?_)
    have hbad : (posted s 0x0801 q).calRefuses q.tgt = some stRefused := by
      rw [State.calRefuses, if_neg (by rw [Bool.not_eq_true, Bool.not_eq_false']; exact hexists), if_neg (by rw [Bool.not_eq_true]; exact hreach)]
      exact if_pos hdead
    rw [cmdCalRun, if_neg (by omega), if_neg (by omega), if_neg (by omega)]
    exact State.calRequest_of_refused (s := posted s 0x0801 q) hscope hexists hbad _ _ _
  case full =>
    refine congrArg Host.Outcome.next (State.submit_done (by decide) hready ?_)
    rw [cmdCalRun, if_neg (by omega), if_neg (by omega), if_neg (by omega)]
    exact State.calRequest_of_full (s := posted s 0x0801 q) hscope hexists hok hfull _ _ _
  case query =>
    refine congrArg Host.Outcome.next (State.submit_done (by decide) hready ?_)
    rw [cmdCalQuery, State.regionTarget_of_exists (s := posted s 0x0803 q) hexists]
    rfl
  case set =>
    refine congrArg Host.Outcome.next (State.submit_done (by decide) hready ?_)
    rw [cmdCalSetRead, if_pos hscope, State.regionTarget_of_exists (s := posted s 0x0804 q) hexists]
    rfl
  case spareSet =>
    refine congrArg Host.Outcome.next (State.submit_done (by decide) hready ?_)
    rw [cmdCalSetRead, if_neg (by omega), if_pos hscope, if_pos htgt]
    rfl
  case badScope =>
    refine congrArg Host.Outcome.next (State.submit_done (by decide) hready ?_)
    rw [cmdCalSetRead, if_neg (by omega), if_neg (by omega)]
    rfl

end Sys2Proof.Machine
end

section
/-! SUPPORT. O39: calibration runs and self-tests are judged (R230-R235, R244, R245). -/
namespace Sys2Proof.Machine
open Sys2Proof.Safety

/-! ### A set interpolated where it has been moved -/

theorem lowPoint_spec {t : Int} (hlo : 320 < t) (hhi : t < 1760) :
    lowPoint t ≤ 6 ∧ tempPoints.getD (lowPoint t) 0 ≤ t ∧ t < tempPoints.getD (lowPoint t + 1) 0 := by
  unfold lowPoint
  dsimp only
  simp only [decide_eq_true_eq]
  split
  case isTrue h => exact ⟨by decide, h, hhi⟩
  split
  case isTrue h => exact ⟨by decide, h, Int.not_le.1 ‹¬ tempPoints.getD 6 0 ≤ t›⟩
  split
  case isTrue h => exact ⟨by decide, h, Int.not_le.1 ‹¬ tempPoints.getD 5 0 ≤ t›⟩
  split
  case isTrue h => exact ⟨by decide, h, Int.not_le.1 ‹¬ tempPoints.getD 4 0 ≤ t›⟩
  split
  case isTrue h => exact ⟨by decide, h, Int.not_le.1 ‹¬ tempPoints.getD 3 0 ≤ t›⟩
  split
  case isTrue h => exact ⟨by decide, h, Int.not_le.1 ‹¬ tempPoints.getD 2 0 ≤ t›⟩
  case isFalse h => exact ⟨by decide, Int.le_of_lt hlo, Int.not_le.1 h⟩

/-- The interpolation of two points lies no lower than zero: its part beyond the lower point takes no more than that point away. -/
theorem neg_mul_le_of_between (a b : Nat) {u den : Int} (hu : 0 ≤ u) (hlt : u ≤ den) : -((a : Int) * den) ≤ ((b : Int) - a) * u := by
  have hb : 0 ≤ (b : Int) * u := Int.mul_nonneg (Int.natCast_nonneg b) hu
  have ha : (a : Int) * u ≤ a * den := Int.mul_le_mul_of_nonneg_left hlt (Int.natCast_nonneg a)
  rw [Int.sub_mul]
  omega

/-- The step of a period beyond its lower point, rounded to the nearest. -/
theorem neg_le_roundStep (a b : Nat) {u den : Int} (hu : 0 ≤ u) (hlt : u < den) :
    0 ≤ (a : Int) + fdiv (2 * (((b : Int) - a) * u) + den) (2 * den) := by
  have hmul := neg_mul_le_of_between a b hu (Int.le_of_lt hlt)
  have hdiv : -(a : Int) ≤ fdiv (2 * (((b : Int) - a) * u) + den) (2 * den) := by
    rw [fdiv, Int.fdiv_eq_ediv_of_nonneg _ (by omega)]
    refine Int.le_ediv_of_mul_le (by omega) ?_
    have : -(a : Int) * (2 * den) = 2 * -((a : Int) * den) := by ring
    omega
  omega

/-- The step of a code beyond its lower point, rounded up. -/
theorem neg_le_ceilStep (a b : Nat) {u den : Int} (hu : 0 ≤ u) (hlt : u < den) : 0 ≤ (a : Int) - fdiv (-(((b : Int) - a) * u)) den := by
  have hmul := neg_mul_le_of_between a b hu (Int.le_of_lt hlt)
  have hdiv : fdiv (-(((b : Int) - a) * u)) den ≤ a := by
    rw [fdiv, Int.fdiv_eq_ediv_of_nonneg _ (by omega)]
    exact Int.ediv_le_of_le_mul (by omega) (by omega)
  omega

/-- A list whose points about t have each moved by d. -/
def MovedAt (t : Int) (v v' : List Nat) (d : Int) : Prop := ∀ k ∈ bracket t, (v'.getD k 0 : Int) = v.getD k 0 + d

theorem bracket_of_low {t : Int} (h : t ≤ 320) : bracket t = [0] := if_pos h

theorem bracket_of_high {t : Int} (h : 1760 ≤ t) : bracket t = [7] := by
  rw [bracket, if_neg (by omega), if_pos h]

theorem bracket_between {t : Int} (hlo : 320 < t) (hhi : t < 1760) :
    bracket t = if tempPoints.getD (lowPoint t) 0 = t then [lowPoint t] else [lowPoint t, lowPoint t + 1] := by
  rw [bracket, if_neg (by omega), if_neg (by omega)]

theorem lt_of_mem_bracket {t : Int} {k : Nat} (h : k ∈ bracket t) : k < 8 := by
  by_cases hlo : t ≤ 320
  · rw [bracket_of_low hlo] at h
    simp only [List.mem_singleton] at h
    omega
  by_cases hhi : 1760 ≤ t
  · rw [bracket_of_high hhi] at h
    simp only [List.mem_singleton] at h
    omega
  have hle := (lowPoint_spec (t := t) (by omega) (by omega)).1
  rw [bracket_between (by omega) (by omega)] at h
  split at h <;> simp only [List.mem_cons, List.not_mem_nil, or_false] at h <;> omega

theorem interpPeriod_between (v : List Nat) {t : Int} (hlo : 320 < t) (hhi : t < 1760) :
    interpPeriod v t = ((v.getD (lowPoint t) 0 : Int) + fdiv (2 * (((v.getD (lowPoint t + 1) 0 : Int) - v.getD (lowPoint t) 0) *
      (t - tempPoints.getD (lowPoint t) 0)) + (tempPoints.getD (lowPoint t + 1) 0 - tempPoints.getD (lowPoint t) 0))
      (2 * (tempPoints.getD (lowPoint t + 1) 0 - tempPoints.getD (lowPoint t) 0))).toNat := by
  rw [interpPeriod, if_neg (by omega), if_neg (by omega)]

theorem interpMin_between (v : List Nat) {t : Int} (hlo : 320 < t) (hhi : t < 1760) :
    interpMin v t = ((v.getD (lowPoint t) 0 : Int) - fdiv (-(((v.getD (lowPoint t + 1) 0 : Int) - v.getD (lowPoint t) 0) *
      (t - tempPoints.getD (lowPoint t) 0))) (tempPoints.getD (lowPoint t + 1) 0 - tempPoints.getD (lowPoint t) 0)).toNat := by
  rw [interpMin, if_neg (by omega), if_neg (by omega)]

/-- Between two points the difference of the values does not change, or does not matter at a point of its own. -/
theorem MovedAt.between {v v' : List Nat} {d t : Int} (h : MovedAt t v v' d) (hlo : 320 < t) (hhi : t < 1760) :
    (v'.getD (lowPoint t) 0 : Int) = v.getD (lowPoint t) 0 + d ∧
      ((v'.getD (lowPoint t + 1) 0 : Int) - v'.getD (lowPoint t) 0) * (t - tempPoints.getD (lowPoint t) 0) =
        ((v.getD (lowPoint t + 1) 0 : Int) - v.getD (lowPoint t) 0) * (t - tempPoints.getD (lowPoint t) 0) := by
  unfold MovedAt at h
  rw [bracket_between hlo hhi] at h
  by_cases hat : tempPoints.getD (lowPoint t) 0 = t
  · rw [if_pos hat] at h
    refine ⟨h _ (List.mem_singleton_self _), ?_⟩
    rw [hat, Int.sub_self, Int.mul_zero, Int.mul_zero]
  · rw [if_neg hat] at h
    have h0 := h _ (List.mem_cons_self ..)
    have h1 := h _ (List.mem_cons_of_mem _ (List.mem_singleton_self _))
    refine ⟨h0, congrArg (· * (t - tempPoints.getD (lowPoint t) 0)) ?_⟩
    omega

/-- Where every point about t has moved by d, so has the period at t. -/
theorem interpPeriod_moved {v v' : List Nat} {d t : Int} (h : MovedAt t v v' d) (hpos : 0 ≤ (interpPeriod v t : Int) + d) :
    (interpPeriod v' t : Int) = interpPeriod v t + d := by
  by_cases hlo : t ≤ 320
  · have := h 0 (by rw [bracket_of_low hlo]; exact List.mem_singleton_self _)
    rwa [interpPeriod, if_pos hlo, interpPeriod, if_pos hlo]
  by_cases hhi : 1760 ≤ t
  · have := h 7 (by rw [bracket_of_high hhi]; exact List.mem_singleton_self _)
    rwa [interpPeriod, if_neg hlo, if_pos hhi, interpPeriod, if_neg hlo, if_pos hhi]
  obtain ⟨-, hge, hlt⟩ := lowPoint_spec (t := t) (by omega) (by omega)
  obtain ⟨hbase, hnum⟩ := h.between (by omega) (by omega)
  have hnonneg := neg_le_roundStep (v.getD (lowPoint t) 0) (v.getD (lowPoint t + 1) 0) (u := t - tempPoints.getD (lowPoint t) 0)
    (den := tempPoints.getD (lowPoint t + 1) 0 - tempPoints.getD (lowPoint t) 0) (by omega) (by omega)
  rw [interpPeriod_between _ (by omega) (by omega)] at hpos ⊢
  rw [interpPeriod_between _ (by omega) (by omega), hnum, hbase]
  omega

/-- Where every point about t has moved by d, so has the MIN code at t. -/
theorem interpMin_moved {v v' : List Nat} {d t : Int} (h : MovedAt t v v' d) (hpos : 0 ≤ (interpMin v t : Int) + d) :
    (interpMin v' t : Int) = interpMin v t + d := by
  by_cases hlo : t ≤ 320
  · have := h 0 (by rw [bracket_of_low hlo]; exact List.mem_singleton_self _)
    rwa [interpMin, if_pos hlo, interpMin, if_pos hlo]
  by_cases hhi : 1760 ≤ t
  · have := h 7 (by rw [bracket_of_high hhi]; exact List.mem_singleton_self _)
    rwa [interpMin, if_neg hlo, if_pos hhi, interpMin, if_neg hlo, if_pos hhi]
  obtain ⟨-, hge, hlt⟩ := lowPoint_spec (t := t) (by omega) (by omega)
  obtain ⟨hbase, hnum⟩ := h.between (by omega) (by omega)
  have hnonneg := neg_le_ceilStep (v.getD (lowPoint t) 0) (v.getD (lowPoint t + 1) 0) (u := t - tempPoints.getD (lowPoint t) 0)
    (den := tempPoints.getD (lowPoint t + 1) 0 - tempPoints.getD (lowPoint t) 0) (by omega) (by omega)
  rw [interpMin_between _ (by omega) (by omega)] at hpos ⊢
  rw [interpMin_between _ (by omega) (by omega), hnum, hbase]
  omega

theorem interpPeriod_congr {v v' : List Nat} (h : ∀ k < 8, v'.getD k 0 = v.getD k 0) (t : Int) : interpPeriod v' t = interpPeriod v t := by
  by_cases hlo : t ≤ 320
  · rw [interpPeriod, if_pos hlo, interpPeriod, if_pos hlo, h 0 (by omega)]
  by_cases hhi : 1760 ≤ t
  · rw [interpPeriod, if_neg hlo, if_pos hhi, interpPeriod, if_neg hlo, if_pos hhi, h 7 (by omega)]
  have hle := (lowPoint_spec (t := t) (by omega) (by omega)).1
  rw [interpPeriod_between _ (by omega) (by omega), interpPeriod_between _ (by omega) (by omega), h _ (by omega), h _ (by omega)]

theorem interpMin_congr {v v' : List Nat} (h : ∀ k < 8, v'.getD k 0 = v.getD k 0) (t : Int) : interpMin v' t = interpMin v t := by
  by_cases hlo : t ≤ 320
  · rw [interpMin, if_pos hlo, interpMin, if_pos hlo, h 0 (by omega)]
  by_cases hhi : 1760 ≤ t
  · rw [interpMin, if_neg hlo, if_pos hhi, interpMin, if_neg hlo, if_pos hhi, h 7 (by omega)]
  have hle := (lowPoint_spec (t := t) (by omega) (by omega)).1
  rw [interpMin_between _ (by omega) (by omega), interpMin_between _ (by omega) (by omega), h _ (by omega), h _ (by omega)]

/-- The k-th point of a set, empty past its end. -/
def CalSet.point (c : CalSet) (k : Nat) : CalPoint := c.points.getD k ⟨[], [], 0, 0⟩

/-- A column of the points read at k. -/
theorem CalSet.getD_map_points (c : CalSet) (f : CalPoint → Nat) (hf : f ⟨[], [], 0, 0⟩ = 0) (k : Nat) :
    (c.points.map f).getD k 0 = f (c.point k) := by
  rw [CalSet.point, List.getD_eq_getElem?_getD, List.getD_eq_getElem?_getD, List.getElem?_map]
  cases c.points[k]? with
  | none => exact hf.symm
  | some p => rfl

theorem getD_map_range6 (f : Nat → Nat) {i : Nat} (hi : i < 6) : ((List.range 6).map f).getD i 0 = f i := by
  rw [List.getD_eq_getElem?_getD, List.getElem?_map, List.getElem?_range hi]
  rfl

theorem getD_map_range6_int (f : Nat → Int) {i : Nat} (hi : i < 6) : ((List.range 6).map f).getD i 0 = f i := by
  rw [List.getD_eq_getElem?_getD, List.getElem?_map, List.getElem?_range hi]
  rfl

theorem CalSet.point_accept (c : CalSet) (oscB : Bool) (t : Int) (dp : List Int) (dm : Int) (now : Nat) {k : Nat} (hk : k < 8) :
    (c.accept oscB t dp dm now).point k = if (bracket t).contains k then (c.point k).move oscB dp dm else c.point k := by
  rw [CalSet.point, CalSet.accept]
  dsimp only
  rw [List.getD_eq_getElem?_getD, List.getElem?_map, List.getElem?_range hk]
  rfl

theorem unsigned_of_lt {w : Nat} {i : Int} (h0 : 0 ≤ i) (h : i < (2 ^ w : Nat)) : (unsigned w i : Int) = i := by
  rw [unsigned, Int.emod_eq_of_lt h0 h, Int.toNat_of_nonneg h0]

theorem TestMeas.passes_of_fails_none {m : TestMeas} {c : CalSet} {min n : Nat} {quiet : Bool} (h : TestMeas.fails m c min n quiet = none)
    {f : SelfTest} (hf : quiet = false ∨ testQuiet f = true) : TestMeas.passes m c min n f = true := by
  have hmem : f ∈ allTests := by cases f <;> decide
  have hnot := List.find?_eq_none.1 h f hmem
  have hruns : (!quiet || testQuiet f) = true := by
    rcases hf with rfl | hf
    · rfl
    · rw [hf, Bool.or_true]
  rw [hruns, Bool.true_and, Bool.not_eq_true, Bool.not_eq_false'] at hnot
  exact hnot

theorem TestMeas.not_passes_of_fails {m : TestMeas} {c : CalSet} {min n : Nat} {quiet : Bool} {f : SelfTest}
    (h : TestMeas.fails m c min n quiet = some f) : TestMeas.passes m c min n f = false ∧ (quiet = true → testQuiet f = true) := by
  have hfound := List.find?_some h
  rw [Bool.and_eq_true, Bool.not_eq_true'] at hfound
  refine ⟨hfound.2, ?_⟩
  rintro rfl
  simpa using hfound.1

section AcceptPair
variable {c : CalSet} {x y : RunRec} {now : Nat}

/-- What an accepted pair measured: the temperature, the six periods, and the code. -/
def pairTemp (x y : RunRec) : Int := fdiv (x.temp + y.temp + 1) 2
def pairPeriod (x y : RunRec) (i : Nat) : Int := fdiv ((x.periods.getD i 0 : Int) + y.periods.getD i 0 + 1) 2
def pairMin (x y : RunRec) : Nat := max x.min y.min

theorem pairPeriod_nonneg (x y : RunRec) (i : Nat) : 0 ≤ pairPeriod x y i := by
  rw [pairPeriod, fdiv, Int.fdiv_eq_ediv_of_nonneg _ (by omega)]
  omega

theorem CalSet.work_a (c : CalSet) (t : Int) {i : Nat} (hi : i < 6) :
    (c.work t).a.getD i 0 = interpPeriod (c.points.map fun p => p.a.getD i 0) t :=
  getD_map_range6 (fun j => interpPeriod (c.points.map fun p : CalPoint => p.a.getD j 0) t) hi

/-- The points about the pair's temperature move by what it measured beyond the set. -/
theorem CalSet.point_acceptPair {k : Nat} (hk : k < 8) : (c.acceptPair false x y now).point k =
    if (bracket (pairTemp x y)).contains k then
      (c.point k).move false ((List.range 6).map fun i => pairPeriod x y i - ((c.work (pairTemp x y)).a.getD i 0 : Int))
        ((pairMin x y : Int) - ((c.work (pairTemp x y)).minA : Int))
    else c.point k := CalSet.point_accept _ _ _ _ _ _ hk

theorem CalSet.movedAt_acceptPair {i : Nat} (hi : i < 6) (hfit : ∀ k ∈ bracket (pairTemp x y),
      0 ≤ ((c.point k).a.getD i 0 : Int) + (pairPeriod x y i - (c.work (pairTemp x y)).a.getD i 0) ∧
      ((c.point k).a.getD i 0 : Int) + (pairPeriod x y i - (c.work (pairTemp x y)).a.getD i 0) < 65536) :
    MovedAt (pairTemp x y) (c.points.map fun p => p.a.getD i 0) ((c.acceptPair false x y now).points.map fun p => p.a.getD i 0)
      (pairPeriod x y i - (c.work (pairTemp x y)).a.getD i 0) := by
  intro k hk
  obtain ⟨hlo, hhi⟩ := hfit k hk
  rw [CalSet.getD_map_points _ (fun p => p.a.getD i 0) rfl, CalSet.getD_map_points _ (fun p => p.a.getD i 0) rfl,
    CalSet.point_acceptPair (lt_of_mem_bracket hk), if_pos (List.contains_iff_mem.2 hk), CalPoint.move]
  dsimp only
  rw [if_neg Bool.false_ne_true, getD_map_range6 _ hi, getD_map_range6_int _ hi, movePeriod]
  exact unsigned_of_lt hlo hhi

theorem CalSet.movedAt_acceptPair_min (hfit : ∀ k ∈ bracket (pairTemp x y),
      0 ≤ ((c.point k).minA : Int) + (pairMin x y - (c.work (pairTemp x y)).minA) ∧
      ((c.point k).minA : Int) + (pairMin x y - (c.work (pairTemp x y)).minA) < 8192) :
    MovedAt (pairTemp x y) (c.points.map (·.minA)) ((c.acceptPair false x y now).points.map (·.minA))
      (pairMin x y - (c.work (pairTemp x y)).minA) := by
  intro k hk
  obtain ⟨hlo, hhi⟩ := hfit k hk
  rw [CalSet.getD_map_points _ (·.minA) rfl, CalSet.getD_map_points _ (·.minA) rfl, CalSet.point_acceptPair (lt_of_mem_bracket hk),
    if_pos (List.contains_iff_mem.2 hk), CalPoint.move]
  dsimp only
  rw [if_neg Bool.false_ne_true, moveMin]
  exact unsigned_of_lt hlo hhi

/-- A pair on A leaves the points of B. -/
theorem CalSet.b_acceptPair {k : Nat} (hk : k < 8) : ((c.acceptPair false x y now).point k).b = (c.point k).b ∧
    ((c.acceptPair false x y now).point k).minB = (c.point k).minB := by
  rw [CalSet.point_acceptPair hk]
  split <;> exact ⟨rfl, rfl⟩

theorem CalSet.work_acceptPair {i : Nat} (hi : i < 6) (hfit : ∀ k ∈ bracket (pairTemp x y),
      0 ≤ ((c.point k).a.getD i 0 : Int) + (pairPeriod x y i - (c.work (pairTemp x y)).a.getD i 0) ∧
      ((c.point k).a.getD i 0 : Int) + (pairPeriod x y i - (c.work (pairTemp x y)).a.getD i 0) < 65536 ∧
      0 ≤ ((c.point k).minA : Int) + (pairMin x y - (c.work (pairTemp x y)).minA) ∧
      ((c.point k).minA : Int) + (pairMin x y - (c.work (pairTemp x y)).minA) < 8192) :
    ((((c.acceptPair false x y now).work (pairTemp x y)).a.getD i 0 : Nat) : Int) = pairPeriod x y i ∧
      ((c.acceptPair false x y now).work (pairTemp x y)).minA = pairMin x y ∧
      ((c.acceptPair false x y now).work (pairTemp x y)).b = (c.work (pairTemp x y)).b ∧
      ((c.acceptPair false x y now).work (pairTemp x y)).minB = (c.work (pairTemp x y)).minB := by
  have ha := CalSet.movedAt_acceptPair (c := c) (x := x) (y := y) (now := now) hi
    fun k hk => ⟨(hfit k hk).1, (hfit k hk).2.1⟩
  have hmin := CalSet.movedAt_acceptPair_min (c := c) (x := x) (y := y) (now := now)
    fun k hk => ⟨(hfit k hk).2.2.1, (hfit k hk).2.2.2⟩
  have hp := pairPeriod_nonneg x y i
  rw [CalSet.work_a _ _ hi] at ha
  have hb (j : Nat) : interpPeriod ((c.acceptPair false x y now).points.map fun p => p.b.getD j 0) (pairTemp x y) =
      interpPeriod (c.points.map fun p => p.b.getD j 0) (pairTemp x y) := by
    refine interpPeriod_congr (fun k hk => ?_) _
    rw [CalSet.getD_map_points _ (fun p => p.b.getD j 0) rfl, CalSet.getD_map_points _ (fun p => p.b.getD j 0) rfl, (CalSet.b_acceptPair hk).1]
  refine ⟨?_, ?_, ?_, interpMin_congr (fun k hk => ?_) _⟩
  · rw [CalSet.work_a _ _ hi, interpPeriod_moved ha (by omega)]
    omega
  · have hm := interpMin_moved hmin (by change 0 ≤ ((c.work (pairTemp x y)).minA : Int) + _; omega)
    change (((c.acceptPair false x y now).work (pairTemp x y)).minA : Int) = ((c.work (pairTemp x y)).minA : Int) + _ at hm
    omega
  · rw [CalSet.work, CalSet.work]
    exact List.map_congr_left fun j _ => hb j
  · rw [CalSet.getD_map_points _ (·.minB) rfl, CalSet.getD_map_points _ (·.minB) rfl, (CalSet.b_acceptPair hk).2]

end AcceptPair

/-! ### An oscillator that fails in its calibration -/

/-- A region whose twin has failed. -/
def Region.twinFailed (g : Region) : Region :=
  { g with
    swap := none
    chan := { g.chan with twin := .failed, locked := false, reloadWin := none, st := if g.chan.st = .dead then .dead else .single } }

/-- Outside the end of a calibration and its gap the twin fails at once. -/
theorem State.failTwin_of_idle {s : State} {r : RegionNo} (hend : (s.rgn r).cal.ending = false) (hphase : (s.rgn r).cal.phase ≠ 4) :
    s.failTwin r = s.modRgn r Region.twinFailed := by
  rw [State.failTwin]
  dsimp only
  rw [if_neg (by rw [hend]; exact Bool.false_ne_true), if_neg hphase]
  rfl

theorem Region.twinBack_not_dead {g : Region} (win : Nat) (h : g.chan.st ≠ .dead) : (g.twinBack win).chan.st ≠ .dead := by
  rw [Region.twinBack]
  dsimp only
  split
  · decide
  · exact h

theorem Region.calLeft_chan (g : Region) (c : RgnCal) (e : CalEnd) (win now : Nat) :
    (g.calLeft c e win now).chan.activeB = g.chan.activeB ∧ (g.chan.st ≠ .dead → (g.calLeft c e win now).chan.st ≠ .dead) := by
  rw [Region.calLeft]
  dsimp only
  split
  · exact ⟨rfl, g.twinBack_not_dead win⟩
  · exact ⟨rfl, id⟩

/-- A region that has left is out of every phase of a calibration. -/
theorem RgnCal.synced_phase_le {c : RgnCal} (run test : Bool) (h : c.phase = 0) : (c.synced run test).phase ≤ 2 := by
  rw [RgnCal.synced, if_neg (by rw [RgnCal.running, h]; decide)]
  split
  · exact Nat.le_refl 2
  · split
    · exact Nat.le_succ 1
    · exact Nat.zero_le 2

/-- What the failure of the oscillator that is not the active one leaves. -/
structure State.TwinGone (s t : State) (r : RegionNo) (id arg : Nat) : Prop where
  twin : (t.rgn r).chan.twin = .failed
  st : (t.rgn r).chan.st = .single
  active : (t.rgn r).chan.activeB = (s.rgn r).chan.activeB
  ev : t.ev = (s.raise id arg).ev
  cal : t.cal = (s.calLeave r .failed).cal

theorem State.calLeave_failOsc_spec {s : State} {r : RegionNo} {oscB : Bool} (f : SelfTest) (hwf : s.RegWf)
    (hosc : oscB = !(s.rgn r).chan.activeB) (hlive : (s.rgn r).chan.st ≠ .dead) :
    State.TwinGone s ((s.calLeave r .failed).failOsc r oscB f) r evStFail (calArg r oscB (testRow f)) := by
  have hleft := State.calLeave_spec r .failed hwf
  obtain ⟨run, test, hrgn⟩ := hleft.rgn
  obtain ⟨hactive, hst⟩ := Region.calLeft_chan (s.rgn r) (s.rgn r).cal .failed s.win s.now
  have hne : oscB ≠ ((s.calLeave r .failed).rgn r).chan.activeB := by
    rw [hrgn]
    dsimp only
    rw [hactive, hosc]
    exact Bool.not_ne_self _
  have hend : ((s.calLeave r .failed).rgn r).cal.ending = false := by
    rw [hrgn]
    rfl
  have hphase : ((s.calLeave r .failed).rgn r).cal.phase ≠ 4 := by
    rw [hrgn]
    have := RgnCal.synced_phase_le (c := ((s.rgn r).calLeft (s.rgn r).cal .failed s.win s.now).cal) run test rfl
    dsimp only
    omega
  have hdead : ((s.calLeave r .failed).rgn r).chan.st ≠ .dead := by
    rw [hrgn]
    exact hst hlive
  have hactive' : ((s.calLeave r .failed).rgn r).chan.activeB = (s.rgn r).chan.activeB := by
    rw [hrgn]
    exact hactive
  have hsys : (s.calLeave r .failed).sys = s.sys := hleft.only.same .sys (by decide)
  have hev : (s.calLeave r .failed).ev = s.ev := hleft.only.same .ev (by decide)
  have hwf' := hleft.wf
  generalize hu : s.calLeave r .failed = u at *
  have hraise := State.raise_only u evStFail (calArg r oscB (testRow f))
  have hreg : (u.raise evStFail (calArg r oscB (testRow f))).reg = u.reg := hraise.same .reg (by decide)
  have hsame := State.rgn_congr hreg r
  have hcal : (u.raise evStFail (calArg r oscB (testRow f))).cal = u.cal := hraise.same .cal (by decide)
  have hfail : u.failOsc r oscB f = (u.raise evStFail (calArg r oscB (testRow f))).modRgn r Region.twinFailed := by
    rw [State.failOsc, if_pos hne]
    exact State.failTwin_of_idle (by rw [hsame]; exact hend) (by rw [hsame]; exact hphase)
  have hev' : (u.raise evStFail (calArg r oscB (testRow f))).ev = (s.raise evStFail (calArg r oscB (testRow f))).ev :=
    State.raise_ev_congr _ _ (by rw [hsys]) (by rw [hsys]) hev
  rw [hfail]
  generalize u.raise evStFail (calArg r oscB (testRow f)) = v at *
  have hself : (v.modRgn r Region.twinFailed).rgn r = (u.rgn r).twinFailed := by
    rw [State.rgn_modRgn v r _ (by rw [hreg]; exact hwf'), hsame]
  refine ⟨by rw [hself]; rfl, ?_, by rw [hself]; exact hactive', hev', hcal.trans (congrArg State.cal hu.symm)⟩
  rw [hself, Region.twinFailed]
  exact if_neg hdead

/-! ### A run that is void -/

/-- A run outside its bounds: the trip, the supply, or the temperature that moved. -/
def runOutside (x : RunResult) (vref : Nat) : Prop := x.tripped = true ∨ supplyOk vref x.supply = false ∨ 16 < x.moved

section TwinRun
variable {s : State} {r : RegionNo} {oscB : Bool} {x : RunResult}

theorem State.twinRun_of_outside (h : runOutside x (s.setFor r).vref) : s.twinRun r oscB x = s.voidRun r oscB := by
  unfold runOutside at h
  rw [State.twinRun]
  exact if_pos (by simpa using h)

theorem State.voidRun_of_few (h : (s.rgn r).cal.voids < 3) : s.voidRun r oscB =
    (s.voids 1).modRgn r fun g => { g with cal := ({ g.cal with voids := (s.rgn r).cal.voids + 1 } : RgnCal).nextRun s.win } := by
  rw [State.voidRun]
  exact if_pos (by omega)

/-- The fourth void run in a row, told, and noted as one not to be repeated for 64 windows. -/
def State.voidTold (s : State) (r : RegionNo) (oscB : Bool) : State :=
  ((s.voids 1).raise evCalVoid (calArg r oscB 0)).modRgn r fun g => { g with cal := { g.cal with retryWin := s.win + 64 } }

theorem State.voidRun_of_fourth (h : (s.rgn r).cal.voids = 3) : s.voidRun r oscB = (s.voidTold r oscB).calLeave r .void := by
  have hwin : ((s.voids 1).raise evCalVoid (calArg r oscB 0)).win = s.win := by
    rw [State.win, State.win, State.raise_sys]
    rfl
  rw [State.voidRun]
  dsimp only
  rw [if_neg (by omega), hwin]
  rfl

theorem State.rgn_voidTold (hwf : s.RegWf) :
    (s.voidTold r oscB).rgn r = { s.rgn r with cal := { (s.rgn r).cal with retryWin := s.win + 64 } } := by
  have hreg : ((s.voids 1).raise evCalVoid (calArg r oscB 0)).reg = s.reg := (State.raise_only _ _ _).same .reg (by decide)
  rw [State.voidTold, State.rgn_modRgn _ r _ (by rw [hreg]; exact hwf), State.rgn_congr hreg r]

theorem Region.calLeft_standby {g : Region} {c : RgnCal} (e : CalEnd) (win now : Nat) (hrun : c.running = true) (hbusy : g.chan.twin = .busy)
    (hswap : g.swap = none) : (g.calLeft c e win now).chan.twin = .standby := by
  rw [Region.calLeft, hrun, hbusy, hswap]
  rfl

theorem RgnCal.running_of_phase {c : RgnCal} {n : Nat} (h : c.phase = n) (hn : 3 ≤ n) : c.running = true := by
  rw [RgnCal.running, h]
  exact decide_eq_true hn

/-- What four void runs in a row leave. -/
structure State.PutOff (s t : State) (r : RegionNo) (oscB : Bool) : Prop where
  retry : (t.rgn r).cal.retryWin = s.win + 64
  running : (t.rgn r).cal.running = false
  twin : (t.rgn r).chan.twin = .standby
  free : r ∉ t.cal.busy
  ev : t.ev = (s.raise evCalVoid (calArg r oscB 0)).ev

theorem State.voidRun_putOff (hwf : s.RegWf) (hvoids : (s.rgn r).cal.voids = 3) (hswap : (s.rgn r).swap = none)
    (hbusy : (s.rgn r).chan.twin = .busy) (hphase : (s.rgn r).cal.phase = 3) : State.PutOff s (s.voidRun r oscB) r oscB := by
  rw [State.voidRun_of_fourth hvoids]
  have hself := State.rgn_voidTold (s := s) (r := r) (oscB := oscB) hwf
  have hreg : ((s.voids 1).raise evCalVoid (calArg r oscB 0)).reg = s.reg := (State.raise_only _ _ _).same .reg (by decide)
  have hwf' : (s.voidTold r oscB).RegWf := State.modRgn_wf _ r _ (by rw [hreg]; exact hwf)
  have hev : (s.voidTold r oscB).ev = (s.raise evCalVoid (calArg r oscB 0)).ev := State.raise_ev_congr (s := s) (t := s.voids 1) _ _ rfl rfl rfl
  have hleft := State.calLeave_spec r .void hwf'
  obtain ⟨run, test, hrgn⟩ := hleft.rgn
  rw [hself] at hrgn
  refine ⟨by rw [hrgn]; rfl, by rw [hrgn]; exact RgnCal.synced_running _ _ rfl, ?_, ?_, ?_⟩
  · rw [hrgn]
    exact Region.calLeft_standby (g := { s.rgn r with cal := { (s.rgn r).cal with retryWin := s.win + 64 } }) .void
      (s.voidTold r oscB).win (s.voidTold r oscB).now (RgnCal.running_of_phase (c := { (s.rgn r).cal with retryWin := s.win + 64 }) hphase (Nat.le_refl 3)) hbusy hswap
  · rw [hleft.cal]
    exact not_mem_filter_ne _ r
  · exact (hleft.only.same .ev (by decide)).trans hev

/-! ### A run within its bounds -/

variable (hin : ¬ runOutside x (s.setFor r).vref)
include hin

/-- Values that do not fall fail the oscillator's coverage. -/
theorem State.twinRun_of_flat (hflat : runFalls x = false) : s.twinRun r oscB x = (s.calLeave r .failed).failOsc r oscB .coverage := by
  unfold runOutside at hin
  rw [State.twinRun]
  dsimp only
  rw [if_neg (by simpa using hin), if_pos (by rw [hflat]; rfl)]

/-- The run as it is recorded. -/
def State.runRec (s : State) (r : RegionNo) (x : RunResult) : RunRec :=
  ⟨x.periods, minCodeOf x.d (s.setFor r).kv (s.setFor r).vref x.supply, x.temp, x.supply⟩

/-- The region with its runs, those without effect among them counted as void. -/
def State.runsNoted (s : State) (r : RegionNo) (runs : List RunRec) (gone : Nat) : State :=
  (s.voids gone).modRgn r fun g => { g with cal := ({ g.cal with runs := runs, voids := 0 } : RgnCal).nextRun s.win }

variable (hfalls : runFalls x = true) (hmin : (s.runRec r x).min ≤ 1280)
include hfalls hmin

theorem State.twinRun_of_first (hnone : (s.rgn r).cal.runs = []) : s.twinRun r oscB x = s.runsNoted r [s.runRec r x] 0 := by
  have hjoin (a : RunRec) : (s.rgn r).cal.join a = ([a], 0) := by rw [RgnCal.join, hnone]
  unfold runOutside at hin
  have hmin' : ¬ 1280 < minCodeOf x.d (s.setFor r).kv (s.setFor r).vref x.supply := Nat.not_lt.2 hmin
  simp only [State.twinRun, if_neg (show ¬ (x.tripped = true ∨ (!supplyOk (s.setFor r).vref x.supply) = true ∨ 16 < x.moved) by simpa using hin),
    hfalls, Bool.not_true, Bool.false_eq_true, if_false, if_neg hmin', hjoin, judge]
  rfl

theorem State.twinRun_of_pair {y : RunRec} (hone : (s.rgn r).cal.runs = [y]) (hagree : y.agree (s.runRec r x) = true) :
    s.twinRun r oscB x = (((s.runsNoted r [y, s.runRec r x] 0).modRgn r fun g => { g with cal := g.cal.setTriples oscB 0 }).accepted r
      ((s.setFor r).acceptPair oscB y (s.runRec r x) s.now)).calStep r true := by
  have hnear : (y.temp - (s.runRec r x).temp).natAbs ≤ 16 := by
    rw [RunRec.agree, Bool.and_eq_true, decide_eq_true_eq] at hagree
    exact hagree.2
  have hjoin : (s.rgn r).cal.join (s.runRec r x) = ([y, s.runRec r x], 0) := by
    rw [RgnCal.join, hone]
    exact if_neg (by omega)
  unfold State.runRec at *
  unfold runOutside at hin
  simp only [State.twinRun, if_neg (show ¬ (x.tripped = true ∨ (!supplyOk (s.setFor r).vref x.supply) = true ∨ 16 < x.moved) by simpa using hin),
    hfalls, Bool.not_true, Bool.false_eq_true, if_false, if_neg (Nat.not_lt.2 hmin), hjoin, judge, hagree, if_true]
  rfl

end TwinRun

/-! ### A pair accepted -/

/-- A working set sent leaves a region's oscillators. -/
theorem State.workingSet_chan {s : State} (r : RegionNo) (hwf : s.RegWf) : ((s.workingSet r).rgn r).chan = (s.rgn r).chan := by
  have hdue (b : Bool) : ((s.modRgn r fun g => { g with wsDue := b }).rgn r).chan = (s.rgn r).chan := by rw [s.rgn_modRgn r _ hwf]
  cases hT : s.regionTemp r with
  | none => rw [State.workingSet_of_none hT]
  | some T =>
    rw [State.workingSet_of_some hT]
    split
    · split
      · have hkept := (State.CoreKept.refl (s.modRgn_wf r (fun g => { g with wsDue := false }) hwf)).sendMsg r
          (.calset ((s.setFor r).work T) (s.setFor r).vref)
        exact (congrArg Region.chan (hkept.region r)).trans (hdue false)
      · exact hdue true
    · rfl

theorem State.setFor_putSetFor {s : State} (r : RegionNo) (c : CalSet) (hsets : Map.wf none s.cal.sets = true)
    (hspares : Map.wf none s.cal.spares = true) : (s.putSetFor r c).setFor r = c := by
  unfold State.putSetFor
  split
  case isTrue h =>
    have hget := Map.get_put_self none (districtOf r) (some c) (Map.wf_rising hspares)
    refine (if_pos h).trans ?_
    rw [State.spareSet, show (s.putSpareSet (districtOf r) c).cal.spares = Map.put none s.cal.spares (districtOf r) (some c) from rfl, hget]
    rfl
  case isFalse h =>
    have hget := Map.get_put_self none (denseOf r) (some c) (Map.wf_rising hsets)
    refine (if_neg h).trans ?_
    rw [State.regionSet, show (s.putRegionSet r c).cal.sets = Map.put none s.cal.sets (denseOf r) (some c) from rfl, hget]
    rfl

/-- What an accepted set leaves: the set, and the region but for its working set's message. -/
structure State.SetAccepted (s t : State) (r : RegionNo) (c : CalSet) : Prop where
  set : t.setFor r = c
  cal : (t.rgn r).cal = (s.rgn r).cal
  chan : (t.rgn r).chan = (s.rgn r).chan
  wf : t.RegWf
  only : Only [.reg, .cal] s t

theorem State.accepted_spec {s : State} (r : RegionNo) (c : CalSet) (hwf : s.RegWf) (hsets : Map.wf none s.cal.sets = true)
    (hspares : Map.wf none s.cal.spares = true) : State.SetAccepted s (s.accepted r c) r c := by
  have honly := (Keeps.accepted_keeps (gs := [.reg, .cal]) (by decide) (Keeps.refl s) r c).only
  have hput : (s.putSetFor r c).reg = s.reg :=
    (Keeps.putSetFor_keeps (gs := [.cal]) (by decide) (Keeps.refl s) r c).only.same .reg (by decide)
  have hset := State.setFor_putSetFor r c hsets hspares
  rw [State.accepted] at *
  generalize s.putSetFor r c = u at *
  have hwf1 : (u.suspectSync r).RegWf := by
    rw [State.RegWf, show (u.suspectSync r).reg = u.reg from rfl, hput]
    exact hwf
  have hsame1 : (u.suspectSync r).rgn r = s.rgn r := State.rgn_congr (show (u.suspectSync r).reg = s.reg from hput) r
  have hset1 : (u.suspectSync r).setFor r = c := hset
  generalize u.suspectSync r = v at *
  have hself := v.rgn_modRgn r (fun g => { g with wsDue := true }) hwf1
  have hset2 : (v.modRgn r fun g => { g with wsDue := true }).setFor r = c :=
    ((State.modRgn_dueStep r _ hwf1).sameSets.setFor (by rw [hself])).trans hset1
  have hwf2 : (v.modRgn r fun g => { g with wsDue := true }).RegWf := v.modRgn_wf r _ hwf1
  generalize (v.modRgn r fun g => { g with wsDue := true }) = w at *
  have hchan := State.workingSet_chan r hwf2
  refine ⟨((State.workingSet_dueStep r hwf2).sameSets.setFor hchan).trans hset2, ?_, ?_, (State.workingSet_dueStep r hwf2).wf, honly⟩
  · rw [State.workingSet_rgnCal r hwf2, hself, hsame1]
  · rw [hchan, hself, hsame1]

theorem Region.twinBack_cal (g : Region) (win : Nat) : (g.twinBack win).cal = g.cal := by
  have hload (b : Bool) (c : Nat) : (g.load b c).cal = g.cal := by
    rw [Region.load]
    split
    · rfl
    · dsimp only
      split <;> rfl
  exact hload _ _

/-- A calibration whose twin is accepted first: its runs are over. -/
def Region.runsOver (g : Region) : Region := { g with cal := { g.cal with runs := [], reduced := [], voids := 0, gapWins := 0 } }

/-- The twin stands by for the swap. -/
def Region.halfDone (g : Region) : Region := { g with cal := { g.cal with half := true, phase := 4 } }

theorem State.calStep_of_native {s : State} {r : RegionNo} (hphase : (s.rgn r).cal.phase = 3) (hboth : (s.rgn r).cal.twinOnly = false) :
    s.calStep r true = ((s.modRgn r Region.runsOver).twinBack r).modRgn r Region.halfDone := by
  rw [State.calStep]
  dsimp only
  rw [if_pos ⟨rfl, hphase, by rw [hboth]; rfl⟩]
  rfl

/-- What the twin's acceptance leaves, with its region's set in force. -/
structure State.HalfDone (s t : State) (r : RegionNo) : Prop where
  rgn : t.rgn r = (((s.rgn r).runsOver).twinBack s.win).halfDone
  same : State.SameSets s t

theorem State.calStep_halfDone {s : State} {r : RegionNo} (hwf : s.RegWf) (hphase : (s.rgn r).cal.phase = 3)
    (hboth : (s.rgn r).cal.twinOnly = false) : State.HalfDone s (s.calStep r true) r := by
  rw [State.calStep_of_native hphase hboth]
  have h1 := s.modRgn_wf r Region.runsOver hwf
  have h2 : ((s.modRgn r Region.runsOver).twinBack r).RegWf := State.modRgn_wf _ r _ h1
  have hback : ((s.modRgn r Region.runsOver).twinBack r).rgn r = (s.rgn r).runsOver.twinBack s.win := by
    rw [State.twinBack, State.rgn_modRgn _ r _ h1, s.rgn_modRgn r _ hwf]
    rfl
  refine ⟨by rw [State.rgn_modRgn _ r _ h2, hback], ?_⟩
  exact (((State.modRgn_dueStep r _ hwf).trans (State.modRgn_dueStep r _ h1)).trans (State.modRgn_dueStep r _ h2)).sameSets

/-- What the second run that agrees leaves. -/
structure State.PairDone (s t : State) (r : RegionNo) (c : CalSet) : Prop where
  set : t.setFor r = c
  phase : (t.rgn r).cal.phase = 4
  half : (t.rgn r).cal.half = true
  twin : (t.rgn r).chan.twin = .standby
  locked : (t.rgn r).chan.locked = false
  reload : (t.rgn r).chan.reloadWin = some (s.win + 4)
  runs : (t.rgn r).cal.runs = []
  only : Only [.reg, .cal] s t

theorem RgnCal.setTriples_phase (c : RgnCal) (oscB : Bool) (n : Nat) :
    (c.setTriples oscB n).phase = c.phase ∧ (c.setTriples oscB n).twinOnly = c.twinOnly := by
  rw [RgnCal.setTriples]
  split <;> exact ⟨rfl, rfl⟩

theorem State.rgn_runsNoted {s : State} (r : RegionNo) (runs : List RunRec) (gone : Nat) (hwf : s.RegWf) : (s.runsNoted r runs gone).rgn r =
    { s.rgn r with cal := ({ (s.rgn r).cal with runs := runs, voids := 0 } : RgnCal).nextRun s.win } := State.rgn_modRgn _ r _ hwf

theorem State.pairDone {s : State} {r : RegionNo} (oscB : Bool) (runs : List RunRec) (c : CalSet) (hwf : s.RegWf)
    (hsets : Map.wf none s.cal.sets = true) (hspares : Map.wf none s.cal.spares = true) (hphase : (s.rgn r).cal.phase = 3)
    (hboth : (s.rgn r).cal.twinOnly = false) : State.PairDone s
      ((((s.runsNoted r runs 0).modRgn r fun g => { g with cal := g.cal.setTriples oscB 0 }).accepted r c).calStep r true) r c := by
  have hnoted := State.rgn_runsNoted r runs 0 hwf
  have h1 : (s.runsNoted r runs 0).RegWf := State.modRgn_wf _ r _ hwf
  have honly1 : Only [.reg, .cal] s (s.runsNoted r runs 0) :=
    (Keeps.modRgn_keeps (gs := [.reg, .cal]) (by decide) (Keeps.voids_keeps (by decide) (Keeps.refl s) 0) r _).only
  have hcal1 : (s.runsNoted r runs 0).cal.sets = s.cal.sets ∧ (s.runsNoted r runs 0).cal.spares = s.cal.spares := ⟨rfl, rfl⟩
  generalize s.runsNoted r runs 0 = u at *
  have hself := u.rgn_modRgn r (fun g => { g with cal := g.cal.setTriples oscB 0 }) h1
  have h2 := u.modRgn_wf r (fun g => { g with cal := g.cal.setTriples oscB 0 }) h1
  have honly2 := honly1.trans (State.modRgn_dueStep r (fun g => { g with cal := g.cal.setTriples oscB 0 }) h1).only
  have hcal2 : (u.modRgn r fun g => { g with cal := g.cal.setTriples oscB 0 }).cal = u.cal := rfl
  generalize (u.modRgn r fun g => { g with cal := g.cal.setTriples oscB 0 }) = v at *
  have hacc := State.accepted_spec r c h2 (by rw [hcal2, hcal1.1]; exact hsets) (by rw [hcal2, hcal1.2]; exact hspares)
  generalize v.accepted r c = w at *
  obtain ⟨ht, ht'⟩ := RgnCal.setTriples_phase (u.rgn r).cal oscB 0
  have hcalv : (v.rgn r).cal = (u.rgn r).cal.setTriples oscB 0 := by rw [hself]
  have hcalu : (u.rgn r).cal = ({ (s.rgn r).cal with runs := runs, voids := 0 } : RgnCal).nextRun s.win := by rw [hnoted]
  have hdone := State.calStep_halfDone hacc.wf (by rw [hacc.cal, hcalv, ht, hcalu]; exact hphase) (by rw [hacc.cal, hcalv, ht', hcalu]; exact hboth)
  have honly := (honly2.trans hacc.only).trans hdone.same.only
  have hwin : w.win = s.win := by
    rw [State.win, State.win, (honly2.trans hacc.only).same .sys (by decide)]
  obtain ⟨hrgn, hsame⟩ := hdone
  have hspare : (((w.rgn r).runsOver.twinBack w.win).halfDone).chan.onSpare = (w.rgn r).chan.onSpare := rfl
  have hset : (w.calStep r true).setFor r = w.setFor r := by
    rw [State.setFor, State.setFor, hsame.spareSet, hsame.regionSet, hrgn, hspare]
  rw [hwin] at hrgn
  refine ⟨hset.trans hacc.set, by rw [hrgn]; rfl, by rw [hrgn]; rfl, by rw [hrgn]; rfl, by rw [hrgn]; rfl, by rw [hrgn]; rfl, ?_, honly⟩
  have hcal := Region.twinBack_cal (w.rgn r).runsOver s.win
  have hruns : (((w.rgn r).runsOver.twinBack s.win).halfDone).cal.runs = ((w.rgn r).runsOver.twinBack s.win).cal.runs := rfl
  rw [hrgn, hruns, hcal]
  rfl

/-! ### Self-tests -/

/-- The self-test measured: its report noted. -/
def State.testNoted (s : State) (r : RegionNo) (failed : Option SelfTest) : State :=
  s.modRgn r fun g => { g with cal := { g.cal with report := testReport false failed } }

section SelfTest
variable {s : State} {r : RegionNo} (hphase : (s.rgn r).cal.phase = 7) (hgap : (s.rgn r).cal.gap = false)
  (hosc : (s.rgn r).cal.oscB = !(s.rgn r).chan.activeB)
include hphase hgap hosc

theorem exec_selftestComplete_pass : exec (.selftestComplete r (s.rgn r).cal.oscB none) s =
    .next ((({ s.testNoted r none with cal := { (s.testNoted r none).cal with stPass := sat16 (s.testNoted r none).cal.stPass 1 } } :
      State).twinBack r).calLeave r .accepted) := by
  have hactive : decide ((s.rgn r).cal.oscB = (s.rgn r).chan.activeB) = false := decide_eq_false (by rw [hosc]; exact Bool.not_ne_self _)
  have hrun : exec (.selftestComplete r (s.rgn r).cal.oscB none) s = execSelftestComplete r (s.rgn r).cal.oscB none s := rfl
  rw [hrun, execSelftestComplete]
  dsimp only
  rw [hactive, if_neg (by simp [hphase, hgap])]
  rfl

theorem exec_selftestComplete_fail (f : SelfTest) : exec (.selftestComplete r (s.rgn r).cal.oscB (some f)) s =
    .next ((({ s.testNoted r (some f) with cal := { (s.testNoted r (some f)).cal with
      stFail := sat16 (s.testNoted r (some f)).cal.stFail 1 } } : State).calLeave r .failed).failOsc r (s.rgn r).cal.oscB f) := by
  have hactive : decide ((s.rgn r).cal.oscB = (s.rgn r).chan.activeB) = false := decide_eq_false (by rw [hosc]; exact Bool.not_ne_self _)
  have hrun : exec (.selftestComplete r (s.rgn r).cal.oscB (some f)) s = execSelftestComplete r (s.rgn r).cal.oscB (some f) s := rfl
  rw [hrun, execSelftestComplete]
  dsimp only
  rw [hactive, if_neg (by simp [hphase, hgap])]
  rfl

end SelfTest

/-- A run in the steps of a calibration on the standby twin is taken. -/
theorem exec_calRunComplete_twin {s : State} {r : RegionNo} {oscB : Bool} {x : RunResult} (hboot : s.calBooting r = false)
    (htest : (s.rgn r).cal.test = false) (hend : (s.rgn r).cal.ending = false) (hlong : 8 ≤ x.samples)
    (hosc : oscB = !(s.rgn r).chan.activeB) (hbusy : (s.rgn r).chan.twin = .busy) (hphase : (s.rgn r).cal.phase = 3) :
    exec (.calRunComplete r oscB (.full x)) s = .next (s.twinRun r oscB x) := by
  have hrun : exec (.calRunComplete r oscB (.full x)) s = execCalRunComplete r oscB (.full x) s := rfl
  rw [hrun, execCalRunComplete]
  rw [if_neg (by omega), if_neg (by rw [hboot]; exact Bool.false_ne_true), if_neg (by simp [htest, hend, hosc, hbusy]), if_pos (.inl hphase)]

/-- Settles O39: a run is taken on the twin that is measured, and its bounds, its slope and its code decide what it leaves; the set accepted
gives back what the pair measured, since the points about its temperature have all moved by one amount. -/
theorem runsAreJudged : Obligations.RunsAreJudged := by
  refine ⟨fun r oscB x s hreg hboot htest hend hlong hosc hbusy hphase => ⟨?few, ?fourth, ?inside⟩, ?short, ?moved, ?passed, ?measured, ?verdict, ?failed⟩
  case few =>
    intro hout hvoids
    have hrun := exec_calRunComplete_twin hboot htest hend hlong hosc hbusy hphase
    have hself := (s.voids 1).rgn_modRgn r
      (fun g => { g with cal := ({ g.cal with voids := (s.rgn r).cal.voids + 1 } : RgnCal).nextRun s.win }) hreg.regions
    have honly : Only [.reg, .cal] s ((s.voids 1).modRgn r
        (fun g => { g with cal := ({ g.cal with voids := (s.rgn r).cal.voids + 1 } : RgnCal).nextRun s.win })) :=
      (Keeps.modRgn_keeps (gs := [.reg, .cal]) (by decide) (Keeps.voids_keeps (by decide) (Keeps.refl s) 1) r _).only
    rw [State.twinRun_of_outside hout, State.voidRun_of_few hvoids] at hrun
    exact ⟨_, hrun, hself, rfl, honly⟩
  case fourth =>
    intro hout hvoids hswap
    have h := State.voidRun_putOff (oscB := oscB) hreg.regions hvoids hswap hbusy hphase
    exact ⟨_, (exec_calRunComplete_twin hboot htest hend hlong hosc hbusy hphase).trans (congrArg Host.Outcome.next (State.twinRun_of_outside hout)),
      h.retry, h.running, h.twin, h.free, h.ev⟩
  case inside =>
    intro htrip hsupply hmoved
    have hin : ¬ runOutside x (s.setFor r).vref := by
      rintro (h | h | h)
      · exact Bool.false_ne_true (htrip.symm.trans h)
      · exact Bool.false_ne_true (h.symm.trans hsupply)
      · omega
    have hrun := exec_calRunComplete_twin hboot htest hend hlong hosc hbusy hphase
    refine ⟨fun hflat hlive => ?_, fun hfalls hmin hnone => ?_, fun y hfalls hmin hone hagree hboth hsets hspares => ?_⟩
    · have h := State.calLeave_failOsc_spec .coverage hreg.regions hosc hlive
      exact ⟨_, hrun.trans (congrArg Host.Outcome.next (State.twinRun_of_flat hin hflat)), h.twin, h.st, h.active, h.ev⟩
    · have honly : Only [.reg, .cal] s (s.runsNoted r [s.runRec r x] 0) :=
        (Keeps.modRgn_keeps (gs := [.reg, .cal]) (by decide) (Keeps.voids_keeps (by decide) (Keeps.refl s) 0) r _).only
      exact ⟨_, hrun.trans (congrArg Host.Outcome.next (State.twinRun_of_first hin hfalls hmin hnone)),
        State.rgn_runsNoted r _ 0 hreg.regions, honly⟩
    · have h := State.pairDone oscB [y, s.runRec r x] ((s.setFor r).acceptPair oscB y (s.runRec r x) s.now) hreg.regions hsets hspares
        hphase hboth
      exact ⟨_, hrun.trans (congrArg Host.Outcome.next (State.twinRun_of_pair hin hfalls hmin hone hagree)),
        h.set, h.phase, h.half, h.twin, h.locked, h.reload, h.runs, h.only⟩
  case short => exact fun r oscB x s hshort => if_pos hshort
  case moved => exact fun c x y now i hi hfit => CalSet.work_acceptPair hi hfit
  case passed =>
    intro r s hreg hphase htest hgap hosc
    have hrun := exec_selftestComplete_pass hphase hgap hosc
    have hwf1 : (s.testNoted r none).RegWf := s.modRgn_wf r _ hreg.regions
    have hself1 : (s.testNoted r none).rgn r = { s.rgn r with cal := { (s.rgn r).cal with report := testReport false none } } :=
      s.rgn_modRgn r _ hreg.regions
    have hpass1 : (s.testNoted r none).cal.stPass = s.cal.stPass := rfl
    have hsys1 : (s.testNoted r none).sys = s.sys := rfl
    generalize s.testNoted r none = u at *
    have hself2 : (({ u with cal := { u.cal with stPass := sat16 u.cal.stPass 1 } } : State).twinBack r).rgn r = (u.rgn r).twinBack u.win :=
      State.rgn_modRgn _ r _ hwf1
    have hwf2 : (({ u with cal := { u.cal with stPass := sat16 u.cal.stPass 1 } } : State).twinBack r).RegWf := State.modRgn_wf _ r _ hwf1
    have hcal2 : (({ u with cal := { u.cal with stPass := sat16 u.cal.stPass 1 } } : State).twinBack r).cal =
      { u.cal with stPass := sat16 u.cal.stPass 1 } := rfl
    have hsys2 : (({ u with cal := { u.cal with stPass := sat16 u.cal.stPass 1 } } : State).twinBack r).sys = u.sys := rfl
    generalize (({ u with cal := { u.cal with stPass := sat16 u.cal.stPass 1 } } : State).twinBack r) = v at *
    have hleft := State.calLeave_spec r .accepted hwf2
    obtain ⟨run, test, hrgn⟩ := hleft.rgn
    have htwin : (v.rgn r).chan.twin = .standby := by rw [hself2]; rfl
    have hreload : (v.rgn r).chan.reloadWin = some (s.win + 4) := by
      rw [hself2, State.win, hsys1]
      rfl
    have hcalv : (v.rgn r).cal.test = true := by
      rw [hself2, Region.twinBack_cal, hself1]
      exact htest
    have hleftChan : ((v.rgn r).calLeft (v.rgn r).cal .accepted v.win v.now).chan = (v.rgn r).chan := by
      rw [Region.calLeft, htwin]
      simp
    refine ⟨_, hrun, by rw [hleft.cal, hcal2, hpass1], by rw [hrgn]; exact (congrArg Chan.twin hleftChan).trans htwin,
      by rw [hrgn]; exact (congrArg Chan.reloadWin hleftChan).trans hreload, ?_, by rw [hrgn]; exact RgnCal.synced_running _ _ rfl, ?_⟩
    · rw [hrgn, RgnCal.synced, Region.calLeft, hcalv, State.now, State.now, hsys2, hsys1]
      rfl
    · rw [hleft.cal]
      exact not_mem_filter_ne _ r
  case measured => exact fun r oscB f m s => rfl
  case verdict => exact fun m c min n quiet => ⟨fun h _ hf => TestMeas.passes_of_fails_none h hf, fun _ h => TestMeas.not_passes_of_fails h⟩
  case failed =>
    intro r f s hreg hphase hgap hosc hlive
    have hrun := exec_selftestComplete_fail hphase hgap hosc f
    have hwf1 : (s.testNoted r (some f)).RegWf := s.modRgn_wf r _ hreg.regions
    have hself1 : (s.testNoted r (some f)).rgn r = { s.rgn r with cal := { (s.rgn r).cal with report := testReport false (some f) } } :=
      s.rgn_modRgn r _ hreg.regions
    have hfail1 : (s.testNoted r (some f)).cal.stFail = s.cal.stFail := rfl
    have hsys1 : (s.testNoted r (some f)).sys = s.sys := rfl
    have hev1 : (s.testNoted r (some f)).ev = s.ev := rfl
    generalize s.testNoted r (some f) = u at *
    have hraise := State.raise_ev_congr (s := s) (t := { u with cal := { u.cal with stFail := sat16 u.cal.stFail 1 } }) evStFail
      (calArg r (s.rgn r).cal.oscB (testRow f)) (congrArg Sys.epoch hsys1) (congrArg Sys.erg hsys1) hev1
    have hwf2 : ({ u with cal := { u.cal with stFail := sat16 u.cal.stFail 1 } } : State).RegWf := hwf1
    have hself2 : ({ u with cal := { u.cal with stFail := sat16 u.cal.stFail 1 } } : State).rgn r = u.rgn r := rfl
    have hcal2 : ({ u with cal := { u.cal with stFail := sat16 u.cal.stFail 1 } } : State).cal.stFail = sat16 u.cal.stFail 1 := rfl
    generalize ({ u with cal := { u.cal with stFail := sat16 u.cal.stFail 1 } } : State) = v at *
    have h := State.calLeave_failOsc_spec (oscB := (s.rgn r).cal.oscB) f hwf2 (by rw [hself2, hself1]; exact hosc)
      (by rw [hself2, hself1]; exact hlive)
    refine ⟨_, hrun, ?_, h.twin, h.st, h.ev.trans hraise⟩
    rw [h.cal, (State.calLeave_spec r .failed hwf2).cal]
    exact hcal2.trans (by rw [hfail1])

end Sys2Proof.Machine
end

section
/-! SUPPORT. O40: region sensors, rings, and what a frame's end does (R252, R254-R262, R266). -/
namespace Sys2Proof.Machine
open Sys2Proof.Safety

/-! ### Levels -/

/-- The highest threshold reached above a level, as the levels are gone through. -/
def State.levelUp (s : State) (t : Int) (ks : List Nat) (l : Nat) : Nat := ks.foldl (fun a k => if a < k ∧ s.levelTh k ≤ t then k else a) l

theorem State.levelUp_ge (s : State) (t : Int) (ks : List Nat) (l : Nat) : l ≤ s.levelUp t ks l := by
  induction ks generalizing l with
  | nil => exact Nat.le_refl l
  | cons k ks ih =>
    refine Nat.le_trans ?_ (ih _)
    dsimp only
    split <;> omega

theorem State.le_levelUp {s : State} {t : Int} {k : Nat} (hth : s.levelTh k ≤ t) {ks : List Nat} (hk : k ∈ ks) (l : Nat) : k ≤ s.levelUp t ks l := by
  induction ks generalizing l with
  | nil => exact absurd hk (List.not_mem_nil)
  | cons j ks ih =>
    rcases List.mem_cons.1 hk with rfl | hk
    · refine Nat.le_trans ?_ (s.levelUp_ge t ks _)
      dsimp only
      split <;> omega
    · exact ih hk _

theorem State.levelUp_of_none {s : State} {t : Int} {l : Nat} {ks : List Nat} (h : ∀ k ∈ ks, l < k → t < s.levelTh k) : s.levelUp t ks l = l := by
  induction ks with
  | nil => rfl
  | cons k ks ih =>
    have hk : ¬ (l < k ∧ s.levelTh k ≤ t) := fun hc => absurd (h k (List.mem_cons_self ..) hc.1) (Int.not_lt.2 hc.2)
    rw [State.levelUp, List.foldl_cons, if_neg hk]
    exact ih fun j hj => h j (List.mem_cons_of_mem _ hj)

theorem State.levelAt_eq (s : State) (l : Nat) (t : Int) : s.levelAt l t =
    if l < s.levelUp t (List.range 5) l then s.levelUp t (List.range 5) l else if 0 < l ∧ l < 4 ∧ t ≤ s.levelTh l - 48 then l - 1 else l := rfl

theorem State.le_levelAt {s : State} {l k : Nat} {t : Int} (hl : l < k) (hk : k ≤ 4) (hth : s.levelTh k ≤ t) : k ≤ s.levelAt l t := by
  have hup := State.le_levelUp hth (ks := List.range 5) (List.mem_range.2 (by omega)) l
  rw [State.levelAt_eq, if_pos (by omega)]
  exact hup

/-- Below every higher threshold the level falls a step or stands. -/
theorem State.levelAt_of_none {s : State} {l : Nat} {t : Int} (h : ∀ k, l < k → k ≤ 4 → t < s.levelTh k) :
    s.levelAt l t = if 0 < l ∧ l < 4 ∧ t ≤ s.levelTh l - 48 then l - 1 else l := by
  have hup : s.levelUp t (List.range 5) l = l := State.levelUp_of_none fun k hk hlk => h k hlk (by have := List.mem_range.1 hk; omega)
  rw [State.levelAt_eq, hup, if_neg (Nat.lt_irrefl l)]

/-! ### A ring's code -/

theorem State.ringCode_spec (s : State) (i j : Nat) (l : Int) :
    let k : Nat := Config.ringK (s.fuse 16) i j
    let d := 16000 * (l - Config.ringLambda (s.fuse 16) i j)
    ∃ q : Int, (s.ringCode i j l = Config.ringTemp (s.fuse 16) i j + q ∨ s.ringCode i j l = Config.ringTemp (s.fuse 16) i j + q + 1 ∧ q * k ≠ d) ∧
      (0 < k → q * k ≤ d ∧ d < (q + 1) * k) := by
  intro k d
  refine ⟨fdiv d k, ?_, fun hk => ?_⟩
  · rw [State.ringCode]
    split
    case isTrue h => exact .inr ⟨rfl, h.1⟩
    case isFalse => exact .inl (Int.add_zero _)
  · have hpos : (0 : Int) < k := Int.natCast_pos.2 hk
    rw [fdiv, Int.fdiv_eq_ediv_of_nonneg _ (Int.le_of_lt hpos)]
    exact ⟨Int.ediv_mul_le _ (Int.ne_of_gt hpos), Int.lt_ediv_add_one_mul_self _ hpos⟩

/-! ### What a call for the throttle overlay leaves -/

/-- The sensors but for what a call for the throttle overlay changes: the ceilings, the causes that wait, and the request. -/
def Sns.steady (x : Sns) : Sns :=
  { x with site := Vector.replicate 23 {}, dueTiles := [], dueSites := [], overlayDue := false, throt := 0 }

/-- What a call for the throttle overlay keeps: the rest of the sensors, the base, each site's level, and without AUTO_OVERLAY its ceiling. -/
structure State.Throttled (s t : State) : Prop where
  steady : t.sns.steady = s.sns.steady
  base : t.cfg.base = s.cfg.base
  sys : t.sys = { s.sys with trip := t.sys.trip }
  trip : s.sys.trip = true → t.sys.trip = true
  level : ∀ i, (t.therm i).level = (s.therm i).level ∧ (t.therm i).prev = (s.therm i).prev
  ceiling : s.autoOverlay = false → ∀ i, t.therm i = s.therm i
  only : Only [.sys, .sns, .cfg, .ev] s t

theorem State.Throttled.refl (s : State) : State.Throttled s s := ⟨rfl, rfl, rfl, id, fun _ => ⟨rfl, rfl⟩, fun _ _ => rfl, (Keeps.refl s).only⟩

theorem State.autoOverlay_congr {s t : State} (h : t.sns.steady = s.sns.steady) : t.autoOverlay = s.autoOverlay :=
  (congrArg (fun x : Sns => bitOf x.ctrl.eff 0) h :)

theorem State.Throttled.trans {s t u : State} (h : State.Throttled s t) (k : State.Throttled t u) : State.Throttled s u :=
  ⟨k.steady.trans h.steady, k.base.trans h.base, by rw [k.sys, h.sys], fun ht => k.trip (h.trip ht),
    fun i => ⟨(k.level i).1.trans (h.level i).1, (k.level i).2.trans (h.level i).2⟩,
    fun hoff i => (k.ceiling ((State.autoOverlay_congr h.steady).trans hoff) i).trans (h.ceiling hoff i), h.only.trans k.only⟩

theorem State.Throttled.raise (s : State) (id arg : Nat) : State.Throttled s (s.raise id arg) := by
  have honly := State.raise_only s id arg
  have hsns : (s.raise id arg).sns = s.sns := honly.same .sns (by decide)
  have hsys : (s.raise id arg).sys = s.sys := honly.same .sys (by decide)
  have htherm (i : Nat) : (s.raise id arg).therm i = s.therm i := by rw [State.therm, State.therm, hsns]
  exact ⟨by rw [hsns], by rw [honly.same .cfg (by decide)], by rw [hsys], fun h => by rw [hsys]; exact h,
    fun i => by rw [htherm]; exact ⟨rfl, rfl⟩, fun _ => htherm, honly.mono (by decide)⟩

/-- One site's ceiling put in place of another, its level and mark standing. -/
theorem State.Throttled.modTherm {s : State} (i : Nat) {f : SiteTherm → SiteTherm} (hlevel : ∀ x, (f x).level = x.level)
    (hprev : ∀ x, (f x).prev = x.prev) (hon : s.autoOverlay = true) : State.Throttled s (s.modTherm i f) := by
  refine ⟨rfl, rfl, rfl, id, fun j => ?_, fun hoff => absurd (hon.symm.trans hoff) (by decide),
    (Keeps.modTherm_keeps (by decide) (Keeps.refl s) i f).only⟩
  have htherm : (s.modTherm i f).therm j = if i = j ∧ j < 23 then f (s.therm j) else s.therm j := by
    rw [State.therm, State.modTherm, vget_vmod]
    rfl
  rw [htherm]
  split
  · exact ⟨hlevel _, hprev _⟩
  · exact ⟨rfl, rfl⟩

/-- The ceiling that the fallback puts on a site. -/
def SiteTherm.fallenBack (x : SiteTherm) (now most : Nat) : SiteTherm := { x.setTc now most with fbAt := some now }

theorem State.Throttled.ceilingFallback {s : State} (sites : List Nat) (arg : Nat) (hon : s.autoOverlay = true) :
    State.Throttled s (s.ceilingFallback sites arg) := by
  have hfold : State.Throttled s (sites.foldl (fun s' i => s'.modTherm i fun x => x.fallenBack s'.now s.ceilMax) s) :=
    List.foldlRecOn sites _ (.refl s) fun t ht i _ =>
      ht.trans (.modTherm i (fun _ => rfl) (fun _ => rfl) ((State.autoOverlay_congr ht.steady).trans hon))
  have hif : State.Throttled s (if s.sys.trip then s
      else sites.foldl (fun s' i => s'.modTherm i fun x => x.fallenBack s'.now s.ceilMax) s) := by
    split
    · exact .refl s
    · exact hfold
  exact hif.trans (.raise _ evThermNoOverlay arg)

theorem State.Throttled.only_cfg {s : State} {c : Cfg} (hbase : c.base = s.cfg.base) : State.Throttled s { s with cfg := c } :=
  ⟨rfl, hbase, rfl, id, fun _ => ⟨rfl, rfl⟩, fun _ _ => rfl, (s.only_cfg c).mono (by decide)⟩

theorem State.Throttled.joinFence (s : State) (kind : FenceKind) (f : Layers → Layers) (mark : Fence → Fence) :
    State.Throttled s (s.joinFence kind f mark) := by
  unfold State.joinFence
  split
  · exact .only_cfg rfl
  · exact .only_cfg rfl

theorem State.Throttled.callThrottle (s : State) : State.Throttled s s.callThrottle.1 := by
  unfold State.callThrottle
  split
  · exact .refl s
  · split
    · exact .refl s
    · dsimp only
      split
      · exact .refl s
      · dsimp only
        exact .joinFence s _ _ _

theorem State.Throttled.throttleCall (s : State) (sites : List Nat) (arg : Nat) (wait : Sns → Sns)
    (hwait : ∀ x b, ({ wait x with overlayDue := b } : Sns).steady = x.steady ∧ (wait x).site = x.site) :
    State.Throttled s (s.throttleCall sites arg wait) := by
  unfold State.throttleCall
  split
  · exact .refl s
  case isFalse hon =>
    split
    · split
      · exact .refl s
      · have hsite := (hwait s.sns false).2
        have htherm (i : Nat) : ({ s with sns := { wait s.sns with overlayDue := s.sns.overlayDue || s.throttleSlot.isSome } } : State).therm i =
            s.therm i := (congrArg (fun v : Vector SiteTherm 23 => vget v {} i) hsite :)
        exact ⟨(hwait s.sns _).1, rfl, rfl, id, fun i => by rw [htherm]; exact ⟨rfl, rfl⟩, fun _ => htherm, (s.only_sns _).mono (by decide)⟩
    · have hcall := State.Throttled.callThrottle s
      dsimp only
      split
      · exact hcall.trans (.ceilingFallback sites arg ((State.autoOverlay_congr hcall.steady).trans (by simpa using hon)))
      · exact hcall

theorem State.Throttled.throttleTile (s : State) (t : Nat) : State.Throttled s (s.throttleTile t) :=
  .throttleCall s _ _ _ fun _ _ => ⟨rfl, rfl⟩

theorem State.Throttled.throttleSite (s : State) (i : Nat) : State.Throttled s (s.throttleSite i) :=
  .throttleCall s _ _ _ fun _ _ => ⟨rfl, rfl⟩

/-! ### A ring period -/

/-- What a tile's ring period keeps: the other tiles and the time of the period. -/
structure State.TileStep (s t : State) (k : Nat) : Prop where
  other : ∀ j, j ≠ k → t.tile j = s.tile j
  ringAt : t.sns.ringAt = s.sns.ringAt
  only : Only [.fresh, .sns, .cfg, .ev] s t

theorem State.Throttled.tile {s t : State} (h : State.Throttled s t) (j : Nat) : t.tile j = s.tile j :=
  (congrArg (fun x : Sns => vget x.tile {} j) h.steady :)

theorem State.tile_raise (s : State) (id arg j : Nat) : (s.raise id arg).tile j = s.tile j := (State.Throttled.raise s id arg).tile j

theorem State.tile_modTile (s : State) (t : Nat) (f : Tile → Tile) (h : t < 64) : (s.modTile t f).tile t = f (s.tile t) :=
  vget_vmod_self _ _ f h

theorem State.tile_modTile_ne (s : State) {t j : Nat} (f : Tile → Tile) (h : j ≠ t) : (s.modTile t f).tile j = s.tile j :=
  vget_vmod_ne _ _ f h

theorem State.TileStep.refl (s : State) (k : Nat) : State.TileStep s s k := ⟨fun _ _ => rfl, rfl, (Keeps.refl s).only⟩

theorem State.TileStep.trans {s t u : State} {k : Nat} (h : State.TileStep s t k) (g : State.TileStep t u k) : State.TileStep s u k :=
  ⟨fun j hj => (g.other j hj).trans (h.other j hj), g.ringAt.trans h.ringAt, h.only.trans g.only⟩

theorem State.TileStep.of_sns {s t : State} (k : Nat) (hsns : t.sns = s.sns) (honly : Only [.fresh, .sns, .cfg, .ev] s t) : State.TileStep s t k :=
  ⟨fun j _ => by rw [State.tile, State.tile, hsns], by rw [hsns], honly⟩

theorem State.TileStep.modTile (s : State) (k : Nat) (f : Tile → Tile) : State.TileStep s (s.modTile k f) k :=
  ⟨fun _ hj => s.tile_modTile_ne f hj, rfl, (Keeps.modTile_keeps (by decide) (Keeps.refl s) k f).only⟩

theorem State.TileStep.raise (s : State) (k id arg : Nat) : State.TileStep s (s.raise id arg) k :=
  .of_sns k ((State.raise_only s id arg).same .sns (by decide)) ((State.raise_only s id arg).mono (by decide))

theorem State.TileStep.raiseIf (s : State) (k : Nat) (c : Bool) (id arg : Nat) : State.TileStep s (State.raiseIf c id arg s) k := by
  rw [State.raiseIf]
  split
  · exact .raise s k id arg
  · exact .refl s k

/-- A tile's readings, where they are not drawn. -/
def Tile.reads (x : Tile) (e r : Int) (elecs rings : Nat) : Tile :=
  { x with
    tElec := e, tRing := r, elecs := elecs, rings := rings
    okElec := decide (2 ≤ elecs), okRing := decide (5 ≤ rings)
    lastRing := if 5 ≤ rings then r else x.lastRing
    bad := if 5 ≤ rings then 0 else x.bad + 1 }

/-- The valid rings of a tile. -/
def State.ringsOf (s : State) (k : Nat) (m : TileMeas) : List Int := if s.toneUp then validRings (s.ringCodes k m.rings) else []

/-- The valid electrical means of a tile. -/
def meansOf (m : TileMeas) : List Int := (m.elec.take 4).filterMap elecMean

theorem State.readTile_of_some {s : State} {k : Nat} {m : TileMeas} {e : Int} (he : maxT (meansOf m) = some e) (hr : s.ringsOf k m ≠ []) :
    s.readTile k m = s.modTile k fun x => x.reads e (meanT (s.ringsOf k m)) (meansOf m).length (s.ringsOf k m).length := by
  unfold meansOf at he
  have hempty : (s.ringsOf k m).isEmpty = false := List.isEmpty_eq_false_iff.2 hr
  unfold State.ringsOf at hempty
  simp only [State.readTile, he, hempty]
  rfl

theorem State.only_drawTemp (s : State) : Only [.fresh, .sns, .cfg, .ev] s s.drawTemp.2 ∧ s.drawTemp.2.sns = s.sns := by
  have honly := (Keeps.drawTemp_keeps (List.Subset.refl _) (Keeps.refl s)).only
  exact ⟨honly.mono (by decide), honly.same .sns (by decide)⟩

theorem State.TileStep.drawTemp (s : State) (k : Nat) : State.TileStep s s.drawTemp.2 k := .of_sns k s.only_drawTemp.2 s.only_drawTemp.1

theorem State.TileStep.drawIf (s : State) (k : Nat) (c : Prop) [Decidable c] (r : Int) :
    State.TileStep s (if c then s.drawTemp else (r, s)).2 k := by
  split
  · exact .drawTemp s k
  · exact .refl s k

theorem State.TileStep.readTile (s : State) (k : Nat) (m : TileMeas) : State.TileStep s (s.readTile k m) k := by
  cases he : maxT ((m.elec.take 4).filterMap elecMean) with
  | none =>
    simp only [State.readTile, he]
    exact ((State.TileStep.drawTemp s k).trans (.drawIf _ k _ _)).trans (.modTile _ k _)
  | some e =>
    simp only [State.readTile, he]
    exact (State.TileStep.drawIf s k _ _).trans (.modTile _ k _)

/-- The tile that governs after the comparison of its readings. -/
def Tile.judged (x : Tile) (now : Nat) : Tile := (if x.trusted then x.agree now else x.compare now).1

theorem State.ringTile_spec (s : State) {k : Nat} (hk : k < 64) (m : TileMeas) :
    State.TileStep s (s.ringTile k m) k ∧ (s.ringTile k m).tile k = ((s.readTile k m).tile k).judged s.now := by
  have hread := State.TileStep.readTile s k m
  have hnow : (s.readTile k m).now = s.now := congrArg Sys.erg (hread.only.same .sys (by decide))
  rw [State.ringTile]
  generalize s.readTile k m = u at *
  have hfault := State.TileStep.raiseIf u k (decide ((u.tile k).bad = 4)) evRingFault (u.tileArg k)
  have htile : (State.raiseIf (decide ((u.tile k).bad = 4)) evRingFault (u.tileArg k) u).tile k = u.tile k := by
    rw [State.raiseIf]
    split
    · exact u.tile_raise _ _ k
    · rfl
  have hnow' : (State.raiseIf (decide ((u.tile k).bad = 4)) evRingFault (u.tileArg k) u).now = s.now :=
    (congrArg Sys.erg (hfault.only.same .sys (by decide))).trans hnow
  generalize State.raiseIf (decide ((u.tile k).bad = 4)) evRingFault (u.tileArg k) u = v at *
  have hstep := hread.trans hfault
  rw [Tile.judged, ← htile, ← hnow']
  dsimp only
  split
  case isTrue htrust =>
    refine ⟨(hstep.trans (.modTile v k _)).trans (.raiseIf _ k _ _ _), ?_⟩
    rw [State.raiseIf]
    split
    · rw [State.tile_raise, v.tile_modTile k _ hk]
    · rw [v.tile_modTile k _ hk]
  case isFalse =>
    have hmod := hstep.trans (.modTile v k fun _ => ((v.tile k).compare v.now).1)
    have hself := v.tile_modTile k (fun _ => ((v.tile k).compare v.now).1) hk
    split
    · have hraise := State.TileStep.raise (v.modTile k fun _ => ((v.tile k).compare v.now).1) k evThermDisagree
        ((v.modTile k fun _ => ((v.tile k).compare v.now).1).tileArg k)
      have hself' := (State.tile_raise (v.modTile k fun _ => ((v.tile k).compare v.now).1) evThermDisagree
        ((v.modTile k fun _ => ((v.tile k).compare v.now).1).tileArg k) k).trans hself
      generalize (v.modTile k fun _ => ((v.tile k).compare v.now).1).raise evThermDisagree
        ((v.modTile k fun _ => ((v.tile k).compare v.now).1).tileArg k) = w at *
      have hcount : State.TileStep w { w with sns := { w.sns with disagree := sat16 w.sns.disagree 1 } } k :=
        ⟨fun _ _ => rfl, rfl, (w.only_sns _).mono (by decide)⟩
      have hself'' : ({ w with sns := { w.sns with disagree := sat16 w.sns.disagree 1 } } : State).tile k = _ := hself'
      generalize ({ w with sns := { w.sns with disagree := sat16 w.sns.disagree 1 } } : State) = z at *
      have hcall := State.Throttled.throttleTile z k
      have honly := (Keeps.throttleTile_keeps (gs := [.fresh, .sns, .cfg, .ev]) (by decide) (Keeps.refl z) k).only
      have hlast : State.TileStep z (z.throttleTile k) k := ⟨fun j _ => hcall.tile j, (congrArg Sns.ringAt hcall.steady :), honly⟩
      exact ⟨((hmod.trans hraise).trans hcount).trans hlast, (hcall.tile k).trans hself''⟩
    · exact ⟨hmod, hself⟩

/-- What the ring periods of several tiles keep. -/
structure State.TilesStep (s t : State) (ks : List Nat) : Prop where
  other : ∀ j, j ∉ ks → t.tile j = s.tile j
  ringAt : t.sns.ringAt = s.sns.ringAt
  only : Only [.fresh, .sns, .cfg, .ev] s t

def State.ringTiles (s : State) (ms : List TileMeas) (ks : List Nat) : State := ks.foldl (fun s t => s.ringTile t (ms.getD t ⟨[], []⟩)) s

theorem State.ringTiles_step (s : State) (ms : List TileMeas) {ks : List Nat} (hks : ∀ k ∈ ks, k < 64) :
    State.TilesStep s (s.ringTiles ms ks) ks := by
  induction ks generalizing s with
  | nil => exact ⟨fun _ _ => rfl, rfl, (Keeps.refl s).only⟩
  | cons k ks ih =>
    have h := (s.ringTile_spec (hks k (List.mem_cons_self ..)) (ms.getD k ⟨[], []⟩)).1
    have g := ih (s.ringTile k (ms.getD k ⟨[], []⟩)) fun j hj => hks j (List.mem_cons_of_mem _ hj)
    refine ⟨fun j hj => ?_, g.ringAt.trans h.ringAt, h.only.trans g.only⟩
    rw [List.mem_cons, not_or] at hj
    exact (g.other j hj.2).trans (h.other j hj.1)

theorem State.ringsOf_congr {s t : State} (hsys : t.sys = s.sys) (hopt : t.opt = s.opt) (k : Nat) (m : TileMeas) :
    t.ringsOf k m = s.ringsOf k m := by
  have hcode : t.ringCode k = s.ringCode k := by
    funext j l
    rw [State.ringCode, State.ringCode, State.fuse, State.fuse, hsys]
  rw [State.ringsOf, State.ringsOf, State.toneUp, State.toneUp, State.ringCodes, State.ringCodes, hopt, hcode]

/-- What a tile reads in a ring period, where both its kinds of sensors give a value. -/
theorem State.tile_ringTiles (s : State) (ms : List TileMeas) (k : Fin 64) {e : Int} (he : maxT (meansOf (ms.getD k ⟨[], []⟩)) = some e)
    (hr : s.ringsOf k (ms.getD k ⟨[], []⟩) ≠ []) : (s.ringTiles ms (List.range 64)).tile k =
      ((s.tile k).reads e (meanT (s.ringsOf k (ms.getD k ⟨[], []⟩))) (meansOf (ms.getD k ⟨[], []⟩)).length
        (s.ringsOf k (ms.getD k ⟨[], []⟩)).length).judged s.now := by
  have hnodup : (List.range 64).Nodup := List.nodup_range
  obtain ⟨before, after, hsplit⟩ := List.append_of_mem (List.mem_range.2 k.isLt)
  have hlt : ∀ j ∈ before ++ k.val :: after, j < 64 := fun j hj => List.mem_range.1 (hsplit ▸ hj)
  rw [hsplit] at hnodup ⊢
  have hbefore : k.val ∉ before := fun h => (List.nodup_append.1 hnodup).2.2 _ h _ (List.mem_cons_self ..) rfl
  have hafter : k.val ∉ after := (List.nodup_cons.1 (List.nodup_append.1 hnodup).2.1).1
  have hfold : s.ringTiles ms (before ++ k.val :: after) =
      ((s.ringTiles ms before).ringTile k (ms.getD k ⟨[], []⟩)).ringTiles ms after := by
    rw [State.ringTiles, List.foldl_append]
    rfl
  have h1 := State.ringTiles_step s ms (ks := before) fun j hj => hlt j (List.mem_append_left _ hj)
  have h2 := (State.ringTiles_step ((s.ringTiles ms before).ringTile k (ms.getD k ⟨[], []⟩)) ms (ks := after)
    fun j hj => hlt j (List.mem_append_right _ (List.mem_cons_of_mem _ hj))).other _ hafter
  have hsys : (s.ringTiles ms before).sys = s.sys := h1.only.same .sys (by decide)
  have hrings := State.ringsOf_congr hsys (h1.only.same .opt (by decide)) k (ms.getD k ⟨[], []⟩)
  have hold := h1.other _ hbefore
  have hnow : (s.ringTiles ms before).now = s.now := congrArg Sys.erg hsys
  rw [hfold, h2]
  generalize s.ringTiles ms before = u at *
  rw [(u.ringTile_spec k.isLt _).2, State.readTile_of_some he (by rw [hrings]; exact hr), u.tile_modTile _ _ k.isLt, hrings, hold, hnow]

/-! ### Levels at a frame's end -/

/-- The level that a site takes at a frame's end. -/
def State.levelNext (s : State) (i : Nat) : Nat :=
  match s.siteGov i with
  | none => (s.therm i).level
  | some T => s.levelAt (s.therm i).level T

/-- TRIP entered: package trip, and its bit of the throttle request. -/
def State.tripNoted (s : State) : State :=
  { s with sys := { s.sys with trip := true }, sns := { s.sns with throt := s.sns.throt ||| word (2 ^ 28) } }

theorem State.Throttled.tripNoted (s : State) : State.Throttled s s.tripNoted :=
  ⟨rfl, rfl, rfl, fun _ => rfl, fun _ => ⟨rfl, rfl⟩, fun _ _ => rfl,
    ((s.only_sys { s.sys with trip := true }).mono (by decide)).trans ((State.only_sns _ { s.sns with throt := s.sns.throt ||| word (2 ^ 28) }).mono
      (by decide))⟩

theorem State.enterLevel_four (s : State) (i : Nat) : s.enterLevel i 4 = (s.raise evThermTrip i).tripNoted := by
  rw [State.enterLevel, if_neg (by decide), if_neg (by decide), if_pos rfl]
  rfl

theorem State.Throttled.enterLevel (s : State) (i l : Nat) : State.Throttled s (s.enterLevel i l) := by
  by_cases h4 : l = 4
  · rw [h4, s.enterLevel_four]
    exact (State.Throttled.raise s evThermTrip i).trans (.tripNoted _)
  · unfold State.enterLevel
    split
    · exact .raise s _ _
    · split
      · exact (State.Throttled.throttleSite s i).trans (.raise _ _ _)
      · exact .refl s

/-- The levels that a site goes through up to its new one. -/
def State.enterLevels (s : State) (i was n : Nat) : State := (List.range n).foldl (fun s k => s.enterLevel i (was + 1 + k)) s

theorem State.Throttled.enterLevels (s : State) (i was n : Nat) : State.Throttled s (s.enterLevels i was n) :=
  List.foldlRecOn _ _ (.refl s) fun t ht _ _ => ht.trans (.enterLevel t i _)

/-- A site that goes up to TRIP trips the package. -/
theorem State.trip_enterLevels (s : State) (i was : Nat) {n : Nat} (hn : was + n = 4) (hpos : 0 < n) : (s.enterLevels i was n).sys.trip = true := by
  obtain ⟨m, rfl⟩ : ∃ m, n = m + 1 := ⟨n - 1, by omega⟩
  rw [State.enterLevels, List.range_succ, List.foldl_append, List.foldl_cons, List.foldl_nil, show was + 1 + m = 4 by omega, State.enterLevel_four]
  rfl

/-- What the levels of some sites at a frame's end leave. -/
structure State.Leveled (s t : State) (is : List Nat) : Prop where
  steady : t.sns.steady = s.sns.steady
  base : t.cfg.base = s.cfg.base
  sys : t.sys = { s.sys with trip := t.sys.trip }
  trip : s.sys.trip = true → t.sys.trip = true
  prev : ∀ j, (t.therm j).prev = (s.therm j).prev
  still : s.autoOverlay = false → ∀ j, (t.therm j).tc = (s.therm j).tc ∧ (t.therm j).fbAt = (s.therm j).fbAt
  level : ∀ j < 23, (t.therm j).level = if j ∈ is then s.levelNext j else (s.therm j).level
  tripped : ∀ j < 23, j ∈ is → (s.therm j).level < 4 → (t.therm j).level = 4 → t.sys.trip = true
  only : Only [.sys, .sns, .cfg, .ev] s t

/-- A site's governing temperature is read off its tiles and regions. -/
theorem State.siteGov_congr {s t : State} (htile : ∀ k, t.tile k = s.tile k) (hbase : t.cfg.base = s.cfg.base)
    (honly : Only [.sys, .sns, .cfg, .ev] s t) (i : Nat) : t.siteGov i = s.siteGov i := by
  have htiles : t.siteTiles i = s.siteTiles i := by
    simp only [State.siteTiles, State.tileSites, hbase]
  have hdie : t.dieAt = s.dieAt := by
    funext j
    rw [State.dieAt, State.dieAt, honly.same .die (by decide)]
  have hrgn : t.rgn = s.rgn := funext fun r => State.rgn_congr (honly.same .reg (by decide)) r
  have hexists : t.regionExists = s.regionExists := by
    funext r
    rw [State.regionExists, State.regionExists, hdie]
  simp only [State.siteGov, htile, htiles, hdie, hrgn, hexists]

theorem State.levelAt_congr {s t : State} (hsteady : t.sns.steady = s.sns.steady) (l : Nat) (T : Int) : t.levelAt l T = s.levelAt l T := by
  have hth : t.levelTh = s.levelTh := by
    funext k
    exact (congrArg (fun x : Sns => 16 * (fld x.thresh.eff (8 * k - 1) (8 * k - 8) : Int)) hsteady :)
  rw [State.levelAt, State.levelAt, hth]

theorem State.levelNext_congr {s t : State} (hsteady : t.sns.steady = s.sns.steady) (hbase : t.cfg.base = s.cfg.base)
    (honly : Only [.sys, .sns, .cfg, .ev] s t) {i : Nat} (hlevel : (t.therm i).level = (s.therm i).level) : t.levelNext i = s.levelNext i := by
  have htile (k : Nat) : t.tile k = s.tile k := (congrArg (fun x : Sns => vget x.tile {} k) hsteady :)
  rw [State.levelNext, State.levelNext, State.siteGov_congr htile hbase honly, hlevel]
  cases s.siteGov i with
  | none => rfl
  | some T => exact State.levelAt_congr hsteady _ T

theorem State.Leveled.nil (s : State) : State.Leveled s s [] :=
  ⟨rfl, rfl, rfl, id, fun _ => rfl, fun _ _ => ⟨rfl, rfl⟩, fun _ _ => rfl, fun _ _ hj => absurd hj List.not_mem_nil, (Keeps.refl s).only⟩

theorem State.Leveled.cons {s t u : State} {i : Nat} {is : List Nat} (h : State.Leveled s t [i]) (g : State.Leveled t u is) (hi : i ∉ is) :
    State.Leveled s u (i :: is) := by
  have hlevel : ∀ j < 23, (u.therm j).level = if j ∈ i :: is then s.levelNext j else (s.therm j).level := by
    intro j hj
    rw [g.level j hj]
    by_cases hjs : j ∈ is
    · have hne : j ≠ i := fun he => hi (he ▸ hjs)
      have hold : (t.therm j).level = (s.therm j).level := by
        rw [h.level j hj, if_neg (by simpa using hne)]
      rw [if_pos hjs, if_pos (List.mem_cons_of_mem _ hjs), State.levelNext_congr h.steady h.base h.only hold]
    · rw [if_neg hjs, h.level j hj]
      simp only [List.mem_cons, hjs, List.not_mem_nil]
  refine ⟨g.steady.trans h.steady, g.base.trans h.base, by rw [g.sys, h.sys], fun ht => g.trip (h.trip ht), fun j => (g.prev j).trans (h.prev j),
    fun hoff j => ?_, hlevel, fun j hj hmem hlow hfour => ?_, h.only.trans g.only⟩
  · have h1 := h.still hoff j
    have h2 := g.still ((State.autoOverlay_congr h.steady).trans hoff) j
    exact ⟨h2.1.trans h1.1, h2.2.trans h1.2⟩
  · by_cases hjs : j ∈ is
    · have hne : j ≠ i := fun he => hi (he ▸ hjs)
      have hold : (t.therm j).level = (s.therm j).level := by
        rw [h.level j hj, if_neg (by simpa using hne)]
      exact g.tripped j hj hjs (by rw [hold]; exact hlow) hfour
    · have hjt : (u.therm j).level = (t.therm j).level := by rw [g.level j hj, if_neg hjs]
      have hji : j = i := (List.mem_cons.1 hmem).resolve_right hjs
      exact g.trip (h.tripped j hj (by rw [hji]; exact List.mem_singleton_self i) hlow (hjt.symm.trans hfour))

theorem State.siteLevel_leveled (s : State) {i : Nat} (hi : i < 23) : State.Leveled s (s.siteLevel i) [i] := by
  have honly := (Keeps.siteLevel_keeps (List.Subset.refl _) (Keeps.refl s) i).only
  cases hgov : s.siteGov i with
  | none =>
    have hsame : s.siteLevel i = s := by rw [State.siteLevel, hgov]
    rw [hsame]
    refine ⟨rfl, rfl, rfl, id, fun _ => rfl, fun _ _ => ⟨rfl, rfl⟩, fun j _ => ?_, fun j _ hj hlow hfour => absurd hfour (by omega), (Keeps.refl s).only⟩
    split
    case isTrue hj => rw [List.mem_singleton.1 hj, State.levelNext, hgov]
    case isFalse => rfl
  | some T =>
    have hnext : s.levelNext i = s.levelAt (s.therm i).level T := by rw [State.levelNext, hgov]
    have hset : s.siteLevel i = (s.modTherm i fun x => { x with level := s.levelAt (s.therm i).level T }).enterLevels i (s.therm i).level
        (s.levelAt (s.therm i).level T - (s.therm i).level) := by
      rw [State.siteLevel, hgov]
      rfl
    rw [hset, ← hnext] at honly
    rw [hset, ← hnext]
    have htherm (j : Nat) : (s.modTherm i fun x => { x with level := s.levelNext i }).therm j =
        if i = j ∧ j < 23 then { s.therm j with level := s.levelNext i } else s.therm j := by
      rw [State.therm, State.modTherm, vget_vmod]
      rfl
    have hsteady : (s.modTherm i fun x => { x with level := s.levelNext i }).sns.steady = s.sns.steady := rfl
    have hsys : (s.modTherm i fun x => { x with level := s.levelNext i }).sys = s.sys := rfl
    have hbase : (s.modTherm i fun x => { x with level := s.levelNext i }).cfg = s.cfg := rfl
    generalize (s.modTherm i fun x => { x with level := s.levelNext i }) = u at *
    have h := State.Throttled.enterLevels u i (s.therm i).level (s.levelNext i - (s.therm i).level)
    have hlevel : ∀ j < 23, ((u.enterLevels i (s.therm i).level (s.levelNext i - (s.therm i).level)).therm j).level =
        if j ∈ [i] then s.levelNext j else (s.therm j).level := by
      intro j hj
      rw [(h.level j).1, htherm j]
      by_cases hij : i = j
      · subst hij
        rw [if_pos ⟨rfl, hj⟩, if_pos (List.mem_singleton_self i)]
      · rw [if_neg fun hc => hij hc.1, if_neg fun hc => hij (List.mem_singleton.1 hc).symm]
    refine ⟨h.steady.trans hsteady, by rw [h.base, hbase], by rw [h.sys, hsys], fun ht => h.trip (by rw [hsys]; exact ht), fun j => ?_,
      fun hoff j => ?_, hlevel, fun j hj hmem hlow hfour => ?_, honly⟩
    · rw [(h.level j).2, htherm j]
      split <;> rfl
    · rw [h.ceiling ((State.autoOverlay_congr hsteady).trans hoff) j, htherm j]
      split <;> exact ⟨rfl, rfl⟩
    · obtain rfl := List.mem_singleton.1 hmem
      rw [hlevel j hj, if_pos hmem] at hfour
      exact State.trip_enterLevels u j _ (by omega) (by omega)

def State.siteLevels (s : State) (is : List Nat) : State := is.foldl State.siteLevel s

theorem State.siteLevels_leveled (s : State) {is : List Nat} (hnodup : is.Nodup) (hlt : ∀ i ∈ is, i < 23) : State.Leveled s (s.siteLevels is) is := by
  induction is generalizing s with
  | nil => exact .nil s
  | cons i is ih =>
    have hcons := List.nodup_cons.1 hnodup
    exact (s.siteLevel_leveled (hlt i (List.mem_cons_self ..))).cons (ih _ hcons.2 fun j hj => hlt j (List.mem_cons_of_mem _ hj)) hcons.1

/-! ### Ceilings at a frame's end -/

/-- The sites' ceilings at the frame end n. -/
def State.siteCeilings (s : State) (n : Nat) (is : List Nat) : State :=
  is.foldl (fun s i => s.modTherm i fun x => x.ceiling s.sys.trip s.ceilStart s.ceilMax s.now n) s

/-- What the ceilings leave: each site of the list once. -/
structure State.Ceiled (s t : State) (n : Nat) (is : List Nat) : Prop where
  only : t = { s with sns := { s.sns with site := t.sns.site } }
  therm : ∀ j < 23, t.therm j = if j ∈ is then (s.therm j).ceiling s.sys.trip s.ceilStart s.ceilMax s.now n else s.therm j

theorem State.siteCeilings_ceiled (s : State) (n : Nat) {is : List Nat} (hnodup : is.Nodup) : State.Ceiled s (s.siteCeilings n is) n is := by
  induction is generalizing s with
  | nil => exact ⟨rfl, fun _ _ => rfl⟩
  | cons i is ih =>
    have hcons := List.nodup_cons.1 hnodup
    have h := ih (s.modTherm i fun x => x.ceiling s.sys.trip s.ceilStart s.ceilMax s.now n) hcons.2
    have htherm (j : Nat) : (s.modTherm i fun x => x.ceiling s.sys.trip s.ceilStart s.ceilMax s.now n).therm j =
        if i = j ∧ j < 23 then (s.therm j).ceiling s.sys.trip s.ceilStart s.ceilMax s.now n else s.therm j := by
      rw [State.therm, State.modTherm, vget_vmod]
      rfl
    refine ⟨h.only, fun j hj => ?_⟩
    have hstep := h.therm j hj
    rw [htherm j] at hstep
    refine hstep.trans ?_
    by_cases hij : i = j
    · subst hij
      rw [if_neg hcons.1, if_pos ⟨rfl, hj⟩, if_pos (List.mem_cons_self ..)]
    · have hout : ¬ (i = j ∧ j < 23) := fun hc => hij hc.1
      simp only [if_neg hout, List.mem_cons, Ne.symm hij, false_or]
      rfl

/-- A ceiling put where it stands changes nothing else. -/
theorem SiteTherm.putTc_spec (x : SiteTherm) (now tc : Nat) : (if tc = x.tc then x else x.setTc now tc).level = x.level ∧
    (if tc = x.tc then x else x.setTc now tc).tc = tc := by
  split
  case isTrue h => exact ⟨rfl, h.symm⟩
  case isFalse => exact ⟨rfl, rfl⟩

theorem SiteTherm.ceiling_level (x : SiteTherm) (trip : Bool) (start most now e : Nat) : (x.ceiling trip start most now e).level = x.level :=
  (x.putTc_spec now _).1

theorem SiteTherm.ceiling_tc (x : SiteTherm) (trip : Bool) (start most now e : Nat) : (x.ceiling trip start most now e).tc =
    if trip then 1280
    else if x.fbAt.any fun t => decide (e ≤ t) then x.tc
    else if 2 ≤ x.level then (if x.prev then min most (max x.tc start + 16) else max x.tc start)
    else if x.tc - 16 < start then 160 else x.tc - 16 := by
  refine (x.putTc_spec now _).2.trans ?_
  simp only [decide_eq_true_eq]

/-! ### A frame's bytes -/

theorem State.districtRec_length (s : State) (d : Nat) : (s.districtRec d).length = 8 := by
  rw [State.districtRec]
  split <;> simp [toLES]

theorem Tile.bytes_length (x : Tile) : x.bytes.length = 8 := by
  simp [Tile.bytes]

theorem length_flatMap_const {α : Type} (f : α → Bytes) (n : Nat) (hf : ∀ x, (f x).length = n) (l : List α) : (l.flatMap f).length = l.length * n := by
  induction l with
  | nil => simp
  | cons x l ih => rw [List.flatMap_cons, List.length_append, hf, ih, List.length_cons, Nat.succ_mul, Nat.add_comm]

theorem State.frameBytes_length (s : State) : s.frameBytes.length = 3072 := by
  have hdistricts := length_flatMap_const s.districtRec 8 s.districtRec_length (List.range 256)
  have htiles := length_flatMap_const (fun t => (s.tile t).bytes) 8 (fun t => (s.tile t).bytes_length) (List.range 64)
  simp only [State.frameBytes, List.length_append, toLE_length, zeros_length, hdistricts, htiles, List.length_range]

theorem State.frameBytes_prefix (s : State) : ∃ rest, s.frameBytes = toLE 8 (s.now / 65536 * 65536) ++ (toLE 8 s.sns.seq ++ rest) := by
  simp only [State.frameBytes, List.append_assoc]
  exact ⟨_, rfl⟩

theorem State.frameBytes_time (s : State) : le s.frameBytes 0 8 = (s.now / 65536 * 65536) % 256 ^ 8 := by
  obtain ⟨rest, h⟩ := s.frameBytes_prefix
  exact le_of_slice (by rw [h, slice_prefix _ _ _ (toLE_length ..)])

theorem State.frameBytes_seq (s : State) : le s.frameBytes 8 8 = s.sns.seq % 256 ^ 8 := by
  obtain ⟨rest, h⟩ := s.frameBytes_prefix
  exact le_of_slice (by rw [h, slice_append_right _ _ _ _ (by rw [toLE_length]), toLE_length, Nat.sub_self, slice_prefix _ _ _ (toLE_length ..)])

/-! ### What follows the frame in its window -/

/-- The sensors but for what wear is counted in. -/
def Sns.framed (x : Sns) : Sns := { x with fields := [], spare := [] }

/-- Nothing of the sensors changes but what wear is counted in. -/
def State.FrameKept (s t : State) : Prop := t.sns.framed = s.sns.framed

theorem State.FrameKept.trans {s t u : State} (h : State.FrameKept s t) (k : State.FrameKept t u) : State.FrameKept s u := Eq.trans k h

theorem State.FrameKept.of_sns {s t : State} (h : t.sns = s.sns) : State.FrameKept s t := congrArg Sns.framed h

theorem State.FrameKept.foldl {α : Type} {f : State → α → State} (hf : ∀ s x, State.FrameKept s (f s x)) (s : State) (l : List α) :
    State.FrameKept s (l.foldl f s) :=
  List.foldlRecOn l f (motive := State.FrameKept s) (rfl : s.sns.framed = s.sns.framed) fun t ht x _ => ht.trans (hf t x)

theorem State.FrameKept.requestIns (s : State) (x : Insertion) : State.FrameKept s (s.requestIns x) :=
  .of_sns ((Keeps.requestIns_keeps (List.Subset.refl _) (Keeps.refl s) x).only.same .sns (by decide))

theorem State.FrameKept.callRoute (s : State) (site kind part q : Nat) : State.FrameKept s (s.callRoute site kind part q) :=
  .of_sns ((Keeps.callRoute_keeps (List.Subset.refl _) (Keeps.refl s) site kind part q).only.same .sns (by decide))

theorem State.FrameKept.raise (s : State) (id arg : Nat) : State.FrameKept s (s.raise id arg) :=
  .of_sns ((State.raise_only s id arg).same .sns (by decide))

theorem State.FrameKept.stress (s : State) (r : RegionNo) : State.FrameKept s (s.stress r) := by
  unfold State.stress
  dsimp only
  split
  · exact .of_sns rfl
  · split
    · exact (rfl : s.sns.framed = s.sns.framed)
    · exact .of_sns rfl

theorem State.FrameKept.fieldsSee (s : State) : State.FrameKept s s.fieldsSee := by
  unfold State.fieldsSee
  exact .foldl (fun t k => (rfl : (t.modField k fun f => f.see (t.tile (t.fieldTile (k / 7) (k % 7))).gov).sns.framed = t.sns.framed)) s _

/-- A bump field that is worn has been told. -/
def State.fieldTold (s : State) (k : Nat) : State :=
  (s.modField k fun f => { f with raised := true }).raise evWearGroup (k / 7 + at_ (k % 7) 5)

theorem State.FrameKept.fieldTold (s : State) (k : Nat) : State.FrameKept s (s.fieldTold k) :=
  State.FrameKept.trans (t := s.modField k fun f => { f with raised := true }) (rfl : s.sns.framed = s.sns.framed) (.raise _ _ _)

theorem State.FrameKept.fieldWear (s : State) (k : Nat) : State.FrameKept s (s.fieldWear k) := by
  have htold := State.FrameKept.fieldTold s k
  unfold State.fieldTold at htold
  unfold State.fieldWear
  dsimp only
  generalize (s.modField k fun f => { f with raised := true }).raise evWearGroup (k / 7 + at_ (k % 7) 5) = u at *
  split
  · exact .of_sns rfl
  · split
    · exact htold
    · split
      · exact htold.trans (.raise _ _ _)
      · split
        · exact htold.trans (.callRoute _ _ _ _ _)
        · exact htold.trans (.requestIns _ _)

theorem State.FrameKept.oscWear (s : State) (r : RegionNo) : State.FrameKept s (s.oscWear r) :=
  .of_sns ((Keeps.oscWear_keeps (List.Subset.refl _) (Keeps.refl s) r).only.same .sns (by decide))

theorem State.FrameKept.wearCheck (s : State) : State.FrameKept s s.wearCheck := by
  unfold State.wearCheck
  split
  · exact .of_sns rfl
  · exact (State.FrameKept.foldl State.FrameKept.fieldWear s _).trans (.foldl State.FrameKept.oscWear _ _)

/-- The wear that a frame counts. -/
def State.frameWorn (s : State) : State := ((s.fieldsSee.reg.map (·.1)).foldl State.stress s.fieldsSee).wearCheck

theorem State.frameWorn_spec (s : State) : State.FrameKept s s.frameWorn ∧ s.frameWorn.sys = s.sys := by
  have hkeeps := Keeps.wearCheck_keeps (gs := [.mbx, .reg, .opt, .sns, .ev]) (by decide)
    (Keeps.foldl (l := s.fieldsSee.reg.map (·.1)) (fun _ r h => Keeps.stress_keeps (by decide) h r)
      (Keeps.fieldsSee_keeps (gs := [.mbx, .reg, .opt, .sns, .ev]) (by decide) (Keeps.refl s)))
  exact ⟨((State.FrameKept.fieldsSee s).trans (.foldl State.FrameKept.stress _ _)).trans (.wearCheck _), hkeeps.only.same .sys (by decide)⟩

/-! ### The frame's end as a whole -/

/-- The sensing registers take effect at the frame end n. -/
def State.frameTicked (s : State) (n : Nat) : State :=
  { s with sns := { s.sns with
    ctrl := s.sns.ctrl.tick n, thresh := s.sns.thresh.tick n, ceil := s.sns.ceil.tick n, wearctl := s.sns.wearctl.tick n } }

/-- A clear that was asked for before the frame end n is made. -/
def State.frameCleared (s : State) (n : Nat) : State :=
  if s.sns.clearAt.any (· < n) then { s.clearSns with sns := { s.clearSns.sns with clearAt := none } } else s

def State.frameLevels (s : State) (n : Nat) : State := ((s.frameTicked n).frameCleared n).siteLevels allSites

def State.frameCeilings (s : State) (n : Nat) : State := (s.frameLevels n).siteCeilings n allSites

/-- A throttle request, and since when the package level has been severe. -/
def State.throtSet (s : State) (w : Word) (since : Option Nat) : State := { s with sns := { s.sns with throt := w, severe := since } }

/-- The throttle request and the time of a severe package level at the frame end n. -/
def State.frameThrot (s : State) (n : Nat) : State :=
  s.throtSet (word s.throtWord) (if 3 ≤ s.packageLevel then some (s.sns.severe.getD n) else none)

/-- The regions gather their samples afresh. -/
def State.accsDropped (s : State) : State := { s with reg := s.reg.foldl (fun m e => Map.put Region.reset m e.1 { e.2 with acc := {} }) [] }

theorem State.rgn_accsDropped (s : State) (r : RegionNo) : (s.accsDropped.rgn r).acc = {} := by
  have hfold : ∀ l : Map Region, let m := l.foldl (fun m e => Map.put Region.reset m e.1 { e.2 with acc := {} }) []
      Map.wf Region.reset m = true ∧ ∀ k, (Map.get Region.reset m k).acc = {} := by
    intro l
    refine List.foldlRecOn l _ (motive := fun m => Map.wf Region.reset m = true ∧ ∀ k, (Map.get Region.reset m k).acc = {}) ⟨rfl, fun _ => rfl⟩ ?_
    rintro m ⟨hwf, hacc⟩ e -
    refine ⟨Map.put_wf e.1 _ hwf, fun k => ?_⟩
    by_cases hk : k = e.1
    · rw [hk, Map.get_put_self _ e.1 _ (Map.wf_rising hwf)]
    · rw [Map.get_put_ne _ _ _ hk]
      exact hacc k
  exact (hfold s.reg).2 r

theorem exec_frameEnd {s : State} (hepoch : s.sys.epoch = true) (hslot : s.now % 65536 < 256) (hlate : 65536 ≤ s.now)
    (hnew : (s.sns.frames.head?.all fun f => decide (le f 0 8 ≠ s.now / 65536 * 65536)) = true) : exec .frameEnd s =
      .next ((s.frameCeilings (s.now / 65536 * 65536)).frameThrot (s.now / 65536 * 65536)).writeFrame.frameWorn.accsDropped := by
  have hrun : exec .frameEnd s = execFrameEnd s := rfl
  rw [hrun]
  have hslot' : ¬ 256 ≤ s.now % 65536 := by omega
  have hn : s.now / 65536 * 65536 ≠ 0 := by omega
  have hfirst (f : Bytes) (fs : List Bytes) (h : s.sns.frames = f :: fs) : le f 0 8 ≠ s.now / 65536 * 65536 := by
    rw [h, List.head?_cons, Option.all_some, decide_eq_true_eq] at hnew
    exact hnew
  unfold execFrameEnd
  extract_lets n done a s1 c' c'' s1' s2 b s3 s4 s5 s6 s7 s8
  have e1 : s1 = s.frameTicked n := rfl
  have e1' : s1' = s1.frameCleared n := rfl
  have e2 : s2 = s1'.siteLevels allSites := rfl
  have e3 : b = s2.siteCeilings n allSites := rfl
  have e4 : s4 = b.frameThrot n := rfl
  have e8 : s8 = s4.writeFrame.frameWorn := rfl
  clear_value s8 s7 s6 s5 s4 s3 b s2 s1' c'' c' s1 a
  have hall : s8 = ((s.frameCeilings n).frameThrot n).writeFrame.frameWorn := by
    rw [e8, e4, e3, e2, e1', e1, State.frameCeilings, State.frameLevels]
  have hdone : done = false := by
    subst done
    cases hframes : s.sns.frames with
    | nil => rfl
    | cons f fs => exact decide_eq_false (hfirst f fs hframes)
  have hgo : ¬ ((!s.sys.epoch) = true ∨ 256 ≤ s.now % 65536 ∨ n = 0 ∨ done = true) := by
    rintro (h | h | h | h)
    · rw [hepoch] at h
      exact Bool.false_ne_true h
    · exact hslot' h
    · exact hn h
    · exact Bool.false_ne_true (hdone.symm.trans h)
  rw [if_neg hgo, hall]
  rfl

theorem State.frameCleared_sns (s : State) (n : Nat) : (s.frameCleared n).sns = { s.sns with
    disagree := (s.frameCleared n).sns.disagree, faults := (s.frameCleared n).sns.faults, clearAt := (s.frameCleared n).sns.clearAt } := by
  rw [State.frameCleared]
  split <;> rfl

theorem State.frameCleared_only (s : State) (n : Nat) : Only [.sns] s (s.frameCleared n) := by
  rw [State.frameCleared]
  split
  · exact s.only_sns _
  · exact (Keeps.refl s).only

/-- The state in which a frame's levels are found. -/
def State.frameFrom (s : State) (n : Nat) : State := (s.frameTicked n).frameCleared n

/-- What of the sensors the frame end n finds: the registers in effect, and the counters that a clear has zeroed. -/
structure State.FrameFrom (s w : State) (n : Nat) : Prop where
  sns : w.sns = { s.sns with
    ctrl := s.sns.ctrl.tick n, thresh := s.sns.thresh.tick n, ceil := s.sns.ceil.tick n, wearctl := s.sns.wearctl.tick n
    disagree := w.sns.disagree, faults := w.sns.faults, clearAt := w.sns.clearAt }
  cleared : s.sns.clearAt.any (· < n) = true → w.sns.disagree = 0 ∧ w.sns.faults = 0 ∧ w.sns.clearAt = none
  only : Only [.sns] s w

theorem State.frameFrom_spec (s : State) (n : Nat) : State.FrameFrom s (s.frameFrom n) n := by
  refine ⟨(s.frameTicked n).frameCleared_sns n, fun h => ?_, (s.only_sns _).trans ((s.frameTicked n).frameCleared_only n)⟩
  have hset : s.frameFrom n = { (s.frameTicked n).clearSns with sns := { (s.frameTicked n).clearSns.sns with clearAt := none } } := if_pos h
  rw [hset]
  exact ⟨rfl, rfl, rfl⟩

/-- The state as the statement names it: the registers that a level and a ceiling are read from, in effect. -/
def State.frameRegs (s : State) (n : Nat) : State :=
  { s with sns := { s.sns with ctrl := s.sns.ctrl.tick n, thresh := s.sns.thresh.tick n, ceil := s.sns.ceil.tick n } }

/-- What a frame's end leaves. -/
structure State.FrameDone (s t : State) (n : Nat) : Prop where
  seq : t.sns.seq = s.sns.seq + 1
  frame : ∃ f, t.sns.frames = (f :: s.sns.frames).take 170 ∧ f.length = 3072 ∧ le f 0 8 = (s.now / 65536 * 65536) % 256 ^ 8 ∧
    le f 8 8 = s.sns.seq % 256 ^ 8
  acc : ∀ r, (t.rgn r).acc = {}
  cleared : s.sns.clearAt.any (· < n) = true → t.sns.disagree = 0 ∧ t.sns.faults = 0 ∧ t.sns.clearAt = none
  none : ∀ i < 23, s.siteGov i = none → (t.therm i).level = (s.therm i).level
  level : ∀ i < 23, ∀ T, s.siteGov i = some T → (t.therm i).level = (s.frameRegs n).levelAt (s.therm i).level T
  tripped : ∀ i < 23, (s.therm i).level < 4 → (t.therm i).level = 4 → t.sys.trip = true
  trip : t.sys.trip = true → ∀ i < 23, (t.therm i).tc = 1280
  ceiling : ∀ i < 23, t.sys.trip = false → (s.frameRegs n).autoOverlay = false → (∀ a, (s.therm i).fbAt = some a → a < n) →
    (t.therm i).tc = (if 2 ≤ (t.therm i).level then
        (if (s.therm i).prev then min (s.frameRegs n).ceilMax (max (s.therm i).tc (s.frameRegs n).ceilStart + 16)
          else max (s.therm i).tc (s.frameRegs n).ceilStart)
      else if (s.therm i).tc - 16 < (s.frameRegs n).ceilStart then 160 else (s.therm i).tc - 16)

section FrameFrom
variable {s w : State} {n : Nat} (h : State.FrameFrom s w n)
include h

theorem State.FrameFrom.tile (k : Nat) : w.tile k = s.tile k := by rw [State.tile, State.tile, h.sns]

theorem State.FrameFrom.therm (i : Nat) : w.therm i = s.therm i := by rw [State.therm, State.therm, h.sns]

theorem State.FrameFrom.siteGov (i : Nat) : w.siteGov i = s.siteGov i :=
  State.siteGov_congr h.tile (by rw [h.only.same .cfg (by decide)]) (h.only.mono (by decide)) i

theorem State.FrameFrom.levelAt (l : Nat) (T : Int) : w.levelAt l T = (s.frameRegs n).levelAt l T := by
  have hth : w.levelTh = (s.frameRegs n).levelTh := by
    funext k
    rw [State.levelTh, State.levelTh, h.sns]
    rfl
  rw [State.levelAt, State.levelAt, hth]

theorem State.FrameFrom.autoOverlay : w.autoOverlay = (s.frameRegs n).autoOverlay := by
  rw [State.autoOverlay, State.autoOverlay, h.sns]
  rfl

theorem State.FrameFrom.ceilStart : w.ceilStart = (s.frameRegs n).ceilStart := by
  rw [State.ceilStart, State.ceilStart, h.sns]
  rfl

theorem State.FrameFrom.ceilMax : w.ceilMax = (s.frameRegs n).ceilMax := by
  rw [State.ceilMax, State.ceilMax, h.sns]
  rfl

theorem State.FrameFrom.frames : w.sns.seq = s.sns.seq ∧ w.sns.frames = s.sns.frames := by
  rw [h.sns]
  exact ⟨rfl, rfl⟩

end FrameFrom

/-- What the levels keep of the sensors. -/
theorem State.Leveled.kept {w v : State} {is : List Nat} (h : State.Leveled w v is) : v.sns.seq = w.sns.seq ∧ v.sns.frames = w.sns.frames ∧
    v.sns.disagree = w.sns.disagree ∧ v.sns.faults = w.sns.faults ∧ v.sns.clearAt = w.sns.clearAt ∧ v.ceilStart = w.ceilStart ∧
    v.ceilMax = w.ceilMax :=
  ⟨(congrArg Sns.seq h.steady :), (congrArg Sns.frames h.steady :), (congrArg Sns.disagree h.steady :), (congrArg Sns.faults h.steady :),
    (congrArg Sns.clearAt h.steady :), (congrArg (fun x : Sns => fld x.ceil.eff 12 0) h.steady :),
    (congrArg (fun x : Sns => fld x.ceil.eff 28 16) h.steady :)⟩

/-- What the ceilings keep of the sensors. -/
theorem State.Ceiled.kept {v u : State} {n : Nat} {is : List Nat} (h : State.Ceiled v u n is) : u.sns.seq = v.sns.seq ∧
    u.sns.frames = v.sns.frames ∧ u.sns.disagree = v.sns.disagree ∧ u.sns.faults = v.sns.faults ∧ u.sns.clearAt = v.sns.clearAt ∧ u.sys = v.sys := by
  rw [h.only]
  exact ⟨rfl, rfl, rfl, rfl, rfl, rfl⟩

/-- What of the sensors a frame end leaves as the ceilings left it, with the frame in front. -/
structure State.FrameWritten (u t : State) (n : Nat) : Prop where
  seq : t.sns.seq = u.sns.seq + 1
  frames : t.sns.frames = ((u.frameThrot n).frameBytes :: u.sns.frames).take 170
  therm : ∀ i, t.therm i = u.therm i
  counts : t.sns.disagree = u.sns.disagree ∧ t.sns.faults = u.sns.faults ∧ t.sns.clearAt = u.sns.clearAt
  sys : t.sys = u.sys
  acc : ∀ r, (t.rgn r).acc = {}

/-- The frame put in front, with its number. -/
structure State.FramePut (u t : State) (bytes : Bytes) : Prop where
  sns : t.sns = { u.sns with
    throt := t.sns.throt, severe := t.sns.severe, frames := (bytes :: u.sns.frames).take 170, seq := u.sns.seq + 1 }
  sys : t.sys = u.sys

theorem State.throtSet_framePut (u : State) (w : Word) (since : Option Nat) :
    State.FramePut u (u.throtSet w since).writeFrame (u.throtSet w since).frameBytes := ⟨rfl, rfl⟩

theorem State.frameThrot_framePut (u : State) (n : Nat) : State.FramePut u (u.frameThrot n).writeFrame (u.frameThrot n).frameBytes :=
  u.throtSet_framePut _ _

theorem State.accsDropped_sns (z : State) : z.accsDropped.sns = z.sns ∧ z.accsDropped.sys = z.sys := ⟨rfl, rfl⟩

/-- What of the sensors the wear that a frame counts leaves. -/
theorem State.FrameKept.fields {z t : State} (h : State.FrameKept z t) : t.sns.seq = z.sns.seq ∧ t.sns.frames = z.sns.frames ∧
    (∀ i, t.therm i = z.therm i) ∧ t.sns.disagree = z.sns.disagree ∧ t.sns.faults = z.sns.faults ∧ t.sns.clearAt = z.sns.clearAt := by
  unfold State.FrameKept at h
  exact ⟨(congrArg Sns.seq h :), (congrArg Sns.frames h :), fun i => (congrArg (fun x : Sns => vget x.site {} i) h :),
    (congrArg Sns.disagree h :), (congrArg Sns.faults h :), (congrArg Sns.clearAt h :)⟩

theorem State.FramePut.fields {u z : State} {bytes : Bytes} (h : State.FramePut u z bytes) : z.sns.seq = u.sns.seq + 1 ∧
    z.sns.frames = (bytes :: u.sns.frames).take 170 ∧
    (∀ i, z.therm i = u.therm i) ∧ z.sns.disagree = u.sns.disagree ∧ z.sns.faults = u.sns.faults ∧ z.sns.clearAt = u.sns.clearAt := by
  have hsns := h.sns
  generalize List.take 170 (bytes :: u.sns.frames) = fs at *
  exact ⟨(congrArg Sns.seq hsns :), (congrArg Sns.frames hsns :), fun i => (congrArg (fun x : Sns => vget x.site {} i) hsns :),
    (congrArg Sns.disagree hsns :), (congrArg Sns.faults hsns :), (congrArg Sns.clearAt hsns :)⟩

theorem State.frameWritten (u : State) (n : Nat) : State.FrameWritten u (u.frameThrot n).writeFrame.frameWorn.accsDropped n := by
  have hput := u.frameThrot_framePut n
  generalize (u.frameThrot n).writeFrame = z at *
  obtain ⟨hworn, hwornSys⟩ := z.frameWorn_spec
  obtain ⟨hdrop, hdropSys⟩ := z.frameWorn.accsDropped_sns
  have hacc := z.frameWorn.rgn_accsDropped
  obtain ⟨hseq, hframes, htherm, hdis, hfaults, hclear⟩ := ((hworn.trans (.of_sns hdrop)) : State.FrameKept z z.frameWorn.accsDropped).fields
  obtain ⟨kseq, kframes, ktherm, kdis, kfaults, kclear⟩ := hput.fields
  exact ⟨hseq.trans kseq, hframes.trans kframes, fun i => (htherm i).trans (ktherm i),
    ⟨hdis.trans kdis, hfaults.trans kfaults, hclear.trans kclear⟩, (hdropSys.trans hwornSys).trans hput.sys, hacc⟩

theorem mem_allSites {i : Nat} (h : i < 23) : i ∈ allSites := List.mem_range.2 h

theorem State.throtSet_kept (u : State) (w : Word) (since : Option Nat) :
    (u.throtSet w since).sys = u.sys ∧ (u.throtSet w since).sns.seq = u.sns.seq := ⟨rfl, rfl⟩

theorem State.frameThrot_kept (u : State) (n : Nat) : (u.frameThrot n).sys = u.sys ∧ (u.frameThrot n).sns.seq = u.sns.seq :=
  u.throtSet_kept _ _

section FrameDone
variable {s w v u t : State} {n : Nat} (hfrom : State.FrameFrom s w n) (hlev : State.Leveled w v allSites)
  (hceil : State.Ceiled v u n allSites) (hwritten : State.FrameWritten u t n)
include hceil hwritten

theorem State.FrameWritten.ceiling {i : Nat} (hi : i < 23) : t.therm i = (v.therm i).ceiling v.sys.trip v.ceilStart v.ceilMax v.now n := by
  rw [hwritten.therm, hceil.therm i hi, if_pos (mem_allSites hi)]

theorem State.FrameWritten.level_eq {i : Nat} (hi : i < 23) : (t.therm i).level = (v.therm i).level := by
  rw [State.FrameWritten.ceiling hceil hwritten hi, SiteTherm.ceiling_level]

include hlev

theorem State.FrameWritten.level {i : Nat} (hi : i < 23) : (t.therm i).level = w.levelNext i := by
  rw [State.FrameWritten.level_eq hceil hwritten hi, hlev.level i hi, if_pos (mem_allSites hi)]

include hfrom

theorem State.FrameWritten.frame : ∃ f, t.sns.frames = (f :: s.sns.frames).take 170 ∧ f.length = 3072 ∧
    le f 0 8 = (s.now / 65536 * 65536) % 256 ^ 8 ∧ le f 8 8 = s.sns.seq % 256 ^ 8 := by
  obtain ⟨hseq, hframes, -⟩ := hlev.kept
  obtain ⟨huseq, huframes, -, -, -, husys⟩ := hceil.kept
  have hsys : (u.frameThrot n).sys.erg = s.sys.erg := by
    rw [u.frameThrot_kept n |>.1, husys, hlev.sys, hfrom.only.same .sys (by decide)]
  have hnow : (u.frameThrot n).now = s.now := hsys
  have hseqs : (u.frameThrot n).sns.seq = s.sns.seq := by
    rw [u.frameThrot_kept n |>.2, huseq, hseq, hfrom.frames.1]
  refine ⟨(u.frameThrot n).frameBytes, ?_, State.frameBytes_length _, ?_, ?_⟩
  · rw [hwritten.frames, huframes, hframes, hfrom.frames.2]
  · rw [State.frameBytes_time, hnow]
  · rw [State.frameBytes_seq, hseqs]

theorem State.FrameWritten.falls {i : Nat} (hi : i < 23) (htrip : t.sys.trip = false) (hoff : (s.frameRegs n).autoOverlay = false)
    (hfall : ∀ a, (s.therm i).fbAt = some a → a < n) : (t.therm i).tc = (if 2 ≤ (t.therm i).level then
        (if (s.therm i).prev then min (s.frameRegs n).ceilMax (max (s.therm i).tc (s.frameRegs n).ceilStart + 16)
          else max (s.therm i).tc (s.frameRegs n).ceilStart)
      else if (s.therm i).tc - 16 < (s.frameRegs n).ceilStart then 160 else (s.therm i).tc - 16) := by
  obtain ⟨-, -, -, -, -, hstart, hmost⟩ := hlev.kept
  obtain ⟨-, -, -, -, -, husys⟩ := hceil.kept
  have hvtrip : v.sys.trip = false := by rw [← husys, ← hwritten.sys, htrip]
  obtain ⟨hvtc, hvfb⟩ := hlev.still (hfrom.autoOverlay.trans hoff) i
  have hvprev := hlev.prev i
  rw [hfrom.therm] at hvtc hvfb hvprev
  have hnone : ((v.therm i).fbAt.any fun a => decide (n ≤ a)) = false := by
    rw [hvfb]
    cases hfb : (s.therm i).fbAt with
    | none => rfl
    | some a =>
      have := hfall a hfb
      exact decide_eq_false (by omega)
  have htc := congrArg SiteTherm.tc (State.FrameWritten.ceiling hceil hwritten hi)
  rw [SiteTherm.ceiling_tc, hvtrip, hnone, hvprev, hvtc, hstart, hmost, hfrom.ceilStart, hfrom.ceilMax,
    ← State.FrameWritten.level_eq hceil hwritten hi] at htc
  exact htc

theorem State.FrameWritten.done : State.FrameDone s t n := by
  obtain ⟨hseq, -, hdis, hfaults, hclear, -, -⟩ := hlev.kept
  obtain ⟨huseq, -, hudis, hufaults, huclear, husys⟩ := hceil.kept
  have hlevel {i : Nat} (hi : i < 23) := State.FrameWritten.level hlev hceil hwritten hi
  refine ⟨by rw [hwritten.seq, huseq, hseq, hfrom.frames.1], hwritten.frame hfrom hlev hceil, hwritten.acc, fun h => ?_,
    fun i hi hgov => ?_, fun i hi T hgov => ?_, fun i hi hlow hfour => ?_, fun htrip i hi => ?_, fun i hi => hwritten.falls hfrom hlev hceil hi⟩
  · rw [hwritten.counts.1, hwritten.counts.2.1, hwritten.counts.2.2, hudis, hufaults, huclear, hdis, hfaults, hclear]
    exact hfrom.cleared h
  · rw [hlevel hi, State.levelNext, hfrom.siteGov, hgov, hfrom.therm]
  · rw [hlevel hi, State.levelNext, hfrom.siteGov, hgov, hfrom.therm]
    exact hfrom.levelAt _ T
  · rw [hwritten.sys, husys]
    exact hlev.tripped i hi (mem_allSites hi) (by rw [hfrom.therm]; exact hlow)
      ((State.FrameWritten.level_eq hceil hwritten hi).symm.trans hfour)
  · rw [hwritten.sys, husys] at htrip
    rw [State.FrameWritten.ceiling hceil hwritten hi, SiteTherm.ceiling_tc, if_pos htrip]

end FrameDone

theorem State.frameDone (s : State) (n : Nat) :
    State.FrameDone s ((s.frameCeilings n).frameThrot n).writeFrame.frameWorn.accsDropped n := by
  have hlev : State.Leveled (s.frameFrom n) (s.frameLevels n) allSites :=
    State.siteLevels_leveled _ List.nodup_range fun i hi => List.mem_range.1 hi
  have hceil : State.Ceiled (s.frameLevels n) (s.frameCeilings n) n allSites := State.siteCeilings_ceiled _ n List.nodup_range
  exact State.FrameWritten.done (s.frameFrom_spec n) hlev hceil (State.frameWritten _ n)

/-! ### Sensors' faults -/

section SensorFault
variable {r : RegionNo} {k : SensorKind} {s : State}

theorem exec_sensorFault (hreset : s.sys.pkgReset = false) (hexists : s.regionExists r = true) (hgood : (s.rgn r).sensorBad k = false)
    (hstands : (s.rgn r).sensorStands k true s.now = true) : exec (.sensorFault r k) s =
      .next (({ (s.modRgn r fun g => g.markSensor k true) with sns := { s.sns with faults := sat16 s.sns.faults 1 } } : State).raise evSnsFault r) :=
  if_neg (by simp [hreset, hexists, hgood, hstands])

theorem exec_sensorRecovered (hreset : s.sys.pkgReset = false) (hexists : s.regionExists r = true)
    (hstands : (s.rgn r).sensorStands k false s.now = true) :
    exec (.sensorRecovered r k) s = .next (s.modRgn r fun g => g.markSensor k false) :=
  if_neg (by simp [hreset, hexists, hstands])

/-- What a sensor's fault leaves. -/
theorem exec_sensorFault_spec (hreg : Regular s) (hreset : s.sys.pkgReset = false) (hexists : s.regionExists r = true)
    (hgood : (s.rgn r).sensorBad k = false) (hstands : (s.rgn r).sensorStands k true s.now = true) :
    ∃ t, exec (.sensorFault r k) s = .next t ∧ t.rgn r = (s.rgn r).markSensor k true ∧ (∀ r', r' ≠ r → t.rgn r' = s.rgn r') ∧
      t.sns = { s.sns with faults := sat16 s.sns.faults 1 } ∧ t.ev = (s.raise evSnsFault r).ev ∧ Only [.reg, .sns, .ev] s t := by
  have hrun := exec_sensorFault hreset hexists hgood hstands
  have hself := s.rgn_modRgn r (fun g => g.markSensor k true) hreg.regions
  have hother (r' : RegionNo) (h : r' ≠ r) := s.rgn_modRgn_ne (fun g => g.markSensor k true) h
  have hraise := State.raise_only ({ (s.modRgn r fun g => g.markSensor k true) with sns := { s.sns with faults := sat16 s.sns.faults 1 } } : State)
    evSnsFault r
  have hrgn (r' : RegionNo) := State.rgn_congr (hraise.same .reg (by decide)) r'
  exact ⟨_, hrun, (hrgn r).trans hself, fun r' h => (hrgn r').trans (hother r' h), hraise.same .sns (by decide),
    State.raise_ev_congr (s := s) _ _ rfl rfl rfl, exec_only hrun⟩

end SensorFault

/-- A ring period begins: its time is noted. -/
def State.ringStart (s : State) : State := { s with sns := { s.sns with ringAt := s.now } }

/-- Whether the tone that the rings are read by is there, as the period leaves it. -/
def State.toneSeen (s : State) : State := { s with opt := { s.opt with dark := s.opt.lostTone || s.opt.failed.contains s.opt.tone } }

theorem exec_ringPeriod {ms : List TileMeas} {s : State} (hepoch : s.sys.epoch = true) (hslot : s.now % 262144 = 0) (hlate : s.sns.ringAt < s.now) :
    exec (.ringPeriod ms) s = .next (s.ringStart.ringTiles ms (List.range 64)).toneSeen := by
  have hrun : exec (.ringPeriod ms) s = execRingPeriod ms s := rfl
  have hgo : ¬ ((!s.sys.epoch) = true ∨ s.now % 262144 ≠ 0 ∨ s.now ≤ s.sns.ringAt) := by
    rw [hepoch]
    rintro (h | h | h)
    · exact Bool.false_ne_true h
    · exact h hslot
    · omega
  rw [hrun]
  unfold execRingPeriod
  rw [if_neg hgo]
  extract_lets x s1 s2
  have hs1 : s1 = s.ringStart := rfl
  have hs2 : s2 = s.ringStart.ringTiles ms (List.range 64) := by
    rw [State.ringTiles, ← hs1]
  clear_value s2
  rw [← hs2]
  rfl

/-- Settles O40: each tile's ring period and each site's level and ceiling are found once, in a fold that leaves the others; what follows
the frame in its window changes only what wear is counted in. -/
theorem sensorsRingsAndFrames : Obligations.SensorsRingsAndFrames := by
  refine ⟨fun r s hreg hreset hexists hgood hstands => exec_sensorFault_spec (k := .adc) hreg hreset hexists hgood hstands,
    fun r s hreg hreset hexists hgood hstands => exec_sensorFault_spec (k := .diode) hreg hreset hexists hgood hstands,
    fun r s hreset hexists => ⟨fun h => exec_sensorRecovered (k := .adc) hreset hexists h, fun h => exec_sensorRecovered (k := .diode) hreset hexists h,
      exec_sensorRecovered (k := .droop) hreset hexists rfl⟩,
    fun r s hstands => ?still, ?rings, ?compare, ?invalid, fun s i j l => s.ringCode_spec i j l, ?frame,
    fun u l k T hl hk hth => State.le_levelAt hl hk hth, fun u l T hpos hlt hlow hnone => ?falls, fun u l T hl hnone hstays => ?stands,
    fun u T => ?trip⟩
  case still => exact if_pos (.inr (.inr (.inr (by rw [show (s.rgn r).sensorStands .adc true s.now = false from hstands]; rfl))))
  case rings =>
    intro ms s hepoch hslot hlate
    have hrun := exec_ringPeriod (ms := ms) hepoch hslot hlate
    have honly := exec_only hrun
    have hstep := s.ringStart.ringTiles_step ms (ks := List.range 64) fun k hk => List.mem_range.1 hk
    have htile (k : Fin 64) (e : Int) := s.ringStart.tile_ringTiles ms k (e := e)
    have hopt : (s.ringStart.ringTiles ms (List.range 64)).opt = s.opt := hstep.only.same .opt (by decide)
    generalize s.ringStart.ringTiles ms (List.range 64) = u at *
    refine ⟨_, hrun, hstep.ringAt, fun k e => ?_, ?_, honly⟩
    · intro m means rings x he hrings
      exact htile k e he hrings
    · rw [State.toneSeen, hopt]
  case compare =>
    intro x now helec hring
    refine ⟨fun h => if_neg fun hc => absurd hc.2.2 (by omega), fun h hnone => ?_, fun f h hsome hnear => ?_, fun f h hsome hfar => ?_, fun h => ?_,
      fun h hcount => ?_, fun h hcount => ?_⟩
    · rw [Tile.compare, if_pos ⟨hring, helec, h⟩, hnone]
    · rw [Tile.compare, if_pos ⟨hring, helec, h⟩, hsome]
      exact if_neg (by omega)
    · rw [Tile.compare, if_pos ⟨hring, helec, h⟩, hsome]
      exact if_pos hfar
    · rw [Tile.agree, if_neg (by rw [hring]; exact Bool.false_ne_true), if_neg fun hc => absurd hc.2 (by omega)]
    · rw [Tile.agree, if_neg (by rw [hring]; exact Bool.false_ne_true), if_pos ⟨helec, h⟩, if_neg (by omega)]
    · rw [Tile.agree, if_neg (by rw [hring]; exact Bool.false_ne_true), if_pos ⟨helec, h⟩, if_pos (by omega)]
  case invalid =>
    intro x now hring
    refine ⟨if_neg fun hc => absurd (hring.symm.trans hc.1) (by decide), ?_⟩
    rw [Tile.agree, if_pos (by rw [hring]; rfl)]
  case frame =>
    intro s hreg hepoch hslot hlate n hnew u
    have hrun := exec_frameEnd hepoch hslot hlate hnew
    have honly := exec_only hrun
    have hdone := s.frameDone n
    have herg := hreg.erg
    obtain ⟨f, hframes, hlength, htime, hnumber⟩ := hdone.frame
    refine ⟨_, hrun, hdone.seq, ⟨f, hframes, hlength, htime.trans (Nat.mod_eq_of_lt (Nat.lt_of_le_of_lt (Nat.div_mul_le_self _ _) herg)), hnumber⟩,
      hdone.acc, hdone.cleared, fun i => hdone.none i i.isLt, fun i T => hdone.level i i.isLt T, fun i => hdone.tripped i i.isLt,
      fun htrip i => hdone.trip htrip i i.isLt, fun i => hdone.ceiling i i.isLt, honly⟩
  case falls => rw [State.levelAt_of_none hnone, if_pos ⟨hpos, hlt, hlow⟩]
  case stands =>
    rw [State.levelAt_of_none hnone]
    exact if_neg (by omega)
  case trip =>
    rw [State.levelAt_of_none fun k hk hk' => absurd hk (by omega)]
    exact if_neg (by omega)

end Sys2Proof.Machine
end

section
/-! SUPPORT. O41: plant inputs, the sensing commands, and wear counted, exported and imported (R263, R264, R268, R269, R272, R274, R334). -/
namespace Sys2Proof.Machine
open Sys2Proof.Safety

/-! ### Posts and staleness -/

/-- A coolant post within the second after the last one, none of it stale. -/
def State.coolFresh (s : State) : Bool :=
  match s.sns.coolAt with
  | some t => !s.sns.coolStale && decide (s.now < t + 1000000000)
  | none => false

/-- The coolant's temperatures as a post stores them. -/
def State.coolStored (s : State) (i o : Int) : State :=
  { s with sns := { s.sns with inlet := i, outlet := o, coolAt := some s.now, coolStale := false } }

theorem State.coolStored_ev (s : State) (i o : Int) : (s.coolStored i o).ev = s.ev := rfl

theorem State.coolStored_sns (s : State) (i o : Int) :
    (s.coolStored i o).sns = { s.sns with inlet := i, outlet := o, coolAt := some s.now, coolStale := false } := rfl

theorem cmdPlantPost_eq {q : Req} {s : State} (ha : q.le 0 2 < 4096) (hi : -640 ≤ signed 12 (q.le 0 2)) (hb : q.le 2 2 < 4096)
    (ho : -640 ≤ signed 12 (q.le 2 2)) : cmdPlantPost q s = .done okReply
      ((s.raiseIf (s.coolFresh && decide (32 < (signed 12 (q.le 0 2) - s.sns.inlet).natAbs ∨ 32 < (signed 12 (q.le 2 2) - s.sns.outlet).natAbs))
        evCoolantStep 0).coolStored (signed 12 (q.le 0 2)) (signed 12 (q.le 2 2))) := by
  rw [cmdPlantPost, if_neg (by omega), if_neg (by omega)]
  rfl

theorem exec_coolantStale {s : State} {a : Nat} (hat : s.sns.coolAt = some a) (hfresh : s.sns.coolStale = false) (hlate : a + 1000000000 ≤ s.now) :
    exec .coolantStale s = .next (({ s with sns := { s.sns with coolStale := true } } : State).raise evPlantStale 1) := by
  have hrun : exec .coolantStale s = execCoolantStale s := rfl
  rw [hrun, execCoolantStale, hat]
  exact if_pos ⟨by rw [hfresh]; rfl, hlate⟩

theorem exec_budgetStale {s : State} {a : Nat} (hat : s.sns.budgetAt = some a) (hfresh : s.sns.budgetStale = false) (hlate : a + 10000000 ≤ s.now) :
    exec .budgetStale s = .next (({ s with sns := { s.sns with budgetStale := true } } : State).raise evPlantStale 2) := by
  have hrun : exec .budgetStale s = execBudgetStale s := rfl
  rw [hrun, execBudgetStale, hat]
  exact if_pos ⟨by rw [hfresh]; rfl, hlate⟩

theorem exec_budgetStale_again {s : State} (hstale : s.sns.budgetStale = true) : exec .budgetStale s = .next s := by
  have hrun : exec .budgetStale s = execBudgetStale s := rfl
  rw [hrun, execBudgetStale]
  split
  · exact if_neg (by rw [hstale]; simp)
  · rfl

/-! ### Pages of wear -/

/-- The number of the region with dense number i. -/
def denseNo (i : Nat) : Nat :=
  if i < 1792 then i / 224 * 2048 + i % 224
  else if i < 1920 then (8 + (i - 1792) / 16) * 2048 + (i - 1792) % 16
  else if i < 2000 then 16 * 2048 + (i - 1920)
  else (17 + (i - 2000) / 8) * 2048 + (i - 2000) % 8

theorem ofDense_eq (i : Nat) : ofDense i = denseNo i := rfl

theorem denseNo_inj {i j : Nat} (hi : i < 2048) (hj : j < 2048) (h : denseNo i = denseNo j) : i = j := by
  unfold denseNo at h
  split_ifs at h <;> omega

/-- Each dense number is that of one region. -/
theorem ofDense_inj {i j : Nat} (hi : i < 2048) (hj : j < 2048) (h : ofDense i = ofDense j) : i = j :=
  denseNo_inj hi hj (by rw [← ofDense_eq, ← ofDense_eq, h])

/-- What a staged page adds to a region's stress. -/
def Region.stressed (g : Region) (p : Bytes) (i : Nat) : Region :=
  { g with wearInA := g.wearInA + le p (8 * i) 4, wearInB := g.wearInB + le p (8 * i + 4) 4 }

/-- One region of a page. -/
def State.addStress (bad : List Nat) (p : Bytes) (s : State) (e : Nat × RegionNo) : State :=
  if bad.contains (siteOf e.2) ∨ !s.regionExists e.2 then s else s.modRgn e.2 fun g => g.stressed p e.1

theorem State.addStress_keeps (bad : List Nat) (p : Bytes) (s : State) (e : Nat × RegionNo) : Keeps [.reg] s (State.addStress bad p s e) := by
  unfold State.addStress
  exact Keeps.ite (Keeps.refl s) (Keeps.modRgn_keeps (by decide) (Keeps.refl s) e.2 _)

theorem State.addStress_wf (bad : List Nat) (p : Bytes) {s : State} (e : Nat × RegionNo) (hwf : s.RegWf) : (State.addStress bad p s e).RegWf := by
  unfold State.addStress
  split
  · exact hwf
  · exact s.modRgn_wf e.2 _ hwf

theorem State.rgn_addStress_ne (bad : List Nat) (p : Bytes) (s : State) {e : Nat × RegionNo} {r : RegionNo} (h : r ≠ e.2) :
    (State.addStress bad p s e).rgn r = s.rgn r := by
  unfold State.addStress
  split
  · rfl
  · exact s.rgn_modRgn_ne _ h

theorem State.regionExists_congr {s t : State} (h : t.die = s.die) (r : RegionNo) : t.regionExists r = s.regionExists r := by
  rw [State.regionExists, State.regionExists, State.dieAt, State.dieAt, h]

theorem State.addStresses_keeps (bad : List Nat) (p : Bytes) (s : State) (es : List (Nat × RegionNo)) :
    Keeps [.reg] s (es.foldl (State.addStress bad p) s) :=
  List.foldlRecOn es _ (Keeps.refl s) fun t ht e _ => ht.trans (State.addStress_keeps bad p t e)

theorem State.rgn_addStresses_of_not_mem (bad : List Nat) (p : Bytes) (s : State) {es : List (Nat × RegionNo)} {r : RegionNo}
    (h : ∀ e ∈ es, r ≠ e.2) : (es.foldl (State.addStress bad p) s).rgn r = s.rgn r :=
  List.foldlRecOn es _ (motive := fun t => t.rgn r = s.rgn r) rfl fun t ht e he => (State.rgn_addStress_ne bad p t (h e he)).trans ht

/-- Each region that is there and whose site is not told bad takes its share once. -/
theorem State.rgn_addStresses (bad : List Nat) (p : Bytes) {s : State} {es : List (Nat × RegionNo)} (hnodup : (es.map (·.2)).Nodup)
    {e : Nat × RegionNo} (he : e ∈ es) (hwf : s.RegWf) (hexists : s.regionExists e.2 = true) (hgood : siteOf e.2 ∉ bad) :
    (es.foldl (State.addStress bad p) s).rgn e.2 = (s.rgn e.2).stressed p e.1 := by
  obtain ⟨before, after, rfl⟩ := List.append_of_mem he
  rw [List.map_append, List.map_cons] at hnodup
  have hbefore : ∀ x ∈ before, e.2 ≠ x.2 := fun x hx h =>
    (List.nodup_append.1 hnodup).2.2 x.2 (List.mem_map_of_mem hx) e.2 (List.mem_cons_self ..) h.symm
  have hafter : ∀ x ∈ after, e.2 ≠ x.2 := fun x hx h =>
    (List.nodup_cons.1 (List.nodup_append.1 hnodup).2.1).1 (h ▸ List.mem_map_of_mem hx)
  rw [List.foldl_append, List.foldl_cons, State.rgn_addStresses_of_not_mem bad p _ hafter]
  have hold := State.rgn_addStresses_of_not_mem bad p s hbefore
  have hkeeps := State.addStresses_keeps bad p s before
  have hwf' : (before.foldl (State.addStress bad p) s).RegWf :=
    List.foldlRecOn before _ (motive := fun t => State.RegWf t) hwf fun t ht x _ => State.addStress_wf bad p x ht
  generalize before.foldl (State.addStress bad p) s = u at *
  have hthere : u.regionExists e.2 = true := (State.regionExists_congr (hkeeps.only.same .die (by decide)) _).trans hexists
  rw [State.addStress, if_neg (by rw [hthere]; simpa using hgood), u.rgn_modRgn e.2 _ hwf', hold]

/-- The regions of a page. -/
def pageRegions (n : Nat) : List (Nat × RegionNo) := (List.range 1024).map fun i => (i, ofDense (1024 * (n - 1) + i))

theorem pageRegions_nodup {n : Nat} (h : n ≤ 2) : ((pageRegions n).map (·.2)).Nodup := by
  rw [pageRegions, List.map_map]
  refine List.Nodup.map_on (fun i hi j hj h => ?_) List.nodup_range
  have hi := List.mem_range.1 hi
  have hj := List.mem_range.1 hj
  have := ofDense_inj (by omega) (by omega) h
  omega

/-- The sites of a page whose serials have been found to differ. -/
def State.badSites (s : State) (n : Nat) : List Nat := s.sns.serialBad.filter fun i => (pageRegions n).any fun e => decide (siteOf e.2 = i)

/-- They are told. -/
def State.serialsTold (s : State) (n : Nat) : State := (s.badSites n).foldl (fun s i => s.raise evWearSerial i) s

theorem State.addPage_eq (s : State) (n : Nat) (p : Bytes) :
    s.addPage n p = (pageRegions n).foldl (State.addStress (s.badSites n) p) (s.serialsTold n) := by
  rw [State.addPage, State.serialsTold, State.badSites, pageRegions]
  rfl

theorem State.serialsTold_keeps (s : State) (n : Nat) : Keeps [.ev] s (s.serialsTold n) :=
  List.foldlRecOn _ _ (Keeps.refl s) fun t ht i _ => Keeps.raise_keeps (by decide) ht evWearSerial i

theorem State.addPage_keeps' (s : State) (n : Nat) (p : Bytes) : Keeps [.reg, .ev] s (s.addPage n p) := by
  rw [State.addPage_eq]
  exact ((s.serialsTold_keeps n).mono (by decide)).trans ((State.addStresses_keeps _ p _ _).mono (by decide))

theorem State.rgn_addPage {s : State} {n i : Nat} (p : Bytes) (hn : n ≤ 2) (hi : i < 1024) (hwf : s.RegWf)
    (hexists : s.regionExists (ofDense (1024 * (n - 1) + i)) = true) (hgood : siteOf (ofDense (1024 * (n - 1) + i)) ∉ s.sns.serialBad) :
    (s.addPage n p).rgn (ofDense (1024 * (n - 1) + i)) = (s.rgn (ofDense (1024 * (n - 1) + i))).stressed p i := by
  have htold := s.serialsTold_keeps n
  have hreg : (s.serialsTold n).reg = s.reg := htold.only.same .reg (by decide)
  rw [State.addPage_eq, ← State.rgn_congr hreg]
  refine State.rgn_addStresses (s.badSites n) p (pageRegions_nodup hn)
    (e := (i, ofDense (1024 * (n - 1) + i))) (List.mem_map_of_mem (List.mem_range.2 hi)) (by rw [State.RegWf, hreg]; exact hwf)
    ((State.regionExists_congr (htold.only.same .die (by decide)) _).trans hexists) fun h => hgood ?_
  exact List.mem_of_mem_filter h

/-- The stress that pages have brought to a region. -/
def Region.stressIn (g : Region) : Nat × Nat := (g.wearInA, g.wearInB)

theorem State.FieldKept.oscWear {s t : State} (h : State.FieldKept Region.stressIn s t) (r : RegionNo) :
    State.FieldKept Region.stressIn s (t.oscWear r) := by
  have hworn (u : State) (hu : State.FieldKept Region.stressIn s u) (b : Bool) :
      State.FieldKept Region.stressIn s ((u.modRgn r fun g => if b then { g with wornB := true } else { g with wornA := true }).raise evWearOsc r) :=
    (hu.modRgn r fun g => by split <;> rfl).step (Keeps.raise_keeps (List.Subset.refl _) (Keeps.refl _) evWearOsc r) (by decide)
  have hboth (u : State) (hu : State.FieldKept Region.stressIn s u) : State.FieldKept Region.stressIn s (u.modRgn r fun g => { g with wornBoth := true }) :=
    hu.modRgn r fun _ => rfl
  unfold State.oscWear
  extract_lets g th b w v
  split
  · exact h
  · have hw : State.FieldKept Region.stressIn s w := .ite (hworn t h b) h
    have hv : State.FieldKept Region.stressIn s v := hboth w hw
    clear_value v w
    split
    · split
      · exact hv.step (Keeps.requestIns_keeps (gs := [.mbx, .opt]) (by decide) (Keeps.refl v) _) (by decide)
      · exact hv.step (Keeps.raise_keeps (gs := [.ev]) (by decide) (Keeps.refl v) _ _) (by decide)
    · exact hw

/-- A check of wear leaves the stress that pages have brought. -/
theorem State.wearCheck_stressIn {s : State} (hwf : s.RegWf) : State.FieldKept Region.stressIn s s.wearCheck := by
  have hfield (t : State) (k : Nat) (h : State.FieldKept Region.stressIn s t) : State.FieldKept Region.stressIn s (t.fieldWear k) :=
    h.step (Keeps.fieldWear_keeps (List.Subset.refl _) (Keeps.refl t) k) (by decide)
  unfold State.wearCheck
  split
  · exact .refl hwf
  · exact .foldl _ (fun t r _ h => h.oscWear r) (.foldl _ (fun t k _ h => hfield t k h) (.refl hwf))

/-! ### The import of a page -/

/-- A part of a page that the page's rules take: its page, its length, its end, and the page not yet imported. -/
structure State.TakesPart (s : State) (q : Req) : Prop where
  page : q.u8 0 ≤ 2
  some : 8 < q.len
  whole : (q.len - 8) % 8 = 0
  short : q.len - 8 ≤ 224
  new : q.u8 0 ∉ s.sns.imported

/-- The part's bytes. -/
def pagePart (q : Req) : Bytes := slice q.payload 8 (q.len - 8)

theorem pagePart_length (q : Req) : (pagePart q).length = q.len - 8 := slice_length ..

/-- A page imported: its bytes added and its stage given up. -/
def State.pageTaken (s : State) (p : Nat) (bs : Bytes) : State :=
  (if p = 0 then State.addPage0 { s with sns := { s.sns with stage := none, imported := addKey p s.sns.imported } } bs
    else State.addPage { s with sns := { s.sns with stage := none, imported := addKey p s.sns.imported } } p bs).wearCheck

/-- A page staged in part. -/
def State.pageStaged (s : State) (p : Nat) (bs : Bytes) : State := { s with sns := { s.sns with stage := some (p, bs) } }

section Import
variable {s : State} {q : Req} (h : s.TakesPart q)
include h

theorem cmdWearImport_first (hoff : q.le 4 4 = 0) : cmdWearImport q s = .done (okReply (toLE 4 (q.len - 8) ++ zeros 1)) (s.pageStaged (q.u8 0) (pagePart q)) := by
  obtain ⟨hpage, hsome, hwhole, hshort, hnew⟩ := h
  have hlength := pagePart_length q
  unfold pagePart at hlength
  simp only [cmdWearImport, if_neg (show ¬ 2 < q.u8 0 by omega), if_neg (show ¬ (q.len - 8 = 0 ∨ (q.len - 8) % 8 ≠ 0 ∨ 224 < q.len - 8) by omega),
    List.contains_eq_mem, hnew, hoff, ne_eq, not_true, false_and, if_false, if_true, List.nil_append,
    decide_false, Bool.false_eq_true, hlength, if_neg (show ¬ q.len - 8 = 8192 by omega)]
  rw [if_neg (by simp; omega)]
  rfl

variable {bs : Bytes} (hstage : s.sns.stage = some (q.u8 0, bs)) (hoff : q.le 4 4 = bs.length) (hbs : bs ≠ []) (heven : bs.length % 8 = 0)
include hstage hoff hbs heven

theorem cmdWearImport_next (hmore : bs.length + (q.len - 8) < 8192) :
    cmdWearImport q s = .done (okReply (toLE 4 (bs.length + (q.len - 8)) ++ zeros 1)) (s.pageStaged (q.u8 0) (bs ++ (pagePart q))) := by
  obtain ⟨hpage, hsome, hwhole, hshort, hnew⟩ := h
  have hlength := pagePart_length q
  unfold pagePart at hlength
  have hpos : ¬ bs.length = 0 := fun hz => hbs (List.length_eq_zero_iff.1 hz)
  simp only [cmdWearImport, hstage, if_neg (show ¬ 2 < q.u8 0 by omega),
    if_neg (show ¬ (q.len - 8 = 0 ∨ (q.len - 8) % 8 ≠ 0 ∨ 224 < q.len - 8) by omega), hoff,
    if_neg (show ¬ (bs.length % 8 ≠ 0 ∨ 8192 < bs.length + (q.len - 8)) by omega), List.contains_eq_mem, hnew, ne_eq, not_true, and_false, if_false,
    if_true, decide_false, Bool.false_eq_true, List.length_append, hlength, if_neg hpos, if_neg (show ¬ bs.length + (q.len - 8) = 8192 by omega)]
  rfl

theorem cmdWearImport_last (hend : bs.length + (q.len - 8) = 8192) :
    cmdWearImport q s = .done (okReply (toLE 4 8192 ++ toLE 1 1)) (s.pageTaken (q.u8 0) (bs ++ (pagePart q))) := by
  obtain ⟨hpage, hsome, hwhole, hshort, hnew⟩ := h
  have hlength := pagePart_length q
  unfold pagePart at hlength
  have hpos : ¬ bs.length = 0 := fun hz => hbs (List.length_eq_zero_iff.1 hz)
  simp only [cmdWearImport, hstage, if_neg (show ¬ 2 < q.u8 0 by omega),
    if_neg (show ¬ (q.len - 8 = 0 ∨ (q.len - 8) % 8 ≠ 0 ∨ 224 < q.len - 8) by omega), hoff,
    List.contains_eq_mem, hnew, ne_eq, not_true, and_false, if_false,
    if_true, decide_false, Bool.false_eq_true, List.length_append, hlength, if_neg hpos, hend]
  rw [if_neg (by omega)]
  rfl

end Import

/-- What a page of oscillators leaves. -/
structure State.PageTaken (s t : State) (n : Nat) (p : Bytes) : Prop where
  imported : n ∈ t.sns.imported
  stage : t.sns.stage = none
  added : ∀ i < 1024, s.regionExists (ofDense (1024 * (n - 1) + i)) = true → siteOf (ofDense (1024 * (n - 1) + i)) ∉ s.sns.serialBad →
    (t.rgn (ofDense (1024 * (n - 1) + i))).stressIn = ((s.rgn (ofDense (1024 * (n - 1) + i))).stressed p i).stressIn
  only : Only [.mbx, .reg, .opt, .sns, .ev] s t

theorem State.pageTaken_spec {s : State} {n : Nat} (p : Bytes) (hpos : n ≠ 0) (hn : n ≤ 2) (hwf : s.RegWf) : State.PageTaken s (s.pageTaken n p) n p := by
  rw [State.pageTaken, if_neg hpos]
  have honly0 : Only [.mbx, .reg, .opt, .sns, .ev] s { s with sns := { s.sns with stage := none, imported := addKey n s.sns.imported } } :=
    (s.only_sns _).mono (by decide)
  have himported0 : ({ s with sns := { s.sns with stage := none, imported := addKey n s.sns.imported } } : State).sns.imported = addKey n s.sns.imported := rfl
  have hstage0 : ({ s with sns := { s.sns with stage := none, imported := addKey n s.sns.imported } } : State).sns.stage = none := rfl
  have hbad0 : ({ s with sns := { s.sns with stage := none, imported := addKey n s.sns.imported } } : State).sns.serialBad = s.sns.serialBad := rfl
  have hreg0 : ({ s with sns := { s.sns with stage := none, imported := addKey n s.sns.imported } } : State).reg = s.reg := rfl
  generalize ({ s with sns := { s.sns with stage := none, imported := addKey n s.sns.imported } } : State) = u at *
  have hadd := u.addPage_keeps' n p
  have hsns : (u.addPage n p).sns = u.sns := hadd.only.same .sns (by decide)
  have hwfu : u.RegWf := by rw [State.RegWf, hreg0]; exact hwf
  have hrgn {i : Nat} := State.rgn_addPage (s := u) (i := i) p hn
  have hwfa : (u.addPage n p).RegWf := by
    rw [State.addPage_eq]
    exact List.foldlRecOn (pageRegions n) _ (motive := fun t => State.RegWf t)
      (by rw [State.RegWf, (u.serialsTold_keeps n).only.same .reg (by decide)]; exact hwfu) fun t ht x _ => State.addStress_wf _ p x ht
  generalize u.addPage n p = v at *
  have hkept : v.wearCheck.sns.framed = v.sns.framed := State.FrameKept.wearCheck v
  have hcheck := (Keeps.wearCheck_keeps (List.Subset.refl _) (Keeps.refl v)).only
  refine ⟨?_, ?_, fun i hi hexists hgood => ?_, (honly0.trans (hadd.only.mono (by decide))).trans hcheck⟩
  · have h : v.wearCheck.sns.imported = v.sns.imported := (congrArg Sns.imported hkept :)
    rw [h, hsns, himported0]
    exact mem_addKey_iff.2 (.inl rfl)
  · have h : v.wearCheck.sns.stage = v.sns.stage := (congrArg Sns.stage hkept :)
    rw [h, hsns, hstage0]
  · rw [(State.wearCheck_stressIn hwfa).region, hrgn hi hwfu ((State.regionExists_congr (honly0.same .die (by decide)) _).trans hexists)
      (by rw [hbad0]; exact hgood), State.rgn_congr hreg0]

/-! ### What is read while a request is served -/

theorem State.snsStatus_posted (s : State) (op : Nat) (q : Req) : (posted s op q).snsStatus = s.snsStatus := by
  have hsns : (posted s op q).sns = s.sns := (posted_only s op q).same .sns (by decide)
  rw [State.snsStatus, State.snsStatus, State.tilesIn, State.tilesIn, State.tilesIn, State.tilesIn, hsns]

theorem State.wearPage_posted (s : State) (op : Nat) (q : Req) (p : Nat) : (posted s op q).wearPage p = s.wearPage p := by
  have honly := posted_only s op q
  have hsns : (posted s op q).sns = s.sns := honly.same .sns (by decide)
  have hfield : (posted s op q).field = s.field := by
    funext k
    rw [State.field, State.field, hsns]
  have hspare : (posted s op q).spareHours = s.spareHours := by
    funext d i
    rw [State.spareHours, State.spareHours, hsns]
  have hdie : (posted s op q).dieAt = s.dieAt := by
    funext i
    rw [State.dieAt, State.dieAt, honly.same .die (by decide)]
  have hosc : (posted s op q).oscHours = s.oscHours := by
    funext r b
    rw [State.oscHours, State.oscHours, State.rgn_congr (honly.same .reg (by decide)) r]
  rw [State.wearPage, State.wearPage, hfield, hspare, hdie, hosc, honly.same .fresh (by decide)]

theorem State.wearPage_length (s : State) (p : Nat) : (s.wearPage p).length = 8192 := padTo_length 8192 _

/-- Settles O41: each command's checks pass, and its answer is read off the state as it stands; a page is added region by region, each once, and the
check of wear that follows leaves what was added. -/
theorem plantInputsAndWear : Obligations.PlantInputsAndWear := by
  refine ⟨fun q s hready ha hi hb ho => ?post, fun q s hready hlow => ?postLow, fun a s hat hfresh hlate => ?coolant,
    fun a s hat hfresh hlate => ?budget, fun s hstale => exec_budgetStale_again hstale, fun q y s hready hkind hexists hsum => ?region,
    fun q s hready hkind htgt => ?tile, fun q s hready hkind => ?badKind, fun q s hready => ?therm, fun q s hready hkind htgt hgroup => ?field,
    fun q s hready hkind hexists => ?osc, fun q s hready hkind htgt => ?spare, fun q s hready hpage => ?export_,
    fun q s hready hpage hsome hwhole hshort hnew hoff => ?first, fun q bs s hready hpage hsome hwhole hshort hnew hstage hoff hbs heven hmore => ?next,
    fun q bs s hreg hready hpage hsome hwhole hshort hnew hstage hoff heven hend => ?last,
    fun q s hready hpage hsome hwhole hshort heven hroom hdone => ?again, fun f x h => ⟨fun hx => ?_, fun hx hx' => ?_, fun hx hx' => ?_, fun hx => ?_⟩⟩
  case post =>
    have hrun : exec (.plantPost q) s = .next _ := congrArg Host.Outcome.next (State.submit_done (by decide) hready (cmdPlantPost_eq ha hi hb ho))
    have hposted := posted_only s 0x0903 q
    have hsns : (posted s 0x0903 q).sns = s.sns := hposted.same .sns (by decide)
    have hsys : (posted s 0x0903 q).sys = s.sys := hposted.same .sys (by decide)
    have hev : (posted s 0x0903 q).ev = s.ev := hposted.same .ev (by decide)
    have hcool : (posted s 0x0903 q).coolFresh = s.coolFresh := by rw [State.coolFresh, State.coolFresh, State.now, State.now, hsns, hsys]
    rw [hcool, hsns] at hrun
    generalize hstep : (s.coolFresh && decide (32 < (signed 12 (q.le 0 2) - s.sns.inlet).natAbs ∨ 32 < (signed 12 (q.le 2 2) - s.sns.outlet).natAbs)) = step at hrun
    have htold : Only [.ev] (posted s 0x0903 q) ((posted s 0x0903 q).raiseIf step evCoolantStep 0) :=
      (Keeps.raiseIf_keeps (List.Subset.refl _) (Keeps.refl _) step evCoolantStep 0).only
    have htoldSns : ((posted s 0x0903 q).raiseIf step evCoolantStep 0).sns = s.sns := (htold.same .sns (by decide)).trans hsns
    have htoldNow : ((posted s 0x0903 q).raiseIf step evCoolantStep 0).now = s.now :=
      congrArg Sys.erg ((htold.same .sys (by decide)).trans hsys)
    have honly : Only [.mbx, .sns, .ev] s (((posted s 0x0903 q).raiseIf step evCoolantStep 0).coolStored (signed 12 (q.le 0 2)) (signed 12 (q.le 2 2))) :=
      ((hposted.mono (by decide)).trans (htold.mono (by decide))).trans ((State.only_sns _ _).mono (by decide))
    refine ⟨_, hrun, ?_, fun hnone => ?_, fun a hat hfresh hsoon hfar => ?_, honly⟩
    · rw [State.coolStored_sns, htoldSns, htoldNow]
    · have hno : step = false := by
        rw [← hstep, State.coolFresh]
        rcases hnone with h | h
        · rw [h]
          rfl
        · rw [h]
          split <;> rfl
      subst hno
      rw [State.coolStored_ev]
      exact hev
    · have hyes : step = true := by
        have hcoolFresh : s.coolFresh = true := by
          simp only [State.coolFresh, hat, hfresh, Bool.not_false, Bool.true_and, decide_eq_true hsoon]
        rw [← hstep, hcoolFresh, decide_eq_true hfar]
        rfl
      subst hyes
      rw [State.coolStored_ev]
      exact State.raise_ev_congr (s := s) (t := posted s 0x0903 q) evCoolantStep 0 (congrArg Sys.epoch hsys) (congrArg Sys.erg hsys) hev
  case postLow =>
    refine congrArg Host.Outcome.next (State.submit_done (by decide) hready ?_)
    rw [cmdPlantPost, if_pos (.inr (by omega)), refuse]
  case coolant =>
    have hrun := exec_coolantStale hat hfresh hlate
    have honly := State.raise_only ({ s with sns := { s.sns with coolStale := true } } : State) evPlantStale 1
    exact ⟨_, hrun, honly.same .sns (by decide), State.raise_ev_congr (s := s) _ _ rfl rfl rfl, exec_only hrun⟩
  case budget =>
    have hrun := exec_budgetStale hat hfresh hlate
    have honly := State.raise_only ({ s with sns := { s.sns with budgetStale := true } } : State) evPlantStale 2
    exact ⟨_, hrun, honly.same .sns (by decide), State.raise_ev_congr (s := s) _ _ rfl rfl rfl, exec_only hrun⟩
  case region =>
    refine congrArg Host.Outcome.next (State.submit_done (by decide) hready ?_)
    have hsame : (posted s 0x0901 q).rgn q.tgt = s.rgn q.tgt := State.rgn_congr ((posted_only s 0x0901 q).same .reg (by decide)) _
    rw [cmdSenseQuery, hkind, State.regionTarget_of_exists (s := posted s 0x0901 q) hexists]
    dsimp only
    rw [hsame, hsum]
    rfl
  case tile =>
    refine congrArg Host.Outcome.next (State.submit_done (by decide) hready ?_)
    rw [cmdSenseQuery, hkind]
    exact if_pos htgt
  case badKind =>
    refine congrArg Host.Outcome.next (State.submit_done (by decide) hready ?_)
    rw [cmdSenseQuery]
    split
    case h_1 h => exact absurd h (by omega)
    case h_2 h => exact absurd h (by omega)
    case h_3 => rfl
  case therm =>
    refine congrArg Host.Outcome.next (State.submit_done (by decide) hready ?_)
    rw [cmdThermQuery, State.snsStatus_posted]
    rfl
  case field =>
    refine congrArg Host.Outcome.next (State.submit_done (by decide) hready ?_)
    rw [cmdWearQuery, hkind]
    dsimp only
    rw [if_neg (by omega), if_neg (by omega)]
    rfl
  case osc =>
    refine congrArg Host.Outcome.next (State.submit_done (by decide) hready ?_)
    rw [cmdWearQuery, hkind]
    dsimp only
    rw [State.regionTarget_of_exists (s := posted s 0x0904 q) hexists]
    rfl
  case spare =>
    refine congrArg Host.Outcome.next (State.submit_done (by decide) hready ?_)
    rw [cmdWearQuery, hkind]
    exact if_neg (by omega)
  case export_ =>
    have hcmd : cmdWearExport q (posted s 0x0905 q) =
        .done (okReply (s.wearPage (q.u8 0))) { posted s 0x0905 q with fresh := (posted s 0x0905 q).fresh + 1 } := by
      rw [cmdWearExport, if_neg (by omega), State.wearPage_posted]
    have hfresh : Only [.fresh, .mbx] (posted s 0x0905 q) { posted s 0x0905 q with fresh := (posted s 0x0905 q).fresh + 1 } :=
      ⟨fun g hg => by cases g with
        | fresh => exact absurd (List.mem_cons_self ..) hg
        | _ => rfl⟩
    exact ⟨_, congrArg Host.Outcome.next (State.submit_done (by decide) hready hcmd), s.wearPage_length _, rfl,
      ((posted_only s 0x0905 q).mono (by decide)).trans hfresh⟩
  case first =>
    exact congrArg Host.Outcome.next (State.submit_done (by decide) hready
      (cmdWearImport_first (s := posted s 0x0906 q) ⟨hpage, hsome, hwhole, hshort, hnew⟩ hoff))
  case next =>
    exact congrArg Host.Outcome.next (State.submit_done (by decide) hready
      (cmdWearImport_next (s := posted s 0x0906 q) ⟨hpage, hsome, hwhole, hshort, hnew⟩ hstage hoff hbs heven hmore))
  case last =>
    have hbs : bs ≠ [] := by
      rintro rfl
      simp only [List.length_nil] at hend
      omega
    have hcmd := cmdWearImport_last (s := posted s 0x0906 q) ⟨by omega, hsome, hwhole, hshort, hnew⟩ hstage hoff hbs heven hend
    have h := State.pageTaken_spec (s := posted s 0x0906 q) (n := q.u8 0) (bs ++ pagePart q) (by omega) (by omega) hreg.regions
    refine ⟨_, congrArg Host.Outcome.next (State.submit_done (by decide) hready hcmd), h.imported, h.stage, fun i hi hexists hgood => ?_,
      ((posted_only s 0x0906 q).mono (by decide)).trans h.only⟩
    have hadded := h.added i hi hexists hgood
    exact ⟨congrArg Prod.fst hadded, congrArg Prod.snd hadded⟩
  case again =>
    refine congrArg Host.Outcome.next (State.submit_done (by decide) hready ?_)
    have hin : (posted s 0x0906 q).sns.imported.contains (q.u8 0) = true := List.contains_iff_mem.2 hdone
    rw [cmdWearImport, if_neg (by omega), if_neg (by omega), if_neg (by omega), if_pos hin]
    rfl
  · exact if_neg (by omega)
  · simp only [Field.cycle, if_pos hx, if_pos hx', Nat.mul_one]
  · simp only [Field.cycle, if_pos (show 320 < x by omega), if_neg (show ¬ x ≤ 640 by omega), if_pos hx', Nat.mul_comm]
  · simp only [Field.cycle, if_pos (show 320 < x by omega), if_neg (show ¬ x ≤ 640 by omega), if_neg (show ¬ x ≤ 960 by omega), Nat.mul_comm]

end Sys2Proof.Machine
end

section
/-! SUPPORT. A counterexample to what the loss of a spare carrier leaves (R160). -/
namespace Sys2Proof.Machine
open Sys2Proof.Safety

/-- The tone's carrier has failed, and one spare is left that no insertion has called for. -/
def lastSpareLeft : State := { operating with opt := { operating.opt with failed := [0], free := [2] } }

/-- Whether the tone role is without a usable carrier after a command. -/
def toneLost : Out → Option Bool
  | .next t => some t.opt.lostTone
  | _ => none

/-- Refutes O42: where the spare that falls below LOSS was the last one for a role whose carrier has failed, the role is lost with it (R160); the
statement's clause on SPARE_CARRIER_LOSS has the roles stay. -/
theorem not_opticalFaultsAndDegradation : ¬ Obligations.OpticalFaultsAndDegradation := by
  intro h
  obtain ⟨_, _, _, _, _, _, _, _, _, hspare, _⟩ := h
  have hrun := hspare 2 (-100) lastSpareLeft (by decide +kernel) (by decide +kernel)
  have hkept : toneLost (exec (.spareCarrierLoss 2 (-100)) lastSpareLeft) = some false := by
    rw [hrun]
    exact congrArg some (by decide +kernel : lastSpareLeft.opt.lostTone = false)
  exact absurd hkept (by decide +kernel)

end Sys2Proof.Machine
end

section
/-! SUPPORT. A counterexample to what a group's hand-over leaves (R155, Table 5-4). -/
namespace Sys2Proof.Machine
open Sys2Proof.Safety

/-- An insertion of group 4 at quadrant 0 of site 0, in its verification since Erg time 0. -/
def verifiedGroup : Insertion := { insertion 1 0 0 0 none false false 4 with took := some 4 }

/-- Site 0 is OPTICAL, its list of routes is empty, and its landing 0 is free; the insertion's verification is over at this slot boundary. -/
def routelessSite : State :=
  { (operating.modSite 0 fun x => { x with routes := [], freed := [0] }) with
    sys := { operating.sys with erg := 2560000 }
    opt := { (operating.modSite 0 fun x => { x with routes := [], freed := [0] }).opt with
      ins := [verifiedGroup], terms := [(termKey 0 1 4 0 0, some ⟨100, 100, 0, none⟩)] } }

/-- The group of a quadrant of site 0 after a command. -/
def groupOf (q : Nat) : Out → Option Nat
  | .next t => some ((t.site 0).route q).group
  | _ => none

/-- Refutes O43: the hand-over of a group replaces the quadrant's entry in the site's list of routes, and a list that ends before that quadrant has no
entry to replace; the statement's clause on step 5 of a group leaves such states in. -/
theorem not_routeInsertionsComplete : ¬ Obligations.RouteInsertionsComplete := by
  intro h
  obtain ⟨-, hgroup⟩ := h
  obtain ⟨-, hhand, -⟩ := hgroup 0 0 [100] none verifiedGroup routelessSite (by decide +kernel) (by decide +kernel)
  obtain ⟨t, hrun, hroute, -⟩ := hhand 4 (by decide +kernel) (by decide +kernel) (by decide +kernel) (by decide +kernel) (by decide +kernel)
    (by decide +kernel) (by decide +kernel) (by decide +kernel) (.inr (by decide +kernel))
  have hset : groupOf 0 (exec (.groupInsert 0 0 [100] none) routelessSite) = some 4 := by
    rw [hrun]
    exact congrArg (fun x : Route => some x.group) hroute
  exact absurd hset (by decide +kernel)

end Sys2Proof.Machine
end

section
/-! SUPPORT. A counterexample to what a planned insertion that is given up leaves (R271, Table 9-6). -/
namespace Sys2Proof.Machine
open Sys2Proof.Safety

/-- The planned insertion of the district spare pair for region 8, whose pair has been aligned since Erg time 0. -/
def alignedPair : Insertion := insertion 4 8 0 0 none true false 4

/-- The insertion's 16 windows are over, and the table of pairs taken holds two entries for its district. -/
def takenTwice : State :=
  { operating with
    opt := { operating.opt with ins := [alignedPair] }
    cal := { operating.cal with taken := [(districtOf 8, some 8), (districtOf 8, some 9)] } }

/-- The region that a district's spare pair is taken by after a command. -/
def takenBy (d : Nat) : Out → Option (Option RegionNo)
  | .next t => some (Map.get none t.cal.taken d)
  | _ => none

/-- Refutes O44: giving the pair up erases the first entry of its district, and a table with a second one behind it still names a region; the statement's
clause on the takeover's end asks nothing of the table of pairs taken, and the invariant of the machine does not speak of it. -/
theorem not_carriersAndTheSparePair : ¬ Obligations.CarriersAndTheSparePair := by
  intro h
  obtain ⟨-, -, -, -, -, -, hgiven⟩ := h
  have hreg : Regular takenTwice := by constructor <;> decide +kernel
  obtain ⟨t, hrun, -, hfree, -⟩ := hgiven 8 [] [] alignedPair takenTwice hreg (by decide +kernel) (by decide +kernel) (by decide +kernel)
    (by decide +kernel) (by decide +kernel) (by decide +kernel) (by decide +kernel) (by decide +kernel) (by decide +kernel) (by decide +kernel)
    (by decide +kernel)
  have hnone : takenBy (districtOf 8) (exec (.plannedDistrictSpare 8 [] []) takenTwice) = some none := by
    rw [hrun]
    exact congrArg some hfree
  exact absurd hnone (by decide +kernel)

end Sys2Proof.Machine
end


section
/-! SUPPORT. What a change of routes leaves (R145, R151). -/
namespace Sys2Proof.Machine
open Sys2Proof.Safety

theorem State.site_congr {s t : State} (h : t.opt.site = s.opt.site) (i : Nat) : t.site i = s.site i := by
  rw [State.site, h, ← State.site]

theorem State.site_modSite_kept {α : Type} (p : SiteOpt → α) (s : State) (i : Nat) {f : SiteOpt → SiteOpt} (hf : ∀ x, p (f x) = p x) (j : Nat) :
    p ((s.modSite i f).site j) = p (s.site j) := by
  rw [State.site, State.modSite, vget_vmod, ← State.site]
  split
  · exact hf _
  · rfl

/-- What a change of routes leaves of the optical state. -/
def Opt.unrouted (o : Opt) : Opt := { o with site := Vector.replicate 23 {}, since16 := [], armed := none, redo := [] }

/-- A site but for the instant of its last change of routes. -/
def SiteOpt.undue (x : SiteOpt) : SiteOpt := { x with laneDue := none }

theorem State.note16_opt (s : State) : ∃ since, s.note16.opt = { s.opt with since16 := since } := by
  unfold State.note16
  extract_lets since fresh s1
  have hopt : s1.opt = s.opt :=
    List.foldlRecOn (motive := fun t : State => t.opt = s.opt) _ _ rfl fun t ht p _ => ht
  exact ⟨since, congrArg (fun o : Opt => { o with since16 := since }) hopt⟩

/-- A change of routes at a site: its new state, but for the instant noted; the other sites, and what the rest of the optical state
keeps. -/
structure State.Routed (site : Nat) (x : SiteOpt) (s t : State) : Prop where
  here : (t.site site).undue = x.undue
  other (i : Nat) (hi : i ≠ site) : t.site i = s.site i
  rest : t.opt.unrouted = s.opt.unrouted

theorem State.Routed.step {site : Nat} {x : SiteOpt} {s t u : State} (h : State.Routed site x s t) (hsite : u.opt.site = t.opt.site)
    (hrest : u.opt.unrouted = t.opt.unrouted) : State.Routed site x s u :=
  ⟨State.site_congr hsite site ▸ h.here, fun i hi => (State.site_congr hsite i).trans (h.other i hi), hrest.trans h.rest⟩

theorem State.Routed.opt {site : Nat} {x : SiteOpt} {s t u : State} (h : State.Routed site x s t) (hopt : u.opt = t.opt) :
    State.Routed site x s u := h.step (congrArg Opt.site hopt) (congrArg Opt.unrouted hopt)

theorem State.Routed.foldl {α : Type} {site : Nat} {x : SiteOpt} {s t : State} {f : State → α → State} (hf : ∀ t a, (f t a).opt = t.opt)
    (l : List α) (h : State.Routed site x s t) : State.Routed site x s (l.foldl f t) :=
  List.foldlRecOn (motive := fun u : State => State.Routed site x s u) l f h fun t ht a _ => ht.opt (hf t a)

theorem State.retime_opt (s : State) (site q : Nat) : (s.retime site q).opt = s.opt :=
  (Keeps.retime_keeps (List.Subset.refl _) (Keeps.refl s) site q).only.same .opt (by decide)

theorem State.reclose_opt (s : State) (q : Nat) : (s.reclose q).opt = s.opt :=
  (Keeps.reclose_keeps (List.Subset.refl _) (Keeps.refl s) q).only.same .opt (by decide)

theorem State.routes_spec (s : State) {site : Nat} (hsite : site < 23) (f : SiteOpt → SiteOpt) :
    State.Routed site (((f (s.site site)).refeed (s.site site)).restate) s (s.routes site f) := by
  unfold State.routes
  extract_lets old s1 new changed moved s2 s3 o3 s4 s5
  have h1 : State.Routed site (((f (s.site site)).refeed (s.site site)).restate) s s1 :=
    ⟨congrArg SiteOpt.undue (s.site_modSite _ hsite), fun i hi => s.site_modSite_ne _ hi, rfl⟩
  clear_value s1
  have h2 : State.Routed site (((f (s.site site)).refeed (s.site site)).restate) s s2 :=
    h1.foldl (fun t q => t.retime_opt site q) moved
  clear_value s2
  have h3 : State.Routed site (((f (s.site site)).refeed (s.site site)).restate) s s3 := by
    unfold s3
    split
    · exact h2
    · exact ⟨(s2.site_modSite_kept SiteOpt.undue site (fun x => by exact rfl) site).trans h2.here,
        fun i hi => (s2.site_modSite_ne _ hi).trans (h2.other i hi), h2.rest⟩
  have h4 : State.Routed site (((f (s.site site)).refeed (s.site site)).restate) s s4 := by
    unfold s4
    split
    · split
      · exact h3.step rfl rfl
      · exact h3
    · exact h3
  split
  · have h5 : State.Routed site (((f (s.site site)).refeed (s.site site)).restate) s s5 := by
      obtain ⟨since, hsince⟩ := s4.note16_opt
      exact h4.step (congrArg Opt.site hsince :) (congrArg Opt.unrouted hsince :)
    refine h5.foldl (fun t q => ?_) changed
    split
    · exact t.reclose_opt q
    · rfl
  · exact h4

theorem State.endIns_opt (s : State) (y : Insertion) (o : Outcome) (st : Nat) :
    (s.endIns y o st).opt = { s.opt with ins := s.opt.ins.filter (· ≠ y) } := by
  unfold State.endIns
  dsimp only
  split
  · exact (Keeps.finishOp_keeps (List.Subset.refl _) (Keeps.refl _) _ o st).only.same .opt (by decide)
  · rfl

end Sys2Proof.Machine
end

section
/-! SUPPORT. The degradation ladder (R157-R161). -/
namespace Sys2Proof.Machine
open Sys2Proof.Safety

/-! ### Feeds after a change of routes -/

theorem SiteOpt.restate_kept {α : Type} (p : SiteOpt → α) (hp : ∀ x st, p { x with state := st } = p x) (x : SiteOpt) : p x.restate = p x := by
  unfold SiteOpt.restate
  split
  · exact hp x _
  · rfl

theorem SiteOpt.route_refeed (x old : SiteOpt) {q : Nat} (hq : q < 4) :
    (x.refeed old).route q = if x.own q then x.route q else { x.route q with feed := x.borrow q } := by
  simp [SiteOpt.route, SiteOpt.refeed, List.getD_eq_getElem?_getD, hq]

theorem SiteOpt.route_refeed_of_own {x : SiteOpt} (old : SiteOpt) {q : Nat} (hq : q < 4) (hown : x.own q = true) :
    (x.refeed old).route q = x.route q := by
  rw [x.route_refeed old hq, if_pos hown]

theorem SiteOpt.own_refeed (x old : SiteOpt) (q : Nat) : (x.refeed old).own q = x.own q := by
  have hq : q % 4 < 4 := Nat.mod_lt _ (by decide)
  have hgroup : ((x.refeed old).route (q % 4)).group = (x.route (q % 4)).group := by
    rw [x.route_refeed old hq, apply_ite Route.group, ite_self]
  have hsource : ((x.refeed old).route (q % 4)).source = (x.route (q % 4)).source := by
    rw [x.route_refeed old hq, apply_ite Route.source, ite_self]
  rw [SiteOpt.own, hgroup, hsource, ← SiteOpt.own]

theorem SiteOpt.link_refeed (x old : SiteOpt) (q : Nat) : (x.refeed old).link q = x.link q := rfl

/-- A borrower whose feed is the one that it takes now keeps its path. -/
theorem SiteOpt.path_refeed {x : SiteOpt} (old : SiteOpt) {q : Nat} (hq : q < 4) (hfeed : (x.route q).feed = x.borrow q) :
    (x.refeed old).path q = x.path q := by
  have hroute : (x.refeed old).route q = x.route q := by
    rw [x.route_refeed old hq, ← hfeed, ite_self]
  simp only [SiteOpt.path, Nat.mod_eq_of_lt hq, hroute, SiteOpt.own_refeed, SiteOpt.link_refeed]

theorem SiteOpt.mem_fixedX_refeed {x : SiteOpt} {q d : Nat} (hq : q < 4) (hown : x.own q = false) (hfeed : (x.route q).feed = x.borrow q)
    (hmem : (q, d) ∈ x.fixedX) : (q, d) ∈ (x.refeed x).fixedX := by
  refine List.mem_filter.2 ⟨hmem, ?_⟩
  have hpath : (x.refeed x).path q = x.path q := SiteOpt.path_refeed x hq hfeed
  have hkept : (x.refeed x).own q = false := (x.own_refeed x q).trans hown
  exact Bool.and_eq_true_iff.2 ⟨decide_eq_true hpath, by exact (congrArg not hkept).trans rfl⟩

/-! ### A permanent borrow -/

theorem SiteOpt.path_links {x : SiteOpt} {q p : Nat} {links : List (Nat × Nat)} (h : x.path q = some (p, links)) :
    links.Nodup ∧ ∀ e ∈ links, (e.1 = 2 ∨ e.1 = 3) ∧ e.2 < 4 := by
  unfold SiteOpt.path at h
  split at h
  · split at h
    · obtain ⟨-, rfl⟩ := Prod.mk.inj (Option.some.inj h)
      exact ⟨List.nodup_nil, fun e he => absurd he (List.not_mem_nil)⟩
    · exact absurd h (by simp)
  · split at h
    all_goals
      obtain ⟨-, rfl⟩ := Prod.mk.inj (Option.some.inj h)
      simp
      omega
  · split at h
    all_goals
      obtain ⟨-, rfl⟩ := Prod.mk.inj (Option.some.inj h)
      simp
      omega
  · exact absurd h (by simp)

/-- The term of a cross-link. -/
def linkKey (site : Nat) (e : Nat × Nat) : Nat := termKey site e.1 0 e.2 0

theorem linkKey_inj {site : Nat} {a b : Nat × Nat} (ha : (a.1 = 2 ∨ a.1 = 3) ∧ a.2 < 4) (hb : (b.1 = 2 ∨ b.1 = 3) ∧ b.2 < 4)
    (h : linkKey site a = linkKey site b) : a = b := by
  obtain ⟨a1, a2⟩ := a
  obtain ⟨b1, b2⟩ := b
  dsimp only at ha hb
  simp only [linkKey, termKey] at h
  obtain ⟨ha1, ha2⟩ := ha
  obtain ⟨hb1, hb2⟩ := hb
  rcases ha1 with rfl | rfl <;> rcases hb1 with rfl | rfl <;> simp at h <;> simp <;> omega

/-- A term as it is measured and in use at once. -/
def freshTerm (now d : Nat) : Term := ⟨d % 2 ^ 20, d % 2 ^ 20, now, none⟩

theorem State.term_putTerm (s : State) (key d : Nat) (hwf : Map.wf none s.opt.terms = true) :
    (s.putTerm key d).term key = some (freshTerm s.now d) :=
  Map.get_put_self none (m := s.opt.terms) key (some (freshTerm s.now d)) (Map.wf_rising hwf)

theorem State.term_putTerm_ne (s : State) {key k : Nat} (d : Nat) (h : k ≠ key) : (s.putTerm key d).term k = s.term k :=
  Map.get_put_ne none s.opt.terms (some (freshTerm s.now d)) h

/-- The cross-links of a path as they are remeasured. -/
def State.measureLinks (s : State) (site : Nat) (es : List ((Nat × Nat) × Nat)) : State :=
  es.foldl (fun s e => s.putTerm (termKey site e.1.1 0 e.1.2 0) e.2) s

theorem State.measureLinks_opt (s : State) (site : Nat) (es : List ((Nat × Nat) × Nat)) :
    ∃ ts, s.measureLinks site es = { s with opt := { s.opt with terms := ts } } :=
  List.foldlRecOn (motive := fun t : State => ∃ ts, t = { s with opt := { s.opt with terms := ts } }) es _ ⟨_, rfl⟩
    fun t ht e _ => by
      obtain ⟨ts, rfl⟩ := ht
      exact ⟨_, rfl⟩

theorem State.term_measureLinks_of_not_mem (site : Nat) {es : List ((Nat × Nat) × Nat)} {k : Nat} (h : ∀ e ∈ es, k ≠ linkKey site e.1)
    (s : State) : (s.measureLinks site es).term k = s.term k := by
  unfold State.measureLinks
  induction es generalizing s with
  | nil => rfl
  | cons e es ih =>
    rw [List.foldl_cons, ih (fun x hx => h x (List.mem_cons_of_mem _ hx))]
    exact s.term_putTerm_ne _ (h e List.mem_cons_self)

theorem State.term_measureLinks {site : Nat} {links : List (Nat × Nat)} {delays : List Nat} (hnodup : links.Nodup)
    (hlinks : ∀ e ∈ links, (e.1 = 2 ∨ e.1 = 3) ∧ e.2 < 4) (hlen : delays.length = links.length) {i : Nat} (hi : i < links.length)
    {s : State} (hwf : Map.wf none s.opt.terms = true) :
    (s.measureLinks site (links.zip delays)).term (linkKey site (links.getD i (0, 0))) = some (freshTerm s.now (delays.getD i 0)) := by
  induction links generalizing delays i s with
  | nil => simp at hi
  | cons e links ih =>
    obtain ⟨d, delays, rfl⟩ := List.exists_of_length_succ delays hlen
    obtain ⟨hfresh, hnodup⟩ := List.nodup_cons.1 hnodup
    have hput : Map.wf none (s.putTerm (linkKey site e) d).opt.terms = true := Map.put_wf _ (some (freshTerm s.now d)) hwf
    have hstep : s.measureLinks site ((e :: links).zip (d :: delays)) =
      (s.putTerm (linkKey site e) d).measureLinks site (links.zip delays) := rfl
    rw [hstep]
    cases i with
    | zero =>
      refine (State.term_measureLinks_of_not_mem site (fun x hx heq => hfresh ?_) _).trans (s.term_putTerm _ d hwf)
      have hmem : x.1 ∈ links := (List.of_mem_zip hx).1
      exact linkKey_inj (hlinks e List.mem_cons_self) (hlinks _ (List.mem_cons_of_mem _ hmem)) heq ▸ hmem
    | succ i =>
      exact ih hnodup (fun x hx => hlinks x (List.mem_cons_of_mem _ hx)) (Nat.succ.inj hlen) (Nat.lt_of_succ_lt_succ hi) hput

end Sys2Proof.Machine
end

section
/-! SUPPORT. The degradation ladder (R157-R161), its commands. -/
namespace Sys2Proof.Machine
open Sys2Proof.Safety

/-- What a change of routes leaves of its site, SITE_STATE apart. -/
theorem State.Routed.field {α : Type} {site : Nat} {x : SiteOpt} {s t : State} (h : State.Routed site x.restate s t) (p : SiteOpt → α)
    (hdue : ∀ x, p x.undue = p x) (hstate : ∀ x st, p { x with state := st } = p x) : p (t.site site) = p x := by
  rw [← hdue, h.here, hdue, SiteOpt.restate_kept p hstate]

/-- A quadrant's borrow becomes permanent: its cross-links remeasured, the group that failed given up, its offset fixed (R158). -/
def State.fixBorrow (s : State) (site q g : Nat) (links : List (Nat × Nat)) (delays : List Nat) : State :=
  let s := (s.measureLinks site (links.zip delays)).partFailed site 1 g
  s.modSite site fun x => { x with fixedX := x.fixedX ++ [(q, delays.sum)], laneDue := some s.now }

theorem exec_borrowPermanent {site : Site} {q : Fin 4} {p g : Nat} {links : List (Nat × Nat)} {delays : List Nat} {y : Insertion} {s : State}
    (hins : s.findIns (fun y => decide (y.kind = 1 ∧ y.target = site.val ∧ y.quad = q.val ∧ !y.planned)) = some y)
    (hruns : s.insRuns y = true) (hstep : y.step ≤ 2) (hwaits : s.siteWaits site = false) (hserved : (s.site site).served = true)
    (hfree : (s.site site).freeGroups = []) (hpath : (s.site site).path q = some (p, links)) (hlinks : links ≠ [])
    (hfixed : (s.site site).fixed q = false) (hnow : s.now % 256 = 0) (hlen : delays.length = links.length)
    (hdown : (s.site site).down.find? (fun e => decide (e.1 = 1 ∧ e.2.2 = q.val)) = some (1, g, q.val)) (hg : g < 7) :
    exec (.borrowPermanent site q delays) s = .next ((((s.fixBorrow site q g links delays).routes site id).raise evRouteBorrowed
      (routeArg site q 0 g)).endIns y .failed stRefused) := by
  have hrun : exec (.borrowPermanent site q delays) s = execBorrowPermanent site q delays s := rfl
  have hpart : (((s.site site).down.find? fun e => decide (e.1 = 1 ∧ e.2.2 = q.val)).map (·.2.1)).getD 7 = g := by rw [hdown]; rfl
  rw [hrun]
  unfold execBorrowPermanent
  dsimp only
  rw [hpath, hins]
  dsimp only
  rw [if_neg (by simp [hruns, hstep, hwaits, hserved, hfree, hlinks, hfixed, hnow, hlen]), hpart, if_pos hg]
  rfl

theorem State.fixBorrow_site (s : State) {site : Nat} (hsite : site < 23) (q g : Nat) (links : List (Nat × Nat)) (delays : List Nat) :
    ∃ down now, (s.fixBorrow site q g links delays).site site = { s.site site with
      down := down, gfail := addKey g (s.site site).gfail, fixedX := (s.site site).fixedX ++ [(q, delays.sum)], laneDue := some now } := by
  obtain ⟨ts, hts⟩ := s.measureLinks_opt site (links.zip delays)
  have hx : (s.measureLinks site (links.zip delays)).site site = s.site site := by rw [hts]; rfl
  refine ⟨(s.site site).down.filter fun e => decide (¬(e.1 = 1 ∧ e.2.1 = g)), s.now, (State.site_modSite _ _ hsite).trans ?_⟩
  rw [State.partFailed, State.site_modSite _ _ hsite, hx, hts]
  rfl

theorem State.fixBorrow_site_ne (s : State) {site i : Nat} (hi : i ≠ site) (q g : Nat) (links : List (Nat × Nat)) (delays : List Nat) :
    (s.fixBorrow site q g links delays).site i = s.site i := by
  obtain ⟨ts, hts⟩ := s.measureLinks_opt site (links.zip delays)
  have hx : (s.measureLinks site (links.zip delays)).site i = s.site i := by rw [hts]; rfl
  exact (State.site_modSite_ne _ _ hi).trans ((State.site_modSite_ne _ _ hi).trans hx)

theorem borrowPermanent_spec (site : Site) (q : Fin 4) (p g : Nat) (links : List (Nat × Nat)) (delays : List Nat) (y : Insertion) (s : State)
    (hreg : Regular s)
    (hins : s.findIns (fun y => decide (y.kind = 1 ∧ y.target = site.val ∧ y.quad = q.val ∧ !y.planned)) = some y)
    (hruns : s.insRuns y = true) (hstep : y.step ≤ 2) (hwaits : s.siteWaits site = false) (hserved : (s.site site).served = true)
    (hfree : (s.site site).freeGroups = []) (hpath : (s.site site).path q = some (p, links)) (hlinks : links ≠ [])
    (hfixed : (s.site site).fixed q = false) (hown : (s.site site).own q = false)
    (hfeed : ((s.site site).route q).feed = (s.site site).borrow q) (hnow : s.now % 256 = 0) (hlen : delays.length = links.length)
    (hdown : (s.site site).down.find? (fun e => decide (e.1 = 1 ∧ e.2.2 = q.val)) = some (1, g, q.val)) (hg : g < 7) :
    ∃ t, exec (.borrowPermanent site q delays) s = .next t ∧ (q.val, delays.sum) ∈ (t.site site).fixedX ∧ g ∈ (t.site site).gfail ∧
      y ∉ t.opt.ins ∧
      (∀ i, i < links.length → let k := links.getD i (0, 0)
        t.term (termKey site k.1 0 k.2 0) = some ⟨delays.getD i 0 % 2 ^ 20, delays.getD i 0 % 2 ^ 20, s.now, none⟩) ∧
      (∀ i, i ≠ site.val → t.site i = s.site i) ∧ Only [.mbx, .reg, .opt, .ls, .ev] s t := by
  have hrun := exec_borrowPermanent hins hruns hstep hwaits hserved hfree hpath hlinks hfixed hnow hlen hdown hg
  have hroutes := (s.fixBorrow site q g links delays).routes_spec site.isLt id
  obtain ⟨down, now, hx⟩ := s.fixBorrow_site site.isLt q g links delays
  generalize hu : s.fixBorrow site q g links delays = u at *
  generalize hv : u.routes site id = v at *
  have hopt : (v.raise evRouteBorrowed (routeArg site q 0 g)).opt = v.opt :=
    (Keeps.raise_keeps (List.Subset.refl _) (Keeps.refl v) _ _).only.same .opt (by decide)
  have hend := (v.raise evRouteBorrowed (routeArg site q 0 g)).endIns_opt y .failed stRefused
  rw [hopt] at hend
  have hsites (i : Nat) : ((v.raise evRouteBorrowed (routeArg site q 0 g)).endIns y .failed stRefused).site i = v.site i :=
    State.site_congr (congrArg Opt.site hend :) i
  have hterms : v.opt.terms = (s.measureLinks site (links.zip delays)).opt.terms :=
    (congrArg Opt.terms hroutes.rest :).trans (by rw [← hu]; rfl)
  refine ⟨_, hrun, ?_, ?_, ?_, fun i hi => ?_, fun i hi => ?_, exec_only hrun⟩
  · rw [hsites, hroutes.field SiteOpt.fixedX (fun _ => rfl) fun _ _ => rfl, hx]
    exact SiteOpt.mem_fixedX_refeed q.isLt hown hfeed (List.mem_append_right _ List.mem_cons_self)
  · rw [hsites, hroutes.field SiteOpt.gfail (fun _ => rfl) fun _ _ => rfl, hx]
    exact mem_addKey_iff.2 (.inl rfl)
  · rw [hend]
    exact fun hmem => of_decide_eq_true (List.mem_filter.1 hmem).2 rfl
  · obtain ⟨hnodup, hlt⟩ := SiteOpt.path_links hpath
    have hterm := State.term_measureLinks (site := site) hnodup hlt hlen hi (s := s) hreg.terms
    refine Eq.trans ?_ hterm
    exact congrArg (fun m => Map.get none m _) ((congrArg Opt.terms hend :).trans hterms)
  · rw [hsites, hroutes.other i hi, ← hu, s.fixBorrow_site_ne hi]

end Sys2Proof.Machine
end

section
/-! SUPPORT. Sites move to BACKUP and back (R157, R159, R160). -/
namespace Sys2Proof.Machine
open Sys2Proof.Safety

/-! ### SITE_BACKUP -/

/-- SITE_STATE and the routes of a site. -/
def SiteOpt.layout (x : SiteOpt) : SiteState × List Route := (x.state, x.routes)

theorem State.endIns_site (s : State) (y : Insertion) (o : Outcome) (st i : Nat) : (s.endIns y o st).site i = s.site i :=
  State.site_congr (congrArg Opt.site (s.endIns_opt y o st) :) i

theorem State.untake_spec (s : State) (y : Insertion) :
    s.untake y = s ∨ ∃ f, s.untake y = s.modSite y.target f ∧ ∀ x, (f x).layout = x.layout := by
  cases htook : y.took with
  | none => exact .inl (by rw [State.untake, htook])
  | some n =>
    refine .inr ⟨_, by rw [State.untake, htook], fun x => ?_⟩
    split <;> rfl

theorem State.untake_layout (s : State) (y : Insertion) (i : Nat) : ((s.untake y).site i).layout = (s.site i).layout := by
  rcases s.untake_spec y with heq | ⟨f, heq, hf⟩
  · rw [heq]
  · rw [heq]
    exact s.site_modSite_kept SiteOpt.layout _ hf i

theorem State.untake_site_ne (s : State) {y : Insertion} {i : Nat} (h : i ≠ y.target) : (s.untake y).site i = s.site i := by
  rcases s.untake_spec y with heq | ⟨f, heq, -⟩
  · rw [heq]
  · rw [heq]
    exact s.site_modSite_ne f h

theorem State.partFailed_layout (s : State) (site kind part i : Nat) : ((s.partFailed site kind part).site i).layout = (s.site i).layout :=
  s.site_modSite_kept SiteOpt.layout site (fun x => by exact rfl) i

theorem State.dropLanding_layout (s : State) (y : Insertion) (i : Nat) : ((s.dropLanding y).site i).layout = (s.site i).layout := by
  unfold State.dropLanding
  dsimp only
  rw [State.endIns_site]
  have hmod := ((s.untake y).site_modSite_kept SiteOpt.layout y.target (f := fun x => { x with confirm := dropKey y.quad x.confirm })
    (fun x => by exact rfl) i).trans (s.untake_layout y i)
  split
  · exact hmod
  · exact (State.partFailed_layout _ _ _ _ _).trans hmod

theorem State.dropLanding_site_ne (s : State) {y : Insertion} {i : Nat} (h : i ≠ y.target) : (s.dropLanding y).site i = s.site i := by
  unfold State.dropLanding
  dsimp only
  rw [State.endIns_site]
  have hmod := ((s.untake y).site_modSite_ne (fun x => { x with confirm := dropKey y.quad x.confirm }) h).trans (s.untake_site_ne h)
  split
  · exact hmod
  · exact (State.site_modSite_ne _ _ h).trans hmod

/-- Landing insertions of a site abandoned. -/
theorem State.site_dropLandings {site : Nat} {ys : List Insertion} (hys : ∀ y ∈ ys, y.target = site) (s : State) :
    (∀ i, i ≠ site → (ys.foldl State.dropLanding s).site i = s.site i) ∧
      ((ys.foldl State.dropLanding s).site site).layout = (s.site site).layout :=
  List.foldlRecOn ys _ (motive := fun t : State => (∀ i, i ≠ site → t.site i = s.site i) ∧ (t.site site).layout = (s.site site).layout)
    ⟨fun _ _ => rfl, rfl⟩ fun t ht y hy =>
      ⟨fun i hi => (t.dropLanding_site_ne (hys y hy ▸ hi)).trans (ht.1 i hi), (t.dropLanding_layout y site).trans ht.2⟩

theorem State.backupQuad_opt (s : State) (q : Nat) : (s.backupQuad q).opt = s.opt :=
  (Keeps.backupQuad_keeps (List.Subset.refl _) (Keeps.refl s) q).only.same .opt (by decide)

theorem State.backupQuads_opt (s : State) (qs : List Nat) : (qs.foldl State.backupQuad s).opt = s.opt :=
  List.foldlRecOn qs _ (motive := fun t : State => t.opt = s.opt) rfl fun t ht q _ => (t.backupQuad_opt q).trans ht

theorem State.raise_opt (s : State) (id arg : Nat) : (s.raise id arg).opt = s.opt :=
  (Keeps.raise_keeps (List.Subset.refl _) (Keeps.refl s) id arg).only.same .opt (by decide)

/-- Every quadrant with a group, and on site 16 every one, on the backup line (R159). -/
def SiteOpt.onBackup (site : Nat) (x : SiteOpt) : SiteOpt :=
  { x with routes := (List.range 4).map fun q => if x.own q ∨ site = 16 then { x.route q with source := 6 } else x.route q }

theorem SiteOpt.route_onBackup {site : Nat} {x : SiteOpt} {q : Nat} (hq : q < 4) (hown : x.own q = true) :
    (x.onBackup site).route q = { x.route q with source := 6 } := by
  simp [SiteOpt.route, SiteOpt.onBackup, List.getD_eq_getElem?_getD, hq, hown]

theorem SiteOpt.own_iff {x : SiteOpt} {q : Nat} (hq : q < 4) : x.own q = true ↔ (x.route q).group ≠ 7 ∧ (x.route q).source ≠ 7 := by
  simp [SiteOpt.own, Nat.mod_eq_of_lt hq]

theorem SiteOpt.own_onBackup {site : Nat} {x : SiteOpt} {q : Nat} (hq : q < 4) (hown : x.own q = true) :
    (x.onBackup site).own q = true := by
  rw [SiteOpt.own_iff hq, SiteOpt.route_onBackup hq hown]
  exact ⟨((SiteOpt.own_iff hq).1 hown).1, by simp⟩

theorem State.siteToBackup_spec (s : State) {site : Nat} (hsite : site < 23) :
    ((s.siteToBackup site).site site).state = .backup ∧
      (∀ q, q < 4 → (s.site site).own q = true → ((s.siteToBackup site).site site).route q = { (s.site site).route q with source := 6 }) ∧
      ∀ i, i ≠ site → (s.siteToBackup site).site i = s.site i := by
  unfold State.siteToBackup
  extract_lets s1 s2 s3 s4
  have h1 : s1.site site = { s.site site with state := .backup } := s.site_modSite _ hsite
  have h2 : State.Routed site (((s1.site site).onBackup site).refeed (s1.site site)).restate s1 s2 := s1.routes_spec hsite _
  have h3 (i : Nat) : s3.site i = s2.site i := State.site_congr (congrArg Opt.site (s2.raise_opt _ _) :) i
  obtain ⟨hother, hlayout⟩ := State.site_dropLandings (site := site)
    (ys := s3.opt.ins.filter fun y => decide (y.kind = 0 ∧ y.target = site)) (fun y hy => (of_decide_eq_true (List.mem_filter.1 hy).2).2) s3
  have h4 : ∀ u : State, u.opt = s4.opt → (u.site site).state = .backup ∧
      (∀ q, q < 4 → (s.site site).own q = true → (u.site site).route q = { (s.site site).route q with source := 6 }) ∧
      ∀ i, i ≠ site → u.site i = s.site i := by
    intro u hu
    have hsame (i : Nat) : u.site i = s4.site i := State.site_congr (congrArg Opt.site hu) i
    have hstate : (s2.site site).state = .backup := by
      have hrestate : ((((s1.site site).onBackup site).refeed (s1.site site)).restate).state = .backup := by
        have hbackup : (((s1.site site).onBackup site).refeed (s1.site site)).state = .backup := congrArg SiteOpt.state h1
        rw [SiteOpt.restate, if_neg (by rw [hbackup]; decide)]
        exact hbackup
      exact (congrArg SiteOpt.state h2.here :).trans hrestate
    refine ⟨?_, fun q hq hown => ?_, fun i hi => ?_⟩
    · rw [hsame]
      exact (congrArg Prod.fst hlayout :).trans ((congrArg SiteOpt.state (h3 site)).trans hstate)
    · have hroutes : (s4.site site).route q = (s2.site site).route q := by
        have hlist : (s4.site site).routes = (s2.site site).routes :=
          (congrArg Prod.snd hlayout :).trans (congrArg SiteOpt.routes (h3 site))
        rw [SiteOpt.route, hlist, ← SiteOpt.route]
      have hown1 : (s1.site site).own q = true := by rw [h1]; exact hown
      rw [hsame, hroutes, h2.field (fun x => x.route q) (fun _ => rfl) fun _ _ => rfl,
        SiteOpt.route_refeed_of_own _ hq (SiteOpt.own_onBackup hq hown1), SiteOpt.route_onBackup hq hown1, h1]
      rfl
    · rw [hsame]
      exact (hother i hi).trans ((h3 i).trans ((h2.other i hi).trans (s.site_modSite_ne _ hi)))
  split
  · exact h4 _ (s4.backupQuads_opt _)
  · exact h4 _ rfl

theorem State.landingSought_of_ins {s : State} {site q : Nat} {y : Insertion}
    (hins : s.findIns (fun y => decide (y.kind = 0 ∧ y.target = site ∧ y.quad = q)) = some y) (hplanned : y.planned = false)
    (hstep : y.step ≤ 2) (hruns : s.insRuns y = true) (hfree : (s.site site).freeLandings = []) : s.landingSought site q = true := by
  unfold State.landingSought
  dsimp only
  rw [hins]
  simp [hplanned, hstep, hruns, hfree]

theorem State.landingSought_of_none {s : State} {site q : Nat}
    (hins : s.findIns (fun y => decide (y.kind = 0 ∧ y.target = site ∧ y.quad = q)) = none) (hnone : (s.site site).noLanding q = true)
    (hfree : (s.site site).freeLandings = []) : s.landingSought site q = true := by
  unfold State.landingSought
  dsimp only
  rw [hins]
  simp [hnone, hfree]

theorem siteBackup_spec (site : Site) (s : State) (hchr : s.chrysalis = true) (hnow : s.now % 256 = 0)
    (hstate : (s.site site).state = .optical ∨ (s.site site).state = .bridged)
    (hneed : s.opt.lostTone = true ∨ s.opt.lostSlot = true ∨ (s.siteWaits site = false ∧ (s.site site).freeLandings = [] ∧ ∃ q, q < 4 ∧
      ((∃ y, s.findIns (fun y => decide (y.kind = 0 ∧ y.target = site.val ∧ y.quad = q)) = some y ∧ y.planned = false ∧ y.step ≤ 2 ∧
          s.insRuns y = true) ∨
        (s.findIns (fun y => decide (y.kind = 0 ∧ y.target = site.val ∧ y.quad = q)) = none ∧ (s.site site).noLanding q = true)))) :
    ∃ t, exec (.siteBackup site) s = .next t ∧ (t.site site).state = .backup ∧
      (∀ q, q < 4 → (s.site site).own q = true → (t.site site).route q = { (s.site site).route q with source := 6 }) ∧
      (∀ i, i ≠ site.val → t.site i = s.site i) ∧ Only [.mbx, .reg, .opt, .ls, .ev] s t := by
  have hcall : (s.roleGone || (((List.range 4).any fun q => s.landingSought site q) && !s.siteWaits site)) = true := by
    rcases hneed with htone | hslot | ⟨hwaits, hfree, q, hq, hq'⟩
    · simp [State.roleGone, htone]
    · simp [State.roleGone, hslot]
    · have hsought : s.landingSought site q = true := by
        rcases hq' with ⟨y, hins, hplanned, hstep, hruns⟩ | ⟨hins, hnone⟩
        · exact State.landingSought_of_ins hins hplanned hstep hruns hfree
        · exact State.landingSought_of_none hins hnone hfree
      simp only [hwaits, Bool.or_eq_true, Bool.and_eq_true, List.any_eq_true, List.mem_range]
      exact .inr ⟨⟨q, hq, hsought⟩, rfl⟩
  have hrun : exec (.siteBackup site) s = .next (s.siteToBackup site) :=
    if_pos (c := s.chrysalis = true ∧ s.now % 256 = 0 ∧ _ ∧ _) ⟨hchr, hnow, hstate, hcall⟩
  obtain ⟨hbackup, hroutes, hother⟩ := s.siteToBackup_spec site.isLt
  exact ⟨_, hrun, hbackup, hroutes, hother, exec_only hrun⟩

end Sys2Proof.Machine
end

section
/-! SUPPORT. Sites on BACKUP return to their optical routes (R160). -/
namespace Sys2Proof.Machine
open Sys2Proof.Safety

/-! ### A lost role has a carrier again -/

/-- The tone role on a carrier of launched power `p`. -/
def State.takeTone (s : State) (c : Nat) (p : Int) : State :=
  { s.setLaunch c p with opt := { (s.setLaunch c p).opt with tone := c, lostTone := false, free := dropKey c s.opt.free } }

theorem State.tryCarrier_of_not_free {launched : List (Fin 4 × Int)} {s : State} {c : Nat} (h : s.opt.free.contains c = false) :
    State.tryCarrier launched s c = s := by
  unfold State.tryCarrier
  rw [if_pos (.inl (by rw [h]; rfl))]

theorem State.tryCarrier_of_roles {launched : List (Fin 4 × Int)} {s : State} (c : Nat) (h : s.roleGone = false) :
    State.tryCarrier launched s c = s := by
  unfold State.tryCarrier
  rw [if_pos (.inr (by rw [h]; rfl))]

theorem State.tryCarriers_of_roles {launched : List (Fin 4 × Int)} {s : State} (cs : List Nat) (h : s.roleGone = false) :
    cs.foldl (State.tryCarrier launched) s = s := by
  induction cs with
  | nil => rfl
  | cons c cs ih => rw [List.foldl_cons, State.tryCarrier_of_roles c h, ih]

theorem State.tryCarrier_takes {launched : List (Fin 4 × Int)} {s : State} {c : Nat} {e : Fin 4} {p : Int}
    (hfree : s.opt.free.contains c = true) (htone : s.opt.lostTone = true)
    (hfind : launched.find? (fun e => decide (e.1.val = c)) = some (e, p)) (hp : s.warnAt ≤ p) :
    State.tryCarrier launched s c = s.takeTone c p := by
  have hgone : s.roleGone = true := by simp [State.roleGone, htone]
  unfold State.tryCarrier
  rw [if_neg (by rw [hfree, hgone]; simp), hfind]
  have hwarn : ¬ p < ({ s.setLaunch c p with opt := { (s.setLaunch c p).opt with free := dropKey c (s.setLaunch c p).opt.free } } : State).warnAt :=
    not_lt.2 hp
  dsimp only
  rw [if_neg hwarn, if_pos (by exact htone)]
  rfl

/-- The carriers are offered in order; the first free one takes the tone role. -/
theorem State.tryCarriers {launched : List (Fin 4 × Int)} {s : State} {c : Nat} {e : Fin 4} {p : Int} {cs : List Nat}
    (hcs : cs.find? (fun c => s.opt.free.contains c) = some c) (htone : s.opt.lostTone = true) (hslot : s.opt.lostSlot = false)
    (hfind : launched.find? (fun e => decide (e.1.val = c)) = some (e, p)) (hp : s.warnAt ≤ p) :
    cs.foldl (State.tryCarrier launched) s = s.takeTone c p := by
  induction cs with
  | nil => exact absurd hcs (by simp)
  | cons d cs ih =>
    rw [List.foldl_cons]
    rcases hd : s.opt.free.contains d with _ | _
    · rw [List.find?_cons, hd] at hcs
      rw [State.tryCarrier_of_not_free hd]
      exact ih hcs
    · rw [List.find?_cons, hd] at hcs
      obtain rfl := Option.some.inj hcs
      rw [State.tryCarrier_takes hd htone hfind hp]
      exact State.tryCarriers_of_roles cs (by exact hslot)

/-! ### Sites return -/

/-- The route that a wavelength insertion gives a quadrant (R156). -/
def SiteOpt.homeRoute (site : Nat) (x : SiteOpt) (q : Nat) : Route :=
  if 6 ≤ (x.route q).source ∧ (decide ((x.route q).group ≠ 7) || decide (site = 16)) ∧ x.home.getD q 7 < 6 ∧
      !x.lfail.contains (x.home.getD q 7) ∧ !x.isDown 0 (x.home.getD q 7) then { x.route q with source := x.home.getD q 7 }
  else x.route q

/-- A site with its quadrants back on their landings. -/
def SiteOpt.atHome (site : Nat) (x : SiteOpt) : SiteOpt := { x with routes := (List.range 4).map (SiteOpt.homeRoute site x) }

theorem State.homeward_spec (s : State) {site : Nat} (hsite : site < 23) :
    State.Routed site (((s.site site).atHome site).refeed (s.site site)).restate s (s.homeward site) := s.routes_spec hsite _

theorem SiteOpt.route_atHome (site : Nat) (x : SiteOpt) {q : Nat} (hq : q < 4) : (x.atHome site).route q = SiteOpt.homeRoute site x q := by
  simp [SiteOpt.route, SiteOpt.atHome, List.getD_eq_getElem?_getD, hq]

theorem SiteOpt.homeRoute_of_intact (site : Nat) {x : SiteOpt} {q : Nat} (hq : q < 4) (hown : x.own q = true)
    (hsource : (x.route q).source = 6) (hintact : x.intact = true) :
    SiteOpt.homeRoute site x q = { x.route q with source := x.home.getD q 7 } ∧ x.home.getD q 7 < 6 := by
  have hland := List.all_eq_true.1 hintact q (List.mem_range.2 hq)
  rw [hown] at hland
  simp only [Bool.not_true, Bool.false_or, Bool.and_eq_true, decide_eq_true_eq] at hland
  obtain ⟨⟨hhome, hfail⟩, hdown⟩ := hland
  have hgroup := ((SiteOpt.own_iff hq).1 hown).1
  refine ⟨if_pos ⟨hsource.ge, by simp [hgroup], hhome, hfail, hdown⟩, hhome⟩

/-- An intact quadrant of a site on BACKUP has its landing again. -/
theorem SiteOpt.source_atHome {site : Nat} {x : SiteOpt} {q : Nat} (hq : q < 4) (hown : x.own q = true)
    (hsource : (x.route q).source = 6) (hintact : x.intact = true) :
    (((x.atHome site).refeed x).route q).source = x.home.getD q 7 := by
  obtain ⟨hroute, hhome⟩ := SiteOpt.homeRoute_of_intact site hq hown hsource hintact
  have hown' : (x.atHome site).own q = true := by
    rw [SiteOpt.own_iff hq, x.route_atHome site hq, hroute]
    exact ⟨((SiteOpt.own_iff hq).1 hown).1, ne_of_lt (lt_trans hhome (by decide : 6 < 7))⟩
  rw [SiteOpt.route_refeed_of_own _ hq hown', x.route_atHome site hq, hroute]

theorem SiteOpt.restate_optical {x : SiteOpt} (h : x.state = .optical) : x.restate.state = .optical ∨ x.restate.state = .bridged := by
  rw [SiteOpt.restate, if_pos (.inl h)]
  cases x.bridged
  · exact .inl rfl
  · exact .inr rfl

/-- A site on BACKUP whose landings are intact returns to its optical routes. -/
def State.siteReturns (s : State) (i : Nat) : State :=
  if (s.site i).state = .backup ∧ (s.site i).intact then
    ((s.modSite i fun x => { x with state := .optical }).homeward i).raise evSiteOptical (routeArg i 0 0 0)
  else s

theorem State.siteReturns_site_ne (s : State) {i j : Nat} (hi : i < 23) (hj : j ≠ i) : (s.siteReturns i).site j = s.site j := by
  unfold State.siteReturns
  split
  · exact (State.site_congr (congrArg Opt.site (State.raise_opt _ _ _) :) j).trans
      (((State.homeward_spec _ hi).other j hj).trans (s.site_modSite_ne _ hj))
  · rfl

theorem State.siteReturns_unrouted (s : State) {i : Nat} (hi : i < 23) : (s.siteReturns i).opt.unrouted = s.opt.unrouted := by
  unfold State.siteReturns
  split
  · exact (congrArg Opt.unrouted (State.raise_opt _ _ _)).trans ((State.homeward_spec _ hi).rest.trans rfl)
  · rfl

/-- What the return of a site brings about in it. -/
def SiteOpt.Returned (x y : SiteOpt) : Prop := x.state = .backup → x.intact = true →
  (y.state = .optical ∨ y.state = .bridged) ∧
    ∀ q, q < 4 → x.own q = true → (x.route q).source = 6 → (y.route q).source = x.home.getD q 7

theorem State.siteReturns_spec (s : State) {i : Nat} (hi : i < 23) : SiteOpt.Returned (s.site i) ((s.siteReturns i).site i) := by
  intro hstate hintact
  have hx : (s.modSite i fun x => { x with state := .optical }).site i = { s.site i with state := .optical } := s.site_modSite _ hi
  have hspec := (s.modSite i fun x => { x with state := .optical }).homeward_spec hi
  have hsite : (s.siteReturns i).site i = ((s.modSite i fun x => { x with state := .optical }).homeward i).site i := by
    rw [State.siteReturns, if_pos ⟨hstate, hintact⟩]
    exact State.site_congr (congrArg Opt.site (State.raise_opt _ _ _) :) i
  rw [hx] at hspec
  rw [hsite]
  generalize (s.modSite i fun x => { x with state := .optical }).homeward i = v at *
  refine ⟨?_, fun q hq hown hsource => ?_⟩
  · have hstate' := (congrArg SiteOpt.state hspec.here :)
    rcases SiteOpt.restate_optical (x := (({ s.site i with state := .optical } : SiteOpt).atHome i).refeed { s.site i with state := .optical })
      rfl with h | h
    · exact .inl (hstate'.trans h)
    · exact .inr (hstate'.trans h)
  · rw [hspec.field (fun x => (x.route q).source) (fun _ => rfl) fun _ _ => rfl]
    exact SiteOpt.source_atHome (x := { s.site i with state := .optical }) hq hown hsource hintact

/-- What holds of every site after a fold that changes each site in its turn. -/
theorem State.site_foldl {F : State → Nat → State} {P : SiteOpt → SiteOpt → Prop} {l : List Nat} {i : Nat} (hl : l.Nodup)
    (hother : ∀ t, ∀ j ∈ l, ∀ k, k ≠ j → (F t j).site k = t.site k) (hself : ∀ t, P (t.site i) ((F t i).site i)) (hi : i ∈ l) (s : State) :
    P (s.site i) ((l.foldl F s).site i) := by
  have hskip (l : List Nat) (hno : i ∉ l) (hl : ∀ t, ∀ j ∈ l, ∀ k, k ≠ j → (F t j).site k = t.site k) (s : State) :
      (l.foldl F s).site i = s.site i :=
    List.foldlRecOn l F (motive := fun t : State => t.site i = s.site i) rfl fun t ht j hj =>
      (hl t j hj i fun he => hno (he ▸ hj)).trans ht
  induction l generalizing s with
  | nil => simp at hi
  | cons j l ih =>
    obtain ⟨hj, hl⟩ := List.nodup_cons.1 hl
    have htail : ∀ t, ∀ j ∈ l, ∀ k, k ≠ j → (F t j).site k = t.site k := fun t k hk => hother t k (List.mem_cons_of_mem _ hk)
    rw [List.foldl_cons]
    rcases Decidable.em (i = j) with rfl | hne
    · rw [hskip l hj htail]
      exact hself s
    · rw [← hother s j List.mem_cons_self i hne]
      exact ih hl htail ((List.mem_cons.1 hi).resolve_left hne) _

theorem siteOptical_spec (c : Nat) (p : Int) (e : Fin 4) (launched : List (Fin 4 × Int)) (s : State) (hfw : s.fw = true)
    (hnow : s.now % 256 = 0) (htone : s.opt.lostTone = true) (hslot : s.opt.lostSlot = false) (hfree : s.freeCarrier = some c)
    (hfind : launched.find? (fun e => decide (e.1.val = c)) = some (e, p)) (hp : s.warnAt ≤ p) :
    ∃ t, exec (.siteOptical launched) s = .next t ∧ t.opt.tone = c ∧ t.opt.lostTone = false ∧ t.opt.free = dropKey c s.opt.free ∧
      (∀ i, i < 23 → (s.site i).state = .backup → (s.site i).intact = true →
        ((t.site i).state = .optical ∨ (t.site i).state = .bridged) ∧
        (∀ q, q < 4 → (s.site i).own q = true → ((s.site i).route q).source = 6 → ((t.site i).route q).source = (s.site i).home.getD q 7)) ∧
      Only [.reg, .opt, .ls, .ev] s t := by
  have hgone : s.roleGone = true := by simp [State.roleGone, htone]
  have hback : (s.takeTone c p).roleGone = false := hslot
  have hrun : exec (.siteOptical launched) s = .next (allSites.foldl State.siteReturns (s.takeTone c p)) := by
    have hexec : exec (.siteOptical launched) s = execSiteOptical s launched := rfl
    rw [hexec]
    unfold execSiteOptical
    rw [if_neg (by simp [hfw, hgone, hnow]), State.tryCarriers hfree htone hslot hfind hp]
    dsimp only
    rw [if_neg (by rw [hback]; decide)]
    rfl
  have hlt : ∀ i ∈ allSites, i < 23 := fun i hi => List.mem_range.1 hi
  have hrest : (allSites.foldl State.siteReturns (s.takeTone c p)).opt.unrouted = (s.takeTone c p).opt.unrouted :=
    List.foldlRecOn allSites _ (motive := fun t : State => t.opt.unrouted = (s.takeTone c p).opt.unrouted) rfl
      fun t ht i hi => (t.siteReturns_unrouted (hlt i hi)).trans ht
  have hreturned (i : Nat) (hi : i < 23) : SiteOpt.Returned (s.site i) ((allSites.foldl State.siteReturns (s.takeTone c p)).site i) :=
    State.site_foldl (F := State.siteReturns) (P := SiteOpt.Returned) List.nodup_range (fun t j hj k hk => t.siteReturns_site_ne (hlt j hj) hk)
      (fun t => t.siteReturns_spec hi) (List.mem_range.2 hi) (s.takeTone c p)
  generalize allSites.foldl State.siteReturns (s.takeTone c p) = t at *
  exact ⟨t, hrun, (congrArg Opt.tone hrest :), (congrArg Opt.lostTone hrest :), (congrArg Opt.free hrest :),
    fun i hi => hreturned i hi, exec_only hrun⟩

end Sys2Proof.Machine
end

section
/-! SUPPORT. A site is ISOLATED (R161, R162). -/
namespace Sys2Proof.Machine
open Sys2Proof.Safety

/-! ### Replicas that stand -/

/-- Whether a region's replica stands. -/
def Region.stands (g : Region) : Bool := g.rep.stopped

theorem Region.stands_congr (g h : Region) (hcore : g.core = h.core) : g.stands = h.stands :=
  congrArg Replica.stopped (congrArg Region.rep hcore :)

theorem Region.rep_load (g : Region) (oscB : Bool) (c : Nat) : (g.load oscB c).rep = g.rep := by
  unfold Region.load
  split
  · rfl
  · cases oscB <;> rfl

theorem Region.stands_calLeft (g : Region) (c : RgnCal) (e : CalEnd) (win now : Nat) : (g.calLeft c e win now).stands = g.stands := by
  have hback : (g.twinBack win).rep = g.rep := g.rep_load _ _
  have hrep : (if (c.running && decide (g.chan.twin = .busy) && g.swap.isNone) = true then g.twinBack win else g).rep = g.rep := by
    split
    · exact hback
    · rfl
  exact congrArg Replica.stopped hrep

theorem State.FieldKept.calLeave {o s : State} (h : State.FieldKept Region.stands o s) (r : RegionNo) (e : CalEnd) :
    State.FieldKept Region.stands o (s.calLeave r e) := by
  have hleft := State.calLeave_spec r e h.wf
  refine ⟨fun k => ?_, hleft.wf⟩
  rw [← h.region k]
  rcases Decidable.em (k = r) with rfl | hk
  · obtain ⟨run, test, hrgn⟩ := hleft.rgn
    rw [hrgn]
    exact Region.stands_calLeft (s.rgn k) (s.rgn k).cal e s.win s.now
  · rw [hleft.other k hk]

theorem State.FieldKept.calAbandon {o s : State} (h : State.FieldKept Region.stands o s) (rs : List RegionNo) :
    State.FieldKept Region.stands o (s.calAbandon rs) :=
  State.FieldKept.foldl rs (fun _ r _ ht => .ite (ht.calLeave r .fenced) ht) h

theorem State.stopReplica_stands (s : State) (r : RegionNo) (hwf : s.RegWf) : ((s.stopReplica r).rgn r).stands = true := by
  unfold State.stopReplica
  dsimp only
  rw [State.rgn_modRgn _ r _ hwf]
  split
  next h => exact h
  · rfl

theorem State.stopReplicas_stand {rs : List RegionNo} {r : RegionNo} (hr : r ∈ rs) {s : State} (hwf : s.RegWf) :
    ((rs.foldl State.stopReplica s).rgn r).stands = true :=
  State.rgn_foldl_of_mem (P := fun g => g.stands = true) (fun t _ _ hk => t.rgn_modRgn_ne _ hk)
    (fun t k ht => t.stopReplica_stands k ht) (fun t k ht => t.modRgn_wf k _ ht) hr hwf

/-! ### Crossings that are fenced -/

theorem State.xing_fence (s : State) {id : Nat} (hclass : xClass id ≠ 9) (hreg : Regular s) : ((s.fence id).xing id).st = .fenced := by
  unfold State.fence
  rw [if_neg hclass]
  split
  next h => exact h
  · have hhalt : Map.wf {} (if (s.xing id).st = .torn then s else s.xHalt id).xg.x = true := by
      split
      · exact hreg.crossings
      · exact (s.xHalt_kept id hreg.crossings).wf
    dsimp only
    rw [State.xing_xLast, State.xing_modXing _ _ _ hhalt]

theorem State.fence_regular {s : State} (hreg : Regular s) (id : Nat) : Regular (s.fence id) :=
  (Keeps.fence_keeps (List.Subset.refl _) (Keeps.refl s) id).regular hreg

theorem State.fenceAll_fenced {ids : List Nat} {id : Nat} (hid : id ∈ ids) (hclass : xClass id ≠ 9) {s : State} (hreg : Regular s) :
    ((s.fenceAll ids).xing id).st = .fenced := by
  unfold State.fenceAll
  induction ids generalizing s with
  | nil => simp at hid
  | cons j ids ih =>
    rw [List.foldl_cons]
    rcases Decidable.em (id ∈ ids) with hmem | hmem
    · exact ih hmem (State.fence_regular hreg j)
    · obtain rfl := (List.mem_cons.1 hid).resolve_right hmem
      have hrest := State.xing_fenceAll_of_not_mem hmem (State.fence_regular hreg id)
      exact (congrArg Xing.st hrest).trans (s.xing_fence hclass hreg)

theorem State.mem_sideCrossings_msg (s : State) {rs : List RegionNo} {r : RegionNo} (hr : r ∈ rs) : xId 4 r ∈ s.sideCrossings rs := by
  simp only [State.sideCrossings, List.mem_append, List.mem_eraseDups, List.mem_flatMap]
  exact .inl ⟨r, hr, by simp [State.regionCrossings]⟩

/-! ### The command -/

/-- Insertions of a site's landings and groups end (R161). -/
def State.endSite (s : State) (site : Nat) : State :=
  (s.opt.ins.filter fun y => decide (y.kind ≤ 1 ∧ y.target = site)).foldl (fun s y => s.endIns y .failed stFenced) s

theorem State.endSite_spec (s : State) (site : Nat) : (s.endSite site).opt = { s.opt with ins := (s.endSite site).opt.ins } ∧
    ∀ y ∈ (s.endSite site).opt.ins, y.kind ≤ 1 → y.target ≠ site := by
  have hfold (ys : List Insertion) (t : State) : (ys.foldl (fun s y => s.endIns y .failed stFenced) t).opt =
      { t.opt with ins := t.opt.ins.filter fun z => decide (z ∉ ys) } := by
    induction ys generalizing t with
    | nil => simp
    | cons y ys ih =>
      rw [List.foldl_cons, ih, State.endIns_opt]
      refine congrArg (fun l => { t.opt with ins := l }) ?_
      dsimp only
      rw [List.filter_filter]
      refine List.filter_congr fun z _ => ?_
      simp [not_or, Bool.and_comm]
  have hopt : (s.endSite site).opt = _ := hfold _ s
  refine ⟨?_, fun y hy hkind htarget => ?_⟩
  · rw [hopt]
  · rw [hopt] at hy
    obtain ⟨hold, hgone⟩ := List.mem_filter.1 hy
    exact of_decide_eq_true hgone (List.mem_filter.2 ⟨hold, decide_eq_true ⟨hkind, htarget⟩⟩)

theorem State.endSite_keeps (s : State) (site : Nat) : Keeps [.mbx, .opt] s (s.endSite site) :=
  Keeps.foldl (fun _ y ht => Keeps.endIns_keeps (List.Subset.refl _) ht y .failed stFenced) (Keeps.refl s)

end Sys2Proof.Machine
end

section
/-! SUPPORT. SITE_ISOLATED, and the degradation ladder as a whole (R157-R162). -/
namespace Sys2Proof.Machine
open Sys2Proof.Safety

/-- A measurement at the site is given up. -/
def State.disarm (s : State) (site : Nat) : State :=
  { s with opt := { s.opt with armed := if s.opt.armed.any fun e => decide (e.1 = site) then none else s.opt.armed } }

theorem State.disarm_keeps (s : State) (site : Nat) : Keeps [.opt] s (s.disarm site) := by
  refine ⟨⟨fun g hg => ?_⟩, Regular.keep rfl⟩
  cases g with
  | opt => exact absurd (by decide) hg
  | _ => rfl

/-- An OPTIC_RECAL of the site waits. -/
def Wait.recalsAt (site : Site) (w : Wait) : Bool := match w with
  | .opticRecal t => decide (t.site = site)
  | _ => false

/-- The site and its die are marked, its insertions end, and what waits for its measurements is answered (R161). -/
def State.markIsolated (s : State) (site : Site) (bad : Bool) : State :=
  let s := s.modSite site fun x => { x with state := .isolated, backupBad := bad }
  let s := s.modDie site fun d => { d with st := .isolated }
  ((s.endSite site).answerAll (Wait.recalsAt site) (codeReply stFenced)).disarm site

/-- The site's replicas stand and its anchors break. -/
def State.stopSite (s : State) (site : Nat) : State :=
  ((siteRegions site).foldl State.stopReplica s).breakAnchors fun r => decide (siteOf r = site)

/-- Every crossing of a Chrounyar region is fenced, and its calibrations are abandoned. -/
def State.fenceChrounyar (s : State) : State :=
  ((s.calAbandon (siteRegions 16)).fenceAll (s.sideCrossings (siteRegions 16))).note16

def State.fenceIf (s : State) (site : Site) : State := if site.val = 16 then s.fenceChrounyar else s

def State.isolateSite (s : State) (site : Site) (bad : Bool) : State :=
  ((((s.markIsolated site bad).stopSite site).fenceIf site).raise evDieIsolated (routeArg site 0 0 0)).mlbSet (.isolated site)

theorem exec_siteIsolated {site : Site} {backupFailed : Bool} {s : State} (hchr : s.chrysalis = true) (hserved : (s.site site).served = true)
    (hgone : site = 16 ∨ (s.dieAt site).st = .lost)
    (hcause : ((∀ q, q < 4 → ((s.site site).route q).group = 7) ∧ ∀ g, g < 7 → g ∈ (s.site site).gfail ∨ (s.site site).isDown 1 g = true) ∨
      ((s.site site).state = .backup ∧ ((s.site site).backupBad = true ∨ backupFailed = true))) :
    exec (.siteIsolated site backupFailed) s = .next (s.isolateSite site
      ((s.site site).backupBad || (backupFailed && decide ((s.site site).state = .backup)))) := by
  have hrun : exec (.siteIsolated site backupFailed) s = execSiteIsolated site s backupFailed := rfl
  have hgone' : (decide (site.val = 16) || decide ((s.dieAt site).st = .lost) ||
      !((siteRegions site).any fun r => s.regionExists r && s.clocked r)) = true := by
    rcases hgone with rfl | hlost
    · rfl
    · simp [hlost]
  have hcause' : (((List.range 4).all fun q => decide (((s.site site).route q).group = 7)) &&
        (List.range 7).all fun g => (s.site site).gfail.contains g || (s.site site).isDown 1 g) = true ∨
      ((s.site site).state = .backup ∧ ((s.site site).backupBad || (backupFailed && decide ((s.site site).state = .backup))) = true) := by
    rcases hcause with ⟨hroutes, hgroups⟩ | ⟨hstate, hbad⟩
    · refine .inl ?_
      simp only [Bool.and_eq_true, List.all_eq_true, List.mem_range, decide_eq_true_eq, Bool.or_eq_true, List.contains_iff_mem]
      exact ⟨hroutes, hgroups⟩
    · refine .inr ⟨hstate, ?_⟩
      rw [hstate]
      simpa using hbad
  rw [hrun]
  unfold execSiteIsolated
  extract_lets x none_ bad gone s1 s2 mine s3 s4 o5 s5 s6 s7 s8
  rw [if_pos ⟨hchr, hserved, hgone', hcause'⟩]
  have h8 : s8 = s7.fenceIf site := rfl
  clear_value s8
  have h7 : s7 = s5.stopSite site := rfl
  clear_value s7
  have h5 : s5 = s4.disarm site := rfl
  clear_value s5
  have h4 : s4 = s3.answerAll (Wait.recalsAt site) (codeReply stFenced) := rfl
  clear_value s4
  have h3 : s3 = s2.endSite site := rfl
  rw [h8, h7, h5, h4, h3, State.isolateSite]
  rfl

theorem State.answerAll_opt (s : State) (p : Wait → Bool) (r : Reply) : (s.answerAll p r).opt = s.opt :=
  (Keeps.answerAll_keeps (List.Subset.refl _) (Keeps.refl s) p r).only.same .opt (by decide)

theorem State.markIsolated_keeps (s : State) (site : Site) (bad : Bool) : Keeps [.mbx, .opt, .die] s (s.markIsolated site bad) := by
  have hmark : Keeps [.mbx, .opt, .die] s ((s.modSite site fun x => { x with state := .isolated, backupBad := bad }).modDie site
      fun d => { d with st := .isolated }) :=
    Keeps.modDie_keeps (by decide) (Keeps.modSite_keeps (by decide) (Keeps.refl s) site _) site _
  have hend := (State.endSite_keeps ((s.modSite site fun x => { x with state := .isolated, backupBad := bad }).modDie site
    fun d => { d with st := .isolated }) site).mono (hs := [.mbx, .opt, .die]) (by decide)
  have hanswer := Keeps.answerAll_keeps (by decide) (hmark.trans hend) (Wait.recalsAt site) (codeReply stFenced)
  exact hanswer.trans ((State.disarm_keeps _ site).mono (by decide))

theorem State.markIsolated_spec (s : State) (site : Site) (bad : Bool) :
    ((s.markIsolated site bad).site site).state = .isolated ∧ ((s.markIsolated site bad).dieAt site).st = .isolated ∧
      (∀ y ∈ (s.markIsolated site bad).opt.ins, y.kind ≤ 1 → y.target ≠ site.val) ∧
      ∀ i, i ≠ site.val → (s.markIsolated site bad).site i = s.site i ∧ (s.markIsolated site bad).dieAt i = s.dieAt i := by
  unfold State.markIsolated
  extract_lets s1 s2
  have hspec := s2.endSite_spec site
  have hopt := State.answerAll_opt (s2.endSite site) (Wait.recalsAt site) (codeReply stFenced)
  have hkeeps : Keeps [.mbx, .opt] s2 ((s2.endSite site).answerAll (Wait.recalsAt site) (codeReply stFenced)) :=
    Keeps.answerAll_keeps (by decide) (s2.endSite_keeps site) _ _
  generalize (s2.endSite site).answerAll (Wait.recalsAt site) (codeReply stFenced) = s3 at *
  have hsites (i : Nat) : (s3.disarm site).site i = s2.site i :=
    State.site_congr ((congrArg Opt.site hopt).trans (congrArg Opt.site hspec.1 :)) i
  have hdie (i : Nat) : (s3.disarm site).dieAt i = s2.dieAt i := State.dieAt_congr (hkeeps.only.same .die (by decide)) i
  have hins : (s3.disarm site).opt.ins = (s2.endSite site).opt.ins := (congrArg Opt.ins hopt :)
  have h1 : s2.site site = { s.site site with state := .isolated, backupBad := bad } := s.site_modSite _ site.isLt
  have h2 : s2.dieAt site = { s1.dieAt site with st := .isolated } := s1.dieAt_modDie _ site.isLt
  exact ⟨(congrArg SiteOpt.state (hsites site)).trans (congrArg SiteOpt.state h1 :), (congrArg Die.st (hdie site)).trans (congrArg Die.st h2 :),
    fun y hy => hspec.2 y (hins ▸ hy), fun i hi => ⟨(hsites i).trans (s.site_modSite_ne _ hi), (hdie i).trans (s1.dieAt_modDie_ne _ hi)⟩⟩

theorem State.stopSite_keeps (s : State) (site : Nat) : Keeps [.mbx, .reg, .et, .ev] s (s.stopSite site) :=
  Keeps.breakAnchors_keeps (by decide) (Keeps.foldl (fun _ r ht => Keeps.stopReplica_keeps (by decide) ht r) (Keeps.refl s)) _

theorem State.stopSite_stands {s : State} {site : Nat} {r : RegionNo} (hr : r ∈ siteRegions site) (hwf : s.RegWf) :
    ((s.stopSite site).rgn r).stands = true := by
  have hwf' : ((siteRegions site).foldl State.stopReplica s).RegWf := State.foldl_wf (F := State.stopReplica) (fun t r ht => t.modRgn_wf r _ ht) _ hwf
  have hstop := State.stopReplicas_stand hr hwf
  unfold State.stopSite
  generalize (siteRegions site).foldl State.stopReplica s = t at *
  exact (((State.FieldKept.refl hwf' (p := Region.stands)).core Region.stands_congr
    ((State.CoreKept.refl hwf').breakAnchors _)).region r).trans hstop

theorem State.fenceChrounyar_keeps (s : State) : Keeps [.mbx, .reg, .cal, .ls, .xg, .opt] s s.fenceChrounyar :=
  Keeps.note16_keeps (by decide) (Keeps.fenceAll_keeps (by decide) (Keeps.calAbandon_keeps (by decide) (Keeps.refl s) _) _)

theorem State.fenceChrounyar_opt (s : State) : ∃ since, s.fenceChrounyar.opt = { s.opt with since16 := since } := by
  obtain ⟨since, h⟩ := ((s.calAbandon (siteRegions 16)).fenceAll (s.sideCrossings (siteRegions 16))).note16_opt
  have hopt : ((s.calAbandon (siteRegions 16)).fenceAll (s.sideCrossings (siteRegions 16))).opt = s.opt :=
    (Keeps.fenceAll_keeps (gs := [.mbx, .reg, .cal, .ls, .xg]) (by decide)
      (Keeps.calAbandon_keeps (by decide) (Keeps.refl s) _) _).only.same .opt (by decide)
  exact ⟨since, h.trans (congrArg (fun o : Opt => { o with since16 := since }) hopt)⟩

theorem State.fenceChrounyar_stands {s : State} (hwf : s.RegWf) : State.FieldKept Region.stands s s.fenceChrounyar := by
  have hcal := (State.FieldKept.refl hwf (p := Region.stands)).calAbandon (siteRegions 16)
  have hfence := hcal.core Region.stands_congr ((State.CoreKept.refl hcal.wf).fenceAll (s.sideCrossings (siteRegions 16)))
  exact hfence.step (Keeps.note16_keeps (List.Subset.refl _) (Keeps.refl _)) (by decide)

theorem State.fenceChrounyar_fenced {s : State} (hreg : Regular s) {r : RegionNo} (hr : r ∈ siteRegions 16) :
    (s.fenceChrounyar.xing (xId 4 r)).st = .fenced := by
  have hlt : (r : Nat) < 65536 := lt_of_siteOf_lt (by rw [siteOf_of_mem_siteRegions hr]; decide)
  have hclass : xClass (xId 4 r) ≠ 9 := by rw [xClass_xId (lt_trans hlt (by decide))]; decide
  have hcal : Regular (s.calAbandon (siteRegions 16)) := (Keeps.calAbandon_keeps (List.Subset.refl _) (Keeps.refl s) _).regular hreg
  have hfence := State.fenceAll_fenced (s.mem_sideCrossings_msg hr) hclass hcal
  refine (congrArg Xing.st (State.xing_congr ?_ _)).trans hfence
  exact congrArg Xg.x ((Keeps.note16_keeps (List.Subset.refl _) (Keeps.refl _)).only.same .xg (by decide))

theorem State.fenceIf_keeps (s : State) (site : Site) : Keeps [.mbx, .reg, .cal, .ls, .xg, .opt] s (s.fenceIf site) := by
  unfold State.fenceIf
  split
  · exact s.fenceChrounyar_keeps
  · exact Keeps.refl s

theorem State.fenceIf_opt (s : State) (site : Site) : (s.fenceIf site).opt.site = s.opt.site ∧ (s.fenceIf site).opt.ins = s.opt.ins := by
  unfold State.fenceIf
  split
  · obtain ⟨since, h⟩ := s.fenceChrounyar_opt
    exact ⟨(congrArg Opt.site h :), (congrArg Opt.ins h :)⟩
  · exact ⟨rfl, rfl⟩

theorem State.fenceIf_stands {s : State} (hwf : s.RegWf) (site : Site) (r : RegionNo) :
    ((s.fenceIf site).rgn r).stands = (s.rgn r).stands := by
  unfold State.fenceIf
  split
  · exact (State.fenceChrounyar_stands hwf).region r
  · rfl

theorem State.fenceIf_fenced {s : State} (hreg : Regular s) {site : Site} (hsite : site = 16) {r : RegionNo} (hr : r ∈ siteRegions 16) :
    ((s.fenceIf site).xing (xId 4 r)).st = .fenced := by
  rw [State.fenceIf, if_pos (by rw [hsite]; rfl)]
  exact State.fenceChrounyar_fenced hreg hr

theorem siteIsolated_spec (site : Site) (backupFailed : Bool) (s : State) (hreg : Regular s) (hchr : s.chrysalis = true)
    (hserved : (s.site site).served = true) (hgone : site = 16 ∨ (s.dieAt site).st = .lost)
    (hcause : ((∀ q, q < 4 → ((s.site site).route q).group = 7) ∧ ∀ g, g < 7 → g ∈ (s.site site).gfail ∨ (s.site site).isDown 1 g = true) ∨
      ((s.site site).state = .backup ∧ ((s.site site).backupBad = true ∨ backupFailed = true))) :
    ∃ t, exec (.siteIsolated site backupFailed) s = .next t ∧ (t.site site).state = .isolated ∧ (t.dieAt site).st = .isolated ∧
      FaultCause.isolated site ∈ t.sys.mlb ∧ (∀ y ∈ t.opt.ins, y.kind ≤ 1 → y.target ≠ site.val) ∧
      (site = 16 → ∀ r ∈ siteRegions 16, (t.xing (xId 4 r)).st = .fenced) ∧
      (∀ r ∈ siteRegions site, (t.rgn r).rep.stopped = true) ∧
      (∀ i, i ≠ site.val → t.site i = s.site i ∧ t.dieAt i = s.dieAt i) := by
  have hrun := exec_siteIsolated hchr hserved hgone hcause
  generalize ((s.site site).backupBad || (backupFailed && decide ((s.site site).state = .backup))) = bad at hrun
  obtain ⟨hstate, hdie, hins, hother⟩ := s.markIsolated_spec site bad
  have hreg1 : Regular (s.markIsolated site bad) := (s.markIsolated_keeps site bad).regular hreg
  rw [State.isolateSite] at hrun
  generalize s.markIsolated site bad = s1 at *
  have hkeeps2 : Keeps [.mbx, .reg, .et, .ev] s1 (s1.stopSite site) := s1.stopSite_keeps site
  have hreg2 : Regular (s1.stopSite site) := hkeeps2.regular hreg1
  have hstand2 : ∀ r ∈ siteRegions site, ((s1.stopSite site).rgn r).stands = true := fun r hr => State.stopSite_stands hr hreg1.regions
  have hopt2 : (s1.stopSite site).opt = s1.opt := hkeeps2.only.same .opt (by decide)
  generalize s1.stopSite site = s2 at *
  have hkeeps3 := s2.fenceIf_keeps site
  have hopt3 := s2.fenceIf_opt site
  have hstand3 (r : RegionNo) := State.fenceIf_stands hreg2.regions site r
  have hfence3 (hsite : site = 16) (r : RegionNo) (hr : r ∈ siteRegions 16) := State.fenceIf_fenced hreg2 hsite hr
  generalize s2.fenceIf site = s3 at *
  have hend : Keeps [.sys, .mbx, .ev] s3 ((s3.raise evDieIsolated (routeArg site 0 0 0)).mlbSet (.isolated site)) :=
    Keeps.mlbSet_keeps (by decide) (Keeps.raise_keeps (by decide) (Keeps.refl s3) _ _) _
  have hmlb := State.mem_mlbSet (s3.raise evDieIsolated (routeArg site 0 0 0)) (.isolated site)
  generalize (s3.raise evDieIsolated (routeArg site 0 0 0)).mlbSet (.isolated site) = t at *
  have hopt : t.opt = s3.opt := hend.only.same .opt (by decide)
  have hsites (i : Nat) : t.site i = s1.site i :=
    State.site_congr ((congrArg Opt.site hopt).trans (hopt3.1.trans (congrArg Opt.site hopt2))) i
  have hdies (i : Nat) : t.dieAt i = s1.dieAt i := State.dieAt_congr ((hend.only.same .die (by decide)).trans
    ((hkeeps3.only.same .die (by decide)).trans (hkeeps2.only.same .die (by decide)))) i
  refine ⟨t, hrun, (congrArg SiteOpt.state (hsites site)).trans hstate, (congrArg Die.st (hdies site)).trans hdie, hmlb, fun y hy => hins y ?_,
    fun hsite r hr => ?_, fun r hr => ?_, fun i hi => ⟨(hsites i).trans (hother i hi).1, (hdies i).trans (hother i hi).2⟩⟩
  · rw [← hopt2, ← hopt3.2, ← hopt]
    exact hy
  · exact (congrArg Xing.st (State.xing_congr (congrArg Xg.x (hend.only.same .xg (by decide))) _)).trans (hfence3 hsite r hr)
  · exact (congrArg Region.stands (State.rgn_congr (hend.only.same .reg (by decide)) r)).trans ((hstand3 r).trans (hstand2 r hr))

/-- Settles O45: a permanent borrow takes the sum of the cross-links as they are remeasured and ends its insertion; a site moves to BACKUP as a whole,
and returns when a carrier within WARN takes the role; and a site without a group or a backup line is ISOLATED, its replicas standing. -/
theorem degradationLadder : Obligations.DegradationLadder := by
  refine ⟨fun site q p g links delays y s hreg => ?_, fun site s => ?_, fun c p e launched s hfw hnow htone hslot hfree hfind hp =>
    siteOptical_spec c p e launched s hfw hnow htone hslot hfree hfind hp, fun site backupFailed s hreg => ?_⟩
  · intro x hins hruns hstep hwaits hserved hfree hpath hlinks hfixed hown hfeed hnow hlen hdown hg
    exact borrowPermanent_spec site q p g links delays y s hreg hins hruns hstep hwaits hserved hfree hpath hlinks hfixed hown hfeed hnow hlen
      hdown hg
  · intro x hchr hnow hstate hneed
    exact siteBackup_spec site s hchr hnow hstate hneed
  · intro x hchr hserved hgone hcause
    exact siteIsolated_spec site backupFailed s hreg hchr hserved hgone hcause

end Sys2Proof.Machine
end


section
/-! SUPPORT. Measurement in service (R148, R149). -/
namespace Sys2Proof.Machine
open Sys2Proof.Safety

/-! ### Waits that are answered together -/

/-- One mailbox's turn as waits are answered. -/
def State.answerTurn (p : Wait → Bool) (r : Reply) (s : State) (m : Fin 8) : State :=
  match (s.box m).wait with
  | some w => if p w then s.complete m r else s
  | none => s

theorem State.answerAll_eq (s : State) (p : Wait → Bool) (r : Reply) : s.answerAll p r = (List.finRange 8).foldl (State.answerTurn p r) s := rfl

theorem State.answerTurn_of_not {p : Wait → Bool} {s : State} {m : Fin 8} (r : Reply)
    (h : ∀ w, (s.box m).wait = some w → p w = true → (s.box m).st ≠ .working) : s.answerTurn p r m = s := by
  unfold State.answerTurn
  split
  next w hw =>
    split
    next hp => exact if_neg (h w hw hp)
    · rfl
  · rfl

theorem State.answerTurn_of_waits {p : Wait → Bool} {s : State} {m : Fin 8} {w : Wait} (r : Reply) (hw : (s.box m).wait = some w)
    (hp : p w = true) (hst : (s.box m).st = .working) : s.answerTurn p r m = s.answer m r := by
  unfold State.answerTurn
  split
  next w' hw' =>
    obtain rfl : w = w' := Option.some.inj (hw.symm.trans hw')
    rw [if_pos hp, State.complete_of_working r hst]
  next hnone => exact absurd (hw.symm.trans hnone) (by simp)

/-- Where no mailbox at work waits for it, nothing is answered. -/
theorem State.answerAll_of_findWait_none {s : State} {p : Wait → Bool} (r : Reply) (h : s.findWait p = none) : s.answerAll p r = s := by
  have hnone (m : Fin 8) (w : Wait) (hw : (s.box m).wait = some w) (hp : p w = true) : (s.box m).st ≠ .working := by
    intro hst
    have hm := List.find?_eq_none.1 h m (List.mem_finRange m)
    rw [hw] at hm
    exact hm (by simp [hst, hp])
  rw [State.answerAll_eq]
  exact List.foldlRecOn (motive := fun t : State => t = s) _ _ rfl fun t ht m _ => by
    rw [ht]
    exact State.answerTurn_of_not r (hnone m)

/-- Where one mailbox alone waits for it, that one is answered. -/
theorem State.answerAll_of_one {s : State} {p : Wait → Bool} {b : Fin 8} {w : Wait} (r : Reply) (hst : (s.box b).st = .working)
    (hw : (s.box b).wait = some w) (hp : p w = true) (hone : ∀ n, n ≠ b → ∀ w, (s.box n).wait = some w → p w = false) :
    s.answerAll p r = s.answer b r := by
  have hskip (l : List (Fin 8)) (hb : b ∉ l) (t : State) (ht : ∀ n, n ≠ b → t.box n = s.box n) : l.foldl (State.answerTurn p r) t = t :=
    List.foldlRecOn (motive := fun u : State => u = t) _ _ rfl fun u hu m hm => by
      have hm' : m ≠ b := fun he => hb (he ▸ hm)
      rw [hu]
      refine State.answerTurn_of_not r fun w hw hp => ?_
      rw [ht m hm'] at hw
      exact absurd hp (by rw [hone m hm' w hw]; decide)
  obtain ⟨l1, l2, hl⟩ := List.append_of_mem (List.mem_finRange b)
  have hnodup : (l1 ++ b :: l2).Nodup := hl ▸ List.nodup_finRange 8
  obtain ⟨-, hright, hdisj⟩ := List.nodup_append.1 hnodup
  rw [State.answerAll_eq, hl, List.foldl_append, hskip l1 (fun h => hdisj b h b List.mem_cons_self rfl) s fun _ _ => rfl, List.foldl_cons,
    State.answerTurn_of_waits r hw hp hst]
  exact hskip l2 (List.nodup_cons.1 hright).1 _ fun n hn => s.box_answer_ne r hn

/-! ### Terms -/

/-- A term as it is stored. -/
def State.setTerm (s : State) (key : Nat) (x : Term) : State :=
  { s with opt := { s.opt with terms := Map.put none s.opt.terms key (some x) } }

theorem State.term_setTerm (s : State) (key : Nat) (x : Term) (hwf : Map.wf none s.opt.terms = true) : (s.setTerm key x).term key = some x :=
  Map.get_put_self none (m := s.opt.terms) key (some x) (Map.wf_rising hwf)

theorem State.term_setTerm_ne (s : State) {key k : Nat} (x : Term) (h : k ≠ key) : (s.setTerm key x).term k = s.term k :=
  Map.get_put_ne none s.opt.terms (some x) h

theorem State.setTerm_only (s : State) (key : Nat) (x : Term) : Only [.opt] s (s.setTerm key x) :=
  ⟨fun g hg => by
    cases g with
    | opt => exact absurd (by decide) hg
    | _ => rfl⟩

theorem State.measured_near {s : State} {t : RouteTerm} {d : Nat} {x : Term} (hterm : s.term (RouteTerm.key t) = some x)
    (hnear : ((d : Int) - x.inUse).natAbs ≤ 20) :
    s.measured t d = (s.setTerm (RouteTerm.key t) { x with meas := d, at_ := s.now, held := none }, true) := by
  unfold State.measured
  dsimp only
  rw [hterm]
  exact if_pos hnear

theorem State.measured_withheld {s : State} {t : RouteTerm} {d : Nat} {x : Term} (hterm : s.term (RouteTerm.key t) = some x)
    (hfar : 20 < ((d : Int) - x.inUse).natAbs) (hheld : x.held = none) :
    s.measured t d = (s.setTerm (RouteTerm.key t) { x with at_ := s.now, held := some d }, false) := by
  unfold State.measured
  dsimp only
  rw [hterm]
  dsimp only
  rw [if_neg (not_le.2 hfar), hheld]
  rfl

theorem State.requestIns_terms (s : State) (x : Insertion) : (s.requestIns x).opt.terms = s.opt.terms := by
  unfold State.requestIns
  dsimp only
  split
  · rfl
  · split <;> rfl

theorem State.callRoute_terms (s : State) (site kind part q : Nat) : (s.callRoute site kind part q).opt.terms = s.opt.terms := by
  unfold State.callRoute
  split
  · rfl
  · exact s.requestIns_terms _

theorem State.degradeLanding_terms (s : State) (site l : Nat) : (s.degradeLanding site l).opt.terms = s.opt.terms := by
  unfold State.degradeLanding
  dsimp only
  split
  · rfl
  · split
    · exact State.callRoute_terms _ _ _ _ _
    · rfl

theorem State.degradeGroup_terms (s : State) (site g : Nat) : (s.degradeGroup site g).opt.terms = s.opt.terms := by
  unfold State.degradeGroup
  dsimp only
  split
  · rfl
  · split
    · exact State.callRoute_terms _ _ _ _ _
    · rfl

theorem State.degradeTerm_terms (s : State) (t : RouteTerm) : (s.degradeTerm t).opt.terms = s.opt.terms := by
  unfold State.degradeTerm
  dsimp only
  split
  · exact s.degradeLanding_terms _ _
  · split
    · exact s.degradeGroup_terms _ _
    · split <;> rfl

theorem State.measured_again {s : State} {t : RouteTerm} {d : Nat} {x : Term} (hterm : s.term (RouteTerm.key t) = some x)
    (hfar : 20 < ((d : Int) - x.inUse).natAbs) (hheld : x.held.isSome = true) :
    (s.measured t d).1.opt.terms = (s.setTerm (RouteTerm.key t) { x with at_ := s.now, held := none }).opt.terms := by
  obtain ⟨h, hh⟩ := Option.isSome_iff_exists.1 hheld
  unfold State.measured
  dsimp only
  rw [hterm]
  dsimp only
  rw [if_neg (not_le.2 hfar), hh]
  dsimp only
  split
  · exact State.degradeTerm_terms _ _
  · rfl

/-- A measurement writes its own term. -/
theorem State.measured_terms {s : State} {t : RouteTerm} {d : Nat} {x : Term} (hterm : s.term (RouteTerm.key t) = some x) :
    ∃ y, (s.measured t d).1.opt.terms = (s.setTerm (RouteTerm.key t) y).opt.terms := by
  rcases Nat.lt_or_ge 20 ((d : Int) - x.inUse).natAbs with hfar | hnear
  · rcases hheld : x.held with _ | h
    · rw [State.measured_withheld hterm hfar hheld]
      exact ⟨_, rfl⟩
    · exact ⟨_, State.measured_again hterm hfar (by rw [hheld]; rfl)⟩
  · rw [State.measured_near hterm hnear]
    exact ⟨_, rfl⟩

/-! ### INSVC_MEASUREMENT_DONE -/

/-- A measurement of a landing's carrier is noted; the landing stays armed until its four carriers are in, and after them where one was
withheld (R148, R149). -/
def State.landingMeasured (s : State) (t : RouteTerm) : State :=
  let s := s.noteTemp t.site t.index
  if t.carrier ≠ 3 then { s with opt := { s.opt with armed := some (t.site.val, t.index) } }
  else { s with opt := { s.opt with armed := if s.withheld t.site t.index then some (t.site.val, t.index) else none } }

theorem State.landingMeasured_terms (s : State) (t : RouteTerm) : (s.landingMeasured t).opt.terms = s.opt.terms := by
  unfold State.landingMeasured
  dsimp only
  split <;> rfl

theorem State.landingMeasured_only (s : State) (t : RouteTerm) : Only [.opt] s (s.landingMeasured t) := by
  refine ⟨fun g hg => ?_⟩
  unfold State.landingMeasured
  dsimp only
  cases g with
  | opt => exact absurd (by decide) hg
  | _ => split <;> rfl

theorem State.term_congr {s t : State} (h : t.opt.terms = s.opt.terms) (k : Nat) : t.term k = s.term k := by
  rw [State.term, h, ← State.term]

theorem State.withheld_congr {s t : State} (h : t.opt.terms = s.opt.terms) (site l : Nat) : t.withheld site l = s.withheld site l := by
  unfold State.withheld
  simp only [State.term_congr h]

theorem State.landingMeasured_armed (s : State) {t : RouteTerm} (h : t.carrier ≠ 3) :
    (s.landingMeasured t).opt.armed = some (t.site.val, t.index) := by
  rw [State.landingMeasured, if_pos h]

theorem State.landingMeasured_armed_last (s : State) {t : RouteTerm} (h : t.carrier = 3) :
    (s.landingMeasured t).opt.armed =
      if (s.landingMeasured t).withheld t.site t.index then some (t.site.val, t.index) else none := by
  rw [State.withheld_congr (s.landingMeasured_terms t)]
  rw [State.landingMeasured, if_neg (not_not.2 h)]
  rfl

/-- The measurement is one that is armed, due again, or asked for (R148). -/
def State.mayMeasure (s : State) (t : RouteTerm) : Bool :=
  let armed : Bool := match s.opt.armed with
    | some (i, l) => decide (i = t.site.val) && (decide (t.kind ≠ 0) || decide (l = t.index))
    | none => false
  let again : Bool := decide (t.kind ≠ 0) && (s.term (RouteTerm.key t)).any fun x => x.held.isSome
  armed || again || ((s.findWait (RouteTerm.asked t)).isSome && (decide (t.kind ≠ 0) || s.opt.armed.isNone))

theorem State.mayMeasure_of_armed {s : State} {t : RouteTerm} {l : Nat} (harmed : s.opt.armed = some (t.site.val, l))
    (hl : t.kind ≠ 0 ∨ l = t.index) : s.mayMeasure t = true := by
  have harm : (decide (t.site.val = t.site.val) && (decide (t.kind ≠ 0) || decide (l = t.index))) = true := by simpa using hl
  rw [State.mayMeasure, harmed]
  dsimp only
  rw [harm]
  rfl

theorem State.mayMeasure_of_asked {s : State} {t : RouteTerm} {b : Fin 8} (hwait : s.findWait (RouteTerm.asked t) = some b)
    (h : t.kind ≠ 0 ∨ s.opt.armed = none) : s.mayMeasure t = true := by
  have hasked : ((s.findWait (RouteTerm.asked t)).isSome && (decide (t.kind ≠ 0) || s.opt.armed.isNone)) = true := by
    rw [hwait]
    simpa using h
  unfold State.mayMeasure
  dsimp only
  rw [hasked, Bool.or_true]

/-- The answer to an OPTIC_RECAL that waits for a term that is not a landing's. -/
def measureReply (applied : Bool) (d now : Nat) : Reply := okReply (toLE 4 (at_ (b2n applied) 31 + d) ++ zeros 4 ++ toLE 8 now)

theorem exec_insvcMeasurementDone_other {t : RouteTerm} {delay : Nat} {s : State} (hserved : (s.site t.site).served = true)
    (hmay : s.mayMeasure t = true) (hdelay : delay < 2 ^ 20) (hkind : t.kind ≠ 0) :
    exec (.insvcMeasurementDone t delay) s = .next ((s.measured t delay).1.answerAll (RouteTerm.asked t)
      (measureReply (s.measured t delay).2 delay (s.measured t delay).1.now)) := by
  have hrun : exec (.insvcMeasurementDone t delay) s = execInsvcMeasurementDone t delay s := rfl
  rw [hrun]
  unfold execInsvcMeasurementDone
  extract_lets d waiting armed again may
  have hd : d = delay := Nat.mod_eq_of_lt hdelay
  have hmay' : may = true := hmay
  rw [if_neg (by rw [hserved, hmay']; decide), hd]
  obtain ⟨u, applied⟩ := s.measured t delay
  exact if_pos hkind

theorem exec_insvcMeasurementDone_landing {t : RouteTerm} {delay : Nat} {s : State} (hserved : (s.site t.site).served = true)
    (hmay : s.mayMeasure t = true) (hdelay : delay < 2 ^ 20) (hkind : t.kind = 0) :
    exec (.insvcMeasurementDone t delay) s = .next (if t.carrier ≠ 3 then (s.measured t delay).1.landingMeasured t
      else ((s.measured t delay).1.landingMeasured t).answerAll (RouteTerm.asked t)
        (((s.measured t delay).1.landingMeasured t).recalReply
          (landingKey t.site t.index (s.measured t delay).1.opt.tone))) := by
  have hrun : exec (.insvcMeasurementDone t delay) s = execInsvcMeasurementDone t delay s := rfl
  rw [hrun]
  unfold execInsvcMeasurementDone
  extract_lets d waiting armed again may
  have hd : d = delay := Nat.mod_eq_of_lt hdelay
  have hmay' : may = true := hmay
  rw [if_neg (by rw [hserved, hmay']; decide), hd]
  obtain ⟨u, applied⟩ := s.measured t delay
  refine (if_neg (not_not.2 hkind)).trans ?_
  unfold State.landingMeasured
  dsimp only
  split
  · rfl
  · rfl

end Sys2Proof.Machine
end


section
/-! SUPPORT. Measurements, the delay slew, and the route commands (R148, R149, R166, R204, R328, R329). -/
namespace Sys2Proof.Machine
open Sys2Proof.Safety

/-- What the measurement of a term that is armed leaves (R149). -/
structure State.MeasuredTo (s t : State) (m : RouteTerm) (delay : Nat) (x : Term) : Prop where
  near : ((delay : Int) - x.inUse).natAbs ≤ 20 → t.term (RouteTerm.key m) = some { x with meas := delay, at_ := s.now, held := none } ∧
    Only [.opt] s t
  withheld : 20 < ((delay : Int) - x.inUse).natAbs → x.held = none →
    t.term (RouteTerm.key m) = some { x with at_ := s.now, held := some delay } ∧ Only [.opt] s t
  again : 20 < ((delay : Int) - x.inUse).natAbs → x.held.isSome = true →
    t.term (RouteTerm.key m) = some { x with at_ := s.now, held := none }
  other : ∀ k, k ≠ RouteTerm.key m → t.term k = s.term k

/-- A state with the terms of a measurement, and nothing else changed where none was measured a second time. -/
theorem State.MeasuredTo.of_terms {s t : State} {m : RouteTerm} {delay : Nat} {x : Term} (hwf : Map.wf none s.opt.terms = true)
    (hterm : s.term (RouteTerm.key m) = some x) (hterms : t.opt.terms = (s.measured m delay).1.opt.terms)
    (honly : (∃ y, (s.measured m delay).1 = s.setTerm (RouteTerm.key m) y) → Only [.opt] s t) : State.MeasuredTo s t m delay x := by
  refine ⟨fun hnear => ?_, fun hfar hheld => ?_, fun hfar hheld => ?_, fun k hk => ?_⟩
  · have hm := congrArg Prod.fst (State.measured_near hterm hnear)
    refine ⟨?_, honly ⟨_, hm⟩⟩
    rw [State.term_congr (hterms.trans (congrArg (fun u : State => u.opt.terms) hm)), s.term_setTerm _ _ hwf]
  · have hm := congrArg Prod.fst (State.measured_withheld hterm hfar hheld)
    refine ⟨?_, honly ⟨_, hm⟩⟩
    rw [State.term_congr (hterms.trans (congrArg (fun u : State => u.opt.terms) hm)), s.term_setTerm _ _ hwf]
  · rw [State.term_congr (hterms.trans (State.measured_again hterm hfar hheld)), s.term_setTerm _ _ hwf]
  · obtain ⟨y, hy⟩ := State.measured_terms (d := delay) hterm
    rw [State.term_congr (hterms.trans hy), s.term_setTerm_ne _ hk]

theorem insvcMeasurementDone_spec (m : RouteTerm) (delay l : Nat) (x : Term) (s : State) (hreg : Regular s)
    (hserved : (s.site m.site).served = true) (hdelay : delay < 2 ^ 20) (harmed : s.opt.armed = some (m.site.val, l))
    (hl : m.kind ≠ 0 ∨ l = m.index) (hwait : s.findWait (RouteTerm.asked m) = none) (hterm : s.term (RouteTerm.key m) = some x) :
    ∃ t, exec (.insvcMeasurementDone m delay) s = .next t ∧ State.MeasuredTo s t m delay x ∧
      (m.kind = 0 → m.carrier ≠ 3 → t.opt.armed = some (m.site.val, m.index)) ∧
      (m.kind = 0 → m.carrier = 3 → t.opt.armed = if t.withheld m.site m.index then some (m.site.val, m.index) else none) := by
  have hmay := State.mayMeasure_of_armed harmed hl
  have hidle {t : State} (r : Reply) (h : Only [.opt] s t) : t.answerAll (RouteTerm.asked m) r = t :=
    State.answerAll_of_findWait_none r ((State.findWait_congr _ (congrArg Mbx.box (h.same .mbx (by decide)))).trans hwait)
  have hset {y : Term} : Only [.opt] s (s.setTerm (RouteTerm.key m) y) := s.setTerm_only _ _
  rcases Decidable.em (m.kind = 0) with hkind | hkind
  · have hrun := exec_insvcMeasurementDone_landing hserved hmay hdelay hkind
    have hlanding : (∃ y, (s.measured m delay).1 = s.setTerm (RouteTerm.key m) y) →
        Only [.opt] s ((s.measured m delay).1.landingMeasured m) := fun ⟨y, hy⟩ =>
      Only.trans (hy ▸ hset) (State.landingMeasured_only _ m)
    have hterms := State.landingMeasured_terms (s.measured m delay).1 m
    rcases Decidable.em (m.carrier = 3) with hlast | hmore
    · rw [if_neg (not_not.2 hlast)] at hrun
      have hopt := State.answerAll_opt ((s.measured m delay).1.landingMeasured m) (RouteTerm.asked m)
        (((s.measured m delay).1.landingMeasured m).recalReply (landingKey m.site m.index (s.measured m delay).1.opt.tone))
      refine ⟨_, hrun, .of_terms hreg.terms hterm ((congrArg Opt.terms hopt).trans hterms) fun hy => ?_, fun _ h => absurd hlast h, fun _ _ => ?_⟩
      · rw [hidle _ (hlanding hy)]
        exact hlanding hy
      · rw [State.withheld_congr (congrArg Opt.terms hopt), congrArg Opt.armed hopt]
        exact State.landingMeasured_armed_last _ hlast
    · rw [if_pos hmore] at hrun
      exact ⟨_, hrun, .of_terms hreg.terms hterm hterms hlanding, fun _ _ => State.landingMeasured_armed _ hmore, fun _ h => absurd h hmore⟩
  · have hrun := exec_insvcMeasurementDone_other hserved hmay hdelay hkind
    have hopt := State.answerAll_opt (s.measured m delay).1 (RouteTerm.asked m)
      (measureReply (s.measured m delay).2 delay (s.measured m delay).1.now)
    refine ⟨_, hrun, .of_terms hreg.terms hterm (congrArg Opt.terms hopt) fun hy => ?_, fun h => absurd h hkind, fun h => absurd h hkind⟩
    obtain ⟨y, hy⟩ := hy
    have honly : Only [.opt] s (s.measured m delay).1 := hy ▸ hset
    rw [hidle _ honly]
    exact honly

/-- An OPTIC_RECAL that alone waits for a term is answered with its measurement (R329). -/
theorem insvcMeasurementDone_asked (m : RouteTerm) (delay : Nat) (x : Term) (b : Fin 8) (s : State) (hserved : (s.site m.site).served = true)
    (hdelay : delay < 2 ^ 20) (hterm : s.term (RouteTerm.key m) = some x) (hnear : ((delay : Int) - x.inUse).natAbs ≤ 20)
    (hwait : s.findWait (RouteTerm.asked m) = some b)
    (hone : ∀ n, n ≠ b → ∀ w, (s.box n).wait = some w → RouteTerm.asked m w = false) :
    (m.kind ≠ 0 → ∃ u, exec (.insvcMeasurementDone m delay) s =
      .next (u.answer b (okReply (toLE 4 (2 ^ 31 + delay) ++ zeros 4 ++ toLE 8 s.now))) ∧ Only [.opt] s u) ∧
    (m.kind = 0 → s.opt.armed = none ∨ s.opt.armed = some (m.site.val, m.index) →
      (m.carrier ≠ 3 → ∃ t, exec (.insvcMeasurementDone m delay) s = .next t ∧ t.opt.armed = some (m.site.val, m.index) ∧ Only [.opt] s t) ∧
      (m.carrier = 3 → ∃ u, exec (.insvcMeasurementDone m delay) s =
        .next (u.answer b (u.recalReply (landingKey m.site m.index s.opt.tone))) ∧ Only [.opt] s u)) := by
  obtain ⟨hst, w, hw, hp⟩ := State.findWait_spec hwait
  have hanswer {t : State} (r : Reply) (h : Only [.opt] s t) : t.answerAll (RouteTerm.asked m) r = t.answer b r := by
    have hbox (n : Fin 8) : t.box n = s.box n := State.box_congr (congrArg Mbx.box (h.same .mbx (by decide))) n
    exact State.answerAll_of_one r (by rw [hbox]; exact hst) (by rw [hbox]; exact hw) hp fun n hn w hw => hone n hn w (by rwa [hbox] at hw)
  have hm := State.measured_near hterm hnear
  have hset := s.setTerm_only (RouteTerm.key m) { x with meas := delay, at_ := s.now, held := none }
  refine ⟨fun hkind => ?_, fun hkind harmed => ?_⟩
  · have hrun := exec_insvcMeasurementDone_other hserved (State.mayMeasure_of_asked hwait (.inl hkind)) hdelay hkind
    rw [hm] at hrun
    dsimp only at hrun
    rw [hanswer _ hset] at hrun
    exact ⟨_, hrun, hset⟩
  · have hmay : s.mayMeasure m = true := by
      rcases harmed with hnone | hsome
      · exact State.mayMeasure_of_asked hwait (.inr hnone)
      · exact State.mayMeasure_of_armed hsome (.inr rfl)
    have hrun := exec_insvcMeasurementDone_landing hserved hmay hdelay hkind
    rw [hm] at hrun
    dsimp only at hrun
    have hlanding := hset.trans (State.landingMeasured_only _ m)
    refine ⟨fun hmore => ?_, fun hlast => ?_⟩
    · rw [if_pos hmore] at hrun
      exact ⟨_, hrun, State.landingMeasured_armed _ hmore, hlanding⟩
    · rw [if_neg (not_not.2 hlast), hanswer _ hlanding] at hrun
      exact ⟨_, hrun, hlanding⟩

/-! ### The delay slew and lanes remeasured -/

theorem Map.get_map {α : Type} (d : α) {f : α → α} (hf : f d = d) (m : Map α) (k : Nat) :
    Map.get d (m.map fun e => (e.1, f e.2)) k = f (Map.get d m k) := by
  induction m with
  | nil => exact hf.symm
  | cons e m ih =>
    obtain ⟨j, v⟩ := e
    rw [List.map_cons, Map.get, Map.get, ih, apply_ite f]

theorem delaySlew_spec (s : State) (hnow : s.now % 256 = 0) :
    ∃ t, exec .delaySlew s = .next t ∧ (∀ k, t.term k = (s.term k).map fun x => { x with
        inUse := if x.inUse < x.meas then x.inUse + 1 else if x.meas < x.inUse then x.inUse - 1 else x.inUse }) ∧
      t.opt.site = s.opt.site ∧ t.opt.armed = s.opt.armed ∧ Only [.opt] s t := by
  have hrun : exec .delaySlew s = .next { s with opt := { s.opt with
      terms := s.opt.terms.map fun e => (e.1, e.2.map Term.slew), ctrl := s.opt.ctrl.tick s.now, power := s.opt.power.tick s.now } } :=
    if_neg (not_not.2 hnow)
  refine ⟨_, hrun, fun k => ?_, rfl, rfl, ⟨fun g hg => ?_⟩⟩
  · exact Map.get_map none (f := Option.map Term.slew) rfl s.opt.terms k
  · cases g with
    | opt => exact absurd (by decide) hg
    | _ => rfl

/-- A lane with the shift of its delay in its deviation (R204). -/
def Lane.shifted (l : Lane) (d : Nat) : Lane :=
  { l with delta := l.delta + tdiv (((d : Int) - l.dlane) * 262144) 1000, dlane := d }

theorem Lane.remeasure_kept {l : Lane} {d : Nat} (h : l.st = .paused ∨ ((l.shifted d).delta.natAbs ≤ 8 * l.slot ∧ l.slipped = false)) :
    l.remeasure d = l.shifted d := by
  have hkept : (l.shifted d).st = .paused ∨ ((l.shifted d).near && !(l.shifted d).slipped) = true := by
    rcases h with hpaused | ⟨hnear, hslipped⟩
    · exact .inl hpaused
    · refine .inr ?_
      rw [Bool.and_eq_true]
      exact ⟨decide_eq_true hnear, by rw [show (l.shifted d).slipped = l.slipped from rfl, hslipped]; rfl⟩
  exact if_pos hkept

theorem Lane.remeasure_skewed {l : Lane} {d : Nat} (hst : l.st ≠ .paused) (h : 8 * l.slot < (l.shifted d).delta.natAbs ∨ l.slipped = true) :
    l.remeasure d = { l.shifted d with st := .skewed, quiet := if l.st = .skewed then l.quiet else 0 } := by
  have hskewed : ¬ ((l.shifted d).st = .paused ∨ ((l.shifted d).near && !(l.shifted d).slipped) = true) := by
    rintro (hpaused | hkept)
    · exact hst hpaused
    · rw [Bool.and_eq_true] at hkept
      obtain ⟨hnear, hslip⟩ := hkept
      rcases h with hfar | hslipped
      · exact absurd (of_decide_eq_true hnear) (not_le.2 hfar)
      · rw [show (l.shifted d).slipped = l.slipped from rfl, hslipped] at hslip
        exact absurd hslip (by decide)
  exact if_neg hskewed

/-- What is due of a site's lanes once the lanes up have been remeasured. -/
def State.lanesDone (s : State) (site : Nat) (all : Bool) : State :=
  if all then s.modSite site fun x => { x with laneDue := none } else s

theorem State.lanesDone_xg (s : State) (site : Nat) (all : Bool) : (s.lanesDone site all).xg = s.xg := by
  cases all <;> rfl

theorem laneRemeasure_spec (site : Site) (r : RegionNo) (k d : Nat) (s : State) (hreg : Regular s) (hr : siteOf r = site.val) (hk : k < 4)
    (hdue : (s.site site).laneDue.isSome = true) (hup : (s.laneAt r k).st.up = true) :
    ∃ t, exec (.laneRemeasure site [(r, k, d)]) s = .next t ∧ t.laneAt r k = (s.laneAt r k).remeasure d ∧
      ((∀ e ∈ s.lanesUp site, e = (r, k)) → (t.site site).laneDue = none) ∧
      ((∃ e ∈ s.lanesUp site, e ≠ (r, k)) → t.opt = s.opt) ∧
      (∀ r' k', 4 * r' + k' ≠ 4 * r + k → t.laneAt r' k' = s.laneAt r' k') ∧ Only [.opt, .xg] s t := by
  have hrun : exec (.laneRemeasure site [(r, k, d)]) s = .next ((s.lanesDone site ((s.lanesUp site).all fun e =>
      [(r, k, d)].any fun d => decide (d.1 = e.1 ∧ d.2.1 = e.2))).modLane r k fun l => l.remeasure d) := by
    have hexec : exec (.laneRemeasure site [(r, k, d)]) s = execLaneRemeasure site [(r, k, d)] s := rfl
    have hlane (all : Bool) : (s.lanesDone site all).laneAt r k = s.laneAt r k := by rw [State.laneAt, State.lanesDone_xg, ← State.laneAt]
    rw [hexec]
    unfold execLaneRemeasure
    rw [if_neg (by rw [Option.isNone_eq_false_iff.2 hdue]; decide)]
    exact congrArg Host.Outcome.next (if_pos ⟨hr, hk, (congrArg (fun l : Lane => l.st.up) (hlane _)).trans hup⟩)
  have hall : ((s.lanesUp site).all fun e => [(r, k, d)].any fun d => decide (d.1 = e.1 ∧ d.2.1 = e.2)) = true ↔
      ∀ e ∈ s.lanesUp site, e = (r, k) := by
    have hany (e : RegionNo × Nat) : ([(r, k, d)].any fun d => decide (d.1 = e.1 ∧ d.2.1 = e.2)) = true ↔ e = (r, k) := by
      simp only [List.any_cons, List.any_nil, Bool.or_false, decide_eq_true_eq, Prod.ext_iff]
      exact ⟨fun ⟨hr, hk⟩ => ⟨hr.symm, hk.symm⟩, fun ⟨hr, hk⟩ => ⟨hr.symm, hk.symm⟩⟩
    simp only [List.all_eq_true, hany]
  generalize ((s.lanesUp site).all fun e => [(r, k, d)].any fun d => decide (d.1 = e.1 ∧ d.2.1 = e.2)) = all at *
  have hlanes (r' : RegionNo) (k' : Nat) : (s.lanesDone site all).laneAt r' k' = s.laneAt r' k' := by
    rw [State.laneAt, State.lanesDone_xg, ← State.laneAt]
  have hwf : Map.wf ({} : Lane) (s.lanesDone site all).xg.lane = true := by
    rw [State.lanesDone_xg]
    exact hreg.lanes
  refine ⟨_, hrun, ?_, fun hone => ?_, fun ⟨e, he, hne⟩ => ?_, fun r' k' hne => ?_, exec_only hrun⟩
  · refine (Map.get_put_self {} (laneKey r k) _ (Map.wf_rising hwf)).trans ?_
    rw [hlanes]
  · rw [hall.2 hone]
    exact congrArg SiteOpt.laneDue (s.site_modSite (fun x => { x with laneDue := none }) site.isLt)
  · have hsome : all = false := Bool.eq_false_iff.2 fun h => hne (hall.1 h e he)
    rw [hsome]
    rfl
  · have hother : ((s.lanesDone site all).modLane r k fun l => l.remeasure d).laneAt r' k' = (s.lanesDone site all).laneAt r' k' :=
      State.laneAt_modLane_ne _ _ hne
    exact hother.trans (hlanes r' k')

end Sys2Proof.Machine
end


section
/-! SUPPORT. ROUTE_QUERY, OPTIC_RECAL and SPARE_INSERT (R166, R328, R329). -/
namespace Sys2Proof.Machine
open Sys2Proof.Safety

theorem routeQuery_spec (q : Req) (s : State) (hready : ready s 0x0501 q = true) (htgt : q.tgt ≤ 22) :
    exec (.routeQuery q) s = .next ((posted s 0x0501 q).answer q.mbx
      (okReply (toLE 4 (s.siteStateWord q.tgt) ++ toLE 4 (s.siteRouteWord q.tgt) ++ toLE 4 s.optWave))) := by
  have hcmd : cmdRouteQuery q (posted s 0x0501 q) = .done (okReply (toLE 4 (s.siteStateWord q.tgt) ++ toLE 4 (s.siteRouteWord q.tgt) ++
      toLE 4 s.optWave)) (posted s 0x0501 q) := by
    have hvalid : siteTarget q = none := if_pos htgt
    rw [cmdRouteQuery, hvalid]
    rfl
  exact congrArg Host.Outcome.next (State.submit_done (by decide) hready hcmd)

theorem opticRecal_spec (q : Req) (site : Site) (kind : Fin 5) (s : State) (hready : ready s 0x0503 q = true) (htgt : q.tgt = site.val)
    (hkind : q.u8 0 = kind.val) (hindex : q.u8 1 ≤ (if kind = 0 then 5 else 6)) (hquad : q.u8 2 ≤ 3)
    (hserved : (s.site site).served = true) (hins : s.opt.ins = []) :
    exec (.opticRecal q) s = .next ((posted s 0x0503 q).modBox q.mbx fun b => { b with
      wait := some (.opticRecal ⟨site, kind, q.u8 1, Fin.ofNat 4 (q.u8 2), Fin.ofNat 4 (if kind = 0 then s.opt.tone else 0)⟩) }) := by
  have hlt : q.tgt < 23 := htgt ▸ site.isLt
  have hzero : q.u8 0 = 0 ↔ kind = 0 := by rw [hkind]; exact Fin.val_eq_zero_iff
  have hindex' : ¬ (6 < q.u8 1 ∨ (q.u8 0 = 0 ∧ q.u8 1 = 6)) := by
    rw [hzero]
    split at hindex
    · omega
    next h => rintro (h6 | ⟨h0, -⟩) <;> [omega; exact h h0]
  have hsite : (⟨q.tgt, hlt⟩ : Site) = site := Fin.ext htgt
  have hcmd : cmdOpticRecal q (posted s 0x0503 q) = .wait (.opticRecal ⟨site, kind, q.u8 1, Fin.ofNat 4 (q.u8 2),
      Fin.ofNat 4 (if kind = 0 then s.opt.tone else 0)⟩) (posted s 0x0503 q) := by
    have hserved' : ((posted s 0x0503 q).site q.tgt).served = true := by rw [htgt]; exact hserved
    have hins' : (posted s 0x0503 q).opt.ins = [] := hins
    have hkind' : Fin.ofNat 5 (q.u8 0) = kind := by
      rw [hkind]
      exact Fin.ext (Nat.mod_eq_of_lt kind.isLt)
    have htone : (posted s 0x0503 q).opt.tone = s.opt.tone := rfl
    unfold cmdOpticRecal
    dsimp only
    rw [dif_pos hlt, if_neg (by rw [hkind]; omega), if_neg hindex', if_neg (by omega), if_neg (by rw [hserved']; decide),
      if_neg (by rw [hins', List.any_nil]; decide), hsite, hkind', htone]
    simp only [hzero]
  exact congrArg Host.Outcome.next (State.submit_wait (by decide) hready hcmd)

/-- The operation of an insertion that a SPARE_INSERT commands. -/
def State.insertOp (s : State) (q : Req) (x : Insertion) : LongOp :=
  { newOp .spareInsert .running s.now with
    target := x.target, scope := x.kind, part := x.part, step := 1, force := q.force, expert := q.level, spare := q.u8 2
    starter := some q.mbx, start := s.now, timer := s.now, async := bitOf (q.flags.setWidth 32) 3 }

/-- The insertion has its handle and joins the queue. -/
def State.insStarted (s : State) (q : Req) (x : Insertion) (i : Nat) : State :=
  { s.modHandle i fun h => { h with op := some (s.insertOp q x) } with
    opt := { s.opt with ins := s.opt.ins ++ [{ x with handle := some i, asked := true, at_ := s.now, since := s.now }] } }

theorem State.startIns_of_free {s : State} {q : Req} {i : Nat} (x : Insertion) (h : s.freeHandle (decide (q.mbx = 7)) = some i) :
    s.startIns q x = .done { status := 0x01, handle := some (s.handleNo i) } (s.insStarted q x i) := by
  unfold State.startIns
  exact State.startOp_of_free _ _ h

theorem spareInsert_carrier (q : Req) (i : Nat) (s : State) (hready : ready s 0x0502 q = true) (hkind : q.u8 0 = 2) (htgt : q.tgt = 0)
    (hrole : q.u8 1 = s.opt.tone ∨ q.u8 1 = s.opt.slot) (hspare : q.u8 2 = 0) (hfailed : q.u8 1 ∈ s.opt.failed)
    (hins : ∀ y ∈ s.opt.ins, y.kind ≠ 2) (hfree : s.freeHandle (decide (q.mbx = 7)) = some i) :
    ∃ t, exec (.spareInsert q) s = .next (t.answer q.mbx { status := 0x01, handle := some (s.handleNo i) }) ∧
      t.opt.ins = s.opt.ins ++ [{ insertion 2 0 (q.u8 1) 0 none false q.force 1 with handle := some i, asked := true, at_ := s.now, since := s.now }] ∧
      (∃ o, t.handle i = { gen := (s.handle i).gen, op := some o } ∧ o.kind = .spareInsert ∧ o.st = .running ∧
        o.starter = some q.mbx ∧ o.start = s.now) ∧
      (∀ j, j ≠ i → t.handle j = s.handle j) ∧ Only [.mbx, .opt] s t := by
  have hnone : Req.spare q = none := if_pos hspare
  have hsame : (posted s 0x0502 q).opt.ins.any (insertion 2 0 (q.u8 1) 0 none false q.force 1).same = false :=
    List.any_eq_false.2 fun y hy => by
      have hother : ¬ (2 = y.kind) := fun h => hins y hy h.symm
      simp [Insertion.same, insertion, hother]
  have hhealthy : (!(posted s 0x0502 q).opt.failed.contains (q.u8 1)) = false := by
    rw [List.contains_iff_mem.2 (by exact hfailed)]
    rfl
  have hfree' : (posted s 0x0502 q).freeHandle (decide (q.mbx = 7)) = some i := hfree
  have hcmd : cmdSpareInsert q (posted s 0x0502 q) = .done { status := 0x01, handle := some (s.handleNo i) }
      ((posted s 0x0502 q).insStarted q (insertion 2 0 (q.u8 1) 0 none false q.force 1) i) := by
    have hroute : cmdSpareInsert q (posted s 0x0502 q) = (posted s 0x0502 q).insCarrier q := by
      simp only [cmdSpareInsert, hkind]
    rw [hroute]
    unfold State.insCarrier
    dsimp only
    rw [if_neg (not_not.2 htgt), if_neg (by exact fun h => hrole.elim h.1 h.2), hnone, if_neg (by rw [Option.all_none]; decide), hhealthy]
    unfold State.tryIns
    rw [hsame]
    exact State.startIns_of_free _ hfree'
  have hlt : i < 32 := State.freeHandle_lt hfree
  have hrun : exec (.spareInsert q) s = .next (((posted s 0x0502 q).insStarted q (insertion 2 0 (q.u8 1) 0 none false q.force 1) i).answer q.mbx
      { status := 0x01, handle := some (s.handleNo i) }) := congrArg Host.Outcome.next (State.submit_done (by decide) hready hcmd)
  refine ⟨_, hrun, rfl, ⟨_, State.handle_modHandle _ _ hlt, rfl, rfl, rfl, rfl⟩, fun j hj => State.handle_modHandle_ne _ _ hj, ?_⟩
  exact Only.trans ((posted_only s 0x0502 q).mono (by decide)) ⟨fun g hg => by
    cases g with
    | mbx => exact absurd (by decide) hg
    | opt => exact absurd (by decide) hg
    | _ => rfl⟩

/-- Settles O46: a landing that is due is armed alone; a measurement near the value in use is taken, another withheld and measured again; the values in
use slew toward what was measured; lanes take the shift of their delays; and the route commands answer, wait or join the queue. -/
theorem measurementsAndRouteCommands : Obligations.MeasurementsAndRouteCommands := by
  refine ⟨fun site l s hon harmed hserved hfail hdue => ?insvcRecal, fun m delay l x s hreg hserved hdelay harmed hl hwait hterm => ?measured,
    fun s hnow => delaySlew_spec s hnow, fun site r k d s hreg hr hk hdue hup => ?remeasure, fun site ds s hdue => ?notDue,
    fun q s hready htgt => routeQuery_spec q s hready htgt,
    fun q site kind s hready htgt hkind hindex hquad hserved hins => opticRecal_spec q site kind s hready htgt hkind hindex hquad hserved hins,
    fun m delay x b s hserved hdelay hterm hnear hwait hone => insvcMeasurementDone_asked m delay x b s hserved hdelay hterm hnear hwait hone,
    fun q i s hready hkind htgt hrole hspare hfailed hins hfree =>
      spareInsert_carrier q i s hready hkind htgt hrole hspare hfailed hins hfree⟩
  case insvcRecal =>
    have hopen : (!(s.site site).lfail.contains l.val) = true := by simpa using hfail
    exact if_pos (c := bitOf s.opt.ctrl.eff 0 = true ∧ s.opt.armed = none ∧ _ ∧ _ ∧ _) ⟨hon, harmed, hserved, hopen, hdue⟩
  case measured =>
    obtain ⟨t, hrun, hterm', hmore, hlast⟩ := insvcMeasurementDone_spec m delay l x s hreg hserved hdelay harmed hl hwait hterm
    exact ⟨t, hrun, hterm'.near, hterm'.withheld, hterm'.again, hmore, hlast, hterm'.other⟩
  case remeasure =>
    obtain ⟨t, hrun, hlane, hdone, hleft, hother, honly⟩ := laneRemeasure_spec site r k d s hreg hr hk hdue hup
    exact ⟨t, hrun, fun h => hlane.trans (Lane.remeasure_kept h), fun hst h => hlane.trans (Lane.remeasure_skewed hst h), hdone, hleft, hother,
      honly⟩
  case notDue => exact if_pos (by rw [hdue]; rfl)

end Sys2Proof.Machine
end


section
/-! SUPPORT. Span ports and the choice of their source (R393). -/
namespace Sys2Proof.Machine
open Sys2Proof.Safety

/-- The states of a peer that hears, is eligible or disciplines. -/
def SpanPort.heard (p : SpanPort) : Prop := p.st = 2 ∨ p.st = 3 ∨ p.st = 4

/-- What the choice of a source changes on a port: the state of a peer that is heard, and the point that its rate is taken from. -/
structure SpanPort.Chosen (p q : SpanPort) : Prop where
  fields : q = { p with st := q.st, rateRef := q.rateRef }
  still : ¬ p.heard → q.st = p.st

theorem SpanPort.Chosen.field {α : Type} {p q : SpanPort} (h : SpanPort.Chosen p q) (f : SpanPort → α)
    (hf : ∀ p st rr, f { p with st := st, rateRef := rr } = f p) : f q = f p := by
  rw [h.fields]
  exact hf _ _ _

theorem SpanPort.Chosen.state {p q : SpanPort} (h : SpanPort.Chosen p q) {n : Nat} (hst : p.st = n) (hn : ¬ (n = 2 ∨ n = 3 ∨ n = 4)) :
    q.st = n := (h.still (by rw [SpanPort.heard, hst]; exact hn)).trans hst

/-- A peer that is not heard, on a port with lock or without (R387). -/
theorem unheard_of_lock (lock : Bool) : ¬ ((if lock then 1 else 7) = 2 ∨ (if lock then 1 else 7) = 3 ∨ (if lock then 1 else 7) = 4) := by
  cases lock <;> decide

theorem State.peerState_of_not_heard (s : State) {p : SpanPort} (mine : Bool) (h : ¬ p.heard) : s.peerState p mine = p.st := if_neg h

theorem State.spPort_reselect (s : State) (one : Bool) : SpanPort.Chosen (s.spPort one) (s.reselect.spPort one) := by
  cases one
  · exact ⟨rfl, fun h => State.peerState_of_not_heard _ _ h⟩
  · exact ⟨rfl, fun h => State.peerState_of_not_heard _ _ h⟩

theorem State.reselect_quar (s : State) : s.reselect.sp.quar = s.sp.quar := rfl

theorem State.quarantined_congr {s t : State} (h : t.sp.quar = s.sp.quar) (id : BitVec 64) : t.quarantined id = s.quarantined id := by
  rw [State.quarantined, h, ← State.quarantined]

theorem State.reselect_keeps (s : State) : Keeps [.et, .sp] s s.reselect := Keeps.reselect_keeps (List.Subset.refl _) (Keeps.refl s)

theorem State.modSp_only (s : State) (one : Bool) (f : SpanPort → SpanPort) : Only [.sp] s (s.modSp one f) :=
  (Keeps.modSp_keeps (List.Subset.refl _) (Keeps.refl s) one f).only

theorem State.modSp_quar (s : State) (one : Bool) (f : SpanPort → SpanPort) : (s.modSp one f).sp.quar = s.sp.quar := by
  cases one <;> rfl

theorem State.spPort_congr {s t : State} (h : t.sp = s.sp) (one : Bool) : t.spPort one = s.spPort one := by
  rw [State.spPort, h, ← State.spPort]

/-- A port changed, and the source chosen anew: the port itself, and the other one. -/
theorem State.spPort_modSp_reselect (s : State) (one : Bool) (f : SpanPort → SpanPort) :
    SpanPort.Chosen (f (s.spPort one)) ((s.modSp one f).reselect.spPort one) ∧
      SpanPort.Chosen (s.spPort (!one)) ((s.modSp one f).reselect.spPort (!one)) := by
  have hself := (s.modSp one f).spPort_reselect one
  have hother := (s.modSp one f).spPort_reselect (!one)
  rw [s.spPort_modSp one f] at hself
  rw [s.spPort_modSp_not one f] at hother
  exact ⟨hself, hother⟩

end Sys2Proof.Machine
end


section
/-! SUPPORT. The host's path to rack time, span peers, keys and lock (R112, R336, R387, R390, R395, R397, R215). -/
namespace Sys2Proof.Machine
open Sys2Proof.Safety

/-! ### The host's path -/

/-- The rack offset of a post, and the instant that it is for. -/
def rackOffset (q : Req) : Int := stampSRead q.payload 0
def rackInstant (q : Req) : Nat := q.le 16 8 * 65536 + q.le 24 2

/-- A first post is noted, and the source chosen anew (R397). -/
def State.noteHost (s : State) (x : Int) (a : Nat) : State :=
  ({ s with et := { s.et with host := true, hostLast := some (x, a, s.now) } } : State).reselect

theorem cmdHostOffsetPost_first {q : Req} {s : State} (hsrc : s.discSrc = 2) (hbound : q.le 32 4 ≤ fld s.sp.host.eff 15 0)
    (hpast : rackInstant q ≤ s.now * 65536) (hrecent : s.now * 65536 ≤ rackInstant q + 1000000000 * 65536) (hfirst : s.et.hostLast = none) :
    cmdHostOffsetPost q s = .done (okReply (toLE 1 (b2n (s.applyRack (rackOffset q)).2)))
      ((s.applyRack (rackOffset q)).1.noteHost (rackOffset q) (rackInstant q)) := by
  have hgo : ¬ (s.discSrc ≠ 2 ∨ fld s.sp.host.eff 15 0 < q.le 32 4 ∨ s.now * 65536 < rackInstant q ∨
      rackInstant q + secondNs * 65536 < s.now * 65536 ∨ (s.et.hostLast.isSome &&
        decide (fld s.sp.bounds.eff 31 16 * 65536 < (rackOffset q - s.et.rack).natAbs)) = true) := by
    rintro (h | h | h | h | h)
    · exact h hsrc
    · exact absurd hbound (not_le.2 h)
    · exact absurd hpast (not_le.2 h)
    · exact absurd hrecent (not_le.2 h)
    · rw [hfirst] at h
      exact absurd h (by simp)
  have hcmd : cmdHostOffsetPost q s = if (s.discSrc ≠ 2 ∨ fld s.sp.host.eff 15 0 < q.le 32 4 ∨ s.now * 65536 < rackInstant q ∨
      rackInstant q + secondNs * 65536 < s.now * 65536 ∨ (s.et.hostLast.isSome &&
        decide (fld s.sp.bounds.eff 31 16 * 65536 < (rackOffset q - s.et.rack).natAbs)) = true) then _ else _ := rfl
  rw [hcmd, if_neg hgo, hfirst]
  rfl

theorem State.noteHost_et (s : State) (x : Int) (a : Nat) :
    (s.noteHost x a).et = { s.et with host := true, hostLast := some (x, a, s.now), idleFrom := none } := by
  have hbusy (e0 e1 : Bool) (t : Option Nat) : (if (e0 || e1 || true) = true then none else t) = none := if_pos (Bool.or_true _)
  unfold State.noteHost
  rw [State.reselect_et]
  refine congrArg (fun t => ({ s.et with host := true, hostLast := some (x, a, s.now), idleFrom := t } : Et)) ?_
  exact hbusy _ _ _

theorem State.noteHost_keeps (s : State) (x : Int) (a : Nat) : Keeps [.et, .sp] s (s.noteHost x a) := by
  have hset : Keeps [.et, .sp] s { s with et := { s.et with host := true, hostLast := some (x, a, s.now) } } := ⟨⟨fun g hg => by
    cases g with
    | et => exact absurd (by decide) hg
    | _ => rfl⟩, Regular.keep rfl⟩
  exact hset.trans (State.reselect_keeps _)

theorem hostOffsetPost_adopted (q : Req) (s : State) (hready : ready s 0x0B05 q = true) (hsrc : s.discSrc = 2)
    (hbound : q.le 32 4 ≤ fld s.sp.host.eff 15 0) (hpast : rackInstant q ≤ s.now * 65536)
    (hrecent : s.now * 65536 ≤ rackInstant q + 1000000000 * 65536) (hfirst : s.et.hostLast = none) (hdue : s.et.adoptNext = true)
    (hrun : s.et.holdover = false) :
    ∃ t, exec (.hostOffsetPost q) s = .next (t.answer q.mbx (okReply [1])) ∧
      t.et = { s.et with rack := rackOffset q, rackTo := none, adopted := true, adoptNext := false, host := true,
                         hostLast := some (rackOffset q, rackInstant q, s.now), idleFrom := none } ∧
      t.ev = (s.raise evRackStep 0).ev ∧ Only [.mbx, .et, .sp, .ev] s t := by
  have hcmd := cmdHostOffsetPost_first (s := posted s 0x0B05 q) hsrc hbound hpast hrecent hfirst
  have hrack : (posted s 0x0B05 q).applyRack (rackOffset q) = (({ posted s 0x0B05 q with
      et := { s.et with rack := rackOffset q, rackTo := none, adopted := true, adoptNext := false } } : State).raise evRackStep 0, true) :=
    if_pos ⟨hdue, by rw [show (posted s 0x0B05 q).et.holdover = false from hrun]; rfl⟩
  rw [hrack] at hcmd
  dsimp only at hcmd
  have hset : Only [.mbx, .et] s { posted s 0x0B05 q with
      et := { s.et with rack := rackOffset q, rackTo := none, adopted := true, adoptNext := false } } :=
    Only.trans ((posted_only s 0x0B05 q).mono (by decide)) ⟨fun g hg => by
      cases g with
      | et => exact absurd (by decide) hg
      | _ => rfl⟩
  have hset_et : ({ posted s 0x0B05 q with
      et := { s.et with rack := rackOffset q, rackTo := none, adopted := true, adoptNext := false } } : State).et =
        { s.et with rack := rackOffset q, rackTo := none, adopted := true, adoptNext := false } := rfl
  have hset_ev := State.raise_ev_congr (s := s) (t := { posted s 0x0B05 q with
      et := { s.et with rack := rackOffset q, rackTo := none, adopted := true, adoptNext := false } }) evRackStep 0 rfl rfl rfl
  generalize ({ posted s 0x0B05 q with
      et := { s.et with rack := rackOffset q, rackTo := none, adopted := true, adoptNext := false } } : State) = u at *
  have hraise := Keeps.raise_keeps (List.Subset.refl _) (Keeps.refl u) evRackStep 0
  have hnow : (u.raise evRackStep 0).now = s.now :=
    congrArg Sys.erg ((hraise.only.same .sys (by decide)).trans (hset.same .sys (by decide)))
  have hnote := (u.raise evRackStep 0).noteHost_keeps (rackOffset q) (rackInstant q)
  refine ⟨_, congrArg Host.Outcome.next (State.submit_done (by decide) hready hcmd), ?_, ?_, ?_⟩
  · rw [State.noteHost_et, hnow, (hraise.only.same .et (by decide) : (u.raise evRackStep 0).et = u.et), hset_et]
  · exact (hnote.only.same .ev (by decide)).trans hset_ev
  · exact Only.trans (Only.trans (hset.mono (by decide)) (hraise.only.mono (by decide))) (hnote.only.mono (by decide))

theorem hostOffsetPost_slewed (q : Req) (s : State) (hready : ready s 0x0B05 q = true) (hsrc : s.discSrc = 2)
    (hbound : q.le 32 4 ≤ fld s.sp.host.eff 15 0) (hpast : rackInstant q ≤ s.now * 65536)
    (hrecent : s.now * 65536 ≤ rackInstant q + 1000000000 * 65536) (hfirst : s.et.hostLast = none)
    (hslew : s.et.adoptNext = false ∨ s.et.holdover = true) :
    ∃ t, exec (.hostOffsetPost q) s = .next (t.answer q.mbx (okReply [0])) ∧
      t.et = { s.et with rackTo := some (rackOffset q), host := true, hostLast := some (rackOffset q, rackInstant q, s.now), idleFrom := none } ∧
      Only [.mbx, .et, .sp] s t := by
  have hcmd := cmdHostOffsetPost_first (s := posted s 0x0B05 q) hsrc hbound hpast hrecent hfirst
  have hrack : (posted s 0x0B05 q).applyRack (rackOffset q) =
      ({ posted s 0x0B05 q with et := { s.et with rackTo := some (rackOffset q) } }, false) :=
    if_neg fun ⟨hdue, hrun⟩ => hslew.elim (fun h => absurd (hdue.symm.trans h) (by decide))
      (fun h => by rw [show (posted s 0x0B05 q).et.holdover = true from h] at hrun; exact absurd hrun (by decide))
  rw [hrack] at hcmd
  have hset : Only [.mbx, .et] s { posted s 0x0B05 q with et := { s.et with rackTo := some (rackOffset q) } } :=
    Only.trans ((posted_only s 0x0B05 q).mono (by decide)) ⟨fun g hg => by
      cases g with
      | et => exact absurd (by decide) hg
      | _ => rfl⟩
  refine ⟨_, congrArg Host.Outcome.next (State.submit_done (by decide) hready hcmd), (State.noteHost_et _ _ _).trans rfl, ?_⟩
  exact Only.trans (hset.mono (by decide)) ((State.noteHost_keeps _ _ _).only.mono (by decide))

theorem hostOffsetPost_refused (q : Req) (s : State) (hready : ready s 0x0B05 q = true)
    (h : s.discSrc ≠ 2 ∨ fld s.sp.host.eff 15 0 < q.le 32 4) :
    exec (.hostOffsetPost q) s = .next ((posted s 0x0B05 q).answer q.mbx { status := 0x50 }) := by
  have hcmd : cmdHostOffsetPost q (posted s 0x0B05 q) = .done { status := 0x50 } (posted s 0x0B05 q) :=
    if_pos (c := (posted s 0x0B05 q).discSrc ≠ 2 ∨ _ ∨ _) (h.elim .inl fun h => .inr (.inl h))
  exact congrArg Host.Outcome.next (State.submit_done (by decide) hready hcmd)

theorem hostOutOfUse_spec (x : Int) (u a : Nat) (s : State) (hlast : s.et.hostLast = some (x, u, a)) (hhost : s.et.host = true)
    (hlate : a + 10000000000 ≤ s.now) :
    ∃ t, exec .hostOutOfUse s = .next t ∧ t.et.host = false ∧ t.et.hostLast = s.et.hostLast ∧ t.et.rack = s.et.rack ∧
      t.et.rackTo = s.et.rackTo ∧ Only [.et, .sp] s t := by
  have hrun : exec .hostOutOfUse s = .next ({ s with et := { s.et with host := false } } : State).reselect := by
    have hexec : exec .hostOutOfUse s = execHostOutOfUse s := rfl
    rw [hexec, execHostOutOfUse, hlast]
    exact if_pos ⟨hhost, hlate⟩
  exact ⟨_, hrun, rfl, rfl, rfl, rfl, exec_only hrun⟩

end Sys2Proof.Machine
end


section
/-! SUPPORT. Span peers, keys, lock and quarantine (R336, R387, R390, R395, R215). -/
namespace Sys2Proof.Machine
open Sys2Proof.Safety

/-! ### Peers -/

theorem cmdSpanPeerAdd_eq {q : Req} {s : State} (hport : q.u8 0 ≤ 1) (huse : q.u8 1 ≤ 1) : cmdSpanPeerAdd q s =
    if (s.spPort (decide (q.u8 0 = 1))).peer.isSome then refuse (codeReply stFull) s
    else if s.quarantined (BitVec.ofNat 64 (q.le 8 8)) then refuse (codeReply stQuarantined) s
    else
      let t := (s.modSp (decide (q.u8 0 = 1)) fun p => { p.cleared with
        peer := some (BitVec.ofNat 64 (q.le 8 8), decide (q.u8 1 = 1)), st := if p.lock then 1 else 7 }).reselect
      .done (okReply (t.spPort (decide (q.u8 0 = 1))).record) t := by
  unfold cmdSpanPeerAdd
  rw [if_neg (not_lt.2 hport), if_neg (not_lt.2 huse)]

theorem modSp_reselect_only (s : State) (one : Bool) (f : SpanPort → SpanPort) : Only [.et, .sp] s (s.modSp one f).reselect :=
  Only.trans ((s.modSp_only one f).mono (by decide)) (State.reselect_keeps _).only

theorem spanPeerAdd_spec (q : Req) (s : State) (hready : ready s 0x0B02 q = true) (hport : q.u8 0 ≤ 1) (huse : q.u8 1 ≤ 1)
    (hpeer : (s.spPort (decide (q.u8 0 = 1))).peer = none) (hfree : s.quarantined (BitVec.ofNat 64 (q.le 8 8)) = false) :
    let one := decide (q.u8 0 = 1)
    ∃ t, exec (.spanPeerAdd q) s = .next (t.answer q.mbx (okReply (t.spPort one).record)) ∧
      (t.spPort one).peer = some (BitVec.ofNat 64 (q.le 8 8), decide (q.u8 1 = 1)) ∧ (t.spPort one).st = (if (s.spPort one).lock then 1 else 7) ∧
      (t.spPort one).meas = [] ∧ (t.spPort one).count = 0 ∧ (t.spPort one).bootId = none ∧ (t.spPort one).key = (s.spPort one).key ∧
      (t.spPort one).lock = (s.spPort one).lock ∧ (t.spPort (!one)).peer = (s.spPort (!one)).peer ∧ Only [.mbx, .et, .sp] s t := by
  intro one
  have hcmd := cmdSpanPeerAdd_eq (s := posted s 0x0B02 q) hport huse
  have hnone : ¬ ((posted s 0x0B02 q).spPort (decide (q.u8 0 = 1))).peer.isSome = true := by
    rw [show (posted s 0x0B02 q).spPort (decide (q.u8 0 = 1)) = s.spPort (decide (q.u8 0 = 1)) from rfl, hpeer]
    decide
  have hclear : ¬ (posted s 0x0B02 q).quarantined (BitVec.ofNat 64 (q.le 8 8)) = true := by
    rw [show (posted s 0x0B02 q).quarantined (BitVec.ofNat 64 (q.le 8 8)) = s.quarantined (BitVec.ofNat 64 (q.le 8 8)) from rfl, hfree]
    decide
  rw [if_neg hnone, if_neg hclear] at hcmd
  have hports := (posted s 0x0B02 q).spPort_modSp_reselect one fun p => { p.cleared with
    peer := some (BitVec.ofNat 64 (q.le 8 8), decide (q.u8 1 = 1)), st := if p.lock then 1 else 7 }
  have honly := modSp_reselect_only (posted s 0x0B02 q) one fun p => { p.cleared with
    peer := some (BitVec.ofNat 64 (q.le 8 8), decide (q.u8 1 = 1)), st := if p.lock then 1 else 7 }
  rw [show (posted s 0x0B02 q).spPort one = s.spPort one from rfl, show (posted s 0x0B02 q).spPort (!one) = s.spPort (!one) from rfl] at hports
  dsimp only at hcmd
  change cmdSpanPeerAdd q (posted s 0x0B02 q) = .done (okReply (State.spPort _ one).record) _ at hcmd
  generalize ((posted s 0x0B02 q).modSp one fun p => { p.cleared with
    peer := some (BitVec.ofNat 64 (q.le 8 8), decide (q.u8 1 = 1)), st := if p.lock then 1 else 7 }).reselect = t at *
  obtain ⟨hself, hother⟩ := hports
  exact ⟨t, congrArg Host.Outcome.next (State.submit_done (by decide) hready hcmd), hself.field SpanPort.peer fun _ _ _ => rfl,
    hself.state rfl (unheard_of_lock _),
    hself.field SpanPort.meas fun _ _ _ => rfl, hself.field SpanPort.count fun _ _ _ => rfl, hself.field SpanPort.bootId fun _ _ _ => rfl,
    hself.field SpanPort.key fun _ _ _ => rfl, hself.field SpanPort.lock fun _ _ _ => rfl, hother.field SpanPort.peer fun _ _ _ => rfl,
    Only.trans ((posted_only s 0x0B02 q).mono (by decide)) (honly.mono (by decide))⟩

theorem spanPeerAdd_full (q : Req) (s : State) (hready : ready s 0x0B02 q = true) (hport : q.u8 0 ≤ 1) (huse : q.u8 1 ≤ 1)
    (hpeer : (s.spPort (decide (q.u8 0 = 1))).peer.isSome = true) :
    exec (.spanPeerAdd q) s = .next ((posted s 0x0B02 q).answer q.mbx { status := 0x11 }) := by
  have hcmd : cmdSpanPeerAdd q (posted s 0x0B02 q) = .done { status := 0x11 } (posted s 0x0B02 q) :=
    (cmdSpanPeerAdd_eq hport huse).trans (if_pos hpeer)
  exact congrArg Host.Outcome.next (State.submit_done (by decide) hready hcmd)

theorem spanPeerAdd_quarantined (q : Req) (s : State) (hready : ready s 0x0B02 q = true) (hport : q.u8 0 ≤ 1) (huse : q.u8 1 ≤ 1)
    (hpeer : (s.spPort (decide (q.u8 0 = 1))).peer = none) (hquar : s.quarantined (BitVec.ofNat 64 (q.le 8 8)) = true) :
    exec (.spanPeerAdd q) s = .next ((posted s 0x0B02 q).answer q.mbx { status := 0x51 }) := by
  have hnone : ¬ ((posted s 0x0B02 q).spPort (decide (q.u8 0 = 1))).peer.isSome = true := by
    rw [show (posted s 0x0B02 q).spPort (decide (q.u8 0 = 1)) = s.spPort (decide (q.u8 0 = 1)) from rfl, hpeer]
    decide
  have hcmd : cmdSpanPeerAdd q (posted s 0x0B02 q) = .done { status := 0x51 } (posted s 0x0B02 q) :=
    (cmdSpanPeerAdd_eq hport huse).trans ((if_neg hnone).trans (if_pos hquar))
  exact congrArg Host.Outcome.next (State.submit_done (by decide) hready hcmd)

theorem spanPeerRemove_spec (q : Req) (s : State) (hready : ready s 0x0B03 q = true) (hport : q.u8 0 ≤ 1)
    (hpeer : (s.spPort (decide (q.u8 0 = 1))).peer.isSome = true) :
    let one := decide (q.u8 0 = 1)
    ∃ t, exec (.spanPeerRemove q) s = .next (t.answer q.mbx okReply) ∧ (t.spPort one).peer = none ∧ (t.spPort one).st = 0 ∧
      (t.spPort one).key = (s.spPort one).key ∧ (t.spPort one).rank = none ∧ (t.spPort (!one)).peer = (s.spPort (!one)).peer ∧
      Only [.mbx, .et, .sp] s t := by
  intro one
  have hgo : ¬ (1 < q.u8 0 ∨ ((posted s 0x0B03 q).spPort (decide (q.u8 0 = 1))).peer.isNone = true) := by
    rintro (h | h)
    · exact absurd hport (not_le.2 h)
    · have hsome : ((posted s 0x0B03 q).spPort (decide (q.u8 0 = 1))).peer.isSome = true := hpeer
      rw [Option.isNone_eq_false_iff.2 hsome] at h
      exact absurd h (by decide)
  have hcmd : cmdSpanPeerRemove q (posted s 0x0B03 q) = .done okReply ((posted s 0x0B03 q).modSp one SpanPort.cleared).reselect := if_neg hgo
  obtain ⟨hself, hother⟩ := (posted s 0x0B03 q).spPort_modSp_reselect one SpanPort.cleared
  have honly := modSp_reselect_only (posted s 0x0B03 q) one SpanPort.cleared
  generalize ((posted s 0x0B03 q).modSp one SpanPort.cleared).reselect = t at *
  exact ⟨t, congrArg Host.Outcome.next (State.submit_done (by decide) hready hcmd), hself.field SpanPort.peer fun _ _ _ => rfl,
    hself.state rfl (by decide), hself.field SpanPort.key fun _ _ _ => rfl,
    hself.field SpanPort.rank fun _ _ _ => rfl, hother.field SpanPort.peer fun _ _ _ => rfl,
    Only.trans ((posted_only s 0x0B03 q).mono (by decide)) (honly.mono (by decide))⟩

/-! ### Keys -/

/-- Both ports changed alike. -/
theorem State.spPort_modSp_both (s : State) (f : SpanPort → SpanPort) (one : Bool) :
    ((s.modSp false f).modSp true f).spPort one = f (s.spPort one) := by
  cases one <;> rfl

theorem State.modSp_both_only (s : State) (f : SpanPort → SpanPort) : Only [.sp] s ((s.modSp false f).modSp true f) :=
  Only.trans (s.modSp_only false f) (State.modSp_only _ true f)

/-- A port with a key loaded, as current or as next (R390). -/
def SpanPort.keyed (q : Req) (now : Nat) (p : SpanPort) : SpanPort :=
  if q.u8 0 = 0 then
    { p with key := some (slice q.payload 16 16), prev := match p.key with
      | some old => some (old, now + 10000000)
      | none => p.prev }
  else { p with next := some (slice q.payload 16 16) }

theorem spanKeySet_spec (q : Req) (s : State) (hready : ready s 0x0B04 q = true) (hwhich : q.u8 0 ≤ 1) :
    ∃ t, exec (.spanKeySet q) s = .next (t.answer q.mbx okReply) ∧ (∀ one, t.spPort one = SpanPort.keyed q s.now (s.spPort one)) ∧
      Only [.mbx, .sp] s t := by
  have hcmd : cmdSpanKeySet q (posted s 0x0B04 q) = .done okReply
      (((posted s 0x0B04 q).modSp false (SpanPort.keyed q s.now)).modSp true (SpanPort.keyed q s.now)) := if_neg (not_lt.2 hwhich)
  refine ⟨_, congrArg Host.Outcome.next (State.submit_done (by decide) hready hcmd), fun one => State.spPort_modSp_both _ _ one, ?_⟩
  exact Only.trans ((posted_only s 0x0B04 q).mono (by decide)) ((State.modSp_both_only _ _).mono (by decide))

theorem spanQuery_spec (q : Req) (s : State) (hready : ready s 0x0B01 q = true) :
    exec (.spanQuery q) s = .next ((posted s 0x0B01 q).answer q.mbx (okReply (s.sp.p0.record ++ s.sp.p1.record))) := by
  have hcmd : cmdSpanQuery q (posted s 0x0B01 q) = .done (okReply (s.sp.p0.record ++ s.sp.p1.record)) (posted s 0x0B01 q) := rfl
  exact congrArg Host.Outcome.next (State.submit_done (by decide) hready hcmd)

theorem previousKeyExpiry_spec (port : Fin 2) (k : Key) (a : Nat) (s : State) (hprev : (s.spPort (decide (port.val = 1))).prev = some (k, a))
    (ha : a ≤ s.now) :
    ∃ t, exec (.previousKeyExpiry port) s = .next t ∧
      t.spPort (decide (port.val = 1)) = { s.spPort (decide (port.val = 1)) with prev := none } ∧
      t.spPort (!decide (port.val = 1)) = s.spPort (!decide (port.val = 1)) ∧ Only [.sp] s t := by
  have hrun : exec (.previousKeyExpiry port) s = .next (s.modSp (decide (port.val = 1)) fun p => { p with prev := none }) := by
    have hexec : exec (.previousKeyExpiry port) s = execPreviousKeyExpiry port s := rfl
    rw [hexec]
    unfold execPreviousKeyExpiry
    dsimp only
    rw [hprev]
    exact if_pos ha
  exact ⟨_, hrun, s.spPort_modSp _ _, s.spPort_modSp_not _ _, s.modSp_only _ _⟩

/-! ### Symbol lock -/

/-- The state of a port that gains symbol lock (R387). -/
def State.lockState (s : State) (p : SpanPort) : Nat :=
  match p.peer with
  | none => 0
  | some (id, _) =>
    if s.quarantined id then 6
    else match p.annAt with
      | some t => if s.now ≤ t + 3000000 then 2 else 5
      | none => if p.bootId.isSome then 5 else 1

theorem State.lockState_of_none {s : State} {p : SpanPort} (h : p.peer = none) : s.lockState p = 0 := by
  simp only [State.lockState, h]

theorem State.lockState_of_quarantined {s : State} {p : SpanPort} {id : BitVec 64} {m : Bool} (h : p.peer = some (id, m))
    (hquar : s.quarantined id = true) : s.lockState p = 6 := by
  simp only [State.lockState, h, hquar, if_true]

theorem State.lockState_of_silent {s : State} {p : SpanPort} {id : BitVec 64} {m : Bool} (h : p.peer = some (id, m))
    (hquar : s.quarantined id = false) (hann : p.annAt = none) (hboot : p.bootId = none) : s.lockState p = 1 := by
  simp [State.lockState, h, hquar, hann, hboot]

theorem spanSymbolLock_spec (port : Fin 2) (s : State) (hreset : s.sys.pkgReset = false)
    (hlock : (s.spPort (decide (port.val = 1))).lock = false) :
    let p := s.spPort (decide (port.val = 1))
    ∃ t, exec (.spanSymbolLock port) s = .next t ∧ (t.spPort (decide (port.val = 1))).lock = true ∧
      (p.peer = none → (t.spPort (decide (port.val = 1))).st = 0) ∧
      (∀ id m, p.peer = some (id, m) → s.quarantined id = true → (t.spPort (decide (port.val = 1))).st = 6) ∧
      (∀ id m, p.peer = some (id, m) → s.quarantined id = false → p.annAt = none → p.bootId = none →
        (t.spPort (decide (port.val = 1))).st = 1) ∧ Only [.et, .sp] s t := by
  intro p
  have hrun : exec (.spanSymbolLock port) s =
      .next (s.modSp (decide (port.val = 1)) fun q => { q with lock := true, st := s.lockState p }).reselect :=
    if_neg (by simp [hreset, hlock])
  obtain ⟨hself, -⟩ := s.spPort_modSp_reselect (decide (port.val = 1)) fun q => { q with lock := true, st := s.lockState p }
  have honly := modSp_reselect_only s (decide (port.val = 1)) fun q => { q with lock := true, st := s.lockState p }
  generalize (s.modSp (decide (port.val = 1)) fun q => { q with lock := true, st := s.lockState p }).reselect = t at *
  refine ⟨t, hrun, hself.field SpanPort.lock fun _ _ _ => rfl, fun hpeer => hself.state (n := 0) ?_ (by decide), fun id m hpeer hquar => hself.state (n := 6) ?_ (by decide),
    fun id m hpeer hquar hann hboot => hself.state (n := 1) ?_ (by decide), honly⟩
  · exact State.lockState_of_none hpeer
  · exact State.lockState_of_quarantined hpeer hquar
  · exact State.lockState_of_silent hpeer hquar hann hboot

/-- A crossing's contents discarded, and it is WHOLE again. -/
def State.joinXing (s : State) (id : Nat) : State := (s.resetContents id).whole id

theorem State.joinXing_only {n : Nat} (s : State) (hn : n < 2 ^ 28) : Only [.xg] s (s.joinXing (xId 10 n)) := by
  have hclass : xClass (xId 10 n) = 10 := xClass_xId hn
  have hreset : s.resetContents (xId 10 n) = ((s.modXing (xId 10 n) fun x => { x with
      e2 := x.e1, fill := 0, drop := sat16 x.drop (s.resetLost (xId 10 n)), rst1 := false, rst2 := false
      tornAt := none }).xDrop (s.resetLost (xId 10 n))) := by
    unfold State.resetContents
    rw [if_neg (by rw [hclass]; decide)]
    dsimp only
    rw [if_neg (by rw [hclass]; decide : ¬ xClass (xId 10 n) = 5), if_neg (by rw [hclass]; decide : ¬ xClass (xId 10 n) = 6),
      if_neg (by rw [hclass]; decide : ¬ xClass (xId 10 n) = 4), ite_self]
    rfl
  have hwhole (t : State) : t.whole (xId 10 n) = t.modXing (xId 10 n) fun x => { x with st := .whole, stale := false, lost := false } := by
    have hid (k : Nat) (hk : k < 2 ^ 28) : xId 10 n ≠ xId 3 k := fun h => absurd (xId_inj hn hk h).1 (by decide)
    unfold State.whole
    rw [if_neg (by rw [hclass]; decide)]
    dsimp only
    rw [if_neg (by rw [hclass]; simp), if_neg (by rw [hclass]; decide), if_neg (by rw [hclass]; decide),
      if_neg (not_or.2 ⟨hid 3 (by decide), hid 5 (by decide)⟩)]
  rw [State.joinXing, hreset, hwhole]
  exact ⟨fun g hg => by
    cases g with
    | xg => exact absurd (by decide) hg
    | _ => rfl⟩

end Sys2Proof.Machine
end


section
/-! SUPPORT. Lock lost, and a quarantine that is over (R387, R395, R215). -/
namespace Sys2Proof.Machine
open Sys2Proof.Safety

/-- A crossing that is WHOLE, its far epoch that of its first side. -/
def Xing.joined (x y : Xing) : Prop := y.st = .whole ∧ y.e1 = x.e1 ∧ y.e2 = x.e1

theorem State.xing_joinXing (s : State) {n : Nat} (hn : n < 2 ^ 28) (hwf : Map.wf {} s.xg.x = true) :
    Xing.joined (s.xing (xId 10 n)) ((s.joinXing (xId 10 n)).xing (xId 10 n)) ∧ Map.wf {} (s.joinXing (xId 10 n)).xg.x = true := by
  have hclass : xClass (xId 10 n) ≠ 9 := by rw [xClass_xId hn]; decide
  have hwf' := s.resetContents_wf hclass hwf
  refine ⟨?_, State.whole_wf _ hclass hwf'⟩
  obtain ⟨m, hreset⟩ := s.xing_resetContents hclass hwf
  rw [State.joinXing, State.xing_whole _ hclass hwf', hreset]
  exact ⟨rfl, rfl, rfl⟩

theorem State.xing_joinXing_ne (s : State) {n i : Nat} (hn : n < 2 ^ 28) (hi : i ≠ xId 10 n) : (s.joinXing (xId 10 n)).xing i = s.xing i := by
  have hclass : xClass (xId 10 n) ≠ 9 := by rw [xClass_xId hn]; decide
  rw [State.joinXing, State.xing_whole_ne _ hclass hi, s.xing_resetContents_ne hclass hi]

/-- A port without lock (R387). -/
def SpanPort.unlocked (p : SpanPort) : SpanPort := { p with lock := false, probe := none, st := if p.peer.isSome then 7 else 0 }

theorem spanLockLoss_spec (port : Fin 2) (s : State) (hreg : Regular s) (hlock : (s.spPort (decide (port.val = 1))).lock = true) :
    let p := s.spPort (decide (port.val = 1))
    ∃ t, exec (.spanLockLoss port) s = .next t ∧ (t.spPort (decide (port.val = 1))).lock = false ∧
      (t.spPort (decide (port.val = 1))).probe = none ∧ (t.spPort (decide (port.val = 1))).st = (if p.peer.isSome then 7 else 0) ∧
      (∀ n, n = port.val ∨ n = 2 + port.val →
        (t.xing (xId 10 n)).st = .whole ∧ (t.xing (xId 10 n)).e1 = (s.xing (xId 10 n)).e1 ∧ (t.xing (xId 10 n)).e2 = (s.xing (xId 10 n)).e1) ∧
      Only [.et, .xg, .sp] s t := by
  intro p
  have hrun : exec (.spanLockLoss port) s = .next (((s.modSp (decide (port.val = 1)) SpanPort.unlocked).joinXing (xId 10 port.val)).joinXing
      (xId 10 (2 + port.val))).reselect := if_neg (by rw [hlock]; decide)
  have hp0 : port.val < 2 ^ 28 := lt_trans port.isLt (by decide)
  have hp2 : 2 + port.val < 2 ^ 28 := by have := port.isLt; omega
  have hne : xId 10 (2 + port.val) ≠ xId 10 port.val := fun h => absurd (xId_inj hp2 hp0 h).2 (by omega)
  have hport := s.spPort_modSp (decide (port.val = 1)) SpanPort.unlocked
  have honly1 := s.modSp_only (decide (port.val = 1)) SpanPort.unlocked
  have hx1 (i : Nat) : (s.modSp (decide (port.val = 1)) SpanPort.unlocked).xing i = s.xing i :=
    State.xing_congr (congrArg Xg.x (honly1.same .xg (by decide))) i
  have hwf1 : Map.wf {} (s.modSp (decide (port.val = 1)) SpanPort.unlocked).xg.x = true := by
    rw [(honly1.same .xg (by decide) : (s.modSp (decide (port.val = 1)) SpanPort.unlocked).xg = s.xg)]
    exact hreg.crossings
  generalize s.modSp (decide (port.val = 1)) SpanPort.unlocked = s1 at *
  obtain ⟨hjoin1, hwf2⟩ := s1.xing_joinXing hp0 hwf1
  have hx2 := fun i hi => s1.xing_joinXing_ne (i := i) hp0 hi
  have honly2 := s1.joinXing_only hp0
  generalize s1.joinXing (xId 10 port.val) = s2 at *
  obtain ⟨hjoin2, -⟩ := s2.xing_joinXing hp2 hwf2
  have hx3 := fun i hi => s2.xing_joinXing_ne (i := i) hp2 hi
  have honly3 := s2.joinXing_only hp2
  generalize s2.joinXing (xId 10 (2 + port.val)) = s3 at *
  have hself := s3.spPort_reselect (decide (port.val = 1))
  have honly4 := s3.reselect_keeps.only
  generalize s3.reselect = t at *
  have hsp3 : s3.spPort (decide (port.val = 1)) = p.unlocked :=
    (State.spPort_congr ((honly3.same .sp (by decide)).trans (honly2.same .sp (by decide))) _).trans hport
  have hxt (i : Nat) : t.xing i = s3.xing i := State.xing_congr (congrArg Xg.x (honly4.same .xg (by decide))) i
  rw [hsp3] at hself
  refine ⟨t, hrun, hself.field SpanPort.lock fun _ _ _ => rfl, hself.field SpanPort.probe fun _ _ _ => rfl, hself.state rfl ?_, fun n hn => ?_,
    ((honly1.mono (by decide)).trans (honly2.mono (by decide))).trans ((honly3.mono (by decide)).trans (honly4.mono (by decide)))⟩
  · cases p.peer.isSome <;> decide
  · rw [hxt]
    rcases hn with rfl | rfl
    · rw [hx3 _ hne.symm, ← hx1]
      exact hjoin1
    · rw [← hx1, ← hx2 _ hne]
      exact hjoin2

/-! ### A quarantine that is over -/

/-- The ports of a peer, changed. -/
theorem State.spPort_modPeer (s : State) (id : BitVec 64) (f : SpanPort → SpanPort) (one : Bool) :
    (s.modPeer id f).spPort one = if (s.spPort one).peer.map (·.1) = some id then f (s.spPort one) else s.spPort one :=
  State.spPort_modSp_both _ _ one

theorem State.modPeer_only (s : State) (id : BitVec 64) (f : SpanPort → SpanPort) : Only [.sp] s (s.modPeer id f) := s.modSp_both_only _

theorem State.modPeer_quar (s : State) (id : BitVec 64) (f : SpanPort → SpanPort) : (s.modPeer id f).sp.quar = s.sp.quar :=
  (State.modSp_quar _ _ _).trans (State.modSp_quar _ _ _)

/-- An identity's quarantine taken off the list. -/
def State.unquarantine (s : State) (id : BitVec 64) : State :=
  { s with sp := { s.sp with quar := s.sp.quar.filter fun q => decide (q.id ≠ id) } }

theorem State.unquarantine_quarantined (s : State) (id i : BitVec 64) :
    (s.unquarantine id).quarantined i = (s.quarantined i && decide (i ≠ id)) := by
  simp only [State.quarantined, State.unquarantine, List.any_filter]
  induction s.sp.quar with
  | nil => rfl
  | cons q l ih =>
    rw [List.any_cons, List.any_cons, ih]
    rcases Decidable.em (q.id = i) with rfl | hq
    · cases decide (q.id ≠ id) <;> simp
    · simp [hq]

theorem quarantineExpiry_spec (id : BitVec 64) (e : Quar) (s : State) (he : e ∈ s.sp.quar) (hid : e.id = id) (hover : e.until_ ≤ s.now) :
    ∃ t, exec (.quarantineExpiry id) s = .next t ∧ t.quarantined id = false ∧ (∀ i, i ≠ id → t.quarantined i = s.quarantined i) ∧
      (∀ one, (s.spPort one).peer.map (·.1) = some id → (t.spPort one).st = (if (s.spPort one).lock then 1 else 7) ∧ (t.spPort one).qreason = 0) ∧
      Only [.et, .sp] s t := by
  have hrun : exec (.quarantineExpiry id) s = .next ((s.unquarantine id).modPeer id SpanPort.listen).reselect :=
    if_pos (List.any_eq_true.2 ⟨e, he, decide_eq_true ⟨hid, hover⟩⟩)
  have hquar (i : BitVec 64) : ((s.unquarantine id).modPeer id SpanPort.listen).reselect.quarantined i = (s.quarantined i && decide (i ≠ id)) :=
    (State.quarantined_congr ((State.reselect_quar _).trans (State.modPeer_quar _ _ _)) i).trans (s.unquarantine_quarantined id i)
  refine ⟨_, hrun, ?_, fun i hi => ?_, fun one hpeer => ?_, exec_only hrun⟩
  · rw [hquar]
    simp
  · rw [hquar]
    simp [hi]
  · have hself := ((s.unquarantine id).modPeer id SpanPort.listen).spPort_reselect one
    have hlisten : ((s.unquarantine id).modPeer id SpanPort.listen).spPort one = (s.spPort one).listen :=
      ((s.unquarantine id).spPort_modPeer id SpanPort.listen one).trans (if_pos hpeer)
    rw [hlisten] at hself
    exact ⟨hself.state rfl (unheard_of_lock _), hself.field SpanPort.qreason fun _ _ _ => rfl⟩

/-- Settles O47: a first post within its bounds is adopted or slewed to, another refused; peers come and go with their ports cleared, keys are loaded on
both, and lock, its loss and the end of a quarantine set the state of the port's peer. -/
theorem hostOffsetsPeersAndKeys : Obligations.HostOffsetsPeersAndKeys := by
  refine ⟨fun q s hready => ?host,
    fun q s hready h => hostOffsetPost_refused q s hready h, fun x u a s hlast hhost hlate => hostOutOfUse_spec x u a s hlast hhost hlate,
    fun q s hready hport huse => ?_, fun q s hready hport huse hpeer => spanPeerAdd_full q s hready hport huse hpeer,
    fun q s hready hport huse hpeer hquar => spanPeerAdd_quarantined q s hready hport huse hpeer hquar,
    fun q s hready hport hpeer => spanPeerRemove_spec q s hready hport hpeer, fun q s hready hzero => ?current, fun q s hready hone => ?next,
    fun q s hready => spanQuery_spec q s hready, fun port k a s hprev ha => previousKeyExpiry_spec port k a s hprev ha,
    fun port s hreset => ?_, fun port s hreg => ?_, fun id e s he hid hover => quarantineExpiry_spec id e s he hid hover⟩
  case host =>
    intro x a hsrc hbound hpast hrecent hfirst
    exact ⟨fun hdue hrun => hostOffsetPost_adopted q s hready hsrc hbound hpast hrecent hfirst hdue hrun,
      fun hslew => hostOffsetPost_slewed q s hready hsrc hbound hpast hrecent hfirst hslew⟩
  · intro one id hpeer hfree
    exact spanPeerAdd_spec q s hready hport huse hpeer hfree
  case current =>
    obtain ⟨t, hrun, hports, honly⟩ := spanKeySet_spec q s hready (by omega)
    exact ⟨t, hrun, fun one => (hports one).trans (if_pos hzero), honly⟩
  case next =>
    obtain ⟨t, hrun, hports, honly⟩ := spanKeySet_spec q s hready (by omega)
    exact ⟨t, hrun, fun one => (hports one).trans (if_neg (by omega)), honly⟩
  · intro p hlock
    exact spanSymbolLock_spec port s hreset hlock
  · intro p hlock
    exact spanLockLoss_spec port s hreg hlock

end Sys2Proof.Machine
end


section
/-! SUPPORT. Span frames (R389-R392, R395, R413). -/
namespace Sys2Proof.Machine
open Sys2Proof.Safety

/-! ### Frames that are taken -/

/-- A port with a frame that verifies (R391, R363). -/
def SpanPort.taken (p : SpanPort) (f : Frame) (now : Nat) : SpanPort :=
  let p := if p.bootId = some (frameBoot f) then p
    else { p with
      bootId := some (frameBoot f), left := (p.bootId.toList ++ p.left).take 4, meas := [], count := 0, rateRef := none, probe := none
      fDelay := 0, fOffset := 0, fRate := 0 }
  { p with
    seq := frameSeq f, proto := byteAt f.bytes 0, protoN := if 2 ≤ byteAt f.bytes 0 then some (p.protoN.getD now) else none
    st := if p.st = 1 then 2 else p.st, heardAt := if p.st = 1 then now else p.heardAt }

theorem State.takeFrame_eq (s : State) (one : Bool) (f : Frame) : s.takeFrame one f = s.modSp one fun p => p.taken f s.now := rfl

theorem SpanPort.taken_bootId (p : SpanPort) (f : Frame) (now : Nat) : (p.taken f now).bootId = some (frameBoot f) := by
  unfold SpanPort.taken
  split
  next h => exact h
  · rfl

/-- What a frame leaves of its port. -/
theorem SpanPort.taken_field {α : Type} (q : SpanPort → α) (p : SpanPort) (f : Frame) (now : Nat)
    (hboot : ∀ p b l m n r e fd fo fr, q { p with
      bootId := b, left := l, meas := m, count := n, rateRef := r, probe := e, fDelay := fd, fOffset := fo, fRate := fr } = q p)
    (hseq : ∀ p a b c d e, q { p with seq := a, proto := b, protoN := c, st := d, heardAt := e } = q p) : q (p.taken f now) = q p := by
  unfold SpanPort.taken
  dsimp only
  rw [hseq]
  split
  · rfl
  · exact hboot _ _ _ _ _ _ _ _ _ _

theorem SpanPort.taken_known (p : SpanPort) {f : Frame} (now : Nat) (h : p.bootId = some (frameBoot f)) : p.taken f now = { p with
    seq := frameSeq f, proto := byteAt f.bytes 0, protoN := if 2 ≤ byteAt f.bytes 0 then some (p.protoN.getD now) else none
    st := if p.st = 1 then 2 else p.st, heardAt := if p.st = 1 then now else p.heardAt } := by
  rw [SpanPort.taken, if_pos h]

/-! ### ANNOUNCE -/

/-- The rank that an ANNOUNCE gives its sender (R393). -/
def announcedRank (f : Frame) : Rank := ⟨byteAt f.bytes 28, le f.bytes 32 8, byteAt f.bytes 29 + 1⟩

/-- A port that has taken an ANNOUNCE. -/
def SpanPort.announced (p : SpanPort) (f : Frame) (now : Nat) : SpanPort :=
  { p.taken f now with rank := some (announcedRank f), annAt := some now, fLoop := 0, st := if (p.taken f now).st = 5 then 2 else (p.taken f now).st }

theorem State.modSp_modSp (s : State) (one : Bool) (f g : SpanPort → SpanPort) : (s.modSp one f).modSp one g = s.modSp one fun p => g (f p) := by
  cases one <;> rfl

theorem State.modSp_congr (s : State) {one : Bool} {f g : SpanPort → SpanPort} (h : f (s.spPort one) = g (s.spPort one)) :
    s.modSp one f = s.modSp one g := by
  cases one
  · exact congrArg (fun p => { s with sp := { s.sp with p0 := p } }) h
  · exact congrArg (fun p => { s with sp := { s.sp with p1 := p } }) h

theorem announce_spec (port : Fin 2) (f : Frame) (s : State) (htakes : s.takes (decide (port.val = 1)) = true)
    (hfault : (s.spPort (decide (port.val = 1))).fault f = none) (htype : frameType f = 1) (hclass : byteAt f.bytes 28 ≤ 3)
    (hsteps : byteAt f.bytes 29 ≤ 15) (hloop : s.sp.root = true ∨ le f.bytes 32 8 ≠ s.ownId) :
    let one := decide (port.val = 1)
    ∃ t, exec (.announce port f) s = .next t ∧
      (t.spPort one).rank = some ⟨byteAt f.bytes 28, le f.bytes 32 8, byteAt f.bytes 29 + 1⟩ ∧ (t.spPort one).annAt = some s.now ∧
      (t.spPort one).seq = frameSeq f ∧ (t.spPort one).bootId = some (frameBoot f) ∧ (t.spPort one).proto = byteAt f.bytes 0 ∧
      (t.spPort one).fLoop = 0 ∧ t.ev = s.ev ∧ Only [.et, .sp] s t := by
  intro one
  have hgood : ¬ (15 < byteAt f.bytes 29 ∨ 3 < byteAt f.bytes 28 ∨ ((!s.sp.root) = true ∧ le f.bytes 32 8 = s.ownId)) := by
    rintro (h | h | ⟨h, hown⟩)
    · omega
    · omega
    · rcases hloop with hroot | hother
      · rw [hroot] at h
        exact absurd h (by decide)
      · exact hother hown
  have hrun : exec (.announce port f) s = .next (s.modSp one fun p => p.announced f s.now).reselect := by
    have hexec : exec (.announce port f) s = execAnnounce port f s := rfl
    rw [hexec]
    unfold execAnnounce
    dsimp only
    rw [if_neg (by simp [htakes, hfault, htype]), if_neg hgood, State.takeFrame_eq, State.modSp_modSp]
    refine congrArg (fun u : State => Host.Outcome.next u.reselect) (congrArg (fun g => s.modSp one g) (funext fun p => ?_))
    have hnow : (s.modSp one fun p => p.taken f s.now).now = s.now := congrArg Sys.erg (s.modSp_sys one _)
    exact congrArg (fun n : Nat => { p.taken f s.now with
      rank := some (announcedRank f), annAt := some n, fLoop := 0, st := if (p.taken f s.now).st = 5 then 2 else (p.taken f s.now).st }) hnow
  obtain ⟨hself, -⟩ := s.spPort_modSp_reselect one fun p => p.announced f s.now
  have honly := modSp_reselect_only s one fun p => p.announced f s.now
  generalize (s.modSp one fun p => p.announced f s.now).reselect = t at *
  exact ⟨t, hrun, hself.field SpanPort.rank fun _ _ _ => rfl, hself.field SpanPort.annAt fun _ _ _ => rfl,
    hself.field SpanPort.seq fun _ _ _ => rfl,
    (hself.field SpanPort.bootId fun _ _ _ => rfl).trans ((s.spPort one).taken_bootId f s.now), hself.field SpanPort.proto fun _ _ _ => rfl,
    hself.field SpanPort.fLoop fun _ _ _ => rfl, honly.same .ev (by decide), honly⟩

theorem announce_rejected (port : Fin 2) (f : Frame) (s : State) (htakes : s.takes (decide (port.val = 1)) = true)
    (hfault : (s.spPort (decide (port.val = 1))).fault f = none) (htype : frameType f = 1)
    (hbad : 15 < byteAt f.bytes 29 ∨ 3 < byteAt f.bytes 28 ∨ (s.sp.root = false ∧ le f.bytes 32 8 = s.ownId))
    (hfew : (s.spPort (decide (port.val = 1))).fLoop < 7) :
    let one := decide (port.val = 1)
    let p := s.spPort one
    ∃ t, exec (.announce port f) s = .next t ∧ t.spPort one = { p with fLoop := p.fLoop + 1, boundRej := sat16 p.boundRej 1 } ∧
      t.spPort (!one) = s.spPort (!one) ∧ Only [.sp] s t := by
  intro one p
  have hbad' : 15 < byteAt f.bytes 29 ∨ 3 < byteAt f.bytes 28 ∨ ((!s.sp.root) = true ∧ le f.bytes 32 8 = s.ownId) := by
    simpa using hbad
  have hrun : exec (.announce port f) s = .next ((s.modSp one fun q => { q with fLoop := p.fLoop + 1 }).modSp one fun q =>
      { q with boundRej := sat16 q.boundRej 1 }) := by
    have hexec : exec (.announce port f) s = execAnnounce port f s := rfl
    rw [hexec]
    unfold execAnnounce
    dsimp only
    rw [if_neg (by simp [htakes, hfault, htype]), if_pos hbad']
    exact congrArg Host.Outcome.next (if_neg (by omega))
  rw [State.modSp_modSp] at hrun
  exact ⟨_, hrun, s.spPort_modSp _ _, s.spPort_modSp_not _ _, s.modSp_only _ _⟩

/-! ### Transmission -/

/-- A frame's header and payload (R389). -/
def State.frameOf (s : State) (k : Key) (seq type : Nat) (payload : Bytes) : Bytes :=
  [2, BitVec.ofNat 8 type] ++ toLE 2 payload.length ++ toLE 8 s.ownId ++ toLE 8 s.sp.bootId.toNat ++ toLE 4 seq ++
    padTo 2 (kcv k) ++ zeros 2 ++ payload

/-- A port that hands a frame to its transmitter. -/
def SpanPort.sending (p : SpanPort) (k : Key) (bytes : Bytes) : SpanPort :=
  { p with txSeq := p.txSeq + 1, tx := some (bytes, (Config.aesCmac k bytes).take 8) }

theorem State.sendFrame_eq {s : State} {one : Bool} {k : Key} (type : Nat) (payload : Bytes) (hkey : (s.spPort one).key = some k) :
    s.sendFrame one type payload =
      s.modSp one fun p => p.sending k (s.frameOf k ((s.spPort one).txSeq + 1) type payload) := by
  unfold State.sendFrame
  rw [hkey]
  exact s.modSp_congr rfl

theorem State.frameOf_congr {s t : State} (hdie : t.die = s.die) (hboot : t.sp.bootId = s.sp.bootId) (k : Key) (seq type : Nat)
    (payload : Bytes) : t.frameOf k seq type payload = s.frameOf k seq type payload := by
  have hown : t.ownId = s.ownId := congrArg (fun d : Die => d.serial.toNat) (State.dieAt_congr hdie 16)
  rw [State.frameOf, hown, hboot, ← State.frameOf]

theorem stampS_length (x : Int) : (stampS x).length = 16 := by
  simp [stampS, toLES]

theorem State.reselect_bootId (s : State) : s.reselect.sp.bootId = s.sp.bootId := rfl

end Sys2Proof.Machine
end


section
/-! SUPPORT. Probes, replies and what is sent (R389, R392, R406). -/
namespace Sys2Proof.Machine
open Sys2Proof.Safety

/-! ### PROBE -/

theorem State.takes_enabled {s : State} {one : Bool} (h : s.takes one = true) : s.spEn one = true := by
  simp only [State.takes, Bool.and_eq_true] at h
  exact h.1.1.1.2

/-- A port that has taken a frame, the source chosen anew. -/
def State.framed (s : State) (one : Bool) (f : Frame) : State := (s.takeFrame one f).reselect

theorem State.spPort_framed (s : State) (one : Bool) (f : Frame) :
    SpanPort.Chosen ((s.spPort one).taken f s.now) ((s.framed one f).spPort one) :=
  (s.spPort_modSp_reselect one fun p => p.taken f s.now).1

theorem State.framed_only (s : State) (one : Bool) (f : Frame) : Only [.et, .sp] s (s.framed one f) := modSp_reselect_only s one _

theorem State.framed_ctrl (s : State) (one : Bool) (f : Frame) : (s.framed one f).sp.ctrl = s.sp.ctrl ∧ (s.framed one f).sp.bootId = s.sp.bootId ∧
    (s.framed one f).et.rack = s.et.rack := by
  cases one <;> exact ⟨rfl, rfl, rfl⟩

theorem State.draw_spec (s : State) : ∃ n, s.draw = (n, { s with fresh := s.fresh + 1 }) := ⟨_, rfl⟩

theorem probe_spec (port : Fin 2) (f : Frame) (k : Key) (s : State) (htakes : s.takes (decide (port.val = 1)) = true)
    (hstamps : s.stamps (decide (port.val = 1)) = true) (hfault : (s.spPort (decide (port.val = 1))).fault f = none)
    (htype : frameType f = 2) (hkey : (s.spPort (decide (port.val = 1))).key = some k) :
    let one := decide (port.val = 1)
    ∃ t, exec (.probe port f) s = .next t ∧ t.fresh = s.fresh + 1 ∧ (t.spPort one).txSeq = (s.spPort one).txSeq + 1 ∧
      (t.spPort one).seq = frameSeq f ∧
      (∃ d : Nat, d ≤ 20000 * 65536 ∧
        let bytes := [2, 3] ++ toLE 2 56 ++ toLE 8 s.ownId ++ toLE 8 s.sp.bootId.toNat ++ toLE 4 ((s.spPort one).txSeq + 1) ++
          padTo 2 (kcv k) ++ zeros 2 ++
          (toLE 4 (frameSeq f) ++ zeros 4 ++ slice f.bytes 28 16 ++ stampS (s.arrival f) ++ stampS (s.arrival f + d));
        (t.spPort one).tx = some (bytes, (Config.aesCmac k bytes).take 8)) ∧ Only [.fresh, .et, .sp] s t := by
  intro one
  obtain ⟨hctrl, hboot, hrack⟩ := s.framed_ctrl one f
  have hport := s.spPort_framed one f
  have honly := s.framed_only one f
  have hen : s.spEn one = true := State.takes_enabled htakes
  have htaken (α : Type) (q : SpanPort → α)
    (hboot : ∀ p b l m n r e fd fo fr, q { p with
      bootId := b, left := l, meas := m, count := n, rateRef := r, probe := e, fDelay := fd, fOffset := fo, fRate := fr } = q p)
    (hseq : ∀ p a b c d e, q { p with seq := a, proto := b, protoN := c, st := d, heardAt := e } = q p)
    (hf : ∀ p st rr, q { p with st := st, rateRef := rr } = q p) : q ((s.framed one f).spPort one) = q (s.spPort one) :=
    (hport.field q hf).trans (SpanPort.taken_field q _ _ _ hboot hseq)
  have hkey' : ((s.framed one f).spPort one).key = some k := (htaken _ SpanPort.key (fun _ _ _ _ _ _ _ _ _ _ => rfl) (fun _ _ _ _ _ _ => rfl)
    fun _ _ _ => rfl).trans hkey
  have htx : ((s.framed one f).spPort one).txSeq = (s.spPort one).txSeq := htaken _ SpanPort.txSeq (fun _ _ _ _ _ _ _ _ _ _ => rfl)
    (fun _ _ _ _ _ _ => rfl) fun _ _ _ => rfl
  have hseq : ((s.framed one f).spPort one).seq = frameSeq f := hport.field SpanPort.seq fun _ _ _ => rfl
  have hen' : (s.framed one f).spEn one = true := (congrArg (fun l : Lat => bitOf l.eff (b2n one)) hctrl).trans hen
  have harr : (s.framed one f).arrival f = s.arrival f := congrArg (fun r : Int => f.arrival / 128 * 128 + r) hrack
  have hexec : exec (.probe port f) s = execProbe port f s := rfl
  unfold execProbe at hexec
  dsimp only at hexec
  rw [if_neg (by simp [htakes, hstamps, hfault, htype])] at hexec
  have hframed : (s.takeFrame (decide (port.val = 1)) f).reselect = s.framed one f := rfl
  rw [hframed, if_neg (by rw [hen', hkey']; simp), harr] at hexec
  generalize s.framed one f = u at *
  obtain ⟨n, hdraw⟩ := u.draw_spec
  rw [hdraw] at hexec
  dsimp only at hexec
  have hport2 : ({ u with fresh := u.fresh + 1 } : State).spPort one = u.spPort one := rfl
  rw [State.sendFrame_eq _ _ (hport2 ▸ hkey'), hport2, htx] at hexec
  refine ⟨_, hexec, ?_, ?_, ?_, ⟨n % (20000 * 65536 + 1), Nat.le_of_lt_succ (Nat.mod_lt _ (by decide)), ?_⟩, ?_⟩
  · rw [State.modSp_fresh]
    exact congrArg (· + 1) (honly.same .fresh (by decide))
  · rw [State.spPort_modSp]
    exact congrArg (· + 1) htx
  · rw [State.spPort_modSp]
    exact hseq
  · have hframe (seq : Nat) (payload : Bytes) : ({ u with fresh := u.fresh + 1 } : State).frameOf k seq 3 payload = s.frameOf k seq 3 payload :=
      State.frameOf_congr (honly.same .die (by decide)) hboot k seq 3 payload
    rw [State.spPort_modSp, hframe]
    simp only [SpanPort.sending, State.frameOf, List.length_append, toLE_length, zeros_length, slice_length, stampS_length]
    rfl
  · have hfresh : Only [.fresh, .et, .sp] u { u with fresh := u.fresh + 1 } := ⟨fun g hg => by
      cases g with
      | fresh => exact absurd (by decide) hg
      | _ => rfl⟩
    exact (honly.mono (by decide)).trans (hfresh.trans ((State.modSp_only _ _ _).mono (by decide)))

end Sys2Proof.Machine
end


section
/-! SUPPORT. Measurements of delay and offset (R392, Table 14-5). -/
namespace Sys2Proof.Machine
open Sys2Proof.Safety

/-- A port but for the point that its rate is taken from. -/
def SpanPort.unreferred (p : SpanPort) : SpanPort := { p with rateRef := none }

theorem State.applyRack_sp (s : State) (x : Int) : (s.applyRack x).1.sp = s.sp := by
  unfold State.applyRack
  split
  · exact (Keeps.raise_keeps (List.Subset.refl _) (Keeps.refl _) _ _).only.same .sp (by decide)
  · rfl

/-- Rack time toward an offset, and the rate toward what a port's reference gives (R394). -/
def State.rackToward (s : State) (x : Int) : State := if s.discSrc = 1 then (s.applyRack x).1 else s
def State.rateToward (s : State) (p : SpanPort) (x : Int) : State := match p.rateRef with
  | some (y, t) => if t < s.now then s.applyRate (rateOf (x - y) (s.now - t)) else s
  | none => s

theorem State.rackToward_sp (s : State) (x : Int) : (s.rackToward x).sp = s.sp := by
  unfold State.rackToward
  split
  · exact s.applyRack_sp x
  · rfl

theorem State.rateToward_sp (s : State) (p : SpanPort) (x : Int) : (s.rateToward p x).sp = s.sp := by
  unfold State.rateToward
  split
  · split <;> rfl
  · rfl

theorem State.discipline_some {s : State} {one : Bool} {b : Meas} (h : (s.spPort one).best = some b) : s.discipline one =
    if (s.spPort one).count % 8 ≠ 0 then s.rackToward (b.rack + b.o)
    else ((s.rackToward (b.rack + b.o)).rateToward (s.spPort one) (b.rack + b.o)).modSp one fun p => { p with
      rateRef := some (b.rack + b.o, ((s.rackToward (b.rack + b.o)).rateToward (s.spPort one) (b.rack + b.o)).now) } := by
  unfold State.discipline
  dsimp only
  rw [h]
  rfl

theorem State.discipline_port (s : State) (one : Bool) : ((s.discipline one).spPort one).unreferred = (s.spPort one).unreferred := by
  rcases hbest : (s.spPort one).best with _ | b
  · have hnone : s.discipline one = s := by simp only [State.discipline, hbest]
    rw [hnone]
  · rw [State.discipline_some hbest]
    have hrack := s.rackToward_sp (b.rack + b.o)
    have hrate := (s.rackToward (b.rack + b.o)).rateToward_sp (s.spPort one) (b.rack + b.o)
    split
    · rw [State.spPort_congr hrack]
    · rw [State.spPort_modSp, State.spPort_congr (hrate.trans hrack)]
      rfl

/-- A port with its probe over, once the REPLY to it is taken (R392). -/
def SpanPort.replied (p : SpanPort) (f : Frame) (now : Nat) : SpanPort := { p.taken f now with probe := none }

/-- What the checks of a measurement read of a port. -/
structure SpanPort.SameHistory (p q : SpanPort) : Prop where
  meas : q.meas = p.meas
  count : q.count = p.count

theorem State.delayOk_congr {s t : State} {p q : SpanPort} (d : Int) (hctrl : t.sp.ctrl = s.sp.ctrl) (hbounds : t.sp.bounds = s.sp.bounds)
    (h : SpanPort.SameHistory p q) : t.delayOk q d = s.delayOk p d := by
  rw [State.delayOk, hctrl, hbounds, h.meas, h.count, ← State.delayOk]

theorem State.offsetOk_congr {s t : State} {p q : SpanPort} (o : Int) (hbounds : t.sp.bounds = s.sp.bounds) (hrack : t.et.rack = s.et.rack)
    (h : SpanPort.SameHistory p q) : t.offsetOk q o = s.offsetOk p o := by
  have hbest : q.best = p.best := by rw [SpanPort.best, h.meas, ← SpanPort.best]
  rw [State.offsetOk, hbest, hbounds, hrack, h.count, ← State.offsetOk]

theorem State.rateOk_congr {s t : State} {p q : SpanPort} (o : Int) (hnow : t.now = s.now) (hrack : t.et.rack = s.et.rack)
    (h : SpanPort.SameHistory p q) : t.rateOk q o = s.rateOk p o := by
  rw [State.rateOk, h.meas, hnow, hrack, ← State.rateOk]

theorem SpanPort.replied_history (p : SpanPort) {f : Frame} (now : Nat) (h : p.bootId = some (frameBoot f)) :
    SpanPort.SameHistory p (p.replied f now) := by
  rw [SpanPort.replied, p.taken_known now h]
  exact ⟨rfl, rfl⟩

/-- A port with an accepted measurement. -/
def SpanPort.measured (p : SpanPort) (m : Meas) : SpanPort :=
  { p with meas := (m :: p.meas).take 16, count := p.count + 1, accept := p.accept + 1, fDelay := 0, fOffset := 0, fRate := 0 }

/-- What an accepted measurement leaves at its port, the state and the rate's reference apart. -/
theorem State.acceptMeas_port (s : State) (one : Bool) (d o : Int) : ∃ st rr, (s.acceptMeas one d o).spPort one =
    { (s.spPort one).measured ⟨d, o, s.et.rack, s.now⟩ with st := st, rateRef := rr } := by
  have hchosen := (s.spPort_modSp_reselect one fun p => p.measured ⟨d, o, s.et.rack, s.now⟩).1.fields
  have haccept : s.acceptMeas one d o = if ((s.modSp one fun p => p.measured ⟨d, o, s.et.rack, s.now⟩).reselect.spPort one).st = 4 ∧
      !(s.modSp one fun p => p.measured ⟨d, o, s.et.rack, s.now⟩).reselect.suspended then
      (s.modSp one fun p => p.measured ⟨d, o, s.et.rack, s.now⟩).reselect.discipline one
    else (s.modSp one fun p => p.measured ⟨d, o, s.et.rack, s.now⟩).reselect := rfl
  rw [haccept]
  generalize (s.modSp one fun p => p.measured ⟨d, o, s.et.rack, s.now⟩).reselect = u at *
  split
  · have hdisc := u.discipline_port one
    refine ⟨(u.spPort one).st, ((u.discipline one).spPort one).rateRef, ?_⟩
    have hfields := congrArg (fun p : SpanPort => { p with rateRef := ((u.discipline one).spPort one).rateRef }) hdisc
    exact hfields.trans (congrArg (fun p : SpanPort => { p with rateRef := ((u.discipline one).spPort one).rateRef }) hchosen)
  · exact ⟨_, _, hchosen⟩

/-- The delay and offset that a REPLY gives (R392). -/
def replyDelay (f : Frame) (t1 t4 : Int) : Int := tdiv ((stampSRead f.bytes 52 - t1) + (t4 - stampSRead f.bytes 68)) 2
def replyOffset (f : Frame) (t1 t4 : Int) : Int := tdiv ((stampSRead f.bytes 52 - t1) - (t4 - stampSRead f.bytes 68)) 2

/-- A reply to the probe outstanding, its checks in their order. -/
def State.replyChecked (u : State) (one : Bool) (d o : Int) : State :=
  if !u.delayOk (u.spPort one) d then (u.modSp one fun p => { p with fDelay := p.fDelay + 1 }).rejectBound one ((u.spPort one).fDelay + 1) 4
  else if !u.offsetOk (u.spPort one) o then
    (u.modSp one fun p => { p with fDelay := 0, fOffset := p.fOffset + 1 }).rejectBound one ((u.spPort one).fOffset + 1) 5
  else if !u.rateOk (u.spPort one) o then
    (u.modSp one fun p => { p with fDelay := 0, fOffset := 0, fRate := p.fRate + 1 }).rejectBound one ((u.spPort one).fRate + 1) 6
  else u.acceptMeas one d o

theorem exec_reply {port : Fin 2} {f : Frame} {n : Nat} {t1 : Int} {a : Nat} {s : State} (htakes : s.takes (decide (port.val = 1)) = true)
    (hstamps : s.stamps (decide (port.val = 1)) = true) (hfault : (s.spPort (decide (port.val = 1))).fault f = none)
    (htype : frameType f = 3) (hprobe : (s.spPort (decide (port.val = 1))).probe = some (n, t1, a)) (hseq : le f.bytes 28 4 = n)
    (hstamp : slice f.bytes 36 16 = stampS t1) (hearly : f.arrival ≤ ((a : Int) + 100000) * 65536) :
    exec (.reply port f) s = .next ((s.modSp (decide (port.val = 1)) fun p => p.replied f s.now).replyChecked (decide (port.val = 1))
      (replyDelay f t1 (s.arrival f)) (replyOffset f t1 (s.arrival f))) := by
  have hexec : exec (.reply port f) s = execReply port f s := rfl
  have hhit : (decide (le f.bytes 28 4 = n) && decide (slice f.bytes 36 16 = stampS t1) &&
      decide (f.arrival ≤ ((a : Int) + 100000) * 65536)) = true := by simp [hseq, hstamp, hearly]
  rw [hexec]
  unfold execReply
  dsimp only
  rw [if_neg (by simp [htakes, hstamps, hfault, htype]), hprobe]
  dsimp only
  rw [hhit]
  dsimp only
  rw [State.takeFrame_eq, State.modSp_modSp]
  unfold State.replyChecked
  simp only [apply_ite Host.Outcome.next]
  rfl

end Sys2Proof.Machine
end


section
/-! SUPPORT. Replies judged, frames sent, peers that time out, and quarantine (R389-R395, R413). -/
namespace Sys2Proof.Machine
open Sys2Proof.Safety

/-! ### REPLY -/

theorem State.modSp_parts (s : State) (one : Bool) (f : SpanPort → SpanPort) : (s.modSp one f).sp.ctrl = s.sp.ctrl ∧
    (s.modSp one f).sp.bounds = s.sp.bounds := by
  cases one <;> exact ⟨rfl, rfl⟩

section Reply
variable {port : Fin 2} {f : Frame} {n : Nat} {t1 : Int} {a : Nat} {s : State} (htakes : s.takes (decide (port.val = 1)) = true)
  (hstamps : s.stamps (decide (port.val = 1)) = true) (hfault : (s.spPort (decide (port.val = 1))).fault f = none) (htype : frameType f = 3)
  (hboot : (s.spPort (decide (port.val = 1))).bootId = some (frameBoot f))
  (hprobe : (s.spPort (decide (port.val = 1))).probe = some (n, t1, a)) (hseq : le f.bytes 28 4 = n)
  (hstamp : slice f.bytes 36 16 = stampS t1) (hearly : f.arrival ≤ ((a : Int) + 100000) * 65536)
include htakes hstamps hfault htype hboot hprobe hseq hstamp hearly

theorem reply_accepted
    (hdelay : s.delayOk (s.spPort (decide (port.val = 1))) (replyDelay f t1 (s.arrival f)) = true)
    (hoffset : s.offsetOk (s.spPort (decide (port.val = 1))) (replyOffset f t1 (s.arrival f)) = true)
    (hrate : s.rateOk (s.spPort (decide (port.val = 1))) (replyOffset f t1 (s.arrival f)) = true) :
    let one := decide (port.val = 1)
    let p := s.spPort one
    ∃ t, exec (.reply port f) s = .next t ∧
      (t.spPort one).meas = (⟨replyDelay f t1 (s.arrival f), replyOffset f t1 (s.arrival f), s.et.rack, s.now⟩ :: p.meas).take 16 ∧
      (t.spPort one).count = p.count + 1 ∧ (t.spPort one).accept = p.accept + 1 ∧ (t.spPort one).probe = none ∧
      (t.spPort one).fDelay = 0 ∧ (t.spPort one).fOffset = 0 ∧ (t.spPort one).fRate = 0 := by
  intro one p
  have hrun := exec_reply htakes hstamps hfault htype hprobe hseq hstamp hearly
  have hport : (s.modSp one fun p => p.replied f s.now).spPort one = p.replied f s.now := s.spPort_modSp one _
  obtain ⟨hctrl, hbounds⟩ := s.modSp_parts one fun p => p.replied f s.now
  have hrack : (s.modSp one fun p => p.replied f s.now).et.rack = s.et.rack := congrArg Et.rack (s.modSp_et one _)
  have hnow : (s.modSp one fun p => p.replied f s.now).now = s.now := congrArg Sys.erg (s.modSp_sys one _)
  generalize (s.modSp one fun p => p.replied f s.now) = u at *
  have hhist := p.replied_history s.now hboot
  have hcheck : u.replyChecked one (replyDelay f t1 (s.arrival f)) (replyOffset f t1 (s.arrival f)) =
      u.acceptMeas one (replyDelay f t1 (s.arrival f)) (replyOffset f t1 (s.arrival f)) := by
    unfold State.replyChecked
    rw [hport, State.delayOk_congr _ hctrl hbounds hhist, hdelay, State.offsetOk_congr _ hbounds hrack hhist, hoffset,
      State.rateOk_congr _ hnow hrack hhist, hrate]
    rfl
  rw [hcheck] at hrun
  obtain ⟨st, rr, haccept⟩ := u.acceptMeas_port one (replyDelay f t1 (s.arrival f)) (replyOffset f t1 (s.arrival f))
  rw [hport, hrack, hnow] at haccept
  rw [SpanPort.measured, SpanPort.replied, p.taken_known s.now hboot] at haccept
  exact ⟨_, hrun, (congrArg SpanPort.meas haccept :), (congrArg SpanPort.count haccept :), (congrArg SpanPort.accept haccept :),
    (congrArg SpanPort.probe haccept :), (congrArg SpanPort.fDelay haccept :), (congrArg SpanPort.fOffset haccept :),
    (congrArg SpanPort.fRate haccept :)⟩

theorem reply_late (hdelay : s.delayOk (s.spPort (decide (port.val = 1))) (replyDelay f t1 (s.arrival f)) = false)
    (hfew : (s.spPort (decide (port.val = 1))).fDelay < 7) :
    let one := decide (port.val = 1)
    let p := s.spPort one
    ∃ t, exec (.reply port f) s = .next t ∧ (t.spPort one).meas = p.meas ∧ (t.spPort one).fDelay = p.fDelay + 1 ∧
      (t.spPort one).boundRej = sat16 p.boundRej 1 ∧ (t.spPort one).accept = p.accept ∧ (t.spPort one).probe = none ∧ t.et = s.et := by
  intro one p
  have hrun := exec_reply htakes hstamps hfault htype hprobe hseq hstamp hearly
  have hport : (s.modSp one fun p => p.replied f s.now).spPort one = p.replied f s.now := s.spPort_modSp one _
  obtain ⟨hctrl, hbounds⟩ := s.modSp_parts one fun p => p.replied f s.now
  have het : (s.modSp one fun p => p.replied f s.now).et = s.et := s.modSp_et one _
  generalize (s.modSp one fun p => p.replied f s.now) = u at *
  have hhist := p.replied_history s.now hboot
  have hfails : (p.replied f s.now).fDelay = p.fDelay := by rw [SpanPort.replied, p.taken_known s.now hboot]
  have hcheck : u.replyChecked one (replyDelay f t1 (s.arrival f)) (replyOffset f t1 (s.arrival f)) =
      (u.modSp one fun p => { p with fDelay := p.fDelay + 1 }).modSp one fun p => { p with boundRej := sat16 p.boundRej 1 } := by
    have hless : ¬ 8 ≤ (u.spPort one).fDelay + 1 := by
      rw [hport, hfails]
      exact not_le.2 (Nat.succ_lt_succ hfew)
    unfold State.replyChecked
    rw [hport, State.delayOk_congr _ hctrl hbounds hhist, hdelay, if_pos (by decide), ← hport]
    exact if_neg hless
  rw [hcheck, State.modSp_modSp] at hrun
  have hleft := u.spPort_modSp one fun p => { p with fDelay := p.fDelay + 1, boundRej := sat16 p.boundRej 1 }
  rw [hport, SpanPort.replied, p.taken_known s.now hboot] at hleft
  exact ⟨_, hrun, (congrArg SpanPort.meas hleft :), (congrArg SpanPort.fDelay hleft :), (congrArg SpanPort.boundRej hleft :),
    (congrArg SpanPort.accept hleft :), (congrArg SpanPort.probe hleft :), (u.modSp_et one _).trans het⟩

end Reply

/-! ### Frames sent -/

theorem announceTransmit_spec (port : Fin 2) (k : Key) (s : State) (hsends : s.sends (decide (port.val = 1)) = true)
    (hkey : (s.spPort (decide (port.val = 1))).key = some k) (hdue : s.due (s.spPort (decide (port.val = 1))).annSent 1000000 = true) :
    let one := decide (port.val = 1)
    ∃ t, exec (.announceTransmit port) s = .next t ∧ (t.spPort one).txSeq = (s.spPort one).txSeq + 1 ∧ (t.spPort one).annSent = some s.now ∧
      (let bytes := [2, 1] ++ toLE 2 16 ++ toLE 8 s.ownId ++ toLE 8 s.sp.bootId.toNat ++ toLE 4 ((s.spPort one).txSeq + 1) ++
          padTo 2 (kcv k) ++ zeros 2 ++ ([BitVec.ofNat 8 t.sp.cls, BitVec.ofNat 8 t.sp.steps, BitVec.ofNat 8 (b2n t.sp.fast), 0] ++
            toLE 8 t.sp.grand ++ zeros 4);
        (t.spPort one).tx = some (bytes, (Config.aesCmac k bytes).take 8)) ∧ Only [.et, .sp] s t := by
  intro one
  have hexec : exec (.announceTransmit port) s = execAnnounceTransmit port s := rfl
  unfold execAnnounceTransmit at hexec
  dsimp only at hexec
  rw [if_pos ⟨hsends, hdue⟩] at hexec
  have hport := s.spPort_reselect one
  have honly := s.reselect_keeps.only
  have hboot := s.reselect_bootId
  have hkey' : (s.reselect.spPort one).key = some k := (hport.field SpanPort.key fun _ _ _ => rfl).trans hkey
  have htx : (s.reselect.spPort one).txSeq = (s.spPort one).txSeq := hport.field SpanPort.txSeq fun _ _ _ => rfl
  generalize s.reselect = u at *
  have hframe (seq : Nat) (payload : Bytes) : u.frameOf k seq 1 payload = s.frameOf k seq 1 payload :=
    State.frameOf_congr (honly.same .die (by decide)) hboot k seq 1 payload
  rw [State.sendFrame_eq _ _ hkey', State.modSp_modSp, htx, hframe] at hexec
  have hannounced (g : SpanPort → SpanPort) : (u.modSp one g).sp.cls = u.sp.cls ∧ (u.modSp one g).sp.steps = u.sp.steps ∧
      (u.modSp one g).sp.fast = u.sp.fast ∧ (u.modSp one g).sp.grand = u.sp.grand := by
    cases one <;> exact ⟨rfl, rfl, rfl, rfl⟩
  refine ⟨_, hexec, ?_, ?_, ?_, honly.trans ((State.modSp_only _ _ _).mono (by decide))⟩
  · rw [State.spPort_modSp]
    exact congrArg (· + 1) htx
  · rw [State.spPort_modSp, State.now, State.modSp_sys]
    exact congrArg (fun x : Sys => some x.erg) (honly.same .sys (by decide))
  · obtain ⟨hcls, hsteps, hfast, hgrand⟩ := hannounced _
    rw [State.spPort_modSp, hcls, hsteps, hfast, hgrand]
    simp only [SpanPort.sending, State.frameOf, List.length_append, toLE_length, zeros_length, List.length_cons, List.length_nil]
    rfl

theorem probeTransmit_spec (port : Fin 2) (k : Key) (s : State) (hsends : s.sends (decide (port.val = 1)) = true)
    (hkey : (s.spPort (decide (port.val = 1))).key = some k) (hheard : (s.spPort (decide (port.val = 1))).heard)
    (hdue : s.due (s.spPort (decide (port.val = 1))).probedAt s.probeEvery = true) :
    let one := decide (port.val = 1)
    let p := s.spPort one
    ∃ t, exec (.probeTransmit port) s = .next t ∧
      (let bytes := [2, 2] ++ toLE 2 16 ++ toLE 8 s.ownId ++ toLE 8 s.sp.bootId.toNat ++ toLE 4 (p.txSeq + 1) ++
          padTo 2 (kcv k) ++ zeros 2 ++ stampS s.rackNow;
        t.spPort one = { p with txSeq := p.txSeq + 1, tx := some (bytes, (Config.aesCmac k bytes).take 8),
                                probe := some (p.txSeq + 1, s.rackNow, s.now), probedAt := some s.now }) ∧
      t.spPort (!one) = s.spPort (!one) ∧ Only [.sp] s t := by
  intro one p
  have hexec : exec (.probeTransmit port) s = execProbeTransmit port s := rfl
  unfold execProbeTransmit at hexec
  dsimp only at hexec
  rw [if_pos ⟨hsends, hheard, hdue⟩, State.sendFrame_eq _ _ hkey, State.modSp_modSp] at hexec
  have hnow (g : SpanPort → SpanPort) : (s.modSp one g).now = s.now := congrArg Sys.erg (s.modSp_sys one g)
  have hrack (g : SpanPort → SpanPort) : (s.modSp one g).rackNow = s.rackNow := by
    rw [State.rackNow, State.erg65, hnow, State.modSp_et, ← State.erg65, ← State.rackNow]
  rw [hnow, hrack] at hexec
  refine ⟨_, hexec, ?_, s.spPort_modSp_not _ _, s.modSp_only _ _⟩
  rw [State.spPort_modSp]
  simp only [SpanPort.sending, State.frameOf, stampS_length]
  rfl

theorem peerAnnounceTimeout_spec (port : Fin 2) (s : State) (hheard : (s.spPort (decide (port.val = 1))).heard)
    (hann : ∀ a, (s.spPort (decide (port.val = 1))).annAt = some a → a + 3000000 ≤ s.now)
    (hnone : (s.spPort (decide (port.val = 1))).annAt = none → (s.spPort (decide (port.val = 1))).heardAt + 3000000 ≤ s.now) :
    let one := decide (port.val = 1)
    ∃ t, exec (.peerAnnounceTimeout port) s = .next t ∧ (t.spPort one).st = 5 ∧ (t.spPort one).annAt = none ∧
      (t.spPort one).meas = (s.spPort one).meas ∧ Only [.et, .sp] s t := by
  intro one
  have hlate : (match (s.spPort one).annAt with
      | some t => decide (t + 3000000 ≤ s.now)
      | none => decide ((s.spPort one).heardAt + 3000000 ≤ s.now)) = true := by
    split
    next a ha => exact decide_eq_true (hann a ha)
    next ha => exact decide_eq_true (hnone ha)
  have hrun : exec (.peerAnnounceTimeout port) s = .next (s.modSp one fun p => { p with st := 5, annAt := none }).reselect :=
    if_pos ⟨hheard, hlate⟩
  obtain ⟨hself, -⟩ := s.spPort_modSp_reselect one fun p => { p with st := 5, annAt := none }
  have honly := modSp_reselect_only s one fun p => { p with st := 5, annAt := none }
  generalize (s.modSp one fun p => { p with st := 5, annAt := none }).reselect = t at *
  exact ⟨t, hrun, hself.state rfl (by decide), hself.field SpanPort.annAt fun _ _ _ => rfl, hself.field SpanPort.meas fun _ _ _ => rfl, honly⟩

/-! ### Frames that are rejected -/

theorem exec_rejectedFrame {port : Fin 2} {f : Frame} {why : FrameFault} {s : State} (htakes : s.takes (decide (port.val = 1)) = true)
    (hfault : (s.spPort (decide (port.val = 1))).fault f = some why) :
    exec (.rejectedFrame port f why) s = .next (s.rejectFrame (decide (port.val = 1)) why) := if_pos ⟨htakes, hfault⟩

theorem State.failList_congr {s t : State} (h : t.now = s.now) (l : List Nat) : t.failList l = s.failList l := by
  rw [State.failList, h, ← State.failList]

/-- A MAC failure, or one of identity, noted at its port. -/
def State.noteMac (s : State) (one : Bool) : State :=
  s.modSp one fun p => { p with authRej := sat16 p.authRej 1, auth := (s.failList (s.spPort one).auth).1 }
def State.noteIdentity (s : State) (one : Bool) : State :=
  s.modSp one fun p => { p with authRej := sat16 p.authRej 1, ident := (s.failList (s.spPort one).ident).1 }

theorem State.now_modSp (s : State) (one : Bool) (f : SpanPort → SpanPort) : (s.modSp one f).now = s.now :=
  congrArg Sys.erg (s.modSp_sys one f)

theorem State.rejectFrame_mac (s : State) (one : Bool) : s.rejectFrame one .mac =
    if (s.failList (s.spPort one).auth).2 then (s.noteMac one).quarantine one 1 else s.noteMac one := by
  have hfail := State.failList_congr (s.now_modSp one fun p => { p with authRej := sat16 p.authRej 1 }) (s.spPort one).auth
  unfold State.rejectFrame
  dsimp only
  rw [hfail, State.modSp_modSp]
  rfl

theorem State.rejectFrame_identity (s : State) (one : Bool) : s.rejectFrame one .identity =
    if (s.failList (s.spPort one).ident).2 then (s.noteIdentity one).quarantine one 3 else s.noteIdentity one := by
  have hfail := State.failList_congr (s.now_modSp one fun p => { p with authRej := sat16 p.authRej 1 }) (s.spPort one).ident
  unfold State.rejectFrame
  dsimp only
  rw [hfail, State.modSp_modSp]
  rfl

end Sys2Proof.Machine
end


section
/-! SUPPORT. A peer's quarantine, and measurements deferred (R395, R413). -/
namespace Sys2Proof.Machine
open Sys2Proof.Safety

/-- What a port keeps as another identity's quarantine ends. -/
def SpanPort.identity (p : SpanPort) : Option (BitVec 64 × Bool) × Nat := (p.peer, p.authRej)

/-- Room on the list of quarantined identities: the entry with the earliest expiry goes where it is full (R409). -/
def State.quarRoom (s : State) : State :=
  if s.sp.quar.length < 16 then s
  else match firstExpiry s.sp.quar with
    | some q => ({ s with sp := { s.sp with quar := s.sp.quar.filter (· ≠ q) } } : State).modPeer q.id SpanPort.listen
    | none => s

theorem State.quarRoom_identity (s : State) (one : Bool) : (s.quarRoom.spPort one).identity = (s.spPort one).identity := by
  unfold State.quarRoom
  split
  · rfl
  · split
    · rw [State.spPort_modPeer]
      split <;> rfl
    · rfl

theorem State.quarRoom_only (s : State) : Only [.sp] s s.quarRoom := by
  unfold State.quarRoom
  split
  · exact (Keeps.refl s).only
  · split
    next q _ =>
      have hdrop : Only [.sp] s { s with sp := { s.sp with quar := s.sp.quar.filter (· ≠ q) } } := ⟨fun g hg => by
        cases g with
        | sp => exact absurd (by decide) hg
        | _ => rfl⟩
      exact hdrop.trans (State.modPeer_only _ _ _)
    · exact (Keeps.refl s).only

/-- A port whose peer is quarantined. -/
def SpanPort.barred (reason : Nat) (p : SpanPort) : SpanPort := { p with
  st := 6, qreason := reason, probe := none, fDelay := 0, fOffset := 0, fRate := 0, fLoop := 0, auth := [], replay := [], ident := [] }

/-- An identity on the list, with its expiry and the length that a second quarantine doubles. -/
def State.bar (s : State) (id : BitVec 64) (len reason : Nat) : State :=
  { s with sp := { s.sp with
    quar := (s.sp.quar.filter fun (q : Quar) => decide (q.id ≠ id)) ++ [(⟨id, s.now + len, len, reason⟩ : Quar)]
    past := (id, s.now, len) :: s.sp.past.filter fun (e : BitVec 64 × Nat × Nat) => decide (e.1 ≠ id) } }

theorem State.quarantine_eq {s : State} {one : Bool} {id : BitVec 64} {m : Bool} (reason : Nat) (h : (s.spPort one).peer = some (id, m)) :
    ∃ len, s.quarantine one reason = (((s.quarRoom.bar id len reason).modPeer id (SpanPort.barred reason)).raise evSpanQuarantine
      (b2n one + at_ reason 4)).reselect := by
  unfold State.quarantine
  rw [h]
  exact ⟨_, rfl⟩

theorem State.bar_only (s : State) (id : BitVec 64) (len reason : Nat) : Only [.sp] s (s.bar id len reason) := ⟨fun g hg => by
  cases g with
  | sp => exact absurd (by decide) hg
  | _ => rfl⟩

theorem State.quarantine_spec {s : State} {one : Bool} {id : BitVec 64} {m : Bool} (reason : Nat) (h : (s.spPort one).peer = some (id, m)) :
    ((s.quarantine one reason).spPort one).st = 6 ∧ ((s.quarantine one reason).spPort one).qreason = reason ∧
      (s.quarantine one reason).quarantined id = true ∧ ((s.quarantine one reason).spPort one).authRej = (s.spPort one).authRej ∧
      (s.quarantine one reason).ev = (s.raise evSpanQuarantine (b2n one + at_ reason 4)).ev := by
  obtain ⟨len, heq⟩ := State.quarantine_eq reason h
  have hid := s.quarRoom_identity one
  have hroom := s.quarRoom_only
  rw [heq]
  have hroompeer : (s.quarRoom.spPort one).peer = (s.spPort one).peer := congrArg Prod.fst hid
  generalize s.quarRoom = u at *
  have hbar := u.bar_only id len reason
  have hport : (u.bar id len reason).spPort one = u.spPort one := by cases one <;> rfl
  have hlist : (u.bar id len reason).quarantined id = true :=
    List.any_eq_true.2 ⟨⟨id, u.now + len, len, reason⟩, List.mem_append_right _ List.mem_cons_self, decide_eq_true rfl⟩
  generalize u.bar id len reason = v at *
  have hpeer : (v.spPort one).peer.map (·.1) = some id := by
    rw [hport, hroompeer, h]
    rfl
  have hbarred : (v.modPeer id (SpanPort.barred reason)).spPort one = (v.spPort one).barred reason :=
    (v.spPort_modPeer id _ one).trans (if_pos hpeer)
  have hlist' : (v.modPeer id (SpanPort.barred reason)).quarantined id = true :=
    (State.quarantined_congr (State.modPeer_quar _ _ _) id).trans hlist
  have hmod := v.modPeer_only id (SpanPort.barred reason)
  generalize v.modPeer id (SpanPort.barred reason) = w at *
  have honly : Only [.sp] s w := hroom.trans (hbar.trans hmod)
  have hraise := Keeps.raise_keeps (List.Subset.refl _) (Keeps.refl w) evSpanQuarantine (b2n one + at_ reason 4)
  have hev := State.raise_ev_congr (s := s) (t := w) evSpanQuarantine (b2n one + at_ reason 4)
    (congrArg Sys.epoch (honly.same .sys (by decide))) (congrArg Sys.erg (honly.same .sys (by decide))) (honly.same .ev (by decide))
  generalize w.raise evSpanQuarantine (b2n one + at_ reason 4) = x at *
  have hx : x.spPort one = (v.spPort one).barred reason := (State.spPort_congr (hraise.only.same .sp (by decide)) one).trans hbarred
  have hself := x.spPort_reselect one
  rw [hx] at hself
  refine ⟨hself.state rfl (by decide), hself.field SpanPort.qreason fun _ _ _ => rfl, ?_, (hself.field SpanPort.authRej fun _ _ _ => rfl).trans ?_,
    (x.reselect_keeps.only.same .ev (by decide)).trans hev⟩
  · exact (State.quarantined_congr ((State.reselect_quar x).trans (congrArg Sp.quar (hraise.only.same .sp (by decide)))) id).trans hlist'
  · exact (congrArg SpanPort.authRej hport).trans (congrArg Prod.snd hid)

theorem rejectedFrame_mac_more (port : Fin 2) (f : Frame) (id : BitVec 64) (m : Bool) (s : State)
    (htakes : s.takes (decide (port.val = 1)) = true) (hfault : (s.spPort (decide (port.val = 1))).fault f = some .mac)
    (hhit : (s.failList (s.spPort (decide (port.val = 1))).auth).2 = true) (hpeer : (s.spPort (decide (port.val = 1))).peer = some (id, m)) :
    let one := decide (port.val = 1)
    let p := s.spPort one
    ∃ t, exec (.rejectedFrame port f .mac) s = .next t ∧ (t.spPort one).st = 6 ∧ (t.spPort one).qreason = 1 ∧ t.quarantined id = true ∧
      (t.spPort one).authRej = sat16 p.authRej 1 ∧ t.ev = (s.raise evSpanQuarantine (b2n one + 16)).ev ∧ Only [.et, .sp, .ev] s t := by
  intro one p
  have hrun : exec (.rejectedFrame port f .mac) s = .next ((s.noteMac one).quarantine one 1) := by
    rw [exec_rejectedFrame htakes hfault, s.rejectFrame_mac, if_pos hhit]
  have hnote : (s.noteMac one).spPort one = { p with authRej := sat16 p.authRej 1, auth := (s.failList p.auth).1 } := s.spPort_modSp one _
  obtain ⟨hst, hreason, hquar, hrej, hev⟩ := State.quarantine_spec 1 ((congrArg SpanPort.peer hnote).trans hpeer)
  refine ⟨_, hrun, hst, hreason, hquar, hrej.trans (congrArg SpanPort.authRej hnote), hev.trans ?_, exec_only hrun⟩
  exact State.raise_ev_congr _ _ (congrArg Sys.epoch (s.modSp_sys one _)) (congrArg Sys.erg (s.modSp_sys one _)) (s.modSp_ev one _)

/-! ### Measurements deferred -/

/-- A deferred measurement is counted, and told once in a second (R413). -/
def State.noteDeferred (s : State) (say : Bool) : State :=
  ({ s with sp := { s.sp with
    deferred := if say then 0 else s.sp.deferred + 1, deferAt := if say then some s.now else s.sp.deferAt } } : State).raiseIf say
    evSpanDeferred (s.sp.deferred + 1)

/-- EV_SPAN_DEFERRED is due. -/
def State.deferDue (s : State) : Bool := match s.sp.deferAt with
  | some t => decide (t + secondNs ≤ s.now)
  | none => true

theorem exec_measurementDeferred {port : Fin 2} {x : Nat × Int × Nat} {s : State} (h : (s.spPort (decide (port.val = 1))).probe = some x) :
    exec (.measurementDeferred port) s = .next ((s.modSp (decide (port.val = 1)) fun p => { p with probe := none }).noteDeferred
      (s.modSp (decide (port.val = 1)) fun p => { p with probe := none }).deferDue) := by
  have hexec : exec (.measurementDeferred port) s = execMeasurementDeferred port s := rfl
  rw [hexec]
  unfold execMeasurementDeferred
  dsimp only
  rw [h]
  rfl

theorem State.noteDeferred_spec (s : State) (say one : Bool) : (s.noteDeferred say).spPort one = s.spPort one ∧
    (s.noteDeferred say).sp.deferred = (if say then 0 else s.sp.deferred + 1) ∧
    (s.noteDeferred say).sp.deferAt = (if say then some s.now else s.sp.deferAt) ∧
    (s.noteDeferred say).ev = (if say then (s.raise evSpanDeferred (s.sp.deferred + 1)).ev else s.ev) := by
  cases say
  · exact ⟨by cases one <;> rfl, rfl, rfl, rfl⟩
  · have hset : (s.noteDeferred true).sp = { s.sp with deferred := 0, deferAt := some s.now } :=
      (Keeps.raise_keeps (List.Subset.refl _) (Keeps.refl ({ s with sp := { s.sp with deferred := 0, deferAt := some s.now } } : State))
        evSpanDeferred (s.sp.deferred + 1)).only.same .sp (by decide)
    have hev : (s.noteDeferred true).ev = (s.raise evSpanDeferred (s.sp.deferred + 1)).ev :=
      State.raise_ev_congr (t := { s with sp := { s.sp with deferred := 0, deferAt := some s.now } })
        evSpanDeferred (s.sp.deferred + 1) rfl rfl rfl
    refine ⟨?_, (congrArg Sp.deferred hset :), (congrArg Sp.deferAt hset :), hev⟩
    cases one
    · exact (congrArg Sp.p0 hset :)
    · exact (congrArg Sp.p1 hset :)

theorem measurementDeferred_spec (port : Fin 2) (x : Nat × Int × Nat) (s : State)
    (hprobe : (s.spPort (decide (port.val = 1))).probe = some x) :
    let one := decide (port.val = 1)
    ∃ t, exec (.measurementDeferred port) s = .next t ∧ t.spPort one = { s.spPort one with probe := none } ∧
      (s.sp.deferAt = none → t.sp.deferred = 0 ∧ t.sp.deferAt = some s.now ∧ t.ev = (s.raise evSpanDeferred (s.sp.deferred + 1)).ev) ∧
      (∀ a, s.sp.deferAt = some a → s.now < a + 1000000000 → t.sp.deferred = s.sp.deferred + 1 ∧ t.sp.deferAt = some a ∧ t.ev = s.ev) ∧
      Only [.sp, .ev] s t := by
  intro one
  have hrun := exec_measurementDeferred hprobe
  have hport : (s.modSp one fun p => { p with probe := none }).spPort one = { s.spPort one with probe := none } := s.spPort_modSp one _
  have hcount : (s.modSp one fun p => { p with probe := none }).sp.deferred = s.sp.deferred ∧
      (s.modSp one fun p => { p with probe := none }).sp.deferAt = s.sp.deferAt := by cases one <;> exact ⟨rfl, rfl⟩
  have honly := s.modSp_only one fun p => { p with probe := none }
  change exec (.measurementDeferred port) s = .next ((s.modSp one fun p => { p with probe := none }).noteDeferred
      (s.modSp one fun p => { p with probe := none }).deferDue) at hrun
  generalize (s.modSp one fun p => { p with probe := none }) = u at *
  obtain ⟨hself, hdeferred, hat, hev⟩ := u.noteDeferred_spec u.deferDue one
  obtain ⟨hn, ht⟩ := hcount
  have hnow : u.now = s.now := congrArg Sys.erg (honly.same .sys (by decide))
  refine ⟨_, hrun, hself.trans hport, fun hnone => ?_, fun a ha hsoon => ?_, exec_only hrun⟩
  · have hdue : u.deferDue = true := by simp only [State.deferDue, ht, hnone]
    rw [hdue] at hdeferred hat hev ⊢
    refine ⟨hdeferred, hat.trans (congrArg some hnow), hev.trans ?_⟩
    rw [if_pos rfl, hn]
    exact State.raise_ev_congr _ _ (congrArg Sys.epoch (honly.same .sys (by decide))) (congrArg Sys.erg (honly.same .sys (by decide)))
      (honly.same .ev (by decide))
  · have hdue : u.deferDue = false := by
      simp only [State.deferDue, ht, ha, hnow]
      exact decide_eq_false (not_le.2 hsoon)
    rw [hdue] at hdeferred hat hev ⊢
    exact ⟨hdeferred.trans (congrArg (· + 1) hn), hat.trans (ht.trans ha), hev.trans (honly.same .ev (by decide))⟩

/-- Settles O48: a frame that verifies gives its SEQ and an ANNOUNCE its peer's rank, a PROBE is answered within 20 us, a REPLY within its bounds is a
measurement, and failures of frames and measurements are counted up to the quarantine of their peer. -/
theorem spanFrames : Obligations.SpanFrames := by
  refine ⟨fun port f s => ?announce, fun port f s => ?announceRejected, fun port f k s => ?probe, fun port f n t1 a s => ?reply,
    fun port k s => ?announceSent, fun port k s => ?probeSent, fun port s => ?timeout, fun port f s => ?mac, fun port f s => ?identity,
    fun port x s => ?deferred⟩
  case announce =>
    intro one p htakes hfault htype hclass hsteps hloop
    exact announce_spec port f s htakes hfault htype hclass hsteps hloop
  case announceRejected =>
    intro one p htakes hfault htype hbad hfew
    exact announce_rejected port f s htakes hfault htype hbad hfew
  case probe =>
    intro one htakes hstamps hfault htype hkey
    exact probe_spec port f k s htakes hstamps hfault htype hkey
  case reply =>
    intro one p htakes hstamps hfault htype hboot hprobe hseq hstamp hearly t2 t3 d o
    exact ⟨fun hdelay hoffset hrate => reply_accepted htakes hstamps hfault htype hboot hprobe hseq hstamp hearly hdelay hoffset hrate,
      fun hdelay hfew => reply_late htakes hstamps hfault htype hboot hprobe hseq hstamp hearly hdelay hfew⟩
  case announceSent =>
    intro one hsends hkey hdue
    exact announceTransmit_spec port k s hsends hkey hdue
  case probeSent =>
    intro one p hsends hkey hheard hdue
    exact probeTransmit_spec port k s hsends hkey hheard hdue
  case timeout =>
    intro one p hheard hann hnone
    exact peerAnnounceTimeout_spec port s hheard hann hnone
  case mac =>
    intro one p htakes hfault
    refine ⟨fun hfew => ?_, fun id m hhit hpeer => rejectedFrame_mac_more port f id m s htakes hfault hhit hpeer⟩
    have hrun : exec (.rejectedFrame port f .mac) s = .next (s.noteMac one) := by
      rw [exec_rejectedFrame htakes hfault, s.rejectFrame_mac, if_neg (by rw [hfew]; decide)]
    exact ⟨_, hrun, s.spPort_modSp one _, s.spPort_modSp_not one _, s.modSp_only one _⟩
  case identity =>
    intro one p htakes hfault hfew
    have hrun : exec (.rejectedFrame port f .identity) s = .next (s.noteIdentity one) := by
      rw [exec_rejectedFrame htakes hfault, s.rejectFrame_identity, if_neg (by rw [hfew]; decide)]
    exact ⟨_, hrun, s.spPort_modSp one _, s.modSp_only one _⟩
  case deferred =>
    intro one hprobe
    exact measurementDeferred_spec port x s hprobe

end Sys2Proof.Machine
end

section
/-! SUPPORT. What a step of one region leaves of the others and of its own fields (R42-R48). -/
namespace Sys2Proof.Machine
open Sys2Proof.Safety

/-- From s to t no region but r has changed, and r keeps what `p` reads of it. -/
structure State.InRegion {α : Type} (r : RegionNo) (p : Region → α) (s t : State) : Prop where
  others : ∀ k, k ≠ r → t.rgn k = s.rgn k
  self : p (t.rgn r) = p (s.rgn r)
  regular : Regular t

section InRegion
variable {α : Type} {r : RegionNo} {p : Region → α} {o s t : State}

theorem State.InRegion.refl (h : Regular s) : State.InRegion r p s s := ⟨fun _ _ => rfl, rfl, h⟩

theorem State.InRegion.trans (h : State.InRegion r p o s) (k : State.InRegion r p s t) : State.InRegion r p o t :=
  ⟨fun q hq => (k.others q hq).trans (h.others q hq), k.self.trans h.self, k.regular⟩

/-- A step that leaves the regions. -/
theorem State.InRegion.step {gs : List Group} (h : State.InRegion r p o s) (k : Keeps gs s t) (hreg : Group.reg ∉ gs := by decide) :
    State.InRegion r p o t :=
  h.trans ⟨fun q _ => State.rgn_congr (k.only.same .reg hreg) q, congrArg p (State.rgn_congr (k.only.same .reg hreg) r),
    k.regular h.regular⟩

theorem State.InRegion.modRgn (h : State.InRegion r p o s) {f : Region → Region} (hf : p (f (s.rgn r)) = p (s.rgn r)) :
    State.InRegion r p o (s.modRgn r f) := by
  refine h.trans ⟨fun k hk => s.rgn_modRgn_ne f hk, ?_, (Keeps.modRgn_keeps (List.Subset.refl _) (Keeps.refl s) r f).regular h.regular⟩
  rw [s.rgn_modRgn r f h.regular.regions, hf]

theorem State.InRegion.ite {c : Prop} [Decidable c] (hs : State.InRegion r p o s) (ht : State.InRegion r p o t) :
    State.InRegion r p o (if c then s else t) := by
  split
  · exact hs
  · exact ht

theorem State.InRegion.foldl {β : Type} {f : State → β → State} (l : List β) (hf : ∀ t x, State.InRegion r p o t → State.InRegion r p o (f t x))
    (h : State.InRegion r p o s) : State.InRegion r p o (l.foldl f s) :=
  List.foldlRecOn l f h fun t ht x _ => hf t x ht

/-- A region but for what forms its ledger records and for what its crossings hold: both move without its periods. -/
theorem State.InRegion.forms (hp : ∀ g h : Region, g.core = h.core → p g = p h) (h : State.InRegion r p o s) (k : State.Forms r s t)
    (hregular : Regular t) : State.InRegion r p o t := by
  refine h.trans ⟨k.others, hp _ _ ?_, hregular⟩
  have hcore : ({ t.rgn r with former := (s.rgn r).former } : Region).core = (s.rgn r).core := congrArg Region.core k.region
  exact hcore

theorem State.Forms.of_regular (h : Regular s) : State.Forms r s s := .refl h.regions h.crossings

theorem State.InRegion.pump (hp : ∀ g h : Region, g.core = h.core → p g = p h) (h : State.InRegion r p o s) :
    State.InRegion r p o (s.pump r) := by
  have k := (State.CoreKept.refl (s := s) h.regular.regions).pump r
  exact h.trans ⟨fun q hq => State.rgn_pump_ne s hq, hp _ _ (k.region r),
    (Keeps.pump_keeps (List.Subset.refl _) (Keeps.refl s) r).regular h.regular⟩

theorem State.InRegion.sendMsg (hp : ∀ g h : Region, g.core = h.core → p g = p h) (h : State.InRegion r p o s) (m : Msg) :
    State.InRegion r p o (s.sendMsg r m) := by
  have k := (State.CoreKept.refl (s := s) h.regular.regions).sendMsg r m
  exact h.trans ⟨fun q hq => State.rgn_sendMsg_ne s m hq, hp _ _ (k.region r),
    (Keeps.sendMsg_keeps (List.Subset.refl _) (Keeps.refl s) r m).regular h.regular⟩

theorem State.InRegion.sendTarget (h : State.InRegion r p o s) (v w : Nat) : State.InRegion r p o (s.sendTarget r v w) :=
  h.step (Keeps.sendTarget_keeps (List.Subset.refl _) (Keeps.refl s) r v w)

theorem State.InRegion.sendNote (h : State.InRegion r p o s) (n : Note) : State.InRegion r p o (s.sendNote r n) :=
  h.step (Keeps.sendNote_keeps (List.Subset.refl _) (Keeps.refl s) r n)

end InRegion

/-- A region but for what its crossings and its record former hold, and for what a budget's check counts. -/
def Region.unspent (g : Region) : Region := { g.core with overCnt := 0, win_ := { g.win_ with spent := false } }

theorem Region.unspent_of_core {g h : Region} (k : g.core = h.core) : g.unspent = h.unspent := by
  have e (x : Region) : x.unspent = x.core.unspent := rfl
  rw [e g, e h, k]

theorem State.InRegion.budgetCheck {α : Type} {r : RegionNo} {p : Region → α} {o s : State}
    (hp : ∀ g h : Region, g.unspent = h.unspent → p g = p h) (h : State.InRegion r p o s) (cycle : Nat) :
    State.InRegion r p o (s.budgetCheck r cycle) := by
  unfold State.budgetCheck
  dsimp only
  split
  · have hspent : State.InRegion r p o (s.modRgn r fun g => { g with win_ := { g.win_ with spent := true }, overCnt := sat16 g.overCnt 1 }) :=
      h.modRgn (hp _ _ (by exact rfl))
    split
    · exact hspent
    · exact (hspent.modRgn (hp _ _ (by exact rfl))).step (Keeps.raise_keeps (List.Subset.refl _) (Keeps.refl _) _ _)
  · exact h

/-- What a period's end leaves of the words that its crossings and its registers bring, of its counts and of what it has told. -/
def Region.ticked (g : Region) : Region :=
  { g.core with
    ws := none, minCode := 0, vref := 0, fl := {}, regs := {}, symEn := 0, sym := [], cnt := {}, wsDue := false
    noted := none, stopSaid := false, overCnt := 0
    win_ := { g.win_ with spent := false, range := false, aheadR := false } }

theorem Region.ticked_of_core {g h : Region} (k : g.core = h.core) : g.ticked = h.ticked := by
  have e (x : Region) : x.ticked = x.core.ticked := rfl
  rw [e g, e h, k]

theorem Region.ticked_of_unspent {g h : Region} (k : g.unspent = h.unspent) : g.ticked = h.ticked := by
  have e (x : Region) : x.ticked = x.unspent.ticked := rfl
  rw [e g, e h, k]

/-- A region but for what its crossings and its record former hold, and for its working set. -/
def Region.unset (g : Region) : Region :=
  { g.core with ws := none, minCode := 0, vref := 0, wsDue := false, fl := { g.fl with rangeA := 0, biasA := 0, rangeB := 0, biasB := 0 } }

theorem Region.unset_of_core {g h : Region} (k : g.core = h.core) : g.unset = h.unset := by
  have e (x : Region) : x.unset = x.core.unset := rfl
  rw [e g, e h, k]

theorem Region.ticked_of_unset {g h : Region} (k : g.unset = h.unset) : g.ticked = h.ticked := by
  have e (x : Region) : x.ticked = x.unset.ticked := rfl
  rw [e g, e h, k]

@[simp] theorem Region.unset_load (g : Region) (oscB : Bool) (c : Nat) : (g.load oscB c).unset = g.unset := by
  unfold Region.load
  split
  · rfl
  · dsimp only
    split
    · rfl
    · rfl

@[simp] theorem Region.unset_takeSet (g : Region) (w : WorkSet) (vref : Nat) : (g.takeSet w vref).unset = g.unset := by
  unfold Region.takeSet
  dsimp only
  split
  · rw [Region.unset_load]
    rfl
  · rfl

section Unset
variable {α : Type} {r : RegionNo} {p : Region → α} {o s t : State} (hp : ∀ g h : Region, g.unset = h.unset → p g = p h)
include hp

theorem State.InRegion.takeMsg (h : State.InRegion r p o s) : State.InRegion r p o (s.takeMsg r) := by
  have hcore (g h : Region) (k : g.core = h.core) : p g = p h := hp _ _ (Region.unset_of_core k)
  unfold State.takeMsg
  split
  · exact (h.modRgn (hp _ _ (by exact rfl))).pump hcore
  · exact (h.modRgn (hp _ _ (by exact rfl))).pump hcore
  · next w v since htx =>
    refine (h.modRgn (hp _ _ ?_)).pump hcore
    exact Region.unset_takeSet _ w v
  · exact h
  · exact h.pump hcore

theorem State.InRegion.workingSet (h : State.InRegion r p o s) : State.InRegion r p o (s.workingSet r) := by
  have hcore (g h : Region) (k : g.core = h.core) : p g = p h := hp _ _ (Region.unset_of_core k)
  unfold State.workingSet
  dsimp only
  split
  · exact h
  · exact .ite (.ite ((h.modRgn (hp _ _ (by exact rfl))).sendMsg hcore _) (h.modRgn (hp _ _ (by exact rfl)))) h

theorem State.InRegion.calset (h : State.InRegion r p o s) : State.InRegion r p o (s.calset r) := by
  unfold State.calset
  exact (h.workingSet hp).ite h

end Unset

section Ticked
variable {α : Type} {r : RegionNo} {p : Region → α} {o s t : State} (hp : ∀ g h : Region, g.ticked = h.ticked → p g = p h)
include hp

theorem State.InRegion.saysTarget (h : State.InRegion r p o s) : State.InRegion r p o (s.saysTarget r) := by
  unfold State.saysTarget
  dsimp only
  split
  · exact h
  · split
    · exact h.modRgn (hp _ _ (by exact rfl))
    · exact (h.modRgn (hp _ _ (by exact rfl))).sendTarget _ _

theorem State.InRegion.saysStop (h : State.InRegion r p o s) : State.InRegion r p o (s.saysStop r) := by
  unfold State.saysStop
  dsimp only
  split
  · split
    · exact (h.modRgn (hp _ _ (by exact rfl))).sendNote _
    · exact h
  · exact h

theorem State.InRegion.carry (h : State.InRegion r p o s) : State.InRegion r p o (s.carry r) := by
  unfold State.carry
  exact (h.modRgn (hp _ _ (by exact rfl))).ite h

theorem State.InRegion.periodTick (h : State.InRegion r p o s) :
    State.InRegion r p o (if s.wordsCrossed r then State.relane s (s.modRgn r Region.periodTick) r else s) :=
  .ite ((h.modRgn (hp _ _ (by exact rfl))).step (Keeps.relane_keeps (List.Subset.refl _) (Keeps.refl _) r)) h

end Ticked

end Sys2Proof.Machine

namespace Sys2Proof.Machine
open Sys2Proof.Safety

/-! ### A period's end -/

theorem State.Forms.formPeriod {r : RegionNo} {o s : State} (h : State.Forms r o s) (cycle v : Nat) : State.Forms r o (s.formPeriod r cycle v) := by
  unfold State.formPeriod
  refine State.Forms.modFormer ?_ fun x e he => ?_
  · have hflush := h.flushTarget
    dsimp only
    split
    · exact hflush.modFormer fun _ _ hy => hy
    · split
      · split
        · exact hflush.modFormer fun _ _ hy => hy
        · have hclose := hflush.closeRun
          split
          · exact hclose.modFormer fun _ _ hy => hy
          · split
            · exact hclose.modFormer fun _ _ hy => hy
            · exact hclose
      · split
        · exact hflush.emitStretch _ _ _
        · exact hflush
  · split <;> exact he

/-- The region as its period ends, before anything is told: edge, cycle, levels, stretch (R42-R47). -/
def Region.lengthened (g : Region) (edge v lvl : Nat) : Region :=
  { g with
    edge := edge, cycle := g.cycle + 1, sLast := v
    sl := { g.sl with l2 := g.sl.l1, l1 := lvl }
    stretchCnt := if v = 0 then g.stretchCnt else g.stretchCnt + 1 }

/-- The effective stretch of a period: the largest of the taps, the loop's and the sympathetic (R42, R48). -/
def Region.stretchOf (g : Region) (taps : Nat) : Nat := min 48 (max (min 48 taps) (max g.sl.s g.sSym))

/-- The edge that ends a period. -/
def Region.endEdge (g : Region) (taps : Nat) : Nat := g.edge + g.tg + g.stretchOf taps * sixteenth g.nominal

/-- The period ends past the region's window. -/
def Region.endsAhead (g : Region) (taps : Nat) : Bool := decide (winOfQ (g.endEdge taps) ≠ g.win)

/-- The region with the period that has ended in its window's accounts (R51). -/
def Region.accounted (g : Region) (taps vmin : Nat) : Region :=
  let h := g.lengthened (g.endEdge taps) (g.stretchOf taps) (g.trip vmin)
  { h with win_ := h.win_.take (g.endsAhead taps) (g.stretchOf taps * sixteenth g.nominal) (g.stretchOf taps) (g.trip vmin) }

/-- The state with the period accounted for (R42-R51). -/
def State.periodTaken (s : State) (r : RegionNo) (taps vmin : Nat) (offers : List (Option Nat)) : State :=
  let g := s.rgn r
  ((s.lanePeriod r offers).modRgn r fun x => x.lengthened (g.endEdge taps) (g.stretchOf taps) (g.trip vmin)).modRgn r fun x =>
    { x with win_ := x.win_.take (g.endsAhead taps) (g.stretchOf taps * sixteenth g.nominal) (g.stretchOf taps) (g.trip vmin) }

/-- The state with the window's budget and an overrange checked (R44, R51). -/
def State.periodChecked (s : State) (r : RegionNo) (g : Region) (taps : Nat) : State :=
  let s := if g.endsAhead taps then s else s.budgetCheck r g.cycle
  if 48 < taps then s.overrange r (g.endsAhead taps) else s

/-- The state with the period's records formed, its counts carried and its register words in force. -/
def State.periodFormed (s : State) (r : RegionNo) (g : Region) (taps vmin : Nat) : State :=
  let s := if g.rep.found then s.formPeriod r g.cycle (g.stretchOf taps) else s
  let s := s.flushMark r
  let s := s.modRgn r fun x => { x with cnt := { x.cnt with trips := (x.cnt.trips + b2n (decide (0 < g.trip vmin))) % 65536 } }
  let s := s.carry r
  if s.wordsCrossed r then State.relane s (s.modRgn r Region.periodTick) r else s

/-- The state with what the next period's start takes in and tells. -/
def State.periodTold (s : State) (r : RegionNo) : State := (((s.takeMsg r).calset r).saysTarget r).saysStop r

theorem execRegionPeriodEnd_eq {r : RegionNo} {s : State} (hclock : s.clocked r = true) (hstop : (s.rgn r).stop = none) (taps vmin : Nat)
    (offers : List (Option Nat)) : execRegionPeriodEnd r taps vmin s offers =
      .next (((((s.periodTaken r taps vmin offers).periodChecked r (s.rgn r) taps).periodFormed r (s.rgn r) taps vmin).remargin r 1).periodTold r) := by
  rw [execRegionPeriodEnd, if_neg (by simp [hclock, hstop])]
  rfl

theorem State.periodTaken_rgn {s : State} (h : Regular s) (r : RegionNo) (taps vmin : Nat) (offers : List (Option Nat)) :
    (s.periodTaken r taps vmin offers).rgn r = (s.rgn r).accounted taps vmin := by
  have k := Keeps.lanePeriod_keeps (List.Subset.refl _) (Keeps.refl s) r offers
  have hr : (s.lanePeriod r offers).rgn r = s.rgn r := State.rgn_congr (k.only.same .reg (by decide)) r
  have hwf := (k.regular h).regions
  rw [State.periodTaken, State.rgn_modRgn _ _ _ (State.modRgn_wf _ _ _ hwf), State.rgn_modRgn _ _ _ hwf, hr]
  rfl

theorem State.periodTaken_inRegion {s : State} (h : Regular s) (r : RegionNo) (taps vmin : Nat) (offers : List (Option Nat)) :
    State.InRegion r (fun _ => ()) s (s.periodTaken r taps vmin offers) := by
  have hlanes : State.InRegion r (fun _ => ()) s (s.lanePeriod r offers) :=
    (State.InRegion.refl h).step (Keeps.lanePeriod_keeps (List.Subset.refl _) (Keeps.refl s) r offers)
  unfold State.periodTaken
  dsimp only
  exact (hlanes.modRgn (by exact rfl)).modRgn (by exact rfl)

theorem State.overrange_inRegion {α : Type} {r : RegionNo} {p : Region → α} {o s : State}
    (hp : ∀ g h : Region, { g.ticked with rangeCnt := 0 } = { h.ticked with rangeCnt := 0 } → p g = p h) (h : State.InRegion r p o s)
    (ahead : Bool) : State.InRegion r p o (s.overrange r ahead) := by
  unfold State.overrange
  dsimp only
  exact (h.modRgn (hp _ _ (by exact rfl))).step (Keeps.raiseIf_keeps (List.Subset.refl _) (Keeps.refl _) _ _ _)

theorem State.overrange_rangeCnt {s : State} (h : Regular s) (r : RegionNo) (ahead : Bool) :
    ((s.overrange r ahead).rgn r).rangeCnt = sat16 (s.rgn r).rangeCnt 1 := by
  unfold State.overrange
  dsimp only
  have k := Keeps.raiseIf_keeps (gs := [.ev]) (List.Subset.refl _) (Keeps.refl (s.modRgn r fun g => { g with
    rangeCnt := sat16 g.rangeCnt 1
    win_ := { g.win_ with range := g.win_.range || !ahead, aheadR := g.win_.aheadR || ahead } }))
  rw [State.rgn_congr ((k _ _ _).only.same .reg (by decide)), s.rgn_modRgn _ _ h.regions]

/-- What the checks leave: all but the counts of overranges and of windows over budget. -/
theorem State.periodChecked_inRegion {s : State} (h : Regular s) (r : RegionNo) (g : Region) (taps : Nat) :
    State.InRegion r (fun x => { x.ticked with rangeCnt := 0 }) s (s.periodChecked r g taps) := by
  have hbudget : State.InRegion r (fun x => { x.ticked with rangeCnt := 0 }) s
      (if g.endsAhead taps then s else s.budgetCheck r g.cycle) :=
    .ite (.refl h) ((State.InRegion.refl h).budgetCheck (fun x y k => by rw [Region.ticked_of_unspent k]) _)
  unfold State.periodChecked
  exact .ite (State.overrange_inRegion (fun _ _ k => k) hbudget _) hbudget

theorem State.periodChecked_rangeCnt {s : State} (h : Regular s) (r : RegionNo) (g : Region) (taps : Nat) :
    ((s.periodChecked r g taps).rgn r).rangeCnt = if 48 < taps then sat16 (s.rgn r).rangeCnt 1 else (s.rgn r).rangeCnt := by
  have hbudget : State.InRegion r (fun x => x.ticked.rangeCnt) s (if g.endsAhead taps then s else s.budgetCheck r g.cycle) :=
    .ite (.refl h) ((State.InRegion.refl h).budgetCheck (fun x y k => by rw [Region.ticked_of_unspent k]) _)
  have hkept := hbudget.self
  unfold State.periodChecked
  dsimp only
  split
  · rw [State.overrange_rangeCnt hbudget.regular]
    exact congrArg (sat16 · 1) hkept
  · exact hkept

theorem State.periodFormed_inRegion {α : Type} {r : RegionNo} {p : Region → α} {o s : State}
    (hp : ∀ g h : Region, g.ticked = h.ticked → p g = p h) (h : State.InRegion r p o s) (g : Region) (taps vmin : Nat) :
    State.InRegion r p o (s.periodFormed r g taps vmin) := by
  have hcore (g h : Region) (k : g.core = h.core) : p g = p h := hp _ _ (Region.ticked_of_core k)
  have hform : State.InRegion r p o (if g.rep.found then s.formPeriod r g.cycle (g.stretchOf taps) else s) :=
    .ite (h.forms hcore ((State.Forms.of_regular h.regular).formPeriod _ _)
      ((Keeps.formPeriod_keeps (List.Subset.refl _) (Keeps.refl s) r _ _).regular h.regular)) h
  have hmark := hform.forms hcore (State.Forms.of_regular hform.regular).flushMark
    ((Keeps.flushMark_keeps (List.Subset.refl _) (Keeps.refl _) r).regular hform.regular)
  unfold State.periodFormed
  exact ((hmark.modRgn (hp _ _ (by exact rfl))).carry hp).periodTick hp

theorem State.periodTold_inRegion {α : Type} {r : RegionNo} {p : Region → α} {o s : State}
    (hp : ∀ g h : Region, g.ticked = h.ticked → p g = p h) (h : State.InRegion r p o s) : State.InRegion r p o (s.periodTold r) := by
  have hset (g h : Region) (k : g.unset = h.unset) : p g = p h := hp _ _ (Region.ticked_of_unset k)
  exact (((h.takeMsg hset).calset hset).saysTarget hp).saysStop hp

/-- A region but for its target and the margin of FIXED. -/
def Region.untargeted (g : Region) : Region := { g.ticked with tg := 0, sl := { g.sl with margin := 0 } }

theorem Region.untargeted_of_ticked {g h : Region} (k : g.ticked = h.ticked) : g.untargeted = h.untargeted := by
  have e (x : Region) : x.untargeted = x.ticked.untargeted := rfl
  rw [e g, e h, k]

theorem State.InRegion.remargin {α : Type} {r : RegionNo} {p : Region → α} {o s : State}
    (hp : ∀ g h : Region, g.untargeted = h.untargeted → p g = p h) (h : State.InRegion r p o s) (aux : Nat) :
    State.InRegion r p o (s.remargin r aux) := by
  have hcore (g h : Region) (k : g.core = h.core) : p g = p h := hp _ _ (Region.untargeted_of_ticked (Region.ticked_of_core k))
  unfold State.remargin
  dsimp only
  split
  · exact h
  · have hmod : State.InRegion r p o (s.modRgn r fun g => { g with tg := g.tg - g.sl.margin + g.margin, sl := { g.sl with margin := g.margin } }) :=
      h.modRgn (hp _ _ (by exact rfl))
    exact (hmod.forms hcore ((State.Forms.of_regular hmod.regular).markTarget _ _ _)
      ((Keeps.markTarget_keeps (List.Subset.refl _) (Keeps.refl _) r _ _ _).regular hmod.regular)).sendTarget _ _

/-- Outside FIXED, with no margin in force, there is none to change. -/
theorem State.remargin_none {s : State} {r : RegionNo} (hst : (s.rgn r).sl.st ≠ .fixed) (hmargin : (s.rgn r).sl.margin = 0) (aux : Nat) :
    s.remargin r aux = s := by
  rw [State.remargin]
  exact if_pos (by rw [Region.margin, if_neg hst, hmargin])

/-- The counts of overranges apart, what the checks leave of a region. -/
theorem Region.ticked_of_rangeCnt {g h : Region} (k : ({ g.ticked with rangeCnt := 0 } : Region) = { h.ticked with rangeCnt := 0 }) :
    g.ticked = ({ h with rangeCnt := g.rangeCnt } : Region).ticked := by
  calc g.ticked = ({ ({ g.ticked with rangeCnt := 0 } : Region) with rangeCnt := g.rangeCnt } : Region) := rfl
    _ = ({ ({ h.ticked with rangeCnt := 0 } : Region) with rangeCnt := g.rangeCnt } : Region) := by rw [k]
    _ = ({ h with rangeCnt := g.rangeCnt } : Region).ticked := rfl

theorem Region.accounted_quanta (g : Region) (taps vmin : Nat) :
    (winOfQ (g.endEdge taps) = g.win → (g.accounted taps vmin).win_.quanta = g.win_.quanta + g.stretchOf taps * sixteenth g.nominal ∧
      (g.accounted taps vmin).win_.aheadQ = g.win_.aheadQ) ∧
    (winOfQ (g.endEdge taps) ≠ g.win → (g.accounted taps vmin).win_.quanta = g.win_.quanta ∧
      (g.accounted taps vmin).win_.aheadQ = g.win_.aheadQ + g.stretchOf taps * sixteenth g.nominal) := by
  constructor
  · intro h
    have hahead : g.endsAhead taps = false := by rw [Region.endsAhead, decide_eq_false_iff_not, not_not, h]
    simp only [Region.accounted, WinAcc.take, hahead]
    exact ⟨rfl, rfl⟩
  · intro h
    have hahead : g.endsAhead taps = true := by rw [Region.endsAhead, decide_eq_true_iff]; exact h
    simp only [Region.accounted, WinAcc.take, hahead]
    exact ⟨rfl, rfl⟩

/-- A period that ends: everything after its accounts leaves them, and the target where no margin of FIXED is in force. -/
theorem execRegionPeriodEnd_spec {r : RegionNo} {s : State} (hs : Regular s) (hclock : s.clocked r = true) (hstop : (s.rgn r).stop = none)
    (taps vmin : Nat) (offers : List (Option Nat)) : ∃ t, execRegionPeriodEnd r taps vmin s offers = .next t ∧
      (t.rgn r).untargeted = ({ (s.rgn r).accounted taps vmin with
        rangeCnt := if 48 < taps then sat16 (s.rgn r).rangeCnt 1 else (s.rgn r).rangeCnt } : Region).untargeted ∧
      ((s.rgn r).sl.st ≠ .fixed → (s.rgn r).sl.margin = 0 → (t.rgn r).tg = (s.rgn r).tg) ∧
      (∀ k, k ≠ r → t.rgn k = s.rgn k) := by
  refine ⟨_, execRegionPeriodEnd_eq hclock hstop taps vmin offers, ?_⟩
  have htaken := s.periodTaken_inRegion hs r taps vmin offers
  have hrgn := s.periodTaken_rgn hs r taps vmin offers
  generalize s.periodTaken r taps vmin offers = s1 at htaken hrgn
  have hchecked := s1.periodChecked_inRegion htaken.regular r (s.rgn r) taps
  have hrange := s1.periodChecked_rangeCnt htaken.regular r (s.rgn r) taps
  generalize s1.periodChecked r (s.rgn r) taps = s2 at hchecked hrange
  have haccounts : (s2.rgn r).ticked = ({ (s.rgn r).accounted taps vmin with
      rangeCnt := if 48 < taps then sat16 (s.rgn r).rangeCnt 1 else (s.rgn r).rangeCnt } : Region).ticked := by
    rw [Region.ticked_of_rangeCnt hchecked.self, hrange, hrgn]
    rfl
  have hformed : State.InRegion r Region.ticked s2 (s2.periodFormed r (s.rgn r) taps vmin) :=
    State.periodFormed_inRegion (fun _ _ k => k) (.refl hchecked.regular) _ taps vmin
  generalize s2.periodFormed r (s.rgn r) taps vmin = s3 at hformed
  have hmargin : State.InRegion r Region.untargeted s3 (s3.remargin r 1) := (State.InRegion.refl hformed.regular).remargin (fun _ _ k => k) 1
  have htold : State.InRegion r Region.ticked (s3.remargin r 1) ((s3.remargin r 1).periodTold r) :=
    State.periodTold_inRegion (fun _ _ k => k) (.refl hmargin.regular)
  have hend : (s3.rgn r).ticked = _ := hformed.self.trans haccounts
  refine ⟨?_, fun hst hzero => ?_, fun k hk => ?_⟩
  · rw [Region.untargeted_of_ticked htold.self, hmargin.self, Region.untargeted_of_ticked hend]
  · have hst3 : (s3.rgn r).sl.st ≠ .fixed := by
      rw [show (s3.rgn r).sl.st = (s.rgn r).sl.st from (congrArg (fun g : Region => g.sl.st) hend :)]
      exact hst
    have hzero3 : (s3.rgn r).sl.margin = 0 := (congrArg (fun g : Region => g.sl.margin) hend :).trans hzero
    have htg : (((s3.remargin r 1).periodTold r).rgn r).tg = ((s3.remargin r 1).rgn r).tg := (congrArg Region.tg htold.self :)
    rw [htg, State.remargin_none hst3 hzero3]
    exact (congrArg Region.tg hend :)
  · rw [htold.others k hk, hmargin.others k hk, hformed.others k hk, hchecked.others k hk, htaken.others k hk]

/-- Settles O49: the period's accounts are the region's own fields, which neither its records nor what it takes in and tells touch. -/
theorem aPeriodEnds : Obligations.APeriodEnds := by
  unfold Obligations.APeriodEnds
  intro r taps vmin offers s hs hclock hstop g v e
  obtain ⟨t, hrun, hend, htg, hothers⟩ := execRegionPeriodEnd_spec hs hclock hstop taps vmin offers
  have hexec : exec (.regionPeriodEnd r taps vmin offers) s = .next t := hrun
  have hquanta := (s.rgn r).accounted_quanta taps vmin
  have hfield {β : Type} (f : Region → β) (hf : ∀ x : Region, f x.untargeted = f x) :
      f (t.rgn r) = f { (s.rgn r).accounted taps vmin with
        rangeCnt := if 48 < taps then sat16 (s.rgn r).rangeCnt 1 else (s.rgn r).rangeCnt } := by
    rw [← hf (t.rgn r), hend, hf]
  have hq := hfield (fun x => x.win_.quanta) (fun _ => rfl)
  have ha := hfield (fun x => x.win_.aheadQ) (fun _ => rfl)
  refine ⟨t, hexec, hfield (·.edge) fun _ => rfl, hfield (·.cycle) fun _ => rfl, hfield (·.sLast) fun _ => rfl,
    hfield (·.sl.l1) fun _ => rfl, hfield (·.sl.l2) fun _ => rfl, hfield (·.sl.s) fun _ => rfl, hfield (·.sl.st) fun _ => rfl,
    hfield (·.stretchCnt) fun _ => rfl, hfield (·.rangeCnt) fun _ => rfl, fun h => ?_, fun h => ?_, htg,
    hfield (·.nominal) fun _ => rfl, hfield (·.chan) fun _ => rfl, (hfield (·.stop) fun _ => rfl).trans hstop,
    hfield (·.pend) fun _ => rfl, hothers, exec_only hexec⟩
  · exact ⟨hq.trans (hquanta.1 h).1, ha.trans (hquanta.1 h).2⟩
  · exact ⟨hq.trans (hquanta.2 h).1, ha.trans (hquanta.2 h).2⟩

end Sys2Proof.Machine
end

section
/-! SUPPORT. The stretch loop at a period's start, and sympathetic stretch (R47-R54). -/
namespace Sys2Proof.Machine
open Sys2Proof.Safety

theorem State.setLoop_rgn {s : State} (h : Regular s) (r : RegionNo) (f : StretchLoop → StretchLoop) :
    (s.setLoop r f).rgn r = { s.rgn r with sl := f (s.rgn r).sl } := by
  unfold State.setLoop
  dsimp only
  split
  · rw [s.rgn_modRgn r _ h.regions]
  · rw [State.rgn_congr ((Keeps.sendStretch_keeps (gs := [.xg]) (List.Subset.refl _) (Keeps.refl _) r _).only.same .reg (by decide)),
      s.rgn_modRgn r _ h.regions]

theorem State.setLoop_inRegion {s : State} (h : Regular s) (r : RegionNo) (f : StretchLoop → StretchLoop) :
    State.InRegion r (fun _ => ()) s (s.setLoop r f) := by
  have hmod : State.InRegion r (fun _ => ()) s (s.modRgn r fun g => { g with sl := f g.sl }) := (State.InRegion.refl h).modRgn (by exact rfl)
  unfold State.setLoop
  exact .ite hmod (hmod.step (Keeps.sendStretch_keeps (List.Subset.refl _) (Keeps.refl _) r _))

/-! ### Table 2-2, a row at a time -/

section Rows
variable {l hold decay : Nat} {x : StretchLoop}

theorem StretchLoop.next_idle_zero (hst : x.st = .idle) (hl : l = 0) : StretchLoop.next l hold decay x = { x with s := 0 } := by
  simp only [StretchLoop.next, hst, hl, if_true]

theorem StretchLoop.next_idle (hst : x.st = .idle) (hl : 0 < l) :
    StretchLoop.next l hold decay x = { x with st := .hold, s := l, hold := hold } := by
  simp only [StretchLoop.next, hst, if_neg (Nat.ne_of_gt hl)]

theorem StretchLoop.next_hold_up (hst : x.st = .hold) (hl : x.s ≤ l) : StretchLoop.next l hold decay x = { x with s := l, hold := hold } := by
  simp only [StretchLoop.next, hst, if_pos hl]

theorem StretchLoop.next_hold (hst : x.st = .hold) (hl : l < x.s) (hhold : 1 < x.hold) :
    StretchLoop.next l hold decay x = { x with hold := x.hold - 1 } := by
  simp only [StretchLoop.next, hst, if_neg (Nat.not_le.mpr hl), if_pos hhold]

/-- A decay step is by one, since the level lies below the stretch. -/
theorem StretchLoop.decayed (hl : l < x.s) :
    ({ x with s := max (x.s - 1) l, st := if max (x.s - 1) l = 0 then .idle else .decay, decay := 1 } : StretchLoop) =
      { x with s := x.s - 1, st := if x.s = 1 then .idle else .decay, decay := 1 } := by
  have hmax : max (x.s - 1) l = x.s - 1 := by omega
  have hone : (x.s - 1 = 0) = (x.s = 1) := by apply propext; omega
  simp only [hmax, hone]

theorem StretchLoop.next_hold_end (hst : x.st = .hold) (hl : l < x.s) (hhold : x.hold ≤ 1) : StretchLoop.next l hold decay x =
    { x with s := x.s - 1, st := if x.s = 1 then .idle else .decay, decay := 1 } := by
  rw [← StretchLoop.decayed hl]
  simp only [StretchLoop.next, hst, if_neg (Nat.not_le.mpr hl), if_neg (Nat.not_lt.mpr hhold)]

theorem StretchLoop.next_decay_up (hst : x.st = .decay) (hl : x.s ≤ l) :
    StretchLoop.next l hold decay x = { x with st := .hold, s := l, hold := hold } := by
  simp only [StretchLoop.next, hst, if_pos hl]

theorem StretchLoop.next_decay (hst : x.st = .decay) (hl : l < x.s) (hdecay : x.decay < decay) :
    StretchLoop.next l hold decay x = { x with decay := x.decay + 1 } := by
  simp only [StretchLoop.next, hst, if_neg (Nat.not_le.mpr hl), if_neg (Nat.not_le.mpr hdecay)]

theorem StretchLoop.next_decay_step (hst : x.st = .decay) (hl : l < x.s) (hdecay : decay ≤ x.decay) : StretchLoop.next l hold decay x =
    { x with s := x.s - 1, st := if x.s = 1 then .idle else .decay, decay := 1 } := by
  rw [← StretchLoop.decayed hl]
  simp only [StretchLoop.next, hst, if_neg (Nat.not_le.mpr hl), if_pos hdecay]

end Rows

/-! ### Entry into FIXED, and its end -/

/-- The loop as FIXED is entered or left (R50). -/
def StretchLoop.changed (enter : Bool) (x : StretchLoop) : StretchLoop :=
  { x with
    st := if enter then .fixed else .idle, s := 0, hold := 0, decay := 0
    toFixed := x.toFixed && !enter, toIdle := x.toIdle && enter }

/-- The margin of FIXED as it now is, and the target with the difference. -/
theorem State.remargin_spec {s : State} (h : Regular s) (r : RegionNo) (aux : Nat) (hzero : (s.rgn r).sl.margin = 0 ∨ (s.rgn r).margin = 0) :
    ((s.remargin r aux).rgn r).sl.margin = (s.rgn r).margin ∧
    ((s.remargin r aux).rgn r).tg = (s.rgn r).tg - (s.rgn r).sl.margin + (s.rgn r).margin := by
  unfold State.remargin
  dsimp only
  split
  · next hsame => exact ⟨hsame.symm, by omega⟩
  · generalize hmod : (s.modRgn r fun g => { g with tg := g.tg - g.sl.margin + g.margin, sl := { g.sl with margin := g.margin } }) = u
    have hrgn : u.rgn r = _ := hmod ▸ s.rgn_modRgn r _ h.regions
    have hu : Regular u := hmod ▸ (Keeps.modRgn_keeps (List.Subset.refl _) (Keeps.refl s) r _).regular h
    have hcore (x y : Region) (k : x.core = y.core) : (x.tg, x.sl.margin) = (y.tg, y.sl.margin) := by
      exact (congrArg (fun z : Region => (z.tg, z.sl.margin)) k :)
    have hkept : State.InRegion r (fun x => (x.tg, x.sl.margin)) u _ :=
      ((State.InRegion.refl hu).forms hcore ((State.Forms.of_regular hu).markTarget aux (s.rgn r).cycle (targetValue (u.rgn r).tg (s.rgn r).nominal))
      ((Keeps.markTarget_keeps (List.Subset.refl _) (Keeps.refl _) r _ _ _).regular hu)).sendTarget
        ((u.markTarget r aux (s.rgn r).cycle (targetValue (u.rgn r).tg (s.rgn r).nominal)).rgn r).tg (winOfQ (s.rgn r).edge)
    obtain ⟨htg, hmargin⟩ := Prod.mk.inj hkept.self
    exact ⟨hmargin.trans (by rw [hrgn]), htg.trans (by rw [hrgn])⟩

/-- FIXED is entered or left: s_loop falls to 0, and the target changes by the margin (R50). -/
theorem State.fixedChange_spec {s : State} (h : Regular s) (r : RegionNo) (enter : Bool)
    (hzero : enter = true → (s.rgn r).sl.margin = 0) :
    ((s.fixedChange r enter).rgn r).sl.st = (if enter then .fixed else .idle) ∧ ((s.fixedChange r enter).rgn r).sl.s = 0 ∧
    ((s.fixedChange r enter).rgn r).sl.margin = (if enter then 4 * (s.rgn r).nominal * (s.rgn r).safeS else 0) ∧
    ((s.fixedChange r enter).rgn r).tg =
      (s.rgn r).tg - (s.rgn r).sl.margin + (if enter then 4 * (s.rgn r).nominal * (s.rgn r).safeS else 0) := by
  rw [show s.fixedChange r enter = (s.setLoop r (StretchLoop.changed enter)).remargin r (if enter then 1 else 2) from rfl]
  have hloop := State.setLoop_rgn h r (StretchLoop.changed enter)
  have hregular := (State.setLoop_inRegion h r (StretchLoop.changed enter)).regular
  generalize s.setLoop r (StretchLoop.changed enter) = u at hloop hregular
  have hmargin : (u.rgn r).margin = if enter then 4 * (s.rgn r).nominal * (s.rgn r).safeS else 0 := by
    rw [hloop]
    cases enter <;> rfl
  have hold : (u.rgn r).sl.margin = (s.rgn r).sl.margin := by rw [hloop]; rfl
  have htg : (u.rgn r).tg = (s.rgn r).tg := by rw [hloop]
  have hchange : (u.rgn r).sl.margin = 0 ∨ (u.rgn r).margin = 0 := by
    cases enter with
    | true => exact .inl (hold.trans (hzero rfl))
    | false => exact .inr hmargin
  obtain ⟨hm, ht⟩ := State.remargin_spec hregular r (if enter then 1 else 2) hchange
  have hkept : State.InRegion r Region.untargeted u (u.remargin r (if enter then 1 else 2)) := (State.InRegion.refl hregular).remargin (fun _ _ k => k) _
  refine ⟨?_, ?_, hm.trans hmargin, ?_⟩
  · calc ((u.remargin r (if enter then 1 else 2)).rgn r).sl.st = (u.rgn r).sl.st := (congrArg (fun x : Region => x.sl.st) hkept.self :)
      _ = _ := by rw [hloop]; rfl
  · calc ((u.remargin r (if enter then 1 else 2)).rgn r).sl.s = (u.rgn r).sl.s := (congrArg (fun x : Region => x.sl.s) hkept.self :)
      _ = _ := by rw [hloop]; rfl
  · rw [ht, htg, hold, hmargin]

/-! ### The steps -/

theorem Region.loopDue_false {g : Region} (h : g.sl.toFixed = false ∨ g.edge ≤ g.sl.asked * 32768) : g.loopDue = false := by
  rcases h with h | h
  · simp [Region.loopDue, h]
  · simp [Region.loopDue, Nat.not_lt.mpr h]

theorem Region.idleDue_false {g : Region} (h : g.sl.st ≠ .fixed) : g.idleDue = false := by simp [Region.idleDue, h]

theorem execStretchLoopStep_loop {r : RegionNo} {s : State} (hclock : s.clocked r = true) (hstop : (s.rgn r).stop = none)
    (hloop : (s.rgn r).loopDue = false) (hidle : (s.rgn r).idleDue = false) : execStretchLoopStep r s =
      .next (s.setLoop r (StretchLoop.next (s.rgn r).sl.l2 (s.rgn r).holdLen (s.rgn r).decayLen)) := by
  rw [execStretchLoopStep]
  rw [if_neg (by simp [hclock, hstop]), if_neg (by simp [hloop])]
  exact if_neg (by simp [hidle])

theorem execStretchLoopStep_enter {r : RegionNo} {s : State} (hclock : s.clocked r = true) (hstop : (s.rgn r).stop = none)
    (hloop : (s.rgn r).loopDue = true) : execStretchLoopStep r s = .next (s.fixedChange r true) := by
  rw [execStretchLoopStep]
  rw [if_neg (by simp [hclock, hstop])]
  exact if_pos hloop

theorem execStretchLoopStep_leave {r : RegionNo} {s : State} (hclock : s.clocked r = true) (hstop : (s.rgn r).stop = none)
    (hloop : (s.rgn r).loopDue = false) (hidle : (s.rgn r).idleDue = true) : execStretchLoopStep r s = .next (s.fixedChange r false) := by
  rw [execStretchLoopStep]
  rw [if_neg (by simp [hclock, hstop]), if_neg (by simp [hloop])]
  exact if_pos hidle

theorem State.setLoop_only (s : State) (r : RegionNo) (f : StretchLoop → StretchLoop) : Only [.reg, .xg] s (s.setLoop r f) :=
  (Keeps.setLoop_keeps (List.Subset.refl _) (Keeps.refl s) r f).only

/-- A notice of a sender's stretch, taken (R53). -/
def State.noticed (s : State) (r : RegionNo) (k : Nat) (new : Nat) : State :=
  (s.modLane r k fun l => { l with sNote := none }).modRgn r fun g => { g with sym := g.sym.set k new }

theorem execStretchNoticeReceive_taken {r : RegionNo} {k : Fin 4} {v p : Nat} {s : State} (hnote : (s.laneAt r k).sNote = some (v, p))
    (hst : (s.rgn r).sl.st ≠ .fixed) (hsym : (s.rgn r).symEn.getLsbD k = true) : execStretchNoticeReceive r k s =
      .next (s.noticed r k (if (s.rgn r).stop.any (fun x => decide (x.kind = 1)) then 0 else symOf v p (s.rgn r).nominal)) := by
  unfold execStretchNoticeReceive
  rw [hnote]
  dsimp only
  rw [if_neg (by simp [hst, hsym])]
  rfl

theorem State.noticed_spec {s : State} (h : Regular s) (r : RegionNo) (k new : Nat) :
    (s.noticed r k new).rgn r = { s.rgn r with sym := (s.rgn r).sym.set k new } ∧
    (s.noticed r k new).laneAt r k = { s.laneAt r k with sNote := none } ∧
    (∀ q, q ≠ r → (s.noticed r k new).rgn q = s.rgn q) ∧
    (∀ (q : RegionNo) (j : Nat), laneKey q j ≠ laneKey r k → (s.noticed r k new).laneAt q j = s.laneAt q j) ∧
    Only [.reg, .xg] s (s.noticed r k new) := by
  refine ⟨State.rgn_modRgn _ r _ h.regions, ?_, fun q hq => State.rgn_modRgn_ne _ _ hq, fun q j hne => ?_, ?_⟩
  · exact s.laneAt_modLane r k (fun l => { l with sNote := none }) h.lanes
  · exact s.laneAt_modLane_ne (fun l => { l with sNote := none }) hne
  · exact (Keeps.modRgn_keeps (by decide) (Keeps.modLane_keeps (by decide) (Keeps.refl s) r k _) r _).only

/-- Settles O50: a level is applied by Table 2-2 alone; FIXED changes the target by its margin; a notice sets the link's own stretch. -/
theorem stretchLoopAndNotices : Obligations.StretchLoopAndNotices := by
  unfold Obligations.StretchLoopAndNotices
  refine ⟨?_, ?_, ?_, ?_⟩
  · intro r s hs hclock hstop hst hdue g x
    have hrun := execStretchLoopStep_loop hclock hstop (Region.loopDue_false hdue) (Region.idleDue_false hst)
    have hrgn := State.setLoop_rgn hs r (StretchLoop.next (s.rgn r).sl.l2 (s.rgn r).holdLen (s.rgn r).decayLen)
    have hothers := (State.setLoop_inRegion hs r (StretchLoop.next (s.rgn r).sl.l2 (s.rgn r).holdLen (s.rgn r).decayLen)).others
    have honly := s.setLoop_only r (StretchLoop.next (s.rgn r).sl.l2 (s.rgn r).holdLen (s.rgn r).decayLen)
    have hsl := congrArg Region.sl hrgn
    refine ⟨_, hrun, ?_, fun h0 h1 => hsl.trans (StretchLoop.next_idle_zero h0 h1), fun h0 h1 => hsl.trans (StretchLoop.next_idle h0 h1),
      fun h0 h1 => hsl.trans (StretchLoop.next_hold_up h0 h1), fun h0 h1 h2 => hsl.trans (StretchLoop.next_hold h0 h1 h2),
      fun h0 h1 h2 => hsl.trans (StretchLoop.next_hold_end h0 h1 h2), fun h0 h1 => hsl.trans (StretchLoop.next_decay_up h0 h1),
      fun h0 h1 h2 => hsl.trans (StretchLoop.next_decay h0 h1 h2), fun h0 h1 h2 => hsl.trans (StretchLoop.next_decay_step h0 h1 h2),
      hothers, honly⟩
    rw [hrgn]
  · intro r s hs hclock hstop hst hto hasked hmargin
    have hloop : (s.rgn r).loopDue = true := by simp [Region.loopDue, hto, hst, hasked]
    obtain ⟨hst', hs', hm, htg⟩ := State.fixedChange_spec hs r true fun _ => hmargin
    have hrun : exec (.stretchLoopStep r) s = .next (s.fixedChange r true) := execStretchLoopStep_enter hclock hstop hloop
    refine ⟨_, hrun, hst', hs', hm, htg.trans ?_, exec_only hrun⟩
    rw [hmargin]
    rfl
  · intro r s hs hclock hstop hst hto hasked
    have hloop : (s.rgn r).loopDue = false := by simp [Region.loopDue, hst]
    have hidle : (s.rgn r).idleDue = true := by simp [Region.idleDue, hto, hst, hasked]
    obtain ⟨hst', hs', hm, htg⟩ := State.fixedChange_spec hs r false (by simp)
    have hrun : exec (.stretchLoopStep r) s = .next (s.fixedChange r false) := execStretchLoopStep_leave hclock hstop hloop hidle
    exact ⟨_, hrun, hst', hs', hm, htg, exec_only hrun⟩
  · intro r k v p s hs hnote hst hsym
    obtain ⟨hself, hlane, hothers, hlanes, honly⟩ := State.noticed_spec hs r k
      (if (s.rgn r).stop.any (fun x => decide (x.kind = 1)) then 0 else symOf v p (s.rgn r).nominal)
    refine ⟨_, execStretchNoticeReceive_taken hnote hst hsym, hself, hlane, hothers, fun q j hne => hlanes q j ?_, honly⟩
    change ¬ 4 * q + j = 4 * r + k.val
    change ¬ q * 4 + j = r * 4 + k.val at hne
    intro heq
    exact hne (by rw [Nat.mul_comm q, Nat.mul_comm r]; exact heq)

end Sys2Proof.Machine
end

section
/-! SUPPORT. A region's record lane grows, and only while it works (R121, R193, R207). -/
namespace Sys2Proof.Machine
open Sys2Proof.Safety

/-- The state of a region's record lane is read from the dies, the epoch and its own entry. -/
theorem State.recordLane_congr {s t : State} {r : RegionNo} (hr : r < 2 ^ 28) (hdie : t.die = s.die) (hepoch : t.sys.epoch = s.sys.epoch)
    (hst : (t.xing (xId 5 r)).st = (s.xing (xId 5 r)).st) : t.xState (xId 5 r) = s.xState (xId 5 r) := by
  have hclass : xClass (xId 5 r) = 5 := xClass_xId hr
  have hfenced (site : Nat) : t.siteFenced site = s.siteFenced site := by simp only [State.siteFenced, State.dieAt, hdie, hepoch]
  simp only [State.xState, State.xRegions, hclass, hfenced, hst, State.dieAt, hdie]
  rfl

/-- From s to t the record lane of region r has grown by some entries, by none while it does not work. -/
structure State.Fills (r : RegionNo) (s t : State) : Prop where
  lane : ∃ l, (t.rgn r).former.lane = (s.rgn r).former.lane ++ l ∧ (s.xState (xId 5 r) ≠ .whole → l = [])
  crossing : t.xState (xId 5 r) = s.xState (xId 5 r)
  regular : Regular t

section Fills
variable {r : RegionNo} {o s t : State} (hr : r < 2 ^ 28)

theorem State.Fills.refl (h : Regular s) : State.Fills r s s := ⟨⟨[], (List.append_nil _).symm, fun _ => rfl⟩, rfl, h⟩

theorem State.Fills.trans (h : State.Fills r o s) (k : State.Fills r s t) : State.Fills r o t := by
  obtain ⟨l, hl, hnil⟩ := h.lane
  obtain ⟨l', hl', hnil'⟩ := k.lane
  refine ⟨⟨l ++ l', by rw [hl', hl, List.append_assoc], fun hx => ?_⟩, k.crossing.trans h.crossing, k.regular⟩
  rw [hnil hx, hnil' (by rwa [h.crossing]), List.append_nil]

theorem State.Fills.ite {c : Prop} [Decidable c] (hs : State.Fills r o s) (ht : State.Fills r o t) : State.Fills r o (if c then s else t) := by
  split
  · exact hs
  · exact ht

theorem State.Fills.push (h : State.Fills r o s) (e : LaneEntry) : State.Fills r o (s.push r e) := by
  have hregular := (Keeps.push_keeps (List.Subset.refl _) (Keeps.refl s) r e).regular h.regular
  have hcrossing : (s.push r e).xState (xId 5 r) = s.xState (xId 5 r) :=
    (State.Forms.push (State.Forms.of_regular (r := r) h.regular) e).crossing (xId 5 r)
  refine h.trans ⟨?_, hcrossing, hregular⟩
  rcases Decidable.em (s.xState (xId 5 r) = .whole) with hx | hx
  · refine ⟨[e], ?_, fun hne => absurd hx hne⟩
    rw [State.push, if_pos hx, s.rgn_modRgn r _ h.regular.regions]
  · refine ⟨[], ?_, fun _ => rfl⟩
    rw [State.push, if_neg hx]
    exact (List.append_nil _).symm

include hr

/-- A step that leaves the lane and what its state is read from. -/
theorem State.Fills.step (h : State.Fills r o s) (k : Regular s → Regular t) (hlane : (t.rgn r).former.lane = (s.rgn r).former.lane)
    (hdie : t.die = s.die) (hepoch : t.sys.epoch = s.sys.epoch) (hx : t.xg.x = s.xg.x) : State.Fills r o t :=
  h.trans ⟨⟨[], by rw [hlane, List.append_nil], fun _ => rfl⟩,
    State.recordLane_congr hr hdie hepoch (by simp only [State.xing, hx]), k h.regular⟩

theorem State.Fills.modRgn (h : State.Fills r o s) {f : Region → Region} (hf : (f (s.rgn r)).former.lane = (s.rgn r).former.lane) :
    State.Fills r o (s.modRgn r f) :=
  h.step hr (Keeps.modRgn_keeps (List.Subset.refl _) (Keeps.refl s) r f).regular (by rw [s.rgn_modRgn r f h.regular.regions, hf]) rfl rfl rfl

theorem State.Fills.modFormer (h : State.Fills r o s) {f : Former → Former} (hf : (f (s.rgn r).former).lane = (s.rgn r).former.lane) :
    State.Fills r o (s.modFormer r f) := h.modRgn hr hf

omit hr in
theorem State.Fills.emit (h : State.Fills r o s) (kind aux cycle value : Nat) : State.Fills r o (s.emit r kind aux cycle value) := by
  unfold State.emit
  exact (h.push _).ite h

theorem State.Fills.flushTarget (h : State.Fills r o s) : State.Fills r o (s.flushTarget r) := by
  unfold State.flushTarget
  split
  · exact (h.modFormer hr (by exact rfl)).emit _ _ _ _
  · exact h

theorem State.Fills.flushBefore (h : State.Fills r o s) (cycle : Nat) : State.Fills r o (s.flushBefore r cycle) := by
  unfold State.flushBefore
  split
  · exact (h.flushTarget hr).ite h
  · exact h

theorem State.Fills.flushMark (h : State.Fills r o s) : State.Fills r o (s.flushMark r) := by
  unfold State.flushMark
  dsimp only
  split
  · exact List.foldlRecOn _ _ (h.modFormer hr (by exact rfl)) fun t ht e _ => (ht.flushBefore hr _).emit _ _ _ _
  · exact h

theorem State.Fills.raise (h : State.Fills r o s) (id arg : Nat) : State.Fills r o (s.raise id arg) := by
  have k := Keeps.raise_keeps (gs := [.ev]) (List.Subset.refl _) (Keeps.refl s) id arg
  have hsame (g : Group) (hg : g ∉ [Group.ev]) := k.only.same g hg
  exact h.step hr k.regular (by rw [State.rgn_congr (hsame .reg (by decide))]) (hsame .die (by decide))
    (congrArg Sys.epoch (hsame .sys (by decide))) (congrArg Xg.x (hsame .xg (by decide)))

theorem State.Fills.countInexact (h : State.Fills r o s) :
    State.Fills r o { s with et := { s.et with inexact := sat16 s.et.inexact 1 } } := h.step hr (Regular.keep rfl) rfl rfl rfl rfl

theorem State.Fills.emitStretch (h : State.Fills r o s) (first v len : Nat) : State.Fills r o (s.emitStretch r first v len) := by
  unfold State.emitStretch
  split
  · have hmod := h.modFormer hr (f := fun f => { f with anchored := true, cycle := first, len := len, sum := v * len }) rfl
    exact (hmod.countInexact hr).raise hr _ _
  · exact ((h.modFormer hr (by exact rfl)).flushTarget hr).emit _ _ _ _

theorem State.Fills.closeRun (h : State.Fills r o s) : State.Fills r o (s.closeRun r) := by
  unfold State.closeRun
  dsimp only
  exact .ite (((h.modFormer hr (by exact rfl)).emitStretch hr _ _ _).flushMark hr) h

theorem State.Fills.closeWide (h : State.Fills r o s) (next : Nat) : State.Fills r o (s.closeWide r next) := by
  have hopen := h.modFormer hr (f := fun f => { f with cycle := next, len := 0, sum := 0 }) rfl
  unfold State.closeWide
  exact .ite (.ite (((hopen.flushTarget hr).emit _ _ _ _).flushMark hr) hopen) h

theorem State.Fills.markTarget (h : State.Fills r o s) (aux cycle value : Nat) : State.Fills r o (s.markTarget r aux cycle value) := by
  unfold State.markTarget
  exact (((h.closeRun hr).closeWide hr cycle).flushBefore hr cycle).modFormer hr (by exact rfl)

theorem State.Fills.budgetCheck (h : State.Fills r o s) (cycle : Nat) : State.Fills r o (s.budgetCheck r cycle) := by
  unfold State.budgetCheck
  dsimp only
  split
  · have hspent := h.modRgn hr (f := fun g => { g with win_ := { g.win_ with spent := true }, overCnt := sat16 g.overCnt 1 }) rfl
    exact .ite hspent ((hspent.modFormer hr (by exact rfl)).raise hr _ _)
  · exact h

theorem State.Fills.formBoundary (h : State.Fills r o s) : State.Fills r o (s.formBoundary r) := by
  unfold State.formBoundary
  exact ((h.closeRun hr).closeWide hr _).modFormer hr (by exact rfl)

end Fills

@[simp] theorem State.modLane_x (s : State) (r : RegionNo) (k : Nat) (f : Lane → Lane) : (s.modLane r k f).xg.x = s.xg.x := rfl

theorem State.relane_x (old s : State) (r : RegionNo) : (State.relane old s r).xg.x = s.xg.x := by
  unfold State.relane
  dsimp only
  split
  · rfl
  · refine List.foldlRecOn (motive := fun t : State => t.xg.x = s.xg.x) _ _ rfl fun t ht k _ => ?_
    rcases old.linkEnd r k with _ | ⟨p, j⟩
    · rcases t.linkEnd r k with _ | ⟨q, i⟩
      · simpa using ht
      · simpa using ht
    · split
      · exact ht
      · simp only
        split
        · simpa using ht
        · simpa using ht

theorem State.Fills.relane {r : RegionNo} {o s : State} (hr : r < 2 ^ 28) (h : State.Fills r o s) (old : State) : State.Fills r o (State.relane old s r) := by
  have k := Keeps.relane_keeps (gs := [.xg]) (List.Subset.refl _) (old := old) (Keeps.refl s) r
  exact h.step hr k.regular (by rw [State.rgn_congr (k.only.same .reg (by decide))]) (k.only.same .die (by decide))
    (congrArg Sys.epoch (k.only.same .sys (by decide))) (State.relane_x old s r)

end Sys2Proof.Machine
end

section
/-! SUPPORT. A window ends and another begins in a region (R51, R52, R73, R92-R96). -/
namespace Sys2Proof.Machine
open Sys2Proof.Safety

/-! ### The window that ends -/

theorem State.windowReadings_congr {s t : State} (r : RegionNo) (m : WinMeas)
    (h : ∀ k, ((t.rgn k).sum, (t.rgn k).badAdc, (t.rgn k).badDiode) = ((s.rgn k).sum, (s.rgn k).badAdc, (s.rgn k).badDiode)) :
    t.windowReadings r m = s.windowReadings r m := by
  have hsum (k : RegionNo) : (t.rgn k).sum = (s.rgn k).sum := congrArg (·.1) (h k)
  have hadc (k : RegionNo) : (t.rgn k).badAdc = (s.rgn k).badAdc := congrArg (·.2.1) (h k)
  have hdiode (k : RegionNo) : (t.rgn k).badDiode = (s.rgn k).badDiode := congrArg (·.2.2) (h k)
  have hmedian (d : Nat) (k : SensorKind) : t.districtMedian2 d k = s.districtMedian2 d k := by
    simp only [State.districtMedian2, hsum, hadc, hdiode]
  simp only [State.windowReadings, State.districtMedian, hmedian, hadc, hdiode]

/-- The region as a window's accounts close, through a record lane that works or past one that does not (R51, R52, R73, R96). -/
def State.closedRgn (s : State) (r : RegionNo) (y : Summary) (g : Region) : Region :=
  let h := if s.xState (xId 5 r) = .whole then { (s.showWords r g) with acc := g.acc.add g y } else s.showWords r g
  { h with win_ := h.win_.close, cal := h.cal.gather h }

/-- The summary of the window that ends (R251). -/
def State.windowSummary (s : State) (r : RegionNo) (m : WinMeas) : Summary :=
  ⟨(s.rgn r).win * 256, (s.windowReadings r m).1, (s.windowReadings r m).2, (s.rgn r).win_.trips, (s.rgn r).win_.sixteenths⟩

/-- The list of droop warnings with a region's own as it stands. -/
def State.warned (s : State) (r : RegionNo) : State :=
  { s with sys := { s.sys with droop := if (s.rgn r).win_.warn then addKey r s.sys.droop else dropKey r s.sys.droop } }

/-- The window's accounts closed, once its readings have been watched. -/
def State.accountsClosed (s : State) (r : RegionNo) (y : Summary) : State :=
  ((s.modRgn r (s.closedRgn r y)).push r (.summary y)).warned r

theorem State.closeWindow_eq (s : State) (r : RegionNo) (m : WinMeas) :
    s.closeWindow r m = (s.watchReadings r m).accountsClosed r ((s.watchReadings r m).windowSummary r m) := by
  unfold State.closeWindow
  rcases h : (s.watchReadings r m).windowReadings r m with ⟨adc, diode⟩
  simp only [State.windowSummary, h, decide_eq_true_eq]
  rfl

theorem State.warned_droop (s : State) (r : RegionNo) : r ∈ (s.warned r).sys.droop ↔ (s.rgn r).win_.warn = true := by
  unfold State.warned
  rcases h : (s.rgn r).win_.warn with _ | _
  · simp [mem_dropKey_iff]
  · simp [mem_addKey_iff]

/-- A region but for what the close of a window's accounts changes. -/
def Region.unclosed (g : Region) : Region :=
  { g.core with adcWatch := {}, diodeWatch := {}, acc := {}, win_ := {}, cal := {}, roStatus := 0, roEvcnt := 0, roStretch := 0 }

theorem State.showWords_words (s : State) (r : RegionNo) (g : Region) :
    ∃ a b c, s.showWords r g = { g with roStatus := a, roEvcnt := b, roStretch := c } := by
  unfold State.showWords
  split
  · exact ⟨_, _, _, rfl⟩
  · exact ⟨g.showChan.roStatus, g.roEvcnt, g.roStretch, rfl⟩

theorem State.showWords_unclosed (s : State) (r : RegionNo) (g : Region) : (s.showWords r g).unclosed = g.unclosed := by
  obtain ⟨a, b, c, h⟩ := s.showWords_words r g
  rw [h]
  rfl

theorem State.closedRgn_unclosed (s : State) (r : RegionNo) (y : Summary) (g : Region) : (s.closedRgn r y g).unclosed = g.unclosed := by
  have hacc (h : Region) (a : FrameAcc) : ({ h with acc := a } : Region).unclosed = h.unclosed := rfl
  have hclosed (h : Region) : ({ h with win_ := h.win_.close, cal := h.cal.gather h } : Region).unclosed = h.unclosed := by
    simp only [Region.unclosed, Region.core]
  unfold State.closedRgn
  dsimp only
  rw [hclosed]
  split
  · rw [hacc, s.showWords_unclosed]
  · exact s.showWords_unclosed r g

/-- What the words of a window's refresh read of a region. -/
theorem State.closedRgn_words (s : State) (r : RegionNo) (y : Summary) (g : Region) :
    (s.closedRgn r y g).win_ = g.win_.close ∧ (s.closedRgn r y g).former = g.former ∧
    (s.xState (xId 5 r) = .whole → (s.closedRgn r y g).roStatus = word (g.statusWord s.inHold) ∧
      (s.closedRgn r y g).roEvcnt = word g.evcntWord ∧ (s.closedRgn r y g).roStretch = g.stretchCnt) ∧
    (s.xState (xId 5 r) ≠ .whole → (s.closedRgn r y g).roStatus = g.showChan.roStatus) := by
  rcases Decidable.em (s.xState (xId 5 r) = .whole) with h | h
  · simp only [State.closedRgn, State.showWords, if_pos h]
    exact ⟨rfl, rfl, fun _ => ⟨rfl, rfl, rfl⟩, fun hne => absurd h hne⟩
  · simp only [State.closedRgn, State.showWords, if_neg h]
    exact ⟨rfl, rfl, fun he => absurd he h, fun _ => trivial⟩

theorem State.watchReadings_rgn {s : State} (h : Regular s) (r : RegionNo) (m : WinMeas) : ∃ a d, (s.watchReadings r m).rgn r =
    { s.rgn r with adcWatch := a, diodeWatch := d } := by
  unfold State.watchReadings
  dsimp only
  exact ⟨_, _, s.rgn_modRgn r _ h.regions⟩

/-- The close of a window's accounts (R51, R52, R73, R96, R251). -/
structure State.WindowClosed (r : RegionNo) (m : WinMeas) (s t : State) : Prop where
  kept : State.InRegion r Region.unclosed s t
  accounts : (t.rgn r).win_ = (s.rgn r).win_.close
  shown : s.xState (xId 5 r) = .whole → .summary (s.windowSummary r m) ∈ (t.rgn r).former.lane ∧
    (t.rgn r).roStatus = word ((s.rgn r).statusWord s.inHold) ∧ (t.rgn r).roEvcnt = word (s.rgn r).evcntWord ∧
    (t.rgn r).roStretch = (s.rgn r).stretchCnt
  unshown : s.xState (xId 5 r) ≠ .whole → (t.rgn r).former.lane = (s.rgn r).former.lane ∧ (t.rgn r).roStatus = (s.rgn r).showChan.roStatus
  crossing : t.xState (xId 5 r) = s.xState (xId 5 r)
  droop : r ∈ t.sys.droop ↔ (t.rgn r).win_.warn = true
  hold : t.sys.hold = s.sys.hold

theorem State.rgn_push (s : State) (hwf : s.RegWf) (r : RegionNo) (e : LaneEntry) : (s.push r e).rgn r =
    { s.rgn r with former := { (s.rgn r).former with
      lane := if s.xState (xId 5 r) = .whole then (s.rgn r).former.lane ++ [e] else (s.rgn r).former.lane } } := by
  unfold State.push
  split
  · exact s.rgn_modRgn r _ hwf
  · rfl

theorem State.recordLane_push {s : State} (h : Regular s) (r : RegionNo) (e : LaneEntry) :
    (s.push r e).xState (xId 5 r) = s.xState (xId 5 r) :=
  (State.Forms.push (State.Forms.of_regular (r := r) h) e).crossing (xId 5 r)

theorem State.accountsClosed_keeps (s : State) (r : RegionNo) (y : Summary) : Keeps [.sys, .reg, .xg] s (s.accountsClosed r y) := by
  have k : Keeps [.sys, .reg, .xg] s ((s.modRgn r (s.closedRgn r y)).push r (.summary y)) :=
    Keeps.push_keeps (by decide) (Keeps.modRgn_keeps (by decide) (Keeps.refl s) r _) r _
  exact k.trans ⟨⟨fun g hg => by cases g <;> first | rfl | exact absurd (by decide) hg⟩, Regular.keep rfl⟩

theorem State.recordLane_accountsClosed {s : State} (h : Regular s) {r : RegionNo} (hr : r < 2 ^ 28) (y : Summary) :
    (s.accountsClosed r y).xState (xId 5 r) = s.xState (xId 5 r) := by
  have hmod : Regular (s.modRgn r (s.closedRgn r y)) := (Keeps.modRgn_keeps (List.Subset.refl _) (Keeps.refl s) r _).regular h
  calc (s.accountsClosed r y).xState (xId 5 r) = ((s.modRgn r (s.closedRgn r y)).push r (.summary y)).xState (xId 5 r) :=
        State.recordLane_congr hr rfl rfl rfl
    _ = (s.modRgn r (s.closedRgn r y)).xState (xId 5 r) := State.recordLane_push hmod r _
    _ = s.xState (xId 5 r) := State.recordLane_congr hr rfl rfl rfl

theorem State.accountsClosed_rgn {s : State} (h : Regular s) {r : RegionNo} (hr : r < 2 ^ 28) (y : Summary) :
    (s.accountsClosed r y).rgn r = { s.closedRgn r y (s.rgn r) with former := { (s.rgn r).former with
      lane := if s.xState (xId 5 r) = .whole then (s.rgn r).former.lane ++ [.summary y] else (s.rgn r).former.lane } } := by
  have hlane : (s.modRgn r (s.closedRgn r y)).xState (xId 5 r) = s.xState (xId 5 r) := State.recordLane_congr hr rfl rfl rfl
  have hformer := (s.closedRgn_words r y (s.rgn r)).2.1
  calc (s.accountsClosed r y).rgn r = ((s.modRgn r (s.closedRgn r y)).push r (.summary y)).rgn r := rfl
    _ = _ := by rw [State.rgn_push _ (State.modRgn_wf _ _ _ h.regions), hlane, s.rgn_modRgn r _ h.regions, hformer]

theorem State.accountsClosed_rgn_ne (s : State) {r q : RegionNo} (y : Summary) (h : q ≠ r) : (s.accountsClosed r y).rgn q = s.rgn q := by
  have hpush (u : State) (e : LaneEntry) : (u.push r e).rgn q = u.rgn q := by
    unfold State.push
    split
    · exact u.rgn_modRgn_ne _ h
    · rfl
  exact (hpush (s.modRgn r (s.closedRgn r y)) (.summary y)).trans (s.rgn_modRgn_ne _ h)

theorem State.accountsClosed_hold (s : State) (r : RegionNo) (y : Summary) : (s.accountsClosed r y).sys.hold = s.sys.hold := by
  have k : Keeps [.reg, .xg] s ((s.modRgn r (s.closedRgn r y)).push r (.summary y)) :=
    Keeps.push_keeps (by decide) (Keeps.modRgn_keeps (by decide) (Keeps.refl s) r _) r _
  have hsys : ((s.modRgn r (s.closedRgn r y)).push r (.summary y)).sys = s.sys := k.only.same .sys (by decide)
  exact (congrArg Sys.hold hsys :)

theorem Region.unclosed_former (g : Region) (f : Former) : ({ g with former := f } : Region).unclosed = g.unclosed := rfl

theorem Region.unclosed_watches (g : Region) (a d : Watch) : ({ g with adcWatch := a, diodeWatch := d } : Region).unclosed = g.unclosed := rfl

theorem State.closeWindow_spec {s : State} (h : Regular s) {r : RegionNo} (hr : r < 2 ^ 28) (m : WinMeas) :
    State.WindowClosed r m s (s.closeWindow r m) := by
  obtain ⟨a, d, hwatch⟩ := State.watchReadings_rgn h r m
  have hk := Keeps.watchReadings_keeps (gs := [.reg]) (List.Subset.refl _) (Keeps.refl s) r m
  have hwatch_ne (q : RegionNo) (hq : q ≠ r) : (s.watchReadings r m).rgn q = s.rgn q := s.rgn_modRgn_ne _ hq
  have hlane : (s.watchReadings r m).xState (xId 5 r) = s.xState (xId 5 r) := State.recordLane_congr hr rfl rfl rfl
  have hhold : (s.watchReadings r m).sys = s.sys := hk.only.same .sys (by decide)
  have hsum : (s.watchReadings r m).windowSummary r m = s.windowSummary r m := by
    have hread := State.windowReadings_congr (s := s) (t := s.watchReadings r m) r m fun k => by
      rcases Decidable.em (k = r) with rfl | hne
      · rw [hwatch]
      · rw [hwatch_ne k hne]
    simp only [State.windowSummary, hread, hwatch]
  rw [State.closeWindow_eq, hsum]
  generalize s.watchReadings r m = u at hwatch hk hwatch_ne hlane hhold
  have hu : Regular u := hk.regular h
  have hrgn := State.accountsClosed_rgn hu hr (s.windowSummary r m)
  obtain ⟨hwin, _, hshown, hunshown⟩ := u.closedRgn_words r (s.windowSummary r m) (u.rgn r)
  have hhold' : u.inHold = s.inHold := by rw [State.inHold, hhold]
  have hdroop := State.warned_droop ((u.modRgn r (u.closedRgn r (s.windowSummary r m))).push r (.summary (s.windowSummary r m))) r
  refine ⟨⟨fun k hk => (u.accountsClosed_rgn_ne _ hk).trans (hwatch_ne k hk), ?_, (State.accountsClosed_keeps u r _).regular hu⟩, ?_, fun hx => ?_,
    fun hx => ?_, (State.recordLane_accountsClosed hu hr _).trans hlane, hdroop,
    (u.accountsClosed_hold r _).trans (congrArg Sys.hold hhold)⟩
  · rw [hrgn, Region.unclosed_former, u.closedRgn_unclosed, hwatch, Region.unclosed_watches]
  · rw [hrgn]
    exact hwin.trans (by rw [hwatch])
  · obtain ⟨h1, h2, h3⟩ := hshown (hlane.trans hx)
    rw [hrgn]
    refine ⟨?_, h1.trans (by rw [hhold', hwatch]; rfl), h2.trans (by rw [hwatch]; rfl), h3.trans (by rw [hwatch])⟩
    dsimp only
    rw [if_pos (hlane.trans hx)]
    exact List.mem_append_right _ (List.mem_singleton_self _)
  · have h1 := hunshown (by rwa [hlane])
    rw [hrgn]
    refine ⟨?_, h1.trans (by rw [hwatch]; rfl)⟩
    dsimp only
    rw [if_neg (by rwa [hlane]), hwatch]

end Sys2Proof.Machine
end

section
/-! SUPPORT. The window that begins in a region: its accounts, its ceiling, its target and its frequency loop (R51, R92, R93, R55). -/
namespace Sys2Proof.Machine
open Sys2Proof.Safety

/-- The register words that take effect at a window boundary, where they have crossed (R73). -/
def State.windowWords (s : State) (r : RegionNo) (w : Nat) : State :=
  if s.wordsCrossed r then State.relane s (s.modRgn r fun g => g.windowTick (w * 256)) r else s

/-- A region with other register words in force. -/
def Region.rewords (g : Region) (x : RgnRegs) : Region := { g with regs := x }

theorem State.windowWords_spec {s : State} (h : Regular s) {r : RegionNo} (hr : r < 2 ^ 28) (w : Nat) :
    (∃ x, (s.windowWords r w).rgn r = (s.rgn r).rewords x) ∧ State.InRegion r (fun _ => ()) s (s.windowWords r w) ∧
    State.Fills r s (s.windowWords r w) ∧ (s.windowWords r w).sys = s.sys := by
  have k := Keeps.relane_keeps (gs := [.xg]) (List.Subset.refl _) (old := s) (Keeps.refl (s.modRgn r fun g => g.windowTick (w * 256))) r
  unfold State.windowWords
  split
  · refine ⟨⟨((s.rgn r).windowTick (w * 256)).regs, ?_⟩, ((State.InRegion.refl h).modRgn (by exact rfl)).step k,
      ((State.Fills.refl h).modRgn hr (by exact rfl)).relane hr s, k.only.same .sys (by decide)⟩
    rw [State.rgn_congr (k.only.same .reg (by decide)), s.rgn_modRgn r _ h.regions]
    rfl
  · exact ⟨⟨(s.rgn r).regs, rfl⟩, .refl h, .refl h, rfl⟩

/-- The region with the accounts of the window that begins (R44, R51). -/
def Region.opened (g : Region) (w : Nat) : Region :=
  { g with
    win := w
    win_ := { g.win_ with
      quanta := g.win_.aheadQ, sixteenths := g.win_.aheadS, stretched := decide (0 < g.win_.aheadS)
      trips := g.win_.aheadT, spent := false, range := g.win_.aheadR
      aheadQ := 0, aheadS := 0, aheadT := 0, aheadR := false
      unbudgeted := !g.budgetEn } }

/-- The accounts of the new window, its budget checked and its marks written. -/
def State.accountsOpened (s : State) (r : RegionNo) (w : Nat) : State :=
  let u := s.modRgn r fun g => g.opened w
  (u.budgetCheck r ((u.rgn r).cycle - 1)).flushMark r

/-- The mark of a change of BUDGET_EN (R118). -/
def Region.budgetMark (cycle w : Nat) (unbudgeted : Bool) (f : Former) : Former :=
  { f with due := f.due ++ [(cycle, if unbudgeted then 2 else 4, w % 2 ^ 48)] }

theorem State.openWindow_eq (s : State) (r : RegionNo) (w : Nat) : s.openWindow r w =
    if ((s.modRgn r fun g => g.opened w).rgn r).win_.unbudgeted = (s.rgn r).win_.unbudgeted then s.accountsOpened r w
    else (s.accountsOpened r w).modFormer r
      (Region.budgetMark ((s.accountsOpened r w).rgn r).cycle w ((s.modRgn r fun g => g.opened w).rgn r).win_.unbudgeted) := rfl

theorem State.openWindow_spec {s : State} (h : Regular s) {r : RegionNo} (hr : r < 2 ^ 28) (w : Nat) :
    ((s.openWindow r w).rgn r).unspent = ((s.rgn r).opened w).unspent ∧ State.InRegion r (fun _ => ()) s (s.openWindow r w) ∧
    State.Fills r s (s.openWindow r w) := by
  have hmod : State.InRegion r (fun _ => ()) s (s.modRgn r fun g => g.opened w) := (State.InRegion.refl h).modRgn (by exact rfl)
  have hfill : State.Fills r s (s.modRgn r fun g => g.opened w) := (State.Fills.refl h).modRgn hr (by exact rfl)
  have hrgn := s.rgn_modRgn r (fun g => g.opened w) h.regions
  rw [State.openWindow_eq]
  unfold State.accountsOpened
  generalize (s.modRgn r fun g => g.opened w) = u at hmod hfill hrgn
  have hbudget : State.InRegion r Region.unspent u (u.budgetCheck r ((u.rgn r).cycle - 1)) :=
    (State.InRegion.refl hmod.regular).budgetCheck (fun _ _ k => k) _
  have hmarked : State.InRegion r Region.unspent u ((u.budgetCheck r ((u.rgn r).cycle - 1)).flushMark r) :=
    hbudget.forms (fun _ _ => Region.unspent_of_core) (State.Forms.of_regular hbudget.regular).flushMark
      ((Keeps.flushMark_keeps (List.Subset.refl _) (Keeps.refl _) r).regular hbudget.regular)
  have hfilled : State.Fills r s ((u.budgetCheck r ((u.rgn r).cycle - 1)).flushMark r) := (hfill.budgetCheck hr _).flushMark hr
  dsimp only
  have hopen : State.InRegion r Region.unspent u (if (u.rgn r).win_.unbudgeted = (s.rgn r).win_.unbudgeted then _ else _) :=
    .ite hmarked (hmarked.modRgn (f := fun g => { g with
      former := Region.budgetMark (((u.budgetCheck r ((u.rgn r).cycle - 1)).flushMark r).rgn r).cycle w (u.rgn r).win_.unbudgeted g.former })
      (by exact rfl))
  refine ⟨?_, ⟨fun k hk => (hopen.others k hk).trans (hmod.others k hk), rfl, hopen.regular⟩, .ite hfilled (hfilled.modFormer hr (by exact rfl))⟩
  rw [← hrgn]
  exact hopen.self

/-! ### The ceiling and the target -/

/-- The ceiling code that applies in a window (R92). -/
def Region.ceilingCode (g : Region) (w : Nat) : Nat :=
  match g.govNext with
  | some (c, w0) => if w0 ≤ w then c else g.gov
  | none => g.gov

/-- The ceiling still to apply. -/
def Region.ceilingNext (g : Region) (w : Nat) : Option (Nat × Nat) :=
  match g.govNext with
  | some (c, w0) => if w0 ≤ w then none else some (c, w0)
  | none => none

theorem Region.ceiling_eq (g : Region) (w : Nat) : g.ceiling w = { g with gov := g.ceilingCode w, govNext := g.ceilingNext w } := by
  rcases hnext : g.govNext with _ | ⟨c, w0⟩
  · simp only [Region.ceiling, Region.ceilingCode, Region.ceilingNext, hnext]
    rw [← hnext]
  · simp only [Region.ceiling, Region.ceilingCode, Region.ceilingNext, hnext]
    split
    · rfl
    · rw [← hnext]

/-- The region with its target for a raw trim, and the ramp in force (R93, R95). -/
def Region.aimed (g : Region) (x : Int × Option Ramp) : Region :=
  { g with ramp := x.2, tg := g.target x.1, trim := g.clipTrim x.1, sl := { g.sl with margin := g.margin } }

theorem State.setTarget_spec {s : State} (h : Regular s) {r : RegionNo} (hr : r < 2 ^ 28) (aux oldTg oldN : Nat) (trim : Int) :
    ((s.setTarget r aux oldTg oldN trim).rgn r).core =
      ({ s.rgn r with tg := (s.rgn r).target trim, trim := (s.rgn r).clipTrim trim, sl := { (s.rgn r).sl with margin := (s.rgn r).margin } } : Region).core ∧
    State.InRegion r (fun _ => ()) s (s.setTarget r aux oldTg oldN trim) ∧ State.Fills r s (s.setTarget r aux oldTg oldN trim) := by
  have hmod : State.InRegion r (fun _ => ()) s (s.modRgn r fun g =>
      { g with tg := g.target trim, trim := g.clipTrim trim, sl := { g.sl with margin := g.margin } }) :=
    (State.InRegion.refl h).modRgn (by exact rfl)
  have hfill : State.Fills r s (s.modRgn r fun g =>
      { g with tg := g.target trim, trim := g.clipTrim trim, sl := { g.sl with margin := g.margin } }) :=
    (State.Fills.refl h).modRgn hr (by exact rfl)
  have hrgn := s.rgn_modRgn r (fun g : Region =>
    { g with tg := g.target trim, trim := g.clipTrim trim, sl := { g.sl with margin := g.margin } }) h.regions
  unfold State.setTarget
  dsimp only
  generalize (s.modRgn r fun g => { g with tg := g.target trim, trim := g.clipTrim trim, sl := { g.sl with margin := g.margin } }) = u at *
  have hset : State.InRegion r Region.core u (if (u.rgn r).tg = oldTg ∧ (u.rgn r).nominal = oldN then u
      else u.markTarget r aux (u.rgn r).cycle (targetValue (u.rgn r).tg (u.rgn r).nominal)) :=
    .ite (.refl hmod.regular) ((State.InRegion.refl hmod.regular).forms (fun _ _ k => k) ((State.Forms.of_regular hmod.regular).markTarget _ _ _)
      ((Keeps.markTarget_keeps (List.Subset.refl _) (Keeps.refl _) r _ _ _).regular hmod.regular))
  refine ⟨?_, ⟨fun k hk => (hset.others k hk).trans (hmod.others k hk), rfl, hset.regular⟩, .ite hfill (hfill.markTarget hr _ _ _)⟩
  rw [← hrgn]
  exact hset.self

/-- The new window's trim, ramp and target: another region, and a lane that does not work, stay as they are. -/
theorem State.trimBoundary_spec {s : State} (h : Regular s) {r : RegionNo} (hr : r < 2 ^ 28) (hstop : (s.rgn r).stop = none) (w : Nat) :
    ((s.trimBoundary r w).rgn r).core = ((s.rgn r).aimed ((s.rgn r).trimFor w s.inHold)).core ∧
    State.InRegion r (fun _ => ()) s (s.trimBoundary r w) ∧
    (∃ u, State.Fills r s u ∧ (s.trimBoundary r w).rgn r = u.rgn r) := by
  unfold State.trimBoundary
  dsimp only
  rcases (s.rgn r).trimFor w s.inHold with ⟨t, ramp⟩
  dsimp only
  have hmod : State.InRegion r (fun _ => ()) s (s.modRgn r fun g => { g with ramp := ramp }) := (State.InRegion.refl h).modRgn (by exact rfl)
  have hfill : State.Fills r s (s.modRgn r fun g => { g with ramp := ramp }) := (State.Fills.refl h).modRgn hr (by exact rfl)
  have hrgn := s.rgn_modRgn r (fun g => { g with ramp := ramp }) h.regions
  have hgoes : ¬ (s.rgn r).stop.isSome = true := by simp [hstop]
  simp only [if_neg hgoes]
  generalize (s.modRgn r fun g => { g with ramp := ramp }) = u at hmod hfill hrgn
  obtain ⟨hcore, hin, hlane⟩ := State.setTarget_spec hmod.regular hr 0 (s.rgn r).tg (s.rgn r).nominal t
  rw [hrgn] at hcore
  generalize u.setTarget r 0 (s.rgn r).tg (s.rgn r).nominal t = v at hcore hin hlane
  have hv : State.InRegion r (fun _ => ()) s v := hmod.trans hin
  have hsent : (v.sendTarget r (v.rgn r).tg w).rgn = v.rgn := by
    funext q
    exact State.rgn_congr ((Keeps.sendTarget_keeps (gs := [.xg]) (List.Subset.refl _) (Keeps.refl v) r _ _).only.same .reg (by decide)) q
  split
  · exact ⟨hcore, hv, v, hfill.trans hlane, rfl⟩
  · refine ⟨?_, hv.sendTarget _ _, v, hfill.trans hlane, ?_⟩
    · rw [hsent, hcore]
      rfl
    · rw [hsent]

/-! ### The frequency loops -/

/-- The loop settings of a region after a window boundary (R55-R57). -/
def Region.loopsAt (g : Region) (err twin : Int) : FLoop :=
  if g.floopActs then ((g.twinLoop twin).freqLoop err).fl else g.fl

theorem Region.twinLoop_eq (g : Region) (err : Int) : g.twinLoop err = { g with fl := (g.twinLoop err).fl } := by
  unfold Region.twinLoop
  dsimp only
  split
  · split <;> rfl
  · rfl

theorem Region.freqLoop_eq (g : Region) (err : Int) : g.freqLoop err = { g with fl := (g.freqLoop err).fl } := rfl

theorem Region.twinLoop_off {g : Region} (h : g.floopActs = false) (err : Int) : g.twinLoop err = g := by
  rw [Region.twinLoop, if_neg (by simp [h])]

theorem State.freqBoundary_spec {s : State} (h : Regular s) {r : RegionNo} (hstop : (s.rgn r).stop = none) (err twin : Int) :
    (s.freqBoundary r err twin).rgn r = { s.rgn r with fl := (s.rgn r).loopsAt err twin } ∧
    State.InRegion r (fun _ => ()) s (s.freqBoundary r err twin) := by
  have hmod : State.InRegion r (fun _ => ()) s (s.modRgn r fun g => g.twinLoop twin) := (State.InRegion.refl h).modRgn (by exact rfl)
  have hrgn := s.rgn_modRgn r (fun g => g.twinLoop twin) h.regions
  have hacts : ((s.rgn r).twinLoop twin).floopActs = (s.rgn r).floopActs := by rw [Region.twinLoop_eq]; rfl
  have hstop' : ((s.rgn r).twinLoop twin).stop = none := by rw [Region.twinLoop_eq]; exact hstop
  unfold State.freqBoundary
  dsimp only
  generalize (s.modRgn r fun g => g.twinLoop twin) = u at hmod hrgn
  rw [hrgn]
  rcases hf : (s.rgn r).floopActs with _ | _
  · rw [if_neg (by simp [hacts, hf])]
    refine ⟨?_, hmod⟩
    rw [hrgn, Region.twinLoop_off hf, Region.loopsAt, if_neg (by simp [hf])]
  · rw [if_pos (by simp [hacts, hf, hstop'])]
    have k := Keeps.raiseIf_keeps (gs := [.ev]) (List.Subset.refl _) (Keeps.refl (u.modRgn r fun g => g.freqLoop err))
      (!within err (fld ((s.rgn r).twinLoop twin).regs.floop.eff 23 16)) evRegionUnlock r
    refine ⟨?_, (hmod.modRgn (f := fun g => g.freqLoop err) (by exact rfl)).step k⟩
    rw [State.rgn_congr (k.only.same .reg (by decide)), u.rgn_modRgn r _ hmod.regular.regions, hrgn, Region.loopsAt, if_pos hf,
      Region.freqLoop_eq, Region.twinLoop_eq]

end Sys2Proof.Machine
end

section
/-! A window's boundary in a region, from its accounts to its frequency loop (R51, R52, R73, R92, R93, R96, R251). -/
namespace Sys2Proof.Machine
open Sys2Proof.Safety

/-- The boundary's steps from the close of the window's accounts on. -/
def State.windowOpened (s : State) (r : RegionNo) (m : WinMeas) (w : Nat) : State :=
  ((((s.windowWords r w).openWindow r w).modRgn r fun g => g.ceiling w).trimBoundary r w).freqBoundary r m.err m.twinErr

/-- The boundary's steps, one after the other. -/
def State.windowBegun (s : State) (r : RegionNo) (m : WinMeas) (w : Nat) : State :=
  ((s.formBoundary r).closeWindow r m).windowOpened r m w

theorem State.valid_of_clocked {s : State} {r : RegionNo} (h : s.clocked r = true) : validRegion r = true := by
  simp only [State.clocked, Bool.and_eq_true] at h
  obtain ⟨⟨⟨⟨⟨hvalid, _⟩, _⟩, _⟩, _⟩, _⟩ := h
  exact hvalid

theorem State.alive_of_clocked {s : State} {r : RegionNo} (h : s.clocked r = true) : (s.rgn r).chan.st ≠ .dead := by
  simp only [State.clocked, Bool.and_eq_true, decide_eq_true_eq] at h
  exact h.2

theorem execRegionWindowBoundary_live {r : RegionNo} {m : WinMeas} {s : State} (hclock : s.clocked r = true) (hstop : (s.rgn r).stop = none)
    (hwin : (s.rgn r).win < winOfQ (s.rgn r).edge) :
    execRegionWindowBoundary r m s = .next (s.windowBegun r m (winOfQ (s.rgn r).edge)) := by
  have hlive := State.alive_of_clocked hclock
  unfold execRegionWindowBoundary
  simp only [hstop, Option.isSome_none]
  rw [if_neg (by simp [hlive]), if_neg (by simp [hclock]; exact hwin)]
  rfl

theorem State.formBoundary_forms {s : State} (h : Regular s) (r : RegionNo) : State.Forms r s (s.formBoundary r) := by
  unfold State.formBoundary
  exact (((State.Forms.of_regular h).closeRun).closeWide _).modFormer (by exact fun _ _ he => he)

/-- The region at the end of a window boundary, from what the close of its accounts has left: register words x in force. -/
def Region.begun (g : Region) (x : RgnRegs) (w : Nat) (hold : Bool) : Region :=
  (((g.rewords x).opened w).ceiling w).aimed ((((g.rewords x).opened w).ceiling w).trimFor w hold)

theorem Region.ceiling_unspent {g h : Region} (k : g.unspent = h.unspent) (w : Nat) : (g.ceiling w).unspent = (h.ceiling w).unspent := by
  have e (x : Region) : (x.ceiling w).unspent = (x.unspent.ceiling w).unspent := by
    rw [x.ceiling_eq, x.unspent.ceiling_eq]
    rfl
  rw [e g, e h, k]

theorem Region.aimed_unspent {g h : Region} (k : g.unspent = h.unspent) (x : Int × Option Ramp) : (g.aimed x).unspent = (h.aimed x).unspent := by
  have e (y : Region) : (y.aimed x).unspent = (y.unspent.aimed x).unspent := rfl
  rw [e g, e h, k]

theorem Region.trimFor_unspent {g h : Region} (k : g.unspent = h.unspent) (w : Nat) (hold : Bool) : g.trimFor w hold = h.trimFor w hold := by
  have e (y : Region) : y.trimFor w hold = y.unspent.trimFor w hold := rfl
  rw [e g, e h, k]

/-- From the close of the accounts on: the words, the new accounts, the ceiling, the target, and the frequency loops. -/
theorem State.windowOpened_spec {s : State} (h : Regular s) {r : RegionNo} (hr : r < 2 ^ 28) (hstop : (s.rgn r).stop = none) (m : WinMeas) (w : Nat) :
    ∃ (x : RgnRegs) (a : Region), a.unspent = ((s.rgn r).begun x w s.inHold).unspent ∧
      (((s.windowOpened r m w).rgn r).unspent = ({ a with fl := a.loopsAt m.err m.twinErr } : Region).unspent) ∧
      (∃ l, ((s.windowOpened r m w).rgn r).former.lane = (s.rgn r).former.lane ++ l ∧ (s.xState (xId 5 r) ≠ .whole → l = [])) ∧
      (s.windowOpened r m w).sys.droop = s.sys.droop ∧ ∀ k, k ≠ r → (s.windowOpened r m w).rgn k = s.rgn k := by
  unfold State.windowOpened
  obtain ⟨⟨x, hwords⟩, hin3, hfill3, hsys3⟩ := s.windowWords_spec h hr w
  generalize s.windowWords r w = s3 at *
  have hsys4 : (s3.openWindow r w).sys = s3.sys :=
    (Keeps.openWindow_keeps (gs := [.reg, .xg, .ev]) (List.Subset.refl _) (Keeps.refl s3) r w).only.same .sys (by decide)
  obtain ⟨hopen, hin4, hfill4⟩ := State.openWindow_spec hin3.regular hr w
  generalize s3.openWindow r w = s4 at *
  have hin5 : State.InRegion r (fun _ => ()) s4 (s4.modRgn r fun g => g.ceiling w) := (State.InRegion.refl hin4.regular).modRgn (by exact rfl)
  have hfill5 : State.Fills r s4 (s4.modRgn r fun g => g.ceiling w) :=
    (State.Fills.refl hin4.regular).modRgn hr (by rw [Region.ceiling_eq])
  have hceil := s4.rgn_modRgn r (fun g => g.ceiling w) hin4.regular.regions
  have hsys5 : (s4.modRgn r fun g => g.ceiling w).sys = s4.sys := rfl
  generalize (s4.modRgn r fun g => g.ceiling w) = s5 at *
  have hceiled : (s5.rgn r).unspent = ((((s.rgn r).rewords x).opened w).ceiling w).unspent := by
    rw [hceil, Region.ceiling_unspent hopen, hwords]
  have hstop5 : (s5.rgn r).stop = none := by
    rw [show (s5.rgn r).stop = _ from (congrArg Region.stop hceiled :), Region.ceiling_eq]
    exact hstop
  have hsys6 : (s5.trimBoundary r w).sys = s5.sys :=
    (Keeps.trimBoundary_keeps (gs := [.reg, .et, .xg, .ev]) (List.Subset.refl _) (Keeps.refl s5) r w).only.same .sys (by decide)
  obtain ⟨haim, hin6, u, hfill6, hlane6⟩ := State.trimBoundary_spec hin5.regular hr hstop5 w
  generalize s5.trimBoundary r w = s6 at *
  have haimed : (s6.rgn r).unspent = ((s.rgn r).begun x w s.inHold).unspent := by
    have hhold : s5.inHold = s.inHold := by rw [State.inHold, State.inHold, hsys5, hsys4, hsys3]
    rw [Region.unspent_of_core haim, Region.aimed_unspent hceiled, Region.trimFor_unspent hceiled, hhold]
    rfl
  have hstop6 : (s6.rgn r).stop = none := (congrArg Region.stop haim :).trans hstop5
  have hsys7 : (s6.freqBoundary r m.err m.twinErr).sys = s6.sys :=
    (Keeps.freqBoundary_keeps (gs := [.reg, .ev]) (List.Subset.refl _) (Keeps.refl s6) r _ _).only.same .sys (by decide)
  obtain ⟨hloop, hin7⟩ := State.freqBoundary_spec hin6.regular hstop6 m.err m.twinErr
  obtain ⟨l, hl, hnil⟩ := (((hfill3.trans hfill4).trans hfill5).trans hfill6).lane
  refine ⟨x, s6.rgn r, haimed, congrArg Region.unspent hloop, ⟨l, ?_, hnil⟩, ?_, fun k hk => ?_⟩
  · rw [hloop, ← hl, ← hlane6]
  · rw [hsys7, hsys6, hsys5, hsys4, hsys3]
  · rw [hin7.others k hk, hin6.others k hk, hin5.others k hk, hin4.others k hk, hin3.others k hk]

/-- What a window's boundary leaves of a region and of the others. -/
structure State.Begun (r : RegionNo) (m : WinMeas) (w : Nat) (s t : State) : Prop where
  region : ∃ (u : State) (x : RgnRegs) (a : Region), State.WindowClosed r m (s.formBoundary r) u ∧
    a.unspent = ((u.rgn r).begun x w s.inHold).unspent ∧ (t.rgn r).unspent = ({ a with fl := a.loopsAt m.err m.twinErr } : Region).unspent ∧
    (∃ l, (t.rgn r).former.lane = (u.rgn r).former.lane ++ l ∧ (u.xState (xId 5 r) ≠ .whole → l = [])) ∧ t.sys.droop = u.sys.droop
  others : ∀ k, k ≠ r → t.rgn k = s.rgn k

theorem State.WindowClosed.stop {r : RegionNo} {m : WinMeas} {s t : State} (h : State.WindowClosed r m s t) :
    (t.rgn r).stop = (s.rgn r).stop := (congrArg Region.stop h.kept.self :)

theorem State.windowBegun_spec {s : State} (h : Regular s) {r : RegionNo} (hr : r < 2 ^ 28) (hstop : (s.rgn r).stop = none) (m : WinMeas) (w : Nat) :
    State.Begun r m w s (s.windowBegun r m w) := by
  have hform := State.formBoundary_forms h r
  have hregular := (Keeps.formBoundary_keeps (List.Subset.refl _) (Keeps.refl s) r).regular h
  have hsys : (s.formBoundary r).sys = s.sys :=
    (Keeps.formBoundary_keeps (gs := [.reg, .et, .xg, .ev]) (List.Subset.refl _) (Keeps.refl s) r).only.same .sys (by decide)
  have hstop1 : ((s.formBoundary r).rgn r).stop = none := (congrArg Region.stop hform.region :).trans hstop
  unfold State.windowBegun
  have hclosed := State.closeWindow_spec hregular hr m
  have hothers := hform.others
  have hhold : (s.formBoundary r).sys.hold = s.sys.hold := by rw [hsys]
  have hhold2 := hclosed.hold.trans hhold
  have hstop2 : (((s.formBoundary r).closeWindow r m).rgn r).stop = none := hclosed.stop.trans hstop1
  refine ⟨?_, ?_⟩
  · refine ⟨(s.formBoundary r).closeWindow r m, ?_⟩
    obtain ⟨x, a, ha, hend, hlane, hdroop, -⟩ := State.windowOpened_spec hclosed.kept.regular hr hstop2 m w
    exact ⟨x, a, hclosed, by rw [ha, State.inHold, State.inHold, hhold2], hend, hlane, hdroop⟩
  · intro k hk
    obtain ⟨x, a, -, -, -, -, hrest⟩ := State.windowOpened_spec hclosed.kept.regular hr hstop2 m w
    exact (hrest k hk).trans ((hclosed.kept.others k hk).trans (hothers k hk))

/-- What reads no part of a region that a budget's check or its crossings change, nor its loop settings, is read from what the boundary has made of it. -/
theorem Region.read_of_unspent {β : Type} {g a b : Region} {fl : FLoop} (f : Region → β) (ha : a.unspent = b.unspent)
    (hg : g.unspent = ({ a with fl := fl } : Region).unspent) (hf : ∀ (x : Region) (y : FLoop), f ({ x with fl := y } : Region).unspent = f x) (hf' : ∀ x : Region, f x.unspent = f x) :
    f g = f b := by
  rw [← hf' g, hg, hf, ← hf' a, ha, hf']

/-! ### What the boundary has made, read field by field -/

/-- A region but for what a window's boundary changes in it. -/
def Region.unbegun (g : Region) : Region :=
  { g.unclosed with
    regs := {}, win := 0, overCnt := 0, gov := 0, govNext := none, ramp := none, trim := 0, tg := 0, sl := { g.sl with margin := 0 } }

theorem Region.begun_eq (g : Region) (x : RgnRegs) (w : Nat) (hold : Bool) : ∃ c : Region, g.begun x w hold = c.aimed (c.trimFor w hold) ∧
    c = { (g.rewords x).opened w with gov := g.ceilingCode w, govNext := g.ceilingNext w } :=
  ⟨_, rfl, Region.ceiling_eq _ _⟩

theorem Region.trimFor_plan {g : Region} {w : Nat} {p : HeldPlan} (h : g.planFor w = some p) :
    g.trimFor w false = (p.trims.getD (w - p.win0) 0, none) := by
  rw [Region.trimFor, if_neg Bool.false_ne_true, h]

theorem Region.trimFor_nothing {g : Region} (w : Nat) (hplans : g.plans = []) (hramp : g.ramp = none) : (g.trimFor w false).1 = 0 := by
  have hplan : g.planFor w = none := by rw [Region.planFor, hplans]; rfl
  rw [Region.trimFor, if_neg Bool.false_ne_true, hplan, hramp, hplans]

theorem Region.loops_unspent {g h : Region} (k : g.unspent = h.unspent) (err twin : Int) :
    ((g.twinLoop twin).freqLoop err).fl = ((h.twinLoop twin).freqLoop err).fl := by
  have e (y : Region) : ((y.twinLoop twin).freqLoop err).fl = ((y.unspent.twinLoop twin).freqLoop err).fl := by
    have htwin : (y.unspent.twinLoop twin) = (y.twinLoop twin).unspent := by
      unfold Region.twinLoop
      rcases Decidable.em (y.floopActs = true ∧ y.chan.twin = .standby) with hacts | hacts
      · rw [if_pos hacts, if_pos (show y.unspent.floopActs = true ∧ y.unspent.chan.twin = .standby from hacts)]
        rcases hb : y.chan.activeB with _ | _
        · rw [if_neg (show ¬ y.unspent.chan.activeB = true by rw [show y.unspent.chan.activeB = false from hb]; decide)]
          rfl
        · rw [if_pos (show y.unspent.chan.activeB = true from hb)]
          rfl
      · rw [if_neg hacts, if_neg (show ¬ (y.unspent.floopActs = true ∧ y.unspent.chan.twin = .standby) from hacts)]
    rw [htwin]
    rfl
  rw [e g, e h, k]

/-- The close of a window's accounts behind the former's own boundary, told of the state before. -/
theorem State.WindowClosed.of_formed {r : RegionNo} {m : WinMeas} {s u : State} (h : Regular s) (hr : r < 2 ^ 28)
    (k : State.WindowClosed r m (s.formBoundary r) u) : State.WindowClosed r m s u := by
  have hform := State.formBoundary_forms h r
  have hsys : (s.formBoundary r).sys = s.sys :=
    (Keeps.formBoundary_keeps (gs := [.reg, .et, .xg, .ev]) (List.Subset.refl _) (Keeps.refl s) r).only.same .sys (by decide)
  have hfill := (State.Fills.refl (r := r) h).formBoundary hr
  generalize s.formBoundary r = v at k hform hsys hfill
  have hself : ∃ e, v.rgn r = { s.rgn r with former := e } := by
    refine ⟨(v.rgn r).former, ?_⟩
    rw [← hform.region]
  obtain ⟨e, hself⟩ := hself
  have hhold : v.inHold = s.inHold := by rw [State.inHold, hsys]
  have hx := hform.crossing (xId 5 r)
  have hsum : v.windowSummary r m = s.windowSummary r m := by
    have hread := State.windowReadings_congr (s := s) (t := v) r m fun q => by
      rcases Decidable.em (q = r) with rfl | hne
      · rw [hself]
      · rw [hform.others q hne]
    simp only [State.windowSummary, hread, hself]
  refine ⟨⟨fun q hq => (k.kept.others q hq).trans (hform.others q hq), k.kept.self.trans (by rw [hself, Region.unclosed_former]), k.kept.regular⟩,
    k.accounts.trans (by rw [hself]), fun hw => ?_, fun hw => ?_, k.crossing.trans hx, k.droop, k.hold.trans (congrArg Sys.hold hsys)⟩
  · obtain ⟨h1, h2, h3, h4⟩ := k.shown (hx.trans hw)
    exact ⟨hsum ▸ h1, h2.trans (by rw [hself, hhold]; rfl), h3.trans (by rw [hself]; rfl), h4.trans (by rw [hself])⟩
  · obtain ⟨h1, h2⟩ := k.unshown (by rwa [hx])
    obtain ⟨l, hl, hnil⟩ := hfill.lane
    exact ⟨by rw [h1, hl, hnil hw, List.append_nil], h2.trans (by rw [hself]; rfl)⟩

/-! ### The boundary of a DEAD region -/

theorem execRegionWindowBoundary_dead {r : RegionNo} {m : WinMeas} {s : State} (hvalid : validRegion r = true)
    (hdead : (s.rgn r).chan.st = .dead) (hwin : (s.rgn r).win < s.win) : execRegionWindowBoundary r m s = .next (s.deadBoundary r) := by
  unfold execRegionWindowBoundary
  exact if_pos ⟨hvalid, hdead, hwin⟩

/-- A DEAD region as a window boundary passes it (R52, R73). -/
def State.passed (s : State) (r : RegionNo) (g : Region) : Region :=
  { (s.showWords r g) with
    win := s.win
    win_ := { g.win_.close with
      quanta := 0, sixteenths := 0, trips := 0, stretched := false, spent := false, range := false
      aheadQ := 0, aheadS := 0, aheadT := 0, aheadR := false } }

@[simp] theorem State.rgn_warned (s : State) (r q : RegionNo) : (s.warned r).rgn q = s.rgn q := rfl

theorem State.warned_keeps (s : State) (r : RegionNo) : Keeps [.sys] s (s.warned r) :=
  ⟨⟨fun g hg => by cases g <;> first | rfl | exact absurd (by decide) hg⟩, Regular.keep rfl⟩

theorem State.deadBoundary_eq (s : State) (r : RegionNo) : s.deadBoundary r = (s.modRgn r (s.passed r)).warned r := rfl

theorem State.passed_roStatus (s : State) (r : RegionNo) (g : Region) :
    (s.xState (xId 5 r) = .whole → (s.passed r g).roStatus = word (g.statusWord s.inHold)) ∧
    (s.xState (xId 5 r) ≠ .whole → (s.passed r g).roStatus = g.showChan.roStatus) := by
  constructor
  · intro h
    simp only [State.passed, State.showWords, if_pos h]
    rfl
  · intro h
    simp only [State.passed, State.showWords, if_neg h]

/-- Settles O51: each step of the boundary has its own fields, and hands on what the step before it has made. -/
theorem aWindowBegins : Obligations.AWindowBegins := by
  unfold Obligations.AWindowBegins
  refine ⟨?_, ?_⟩
  · intro r m s hs hclock hstop hwin g w
    have hr : r < 2 ^ 28 := Nat.lt_trans (validRegion_lt (State.valid_of_clocked hclock)) (by decide)
    have hrun : exec (.regionWindowBoundary r m) s = .next (s.windowBegun r m w) := execRegionWindowBoundary_live hclock hstop hwin
    obtain ⟨⟨u, x, a, hclosed, ha, hend, ⟨l, hlane, hnil⟩, hdroop⟩, hothers⟩ := State.windowBegun_spec hs hr hstop m w
    replace hclosed := hclosed.of_formed hs hr
    obtain ⟨c, hb, hc⟩ := (u.rgn r).begun_eq x w s.inHold
    rw [hb] at ha
    have hread {β : Type} (f : Region → β) (hf : ∀ (x : Region) (y : FLoop), f ({ x with fl := y } : Region).unspent = f x)
        (hf' : ∀ x : Region, f x.unspent = f x) : f ((s.windowBegun r m w).rgn r) = f (c.aimed (c.trimFor w s.inHold)) :=
      Region.read_of_unspent f ha hend hf hf'
    have hkept {β : Type} (f : Region → β) (hf : ∀ x : Region, f x.unbegun = f x) : f c = f g := by
      have hcu : c.unbegun = (u.rgn r).unbegun := by rw [hc]; rfl
      have hug : (u.rgn r).unbegun = g.unbegun := by
        have e (y : Region) : y.unbegun = y.unclosed.unbegun := rfl
        rw [e, hclosed.kept.self, ← e]
      rw [← hf c, hcu, hug, hf]
    have hceil : (u.rgn r).ceilingCode w = g.ceilingCode w := by
      have e (y : Region) : y.ceilingCode w = y.unclosed.ceilingCode w := rfl
      rw [e, hclosed.kept.self, ← e]
    have hro {β : Type} (f : Region → β) (hf : ∀ (x : Region) (y : FLoop), f ({ x with fl := y } : Region).unspent = f x)
        (hf' : ∀ x : Region, f x.unspent = f x) (hfc : f (c.aimed (c.trimFor w s.inHold)) = f (u.rgn r)) :
        f ((s.windowBegun r m w).rgn r) = f (u.rgn r) := (hread f hf hf').trans hfc
    have hstatus := hro (·.roStatus) (fun _ _ => rfl) (fun _ => rfl) (by rw [hc]; rfl)
    have hevcnt := hro (·.roEvcnt) (fun _ _ => rfl) (fun _ => rfl) (by rw [hc]; rfl)
    have hstretch := hro (·.roStretch) (fun _ _ => rfl) (fun _ => rfl) (by rw [hc]; rfl)
    have hwarn := hro (·.win_.warn) (fun _ _ => rfl) (fun _ => rfl) (by rw [hc]; rfl)
    have haim := hread (·.trim) (fun _ _ => rfl) (fun _ => rfl)
    have htg := hread (·.tg) (fun _ _ => rfl) (fun _ => rfl)
    have hclip (z : Int) := hread (fun y => y.clipTrim z) (fun _ _ => rfl) (fun _ => rfl)
    have htarget (z : Int) := hread (fun y => y.target z) (fun _ _ => rfl) (fun _ => rfl)
    have hramp := hread (·.ramp) (fun _ _ => rfl) (fun _ => rfl)
    have hacts := hread (·.floopActs) (fun _ _ => rfl) (fun _ => rfl)
    have hloops : ((s.windowBegun r m w).rgn r).fl = a.loopsAt m.err m.twinErr := (congrArg Region.fl hend :)
    have hfl : a.fl = g.fl := (congrArg Region.fl ha :).trans (hkept (·.fl) fun _ => rfl)
    have haacts : a.floopActs = ((s.windowBegun r m w).rgn r).floopActs := (congrArg Region.floopActs ha :).trans hacts.symm
    have hplanFor : c.planFor w = g.planFor w := hkept (·.planFor w) fun _ => rfl
    have hwinr := (hread (·.win) (fun _ _ => rfl) (fun _ => rfl)).trans (by rw [hc]; rfl : _ = w)
    have hquanta := (hread (·.win_.quanta) (fun _ _ => rfl) (fun _ => rfl)).trans (by rw [hc]; rfl : _ = (u.rgn r).win_.aheadQ)
    have hsixteenths := (hread (·.win_.sixteenths) (fun _ _ => rfl) (fun _ => rfl)).trans (by rw [hc]; rfl : _ = (u.rgn r).win_.aheadS)
    have htrips := (hread (·.win_.trips) (fun _ _ => rfl) (fun _ => rfl)).trans (by rw [hc]; rfl : _ = (u.rgn r).win_.aheadT)
    have hgov := (hread (·.gov) (fun _ _ => rfl) (fun _ => rfl)).trans (by rw [hc]; rfl : _ = (u.rgn r).ceilingCode w)
    have hedge := (hread (·.edge) (fun _ _ => rfl) (fun _ => rfl)).trans (hkept (·.edge) fun _ => rfl)
    have hcycle := (hread (·.cycle) (fun _ _ => rfl) (fun _ => rfl)).trans (hkept (·.cycle) fun _ => rfl)
    have hnominal := (hread (·.nominal) (fun _ _ => rfl) (fun _ => rfl)).trans (hkept (·.nominal) fun _ => rfl)
    have hcplans : c.plans = (u.rgn r).plans ∧ c.ramp = (u.rgn r).ramp := by rw [hc]; exact ⟨rfl, rfl⟩
    have huplans : (u.rgn r).plans = g.plans ∧ (u.rgn r).ramp = g.ramp :=
      ⟨(congrArg Region.plans hclosed.kept.self :), (congrArg Region.ramp hclosed.kept.self :)⟩
    have haccounts := hclosed.accounts
    generalize s.windowBegun r m w = t at *
    refine ⟨t, hrun, hwinr, fun hx => ?_, fun hx => ?_, hquanta.trans (by rw [haccounts]; rfl), hsixteenths.trans (by rw [haccounts]; rfl),
      htrips.trans (by rw [haccounts]; rfl), hwarn.trans (by rw [haccounts]), hedge, hcycle, hnominal, (hgov.trans hceil).trans rfl,
      fun p hhold hplan => ?_, fun hhold hplans hramp0 => ?_, fun hoff => ?_, fun hon => ?_, ?_, hothers⟩
    · obtain ⟨h1, h2, h3, h4⟩ := hclosed.shown hx
      exact ⟨by rw [hlane]; exact List.mem_append_left _ h1, hstatus.trans h2, hevcnt.trans h3, hstretch.trans h4⟩
    · obtain ⟨h1, h2⟩ := hclosed.unshown hx
      exact ⟨by rw [hlane, hnil (by rwa [hclosed.crossing]), List.append_nil, h1], hstatus.trans h2⟩
    · have htrim : c.trimFor w s.inHold = (p.trims.getD (w - p.win0) 0, none) := by
        rw [show s.inHold = false by rw [State.inHold, hhold]; rfl]
        exact Region.trimFor_plan (hplanFor.trans hplan)
      rw [htrim] at haim htg hramp
      exact ⟨haim.trans ((hclip _).trans (by rw [htrim]; rfl)).symm, hramp, htg.trans ((htarget _).trans (by rw [htrim]; rfl)).symm⟩
    · have htrim : (c.trimFor w s.inHold).1 = 0 := by
        rw [show s.inHold = false by rw [State.inHold, hhold]; rfl]
        exact Region.trimFor_nothing w (hcplans.1.trans (huplans.1.trans hplans)) (hcplans.2.trans (huplans.2.trans hramp0))
      exact ⟨haim.trans ((hclip _).trans (by rw [← htrim]; rfl)).symm, htg.trans ((htarget _).trans (by rw [← htrim]; rfl)).symm⟩
    · rw [hloops, Region.loopsAt, if_neg (by rw [haacts, hoff]; decide), hfl]
    · have hsame : ({ t.rgn r with fl := g.fl } : Region).unspent = a.unspent := by
        calc ({ t.rgn r with fl := g.fl } : Region).unspent = { (t.rgn r).unspent with fl := g.fl } := rfl
          _ = a.unspent := by rw [hend, ← hfl]; rfl
      rw [hloops, Region.loopsAt, if_pos (haacts.trans hon), Region.loops_unspent hsame]
    · rw [hdroop, hclosed.droop, hwarn]
  · intro r m s hs hvalid hdead hwin
    have hrun : exec (.regionWindowBoundary r m) s = .next (s.deadBoundary r) := execRegionWindowBoundary_dead hvalid hdead hwin
    rw [State.deadBoundary_eq] at hrun
    have hrgn := s.rgn_modRgn r (s.passed r) hs.regions
    have hothers (k : RegionNo) (hk : k ≠ r) := s.rgn_modRgn_ne (s.passed r) hk
    have hkeeps : Keeps [.sys, .reg] s (s.modRgn r (s.passed r)) := Keeps.modRgn_keeps (by decide) (Keeps.refl s) r _
    obtain ⟨hshown, hunshown⟩ := s.passed_roStatus r (s.rgn r)
    generalize s.modRgn r (s.passed r) = u at hrun hrgn hothers hkeeps
    have honly := (hkeeps.trans ((State.warned_keeps u r).mono (hs := [.sys, .reg]) (by decide))).only
    refine ⟨_, hrun, ?_, ?_, fun hx => ?_, fun hx => ?_, u.warned_droop r, fun k hk => hothers k hk, honly⟩
    · rw [State.rgn_warned, hrgn]
      rfl
    · rw [State.rgn_warned, hrgn]
      rfl
    · rw [State.rgn_warned, hrgn, hshown hx]
    · rw [State.rgn_warned, hrgn, hunshown hx]

end Sys2Proof.Machine
end

section
/-! SUPPORT. The period target, the frequency loops, and the commands on a region's period (R55-R57, R74, R93, R324). -/
namespace Sys2Proof.Machine
open Sys2Proof.Safety

/-! ### The target and the loops -/

theorem Region.target_planned {g : Region} {trim : Int} (hplan : g.planEn = true) (hst : g.sl.st ≠ .fixed) (hfast : g.trimFast ≤ trim)
    (hslow : trim ≤ g.trimSlow) :
    g.target trim = max (g.nominal * (64 + trim)).toNat (64 * max 160 (max g.gov (min g.minCode g.nominal))) := by
  have hclamp : clampI g.trimFast g.trimSlow trim = trim := by rw [clampI, min_eq_right hslow, max_eq_right hfast]
  simp only [Region.target, if_pos hplan, hclamp, Region.margin, if_neg hst, Nat.add_zero]

theorem Region.target_unplanned {g : Region} (trim : Int) (hplan : g.planEn = false) :
    g.target trim = max (64 * g.nominal) (64 * max 160 (max g.gov (min g.minCode g.nominal))) + g.margin := by
  have hoff : ¬ g.planEn = true := by simp [hplan]
  have hnominal : ((g.nominal : Int) * (64 + 0)).toNat = 64 * g.nominal := by omega
  simp only [Region.target, if_neg hoff, hnominal]

theorem biasStep_eq (bias : Nat) (err : Int) (shift : Nat) :
    (biasStep bias err shift : Int) = min 4095 (max 0 ((bias : Int) + Int.fdiv err (2 ^ shift))) := by
  unfold biasStep clampI asr fdiv
  omega

theorem within_iff {err : Int} {ps : Nat} : within err ps = true ↔ err.natAbs * 125 ≤ ps * 64 := by simp [within]

/-- The loop acts on the bias of the active channel, and FLOCK follows the error (R55, R56). -/
theorem Region.freqLoop_spec (g : Region) (err : Int) (hfast : 0 < g.fl.fast) :
    ((if g.chan.activeB then (g.freqLoop err).fl.biasB else (g.freqLoop err).fl.biasA) =
      biasStep (if g.chan.activeB then g.fl.biasB else g.fl.biasA) err (fld g.regs.floop.eff 7 4)) ∧
    (if g.chan.activeB then (g.freqLoop err).fl.biasA = g.fl.biasA else (g.freqLoop err).fl.biasB = g.fl.biasB) ∧
    (g.freqLoop err).fl.fast = g.fl.fast - 1 ∧
    (g.freqLoop err).fl.flock = (if !within err (fld g.regs.floop.eff 23 16) then false
      else if within err (fld g.regs.floop.eff 15 8) then true else g.fl.flock) := by
  have hshift : 0 < g.fl.fast ∨ g.ws.isNone = true ∨ bitOf g.regs.ctrl.eff 3 = true := Or.inl hfast
  simp only [Region.freqLoop, if_pos hshift]
  rcases g.chan.activeB with _ | _
  · exact ⟨rfl, rfl, rfl, rfl⟩
  · exact ⟨rfl, rfl, rfl, rfl⟩

theorem Region.twinLoop_spec {g : Region} (err : Int) (hacts : g.floopActs = true) (htwin : g.chan.twin = .standby) (hlocked : g.chan.locked = false) :
    ((if g.chan.activeB then (g.twinLoop err).fl.biasA else (g.twinLoop err).fl.biasB) =
      biasStep (if g.chan.activeB then g.fl.biasA else g.fl.biasB) err (fld g.regs.floop.eff 7 4)) ∧
    (if g.chan.activeB then (g.twinLoop err).fl.biasB = g.fl.biasB else (g.twinLoop err).fl.biasA = g.fl.biasA) := by
  have hdo : g.floopActs = true ∧ g.chan.twin = .standby := ⟨hacts, htwin⟩
  have hfast : (!g.chan.locked) = true ∨ g.ws.isNone = true ∨ bitOf g.regs.ctrl.eff 3 = true := Or.inl (by simp [hlocked])
  simp only [Region.twinLoop, if_pos hdo, if_pos hfast]
  rcases g.chan.activeB with _ | _
  · exact ⟨rfl, rfl⟩
  · exact ⟨rfl, rfl⟩

/-! ### REGION_SET_PERIOD and REGION_QUERY -/

theorem State.xBlock_of_whole {s : State} {id : Nat} (h : s.xState id = .whole) : s.xBlock id = none := by
  rw [State.xBlock, h]

/-- One region's code, where it takes one (R74). -/
theorem State.periodAll_one {s : State} {q : Req} {r c c' : Nat} {clamped : Bool} (h : s.periodFor q r c = .ok (c', clamped, false)) :
    s.periodAll q [r] c = .wait (.period [r] 0 (toLE 1 1 ++ zeros 3 ++ (toLE 2 r ++ toLE 2 (c' + at_ (b2n clamped) 13)))) (s.sendCode r c') := by
  unfold State.periodAll
  simp only [List.map_cons, List.map_nil, List.all_cons, List.all_nil, List.any_cons, List.any_nil, List.filter_cons, List.filter_nil,
    List.foldl_cons, List.foldl_nil, State.periodEntry, h]
  rfl

theorem State.periodAll_refused {s : State} {q : Req} {r c st : Nat} (h : s.periodFor q r c = .error st) :
    s.periodAll q [r] c = refuse (codeReply st) s := by
  unfold State.periodAll
  simp only [List.map_cons, List.map_nil, h]
  rfl

/-- A raw code for one region (R74). -/
theorem cmdRegionSetPeriod_raw {q : Req} {s : State} (hone : q.u8 0 = 0) (hlevel : q.level = true) (hzero : q.u8 1 = 0) (hlow : 160 ≤ q.le 2 2)
    (hhigh : q.le 2 2 ≤ 1280) (hexists : s.regionExists q.tgt = true) : cmdRegionSetPeriod q s = s.periodAll q [q.tgt] (q.le 2 2) := by
  unfold cmdRegionSetPeriod
  simp only [if_pos hone, State.regionTarget_of_exists hexists, if_pos hlevel]
  rw [if_neg (by simp [hzero])]
  exact if_neg (by omega)

/-- A level of the base configuration for one region (R74). -/
theorem cmdRegionSetPeriod_level {q : Req} {s : State} {c : Nat} (hone : q.u8 0 = 0) (hlevel : q.level = false) (hperf : q.u8 1 ≤ 15)
    (hcode : s.perfCode (districtOf q.tgt) (q.u8 1) = some c) (hexists : s.regionExists q.tgt = true) :
    cmdRegionSetPeriod q s = s.periodAll q [q.tgt] c := by
  have hnot : ¬ q.level = true := by simp [hlevel]
  have hle : ¬ 15 < q.u8 1 := by omega
  unfold cmdRegionSetPeriod
  simp only [if_pos hone, State.regionTarget_of_exists hexists, if_neg hnot, if_neg hle, hcode]

theorem State.periodFor_dead {s : State} {q : Req} {r : RegionNo} (c : Nat) (hdead : (s.rgn r).chan.st = .dead) :
    s.periodFor q r c = .error stRefused := by
  unfold State.periodFor
  exact if_pos (Or.inr hdead)

theorem State.periodFor_taken {s : State} {q : Req} {r : RegionNo} {c : Nat} (hexists : s.regionExists r = true)
    (hlive : (s.rgn r).chan.st ≠ .dead) (hx : s.xState (xId 4 r) = .whole) (hc : (s.rgn r).minCode ≤ c) :
    s.periodFor q r c = .ok (c, false, false) := by
  unfold State.periodFor
  rw [if_neg (by simp [hexists, hlive]), State.xBlock_of_whole hx]
  exact if_pos hc

theorem State.periodFor_clamped {s : State} {q : Req} {r : RegionNo} {c : Nat} (hexists : s.regionExists r = true)
    (hlive : (s.rgn r).chan.st ≠ .dead) (hx : s.xState (xId 4 r) = .whole) (hc : c < (s.rgn r).minCode) (hlevel : q.level = false) :
    s.periodFor q r c = .ok ((s.rgn r).minCode, true, false) := by
  unfold State.periodFor
  rw [if_neg (by simp [hexists, hlive]), State.xBlock_of_whole hx]
  simp only [if_neg (Nat.not_le.mpr hc)]
  exact if_pos (by simp [hlevel])

/-! A request posted leaves what its checks read. -/

theorem posted_regionExists (s : State) (op : Nat) (q : Req) (r : RegionNo) : (posted s op q).regionExists r = s.regionExists r := by
  have h : (posted s op q).die = s.die := (posted_only s op q).same .die (by decide)
  simp only [State.regionExists, State.dieAt, h]

theorem posted_rgn (s : State) (op : Nat) (q : Req) (r : RegionNo) : (posted s op q).rgn r = s.rgn r :=
  State.rgn_congr ((posted_only s op q).same .reg (by decide)) r

theorem posted_perfCode (s : State) (op : Nat) (q : Req) (d l : Nat) : (posted s op q).perfCode d l = s.perfCode d l := rfl

theorem posted_rgnWord (s : State) (op : Nat) (q : Req) (r : RegionNo) (off : Nat) : (posted s op q).rgnWord r off = s.rgnWord r off := by
  simp only [State.rgnWord, posted_rgn]

theorem exec_regionSetPeriod_raw {q : Req} {s : State} (hready : ready s 0x0201 q = true) (hone : q.u8 0 = 0) (hlevel : q.level = true)
    (hzero : q.u8 1 = 0) (hlow : 160 ≤ q.le 2 2) (hhigh : q.le 2 2 ≤ 1280) (hexists : s.regionExists q.tgt = true)
    (hlive : (s.rgn q.tgt).chan.st ≠ .dead) (hx : s.xState (xId 4 q.tgt) = .whole) (hmin : (s.rgn q.tgt).minCode ≤ q.le 2 2) :
    exec (.regionSetPeriod q) s = .next (((posted s 0x0201 q).sendCode q.tgt (q.le 2 2)).modBox q.mbx fun b => { b with
      wait := some (.period [q.tgt] 0 (toLE 1 1 ++ zeros 3 ++ (toLE 2 q.tgt ++ toLE 2 (q.le 2 2)))) }) := by
  have hposted : (posted s 0x0201 q).regionExists q.tgt = true := (posted_regionExists s _ q _).trans hexists
  have hcmd := (cmdRegionSetPeriod_raw hone hlevel hzero hlow hhigh hposted).trans
    (State.periodAll_one (State.periodFor_taken (q := q) hposted (by rwa [posted_rgn]) hx (by rwa [posted_rgn])))
  exact congrArg Host.Outcome.next (State.submit_wait (by decide) hready hcmd)

theorem exec_regionSetPeriod_level {q : Req} {s : State} {c : Nat} (hready : ready s 0x0201 q = true) (hone : q.u8 0 = 0)
    (hlevel : q.level = false) (hperf : q.u8 1 ≤ 15) (hcode : s.perfCode (districtOf q.tgt) (q.u8 1) = some c)
    (hexists : s.regionExists q.tgt = true) (hlive : (s.rgn q.tgt).chan.st ≠ .dead) (hx : s.xState (xId 4 q.tgt) = .whole)
    (hmin : c < (s.rgn q.tgt).minCode) :
    exec (.regionSetPeriod q) s = .next (((posted s 0x0201 q).sendCode q.tgt (s.rgn q.tgt).minCode).modBox q.mbx fun b => { b with
      wait := some (.period [q.tgt] 0 (toLE 1 1 ++ zeros 3 ++ (toLE 2 q.tgt ++ toLE 2 ((s.rgn q.tgt).minCode + 2 ^ 13)))) }) := by
  have hposted : (posted s 0x0201 q).regionExists q.tgt = true := (posted_regionExists s _ q _).trans hexists
  have hcmd := (cmdRegionSetPeriod_level hone hlevel hperf ((posted_perfCode s _ q _ _).trans hcode) hposted).trans
    (State.periodAll_one (State.periodFor_clamped (q := q) hposted (by rwa [posted_rgn]) hx (by rwa [posted_rgn]) hlevel))
  rw [posted_rgn] at hcmd
  exact congrArg Host.Outcome.next (State.submit_wait (by decide) hready hcmd)

theorem exec_regionSetPeriod_dead {q : Req} {s : State} (hready : ready s 0x0201 q = true) (hone : q.u8 0 = 0) (hlevel : q.level = true)
    (hzero : q.u8 1 = 0) (hlow : 160 ≤ q.le 2 2) (hhigh : q.le 2 2 ≤ 1280) (hexists : s.regionExists q.tgt = true)
    (hdead : (s.rgn q.tgt).chan.st = .dead) :
    exec (.regionSetPeriod q) s = .next ((posted s 0x0201 q).answer q.mbx (codeReply 0x50)) := by
  have hposted : (posted s 0x0201 q).regionExists q.tgt = true := (posted_regionExists s _ q _).trans hexists
  have hcmd := (cmdRegionSetPeriod_raw hone hlevel hzero hlow hhigh hposted).trans
    (State.periodAll_refused (State.periodFor_dead (q := q) _ (by rwa [posted_rgn])))
  exact congrArg Host.Outcome.next (State.submit_done (by decide) hready hcmd)

theorem exec_regionQuery {q : Req} {s : State} (hready : ready s 0x0202 q = true) (hexists : s.regionExists q.tgt = true) :
    exec (.regionQuery q) s = .next ((posted s 0x0202 q).answer q.mbx
      (okReply ((List.range 16).flatMap (fun i => toLE 4 (s.rgnWord q.tgt (4 * i))) ++ toLES 2 (s.rgn q.tgt).trim))) := by
  have hposted : (posted s 0x0202 q).regionExists q.tgt = true := (posted_regionExists s _ q _).trans hexists
  have hcmd : cmdRegionQuery q (posted s 0x0202 q) = .done
      (okReply ((List.range 16).flatMap (fun i => toLE 4 (s.rgnWord q.tgt (4 * i))) ++ toLES 2 (s.rgn q.tgt).trim)) (posted s 0x0202 q) := by
    unfold cmdRegionQuery
    simp only [State.regionTarget_of_exists hposted, posted_rgnWord, posted_rgn]
  exact congrArg Host.Outcome.next (State.submit_done (by decide) hready hcmd)

end Sys2Proof.Machine
end

section
/-! SUPPORT. A code for a region is sent, and latched (R58, R74, R188-R190). -/
namespace Sys2Proof.Machine
open Sys2Proof.Safety

/-! ### The word goes out -/

theorem State.xState_sent {s : State} (h : Regular s) (r : RegionNo) (c id : Nat) :
    (s.modRgn r fun g => { g with sent := some c }).xState id = s.xState id := by
  have hpartner (q : RegionNo) (k : Nat) : ((s.modRgn r fun g => { g with sent := some c }).rgn q).partner k = (s.rgn q).partner k := by
    rcases Decidable.em (q = r) with rfl | hq
    · rw [s.rgn_modRgn q _ h.regions]
      rfl
    · rw [s.rgn_modRgn_ne _ hq]
  exact State.xState_congr (s := s) (t := s.modRgn r fun g => { g with sent := some c }) rfl rfl rfl rfl hpartner rfl

/-- A crossing that is free begins the code's transfer at once. -/
theorem State.sendCode_free {s : State} (h : Regular s) {r : RegionNo} (c : Nat) (hx : s.xState (xId 4 r) = .whole) (hwaits : s.planWaits r = false)
    (honly : s.planOnly = false) (hfree : (s.rgn r).tx = none) :
    ((s.sendCode r c).rgn r).tx = some (.period c, s.now) ∧ ((s.sendCode r c).rgn r).sent = none := by
  have hrgn := s.rgn_modRgn r (fun g : Region => { g with sent := some c }) h.regions
  have hwaits' : (s.modRgn r fun g => { g with sent := some c }).planWaits r = false := by
    rw [← hwaits]
    simp only [State.planWaits, hrgn]
    rfl
  have hgoes : (s.modRgn r fun g => { g with sent := some c }).xState (xId 4 r) = .whole ∧
      (!(s.modRgn r fun g => { g with sent := some c }).planWaits r) = true ∧ (!(s.modRgn r fun g => { g with sent := some c }).planOnly) = true :=
    ⟨(State.xState_sent h r c _).trans hx, by rw [hwaits']; rfl, by rw [show (s.modRgn r fun g => { g with sent := some c }).planOnly = s.planOnly from rfl, honly]; rfl⟩
  rw [State.sendCode, State.pump, if_pos hgoes, State.rgn_modRgn _ r _ (s.modRgn_wf r _ h.regions), hrgn]
  simp only [Region.load4, hfree]
  exact ⟨rfl, trivial⟩

/-- Behind a word in transfer the newest code waits. -/
theorem State.sendCode_busy {s : State} (h : Regular s) {r : RegionNo} (c : Nat) {x : Xfer × Nat} (hbusy : (s.rgn r).tx = some x) :
    ((s.sendCode r c).rgn r).tx = some x ∧ ((s.sendCode r c).rgn r).sent = some c := by
  have hrgn := s.rgn_modRgn r (fun g : Region => { g with sent := some c }) h.regions
  unfold State.sendCode State.pump
  split
  · rw [State.rgn_modRgn _ r _ (s.modRgn_wf r _ h.regions), hrgn]
    simp only [Region.load4, hbusy]
    exact ⟨trivial, trivial⟩
  · rw [hrgn]
    exact ⟨hbusy, rfl⟩

/-! ### The word is latched -/

/-- The region with a code latched as pending, or an equal one cleared (R58, R59, R64). -/
def Region.latched (g : Region) (c now : Nat) : Region :=
  let same := decide (c = g.nominal) && g.stop.isNone
  { g with
    pend := if same then none else some (c, now)
    swap := if same then g.swap else g.swap.map fun w => { w with aligned := none } }

/-- The code latched, the crossing free again, and a stop that does not come taken back. -/
def State.codeLatched (s : State) (r : RegionNo) (c : Nat) : State :=
  (((s.latchCode r c).modRgn r fun g => { g with tx := none }).unstop r).pump r

/-- The code that waits behind the word latched, where it is another. -/
def Region.behind (g : Region) (c : Nat) : Option Nat := if g.sent = some c then none else g.sent

theorem execPeriodCodeLatch_eq {r : RegionNo} {c at_ : Nat} {s : State} (htx : (s.rgn r).tx = some (.period c, at_)) (hclock : s.clocked r = true)
    (hx : s.xState (xId 4 r) = .whole) :
    execPeriodCodeLatch r s = .next ((s.codeLatched r c).periodLatched r ((s.rgn r).behind c)) := by
  unfold execPeriodCodeLatch
  rw [htx]
  exact if_pos ⟨hclock, hx⟩

/-- A region but for its crossing's words and the announcement of its stop. -/
def Region.unsaid (g : Region) : Region := { g.core with stopSaid := false }

theorem State.InRegion.unstop {α : Type} {r : RegionNo} {p : Region → α} {o s : State}
    (hp : ∀ g b, p { g with stopSaid := b } = p g) (h : State.InRegion r p o s) : State.InRegion r p o (s.unstop r) := by
  unfold State.unstop
  exact .ite ((h.modRgn (f := fun g => { g with stopSaid := false }) (hp _ _)).sendNote _) h

theorem State.codeLatched_spec {s : State} (h : Regular s) (r : RegionNo) (c : Nat) :
    ((s.codeLatched r c).rgn r).unsaid = ((s.rgn r).latched c s.now).unsaid ∧ State.InRegion r (fun _ => ()) s (s.codeLatched r c) ∧
    ((s.rgn r).sent = none → (s.rgn r).msgs = [] → ((s.codeLatched r c).rgn r).tx = none) := by
  have hone : State.InRegion r (fun _ => ()) s (s.latchCode r c) :=
    (State.InRegion.refl h).modRgn (f := fun g => g.latched c s.now) rfl
  have hlatch : (s.latchCode r c).rgn r = (s.rgn r).latched c s.now := s.rgn_modRgn r _ h.regions
  unfold State.codeLatched
  generalize s.latchCode r c = u at hone hlatch
  have htwo : State.InRegion r (fun _ => ()) s (u.modRgn r fun g => { g with tx := none }) := hone.modRgn (by exact rfl)
  have hfree : (u.modRgn r fun g => { g with tx := none }).rgn r = { (s.rgn r).latched c s.now with tx := none } := by
    rw [u.rgn_modRgn r _ hone.regular.regions, hlatch]
  generalize (u.modRgn r fun g => { g with tx := none }) = v at htwo hfree
  have hunstop : State.InRegion r (fun g => { g with stopSaid := false }) v (v.unstop r) := (State.InRegion.refl htwo.regular).unstop fun _ _ => rfl
  have hself := hunstop.self
  rw [hfree] at hself
  have hregular := hunstop.regular
  have hothers := hunstop.others
  generalize v.unstop r = x at hself hregular hothers
  have hpump : State.InRegion r Region.unsaid x (x.pump r) :=
    (State.InRegion.refl hregular).pump fun g k hcore => by
      have e (y : Region) : y.unsaid = y.core.unsaid := rfl
      rw [e g, e k, hcore]
  refine ⟨?_, ⟨fun k hk => (hpump.others k hk).trans ((hothers k hk).trans (htwo.others k hk)), rfl, hpump.regular⟩, fun hsent hmsgs => ?_⟩
  · rw [hpump.self]
    exact (congrArg Region.unsaid hself :)
  · have hx : (x.rgn r).tx = none ∧ (x.rgn r).sent = none ∧ (x.rgn r).msgs = [] :=
      ⟨(congrArg Region.tx hself :), (congrArg Region.sent hself :).trans hsent, (congrArg Region.msgs hself :).trans hmsgs⟩
    obtain ⟨htx, hsent', hmsgs'⟩ := hx
    unfold State.pump
    split
    · rw [State.rgn_modRgn _ r _ hregular.regions]
      simp only [Region.load4, Region.nextMsg, htx, hsent', hmsgs']
      exact htx
    · exact htx

theorem State.codeLatched_only (s : State) (r : RegionNo) (c : Nat) : Keeps [.reg, .xg] s (s.codeLatched r c) := by
  unfold State.codeLatched State.latchCode State.latchCodeAt
  exact Keeps.pump_keeps (by decide) (Keeps.unstop_keeps (by decide) (Keeps.modRgn_keeps (by decide) (Keeps.modRgn_keeps (by decide) (Keeps.refl s) r _) r _) r) r

/-! ### The responses that wait for the latch -/

/-- A fold in which one member alone does anything is that member's step. -/
theorem foldl_eq_of_one {σ α : Type} {f : σ → α → σ} {l : List α} {m : α} {s : σ} (hnodup : l.Nodup) (hm : m ∈ l)
    (hbefore : ∀ n ∈ l, n ≠ m → f s n = s) (hafter : ∀ n ∈ l, n ≠ m → f (f s m) n = f s m) : l.foldl f s = f s m := by
  have hskip (k : List α) (t : σ) (hk : ∀ n ∈ k, f t n = t) : k.foldl f t = t :=
    List.foldlRecOn (motive := fun u => u = t) k f rfl fun u hu n hn => by rw [hu, hk n hn]
  obtain ⟨l1, l2, rfl⟩ := List.append_of_mem hm
  obtain ⟨-, hright, hdisj⟩ := List.nodup_append.1 hnodup
  have hm2 : m ∉ l2 := (List.nodup_cons.1 hright).1
  rw [List.foldl_append, hskip l1 s fun n hn => hbefore n (by simp [hn]) fun he => hdisj n hn m (by simp) he, List.foldl_cons]
  exact hskip l2 _ fun n hn => hafter n (by simp [hn]) fun he => hm2 (he ▸ hn)

/-- What a code latched does to a mailbox that waits for it. -/
def State.latchTurn (r : RegionNo) (behind : Option Nat) (s : State) (m : Fin 8) : State :=
  match (s.box m).wait with
  | some (.period left st pay) =>
    let left' := if behind.isSome && decide (entryCode pay r = behind) then left else left.filter (· ≠ r)
    if left'.isEmpty ∧ left.contains r then s.complete m { status := st, payload := pay }
    else s.modBox m fun b => { b with wait := some (.period left' st pay) }
  | _ => s

theorem State.periodLatched_eq (s : State) (r : RegionNo) (behind : Option Nat) :
    s.periodLatched r behind = (List.finRange 8).foldl (State.latchTurn r behind) s := rfl

/-- The mailbox waits for codes. -/
def Mailbox.waitsPeriod (b : Mailbox) : Bool := match b.wait with
  | some (.period _ _ _) => true
  | _ => false

theorem State.latchTurn_of_not {r : RegionNo} {behind : Option Nat} {s : State} {m : Fin 8} (h : (s.box m).waitsPeriod = false) :
    s.latchTurn r behind m = s := by
  unfold State.latchTurn
  split
  · next hw => simp [Mailbox.waitsPeriod, hw] at h
  · rfl

/-- The last code that a mailbox waits for is latched: the mailbox is answered. -/
theorem State.latchTurn_answers {r : RegionNo} {behind : Option Nat} {s : State} {m : Fin 8} {st : Nat} {pay : Bytes}
    (hw : (s.box m).wait = some (.period [r] st pay)) (hst : (s.box m).st = .working) (hcode : behind = none ∨ entryCode pay r ≠ behind) :
    s.latchTurn r behind m = s.answer m { status := st, payload := pay } := by
  have hbehind : ¬ (behind.isSome && decide (entryCode pay r = behind)) = true := by
    rcases hcode with rfl | hne
    · simp
    · simp [hne]
  unfold State.latchTurn
  rw [hw]
  simp only [if_neg hbehind]
  rw [if_pos (by simp), State.complete_of_working _ hst]

/-- A code that waits behind the word latched is waited for still. -/
theorem State.latchTurn_waits {r : RegionNo} {behind : Option Nat} {s : State} {m : Fin 8} {st : Nat} {pay : Bytes}
    (hw : (s.box m).wait = some (.period [r] st pay)) (hsome : behind.isSome = true) (hcode : entryCode pay r = behind) :
    s.latchTurn r behind m = s.modBox m fun b => { b with wait := some (.period [r] st pay) } := by
  have hbehind : (behind.isSome && decide (entryCode pay r = behind)) = true := by simp [hsome, hcode]
  unfold State.latchTurn
  rw [hw]
  simp only [if_pos hbehind]
  exact if_neg (by simp)

/-- Where one mailbox alone waits for a code, the latch is its turn. -/
theorem State.periodLatched_one {r : RegionNo} {behind : Option Nat} {s : State} {m : Fin 8}
    (hothers : ∀ n, n ≠ m → (s.box n).waitsPeriod = false) (hafter : ∀ n, n ≠ m → (s.latchTurn r behind m).box n = s.box n) :
    s.periodLatched r behind = s.latchTurn r behind m := by
  rw [State.periodLatched_eq]
  refine foldl_eq_of_one (List.nodup_finRange 8) (List.mem_finRange m) (fun n _ hn => State.latchTurn_of_not (hothers n hn)) fun n _ hn => ?_
  exact State.latchTurn_of_not (by rw [hafter n hn]; exact hothers n hn)

/-- One mailbox that waits for a code: its latch answers it, unless its own code waits behind the one latched (R74). -/
theorem exec_periodCodeLatch_one {r : RegionNo} {c at_ st : Nat} {pay : Bytes} {m : Fin 8} {s : State} (hs : Regular s)
    (htx : (s.rgn r).tx = some (.period c, at_)) (hclock : s.clocked r = true) (hx : s.xState (xId 4 r) = .whole)
    (hst : (s.box m).st = .working) (hw : (s.box m).wait = some (.period [r] st pay)) (hothers : ∀ n, n ≠ m → (s.box n).waitsPeriod = false) :
    ((∀ c', (s.rgn r).sent = some c' → c' = c ∨ entryCode pay r ≠ some c') →
      ∃ u : State, exec (.periodCodeLatch r) s = .next (u.answer m { status := st, payload := pay }) ∧
        (u.rgn r).pend = (if c = (s.rgn r).nominal ∧ (s.rgn r).stop = none then none else some (c, s.now))) ∧
    (∀ c', c' ≠ c → (s.rgn r).sent = some c' → entryCode pay r = some c' →
      ∃ t, exec (.periodCodeLatch r) s = .next t ∧ (t.box m).st = .working ∧ (t.box m).wait = some (.period [r] st pay)) := by
  have hrun : exec (.periodCodeLatch r) s = .next ((s.codeLatched r c).periodLatched r ((s.rgn r).behind c)) :=
    execPeriodCodeLatch_eq htx hclock hx
  obtain ⟨hself, -, -⟩ := State.codeLatched_spec hs r c
  have hmbx : (s.codeLatched r c).mbx = s.mbx := (s.codeLatched_only r c).only.same .mbx (by decide)
  generalize s.codeLatched r c = u at hrun hself hmbx
  have hbox (n : Fin 8) : u.box n = s.box n := by rw [State.box, hmbx, State.box]
  have hothers' (n : Fin 8) (hn : n ≠ m) : (u.box n).waitsPeriod = false := by rw [hbox]; exact hothers n hn
  have hwu : (u.box m).wait = some (.period [r] st pay) := by rw [hbox, hw]
  refine ⟨fun hsent => ⟨u, ?_, ?_⟩, fun c' hne hsent hcode => ?_⟩
  · have hbehind : (s.rgn r).behind c = none ∨ entryCode pay r ≠ (s.rgn r).behind c := by
      unfold Region.behind
      split
      · exact .inl rfl
      · next hne =>
        rcases hc : (s.rgn r).sent with _ | c'
        · exact .inl rfl
        · rcases hsent c' hc with rfl | hne'
          · exact absurd hc hne
          · exact .inr hne'
    have hturn := State.latchTurn_answers hwu (by rw [hbox, hst]) hbehind
    rw [hrun, State.periodLatched_one hothers' fun n hn => by rw [hturn]; exact u.box_answer_ne _ hn, hturn]
  · have hpend : (u.rgn r).pend = ((s.rgn r).latched c s.now).pend := (congrArg Region.pend hself :)
    rw [hpend]
    simp [Region.latched]
  · have hbehind : (s.rgn r).behind c = some c' := by rw [Region.behind, hsent, if_neg (by simp [hne])]
    have hturn := State.latchTurn_waits (behind := (s.rgn r).behind c) hwu (by simp [hbehind]) (hcode.trans hbehind.symm)
    refine ⟨_, hrun.trans (congrArg Host.Outcome.next (State.periodLatched_one hothers' fun n hn => ?_)), ?_, ?_⟩
    · rw [hturn]
      exact u.box_modBox_ne _ hn
    · rw [hturn, State.box_modBox, hbox, hst]
    · rw [hturn, State.box_modBox]

/-- A code latched: pending where it differs from the nominal, cleared where it does not, the crossing free again (R58, R59, R188). -/
theorem exec_periodCodeLatch_spec {r : RegionNo} {c at_ : Nat} {s : State} (hs : Regular s) (htx : (s.rgn r).tx = some (.period c, at_))
    (hclock : s.clocked r = true) (hx : s.xState (xId 4 r) = .whole) : ∃ t, exec (.periodCodeLatch r) s = .next t ∧
      (t.rgn r).unsaid = ((s.rgn r).latched c s.now).unsaid ∧ ((s.rgn r).sent = none → (s.rgn r).msgs = [] → (t.rgn r).tx = none) ∧
      (∀ k, k ≠ r → t.rgn k = s.rgn k) := by
  have hrun : exec (.periodCodeLatch r) s = .next ((s.codeLatched r c).periodLatched r ((s.rgn r).behind c)) :=
    execPeriodCodeLatch_eq htx hclock hx
  obtain ⟨hself, hin, hfree⟩ := State.codeLatched_spec hs r c
  have hrgn (k : RegionNo) : ((s.codeLatched r c).periodLatched r ((s.rgn r).behind c)).rgn k = (s.codeLatched r c).rgn k :=
    State.rgn_congr ((Keeps.periodLatched_keeps (gs := [.mbx]) (List.Subset.refl _) (Keeps.refl _) r _).only.same .reg (by decide)) k
  refine ⟨_, hrun, by rw [hrgn]; exact hself, fun h1 h2 => by rw [hrgn]; exact hfree h1 h2, fun k hk => by rw [hrgn]; exact hin.others k hk⟩

end Sys2Proof.Machine
end

section
/-! SUPPORT. Stops open and end (R58-R61, R65, Table 2-2, Table 2-4). -/
namespace Sys2Proof.Machine
open Sys2Proof.Safety

/-! ### A stop opens -/

/-- The region with a stop open: its stretch loop pauses, but in FIXED. -/
def Region.stopped (g : Region) (kind code : Nat) (failed : Bool) : Region :=
  { g with
    stop := some ⟨kind, g.edge, code, failed, false⟩
    sl := if g.sl.st = .fixed then g.sl else { g.sl with st := .paused, lp := max g.sl.l1 g.sl.l2 } }

theorem State.openStop_eq (s : State) (r : RegionNo) (kind code : Nat) (failed : Bool) : s.openStop r kind code failed =
    (s.mark r kStopOpen kind (s.rgn r).cycle (captureValue (s.rgn r).edge)).modRgn r fun g => g.stopped kind code failed := rfl

theorem State.openStop_spec {s : State} (h : Regular s) (r : RegionNo) (kind code : Nat) (failed : Bool) :
    ((s.openStop r kind code failed).rgn r).core = ((s.rgn r).stopped kind code failed).core ∧
    State.InRegion r (fun _ => ()) s (s.openStop r kind code failed) := by
  have hmark := (State.Forms.of_regular (r := r) h).mark kStopOpen kind (s.rgn r).cycle (captureValue (s.rgn r).edge)
  have hregular := (Keeps.mark_keeps (List.Subset.refl _) (Keeps.refl s) r kStopOpen kind (s.rgn r).cycle
    (captureValue (s.rgn r).edge)).regular h
  rw [State.openStop_eq]
  generalize s.mark r kStopOpen kind (s.rgn r).cycle (captureValue (s.rgn r).edge) = u at hmark hregular
  have hmod : State.InRegion r (fun _ => ()) u (u.modRgn r fun g => g.stopped kind code failed) := (State.InRegion.refl hregular).modRgn rfl
  refine ⟨?_, ⟨fun k hk => (hmod.others k hk).trans (hmark.others k hk), rfl, hmod.regular⟩⟩
  have hself : u.rgn r = { s.rgn r with former := (u.rgn r).former } := by rw [← hmark.region]
  rw [u.rgn_modRgn r _ hregular.regions, hself]
  rfl

/-- The pending code's stop begins: the oscillator parked and loaded for the code (R58-R60). -/
def State.codeStopped (s : State) (r : RegionNo) (c : Nat) : State :=
  let u := if (s.rgn r).stopSaid then s.modRgn r fun g => { g with stopSaid := false } else s.sendNote r .stop
  (u.openStop r 1 c false).modRgn r fun g =>
    { (g.load g.chan.activeB c) with pend := none, stopWin := some (winOfQ g.edge), swap := g.swap.map fun w => { w with aligned := none } }

theorem execFreqStopBegin_eq {r : RegionNo} {c at_ : Nat} {s : State} (hpend : (s.rgn r).pend = some (c, at_)) (hclock : s.clocked r = true)
    (hstop : (s.rgn r).stop = none) (hafter : nextAfter 256 at_ * 32768 < (s.rgn r).edge)
    (hwin : (s.rgn r).stopWin ≠ some (winOfQ (s.rgn r).edge)) (hc : c ≠ (s.rgn r).nominal) :
    execFreqStopBegin r s = .next (s.codeStopped r c) := by
  have hgoes : ¬ ((!s.clocked r) = true ∨ (s.rgn r).stop.isSome = true ∨ (s.rgn r).edge ≤ nextAfter 256 at_ * 32768 ∨
      (s.rgn r).stopWin = some (winOfQ (s.rgn r).edge)) := by
    simp [hclock, hstop, hwin]
    exact hafter
  unfold execFreqStopBegin
  dsimp only
  rw [hpend]
  dsimp only
  rw [if_neg hgoes, if_neg hc]
  rfl

/-- A region but for its swap, its pending code and the announcement of its stop. -/
def Region.unpended (g : Region) : Region := { g.unset with pend := none, stopWin := none, swap := none, stopSaid := false }

theorem State.codeStopped_spec {s : State} (h : Regular s) (r : RegionNo) (c : Nat) :
    ((s.codeStopped r c).rgn r).unpended = ((s.rgn r).stopped 1 c false).unpended ∧ ((s.codeStopped r c).rgn r).pend = none ∧
    ((s.codeStopped r c).rgn r).stopWin = some (winOfQ (s.rgn r).edge) ∧ State.InRegion r (fun _ => ()) s (s.codeStopped r c) := by
  have hsaid : State.InRegion r (fun g => { g with stopSaid := false }) s
      (if (s.rgn r).stopSaid then s.modRgn r fun g => { g with stopSaid := false } else s.sendNote r .stop) :=
    .ite ((State.InRegion.refl h).modRgn (by exact rfl)) ((State.InRegion.refl h).sendNote _)
  unfold State.codeStopped
  dsimp only
  generalize (if (s.rgn r).stopSaid then s.modRgn r fun g => { g with stopSaid := false } else s.sendNote r .stop) = u at hsaid
  obtain ⟨hcore, hopen⟩ := State.openStop_spec hsaid.regular r 1 c false
  generalize u.openStop r 1 c false = v at hcore hopen
  have hmod : State.InRegion r (fun _ => ()) v (v.modRgn r fun g =>
      { (g.load g.chan.activeB c) with pend := none, stopWin := some (winOfQ g.edge), swap := g.swap.map fun w => { w with aligned := none } }) :=
    (State.InRegion.refl hopen.regular).modRgn rfl
  have hrgn := v.rgn_modRgn r (fun g : Region =>
    { (g.load g.chan.activeB c) with pend := none, stopWin := some (winOfQ g.edge), swap := g.swap.map fun w => { w with aligned := none } }) hopen.regular.regions
  have hedge : (v.rgn r).edge = (s.rgn r).edge := (congrArg Region.edge hcore :).trans (congrArg Region.edge hsaid.self :)
  refine ⟨?_, by rw [hrgn], by rw [hrgn, hedge], ⟨fun k hk => (hmod.others k hk).trans ((hopen.others k hk).trans (hsaid.others k hk)), rfl, hmod.regular⟩⟩
  have hloaded : ((v.modRgn r fun g : Region =>
      { (g.load g.chan.activeB c) with pend := none, stopWin := some (winOfQ g.edge), swap := g.swap.map fun w => { w with aligned := none } }).rgn r).unpended =
      (v.rgn r).unpended := by
    rw [hrgn]
    exact (congrArg (fun x : Region => { x with pend := none, stopWin := none, swap := none, stopSaid := false }) (Region.unset_load (v.rgn r) _ c) :)
  have e (x : Region) : x.unpended = x.core.unpended := rfl
  have hstop (x : Region) : (x.stopped 1 c false).unpended = (({ x with stopSaid := false } : Region).stopped 1 c false).unpended := rfl
  rw [hloaded, e, hcore, ← e, hstop, hsaid.self, ← hstop]

/-! ### A stop ends -/

/-- The stretch loop at the edge that ends a stop, by the PAUSED row of Table 2-2. -/
def Region.restartLoop (g : Region) (lp : Nat) (x : StretchLoop) : StretchLoop :=
  if g.idleDue then { x with st := .idle, s := 0, hold := 0, l1 := 0, l2 := 0, lp := 0, toIdle := false }
  else if x.st = .fixed then { x with l1 := 0, l2 := 0 }
  else if g.loopDue then { x with st := .fixed, s := 0, hold := 0, l1 := 0, l2 := 0, lp := 0, toFixed := false }
  else if lp = 0 then { x with st := .idle, s := 0, hold := 0, l1 := 0, l2 := 0, lp := 0 }
  else { x with st := .hold, s := lp, hold := g.holdLen, l1 := 0, l2 := 0, lp := 0 }

/-- The register words in force from the edge that ends a stop (R73). -/
def State.edgeWords (s : State) (r : RegionNo) (q : Nat) : State :=
  let s := s.modRgn r fun g => { g with edge := q }
  if s.wordsCrossed r then State.relane s (s.modRgn r Region.periodTick) r else s

/-- The region at the edge that ends its stop: words `h` in force. -/
def Region.restarted (g h : Region) (code q lp : Nat) : Region :=
  { g with
    stop := none, edge := q, nominal := code, sl := h.restartLoop lp g.sl
    pend := if g.pend.map (·.1) = some code then none else g.pend
    fl := { g.fl with fast := 4 } }

/-- The stop closed in the ledger and in the region. -/
def State.stopClosed (s : State) (r : RegionNo) (st : Stop) (q lp : Nat) : State :=
  (s.mark r kStopClose (st.kind + (if st.fixed then 128 else 0)) (s.rgn r).cycle (captureValue q)).modRgn r fun g =>
    g.restarted (s.rgn r) st.code q lp

/-- A region but for its working set, its target and its trim. -/
def Region.unaimed (g : Region) : Region := { g.unset with tg := 0, trim := 0, sl := { g.sl with margin := 0 } }

theorem Region.unaimed_of_unset {g h : Region} (k : g.unset = h.unset) : g.unaimed = h.unaimed := by
  have e (x : Region) : x.unaimed = x.unset.unaimed := rfl
  rw [e g, e h, k]

theorem State.edgeWords_spec {s : State} (h : Regular s) (r : RegionNo) (q : Nat) : State.InRegion r (fun _ => ()) s (s.edgeWords r q) ∧
    ((s.edgeWords r q).rgn r = { s.rgn r with edge := q } ∨ (s.edgeWords r q).rgn r = ({ s.rgn r with edge := q } : Region).periodTick) := by
  have hmod : State.InRegion r (fun _ => ()) s (s.modRgn r fun g => { g with edge := q }) := (State.InRegion.refl h).modRgn (by exact rfl)
  have hrgn := s.rgn_modRgn r (fun g : Region => { g with edge := q }) h.regions
  unfold State.edgeWords
  dsimp only
  generalize (s.modRgn r fun g => { g with edge := q }) = u at hmod hrgn
  have k := Keeps.relane_keeps (gs := [.xg]) (List.Subset.refl _) (old := u) (Keeps.refl (u.modRgn r Region.periodTick)) r
  split
  · refine ⟨(hmod.modRgn (by exact rfl)).step k, .inr ?_⟩
    rw [State.rgn_congr (k.only.same .reg (by decide)), u.rgn_modRgn r _ hmod.regular.regions, hrgn]
  · exact ⟨hmod, .inl hrgn⟩

theorem State.stopClosed_spec {s : State} (h : Regular s) (r : RegionNo) (st : Stop) (q lp : Nat) :
    ((s.stopClosed r st q lp).rgn r).core = ((s.rgn r).restarted (s.rgn r) st.code q lp).core ∧
    State.InRegion r (fun _ => ()) s (s.stopClosed r st q lp) := by
  have hmark := (State.Forms.of_regular (r := r) h).mark kStopClose (st.kind + (if st.fixed then 128 else 0)) (s.rgn r).cycle (captureValue q)
  have hregular := (Keeps.mark_keeps (List.Subset.refl _) (Keeps.refl s) r kStopClose (st.kind + (if st.fixed then 128 else 0)) (s.rgn r).cycle
    (captureValue q)).regular h
  unfold State.stopClosed
  generalize s.mark r kStopClose (st.kind + (if st.fixed then 128 else 0)) (s.rgn r).cycle (captureValue q) = u at hmark hregular
  have hmod : State.InRegion r (fun _ => ()) u (u.modRgn r fun g => g.restarted (s.rgn r) st.code q lp) := (State.InRegion.refl hregular).modRgn rfl
  refine ⟨?_, ⟨fun k hk => (hmod.others k hk).trans (hmark.others k hk), rfl, hmod.regular⟩⟩
  have hself : u.rgn r = { s.rgn r with former := (u.rgn r).former } := by rw [← hmark.region]
  rw [u.rgn_modRgn r _ hregular.regions, hself]
  rfl

theorem State.setTarget_inRegion {s : State} (h : Regular s) (r : RegionNo) (aux oldTg oldN : Nat) (trim : Int) :
    State.InRegion r Region.unaimed s (s.setTarget r aux oldTg oldN trim) := by
  have hmod : State.InRegion r Region.unaimed s (s.modRgn r fun g =>
      { g with tg := g.target trim, trim := g.clipTrim trim, sl := { g.sl with margin := g.margin } }) :=
    (State.InRegion.refl h).modRgn (by exact rfl)
  unfold State.setTarget
  exact .ite hmod (hmod.forms (fun _ _ k => Region.unaimed_of_unset (Region.unset_of_core k)) ((State.Forms.of_regular hmod.regular).markTarget _ _ _)
    ((Keeps.markTarget_keeps (List.Subset.refl _) (Keeps.refl _) r _ _ _).regular hmod.regular))

/-- The end of a stop: the region goes on at the stop's code, its words those of the edge (R60, R73). -/
theorem State.restart_spec {s : State} (h : Regular s) (r : RegionNo) (st : Stop) (q vmin : Nat) : ∃ b : Region,
    (b = { s.rgn r with edge := q } ∨ b = ({ s.rgn r with edge := q } : Region).periodTick) ∧
    ((s.restart r st q vmin).rgn r).unaimed = (b.restarted b st.code q (max (s.rgn r).sl.lp ((s.rgn r).trip vmin))).unaimed ∧
    State.InRegion r (fun _ => ()) s (s.restart r st q vmin) := by
  unfold State.restart
  extract_lets g0 lp a b g toFixed toIdle c loop plan d e f
  have hb' : b = s.edgeWords r q := rfl
  obtain ⟨hb, hwords⟩ := State.edgeWords_spec h r q
  rw [← hb'] at hb hwords
  clear_value b
  have hd : d = b.stopClosed r st q lp := rfl
  have hclosed := State.stopClosed_spec hb.regular r st q lp
  rw [← hd] at hclosed
  clear_value d
  obtain ⟨hcore, hdin⟩ := hclosed
  have he : State.InRegion r Region.unaimed d e := State.setTarget_inRegion hdin.regular r _ _ _ _
  clear_value e
  have hset (x y : Region) (k : x.unset = y.unset) : x.unaimed = y.unaimed := Region.unaimed_of_unset k
  have hf : State.InRegion r Region.unaimed d f := he.step (Keeps.sendStretch_keeps (List.Subset.refl _) (Keeps.refl e) r _)
  have hend := ((hf.sendNote (.restart (f.rgn r).tg (decide (st.kind ≠ 1)))).takeMsg hset).workingSet hset
  refine ⟨b.rgn r, hwords, hend.self.trans ?_, ⟨fun k hk => ?_, rfl, hend.regular⟩⟩
  · exact Region.unaimed_of_unset (Region.unset_of_core hcore)
  · rw [hend.others k hk, hdin.others k hk, hb.others k hk]

end Sys2Proof.Machine
end

section
/-! The period target, the frequency loops, the commands on a region's period, and changes of its nominal period (R55-R61, R74, R93, R324). -/
namespace Sys2Proof.Machine
open Sys2Proof.Safety

/-- The standby twin reloaded for a new nominal (R62). -/
def Region.twinReloaded (g : Region) (code win : Nat) : Region :=
  if g.chan.twin = .standby then { (g.load (!g.chan.activeB) code) with chan := { g.chan with locked := false, reloadWin := some win } } else g

theorem Region.twinReloaded_rest (g : Region) (code win : Nat) :
    ({ g.twinReloaded code win with chan := {} } : Region).unaimed = ({ g with chan := {} } : Region).unaimed := by
  have hload : ({ g.load (!g.chan.activeB) code with chan := {} } : Region).unaimed = ({ g with chan := {} } : Region).unaimed :=
    (congrArg (fun x : Region => ({ x with chan := {}, tg := 0, trim := 0, sl := { x.sl with margin := 0 } } : Region))
      (Region.unset_load g (!g.chan.activeB) code) :)
  unfold Region.twinReloaded
  split
  · exact hload
  · rfl

theorem Region.twinReloaded_chan (g : Region) (code win : Nat) :
    (g.chan.twin = .standby → (g.twinReloaded code win).chan = { g.chan with locked := false, reloadWin := some win }) ∧
    (g.chan.twin ≠ .standby → (g.twinReloaded code win).chan = g.chan) := by
  constructor
  · intro h
    rw [Region.twinReloaded, if_pos h]
  · intro h
    rw [Region.twinReloaded, if_neg h]

theorem execFreqStopRestart_eq {r : RegionNo} {q op c : Nat} {fixed : Bool} {s : State} (vmin : Nat) (hstop : (s.rgn r).stop = some ⟨1, op, c, false, fixed⟩)
    (hlow : op + 33 * 32768 ≤ q) (hhigh : q ≤ op + 40 * 32768) : execFreqStopRestart r q vmin s =
      .next ((s.restart r ⟨1, op, c, false, fixed⟩ q vmin).modRgn r fun g => g.twinReloaded c (winOfQ q + 4)) := by
  unfold execFreqStopRestart
  rw [hstop]
  exact if_pos ⟨rfl, rfl, hlow, hhigh⟩

/-- The loop of a region that has paused outside FIXED goes on with the largest level of its stop (Table 2-2). -/
theorem Region.restartLoop_paused {g : Region} {lp : Nat} (hst : g.sl.st = .paused) (hto : g.sl.toFixed = false) : g.restartLoop lp g.sl =
    if lp = 0 then { g.sl with st := .idle, s := 0, hold := 0, l1 := 0, l2 := 0, lp := 0 }
    else { g.sl with st := .hold, s := lp, hold := g.holdLen, l1 := 0, l2 := 0, lp := 0 } := by
  have hidle : ¬ g.idleDue = true := by simp [Region.idleDue, hst]
  have hfixed : ¬ g.sl.st = .fixed := by simp [hst]
  have hloop : ¬ g.loopDue = true := by simp [Region.loopDue, hto]
  rw [Region.restartLoop, if_neg hidle, if_neg hfixed, if_neg hloop]

/-- A change of nominal ends (R58-R62). -/
structure State.Renewed (r : RegionNo) (q c lp win : Nat) (s t : State) : Prop where
  stop : (t.rgn r).stop = none
  nominal : (t.rgn r).nominal = c
  edge : (t.rgn r).edge = q
  fast : (t.rgn r).fl.fast = 4
  cycle : (t.rgn r).cycle = (s.rgn r).cycle
  reloaded : (s.rgn r).chan.twin = .standby → (t.rgn r).chan = { (s.rgn r).chan with locked := false, reloadWin := some win }
  unloaded : (s.rgn r).chan.twin ≠ .standby → (t.rgn r).chan = (s.rgn r).chan
  idle : (s.rgn r).sl.st = .paused → (s.rgn r).sl.toFixed = false → lp = 0 → (t.rgn r).sl.st = .idle ∧ (t.rgn r).sl.s = 0
  hold : (s.rgn r).sl.st = .paused → (s.rgn r).sl.toFixed = false → 0 < lp →
    (t.rgn r).sl.st = .hold ∧ (t.rgn r).sl.s = lp ∧ (t.rgn r).sl.hold = (t.rgn r).holdLen
  others : ∀ k, k ≠ r → t.rgn k = s.rgn k

theorem State.renewed {s : State} (h : Regular s) (r : RegionNo) (st : Stop) (q vmin win : Nat) :
    State.Renewed r q st.code (max (s.rgn r).sl.lp ((s.rgn r).trip vmin)) win s
      ((s.restart r st q vmin).modRgn r fun g => g.twinReloaded st.code win) := by
  obtain ⟨b, hb, hself, hin⟩ := s.restart_spec h r st q vmin
  have hkept : b.cycle = (s.rgn r).cycle ∧ b.chan = (s.rgn r).chan ∧ b.sl = (s.rgn r).sl := by
    rcases hb with rfl | rfl
    · exact ⟨rfl, rfl, rfl⟩
    · exact ⟨rfl, rfl, rfl⟩
  obtain ⟨hcycle, hchan, hsl⟩ := hkept
  generalize s.restart r st q vmin = u at hself hin
  have hrgn := u.rgn_modRgn r (fun g : Region => g.twinReloaded st.code win) hin.regular.regions
  have hend : ({ (u.rgn r).twinReloaded st.code win with chan := {} } : Region).unaimed =
      ({ b.restarted b st.code q (max (s.rgn r).sl.lp ((s.rgn r).trip vmin)) with chan := {} } : Region).unaimed :=
    ((u.rgn r).twinReloaded_rest st.code win).trans (congrArg (fun x : Region => { x with chan := {} }) hself :)
  have huchan : (u.rgn r).chan = (s.rgn r).chan := (congrArg Region.chan hself :).trans hchan
  obtain ⟨hload, hunload⟩ := (u.rgn r).twinReloaded_chan st.code win
  rw [huchan] at hload hunload
  have hloop {β : Type} (f : StretchLoop → β) (hf : ∀ x : StretchLoop, f { x with margin := 0 } = f x) :
      f ((u.rgn r).twinReloaded st.code win).sl = f (b.restartLoop (max (s.rgn r).sl.lp ((s.rgn r).trip vmin)) b.sl) := by
    rw [← hf, show ({ ((u.rgn r).twinReloaded st.code win).sl with margin := 0 } : StretchLoop) = _ from (congrArg Region.sl hend :), ← hf (b.restartLoop _ _)]
    rfl
  have hregs : ((u.rgn r).twinReloaded st.code win).holdLen = b.holdLen := (congrArg Region.holdLen hend :)
  refine ⟨?_, ?_, ?_, ?_, ?_, ?_, ?_, fun hst hto hzero => ?_, fun hst hto hpos => ?_, fun k hk => (u.rgn_modRgn_ne _ hk).trans (hin.others k hk)⟩
  · rw [hrgn]; exact (congrArg Region.stop hend :)
  · rw [hrgn]; exact (congrArg Region.nominal hend :)
  · rw [hrgn]; exact (congrArg Region.edge hend :)
  · rw [hrgn]; exact (congrArg (fun x : Region => x.fl.fast) hend :)
  · rw [hrgn]; exact (congrArg Region.cycle hend :).trans hcycle
  · rw [hrgn]; exact hload
  · rw [hrgn]; exact hunload
  · have hpaused := Region.restartLoop_paused (lp := max (s.rgn r).sl.lp ((s.rgn r).trip vmin)) ((congrArg StretchLoop.st hsl).trans hst)
      ((congrArg StretchLoop.toFixed hsl).trans hto)
    rw [if_pos hzero] at hpaused
    rw [hrgn]
    exact ⟨(hloop StretchLoop.st fun _ => rfl).trans (by rw [hpaused]), (hloop StretchLoop.s fun _ => rfl).trans (by rw [hpaused])⟩
  · have hpaused := Region.restartLoop_paused (lp := max (s.rgn r).sl.lp ((s.rgn r).trip vmin)) ((congrArg StretchLoop.st hsl).trans hst)
      ((congrArg StretchLoop.toFixed hsl).trans hto)
    rw [if_neg (Nat.ne_of_gt hpos)] at hpaused
    rw [hrgn, hregs]
    exact ⟨(hloop StretchLoop.st fun _ => rfl).trans (by rw [hpaused]), (hloop StretchLoop.s fun _ => rfl).trans (by rw [hpaused]),
      (hloop StretchLoop.hold fun _ => rfl).trans (by rw [hpaused])⟩

theorem exec_freqStopRestart_off {r : RegionNo} {q : Nat} (vmin : Nat) {x : Stop} {s : State} (hstop : (s.rgn r).stop = some x)
    (hq : q < x.opened + 33 * 32768 ∨ x.opened + 40 * 32768 < q) : exec (.freqStopRestart r q vmin) s = .next s := by
  have hrun : exec (.freqStopRestart r q vmin) s = execFreqStopRestart r q vmin s := rfl
  rw [hrun, execFreqStopRestart, hstop]
  exact if_neg fun ⟨_, _, hlow, hhigh⟩ => by omega

theorem exec_retuneFail_change {r : RegionNo} {x : Stop} {s : State} (hstop : (s.rgn r).stop = some x) (hkind : x.kind = 1) (hfailed : x.failed = false) :
    exec (.retuneFail r) s = .next ((s.modRgn r fun g => { g with
      stop := some { x with failed := true } }).raise evRegionRetuneFail (r + at_ x.code 16)) := by
  have hrun : exec (.retuneFail r) s = execRetuneFail r s := rfl
  rw [hrun, execRetuneFail, hstop]
  exact if_pos ⟨hkind, by simp [hfailed]⟩

theorem exec_retuneFail_aligned {r : RegionNo} {why : SwapWhy} {w : Nat} {s : State} (hclock : s.clocked r = true) (hstop : (s.rgn r).stop = none)
    (hswap : (s.rgn r).swap = some ⟨why, some w⟩) (htwin : (s.rgn r).chan.hasTwin = true) :
    exec (.retuneFail r) s = .next (s.openStop r 2 (s.rgn r).nominal true) := by
  have hrun : exec (.retuneFail r) s = execRetuneFail r s := rfl
  rw [hrun, execRetuneFail, hstop]
  simp only [hswap]
  exact if_pos ⟨hclock, rfl, htwin⟩

/-- Settles O52: the loops and the target by their equations; each command and each step of a change of nominal by what it makes of its region. -/
theorem periodsAreTargetedAndChanged : Obligations.PeriodsAreTargetedAndChanged := by
  unfold Obligations.PeriodsAreTargetedAndChanged
  refine ⟨fun g trim => Region.target_planned, fun g trim hplan hst => ?_, fun g trim hplan hst => ?_, fun g err hfast => ?_,
    fun g err hacts htwin hlocked => ?_, fun g err htwin => if_neg fun h => htwin h.2, ?_, ?_, ?_, ?_, ?_, ?_, ?_, ?_, ?_, ?_, ?_, ?_, ?_⟩
  · rw [Region.target_unplanned trim hplan, Region.margin, if_neg hst, Nat.add_zero]
  · rw [Region.target_unplanned trim hplan, Region.margin, if_pos hst]
  · intro f old h
    obtain ⟨hbias, hother, hfast', hflock⟩ := g.freqLoop_spec err hfast
    refine ⟨?_, hother, hfast', fun hout => ?_, fun hin hlt => ?_⟩
    · rw [← biasStep_eq, ← hbias]
      split <;> rfl
    · have h1 : (!within err (fld f 23 16)) = true := by simp only [Bool.not_eq_true', Bool.eq_false_iff, ne_eq, within_iff]; omega
      exact hflock.trans (if_pos h1)
    · have h1 : ¬ (!within err (fld f 23 16)) = true := by simp only [Bool.not_eq_true', Bool.not_eq_false, within_iff]; omega
      exact hflock.trans ((if_neg h1).trans (if_pos (within_iff.mpr hin)))
  · intro old h
    obtain ⟨hbias, hother⟩ := Region.twinLoop_spec err hacts htwin hlocked
    refine ⟨?_, hother⟩
    rw [← biasStep_eq, ← hbias]
    split <;> rfl
  · exact fun q s => exec_regionSetPeriod_raw
  · exact fun q s c => exec_regionSetPeriod_level
  · exact fun r c s hs _ hx hwaits honly hfree => State.sendCode_free hs c hx hwaits honly hfree
  · exact fun r c x s hs _ hbusy => State.sendCode_busy hs c hbusy
  · exact fun r c at_ st pay m s hs _ htx hclock hx hst hw hothers =>
      exec_periodCodeLatch_one hs htx hclock hx hst hw fun n hn => hothers n hn
  · exact fun q s => exec_regionSetPeriod_dead
  · exact fun q s => exec_regionQuery
  · intro r c at_ s hs htx hclock hx
    obtain ⟨t, hrun, hself, hfree, hothers⟩ := exec_periodCodeLatch_spec hs htx hclock hx
    have hpend : (t.rgn r).pend = ((s.rgn r).latched c s.now).pend := (congrArg Region.pend hself :)
    have hswap : (t.rgn r).swap = ((s.rgn r).latched c s.now).swap := (congrArg Region.swap hself :)
    refine ⟨t, hrun, fun hc => ?_, fun hc hstop => ?_, hfree, (congrArg Region.nominal hself :), (congrArg Region.stop hself :), hothers, ?_⟩
    · rw [hpend, hswap]
      simp [Region.latched, hc]
    · rw [hpend, hswap]
      simp [Region.latched, hc, hstop]
    · obtain ⟨u, hu, hkeeps⟩ := Keeps.execPeriodCodeLatch_keeps (gs := [.mbx, .reg, .xg]) (List.Subset.refl _) (Keeps.refl s) r
      obtain rfl : t = u := Host.Outcome.next.inj (hrun.symm.trans hu)
      exact hkeeps.only
  · intro r c at_ s hs hpend hclock hstop hafter hwin hc
    have hrun : exec (.freqStopBegin r) s = .next (s.codeStopped r c) := execFreqStopBegin_eq hpend hclock hstop hafter hwin hc
    obtain ⟨hself, hnone, hstopWin, hin⟩ := s.codeStopped_spec hs r c
    generalize s.codeStopped r c = t at *
    have hopened : (t.rgn r).stop = some ⟨1, (s.rgn r).edge, c, false, false⟩ := (congrArg Region.stop hself :)
    refine ⟨t, hrun, hopened, hnone, hstopWin, (congrArg Region.nominal hself :), ?_, (congrArg Region.sl hself :),
      (congrArg Region.edge hself :), (congrArg Region.cycle hself :), (congrArg Region.chan hself :), hin.others, exec_only hrun⟩
    simp only [State.rgnWord, hnone, hopened]
    rfl
  · intro r q vmin op c fixed s hs hstop hlow hhigh
    have hrun : exec (.freqStopRestart r q vmin) s = .next ((s.restart r ⟨1, op, c, false, fixed⟩ q vmin).modRgn r fun g =>
      g.twinReloaded c (winOfQ q + 4)) := execFreqStopRestart_eq vmin hstop hlow hhigh
    have hrenewed := State.renewed hs r ⟨1, op, c, false, fixed⟩ q vmin (winOfQ q + 4)
    dsimp only at hrenewed
    generalize ((s.restart r ⟨1, op, c, false, fixed⟩ q vmin).modRgn r fun g => g.twinReloaded c (winOfQ q + 4)) = t at hrun hrenewed
    obtain ⟨h1, h2, h3, h4, h5, h6, h7, h8, h9, h10⟩ := hrenewed
    exact ⟨t, hrun, h1, h2, h3, h4, h5, h6, h7, h8, h9, h10, exec_only hrun⟩
  · exact fun r q vmin x s hstop hq => exec_freqStopRestart_off vmin hstop hq
  · exact fun r x s hstop hkind hfailed => exec_retuneFail_change hstop hkind hfailed
  · intro r why w s hs hclock hstop hswap htwin
    have hrun := exec_retuneFail_aligned hclock hstop hswap htwin
    obtain ⟨hcore, hin⟩ := State.openStop_spec hs r 2 (s.rgn r).nominal true
    generalize s.openStop r 2 (s.rgn r).nominal true = t at *
    exact ⟨t, hrun, (congrArg Region.stop hcore :), (congrArg Region.chan hcore :), hin.others, exec_only hrun⟩

end Sys2Proof.Machine
end

section
/-! SUPPORT. Oscillators fail, and a twin takes over or none (R61, R62, R65, R66, R235). -/
namespace Sys2Proof.Machine
open Sys2Proof.Safety

/-! ### Counts, and what work on a twin leaves -/

/-- A swap or a failure counted: the region's other fields stay. -/
theorem State.countChan_spec {s : State} (h : Regular s) (r : RegionNo) (swap : Bool) :
    (∃ c, (s.countChan r swap).rgn r = { s.rgn r with cnt := c } ∧
      c.swaps = (if swap then ((s.rgn r).cnt.swaps + 1) % 65536 else (s.rgn r).cnt.swaps) ∧
      c.faults = (if swap then (s.rgn r).cnt.faults else ((s.rgn r).cnt.faults + 1) % 65536)) ∧
    State.InRegion r (fun _ => ()) s (s.countChan r swap) := by
  have hmod : State.InRegion r (fun _ => ()) s (s.modRgn r fun g => { g with cnt :=
      if swap then { g.cnt with swaps := (g.cnt.swaps + 1) % 65536 } else { g.cnt with faults := (g.cnt.faults + 1) % 65536 } }) :=
    (State.InRegion.refl h).modRgn (by exact rfl)
  have hrgn := s.rgn_modRgn r (fun g : Region => { g with cnt :=
      if swap then { g.cnt with swaps := (g.cnt.swaps + 1) % 65536 } else { g.cnt with faults := (g.cnt.faults + 1) % 65536 } }) h.regions
  unfold State.countChan
  generalize (s.modRgn r fun g => { g with cnt :=
    if swap then { g.cnt with swaps := (g.cnt.swaps + 1) % 65536 } else { g.cnt with faults := (g.cnt.faults + 1) % 65536 } }) = u at hmod hrgn
  refine ⟨?_, hmod.carry fun _ _ _ => rfl⟩
  unfold State.carry
  split
  · rw [u.rgn_modRgn r _ hmod.regular.regions, hrgn]
    exact ⟨_, rfl, by cases swap <;> rfl, by cases swap <;> rfl⟩
  · exact ⟨_, hrgn, by cases swap <;> rfl, by cases swap <;> rfl⟩

/-- A region but for its activity, its twin and its working set. -/
def Region.untwinned (g : Region) : Region := { g.unset with cal := {}, chan := { activeB := g.chan.activeB } }

theorem Region.untwinned_of_unset {g h : Region} (k : g.unset = h.unset) : g.untwinned = h.untwinned := by
  have e (x : Region) : x.untwinned = x.unset.untwinned := rfl
  rw [e g, e h, k]

theorem Region.untwinned_twinBack (g : Region) (win : Nat) : (g.twinBack win).untwinned = g.untwinned := by
  have hchan (x : Region) : ({ x with chan := { g.chan with
      twin := .standby, locked := false, reloadWin := some (win + 4), st := if g.chan.st = .twinBusy then .paired else g.chan.st } } : Region).untwinned =
      ({ x with chan := g.chan } : Region).untwinned := rfl
  have hload : ({ g.load (!g.chan.activeB) g.nominal with chan := g.chan } : Region).untwinned = g.untwinned :=
    (congrArg (fun x : Region => ({ x with cal := {}, chan := { activeB := g.chan.activeB } } : Region)) (Region.unset_load g (!g.chan.activeB) g.nominal) :)
  exact (hchan _).trans hload

/-- A region whose twin, where it was busy, stands by. -/
def Region.freed (g : Region) (free : Bool) (win : Nat) : Region := if free then g.twinBack win else g

theorem Region.untwinned_freed (g : Region) (free : Bool) (win : Nat) : (g.freed free win).untwinned = g.untwinned := by
  cases free
  · rfl
  · exact g.untwinned_twinBack win

/-- A region with another place in calibration. -/
def Region.placed (g : Region) (k : RgnCal) : Region := { g with cal := k }

theorem Region.untwinned_placed (g : Region) (k : RgnCal) : (g.placed k).untwinned = g.untwinned := rfl

theorem Region.calLeft_eq (g : Region) (c : RgnCal) (e : CalEnd) (win now : Nat) : ∃ k, g.calLeft c e win now =
    (g.freed (c.running && decide (g.chan.twin = .busy) && g.swap.isNone) win).placed k := ⟨_, rfl⟩

theorem Region.untwinned_calLeft (g : Region) (c : RgnCal) (e : CalEnd) (win now : Nat) : (g.calLeft c e win now).untwinned = g.untwinned := by
  obtain ⟨k, h⟩ := g.calLeft_eq c e win now
  rw [h, Region.untwinned_placed, Region.untwinned_freed]

theorem State.calLeave_inRegion {s : State} (h : Regular s) (r : RegionNo) (e : CalEnd) : State.InRegion r Region.untwinned s (s.calLeave r e) := by
  have k := State.calLeave_spec r e h.regions
  obtain ⟨run, test, hrgn⟩ := k.rgn
  refine ⟨k.other, ?_, (Keeps.calLeave_keeps (List.Subset.refl _) (Keeps.refl s) r e).regular h⟩
  rw [hrgn]
  exact ((((s.rgn r).calLeft (s.rgn r).cal e s.win s.now).untwinned_placed _)).trans ((s.rgn r).untwinned_calLeft _ _ _ _)

theorem State.calGapOn_inRegion {s : State} (h : Regular s) (r : RegionNo) : State.InRegion r Region.untwinned s (s.calGapOn r) := by
  unfold State.calGapOn
  exact .ite (.refl h) (.ite (State.calLeave_inRegion h r .accepted) ((State.InRegion.refl h).modRgn (by exact rfl)))

/-! ### The direct takeover -/

/-- The region on its other oscillator, its only one (R65). -/
def Region.taken (g : Region) : Region :=
  { g with
    chan := { g.chan with st := .single, activeB := !g.chan.activeB, twin := .failed, locked := false, reloadWin := none }
    swap := none }

/-- The twin takes over: work on it is discarded, and it is loaded where it is not (R61, R65). -/
def State.takenOver (s : State) (r : RegionNo) (st : Stop) (busy : Bool) : State :=
  let u := s.calGapOn r
  (if st.kind = 1 ∨ busy = true then u.modRgn r fun g => g.load (!g.chan.activeB) st.code else u).modRgn r Region.taken

theorem execDirectTakeoverRestart_eq {r : RegionNo} {q : Nat} (vmin : Nat) {x : Stop} {s : State} (hstop : (s.rgn r).stop = some x)
    (hfailed : x.failed = true) (hq : x.opened ≤ q) (htwin : (s.rgn r).chan.hasTwin = true) :
    execDirectTakeoverRestart r q vmin s =
      .next ((((s.takenOver r x (decide ((s.rgn r).chan.twin = .busy))).restart r x q vmin).countChan r false).raise evRegionTakeover r) := by
  unfold execDirectTakeoverRestart State.takenOver
  dsimp only
  rw [hstop]
  dsimp only
  rw [if_pos ⟨hfailed, hq, htwin⟩]
  simp only [decide_eq_true_eq]
  rfl

theorem State.takenOver_spec {s : State} (h : Regular s) (r : RegionNo) (st : Stop) (busy : Bool) :
    ((s.takenOver r st busy).rgn r).chan.st = .single ∧ ((s.takenOver r st busy).rgn r).chan.activeB = !(s.rgn r).chan.activeB ∧
    ((s.takenOver r st busy).rgn r).chan.twin = .failed ∧ ((s.takenOver r st busy).rgn r).swap = none ∧
    ((s.takenOver r st busy).rgn r).cnt = (s.rgn r).cnt ∧ Regular (s.takenOver r st busy) := by
  have hgap := State.calGapOn_inRegion h r
  unfold State.takenOver
  dsimp only
  generalize s.calGapOn r = u at hgap
  have hload : State.InRegion r Region.untwinned s (if st.kind = 1 ∨ busy = true then u.modRgn r fun g => g.load (!g.chan.activeB) st.code else u) :=
    .ite (hgap.modRgn (Region.untwinned_of_unset (Region.unset_load _ _ _))) hgap
  generalize (if st.kind = 1 ∨ busy = true then u.modRgn r fun g => g.load (!g.chan.activeB) st.code else u) = v at hload
  have hactive : (v.rgn r).chan.activeB = (s.rgn r).chan.activeB := (congrArg (fun x : Region => x.chan.activeB) hload.self :)
  have hcnt : (v.rgn r).cnt = (s.rgn r).cnt := (congrArg Region.cnt hload.self :)
  have hregular := (Keeps.modRgn_keeps (List.Subset.refl _) (Keeps.refl v) r Region.taken).regular hload.regular
  have hrgn := v.rgn_modRgn r Region.taken hload.regular.regions
  generalize v.modRgn r Region.taken = w at hrgn hregular
  rw [hrgn]
  exact ⟨rfl, congrArg not hactive, rfl, rfl, hcnt, hregular⟩

/-- What the takeover leaves of the region. -/
theorem exec_directTakeoverRestart_spec {r : RegionNo} {q vmin : Nat} {x : Stop} {s : State} (hs : Regular s) (hstop : (s.rgn r).stop = some x)
    (hfailed : x.failed = true) (hq : x.opened ≤ q) (htwin : (s.rgn r).chan.hasTwin = true) :
    ∃ t, exec (.directTakeoverRestart r q vmin) s = .next t ∧ (t.rgn r).stop = none ∧ (t.rgn r).chan.st = .single ∧
      (t.rgn r).chan.activeB = !(s.rgn r).chan.activeB ∧ (t.rgn r).chan.twin = .failed ∧ (t.rgn r).nominal = x.code ∧
      (t.rgn r).edge = q ∧ (t.rgn r).swap = none ∧ (t.rgn r).fl.fast = 4 ∧
      (t.rgn r).cnt.faults = ((s.rgn r).cnt.faults + 1) % 65536 ∧
      (∃ u : State, u.sys = s.sys ∧ t.ev = (u.raise evRegionTakeover r).ev) := by
  have hrun : exec (.directTakeoverRestart r q vmin) s = _ := execDirectTakeoverRestart_eq vmin hstop hfailed hq htwin
  obtain ⟨hst, hactive, hfail, hswap, hcnt, hregular⟩ := State.takenOver_spec hs r x (decide ((s.rgn r).chan.twin = .busy))
  have hk : Keeps [.mbx, .reg, .cal, .et, .xg, .ev] s (((s.takenOver r x (decide ((s.rgn r).chan.twin = .busy))).restart r x q vmin).countChan r false) := by
    refine Keeps.countChan_keeps (by decide) (Keeps.restart_keeps (by decide) (Keeps.modRgn_keeps (by decide) (Keeps.ite
      (Keeps.modRgn_keeps (by decide) (Keeps.calGapOn_keeps (by decide) (Keeps.refl s) r) r _) (Keeps.calGapOn_keeps (by decide) (Keeps.refl s) r))
      r _) r x q vmin) r false
  generalize s.takenOver r x (decide ((s.rgn r).chan.twin = .busy)) = u at *
  obtain ⟨b, hb, hself, hin⟩ := u.restart_spec hregular r x q vmin
  have hkept : b.chan = (u.rgn r).chan ∧ b.swap = (u.rgn r).swap ∧ b.cnt = (u.rgn r).cnt := by
    rcases hb with rfl | rfl
    · exact ⟨rfl, rfl, rfl⟩
    · exact ⟨rfl, rfl, rfl⟩
  obtain ⟨hbchan, hbswap, hbcnt⟩ := hkept
  generalize u.restart r x q vmin = v at *
  obtain ⟨⟨c, hrgn, -, hfaults⟩, hin'⟩ := State.countChan_spec hin.regular r false
  generalize v.countChan r false = w at *
  have hraised : (w.raise evRegionTakeover r).rgn r = { v.rgn r with cnt := c } := by
    rw [State.rgn_congr ((Keeps.raise_keeps (gs := [.ev]) (List.Subset.refl _) (Keeps.refl w) _ _).only.same .reg (by decide)), hrgn]
  have hvchan : (v.rgn r).chan = (u.rgn r).chan := (congrArg Region.chan hself :).trans hbchan
  have hvcnt : (v.rgn r).cnt = (s.rgn r).cnt := ((congrArg Region.cnt hself :).trans hbcnt).trans hcnt
  refine ⟨_, hrun, ?_, ?_, ?_, ?_, ?_, ?_, ?_, ?_, ?_, w, hk.only.same .sys (by decide), rfl⟩
  all_goals rw [hraised]
  · exact (congrArg Region.stop hself :)
  · exact (congrArg Chan.st hvchan).trans hst
  · exact (congrArg Chan.activeB hvchan).trans hactive
  · exact (congrArg Chan.twin hvchan).trans hfail
  · exact (congrArg Region.nominal hself :)
  · exact (congrArg Region.edge hself :)
  · exact ((congrArg Region.swap hself :).trans hbswap).trans hswap
  · exact (congrArg (fun y : Region => y.fl.fast) hself :)
  · exact hfaults.trans (by rw [hvcnt]; rfl)

end Sys2Proof.Machine
end

section
/-! The failures of an oscillator and planned swaps (R52, R61-R66, R235, R241). -/
namespace Sys2Proof.Machine
open Sys2Proof.Safety

/-! ### The last oscillator fails -/

theorem State.mem_sideCrossings_own (s : State) (r : RegionNo) {n : Nat} (hn : n = 4 ∨ n = 5 ∨ n = 7 ∨ n = 8) : xId n r ∈ s.sideCrossings [r] := by
  simp only [State.sideCrossings, List.mem_append, List.mem_eraseDups, List.mem_flatMap]
  refine .inl ⟨r, List.mem_singleton_self r, ?_⟩
  rcases hn with rfl | rfl | rfl | rfl <;> simp [State.regionCrossings]

/-- The region with no oscillator left (R66). -/
def Region.died (g : Region) : Region :=
  { g with
    chan := { g.chan with st := .dead, twin := .failed, locked := false, reloadWin := none }, swap := none
    stop := g.stop.map fun x => { x with failed := true } }

/-- The outage is one stop: the one that is open, or its own (Table 2-7). -/
def State.outaged (s : State) (r : RegionNo) : State := if (s.rgn r).stop.isSome then s else s.openStop r 3 (s.rgn r).nominal true

theorem State.regionDie_eq (s : State) (r : RegionNo) : s.regionDie r =
    ((((s.outaged r).calLeave r .failed).modRgn r Region.died).raise evRegionDead r).fenceAll ((s.outaged r).sideCrossings [r]) := rfl

theorem State.outaged_spec {s : State} (h : Regular s) (r : RegionNo) : Regular (s.outaged r) ∧
    ∃ x, ((s.outaged r).rgn r).stop = some x ∧ ((s.rgn r).stop = none → x.kind = 3) := by
  unfold State.outaged
  rcases hstop : (s.rgn r).stop with _ | x
  · obtain ⟨hcore, hin⟩ := State.openStop_spec h r 3 (s.rgn r).nominal true
    simp only [Option.isSome_none, Bool.false_eq_true, if_false]
    generalize s.openStop r 3 (s.rgn r).nominal true = t at *
    exact ⟨hin.regular, _, (congrArg Region.stop hcore :), fun _ => rfl⟩
  · simp only [Option.isSome_some, if_true]
    exact ⟨h, x, hstop, fun hnone => absurd hnone (by simp)⟩

theorem State.regionDie_spec {s : State} (h : Regular s) {r : RegionNo} (hr : r < 2 ^ 28) :
    ((s.regionDie r).rgn r).chan.st = .dead ∧ ((s.regionDie r).rgn r).swap = none ∧
    (∃ x, ((s.regionDie r).rgn r).stop = some x ∧ x.failed = true ∧ ((s.rgn r).stop = none → x.kind = 3)) ∧
    (∀ n, n = 4 ∨ n = 5 ∨ n = 7 ∨ n = 8 → ((s.regionDie r).xing (xId n r)).st = .fenced) ∧
    (∃ u : State, u.sys = s.sys ∧ (s.regionDie r).ev = (u.raise evRegionDead r).ev) := by
  obtain ⟨hout, x, hstop, hkind⟩ := State.outaged_spec h r
  have hk1 : Keeps [.mbx, .reg, .et, .xg, .cal, .ev] s (s.outaged r) :=
    Keeps.ite (Keeps.refl s) (Keeps.openStop_keeps (by decide) (Keeps.refl s) r _ _ _)
  have hids (n : Nat) (hn : n = 4 ∨ n = 5 ∨ n = 7 ∨ n = 8) := (s.outaged r).mem_sideCrossings_own r hn
  rw [State.regionDie_eq]
  generalize (s.outaged r).sideCrossings [r] = ids at hids
  generalize s.outaged r = u1 at *
  have hleft := State.calLeave_inRegion hout r .failed
  have hk2 := Keeps.calLeave_keeps (gs := [.mbx, .reg, .et, .xg, .cal, .ev]) (by decide) hk1 r .failed
  generalize u1.calLeave r .failed = u2 at *
  have hstop2 : (u2.rgn r).stop = some x := (congrArg Region.stop hleft.self :).trans hstop
  have hk3 := Keeps.modRgn_keeps (gs := [.mbx, .reg, .et, .xg, .cal, .ev]) (by decide) hk2 r Region.died
  have hregular3 := hk3.regular h
  have hrgn := u2.rgn_modRgn r Region.died hleft.regular.regions
  generalize u2.modRgn r Region.died = u3 at *
  have hk4 := Keeps.raise_keeps (gs := [.ev]) (List.Subset.refl _) (Keeps.refl u3) evRegionDead r
  have hregular4 := hk4.regular hregular3
  have hrgn4 : (u3.raise evRegionDead r).rgn r = (u2.rgn r).died := (State.rgn_congr (hk4.only.same .reg (by decide)) r).trans hrgn
  have hev : ((u3.raise evRegionDead r).fenceAll ids).ev = (u3.raise evRegionDead r).ev :=
    (Keeps.fenceAll_keeps (gs := [.reg, .ls, .xg]) (List.Subset.refl _) (Keeps.refl _) ids).only.same .ev (by decide)
  have hsys3 : u3.sys = s.sys := hk3.only.same .sys (by decide)
  generalize hu4 : u3.raise evRegionDead r = u4 at *
  have hcore := ((State.CoreKept.refl (s := u4) hregular4.regions).fenceAll ids).region r
  rw [hrgn4] at hcore
  have hclass {n : Nat} (hn : n = 4 ∨ n = 5 ∨ n = 7 ∨ n = 8) : xClass (xId n r) ≠ 9 := by
    rw [xClass_xId hr]
    rcases hn with rfl | rfl | rfl | rfl <;> decide
  have hfenced (n : Nat) (hn : n = 4 ∨ n = 5 ∨ n = 7 ∨ n = 8) := State.fenceAll_fenced (hids n hn) (hclass hn) hregular4
  generalize u4.fenceAll ids = t at *
  refine ⟨(congrArg (fun g : Region => g.chan.st) hcore :), (congrArg Region.swap hcore :), ⟨{ x with failed := true }, ?_, rfl, hkind⟩, hfenced,
    u3, hsys3, by rw [hu4]; exact hev⟩
  rw [show (t.rgn r).stop = _ from (congrArg Region.stop hcore :)]
  exact congrArg (Option.map fun x : Stop => { x with failed := true }) hstop2

theorem exec_regionDead {r : RegionNo} {s : State} (hvalid : validRegion r = true) (hlive : (s.rgn r).chan.st ≠ .dead)
    (htwin : (s.rgn r).chan.hasTwin = false) (hruns : s.clocked r = true ∨ (s.rgn r).stop.isSome = true) :
    exec (.regionDead r) s = .next (s.regionDie r) := by
  have hrun : exec (.regionDead r) s = execRegionDead r s := rfl
  rw [hrun, execRegionDead]
  exact if_pos ⟨hvalid, hlive, by simp [htwin], hruns⟩

theorem exec_channelEdgeTimeout_twin {r : RegionNo} {s : State} (hclock : s.clocked r = true) (hstop : (s.rgn r).stop = none)
    (htwin : (s.rgn r).chan.hasTwin = true) : exec (.channelEdgeTimeout r) s = .next (s.openStop r 2 (s.rgn r).nominal true) := by
  have hrun : exec (.channelEdgeTimeout r) s = execChannelEdgeTimeout r s := rfl
  rw [hrun, execChannelEdgeTimeout]
  rw [if_neg (by simp [hclock, hstop])]
  exact if_pos htwin

/-! ### A reloaded twin locks -/

/-- The twin has locked (R62). -/
def State.twinLocked (s : State) (r : RegionNo) : State := s.modRgn r fun g => { g with chan := { g.chan with locked := true, reloadWin := none } }

theorem exec_twinReloadLocked {r : RegionNo} {s : State} (hreload : (s.rgn r).chan.reloadWin.isSome = true) (htwin : (s.rgn r).chan.twin = .standby) :
    exec (.twinReloadLocked r) s = .next (if (s.rgn r).cal.ending then (s.twinLocked r).calLeave r .accepted else s.twinLocked r) := by
  have hrun : exec (.twinReloadLocked r) s = execTwinReloadLocked r s := rfl
  rw [hrun, execTwinReloadLocked]
  exact if_pos ⟨hreload, htwin⟩

/-- A region that has left its slot is not at work, and its busy twin alone has changed (R239). -/
theorem Region.calLeft_synced (g : Region) (e : CalEnd) (win now : Nat) (run test : Bool) :
    (((g.calLeft g.cal e win now).cal.synced run test).running = false) ∧ ((g.calLeft g.cal e win now).cal.synced run test).ending = false ∧
    (g.chan.twin ≠ .busy → (g.calLeft g.cal e win now).chan = g.chan) ∧ (g.calLeft g.cal e win now).swap = g.swap := by
  have hidle : (g.calLeft g.cal e win now).cal.running = false := rfl
  refine ⟨?_, rfl, fun hbusy => ?_, ?_⟩
  · rw [RgnCal.running, RgnCal.synced, if_neg (by simp [hidle])]
    split
    · rfl
    · split <;> rfl
  · obtain ⟨k, h⟩ := g.calLeft_eq g.cal e win now
    rw [h, show (g.cal.running && decide (g.chan.twin = .busy) && g.swap.isNone) = false by simp [hbusy]]
    rfl
  · exact (congrArg Region.swap (g.untwinned_calLeft g.cal e win now) :)

/-- A region that leaves its slot. -/
theorem State.calLeave_left {s : State} (h : Regular s) (r : RegionNo) (e : CalEnd) :
    ((s.calLeave r e).rgn r).cal.running = false ∧ ((s.calLeave r e).rgn r).cal.ending = false ∧ r ∉ (s.calLeave r e).cal.busy ∧
    ((s.rgn r).chan.twin ≠ .busy → ((s.calLeave r e).rgn r).chan = (s.rgn r).chan) ∧ ((s.calLeave r e).rgn r).swap = (s.rgn r).swap := by
  have k := State.calLeave_spec r e h.regions
  obtain ⟨run, test, hrgn⟩ := k.rgn
  obtain ⟨hrunning, hending, hchan, hswap⟩ := (s.rgn r).calLeft_synced e s.win s.now run test
  refine ⟨by rw [hrgn]; exact hrunning, by rw [hrgn]; exact hending, ?_, fun hb => by rw [hrgn]; exact hchan hb, by rw [hrgn]; exact hswap⟩
  rw [k.cal]
  simp

end Sys2Proof.Machine
end

section
/-! Planned swaps, and the obligation on oscillators (R63-R65, R235, R241). -/
namespace Sys2Proof.Machine
open Sys2Proof.Safety

/-- The region with its twin loaded, locked and busy for a swap (Table 2-6). -/
def Region.swapping (g : Region) (why : SwapWhy) (now : Nat) : Region :=
  { (g.load (!g.chan.activeB) g.nominal) with
    chan := { g.chan with st := if g.chan.st = .paired then .twinBusy else g.chan.st, twin := .busy, locked := true, reloadWin := none }
    swap := some ⟨why, some ((now + 1310) / 256)⟩ }

theorem exec_plannedSwapRequest_drift {r : RegionNo} {s : State} (hclock : s.clocked r = true) (htwin : (s.rgn r).chan.hasTwin = true)
    (hstop : (s.rgn r).stop = none) (hpend : (s.rgn r).pend = none) (hdrift : 2 ≤ (s.rgn r).fl.drift) :
    exec (.plannedSwapRequest r .drift) s = .next ((s.calGapOn r).modRgn r fun g => g.swapping .drift (s.calGapOn r).now) := by
  have hrun : exec (.plannedSwapRequest r .drift) s = execPlannedSwapRequest r .drift s := rfl
  rw [hrun]
  unfold execPlannedSwapRequest
  refine if_pos ?_
  rw [hclock, htwin, hstop, hpend]
  exact decide_eq_true hdrift

theorem exec_plannedSwapRequest_calibration {r : RegionNo} {s : State} (hclock : s.clocked r = true) (htwin : (s.rgn r).chan.hasTwin = true)
    (hstop : (s.rgn r).stop = none) (hpend : (s.rgn r).pend = none) (hfw : s.fw = true) (hsuspect : s.twinSuspect r = false)
    (hswap : (s.rgn r).swap = none) (hstandby : (s.rgn r).chan.twin = .standby) (hphase : (s.rgn r).cal.phase = 4)
    (hending : (s.rgn r).cal.ending = false) (hreload : (s.rgn r).chan.reloadWin = none) (hgap : s.gapApplies r = false) :
    exec (.plannedSwapRequest r .calibration) s = .next (s.modRgn r fun g => g.swapping .calibration s.now) := by
  have hrun : exec (.plannedSwapRequest r .calibration) s = execPlannedSwapRequest r .calibration s := rfl
  rw [hrun]
  unfold execPlannedSwapRequest
  exact if_pos (by simp [hclock, htwin, hstop, hpend, hfw, hsuspect, hswap, hstandby, hphase, hending, hreload, hgap])

/-- Where gap mode applies no swap is made for a calibration (R241). -/
theorem exec_plannedSwapRequest_gap {r : RegionNo} {s : State} (hphase : (s.rgn r).cal.phase = 4) (hgap : s.gapApplies r = true) :
    exec (.plannedSwapRequest r .calibration) s = .next (s.calGapHalf r) := by
  have hrun : exec (.plannedSwapRequest r .calibration) s = execPlannedSwapRequest r .calibration s := rfl
  rw [hrun]
  unfold execPlannedSwapRequest
  refine (if_neg ?_).trans (if_pos ⟨rfl, hphase, hgap⟩)
  simp [hgap]

/-! ### The handover -/

/-- The former active oscillator in the role that the reason gives (R65). -/
def Chan.role (c : Chan) : SwapWhy → Chan
  | .calibration => { c with twin := .busy, st := if c.st = .paired then .twinBusy else c.st }
  | .wear => { c with twin := .standby, st := if c.st = .twinBusy then .paired else c.st }
  | .drift => { c with twin := .failed, st := .single, locked := false }
  | .retire => { c with twin := .failed, st := .single, locked := false }

/-- The region on its aligned twin. -/
def Region.handed (g : Region) (why : SwapWhy) : Region :=
  { g with
    chan := ({ g.chan with activeB := !g.chan.activeB } : Chan).role why
    swap := none
    cal := if why = .calibration then { g.cal with phase := if g.cal.test then 7 else 5, half := false, oscB := g.chan.activeB } else g.cal
    fl := { g.fl with fast := 4, drift := 0 } }

/-- The swap counted and told. -/
def State.handedOver (s : State) (r : RegionNo) (why : SwapWhy) : State :=
  let u := ((s.modRgn r fun g => g.handed why).countChan r true).raise evRegionSwap r
  let v := if why = .retire then
      ({ u with cal := { u.cal with retired := sat16 u.cal.retired 1 } } : State).raise evCalOscRetired (r + at_ (b2n (s.rgn r).chan.activeB) 16)
    else u
  v.raiseIf (decide (why = .drift)) evRegionTakeover r

theorem exec_swapHandover {r : RegionNo} {why : SwapWhy} {w : Nat} {s : State} (hswap : (s.rgn r).swap = some ⟨why, some w⟩)
    (hclock : s.clocked r = true) (hstop : (s.rgn r).stop = none) (hpend : (s.rgn r).pend = none) (hlast : (s.rgn r).sLast = 0)
    (hwhy : why = .drift ∨ (s.rgn r).win < w + 16) : exec (.swapHandover r) s = .next (s.handedOver r why) := by
  have hrun : exec (.swapHandover r) s = execSwapHandover r s := rfl
  have hgoes : s.clocked r = true ∧ (s.rgn r).stop.isNone = true ∧ (s.rgn r).pend.isNone = true ∧
      ((s.rgn r).sLast = 0 ∨ (why = .drift ∧ w + 1 ≤ (s.rgn r).win)) ∧ (why = .drift ∨ (s.rgn r).win < w + 16) :=
    ⟨hclock, by simp [hstop], by simp [hpend], .inl hlast, hwhy⟩
  rw [hrun, execSwapHandover]
  dsimp only
  rw [hswap]
  dsimp only
  rw [if_pos hgoes]
  unfold State.handedOver
  cases why <;> rfl

/-- What a handover leaves. -/
theorem State.handedOver_spec {s : State} (h : Regular s) (r : RegionNo) (why : SwapWhy) :
    (∃ c, (s.handedOver r why).rgn r = { (s.rgn r).handed why with cnt := c } ∧ c.swaps = ((s.rgn r).cnt.swaps + 1) % 65536) ∧
    (why = .retire → (s.handedOver r why).cal.retired = sat16 s.cal.retired 1) ∧ (why ≠ .retire → (s.handedOver r why).cal = s.cal) ∧
    ∀ k, k ≠ r → (s.handedOver r why).rgn k = s.rgn k := by
  have hmod : State.InRegion r (fun _ => ()) s (s.modRgn r fun g => g.handed why) := (State.InRegion.refl h).modRgn rfl
  have hrgn := s.rgn_modRgn r (fun g : Region => g.handed why) h.regions
  have hcal : (s.modRgn r fun g => g.handed why).cal = s.cal := rfl
  unfold State.handedOver
  dsimp only
  generalize (s.modRgn r fun g => g.handed why) = u at *
  obtain ⟨⟨c, hc, hswaps, -⟩, hin⟩ := State.countChan_spec hmod.regular r true
  have hcal1 : (u.countChan r true).cal = u.cal := (Keeps.countChan_keeps (gs := [.reg]) (List.Subset.refl _) (Keeps.refl u) r true).only.same .cal (by decide)
  generalize u.countChan r true = v at *
  have hraise := Keeps.raise_keeps (gs := [.ev]) (List.Subset.refl _) (Keeps.refl v) evRegionSwap r
  have hcal2 : (v.raise evRegionSwap r).cal = v.cal := hraise.only.same .cal (by decide)
  have hreg2 : (v.raise evRegionSwap r).reg = v.reg := hraise.only.same .reg (by decide)
  generalize v.raise evRegionSwap r = x at *
  have htold (y : State) (k : RegionNo) : (y.raiseIf (decide (why = .drift)) evRegionTakeover r).rgn k = y.rgn k :=
    State.rgn_congr ((Keeps.raiseIf_keeps (gs := [.ev]) (List.Subset.refl _) (Keeps.refl y) _ _ _).only.same .reg (by decide)) k
  have htoldCal (y : State) : (y.raiseIf (decide (why = .drift)) evRegionTakeover r).cal = y.cal :=
    (Keeps.raiseIf_keeps (gs := [.ev]) (List.Subset.refl _) (Keeps.refl y) _ _ _).only.same .cal (by decide)
  have hretired := Keeps.raise_keeps (gs := [.ev]) (List.Subset.refl _)
    (Keeps.refl ({ x with cal := { x.cal with retired := sat16 x.cal.retired 1 } } : State)) evCalOscRetired (r + at_ (b2n (s.rgn r).chan.activeB) 16)
  have hreg3 := hretired.only.same .reg (by decide)
  have hcal3 := hretired.only.same .cal (by decide)
  have hxreg (k : RegionNo) : (if why = .retire then
      ({ x with cal := { x.cal with retired := sat16 x.cal.retired 1 } } : State).raise evCalOscRetired (r + at_ (b2n (s.rgn r).chan.activeB) 16)
    else x).rgn k = v.rgn k := by
    split
    · exact (State.rgn_congr hreg3 k).trans (State.rgn_congr (t := ({ x with cal := { x.cal with retired := sat16 x.cal.retired 1 } } : State)) hreg2 k)
    · exact State.rgn_congr hreg2 k
  refine ⟨⟨c, ?_, ?_⟩, fun hwhy => ?_, fun hwhy => ?_, fun k hk => ?_⟩
  · rw [htold, hxreg, hc, hrgn]
  · rw [hswaps, hrgn]
    rfl
  · rw [htoldCal, if_pos hwhy]
    exact (congrArg Cal.retired hcal3 :).trans (by rw [hcal2, hcal1, hcal])
  · rw [htoldCal, if_neg hwhy, hcal2, hcal1, hcal]
  · rw [htold, hxreg, hin.others k hk, hmod.others k hk]

/-! ### A swap given up -/

theorem exec_swapWaitTimeout {r : RegionNo} {why : SwapWhy} {w : Nat} {s : State} (hswap : (s.rgn r).swap = some ⟨why, some w⟩)
    (hwhy : why ≠ .drift) (hwin : w + 16 ≤ (s.rgn r).win) :
    exec (.swapWaitTimeout r) s = .next (if why = .calibration then (s.swapDrop r).calLeave r .busy else s.swapDrop r) := by
  have hrun : exec (.swapWaitTimeout r) s = execSwapWaitTimeout r s := rfl
  rw [hrun, execSwapWaitTimeout, hswap]
  exact if_pos ⟨hwhy, hwin⟩

theorem State.swapDrop_spec {s : State} (h : Regular s) {r : RegionNo} {x : Swap} (hswap : (s.rgn r).swap = some x) :
    (s.swapDrop r).rgn r = { (if (s.rgn r).chan.twin = .busy then (s.rgn r).twinBack s.win else s.rgn r) with swap := none } ∧
    State.InRegion r (fun _ => ()) s (s.swapDrop r) := by
  refine ⟨?_, (State.InRegion.refl h).modRgn (by exact rfl)⟩
  rw [State.swapDrop, s.rgn_modRgn r _ h.regions]
  exact if_pos (by simp [hswap])

/-- A calibration given up for want of a swap stays due (R235). -/
theorem State.calLeave_busy_due {s : State} (h : Regular s) (r : RegionNo) (hage : (s.rgn r).cal.dueAge = false) :
    ((s.calLeave r .busy).rgn r).cal.dueDrift = true ∨ (s.rgn r).cal.test = true := by
  obtain ⟨run, test, hrgn⟩ := (State.calLeave_spec r .busy h.regions).rgn
  rw [hrgn]
  rcases htest : (s.rgn r).cal.test with _ | _
  · left
    have hdue : ((s.rgn r).calLeft (s.rgn r).cal .busy s.win s.now).cal.dueDrift = true := by
      simp only [Region.calLeft, htest, hage]
      simp
    exact hdue
  · exact .inr rfl

/-- Settles O53: each step of a failure or of a swap has its own region's fields, its counts and its calibration slot. -/
theorem oscillatorsFailAndSwap : Obligations.OscillatorsFailAndSwap := by
  unfold Obligations.OscillatorsFailAndSwap
  refine ⟨?_, ?_, ?_, ?_, ?_, ?_, ?_, ?_, ?_, ?_, ?_⟩
  · intro r s hs hclock hstop htwin
    obtain ⟨hcore, hin⟩ := State.openStop_spec hs r 2 (s.rgn r).nominal true
    have honly := (Keeps.openStop_keeps (gs := [.reg, .et, .xg, .ev]) (List.Subset.refl _) (Keeps.refl s) r 2 (s.rgn r).nominal true).only
    have hrun := exec_channelEdgeTimeout_twin hclock hstop htwin
    generalize s.openStop r 2 (s.rgn r).nominal true = t at *
    exact ⟨t, hrun, (congrArg Region.stop hcore :), (congrArg Region.chan hcore :), (congrArg Region.nominal hcore :), hin.others, honly⟩
  · intro r q vmin x s hs hstop hfailed hq htwin
    obtain ⟨t, hrun, h1, h2, h3, h4, h5, h6, h7, h8, h9, h10⟩ := exec_directTakeoverRestart_spec (vmin := vmin) hs hstop hfailed hq htwin
    exact ⟨t, hrun, h1, h2, h3, h4, h5, h6, h7, h8, h9, h10, exec_only_of_subset hrun (by rw [writes]; decide)⟩
  · intro r s hs hvalid hlive htwin hruns
    have hrun := exec_regionDead hvalid hlive htwin hruns
    obtain ⟨h1, h2, h3, h4, u, hu, hev⟩ := State.regionDie_spec hs (Nat.lt_trans (validRegion_lt hvalid) (by decide))
    have hsys := (exec_only hrun).same .sys (by rw [writes]; decide)
    exact ⟨_, hrun, h1, h2, h3, congrArg Sys.droop hsys, h4, u, congrArg Sys.epoch hu, congrArg Sys.erg hu, hev⟩
  · intro r s _ hreload htwin hending
    refine (exec_twinReloadLocked hreload htwin).trans ?_
    rw [if_neg (by simp [hending])]
    rfl
  · intro r s hs hreload htwin hending
    have hrun := exec_twinReloadLocked hreload htwin
    rw [if_pos hending] at hrun
    have hlocked : (s.twinLocked r).rgn r = { s.rgn r with chan := { (s.rgn r).chan with locked := true, reloadWin := none } } :=
      s.rgn_modRgn r _ hs.regions
    have hregular := (Keeps.modRgn_keeps (List.Subset.refl _) (Keeps.refl s) r fun g => { g with chan := { g.chan with locked := true, reloadWin := none } }).regular hs
    obtain ⟨hrunning, hend, hbusy, hchan, -⟩ := State.calLeave_left (s := s.twinLocked r) hregular r .accepted
    have hsame := hchan (by rw [hlocked]; simp [htwin])
    rw [hlocked] at hsame
    exact ⟨_, hrun, by rw [hsame], by rw [hsame], hend, hrunning, hbusy⟩
  · intro r s hs hclock htwin hstop hpend hdrift
    have hrun := exec_plannedSwapRequest_drift hclock htwin hstop hpend hdrift
    have hgap := State.calGapOn_inRegion hs r
    have hnow : (s.calGapOn r).now = s.now :=
      congrArg Sys.erg ((Keeps.calGapOn_keeps (gs := [.mbx, .reg, .cal]) (List.Subset.refl _) (Keeps.refl s) r).only.same .sys (by decide))
    generalize s.calGapOn r = u at *
    have hrgn := u.rgn_modRgn r (fun g => g.swapping .drift u.now) hgap.regular.regions
    refine ⟨_, hrun, by rw [hrgn]; rfl, by rw [hrgn]; rfl, ?_, ?_, fun k hk => (u.rgn_modRgn_ne _ hk).trans (hgap.others k hk),
      exec_only_of_subset hrun (by rw [writes]; decide)⟩
    · rw [hrgn]
      exact (congrArg (fun g : Region => g.chan.activeB) hgap.self :)
    · rw [hrgn, hnow]
      rfl
  · intro r s hs hclock htwin hstop hpend hfw hsuspect hswap hstandby hphase hending hreload hgap
    have hrun := exec_plannedSwapRequest_calibration hclock htwin hstop hpend hfw hsuspect hswap hstandby hphase hending hreload hgap
    have hrgn := s.rgn_modRgn r (fun g => g.swapping .calibration s.now) hs.regions
    refine ⟨_, hrun, by rw [hrgn]; rfl, by rw [hrgn]; rfl, by rw [hrgn]; rfl, by rw [hrgn]; rfl, fun k hk => s.rgn_modRgn_ne _ hk,
      (Keeps.modRgn_keeps (List.Subset.refl _) (Keeps.refl s) r _).only⟩
  · intro r s hs hphase htest hgap
    have hrun := exec_plannedSwapRequest_gap hphase hgap
    have hrgn : (s.calGapHalf r).rgn r = _ := s.rgn_modRgn r _ hs.regions
    refine ⟨_, hrun, ?_, by rw [hrgn], by rw [hrgn], by rw [hrgn], by rw [hrgn], fun k hk => s.rgn_modRgn_ne _ hk,
      (Keeps.modRgn_keeps (List.Subset.refl _) (Keeps.refl s) r _).only⟩
    rw [hrgn]
    exact if_neg (by simp [htest])
  · intro r why w s hs hswap hclock hstop hpend hlast hwhy
    have hrun := exec_swapHandover hswap hclock hstop hpend hlast hwhy
    obtain ⟨⟨c, hrgn, hswaps⟩, hretired, hcal, hothers⟩ := State.handedOver_spec hs r why
    generalize s.handedOver r why = t at *
    refine ⟨t, hrun, ?_, by rw [hrgn]; rfl, fun he => ?_, fun he => ?_, fun he => ?_, by rw [hrgn]; rfl, by rw [hrgn]; rfl, by rw [hrgn]; rfl,
      by rw [hrgn]; rfl, by rw [hrgn]; exact hswaps, hretired, hcal, hothers, exec_only_of_subset hrun (by rw [writes]; decide)⟩
    · rw [hrgn]
      cases why <;> rfl
    · rw [hrgn, he]
      rfl
    · rw [hrgn, he]
      rfl
    · rw [hrgn]
      rcases he with rfl | rfl <;> exact ⟨rfl, rfl⟩
  · intro r why w s hs hswap hwhy hwin
    have hrun := exec_swapWaitTimeout hswap (by rcases hwhy with rfl | rfl <;> decide) hwin
    rw [if_neg (by rcases hwhy with rfl | rfl <;> decide)] at hrun
    obtain ⟨hrgn, hin⟩ := State.swapDrop_spec hs hswap
    have honly := (Keeps.swapDrop_keeps (gs := [.reg]) (List.Subset.refl _) (Keeps.refl s) r).only
    generalize s.swapDrop r = t at *
    refine ⟨t, hrun, by rw [hrgn], ?_, fun hb => ?_, fun hb => by rw [hrgn, if_neg hb], hin.others, honly⟩
    · rw [hrgn]
      split <;> rfl
    · rw [hrgn, if_pos hb]
      exact ⟨rfl, rfl, rfl⟩
  · intro r w s hs hswap hwin
    have hrun := exec_swapWaitTimeout hswap (by decide) hwin
    rw [if_pos rfl] at hrun
    obtain ⟨hrgn, hin⟩ := State.swapDrop_spec hs hswap
    have hcal : ((s.swapDrop r).rgn r).cal = (s.rgn r).cal := by
      rw [hrgn]
      split
      · exact (s.rgn r).twinBack_cal s.win
      · rfl
    have hidle : ((s.swapDrop r).rgn r).chan.twin ≠ .busy := by
      rw [hrgn]
      split
      · exact (by decide : Twin.standby ≠ .busy)
      · next h => exact h
    generalize s.swapDrop r = u at *
    obtain ⟨hrunning, -, hbusy, hchan, hswap'⟩ := State.calLeave_left hin.regular r .busy
    have hdue := State.calLeave_busy_due hin.regular r
    have hothers := (State.calLeave_inRegion hin.regular r .busy).others
    rw [hcal] at hdue
    refine ⟨_, hrun, ?_, by rw [hchan hidle]; exact hidle, hrunning, hbusy, hdue, fun k hk => (hothers k hk).trans (hin.others k hk),
      exec_only_of_subset hrun (by rw [writes]; decide)⟩
    rw [hswap', hrgn]

end Sys2Proof.Machine
end

section
/-! SUPPORT. Synthesizers and ports under the changes of one; what a relock leaves (R170, R176); the ride of a quadrant (R174, R175). -/
namespace Sys2Proof.Machine
open Sys2Proof.Safety

/-! ### One synthesizer, one port -/

/-- The synthesizer that serves a port is one of the 72 and is connected to it. -/
theorem State.serving_some {s : State} {p i : Nat} (h : s.serving p = some i) : i < 72 ∧ (s.synth i).port = some p := by
  unfold State.serving at h
  exact ⟨List.mem_range.1 (List.mem_of_find?_eq_some h), by simpa using List.find?_some h⟩

/-- Where the synthesizers are connected alike, they serve alike. -/
theorem State.serving_congr {s t : State} (h : ∀ i, (t.synth i).port = (s.synth i).port) (p : Nat) : t.serving p = s.serving p := by
  simp only [State.serving, h]

theorem State.port_raise (s : State) (id arg p : Nat) : (s.raise id arg).port p = s.port p := by
  have hls : (s.raise id arg).ls = s.ls := (Keeps.raise_keeps (List.Subset.refl _) (Keeps.refl s) id arg).only.same .ls (by decide)
  rw [State.port, hls, ← State.port]

/-! ### Relocks -/

/-- A synthesizer that begins to relock at a rate on its quadrant's source (R170). -/
def Synth.relocked (y : Synth) (half back : Bool) (now : Nat) : Synth :=
  { y with
    st := .locking, half := half || back, bwEff := y.bw, backup := back, rideAt := none
    lockAt := if y.cold && decide (y.st = .locking) then y.lockAt else some now
    cold := y.cold && decide (y.st = .locking), jitRun := 0 }

/-- The quadrant's source is the backup line. -/
def State.onLine (s : State) (i : Nat) : Bool := decide (s.source16 (synthQuad i) = 6)

theorem State.synth_relock {s : State} {i : Nat} (half : Bool) (hi : i < 72) :
    (s.relock i half).synth i = (s.synth i).relocked half (s.onLine i) s.now := synth_modSynth s _ hi

theorem State.synth_relock_ne (s : State) {i j : Nat} (half : Bool) (h : j ≠ i) : (s.relock i half).synth j = s.synth j :=
  synth_modSynth_ne s _ h

/-- Nothing has changed but synthesizers that serve no port, and they still serve none. -/
structure State.SparesOnly (s t : State) : Prop where
  rest : { t with ls := { t.ls with syn := s.ls.syn } } = s
  port : ∀ i, (t.synth i).port = (s.synth i).port
  used : ∀ i, (s.synth i).port ≠ none → t.synth i = s.synth i

theorem State.SparesOnly.refl (s : State) : s.SparesOnly s := ⟨rfl, fun _ => rfl, fun _ _ => rfl⟩

theorem State.SparesOnly.trans {s t u : State} (h : s.SparesOnly t) (k : t.SparesOnly u) : s.SparesOnly u where
  rest := by rw [← h.rest, ← k.rest]
  port i := (k.port i).trans (h.port i)
  used i hi := (k.used i (by rw [h.port i]; exact hi)).trans (h.used i hi)

theorem State.SparesOnly.relock {s : State} {i : Nat} (half : Bool) (hspare : (s.synth i).port = none) : s.SparesOnly (s.relock i half) where
  rest := rfl
  port _ := s.synth_modSynth_field Synth.port i _ fun _ => rfl
  used _ hj := s.synth_relock_ne half fun he => hj (he ▸ hspare)

theorem State.SparesOnly.foldl {s : State} {f : State → Nat → State} {l : List Nat} (hf : ∀ (t : State) (n : Nat), t.SparesOnly (f t n)) :
    s.SparesOnly (l.foldl f s) :=
  List.foldlRecOn (motive := fun t => s.SparesOnly t) l f (.refl s) fun t ht n _ => ht.trans (hf t n)

theorem State.SparesOnly.sys {s t : State} (h : s.SparesOnly t) : t.sys = s.sys := (congrArg State.sys h.rest :)

theorem State.SparesOnly.opt {s t : State} (h : s.SparesOnly t) : t.opt = s.opt := (congrArg State.opt h.rest :)

theorem State.SparesOnly.ev {s t : State} (h : s.SparesOnly t) : t.ev = s.ev := (congrArg State.ev h.rest :)

theorem State.SparesOnly.ports {s t : State} (h : s.SparesOnly t) (p : Nat) : t.port p = s.port p := by
  have hport : t.ls.port = s.ls.port := (congrArg (fun x : State => x.ls.port) h.rest :)
  rw [State.port, hport, ← State.port]

theorem State.SparesOnly.forced {s t : State} (h : s.SparesOnly t) : t.ls.forced = s.ls.forced :=
  (congrArg (fun x : State => x.ls.forced) h.rest :)

/-- The riding spares of a quadrant that relock (R176). -/
theorem State.spareRelock_sparesOnly (s : State) (q : Nat) : s.SparesOnly (s.spareRelock q) := by
  refine .foldl fun t i => ?_
  split
  case isTrue h => exact .relock true h.1
  case isFalse => exact .refl t

/-- The unassigned spares of a quadrant that follow the majority (R169). -/
theorem State.spareFollow_sparesOnly (s : State) (q : Nat) : s.SparesOnly (s.spareFollow q) := by
  refine .foldl fun t i => ?_
  dsimp only
  split
  case isTrue h => exact .relock _ h.1
  case isFalse => exact .refl t

/-- A relock at HALF: the synthesizer relocks, and spares may with it. -/
theorem State.relockHalf_sparesOnly (s : State) (i : Nat) : (s.relock i true).SparesOnly (s.relockHalf i) := by
  unfold State.relockHalf
  dsimp only
  split
  case isTrue => exact .refl _
  case isFalse => exact State.spareRelock_sparesOnly _ _

/-- A synthesizer that serves a port and relocks at HALF. -/
theorem State.synth_relockHalf {s : State} {i : Nat} (hi : i < 72) (hport : (s.synth i).port ≠ none) :
    (s.relockHalf i).synth i = (s.synth i).relocked true (s.onLine i) s.now := by
  rw [← State.synth_relock true hi]
  refine (s.relockHalf_sparesOnly i).used i ?_
  rw [State.synth_relock true hi]
  exact hport

theorem State.port_relockHalf (s : State) (i p : Nat) : (s.relockHalf i).port p = s.port p :=
  (s.relockHalf_sparesOnly i).ports p

/-! ### A quadrant rides -/

/-- A pending request for FULL is withdrawn from the port that a synthesizer serves (Table 6-6). -/
def State.unasked (s : State) (port : Option Nat) : State := match port with
  | some p => s.modPort p fun x => if x.rate = .full ∧ !x.ack then { x with rate := .none, reqAt := none } else x
  | none => s

theorem State.synth_unasked (s : State) (port : Option Nat) (i : Nat) : (s.unasked port).synth i = s.synth i := by
  cases port <;> rfl

theorem State.port_unasked {s : State} {port : Option Nat} {p : Nat} (h : port ≠ some p) : (s.unasked port).port p = s.port p := by
  cases port with
  | none => rfl
  | some o => exact port_modPort_ne s _ fun he => h (he ▸ rfl)

/-- A synthesizer that begins to ride (R174). -/
def Synth.riding (y : Synth) (now : Nat) : Synth :=
  { y with st := .ride, rideAt := some now, rideOver := false, lockAt := none, jitRun := 0 }

/-- What a change of its quadrant's source does to one synthesizer (R170, R174). -/
def State.rideTurn (back good : Bool) (s : State) (i : Nat) : State :=
  if (s.synth i).st = .locked ∧ (!good ∨ (s.synth i).backup ≠ back) then
    let t := s.modSynth i fun y => y.riding s.now
    { t with ls := { t.ls with rides := sat16 t.ls.rides 1 } }.unasked (s.synth i).port
  else if (s.synth i).st = .locking then
    (if !good ∨ (s.synth i).backup ≠ back then s.unasked (s.synth i).port else s).modSynth i
      fun y => { y with backup := back, half := y.half || back }
  else s

theorem State.rideQuad_eq (s : State) (q : Nat) :
    s.rideQuad q = (quadAll q).foldl (State.rideTurn (decide (s.source16 q = 6)) (s.refGood q)) s := rfl

/-- Its turn changes that synthesizer, and a port that it serves, and no other. -/
theorem State.rideTurn_other (back good : Bool) (s : State) (i : Nat) :
    (∀ j, j ≠ i → (s.rideTurn back good i).synth j = s.synth j) ∧ (∀ j, ((s.rideTurn back good i).synth j).port = (s.synth j).port) ∧
      (∀ p, (s.synth i).port ≠ some p → (s.rideTurn back good i).port p = s.port p) := by
  unfold State.rideTurn
  split
  case isTrue =>
    refine ⟨fun j hj => ?_, fun j => ?_, fun p hp => State.port_unasked hp⟩
    · exact (State.synth_unasked ..).trans (synth_modSynth_ne s _ hj)
    · exact (congrArg Synth.port (State.synth_unasked ..)).trans (s.synth_modSynth_field Synth.port i j fun _ => rfl)
  case isFalse =>
    split
    case isTrue =>
      split
      case isTrue =>
        refine ⟨fun j hj => ?_, fun j => ?_, fun p hp => State.port_unasked hp⟩
        · exact (synth_modSynth_ne _ _ hj).trans (State.synth_unasked ..)
        · refine Eq.trans (State.synth_modSynth_field Synth.port _ i j fun _ => ?_) (congrArg Synth.port (State.synth_unasked ..))
          rfl
      case isFalse =>
        exact ⟨fun j hj => synth_modSynth_ne s _ hj, fun j => s.synth_modSynth_field Synth.port i j fun _ => rfl, fun _ _ => rfl⟩
    case isFalse => exact ⟨fun _ _ => rfl, fun _ => rfl, fun _ _ => rfl⟩

theorem State.rideTurn_sys (back good : Bool) (s : State) (i : Nat) : (s.rideTurn back good i).sys = s.sys := by
  unfold State.rideTurn State.unasked
  cases (s.synth i).port <;> split <;> (try split) <;> (try split) <;> rfl

theorem State.rideTurn_locked {back : Bool} {s : State} {i : Nat} (hi : i < 72) (hst : (s.synth i).st = .locked) :
    (s.rideTurn back false i).synth i = (s.synth i).riding s.now := by
  rw [State.rideTurn, if_pos ⟨hst, .inl rfl⟩]
  exact (State.synth_unasked ..).trans (synth_modSynth s _ hi)

theorem State.rideTurn_idle {back good : Bool} {s : State} {i : Nat} (h : (s.synth i).st ≠ .locked ∧ (s.synth i).st ≠ .locking) :
    s.rideTurn back good i = s := by
  rw [State.rideTurn, if_neg fun k => h.1 k.1, if_neg h.2]

/-- In a fold over synthesizers, one is as it was until its turn, and stays as its turn left it. -/
theorem State.rideFold_spec {back good : Bool} {l : List Nat} (hnodup : l.Nodup) (s : State) :
    (∀ i, i ∉ l → (l.foldl (State.rideTurn back good) s).synth i = s.synth i) ∧
      (∀ i ∈ l, ∃ t : State, t.synth i = s.synth i ∧ t.sys = s.sys ∧
        (l.foldl (State.rideTurn back good) s).synth i = (t.rideTurn back good i).synth i) ∧
      ∀ p, (∀ i ∈ l, (s.synth i).port ≠ some p) → (l.foldl (State.rideTurn back good) s).port p = s.port p := by
  induction l generalizing s with
  | nil => exact ⟨fun _ _ => rfl, nofun, fun _ _ => rfl⟩
  | cons n l ih =>
    obtain ⟨hn, hl⟩ := List.nodup_cons.1 hnodup
    obtain ⟨hout, hin, hports⟩ := ih hl (s.rideTurn back good n)
    obtain ⟨hother, hport, hp⟩ := s.rideTurn_other back good n
    rw [List.foldl_cons]
    refine ⟨fun i hi => ?_, fun i hi => ?_, fun p hfree => ?_⟩
    · rw [List.mem_cons, not_or] at hi
      rw [hout i hi.2, hother i hi.1]
    · rcases List.mem_cons.1 hi with rfl | hi
      · exact ⟨s, rfl, rfl, hout _ hn⟩
      · obtain ⟨t, ht, hsys, he⟩ := hin i hi
        exact ⟨t, ht.trans (hother i fun he => hn (he ▸ hi)), hsys.trans (s.rideTurn_sys back good n), he⟩
    · rw [hports p fun i hi => (hport i).symm ▸ hfree i (List.mem_cons_of_mem n hi), hp p (hfree n List.mem_cons_self)]

theorem quadAll_nodup : ∀ q : Fin 4, (quadAll q).Nodup := by decide

theorem quadAll_lt : ∀ q : Fin 4, ∀ i ∈ quadAll q, i < 72 := by decide

theorem quadPorts_nodup : ∀ q : Fin 4, (quadPorts q).Nodup := by decide

theorem quadPorts_lt : ∀ q : Fin 4, ∀ i ∈ quadPorts q, i < 64 := by decide

/-- A quadrant that loses its reference (R174). -/
theorem State.rideQuad_spec (q : Fin 4) (s : State) (hgood : s.refGood q = false) :
    (∀ i, i ∈ quadAll q → (s.synth i).st = .locked → (s.rideQuad q).synth i = (s.synth i).riding s.now) ∧
      (∀ i, i ∉ quadAll q ∨ (s.synth i).st ≠ .locked ∧ (s.synth i).st ≠ .locking → (s.rideQuad q).synth i = s.synth i) ∧
      ∀ p, (∀ i, i ∈ quadAll q → (s.synth i).port ≠ some p) → (s.rideQuad q).port p = s.port p := by
  rw [State.rideQuad_eq, hgood]
  obtain ⟨hout, hin, hports⟩ := State.rideFold_spec (back := decide (s.source16 q = 6)) (good := false) (quadAll_nodup q) s
  refine ⟨fun i hi hst => ?_, fun i hi => ?_, hports⟩
  · obtain ⟨t, ht, hsys, he⟩ := hin i hi
    rw [he, State.rideTurn_locked (quadAll_lt q i hi) (ht.symm ▸ hst), ht, State.now, hsys]
  · rcases Decidable.em (i ∈ quadAll q) with hmem | hmem
    · obtain ⟨t, ht, -, he⟩ := hin i hmem
      rw [he, State.rideTurn_idle (ht.symm ▸ hi.resolve_left fun h => h hmem), ht]
    · exact hout i hmem

end Sys2Proof.Machine
end

section
/-! SUPPORT. Ports are asked down to HALF and back up, and what their answers and their silence lead to (R172-R177). -/
namespace Sys2Proof.Machine
open Sys2Proof.Safety

/-! ### A port that another one's turn leaves alone -/

/-- A port, the synthesizer that serves it, and what its rate is judged by, are as before. -/
structure State.PortAs (p : Nat) (s t : State) : Prop where
  serving : t.serving p = s.serving p
  synth : ∀ i, s.serving p = some i → t.synth i = s.synth i
  port : t.port p = s.port p
  opt : t.opt = s.opt
  sys : t.sys = s.sys
  gctrl : t.ls.gctrl = s.ls.gctrl

theorem State.PortAs.refl (p : Nat) (s : State) : s.PortAs p s := ⟨rfl, fun _ _ => rfl, rfl, rfl, rfl, rfl⟩

theorem State.PortAs.trans {p : Nat} {s t u : State} (h : State.PortAs p s t) (k : State.PortAs p t u) : State.PortAs p s u where
  serving := k.serving.trans h.serving
  synth i hi := (k.synth i (h.serving.trans hi)).trans (h.synth i hi)
  port := k.port.trans h.port
  opt := k.opt.trans h.opt
  sys := k.sys.trans h.sys
  gctrl := k.gctrl.trans h.gctrl

theorem State.noSource_congr {s t : State} (hopt : t.opt = s.opt) (q : Nat) : t.noSource q = s.noSource q := by
  have h : t.noSource q = ({ s with opt := t.opt } : State).noSource q := rfl
  rw [h, hopt]

/-- Whether a port is due to go down to HALF, said by what it depends on. -/
theorem State.halfDue_congr {s t : State} {p : Nat} (hserving : t.serving p = s.serving p)
    (hsynth : ∀ i, s.serving p = some i → (t.synth i).st = (s.synth i).st ∧ (t.synth i).half = (s.synth i).half ∧
      (t.synth i).rideAt = (s.synth i).rideAt)
    (hport : t.port p = s.port p) (hopt : t.opt = s.opt) (hsys : t.sys = s.sys) (hgctrl : t.ls.gctrl = s.ls.gctrl) :
    t.halfDue p = s.halfDue p := by
  unfold State.halfDue
  rw [hserving]
  cases hs : s.serving p with
  | none => rfl
  | some i =>
    obtain ⟨hst, hhalf, hat⟩ := hsynth i hs
    simp only [State.noSource_congr hopt, hst, hhalf, hat, hport, State.site, hopt, State.now, hsys, State.rideNs, hgctrl] <;> rfl

theorem State.PortAs.halfDue {p : Nat} {s t : State} (h : State.PortAs p s t) : t.halfDue p = s.halfDue p :=
  State.halfDue_congr h.serving (fun i hi => by rw [h.synth i hi]; exact ⟨rfl, rfl, rfl⟩) h.port h.opt h.sys h.gctrl

/-- A synthesizer's relock, with spares or without, is nothing to the ports that it does not serve. -/
theorem State.PortAs.of_relock {p n i : Nat} {half : Bool} {s t : State} (hn : s.serving n = some i) (hp : p ≠ n)
    (h : (s.relock i half).SparesOnly t) : State.PortAs p s t := by
  obtain ⟨-, hport⟩ := State.serving_some hn
  refine ⟨State.serving_congr (fun j => (h.port j).trans (s.synth_modSynth_field Synth.port i j fun _ => rfl)) p, fun j hj => ?_,
    h.ports p, h.opt, h.sys, (congrArg (fun x : State => x.ls.gctrl) h.rest :)⟩
  obtain ⟨-, hj⟩ := State.serving_some hj
  have hne : j ≠ i := fun he => hp (Option.some.inj (hj.symm.trans (he ▸ hport)))
  have hsame : (s.relock i half).synth j = s.synth j := s.synth_relock_ne half hne
  exact (h.used j (by rw [hsame, hj]; nofun)).trans hsame

/-- A port's renegotiation is nothing to another port. -/
theorem State.reneg_other (s : State) {p n : Nat} (half : Bool) (hp : p ≠ n) : State.PortAs p s (s.reneg n half) := by
  unfold State.reneg
  split
  case h_1 => exact .refl p s
  case h_2 i hi =>
    split
    case isTrue => exact .refl p s
    case isFalse =>
      split
      case isTrue =>
        split
        case isTrue => exact .of_relock hi hp (s.relockHalf_sparesOnly i)
        case isFalse => exact .of_relock hi hp (.refl _)
      case isFalse => exact ⟨rfl, fun _ _ => rfl, port_modPort_ne s _ hp, rfl, rfl, rfl⟩

/-! ### A quadrant's ports asked down -/

/-- One port's turn (R176). -/
def State.renegTurn (s : State) (p : Nat) : State := if s.halfDue p then s.reneg p true else s

theorem State.renegHalf_eq (s : State) (q : Nat) : s.renegHalf q = (quadPorts q).foldl State.renegTurn s := rfl

theorem State.renegTurn_other (s : State) {p n : Nat} (hp : p ≠ n) : State.PortAs p s (s.renegTurn n) := by
  unfold State.renegTurn
  split
  · exact s.reneg_other true hp
  · exact .refl p s

/-- Each port is as it was until its own turn, and stays as that left it. -/
theorem State.renegFold_spec {l : List Nat} (hnodup : l.Nodup) (s : State) :
    (∀ p, p ∉ l → (l.foldl State.renegTurn s).port p = s.port p) ∧
      ∀ p ∈ l, ∃ t : State, State.PortAs p s t ∧ (l.foldl State.renegTurn s).port p = (t.renegTurn p).port p := by
  induction l generalizing s with
  | nil => exact ⟨fun _ _ => rfl, nofun⟩
  | cons n l ih =>
    obtain ⟨hn, hl⟩ := List.nodup_cons.1 hnodup
    obtain ⟨hout, hin⟩ := ih hl (s.renegTurn n)
    rw [List.foldl_cons]
    refine ⟨fun p hp => ?_, fun p hp => ?_⟩
    · rw [List.mem_cons, not_or] at hp
      rw [hout p hp.2, (s.renegTurn_other hp.1).port]
    · rcases List.mem_cons.1 hp with rfl | hp
      · exact ⟨s, .refl p s, hout p hn⟩
      · obtain ⟨t, ht, he⟩ := hin p hp
        have hne : p ≠ n := fun h => hn (h ▸ hp)
        exact ⟨t, (s.renegTurn_other hne).trans ht, he⟩

theorem State.serving_of_halfDue {s : State} {p : Nat} (h : s.halfDue p = true) :
    ∃ i, s.serving p = some i ∧ (s.synth i).st ≠ .failed ∧ (s.synth i).st ≠ .off := by
  unfold State.halfDue at h
  split at h
  case h_1 => cases h
  case h_2 i hi =>
    simp only [Bool.and_eq_true, decide_eq_true_eq] at h
    exact ⟨i, hi, h.1.1.2⟩

/-- A port that is due and up is asked for HALF. -/
theorem State.reneg_of_halfDue {s : State} {p : Nat} (h : s.halfDue p = true) (hup : (s.port p).st ≠ .down) :
    s.reneg p true = { s.modPort p fun x => x.asked true s.now with
      ls := { (s.modPort p fun x => x.asked true s.now).ls with renegs := sat16 s.ls.renegs 1 } } := by
  obtain ⟨i, hi, hst⟩ := State.serving_of_halfDue h
  exact State.reneg_of_up true hi hst hup

theorem State.renegHalf_spec (q : Fin 4) (s : State) :
    (∀ p, p ∈ quadPorts q → s.halfDue p = true → (s.port p).st ≠ .down → (s.renegHalf q).port p = (s.port p).asked true s.now) ∧
      ∀ p, p ∉ quadPorts q ∨ s.halfDue p = false → (s.renegHalf q).port p = s.port p := by
  rw [State.renegHalf_eq]
  obtain ⟨hout, hin⟩ := State.renegFold_spec (quadPorts_nodup q) s
  refine ⟨fun p hp hdue hup => ?_, fun p hp => ?_⟩
  · obtain ⟨t, ht, he⟩ := hin p hp
    have hdue' : t.halfDue p = true := ht.halfDue.trans hdue
    rw [he, State.renegTurn, if_pos hdue', State.reneg_of_halfDue hdue' (ht.port.symm ▸ hup), ← ht.port]
    have hnow : s.now = t.now := (congrArg Sys.erg ht.sys).symm
    rw [hnow]
    exact port_modPort t _ (quadPorts_lt q p hp)
  · rcases Decidable.em (p ∈ quadPorts q) with hmem | hmem
    · obtain ⟨t, ht, he⟩ := hin p hmem
      have hdue : ¬ t.halfDue p = true := by rw [ht.halfDue, hp.resolve_left fun h => h hmem]; nofun
      rw [he, State.renegTurn, if_neg hdue, ht.port]
    · exact hout p hmem

/-! ### The end of RIDE_US (R175) -/

/-- The synthesizer with the end of RIDE_US acted on. -/
def State.rodeOut (s : State) (i : Nat) : State := s.modSynth i fun y => { y with rideOver := true }

theorem exec_rideTimeout {i : Fin 72} {a : Nat} {s : State} (hst : (s.synth i).st = .ride) (hat : (s.synth i).rideAt = some a)
    (hover : (s.synth i).rideOver = false) (hdue : a + s.rideNs ≤ s.now) :
    exec (.rideTimeout i) s = .next (
      let u := s.rodeOut i
      let t := (u.raiseIf (!u.autoRate) evLsRideLimit (u.lsArg i))
      let t := t.raiseIf (s.noSource (synthQuad i)) evLsNoRef (t.lsArg i)
      match (s.synth i).port with
      | some p => if t.autoRate ∧ !s.noSource (synthQuad i) ∧ t.halfDue p then t.reneg p true else t
      | none => t) := by
  have hrun : exec (.rideTimeout i) s = execRideTimeout i s := rfl
  rw [hrun]
  unfold execRideTimeout
  simp only [hat]
  rw [if_neg (by simp [hst, hover]; omega)]
  cases (s.synth i).port with
  | none => rfl
  | some p => exact (apply_ite Host.Outcome.next ..).symm

theorem State.lsArg_congr {s t : State} (h : ∀ i, (t.synth i).port = (s.synth i).port) (i : Nat) : t.lsArg i = s.lsArg i := by
  simp only [State.lsArg, h]

theorem State.lsArg_rodeOut (s : State) (i : Nat) : (s.rodeOut i).lsArg i = s.lsArg i :=
  State.lsArg_congr (t := s.rodeOut i) (fun j => s.synth_modSynth_field Synth.port i j fun _ => rfl) i

theorem State.halfDue_rodeOut (s : State) (i p : Nat) : (s.rodeOut i).halfDue p = s.halfDue p :=
  State.halfDue_congr (s.serving_modSynth i p fun _ => rfl)
    (fun j _ => ⟨s.synth_modSynth_field Synth.st i j fun _ => rfl, s.synth_modSynth_field Synth.half i j fun _ => rfl,
      s.synth_modSynth_field Synth.rideAt i j fun _ => rfl⟩) rfl rfl rfl rfl

theorem State.raise_ls (s : State) (id arg : Nat) : (s.raise id arg).ls = s.ls :=
  (Keeps.raise_keeps (List.Subset.refl _) (Keeps.refl s) id arg).only.same .ls (by decide)

theorem State.autoRate_raise (s : State) (id arg : Nat) : (s.raise id arg).autoRate = s.autoRate := by
  rw [State.autoRate, State.raise_ls, ← State.autoRate]

theorem State.autoRate_raiseIf (c : Bool) (s : State) (id arg : Nat) : (s.raiseIf c id arg).autoRate = s.autoRate := by
  cases c
  · rfl
  · exact s.autoRate_raise id arg

theorem State.lsArg_raise (s : State) (id arg i : Nat) : (s.raise id arg).lsArg i = s.lsArg i :=
  State.lsArg_congr (fun j => by rw [State.synth_raise]) i

theorem exec_rideTimeout_noAuto {i : Fin 72} {a : Nat} {s : State} (hst : (s.synth i).st = .ride) (hat : (s.synth i).rideAt = some a)
    (hover : (s.synth i).rideOver = false) (hdue : a + s.rideNs ≤ s.now) (hauto : s.autoRate = false) :
    exec (.rideTimeout i) s =
      .next (((s.rodeOut i).raise evLsRideLimit (s.lsArg i)).raiseIf (s.noSource (synthQuad i)) evLsNoRef (s.lsArg i)) := by
  have hu : (s.rodeOut i).autoRate = false := hauto
  rw [exec_rideTimeout hst hat hover hdue]
  dsimp only
  rw [hu, State.lsArg_rodeOut]
  have hraise : (s.rodeOut i).raiseIf (!false) evLsRideLimit (s.lsArg i) = (s.rodeOut i).raise evLsRideLimit (s.lsArg i) := rfl
  rw [hraise, State.lsArg_raise, State.lsArg_rodeOut]
  cases (s.synth i).port with
  | none => rfl
  | some p => exact congrArg _ (if_neg fun h => by
      rw [State.autoRate_raiseIf, State.autoRate_raise, hu] at h
      exact Bool.false_ne_true h.1)

theorem exec_rideTimeout_noSource {i : Fin 72} {a : Nat} {s : State} (hst : (s.synth i).st = .ride) (hat : (s.synth i).rideAt = some a)
    (hover : (s.synth i).rideOver = false) (hdue : a + s.rideNs ≤ s.now) (hauto : s.autoRate = true)
    (hnone : s.noSource (synthQuad i) = true) :
    exec (.rideTimeout i) s = .next ((s.rodeOut i).raise evLsNoRef (s.lsArg i)) := by
  have hu : (s.rodeOut i).autoRate = true := hauto
  rw [exec_rideTimeout hst hat hover hdue]
  dsimp only
  rw [hu, hnone]
  have hraise : ((s.rodeOut i).raiseIf (!true) evLsRideLimit ((s.rodeOut i).lsArg i)) = s.rodeOut i := rfl
  rw [hraise, State.lsArg_rodeOut]
  cases (s.synth i).port with
  | none => rfl
  | some p => exact congrArg _ (if_neg fun h => by simp at h)

theorem exec_rideTimeout_asks {i : Fin 72} {a p : Nat} {s : State} (hst : (s.synth i).st = .ride) (hat : (s.synth i).rideAt = some a)
    (hover : (s.synth i).rideOver = false) (hdue : a + s.rideNs ≤ s.now) (hauto : s.autoRate = true)
    (hnone : s.noSource (synthQuad i) = false) (hport : (s.synth i).port = some p) (hhalf : s.halfDue p = true) :
    exec (.rideTimeout i) s = .next ((s.rodeOut i).reneg p true) := by
  have hu : (s.rodeOut i).autoRate = true := hauto
  rw [exec_rideTimeout hst hat hover hdue]
  dsimp only
  rw [hu, hnone, hport]
  refine congrArg _ (if_pos ⟨hu, rfl, ?_⟩)
  exact (s.halfDue_rodeOut i p).trans hhalf

end Sys2Proof.Machine
end

section
/-! The rate handshake's answers, the commands of synthesizers, and the obligation on their rates (R172-R178, R182, R184, R330). -/
namespace Sys2Proof.Machine
open Sys2Proof.Safety

/-! ### RATE_ACK and its absence (R176, R177) -/

/-- A port that has acknowledged the rate it has been asked for. -/
def Port.acked (x : Port) : Port := { x with ack := true, st := .quiesced, reqAt := none }

/-- A relock at the rate that a port has been asked for. -/
def State.relockAt (s : State) (i : Nat) (half : Bool) : State := if half then s.relockHalf i else s.relock i false

theorem State.synth_relockAt {s : State} {i : Nat} (half : Bool) (hi : i < 72) (hport : (s.synth i).port ≠ none) :
    (s.relockAt i half).synth i = (s.synth i).relocked half (s.onLine i) s.now := by
  cases half
  · exact State.synth_relock false hi
  · exact State.synth_relockHalf hi hport

theorem State.port_relockAt (s : State) (i : Nat) (half : Bool) (p : Nat) : (s.relockAt i half).port p = s.port p := by
  cases half
  · rfl
  · exact s.port_relockHalf i p

theorem exec_rateAck {p : Fin 64} {i : Nat} {s : State} (hserving : s.serving p = some i) (hrate : (s.port p).rate ≠ .none)
    (hack : (s.port p).ack = false) (hheard : s.portHeard p = true) (hsees : (s.portSees p).2.1 = (s.port p).rate) :
    exec (.rateAck p) s = .next ((s.modPort p Port.acked).relockAt i (decide ((s.port p).rate = .half))) := by
  have hrun : exec (.rateAck p) s = execRateAck p s := rfl
  rw [hrun]
  unfold execRateAck
  simp only [hserving]
  exact if_pos ⟨hheard, hrate, hsees, by rw [hack]; rfl⟩

/-- The request for HALF is given up, and counted. -/
def State.unanswered (s : State) (p : Nat) : State :=
  let t := s.modPort p fun x => { x with reqAt := none }
  { t with ls := { t.ls with forced := sat16 t.ls.forced 1 } }

theorem exec_renegTimeout {p : Fin 64} {i a : Nat} {s : State} (hserving : s.serving p = some i) (hat : (s.port p).reqAt = some a)
    (hack : (s.port p).ack = false) (hdue : a + s.renegNs ≤ s.now) :
    exec (.renegTimeout p) s = .next (
      if (s.port p).rate = .half then
        ((s.unanswered p).relockHalf i).raise evLsRenegForced ((s.unanswered p).lsArg i)
      else if (s.port p).rate = .full then
        ((s.modPort p fun x => { x with rate := .none, reqAt := none, declinedAt := some a }).letGo p).raise evLsRenegDeclined (s.lsArg i)
      else s) := by
  have hrun : exec (.renegTimeout p) s = execRenegTimeout p s := rfl
  rw [hrun]
  unfold execRenegTimeout
  simp only [hserving, hat]
  rw [if_neg (by simp [hack]; omega)]
  split
  case isTrue => rfl
  case isFalse => split <;> rfl

/-- A request for HALF that is not answered: the synthesizer relocks at HALF regardless. -/
theorem exec_renegTimeout_half {p : Fin 64} {i a : Nat} {s : State} (hserving : s.serving p = some i) (hat : (s.port p).reqAt = some a)
    (hack : (s.port p).ack = false) (hdue : a + s.renegNs ≤ s.now) (hrate : (s.port p).rate = .half) :
    ∃ t, exec (.renegTimeout p) s = .next t ∧ t.port p = { s.port p with reqAt := none } ∧ (t.synth i).st = .locking ∧
      (t.synth i).half = true ∧ t.ls.forced = sat16 s.ls.forced 1 ∧ t.ev = (s.raise evLsRenegForced (s.lsArg i)).ev ∧
      (∀ o, o ≠ p.val → t.port o = s.port o) ∧ Only [.ls, .ev] s t := by
  have hrun := exec_renegTimeout hserving hat hack hdue
  rw [if_pos hrate] at hrun
  obtain ⟨hi, hport⟩ := State.serving_some hserving
  refine ⟨_, hrun, ?_⟩
  have hport_u (o : Nat) : (s.unanswered p).port o = (s.modPort p fun x => { x with reqAt := none }).port o := rfl
  have hsynth_u (j : Nat) : (s.unanswered p).synth j = s.synth j := rfl
  have hev : (s.unanswered p).ev = s.ev ∧ (s.unanswered p).sys = s.sys := ⟨rfl, rfl⟩
  have hforced : (s.unanswered p).ls.forced = sat16 s.ls.forced 1 := rfl
  generalize s.unanswered p = u at *
  have hspares := u.relockHalf_sparesOnly i
  have hsynth : ((u.relockHalf i).synth i) = (s.synth i).relocked true (u.onLine i) u.now := by
    rw [State.synth_relockHalf hi (by rw [hsynth_u, hport]; nofun), hsynth_u]
  have hlater (o : Nat) : ((u.relockHalf i).raise evLsRenegForced (u.lsArg i)).port o = (s.modPort p fun x => { x with reqAt := none }).port o := by
    rw [State.port_raise, State.port_relockHalf, hport_u]
  have hself : (s.modPort p fun x => { x with reqAt := none }).port p = { s.port p with reqAt := none } := State.port_modPort s _ p.isLt
  refine ⟨(hlater p).trans hself, ?_, ?_, ?_, ?_, fun o ho => (hlater o).trans (State.port_modPort_ne s _ ho),
    exec_only_of_subset hrun (by rw [writes]; decide)⟩
  · rw [State.synth_raise, hsynth]
    rfl
  · rw [State.synth_raise, hsynth]
    rfl
  · rw [State.raise_ls, hspares.forced]
    exact hforced
  · have harg : u.lsArg i = s.lsArg i := State.lsArg_congr (fun j => by rw [hsynth_u]) i
    rw [harg]
    have hsys : (u.relockHalf i).sys = s.sys := hspares.sys.trans hev.2
    exact State.raise_ev_congr _ _ (congrArg Sys.epoch hsys) (congrArg Sys.erg hsys) (hspares.ev.trans hev.1)

/-- A port whose request for FULL is withdrawn. -/
def Port.declined (x : Port) (a : Nat) : Port := { x with rate := .none, reqAt := none, declinedAt := some a }

/-- A request for FULL that is not answered is withdrawn (R177). -/
theorem exec_renegTimeout_full {p : Fin 64} {i a : Nat} {s : State} (hserving : s.serving p = some i) (hat : (s.port p).reqAt = some a)
    (hack : (s.port p).ack = false) (hdue : a + s.renegNs ≤ s.now) (hrate : (s.port p).rate = .full) :
    exec (.renegTimeout p) s = .next (((s.modPort p fun x => x.declined a).letGo p).raise evLsRenegDeclined (s.lsArg i)) := by
  rw [exec_renegTimeout hserving hat hack hdue, if_neg (by rw [hrate]; decide), if_pos hrate]
  rfl

theorem State.letGo_of_not_quiesced {s : State} {p : Nat} (h : (s.port p).st ≠ .quiesced) : s.letGo p = s := if_neg fun k => h k.1

theorem State.letGo_of_quiesced {s : State} {p i : Nat} (hst : (s.port p).st = .quiesced) (hqreq : (s.port p).qreq = false)
    (hrate : (s.port p).rate = .none) (hgrant : (s.port p).grant = false) (hserving : s.serving p = some i)
    (hlocked : (s.synth i).st = .locked ∧ (s.synth i).lockAt = none) : s.letGo p = s.grant p := by
  unfold State.letGo
  simp only [hserving]
  exact if_pos (by simp [hst, hqreq, hrate, hgrant, hlocked])

theorem State.modPort_modPort (s : State) (p : Nat) (f g : Port → Port) : (s.modPort p f).modPort p g = s.modPort p fun x => g (f x) := by
  unfold State.modPort
  rw [vmod_vmod_same]

/-- The two ends of a request for FULL that is withdrawn: the port goes on, or a QUIESCED one is let go with its clock. -/
theorem State.letGo_declined {p : Fin 64} {a i : Nat} {s : State} (hserving : s.serving p = some i) :
    ((s.port p).st ≠ .quiesced → (s.modPort p fun x => x.declined a).letGo p = s.modPort p fun x => x.declined a) ∧
      ((s.port p).st = .quiesced → (s.port p).qreq = false → (s.port p).grant = false → (s.synth i).st = .locked →
        (s.synth i).lockAt = none → (s.modPort p fun x => x.declined a).letGo p = s.modPort p fun x => { x with
          qreq := false, rate := .none, ack := false, grant := true, grantAt := some s.now, reqAt := none, quietAt := none
          declinedAt := some a }) := by
  have hport : (s.modPort p fun x => x.declined a).port p = (s.port p).declined a := port_modPort s _ p.isLt
  have hst' : ((s.modPort p fun x => x.declined a).port p).st = (s.port p).st := (congrArg Port.st hport :)
  have hqreq' : ((s.modPort p fun x => x.declined a).port p).qreq = (s.port p).qreq := (congrArg Port.qreq hport :)
  have hgrant' : ((s.modPort p fun x => x.declined a).port p).grant = (s.port p).grant := (congrArg Port.grant hport :)
  refine ⟨fun hst => State.letGo_of_not_quiesced (by rw [hst']; exact hst), fun hst hqreq hgrant hlocked hat => ?_⟩
  refine (State.letGo_of_quiesced (i := i) (hst'.trans hst) (hqreq'.trans hqreq) (congrArg Port.rate hport :)
    (hgrant'.trans hgrant) hserving ⟨hlocked, hat⟩).trans ?_
  rw [State.grant, State.modPort_modPort]
  rfl

theorem exec_renegotiateFull {p : Fin 64} {i a : Nat} {s : State} (hserving : s.serving p = some i)
    (hsince : s.opt.since16.getD (p.val / 16) none = some a) (hst : (s.synth i).st = .locked) (hhalf : (s.synth i).half = true)
    (hpin : (s.synth i).pinHalf = false) (hauto : s.autoRate = true) (hdue : a + 1000000 ≤ s.now) (hrate : (s.port p).rate = .none)
    (hwaited : ∀ d, (s.port p).declinedAt = some d → d + 10000000 ≤ s.now) :
    exec (.renegotiateFull p) s = .next (s.reneg p false) := by
  have hrun : exec (.renegotiateFull p) s = execRenegotiateFull p s := rfl
  rw [hrun]
  unfold execRenegotiateFull
  simp only [hserving, hsince]
  refine if_pos ⟨hst, hhalf, by simp [hpin], hauto, hdue, hrate, ?_⟩
  cases hd : (s.port p).declinedAt with
  | none => rfl
  | some d => exact decide_eq_true (hwaited d hd)

theorem exec_clkGrantTimeout {p : Fin 64} {a : Nat} {s : State} (hat : (s.port p).grantAt = some a) (hgrant : (s.port p).grant = true)
    (hdue : a + 1000000 ≤ s.now) :
    exec (.clkGrantTimeout p) s = .next (s.modPort p fun x => { x with grant := false, grantAt := none }) := by
  have hrun : exec (.clkGrantTimeout p) s = execClkGrantTimeout p s := rfl
  rw [hrun]
  unfold execClkGrantTimeout
  simp only [hat]
  exact if_pos ⟨hgrant, hdue⟩

/-- A port that is asked for a rate. -/
theorem State.reneg_asked {p i : Nat} {half : Bool} {s : State} (hserving : s.serving p = some i)
    (hst : (s.synth i).st ≠ .failed ∧ (s.synth i).st ≠ .off) (hup : (s.port p).st ≠ .down) (hp : p < 64) :
    (s.reneg p half).port p = (s.port p).asked half s.now ∧ (s.reneg p half).ls.renegs = sat16 s.ls.renegs 1 ∧
      (∀ j, (s.reneg p half).synth j = s.synth j) ∧ ∀ o, o ≠ p → (s.reneg p half).port o = s.port o := by
  rw [State.reneg_of_up half hserving hst hup]
  exact ⟨port_modPort s _ hp, rfl, fun _ => rfl, fun o ho => port_modPort_ne s _ ho⟩

/-! ### SYNTH_QUERY and SYNTH_SET_MODE (R184, R330) -/

theorem cmdSynthQuery_port {q : Req} {s : State} (hkind : q.u8 0 = 0) (htgt : q.tgt ≤ 63) :
    cmdSynthQuery q s = .done (okReply (s.synthInfo q.tgt)) s := by
  rw [cmdSynthQuery, if_pos hkind, if_neg (by omega)]

theorem cmdSynthQuery_quadrant {q : Req} {s : State} (hkind : q.u8 0 = 1) (htgt : q.tgt ≤ 3) :
    cmdSynthQuery q s = .done (okReply ((quadPorts q.tgt).flatMap s.synthInfo)) s := by
  rw [cmdSynthQuery, if_neg (by omega), if_pos hkind, if_neg (by omega)]

/-- SYNTH_SET_MODE with EN clear, of a port that is not LIVE and a synthesizer in no change. -/
theorem cmdSynthSetMode_off {q : Req} {s : State} (htgt : q.tgt ≤ 63) (hoff : q.u8 0 = 0) (hpol : q.u8 1 ≤ 1) (hrate : q.u8 2 = 0)
    (hen : (s.synth (s.portSynth q.tgt)).en = true) (hbusy : s.synthBusy (s.portSynth q.tgt) = false)
    (hlive : s.portLive (s.portSynth q.tgt) = false) :
    let t := (s.synthOff (s.portSynth q.tgt)).modSynth (s.portSynth q.tgt) fun y => { y with pinHalf := decide (q.u8 1 = 1) }
    cmdSynthSetMode q s = .done (okReply (toLE 4 (t.lsStatus (s.portSynth q.tgt)))) t := by
  unfold cmdSynthSetMode
  rw [if_neg (by omega), if_neg (by omega), if_neg (by omega), if_neg (by omega)]
  dsimp only
  rw [if_neg (by omega), if_neg (by simp [hbusy]), if_neg (by simp [hlive]), if_pos hoff, State.writeEn_off _ hen hlive hbusy, if_pos hoff,
    if_neg (by omega), if_neg (by omega)]
  rfl

theorem cmdSynthSetMode_live {q : Req} {s : State} (htgt : q.tgt ≤ 63) (hoff : q.u8 0 = 0) (hpol : q.u8 1 ≤ 1) (hrate : q.u8 2 = 0)
    (hforce : q.force = false) (hen : (s.synth (s.portSynth q.tgt)).en = true) (hbusy : s.synthBusy (s.portSynth q.tgt) = false)
    (hlive : s.portLive (s.portSynth q.tgt) = true) : cmdSynthSetMode q s = .done (codeReply 0x50) s := by
  unfold cmdSynthSetMode
  rw [if_neg (by omega), if_neg (by omega), if_neg (by omega), if_neg (by omega)]
  dsimp only
  rw [if_neg (by omega), if_neg (by simp [hbusy]), if_pos ⟨hoff, hen, hlive, by rw [hforce]; rfl⟩]
  rfl

theorem cmdSynthSetMode_busy {q : Req} {s : State} (htgt : q.tgt ≤ 63) (hoff : q.u8 0 = 0) (hpol : q.u8 1 ≤ 1) (hrate : q.u8 2 = 0)
    (hen : (s.synth (s.portSynth q.tgt)).en = true) (hbusy : s.synthBusy (s.portSynth q.tgt) = true) :
    cmdSynthSetMode q s = .done (busyReply 0) s := by
  unfold cmdSynthSetMode
  rw [if_neg (by omega), if_neg (by omega), if_neg (by omega), if_neg (by omega)]
  dsimp only
  rw [if_neg (by omega), if_pos ⟨hoff, hen, hbusy⟩]
  rfl

theorem cmdSynthSetMode_refused {q : Req} {s : State} (htgt : q.tgt ≤ 63) (hen : q.u8 0 ≤ 1) (hpol : q.u8 1 ≤ 1) (hrate : q.u8 2 = 1)
    (hno : s.optical16 (q.tgt / 16) = false ∨ q.u8 1 = 1) : cmdSynthSetMode q s = .done (codeReply 0x50) s := by
  unfold cmdSynthSetMode
  rw [if_neg (by omega), if_neg (by omega), if_neg (by omega), if_neg (by omega)]
  dsimp only
  rw [if_pos ⟨hrate, hno.imp (fun h => by rw [h]; rfl) id⟩]
  rfl

/-- A synthesizer switched off. -/
def Synth.offed (y : Synth) : Synth := { y with en := false, st := .off, rideAt := none, lockAt := none, cold := false, jitRun := 0 }

theorem State.synthOff_of_lt {s : State} {i : Nat} (hi : i < 64) : s.synthOff i = s.modSynth i Synth.offed := by
  unfold State.synthOff
  exact if_neg (by omega)

/-- SYNTH_SET_MODE switches a synthesizer off (R182). -/
theorem exec_synthSetMode_off {q : Req} {s : State} (hready : ready s 0x0602 q = true) (htgt : q.tgt ≤ 63) (hoff : q.u8 0 = 0)
    (hpol : q.u8 1 ≤ 1) (hrate : q.u8 2 = 0) (hi : s.portSynth q.tgt < 64) (hen : (s.synth (s.portSynth q.tgt)).en = true)
    (hbusy : s.synthBusy (s.portSynth q.tgt) = false) (hlive : s.portLive (s.portSynth q.tgt) = false) :
    ∃ t, exec (.synthSetMode q) s = .next (t.answer q.mbx (okReply (toLE 4 (t.lsStatus (s.portSynth q.tgt))))) ∧
      t.synth (s.portSynth q.tgt) = { (s.synth (s.portSynth q.tgt)).offed with pinHalf := decide (q.u8 1 = 1) } ∧
      (∀ j, j ≠ s.portSynth q.tgt → t.synth j = s.synth j) ∧ Only [.mbx, .ls] s t := by
  have hi72 : (posted s 0x0602 q).portSynth q.tgt < 72 := Nat.lt_trans hi (by decide)
  refine ⟨_, congrArg _ (State.submit_done (by decide) hready
    (cmdSynthSetMode_off (s := posted s 0x0602 q) htgt hoff hpol hrate hen hbusy hlive)), ?_⟩
  rw [State.synthOff_of_lt (s := posted s 0x0602 q) (i := (posted s 0x0602 q).portSynth q.tgt) hi]
  refine ⟨?_, fun j hj => ?_, ?_⟩
  · refine (State.synth_modSynth _ _ hi72).trans ?_
    rw [State.synth_modSynth (posted s 0x0602 q) Synth.offed hi72]
    rfl
  · exact (State.synth_modSynth_ne _ _ hj).trans (State.synth_modSynth_ne (posted s 0x0602 q) _ hj)
  · exact (Keeps.modSynth_keeps (by simp) (.modSynth_keeps (by simp) (.modBox_keeps (by simp) (.refl s) _ _) _ _) _ _).only

/-- Settles O54: a quadrant's ride and a port's renegotiation leave every other synthesizer and port as it was, so each reads what its own
turn in the fold over its quadrant has left. -/
theorem synthesizersRideAndRenegotiate : Obligations.SynthesizersRideAndRenegotiate := by
  unfold Obligations.SynthesizersRideAndRenegotiate
  refine ⟨fun q s hgood => ?_, fun i a s hst hat hover hdue => ⟨?_, ?_, ?_⟩, fun q s hauto => ?_, ?_, ?_, ?_, ?_, ?_, ?_, ?_, ?_, ?_, ?_, ?_⟩
  · obtain ⟨hlocked, hidle, hports⟩ := State.rideQuad_spec q s hgood
    exact ⟨_, rfl, hlocked, hidle, hports, (Keeps.rideQuad_keeps (List.Subset.refl _) (.refl s) q).only⟩
  · exact exec_rideTimeout_noAuto hst hat hover hdue
  · exact exec_rideTimeout_noSource hst hat hover hdue
  · intro p hauto hnone hport hhalf hup hp
    have hhalf' : (s.rodeOut i).halfDue p = true := (s.halfDue_rodeOut i p).trans hhalf
    obtain ⟨j, hserving, hj⟩ := State.serving_of_halfDue hhalf'
    obtain ⟨hask, hrenegs, hsynth, hothers⟩ := State.reneg_asked (half := true) hserving hj hup hp
    exact ⟨_, exec_rideTimeout_asks hst hat hover hdue hauto hnone hport hhalf, hask, hrenegs, hothers, hsynth,
      (Keeps.reneg_keeps (List.Subset.refl _) (.modSynth_keeps (by simp) (.refl s) _ _) p true).only⟩
  · have hrun : exec (.renegotiateHalf q) s = execRenegotiateHalf q s := rfl
    rw [hrun, execRenegotiateHalf, if_pos hauto]
    obtain ⟨hasked, hsame⟩ := State.renegHalf_spec q s
    exact ⟨_, rfl, hasked, hsame, (Keeps.renegHalf_keeps (List.Subset.refl _) (.refl s) q).only⟩
  · intro p i s hserving hrate hack hheard hsees
    obtain ⟨hi, hport⟩ := State.serving_some hserving
    refine ⟨_, exec_rateAck hserving hrate hack hheard hsees, (State.port_relockAt ..).trans (State.port_modPort s _ p.isLt),
      State.synth_relockAt _ hi (by rw [State.synth_modPort, hport]; nofun),
      fun o ho => (State.port_relockAt ..).trans (State.port_modPort_ne s _ ho), ?_⟩
    have hkeep : Keeps [.ls] s (s.modPort p Port.acked) := .modPort_keeps (by simp) (.refl s) _ _
    unfold State.relockAt
    split
    · exact (hkeep.relockHalf_keeps (List.Subset.refl _) i).only
    · exact (hkeep.relock_keeps (List.Subset.refl _) i false).only
  · intro p i a s hserving hat hack hdue hrate
    exact exec_renegTimeout_half hserving hat hack hdue hrate
  · intro p i a s hserving hat hack hdue hrate
    obtain ⟨hup, hquiet⟩ := State.letGo_declined (a := a) hserving
    rw [exec_renegTimeout_full hserving hat hack hdue hrate]
    exact ⟨fun hst => by rw [hup hst]; rfl, fun hst hqreq hgrant hlocked hlock => by rw [hquiet hst hqreq hgrant hlocked hlock]⟩
  · intro p i a s hserving hsince hst hhalf hpin hauto hdue hrate hwaited hup
    obtain ⟨hask, hrenegs, hsynth, hothers⟩ :=
      State.reneg_asked (half := false) hserving (by rw [hst]; exact ⟨nofun, nofun⟩) hup p.isLt
    exact ⟨_, exec_renegotiateFull hserving hsince hst hhalf hpin hauto hdue hrate hwaited, hask, hrenegs, hsynth, hothers,
      (Keeps.reneg_keeps (List.Subset.refl _) (.refl s) p false).only⟩
  · intro p a s hat hgrant hdue
    exact exec_clkGrantTimeout hat hgrant hdue
  · intro q s hready hkind htgt
    exact congrArg _ (State.submit_done (by decide) hready (cmdSynthQuery_port hkind htgt))
  · intro q s hready hkind htgt
    exact congrArg _ (State.submit_done (by decide) hready (cmdSynthQuery_quadrant hkind htgt))
  · intro q s hready htgt hoff hpol hrate i hi hen hbusy hlive
    exact exec_synthSetMode_off hready htgt hoff hpol hrate hi hen hbusy hlive
  · intro q s hready htgt hoff hpol hrate hforce i hen hbusy hlive
    exact congrArg _ (State.submit_done (by decide) hready
      (cmdSynthSetMode_live (s := posted s 0x0602 q) htgt hoff hpol hrate hforce hen hbusy hlive))
  · intro q s hready htgt hoff hpol hrate hen hbusy
    exact congrArg _ (State.submit_done (by decide) hready
      (cmdSynthSetMode_busy (s := posted s 0x0602 q) htgt hoff hpol hrate hen hbusy))
  · intro q s hready htgt hen hpol hrate hno
    exact congrArg _ (State.submit_done (by decide) hready
      (cmdSynthSetMode_refused (s := posted s 0x0602 q) htgt hen hpol hrate hno))

end Sys2Proof.Machine
end

section
/-! SUPPORT. Locks of synthesizers, the report of a port, and jitter (R169, R172, R173, R179). -/
namespace Sys2Proof.Machine
open Sys2Proof.Safety

/-! ### Changes of one synthesizer, one after the other -/

theorem State.modSynth_modSynth (s : State) (i : Nat) (f g : Synth → Synth) :
    (s.modSynth i f).modSynth i g = s.modSynth i fun y => g (f y) := by
  unfold State.modSynth
  rw [vmod_vmod_same]

theorem State.modSynth_congr {s : State} {i : Nat} {f g : Synth → Synth} (h : f (s.synth i) = g (s.synth i)) :
    s.modSynth i f = s.modSynth i g := by
  unfold State.modSynth
  rw [vmod_congr (d := {}) h]

/-- The band found at a lock in the synthesizer's set (Table 8-2). -/
def Synth.banded (y : Synth) (k : Nat) (band : BitVec 8) : Synth :=
  { y with bands := Map.put none y.bands (8 * b2n y.half + k) (some band) }

/-- Temperature point of the die that holds the synthesizers. -/
def State.lsPoint (s : State) : Nat := lowPoint ((s.siteMean 16).getD 0)

theorem State.noteBand_eq (s : State) (i : Nat) (band : BitVec 8) : s.noteBand i band = s.modSynth i fun y => y.banded s.lsPoint band := rfl

/-! ### SYNTH_RELOCK_DONE (R169) -/

/-- A synthesizer that has found its lock. -/
def Synth.lockedAt (y : Synth) (cw : BitVec 12) (band : BitVec 8) : Synth :=
  { y with st := .locked, lockAt := none, cold := false, cw := cw, band := band }

/-- The state in which a synthesizer has found its lock and noted its band. -/
def State.lockFound (s : State) (i : Nat) (cw : BitVec 12) (band : BitVec 8) : State :=
  (s.modSynth i fun y => y.lockedAt cw band).noteBand i band

theorem State.lockFound_eq (s : State) (i : Nat) (cw : BitVec 12) (band : BitVec 8) :
    s.lockFound i cw band = s.modSynth i fun y => (y.lockedAt cw band).banded s.lsPoint band :=
  s.modSynth_modSynth i _ _

/-- Without an insertion an occurrence at a port carries none on. -/
theorem State.advanceSynth_of_none {s : State} {p : Nat} (force : Bool) (h : s.findIns (fun x => decide (x.kind = 3 ∧ x.target = p)) = none) :
    s.advanceSynth p force = s := by
  unfold State.advanceSynth
  simp only [h]

theorem State.findIns_of_nil {s : State} (h : s.opt.ins = []) (f : Insertion → Bool) : s.findIns f = none := by
  rw [State.findIns, h]
  rfl

theorem exec_synthRelockDone_locking {i : Fin 72} {p : Nat} {cw : BitVec 12} {band : BitVec 8} {s : State}
    (hst : (s.synth i).st = .locking) (hport : (s.synth i).port = some p) (hins : s.opt.ins = []) :
    exec (.synthRelockDone i cw band) s = .next (
      (if (s.port p).rate ≠ .none ∧ !(s.port p).ack ∧ (s.port p).reqAt.isSome then s.lockFound i cw band
        else (s.lockFound i cw band).grant p).spareFollow (synthQuad i)) := by
  have hrun : exec (.synthRelockDone i cw band) s = execSynthRelockDone i cw band s := rfl
  rw [hrun]
  unfold execSynthRelockDone
  dsimp only
  rw [if_neg (by simp [hst]), if_neg (by simp [hst])]
  simp only [hport]
  refine congrArg _ (State.advanceSynth_of_none _ (State.findIns_of_nil ?_ _))
  rw [(State.spareFollow_sparesOnly _ _).opt]
  split
  · exact hins
  · exact hins

/-- A port that is granted its clock. -/
def Port.granted (x : Port) (now : Nat) : Port :=
  { x with qreq := false, rate := .none, ack := false, grant := true, grantAt := some now, reqAt := none, quietAt := none }

theorem State.grant_eq (s : State) (p : Nat) : s.grant p = s.modPort p fun x => x.granted s.now := rfl

/-- A relock that is done (R169, R173). -/
theorem synthRelockDone_spec {i : Fin 72} {p : Nat} {cw : BitVec 12} {band : BitVec 8} {s : State}
    (hst : (s.synth i).st = .locking) (hport : (s.synth i).port = some p) (hp : p < 64) (hins : s.opt.ins = []) :
    ∃ t, exec (.synthRelockDone i cw band) s = .next t ∧ t.synth i = ((s.synth i).lockedAt cw band).banded s.lsPoint band ∧
      (¬ ((s.port p).rate ≠ .none ∧ (s.port p).ack = false ∧ (s.port p).reqAt.isSome = true) → t.port p = (s.port p).granted s.now) ∧
      ((s.port p).rate ≠ .none ∧ (s.port p).ack = false ∧ (s.port p).reqAt.isSome = true → t.port p = s.port p) ∧
      (∀ o, o ≠ p → t.port o = s.port o) ∧ Only [.ls] s t := by
  have hcond : ((s.port p).rate ≠ .none ∧ (!(s.port p).ack) = true ∧ (s.port p).reqAt.isSome = true) ↔
      ((s.port p).rate ≠ .none ∧ (s.port p).ack = false ∧ (s.port p).reqAt.isSome = true) := by simp
  have hsynth : (s.lockFound i cw band).synth i = ((s.synth i).lockedAt cw band).banded s.lsPoint band := by
    rw [State.lockFound_eq]
    exact State.synth_modSynth s _ i.isLt
  have hused : ((s.lockFound i cw band).synth i).port ≠ none := by
    rw [hsynth]
    exact fun h => Option.some_ne_none p (hport.symm.trans h)
  have hkeep : Keeps [.ls] s (s.lockFound i cw band) :=
    .modSynth_keeps (List.Subset.refl _) (.modSynth_keeps (List.Subset.refl _) (.refl s) _ _) _ _
  refine ⟨_, exec_synthRelockDone_locking hst hport hins, ?_, fun hfree => ?_, fun hasked => ?_, fun o ho => ?_, ?_⟩
  · rw [(State.spareFollow_sparesOnly _ _).used i (by split <;> exact hused)]
    split <;> exact hsynth
  · rw [(State.spareFollow_sparesOnly _ _).ports p, if_neg (fun h => hfree (hcond.1 h)), State.grant_eq]
    exact State.port_modPort _ _ hp
  · rw [(State.spareFollow_sparesOnly _ _).ports p, if_pos (hcond.2 hasked)]
    rfl
  · rw [(State.spareFollow_sparesOnly _ _).ports o]
    split
    · rfl
    · exact State.port_modPort_ne _ _ ho
  · exact (Keeps.spareFollow_keeps (List.Subset.refl _) (.ite hkeep (hkeep.grant_keeps (List.Subset.refl _) p)) _).only

theorem exec_synthRelockDone_again {i : Fin 72} {cw : BitVec 12} {band : BitVec 8} {s : State} (hst : (s.synth i).st = .locked)
    (hat : (s.synth i).lockAt.isSome = true) :
    exec (.synthRelockDone i cw band) s =
      .next (s.modSynth i fun y => { y with lockAt := none, cw := cw, band := band }.banded s.lsPoint band) := by
  have hrun : exec (.synthRelockDone i cw band) s = execSynthRelockDone i cw band s := rfl
  rw [hrun]
  unfold execSynthRelockDone
  dsimp only
  rw [if_pos ⟨hst, hat⟩, State.noteBand_eq, State.modSynth_modSynth]
  rfl

theorem exec_lossOfLock {i : Fin 72} {s : State} (hst : (s.synth i).st = .locked) (hat : (s.synth i).lockAt = none)
    (hgood : s.refGood (synthQuad i) = true) :
    exec (.lossOfLock i) s = .next (s.modSynth i fun y => { y with lol := sat16 y.lol 1, lockAt := some s.now }) :=
  if_pos ⟨hst, hat, hgood⟩

/-! ### Spares that follow the majority (R169) -/

/-- Ports that read alike and used synthesizers that read alike have one majority. -/
theorem State.SparesOnly.majorityHalf {s t : State} (h : s.SparesOnly t) (q : Nat) : t.majorityHalf q = s.majorityHalf q := by
  have hserving (p : Nat) : t.serving p = s.serving p := State.serving_congr h.port p
  have hfilter : (quadPorts q).filter (fun p => (t.port p).st = .live) = (quadPorts q).filter fun p => (s.port p).st = .live := by
    simp only [h.ports]
  have hys : ((quadPorts q).filter fun p => (t.port p).st = .live).filterMap t.serving =
      ((quadPorts q).filter fun p => (s.port p).st = .live).filterMap s.serving := by
    rw [hfilter, funext hserving]
  unfold State.majorityHalf
  dsimp only
  rw [hys]
  generalize hl : ((quadPorts q).filter fun p => (s.port p).st = .live).filterMap s.serving = ys
  have hhalves : ys.filter (fun i => (t.synth i).half) = ys.filter fun i => (s.synth i).half := by
    refine List.filter_congr fun i hi => ?_
    rw [← hl] at hi
    obtain ⟨p, -, hp⟩ := List.mem_filterMap.1 hi
    rw [h.used i (by rw [(State.serving_some hp).2]; nofun)]
  rw [hhalves]

/-- One spare's turn (R169). -/
def State.followTurn (q : Nat) (s : State) (i : Nat) : State :=
  if (s.synth i).port = none ∧ (s.synth i).st = .locked ∧ (s.synth i).half ≠ s.majorityHalf q ∧
      !(s.opt.ins.any fun x => decide (x.kind = 3 ∧ x.took = some (i - 64))) ∧ (s.majorityHalf q ∨ s.optical16 q) then
    s.relock i (s.majorityHalf q) else s

theorem State.spareFollow_eq (s : State) (q : Nat) : s.spareFollow q = (s.followTurn q (64 + 2 * q)).followTurn q (65 + 2 * q) := rfl

theorem State.followTurn_sparesOnly (s : State) (q i : Nat) : s.SparesOnly (s.followTurn q i) := by
  unfold State.followTurn
  split
  case isTrue h => exact .relock _ h.1
  case isFalse => exact .refl s

theorem State.followTurn_ne (s : State) (q : Nat) {i j : Nat} (h : j ≠ i) : (s.followTurn q i).synth j = s.synth j := by
  unfold State.followTurn
  split
  · exact s.synth_relock_ne _ h
  · rfl

/-- A locked spare that no insertion has taken, off the majority of its quadrant, relocks at it. -/
theorem State.followTurn_relocks {s : State} {q i : Nat} (hi : i < 72) (hquad : synthQuad i = q) (hport : (s.synth i).port = none)
    (hst : (s.synth i).st = .locked) (hhalf : (s.synth i).half ≠ s.majorityHalf q)
    (hfree : (s.opt.ins.any fun x => decide (x.kind = 3 ∧ x.took = some (i - 64))) = false) (hoptical : s.optical16 q = true) :
    ((s.followTurn q i).synth i).st = .locking ∧ ((s.followTurn q i).synth i).half = s.majorityHalf q := by
  rw [State.followTurn, if_pos ⟨hport, hst, hhalf, by rw [hfree]; rfl, .inr hoptical⟩, State.synth_relock _ hi]
  have hline : s.onLine i = false := by
    rw [State.optical16, decide_eq_true_eq] at hoptical
    rw [State.onLine, hquad]
    exact decide_eq_false (by omega)
  rw [hline]
  exact ⟨rfl, Bool.or_false _⟩

theorem synthQuad_spare {q i : Nat} (hi : i = 64 + 2 * q ∨ i = 65 + 2 * q) : synthQuad i = q := by
  unfold synthQuad
  split <;> omega

/-- Both spares of a quadrant follow. -/
theorem State.spareFollow_relocks {s : State} {q i : Nat} (hq : q < 4) (hi : i = 64 + 2 * q ∨ i = 65 + 2 * q)
    (hport : (s.synth i).port = none) (hst : (s.synth i).st = .locked) (hhalf : (s.synth i).half ≠ s.majorityHalf q)
    (hins : s.opt.ins = []) (hoptical : s.optical16 q = true) :
    ((s.spareFollow q).synth i).st = .locking ∧ ((s.spareFollow q).synth i).half = s.majorityHalf q := by
  rw [State.spareFollow_eq]
  have hturn := s.followTurn_sparesOnly q (64 + 2 * q)
  rcases hi with rfl | rfl
  · rw [State.followTurn_ne _ q (by omega)]
    exact State.followTurn_relocks (by omega) (synthQuad_spare (.inl rfl)) hport hst hhalf (by rw [hins]; rfl) hoptical
  · rw [← hturn.majorityHalf q]
    have hsame : (s.followTurn q (64 + 2 * q)).synth (65 + 2 * q) = s.synth (65 + 2 * q) := s.followTurn_ne q (by omega)
    refine State.followTurn_relocks (by omega) (synthQuad_spare (.inr rfl)) (hsame ▸ hport) (hsame ▸ hst) ?_ ?_ ?_
    · rw [hsame, hturn.majorityHalf]
      exact hhalf
    · rw [hturn.opt, hins]
      rfl
    · exact (congrArg (fun o : Opt => decide (((vget o.site {} 16).routes.getD q ⟨0, 7, 7⟩).source < 6)) hturn.opt :).trans hoptical

/-! ### PORT_STATE_CHANGE (R172, R173) -/

/-- A port that reports its state. -/
def Port.reported (x : Port) (st : PortState) : Port :=
  { x with
    st := st, grant := x.grant && decide (st ≠ .live), grantAt := if st = .live then none else x.grantAt
    qreq := x.qreq && decide (st ≠ .down), quietAt := if st = .down then none else x.quietAt }

theorem exec_portStateChange {p : Fin 64} {st : PortState} {s : State} (hins : s.opt.ins = []) (hheard : s.portHeard p = true)
    (hleaves : ¬ ((s.port p).st = .quiesced ∧ st ≠ .quiesced ∧ (s.portSees p).2.2 = false))
    (hquiet : st ≠ .down ∨ (s.port p).rate = .none ∨ (s.port p).ack = true) :
    exec (.portStateChange p st) s = .next ((s.modPort p fun x => x.reported st).spareFollow (p.val / 16)) := by
  have hrun : exec (.portStateChange p st) s = execPortStateChange p st s := rfl
  rw [hrun]
  unfold execPortStateChange
  dsimp only
  rw [if_neg (by simpa [hheard] using hleaves)]
  have hnot : ¬ (st = .down ∧ (s.port p).rate ≠ .none ∧ (!(s.port p).ack) = true) := fun h => by
    rcases hquiet with hq | hq | hq
    · exact hq h.1
    · exact h.2.1 hq
    · simp [hq] at h
  rw [if_neg hnot]
  have hnone : ¬ (st ≠ .live ∧ ((s.modPort p fun x => x.reported st).opt.ins.any fun y =>
      decide (y.kind = 3 ∧ y.target = p.val ∧ y.step = 3)) = true) := fun h => by
    have hnil : (s.modPort p fun x => x.reported st).opt.ins = [] := hins
    rw [hnil] at h
    exact Bool.false_ne_true h.2
  exact congrArg (fun t : State => Host.Outcome.next (t.spareFollow (p.val / 16))) (if_neg hnone)

theorem exec_portStateChange_unheard {p : Fin 64} {st : PortState} {s : State}
    (h : s.portHeard p = false ∨ (s.port p).st = .quiesced ∧ st ≠ .quiesced ∧ (s.portSees p).2.2 = false) :
    exec (.portStateChange p st) s = .next s := by
  have hrun : exec (.portStateChange p st) s = execPortStateChange p st s := rfl
  rw [hrun]
  unfold execPortStateChange
  exact if_pos (h.imp (fun h => by rw [h]; rfl) fun ⟨h1, h2, h3⟩ => ⟨h1, h2, by rw [h3]; rfl⟩)

/-! ### SYNTH_JITTER_MEASURE (R179) -/

/-- A reading over the limit that is not yet the tenth. -/
theorem exec_synthJitterMeasure_over {i : Fin 72} {fs : BitVec 16} {s : State} (hst : (s.synth i).st = .locked)
    (hbackup : (s.synth i).backup = false) (hover : jitterLimit (s.synth i).half < fs.toNat) (hrun9 : (s.synth i).jitRun < 9) :
    exec (.synthJitterMeasure i fs) s = .next (s.modSynth i fun y => { y with jitter := fs, jitRun := (s.synth i).jitRun + 1 }) := by
  have hrun : exec (.synthJitterMeasure i fs) s = execSynthJitterMeasure i fs s := rfl
  have hmin : min 10 ((s.synth i).jitRun + 1) = (s.synth i).jitRun + 1 := by omega
  have hten : decide ((s.synth i).jitRun + 1 = 10) = false := decide_eq_false (by omega)
  rw [hrun]
  unfold execSynthJitterMeasure
  dsimp only
  rw [if_neg (by simp [hst]), hbackup, hst, decide_eq_true hover]
  simp only [Bool.not_false, Bool.and_true, decide_true, if_true, hmin, hten, Bool.false_and]
  exact congrArg _ (State.modSynth_congr (by rw [Bool.or_false]))

theorem exec_synthJitterMeasure_within {i : Fin 72} {fs : BitVec 16} {s : State}
    (hst : (s.synth i).st = .locked ∨ (s.synth i).st = .ride) (hwithin : fs.toNat ≤ jitterLimit (s.synth i).half) :
    exec (.synthJitterMeasure i fs) s = .next (s.modSynth i fun y => { y with jitter := fs, jitRun := 0 }) := by
  have hrun : exec (.synthJitterMeasure i fs) s = execSynthJitterMeasure i fs s := rfl
  rw [hrun]
  unfold execSynthJitterMeasure
  dsimp only
  rw [if_neg fun h => hst.elim h.1 h.2, decide_eq_false (Nat.not_lt.2 hwithin)]
  exact congrArg _ (State.modSynth_congr (by simp))

/-- A spare is called for in the place of a degraded synthesizer (R180). -/
def State.callSpare (s : State) (port : Option Nat) : State := match port with
  | some p => if s.autoSpareLs then s.requestIns (insertion 3 p 0 (p / 16) none false false 1) else s
  | none => s

theorem State.callSpare_only (s : State) (port : Option Nat) : Only [.mbx, .opt] s (s.callSpare port) := by
  refine Keeps.only ?_
  cases port with
  | none => exact .refl s
  | some p => exact .ite (.requestIns_keeps (List.Subset.refl _) (.refl s) _) (.refl s)

/-- A synthesizer at its tenth reading over the limit. -/
def Synth.worn (y : Synth) (fs : BitVec 16) : Synth := { y with jitter := fs, jitRun := 10, degraded := true }

theorem exec_synthJitterMeasure_tenth {i : Fin 72} {fs : BitVec 16} {s : State} (hst : (s.synth i).st = .locked)
    (hbackup : (s.synth i).backup = false) (hover : jitterLimit (s.synth i).half < fs.toNat) (hrun9 : 9 ≤ (s.synth i).jitRun)
    (hnew : (s.synth i).degraded = false) :
    exec (.synthJitterMeasure i fs) s =
      .next (((s.modSynth i fun y => y.worn fs).raise evLsDegraded ((s.modSynth i fun y => y.worn fs).lsArg i)).callSpare
        (s.synth i).port) := by
  have hrun : exec (.synthJitterMeasure i fs) s = execSynthJitterMeasure i fs s := rfl
  have hmin : min 10 ((s.synth i).jitRun + 1) = 10 := by omega
  rw [hrun]
  unfold execSynthJitterMeasure
  dsimp only
  rw [if_neg (by simp [hst]), hbackup, hst, hnew, decide_eq_true hover]
  simp only [Bool.not_false, Bool.and_true, decide_true, if_true, hmin, Bool.not_true, Bool.false_eq_true, if_false]
  have hworn : (s.modSynth i fun y => { y with jitter := fs, jitRun := 10, degraded := y.degraded || true }) =
      s.modSynth i fun y => y.worn fs := State.modSynth_congr (by rw [Bool.or_true]; rfl)
  rw [hworn]
  cases (s.synth i).port with
  | none => rfl
  | some p => exact (apply_ite Host.Outcome.next ..).symm

/-- The tenth reading in a row over the limit (R179, R180). -/
theorem synthJitterMeasure_tenth {i : Fin 72} {fs : BitVec 16} {s : State} (hst : (s.synth i).st = .locked)
    (hbackup : (s.synth i).backup = false) (hover : jitterLimit (s.synth i).half < fs.toNat) (hrun9 : 9 ≤ (s.synth i).jitRun)
    (hnew : (s.synth i).degraded = false) :
    ∃ t, exec (.synthJitterMeasure i fs) s = .next t ∧ t.synth i = (s.synth i).worn fs ∧
      t.ev = (s.raise evLsDegraded (s.lsArg i)).ev ∧ (∀ j, j ≠ i.val → t.synth j = s.synth j) ∧ Only [.mbx, .opt, .ls, .ev] s t := by
  have hrun := exec_synthJitterMeasure_tenth hst hbackup hover hrun9 hnew
  refine ⟨_, hrun, ?_⟩
  have hself : (s.modSynth i fun y => y.worn fs).synth i = (s.synth i).worn fs := State.synth_modSynth s _ i.isLt
  have hother (j : Nat) (hj : j ≠ i.val) : (s.modSynth i fun y => y.worn fs).synth j = s.synth j := State.synth_modSynth_ne s _ hj
  have harg : (s.modSynth i fun y => y.worn fs).lsArg i = s.lsArg i :=
    State.lsArg_congr (fun j => s.synth_modSynth_field (f := fun y => y.worn fs) Synth.port i j fun _ => rfl) i
  rw [harg] at hrun ⊢
  have hev := State.raise_ev_congr (s := s) (t := s.modSynth i fun y => y.worn fs) evLsDegraded (s.lsArg i) rfl rfl rfl
  generalize s.modSynth i (fun y => y.worn fs) = u at *
  have hcall := (u.raise evLsDegraded (s.lsArg i)).callSpare_only (s.synth i).port
  have hsynth (j : Nat) : ((u.raise evLsDegraded (s.lsArg i)).callSpare (s.synth i).port).synth j = u.synth j := by
    rw [State.synth, hcall.same .ls (by decide), State.raise_ls, ← State.synth]
  exact ⟨(hsynth i).trans hself, (hcall.same .ev (by decide)).trans hev, fun j hj => (hsynth j).trans (hother j hj),
    exec_only_of_subset hrun (by rw [writes]; decide)⟩

end Sys2Proof.Machine
end

section
/-! SUPPORT. A synthesizer that has failed (R179-R181). -/
namespace Sys2Proof.Machine
open Sys2Proof.Safety

/-! ### The bits of a spare -/

theorem getLsbD_ofNat_pow (j k : Nat) (hk : k < 8) : (BitVec.ofNat 8 (2 ^ j)).getLsbD k = decide (j = k) := by
  rw [BitVec.getLsbD_ofNat, decide_eq_true hk, Bool.true_and, Nat.testBit_two_pow]

/-- Where FREE and FAILED of one spare are written, the bits of the others are as before. -/
theorem State.spareBits_ne (s : State) {j k : Nat} (free failed : Bool) (hk : k < 8) (hj : j ≠ k) :
    (s.spareBits j free failed).ls.free.getLsbD k = s.ls.free.getLsbD k ∧
      (s.spareBits j free failed).ls.failed.getLsbD k = s.ls.failed.getLsbD k := by
  have hbit : (BitVec.ofNat 8 (2 ^ j)).getLsbD k = false := by rw [getLsbD_ofNat_pow j k hk, decide_eq_false hj]
  unfold State.spareBits
  generalize BitVec.ofNat 8 (2 ^ j) = m at hbit
  constructor
  · cases free <;> simp [-BitVec.getLsbD_eq_getElem, hbit, hk]
  · cases failed <;> simp [hbit]

theorem State.spareBits_taken (s : State) {j : Nat} (failed : Bool) (hj : j < 8) : (s.spareBits j false failed).ls.free.getLsbD j = false := by
  have hbit : (BitVec.ofNat 8 (2 ^ j)).getLsbD j = true := by rw [getLsbD_ofNat_pow j j hj, decide_eq_true rfl]
  unfold State.spareBits
  generalize BitVec.ofNat 8 (2 ^ j) = m at hbit
  simp [hbit]

theorem State.spareBits_freed (s : State) {j : Nat} (failed : Bool) (hj : j < 8) : (s.spareBits j true failed).ls.free.getLsbD j = true := by
  have hbit : (BitVec.ofNat 8 (2 ^ j)).getLsbD j = true := by rw [getLsbD_ofNat_pow j j hj, decide_eq_true rfl]
  unfold State.spareBits
  generalize BitVec.ofNat 8 (2 ^ j) = m at hbit
  simp [hbit]

/-- A spare whose two bits and whose synthesizer are as before is as usable. -/
theorem State.spareUsable_congr {s t : State} {k : Nat} (hfree : t.ls.free.getLsbD k = s.ls.free.getLsbD k)
    (hfailed : t.ls.failed.getLsbD k = s.ls.failed.getLsbD k) (hsynth : t.synth (64 + k) = s.synth (64 + k)) :
    t.spareUsable k = s.spareUsable k := by
  simp only [State.spareUsable, hfree, hfailed, hsynth]

/-- A spare that serves a port is not usable. -/
theorem State.spareUsable_of_serves {s : State} {k : Nat} (h : (s.synth (64 + k)).port ≠ none) : s.spareUsable k = false := by
  simp [State.spareUsable, h]

/-! ### The failure (R179) -/

/-- A synthesizer that has failed. -/
def Synth.downed (y : Synth) (half : Bool) : Synth := { y with st := .failed, half := half, rideAt := none, lockAt := none, cold := false }

/-- A port whose synthesizer has failed. -/
def Port.downed (x : Port) : Port := { x with st := .down, qreq := false, rate := .none, ack := false, reqAt := none, quietAt := none }

/-- What a port's synthesizer's failure leaves before a spare is looked for. -/
def State.lostClock (s : State) (i p : Nat) : State :=
  let t := (s.modSynth i fun y => y.downed (s.portHalf p)).raise evLsFail (s.lsArg i)
  (if 64 ≤ i then t.spareBits (i - 64) false true else t).modPort p Port.downed

/-- A spare of the port's quadrant is called for, or none is left (R180, R181). -/
def State.seekSpare (s : State) (p : Nat) : State :=
  if ([2 * (p / 16), 2 * (p / 16) + 1].filter s.spareUsable).isEmpty then s.noSpareFor p
  else if s.autoSpareLs then s.requestIns (insertion 3 p 0 (p / 16) none false false 1)
  else s

theorem State.lostClock_opt (s : State) (i p : Nat) : (s.lostClock i p).opt = s.opt := by
  unfold State.lostClock
  dsimp only
  split <;> exact State.raise_opt ..

theorem State.lostClock_ls (s : State) (i p : Nat) :
    (s.lostClock i p).ls = ((if 64 ≤ i then (s.modSynth i fun y => y.downed (s.portHalf p)).spareBits (i - 64) false true
      else s.modSynth i fun y => y.downed (s.portHalf p)).modPort p Port.downed).ls := by
  have hls := State.raise_ls (s.modSynth i fun y => y.downed (s.portHalf p)) evLsFail (s.lsArg i)
  unfold State.lostClock
  dsimp only
  generalize (s.modSynth i fun y => y.downed (s.portHalf p)) = u at *
  split
  · rw [State.modPort, State.modPort, State.spareBits, State.spareBits, hls]
  · rw [State.modPort, State.modPort, hls]

theorem State.synth_lostClock (s : State) (i p j : Nat) :
    (s.lostClock i p).synth j = (s.modSynth i fun y => y.downed (s.portHalf p)).synth j := by
  rw [State.synth, State.lostClock_ls]
  split <;> rfl

theorem State.port_lostClock (s : State) (i p o : Nat) : (s.lostClock i p).port o = (s.modPort p Port.downed).port o := by
  rw [State.port, State.lostClock_ls]
  split <;> rfl

theorem State.gctrl_lostClock (s : State) (i p : Nat) : (s.lostClock i p).ls.gctrl = s.ls.gctrl := by
  rw [State.lostClock_ls]
  split <;> rfl

/-- The spares are as usable as before: one that has failed served its port. -/
theorem State.spareUsable_lostClock {s : State} {i p k : Nat} (hk : k < 8) (hport : (s.synth i).port = some p) :
    (s.lostClock i p).spareUsable k = s.spareUsable k := by
  rcases Decidable.em (64 + k = i) with rfl | hne
  · rw [State.spareUsable_of_serves (s := s) (by rw [hport]; nofun), State.spareUsable_of_serves]
    rw [State.synth_lostClock, State.synth_modSynth s _ (by omega : 64 + k < 72)]
    exact fun h => Option.some_ne_none p (hport.symm.trans h)
  · have hsynth : (s.lostClock i p).synth (64 + k) = s.synth (64 + k) := by
      rw [State.synth_lostClock]
      exact State.synth_modSynth_ne s _ hne
    have hbits : (s.lostClock i p).ls.free.getLsbD k = s.ls.free.getLsbD k ∧
        (s.lostClock i p).ls.failed.getLsbD k = s.ls.failed.getLsbD k := by
      rw [State.lostClock_ls]
      split
      · exact State.spareBits_ne (s.modSynth i _) false true hk (by omega)
      · exact ⟨rfl, rfl⟩
    exact State.spareUsable_congr hbits.1 hbits.2 hsynth

/-- The failure of a port's synthesizer, with no insertion for the port. -/
theorem State.synthDown_eq {s : State} {i p : Nat} (hport : (s.synth i).port = some p) (hp : ∀ x ∈ s.opt.ins, x.kind = 3 → x.target ≠ p) :
    s.synthDown i = (s.lostClock i p).seekSpare p := by
  have hnone : ((s.lostClock i p).findIns fun x => decide (x.kind = 3 ∧ x.target = p) && x.took.isSome) = none := by
    rw [State.findIns, State.lostClock_opt]
    refine List.find?_eq_none.2 fun x hx => ?_
    have := hp x hx
    simp_all
  have hnot : ¬ (((s.lostClock i p).findIns fun x => decide (x.kind = 3 ∧ x.target = p) && x.took.isSome).isSome = true) := by
    rw [hnone]
    nofun
  unfold State.synthDown
  simp only [hport]
  exact if_neg hnot

theorem State.noSpareFor_spec (s : State) (p : Nat) : (s.noSpareFor p).ls = s.ls ∧ (s.noSpareFor p).opt = s.opt ∧
    FaultCause.synthSpare p ∈ (s.noSpareFor p).sys.mlb := by
  have honly := (Keeps.noSpareFor_keeps (List.Subset.refl _) (Keeps.refl s) p).only
  exact ⟨honly.same .ls (by decide), honly.same .opt (by decide), State.mem_mlbSet ..⟩

theorem State.requestIns_ls (s : State) (x : Insertion) : (s.requestIns x).ls = s.ls :=
  (Keeps.requestIns_keeps (List.Subset.refl _) (Keeps.refl s) x).only.same .ls (by decide)

/-- An insertion that is requested is under way, or one of the same part is. -/
theorem State.requestIns_mem (s : State) (x : Insertion) : ∃ y ∈ (s.requestIns x).opt.ins, y.kind = x.kind ∧
    (x.kind ≠ 4 → y.target = x.target) := by
  unfold State.requestIns
  dsimp only
  split
  case isTrue h =>
    obtain ⟨y, hy, hsame⟩ := List.any_eq_true.1 h
    unfold Insertion.same at hsame
    simp only [Bool.and_eq_true, decide_eq_true_eq] at hsame
    refine ⟨y, hy, hsame.1.symm, fun hk => ?_⟩
    rw [if_neg hk] at hsame
    simp only [Bool.and_eq_true, decide_eq_true_eq] at hsame
    exact hsame.2.1.symm
  case isFalse =>
    split
    · exact ⟨_, List.mem_append_right _ List.mem_cons_self, rfl, fun _ => rfl⟩
    · exact ⟨_, List.mem_append_right _ List.mem_cons_self, rfl, fun _ => rfl⟩

/-- What the search for a spare comes to. -/
theorem State.seekSpare_spec (s : State) (p : Nat) : (s.seekSpare p).ls = s.ls ∧
    (s.spareUsable (2 * (p / 16)) = false → s.spareUsable (2 * (p / 16) + 1) = false → FaultCause.synthSpare p ∈ (s.seekSpare p).sys.mlb) ∧
    (s.spareUsable (2 * (p / 16)) = true ∨ s.spareUsable (2 * (p / 16) + 1) = true → s.autoSpareLs = true →
      ∃ y ∈ (s.seekSpare p).opt.ins, y.kind = 3 ∧ y.target = p) ∧
    (s.autoSpareLs = false → (s.seekSpare p).opt = s.opt) := by
  have hempty : ([2 * (p / 16), 2 * (p / 16) + 1].filter s.spareUsable).isEmpty = true ↔
      s.spareUsable (2 * (p / 16)) = false ∧ s.spareUsable (2 * (p / 16) + 1) = false := by
    rw [List.isEmpty_iff, List.filter_eq_nil_iff]
    simp
  unfold State.seekSpare
  split
  case isTrue h =>
    obtain ⟨hls, hopt, hmlb⟩ := s.noSpareFor_spec p
    obtain ⟨hlow, hhigh⟩ := hempty.1 h
    exact ⟨hls, fun _ _ => hmlb, fun husable => by simp [hlow, hhigh] at husable, fun _ => hopt⟩
  case isFalse h =>
    split
    case isTrue hauto =>
      refine ⟨s.requestIns_ls _, fun hlow hhigh => absurd (hempty.2 ⟨hlow, hhigh⟩) h, fun _ _ => ?_, fun hno => by simp [hno] at hauto⟩
      obtain ⟨y, hy, hkind, htarget⟩ := s.requestIns_mem (insertion 3 p 0 (p / 16) none false false 1)
      exact ⟨y, hy, hkind, htarget (show (3 : Nat) ≠ 4 by decide)⟩
    case isFalse hauto => exact ⟨rfl, fun hlow hhigh => absurd (hempty.2 ⟨hlow, hhigh⟩) h, fun _ hyes => absurd hyes hauto, fun _ => rfl⟩

/-! ### SYNTH_FAIL -/

/-- The three cases of R179, and the warm relock of log 57. -/
def State.synthFaulty (s : State) (i : Nat) (why : SynthFault) (a : Nat) : Prop :=
  (why = .outOfLock ∧ (s.synth i).st = .locked ∧ (s.synth i).lockAt = some a ∧ a + 2000 ≤ s.now ∧ s.refGood (synthQuad i) = true) ∨
    (why = .outOfLock ∧ (s.synth i).st = .locking ∧ (s.synth i).cold = false ∧ (s.synth i).lockAt = some a ∧ a + 12000 ≤ s.now ∧
      s.refGood (synthQuad i) = true) ∨
    (why = .rangeEnd ∧ (s.synth i).st = .locked) ∨
    (why = .coldLock ∧ (s.synth i).st = .locking ∧ (s.synth i).cold = true ∧ (s.synth i).lockAt = some a ∧ a + 40000 ≤ s.now)

theorem exec_synthFail {i : Fin 72} {why : SynthFault} {a : Nat} {s : State} (h : s.synthFaulty i why a) :
    exec (.synthFail i why) s = .next ((s.synthDown i).spareFollow (synthQuad i)) := by
  have hrun : exec (.synthFail i why) s = execSynthFail i why s := rfl
  rw [hrun]
  unfold execSynthFail
  refine if_pos ?_
  rcases h with ⟨rfl, hst, hat, hdue, hgood⟩ | ⟨rfl, hst, hcold, hat, hdue, hgood⟩ | ⟨rfl, hst⟩ | ⟨rfl, hst, hcold, hat, hdue⟩
  · simp only [hat, hgood, hst, decide_eq_true hdue]
    rfl
  · simp only [hat, hgood, hst, hcold, decide_eq_true hdue]
    rfl
  · exact decide_eq_true hst
  · simp only [hat, hst, hcold, decide_eq_true hdue]
    rfl

/-- The failure of a port's synthesizer (R179-R181). -/
theorem synthFail_spec {i : Fin 72} {why : SynthFault} {a p : Nat} {s : State} (hport : (s.synth i).port = some p) (hp : p < 64)
    (hins : ∀ x ∈ s.opt.ins, x.kind = 3 → x.target ≠ p) (h : s.synthFaulty i why a) :
    ∃ t, exec (.synthFail i why) s = .next t ∧ (t.synth i).st = .failed ∧ (t.synth i).port = some p ∧ t.port p = (s.port p).downed ∧
      (s.spareUsable (2 * (p / 16)) = false → s.spareUsable (2 * (p / 16) + 1) = false → FaultCause.synthSpare p ∈ t.sys.mlb) ∧
      (s.spareUsable (2 * (p / 16)) = true ∨ s.spareUsable (2 * (p / 16) + 1) = true → s.autoSpareLs = true →
        ∃ y ∈ t.opt.ins, y.kind = 3 ∧ y.target = p) ∧
      (∀ j, j ≠ i.val → (s.synth j).port ≠ none → t.synth j = s.synth j) ∧ (∀ o, o ≠ p → t.port o = s.port o) ∧
      (∀ j, j = 64 + 2 * (p / 16) ∨ j = 65 + 2 * (p / 16) → s.opt.ins = [] → s.autoSpareLs = false → synthQuad i = p / 16 →
        (s.synth j).port = none → (s.synth j).st = .locked → (s.synth j).half ≠ t.majorityHalf (p / 16) →
        s.optical16 (p / 16) = true → (t.synth j).half = t.majorityHalf (p / 16)) ∧
      Only [.sys, .mbx, .opt, .ls, .ev] s t := by
  have hrun := exec_synthFail h
  refine ⟨_, hrun, ?_⟩
  have hfollow := (s.synthDown i).spareFollow_sparesOnly (synthQuad i)
  have hdown := State.synthDown_eq hport hins
  obtain ⟨hls, hmlb, hcalled, hquiet⟩ := (s.lostClock i p).seekSpare_spec p
  rw [State.spareUsable_lostClock (by omega) hport, State.spareUsable_lostClock (by omega) hport] at hmlb hcalled
  have hauto : (s.lostClock i p).autoSpareLs = s.autoSpareLs := by rw [State.autoSpareLs, State.gctrl_lostClock, ← State.autoSpareLs]
  rw [hauto] at hcalled hquiet
  rw [← hdown] at hls hmlb hcalled hquiet
  have hsynth (j : Nat) : (s.synthDown i).synth j = (s.modSynth i fun y => y.downed (s.portHalf p)).synth j := by
    rw [State.synth, hls, ← State.synth, State.synth_lostClock]
  have hports (o : Nat) : (s.synthDown i).port o = (s.modPort p Port.downed).port o := by
    rw [State.port, hls, ← State.port, State.port_lostClock]
  have hself : (s.synthDown i).synth i = (s.synth i).downed (s.portHalf p) := (hsynth i).trans (State.synth_modSynth s _ i.isLt)
  have hother (j : Nat) (hj : j ≠ i.val) : (s.synthDown i).synth j = s.synth j := (hsynth j).trans (State.synth_modSynth_ne s _ hj)
  have hfailed : ((s.synthDown i).spareFollow (synthQuad i)).synth i = (s.synth i).downed (s.portHalf p) :=
    (hfollow.used i (by rw [hself]; exact fun h => Option.some_ne_none p (hport.symm.trans h))).trans hself
  refine ⟨?_, ?_, (hfollow.ports p).trans ((hports p).trans (State.port_modPort s _ hp)), ?_, ?_, fun j hj hused => ?_,
    fun o ho => (hfollow.ports o).trans ((hports o).trans (State.port_modPort_ne s _ ho)), ?_, exec_only_of_subset hrun (by rw [writes]; decide)⟩
  · rw [hfailed]
    rfl
  · rw [hfailed]
    exact hport
  · rw [hfollow.sys]
    exact hmlb
  · rw [hfollow.opt]
    exact hcalled
  · exact (hfollow.used j (by rw [hother j hj]; exact hused)).trans (hother j hj)
  · intro j hj hnil hoff hquad hfree hlocked hhalf hoptical
    have hopt : (s.synthDown i).opt = s.opt := (hquiet hoff).trans (s.lostClock_opt i p)
    have hne : j ≠ i.val := fun he => Option.some_ne_none p (hport.symm.trans (he ▸ hfree))
    rw [hquad] at hfollow hhalf ⊢
    rw [hfollow.majorityHalf] at hhalf ⊢
    refine (State.spareFollow_relocks (by omega) hj ?_ ?_ ?_ (by rw [hopt]; exact hnil) ?_).2
    · rw [hother j hne]
      exact hfree
    · rw [hother j hne]
      exact hlocked
    · rw [hother j hne]
      exact hhalf
    · exact (congrArg (fun o : Opt => decide (((vget o.site {} 16).routes.getD (p / 16) ⟨0, 7, 7⟩).source < 6)) hopt :).trans hoptical

end Sys2Proof.Machine
end

section
/-! Insertions of synthesizers, and the obligation on their locks, failures and insertions (R179-R181, Table 6-5). -/
namespace Sys2Proof.Machine
open Sys2Proof.Safety

/-! ### Insertions and their handles -/

theorem State.insProgress_only (s : State) (x : Insertion) (step : Nat) (spare : Option Nat) : Only [.mbx] s (s.insProgress x step spare) :=
  (Keeps.insProgress_keeps (List.Subset.refl _) (Keeps.refl s) x step spare).only

theorem State.insStep_only (s : State) (x : Insertion) (step : Nat) (took : Option Nat) (since : Nat) :
    Only [.mbx, .opt] s (s.insStep x step took since) :=
  (Keeps.insStep_keeps (List.Subset.refl _) (Keeps.refl s) x step took since).only

/-- An insertion at a step, with the spare it has taken. -/
def Insertion.stepped (x : Insertion) (step : Nat) (took : Option Nat) (since : Nat) : Insertion :=
  { x with step := step, took := took, since := since }

theorem State.insStep_ins (s : State) (x : Insertion) (step : Nat) (took : Option Nat) (since : Nat) :
    (s.insStep x step took since).opt.ins = s.opt.ins.map fun y => if y = x then x.stepped step took since else y := by
  have hopt : (s.insStep x step took since).opt = (s.modIns x fun y => y.stepped step took since).opt :=
    (State.insProgress_only _ x step took).same .opt (by decide)
  rw [hopt]
  refine List.map_congr_left fun y _ => ?_
  split
  case isTrue h => rw [h]
  case isFalse => rfl

/-- The handle of an insertion that runs is RUNNING. -/
theorem State.handle_of_insRuns {s : State} {x : Insertion} {h : Nat} {o : LongOp} (hruns : s.insRuns x = true) (hh : x.handle = some h)
    (ho : (s.handle h).op = some o) : o.st = .running := by
  simp only [State.insRuns, hh, ho, Bool.and_eq_true, decide_eq_true_eq] at hruns
  exact hruns.2

theorem State.insSuspending_of_running {s : State} {x : Insertion}
    (h : ∀ n o, x.handle = some n → (s.handle n).op = some o → o.st = .running) : s.insSuspending x = false := by
  unfold State.insSuspending
  cases hh : x.handle with
  | none => exact Bool.and_false _
  | some n =>
    cases ho : (s.handle n).op with
    | none => simp [ho]
    | some o => simp [ho, h n o hh ho]

theorem State.handle_of_ge (s : State) {n : Nat} (h : ¬ n < 32) : s.handle n = {} := by
  simp [State.handle, vget, h]

/-- A step noted in a handle leaves the state of the handle. -/
theorem State.insSuspending_insStep {s : State} {x : Insertion} (step : Nat) (took : Option Nat) (since : Nat) (hruns : s.insRuns x = true) :
    (s.insStep x step took since).insSuspending (x.stepped step took since) = false := by
  refine State.insSuspending_of_running fun n o hn ho => ?_
  have hn' : x.handle = some n := hn
  unfold State.insStep State.insProgress at ho
  rw [hn'] at ho
  dsimp only at ho
  rcases Decidable.em (n < 32) with hlt | hge
  · rw [State.modOp, State.handle_modHandle _ _ hlt] at ho
    obtain ⟨o', ho', rfl⟩ := Option.map_eq_some_iff.1 ho
    exact State.handle_of_insRuns (o := o') hruns hn' ho'
  · rw [State.handle_of_ge _ hge] at ho
    cases ho

/-! ### The crossbar switches (Table 6-5, steps 4 and 5) -/

/-- A synthesizer that has been replaced: it goes OFF, or stays FAILED. -/
def Synth.replaced (y : Synth) : Synth :=
  { y with
    port := none, en := if y.st = SynthState.failed then y.en else false
    st := if y.st = SynthState.failed then SynthState.failed else SynthState.off
    rideAt := none, lockAt := none }

/-- The synthesizer that has served a port, if one has, is replaced. -/
def State.replaced (s : State) (old : Option Nat) : State := match old with
  | some i => s.modSynth i Synth.replaced
  | none => s

/-- A spare connected to a port, and the port granted its clock. -/
def State.connected (s : State) (p j : Nat) : State :=
  let t := ((s.modSynth (64 + j) fun y => { y with port := some p }).modPort p fun y => { y with synth := 64 + j })
  let t := (t.spareBits j false false).grant p
  { t with ls := { t.ls with inserts := sat16 t.ls.inserts 1 } }

/-- The crossbar switches to a spare. -/
def State.switched (s : State) (p j : Nat) : State := (s.replaced (s.serving p)).connected p j

theorem State.connected_ls (s : State) (p j : Nat) : (s.connected p j).ls =
    { s.ls with
      syn := vmod s.ls.syn (64 + j) fun y => { y with port := some p }
      port := vmod (vmod s.ls.port p fun y => { y with synth := 64 + j }) p fun x => x.granted s.now
      free := (s.spareBits j false false).ls.free, inserts := sat16 s.ls.inserts 1 } := rfl

theorem State.switchSynth_eq (s : State) (x : Insertion) (j : Nat) :
    s.switchSynth x j = ((s.switched x.target j).insProgress x 4 none).insDone x := rfl

theorem State.replaced_port (s : State) (old : Option Nat) (o : Nat) : (s.replaced old).port o = s.port o := by
  cases old <;> rfl

theorem State.switched_port (s : State) (p j : Nat) : (∀ o, o ≠ p → (s.switched p j).port o = s.port o) ∧
    (p < 64 → (s.switched p j).port p = { (s.port p).granted s.now with synth := 64 + j }) := by
  have hnow : (s.replaced (s.serving p)).now = s.now := by cases s.serving p <;> rfl
  have hport := s.replaced_port (s.serving p)
  unfold State.switched
  generalize s.replaced (s.serving p) = u at *
  refine ⟨fun o ho => ?_, fun hp => ?_⟩
  · rw [State.port, State.connected_ls, vget_vmod_ne _ _ _ ho, vget_vmod_ne _ _ _ ho]
    exact hport o
  · rw [State.port, State.connected_ls, vget_vmod_self _ _ _ hp, vget_vmod_self _ _ _ hp, ← State.port, hport, hnow]
    rfl

theorem State.switched_synth (s : State) (p : Nat) {j : Nat} (hj : j < 8) (hspare : (s.synth (64 + j)).port = none) :
    (s.switched p j).synth (64 + j) = { s.synth (64 + j) with port := some p } ∧
      ∀ i, s.serving p = some i → (s.switched p j).synth i = (s.synth i).replaced := by
  have hne (i : Nat) (hi : s.serving p = some i) : i ≠ 64 + j := fun he => by
    obtain ⟨-, hport⟩ := State.serving_some hi
    rw [he, hspare] at hport
    cases hport
  have hsame : (s.replaced (s.serving p)).synth (64 + j) = s.synth (64 + j) := by
    cases hserving : s.serving p with
    | none => rfl
    | some i => exact State.synth_modSynth_ne s _ (hne i hserving).symm
  have hold (i : Nat) (hi : s.serving p = some i) : (s.replaced (s.serving p)).synth i = (s.synth i).replaced := by
    rw [hi]
    exact State.synth_modSynth s _ (State.serving_some hi).1
  unfold State.switched
  generalize s.replaced (s.serving p) = u at *
  have hlt : 64 + j < 72 := by omega
  refine ⟨?_, fun i hi => ?_⟩
  · rw [State.synth, State.connected_ls, vget_vmod_self _ _ _ hlt, ← State.synth, hsame]
  · rw [State.synth, State.connected_ls, vget_vmod_ne _ _ _ (hne i hi)]
    exact hold i hi

theorem State.switched_rest (s : State) (p j : Nat) : (s.switched p j).opt = s.opt ∧ (s.switched p j).ls.inserts = sat16 s.ls.inserts 1 ∧
    (j < 8 → (s.switched p j).ls.free.getLsbD j = false) := by
  have hopt : (s.replaced (s.serving p)).opt = s.opt := by cases s.serving p <;> rfl
  have hcount : (s.replaced (s.serving p)).ls.inserts = s.ls.inserts := by cases s.serving p <;> rfl
  unfold State.switched
  generalize s.replaced (s.serving p) = u at *
  have hkept : (u.connected p j).opt = u.opt := by
    dsimp only [State.connected, State.grant, State.spareBits, State.modPort, State.modSynth]
  have hinserts : (u.connected p j).ls.inserts = sat16 u.ls.inserts 1 := (congrArg Ls.inserts (u.connected_ls p j) :)
  exact ⟨hkept.trans hopt, by rw [hinserts, hcount], fun hj => by rw [State.connected_ls]; exact u.spareBits_taken false hj⟩

theorem State.insDone_rest (s : State) (x : Insertion) : (s.insDone x).ls = s.ls ∧
    (s.insDone x).opt.ins = s.opt.ins.filter (· ≠ x) := by
  refine ⟨(Keeps.insDone_keeps (List.Subset.refl _) (Keeps.refl s) x).only.same .ls (by decide), ?_⟩
  unfold State.insDone
  rw [State.endIns_opt, State.raise_opt]

theorem State.switchSynth_rest (s : State) (x : Insertion) (j : Nat) : (s.switchSynth x j).ls = (s.switched x.target j).ls ∧
    (s.switchSynth x j).opt.ins = s.opt.ins.filter (· ≠ x) := by
  have honly := (s.switched x.target j).insProgress_only x 4 none
  rw [State.switchSynth_eq, (State.insDone_rest _ x).1, (State.insDone_rest _ x).2, honly.same .opt (by decide), (s.switched_rest x.target j).1]
  exact ⟨honly.same .ls (by decide), rfl⟩

/-! ### An insertion takes a spare that is locked at the port's rate -/

/-- The insertion has taken its spare. -/
def State.tookSpare (s : State) (x : Insertion) (j : Nat) : State := (s.insStep x 2 (some j) s.now).spareBits j false false

theorem State.tookSpare_ls (s : State) (x : Insertion) (j : Nat) : (s.tookSpare x j).ls = (s.spareBits j false false).ls := by
  rw [State.tookSpare, State.spareBits, State.spareBits, (s.insStep_only x 2 (some j) s.now).same .ls (by decide)]

theorem State.portHalf_congr {s t : State} (hport : ∀ p, t.port p = s.port p) (hsynth : ∀ i, t.synth i = s.synth i) (p : Nat) :
    t.portHalf p = s.portHalf p := by
  unfold State.portHalf
  rw [hport, hsynth]

theorem State.goSynth_switches {s : State} {x : Insertion} {j : Nat} (hst : (s.synth (64 + j)).st = .locked)
    (hride : ∀ i, s.serving x.target = some i → (s.synth i).st ≠ .ride) (hhalf : (s.synth (64 + j)).half = s.portHalf x.target)
    (hawake : s.insSuspending x = false) (hlive : (s.port x.target).st ≠ .live) : s.goSynth x j false = s.switchSynth x j := by
  unfold State.goSynth
  dsimp only
  rw [if_neg, if_neg (by rw [hhalf]; exact fun h => h rfl), if_neg (by rw [hawake]; exact fun h => Bool.false_ne_true h.1),
    if_neg fun h => hlive h.1]
  rintro (h | h)
  · exact h hst
  · cases hs : s.serving x.target with
    | none => rw [hs] at h; cases h
    | some i => exact hride i hs (of_decide_eq_true (by rw [hs] at h; exact h))

theorem State.advanceSynth_switches {s : State} {p j : Nat} {x : Insertion}
    (hfind : s.findIns (fun x => decide (x.kind = 3 ∧ x.target = p)) = some x) (hruns : s.insRuns x = true) (hspare : x.spare = none)
    (htook : x.took = none) (hfirst : ([2 * (p / 16), 2 * (p / 16) + 1].filter s.spareOk).head? = some j)
    (hhalf : (s.synth (64 + j)).half = s.portHalf p) (hride : ∀ i, s.serving p = some i → (s.synth i).st ≠ .ride)
    (hlive : (s.port p).st ≠ .live) :
    s.advanceSynth p false = (s.tookSpare x j).switchSynth (x.stepped 2 (some j) s.now) j := by
  have htarget : x.target = p := by
    have h := List.find?_some hfind
    exact (of_decide_eq_true h).2
  have hok : s.spareOk j = true := (List.mem_filter.1 (List.mem_of_head? hfirst)).2
  have hfor : s.spareFor x s.spareOk = some j := by
    unfold State.spareFor
    rw [hspare, htarget]
    exact hfirst
  have hawake : s.insSuspending x = false := State.insSuspending_of_running fun n o => State.handle_of_insRuns hruns
  have hsynth (i : Nat) : (s.tookSpare x j).synth i = s.synth i := by
    rw [State.synth, State.tookSpare_ls]
    rfl
  have hport (o : Nat) : (s.tookSpare x j).port o = s.port o := by
    rw [State.port, State.tookSpare_ls]
    rfl
  have hserving (o : Nat) : (s.tookSpare x j).serving o = s.serving o := State.serving_congr (fun i => by rw [hsynth]) o
  have hgo : (s.tookSpare x j).goSynth (x.stepped 2 (some j) s.now) j false = (s.tookSpare x j).switchSynth (x.stepped 2 (some j) s.now) j := by
    have hx : (x.stepped 2 (some j) s.now).target = p := htarget
    refine State.goSynth_switches ?_ ?_ ?_ (State.insSuspending_insStep 2 (some j) s.now hruns) ?_
    · rw [hsynth]
      unfold State.spareOk at hok
      rw [Bool.and_eq_true, decide_eq_true_eq] at hok
      exact hok.2
    · intro i hi
      rw [hx, hserving] at hi
      rw [hsynth]
      exact hride i hi
    · rw [hx, State.portHalf_congr hport hsynth, hsynth]
      exact hhalf
    · rw [hx, hport]
      exact hlive
  unfold State.advanceSynth
  simp only [hfind, hawake, hruns, htook, hfor]
  exact hgo

/-- A spare that is locked at the port's rate takes a port that is not LIVE (Table 6-5). -/
theorem synthInsert_spec {p : Fin 64} {x : Insertion} {j : Nat} {s : State}
    (hfind : s.findIns (fun x => decide (x.kind = 3 ∧ x.target = p.val)) = some x) (hruns : s.insRuns x = true) (hspare : x.spare = none)
    (htook : x.took = none) (hfirst : ([2 * (p.val / 16), 2 * (p.val / 16) + 1].filter s.spareOk).head? = some j)
    (hhalf : (s.synth (64 + j)).half = s.portHalf p) (hride : ∀ i, s.serving p = some i → (s.synth i).st ≠ .ride)
    (hlive : (s.port p).st ≠ .live) :
    ∃ t, exec (.synthInsert p) s = .next t ∧ t.synth (64 + j) = { s.synth (64 + j) with port := some p.val } ∧
      t.port p = { (s.port p).granted s.now with synth := 64 + j } ∧ (∀ i, s.serving p = some i → t.synth i = (s.synth i).replaced) ∧
      t.ls.free.getLsbD j = false ∧ t.ls.inserts = sat16 s.ls.inserts 1 ∧
      (∀ y ∈ t.opt.ins, y.kind = 3 → y.target = p.val → y ∈ s.opt.ins ∧ y ≠ x) ∧ (∀ o, o ≠ p.val → t.port o = s.port o) ∧
      Only [.mbx, .opt, .ls, .ev] s t := by
  have hrun : exec (.synthInsert p) s = .next (s.advanceSynth p false) := rfl
  rw [State.advanceSynth_switches hfind hruns hspare htook hfirst hhalf hride hlive] at hrun
  refine ⟨_, hrun, ?_⟩
  obtain ⟨hmem, hok⟩ := List.mem_filter.1 (List.mem_of_head? hfirst)
  have hj : j < 8 := by
    have hp := p.isLt
    rcases List.mem_cons.1 hmem with rfl | h
    · omega
    · rw [List.mem_singleton.1 h]
      omega
  have hfree : (s.synth (64 + j)).port = none := by
    by_contra hne
    unfold State.spareOk at hok
    rw [State.spareUsable_of_serves hne] at hok
    exact Bool.false_ne_true hok
  have htarget : x.target = p := by
    have h := List.find?_some hfind
    exact (of_decide_eq_true h).2
  have hls : (s.tookSpare x j).ls = (s.spareBits j false false).ls := s.tookSpare_ls x j
  have hins : (s.tookSpare x j).opt.ins = s.opt.ins.map fun y => if y = x then x.stepped 2 (some j) s.now else y := s.insStep_ins x 2 (some j) s.now
  have hnow : (s.tookSpare x j).now = s.now := congrArg Sys.erg ((s.insStep_only x 2 (some j) s.now).same .sys (by decide))
  have honly : Only [.mbx, .opt, .ls, .ev] s ((s.tookSpare x j).switchSynth (x.stepped 2 (some j) s.now) j) :=
    (Keeps.switchSynth_keeps (List.Subset.refl _) (.spareBits_keeps (by simp) (.insStep_keeps (by simp) (.refl s) _ _ _ _) _ _ _) _ _).only
  generalize s.tookSpare x j = u at *
  have hsynth (i : Nat) : u.synth i = s.synth i := by
    rw [State.synth, hls]
    rfl
  have hport (o : Nat) : u.port o = s.port o := by
    rw [State.port, hls]
    rfl
  have hserving : u.serving p = s.serving p := State.serving_congr (fun i => by rw [hsynth]) p
  obtain ⟨hlast, hend⟩ := u.switchSynth_rest (x.stepped 2 (some j) s.now) j
  have hx : (x.stepped 2 (some j) s.now).target = p := htarget
  rw [hx] at hlast
  obtain ⟨hnew, hold⟩ := u.switched_synth p hj (by rw [hsynth]; exact hfree)
  obtain ⟨hothers, hgranted⟩ := u.switched_port p j
  obtain ⟨-, hcount, htaken⟩ := u.switched_rest p j
  generalize u.switchSynth (x.stepped 2 (some j) s.now) j = t at *
  have hsynth_t (i : Nat) : t.synth i = (u.switched p j).synth i := by rw [State.synth, hlast, ← State.synth]
  have hport_t (o : Nat) : t.port o = (u.switched p j).port o := by rw [State.port, hlast, ← State.port]
  refine ⟨?_, ?_, fun i hi => ?_, by rw [hlast]; exact htaken hj, ?_, fun y hy _ _ => ?_, fun o ho => ?_, honly⟩
  · rw [hsynth_t, hnew, hsynth]
  · rw [hport_t, hgranted p.isLt, hport, hnow]
  · rw [hsynth_t, hold i (hserving.trans hi), hsynth]
  · rw [hlast, hcount, hls]
    rfl
  · rw [hend, List.mem_filter, hins, List.mem_map] at hy
    obtain ⟨⟨z, hz, rfl⟩, hne⟩ := hy
    split at hne
    case isTrue => simp at hne
    case isFalse h =>
      rw [if_neg h]
      exact ⟨hz, h⟩
  · rw [hport_t, hothers o ho, hport]

end Sys2Proof.Machine
end

section
/-! A port that does not quiesce, and the obligation on locks, failures and insertions of synthesizers (R169-R181). -/
namespace Sys2Proof.Machine
open Sys2Proof.Safety

/-! ### QUIESCE_TIMEOUT (R180) -/

/-- A port that is no longer asked to quiesce. -/
def Port.unquiet (x : Port) : Port := { x with qreq := false, quietAt := none }

/-- The insertion is given up, its spare free again. -/
def State.unquiesced (s : State) (p j : Nat) (x : Insertion) : State :=
  ((s.modPort p Port.unquiet).spareBits j true false).endIns x .failed stBusy

theorem exec_quiesceTimeout {p : Fin 64} {x : Insertion} {a j : Nat} {s : State}
    (hfind : s.findIns (fun x => decide (x.kind = 3 ∧ x.target = p.val ∧ x.step = 3)) = some x) (hat : (s.port p).quietAt = some a)
    (hqreq : (s.port p).qreq = true) (hdue : a + s.quiesceNs ≤ s.now) (hforce : x.force = false) (htook : x.took = some j)
    (hride : ∀ i, s.serving p = some i → (s.synth i).st ≠ .ride) (hlive : (s.port p).st = .live) (hruns : s.insRuns x = true) :
    exec (.quiesceTimeout p) s = .next ((s.unquiesced p j x).spareFollow (p.val / 16)) := by
  have hrun : exec (.quiesceTimeout p) s = execQuiesceTimeout p s := rfl
  rw [hrun]
  unfold execQuiesceTimeout
  simp only [hfind, hat]
  rw [if_neg, if_neg (by rw [hlive]; exact fun h => h rfl), if_neg (by rw [hforce]; nofun), htook]
  case hnc =>
    rintro (h | h | h | h)
    · rw [hqreq] at h
      cases h
    · cases hs : s.serving p with
      | none => rw [hs] at h; cases h
      | some i => exact hride i hs (of_decide_eq_true (by rw [hs] at h; exact h))
    · omega
    · rw [hruns] at h
      cases h.1
  rfl

theorem exec_quiesceTimeout_held {p : Fin 64} {x : Insertion} {s : State}
    (hfind : s.findIns (fun x => decide (x.kind = 3 ∧ x.target = p.val ∧ x.step = 3)) = some x) (hruns : s.insRuns x = false)
    (hsuspending : s.insSuspending x = false) : exec (.quiesceTimeout p) s = .next s := by
  have hrun : exec (.quiesceTimeout p) s = execQuiesceTimeout p s := rfl
  rw [hrun]
  unfold execQuiesceTimeout
  cases hat : (s.port p).quietAt with
  | none => simp only [hfind, hat]
  | some a =>
    simp only [hfind, hat]
    exact if_pos (.inr (.inr (.inr (by rw [hruns, hsuspending]; exact ⟨rfl, rfl⟩))))

/-- The end of an insertion's handle. -/
theorem State.endIns_handle {s : State} {x : Insertion} {h : Nat} {o : LongOp} (out : Outcome) (st : Nat) (hh : x.handle = some h)
    (ho : (s.handle h).op = some o) : ((s.endIns x out st).handle h).op = some (o.ended out st s.now) := by
  have hlt : h < 32 := by
    by_contra hge
    rw [State.handle_of_ge s hge] at ho
    cases ho
  unfold State.endIns
  rw [hh]
  exact congrArg Handle.op (State.finishOp_spec (s := { s with opt := { s.opt with ins := s.opt.ins.filter (· ≠ x) } }) out st hlt ho).1

theorem State.endIns_ls (s : State) (x : Insertion) (out : Outcome) (st : Nat) : (s.endIns x out st).ls = s.ls :=
  (Keeps.endIns_keeps (List.Subset.refl _) (Keeps.refl s) x out st).only.same .ls (by decide)

/-- A port that does not quiesce ends the insertion with BUSY. -/
theorem quiesceTimeout_spec {p : Fin 64} {x : Insertion} {a j : Nat} {s : State}
    (hfind : s.findIns (fun x => decide (x.kind = 3 ∧ x.target = p.val ∧ x.step = 3)) = some x) (hat : (s.port p).quietAt = some a)
    (hqreq : (s.port p).qreq = true) (hdue : a + s.quiesceNs ≤ s.now) (hforce : x.force = false) (htook : x.took = some j) (hj : j < 8)
    (hride : ∀ i, s.serving p = some i → (s.synth i).st ≠ .ride) (hlive : (s.port p).st = .live) (hruns : s.insRuns x = true) :
    ∃ t, exec (.quiesceTimeout p) s = .next t ∧ t.port p = (s.port p).unquiet ∧ t.ls.free.getLsbD j = true ∧ x ∉ t.opt.ins ∧
      (∀ h o, x.handle = some h → (s.handle h).op = some o → (t.handle h).op = some (o.ended .failed 0x10 s.now)) ∧
      (∀ i, (s.synth i).port ≠ none → t.synth i = s.synth i) ∧ (∀ o, o ≠ p.val → t.port o = s.port o) ∧ Only [.mbx, .opt, .ls] s t := by
  refine ⟨_, exec_quiesceTimeout hfind hat hqreq hdue hforce htook hride hlive hruns, ?_⟩
  have hfollow := (s.unquiesced p j x).spareFollow_sparesOnly (p.val / 16)
  have honly : Only [.mbx, .opt, .ls] s ((s.unquiesced p j x).spareFollow (p.val / 16)) :=
    (Keeps.spareFollow_keeps (by simp) (.endIns_keeps (by simp) (.spareBits_keeps (by simp) (.modPort_keeps (by simp) (.refl s) _ _) _ _ _)
      _ _ _) _).only
  have hls : (s.unquiesced p j x).ls = ((s.modPort p Port.unquiet).spareBits j true false).ls := State.endIns_ls ..
  have hins : (s.unquiesced p j x).opt.ins = s.opt.ins.filter (· ≠ x) := congrArg Opt.ins (State.endIns_opt ..)
  have hhandle (h : Nat) (o : LongOp) (hh : x.handle = some h) (ho : (s.handle h).op = some o) :
      ((s.unquiesced p j x).handle h).op = some (o.ended .failed 0x10 s.now) := State.endIns_handle _ _ hh ho
  generalize s.unquiesced p j x = u at *
  have hsynth (i : Nat) : u.synth i = s.synth i := by
    rw [State.synth, hls]
    rfl
  have hport (o : Nat) : u.port o = (s.modPort p Port.unquiet).port o := by
    rw [State.port, hls]
    rfl
  have hmbx : (u.spareFollow (p.val / 16)).mbx = u.mbx := (congrArg State.mbx hfollow.rest :)
  have hfree : (u.spareFollow (p.val / 16)).ls.free = u.ls.free := (congrArg (fun x : State => x.ls.free) hfollow.rest :)
  refine ⟨(hfollow.ports p).trans ((hport p).trans (State.port_modPort s _ p.isLt)), ?_, ?_, fun h o hh ho => ?_, fun i hi => ?_,
    fun o ho => (hfollow.ports o).trans ((hport o).trans (State.port_modPort_ne s _ ho)), honly⟩
  · rw [hfree, hls]
    exact State.spareBits_freed _ false hj
  · rw [hfollow.opt, hins]
    simp
  · rw [State.handle, hmbx, ← State.handle]
    exact hhandle h o hh ho
  · exact (hfollow.used i (by rw [hsynth]; exact hi)).trans (hsynth i)

/-- Settles O55: what follows a lock, a report or a failure touches spares that serve no port, so every synthesizer that serves one reads
what its own row has left. -/
theorem synthesizersLockFailAndAreReplaced : Obligations.SynthesizersLockFailAndAreReplaced := by
  unfold Obligations.SynthesizersLockFailAndAreReplaced
  refine ⟨?_, ?_, ?_, ?_, ?_, ?_, ?_, ?_, ?_, ?_, ?_, ?_⟩
  · intro i p cw band s hst hport hp hins
    exact synthRelockDone_spec hst hport hp hins
  · intro i s hst hat hgood
    exact exec_lossOfLock hst hat hgood
  · intro i cw band s hst hat
    exact exec_synthRelockDone_again hst hat
  · intro p st s hins hheard hleaves hquiet
    have hrun := exec_portStateChange hins hheard hleaves hquiet
    have hfollow := (s.modPort p fun x => x.reported st).spareFollow_sparesOnly (p.val / 16)
    refine ⟨_, hrun, (hfollow.ports p).trans (State.port_modPort s _ p.isLt), hfollow.used, fun i hi hport hst hhalf hoptical => ?_,
      fun o ho => (hfollow.ports o).trans (State.port_modPort_ne s _ ho),
      (Keeps.spareFollow_keeps (List.Subset.refl _) (.modPort_keeps (List.Subset.refl _) (.refl s) _ _) _).only⟩
    rw [hfollow.majorityHalf] at hhalf ⊢
    have hp := p.isLt
    exact State.spareFollow_relocks (by omega) hi hport hst hhalf hins hoptical
  · intro p st s h
    exact exec_portStateChange_unheard h
  · intro i why a p s hport hp hins h
    exact synthFail_spec hport hp hins h
  · intro i fs s hst hbackup hover hrun
    exact exec_synthJitterMeasure_over hst hbackup hover hrun
  · intro i fs s hst hbackup hover hrun hnew
    exact synthJitterMeasure_tenth hst hbackup hover hrun hnew
  · intro i fs s hst hwithin
    exact exec_synthJitterMeasure_within hst hwithin
  · intro p x j s hfind hruns hspare htook hfirst hhalf hride hlive
    obtain ⟨t, hrun, hnew, hport, hold, hfree, hcount, hins, hothers, honly⟩ :=
      synthInsert_spec hfind hruns hspare htook hfirst hhalf hride hlive
    refine ⟨t, hrun, hnew, by rw [hport], by rw [hport]; rfl, by rw [hport]; rfl, by rw [hport]; rfl, fun i hi => ?_, hfree, hcount, hins,
      hothers, honly⟩
    rw [hold i hi]
    exact ⟨rfl, rfl⟩
  · intro p x a j s hfind hat hqreq hdue hforce htook hj hride hlive hruns
    exact quiesceTimeout_spec hfind hat hqreq hdue hforce htook hj hride hlive hruns
  · intro p x s hfind hruns hsuspending
    exact exec_quiesceTimeout_held hfind hruns hsuspending

end Sys2Proof.Machine
end

section
/-! SUPPORT. One lane changed, and what its slots, slips and notices leave in it (R196-R202). -/
namespace Sys2Proof.Machine
open Sys2Proof.Safety

/-! ### One lane changed -/

/-- One lane reads as given, and nothing else has changed. -/
structure State.LaneSet (r k : Nat) (s t : State) (l : Lane) : Prop where
  self : t.laneAt r k = l
  others : ∀ r' j, laneKey r' j ≠ laneKey r k → t.laneAt r' j = s.laneAt r' j
  wf : Map.wf {} t.xg.lane = true
  only : Only [.xg] s t
  rest : { t with xg := { t.xg with lane := s.xg.lane } } = s

theorem State.modLane_wf (s : State) (r : RegionNo) (k : Nat) (f : Lane → Lane) (h : Map.wf {} s.xg.lane = true) :
    Map.wf {} (s.modLane r k f).xg.lane = true := Map.put_wf _ _ h

theorem State.LaneSet.refl {s : State} (r k : Nat) (h : Map.wf {} s.xg.lane = true) : State.LaneSet r k s s (s.laneAt r k) :=
  ⟨rfl, fun _ _ _ => rfl, h, (Keeps.refl s).only, rfl⟩

theorem State.LaneSet.modLane {r k : Nat} {s t : State} {l : Lane} (h : State.LaneSet r k s t l) (f : Lane → Lane) :
    State.LaneSet r k s (t.modLane r k f) (f l) where
  self := by rw [State.laneAt_modLane _ _ _ _ h.wf, h.self]
  others r' j hne := (State.laneAt_modLane_ne _ _ hne).trans (h.others r' j hne)
  wf := State.modLane_wf _ _ _ _ h.wf
  only := h.only.trans (Keeps.modLane_keeps (List.Subset.refl _) (.refl t) r k f).only
  rest := (rfl : { t.modLane r k f with xg := { (t.modLane r k f).xg with lane := s.xg.lane } } =
    { t with xg := { t.xg with lane := s.xg.lane } }).trans h.rest

theorem State.LaneSet.slips {r k : Nat} {s t : State} {l : Lane} (h : State.LaneSet r k s t l) : t.xg.slips = s.xg.slips :=
  (congrArg (fun x : State => x.xg.slips) h.rest :)

theorem State.LaneSet.ctrl {r k : Nat} {s t : State} {l : Lane} (h : State.LaneSet r k s t l) : t.xg.ctrl = s.xg.ctrl :=
  (congrArg (fun x : State => x.xg.ctrl) h.rest :)

theorem State.LaneSet.rgn {r k : Nat} {s t : State} {l : Lane} (h : State.LaneSet r k s t l) (q : RegionNo) : t.rgn q = s.rgn q :=
  State.rgn_congr (congrArg State.reg h.rest :) q

theorem State.LaneSet.linkEnd {r k : Nat} {s t : State} {l : Lane} (h : State.LaneSet r k s t l) (q : RegionNo) (j : Nat) :
    t.linkEnd q j = s.linkEnd q j :=
  (congrArg (fun x : State => x.linkEnd q j) h.rest :)
/-- Nothing outside the lane is looked at by what a crossing's regions are asked. -/
theorem State.LaneSet.read {α : Type} (f : State → α) {r k : Nat} {s t : State} {l : Lane} (h : State.LaneSet r k s t l)
    (hf : ∀ (x : State) (m : Map Lane), f { x with xg := { x.xg with lane := m } } = f x) : f t = f s :=
  (hf t s.xg.lane).symm.trans (congrArg f h.rest)

/-! ### A slip (R200) -/

/-- A lane that has slipped, in a window that says so. -/
def Lane.slid (l : Lane) (up : Bool) (told : Option Nat) : Lane :=
  { l with
    delta := if up then l.delta + 16 * l.slot else l.delta - 16 * l.slot
    st := .skewed, slipped := true, slips := min 255 (l.slips + 1), quiet := if l.st = .skewed then l.quiet else 0
    slipWin := told }

/-- The count of slips goes up by one, told or not. -/
def State.slipNoted (s : State) (say : Bool) (arg : Nat) : State :=
  ({ s with xg := { s.xg with slips := s.xg.slips + 1 } } : State).raiseIf say evPbSlip arg

theorem State.slip_eq (s : State) (r : RegionNo) (k : Nat) (up : Bool) :
    ∃ say, s.slip r k up = (s.modLane r k fun l => l.slid up (if say then some (s.rgn r).win else l.slipWin)).slipNoted say (laneId r k) :=
  ⟨bitOf s.xg.ctrl.eff 0 && decide ((s.laneAt r k).slipWin ≠ some (s.rgn r).win), rfl⟩

theorem State.slipNoted_xg (s : State) (say : Bool) (arg : Nat) : (s.slipNoted say arg).xg = { s.xg with slips := s.xg.slips + 1 } := by
  cases say
  · rfl
  · exact (Keeps.raise_keeps (List.Subset.refl _) (Keeps.refl _) evPbSlip arg).only.same .xg (by decide)

/-- What a slip leaves in its lane, in the others and in the count. -/
theorem State.slip_spec {s : State} (r : RegionNo) (k : Nat) (up : Bool) (h : Map.wf {} s.xg.lane = true) :
    (∃ told, (s.slip r k up).laneAt r k = (s.laneAt r k).slid up told) ∧
      (∀ r' j, laneKey r' j ≠ laneKey r k → (s.slip r k up).laneAt r' j = s.laneAt r' j) ∧
      (s.slip r k up).xg.slips = s.xg.slips + 1 ∧ Only [.xg, .ev] s (s.slip r k up) := by
  have honly := (Keeps.slip_keeps (List.Subset.refl _) (Keeps.refl s) r k up).only
  obtain ⟨say, he⟩ := s.slip_eq r k up
  rw [he] at honly ⊢
  have hset := (State.LaneSet.refl r k h).modLane fun l => l.slid up (if say then some (s.rgn r).win else l.slipWin)
  have hxg := (s.modLane r k fun l => l.slid up (if say then some (s.rgn r).win else l.slipWin)).slipNoted_xg say (laneId r k)
  generalize (s.modLane r k fun l => l.slid up (if say then some (s.rgn r).win else l.slipWin)) = u at *
  have hlane (r' j : Nat) : (u.slipNoted say (laneId r k)).laneAt r' j = u.laneAt r' j := by
    rw [State.laneAt, hxg]
    rfl
  exact ⟨⟨_, (hlane r k).trans hset.self⟩, fun r' j hne => (hlane r' j).trans (hset.others r' j hne),
    by rw [hxg, ← hset.slips], honly⟩

end Sys2Proof.Machine
end

section
/-! SUPPORT. A slot that is due at the destination, and a period of the source (R196-R201). -/
namespace Sys2Proof.Machine
open Sys2Proof.Safety

/-! ### The lane over one slot -/

/-- The slot is over: it is counted and read, and the targets stand. -/
def Lane.Past (m l : Lane) : Prop := l.slots = m.slots ∧ l.tSrc = m.tSrc ∧ l.tDst = m.tDst ∧ l.due = false

theorem Lane.realign_past (l : Lane) : Lane.Past l l.realign := by
  unfold Lane.realign
  dsimp only
  split <;> (split <;> (try split) <;> (try split) <;> exact ⟨rfl, rfl, rfl, rfl⟩)

/-- What a slot leads to once it has measured its lane (R198-R201). -/
def State.slotRead (s : State) (r : RegionNo) (k : Nat) (l : Lane) (quiet : Bool) : State :=
  if l.delta < -(24 * (l.slot : Int)) then (s.modLane r k Lane.skip).slip r k true
  else if 24 * (l.slot : Int) < l.delta then s.modLane r k fun l => { l.take with stall := true }
  else if l.st = .skewed ∧ l.forceRealign then s.forceStep r k
  else if l.st = .skewed ∧ (l.step ∨ (quiet ∧ l.idle)) then s.modLane r k Lane.realign
  else s.modLane r k Lane.take

/-- A lane's slot is over, and no other lane is touched. -/
structure State.SlotKept (r k : Nat) (s t : State) : Prop where
  past : Lane.Past (s.laneAt r k) (t.laneAt r k)
  others : ∀ r' j, laneKey r' j ≠ laneKey r k → t.laneAt r' j = s.laneAt r' j
  only : Only [.xg, .ev] s t

theorem State.SlotKept.of_set {r k : Nat} {s t : State} {l : Lane} (h : State.LaneSet r k s t l) (hp : Lane.Past (s.laneAt r k) l) :
    State.SlotKept r k s t := ⟨h.self ▸ hp, h.others, h.only.mono (by simp)⟩

/-- A hold slip: no word is read, and the deviation comes back by a slot. -/
theorem State.skip_slip_spec {s : State} (r : RegionNo) (k : Nat) (h : Map.wf {} s.xg.lane = true) :
    State.SlotKept r k s ((s.modLane r k Lane.skip).slip r k true) ∧
      (∃ told, ((s.modLane r k Lane.skip).slip r k true).laneAt r k = (s.laneAt r k).skip.slid true told) ∧
      ((s.modLane r k Lane.skip).slip r k true).xg.slips = s.xg.slips + 1 := by
  have hset := (State.LaneSet.refl r k h).modLane Lane.skip
  obtain ⟨⟨told, hself⟩, hothers, hslips, honly⟩ := State.slip_spec r k true hset.wf
  rw [hset.self] at hself
  refine ⟨⟨?_, fun r' j hne => (hothers r' j hne).trans (hset.others r' j hne), (hset.only.mono (by simp)).trans honly⟩, ⟨told, hself⟩,
    hslips.trans (congrArg (· + 1) hset.slips)⟩
  rw [hself]
  exact ⟨rfl, rfl, rfl, rfl⟩

theorem State.slotRead_kept {s : State} (r : RegionNo) (k : Nat) (l : Lane) (quiet : Bool) (h : Map.wf {} s.xg.lane = true) :
    State.SlotKept r k s (s.slotRead r k l quiet) := by
  have hset := State.LaneSet.refl r k h
  unfold State.slotRead
  split
  · exact (State.skip_slip_spec r k h).1
  · split
    · exact .of_set (hset.modLane fun l => { l.take with stall := true }) ⟨rfl, rfl, rfl, rfl⟩
    · split
      · unfold State.forceStep
        dsimp only
        split
        · exact .of_set (hset.modLane fun l => l.take.align) ⟨rfl, rfl, rfl, rfl⟩
        · split
          · exact (State.skip_slip_spec r k h).1
          · exact .of_set (hset.modLane fun l => { l.take with stall := true }) ⟨rfl, rfl, rfl, rfl⟩
      · split
        · exact .of_set (hset.modLane Lane.realign) (s.laneAt r k).realign_past
        · exact .of_set (hset.modLane Lane.take) ⟨rfl, rfl, rfl, rfl⟩

/-! ### PAIR_SLOT -/

/-- The lane as its slot finds it. -/
def Lane.atSlot (l : Lane) (win : Nat) : Lane := (l.turn win).newSlot win

theorem Lane.turn_kept (l : Lane) (win : Nat) : (l.turn win).words = l.words ∧ (l.turn win).slipped = l.slipped ∧
    (l.turn win).slips = l.slips ∧ (l.turn win).st = l.st := by
  unfold Lane.turn
  split <;> exact ⟨rfl, rfl, rfl, rfl⟩

/-- The source's new target, once its window has come. -/
def Lane.takeNext (l : Lane) (win : Nat) : Lane := match l.tNext with
  | some (t, w) => if w ≤ win then { l with tSrc := t, tNext := none } else l
  | none => l

/-- The destination's own new target, once its window has come. -/
def Lane.takeOwn (l : Lane) (win : Nat) : Lane := match l.tOwn with
  | some (t, w) => if w ≤ win then { l with tDst := t, tOwn := none } else l
  | none => l

theorem Lane.newSlot_eq (l : Lane) (win : Nat) : l.newSlot win = { (l.takeNext win).takeOwn win with
    delta := ((l.takeNext win).takeOwn win).delta + 32 * ((l.slot : Int) - ((l.takeNext win).takeOwn win).slot) } := rfl

theorem Lane.takeNext_kept (l : Lane) (win : Nat) : (l.takeNext win).words = l.words ∧ (l.takeNext win).slipped = l.slipped ∧
    (l.takeNext win).slips = l.slips ∧ (l.takeNext win).st = l.st := by
  unfold Lane.takeNext
  split
  · split <;> exact ⟨rfl, rfl, rfl, rfl⟩
  · exact ⟨rfl, rfl, rfl, rfl⟩

theorem Lane.takeOwn_kept (l : Lane) (win : Nat) : (l.takeOwn win).words = l.words ∧ (l.takeOwn win).slipped = l.slipped ∧
    (l.takeOwn win).slips = l.slips ∧ (l.takeOwn win).st = l.st := by
  unfold Lane.takeOwn
  split
  · split <;> exact ⟨rfl, rfl, rfl, rfl⟩
  · exact ⟨rfl, rfl, rfl, rfl⟩

theorem Lane.newSlot_kept (l : Lane) (win : Nat) : (l.newSlot win).words = l.words ∧ (l.newSlot win).slipped = l.slipped ∧
    (l.newSlot win).slips = l.slips ∧ (l.newSlot win).st = l.st := by
  obtain ⟨hwords, hslipped, hslips, hst⟩ := l.takeNext_kept win
  obtain ⟨hwords', hslipped', hslips', hst'⟩ := (l.takeNext win).takeOwn_kept win
  rw [Lane.newSlot_eq]
  exact ⟨hwords'.trans hwords, hslipped'.trans hslipped, hslips'.trans hslips, hst'.trans hst⟩

theorem Lane.atSlot_kept (l : Lane) (win : Nat) : (l.atSlot win).words = l.words ∧ (l.atSlot win).slipped = l.slipped ∧
    (l.atSlot win).slips = l.slips := by
  obtain ⟨hwords, hslipped, hslips, -⟩ := (l.turn win).newSlot_kept win
  obtain ⟨hwords', hslipped', hslips', -⟩ := l.turn_kept win
  exact ⟨hwords.trans hwords', hslipped.trans hslipped', hslips.trans hslips'⟩

/-- The deviation that a slot measures: moved by the difference of the stretches. -/
def Lane.moved (l : Lane) (win : Nat) (diff : Int) : Int := (l.atSlot win).delta + diff * (l.atSlot win).slot

theorem Lane.measure_kept (l : Lane) (win : Nat) (diff : Int) :
    (l.measure win diff).words = l.words ∧ (l.measure win diff).slipped = l.slipped ∧ (l.measure win diff).slips = l.slips ∧
      (l.measure win diff).slots = (l.atSlot win).slots + 1 ∧ (l.measure win diff).tSrc = (l.atSlot win).tSrc ∧
      (l.measure win diff).tDst = (l.atSlot win).tDst ∧ (l.measure win diff).delta = l.moved win diff := by
  obtain ⟨hwords, hslipped, hslips⟩ := l.atSlot_kept win
  unfold Lane.measure
  dsimp only
  split <;> exact ⟨hwords, hslipped, hslips, rfl, rfl, rfl, rfl⟩

theorem Lane.measure_slot (l : Lane) (win : Nat) (diff : Int) : (l.measure win diff).slot = (l.atSlot win).slot := by
  obtain ⟨-, -, -, -, hsrc, hdst, -⟩ := l.measure_kept win diff
  rw [Lane.slot, Lane.slot, hsrc, hdst]

theorem Lane.measure_aligned {l : Lane} {win : Nat} {diff : Int} (hnear : (l.moved win diff).natAbs ≤ 8 * (l.atSlot win).slot)
    (hslipped : l.slipped = false) : (l.measure win diff).st = .aligned := by
  have hs : (l.atSlot win).slipped = false := (l.atSlot_kept win).2.1.trans hslipped
  unfold Lane.measure
  refine (congrArg Lane.st (if_pos ?_)).trans rfl
  rw [Bool.and_eq_true]
  exact ⟨decide_eq_true hnear, by rw [show ((l.turn win).newSlot win).slipped = false from hs]; rfl⟩

theorem Lane.measure_skewed {l : Lane} {win : Nat} {diff : Int} (hfar : 8 * (l.atSlot win).slot < (l.moved win diff).natAbs) :
    (l.measure win diff).st = .skewed := by
  unfold Lane.measure
  refine (congrArg Lane.st (if_neg fun h => ?_)).trans rfl
  rw [Bool.and_eq_true] at h
  exact Nat.not_lt.2 (of_decide_eq_true h.1) hfar

/-- Difference of the stretches of a lane's two regions. -/
def State.laneDiff (s : State) (r p : RegionNo) : Int := ((s.rgn r).sLast : Int) - (s.rgn p).sLast

/-- A slot that is due: the lane is measured, noted quiet or not, and read. -/
theorem exec_pairSlot {r : RegionNo} {k : Fin 4} {p k' : Nat} {s : State} (hwf : Map.wf {} s.xg.lane = true)
    (hdue : (s.laneAt r k).due = true) (hst : (s.laneAt r k).st = .aligned ∨ (s.laneAt r k).st = .skewed)
    (hlink : s.linkEnd r k = some (p, k')) :
    ∃ u quietNow quiet,
      State.LaneSet r k s u { (s.laneAt r k).measure (s.rgn r).win (s.laneDiff r p) with quietNow := quietNow } ∧
      exec (.pairSlot r k) s = .next (u.slotRead r k ((s.laneAt r k).measure (s.rgn r).win (s.laneDiff r p)) quiet) := by
  have hrun : exec (.pairSlot r k) s = execPairSlot r k () s := rfl
  have hset := (State.LaneSet.refl r k hwf).modLane fun l => l.measure (s.rgn r).win (s.laneDiff r p)
  rw [hrun]
  unfold execPairSlot
  dsimp only
  rw [if_neg (by simp [hdue]), if_neg (by rcases hst with h | h <;> simp [h])]
  simp only [hlink]
  have hself := hset.self
  unfold State.laneDiff at hset hself ⊢
  rw [hself]
  generalize s.modLane r k (fun l => l.measure (s.rgn r).win (((s.rgn r).sLast : Int) - (s.rgn p).sLast)) = v at *
  generalize (s.laneAt r k).measure (s.rgn r).win (((s.rgn r).sLast : Int) - (s.rgn p).sLast) = l at *
  generalize (decide (17 ≤ l.slots) && v.laneQuiet r k) = quiet
  refine ⟨_, _, quiet, hset.modLane fun l => { l with quietNow := if 17 ≤ l.slots then quiet else l.quietNow }, ?_⟩
  unfold State.slotRead
  simp only [apply_ite Host.Outcome.next]

end Sys2Proof.Machine
end

section
/-! A period of the source, the notices that lanes carry, and the obligation on pair lanes (R196-R202). -/
namespace Sys2Proof.Machine
open Sys2Proof.Safety

/-! ### What a slot leaves -/

/-- Within half a slot an ALIGNED lane reads its word. -/
theorem State.slotRead_aligned {s : State} {r : RegionNo} {k : Nat} {l : Lane} {quiet : Bool} (hnear : l.delta.natAbs ≤ 8 * l.slot)
    (hst : l.st = .aligned) : s.slotRead r k l quiet = s.modLane r k Lane.take := by
  unfold State.slotRead
  rw [if_neg (by omega), if_neg (by omega), if_neg (by simp [hst]), if_neg (by simp [hst])]

theorem State.slotRead_below {s : State} {r : RegionNo} {k : Nat} {l : Lane} {quiet : Bool} (h : l.delta < -(24 * (l.slot : Int))) :
    s.slotRead r k l quiet = (s.modLane r k Lane.skip).slip r k true := if_pos h

theorem State.slotRead_above {s : State} {r : RegionNo} {k : Nat} {l : Lane} {quiet : Bool} (h : 24 * (l.slot : Int) < l.delta) :
    s.slotRead r k l quiet = s.modLane r k fun l => { l.take with stall := true } := by
  unfold State.slotRead
  rw [if_neg (by omega), if_pos h]

/-- A slot that is due (R196, R198, R200). -/
theorem pairSlot_spec {r : RegionNo} {k : Fin 4} {p k' : Nat} {s : State} (hwf : Map.wf {} s.xg.lane = true)
    (hdue : (s.laneAt r k).due = true) (hst : (s.laneAt r k).st = .aligned ∨ (s.laneAt r k).st = .skewed)
    (hlink : s.linkEnd r k = some (p, k')) :
    let l := s.laneAt r k
    let m := l.atSlot (s.rgn r).win
    let d := l.moved (s.rgn r).win (s.laneDiff r p)
    ∃ t, exec (.pairSlot r k) s = .next t ∧ (t.laneAt r k).slots = m.slots + 1 ∧ (t.laneAt r k).tSrc = m.tSrc ∧
      (t.laneAt r k).tDst = m.tDst ∧ (t.laneAt r k).due = false ∧
      (d.natAbs ≤ 8 * m.slot → l.slipped = false →
        (t.laneAt r k).st = .aligned ∧ (t.laneAt r k).delta = d ∧ (t.laneAt r k).words = l.words.tail ∧
        (t.laneAt r k).shown = (l.words.head?).join ∧ t.xg.slips = s.xg.slips ∧ Only [.xg] s t) ∧
      (d < -(24 * (m.slot : Int)) → (t.laneAt r k).st = .skewed ∧ (t.laneAt r k).delta = d + 16 * m.slot ∧
        (t.laneAt r k).slips = min 255 (l.slips + 1) ∧ (t.laneAt r k).slipped = true ∧ (t.laneAt r k).words = l.words ∧
        (t.laneAt r k).shown = none ∧ t.xg.slips = s.xg.slips + 1) ∧
      (24 * (m.slot : Int) < d → (t.laneAt r k).st = .skewed ∧ (t.laneAt r k).delta = d ∧ (t.laneAt r k).stall = true ∧
        (t.laneAt r k).slips = l.slips ∧ (t.laneAt r k).words = l.words.tail ∧ t.xg.slips = s.xg.slips ∧ Only [.xg] s t) ∧
      (∀ r' j, 4 * r' + j ≠ 4 * r + k.val → t.laneAt r' j = s.laneAt r' j) ∧ Only [.xg, .ev] s t := by
  obtain ⟨u, quietNow, quiet, hset, hrun⟩ := exec_pairSlot hwf hdue hst hlink
  obtain ⟨hwords, hslipped, hslips, hslots, hsrc, hdst, hdelta⟩ := (s.laneAt r k).measure_kept (s.rgn r).win (s.laneDiff r p)
  have hslot := (s.laneAt r k).measure_slot (s.rgn r).win (s.laneDiff r p)
  have hkept := State.slotRead_kept r k ((s.laneAt r k).measure (s.rgn r).win (s.laneDiff r p)) quiet hset.wf
  obtain ⟨⟨hslots', hsrc', hdst', hdue'⟩, hothers, honly⟩ := hkept
  rw [hset.self] at hslots' hsrc' hdst'
  refine ⟨_, hrun, hslots'.trans hslots, hsrc'.trans hsrc, hdst'.trans hdst, hdue', fun hnear hslid => ?_, fun hlow => ?_, fun hhigh => ?_,
    fun r' j hne => (hothers r' j hne).trans (hset.others r' j hne), (hset.only.mono (by simp)).trans honly⟩
  · have haligned := Lane.measure_aligned hnear hslid
    rw [State.slotRead_aligned (by rw [hdelta, hslot]; exact hnear) haligned]
    have htake := hset.modLane Lane.take
    rw [htake.self]
    exact ⟨haligned, hdelta, congrArg List.tail hwords, congrArg (fun x => (List.head? x).join) hwords, htake.slips, htake.only⟩
  · have hskewed := Lane.measure_skewed (l := s.laneAt r k) (win := (s.rgn r).win) (diff := s.laneDiff r p) (by omega)
    rw [State.slotRead_below (by rw [hdelta, hslot]; exact hlow)]
    obtain ⟨-, ⟨told, hself⟩, hcount⟩ := State.skip_slip_spec r k hset.wf
    rw [hset.self] at hself
    rw [hself]
    refine ⟨rfl, ?_, congrArg (fun n => min 255 (n + 1)) hslips, rfl, hwords, rfl, hcount.trans (congrArg (· + 1) hset.slips)⟩
    exact (congrArg₂ (fun (x : Int) (n : Nat) => x + 16 * n) hdelta hslot :)
  · have hskewed := Lane.measure_skewed (l := s.laneAt r k) (win := (s.rgn r).win) (diff := s.laneDiff r p) (by omega)
    rw [State.slotRead_above (by rw [hdelta, hslot]; exact hhigh)]
    have hset' := hset.modLane fun l => { l.take with stall := true }
    rw [hset'.self]
    exact ⟨hskewed, hdelta, rfl, hslips, congrArg List.tail hwords, hset'.slips, hset'.only⟩

/-! ### REALIGN_WIN_EXPIRY and the steps of a realignment (R201) -/

theorem realignWinExpiry_spec {r : RegionNo} {k : Fin 4} {s : State} (hwf : Map.wf {} s.xg.lane = true)
    (hst : ((s.laneAt r k).turn (s.rgn r).win).st = .skewed)
    (hquiet : fld s.xg.ctrl.eff 7 4 ≤ ((s.laneAt r k).turn (s.rgn r).win).quiet) :
    ∃ t, exec (.realignWinExpiry r k) s = .next t ∧
      State.LaneSet r k s t { (s.laneAt r k).turn (s.rgn r).win with forceRealign := true } := by
  have hrun : exec (.realignWinExpiry r k) s = execRealignWinExpiry r k s := rfl
  have hset := (State.LaneSet.refl r k hwf).modLane fun l => l.turn (s.rgn r).win
  rw [hrun]
  unfold execRealignWinExpiry
  dsimp only
  rw [hset.self, if_pos ⟨hst, hquiet⟩]
  exact ⟨_, rfl, hset.modLane fun l => { l with forceRealign := true }⟩

/-- The lane after the one step of a realignment that its deviation calls for. -/
def Lane.stepped (l : Lane) : Lane := if l.near then l.align else { l with step := true }

theorem Lane.stepped_kept (l : Lane) : l.stepped.delta = l.delta ∧ l.stepped.words = l.words ∧ l.stepped.shown = l.shown := by
  unfold Lane.stepped
  split <;> exact ⟨rfl, rfl, rfl⟩

theorem Lane.stepped_of_near {l : Lane} (h : l.delta.natAbs ≤ 8 * l.slot) : l.stepped.st = .aligned ∧ l.stepped.slipped = false := by
  have hnear : l.near = true := decide_eq_true h
  rw [Lane.stepped, if_pos hnear]
  exact ⟨rfl, rfl⟩

/-- The word read, or not, at a step of a realignment, and the deviation after it. -/
def Lane.nudged (l : Lane) : Lane :=
  if l.near then l.take
  else if l.delta < 0 then { l.skip with delta := l.delta + 16 * l.slot }
  else if l.words.contains none then { ({ l with words := l.words.erase none } : Lane).take with delta := l.delta - 16 * l.slot }
  else l.take

theorem Lane.realign_eq (l : Lane) : l.realign = l.nudged.stepped := rfl

theorem Lane.not_near_of_far {l : Lane} (hfar : 8 * l.slot < l.delta.natAbs) : ¬ l.near = true := by
  rw [Lane.near, decide_eq_true_eq]
  exact Nat.not_le.2 hfar

theorem Lane.realign_of_neg {l : Lane} (hfar : 8 * l.slot < l.delta.natAbs) (hneg : l.delta < 0) :
    l.realign = ({ l.skip with delta := l.delta + 16 * l.slot } : Lane).stepped := by
  rw [Lane.realign_eq, Lane.nudged, if_neg (Lane.not_near_of_far hfar), if_pos hneg]

theorem Lane.realign_of_idle {l : Lane} (hfar : 8 * l.slot < l.delta.natAbs) (hpos : 0 ≤ l.delta) (hidle : none ∈ l.words) :
    l.realign = ({ ({ l with words := l.words.erase none } : Lane).take with delta := l.delta - 16 * l.slot } : Lane).stepped := by
  rw [Lane.realign_eq, Lane.nudged, if_neg (Lane.not_near_of_far hfar), if_neg (Int.not_lt.2 hpos), if_pos (by simpa using hidle)]

theorem Lane.realign_of_full {l : Lane} (hfar : 8 * l.slot < l.delta.natAbs) (hpos : 0 ≤ l.delta) (hfull : none ∉ l.words) :
    l.realign = l.take.stepped := by
  rw [Lane.realign_eq, Lane.nudged, if_neg (Lane.not_near_of_far hfar), if_neg (Int.not_lt.2 hpos), if_neg (by simpa using hfull)]

/-- One step of a realignment (R201). -/
theorem Lane.realign_spec {l : Lane} (hfar : 8 * l.slot < l.delta.natAbs) :
    (l.delta < 0 → l.realign.delta = l.delta + 16 * l.slot ∧ l.realign.words = l.words ∧ l.realign.shown = none) ∧
    (0 ≤ l.delta → none ∈ l.words → l.realign.delta = l.delta - 16 * l.slot ∧ l.realign.words = (l.words.erase none).tail) ∧
    (l.realign.delta.natAbs ≤ 8 * l.slot → l.realign.st = .aligned ∧ l.realign.slipped = false) := by
  refine ⟨fun hneg => ?_, fun hpos hidle => ?_, fun hnear => ?_⟩
  · rw [Lane.realign_of_neg hfar hneg]
    exact Lane.stepped_kept _
  · rw [Lane.realign_of_idle hfar hpos hidle]
    obtain ⟨hdelta, hwords, -⟩ := Lane.stepped_kept
      ({ ({ l with words := l.words.erase none } : Lane).take with delta := l.delta - 16 * l.slot } : Lane)
    exact ⟨hdelta, hwords⟩
  · rcases lt_or_ge l.delta 0 with hneg | hpos
    · rw [Lane.realign_of_neg hfar hneg] at hnear ⊢
      rw [(Lane.stepped_kept _).1] at hnear
      exact Lane.stepped_of_near hnear
    · rcases Decidable.em (none ∈ l.words) with hidle | hfull
      · rw [Lane.realign_of_idle hfar hpos hidle] at hnear ⊢
        rw [(Lane.stepped_kept _).1] at hnear
        exact Lane.stepped_of_near hnear
      · rw [Lane.realign_of_full hfar hpos hfull, (Lane.stepped_kept _).1] at hnear
        exact absurd hnear (Nat.not_le.2 hfar)

end Sys2Proof.Machine
end

section
/-! A period of the source, the notices that lanes carry, and the obligation on pair lanes (R195-R197, R200, R202). -/
namespace Sys2Proof.Machine
open Sys2Proof.Safety

/-! ### A period of the source (R196, R200) -/

theorem Lane.noteTurn_kept (l : Lane) : l.noteTurn.words = l.words ∧ l.noteTurn.stall = l.stall ∧ l.noteTurn.st = l.st ∧
    l.noteTurn.fSrc = l.fSrc ∧ l.noteTurn.delta = l.delta ∧ l.noteTurn.slips = l.slips ∧ l.noteTurn.slot = l.slot := by
  unfold Lane.noteTurn
  dsimp only
  split <;> exact ⟨rfl, rfl, rfl, rfl, rfl, rfl, rfl⟩

/-- READY and the frame of a lane at a slot of its source. -/
def Lane.sourced (l : Lane) (tg : Nat) : Lane := { l with ready := !l.stall && decide (l.words.length < 4), fSrc := l.fSrc + tg }

/-- The state in which the source's slot finds its lane: its own end of the link has taken what targets are due. -/
def State.sourceSlot (s : State) (r : RegionNo) (k p k' : Nat) : State :=
  let t := s.modLane p k' Lane.noteTurn
  let u := if (t.laneAt r k).st.counts then t.modLane r k fun l => l.newSlot (t.rgn r).win else t
  u.modLane p k' fun l => l.sourced (t.rgn r).tg

theorem State.laneSource_eq {s : State} {r : RegionNo} {k p k' : Nat} {x : Option Nat} (hwf : Map.wf {} s.xg.lane = true)
    (hlink : s.linkEnd r k = some (p, k')) (hne : laneKey r k ≠ laneKey p k') (hcounts : (s.laneAt p k').st.counts = true)
    (hpass : Machine.passes (s.laneAt p k').fSrc (s.rgn r).tg (s.laneSlot r k (s.laneAt p k')) = true) :
    s.laneSource r k x =
      if (s.laneAt p k').stall then ((s.sourceSlot r k p k').modLane p k' fun l => { l with stall := false }).slip p k' false
      else if (s.laneAt p k').words.length < 4 then (s.sourceSlot r k p k').modLane p k' fun l => { l with words := l.words ++ [x] }
      else s.sourceSlot r k p k' := by
  obtain ⟨hwords, hstall, hst, hfsrc, -, -, hslot⟩ := (s.laneAt p k').noteTurn_kept
  have hset := (State.LaneSet.refl p k' hwf).modLane Lane.noteTurn
  have hown : (s.modLane p k' Lane.noteTurn).laneSlot r k (s.laneAt p k').noteTurn = s.laneSlot r k (s.laneAt p k') := by
    rw [State.laneSlot, State.laneSlot, hset.others r k hne, hslot]
  unfold State.laneSource State.sourceSlot
  simp only [hlink]
  rw [hset.self, hset.rgn, hown, hst, hfsrc, hcounts, hpass]
  rw [if_neg (by simp), if_neg (by simp), hwords, hstall]
  rfl

/-- The lane as the source's slot has it. -/
theorem State.sourceSlot_spec {s : State} {r : RegionNo} {k p k' : Nat} (hwf : Map.wf {} s.xg.lane = true)
    (hne : laneKey r k ≠ laneKey p k') :
    (s.sourceSlot r k p k').laneAt p k' = (s.laneAt p k').noteTurn.sourced (s.rgn r).tg ∧
      Map.wf {} (s.sourceSlot r k p k').xg.lane = true ∧ (s.sourceSlot r k p k').xg.slips = s.xg.slips := by
  have hset := (State.LaneSet.refl p k' hwf).modLane Lane.noteTurn
  have hsame := hset.rgn r
  have hslips := hset.slips
  unfold State.sourceSlot
  dsimp only
  rw [hsame]
  generalize s.modLane p k' Lane.noteTurn = t at *
  have hturn : ∃ u, u = (if (t.laneAt r k).st.counts then t.modLane r k fun l => l.newSlot (s.rgn r).win else t) ∧
      u.laneAt p k' = (s.laneAt p k').noteTurn ∧ Map.wf {} u.xg.lane = true ∧ u.xg.slips = s.xg.slips := by
    refine ⟨_, rfl, ?_⟩
    split
    · exact ⟨(State.laneAt_modLane_ne t _ (Ne.symm hne)).trans hset.self, State.modLane_wf _ _ _ _ hset.wf, hslips⟩
    · exact ⟨hset.self, hset.wf, hslips⟩
  obtain ⟨u, hu, hlane, huwf, huslips⟩ := hturn
  rw [← hu]
  exact ⟨by rw [State.laneAt_modLane _ _ _ _ huwf, hlane], State.modLane_wf _ _ _ _ huwf, huslips⟩

/-- A slot of the source: the word is written, or the source is held by a slip. -/
theorem State.laneSource_spec {s : State} {r : RegionNo} {k p k' : Nat} {x : Option Nat} (hwf : Map.wf {} s.xg.lane = true)
    (hlink : s.linkEnd r k = some (p, k')) (hne : laneKey r k ≠ laneKey p k') (hcounts : (s.laneAt p k').st.counts = true)
    (hpass : Machine.passes (s.laneAt p k').fSrc (s.rgn r).tg (s.laneSlot r k (s.laneAt p k')) = true) :
    let l := s.laneAt p k'
    let t := s.laneSource r k x
    (l.stall = false → l.words.length < 4 → (t.laneAt p k').words = l.words ++ [x] ∧ (t.laneAt p k').ready = true ∧
      (t.laneAt p k').fSrc = l.fSrc + (s.rgn r).tg) ∧
    (l.stall = true → (t.laneAt p k').words = l.words ∧ (t.laneAt p k').ready = false ∧ (t.laneAt p k').delta = l.delta - 16 * l.slot ∧
      (t.laneAt p k').st = .skewed ∧ (t.laneAt p k').slips = min 255 (l.slips + 1) ∧ t.xg.slips = s.xg.slips + 1) := by
  obtain ⟨hwords, hstall, hst, hfsrc, hdelta, hslips, hslot⟩ := (s.laneAt p k').noteTurn_kept
  obtain ⟨hself, hwf', hcount⟩ := State.sourceSlot_spec hwf hne
  have heq := State.laneSource_eq (x := x) hwf hlink hne hcounts hpass
  dsimp only
  rw [heq]
  clear heq
  generalize s.sourceSlot r k p k' = u at *
  refine ⟨fun hfree hroom => ?_, fun hheld => ?_⟩
  · rw [hfree, if_neg Bool.false_ne_true, if_pos hroom, State.laneAt_modLane _ _ _ _ hwf', hself]
    refine ⟨congrArg (· ++ [x]) hwords, ?_, congrArg (· + (s.rgn r).tg) hfsrc⟩
    have hready : (!(s.laneAt p k').noteTurn.stall && decide ((s.laneAt p k').noteTurn.words.length < 4)) = true := by
      rw [hstall, hwords, hfree]
      exact decide_eq_true hroom
    exact hready
  · rw [hheld, if_pos rfl]
    have hset := (State.LaneSet.refl p k' hwf').modLane fun l => { l with stall := false }
    obtain ⟨⟨told, hslid⟩, -, hslips', -⟩ := State.slip_spec p k' false hset.wf
    rw [hset.self, hself] at hslid
    rw [hslid]
    have hready : (!(s.laneAt p k').noteTurn.stall && decide ((s.laneAt p k').noteTurn.words.length < 4)) = false := by
      rw [hstall, hheld]
      rfl
    exact ⟨hwords, hready, (congrArg₂ (fun (x : Int) (n : Nat) => x - 16 * n) hdelta hslot :), rfl,
      congrArg (fun n => min 255 (n + 1)) hslips, hslips'.trans (congrArg (· + 1) (hset.slips.trans hcount))⟩

/-! ### Notices (R197, R202) -/

/-- A lane that has taken the first of its notices; the second set is free for the next one. -/
def Lane.noted (l : Lane) (ns : List Note) : Lane :=
  if ns.isEmpty then { l with notes := l.noteWait.take 1, noteWait := l.noteWait.drop 1 } else { l with notes := ns }

theorem State.takeNote_eq {s : State} {r : RegionNo} {k : Nat} {n : Note} {ns : List Note} (h : (s.laneAt r k).notes = n :: ns) :
    s.takeNote r k = some (n, s.modLane r k fun l => l.noted ns) := by
  unfold State.takeNote
  rw [h]
  rfl

theorem Lane.noted_notes (l : Lane) (ns : List Note) : (l.noted ns).notes = if ns.isEmpty then l.noteWait.take 1 else ns := by
  unfold Lane.noted
  split <;> rfl

theorem Lane.noted_kept (l : Lane) (ns : List Note) : (l.noted ns).st = l.st ∧ (l.noted ns).words = l.words ∧
    (l.noted ns).leaving = l.leaving := by
  unfold Lane.noted
  split <;> exact ⟨rfl, rfl, rfl⟩

/-- TARGET_NOTICE (R197). -/
theorem targetNotice_spec {r : RegionNo} {k : Fin 4} {a w : Nat} {ns : List Note} {s : State} (hwf : Map.wf {} s.xg.lane = true)
    (h : (s.laneAt r k).notes = .target a w :: ns) :
    ∃ t, exec (.targetNotice r k) s = .next t ∧ State.LaneSet r k s t { (s.laneAt r k).noted ns with tNext := some (a, w) } := by
  have hrun : exec (.targetNotice r k) s = execTargetNotice r k s := rfl
  rw [hrun]
  unfold execTargetNotice
  rw [State.takeNote_eq h]
  exact ⟨_, rfl, ((State.LaneSet.refl r k hwf).modLane fun l => l.noted ns).modLane fun l => { l with tNext := some (a, w) }⟩

/-- A notice that changes both lanes of a link, each by its own rule. -/
def State.bothEnds (s : State) (r : RegionNo) (k : Nat) (f g : Lane → Lane) : State :=
  match (s.modLane r k f).linkEnd r k with
  | some (p, k') => (s.modLane r k f).modLane p k' g
  | none => s.modLane r k f

/-- What both ends read, where they are two lanes and where they are one. -/
theorem State.bothEnds_spec {s : State} (r : RegionNo) (k : Nat) (f g : Lane → Lane) (hwf : Map.wf {} s.xg.lane = true) :
    (s.bothEnds r k f g).laneAt r k = f (s.laneAt r k) ∨ (s.bothEnds r k f g).laneAt r k = g (f (s.laneAt r k)) ∧
      ∃ p k', s.linkEnd r k = some (p, k') ∧ laneKey p k' = laneKey r k := by
  have hset := (State.LaneSet.refl r k hwf).modLane f
  unfold State.bothEnds
  rw [hset.linkEnd]
  cases hlink : s.linkEnd r k with
  | none => exact .inl hset.self
  | some e =>
    obtain ⟨p, k'⟩ := e
    dsimp only
    rcases Decidable.em (laneKey p k' = laneKey r k) with he | hne
    · refine .inr ⟨?_, p, k', rfl, he⟩
      have hsame (t : State) : t.laneAt p k' = t.laneAt r k := by rw [State.laneAt, he, ← State.laneAt]
      rw [← hsame, State.laneAt_modLane _ _ _ _ hset.wf, hsame, hset.self]
    · exact .inl ((State.laneAt_modLane_ne _ _ (Ne.symm hne)).trans hset.self)

theorem State.bothEnds_far {s : State} {r : RegionNo} {k p k' : Nat} (f g : Lane → Lane) (hwf : Map.wf {} s.xg.lane = true)
    (hlink : s.linkEnd r k = some (p, k')) (hne : laneKey p k' ≠ laneKey r k) :
    (s.bothEnds r k f g).laneAt p k' = g (s.laneAt p k') := by
  have hset := (State.LaneSet.refl r k hwf).modLane f
  unfold State.bothEnds
  rw [hset.linkEnd, hlink]
  dsimp only
  rw [State.laneAt_modLane _ _ _ _ hset.wf, hset.others p k' hne]

theorem State.bothEnds_only (s : State) (r : RegionNo) (k : Nat) (f g : Lane → Lane) : Only [.xg] s (s.bothEnds r k f g) := by
  unfold State.bothEnds
  split
  · exact (Keeps.modLane_keeps (List.Subset.refl _) (.modLane_keeps (List.Subset.refl _) (.refl s) _ _ _) _ _ _).only
  · exact (Keeps.modLane_keeps (List.Subset.refl _) (.refl s) _ _ _).only

theorem Lane.pause_of_up {l : Lane} (h : l.st.up = true) :
    l.pause = { l with st := .paused, ready := false, stall := false, step := false } := if_pos h

theorem Lane.pause_notes (l : Lane) : l.pause.notes = l.notes := by
  unfold Lane.pause
  split <;> rfl

/-- A lane that is up, paused and paused again. -/
theorem Lane.pause_spec {l : Lane} (h : l.st.up = true) : l.pause.st = .paused ∧ l.pause.ready = false ∧ l.pause.words = l.words := by
  rw [Lane.pause_of_up h]
  exact ⟨rfl, rfl, rfl⟩

theorem Lane.pause_pause_spec {l : Lane} (h : l.st.up = true) :
    l.pause.pause.st = .paused ∧ l.pause.pause.ready = false ∧ l.pause.pause.words = l.words := by
  rw [Lane.pause_of_up h]
  exact ⟨rfl, rfl, rfl⟩

/-- STOP_NOTICE (R202). -/
theorem stopNotice_spec {r : RegionNo} {k : Fin 4} {ns : List Note} {s : State} (hwf : Map.wf {} s.xg.lane = true)
    (h : (s.laneAt r k).notes = .stop :: ns) :
    ∃ t, exec (.stopNotice r k) s = .next t ∧ (t.laneAt r k).notes = (if ns.isEmpty then (s.laneAt r k).noteWait.take 1 else ns) ∧
      ((s.laneAt r k).st.up = true → (t.laneAt r k).st = .paused ∧ (t.laneAt r k).ready = false ∧
        (t.laneAt r k).words = (s.laneAt r k).words) ∧
      (∀ p k', s.linkEnd r k = some (p, k') → (s.laneAt p k').st.up = true →
        (t.laneAt p k').st = .paused ∧ (t.laneAt p k').ready = false ∧ (t.laneAt p k').words = (s.laneAt p k').words) ∧ Only [.xg] s t := by
  have hrun : exec (.stopNotice r k) s = execStopNotice r k s := rfl
  have hset := (State.LaneSet.refl r k hwf).modLane fun l => l.noted ns
  obtain ⟨hst, hwords, -⟩ := (s.laneAt r k).noted_kept ns
  have hnotes := (s.laneAt r k).noted_notes ns
  refine ⟨(s.modLane r k fun l => l.noted ns).bothEnds r k Lane.pause Lane.pause, ?_, ?_⟩
  · rw [hrun]
    unfold execStopNotice
    rw [State.takeNote_eq h]
    unfold State.bothEnds
    dsimp only
    generalize ((s.modLane r k fun l => l.noted ns).modLane r k Lane.pause).linkEnd r k = e
    cases e <;> rfl
  generalize (s.modLane r k fun l => l.noted ns) = u at *
  have hends := State.bothEnds_spec r k Lane.pause Lane.pause hset.wf
  have honly := hset.only.trans (u.bothEnds_only r k Lane.pause Lane.pause)
  have hfar (p k' : Nat) (hlink : u.linkEnd r k = some (p, k')) (hne : laneKey p k' ≠ laneKey r k) :=
    State.bothEnds_far Lane.pause Lane.pause hset.wf hlink hne
  generalize u.bothEnds r k Lane.pause Lane.pause = t at *
  rw [hset.self] at hends
  have hself (hup : (s.laneAt r k).st.up = true) : (t.laneAt r k).st = .paused ∧ (t.laneAt r k).ready = false ∧
      (t.laneAt r k).words = (s.laneAt r k).words := by
    have hup' : ((s.laneAt r k).noted ns).st.up = true := by rw [hst]; exact hup
    rcases hends with he | ⟨he, -⟩ <;> rw [he, ← hwords]
    · exact Lane.pause_spec hup'
    · exact Lane.pause_pause_spec hup'
  refine ⟨?_, hself, fun p k' hlink hup => ?_, honly⟩
  · rcases hends with he | ⟨he, -⟩ <;> rw [he]
    · rw [Lane.pause_notes, hnotes]
    · rw [Lane.pause_notes, Lane.pause_notes, hnotes]
  · rcases Decidable.em (laneKey p k' = laneKey r k) with he | hne
    · have hsame (v : State) : v.laneAt p k' = v.laneAt r k := by rw [State.laneAt, he, ← State.laneAt]
      rw [hsame] at hup ⊢
      rw [hsame]
      exact hself hup
    · rw [hfar p k' ((hset.linkEnd r k).trans hlink) hne, hset.others p k' hne]
      exact Lane.pause_spec hup

theorem Lane.restart_notes (l : Lane) (src : Bool) (a : Nat) : (l.restart src a).notes = l.notes := by
  unfold Lane.restart
  split
  · cases src <;> rfl
  · rfl

/-- A lane that restarts (R202, log 65). -/
theorem Lane.restart_spec {l : Lane} (src : Bool) (a : Nat) (hup : l.st.up = true) (hstays : l.leaving = false) :
    (l.restart src a).words = l.words ++ List.replicate (2 - l.words.length) none ∧ (l.restart src a).st = .aligned ∧
      (l.restart src a).delta = 0 ∧ (l.restart src a).fSrc = 0 ∧ (l.restart src a).fDst = 0 ∧
      (src = true → (l.restart src a).tSrc = a) ∧ (src = false → (l.restart src a).tDst = a) := by
  unfold Lane.restart
  rw [if_pos ⟨hup, by rw [hstays]; rfl⟩]
  cases src
  · exact ⟨rfl, rfl, rfl, rfl, rfl, nofun, fun _ => rfl⟩
  · exact ⟨rfl, rfl, rfl, rfl, rfl, fun _ => rfl, nofun⟩

/-- RESTART_NOTICE (R202). -/
theorem restartNotice_spec {r : RegionNo} {k : Fin 4} {a : Nat} {x : Bool} {ns : List Note} {s : State}
    (hwf : Map.wf {} s.xg.lane = true) (h : (s.laneAt r k).notes = .restart a x :: ns) :
    ∃ t, exec (.restartNotice r k) s = .next t ∧ (t.laneAt r k).notes = (if ns.isEmpty then (s.laneAt r k).noteWait.take 1 else ns) ∧
      (∀ p k', s.linkEnd r k = some (p, k') → laneKey p k' ≠ laneKey r k →
        t.laneAt r k = ((s.laneAt r k).noted ns).restart true a ∧ t.laneAt p k' = (s.laneAt p k').restart false a) ∧ Only [.xg] s t := by
  have hrun : exec (.restartNotice r k) s = execRestartNotice r k s := rfl
  have hset := (State.LaneSet.refl r k hwf).modLane fun l => l.noted ns
  have hnotes := (s.laneAt r k).noted_notes ns
  refine ⟨(s.modLane r k fun l => l.noted ns).bothEnds r k (·.restart true a) (·.restart false a), ?_, ?_⟩
  · rw [hrun]
    unfold execRestartNotice
    rw [State.takeNote_eq h]
    unfold State.bothEnds
    dsimp only
    generalize ((s.modLane r k fun l => l.noted ns).modLane r k fun l => l.restart true a).linkEnd r k = e
    cases e <;> rfl
  generalize (s.modLane r k fun l => l.noted ns) = u at *
  have hends := State.bothEnds_spec r k (·.restart true a) (·.restart false a) hset.wf
  have honly := hset.only.trans (u.bothEnds_only r k (·.restart true a) (·.restart false a))
  have hfar (p k' : Nat) (hlink : u.linkEnd r k = some (p, k')) (hne : laneKey p k' ≠ laneKey r k) :=
    State.bothEnds_far (·.restart true a) (·.restart false a) hset.wf hlink hne
  generalize u.bothEnds r k (·.restart true a) (·.restart false a) = t at *
  rw [hset.self] at hends
  refine ⟨?_, fun p k' hlink hne => ⟨?_, ?_⟩, honly⟩
  · rcases hends with he | ⟨he, -⟩ <;> rw [he]
    · rw [Lane.restart_notes, hnotes]
    · rw [Lane.restart_notes, Lane.restart_notes, hnotes]
  · rcases hends with he | ⟨-, p', j, hlink', hkey⟩
    · exact he
    · rw [hset.linkEnd, hlink] at hlink'
      obtain ⟨rfl, rfl⟩ := Prod.mk.inj (Option.some.inj hlink')
      exact absurd hkey hne
  · rw [hfar p k' ((hset.linkEnd r k).trans hlink) hne, hset.others p k' hne]

/-- Settles O56: each row changes one lane, or the two of a link by one rule each, so a slot, a slip or a notice reads off the lane's own
function. -/
theorem lanesSlipRealignAndTakeNotices : Obligations.LanesSlipRealignAndTakeNotices := by
  unfold Obligations.LanesSlipRealignAndTakeNotices
  refine ⟨?_, ?_, ?_, ?_, ?_, ?_, ?_, ?_⟩
  · intro r k p k' s hreg l hdue hst hlink
    exact pairSlot_spec hreg.lanes hdue hst hlink
  · intro r k s hdue
    exact if_pos (by rw [hdue]; rfl)
  · intro r k s hreg l hst hquiet
    obtain ⟨t, hrun, hset⟩ := realignWinExpiry_spec hreg.lanes hst hquiet
    exact ⟨t, hrun, hset.self, fun r' j hne => hset.others r' j hne, hset.only⟩
  · intro l _ hfar
    exact Lane.realign_spec hfar
  · intro r k p k' x s hreg hlink l t hne hcounts hpass
    exact State.laneSource_spec hreg.lanes hlink (Ne.symm hne) hcounts hpass
  · intro r k a w ns s hreg h w8
    obtain ⟨t, hrun, hset⟩ := targetNotice_spec hreg.lanes h
    refine ⟨t, hrun, hset.self.trans ?_, fun r' j hne => hset.others r' j hne, hset.only⟩
    unfold Lane.noted
    split <;> rfl
  · intro r k ns s hreg h
    exact stopNotice_spec hreg.lanes h
  · intro r k a x ns s hreg h
    obtain ⟨t, hrun, hnotes, hends, honly⟩ := restartNotice_spec hreg.lanes h
    refine ⟨t, hrun, hnotes, fun p k' hlink hne => ?_, honly⟩
    obtain ⟨hself, hfar⟩ := hends p k' hlink hne
    obtain ⟨hst, hwords, hleaving⟩ := (s.laneAt r k).noted_kept ns
    rw [hself, hfar]
    refine ⟨fun hup hstays => ?_, fun hup hstays => ?_⟩
    · obtain ⟨hw, haligned, hdelta, hsrc, hdst, htarget, -⟩ :=
        Lane.restart_spec true a (by rw [hst]; exact hup) (by rw [hleaving]; exact hstays)
      rw [hwords] at hw
      refine ⟨hw ▸ List.prefix_append _ _, ?_, haligned, hdelta, htarget rfl, hsrc, hdst⟩
      rw [hw, List.length_append, List.length_replicate]
      omega
    · obtain ⟨-, haligned, hdelta, hsrc, hdst, -, htarget⟩ := Lane.restart_spec false a hup hstays
      exact ⟨haligned, hdelta, htarget rfl, hsrc, hdst⟩

end Sys2Proof.Machine
end

section
/-! SUPPORT. What a fence, a halt and a joint reset leave of a crossing and of the counts beside it (Table 7-4, Table 7-9). -/
namespace Sys2Proof.Machine
open Sys2Proof.Safety

/-! ### The counts beside the crossings -/

/-- MB_XING_STALL_CNT stands. -/
theorem State.dropWaiting_stalls (s : State) (id : Nat) : (s.dropWaiting id).xg.stalls = s.xg.stalls := by
  unfold State.dropWaiting
  dsimp only
  split
  · rfl
  · split
    · rfl
    · split
      · rfl
      · split <;> rfl

theorem State.holdWords_stalls (s : State) (id : Nat) : (s.holdWords id).xg.stalls = s.xg.stalls := by
  unfold State.holdWords
  split
  · rfl
  · split <;> rfl

theorem State.xHalt_stalls (s : State) (id : Nat) : (s.xHalt id).xg.stalls = s.xg.stalls := by
  have first : (if (s.xing id).wait.isSome then s.modXing id fun x => { x with wait := none } else s.holdWords id).xg.stalls =
      s.xg.stalls := by
    split
    · rfl
    · exact s.holdWords_stalls id
  unfold State.xHalt
  dsimp only
  split
  · exact (State.dropWaiting_stalls _ id).trans first
  · exact (State.dropWaiting_stalls _ id).trans first

/-! ### A fence -/

/-- A crossing that is fenced where it was not (Table 7-4). -/
theorem State.fence_of_ne_lane {s : State} {id : Nat} (hclass : xClass id ≠ 9) (hst : (s.xing id).st ≠ .fenced) :
    s.fence id = ((if (s.xing id).st = .torn then s else s.xHalt id).modXing id fun x => { x with
      st := .fenced, stale := decide (xStruct id = .held), lost := decide (xStruct id = .count)
      heldAt := if x.st = .torn then x.heldAt else (if (s.xing id).st = .torn then s else s.xHalt id).now }).xLast id := by
  rw [State.fence, if_neg hclass, if_neg hst]

/-- A working crossing that is fenced: its epochs stay, and it is STALE or has LOST_EVENTS by its structure. -/
theorem State.fence_spec {s : State} {id : Nat} (hclass : xClass id ≠ 9) (hst : (s.xing id).st ≠ .fenced) (hwf : Map.wf {} s.xg.x = true) :
    ((s.fence id).xing id).st = .fenced ∧ ((s.fence id).xing id).stale = decide (xStruct id = .held) ∧
      ((s.fence id).xing id).lost = decide (xStruct id = .count) ∧ ((s.fence id).xing id).e1 = (s.xing id).e1 ∧
      ((s.fence id).xing id).e2 = (s.xing id).e2 := by
  have hkept : State.XingKept id s (if (s.xing id).st = .torn then s else s.xHalt id) := by
    split
    · exact .of_eq rfl hwf
    · exact s.xHalt_kept id hwf
  rw [State.fence_of_ne_lane hclass hst]
  generalize (if (s.xing id).st = .torn then s else s.xHalt id) = u at *
  rw [State.xing_xLast, u.xing_modXing id _ hkept.wf, hkept.same]
  exact ⟨rfl, rfl, rfl, rfl, rfl⟩

/-- What is noted with a fence of a crossing that is no lane. -/
theorem State.fence_noted {s : State} {id : Nat} (hclass : xClass id ≠ 9) (hst : (s.xing id).st ≠ .fenced) :
    (s.fence id).xg.stalls = s.xg.stalls ∧ (s.fence id).xg.lastId = word id ∧ (s.fence id).xg.lastErg = word s.now := by
  have hhalt : (if (s.xing id).st = .torn then s else s.xHalt id).xg.stalls = s.xg.stalls := by
    split
    · rfl
    · exact s.xHalt_stalls id
  have hnow : (if (s.xing id).st = .torn then s else s.xHalt id).now = s.now := by
    split
    · rfl
    · exact congrArg Sys.erg ((Keeps.xHalt_keeps (List.Subset.refl _) (Keeps.refl s) id).only.same .sys (by decide))
  rw [State.fence_of_ne_lane hclass hst]
  generalize (if (s.xing id).st = .torn then s else s.xHalt id) = u at *
  exact ⟨hhalt, rfl, congrArg word hnow⟩

/-- A lane that is fenced where it was not. -/
theorem State.fence_of_lane {s : State} {id : Nat} (hclass : xClass id = 9)
    (hst : (s.laneAt (xInst id) (xLink id)).st ≠ .off ∧ (s.laneAt (xInst id) (xLink id)).st ≠ .fenced) :
    s.fence id = ((s.modLane (xInst id) (xLink id) fun l => { l.clear with st := .fenced }).xDrop
      (s.laneAt (xInst id) (xLink id)).words.length).xLast id := by
  rw [State.fence, if_pos hclass]
  exact if_neg (not_or.2 hst)

theorem Region.abandon_tx (g : Region) : g.abandon.tx = none := by
  unfold Region.abandon
  dsimp only
  split
  · rfl
  · rfl
  case h_3 h => exact h

/-- The region side of a fenced engine-to-region crossing has given its transfer up. -/
theorem State.fence_tx {s : State} {id : Nat} (hclass : xClass id = 4) (hst : (s.xing id).st = .whole) (hreg : Regular s) :
    ((s.fence id).rgn (xInst id)).tx = none := by
  have hne : xClass id ≠ 9 := by rw [hclass]; decide
  have hstopped : Regular ((if (s.xing id).wait.isSome then s.modXing id fun x => { x with wait := none } else s.holdWords id).dropWaiting
      id) := by
    refine (Keeps.dropWaiting_keeps (gs := [.reg, .ls, .xg]) (by simp) (.ite (.modXing_keeps (by simp) (.refl s) _ _)
      (.holdWords_keeps (by simp) (.refl s) _)) id).regular hreg
  rw [State.fence_of_ne_lane hne (by rw [hst]; nofun), if_neg (by rw [hst]; nofun)]
  refine (congrArg Region.tx (State.rgn_congr (t := _) (s := s.xHalt id) rfl (xInst id))).trans ?_
  rw [State.xHalt, if_pos hclass, State.rgn_modRgn _ _ _ hstopped.regions]
  exact Region.abandon_tx _

/-! ### A joint reset -/

theorem State.resetContents_of_lane {s : State} {id : Nat} (hclass : xClass id = 9) :
    s.resetContents id = (s.modLane (xInst id) (xLink id) fun l => { l.clear with e2 := l.e1, tornAt := none }).xDrop
      (s.laneAt (xInst id) (xLink id)).words.length := by
  rw [State.resetContents, if_pos hclass]

theorem State.whole_of_lane {s : State} {id : Nat} (hclass : xClass id = 9) :
    s.whole id = s.modLane (xInst id) (xLink id) fun l => if l.st = .off then l else l.calibrate := by
  rw [State.whole, if_pos hclass]

/-- The joint reset of a lane leaves both its epochs as the first, and the lane CALIBRATING (R203, R213). -/
theorem State.laneAt_joint {s : State} {id : Nat} (hclass : xClass id = 9) (hst : (s.laneAt (xInst id) (xLink id)).st ≠ .off)
    (hwf : Map.wf {} s.xg.lane = true) :
    ((s.resetContents id).whole id).laneAt (xInst id) (xLink id) =
      ({ (s.laneAt (xInst id) (xLink id)).clear with e2 := (s.laneAt (xInst id) (xLink id)).e1, tornAt := none } : Lane).calibrate := by
  have hset := (State.LaneSet.refl (xInst id) (xLink id) hwf).modLane fun l => { l.clear with e2 := l.e1, tornAt := none }
  rw [State.resetContents_of_lane hclass, State.whole_of_lane hclass]
  have hself : ((s.modLane (xInst id) (xLink id) fun l => { l.clear with e2 := l.e1, tornAt := none }).xDrop
      (s.laneAt (xInst id) (xLink id)).words.length).laneAt (xInst id) (xLink id) =
      { (s.laneAt (xInst id) (xLink id)).clear with e2 := (s.laneAt (xInst id) (xLink id)).e1, tornAt := none } := hset.self
  have hwf' : Map.wf {} ((s.modLane (xInst id) (xLink id) fun l => { l.clear with e2 := l.e1, tornAt := none }).xDrop
      (s.laneAt (xInst id) (xLink id)).words.length).xg.lane = true := hset.wf
  rw [State.laneAt_modLane _ _ _ _ hwf', hself]
  exact if_neg hst

/-- The joint reset of one crossing is nothing to another. -/
theorem State.xing_joint_ne {s : State} {id j : Nat} (hj : j ≠ id) (hwf : Map.wf {} s.xg.x = true) : (s.joint id).xing j = s.xing j := by
  have hraise (u : State) : (u.raise evCrossJoint id).xing j = u.xing j :=
    State.xing_congr ((congrArg Xg.x ((Keeps.raise_keeps (List.Subset.refl _) (Keeps.refl u) evCrossJoint id).only.same .xg (by decide)) :)) j
  unfold State.joint
  split
  · rw [hraise]
    rcases Decidable.em (xClass id = 9) with hclass | hclass
    · rw [State.whole_of_lane hclass, State.xing_modLane, State.resetContents_of_lane hclass]
      rfl
    · rw [State.xing_whole_ne _ hclass hj, State.xing_resetContents_ne _ hclass hj]
  · exact State.xing_fence_ne s hwf hj

/-! ### STATE of a crossing (Table 7-9) -/

/-- What a lane's STATE is read as. -/
def LaneState.seen : LaneState → XState
  | .off => .off
  | .paused => .paused
  | .fenced => .fenced
  | .torn => .torn
  | _ => .whole

/-- A crossing that is not read FENCED is read as it stands: nothing of its site fences it. -/
theorem State.xState_own {s : State} {id : Nat} (h : s.xState id ≠ .fenced) :
    (xClass id = 9 → s.xState id = (s.laneAt (xInst id) (xLink id)).st.seen) ∧ (xClass id ≠ 9 → s.xState id = (s.xing id).st) := by
  unfold State.xState at h ⊢
  split at h
  · exact absurd rfl h
  · next hsite =>
    split at h
    · exact absurd rfl h
    · next hfabric =>
      rw [if_neg hsite, if_neg hfabric]
      refine ⟨fun hclass => ?_, fun hclass => if_neg hclass⟩
      rw [if_pos hclass]
      cases (s.laneAt (xInst id) (xLink id)).st <;> rfl

theorem State.xing_st_of_xState {s : State} {id : Nat} {x : XState} (h : s.xState id = x) (hx : x ≠ .fenced) (hclass : xClass id ≠ 9) :
    (s.xing id).st = x := ((State.xState_own (h.symm ▸ hx)).2 hclass).symm.trans h

theorem State.lane_st_of_xState {s : State} {id : Nat} {x : XState} (h : s.xState id = x) (hx : x ≠ .fenced) (hclass : xClass id = 9) :
    (s.laneAt (xInst id) (xLink id)).st.seen = x := ((State.xState_own (h.symm ▸ hx)).1 hclass).symm.trans h

/-- A lane that is read TORN is torn. -/
theorem LaneState.eq_torn_of_seen {x : LaneState} (h : x.seen = .torn) : x = .torn := by
  cases x <;> simp_all [LaneState.seen]

/-- A lane that is read WHOLE is neither OFF nor fenced. -/
theorem LaneState.of_seen_whole {x : LaneState} (h : x.seen = .whole) : x ≠ .off ∧ x ≠ .fenced := by
  cases x <;> simp_all [LaneState.seen]

end Sys2Proof.Machine
end

section
/-! Stalls, tears and joint resets, and the obligation on them (R205, R207, R211-R213). -/
namespace Sys2Proof.Machine
open Sys2Proof.Safety

theorem word_toNat (id : Word) : word id.toNat = id := by simp [word]

/-! ### CROSS_STALL (R205) -/

/-- The crossing as the stall finds it: the adapter's own queue is over its end, and the stall is told. -/
def State.stalled (s : State) (i : Nat) : State :=
  (if xClass i = 12 then s.modXing i fun x => { x with fill := queueSize + 1 } else s).raise evCrossStall i

theorem exec_crossStall {id : Word} {w : Nat} {s : State} (hexists : s.xExists id.toNat = true) (hwait : s.waitFrom id.toNat = some w)
    (hdue : w + 4096 ≤ s.now) (hst : s.xState id.toNat = .whole) :
    exec (.crossStall id) s = .next { (s.stalled id.toNat).fence id.toNat with
      xg := { ((s.stalled id.toNat).fence id.toNat).xg with stalls := sat16 ((s.stalled id.toNat).fence id.toNat).xg.stalls 1 } } := by
  have hrun : exec (.crossStall id) s = execCrossStall id s := rfl
  rw [hrun]
  unfold execCrossStall
  simp only [hwait]
  refine (if_neg ?_).trans rfl
  simp only [hexists, hst]
  simp
  omega

theorem exec_crossStall_quiet {id : Word} {s : State} (hwait : s.waitFrom id.toNat = none) : exec (.crossStall id) s = .next s := by
  have hrun : exec (.crossStall id) s = execCrossStall id s := rfl
  rw [hrun]
  unfold execCrossStall
  simp only [hwait]

theorem exec_crossStall_early {id : Word} {w : Nat} {s : State} (hwait : s.waitFrom id.toNat = some w) (hearly : s.now < w + 4096) :
    exec (.crossStall id) s = .next s := by
  have hrun : exec (.crossStall id) s = execCrossStall id s := rfl
  rw [hrun]
  unfold execCrossStall
  simp only [hwait]
  exact if_pos (.inr (.inl hearly))

/-- The stall's own notes touch no other crossing, and of its own only FILL. -/
theorem State.stalled_spec {s : State} (i : Nat) (hreg : Regular s) : Keeps [.xg, .ev] s (s.stalled i) ∧
    (∀ j, j ≠ i → (s.stalled i).xing j = s.xing j) ∧
    ((s.stalled i).xing i = { s.xing i with fill := ((s.stalled i).xing i).fill }) ∧
    (s.stalled i).xg.stalls = s.xg.stalls ∧ (s.stalled i).xg.drops = s.xg.drops ∧ (s.stalled i).xg.lane = s.xg.lane ∧
    (s.stalled i).ev = (s.raise evCrossStall i).ev := by
  have hfill : ∃ u, u = (if xClass i = 12 then s.modXing i fun x => { x with fill := queueSize + 1 } else s) ∧
      (∀ j, j ≠ i → u.xing j = s.xing j) ∧ (u.xing i = { s.xing i with fill := (u.xing i).fill }) ∧
      u.xg.stalls = s.xg.stalls ∧ u.xg.drops = s.xg.drops ∧ u.xg.lane = s.xg.lane ∧ u.ev = s.ev ∧ u.sys = s.sys ∧ Keeps [.xg, .ev] s u := by
    refine ⟨_, rfl, ?_⟩
    split
    · refine ⟨fun j hj => s.xing_modXing_ne _ hj, ?_, rfl, rfl, rfl, rfl, rfl, .modXing_keeps (by simp) (.refl s) _ _⟩
      rw [s.xing_modXing i _ hreg.crossings]
    · exact ⟨fun _ _ => rfl, rfl, rfl, rfl, rfl, rfl, rfl, .refl s⟩
  obtain ⟨u, hu, hothers, hself, hstalls, hdrops, hlane, hev, hsys, hkeep⟩ := hfill
  have hraise : (u.raise evCrossStall i).xg = u.xg :=
    (Keeps.raise_keeps (List.Subset.refl _) (Keeps.refl u) evCrossStall i).only.same .xg (by decide)
  have hxing (j : Nat) : (u.raise evCrossStall i).xing j = u.xing j := State.xing_congr (congrArg Xg.x hraise :) j
  unfold State.stalled
  rw [← hu]
  refine ⟨hkeep.raise_keeps (by simp) _ _, fun j hj => (hxing j).trans (hothers j hj), ?_, ?_, ?_, ?_, ?_⟩
  · rw [hxing]
    exact hself
  · rw [hraise, hstalls]
  · rw [hraise, hdrops]
  · rw [hraise, hlane]
  · exact State.raise_ev_congr _ _ (congrArg Sys.epoch hsys) (congrArg Sys.erg hsys) hev

/-- A wait of 4,096 ns fences a crossing (R205). -/
theorem crossStall_spec {id : Word} {w : Nat} {s : State} (hreg : Regular s) (hexists : s.xExists id.toNat = true)
    (hwait : s.waitFrom id.toNat = some w) (hdue : w + 4096 ≤ s.now) (hst : s.xState id.toNat = .whole) :
    let i := id.toNat
    ∃ t, exec (.crossStall id) s = .next t ∧
      (xClass i ≠ 9 → (t.xing i).st = .fenced ∧ (t.xing i).stale = decide (xStruct i = .held) ∧
        (t.xing i).lost = decide (xStruct i = .count) ∧ (t.xing i).e1 = (s.xing i).e1 ∧ (t.xing i).e2 = (s.xing i).e2) ∧
      (xClass i = 4 → (t.rgn (xInst i)).tx = none) ∧
      (xClass i = 9 → (t.laneAt (xInst i) (xLink i)).st = .fenced ∧ (t.laneAt (xInst i) (xLink i)).words = [] ∧
        t.xg.drops = s.xg.drops + word (s.laneAt (xInst i) (xLink i)).words.length) ∧
      t.xg.stalls = sat16 s.xg.stalls 1 ∧ t.xg.lastId = id ∧ t.xg.lastErg = word s.now ∧
      t.ev = (s.raise evCrossStall i).ev ∧ (∀ j, j ≠ i → t.xing j = s.xing j) ∧ Only [.reg, .ls, .xg, .ev] s t := by
  have hrun := exec_crossStall hexists hwait hdue hst
  have honly := exec_only_of_subset hrun (gs := [.reg, .ls, .xg, .ev]) (by rw [writes]; decide)
  refine ⟨_, hrun, ?_⟩
  obtain ⟨hkeep, hothers, hself, hstalls, hdrops, hlane, hev⟩ := State.stalled_spec id.toNat hreg
  have hlastid := word_toNat id
  have hstx (hclass : xClass id.toNat ≠ 9) := State.xing_st_of_xState hst nofun hclass
  have hstl (hclass : xClass id.toNat = 9) := LaneState.of_seen_whole (State.lane_st_of_xState hst nofun hclass)
  generalize id.toNat = i at *
  have hregu : Regular (s.stalled i) := hkeep.regular hreg
  have hnow : (s.stalled i).now = s.now := congrArg Sys.erg (hkeep.only.same .sys (by decide))
  generalize s.stalled i = u at *
  have hst' (hclass : xClass i ≠ 9) : (u.xing i).st = .whole := by rw [hself]; exact hstx hclass
  have hlaneAt : u.laneAt (xInst i) (xLink i) = s.laneAt (xInst i) (xLink i) := by rw [State.laneAt, hlane, ← State.laneAt]
  have hfev : (u.fence i).ev = u.ev := (Keeps.fence_keeps (List.Subset.refl _) (Keeps.refl u) i).only.same .ev (by decide)
  have hnoted : (u.fence i).xg.stalls = u.xg.stalls ∧ (u.fence i).xg.lastId = word i ∧ (u.fence i).xg.lastErg = word u.now := by
    rcases Decidable.em (xClass i = 9) with hclass | hclass
    · rw [State.fence_of_lane hclass (by rw [hlaneAt]; exact hstl hclass)]
      exact ⟨rfl, rfl, rfl⟩
    · exact State.fence_noted hclass (by rw [hst' hclass]; nofun)
  have hxing (j : Nat) : State.xing { u.fence i with xg := { (u.fence i).xg with stalls := sat16 (u.fence i).xg.stalls 1 } } j =
      (u.fence i).xing j := rfl
  obtain ⟨hn1, hn2, hn3⟩ := hnoted
  refine ⟨fun hclass => ?_, fun hclass => ?_, fun hclass => ?_, ?_, hn2.trans hlastid, hn3.trans (congrArg word hnow), hfev.trans hev,
    fun j hj => ?_, honly⟩
  · rw [hxing]
    obtain ⟨h1, h2, h3, h4, h5⟩ := State.fence_spec hclass (by rw [hst' hclass]; nofun) hregu.crossings
    rw [hself] at h4 h5
    exact ⟨h1, h2, h3, h4, h5⟩
  · exact (congrArg Region.tx (State.rgn_congr rfl (xInst i))).trans
      (State.fence_tx hclass (hst' (by rw [hclass]; decide)) hregu)
  · have hset := (State.LaneSet.refl (xInst i) (xLink i) hregu.lanes).modLane fun l => { l.clear with st := .fenced }
    have hfence := State.fence_of_lane hclass (s := u) (by rw [hlaneAt]; exact hstl hclass)
    have hlane' : (u.fence i).laneAt (xInst i) (xLink i) = { (u.laneAt (xInst i) (xLink i)).clear with st := .fenced } := by
      rw [hfence]
      exact hset.self
    have hdrops' : (u.fence i).xg.drops = u.xg.drops + word (u.laneAt (xInst i) (xLink i)).words.length := by
      rw [hfence]
      rfl
    refine ⟨(congrArg Lane.st hlane').trans rfl, (congrArg Lane.words hlane').trans rfl, ?_⟩
    exact hdrops'.trans (by rw [hdrops, hlaneAt])
  · exact congrArg (sat16 · 1) (hn1.trans hstalls)
  · rw [hxing, State.xing_fence_ne u hregu.crossings hj, hothers j hj]

/-! ### CROSS_TEAR (R212) -/

/-- A tear noted: its event, the latest crossing, and the count. -/
def State.tearNoted (s : State) (i : Nat) : State :=
  { (s.raise evCrossTorn i).xLast i with
    xg := { ((s.raise evCrossTorn i).xLast i).xg with torns := sat16 ((s.raise evCrossTorn i).xLast i).xg.torns 1 } }

theorem State.tearNoted_spec (s : State) (i : Nat) : (s.tearNoted i).xg.x = s.xg.x ∧ (s.tearNoted i).xg.lane = s.xg.lane ∧
    (s.tearNoted i).xg.torns = sat16 s.xg.torns 1 ∧ (s.tearNoted i).xg.lastId = word i ∧
    (s.tearNoted i).ev = (s.raise evCrossTorn i).ev := by
  have hxg : (s.raise evCrossTorn i).xg = s.xg :=
    (Keeps.raise_keeps (List.Subset.refl _) (Keeps.refl s) evCrossTorn i).only.same .xg (by decide)
  unfold State.tearNoted
  generalize s.raise evCrossTorn i = u at *
  exact ⟨(congrArg Xg.x hxg :), (congrArg Xg.lane hxg :), (congrArg (fun x : Xg => sat16 x.torns 1) hxg :), rfl, rfl⟩

theorem exec_crossTear {id : Word} {s : State} (hexists : s.xExists id.toNat = true) (hclass : xClass id.toNat ≠ 9)
    (hst : (s.xing id.toNat).st = .torn) (hat : (s.xing id.toNat).tornAt = none) :
    exec (.crossTear id) s = .next ((s.modXing id.toNat fun x => { x with st := .torn, tornAt := some s.now }).tearNoted id.toNat) := by
  have hrun : exec (.crossTear id) s = execCrossTear id s := rfl
  rw [hrun]
  unfold execCrossTear
  dsimp only
  rw [if_neg (by simp [hexists]), if_neg hclass, if_pos ⟨hst, hat⟩]
  rfl

theorem exec_crossTear_lane {id : Word} {s : State} (hexists : s.xExists id.toNat = true) (hclass : xClass id.toNat = 9)
    (hst : (s.laneAt (xInst id.toNat) (xLink id.toNat)).st = .torn) (hat : (s.laneAt (xInst id.toNat) (xLink id.toNat)).tornAt = none) :
    exec (.crossTear id) s = .next ((s.modLane (xInst id.toNat) (xLink id.toNat) fun l => { l with
      st := .torn, tornAt := some s.now }).tearNoted id.toNat) := by
  have hrun : exec (.crossTear id) s = execCrossTear id s := rfl
  rw [hrun]
  unfold execCrossTear
  dsimp only
  rw [if_neg (by simp [hexists]), if_pos hclass, if_pos ⟨hst, hat⟩]
  rfl

theorem crossTear_spec {id : Word} {s : State} (hreg : Regular s) (hexists : s.xExists id.toNat = true) (hclass : xClass id.toNat ≠ 9)
    (hst : (s.xing id.toNat).st = .torn) (hat : (s.xing id.toNat).tornAt = none) :
    ∃ t, exec (.crossTear id) s = .next t ∧ t.xing id.toNat = { s.xing id.toNat with tornAt := some s.now } ∧
      t.xg.torns = sat16 s.xg.torns 1 ∧ t.xg.lastId = id ∧ t.ev = (s.raise evCrossTorn id.toNat).ev ∧
      (∀ j, j ≠ id.toNat → t.xing j = s.xing j) ∧ Only [.xg, .ev] s t := by
  have hrun := exec_crossTear hexists hclass hst hat
  obtain ⟨hx, -, htorns, hlast, hev⟩ :=
    (s.modXing id.toNat fun x => { x with st := .torn, tornAt := some s.now }).tearNoted_spec id.toNat
  refine ⟨_, hrun, ?_, htorns, hlast.trans (word_toNat id), hev.trans (State.raise_ev_congr _ _ rfl rfl rfl), fun j hj => ?_,
    exec_only_of_subset hrun (by rw [writes]; decide)⟩
  · refine (State.xing_congr hx _).trans ((s.xing_modXing id.toNat _ hreg.crossings).trans ?_)
    rw [← hst]
  · exact (State.xing_congr hx j).trans (s.xing_modXing_ne _ hj)

theorem crossTear_lane_spec {id : Word} {s : State} (hreg : Regular s) (hexists : s.xExists id.toNat = true)
    (hclass : xClass id.toNat = 9) (hst : (s.laneAt (xInst id.toNat) (xLink id.toNat)).st = .torn)
    (hat : (s.laneAt (xInst id.toNat) (xLink id.toNat)).tornAt = none) :
    ∃ t, exec (.crossTear id) s = .next t ∧
      t.laneAt (xInst id.toNat) (xLink id.toNat) = { s.laneAt (xInst id.toNat) (xLink id.toNat) with tornAt := some s.now } ∧
      t.xg.torns = sat16 s.xg.torns 1 ∧ t.xg.lastId = id ∧ t.ev = (s.raise evCrossTorn id.toNat).ev ∧ Only [.xg, .ev] s t := by
  have hrun := exec_crossTear_lane hexists hclass hst hat
  obtain ⟨-, hlane, htorns, hlast, hev⟩ := (s.modLane (xInst id.toNat) (xLink id.toNat) fun l => { l with
      st := .torn, tornAt := some s.now }).tearNoted_spec id.toNat
  refine ⟨_, hrun, ?_, htorns, hlast.trans (word_toNat id), hev.trans (State.raise_ev_congr _ _ rfl rfl rfl),
    exec_only_of_subset hrun (by rw [writes]; decide)⟩
  rw [State.laneAt, hlane, ← State.laneAt, State.laneAt_modLane _ _ _ _ hreg.lanes, ← hst]

/-- One side reset tears a crossing, and the other side reset too leaves both epochs the same (R210-R212). -/
theorem State.tear_tear_spec {s : State} {i : Nat} (second : Bool) (hreg : Regular s) (hclass : xClass i ≠ 9) (hst : (s.xing i).st = .whole)
    (hsame : (s.xing i).e1 = (s.xing i).e2) :
    ((s.tear i second).xing i).st = .torn ∧ ((s.tear i second).xing i).e1 ≠ ((s.tear i second).xing i).e2 ∧
      (((s.tear i false).tear i true).xing i).e1 = (((s.tear i false).tear i true).xing i).e2 := by
  have hwf := hreg.crossings
  obtain ⟨he1, he2, htorn⟩ := s.xing_tear second hclass hwf
  obtain ⟨hf1, hf2, -⟩ := s.xing_tear false hclass hwf
  obtain ⟨hg1, hg2, -⟩ := (s.tear i false).xing_tear true hclass (s.tear_wf false hclass hwf)
  refine ⟨htorn (by rw [hst]; nofun) hsame, ?_, ?_⟩
  · rw [he1, he2, hsame]
    cases second <;> simp
  · rw [hg1, hg2, hf1, hf2, hsame]
    simp

/-! ### JOINT_RESET (R213) -/

theorem exec_jointReset {id : Word} {a : Nat} {s : State} (hfollow : s.sys.follow ≠ 2) (hfw : s.fw = true) (hst : s.xState id.toNat = .torn)
    (hat : s.tornAt id.toNat = some a) (hdue : a + 1024 ≤ s.now) : exec (.jointReset id) s = .next (s.joint id.toNat) := by
  have hrun : exec (.jointReset id) s = execJointReset id s := rfl
  have hsys : (s.joint id.toNat).sys = s.sys := (Keeps.joint_keeps (List.Subset.refl _) (Keeps.refl s) id.toNat).only.same .sys (by decide)
  rw [hrun]
  unfold execJointReset
  simp only [hat]
  refine (if_pos ?_).trans (congrArg _ (if_pos (.inl (by rw [hsys]; exact hfollow))))
  rw [hfw, hst, decide_eq_true hdue]
  simp

theorem exec_jointReset_early {id : Word} {a : Nat} {s : State} (hat : s.tornAt id.toNat = some a) (hsited : s.xRegions id.toNat ≠ [])
    (hearly : s.now < a + 1024) : exec (.jointReset id) s = .next s := by
  have hrun : exec (.jointReset id) s = execJointReset id s := rfl
  rw [hrun]
  unfold execJointReset
  simp only [hat]
  refine if_neg fun h => ?_
  have hempty : (s.xRegions id.toNat).isEmpty = false := by simpa using hsited
  rw [hempty, decide_eq_false (by omega : ¬ a + 1024 ≤ s.now)] at h
  simp at h

theorem State.joint_clocked {s : State} {i : Nat} (h : s.xClocked i = true) :
    s.joint i = ((s.resetContents i).whole i).raise evCrossJoint i := if_pos h

theorem State.joint_unclocked {s : State} {i : Nat} (h : s.xClocked i = false) : s.joint i = s.fence i := by
  rw [State.joint, h]
  rfl

/-- A joint reset of a torn crossing whose sides are clocked. -/
theorem State.joint_clocked_spec {s : State} {i : Nat} (hreg : Regular s) (hclocked : s.xClocked i = true) :
    (xClass i ≠ 9 → ((s.joint i).xing i).e1 = (s.xing i).e1 ∧ ((s.joint i).xing i).e2 = (s.xing i).e1 ∧
        ((s.joint i).xing i).tornAt = none ∧ ((s.joint i).xing i).rst1 = false ∧ ((s.joint i).xing i).rst2 = false ∧
        ((s.joint i).xing i).st = .whole) ∧
      (xClass i = 9 → (s.laneAt (xInst i) (xLink i)).st ≠ .off →
        ((s.joint i).laneAt (xInst i) (xLink i)).e2 = (s.laneAt (xInst i) (xLink i)).e1 ∧
        ((s.joint i).laneAt (xInst i) (xLink i)).st = .calibrating ∧ ((s.joint i).laneAt (xInst i) (xLink i)).markers = 64) ∧
      (s.joint i).ev = (s.raise evCrossJoint i).ev := by
  rw [State.joint_clocked hclocked]
  have hxg : (((s.resetContents i).whole i).raise evCrossJoint i).xg = ((s.resetContents i).whole i).xg :=
    (Keeps.raise_keeps (List.Subset.refl _) (Keeps.refl _) evCrossJoint i).only.same .xg (by decide)
  have honly : Only [.ctl, .reg, .ls, .xg] s ((s.resetContents i).whole i) :=
    (Keeps.whole_keeps (List.Subset.refl _) (.resetContents_keeps (by decide) (.refl s) i) i).only
  have hsys := honly.same .sys (by decide)
  refine ⟨fun hclass => ?_, fun hclass hon => ?_,
    State.raise_ev_congr _ _ (congrArg Sys.epoch hsys) (congrArg Sys.erg hsys) (honly.same .ev (by decide))⟩
  · obtain ⟨n, hx⟩ := s.xing_resetContents hclass hreg.crossings
    rw [State.xing_congr (congrArg Xg.x hxg :) i, State.xing_whole _ hclass (s.resetContents_wf hclass hreg.crossings), hx]
    exact ⟨rfl, rfl, rfl, rfl, rfl, rfl⟩
  · rw [State.laneAt, hxg, ← State.laneAt, State.laneAt_joint hclass hon hreg.lanes]
    exact ⟨rfl, rfl, rfl⟩

/-- Settles O57: a stall, a tear and a joint reset are each one crossing's own change, with their notes beside the table of crossings. -/
theorem crossingsStallTearAndJoin : Obligations.CrossingsStallTearAndJoin := by
  unfold Obligations.CrossingsStallTearAndJoin
  refine ⟨?_, ?_, ?_, ?_, ?_, ?_, ?_, ?_⟩
  · intro id w s hreg i hexists hwait hdue hst
    exact crossStall_spec hreg hexists hwait hdue hst
  · intro id s hwait
    exact exec_crossStall_quiet hwait
  · intro id w s hwait hearly
    exact exec_crossStall_early hwait hearly
  · intro id s hreg i hexists hclass hst hat
    exact crossTear_spec hreg hexists hclass hst hat
  · intro id s hreg i hexists hclass hst hat
    exact crossTear_lane_spec hreg hexists hclass hst hat
  · intro id second s hreg i hclass hst hsame
    exact State.tear_tear_spec second hreg hclass hst hsame
  · intro id a s hreg hfollow i hfw hst hat hdue
    refine ⟨_, exec_jointReset hfollow hfw hst hat hdue, fun hclass hclocked => (State.joint_clocked_spec hreg hclocked).1 hclass,
      fun hclass hclocked => ?_, fun hclocked => (State.joint_clocked_spec hreg hclocked).2.2, fun hclass hstopped => ?_,
      fun j hj => State.xing_joint_ne hj hreg.crossings, (Keeps.joint_keeps (List.Subset.refl _) (Keeps.refl s) i).only⟩
    · have htorn := LaneState.eq_torn_of_seen (State.lane_st_of_xState hst nofun hclass)
      exact (State.joint_clocked_spec hreg hclocked).2.1 hclass (by rw [htorn]; nofun)
    · have htorn := State.xing_st_of_xState hst nofun hclass
      rw [State.joint_unclocked hstopped]
      obtain ⟨h1, -, -, -, h5⟩ := State.fence_spec hclass (by rw [htorn]; nofun) hreg.crossings
      exact ⟨h1, h5, (Keeps.fence_keeps (List.Subset.refl _) (Keeps.refl s) i).only.same .ev (by decide)⟩
  · intro id a s hat hsited hearly
    exact exec_jointReset_early hat hsited hearly

end Sys2Proof.Machine
end

section
/-! SUPPORT. What a release of fences keeps: the wiring of regions, the lanes, and the crossings that are not of its set (Table 7-5). -/
namespace Sys2Proof.Machine
open Sys2Proof.Safety

/-! ### The wiring of regions -/

/-- A region without what fences, resets and releases change in it: its messages, its counts and its pending summary. -/
def Region.wired (g : Region) : Region := { g.core with cnt := {}, hb := {}, wsDue := false }

theorem Region.wired_congr (g h : Region) (e : g.core = h.core) : g.wired = h.wired := by
  unfold Region.wired
  rw [e]

theorem Region.wired_partner (g : Region) (k : Nat) : g.wired.partner k = g.partner k := rfl

theorem State.CoreKept.resetContents {o s : State} (h : State.CoreKept o s) (id : Nat) : State.CoreKept o (s.resetContents id) := by
  have hbase (n : Nat) : State.CoreKept o (if n = 0 then s
      else if xClass id = 5 then s.modRgn (xInst id) fun g => { g with former := { g.former with lane := [] } }
      else if xClass id = 6 then { s with xg := { s.xg with fq := Map.put [] s.xg.fq (fqKey id) [] } }
      else if xClass id = 4 then s.modRgn (xInst id) fun g => { g with msgs := [], msgWait := [] }
      else s) :=
    .ite h (.ite (h.modRgn _ fun _ => rfl) (.ite (h.of_reg rfl) (.ite (h.modRgn _ fun _ => rfl) h)))
  unfold State.resetContents
  exact .ite (h.of_reg rfl) ((hbase _).of_reg rfl)

section Wired
variable {o s : State}

theorem State.FieldKept.fence_wired (h : State.FieldKept Region.wired o s) (id : Nat) : State.FieldKept Region.wired o (s.fence id) :=
  h.core Region.wired_congr ((State.CoreKept.refl h.wf).fence id)

theorem State.FieldKept.resetContents_wired (h : State.FieldKept Region.wired o s) (id : Nat) :
    State.FieldKept Region.wired o (s.resetContents id) := h.core Region.wired_congr ((State.CoreKept.refl h.wf).resetContents id)

theorem State.FieldKept.whole_wired (h : State.FieldKept Region.wired o s) (id : Nat) : State.FieldKept Region.wired o (s.whole id) := by
  unfold State.whole
  have hx : State.FieldKept Region.wired o (s.modXing id fun x => { x with st := .whole, stale := false, lost := false }) := h.of_reg rfl
  exact .ite (h.of_reg rfl) (.ite (hx.of_reg rfl) (.ite (hx.modRgn _ fun _ => rfl) (.ite (hx.modRgn _ fun _ => rfl)
    (.ite (hx.step (Keeps.modCtrl_keeps (List.Subset.refl _) (Keeps.refl _) _ _) (by decide)) hx))))

/-- The links of regions that are wired alike. -/
theorem State.FieldKept.linkEnd (h : State.FieldKept Region.wired o s) (hdie : s.die = o.die) (r : RegionNo) (k : Nat) :
    s.linkEnd r k = o.linkEnd r k := by
  have hpartner (q : RegionNo) (j : Nat) : (s.rgn q).partner j = (o.rgn q).partner j := by
    rw [← Region.wired_partner, h.region q, Region.wired_partner]
  simp only [State.linkEnd, State.linksTo, hpartner, State.regionExists, State.dieAt, hdie] <;> rfl

theorem State.regionLanes_congr {s t : State} (h : ∀ r k, t.linkEnd r k = s.linkEnd r k) (r : RegionNo) : t.regionLanes r = s.regionLanes r := by
  unfold State.regionLanes
  simp only [h]

theorem State.FieldKept.clocked (h : State.FieldKept Region.wired o s) (hdie : s.die = o.die) (hsys : s.sys = o.sys) (r : RegionNo) :
    s.clocked r = o.clocked r := by
  have hfield {β : Type} (f : Region → β) (hf : ∀ g : Region, f g.wired = f g) : f (s.rgn r) = f (o.rgn r) := by
    rw [← hf, h.region r, hf]
  have hchan := hfield (fun g => g.chan.st) fun _ => rfl
  have hreset := hfield (fun g => g.inReset) fun _ => rfl
  have hpower := hfield (fun g => g.unpowered) fun _ => rfl
  have hboot := hfield (fun g => g.cal.bootDone) fun _ => rfl
  simp only [State.clocked, State.bootGated, State.dieAt, hdie, hsys, hchan, hreset, hpower, hboot]

theorem State.FieldKept.xClocked (h : State.FieldKept Region.wired o s) (hdie : s.die = o.die) (hsys : s.sys = o.sys) (hcfg : s.cfg = o.cfg)
    (id : Nat) : s.xClocked id = o.xClocked id := by
  have hclocked (r : RegionNo) : s.clocked r = o.clocked r := h.clocked hdie hsys r
  have hregions : s.xRegions id = o.xRegions id := by
    simp only [State.xRegions, h.linkEnd hdie, State.portRegion, hcfg]
  have hwindow : s.windowUp = o.windowUp := by simp only [State.windowUp, hsys, funext hclocked]
  unfold State.xClocked
  rw [hregions, funext hclocked, hwindow]

end Wired

end Sys2Proof.Machine
end

section
/-! SUPPORT. The set of a release, and the folds that reset, present and fence its crossings (Table 7-5). -/
namespace Sys2Proof.Machine
open Sys2Proof.Safety

/-! ### Beside the crossings -/

/-- The lanes and the releases under way stand while a crossing is halted. -/
theorem State.dropWaiting_beside (s : State) (id : Nat) :
    (s.dropWaiting id).xg.lane = s.xg.lane ∧ (s.dropWaiting id).xg.rel = s.xg.rel := by
  unfold State.dropWaiting
  dsimp only
  split
  · exact ⟨rfl, rfl⟩
  · split
    · exact ⟨rfl, rfl⟩
    · split
      · exact ⟨rfl, rfl⟩
      · split <;> exact ⟨rfl, rfl⟩

theorem State.holdWords_beside (s : State) (id : Nat) :
    (s.holdWords id).xg.lane = s.xg.lane ∧ (s.holdWords id).xg.rel = s.xg.rel := by
  unfold State.holdWords
  split
  · exact ⟨rfl, rfl⟩
  · split <;> exact ⟨rfl, rfl⟩

theorem State.xHalt_beside (s : State) (id : Nat) : (s.xHalt id).xg.lane = s.xg.lane ∧ (s.xHalt id).xg.rel = s.xg.rel := by
  have first : (if (s.xing id).wait.isSome then s.modXing id fun x => { x with wait := none } else s.holdWords id).xg.lane = s.xg.lane ∧
      (if (s.xing id).wait.isSome then s.modXing id fun x => { x with wait := none } else s.holdWords id).xg.rel = s.xg.rel := by
    split
    · exact ⟨rfl, rfl⟩
    · exact s.holdWords_beside id
  obtain ⟨hlane, hrel⟩ := State.dropWaiting_beside
    (if (s.xing id).wait.isSome then s.modXing id fun x => { x with wait := none } else s.holdWords id) id
  unfold State.xHalt
  dsimp only
  split <;> exact ⟨hlane.trans first.1, hrel.trans first.2⟩

theorem State.fence_rel (s : State) (id : Nat) : (s.fence id).xg.rel = s.xg.rel := by
  unfold State.fence
  dsimp only
  split
  · split <;> rfl
  · split
    · rfl
    · split
      · rfl
      · exact (s.xHalt_beside id).2

theorem State.fence_lane {s : State} {id : Nat} (hclass : xClass id ≠ 9) : (s.fence id).xg.lane = s.xg.lane := by
  unfold State.fence
  rw [if_neg hclass]
  dsimp only
  split
  · rfl
  · split
    · rfl
    · exact (s.xHalt_beside id).1

/-- A fence on another crossing is nothing to a lane. -/
theorem State.laneAt_fence {s : State} {id r k : Nat} (h : xClass id = 9 → laneKey r k ≠ laneKey (xInst id) (xLink id)) :
    (s.fence id).laneAt r k = s.laneAt r k := by
  rcases Decidable.em (xClass id = 9) with hclass | hclass
  · unfold State.fence
    rw [if_pos hclass]
    dsimp only
    split
    · rfl
    · exact State.laneAt_modLane_ne s (fun l => { l.clear with st := .fenced }) (h hclass)
  · rw [State.laneAt, State.fence_lane hclass, ← State.laneAt]

theorem State.resetContents_rel (s : State) (id : Nat) : (s.resetContents id).xg.rel = s.xg.rel := by
  have hbase (n : Nat) : (if n = 0 then s
      else if xClass id = 5 then s.modRgn (xInst id) fun g => { g with former := { g.former with lane := [] } }
      else if xClass id = 6 then { s with xg := { s.xg with fq := Map.put [] s.xg.fq (fqKey id) [] } }
      else if xClass id = 4 then s.modRgn (xInst id) fun g => { g with msgs := [], msgWait := [] }
      else s).xg.rel = s.xg.rel := by
    split
    · rfl
    · split
      · rfl
      · split
        · rfl
        · split <;> rfl
  unfold State.resetContents
  split
  · rfl
  · exact hbase _

theorem State.resetContents_lane {s : State} {id : Nat} (hclass : xClass id ≠ 9) : (s.resetContents id).xg.lane = s.xg.lane := by
  have hbase (n : Nat) : (if n = 0 then s
      else if xClass id = 5 then s.modRgn (xInst id) fun g => { g with former := { g.former with lane := [] } }
      else if xClass id = 6 then { s with xg := { s.xg with fq := Map.put [] s.xg.fq (fqKey id) [] } }
      else if xClass id = 4 then s.modRgn (xInst id) fun g => { g with msgs := [], msgWait := [] }
      else s).xg.lane = s.xg.lane := by
    split
    · rfl
    · split
      · rfl
      · split
        · rfl
        · split <;> rfl
  unfold State.resetContents
  rw [if_neg hclass]
  exact hbase _

theorem State.whole_rel (s : State) (id : Nat) : (s.whole id).xg.rel = s.xg.rel := by
  unfold State.whole
  dsimp only
  split
  · rfl
  · split
    · rfl
    · split
      · rfl
      · split
        · rfl
        · split
          · cases decide (id = xId 3 5) <;> rfl
          · rfl

/-! ### The set of a release of one region (Table 7-5) -/

theorem State.mem_releaseSet_own (s : State) (q r : RegionNo) {n : Nat} (hn : n = 4 ∨ n = 5 ∨ n = 7 ∨ n = 8) :
    xId n r ∈ s.releaseSet (.region q) [r] := by
  simp only [State.releaseSet, List.mem_append, List.mem_eraseDups, List.mem_flatMap]
  refine .inl (.inl ⟨r, List.mem_singleton_self r, ?_⟩)
  rcases hn with rfl | rfl | rfl | rfl <;> simp [State.regionCrossings]

theorem State.mem_releaseSet_lane {s : State} (q : RegionNo) {r : RegionNo} {e : RegionNo × Nat} (he : e ∈ s.regionLanes r) :
    laneId e.1 e.2 ∈ s.releaseSet (.region q) [r] := by
  simp only [State.releaseSet, List.mem_append, List.mem_eraseDups, List.mem_flatMap]
  refine .inl (.inl ⟨r, List.mem_singleton_self r, ?_⟩)
  simp only [State.regionCrossings, List.mem_append, List.mem_map]
  exact .inl (.inl (.inr ⟨e, he, rfl⟩))

/-- A crossing of the set is a lane of the region's, or of another class and no heartbeat crossing of a controller. -/
theorem State.mem_releaseSet {s : State} {q r : RegionNo} (hr : (r : Nat) < 65536) {id : Nat} (h : id ∈ s.releaseSet (.region q) [r]) :
    (∃ e ∈ s.regionLanes r, id = laneId e.1 e.2) ∨ ∃ c i, i < 2 ^ 28 ∧ c ≠ 9 ∧ id = xId c i ∧ (c = 3 → i = 2) := by
  have hlong : (r : Nat) < 2 ^ 28 := lt_trans hr (by decide)
  simp only [State.releaseSet, List.mem_append, List.mem_eraseDups, List.mem_flatMap, List.mem_singleton, List.not_mem_nil, or_false] at h
  rcases h with ⟨_, rfl, h⟩ | h
  · simp only [State.regionCrossings, List.mem_append, List.mem_cons, List.not_mem_nil, or_false, List.mem_map] at h
    rcases h with (((rfl | rfl | rfl | rfl) | ⟨e, he, rfl⟩) | h) | h
    · exact .inr ⟨4, _, hlong, by decide, rfl, nofun⟩
    · exact .inr ⟨5, _, hlong, by decide, rfl, nofun⟩
    · exact .inr ⟨7, _, hlong, by decide, rfl, nofun⟩
    · exact .inr ⟨8, _, hlong, by decide, rfl, nofun⟩
    · exact .inl ⟨e, he, rfl⟩
    · split at h
      next hdie =>
        obtain ⟨i, hi, rfl⟩ := forecastLanes_class hdie.1 h
        exact .inr ⟨6, i, hi, by decide, rfl, nofun⟩
      · simp at h
    · obtain ⟨i, hi, rfl⟩ := State.portCrossings_class h
      exact .inr ⟨13, i, hi, by decide, rfl, nofun⟩
  · split at h
    · have hfabric := (List.mem_filter.1 h).1
      simp only [fabricCrossings, List.mem_append, List.mem_map, List.mem_range, List.mem_cons, List.not_mem_nil, or_false] at hfabric
      rcases hfabric with (⟨i, hi, rfl⟩ | ⟨i, hi, rfl⟩) | rfl
      · exact .inr ⟨1, i, by omega, by decide, rfl, nofun⟩
      · exact .inr ⟨1, 256 + i, by omega, by decide, rfl, nofun⟩
      · exact .inr ⟨3, 2, by decide, by decide, rfl, fun _ => rfl⟩
    · simp at h

theorem State.releaseSet_not_ctrl {s : State} {q r : RegionNo} (hr : (r : Nat) < 65536) {id : Nat} (h : id ∈ s.releaseSet (.region q) [r]) :
    id ≠ xId 3 3 ∧ id ≠ xId 3 5 := by
  rcases State.mem_releaseSet hr h with ⟨e, he, rfl⟩ | ⟨c, i, hi, -, rfl, hrole⟩
  · have hlong := State.regionLanes_class hr he
    exact ⟨fun h => absurd (xId_inj hlong (by decide) h).1 (by decide), fun h => absurd (xId_inj hlong (by decide) h).1 (by decide)⟩
  · constructor <;> intro h <;> obtain ⟨hc, hi'⟩ := xId_inj hi (by decide) h <;> have := hrole hc <;> omega

theorem xInst_laneId {r k : Nat} (hr : r < 65536) : xInst (laneId r k) = r := by
  simp only [xInst, laneId, xId]
  omega

theorem xLink_laneId {r k : Nat} (hr : r < 65536) (hk : k < 4) : xLink (laneId r k) = k := by
  simp only [xLink, laneId, xId]
  omega

theorem xClass_laneId {r k : Nat} (hr : r < 65536) (hk : k < 4) : xClass (laneId r k) = 9 :=
  xClass_xId (by omega)

theorem State.regionLanes_lt {s : State} {r : Nat} (hr : r < 65536) {e : RegionNo × Nat} (h : e ∈ s.regionLanes r) :
    (e.1 : Nat) < 65536 ∧ e.2 < 4 := by
  simp only [State.regionLanes, List.mem_flatMap, List.mem_range] at h
  obtain ⟨k, hk, h⟩ := h
  split at h
  next p k' hend =>
    obtain ⟨hp, hk'⟩ := State.linkEnd_valid hend
    simp only [List.mem_cons, List.not_mem_nil, or_false] at h
    rcases h with rfl | rfl
    · exact ⟨hr, hk⟩
    · exact ⟨hp, hk'⟩
  · simp at h

/-- In the set a lane has one identifier. -/
theorem State.releaseSet_lane_unique {s : State} {q r : RegionNo} (hr : (r : Nat) < 65536) {k id : Nat} (hk : k < 4)
    (h : id ∈ s.releaseSet (.region q) [r]) (hclass : xClass id = 9) (hkey : laneKey r k = laneKey (xInst id) (xLink id)) :
    id = laneId r k := by
  rcases State.mem_releaseSet hr h with ⟨e, he, rfl⟩ | ⟨c, i, hi, hc, rfl, -⟩
  · obtain ⟨hp, hj⟩ := State.regionLanes_lt hr he
    rw [xInst_laneId hp, xLink_laneId hp hj] at hkey
    unfold laneKey at hkey
    have hpr : @Eq Nat e.1 r := by omega
    have hjk : e.2 = k := by omega
    rw [laneId, laneId, hpr, hjk]
  · rw [xClass_xId hi] at hclass
    exact absurd hclass hc

end Sys2Proof.Machine
end

section
/-! SUPPORT. The steps of a release, one after the other (Table 7-5). -/
namespace Sys2Proof.Machine
open Sys2Proof.Safety

/-! ### What every step of a release keeps -/

/-- Wiring, releases under way, and every group but the crossings' own are as before. -/
structure State.Loosed (o s : State) : Prop where
  wired : State.FieldKept Region.wired o s
  rel : s.xg.rel = o.xg.rel
  keeps : Keeps [.reg, .ls, .xg] o s

section Loosed
variable {o s : State}

theorem State.Loosed.refl (h : Regular s) : State.Loosed s s := ⟨.refl h.regions, rfl, .refl s⟩

theorem State.Loosed.fence (h : State.Loosed o s) (id : Nat) : State.Loosed o (s.fence id) :=
  ⟨h.wired.fence_wired id, (s.fence_rel id).trans h.rel, h.keeps.fence_keeps (List.Subset.refl _) id⟩

theorem State.Loosed.foldl (h : State.Loosed o s) {f : State → Nat → State} {l : List Nat}
    (hf : ∀ (t : State) (id : Nat), id ∈ l → State.Loosed o t → State.Loosed o (f t id)) : State.Loosed o (l.foldl f s) :=
  List.foldlRecOn (motive := fun t => State.Loosed o t) l f h fun t ht id hid => hf t id hid ht

theorem State.Loosed.fenceAll (h : State.Loosed o s) (ids : List Nat) : State.Loosed o (s.fenceAll ids) := h.foldl fun _ id _ ht => ht.fence id

theorem State.Loosed.resetContents (h : State.Loosed o s) (id : Nat) : State.Loosed o (s.resetContents id) :=
  ⟨h.wired.resetContents_wired id, (s.resetContents_rel id).trans h.rel, h.keeps.resetContents_keeps (by decide) id⟩

/-- A crossing that is presented again: no controller's heartbeat is noted but by a controller's own crossing. -/
theorem State.whole_keeps_ls (s : State) {id : Nat} (hid : id ≠ xId 3 3 ∧ id ≠ xId 3 5) : Keeps [.reg, .ls, .xg] s (s.whole id) := by
  have hx : Keeps [.reg, .ls, .xg] s (s.modXing id fun x => { x with st := .whole, stale := false, lost := false }) :=
    .modXing_keeps (by decide) (.refl s) _ _
  unfold State.whole
  dsimp only
  rw [if_neg (fun h => h.elim hid.1 hid.2 : ¬ (id = xId 3 3 ∨ id = xId 3 5))]
  exact .ite (.modLane_keeps (by decide) (.refl s) _ _ _) (.ite (hx.modPort_keeps (by decide) _ _) (.ite (hx.modRgn_keeps (by decide) _ _)
    (.ite (hx.modRgn_keeps (by decide) _ _) hx)))

theorem State.Loosed.whole (h : State.Loosed o s) {id : Nat} (hid : id ≠ xId 3 3 ∧ id ≠ xId 3 5) : State.Loosed o (s.whole id) :=
  ⟨h.wired.whole_wired id, (s.whole_rel id).trans h.rel, h.keeps.trans (s.whole_keeps_ls hid)⟩

theorem State.Loosed.modRgns_ws (h : State.Loosed o s) (rs : List RegionNo) :
    State.Loosed o (s.modRgns rs fun _ g => { g with wsDue := true }) :=
  ⟨h.wired.modRgns rs fun _ _ => rfl, (congrArg Xg.rel ((Keeps.modRgns_keeps (List.Subset.refl _) (Keeps.refl s) rs _).only.same .xg
    (by decide))).trans h.rel, h.keeps.modRgns_keeps (by decide) rs _⟩

theorem State.Loosed.same (h : State.Loosed o s) : s.die = o.die ∧ s.sys = o.sys ∧ s.cfg = o.cfg ∧ s.mbx = o.mbx ∧ s.ev = o.ev :=
  ⟨h.keeps.only.same .die (by decide), h.keeps.only.same .sys (by decide), h.keeps.only.same .cfg (by decide),
    h.keeps.only.same .mbx (by decide), h.keeps.only.same .ev (by decide)⟩

theorem State.Loosed.regionLanes (h : State.Loosed o s) (r : RegionNo) : s.regionLanes r = o.regionLanes r :=
  State.regionLanes_congr (fun q k => h.wired.linkEnd h.same.1 q k) r

theorem State.Loosed.xClocked (h : State.Loosed o s) (id : Nat) : s.xClocked id = o.xClocked id := by
  obtain ⟨hdie, hsys, hcfg, -⟩ := h.same
  exact h.wired.xClocked hdie hsys hcfg id

end Loosed

/-! ### Joint resets of a set -/

/-- One crossing of a release's set is reset; a lane is calibrated. -/
def State.releaseTurn (s : State) (id : Nat) : State := if xClass id = 9 then (s.resetContents id).whole id else s.resetContents id

theorem not_ctrl_of_lane {id : Nat} (h : xClass id = 9) : id ≠ xId 3 3 ∧ id ≠ xId 3 5 := by
  constructor <;> rintro rfl <;> exact absurd h (by decide)

theorem State.Loosed.releaseTurn {o s : State} (h : State.Loosed o s) (id : Nat) : State.Loosed o (s.releaseTurn id) := by
  unfold State.releaseTurn
  split
  next hclass => exact (h.resetContents id).whole (not_ctrl_of_lane hclass)
  · exact h.resetContents id

theorem State.xing_releaseTurn {s : State} {id j : Nat} (hj : xClass j ≠ 9) (hreg : Regular s) :
    ((s.releaseTurn id).xing j).e1 = (s.xing j).e1 ∧ ((s.releaseTurn id).xing j).e2 = if j = id then (s.xing j).e1 else (s.xing j).e2 := by
  unfold State.releaseTurn
  split
  next hclass =>
    have hne : j ≠ id := fun he => hj (he ▸ hclass)
    rw [State.whole_of_lane hclass, State.xing_modLane, State.resetContents_of_lane hclass, if_neg hne]
    exact ⟨rfl, rfl⟩
  next hclass =>
    rcases Decidable.em (j = id) with rfl | hne
    · obtain ⟨n, hx⟩ := s.xing_resetContents hclass hreg.crossings
      rw [hx, if_pos rfl]
      exact ⟨rfl, rfl⟩
    · rw [s.xing_resetContents_ne hclass hne, if_neg hne]
      exact ⟨rfl, rfl⟩

/-- A crossing that a fold of joint resets comes to has both epochs as its first. -/
theorem State.xing_releaseTurns {j : Nat} (hj : xClass j ≠ 9) {l : List Nat} {s : State} (hreg : Regular s) :
    ((l.foldl State.releaseTurn s).xing j).e1 = (s.xing j).e1 ∧
      (j ∈ l ∨ (s.xing j).e2 = (s.xing j).e1 → ((l.foldl State.releaseTurn s).xing j).e2 = (s.xing j).e1) := by
  induction l generalizing s with
  | nil => exact ⟨rfl, fun h => h.elim (fun h => absurd h List.not_mem_nil) id⟩
  | cons id l ih =>
    have hnext : Regular (s.releaseTurn id) := ((State.Loosed.refl hreg).releaseTurn id).keeps.regular hreg
    obtain ⟨he1, he2⟩ := State.xing_releaseTurn (id := id) hj hreg
    obtain ⟨hf1, hf2⟩ := ih hnext
    rw [he1] at hf1 hf2
    rw [List.foldl_cons]
    refine ⟨hf1, fun h => hf2 ?_⟩
    rw [he2]
    rcases Decidable.em (j = id) with rfl | hne
    · exact .inr (if_pos rfl)
    · rw [if_neg hne]
      exact h.imp_left fun h => (List.mem_cons.1 h).resolve_left hne

/-- A lane that is up stays up through joint resets, and is CALIBRATING from its own on. -/
theorem State.laneAt_releaseTurn {s : State} {id r k : Nat} (hreg : Regular s) (hup : (s.laneAt r k).st ≠ .off) :
    ((s.releaseTurn id).laneAt r k).st ≠ .off ∧
      ((s.laneAt r k).st = .calibrating ∨ xClass id = 9 ∧ laneKey r k = laneKey (xInst id) (xLink id) →
        ((s.releaseTurn id).laneAt r k).st = .calibrating) := by
  unfold State.releaseTurn
  split
  next hclass =>
    rcases Decidable.em (laneKey r k = laneKey (xInst id) (xLink id)) with he | hne
    · have hsame (t : State) : t.laneAt r k = t.laneAt (xInst id) (xLink id) := by rw [State.laneAt, he, ← State.laneAt]
      have hjoint := State.laneAt_joint hclass (hsame s ▸ hup) hreg.lanes
      rw [hsame, hjoint]
      exact ⟨nofun, fun _ => rfl⟩
    · have hkept : ((s.resetContents id).whole id).laneAt r k = s.laneAt r k := by
        rw [State.whole_of_lane hclass, State.laneAt_modLane_ne _ _ hne, State.resetContents_of_lane hclass]
        exact State.laneAt_modLane_ne s (fun l => { l.clear with e2 := l.e1, tornAt := none }) hne
      rw [hkept]
      exact ⟨hup, fun h => h.resolve_right fun h => hne h.2⟩
  next hclass =>
    rw [State.laneAt, State.resetContents_lane hclass, ← State.laneAt]
    exact ⟨hup, fun h => h.resolve_right fun h => hclass h.1⟩

theorem State.laneAt_releaseTurns {r k : Nat} {l : List Nat} {s : State} (hreg : Regular s) (hup : (s.laneAt r k).st ≠ .off)
    (h : (s.laneAt r k).st = .calibrating ∨ ∃ id ∈ l, xClass id = 9 ∧ laneKey r k = laneKey (xInst id) (xLink id)) :
    ((l.foldl State.releaseTurn s).laneAt r k).st = .calibrating := by
  induction l generalizing s with
  | nil => exact h.resolve_right fun ⟨_, hid, _⟩ => absurd hid List.not_mem_nil
  | cons id l ih =>
    have hnext : Regular (s.releaseTurn id) := ((State.Loosed.refl hreg).releaseTurn id).keeps.regular hreg
    obtain ⟨hstays, hcal⟩ := State.laneAt_releaseTurn (id := id) hreg hup
    rw [List.foldl_cons]
    refine ih hnext hstays ?_
    rcases h with h | ⟨j, hj, hlane⟩
    · exact .inl (hcal (.inl h))
    · rcases List.mem_cons.1 hj with rfl | hj
      · exact .inl (hcal (.inr hlane))
      · exact .inr ⟨j, hj, hlane⟩

theorem State.laneAt_fenceAll {r k : Nat} {l : List Nat} {s : State}
    (h : ∀ id ∈ l, xClass id = 9 → laneKey r k ≠ laneKey (xInst id) (xLink id)) : (s.fenceAll l).laneAt r k = s.laneAt r k := by
  unfold State.fenceAll
  induction l generalizing s with
  | nil => rfl
  | cons id l ih =>
    rw [List.foldl_cons, ih fun j hj => h j (List.mem_cons_of_mem id hj), State.laneAt_fence (h id List.mem_cons_self)]

/-! ### Crossings presented again -/

theorem State.xing_wholes {j : Nat} {l : List Nat} (hl : ∀ id ∈ l, xClass id ≠ 9) {s : State} (hwf : Map.wf {} s.xg.x = true) :
    ((l.foldl State.whole s).xing j).e1 = (s.xing j).e1 ∧ ((l.foldl State.whole s).xing j).e2 = (s.xing j).e2 ∧
      (j ∈ l ∨ (s.xing j).st = .whole → ((l.foldl State.whole s).xing j).st = .whole) := by
  induction l generalizing s with
  | nil => exact ⟨rfl, rfl, fun h => h.resolve_left List.not_mem_nil⟩
  | cons id l ih =>
    have hclass := hl id List.mem_cons_self
    obtain ⟨h1, h2, hst⟩ := ih (fun n hn => hl n (List.mem_cons_of_mem id hn)) (s.whole_wf hclass hwf)
    rw [List.foldl_cons]
    rcases Decidable.em (j = id) with rfl | hne
    · rw [State.xing_whole s hclass hwf] at h1 h2 hst
      exact ⟨h1, h2, fun _ => hst (.inr rfl)⟩
    · rw [State.xing_whole_ne s hclass hne] at h1 h2 hst
      exact ⟨h1, h2, fun h => hst (h.imp_left fun h => (List.mem_cons.1 h).resolve_left hne)⟩

end Sys2Proof.Machine
end

section
/-! FENCE_RELEASE and PAIR_CALIBRATION_DONE, and the obligation on them (Table 7-5, R203, R209). -/
namespace Sys2Proof.Machine
open Sys2Proof.Safety

/-! ### The handle of a release -/

/-- An operation's handle exists. -/
theorem State.lt_of_op {s : State} {h : Nat} {o : LongOp} (ho : (s.handle h).op = some o) : h < 32 := by
  by_contra hge
  rw [State.handle_of_ge s hge] at ho
  cases ho

/-- The end of the one release under way. -/
theorem State.endRelease_one {s : State} {scope : ReleaseScope} {h since : Nat} {x : Option (List RegionNo)} (out : Outcome) (st : Nat)
    (hrel : s.xg.rel = [⟨scope, some h, since, x⟩]) :
    s.endRelease scope out st = ({ s with xg := { s.xg with rel := [] } } : State).finishOp h out st := by
  unfold State.endRelease
  rw [hrel]
  simp

theorem State.endRelease_spec {s : State} {scope : ReleaseScope} {h since : Nat} {x : Option (List RegionNo)} {o : LongOp} (out : Outcome)
    (st : Nat) (hrel : s.xg.rel = [⟨scope, some h, since, x⟩]) (ho : (s.handle h).op = some o) :
    (s.endRelease scope out st).xg = { s.xg with rel := [] } ∧
      ((s.endRelease scope out st).handle h).op = some (o.ended out st s.now) ∧ Only [.mbx, .xg] s (s.endRelease scope out st) := by
  rw [State.endRelease_one out st hrel]
  have honly := ({ s with xg := { s.xg with rel := [] } } : State).finishOp_only h out st
  refine ⟨honly.same .xg (by decide), ?_, ?_⟩
  · exact congrArg Handle.op (State.finishOp_spec (s := { s with xg := { s.xg with rel := [] } }) out st (State.lt_of_op ho) ho).1
  · refine Only.trans (t := { s with xg := { s.xg with rel := [] } }) ⟨fun g hg => ?_⟩ (honly.mono (by simp))
    cases g <;> simp_all

/-- A step noted in the handles of the releases of a scope. -/
def State.stepRelease (s : State) (l : List Releasing) (step : Nat) : State :=
  l.foldl (fun s e => match e.handle with
    | some h => s.modOp h fun o => { o with step := step }
    | none => s) s

/-! ### FENCE_RELEASE of one region -/

/-- The state that steps 1 and 2 leave. -/
def State.releaseReset (s : State) (scope : ReleaseScope) (rs : List RegionNo) : State :=
  ((s.releaseSet scope rs).filter s.xClocked).foldl State.releaseTurn
    (s.fenceAll ((s.releaseSet scope rs).filter fun id => !s.xClocked id))

/-- The releases of a scope, or one that no command has asked for. -/
def State.releasesOf (s : State) (scope : ReleaseScope) : List Releasing :=
  if (s.xg.rel.filter fun e => decide (e.scope = scope)).isEmpty then [⟨scope, none, s.now, none⟩]
  else s.xg.rel.filter fun e => decide (e.scope = scope)

/-- The release stands at step 3. -/
def State.releaseHeld (s : State) (scope : ReleaseScope) (rs : List RegionNo) (ok : List Nat) : State :=
  let t := s.fenceAll (ok.filter fun id => decide (xClass id ≠ 9))
  ({ t with xg := { t.xg with
      rel := t.xg.rel.filter (fun e => decide (e.scope ≠ scope)) ++ (s.releasesOf scope).map fun e => { e with rs := some rs } } } : State).stepRelease
    (s.releasesOf scope) 3

theorem State.releaseRegions_eq (s : State) (scope : ReleaseScope) (rs : List RegionNo) : s.releaseRegions scope rs [] =
    if (s.releaseReset scope rs).releaseWaits rs then
      (s.releaseReset scope rs).releaseHeld scope rs ((s.releaseSet scope rs).filter s.xClocked)
    else (s.releaseReset scope rs).releaseEnd scope rs := rfl

theorem exec_fenceRelease {r : RegionNo} {s : State} (hfw : s.fw = true) (hexists : s.regionExists r = true) (hproves : s.proves r = true)
    (hsite : s.siteFenced (siteOf r) = false) :
    exec (.fenceRelease (.region r) []) s = .next (s.releaseRegions (.region r) [r] []) := by
  have hrun : exec (.fenceRelease (.region r) []) s = execFenceRelease (.region r) [] s := rfl
  have hregions : (s.scopeRegions (.region r)).filter s.proves = [r] := by simp [State.scopeRegions, hexists, hproves]
  rw [hrun]
  unfold execFenceRelease
  rw [if_neg (by simp [hfw])]
  dsimp only
  rw [hregions, if_neg]
  rintro (h | h)
  · exact absurd h.1 (by simp)
  · exact Bool.false_ne_true (hsite.symm.trans h)

theorem State.proves_of {s : State} {r : RegionNo} (hclocked : s.clocked r = true) (hfound : (s.rgn r).rep.found = true)
    (hstopped : (s.rgn r).rep.stopped = false) : s.proves r = true := by
  simp [State.proves, hclocked, hfound, hstopped]

/-- Steps 1 and 2 keep what every step of a release keeps. -/
theorem State.releaseReset_loosed {s : State} (hreg : Regular s) (scope : ReleaseScope) (rs : List RegionNo) :
    State.Loosed s (s.releaseReset scope rs) := ((State.Loosed.refl hreg).fenceAll _).foldl fun _ id _ ht => ht.releaseTurn id

/-- A clocked crossing of the set has both epochs as its first after steps 1 and 2. -/
theorem State.xing_releaseReset {s : State} (hreg : Regular s) {scope : ReleaseScope} {rs : List RegionNo} {j : Nat} (hclass : xClass j ≠ 9)
    (hmem : j ∈ s.releaseSet scope rs) (hclocked : s.xClocked j = true) :
    ((s.releaseReset scope rs).xing j).e1 = (s.xing j).e1 ∧ ((s.releaseReset scope rs).xing j).e2 = (s.xing j).e1 := by
  have hloosed := (State.Loosed.refl hreg).fenceAll ((s.releaseSet scope rs).filter fun id => !s.xClocked id)
  have hsame : (s.fenceAll ((s.releaseSet scope rs).filter fun id => !s.xClocked id)).xing j = s.xing j := by
    refine State.xing_fenceAll_of_not_mem ?_ hreg
    simp [List.mem_filter, hclocked]
  obtain ⟨h1, h2⟩ := State.xing_releaseTurns hclass (l := (s.releaseSet scope rs).filter s.xClocked) (hloosed.keeps.regular hreg)
  rw [hsame] at h1 h2
  exact ⟨h1, h2 (.inl (List.mem_filter.2 ⟨hmem, hclocked⟩))⟩

/-- A clocked lane of the region is CALIBRATING after steps 1 and 2. -/
theorem State.laneAt_releaseReset {s : State} (hreg : Regular s) {r : RegionNo} {k : Nat} (hr : (r : Nat) < 65536) (hk : k < 4)
    (hlane : (r, k) ∈ s.regionLanes r) (hclocked : s.xClocked (laneId r k) = true) (hup : (s.laneAt r k).st ≠ .off) :
    ((s.releaseReset (.region r) [r]).laneAt r k).st = .calibrating := by
  have hloosed := (State.Loosed.refl hreg).fenceAll ((s.releaseSet (.region r) [r]).filter fun id => !s.xClocked id)
  have hsame : (s.fenceAll ((s.releaseSet (.region r) [r]).filter fun id => !s.xClocked id)).laneAt r k = s.laneAt r k := by
    refine State.laneAt_fenceAll fun id hid hclass hkey => ?_
    obtain ⟨hmem, hun⟩ := List.mem_filter.1 hid
    rw [State.releaseSet_lane_unique hr hk hmem hclass hkey, hclocked] at hun
    cases hun
  refine State.laneAt_releaseTurns (hloosed.keeps.regular hreg) (hsame ▸ hup) (.inr ⟨laneId r k, ?_, xClass_laneId hr hk, ?_⟩)
  · exact List.mem_filter.2 ⟨State.mem_releaseSet_lane (e := (r, k)) r hlane, hclocked⟩
  · rw [xInst_laneId hr, xLink_laneId hr hk]

theorem xClass_own {r n : Nat} (hr : r < 65536) (hn : n = 4 ∨ n = 5 ∨ n = 7 ∨ n = 8) : xClass (xId n r) ≠ 9 := by
  rw [xClass_xId (by omega)]
  omega

/-- A region's own crossings are clocked with it. -/
theorem State.xClocked_own {s : State} {r : RegionNo} (hr : (r : Nat) < 65536) {n : Nat} (hn : n = 4 ∨ n = 5 ∨ n = 7 ∨ n = 8)
    (h : s.clocked r = true) : s.xClocked (xId n r) = true := by
  have hclass : xClass (xId n r) = n := xClass_xId (lt_trans hr (by decide))
  have hinst : xInst (xId n r) = r := xInst_xId n hr
  unfold State.xClocked State.xRegions
  rw [hclass, hinst]
  rcases hn with rfl | rfl | rfl | rfl <;> simp [h]

end Sys2Proof.Machine
end

section
/-! The end of a release, the end of a lane's calibration, and the obligation on fences released (Table 7-5, R203, R209). -/
namespace Sys2Proof.Machine
open Sys2Proof.Safety

/-! ### Steps 4 and 5 -/

/-- Step 4: words are presented. -/
def State.releaseWhole (s : State) (scope : ReleaseScope) (rs : List RegionNo) : State :=
  (((s.releaseSet scope rs).filter s.xClocked).filter fun id => decide (xClass id ≠ 9)).foldl State.whole
    (s.modRgns rs fun _ g => { g with wsDue := true })

/-- The release is told, by its first crossing. -/
def State.releaseTold (s : State) (ok : List Nat) : State := match ok with
  | [] => s
  | id :: _ => s.raise evCrossRelease id

theorem State.releaseEnd_eq (s : State) (scope : ReleaseScope) (rs : List RegionNo) : s.releaseEnd scope rs =
    (((s.releaseWhole scope rs).releaseTold ((s.releaseSet scope rs).filter s.xClocked)).stepRelease
      (((s.releaseWhole scope rs).releaseTold ((s.releaseSet scope rs).filter s.xClocked)).xg.rel.filter fun e => decide (e.scope = scope))
      5).endRelease scope .completed stOk := rfl

theorem State.releaseTold_only (s : State) (ok : List Nat) : Only [.ev] s (s.releaseTold ok) := by
  unfold State.releaseTold
  split
  · exact (Keeps.refl s).only
  · exact (Keeps.raise_keeps (List.Subset.refl _) (.refl s) _ _).only

theorem State.stepRelease_one (s : State) {scope : ReleaseScope} {h since step : Nat} {x : Option (List RegionNo)} :
    s.stepRelease [⟨scope, some h, since, x⟩] step = s.modOp h fun o => { o with step := step } := rfl

theorem State.releaseWhole_loosed {o s : State} (h : State.Loosed o s) {r : RegionNo} (hr : (r : Nat) < 65536) :
    State.Loosed o (s.releaseWhole (.region r) [r]) :=
  (h.modRgns_ws [r]).foldl fun _ _ hid ht => ht.whole (State.releaseSet_not_ctrl hr (List.mem_filter.1 (List.mem_filter.1 hid).1).1)

/-- The end of a release of one region: its own crossings are WHOLE, and its handle ends COMPLETED. -/
theorem State.releaseEnd_spec {o s : State} (h : State.Loosed o s) (hreg : Regular o) {r : RegionNo} (hr : (r : Nat) < 65536)
    (hclocked : o.clocked r = true) {i since : Nat} {op : LongOp} (hrel : o.xg.rel = [⟨.region r, some i, since, none⟩])
    (hop : (o.handle i).op = some op) :
    (∀ n, n = 4 ∨ n = 5 ∨ n = 7 ∨ n = 8 → ((s.releaseEnd (.region r) [r]).xing (xId n r)).st = .whole ∧
      ((s.releaseEnd (.region r) [r]).xing (xId n r)).e2 = (s.xing (xId n r)).e2) ∧
      (s.releaseEnd (.region r) [r]).xg.rel = [] ∧
      ((s.releaseEnd (.region r) [r]).handle i).op = some { op with
        step := 5, st := .done, outcome := .completed, final := 0, done := o.now } ∧
      Only [.mbx, .reg, .ls, .xg, .ev] o (s.releaseEnd (.region r) [r]) := by
  have hwhole := State.releaseWhole_loosed h hr
  have hxing (n : Nat) (hn : n = 4 ∨ n = 5 ∨ n = 7 ∨ n = 8) := State.xing_wholes (j := xId n r)
    (l := ((s.releaseSet (.region r) [r]).filter s.xClocked).filter fun id => decide (xClass id ≠ 9))
    (fun id hid => of_decide_eq_true (List.mem_filter.1 hid).2) (s := s.modRgns [r] fun _ g => { g with wsDue := true })
    ((h.modRgns_ws [r]).keeps.regular hreg).crossings
  have hmem (n : Nat) (hn : n = 4 ∨ n = 5 ∨ n = 7 ∨ n = 8) :
      xId n r ∈ ((s.releaseSet (.region r) [r]).filter s.xClocked).filter fun id => decide (xClass id ≠ 9) := by
    refine List.mem_filter.2 ⟨List.mem_filter.2 ⟨s.mem_releaseSet_own r r hn, ?_⟩, decide_eq_true (xClass_own hr hn)⟩
    rw [h.xClocked]
    exact State.xClocked_own hr hn hclocked
  rw [State.releaseEnd_eq]
  have htold := (s.releaseWhole (.region r) [r]).releaseTold_only ((s.releaseSet (.region r) [r]).filter s.xClocked)
  have hxw (n : Nat) (hn : n = 4 ∨ n = 5 ∨ n = 7 ∨ n = 8) : ((s.releaseWhole (.region r) [r]).xing (xId n r)).st = .whole ∧
      ((s.releaseWhole (.region r) [r]).xing (xId n r)).e2 = (s.xing (xId n r)).e2 := by
    obtain ⟨-, h2, hst⟩ := hxing n hn
    exact ⟨hst (.inl (hmem n hn)), h2.trans (congrArg Xing.e2 (State.xing_congr (congrArg Xg.x
      ((Keeps.modRgns_keeps (List.Subset.refl _) (.refl s) [r] _).only.same .xg (by decide)) :) _))⟩
  generalize s.releaseWhole (.region r) [r] = v at *
  generalize v.releaseTold ((s.releaseSet (.region r) [r]).filter s.xClocked) = w at *
  have hxg : w.xg = v.xg := htold.same .xg (by decide)
  have hwrel : w.xg.rel = [⟨.region r, some i, since, none⟩] := by rw [hxg, hwhole.rel, hrel]
  have hfilter : (w.xg.rel.filter fun e => decide (e.scope = .region r)) = [⟨.region r, some i, since, none⟩] := by
    rw [hwrel]
    simp
  rw [hfilter, State.stepRelease_one]
  have hmbx : w.mbx = o.mbx := (htold.same .mbx (by decide)).trans (hwhole.same.2.2.2.1)
  have hwop : (w.handle i).op = some op := by
    rw [State.handle_congr (congrArg Mbx.handle hmbx)]
    exact hop
  have hstep : ((w.modOp i fun o => { o with step := 5 }).handle i).op = some { op with step := 5 } :=
    congrArg Handle.op (State.handle_modOp (State.lt_of_op hwop) hwop)
  obtain ⟨hend, hdone, honly⟩ := State.endRelease_spec .completed stOk (s := w.modOp i fun o => { o with step := 5 }) hwrel hstep
  have hnow : w.now = o.now := congrArg Sys.erg ((htold.same .sys (by decide)).trans hwhole.same.2.1)
  have hkeep : Only [.mbx, .reg, .ls, .xg, .ev] o (w.modOp i fun o => { o with step := 5 }) :=
    ((hwhole.keeps.only.mono (by simp)).trans (htold.mono (by simp))).trans
      (Keeps.modOp_keeps (gs := [.mbx, .reg, .ls, .xg, .ev]) (by simp) (.refl w) i _).only
  refine ⟨fun n hn => ?_, congrArg Xg.rel hend, ?_, hkeep.trans (honly.mono (by simp))⟩
  · have hx : ((w.modOp i fun o => { o with step := 5 }).endRelease (.region r) .completed stOk).xing (xId n r) = v.xing (xId n r) :=
      State.xing_congr ((congrArg Xg.x hend :).trans (congrArg Xg.x hxg :)) _
    rw [hx]
    exact hxw n hn
  · rw [hdone, ← hnow]
    rfl

/-- FENCE_RELEASE of a clocked region without lanes (Table 7-5). -/
theorem fenceRelease_completes {r : RegionNo} {i since : Nat} {o : LongOp} {s : State} (hreg : Regular s) (hfw : s.fw = true)
    (hexists : s.regionExists r = true) (hclocked : s.clocked r = true) (hfound : (s.rgn r).rep.found = true)
    (hstopped : (s.rgn r).rep.stopped = false) (hlanes : s.regionLanes r = []) (hsite : s.siteFenced (siteOf r) = false)
    (hrel : s.xg.rel = [⟨.region r, some i, since, none⟩]) (hop : (s.handle i).op = some o) :
    ∃ t, exec (.fenceRelease (.region r) []) s = .next t ∧
      (∀ n, n = 4 ∨ n = 5 ∨ n = 7 ∨ n = 8 → (t.xing (xId n r)).st = .whole ∧ (t.xing (xId n r)).e2 = (s.xing (xId n r)).e1) ∧
      t.xg.rel = [] ∧ (t.handle i).op = some { o with step := 5, st := .done, outcome := .completed, final := 0, done := s.now } ∧
      Only [.mbx, .reg, .ls, .xg, .ev] s t := by
  have hr : (r : Nat) < 65536 := validRegion_lt (validRegion_of_exists hexists)
  have hloosed := State.releaseReset_loosed hreg (.region r) [r]
  have hquiet : (s.releaseReset (.region r) [r]).releaseWaits [r] = false := by
    simp [State.releaseWaits, hloosed.regionLanes, hlanes]
  have hrun := exec_fenceRelease hfw hexists (State.proves_of hclocked hfound hstopped) hsite
  rw [State.releaseRegions_eq, hquiet, if_neg Bool.false_ne_true] at hrun
  obtain ⟨hxing, hend, hdone, honly⟩ := State.releaseEnd_spec hloosed hreg hr hclocked hrel hop
  refine ⟨_, hrun, fun n hn => ⟨(hxing n hn).1, (hxing n hn).2.trans ?_⟩, hend, hdone, honly⟩
  exact (State.xing_releaseReset hreg (xClass_own hr hn) (s.mem_releaseSet_own r r hn) (State.xClocked_own hr hn hclocked)).2

/-- FENCE_RELEASE of a clocked region that waits for a lane of its own (Table 7-5, step 3). -/
theorem fenceRelease_waits {r : RegionNo} {k i since : Nat} {o : LongOp} {s : State} (hreg : Regular s) (hfw : s.fw = true)
    (hexists : s.regionExists r = true) (hclocked : s.clocked r = true) (hfound : (s.rgn r).rep.found = true)
    (hstopped : (s.rgn r).rep.stopped = false) (hk : k < 4) (hlink : (s.linkEnd r k).isSome = true)
    (hlane : s.xClocked (laneId r k) = true) (hup : (s.laneAt r k).st ≠ .off) (hsite : s.siteFenced (siteOf r) = false)
    (hrel : s.xg.rel = [⟨.region r, some i, since, none⟩]) (hop : (s.handle i).op = some o) :
    ∃ t, exec (.fenceRelease (.region r) []) s = .next t ∧ (t.laneAt r k).st = .calibrating ∧
      (∀ n, n = 4 ∨ n = 5 ∨ n = 7 ∨ n = 8 → (t.xing (xId n r)).st = .fenced) ∧
      t.xg.rel = [⟨.region r, some i, since, some [r]⟩] ∧ (t.handle i).op = some { o with step := 3 } := by
  have hr : (r : Nat) < 65536 := validRegion_lt (validRegion_of_exists hexists)
  have hmem : (r, k) ∈ s.regionLanes r := by
    obtain ⟨⟨p, k'⟩, he⟩ := Option.isSome_iff_exists.1 hlink
    simp only [State.regionLanes, List.mem_flatMap, List.mem_range]
    exact ⟨k, hk, by rw [he]; exact List.mem_cons_self⟩
  have hloosed := State.releaseReset_loosed hreg (.region r) [r]
  have hcal := State.laneAt_releaseReset hreg hr hk hmem hlane hup
  have hwaits : (s.releaseReset (.region r) [r]).releaseWaits [r] = true := by
    unfold State.releaseWaits
    rw [List.any_eq_true]
    refine ⟨(r, k), ?_, decide_eq_true hcal⟩
    rw [List.mem_flatMap]
    exact ⟨r, List.mem_singleton_self r, by rw [hloosed.regionLanes]; exact hmem⟩
  have hrun := exec_fenceRelease hfw hexists (State.proves_of hclocked hfound hstopped) hsite
  rw [State.releaseRegions_eq, hwaits, if_pos rfl] at hrun
  refine ⟨_, hrun, ?_⟩
  clear hrun hwaits
  have hok (n : Nat) (hn : n = 4 ∨ n = 5 ∨ n = 7 ∨ n = 8) :
      xId n r ∈ ((s.releaseSet (.region r) [r]).filter s.xClocked).filter fun id => decide (xClass id ≠ 9) :=
    List.mem_filter.2 ⟨List.mem_filter.2 ⟨s.mem_releaseSet_own r r hn, State.xClocked_own hr hn hclocked⟩, decide_eq_true (xClass_own hr hn)⟩
  have hurel := hloosed.rel.trans hrel
  have huop : ((s.releaseReset (.region r) [r]).handle i).op = some o := by
    rw [State.handle_congr (congrArg Mbx.handle hloosed.same.2.2.2.1)]
    exact hop
  have hregu : Regular (s.releaseReset (.region r) [r]) := hloosed.keeps.regular hreg
  generalize s.releaseReset (.region r) [r] = u at *
  generalize (s.releaseSet (.region r) [r]).filter s.xClocked = ok at *
  have hfenced := (State.Loosed.refl hregu).fenceAll (ok.filter fun id => decide (xClass id ≠ 9))
  have hmine : u.releasesOf (.region r) = [⟨.region r, some i, since, none⟩] := by
    simp [State.releasesOf, hurel]
  unfold State.releaseHeld
  rw [hmine]
  dsimp only
  rw [hfenced.rel, hurel, State.stepRelease_one]
  have hxf (n : Nat) (hn : n = 4 ∨ n = 5 ∨ n = 7 ∨ n = 8) :=
    State.fenceAll_fenced (hok n hn) (xClass_own hr hn) hregu
  have hlf : (u.fenceAll (ok.filter fun id => decide (xClass id ≠ 9))).laneAt r k = u.laneAt r k :=
    State.laneAt_fenceAll fun id hid hclass => absurd hclass (of_decide_eq_true (List.mem_filter.1 hid).2)
  have hopf : ((u.fenceAll (ok.filter fun id => decide (xClass id ≠ 9))).handle i).op = some o := by
    rw [State.handle_congr (congrArg Mbx.handle hfenced.same.2.2.2.1)]
    exact huop
  generalize u.fenceAll (ok.filter fun id => decide (xClass id ≠ 9)) = v at *
  refine ⟨(congrArg Lane.st hlf).trans hcal, fun n hn => hxf n hn, by simp [State.modOp, State.modHandle], ?_⟩
  exact congrArg Handle.op (State.handle_modOp (s := { v with xg := { v.xg with rel := _ } }) (State.lt_of_op hopf) hopf)

/-- FENCE_RELEASE of a region that is not clocked ends FAILED. -/
theorem fenceRelease_fails {r : RegionNo} {i since : Nat} {o : LongOp} {dl : List (RegionNo × Nat × Nat)} {s : State} (hfw : s.fw = true)
    (hstopped : s.clocked r = false) (hrel : s.xg.rel = [⟨.region r, some i, since, none⟩]) (hop : (s.handle i).op = some o) :
    ∃ t, exec (.fenceRelease (.region r) dl) s = .next t ∧ t.xg = { s.xg with rel := [] } ∧
      (t.handle i).op = some { o with st := .done, outcome := .failed, final := 0x50, done := s.now } ∧ Only [.mbx, .xg] s t := by
  have hrun : exec (.fenceRelease (.region r) dl) s = execFenceRelease (.region r) dl s := rfl
  have hnone : (s.scopeRegions (.region r)).filter s.proves = [] := by
    rw [List.filter_eq_nil_iff]
    intro q hq
    have hqr : q = r := by
      unfold State.scopeRegions at hq
      dsimp only at hq
      split at hq
      · exact List.mem_singleton.1 hq
      · exact absurd hq List.not_mem_nil
    rw [hqr]
    simp [State.proves, hstopped]
  rw [hrun]
  unfold execFenceRelease
  rw [if_neg (by simp [hfw])]
  dsimp only
  rw [hnone, if_pos (.inl ⟨rfl, rfl⟩)]
  exact ⟨_, rfl, State.endRelease_spec .failed stRefused hrel hop⟩

end Sys2Proof.Machine
end

section
/-! PAIR_CALIBRATION_DONE, and the obligation on fences released (Table 7-5, R203, R209). -/
namespace Sys2Proof.Machine
open Sys2Proof.Safety

/-- A lane that is written other than the default reads back, however the table stands. -/
theorem State.laneAt_modLane_of_ne (s : State) (r : RegionNo) (k : Nat) (f : Lane → Lane) (h : f (s.laneAt r k) ≠ {}) :
    (s.modLane r k f).laneAt r k = f (s.laneAt r k) := by
  unfold State.modLane
  generalize f (s.laneAt r k) = v at *
  unfold State.laneAt Map.put
  rw [if_neg h]
  exact Map.get_insert_self _ _ _ _

/-- What a calibration within the limit leaves in a lane (R203). -/
def State.laneCalibrated (s : State) (r : RegionNo) (k dlane : Nat) (l : Lane) : Lane := { l with
  st := .aligned, delta := 0, slipped := false, dlane := dlane, valid := true, words := [none, none], quiet := 0
  quietNow := false, forceRealign := false, tNext := none, tOwn := none, markers := 0
  fSrc := 0, fDst := 0, due := false, stall := false, step := false
  tSrc := match s.linkEnd r k with
    | some (p, _) => (s.rgn p).tg
    | none => l.tSrc
  tDst := (s.rgn r).tg }

/-- What a calibration beyond the limit leaves in a lane. -/
def Lane.uncalibrated (dlane : Nat) (l : Lane) : Lane := { l with st := .off, dlane := dlane, valid := false, markers := 0 }

theorem State.laneResult_within (s : State) (r : RegionNo) {k dlane : Nat} (h : dlane ≤ 160) :
    s.laneResult r k dlane = s.modLane r k (s.laneCalibrated r k dlane) := if_pos h

theorem State.laneResult_beyond (s : State) (r : RegionNo) {k dlane : Nat} (h : 160 < dlane) :
    s.laneResult r k dlane = (s.modLane r k (Lane.uncalibrated dlane)).raise evPbCalFail (laneId r k) := if_neg (Nat.not_le.2 h)

theorem State.laneResult_rel (s : State) (r : RegionNo) (k dlane : Nat) :
    (s.laneResult r k dlane).xg.rel = s.xg.rel ∧ (s.laneResult r k dlane).opt = s.opt := by
  rcases Nat.lt_or_ge 160 dlane with h | h
  · rw [State.laneResult_beyond s r h]
    have honly := (Keeps.raise_keeps (gs := [.ev]) (List.Subset.refl _) (.refl (s.modLane r k (Lane.uncalibrated dlane))) evPbCalFail (laneId r k)).only
    exact ⟨(congrArg Xg.rel (honly.same .xg (by decide)) :), (honly.same .opt (by decide) :)⟩
  · rw [State.laneResult_within s r h]
    exact ⟨rfl, rfl⟩

/-- Without a release that waits for lanes, none goes on. -/
theorem State.releasesGo_of_none {s : State} (h : ∀ e ∈ s.xg.rel, e.rs = none) : s.releasesGo = s :=
  List.foldlRecOn (motive := fun t : State => t = s) _ _ rfl fun t ht e he => by
    rw [h e he]
    exact ht

/-- Without an insertion of a region's spare pair, none ends. -/
theorem State.pairsReleased_of_none {s : State} (h : ∀ y ∈ s.opt.ins, y.kind ≠ 4) : s.pairsReleased = s := by
  have hnil : (s.opt.ins.filter fun y => decide (y.kind = 4 ∧ y.step = 5) && !s.xg.rel.any fun e => decide (e.scope = .region y.target)) = [] :=
    List.filter_eq_nil_iff.2 fun y hy => by simp [h y hy]
  unfold State.pairsReleased
  rw [hnil]
  rfl

/-- How a calibration of a lane that awaits it ends. -/
theorem exec_pairCalibrationDone {r : RegionNo} {k : Fin 4} {s : State} (dlane : Nat) (hlink : (s.linkEnd r k).isSome = true)
    (hcal : (s.laneAt r k).st = .calibrating) (hwhole : s.xState (laneId r k) = .whole) (hrel : ∀ e ∈ s.xg.rel, e.rs = none)
    (hins : ∀ y ∈ s.opt.ins, y.kind ≠ 4) :
    exec (.pairCalibrationDone r k dlane) s = if ((s.laneResult r k dlane).laneAt r k).st = .aligned then
      .next ((s.laneResult r k dlane).answerAll (fun w => decide (w = .pairRecal r k)) (okReply (toLE 4 ((s.laneResult r k dlane).pbLink r k))))
    else .next ((s.laneResult r k dlane).answerAll (fun w => decide (w = .pairRecal r k)) (codeReply stRefused)) := by
  have hrun : exec (.pairCalibrationDone r k dlane) s = execPairCalibrationDone r k dlane s := rfl
  have hnolink : ¬ ((s.linkEnd r k).isNone ∨ (s.laneAt r k).st ≠ .calibrating) := by
    rintro (hnone | hne)
    · rw [Option.isNone_iff_eq_none.1 hnone] at hlink
      exact Bool.false_ne_true hlink
    · exact hne hcal
  obtain ⟨hrel', hopt'⟩ := s.laneResult_rel r k dlane
  have hgo : (s.laneResult r k dlane).releasesGo.pairsReleased = s.laneResult r k dlane := by
    rw [State.releasesGo_of_none (by rw [hrel']; exact hrel), State.pairsReleased_of_none (by rw [hopt']; exact hins)]
  rw [hrun]
  unfold execPairCalibrationDone
  simp only [State.xBlock_of_whole hwhole, if_neg hnolink, hgo]

/-- PAIR_CALIBRATION_DONE of a lane whose calibration no request awaits (R203). -/
theorem pairCalibrationDone_quiet {r : RegionNo} {k : Fin 4} {s : State} (dlane : Nat) (hreg : Regular s) (hlink : (s.linkEnd r k).isSome = true)
    (hcal : (s.laneAt r k).st = .calibrating) (hwait : (s.findWait fun w => decide (w = .pairRecal r k)) = none)
    (hwhole : s.xState (laneId r k) = .whole) (hrel : ∀ e ∈ s.xg.rel, e.rs = none) (hins : ∀ y ∈ s.opt.ins, y.kind ≠ 4) :
    ∃ t, exec (.pairCalibrationDone r k dlane) s = .next t ∧
      (dlane ≤ 160 → (t.laneAt r k).st = .aligned ∧ (t.laneAt r k).delta = 0 ∧ (t.laneAt r k).dlane = dlane ∧
        (t.laneAt r k).valid = true ∧ (t.laneAt r k).tDst = (s.rgn r).tg ∧ (t.laneAt r k).markers = 0 ∧ Only [.xg] s t) ∧
      (160 < dlane → (t.laneAt r k).st = .off ∧ (t.laneAt r k).valid = false ∧ t.ev = (s.raise evPbCalFail (laneId r k)).ev) ∧
      (∀ r' j, 4 * r' + j ≠ 4 * r + k.val → t.laneAt r' j = s.laneAt r' j) ∧ Only [.xg, .ev] s t := by
  have hexec := exec_pairCalibrationDone dlane hlink hcal hwhole hrel hins
  have hbox : (s.laneResult r k dlane).mbx = s.mbx :=
    (Keeps.laneResult_keeps (gs := [.xg, .ev]) (List.Subset.refl _) (.refl s) r k dlane).only.same .mbx (by decide)
  have hquiet (x : Reply) : (s.laneResult r k dlane).answerAll (fun w => decide (w = .pairRecal r k)) x = s.laneResult r k dlane :=
    State.answerAll_of_findWait_none x ((State.findWait_congr _ (congrArg Mbx.box hbox)).trans hwait)
  rw [hquiet, hquiet, ite_self] at hexec
  refine ⟨_, hexec, ?_⟩
  clear hexec hquiet hbox
  rcases Nat.lt_or_ge 160 dlane with h | h
  · rw [State.laneResult_beyond s r h]
    have hset := (State.LaneSet.refl r k.val hreg.lanes).modLane (Lane.uncalibrated dlane)
    have hraise := (Keeps.raise_keeps (gs := [.ev]) (List.Subset.refl _) (.refl (s.modLane r k (Lane.uncalibrated dlane))) evPbCalFail (laneId r k)).only
    have hev := State.raise_ev_congr (s := s) (t := s.modLane r k (Lane.uncalibrated dlane)) evPbCalFail (laneId r k) rfl rfl rfl
    generalize (s.modLane r k (Lane.uncalibrated dlane)).raise evPbCalFail (laneId r k) = t at *
    have hlane (r' : RegionNo) (j : Nat) : t.laneAt r' j = (s.modLane r k (Lane.uncalibrated dlane)).laneAt r' j :=
      (congrArg (fun x : Xg => Map.get ({} : Lane) x.lane (laneKey r' j)) (hraise.same .xg (by decide)) :)
    exact ⟨fun hle => absurd hle (Nat.not_le.2 h), fun _ => ⟨by rw [hlane, hset.self]; rfl, by rw [hlane, hset.self]; rfl, hev⟩,
      fun r' j hne => (hlane r' j).trans (hset.others r' j hne), (hset.only.mono (by simp)).trans (hraise.mono (by simp))⟩
  · rw [State.laneResult_within s r h]
    have hset := (State.LaneSet.refl r k.val hreg.lanes).modLane (s.laneCalibrated r k dlane)
    refine ⟨fun _ => ?_, fun hlt => absurd hlt (Nat.not_lt.2 h), hset.others, hset.only.mono (by simp)⟩
    rw [hset.self]
    exact ⟨rfl, rfl, rfl, rfl, rfl, rfl, hset.only⟩

/-- PAIR_CALIBRATION_DONE of a lane whose calibration a request awaits (R203). -/
theorem pairCalibrationDone_answers {r : RegionNo} {k : Fin 4} {dlane : Nat} {b : Fin 8} {s : State} (hlink : (s.linkEnd r k).isSome = true)
    (hcal : (s.laneAt r k).st = .calibrating) (hwait : (s.findWait fun w => decide (w = .pairRecal r k)) = some b)
    (hwhole : s.xState (laneId r k) = .whole) (hone : ∀ n, n ≠ b → (s.box n).wait ≠ some (.pairRecal r k))
    (hrel : ∀ e ∈ s.xg.rel, e.rs = none) (hins : ∀ y ∈ s.opt.ins, y.kind ≠ 4) (hle : dlane ≤ 160) :
    ∃ u : State, exec (.pairCalibrationDone r k dlane) s = .next (u.answer b (okReply (toLE 4 (u.pbLink r k)))) ∧ Only [.xg] s u := by
  have hexec := exec_pairCalibrationDone dlane hlink hcal hwhole hrel hins
  rw [State.laneResult_within s r hle] at hexec
  have haligned : ((s.modLane r k (s.laneCalibrated r k dlane)).laneAt r k).st = .aligned := by
    rw [State.laneAt_modLane_of_ne]
    · rfl
    · exact fun he => absurd (congrArg Lane.st he) (by simp [State.laneCalibrated])
  have hbox (n : Fin 8) : (s.modLane r k (s.laneCalibrated r k dlane)).box n = s.box n := rfl
  have honly : Only [.xg] s (s.modLane r k (s.laneCalibrated r k dlane)) := (Keeps.modLane_keeps (List.Subset.refl _) (.refl s) r k _).only
  rw [if_pos haligned] at hexec
  generalize s.modLane r k (s.laneCalibrated r k dlane) = u at *
  obtain ⟨hst, w, hw, hp⟩ := State.findWait_spec hwait
  refine ⟨u, hexec.trans (congrArg Host.Outcome.next ?_), honly⟩
  refine State.answerAll_of_one _ (by rw [hbox]; exact hst) (by rw [hbox]; exact hw) hp fun n hn w' hw' => ?_
  rw [hbox] at hw'
  exact decide_eq_false fun he => hone n hn (hw'.trans (congrArg some he))

/-- Settles O58: a release that goes on leaves the region's own crossings WHOLE, waits at step 3 for its lanes or fails; and
a calibration that is done writes its lane and answers the request that waits for it. -/
theorem fencesAreReleased : Obligations.FencesAreReleased := by
  unfold Obligations.FencesAreReleased
  refine ⟨?_, ?_, ?_, ?_, ?_⟩
  · intro r h since o s hreg hfw hexists hclocked hfound hstopped hlanes hsite hrel hop
    exact fenceRelease_completes hreg hfw hexists hclocked hfound hstopped hlanes hsite hrel hop
  · intro r k h since o s hreg hfw hexists hclocked hfound hstopped hk hlink hlane hup hsite hrel hop
    exact fenceRelease_waits hreg hfw hexists hclocked hfound hstopped hk hlink hlane hup hsite hrel hop
  · intro r h since o dl s hfw hstopped hrel hop
    exact fenceRelease_fails hfw hstopped hrel hop
  · intro r k dlane s hreg hlink hcal hwait hwhole hrel hins
    exact pairCalibrationDone_quiet dlane hreg hlink hcal hwait hwhole hrel hins
  · intro r k dlane b s hlink hcal hwait hwhole hone hrel hins hle
    exact pairCalibrationDone_answers hlink hcal hwait hwhole hone hrel hins hle

end Sys2Proof.Machine
end

section
/-! The commands of crossings (R203, R220, R331). -/
namespace Sys2Proof.Machine
open Sys2Proof.Safety

/-! ### CROSS_QUERY -/

theorem posted_selstat (s : State) (op : Nat) (q : Req) (id : Nat) : (posted s op q).selstat id = s.selstat id := rfl

theorem posted_xExists (s : State) (op : Nat) (q : Req) (id : Nat) : (posted s op q).xExists id = s.xExists id := rfl

theorem posted_linkEnd (s : State) (op : Nat) (q : Req) (r : RegionNo) (k : Nat) : (posted s op q).linkEnd r k = s.linkEnd r k := rfl

theorem posted_pbLink (s : State) (op : Nat) (q : Req) (r : RegionNo) (k : Nat) : (posted s op q).pbLink r k = s.pbLink r k := rfl

theorem exec_crossQuery_one {q : Req} {s : State} (hready : ready s 0x0701 q = true) (hscope : q.u8 0 = 0) (htgt : q.tgt = 0)
    (hexists : s.xExists (q.le 4 4) = true) :
    exec (.crossQuery q) s = .next ((posted s 0x0701 q).answer q.mbx (okReply (toLE 4 (q.le 4 4) ++ toLE 4 (s.selstat (q.le 4 4))))) := by
  refine congrArg Host.Outcome.next (State.submit_done (by decide) hready ?_)
  unfold cmdCrossQuery
  rw [if_pos hscope, if_neg (by simp [htgt]), if_neg (by rw [posted_xExists, hexists]; decide), State.xPair, posted_selstat]

theorem exec_crossQuery_region {q : Req} {s : State} (hready : ready s 0x0701 q = true) (hscope : q.u8 0 = 1)
    (hexists : s.regionExists q.tgt = true) :
    let ids := [xId 4 q.tgt, xId 5 q.tgt, xId 7 q.tgt, xId 8 q.tgt] ++
      ((List.range 4).filter fun k => (s.linkEnd q.tgt k).isSome).map (laneId q.tgt)
    exec (.crossQuery q) s = .next ((posted s 0x0701 q).answer q.mbx (okReply (toLE 4 ids.length ++
      (ids.flatMap fun i => toLE 4 i ++ toLE 4 (s.selstat i)) ++ (List.range 4).flatMap fun k => toLE 4 (s.pbLink q.tgt k)))) := by
  refine congrArg Host.Outcome.next (State.submit_done (by decide) hready ?_)
  have htarget : (posted s 0x0701 q).regionTarget q = none := State.regionTarget_of_exists (by rw [posted_regionExists]; exact hexists)
  have hpair : (posted s 0x0701 q).xPair = fun i => toLE 4 i ++ toLE 4 (s.selstat i) := rfl
  unfold cmdCrossQuery
  rw [if_neg (by rw [hscope]; decide), if_pos hscope]
  simp only [htarget, hpair, posted_linkEnd, posted_pbLink]

/-! ### CROSS_RESET -/

/-- What CROSS_RESET leaves of a crossing whose sides are clocked (R220). -/
def State.crossReset (s : State) (id : Nat) : State :=
  if s.xState id = .fenced then s.resetContents id
  else if s.xState id = .torn then ((s.resetContents id).whole id).raise evCrossJoint id else (s.resetContents id).whole id

theorem exec_crossReset {q : Req} {s : State} (hready : ready s 0x0702 q = true) (hexists : s.xExists (q.le 0 4) = true)
    (hclocked : s.xClocked (q.le 0 4) = true) :
    exec (.crossReset q) s = .next (((posted s 0x0702 q).crossReset (q.le 0 4)).answer q.mbx
      (okReply (toLE 4 (((posted s 0x0702 q).crossReset (q.le 0 4)).selstat (q.le 0 4))))) := by
  have hclocked' : (posted s 0x0702 q).xClocked (q.le 0 4) = true := hclocked
  refine congrArg Host.Outcome.next (State.submit_done (by decide) hready ?_)
  unfold cmdCrossReset
  dsimp only
  rw [if_neg (by rw [posted_xExists, hexists]; decide), if_neg (by rw [hclocked']; decide)]
  rfl

theorem exec_crossReset_unclocked {q : Req} {s : State} (hready : ready s 0x0702 q = true) (hexists : s.xExists (q.le 0 4) = true)
    (hstopped : s.xClocked (q.le 0 4) = false) :
    exec (.crossReset q) s = .next ((posted s 0x0702 q).answer q.mbx { status := 0x30 }) := by
  have hstopped' : (posted s 0x0702 q).xClocked (q.le 0 4) = false := hstopped
  refine congrArg Host.Outcome.next (State.submit_done (by decide) hready ?_)
  unfold cmdCrossReset
  dsimp only
  rw [if_neg (by rw [posted_xExists, hexists]; decide), if_pos (by rw [hstopped']; rfl)]
  rfl

theorem State.resetContents_only (s : State) (id : Nat) : Only [.ctl, .reg, .ls, .xg] s (s.resetContents id) :=
  (Keeps.resetContents_keeps (by decide) (.refl s) id).only

theorem State.resetWhole_only (s : State) (id : Nat) : Only [.ctl, .reg, .ls, .xg] s ((s.resetContents id).whole id) :=
  (Keeps.whole_keeps (List.Subset.refl _) (.resetContents_keeps (by decide) (.refl s) id) id).only

/-- A crossing that is no lane, its contents reset and words presented again. -/
theorem State.xing_resetWhole {s : State} {id : Nat} (hclass : xClass id ≠ 9) (hwf : Map.wf {} s.xg.x = true) :
    (((s.resetContents id).whole id).xing id).e2 = (s.xing id).e1 ∧ (((s.resetContents id).whole id).xing id).st = .whole := by
  obtain ⟨n, hx⟩ := s.xing_resetContents hclass hwf
  rw [State.xing_whole _ hclass (s.resetContents_wf hclass hwf), hx]
  exact ⟨rfl, rfl⟩

theorem State.xing_raise (s : State) (ev arg j : Nat) : (s.raise ev arg).xing j = s.xing j :=
  State.xing_congr ((congrArg Xg.x ((Keeps.raise_keeps (gs := [Group.ev]) (List.Subset.refl _) (Keeps.refl s) ev arg).only.same .xg (by decide)) :)) j

/-- CROSS_RESET repairs a tear and leaves a fence in place (R220). -/
theorem State.crossReset_spec {s : State} {id : Nat} (hclass : xClass id ≠ 9) (hwf : Map.wf {} s.xg.x = true) :
    ((s.crossReset id).xing id).e2 = (s.xing id).e1 ∧
      (s.xState id = .torn → ((s.crossReset id).xing id).st = .whole ∧ (s.crossReset id).ev = (s.raise evCrossJoint id).ev) ∧
      (s.xState id = .fenced → ((s.crossReset id).xing id).st = (s.xing id).st ∧ (s.crossReset id).ev = s.ev) ∧
      (∀ j, j ≠ id → (s.crossReset id).xing j = s.xing j) ∧ Only [.ctl, .reg, .ls, .xg, .ev] s (s.crossReset id) := by
  have hcontents := s.resetContents_only id
  have hwhole := s.resetWhole_only id
  obtain ⟨he2, hst⟩ := State.xing_resetWhole hclass hwf
  have hne (j : Nat) (hj : j ≠ id) : ((s.resetContents id).whole id).xing j = s.xing j :=
    (State.xing_whole_ne _ hclass hj).trans (s.xing_resetContents_ne hclass hj)
  unfold State.crossReset
  split
  · next hf =>
    obtain ⟨n, hx⟩ := s.xing_resetContents hclass hwf
    refine ⟨by rw [hx], fun ht => absurd (hf.symm.trans ht) (by decide), fun _ => ⟨by rw [hx], hcontents.same .ev (by decide)⟩,
      fun j hj => s.xing_resetContents_ne hclass hj, hcontents.mono (by simp)⟩
  · next hf =>
    split
    · next ht =>
      have hsys := hwhole.same .sys (by decide)
      have hev := State.raise_ev_congr evCrossJoint id (congrArg Sys.epoch hsys) (congrArg Sys.erg hsys) (hwhole.same .ev (by decide))
      have hraise := (Keeps.raise_keeps (List.Subset.refl [Group.ev]) (Keeps.refl ((s.resetContents id).whole id)) evCrossJoint id).only
      refine ⟨by rw [State.xing_raise]; exact he2, fun _ => ⟨by rw [State.xing_raise]; exact hst, hev⟩, fun h => absurd h hf,
        fun j hj => by rw [State.xing_raise]; exact hne j hj, (hwhole.mono (by simp)).trans (hraise.mono (by simp))⟩
    · next ht =>
      exact ⟨he2, fun h => absurd h ht, fun h => absurd h hf, hne, hwhole.mono (by simp)⟩

/-! ### CROSS_RELEASE -/

theorem State.setReleases_only (s : State) (l : List Releasing) : Only [.mbx, .xg] s { s with xg := { s.xg with rel := l } } :=
  ⟨fun g hg => by
    cases g with
    | xg => exact absurd (by simp) hg
    | _ => rfl⟩

theorem exec_crossRelease {q : Req} {i : Nat} {s : State} (hready : ready s 0x0703 q = true) (hscope : q.u8 0 = 0)
    (hexists : s.regionExists q.tgt = true) (hsite : s.siteFenced (siteOf q.tgt) = false) (hrel : s.xg.rel = [])
    (hfree : s.freeHandle (decide (q.mbx = 7)) = some i) :
    ∃ t, exec (.crossRelease q) s = .next (t.answer q.mbx { status := 0x01, handle := some (s.handleNo i) }) ∧
      t.xg = { s.xg with rel := [⟨.region q.tgt, some i, s.now, none⟩] } ∧
      (∃ o, t.handle i = { gen := (s.handle i).gen, op := some o } ∧ o.kind = .crossRelease ∧ o.st = .running ∧
        o.starter = some q.mbx ∧ o.target = q.tgt) ∧ (∀ j, j ≠ i → t.handle j = s.handle j) ∧ Only [.mbx, .xg] s t := by
  have hfree' : (posted s 0x0703 q).freeHandle (decide (q.mbx = 7)) = some i := hfree
  have hexists' : (posted s 0x0703 q).regionExists q.tgt = true := by rw [posted_regionExists]; exact hexists
  have htarget := State.regionTarget_of_exists hexists'
  have hregions : (posted s 0x0703 q).scopeRegions (.region q.tgt) = [q.tgt] := if_pos hexists'
  have hsite' : ¬ (posted s 0x0703 q).siteFenced (scopeSite (.region q.tgt)) = true := by
    rw [show (posted s 0x0703 q).siteFenced (scopeSite (.region q.tgt)) = s.siteFenced (siteOf q.tgt) from rfl, hsite]
    decide
  have hrel' : (posted s 0x0703 q).xg.rel = [] := hrel
  have hcmd : ∃ op : LongOp, op.kind = .crossRelease ∧ op.st = .running ∧ op.target = q.tgt ∧ cmdCrossRelease q (posted s 0x0703 q) =
      (posted s 0x0703 q).startOp q op fun i s => { s with xg := { s.xg with rel := s.xg.rel ++ [⟨.region q.tgt, some i, s.now, none⟩] } } := by
    refine ⟨{ newOp .crossRelease .running (posted s 0x0703 q).now with target := q.tgt, scope := q.u8 0, step := 1 }, rfl, rfl, rfl, ?_⟩
    unfold cmdCrossRelease
    rw [if_pos hscope]
    simp only [htarget, hregions, hrel', if_neg hsite', List.isEmpty_cons, Bool.false_eq_true, false_and, if_false, List.any_nil]
  obtain ⟨op, hkind, hst, htgt, hcmd⟩ := hcmd
  rw [State.startOp_of_free op _ hfree'] at hcmd
  refine ⟨_, congrArg Host.Outcome.next (State.submit_done (by decide) hready hcmd), ?_, ?_, ?_, ?_⟩
  · exact congrArg (fun l : List Releasing => ({ s.xg with rel := l ++ [⟨.region q.tgt, some i, s.now, none⟩] } : Xg)) hrel
  · refine ⟨{ op with starter := some q.mbx, start := s.now, timer := s.now, async := bitOf (q.flags.setWidth 32) 3 }, ?_, hkind, hst, rfl, htgt⟩
    exact (posted s 0x0703 q).handle_modHandle _ (State.freeHandle_lt hfree)
  · exact fun j hj => (posted s 0x0703 q).handle_modHandle_ne _ hj
  · have hhandle := (Keeps.modHandle_keeps (List.Subset.refl [Group.mbx]) (Keeps.refl (posted s 0x0703 q)) i fun x => { x with op := some { op with
        starter := some q.mbx, start := s.now, timer := s.now, async := bitOf (q.flags.setWidth 32) 3 } }).only
    refine (((posted_only s 0x0703 q).trans hhandle).mono (by simp)).trans ?_
    exact State.setReleases_only _ _

/-! ### PAIR_RECAL -/

theorem exec_pairRecal {q : Req} {s : State} (hready : ready s 0x0704 q = true) (hexists : s.regionExists q.tgt = true) (hk : q.u8 0 ≤ 3)
    (hlink : (s.linkEnd q.tgt (q.u8 0)).isSome = true) (hwhole : s.xState (laneId q.tgt (q.u8 0)) = .whole) :
    exec (.pairRecal q) s = .next (((posted s 0x0704 q).modLane q.tgt (q.u8 0) fun l => { l with
      st := .calibrating, before := l.st, markers := 64 }).modBox q.mbx fun b => { b with wait := some (.pairRecal q.tgt (q.u8 0)) }) := by
  have htarget : (posted s 0x0704 q).regionTarget q = none := State.regionTarget_of_exists (by rw [posted_regionExists]; exact hexists)
  have hblock : (posted s 0x0704 q).xBlock (laneId q.tgt (q.u8 0)) = none := State.xBlock_of_whole hwhole
  have hlinked : ¬ (3 < q.u8 0 ∨ ((posted s 0x0704 q).linkEnd q.tgt (q.u8 0)).isNone = true) := by
    rw [posted_linkEnd]
    rintro (h | h)
    · omega
    · rw [Option.isNone_iff_eq_none.1 h] at hlink
      exact Bool.false_ne_true hlink
  refine congrArg Host.Outcome.next (State.submit_wait (by decide) hready ?_)
  unfold cmdPairRecal
  simp only [htarget, if_neg hlinked, hblock]
  rfl

/-- Settles O59: each command is one branch of its definition on the state that the request leaves as it is posted. -/
theorem crossingCommands : Obligations.CrossingCommands := by
  unfold Obligations.CrossingCommands
  refine ⟨?_, ?_, ?_, ?_, ?_, ?_⟩
  · intro q s hready hscope htgt hexists
    exact exec_crossQuery_one hready hscope htgt hexists
  · intro q s hready hscope hexists
    exact exec_crossQuery_region hready hscope hexists
  · intro q s hreg hready i hexists hclass hclocked
    have hposted := posted_only s 0x0702 q
    have hreg' : Map.wf {} (posted s 0x0702 q).xg.x = true := hreg.crossings
    obtain ⟨he2, htorn, hfenced, hne, honly⟩ := State.crossReset_spec hclass hreg'
    have hev := State.raise_ev_congr (s := s) (t := posted s 0x0702 q) evCrossJoint i rfl rfl rfl
    exact ⟨_, exec_crossReset hready hexists hclocked, he2, fun h => ⟨(htorn h).1, (htorn h).2.trans hev⟩, hfenced, hne,
      (hposted.mono (by simp)).trans (honly.mono (by simp))⟩
  · intro q s hready hexists hstopped
    exact exec_crossReset_unclocked hready hexists hstopped
  · intro q i s hready hscope hexists hsite hrel hfree
    exact exec_crossRelease hready hscope hexists hsite hrel hfree
  · intro q s hready hexists hk hlink hwhole
    exact exec_pairRecal hready hexists hk hlink hwhole

end Sys2Proof.Machine
end

section
/-! SUPPORT. Erg time and the slots under an Erg edge: nothing but the edge itself moves them (R101, R104). -/
namespace Sys2Proof.Machine
open Sys2Proof.Safety

/-- Erg time, and the slots sent. -/
def State.timing (s : State) : Nat × Option Slot1 × Option Slot1 := (s.sys.erg, s.et.slot, s.et.prevSlot)

theorem State.timing_of_keeps {gs : List Group} {s t : State} (h : Keeps gs s t) (hsys : Group.sys ∉ gs) (het : Group.et ∉ gs) :
    t.timing = s.timing := by
  have hs : t.sys = s.sys := h.only.same .sys hsys
  have he : t.et = s.et := h.only.same .et het
  simp only [State.timing, hs, he]

theorem State.timing_foldl {α : Type} {f : State → α → State} (hf : ∀ s x, (f s x).timing = s.timing) (l : List α) (s : State) :
    (l.foldl f s).timing = s.timing :=
  List.foldlRecOn (motive := fun t : State => t.timing = s.timing) _ _ rfl fun t ht x _ => (hf t x).trans ht

/-! ### A record -/

theorem State.timing_emit (s : State) (r : RegionNo) (kind aux cycle value : Nat) : (s.emit r kind aux cycle value).timing = s.timing :=
  State.timing_of_keeps (Keeps.emit_keeps (List.Subset.refl _) (.refl s) r kind aux cycle value) (by decide) (by decide)

theorem State.timing_raise (s : State) (id arg : Nat) : (s.raise id arg).timing = s.timing :=
  State.timing_of_keeps (Keeps.raise_keeps (List.Subset.refl _) (.refl s) id arg) (by decide) (by decide)

theorem State.timing_flushTarget (s : State) (r : RegionNo) : (s.flushTarget r).timing = s.timing := by
  unfold State.flushTarget
  split
  · exact State.timing_emit _ _ _ _ _ _
  · rfl

theorem State.timing_flushBefore (s : State) (r : RegionNo) (cycle : Nat) : (s.flushBefore r cycle).timing = s.timing := by
  unfold State.flushBefore
  split
  · split
    · exact s.timing_flushTarget r
    · rfl
  · rfl

theorem State.timing_flushMark (s : State) (r : RegionNo) : (s.flushMark r).timing = s.timing :=
  State.timing_of_keeps (Keeps.flushMark_keeps (List.Subset.refl _) (.refl s) r) (by decide) (by decide)

theorem State.timing_emitStretch (s : State) (r : RegionNo) (first v len : Nat) : (s.emitStretch r first v len).timing = s.timing := by
  unfold State.emitStretch
  split
  · exact State.timing_raise _ _ _
  · exact (State.timing_emit _ _ _ _ _ _).trans (State.timing_flushTarget _ _)

theorem State.timing_closeRun (s : State) (r : RegionNo) : (s.closeRun r).timing = s.timing := by
  unfold State.closeRun
  dsimp only
  split
  · exact (State.timing_flushMark _ _).trans (State.timing_emitStretch _ _ _ _ _)
  · rfl

theorem State.timing_closeWide (s : State) (r : RegionNo) (next : Nat) : (s.closeWide r next).timing = s.timing := by
  unfold State.closeWide
  dsimp only
  split
  · split
    · exact (State.timing_flushMark _ _).trans ((State.timing_emit _ _ _ _ _ _).trans (State.timing_flushTarget _ _))
    · rfl
  · rfl

theorem State.timing_mark (s : State) (r : RegionNo) (kind aux cycle value : Nat) : (s.mark r kind aux cycle value).timing = s.timing :=
  (State.timing_emit _ _ _ _ _ _).trans ((State.timing_flushBefore _ _ _).trans ((State.timing_closeWide _ _ _).trans (s.timing_closeRun r)))

/-! ### The ring -/

theorem State.timing_lossNoted (s : State) (r : RegionNo) : (s.lossNoted r).timing = s.timing :=
  State.timing_foldl (fun t i => State.timing_of_keeps (Keeps.sendMsg_keeps (List.Subset.refl _) (.refl t) r (.capture i)) (by decide) (by decide)) _ _

theorem State.timing_ringWrite (x : LRec) (n : Nat) (s : State) : (State.ringWrite x n s).timing = s.timing := by
  induction n generalizing s with
  | zero => rfl
  | succ n ih =>
    unfold State.ringWrite
    split
    · exact (ih _).trans (State.timing_lossNoted _ _)
    · rfl

theorem State.timing_basedBy (s : State) (x : LRec) : (s.basedBy x).timing = s.timing := by
  unfold State.basedBy
  split
  · refine State.timing_foldl ?_ _ s
    exact fun _ _ => rfl
  · rfl

theorem State.timing_record (s : State) (x : LRec) : (s.record x).timing = s.timing :=
  (State.timing_basedBy _ x).trans (State.timing_ringWrite x 1024 s)

/-! ### The edge -/

theorem State.timing_grantAsk (s : State) (a : Ask) : (s.grantAsk a).timing = s.timing := by
  unfold State.grantAsk
  split
  · rfl
  · exact State.timing_of_keeps (Keeps.fqDrain_keeps (List.Subset.refl _) (.refl s) _ _) (by decide) (by decide)
  · rfl
  · rfl
  · rfl
  · dsimp only
    split
    · exact State.timing_record _ _
    · rfl
    · rfl

theorem State.timing_oasisCycle (s : State) : s.oasisCycle.timing = s.timing := by
  unfold State.oasisCycle
  dsimp only
  split
  · rfl
  · exact State.timing_foldl State.timing_grantAsk _ _

theorem State.timing_bootDead (s : State) (r : RegionNo) : (s.bootDead r).timing = s.timing :=
  (State.timing_of_keeps (Keeps.fenceAll_keeps (List.Subset.refl _) (.refl _) _) (by decide) (by decide)).trans
    ((State.timing_raise _ _ _).trans (State.timing_mark _ _ _ _ _ _))

theorem State.timing_bootCompose (s : State) : s.bootCompose.timing = s.timing := by
  unfold State.bootCompose
  have hdead := State.timing_foldl State.timing_bootDead (s.bootRegions.filter fun r => !(s.rgn r).cal.bootDone) s
  generalize (s.bootRegions.filter fun r => !(s.rgn r).cal.bootDone).foldl State.bootDead s = u at *
  dsimp only
  split
  · exact (State.timing_raise _ _ _).trans hdead
  · split
    · exact (State.timing_raise _ _ _).trans hdead
    · refine Eq.trans ?_ hdead
      generalize hv : List.foldl _ _ (List.zipIdx _) = v
      have hslots : v.timing = u.timing := by
        rw [← hv]
        refine State.timing_foldl ?_ _ _
        exact fun _ _ => rfl
      exact hslots

theorem State.timing_releaseLogic (s : State) (sites : List Nat) : (s.releaseLogic sites).timing = s.timing :=
  State.timing_of_keeps (Keeps.releaseLogic_keeps (List.Subset.refl _) (.refl s) sites) (by decide) (by decide)

theorem State.timing_releaseTick (s : State) : s.releaseTick.timing = s.timing := by
  unfold State.releaseTick
  split
  · rfl
  · split
    · split
      · rfl
      · split
        · rfl
        · next g w _ _ _ _ _ =>
          have het := (Keeps.ungate_keeps (List.Subset.refl _) (.refl s) (s.releaseSites g)).only.same .et (by decide)
          exact (congrArg (fun e : Et => (s.sys.erg, e.slot, e.prevSlot)) het :)
    · split
      · rfl
      · dsimp only
        split
        · exact State.timing_releaseLogic s _
        · exact State.timing_releaseLogic s _

theorem State.timing_bootTick (s : State) : s.bootTick.timing = s.timing := by
  unfold State.bootTick
  split
  · rfl
  · split
    · split
      · exact s.timing_bootCompose
      · rfl
    · exact s.timing_releaseTick

/-- The edge's count. -/
def State.counted (s : State) : State := { s with sys := { s.sys with erg := (s.sys.erg + 1) % 2 ^ 64 } }

/-- What the edge does before boot's step. -/
def State.edge (s : State) : State := s.slotTurn.oasisCycle.postWaiting.heldEdge

theorem State.tick_eq {s : State} (h : s.sys.epoch = true) : s.tick = s.counted.edge.bootTick := if_pos h

theorem State.timing_tick {s : State} (h : s.sys.epoch = true) : s.tick.timing = s.counted.slotTurn.timing := by
  rw [State.tick_eq h, State.timing_bootTick]
  exact (State.timing_of_keeps (Keeps.heldEdge_keeps (List.Subset.refl _) (.refl _)) (by decide) (by decide)).trans
    ((State.timing_of_keeps (Keeps.postWaiting_keeps (List.Subset.refl _) (.refl _)) (by decide) (by decide)).trans (State.timing_oasisCycle _))

theorem step_of_empty {s : State} (h : s.pending = []) : step s = .next s.tick := by
  unfold step
  rw [h]

theorem State.tick_before_epoch {s : State} (h : s.sys.epoch = false) : s.tick = s := if_neg (by simp [h])

theorem State.slotTurn_at {s : State} (h : s.now % 256 = 0) : s.slotTurn = { s with et := { s.et with
    prevSlot := s.et.slot, slot := some ⟨BitVec.ofNat 64 (256 * (s.win + 1)), BitVec.ofNat 8 s.slotFlags⟩ } } := if_pos h

theorem State.slotTurn_between {s : State} (h : s.now % 256 ≠ 0) : s.slotTurn = s := if_neg h

theorem State.slotTurn_erg (s : State) : s.slotTurn.sys = s.sys := by
  unfold State.slotTurn
  split <;> rfl

/-- The count after an edge. -/
theorem step_counts {s : State} (hempty : s.pending = []) (h : s.sys.epoch = true) :
    ∃ t, step s = .next t ∧ t.sys.erg = (s.sys.erg + 1) % 2 ^ 64 ∧ t.pending = [] := by
  refine ⟨_, step_of_empty hempty, ?_, ?_⟩
  · have herg := congrArg Prod.fst (State.timing_tick h)
    exact herg.trans (congrArg Sys.erg s.counted.slotTurn_erg)
  · exact ((Keeps.tick_keeps (List.Subset.refl _) (.refl s)).only.same .pending (by decide)).trans hempty

/-- A window boundary begins a slot, which carries the next boundary's count (R104). -/
theorem step_begins_slot {s : State} (hempty : s.pending = []) (h : s.sys.epoch = true) (hat : ((s.sys.erg + 1) % 2 ^ 64) % 256 = 0) :
    ∃ t, step s = .next t ∧ t.et.prevSlot = s.et.slot ∧
      ∃ flags, t.et.slot = some ⟨BitVec.ofNat 64 ((s.sys.erg + 1) % 2 ^ 64 + 256), flags⟩ := by
  have hnow : s.counted.now % 256 = 0 := hat
  have htiming := State.timing_tick h
  rw [State.slotTurn_at hnow] at htiming
  have hnext : 256 * (s.counted.win + 1) = (s.sys.erg + 1) % 2 ^ 64 + 256 := by
    have hwin : s.counted.win = (s.sys.erg + 1) % 2 ^ 64 / 256 := rfl
    omega
  obtain ⟨-, hslots⟩ := Prod.mk.inj htiming
  obtain ⟨hslot, hprev⟩ := Prod.mk.inj hslots
  refine ⟨_, step_of_empty hempty, hprev, BitVec.ofNat 8 s.counted.slotFlags, ?_⟩
  rw [← hnext]
  exact hslot

end Sys2Proof.Machine
end

section
/-! An Erg edge between slots, and the obligation on the empty queue (R37, R101, R104, R118, R194; log 1, 54). -/
namespace Sys2Proof.Machine
open Sys2Proof.Safety

/-! ### What the sides of a crossing hold -/

/-- What a region's crossings read of it: its lanes' partners, and what says whether it is clocked. -/
def Region.sides (g : Region) := (g.partner, g.chan.st, g.inReset, g.unpowered, g.cal.bootDone)

section Sides
variable {o s : State} (h : State.FieldKept Region.sides o s)
include h

theorem State.FieldKept.partner (r : RegionNo) (k : Nat) : (s.rgn r).partner k = (o.rgn r).partner k :=
  congrArg (fun x => x.1 k) (h.region r)

theorem State.FieldKept.clocked_sides (hdie : s.die = o.die) (hsys : s.sys = o.sys) (r : RegionNo) : s.clocked r = o.clocked r := by
  obtain ⟨-, hrest⟩ := Prod.mk.inj (h.region r)
  obtain ⟨hchan, hrest⟩ := Prod.mk.inj hrest
  obtain ⟨hreset, hrest⟩ := Prod.mk.inj hrest
  obtain ⟨hpower, hboot⟩ := Prod.mk.inj hrest
  simp only [State.clocked, State.bootGated, State.dieAt, hdie, hsys, hchan, hreset, hpower, hboot]

theorem State.FieldKept.xClocked_sides (hdie : s.die = o.die) (hsys : s.sys = o.sys) (hcfg : s.cfg = o.cfg) (id : Nat) :
    s.xClocked id = o.xClocked id := by
  have hclocked := funext (h.clocked_sides hdie hsys)
  have hend (r : RegionNo) (k : Nat) : s.linkEnd r k = o.linkEnd r k := by
    simp only [State.linkEnd, State.linksTo, h.partner, State.regionExists, State.dieAt, hdie] <;> rfl
  have hregions : s.xRegions id = o.xRegions id := by simp only [State.xRegions, hend, State.portRegion, hcfg]
  have hwindow : s.windowUp = o.windowUp := by simp only [State.windowUp, hsys, hclocked]
  unfold State.xClocked
  rw [hregions, hclocked, hwindow]

end Sides

/-! ### The arbiter's cycle with at most one request -/

/-- The state with the arbiter as it stands after a cycle that leaves no request over: no region sees backpressure. -/
def State.unpressed (s : State) (arb : Arbiter) : State :=
  { s with
    xg := { s.xg with arb := arb }
    reg := s.reg.foldl (fun m e => Map.put Region.reset m e.1 { e.2 with former := { e.2.former with pressed := false } }) [] }

theorem State.rgn_unpressed {s : State} (arb : Arbiter) (hwf : s.RegWf) (r : RegionNo) :
    (s.unpressed arb).rgn r = { s.rgn r with former := { (s.rgn r).former with pressed := false } } :=
  Map.get_rebuild (fun _ (g : Region) => { g with former := { g.former with pressed := false } }) (fun _ => rfl) hwf r

theorem State.unpressed_only (s : State) (arb : Arbiter) : Only [.reg, .xg] s (s.unpressed arb) :=
  ⟨fun g hg => by
    cases g with
    | reg => exact absurd (by simp) hg
    | xg => exact absurd (by simp) hg
    | _ => rfl⟩

theorem State.FieldKept.unpressed {o s : State} (h : State.FieldKept Region.sides o s) (arb : Arbiter) :
    State.FieldKept Region.sides o (s.unpressed arb) where
  region r := by
    rw [State.rgn_unpressed arb h.wf, ← h.region r]
    rfl
  wf := Map.foldl_put_wf (fun _ e hm => Map.put_wf e.1 _ hm) rfl

/-- The state once the number of accesses of a cycle is drawn (log 54). -/
def State.drawn (s : State) : State := { s with fresh := s.fresh + 1 }

theorem State.oasisCycle_quiet {s : State} (h : s.asks = []) : s.oasisCycle = s.unpressed { s.xg.arb with wait := [] } := by
  have horder : s.xg.arb.order s.asks = [] := by
    rw [h]
    rfl
  unfold State.oasisCycle
  dsimp only
  rw [horder]
  rfl

/-- A lone request is served, whatever number of accesses the cycle has (log 54). -/
theorem State.oasisCycle_one {s : State} {a : Ask} (h : s.asks = [a]) :
    s.oasisCycle = (s.drawn.grantAsk a).unpressed ⟨[], a.who⟩ := by
  have horder : s.xg.arb.order s.asks = [a] := by
    rw [h]
    rfl
  unfold State.oasisCycle State.draw
  dsimp only
  rw [horder, if_neg (by simp)]
  simp only [List.take_succ_cons, List.take_nil, List.drop_succ_cons, List.drop_nil]
  rfl

/-! ### The oldest entry of a record lane is taken -/

/-- The oldest entry of a region's record lane taken. -/
def State.taken (s : State) (r : RegionNo) : State := s.modRgn r fun g => { g with former := { g.former with lane := g.former.lane.drop 1 } }

theorem State.taken_wf {s : State} (r : RegionNo) (h : s.RegWf) : (s.taken r).RegWf := s.modRgn_wf r _ h

theorem State.rgn_taken {s : State} (r : RegionNo) (h : s.RegWf) :
    (s.taken r).rgn r = { s.rgn r with former := { (s.rgn r).former with lane := (s.rgn r).former.lane.drop 1 } } := s.rgn_modRgn r _ h

theorem State.rgn_taken_ne (s : State) {r q : RegionNo} (h : q ≠ r) : (s.taken r).rgn q = s.rgn q := s.rgn_modRgn_ne _ h

theorem State.FieldKept.taken {o s : State} (h : State.FieldKept Region.sides o s) (r : RegionNo) :
    State.FieldKept Region.sides o (s.taken r) := by
  refine h.modRgn r ?_
  exact fun _ => rfl

theorem State.grantAsk_record {s : State} {r : RegionNo} {x : LRec} {l : List LaneEntry} (h : (s.rgn r).former.lane = .record x :: l) :
    s.grantAsk ⟨0, r⟩ = (s.taken r).record x := by
  unfold State.grantAsk
  dsimp only
  rw [h]
  rfl

theorem State.grantAsk_summary {s : State} {r : RegionNo} {y : Summary} {l : List LaneEntry} (h : (s.rgn r).former.lane = .summary y :: l) :
    s.grantAsk ⟨3, r⟩ = (s.taken r).modRgn r fun g => { g with sum := some y, sumPrev := g.sum } := by
  unfold State.grantAsk
  dsimp only
  rw [h]
  rfl

theorem State.awaits_taken {s : State} (r : RegionNo) (h : s.RegWf) (q : RegionNo) (i : Nat) :
    ((s.taken r).rgn q).awaits i = (s.rgn q).awaits i := by
  rcases Decidable.em (q = r) with rfl | hq
  · rw [State.rgn_taken q h]
    rfl
  · rw [s.rgn_taken_ne hq]

theorem State.ringVictim_taken {s : State} (r : RegionNo) (h : s.RegWf) : (s.taken r).ringVictim = s.ringVictim := by
  unfold State.ringVictim
  simp only [State.awaits_taken r h]
  rfl

theorem State.ringWrite_free {s : State} (x : LRec) (n : Nat) (h : s.ringVictim = none) : State.ringWrite x (n + 1) s = s.ringPut x := by
  unfold State.ringWrite
  rw [h]

/-- A record that is no base and that takes no needed place is written into the ring. -/
theorem State.record_plain {s : State} {x : LRec} (hkind : x.kind ≠ kBase) (h : s.ringVictim = none) : s.record x = s.ringPut x := by
  unfold State.record
  rw [State.ringWrite_free x 1023 h]
  exact if_neg hkind

/-! ### The edge -/

theorem State.present_quiet {s : State} {id : Nat} (h : s.xState id = .whole → s.xClocked id = true ∧ (s.xing id).wait = none) :
    s.present id = s := by
  unfold State.present
  split
  · rfl
  · next hwhole =>
    obtain ⟨hclocked, hwait⟩ := h (not_not.1 hwhole)
    rw [if_pos hclocked, hwait]
    rfl

theorem State.heldEdge_quiet {s : State} (h : ∀ id ∈ heldOut, s.xState id = .whole → s.xClocked id = true ∧ (s.xing id).wait = none) :
    s.heldEdge = s :=
  List.foldlRecOn (motive := fun t : State => t = s) _ _ rfl fun t ht id hid => by
    rw [ht]
    exact State.present_quiet (h id hid)

theorem State.postWaiting_quiet {s : State} (h : ∀ (m : Fin 8) xs n late, (s.box m).wait ≠ some (.forecast xs n late)) : s.postWaiting = s :=
  List.foldlRecOn (motive := fun t : State => t = s) _ _ rfl fun t ht m _ => by
    rw [ht]
    split
    · next xs n late hw => exact absurd hw (h m xs n late)
    · rfl

theorem State.bootTick_between {s : State} (h : s.now % 256 ≠ 0) : s.bootTick = s := if_pos (.inl h)

/-- Between slots, with no post that waits and no held word, an edge is the arbiter's cycle alone. -/
theorem State.tick_between {s t : State} (hepoch : s.sys.epoch = true) (hat : ((s.sys.erg + 1) % 2 ^ 64) % 256 ≠ 0)
    (hcycle : s.counted.oasisCycle = t) (hkept : State.FieldKept Region.sides s.counted t) (hsys : t.sys = s.counted.sys)
    (hmbx : t.mbx = s.mbx) (hdie : t.die = s.die) (hcfg : t.cfg = s.cfg) (hx : t.xg.x = s.xg.x) (hlane : t.xg.lane = s.xg.lane)
    (hwait : ∀ (m : Fin 8) xs n late, (s.box m).wait ≠ some (.forecast xs n late))
    (hheld : ∀ id ∈ heldOut, s.xState id = .whole → s.xClocked id = true ∧ (s.xing id).wait = none) : s.tick = t := by
  have hnow : s.counted.now % 256 ≠ 0 := hat
  have hxing (id : Nat) : t.xing id = s.xing id := State.xing_congr hx id
  have hstate (id : Nat) : t.xState id = s.xState id :=
    State.xState_congr (s := s.counted) (t := t) hdie (congrArg Sys.epoch hsys) hcfg hlane hkept.partner (congrArg Xing.st (hxing id))
  have hclocked (id : Nat) : t.xClocked id = s.xClocked id := hkept.xClocked_sides hdie hsys hcfg id
  have hbox (m : Fin 8) : t.box m = s.box m := State.box_congr (congrArg Mbx.box hmbx) m
  have htnow : t.now % 256 ≠ 0 := by
    rw [show t.now = s.counted.now from congrArg Sys.erg hsys]
    exact hnow
  rw [State.tick_eq hepoch, State.edge, State.slotTurn_between hnow, hcycle,
    State.postWaiting_quiet (fun m xs n late => by rw [hbox]; exact hwait m xs n late),
    State.heldEdge_quiet (fun id hid => by rw [hstate, hclocked, hxing]; exact hheld id hid), State.bootTick_between htnow]

section Edge
variable {s : State} (hreg : Regular s) (hepoch : s.sys.epoch = true) (hat : ((s.sys.erg + 1) % 2 ^ 64) % 256 ≠ 0)
  (hwait : ∀ (m : Fin 8) xs n late, (s.box m).wait ≠ some (.forecast xs n late))
  (hheld : ∀ id ∈ heldOut, s.xState id = .whole → s.xClocked id = true ∧ (s.xing id).wait = none)
include hreg hepoch hat hwait hheld

/-- An edge on which nothing asks for Oasis. -/
theorem State.tick_quiet (h : s.asks = []) : s.tick = s.counted.unpressed { s.xg.arb with wait := [] } :=
  State.tick_between hepoch hat (State.oasisCycle_quiet (s := s.counted) h) ((State.FieldKept.refl (s := s.counted) hreg.regions).unpressed _)
    rfl rfl rfl rfl rfl rfl hwait hheld

/-- An edge on which a record lane's oldest entry, a record, is the one request. -/
theorem State.tick_record {r : RegionNo} {x : LRec} {l : List LaneEntry} (h : s.asks = [⟨0, r⟩])
    (hlane : (s.rgn r).former.lane = .record x :: l) (hkind : x.kind ≠ kBase) (hvictim : s.ringVictim = none) :
    s.tick = ((s.counted.drawn.taken r).ringPut x).unpressed ⟨[], r⟩ := by
  have hcycle := State.oasisCycle_one (s := s.counted) h
  rw [State.grantAsk_record (s := s.counted.drawn) hlane,
    State.record_plain hkind ((State.ringVictim_taken (s := s.counted.drawn) r hreg.regions).trans hvictim)] at hcycle
  refine State.tick_between hepoch hat hcycle (State.FieldKept.unpressed ?_ _) rfl rfl rfl rfl rfl rfl hwait hheld
  exact (((State.FieldKept.refl (s := s.counted) hreg.regions).of_reg (t := s.counted.drawn) rfl).taken r).of_reg rfl

/-- An edge on which a record lane's oldest entry, a summary, is the one request. -/
theorem State.tick_summary {r : RegionNo} {y : Summary} {l : List LaneEntry} (h : s.asks = [⟨3, r⟩])
    (hlane : (s.rgn r).former.lane = .summary y :: l) :
    s.tick = ((s.counted.drawn.taken r).modRgn r fun g =>
      { g with sum := some y, sumPrev := g.sum }).unpressed ⟨[], r⟩ := by
  have hcycle := State.oasisCycle_one (s := s.counted) h
  rw [State.grantAsk_summary (s := s.counted.drawn) hlane] at hcycle
  refine State.tick_between hepoch hat hcycle (State.FieldKept.unpressed ?_ _) rfl rfl rfl rfl rfl rfl hwait hheld
  refine State.FieldKept.modRgn (((State.FieldKept.refl (s := s.counted) hreg.regions).of_reg (t := s.counted.drawn) rfl).taken r) r ?_
  exact fun _ => rfl

end Edge

theorem State.counted_only (s : State) : Only [.sys] s s.counted :=
  ⟨fun g hg => by
    cases g with
    | sys => exact absurd (by simp) hg
    | _ => rfl⟩

theorem State.drawn_only (s : State) : Only [.fresh, .sys] s s.counted.drawn :=
  ⟨fun g hg => by
    cases g with
    | sys => exact absurd (by simp) hg
    | fresh => exact absurd (by simp) hg
    | _ => rfl⟩

theorem State.taken_only (s : State) (r : RegionNo) : Only [.reg] s (s.taken r) := (Keeps.modRgn_keeps (List.Subset.refl _) (.refl s) r _).only

theorem State.ringPut_only (s : State) (x : LRec) : Only [.et] s (s.ringPut x) :=
  ⟨fun g hg => by
    cases g with
    | et => exact absurd (by simp) hg
    | _ => rfl⟩

/-- Settles O2: an empty queue's step is the edge; between slots it is the arbiter's cycle, which serves a lone request. -/
theorem emptyQueueIsOneErgEdge : Obligations.EmptyQueueIsOneErgEdge := by
  unfold Obligations.EmptyQueueIsOneErgEdge
  refine ⟨?_, ?_, ?_, ?_⟩
  · intro s hempty hepoch
    rw [step_of_empty hempty, State.tick_before_epoch hepoch]
  · intro s hempty hepoch
    exact step_counts hempty hepoch
  · intro s hreg hempty hepoch hat hposts hheld
    have hwait (m : Fin 8) xs n late : (s.box m).wait ≠ some (.forecast xs n late) := fun hw => by
      have hm := hposts m
      rw [hw] at hm
      exact Bool.noConfusion hm
    have hdrawn : s.counted.drawn.RegWf := hreg.regions
    refine ⟨fun hasks => ?_, fun r x l hasks hlane hkind hvictim => ?_, fun r y l hasks hlane => ?_⟩
    · refine ⟨_, step_of_empty hempty, ?_⟩
      rw [State.tick_quiet hreg hepoch hat hwait hheld hasks]
      exact ⟨rfl, rfl, fun r => State.rgn_unpressed (s := s.counted) _ hreg.regions r,
        (s.counted_only.mono (by simp)).trans ((State.unpressed_only _ _).mono (by simp))⟩
    · refine ⟨_, step_of_empty hempty, ?_⟩
      rw [State.tick_record hreg hepoch hat hwait hheld hasks hlane hkind hvictim]
      have honly : Only [.fresh, .sys, .reg, .et, .xg] s (((s.counted.drawn.taken r).ringPut x).unpressed ⟨[], r⟩) :=
        (s.drawn_only.mono (by simp)).trans (((State.taken_only _ r).mono (by simp)).trans
          (((State.ringPut_only _ x).mono (by simp)).trans ((State.unpressed_only _ _).mono (by simp))))
      have hlanes (q : RegionNo) : (((((s.counted.drawn.taken r).ringPut x).unpressed ⟨[], r⟩).rgn q).former.lane) =
          ((s.counted.drawn.taken r).rgn q).former.lane := by
        rw [State.rgn_unpressed (s := (s.counted.drawn.taken r).ringPut x) _ (State.taken_wf r hdrawn)]
        rfl
      refine ⟨?_, Map.get_put_self none s.et.wptr (some x) (Map.wf_rising hreg.ring), rfl, fun k hk => Map.get_put_ne none s.et.ring (some x) hk, fun q hq => ?_, honly⟩
      · rw [hlanes, State.rgn_taken r hdrawn]
        exact congrArg (List.drop 1) hlane
      · rw [hlanes, State.rgn_taken_ne _ hq]
        rfl
    · refine ⟨_, step_of_empty hempty, ?_⟩
      rw [State.tick_summary hreg hepoch hat hwait hheld hasks hlane]
      have htaken := State.taken_wf r hdrawn
      have hself := State.rgn_taken r hdrawn
      have hne (q : RegionNo) (hq : q ≠ r) := State.rgn_taken_ne s.counted.drawn hq
      have honly := s.drawn_only.mono (hs := [.fresh, .sys, .reg, .xg]) (by simp) |>.trans ((State.taken_only _ r).mono (by simp))
      generalize s.counted.drawn.taken r = u at *
      have hread := u.rgn_modRgn r (fun g => { g with sum := some y, sumPrev := g.sum }) htaken
      have hsum := (Keeps.modRgn_keeps (List.Subset.refl [Group.reg]) (.refl u) r fun g => { g with sum := some y, sumPrev := g.sum }).only
      have hwf := u.modRgn_wf r (fun g => { g with sum := some y, sumPrev := g.sum }) htaken
      refine ⟨?_, ?_, ?_, fun q hq => ?_, (honly.trans (hsum.mono (by simp))).trans ((State.unpressed_only _ _).mono (by simp))⟩
      · rw [State.rgn_unpressed _ hwf, hread, hself]
        exact congrArg (List.drop 1) hlane
      · rw [State.rgn_unpressed _ hwf, hread]
      · rw [State.rgn_unpressed _ hwf, hread, hself]
        rfl
      · rw [State.rgn_unpressed _ hwf, u.rgn_modRgn_ne _ hq, hne q hq]
        rfl
  · intro s hempty hepoch hat
    exact step_begins_slot hempty hepoch hat

end Sys2Proof.Machine
end

section
/-! What reset leaves (R70, R96, R135, R163, R185, R217, R240, R268, R288, R397; log 4). -/
namespace Sys2Proof.Machine
open Sys2Proof.Safety

/-- The register table's reset values of a region's block (R70), each with its offset. -/
def regionResetWords : List (Nat × Nat) :=
  [(0x00, 0x00000107), (0x04, 0x00000200), (0x08, 0x000020F8), (0x0C, 0x8C5A3219), (0x10, 0x0C060301), (0x14, 0x00040210),
    (0x18, 0x00000020), (0x1C, 0x00C83202), (0x20, 0xFFFFFFFF), (0x24, 0xFFFFFFFF), (0x28, 0x00800000), (0x2C, 0x02EE0200), (0x30, 0), (0x34, 0)]

/-- At reset every region reads as the reset region, whatever its number. -/
theorem rgnWord_reset (r : RegionNo) (off : Nat) : State.reset.rgnWord r off = State.reset.rgnWord 0 off := rfl

theorem rgnWord_reset_zero : ∀ e ∈ regionResetWords, State.reset.rgnWord 0 e.1 = e.2 := by decide +kernel

theorem regionResetWords_offset : ∀ e ∈ regionResetWords, e.1 < 0x40 ∧ e.1 % 4 = 0 := by decide +kernel

/-- The block of a region of the package's own sites, read at reset. -/
theorem fabRead_reset_region {r : RegionNo} (hr : validRegion r = true) (hsite : siteOf r ≤ 16) {e : Nat × Nat} (he : e ∈ regionResetWords) :
    State.reset.fabRead (0x01000000 + r * 64 + e.1) = e.2 := by
  obtain ⟨hoff, h4⟩ := regionResetWords_offset e he
  have hexists : State.reset.regionExists r = true := by simp [State.regionExists, hr, hsite]
  unfold State.fabRead
  rw [regAt_rgn hr hoff h4]
  unfold State.regRead
  dsimp only
  rw [if_neg (by simp [hexists]), if_pos rfl, rgnWord_reset]
  exact rgnWord_reset_zero e he

/-- The reset values of the registers that stand once (Tables of the blocks), each with its address. -/
theorem fabRead_reset_global :
    ∀ e ∈ [(0x02000000, 0x00002004), (0x02000004, 0x01A00000), (0x02000008, 0x0000FF00), (0x02000024, 0x00007F7F),
      (0x03000000, 0x01000404), (0x04000000, 0x03E81003), (0x04000004, 0x0000180C), (0x04000008, 0x0000C004),
      (0x05000000, 0x0A640A03), (0x05000010, 0x000000FF), (0x06000000, 0x00000041), (0x07000000, 0x3C402003),
      (0x07000004, 0x1000003C), (0x08000000, 0x3C0F0003), (0x08000004, 0x6E69645F), (0x08000008, 0x02000120),
      (0x0800000C, 0x02BC03E8), (0x08000014, 0x80000000), (0x0800001C, 0x00000040), (0x09000000, 0x00000403),
      (0x0A000000, 0x067D0507), (0x0A000004, 0x03E807D0), (0x0A000008, 0x000003E8), (0x0A00000C, 0x00000200)],
    State.reset.fabRead e.1 = e.2 := by
  decide +kernel

theorem fabRead_reset_sites : ∀ i : Fin 23, State.reset.fabRead (0x04000104 + 32 * i.val) = 0x1B120900 := by decide +kernel

theorem fabRead_reset_synths : ∀ i : Fin 64,
    State.reset.fabRead (0x05000100 + 16 * i.val) = 0x71 ∧ State.reset.fabRead (0x0500010C + 16 * i.val) = 0x80 + i.val := by
  decide +kernel

theorem fabRead_reset_spares : ∀ i : Fin 8, State.reset.fabRead (0x0500050C + 16 * i.val) = 0 := by decide +kernel

theorem mailbox_reset (m : Fin 8) : State.reset.box m = {} := by
  revert m
  decide +kernel

theorem windowRead_reset_mailbox : ∀ m : Fin 8,
    State.reset.windowRead (0x1004 + 16 * m.val) = 0 ∧ State.reset.windowRead (0x1008 + 16 * m.val) = 3 := by
  decide +kernel

theorem handle_reset (i : Fin 32) : State.reset.handle i = {} := by
  revert i
  decide +kernel

theorem regular_reset : Regular State.reset := by
  constructor <;> decide +kernel

/-- Settles O3: every value is read off the reset state; a region's by its own block's address, whatever its number. -/
theorem resetValues : Obligations.ResetValues := by
  unfold Obligations.ResetValues
  refine ⟨fun r hr hsite e he => fabRead_reset_region hr hsite he, fabRead_reset_global, fabRead_reset_sites, fabRead_reset_synths,
    fabRead_reset_spares, by decide +kernel, by decide +kernel,
    fun m => ⟨mailbox_reset m, windowRead_reset_mailbox m⟩, handle_reset, rfl, rfl, rfl, rfl, rfl, rfl, regular_reset⟩

end Sys2Proof.Machine
end
